-- ==== Sys2Proof/Word.lean ====
section
/-! DEFINITION. The word types, the names of register fields and the sparse maps the state is made of. -/

namespace Sys2Proof

/-- A register word: registers are 32 bits wide (R4). -/
abbrev Word := BitVec 32
/-- A byte of a memory region. -/
abbrev Byte := BitVec 8

/-- A sparse map from numbers: pairs with rising keys. What a key that is not listed reads as is said by the reader. -/
abbrev AMap (α : Type) := List (Nat × α)

/-- A register field: the register's address (R13, R14), the field's lowest bit, its width and its Reset value (R10). -/
structure Fld where
  addr  : Nat
  lo    : Nat
  width : Nat
  rst   : Nat
deriving DecidableEq, Repr

/-- The key under which a field's value is held: a field is named by its register's address and its lowest bit. -/
def Fld.key (f : Fld) : Nat := f.addr * 32 + f.lo

/-- The access codes of R5. `w1cn` is a W1C counter of several bits that a write of 1 to its lowest bit clears whole, as
the tables say of each; a `w1c` field of several bits clears bit by bit. -/
inductive Access where
  | rw | ro | w1c | w1cn | w1s | wo | rwl
deriving DecidableEq, Repr

/-- A register: its address at index 0, the count and stride of each index, and its fields with their access codes. -/
structure RegDesc where
  base   : Nat
  dims   : List (Nat × Nat)
  fields : List (Fld × Access)
deriving DecidableEq, Repr

end Sys2Proof
end

