-- ==== Sys2Proof/Syntax.lean ====
section
/-! DEFINITION. The commands and events the device takes: one constructor of Instr per row of spec/opcode_table.json,
with the operands its rule gives it. An operand is what stands outside the device's own state: what a master writes, what a
frame or a sensor brings, how long a condition has lasted, what a decoder or a signature check found. -/

namespace Sys2Proof

/-- The paths on which commands reach the device (R356, R360), in stamping order. -/
inductive Port where
  | pcie | sas0 | sas1 | sata | sideband | fabric | internal
deriving DecidableEq, Repr

/-- The wake events that SYS_WAKE_CFG selects (02_modes_and_bringup.md). -/
inductive WakeSrc where
  | gpio (n : Nat)
  | smb
  | perst
deriving DecidableEq, Repr

/-- What the demodulator finds of one head's wedge (R121, R122): the SAM's place against the predicted one in cells (none: nowhere in the wedge
period), whether the parities check, the wedge number, the decoded track, the burst amplitude in 1/128 of nominal, the fine position against the
decoded track in 1/4,096 track before the RRO field, and the RRO field in 1/256 track; the counts of the stream's samples at the wedge's start and, as the SAM gives it, at its
end (R124, R173). -/
structure HeadWedge where
  sam      : Option Int
  parityOk : Bool
  wedge    : Nat
  track    : Nat
  burst    : Nat
  fine     : Int
  rro      : Int
  first    : Nat
  last     : Nat
deriving DecidableEq, Repr

/-- One wedge of an actuator: both heads' readings, and whether the wedge ends the track in transfer (R182). -/
structure WedgeObs where
  h1       : HeadWedge
  h2       : HeadWedge
  trackEnd : Bool
deriving DecidableEq, Repr

/-- What a training of a link finds (R174, R290): the lanes in lock within 2 ms as a mask, the skew of the logical lanes in blocks, the SEQs of the ECHOes, the round
trip of a TICK and the device's receive latency, and the SEQ echoes of the return frames in order, none for one that is bad or missing. -/
structure TrainObs where
  locks       : Nat
  skew        : Nat
  echoes      : List Nat
  roundTripPs : Nat
  latencyPs   : Nat
  seqs        : List (Option Nat)
deriving DecidableEq, Repr

/-- What a decoder gives of a sector (R192, R193): whether the syndrome is zero, and the information bytes as one number, low byte first. -/
structure Decoded where
  syndrome : Bool
  info     : Nat
deriving DecidableEq, Repr

/-- What a decode starts from (R190 to R192): the offset in bits of part 1 (none: erased) and of part 2 against the packing, the offset of each fragment after a resync
mark (none: erased), the erased runs of the codeword as first bit and length, and the iterations at most. -/
structure Reading where
  part1  : Option Int
  part2  : Int
  frags  : List (Option Int)
  erased : List (Nat × Nat)
  iters  : Nat
deriving DecidableEq, Repr

/-- One step of the adaptation (R186): whether the sample was flagged WG, the codeword's bit, and what least mean squares gives for gain, offset, asymmetry and
the 16 taps at a step size of 1, in the units of the seed entry. -/
structure Grad where
  wg     : Bool
  bit    : Nat
  gain   : Int
  offset : Int
  asym   : Int
  taps   : List Int
deriving DecidableEq, Repr

/-- What HCH's detectors give of a sector that a stream reads (R186 to R192), bit 0 of a number first: the 64 detected bits from 16 bits before SM1's prediction on; the 96
from 32 before SM2's prediction from the packing on; the 32 from 8 before each resync mark's prediction on; the equalized envelope of each bit of the
codeword in 1/256 of sample full scale; the runs of the codeword whose samples are missing; the steps of the adaptation; the timing loop's frequency offset in
0.001 %; the mean-square error; and what the decoder gives for the readings it is set to. -/
structure SectorObs where
  sm1     : Nat
  sm2     : Nat
  rs      : List Nat
  env     : List Nat
  lost    : List (Nat × Nat)
  lms     : List Grad
  freq    : Int
  mse     : Nat
  decodes : List (Reading × Decoded)
deriving DecidableEq, Repr

/-- One entry of the retry ladder (R194): a reread (of step 5, its four rereads averaged), or the other data sectors of the group in order and its parity sector (step 6). -/
inductive Reread where
  | pass (o : SectorObs)
  | group (others : List Decoded) (parity : Decoded)
deriving DecidableEq, Repr

/-- What a host command asks (R361, R366, R367, R378, R380): Identify and Get Log Page apart from the rest of administration (R50). LBAs count logical blocks of the namespace. -/
inductive HostOp where
  | read (lba n : Nat)
  | write (lba n : Nat) (fua : Bool)
  | append (zone n : Nat) (fua : Bool)
  | zoneReset (zone : Nat)
  | zoneFinish (zone : Nat)
  | zoneOpen (zone : Nat)
  | zoneClose (zone : Nat)
  | deallocate (lba n : Nat)
  | flush (broadcast : Bool)
  | format
  | sanitize
  | setWce (on : Bool)
  | selfTest (extended : Bool)
  | zoneReport
  | abort (queue tag : Nat)
  | identify
  | getLog
  | admin
deriving DecidableEq, Repr

/-- A host command as it arrives (R360): its port, I_T nexus or queue, its tag, its namespace, what it asks, the SCSI task
attributes of R362, ORDERED and HEAD OF QUEUE among them, and whether it is an NCQ command (R375). -/
structure HostCmd where
  port    : Port
  nexus   : Nat
  tag     : Nat
  ns      : Nat
  op      : HostOp
  ordered : Bool
  naca    : Bool
  ncq     : Bool
  head    : Bool := false
deriving DecidableEq, Repr

/-- A cluster as OCH detects it (R271, R273): its channel bits from the start of its address unit on, the first one lowest, as the wobble clock counts them, and the RF
envelope of each in 1/128 of the layer's nominal level. -/
structure ClusterRead where
  det : Nat
  env : List Nat
deriving DecidableEq, Repr

/-- Bits in error that a check of a word finds (R385, R387): the word's address (in DRAM or, where the table cache holds it, of the word cached),
1 correctable or 2 uncorrectable, the namespace and block of the write cache that it keeps there, if any (R393), whether the completion target of a command context still reads (R373), and the
data bits of the word in error, bit 0 the lowest of its first byte. -/
structure Upset where
  addr     : Nat
  cls      : Nat
  holds    : Option (Nat × Nat)
  targetOk : Bool
  mask     : Nat := 0
deriving DecidableEq, Repr

/-- A request at a target's arbiters (R417, R418): its master, for DMA its channel, its age in units of 10 ns, and whether it is a scrub. -/
structure ArbReq where
  master  : Nat
  channel : Nat
  age     : Nat
  scrub   : Bool
deriving DecidableEq, Repr

/-- A fabric frame (R425, R426): the fields of its header and its payload bytes. -/
structure Frame where
  dst     : Nat
  vc      : Nat
  src     : Nat
  type    : Nat
  hops    : Nat
  flags   : Nat
  tag     : Nat
  status  : Nat
  p1      : Nat
  p2      : Nat
  payload : List Nat
deriving DecidableEq, Repr

/-- What a host asks of a port's power, or a timer brings (R350): an NVMe power state, D0, D3hot, or a SAS or SATA power condition. -/
inductive PowerCond where
  | ps (n : Nat)
  | d0
  | d3hot
  | active
  | idleA
  | idleB
  | idleC
  | standbyY
  | standbyZ
deriving DecidableEq, Repr

/-- The commands, one constructor per row of the opcode table, in its order. -/
inductive Instr where
  /-- R5: A write to a register that has no row of its own, applied field by field under the access codes. -/
  | registerWrite (master addr size value : Nat)
  /-- R6: A write of 1 to a block's LOCK bit commits the lock of its RWL fields. -/
  | lockCommit (master addr value : Nat)
  /-- R16: One transfer by a master to a memory region, judged as a whole over every byte. -/
  | memoryAccess (master addr len : Nat) (write : Bool) (data : List Nat) (ups : List Upset)
  /-- R9: A read of the lower register of an R9 pair latches the upper part for the same master. -/
  | pairedRegisterReadLatch (master addr : Nat)
  /-- R22: A PCIe request TLP on BAR2 reaches internal address n as one access; errors give Completer Abort or a dropped write. -/
  | bar2Request (addr len : Nat) (write : Bool) (data : List Nat) (ups : List Upset)
  /-- R27: A read of SYS_IRQ_CLAIM returns the highest-priority offered source and marks it in service, or 0xFFFF. -/
  | irqClaim (ctx : Nat)
  /-- R28: A write of a source number to SYS_IRQ_DONE ends its service; it is offered again at once if still asserted. -/
  | irqDone (ctx src : Nat)
  /-- R30: A write to SYS_IRQ_ROUTE applies next cycle, or after DONE if the source is in service; EN 0 clears an event latch. -/
  | irqRouteWrite (src value : Nat)
  /-- R35: No XIN edge for 2 µs starts a clock-loss reset: flag set, all domains but AON and MRAM off. -/
  | xinLoss (gapNs : Nat)
  /-- R35: A PLL losing lock for more than 1 µs starts a clock-loss reset. -/
  | pllLossOfLock (pll unlockedNs : Nat)
  /-- R35: Once XIN has been valid for 10 ms after a clock loss, the boot ROM runs as after RESET_N release. -/
  | clockLossReboot (xinValidMs : Nat)
  /-- R36: Loss of PCIe REFCLK affects only host lanes 0-3 and a lane 7 replacing one of them. -/
  | pcieRefclkLoss (gapNs : Nat)
  /-- R37: At the end of each 16,777,216-cycle CALREF gate the XIN error is written to SYS_CLK_CALREF.PPM. -/
  | calrefGateEnd (ppm : Nat)
  /-- R59: The AON rails rise and everything but MRAM contents is reset. -/
  | powerOnReset
  /-- R507: RESET_N low for 10 µs starts a pin reset, deferred while RESCUE runs. -/
  | resetNAssert (lowNs : Nat)
  /-- R39: RESET_N rises with rails valid and PWR_OK high; fuses load, SMB straps are sampled and the PFAIL_N wait starts. -/
  | resetNRelease (straps : Nat)
  /-- R51: The later of RESET_N release and 100 ms of PFAIL_N high starts the boot ROM. -/
  | bootStart (pfailHighMs : Nat)
  /-- R48: The 60 s trial timer expires before SERVICE and performs a trial reset that rolls back. -/
  | trialTimerExpiry (elapsedMs : Nat)
  /-- R59: A write of SYS_SW_RESET with KEY 0x5A3C and DEV resets as a pin reset. -/
  | softwareReset (value : Nat)
  /-- R45: SYS_MODE_REQ.GO submits a target mode; it is taken, held one deep, or refused. -/
  | modeRequest (target : Nat)
  /-- R45: A held mode request is taken when the running transition or activation ends. -/
  | heldModeRequestTaken
  /-- R40: BRINGUP reaches SERVICE once all readiness conditions hold; the trial is cleared. -/
  | serviceEntry
  /-- R39: A QUIESCE request unloads the heads, sets the spindle curve, parks the disc and drops host links to low power. -/
  | quiesceEntry
  /-- R39: After spindle rest, checkpoint and seeds, every domain except AON goes off within 50 ms. -/
  | standbyDomainsOff
  /-- R39: An enabled wake event in STANDBY starts BRINGUP as a wake reset. -/
  | wakeEvent (src : WakeSrc)
  /-- R454: PFAIL_N low for 500 ns enters RESCUE and abandons pending requests, activations and resets. -/
  | pfailAssert (lowNs : Nat)
  /-- R39: PFAIL_N high for 100 ms after the rescue image is finalized starts BRINGUP. -/
  | rescueReturn (highMs : Nat)
  /-- R506: PWR_OK falling with RESET_N high stops MRAM writing and holds all but AON off. -/
  | pwrOkFall
  /-- R506: PWR_OK rising after a fall boots as after a pin reset once the sequencing bounds are met. -/
  | pwrOkRise
  /-- R39: Loss of the rails takes the device to OFF. -/
  | railsLost
  /-- R57: A BOOT_KEY_REVOKE write with KEY 0xC3 blows revocation fuses unless it would revoke the running or last key. -/
  | keyRevoke (value : Nat)
  /-- R57: The revocation fuse blow ends and BOOT_KEY_STAT.BUSY clears. -/
  | keyRevokeDone
  /-- R353: A firmware-download command opens or continues the single download session, or is refused. -/
  | firmwareDownload (path : Port) (offset : Nat) (data : List Nat)
  /-- R353: A commit verifies the staged slot, sets PREF and TRIAL, and closes the session. -/
  | firmwareCommit (path : Port) (activate : Bool)
  /-- R353: The download session closes after 60 s without a download command. -/
  | downloadSessionTimeout (idleMs : Nat)
  /-- R61: An activation command stops fetching on all ports or is refused with a result code. -/
  | firmwareActivate (path : Port)
  /-- R62: The last fetched command completes, the drain time is captured, and heads unload and disc parks. -/
  | activationDrainEnd (drainMs : Nat)
  /-- R61: Fetched commands not draining within DRAIN_MS refuse the activation and resume fetching. -/
  | activationDrainTimeout (drainMs : Nat)
  /-- R62: After the kind 4 checkpoint, the boot record is set to the new slot as a trial and the activation reset runs. -/
  | activationReset
  /-- R65: The XIN division ends: TMP_COUNT and PHASE advance, inputs are latched at cycle 0 and outputs apply. -/
  | tempoBoundary
  /-- R65: Once per second EVR writes TMP_COUNT and lifetime seconds to the persistent-map area. -/
  | tempoCountPersist
  /-- R68: A write of TMP_PHASE.K of 2 to 8 takes effect when PHASE returns to 0; other values are ignored with an event. -/
  | phaseKWrite (k : Nat)
  /-- R526: TMP_COUNT reaching AT while EN is 1 sets FIRED and clears EN. -/
  | alarmFire
  /-- R69: At cycle 1,200 of a service tempo the wedge input slots are latched. -/
  | wedgeLatch
  /-- R69: At cycle 3,200 the output slots go to the link transmit buffers and state commits if END was reached. -/
  | outputWrite
  /-- R89: At cycle 3,240 one outbound frame is sent on each stage link. -/
  | stageOutboundFrame (link : Nat)
  /-- R90: A return frame arrives from a power stage and feeds the input slots of the next tempo. -/
  | stageReturnFrame (link : Nat) (words : List Nat) (good late : Bool) (speed angle : Nat) (backward : Bool)
  /-- R92: Three consecutive missing or bad return frames declare a stage-link fault and drop write gate or optical write. -/
  | stageLinkFault (link : Nat)
  /-- R78: The NOP operation does nothing for one cycle. -/
  | hecelNop (e pred a c : Nat)
  /-- R78: CLR sets the accumulator to 0. -/
  | hecelClr (e pred a c : Nat)
  /-- R72: MAC adds A times coef[C] to the accumulator with saturation. -/
  | hecelMac (e pred a c : Nat)
  /-- R72: MSU subtracts A times coef[C] from the accumulator with saturation. -/
  | hecelMsu (e pred a c : Nat)
  /-- R78: LDA loads A times 2^30 into the accumulator. -/
  | hecelLda (e pred a c : Nat)
  /-- R73: ST writes the rounded accumulator to a state word, held until commit. -/
  | hecelSt (e pred a c : Nat)
  /-- R73: OUT writes the rounded accumulator to an output slot. -/
  | hecelOut (e pred a c : Nat)
  /-- R78: LIM clamps the accumulator between two coefficients and puts the difference in SATD. -/
  | hecelLim (e pred a c : Nat)
  /-- R528: TFETCH reads a DRAM table entry named by a descriptor coefficient into TBL. -/
  | hecelTfetch (e pred a c : Nat) (inTime : Bool)
  /-- R528: A late table entry returns and ends the TFETCH stall; an error response zeroes TBL and sets TF_ERR. -/
  | tfetchReturn (e cycles : Nat)
  /-- R78: SETF sets flag F from the sign of the accumulator. -/
  | hecelSetf (e pred a c : Nat)
  /-- R78: END commits state and stops the program until the next cycle 0. -/
  | hecelEnd (e pred a c : Nat)
  /-- R78: A reserved operation code runs as NOP and sets CE_STAT.BAD_OP. -/
  | hecelReservedOp (e op pred a c : Nat)
  /-- R82: A program not at END after cycle 3,199 is stopped, its state discarded and OVERRUN set. -/
  | programOverrun (e : Nat)
  /-- R81: An input slot's consecutive-miss counter reaching MISS_LIMIT sets CE_MISS and raises the input interrupt. -/
  | missLimitReached (e slot : Nat)
  /-- R83: An engine failure sets outputs to safe values, stops the engine and sets CE_FAULT. -/
  | engineFailure (e : Nat) (memoryError : Bool)
  /-- R85: A write of CE_SWAP.REQ requests a coefficient bank swap at a tempo boundary. -/
  | swapRequest (e cycle : Nat)
  /-- R86: A write to the inactive coefficient window completes at once or stalls across an imminent swap. -/
  | coefWindowWrite (e word value cycle : Nat)
  /-- R88: A monitor's timer reaching TIME trips it and its ACTION applies from the next output write. -/
  | followingErrorTrip (e m : Nat)
  /-- R97: A write of SPN_TARGET.RPM is accepted for the four speeds or ignored with an event. -/
  | spnTargetWrite (rpm : Nat)
  /-- R96: The effective target changing from 0 to a non-zero speed starts MEASURE. -/
  | spnStartCommand
  /-- R96: The effective target changing to 0 brakes or short-brakes the spindle. -/
  | spnStopCommand
  /-- R99: SPN_CTL.RESTART clears FAULT and ATTEMPTS and starts if the target is non-zero. -/
  | spnRestart
  /-- R101: After 800 floating tempos the catch-spin fit chooses ACCEL, BACKBRAKE or ALIGN. -/
  | spnMeasureEnd (backward : Bool) (speed angle : Nat)
  /-- R98: A backward rotor slowing below 1 % goes to ALIGN. -/
  | spnBackbrakeEnd
  /-- R103: ALIGN_MS elapsing starts the blind ramp. -/
  | spnAlignEnd
  /-- R103: The open-loop speed reaching SPN_HANDOVER.RPM enters HANDOVER. -/
  | spnRampEnd
  /-- R103: Observer agreement for CONV_TEMPOS tempos passes to ACCEL. -/
  | spnHandoverConverged
  /-- R98: The open-loop speed reaching 1.5 times handover without convergence short-brakes with START_FAIL. -/
  | spnHandoverFail
  /-- R98: Speed within 0.01 % for 100 ms enters RUN with speed lock. -/
  | spnRunEntry
  /-- R104: START_S elapsing in ACCEL brakes with TIMEOUT. -/
  | spnStartTimeout
  /-- R105: Wedge-end error within 100 ns on 400 wedges sets LOCK to 2. -/
  | phaseLock
  /-- R107: LOCK falling from 2 drops write gate, sets LOCK_LOST and raises the lock interrupt. -/
  | lockLost
  /-- R109: A declared rotor loss drops write gate and assist, floats phases and enters REACQ. -/
  | observerLoss
  /-- R110: Four agreeing back-EMF angles resume drive and return to ACCEL. -/
  | spnReacquired
  /-- R111: 20 ms without reacquisition retracts, short-brakes and sets a restart pending. -/
  | spnReacqTimeout
  /-- R115: Speed below SHORT_PCT during BRAKE switches to a short brake. -/
  | spnBrakeToShort
  /-- R116: Short-brake speed below 1 % for 1 s floats the phases and enters STOPPED or RESTART_WAIT. -/
  | spnStopped
  /-- R99: DELAY_MS elapsing in RESTART_WAIT starts MEASURE and increments ATTEMPTS. -/
  | spnRestartDelayEnd
  /-- R99: Lock held for HOLD_S clears ATTEMPTS. -/
  | spnAttemptsClear
  /-- R98: RETRACT_DONE with PFAIL_N high moves RETRACT to SHORT or FAULT. -/
  | spnRetractDone
  /-- R118: RETRACT_MS without RETRACT_DONE sets RETRACT_TMO and FAULT. -/
  | spnRetractTimeout
  /-- R114: A write of PLEVEL or a curve register re-evaluates the QUIESCE curve with turn-on hysteresis. -/
  | plevelWrite (level : Nat)
  /-- R126: A write of ACT_SEEK with GO submits a seek; it is held in LOADING or refused in parked states. -/
  | seekGo (a value : Nat)
  /-- R126: At cycle 0 of the next service tempo ACT takes the seek, heads and zone, or refuses a bad target. -/
  | seekTake (a : Nat)
  /-- R121: ACT completes demodulation of a wedge 1.500 µs after its end, or marks it missed. -/
  | wedgeDemodComplete (a : Nat) (w : WedgeObs)
  /-- R144: ACT_CTL.LOAD starts a head load when the spindle is in RUN, or is held. -/
  | actLoad (a : Nat)
  /-- R125: Four valid wedges of the acquisition head end LOADING with a seek to HOME or the held target. -/
  | actLoadAcquired (a : Nat)
  /-- R145: LOAD_TMO elapsing unloads with a retry on the next head or a fault pending. -/
  | actLoadTimeout (a : Nat)
  /-- R131: RD_N valid wedges within RD_THR enter FOLLOW. -/
  | actSettleDone (a : Nat)
  /-- R125: TMO_MS in SETTLE reseeks, and the third timeout unloads with a fault. -/
  | actSettleTimeout (a : Nat)
  /-- R125: MISS_RESEEK consecutive missed wedges enter RESEEK. -/
  | actReseekEntry (a : Nat)
  /-- R125: RESEEK_FAULT missed wedges in RESEEK unload with a fault pending. -/
  | actReseekFault (a : Nat)
  /-- R146: ACT_CTL.UNLOAD moves the heads to the ramp. -/
  | actUnload (a : Nat)
  /-- R146: Back-EMF below 2 mV for 10 ms counts the heads parked. -/
  | actParked (a : Nat)
  /-- R125: UNLOAD_TMO elapsing sets RETRACT_REQ and RETRACTED with a fault. -/
  | actUnloadTimeout (a : Nat)
  /-- R125: Return-frame retract, PFAIL_N or stage safe state moves the actuator to RETRACTED. -/
  | actRetracted (a : Nat)
  /-- R125: RETRACT_DONE with PFAIL_N high leaves RETRACTED for PARKED or FAULT. -/
  | actRetractDone (a : Nat)
  /-- R125: ACT_CTL.CLR leaves FAULT for PARKED and clears ATTEMPTS. -/
  | actClr (a : Nat)
  /-- R138: ACT_CTL.UNPAIR forces fallback cause 6 at the end of the current sector. -/
  | actUnpair (a : Nat)
  /-- R147: Spindle speed below MIN_PCT before parking sets RETRACT_REQ. -/
  | actLowSpeedRetract (a : Nat)
  /-- R141: A read of ACT_WUS_LOG_HI after LO removes the oldest log entry. -/
  | wusLogRead (a master : Nat)
  /-- R152: SETTLE tempos in PREBIAS move the head to ARMED with READY 1. -/
  | assistArmed (h : Nat)
  /-- R152: REQUAL tempos in HOLD without a hop return the head to ARMED. -/
  | assistHoldRequal (h : Nat)
  /-- R158: More than STORM hops within 1 s trip the head with cause 3. -/
  | hopStorm (h : Nat)
  /-- R161: A trip cause moves the head to TRIP with source 0. -/
  | assistTrip (h cause : Nat)
  /-- R161: ASX_HCTL.CLR leaves TRIP for READ and clears the contact back-off. -/
  | assistClr (h : Nat)
  /-- R165: ASX_HCTL.RETIRE_REQ sets RETIRE_PEND for the head. -/
  | retireReq (h : Nat)
  /-- R167: ASX_HCTL.RETIRE_DONE retires the head for life, or is ignored with an event. -/
  | retireDone (h : Nat)
  /-- R153: A write of FORCE_OFF 1 holds the source at 0 and drops READY hard. -/
  | forceOffWrite (h : Nat) (on : Bool)
  /-- R163: ASX_IOP0 is written once at factory calibration; later writes are ignored with an event. -/
  | iop0Write (h value : Nat)
  /-- R164: At the end of a write episode of 64 tempos or more the normalized current updates IOP_AVG. -/
  | agingUpdate (h : Nat)
  /-- R174: HLK trains a head link in BRINGUP, on RETRAIN or after a fault, within 5 ms. -/
  | headLinkTraining (l : Nat) (o : TrainObs)
  /-- R172: HLK sends CHDR, two CMD, RATE and CRC blocks each tempo from cycle 3,240. -/
  | headLinkCommandFrame (l p1 p2 : Nat)
  /-- R172: HLK sends a TICK so that the head chip applies the latest good frame at the boundary. -/
  | tickBlock (l ofs : Nat)
  /-- R173: The head chip's RHDR, STATUS, FAULTS and CRC frame is received for latching at cycle 0. -/
  | headLinkReturnFrame (l : Nat) (blocks : List Nat) (late : Bool)
  /-- R170: A head-link data block of ten samples arrives; a sequence break marks lost blocks. -/
  | receiveDataBlock (l p word : Nat)
  /-- R175: A bad active receive lane is replaced by the spare lane at the next boundary. -/
  | lanePromotion (l p : Nat)
  /-- R176: A bad lane with no spare sends the link to single-lane mode and clears PAIR_EN. -/
  | singleLaneMode (l p : Nat)
  /-- R177: A declared link fault drops write gate, trips heads with cause 4 and retrains. -/
  | headLinkFault (l : Nat) (pinLow : Bool)
  /-- R179: HLK_CC_REQ.GO sends one REQ to the head chip. -/
  | controlChannelReq (l value : Nat)
  /-- R179: A REPLY with the matching TAG sets DONE or ERROR and places read data. -/
  | controlChannelReply (l payload : Nat)
  /-- R179: No reply within 4 tempos sets TIMEOUT. -/
  | controlChannelTimeout (l : Nat)
  /-- R197: HCH encodes, packs and sends a sector that ZMG supplies, inserting parity in shingled zones. -/
  | sectorWrite (n lz p data pi : Nat) (more : Bool) (accAddr : Nat)
  /-- R193: A read sector is decoded in line from candidates A and B and accepted or failed. -/
  | sectorDecode (n zone idx : Nat) (more : Bool) (o : SectorObs)
  /-- R194: A sector failing in line runs the retry ladder on the same track within the revolution budget. -/
  | retryLadder (n : Nat) (rereads : List Reread)
  /-- R187: A stream taking a zone fetches its seed entry or cold defaults. -/
  | seedFetch (n zone rate idx : Nat)
  /-- R187: A stream leaving a zone with CONV writes its seed entry back valid. -/
  | seedWriteback (n : Nat)
  /-- R200: A stream fails and stream 4 is promoted into its role when AUTO is set. -/
  | streamFailure (n : Nat) (memoryError accReadable : Bool)
  /-- R184: HCH_TP_CTL.SAVE copies a stream's parity accumulator to the window. -/
  | paritySave (n : Nat)
  /-- R184: HCH_TP_CTL.LOAD copies the window and COUNT into the stream. -/
  | parityLoad (n : Nat)
  /-- R184: HCH_TP_CTL.CLEAR empties the stream's accumulator. -/
  | parityClear (n : Nat)
  /-- R184: An accumulator copy ends and BUSY clears. -/
  | parityCopyDone
  /-- R203: A write of ZMG_NS_CFG.PORTS attaches a namespace to ports, or is refused. -/
  | namespaceAttach (n ports : Nat)
  /-- R204: A namespace is created, formatted or deleted while no command to it is in flight. -/
  | namespaceCreate (n cfg phys0 : Nat) (format : Bool)
  /-- R208: A write to a zoned zone must start at the host write pointer in stamp order. -/
  | zoneWrite (stamp : Nat)
  /-- R208: A zone append takes its LBA from the host write pointer in stamp order. -/
  | zoneAppend (stamp : Nat)
  /-- R209: A zone reset zeroes both write pointers and frees the zone's parity and pending entries. -/
  | zoneReset (stamp : Nat)
  /-- R210: A zone finish sets the host write pointer to the zone end and writes the open parity. -/
  | zoneFinish (stamp : Nat)
  /-- R214: After a reacquired observer loss ZMG verifies recent sectors and rewrites from the last verified one. -/
  | lossRewriteRecovery (reads : List (List Decoded))
  /-- R215: After a power loss ZMG scans an opened zone to recover its write pointers and parity. -/
  | wpRecovery (z : Nat) (before reads : List Decoded) (accAddr head track : Nat)
  /-- R219: Dirty extent data is written to a new media-cache slot and the index moved. -/
  | mediaCacheDestage (n extent : Nat) (old : List Nat)
  /-- R220: A sequential stream from band start goes straight to a new band image. -/
  | directBandWrite (n band count phys : Nat)
  /-- R221: Cleaning merges a band's cached extents into a new band image and swaps it in. -/
  | bandCleaning (n band phys since home : Nat) (slots : List (Nat × Nat))
  /-- R222: Media-cache fill at CRIT stops destaging and raises interrupt line 3. -/
  | mediaCacheCrit (n : Nat)
  /-- R224: A partial 512e line is filled from its current location before it is written. -/
  | subsectorFill (n blk data : Nat) (failed : Bool)
  /-- R226: A grown defect is rewritten in place or remapped to a spare sector. -/
  | defectRemap (n zone idx spareZone spareIdx : Nat) (back : Decoded)
  /-- R227: A zone's sectors are copied to a spare physical zone and the descriptor swapped. -/
  | zoneRelocation (z phys data : Nat)
  /-- R228: A FAILED sector runs the extended ladder, track parity and optical copy recovery. -/
  | deepRecovery (n z p : Nat) (rereads : List Reread) (others : List Decoded) (parity : Decoded)
  /-- R228: A host read waiting HOST_MS for deep recovery fails unrecovered. -/
  | hostReadRecoveryTimeout (stamp waitedMs : Nat)
  /-- R230: ZMG reads the neighbour track for a WUS log entry with ATI set. -/
  | atiVerify (failed : List (Nat × Nat))
  /-- R231: The scan reads written sectors in natural gaps and acts on what it finds. -/
  | backgroundScan (zone : Nat) (results : List (Nat × Nat × Nat × Nat)) (whole last : Bool)
  /-- R233: A full checkpoint of the ZMG tables is written on period, journal fill or request. -/
  | zmgCheckpoint (elapsedMin : Nat) (shutdown : Bool)
  /-- R234: An uncorrectable table word rebuilds the table from checkpoint and journal. -/
  | tableRebuild (table : Nat) (ok : Bool)
  /-- R257: OSV_CMD MOUNT in IDLE starts SPINUP and a disc start command. -/
  | osvMount
  /-- R247: OSV_CMD SEEK starts a layer jump or track seek, or is held or refused. -/
  | osvSeek
  /-- R258: OSV_CMD PARK retracts the lens, turns the laser off, parks the sled and stops the disc. -/
  | osvPark
  /-- R241: OSV_CMD CLR leaves FAULT for IDLE. -/
  | osvClr
  /-- R235: The optical return frame of 16 servo sub-samples arrives and forms CE3's input slots. -/
  | servoFrame (blocks : List Nat) (tracks : Int) (late : Bool)
  /-- R236: Missing servo frames drop the optical permit at 3 and zero focus and laser at BLIND_T. -/
  | servoFramesMissing
  /-- R242: A focus zero crossing with enough SUM closes the focus loop. -/
  | sCurveCapture
  /-- R241: SWEEPS sweeps without capture enter FAULT. -/
  | sweepsExhausted
  /-- R243: FE within FE_SETTLE for 64 tempos passes to TRACK_PULL. -/
  | focusSettled
  /-- R243: TE within TE_PULL for 64 tempos and two good addresses enter FOLLOW. -/
  | trackPulled
  /-- R246: A layer jump kicks, counts crossings, brakes and closes focus on the target. -/
  | layerJump
  /-- R246: TMO elapsing in LJUMP enters RECOVER. -/
  | layerJumpTimeout
  /-- R249: At a seek's end two addresses confirm the target or start a correction. -/
  | trackSeekEnd
  /-- R245: Focus lost for LOSS_N tempos drops the permit hard and enters RECOVER. -/
  | focusLoss
  /-- R245: Tracking lost drops the permit hard and returns to TRACK_PULL. -/
  | trackingLoss
  /-- R241: Three failed local searches return to SEARCH or enter FAULT. -/
  | recoverSearchFail
  /-- R241: Lens at 0 for 20 tempos and sled at park enter IDLE with PARKED set. -/
  | parkingDone
  /-- R250: 256 wobbles within PHASE_TOL lock the wobble loop. -/
  | wobbleLock (errs : List Int)
  /-- R250: Loss of wobble lock drops the permit soft and sets WOBBLE. -/
  | wobbleUnlock (errs : List Int)
  /-- R251: A wobble address unit is decoded and judged good or bad. -/
  | addressUnitDecode (bits31 : Nat)
  /-- R253: After REQUAL good tempos the optical permit rises again. -/
  | opticalPermitRise
  /-- R240: At mount OSV fills the layer table from the calibration zone or calibrates cold. -/
  | layerTableFill (cold : Bool) (entries : List (List Nat))
  /-- R254: OSV setting the disc target non-zero starts MEASURE. -/
  | discStartCommand
  /-- R254: OSV setting the disc target to 0 brakes or short-brakes the disc. -/
  | discStopCommand
  /-- R254: A disc-spindle transition condition is met and the state changes. -/
  | discSpindleTransition
  /-- R255: A failed disc start sets a retry from a rotated vector or FAULT. -/
  | discStartFail
  /-- R254: 500 ms in RETRY_WAIT starts MEASURE again. -/
  | discRetryWaitEnd
  /-- R255: OSV_DSPIN.CLR leaves FAULT and clears ATTEMPTS. -/
  | discClr
  /-- R254: A write of OSV_DSPIN.TARGET sets the disc speed or is ignored with an event. -/
  | discTargetWrite (rpm : Nat)
  /-- R276: OCH_CMD READ queues a cluster read, accepted when every outer codeword decodes. -/
  | ochRead (o : Option ClusterRead)
  /-- R281: OCH_CMD WRITE queues a cluster write made only under the optical permit. -/
  | ochWrite (closed : Bool)
  /-- R285: OCH_CMD VERIFY reads back a cluster against the verify limits. -/
  | ochVerify (o : Option ClusterRead)
  /-- R280: OCH_CMD OPC runs power calibration in the next unwritten calibration unit. -/
  | ochOpc (r : Option (List (List Nat) × List (List Int)))
  /-- R281: OCH_CTL.ABORT ends queued commands and a write in progress as on a hard fall. -/
  | ochAbort
  /-- R277: A cluster failing in line runs rereads and row combining up to RETRIES. -/
  | clusterRetryLadder (reads : List ClusterRead)
  /-- R272: FLY_MAX uncovered missed markers set SYNC_LOST and search the whole frame. -/
  | syncLost
  /-- R282: A voided cluster's data is rewritten at the next free cluster and counted. -/
  | clusterVoid
  /-- R283: A sealed uncopied zone is copied to disc as clusters 0 to 4,095 in seal order. -/
  | zoneCopy (n : Nat) (sectors : List Decoded)
  /-- R284: After a copy's last cluster OCH writes a directory cluster. -/
  | directoryWrite
  /-- R285: Every copied cluster is read back and COPIED set when all pass. -/
  | copyVerify (obs : List ClusterRead)
  /-- R286: At mount OCH finds the next free cluster and the latest directory. -/
  | nextFreeSearch (reads : List ((Nat × Nat) × ClusterRead)) (dirs : List (Nat × Nat))
  /-- R286: At the first data write of a mount a changed layer table is recorded in the calibration zone. -/
  | calibrationRecordWrite
  /-- R287: A deep-recovery read locates the zone's copy and reads one cluster, pausing a copy. -/
  | opticalRecoveryRead (z i : Nat) (o : ClusterRead)
  /-- R288: A disc fails on voids, faults or a failed verified cluster, setting OCH_DISC.FAILED. -/
  | discFailure
  /-- R291: An optical link fault voids a write, aborts a read and retrains the link. -/
  | opticalLinkFault (pinLow : Bool)
  /-- R290: OLK trains the optical link on enable or RETRAIN. -/
  | opticalLinkTraining (o : TrainObs)
  /-- R305: A PUSH with CLASS 0 queues a NORMAL move after its checks. -/
  | movePushNormal (g value : Nat)
  /-- R313: A PUSH with CLASS 1 starts the homing sequence of an axis. -/
  | movePushHome (g value : Nat)
  /-- R305: A PUSH with CLASS 2 queues a relative TEST move at HOME_V. -/
  | movePushTest (g value : Nat)
  /-- R305: A PUSH with CLASS 3 queues a relative RECOVERY move away from asserted switches. -/
  | movePushRecovery (g value : Nat)
  /-- R304: A PUSH with REPLACE flushes the queue and replaces the running target. -/
  | movePushReplace (g value : Nat)
  /-- R305: An idle group takes a queued move at cycle 0 and restores RUN current. -/
  | moveTake (g : Nat)
  /-- R300: A move ends when the distance falls below a microstep, setting DONE if the queue is empty. -/
  | moveEnd (g : Nat)
  /-- R311: MOT_GRP_CTL.STOP stops the group at DEC and flushes its queue. -/
  | groupStop (g : Nat)
  /-- R311: An emergency stop halts the group at EMAX, flushes the queue and sets ESTOP. -/
  | emergencyStop (g : Nat)
  /-- R299: After DELAY at standstill the current ramps to HOLD over 200 tempos. -/
  | standstillHoldRamp (a : Nat)
  /-- R310: A switch input holding a new value for 64 samples changes its debounced state. -/
  | switchEdge (k : Nat) (level : Bool) (ago : Nat)
  /-- R310: More than 4 limit-switch transitions in 5 ms set CHATTER and stop the group. -/
  | switchChatter (k : Nat) (times : List Nat)
  /-- R313: A homing step's exit or failure condition advances HSTEP or fails the homing. -/
  | homingStepEnd (a : Nat)
  /-- R315: Stage 1 safe state, link fault or PFAIL_N stops all axes and clears HOMED. -/
  | motionDriveLost
  /-- R303: A write of VEL, ACC or LIM2 applies next tempo, with LIMIT_HELD where DEC cannot be lowered. -/
  | motionLimitWrite (a reg value : Nat)
  /-- R295: A high comparator after blanking ends a bridge's on phase. -/
  | chopOnEnd (b sinceNs : Nat)
  /-- R295: TOFF elapsing ends the off phase and starts an on phase. -/
  | chopOffEnd (b elapsedNs : Nat)
  /-- R317: With all 16 leaves present SEAL forms G_i and R_i. -/
  | groupFold (z : Nat)
  /-- R319: An uncorrectable context is rebuilt by rehashing, or the zone is made Read Only. -/
  | sealContextRebuild (z : Nat) (blocks : List Nat) (readable : Bool)
  /-- R323: An eligible zone is signed, logged, chain head updated and SEALED set. -/
  | sealZone (ok1 ok2 : Bool)
  /-- R325: A 96-byte proof request arrives by SECURITY PROTOCOL OUT or Security Send. -/
  | proofRequest (port : Port) (bytes : List Nat)
  /-- R325: OP 1 returns the seal entry's first sector for a SEQ. -/
  | getRecord (readable : Bool)
  /-- R326: OP 2 returns the current seal entry of a zone. -/
  | getZone (readable : Bool)
  /-- R325: OP 3 returns up to 256 records in ascending SEQ. -/
  | getChain (readable : Bool)
  /-- R325: OP 4 returns the proof path and record for one block. -/
  | getProof (blocks : List (Option Nat)) (readable : Bool)
  /-- R332: OP 5 returns a signed attestation report over the nonce. -/
  | attest (ok1 ok2 : Bool)
  /-- R325: OP 6 returns the public key and certificate. -/
  | getCert
  /-- R325: A proof receive with the TAG returns the response once ready. -/
  | proofReceive (port : Port) (tag alloc : Nat)
  /-- R325: A response unread for 60 s is released. -/
  | proofResponseExpiry (port : Port) (tag readyS : Nat)
  /-- R327: A write of SEAL_NS_RET is taken, or ignored when it lowers a sealed namespace. -/
  | retentionWrite (n value : Nat)
  /-- R328: SEAL_PROV GEN with KEY 0xB7 generates and programs the identity key once. -/
  | keyGenerate (value : Nat)
  /-- R328: Key generation ends and PROV reads 1. -/
  | keyGenerateDone
  /-- R331: SEAL_CERT_CTL.COMMIT makes the certificate read-only, or is ignored with an event. -/
  | certCommit
  /-- R328: At BRINGUP SEAL loads the key, derives the public key and runs its self-test. -/
  | sealSelftest (katOk ok1 ok2 : Bool)
  /-- R334: At BRINGUP SEAL selects the chain head from MRAM and the log. -/
  | chainHeadSelect
  /-- R337: After a seal the device asks up to two peers to witness it. -/
  | witnessRequest
  /-- R337: A peer's statement is checked and written to the log as a witness entry. -/
  | witnessStatement (peer seq : Nat) (stmt key : List Nat)
  /-- R337: No answer within TMO_MS resends, then records a failure after RETRIES. -/
  | witnessTimeout (peer seq elapsedMs : Nat)
  /-- R339: A lane failing loopback before training is replaced by lane 7. -/
  | hostLanePromotion (failed : List Nat)
  /-- R343: A PCIe link-down acts as a controller-level reset of HPC. -/
  | pcieLinkDown
  /-- R59: PERST_N low resets HPC and lanes 0-3 as a fundamental reset. -/
  | perstNAssert
  /-- R345: A new initiator's first command takes an I_T nexus, or gets TASK SET FULL. -/
  | nexusTake (cmd : HostCmd)
  /-- R345: A nexus idle for IDLE_S seconds is freed. -/
  | nexusIdleFree (port nexus idleS : Nat) (registered : Bool)
  /-- R346: The first NOTIFY (ENABLE SPINUP) releases the spindle and resumes the trial timer. -/
  | notifyEnableSpinup (port : Nat)
  /-- R350: A host power command or timer expiry updates a port's DEMAND and raises its interrupt. -/
  | powerDemandChange (port : Port) (cond : PowerCond)
  /-- R352: On QUIESCE entry each port enters its lowest enabled link power state. -/
  | linkLowPowerEntry (port : Port) (partialOk slumberOk : Bool) (idleNs : Nat)
  /-- R355: An SMBus packet to the device address is ACKed, held, served or NACKed by mode. -/
  | smbusPacket (addr : Nat) (bytes : List Nat) (pecOk : Bool)
  /-- R360: A command arriving on any source takes a context and a unique arrival stamp. -/
  | commandStamp (cmd : HostCmd)
  /-- R359: Up to 8 submission entries are fetched from one queue under host arbitration. -/
  | nvmeFetch (queue : Nat) (cmds : List HostCmd)
  /-- R357: A context whose ordering conditions are met takes an execution slot. -/
  | executionStart (stamp : Nat)
  /-- R364: Write data passes SEAL where needed and is accepted into the write cache. -/
  | writeAccept (stamp blk data : Nat) (guardOk : Bool)
  /-- R366: A write completes on acceptance or, under FUA or disabled cache, once on media. -/
  | writeComplete (stamp : Nat)
  /-- R363: A read is served from dirty cache blocks and media after conflicting writes are accepted. -/
  | hostRead (stamp : Nat) (media : List (Option Nat)) (guardOk : Bool)
  /-- R367: A flush completes when earlier writes of its namespace are on media, or reports a lost write. -/
  | flush (stamp : Nat)
  /-- R365: A host cache-enable command changes the namespace's CMD_WCE bit for later writes. -/
  | writeCacheEnableChange (stamp : Nat)
  /-- R368: Lost cached write data enters the lost-write list with its cause. -/
  | lostWriteEntry (ns blk cause : Nat)
  /-- R373: An uncorrectable context completes with internal error or is counted lost. -/
  | contextLost (stamp : Nat) (targetOk : Bool)
  /-- R375: An NVMe Abort aborts a command before its commit point or reports not aborted. -/
  | nvmeAbort (stamp : Nat)
  /-- R375: A SAS abort or reset task function aborts commands and completes with FUNCTION COMPLETE. -/
  | sasTaskManagement (port nexus tag fn ns target : Nat)
  /-- R375: A failed NCQ command aborts every other uncommitted NCQ tag of the port. -/
  | ncqFailureAbort
  /-- R376: CC.EN clear, SAS hard reset or COMRESET discards or stops that port's commands. -/
  | controllerLevelReset (port : Port)
  /-- R378: A self-test command starts a short or extended test, or is refused. -/
  | selfTestStart (stamp : Nat)
  /-- R379: A media command stamping suspends the self-test within 2 ms. -/
  | selfTestSuspend (pct : Nat)
  /-- R379: IDLE_MS with no media command resumes the self-test. -/
  | selfTestResume (idleMs : Nat)
  /-- R379: The self-test ends, logs its result and raises interrupt line 2. -/
  | selfTestEnd (result : Nat) (abortBy : Option Port)
  /-- R383: DRC trains the DDR5 interface or restores stored results after activation. -/
  | dramTraining (failed : List Nat) (swaps : List (List Nat))
  /-- R384: DRC runs ZQ calibration every 128 ms. -/
  | zqCalibration
  /-- R384: Every 32 ms DRC reads device temperatures and doubles or restores refresh. -/
  | dramTemperaturePoll (status : List Nat) (coolMs : Nat)
  /-- R391: A partial write is done as a read-modify-write with the outcomes of the word read. -/
  | partialWrite (addr : Nat) (data : List Nat) (ups : List Upset)
  /-- R392: The DRAM scrubber reads a line and writes back correctable words. -/
  | dramScrubRead (ups : List Upset) (raced : Bool)
  /-- R392: The SRAM scrubber reads a word and writes back correctable words. -/
  | sramScrubRead (ups : List Upset) (raced : Bool)
  /-- R392: A scrub pass ends, setting LATE if more than 10 % over time. -/
  | scrubPassEnd (dram : Bool) (tookMs ecsMax ecsDev : Nat)
  /-- R395: Correctable errors above CE_THR in an hour raise interrupt line 0. -/
  | ceThreshold
  /-- R396: MEM_FLIP_CTL.ARM arms a one-time check-bit corruption of the next write. -/
  | flipArm (value : Nat)
  /-- R397: A failing SRAM row is copied to a spare row and switched in. -/
  | sramRowPromotion (m : Nat) (column : Bool) (errors : Nat) (stuck : Bool)
  /-- R398: A DRAM row reaching THR correctable errors enters the repair list. -/
  | dramRepairCandidate (row errors : Nat) (stuck : Bool)
  /-- R398: In BRINGUP DRC applies hard or soft post-package repair to listed rows. -/
  | postPackageRepair (refused : List Nat)
  /-- R399: DMA_CTL.GO starts a channel's active block, or ends it at once with code 2. -/
  | dmaGo (c value : Nat)
  /-- R402: DMA_CTL.ABORT ends the block with code 4. -/
  | dmaAbort (c : Nat)
  /-- R399: A mover reads up to 1 KiB into staging and writes it out. -/
  | dmaBurst (c beats : Nat) (ups : List Upset)
  /-- R400: A higher-class ready channel pre-empts the lowest-class mover at the next beat. -/
  | dmaPreempt (c : Nat)
  /-- R402: A block ends with an end code, storing its CRC and setting DMA_IRQ. -/
  | dmaBlockEnd (c : Nat)
  /-- R404: A FIF_CFG write configures a stopped FIFO or stops a running one. -/
  | fifoCfgWrite (f value : Nat)
  /-- R407: A producer word with its mark is pushed, or ignored with OVERRUN when full. -/
  | fifoPush (f mark data : Nat)
  /-- R406: A consumer read pops a word, or returns 0 with UNDERRUN when empty. -/
  | fifoPop (f : Nat)
  /-- R408: FIF_CTL.FLUSH empties the FIFO and may start DROPPING. -/
  | fifoFlush (f : Nat)
  /-- R409: FIF_CTL.MARK frees words before the read pointer in mark mode. -/
  | fifoMark (f : Nat)
  /-- R409: FIF_CTL.REWIND returns the read pointer to the mark. -/
  | fifoRewind (f : Nat)
  /-- R413: A TCH_CTL.EN write enables the cache after INVALIDATE_ALL or starts disabling. -/
  | tchEnableWrite (en : Bool)
  /-- R414: Range operation 1 invalidates lines in range. -/
  | tchInvalidate (go : Bool) (n : Nat)
  /-- R414: Range operation 2 writes back dirty sub-blocks in range. -/
  | tchWriteback (go : Bool) (n : Nat)
  /-- R414: Range operation 3 writes back then invalidates lines in range. -/
  | tchWbInv (go : Bool) (n : Nat)
  /-- R414: Range operation 4 fills lines into the chosen ways, locked ones included. -/
  | tchPreload (go : Bool) (n : Nat) (ways : Nat)
  /-- R414: Range operation 5 invalidates every line and sets INV_DONE. -/
  | tchInvalidateAll (go : Bool) (n : Nat)
  /-- R414: Range operation 6 writes back and invalidates every line. -/
  | tchWbInvAll (go : Bool) (n : Nat)
  /-- R414: A range operation ends, clearing BUSY and raising interrupt line 0. -/
  | tchRangeDone
  /-- R415: A buffered evicted line is written to DRAM. -/
  | tchEvictionWrite (complete : Bool)
  /-- R419: A request waiting more than 4 µs is counted, recorded and raises ARB line 0. -/
  | arbWaitExceeded (t : Nat) (reqs : List ArbReq) (load : Option Nat)
  /-- R421: A failing fabric lane is replaced by lane 4. -/
  | fabLanePromotion (failed : List Nat) (badHeaders : Nat)
  /-- R422: A fabric port trains to block lock, exchanges INIT and comes up. -/
  | fabPortTraining (port : Nat) (complete : Bool)
  /-- R422: An INIT control block carrying node ID and credits is received. -/
  | initBlock (port node c0 c1 : Nat)
  /-- R427: Every ADV_MS or on a port change the node sends its own ADVERT. -/
  | advertOriginate (elapsedMs : Nat)
  /-- R428: A received ADVERT updates the routing entry and may be re-flooded. -/
  | advertFrame (port seq : Nat) (wire : List Nat)
  /-- R429: A route not refreshed for AGE advert periods is invalidated. -/
  | routeAgeOut (id : Nat)
  /-- R430: A frame for another node is forwarded, or dropped with a 7/03 answer. -/
  | frameForward (port seq : Nat) (wire : List Nat)
  /-- R434: An APPEND frame starts a fabric zone append. -/
  | appendFrame (port seq : Nat) (wire : List Nat)
  /-- R434: A DATA frame delivers further append data. -/
  | dataFrame (port seq : Nat) (wire : List Nat)
  /-- R434: DATA frames stopping for TMO_MS end the append with 7/04. -/
  | appendDataTimeout (src tag elapsedMs : Nat)
  /-- R435: A READ frame executes as a host read and returns response frames. -/
  | readFrame (port seq : Nat) (wire : List Nat)
  /-- R435: A COPY frame reads a zone up to its write pointer for the requester. -/
  | copyFrame (port seq : Nat) (wire : List Nat)
  /-- R337: A WITNESS frame is checked and served with a statement or refused. -/
  | witnessFrame (port seq : Nat) (wire : List Nat)
  /-- R436: A REG frame is executed by FAB as master 13 in order of receipt. -/
  | regFrame (port seq : Nat) (wire : List Nat) (ups : List Upset)
  /-- R438: A response frame ends an outstanding request, or is counted LATE. -/
  | fabricResponse (port seq : Nat) (wire : List Nat)
  /-- R431: A CREDIT block returns receive buffer credits for a VC. -/
  | creditBlock (port vc units : Nat)
  /-- R432: An ACK or NAK acknowledges frames or starts a replay. -/
  | ackBlock (port last : Nat) (nak : Bool)
  /-- R432: 20 µs without an ACK replays from the last acknowledged frame. -/
  | replayTimeout (port elapsedNs : Nat)
  /-- R432: 8 replays without progress take the port down and retrain. -/
  | fabLinkFault (port : Nat)
  /-- R437: Advancing FAB_RING_CTL.HEAD starts the new request descriptors. -/
  | ringHeadAdvance (head : Nat)
  /-- R438: TMO_MS without a response ends a request with 7/04 and may retry. -/
  | fabricRequestTimeout (tag elapsedMs : Nat)
  /-- R442: A PMU_DOM_CTL write requests domains on and off, refusing dependency violations. -/
  | domainCtlWrite (value : Nat)
  /-- R443: A switched-on domain comes up at reset values and reads on. -/
  | domainOnComplete (d : Nat)
  /-- R444: A deferred domain goes off in the first cycle no transfer touches it. -/
  | domainOff (d : Nat)
  /-- R444: Transfers still touching after DEFER_US refuse the power-down with cause 1. -/
  | domainDeferTimeout (d elapsedUs : Nat)
  /-- R450: PERIOD_S elapsing triggers a kind 1 checkpoint. -/
  | periodicCheckpoint (elapsedMs : Nat)
  /-- R450: PMU_CKPT_CTL.REQ triggers a kind 5 checkpoint, held until RESTORED. -/
  | checkpointRequest
  /-- R451: A checkpoint slot is written in order and committed. -/
  | checkpointWrite
  /-- R451: A checkpoint commits and any held trigger runs. -/
  | checkpointComplete
  /-- R455: RESCUE stops work, powers down domains and starts the critical-state save. -/
  | rescueSequence
  /-- R455: The RESCUE image is committed and every domain but AON goes off. -/
  | rescueFinalized (time10us : Nat)
  /-- R457: PWR_OK falling or a clock loss before COMMIT stops the save with RESULT 3. -/
  | rescueAbandoned
  /-- R459: In BRINGUP PMU selects the valid slot with highest SEQ. -/
  | checkpointRestore
  /-- R460: Firmware sets RESTORED after reading sections and forming lost-write candidates. -/
  | restored (onMedia : List (Nat × Nat)) (tags : List (Nat × List Decoded)) (layout : List Nat)
  /-- R462: Every 200,000th tempo of its divider increments lifetime seconds. -/
  | lifetimeSecondTick
  /-- R463: Every 200 tempos the wall time advances by 1 ms. -/
  | wallTimeTick
  /-- R465: A write of EVR_WALL_HI sets the wall time and records code 0x021. -/
  | timeSet (hi : Nat)
  /-- R471: EVR_PORT_CMD.GO stamps and stages a record from a posting port. -/
  | eventPost (p master value : Nat)
  /-- R523: A hardware block posts an event record with its code. -/
  | hardwareEventPost (code u : Nat) (payload : List Nat)
  /-- R470: A staged record is written to the ring when the write budget holds a token. -/
  | recordWrite
  /-- R472: A REPEAT post matching the newest record increments its REPEAT count. -/
  | repeatMerge
  /-- R470: A post finding the queue full is lost; a 0x6E0 record follows when the queue empties. -/
  | recordsLost
  /-- R468: At BRINGUP EVR scans the ring to continue SEQ. -/
  | ringScan
  /-- R477: A kind's interval elapsing sets its DUE bit. -/
  | calibrationDue (k : Nat)
  /-- R480: A kind due for a further interval sets OVERDUE and records 0x721. -/
  | calibrationOverdue (k : Nat)
  /-- R479: CAL_DONE.GO records a completed calibration and clears DUE. -/
  | calDone (value : Nat)
  /-- R481: SPR_CORE.RETIRE holds a core in reset and records its retirement. -/
  | coreRetire (mask : Nat)
  /-- R481: A write of SPR_CORE.SEL starts core 8 in the role of core n, or is refused. -/
  | core8Select (sel : Nat)
  /-- R481: Writing a USED bit of SPR_DISC promotes a spare disc for life. -/
  | spareDiscPromote (d : Nat)
  /-- R350: A host port's link trains and comes up, its demand becomes SERVICE at level 255 and its link interrupt is raised. -/
  | hostLinkUp (port : Port) (rate width : Nat)
  /-- R350: A SAS or SATA port's link goes down and the port's demand becomes NONE. -/
  | sasSataLinkDown (port : Port)
  /-- R350: PERST_N rises, ending the PCIe fundamental reset and, after D3cold, the STANDBY demand of the PCIe port. -/
  | perstNRelease
  /-- R345: An I_T nexus loss on a SAS port frees that nexus. -/
  | iTNexusLoss (port nexus : Nat)
  /-- R340: The host issues a function level reset to the PCIe function. -/
  | functionLevelReset
  /-- R37: CALREF stops being valid, so CALREF_OK falls, PPM holds and the time trim stops. -/
  | calrefLoss
  /-- R517: SMB_CLK held low for 25 to 35 ms is declared a clock-low timeout and counted in SMB_ERR.TIMEOUT. -/
  | smbusClockLowTimeout (lowMs : Nat)
  /-- R255: After 10 s in RUN the disc spindle's ATTEMPTS count clears. -/
  | discAttemptsClear
  /-- R206: An explicit open zone command puts a zone in Explicitly Opened (0x3) within the MAX_OPEN and MAX_ACTIVE limits. -/
  | zoneOpen (stamp : Nat)
  /-- R206: An explicit close zone command moves an opened zone to Closed (0x4). -/
  | zoneClose (stamp : Nat)
  /-- R518: JTAG_TRST_N low forces the TAP to Test-Logic-Reset at once, without TCK. -/
  | jtagTrstNAssert
deriving DecidableEq, Repr

end Sys2Proof
end

