-- ==== Sys2Proof/Decode.lean ====
section
/-! DEFINITION. The command that a word spells. The opcode table gives no row any bits: the device takes commands as register writes,
frames, samples and events, never as words of a program, so no word spells one. -/

namespace Sys2Proof

/-- The command that a word of nbits bits spells by the table's bits: none, since no row of the table gives bits. -/
def decodeTableWord (_nbits _w : Nat) : Option Instr := none

end Sys2Proof
end

