-- ==== Sys2Proof/Machine/Crc.lean ====
section
/-! DEFINITION. CRC-32C, which the spec names and does not give (PRESUMED, assumption 5): the reflected polynomial 0x82F63B78,
all ones first and complemented at the end. -/

namespace Sys2Proof.Machine

/-- One bit of the division. -/
def crcBit (c : Nat) : Nat := if c % 2 = 1 then (c / 2) ^^^ 0x82F63B78 else c / 2

/-- One byte of the division. Log entry 5 (PRESUMED). -/
def crcByte (c b : Nat) : Nat := crcBit (crcBit (crcBit (crcBit (crcBit (crcBit (crcBit (crcBit (c ^^^ (b % 256)))))))))

/-- The CRC-32C of a string of bytes. Log entry 5 (PRESUMED). -/
def crc32c (l : List Nat) : Nat := l.foldl crcByte 0xFFFFFFFF ^^^ 0xFFFFFFFF

/-- Bitwise exclusive or of a list of numbers. -/
def xorAll (l : List Nat) : Nat := l.foldl (· ^^^ ·) 0

end Sys2Proof.Machine
end

