-- ==== Sys2Proof/Machine/AMap.lean ====
section
/-! DEFINITION. Looking up, writing and removing an entry of a sparse map (Word.lean, AMap). -/

namespace Sys2Proof.AMap

variable {α : Type}

/-- The value listed under k. -/
def lookup (k : Nat) : AMap α → Option α
  | [] => none
  | (j, v) :: t => if k = j then some v else lookup k t

/-- The value listed under k, or d. -/
def getD (m : AMap α) (k : Nat) (d : α) : α := (lookup k m).getD d

/-- The map with v under k; rising keys stay rising. -/
def insert (k : Nat) (v : α) : AMap α → AMap α
  | [] => [(k, v)]
  | (j, w) :: t =>
    if k < j then (k, v) :: (j, w) :: t
    else if k = j then (k, v) :: t
    else (j, w) :: insert k v t

/-- The map without an entry under k. -/
def erase (k : Nat) : AMap α → AMap α
  | [] => []
  | (j, w) :: t => if k = j then erase k t else (j, w) :: erase k t

/-- The keys rise strictly from key to key. -/
def rising : AMap α → Bool
  | [] => true
  | [_] => true
  | (j, _) :: (k, v) :: t => decide (j < k) && rising ((k, v) :: t)

end Sys2Proof.AMap
end

