-- ==== Sys2Proof/Machine/Regs.lean ====
section
/-! DEFINITION. Every register of the spec's register tables: one constant per field (address, lowest bit, width, Reset
value; img, fuse and pin entries of R10 stand at 0 until they are loaded) and one descriptor per register with the
access code of each field (R5). Names are the manual's, REGISTER.FIELD; index arguments are in the manual's order. -/

namespace Sys2Proof.Reg

/-! SYS_PATH_CFG, offset 0x1000 (01_architecture.md) -/
def SYS_PATH_CFG.BAR2_EN : Fld := ⟨0x40001000, 0, 1, 1⟩
def SYS_PATH_CFG.FAB_EN : Fld := ⟨0x40001000, 1, 1, 1⟩
def SYS_PATH_CFG.JTAG_EN : Fld := ⟨0x40001000, 2, 1, 1⟩
def SYS_PATH_CFG.LOCK : Fld := ⟨0x40001000, 31, 1, 0⟩
def SYS_PATH_CFG.desc : RegDesc := ⟨0x40001000, [], [(SYS_PATH_CFG.BAR2_EN, .rwl), (SYS_PATH_CFG.FAB_EN, .rwl), (SYS_PATH_CFG.JTAG_EN, .rwl), (SYS_PATH_CFG.LOCK, .w1s)]⟩

/-! SYS_BUS_ERR_LO, offset 0x1004 (01_architecture.md) -/
def SYS_BUS_ERR_LO.ADDR_LO : Fld := ⟨0x40001004, 0, 32, 0⟩
def SYS_BUS_ERR_LO.desc : RegDesc := ⟨0x40001004, [], [(SYS_BUS_ERR_LO.ADDR_LO, .ro)]⟩

/-! SYS_BUS_ERR_HI, offset 0x1008 (01_architecture.md) -/
def SYS_BUS_ERR_HI.ADDR_HI : Fld := ⟨0x40001008, 0, 8, 0⟩
def SYS_BUS_ERR_HI.MASTER : Fld := ⟨0x40001008, 8, 5, 0⟩
def SYS_BUS_ERR_HI.WRITE : Fld := ⟨0x40001008, 13, 1, 0⟩
def SYS_BUS_ERR_HI.CAUSE : Fld := ⟨0x40001008, 14, 2, 0⟩
def SYS_BUS_ERR_HI.MORE : Fld := ⟨0x40001008, 30, 1, 0⟩
def SYS_BUS_ERR_HI.VALID : Fld := ⟨0x40001008, 31, 1, 0⟩
def SYS_BUS_ERR_HI.desc : RegDesc := ⟨0x40001008, [], [(SYS_BUS_ERR_HI.ADDR_HI, .ro), (SYS_BUS_ERR_HI.MASTER, .ro), (SYS_BUS_ERR_HI.WRITE, .ro), (SYS_BUS_ERR_HI.CAUSE, .ro), (SYS_BUS_ERR_HI.MORE, .w1c), (SYS_BUS_ERR_HI.VALID, .w1c)]⟩

/-! SYS_IRQ_ROUTE, offset 0x2000 (01_architecture.md) -/
def SYS_IRQ_ROUTE.EN (n : Nat) : Fld := ⟨0x40002000 + 4 * n, 0, 1, 0⟩
def SYS_IRQ_ROUTE.PRIO (n : Nat) : Fld := ⟨0x40002000 + 4 * n, 1, 3, 0⟩
def SYS_IRQ_ROUTE.CTX (n : Nat) : Fld := ⟨0x40002000 + 4 * n, 8, 4, 0⟩
def SYS_IRQ_ROUTE.desc : RegDesc := ⟨0x40002000, [(1056, 4)], [(SYS_IRQ_ROUTE.EN 0, .rw), (SYS_IRQ_ROUTE.PRIO 0, .rw), (SYS_IRQ_ROUTE.CTX 0, .rw)]⟩

/-! SYS_IRQ_PEND, offset 0x3100 (01_architecture.md) -/
def SYS_IRQ_PEND.PEND (k : Nat) : Fld := ⟨0x40003100 + 4 * k, 0, 32, 0⟩
def SYS_IRQ_PEND.desc : RegDesc := ⟨0x40003100, [(33, 4)], [(SYS_IRQ_PEND.PEND 0, .ro)]⟩

/-! SYS_IRQ_THR, offset 0x3200 (01_architecture.md) -/
def SYS_IRQ_THR.THR (c : Nat) : Fld := ⟨0x40003200 + 16 * c, 0, 3, 0⟩
def SYS_IRQ_THR.desc : RegDesc := ⟨0x40003200, [(10, 16)], [(SYS_IRQ_THR.THR 0, .rw)]⟩

/-! SYS_IRQ_CLAIM, offset 0x3204 (01_architecture.md) -/
def SYS_IRQ_CLAIM.SRC (c : Nat) : Fld := ⟨0x40003204 + 16 * c, 0, 16, 65535⟩
def SYS_IRQ_CLAIM.desc : RegDesc := ⟨0x40003204, [(10, 16)], [(SYS_IRQ_CLAIM.SRC 0, .ro)]⟩

/-! SYS_IRQ_DONE, offset 0x3208 (01_architecture.md) -/
def SYS_IRQ_DONE.SRC (c : Nat) : Fld := ⟨0x40003208 + 16 * c, 0, 16, 0⟩
def SYS_IRQ_DONE.desc : RegDesc := ⟨0x40003208, [(10, 16)], [(SYS_IRQ_DONE.SRC 0, .wo)]⟩

/-! SYS_CLK_STAT, offset 0x4000 (01_architecture.md) -/
def SYS_CLK_STAT.CPLL_LOCK : Fld := ⟨0x40004000, 0, 1, 0⟩
def SYS_CLK_STAT.DPLL_LOCK : Fld := ⟨0x40004000, 1, 1, 0⟩
def SYS_CLK_STAT.MPLL_LOCK : Fld := ⟨0x40004000, 2, 1, 0⟩
def SYS_CLK_STAT.REFCLK_OK : Fld := ⟨0x40004000, 3, 1, 0⟩
def SYS_CLK_STAT.CALREF_OK : Fld := ⟨0x40004000, 4, 1, 0⟩
def SYS_CLK_STAT.XIN_LOST : Fld := ⟨0x40004000, 8, 1, 0⟩
def SYS_CLK_STAT.PLL_LOST : Fld := ⟨0x40004000, 9, 1, 0⟩
def SYS_CLK_STAT.desc : RegDesc := ⟨0x40004000, [], [(SYS_CLK_STAT.CPLL_LOCK, .ro), (SYS_CLK_STAT.DPLL_LOCK, .ro), (SYS_CLK_STAT.MPLL_LOCK, .ro), (SYS_CLK_STAT.REFCLK_OK, .ro), (SYS_CLK_STAT.CALREF_OK, .ro), (SYS_CLK_STAT.XIN_LOST, .w1c), (SYS_CLK_STAT.PLL_LOST, .w1c)]⟩

/-! SYS_CLK_CALREF, offset 0x4004 (01_architecture.md) -/
def SYS_CLK_CALREF.PPM : Fld := ⟨0x40004004, 0, 16, 0⟩
def SYS_CLK_CALREF.GATES : Fld := ⟨0x40004004, 16, 15, 0⟩
def SYS_CLK_CALREF.FRESH : Fld := ⟨0x40004004, 31, 1, 0⟩
def SYS_CLK_CALREF.desc : RegDesc := ⟨0x40004004, [], [(SYS_CLK_CALREF.PPM, .ro), (SYS_CLK_CALREF.GATES, .ro), (SYS_CLK_CALREF.FRESH, .w1c)]⟩

/-! SYS_MODE, offset 0x0000 (02_modes_and_bringup.md) -/
def SYS_MODE.CUR : Fld := ⟨0x40000000, 0, 3, 2⟩
def SYS_MODE.PREV : Fld := ⟨0x40000000, 4, 3, 0⟩
def SYS_MODE.BUSY : Fld := ⟨0x40000000, 8, 1, 0⟩
def SYS_MODE.ACT : Fld := ⟨0x40000000, 9, 1, 0⟩
def SYS_MODE.STAGE : Fld := ⟨0x40000000, 12, 4, 0⟩
def SYS_MODE.MEDIA_FAULT : Fld := ⟨0x40000000, 16, 1, 0⟩
def SYS_MODE.desc : RegDesc := ⟨0x40000000, [], [(SYS_MODE.CUR, .ro), (SYS_MODE.PREV, .ro), (SYS_MODE.BUSY, .ro), (SYS_MODE.ACT, .ro), (SYS_MODE.STAGE, .ro), (SYS_MODE.MEDIA_FAULT, .ro)]⟩

/-! SYS_MODE_REQ, offset 0x0004 (02_modes_and_bringup.md) -/
def SYS_MODE_REQ.TARGET : Fld := ⟨0x40000004, 0, 3, 0⟩
def SYS_MODE_REQ.GO : Fld := ⟨0x40000004, 8, 1, 0⟩
def SYS_MODE_REQ.PEND : Fld := ⟨0x40000004, 9, 1, 0⟩
def SYS_MODE_REQ.REFUSED : Fld := ⟨0x40000004, 10, 1, 0⟩
def SYS_MODE_REQ.desc : RegDesc := ⟨0x40000004, [], [(SYS_MODE_REQ.TARGET, .rw), (SYS_MODE_REQ.GO, .w1s), (SYS_MODE_REQ.PEND, .ro), (SYS_MODE_REQ.REFUSED, .w1c)]⟩

/-! SYS_RESET_CAUSE, offset 0x0008 (02_modes_and_bringup.md) -/
def SYS_RESET_CAUSE.POR : Fld := ⟨0x40000008, 0, 1, 0⟩
def SYS_RESET_CAUSE.PIN : Fld := ⟨0x40000008, 1, 1, 0⟩
def SYS_RESET_CAUSE.SW : Fld := ⟨0x40000008, 2, 1, 0⟩
def SYS_RESET_CAUSE.CLK : Fld := ⟨0x40000008, 3, 1, 0⟩
def SYS_RESET_CAUSE.TRIAL : Fld := ⟨0x40000008, 4, 1, 0⟩
def SYS_RESET_CAUSE.RESCUE_RET : Fld := ⟨0x40000008, 5, 1, 0⟩
def SYS_RESET_CAUSE.WAKE : Fld := ⟨0x40000008, 6, 1, 0⟩
def SYS_RESET_CAUSE.ACTIVATE : Fld := ⟨0x40000008, 7, 1, 0⟩
def SYS_RESET_CAUSE.desc : RegDesc := ⟨0x40000008, [], [(SYS_RESET_CAUSE.POR, .w1c), (SYS_RESET_CAUSE.PIN, .w1c), (SYS_RESET_CAUSE.SW, .w1c), (SYS_RESET_CAUSE.CLK, .w1c), (SYS_RESET_CAUSE.TRIAL, .w1c), (SYS_RESET_CAUSE.RESCUE_RET, .w1c), (SYS_RESET_CAUSE.WAKE, .w1c), (SYS_RESET_CAUSE.ACTIVATE, .w1c)]⟩

/-! SYS_SW_RESET, offset 0x000c (02_modes_and_bringup.md) -/
def SYS_SW_RESET.KEY : Fld := ⟨0x4000000c, 0, 16, 0⟩
def SYS_SW_RESET.DEV : Fld := ⟨0x4000000c, 16, 1, 0⟩
def SYS_SW_RESET.desc : RegDesc := ⟨0x4000000c, [], [(SYS_SW_RESET.KEY, .wo), (SYS_SW_RESET.DEV, .wo)]⟩

/-! SYS_ACT_CFG, offset 0x0010 (02_modes_and_bringup.md) -/
def SYS_ACT_CFG.DRAIN_MS : Fld := ⟨0x40000010, 0, 16, 2000⟩
def SYS_ACT_CFG.desc : RegDesc := ⟨0x40000010, [], [(SYS_ACT_CFG.DRAIN_MS, .rw)]⟩

/-! SYS_ACT_STAT, offset 0x0014 (02_modes_and_bringup.md) -/
def SYS_ACT_STAT.RESULT : Fld := ⟨0x40000014, 0, 4, 0⟩
def SYS_ACT_STAT.DRAIN : Fld := ⟨0x40000014, 16, 16, 0⟩
def SYS_ACT_STAT.desc : RegDesc := ⟨0x40000014, [], [(SYS_ACT_STAT.RESULT, .ro), (SYS_ACT_STAT.DRAIN, .ro)]⟩

/-! SYS_WAKE_CFG, offset 0x0018 (02_modes_and_bringup.md) -/
def SYS_WAKE_CFG.GPIO : Fld := ⟨0x40000018, 0, 16, 0⟩
def SYS_WAKE_CFG.SMB : Fld := ⟨0x40000018, 16, 1, 1⟩
def SYS_WAKE_CFG.PERST : Fld := ⟨0x40000018, 17, 1, 1⟩
def SYS_WAKE_CFG.desc : RegDesc := ⟨0x40000018, [], [(SYS_WAKE_CFG.GPIO, .rw), (SYS_WAKE_CFG.SMB, .rw), (SYS_WAKE_CFG.PERST, .rw)]⟩

/-! BOOT_STAT, offset 0x0000 (02_modes_and_bringup.md) -/
def BOOT_STAT.SLOT : Fld := ⟨0x401e0000, 0, 1, 0⟩
def BOOT_STAT.TRIAL : Fld := ⟨0x401e0000, 1, 1, 0⟩
def BOOT_STAT.ROLLBACK : Fld := ⟨0x401e0000, 2, 1, 0⟩
def BOOT_STAT.FALLBACK : Fld := ⟨0x401e0000, 3, 1, 0⟩
def BOOT_STAT.NO_IMAGE : Fld := ⟨0x401e0000, 4, 1, 0⟩
def BOOT_STAT.KEY_SLOT : Fld := ⟨0x401e0000, 8, 2, 0⟩
def BOOT_STAT.desc : RegDesc := ⟨0x401e0000, [], [(BOOT_STAT.SLOT, .ro), (BOOT_STAT.TRIAL, .ro), (BOOT_STAT.ROLLBACK, .ro), (BOOT_STAT.FALLBACK, .ro), (BOOT_STAT.NO_IMAGE, .ro), (BOOT_STAT.KEY_SLOT, .ro)]⟩

/-! BOOT_IMG_GEN, offset 0x0004 (02_modes_and_bringup.md) -/
def BOOT_IMG_GEN.GEN : Fld := ⟨0x401e0004, 0, 32, 0⟩
def BOOT_IMG_GEN.desc : RegDesc := ⟨0x401e0004, [], [(BOOT_IMG_GEN.GEN, .ro)]⟩

/-! BOOT_KEY_STAT, offset 0x0008 (02_modes_and_bringup.md) -/
def BOOT_KEY_STAT.PROG : Fld := ⟨0x401e0008, 0, 4, 0⟩
def BOOT_KEY_STAT.REVOKED : Fld := ⟨0x401e0008, 4, 4, 0⟩
def BOOT_KEY_STAT.BUSY : Fld := ⟨0x401e0008, 8, 1, 0⟩
def BOOT_KEY_STAT.desc : RegDesc := ⟨0x401e0008, [], [(BOOT_KEY_STAT.PROG, .ro), (BOOT_KEY_STAT.REVOKED, .ro), (BOOT_KEY_STAT.BUSY, .ro)]⟩

/-! BOOT_KEY_REVOKE, offset 0x000c (02_modes_and_bringup.md) -/
def BOOT_KEY_REVOKE.SLOTS : Fld := ⟨0x401e000c, 0, 4, 0⟩
def BOOT_KEY_REVOKE.KEY : Fld := ⟨0x401e000c, 24, 8, 0⟩
def BOOT_KEY_REVOKE.desc : RegDesc := ⟨0x401e000c, [], [(BOOT_KEY_REVOKE.SLOTS, .wo), (BOOT_KEY_REVOKE.KEY, .wo)]⟩

/-! BOOT_SLOT_CTL, offset 0x0010 (02_modes_and_bringup.md) -/
def BOOT_SLOT_CTL.PREF : Fld := ⟨0x401e0010, 0, 1, 0⟩
def BOOT_SLOT_CTL.TRIAL : Fld := ⟨0x401e0010, 1, 1, 0⟩
def BOOT_SLOT_CTL.ARMED : Fld := ⟨0x401e0010, 2, 1, 0⟩
def BOOT_SLOT_CTL.TRIES : Fld := ⟨0x401e0010, 3, 2, 0⟩
def BOOT_SLOT_CTL.desc : RegDesc := ⟨0x401e0010, [], [(BOOT_SLOT_CTL.PREF, .rw), (BOOT_SLOT_CTL.TRIAL, .rw), (BOOT_SLOT_CTL.ARMED, .ro), (BOOT_SLOT_CTL.TRIES, .ro)]⟩

/-! TMP_COUNT_LO, offset 0x0000 (03_tempo_and_control_engines.md) -/
def TMP_COUNT_LO.COUNT : Fld := ⟨0x40020000, 0, 32, 0⟩
def TMP_COUNT_LO.desc : RegDesc := ⟨0x40020000, [], [(TMP_COUNT_LO.COUNT, .ro)]⟩

/-! TMP_COUNT_HI, offset 0x0004 (03_tempo_and_control_engines.md) -/
def TMP_COUNT_HI.COUNT : Fld := ⟨0x40020004, 0, 16, 0⟩
def TMP_COUNT_HI.desc : RegDesc := ⟨0x40020004, [], [(TMP_COUNT_HI.COUNT, .ro)]⟩

/-! TMP_PHASE, offset 0x0008 (03_tempo_and_control_engines.md) -/
def TMP_PHASE.K : Fld := ⟨0x40020008, 0, 4, 0⟩
def TMP_PHASE.PHASE : Fld := ⟨0x40020008, 4, 4, 0⟩
def TMP_PHASE.B_PHASE : Fld := ⟨0x40020008, 8, 4, 0⟩
def TMP_PHASE.desc : RegDesc := ⟨0x40020008, [], [(TMP_PHASE.K, .rw), (TMP_PHASE.PHASE, .ro), (TMP_PHASE.B_PHASE, .ro)]⟩

/-! TMP_ALARM_LO, offset 0x000c (03_tempo_and_control_engines.md) -/
def TMP_ALARM_LO.AT : Fld := ⟨0x4002000c, 0, 32, 0⟩
def TMP_ALARM_LO.desc : RegDesc := ⟨0x4002000c, [], [(TMP_ALARM_LO.AT, .rw)]⟩

/-! TMP_ALARM_HI, offset 0x0010 (03_tempo_and_control_engines.md) -/
def TMP_ALARM_HI.AT : Fld := ⟨0x40020010, 0, 16, 0⟩
def TMP_ALARM_HI.EN : Fld := ⟨0x40020010, 30, 1, 0⟩
def TMP_ALARM_HI.FIRED : Fld := ⟨0x40020010, 31, 1, 0⟩
def TMP_ALARM_HI.desc : RegDesc := ⟨0x40020010, [], [(TMP_ALARM_HI.AT, .rw), (TMP_ALARM_HI.EN, .rw), (TMP_ALARM_HI.FIRED, .w1c)]⟩

/-! CE_CTL, offset 0x0000 (03_tempo_and_control_engines.md) -/
def CE_CTL.RUN (e : Nat) : Fld := ⟨0x40030000 + 256 * e, 0, 1, 0⟩
def CE_CTL.desc : RegDesc := ⟨0x40030000, [(5, 256)], [(CE_CTL.RUN 0, .rw)]⟩

/-! CE_SWAP, offset 0x0004 (03_tempo_and_control_engines.md) -/
def CE_SWAP.REQ (e : Nat) : Fld := ⟨0x40030004 + 256 * e, 0, 1, 0⟩
def CE_SWAP.ACTIVE (e : Nat) : Fld := ⟨0x40030004 + 256 * e, 1, 1, 0⟩
def CE_SWAP.COUNT (e : Nat) : Fld := ⟨0x40030004 + 256 * e, 16, 16, 0⟩
def CE_SWAP.desc : RegDesc := ⟨0x40030004, [(5, 256)], [(CE_SWAP.REQ 0, .w1s), (CE_SWAP.ACTIVE 0, .ro), (CE_SWAP.COUNT 0, .ro)]⟩

/-! CE_STAT, offset 0x0008 (03_tempo_and_control_engines.md) -/
def CE_STAT.OVERRUN (e : Nat) : Fld := ⟨0x40030008 + 256 * e, 0, 1, 0⟩
def CE_STAT.ACC_SAT (e : Nat) : Fld := ⟨0x40030008 + 256 * e, 1, 1, 0⟩
def CE_STAT.BAD_PROG (e : Nat) : Fld := ⟨0x40030008 + 256 * e, 2, 1, 0⟩
def CE_STAT.BAD_OP (e : Nat) : Fld := ⟨0x40030008 + 256 * e, 3, 1, 0⟩
def CE_STAT.TF_ERR (e : Nat) : Fld := ⟨0x40030008 + 256 * e, 4, 1, 0⟩
def CE_STAT.LATE (e : Nat) : Fld := ⟨0x40030008 + 256 * e, 16, 16, 0⟩
def CE_STAT.desc : RegDesc := ⟨0x40030008, [(5, 256)], [(CE_STAT.OVERRUN 0, .w1c), (CE_STAT.ACC_SAT 0, .w1c), (CE_STAT.BAD_PROG 0, .ro), (CE_STAT.BAD_OP 0, .w1c), (CE_STAT.TF_ERR 0, .w1c), (CE_STAT.LATE 0, .w1cn)]⟩

/-! CE_CYCLES, offset 0x000c (03_tempo_and_control_engines.md) -/
def CE_CYCLES.LAST (e : Nat) : Fld := ⟨0x4003000c + 256 * e, 0, 12, 0⟩
def CE_CYCLES.MAX (e : Nat) : Fld := ⟨0x4003000c + 256 * e, 16, 12, 0⟩
def CE_CYCLES.desc : RegDesc := ⟨0x4003000c, [(5, 256)], [(CE_CYCLES.LAST 0, .ro), (CE_CYCLES.MAX 0, .w1cn)]⟩

/-! CE_MISS_LO, offset 0x0010 (03_tempo_and_control_engines.md) -/
def CE_MISS_LO.SLOT (e : Nat) : Fld := ⟨0x40030010 + 256 * e, 0, 32, 0⟩
def CE_MISS_LO.desc : RegDesc := ⟨0x40030010, [(5, 256)], [(CE_MISS_LO.SLOT 0, .w1c)]⟩

/-! CE_MISS_HI, offset 0x0014 (03_tempo_and_control_engines.md) -/
def CE_MISS_HI.SLOT (e : Nat) : Fld := ⟨0x40030014 + 256 * e, 0, 32, 0⟩
def CE_MISS_HI.desc : RegDesc := ⟨0x40030014, [(5, 256)], [(CE_MISS_HI.SLOT 0, .w1c)]⟩

/-! CE_FE_LIMIT, offset 0x0040 (03_tempo_and_control_engines.md) -/
def CE_FE_LIMIT.LIMIT (e m : Nat) : Fld := ⟨0x40030040 + 256 * e + 8 * m, 0, 31, 0⟩
def CE_FE_LIMIT.desc : RegDesc := ⟨0x40030040, [(5, 256), (16, 8)], [(CE_FE_LIMIT.LIMIT 0 0, .rw)]⟩

/-! CE_FE_CFG, offset 0x0044 (03_tempo_and_control_engines.md) -/
def CE_FE_CFG.SRC (e m : Nat) : Fld := ⟨0x40030044 + 256 * e + 8 * m, 0, 8, 0⟩
def CE_FE_CFG.TIME (e m : Nat) : Fld := ⟨0x40030044 + 256 * e + 8 * m, 8, 12, 0⟩
def CE_FE_CFG.ACTION (e m : Nat) : Fld := ⟨0x40030044 + 256 * e + 8 * m, 20, 2, 0⟩
def CE_FE_CFG.EN (e m : Nat) : Fld := ⟨0x40030044 + 256 * e + 8 * m, 22, 1, 0⟩
def CE_FE_CFG.TRIP (e m : Nat) : Fld := ⟨0x40030044 + 256 * e + 8 * m, 23, 1, 0⟩
def CE_FE_CFG.OUTS (e m : Nat) : Fld := ⟨0x40030044 + 256 * e + 8 * m, 24, 8, 0⟩
def CE_FE_CFG.desc : RegDesc := ⟨0x40030044, [(5, 256), (16, 8)], [(CE_FE_CFG.SRC 0 0, .rw), (CE_FE_CFG.TIME 0 0, .rw), (CE_FE_CFG.ACTION 0 0, .rw), (CE_FE_CFG.EN 0 0, .rw), (CE_FE_CFG.TRIP 0 0, .w1c), (CE_FE_CFG.OUTS 0 0, .rw)]⟩

/-! CE_SPARE, offset 0x0800 (03_tempo_and_control_engines.md) -/
def CE_SPARE.MODE : Fld := ⟨0x40030800, 0, 2, 1⟩
def CE_SPARE.SEL : Fld := ⟨0x40030800, 2, 3, 2⟩
def CE_SPARE.MISMATCH : Fld := ⟨0x40030800, 16, 16, 0⟩
def CE_SPARE.desc : RegDesc := ⟨0x40030800, [], [(CE_SPARE.MODE, .rw), (CE_SPARE.SEL, .rw), (CE_SPARE.MISMATCH, .w1cn)]⟩

/-! CE_FAULT, offset 0x0804 (03_tempo_and_control_engines.md) -/
def CE_FAULT.FAILED : Fld := ⟨0x40030804, 0, 5, 0⟩
def CE_FAULT.desc : RegDesc := ⟨0x40030804, [], [(CE_FAULT.FAILED, .w1c)]⟩

/-! STG_CTL, offset 0x0000 (03_tempo_and_control_engines.md) -/
def STG_CTL.EN (l : Nat) : Fld := ⟨0x400e0000 + 16 * l, 0, 1, 0⟩
def STG_CTL.SAFE_CLR (l : Nat) : Fld := ⟨0x400e0000 + 16 * l, 1, 1, 0⟩
def STG_CTL.desc : RegDesc := ⟨0x400e0000, [(2, 16)], [(STG_CTL.EN 0, .rw), (STG_CTL.SAFE_CLR 0, .rw)]⟩

/-! STG_STAT, offset 0x0004 (03_tempo_and_control_engines.md) -/
def STG_STAT.LINK_UP (l : Nat) : Fld := ⟨0x400e0004 + 16 * l, 0, 1, 0⟩
def STG_STAT.STAGE_SAFE (l : Nat) : Fld := ⟨0x400e0004 + 16 * l, 1, 1, 0⟩
def STG_STAT.FAULT (l : Nat) : Fld := ⟨0x400e0004 + 16 * l, 2, 1, 0⟩
def STG_STAT.MISS (l : Nat) : Fld := ⟨0x400e0004 + 16 * l, 8, 4, 0⟩
def STG_STAT.ERRORS (l : Nat) : Fld := ⟨0x400e0004 + 16 * l, 16, 16, 0⟩
def STG_STAT.desc : RegDesc := ⟨0x400e0004, [(2, 16)], [(STG_STAT.LINK_UP 0, .ro), (STG_STAT.STAGE_SAFE 0, .w1c), (STG_STAT.FAULT 0, .w1c), (STG_STAT.MISS 0, .ro), (STG_STAT.ERRORS 0, .w1cn)]⟩

/-! SPN_CTL, offset 0x0000 (04_disk_spindle.md) -/
def SPN_CTL.RUN : Fld := ⟨0x40040000, 0, 1, 0⟩
def SPN_CTL.CURVE : Fld := ⟨0x40040000, 1, 1, 0⟩
def SPN_CTL.AUTO_RESTART : Fld := ⟨0x40040000, 2, 1, 1⟩
def SPN_CTL.RESTART : Fld := ⟨0x40040000, 3, 1, 0⟩
def SPN_CTL.PLEVEL : Fld := ⟨0x40040000, 16, 8, 255⟩
def SPN_CTL.desc : RegDesc := ⟨0x40040000, [], [(SPN_CTL.RUN, .rw), (SPN_CTL.CURVE, .rw), (SPN_CTL.AUTO_RESTART, .rw), (SPN_CTL.RESTART, .w1s), (SPN_CTL.PLEVEL, .rw)]⟩

/-! SPN_TARGET, offset 0x0004 (04_disk_spindle.md) -/
def SPN_TARGET.RPM : Fld := ⟨0x40040004, 0, 16, 0⟩
def SPN_TARGET.desc : RegDesc := ⟨0x40040004, [], [(SPN_TARGET.RPM, .rw)]⟩

/-! SPN_STAT, offset 0x0008 (04_disk_spindle.md) -/
def SPN_STAT.STATE : Fld := ⟨0x40040008, 0, 4, 0⟩
def SPN_STAT.LOCK : Fld := ⟨0x40040008, 4, 2, 0⟩
def SPN_STAT.REVERSE : Fld := ⟨0x40040008, 6, 1, 0⟩
def SPN_STAT.ATTEMPTS : Fld := ⟨0x40040008, 8, 2, 0⟩
def SPN_STAT.RESTART_PEND : Fld := ⟨0x40040008, 10, 1, 0⟩
def SPN_STAT.NOT_READY : Fld := ⟨0x40040008, 11, 1, 1⟩
def SPN_STAT.desc : RegDesc := ⟨0x40040008, [], [(SPN_STAT.STATE, .ro), (SPN_STAT.LOCK, .ro), (SPN_STAT.REVERSE, .ro), (SPN_STAT.ATTEMPTS, .ro), (SPN_STAT.RESTART_PEND, .ro), (SPN_STAT.NOT_READY, .ro)]⟩

/-! SPN_SPEED, offset 0x000c (04_disk_spindle.md) -/
def SPN_SPEED.SPEED : Fld := ⟨0x4004000c, 0, 16, 0⟩
def SPN_SPEED.BACKWARD : Fld := ⟨0x4004000c, 16, 1, 0⟩
def SPN_SPEED.desc : RegDesc := ⟨0x4004000c, [], [(SPN_SPEED.SPEED, .ro), (SPN_SPEED.BACKWARD, .ro)]⟩

/-! SPN_PHERR, offset 0x0010 (04_disk_spindle.md) -/
def SPN_PHERR.ERR : Fld := ⟨0x40040010, 0, 16, 0⟩
def SPN_PHERR.PEAK : Fld := ⟨0x40040010, 16, 16, 0⟩
def SPN_PHERR.desc : RegDesc := ⟨0x40040010, [], [(SPN_PHERR.ERR, .ro), (SPN_PHERR.PEAK, .w1cn)]⟩

/-! SPN_MOTOR, offset 0x0014 (04_disk_spindle.md) -/
def SPN_MOTOR.POLE_PAIRS : Fld := ⟨0x40040014, 0, 4, 0⟩
def SPN_MOTOR.RES : Fld := ⟨0x40040014, 16, 16, 0⟩
def SPN_MOTOR.desc : RegDesc := ⟨0x40040014, [], [(SPN_MOTOR.POLE_PAIRS, .rw), (SPN_MOTOR.RES, .rw)]⟩

/-! SPN_MOTOR_L, offset 0x0018 (04_disk_spindle.md) -/
def SPN_MOTOR_L.IND : Fld := ⟨0x40040018, 0, 16, 0⟩
def SPN_MOTOR_L.desc : RegDesc := ⟨0x40040018, [], [(SPN_MOTOR_L.IND, .rw)]⟩

/-! SPN_START, offset 0x0020 (04_disk_spindle.md) -/
def SPN_START.ALIGN_MS : Fld := ⟨0x40040020, 0, 12, 200⟩
def SPN_START.ALIGN_I : Fld := ⟨0x40040020, 12, 8, 64⟩
def SPN_START.RAMP_ACC : Fld := ⟨0x40040020, 20, 12, 1000⟩
def SPN_START.desc : RegDesc := ⟨0x40040020, [], [(SPN_START.ALIGN_MS, .rw), (SPN_START.ALIGN_I, .rw), (SPN_START.RAMP_ACC, .rw)]⟩

/-! SPN_HANDOVER, offset 0x0024 (04_disk_spindle.md) -/
def SPN_HANDOVER.RPM : Fld := ⟨0x40040024, 0, 12, 600⟩
def SPN_HANDOVER.CONV_TEMPOS : Fld := ⟨0x40040024, 12, 12, 64⟩
def SPN_HANDOVER.desc : RegDesc := ⟨0x40040024, [], [(SPN_HANDOVER.RPM, .rw), (SPN_HANDOVER.CONV_TEMPOS, .rw)]⟩

/-! SPN_RAMP, offset 0x0028 (04_disk_spindle.md) -/
def SPN_RAMP.ACC : Fld := ⟨0x40040028, 0, 16, 800⟩
def SPN_RAMP.DEC : Fld := ⟨0x40040028, 16, 16, 600⟩
def SPN_RAMP.desc : RegDesc := ⟨0x40040028, [], [(SPN_RAMP.ACC, .rw), (SPN_RAMP.DEC, .rw)]⟩

/-! SPN_TIMEOUT, offset 0x002c (04_disk_spindle.md) -/
def SPN_TIMEOUT.START_S : Fld := ⟨0x4004002c, 0, 8, 20⟩
def SPN_TIMEOUT.RETRACT_MS : Fld := ⟨0x4004002c, 8, 10, 500⟩
def SPN_TIMEOUT.desc : RegDesc := ⟨0x4004002c, [], [(SPN_TIMEOUT.START_S, .rw), (SPN_TIMEOUT.RETRACT_MS, .rw)]⟩

/-! SPN_BRAKE, offset 0x0030 (04_disk_spindle.md) -/
def SPN_BRAKE.VMARGIN : Fld := ⟨0x40040030, 0, 12, 300⟩
def SPN_BRAKE.SHORT_PCT : Fld := ⟨0x40040030, 12, 8, 10⟩
def SPN_BRAKE.desc : RegDesc := ⟨0x40040030, [], [(SPN_BRAKE.VMARGIN, .rw), (SPN_BRAKE.SHORT_PCT, .rw)]⟩

/-! SPN_VMOT, offset 0x0034 (04_disk_spindle.md) -/
def SPN_VMOT.CEIL : Fld := ⟨0x40040034, 0, 16, 13200⟩
def SPN_VMOT.LAST : Fld := ⟨0x40040034, 16, 16, 0⟩
def SPN_VMOT.desc : RegDesc := ⟨0x40040034, [], [(SPN_VMOT.CEIL, .rw), (SPN_VMOT.LAST, .ro)]⟩

/-! SPN_ILIM, offset 0x0038 (04_disk_spindle.md) -/
def SPN_ILIM.LIMIT : Fld := ⟨0x40040038, 0, 16, 24576⟩
def SPN_ILIM.desc : RegDesc := ⟨0x40040038, [], [(SPN_ILIM.LIMIT, .rw)]⟩

/-! SPN_RESTART, offset 0x003c (04_disk_spindle.md) -/
def SPN_RESTART.DELAY_MS : Fld := ⟨0x4004003c, 0, 16, 2000⟩
def SPN_RESTART.HOLD_S : Fld := ⟨0x4004003c, 16, 8, 60⟩
def SPN_RESTART.desc : RegDesc := ⟨0x4004003c, [], [(SPN_RESTART.DELAY_MS, .rw), (SPN_RESTART.HOLD_S, .rw)]⟩

/-! SPN_CURVE, offset 0x0040 (04_disk_spindle.md) -/
def SPN_CURVE.LEVEL (i : Nat) : Fld := ⟨0x40040040 + 4 * i, 0, 8, 0⟩
def SPN_CURVE.RPM (i : Nat) : Fld := ⟨0x40040040 + 4 * i, 8, 14, 0⟩
def SPN_CURVE.desc : RegDesc := ⟨0x40040040, [(16, 4)], [(SPN_CURVE.LEVEL 0, .rw), (SPN_CURVE.RPM 0, .rw)]⟩

/-! SPN_CURVE_STAT, offset 0x0080 (04_disk_spindle.md) -/
def SPN_CURVE_STAT.HYST : Fld := ⟨0x40040080, 0, 8, 16⟩
def SPN_CURVE_STAT.ON_LEVEL : Fld := ⟨0x40040080, 8, 8, 0⟩
def SPN_CURVE_STAT.CUR_RPM : Fld := ⟨0x40040080, 16, 14, 0⟩
def SPN_CURVE_STAT.ON : Fld := ⟨0x40040080, 30, 1, 0⟩
def SPN_CURVE_STAT.BAD : Fld := ⟨0x40040080, 31, 1, 0⟩
def SPN_CURVE_STAT.desc : RegDesc := ⟨0x40040080, [], [(SPN_CURVE_STAT.HYST, .rw), (SPN_CURVE_STAT.ON_LEVEL, .ro), (SPN_CURVE_STAT.CUR_RPM, .ro), (SPN_CURVE_STAT.ON, .ro), (SPN_CURVE_STAT.BAD, .ro)]⟩

/-! SPN_FAULT, offset 0x0090 (04_disk_spindle.md) -/
def SPN_FAULT.LOSS : Fld := ⟨0x40040090, 0, 1, 0⟩
def SPN_FAULT.REACQ_FAIL : Fld := ⟨0x40040090, 1, 1, 0⟩
def SPN_FAULT.START_FAIL : Fld := ⟨0x40040090, 2, 1, 0⟩
def SPN_FAULT.TIMEOUT : Fld := ⟨0x40040090, 3, 1, 0⟩
def SPN_FAULT.OVERCURRENT : Fld := ⟨0x40040090, 4, 1, 0⟩
def SPN_FAULT.OVERTEMP : Fld := ⟨0x40040090, 5, 1, 0⟩
def SPN_FAULT.VMOT_OVER : Fld := ⟨0x40040090, 6, 1, 0⟩
def SPN_FAULT.VMOT_UNDER : Fld := ⟨0x40040090, 7, 1, 0⟩
def SPN_FAULT.DRIVER : Fld := ⟨0x40040090, 8, 1, 0⟩
def SPN_FAULT.LINK : Fld := ⟨0x40040090, 9, 1, 0⟩
def SPN_FAULT.LOCK_LOST : Fld := ⟨0x40040090, 10, 1, 0⟩
def SPN_FAULT.K_MISMATCH : Fld := ⟨0x40040090, 11, 1, 0⟩
def SPN_FAULT.RETRACT_TMO : Fld := ⟨0x40040090, 12, 1, 0⟩
def SPN_FAULT.FAULT : Fld := ⟨0x40040090, 16, 1, 0⟩
def SPN_FAULT.desc : RegDesc := ⟨0x40040090, [], [(SPN_FAULT.LOSS, .w1c), (SPN_FAULT.REACQ_FAIL, .w1c), (SPN_FAULT.START_FAIL, .w1c), (SPN_FAULT.TIMEOUT, .w1c), (SPN_FAULT.OVERCURRENT, .w1c), (SPN_FAULT.OVERTEMP, .w1c), (SPN_FAULT.VMOT_OVER, .w1c), (SPN_FAULT.VMOT_UNDER, .w1c), (SPN_FAULT.DRIVER, .w1c), (SPN_FAULT.LINK, .w1c), (SPN_FAULT.LOCK_LOST, .w1c), (SPN_FAULT.K_MISMATCH, .w1c), (SPN_FAULT.RETRACT_TMO, .w1c), (SPN_FAULT.FAULT, .ro)]⟩

/-! SPN_LOSS_CNT, offset 0x0094 (04_disk_spindle.md) -/
def SPN_LOSS_CNT.LOSSES : Fld := ⟨0x40040094, 0, 16, 0⟩
def SPN_LOSS_CNT.REACQ_OK : Fld := ⟨0x40040094, 16, 16, 0⟩
def SPN_LOSS_CNT.desc : RegDesc := ⟨0x40040094, [], [(SPN_LOSS_CNT.LOSSES, .ro), (SPN_LOSS_CNT.REACQ_OK, .ro)]⟩

/-! SPN_START_CNT, offset 0x0098 (04_disk_spindle.md) -/
def SPN_START_CNT.STARTS : Fld := ⟨0x40040098, 0, 16, 0⟩
def SPN_START_CNT.CATCHES : Fld := ⟨0x40040098, 16, 16, 0⟩
def SPN_START_CNT.desc : RegDesc := ⟨0x40040098, [], [(SPN_START_CNT.STARTS, .ro), (SPN_START_CNT.CATCHES, .ro)]⟩

/-! ACT_CTL, offset 0x0000 (05_dual_actuator_servo.md) -/
def ACT_CTL.LOAD (a : Nat) : Fld := ⟨0x40050000 + 256 * a, 0, 1, 0⟩
def ACT_CTL.UNLOAD (a : Nat) : Fld := ⟨0x40050000 + 256 * a, 1, 1, 0⟩
def ACT_CTL.CLR (a : Nat) : Fld := ⟨0x40050000 + 256 * a, 2, 1, 0⟩
def ACT_CTL.UNPAIR (a : Nat) : Fld := ⟨0x40050000 + 256 * a, 3, 1, 0⟩
def ACT_CTL.PAIR_EN (a : Nat) : Fld := ⟨0x40050000 + 256 * a, 8, 1, 1⟩
def ACT_CTL.desc : RegDesc := ⟨0x40050000, [(2, 256)], [(ACT_CTL.LOAD 0, .w1s), (ACT_CTL.UNLOAD 0, .w1s), (ACT_CTL.CLR 0, .w1s), (ACT_CTL.UNPAIR 0, .w1s), (ACT_CTL.PAIR_EN 0, .rw)]⟩

/-! ACT_STAT, offset 0x0004 (05_dual_actuator_servo.md) -/
def ACT_STAT.STATE (a : Nat) : Fld := ⟨0x40050004 + 256 * a, 0, 4, 0⟩
def ACT_STAT.LOADED (a : Nat) : Fld := ⟨0x40050004 + 256 * a, 4, 1, 0⟩
def ACT_STAT.PAIRED (a : Nat) : Fld := ⟨0x40050004 + 256 * a, 5, 1, 0⟩
def ACT_STAT.WR_OK (a : Nat) : Fld := ⟨0x40050004 + 256 * a, 6, 1, 0⟩
def ACT_STAT.PERMIT1 (a : Nat) : Fld := ⟨0x40050004 + 256 * a, 7, 1, 0⟩
def ACT_STAT.PERMIT2 (a : Nat) : Fld := ⟨0x40050004 + 256 * a, 8, 1, 0⟩
def ACT_STAT.CMD_PEND (a : Nat) : Fld := ⟨0x40050004 + 256 * a, 9, 1, 0⟩
def ACT_STAT.ATTEMPTS (a : Nat) : Fld := ⟨0x40050004 + 256 * a, 12, 2, 0⟩
def ACT_STAT.REFUSED (a : Nat) : Fld := ⟨0x40050004 + 256 * a, 16, 1, 0⟩
def ACT_STAT.BAD_TGT (a : Nat) : Fld := ⟨0x40050004 + 256 * a, 17, 1, 0⟩
def ACT_STAT.WUS_OVF (a : Nat) : Fld := ⟨0x40050004 + 256 * a, 18, 1, 0⟩
def ACT_STAT.desc : RegDesc := ⟨0x40050004, [(2, 256)], [(ACT_STAT.STATE 0, .ro), (ACT_STAT.LOADED 0, .ro), (ACT_STAT.PAIRED 0, .ro), (ACT_STAT.WR_OK 0, .ro), (ACT_STAT.PERMIT1 0, .ro), (ACT_STAT.PERMIT2 0, .ro), (ACT_STAT.CMD_PEND 0, .ro), (ACT_STAT.ATTEMPTS 0, .ro), (ACT_STAT.REFUSED 0, .w1c), (ACT_STAT.BAD_TGT 0, .w1c), (ACT_STAT.WUS_OVF 0, .w1c)]⟩

/-! ACT_SEEK, offset 0x0008 (05_dual_actuator_servo.md) -/
def ACT_SEEK.TRACK (a : Nat) : Fld := ⟨0x40050008 + 256 * a, 0, 22, 0⟩
def ACT_SEEK.WRITE (a : Nat) : Fld := ⟨0x40050008 + 256 * a, 24, 1, 0⟩
def ACT_SEEK.SHINGLED (a : Nat) : Fld := ⟨0x40050008 + 256 * a, 25, 1, 0⟩
def ACT_SEEK.DIR (a : Nat) : Fld := ⟨0x40050008 + 256 * a, 26, 1, 0⟩
def ACT_SEEK.GO (a : Nat) : Fld := ⟨0x40050008 + 256 * a, 31, 1, 0⟩
def ACT_SEEK.desc : RegDesc := ⟨0x40050008, [(2, 256)], [(ACT_SEEK.TRACK 0, .rw), (ACT_SEEK.WRITE 0, .rw), (ACT_SEEK.SHINGLED 0, .rw), (ACT_SEEK.DIR 0, .rw), (ACT_SEEK.GO 0, .w1s)]⟩

/-! ACT_HEADS, offset 0x000c (05_dual_actuator_servo.md) -/
def ACT_HEADS.HEAD1 (a : Nat) : Fld := ⟨0x4005000c + 256 * a, 0, 5, 0⟩
def ACT_HEADS.HEAD2 (a : Nat) : Fld := ⟨0x4005000c + 256 * a, 8, 5, 31⟩
def ACT_HEADS.OFS1 (a : Nat) : Fld := ⟨0x4005000c + 256 * a, 16, 8, 0⟩
def ACT_HEADS.OFS2 (a : Nat) : Fld := ⟨0x4005000c + 256 * a, 24, 8, 0⟩
def ACT_HEADS.desc : RegDesc := ⟨0x4005000c, [(2, 256)], [(ACT_HEADS.HEAD1 0, .rw), (ACT_HEADS.HEAD2 0, .rw), (ACT_HEADS.OFS1 0, .rw), (ACT_HEADS.OFS2 0, .rw)]⟩

/-! ACT_ZONE, offset 0x0010 (05_dual_actuator_servo.md) -/
def ACT_ZONE.ZONE (a : Nat) : Fld := ⟨0x40050010 + 256 * a, 0, 20, 0⟩
def ACT_ZONE.desc : RegDesc := ⟨0x40050010, [(2, 256)], [(ACT_ZONE.ZONE 0, .rw)]⟩

/-! ACT_PES, offset 0x0014 (05_dual_actuator_servo.md) -/
def ACT_PES.PES1 (a : Nat) : Fld := ⟨0x40050014 + 256 * a, 0, 16, 0⟩
def ACT_PES.PES2 (a : Nat) : Fld := ⟨0x40050014 + 256 * a, 16, 16, 0⟩
def ACT_PES.desc : RegDesc := ⟨0x40050014, [(2, 256)], [(ACT_PES.PES1 0, .ro), (ACT_PES.PES2 0, .ro)]⟩

/-! ACT_WEDGE_TIME, offset 0x0018 (05_dual_actuator_servo.md) -/
def ACT_WEDGE_TIME.ERR (a : Nat) : Fld := ⟨0x40050018 + 256 * a, 0, 16, 0⟩
def ACT_WEDGE_TIME.WEDGE (a : Nat) : Fld := ⟨0x40050018 + 256 * a, 16, 9, 0⟩
def ACT_WEDGE_TIME.VALID (a : Nat) : Fld := ⟨0x40050018 + 256 * a, 31, 1, 0⟩
def ACT_WEDGE_TIME.desc : RegDesc := ⟨0x40050018, [(2, 256)], [(ACT_WEDGE_TIME.ERR 0, .ro), (ACT_WEDGE_TIME.WEDGE 0, .ro), (ACT_WEDGE_TIME.VALID 0, .ro)]⟩

/-! ACT_CNT, offset 0x001c (05_dual_actuator_servo.md) -/
def ACT_CNT.MISSED (a : Nat) : Fld := ⟨0x4005001c + 256 * a, 0, 16, 0⟩
def ACT_CNT.WUS (a : Nat) : Fld := ⟨0x4005001c + 256 * a, 16, 16, 0⟩
def ACT_CNT.desc : RegDesc := ⟨0x4005001c, [(2, 256)], [(ACT_CNT.MISSED 0, .ro), (ACT_CNT.WUS 0, .ro)]⟩

/-! ACT_DEMOD_CFG, offset 0x0020 (05_dual_actuator_servo.md) -/
def ACT_DEMOD_CFG.SAM_WIN (a : Nat) : Fld := ⟨0x40050020 + 256 * a, 0, 4, 8⟩
def ACT_DEMOD_CFG.RRO_EN (a : Nat) : Fld := ⟨0x40050020 + 256 * a, 4, 1, 1⟩
def ACT_DEMOD_CFG.QMIN (a : Nat) : Fld := ⟨0x40050020 + 256 * a, 8, 8, 64⟩
def ACT_DEMOD_CFG.MISS_RESEEK (a : Nat) : Fld := ⟨0x40050020 + 256 * a, 16, 4, 4⟩
def ACT_DEMOD_CFG.RESEEK_FAULT (a : Nat) : Fld := ⟨0x40050020 + 256 * a, 20, 12, 400⟩
def ACT_DEMOD_CFG.desc : RegDesc := ⟨0x40050020, [(2, 256)], [(ACT_DEMOD_CFG.SAM_WIN 0, .rw), (ACT_DEMOD_CFG.RRO_EN 0, .rw), (ACT_DEMOD_CFG.QMIN 0, .rw), (ACT_DEMOD_CFG.MISS_RESEEK 0, .rw), (ACT_DEMOD_CFG.RESEEK_FAULT 0, .rw)]⟩

/-! ACT_SETTLE, offset 0x0024 (05_dual_actuator_servo.md) -/
def ACT_SETTLE.RD_THR (a : Nat) : Fld := ⟨0x40050024 + 256 * a, 0, 8, 26⟩
def ACT_SETTLE.WR_THR (a : Nat) : Fld := ⟨0x40050024 + 256 * a, 8, 8, 15⟩
def ACT_SETTLE.RD_N (a : Nat) : Fld := ⟨0x40050024 + 256 * a, 16, 4, 3⟩
def ACT_SETTLE.WR_N (a : Nat) : Fld := ⟨0x40050024 + 256 * a, 20, 4, 6⟩
def ACT_SETTLE.TMO_MS (a : Nat) : Fld := ⟨0x40050024 + 256 * a, 24, 8, 20⟩
def ACT_SETTLE.desc : RegDesc := ⟨0x40050024, [(2, 256)], [(ACT_SETTLE.RD_THR 0, .rw), (ACT_SETTLE.WR_THR 0, .rw), (ACT_SETTLE.RD_N 0, .rw), (ACT_SETTLE.WR_N 0, .rw), (ACT_SETTLE.TMO_MS 0, .rw)]⟩

/-! ACT_WUS, offset 0x0028 (05_dual_actuator_servo.md) -/
def ACT_WUS.CONV (a : Nat) : Fld := ⟨0x40050028 + 256 * a, 0, 8, 31⟩
def ACT_WUS.TOWARD (a : Nat) : Fld := ⟨0x40050028 + 256 * a, 8, 8, 26⟩
def ACT_WUS.AWAY (a : Nat) : Fld := ⟨0x40050028 + 256 * a, 16, 8, 46⟩
def ACT_WUS.ATI (a : Nat) : Fld := ⟨0x40050028 + 256 * a, 24, 8, 51⟩
def ACT_WUS.desc : RegDesc := ⟨0x40050028, [(2, 256)], [(ACT_WUS.CONV 0, .rw), (ACT_WUS.TOWARD 0, .rw), (ACT_WUS.AWAY 0, .rw), (ACT_WUS.ATI 0, .rw)]⟩

/-! ACT_WUS2, offset 0x002c (05_dual_actuator_servo.md) -/
def ACT_WUS2.REQUAL (a : Nat) : Fld := ⟨0x4005002c + 256 * a, 0, 4, 3⟩
def ACT_WUS2.RUS (a : Nat) : Fld := ⟨0x4005002c + 256 * a, 8, 8, 64⟩
def ACT_WUS2.desc : RegDesc := ⟨0x4005002c, [(2, 256)], [(ACT_WUS2.REQUAL 0, .rw), (ACT_WUS2.RUS 0, .rw)]⟩

/-! ACT_PAIR_CFG, offset 0x0030 (05_dual_actuator_servo.md) -/
def ACT_PAIR_CFG.MARGIN_NM (a : Nat) : Fld := ⟨0x40050030 + 256 * a, 0, 8, 40⟩
def ACT_PAIR_CFG.DRIFT (a : Nat) : Fld := ⟨0x40050030 + 256 * a, 8, 8, 171⟩
def ACT_PAIR_CFG.HOLDOFF (a : Nat) : Fld := ⟨0x40050030 + 256 * a, 16, 8, 16⟩
def ACT_PAIR_CFG.SAT_N (a : Nat) : Fld := ⟨0x40050030 + 256 * a, 24, 4, 2⟩
def ACT_PAIR_CFG.desc : RegDesc := ⟨0x40050030, [(2, 256)], [(ACT_PAIR_CFG.MARGIN_NM 0, .rw), (ACT_PAIR_CFG.DRIFT 0, .rw), (ACT_PAIR_CFG.HOLDOFF 0, .rw), (ACT_PAIR_CFG.SAT_N 0, .rw)]⟩

/-! ACT_PAIR_STAT, offset 0x0034 (05_dual_actuator_servo.md) -/
def ACT_PAIR_STAT.FALLBACKS (a : Nat) : Fld := ⟨0x40050034 + 256 * a, 0, 16, 0⟩
def ACT_PAIR_STAT.CAUSE (a : Nat) : Fld := ⟨0x40050034 + 256 * a, 16, 4, 0⟩
def ACT_PAIR_STAT.HOLD (a : Nat) : Fld := ⟨0x40050034 + 256 * a, 20, 8, 0⟩
def ACT_PAIR_STAT.desc : RegDesc := ⟨0x40050034, [(2, 256)], [(ACT_PAIR_STAT.FALLBACKS 0, .ro), (ACT_PAIR_STAT.CAUSE 0, .ro), (ACT_PAIR_STAT.HOLD 0, .ro)]⟩

/-! ACT_LOAD, offset 0x0040 (05_dual_actuator_servo.md) -/
def ACT_LOAD.HOME (a : Nat) : Fld := ⟨0x40050040 + 256 * a, 0, 22, 0⟩
def ACT_LOAD.HEAD (a : Nat) : Fld := ⟨0x40050040 + 256 * a, 24, 5, 0⟩
def ACT_LOAD.desc : RegDesc := ⟨0x40050040, [(2, 256)], [(ACT_LOAD.HOME 0, .rw), (ACT_LOAD.HEAD 0, .rw)]⟩

/-! ACT_UNLOAD, offset 0x0044 (05_dual_actuator_servo.md) -/
def ACT_UNLOAD.RAMP_TRK (a : Nat) : Fld := ⟨0x40050044 + 256 * a, 0, 22, 0⟩
def ACT_UNLOAD.MIN_PCT (a : Nat) : Fld := ⟨0x40050044 + 256 * a, 22, 8, 80⟩
def ACT_UNLOAD.desc : RegDesc := ⟨0x40050044, [(2, 256)], [(ACT_UNLOAD.RAMP_TRK 0, .rw), (ACT_UNLOAD.MIN_PCT 0, .rw)]⟩

/-! ACT_LU_CFG, offset 0x0048 (05_dual_actuator_servo.md) -/
def ACT_LU_CFG.LOAD_MV (a : Nat) : Fld := ⟨0x40050048 + 256 * a, 0, 8, 60⟩
def ACT_LU_CFG.UNLOAD_MV (a : Nat) : Fld := ⟨0x40050048 + 256 * a, 8, 8, 80⟩
def ACT_LU_CFG.LOAD_TMO (a : Nat) : Fld := ⟨0x40050048 + 256 * a, 16, 8, 40⟩
def ACT_LU_CFG.UNLOAD_TMO (a : Nat) : Fld := ⟨0x40050048 + 256 * a, 24, 8, 40⟩
def ACT_LU_CFG.desc : RegDesc := ⟨0x40050048, [(2, 256)], [(ACT_LU_CFG.LOAD_MV 0, .rw), (ACT_LU_CFG.UNLOAD_MV 0, .rw), (ACT_LU_CFG.LOAD_TMO 0, .rw), (ACT_LU_CFG.UNLOAD_TMO 0, .rw)]⟩

/-! ACT_MAXTRK, offset 0x004c (05_dual_actuator_servo.md) -/
def ACT_MAXTRK.MAX (a : Nat) : Fld := ⟨0x4005004c + 256 * a, 0, 22, 0⟩
def ACT_MAXTRK.desc : RegDesc := ⟨0x4005004c, [(2, 256)], [(ACT_MAXTRK.MAX 0, .rw)]⟩

/-! ACT_WUS_LOG_LO, offset 0x0050 (05_dual_actuator_servo.md) -/
def ACT_WUS_LOG_LO.TRACK (a : Nat) : Fld := ⟨0x40050050 + 256 * a, 0, 22, 0⟩
def ACT_WUS_LOG_LO.HEAD (a : Nat) : Fld := ⟨0x40050050 + 256 * a, 22, 5, 0⟩
def ACT_WUS_LOG_LO.ATI (a : Nat) : Fld := ⟨0x40050050 + 256 * a, 27, 1, 0⟩
def ACT_WUS_LOG_LO.CAUSE (a : Nat) : Fld := ⟨0x40050050 + 256 * a, 28, 2, 0⟩
def ACT_WUS_LOG_LO.VALID (a : Nat) : Fld := ⟨0x40050050 + 256 * a, 31, 1, 0⟩
def ACT_WUS_LOG_LO.desc : RegDesc := ⟨0x40050050, [(2, 256)], [(ACT_WUS_LOG_LO.TRACK 0, .ro), (ACT_WUS_LOG_LO.HEAD 0, .ro), (ACT_WUS_LOG_LO.ATI 0, .ro), (ACT_WUS_LOG_LO.CAUSE 0, .ro), (ACT_WUS_LOG_LO.VALID 0, .ro)]⟩

/-! ACT_WUS_LOG_HI, offset 0x0054 (05_dual_actuator_servo.md) -/
def ACT_WUS_LOG_HI.WEDGE (a : Nat) : Fld := ⟨0x40050054 + 256 * a, 0, 9, 0⟩
def ACT_WUS_LOG_HI.PEAK (a : Nat) : Fld := ⟨0x40050054 + 256 * a, 16, 8, 0⟩
def ACT_WUS_LOG_HI.desc : RegDesc := ⟨0x40050054, [(2, 256)], [(ACT_WUS_LOG_HI.WEDGE 0, .ro), (ACT_WUS_LOG_HI.PEAK 0, .ro)]⟩

/-! ACT_PAIR_TBL_LO, offset 0x0800 (05_dual_actuator_servo.md) -/
def ACT_PAIR_TBL_LO.ADDR : Fld := ⟨0x40050800, 3, 29, 0⟩
def ACT_PAIR_TBL_LO.desc : RegDesc := ⟨0x40050800, [], [(ACT_PAIR_TBL_LO.ADDR, .rw)]⟩

/-! ACT_PAIR_TBL_HI, offset 0x0804 (05_dual_actuator_servo.md) -/
def ACT_PAIR_TBL_HI.ADDR : Fld := ⟨0x40050804, 0, 8, 0⟩
def ACT_PAIR_TBL_HI.desc : RegDesc := ⟨0x40050804, [], [(ACT_PAIR_TBL_HI.ADDR, .rw)]⟩

/-! ACT_UA_LIM, offset 0x0900 (05_dual_actuator_servo.md) -/
def ACT_UA_LIM.LIM (h : Nat) : Fld := ⟨0x40050900 + 4 * h, 0, 16, 0⟩
def ACT_UA_LIM.desc : RegDesc := ⟨0x40050900, [(24, 4)], [(ACT_UA_LIM.LIM 0, .rw)]⟩

/-! ASX_CTL, offset 0x0000 (06_energy_assist.md) -/
def ASX_CTL.TYPE : Fld := ⟨0x40060000, 0, 1, 0⟩
def ASX_CTL.desc : RegDesc := ⟨0x40060000, [], [(ASX_CTL.TYPE, .ro)]⟩

/-! ASX_PB, offset 0x0004 (06_energy_assist.md) -/
def ASX_PB.LEAD_NS : Fld := ⟨0x40060004, 0, 8, 120⟩
def ASX_PB.LAG_NS : Fld := ⟨0x40060004, 8, 8, 20⟩
def ASX_PB.SETTLE : Fld := ⟨0x40060004, 16, 8, 40⟩
def ASX_PB.REQUAL : Fld := ⟨0x40060004, 24, 8, 8⟩
def ASX_PB.desc : RegDesc := ⟨0x40060004, [], [(ASX_PB.LEAD_NS, .rw), (ASX_PB.LAG_NS, .rw), (ASX_PB.SETTLE, .rw), (ASX_PB.REQUAL, .rw)]⟩

/-! ASX_HOP_CFG, offset 0x0008 (06_energy_assist.md) -/
def ASX_HOP_CFG.THR : Fld := ⟨0x40060008, 0, 8, 8⟩
def ASX_HOP_CFG.NUDGE : Fld := ⟨0x40060008, 8, 8, 5⟩
def ASX_HOP_CFG.WIDTH : Fld := ⟨0x40060008, 16, 8, 3⟩
def ASX_HOP_CFG.STORM : Fld := ⟨0x40060008, 24, 8, 8⟩
def ASX_HOP_CFG.desc : RegDesc := ⟨0x40060008, [], [(ASX_HOP_CFG.THR, .rw), (ASX_HOP_CFG.NUDGE, .rw), (ASX_HOP_CFG.WIDTH, .rw), (ASX_HOP_CFG.STORM, .rw)]⟩

/-! ASX_AGE_CFG, offset 0x000c (06_energy_assist.md) -/
def ASX_AGE_CFG.WARN : Fld := ⟨0x4006000c, 0, 8, 140⟩
def ASX_AGE_CFG.TREF : Fld := ⟨0x4006000c, 8, 8, 40⟩
def ASX_AGE_CFG.TCO : Fld := ⟨0x4006000c, 16, 16, 0⟩
def ASX_AGE_CFG.desc : RegDesc := ⟨0x4006000c, [], [(ASX_AGE_CFG.WARN, .rw), (ASX_AGE_CFG.TREF, .rw), (ASX_AGE_CFG.TCO, .rw)]⟩

/-! ASX_FH_CFG, offset 0x0010 (06_energy_assist.md) -/
def ASX_FH_CFG.RAMP : Fld := ⟨0x40060010, 0, 12, 200⟩
def ASX_FH_CFG.BACKOFF : Fld := ⟨0x40060010, 12, 8, 8⟩
def ASX_FH_CFG.OM_TOL : Fld := ⟨0x40060010, 20, 7, 25⟩
def ASX_FH_CFG.desc : RegDesc := ⟨0x40060010, [], [(ASX_FH_CFG.RAMP, .rw), (ASX_FH_CFG.BACKOFF, .rw), (ASX_FH_CFG.OM_TOL, .rw)]⟩

/-! ASX_TBL_LO, offset 0x0018 (06_energy_assist.md) -/
def ASX_TBL_LO.ADDR : Fld := ⟨0x40060018, 9, 23, 0⟩
def ASX_TBL_LO.desc : RegDesc := ⟨0x40060018, [], [(ASX_TBL_LO.ADDR, .rw)]⟩

/-! ASX_TBL_HI, offset 0x001c (06_energy_assist.md) -/
def ASX_TBL_HI.ADDR : Fld := ⟨0x4006001c, 0, 8, 0⟩
def ASX_TBL_HI.desc : RegDesc := ⟨0x4006001c, [], [(ASX_TBL_HI.ADDR, .rw)]⟩

/-! ASX_RETIRED, offset 0x0020 (06_energy_assist.md) -/
def ASX_RETIRED.MAP : Fld := ⟨0x40060020, 0, 24, 0⟩
def ASX_RETIRED.desc : RegDesc := ⟨0x40060020, [], [(ASX_RETIRED.MAP, .ro)]⟩

/-! ASX_HSTAT, offset 0x0100 (06_energy_assist.md) -/
def ASX_HSTAT.STATE (h : Nat) : Fld := ⟨0x40060100 + 32 * h, 0, 3, 0⟩
def ASX_HSTAT.READY (h : Nat) : Fld := ⟨0x40060100 + 32 * h, 3, 1, 0⟩
def ASX_HSTAT.RETIRE_PEND (h : Nat) : Fld := ⟨0x40060100 + 32 * h, 4, 1, 0⟩
def ASX_HSTAT.WARN (h : Nat) : Fld := ⟨0x40060100 + 32 * h, 5, 1, 0⟩
def ASX_HSTAT.NEXT_BAND (h : Nat) : Fld := ⟨0x40060100 + 32 * h, 6, 2, 0⟩
def ASX_HSTAT.CAUSE (h : Nat) : Fld := ⟨0x40060100 + 32 * h, 8, 3, 0⟩
def ASX_HSTAT.desc : RegDesc := ⟨0x40060100, [(24, 32)], [(ASX_HSTAT.STATE 0, .ro), (ASX_HSTAT.READY 0, .ro), (ASX_HSTAT.RETIRE_PEND 0, .ro), (ASX_HSTAT.WARN 0, .w1c), (ASX_HSTAT.NEXT_BAND 0, .ro), (ASX_HSTAT.CAUSE 0, .ro)]⟩

/-! ASX_HCTL, offset 0x0104 (06_energy_assist.md) -/
def ASX_HCTL.CLR (h : Nat) : Fld := ⟨0x40060104 + 32 * h, 0, 1, 0⟩
def ASX_HCTL.RETIRE_REQ (h : Nat) : Fld := ⟨0x40060104 + 32 * h, 1, 1, 0⟩
def ASX_HCTL.RETIRE_DONE (h : Nat) : Fld := ⟨0x40060104 + 32 * h, 2, 1, 0⟩
def ASX_HCTL.FORCE_OFF (h : Nat) : Fld := ⟨0x40060104 + 32 * h, 8, 1, 0⟩
def ASX_HCTL.desc : RegDesc := ⟨0x40060104, [(24, 32)], [(ASX_HCTL.CLR 0, .w1s), (ASX_HCTL.RETIRE_REQ 0, .w1s), (ASX_HCTL.RETIRE_DONE 0, .w1s), (ASX_HCTL.FORCE_OFF 0, .rw)]⟩

/-! ASX_IOP, offset 0x0108 (06_energy_assist.md) -/
def ASX_IOP.IOP_AVG (h : Nat) : Fld := ⟨0x40060108 + 32 * h, 0, 16, 0⟩
def ASX_IOP.LAST (h : Nat) : Fld := ⟨0x40060108 + 32 * h, 16, 16, 0⟩
def ASX_IOP.desc : RegDesc := ⟨0x40060108, [(24, 32)], [(ASX_IOP.IOP_AVG 0, .ro), (ASX_IOP.LAST 0, .ro)]⟩

/-! ASX_IOP0, offset 0x010c (06_energy_assist.md) -/
def ASX_IOP0.IOP0 (h : Nat) : Fld := ⟨0x4006010c + 32 * h, 0, 16, 0⟩
def ASX_IOP0.desc : RegDesc := ⟨0x4006010c, [(24, 32)], [(ASX_IOP0.IOP0 0, .rw)]⟩

/-! ASX_HOPMAP, offset 0x0110 (06_energy_assist.md) -/
def ASX_HOPMAP.BAND (h : Nat) : Fld := ⟨0x40060110 + 32 * h, 0, 32, 0⟩
def ASX_HOPMAP.desc : RegDesc := ⟨0x40060110, [(24, 32)], [(ASX_HOPMAP.BAND 0, .ro)]⟩

/-! ASX_HCNT, offset 0x0114 (06_energy_assist.md) -/
def ASX_HCNT.HOPS (h : Nat) : Fld := ⟨0x40060114 + 32 * h, 0, 16, 0⟩
def ASX_HCNT.TRIPS (h : Nat) : Fld := ⟨0x40060114 + 32 * h, 16, 16, 0⟩
def ASX_HCNT.desc : RegDesc := ⟨0x40060114, [(24, 32)], [(ASX_HCNT.HOPS 0, .ro), (ASX_HCNT.TRIPS 0, .ro)]⟩

/-! ASX_MON, offset 0x0118 (06_energy_assist.md) -/
def ASX_MON.MON (h : Nat) : Fld := ⟨0x40060118 + 32 * h, 0, 16, 0⟩
def ASX_MON.CUR (h : Nat) : Fld := ⟨0x40060118 + 32 * h, 16, 16, 0⟩
def ASX_MON.desc : RegDesc := ⟨0x40060118, [(24, 32)], [(ASX_MON.MON 0, .ro), (ASX_MON.CUR 0, .ro)]⟩

/-! HCH_CTL, offset 0x0000 (07_disk_read_channel.md) -/
def HCH_CTL.EN (s : Nat) : Fld := ⟨0x40070000 + 256 * s, 0, 1, 0⟩
def HCH_CTL.FREEZE (s : Nat) : Fld := ⟨0x40070000 + 256 * s, 1, 1, 0⟩
def HCH_CTL.FAIL (s : Nat) : Fld := ⟨0x40070000 + 256 * s, 2, 1, 0⟩
def HCH_CTL.desc : RegDesc := ⟨0x40070000, [(5, 256)], [(HCH_CTL.EN 0, .rw), (HCH_CTL.FREEZE 0, .rw), (HCH_CTL.FAIL 0, .w1s)]⟩

/-! HCH_STAT, offset 0x0004 (07_disk_read_channel.md) -/
def HCH_STAT.BUSY (s : Nat) : Fld := ⟨0x40070004 + 256 * s, 0, 1, 0⟩
def HCH_STAT.WRITING (s : Nat) : Fld := ⟨0x40070004 + 256 * s, 1, 1, 0⟩
def HCH_STAT.COLD (s : Nat) : Fld := ⟨0x40070004 + 256 * s, 2, 1, 0⟩
def HCH_STAT.CONV (s : Nat) : Fld := ⟨0x40070004 + 256 * s, 3, 1, 0⟩
def HCH_STAT.FAILED (s : Nat) : Fld := ⟨0x40070004 + 256 * s, 4, 1, 0⟩
def HCH_STAT.RATE (s : Nat) : Fld := ⟨0x40070004 + 256 * s, 8, 12, 0⟩
def HCH_STAT.desc : RegDesc := ⟨0x40070004, [(5, 256)], [(HCH_STAT.BUSY 0, .ro), (HCH_STAT.WRITING 0, .ro), (HCH_STAT.COLD 0, .ro), (HCH_STAT.CONV 0, .ro), (HCH_STAT.FAILED 0, .ro), (HCH_STAT.RATE 0, .ro)]⟩

/-! HCH_ZONE, offset 0x0008 (07_disk_read_channel.md) -/
def HCH_ZONE.ZONE (s : Nat) : Fld := ⟨0x40070008 + 256 * s, 0, 20, 0⟩
def HCH_ZONE.desc : RegDesc := ⟨0x40070008, [(5, 256)], [(HCH_ZONE.ZONE 0, .ro)]⟩

/-! HCH_CNT, offset 0x000c (07_disk_read_channel.md) -/
def HCH_CNT.RECOVERED (s : Nat) : Fld := ⟨0x4007000c + 256 * s, 0, 16, 0⟩
def HCH_CNT.FAILED (s : Nat) : Fld := ⟨0x4007000c + 256 * s, 16, 16, 0⟩
def HCH_CNT.desc : RegDesc := ⟨0x4007000c, [(5, 256)], [(HCH_CNT.RECOVERED 0, .ro), (HCH_CNT.FAILED 0, .ro)]⟩

/-! HCH_SMCNT, offset 0x0010 (07_disk_read_channel.md) -/
def HCH_SMCNT.SM1_MISS (s : Nat) : Fld := ⟨0x40070010 + 256 * s, 0, 16, 0⟩
def HCH_SMCNT.ALT_OK (s : Nat) : Fld := ⟨0x40070010 + 256 * s, 16, 16, 0⟩
def HCH_SMCNT.desc : RegDesc := ⟨0x40070010, [(5, 256)], [(HCH_SMCNT.SM1_MISS 0, .ro), (HCH_SMCNT.ALT_OK 0, .ro)]⟩

/-! HCH_TPCNT, offset 0x0014 (07_disk_read_channel.md) -/
def HCH_TPCNT.TP_OK (s : Nat) : Fld := ⟨0x40070014 + 256 * s, 0, 16, 0⟩
def HCH_TPCNT.UNWRITTEN (s : Nat) : Fld := ⟨0x40070014 + 256 * s, 16, 16, 0⟩
def HCH_TPCNT.desc : RegDesc := ⟨0x40070014, [(5, 256)], [(HCH_TPCNT.TP_OK 0, .ro), (HCH_TPCNT.UNWRITTEN 0, .ro)]⟩

/-! HCH_MSE, offset 0x0018 (07_disk_read_channel.md) -/
def HCH_MSE.MSE (s : Nat) : Fld := ⟨0x40070018 + 256 * s, 0, 16, 0⟩
def HCH_MSE.desc : RegDesc := ⟨0x40070018, [(5, 256)], [(HCH_MSE.MSE 0, .ro)]⟩

/-! HCH_SM_CFG, offset 0x0800 (07_disk_read_channel.md) -/
def HCH_SM_CFG.TOL : Fld := ⟨0x40070800, 0, 4, 4⟩
def HCH_SM_CFG.RS_TOL : Fld := ⟨0x40070800, 4, 4, 3⟩
def HCH_SM_CFG.desc : RegDesc := ⟨0x40070800, [], [(HCH_SM_CFG.TOL, .rw), (HCH_SM_CFG.RS_TOL, .rw)]⟩

/-! HCH_LDPC_CFG, offset 0x0804 (07_disk_read_channel.md) -/
def HCH_LDPC_CFG.ITER_INLINE : Fld := ⟨0x40070804, 0, 8, 12⟩
def HCH_LDPC_CFG.ITER_RETRY : Fld := ⟨0x40070804, 8, 8, 40⟩
def HCH_LDPC_CFG.desc : RegDesc := ⟨0x40070804, [], [(HCH_LDPC_CFG.ITER_INLINE, .rw), (HCH_LDPC_CFG.ITER_RETRY, .rw)]⟩

/-! HCH_DD_CFG, offset 0x0808 (07_disk_read_channel.md) -/
def HCH_DD_CFG.DROP : Fld := ⟨0x40070808, 0, 8, 64⟩
def HCH_DD_CFG.TA : Fld := ⟨0x40070808, 8, 8, 192⟩
def HCH_DD_CFG.MINLEN : Fld := ⟨0x40070808, 16, 8, 16⟩
def HCH_DD_CFG.MAXRUNS : Fld := ⟨0x40070808, 24, 4, 8⟩
def HCH_DD_CFG.desc : RegDesc := ⟨0x40070808, [], [(HCH_DD_CFG.DROP, .rw), (HCH_DD_CFG.TA, .rw), (HCH_DD_CFG.MINLEN, .rw), (HCH_DD_CFG.MAXRUNS, .rw)]⟩

/-! HCH_RETRY_CFG, offset 0x080c (07_disk_read_channel.md) -/
def HCH_RETRY_CFG.REVS : Fld := ⟨0x4007080c, 0, 8, 16⟩
def HCH_RETRY_CFG.COLD_REVS : Fld := ⟨0x4007080c, 8, 8, 32⟩
def HCH_RETRY_CFG.STEP_EN : Fld := ⟨0x4007080c, 16, 6, 63⟩
def HCH_RETRY_CFG.desc : RegDesc := ⟨0x4007080c, [], [(HCH_RETRY_CFG.REVS, .rw), (HCH_RETRY_CFG.COLD_REVS, .rw), (HCH_RETRY_CFG.STEP_EN, .rw)]⟩

/-! HCH_ADAPT_CFG, offset 0x0810 (07_disk_read_channel.md) -/
def HCH_ADAPT_CFG.MU_EQ : Fld := ⟨0x40070810, 0, 4, 8⟩
def HCH_ADAPT_CFG.MU_GAIN : Fld := ⟨0x40070810, 4, 4, 10⟩
def HCH_ADAPT_CFG.MU_ASYM : Fld := ⟨0x40070810, 8, 4, 12⟩
def HCH_ADAPT_CFG.CONV_MSE : Fld := ⟨0x40070810, 12, 16, 2048⟩
def HCH_ADAPT_CFG.desc : RegDesc := ⟨0x40070810, [], [(HCH_ADAPT_CFG.MU_EQ, .rw), (HCH_ADAPT_CFG.MU_GAIN, .rw), (HCH_ADAPT_CFG.MU_ASYM, .rw), (HCH_ADAPT_CFG.CONV_MSE, .rw)]⟩

/-! HCH_SEED_TBL_LO, offset 0x0814 (07_disk_read_channel.md) -/
def HCH_SEED_TBL_LO.ADDR : Fld := ⟨0x40070814, 6, 26, 0⟩
def HCH_SEED_TBL_LO.desc : RegDesc := ⟨0x40070814, [], [(HCH_SEED_TBL_LO.ADDR, .rw)]⟩

/-! HCH_SEED_TBL_HI, offset 0x0818 (07_disk_read_channel.md) -/
def HCH_SEED_TBL_HI.ADDR : Fld := ⟨0x40070818, 0, 8, 0⟩
def HCH_SEED_TBL_HI.desc : RegDesc := ⟨0x40070818, [], [(HCH_SEED_TBL_HI.ADDR, .rw)]⟩

/-! HCH_SPARE, offset 0x081c (07_disk_read_channel.md) -/
def HCH_SPARE.SEL : Fld := ⟨0x4007081c, 0, 3, 7⟩
def HCH_SPARE.AUTO : Fld := ⟨0x4007081c, 3, 1, 1⟩
def HCH_SPARE.desc : RegDesc := ⟨0x4007081c, [], [(HCH_SPARE.SEL, .rw), (HCH_SPARE.AUTO, .rw)]⟩

/-! HCH_TP_CTL, offset 0x0820 (07_disk_read_channel.md) -/
def HCH_TP_CTL.STREAM : Fld := ⟨0x40070820, 0, 3, 0⟩
def HCH_TP_CTL.SAVE : Fld := ⟨0x40070820, 3, 1, 0⟩
def HCH_TP_CTL.LOAD : Fld := ⟨0x40070820, 4, 1, 0⟩
def HCH_TP_CTL.CLEAR : Fld := ⟨0x40070820, 5, 1, 0⟩
def HCH_TP_CTL.BUSY : Fld := ⟨0x40070820, 6, 1, 0⟩
def HCH_TP_CTL.COUNT : Fld := ⟨0x40070820, 8, 5, 0⟩
def HCH_TP_CTL.desc : RegDesc := ⟨0x40070820, [], [(HCH_TP_CTL.STREAM, .rw), (HCH_TP_CTL.SAVE, .w1s), (HCH_TP_CTL.LOAD, .w1s), (HCH_TP_CTL.CLEAR, .w1s), (HCH_TP_CTL.BUSY, .ro), (HCH_TP_CTL.COUNT, .rw)]⟩

/-! HLK_CTL, offset 0x0000 (07_disk_read_channel.md) -/
def HLK_CTL.EN (l : Nat) : Fld := ⟨0x40080000 + 256 * l, 0, 1, 0⟩
def HLK_CTL.AUTO_PROMO (l : Nat) : Fld := ⟨0x40080000 + 256 * l, 1, 1, 1⟩
def HLK_CTL.RETRAIN (l : Nat) : Fld := ⟨0x40080000 + 256 * l, 2, 1, 0⟩
def HLK_CTL.desc : RegDesc := ⟨0x40080000, [(2, 256)], [(HLK_CTL.EN 0, .rw), (HLK_CTL.AUTO_PROMO 0, .rw), (HLK_CTL.RETRAIN 0, .w1s)]⟩

/-! HLK_STAT, offset 0x0004 (07_disk_read_channel.md) -/
def HLK_STAT.LOCK (l : Nat) : Fld := ⟨0x40080004 + 256 * l, 0, 3, 0⟩
def HLK_STAT.TX_UP (l : Nat) : Fld := ⟨0x40080004 + 256 * l, 3, 1, 0⟩
def HLK_STAT.LOG0 (l : Nat) : Fld := ⟨0x40080004 + 256 * l, 4, 2, 0⟩
def HLK_STAT.LOG1 (l : Nat) : Fld := ⟨0x40080004 + 256 * l, 6, 2, 1⟩
def HLK_STAT.SINGLE (l : Nat) : Fld := ⟨0x40080004 + 256 * l, 8, 1, 0⟩
def HLK_STAT.UP (l : Nat) : Fld := ⟨0x40080004 + 256 * l, 9, 1, 0⟩
def HLK_STAT.TRIES (l : Nat) : Fld := ⟨0x40080004 + 256 * l, 10, 2, 0⟩
def HLK_STAT.MISS (l : Nat) : Fld := ⟨0x40080004 + 256 * l, 12, 4, 0⟩
def HLK_STAT.FAULT (l : Nat) : Fld := ⟨0x40080004 + 256 * l, 16, 1, 0⟩
def HLK_STAT.PIN (l : Nat) : Fld := ⟨0x40080004 + 256 * l, 17, 1, 0⟩
def HLK_STAT.PROMOTED (l : Nat) : Fld := ⟨0x40080004 + 256 * l, 18, 1, 0⟩
def HLK_STAT.desc : RegDesc := ⟨0x40080004, [(2, 256)], [(HLK_STAT.LOCK 0, .ro), (HLK_STAT.TX_UP 0, .ro), (HLK_STAT.LOG0 0, .ro), (HLK_STAT.LOG1 0, .ro), (HLK_STAT.SINGLE 0, .ro), (HLK_STAT.UP 0, .ro), (HLK_STAT.TRIES 0, .ro), (HLK_STAT.MISS 0, .ro), (HLK_STAT.FAULT 0, .w1c), (HLK_STAT.PIN 0, .ro), (HLK_STAT.PROMOTED 0, .w1c)]⟩

/-! HLK_PROMO, offset 0x0008 (07_disk_read_channel.md) -/
def HLK_PROMO.ERR_THR (l : Nat) : Fld := ⟨0x40080008 + 256 * l, 0, 16, 16⟩
def HLK_PROMO.WINDOW (l : Nat) : Fld := ⟨0x40080008 + 256 * l, 16, 16, 1000⟩
def HLK_PROMO.desc : RegDesc := ⟨0x40080008, [(2, 256)], [(HLK_PROMO.ERR_THR 0, .rw), (HLK_PROMO.WINDOW 0, .rw)]⟩

/-! HLK_DELAY, offset 0x000c (07_disk_read_channel.md) -/
def HLK_DELAY.DELAY (l : Nat) : Fld := ⟨0x4008000c + 256 * l, 0, 12, 0⟩
def HLK_DELAY.desc : RegDesc := ⟨0x4008000c, [(2, 256)], [(HLK_DELAY.DELAY 0, .ro)]⟩

/-! HLK_LANE_ERR, offset 0x0010 (07_disk_read_channel.md) -/
def HLK_LANE_ERR.ERRS (l p : Nat) : Fld := ⟨0x40080010 + 256 * l + 4 * p, 0, 16, 0⟩
def HLK_LANE_ERR.LOCKLOSS (l p : Nat) : Fld := ⟨0x40080010 + 256 * l + 4 * p, 16, 16, 0⟩
def HLK_LANE_ERR.desc : RegDesc := ⟨0x40080010, [(2, 256), (3, 4)], [(HLK_LANE_ERR.ERRS 0 0, .ro), (HLK_LANE_ERR.LOCKLOSS 0 0, .ro)]⟩

/-! HLK_FAULTS, offset 0x0020 (07_disk_read_channel.md) -/
def HLK_FAULTS.FLAGS (l : Nat) : Fld := ⟨0x40080020 + 256 * l, 0, 24, 0⟩
def HLK_FAULTS.desc : RegDesc := ⟨0x40080020, [(2, 256)], [(HLK_FAULTS.FLAGS 0, .ro)]⟩

/-! HLK_CC_REQ, offset 0x0024 (07_disk_read_channel.md) -/
def HLK_CC_REQ.ADDR (l : Nat) : Fld := ⟨0x40080024 + 256 * l, 0, 8, 0⟩
def HLK_CC_REQ.WRITE (l : Nat) : Fld := ⟨0x40080024 + 256 * l, 8, 1, 0⟩
def HLK_CC_REQ.BUSY (l : Nat) : Fld := ⟨0x40080024 + 256 * l, 30, 1, 0⟩
def HLK_CC_REQ.GO (l : Nat) : Fld := ⟨0x40080024 + 256 * l, 31, 1, 0⟩
def HLK_CC_REQ.desc : RegDesc := ⟨0x40080024, [(2, 256)], [(HLK_CC_REQ.ADDR 0, .rw), (HLK_CC_REQ.WRITE 0, .rw), (HLK_CC_REQ.BUSY 0, .ro), (HLK_CC_REQ.GO 0, .w1s)]⟩

/-! HLK_CC_DATA, offset 0x0028 (07_disk_read_channel.md) -/
def HLK_CC_DATA.DATA (l : Nat) : Fld := ⟨0x40080028 + 256 * l, 0, 32, 0⟩
def HLK_CC_DATA.desc : RegDesc := ⟨0x40080028, [(2, 256)], [(HLK_CC_DATA.DATA 0, .rw)]⟩

/-! HLK_CC_STAT, offset 0x002c (07_disk_read_channel.md) -/
def HLK_CC_STAT.DONE (l : Nat) : Fld := ⟨0x4008002c + 256 * l, 0, 1, 0⟩
def HLK_CC_STAT.ERROR (l : Nat) : Fld := ⟨0x4008002c + 256 * l, 1, 1, 0⟩
def HLK_CC_STAT.TIMEOUT (l : Nat) : Fld := ⟨0x4008002c + 256 * l, 2, 1, 0⟩
def HLK_CC_STAT.desc : RegDesc := ⟨0x4008002c, [(2, 256)], [(HLK_CC_STAT.DONE 0, .w1c), (HLK_CC_STAT.ERROR 0, .w1c), (HLK_CC_STAT.TIMEOUT 0, .w1c)]⟩

/-! HLK_FRAMES, offset 0x0030 (07_disk_read_channel.md) -/
def HLK_FRAMES.BAD (l : Nat) : Fld := ⟨0x40080030 + 256 * l, 0, 16, 0⟩
def HLK_FRAMES.LATE (l : Nat) : Fld := ⟨0x40080030 + 256 * l, 16, 16, 0⟩
def HLK_FRAMES.desc : RegDesc := ⟨0x40080030, [(2, 256)], [(HLK_FRAMES.BAD 0, .ro), (HLK_FRAMES.LATE 0, .ro)]⟩

/-! ZMG_CTL, offset 0x0000 (08_zones_and_media.md) -/
def ZMG_CTL.EN : Fld := ⟨0x40090000, 0, 1, 0⟩
def ZMG_CTL.SCAN_EN : Fld := ⟨0x40090000, 1, 1, 1⟩
def ZMG_CTL.CLEAN_EN : Fld := ⟨0x40090000, 2, 1, 1⟩
def ZMG_CTL.desc : RegDesc := ⟨0x40090000, [], [(ZMG_CTL.EN, .rw), (ZMG_CTL.SCAN_EN, .rw), (ZMG_CTL.CLEAN_EN, .rw)]⟩

/-! ZMG_STAT, offset 0x0004 (08_zones_and_media.md) -/
def ZMG_STAT.RECOVERING : Fld := ⟨0x40090004, 0, 1, 0⟩
def ZMG_STAT.REBUILDING : Fld := ⟨0x40090004, 1, 1, 0⟩
def ZMG_STAT.CKPT_BUSY : Fld := ⟨0x40090004, 2, 1, 0⟩
def ZMG_STAT.desc : RegDesc := ⟨0x40090004, [], [(ZMG_STAT.RECOVERING, .ro), (ZMG_STAT.REBUILDING, .ro), (ZMG_STAT.CKPT_BUSY, .ro)]⟩

/-! ZMG_ZTBL_LO, offset 0x0008 (08_zones_and_media.md) -/
def ZMG_ZTBL_LO.ADDR : Fld := ⟨0x40090008, 5, 27, 0⟩
def ZMG_ZTBL_LO.desc : RegDesc := ⟨0x40090008, [], [(ZMG_ZTBL_LO.ADDR, .rw)]⟩

/-! ZMG_ZTBL_HI, offset 0x000c (08_zones_and_media.md) -/
def ZMG_ZTBL_HI.ADDR : Fld := ⟨0x4009000c, 0, 8, 0⟩
def ZMG_ZTBL_HI.desc : RegDesc := ⟨0x4009000c, [], [(ZMG_ZTBL_HI.ADDR, .rw)]⟩

/-! ZMG_LIMITS, offset 0x0010 (08_zones_and_media.md) -/
def ZMG_LIMITS.MAX_OPEN : Fld := ⟨0x40090010, 0, 16, 256⟩
def ZMG_LIMITS.MAX_ACTIVE : Fld := ⟨0x40090010, 16, 16, 512⟩
def ZMG_LIMITS.desc : RegDesc := ⟨0x40090010, [], [(ZMG_LIMITS.MAX_OPEN, .rw), (ZMG_LIMITS.MAX_ACTIVE, .rw)]⟩

/-! ZMG_OPEN_CNT, offset 0x0014 (08_zones_and_media.md) -/
def ZMG_OPEN_CNT.OPEN : Fld := ⟨0x40090014, 0, 16, 0⟩
def ZMG_OPEN_CNT.ACTIVE : Fld := ⟨0x40090014, 16, 16, 0⟩
def ZMG_OPEN_CNT.desc : RegDesc := ⟨0x40090014, [], [(ZMG_OPEN_CNT.OPEN, .ro), (ZMG_OPEN_CNT.ACTIVE, .ro)]⟩

/-! ZMG_DM_CFG, offset 0x0020 (08_zones_and_media.md) -/
def ZMG_DM_CFG.HIGH : Fld := ⟨0x40090020, 0, 8, 75⟩
def ZMG_DM_CFG.CRIT : Fld := ⟨0x40090020, 8, 8, 95⟩
def ZMG_DM_CFG.SHARE : Fld := ⟨0x40090020, 16, 8, 25⟩
def ZMG_DM_CFG.FREE_MIN : Fld := ⟨0x40090020, 24, 4, 2⟩
def ZMG_DM_CFG.DIRECT_MIN : Fld := ⟨0x40090020, 28, 4, 2⟩
def ZMG_DM_CFG.desc : RegDesc := ⟨0x40090020, [], [(ZMG_DM_CFG.HIGH, .rw), (ZMG_DM_CFG.CRIT, .rw), (ZMG_DM_CFG.SHARE, .rw), (ZMG_DM_CFG.FREE_MIN, .rw), (ZMG_DM_CFG.DIRECT_MIN, .rw)]⟩

/-! ZMG_DM_STAT, offset 0x0024 (08_zones_and_media.md) -/
def ZMG_DM_STAT.FILL : Fld := ⟨0x40090024, 0, 8, 0⟩
def ZMG_DM_STAT.NS : Fld := ⟨0x40090024, 8, 6, 0⟩
def ZMG_DM_STAT.CLEANS : Fld := ⟨0x40090024, 16, 16, 0⟩
def ZMG_DM_STAT.desc : RegDesc := ⟨0x40090024, [], [(ZMG_DM_STAT.FILL, .ro), (ZMG_DM_STAT.NS, .ro), (ZMG_DM_STAT.CLEANS, .ro)]⟩

/-! ZMG_RECOV_CFG, offset 0x0030 (08_zones_and_media.md) -/
def ZMG_RECOV_CFG.BACK_TEMPOS : Fld := ⟨0x40090030, 0, 8, 16⟩
def ZMG_RECOV_CFG.HOST_MS : Fld := ⟨0x40090030, 8, 16, 2000⟩
def ZMG_RECOV_CFG.REREAD : Fld := ⟨0x40090030, 24, 1, 0⟩
def ZMG_RECOV_CFG.RELOC_STEP : Fld := ⟨0x40090030, 25, 3, 4⟩
def ZMG_RECOV_CFG.desc : RegDesc := ⟨0x40090030, [], [(ZMG_RECOV_CFG.BACK_TEMPOS, .rw), (ZMG_RECOV_CFG.HOST_MS, .rw), (ZMG_RECOV_CFG.REREAD, .rw), (ZMG_RECOV_CFG.RELOC_STEP, .rw)]⟩

/-! ZMG_SCAN_CFG, offset 0x0034 (08_zones_and_media.md) -/
def ZMG_SCAN_CFG.DAYS : Fld := ⟨0x40090034, 0, 8, 30⟩
def ZMG_SCAN_CFG.desc : RegDesc := ⟨0x40090034, [], [(ZMG_SCAN_CFG.DAYS, .rw)]⟩

/-! ZMG_SCAN_STAT, offset 0x0038 (08_zones_and_media.md) -/
def ZMG_SCAN_STAT.ZONE : Fld := ⟨0x40090038, 0, 20, 0⟩
def ZMG_SCAN_STAT.PASSES : Fld := ⟨0x40090038, 20, 12, 0⟩
def ZMG_SCAN_STAT.desc : RegDesc := ⟨0x40090038, [], [(ZMG_SCAN_STAT.ZONE, .ro), (ZMG_SCAN_STAT.PASSES, .ro)]⟩

/-! ZMG_PEND, offset 0x0040 (08_zones_and_media.md) -/
def ZMG_PEND.COUNT : Fld := ⟨0x40090040, 0, 17, 0⟩
def ZMG_PEND.FULL : Fld := ⟨0x40090040, 17, 1, 0⟩
def ZMG_PEND.desc : RegDesc := ⟨0x40090040, [], [(ZMG_PEND.COUNT, .ro), (ZMG_PEND.FULL, .w1c)]⟩

/-! ZMG_SPARE, offset 0x0044 (08_zones_and_media.md) -/
def ZMG_SPARE.FREE : Fld := ⟨0x40090044, 0, 20, 0⟩
def ZMG_SPARE.LOW : Fld := ⟨0x40090044, 20, 12, 64⟩
def ZMG_SPARE.desc : RegDesc := ⟨0x40090044, [], [(ZMG_SPARE.FREE, .ro), (ZMG_SPARE.LOW, .rw)]⟩

/-! ZMG_DEFECT, offset 0x0048 (08_zones_and_media.md) -/
def ZMG_DEFECT.REMAPS : Fld := ⟨0x40090048, 0, 24, 0⟩
def ZMG_DEFECT.ZONE_MAX : Fld := ⟨0x40090048, 24, 8, 64⟩
def ZMG_DEFECT.desc : RegDesc := ⟨0x40090048, [], [(ZMG_DEFECT.REMAPS, .ro), (ZMG_DEFECT.ZONE_MAX, .rw)]⟩

/-! ZMG_JRNL, offset 0x0050 (08_zones_and_media.md) -/
def ZMG_JRNL.CKPT_MIN : Fld := ⟨0x40090050, 0, 8, 10⟩
def ZMG_JRNL.FILL : Fld := ⟨0x40090050, 8, 8, 0⟩
def ZMG_JRNL.CKPT : Fld := ⟨0x40090050, 16, 1, 0⟩
def ZMG_JRNL.desc : RegDesc := ⟨0x40090050, [], [(ZMG_JRNL.CKPT_MIN, .rw), (ZMG_JRNL.FILL, .ro), (ZMG_JRNL.CKPT, .w1s)]⟩

/-! ZMG_NS_CFG, offset 0x1000 (08_zones_and_media.md) -/
def ZMG_NS_CFG.TYPE (n : Nat) : Fld := ⟨0x40091000 + 16 * n, 0, 3, 0⟩
def ZMG_NS_CFG.LBAF (n : Nat) : Fld := ⟨0x40091000 + 16 * n, 3, 1, 0⟩
def ZMG_NS_CFG.PORTS (n : Nat) : Fld := ⟨0x40091000 + 16 * n, 4, 4, 0⟩
def ZMG_NS_CFG.RO (n : Nat) : Fld := ⟨0x40091000 + 16 * n, 8, 1, 0⟩
def ZMG_NS_CFG.desc : RegDesc := ⟨0x40091000, [(64, 16)], [(ZMG_NS_CFG.TYPE 0, .rw), (ZMG_NS_CFG.LBAF 0, .rw), (ZMG_NS_CFG.PORTS 0, .rw), (ZMG_NS_CFG.RO 0, .ro)]⟩

/-! ZMG_NS_ZONES, offset 0x1004 (08_zones_and_media.md) -/
def ZMG_NS_ZONES.FIRST (n : Nat) : Fld := ⟨0x40091004 + 16 * n, 0, 20, 0⟩
def ZMG_NS_ZONES.desc : RegDesc := ⟨0x40091004, [(64, 16)], [(ZMG_NS_ZONES.FIRST 0, .rw)]⟩

/-! ZMG_NS_COUNT, offset 0x1008 (08_zones_and_media.md) -/
def ZMG_NS_COUNT.COUNT (n : Nat) : Fld := ⟨0x40091008 + 16 * n, 0, 20, 0⟩
def ZMG_NS_COUNT.desc : RegDesc := ⟨0x40091008, [(64, 16)], [(ZMG_NS_COUNT.COUNT 0, .rw)]⟩

/-! ZMG_NS_MC, offset 0x100c (08_zones_and_media.md) -/
def ZMG_NS_MC.ZONES (n : Nat) : Fld := ⟨0x4009100c + 16 * n, 0, 20, 0⟩
def ZMG_NS_MC.desc : RegDesc := ⟨0x4009100c, [(64, 16)], [(ZMG_NS_MC.ZONES 0, .rw)]⟩

/-! OSV_CMD, offset 0x0000 (09_optical_servo.md) -/
def OSV_CMD.OP : Fld := ⟨0x400a0000, 0, 3, 0⟩
def OSV_CMD.GO : Fld := ⟨0x400a0000, 8, 1, 0⟩
def OSV_CMD.HELD : Fld := ⟨0x400a0000, 9, 1, 0⟩
def OSV_CMD.REFUSED : Fld := ⟨0x400a0000, 10, 1, 0⟩
def OSV_CMD.desc : RegDesc := ⟨0x400a0000, [], [(OSV_CMD.OP, .rw), (OSV_CMD.GO, .w1s), (OSV_CMD.HELD, .ro), (OSV_CMD.REFUSED, .w1c)]⟩

/-! OSV_TARGET, offset 0x0004 (09_optical_servo.md) -/
def OSV_TARGET.ADU : Fld := ⟨0x400a0004, 0, 24, 0⟩
def OSV_TARGET.LAYER : Fld := ⟨0x400a0004, 24, 4, 0⟩
def OSV_TARGET.desc : RegDesc := ⟨0x400a0004, [], [(OSV_TARGET.ADU, .rw), (OSV_TARGET.LAYER, .rw)]⟩

/-! OSV_STAT, offset 0x0008 (09_optical_servo.md) -/
def OSV_STAT.STATE : Fld := ⟨0x400a0008, 0, 4, 0⟩
def OSV_STAT.LAYER : Fld := ⟨0x400a0008, 4, 4, 0⟩
def OSV_STAT.WOB_LOCK : Fld := ⟨0x400a0008, 8, 1, 0⟩
def OSV_STAT.PERMIT : Fld := ⟨0x400a0008, 9, 1, 0⟩
def OSV_STAT.LTBL : Fld := ⟨0x400a0008, 10, 1, 0⟩
def OSV_STAT.PARKED : Fld := ⟨0x400a0008, 11, 1, 1⟩
def OSV_STAT.desc : RegDesc := ⟨0x400a0008, [], [(OSV_STAT.STATE, .ro), (OSV_STAT.LAYER, .ro), (OSV_STAT.WOB_LOCK, .ro), (OSV_STAT.PERMIT, .ro), (OSV_STAT.LTBL, .ro), (OSV_STAT.PARKED, .ro)]⟩

/-! OSV_ADDR, offset 0x000c (09_optical_servo.md) -/
def OSV_ADDR.ADU : Fld := ⟨0x400a000c, 0, 24, 0⟩
def OSV_ADDR.LAYER : Fld := ⟨0x400a000c, 24, 4, 0⟩
def OSV_ADDR.VALID : Fld := ⟨0x400a000c, 31, 1, 0⟩
def OSV_ADDR.desc : RegDesc := ⟨0x400a000c, [], [(OSV_ADDR.ADU, .ro), (OSV_ADDR.LAYER, .ro), (OSV_ADDR.VALID, .ro)]⟩

/-! OSV_FAULT, offset 0x0010 (09_optical_servo.md) -/
def OSV_FAULT.FOCUS : Fld := ⟨0x400a0010, 0, 1, 0⟩
def OSV_FAULT.TRACK : Fld := ⟨0x400a0010, 1, 1, 0⟩
def OSV_FAULT.WOBBLE : Fld := ⟨0x400a0010, 2, 1, 0⟩
def OSV_FAULT.LINK : Fld := ⟨0x400a0010, 3, 1, 0⟩
def OSV_FAULT.SEEK : Fld := ⟨0x400a0010, 4, 1, 0⟩
def OSV_FAULT.JUMP : Fld := ⟨0x400a0010, 5, 1, 0⟩
def OSV_FAULT.NOFOCUS : Fld := ⟨0x400a0010, 6, 1, 0⟩
def OSV_FAULT.STAGE : Fld := ⟨0x400a0010, 7, 1, 0⟩
def OSV_FAULT.VMOT : Fld := ⟨0x400a0010, 8, 1, 0⟩
def OSV_FAULT.desc : RegDesc := ⟨0x400a0010, [], [(OSV_FAULT.FOCUS, .w1c), (OSV_FAULT.TRACK, .w1c), (OSV_FAULT.WOBBLE, .w1c), (OSV_FAULT.LINK, .w1c), (OSV_FAULT.SEEK, .w1c), (OSV_FAULT.JUMP, .w1c), (OSV_FAULT.NOFOCUS, .w1c), (OSV_FAULT.STAGE, .w1c), (OSV_FAULT.VMOT, .w1c)]⟩

/-! OSV_FOCUS_CFG, offset 0x0014 (09_optical_servo.md) -/
def OSV_FOCUS_CFG.SUM_MIN : Fld := ⟨0x400a0014, 0, 8, 32⟩
def OSV_FOCUS_CFG.LOSS_N : Fld := ⟨0x400a0014, 8, 4, 8⟩
def OSV_FOCUS_CFG.SWEEPS : Fld := ⟨0x400a0014, 12, 4, 3⟩
def OSV_FOCUS_CFG.SWEEP_MS : Fld := ⟨0x400a0014, 16, 8, 100⟩
def OSV_FOCUS_CFG.BLIND_T : Fld := ⟨0x400a0014, 24, 8, 40⟩
def OSV_FOCUS_CFG.desc : RegDesc := ⟨0x400a0014, [], [(OSV_FOCUS_CFG.SUM_MIN, .rw), (OSV_FOCUS_CFG.LOSS_N, .rw), (OSV_FOCUS_CFG.SWEEPS, .rw), (OSV_FOCUS_CFG.SWEEP_MS, .rw), (OSV_FOCUS_CFG.BLIND_T, .rw)]⟩

/-! OSV_LJ_CFG, offset 0x0018 (09_optical_servo.md) -/
def OSV_LJ_CFG.KICK : Fld := ⟨0x400a0018, 0, 16, 0⟩
def OSV_LJ_CFG.KICK_T : Fld := ⟨0x400a0018, 16, 8, 40⟩
def OSV_LJ_CFG.TMO : Fld := ⟨0x400a0018, 24, 8, 0⟩
def OSV_LJ_CFG.desc : RegDesc := ⟨0x400a0018, [], [(OSV_LJ_CFG.KICK, .rw), (OSV_LJ_CFG.KICK_T, .rw), (OSV_LJ_CFG.TMO, .rw)]⟩

/-! OSV_SEEK_CFG, offset 0x001c (09_optical_servo.md) -/
def OSV_SEEK_CFG.LENS_MAX : Fld := ⟨0x400a001c, 0, 12, 512⟩
def OSV_SEEK_CFG.CORR_MAX : Fld := ⟨0x400a001c, 12, 4, 3⟩
def OSV_SEEK_CFG.LOOKAHEAD : Fld := ⟨0x400a001c, 16, 8, 8⟩
def OSV_SEEK_CFG.SLED_DB : Fld := ⟨0x400a001c, 24, 8, 32⟩
def OSV_SEEK_CFG.desc : RegDesc := ⟨0x400a001c, [], [(OSV_SEEK_CFG.LENS_MAX, .rw), (OSV_SEEK_CFG.CORR_MAX, .rw), (OSV_SEEK_CFG.LOOKAHEAD, .rw), (OSV_SEEK_CFG.SLED_DB, .rw)]⟩

/-! OSV_WR_CFG, offset 0x0020 (09_optical_servo.md) -/
def OSV_WR_CFG.WR_TE : Fld := ⟨0x400a0020, 0, 8, 24⟩
def OSV_WR_CFG.WR_FE : Fld := ⟨0x400a0020, 8, 8, 24⟩
def OSV_WR_CFG.WR_SUM : Fld := ⟨0x400a0020, 16, 8, 192⟩
def OSV_WR_CFG.REQUAL : Fld := ⟨0x400a0020, 24, 8, 64⟩
def OSV_WR_CFG.desc : RegDesc := ⟨0x400a0020, [], [(OSV_WR_CFG.WR_TE, .rw), (OSV_WR_CFG.WR_FE, .rw), (OSV_WR_CFG.WR_SUM, .rw), (OSV_WR_CFG.REQUAL, .rw)]⟩

/-! OSV_WOB_CFG, offset 0x0024 (09_optical_servo.md) -/
def OSV_WOB_CFG.PHASE_TOL : Fld := ⟨0x400a0024, 0, 5, 8⟩
def OSV_WOB_CFG.desc : RegDesc := ⟨0x400a0024, [], [(OSV_WOB_CFG.PHASE_TOL, .rw)]⟩

/-! OSV_LTBL_LO, offset 0x0028 (09_optical_servo.md) -/
def OSV_LTBL_LO.ADDR : Fld := ⟨0x400a0028, 9, 23, 0⟩
def OSV_LTBL_LO.desc : RegDesc := ⟨0x400a0028, [], [(OSV_LTBL_LO.ADDR, .rw)]⟩

/-! OSV_LTBL_HI, offset 0x002c (09_optical_servo.md) -/
def OSV_LTBL_HI.ADDR : Fld := ⟨0x400a002c, 0, 8, 0⟩
def OSV_LTBL_HI.desc : RegDesc := ⟨0x400a002c, [], [(OSV_LTBL_HI.ADDR, .rw)]⟩

/-! OSV_CNT, offset 0x0030 (09_optical_servo.md) -/
def OSV_CNT.LOSSES : Fld := ⟨0x400a0030, 0, 16, 0⟩
def OSV_CNT.WFALLS : Fld := ⟨0x400a0030, 16, 16, 0⟩
def OSV_CNT.desc : RegDesc := ⟨0x400a0030, [], [(OSV_CNT.LOSSES, .ro), (OSV_CNT.WFALLS, .ro)]⟩

/-! OSV_PULL_CFG, offset 0x0034 (09_optical_servo.md) -/
def OSV_PULL_CFG.FE_SETTLE : Fld := ⟨0x400a0034, 0, 8, 16⟩
def OSV_PULL_CFG.TE_PULL : Fld := ⟨0x400a0034, 8, 8, 24⟩
def OSV_PULL_CFG.FE_LOSS : Fld := ⟨0x400a0034, 16, 8, 128⟩
def OSV_PULL_CFG.TE_LOSS : Fld := ⟨0x400a0034, 24, 8, 128⟩
def OSV_PULL_CFG.desc : RegDesc := ⟨0x400a0034, [], [(OSV_PULL_CFG.FE_SETTLE, .rw), (OSV_PULL_CFG.TE_PULL, .rw), (OSV_PULL_CFG.FE_LOSS, .rw), (OSV_PULL_CFG.TE_LOSS, .rw)]⟩

/-! OSV_SWEEP_CFG, offset 0x0038 (09_optical_servo.md) -/
def OSV_SWEEP_CFG.SWEEP_I : Fld := ⟨0x400a0038, 0, 8, 192⟩
def OSV_SWEEP_CFG.desc : RegDesc := ⟨0x400a0038, [], [(OSV_SWEEP_CFG.SWEEP_I, .rw)]⟩

/-! OSV_DSPIN, offset 0x0040 (09_optical_servo.md) -/
def OSV_DSPIN.TARGET : Fld := ⟨0x400a0040, 0, 14, 0⟩
def OSV_DSPIN.CLR : Fld := ⟨0x400a0040, 14, 1, 0⟩
def OSV_DSPIN.ILIM : Fld := ⟨0x400a0040, 16, 16, 20480⟩
def OSV_DSPIN.desc : RegDesc := ⟨0x400a0040, [], [(OSV_DSPIN.TARGET, .rw), (OSV_DSPIN.CLR, .w1s), (OSV_DSPIN.ILIM, .rw)]⟩

/-! OSV_DSTAT, offset 0x0044 (09_optical_servo.md) -/
def OSV_DSTAT.STATE : Fld := ⟨0x400a0044, 0, 4, 0⟩
def OSV_DSTAT.ATTEMPTS : Fld := ⟨0x400a0044, 4, 2, 0⟩
def OSV_DSTAT.REVERSE : Fld := ⟨0x400a0044, 6, 1, 0⟩
def OSV_DSTAT.SPEED : Fld := ⟨0x400a0044, 8, 14, 0⟩
def OSV_DSTAT.desc : RegDesc := ⟨0x400a0044, [], [(OSV_DSTAT.STATE, .ro), (OSV_DSTAT.ATTEMPTS, .ro), (OSV_DSTAT.REVERSE, .ro), (OSV_DSTAT.SPEED, .ro)]⟩

/-! OSV_DSTART, offset 0x0048 (09_optical_servo.md) -/
def OSV_DSTART.ALIGN_MS : Fld := ⟨0x400a0048, 0, 10, 60⟩
def OSV_DSTART.ALIGN_I : Fld := ⟨0x400a0048, 10, 8, 48⟩
def OSV_DSTART.RAMP_ACC : Fld := ⟨0x400a0048, 18, 14, 2000⟩
def OSV_DSTART.desc : RegDesc := ⟨0x400a0048, [], [(OSV_DSTART.ALIGN_MS, .rw), (OSV_DSTART.ALIGN_I, .rw), (OSV_DSTART.RAMP_ACC, .rw)]⟩

/-! OSV_DRAMP, offset 0x004c (09_optical_servo.md) -/
def OSV_DRAMP.HANDOVER : Fld := ⟨0x400a004c, 0, 12, 300⟩
def OSV_DRAMP.ACC : Fld := ⟨0x400a004c, 12, 10, 400⟩
def OSV_DRAMP.DEC : Fld := ⟨0x400a004c, 22, 10, 150⟩
def OSV_DRAMP.desc : RegDesc := ⟨0x400a004c, [], [(OSV_DRAMP.HANDOVER, .rw), (OSV_DRAMP.ACC, .rw), (OSV_DRAMP.DEC, .rw)]⟩

/-! OCH_CTL, offset 0x0000 (10_optical_channel.md) -/
def OCH_CTL.EN : Fld := ⟨0x400b0000, 0, 1, 0⟩
def OCH_CTL.ERASE_EN : Fld := ⟨0x400b0000, 1, 1, 1⟩
def OCH_CTL.VERIFY_EN : Fld := ⟨0x400b0000, 2, 1, 1⟩
def OCH_CTL.ABORT : Fld := ⟨0x400b0000, 3, 1, 0⟩
def OCH_CTL.desc : RegDesc := ⟨0x400b0000, [], [(OCH_CTL.EN, .rw), (OCH_CTL.ERASE_EN, .rw), (OCH_CTL.VERIFY_EN, .rw), (OCH_CTL.ABORT, .w1s)]⟩

/-! OCH_STAT, offset 0x0004 (10_optical_channel.md) -/
def OCH_STAT.STATE : Fld := ⟨0x400b0004, 0, 3, 0⟩
def OCH_STAT.WRITING : Fld := ⟨0x400b0004, 3, 1, 0⟩
def OCH_STAT.READY : Fld := ⟨0x400b0004, 4, 1, 0⟩
def OCH_STAT.QUEUED : Fld := ⟨0x400b0004, 5, 2, 0⟩
def OCH_STAT.SYNC_LOST : Fld := ⟨0x400b0004, 16, 1, 0⟩
def OCH_STAT.desc : RegDesc := ⟨0x400b0004, [], [(OCH_STAT.STATE, .ro), (OCH_STAT.WRITING, .ro), (OCH_STAT.READY, .ro), (OCH_STAT.QUEUED, .ro), (OCH_STAT.SYNC_LOST, .w1c)]⟩

/-! OCH_CMD, offset 0x0008 (10_optical_channel.md) -/
def OCH_CMD.OP : Fld := ⟨0x400b0008, 0, 3, 0⟩
def OCH_CMD.SLOT : Fld := ⟨0x400b0008, 3, 2, 0⟩
def OCH_CMD.GO : Fld := ⟨0x400b0008, 8, 1, 0⟩
def OCH_CMD.REFUSED : Fld := ⟨0x400b0008, 9, 1, 0⟩
def OCH_CMD.desc : RegDesc := ⟨0x400b0008, [], [(OCH_CMD.OP, .rw), (OCH_CMD.SLOT, .rw), (OCH_CMD.GO, .w1s), (OCH_CMD.REFUSED, .w1c)]⟩

/-! OCH_ADDR, offset 0x000c (10_optical_channel.md) -/
def OCH_ADDR.CLUSTER : Fld := ⟨0x400b000c, 0, 18, 0⟩
def OCH_ADDR.LAYER : Fld := ⟨0x400b000c, 18, 4, 0⟩
def OCH_ADDR.desc : RegDesc := ⟨0x400b000c, [], [(OCH_ADDR.CLUSTER, .rw), (OCH_ADDR.LAYER, .rw)]⟩

/-! OCH_RESULT, offset 0x0010 (10_optical_channel.md) -/
def OCH_RESULT.CODE (k : Nat) : Fld := ⟨0x400b0010 + 4 * k, 0, 3, 0⟩
def OCH_RESULT.ER_EVEN (k : Nat) : Fld := ⟨0x400b0010 + 4 * k, 8, 8, 0⟩
def OCH_RESULT.ER_ODD (k : Nat) : Fld := ⟨0x400b0010 + 4 * k, 16, 8, 0⟩
def OCH_RESULT.MAX_FIX (k : Nat) : Fld := ⟨0x400b0010 + 4 * k, 24, 6, 0⟩
def OCH_RESULT.DONE (k : Nat) : Fld := ⟨0x400b0010 + 4 * k, 31, 1, 0⟩
def OCH_RESULT.desc : RegDesc := ⟨0x400b0010, [(3, 4)], [(OCH_RESULT.CODE 0, .ro), (OCH_RESULT.ER_EVEN 0, .ro), (OCH_RESULT.ER_ODD 0, .ro), (OCH_RESULT.MAX_FIX 0, .ro), (OCH_RESULT.DONE 0, .w1c)]⟩

/-! OCH_SYNC_CFG, offset 0x0020 (10_optical_channel.md) -/
def OCH_SYNC_CFG.TOL : Fld := ⟨0x400b0020, 0, 4, 3⟩
def OCH_SYNC_CFG.FLY_MAX : Fld := ⟨0x400b0020, 4, 8, 16⟩
def OCH_SYNC_CFG.desc : RegDesc := ⟨0x400b0020, [], [(OCH_SYNC_CFG.TOL, .rw), (OCH_SYNC_CFG.FLY_MAX, .rw)]⟩

/-! OCH_DD_CFG, offset 0x0024 (10_optical_channel.md) -/
def OCH_DD_CFG.DROP : Fld := ⟨0x400b0024, 0, 8, 64⟩
def OCH_DD_CFG.MINLEN : Fld := ⟨0x400b0024, 8, 8, 32⟩
def OCH_DD_CFG.EXT : Fld := ⟨0x400b0024, 16, 8, 32⟩
def OCH_DD_CFG.desc : RegDesc := ⟨0x400b0024, [], [(OCH_DD_CFG.DROP, .rw), (OCH_DD_CFG.MINLEN, .rw), (OCH_DD_CFG.EXT, .rw)]⟩

/-! OCH_ECC_CFG, offset 0x0028 (10_optical_channel.md) -/
def OCH_ECC_CFG.SUSPECT : Fld := ⟨0x400b0028, 0, 6, 12⟩
def OCH_ECC_CFG.RETRIES : Fld := ⟨0x400b0028, 8, 8, 4⟩
def OCH_ECC_CFG.desc : RegDesc := ⟨0x400b0028, [], [(OCH_ECC_CFG.SUSPECT, .rw), (OCH_ECC_CFG.RETRIES, .rw)]⟩

/-! OCH_VERIFY_CFG, offset 0x002c (10_optical_channel.md) -/
def OCH_VERIFY_CFG.ROW_MAX : Fld := ⟨0x400b002c, 0, 4, 8⟩
def OCH_VERIFY_CFG.ER_MAX : Fld := ⟨0x400b002c, 4, 4, 2⟩
def OCH_VERIFY_CFG.VOID_MAX : Fld := ⟨0x400b002c, 16, 16, 256⟩
def OCH_VERIFY_CFG.desc : RegDesc := ⟨0x400b002c, [], [(OCH_VERIFY_CFG.ROW_MAX, .rw), (OCH_VERIFY_CFG.ER_MAX, .rw), (OCH_VERIFY_CFG.VOID_MAX, .rw)]⟩

/-! OCH_CNT, offset 0x0030 (10_optical_channel.md) -/
def OCH_CNT.RECOVERED : Fld := ⟨0x400b0030, 0, 16, 0⟩
def OCH_CNT.FAILED : Fld := ⟨0x400b0030, 16, 16, 0⟩
def OCH_CNT.desc : RegDesc := ⟨0x400b0030, [], [(OCH_CNT.RECOVERED, .ro), (OCH_CNT.FAILED, .ro)]⟩

/-! OCH_DISC, offset 0x0034 (10_optical_channel.md) -/
def OCH_DISC.VOIDS : Fld := ⟨0x400b0034, 0, 16, 0⟩
def OCH_DISC.FAILED : Fld := ⟨0x400b0034, 16, 1, 0⟩
def OCH_DISC.desc : RegDesc := ⟨0x400b0034, [], [(OCH_DISC.VOIDS, .ro), (OCH_DISC.FAILED, .w1c)]⟩

/-! OCH_NEXT, offset 0x0038 (10_optical_channel.md) -/
def OCH_NEXT.CLUSTER : Fld := ⟨0x400b0038, 0, 18, 0⟩
def OCH_NEXT.LAYER : Fld := ⟨0x400b0038, 18, 4, 0⟩
def OCH_NEXT.VALID : Fld := ⟨0x400b0038, 31, 1, 0⟩
def OCH_NEXT.desc : RegDesc := ⟨0x400b0038, [], [(OCH_NEXT.CLUSTER, .ro), (OCH_NEXT.LAYER, .ro), (OCH_NEXT.VALID, .ro)]⟩

/-! OLK_CTL, offset 0x0000 (10_optical_channel.md) -/
def OLK_CTL.EN : Fld := ⟨0x400c0000, 0, 1, 0⟩
def OLK_CTL.RETRAIN : Fld := ⟨0x400c0000, 1, 1, 0⟩
def OLK_CTL.desc : RegDesc := ⟨0x400c0000, [], [(OLK_CTL.EN, .rw), (OLK_CTL.RETRAIN, .w1s)]⟩

/-! OLK_STAT, offset 0x0004 (10_optical_channel.md) -/
def OLK_STAT.RX_LOCK : Fld := ⟨0x400c0004, 0, 1, 0⟩
def OLK_STAT.TX_UP : Fld := ⟨0x400c0004, 1, 1, 0⟩
def OLK_STAT.UP : Fld := ⟨0x400c0004, 2, 1, 0⟩
def OLK_STAT.PIN : Fld := ⟨0x400c0004, 3, 1, 0⟩
def OLK_STAT.MISS : Fld := ⟨0x400c0004, 4, 4, 0⟩
def OLK_STAT.TRIES : Fld := ⟨0x400c0004, 8, 2, 0⟩
def OLK_STAT.FAULT : Fld := ⟨0x400c0004, 16, 1, 0⟩
def OLK_STAT.desc : RegDesc := ⟨0x400c0004, [], [(OLK_STAT.RX_LOCK, .ro), (OLK_STAT.TX_UP, .ro), (OLK_STAT.UP, .ro), (OLK_STAT.PIN, .ro), (OLK_STAT.MISS, .ro), (OLK_STAT.TRIES, .ro), (OLK_STAT.FAULT, .w1c)]⟩

/-! OLK_DELAY, offset 0x0008 (10_optical_channel.md) -/
def OLK_DELAY.DELAY : Fld := ⟨0x400c0008, 0, 12, 0⟩
def OLK_DELAY.desc : RegDesc := ⟨0x400c0008, [], [(OLK_DELAY.DELAY, .ro)]⟩

/-! OLK_FRAMES, offset 0x000c (10_optical_channel.md) -/
def OLK_FRAMES.BAD : Fld := ⟨0x400c000c, 0, 16, 0⟩
def OLK_FRAMES.LATE : Fld := ⟨0x400c000c, 16, 16, 0⟩
def OLK_FRAMES.desc : RegDesc := ⟨0x400c000c, [], [(OLK_FRAMES.BAD, .ro), (OLK_FRAMES.LATE, .ro)]⟩

/-! OLK_ERR, offset 0x0010 (10_optical_channel.md) -/
def OLK_ERR.ERRS : Fld := ⟨0x400c0010, 0, 16, 0⟩
def OLK_ERR.LOCKLOSS : Fld := ⟨0x400c0010, 16, 16, 0⟩
def OLK_ERR.desc : RegDesc := ⟨0x400c0010, [], [(OLK_ERR.ERRS, .ro), (OLK_ERR.LOCKLOSS, .ro)]⟩

/-! OLK_CC_REQ, offset 0x0014 (10_optical_channel.md) -/
def OLK_CC_REQ.ADDR : Fld := ⟨0x400c0014, 0, 8, 0⟩
def OLK_CC_REQ.WRITE : Fld := ⟨0x400c0014, 8, 1, 0⟩
def OLK_CC_REQ.BUSY : Fld := ⟨0x400c0014, 30, 1, 0⟩
def OLK_CC_REQ.GO : Fld := ⟨0x400c0014, 31, 1, 0⟩
def OLK_CC_REQ.desc : RegDesc := ⟨0x400c0014, [], [(OLK_CC_REQ.ADDR, .rw), (OLK_CC_REQ.WRITE, .rw), (OLK_CC_REQ.BUSY, .ro), (OLK_CC_REQ.GO, .w1s)]⟩

/-! OLK_CC_DATA, offset 0x0018 (10_optical_channel.md) -/
def OLK_CC_DATA.DATA : Fld := ⟨0x400c0018, 0, 32, 0⟩
def OLK_CC_DATA.desc : RegDesc := ⟨0x400c0018, [], [(OLK_CC_DATA.DATA, .rw)]⟩

/-! OLK_CC_STAT, offset 0x001c (10_optical_channel.md) -/
def OLK_CC_STAT.DONE : Fld := ⟨0x400c001c, 0, 1, 0⟩
def OLK_CC_STAT.ERROR : Fld := ⟨0x400c001c, 1, 1, 0⟩
def OLK_CC_STAT.TIMEOUT : Fld := ⟨0x400c001c, 2, 1, 0⟩
def OLK_CC_STAT.desc : RegDesc := ⟨0x400c001c, [], [(OLK_CC_STAT.DONE, .w1c), (OLK_CC_STAT.ERROR, .w1c), (OLK_CC_STAT.TIMEOUT, .w1c)]⟩

/-! MOT_AX_CFG, offset 0x0000 (11_magazine_motion.md) -/
def MOT_AX_CFG.EN (ax : Nat) : Fld := ⟨0x400d0000 + 256 * ax, 0, 1, 0⟩
def MOT_AX_CFG.INV (ax : Nat) : Fld := ⟨0x400d0000 + 256 * ax, 1, 1, 0⟩
def MOT_AX_CFG.SCURVE (ax : Nat) : Fld := ⟨0x400d0000 + 256 * ax, 2, 1, 0⟩
def MOT_AX_CFG.AUTO_RES (ax : Nat) : Fld := ⟨0x400d0000 + 256 * ax, 3, 1, 0⟩
def MOT_AX_CFG.RES (ax : Nat) : Fld := ⟨0x400d0000 + 256 * ax, 4, 4, 8⟩
def MOT_AX_CFG.DISC_ILK (ax : Nat) : Fld := ⟨0x400d0000 + 256 * ax, 8, 1, 0⟩
def MOT_AX_CFG.SLAVE (ax : Nat) : Fld := ⟨0x400d0000 + 256 * ax, 9, 1, 0⟩
def MOT_AX_CFG.desc : RegDesc := ⟨0x400d0000, [(4, 256)], [(MOT_AX_CFG.EN 0, .rw), (MOT_AX_CFG.INV 0, .rw), (MOT_AX_CFG.SCURVE 0, .rw), (MOT_AX_CFG.AUTO_RES 0, .rw), (MOT_AX_CFG.RES 0, .rw), (MOT_AX_CFG.DISC_ILK 0, .rw), (MOT_AX_CFG.SLAVE 0, .rw)]⟩

/-! MOT_AX_VEL, offset 0x0004 (11_magazine_motion.md) -/
def MOT_AX_VEL.VMAX (ax : Nat) : Fld := ⟨0x400d0004 + 256 * ax, 0, 16, 0⟩
def MOT_AX_VEL.HOME_V (ax : Nat) : Fld := ⟨0x400d0004 + 256 * ax, 16, 16, 200⟩
def MOT_AX_VEL.desc : RegDesc := ⟨0x400d0004, [(4, 256)], [(MOT_AX_VEL.VMAX 0, .rw), (MOT_AX_VEL.HOME_V 0, .rw)]⟩

/-! MOT_AX_ACC, offset 0x0008 (11_magazine_motion.md) -/
def MOT_AX_ACC.ACC (ax : Nat) : Fld := ⟨0x400d0008 + 256 * ax, 0, 16, 0⟩
def MOT_AX_ACC.DEC (ax : Nat) : Fld := ⟨0x400d0008 + 256 * ax, 16, 16, 0⟩
def MOT_AX_ACC.desc : RegDesc := ⟨0x400d0008, [(4, 256)], [(MOT_AX_ACC.ACC 0, .rw), (MOT_AX_ACC.DEC 0, .rw)]⟩

/-! MOT_AX_LIM2, offset 0x000c (11_magazine_motion.md) -/
def MOT_AX_LIM2.EMAX (ax : Nat) : Fld := ⟨0x400d000c + 256 * ax, 0, 16, 0⟩
def MOT_AX_LIM2.JERK (ax : Nat) : Fld := ⟨0x400d000c + 256 * ax, 16, 16, 0⟩
def MOT_AX_LIM2.desc : RegDesc := ⟨0x400d000c, [(4, 256)], [(MOT_AX_LIM2.EMAX 0, .rw), (MOT_AX_LIM2.JERK 0, .rw)]⟩

/-! MOT_AX_SOFT_MIN, offset 0x0010 (11_magazine_motion.md) -/
def MOT_AX_SOFT_MIN.POS (ax : Nat) : Fld := ⟨0x400d0010 + 256 * ax, 0, 32, 0⟩
def MOT_AX_SOFT_MIN.desc : RegDesc := ⟨0x400d0010, [(4, 256)], [(MOT_AX_SOFT_MIN.POS 0, .rw)]⟩

/-! MOT_AX_SOFT_MAX, offset 0x0014 (11_magazine_motion.md) -/
def MOT_AX_SOFT_MAX.POS (ax : Nat) : Fld := ⟨0x400d0014 + 256 * ax, 0, 32, 0⟩
def MOT_AX_SOFT_MAX.desc : RegDesc := ⟨0x400d0014, [(4, 256)], [(MOT_AX_SOFT_MAX.POS 0, .rw)]⟩

/-! MOT_AX_POS, offset 0x0018 (11_magazine_motion.md) -/
def MOT_AX_POS.POS (ax : Nat) : Fld := ⟨0x400d0018 + 256 * ax, 0, 32, 0⟩
def MOT_AX_POS.desc : RegDesc := ⟨0x400d0018, [(4, 256)], [(MOT_AX_POS.POS 0, .ro)]⟩

/-! MOT_AX_VNOW, offset 0x001c (11_magazine_motion.md) -/
def MOT_AX_VNOW.VEL (ax : Nat) : Fld := ⟨0x400d001c + 256 * ax, 0, 16, 0⟩
def MOT_AX_VNOW.RESNOW (ax : Nat) : Fld := ⟨0x400d001c + 256 * ax, 16, 4, 8⟩
def MOT_AX_VNOW.desc : RegDesc := ⟨0x400d001c, [(4, 256)], [(MOT_AX_VNOW.VEL 0, .ro), (MOT_AX_VNOW.RESNOW 0, .ro)]⟩

/-! MOT_AX_CUR, offset 0x0020 (11_magazine_motion.md) -/
def MOT_AX_CUR.RUN (ax : Nat) : Fld := ⟨0x400d0020 + 256 * ax, 0, 12, 0⟩
def MOT_AX_CUR.HOLD (ax : Nat) : Fld := ⟨0x400d0020 + 256 * ax, 12, 12, 0⟩
def MOT_AX_CUR.DELAY (ax : Nat) : Fld := ⟨0x400d0020 + 256 * ax, 24, 8, 20⟩
def MOT_AX_CUR.desc : RegDesc := ⟨0x400d0020, [(4, 256)], [(MOT_AX_CUR.RUN 0, .rw), (MOT_AX_CUR.HOLD 0, .rw), (MOT_AX_CUR.DELAY 0, .rw)]⟩

/-! MOT_AX_CHOP, offset 0x0024 (11_magazine_motion.md) -/
def MOT_AX_CHOP.TOFF (ax : Nat) : Fld := ⟨0x400d0024 + 256 * ax, 0, 8, 200⟩
def MOT_AX_CHOP.BLANK (ax : Nat) : Fld := ⟨0x400d0024 + 256 * ax, 8, 8, 100⟩
def MOT_AX_CHOP.FAST (ax : Nat) : Fld := ⟨0x400d0024 + 256 * ax, 16, 4, 4⟩
def MOT_AX_CHOP.desc : RegDesc := ⟨0x400d0024, [(4, 256)], [(MOT_AX_CHOP.TOFF 0, .rw), (MOT_AX_CHOP.BLANK 0, .rw), (MOT_AX_CHOP.FAST 0, .rw)]⟩

/-! MOT_AX_HOME, offset 0x0028 (11_magazine_motion.md) -/
def MOT_AX_HOME.CREEP (ax : Nat) : Fld := ⟨0x400d0028 + 256 * ax, 0, 12, 20⟩
def MOT_AX_HOME.DIR (ax : Nat) : Fld := ⟨0x400d0028 + 256 * ax, 12, 1, 0⟩
def MOT_AX_HOME.RANGE (ax : Nat) : Fld := ⟨0x400d0028 + 256 * ax, 16, 16, 0⟩
def MOT_AX_HOME.desc : RegDesc := ⟨0x400d0028, [(4, 256)], [(MOT_AX_HOME.CREEP 0, .rw), (MOT_AX_HOME.DIR 0, .rw), (MOT_AX_HOME.RANGE 0, .rw)]⟩

/-! MOT_AX_STAT, offset 0x002c (11_magazine_motion.md) -/
def MOT_AX_STAT.STATE (ax : Nat) : Fld := ⟨0x400d002c + 256 * ax, 0, 4, 0⟩
def MOT_AX_STAT.HSTEP (ax : Nat) : Fld := ⟨0x400d002c + 256 * ax, 4, 3, 0⟩
def MOT_AX_STAT.HOMED (ax : Nat) : Fld := ⟨0x400d002c + 256 * ax, 7, 1, 0⟩
def MOT_AX_STAT.HOLD_I (ax : Nat) : Fld := ⟨0x400d002c + 256 * ax, 8, 1, 0⟩
def MOT_AX_STAT.LIMIT_HELD (ax : Nat) : Fld := ⟨0x400d002c + 256 * ax, 16, 1, 0⟩
def MOT_AX_STAT.ESTOP (ax : Nat) : Fld := ⟨0x400d002c + 256 * ax, 17, 1, 0⟩
def MOT_AX_STAT.CHATTER (ax : Nat) : Fld := ⟨0x400d002c + 256 * ax, 18, 1, 0⟩
def MOT_AX_STAT.HOME_FAIL (ax : Nat) : Fld := ⟨0x400d002c + 256 * ax, 19, 1, 0⟩
def MOT_AX_STAT.STAGE (ax : Nat) : Fld := ⟨0x400d002c + 256 * ax, 20, 1, 0⟩
def MOT_AX_STAT.HCAUSE (ax : Nat) : Fld := ⟨0x400d002c + 256 * ax, 21, 3, 0⟩
def MOT_AX_STAT.desc : RegDesc := ⟨0x400d002c, [(4, 256)], [(MOT_AX_STAT.STATE 0, .ro), (MOT_AX_STAT.HSTEP 0, .ro), (MOT_AX_STAT.HOMED 0, .ro), (MOT_AX_STAT.HOLD_I 0, .ro), (MOT_AX_STAT.LIMIT_HELD 0, .w1c), (MOT_AX_STAT.ESTOP 0, .w1c), (MOT_AX_STAT.CHATTER 0, .w1c), (MOT_AX_STAT.HOME_FAIL 0, .w1c), (MOT_AX_STAT.STAGE 0, .w1c), (MOT_AX_STAT.HCAUSE 0, .ro)]⟩

/-! MOT_GRP_TGT0, offset 0x0800 (11_magazine_motion.md) -/
def MOT_GRP_TGT0.TGT (g : Nat) : Fld := ⟨0x400d0800 + 32 * g, 0, 32, 0⟩
def MOT_GRP_TGT0.desc : RegDesc := ⟨0x400d0800, [(3, 32)], [(MOT_GRP_TGT0.TGT 0, .rw)]⟩

/-! MOT_GRP_TGT1, offset 0x0804 (11_magazine_motion.md) -/
def MOT_GRP_TGT1.TGT (g : Nat) : Fld := ⟨0x400d0804 + 32 * g, 0, 32, 0⟩
def MOT_GRP_TGT1.desc : RegDesc := ⟨0x400d0804, [(3, 32)], [(MOT_GRP_TGT1.TGT 0, .rw)]⟩

/-! MOT_GRP_CMD, offset 0x0808 (11_magazine_motion.md) -/
def MOT_GRP_CMD.REL (g : Nat) : Fld := ⟨0x400d0808 + 32 * g, 0, 1, 0⟩
def MOT_GRP_CMD.CLASS (g : Nat) : Fld := ⟨0x400d0808 + 32 * g, 1, 2, 0⟩
def MOT_GRP_CMD.AXIS (g : Nat) : Fld := ⟨0x400d0808 + 32 * g, 3, 1, 0⟩
def MOT_GRP_CMD.REPLACE (g : Nat) : Fld := ⟨0x400d0808 + 32 * g, 4, 1, 0⟩
def MOT_GRP_CMD.PUSH (g : Nat) : Fld := ⟨0x400d0808 + 32 * g, 31, 1, 0⟩
def MOT_GRP_CMD.desc : RegDesc := ⟨0x400d0808, [(3, 32)], [(MOT_GRP_CMD.REL 0, .rw), (MOT_GRP_CMD.CLASS 0, .rw), (MOT_GRP_CMD.AXIS 0, .rw), (MOT_GRP_CMD.REPLACE 0, .rw), (MOT_GRP_CMD.PUSH 0, .w1s)]⟩

/-! MOT_GRP_CTL, offset 0x080c (11_magazine_motion.md) -/
def MOT_GRP_CTL.STOP (g : Nat) : Fld := ⟨0x400d080c + 32 * g, 0, 1, 0⟩
def MOT_GRP_CTL.ESTOP (g : Nat) : Fld := ⟨0x400d080c + 32 * g, 1, 1, 0⟩
def MOT_GRP_CTL.JUNC_DV (g : Nat) : Fld := ⟨0x400d080c + 32 * g, 16, 16, 50⟩
def MOT_GRP_CTL.desc : RegDesc := ⟨0x400d080c, [(3, 32)], [(MOT_GRP_CTL.STOP 0, .w1s), (MOT_GRP_CTL.ESTOP 0, .w1s), (MOT_GRP_CTL.JUNC_DV 0, .rw)]⟩

/-! MOT_GRP_STAT, offset 0x0810 (11_magazine_motion.md) -/
def MOT_GRP_STAT.DEPTH (g : Nat) : Fld := ⟨0x400d0810 + 32 * g, 0, 5, 0⟩
def MOT_GRP_STAT.BUSY (g : Nat) : Fld := ⟨0x400d0810 + 32 * g, 5, 1, 0⟩
def MOT_GRP_STAT.DONE (g : Nat) : Fld := ⟨0x400d0810 + 32 * g, 6, 1, 0⟩
def MOT_GRP_STAT.REFUSED (g : Nat) : Fld := ⟨0x400d0810 + 32 * g, 7, 1, 0⟩
def MOT_GRP_STAT.RCAUSE (g : Nat) : Fld := ⟨0x400d0810 + 32 * g, 8, 3, 0⟩
def MOT_GRP_STAT.desc : RegDesc := ⟨0x400d0810, [(3, 32)], [(MOT_GRP_STAT.DEPTH 0, .ro), (MOT_GRP_STAT.BUSY 0, .ro), (MOT_GRP_STAT.DONE 0, .w1c), (MOT_GRP_STAT.REFUSED 0, .w1c), (MOT_GRP_STAT.RCAUSE 0, .ro)]⟩

/-! MOT_SW_CFG, offset 0x0c00 (11_magazine_motion.md) -/
def MOT_SW_CFG.SW : Fld := ⟨0x400d0c00, 0, 32, 0⟩
def MOT_SW_CFG.desc : RegDesc := ⟨0x400d0c00, [], [(MOT_SW_CFG.SW, .rw)]⟩

/-! MOT_SW_POL, offset 0x0c04 (11_magazine_motion.md) -/
def MOT_SW_POL.POL : Fld := ⟨0x400d0c04, 0, 8, 0⟩
def MOT_SW_POL.desc : RegDesc := ⟨0x400d0c04, [], [(MOT_SW_POL.POL, .rw)]⟩

/-! MOT_SW_STAT, offset 0x0c08 (11_magazine_motion.md) -/
def MOT_SW_STAT.RAW : Fld := ⟨0x400d0c08, 0, 8, 0⟩
def MOT_SW_STAT.DEB : Fld := ⟨0x400d0c08, 8, 8, 0⟩
def MOT_SW_STAT.CHAT : Fld := ⟨0x400d0c08, 16, 8, 0⟩
def MOT_SW_STAT.desc : RegDesc := ⟨0x400d0c08, [], [(MOT_SW_STAT.RAW, .ro), (MOT_SW_STAT.DEB, .ro), (MOT_SW_STAT.CHAT, .w1c)]⟩

/-- The Reset words of MOT_SINE, four entries T[4i + j] a word: T[i] = min(255, round(256 sin(90° i / 256))), R297. -/
def sineWords : List Nat :=
  [0x05030200, 0x0b090806, 0x11100e0d, 0x18161413, 0x1e1c1b19, 0x2422211f, 0x2a292726, 0x302f2d2c,
   0x37353332, 0x3d3b3a38, 0x4341403e, 0x49474644, 0x4f4d4c4a, 0x55535250, 0x5b595856, 0x615f5e5c,
   0x66656362, 0x6c6b6968, 0x72706f6d, 0x77767573, 0x7d7b7a79, 0x8281807e, 0x88868584, 0x8d8c8a89,
   0x9291908e, 0x97969593, 0x9c9b9a98, 0xa1a09f9d, 0xa6a5a4a2, 0xabaaa8a7, 0xafaeadac, 0xb4b3b2b1,
   0xb8b7b6b5, 0xbdbcbab9, 0xc1c0bfbe, 0xc5c4c3c2, 0xc9c8c7c6, 0xcdcccbca, 0xd0cfcfce, 0xd4d3d2d1,
   0xd7d7d6d5, 0xdbdad9d8, 0xdedddcdc, 0xe1e0e0df, 0xe4e3e3e2, 0xe7e6e5e5, 0xe9e9e8e7, 0xecebebea,
   0xeeeeeded, 0xf1f0efef, 0xf3f2f2f1, 0xf5f4f4f3, 0xf6f6f5f5, 0xf8f8f7f7, 0xf9f9f9f8, 0xfbfafafa,
   0xfcfcfbfb, 0xfdfdfcfc, 0xfefefdfd, 0xfffefefe, 0xffffffff, 0xffffffff, 0xffffffff, 0xffffffff]
def sineWord (i : Nat) : Nat := sineWords.getD i 0
/-! MOT_SINE, offset 0x0d00 (11_magazine_motion.md) -/
def MOT_SINE.T (i : Nat) : Fld := ⟨0x400d0d00 + 4 * i, 0, 32, sineWord i⟩
def MOT_SINE.desc : RegDesc := ⟨0x400d0d00, [(64, 4)], [(MOT_SINE.T 0, .rw)]⟩

/-! SEAL_CTL, offset 0x0000 (12_seals_and_identity.md) -/
def SEAL_CTL.EN : Fld := ⟨0x400f0000, 0, 1, 0⟩
def SEAL_CTL.WIT_EN : Fld := ⟨0x400f0000, 1, 1, 0⟩
def SEAL_CTL.WIT_SERVE : Fld := ⟨0x400f0000, 2, 1, 0⟩
def SEAL_CTL.desc : RegDesc := ⟨0x400f0000, [], [(SEAL_CTL.EN, .rw), (SEAL_CTL.WIT_EN, .rw), (SEAL_CTL.WIT_SERVE, .rw)]⟩

/-! SEAL_STAT, offset 0x0004 (12_seals_and_identity.md) -/
def SEAL_STAT.KEY_LOADED : Fld := ⟨0x400f0004, 0, 1, 0⟩
def SEAL_STAT.PROV : Fld := ⟨0x400f0004, 1, 1, 0⟩
def SEAL_STAT.SELFTEST : Fld := ⟨0x400f0004, 2, 1, 0⟩
def SEAL_STAT.FAULT : Fld := ⟨0x400f0004, 3, 1, 0⟩
def SEAL_STAT.CONFLICT : Fld := ⟨0x400f0004, 4, 1, 0⟩
def SEAL_STAT.LOG_FULL : Fld := ⟨0x400f0004, 5, 1, 0⟩
def SEAL_STAT.QUEUE : Fld := ⟨0x400f0004, 8, 7, 0⟩
def SEAL_STAT.CTX_USED : Fld := ⟨0x400f0004, 16, 10, 0⟩
def SEAL_STAT.desc : RegDesc := ⟨0x400f0004, [], [(SEAL_STAT.KEY_LOADED, .ro), (SEAL_STAT.PROV, .ro), (SEAL_STAT.SELFTEST, .ro), (SEAL_STAT.FAULT, .w1c), (SEAL_STAT.CONFLICT, .w1c), (SEAL_STAT.LOG_FULL, .ro), (SEAL_STAT.QUEUE, .ro), (SEAL_STAT.CTX_USED, .ro)]⟩

/-! SEAL_SEQ_LO, offset 0x0008 (12_seals_and_identity.md) -/
def SEAL_SEQ_LO.SEQ : Fld := ⟨0x400f0008, 0, 32, 0⟩
def SEAL_SEQ_LO.desc : RegDesc := ⟨0x400f0008, [], [(SEAL_SEQ_LO.SEQ, .ro)]⟩

/-! SEAL_SEQ_HI, offset 0x000c (12_seals_and_identity.md) -/
def SEAL_SEQ_HI.SEQ : Fld := ⟨0x400f000c, 0, 16, 0⟩
def SEAL_SEQ_HI.VALID : Fld := ⟨0x400f000c, 31, 1, 0⟩
def SEAL_SEQ_HI.desc : RegDesc := ⟨0x400f000c, [], [(SEAL_SEQ_HI.SEQ, .ro), (SEAL_SEQ_HI.VALID, .ro)]⟩

/-! SEAL_PROV, offset 0x0010 (12_seals_and_identity.md) -/
def SEAL_PROV.GEN : Fld := ⟨0x400f0010, 0, 1, 0⟩
def SEAL_PROV.BUSY : Fld := ⟨0x400f0010, 1, 1, 0⟩
def SEAL_PROV.KEY : Fld := ⟨0x400f0010, 24, 8, 0⟩
def SEAL_PROV.desc : RegDesc := ⟨0x400f0010, [], [(SEAL_PROV.GEN, .wo), (SEAL_PROV.BUSY, .ro), (SEAL_PROV.KEY, .wo)]⟩

/-! SEAL_CERT_CTL, offset 0x0014 (12_seals_and_identity.md) -/
def SEAL_CERT_CTL.LEN : Fld := ⟨0x400f0014, 0, 12, 0⟩
def SEAL_CERT_CTL.SET : Fld := ⟨0x400f0014, 12, 1, 0⟩
def SEAL_CERT_CTL.COMMIT : Fld := ⟨0x400f0014, 13, 1, 0⟩
def SEAL_CERT_CTL.desc : RegDesc := ⟨0x400f0014, [], [(SEAL_CERT_CTL.LEN, .rw), (SEAL_CERT_CTL.SET, .ro), (SEAL_CERT_CTL.COMMIT, .w1s)]⟩

/-! SEAL_CTX_LO, offset 0x0018 (12_seals_and_identity.md) -/
def SEAL_CTX_LO.ADDR : Fld := ⟨0x400f0018, 12, 20, 0⟩
def SEAL_CTX_LO.desc : RegDesc := ⟨0x400f0018, [], [(SEAL_CTX_LO.ADDR, .rw)]⟩

/-! SEAL_CTX_HI, offset 0x001c (12_seals_and_identity.md) -/
def SEAL_CTX_HI.ADDR : Fld := ⟨0x400f001c, 0, 8, 0⟩
def SEAL_CTX_HI.desc : RegDesc := ⟨0x400f001c, [], [(SEAL_CTX_HI.ADDR, .rw)]⟩

/-! SEAL_CTX_CFG, offset 0x0020 (12_seals_and_identity.md) -/
def SEAL_CTX_CFG.COUNT : Fld := ⟨0x400f0020, 0, 10, 0⟩
def SEAL_CTX_CFG.desc : RegDesc := ⟨0x400f0020, [], [(SEAL_CTX_CFG.COUNT, .rw)]⟩

/-! SEAL_LOG, offset 0x0024 (12_seals_and_identity.md) -/
def SEAL_LOG.ZONES : Fld := ⟨0x400f0024, 0, 16, 0⟩
def SEAL_LOG.LEFT : Fld := ⟨0x400f0024, 16, 10, 0⟩
def SEAL_LOG.desc : RegDesc := ⟨0x400f0024, [], [(SEAL_LOG.ZONES, .ro), (SEAL_LOG.LEFT, .ro)]⟩

/-! SEAL_WIT_CFG, offset 0x0028 (12_seals_and_identity.md) -/
def SEAL_WIT_CFG.PEER0 : Fld := ⟨0x400f0028, 0, 12, 0⟩
def SEAL_WIT_CFG.PEER1 : Fld := ⟨0x400f0028, 12, 12, 0⟩
def SEAL_WIT_CFG.N : Fld := ⟨0x400f0028, 24, 2, 0⟩
def SEAL_WIT_CFG.desc : RegDesc := ⟨0x400f0028, [], [(SEAL_WIT_CFG.PEER0, .rw), (SEAL_WIT_CFG.PEER1, .rw), (SEAL_WIT_CFG.N, .rw)]⟩

/-! SEAL_WIT_TMO, offset 0x002c (12_seals_and_identity.md) -/
def SEAL_WIT_TMO.TMO_MS : Fld := ⟨0x400f002c, 0, 16, 5000⟩
def SEAL_WIT_TMO.RETRIES : Fld := ⟨0x400f002c, 16, 4, 3⟩
def SEAL_WIT_TMO.SERVE_RATE : Fld := ⟨0x400f002c, 20, 12, 100⟩
def SEAL_WIT_TMO.desc : RegDesc := ⟨0x400f002c, [], [(SEAL_WIT_TMO.TMO_MS, .rw), (SEAL_WIT_TMO.RETRIES, .rw), (SEAL_WIT_TMO.SERVE_RATE, .rw)]⟩

/-! SEAL_CNT, offset 0x0030 (12_seals_and_identity.md) -/
def SEAL_CNT.SEALS : Fld := ⟨0x400f0030, 0, 16, 0⟩
def SEAL_CNT.WITNESSED : Fld := ⟨0x400f0030, 16, 16, 0⟩
def SEAL_CNT.desc : RegDesc := ⟨0x400f0030, [], [(SEAL_CNT.SEALS, .ro), (SEAL_CNT.WITNESSED, .ro)]⟩

/-! SEAL_HEAD, offset 0x0100 (12_seals_and_identity.md) -/
def SEAL_HEAD.HASH (i : Nat) : Fld := ⟨0x400f0100 + 4 * i, 0, 32, 0⟩
def SEAL_HEAD.desc : RegDesc := ⟨0x400f0100, [(16, 4)], [(SEAL_HEAD.HASH 0, .ro)]⟩

/-! SEAL_PUBKEY, offset 0x0200 (12_seals_and_identity.md) -/
def SEAL_PUBKEY.KEY (i : Nat) : Fld := ⟨0x400f0200 + 4 * i, 0, 32, 0⟩
def SEAL_PUBKEY.desc : RegDesc := ⟨0x400f0200, [(33, 4)], [(SEAL_PUBKEY.KEY 0, .ro)]⟩

/-! SEAL_KEYID, offset 0x0300 (12_seals_and_identity.md) -/
def SEAL_KEYID.ID (i : Nat) : Fld := ⟨0x400f0300 + 4 * i, 0, 32, 0⟩
def SEAL_KEYID.desc : RegDesc := ⟨0x400f0300, [(16, 4)], [(SEAL_KEYID.ID 0, .ro)]⟩

/-! SEAL_NS_RET, offset 0x0400 (12_seals_and_identity.md) -/
def SEAL_NS_RET.RET (n : Nat) : Fld := ⟨0x400f0400 + 4 * n, 0, 32, 0⟩
def SEAL_NS_RET.desc : RegDesc := ⟨0x400f0400, [(64, 4)], [(SEAL_NS_RET.RET 0, .rw)]⟩

/-! SEAL_CERT, offset 0x1000 (12_seals_and_identity.md) -/
def SEAL_CERT.DATA (i : Nat) : Fld := ⟨0x400f1000 + 4 * i, 0, 32, 0⟩
def SEAL_CERT.desc : RegDesc := ⟨0x400f1000, [(512, 4)], [(SEAL_CERT.DATA 0, .rw)]⟩

/-! HPC_CFG, offset 0x0000 (13_host_ports.md) -/
def HPC_CFG.MAX_SPEED : Fld := ⟨0x40100000, 0, 3, 5⟩
def HPC_CFG.MAX_WIDTH : Fld := ⟨0x40100000, 3, 2, 2⟩
def HPC_CFG.BAR2_IMPL : Fld := ⟨0x40100000, 5, 1, 1⟩
def HPC_CFG.LOCK : Fld := ⟨0x40100000, 31, 1, 0⟩
def HPC_CFG.desc : RegDesc := ⟨0x40100000, [], [(HPC_CFG.MAX_SPEED, .rwl), (HPC_CFG.MAX_WIDTH, .rwl), (HPC_CFG.BAR2_IMPL, .rwl), (HPC_CFG.LOCK, .w1s)]⟩

/-! HPC_LINK, offset 0x0004 (13_host_ports.md) -/
def HPC_LINK.SPEED : Fld := ⟨0x40100004, 0, 3, 0⟩
def HPC_LINK.WIDTH : Fld := ⟨0x40100004, 3, 3, 0⟩
def HPC_LINK.UP : Fld := ⟨0x40100004, 6, 1, 0⟩
def HPC_LINK.L1 : Fld := ⟨0x40100004, 7, 1, 0⟩
def HPC_LINK.PERST : Fld := ⟨0x40100004, 8, 1, 0⟩
def HPC_LINK.desc : RegDesc := ⟨0x40100004, [], [(HPC_LINK.SPEED, .ro), (HPC_LINK.WIDTH, .ro), (HPC_LINK.UP, .ro), (HPC_LINK.L1, .ro), (HPC_LINK.PERST, .ro)]⟩

/-! HPC_ERR, offset 0x0008 (13_host_ports.md) -/
def HPC_ERR.RX_ERR : Fld := ⟨0x40100008, 0, 16, 0⟩
def HPC_ERR.RETRAIN : Fld := ⟨0x40100008, 16, 16, 0⟩
def HPC_ERR.desc : RegDesc := ⟨0x40100008, [], [(HPC_ERR.RX_ERR, .w1cn), (HPC_ERR.RETRAIN, .w1cn)]⟩

/-! HPC_PM, offset 0x000c (13_host_ports.md) -/
def HPC_PM.DSTATE : Fld := ⟨0x4010000c, 0, 2, 0⟩
def HPC_PM.PS : Fld := ⟨0x4010000c, 2, 2, 0⟩
def HPC_PM.PS1_LEVEL : Fld := ⟨0x4010000c, 4, 8, 192⟩
def HPC_PM.PS2_LEVEL : Fld := ⟨0x4010000c, 12, 8, 0⟩
def HPC_PM.D3C_STBY : Fld := ⟨0x4010000c, 20, 1, 0⟩
def HPC_PM.desc : RegDesc := ⟨0x4010000c, [], [(HPC_PM.DSTATE, .ro), (HPC_PM.PS, .ro), (HPC_PM.PS1_LEVEL, .rw), (HPC_PM.PS2_LEVEL, .rw), (HPC_PM.D3C_STBY, .rw)]⟩

/-! HPC_DEMAND, offset 0x0010 (13_host_ports.md) -/
def HPC_DEMAND.MODE : Fld := ⟨0x40100010, 0, 3, 0⟩
def HPC_DEMAND.LEVEL : Fld := ⟨0x40100010, 3, 8, 0⟩
def HPC_DEMAND.CHG : Fld := ⟨0x40100010, 31, 1, 0⟩
def HPC_DEMAND.desc : RegDesc := ⟨0x40100010, [], [(HPC_DEMAND.MODE, .ro), (HPC_DEMAND.LEVEL, .ro), (HPC_DEMAND.CHG, .w1c)]⟩

/-! HSA_DEMAND, offset 0x0810 (13_host_ports.md) -/
def HSA_DEMAND.MODE : Fld := ⟨0x40110810, 0, 3, 0⟩
def HSA_DEMAND.LEVEL : Fld := ⟨0x40110810, 3, 8, 0⟩
def HSA_DEMAND.CHG : Fld := ⟨0x40110810, 31, 1, 0⟩
def HSA_DEMAND.desc : RegDesc := ⟨0x40110810, [], [(HSA_DEMAND.MODE, .ro), (HSA_DEMAND.LEVEL, .ro), (HSA_DEMAND.CHG, .w1c)]⟩

/-! HST_DEMAND, offset 0x0010 (13_host_ports.md) -/
def HST_DEMAND.MODE : Fld := ⟨0x40120010, 0, 3, 0⟩
def HST_DEMAND.LEVEL : Fld := ⟨0x40120010, 3, 8, 0⟩
def HST_DEMAND.CHG : Fld := ⟨0x40120010, 31, 1, 0⟩
def HST_DEMAND.desc : RegDesc := ⟨0x40120010, [], [(HST_DEMAND.MODE, .ro), (HST_DEMAND.LEVEL, .ro), (HST_DEMAND.CHG, .w1c)]⟩

/-! HPC_ID, offset 0x0014 (13_host_ports.md) -/
def HPC_ID.VID : Fld := ⟨0x40100014, 0, 16, 0⟩
def HPC_ID.DID : Fld := ⟨0x40100014, 16, 16, 0⟩
def HPC_ID.desc : RegDesc := ⟨0x40100014, [], [(HPC_ID.VID, .rwl), (HPC_ID.DID, .rwl)]⟩

/-! HPC_HLANE, offset 0x0f00 (13_host_ports.md) -/
def HPC_HLANE.SEL : Fld := ⟨0x40100f00, 0, 3, 7⟩
def HPC_HLANE.AUTO : Fld := ⟨0x40100f00, 3, 1, 1⟩
def HPC_HLANE.FAILED : Fld := ⟨0x40100f00, 4, 7, 0⟩
def HPC_HLANE.desc : RegDesc := ⟨0x40100f00, [], [(HPC_HLANE.SEL, .rw), (HPC_HLANE.AUTO, .rw), (HPC_HLANE.FAILED, .w1c)]⟩

/-! HSA_CFG, offset 0x0000 (13_host_ports.md) -/
def HSA_CFG.EN (p : Nat) : Fld := ⟨0x40110000 + 256 * p, 0, 1, 0⟩
def HSA_CFG.MAX_RATE (p : Nat) : Fld := ⟨0x40110000 + 256 * p, 1, 2, 3⟩
def HSA_CFG.PARTIAL_EN (p : Nat) : Fld := ⟨0x40110000 + 256 * p, 3, 1, 1⟩
def HSA_CFG.SLUMBER_EN (p : Nat) : Fld := ⟨0x40110000 + 256 * p, 4, 1, 1⟩
def HSA_CFG.LOCK (p : Nat) : Fld := ⟨0x40110000 + 256 * p, 31, 1, 0⟩
def HSA_CFG.desc : RegDesc := ⟨0x40110000, [(2, 256)], [(HSA_CFG.EN 0, .rw), (HSA_CFG.MAX_RATE 0, .rwl), (HSA_CFG.PARTIAL_EN 0, .rw), (HSA_CFG.SLUMBER_EN 0, .rw), (HSA_CFG.LOCK 0, .w1s)]⟩

/-! HSA_ADDR_LO, offset 0x0004 (13_host_ports.md) -/
def HSA_ADDR_LO.ADDR (p : Nat) : Fld := ⟨0x40110004 + 256 * p, 0, 32, 0⟩
def HSA_ADDR_LO.desc : RegDesc := ⟨0x40110004, [(2, 256)], [(HSA_ADDR_LO.ADDR 0, .rwl)]⟩

/-! HSA_ADDR_HI, offset 0x0008 (13_host_ports.md) -/
def HSA_ADDR_HI.ADDR (p : Nat) : Fld := ⟨0x40110008 + 256 * p, 0, 32, 0⟩
def HSA_ADDR_HI.desc : RegDesc := ⟨0x40110008, [(2, 256)], [(HSA_ADDR_HI.ADDR 0, .rwl)]⟩

/-! HSA_LINK, offset 0x000c (13_host_ports.md) -/
def HSA_LINK.RATE (p : Nat) : Fld := ⟨0x4011000c + 256 * p, 0, 2, 0⟩
def HSA_LINK.UP (p : Nat) : Fld := ⟨0x4011000c + 256 * p, 2, 1, 0⟩
def HSA_LINK.PSTATE (p : Nat) : Fld := ⟨0x4011000c + 256 * p, 3, 2, 0⟩
def HSA_LINK.desc : RegDesc := ⟨0x4011000c, [(2, 256)], [(HSA_LINK.RATE 0, .ro), (HSA_LINK.UP 0, .ro), (HSA_LINK.PSTATE 0, .ro)]⟩

/-! HSA_ERR, offset 0x0010 (13_host_ports.md) -/
def HSA_ERR.INV_DW (p : Nat) : Fld := ⟨0x40110010 + 256 * p, 0, 16, 0⟩
def HSA_ERR.SYNC_LOSS (p : Nat) : Fld := ⟨0x40110010 + 256 * p, 16, 16, 0⟩
def HSA_ERR.desc : RegDesc := ⟨0x40110010, [(2, 256)], [(HSA_ERR.INV_DW 0, .ro), (HSA_ERR.SYNC_LOSS 0, .ro)]⟩

/-! HSA_NEXUS, offset 0x0800 (13_host_ports.md) -/
def HSA_NEXUS.USED : Fld := ⟨0x40110800, 0, 10, 0⟩
def HSA_NEXUS.FULL : Fld := ⟨0x40110800, 10, 1, 0⟩
def HSA_NEXUS.IDLE_S : Fld := ⟨0x40110800, 16, 16, 300⟩
def HSA_NEXUS.desc : RegDesc := ⟨0x40110800, [], [(HSA_NEXUS.USED, .ro), (HSA_NEXUS.FULL, .w1c), (HSA_NEXUS.IDLE_S, .rw)]⟩

/-! HSA_PM, offset 0x0804 (13_host_ports.md) -/
def HSA_PM.IDLE_B : Fld := ⟨0x40110804, 0, 8, 192⟩
def HSA_PM.IDLE_C : Fld := ⟨0x40110804, 8, 8, 128⟩
def HSA_PM.STBY_Y : Fld := ⟨0x40110804, 16, 8, 64⟩
def HSA_PM.STBY_Z : Fld := ⟨0x40110804, 24, 8, 0⟩
def HSA_PM.desc : RegDesc := ⟨0x40110804, [], [(HSA_PM.IDLE_B, .rw), (HSA_PM.IDLE_C, .rw), (HSA_PM.STBY_Y, .rw), (HSA_PM.STBY_Z, .rw)]⟩

/-! HST_PM, offset 0x0008 (13_host_ports.md) -/
def HST_PM.IDLE_B : Fld := ⟨0x40120008, 0, 8, 192⟩
def HST_PM.IDLE_C : Fld := ⟨0x40120008, 8, 8, 128⟩
def HST_PM.STBY_Y : Fld := ⟨0x40120008, 16, 8, 64⟩
def HST_PM.STBY_Z : Fld := ⟨0x40120008, 24, 8, 0⟩
def HST_PM.desc : RegDesc := ⟨0x40120008, [], [(HST_PM.IDLE_B, .rw), (HST_PM.IDLE_C, .rw), (HST_PM.STBY_Y, .rw), (HST_PM.STBY_Z, .rw)]⟩

/-! HSA_SPINUP, offset 0x0808 (13_host_ports.md) -/
def HSA_SPINUP.WAIT : Fld := ⟨0x40110808, 0, 1, 0⟩
def HSA_SPINUP.GOT : Fld := ⟨0x40110808, 1, 1, 0⟩
def HSA_SPINUP.desc : RegDesc := ⟨0x40110808, [], [(HSA_SPINUP.WAIT, .rw), (HSA_SPINUP.GOT, .ro)]⟩

/-! HST_CFG, offset 0x0000 (13_host_ports.md) -/
def HST_CFG.EN : Fld := ⟨0x40120000, 0, 1, 0⟩
def HST_CFG.MAX_GEN : Fld := ⟨0x40120000, 1, 2, 3⟩
def HST_CFG.DIPM_ALLOW : Fld := ⟨0x40120000, 3, 1, 1⟩
def HST_CFG.LOCK : Fld := ⟨0x40120000, 31, 1, 0⟩
def HST_CFG.desc : RegDesc := ⟨0x40120000, [], [(HST_CFG.EN, .rw), (HST_CFG.MAX_GEN, .rwl), (HST_CFG.DIPM_ALLOW, .rw), (HST_CFG.LOCK, .w1s)]⟩

/-! HST_LINK, offset 0x0004 (13_host_ports.md) -/
def HST_LINK.GEN : Fld := ⟨0x40120004, 0, 2, 0⟩
def HST_LINK.UP : Fld := ⟨0x40120004, 2, 1, 0⟩
def HST_LINK.PSTATE : Fld := ⟨0x40120004, 3, 2, 0⟩
def HST_LINK.TAGS : Fld := ⟨0x40120004, 5, 6, 0⟩
def HST_LINK.NS : Fld := ⟨0x40120004, 11, 6, 0⟩
def HST_LINK.NS_VALID : Fld := ⟨0x40120004, 17, 1, 0⟩
def HST_LINK.desc : RegDesc := ⟨0x40120004, [], [(HST_LINK.GEN, .ro), (HST_LINK.UP, .ro), (HST_LINK.PSTATE, .ro), (HST_LINK.TAGS, .ro), (HST_LINK.NS, .ro), (HST_LINK.NS_VALID, .ro)]⟩

/-! SMB_CFG, offset 0x0000 (13_host_ports.md) -/
def SMB_CFG.ADDR : Fld := ⟨0x401f0000, 0, 7, 0⟩
def SMB_CFG.EN : Fld := ⟨0x401f0000, 7, 1, 1⟩
def SMB_CFG.SPEED : Fld := ⟨0x401f0000, 8, 2, 1⟩
def SMB_CFG.LOCK : Fld := ⟨0x401f0000, 31, 1, 0⟩
def SMB_CFG.desc : RegDesc := ⟨0x401f0000, [], [(SMB_CFG.ADDR, .rwl), (SMB_CFG.EN, .rw), (SMB_CFG.SPEED, .rw), (SMB_CFG.LOCK, .w1s)]⟩

/-! SMB_STAT, offset 0x0004 (13_host_ports.md) -/
def SMB_STAT.BUSY : Fld := ⟨0x401f0004, 0, 1, 0⟩
def SMB_STAT.HELD : Fld := ⟨0x401f0004, 1, 3, 0⟩
def SMB_STAT.WAKE_RX : Fld := ⟨0x401f0004, 4, 1, 0⟩
def SMB_STAT.desc : RegDesc := ⟨0x401f0004, [], [(SMB_STAT.BUSY, .ro), (SMB_STAT.HELD, .ro), (SMB_STAT.WAKE_RX, .w1c)]⟩

/-! SMB_ERR, offset 0x0008 (13_host_ports.md) -/
def SMB_ERR.PEC : Fld := ⟨0x401f0008, 0, 8, 0⟩
def SMB_ERR.ARB : Fld := ⟨0x401f0008, 8, 8, 0⟩
def SMB_ERR.TIMEOUT : Fld := ⟨0x401f0008, 16, 8, 0⟩
def SMB_ERR.NACK : Fld := ⟨0x401f0008, 24, 8, 0⟩
def SMB_ERR.desc : RegDesc := ⟨0x401f0008, [], [(SMB_ERR.PEC, .ro), (SMB_ERR.ARB, .ro), (SMB_ERR.TIMEOUT, .ro), (SMB_ERR.NACK, .ro)]⟩

/-! CMD_CTL, offset 0x0000 (14_command_store.md) -/
def CMD_CTL.EN : Fld := ⟨0x40130000, 0, 1, 0⟩
def CMD_CTL.FETCH_STOP : Fld := ⟨0x40130000, 1, 1, 0⟩
def CMD_CTL.desc : RegDesc := ⟨0x40130000, [], [(CMD_CTL.EN, .rw), (CMD_CTL.FETCH_STOP, .ro)]⟩

/-! CMD_POOL_STAT, offset 0x0004 (14_command_store.md) -/
def CMD_POOL_STAT.USED : Fld := ⟨0x40130004, 0, 18, 0⟩
def CMD_POOL_STAT.FULL : Fld := ⟨0x40130004, 31, 1, 0⟩
def CMD_POOL_STAT.desc : RegDesc := ⟨0x40130004, [], [(CMD_POOL_STAT.USED, .ro), (CMD_POOL_STAT.FULL, .w1c)]⟩

/-! CMD_EXEC_STAT, offset 0x0008 (14_command_store.md) -/
def CMD_EXEC_STAT.EXEC : Fld := ⟨0x40130008, 0, 13, 0⟩
def CMD_EXEC_STAT.desc : RegDesc := ⟨0x40130008, [], [(CMD_EXEC_STAT.EXEC, .ro)]⟩

/-! CMD_POOL_LO, offset 0x0010 (14_command_store.md) -/
def CMD_POOL_LO.ADDR : Fld := ⟨0x40130010, 24, 8, 0⟩
def CMD_POOL_LO.desc : RegDesc := ⟨0x40130010, [], [(CMD_POOL_LO.ADDR, .rw)]⟩

/-! CMD_POOL_HI, offset 0x0014 (14_command_store.md) -/
def CMD_POOL_HI.ADDR : Fld := ⟨0x40130014, 0, 8, 0⟩
def CMD_POOL_HI.desc : RegDesc := ⟨0x40130014, [], [(CMD_POOL_HI.ADDR, .rw)]⟩

/-! CMD_RSV, offset 0x0018 (14_command_store.md) -/
def CMD_RSV.ADMIN : Fld := ⟨0x40130018, 0, 12, 256⟩
def CMD_RSV.SAS : Fld := ⟨0x40130018, 12, 16, 4096⟩
def CMD_RSV.desc : RegDesc := ⟨0x40130018, [], [(CMD_RSV.ADMIN, .rw), (CMD_RSV.SAS, .rw)]⟩

/-! CMD_STAMP_LO, offset 0x0020 (14_command_store.md) -/
def CMD_STAMP_LO.STAMP : Fld := ⟨0x40130020, 0, 32, 0⟩
def CMD_STAMP_LO.desc : RegDesc := ⟨0x40130020, [], [(CMD_STAMP_LO.STAMP, .ro)]⟩

/-! CMD_STAMP_HI, offset 0x0024 (14_command_store.md) -/
def CMD_STAMP_HI.STAMP : Fld := ⟨0x40130024, 0, 16, 0⟩
def CMD_STAMP_HI.desc : RegDesc := ⟨0x40130024, [], [(CMD_STAMP_HI.STAMP, .ro)]⟩

/-! CMD_WC_CFG, offset 0x0030 (14_command_store.md) -/
def CMD_WC_CFG.SIZE : Fld := ⟨0x40130030, 0, 7, 0⟩
def CMD_WC_CFG.desc : RegDesc := ⟨0x40130030, [], [(CMD_WC_CFG.SIZE, .rw)]⟩

/-! CMD_WC_STAT, offset 0x0034 (14_command_store.md) -/
def CMD_WC_STAT.DIRTY : Fld := ⟨0x40130034, 0, 13, 0⟩
def CMD_WC_STAT.WAIT : Fld := ⟨0x40130034, 13, 1, 0⟩
def CMD_WC_STAT.desc : RegDesc := ⟨0x40130034, [], [(CMD_WC_STAT.DIRTY, .ro), (CMD_WC_STAT.WAIT, .ro)]⟩

/-! CMD_WCE_LO, offset 0x0038 (14_command_store.md) -/
def CMD_WCE_LO.EN : Fld := ⟨0x40130038, 0, 32, 4294967295⟩
def CMD_WCE_LO.desc : RegDesc := ⟨0x40130038, [], [(CMD_WCE_LO.EN, .rw)]⟩

/-! CMD_WCE_HI, offset 0x003c (14_command_store.md) -/
def CMD_WCE_HI.EN : Fld := ⟨0x4013003c, 0, 32, 4294967295⟩
def CMD_WCE_HI.desc : RegDesc := ⟨0x4013003c, [], [(CMD_WCE_HI.EN, .rw)]⟩

/-! CMD_LWL, offset 0x0040 (14_command_store.md) -/
def CMD_LWL.COUNT : Fld := ⟨0x40130040, 0, 13, 0⟩
def CMD_LWL.MERGED : Fld := ⟨0x40130040, 16, 1, 0⟩
def CMD_LWL.UNREP : Fld := ⟨0x40130040, 17, 13, 0⟩
def CMD_LWL.desc : RegDesc := ⟨0x40130040, [], [(CMD_LWL.COUNT, .ro), (CMD_LWL.MERGED, .w1c), (CMD_LWL.UNREP, .ro)]⟩

/-! CMD_LWL_IDX, offset 0x0044 (14_command_store.md) -/
def CMD_LWL_IDX.IDX : Fld := ⟨0x40130044, 0, 12, 0⟩
def CMD_LWL_IDX.desc : RegDesc := ⟨0x40130044, [], [(CMD_LWL_IDX.IDX, .rw)]⟩

/-! CMD_LWL_E0, offset 0x0048 (14_command_store.md) -/
def CMD_LWL_E0.LBA : Fld := ⟨0x40130048, 0, 32, 0⟩
def CMD_LWL_E0.desc : RegDesc := ⟨0x40130048, [], [(CMD_LWL_E0.LBA, .ro)]⟩

/-! CMD_LWL_E1, offset 0x004c (14_command_store.md) -/
def CMD_LWL_E1.LBA : Fld := ⟨0x4013004c, 0, 16, 0⟩
def CMD_LWL_E1.NS : Fld := ⟨0x4013004c, 16, 6, 0⟩
def CMD_LWL_E1.CAUSE : Fld := ⟨0x4013004c, 22, 2, 0⟩
def CMD_LWL_E1.REPORTED : Fld := ⟨0x4013004c, 24, 1, 0⟩
def CMD_LWL_E1.desc : RegDesc := ⟨0x4013004c, [], [(CMD_LWL_E1.LBA, .ro), (CMD_LWL_E1.NS, .ro), (CMD_LWL_E1.CAUSE, .ro), (CMD_LWL_E1.REPORTED, .ro)]⟩

/-! CMD_LWL_E2, offset 0x0050 (14_command_store.md) -/
def CMD_LWL_E2.COUNT : Fld := ⟨0x40130050, 0, 32, 0⟩
def CMD_LWL_E2.desc : RegDesc := ⟨0x40130050, [], [(CMD_LWL_E2.COUNT, .ro)]⟩

/-! CMD_ST_CFG, offset 0x0060 (14_command_store.md) -/
def CMD_ST_CFG.IDLE_MS : Fld := ⟨0x40130060, 0, 16, 100⟩
def CMD_ST_CFG.desc : RegDesc := ⟨0x40130060, [], [(CMD_ST_CFG.IDLE_MS, .rw)]⟩

/-! CMD_ST_STAT, offset 0x0064 (14_command_store.md) -/
def CMD_ST_STAT.STATE : Fld := ⟨0x40130064, 0, 2, 0⟩
def CMD_ST_STAT.KIND : Fld := ⟨0x40130064, 2, 2, 0⟩
def CMD_ST_STAT.PORT : Fld := ⟨0x40130064, 4, 3, 0⟩
def CMD_ST_STAT.PCT : Fld := ⟨0x40130064, 8, 7, 0⟩
def CMD_ST_STAT.desc : RegDesc := ⟨0x40130064, [], [(CMD_ST_STAT.STATE, .ro), (CMD_ST_STAT.KIND, .ro), (CMD_ST_STAT.PORT, .ro), (CMD_ST_STAT.PCT, .ro)]⟩

/-! CMD_ABORT_CNT, offset 0x0070 (14_command_store.md) -/
def CMD_ABORT_CNT.ABORTED : Fld := ⟨0x40130070, 0, 16, 0⟩
def CMD_ABORT_CNT.NOT_ABORTED : Fld := ⟨0x40130070, 16, 16, 0⟩
def CMD_ABORT_CNT.desc : RegDesc := ⟨0x40130070, [], [(CMD_ABORT_CNT.ABORTED, .ro), (CMD_ABORT_CNT.NOT_ABORTED, .ro)]⟩

/-! CMD_ERR, offset 0x0074 (14_command_store.md) -/
def CMD_ERR.INTERNAL : Fld := ⟨0x40130074, 0, 16, 0⟩
def CMD_ERR.LOST : Fld := ⟨0x40130074, 16, 16, 0⟩
def CMD_ERR.desc : RegDesc := ⟨0x40130074, [], [(CMD_ERR.INTERNAL, .ro), (CMD_ERR.LOST, .ro)]⟩

/-! CMD_ACT_HELD, offset 0x0078 (14_command_store.md) -/
def CMD_ACT_HELD.SATA : Fld := ⟨0x40130078, 0, 6, 0⟩
def CMD_ACT_HELD.SAS_BUSY : Fld := ⟨0x40130078, 16, 16, 0⟩
def CMD_ACT_HELD.desc : RegDesc := ⟨0x40130078, [], [(CMD_ACT_HELD.SATA, .ro), (CMD_ACT_HELD.SAS_BUSY, .ro)]⟩

/-! DRC_CFG, offset 0x0000 (15_memory_protection.md) -/
def DRC_CFG.SIZE : Fld := ⟨0x40140000, 0, 4, 0⟩
def DRC_CFG.X8 : Fld := ⟨0x40140000, 4, 1, 0⟩
def DRC_CFG.RANKS : Fld := ⟨0x40140000, 5, 1, 0⟩
def DRC_CFG.DENS : Fld := ⟨0x40140000, 6, 2, 0⟩
def DRC_CFG.LOCK : Fld := ⟨0x40140000, 31, 1, 0⟩
def DRC_CFG.desc : RegDesc := ⟨0x40140000, [], [(DRC_CFG.SIZE, .rwl), (DRC_CFG.X8, .rwl), (DRC_CFG.RANKS, .rwl), (DRC_CFG.DENS, .rwl), (DRC_CFG.LOCK, .w1s)]⟩

/-! DRC_STAT, offset 0x0004 (15_memory_protection.md) -/
def DRC_STAT.TRAINED : Fld := ⟨0x40140004, 0, 1, 0⟩
def DRC_STAT.TRAIN_FAIL : Fld := ⟨0x40140004, 1, 1, 0⟩
def DRC_STAT.SELF_REF : Fld := ⟨0x40140004, 2, 1, 0⟩
def DRC_STAT.REFRESH_2X : Fld := ⟨0x40140004, 3, 1, 0⟩
def DRC_STAT.FAST : Fld := ⟨0x40140004, 4, 1, 0⟩
def DRC_STAT.desc : RegDesc := ⟨0x40140004, [], [(DRC_STAT.TRAINED, .ro), (DRC_STAT.TRAIN_FAIL, .ro), (DRC_STAT.SELF_REF, .ro), (DRC_STAT.REFRESH_2X, .ro), (DRC_STAT.FAST, .ro)]⟩

/-! DRC_ECS, offset 0x0008 (15_memory_protection.md) -/
def DRC_ECS.MAX : Fld := ⟨0x40140008, 0, 16, 0⟩
def DRC_ECS.DEV : Fld := ⟨0x40140008, 16, 5, 0⟩
def DRC_ECS.desc : RegDesc := ⟨0x40140008, [], [(DRC_ECS.MAX, .ro), (DRC_ECS.DEV, .ro)]⟩

/-! DRC_PPR_CFG, offset 0x000c (15_memory_protection.md) -/
def DRC_PPR_CFG.THR : Fld := ⟨0x4014000c, 0, 8, 8⟩
def DRC_PPR_CFG.AUTO : Fld := ⟨0x4014000c, 8, 1, 1⟩
def DRC_PPR_CFG.HARD : Fld := ⟨0x4014000c, 9, 1, 1⟩
def DRC_PPR_CFG.desc : RegDesc := ⟨0x4014000c, [], [(DRC_PPR_CFG.THR, .rw), (DRC_PPR_CFG.AUTO, .rw), (DRC_PPR_CFG.HARD, .rw)]⟩

/-! DRC_PPR_STAT, offset 0x0010 (15_memory_protection.md) -/
def DRC_PPR_STAT.PEND : Fld := ⟨0x40140010, 0, 7, 0⟩
def DRC_PPR_STAT.FULL : Fld := ⟨0x40140010, 7, 1, 0⟩
def DRC_PPR_STAT.DONE : Fld := ⟨0x40140010, 8, 8, 0⟩
def DRC_PPR_STAT.FAILED : Fld := ⟨0x40140010, 16, 8, 0⟩
def DRC_PPR_STAT.desc : RegDesc := ⟨0x40140010, [], [(DRC_PPR_STAT.PEND, .ro), (DRC_PPR_STAT.FULL, .w1c), (DRC_PPR_STAT.DONE, .ro), (DRC_PPR_STAT.FAILED, .ro)]⟩

/-! MEM_CE, offset 0x0000 (15_memory_protection.md) -/
def MEM_CE.DRAM : Fld := ⟨0x40150000, 0, 16, 0⟩
def MEM_CE.SRAM : Fld := ⟨0x40150000, 16, 16, 0⟩
def MEM_CE.desc : RegDesc := ⟨0x40150000, [], [(MEM_CE.DRAM, .ro), (MEM_CE.SRAM, .ro)]⟩

/-! MEM_UE, offset 0x0004 (15_memory_protection.md) -/
def MEM_UE.DRAM : Fld := ⟨0x40150004, 0, 8, 0⟩
def MEM_UE.SRAM : Fld := ⟨0x40150004, 8, 8, 0⟩
def MEM_UE.MRAM : Fld := ⟨0x40150004, 16, 8, 0⟩
def MEM_UE.MRAM_CE : Fld := ⟨0x40150004, 24, 8, 0⟩
def MEM_UE.desc : RegDesc := ⟨0x40150004, [], [(MEM_UE.DRAM, .ro), (MEM_UE.SRAM, .ro), (MEM_UE.MRAM, .ro), (MEM_UE.MRAM_CE, .ro)]⟩

/-! MEM_ECC_CFG, offset 0x0008 (15_memory_protection.md) -/
def MEM_ECC_CFG.CE_THR : Fld := ⟨0x40150008, 0, 16, 1000⟩
def MEM_ECC_CFG.DEMAND_WB : Fld := ⟨0x40150008, 16, 1, 1⟩
def MEM_ECC_CFG.desc : RegDesc := ⟨0x40150008, [], [(MEM_ECC_CFG.CE_THR, .rw), (MEM_ECC_CFG.DEMAND_WB, .rw)]⟩

/-! MEM_ERR_LO, offset 0x0010 (15_memory_protection.md) -/
def MEM_ERR_LO.ADDR_LO : Fld := ⟨0x40150010, 0, 32, 0⟩
def MEM_ERR_LO.desc : RegDesc := ⟨0x40150010, [], [(MEM_ERR_LO.ADDR_LO, .ro)]⟩

/-! MEM_ERR_HI, offset 0x0014 (15_memory_protection.md) -/
def MEM_ERR_HI.ADDR_HI : Fld := ⟨0x40150014, 0, 8, 0⟩
def MEM_ERR_HI.MEM : Fld := ⟨0x40150014, 8, 3, 0⟩
def MEM_ERR_HI.KIND : Fld := ⟨0x40150014, 11, 3, 0⟩
def MEM_ERR_HI.SCRUB : Fld := ⟨0x40150014, 14, 1, 0⟩
def MEM_ERR_HI.MORE : Fld := ⟨0x40150014, 30, 1, 0⟩
def MEM_ERR_HI.VALID : Fld := ⟨0x40150014, 31, 1, 0⟩
def MEM_ERR_HI.desc : RegDesc := ⟨0x40150014, [], [(MEM_ERR_HI.ADDR_HI, .ro), (MEM_ERR_HI.MEM, .ro), (MEM_ERR_HI.KIND, .ro), (MEM_ERR_HI.SCRUB, .ro), (MEM_ERR_HI.MORE, .w1c), (MEM_ERR_HI.VALID, .w1c)]⟩

/-! MEM_SCRUB_CFG, offset 0x0020 (15_memory_protection.md) -/
def MEM_SCRUB_CFG.DRAM_EN : Fld := ⟨0x40150020, 0, 1, 1⟩
def MEM_SCRUB_CFG.SRAM_EN : Fld := ⟨0x40150020, 1, 1, 1⟩
def MEM_SCRUB_CFG.DRAM_MIN : Fld := ⟨0x40150020, 8, 16, 60⟩
def MEM_SCRUB_CFG.SRAM_S : Fld := ⟨0x40150020, 24, 8, 60⟩
def MEM_SCRUB_CFG.desc : RegDesc := ⟨0x40150020, [], [(MEM_SCRUB_CFG.DRAM_EN, .rw), (MEM_SCRUB_CFG.SRAM_EN, .rw), (MEM_SCRUB_CFG.DRAM_MIN, .rw), (MEM_SCRUB_CFG.SRAM_S, .rw)]⟩

/-! MEM_SCRUB_STAT, offset 0x0024 (15_memory_protection.md) -/
def MEM_SCRUB_STAT.DRAM_PASSES : Fld := ⟨0x40150024, 0, 16, 0⟩
def MEM_SCRUB_STAT.SRAM_PASSES : Fld := ⟨0x40150024, 16, 14, 0⟩
def MEM_SCRUB_STAT.LATE : Fld := ⟨0x40150024, 30, 1, 0⟩
def MEM_SCRUB_STAT.desc : RegDesc := ⟨0x40150024, [], [(MEM_SCRUB_STAT.DRAM_PASSES, .ro), (MEM_SCRUB_STAT.SRAM_PASSES, .ro), (MEM_SCRUB_STAT.LATE, .w1c)]⟩

/-! MEM_SCRUB_POS, offset 0x0028 (15_memory_protection.md) -/
def MEM_SCRUB_POS.LINE : Fld := ⟨0x40150028, 0, 28, 0⟩
def MEM_SCRUB_POS.desc : RegDesc := ⟨0x40150028, [], [(MEM_SCRUB_POS.LINE, .ro)]⟩

/-! MEM_RGN, offset 0x0100 (15_memory_protection.md) -/
def MEM_RGN.BASE (k : Nat) : Fld := ⟨0x40150100 + 4 * k, 0, 11, 0⟩
def MEM_RGN.SIZE (k : Nat) : Fld := ⟨0x40150100 + 4 * k, 12, 11, 0⟩
def MEM_RGN.KIND (k : Nat) : Fld := ⟨0x40150100 + 4 * k, 24, 3, 0⟩
def MEM_RGN.desc : RegDesc := ⟨0x40150100, [(16, 4)], [(MEM_RGN.BASE 0, .rw), (MEM_RGN.SIZE 0, .rw), (MEM_RGN.KIND 0, .rw)]⟩

/-! MEM_FLIP_CTL, offset 0x0200 (15_memory_protection.md) -/
def MEM_FLIP_CTL.TARGET : Fld := ⟨0x40150200, 0, 3, 0⟩
def MEM_FLIP_CTL.ARM : Fld := ⟨0x40150200, 4, 1, 0⟩
def MEM_FLIP_CTL.USED : Fld := ⟨0x40150200, 5, 1, 0⟩
def MEM_FLIP_CTL.desc : RegDesc := ⟨0x40150200, [], [(MEM_FLIP_CTL.TARGET, .rw), (MEM_FLIP_CTL.ARM, .w1s), (MEM_FLIP_CTL.USED, .w1c)]⟩

/-! MEM_FLIP_ADDR_LO, offset 0x0204 (15_memory_protection.md) -/
def MEM_FLIP_ADDR_LO.ADDR : Fld := ⟨0x40150204, 0, 32, 0⟩
def MEM_FLIP_ADDR_LO.desc : RegDesc := ⟨0x40150204, [], [(MEM_FLIP_ADDR_LO.ADDR, .rw)]⟩

/-! MEM_FLIP_ADDR_HI, offset 0x0208 (15_memory_protection.md) -/
def MEM_FLIP_ADDR_HI.ADDR : Fld := ⟨0x40150208, 0, 8, 0⟩
def MEM_FLIP_ADDR_HI.desc : RegDesc := ⟨0x40150208, [], [(MEM_FLIP_ADDR_HI.ADDR, .rw)]⟩

/-! MEM_FLIP_M0, offset 0x020c (15_memory_protection.md) -/
def MEM_FLIP_M0.MASK : Fld := ⟨0x4015020c, 0, 32, 0⟩
def MEM_FLIP_M0.desc : RegDesc := ⟨0x4015020c, [], [(MEM_FLIP_M0.MASK, .rw)]⟩

/-! MEM_FLIP_M1, offset 0x0210 (15_memory_protection.md) -/
def MEM_FLIP_M1.MASK : Fld := ⟨0x40150210, 0, 32, 0⟩
def MEM_FLIP_M1.desc : RegDesc := ⟨0x40150210, [], [(MEM_FLIP_M1.MASK, .rw)]⟩

/-! MEM_FLIP_M2, offset 0x0214 (15_memory_protection.md) -/
def MEM_FLIP_M2.CHECK : Fld := ⟨0x40150214, 0, 8, 0⟩
def MEM_FLIP_M2.desc : RegDesc := ⟨0x40150214, [], [(MEM_FLIP_M2.CHECK, .rw)]⟩

/-! MEM_REP_CFG, offset 0x0300 (15_memory_protection.md) -/
def MEM_REP_CFG.THR : Fld := ⟨0x40150300, 0, 8, 4⟩
def MEM_REP_CFG.AUTO : Fld := ⟨0x40150300, 8, 1, 1⟩
def MEM_REP_CFG.desc : RegDesc := ⟨0x40150300, [], [(MEM_REP_CFG.THR, .rw), (MEM_REP_CFG.AUTO, .rw)]⟩

/-! MEM_REP_STAT, offset 0x0304 (15_memory_protection.md) -/
def MEM_REP_STAT.ENTRIES : Fld := ⟨0x40150304, 0, 10, 0⟩
def MEM_REP_STAT.COL_PEND : Fld := ⟨0x40150304, 10, 8, 0⟩
def MEM_REP_STAT.FULL : Fld := ⟨0x40150304, 18, 1, 0⟩
def MEM_REP_STAT.EXHAUSTED : Fld := ⟨0x40150304, 19, 1, 0⟩
def MEM_REP_STAT.desc : RegDesc := ⟨0x40150304, [], [(MEM_REP_STAT.ENTRIES, .ro), (MEM_REP_STAT.COL_PEND, .ro), (MEM_REP_STAT.FULL, .w1c), (MEM_REP_STAT.EXHAUSTED, .w1c)]⟩

/-! DMA_SRC_LO, offset 0x0000 (16_data_movement.md) -/
def DMA_SRC_LO.ADDR (c : Nat) : Fld := ⟨0x40160000 + 64 * c, 0, 32, 0⟩
def DMA_SRC_LO.desc : RegDesc := ⟨0x40160000, [(32, 64)], [(DMA_SRC_LO.ADDR 0, .rw)]⟩

/-! DMA_DST_LO, offset 0x0008 (16_data_movement.md) -/
def DMA_DST_LO.ADDR (c : Nat) : Fld := ⟨0x40160008 + 64 * c, 0, 32, 0⟩
def DMA_DST_LO.desc : RegDesc := ⟨0x40160008, [(32, 64)], [(DMA_DST_LO.ADDR 0, .rw)]⟩

/-! DMA_SH_SRC_LO, offset 0x0800 (16_data_movement.md) -/
def DMA_SH_SRC_LO.ADDR (c : Nat) : Fld := ⟨0x40160800 + 64 * c, 0, 32, 0⟩
def DMA_SH_SRC_LO.desc : RegDesc := ⟨0x40160800, [(32, 64)], [(DMA_SH_SRC_LO.ADDR 0, .rw)]⟩

/-! DMA_SH_DST_LO, offset 0x0808 (16_data_movement.md) -/
def DMA_SH_DST_LO.ADDR (c : Nat) : Fld := ⟨0x40160808 + 64 * c, 0, 32, 0⟩
def DMA_SH_DST_LO.desc : RegDesc := ⟨0x40160808, [(32, 64)], [(DMA_SH_DST_LO.ADDR 0, .rw)]⟩

/-! DMA_SRC_HI, offset 0x0004 (16_data_movement.md) -/
def DMA_SRC_HI.ADDR (c : Nat) : Fld := ⟨0x40160004 + 64 * c, 0, 8, 0⟩
def DMA_SRC_HI.desc : RegDesc := ⟨0x40160004, [(32, 64)], [(DMA_SRC_HI.ADDR 0, .rw)]⟩

/-! DMA_DST_HI, offset 0x000c (16_data_movement.md) -/
def DMA_DST_HI.ADDR (c : Nat) : Fld := ⟨0x4016000c + 64 * c, 0, 8, 0⟩
def DMA_DST_HI.desc : RegDesc := ⟨0x4016000c, [(32, 64)], [(DMA_DST_HI.ADDR 0, .rw)]⟩

/-! DMA_SH_SRC_HI, offset 0x0804 (16_data_movement.md) -/
def DMA_SH_SRC_HI.ADDR (c : Nat) : Fld := ⟨0x40160804 + 64 * c, 0, 8, 0⟩
def DMA_SH_SRC_HI.desc : RegDesc := ⟨0x40160804, [(32, 64)], [(DMA_SH_SRC_HI.ADDR 0, .rw)]⟩

/-! DMA_SH_DST_HI, offset 0x080c (16_data_movement.md) -/
def DMA_SH_DST_HI.ADDR (c : Nat) : Fld := ⟨0x4016080c + 64 * c, 0, 8, 0⟩
def DMA_SH_DST_HI.desc : RegDesc := ⟨0x4016080c, [(32, 64)], [(DMA_SH_DST_HI.ADDR 0, .rw)]⟩

/-! DMA_COUNT, offset 0x0010 (16_data_movement.md) -/
def DMA_COUNT.BYTES (c : Nat) : Fld := ⟨0x40160010 + 64 * c, 0, 32, 0⟩
def DMA_COUNT.desc : RegDesc := ⟨0x40160010, [(32, 64)], [(DMA_COUNT.BYTES 0, .rw)]⟩

/-! DMA_SH_COUNT, offset 0x0810 (16_data_movement.md) -/
def DMA_SH_COUNT.BYTES (c : Nat) : Fld := ⟨0x40160810 + 64 * c, 0, 32, 0⟩
def DMA_SH_COUNT.desc : RegDesc := ⟨0x40160810, [(32, 64)], [(DMA_SH_COUNT.BYTES 0, .rw)]⟩

/-! DMA_CTL, offset 0x0014 (16_data_movement.md) -/
def DMA_CTL.CLASS (c : Nat) : Fld := ⟨0x40160014 + 64 * c, 0, 2, 0⟩
def DMA_CTL.CRC (c : Nat) : Fld := ⟨0x40160014 + 64 * c, 2, 2, 0⟩
def DMA_CTL.CRC_CONT (c : Nat) : Fld := ⟨0x40160014 + 64 * c, 4, 1, 0⟩
def DMA_CTL.CRC_STORE (c : Nat) : Fld := ⟨0x40160014 + 64 * c, 5, 1, 0⟩
def DMA_CTL.IE (c : Nat) : Fld := ⟨0x40160014 + 64 * c, 6, 1, 0⟩
def DMA_CTL.SRC_FIX (c : Nat) : Fld := ⟨0x40160014 + 64 * c, 7, 1, 0⟩
def DMA_CTL.DST_FIX (c : Nat) : Fld := ⟨0x40160014 + 64 * c, 8, 1, 0⟩
def DMA_CTL.ABORT (c : Nat) : Fld := ⟨0x40160014 + 64 * c, 30, 1, 0⟩
def DMA_CTL.GO (c : Nat) : Fld := ⟨0x40160014 + 64 * c, 31, 1, 0⟩
def DMA_CTL.desc : RegDesc := ⟨0x40160014, [(32, 64)], [(DMA_CTL.CLASS 0, .rw), (DMA_CTL.CRC 0, .rw), (DMA_CTL.CRC_CONT 0, .rw), (DMA_CTL.CRC_STORE 0, .rw), (DMA_CTL.IE 0, .rw), (DMA_CTL.SRC_FIX 0, .rw), (DMA_CTL.DST_FIX 0, .rw), (DMA_CTL.ABORT 0, .w1s), (DMA_CTL.GO 0, .w1s)]⟩

/-! DMA_SH_CTL, offset 0x0814 (16_data_movement.md) -/
def DMA_SH_CTL.CLASS (c : Nat) : Fld := ⟨0x40160814 + 64 * c, 0, 2, 0⟩
def DMA_SH_CTL.CRC (c : Nat) : Fld := ⟨0x40160814 + 64 * c, 2, 2, 0⟩
def DMA_SH_CTL.CRC_CONT (c : Nat) : Fld := ⟨0x40160814 + 64 * c, 4, 1, 0⟩
def DMA_SH_CTL.CRC_STORE (c : Nat) : Fld := ⟨0x40160814 + 64 * c, 5, 1, 0⟩
def DMA_SH_CTL.IE (c : Nat) : Fld := ⟨0x40160814 + 64 * c, 6, 1, 0⟩
def DMA_SH_CTL.SRC_FIX (c : Nat) : Fld := ⟨0x40160814 + 64 * c, 7, 1, 0⟩
def DMA_SH_CTL.DST_FIX (c : Nat) : Fld := ⟨0x40160814 + 64 * c, 8, 1, 0⟩
def DMA_SH_CTL.desc : RegDesc := ⟨0x40160814, [(32, 64)], [(DMA_SH_CTL.CLASS 0, .rw), (DMA_SH_CTL.CRC 0, .rw), (DMA_SH_CTL.CRC_CONT 0, .rw), (DMA_SH_CTL.CRC_STORE 0, .rw), (DMA_SH_CTL.IE 0, .rw), (DMA_SH_CTL.SRC_FIX 0, .rw), (DMA_SH_CTL.DST_FIX 0, .rw)]⟩

/-! DMA_STAT, offset 0x0018 (16_data_movement.md) -/
def DMA_STAT.STATE (c : Nat) : Fld := ⟨0x40160018 + 64 * c, 0, 2, 0⟩
def DMA_STAT.CODE (c : Nat) : Fld := ⟨0x40160018 + 64 * c, 2, 3, 0⟩
def DMA_STAT.LOADS (c : Nat) : Fld := ⟨0x40160018 + 64 * c, 8, 8, 0⟩
def DMA_STAT.SH_VALID (c : Nat) : Fld := ⟨0x40160018 + 64 * c, 16, 1, 0⟩
def DMA_STAT.desc : RegDesc := ⟨0x40160018, [(32, 64)], [(DMA_STAT.STATE 0, .ro), (DMA_STAT.CODE 0, .ro), (DMA_STAT.LOADS 0, .ro), (DMA_STAT.SH_VALID 0, .w1s)]⟩

/-! DMA_CRC_LO, offset 0x001c (16_data_movement.md) -/
def DMA_CRC_LO.CRC (c : Nat) : Fld := ⟨0x4016001c + 64 * c, 0, 32, 0⟩
def DMA_CRC_LO.desc : RegDesc := ⟨0x4016001c, [(32, 64)], [(DMA_CRC_LO.CRC 0, .ro)]⟩

/-! DMA_CRC_HI, offset 0x0020 (16_data_movement.md) -/
def DMA_CRC_HI.CRC (c : Nat) : Fld := ⟨0x40160020 + 64 * c, 0, 32, 0⟩
def DMA_CRC_HI.desc : RegDesc := ⟨0x40160020, [(32, 64)], [(DMA_CRC_HI.CRC 0, .ro)]⟩

/-! DMA_REMAIN, offset 0x0024 (16_data_movement.md) -/
def DMA_REMAIN.BYTES (c : Nat) : Fld := ⟨0x40160024 + 64 * c, 0, 32, 0⟩
def DMA_REMAIN.desc : RegDesc := ⟨0x40160024, [(32, 64)], [(DMA_REMAIN.BYTES 0, .ro)]⟩

/-! DMA_IRQ, offset 0x1000 (16_data_movement.md) -/
def DMA_IRQ.END : Fld := ⟨0x40161000, 0, 32, 0⟩
def DMA_IRQ.desc : RegDesc := ⟨0x40161000, [], [(DMA_IRQ.END, .w1c)]⟩

/-! FIF_CFG, offset 0x0000 (16_data_movement.md) -/
def FIF_CFG.EN (f : Nat) : Fld := ⟨0x40170000 + 64 * f, 0, 1, 0⟩
def FIF_CFG.MODE (f : Nat) : Fld := ⟨0x40170000 + 64 * f, 1, 1, 0⟩
def FIF_CFG.PEP (f : Nat) : Fld := ⟨0x40170000 + 64 * f, 2, 3, 0⟩
def FIF_CFG.PUNIT (f : Nat) : Fld := ⟨0x40170000 + 64 * f, 5, 5, 0⟩
def FIF_CFG.CEP (f : Nat) : Fld := ⟨0x40170000 + 64 * f, 10, 3, 0⟩
def FIF_CFG.CUNIT (f : Nat) : Fld := ⟨0x40170000 + 64 * f, 13, 5, 0⟩
def FIF_CFG.NIE (f : Nat) : Fld := ⟨0x40170000 + 64 * f, 18, 1, 0⟩
def FIF_CFG.desc : RegDesc := ⟨0x40170000, [(16, 64)], [(FIF_CFG.EN 0, .rw), (FIF_CFG.MODE 0, .rw), (FIF_CFG.PEP 0, .rw), (FIF_CFG.PUNIT 0, .rw), (FIF_CFG.CEP 0, .rw), (FIF_CFG.CUNIT 0, .rw), (FIF_CFG.NIE 0, .rw)]⟩

/-! FIF_CTL, offset 0x0004 (16_data_movement.md) -/
def FIF_CTL.FLUSH (f : Nat) : Fld := ⟨0x40170004 + 64 * f, 0, 1, 0⟩
def FIF_CTL.MARK (f : Nat) : Fld := ⟨0x40170004 + 64 * f, 1, 1, 0⟩
def FIF_CTL.REWIND (f : Nat) : Fld := ⟨0x40170004 + 64 * f, 2, 1, 0⟩
def FIF_CTL.desc : RegDesc := ⟨0x40170004, [(16, 64)], [(FIF_CTL.FLUSH 0, .w1s), (FIF_CTL.MARK 0, .w1s), (FIF_CTL.REWIND 0, .w1s)]⟩

/-! FIF_STAT, offset 0x0008 (16_data_movement.md) -/
def FIF_STAT.WLEVEL (f : Nat) : Fld := ⟨0x40170008 + 64 * f, 0, 11, 0⟩
def FIF_STAT.FULL (f : Nat) : Fld := ⟨0x40170008 + 64 * f, 11, 1, 0⟩
def FIF_STAT.RLEVEL (f : Nat) : Fld := ⟨0x40170008 + 64 * f, 12, 11, 0⟩
def FIF_STAT.EMPTY (f : Nat) : Fld := ⟨0x40170008 + 64 * f, 23, 1, 1⟩
def FIF_STAT.DROPPING (f : Nat) : Fld := ⟨0x40170008 + 64 * f, 24, 1, 0⟩
def FIF_STAT.OVERRUN (f : Nat) : Fld := ⟨0x40170008 + 64 * f, 25, 1, 0⟩
def FIF_STAT.UNDERRUN (f : Nat) : Fld := ⟨0x40170008 + 64 * f, 26, 1, 0⟩
def FIF_STAT.desc : RegDesc := ⟨0x40170008, [(16, 64)], [(FIF_STAT.WLEVEL 0, .ro), (FIF_STAT.FULL 0, .ro), (FIF_STAT.RLEVEL 0, .ro), (FIF_STAT.EMPTY 0, .ro), (FIF_STAT.DROPPING 0, .ro), (FIF_STAT.OVERRUN 0, .w1c), (FIF_STAT.UNDERRUN 0, .w1c)]⟩

/-! FIF_PKT, offset 0x000c (16_data_movement.md) -/
def FIF_PKT.PKTS (f : Nat) : Fld := ⟨0x4017000c + 64 * f, 0, 11, 0⟩
def FIF_PKT.desc : RegDesc := ⟨0x4017000c, [(16, 64)], [(FIF_PKT.PKTS 0, .ro)]⟩

/-! FIF_DROP, offset 0x0010 (16_data_movement.md) -/
def FIF_DROP.WORDS (f : Nat) : Fld := ⟨0x40170010 + 64 * f, 0, 32, 0⟩
def FIF_DROP.desc : RegDesc := ⟨0x40170010, [(16, 64)], [(FIF_DROP.WORDS 0, .ro)]⟩

/-! FIF_PUSH, offset 0x0020 (16_data_movement.md) -/
def FIF_PUSH.DATA (f k : Nat) : Fld := ⟨0x40170020 + 64 * f + 4 * k, 0, 32, 0⟩
def FIF_PUSH.desc : RegDesc := ⟨0x40170020, [(16, 64), (4, 4)], [(FIF_PUSH.DATA 0 0, .wo)]⟩

/-! FIF_POP, offset 0x0030 (16_data_movement.md) -/
def FIF_POP.DATA (f : Nat) : Fld := ⟨0x40170030 + 64 * f, 0, 32, 0⟩
def FIF_POP.desc : RegDesc := ⟨0x40170030, [(16, 64)], [(FIF_POP.DATA 0, .ro)]⟩

/-! FIF_POP_INFO, offset 0x0034 (16_data_movement.md) -/
def FIF_POP_INFO.SOI (f : Nat) : Fld := ⟨0x40170034 + 64 * f, 0, 1, 0⟩
def FIF_POP_INFO.EOI (f : Nat) : Fld := ⟨0x40170034 + 64 * f, 1, 1, 0⟩
def FIF_POP_INFO.BAD (f : Nat) : Fld := ⟨0x40170034 + 64 * f, 2, 1, 0⟩
def FIF_POP_INFO.VALID (f : Nat) : Fld := ⟨0x40170034 + 64 * f, 3, 1, 0⟩
def FIF_POP_INFO.desc : RegDesc := ⟨0x40170034, [(16, 64)], [(FIF_POP_INFO.SOI 0, .ro), (FIF_POP_INFO.EOI 0, .ro), (FIF_POP_INFO.BAD 0, .ro), (FIF_POP_INFO.VALID 0, .ro)]⟩

/-! TCH_CTL, offset 0x0000 (16_data_movement.md) -/
def TCH_CTL.EN : Fld := ⟨0x40180000, 0, 1, 0⟩
def TCH_CTL.desc : RegDesc := ⟨0x40180000, [], [(TCH_CTL.EN, .rw)]⟩

/-! TCH_STAT, offset 0x0004 (16_data_movement.md) -/
def TCH_STAT.INV_DONE : Fld := ⟨0x40180004, 0, 1, 0⟩
def TCH_STAT.BUSY : Fld := ⟨0x40180004, 1, 1, 0⟩
def TCH_STAT.EN_REFUSED : Fld := ⟨0x40180004, 2, 1, 0⟩
def TCH_STAT.OP_REFUSED : Fld := ⟨0x40180004, 3, 1, 0⟩
def TCH_STAT.DISABLING : Fld := ⟨0x40180004, 4, 1, 0⟩
def TCH_STAT.desc : RegDesc := ⟨0x40180004, [], [(TCH_STAT.INV_DONE, .ro), (TCH_STAT.BUSY, .ro), (TCH_STAT.EN_REFUSED, .w1c), (TCH_STAT.OP_REFUSED, .w1c), (TCH_STAT.DISABLING, .ro)]⟩

/-! TCH_LOCK, offset 0x0008 (16_data_movement.md) -/
def TCH_LOCK.WAYS : Fld := ⟨0x40180008, 0, 16, 0⟩
def TCH_LOCK.desc : RegDesc := ⟨0x40180008, [], [(TCH_LOCK.WAYS, .rw)]⟩

/-! TCH_WAYMASK, offset 0x0010 (16_data_movement.md) -/
def TCH_WAYMASK.ALLOC (r : Nat) : Fld := ⟨0x40180010 + 4 * r, 0, 16, 65535⟩
def TCH_WAYMASK.desc : RegDesc := ⟨0x40180010, [(8, 4)], [(TCH_WAYMASK.ALLOC 0, .rw)]⟩

/-! TCH_RANGE_LO, offset 0x0030 (16_data_movement.md) -/
def TCH_RANGE_LO.ADDR : Fld := ⟨0x40180030, 8, 24, 0⟩
def TCH_RANGE_LO.desc : RegDesc := ⟨0x40180030, [], [(TCH_RANGE_LO.ADDR, .rw)]⟩

/-! TCH_RANGE_HI, offset 0x0034 (16_data_movement.md) -/
def TCH_RANGE_HI.ADDR : Fld := ⟨0x40180034, 0, 8, 0⟩
def TCH_RANGE_HI.desc : RegDesc := ⟨0x40180034, [], [(TCH_RANGE_HI.ADDR, .rw)]⟩

/-! TCH_RANGE_LEN, offset 0x0038 (16_data_movement.md) -/
def TCH_RANGE_LEN.LINES : Fld := ⟨0x40180038, 0, 27, 0⟩
def TCH_RANGE_LEN.desc : RegDesc := ⟨0x40180038, [], [(TCH_RANGE_LEN.LINES, .rw)]⟩

/-! TCH_RANGE_OP, offset 0x003c (16_data_movement.md) -/
def TCH_RANGE_OP.OP : Fld := ⟨0x4018003c, 0, 3, 0⟩
def TCH_RANGE_OP.WAYS : Fld := ⟨0x4018003c, 4, 16, 0⟩
def TCH_RANGE_OP.GO : Fld := ⟨0x4018003c, 31, 1, 0⟩
def TCH_RANGE_OP.desc : RegDesc := ⟨0x4018003c, [], [(TCH_RANGE_OP.OP, .rw), (TCH_RANGE_OP.WAYS, .rw), (TCH_RANGE_OP.GO, .w1s)]⟩

/-! TCH_HITS, offset 0x0040 (16_data_movement.md) -/
def TCH_HITS.COUNT : Fld := ⟨0x40180040, 0, 32, 0⟩
def TCH_HITS.desc : RegDesc := ⟨0x40180040, [], [(TCH_HITS.COUNT, .ro)]⟩

/-! TCH_MISSES, offset 0x0044 (16_data_movement.md) -/
def TCH_MISSES.COUNT : Fld := ⟨0x40180044, 0, 32, 0⟩
def TCH_MISSES.desc : RegDesc := ⟨0x40180044, [], [(TCH_MISSES.COUNT, .ro)]⟩

/-! TCH_EVB, offset 0x0048 (16_data_movement.md) -/
def TCH_EVB.MERGED : Fld := ⟨0x40180048, 0, 16, 0⟩
def TCH_EVB.ORDERED : Fld := ⟨0x40180048, 16, 16, 0⟩
def TCH_EVB.desc : RegDesc := ⟨0x40180048, [], [(TCH_EVB.MERGED, .ro), (TCH_EVB.ORDERED, .ro)]⟩

/-! TCH_DIAG_SEL, offset 0x0050 (16_data_movement.md) -/
def TCH_DIAG_SEL.SET : Fld := ⟨0x40180050, 0, 11, 0⟩
def TCH_DIAG_SEL.WAY : Fld := ⟨0x40180050, 11, 4, 0⟩
def TCH_DIAG_SEL.desc : RegDesc := ⟨0x40180050, [], [(TCH_DIAG_SEL.SET, .rw), (TCH_DIAG_SEL.WAY, .rw)]⟩

/-! TCH_DIAG_TAG, offset 0x0054 (16_data_movement.md) -/
def TCH_DIAG_TAG.TAG : Fld := ⟨0x40180054, 0, 16, 0⟩
def TCH_DIAG_TAG.VALID : Fld := ⟨0x40180054, 16, 4, 0⟩
def TCH_DIAG_TAG.DIRTY : Fld := ⟨0x40180054, 20, 4, 0⟩
def TCH_DIAG_TAG.LOCKED : Fld := ⟨0x40180054, 24, 1, 0⟩
def TCH_DIAG_TAG.desc : RegDesc := ⟨0x40180054, [], [(TCH_DIAG_TAG.TAG, .ro), (TCH_DIAG_TAG.VALID, .ro), (TCH_DIAG_TAG.DIRTY, .ro), (TCH_DIAG_TAG.LOCKED, .ro)]⟩

/-! TCH_DIAG_DATA, offset 0x1000 (16_data_movement.md) -/
def TCH_DIAG_DATA.DATA (i : Nat) : Fld := ⟨0x40181000 + 4 * i, 0, 32, 0⟩
def TCH_DIAG_DATA.desc : RegDesc := ⟨0x40181000, [(64, 4)], [(TCH_DIAG_DATA.DATA 0, .ro)]⟩

/-! ARB_AGE, offset 0x0000 (16_data_movement.md) -/
def ARB_AGE.LIMIT (t : Nat) : Fld := ⟨0x40190000 + 64 * t, 0, 16, 200⟩
def ARB_AGE.desc : RegDesc := ⟨0x40190000, [(6, 64)], [(ARB_AGE.LIMIT 0, .rw)]⟩

/-! ARB_CW, offset 0x0004 (16_data_movement.md) -/
def ARB_CW.W0 (t : Nat) : Fld := ⟨0x40190004 + 64 * t, 0, 8, 9⟩
def ARB_CW.W1 (t : Nat) : Fld := ⟨0x40190004 + 64 * t, 8, 8, 4⟩
def ARB_CW.W2 (t : Nat) : Fld := ⟨0x40190004 + 64 * t, 16, 8, 3⟩
def ARB_CW.W3 (t : Nat) : Fld := ⟨0x40190004 + 64 * t, 24, 8, 5⟩
def ARB_CW.desc : RegDesc := ⟨0x40190004, [(6, 64)], [(ARB_CW.W0 0, .rw), (ARB_CW.W1 0, .rw), (ARB_CW.W2 0, .rw), (ARB_CW.W3 0, .rw)]⟩

/-! ARB_LOAD, offset 0x0008 (16_data_movement.md) -/
def ARB_LOAD.LOAD (t : Nat) : Fld := ⟨0x40190008 + 64 * t, 0, 8, 0⟩
def ARB_LOAD.PEAK (t : Nat) : Fld := ⟨0x40190008 + 64 * t, 8, 8, 0⟩
def ARB_LOAD.desc : RegDesc := ⟨0x40190008, [(6, 64)], [(ARB_LOAD.LOAD 0, .ro), (ARB_LOAD.PEAK 0, .ro)]⟩

/-! ARB_WAIT, offset 0x000c (16_data_movement.md) -/
def ARB_WAIT.MAX (t : Nat) : Fld := ⟨0x4019000c + 64 * t, 0, 16, 0⟩
def ARB_WAIT.OVER (t : Nat) : Fld := ⟨0x4019000c + 64 * t, 16, 16, 0⟩
def ARB_WAIT.desc : RegDesc := ⟨0x4019000c, [(6, 64)], [(ARB_WAIT.MAX 0, .ro), (ARB_WAIT.OVER 0, .ro)]⟩

/-! ARB_PROMO, offset 0x0010 (16_data_movement.md) -/
def ARB_PROMO.COUNT (t : Nat) : Fld := ⟨0x40190010 + 64 * t, 0, 32, 0⟩
def ARB_PROMO.desc : RegDesc := ⟨0x40190010, [(6, 64)], [(ARB_PROMO.COUNT 0, .ro)]⟩

/-! FAB_CFG, offset 0x0000 (17_nguam_fabric.md) -/
def FAB_CFG.EN : Fld := ⟨0x401a0000, 0, 1, 0⟩
def FAB_CFG.APP_EN : Fld := ⟨0x401a0000, 1, 1, 0⟩
def FAB_CFG.READ_EN : Fld := ⟨0x401a0000, 2, 1, 0⟩
def FAB_CFG.COPY_EN : Fld := ⟨0x401a0000, 3, 1, 0⟩
def FAB_CFG.NODE : Fld := ⟨0x401a0000, 4, 12, 0⟩
def FAB_CFG.desc : RegDesc := ⟨0x401a0000, [], [(FAB_CFG.EN, .rw), (FAB_CFG.APP_EN, .rw), (FAB_CFG.READ_EN, .rw), (FAB_CFG.COPY_EN, .rw), (FAB_CFG.NODE, .rw)]⟩

/-! FAB_STAT, offset 0x0004 (17_nguam_fabric.md) -/
def FAB_STAT.UP : Fld := ⟨0x401a0004, 0, 4, 0⟩
def FAB_STAT.DUP : Fld := ⟨0x401a0004, 4, 1, 0⟩
def FAB_STAT.WITHDRAWN : Fld := ⟨0x401a0004, 5, 1, 0⟩
def FAB_STAT.CONFLICT : Fld := ⟨0x401a0004, 6, 1, 0⟩
def FAB_STAT.ROUTES : Fld := ⟨0x401a0004, 16, 13, 0⟩
def FAB_STAT.desc : RegDesc := ⟨0x401a0004, [], [(FAB_STAT.UP, .ro), (FAB_STAT.DUP, .w1c), (FAB_STAT.WITHDRAWN, .ro), (FAB_STAT.CONFLICT, .w1c), (FAB_STAT.ROUTES, .ro)]⟩

/-! FAB_UID_LO, offset 0x0008 (17_nguam_fabric.md) -/
def FAB_UID_LO.UID : Fld := ⟨0x401a0008, 0, 32, 0⟩
def FAB_UID_LO.desc : RegDesc := ⟨0x401a0008, [], [(FAB_UID_LO.UID, .ro)]⟩

/-! FAB_UID_HI, offset 0x000c (17_nguam_fabric.md) -/
def FAB_UID_HI.UID : Fld := ⟨0x401a000c, 0, 32, 0⟩
def FAB_UID_HI.desc : RegDesc := ⟨0x401a000c, [], [(FAB_UID_HI.UID, .ro)]⟩

/-! FAB_ADV, offset 0x0010 (17_nguam_fabric.md) -/
def FAB_ADV.ADV_MS : Fld := ⟨0x401a0010, 0, 16, 100⟩
def FAB_ADV.AGE : Fld := ⟨0x401a0010, 16, 4, 4⟩
def FAB_ADV.desc : RegDesc := ⟨0x401a0010, [], [(FAB_ADV.ADV_MS, .rw), (FAB_ADV.AGE, .rw)]⟩

/-! FAB_NS_EN_LO, offset 0x0014 (17_nguam_fabric.md) -/
def FAB_NS_EN_LO.EN : Fld := ⟨0x401a0014, 0, 32, 0⟩
def FAB_NS_EN_LO.desc : RegDesc := ⟨0x401a0014, [], [(FAB_NS_EN_LO.EN, .rw)]⟩

/-! FAB_NS_EN_HI, offset 0x0018 (17_nguam_fabric.md) -/
def FAB_NS_EN_HI.EN : Fld := ⟨0x401a0018, 0, 32, 0⟩
def FAB_NS_EN_HI.desc : RegDesc := ⟨0x401a0018, [], [(FAB_NS_EN_HI.EN, .rw)]⟩

/-! FAB_TMO, offset 0x001c (17_nguam_fabric.md) -/
def FAB_TMO.TMO_MS : Fld := ⟨0x401a001c, 0, 16, 100⟩
def FAB_TMO.RETRY : Fld := ⟨0x401a001c, 16, 1, 1⟩
def FAB_TMO.desc : RegDesc := ⟨0x401a001c, [], [(FAB_TMO.TMO_MS, .rw), (FAB_TMO.RETRY, .rw)]⟩

/-! FAB_RING_LO, offset 0x0020 (17_nguam_fabric.md) -/
def FAB_RING_LO.ADDR : Fld := ⟨0x401a0020, 14, 18, 0⟩
def FAB_RING_LO.desc : RegDesc := ⟨0x401a0020, [], [(FAB_RING_LO.ADDR, .rw)]⟩

/-! FAB_RING_HI, offset 0x0024 (17_nguam_fabric.md) -/
def FAB_RING_HI.ADDR : Fld := ⟨0x401a0024, 0, 8, 0⟩
def FAB_RING_HI.desc : RegDesc := ⟨0x401a0024, [], [(FAB_RING_HI.ADDR, .rw)]⟩

/-! FAB_RING_CTL, offset 0x0028 (17_nguam_fabric.md) -/
def FAB_RING_CTL.HEAD : Fld := ⟨0x401a0028, 0, 8, 0⟩
def FAB_RING_CTL.TAIL : Fld := ⟨0x401a0028, 8, 8, 0⟩
def FAB_RING_CTL.OUT : Fld := ⟨0x401a0028, 16, 9, 0⟩
def FAB_RING_CTL.desc : RegDesc := ⟨0x401a0028, [], [(FAB_RING_CTL.HEAD, .rw), (FAB_RING_CTL.TAIL, .ro), (FAB_RING_CTL.OUT, .ro)]⟩

/-! FAB_LANE, offset 0x0030 (17_nguam_fabric.md) -/
def FAB_LANE.SEL : Fld := ⟨0x401a0030, 0, 3, 7⟩
def FAB_LANE.AUTO : Fld := ⟨0x401a0030, 3, 1, 1⟩
def FAB_LANE.FAILED : Fld := ⟨0x401a0030, 4, 4, 0⟩
def FAB_LANE.ERR_THR : Fld := ⟨0x401a0030, 16, 16, 1000⟩
def FAB_LANE.desc : RegDesc := ⟨0x401a0030, [], [(FAB_LANE.SEL, .rw), (FAB_LANE.AUTO, .rw), (FAB_LANE.FAILED, .w1c), (FAB_LANE.ERR_THR, .rw)]⟩

/-! FAB_CNT, offset 0x0040 (17_nguam_fabric.md) -/
def FAB_CNT.HOPDROP : Fld := ⟨0x401a0040, 0, 8, 0⟩
def FAB_CNT.NOROUTE : Fld := ⟨0x401a0040, 8, 8, 0⟩
def FAB_CNT.LATE : Fld := ⟨0x401a0040, 16, 8, 0⟩
def FAB_CNT.BAD : Fld := ⟨0x401a0040, 24, 8, 0⟩
def FAB_CNT.desc : RegDesc := ⟨0x401a0040, [], [(FAB_CNT.HOPDROP, .ro), (FAB_CNT.NOROUTE, .ro), (FAB_CNT.LATE, .ro), (FAB_CNT.BAD, .ro)]⟩

/-! FAB_PORT_STAT, offset 0x0100 (17_nguam_fabric.md) -/
def FAB_PORT_STAT.UP (p : Nat) : Fld := ⟨0x401a0100 + 16 * p, 0, 1, 0⟩
def FAB_PORT_STAT.TRAINING (p : Nat) : Fld := ⟨0x401a0100 + 16 * p, 1, 1, 0⟩
def FAB_PORT_STAT.FAULT (p : Nat) : Fld := ⟨0x401a0100 + 16 * p, 2, 1, 0⟩
def FAB_PORT_STAT.RETRAIN (p : Nat) : Fld := ⟨0x401a0100 + 16 * p, 3, 1, 0⟩
def FAB_PORT_STAT.TRIES (p : Nat) : Fld := ⟨0x401a0100 + 16 * p, 4, 2, 0⟩
def FAB_PORT_STAT.PEER (p : Nat) : Fld := ⟨0x401a0100 + 16 * p, 16, 12, 0⟩
def FAB_PORT_STAT.desc : RegDesc := ⟨0x401a0100, [(4, 16)], [(FAB_PORT_STAT.UP 0, .ro), (FAB_PORT_STAT.TRAINING 0, .ro), (FAB_PORT_STAT.FAULT 0, .w1c), (FAB_PORT_STAT.RETRAIN 0, .w1s), (FAB_PORT_STAT.TRIES 0, .ro), (FAB_PORT_STAT.PEER 0, .ro)]⟩

/-! FAB_PORT_ERR, offset 0x0104 (17_nguam_fabric.md) -/
def FAB_PORT_ERR.CRC (p : Nat) : Fld := ⟨0x401a0104 + 16 * p, 0, 16, 0⟩
def FAB_PORT_ERR.REPLAYS (p : Nat) : Fld := ⟨0x401a0104 + 16 * p, 16, 16, 0⟩
def FAB_PORT_ERR.desc : RegDesc := ⟨0x401a0104, [(4, 16)], [(FAB_PORT_ERR.CRC 0, .ro), (FAB_PORT_ERR.REPLAYS 0, .ro)]⟩

/-! FAB_RT, offset 0x4000 (17_nguam_fabric.md) -/
def FAB_RT.VALID (id : Nat) : Fld := ⟨0x401a4000 + 4 * id, 0, 1, 0⟩
def FAB_RT.STATIC (id : Nat) : Fld := ⟨0x401a4000 + 4 * id, 1, 1, 0⟩
def FAB_RT.PORT (id : Nat) : Fld := ⟨0x401a4000 + 4 * id, 2, 3, 0⟩
def FAB_RT.HOPS (id : Nat) : Fld := ⟨0x401a4000 + 4 * id, 5, 5, 0⟩
def FAB_RT.AGE (id : Nat) : Fld := ⟨0x401a4000 + 4 * id, 16, 16, 0⟩
def FAB_RT.desc : RegDesc := ⟨0x401a4000, [(4096, 4)], [(FAB_RT.VALID 0, .rw), (FAB_RT.STATIC 0, .rw), (FAB_RT.PORT 0, .rw), (FAB_RT.HOPS 0, .rw), (FAB_RT.AGE 0, .ro)]⟩

/-! PMU_DOM_CTL, offset 0x0000 (18_power_and_rescue.md) -/
def PMU_DOM_CTL.ON : Fld := ⟨0x40010000, 0, 24, 7⟩
def PMU_DOM_CTL.desc : RegDesc := ⟨0x40010000, [], [(PMU_DOM_CTL.ON, .rw)]⟩

/-! PMU_DOM_STAT, offset 0x0004 (18_power_and_rescue.md) -/
def PMU_DOM_STAT.ON : Fld := ⟨0x40010004, 0, 24, 7⟩
def PMU_DOM_STAT.desc : RegDesc := ⟨0x40010004, [], [(PMU_DOM_STAT.ON, .ro)]⟩

/-! PMU_DOM_PEND, offset 0x0008 (18_power_and_rescue.md) -/
def PMU_DOM_PEND.PEND : Fld := ⟨0x40010008, 0, 24, 0⟩
def PMU_DOM_PEND.desc : RegDesc := ⟨0x40010008, [], [(PMU_DOM_PEND.PEND, .ro)]⟩

/-! PMU_DOM_ERR, offset 0x000c (18_power_and_rescue.md) -/
def PMU_DOM_ERR.DOM : Fld := ⟨0x4001000c, 0, 5, 0⟩
def PMU_DOM_ERR.CAUSE : Fld := ⟨0x4001000c, 5, 2, 0⟩
def PMU_DOM_ERR.MORE : Fld := ⟨0x4001000c, 30, 1, 0⟩
def PMU_DOM_ERR.VALID : Fld := ⟨0x4001000c, 31, 1, 0⟩
def PMU_DOM_ERR.desc : RegDesc := ⟨0x4001000c, [], [(PMU_DOM_ERR.DOM, .ro), (PMU_DOM_ERR.CAUSE, .ro), (PMU_DOM_ERR.MORE, .w1c), (PMU_DOM_ERR.VALID, .w1c)]⟩

/-! PMU_DOM_CFG, offset 0x0010 (18_power_and_rescue.md) -/
def PMU_DOM_CFG.DEFER_US : Fld := ⟨0x40010010, 0, 16, 1000⟩
def PMU_DOM_CFG.desc : RegDesc := ⟨0x40010010, [], [(PMU_DOM_CFG.DEFER_US, .rw)]⟩

/-! PMU_DOM_SVC, offset 0x0014 (18_power_and_rescue.md) -/
def PMU_DOM_SVC.SET : Fld := ⟨0x40010014, 0, 24, 0⟩
def PMU_DOM_SVC.desc : RegDesc := ⟨0x40010014, [], [(PMU_DOM_SVC.SET, .rw)]⟩

/-! PMU_CKPT_CFG, offset 0x0020 (18_power_and_rescue.md) -/
def PMU_CKPT_CFG.PERIOD_S : Fld := ⟨0x40010020, 0, 8, 1⟩
def PMU_CKPT_CFG.desc : RegDesc := ⟨0x40010020, [], [(PMU_CKPT_CFG.PERIOD_S, .rw)]⟩

/-! PMU_CKPT_CTL, offset 0x0024 (18_power_and_rescue.md) -/
def PMU_CKPT_CTL.REQ : Fld := ⟨0x40010024, 0, 1, 0⟩
def PMU_CKPT_CTL.RESTORED : Fld := ⟨0x40010024, 1, 1, 0⟩
def PMU_CKPT_CTL.desc : RegDesc := ⟨0x40010024, [], [(PMU_CKPT_CTL.REQ, .w1s), (PMU_CKPT_CTL.RESTORED, .w1s)]⟩

/-! PMU_CKPT_STAT, offset 0x0028 (18_power_and_rescue.md) -/
def PMU_CKPT_STAT.LAST : Fld := ⟨0x40010028, 0, 3, 0⟩
def PMU_CKPT_STAT.RESTORED_SLOT : Fld := ⟨0x40010028, 3, 3, 0⟩
def PMU_CKPT_STAT.KIND : Fld := ⟨0x40010028, 6, 3, 0⟩
def PMU_CKPT_STAT.NONE : Fld := ⟨0x40010028, 9, 1, 0⟩
def PMU_CKPT_STAT.FALLBACK : Fld := ⟨0x40010028, 10, 1, 0⟩
def PMU_CKPT_STAT.BUSY : Fld := ⟨0x40010028, 11, 1, 0⟩
def PMU_CKPT_STAT.HELD : Fld := ⟨0x40010028, 12, 1, 0⟩
def PMU_CKPT_STAT.desc : RegDesc := ⟨0x40010028, [], [(PMU_CKPT_STAT.LAST, .ro), (PMU_CKPT_STAT.RESTORED_SLOT, .ro), (PMU_CKPT_STAT.KIND, .ro), (PMU_CKPT_STAT.NONE, .ro), (PMU_CKPT_STAT.FALLBACK, .w1c), (PMU_CKPT_STAT.BUSY, .ro), (PMU_CKPT_STAT.HELD, .ro)]⟩

/-! PMU_CKPT_SEQ_LO, offset 0x002c (18_power_and_rescue.md) -/
def PMU_CKPT_SEQ_LO.SEQ : Fld := ⟨0x4001002c, 0, 32, 0⟩
def PMU_CKPT_SEQ_LO.desc : RegDesc := ⟨0x4001002c, [], [(PMU_CKPT_SEQ_LO.SEQ, .ro)]⟩

/-! PMU_CKPT_SEQ_HI, offset 0x0030 (18_power_and_rescue.md) -/
def PMU_CKPT_SEQ_HI.SEQ : Fld := ⟨0x40010030, 0, 16, 0⟩
def PMU_CKPT_SEQ_HI.desc : RegDesc := ⟨0x40010030, [], [(PMU_CKPT_SEQ_HI.SEQ, .ro)]⟩

/-! PMU_XLOG, offset 0x0034 (18_power_and_rescue.md) -/
def PMU_XLOG.HEAD : Fld := ⟨0x40010034, 0, 16, 0⟩
def PMU_XLOG.WRAPS : Fld := ⟨0x40010034, 16, 16, 0⟩
def PMU_XLOG.desc : RegDesc := ⟨0x40010034, [], [(PMU_XLOG.HEAD, .ro), (PMU_XLOG.WRAPS, .ro)]⟩

/-! PMU_RESCUE_STAT, offset 0x0040 (18_power_and_rescue.md) -/
def PMU_RESCUE_STAT.RESULT : Fld := ⟨0x40010040, 0, 3, 0⟩
def PMU_RESCUE_STAT.TRUNC : Fld := ⟨0x40010040, 3, 1, 0⟩
def PMU_RESCUE_STAT.TIME : Fld := ⟨0x40010040, 16, 12, 0⟩
def PMU_RESCUE_STAT.desc : RegDesc := ⟨0x40010040, [], [(PMU_RESCUE_STAT.RESULT, .ro), (PMU_RESCUE_STAT.TRUNC, .w1c), (PMU_RESCUE_STAT.TIME, .ro)]⟩

/-! PMU_RESCUE_SRC_LO, offset 0x0100 (18_power_and_rescue.md) -/
def PMU_RESCUE_SRC_LO.ADDR (k : Nat) : Fld := ⟨0x40010100 + 16 * k, 4, 28, 0⟩
def PMU_RESCUE_SRC_LO.desc : RegDesc := ⟨0x40010100, [(8, 16)], [(PMU_RESCUE_SRC_LO.ADDR 0, .rw)]⟩

/-! PMU_RESCUE_SRC_HI, offset 0x0104 (18_power_and_rescue.md) -/
def PMU_RESCUE_SRC_HI.ADDR (k : Nat) : Fld := ⟨0x40010104 + 16 * k, 0, 8, 0⟩
def PMU_RESCUE_SRC_HI.ID (k : Nat) : Fld := ⟨0x40010104 + 16 * k, 8, 4, 0⟩
def PMU_RESCUE_SRC_HI.EN (k : Nat) : Fld := ⟨0x40010104 + 16 * k, 15, 1, 0⟩
def PMU_RESCUE_SRC_HI.desc : RegDesc := ⟨0x40010104, [(8, 16)], [(PMU_RESCUE_SRC_HI.ADDR 0, .rw), (PMU_RESCUE_SRC_HI.ID 0, .rw), (PMU_RESCUE_SRC_HI.EN 0, .rw)]⟩

/-! PMU_RESCUE_SRC_MAX, offset 0x0108 (18_power_and_rescue.md) -/
def PMU_RESCUE_SRC_MAX.MAX (k : Nat) : Fld := ⟨0x40010108 + 16 * k, 0, 22, 0⟩
def PMU_RESCUE_SRC_MAX.desc : RegDesc := ⟨0x40010108, [(8, 16)], [(PMU_RESCUE_SRC_MAX.MAX 0, .rw)]⟩

/-! EVR_CTL, offset 0x0000 (19_records_calibration_spares.md) -/
def EVR_CTL.EN : Fld := ⟨0x401b0000, 0, 1, 1⟩
def EVR_CTL.IRQ_SEV : Fld := ⟨0x401b0000, 4, 4, 4⟩
def EVR_CTL.desc : RegDesc := ⟨0x401b0000, [], [(EVR_CTL.EN, .rw), (EVR_CTL.IRQ_SEV, .rw)]⟩

/-! EVR_STAT, offset 0x0004 (19_records_calibration_spares.md) -/
def EVR_STAT.STAGED : Fld := ⟨0x401b0004, 0, 7, 0⟩
def EVR_STAT.WALL_STALE : Fld := ⟨0x401b0004, 7, 1, 1⟩
def EVR_STAT.LOST : Fld := ⟨0x401b0004, 16, 16, 0⟩
def EVR_STAT.desc : RegDesc := ⟨0x401b0004, [], [(EVR_STAT.STAGED, .ro), (EVR_STAT.WALL_STALE, .ro), (EVR_STAT.LOST, .w1cn)]⟩

/-! EVR_HEAD, offset 0x0008 (19_records_calibration_spares.md) -/
def EVR_HEAD.HEAD : Fld := ⟨0x401b0008, 0, 15, 0⟩
def EVR_HEAD.WRAPS : Fld := ⟨0x401b0008, 16, 16, 0⟩
def EVR_HEAD.desc : RegDesc := ⟨0x401b0008, [], [(EVR_HEAD.HEAD, .ro), (EVR_HEAD.WRAPS, .ro)]⟩

/-! EVR_SEQ_LO, offset 0x000c (19_records_calibration_spares.md) -/
def EVR_SEQ_LO.SEQ : Fld := ⟨0x401b000c, 0, 32, 0⟩
def EVR_SEQ_LO.desc : RegDesc := ⟨0x401b000c, [], [(EVR_SEQ_LO.SEQ, .ro)]⟩

/-! EVR_SEQ_HI, offset 0x0010 (19_records_calibration_spares.md) -/
def EVR_SEQ_HI.SEQ : Fld := ⟨0x401b0010, 0, 16, 0⟩
def EVR_SEQ_HI.desc : RegDesc := ⟨0x401b0010, [], [(EVR_SEQ_HI.SEQ, .ro)]⟩

/-! EVR_MARK, offset 0x0014 (19_records_calibration_spares.md) -/
def EVR_MARK.IDX : Fld := ⟨0x401b0014, 0, 15, 0⟩
def EVR_MARK.desc : RegDesc := ⟨0x401b0014, [], [(EVR_MARK.IDX, .rw)]⟩

/-! EVR_LIFE, offset 0x0018 (19_records_calibration_spares.md) -/
def EVR_LIFE.SECONDS : Fld := ⟨0x401b0018, 0, 32, 0⟩
def EVR_LIFE.desc : RegDesc := ⟨0x401b0018, [], [(EVR_LIFE.SECONDS, .ro)]⟩

/-! EVR_WALL_LO, offset 0x0020 (19_records_calibration_spares.md) -/
def EVR_WALL_LO.MS : Fld := ⟨0x401b0020, 0, 32, 0⟩
def EVR_WALL_LO.desc : RegDesc := ⟨0x401b0020, [], [(EVR_WALL_LO.MS, .rw)]⟩

/-! EVR_WALL_HI, offset 0x0024 (19_records_calibration_spares.md) -/
def EVR_WALL_HI.MS : Fld := ⟨0x401b0024, 0, 32, 0⟩
def EVR_WALL_HI.desc : RegDesc := ⟨0x401b0024, [], [(EVR_WALL_HI.MS, .rw)]⟩

/-! EVR_TIME_CFG, offset 0x0028 (19_records_calibration_spares.md) -/
def EVR_TIME_CFG.TRIM : Fld := ⟨0x401b0028, 0, 1, 1⟩
def EVR_TIME_CFG.desc : RegDesc := ⟨0x401b0028, [], [(EVR_TIME_CFG.TRIM, .rw)]⟩

/-! EVR_RATE_CFG, offset 0x0040 (19_records_calibration_spares.md) -/
def EVR_RATE_CFG.BURST (k : Nat) : Fld := ⟨0x401b0040 + 4 * k, 0, 8, 16⟩
def EVR_RATE_CFG.RATE (k : Nat) : Fld := ⟨0x401b0040 + 4 * k, 8, 16, 100⟩
def EVR_RATE_CFG.desc : RegDesc := ⟨0x401b0040, [(16, 4)], [(EVR_RATE_CFG.BURST 0, .rw), (EVR_RATE_CFG.RATE 0, .rw)]⟩

/-! EVR_DROP, offset 0x0080 (19_records_calibration_spares.md) -/
def EVR_DROP.COUNT (k : Nat) : Fld := ⟨0x401b0080 + 4 * k, 0, 32, 0⟩
def EVR_DROP.desc : RegDesc := ⟨0x401b0080, [(16, 4)], [(EVR_DROP.COUNT 0, .ro)]⟩

/-! EVR_PORT_PAY, offset 0x0100 (19_records_calibration_spares.md) -/
def EVR_PORT_PAY.DATA (p i : Nat) : Fld := ⟨0x401b0100 + 32 * p + 4 * i, 0, 32, 0⟩
def EVR_PORT_PAY.desc : RegDesc := ⟨0x401b0100, [(10, 32), (7, 4)], [(EVR_PORT_PAY.DATA 0 0, .rw)]⟩

/-! EVR_PORT_CMD, offset 0x011c (19_records_calibration_spares.md) -/
def EVR_PORT_CMD.CODE (p : Nat) : Fld := ⟨0x401b011c + 32 * p, 0, 12, 0⟩
def EVR_PORT_CMD.SEV (p : Nat) : Fld := ⟨0x401b011c + 32 * p, 12, 4, 0⟩
def EVR_PORT_CMD.UNIT (p : Nat) : Fld := ⟨0x401b011c + 32 * p, 16, 5, 0⟩
def EVR_PORT_CMD.REPEAT (p : Nat) : Fld := ⟨0x401b011c + 32 * p, 21, 1, 0⟩
def EVR_PORT_CMD.BUSY (p : Nat) : Fld := ⟨0x401b011c + 32 * p, 30, 1, 0⟩
def EVR_PORT_CMD.GO (p : Nat) : Fld := ⟨0x401b011c + 32 * p, 31, 1, 0⟩
def EVR_PORT_CMD.desc : RegDesc := ⟨0x401b011c, [(10, 32)], [(EVR_PORT_CMD.CODE 0, .rw), (EVR_PORT_CMD.SEV 0, .rw), (EVR_PORT_CMD.UNIT 0, .rw), (EVR_PORT_CMD.REPEAT 0, .rw), (EVR_PORT_CMD.BUSY 0, .ro), (EVR_PORT_CMD.GO 0, .w1s)]⟩

/-! EVR_SNAP, offset 0x0400 (19_records_calibration_spares.md) -/
def EVR_SNAP.OFFSET (s i : Nat) : Fld := ⟨0x401b0400 + 32 * s + 4 * i, 0, 22, 0⟩
def EVR_SNAP.EN (s i : Nat) : Fld := ⟨0x401b0400 + 32 * s + 4 * i, 31, 1, 0⟩
def EVR_SNAP.desc : RegDesc := ⟨0x401b0400, [(16, 32), (7, 4)], [(EVR_SNAP.OFFSET 0 0, .rw), (EVR_SNAP.EN 0 0, .rw)]⟩

/-! EVR_CODE, offset 0x4000 (19_records_calibration_spares.md) -/
def EVR_CODE.EN (c : Nat) : Fld := ⟨0x401b4000 + 4 * c, 0, 1, 1⟩
def EVR_CODE.CLASS (c : Nat) : Fld := ⟨0x401b4000 + 4 * c, 1, 4, 0⟩
def EVR_CODE.SNAP (c : Nat) : Fld := ⟨0x401b4000 + 4 * c, 5, 4, 0⟩
def EVR_CODE.SNAP_EN (c : Nat) : Fld := ⟨0x401b4000 + 4 * c, 9, 1, 0⟩
def EVR_CODE.desc : RegDesc := ⟨0x401b4000, [(4096, 4)], [(EVR_CODE.EN 0, .rw), (EVR_CODE.CLASS 0, .rw), (EVR_CODE.SNAP 0, .rw), (EVR_CODE.SNAP_EN 0, .rw)]⟩

/-! CAL_CTL, offset 0x0000 (19_records_calibration_spares.md) -/
def CAL_CTL.EN : Fld := ⟨0x401c0000, 0, 1, 1⟩
def CAL_CTL.STEP_US : Fld := ⟨0x401c0000, 16, 16, 2000⟩
def CAL_CTL.desc : RegDesc := ⟨0x401c0000, [], [(CAL_CTL.EN, .rw), (CAL_CTL.STEP_US, .rw)]⟩

/-! CAL_GAP, offset 0x0004 (19_records_calibration_spares.md) -/
def CAL_GAP.OPEN : Fld := ⟨0x401c0004, 0, 7, 0⟩
def CAL_GAP.desc : RegDesc := ⟨0x401c0004, [], [(CAL_GAP.OPEN, .ro)]⟩

/-! CAL_DONE, offset 0x0008 (19_records_calibration_spares.md) -/
def CAL_DONE.KIND : Fld := ⟨0x401c0008, 0, 4, 0⟩
def CAL_DONE.RESULT : Fld := ⟨0x401c0008, 4, 2, 0⟩
def CAL_DONE.GO : Fld := ⟨0x401c0008, 31, 1, 0⟩
def CAL_DONE.desc : RegDesc := ⟨0x401c0008, [], [(CAL_DONE.KIND, .rw), (CAL_DONE.RESULT, .rw), (CAL_DONE.GO, .w1s)]⟩

/-! CAL_DUE, offset 0x000c (19_records_calibration_spares.md) -/
def CAL_DUE.DUE : Fld := ⟨0x401c000c, 0, 16, 0⟩
def CAL_DUE.OVERDUE : Fld := ⟨0x401c000c, 16, 16, 0⟩
def CAL_DUE.desc : RegDesc := ⟨0x401c000c, [], [(CAL_DUE.DUE, .ro), (CAL_DUE.OVERDUE, .ro)]⟩

/-- The interval of calibration kind k in hours where the image gives none (R477): kinds 0 and 7 and the firmware kinds have
none in the table. -/
def calInterval (k : Nat) : Nat := [0, 168, 720, 720, 168, 24, 24].getD k 0

/-! CAL_KIND_CFG, offset 0x0100 (19_records_calibration_spares.md) -/
def CAL_KIND_CFG.INTERVAL (k : Nat) : Fld := ⟨0x401c0100 + 16 * k, 0, 16, calInterval k⟩
def CAL_KIND_CFG.GAPS (k : Nat) : Fld := ⟨0x401c0100 + 16 * k, 16, 7, 0⟩
def CAL_KIND_CFG.EN (k : Nat) : Fld := ⟨0x401c0100 + 16 * k, 31, 1, 0⟩
def CAL_KIND_CFG.desc : RegDesc := ⟨0x401c0100, [(16, 16)], [(CAL_KIND_CFG.INTERVAL 0, .rw), (CAL_KIND_CFG.GAPS 0, .rw), (CAL_KIND_CFG.EN 0, .rw)]⟩

/-! CAL_KIND_COUNT, offset 0x0104 (19_records_calibration_spares.md) -/
def CAL_KIND_COUNT.COUNT (k : Nat) : Fld := ⟨0x401c0104 + 16 * k, 0, 32, 0⟩
def CAL_KIND_COUNT.desc : RegDesc := ⟨0x401c0104, [(16, 16)], [(CAL_KIND_COUNT.COUNT 0, .ro)]⟩

/-! CAL_KIND_LAST, offset 0x0108 (19_records_calibration_spares.md) -/
def CAL_KIND_LAST.LIFE (k : Nat) : Fld := ⟨0x401c0108 + 16 * k, 0, 32, 0⟩
def CAL_KIND_LAST.desc : RegDesc := ⟨0x401c0108, [(16, 16)], [(CAL_KIND_LAST.LIFE 0, .ro)]⟩

/-! CAL_KIND_STAT, offset 0x010c (19_records_calibration_spares.md) -/
def CAL_KIND_STAT.RESULT (k : Nat) : Fld := ⟨0x401c010c + 16 * k, 0, 2, 0⟩
def CAL_KIND_STAT.TRACED (k : Nat) : Fld := ⟨0x401c010c + 16 * k, 2, 1, 0⟩
def CAL_KIND_STAT.desc : RegDesc := ⟨0x401c010c, [(16, 16)], [(CAL_KIND_STAT.RESULT 0, .ro), (CAL_KIND_STAT.TRACED 0, .ro)]⟩

/-! SPR_INV, offset 0x0000 (19_records_calibration_spares.md) -/
def SPR_INV.CORE : Fld := ⟨0x401d0000, 0, 1, 1⟩
def SPR_INV.CE : Fld := ⟨0x401d0000, 1, 1, 1⟩
def SPR_INV.STREAM : Fld := ⟨0x401d0000, 2, 1, 1⟩
def SPR_INV.HLANE_A : Fld := ⟨0x401d0000, 3, 1, 1⟩
def SPR_INV.HLANE_B : Fld := ⟨0x401d0000, 4, 1, 1⟩
def SPR_INV.HOST : Fld := ⟨0x401d0000, 5, 1, 1⟩
def SPR_INV.FAB : Fld := ⟨0x401d0000, 6, 1, 1⟩
def SPR_INV.DISCS : Fld := ⟨0x401d0000, 7, 2, 0⟩
def SPR_INV.desc : RegDesc := ⟨0x401d0000, [], [(SPR_INV.CORE, .ro), (SPR_INV.CE, .ro), (SPR_INV.STREAM, .ro), (SPR_INV.HLANE_A, .ro), (SPR_INV.HLANE_B, .ro), (SPR_INV.HOST, .ro), (SPR_INV.FAB, .ro), (SPR_INV.DISCS, .ro)]⟩

/-! SPR_CORE, offset 0x0004 (19_records_calibration_spares.md) -/
def SPR_CORE.SEL : Fld := ⟨0x401d0004, 0, 4, 15⟩
def SPR_CORE.RETIRE : Fld := ⟨0x401d0004, 4, 9, 0⟩
def SPR_CORE.desc : RegDesc := ⟨0x401d0004, [], [(SPR_CORE.SEL, .rw), (SPR_CORE.RETIRE, .w1s)]⟩

/-! SPR_DISC, offset 0x0008 (19_records_calibration_spares.md) -/
def SPR_DISC.SPARE0 : Fld := ⟨0x401d0008, 0, 6, 0⟩
def SPR_DISC.SPARE1 : Fld := ⟨0x401d0008, 6, 6, 0⟩
def SPR_DISC.USED0 : Fld := ⟨0x401d0008, 12, 1, 0⟩
def SPR_DISC.USED1 : Fld := ⟨0x401d0008, 13, 1, 0⟩
def SPR_DISC.desc : RegDesc := ⟨0x401d0008, [], [(SPR_DISC.SPARE0, .ro), (SPR_DISC.SPARE1, .ro), (SPR_DISC.USED0, .w1s), (SPR_DISC.USED1, .w1s)]⟩

/-! SPR_STAT, offset 0x000c (19_records_calibration_spares.md) -/
def SPR_STAT.REFUSED : Fld := ⟨0x401d000c, 0, 1, 0⟩
def SPR_STAT.PROMOS : Fld := ⟨0x401d000c, 16, 16, 0⟩
def SPR_STAT.desc : RegDesc := ⟨0x401d000c, [], [(SPR_STAT.REFUSED, .w1c), (SPR_STAT.PROMOS, .ro)]⟩

/-! SYS_PAD_CFG, offset 0x5000 (20_balls_and_signals.md) -/
def SYS_PAD_CFG.FUNC (n : Nat) : Fld := ⟨0x40005000 + 4 * n, 0, 2, 0⟩
def SYS_PAD_CFG.PULL (n : Nat) : Fld := ⟨0x40005000 + 4 * n, 2, 2, 1⟩
def SYS_PAD_CFG.DRIVE (n : Nat) : Fld := ⟨0x40005000 + 4 * n, 4, 1, 0⟩
def SYS_PAD_CFG.desc : RegDesc := ⟨0x40005000, [(16, 4)], [(SYS_PAD_CFG.FUNC 0, .rw), (SYS_PAD_CFG.PULL 0, .rw), (SYS_PAD_CFG.DRIVE 0, .rw)]⟩

/-! SYS_GPIO_OUT, offset 0x5040 (20_balls_and_signals.md) -/
def SYS_GPIO_OUT.OUT : Fld := ⟨0x40005040, 0, 16, 0⟩
def SYS_GPIO_OUT.desc : RegDesc := ⟨0x40005040, [], [(SYS_GPIO_OUT.OUT, .rw)]⟩

/-! SYS_GPIO_SET, offset 0x5044 (20_balls_and_signals.md) -/
def SYS_GPIO_SET.OUT : Fld := ⟨0x40005044, 0, 16, 0⟩
def SYS_GPIO_SET.desc : RegDesc := ⟨0x40005044, [], [(SYS_GPIO_SET.OUT, .w1s)]⟩

/-! SYS_GPIO_CLR, offset 0x5048 (20_balls_and_signals.md) -/
def SYS_GPIO_CLR.OUT : Fld := ⟨0x40005048, 0, 16, 0⟩
def SYS_GPIO_CLR.desc : RegDesc := ⟨0x40005048, [], [(SYS_GPIO_CLR.OUT, .w1c)]⟩

/-! SYS_GPIO_IN, offset 0x504c (20_balls_and_signals.md) -/
def SYS_GPIO_IN.IN : Fld := ⟨0x4000504c, 0, 16, 0⟩
def SYS_GPIO_IN.desc : RegDesc := ⟨0x4000504c, [], [(SYS_GPIO_IN.IN, .ro)]⟩

/-- The registers of the block with index b (R14), in the order of the spec's tables. -/
def regsSYS : List RegDesc :=
  [SYS_PATH_CFG.desc, SYS_BUS_ERR_LO.desc, SYS_BUS_ERR_HI.desc, SYS_IRQ_ROUTE.desc,
   SYS_IRQ_PEND.desc, SYS_IRQ_THR.desc, SYS_IRQ_CLAIM.desc, SYS_IRQ_DONE.desc,
   SYS_CLK_STAT.desc, SYS_CLK_CALREF.desc, SYS_MODE.desc, SYS_MODE_REQ.desc,
   SYS_RESET_CAUSE.desc, SYS_SW_RESET.desc, SYS_ACT_CFG.desc, SYS_ACT_STAT.desc,
   SYS_WAKE_CFG.desc, SYS_PAD_CFG.desc, SYS_GPIO_OUT.desc, SYS_GPIO_SET.desc,
   SYS_GPIO_CLR.desc, SYS_GPIO_IN.desc]
def regsBOOT : List RegDesc :=
  [BOOT_STAT.desc, BOOT_IMG_GEN.desc, BOOT_KEY_STAT.desc, BOOT_KEY_REVOKE.desc,
   BOOT_SLOT_CTL.desc]
def regsTMP : List RegDesc :=
  [TMP_COUNT_LO.desc, TMP_COUNT_HI.desc, TMP_PHASE.desc, TMP_ALARM_LO.desc,
   TMP_ALARM_HI.desc]
def regsCE : List RegDesc :=
  [CE_CTL.desc, CE_SWAP.desc, CE_STAT.desc, CE_CYCLES.desc,
   CE_MISS_LO.desc, CE_MISS_HI.desc, CE_FE_LIMIT.desc, CE_FE_CFG.desc,
   CE_SPARE.desc, CE_FAULT.desc]
def regsSTG : List RegDesc :=
  [STG_CTL.desc, STG_STAT.desc]
def regsSPN : List RegDesc :=
  [SPN_CTL.desc, SPN_TARGET.desc, SPN_STAT.desc, SPN_SPEED.desc,
   SPN_PHERR.desc, SPN_MOTOR.desc, SPN_MOTOR_L.desc, SPN_START.desc,
   SPN_HANDOVER.desc, SPN_RAMP.desc, SPN_TIMEOUT.desc, SPN_BRAKE.desc,
   SPN_VMOT.desc, SPN_ILIM.desc, SPN_RESTART.desc, SPN_CURVE.desc,
   SPN_CURVE_STAT.desc, SPN_FAULT.desc, SPN_LOSS_CNT.desc, SPN_START_CNT.desc]
def regsACT : List RegDesc :=
  [ACT_CTL.desc, ACT_STAT.desc, ACT_SEEK.desc, ACT_HEADS.desc,
   ACT_ZONE.desc, ACT_PES.desc, ACT_WEDGE_TIME.desc, ACT_CNT.desc,
   ACT_DEMOD_CFG.desc, ACT_SETTLE.desc, ACT_WUS.desc, ACT_WUS2.desc,
   ACT_PAIR_CFG.desc, ACT_PAIR_STAT.desc, ACT_LOAD.desc, ACT_UNLOAD.desc,
   ACT_LU_CFG.desc, ACT_MAXTRK.desc, ACT_WUS_LOG_LO.desc, ACT_WUS_LOG_HI.desc,
   ACT_PAIR_TBL_LO.desc, ACT_PAIR_TBL_HI.desc, ACT_UA_LIM.desc]
def regsASX : List RegDesc :=
  [ASX_CTL.desc, ASX_PB.desc, ASX_HOP_CFG.desc, ASX_AGE_CFG.desc,
   ASX_FH_CFG.desc, ASX_TBL_LO.desc, ASX_TBL_HI.desc, ASX_RETIRED.desc,
   ASX_HSTAT.desc, ASX_HCTL.desc, ASX_IOP.desc, ASX_IOP0.desc,
   ASX_HOPMAP.desc, ASX_HCNT.desc, ASX_MON.desc]
def regsHCH : List RegDesc :=
  [HCH_CTL.desc, HCH_STAT.desc, HCH_ZONE.desc, HCH_CNT.desc,
   HCH_SMCNT.desc, HCH_TPCNT.desc, HCH_MSE.desc, HCH_SM_CFG.desc,
   HCH_LDPC_CFG.desc, HCH_DD_CFG.desc, HCH_RETRY_CFG.desc, HCH_ADAPT_CFG.desc,
   HCH_SEED_TBL_LO.desc, HCH_SEED_TBL_HI.desc, HCH_SPARE.desc, HCH_TP_CTL.desc]
def regsHLK : List RegDesc :=
  [HLK_CTL.desc, HLK_STAT.desc, HLK_PROMO.desc, HLK_DELAY.desc,
   HLK_LANE_ERR.desc, HLK_FAULTS.desc, HLK_CC_REQ.desc, HLK_CC_DATA.desc,
   HLK_CC_STAT.desc, HLK_FRAMES.desc]
def regsZMG : List RegDesc :=
  [ZMG_CTL.desc, ZMG_STAT.desc, ZMG_ZTBL_LO.desc, ZMG_ZTBL_HI.desc,
   ZMG_LIMITS.desc, ZMG_OPEN_CNT.desc, ZMG_DM_CFG.desc, ZMG_DM_STAT.desc,
   ZMG_RECOV_CFG.desc, ZMG_SCAN_CFG.desc, ZMG_SCAN_STAT.desc, ZMG_PEND.desc,
   ZMG_SPARE.desc, ZMG_DEFECT.desc, ZMG_JRNL.desc, ZMG_NS_CFG.desc,
   ZMG_NS_ZONES.desc, ZMG_NS_COUNT.desc, ZMG_NS_MC.desc]
def regsOSV : List RegDesc :=
  [OSV_CMD.desc, OSV_TARGET.desc, OSV_STAT.desc, OSV_ADDR.desc,
   OSV_FAULT.desc, OSV_FOCUS_CFG.desc, OSV_LJ_CFG.desc, OSV_SEEK_CFG.desc,
   OSV_WR_CFG.desc, OSV_WOB_CFG.desc, OSV_LTBL_LO.desc, OSV_LTBL_HI.desc,
   OSV_CNT.desc, OSV_PULL_CFG.desc, OSV_SWEEP_CFG.desc, OSV_DSPIN.desc,
   OSV_DSTAT.desc, OSV_DSTART.desc, OSV_DRAMP.desc]
def regsOCH : List RegDesc :=
  [OCH_CTL.desc, OCH_STAT.desc, OCH_CMD.desc, OCH_ADDR.desc,
   OCH_RESULT.desc, OCH_SYNC_CFG.desc, OCH_DD_CFG.desc, OCH_ECC_CFG.desc,
   OCH_VERIFY_CFG.desc, OCH_CNT.desc, OCH_DISC.desc, OCH_NEXT.desc]
def regsOLK : List RegDesc :=
  [OLK_CTL.desc, OLK_STAT.desc, OLK_DELAY.desc, OLK_FRAMES.desc,
   OLK_ERR.desc, OLK_CC_REQ.desc, OLK_CC_DATA.desc, OLK_CC_STAT.desc]
def regsMOT : List RegDesc :=
  [MOT_AX_CFG.desc, MOT_AX_VEL.desc, MOT_AX_ACC.desc, MOT_AX_LIM2.desc,
   MOT_AX_SOFT_MIN.desc, MOT_AX_SOFT_MAX.desc, MOT_AX_POS.desc, MOT_AX_VNOW.desc,
   MOT_AX_CUR.desc, MOT_AX_CHOP.desc, MOT_AX_HOME.desc, MOT_AX_STAT.desc,
   MOT_GRP_TGT0.desc, MOT_GRP_TGT1.desc, MOT_GRP_CMD.desc, MOT_GRP_CTL.desc,
   MOT_GRP_STAT.desc, MOT_SW_CFG.desc, MOT_SW_POL.desc, MOT_SW_STAT.desc,
   MOT_SINE.desc]
def regsSEAL : List RegDesc :=
  [SEAL_CTL.desc, SEAL_STAT.desc, SEAL_SEQ_LO.desc, SEAL_SEQ_HI.desc,
   SEAL_PROV.desc, SEAL_CERT_CTL.desc, SEAL_CTX_LO.desc, SEAL_CTX_HI.desc,
   SEAL_CTX_CFG.desc, SEAL_LOG.desc, SEAL_WIT_CFG.desc, SEAL_WIT_TMO.desc,
   SEAL_CNT.desc, SEAL_HEAD.desc, SEAL_PUBKEY.desc, SEAL_KEYID.desc,
   SEAL_NS_RET.desc, SEAL_CERT.desc]
def regsHPC : List RegDesc :=
  [HPC_CFG.desc, HPC_LINK.desc, HPC_ERR.desc, HPC_PM.desc,
   HPC_DEMAND.desc, HPC_ID.desc, HPC_HLANE.desc]
def regsHSA : List RegDesc :=
  [HSA_DEMAND.desc, HSA_CFG.desc, HSA_ADDR_LO.desc, HSA_ADDR_HI.desc,
   HSA_LINK.desc, HSA_ERR.desc, HSA_NEXUS.desc, HSA_PM.desc,
   HSA_SPINUP.desc]
def regsHST : List RegDesc :=
  [HST_DEMAND.desc, HST_PM.desc, HST_CFG.desc, HST_LINK.desc]
def regsSMB : List RegDesc :=
  [SMB_CFG.desc, SMB_STAT.desc, SMB_ERR.desc]
def regsCMD : List RegDesc :=
  [CMD_CTL.desc, CMD_POOL_STAT.desc, CMD_EXEC_STAT.desc, CMD_POOL_LO.desc,
   CMD_POOL_HI.desc, CMD_RSV.desc, CMD_STAMP_LO.desc, CMD_STAMP_HI.desc,
   CMD_WC_CFG.desc, CMD_WC_STAT.desc, CMD_WCE_LO.desc, CMD_WCE_HI.desc,
   CMD_LWL.desc, CMD_LWL_IDX.desc, CMD_LWL_E0.desc, CMD_LWL_E1.desc,
   CMD_LWL_E2.desc, CMD_ST_CFG.desc, CMD_ST_STAT.desc, CMD_ABORT_CNT.desc,
   CMD_ERR.desc, CMD_ACT_HELD.desc]
def regsDRC : List RegDesc :=
  [DRC_CFG.desc, DRC_STAT.desc, DRC_ECS.desc, DRC_PPR_CFG.desc,
   DRC_PPR_STAT.desc]
def regsMEM : List RegDesc :=
  [MEM_CE.desc, MEM_UE.desc, MEM_ECC_CFG.desc, MEM_ERR_LO.desc,
   MEM_ERR_HI.desc, MEM_SCRUB_CFG.desc, MEM_SCRUB_STAT.desc, MEM_SCRUB_POS.desc,
   MEM_RGN.desc, MEM_FLIP_CTL.desc, MEM_FLIP_ADDR_LO.desc, MEM_FLIP_ADDR_HI.desc,
   MEM_FLIP_M0.desc, MEM_FLIP_M1.desc, MEM_FLIP_M2.desc, MEM_REP_CFG.desc,
   MEM_REP_STAT.desc]
def regsDMA : List RegDesc :=
  [DMA_SRC_LO.desc, DMA_DST_LO.desc, DMA_SH_SRC_LO.desc, DMA_SH_DST_LO.desc,
   DMA_SRC_HI.desc, DMA_DST_HI.desc, DMA_SH_SRC_HI.desc, DMA_SH_DST_HI.desc,
   DMA_COUNT.desc, DMA_SH_COUNT.desc, DMA_CTL.desc, DMA_SH_CTL.desc,
   DMA_STAT.desc, DMA_CRC_LO.desc, DMA_CRC_HI.desc, DMA_REMAIN.desc,
   DMA_IRQ.desc]
def regsFIF : List RegDesc :=
  [FIF_CFG.desc, FIF_CTL.desc, FIF_STAT.desc, FIF_PKT.desc,
   FIF_DROP.desc, FIF_PUSH.desc, FIF_POP.desc, FIF_POP_INFO.desc]
def regsTCH : List RegDesc :=
  [TCH_CTL.desc, TCH_STAT.desc, TCH_LOCK.desc, TCH_WAYMASK.desc,
   TCH_RANGE_LO.desc, TCH_RANGE_HI.desc, TCH_RANGE_LEN.desc, TCH_RANGE_OP.desc,
   TCH_HITS.desc, TCH_MISSES.desc, TCH_EVB.desc, TCH_DIAG_SEL.desc,
   TCH_DIAG_TAG.desc, TCH_DIAG_DATA.desc]
def regsARB : List RegDesc :=
  [ARB_AGE.desc, ARB_CW.desc, ARB_LOAD.desc, ARB_WAIT.desc,
   ARB_PROMO.desc]
def regsFAB : List RegDesc :=
  [FAB_CFG.desc, FAB_STAT.desc, FAB_UID_LO.desc, FAB_UID_HI.desc,
   FAB_ADV.desc, FAB_NS_EN_LO.desc, FAB_NS_EN_HI.desc, FAB_TMO.desc,
   FAB_RING_LO.desc, FAB_RING_HI.desc, FAB_RING_CTL.desc, FAB_LANE.desc,
   FAB_CNT.desc, FAB_PORT_STAT.desc, FAB_PORT_ERR.desc, FAB_RT.desc]
def regsPMU : List RegDesc :=
  [PMU_DOM_CTL.desc, PMU_DOM_STAT.desc, PMU_DOM_PEND.desc, PMU_DOM_ERR.desc,
   PMU_DOM_CFG.desc, PMU_DOM_SVC.desc, PMU_CKPT_CFG.desc, PMU_CKPT_CTL.desc,
   PMU_CKPT_STAT.desc, PMU_CKPT_SEQ_LO.desc, PMU_CKPT_SEQ_HI.desc, PMU_XLOG.desc,
   PMU_RESCUE_STAT.desc, PMU_RESCUE_SRC_LO.desc, PMU_RESCUE_SRC_HI.desc, PMU_RESCUE_SRC_MAX.desc]
def regsEVR : List RegDesc :=
  [EVR_CTL.desc, EVR_STAT.desc, EVR_HEAD.desc, EVR_SEQ_LO.desc,
   EVR_SEQ_HI.desc, EVR_MARK.desc, EVR_LIFE.desc, EVR_WALL_LO.desc,
   EVR_WALL_HI.desc, EVR_TIME_CFG.desc, EVR_RATE_CFG.desc, EVR_DROP.desc,
   EVR_PORT_PAY.desc, EVR_PORT_CMD.desc, EVR_SNAP.desc, EVR_CODE.desc]
def regsCAL : List RegDesc :=
  [CAL_CTL.desc, CAL_GAP.desc, CAL_DONE.desc, CAL_DUE.desc,
   CAL_KIND_CFG.desc, CAL_KIND_COUNT.desc, CAL_KIND_LAST.desc, CAL_KIND_STAT.desc]
def regsSPR : List RegDesc :=
  [SPR_INV.desc, SPR_CORE.desc, SPR_DISC.desc, SPR_STAT.desc]
def ofBlock : Nat → List RegDesc
  | 0 => regsSYS
  | 1 => regsPMU
  | 2 => regsTMP
  | 3 => regsCE
  | 4 => regsSPN
  | 5 => regsACT
  | 6 => regsASX
  | 7 => regsHCH
  | 8 => regsHLK
  | 9 => regsZMG
  | 10 => regsOSV
  | 11 => regsOCH
  | 12 => regsOLK
  | 13 => regsMOT
  | 14 => regsSTG
  | 15 => regsSEAL
  | 16 => regsHPC
  | 17 => regsHSA
  | 18 => regsHST
  | 19 => regsCMD
  | 20 => regsDRC
  | 21 => regsMEM
  | 22 => regsDMA
  | 23 => regsFIF
  | 24 => regsTCH
  | 25 => regsARB
  | 26 => regsFAB
  | 27 => regsEVR
  | 28 => regsCAL
  | 29 => regsSPR
  | 30 => regsBOOT
  | 31 => regsSMB
  | _ => []

/-- The fields that the tables and R462, R479 keep in MRAM: the register and the field's lowest bit. -/
def keptMram : List (RegDesc × Nat) :=
  [(SPN_LOSS_CNT.desc, 0),
   (SPN_LOSS_CNT.desc, 16),
   (ASX_RETIRED.desc, 0),
   (ASX_HSTAT.desc, 4),
   (ASX_IOP.desc, 0),
   (ASX_IOP0.desc, 0),
   (ASX_HCNT.desc, 0),
   (ASX_HCNT.desc, 16),
   (ZMG_SCAN_STAT.desc, 0),
   (ZMG_SCAN_STAT.desc, 20),
   (SEAL_CERT_CTL.desc, 0),
   (SEAL_CERT_CTL.desc, 12),
   (SEAL_NS_RET.desc, 0),
   (SEAL_CERT.desc, 0),
   (DRC_PPR_STAT.desc, 8),
   (DRC_PPR_STAT.desc, 16),
   (MEM_SCRUB_POS.desc, 0),
   (PMU_CKPT_STAT.desc, 0),
   (PMU_XLOG.desc, 0),
   (PMU_XLOG.desc, 16),
   (EVR_HEAD.desc, 16),
   (EVR_LIFE.desc, 0),
   (CAL_KIND_COUNT.desc, 0),
   (CAL_KIND_LAST.desc, 0),
   (CAL_KIND_STAT.desc, 0),
   (CAL_KIND_STAT.desc, 2),
   (SPR_CORE.desc, 0),
   (SPR_CORE.desc, 4),
   (SPR_DISC.desc, 12),
   (SPR_DISC.desc, 13),
   (SPR_STAT.desc, 16)]

/-- The fields that the tables, R59, R64 and 20_balls_and_signals.md keep in the AON domain across resets. -/
def keptAon : List (RegDesc × Nat) :=
  [(SYS_CLK_STAT.desc, 8),
   (SYS_CLK_STAT.desc, 9),
   (SYS_RESET_CAUSE.desc, 0),
   (SYS_RESET_CAUSE.desc, 1),
   (SYS_RESET_CAUSE.desc, 2),
   (SYS_RESET_CAUSE.desc, 3),
   (SYS_RESET_CAUSE.desc, 4),
   (SYS_RESET_CAUSE.desc, 5),
   (SYS_RESET_CAUSE.desc, 6),
   (SYS_RESET_CAUSE.desc, 7),
   (SYS_ACT_STAT.desc, 0),
   (SYS_ACT_STAT.desc, 16),
   (SYS_WAKE_CFG.desc, 0),
   (SYS_WAKE_CFG.desc, 16),
   (SYS_WAKE_CFG.desc, 17),
   (TMP_COUNT_LO.desc, 0),
   (TMP_COUNT_HI.desc, 0),
   (PMU_RESCUE_STAT.desc, 0),
   (SYS_PAD_CFG.desc, 0),
   (SYS_PAD_CFG.desc, 2),
   (SYS_PAD_CFG.desc, 4),
   (SYS_GPIO_OUT.desc, 0)]

/-- The fields to which an image may give a value: those whose Reset entry is img, and the RWL fields that the boot ROM loads (R6, R10, R24, R354). -/
def imaged : List (RegDesc × Nat) :=
  [(SYS_PATH_CFG.desc, 0),
   (SYS_PATH_CFG.desc, 1),
   (SYS_PATH_CFG.desc, 2),
   (TMP_PHASE.desc, 0),
   (CE_FE_LIMIT.desc, 0),
   (CE_FE_CFG.desc, 0),
   (CE_FE_CFG.desc, 8),
   (CE_FE_CFG.desc, 20),
   (CE_FE_CFG.desc, 22),
   (CE_FE_CFG.desc, 24),
   (SPN_TARGET.desc, 0),
   (SPN_MOTOR.desc, 0),
   (SPN_MOTOR.desc, 16),
   (SPN_MOTOR_L.desc, 0),
   (ACT_HEADS.desc, 0),
   (ACT_LOAD.desc, 0),
   (ACT_LOAD.desc, 24),
   (ACT_UNLOAD.desc, 0),
   (ACT_MAXTRK.desc, 0),
   (ACT_PAIR_TBL_LO.desc, 3),
   (ACT_PAIR_TBL_HI.desc, 0),
   (ACT_UA_LIM.desc, 0),
   (ASX_CTL.desc, 0),
   (ASX_TBL_LO.desc, 9),
   (ASX_TBL_HI.desc, 0),
   (HCH_SEED_TBL_LO.desc, 6),
   (HCH_SEED_TBL_HI.desc, 0),
   (ZMG_ZTBL_LO.desc, 5),
   (ZMG_ZTBL_HI.desc, 0),
   (OSV_LJ_CFG.desc, 0),
   (OSV_LTBL_LO.desc, 9),
   (OSV_LTBL_HI.desc, 0),
   (OSV_DSPIN.desc, 0),
   (MOT_AX_CFG.desc, 1),
   (MOT_AX_CFG.desc, 2),
   (MOT_AX_CFG.desc, 8),
   (MOT_AX_VEL.desc, 0),
   (MOT_AX_ACC.desc, 0),
   (MOT_AX_ACC.desc, 16),
   (MOT_AX_LIM2.desc, 0),
   (MOT_AX_LIM2.desc, 16),
   (MOT_AX_SOFT_MIN.desc, 0),
   (MOT_AX_SOFT_MAX.desc, 0),
   (MOT_AX_CUR.desc, 0),
   (MOT_AX_CUR.desc, 12),
   (MOT_AX_HOME.desc, 12),
   (MOT_AX_HOME.desc, 16),
   (MOT_SW_CFG.desc, 0),
   (MOT_SW_POL.desc, 0),
   (SEAL_CTX_LO.desc, 12),
   (SEAL_CTX_HI.desc, 0),
   (SEAL_CTX_CFG.desc, 0),
   (HPC_CFG.desc, 0),
   (HPC_CFG.desc, 3),
   (HPC_CFG.desc, 5),
   (HPC_ID.desc, 0),
   (HPC_ID.desc, 16),
   (HSA_CFG.desc, 1),
   (HSA_ADDR_LO.desc, 0),
   (HSA_ADDR_HI.desc, 0),
   (HSA_SPINUP.desc, 0),
   (HST_CFG.desc, 1),
   (SMB_CFG.desc, 0),
   (CMD_POOL_LO.desc, 24),
   (CMD_POOL_HI.desc, 0),
   (CMD_WC_CFG.desc, 0),
   (CMD_WCE_LO.desc, 0),
   (CMD_WCE_HI.desc, 0),
   (DRC_CFG.desc, 0),
   (DRC_CFG.desc, 4),
   (DRC_CFG.desc, 5),
   (DRC_CFG.desc, 6),
   (MEM_RGN.desc, 0),
   (MEM_RGN.desc, 12),
   (MEM_RGN.desc, 24),
   (FAB_CFG.desc, 4),
   (PMU_DOM_SVC.desc, 0),
   (PMU_RESCUE_SRC_LO.desc, 4),
   (PMU_RESCUE_SRC_HI.desc, 0),
   (PMU_RESCUE_SRC_HI.desc, 8),
   (PMU_RESCUE_SRC_HI.desc, 15),
   (PMU_RESCUE_SRC_MAX.desc, 0),
   (EVR_SNAP.desc, 0),
   (EVR_SNAP.desc, 31),
   (EVR_CODE.desc, 0),
   (EVR_CODE.desc, 1),
   (EVR_CODE.desc, 5),
   (EVR_CODE.desc, 9),
   (CAL_KIND_CFG.desc, 0),
   (CAL_KIND_CFG.desc, 16),
   (CAL_KIND_CFG.desc, 31),
   (SPR_INV.desc, 7),
   (SPR_DISC.desc, 0),
   (SPR_DISC.desc, 6)]

/-- The fields with access code RWL, and the locks (R6). -/
def locked : List (RegDesc × Nat) :=
  [(SYS_PATH_CFG.desc, 0),
   (SYS_PATH_CFG.desc, 1),
   (SYS_PATH_CFG.desc, 2),
   (SYS_PATH_CFG.desc, 31),
   (HPC_CFG.desc, 0),
   (HPC_CFG.desc, 3),
   (HPC_CFG.desc, 5),
   (HPC_CFG.desc, 31),
   (HPC_ID.desc, 0),
   (HPC_ID.desc, 16),
   (HSA_CFG.desc, 1),
   (HSA_CFG.desc, 31),
   (HSA_ADDR_LO.desc, 0),
   (HSA_ADDR_HI.desc, 0),
   (HST_CFG.desc, 1),
   (HST_CFG.desc, 31),
   (SMB_CFG.desc, 0),
   (SMB_CFG.desc, 31),
   (DRC_CFG.desc, 0),
   (DRC_CFG.desc, 4),
   (DRC_CFG.desc, 5),
   (DRC_CFG.desc, 6),
   (DRC_CFG.desc, 31)]

/-- A register field at an address of its register: the field of index 0 moved there, with its own Reset value where that differs from index to index. -/
def fieldAt (f : Fld) (addr : Nat) : Fld :=
  let i := (addr - f.addr) / 4
  let r := if f.addr = (MOT_SINE.T 0).addr then sineWord i
    else if f.key = (CAL_KIND_CFG.INTERVAL 0).key then calInterval (i / 4) else f.rst
  ⟨addr, f.lo, f.width, r⟩

end Sys2Proof.Reg
end

