-- ==== Sys2Proof/Config.lean ====
section
/-! DEFINITION. What the spec leaves open: free values. They are opaque: nothing can evaluate them or prove a value of them.
Which rule leaves which value open is said where each is used, and in the assumption log. -/

namespace Sys2Proof.Config

/-- The n-th fresh free number: State counts how many have been taken (`State.free`), so no two uses share a number. Log entry 12 (DESIGN CHOICE). -/
opaque freeNat : Nat → Nat

/-- A free value of the given width in bits, as a number. -/
def freeBits (n width : Nat) : Nat := freeNat n % 2 ^ width

/-- The severity of a hardware event, by its code: R466 gives a record a severity, and no rule says which one a block posts. Log entry 17 (DESIGN CHOICE). -/
opaque eventSeverity : Nat → Nat

/-- Whether a quotient that no rule says how to round is rounded up, where it is not whole. Log entry 13 (DESIGN CHOICE). -/
opaque roundsUp : Int → Nat → Bool

/-- The 64-byte header of a GET_PROOF response (R325): namespace, zone, block and group, whose places no rule states. Log entry 83 (DESIGN CHOICE). -/
opaque proofHeader : (ns zone k i : Nat) → BitVec 512

/-- The boot ROM's version (R332). Log entry 84 (DESIGN CHOICE). -/
opaque romVersion : BitVec 16

/-- The width of a P-521 private scalar (R328). -/
def scalarBits : Nat := 521

/-- The values that an image's sections of type 1 and 3 give register fields, as field keys and values (R10): no rule gives the layout of these sections. Log entry 10 (DESIGN CHOICE). -/
opaque imageFields : (content : List Nat) → List (Nat × Nat)

/-- The coefficient entries of an engine in section type 7 (R54, R87), which no rule lays out. Log entry 182 (PRESUMED). -/
opaque coefTable : (content : List Nat) → (engine : Nat) → List Nat

/-- The layers of a disc, and the clusters of a layer, by section type 3 (R54), which no rule lays out. Log entry 58 (PRESUMED). -/
opaque discLayers : (content : List Nat) → Nat
opaque layerClusters : (content : List Nat) → Nat

/-- The seed entry that section type 2 gives a head and a radial band (R187), as 64 bytes' number, and the built-in default: no rule gives the layout of
the one or the values of the other. Log entry 234 (PRESUMED). -/
opaque seedDefault : (content : List Nat) → (head band : Nat) → Nat
opaque seedBuiltIn : Nat

/-- The address table of section type 3 (R248): the track of an address unit of a layer; no rule gives its layout. Log entry 58 (PRESUMED). -/
opaque addressTrack : (content : List Nat) → (layer adu : Nat) → Int

/-- The microsteps of axis S that move the sled by some tracks at the pitch of section type 3 (R248). Log entry 58 (PRESUMED). -/
opaque sledSteps : (content : List Nat) → (tracks : Int) → Int

/-- The full scale of power stage 0's voltages in mV and of its currents in mA (R89): no rule gives them. Log entry 190 (DESIGN CHOICE). -/
opaque stageVolts : Nat
opaque stageAmps : Nat

/-- The angle of the back-EMF vector of three phases in 1/65,536 turn (R101, R108): no rule gives its rounding. Log entry 191 (DESIGN CHOICE). -/
opaque emfAngle : (u v w : Int) → BitVec 16

/-- The speed trim of CE2's phase loop in ppm after a wedge with an error in ns, from the trim before it (R105), whose gains no rule gives. Log entry 192 (DESIGN CHOICE). -/
opaque phaseTrim : (err trim : Int) → Int

/-- The full scale of the VCM voltages of power stage 0 in mV (R89): no rule gives it. Log entry 207 (DESIGN CHOICE). -/
opaque vcmVolts : Nat

/-- The head whose surface holds a physical zone (R202, R227), which no rule gives. Log entry 214 (DESIGN CHOICE). -/
opaque zoneHead : (phys : Nat) → Nat

/-- The bytes that the journal's conventional zones hold (R233), which no rule gives. Log entry 240 (DESIGN CHOICE). -/
opaque journalBytes : Nat

/-- The lens's acceleration in pm per tempo² at a kick current of OSV_LJ_CFG (R246), and the change of focus current, as a link word, that moves it by some nm (R245): no rule gives the
actuator's constants. Log entry 252 (DESIGN CHOICE). -/
opaque lensAccel : (kick : Nat) → Nat
opaque lensCurrent : (nm : Nat) → Int

/-- The low-pass of the tracking output with the image's corner frequency (R238), from the value before. Log entry 254 (DESIGN CHOICE). -/
opaque sledFilter : (out low : Int) → Int

/-- The back-EMF of a phase of the disc spindle from its voltage, its current and that of the tempo before (R94, R254), and its pole pairs, by the constants of section type 3, which
no rule lays out. Log entry 256 (DEDUCED). -/
opaque discEmf : (content : List Nat) → (v i was : Int) → Int
opaque discPoles : (content : List Nat) → Nat

/-- The 1,920 parity bits of a codeword by its information bits (R181): the parity-check matrix is fixed in silicon and not given. Log entry 225 (DESIGN CHOICE). -/
opaque ldpcParity : (info : Nat) → BitVec 1920

/-- The start wedge of a physical zone's tracks (R182), from the zone table of the image, whose layout no rule gives. Log entry 226 (PRESUMED). -/
opaque zoneStart : (phys : Nat) → Nat

/-- Which of n ways the LFSR of the table cache selects (R412): the rule gives its polynomial and not how its state selects. Log entry 96 (DESIGN CHOICE). -/
opaque wayChoice : (lfsr n : Nat) → Nat

end Sys2Proof.Config
end

