-- ==== Sys2Proof/Machine/State.lean ====
section
/-! DEFINITION. The state of the device. Every register field of the spec's tables is held in `regs` under its key (Regs.lean
names them all); the structures here hold what the rules give the device beside its registers. A default value is the value at
State.reset. -/

namespace Sys2Proof.Machine

/-- A Hecel loop program with its header (R75). `inputs` are the 64 INPUT bytes, `outputSafe` the 32 OUTPUT_SAFE bytes, `fe`
the 16 monitor presets (limit, config), `tail` the 16 bytes that are 0, `words` the instruction words. -/
structure Program where
  magic        : Nat
  engine       : Nat
  version      : Nat
  nInstr       : Nat
  staticCycles : Nat
  nFetch       : Nat
  nCoef        : Nat
  nState       : Nat
  inputs       : List Nat
  outputSafe   : List Nat
  fe           : List (Nat × Nat)
  tail         : List Nat
  words        : List Nat
deriving DecidableEq, Repr

/-- A section of an image: its entry (R52) and its bytes. -/
structure ImgSection where
  type     : Nat
  required : Bool
  offset   : Nat
  size     : Nat
  load     : Nat
  data     : List Nat
deriving DecidableEq, Repr

/-- An Etnyx image as read from its slot (R52 to R54): the header's fields, its sections, the signature that follows it, the digest of its bytes 0 to
LENGTH − 1, and what the device takes from the sections: ball words (type 4), programs (type 6), register presets (type 8),
the coefficient entries of each engine (type 7), layers and clusters per layer of its discs (type 3), and the values of register fields whose Reset entry is img (R10). -/
structure Image where
  magic      : Nat
  hdrVer     : Nat
  hdrSize    : Nat
  length     : Nat
  generation : Nat
  part       : Nat
  keySlot    : Nat
  flags      : Nat
  entry      : Nat
  sections   : List ImgSection
  pubkey     : List Nat
  signature  : List Nat
  digest     : Nat
  padWords   : List Nat
  programs   : List Program
  coefs      : List (List Nat)
  presets    : List (Nat × Nat)
  layers     : Nat
  clusters   : Nat
  fields     : List (Fld × Nat)
deriving DecidableEq, Repr

/-- Why the device stops. -/
inductive Fault where
  /-- A command names a unit the device does not have (an engine above 4, an actuator above 1, ...). Raised by the meaning of
  the command that names it. Safe: the hardware has no such unit, so the command cannot occur. -/
  | noSuchUnit
deriving DecidableEq, Repr

/-- Why a command has no meaning. -/
inductive Refusal where
  /-- The command's meaning is not written yet. Raised by Dispatch.lean only. Safe: nothing is claimed of the command. -/
  | notModelled (mnemonic : String)
deriving DecidableEq, Repr

/-- The response of an access on the interconnect (R16, R22). -/
inductive BusResp where
  | none
  | done
  | data (bytes : List Nat) (poison : Bool)
  | error (cause : Nat)
deriving DecidableEq, Repr

/-- An event record as it is staged (R466): the payload is bytes 32 to 59, low byte first. -/
structure EvRec where
  code    : Nat
  sev     : Nat := 0
  tempo   : Nat := 0
  rep     : Nat := 0
  wall    : Nat := 0
  life    : Nat := 0
  source  : Nat := 0
  snapset : Nat := 255
  flags   : Nat := 0
  payload : List Nat := []
  repeatReq : Bool := false
  port    : Nat := 255
deriving DecidableEq, Repr

/-- The outcomes of R381, a row for each, with the two that a row joins apart, and the unit attention of R377. -/
inductive Status where
  | success | becomingReady | spindleFault | invalidNs | lbaRange | invalidField | unrecoveredRead | writeFault | internalError
  | aborted | zoneInvalidWrite | zoneFull | zoneBoundary | tooManyOpen | tooManyActive | zoneReadOnly | zoneOffline
  | writeProtected | retention | guardCheck | sequenceError | selfTestInProgress | taskSetFull | busy | functionComplete
  | notAborted | unitAttention | invalidOpcode
deriving DecidableEq, Repr

/-- SCSI sense data (R381): sense key, ASC and ASCQ, or the ZONE IS OFFLINE code, which R381 names and does not number. -/
inductive Sense where
  | code (key asc ascq : Nat)
  | zoneIsOffline
deriving DecidableEq, Repr

/-- What a personality's completion carries (R374, R375, R381): SCT, SC, DNR where it is stated, and Dword 0 for NVMe; a status or a sense under CHECK CONDITION for
SAS; the ERR bit with ABRT, IDNF or UNC of the Error register and the sense data reported where the host enables that for SATA; or what R381 gives no code for. -/
inductive Answer where
  | nvme (sct sc : Nat) (dnr : Option Bool) (dword0 : Nat)
  | good
  | taskSetFull
  | busy
  | functionComplete
  | check (sense : Sense)
  | ataOk
  | ataError (abrt idnf unc : Bool) (sense : Option Sense)
  | ncqAborted
  | uncoded
deriving DecidableEq, Repr

/-- What Identify reports of a namespace and of the device (R342, R348, R365): logical blocks, logical blocks in a physical one, whether it is zoned, whether its cache
is enabled and that a cache is volatile; MDTS and the zone append limit in bytes, the queue pairs and MQES. -/
structure Identity where
  lbas     : Nat
  perBlock : Nat
  zoned    : Bool
  cache    : Bool
  volatile : Bool
  mdts     : Nat
  zasl     : Nat
  queues   : Nat
  mqes     : Nat
deriving DecidableEq, Repr

/-- A zone in a zone report (R349): its type, 1 conventional and 2 sequential write required, its state code, first LBA and write pointer. -/
structure ZoneInfo where
  type    : Nat
  state   : Nat
  first   : Nat
  pointer : Nat
deriving DecidableEq, Repr

/-- What leaves the device: messages, frames, completions and answers, oldest first. The list is the model's own record. -/
inductive Msg where
  /-- An MSI-X message on a vector (R32). -/
  | msix (vector : Nat)
  /-- An outbound stage-link frame: its words w0 to w29 (R89). -/
  | stageFrame (link : Nat) (words : List Nat)
  /-- The answer to a claim (R27). -/
  | claim (ctx src : Nat)
  /-- A command's completion (R374, R381): the port, the nexus or queue, the tag, the outcome, how the personality encodes it, and the LBA it names. -/
  | status (port : Port) (nexus tag : Nat) (status : Status) (answer : Answer) (lba : Nat)
  /-- The data of an Identify (R342, R348). -/
  | identity (port : Port) (nexus tag : Nat) (data : Identity)
  /-- The zones of a zone report (R349). -/
  | zones (port : Port) (nexus tag : Nat) (list : List ZoneInfo)
  /-- Control blocks on the transmit lane of a head link, as payloads (R171) and as the words on the lane (R169). -/
  | headLink (link : Nat) (blocks words : List Nat)
  /-- A piece of a sector that stream n writes in the data region after a wedge, from a bit of the region on (R182, R198): its GATE and data blocks as payloads, and
  the words on the lane of the stream's head link. -/
  | headWrite (stream wedge bit : Nat) (blocks words : List Nat)
  /-- A sector written by a stream (R180, R181): the physical zone, the sector index in it and its information bytes. -/
  | sector (stream zone idx info : Nat)
  /-- Control blocks on the transmit lane of the optical link, as payloads and as the words on the lane (R289). -/
  | opticalLink (blocks words : List Nat)
  /-- A cluster written (R263): its layer and number, the stream of subcode and user bytes, and the blocks and lane words that carry its
  recorded bits (R264 to R270, R289). -/
  | cluster (layer cluster : Nat) (stream blocks words : List Nat)
  /-- The response of a proof receive (R325). -/
  | proof (port : Port) (bytes : List Nat)
  /-- The status of an administration command that takes no context (R61, R353). -/
  | admin (port : Port) (status : Status) (answer : Answer)
  /-- A slot of a media cache written (R217): its namespace, number, tag bytes and 16 blocks. -/
  | slot (ns slot : Nat) (tag : List Nat) (blocks : List Nat)
  /-- A run of data sectors written to a physical zone, from a data sector on: a band image (R220, R221) or a relocated zone (R227); their user bytes as a number, low
  byte first. -/
  | image (phys first data : Nat)
  /-- The data of a read (R363): the port, the nexus or queue, the tag, the first LBA and the LBAs' bytes as a number, low byte first. -/
  | readData (port : Port) (nexus tag lba data : Nat)
  /-- A frame on a fabric port (R425) with its link sequence number (R432). -/
  | fabric (port seq : Nat) (frame : Frame)
  /-- A control block on a fabric port (R425): its payload. -/
  | fabricCtl (port block : Nat)
  /-- The 66-bit words on a fabric port's lane that carry the message before (R420, R425). -/
  | wire (port : Nat) (words : List Nat)
deriving DecidableEq, Repr

/-- The device's inputs as levels (R487), the clocks as the AON monitor sees them (R35 to R37), and whether the JTAG TAP is in Test-Logic-Reset (R518). -/
structure Pins where
  rails  : Bool := true
  pwrOk  : Bool := true
  resetN : Bool := false
  pfailN : Bool := true
  perstN : Bool := true
  xin    : Bool := true
  pll    : Bool := true
  refclk : Bool := true
  calref : Bool := false
  trstN  : Bool := true
  tapReset : Bool := true
deriving DecidableEq, Repr

/-- SYS: the interrupt controller's service marks and event latches (R27, R28, R525), redirections (R31), the cores that have
been started (R31), the address at which a core's firmware was started (R52, R54), the latches of R9 by master and address, and the last bus response. -/
structure SysSt where
  inService  : List (Nat × Nat) := []
  latched    : List Nat := []
  redirected : List Nat := []
  started    : List Nat := []
  startAt    : AMap Nat := []
  pairLatch  : List (Nat × Nat × Nat) := []
  resp       : BusResp := .none
deriving DecidableEq, Repr

/-- A fuse key slot (R55, R57): the 64-byte hash fused in it, or none while unprogrammed. -/
structure KeyFuse where
  hash    : Option Nat := none
  revoked : Bool := false
deriving DecidableEq, Repr

/-- BOOT and the mode sequencer (R38 to R64): fuse key slots and the image slots' bytes in flash (R46); whether the boot record's check code holds; the
running image; a boot to come and its cause; the mode before a reset whose transition is not recorded yet (R39); the device's unique ID (R10); the trial timer; the
download session with its bytes; the flash read mode (R46: 8D-8D-8D or 1S-1S-1S). -/
structure BootSt where
  fuses       : List KeyFuse := [{}, {}, {}, {}]
  slotA       : List Nat := []
  slotB       : List Nat := []
  recordGood  : Bool := true
  image       : Option Image := none
  awaitBoot   : Bool := false
  cause       : Nat := 0
  oldMode     : Option Nat := some 0
  flash8D     : Bool := false
  trialRuns   : Bool := false
  trialPaused : Bool := false
  session     : Option (Port × List Nat) := none
  staged      : Option Nat := none
  heldReq     : Option Nat := none
  going       : Option Nat := none
  actPhase    : Nat := 0
  actPort     : Option Port := none
  revoking    : Nat := 0
  mediaReads  : Bool := false
  admin       : Bool := false
  sealReady   : Bool := false
  recovery    : Bool := false
  clockLost   : Option Nat := none
  trialFailed : Option Nat := none
  wokeBy      : Option Nat := none
  resetHeld   : Bool := false
  pwrLow      : Bool := false
  spinHeld    : Bool := false
  straps      : Nat := 0
  uid         : Nat := 0
  rescue      : Nat := 0
deriving DecidableEq, Repr

/-- TMP: the tempo phase bookkeeping of R68 that no register shows, the dividers that run on the tempo (R462, R463) and what
their correction has accumulated in 1/100,000,000 tempo (R464). -/
structure TmpSt where
  newK    : Option Nat := none
  lifeDiv : Nat := 0
  wallDiv : Nat := 0
  trim    : Int := 0
  stored0 : Nat := 0
  stored1 : Nat := 0
  life0   : Nat := 0
  life1   : Nat := 0
  turn    : Bool := false
  storedAny : Bool := false
deriving DecidableEq, Repr

/-- One control engine (R69 to R88): program, coefficient banks of 64-bit entries, state words as committed and as written in
this tempo, output slots, input slots with their validity and miss counters, the working registers, and whether the wedge latch of this tempo has passed (R70). -/
structure EngSt where
  prog     : Option Program := none
  bank0    : AMap Nat := []
  bank1    : AMap Nat := []
  state    : AMap Int := []
  fresh    : AMap Int := []
  out      : AMap Int := []
  outNew   : AMap Int := []
  prev     : AMap Int := []
  inVal    : AMap Int := []
  inOk     : List Nat := []
  misses   : AMap Nat := []
  arrived  : AMap Int := []
  wedge    : AMap Int := []
  acc      : Int := 0
  flag     : Bool := false
  satd     : Int := 0
  tbl      : Int := 0
  tblOk    : Bool := true
  stalled  : Option Nat := none
  cycle    : Nat := 0
  ended    : Bool := false
  stopped  : Bool := true
  overruns : List Nat := []
  failed   : Bool := false
  swapLate : Bool := false
  timers   : AMap Nat := []
  sawMiss  : List Nat := []
  pc       : Nat := 0
  memErr   : Bool := false
  held     : List (Nat × Nat) := []
  promoting : Bool := false
  wedgeTaken : Bool := false
deriving DecidableEq, Repr

/-- A stage link (R89 to R92): what STG adds to the frame, the words of the last good return frame, whether one arrived in this tempo, the SAFE and
RETRACT_DONE that it carried, a request to retract, and whether the fault of the present row of misses is declared. -/
structure StgSt where
  words      : List Nat := []
  arrived    : Bool := false
  safe       : Bool := false
  retractReq : Bool := false
  declared   : Bool := false
  retractDone : Bool := false
deriving DecidableEq, Repr

/-- SPN: what the sequencer of R98 holds beside its registers: a fault pending, what a restart waits for, the effective target in
force, the observer's angle in 1/65,536 electrical turn, the rows of consecutive wedges of R105 to R107, the tempos of a VMOT brake (R115), the curve's last
evaluation (R113) and the turn-on state and speed it found, which apply from the next tempo (R114), whether a restart is needed and none is left (R99), whether
SPN_CTL.RESTART has left FAULT open to a start, and the tempos spent in the state. The back-EMF of R94: e of the three phases in 1/32,768 µV, the currents of
the last frame and the angle of the vector. The rows that R98, R103, R108 and R116 count: tempos in band, below 1 %, in agreement, with a phase error, crossings
missed; the crossing whose window is open, with the sign that its phase came with and whether it has changed. The blind ramp of R103: its speed in 1/200,000 rpm and
its angle in 1/2,400,000,000,000 turn. The angles of the REACQ window, newest first, and its tempos (R110). The speed profile in 1/200,000 rpm (R104) and
the trim of the phase loop in ppm (R105). The tempo counts from which START_S (R104), DELAY_MS, the clear time of fault bit 3 (R98) and RETRACT_MS (R118) run. -/
structure SpnSt where
  faultPend : Bool := false
  linkWait  : Bool := false
  underWait : Bool := false
  target    : Nat := 0
  angle     : Nat := 0
  lockRow   : Nat := 0
  errRow    : Nat := 0
  missRow   : Nat := 0
  aMissed   : Bool := false
  vmotBrake : Nat := 0
  curveBad  : Bool := false
  curveNext : Option (Bool × Nat) := none
  noRestart : Bool := false
  rearmed   : Bool := false
  tempos    : Nat := 0
  lossAt    : Nat := 0
  emf       : List Int := []
  amps      : List Int := []
  emfAngle  : Nat := 0
  bandRow   : Nat := 0
  lowRow    : Nat := 0
  agreeRow  : Nat := 0
  phaseRow  : Nat := 0
  crossRow  : Nat := 0
  crossing  : Option (Nat × Bool × Bool) := none
  openV     : Nat := 0
  openAngle : Nat := 0
  reAngles  : List Nat := []
  window    : Nat := 0
  profile   : Int := 0
  trim      : Int := 0
  startAt   : Nat := 0
  delayAt   : Nat := 0
  clearAt   : Nat := 0
  retractAt : Nat := 0
deriving DecidableEq, Repr

/-- A write-unsafe episode (R141): the head and its track, the first wedge, the cause code and the peak error in 1/4,096 track. -/
structure Episode where
  head  : Nat
  track : Nat
  wedge : Nat
  cause : Nat
  peak  : Int
deriving DecidableEq, Repr

/-- An entry of the write-unsafe log (R141), the peak in 1/4,096 track. -/
structure WusEntry where
  head  : Nat
  track : Nat
  wedge : Nat
  cause : Nat
  peak  : Int
  ati   : Bool
deriving DecidableEq, Repr

/-- One actuator (R120 to R147): the heads, targets and mode of the seek taken, held commands, the rows of consecutive wedges that
the rules count, the permit episodes and the log. When the state was entered; the tempo of the last take and whether heads 1 and 2 changed at it (R126); the last two valid
wedges of each head, newest first, as wedge count and track, and the wedge number that comes next (R122); a fall of both permits that waits for cycle 3,200, hard or soft
(R139); the wedge count at the last fallback and the samples in uaSum (R138); the sums of VCM voltage and current over the tempos of a load that measure the resistance
(R144), whether the ramp move of an unload runs and the tempos in a row with the VCM's back-EMF below 2 mV (R146). -/
structure ActSt where
  head1     : Nat := 31
  head2     : Nat := 31
  track     : Nat := 0
  track2    : Int := 0
  ofs1      : Int := 0
  ofs2      : Int := 0
  zone      : Nat := 0
  write     : Bool := false
  shingled  : Bool := false
  dirIn     : Bool := false
  goHeld    : Bool := false
  loadHeld  : Bool := false
  retry     : Bool := false
  faultPend : Bool := false
  acqHead   : Nat := 0
  validRow  : Nat := 0
  missRow   : Nat := 0
  missRow2  : Nat := 0
  okRow     : Nat := 0
  wrRow     : Nat := 0
  timeouts  : Nat := 0
  good1     : Nat := 0
  good2     : Nat := 0
  fell1     : Bool := false
  fell2     : Bool := false
  episode1  : Option Episode := none
  episode2  : Option Episode := none
  log       : List WusEntry := []
  satRow    : Nat := 0
  drops2    : List Nat := []
  wedges    : Nat := 0
  uaSum     : Int := 0
  uaN       : Nat := 0
  driftPend : Bool := false
  newTarget : Bool := false
  unpairPend : Bool := false
  since     : Nat := 0
  takenAt   : Option Nat := none
  stale1    : Bool := false
  stale2    : Bool := false
  seen1     : List (Nat × Nat) := []
  seen2     : List (Nat × Nat) := []
  nextNo    : Option Nat := none
  fallPend  : Option Bool := none
  holdAt    : Nat := 0
  loadN     : Nat := 0
  vcmV      : Int := 0
  vcmI      : Int := 0
  ramp      : Bool := false
  lowRow    : Nat := 0
deriving DecidableEq, Repr

/-- One head's assist (R148 to R167): the tempos spent in the state, the hops of the last second, the last latches, the heater ramp,
the write episode, what waits for the end of the sector in progress or the next output write, and whether its warning (R165) and the event of a
missing IOP0 (R163) have been given. -/
structure AsxSt where
  tempos    : Nat := 0
  hopAt     : List Nat := []
  lastMon   : Nat := 0
  lastCur   : Nat := 0
  mon       : Nat := 0
  cur       : Nat := 0
  contact   : Bool := false
  wrote     : Bool := false
  omRow     : Nat := 0
  backoff   : Bool := false
  episode   : Nat := 0
  inEpisode : Bool := false
  ended     : Bool := false
  lastI     : Nat := 0
  lastT     : Int := 0
  fhRamp    : Nat := 0
  readAtEnd : Bool := false
  forceIn   : Nat := 0
  warned    : Bool := false
  untracked : Bool := false
  sourceFault : Bool := false
  fallPend  : Bool := false
deriving DecidableEq, Repr

/-- A sector that a stream has written to its end (R157, R214): its logical zone, its data sector, the tempo in which it ended and its
information bytes. -/
structure Written where
  lz    : Nat
  p     : Nat
  tempo : Nat
  info  : Nat
deriving DecidableEq, Repr

/-- A report of HCH on a sector (R196): its code, the physical zone and index, and the ladder step of code 1. -/
structure Report where
  code : Nat
  zone : Nat
  idx  : Nat
  step : Nat := 0
deriving DecidableEq, Repr

/-- What a stream adapts (R186 to R188), from a seed entry and in its units: gain, offset, asymmetry and the 16 equalizer taps in 1/32,768 of a unit, the five
target coefficients, the timing loop's frequency offset and the nominal envelope. -/
structure Adapt where
  gain    : Int := 0
  offset  : Int := 0
  asym    : Int := 0
  taps    : List Int := []
  target  : List Int := []
  freq    : Int := 0
  nominal : Nat := 0
deriving DecidableEq, Repr

/-- One stream of HCH (R168 to R201): marks on the sector in progress; the parity accumulator, its count, whether it is lost and whether HCH_TP_CTL has loaded it
(R184); the last 62 sectors written; the logical zone being written; whether samples are missing; the sample ring's slot and
position; the sector that the retry ladder is to take; the seed entry taken (R187) and what has been adapted from it; how many sectors in a row
have met CONV_MSE; the sector slot that comes next; the newest report and its decoded information; the sector that the transfer comes to next,
as physical zone and index. -/
structure HchSt where
  marked   : Bool := false
  offTrack : Bool := false
  hopMark  : Bool := false
  acc      : Nat := 0
  accN     : Nat := 0
  accLost  : Bool := false
  loaded   : Bool := false
  recent   : List Written := []
  writing  : Option Nat := none
  missing  : Bool := false
  ringSlot : Nat := 0
  ringPos  : Nat := 0
  ladder   : Option (Nat × Nat) := none
  seed     : List Nat := []
  adapt    : Adapt := {}
  mseRow   : Nat := 0
  slot     : Nat := 0
  failReq  : Bool := false
  report   : Option Report := none
  decoded  : Option Decoded := none
  nextSec  : Option (Nat × Nat) := none
deriving DecidableEq, Repr

/-- A copy of HCH_TP_CTL that runs (R184). -/
inductive TpCopy where
  | none | save (n : Nat) | load (n : Nat)
deriving DecidableEq, Repr

/-- A receive lane (R169, R175): the 64 scrambled bits that came last, the invalid sync headers in a row, the tempos of those within the window, and the
blocks that wait for the other lane's. -/
structure LaneSt where
  before : Nat := 0
  badRow : Nat := 0
  errAt  : List Nat := []
  queue  : List (Bool × Nat) := []
deriving DecidableEq, Repr

/-- One head link (R169 to R179): training asked for; a fault declared and not yet trained away; the next sequence count of each
stream; the good return frame that arrived in this tempo and the one latched at cycle 0, as RHDR, STATUS, STATUS and FAULTS
payloads; the last SEQ echo and how many good frames in a row have not advanced it; a frame missing at the last latch that may
still arrive late, and whether a bad one came in this tempo; the lane assignment that applies at the next boundary (logical lane 0, logical lane 1, single); the control
channel's TAG, whether the request that is out is a write, and the tempo in which it was sent; the 64 scrambled bits that the transmit lane carried last; the receive
lanes; the samples of each head counted since the training, and the latest missing ones as first count and number (R170); the sample counts of the latched RHDR with
the tempo at whose start they were taken (R173); the tempo of the last fault (R177). -/
structure HlkSt where
  retrain  : Bool := false
  faulted  : Bool := false
  seq      : List (Option Nat) := [none, none]
  frame    : Option (List Nat) := none
  latched  : Option (List Nat) := none
  echo     : Option Nat := none
  echoRow  : Nat := 0
  owed     : Bool := false
  bad      : Bool := false
  switch   : Option (Nat × Nat × Bool) := none
  ccTag    : Nat := 0
  ccWrite  : Bool := false
  ccAt     : Nat := 0
  tx       : Nat := 0
  lanes    : List LaneSt := [{}, {}, {}]
  taken    : List Nat := [0, 0]
  gaps     : List (List (Nat × Nat)) := [[], []]
  counts   : Nat × Nat := (0, 0)
  countAt  : Nat := 0
  faultAt  : Nat := 0
deriving DecidableEq, Repr

/-- An entry of the media-cache index (R218): namespace, extent, slot, mask and the slot stamp. -/
structure McEntry where
  ns     : Nat
  extent : Nat
  slot   : Nat
  mask   : Nat
  stamp  : Nat
deriving DecidableEq, Repr

/-- The tables of ZMG as the media hold them (R233): descriptors by logical zone, which give the band map too; the media-cache index, with the log head and the log
sequence of each namespace; remaps; pending-unrecoverable ranges. -/
structure Tables where
  zones  : AMap Nat := []
  mc     : List McEntry := []
  head   : AMap Nat := []
  seq    : AMap Nat := []
  remaps : List ((Nat × Nat) × (Nat × Nat)) := []
  pend   : List (Nat × Nat × Nat) := []
deriving DecidableEq, Repr

/-- A change of a table, as the journal records it (R233): a descriptor; an index entry with the log head and sequence after it; index entries given up; the remaps;
the pending-unrecoverable ranges. -/
inductive Change where
  | zone (z word : Nat)
  | slot (e : McEntry) (head seq : Nat)
  | drop (l : List McEntry)
  | remap (l : List ((Nat × Nat) × (Nat × Nat)))
  | pend (l : List (Nat × Nat × Nat))
deriving DecidableEq, Repr

/-- The zone manager (R202 to R234): write-unsafe entries to verify (R230), as head, track, first and last wedge; the tempo of an observer
loss that waits for its rewrite (R214); zones finished, with the host write pointer they had (R210); the logical zones by
their last write, oldest first (R206, R216); the tables as the checkpoint and the journal on media give them, and the
journal's tail that is not on media yet, as it is and as the last checkpoint holds it (R233); the bytes journaled since the last checkpoint; the pending-unrecoverable ranges (R229) as namespace, first LBA and count;
remaps (R226) as zone, index and what stands for them; free spare physical zones; zones due for relocation (R226); sectors
that HCH has reported FAILED (R228), as physical zone and index, and those due to be rewritten or remapped with their recovered information (R226, R232); the
media-cache index, log head and log sequence (R217, R218) and the first physical zone of each cache; the host write pointer a zone had when it became Full (R320); band images begun (R220) as logical zone, physical zone, the
blocks they hold and the tempo; relocations begun (R227), as logical and physical zone; the table being rebuilt (R234); the lifetime seconds at which the scan's pass began (R231);
namespaces whose media cache is at CRIT (R222); transfers to be taken up again on one head (R138, R194), as physical zone and first sector. -/
structure ZmgSt where
  ati      : List (Nat × Nat × Nat × Nat) := []
  lossAt   : Option Nat := none
  finish   : List (Nat × Nat) := []
  order    : List Nat := []
  saved    : Tables := {}
  tail     : List Change := []
  tailSaved : List Change := []
  journaled : Nat := 0
  pend     : List (Nat × Nat × Nat) := []
  remaps   : List ((Nat × Nat) × (Nat × Nat)) := []
  spares   : List Nat := []
  relocate : List Nat := []
  failed   : List (Nat × Nat) := []
  rewrite  : List ((Nat × Nat) × Nat) := []
  mc       : List McEntry := []
  mcHead   : AMap Nat := []
  mcSeq    : AMap Nat := []
  mcZone   : AMap Nat := []
  images   : List (Nat × Nat × Nat × Nat) := []
  copying  : AMap Nat := []
  rebuilding : Option Nat := none
  passAt   : Option Nat := none
  crit     : List Nat := []
  fullAt   : AMap Nat := []
  requeue  : List (Nat × Nat) := []
deriving DecidableEq, Repr

/-- A block of the write cache that is not on media (R224, R364): namespace, 4 KiB block, mask of 512-byte sub-sectors, data as a number,
low byte first, and the stamps of the writes whose data it holds. -/
structure CacheLine where
  ns     : Nat
  blk    : Nat
  mask   : Nat
  data   : Nat
  stamps : List Nat
deriving DecidableEq, Repr

/-- A command context (R356, R357): the arrival stamp, the command, the class of context it takes (R358: 0 admin, 1 SATA, 2 SAS, 3 NVMe),
its place in the pool (R356), whether it holds an execution slot, whether its zone pointer check has passed (R208), the first LBA it writes, whether all its data
is accepted (R364), whether it completes on acceptance (R366) as set when it was stamped (R365), whether its port had the namespace when
it was stamped (R203), and the 4 KiB blocks of it that are accepted. -/
structure Ctx where
  stamp    : Nat
  cmd      : HostCmd
  cls      : Nat
  slot     : Nat := 0
  started  : Bool := false
  checked  : Bool := false
  lba      : Nat := 0
  accepted : Bool := false
  cached   : Bool := false
  attached : Bool := true
  got      : List Nat := []
deriving DecidableEq, Repr

/-- An entry of the lost-write list (R368). -/
structure Lost where
  ns       : Nat
  lba      : Nat
  n        : Nat
  cause    : Nat
  tempo    : Nat
  reported : Bool := false
deriving DecidableEq, Repr

/-- The command store (R356 to R379): contexts in stamp order, the next stamp, the cache's blocks, the lost-write list oldest first, SATA
commands held in an activation (R377), the self-test's starting port and the log of its kinds and results (R378, R379), and whether an
NCQ command has failed whose fellows are to be aborted (R375). -/
structure CmdSt where
  ctxs   : List Ctx := []
  next   : Nat := 0
  lines  : List CacheLine := []
  lost   : List Lost := []
  held   : List HostCmd := []
  testBy : Option Port := none
  testLog : List (Nat × Nat) := []
  ncqFailed : Bool := false
deriving DecidableEq, Repr

/-- An entry of the seal log (R321, R324): the fields of the record that the device looks up, its 380 bytes, the public key and the
certificate stored with it, and the group digests. -/
structure SealEntry where
  seq    : Nat
  zone   : Nat
  ns     : Nat
  life   : Nat
  bytes  : List Nat
  pubkey : List Nat
  cert   : List Nat
  groups : List Nat
deriving DecidableEq, Repr

/-- A hashing context (R318): its place in the table, the leaves present and not folded, by block; the group digests formed; the latest running digest;
whether an uncorrectable error has damaged it. -/
structure SealCtx where
  leaves : AMap Nat := []
  groups : List Nat := []
  r      : Nat := 0
  damaged : Bool := false
  slot   : Nat := 0
deriving DecidableEq, Repr

/-- A proof request (R325) and its response once it is ready: port, OP, TAG, P1, P2, NONCE; status and data. -/
structure ProofReq where
  port  : Port
  op    : Nat
  tag   : Nat
  p1    : Nat
  p2    : Nat
  nonce : List Nat
  resp  : Option (Nat × List Nat) := none
deriving DecidableEq, Repr

/-- A witness request out to a peer (R337), and how often it has been asked again. -/
structure WitReq where
  peer  : Nat
  seq   : Nat
  tries : Nat := 0
deriving DecidableEq, Repr

/-- SEAL (R316 to R337): the private scalar of the key store (R328) and the one being programmed; hashing contexts by logical zone; eligible
zones in order; the log and its free sectors in the current log zone; the chain head in MRAM as SEQ, seal hash and KEYID (R334); the
flags of the next record; proof requests, oldest first; seals whose witnesses are still to be asked, and witness requests out;
witness entries, oldest first; statements served in this second; whether signing has stopped until the next reset (R322); the receives that wait for their response
(R325): port, TAG bits 15:0, allocation length. -/
structure SealSt where
  key     : Option Nat := none
  genKey  : Option Nat := none
  ctxs    : AMap SealCtx := []
  queue   : List Nat := []
  log     : List SealEntry := []
  logFree : Nat := 0
  head    : Option (Nat × Nat × Nat) := none
  newKey  : Bool := false
  newLog  : Bool := false
  reqs    : List ProofReq := []
  toWit   : List Nat := []
  wits    : List WitReq := []
  stmts   : List (List Nat) := []
  served  : Nat := 0
  stopped : Bool := false
  recvs   : List (Port × Nat × Nat) := []
deriving DecidableEq, Repr

/-- The disc spindle (R254 to R256): the target, a retry pending, the align vector in units of 120 degrees and the tempos of a VMOT brake left; the tempos in the state, that of the
start and that of the observer loss; the observer's angle in 1/65,536 turn and direction, the back-EMF and its angle, the currents of the last frame; the open-loop speed and angle of the ramp and
the speed profile, in 1/200,000 rpm and their sums; in tempos in a row: the observer at the open-loop angle, the speed in the band of RUN, below 1 %, backward above 2 %, the
phase error of R108; its zero crossings missing in a row and the one whose window is open; the angles of a REACQ window that agree, and its tempos. -/
structure DiscSt where
  target   : Nat := 0
  retry    : Bool := false
  vector   : Nat := 0
  vmot     : Nat := 0
  tempos   : Nat := 0
  startAt  : Nat := 0
  lossAt   : Nat := 0
  angle    : Nat := 0
  backward : Bool := false
  emf      : List Int := []
  emfAngle : Nat := 0
  amps     : List Int := []
  openV    : Nat := 0
  openAngle : Nat := 0
  profile  : Int := 0
  agreeRow : Nat := 0
  bandRow  : Nat := 0
  lowRow   : Nat := 0
  backRow  : Nat := 0
  phaseRow : Nat := 0
  crossRow : Nat := 0
  crossing : Option (Nat × Bool × Bool) := none
  reAngles : List Nat := []
  window   : Nat := 0
deriving DecidableEq, Repr

/-- OSV (R235 to R260): servo frames missing and good in a row, and whether one has come in this tempo; the tempos in a row within the
settle and pull-in thresholds; the good addresses in a row, those that differ from the prediction, the units of bad parity; the
tempos in a row of low SUM, of high FE and of high TE; the tempos in a row within the write thresholds; whether the permit has
fallen, and in this tempo by the fast and by the slow path (R252); searches begun in RECOVER since FOLLOW; whether a sweep has caught a layer whose
address is still to come (R241); the layer jump: from, to, crossings counted, kick tempos left, brake, tempos,
tries; the seek's corrections and restarts; the target taken (layer, address unit) and the SEEK held; whether motion waits for a cluster (R281); the
tempos with the lens at 0; whether PARKING goes on to SPINUP, and whether RECOVER waits for frames (R236); a mount in progress;
a PARK taken; the corrector code sent; OSV FAULTs on mounts in a row (R288); the disc spindle; the tempos in the state; the focus current of the last tempo as a link word and that at the
state's entry (R241, R242); the FE sign and the SUM peak of the S-curve being passed, and the peak of the one passed in this tempo (R242); a jump's velocity in pm
per tempo, twice the distance covered in pm, and the tempos since the last crossing (R246); the low-pass of the tracking output (R238); the fields of OSV_PULL_CFG and OSV_SWEEP_CFG in force in
this tempo (R243). -/
structure OsvSt where
  missRow  : Nat := 0
  goodRow  : Nat := 0
  seen     : Bool := false
  feRow    : Nat := 0
  teRow    : Nat := 0
  addrRow  : Nat := 0
  addrOff  : Nat := 0
  badRow   : Nat := 0
  sumLow   : Nat := 0
  feHigh   : Nat := 0
  teHigh   : Nat := 0
  permRow  : Nat := 0
  fell     : Bool := false
  fellFast : Bool := false
  fellSlow : Bool := false
  recovers : Nat := 0
  swept    : Bool := false
  jumpFrom : Nat := 0
  jumpTo   : Nat := 0
  crossed  : Int := 0
  kick     : Nat := 0
  brake    : Bool := false
  jumpTime : Nat := 0
  jumpTry  : Nat := 0
  corr     : Nat := 0
  seekTry  : Nat := 0
  target   : Option (Nat × Nat) := none
  held     : Option (Nat × Nat) := none
  waits    : Bool := false
  zeroRow  : Nat := 0
  spinAgain : Bool := false
  blind    : Bool := false
  mounting : Bool := false
  parking  : Bool := false
  sa       : Nat := 0
  badMounts : Nat := 0
  disc     : DiscSt := {}
  tempos   : Nat := 0
  focus    : Int := 0
  focusIn  : Int := 0
  feSign   : Int := 0
  peak     : Int := 0
  curve    : Option Int := none
  jumpV    : Nat := 0
  jumpWay  : Nat := 0
  jumpSince : Nat := 0
  sledLow  : Int := 0
  pull     : List Nat := [16, 24, 128, 128, 192]
deriving DecidableEq, Repr

/-- What a cluster that OCH handles is for (R278 to R287): also one of a copy that was interrupted (R283), and the verify of one closed after a wobble unlock (R281). -/
inductive ClusterUse where
  | command | copy (idx : Nat) | directory | record | calibrate | orphan | recheck (written : ClusterUse)
deriving DecidableEq, Repr

/-- A command of OCH (R278 to R285): the operation (1 read, 2 write, 3 verify, 4 OPC), the slot, the address, its use. -/
structure OchJob where
  op      : Nat
  slot    : Nat
  layer   : Nat
  cluster : Nat
  use     : ClusterUse := .command
deriving DecidableEq, Repr

/-- A zone's copy on the mounted disc (R283 to R285): zone, namespace, the address of its first cluster, its voids, the indices written
and its directory cluster's address; addresses are in the format of subcode bytes 0 to 3. -/
structure ZoneCopy where
  zone  : Nat
  ns    : Nat
  first : Option Nat := none
  voids : List Nat := []
  made  : List Nat := []
  dir   : Option Nat := none
deriving DecidableEq, Repr

/-- A row as it was read (R271 to R274): its 240 bytes, corrected where its inner codeword decodes, and the errors corrected. -/
structure RowRead where
  bytes : List Nat := []
  fix   : Option Nat := none
deriving DecidableEq, Repr

/-- OCH (R261 to R288): the command in progress and those queued; the rows that reads of its cluster have decoded (R277); clusters void and
not rewritten yet; the copy being made; the copies on the mounted disc that passed; the latest directory's address; layers
calibrated since the mount; whether a calibration record has been considered since the mount; the layer entries of the record in
force and the next free cluster of the calibration zone; the copy sequence number; whether a verified cluster reported FAILED; the missed markers in a row that count, and
whether they have reached FLY_MAX (R272); the zone, index and stream that a recovery read has found (R287). -/
structure OchSt where
  job      : Option OchJob := none
  queue    : List OchJob := []
  kept     : List RowRead := []
  voided   : List OchJob := []
  copy     : Option ZoneCopy := none
  copies   : List ZoneCopy := []
  lastDir  : Nat := 0
  opc      : List Nat := []
  recorded : Bool := false
  record   : List (List Nat) := []
  calNext  : Nat := 32
  copySeq  : Nat := 0
  badCopy  : Bool := false
  fly      : Nat := 0
  noSync   : Bool := false
  found    : Option (Nat × Nat × Nat) := none
deriving DecidableEq, Repr

/-- One motion axis (R293 to R303): position in 1/62,500,000,000 microstep, velocity in 1/40,000,000 fs/s and its change by tempo in the
same unit; the positions at the last tempo boundaries, newest first; the position of the last asserting switch edge (R310); the
tempos at standstill and into the current ramp (R299); the DEC kept for the rest of a move (R303); the position at which the homing
step began (R313); VMAX, HOME_V, ACC, DEC, EMAX and JERK as they are in force in this tempo (R303). -/
structure AxMot where
  pos   : Int := 0
  vel   : Int := 0
  acc   : Int := 0
  past  : List Int := []
  edge  : Int := 0
  still : Nat := 0
  ramp  : Nat := 0
  kept  : Option Nat := none
  start : Int := 0
  lims  : List Nat := []
deriving DecidableEq, Repr

/-- A queued move (R305): its class (0 NORMAL, 1 HOME, 2 TEST, 3 RECOVERY) and the targets of the group's first and second axis, in
microsteps; a HOME move's first target names its axis in the group. -/
structure Move where
  cls : Nat
  t0  : Int
  t1  : Int
deriving DecidableEq, Repr

/-- A move group: its queue, the move that runs and the positions it started from in microsteps, whether it was taken in this tempo, the junction
speed fixed (R306), whether the move decelerates, whether it may not accelerate again (R303), whether its velocity has passed 0 at
the target, a stop under way (1 at DEC, 2 at EMAX), and the move that takes the running one's place at the next boundary (R304). -/
structure GrpMot where
  queue   : List Move := []
  run     : Option Move := none
  f0      : Int := 0
  f1      : Int := 0
  took    : Bool := false
  joint   : Option Nat := none
  slowing : Bool := false
  hold    : Bool := false
  crossed : Bool := false
  stop    : Nat := 0
  next    : Option Move := none
deriving DecidableEq, Repr

/-- A bridge (R294 to R296): its polarity, its threshold code, its phase: 0 off, 1 on, 2 off phase; and what its pins IN1 and IN2 drive from the phase's start on, each
code with its time in units of 10 ns, 0 until the phase ends. -/
structure BrgMot where
  neg   : Bool := false
  code  : Nat := 0
  phase : Nat := 0
  drive : List (Nat × Nat) := [(0, 0)]
deriving DecidableEq, Repr

/-- MOT (R293 to R315): axes, groups and bridges by number; the words of the sine table in force in this tempo (R297). -/
structure MotSt where
  ax  : AMap AxMot := []
  grp : AMap GrpMot := []
  brg : AMap BrgMot := []
  sine : List Nat := []
deriving DecidableEq, Repr

/-- MEM and DRC (R382 to R398): bits in error that no check has met yet, by memory code and word address (R385, R387), each with its class,
what the region keeps there, whether a completion target reads and the data bits in error; the lifetime seconds of the correctable words of the last hour, with the memory (0 DRAM, 1 SRAM, 2
MRAM), and of the last alarm of R395; the SRAM scrub position and whether each pass is at its end; SRAM spares used by macro; the list
of R398, each row with 0 pending, 1 done, 2 refused; of the columns that wait for the next BRINGUP,
whether each is its macro's last; and the DQ swaps of the nibbles among the training results that MRAM keeps (R383, R490). -/
structure MemSt where
  upsets  : AMap (Nat × Option (Nat × Nat) × Bool × Nat) := []
  ceLog   : List (Nat × Nat) := []
  ceAlarm : Option Nat := none
  sramPos : Nat := 0
  dramEnd : Bool := false
  sramEnd : Bool := false
  rows    : AMap Nat := []
  cols    : AMap Nat := []
  ppr     : List (Nat × Nat) := []
  pendCols : List Bool := []
  swaps   : Option (List (List Nat)) := none
deriving DecidableEq, Repr

/-- The arbiters of a target (R418): the master granted last in each cluster, the cluster served last and the grants left to it. -/
structure ArbSt where
  last : AMap Nat := []
  cur  : Nat := 3
  left : Nat := 0
deriving DecidableEq, Repr

/-- A DMA channel (R399 to R403): the block's addresses and length as taken, the bytes read and written, the staging buffer with each
byte's poison, the running CRC, whether a source word has read poisoned, an error response met, and its place in the order of starts. -/
structure DmaSt where
  src   : Nat := 0
  dst   : Nat := 0
  size  : Nat := 0
  got   : Nat := 0
  wrote : Nat := 0
  stag  : List (Nat × Bool) := []
  crc   : Nat := 0
  bad   : Bool := false
  err   : Bool := false
  order : Nat := 0
deriving DecidableEq, Repr

/-- A word of a FIFO with its marks (R407). -/
structure FifoWord where
  data : Nat
  soi  : Bool
  eoi  : Bool
  bad  : Bool
deriving DecidableEq, Repr

/-- A FIFO (R404 to R409): the words from the mark on, the words read since the mark, whether an item is open and has lost a word, and
whether the last word written was an EOI. -/
structure FifoSt where
  q      : List FifoWord := []
  rd     : Nat := 0
  inItem : Bool := false
  lostIn : Bool := false
  ended  : Bool := true
deriving DecidableEq, Repr

/-- What DRAM holds beneath a dirty sub-block: its 64 bytes and the poisoned words among them. -/
structure Under where
  data   : List Nat
  poison : List Nat
deriving DecidableEq, Repr

/-- A line of the table cache (R410): tag, valid bits and what DRAM holds beneath each dirty sub-block. -/
structure TchLine where
  tag   : Nat
  valid : Nat
  dirty : AMap Under := []
deriving DecidableEq, Repr

/-- An evicted line in its buffer (R415): the address of the line, the dirty sub-blocks, whether its write has been issued, and the valid
sub-blocks. -/
structure TchEvict where
  addr   : Nat
  dirty  : AMap Under
  issued : Bool := false
  valid  : Nat := 15
deriving DecidableEq, Repr

/-- TCH (R410 to R416): lines by 16 times the set plus the way, the LFSR of R412, the eviction buffers, oldest first, and the range operation
that runs: its code, the ways of a PRELOAD, the lines passed and the lines in all. -/
structure TchSt where
  lines : AMap TchLine := []
  lfsr  : Nat := 1
  evb   : List TchEvict := []
  op    : Option (Nat × Nat × Nat × Nat) := none
deriving DecidableEq, Repr

/-- EVR: the staging queue, the tokens missing from each code's bucket, BURST and RATE of each class as the last refill took them with the tokens missing from its other buckets, the gap bits, the write budget and the records lost (R468
to R473), whether the queue has drained in RESCUE (R470), the low half of the wall time as staged and the time that takes effect at the next
tempo (R463), and the copy of SEQ in the persistent-map area (R468). -/
structure EvrSt where
  staged   : List EvRec := []
  used     : AMap Nat := []
  rates    : AMap (Nat × Nat × Nat) := []
  gaps     : List Nat := []
  budget   : Nat := 64
  drops    : AMap Nat := []
  lost     : Nat := 0
  lostSince : Nat := 0
  lostFlag : Bool := false
  rescueDrained : Bool := false
  wallLow  : Nat := 0
  newWall  : Option Nat := none
  seqCopy  : Nat := 0
deriving DecidableEq, Repr

/-- CAL: the lifetime seconds at which each kind became due, and whether CALREF has been valid since the last CAL_DONE (R479, R480). -/
structure CalSt where
  dueAt  : AMap Nat := []
  traced : Bool := false
deriving DecidableEq, Repr

/-- A checkpoint being written (R450 to R452): kind, slot and SEQ; TMP_COUNT, lifetime seconds, PMU_XLOG and wall time at the start; the next entry of
PMU_RESCUE_SRC and the next section's offset; the sections copied as ID, TRUNC, offset, length and CRC. -/
structure Ckpt where
  kind  : Nat
  slot  : Nat
  seq   : Nat
  tempo : Nat
  life  : Nat
  xlog  : Nat
  wall  : Nat
  next  : Nat := 0
  ofs   : Nat := 0x1000
  secs  : List (Nat × Nat × Nat × Nat × Nat) := []
deriving DecidableEq, Repr

/-- PMU (R442 to R460): domains switched on that do not read on yet; the checkpoint being written, the trigger held, the SEQ of the next, and whether
the next periodic one is due at once. -/
structure PmuSt where
  goingOn : List Nat := []
  ckpt    : Option Ckpt := none
  held    : Option Nat := none
  nextSeq : Nat := 1
  atOnce  : Bool := false
deriving DecidableEq, Repr

/-- The host ports (R338 to R355): the I_T nexuses held, by SAS port and initiator, those with a unit attention, whether PCIe is in
D3cold with its STANDBY demand, lanes that failed their loopback, the SMBus packets held and those handed on to be served, oldest first, and the MSI-X vectors that the host has masked
and those whose message waits (R32). -/
structure HostSt where
  nexus  : List (Nat × Nat) := []
  ua     : List (Nat × Nat) := []
  d3cold : Bool := false
  dead   : List Nat := []
  smb    : List (List Nat) := []
  mctp   : List (List Nat) := []
  msixMask : List Nat := []
  msixPend : List Nat := []
deriving DecidableEq, Repr

/-- A frame that waits for credit, with the port whose receive buffer holds it while it is forwarded (R431). -/
structure FabWait where
  from' : Option Nat
  frame : Frame
deriving DecidableEq, Repr

/-- A fabric port (R422, R431, R432): INIT blocks received, the peer's credits by VC, frames that wait for credit, oldest first, the next link
sequence number, the replay buffer with each frame's number, the next number expected, whether frames are discarded until the
replay, replays without the ACK advancing, and whether the port stays down until RETRAIN. -/
structure FabPort where
  inits   : Nat := 0
  credit  : List Nat := [0, 0, 0]
  queue   : List FabWait := []
  next    : Nat := 0
  replay  : List (Nat × Frame) := []
  expect  : Nat := 0
  discard : Bool := false
  tries   : Nat := 0
  stays   : Bool := false
  tx      : Nat := 0
deriving DecidableEq, Repr

/-- A peer's namespace request under way (R434, R435): requester, TAG, TYPE, the stamp of its context, the bytes of an append in all and those that
have come, low byte first, and the descriptor that goes before a copy's data. -/
structure FabWork where
  src   : Nat
  tag   : Nat
  type  : Nat
  stamp : Nat
  total : Nat := 0
  come  : Nat := 0
  data  : Nat := 0
  first : List Nat := []
deriving DecidableEq, Repr

/-- An outstanding request of the ring (R437, R438): descriptor, TAG, the request frame, its data buffer, bytes received, sent again or not. -/
structure FabReq where
  idx    : Nat
  tag    : Nat
  frame  : Frame
  data   : Nat
  come   : Nat := 0
  again  : Bool := false
deriving DecidableEq, Repr

/-- FAB (R420 to R440): ports, the SEQ of the node's last advert, the last SEQ and the UID seen by origin and the tempo of the last refresh of its
entry, requests of peers under way, outstanding requests, the next TAG, the first descriptor not started yet, and the descriptors done. -/
structure FabSt where
  ports  : AMap FabPort := []
  seq    : Nat := 0
  seen   : AMap Nat := []
  uids   : AMap Nat := []
  fresh  : AMap Nat := []
  work   : List FabWork := []
  reqs   : List FabReq := []
  tag    : Nat := 0
  start  : Nat := 0
  ended  : List Nat := []
deriving DecidableEq, Repr

/-- The state. `pending` is the queue of waiting commands, `regs` every register field by key (unlisted: its Reset value),
`mem` the bytes of the memory regions (unlisted: 0), `poison` the 8-byte words that are poisoned (a DRAM word of 32 bytes by its four), `free` counts the free values
taken and `sent` is what has left the device; `dmaNext` orders the starts of DMA channels and `dmaTurn` is the channel that took a mover last; `arb` holds the arbiters by
target. -/
structure State where
  pending : List Instr := []
  regs    : AMap Nat := []
  mem     : List Host.Cell := []
  poison  : List Nat := []
  free    : Nat := 0
  sent    : List Msg := []
  pins    : Pins := {}
  sys     : SysSt := {}
  boot    : BootSt := {}
  tmp     : TmpSt := {}
  ce      : AMap EngSt := []
  stg     : AMap StgSt := []
  spn     : SpnSt := {}
  act     : AMap ActSt := []
  asx     : AMap AsxSt := []
  hch     : AMap HchSt := []
  hlk     : AMap HlkSt := []
  tp      : TpCopy := .none
  zmg     : ZmgSt := {}
  osv     : OsvSt := {}
  och     : OchSt := {}
  olk     : HlkSt := {}
  mot     : MotSt := {}
  cmd     : CmdSt := {}
  seals   : SealSt := {}
  evr     : EvrSt := {}
  cal     : CalSt := {}
  pmu     : PmuSt := {}
  memp    : MemSt := {}
  dma     : AMap DmaSt := []
  dmaNext : Nat := 0
  dmaTurn : Nat := 0
  arb     : AMap ArbSt := []
  fif     : AMap FifoSt := []
  tch     : TchSt := {}
  host    : HostSt := {}
  fab     : FabSt := {}
deriving DecidableEq, Repr

/-- The machine right after power-on reset, RESET_N not yet released: every register at its Reset value (R10), memory with
nothing listed, the queue empty. Log entry 11 (DESIGN CHOICE). -/
def State.reset : State := {}

end Sys2Proof.Machine
end

