-- ==== Sys2Proof/Machine/Ops.lean ====
section
/-! DEFINITION. The operations that the meanings share: register fields, unit records, numbers, interrupts (R26 to R32, R525),
event posts (R466 to R476, R523), register words (R4 to R9), memory (R13), power domains (R441 to R446, R524) and resets (R59). -/

namespace Sys2Proof.Machine

/-- How a step ends. -/
abbrev Out := Host.Outcome State Fault Refusal

/-! ### Outcomes -/

/-- An event occurs only while its rule's condition holds: the device is left as it is otherwise. Log entry 3 (DESIGN CHOICE). -/
def occurs (c : Prop) [Decidable c] (t s : State) : Out := .next (if c then t else s)

/-- A command of unit i where the device has n such units. Log entry 4 (DESIGN CHOICE). -/
def unit (i n : Nat) (o : Out) : Out := if i < n then o else .fault .noSuchUnit

/-! ### Register fields -/

/-- The value of a register field: the held one, or its Reset value (R10). -/
def get (f : Fld) (s : State) : Nat := AMap.getD s.regs f.key f.rst

/-- The map of register fields with one field set; a value equal to the Reset value is not listed. -/
def putReg (f : Fld) (v : Nat) (m : AMap Nat) : AMap Nat :=
  let w := v % 2 ^ f.width
  if w = f.rst then AMap.erase f.key m else AMap.insert f.key w m

/-- A register field takes a value, cut to its width. -/
def put (f : Fld) (v : Nat) (s : State) : State := { s with regs := putReg f v s.regs }

/-- Several fields take values, in order. -/
def puts (l : List (Fld × Nat)) (s : State) : State := l.foldl (fun t p => put p.1 p.2 t) s

/-- A field set only under a condition. -/
def putIf (c : Prop) [Decidable c] (f : Fld) (v : Nat) (s : State) : State := if c then put f v s else s

/-- A counter that wraps at its field's width. -/
def bump (f : Fld) (s : State) : State := put f (get f s + 1) s

/-- A counter that saturates at its field's width. -/
def bumpSat (f : Fld) (s : State) : State := put f (min (get f s + 1) (2 ^ f.width - 1)) s

/-- Bit i of a field. -/
def bit (f : Fld) (i : Nat) (s : State) : Bool := (get f s).testBit i

/-- A number with bit i set or cleared. -/
def withBit (v i : Nat) (b : Bool) : Nat := if v.testBit i = b then v else if b then v + 2 ^ i else v - 2 ^ i

/-- A field with bit i set or cleared. -/
def putBit (f : Fld) (i : Nat) (b : Bool) (s : State) : State := put f (withBit (get f s) i b) s

def b2n (b : Bool) : Nat := if b then 1 else 0

/-! ### Numbers -/

/-- A field of w bits as a two's complement number. -/
def toInt (w v : Nat) : Int := if v < 2 ^ (w - 1) then (v : Int) else (v : Int) - (2 : Int) ^ w

/-- The low w bits of an integer. -/
def ofInt (w : Nat) (i : Int) : Nat := (i % (2 : Int) ^ w).toNat

/-- A quotient whose rounding no rule states: the floor, or one more where it is not whole, as Config.roundsUp has it. Log entry 13 (DESIGN CHOICE). -/
def roundOpen (i : Int) (d : Nat) : Int := i / d + (if i % d ≠ 0 ∧ Config.roundsUp i d then 1 else 0)

/-- The n low bytes of a number, low byte first. -/
def bytesOf : (n v : Nat) → List Nat
  | 0, _ => []
  | n + 1, v => (v % 256) :: bytesOf n (v / 256)

/-- The number that bytes spell, low byte first. -/
def ofBytes : List Nat → Nat
  | [] => 0
  | b :: t => b % 256 + 256 * ofBytes t

/-- The n-th bit field of a number. -/
def bits (v lo w : Nat) : Nat := v / 2 ^ lo % 2 ^ w

/-! ### Free values -/

/-- The free value of a width that stands next in line. Log entry 12 (DESIGN CHOICE). -/
def freeVal (w : Nat) (s : State) : Nat := Config.freeBits s.free w

/-- A free value has been taken. Log entry 12 (DESIGN CHOICE). -/
def freed (s : State) : State := { s with free := s.free + 1 }

/-- Of several things of which no rule says which applies, the one that the next free value picks. Log entries 12 (DESIGN CHOICE), 14 (DESIGN CHOICE), 63 (DESIGN CHOICE). -/
def pickOpen (l : List Nat) (s : State) : Nat := l.getD (if l.length ≤ 1 then 0 else Config.freeNat s.free % l.length) 0

/-! ### Units -/

def actOf (a : Nat) (s : State) : ActSt := AMap.getD s.act a {}
def setAct (a : Nat) (r : ActSt) (s : State) : State := { s with act := AMap.insert a r s.act }
def ceOf (e : Nat) (s : State) : EngSt := AMap.getD s.ce e {}
def setCe (e : Nat) (r : EngSt) (s : State) : State := { s with ce := AMap.insert e r s.ce }
def stgOf (l : Nat) (s : State) : StgSt := AMap.getD s.stg l {}
def setStg (l : Nat) (r : StgSt) (s : State) : State := { s with stg := AMap.insert l r s.stg }
def asxOf (h : Nat) (s : State) : AsxSt := AMap.getD s.asx h {}
def setAsx (h : Nat) (r : AsxSt) (s : State) : State := { s with asx := AMap.insert h r s.asx }

def hchOf (n : Nat) (s : State) : HchSt := AMap.getD s.hch n {}
def setHch (n : Nat) (r : HchSt) (s : State) : State := { s with hch := AMap.insert n r s.hch }

def hlkOf (l : Nat) (s : State) : HlkSt := AMap.getD s.hlk l {}
def setHlk (l : Nat) (r : HlkSt) (s : State) : State := { s with hlk := AMap.insert l r s.hlk }

/-- Something leaves the device. -/
def send (m : Msg) (s : State) : State := { s with sent := s.sent ++ [m] }

/-! ### Domains: what is on -/

/-- The power domain of a block (R441); HCH and HLK are divided by register (R524). -/
def blockDomain (b off : Nat) : Nat :=
  if b = 7 then
    (if 0x800 ≤ off then 20 else if off / 0x100 = 2 ∨ off / 0x100 = 3 then 8 else 7)
  else if b = 8 then (if off < 0x100 then 10 else 11)
  else [2, 0, 0, 6, 13, 6, 6, 20, 10, 2, 12, 9, 12, 13, 13, 21, 14, 15, 16, 2, 18, 2, 22, 2, 19, 2, 17, 2, 2, 2, 2, 0, 23].getD b 2

/-- The block of a register address (R14) and the offset in it. -/
def regBlock (addr : Nat) : Nat := (addr - 0x40000000) / 0x10000
def regOffset (addr : Nat) : Nat := (addr - 0x40000000) % 0x10000

/-- The domain of a register address. -/
def regDomain (addr : Nat) : Nat := blockDomain (regBlock addr) (regOffset addr)

def domOn (d : Nat) (s : State) : Bool := bit Reg.PMU_DOM_STAT.ON d s

/-- The parent of a domain (R441): AON has none. -/
def domParent (d : Nat) : Option Nat :=
  if d = 0 then none else if d = 1 ∨ d = 2 then some 0 else if d = 7 ∨ d = 8 ∨ d = 9 then some 20 else some 2

/-- The mode code, SYS_MODE.CUR (R38). -/
def mode (s : State) : Nat := get Reg.SYS_MODE.CUR s

/-- TMP_COUNT as it stands. -/
def tmpCount (s : State) : Nat := get Reg.TMP_COUNT_LO.COUNT s + 2 ^ 32 * get Reg.TMP_COUNT_HI.COUNT s

/-! ### Interrupts -/

/-- The level lines (R525): source and the status field that the line follows. Per-unit lines follow fields of one unit's register. Log entry 15 (DEDUCED). -/
def levelLines : List (Nat × Fld) :=
  [(32, Reg.PMU_DOM_ERR.VALID), (34, Reg.PMU_CKPT_STAT.FALLBACK), (64, Reg.TMP_ALARM_HI.FIRED), (129, Reg.SPN_FAULT.LOCK_LOST),
   (130, Reg.SPN_FAULT.LOSS), (131, Reg.SPN_FAULT.FAULT), (321, Reg.OSV_FAULT.FOCUS), (321, Reg.OSV_FAULT.TRACK), (324, Reg.OSV_FAULT.SEEK),
   (325, Reg.OSV_FAULT.WOBBLE), (355, Reg.OCH_STAT.SYNC_LOST), (352, Reg.OCH_RESULT.DONE 0), (352, Reg.OCH_RESULT.DONE 1), (352, Reg.OCH_RESULT.DONE 2), (356, Reg.OCH_DISC.FAILED), (384, Reg.OLK_STAT.FAULT),
   (385, Reg.OLK_CC_STAT.DONE), (385, Reg.OLK_CC_STAT.ERROR), (385, Reg.OLK_CC_STAT.TIMEOUT), (482, Reg.SEAL_STAT.FAULT),
   (485, Reg.SEAL_STAT.CONFLICT), (513, Reg.HPC_DEMAND.CHG), (546, Reg.HSA_DEMAND.CHG), (547, Reg.HSA_NEXUS.FULL), (577, Reg.HST_DEMAND.CHG),
   (609, Reg.CMD_POOL_STAT.FULL), (673, Reg.MEM_ERR_HI.VALID), (674, Reg.MEM_SCRUB_STAT.LATE), (675, Reg.MEM_REP_STAT.FULL),
   (675, Reg.MEM_REP_STAT.EXHAUSTED), (769, Reg.TCH_STAT.EN_REFUSED), (769, Reg.TCH_STAT.OP_REFUSED), (835, Reg.FAB_STAT.DUP)]
  ++ (List.range 5).map (fun e => (101, Reg.CE_STAT.OVERRUN e))
  ++ (List.range 5).flatMap (fun e => (List.range 16).map (fun m => (102, Reg.CE_FE_CFG.TRIP e m)))
  ++ (List.range 5).flatMap (fun e => [(103, Reg.CE_MISS_LO.SLOT e), (103, Reg.CE_MISS_HI.SLOT e)])
  ++ (List.range 24).map (fun h => (194, Reg.ASX_HSTAT.WARN h))
  ++ (List.range 2).flatMap (fun l => [(256 + 4 * l, Reg.HLK_STAT.FAULT l), (257 + 4 * l, Reg.HLK_STAT.PROMOTED l), (258 + 4 * l, Reg.HLK_CC_STAT.DONE l),
    (258 + 4 * l, Reg.HLK_CC_STAT.ERROR l), (258 + 4 * l, Reg.HLK_CC_STAT.TIMEOUT l), (448 + l, Reg.STG_STAT.FAULT l),
    (450, Reg.STG_STAT.STAGE_SAFE l)])
  ++ (List.range 3).map (fun g => (416 + g, Reg.MOT_GRP_STAT.DONE g))
  ++ (List.range 4).flatMap (fun a => [(419, Reg.MOT_AX_STAT.ESTOP a), (420, Reg.MOT_AX_STAT.CHATTER a), (422, Reg.MOT_AX_STAT.HOME_FAIL a),
    (423, Reg.MOT_AX_STAT.LIMIT_HELD a), (424, Reg.MOT_AX_STAT.STAGE a), (837, Reg.FAB_PORT_STAT.FAULT a)])
  ++ (List.range 16).flatMap (fun f => [(752, Reg.FIF_STAT.OVERRUN f), (753, Reg.FIF_STAT.DROPPING f)])

/-- Fields whose bits several sources follow: CE line e follows bit e of CE_FAULT.FAILED, DMA line c bit c of DMA_IRQ (R402). -/
def levelBits : List (Nat × Fld × Nat) :=
  (List.range 5).map (fun e => (96 + e, Reg.CE_FAULT.FAILED, e)) ++ (List.range 32).map (fun c => (704 + c, Reg.DMA_IRQ.END, c))

/-- The lines that follow a condition: FIFO notices (R407), and a gap open for a due kind (CAL line 2). -/
def levelConds (s : State) : List Nat :=
  ((List.range 16).filter (fun f => get (Reg.FIF_CFG.NIE f) s == 1 && get (Reg.FIF_PKT.PKTS f) s != 0)).map (· + 736)
  ++ (if (List.range 16).any (fun k => bit Reg.CAL_DUE.DUE k s && (get (Reg.CAL_KIND_CFG.GAPS k) s &&& get Reg.CAL_GAP.OPEN s) != 0) then [898] else [])

/-- Whether a source's line is asserted: its event latch is set or its status bit reads 1 (R525, R27). Log entry 15 (DEDUCED). -/
def asserted (src : Nat) (s : State) : Bool :=
  s.sys.latched.contains src
  || levelLines.any (fun p => p.1 == src && get p.2 s != 0)
  || levelBits.any (fun p => p.1 == src && bit p.2.1 p.2.2 s)
  || (levelConds s).contains src

/-- The sources whose line is asserted. -/
def assertedList (s : State) : List Nat :=
  s.sys.latched
  ++ (levelLines.filter (fun p => get p.2 s != 0)).map (·.1)
  ++ (levelBits.filter (fun p => bit p.2.1 p.2.2 s)).map (·.1) ++ levelConds s

/-- The domain of core n (R441). -/
def coreDomain (n : Nat) : Nat := if n < 4 then 3 else if n < 8 then 4 else 5

/-- Core n is running (R31): its domain is on, it is not retired, it is not held in reset and it has been started; core 8 only
while SPR_CORE.SEL names a core. -/
def coreRunning (n : Nat) (s : State) : Bool :=
  domOn (coreDomain n) s && !bit Reg.SPR_CORE.RETIRE n s && s.sys.started.contains n
  && (n != 8 || get Reg.SPR_CORE.SEL s != 15)

/-- The lowest-numbered running core. -/
def lowestCore (s : State) : Option Nat := (List.range 9).find? (fun n => coreRunning n s)

/-- The context a source is routed to: values 10 to 15 are treated as 0. Log entry 21 (DEDUCED). -/
def routeCtx (src : Nat) (s : State) : Nat :=
  let c := get (Reg.SYS_IRQ_ROUTE.CTX src) s
  if 10 ≤ c then 0 else c

/-- The context a source is delivered to (R31): the routed one, or the lowest running core while the routed core is not running;
none while no core runs. -/
def deliverCtx (src : Nat) (s : State) : Option Nat :=
  let c := routeCtx src s
  if c = 9 then some 9 else if coreRunning c s then some c else lowestCore s

/-- A source is pending while its line is asserted and it is enabled (R27). -/
def pendingSrc (src : Nat) (s : State) : Bool :=
  get (Reg.SYS_IRQ_ROUTE.EN src) s == 1 && asserted src s

def inService (src : Nat) (s : State) : Bool := s.sys.inService.any (fun p => p.2 == src)

/-- A source is offered to a context (R27, R31). -/
def offeredTo (ctx src : Nat) (s : State) : Bool :=
  get (Reg.SYS_IRQ_ROUTE.EN src) s == 1 && deliverCtx src s == some ctx
  && decide (get (Reg.SYS_IRQ_THR.THR ctx) s < get (Reg.SYS_IRQ_ROUTE.PRIO src) s) && !inService src s

/-- Of two offered sources the one that is claimed: the higher priority, then the lower number. -/
def irqBetter (s : State) (x y : Nat) : Nat :=
  let px := get (Reg.SYS_IRQ_ROUTE.PRIO x) s
  let py := get (Reg.SYS_IRQ_ROUTE.PRIO y) s
  if py < px then x else if px < py then y else min x y

/-- The source a context is offered (R27): none, or the one that a claim returns. Log entry 21 (DEDUCED). -/
def offered (ctx : Nat) (s : State) : Option Nat :=
  ((assertedList s).filter (fun x => offeredTo ctx x s)).foldl
    (fun r x => match r with | none => some x | some y => some (irqBetter s x y)) none

/-- A message on an MSI-X vector goes out at once while the vector is not masked, the link is up and the function is in D0 (R32). Log entry 176 (DESIGN CHOICE). -/
def msixOpen (v : Nat) (s : State) : Bool :=
  !s.host.msixMask.contains v && get Reg.HPC_LINK.UP s == 1 && get Reg.HPC_PM.DSTATE s == 0

/-- An MSI-X message on a vector; one that may not go out yet is pending. Log entry 176 (DESIGN CHOICE). -/
def msix (v : Nat) (s : State) : State :=
  if msixOpen v s then { s with sent := s.sent ++ [.msix v] }
  else { s with host := { s.host with msixPend := if s.host.msixPend.contains v then s.host.msixPend else s.host.msixPend ++ [v] } }

/-- The messages that have waited go out once they may. Log entry 176 (DESIGN CHOICE). -/
def msixFlush (s : State) : State :=
  let l := s.host.msixPend.filter (fun v => msixOpen v s)
  { s with sent := s.sent ++ l.map .msix
           host := { s.host with msixPend := s.host.msixPend.filter (fun v => !l.contains v) } }

/-- Context 9 has gone from no offered source to one: an MSI-X message on vector 1,024 (R32). Log entry 176 (DESIGN CHOICE). -/
def hostEdge (s t : State) : State := if offered 9 s = none ∧ offered 9 t ≠ none then msix 1024 t else t

/-- The controller's records after an occurrence on an event line (R525): the latch is set while the source is enabled. -/
def latchSrc (src : Nat) (s : State) : SysSt :=
  if get (Reg.SYS_IRQ_ROUTE.EN src) s = 1 ∧ !s.sys.latched.contains src then
    { s.sys with latched := s.sys.latched ++ [src] }
  else s.sys

/-- An occurrence on an event line. Log entry 15 (DEDUCED). -/
def raise (src : Nat) (s : State) : State := hostEdge s { s with sys := latchSrc src s }

/-- A status bit that a level line follows takes a value. -/
def putLine (f : Fld) (v : Nat) (s : State) : State := hostEdge s (put f v s)

/-! ### Register words -/

/-- The namespace attached to the SATA port (R203, R348). -/
def sataNs (s : State) : Option Nat :=
  (List.range 64).find? (fun n => bit (Reg.ZMG_NS_CFG.PORTS n) 3 s && get (Reg.ZMG_NS_CFG.TYPE n) s != 0)

/-- The ms since a routing entry was refreshed (R429): a tempo is 5 µs. -/
def routeAge (id : Nat) (s : State) : Nat := (tmpCount s - AMap.getD s.fab.fresh id (tmpCount s)) / 200

/-- The fields of the routing table (R423, R429): the node's own entry reads VALID with HOPS 0, entries 0 and 0xFFF never do, AGE counts the ms since
the last refresh. -/
def readRoute (f : Fld) (s : State) : Nat :=
  let id := (f.addr - (Reg.FAB_RT.VALID 0).addr) / 4
  let own := id == get Reg.FAB_CFG.NODE s && id != 0
  if f = Reg.FAB_RT.VALID id then (if own then 1 else if id = 0 ∨ id = 4095 then 0 else get f s)
  else if f = Reg.FAB_RT.HOPS id ∧ own then 0
  else if f = Reg.FAB_RT.AGE id then min 65535 (routeAge id s)
  else get f s

/-- The valid routing entries, the own one included. -/
def routeCount (s : State) : Nat :=
  let a := (Reg.FAB_RT.VALID 0).key
  let n := get Reg.FAB_CFG.NODE s
  (s.regs.filter (fun p => decide (a + 128 ≤ p.1) && decide (p.1 < a + 4095 * 128) && (p.1 - a) % 128 == 0 && p.2 == 1 && p.1 != a + 128 * n)).length
  + (if n = 0 then 0 else 1)

/-- The fields whose value another place gives: what a read finds there. SYS_IRQ_PEND follows the lines (R27), EVR_STAT and
EVR_DROP the event recorder, FAB_RT the routes, CMD_CTL.FETCH_STOP the activation (R377), counts their lists, and the W1S and W1C views of SYS_GPIO_OUT read SYS_GPIO_OUT. -/
def readField (f : Fld) (s : State) : Nat :=
  let pend := (Reg.SYS_IRQ_PEND.PEND 0).addr
  let drop := (Reg.EVR_DROP.COUNT 0).addr
  if pend ≤ f.addr ∧ f.addr < pend + 132 then
    let k := (f.addr - pend) / 4
    ((assertedList s).filter (fun x => x / 32 == k && get (Reg.SYS_IRQ_ROUTE.EN x) s == 1)).eraseDups.foldl
      (fun v x => withBit v (x % 32) true) 0
  else if f = Reg.EVR_STAT.STAGED then s.evr.staged.length
  else if f = Reg.SEAL_STAT.QUEUE then min 64 (s.seals.queue.length + (s.seals.reqs.filter (fun r => r.op == 5 && r.resp.isNone)).length)
  else if f = Reg.EVR_STAT.LOST then s.evr.lost
  else if drop ≤ f.addr ∧ f.addr < drop + 64 then AMap.getD s.evr.drops ((f.addr - drop) / 4) 0
  else if (Reg.FAB_RT.VALID 0).addr ≤ f.addr ∧ f.addr < (Reg.FAB_RT.VALID 0).addr + 16384 then readRoute f s
  else if f = Reg.FAB_STAT.ROUTES then routeCount s
  else if f = Reg.CMD_CTL.FETCH_STOP then get Reg.SYS_MODE.ACT s
  else if f = Reg.HSA_NEXUS.USED then s.host.nexus.length
  else if f = Reg.SMB_STAT.HELD then s.host.smb.length
  else if f = Reg.HST_LINK.TAGS then (s.cmd.ctxs.filter (fun c => c.cmd.ncq)).length
  else if f = Reg.HST_LINK.NS then (sataNs s).getD 0
  else if f = Reg.HST_LINK.NS_VALID then b2n (sataNs s).isSome
  else if f = Reg.SYS_GPIO_SET.OUT ∨ f = Reg.SYS_GPIO_CLR.OUT then get Reg.SYS_GPIO_OUT.OUT s
  else get f s

/-- Whether an offset from a register's first address is one of its indices: strides fall along the list, so each index is a
quotient. -/
def onDims : (dims : List (Nat × Nat)) → (d : Nat) → Bool
  | [], d => d == 0
  | (n, w) :: t, d => decide (min (d / w) (n - 1) * w ≤ d) && onDims t (d - min (d / w) (n - 1) * w)

/-- A register covers an address. -/
def covers (d : RegDesc) (addr : Nat) : Bool := decide (d.base ≤ addr) && onDims d.dims (addr - d.base)

/-- The register at an address, if one is defined there. -/
def findReg (addr : Nat) : Option RegDesc := (Reg.ofBlock (regBlock addr)).find? (fun d => covers d addr)

/-- The fields of the register at an address. -/
def fieldsAt (addr : Nat) : List (Fld × Access) :=
  match findReg addr with
  | none => []
  | some d => d.fields.map (fun p => (Reg.fieldAt p.1 addr, p.2))

/-- What a read of a register word returns, without side effects (R5: write-only fields and reserved bits read 0). Log entry 22 (DESIGN CHOICE). -/
def peekWord (addr : Nat) (s : State) : Nat :=
  (fieldsAt addr).foldl (fun v p => v + (if p.2 = .wo then 0 else readField p.1 s) * 2 ^ p.1.lo) 0

/-- The lock that covers a register (R6): the one of its own register, or the one the tables name for it. -/
def lockOf (addr : Nat) : Option Fld :=
  if addr = Reg.SYS_PATH_CFG.desc.base then some Reg.SYS_PATH_CFG.LOCK
  else if addr = Reg.HPC_CFG.desc.base ∨ addr = Reg.HPC_ID.desc.base then some Reg.HPC_CFG.LOCK
  else if covers Reg.HSA_CFG.desc addr ∨ covers Reg.HSA_ADDR_LO.desc addr ∨ covers Reg.HSA_ADDR_HI.desc addr then
    some (Reg.HSA_CFG.LOCK ((addr - Reg.HSA_CFG.desc.base) / 256))
  else if addr = Reg.HST_CFG.desc.base then some Reg.HST_CFG.LOCK
  else if addr = Reg.SMB_CFG.desc.base then some Reg.SMB_CFG.LOCK
  else if addr = Reg.DRC_CFG.desc.base then some Reg.DRC_CFG.LOCK
  else none

/-- The RWL fields of a register ignore writes. -/
def isLocked (addr : Nat) (s : State) : Bool :=
  match lockOf addr with
  | none => false
  | some f => get f s == 1

/-- One field under a write of a word (R5, R6). -/
def writeField (lkd : Bool) (word : Nat) (p : Fld × Access) (s : State) : State :=
  let v := bits word p.1.lo p.1.width
  match p.2 with
  | .rw => put p.1 v s
  | .ro => s
  | .wo => s
  | .rwl => if lkd then s else put p.1 v s
  | .w1c => put p.1 (get p.1 s - (get p.1 s &&& v)) s
  | .w1cn => if v % 2 = 1 then put p.1 0 s else s
  | .w1s => put p.1 (get p.1 s ||| v) s

/-- A register word is written by the access codes of its fields. -/
def writeWord (addr word : Nat) (s : State) : State :=
  (fieldsAt addr).foldl (fun t p => writeField (isLocked addr s) word p t) s

/-! ### Event posts -/

/-- The codes that are always recorded and never rate-limited (R474). -/
def forcedCode (c : Nat) : Bool := c == 0x020 || c == 0x021 || c == 0x6E0

/-- The master ID of a block (R18), 31 for a block without one (R466). -/
def blockMaster (b : Nat) : Nat :=
  if b = 22 then 9 else if b = 16 then 10 else if b = 17 then 11 else if b = 18 then 12 else if b = 26 then 13
  else if b = 32 then 14 else if b = 15 then 15 else if b = 7 then 16 else if b = 11 then 17 else if b = 3 then 18
  else if b = 30 then 19 else if b = 27 then 20 else 31

/-- The wall time and the lifetime seconds as they stand. -/
def wallMs (s : State) : Nat := get Reg.EVR_WALL_LO.MS s + 2 ^ 32 * get Reg.EVR_WALL_HI.MS s
def lifeSec (s : State) : Nat := get Reg.EVR_LIFE.SECONDS s

/-- Seven payload words in 28 bytes. -/
def payload28 (l : List Nat) : List Nat := (l ++ List.replicate 28 0).take 28

/-- A code's rate class, the BURST (0 taken as 1) and RATE that its registers hold, and those that apply since the last refill (R473). -/
def codeClass (c : Nat) (s : State) : Nat := get (Reg.EVR_CODE.CLASS c) s
def classBurst (k : Nat) (s : State) : Nat := max 1 (get (Reg.EVR_RATE_CFG.BURST k) s)
def classNow (k : Nat) (s : State) : Nat × Nat × Nat := AMap.getD s.evr.rates k (16, 100, 0)

/-- The tokens missing from a code's bucket. -/
def tokensMissing (c : Nat) (s : State) : Nat := AMap.getD s.evr.used c (classNow (codeClass c s) s).2.2

/-- A code's bucket holds a token, or its RATE 0 does not limit it (R473). Log entry 105 (DEDUCED). -/
def hasToken (c : Nat) (s : State) : Bool :=
  let k := classNow (codeClass c s) s
  k.2.1 == 0 || decide (tokensMissing c s < k.1)

/-- The snapshot of a code (R475, R476): bytes of the seven words, whether a named register was in a domain that is off. -/
def snapWord (set i : Nat) (s : State) : Nat × Bool :=
  let addr := 0x40000000 + get (Reg.EVR_SNAP.OFFSET set i) s
  if get (Reg.EVR_SNAP.EN set i) s = 0 then (0, false)
  else if domOn (regDomain addr) s then (peekWord addr s, false) else (0, true)

/-- The record with its snapshot, where the code has one. -/
def withSnap (r : EvRec) (s : State) : EvRec :=
  if get (Reg.EVR_CODE.SNAP_EN r.code) s = 1 then
    let set := get (Reg.EVR_CODE.SNAP r.code) s
    let ws := (List.range 7).map (fun i => snapWord set i s)
    { r with payload := ws.flatMap (fun p => bytesOf 4 p.1), snapset := set
             flags := r.flags + 1 + (if ws.any (·.2) then 16 else 0) }
  else r

/-- A record enters the staging queue, or is lost while the queue holds 64 (R470); once the queue has drained in RESCUE records pass straight to the
ring, and none is lost. Log entry 281 (DEDUCED). -/
def stage (r : EvRec) (s : State) : EvrSt :=
  let e := s.evr
  if 64 ≤ e.staged.length ∧ ¬ (mode s = 5 ∧ e.rescueDrained = true) then
    { e with lost := min (e.lost + 1) 65535, lostFlag := true, lostSince := e.lostSince + 1 }
  else { e with staged := e.staged ++ [withSnap r s] }

/-- A record of a code takes one token of its bucket, where its class is limited (R473). -/
def tokenSpent (c : Nat) (s : State) (e : EvrSt) : EvrSt :=
  if (classNow (codeClass c s) s).2.1 = 0 then e
  else { e with used := AMap.insert c (tokensMissing c s + 1) e.used }

/-- A record without a token is dropped and counted in its class, and the code's gap bit is set (R473). -/
def tokenless (c : Nat) (s : State) (e : EvrSt) : EvrSt :=
  let k := codeClass c s
  { e with drops := AMap.insert k ((AMap.getD s.evr.drops k 0 + 1) % 2 ^ 32) e.drops
           gaps := if e.gaps.contains c then e.gaps else e.gaps ++ [c] }

/-- The recorder after a post (R470 to R475). A post that asks for a merge meets its bucket as it leaves the queue, since a merge takes no token (R472). -/
def postInto (r : EvRec) (s : State) : EvrSt :=
  let c := r.code
  if forcedCode c then stage r s
  else if get Reg.EVR_CTL.EN s = 0 ∨ get (Reg.EVR_CODE.EN c) s = 0 then s.evr
  else if r.repeatReq then stage r s
  else if hasToken c s then tokenSpent c s (stage r s)
  else tokenless c s s.evr

/-- The stamps of a record taken now (R466): WALL_STALE and RESCUE are the flags that the moment decides. -/
def stamp (r : EvRec) (s : State) : EvRec :=
  { r with tempo := tmpCount s, wall := wallMs s, life := lifeSec s
           flags := 8 * get Reg.EVR_STAT.WALL_STALE s + (if mode s = 5 ∧ s.evr.rescueDrained then 32 else 0) }

/-- A record is posted. -/
def postRec (r : EvRec) (s : State) : State := { s with evr := postInto (stamp r s) s }

/-- A hardware block posts an event: code, unit and payload bytes from byte 32 on (R466, R523). The severity of a hardware event is
not given by the spec: Config.eventSeverity. Log entry 17 (DESIGN CHOICE). -/
def post (code unit : Nat) (payload : List Nat) (s : State) : State :=
  let b := code / 64
  postRec { code := code, sev := Config.eventSeverity code % 16, source := b + 64 * unit + 2048 * blockMaster b
            payload := payload28 payload } s

/-- The event that accompanies an interrupt line (R467), and the line itself as an event line. Log entry 16 (DEDUCED). -/
def raisePost (src unit : Nat) (payload : List Nat) (s : State) : State :=
  post (64 * (src / 32) + src % 32) unit payload (raise src s)

/-- A hardware event that R523 does not list: code 64b + 63, with the offset of the register concerned. Log entry 18 (DEDUCED). -/
def postReg (f : Fld) (unit : Nat) (s : State) : State :=
  post (64 * regBlock f.addr + 63) unit (bytesOf 4 (regOffset f.addr)) s

/-- The same for an event that concerns no register. Log entry 18 (DEDUCED). -/
def postNone (block unit : Nat) (s : State) : State := post (64 * block + 63) unit [255, 255, 255, 255] s

/-- The event that accompanies a level line (R467), with its status bit set. Log entry 16 (DEDUCED). -/
def linePost (src : Nat) (f : Fld) (v unit : Nat) (payload : List Nat) (s : State) : State :=
  post (64 * (src / 32) + src % 32) unit payload (putLine f v s)

/-- A spare is brought into service (R481): its SPR_INV bit clears, PROMOS counts, SPR raises line 0, and line 1 since it was the
last of its kind. -/
def promoted (inv : Fld) (s : State) : State :=
  raisePost 929 0 [] (raisePost 928 0 [] (bump Reg.SPR_STAT.PROMOS (put inv 0 s)))

/-! ### Memory -/

/-- A byte of memory: an unlisted one reads 0. Log entry 9 (DESIGN CHOICE). -/
def memByte (a : Nat) (s : State) : Byte := AMap.getD s.mem a 0

/-- The list of cells with one byte written: a zero byte is not listed. -/
def putCell (a : Nat) (v : Byte) (m : List Host.Cell) : List Host.Cell := if v = 0 then AMap.erase a m else AMap.insert a v m

/-- Bytes written from an address up. -/
def putCells : (a : Nat) → (l : List Nat) → List Host.Cell → List Host.Cell
  | _, [], m => m
  | a, b :: t, m => putCells (a + 1) t (putCell a (BitVec.ofNat 8 b) m)

def memRead (a n : Nat) (s : State) : List Nat := (List.range n).map (fun i => (memByte (a + i) s).toNat)
def memWrite (a : Nat) (l : List Nat) (s : State) : State := { s with mem := putCells a l s.mem }
def memNat (a n : Nat) (s : State) : Nat := ofBytes (memRead a n s)
def memPut (a n v : Nat) (s : State) : State := memWrite a (bytesOf n v) s

/-- The canonical form of memory: rising addresses, no byte of 0 listed. Log entry 9 (DESIGN CHOICE). -/
def Memory.wf (m : List Host.Cell) : Bool := AMap.rising m && m.all (fun c => c.2 != 0)

/-- The domain of a memory address (R441): core local memories by core, the shared 64 KiB with APP0. -/
def memDomain (a : Nat) : Nat :=
  if a < 0x40000 then 2
  else if a < 0x10400000 then
    (let n := (a - 0x10000000) / 0x70000
     if n < 4 then 3 else if n < 8 then 4 else if n = 8 then 5 else 3)
  else if a < 0x28400000 then 20
  else if a < 0x31000000 then 1
  else 18

/-- A domain loses its memory (R443); MRAM keeps its contents. -/
def wipeMem (d : Nat) (s : State) : State :=
  if d = 1 then s else
  { s with mem := s.mem.filter (fun c => memDomain c.1 != d), poison := s.poison.filter (fun a => memDomain a != d) }

/-! ### Resets -/

/-- A register field, by key, is one of a list of fields. -/
def keyIn (l : List (RegDesc × Nat)) (k : Nat) : Bool := l.any (fun p => k % 32 == p.2 && covers p.1 (k / 32))

/-- The register fields of the domains that a predicate names return to their Reset values, but for those it keeps. -/
def resetRegs (dom : Nat → Bool) (keep : Nat → Bool) (s : State) : State :=
  { s with regs := s.regs.filter (fun p => !dom (regDomain (p.1 / 32)) || keep p.1) }

/-- A domain that is switched off and on: its registers come up at their Reset values but for RWL fields and locks (R443, R6) and
what MRAM and AON keep. -/
def resetDomain (d : Nat) (s : State) : State :=
  resetRegs (· == d) (fun k => keyIn Reg.locked k || keyIn Reg.keptMram k || keyIn Reg.keptAon k) s

/-- The reset causes by bit of SYS_RESET_CAUSE. -/
def causeFld (n : Nat) : Fld :=
  [Reg.SYS_RESET_CAUSE.POR, Reg.SYS_RESET_CAUSE.PIN, Reg.SYS_RESET_CAUSE.SW, Reg.SYS_RESET_CAUSE.CLK, Reg.SYS_RESET_CAUSE.TRIAL,
   Reg.SYS_RESET_CAUSE.RESCUE_RET, Reg.SYS_RESET_CAUSE.WAKE, Reg.SYS_RESET_CAUSE.ACTIVATE].getD n Reg.SYS_RESET_CAUSE.POR

/-! ### Status codes (R381) -/

/-- SCT and SC of an outcome. -/
def nvmeCode (st : Status) : Nat × Nat :=
  match st with
  | .success => (0, 0x00)
  | .becomingReady => (0, 0x82)
  | .spindleFault => (0, 0x82)
  | .invalidNs => (0, 0x0B)
  | .lbaRange => (0, 0x80)
  | .invalidField => (0, 0x02)
  | .unrecoveredRead => (2, 0x81)
  | .writeFault => (2, 0x80)
  | .internalError => (0, 0x06)
  | .aborted => (0, 0x07)
  | .zoneInvalidWrite => (1, 0xBC)
  | .zoneFull => (1, 0xB9)
  | .zoneBoundary => (1, 0xB8)
  | .tooManyOpen => (1, 0xBE)
  | .tooManyActive => (1, 0xBD)
  | .zoneReadOnly => (1, 0xBA)
  | .zoneOffline => (1, 0xBB)
  | .writeProtected => (0, 0x20)
  | .retention => (2, 0x86)
  | .guardCheck => (2, 0x82)
  | .sequenceError => (0, 0x0C)
  | .selfTestInProgress => (1, 0x1D)
  | _ => (0, 0)

/-- The DNR bit, where it is stated. Log entry 269 (DEDUCED). -/
def dnrOf (st : Status) : Option Bool :=
  match st with
  | .becomingReady => some false
  | .spindleFault => some true
  | _ => none

/-- Sense key, ASC and ASCQ of an outcome. The sense key of the unit attention of R377 and the code of a command that a non-zoned device does not know are
the standards'. Log entry 268 (PRESUMED). -/
def senseOf (st : Status) : Sense :=
  match st with
  | .becomingReady => .code 2 0x04 0x01
  | .spindleFault => .code 2 0x04 0x03
  | .invalidNs => .code 5 0x25 0x00
  | .lbaRange => .code 5 0x21 0x00
  | .invalidField => .code 5 0x24 0x00
  | .unrecoveredRead => .code 3 0x11 0x00
  | .writeFault => .code 3 0x0C 0x00
  | .internalError => .code 4 0x44 0x00
  | .zoneInvalidWrite => .code 5 0x21 0x04
  | .zoneFull => .code 5 0x21 0x05
  | .zoneBoundary => .code 5 0x21 0x05
  | .tooManyOpen => .code 5 0x55 0x0E
  | .tooManyActive => .code 5 0x55 0x0E
  | .zoneReadOnly => .code 7 0x27 0x08
  | .zoneOffline => .zoneIsOffline
  | .writeProtected => .code 7 0x27 0x00
  | .retention => .code 7 0x27 0x00
  | .guardCheck => .code 0xB 0x10 0x01
  | .sequenceError => .code 5 0x2C 0x00
  | .selfTestInProgress => .code 5 0x2C 0x00
  | .unitAttention => .code 6 0x3F 0x01
  | .invalidOpcode => .code 5 0x20 0x00
  | _ => .code 0 0 0

/-- What NVMe carries; an Abort that aborts nothing has Dword 0 bit 0 set (R375). Log entry 269 (DEDUCED). -/
def nvmeAnswer (st : Status) : Answer :=
  match st with
  | .notAborted => .nvme 0 0 none 1
  | .taskSetFull => .uncoded
  | .busy => .uncoded
  | .functionComplete => .uncoded
  | .unitAttention => .uncoded
  | .invalidOpcode => .uncoded
  | _ => .nvme (nvmeCode st).1 (nvmeCode st).2 (dnrOf st) 0

def sasAnswer (st : Status) : Answer :=
  match st with
  | .success => .good
  | .taskSetFull => .taskSetFull
  | .busy => .busy
  | .functionComplete => .functionComplete
  | .aborted => .uncoded
  | .notAborted => .uncoded
  | _ => .check (senseOf st)

def sataAnswer (st : Status) : Answer :=
  match st with
  | .success => .ataOk
  | .aborted => .ncqAborted
  | .lbaRange => .ataError false true false none
  | .unrecoveredRead => .ataError false false true none
  | .invalidNs => .ataError true false false none
  | .invalidField => .ataError true false false none
  | .sequenceError => .ataError true false false none
  | .selfTestInProgress => .ataError true false false none
  | .invalidOpcode => .ataError true false false none
  | .retention => .uncoded
  | .guardCheck => .uncoded
  | .taskSetFull => .uncoded
  | .busy => .uncoded
  | .functionComplete => .uncoded
  | .notAborted => .uncoded
  | .unitAttention => .uncoded
  | _ => .ataError true false false (some (senseOf st))

/-- How a port encodes an outcome (R381); the sideband as PCIe does (R380). Log entry 269 (DEDUCED). -/
def answerOf (p : Port) (st : Status) : Answer :=
  match p with
  | .pcie => nvmeAnswer st
  | .sideband => nvmeAnswer st
  | .sas0 => sasAnswer st
  | .sas1 => sasAnswer st
  | .sata => sataAnswer st
  | .fabric => .uncoded
  | .internal => .uncoded

/-- A completion as it leaves (R374, R381), with its command's port, nexus and tag or without a command. -/
def statusMsg (p : Port) (nexus tag : Nat) (st : Status) (lba : Nat) : Msg := .status p nexus tag st (answerOf p st) lba
def adminMsg (p : Port) (st : Status) : Msg := .admin p st (answerOf p st)

end Sys2Proof.Machine
end

