-- ==== Sys2Proof/Machine/Arch.lean ====
section
/-! DEFINITION. 01_architecture.md: how an access is judged (R16, R21, R24, R25), paired reads (R9), the interrupt controller's rows
(R27 to R31) and the CALREF gate (R37). -/

namespace Sys2Proof.Machine

/-! ### Judging an access -/

/-- The memory regions of R13 as (first, past the last) addresses, register space and DRAM apart. -/
def memRegions : List (Nat × Nat) :=
  [(0x0, 0x40000), (0x10000000, 0x10400000), (0x20000000, 0x21800000), (0x28000000, 0x28400000), (0x30000000, 0x31000000)]

def regSpace : Nat × Nat := (0x40000000, 0x40210000)
def dramSpace : Nat × Nat := (0x1000000000, 0x1800000000)

/-- The range [a, a + n) lies in a region. -/
def within (r : Nat × Nat) (a n : Nat) : Bool := decide (r.1 ≤ a) && decide (a + n ≤ r.2)

/-- Some byte of an access at [a, a + n) lies in a region. -/
def overlaps (r : Nat × Nat) (a n : Nat) : Bool := decide (a < r.2) && decide (r.1 < a + max n 1)

/-- The DRAM size in use, in bytes (DRC_CFG.SIZE, values other than 1 to 8 taken as 8). Log entry 277 (DEDUCED). -/
def dramSize (s : State) : Nat :=
  let z := get Reg.DRC_CFG.SIZE s
  (if 1 ≤ z ∧ z ≤ 8 then z else 8) * 0x100000000

/-- The windows of the register space that no register table lists: a control engine's coefficient windows and state readback, by
the text before the CE tables. -/
def ceWindow (addr : Nat) : Bool :=
  let o := addr - 0x40030000
  decide (0x40030000 ≤ addr) && decide (addr < 0x40040000) && decide (0x4000 ≤ o)
  && decide (o < 0xE000 + 5 * 0x400)

/-- A register is defined at an address. -/
def isDefined (addr : Nat) : Bool := (findReg addr).isSome || ceWindow addr

/-- The cause of the error response an access meets, if any, in the order of R16, judged over every byte of it. `path` tells whether the access's path is open
(R24). Log entry 20 (DEDUCED). -/
def accessCause (path : Bool) (addr len : Nat) (write : Bool) (s : State) : Option Nat :=
  let inReg := within regSpace addr len
  let inDram := within dramSpace addr len
  if !path then some 3
  else if overlaps regSpace addr len && (len != 4 || addr % 4 != 0) then some 1
  else if write && overlaps (0, 0x40000) addr len then some 1
  else if !inReg && !inDram && !memRegions.any (fun r => within r addr len) then some 0
  else if inDram then
    if !domOn 18 s || get Reg.DRC_STAT.TRAINED s != 1 then some 2
    else if addr + len ≤ dramSpace.1 + dramSize s then none else some 0
  else if inReg then
    if !domOn (regDomain addr) s then some 2 else if isDefined addr then none else some 0
  else if (List.range len).all (fun i => domOn (memDomain (addr + i)) s) then none
  else some 2

/-- The access path of a master is open (R24): BAR2 by the HPC, remote register access by FAB, JTAG by DBG. Log entry 152 (DESIGN CHOICE). -/
def pathOpen (master : Nat) (s : State) : Bool :=
  if master = 10 then get Reg.SYS_PATH_CFG.BAR2_EN s == 1
  else if master = 13 then get Reg.SYS_PATH_CFG.FAB_EN s == 1
  else if master = 14 then get Reg.SYS_PATH_CFG.JTAG_EN s == 1
  else true

/-- An error response (R25): captured while VALID is clear, MORE otherwise; an event of code 0x023 either way. -/
def busError (master addr cause : Nat) (write : Bool) (s : State) : State :=
  let lo := addr % 2 ^ 32
  let hi := bits addr 32 8 + 256 * master + 8192 * b2n write + 16384 * cause + 2 ^ 31
  let t := post 0x023 0 (bytesOf 4 lo ++ bytesOf 4 hi) { s with sys := { s.sys with resp := .error cause } }
  if get Reg.SYS_BUS_ERR_HI.VALID s = 1 then put Reg.SYS_BUS_ERR_HI.MORE 1 t
  else puts [(Reg.SYS_BUS_ERR_LO.ADDR_LO, lo), (Reg.SYS_BUS_ERR_HI.ADDR_HI, bits addr 32 8), (Reg.SYS_BUS_ERR_HI.MASTER, master),
    (Reg.SYS_BUS_ERR_HI.WRITE, b2n write), (Reg.SYS_BUS_ERR_HI.CAUSE, cause), (Reg.SYS_BUS_ERR_HI.VALID, 1)] t

/-- What an access is answered. -/
def respond (r : BusResp) (s : State) : State := { s with sys := { s.sys with resp := r } }

/-! ### Pairs read under R9 -/

/-- The pairs of R9: the lower and the upper register's address. -/
def pairs : List (Nat × Nat) :=
  [(Reg.TMP_COUNT_LO.desc.base, Reg.TMP_COUNT_HI.desc.base),
   (Reg.EVR_SEQ_LO.desc.base, Reg.EVR_SEQ_HI.desc.base),
   (Reg.EVR_WALL_LO.desc.base, Reg.EVR_WALL_HI.desc.base),
   (Reg.PMU_CKPT_SEQ_LO.desc.base, Reg.PMU_CKPT_SEQ_HI.desc.base),
   (Reg.FAB_UID_LO.desc.base, Reg.FAB_UID_HI.desc.base),
   (Reg.SEAL_SEQ_LO.desc.base, Reg.SEAL_SEQ_HI.desc.base),
   (Reg.CMD_STAMP_LO.desc.base, Reg.CMD_STAMP_HI.desc.base)]
  ++ (List.range 2).map (fun a => ((Reg.ACT_WUS_LOG_LO.desc.base + 0x100 * a), (Reg.ACT_WUS_LOG_HI.desc.base + 0x100 * a)))
  ++ (List.range 32).map (fun c => ((Reg.DMA_CRC_LO.desc.base + 64 * c), (Reg.DMA_CRC_HI.desc.base + 64 * c)))

def upperOf (addr : Nat) : Option Nat := (pairs.find? (·.1 == addr)).map (·.2)
def lowerOf (addr : Nat) : Option Nat := (pairs.find? (·.2 == addr)).map (·.1)

/-- The latches without those of a master and an upper register. Log entry 19 (DESIGN CHOICE). -/
def unlatch (master hi : Nat) (l : List (Nat × Nat × Nat)) : List (Nat × Nat × Nat) :=
  l.filter (fun p => !(p.1 == master && p.2.1 == hi))

/-- A read of a lower register by a master latches the upper one (R9). Log entry 19 (DESIGN CHOICE). -/
def latchUpper (master addr : Nat) (s : State) : State :=
  match upperOf addr with
  | none => s
  | some hi => { s with sys := { s.sys with pairLatch := unlatch master hi s.sys.pairLatch ++ [(master, hi, peekWord hi s)] } }

/-- What a master's read of a register word returns, and the latch it uses up (R9). Log entry 19 (DESIGN CHOICE). -/
def pairedRead (master addr : Nat) (s : State) : Nat × State :=
  match s.sys.pairLatch.find? (fun p => p.1 == master && p.2.1 == addr) with
  | some p => (p.2.2, { s with sys := { s.sys with pairLatch := unlatch master addr s.sys.pairLatch } })
  | none => (peekWord addr s, latchUpper master addr s)

/-- PAIRED_REGISTER_READ_LATCH: a read of the lower register of a pair (R9). -/
def execPairedRegisterReadLatch (master addr : Nat) (s : State) : Out :=
  match accessCause (pathOpen master s) addr 4 false s with
  | some c => .next (busError master addr c false s)
  | none =>
    if (upperOf addr).isSome then
      .next (respond (.data (bytesOf 4 (peekWord addr s)) false) (latchUpper master addr s))
    else .next s

/-! ### The interrupt controller -/

/-- A claim (R27): the offered source goes into service and its event latch clears (R525). -/
def claim (ctx : Nat) (s : State) : State :=
  match offered ctx s with
  | none => send (.claim ctx 0xFFFF) (respond (.data (bytesOf 4 0xFFFF) false) s)
  | some x =>
    send (.claim ctx x) (respond (.data (bytesOf 4 x) false)
      { s with sys := { s.sys with inService := s.sys.inService ++ [(ctx, x)], latched := s.sys.latched.filter (· != x) } })

/-- IRQ_CLAIM: a read of SYS_IRQ_CLAIM[ctx]. -/
def execIrqClaim (ctx : Nat) (s : State) : Out := unit ctx 10 (.next (claim ctx s))

/-- A source leaves service in a context, and is offered again at once if its line is still asserted (R28); a number that is not in
service there is ignored (R30). -/
def done (ctx src : Nat) (s : State) : State :=
  hostEdge s { s with sys := { s.sys with inService := s.sys.inService.filter (· != (ctx, src)) } }

/-- IRQ_DONE: a write of SYS_IRQ_DONE[ctx]. -/
def execIrqDone (ctx src : Nat) (s : State) : Out := unit ctx 10 (.next (done ctx src s))

/-- A source is enabled and delivered to a core other than the one it is routed to (R31). -/
def isRedirected (src : Nat) (s : State) : Bool :=
  get (Reg.SYS_IRQ_ROUTE.EN src) s == 1 && (deliverCtx src s).isSome && deliverCtx src s != some (routeCtx src s)

/-- The redirections brought up to date for one source: an event of code 0x024 when one begins (R31). Log entry 21 (DEDUCED). -/
def redirect (s : State) (src : Nat) : State :=
  if isRedirected src s then
    if s.sys.redirected.contains src then s
    else post 0x024 0 (bytesOf 2 src ++ [routeCtx src s, (deliverCtx src s).getD 0])
      { s with sys := { s.sys with redirected := s.sys.redirected ++ [src] } }
  else { s with sys := { s.sys with redirected := s.sys.redirected.filter (· != src) } }

/-- The enabled sources: those whose EN field is listed as 1. -/
def enabledSources (s : State) : List Nat :=
  let a := (Reg.SYS_IRQ_ROUTE.EN 0).key
  s.regs.filterMap (fun p => if a ≤ p.1 ∧ p.1 < a + 1056 * 128 ∧ (p.1 - a) % 128 = 0 ∧ p.2 = 1 then some ((p.1 - a) / 128) else none)

/-- Every redirection brought up to date, after a change of the running cores. -/
def redirectAll (s : State) : State := hostEdge s ((enabledSources s).foldl redirect s)

/-- The route register and the event latch after a write of SYS_IRQ_ROUTE (R30, R525). A changed route ends a redirection. -/
def routeWritten (src value : Nat) (s : State) : State :=
  let t := puts [(Reg.SYS_IRQ_ROUTE.EN src, bits value 0 1), (Reg.SYS_IRQ_ROUTE.PRIO src, bits value 1 3),
    (Reg.SYS_IRQ_ROUTE.CTX src, bits value 8 4)] s
  { t with sys := { t.sys with
      latched := if bits value 0 1 = 0 then t.sys.latched.filter (· != src) else t.sys.latched
      redirected := if bits value 8 4 = get (Reg.SYS_IRQ_ROUTE.CTX src) s then t.sys.redirected
        else t.sys.redirected.filter (· != src) } }

/-- IRQ_ROUTE_WRITE: a write of SYS_IRQ_ROUTE[src]. -/
def execIrqRouteWrite (src value : Nat) (s : State) : Out :=
  unit src 1056 (.next (hostEdge s (redirect (routeWritten src value s) src)))

/-! ### CALREF -/

/-- CALREF is not valid any more: CALREF_OK falls, PPM holds (R37), and the interval since the last CAL_DONE is not traced (R479). Log entry 181 (DEDUCED). -/
def calrefLost (s : State) : State :=
  put Reg.SYS_CLK_STAT.CALREF_OK 0 { s with pins := { s.pins with calref := false }
                                            cal := { s.cal with traced := false } }

/-- CALREF_GATE_END: at the end of a gate the XIN error in 0.01 ppm is written (R37); kind 0 of R477 counts each gate. A gate ends only while CALREF is
valid, so it shows that it is; an error beyond ±100 ppm shows that it is not. Log entry 181 (DEDUCED). -/
def execCalrefGateEnd (ppm : Nat) (s : State) : Out :=
  let t := put Reg.SYS_CLK_STAT.CALREF_OK 1 { s with pins := { s.pins with calref := true } }
  let x := toInt 16 (ppm % 65536)
  occurs (s.pins.rails = true ∧ s.pins.xin = true)
    (if -10000 ≤ x ∧ x ≤ 10000 then
      bump (Reg.CAL_KIND_COUNT.COUNT 0) (put Reg.SYS_CLK_CALREF.FRESH 1
        (bumpSat Reg.SYS_CLK_CALREF.GATES (put Reg.SYS_CLK_CALREF.PPM ppm t)))
     else calrefLost s) s

end Sys2Proof.Machine
end

