-- ==== Sys2Proof/Machine/Engines.lean ====
section
/-! DEFINITION. 03_tempo_and_control_engines.md: number formats (R72 to R74), Hecel programs (R75 to R78, R528), inputs (R80, R81),
overruns and failures (R82, R83), castling (R85 to R87) and the following-error monitors (R88). -/

namespace Sys2Proof.Machine

/-! ### Number formats -/

/-- Saturation to a w-bit two's complement range. -/
def satTo (w : Nat) (i : Int) : Int := max (-(2 : Int) ^ (w - 1)) (min i ((2 : Int) ^ (w - 1) - 1))

/-- The mantissa and the shift of a coefficient entry. -/
def coefM (entry : Nat) : Int := toInt 32 (bits entry 0 32)
def coefS (entry : Nat) : Int := toInt 5 (bits entry 32 5)

/-- The shifted product of R72, before saturation: left by s, or right by -s rounded half up. -/
def shiftProduct (p sh : Int) : Int :=
  if 0 ≤ sh then p * 2 ^ sh.toNat else (p + 2 ^ ((-sh).toNat - 1)) / 2 ^ (-sh).toNat

/-- The saturated product of a coefficient and a signal. -/
def coefProduct (entry : Nat) (x : Int) : Int := satTo 72 (shiftProduct (coefM entry * x) (coefS entry))

/-- The accumulator after an addition or subtraction, and whether the product or the sum saturated (R72). -/
def accumulate (neg : Bool) (acc : Int) (entry : Nat) (x : Int) : Int × Bool :=
  let raw := shiftProduct (coefM entry * x) (coefS entry)
  let p := satTo 72 raw
  let sum := if neg then acc - p else acc + p
  (satTo 72 sum, decide (p ≠ raw) || decide (satTo 72 sum ≠ sum))

/-- A stored or output signal (R73): the accumulator rounded half up, saturated to 32 bits. -/
def roundAcc (acc : Int) : Int := satTo 32 ((acc + 2 ^ 29) / 2 ^ 30)

/-- A coefficient's value in accumulator units: m times 2 to the s + 31. -/
def coefValue (entry : Nat) : Int := coefM entry * 2 ^ (coefS entry + 31).toNat

/-- A signed stage-link field (R74): bits 31:16 of a slot, rounded half up and saturated, as 16 bits. -/
def linkSigned (x : Int) : Nat := ofInt 16 (satTo 16 ((x + 2 ^ 15) / 2 ^ 16))

/-- An unsigned stage-link field (R74): bits 30:15 rounded half up at bit 14, saturated; a negative slot is sent as 0. -/
def linkUnsigned (x : Int) : Nat := if x < 0 then 0 else min 0xFFFF ((x + 2 ^ 14) / 2 ^ 15).toNat

/-! ### Programs -/

/-- The engine whose program, inputs and coefficients an engine uses: CE4 those of CE_SPARE.SEL (R84). -/
def srcOf (e : Nat) (s : State) : Nat := if e = 4 then get Reg.CE_SPARE.SEL s else e

def progOf (e : Nat) (s : State) : Option Program := (ceOf (srcOf e s) s).prog

/-- The fields of an instruction word (R77). -/
def opOf (w : Nat) : Nat := bits w 27 5
def predOf (w : Nat) : Nat := bits w 24 3
def aOf (w : Nat) : Nat := bits w 15 9
def cOf (w : Nat) : Nat := bits w 6 9

/-- The miss policy and the miss limit of an input slot (R75). -/
def policyOf (p : Program) (j : Nat) : Nat := p.inputs.getD j 3 % 4
def limitOf (p : Program) (j : Nat) : Nat := bits (p.inputs.getD j 0) 2 4

/-- The instruction names an input slot that the program does not use. -/
def namesUnused (p : Program) (w : Nat) : Bool :=
  decide (256 ≤ aOf w) && decide (aOf w < 320) && policyOf p (aOf w - 256) == 3

/-- OUTPUT_SAFE code 2 stands only for slot 0 of CE2 and slot 2 of CE3 (R75, R76). -/
def safeCodesOk (p : Program) : Bool :=
  (List.range 32).all (fun g =>
    let c := p.outputSafe.getD g 0
    decide (c ≤ 3) && (c != 2 || (p.engine == 2 && g == 0) || (p.engine == 3 && g == 2)))

/-- The checks of R76 on a program. Log entry 183 (DEDUCED). -/
def programOk (p : Program) : Bool :=
  p.magic == 0x4C454348 && decide (p.engine ≤ 3) && p.version == 1
  && decide (1 ≤ p.nInstr) && decide (p.nInstr ≤ 4096) && p.words.length == p.nInstr
  && decide (1 ≤ p.nCoef) && decide (p.nCoef ≤ 512) && decide (p.nState ≤ 256)
  && p.inputs.length == 64 && p.inputs.all (fun b => decide (b < 64)) && p.outputSafe.length == 32
  && p.fe.length == 16 && p.tail.all (· == 0)
  && decide (p.staticCycles + 24 * p.nFetch ≤ 3200)
  && opOf (p.words.getLastD 0) == 10 && predOf (p.words.getLastD 0) == 0
  && p.words.all (fun w => predOf w != 7 && !(opOf w == 7 && cOf w == 511) && !namesUnused p w)
  && safeCodesOk p

/-- The monitor presets of a program are written to the engine's monitor registers (R75). -/
def presetMonitors (e : Nat) (p : Program) (s : State) : State :=
  (List.range 16).foldl (fun t m =>
    let q := p.fe.getD m (0, 0)
    puts [(Reg.CE_FE_LIMIT.LIMIT e m, bits q.1 0 31), (Reg.CE_FE_CFG.SRC e m, bits q.2 0 8), (Reg.CE_FE_CFG.TIME e m, bits q.2 8 12),
      (Reg.CE_FE_CFG.ACTION e m, bits q.2 20 2), (Reg.CE_FE_CFG.EN e m, bits q.2 22 1), (Reg.CE_FE_CFG.OUTS e m, bits q.2 24 8)] t) s

/-- A program of the image's section 6 is loaded into its engine (R76): refused with BAD_PROG and an event where a check fails, not
loaded with an event where ENGINE is above 3 or the engine has one. Log entry 184 (DESIGN CHOICE). -/
def loadProgram (s : State) (p : Program) : State :=
  if 4 ≤ p.engine ∨ (ceOf p.engine s).prog.isSome ∨ get (Reg.CE_STAT.BAD_PROG p.engine) s = 1 then post 0x0E0 0 [p.engine] s
  else if programOk p then
    presetMonitors p.engine p (put (Reg.CE_CTL.RUN p.engine) 1 (setCe p.engine { ceOf p.engine s with prog := some p } s))
  else post 0x0E0 p.engine [p.engine] (put (Reg.CE_STAT.BAD_PROG p.engine) 1 s)

/-- The programs of an image are loaded; an engine 0 to 3 without one stays stopped with BAD_PROG set (R76). -/
def loadPrograms (l : List Program) (s : State) : State :=
  (List.range 4).foldl (fun t e => putIf ((ceOf e t).prog = none) (Reg.CE_STAT.BAD_PROG e) 1 t) (l.foldl loadProgram s)

/-! ### Signals and predicates -/

/-- TMP_PHASE.K in its valid range (R66). -/
def kValid (k : Nat) : Bool := decide (2 ≤ k) && decide (k ≤ 8)

/-- A write of TMP_PHASE.K (R68): a valid value waits for PHASE 0, another is ignored with an event. Log entry 24 (DEDUCED). -/
def kWrite (k : Nat) (s : State) : State := if kValid k then { s with tmp := { s.tmp with newK := some k } } else post 0x0A0 0 [k] s

/-- The service phase of an engine (R67): CE1's is half of K rounded up, the others' is 0. -/
def servicePhase (e : Nat) (s : State) : Nat := if srcOf e s = 1 then (get Reg.TMP_PHASE.K s + 1) / 2 else 0

/-- This tempo is the engine's service tempo. -/
def isService (e : Nat) (s : State) : Bool := get Reg.TMP_PHASE.PHASE s == servicePhase e s

/-- The value of the signal with an index (R77). -/
def signal (e a : Nat) (s : State) : Int :=
  let r := ceOf e s
  if a < 256 then AMap.getD r.state a 0
  else if a < 320 then AMap.getD (ceOf (srcOf e s) s).inVal (a - 256) 0
  else if a < 448 then AMap.getD (ceOf ((a - 320) / 32) s).prev ((a - 320) % 32) 0
  else if a = 448 then r.satd
  else if a = 449 then r.tbl
  else 0

/-- Whether a signal counts as valid (R77, R528). -/
def signalValid (e a : Nat) (s : State) : Bool :=
  if 256 ≤ a ∧ a < 320 then (ceOf (srcOf e s) s).inOk.contains (a - 256)
  else if a = 449 then (ceOf e s).tblOk
  else true

/-- Whether a predicate passes (R77). -/
def predPasses (e pred a : Nat) (s : State) : Bool :=
  match pred with
  | 0 => true
  | 1 => isService e s
  | 2 => !isService e s
  | 3 => signalValid e a s
  | 4 => !signalValid e a s
  | 5 => (ceOf e s).flag
  | 6 => !(ceOf e s).flag
  | _ => false

/-- The coefficient entry C of an engine: of its active bank. -/
def coef (e c : Nat) (s : State) : Nat :=
  let g := srcOf e s
  let r := ceOf g s
  AMap.getD (if get (Reg.CE_SWAP.ACTIVE g) s = 1 then r.bank1 else r.bank0) c 0

/-! ### Issue -/

/-- An engine runs its program in this tempo: its domain is on, it has a program and has not failed; CE0 to CE3 while CE_CTL.RUN,
CE4 while it shadows or is promoted (R76, R83, R84). -/
def engineRuns (e : Nat) (s : State) : Bool :=
  domOn 6 s && (progOf e s).isSome && !(ceOf e s).failed
  && (if e = 4 then get Reg.CE_SPARE.MODE s == 1 || get Reg.CE_SPARE.MODE s == 2 else get (Reg.CE_CTL.RUN e) s == 1)

/-- The cycle in which the next instruction issues: one that names an input slot 0 to 7 in A waits for cycle 1,200 (R71). -/
def issueCycle (r : EngSt) (a : Nat) : Nat := if 256 ≤ a ∧ a < 264 then max r.cycle 1200 else r.cycle

/-- The instruction is the next one of the engine's program and can issue: none after END, none while a table fetch is out, none
after cycle 3,199 (R78, R82). -/
def canIssue (e op pred a c : Nat) (s : State) : Bool :=
  let r := ceOf e s
  engineRuns e s && !r.ended && r.stalled.isNone && decide (issueCycle r a ≤ 3199)
  && (match (progOf e s).bind (fun p => p.words[r.pc]?) with
      | none => false
      | some w => opOf w == op && predOf w == pred && aOf w == a && cOf w == c)

/-- The sequencer after an instruction of n cycles. -/
def advance (a n : Nat) (r : EngSt) : EngSt := { r with pc := r.pc + 1, cycle := issueCycle r a + n }

/-- An instruction: it takes its cycles, and has its effect on the engine where its predicate passes (R77). -/
def hecel (e op pred a c n : Nat) (f : EngSt → EngSt) (s : State) : Out :=
  unit e 5 (occurs (canIssue e op pred a c s)
    (setCe e (advance a n (if predPasses e pred a s then f (ceOf e s) else ceOf e s)) s) s)

/-- HECEL_NOP: one cycle, nothing else (R78). -/
def execHecelNop (e pred a c : Nat) (s : State) : Out := hecel e 0 pred a c 1 id s

/-- HECEL_CLR: acc is 0 (R78). -/
def execHecelClr (e pred a c : Nat) (s : State) : Out := hecel e 1 pred a c 1 (fun r => { r with acc := 0 }) s

/-- A MAC or MSU: the accumulator under R72, and ACC_SAT where the product or the sum saturates. -/
def macOp (neg : Bool) (op e pred a c : Nat) (s : State) : Out :=
  let q := accumulate neg (ceOf e s).acc (coef e c s) (signal e a s)
  unit e 5 (occurs (canIssue e op pred a c s)
    (putIf (predPasses e pred a s = true ∧ q.2 = true) (Reg.CE_STAT.ACC_SAT e) 1
      (setCe e (advance a 1 (if predPasses e pred a s then { ceOf e s with acc := q.1 } else ceOf e s)) s)) s)

/-- HECEL_MAC (R72). -/
def execHecelMac (e pred a c : Nat) (s : State) : Out := macOp false 2 e pred a c s

/-- HECEL_MSU (R72). -/
def execHecelMsu (e pred a c : Nat) (s : State) : Out := macOp true 3 e pred a c s

/-- HECEL_LDA: acc is A times 2 to the 30 (R78). -/
def execHecelLda (e pred a c : Nat) (s : State) : Out :=
  hecel e 4 pred a c 1 (fun r => { r with acc := signal e a s * 2 ^ 30 }) s

/-- HECEL_ST: a state word is written, held until the commit (R73, R78). -/
def execHecelSt (e pred a c : Nat) (s : State) : Out :=
  hecel e 5 pred a c 1 (fun r => { r with fresh := AMap.insert (c % 256) (roundAcc r.acc) r.fresh }) s

/-- HECEL_OUT: an output slot is written (R73, R78); it is copied out at cycle 3,200. -/
def execHecelOut (e pred a c : Nat) (s : State) : Out :=
  hecel e 6 pred a c 1 (fun r => { r with outNew := AMap.insert (c % 32) (roundAcc r.acc) r.outNew }) s

/-- The clamp of LIM: raised to the lower bound, then lowered to the upper (R78), in the accumulator's 72 bits (R72). -/
def clampAcc (lo hi acc : Int) : Int := satTo 72 (min (max acc lo) hi)

/-- HECEL_LIM: acc is clamped between coef[C] and coef[C + 1]; SATD is the rounded difference (R78). -/
def execHecelLim (e pred a c : Nat) (s : State) : Out :=
  hecel e 7 pred a c 1 (fun r =>
    let q := clampAcc (coefValue (coef e c s)) (coefValue (coef e (c + 1) s)) r.acc
    { r with acc := q, satd := roundAcc (q - r.acc) }) s

/-- The address of the table entry that a TFETCH reads (R528): the index clamped to the table's entries. -/
def tfetchAddr (entry : Nat) (x : Int) : Nat :=
  let n := if bits entry 40 16 = 0 then 65536 else bits entry 40 16
  bits entry 0 40 + 4 * (max 0 (min x ((n : Int) - 1))).toNat

/-- A table entry arrives (R528): TBL takes it; an error response is captured (R25) and gives 0, TF_ERR and an event, and TBL counts as missing; poisoned data
is an uncorrectable error in the engine's memory (R390). -/
def tfetchTake (e addr : Nat) (s : State) : State :=
  let r := ceOf e s
  match accessCause true addr 4 false s with
  | some c =>
    postReg (Reg.CE_STAT.TF_ERR e) e (put (Reg.CE_STAT.TF_ERR e) 1 (setCe e { r with tbl := 0, tblOk := false } (busError 18 addr c false s)))
  | none =>
    setCe e { r with tbl := toInt 32 (memNat addr 4 s), tblOk := true
                     memErr := r.memErr || s.poison.contains (addr / 8 * 8) } s

/-- HECEL_TFETCH: 24 cycles; where the predicate passes the entry is fetched, and the engine waits for it if it is not back in time
(R78, R528). -/
def execHecelTfetch (e pred a c : Nat) (inTime : Bool) (s : State) : Out :=
  let addr := tfetchAddr (coef e c s) (signal e a s)
  let t := setCe e (advance a 24 (ceOf e s)) s
  unit e 5 (occurs (canIssue e 8 pred a c s)
    (if predPasses e pred a s then
      (if inTime then tfetchTake e addr t else setCe e { ceOf e t with stalled := some addr } t)
    else t) s)

/-- TFETCH_RETURN: a late entry returns after some more cycles, which count toward the program limit (R78). -/
def execTfetchReturn (e cycles : Nat) (s : State) : Out :=
  unit e 5 (match (ceOf e s).stalled with
    | none => .next s
    | some addr =>
      let r := ceOf e s
      .next (tfetchTake e addr (setCe e { r with stalled := none, cycle := r.cycle + cycles } s)))

/-- HECEL_SETF: F is 1 if acc is 0 or above (R78). -/
def execHecelSetf (e pred a c : Nat) (s : State) : Out :=
  hecel e 9 pred a c 1 (fun r => { r with flag := decide (0 ≤ r.acc) }) s

/-- HECEL_END: the program is over until the next cycle 0, and its cycle is shown in CE_CYCLES (R78). -/
def execHecelEnd (e pred a c : Nat) (s : State) : Out :=
  let n := issueCycle (ceOf e s) a
  unit e 5 (occurs (canIssue e 10 pred a c s)
    (let t := setCe e (advance a 1 (if predPasses e pred a s then { ceOf e s with ended := true } else ceOf e s)) s
     if predPasses e pred a s then
       puts [(Reg.CE_CYCLES.LAST e, n), (Reg.CE_CYCLES.MAX e, max n (get (Reg.CE_CYCLES.MAX e) s))] t
     else t) s)

/-- HECEL_RESERVED_OP: operation codes 11 to 31 do nothing for one cycle and set BAD_OP whether or not the predicate passes (R78). -/
def execHecelReservedOp (e op pred a c : Nat) (s : State) : Out :=
  unit e 5 (occurs (11 ≤ op ∧ canIssue e op pred a c s = true)
    (put (Reg.CE_STAT.BAD_OP e) 1 (setCe e (advance a 1 (ceOf e s)) s)) s)

/-! ### Overruns, misses, trips -/

/-- PROGRAM_OVERRUN: cycle 3,199 has passed without END (R82): the tempo's state and outputs are discarded, OVERRUN is set and an
event recorded. -/
def execProgramOverrun (e : Nat) (s : State) : Out :=
  let r := ceOf e s
  let now := tmpCount s
  unit e 5 (occurs (engineRuns e s = true ∧ r.ended = false ∧ r.cycle < 4000)
    (linePost 101 (Reg.CE_STAT.OVERRUN e) 1 e []
      (setCe e { r with fresh := [], outNew := [], stalled := none, cycle := 4000
                        overruns := (r.overruns.filter (fun t => decide (now < t + 16))) ++ [now] } s)) s)

/-- The miss bit of an input slot: CE_MISS_LO or CE_MISS_HI. -/
def missFld (e j : Nat) : Fld := if j < 32 then Reg.CE_MISS_LO.SLOT e else Reg.CE_MISS_HI.SLOT e

/-- MISS_LIMIT_REACHED: a slot's miss counter has reached its limit (R81): its CE_MISS bit and the input interrupt. Log entry 29 (DEDUCED). -/
def execMissLimitReached (e j : Nat) (s : State) : Out :=
  let r := ceOf e s
  let lim := match progOf e s with | none => 0 | some p => if policyOf p j = 3 then 0 else limitOf p j
  unit e 5 (unit j 64 (occurs (0 < lim ∧ lim ≤ AMap.getD r.misses j 0 ∧ r.sawMiss.contains j = false)
    (linePost 103 (missFld e j) (withBit (get (missFld e j) s) (j % 32) true) e [j]
      (setCe e { r with sawMiss := r.sawMiss ++ [j] } s)) s))

/-- The engine whose state a monitor of engine e watches: CE4 while it is promoted in place of e (R84). -/
def watched (e : Nat) (s : State) : Nat :=
  if get Reg.CE_SPARE.MODE s = 2 ∧ get Reg.CE_SPARE.SEL s = e then 4 else e

/-- One output write's comparison of a monitor (R88): its timer counts the tempos above the limit. -/
def monitorTimer (e m : Nat) (s : State) : Nat :=
  let r := ceOf e s
  let t := AMap.getD r.timers m 0
  if get (Reg.CE_FE_CFG.EN e m) s = 0 ∨ get (Reg.CE_FE_CFG.TRIP e m) s = 1 then t
  else
    let x := AMap.getD (ceOf (watched e s) s).state (get (Reg.CE_FE_CFG.SRC e m) s) 0
    if get (Reg.CE_FE_LIMIT.LIMIT e m) s < x.natAbs then t + 1 else 0

/-- FOLLOWING_ERROR_TRIP of monitor m of engine e as far as the engine goes: TRIP is set, the timer is reset, an event and line 6 (R88). -/
def monitorTrips (e m : Nat) (s : State) : Bool :=
  get (Reg.CE_FE_CFG.EN e m) s == 1 && get (Reg.CE_FE_CFG.TRIP e m) s == 0
  && decide (max 1 (get (Reg.CE_FE_CFG.TIME e m) s) ≤ AMap.getD (ceOf e s).timers m 0)

def monitorTrip (e m : Nat) (s : State) : State :=
  let r := ceOf e s
  linePost 102 (Reg.CE_FE_CFG.TRIP e m) 1 e [m] (setCe e { r with timers := AMap.insert m 0 r.timers } s)

/-! ### Castling -/

/-- SWAP_REQUEST: REQ is set at a cycle of the tempo; one set after cycle 3,984 waits for the boundary after the next (R85). -/
def execSwapRequest (e cycle : Nat) (s : State) : Out :=
  unit e 5 (occurs (get (Reg.CE_SWAP.REQ e) s = 0)
    (put (Reg.CE_SWAP.REQ e) 1 (setCe e { ceOf e s with swapLate := decide (3984 < cycle) } s)) s)

/-- One 32-bit half of a coefficient entry of a bank is written; word 2i is entry i's low half. -/
def bankWrite (b : AMap Nat) (word value : Nat) : AMap Nat :=
  let v := value % 2 ^ 32
  let old := AMap.getD b (word / 2) 0
  AMap.insert (word / 2) (if word % 2 = 0 then bits old 32 32 * 2 ^ 32 + v else v * 2 ^ 32 + bits old 0 32) b

/-- A write to the inactive bank as it stands. -/
def inactiveWrite (e word value : Nat) (s : State) : State :=
  let r := ceOf e s
  setCe e (if get (Reg.CE_SWAP.ACTIVE e) s = 1 then { r with bank0 := bankWrite r.bank0 word value }
    else { r with bank1 := bankWrite r.bank1 word value }) s

/-- A write in the guard window stalls: the boundary that ends this tempo takes a pending swap (R86). -/
def windowStalls (e cycle : Nat) (s : State) : Bool :=
  get (Reg.CE_SWAP.REQ e) s == 1 && !(ceOf e s).swapLate && decide (3984 ≤ cycle) && decide (cycle ≤ 3999)

/-- COEF_WINDOW_WRITE: a word of the inactive window (R86); a stalled one completes after the swap. -/
def execCoefWindowWrite (e word value cycle : Nat) (s : State) : Out :=
  let r := ceOf e s
  unit e 5 (unit word 1024 (.next
    (if windowStalls e cycle s then setCe e { r with held := r.held ++ [(word, value)] } s else inactiveWrite e word value s)))

/-- A pending swap at a boundary (R85, R87); the stalled window writes then go to the new inactive bank (R86). -/
def castle (e : Nat) (s : State) : State :=
  let r := ceOf e s
  if get (Reg.CE_SWAP.REQ e) s = 1 then
    if r.swapLate then setCe e { r with swapLate := false } s
    else
      let t := puts [(Reg.CE_SWAP.ACTIVE e, 1 - get (Reg.CE_SWAP.ACTIVE e) s), (Reg.CE_SWAP.REQ e, 0)] (bump (Reg.CE_SWAP.COUNT e) s)
      r.held.foldl (fun u p => inactiveWrite e p.1 p.2 u) (setCe e { r with held := [] } t)
  else s

/-! ### A tempo of an engine -/

/-- An input slot at its latch (R70, R80): valid with the arrived value, or missing under its policy. Log entry 33 (DESIGN CHOICE). -/
def latchSlot (p : Program) (got : AMap Int) (r : EngSt) (j : Nat) : EngSt :=
  if policyOf p j = 3 then r
  else match AMap.lookup j got with
    | some v =>
      { r with inVal := AMap.insert j v r.inVal, inOk := if r.inOk.contains j then r.inOk else r.inOk ++ [j]
               misses := AMap.insert j 0 r.misses, sawMiss := r.sawMiss.filter (· != j) }
    | none =>
      { r with inVal := if policyOf p j = 2 then AMap.insert j 0 r.inVal else r.inVal, inOk := r.inOk.filter (· != j)
               misses := AMap.insert j (AMap.getD r.misses j 0 + 1) r.misses }

/-- A wedge slot at cycle 0: missing until its wedge latch, with no miss counted (R80). -/
def unlatchSlot (p : Program) (r : EngSt) (j : Nat) : EngSt :=
  { r with inOk := r.inOk.filter (· != j), inVal := if policyOf p j = 2 then AMap.insert j 0 r.inVal else r.inVal }

/-- Cycle 0 of an engine (R69, R78): input slots 8 to 63 are latched, the previous tempo's outputs become readable and the working
registers are 0. Log entry 33 (DESIGN CHOICE). -/
def cycleZero (e : Nat) (s : State) : State :=
  let r := ceOf e s
  let r1 := match r.prog with
    | none => r
    | some p => (List.range 8).foldl (unlatchSlot p) (((List.range 64).drop 8).foldl (latchSlot p r.arrived) r)
  setCe e { r1 with arrived := [], prev := r.out, fresh := [], outNew := [], acc := 0, flag := false, satd := 0, tbl := 0
                    tblOk := true, stalled := none, pc := 0, cycle := 0, ended := false, wedgeTaken := false } s

/-- The mode word of slot 5 (R123). -/
def modeWord (a : Nat) (s : State) : Int :=
  (get (Reg.ACT_STAT.STATE a) s + 16 * b2n (actOf a s).write + 32 * get (Reg.ACT_STAT.PAIRED a) s + 64 * b2n (actOf a s).newTarget : Nat)

/-- The values of slots 0 to 7 at the wedge latch (R123): slot 5 of an actuator's engine is never missing. -/
def wedgeValues (e : Nat) (s : State) : AMap Int := if e < 2 then AMap.insert 5 (modeWord e s) (ceOf e s).wedge else (ceOf e s).wedge

/-- The take of a target has been shown in the mode word (R123). -/
def targetShown (e : Nat) (s : State) : State := if e < 2 then setAct e { actOf e s with newTarget := false } s else s

/-- The wedge latch of an engine at cycle 1,200 of its service tempo (R69). -/
def wedgeLatch (e : Nat) (s : State) : State :=
  let r := ceOf e s
  match r.prog with
  | none => s
  | some p =>
    if isService e s then
      targetShown e (setCe e { (List.range 8).foldl (latchSlot p (wedgeValues e s)) r with wedge := [], wedgeTaken := true } s)
    else s

/-- WEDGE_LATCH: slots 0 to 7 of each engine whose service tempo this is (R69, R70). -/
def execWedgeLatch (s : State) : Out := .next ((List.range 4).foldl (fun t e => wedgeLatch e t) s)

/-- The OUTPUT_SAFE value of a slot (R75): held, 0, or the phase-state bits 21:16 at 0 with the rest held. -/
def safeValue (code : Nat) (x : Int) : Int :=
  if code = 0 then x
  else if code = 2 then toInt 32 (ofInt 32 x - bits (ofInt 32 x) 16 6 * 2 ^ 16)
  else 0

/-- The strongest action of an engine's tripped monitors on an output slot (R88): 3 before 2 before 1; 0 none. Log entry 33 (DESIGN CHOICE). -/
def slotAction (e g : Nat) (s : State) : Nat :=
  (List.range 16).foldl (fun b m =>
    if get (Reg.CE_FE_CFG.TRIP e m) s = 1 then
      let k := get (Reg.CE_FE_CFG.ACTION e m) s
      if k = 0 then b
      else if k = 1 then max b 1
      else if bit (Reg.CE_FE_CFG.OUTS e m) (g / 4) s then max b k else b
    else b) 0

/-- The output slots that an engine's program has written, over those of the last completed tempo (R82). -/
def completed (r : EngSt) : AMap Int := if r.ended then r.outNew.foldl (fun o p => AMap.insert p.1 p.2 o) r.out else r.out

/-- CE4 stands in place of engine e at the output write (R84). -/
def replaced (e : Nat) (s : State) : Bool :=
  get Reg.CE_SPARE.SEL s == e && (get Reg.CE_SPARE.MODE s == 2 || (ceOf 4 s).promoting)

/-- The engine that drives the output slots of engine e has failed: CE4 where it stands in e's place (R83, R84). -/
def driverFailed (e : Nat) (s : State) : Bool := if replaced e s then (ceOf 4 s).failed else (ceOf e s).failed

/-- The value of an output slot as it was sent. -/
def outSlot (e g : Nat) (s : State) : Int := AMap.getD (ceOf e s).out g 0

/-- The value an output slot is sent with (R69, R83, R84, R88). -/
def slotValue (e g : Nat) (s : State) : Int :=
  let r := ceOf e s
  let old := AMap.getD r.out g 0
  let code := match r.prog with | none => 3 | some p => p.outputSafe.getD g 3
  let act := slotAction e g s
  if driverFailed e s then safeValue code old
  else if act = 3 then safeValue code old
  else if act = 2 then 0
  else if act = 1 then old
  else AMap.getD (completed (if replaced e s then ceOf 4 s else r)) g 0

/-- The state words after the commit (R69). -/
def committed (r : EngSt) : AMap Int := if r.ended then r.fresh.foldl (fun o p => AMap.insert p.1 p.2 o) r.state else r.state

/-- The commit of an engine: state words, and its own completed outputs for CE4. -/
def commitEngine (s : State) (e : Nat) : State :=
  let r := ceOf e s
  setCe e { r with state := committed r, fresh := [], out := if e = 4 then completed r else r.out } s

/-- The 32 output slots of engine e as sent: 0 slots are not listed. -/
def sentOut (e : Nat) (s : State) : AMap Int :=
  ((List.range 32).map (fun g => (g, slotValue e g s))).filter (fun p => p.2 != 0)

/-- The shadow comparison (R84): CE4's outputs of the tempo differ from those of the engine it shadows. -/
def shadowDiffers (s : State) : Bool :=
  let e := get Reg.CE_SPARE.SEL s
  get Reg.CE_SPARE.MODE s == 1 && engineRuns e s && engineRuns 4 s && !(ceOf 4 s).promoting
  && (List.range 32).any (fun g => AMap.getD (completed (ceOf e s)) g 0 != AMap.getD (completed (ceOf 4 s)) g 0)

/-- The output write of the engines at cycle 3,200: outputs are copied out, state commits, the shadow is compared and the monitors
compare (R69, R84, R88). -/
def engineOutputs (s : State) : State :=
  let outs := (List.range 4).map (fun e => (e, sentOut e s))
  let s1 := if shadowDiffers s then
      post 0x0E1 4 [get Reg.CE_SPARE.SEL s] (bumpSat Reg.CE_SPARE.MISMATCH s) else s
  let s2 := (List.range 5).foldl commitEngine s1
  let s3 := outs.foldl (fun t p => setCe p.1 { ceOf p.1 t with out := p.2 } t) s2
  (List.range 4).foldl (fun t e =>
    let tm := (List.range 16).map (fun m => (m, monitorTimer e m t))
    setCe e { ceOf e t with timers := tm.filter (fun p => p.2 != 0) } t) s3

/-! ### Failure and promotion of CE4 -/

/-- The conditions of R83: an uncorrectable error in the engine's memories, 3 overruns in 16 tempos, BAD_OP. -/
def engineFails (e : Nat) (memoryError : Bool) (s : State) : Bool :=
  let r := ceOf e s
  !r.failed && (memoryError || r.memErr || get (Reg.CE_STAT.BAD_OP e) s == 1
    || decide (3 ≤ (r.overruns.filter (fun t => decide (tmpCount s < t + 16))).length))

/-- CE4 shadows engine e and runs. -/
def shadowed (e : Nat) (s : State) : Bool :=
  get Reg.CE_SPARE.MODE s == 1 && get Reg.CE_SPARE.SEL s == e && e != 4 && !(ceOf 4 s).failed

/-- The failure of an engine (R83): CE_FAULT, the fault interrupt and the stop; a shadowing CE4 takes over from the next output write
and boundary (R84). Log entry 32 (DEDUCED). -/
def failEngine (e : Nat) (s : State) : State :=
  let t := linePost (96 + e) Reg.CE_FAULT.FAILED (withBit (get Reg.CE_FAULT.FAILED s) e true) e []
    (setCe e { ceOf e s with failed := true, ended := false, stalled := none, fresh := [], outNew := [] } s)
  if shadowed e s then setCe 4 { ceOf 4 t with promoting := true } t else t

/-- The boundary after the failure of a shadowed engine (R84): CE4 takes its place, MODE becomes 2, with the event of code 0x0E2 and
the promotion of R481. -/
def promoteCe4 (s : State) : State :=
  if (ceOf 4 s).promoting then
    let e := get Reg.CE_SPARE.SEL s
    promoted Reg.SPR_INV.CE (post 0x0E2 4 [e] (put Reg.CE_SPARE.MODE 2 (setCe 4 { ceOf 4 s with promoting := false } s)))
  else s

/-- The engines' share of a tempo boundary: castling, promotion, cycle 0. -/
def engineBoundary (s : State) : State :=
  let t := (List.range 5).foldl (fun u e => castle e u) s
  (List.range 5).foldl (fun u e => cycleZero e u) (promoteCe4 t)

/-- Firmware writes CE_SPARE (R84): a promotion by firmware starts CE4 with state zero. Log entry 185 (DESIGN CHOICE). -/
def spareWritten (value : Nat) (s : State) : State :=
  let m := bits value 0 2
  let t := writeWord Reg.CE_SPARE.desc.base value s
  if m = 2 ∧ get Reg.CE_SPARE.MODE s ≠ 2 then
    promoted Reg.SPR_INV.CE (postReg Reg.CE_SPARE.MODE 4 (setCe 4 { ceOf 4 t with state := [], out := [], failed := false } t))
  else t

/-! ### Inputs that arrive -/

/-- A value arrives for an input slot of an engine before the slot's latch. -/
def arrive (e j : Nat) (v : Int) (s : State) : State :=
  let r := ceOf e s
  setCe e { r with arrived := AMap.insert j v r.arrived } s

/-- Wedge data arrives for an engine's slots 0 to 7 (R69): what comes after the wedge latch of its service tempo is discarded and counted (R70). -/
def arriveWedge (e : Nat) (l : AMap Int) (s : State) : State :=
  let r := ceOf e s
  if r.wedgeTaken then bumpSat (Reg.CE_STAT.LATE e) s else setCe e { r with wedge := l } s

/-- Data for an engine arrives after its latch: it is discarded and counted (R70). -/
def arriveLate (e : Nat) (s : State) : State := bumpSat (Reg.CE_STAT.LATE e) s

end Sys2Proof.Machine
end

