-- ==== Sys2Proof/Machine/Lanes.lean ====
section
/-! DEFINITION. The lanes of the head links and of the optical link: their coding (R169, R289), the blocks that the device sends (R170, R171), and the lane errors,
the deskew and the order of what arrives (R169, R175). -/

namespace Sys2Proof.Machine

/-! ### The coding -/

/-- The self-synchronizing scrambler x⁵⁸ + x³⁹ + 1 (R169): 64 payload bits, bit 0 first, after the 64 bits that the lane carried before. Log entry 215 (DEDUCED). -/
def scramble (before d : Nat) : Nat :=
  let low := (d ^^^ before / 2 ^ 25 ^^^ before / 2 ^ 6) % 2 ^ 39
  let c := before % 2 ^ 64 + low * 2 ^ 64
  (d ^^^ c / 2 ^ 25 ^^^ c / 2 ^ 6) % 2 ^ 64

/-- The descrambler of a receive lane. Log entry 215 (DEDUCED). -/
def descramble (before r : Nat) : Nat :=
  let c := before % 2 ^ 64 + r * 2 ^ 64
  (r ^^^ c / 2 ^ 25 ^^^ c / 2 ^ 6) % 2 ^ 64

/-- The 66-bit words of blocks on a lane (R169): the sync header, 0b01 for data and 0b10 for control, below the scrambled payload. Log entry 215 (DEDUCED). -/
def laneWords (before : Nat) : List (Bool × Nat) → List Nat
  | [] => []
  | (ctl, b) :: t => let x := scramble before b; ((if ctl then 2 else 1) + 4 * x) :: laneWords x t

/-! ### Blocks -/

/-- The payloads of R171 that the device sends. -/
def blkIdle : Nat := 0x1E
def blkCrc (frame : List Nat) : Nat := 0x3C + crc32c (frame.flatMap (bytesOf 8)) * 2 ^ 8
def blkTick (seq ofs : Nat) : Nat := 0x2E + seq % 256 * 2 ^ 8 + ofs % 128 * 2 ^ 16
def blkChdr (seq : Nat) : Nat := 0x2D + seq % 256 * 2 ^ 8
def blkCmd (head st level preb heat : Nat) : Nat :=
  0x33 + head % 32 * 2 ^ 8 + st % 8 * 2 ^ 13 + level % 65536 * 2 ^ 16 + preb % 65536 * 2 ^ 32 + heat % 65536 * 2 ^ 48
def blkRate (r1 r2 p1 p2 : Nat) : Nat := 0x36 + r1 % 4096 * 2 ^ 8 + r2 % 4096 * 2 ^ 20 + p1 % 256 * 2 ^ 32 + p2 % 256 * 2 ^ 40
def blkLanes (l0 l1 : Nat) : Nat := 0x5A + l0 % 4 * 2 ^ 8 + l1 % 4 * 2 ^ 10
def blkGate (stream : Nat) (on urgent : Bool) (pos : Nat) : Nat :=
  0x78 + stream % 2 * 2 ^ 8 + b2n on * 2 ^ 9 + b2n urgent * 2 ^ 10 + pos % 64 * 2 ^ 16
def blkReq (tag addr data : Nat) (write : Bool) : Nat :=
  0x4B + tag % 256 * 2 ^ 8 + addr % 256 * 2 ^ 16 + data % 2 ^ 32 * 2 ^ 24 + b2n write * 2 ^ 56

/-- A transmit data block (R170): 60 write bits, bit 0 first, and STREAM; bits 63:61 are 0. -/
def blkData (stream bits60 : Nat) : Nat := bits60 % 2 ^ 60 + stream % 2 * 2 ^ 60

/-- Bits as a number, the first one lowest. -/
def bitsNat (l : List Bool) : Nat := l.foldr (fun b n => (if b then 1 else 0) + 2 * n) 0

/-! ### Sending -/

/-- The record of a link: 0 and 1 are the head links, 2 the optical link. -/
def linkOf (l : Nat) (s : State) : HlkSt := if l = 2 then s.olk else hlkOf l s
def setLink (l : Nat) (r : HlkSt) (s : State) : State := if l = 2 then { s with olk := r } else setHlk l r s

/-- The lane words of some blocks of a link, after what its transmit lane has carried. -/
def wordsFor (l : Nat) (b : List (Bool × Nat)) (s : State) : List Nat := laneWords (linkOf l s).tx b

/-- The transmit lane has carried some blocks. -/
def carried (l : Nat) (b : List (Bool × Nat)) (s : State) : State :=
  setLink l { linkOf l s with tx := ((wordsFor l b s).getLast?.map (· / 4)).getD (linkOf l s).tx } s

/-- Control blocks leave on the transmit lane of a link. -/
def sendBlocks (l : Nat) (blocks : List Nat) (s : State) : State :=
  let b := blocks.map (fun x => (true, x))
  let m := if l = 2 then Msg.opticalLink blocks (wordsFor l b s) else Msg.headLink l blocks (wordsFor l b s)
  send m (carried l b s)

/-! ### Receive lanes -/

/-- Registers of a receive lane of a link: lock, errors and lock losses. -/
def laneLock (l p : Nat) (s : State) : Bool := if l = 2 then get Reg.OLK_STAT.RX_LOCK s == 1 else bit (Reg.HLK_STAT.LOCK l) p s
def unlockLane (l p : Nat) (s : State) : State := if l = 2 then put Reg.OLK_STAT.RX_LOCK 0 s else putBit (Reg.HLK_STAT.LOCK l) p false s
def laneErrs (l p : Nat) : Fld := if l = 2 then Reg.OLK_ERR.ERRS else Reg.HLK_LANE_ERR.ERRS l p
def laneLosses (l p : Nat) : Fld := if l = 2 then Reg.OLK_ERR.LOCKLOSS else Reg.HLK_LANE_ERR.LOCKLOSS l p

def laneOf (p : Nat) (r : HlkSt) : LaneSt := r.lanes.getD p {}

/-- The tempos over which invalid headers count (R175); the optical link has no such limit. -/
def errWindow (l : Nat) (s : State) : Nat := if l = 2 then 0 else get (Reg.HLK_PROMO.WINDOW l) s

/-- A word's sync header is valid (R169). -/
def headerOk (w : Nat) : Bool := w % 4 == 1 || w % 4 == 2

/-- What a 66-bit word leaves of its lane's record (R169, R175). -/
def laneTakes (l w : Nat) (r : LaneSt) (s : State) : LaneSt :=
  { r with before := w / 4 % 2 ^ 64
           badRow := if headerOk w then 0 else r.badRow + 1
           errAt := if headerOk w then r.errAt else (r.errAt ++ [tmpCount s]).filter (fun t => decide (tmpCount s < t + errWindow l s)) }

/-- A word arrives on a receive lane: an invalid header counts, and the sixty-fourth in a row loses block lock (R175), which only a training gives back. Log entry 216 (DEDUCED). -/
def laneWord (l p w : Nat) (s : State) : State :=
  let r := laneTakes l w (laneOf p (linkOf l s)) s
  let t := setLink l { linkOf l s with lanes := (linkOf l s).lanes.set p r } s
  let u := if headerOk w then t else bump (laneErrs l p) t
  if r.badRow = 64 ∧ laneLock l p s = true then unlockLane l p (bump (laneLosses l p) u) else u

/-- A block as it comes off a lane: control or data, and its payload. -/
def blockOn (p w : Nat) (r : HlkSt) : Bool × Nat := (w % 4 == 2, descramble (laneOf p r).before (w / 4 % 2 ^ 64))

def isAlign (b : Bool × Nat) : Bool := b.1 && b.2 % 256 == 0x55

/-- The striped sequence (R169): block 2i of logical lane 0, then block 2i + 1 of logical lane 1; where only one of the two is an ALIGN, the other lane
comes up to its own. The blocks in order, and what waits on each lane. Log entry 217 (DEDUCED). -/
def destripe : (n : Nat) → (a b : List (Bool × Nat)) → List (Bool × Nat) × List (Bool × Nat) × List (Bool × Nat)
  | n + 1, x :: a, y :: b =>
    if isAlign x = isAlign y then (let q := destripe n a b; (x :: y :: q.1, q.2))
    else if isAlign x then destripe n (x :: a) b
    else destripe n a (y :: b)
  | _, a, b => ([], a, b)

/-- A block joins the lane's queue, which holds the 32 blocks of skew that HLK takes up (R169); an older one is lost. Log entry 217 (DEDUCED). -/
def joinLane (b : Bool × Nat) (q : List (Bool × Nat)) : List (Bool × Nat) := (q ++ [b]).drop (q.length + 1 - 32)

end Sys2Proof.Machine
end

