-- ==== Sys2Proof/Machine/Permits.lean ====
section
/-! DEFINITION. What the actuators, the assist and the spindle share: the assist's state changes (R152, R154), a head's write permit
(R139 to R142) and the requests to power stage 0 (R116). -/

namespace Sys2Proof.Machine

/-! ### Assist states -/

def asxState (h : Nat) (s : State) : Nat := get (Reg.ASX_HSTAT.STATE h) s

/-- A head's write episode after a move to a state (R164): it ends when the head leaves ARMED and HOLD. The heater's ramp (R159) is that of READ entered from OFF. -/
def asxMoved (new : Nat) (r : AsxSt) : AsxSt :=
  let r1 := { r with tempos := 0, readAtEnd := false, fhRamp := if new = 0 ∨ new = 1 then r.fhRamp else 4096 }
  if r.inEpisode ∧ new ≠ 3 ∧ new ≠ 4 then { r1 with inEpisode := false, ended := true } else r1

/-- A head's assist goes to a state (R152): READY is 1 in ARMED only, and the transition is recorded. -/
def asxGo (h new : Nat) (s : State) : State :=
  postReg (Reg.ASX_HSTAT.STATE h) h
    (puts [(Reg.ASX_HSTAT.STATE h, new), (Reg.ASX_HSTAT.READY h, if new = 3 then 1 else 0)] (setAsx h (asxMoved new (asxOf h s)) s))

/-- The same where the head is in one of some states. -/
def asxGoIf (c : Nat → Bool) (h new : Nat) (s : State) : State := if c (asxState h s) then asxGo h new s else s

/-- A hard fall from a cause outside ASX (R152, R154): READ from PREBIAS, ARMED and HOLD; a head in READ stays there. -/
def asxHardOff (h : Nat) (s : State) : State := asxGoIf (fun x => decide (2 ≤ x) && decide (x ≤ 4)) h 1 s

/-- The assist goes OFF: the head is no longer selected, or its actuator is not in a state that uses it (R152). -/
def asxOff (h : Nat) (s : State) : State := asxGoIf (fun x => decide (1 ≤ x) && decide (x ≤ 5)) h 0 s

/-! ### Heads and permits -/

/-- The heads of an actuator: 0 to 11 are A's, 12 to 23 B's. -/
def headsOf (a : Nat) : List Nat := (List.range 12).map (· + 12 * a)
def actOfHead (h : Nat) : Nat := if h < 12 then 0 else 1
def ownHead (a h : Nat) : Bool := decide (12 * a ≤ h) && decide (h < 12 * a + 12)
def isRetired (h : Nat) (s : State) : Bool := bit Reg.ASX_RETIRED.MAP h s

def actState (a : Nat) (s : State) : Nat := get (Reg.ACT_STAT.STATE a) s

/-- Head k, 1 or 2, of an actuator as selected; 31 for none. -/
def headOf (a k : Nat) (s : State) : Nat := if k = 1 then (actOf a s).head1 else (actOf a s).head2

/-- Which of its actuator's selected heads a head is: 1, 2 or 0. -/
def slotOf (h : Nat) (s : State) : Nat :=
  let r := actOf (actOfHead h) s
  if r.head1 = h then 1 else if r.head2 = h then 2 else 0

def permitFld (a k : Nat) : Fld := if k = 1 then Reg.ACT_STAT.PERMIT1 a else Reg.ACT_STAT.PERMIT2 a

/-- The stream that serves head k of an actuator (R168): stream 4 in the place of the one HCH_SPARE.SEL names. -/
def streamOf (a k : Nat) (s : State) : Nat :=
  let n := 2 * a + (k - 1)
  if get Reg.HCH_SPARE.SEL s = n then 4 else n

/-- HCH marks the sector that a stream is writing as unwritten (R141, R157, R199). -/
def markUnwritten (n : Nat) (s : State) : State :=
  if get (Reg.HCH_STAT.WRITING n) s = 1 then setHch n { hchOf n s with marked := true } s else s

/-- The actuator's record after a fall of permit k: the requalification starts and an episode opens (R141). -/
def actFell (k cause wedge : Nat) (peak : Int) (r : ActSt) : ActSt :=
  let e : Episode := ⟨if k = 1 then r.head1 else r.head2, if k = 1 then r.track else r.track2.toNat, wedge, cause, peak⟩
  if k = 1 then { r with fell1 := true, good1 := 0, episode1 := r.episode1.orElse (fun _ => some e) }
  else { r with fell2 := true, good2 := 0, episode2 := r.episode2.orElse (fun _ => some e), drops2 := r.drops2 ++ [r.wedges] }

/-- The write gate of head k drops with an URGENT GATE block (R177, R199), while its stream writes and the transmit lane is up. -/
def gateOff (a k : Nat) (s : State) : State :=
  if get (Reg.HCH_STAT.WRITING (streamOf a k s)) s = 1 ∧ get (Reg.HLK_STAT.TX_UP a) s = 1 then sendBlocks a [blkGate (k - 1) false true 0] s else s

/-- A permit that is 1 falls (R139): counted, with line 1 and its event, the gate dropped and the stream's sector marked. `cause` is the log's code: 0
PES, 1 missed wedge, 2 other. -/
def permitDrop (a k cause : Nat) (peak : Int) (s : State) : State :=
  if get (permitFld a k) s = 1 then
    raisePost (161 + 8 * a) a [headOf a k s]
      (markUnwritten (streamOf a k s)
        (bump (Reg.ACT_CNT.WUS a) (put (permitFld a k) 0
          (setAct a (actFell k cause (get (Reg.ACT_WEDGE_TIME.WEDGE a) s) peak (actOf a s)) (gateOff a k s)))))
  else s

/-- A fall with its class (R139, R154): a hard one also takes the head's assist to READ. -/
def permitFall (a k : Nat) (hard : Bool) (cause : Nat) (peak : Int) (s : State) : State :=
  let t := permitDrop a k cause peak s
  if hard then asxHardOff (headOf a k s) t else t

/-- Both permits of an actuator fall. -/
def permitsFall (a : Nat) (hard : Bool) (cause : Nat) (s : State) : State :=
  permitFall a 2 hard cause 0 (permitFall a 1 hard cause 0 s)

/-- The permits of both actuators fall. -/
def allPermitsFall (hard : Bool) (s : State) : State := permitsFall 1 hard 2 (permitsFall 0 hard 2 s)

/-- READY of a head falls and its permit with it (R153). Log entry 26 (DEDUCED). -/
def readyFall (h : Nat) (s : State) : State :=
  let k := slotOf h s
  let t := put (Reg.ASX_HSTAT.READY h) 0 s
  if k = 0 then t else permitDrop (actOfHead h) k 2 0 t

/-- Both permits are to fall at the cycle 3,200 output write, with a class (R107, R109, R139, R142): a hard fall stands over a soft one. -/
def fallLater (hard : Bool) (a : Nat) (s : State) : State :=
  let r := actOf a s
  setAct a { r with fallPend := some (hard || r.fallPend == some true) } s

def allFallLater (hard : Bool) (s : State) : State := fallLater hard 1 (fallLater hard 0 s)

/-- The tempos in n ms (R65). -/
def tempos (ms : Nat) : Nat := 200 * ms

/-! ### The conditions of a permit -/

/-- An actuator's engine drives it: not failed, or CE4 stands in its place (R139). -/
def engineDrives (e : Nat) (s : State) : Bool := !driverFailed e s

/-- A tripped monitor of an engine takes ACTION 1 to 3 (R88). -/
def tripActs (e : Nat) (s : State) : Bool :=
  (List.range 16).any (fun m => get (Reg.CE_FE_CFG.TRIP e m) s == 1
    && get (Reg.CE_FE_CFG.ACTION e m) s != 0)

/-- The conditions of R139 that hold between wedges. -/
def permitHolds (a k : Nat) (s : State) : Bool :=
  actState a s == 4 && get (Reg.ACT_STAT.WR_OK a) s == 1 && get Reg.SPN_STAT.LOCK s == 2
  && (actOf a s).write && get (Reg.ASX_HSTAT.READY (headOf a k s)) s == 1
  && (k == 1 || get (Reg.ACT_STAT.PAIRED a) s == 1)
  && decide (get (Reg.STG_STAT.MISS 0) s < 3) && engineDrives a s && !tripActs a s && s.pins.pfailN

/-- The consecutive good wedges of head k, whether its permit has fallen, its episode. -/
def goodRow (k : Nat) (r : ActSt) : Nat := if k = 1 then r.good1 else r.good2
def fellOf (k : Nat) (r : ActSt) : Bool := if k = 1 then r.fell1 else r.fell2
def episodeOf (k : Nat) (r : ActSt) : Option Episode := if k = 1 then r.episode1 else r.episode2
def dropEpisode (k : Nat) (r : ActSt) : ActSt := if k = 1 then { r with episode1 := none } else { r with episode2 := none }

/-- The permit may rise (R141): every condition holds and, after a fall, REQUAL consecutive wedges have been good. -/
def permitMayRise (a k : Nat) (s : State) : Bool :=
  let r := actOf a s
  permitHolds a k s && decide ((if fellOf k r then get (Reg.ACT_WUS2.REQUAL a) s else 1) ≤ goodRow k r)

/-! ### The write-unsafe log -/

/-- The log registers show the oldest entry. -/
def showLog (a : Nat) (s : State) : State :=
  match (actOf a s).log with
  | [] => puts [(Reg.ACT_WUS_LOG_LO.TRACK a, 0), (Reg.ACT_WUS_LOG_LO.HEAD a, 0), (Reg.ACT_WUS_LOG_LO.ATI a, 0),
      (Reg.ACT_WUS_LOG_LO.CAUSE a, 0), (Reg.ACT_WUS_LOG_LO.VALID a, 0), (Reg.ACT_WUS_LOG_HI.WEDGE a, 0),
      (Reg.ACT_WUS_LOG_HI.PEAK a, 0)] s
  | e :: _ => puts [(Reg.ACT_WUS_LOG_LO.TRACK a, e.track), (Reg.ACT_WUS_LOG_LO.HEAD a, e.head), (Reg.ACT_WUS_LOG_LO.ATI a, b2n e.ati),
      (Reg.ACT_WUS_LOG_LO.CAUSE a, e.cause), (Reg.ACT_WUS_LOG_LO.VALID a, 1), (Reg.ACT_WUS_LOG_HI.WEDGE a, e.wedge),
      (Reg.ACT_WUS_LOG_HI.PEAK a, ofInt 8 (satTo 8 (roundOpen e.peak 16)))] s

/-- An entry is pushed, or written into an event record with WUS_OVF where the log holds 16 (R141). -/
def pushLog (a : Nat) (e : WusEntry) (s : State) : State :=
  let r := actOf a s
  if r.log.length < 16 then showLog a (setAct a { r with log := r.log ++ [e] } s)
  else post (64 * 5 + 63) a (bytesOf 4 (regOffset (Reg.ACT_STAT.WUS_OVF a).addr) ++ bytesOf 4 e.track ++ [e.head, e.cause, b2n e.ati]
      ++ bytesOf 2 e.wedge ++ [ofInt 8 (satTo 8 (roundOpen e.peak 16))]) (put (Reg.ACT_STAT.WUS_OVF a) 1 s)

/-- The peak's magnitude toward a written neighbour in 1/4,096 track (R140, R141): in conventional zones both sides count. -/
def towardPeak (shingled dirIn : Bool) (p : Int) : Int := if shingled then (if dirIn then p else -p) else (p.natAbs : Int)

/-- An episode of head k ends (R141): its entry is logged, and ZMG gets the verify work of an entry with ATI set (R230). -/
def endEpisode (a k : Nat) (s : State) : State :=
  let r := actOf a s
  match episodeOf k r with
  | none => s
  | some e =>
    let ati := decide ((get (Reg.ACT_WUS.ATI a) s : Int) * 16 < towardPeak r.shingled r.dirIn e.peak)
    let t := pushLog a ⟨e.head, e.track, e.wedge, e.cause, e.peak, ati⟩ (setAct a (dropEpisode k r) s)
    if ati then { t with zmg := { t.zmg with ati := t.zmg.ati ++ [(e.head, e.track, e.wedge, get (Reg.ACT_WEDGE_TIME.WEDGE a) s)] } } else t

/-- Permit k rises (R141): its episode ends. -/
def permitRise (a k : Nat) (s : State) : State :=
  let r := actOf a s
  endEpisode a k (put (permitFld a k) 1 (setAct a (if k = 1 then { r with fell1 := false } else { r with fell2 := false }) s))

/-! ### Requests to power stage 0 -/

/-- RETRACT_REQ is set in the frames of stage link 0 (R116). -/
def requestRetract (s : State) : State :=
  setStg 0 { stgOf 0 s with retractReq := true }
    (if (stgOf 0 s).retractReq then s else { s with spn := { s.spn with retractAt := tmpCount s } })

/-- RETRACT_REQ of stage link 0: the spindle is in RETRACT (R98), or a block has requested it. Log entry 23 (DESIGN CHOICE). -/
def retractReq (s : State) : Bool := get Reg.SPN_STAT.STATE s == 11 || (stgOf 0 s).retractReq

/-- The request to retract ends. Log entry 23 (DESIGN CHOICE). -/
def retractEnds (s : State) : State := setStg 0 { stgOf 0 s with retractReq := false } s

/-- The request ends once the spindle is out of RETRACT and both actuators out of RETRACTED; the spec does not say when it falls.
DESIGN CHOICE. Log entry 23 (DESIGN CHOICE). -/
def retractOver (s : State) : State :=
  if get Reg.SPN_STAT.STATE s = 11 ∨ get (Reg.ACT_STAT.STATE 0) s = 7 ∨ get (Reg.ACT_STAT.STATE 1) s = 7 then s else retractEnds s

end Sys2Proof.Machine
end

