-- ==== Sys2Proof/Machine/Actuators.lean ====
section
/-! DEFINITION. 05_dual_actuator_servo.md: the actuators' state machine (R125), seeks (R126 to R130), wedges (R121 to R124, R131),
pairs (R135 to R138), permits over wedges (R140, R141, R143), head load and unload (R144 to R147). -/

namespace Sys2Proof.Machine

/-! ### State changes -/

/-- The heads of an actuator go OFF where its state does not use them (R152). -/
def headsOff (a : Nat) (s : State) : State := (headsOf a).foldl (fun t h => asxOff h t) s

/-- Leaving FOLLOW: WR_OK falls, both permits fall with the soft class and their episodes end (R131, R139, R141). Where PFAIL_N or a lost lock has come first, the
permits fall at the output write (R139, R142). Log entry 208 (DEDUCED). -/
def leaveFollow (a : Nat) (s : State) : State :=
  let t := put (Reg.ACT_STAT.WR_OK a) 0 s
  if s.pins.pfailN = false ∨ (actOf a s).fallPend.isSome then t else endEpisode a 2 (endEpisode a 1 (permitsFall a false 2 t))

/-- The line that a state's entry raises: FOLLOW 0, RESEEK 3, FAULT 4. A row of missed wedges goes on from SEEK to FOLLOW and starts anew in LOADING and RESEEK. -/
def actEntry (a new : Nat) (s : State) : State :=
  if new = 4 then raisePost (160 + 8 * a) a [new] (puts [(Reg.ACT_STAT.LOADED a, 1), (Reg.ACT_STAT.ATTEMPTS a, 0)]
      (setAct a { actOf a s with timeouts := 0, okRow := 0, wrRow := 0 } s))
  else if new = 5 then raisePost (163 + 8 * a) a [new] (setAct a { actOf a s with validRow := 0, missRow := 0 } s)
  else if new = 8 then raisePost (164 + 8 * a) a [new] s
  else if new = 1 then setAct a { actOf a s with validRow := 0, missRow := 0, okRow := 0 } s
  else if new = 2 ∨ new = 3 then setAct a { actOf a s with okRow := 0 } s
  else s

/-- An actuator goes to a state (R125): the transition is recorded; heads go OFF and a pair ends outside SEEK to RESEEK. -/
def actGo (a new : Nat) (s : State) : State :=
  let s1 := if actState a s = 4 ∧ new ≠ 4 then leaveFollow a s else s
  let s2 := postReg (Reg.ACT_STAT.STATE a) a (put (Reg.ACT_STAT.STATE a) new s1)
  let s3 := if new = 0 ∨ new = 1 ∨ 6 ≤ new then headsOff a (put (Reg.ACT_STAT.PAIRED a) 0 s2) else s2
  actEntry a new (setAct a { actOf a s3 with since := tmpCount s } s3)

/-- The heads count as parked: LOADED is 0 (R146). -/
def unloaded (a : Nat) (s : State) : State := put (Reg.ACT_STAT.LOADED a) 0 s

/-! ### Seeks -/

/-- SEEK_GO: a write of ACT_SEEK (R126). With GO it is submitted; in LOADING it is held one deep, in PARKED, UNLOADING, RETRACTED and
FAULT refused (R128). Log entries 199 (DESIGN CHOICE), 200 (DESIGN CHOICE). -/
def execSeekGo (a value : Nat) (s : State) : Out :=
  let t := puts [(Reg.ACT_SEEK.TRACK a, bits value 0 22), (Reg.ACT_SEEK.WRITE a, bits value 24 1),
    (Reg.ACT_SEEK.SHINGLED a, bits value 25 1), (Reg.ACT_SEEK.DIR a, bits value 26 1)] s
  let st := actState a s
  unit a 2 (.next
    (if bits value 31 1 = 0 then t
     else if st = 0 ∨ 6 ≤ st then puts [(Reg.ACT_STAT.REFUSED a, 1), (Reg.ACT_SEEK.GO a, 0)] t
     else if st = 1 then puts [(Reg.ACT_SEEK.GO a, 1), (Reg.ACT_STAT.CMD_PEND a, 1)] (setAct a { actOf a t with goHeld := true } t)
     else put (Reg.ACT_SEEK.GO a) 1 t))

/-- A head that a seek may name: of the actuator and not retired (R127). -/
def headUsable (a h : Nat) (s : State) : Bool := ownHead a h && !isRetired h s

/-- The refusals of R127, and R166 for a write on a head whose retirement is pending. -/
def badTarget (a : Nat) (s : State) : Bool :=
  let h1 := get (Reg.ACT_HEADS.HEAD1 a) s
  let h2 := get (Reg.ACT_HEADS.HEAD2 a) s
  decide (get (Reg.ACT_MAXTRK.MAX a) s < get (Reg.ACT_SEEK.TRACK a) s)
  || !headUsable a h1 s || (h2 != 31 && !headUsable a h2 s) || h2 == h1
  || (get (Reg.ACT_SEEK.WRITE a) s == 1 && get (Reg.ASX_HSTAT.RETIRE_PEND h1) s == 1)

/-- The address of the pair-table entry of the zone (R135). -/
def pairEntryAddr (a : Nat) (s : State) : Nat :=
  2 ^ 32 * get Reg.ACT_PAIR_TBL_HI.ADDR s + 8 * get Reg.ACT_PAIR_TBL_LO.ADDR s + 8 * get (Reg.ACT_ZONE.ZONE a) s

/-- The entry cannot be read, or reads poisoned (R136). -/
def unreadable (addr len : Nat) (s : State) : Bool :=
  (accessCause true addr len false s).isSome || s.poison.contains (addr / 8 * 8)

/-- The pair of the seek registers is eligible (R136, R138 cause 5, R166). -/
def pairEligible (a : Nat) (s : State) : Bool :=
  let p := pairEntryAddr a s
  let h2 := get (Reg.ACT_HEADS.HEAD2 a) s
  !unreadable p 8 s && memNat p 1 s % 32 == h2
  && decide (memNat (p + 1) 1 s + (toInt 8 (memNat (p + 2) 1 s)).natAbs + get (Reg.ACT_PAIR_CFG.MARGIN_NM a) s ≤ 120)
  && get (Reg.ACT_CTL.PAIR_EN a) s == 1 && mode s != 2 && get (Reg.ACT_PAIR_STAT.HOLD a) s == 0
  && get (Reg.ASX_HSTAT.RETIRE_PEND h2) s == 0

/-- A fallback of a paired actuator (R138): PAIRED clears, line 2 and its event, FALLBACKS and the cause, the holdoff starts, head 2's
stream stops and its permit falls; ZMG gets the first sector that head 2 has not transferred. Log entry 209 (DEDUCED). -/
def pairFallback (a cause : Nat) (s : State) : State :=
  let n := streamOf a 2 s
  let t0 := markUnwritten n (permitFall a 2 false 2 0 s)
  let t := if get (Reg.HCH_STAT.BUSY n) s = 1 then { t0 with zmg := { t0.zmg with requeue := t0.zmg.requeue ++ (hchOf n s).nextSec.toList } } else t0
  raisePost (162 + 8 * a) a [cause]
    (puts [(Reg.ACT_STAT.PAIRED a, 0), (Reg.ACT_PAIR_STAT.CAUSE a, cause),
      (Reg.ACT_PAIR_STAT.HOLD a, get (Reg.ACT_PAIR_CFG.HOLDOFF a) s), (Reg.HCH_STAT.BUSY n, 0), (Reg.HCH_STAT.WRITING n, 0)]
      (bump (Reg.ACT_PAIR_STAT.FALLBACKS a)
        (setAct a { actOf a t with head2 := 31, satRow := 0, missRow2 := 0, drops2 := [], uaSum := 0, uaN := 0, driftPend := false, unpairPend := false
                                   holdAt := (actOf a s).wedges }
          (asxOff (headOf a 2 s) t))))

/-- The assist of a head that a taken GO names (R152): READ for a read, PREBIAS for a write unless it is forced off or retiring; a retired head stays OFF (R167). Log entry 205 (DEDUCED). -/
def assistGo (write : Bool) (s : State) (h : Nat) : State :=
  let st := asxState h s
  let s1 := if st = 0 then setAsx h { asxOf h s with fhRamp := 0 } (asxGo h 1 s) else s
  if isRetired h s then s
  else if asxState h s1 = 0 ∨ 4 < asxState h s1 then s1
  else if !write then asxGoIf (· != 1) h 1 s1
  else if get (Reg.ASX_HCTL.FORCE_OFF h) s = 1 ∨ get (Reg.ASX_HSTAT.RETIRE_PEND h) s = 1 then s1
  else asxGo h 2 s1

/-- The record of a taken seek (R126, R130, R136). Log entry 38 (DEDUCED). -/
def seekRecord (a : Nat) (paired : Bool) (s : State) : ActSt :=
  let r := actOf a s
  let w := get (Reg.ACT_SEEK.WRITE a) s == 1
  let trk := get (Reg.ACT_SEEK.TRACK a) s
  { r with head1 := get (Reg.ACT_HEADS.HEAD1 a) s
           head2 := if paired then get (Reg.ACT_HEADS.HEAD2 a) s else 31
           track := trk
           track2 := (trk : Int) + (if paired then toInt 16 (memNat (pairEntryAddr a s + 4) 2 s) else 0)
           zone := get (Reg.ACT_ZONE.ZONE a) s
           write := w, shingled := get (Reg.ACT_SEEK.SHINGLED a) s == 1, dirIn := get (Reg.ACT_SEEK.DIR a) s == 1
           ofs1 := if w then 0 else toInt 8 (get (Reg.ACT_HEADS.OFS1 a) s)
           ofs2 := if w then 0 else toInt 8 (get (Reg.ACT_HEADS.OFS2 a) s)
           goHeld := false, newTarget := true, timeouts := 0
           takenAt := some (tmpCount s)
           stale1 := get (Reg.ACT_HEADS.HEAD1 a) s != r.head1
           stale2 := paired && get (Reg.ACT_HEADS.HEAD2 a) s != r.head2
           seen1 := if get (Reg.ACT_HEADS.HEAD1 a) s = r.head1 then r.seen1 else []
           seen2 := if paired = true ∧ get (Reg.ACT_HEADS.HEAD2 a) s = r.head2 then r.seen2 else []
           satRow := 0, missRow2 := 0, drops2 := [], uaSum := 0, uaN := 0, driftPend := false, unpairPend := false }

/-- A GO for a single head ends a pair without a fallback: what was counted for the pair is over (R138). Log entry 162 (DEDUCED). -/
def pairEnds (a : Nat) (s : State) : State :=
  setAct a { actOf a s with satRow := 0, missRow2 := 0, drops2 := [], driftPend := false, unpairPend := false } s

/-- A GO is taken (R126 to R130, R136, R139, R152). Log entries 38 (DEDUCED), 162 (DEDUCED). -/
def takeSeek (a : Nat) (s : State) : State :=
  if badTarget a s then puts [(Reg.ACT_STAT.BAD_TGT a, 1), (Reg.ACT_SEEK.GO a, 0)] s
  else
    let wants := get (Reg.ACT_HEADS.HEAD2 a) s != 31
    let ok := wants && pairEligible a s
    let cause := if mode s = 2 then 7 else 5
    let s1 := if get (Reg.ACT_STAT.PAIRED a) s = 1 ∧ !ok then (if wants then pairFallback a cause s else pairEnds a s) else s
    let s2 := endEpisode a 2 (endEpisode a 1 (permitsFall a false 2 s1))
    let s3 := setAct a (seekRecord a ok s) (setAct a (actOf a s2) s2)
    let s4 := puts [(Reg.ACT_SEEK.GO a, 0), (Reg.ACT_STAT.PAIRED a, b2n ok)] s3
    let s5 := putIf (wants = true ∧ ok = false) (Reg.ACT_PAIR_STAT.CAUSE a) cause s4
    let s6 := actGo a 2 s5
    let heads := (actOf a s6).head1 :: (if ok then [(actOf a s6).head2] else [])
    let s7 := ((headsOf a).filter (fun h => !heads.contains h)).foldl (fun t h => asxOff h t) s6
    heads.foldl (assistGo (get (Reg.ACT_SEEK.WRITE a) s == 1)) s7

/-- SEEK_TAKE: at cycle 0 of the actuator's next service tempo, in SEEK, SETTLE or FOLLOW (R126). Log entry 199 (DESIGN CHOICE). -/
def execSeekTake (a : Nat) (s : State) : Out :=
  unit a 2 (occurs (get (Reg.ACT_SEEK.GO a) s = 1 ∧ 2 ≤ actState a s ∧ actState a s ≤ 4 ∧ isService a s = true) (takeSeek a s) s)

/-! ### Wedges -/

/-- The track and the offset in 1/256 track that head k follows (R126, R130, R136). -/
def headTarget (a k : Nat) (s : State) : Int × Int :=
  let r := actOf a s
  if k = 1 then ((r.track : Int), r.ofs1) else (r.track2, r.ofs2)

/-- A head's position in 1/4,096 track, after the RRO field while RRO_EN is 1 (R121). -/
def wedgePos (a : Nat) (w : HeadWedge) (s : State) : Int :=
  4096 * (w.track : Int) + w.fine - (if get (Reg.ACT_DEMOD_CFG.RRO_EN a) s = 1 then 16 * w.rro else 0)

/-- The error of head k's wedge against its target in 1/4,096 track (R121, R130). -/
def wedgeErr (a k : Nat) (w : HeadWedge) (s : State) : Int :=
  wedgePos a w s - (4096 * (headTarget a k s).1 + 16 * (headTarget a k s).2)

/-- The SAM is found (R121): within ±SAM_WIN cells, in LOADING and RESEEK anywhere in the wedge period. -/
def samFound (a : Nat) (w : HeadWedge) (s : State) : Bool :=
  match w.sam with
  | none => false
  | some c => actState a s == 1 || actState a s == 5 || decide (c.natAbs ≤ get (Reg.ACT_DEMOD_CFG.SAM_WIN a) s)

/-- The decoded track differs by more than n tracks from the one predicted from the last two valid wedges, a row of (wedge count, track), newest first, at a wedge
count (R122). Log entry 203 (DEDUCED). -/
def offPrediction (n at' track : Nat) : List (Nat × Nat) → Bool
  | p :: q :: _ =>
    let d : Int := (p.1 : Int) - q.1
    decide ((n : Int) * d < (((track : Int) * d - ((p.2 : Int) * d + ((p.2 : Int) - q.2) * ((at' : Int) - p.1))).natAbs : Int))
  | _ => false

/-- The valid wedges of head k that the prediction uses. -/
def seenBy (k : Nat) (r : ActSt) : List (Nat × Nat) := if k = 1 then r.seen1 else r.seen2

/-- The decoded track lies too far from the predicted one (R122): 8 tracks in SETTLE and FOLLOW, 512 in SEEK. -/
def trackJump (a k : Nat) (w : HeadWedge) (s : State) : Bool :=
  let st := actState a s
  let off (n : Nat) : Bool := offPrediction n ((actOf a s).wedges + 1) w.track (seenBy k (actOf a s))
  if st = 3 ∨ st = 4 then off 8 else if st = 2 then off 512 else false

/-- The wedge number is not the expected one (R122); none is expected before a first wedge of a load. Log entry 202 (DEDUCED). -/
def wrongNumber (a : Nat) (w : HeadWedge) (s : State) : Bool :=
  match (actOf a s).nextNo with
  | none => false
  | some e => w.wedge != e

/-- Some samples of a wedge are missing (R175): lost ones between its first and its last, counted modulo 2²⁴. Log entry 218 (DEDUCED). -/
def inGap (w : HeadWedge) (g : Nat × Nat) : Bool :=
  decide ((g.1 + 2 ^ 24 - w.first % 2 ^ 24) % 2 ^ 24 ≤ (w.last + 2 ^ 24 - w.first % 2 ^ 24) % 2 ^ 24)
  || decide ((w.first + 2 ^ 24 - g.1 % 2 ^ 24) % 2 ^ 24 < g.2)

/-- No samples of head k's wedge have come (R175 to R177): the link is down, in single-lane mode for head 2, or has lost blocks of it. -/
def noSamples (a k : Nat) (w : HeadWedge) (s : State) : Bool :=
  get (Reg.HLK_STAT.UP a) s == 0 || (k == 2 && get (Reg.HLK_STAT.SINGLE a) s == 1) || ((hlkOf a s).gaps.getD (k - 1) []).any (inGap w)

/-- A head's wedge is missed (R122, R175 to R177). -/
def wedgeMissed (a k : Nat) (w : HeadWedge) (s : State) : Bool :=
  noSamples a k w s || !samFound a w s || !w.parityOk || wrongNumber a w s || decide (w.burst < get (Reg.ACT_DEMOD_CFG.QMIN a) s) || trackJump a k w s

/-- The number of the wedge that comes next: in LOADING and RESEEK the one that is read counts on. Log entry 202 (DEDUCED). -/
def nextNumber (a : Nat) (w : HeadWedge) (s : State) : Option Nat :=
  let e := (actOf a s).nextNo.map (fun n => (n + 1) % 400)
  if (actState a s = 1 ∨ actState a s = 5 ∨ e = none) ∧ samFound a w s = true ∧ w.parityOk = true then some ((w.wedge + 1) % 400) else e

/-- The valid wedges after one more. -/
def seenNow (missed : Bool) (at' track : Nat) (l : List (Nat × Nat)) : List (Nat × Nat) := if missed then l else ((at', track) :: l).take 2

/-- The value of a wedge slot in units of 1/512 track (R123), and a PES as a fraction of a track, saturated. -/
def slot512 (err : Int) : Int := roundOpen err 8
def slotPes (err : Int) : Int := satTo 32 (err * 2 ^ 19)
def slotQuality (burst : Nat) : Int := satTo 32 ((burst : Int) * 2 ^ 23)

/-- The wedge slots of the actuator's engine but slot 5 (R123), which the latch gives. -/
def wedgeSlots (a : Nat) (w : WedgeObs) (miss1 miss2 : Bool) (s : State) : AMap Int :=
  let e1 := wedgeErr a 1 w.h1 s
  let e2 := wedgeErr a 2 w.h2 s
  let l1 := if miss1 then [] else [(0, slot512 e1), (1, slotPes e1)]
  let l2 := if miss2 then [] else [(2, slot512 e2), (3, slotPes e2)]
  let l3 := if miss1 then [] else [(4, slot512 (wedgePos a w.h1 s)), (6, slotQuality w.h1.burst)]
  let l7 := if miss2 then [] else [(7, slotQuality w.h2.burst)]
  l1 ++ l2 ++ l3 ++ l7

/-- An error lies beyond the thresholds of R140. -/
def pesUnsafe (a : Nat) (err : Int) (s : State) : Bool :=
  let r := actOf a s
  if r.shingled then
    let t := if r.dirIn then err else -err
    decide (16 * (get (Reg.ACT_WUS.TOWARD a) s : Int) < t) || decide (16 * (get (Reg.ACT_WUS.AWAY a) s : Int) < -t)
  else decide (16 * (get (Reg.ACT_WUS.CONV a) s : Int) < (err.natAbs : Int))

/-- One more of a row of consecutive wedges, or none. -/
def row (c : Bool) (n : Nat) : Nat := if c then n + 1 else 0

/-- An episode's peak toward the written neighbour takes in a wedge's error. -/
def growPeak (r : ActSt) (err : Int) : Option Episode → Option Episode
  | none => none
  | some e => some (if towardPeak r.shingled r.dirIn e.peak < towardPeak r.shingled r.dirIn err then { e with peak := err } else e)

/-- What a wedge leaves in any case: the count, the number that comes next, the last two valid wedges of each head (R122). -/
def actSeen (a : Nat) (miss1 miss2 : Bool) (w : WedgeObs) (s : State) : ActSt :=
  let r := actOf a s
  { r with wedges := r.wedges + 1, nextNo := nextNumber a w.h1 s
           seen1 := seenNow miss1 (r.wedges + 1) w.h1.track r.seen1, seen2 := seenNow miss2 (r.wedges + 1) w.h2.track r.seen2 }

/-- The rows of consecutive wedges after a wedge (R125, R131, R138, R141); `two` tells that head 2 is read. -/
def actRows (a : Nat) (two miss1 miss2 : Bool) (e1 e2 : Int) (s : State) : ActSt :=
  let r := actOf a s
  let within (e : Int) (thr : Nat) : Bool := decide (e.natAbs ≤ 16 * thr)
  { r with
      validRow := row (!miss1) r.validRow, missRow := row miss1 r.missRow, missRow2 := row (two && miss2) r.missRow2
      okRow := row (!miss1 && within e1 (get (Reg.ACT_SETTLE.RD_THR a) s)) r.okRow
      wrRow := row (!miss1 && within e1 (get (Reg.ACT_SETTLE.WR_THR a) s)) r.wrRow
      good1 := row (!miss1 && !pesUnsafe a e1 s) r.good1
      good2 := row (!miss2 && !pesUnsafe a e2 s) r.good2
      episode1 := if miss1 then r.episode1 else growPeak r e1 r.episode1
      episode2 := if miss2 then r.episode2 else growPeak r e2 r.episode2
      drops2 := r.drops2.filter (fun t => decide (r.wedges < t + 400)) }

/-- A wedge end in ns after the last boundary (R124, R173): from the samples since the latched RHDR's count, at the rate of head 1's stream. Log entry 218 (DEDUCED). -/
def wedgeEnd (a : Nat) (w : HeadWedge) (s : State) : Int :=
  roundOpen (toInt 24 ((w.last + 2 ^ 24 - (hlkOf a s).counts.1) % 2 ^ 24) * 1000) (get (Reg.HCH_STAT.RATE (streamOf a 1 s)) s)
    - 5000 * ((tmpCount s : Int) - (hlkOf a s).countAt)

/-- The same against the nearest boundary (R124), and after the last boundary that started phase 0 (R105). -/
def wedgeTime (a : Nat) (w : HeadWedge) (s : State) : Int :=
  let e := wedgeEnd a w s % 5000
  if 2500 < e then e - 5000 else e
def wedgePhase (a : Nat) (w : HeadWedge) (s : State) : Int := wedgeEnd a w s + 5000 * get Reg.TMP_PHASE.PHASE s

/-- The fields that a wedge leaves in the registers (R122 to R124). -/
def wedgeRegs (a : Nat) (w : WedgeObs) (miss1 miss2 two : Bool) (s : State) : State :=
  let s1 := if miss1 then bump (Reg.ACT_CNT.MISSED a) s else put (Reg.ACT_PES.PES1 a) (ofInt 16 (satTo 16 (wedgeErr a 1 w.h1 s))) s
  let s2 := if !two then s1 else if miss2 then bump (Reg.ACT_CNT.MISSED a) s1
    else put (Reg.ACT_PES.PES2 a) (ofInt 16 (satTo 16 (wedgeErr a 2 w.h2 s))) s1
  puts [(Reg.ACT_WEDGE_TIME.WEDGE a, (actOf a s).nextNo.getD w.h1.wedge), (Reg.ACT_WEDGE_TIME.VALID a, b2n (!miss1)),
    (Reg.ACT_WEDGE_TIME.ERR a, if miss1 then get (Reg.ACT_WEDGE_TIME.ERR a) s else ofInt 16 (wedgeTime a w.h1 s))] s2

/-- Head k's permit falls on a missed wedge or an unsafe error (R139, R140). -/
def wedgeFall (a k : Nat) (missed : Bool) (err : Int) (s : State) : State :=
  if missed then permitFall a k false 1 0 s else if pesUnsafe a err s then permitFall a k false 0 err s else s

/-- Head k's permit rises after a wedge once it may (R141). -/
def wedgeRise (a k : Nat) (missed : Bool) (err : Int) (s : State) : State :=
  if missed = false ∧ pesUnsafe a err s = false ∧ get (permitFld a k) s = 0 ∧ permitMayRise a k s = true then permitRise a k s else s

/-- A read sector over this wedge is flagged off-track (R143). Log entry 39 (DEDUCED). -/
def flagOffTrack (a k : Nat) (err : Int) (s : State) : State :=
  let n := streamOf a k s
  if 16 * get (Reg.ACT_WUS2.RUS a) s < err.natAbs ∧ (actOf a s).write = false then setHch n { hchOf n s with offTrack := true } s else s

/-- Head 2's microactuator field as sent, in fractions of 2 to the 15 (R89, R527), clamped to UA_LIM (R133). -/
def uaField (a k : Nat) (s : State) : Int :=
  let lim : Int := get (Reg.ACT_UA_LIM.LIM (headOf a k s)) s
  let v := toInt 16 (linkSigned (AMap.getD (ceOf a s).out k 0))
  max (-lim) (min v lim)

/-- The fallback watch of a paired actuator over a wedge (R138 causes 1 and 3): the saturation row, the sum of a revolution from the pair's start on. -/
def pairRows (a : Nat) (s : State) : State :=
  let r := actOf a s
  let lim := get (Reg.ACT_UA_LIM.LIM r.head2) s
  let u := uaField a 2 s
  let sum := r.uaSum + u
  let rev := r.uaN + 1 == 400
  let drift := rev && decide (256 * sum.natAbs > 400 * get (Reg.ACT_PAIR_CFG.DRIFT a) s * lim)
  setAct a { r with satRow := row (decide (lim ≤ u.natAbs)) r.satRow, uaSum := if rev then 0 else sum, uaN := if rev then 0 else r.uaN + 1
                    driftPend := r.driftPend || drift } s

/-- The fallback that a wedge brings about, if any (R138). -/
def pairWatch (a : Nat) (trackEnd : Bool) (s : State) : State :=
  if get (Reg.ACT_STAT.PAIRED a) s = 0 then s
  else
    let t := pairRows a s
    let r := actOf a t
    if max 1 (get (Reg.ACT_PAIR_CFG.SAT_N a) s) ≤ r.satRow then pairFallback a 1 t
    else if 2 ≤ r.missRow2 then pairFallback a 2 t
    else if 2 ≤ r.drops2.length then pairFallback a 4 t
    else if r.driftPend && trackEnd then pairFallback a 3 t
    else t

/-- The holdoff counts revolutions from the fallback on (R138). -/
def holdoff (a : Nat) (s : State) : State :=
  let r := actOf a s
  if r.holdAt < r.wedges ∧ (r.wedges - r.holdAt) % 400 = 0 then put (Reg.ACT_PAIR_STAT.HOLD a) (get (Reg.ACT_PAIR_STAT.HOLD a) s - 1) s else s

/-- The state changes that a wedge brings about (R125, R131, R146): SEEK to SETTLE within 1 track, FOLLOW to SETTLE beyond it, RESEEK to SEEK
after 2 valid wedges; WR_OK in FOLLOW after WR_N wedges; in UNLOADING the ramp move starts at the ramp track. Log entry 206 (DEDUCED). -/
def wedgeState (a : Nat) (miss1 : Bool) (e1 : Int) (s : State) : State :=
  let st := actState a s
  if miss1 then s
  else if st = 2 ∧ e1.natAbs ≤ 4096 then actGo a 3 s
  else if st = 4 ∧ 4096 < e1.natAbs then actGo a 3 s
  else if st = 5 ∧ 2 ≤ (actOf a s).validRow then actGo a 2 s
  else if st = 4 ∧ get (Reg.ACT_SETTLE.WR_N a) s ≤ (actOf a s).wrRow then put (Reg.ACT_STAT.WR_OK a) 1 s
  else if st = 6 ∧ e1.natAbs ≤ 4096 then setAct a { actOf a s with ramp := true } s
  else s

/-- A wedge-end time in ns against the nearest boundary that starts phase 0 (R105): within ± K · 2.5 µs. -/
def phaseErr (t : Int) (s : State) : Int :=
  let p : Int := 5000 * get Reg.TMP_PHASE.K s
  let e := t % p
  if 2 * e ≤ p then e else e - p

/-- The speed trim of the phase loop in ppm, at most 0.5 % either way (R105); it is CE2's while a phase lock is attempted. Log entry 192 (DESIGN CHOICE). -/
def trimFor (err : Int) (s : State) : Int :=
  if get Reg.SPN_STAT.STATE s = 7 ∧ 1 ≤ get Reg.SPN_STAT.LOCK s then max (-5000) (min 5000 (Config.phaseTrim err s.spn.trim)) else s.spn.trim

/-- The wedge-end error goes to the spindle phase lock and to CE2 (R105, R106). Log entry 196 (DESIGN CHOICE). -/
def feedLock (err : Int) (s : State) : State :=
  let r := s.spn
  let m := err.natAbs
  let t := arrive 2 29 err (puts [(Reg.SPN_PHERR.ERR, ofInt 16 err), (Reg.SPN_PHERR.PEAK, min 65535 (max m (get Reg.SPN_PHERR.PEAK s)))] s)
  { t with spn := { r with lockRow := row (decide (m ≤ 100)) r.lockRow, errRow := row (decide (200 < m)) r.errRow
                           missRow := 0, aMissed := false, trim := trimFor err s } }

/-- A wedge for which no actuator supplies a time (R106). -/
def missLock (s : State) : State :=
  { s with spn := { s.spn with lockRow := 0, missRow := s.spn.missRow + 1, aMissed := false } }

/-- An actuator supplies wedge times: its heads are loaded and demodulated (R106, R121). Log entry 163 (DEDUCED). -/
def supplies (a : Nat) (s : State) : Bool := get (Reg.ACT_STAT.LOADED a) s == 1 && decide (1 ≤ actState a s) && decide (actState a s ≤ 6)

/-- A wedge of actuator A gives the phase lock its time, or B's less half a wedge period where A has no head loaded or misses the wedge (R106). -/
def spindleWedge (a : Nat) (miss1 : Bool) (endNs : Int) (s : State) : State :=
  let other := supplies (1 - a) s
  if a = 0 then
    if !miss1 then feedLock (phaseErr endNs s) s
    else if other then { s with spn := { s.spn with aMissed := true } } else missLock s
  else if s.spn.aMissed || !other then
    if miss1 then missLock s else feedLock (phaseErr (endNs - 2500 * get Reg.TMP_PHASE.K s) s) s
  else s

/-- What a wedge decides (R125, R131, R138 to R143): falls of the permits first, then the state, then their rises. -/
def wedgeActs (a : Nat) (two miss1 miss2 : Bool) (e1 e2 : Int) (trackEnd : Bool) (s : State) : State :=
  let s1 := flagOffTrack a 1 e1 (setAct a (actRows a two miss1 miss2 e1 e2 s) s)
  let s2 := if two then flagOffTrack a 2 e2 s1 else s1
  let s3 := wedgeFall a 1 miss1 e1 s2
  let s4 := if two then wedgeFall a 2 miss2 e2 s3 else s3
  let s5 := wedgeRise a 1 miss1 e1 (wedgeState a miss1 e1 s4)
  let s6 := if two then wedgeRise a 2 miss2 e2 s5 else s5
  holdoff a (pairWatch a trackEnd s6)

/-- Everything that a demodulated wedge does (R121 to R124, R126). A wedge that ends in the tempo of a take was read with the heads before it: where head 1 has
changed it decides nothing, and where head 2 has, head 2 has no wedge. Log entry 204 (DEDUCED). -/
def wedgeDemod (a : Nat) (w : WedgeObs) (s : State) : State :=
  let r := actOf a s
  let old := r.takenAt == some (tmpCount s)
  let two := r.head2 != 31 && !(old && r.stale2)
  let miss1 := wedgeMissed a 1 w.h1 s
  let miss2 := !two || wedgeMissed a 2 w.h2 s
  let stale := old && r.stale1
  let s1 := arriveWedge a (wedgeSlots a w miss1 miss2 s) (wedgeRegs a w miss1 miss2 two s)
  let s2 := spindleWedge a miss1 (wedgePhase a w.h1 s) (setAct a (actSeen a (miss1 || stale) miss2 w s) s1)
  if stale then s2 else wedgeActs a two miss1 miss2 (wedgeErr a 1 w.h1 s) (wedgeErr a 2 w.h2 s) w.trackEnd s2

/-- WEDGE_DEMOD_COMPLETE: 1.500 µs after a wedge end, while the heads are off the ramp (R121). -/
def execWedgeDemodComplete (a : Nat) (w : WedgeObs) (s : State) : Out :=
  unit a 2 (occurs (1 ≤ actState a s ∧ actState a s ≤ 6) (wedgeDemod a w s) s)

/-! ### Load and unload -/

/-- The next head of an actuator, in head order, that is not retired (R145). -/
def nextHead (a h : Nat) (s : State) : Nat :=
  (((headsOf a).filter (fun x => decide (h < x))) ++ headsOf a).find? (fun x => !isRetired x s && x != h) |>.getD h

/-- A load is taken (R144): LOADING with an acquisition head selected; one that is retired gives way to the next head (R167). Log entries 200 (DESIGN CHOICE), 205 (DEDUCED). -/
def startLoad (a head : Nat) (s : State) : State :=
  let h := if isRetired head s then nextHead a head s else head
  actGo a 1 (puts [(Reg.ACT_CTL.LOAD a, 0), (Reg.ACT_STAT.CMD_PEND a, b2n (actOf a s).goHeld)]
    (setAct a { actOf a s with loadHeld := false, retry := false, acqHead := h, head1 := h, head2 := 31, nextNo := none, seen1 := [], seen2 := []
                               loadN := 0, vcmV := 0, vcmI := 0 } s))

/-- A held LOAD is taken once the actuator is PARKED and the spindle in RUN (R144, R146). -/
def takeHeldLoad (a : Nat) (s : State) : State :=
  if (actOf a s).loadHeld ∧ actState a s = 0 ∧ get Reg.SPN_STAT.STATE s = 7 then startLoad a (get (Reg.ACT_LOAD.HEAD a) s) s else s

/-- A LOAD that cannot be taken yet is held (R144). -/
def holdLoad (a : Nat) (s : State) : State :=
  puts [(Reg.ACT_CTL.LOAD a, 0), (Reg.ACT_STAT.CMD_PEND a, 1)] (setAct a { actOf a s with loadHeld := true } s)

/-- ACT_LOAD: ACT_CTL.LOAD is written 1 (R144, R146): held while the spindle is in any state but RUN; in RUN taken in PARKED, held in UNLOADING and
refused in the other states. Log entry 201 (DESIGN CHOICE). -/
def execActLoad (a : Nat) (s : State) : Out :=
  let st := actState a s
  unit a 2 (.next
    (if get Reg.SPN_STAT.STATE s ≠ 7 ∨ st = 6 then holdLoad a s
     else if st = 0 then startLoad a (get (Reg.ACT_LOAD.HEAD a) s) s
     else puts [(Reg.ACT_CTL.LOAD a, 0), (Reg.ACT_STAT.REFUSED a, 1)] s))

/-- An unload is taken (R146): a seek to the ramp track; `lost` where no position is held, and the ramp move starts at once. Log entry 206 (DEDUCED). -/
def startUnload (lost : Bool) (a : Nat) (s : State) : State :=
  let k := get (Reg.ACT_UNLOAD.RAMP_TRK a) s
  let t := actGo a 6 (put (Reg.ACT_CTL.UNLOAD a) 0 s)
  setAct a { actOf a t with track := k, track2 := k, ofs1 := 0, ofs2 := 0, newTarget := true, ramp := lost, lowRow := 0 } t

/-- ACT_LOAD_ACQUIRED: 4 consecutive valid wedges of the acquisition head end LOADING with a seek to HOME or the held target (R125, R128). Log entry 200 (DESIGN CHOICE). -/
def loadAcquired (a : Nat) (s : State) : State :=
  let r := actOf a s
  let t := actGo a 2 (put (Reg.ACT_STAT.CMD_PEND a) 0
    (setAct a { r with track := get (Reg.ACT_LOAD.HOME a) s, track2 := get (Reg.ACT_LOAD.HOME a) s, head1 := r.acqHead, write := false
                       goHeld := false, ofs1 := 0, ofs2 := 0, timeouts := 0 } s))
  let u := assistGo false t r.acqHead
  let v := if r.goHeld then takeSeek a u else u
  if get (Reg.ACT_CTL.UNLOAD a) s = 1 then startUnload false a v else v

def execActLoadAcquired (a : Nat) (s : State) : Out :=
  unit a 2 (occurs (actState a s = 1 ∧ 4 ≤ (actOf a s).validRow) (loadAcquired a s) s)

/-- ACT_LOAD_TIMEOUT: LOAD_TMO has elapsed in LOADING (R125): UNLOADING, with a retry pending while ATTEMPTS is below 2, a fault pending
otherwise. -/
def execActLoadTimeout (a : Nat) (s : State) : Out :=
  let again := decide (get (Reg.ACT_STAT.ATTEMPTS a) s < 2)
  unit a 2 (occurs (actState a s = 1 ∧ tempos (10 * get (Reg.ACT_LU_CFG.LOAD_TMO a) s) ≤ tmpCount s - (actOf a s).since)
    (startUnload true a (setAct a { actOf a s with retry := again, faultPend := !again || (actOf a s).faultPend } s)) s)

/-- ACT_SETTLE_DONE: RD_N consecutive valid wedges within RD_THR (R125). -/
def execActSettleDone (a : Nat) (s : State) : Out :=
  unit a 2 (occurs (actState a s = 3 ∧ get (Reg.ACT_SETTLE.RD_N a) s ≤ (actOf a s).okRow) (actGo a 4 s) s)

/-- ACT_SETTLE_TIMEOUT: TMO_MS has elapsed in SETTLE (R125): a seek to the same target, at the third in a row an unload with a fault. -/
def execActSettleTimeout (a : Nat) (s : State) : Out :=
  let r := actOf a s
  unit a 2 (occurs (actState a s = 3 ∧ tempos (get (Reg.ACT_SETTLE.TMO_MS a) s) ≤ tmpCount s - r.since)
    (if 2 ≤ r.timeouts then startUnload false a (setAct a { r with timeouts := 0, faultPend := true } s)
     else actGo a 2 (setAct a { r with timeouts := r.timeouts + 1 } s)) s)

/-- ACT_RESEEK_ENTRY: MISS_RESEEK consecutive head-1 wedges missed in SEEK, SETTLE or FOLLOW (R125). -/
def execActReseekEntry (a : Nat) (s : State) : Out :=
  unit a 2 (occurs (2 ≤ actState a s ∧ actState a s ≤ 4 ∧ 1 ≤ (actOf a s).missRow
      ∧ get (Reg.ACT_DEMOD_CFG.MISS_RESEEK a) s ≤ (actOf a s).missRow)
    (actGo a 5 s) s)

/-- ACT_RESEEK_FAULT: RESEEK_FAULT consecutive wedges missed in RESEEK (R125). -/
def execActReseekFault (a : Nat) (s : State) : Out :=
  unit a 2 (occurs (actState a s = 5 ∧ get (Reg.ACT_DEMOD_CFG.RESEEK_FAULT a) s ≤ (actOf a s).missRow)
    (startUnload true a (setAct a { actOf a s with faultPend := true } s)) s)

/-- ACT_UNLOAD: ACT_CTL.UNLOAD is written 1 (R125, R146): taken in SEEK to RESEEK, without effect in PARKED; it stays set elsewhere. -/
def execActUnload (a : Nat) (s : State) : Out :=
  let st := actState a s
  unit a 2 (.next
    (if 2 ≤ st ∧ st ≤ 5 then startUnload (st == 5) a s
     else if st = 0 then put (Reg.ACT_CTL.UNLOAD a) 0 s
     else put (Reg.ACT_CTL.UNLOAD a) 1 s))

/-- The heads have reached the ramp (R125): a retry, a fault, or PARKED, where a held LOAD is taken. -/
def parked (a : Nat) (s : State) : State :=
  let r := actOf a s
  let t := put (Reg.ACT_CTL.UNLOAD a) 0 (unloaded a s)
  if r.retry then startLoad a (nextHead a r.acqHead s) (bump (Reg.ACT_STAT.ATTEMPTS a) t)
  else if r.faultPend then actGo a 8 (setAct a { actOf a t with faultPend := false } t)
  else takeHeldLoad a (actGo a 0 t)

/-- ACT_PARKED: |back-EMF| below 2 mV for 2,000 tempos in UNLOADING (R146). -/
def execActParked (a : Nat) (s : State) : Out := unit a 2 (occurs (actState a s = 6 ∧ 2000 ≤ (actOf a s).lowRow) (parked a s) s)

/-- The back-EMF of an actuator's VCM in 1/32,768 of the voltage full scale times the measured current sum (R144): V · ΣI − ΣV · I, R being ΣV ÷ ΣI. Log entry 207 (DESIGN CHOICE). -/
def vcmEmf (v i : Int) (r : ActSt) : Int := v * r.vcmI - r.vcmV * i

/-- The back-EMF is below 2 mV (R146). -/
def emfLow (v i : Int) (r : ActSt) : Bool := decide ((vcmEmf v i r).natAbs * Config.vcmVolts < 2 * 32768 * r.vcmI.natAbs)

/-- The back-EMF that the load and ramp moves are to keep, in mV, inward positive (R144, R146): none while the resistance is measured. Log entry 207 (DESIGN CHOICE). -/
def emfTarget (a : Nat) (s : State) : Int :=
  let r := actOf a s
  if actState a s = 1 ∧ 1000 ≤ r.loadN then get (Reg.ACT_LU_CFG.LOAD_MV a) s
  else if actState a s = 6 ∧ r.ramp = true then -(get (Reg.ACT_LU_CFG.UNLOAD_MV a) s : Int) else 0

/-- An actuator's share of a return frame of stage 0 (R144, R146): the resistance over the first 1,000 tempos of a load, the row of low back-EMF in UNLOADING,
and the engine's slots 37 and 38: back-EMF and its target. Log entry 207 (DESIGN CHOICE). -/
def actReturn (words : List Nat) (a : Nat) (s : State) : State :=
  let r := actOf a s
  let i := toInt 16 (words.getD (9 + a) 0 % 65536)
  let v := toInt 16 (words.getD (11 + a) 0 % 65536)
  let q := if actState a s = 1 ∧ r.loadN < 1000 then { r with loadN := r.loadN + 1, vcmV := r.vcmV + v, vcmI := r.vcmI + i }
    else if actState a s = 6 then { r with lowRow := row (emfLow v i r) r.lowRow } else r
  let e := satTo 32 (roundOpen (vcmEmf v i r * 65536 * r.vcmI.sign) r.vcmI.natAbs)
  arrive a 38 (emfTarget a s) (arrive a 37 e (setAct a q s))

/-- ACT_UNLOAD_TIMEOUT: UNLOAD_TMO has elapsed in UNLOADING (R125): RETRACTED with RETRACT_REQ and a fault pending. -/
def execActUnloadTimeout (a : Nat) (s : State) : Out :=
  unit a 2 (occurs (actState a s = 6 ∧ tempos (10 * get (Reg.ACT_LU_CFG.UNLOAD_TMO a) s) ≤ tmpCount s - (actOf a s).since)
    (actGo a 7 (setAct a { actOf a s with faultPend := true } (requestRetract s))) s)

/-- The stage's own retract, PFAIL_N or the safe state of stage 0 (R125). -/
def retractSeen (s : State) : Bool :=
  ((stgOf 0 s).words.getD 2 0).testBit 7 || !s.pins.pfailN || (stgOf 0 s).safe

/-- ACT_RETRACTED: the heads are retracted, or the actuator's engine has failed unreplaced in states 1 to 6 (R125). -/
def execActRetracted (a : Nat) (s : State) : Out :=
  let st := actState a s
  unit a 2 (.next
    (if st ≤ 6 ∧ retractSeen s = true then actGo a 7 s
     else if 1 ≤ st ∧ st ≤ 6 ∧ engineDrives a s = false then
       actGo a 7 (setAct a { actOf a s with faultPend := true } (requestRetract s))
     else s))

/-- ACT_RETRACT_DONE: RETRACT_DONE with PFAIL_N high leaves RETRACTED (R125). -/
def execActRetractDone (a : Nat) (s : State) : Out :=
  let r := actOf a s
  unit a 2 (occurs (actState a s = 7 ∧ (stgOf 0 s).retractDone = true ∧ s.pins.pfailN = true)
    (if r.faultPend then retractOver (actGo a 8 (setAct a { r with faultPend := false } (unloaded a s)))
     else takeHeldLoad a (retractOver (actGo a 0 (unloaded a s)))) s)

/-- ACT_CLR: ACT_CTL.CLR leaves FAULT for PARKED and clears ATTEMPTS (R125). -/
def execActClr (a : Nat) (s : State) : Out :=
  let t := puts [(Reg.ACT_CTL.CLR a, 0), (Reg.ACT_STAT.ATTEMPTS a, 0)] s
  unit a 2 (.next (if actState a s = 8 then takeHeldLoad a (actGo a 0 t) else t))

/-- ACT_UNPAIR: fallback cause 6, at the end of the sector that head 2's stream has in progress (R138). Log entry 40 (DEDUCED). -/
def execActUnpair (a : Nat) (s : State) : Out :=
  unit a 2 (occurs (get (Reg.ACT_STAT.PAIRED a) s = 1)
    (if get (Reg.HCH_STAT.BUSY (streamOf a 2 s)) s = 1 then setAct a { actOf a s with unpairPend := true } s
     else pairFallback a 6 s) s)

/-- ACT_LOW_SPEED_RETRACT: the spindle has slowed below MIN_PCT of SPN_TARGET.RPM before the heads are parked (R147). -/
def execActLowSpeedRetract (a : Nat) (s : State) : Out :=
  unit a 2 (occurs (actState a s ≠ 0 ∧ actState a s ≠ 8
      ∧ get Reg.SPN_SPEED.SPEED s * 100 < 4 * get (Reg.ACT_UNLOAD.MIN_PCT a) s * get Reg.SPN_TARGET.RPM s)
    (requestRetract s) s)

/-- The oldest log entry is removed. -/
def popLog (a : Nat) (s : State) : State := showLog a (setAct a { actOf a s with log := (actOf a s).log.drop 1 } s)

/-- WUS_LOG_READ: a master reads ACT_WUS_LOG_HI; one that follows its read of LO removes the entry (R9). -/
def wusRead (a master : Nat) (s : State) : State :=
  let hi := Reg.ACT_WUS_LOG_HI.desc.base + 256 * a
  let q := pairedRead master hi s
  let latched := s.sys.pairLatch.any (fun p => p.1 == master && p.2.1 == hi)
  let t := respond (.data (bytesOf 4 q.1) false) q.2
  if latched then popLog a t else t

def execWusLogRead (a master : Nat) (s : State) : Out := unit a 2 (.next (wusRead a master s))

/-! ### What the spindle does to the actuators -/

/-- The spindle has entered a state (R125, R144): RUN takes held loads, BRAKE unloads, FAULT drops held loads with REFUSED. -/
def actOnSpindle (new a : Nat) (s : State) : State :=
  let st := actState a s
  if new = 7 then takeHeldLoad a s
  else if new = 9 ∧ 2 ≤ st ∧ st ≤ 5 then startUnload (st == 5) a s
  else if new = 13 ∧ (actOf a s).loadHeld then
    puts [(Reg.ACT_STAT.CMD_PEND a, 0), (Reg.ACT_STAT.REFUSED a, 1)] (setAct a { actOf a s with loadHeld := false } s)
  else s

end Sys2Proof.Machine
end

