-- ==== Sys2Proof/Machine/Assist.lean ====
section
/-! DEFINITION. 06_energy_assist.md: the assist table (R151), hops (R156 to R158), trips (R160, R161), aging and retirement (R163 to
R167), and a head's share of a tempo (R149, R150, R152, R159). -/

namespace Sys2Proof.Machine

/-! ### Levels -/

/-- The assist table entry of a head (R151) and the monitor target in it. -/
def assistEntry (h : Nat) (s : State) : Nat :=
  2 ^ 32 * get Reg.ASX_TBL_HI.ADDR s + 512 * get Reg.ASX_TBL_LO.ADDR s + 512 * h

def monTarget (h : Nat) (s : State) : Nat := memNat (assistEntry h s + 2) 2 s

/-- An output slot of source current in µA, and of heater power in 1/65,536 of full scale (R149). -/
def slotUa (x : Int) : Nat := ofInt 16 (x / 2 ^ 15)

/-- The write-level and the pre-bias current of head k as the state commands them (R152, R153): 0 outside PREBIAS, ARMED and HOLD and
while FORCE_OFF holds the source, which it does from the output write at which READY falls. -/
def sourceOn (h : Nat) (s : State) : Bool :=
  (asxState h s == 2 || asxState h s == 3 || asxState h s == 4) && (get (Reg.ASX_HCTL.FORCE_OFF h) s == 0 || (asxOf h s).forceIn != 0)

def writeLevel (h : Nat) (s : State) : Nat :=
  if sourceOn h s then slotUa (AMap.getD (ceOf (actOfHead h) s).out (12 + 4 * slotOf h s) 0) else 0

def prebiasLevel (h : Nat) (s : State) : Nat :=
  if sourceOn h s then slotUa (AMap.getD (ceOf (actOfHead h) s).out (13 + 4 * slotOf h s) 0) else 0

/-- The radial band of head h of an actuator at its target track (R151). -/
def radialBand (h : Nat) (s : State) : Nat :=
  let a := actOfHead h
  (headTarget a (slotOf h s) s).1.toNat * 64 / (get (Reg.ACT_MAXTRK.MAX a) s + 1)

/-- The read (false) or write power of the band in the head's table entry (R151). Log entry 210 (DEDUCED). -/
def bandPower (write : Bool) (h : Nat) (s : State) : Nat := memNat (assistEntry h s + 16 + 4 * radialBand h s + 2 * b2n write) 2 s

/-- The heater power of the state (R152): the band's write power in PREBIAS, ARMED and HOLD, its read power in READ and TRIP; the engine's slot (R149) does not
exceed it. Log entry 210 (DEDUCED). -/
def statePower (h : Nat) (s : State) : Nat :=
  let st := asxState h s
  min (slotUa (AMap.getD (ceOf (actOfHead h) s).out (14 + 4 * slotOf h s) 0)) (bandPower (decide (2 ≤ st ∧ st ≤ 4)) h s)

/-- The heater power commanded (R152, R159, R160): 0 in OFF and RETIRED; ramped on entry to READ from OFF; less the contact back-off until CLR. Log entry 210 (DEDUCED). -/
def heaterLevel (h : Nat) (s : State) : Nat :=
  let p := statePower h s
  let st := asxState h s
  let r := asxOf h s
  let ramp := get Reg.ASX_FH_CFG.RAMP s
  let q := if st = 1 ∧ r.fhRamp < ramp then p * r.fhRamp / ramp else p
  if st = 0 ∨ st = 6 then 0 else if r.backoff then q - 256 * get Reg.ASX_FH_CFG.BACKOFF s else q

/-! ### Trips -/

/-- A trip (R161): TRIP with its cause, TRIPS counts, line 3 and its event. READY falls at the output write with the hard class (R153). -/
def asxTrip (h cause : Nat) (s : State) : State :=
  let st := asxState h s
  if 1 ≤ st ∧ st ≤ 4 then
    let rdy := get (Reg.ASX_HSTAT.READY h) s
    let t := put (Reg.ASX_HSTAT.READY h) rdy (asxGo h 5 s)
    raisePost 195 h [cause] (bump (Reg.ASX_HCNT.TRIPS h) (put (Reg.ASX_HSTAT.CAUSE h) cause
      (setAsx h { asxOf h t with fallPend := true } t)))
  else s

/-- A contact (R160): trip cause 2, the heater back-off until CLR, and line 4. -/
def contactTrip (h : Nat) (s : State) : State :=
  let t := raisePost 196 h [] (asxTrip h 2 s)
  setAsx h { asxOf h t with backoff := true } t

/-- The tempos of the head's hops within the last 200,000 (R158). -/
def recentHops (h : Nat) (s : State) : List Nat := (asxOf h s).hopAt.filter (fun t => decide (tmpCount s < t + 200000))

/-- The condition of a trip cause (R158, R161). -/
def tripCause (h cause : Nat) (s : State) : Bool :=
  let r := asxOf h s
  match cause with
  | 1 => decide (3 ≤ r.omRow)
  | 2 => r.contact
  | 3 => decide (get Reg.ASX_HOP_CFG.STORM s < (recentHops h s).length)
  | 4 => (hlkOf (actOfHead h) s).faulted
  | 5 => r.sourceFault
  | _ => false

/-- ASSIST_TRIP: a trip cause on a head in READ to HOLD (R161); contact has its own effect (R160). -/
def execAssistTrip (h cause : Nat) (s : State) : Out :=
  let st := asxState h s
  unit h 24 (occurs (1 ≤ st ∧ st ≤ 4 ∧ tripCause h cause s = true) (if cause = 2 then contactTrip h s else asxTrip h cause s) s)

/-- HOP_STORM: more than STORM hops within 200,000 tempos (R158). -/
def execHopStorm (h : Nat) (s : State) : Out :=
  let st := asxState h s
  unit h 24 (occurs (1 ≤ st ∧ st ≤ 4 ∧ tripCause h 3 s = true) (asxTrip h 3 s) s)

/-- ASSIST_CLR: ASX_HCTL.CLR takes TRIP to READ and ends the contact back-off (R152, R160, R161). -/
def execAssistClr (h : Nat) (s : State) : Out :=
  unit h 24 (.next (asxGoIf (· == 5) h 1 (setAsx h { asxOf h s with backoff := false, omRow := 0 } s)))

/-! ### Arming -/

/-- ASSIST_ARMED: SETTLE tempos in PREBIAS, counted from the boundary at which its levels apply (R152); READY stays 0 while FORCE_OFF holds it (R153). Log entry 213 (DEDUCED). -/
def execAssistArmed (h : Nat) (s : State) : Out :=
  unit h 24 (occurs (asxState h s = 2 ∧ get Reg.ASX_PB.SETTLE s < (asxOf h s).tempos)
    (putIf (get (Reg.ASX_HCTL.FORCE_OFF h) s = 1) (Reg.ASX_HSTAT.READY h) 0 (asxGo h 3 s)) s)

/-- ASSIST_HOLD_REQUAL: REQUAL tempos in HOLD without a further hop (R152). -/
def execAssistHoldRequal (h : Nat) (s : State) : Out :=
  unit h 24 (occurs (asxState h s = 4 ∧ get Reg.ASX_PB.REQUAL s ≤ (asxOf h s).tempos)
    (putIf (get (Reg.ASX_HCTL.FORCE_OFF h) s = 1) (Reg.ASX_HSTAT.READY h) 0 (asxGo h 3 s)) s)

/-- FORCE_OFF_WRITE: FORCE_OFF is written; READY falls at cycle 3,200 of the next tempo (R153). -/
def execForceOffWrite (h : Nat) (on : Bool) (s : State) : Out :=
  unit h 24 (.next (put (Reg.ASX_HCTL.FORCE_OFF h) (b2n on) (setAsx h { asxOf h s with
    forceIn := if !on then 0 else if get (Reg.ASX_HCTL.FORCE_OFF h) s = 1 then (asxOf h s).forceIn else 2 } s)))

/-! ### Hops -/

/-- A hop (R156): the head wrote, its current has moved by less than 1 %, and the monitor by more than THR percent of the target
(laser) or to below 100 − THR percent of it (STO). -/
def isHop (h : Nat) (r : AsxSt) (s : State) : Bool :=
  let tgt := monTarget h s
  let thr := get Reg.ASX_HOP_CFG.THR s
  r.wrote && decide (((r.cur : Int) - (r.lastCur : Int)).natAbs * 100 < r.lastCur)
  && (if get Reg.ASX_CTL.TYPE s = 0 then decide (thr * tgt < ((r.mon : Int) - (r.lastMon : Int)).natAbs * 100)
      else decide (r.mon * 100 < (100 - thr) * tgt))

/-- The hop map's entry for a current (R157): the centre c stands for c × IOP0 ÷ 128; its rounding, and the entry while IOP0 is 0, are
not stated. Log entry 41 (DEDUCED). -/
def hopCentre (h cur : Nat) (s : State) : Nat :=
  let i := get (Reg.ASX_IOP0.IOP0 h) s
  if i = 0 then freeVal 8 s else ofInt 8 (roundOpen (cur * 128 : Nat) i)

/-- A band stored in the hop map at NEXT_BAND, which advances (R157). Log entry 41 (DEDUCED). -/
def storeBand (h cur : Nat) (s : State) : State :=
  let j := get (Reg.ASX_HSTAT.NEXT_BAND h) s
  let m := get (Reg.ASX_HOPMAP.BAND h) s
  let t := puts [(Reg.ASX_HOPMAP.BAND h, m - bits m (8 * j) 8 * 2 ^ (8 * j) + hopCentre h cur s * 2 ^ (8 * j)),
    (Reg.ASX_HSTAT.NEXT_BAND h, j + 1)] s
  if get (Reg.ASX_IOP0.IOP0 h) s = 0 then freed t else t

/-- The head's state at a hop (R152): HOLD, whose count starts anew at a further hop. -/
def hopHold (h : Nat) (s : State) : State :=
  if asxState h s = 4 then setAsx h { asxOf h s with tempos := 0 } s
  else put (Reg.ASX_HSTAT.READY h) (get (Reg.ASX_HSTAT.READY h) s) (asxGo h 4 s)

/-- What a hop does beside the state (R157): the band stored, HOPS, line 0 and its event with the current and the monitor step; READY falls
at the output write, at which the stream's recent sectors are marked. -/
def hopNoted (h : Nat) (s : State) : State :=
  let r := asxOf h s
  let u := setAsx h { r with fallPend := true, hopAt := r.hopAt ++ [tmpCount s] } s
  let n := streamOf (actOfHead h) (max 1 (slotOf h s)) s
  raisePost 192 h (bytesOf 2 r.cur ++ bytesOf 2 (ofInt 16 ((r.mon : Int) - (r.lastMon : Int))))
    (bump (Reg.ASX_HCNT.HOPS h) (storeBand h r.cur (setHch n { hchOf n u with hopMark := true } u)))

/-- A hop (R152, R157): HOLD, and what R157 says. -/
def hop (h : Nat) (s : State) : State := hopNoted h (hopHold h s)

/-! ### A head's tempo -/

/-- The values that the latched frame holds for head h as head k of link l (R149, R171): none where the frame is missing or its STATUS is of another head. Log entry 212 (DEDUCED). -/
def statusFor (l k h : Nat) (s : State) : Option Nat :=
  match (hlkOf l s).latched with
  | none => none
  | some f => if bits (f.getD k 0) 8 5 = h then some (f.getD k 0) else none

/-- The head wrote in the tempo that has ended (R150, R156): a sector of it ended, or one is being written under its permit. Log entry 211 (DEDUCED). -/
def wroteTempo (a k : Nat) (r : AsxSt) (s : State) : Bool :=
  r.wrote || (get (Reg.HCH_STAT.WRITING (streamOf a k s)) s == 1 && get (permitFld a k) s == 1)

/-- The latched values of a selected head (R149, R173), and what is counted from tempo to tempo. The temperature is in 1/256 °C. Log entry 212 (DEDUCED). -/
def assistLatch (a k h : Nat) (s : State) : AsxSt :=
  let r := asxOf h s
  let e := ceOf a s
  let b := 12 + 4 * k
  let f := statusFor a k h s
  let w := f.getD 0
  let st := asxState h s
  let mon := if f.isSome then bits w 16 16 else r.mon
  let cur := if f.isSome then bits w 32 16 else r.cur
  let tgt := monTarget h s
  let out := decide (get Reg.ASX_FH_CFG.OM_TOL s * tgt < ((mon : Int) - (tgt : Int)).natAbs * 100)
  let wr := wroteTempo a k r s
  let inEp := r.inEpisode || (wr && (st == 3 || st == 4))
  { r with lastMon := r.mon, lastCur := r.cur, mon := mon, cur := cur, wrote := wr
           contact := if f.isSome then w.testBit 13 else r.contact
           sourceFault := if f.isSome then (((hlkOf a s).latched.getD []).getD 3 0).testBit (7 + k) else r.sourceFault
           omRow := row (wr && out) r.omRow
           hopAt := recentHops h s
           tempos := r.tempos + 1
           inEpisode := inEp, ended := if inEp then false else r.ended
           episode := if inEp then (if r.inEpisode then r.episode + 1 else 1) else r.episode
           lastI := if inEp then slotUa (AMap.getD e.out b 0) else r.lastI
           lastT := if inEp ∧ f.isSome = true then toInt 16 (bits w 48 16) else r.lastT
           fhRamp := if st = 1 then min (r.fhRamp + 1) (get Reg.ASX_FH_CFG.RAMP s) else r.fhRamp
           forceIn := if r.forceIn = 2 then 1 else r.forceIn }

/-- A selected head at cycle 0 (R149, R156, R160). -/
def assistTempo (a k : Nat) (s : State) : State :=
  let h := headOf a k s
  if 24 ≤ h then s
  else
    let r := assistLatch a k h s
    let t := puts [(Reg.ASX_MON.MON h, r.mon), (Reg.ASX_MON.CUR h, r.cur)] (setAsx h r s)
    let st := asxState h s
    let hops := (st == 3 || st == 4) && isHop h r s
    let u :=
      if r.contact ∧ 1 ≤ st ∧ st ≤ 4 then contactTrip h (if hops then hopNoted h t else t)
      else if hops then hop h t
      else t
    setAsx h { asxOf h u with wrote := false } u

/-- The assist's share of a tempo boundary. -/
def assistBoundary (s : State) : State :=
  assistTempo 1 2 (assistTempo 1 1 (assistTempo 0 2 (assistTempo 0 1 s)))

/-- A head at the output write (R153): READY falls where a hop, a trip or FORCE_OFF asks for it. Log entry 26 (DEDUCED). -/
def assistOutput (s : State) (h : Nat) : State :=
  let r := asxOf h s
  if r.fallPend ∨ r.forceIn = 1 then
    readyFall h (setAsx h { r with fallPend := false, forceIn := 0 } s)
  else s

/-! ### Aging and retirement -/

/-- RETIRE_PEND is set (R165): line 1, and the head stops writing at the end of the sector in progress; as head 2 of a pair it
brings about fallback cause 6. -/
def retirePend (h : Nat) (s : State) : State :=
  if get (Reg.ASX_HSTAT.RETIRE_PEND h) s = 1 then s
  else
    let a := actOfHead h
    let k := slotOf h s
    let t := raisePost 193 h [] (put (Reg.ASX_HSTAT.RETIRE_PEND h) 1 s)
    let st := asxState h s
    let u :=
      if 2 ≤ st ∧ st ≤ 4 then
        (if k ≠ 0 ∧ get (Reg.HCH_STAT.WRITING (streamOf a k s)) s = 1 then setAsx h { asxOf h t with readAtEnd := true } t
         else asxGo h 1 (readyFall h t))
      else t
    if k = 2 ∧ get (Reg.ACT_STAT.PAIRED a) s = 1 then
      (if get (Reg.HCH_STAT.BUSY (streamOf a 2 s)) s = 1 then setAct a { actOf a u with unpairPend := true } u else pairFallback a 6 u)
    else u

/-- RETIRE_REQ: firmware sets RETIRE_PEND (R165). -/
def execRetireReq (h : Nat) (s : State) : Out := unit h 24 (.next (retirePend h s))

/-- A head is HEAD1 or HEAD2 in ACT_HEADS of a loaded actuator (R167). -/
def headInUse (h : Nat) (s : State) : Bool :=
  (List.range 2).any (fun a => get (Reg.ACT_STAT.LOADED a) s == 1
    && (get (Reg.ACT_HEADS.HEAD1 a) s == h || get (Reg.ACT_HEADS.HEAD2 a) s == h))

/-- RETIRE_DONE: the head is retired for life, or the write is ignored with an event (R152, R167). -/
def execRetireDone (h : Nat) (s : State) : Out :=
  unit h 24 (.next
    (if get (Reg.ASX_HSTAT.RETIRE_PEND h) s = 0 ∨ headInUse h s = true then postReg (Reg.ASX_HCTL.RETIRE_DONE h) h s
     else putBit Reg.ASX_RETIRED.MAP h true (asxGoIf (fun x => decide (x ≤ 5)) h 6 s)))

/-- IOP0_WRITE: ASX_IOP0 is written once; a write while it is not zero is ignored with an event (R163). -/
def execIop0Write (h value : Nat) (s : State) : Out :=
  unit h 24 (.next
    (if get (Reg.ASX_IOP0.IOP0 h) s ≠ 0 then postReg (Reg.ASX_IOP0.IOP0 h) h s else put (Reg.ASX_IOP0.IOP0 h) (bits value 0 16) s))

/-- The normalized current of an episode in 1/2,560 µA (R164): TCO in 0.1 µA per degree, the temperature in 1/256 °C. -/
def iNorm2560 (h : Nat) (s : State) : Int :=
  let r := asxOf h s
  2560 * (r.lastI : Int) - toInt 16 (get Reg.ASX_AGE_CFG.TCO s) * (r.lastT - 256 * (get Reg.ASX_AGE_CFG.TREF s : Int))

/-- Truncation toward zero. -/
def truncDiv (i : Int) (d : Nat) : Int := i.tdiv d

/-- The average before an update: IOP0 where none has been made since IOP0 was written. -/
def iopBefore (h : Nat) (s : State) : Nat :=
  if get (Reg.ASX_IOP.IOP_AVG h) s = 0 then get (Reg.ASX_IOP0.IOP0 h) s else get (Reg.ASX_IOP.IOP_AVG h) s

def iopAfter (h : Nat) (s : State) : Nat :=
  ofInt 16 ((iopBefore h s : Int) + truncDiv (iNorm2560 h s - 2560 * (iopBefore h s : Int)) (64 * 2560))

/-- The warning and the end of the headroom (R165). -/
def headroom (h : Nat) (s : State) : State :=
  let avg := get (Reg.ASX_IOP.IOP_AVG h) s
  let i0 := get (Reg.ASX_IOP0.IOP0 h) s
  let t := if min 159 (get Reg.ASX_AGE_CFG.WARN s) * i0 ≤ 100 * avg ∧ (asxOf h s).warned = false then
      linePost 194 (Reg.ASX_HSTAT.WARN h) 1 h [] (setAsx h { asxOf h s with warned := true } s) else s
  if 160 * i0 ≤ 100 * avg then retirePend h t else t

/-- An episode of a head without IOP0 (R163): no aging. -/
def untrackedEpisode (h : Nat) (s : State) : State := setAsx h { asxOf h s with ended := false, episode := 0 } s

/-- A BRINGUP records one event for each head whose IOP0 is 0 (R163), and heads that MRAM names as retired are RETIRED from its load on (R167). Log entry 164 (DEDUCED). -/
def assistLoaded (s : State) (h : Nat) : State :=
  let t := if get (Reg.ASX_IOP0.IOP0 h) s = 0 ∧ (asxOf h s).untracked = false then
      postReg (Reg.ASX_IOP0.IOP0 h) h (setAsx h { asxOf h s with untracked := true } s) else s
  putIf (isRetired h s = true) (Reg.ASX_HSTAT.STATE h) 6 t

/-- AGING_UPDATE: at the end of a write episode of 64 tempos or more the average is updated (R164), unless IOP0 is 0 (R163). -/
def execAgingUpdate (h : Nat) (s : State) : Out :=
  let r := asxOf h s
  unit h 24 (occurs (r.ended = true ∧ 64 ≤ r.episode)
    (if get (Reg.ASX_IOP0.IOP0 h) s = 0 then untrackedEpisode h s
     else headroom h (puts [(Reg.ASX_IOP.IOP_AVG h, iopAfter h s), (Reg.ASX_IOP.LAST h, ofInt 16 (roundOpen (iNorm2560 h s) 2560))]
      (setAsx h { r with ended := false, episode := 0 } s))) s)

end Sys2Proof.Machine
end

