-- ==== Sys2Proof/Machine/Media.lean ====
section
/-! DEFINITION. What the read channel, the zone manager and the command store share: zone descriptors (R205), their journal (R233), the
blocks of the write cache that are not on media, sector contents (R181) and the rewind of a media write pointer (R211). -/

namespace Sys2Proof.Machine

/-! ### Zone descriptors -/

/-- A zone descriptor (R205). `group` is the number of data sectors in the open parity group, `acc` the address of the saved
accumulator. -/
structure Zone where
  state  : Nat := 0
  type   : Nat := 0
  sealed : Bool := false
  copied : Bool := false
  pend   : Bool := false
  recov  : Bool := false
  reloc  : Bool := false
  phys   : Nat := 0
  host   : Nat := 0
  media  : Nat := 0
  group  : Nat := 0
  stamp  : Nat := 0
  ns     : Nat := 0
  acc    : Nat := 0
deriving DecidableEq, Repr

/-- The 32 bytes of a descriptor as a number, low byte first. -/
def zoneWord (d : Zone) : Nat :=
  d.state % 2 ^ 4 + d.type % 2 ^ 4 * 2 ^ 4 + b2n d.sealed * 2 ^ 8 + b2n d.copied * 2 ^ 9 + b2n d.pend * 2 ^ 10 + b2n d.recov * 2 ^ 11
  + b2n d.reloc * 2 ^ 12 + d.phys % 2 ^ 19 * 2 ^ 13 + d.host % 2 ^ 32 * 2 ^ 32 + d.media % 2 ^ 32 * 2 ^ 64 + d.group % 2 ^ 5 * 2 ^ 96
  + d.stamp % 2 ^ 48 * 2 ^ 128 + d.ns % 2 ^ 6 * 2 ^ 176 + bits d.phys 19 1 * 2 ^ 184 + d.acc % 2 ^ 64 * 2 ^ 192

/-- The descriptor that 32 bytes hold. -/
def zoneFrom (w : Nat) : Zone :=
  { state := bits w 0 4, type := bits w 4 4, sealed := w.testBit 8, copied := w.testBit 9, pend := w.testBit 10, recov := w.testBit 11
    reloc := w.testBit 12, phys := bits w 13 19 + bits w 184 1 * 2 ^ 19, host := bits w 32 32, media := bits w 64 32
    group := bits w 96 5, stamp := bits w 128 48, ns := bits w 176 6, acc := bits w 192 64 }

/-- The address of logical zone z's descriptor: ZMG_ZTBL + 32 z. -/
def zoneAddr (z : Nat) (s : State) : Nat := 2 ^ 32 * get Reg.ZMG_ZTBL_HI.ADDR s + 32 * get Reg.ZMG_ZTBL_LO.ADDR s + 32 * z

def zoneOf (z : Nat) (s : State) : Zone := zoneFrom (memNat (zoneAddr z s) 32 s)

/-- The zone states that count as opened, and as active (R206). -/
def isOpened (st : Nat) : Bool := st == 2 || st == 3
def isActive (st : Nat) : Bool := st == 2 || st == 3 || st == 4

/-- A shingled zone: conventional zones read state 0x0 (R205). -/
def isShingled (d : Zone) : Bool := d.state != 0

/-- The bytes of a change in the journal. Log entry 240 (DESIGN CHOICE). -/
def changeBytes : Change → Nat
  | .zone _ _ => 32
  | _ => 16

/-- A change is made in the tables on media (R233). -/
def applyChange (t : Tables) : Change → Tables
  | .zone z w => { t with zones := AMap.insert z w t.zones }
  | .slot e h q => { t with mc := t.mc.filter (fun x => !(x.ns == e.ns && x.extent == e.extent)) ++ [e], head := AMap.insert e.ns h t.head, seq := AMap.insert e.ns q t.seq }
  | .drop l => { t with mc := t.mc.filter (fun x => !l.contains x) }
  | .remap l => { t with remaps := l }
  | .pend l => { t with pend := l }

/-- A change is journaled (R233): into the tail, which goes to the media before it would pass 256 KiB. Log entry 240 (DESIGN CHOICE). -/
def journal (c : Change) (s : State) : State :=
  let z := s.zmg
  let full := decide (262144 < (z.tail.map changeBytes).foldl (· + ·) (changeBytes c))
  { s with zmg := { z with saved := if full then z.tail.foldl applyChange z.saved else z.saved, tail := if full then [c] else z.tail ++ [c]
                           journaled := z.journaled + changeBytes c } }

/-- A descriptor is written; the change is journaled (R233) and ZMG_OPEN_CNT follows the states. -/
def setZone (z : Nat) (d : Zone) (s : State) : State :=
  let o := zoneOf z s
  let t := puts [(Reg.ZMG_OPEN_CNT.OPEN, get Reg.ZMG_OPEN_CNT.OPEN s + b2n (isOpened d.state) - b2n (isOpened o.state)),
    (Reg.ZMG_OPEN_CNT.ACTIVE, get Reg.ZMG_OPEN_CNT.ACTIVE s + b2n (isActive d.state) - b2n (isActive o.state))]
    (memPut (zoneAddr z s) 32 (zoneWord d) s)
  journal (.zone z (zoneWord d)) t

/-- The namespace of logical zone z, and the 4 KiB block of it that data sector p of the zone holds (R202). -/
def blockOf (z p : Nat) (s : State) : Nat := (z - get (Reg.ZMG_NS_ZONES.FIRST (zoneOf z s).ns) s) * 65536 + p

/-- The logical zone and the data sector of a namespace's block. -/
def zoneOfBlock (ns blk : Nat) (s : State) : Nat := get (Reg.ZMG_NS_ZONES.FIRST ns) s + blk / 65536

/-! ### Sectors -/

/-- The physical sector index of data sector p: in shingled zones a parity sector follows every 31 (R183). -/
def physIdx (shingled : Bool) (p : Nat) : Nat := if shingled then p + p / 31 else p

/-- The index of the parity sector of the group of which p is the last data sector. -/
def parityIdx (p : Nat) : Nat := p + p / 31 + 1

/-- A data sector is the last of its group: the thirty-first, or the zone's last (R183). -/
def endsGroup (p : Nat) : Bool := p % 31 == 30 || p == 65535

/-- The PSA (R181). -/
def psa (zone idx : Nat) : Nat := zone % 2 ^ 20 + idx % 2 ^ 17 * 2 ^ 20

/-- The information bytes of a sector (R181): the user bytes and the 32 metadata bytes. -/
def sectorBytes (zone idx stamp pi data : Nat) : List Nat :=
  let l := bytesOf 4096 data ++ bytesOf 8 (psa zone idx) ++ bytesOf 6 stamp ++ [0, 0] ++ bytesOf 8 pi ++ [0, 0, 0, 0]
  l ++ bytesOf 4 (crc32c l)

/-- The PSA of some information bytes: zone and index, where the other bits are 0 (R181, R193). -/
def isPsa (info zone idx : Nat) : Bool := bits info 32768 64 == psa zone idx

/-- The CRC of some information bytes checks (R181, R193). -/
def infoCrc (info : Nat) : Bool := crc32c (bytesOf 4124 info) == bits info 32992 32

/-- The user bytes and the write stamp of some information bytes. -/
def infoData (info : Nat) : Nat := info % 2 ^ 32768
def infoStamp (info : Nat) : Nat := bits info 32832 48

/-- A decode is accepted (R193); it is a MISMATCH where it decodes with another PSA. -/
def accepted (zone idx : Nat) (d : Decoded) : Bool := d.syndrome && infoCrc d.info && isPsa d.info zone idx
def mismatched (zone idx : Nat) (d : Decoded) : Bool := d.syndrome && infoCrc d.info && !isPsa d.info zone idx

/-! ### The write cache's blocks -/

/-- The cached line of a block, if one is dirty. -/
def lineOf (ns blk : Nat) (s : State) : Option CacheLine := s.cmd.lines.find? (fun l => l.ns == ns && l.blk == blk)

/-- The blocks that the cache holds without one of them. -/
def dropLine (ns blk : Nat) (s : State) : State :=
  { s with cmd := { s.cmd with lines := s.cmd.lines.filter (fun l => !(l.ns == ns && l.blk == blk)) } }

/-- CMD_WC_STAT.DIRTY: the dirty data in MiB; a part of one counts as one (its rounding is not stated). -/
def countDirty (s : State) : State := put Reg.CMD_WC_STAT.DIRTY (min 8191 ((s.cmd.lines.length + 255) / 256)) s

/-- A block is on media (R207, R366): its line leaves the cache. -/
def onMedia (z p : Nat) (s : State) : State := countDirty (dropLine (zoneOf z s).ns (blockOf z p s) s)

/-! ### Eligibility for sealing -/

/-- A zone is eligible for sealing (R320): of a sealed namespace, Full, its media write pointer at the host write pointer it had then, its
open group's parity written, not being recovered, not sealed, with no LBA on the lost-write list. -/
def eligible (z : Nat) (s : State) : Bool :=
  let d := zoneOf z s
  let k := if get (Reg.ZMG_NS_CFG.LBAF d.ns) s = 1 then 8 else 1
  let b := (z - get (Reg.ZMG_NS_ZONES.FIRST d.ns) s) * 65536 * k
  get (Reg.ZMG_NS_CFG.TYPE d.ns) s == 4 && d.state == 14 && AMap.lookup z s.zmg.fullAt == some d.media && d.group == 0 && !d.recov
  && !d.sealed && !s.cmd.lost.any (fun e => e.ns == d.ns && decide (e.lba < b + 65536 * k) && decide (b < e.lba + e.n))

/-- A zone that has become eligible joins SEAL's queue. -/
def noteEligible (z : Nat) (s : State) : State :=
  if eligible z s ∧ !s.seals.queue.contains z then { s with seals := { s.seals with queue := s.seals.queue ++ [z] } } else s

/-- The eligible zones that are not queued join in ascending order of logical zones (R320): on the entry to SERVICE after a reset. -/
def noteAllEligible (s : State) : State := s.zmg.fullAt.foldl (fun t p => noteEligible p.1 t) s

/-! ### Rewinding -/

/-- The sectors of a zone that a stream has written lately, within a range. -/
def recentIn (r : HchSt) (z lo hi : Nat) : List Written := r.recent.filter (fun w => w.lz == z && decide (lo ≤ w.p) && decide (w.p < hi))

/-- The accumulator after the media write pointer has gone back from m to p (R211): what was added from p on is taken out again, or the
group's sectors before p are added anew; where neither is at hand the media gives it, which the model does not hold. -/
def accBack (r : HchSt) (z p m : Nat) : Option Nat :=
  let g := p / 31 * 31
  if m / 31 = p / 31 ∧ (recentIn r z p m).length = m - p ∧ r.accN = m % 31 then some (r.acc ^^^ xorAll ((recentIn r z p m).map (·.info)))
  else if (recentIn r z g p).length = p - g then some (xorAll ((recentIn r z g p).map (·.info)))
  else if p = g then some 0
  else none

/-- The blocks of sectors to be rewritten are dirty again: the write cache still holds their data (R211, R214). Log entry 46 (DEDUCED). -/
def relist (l : List Written) (s : State) : State :=
  l.foldl (fun t w =>
    let ns := (zoneOf w.lz t).ns
    let b := blockOf w.lz w.p t
    if (lineOf ns b t).isSome then t
    else { t with cmd := { t.cmd with lines := t.cmd.lines ++ [⟨ns, b, 255, w.info % 2 ^ 32768, [0]⟩] } }) s

/-- The media write pointer of zone z goes back to data sector p (R211), and the accumulator of the stream that writes it with it. Log entry 46 (DEDUCED). -/
def rewind (n z p : Nat) (s : State) : State :=
  let d := zoneOf z s
  if d.media ≤ p ∨ !isShingled d then s
  else
    let r := hchOf n s
    let a := accBack r z p d.media
    let t := setZone z { d with media := p, group := p % 31 } 
      (countDirty (relist (r.recent.filter (fun w => w.lz == z && decide (p ≤ w.p))) (if a.isNone then freed s else s)))
    setHch n { r with acc := a.getD (freeVal 33024 s), accN := p % 31, recent := r.recent.filter (fun w => !(w.lz == z && decide (p ≤ w.p))) } t

end Sys2Proof.Machine
end

