-- ==== Sys2Proof/Machine/SectorForm.lean ====
section
/-! DEFINITION. 07_disk_read_channel.md, the recorded form of a sector: codeword (R181), layout (R180), packing around the wedges (R182) and the blocks that carry it
(R170, R198). Bits are in recording order. -/

namespace Sys2Proof.Machine

/-! ### The physical sector -/

/-- The bits of a number of w bits, the highest first, and of bytes, the lowest bit of each first. Log entry 222 (DEDUCED). -/
def bitsHigh (w v : Nat) : List Bool := (List.range w).map (fun i => v.testBit (w - 1 - i))
def bitsLow (bytes : List Nat) : List Bool := bytes.flatMap (fun b => (List.range 8).map (fun i => b.testBit i))

/-- The 2T pattern, some four bits of it (R180, R182). Log entry 223 (PRESUMED). -/
def pattern2T (n : Nat) : List Bool := (List.replicate n [true, true, false, false]).flatten

/-- n bits of the LFSR x³¹ + x²⁸ + 1 from a state of 31 bits (R181). Log entry 224 (DEDUCED). -/
def lfsr31 : (n x : Nat) → List Bool
  | 0, _ => []
  | n + 1, x => x.testBit 0 :: lfsr31 n (x / 2 % 2 ^ 30 + b2n (x.testBit 0 != x.testBit 28) * 2 ^ 30)

/-- The scrambler's seed: PSA bits 30:0 ORed with 1 (R181). -/
def scrambleSeed (zone idx : Nat) : Nat := psa zone idx % 2 ^ 31 ||| 1

/-- The scrambled codeword of a sector: 33,024 information bits and their parity (R181). Log entries 222 (DEDUCED), 225 (DESIGN CHOICE). -/
def codeword (zone idx info : Nat) : List Bool :=
  List.zipWith (· != ·) (bitsLow (bytesOf 4128 info) ++ bitsLow (bytesOf 240 (Config.ldpcParity info).toNat)) (lfsr31 34944 (scrambleSeed zone idx))

/-- The fields up to the end of SM2, part 2, and the postamble (R180). -/
def sectorHead (cw : List Bool) : List Bool := pattern2T 48 ++ bitsHigh 32 0x3A9F1C67 ++ cw.take 2048 ++ bitsHigh 32 0xC560E398
def partTwo (cw : List Bool) : List Bool := cw.drop 2048
def postamble : List Bool := bitsHigh 16 0x33CC

/-- The resync field (R182). -/
def resyncField : List Bool := pattern2T 12 ++ bitsHigh 16 0x1D4B

/-! ### Packing -/

/-- The data region after a wedge at a channel rate in Mb/s with K (R182): floor(1,904 × bits per servo cell) − 64 bits; a wedge period of K tempos has 2,048 cells. -/
def regionBits (rate k : Nat) : Nat := 1904 * rate * k * 5 / 2048 - 64

/-- Where a sector starts: its track of the zone, the region of the track, and the bit of the region. -/
structure Place where
  track  : Nat := 0
  region : Nat := 0
  bit    : Nat := 0
deriving DecidableEq, Repr

/-- Where some bits of part 2 end (R182): the region and the bits left of it, from a region with some bits left; each further region begins with a resync field. -/
def partEnd (r : Nat) : (n region left rem : Nat) → Nat × Nat
  | 0, g, left, _ => (g, left)
  | n + 1, g, left, rem => if rem ≤ left then (g, left - rem) else partEnd r n (g + 1) (r - 64) (rem - left)

def sectorEnd (r : Nat) (p : Place) : Nat × Nat := partEnd r 16 p.region (r - p.bit - 2304) 32896

/-- The place after a sector: right after its gap, or the next region's start where the region ends inside postamble or gap. -/
def afterSector (r : Nat) (p : Place) : Place :=
  let e := sectorEnd r p
  if 184 ≤ e.2 then { p with region := e.1, bit := r - e.2 + 184 } else { p with region := e.1 + 1, bit := 0 }

/-- A sector starts where 2,304 bits of the region remain, and crosses no track's end, after 400 regions (R182). -/
def sectorStart (r : Nat) (p : Place) : Place :=
  let q := if p.bit + 2304 ≤ r then p else { p with region := p.region + 1, bit := 0 }
  if 400 ≤ (sectorEnd r q).1 then { track := p.track + 1 } else q

/-- The place of physical sector idx of a zone. -/
def placeOf (r : Nat) : (idx : Nat) → Place
  | 0 => sectorStart r {}
  | i + 1 => sectorStart r (afterSector r (placeOf r i))

/-- The bits of a sector by region: region, first bit and the bits written from there; what a region's end cuts off of the postamble is dropped (R182). -/
def regionPieces (r : Nat) : (n region bit : Nat) → (pre part : List Bool) → List (Nat × Nat × List Bool)
  | 0, _, _, _, _ => []
  | n + 1, g, b, pre, part =>
    let left := r - b - pre.length
    if part.length ≤ left then [(g, b, pre ++ part ++ postamble.take (left - part.length))]
    else (g, b, pre ++ part.take left) :: regionPieces r n (g + 1) 0 resyncField (part.drop left)

/-- A sector's pieces at its place; a region too short for a sector's start takes none. -/
def sectorPieces (r : Nat) (p : Place) (cw : List Bool) : List (Nat × Nat × List Bool) :=
  if r < 2304 then [] else regionPieces r 17 p.region p.bit (sectorHead cw) (partTwo cw)

/-! ### On the lane -/

/-- Write data blocks of 60 bits (R170), as data. Log entry 227 (DESIGN CHOICE). -/
def dataFor (stream : Nat) : (n : Nat) → List Bool → List (Bool × Nat)
  | 0, _ => []
  | n + 1, l => if l = [] then [] else (false, blkData stream (bitsNat (l.take 60))) :: dataFor stream n (l.drop 60)

/-- The blocks of a piece (R198): GATE on at its first bit and GATE off after its last, each ahead of the data block whose bit POS it names; data blocks stand at every 60
bits of a region. Log entry 227 (DESIGN CHOICE). -/
def pieceBlocks (stream bit : Nat) (l : List Bool) : List (Bool × Nat) :=
  let d := dataFor stream (l.length / 60 + 2) (List.replicate (bit % 60) false ++ l)
  let e := (bit + l.length) % 60
  let off := (true, blkGate stream false false e)
  (true, blkGate stream true false (bit % 60)) :: (if e = 0 then d ++ [off] else d.dropLast ++ [off] ++ d.drop (d.length - 1))

/-- A piece leaves on the transmit lane of link a for head k's stream n. -/
def sendPiece (a k n wedge : Nat) (s : State) (p : Nat × Nat × List Bool) : State :=
  let b := pieceBlocks (k - 1) p.2.1 p.2.2
  send (.headWrite n ((wedge + p.1) % 400) p.2.1 (b.map (·.2)) (wordsFor a b s)) (carried a b s)

/-- Stream n of head k of actuator a writes a physical sector (R180 to R182, R197, R198). Log entry 226 (PRESUMED). -/
def sendSector (a k n zone idx info : Nat) (s : State) : State :=
  let r := regionBits (get (Reg.HCH_STAT.RATE n) s) (get Reg.TMP_PHASE.K s)
  let t := send (.sector n zone idx info) s
  if get (Reg.HLK_STAT.TX_UP a) s = 1 then
    (sectorPieces r (placeOf r idx) (codeword zone idx info)).foldl (sendPiece a k n (Config.zoneStart zone)) t
  else t

end Sys2Proof.Machine
end

