-- ==== Sys2Proof/Machine/HeadLink.lean ====
section
/-! DEFINITION. 07_disk_read_channel.md, the head links: frames on the tempo (R172, R173), training (R174), lanes
(R175, R176) and faults (R177). -/

namespace Sys2Proof.Machine

/-- SEQ values are TMP_COUNT bits 7:0. -/
def seqNow (s : State) : Nat := tmpCount s % 256

def linkRuns (l : Nat) (s : State) : Bool := get (Reg.HLK_CTL.EN l) s == 1

/-! ### Frames -/

/-- The CMD block of head k of an actuator: head 31 while none is selected, with nothing in it. -/
def cmdBlock (a k : Nat) (s : State) : Nat :=
  let h := headOf a k s
  if 24 ≤ h then blkCmd 31 0 0 0 0 else blkCmd h (asxState h s) (writeLevel h s) (prebiasLevel h s) (heaterLevel h s)

/-- The rate of head k's stream, 0 while no head is selected. -/
def headRate (a k : Nat) (s : State) : Nat := if 24 ≤ headOf a k s then 0 else get (Reg.HCH_STAT.RATE (streamOf a k s)) s

/-- The command frame of R172. -/
def commandFrame (l p1 p2 : Nat) (s : State) : List Nat :=
  let f := [blkChdr (seqNow s), cmdBlock l 1 s, cmdBlock l 2 s, blkRate (headRate l 1 s) (headRate l 2 s) p1 p2]
  f ++ [blkCrc f]

/-- The blocks of a return frame (R171, R173): blocks of other types are ignored. -/
def frameBlocks (blocks : List Nat) : List Nat := blocks.filter (fun b => [0x2D, 0x33, 0x66, 0x3C].contains (b % 256))

/-- A return frame is good (R173): RHDR, two STATUS and FAULTS, and the CRC over them. -/
def frameGood (f : List Nat) : Bool := f.map (· % 256) == [0x2D, 0x33, 0x33, 0x66, 0x3C] && f.getD 4 0 == blkCrc (f.take 4)

/-- HEAD_LINK_RETURN_FRAME: the control blocks that arrive of the frame that the head chip sends after a TICK (R173). One that comes after its latch counts in LATE and is late
data of the actuator's engine (R70); one that is not good, as where a block is lost (R175), counts in BAD. -/
def execHeadLinkReturnFrame (l : Nat) (blocks : List Nat) (late : Bool) (s : State) : Out :=
  let r := hlkOf l s
  let f := frameBlocks blocks
  unit l 2 (occurs (linkRuns l s = true)
    (if late then arriveLate l (bump (Reg.HLK_FRAMES.LATE l) (setHlk l { r with owed := false } s))
     else if frameGood f then setHlk l { r with frame := some (f.take 4) } s
     else bump (Reg.HLK_FRAMES.BAD l) (setHlk l { r with bad := true } s)) s)

/-- The values of a latched frame in the slots of the actuator's engine (R149): head k's STATUS in slots 12 + 4k to 15 + 4k. Log entry 30 (DESIGN CHOICE). -/
def feedStatus (l k st : Nat) (s : State) : State :=
  let b := 12 + 4 * k
  arrive l (b + 3) (if st.testBit 13 then 2 ^ 30 else 0)
    (arrive l (b + 2) (satTo 32 (toInt 16 (bits st 48 16) * 2 ^ 24))
      (arrive l (b + 1) (bits st 32 16 * 2 ^ 15) (arrive l b (bits st 16 16 * 2 ^ 15) s)))

/-- A good frame at its latch: the slots, HLK_FAULTS and the SEQ echo (R173, R177, R178). Log entry 212 (DEDUCED). -/
def latchFrame (l : Nat) (f : List Nat) (s : State) : State :=
  let r := hlkOf l s
  let e := bits (f.getD 0 0) 8 8
  let t := setHlk l { r with frame := none, latched := some f, echo := some e, owed := false, bad := false
                             echoRow := if r.echo = some e then r.echoRow + 1 else 0
                             counts := (bits (f.getD 0 0) 16 24, bits (f.getD 0 0) 40 24), countAt := tmpCount s - 1 } s
  let u := puts [(Reg.HLK_STAT.MISS l, 0), (Reg.HLK_FAULTS.FLAGS l, bits (f.getD 3 0) 8 24)] t
  let feed (k : Nat) (x : State) : State := match statusFor l k (headOf l k s) t with
    | none => x
    | some w => if 24 ≤ headOf l k s then x else feedStatus l k w x
  feed 2 (feed 1 u)

/-- A link at cycle 0 (R173, R175): a pending lane switch applies, and the return frame of the tempo is latched; one that is missing
counts in MISS, and in BAD once it can no longer come late. -/
def linkBoundary (l : Nat) (s : State) : State :=
  let r := hlkOf l s
  let s1 := match r.switch with
    | none => s
    | some q => puts [(Reg.HLK_STAT.LOG0 l, q.1), (Reg.HLK_STAT.LOG1 l, q.2.1), (Reg.HLK_STAT.SINGLE l, b2n q.2.2)]
        (setHlk l { r with switch := none } s)
  let r1 := hlkOf l s1
  let s2 := if r1.owed then bump (Reg.HLK_FRAMES.BAD l) s1 else s1
  match r1.frame with
  | some f => latchFrame l f s2
  | none =>
    if get (Reg.HLK_STAT.UP l) s = 1 then
      bumpSat (Reg.HLK_STAT.MISS l) (setHlk l { r1 with latched := none, owed := !r1.bad, bad := false } s2)
    else setHlk l { r1 with latched := none, owed := false, bad := false } s2

/-! ### Data blocks -/

/-- The address of a stream's region of the channel sector buffers (R201). -/
def streamBuf (n : Nat) : Nat := 0x28000000 + 0xC0000 * n

/-- Ten samples enter the sample ring (R201): the position counts samples of the sector in its slot of 32 KiB; what would pass the slot's
end is not kept. -/
def ringWrite (n pos samples : Nat) (s : State) : State :=
  let off := 6 * pos
  let a := streamBuf n + 0x8000 * (hchOf n s).ringSlot + off / 8
  if off / 8 + 9 ≤ 0x8000 then
    let v := memNat a 9 s
    memPut a 9 (v - bits v (off % 8) 60 * 2 ^ (off % 8) + bits samples 0 60 * 2 ^ (off % 8)) s
  else s

/-- Ten samples of a head's stream (R170, R173). A break in the sequence count marks lost blocks: their samples are missing. Samples
flagged WG are not used (R197). In single-lane mode head 2 has no samples (R176). Log entry 218 (DEDUCED). -/
def takeSamples (l payload : Nat) (s : State) : State :=
  let k := bits payload 60 1
  let q := bits payload 62 2
  let n := streamOf l (k + 1) s
  let r := hlkOf l s
  let lost := match r.seq.getD k none with | none => 0 | some e => (q + 4 - e) % 4
  let h := hchOf n s
  let pos := h.ringPos + 10 * lost
  let at' := r.taken.getD k 0
  let g := if lost = 0 then r.gaps.getD k [] else (((at', 10 * lost) :: r.gaps.getD k []).take 8)
  let t := setHlk l { r with seq := r.seq.set k (some ((q + 1) % 4)), taken := r.taken.set k ((at' + 10 * (lost + 1)) % 2 ^ 24), gaps := r.gaps.set k g }
    (setHch n { h with missing := h.missing || lost != 0, ringPos := pos + 10 } s)
  if k = 1 ∧ get (Reg.HLK_STAT.SINGLE l) s = 1 then s else if payload.testBit 61 then t else ringWrite n pos payload t

/-- A block of the striped sequence: a data block's samples; the blocks of frames are those of their own rows. -/
def takeBlock (l : Nat) (s : State) (b : Bool × Nat) : State := if b.1 then s else takeSamples l b.2 s

/-- The logical lane, 0 or 1, that a physical lane serves, if any. -/
def logicalLane (l p : Nat) (s : State) : Option Nat :=
  if get (Reg.HLK_STAT.LOG0 l) s = p then some 0 else if get (Reg.HLK_STAT.LOG1 l) s = p then some 1 else none

def setQueue (p : Nat) (q : List (Bool × Nat)) (l : List LaneSt) : List LaneSt := l.set p { l.getD p {} with queue := q }

/-- A block of an active lane is put in order with the other lane's (R169), and what is in order is taken. Log entry 217 (DEDUCED). -/
def orderBlock (l p : Nat) (b : Bool × Nat) (s : State) : State :=
  if get (Reg.HLK_STAT.SINGLE l) s = 1 then takeBlock l s b
  else
    let r := hlkOf l s
    let p0 := get (Reg.HLK_STAT.LOG0 l) s
    let p1 := get (Reg.HLK_STAT.LOG1 l) s
    let lanes := setQueue p (joinLane b (laneOf p r).queue) r.lanes
    let q := destripe 32 (lanes.getD p0 {}).queue (lanes.getD p1 {}).queue
    q.1.foldl (takeBlock l) (setHlk l { r with lanes := setQueue p1 q.2.2 (setQueue p0 q.2.1 lanes) } s)

/-- RECEIVE_DATA_BLOCK: 66 bits arrive on physical lane p of a link, the optical link's one lane among them (R169, R170, R289): bits 1:0 are the sync header. The
lane's errors and lock follow it; on an active lane in lock a valid block goes to its stream. A link whose domain is off ignores it (R488). Log entry 215 (DEDUCED). -/
def execReceiveDataBlock (l p word : Nat) (s : State) : Out :=
  let t := laneWord l p word s
  let active := decide (l < 2) && headerOk word && laneLock l p s && get (Reg.HLK_STAT.UP l) s == 1 && (logicalLane l p s).isSome
  unit l 3 (unit p (if l = 2 then 1 else 3) (occurs (domOn (10 + l) s = true) (if active then orderBlock l p (blockOn p word (linkOf l s)) t else t) s))

/-! ### Training -/

/-- The receive lanes in block lock, lowest first. -/
def lockedLanes (locks : Nat) : List Nat := (List.range 3).filter (fun p => locks.testBit p)

/-- The good return frames in a row whose SEQ echo advances, at most 8 of which are asked for (R174): the last echo and the row after each frame. -/
def advancing (p : Option Nat × Nat) (e : Option Nat) : Option Nat × Nat :=
  if 8 ≤ p.2 then p else match e with | none => (none, 0) | some q => (some q, if p.1 = some q then 1 else p.2 + 1)
def framesAdvance (seqs : List (Option Nat)) : Bool := decide (8 ≤ (seqs.foldl advancing (none, 0)).2)

/-- The SEQs of the 16 TICKs of a training that starts now (R174). -/
def tickSeqs (s : State) : List Nat := (List.range 16).map (fun i => (seqNow s + 1 + i) % 256)

/-- Every TICK was echoed. -/
def echoed (o : TrainObs) (s : State) : Bool := (tickSeqs s).all o.echoes.contains

/-- The transmit delay in units of 62.5 ps (R174). -/
def linkDelay (o : TrainObs) : Nat := ofInt 12 (roundOpen ((o.roundTripPs : Int) - 64000 - (o.latencyPs : Int)) 125)

/-- HLK may retrain a link after a fault: up to 3 times within 1 s (R177, R291). -/
def mayRetrain (r : HlkSt) (tries : Nat) (s : State) : Bool :=
  r.faulted && decide (tries < 3) && decide (tmpCount s ≤ r.faultAt + tempos 1000)

/-- Training may run (R174, R177): in BRINGUP on a link that is not up, on RETRAIN, and after a fault up to 3 times within 1 s. -/
def mayTrain (l : Nat) (s : State) : Bool :=
  let r := hlkOf l s
  linkRuns l s && (r.retrain || (mode s == 2 && get (Reg.HLK_STAT.UP l) s == 0 && !r.faulted) || mayRetrain r (get (Reg.HLK_STAT.TRIES l) s) s)

/-- The link's record as a training leaves it. -/
def trained (up : Bool) (r : HlkSt) : HlkSt :=
  { r with retrain := false, faulted := r.faulted && !up, seq := [none, none], frame := none, latched := none, echo := none, echoRow := 0, owed := false
           switch := none, lanes := [{}, {}, {}], taken := [0, 0], gaps := [[], []] }

/-- The link enters single-lane mode with its line and event (R176), and no new pair forms. -/
def singleEntry (l : Nat) (payload : List Nat) (s : State) : State := raisePost (257 + 4 * l) l payload (put (Reg.ACT_CTL.PAIR_EN l) 0 s)

/-- HEAD_LINK_TRAINING (R174): each step of the table once the one before has its exit. Lanes that do not lock are left out; with one lane the link runs
single-lane (R176). Log entries 42 (DEDUCED), 216 (DEDUCED), 221 (DEDUCED). -/
def execHeadLinkTraining (l : Nat) (o : TrainObs) (s : State) : Out :=
  let r := hlkOf l s
  let p := lockedLanes o.locks
  let l0 := p.headD 0
  let l1 := p.getD 1 l0
  let lanes := !p.isEmpty
  let aligned := lanes && (p.length == 1 || decide (o.skew ≤ 32))
  let tx := aligned && echoed o s
  let up := tx && framesAdvance o.seqs
  let one := up && p.length == 1
  let u := puts [(Reg.HLK_STAT.LOCK l, o.locks % 8), (Reg.HLK_STAT.TX_UP l, b2n tx), (Reg.HLK_STAT.LOG0 l, l0), (Reg.HLK_STAT.LOG1 l, l1),
    (Reg.HLK_STAT.SINGLE l, b2n (p.length == 1)), (Reg.HLK_STAT.UP l, b2n up), (Reg.HLK_STAT.MISS l, 0)] (setHlk l (trained up r) s)
  let v := if r.faulted then bumpSat (Reg.HLK_STAT.TRIES l) u else u
  let w := if tx then put (Reg.HLK_DELAY.DELAY l) (linkDelay o) v else v
  let x := if one then singleEntry l [l0] w else w
  unit l 2 (occurs (mayTrain l s = true)
    (sendBlocks l ([blkIdle] ++ (if lanes then [blkLanes l0 l1] else []) ++ (if aligned then (tickSeqs s).map (fun q => blkTick q 0) else [])) x) s)

/-! ### Lanes -/

/-- A receive lane is bad (R175): block lock lost, or ERR_THR invalid sync headers within WINDOW tempos. -/
def laneBad (l p : Nat) (s : State) : Bool :=
  !laneLock l p s
  || decide (get (Reg.HLK_PROMO.ERR_THR l) s ≤ ((laneOf p (hlkOf l s)).errAt.filter (fun t => decide (tmpCount s < t + errWindow l s))).length)

/-- The lane is active: logical lane 0 or 1. -/
def laneActive (l p : Nat) (s : State) : Bool := (logicalLane l p s).isSome

/-- The spare lane: the one that is not active, while two are. -/
def spareLane (l : Nat) (s : State) : Nat := 3 - get (Reg.HLK_STAT.LOG0 l) s - get (Reg.HLK_STAT.LOG1 l) s

/-- A spare lane stands by in lock, and is not bad itself. Log entry 219 (DEDUCED). -/
def spareReady (l : Nat) (s : State) : Bool :=
  get (Reg.HLK_STAT.SINGLE l) s == 0 && get (Reg.HLK_STAT.LOG0 l) s != get (Reg.HLK_STAT.LOG1 l) s && !laneBad l (spareLane l s) s

/-- LANE_PROMOTION: the spare lane takes the role of a bad active lane at the next boundary (R175), a promotion of R481. Log entry 220 (DEDUCED). -/
def execLanePromotion (l p : Nat) (s : State) : Out :=
  let sp := spareLane l s
  let q := if get (Reg.HLK_STAT.LOG0 l) s = p then (sp, get (Reg.HLK_STAT.LOG1 l) s, false) else (get (Reg.HLK_STAT.LOG0 l) s, sp, false)
  let t := setHlk l { hlkOf l s with switch := some q } s
  unit l 2 (unit p 3 (occurs (get (Reg.HLK_STAT.UP l) s = 1 ∧ laneBad l p s = true ∧ laneActive l p s = true
      ∧ spareReady l s = true ∧ get (Reg.HLK_CTL.AUTO_PROMO l) s = 1 ∧ (hlkOf l s).switch = none)
    (promoted (if l = 0 then Reg.SPR_INV.HLANE_A else Reg.SPR_INV.HLANE_B)
      (linePost (257 + 4 * l) (Reg.HLK_STAT.PROMOTED l) 1 l [p, sp] t)) s))

/-- SINGLE_LANE_MODE: a bad active lane without a spare, or with AUTO_PROMO 0 (R176): both roles move to the good lane at the next boundary, from
which on head 2's samples stop, and PAIR_EN clears. Log entry 220 (DEDUCED). -/
def execSingleLaneMode (l p : Nat) (s : State) : Out :=
  let g := if get (Reg.HLK_STAT.LOG0 l) s = p then get (Reg.HLK_STAT.LOG1 l) s else get (Reg.HLK_STAT.LOG0 l) s
  let t := setHlk l { hlkOf l s with switch := some (g, g, true) } s
  unit l 2 (unit p 3 (occurs (get (Reg.HLK_STAT.UP l) s = 1 ∧ get (Reg.HLK_STAT.SINGLE l) s = 0 ∧ laneBad l p s = true
      ∧ laneActive l p s = true ∧ (spareReady l s = false ∨ get (Reg.HLK_CTL.AUTO_PROMO l) s = 0) ∧ (hlkOf l s).switch = none)
    (singleEntry l [p] t) s))

/-! ### Sector reports -/

/-- ZMG holds a sector for single-head work (R138, R194, R211). -/
def requeue (q : Nat × Nat) (s : State) : State := { s with zmg := { s.zmg with requeue := s.zmg.requeue ++ [q] } }

/-- A stream has come to a sector: it no longer waits. Log entry 209 (DEDUCED). -/
def dropRequeue (q : Nat × Nat) (s : State) : State := { s with zmg := { s.zmg with requeue := s.zmg.requeue.filter (· != q) } }

/-- HCH reports a sector (R196): counted by its code, with line s on FAILED and line 7 on MISMATCH; one with RETRY waits for single-head work (R194). -/
def reportSector (n : Nat) (r : Report) (s : State) : State :=
  let t := setHch n { hchOf n s with report := some r } s
  let p := bytesOf 3 r.zone ++ bytesOf 3 r.idx
  match r.code with
  | 1 => bump (Reg.HCH_CNT.RECOVERED n) t
  | 2 => raisePost (224 + n) n p (bump (Reg.HCH_CNT.FAILED n)
      { t with zmg := { t.zmg with failed := t.zmg.failed ++ [(r.zone, r.idx)] } })
  | 3 => bump (Reg.HCH_TPCNT.UNWRITTEN n) t
  | 5 => requeue (r.zone, r.idx) t
  | 6 => raisePost 231 n p t
  | _ => t

/-- The sector in progress of a stream is reported ABORTED, and its transfer ends (R177, R200). Log entry 235 (DEDUCED). -/
def abortSector (n : Nat) (s : State) : State :=
  if get (Reg.HCH_STAT.BUSY n) s = 1 then
    let r := hchOf n s
    let q := r.nextSec.getD (get (Reg.HCH_ZONE.ZONE n) s, 0)
    let t := setHch n { r with marked := false, writing := if get (Reg.HCH_STAT.WRITING n) s = 1 then none else r.writing, ladder := none, nextSec := none } s
    reportSector n ⟨4, q.1, q.2, 0⟩ (puts [(Reg.HCH_STAT.BUSY n, 0), (Reg.HCH_STAT.WRITING n, 0)] t)
  else s

/-! ### Faults -/

/-- The conditions of a link fault (R177). -/
def linkFaulty (l : Nat) (pinLow : Bool) (s : State) : Bool :=
  get (Reg.HLK_STAT.UP l) s == 0 || decide (3 ≤ get (Reg.HLK_STAT.MISS l) s) || decide (3 ≤ (hlkOf l s).echoRow) || pinLow

/-- The write gates of both streams drop with URGENT GATE blocks, if the transmit lane is up (R177). -/
def urgentGates (l : Nat) (s : State) : State :=
  if get (Reg.HLK_STAT.TX_UP l) s = 1 then sendBlocks l [blkGate 0 false true 0, blkGate 1 false true 0] s else s

/-- The link's fault pin as it is seen: PIN, with line 3 as it goes low. -/
def seePin (l : Nat) (pinLow : Bool) (s : State) : State :=
  let t := put (Reg.HLK_STAT.PIN l) (b2n pinLow) s
  if pinLow ∧ get (Reg.HLK_STAT.PIN l) s = 0 then raisePost (259 + 4 * l) l [] t else t

/-- A link fault is declared (R177): gates drop, the selected heads trip with cause 4, sectors in progress are ABORTED, FAULT is set with its event and
line, and the link is down until it trains. -/
def declareFault (l : Nat) (s : State) : State :=
  let s1 := urgentGates l s
  let s2 := [1, 2].foldl (fun t k => if headOf l k s < 24 then asxTrip (headOf l k s) 4 t else t) s1
  let s3 := [1, 2].foldl (fun t k => abortSector (streamOf l k s) t) s2
  let s4 := puts [(Reg.HLK_STAT.UP l, 0), (Reg.HLK_STAT.TRIES l, 0)] (setHlk l { hlkOf l s3 with faulted := true, faultAt := tmpCount s } s3)
  linePost (256 + 4 * l) (Reg.HLK_STAT.FAULT l) 1 l [] s4

/-- HEAD_LINK_FAULT: the link's conditions are looked at (R177) with the level of its FAULT_N pin; not while its domain is off (R488). -/
def execHeadLinkFault (l : Nat) (pinLow : Bool) (s : State) : Out :=
  let t := seePin l pinLow s
  unit l 2 (occurs (domOn (10 + l) s = true)
    (if linkRuns l s = true ∧ (hlkOf l s).faulted = false ∧ linkFaulty l pinLow s = true then declareFault l t else t) s)

end Sys2Proof.Machine
end

