-- ==== Sys2Proof/Machine/Sha512.lean ====
section
/-! DEFINITION. SHA-512 and HMAC-SHA-512, which the spec takes from FIPS 180-4 and FIPS 198-1 without giving them. Words are numbers below 2^64, a
digest is 64 bytes. -/

namespace Sys2Proof.Machine

/-- A word rotated right. -/
def rotR (x n : Nat) : Nat := (x >>> n) ||| (x <<< (64 - n)) % 2 ^ 64

/-- The round constants: the fractional parts of the cube roots of the first 80 primes. Log entry 7 (PRESUMED). -/
def shaK : List Nat :=
  [0x428a2f98d728ae22, 0x7137449123ef65cd, 0xb5c0fbcfec4d3b2f, 0xe9b5dba58189dbbc,
   0x3956c25bf348b538, 0x59f111f1b605d019, 0x923f82a4af194f9b, 0xab1c5ed5da6d8118,
   0xd807aa98a3030242, 0x12835b0145706fbe, 0x243185be4ee4b28c, 0x550c7dc3d5ffb4e2,
   0x72be5d74f27b896f, 0x80deb1fe3b1696b1, 0x9bdc06a725c71235, 0xc19bf174cf692694,
   0xe49b69c19ef14ad2, 0xefbe4786384f25e3, 0x0fc19dc68b8cd5b5, 0x240ca1cc77ac9c65]
  ++ [0x2de92c6f592b0275, 0x4a7484aa6ea6e483, 0x5cb0a9dcbd41fbd4, 0x76f988da831153b5,
   0x983e5152ee66dfab, 0xa831c66d2db43210, 0xb00327c898fb213f, 0xbf597fc7beef0ee4,
   0xc6e00bf33da88fc2, 0xd5a79147930aa725, 0x06ca6351e003826f, 0x142929670a0e6e70,
   0x27b70a8546d22ffc, 0x2e1b21385c26c926, 0x4d2c6dfc5ac42aed, 0x53380d139d95b3df,
   0x650a73548baf63de, 0x766a0abb3c77b2a8, 0x81c2c92e47edaee6, 0x92722c851482353b]
  ++ [0xa2bfe8a14cf10364, 0xa81a664bbc423001, 0xc24b8b70d0f89791, 0xc76c51a30654be30,
   0xd192e819d6ef5218, 0xd69906245565a910, 0xf40e35855771202a, 0x106aa07032bbd1b8,
   0x19a4c116b8d2d0c8, 0x1e376c085141ab53, 0x2748774cdf8eeb99, 0x34b0bcb5e19b48a8,
   0x391c0cb3c5c95a63, 0x4ed8aa4ae3418acb, 0x5b9cca4f7763e373, 0x682e6ff3d6b2b8a3,
   0x748f82ee5defb2fc, 0x78a5636f43172f60, 0x84c87814a1f0ab72, 0x8cc702081a6439ec]
  ++ [0x90befffa23631e28, 0xa4506cebde82bde9, 0xbef9a3f7b2c67915, 0xc67178f2e372532b,
   0xca273eceea26619c, 0xd186b8c721c0c207, 0xeada7dd6cde0eb1e, 0xf57d4f7fee6ed178,
   0x06f067aa72176fba, 0x0a637dc5a2c898a6, 0x113f9804bef90dae, 0x1b710b35131c471b,
   0x28db77f523047d84, 0x32caab7b40c72493, 0x3c9ebe0a15c9bebc, 0x431d67c49c100d4c,
   0x4cc5d4becb3e42b6, 0x597f299cfc657e2a, 0x5fcb6fab3ad6faec, 0x6c44198c4a475817]

/-- The eight working words. -/
structure ShaState where
  a : Nat
  b : Nat
  c : Nat
  d : Nat
  e : Nat
  f : Nat
  g : Nat
  h : Nat
deriving DecidableEq, Repr

/-- The initial words: the fractional parts of the square roots of the first eight primes. Log entry 7 (PRESUMED). -/
def shaInit : ShaState :=
  ⟨0x6a09e667f3bcc908, 0xbb67ae8584caa73b, 0x3c6ef372fe94f82b, 0xa54ff53a5f1d36f1,
   0x510e527fade682d1, 0x9b05688c2b3e6c1f, 0x1f83d9abfb41bd6b, 0x5be0cd19137e2179⟩

def addW (x y : Nat) : Nat := (x + y) % 2 ^ 64

/-- One round with its constant and its word. -/
def shaRound (s : ShaState) (k w : Nat) : ShaState :=
  let t1 := s.h + (rotR s.e 14 ^^^ rotR s.e 18 ^^^ rotR s.e 41) + ((s.e &&& s.f) ^^^ ((2 ^ 64 - 1 - s.e) &&& s.g)) + k + w
  let t2 := (rotR s.a 28 ^^^ rotR s.a 34 ^^^ rotR s.a 39) + ((s.a &&& s.b) ^^^ (s.a &&& s.c) ^^^ (s.b &&& s.c))
  ⟨addW t1 t2, s.a, s.b, s.c, addW s.d t1, s.e, s.f, s.g⟩

/-- The rounds, over a window of the next sixteen words of the schedule. -/
def shaRounds : (ks w : List Nat) → ShaState → ShaState
  | [], _, s => s
  | k :: ks, w, s =>
    let x := w.getD 1 0
    let y := w.getD 14 0
    let n := (rotR y 19 ^^^ rotR y 61 ^^^ (y >>> 6)) + w.getD 9 0 + (rotR x 1 ^^^ rotR x 8 ^^^ (x >>> 7)) + w.getD 0 0
    shaRounds ks (w.drop 1 ++ [n % 2 ^ 64]) (shaRound s k (w.getD 0 0))

/-- A number from bytes, high byte first. -/
def beNat (l : List Nat) : Nat := l.foldl (fun v b => 256 * v + b % 256) 0

/-- The n bytes of a number, high byte first. -/
def beBytes : (n v : Nat) → List Nat
  | 0, _ => []
  | n + 1, v => beBytes n (v / 256) ++ [v % 256]

/-- One block of 128 bytes. -/
def shaBlock (s : ShaState) (l : List Nat) : ShaState :=
  let t := shaRounds shaK ((List.range 16).map (fun i => beNat ((l.drop (8 * i)).take 8))) s
  ⟨addW s.a t.a, addW s.b t.b, addW s.c t.c, addW s.d t.d, addW s.e t.e, addW s.f t.f, addW s.g t.g, addW s.h t.h⟩

def shaBlocks : (n : Nat) → (l : List Nat) → ShaState → ShaState
  | 0, _, s => s
  | n + 1, l, s => shaBlocks n (l.drop 128) (shaBlock s l)

/-- The message with its padding: a one bit, zeroes, and its length in bits. -/
def shaPad (l : List Nat) : List Nat :=
  l ++ [128] ++ List.replicate ((239 - l.length % 128) % 128) 0 ++ beBytes 16 (8 * l.length)

/-- The SHA-512 digest of bytes, as 64 bytes (FIPS 180-4). Log entry 7 (PRESUMED). -/
def sha512 (l : List Nat) : List Nat :=
  let p := shaPad l
  let s := shaBlocks (p.length / 128) p shaInit
  [s.a, s.b, s.c, s.d, s.e, s.f, s.g, s.h].flatMap (beBytes 8)

/-- HMAC-SHA-512 under a key of at most 128 bytes (FIPS 198-1). Log entry 7 (PRESUMED). -/
def hmac (key l : List Nat) : List Nat :=
  let k := key ++ List.replicate (128 - key.length) 0
  sha512 (k.map (· ^^^ 0x5c) ++ sha512 (k.map (· ^^^ 0x36) ++ l))

end Sys2Proof.Machine
end

