-- ==== Sys2Proof/Machine/P521.lean ====
section
/-! DEFINITION. ECDSA on P-521 in its deterministic form with HMAC-SHA-512, which the spec takes from FIPS 186-5 without giving it. A signature is the 66
bytes of r, then the 66 of s; a public key the 66 of X, then the 66 of Y, high byte first. -/

namespace Sys2Proof.Machine

/-- The prime of the field, the order of the group, and the coefficient b; a is p - 3. Log entry 8 (PRESUMED). -/
def ecP : Nat := 2 ^ 521 - 1
def ecN : Nat := 0x1fffffffffffffffffffffffffffffffffffffffffffffffffffffffffffffffffa51868783bf2f966b7fcc0148f709a5d03bb5c9b8899c47aebb6fb71e91386409
def ecB : Nat := 0x51953eb9618e1c9a1f929a21a0b68540eea2da725b99b315f3b8b489918ef109e156193951ec7e937b1652c0bd3bb1bf073573df883d2c34f1ef451fd46b503f00

/-- A point in Jacobian coordinates; z = 0 is the point at infinity. -/
structure EcPoint where
  x : Nat
  y : Nat
  z : Nat
deriving DecidableEq, Repr

/-- The base point. Log entry 8 (PRESUMED). -/
def ecG : EcPoint :=
  ⟨0xc6858e06b70404e9cd9e3ecb662395b4429c648139053fb521f828af606b4d3dbaa14b5e77efe75928fe1dc127a2ffa8de3348b3c1856a429bf97e7e31c2e5bd66,
   0x11839296a789a3bc0045c8a5fb42c7d1bd998f54449579b446817afbd17273e662c97ee72995ef42640c550b9013fad0761353c7086a272c24088be94769fd16650, 1⟩

/-- A power modulo m of an n-bit exponent. -/
def powMod (m b e : Nat) : (n : Nat) → Nat
  | 0 => 1 % m
  | n + 1 => let r := powMod m b (e / 2) n
             if e % 2 = 1 then r * r % m * b % m else r * r % m

/-- The inverse modulo a prime. -/
def invMod (m v : Nat) : Nat := powMod m v (m - 2) 521

def subP (x y : Nat) : Nat := (x + (ecP - y % ecP)) % ecP

/-- A point doubled. -/
def ecDouble (q : EcPoint) : EcPoint :=
  let dl := q.z * q.z % ecP
  let ga := q.y * q.y % ecP
  let be := q.x * ga % ecP
  let al := 3 * (subP q.x dl * (q.x + dl)) % ecP
  let x := subP (al * al) (8 * be)
  let s := q.y + q.z
  ⟨x, subP (al * subP (4 * be) x) (8 * (ga * ga)), subP (subP (s * s) ga) dl⟩

/-- The sum of two points. -/
def ecAdd (q r : EcPoint) : EcPoint :=
  if q.z = 0 then r
  else if r.z = 0 then q
  else
    let z1 := q.z * q.z % ecP
    let z2 := r.z * r.z % ecP
    let u1 := q.x * z2 % ecP
    let u2 := r.x * z1 % ecP
    let s1 := q.y * r.z % ecP * z2 % ecP
    let s2 := r.y * q.z % ecP * z1 % ecP
    if u1 = u2 then (if s1 = s2 then ecDouble q else ⟨1, 1, 0⟩)
    else
      let h := subP u2 u1
      let d := subP s2 s1
      let h2 := h * h % ecP
      let h3 := h * h2 % ecP
      let v := u1 * h2 % ecP
      let x := subP (subP (d * d) h3) (2 * v)
      ⟨x, subP (d * subP v x) (s1 * h3), q.z * r.z % ecP * h % ecP⟩

/-- The multiple of a point by an n-bit number, low bit first. -/
def ecMul : (n k : Nat) → (q : EcPoint) → EcPoint
  | 0, _, _ => ⟨1, 1, 0⟩
  | n + 1, k, q =>
    let r := ecMul n (k / 2) (ecDouble q)
    if k % 2 = 1 then ecAdd q r else r

/-- The affine coordinates of a point. -/
def ecAffine (q : EcPoint) : Nat × Nat :=
  let i := invMod ecP q.z
  let i2 := i * i % ecP
  (q.x * i2 % ecP, q.y * (i2 * i % ecP) % ecP)

/-- The public key of a private scalar: X, then Y (FIPS 186-5). Log entry 8 (PRESUMED). -/
def publicKey (k : Nat) : List Nat :=
  let a := ecAffine (ecMul 521 k ecG)
  beBytes 66 a.1 ++ beBytes 66 a.2

/-- A digest as a number: its 512 bits are fewer than those of the order. -/
def digestNat (d : List Nat) : Nat := beNat d

/-- The signature of a digest under a key with a per-message number, where both parts are not 0. -/
def ecSignWith (key e k : Nat) : Option (List Nat) :=
  let r := (ecAffine (ecMul 521 k ecG)).1 % ecN
  let s := invMod ecN k * ((e + r * key) % ecN) % ecN
  if r = 0 ∨ s = 0 then none else some (beBytes 66 r ++ beBytes 66 s)

/-- The next candidate of the deterministic generator: two digests give 66 bytes, of which the high 521 bits count. -/
def detStep (k v : List Nat) : Nat × List Nat × List Nat :=
  let v1 := hmac k v
  let v2 := hmac k v1
  (beNat ((v1 ++ v2).take 66) / 2 ^ 7, k, v2)

/-- The candidates in turn, until one gives a signature; `n` bounds them. -/
def detSign (key e : Nat) : (n : Nat) → (k v : List Nat) → List Nat
  | 0, _, _ => []
  | n + 1, k, v =>
    let c := detStep k v
    match (if 1 ≤ c.1 ∧ c.1 < ecN then ecSignWith key e c.1 else none) with
    | some l => l
    | none =>
      let k1 := hmac k (c.2.2 ++ [0])
      detSign key e n k1 (hmac k1 c.2.2)

/-- The deterministic signature of a digest under a private scalar (FIPS 186-5). Log entry 8 (PRESUMED). -/
def signP521 (key : Nat) (d : List Nat) : List Nat :=
  let e := digestNat d
  let seed := beBytes 66 key ++ beBytes 66 (e % ecN)
  let v0 := List.replicate 64 1
  let k1 := hmac (List.replicate 64 0) (v0 ++ [0] ++ seed)
  let v1 := hmac k1 v0
  let k2 := hmac k1 (v1 ++ [1] ++ seed)
  detSign key e 64 k2 (hmac k2 v1)

/-- A public key is a point of the curve other than infinity. -/
def ecOn (x y : Nat) : Bool := decide (x < ecP) && decide (y < ecP) && (y * y % ecP == (x * x % ecP * x + (ecP - 3) * x + ecB) % ecP)

/-- A signature checks: r then s, over a digest, under a public key (FIPS 186-5). Log entry 8 (PRESUMED). -/
def verifyP521 (key d sig : List Nat) : Bool :=
  let r := beNat (sig.take 66)
  let s := beNat ((sig.drop 66).take 66)
  let x := beNat (key.take 66)
  let y := beNat ((key.drop 66).take 66)
  let w := invMod ecN s
  let u1 := digestNat d * w % ecN
  let u2 := r * w % ecN
  let q := ecAdd (ecMul 521 u1 ecG) (ecMul 521 u2 ⟨x, y, 1⟩)
  decide (1 ≤ r) && decide (r < ecN) && decide (1 ≤ s) && decide (s < ecN) && ecOn x y
  && q.z != 0 && (ecAffine q).1 % ecN == r

end Sys2Proof.Machine
end

