-- ==== Sys2Proof/Machine/ImageFile.lean ====
section
/-! DEFINITION. An Etnyx image as its slot's bytes hold it (R52 to R55, R75, R76, R497): header, sections, signature, and what the sections give. -/

namespace Sys2Proof.Machine

/-! ### Slot bytes -/

/-- n bytes of a slot: flash beyond what was downloaded reads FFH. Log entry 169 (DESIGN CHOICE). -/
def slotBytes (l : List Nat) (a n : Nat) : List Nat :=
  let x := (l.drop a).take n
  x ++ List.replicate (n - x.length) 255

/-- A little-endian field of a slot (R52). -/
def slotNat (l : List Nat) (a n : Nat) : Nat := ofBytes (slotBytes l a n)

/-- The digest of bytes as a number, first byte lowest. -/
def hash (l : List Nat) : Nat := ofBytes (sha512 l)

/-! ### Sections -/

/-- Section entry k of a slot (R52), with its bytes where they lie inside LENGTH. -/
def parseSection (l : List Nat) (len k : Nat) : ImgSection :=
  let a := 0x20 + 24 * k
  let o := slotNat l (a + 4) 4
  let z := slotNat l (a + 8) 4
  { type := slotNat l a 2, required := (slotNat l (a + 2) 2).testBit 0, offset := o, size := z, load := slotNat l (a + 16) 8
    data := if o + z ≤ len then slotBytes l o z else [] }

/-- The bytes of an image's sections of a type, in the order of their entries. Log entry 170 (DEDUCED). -/
def sectionData (t : Nat) (l : List ImgSection) : List Nat := (l.filter (·.type == t)).flatMap (·.data)

/-! ### Programs -/

/-- A program at the front of bytes (R75): the 256-byte header, little-endian, and N_INSTR words of 4 bytes. -/
def parseProgram (l : List Nat) : Program :=
  let f (a n : Nat) : Nat := ofBytes ((l.drop a).take n)
  { magic := f 0 4, engine := f 4 1, version := f 5 1, nInstr := f 6 2, staticCycles := f 8 2, nFetch := f 10 2, nCoef := f 12 2, nState := f 14 2
    inputs := (l.drop 0x10).take 64, outputSafe := (l.drop 0x50).take 32
    fe := (List.range 16).map (fun m => (f (0x70 + 8 * m) 4, f (0x74 + 8 * m) 4))
    tail := (l.drop 0xF0).take 16
    words := (List.range (min (f 6 2) ((l.length - 256) / 4))).map (fun i => f (256 + 4 * i) 4) }

/-- The programs of section type 6 (R76): one after another on 16-byte boundaries, while a header's 256 bytes are left. Log entry 170 (DEDUCED). -/
def parsePrograms : (n : Nat) → (l : List Nat) → List Program
  | 0, _ => []
  | n + 1, l =>
    if l.length < 256 then []
    else
      let p := parseProgram l
      p :: parsePrograms n (l.drop ((256 + 4 * p.nInstr + 15) / 16 * 16))

/-! ### The image -/

/-- The field that a key names. -/
def fieldOfKey (k : Nat) : Option Fld := ((fieldsAt (k / 32)).find? (fun p => p.1.lo == k % 32)).map (·.1)

/-- The values that an image gives register fields (R10): only fields that an image may load, and none from sections without bytes. -/
def imageValues (content : List Nat) : List (Fld × Nat) :=
  if content = [] then []
  else ((Config.imageFields content).filter (fun p => keyIn Reg.imaged p.1)).filterMap (fun p => (fieldOfKey p.1).map (fun f => (f, p.2)))

/-- The words of section type 4 (R497), and the presets of section type 8: an address of 8 bytes and a value of 4 (R54). -/
def wordsOf (l : List Nat) : List Nat := (List.range (l.length / 4)).map (fun n => ofBytes ((l.drop (4 * n)).take 4))
def presetsOf (l : List Nat) : List (Nat × Nat) :=
  (List.range (l.length / 12)).map (fun n => (ofBytes ((l.drop (12 * n)).take 8), ofBytes ((l.drop (12 * n + 8)).take 4)))

/-- IMAGE_HEADER: what a slot's bytes say (R52 to R54). LENGTH beyond the slot reads no section and no signature. Log entries 170 (DEDUCED), 182 (PRESUMED). -/
def parseImage (l : List Nat) : Image :=
  let len := slotNat l 8 4
  let fits := decide (len + 132 ≤ 0x2000000)
  let secs := (List.range (min 16 (slotNat l 0x15 1))).map (parseSection l (if fits then len else 0))
  let geo := sectionData 1 secs ++ sectionData 3 secs
  let co := sectionData 7 secs
  let opt := sectionData 3 secs
  { magic := slotNat l 0 4, hdrVer := slotNat l 4 2, hdrSize := slotNat l 6 2, length := len, generation := slotNat l 12 4
    part := slotNat l 16 4, keySlot := slotNat l 0x14 1, flags := slotNat l 0x16 2, entry := slotNat l 0x18 8, sections := secs
    pubkey := slotBytes l 0x1A0 132, signature := if fits then slotBytes l len 132 else []
    digest := if fits then hash (slotBytes l 0 len) else 0
    padWords := wordsOf (sectionData 4 secs)
    programs := (secs.filter (·.type == 6)).flatMap (fun x => parsePrograms (x.data.length / 256) x.data)
    coefs := if co = [] then [] else (List.range 5).map (Config.coefTable co)
    presets := presetsOf (sectionData 8 secs)
    layers := if opt = [] then 0 else Config.discLayers opt
    clusters := if opt = [] then 0 else Config.layerClusters opt
    fields := imageValues geo }

/-! ### Verification -/

def requiredTypes : List Nat := [1, 4, 5, 6, 7]

/-- Two sections overlap. Log entry 157 (DEDUCED). -/
def secOverlap (a b : ImgSection) : Bool := decide (a.offset < b.offset + b.size) && decide (b.offset < a.offset + a.size)

def anyOverlap : List ImgSection → Bool
  | [] => false
  | a :: t => t.any (secOverlap a) || anyOverlap t

/-- IMAGE_VERIFY: the checks of R55, the signature of R53 over the digest of the slot's bytes among them. -/
def imageOk (fuses : List KeyFuse) (i : Image) : Bool :=
  let f := fuses.getD i.keySlot {}
  i.magic == 0x584E5445 && i.hdrVer == 1 && i.hdrSize == 1024 && i.part == 0x8650
  && decide (i.length + 132 ≤ 0x2000000)
  && decide (i.keySlot < 4) && !f.revoked && f.hash == some (hash i.pubkey)
  && i.sections.all (fun x => decide (x.offset + x.size ≤ i.length)) && !anyOverlap i.sections
  && requiredTypes.all (fun k => i.sections.any (fun x => x.type == k))
  && i.sections.all (fun x => (decide (1 ≤ x.type) && decide (x.type ≤ 8)) || !x.required)
  && verifyP521 i.pubkey (bytesOf 64 i.digest) i.signature

/-- The image of a slot's bytes, where it verifies; a slot with nothing in it holds none. Log entry 169 (DESIGN CHOICE). -/
def imageOf (fuses : List KeyFuse) (l : List Nat) : Option Image :=
  if l = [] then none
  else
    let i := parseImage l
    if imageOk fuses i then some i else none

end Sys2Proof.Machine
end

