-- ==== Sys2Proof/Machine/Channel.lean ====
section
/-! DEFINITION. 07_disk_read_channel.md, the streams: sector writes with track parity (R183, R184, R197 to R199), decoding (R189 to R193), the
retry ladder (R194, R195), seeds (R187), stream failures (R200) and the parity accumulators of HCH_TP_CTL. -/

namespace Sys2Proof.Machine

/-- The actuator and the head that a stream serves. -/
def servedBy (n : Nat) (s : State) : Option (Nat × Nat) :=
  [(0, 1), (0, 2), (1, 1), (1, 2)].find? (fun p => streamOf p.1 p.2 s == n)

/-- In BRINGUP only the streams of the first heads run (R58, R168): 0 and 2, or stream 4 in the place of one of them. Log entry 237 (DEDUCED). -/
def runsInMode (n : Nat) (s : State) : Bool :=
  mode s != 2 || (match servedBy n s with | none => false | some q => q.2 == 1)

/-- A stream runs: in service, not failed (R168, R200). -/
def streamRuns (n : Nat) (s : State) : Bool := get (Reg.HCH_CTL.EN n) s == 1 && get (Reg.HCH_STAT.FAILED n) s == 0 && runsInMode n s

/-! ### Writing -/

/-- The k data sectors of a group before p, XORed from what the stream has written lately, where it has them all. -/
def accRebuilt (r : HchSt) (z p k : Nat) : Option Nat :=
  if (recentIn r z (p - k) p).length = k then some (xorAll ((recentIn r z (p - k) p).map (·.info))) else none

/-- The stream's accumulator as it stands for a zone with k data sectors of the group before p: empty without any; the stream's own, as written or as LOAD has given
it; the one ZMG loads from the descriptor where the stream comes to the zone (R184, R212); rebuilt where it is lost, from the media where the stream's last sectors do
not give it (none: the media's contents are not in the model). Log entries 43 (DEDUCED), 229 (DEDUCED). -/
def accFor (n z p k : Nat) (s : State) : Option Nat :=
  let r := hchOf n s
  let d := zoneOf z s
  if k = 0 then some 0
  else if (r.writing = some z ∨ r.loaded = true) ∧ !r.accLost then some r.acc
  else if r.writing ≠ some z ∧ d.acc ≠ 0 then some (memNat d.acc 4128 s)
  else accRebuilt r z p k

/-- The accumulator as a value: a free one where the media gives it. Log entry 43 (DEDUCED). -/
def accVal (n z p k : Nat) (s : State) : Nat := (accFor n z p k s).getD (freeVal 33024 s)
def accTaken (n z p k : Nat) (s : State) : State := if (accFor n z p k s).isNone then freed s else s

/-- The recent sectors with one more. -/
def pushRecent (w : Written) (l : List Written) : List Written := (l ++ [w]).drop (l.length + 1 - 62)

/-- The information number of a data sector as it is written now (R181, R197). -/
def sectorInfo (z p data pi : Nat) (s : State) : Nat :=
  let d := zoneOf z s
  ofBytes (sectorBytes d.phys (physIdx (isShingled d) p) (tmpCount s) pi data)

/-- The sector slot that comes next of a stream's 60 (R201). -/
def sectorSlot (n : Nat) (s : State) : Nat := streamBuf n + 0x80000 + 4128 * (hchOf n s).slot

/-- A sector's information bytes stand in the next sector slot (R197, R201). -/
def fillSlot (n info : Nat) (s : State) : State :=
  setHch n { hchOf n s with slot := ((hchOf n s).slot + 1) % 60 } (memPut (sectorSlot n s) 4128 info s)

/-- A physical sector leaves stream n for its head. -/
def emitSector (n zone idx info : Nat) (s : State) : State :=
  match servedBy n s with | none => s | some q => sendSector q.1 q.2 n zone idx info s

/-- A data sector has reached its end without a permit fall (R184, R197, R207): it leaves for the head from its sector slot, its group's accumulator takes it, the
media write pointer passes it and the cache releases its block. A full group's parity sector is then due. -/
def sectorDone (n z p data pi : Nat) (s : State) : State :=
  let d := zoneOf z s
  let info := sectorInfo z p data pi s
  let s1 := emitSector n d.phys (physIdx (isShingled d) p) info (fillSlot n info s)
  let r := hchOf n s1
  let rec1 := pushRecent ⟨z, p, tmpCount s, info⟩ r.recent
  if isShingled d then
    let s2 := setHch n { r with acc := accVal n z p (p % 31) s ^^^ info, accN := p % 31 + 1, accLost := false, loaded := false
                                writing := some z, recent := rec1 } (accTaken n z p (p % 31) s1)
    noteEligible z <| onMedia z p (setZone z { d with media := p + 1, group := p % 31 + 1 } s2)
  else onMedia z p (setHch n { r with writing := some z, recent := rec1 } s1)

/-- The parity sector of a zone is due (R184, R210): its group is full, or ends where the zone was finished. Log entry 228 (DEDUCED). -/
def parityDue (z : Nat) (s : State) : Bool :=
  let d := zoneOf z s
  isShingled d && d.group != 0 && (d.media % 31 == 0 || d.media == 65536 || s.zmg.finish.contains (z, d.media))

/-- The parity sector is written from the accumulator, encoded and scrambled under its own PSA (R183, R184), with its own report. -/
def writeParity (n z : Nat) (s : State) : State :=
  let d := zoneOf z s
  let idx := parityIdx (d.media - 1)
  let acc := accVal n z d.media d.group s
  let t := emitSector n d.phys idx acc (fillSlot n acc (accTaken n z d.media d.group s))
  let u := setZone z { d with group := 0, acc := 0 } (setHch n { hchOf n t with acc := 0, accN := 0, accLost := false, loaded := false, writing := some z } t)
  reportSector n ⟨0, d.phys, idx, 0⟩
    (noteEligible z { u with zmg := { u.zmg with finish := u.zmg.finish.filter (fun q => q != (z, d.media)) } })

/-- A transfer ends (R212): an open group's accumulator is saved to DRAM and its address goes into the descriptor. -/
def saveOpen (n z accAddr : Nat) (s : State) : State :=
  let d := zoneOf z s
  let r := hchOf n s
  let t := puts [(Reg.HCH_STAT.BUSY n, 0), (Reg.HCH_STAT.WRITING n, 0)] (setHch n { r with writing := none, loaded := false, nextSec := none } s)
  if isShingled d ∧ d.group ≠ 0 then
    setZone z { d with acc := accAddr } (memPut accAddr 4128 r.acc (put Reg.HCH_TP_CTL.COUNT r.accN t))
  else t

/-- The sector can be handed to the stream: the stream runs, the zone manager runs, the zone is neither being recovered nor relocated (R216,
R227), no PFAIL_N holds (R142), a shingled zone is written at its media write pointer only (R211), and a cached line has all
its sub-sectors (R224). -/
def mayHand (n z p : Nat) (s : State) : Bool :=
  let d := zoneOf z s
  streamRuns n s && get Reg.ZMG_CTL.EN s == 1 && !d.recov && !d.reloc && s.pins.pfailN && (decide (p < 65536) || parityDue z s)
  && (!isShingled d || d.media == p)
  && (match lineOf d.ns (blockOf z p s) s with | none => true | some c => c.mask == 255)

/-- The head a stream serves may write: its permit is 1 and no rule has marked the sector (R139, R141, R157). -/
def mayWrite (n : Nat) (s : State) : Bool :=
  let r := hchOf n s
  match servedBy n s with
  | none => false
  | some q => get (permitFld q.1 q.2) s == 1 && !r.marked && !r.hopMark

/-- The head of a stream has written in this tempo (R150, R156). -/
def wroteMark (n : Nat) (s : State) : State :=
  match servedBy n s with
  | none => s
  | some q => if 24 ≤ headOf q.1 q.2 s then s else setAsx (headOf q.1 q.2 s) { asxOf (headOf q.1 q.2 s) s with wrote := true } s

/-- The user bytes of a data sector: the cached block's, or those that ZMG supplies from elsewhere. -/
def userData (z p data : Nat) (s : State) : Nat := ((lineOf (zoneOf z s).ns (blockOf z p s) s).map (·.data)).getD data

/-- The transfer of a stream writes in a zone (HCH_STAT, HCH_ZONE). -/
def showWriting (n z : Nat) (s : State) : State :=
  wroteMark n (puts [(Reg.HCH_STAT.BUSY n, 1), (Reg.HCH_STAT.WRITING n, 1), (Reg.HCH_ZONE.ZONE n, (zoneOf z s).phys)] s)

/-- The sector that comes after data sector p of a zone. -/
def sectorAfter (z p : Nat) (s : State) : Nat × Nat := ((zoneOf z s).phys, physIdx (isShingled (zoneOf z s)) (p + 1))

/-- One data sector under a permit, with its report OK. Log entry 44 (DEDUCED). -/
def writeSector (n z p data pi : Nat) (s : State) : State :=
  let d := zoneOf z s
  let i := physIdx (isShingled d) p
  let t := dropRequeue (d.phys, i) (sectorDone n z p (userData z p data s) pi (showWriting n z s))
  reportSector n ⟨0, d.phys, i, 0⟩ (setHch n { hchOf n t with nextSec := some (sectorAfter z p s) } t)

/-- A physical sector whose permit fell (R199): reported UNWRITTEN, added to no accumulator; the write stops. Log entry 44 (DEDUCED). -/
def unwritten (n z idx : Nat) (s : State) : State :=
  reportSector n ⟨3, (zoneOf z s).phys, idx, 0⟩
    (puts [(Reg.HCH_STAT.BUSY n, 0), (Reg.HCH_STAT.WRITING n, 0)] (setHch n { hchOf n s with marked := false } s))

/-- The parity sector that is due before the next data sector (R184): written under the permit, UNWRITTEN without it. Log entry 228 (DEDUCED). -/
def parityFirst (n z : Nat) (s : State) : State :=
  if mayWrite n s then writeParity n z (showWriting n z s) else unwritten n z (parityIdx ((zoneOf z s).media - 1)) s

/-- The data sector of a row, and the parity sector that it leaves due where the transfer does not go on. Log entry 228 (DEDUCED). -/
def dataThen (n z p data pi : Nat) (last : Bool) (s : State) : State :=
  if mayWrite n s then
    (let t := writeSector n z p data pi s
     if last ∧ parityDue z t = true then writeParity n z t else t)
  else unwritten n z (physIdx (isShingled (zoneOf z s)) p) s

/-- The sectors that a row writes: the parity sector that is due and, unless the zone is finished or full there, the data sector. Log entry 228 (DEDUCED). -/
def writeRow (n z p data pi : Nat) (last : Bool) (s : State) : State :=
  if parityDue z s then
    (let t := parityFirst n z s
     if parityDue z t = true ∨ s.zmg.finish.contains (z, p) ∨ 65536 ≤ p then t else dataThen n z p data pi last t)
  else dataThen n z p data pi last s

/-- The head that stream n serves stops at the end of the sector in progress: ACT_CTL.UNPAIR or its retirement waits for it (R138, R165). -/
def stopsHere (n : Nat) (s : State) : Bool :=
  match servedBy n s with
  | none => false
  | some q => (q.2 == 2 && (actOf q.1 s).unpairPend) || (asxOf (headOf q.1 q.2 s) s).readAtEnd

/-- A head that was to stop writing at the end of the sector goes to READ (R165). -/
def readAfter (h : Nat) (s : State) : State :=
  if (asxOf h s).readAtEnd then
    (let t := setAsx h { asxOf h s with readAtEnd := false } s
     if 2 ≤ asxState h s ∧ asxState h s ≤ 4 then asxGo h 1 (readyFall h t) else t)
  else s

/-- The sector in progress of a stream has ended: what waited for it happens (R138, R165). -/
def sectorEnds (n : Nat) (s : State) : State :=
  match servedBy n s with
  | none => s
  | some q =>
    let t := readAfter (headOf q.1 q.2 s) s
    if q.2 = 2 ∧ (actOf q.1 s).unpairPend = true ∧ get (Reg.ACT_STAT.PAIRED q.1) s = 1 then pairFallback q.1 6 t else t

/-- SECTOR_WRITE: stream n writes data sector p of logical zone lz to its end (R197): user bytes from the write cache or those given,
protection information, whether the transfer goes on; `accAddr` is where ZMG saves an accumulator that the transfer's end
leaves open. A parity sector that is due goes before it. -/
def execSectorWrite (n lz p data pi : Nat) (more : Bool) (accAddr : Nat) (s : State) : Out :=
  let t := writeRow n lz p data pi (!more || p == 65535) s
  unit n 5 (occurs (mayHand n lz p s = true)
    (sectorEnds n (if more ∧ stopsHere n s = false then t else saveOpen n lz accAddr t)) s)

/-- The sectors that a hop marks (R157): those written since the start of the tempo before the latch; in a shingled zone the media write pointer goes back to
the first of them, in a conventional one they are dirty again. Log entry 46 (DEDUCED). -/
def hopRewind (n : Nat) (s : State) : State :=
  let l := (hchOf n s).recent.filter (fun w => decide (tmpCount s ≤ w.tempo + 1))
  match l with
  | [] => s
  | w :: _ => l.foldl (fun t q => reportSector n ⟨3, (zoneOf q.lz s).phys, physIdx (isShingled (zoneOf q.lz s)) q.p, 0⟩ t)
      (rewind n w.lz w.p (countDirty (relist (l.filter (fun q => !isShingled (zoneOf q.lz s))) s)))

/-! ### Sync marks and candidates -/

/-- The differing bits of w detected bits, from bit i of a number on, and a mark that is written highest bit first (R189). Log entry 222 (DEDUCED). -/
def markDiff (w mark det i : Nat) : Nat := ((List.range w).filter (fun j => det.testBit (i + j) != mark.testBit (w - 1 - j))).length

/-- The hits of a mark of w bits (R188, R189): the positions within ±reach of its prediction that differ in at most `tol` bits, `first` being the detected bit at the prediction. -/
def markHits (w mark reach tol det : Nat) (first : Int) : List (Int × Nat) :=
  ((List.range (2 * reach + 1)).map (fun (j : Nat) =>
    let o := (j : Int) - reach
    (o, markDiff w mark det (first + o).toNat))).filter (fun h => decide (h.2 ≤ tol))

/-- The rank of hits: fewer differing bits, then nearer, then later before earlier. -/
def hitBefore (x y : Int × Nat) : Bool :=
  decide (x.2 < y.2) || (x.2 == y.2 && (decide (x.1.natAbs < y.1.natAbs) || (x.1.natAbs == y.1.natAbs && decide (y.1 ≤ x.1))))

def bestHit (l : List (Int × Nat)) : Option (Int × Nat) :=
  l.foldl (fun b h => match b with | none => some h | some c => some (if hitBefore c h then c else h)) none

/-- The two best hits: one 9 to 16 bits early never ranks first while another lies 8 bits early or later. -/
def twoHits (l : List (Int × Nat)) : Option (Int × Nat) × Option (Int × Nat) :=
  let near := l.filter (fun h => decide (-8 ≤ h.1))
  let first := if near.isEmpty then bestHit l else bestHit near
  match first with
  | none => (none, none)
  | some f => (some f, bestHit (l.filter (fun h => h != f)))

/-- A candidate alignment (R190): part 1 (none: erased) and part 2 in bits against the packing, and the fragments after resync marks (none: erased). -/
structure Cand where
  part1 : Option Int
  part2 : Int
  frags : List (Option Int)
deriving DecidableEq, Repr

/-- The hits of SM1, and of SM2, predicted 2,080 bits after the SM1 hit used or from the packing (R189), as offsets against the packing. -/
def sm1Hits (tol : Nat) (o : SectorObs) : List (Int × Nat) := markHits 32 0x3A9F1C67 16 tol o.sm1 16
def sm2Hits (tol : Nat) (used : Option Int) (o : SectorObs) : Option Int × Option Int :=
  let c := used.getD 0
  let h := twoHits (markHits 32 0xC560E398 16 tol o.sm2 (32 + c))
  (h.1.map (·.1 + c), h.2.map (·.1 + c))

/-- The best position of a resync mark (R188), if it is not missed. -/
def resyncHit (tol det : Nat) : Option Int := (bestHit (markHits 16 0x1D4B 8 tol det 8)).map (·.1)

/-- Part 2 of a candidate with its own timing c: SM2's first-ranked hit inside the window predicted from it, and its own timing otherwise (R190). Log entry 230 (DEDUCED). -/
def partTwoAt (sm2 : Option Int) (c : Int) : Int := match sm2 with | none => c | some g => if (g - c).natAbs ≤ 16 then g else c

/-- Candidates A and B (R190). A fragment whose mark was missed is taken at the loop's own timing (R188), and erased in the B that is A. Log entry 230 (DEDUCED). -/
def candidates (tol rsTol : Nat) (o : SectorObs) : Option Cand × Option Cand :=
  let h1 := twoHits (sm1Hits tol o)
  let h2 := sm2Hits tol (h1.1.map (·.1)) o
  let rs := o.rs.map (resyncHit rsTol)
  let own := rs.map (fun m => some (m.getD 0))
  let full (f : Int × Nat) : Cand := ⟨some f.1, partTwoAt h2.1 f.1, own⟩
  let only (g : Int) : Cand := ⟨none, g, own⟩
  let a := match h1.1 with | some f => some (full f) | none => h2.1.map only
  let b := match h1.1 with
    | some _ => (match h1.2 with | some g => some (full g) | none => h2.1.map only)
    | none => h2.2.map only
  (a, if b.isNone && rs.contains none then a.map (fun c => { c with frags := rs }) else b)

/-! ### Defects -/

/-- Runs of true bits: first bit and length. -/
def runsFrom : (i len : Nat) → List Bool → List (Nat × Nat)
  | i, len, [] => if len = 0 then [] else [(i - len, len)]
  | i, len, true :: t => runsFrom (i + 1) (len + 1) t
  | i, len, false :: t => (if len = 0 then [] else [(i - len, len)]) ++ runsFrom (i + 1) 0 t

/-- The sums of the envelope over each bit and the seven before it, with the bits in each sum (R191). Log entry 231 (DESIGN CHOICE). -/
def envelopeSums : (before env : List Nat) → List (Nat × Nat)
  | _, [] => []
  | b, e :: t => let w := (e :: b).take 8; (w.foldl (· + ·) 0, w.length) :: envelopeSums w t

/-- The n longest runs, the earlier first where two are equally long. -/
def longestRuns : (n : Nat) → List (Nat × Nat) → List (Nat × Nat)
  | 0, _ => []
  | n + 1, l =>
    match l with
    | [] => []
    | x :: t => let m := t.foldl (fun b q => if b.2 < q.2 then q else b) x; m :: longestRuns n (l.filter (· != m))

/-- The thresholds of a pass (R191, R194): DROP and TA in 1/128 of nominal, MINLEN. -/
structure DdCfg where
  drop   : Nat
  ta     : Nat
  minlen : Nat

/-- The runs that the defect detector erases (R191): below DROP or above TA for at least MINLEN bits, extended by 8 bits on each side, at most MAXRUNS, the longest
first. Log entry 231 (DESIGN CHOICE). -/
def defectRuns (c : DdCfg) (maxruns nominal : Nat) (env : List Nat) : List (Nat × Nat) :=
  let l := envelopeSums [] env
  let low := l.map (fun p => decide (p.1 * 128 < p.2 * nominal * c.drop))
  let high := l.map (fun p => decide (p.2 * nominal * c.ta < p.1 * 128))
  longestRuns maxruns (((runsFrom 0 0 low ++ runsFrom 0 0 high).filter (fun r => decide (c.minlen ≤ r.2))).map
    (fun r => (r.1 - 8, min 34944 (r.1 + r.2 + 8) - (r.1 - 8))))

/-! ### Decoding -/

/-- An accepted sector goes to the next of the stream's 60 sector slots (R201): user data and metadata as decoded. -/
def storeSector (n : Nat) (d : Decoded) (s : State) : State :=
  let t := fillSlot n d.info s
  setHch n { hchOf n t with decoded := some d } t

/-- The stream goes on to the next sector: its ring slot, and what was said of the last one. -/
def nextSector (n : Nat) (s : State) : State :=
  let r := hchOf n s
  setHch n { r with missing := false, offTrack := false, ringSlot := (r.ringSlot + 1) % 16, ringPos := 0 } s

/-- A transfer that reads goes on to a sector, or ends (HCH_STAT.BUSY). Log entry 235 (DEDUCED). -/
def readOn (n : Nat) (next : Option (Nat × Nat)) (s : State) : State :=
  put (Reg.HCH_STAT.BUSY n) (b2n next.isSome) (setHch n { hchOf n s with nextSec := next } s)

/-- The convergence of R186: each of the last 16 sectors within CONV_MSE. -/
def measure (n mse : Nat) (s : State) : State :=
  let r := hchOf n s
  let k := if mse ≤ get Reg.HCH_ADAPT_CFG.CONV_MSE s then min 16 (r.mseRow + 1) else 0
  puts [(Reg.HCH_MSE.MSE n, mse), (Reg.HCH_STAT.CONV n, b2n (decide (16 ≤ k)))] (setHch n { r with mseRow := k } s)

/-- The stream reads for a paired actuator (R194). -/
def pairedStream (n : Nat) (s : State) : Bool :=
  match servedBy n s with | none => false | some q => get (Reg.ACT_STAT.PAIRED q.1) s == 1

/-- A sector that failed in line (R194): RETRY on a paired stream, the retry ladder otherwise. Log entry 209 (DEDUCED). -/
def inlineFail (n zone idx : Nat) (s : State) : State :=
  if pairedStream n s then reportSector n ⟨5, zone, idx, 0⟩ s else setHch n { hchOf n s with ladder := some (zone, idx) } s

/-- How a pass over a sector is decoded (R189 to R192, R194): the sync-mark tolerance, the defect thresholds, the iterations at most. -/
structure PassCfg where
  tol   : Nat
  dd    : DdCfg
  iters : Nat

/-- The configuration of a pass: of step k of the ladder, 0 in line. -/
def passCfg (k : Nat) (s : State) : PassCfg :=
  let tol := get Reg.HCH_SM_CFG.TOL s
  let dd : DdCfg := ⟨get Reg.HCH_DD_CFG.DROP s, get Reg.HCH_DD_CFG.TA s, get Reg.HCH_DD_CFG.MINLEN s⟩
  ⟨if k = 4 then tol + 2 else tol, if k = 4 then { dd with drop := 80, minlen := 8 } else dd,
   if k = 0 then get Reg.HCH_LDPC_CFG.ITER_INLINE s else get Reg.HCH_LDPC_CFG.ITER_RETRY s⟩

/-- The erased runs of a pass: defects and missing samples (R191). -/
def passRuns (n : Nat) (c : PassCfg) (o : SectorObs) (s : State) : List (Nat × Nat) :=
  defectRuns c.dd (get Reg.HCH_DD_CFG.MAXRUNS s) (hchOf n s).adapt.nominal o.env ++ o.lost

/-- What the decoder gives for a candidate; nothing where it does not come to a codeword. Log entry 232 (DEDUCED). -/
def decodeCand (o : SectorObs) (runs : List (Nat × Nat)) (iters : Nat) (c : Cand) : Decoded :=
  ((o.decodes.find? (fun p => p.1 == ⟨c.part1, c.part2, c.frags, runs, iters⟩)).map (·.2)).getD ⟨false, 0⟩

/-- What a pass comes to: a sector accepted, from candidate B or not; a wrong PSA; a failure. -/
inductive Verdict where
  | ok (d : Decoded) (fromB : Bool)
  | mismatch
  | failed
deriving DecidableEq, Repr

/-- One decode (R193). -/
def judge (zone idx : Nat) (fromB : Bool) (d : Decoded) (other : Verdict) : Verdict :=
  if accepted zone idx d then .ok d fromB else if mismatched zone idx d then .mismatch else other

/-- A pass over a sector: A, then B where A fails (R190). -/
def passVerdict (n k zone idx : Nat) (o : SectorObs) (s : State) : Verdict :=
  let c := passCfg k s
  let runs := passRuns n c o s
  match candidates c.tol (get Reg.HCH_SM_CFG.RS_TOL s) o with
  | (none, _) => .failed
  | (some a, none) => judge zone idx false (decodeCand o runs c.iters a) .failed
  | (some a, some b) => judge zone idx false (decodeCand o runs c.iters a) (judge zone idx true (decodeCand o runs c.iters b) .failed)

/-- A sector is accepted: in its slot, counted where candidate B gave it, and reported. -/
def sectorRead (n zone idx code step : Nat) (d : Decoded) (fromB : Bool) (s : State) : State :=
  let t := storeSector n d s
  reportSector n ⟨code, zone, idx, step⟩ (if fromB then bump (Reg.HCH_SMCNT.ALT_OK n) t else t)

/-- What the decode in line brings (R190, R193, R194); one with missing samples is not made (R175). -/
def decodeLine (n zone idx : Nat) (o : SectorObs) (s : State) : State :=
  if (hchOf n s).missing then inlineFail n zone idx s
  else match passVerdict n 0 zone idx o s with
    | .ok d b => sectorRead n zone idx 0 0 d b s
    | .mismatch => reportSector n ⟨6, zone, idx, 0⟩ s
    | .failed => inlineFail n zone idx s

/-! ### Adaptation -/

/-- A bit lies in one of some runs. -/
def inRuns (runs : List (Nat × Nat)) (b : Nat) : Bool := runs.any (fun r => decide (r.1 ≤ b) && decide (b < r.1 + r.2))

/-- The step sizes of HCH_ADAPT_CFG in 1/32,768, times m (R186, R194). -/
structure Steps where
  eq   : Int
  gain : Int
  asym : Int

def stepsOf (m : Int) (s : State) : Steps :=
  let f (mu : Nat) : Int := m * 2 ^ (15 - mu)
  ⟨f (get Reg.HCH_ADAPT_CFG.MU_EQ s), f (get Reg.HCH_ADAPT_CFG.MU_GAIN s), f (get Reg.HCH_ADAPT_CFG.MU_ASYM s)⟩

/-- One step of least mean squares (R186). Log entry 233 (DESIGN CHOICE). -/
def lmsStep (m : Steps) (a : Adapt) (g : Grad) : Adapt :=
  { a with gain := a.gain + m.gain * g.gain, offset := a.offset + m.gain * g.offset, asym := a.asym + m.asym * g.asym
           taps := (List.range 16).map (fun i => a.taps.getD i 0 + m.eq * g.taps.getD i 0) }

/-- The adaptation over a pass (R186): still over erased bits, samples flagged WG and while FREEZE is 1. The timing loop keeps its frequency within ±1 % (R188). Log entry 233 (DESIGN CHOICE). -/
def adaptOver (m : Int) (n k : Nat) (o : SectorObs) (a : Adapt) (s : State) : Adapt :=
  let runs := passRuns n (passCfg k s) o s
  let b := { a with freq := max (-1000) (min 1000 o.freq) }
  if get (Reg.HCH_CTL.FREEZE n) s = 1 then b
  else (o.lms.filter (fun g => !g.wg && !inRuns runs g.bit)).foldl (lmsStep (stepsOf m s)) b

/-- The sampled values and integrators that a seed entry gives (R187). -/
def adaptOf (e : List Nat) : Adapt :=
  let u (i : Nat) : Nat := ofBytes ((e.drop i).take 2)
  let v (i : Nat) : Int := toInt 16 (u i)
  { gain := u 0 * 32768, offset := v 2 * 32768, asym := v 4 * 32768, freq := v 6, taps := (List.range 16).map (fun i => v (8 + 2 * i) * 32768)
    target := (List.range 5).map (fun i => v (40 + 2 * i)), nominal := u 50 }

/-- An integrator in the units of the entry, 16 bits. Log entry 233 (DESIGN CHOICE). -/
def entryBytes (x : Int) : List Nat := bytesOf 2 (ofInt 16 (satTo 16 (roundOpen x 32768)))

/-- Bytes 0 to 51 of the seed entry that the adaptation has come to (R187). Log entry 233 (DESIGN CHOICE). -/
def entryOf (a : Adapt) : List Nat :=
  bytesOf 2 (max 0 (min 65535 (roundOpen a.gain 32768))).toNat ++ entryBytes a.offset ++ entryBytes a.asym ++ bytesOf 2 (ofInt 16 a.freq)
  ++ a.taps.flatMap entryBytes ++ a.target.flatMap (fun x => bytesOf 2 (ofInt 16 x)) ++ bytesOf 2 a.nominal

/-- SECTOR_DECODE: a sector of a physical zone that a stream has read is decoded in line (R189 to R193); whether the transfer goes on to the next. -/
def execSectorDecode (n zone idx : Nat) (more : Bool) (o : SectorObs) (s : State) : Out :=
  let s1 := if sm1Hits (get Reg.HCH_SM_CFG.TOL s) o = [] then bump (Reg.HCH_SMCNT.SM1_MISS n) s else s
  let s2 := if pairedStream n s then s1 else dropRequeue (zone, idx) s1
  let t := nextSector n (measure n o.mse (decodeLine n zone idx o s2))
  let u := setHch n { hchOf n t with adapt := adaptOver 1 n 0 o (hchOf n s).adapt s } t
  unit n 5 (occurs (streamRuns n s = true ∧ get (Reg.HCH_STAT.WRITING n) s = 0) (readOn n (if more then some (zone, idx + 1) else none) u) s)

/-! ### The retry ladder -/

/-- The rereads of the ladder in order, each by its step (R194, R195): the steps that are enabled, step 6 in shingled zones only; with cold seeds steps 1 and 2
run 4 times. Log entry 236 (DEDUCED). -/
def ladderPlan (cold shingled : Bool) (en : Nat) : List Nat :=
  [1, 2, 3, 4, 5, 6].flatMap (fun k =>
    if en.testBit (k - 1) ∧ (k ≠ 6 ∨ shingled = true) then List.replicate (if k = 3 then 4 else if cold ∧ k ≤ 2 then 4 else 1) k else [])

/-- The revolutions that an entry of step k takes (R194): step 5 averages four rereads. -/
def stepRevs (k : Nat) : Nat := if k = 5 then 4 else 1

/-- The data sectors of a sector's parity group, by physical index, and the group's parity sector (R183). -/
def groupSectors (idx : Nat) : List Nat := (List.range 31).map (· + idx / 32 * 32) |>.filter (fun i => decide (i < 67650))
def groupParity (idx : Nat) : Nat := min (idx / 32 * 32 + 31) 67650

/-- A group of a physical zone whose parity sector is not written yet (R185): its zone's open group. -/
def groupOpen (zone idx : Nat) (s : State) : Bool :=
  s.zmg.order.any (fun z => (zoneOf z s).phys == zone && isShingled (zoneOf z s) && (zoneOf z s).group != 0
    && decide (((zoneOf z s).media - 1) / 31 ≤ idx / 32))

/-- Track-parity recovery (R185): the other data sectors are accepted and the parity sector's syndrome is zero; the XOR of their information bits is accepted where its
CRC and PSA check. -/
def parityVerdict (zone idx : Nat) (others : List Decoded) (parity : Decoded) (s : State) : Verdict :=
  let l := (groupSectors idx).filter (· != idx)
  let d : Decoded := ⟨true, xorAll (parity.info :: others.map (·.info))⟩
  if others.length = l.length ∧ (List.zipWith (accepted zone) l others).all id ∧ parity.syndrome = true ∧ groupOpen zone idx s = false
      ∧ accepted zone idx d = true then .ok d false
  else .failed

/-- What an entry of step k comes to. -/
def stepVerdict (n k zone idx : Nat) (r : Reread) (s : State) : Verdict :=
  match r with
  | .pass o => if k = 6 then .failed else passVerdict n k zone idx o s
  | .group others parity => if k = 6 then parityVerdict zone idx others parity s else .failed

/-- The ladder (R194, R195): how it ends, the step it ends at and the rereads made; none where the rereads given do not reach its end. Log entry 236 (DEDUCED). -/
def climb (n zone idx budget : Nat) (s : State) : (plan : List Nat) → (spent used : Nat) → List Reread → Option (Verdict × Nat × Nat)
  | [], _, used, _ => some (.failed, 7, used)
  | k :: t, spent, used, l =>
    if budget < spent + stepRevs k then some (.failed, 7, used)
    else match l with
      | [] => none
      | r :: u =>
        match stepVerdict n k zone idx r s with
        | .failed => climb n zone idx budget s t (spent + stepRevs k) (used + 1) u
        | v => some (v, k, used + 1)

/-- The stream reads a shingled zone. -/
def readsShingled (n : Nat) (s : State) : Bool := match servedBy n s with | none => false | some q => (actOf q.1 s).shingled

/-- The ladder's plan and budget of a stream: more with cold seeds (R195). -/
def planOf (n : Nat) (s : State) : List Nat := ladderPlan (get (Reg.HCH_STAT.COLD n) s == 1) (readsShingled n s) (get Reg.HCH_RETRY_CFG.STEP_EN s)
def budgetOf (n : Nat) (s : State) : Nat :=
  if get (Reg.HCH_STAT.COLD n) s = 1 then get Reg.HCH_RETRY_CFG.COLD_REVS s else get Reg.HCH_RETRY_CFG.REVS s

/-- The adaptation over the rereads: step 2 restarts it from the seed entry at 4 times the step sizes (R194). -/
def ladderAdapt (n : Nat) (s : State) (a : Adapt) (p : Nat × Reread) : Adapt :=
  match p.2 with
  | .pass o => if p.1 = 2 then adaptOver 4 n p.1 o (adaptOf (hchOf n s).seed) s else adaptOver 1 n p.1 o a s
  | .group _ _ => a

/-- How a ladder ends (R194 to R196): accepted, with its step; a wrong PSA; FAILED. -/
def ladderEnds (n zone idx step : Nat) (v : Verdict) (s : State) : State :=
  match v with
  | .ok d b => sectorRead n zone idx 1 step d b (if step = 6 then bump (Reg.HCH_TPCNT.TP_OK n) s else s)
  | .mismatch => reportSector n ⟨6, zone, idx, 0⟩ s
  | .failed => reportSector n ⟨2, zone, idx, 0⟩ s

/-- RETRY_LADDER: the ladder of a sector that failed in line, with its rereads in order (R194 to R196). Log entry 236 (DEDUCED). -/
def execRetryLadder (n : Nat) (rereads : List Reread) (s : State) : Out :=
  unit n 5 (match (hchOf n s).ladder with
    | none => .next s
    | some q =>
      match climb n q.1 q.2 (budgetOf n s) s (planOf n s) 0 0 rereads with
      | none => .next s
      | some o =>
        let a := ((List.zip (planOf n s) rereads).take o.2.2).foldl (ladderAdapt n s) (hchOf n s).adapt
        .next (ladderEnds n q.1 q.2 o.2.1 o.1 (setHch n { hchOf n s with ladder := none, adapt := a } s)))

/-! ### Seeds -/

/-- The address of a zone's seed entry (R187). -/
def seedAddr (zone : Nat) (s : State) : Nat :=
  2 ^ 32 * get Reg.HCH_SEED_TBL_HI.ADDR s + 64 * get Reg.HCH_SEED_TBL_LO.ADDR s + 64 * zone

/-- The seed that stands for an invalid entry (R187): the image's default for head and radial band (R151) from section type 2, or the built-in one. Log entry 234 (PRESUMED). -/
def coldSeed (n : Nat) (s : State) : List Nat :=
  let c := ((s.boot.image).map (fun i => sectionData 2 i.sections)).getD []
  let h := match servedBy n s with | none => 31 | some q => headOf q.1 q.2 s
  if c = [] then bytesOf 64 Config.seedBuiltIn else bytesOf 64 (Config.seedDefault c h (radialBand h s))

/-- SEED_FETCH: a stream takes a zone at a channel rate for a transfer from a sector on (R187): its entry where VALID, cold defaults otherwise. Log entry 235 (DEDUCED). -/
def execSeedFetch (n zone rate idx : Nat) (s : State) : Out :=
  let e := memRead (seedAddr zone s) 64 s
  let valid := (e.getD 62 0).testBit 0
  let seed := if valid then e else coldSeed n s
  unit n 5 (occurs (streamRuns n s = true)
    (puts [(Reg.HCH_ZONE.ZONE n, zone), (Reg.HCH_STAT.RATE n, rate), (Reg.HCH_STAT.COLD n, b2n (!valid)), (Reg.HCH_STAT.BUSY n, 1)]
      (setHch n { hchOf n s with seed := seed, adapt := adaptOf seed, writing := none, nextSec := some (zone, idx) } s)) s)

/-- SEED_WRITEBACK: a stream leaves its zone (R187): with CONV at 1 the entry is written back as adapted, VALID set, COLD clear and the generation
advanced. -/
def execSeedWriteback (n : Nat) (s : State) : Out :=
  let a := seedAddr (get (Reg.HCH_ZONE.ZONE n) s) s
  let e := entryOf (hchOf n s).adapt ++ List.replicate 10 0 ++ [1, (memNat (a + 63) 1 s + 1) % 256]
  unit n 5 (occurs (get (Reg.HCH_STAT.CONV n) s = 1)
    (memWrite a e s) s)

/-! ### Stream failures -/

/-- Stream 4 takes the role of a failed stream, whose record before the failure is r (R200): on the same link and head, with the open
accumulator if it reads. -/
def promoteStream (n : Nat) (r : HchSt) (accReadable : Bool) (s : State) : State :=
  let t := puts [(Reg.HCH_SPARE.SEL, n), (Reg.HCH_CTL.EN 4, 1), (Reg.HCH_STAT.RATE 4, get (Reg.HCH_STAT.RATE n) s)]
    (setHch 4 { hchOf 4 s with acc := if accReadable then r.acc else 0, accN := if accReadable then r.accN else 0
                               accLost := !accReadable && r.accN != 0, loaded := accReadable && r.loaded, recent := r.recent, writing := r.writing } s)
  promoted Reg.SPR_INV.STREAM (raisePost 230 4 [n] t)

/-- A stream fails (R200): its sector is reported ABORTED, FAILED is set with line 5, and stream 4 takes its place under AUTO. -/
def streamFails (n : Nat) (accReadable : Bool) (s : State) : State :=
  let t := abortSector n (setHch n { hchOf n s with failReq := false } s)
  let u := raisePost 229 n [] (put (Reg.HCH_STAT.FAILED n) 1 t)
  if get (Reg.HCH_STAT.FAILED n) s = 1 then s
  else if get Reg.HCH_SPARE.AUTO s = 1 ∧ get Reg.HCH_SPARE.SEL s = 7 ∧ n ≠ 4 then promoteStream n (hchOf n s) accReadable u else u

/-- STREAM_FAILURE: an uncorrectable error in a stream's memories, or HCH_CTL.FAIL (R200). -/
def execStreamFailure (n : Nat) (memoryError accReadable : Bool) (s : State) : Out :=
  unit n 5 (occurs (memoryError = true ∨ (hchOf n s).failReq = true) (streamFails n accReadable s) s)

/-! ### HCH_TP_CTL -/

/-- A copy starts unless one is running. -/
def startCopy (c : TpCopy) (n : Nat) (s : State) : State :=
  puts [(Reg.HCH_TP_CTL.STREAM, n), (Reg.HCH_TP_CTL.BUSY, 1)] { s with tp := c }

/-- PARITY_SAVE: HCH_TP_CTL.SAVE on a stream (R184). -/
def execParitySave (n : Nat) (s : State) : Out :=
  unit n 5 (occurs (get Reg.HCH_TP_CTL.BUSY s = 0) (startCopy (.save n) n s) s)

/-- PARITY_LOAD: HCH_TP_CTL.LOAD on a stream (R184). -/
def execParityLoad (n : Nat) (s : State) : Out :=
  unit n 5 (occurs (get Reg.HCH_TP_CTL.BUSY s = 0) (startCopy (.load n) n s) s)

/-- PARITY_CLEAR: HCH_TP_CTL.CLEAR empties a stream's accumulator (R184). -/
def execParityClear (n : Nat) (s : State) : Out :=
  unit n 5 (.next (put Reg.HCH_TP_CTL.STREAM n (setHch n { hchOf n s with acc := 0, accN := 0, accLost := false, loaded := false } s)))

/-- The parity accumulator window of a stream (R201). -/
def tpWindow (n : Nat) : Nat := streamBuf n + 0xBE000

/-- PARITY_COPY_DONE: the running copy ends and BUSY clears: SAVE has put the accumulator into the window and its count into COUNT, LOAD
has taken both into the stream. Log entry 229 (DEDUCED). -/
def execParityCopyDone (s : State) : Out :=
  let t := put Reg.HCH_TP_CTL.BUSY 0 { s with tp := .none }
  match s.tp with
  | .none => .next s
  | .save n => .next (put Reg.HCH_TP_CTL.COUNT (hchOf n s).accN (memPut (tpWindow n) 4128 (hchOf n s).acc t))
  | .load n => .next (setHch n { hchOf n s with acc := memNat (tpWindow n) 4128 s, accN := get Reg.HCH_TP_CTL.COUNT s, accLost := false, loaded := true } t)

end Sys2Proof.Machine
end

