-- ==== Sys2Proof/Machine/FabLink.lean ====
section
/-! DEFINITION. 17_nguam_fabric.md, how frames leave a node: routes (R430), credits and link sequence numbers (R431, R432), responses (R426) and the
answers to peers' namespace requests (R434, R435). -/

namespace Sys2Proof.Machine

def setFab (r : FabSt) (s : State) : State := { s with fab := r }
def fabPort (p : Nat) (s : State) : FabPort := AMap.getD s.fab.ports p {}
def setFabPort (p : Nat) (r : FabPort) (s : State) : State := setFab { s.fab with ports := AMap.insert p r s.fab.ports } s

def nodeId (s : State) : Nat := get Reg.FAB_CFG.NODE s
def fabUp (p : Nat) (s : State) : Bool := get (Reg.FAB_PORT_STAT.UP p) s == 1

/-- The node serves peers and originates (R423, R424). -/
def nodeActive (s : State) : Bool := nodeId s != 0 && get Reg.FAB_STAT.WITHDRAWN s == 0

/-- A routing entry is valid and its port is up. -/
def hasRoute (id : Nat) (s : State) : Bool :=
  id != 0 && id != 4095 && get (Reg.FAB_RT.VALID id) s == 1 && fabUp (get (Reg.FAB_RT.PORT id) s) s
def routePort (id : Nat) (s : State) : Nat := get (Reg.FAB_RT.PORT id) s

/-- Credit units of 64 bytes that a frame takes (R425, R431). -/
def frameUnits (f : Frame) : Nat := (32 + (f.payload.length + 7) / 8 * 8 + 8 + 63) / 64

/-- Control blocks (R425). -/
def creditBlock (vc units : Nat) : Nat := 0x87 + 2 ^ 8 * (vc % 4) + 2 ^ 16 * (units % 65536)
def ackBlock (last : Nat) (nak : Bool) : Nat := 0xB4 + 2 ^ 8 * (last % 256) + 2 ^ 16 * b2n nak
def initBlock (node c0 c1 : Nat) : Nat := 0xC3 + 2 ^ 8 * (node % 4096) + 2 ^ 20 * (c0 % 65536) + 2 ^ 36 * (c1 % 65536)

/-- The bytes of a frame between SOF and EOF (R425): header, payload padded to a multiple of 8, CRC-32C and 4 zero bytes. Log entry 279 (DEDUCED). -/
def frameBytes (f : Frame) : List Nat :=
  bytesOf 2 (f.dst % 4096 + f.vc % 4 * 2 ^ 12) ++ bytesOf 2 (f.src % 4096) ++ [f.type % 256, f.hops % 256] ++ bytesOf 2 f.flags ++ bytesOf 4 f.tag
    ++ bytesOf 2 f.status ++ bytesOf 2 f.payload.length ++ bytesOf 8 f.p1 ++ bytesOf 8 f.p2
    ++ f.payload ++ List.replicate ((f.payload.length + 7) / 8 * 8 - f.payload.length) 0
def wireOf (f : Frame) : List Nat := frameBytes f ++ bytesOf 4 (crc32c (frameBytes f)) ++ [0, 0, 0, 0]

/-- The frame in those bytes, and whether they are good: their length fits and the CRC holds (R425, R432). Log entry 279 (DEDUCED). -/
def frameOf (w : List Nat) : Frame :=
  let v := ofBytes (w.take 32)
  { dst := bits v 0 12, vc := bits v 12 2, src := bits v 16 12, type := bits v 32 8, hops := bits v 40 8, flags := bits v 48 16, tag := bits v 64 32,
    status := bits v 96 16, p1 := bits v 128 64, p2 := bits v 192 64, payload := (w.drop 32).take (bits v 112 16) }
def wireGood (w : List Nat) : Bool :=
  let n := bits (ofBytes (w.take 32)) 112 16
  decide (40 ≤ w.length) && w.length == 40 + (n + 7) / 8 * 8 && crc32c (w.take (w.length - 8)) == ofBytes ((w.drop (w.length - 8)).take 4)

/-- Blocks of 8 bytes. Log entry 279 (DEDUCED). -/
def octets : (n : Nat) → List Nat → List Nat
  | 0, _ => []
  | n + 1, l => if l = [] then [] else ofBytes (l.take 8) :: octets n (l.drop 8)

/-- The blocks of a frame, control or data (R425): SOF with its link sequence number, the bytes, EOF. -/
def fabBlocks (seq : Nat) (f : Frame) : List (Bool × Nat) :=
  (true, 0xA5 + 2 ^ 8 * (seq % 256)) :: (octets ((wireOf f).length / 8) (wireOf f)).map (fun b => (false, b)) ++ [(true, 0xE1)]

/-- Blocks go onto a port's lane in the coding of R169 (R420). Log entry 279 (DEDUCED). -/
def onWire (p : Nat) (b : List (Bool × Nat)) (s : State) : State :=
  let r := fabPort p s
  let w := laneWords r.tx b
  send (.wire p w) (setFabPort p { r with tx := (w.getLast?.map (· / 4)).getD r.tx } s)

/-- A control block, and a frame, leave on a port. -/
def sendCtl (p block : Nat) (s : State) : State := onWire p [(true, block)] (send (.fabricCtl p block) s)
def sendOut (p seq : Nat) (f : Frame) (s : State) : State := onWire p (fabBlocks seq f) (send (.fabric p seq f) s)

/-- Buffer that a received frame held is returned on its port (R431). Log entry 138 (DEDUCED). -/
def returnCredit (p : Option Nat) (f : Frame) (s : State) : State :=
  match p with
  | none => s
  | some k => if fabUp k s then sendCtl k (creditBlock f.vc (frameUnits f)) s else s

/-- The first waiting frame that may start: none of its VC waits before it, credits for the whole of it are there (R431), and the replay buffer has
room (R432). -/
def nextOut (r : FabPort) : Option FabWait :=
  (List.range r.queue.length).findSome? (fun i =>
    match r.queue[i]? with
    | none => none
    | some w =>
      if (r.queue.take i).all (fun v => v.frame.vc != w.frame.vc) ∧ frameUnits w.frame ≤ r.credit.getD w.frame.vc 0 ∧ r.replay.length < 64
      then some w else none)

/-- A frame is sent on a port. -/
def sendFrame (p : Nat) (w : FabWait) (s : State) : State :=
  let r := fabPort p s
  let f := w.frame
  returnCredit w.from' f (sendOut p r.next f (setFabPort p { r with
    queue := r.queue.erase w, next := (r.next + 1) % 256, replay := r.replay ++ [(r.next, f)],
    credit := r.credit.set f.vc (r.credit.getD f.vc 0 - frameUnits f) } s))

/-- Frames are sent while any may start. -/
def pump : (n : Nat) → (p : Nat) → State → State
  | 0, _, s => s
  | n + 1, p, s => match nextOut (fabPort p s) with
    | none => s
    | some w => pump n p (sendFrame p w s)

/-- A frame goes to a port, behind those that wait. -/
def toPort (p : Nat) (from' : Option Nat) (f : Frame) (s : State) : State :=
  let r := fabPort p s
  let t := setFabPort p { r with queue := r.queue ++ [⟨from', f⟩] } s
  pump (r.queue.length + 1) p t

/-- A frame of this node goes toward its DST with HOPS 1 (R430); without a route it is dropped. -/
def originate (f : Frame) (s : State) : State :=
  if hasRoute f.dst s then toPort (routePort f.dst s) none { f with hops := 1 } s else s

/-- A response (R426): TYPE + 0x80, the request's TAG, on VC2. -/
def respondTo (dst type tag status p1 p2 : Nat) (payload : List Nat) (last : Bool) (s : State) : State :=
  originate { dst := dst, vc := 2, src := nodeId s, type := type + 0x80, hops := 1, flags := if last then 2 else 0, tag := tag, status := status,
              p1 := p1, p2 := p2, payload := payload } s

/-- The status in NVMe SCT/SC form (R381). -/
def statusCode (st : Status) : Nat :=
  match st with
  | .success => 0x000
  | .becomingReady => 0x082
  | .spindleFault => 0x082
  | .invalidNs => 0x00B
  | .lbaRange => 0x080
  | .invalidField => 0x002
  | .unrecoveredRead => 0x281
  | .writeFault => 0x280
  | .internalError => 0x006
  | .aborted => 0x007
  | .zoneInvalidWrite => 0x1BC
  | .zoneFull => 0x1B9
  | .zoneBoundary => 0x1B8
  | .tooManyOpen => 0x1BE
  | .tooManyActive => 0x1BD
  | .zoneReadOnly => 0x1BA
  | .zoneOffline => 0x1BB
  | .writeProtected => 0x020
  | .retention => 0x286
  | .guardCheck => 0x282
  | .sequenceError => 0x00C
  | .selfTestInProgress => 0x11D
  | _ => 0x000

/-- The request that a context works on. -/
def workOf (stamp : Nat) (s : State) : Option FabWork := s.fab.work.find? (fun w => w.stamp == stamp)
def dropWork (w : FabWork) (s : State) : State := setFab { s.fab with work := s.fab.work.erase w } s

/-- A peer's namespace request ends with a status (R434, R435): an append's response returns the assigned LBA. -/
def endWork (stamp : Nat) (st : Status) (lba : Nat) (s : State) : State :=
  match workOf stamp s with
  | none => s
  | some w => dropWork w (respondTo w.src w.type w.tag (statusCode st) (if w.type = 0x10 then lba else 0) 0 [] true s)

/-- Bytes in payloads of up to 4,096. -/
def chunks : (n : Nat) → List Nat → List (List Nat)
  | 0, _ => []
  | n + 1, l => if l = [] then [] else l.take 4096 :: chunks n (l.drop 4096)

/-- The data of a read or copy: a series of responses, LAST and STATUS on the final one (R435). -/
def answerData (stamp : Nat) (bytes : List Nat) (s : State) : State :=
  match workOf stamp s with
  | none => s
  | some w =>
    let l := (if w.first = [] then [] else [w.first]) ++ chunks (bytes.length / 4096 + 1) bytes
    let n := l.length
    let t := (List.range n).foldl (fun u i => respondTo w.src w.type w.tag 0 0 0 (l.getD i []) (i + 1 == n) u) s
    dropWork w (if n = 0 then respondTo w.src w.type w.tag 0 0 0 [] true t else t)

end Sys2Proof.Machine
end

