-- ==== Sys2Proof/Machine/Store.lean ====
section
/-! DEFINITION. 14_command_store.md, what the other blocks share of the command store: LBA ranges (R361), the end of a command (R374),
the lost-write list (R368 to R372) and the pending-unrecoverable list (R229). -/

namespace Sys2Proof.Machine

/-! ### Namespaces -/

def nsType (n : Nat) (s : State) : Nat := get (Reg.ZMG_NS_CFG.TYPE n) s

/-- Logical blocks in a 4 KiB block: 8 in a 512e namespace (R204). -/
def lbasPerBlock (n : Nat) (s : State) : Nat := if get (Reg.ZMG_NS_CFG.LBAF n) s = 1 then 8 else 1

/-- The logical blocks of a namespace, and of a zone of it. -/
def nsLbas (n : Nat) (s : State) : Nat := get (Reg.ZMG_NS_COUNT.COUNT n) s * 65536 * lbasPerBlock n s
def zoneLbas (n : Nat) (s : State) : Nat := 65536 * lbasPerBlock n s

/-- The namespace's zones hold logical zone z. -/
def inNs (n z : Nat) (s : State) : Bool :=
  decide (get (Reg.ZMG_NS_ZONES.FIRST n) s ≤ z) && decide (z < get (Reg.ZMG_NS_ZONES.FIRST n) s + get (Reg.ZMG_NS_COUNT.COUNT n) s)

/-- Two ranges, each a first LBA and a count, overlap. -/
def overlap (a n b m : Nat) : Bool := decide (a < b + m) && decide (b < a + n)

/-! ### Contexts -/

/-- Commands that concern the media (R58, R100, R350, R379). Log entry 123 (DEDUCED). -/
def isMedia (op : HostOp) : Bool :=
  match op with
  | .setWce _ => false
  | .selfTest _ => false
  | .zoneReport => false
  | .abort _ _ => false
  | .identify => false
  | .getLog => false
  | .admin => false
  | _ => true

def ctxOf (stamp : Nat) (s : State) : Option Ctx := s.cmd.ctxs.find? (fun c => c.stamp == stamp)

/-- The first free place of the pool, and the address of a context (R356): 128 bytes each from CMD_POOL_LO and CMD_POOL_HI on. Log entry 270 (DEDUCED). -/
def poolPlace (s : State) : Nat :=
  ((List.range (s.cmd.ctxs.length + 1)).find? (fun k => !s.cmd.ctxs.any (fun c => c.slot == k))).getD 0
def poolAddr (c : Ctx) (s : State) : Nat := get Reg.CMD_POOL_LO.ADDR s * 2 ^ 24 + get Reg.CMD_POOL_HI.ADDR s * 2 ^ 32 + 128 * c.slot

/-- A context is changed. -/
def setCtx (c : Ctx) (s : State) : State :=
  { s with cmd := { s.cmd with ctxs := s.cmd.ctxs.map (fun d => if d.stamp == c.stamp then c else d) } }

/-- The registers that count contexts follow them. -/
def countCtxs (s : State) : State :=
  puts [(Reg.CMD_POOL_STAT.USED, s.cmd.ctxs.length), (Reg.CMD_EXEC_STAT.EXEC, (s.cmd.ctxs.filter (·.started)).length)] s

/-- A context is freed. -/
def dropCtx (stamp : Nat) (s : State) : State :=
  countCtxs { s with cmd := { s.cmd with ctxs := s.cmd.ctxs.filter (fun c => c.stamp != stamp) }
                     fab := { s.fab with work := s.fab.work.filter (fun w => w.stamp != stamp) } }

/-- A failed NCQ command has its fellows aborted (R375). -/
def noteNcq (c : Ctx) (st : Status) (s : State) : State :=
  if c.cmd.ncq ∧ st ≠ .success ∧ st ≠ .aborted then { s with cmd := { s.cmd with ncqFailed := true } } else s

/-- A command completes (R374): its one completion leaves, naming an LBA, as a response frame where a peer sent it (R434), and its context is freed. -/
def finish (c : Ctx) (st : Status) (lba : Nat) (s : State) : State :=
  let u := if c.cmd.port = .fabric then endWork c.stamp st lba s else send (statusMsg c.cmd.port c.cmd.nexus c.cmd.tag st lba) s
  let t := noteNcq c st (dropCtx c.stamp u)
  if st = .internalError then raisePost 611 0 (bytesOf 6 c.stamp) (bump Reg.CMD_ERR.INTERNAL t) else t

/-- The LBA range that a command touches, in logical blocks of its namespace (R361): all of it where the command acts on the whole. Log entry 271 (DEDUCED). -/
def rangeOf (c : Ctx) (s : State) : Nat × Nat :=
  let z := zoneLbas c.cmd.ns s
  match c.cmd.op with
  | .read a n => (a, n)
  | .write a n _ => (a, n)
  | .deallocate a n => (a, n)
  | .append k _ _ => (k * z, z)
  | .zoneReset k => (k * z, z)
  | .zoneFinish k => (k * z, z)
  | .zoneOpen k => (k * z, z)
  | .zoneClose k => (k * z, z)
  | .format => (0, nsLbas c.cmd.ns s)
  | .sanitize => (0, nsLbas c.cmd.ns s)
  | _ => (0, 0)

/-- The LBAs a write or append writes once its first LBA is known. -/
def writeLen (op : HostOp) : Nat :=
  match op with
  | .write _ n _ => n
  | .append _ n _ => n
  | _ => 0

def isWrite (op : HostOp) : Bool :=
  match op with
  | .write _ _ _ => true
  | .append _ _ _ => true
  | _ => false

def isAppend (op : HostOp) : Bool :=
  match op with
  | .append _ _ _ => true
  | _ => false

/-- The 4 KiB blocks that a range of LBAs touches. -/
def blocksOf (ns lba n : Nat) (s : State) : List Nat :=
  let k := lbasPerBlock ns s
  if n = 0 then [] else (List.range ((lba + n - 1) / k - lba / k + 1)).map (· + lba / k)

/-! ### The lost-write list -/

/-- CMD_LWL and the window of CMD_LWL_E0 to E2 follow the list. -/
def showLost (s : State) : State :=
  let l := s.cmd.lost
  let e := l.getD (get Reg.CMD_LWL_IDX.IDX s) ⟨0, 0, 0, 0, 0, false⟩
  puts [(Reg.CMD_LWL.COUNT, l.length), (Reg.CMD_LWL.UNREP, (l.filter (fun x => !x.reported)).length),
    (Reg.CMD_LWL_E0.LBA, bits e.lba 0 32), (Reg.CMD_LWL_E1.LBA, bits e.lba 32 16), (Reg.CMD_LWL_E1.NS, e.ns),
    (Reg.CMD_LWL_E1.CAUSE, e.cause), (Reg.CMD_LWL_E1.REPORTED, b2n e.reported), (Reg.CMD_LWL_E2.COUNT, e.n)] s

def setLost (l : List Lost) (s : State) : State := showLost { s with cmd := { s.cmd with lost := l } }

/-- The distance between two ranges. -/
def gapOf (a n b m : Nat) : Nat := max (b - (a + n)) (a - (b + m))

/-- The covering range of two entries; REPORTED is clear (R372). Log entry 50 (DEDUCED). -/
def coverLost (x y : Lost) : Lost :=
  { x with lba := min x.lba y.lba, n := max (x.lba + x.n) (y.lba + y.n) - min x.lba y.lba, reported := false }

/-- The index of the entry of the same namespace nearest to one. Log entry 50 (DEDUCED). -/
def nearestLost (e : Lost) (l : List Lost) : Option Nat :=
  ((List.range l.length).filter (fun i => (l.getD i e).ns == e.ns)).foldl
    (fun b i => match b with
      | none => some i
      | some j => if gapOf (l.getD i e).lba (l.getD i e).n e.lba e.n < gapOf (l.getD j e).lba (l.getD j e).n e.lba e.n then some i else some j)
    none

/-- LBAs enter the lost-write list (R368, R372): an entry with its event and line 0, merged with the nearest one where the list is full. Log entry 50 (DEDUCED). -/
def addLost (ns lba n cause : Nat) (s : State) : State :=
  let e : Lost := ⟨ns, lba, n, cause, tmpCount s, false⟩
  let l := s.cmd.lost
  let t := if l.length < 4096 then setLost (l ++ [e]) s
    else match nearestLost e l with
      | none => s
      | some i => put Reg.CMD_LWL.MERGED 1 (setLost (l.set i (coverLost (l.getD i e) e)) s)
  raisePost 608 0 ([ns, cause] ++ bytesOf 6 lba ++ bytesOf 4 n) t

/-- An entry without a range of LBAs: a partial overwrite splits it (R371). -/
def cutLost (ns lba n : Nat) (e : Lost) : List Lost :=
  if e.ns = ns ∧ overlap lba n e.lba e.n = true then
    (if e.lba < lba then [{ e with n := lba - e.lba }] else [])
    ++ (if lba + n < e.lba + e.n then [{ e with lba := lba + n, n := e.lba + e.n - (lba + n) }] else [])
  else [e]

/-- LBAs leave the list (R371): by a write over them, a zone reset, a format or sanitize. -/
def clearLost (ns lba n : Nat) (s : State) : State := setLost (s.cmd.lost.flatMap (cutLost ns lba n)) s

/-- A range touches a listed LBA. -/
def touchesLost (ns lba n : Nat) (s : State) : Bool := s.cmd.lost.any (fun e => e.ns == ns && overlap lba n e.lba e.n)

/-! ### The pending-unrecoverable list -/

/-- The list is set; the change is journaled (R233). -/
def setPend (l : List (Nat × Nat × Nat)) (s : State) : State :=
  put Reg.ZMG_PEND.COUNT l.length (journal (.pend l) { s with zmg := { s.zmg with pend := l } })

/-- LBAs enter the pending-unrecoverable list (R229), with line 1 and its event. Where the list holds 65,536 entries the LBAs' zone goes
Offline, its entries become one range over the zone, and FULL is set. -/
def addPend (ns lba n : Nat) (s : State) : State :=
  let z := zoneLbas ns s
  let lz := get (Reg.ZMG_NS_ZONES.FIRST ns) s + lba / z
  let p := [ns] ++ bytesOf 6 lba ++ bytesOf 4 n
  if s.zmg.pend.length < 65536 then
    raisePost 289 0 p (setZone lz { zoneOf lz s with pend := true } (setPend (s.zmg.pend ++ [(ns, lba, n)]) s))
  else
    let l := s.zmg.pend.filter (fun e => !(e.1 == ns && overlap (lba / z * z) z e.2.1 e.2.2))
    raisePost 289 0 p (put Reg.ZMG_PEND.FULL 1
      (setZone lz { zoneOf lz s with pend := true, state := 15 } (setPend (l ++ [(ns, lba / z * z, z)]) s)))

/-- An entry without a range of LBAs. -/
def cutPend (ns lba n : Nat) (e : Nat × Nat × Nat) : List (Nat × Nat × Nat) :=
  if e.1 = ns ∧ overlap lba n e.2.1 e.2.2 = true then
    (if e.2.1 < lba then [(ns, e.2.1, lba - e.2.1)] else [])
    ++ (if lba + n < e.2.1 + e.2.2 then [(ns, lba + n, e.2.1 + e.2.2 - (lba + n))] else [])
  else [e]

/-- PEND of a zone's descriptor follows the list. -/
def markPend (lz : Nat) (s : State) : State :=
  let d := zoneOf lz s
  let z := zoneLbas d.ns s
  let b := (lz - get (Reg.ZMG_NS_ZONES.FIRST d.ns) s) * z
  let p := s.zmg.pend.any (fun e => e.1 == d.ns && overlap b z e.2.1 e.2.2)
  if d.pend = p then s else setZone lz { d with pend := p } s

/-- LBAs leave the list (R229), and PEND of their zones follows. -/
def clearPend (ns lba n : Nat) (s : State) : State :=
  if s.zmg.pend.any (fun e => e.1 == ns && overlap lba n e.2.1 e.2.2) then
    let z := zoneLbas ns s
    let t := setPend (s.zmg.pend.flatMap (cutPend ns lba n)) s
    ((List.range ((lba + n - 1) / z - lba / z + 1)).map (· + lba / z + get (Reg.ZMG_NS_ZONES.FIRST ns) s)).foldl (fun u k => markPend k u) t
  else s

/-- A range touches a pending-unrecoverable LBA. -/
def touchesPend (ns lba n : Nat) (s : State) : Bool := s.zmg.pend.any (fun e => e.1 == ns && overlap lba n e.2.1 e.2.2)

/-! ### Table rebuilds -/

/-- Namespaces that use a table (R234): 0 descriptors, 1 band map, 2 media-cache index, 3 remaps, 4 pending-unrecoverable list. -/
def tableUsers (table : Nat) (s : State) : List Nat :=
  (List.range 64).filter (fun n => nsType n s != 0 && (table == 0 || 3 ≤ table || nsType n s == 3))

/-- An access to a namespace waits for the rebuild of a table it uses (R234). -/
def tableWaits (n : Nat) (s : State) : Bool := match s.zmg.rebuilding with | none => false | some t => (tableUsers t s).contains n

/-! ### Retention -/

/-- The newest seal record of a logical zone. -/
def recordOf (z : Nat) (s : State) : Option SealEntry := s.seals.log.reverse.find? (fun e => e.zone == z)

/-- A sealed zone's retention has expired (R327): the lifetime seconds have reached LIFE of its record plus SEAL_NS_RET. -/
def retentionOver (z : Nat) (s : State) : Bool :=
  match recordOf z s with
  | none => true
  | some e => decide (e.life + get (Reg.SEAL_NS_RET.RET e.ns) s ≤ lifeSec s)

/-- A zone is sealed and unexpired. -/
def held (z : Nat) (s : State) : Bool := (zoneOf z s).sealed && !retentionOver z s

/-- Some zone of a namespace is sealed and unexpired (R327). -/
def nsHeld (n : Nat) (s : State) : Bool := s.seals.log.any (fun e => e.ns == n && inNs n e.zone s && held e.zone s)

end Sys2Proof.Machine
end

