-- ==== Sys2Proof/Machine/Zones.lean ====
section
/-! DEFINITION. 08_zones_and_media.md, the host's side of zones: namespaces (R202 to R204), the write pointers and zone commands (R206 to R210)
and their recovery (R214 to R216). -/

namespace Sys2Proof.Machine

/-! ### Namespaces -/

/-- Some other namespace is attached to the SATA port. -/
def sataTaken (n : Nat) (s : State) : Bool :=
  (List.range 64).any (fun k => k != n && nsType k s != 0 && bit (Reg.ZMG_NS_CFG.PORTS k) 3 s)

/-- An attach is refused (R203): a second namespace on SATA, or one of TYPE 4 there. -/
def attachRefused (n ports : Nat) (s : State) : Bool := ports.testBit 3 && (sataTaken n s || nsType n s == 4)

/-- NAMESPACE_ATTACH: a write of ZMG_NS_CFG[n].PORTS (R203). A refused one changes nothing. -/
def execNamespaceAttach (n ports : Nat) (s : State) : Out :=
  unit n 64 (.next (if attachRefused n ports s then s else put (Reg.ZMG_NS_CFG.PORTS n) ports s))

/-- No command to a namespace is in flight. -/
def nsIdle (n : Nat) (s : State) : Bool := !s.cmd.ctxs.any (fun c => c.cmd.ns == n)

/-- LBAF as it is accepted: 512-byte blocks only for TYPE 1 and 3 (R204). -/
def lbafOk (type lbaf : Nat) : Bool := lbaf == 0 || type == 1 || type == 3

/-- A TYPE may be set (R202, R329): 0 to 4, and 4 only with a programmed key store. -/
def typeOk (type : Nat) (s : State) : Bool := decide (type ≤ 4) && (type != 4 || get Reg.SEAL_STAT.PROV s == 1)

/-- The media-cache zones at creation (R217): 1 % of the namespace's zones, rounded up, at least 8, where the register gives none. -/
def mcZones (n type : Nat) (s : State) : Nat :=
  if type = 3 then
    (if get (Reg.ZMG_NS_MC.ZONES n) s = 0 then max 8 ((get (Reg.ZMG_NS_COUNT.COUNT n) s + 99) / 100) else get (Reg.ZMG_NS_MC.ZONES n) s)
  else 0

/-- A zone as it is created, at a physical zone: Empty where it is shingled, 0x0 where it is conventional (R205). -/
def freshZone (n type phys : Nat) : Zone := { state := if type = 1 then 0 else 1, type := type, phys := phys, ns := n }

/-- What a format, sanitize or delete takes with it: cached blocks, both lists, media-cache entries, saved host write pointers. -/
def dropNs (n : Nat) (s : State) : State :=
  let t := clearPend n 0 (nsLbas n s) (clearLost n 0 (nsLbas n s) s)
  let u := countDirty { t with cmd := { t.cmd with lines := t.cmd.lines.filter (fun l => l.ns != n) } }
  let v := journal (.drop (u.zmg.mc.filter (fun e => e.ns == n))) u
  { v with zmg := { v.zmg with mc := v.zmg.mc.filter (fun e => e.ns != n), finish := v.zmg.finish.filter (fun q => !inNs n q.1 s)
                               fullAt := v.zmg.fullAt.filter (fun q => !inNs n q.1 s), order := v.zmg.order.filter (fun q => !inNs n q s)
                               images := v.zmg.images.filter (fun q => !inNs n q.1 s) }
           seals := { v.seals with ctxs := v.seals.ctxs.filter (fun q => !inNs n q.1 s)
                                   queue := v.seals.queue.filter (fun q => !inNs n q s) } }

/-- The zones of a namespace as fresh ones; `phys i` is the physical zone of the i-th. -/
def freshZones (n type : Nat) (phys : Nat → Nat) (s : State) : State :=
  (List.range (get (Reg.ZMG_NS_COUNT.COUNT n) s)).foldl
    (fun t i => setZone (get (Reg.ZMG_NS_ZONES.FIRST n) s + i) (freshZone n type (phys i)) t) s

/-- The first physical zone of a drive-managed namespace's media cache (R217). Log entry 241 (DEDUCED). -/
def cacheAt (n type first : Nat) (s : State) : State :=
  if type = 3 then { s with zmg := { s.zmg with mcZone := AMap.insert n first s.zmg.mcZone } } else s

/-- NAMESPACE_CREATE: a namespace is created, formatted or deleted (R204): TYPE and LBAF of `cfg`, its zones at the physical zones from
`phys0` on where it is created, those of its media cache after them (R217). It is refused while a command to it is in flight, for an LBAF or TYPE that is not accepted
(R204, R329), and while a zone of it is sealed and unexpired (R327). Log entry 51 (DESIGN CHOICE). -/
def execNamespaceCreate (n cfg phys0 : Nat) (format : Bool) (s : State) : Out :=
  let type := if format then nsType n s else bits cfg 0 3
  let lbaf := bits cfg 3 1
  let first := get (Reg.ZMG_NS_ZONES.FIRST n) s
  let t := dropNs n s
  let u := puts [(Reg.ZMG_NS_CFG.TYPE n, type), (Reg.ZMG_NS_CFG.LBAF n, lbaf), (Reg.ZMG_NS_CFG.RO n, 0), (Reg.ZMG_NS_MC.ZONES n, mcZones n type s)] t
  unit n 64 (occurs (nsIdle n s = true ∧ typeOk type s = true ∧ lbafOk type lbaf = true ∧ nsHeld n s = false)
    (if type = 0 then put (Reg.ZMG_NS_CFG.PORTS n) 0 u
     else cacheAt n type (if format then AMap.getD s.zmg.mcZone n 0 else phys0 + get (Reg.ZMG_NS_COUNT.COUNT n) s) <| freshZones n type (fun i => if format then (zoneOf (first + i) s).phys else phys0 + i) u) s)

/-! ### Turns -/

/-- The logical zone that a context's command names or starts in. -/
def ctxZone (c : Ctx) (s : State) : Nat := get (Reg.ZMG_NS_ZONES.FIRST c.cmd.ns) s + (rangeOf c s).1 / zoneLbas c.cmd.ns s

/-- Commands that change data or zone state (R361). -/
def changes (op : HostOp) : Bool :=
  match op with
  | .write _ _ _ => true
  | .append _ _ _ => true
  | .zoneReset _ => true
  | .zoneFinish _ => true
  | .zoneOpen _ => true
  | .zoneClose _ => true
  | .deallocate _ _ => true
  | .format => true
  | .sanitize => true
  | _ => false

/-- An earlier-stamped command that changes a zone is still before its acceptance (R208). -/
def zoneAhead (c : Ctx) (s : State) : Bool :=
  s.cmd.ctxs.any (fun d => decide (d.stamp < c.stamp) && d.cmd.ns == c.cmd.ns && changes d.cmd.op && !d.accepted
    && ctxZone d s == ctxZone c s)

/-- An earlier-stamped command that touches a zone is still in the store (R209). -/
def zoneBusy (c : Ctx) (s : State) : Bool :=
  s.cmd.ctxs.any (fun d => decide (d.stamp < c.stamp) && d.cmd.ns == c.cmd.ns && changes d.cmd.op && ctxZone d s == ctxZone c s)

/-- A meaning over a waiting command that has been started; an access to a namespace whose table is being rebuilt waits (R234). -/
def onCtx (stamp : Nat) (f : Ctx → State) (s : State) : Out :=
  match ctxOf stamp s with
  | none => .next s
  | some c => .next (if c.started && !(isMedia c.cmd.op && tableWaits c.cmd.ns s) then f c else s)

/-! ### Opening a zone -/

/-- The implicitly opened zones of a namespace, by their last write, oldest first (R206). -/
def implicitZones (n : Nat) (s : State) : List Nat :=
  s.zmg.order.filter (fun z => (zoneOf z s).ns == n && (zoneOf z s).state == 2)

/-- The contexts that SEAL has (R318). -/
def sealContexts (s : State) : Nat := min 512 (get Reg.SEAL_CTX_CFG.COUNT s)

/-- The status that opening zone z meets, if any (R206, R318). -/
def openBlocked (z : Nat) (s : State) : Option Status :=
  let d := zoneOf z s
  if d.state = 1 ∧ get Reg.ZMG_LIMITS.MAX_ACTIVE s ≤ get Reg.ZMG_OPEN_CNT.ACTIVE s then some .tooManyActive
  else if d.state = 1 ∧ nsType d.ns s = 4 ∧ sealContexts s ≤ s.seals.ctxs.length then some .tooManyActive
  else if !isOpened d.state ∧ get Reg.ZMG_LIMITS.MAX_OPEN s ≤ get Reg.ZMG_OPEN_CNT.OPEN s ∧ implicitZones d.ns s = [] then some .tooManyOpen
  else none

/-- IMPLICIT_ZONE_CLOSE: the implicitly opened zone whose last write is oldest closes where MAX_OPEN leaves no room (R206). Log entry 52 (DEDUCED). -/
def makeRoom (z : Nat) (s : State) : State :=
  let d := zoneOf z s
  if !isOpened d.state ∧ get Reg.ZMG_LIMITS.MAX_OPEN s ≤ get Reg.ZMG_OPEN_CNT.OPEN s then
    match implicitZones d.ns s with
    | [] => s
    | v :: _ => setZone v { zoneOf v s with state := 4 } s
  else s

/-- The zone header of R316, and R_−1. -/
def zoneHeader (z : Nat) (d : Zone) : List Nat :=
  bytesOf 4 0x4E5A4C53 ++ [d.ns, 0, 0, 0] ++ bytesOf 4 z ++ bytesOf 6 d.stamp ++ List.replicate 14 0

/-- The address of a context (R318): 270,336 bytes each in a table at SEAL_CTX. -/
def ctxAddr (c : SealCtx) (s : State) : Nat :=
  get Reg.SEAL_CTX_LO.ADDR s * 4096 + get Reg.SEAL_CTX_HI.ADDR s * 2 ^ 32 + 270336 * c.slot

/-- The first place of the table that no context has. Log entry 265 (DESIGN CHOICE). -/
def ctxPlace (s : State) : Nat := ((List.range 512).find? (fun k => !s.seals.ctxs.any (fun p => p.2.slot == k))).getD 0

/-- A context as SEAL holds it, and parts of it as they stand in the table: the latest R_i at 0x40, the leaf of block k in the ring at 0x80, G_i from 0x2000 on (R318). Log
entry 1 (DESIGN CHOICE). Log entry 265 (DESIGN CHOICE). -/
def setCtxOf (z : Nat) (c : SealCtx) (s : State) : State := { s with seals := { s.seals with ctxs := AMap.insert z c s.seals.ctxs } }
def showRun (c : SealCtx) (s : State) : State := memPut (ctxAddr c s + 0x40) 64 c.r s
def showLeaf (c : SealCtx) (k h : Nat) (s : State) : State := memPut (ctxAddr c s + 0x80 + 64 * (k % 64)) 64 h s
def showGroup (c : SealCtx) (i g : Nat) (s : State) : State := memPut (ctxAddr c s + 0x2000 + 64 * i) 64 g s

/-- A sealed zone that opens takes a hashing context (R318). Log entry 53 (DEDUCED). -/
def takeSealCtx (z : Nat) (s : State) : State :=
  if nsType (zoneOf z s).ns s = 4 ∧ AMap.lookup z s.seals.ctxs = none then
    let c : SealCtx := { r := hash (zoneHeader z (zoneOf z s)), slot := ctxPlace s }
    let t := setCtxOf z c s
    showRun c (put Reg.SEAL_STAT.CTX_USED t.seals.ctxs.length t)
  else s

/-- A hashing context is freed (R318). Log entry 53 (DEDUCED). -/
def freeSealCtx (z : Nat) (s : State) : State :=
  let l := AMap.erase z s.seals.ctxs
  put Reg.SEAL_STAT.CTX_USED l.length { s with seals := { s.seals with ctxs := l } }

/-- A zone is opened, implicitly (0x2) or explicitly (0x3). -/
def openZone (z st : Nat) (s : State) : State :=
  let t := makeRoom z s
  takeSealCtx z (setZone z { zoneOf z t with state := st } t)

/-- The first write since the last reset gives a zone its open stamp (R205), and a sealed zone the header that its digest begins with (R316). -/
def stampZone (z : Nat) (s : State) : State :=
  if (zoneOf z s).host = 0 then
    (let t := setZone z { zoneOf z s with stamp := tmpCount s % 2 ^ 48 } s
     match AMap.lookup z t.seals.ctxs with
     | none => t
     | some c =>
       let d := { c with r := hash (zoneHeader z (zoneOf z t)) }
       showRun d (setCtxOf z d t))
  else s

/-! ### Writes at the pointer -/

/-- The status of a zone's state for a write. -/
def stateStatus (st : Nat) : Option Status :=
  if st = 14 then some .zoneFull else if st = 13 then some .zoneReadOnly else if st = 15 then some .zoneOffline else none

/-- The status that a write of n sectors at sector p of zone z meets (R206, R208), if any. -/
def writeBlocked (z p n : Nat) (s : State) : Option Status :=
  let d := zoneOf z s
  match stateStatus d.state with
  | some x => some x
  | none => if p ≠ d.host then some .zoneInvalidWrite
            else if 65536 < p + n then some .zoneBoundary
            else openBlocked z s

/-- The zone takes the write: an Empty or Closed zone opens implicitly; the command's first LBA is known. -/
def takeWrite (c : Ctx) (z lba : Nat) (s : State) : State :=
  let t := stampZone z (if isOpened (zoneOf z s).state then s else openZone z 2 s)
  setCtx { c with checked := true, lba := lba } t

/-- ZONE_WRITE: the pointer check of a write to a zoned or sealed namespace, when its turn comes (R208). -/
def execZoneWrite (stamp : Nat) (s : State) : Out :=
  onCtx stamp (fun c =>
    match c.cmd.op with
    | .write lba n _ =>
      if c.checked ∨ nsType c.cmd.ns s < 2 ∨ nsType c.cmd.ns s = 3 ∨ zoneAhead c s = true then s
      else match writeBlocked (ctxZone c s) (lba % 65536) n s with
        | some x => finish c x lba s
        | none => takeWrite c (ctxZone c s) lba s
    | _ => s) s

/-- ZONE_APPEND: an append takes its LBA from the host write pointer when its turn comes (R208); 1 MiB at most (R342). -/
def execZoneAppend (stamp : Nat) (s : State) : Out :=
  onCtx stamp (fun c =>
    match c.cmd.op with
    | .append k n _ =>
      let z := ctxZone c s
      if c.checked ∨ zoneAhead c s = true then s
      else if nsType c.cmd.ns s = 1 ∨ nsType c.cmd.ns s = 3 ∨ 256 < n then finish c .invalidField (k * 65536) s
      else match writeBlocked z (zoneOf z s).host n s with
        | some x => finish c x (k * 65536) s
        | none => takeWrite c z (k * 65536 + (zoneOf z s).host) s
    | _ => s) s

/-! ### Zone commands -/

/-- A zone command of a zoned or sealed namespace at its turn: `f` on its zone, or the status of a zone that cannot take it. -/
def zoneOp (c : Ctx) (stamp k : Nat) (f : Nat → State) (s : State) : State :=
  let z := ctxZone c s
  let st := (zoneOf z s).state
  if c.stamp ≠ stamp ∨ zoneBusy c s = true then s
  else if nsType c.cmd.ns s ≠ 2 ∧ nsType c.cmd.ns s ≠ 4 then finish c .invalidField (k * 65536) s
  else if st = 13 then finish c .zoneReadOnly (k * 65536) s
  else if st = 15 then finish c .zoneOffline (k * 65536) s
  else f z

/-- A zone is reset (R209): pointers, open stamp and parity count are 0, the saved accumulator is freed, cached data that has not reached
the media is discarded, and both lists lose the zone's LBAs. -/
def resetZone (z : Nat) (s : State) : State :=
  let d := zoneOf z s
  let b := blockOf z 0 s
  let k := lbasPerBlock d.ns s
  let t := clearLost d.ns (b * k) (65536 * k) (clearPend d.ns (b * k) (65536 * k) s)
  let u := { t with cmd := { t.cmd with lines := t.cmd.lines.filter (fun l => !(l.ns == d.ns && decide (b ≤ l.blk) && decide (l.blk < b + 65536))) }
                    zmg := { t.zmg with finish := t.zmg.finish.filter (fun q => q.1 != z), fullAt := AMap.erase z t.zmg.fullAt
                                        order := t.zmg.order.filter (· != z) }
                    seals := { t.seals with queue := t.seals.queue.filter (· != z) } }
  freeSealCtx z (countDirty (setZone z { d with state := 1, sealed := false, copied := false, pend := false, recov := false, host := 0, media := 0,
                                                  group := 0, stamp := 0, acc := 0 } u))

/-- ZONE_RESET: refused for a sealed zone whose retention has not expired (R209, R327). -/
def execZoneReset (stamp : Nat) (s : State) : Out :=
  onCtx stamp (fun c =>
    match c.cmd.op with
    | .zoneReset k => zoneOp c stamp k (fun z =>
        if held z s then finish c .retention (k * 65536) s else finish c .success (k * 65536) (resetZone z s)) s
    | _ => s) s

/-- A zone is finished (R210): Full, the host write pointer at the zone end, the open group's parity sector due. -/
def finishZone (z : Nat) (s : State) : State :=
  let d := zoneOf z s
  if d.state = 14 then s
  else
    let t := takeSealCtx z (setZone z { d with state := 14, host := 65536 } s)
    noteEligible z { t with zmg := { t.zmg with finish := if d.host % 31 = 0 then t.zmg.finish else t.zmg.finish ++ [(z, d.host)]
                                                fullAt := AMap.insert z d.host t.zmg.fullAt } }

/-- ZONE_FINISH (R210). -/
def execZoneFinish (stamp : Nat) (s : State) : Out :=
  onCtx stamp (fun c =>
    match c.cmd.op with
    | .zoneFinish k => zoneOp c stamp k (fun z => finish c .success (k * 65536) (finishZone z s)) s
    | _ => s) s

/-- ZONE_OPEN: an explicit open (R206): Explicitly Opened within MAX_OPEN and MAX_ACTIVE. -/
def execZoneOpen (stamp : Nat) (s : State) : Out :=
  onCtx stamp (fun c =>
    match c.cmd.op with
    | .zoneOpen k => zoneOp c stamp k (fun z =>
        if (zoneOf z s).state = 14 then finish c .zoneFull (k * 65536) s
        else if (zoneOf z s).state = 3 then finish c .success (k * 65536) s
        else match openBlocked z s with
          | some x => finish c x (k * 65536) s
          | none => finish c .success (k * 65536) (openZone z 3 s)) s
    | _ => s) s

/-- ZONE_CLOSE: an opened zone goes to Closed, one without written sectors to Empty; another state is an invalid field. Log entry 52 (DEDUCED). -/
def execZoneClose (stamp : Nat) (s : State) : Out :=
  onCtx stamp (fun c =>
    match c.cmd.op with
    | .zoneClose k => zoneOp c stamp k (fun z =>
        let d := zoneOf z s
        if d.state = 4 then finish c .success (k * 65536) s
        else if isOpened d.state then
          finish c .success (k * 65536) (if d.host = 0 then freeSealCtx z (setZone z { d with state := 1 } s) else setZone z { d with state := 4 } s)
        else finish c .invalidField (k * 65536) s) s
    | _ => s) s

/-! ### Recovery -/

/-- The sectors of a stream that an observer loss leaves unverified (R214): written within BACK_TEMPOS before it. -/
def unverified (n at' : Nat) (s : State) : List Written :=
  (hchOf n s).recent.filter (fun w => decide (at' ≤ w.tempo + get Reg.ZMG_RECOV_CFG.BACK_TEMPOS s))

/-- The first unverified sector that fails R193 when it is read back, or is not read. -/
def firstBad : List Written → List Decoded → State → Option Written
  | w :: t, d :: u, s =>
    if accepted (zoneOf w.lz s).phys (physIdx (isShingled (zoneOf w.lz s)) w.p) d then firstBad t u s else some w
  | w :: _, [], _ => some w
  | [], _, _ => none

/-- LOSS_REWRITE_RECOVERY: after phase lock has returned from an observer loss, what was written last is read back, and each media write
pointer goes back to the sector after the last verified one (R214). `reads` are, for each stream, the decodes of its unverified sectors in order. -/
def execLossRewriteRecovery (reads : List (List Decoded)) (s : State) : Out :=
  match s.zmg.lossAt with
  | none => .next s
  | some a =>
    occurs (get Reg.SPN_STAT.LOCK s = 2)
      (let t := (List.range 5).foldl (fun u n =>
          match firstBad (unverified n a s) (reads.getD n []) s with
          | none => u
          | some w => rewind n w.lz w.p u) s
       { t with zmg := { t.zmg with lossAt := none } }) s

/-- How far the scan of R215 goes in a physical zone: sectors that are accepted and not stale, one after another. -/
def scanWp (phys open_ : Nat) : List Decoded → Nat → Nat
  | [], p => p
  | d :: t, p => if accepted phys (physIdx true p) d && decide (open_ ≤ infoStamp d.info) && decide (p < 65536) then scanWp phys open_ t (p + 1) else p

/-- RECOVERING follows the zones with RECOV. -/
def showRecovering (s : State) : State := put Reg.ZMG_STAT.RECOVERING (b2n (s.zmg.order.any (fun z => (zoneOf z s).recov))) s

/-- The accumulator of the group that is open at p (R215): the XOR of its data sectors, of those before the scan's start m and of those that the scan took. Log entry 247 (DEDUCED). -/
def groupAcc (m p : Nat) (before reads : List Decoded) : Nat :=
  let b := p / 31 * 31
  xorAll ((if m / 31 = p / 31 then before.map (·.info) else []) ++ (((reads.take (p - m)).drop (b - m)).map (·.info)))

/-- WP_RECOVERY: the write pointers of the zone with RECOV that was written last are recovered (R215, R216), while the spindle has no fault: `before` are the data
sectors of the open group before the journaled media write pointer, `reads` the sectors from that pointer on; the accumulator is saved at `accAddr`; `head` and
`track` are the track behind the pointer, to be verified toward its written neighbour. What the host write pointer had
above it is lost (R215, R369), and a sealed zone that lost data goes Read Only (R319). Log entry 247 (DEDUCED). -/
def execWpRecovery (z : Nat) (before reads : List Decoded) (accAddr head track : Nat) (s : State) : Out :=
  let d := zoneOf z s
  let p := scanWp d.phys d.stamp reads d.media
  let g := p % 31
  let lim := (AMap.lookup z s.zmg.fullAt).getD d.host
  let ro := decide (p < lim) && nsType d.ns s == 4 && !d.sealed
  let t := setZone z { d with media := p, host := if d.state = 14 then d.host else p, group := g, acc := if g = 0 then 0 else accAddr,
                                recov := false, state := if ro then 13 else d.state } s
  let u := if g = 0 then t else memPut accAddr 4128 (groupAcc d.media p before reads) t
  let v := { u with zmg := { u.zmg with ati := u.zmg.ati ++ [(head, track, 0, 399)] } }
  let w := if p < lim then addLost d.ns (blockOf z p s * lbasPerBlock d.ns s) ((lim - p) * lbasPerBlock d.ns s) 2 v else v
  let x := if ro then raisePost 481 0 (bytesOf 3 z) (freeSealCtx z w)
    else match AMap.lookup z w.seals.ctxs with | some c => setCtxOf z { c with damaged := true } w | none => w
  occurs (d.recov = true ∧ (s.zmg.order.filter (fun k => (zoneOf k s).recov)).getLast? = some z ∧ get Reg.SYS_MODE.MEDIA_FAULT s = 0
      ∧ before.length = d.media % 31)
    (showRecovering (raisePost 288 0 (bytesOf 3 z) (noteEligible z x))) s

end Sys2Proof.Machine
end

