-- ==== Sys2Proof/Machine/Integrity.lean ====
section
/-! DEFINITION. 08_zones_and_media.md, what the zone manager does to the media: drive-managed translation (R217 to R223), 512-byte emulation
(R224, R225), defects and relocation (R226, R227), deep recovery (R228 to R230), the scan (R231, R232) and the tables
(R233, R234). -/

namespace Sys2Proof.Machine

def zmgOn (s : State) : Bool := get Reg.ZMG_CTL.EN s == 1

/-! ### The media cache -/

/-- The slots of a namespace's media cache: 17 physical sectors each (R217). -/
def mcSlots (n : Nat) (s : State) : Nat := get (Reg.ZMG_NS_MC.ZONES n) s * 65536 / 17

/-- The fill of a namespace's media cache in percent. Log entry 48 (DEDUCED). -/
def mcFill (n : Nat) (s : State) : Nat := (s.zmg.mc.filter (fun e => e.ns == n)).length * 100 / max 1 (mcSlots n s)

/-- The namespace with the highest fill. -/
def fullest (s : State) : Nat := (List.range 64).foldl (fun b n => if mcFill b s < mcFill n s then n else b) 0

/-- ZMG_DM_STAT follows the fills. Log entry 48 (DEDUCED). -/
def showFill (s : State) : State := puts [(Reg.ZMG_DM_STAT.FILL, mcFill (fullest s) s), (Reg.ZMG_DM_STAT.NS, fullest s)] s

/-- The index entry of an extent (R218). -/
def mcOf (n extent : Nat) (s : State) : Option McEntry := s.zmg.mc.find? (fun e => e.ns == n && e.extent == extent)

/-- The dirty lines of an extent: 16 blocks of 4 KiB. -/
def extentLines (n extent : Nat) (s : State) : List CacheLine := s.cmd.lines.filter (fun l => l.ns == n && l.blk / 16 == extent)

/-- The mask of the blocks that lines hold. -/
def lineMask (l : List CacheLine) : Nat := l.foldl (fun m x => withBit m (x.blk % 16) true) 0

/-- The tag sector's first 24 user bytes (R217). -/
def tagBytes (extent mask stamp seq : Nat) : List Nat := bytesOf 8 extent ++ bytesOf 2 mask ++ bytesOf 6 stamp ++ bytesOf 8 seq

/-- The 16 blocks of a new slot: the new ones over those of the extent's existing slot (R219). -/
def slotBlocks (n extent : Nat) (old : List Nat) (s : State) : List Nat :=
  (List.range 16).map (fun i => ((lineOf n (16 * extent + i) s).map (·.data)).getD (old.getD i 0))

/-- The first free slot of a namespace's circular log, from one on (R217, R219). Log entry 241 (DEDUCED). -/
def freeSlot (n : Nat) (s : State) : (fuel k : Nat) → Nat
  | 0, k => k
  | f + 1, k => if s.zmg.mc.any (fun e => e.ns == n && e.slot == k) then freeSlot n s f ((k + 1) % max 1 (mcSlots n s)) else k

/-- The log head of a namespace's media cache, and the next log sequence number. -/
def logHead (n : Nat) (s : State) : Nat := freeSlot n s s.zmg.mc.length (AMap.getD s.zmg.mcHead n 0)
def logSeq (n : Nat) (s : State) : Nat := AMap.getD s.zmg.mcSeq n 0

/-- The index points at a slot that stands at the log head (R218, R219); the old slot of the extent is freed, and the change is journaled. -/
def indexSlot (e : McEntry) (s : State) : State :=
  let h := (e.slot + 1) % max 1 (mcSlots e.ns s)
  let q := logSeq e.ns s + 1
  let l := s.zmg.mc.filter (fun x => !(x.ns == e.ns && x.extent == e.extent)) ++ [e]
  journal (.slot e h q) { s with zmg := { s.zmg with mc := l, mcHead := AMap.insert e.ns h s.zmg.mcHead, mcSeq := AMap.insert e.ns q s.zmg.mcSeq } }

/-- Index entries are given up and their slots freed; the change is journaled. -/
def dropSlots (l : List McEntry) (s : State) : State :=
  if l = [] then s else journal (.drop l) { s with zmg := { s.zmg with mc := s.zmg.mc.filter (fun e => !l.contains e) } }

/-- A slot is written at the log head and the index points to it (R219): the old one is freed, and then the blocks leave the cache. -/
def destage (n extent : Nat) (old : List Nat) (s : State) : State :=
  let mask := lineMask (extentLines n extent s) ||| ((mcOf n extent s).map (·.mask)).getD 0
  let st := tmpCount s % 2 ^ 48
  let t := send (.slot n (logHead n s) (tagBytes extent mask st (logSeq n s)) (slotBlocks n extent old s)) s
  let u := indexSlot ⟨n, extent, logHead n s, mask, st⟩ t
  showFill (countDirty { u with cmd := { u.cmd with lines := u.cmd.lines.filter (fun x => !(x.ns == n && x.blk / 16 == extent)) } })

/-- MEDIA_CACHE_DESTAGE: dirty data of an extent goes to a new slot (R219), unless the fill has reached CRIT (R222). `old` gives the blocks of
the extent's existing slot. -/
def execMediaCacheDestage (n extent : Nat) (old : List Nat) (s : State) : Out :=
  unit n 64 (occurs (zmgOn s = true ∧ nsType n s = 3 ∧ extentLines n extent s ≠ [] ∧ (extentLines n extent s).all (fun l => l.mask == 255) = true
      ∧ mcFill n s < get Reg.ZMG_DM_CFG.CRIT s ∧ (s.zmg.mc.filter (fun e => e.ns == n)).length < mcSlots n s) (destage n extent old s) s)

/-- The tag sector of a slot (R217): its physical zone and the sector's index there. Log entry 241 (DEDUCED). -/
def tagPlace (n slot : Nat) (s : State) : Nat × Nat := (AMap.getD s.zmg.mcZone n 0 + 17 * slot / 65536, 17 * slot % 65536)

/-- The index entry that a tag sector's user bytes give a slot (R217). -/
def tagEntry (n slot info : Nat) : McEntry := ⟨n, bits info 0 64, slot, bits info 64 16, bits info 80 48⟩

/-- The index is completed from the tag sectors past the journaled log head, up to the first slot that fails R193 (R233), or that an earlier round of the log left. Log entry 241 (DEDUCED). -/
def completeCache (n : Nat) : List Decoded → State → State
  | [], s => s
  | d :: t, s =>
    let k := logHead n s
    if accepted (tagPlace n k s).1 (tagPlace n k s).2 d ∧ bits d.info 128 64 = logSeq n s then completeCache n t (indexSlot (tagEntry n k d.info) s) else s

/-- MEDIA_CACHE_CRIT: the fill stands at or above CRIT (R222): line 3. -/
def execMediaCacheCrit (n : Nat) (s : State) : Out :=
  unit n 64 (occurs (nsType n s = 3 ∧ get Reg.ZMG_DM_CFG.CRIT s ≤ mcFill n s ∧ s.zmg.crit.contains n = false)
    (raisePost 291 0 [n] { s with zmg := { s.zmg with crit := s.zmg.crit ++ [n] } }) s)

/-- A namespace below CRIT again may reach it anew. -/
def leaveCrit (n : Nat) (s : State) : State :=
  if mcFill n s < get Reg.ZMG_DM_CFG.CRIT s then { s with zmg := { s.zmg with crit := s.zmg.crit.filter (· != n) } } else s

/-! ### Bands -/

/-- ZMG_SPARE.FREE follows the free spare zones; line 4 where it falls below LOW (R227). -/
def setSpares (l : List Nat) (s : State) : State :=
  let was := get Reg.ZMG_SPARE.FREE s
  let low := get Reg.ZMG_SPARE.LOW s
  let t := put Reg.ZMG_SPARE.FREE l.length { s with zmg := { s.zmg with spares := l } }
  if l.length < low ∧ low ≤ was then raisePost 292 0 (bytesOf 4 l.length) t else t

/-- A band's blocks are taken from the cache. Log entry 49 (DEDUCED). -/
def takeBlocks (z lo n : Nat) (s : State) : State :=
  let ns := (zoneOf z s).ns
  let b := blockOf z lo s
  countDirty { s with cmd := { s.cmd with lines := s.cmd.lines.filter (fun l => !(l.ns == ns && decide (b ≤ l.blk) && decide (l.blk < b + n))) } }

/-- Consecutive blocks of the cache as one number, low byte first. -/
def cachedRun (n lo : Nat) (s : State) : (count : Nat) → Nat
  | 0 => 0
  | k + 1 => cachedRun n lo s k + ((lineOf n (lo + k) s).map (·.data)).getD 0 % 2 ^ 32768 * 2 ^ (32768 * k)

/-- The free shingled zones that the drive-managed namespaces keep between them (R221). Log entry 242 (DESIGN CHOICE). -/
def reservedZones (s : State) : Nat := get Reg.ZMG_DM_CFG.FREE_MIN s * ((List.range 64).filter (fun n => nsType n s == 3)).length

/-- The index entries of a band. -/
def bandEntries (n band : Nat) (s : State) : List McEntry := s.zmg.mc.filter (fun e => e.ns == n && e.extent / 4096 == band)

/-- DIRECT_BAND_WRITE: a stream from block 0 of a band on, of at least DIRECT_MIN, goes to a new band image in a free shingled zone (R220); one
that stops before the band's end leaves an image that cleaning completes. `count` blocks of the cache, all whole. Log entry 242 (DESIGN CHOICE). -/
def execDirectBandWrite (n band count phys : Nat) (s : State) : Out :=
  let z := get (Reg.ZMG_NS_ZONES.FIRST n) s + band
  let t := send (.image phys 0 (cachedRun n (65536 * band) s count)) (setSpares (s.zmg.spares.filter (· != phys)) (takeBlocks z 0 count s))
  let u := if count = 65536 then
      setSpares (t.zmg.spares ++ [(zoneOf z s).phys]) (dropSlots (bandEntries n band s) (setZone z { zoneOf z s with phys := phys } t))
    else { t with zmg := { t.zmg with images := t.zmg.images.filter (fun q => q.1 != z) ++ [(z, phys, count, tmpCount s % 2 ^ 48)] } }
  unit n 64 (occurs (zmgOn s = true ∧ nsType n s = 3 ∧ inNs n z s = true ∧ s.zmg.spares.contains phys = true ∧ count ≤ 65536
      ∧ (count = 65536 ∨ reservedZones s < s.zmg.spares.length)
      ∧ 2 ^ get Reg.ZMG_DM_CFG.DIRECT_MIN s * 256 ≤ count
      ∧ (List.range count).all (fun i => (match lineOf n (65536 * band + i) s with | none => false | some l => l.mask == 255)) = true)
    (showFill u) s)

/-- The cached extents of a band. -/
def bandExtents (n band : Nat) (s : State) : Nat := (bandEntries n band s).length

/-- The band may be cleaned next: it has an image to complete, or the most cached extents of its namespace (R220, R222). -/
def cleanNext (n band : Nat) (s : State) : Bool :=
  let z := get (Reg.ZMG_NS_ZONES.FIRST n) s + band
  s.zmg.images.any (fun q => q.1 == z)
  || (decide (0 < bandExtents n band s) && (List.range (get (Reg.ZMG_NS_COUNT.COUNT n) s)).all (fun b => decide (bandExtents n b s ≤ bandExtents n band s)))

/-- The actuators that hold the zones of a command's range (R202). -/
def ctxActs (c : Ctx) (s : State) : List Nat :=
  let r := rangeOf c s
  let z := zoneLbas c.cmd.ns s
  let f := get (Reg.ZMG_NS_ZONES.FIRST c.cmd.ns) s
  (List.range ((r.1 + r.2 - 1) / z - r.1 / z + 1)).map (fun i => actOfHead (Config.zoneHead (zoneOf (f + r.1 / z + i) s).phys))

/-- A natural gap of an actuator: no host work is queued on it (R222, R231). -/
def naturalGap (a : Nat) (s : State) : Bool := !s.cmd.ctxs.any (fun c => isMedia c.cmd.op && (ctxActs c s).contains a)

/-- The actuator of a physical zone's surface. -/
def zoneAct (phys : Nat) : Nat := actOfHead (Config.zoneHead phys)

/-- Cleaning of a namespace may take an actuator's time (R222): below HIGH in a natural gap only; from HIGH on at least SHARE of the time is its due, whatever the host load. Log entry 243 (DEDUCED). -/
def cleanTime (n phys : Nat) (s : State) : Bool := decide (get Reg.ZMG_DM_CFG.HIGH s ≤ mcFill n s) || naturalGap (zoneAct phys) s

/-- Bits of a number are replaced. -/
def setBits (v lo w x : Nat) : Nat := v - bits v lo w * 2 ^ lo + x % 2 ^ w * 2 ^ lo

/-- A band image with a cached extent's blocks over it (R218, R221): `slot` holds the slot's 16 blocks. -/
def overExtent (slot : Nat → Nat) (v : Nat) (e : McEntry) : Nat :=
  (List.range 16).foldl (fun w b => if e.mask.testBit b then setBits w (32768 * (16 * (e.extent % 4096) + b)) 32768 (bits (slot e.extent) (32768 * b) 32768) else w) v

/-- The extents that a cleaning pass begun at a stamp merges (R222): those not newer, and of those under an image begun before, the ones from its end on. -/
def mergedNow (n band since : Nat) (s : State) : List McEntry :=
  let img := s.zmg.images.find? (fun q => q.1 == get (Reg.ZMG_NS_ZONES.FIRST n) s + band)
  (bandEntries n band s).filter (fun e => decide (e.stamp ≤ since)
    && (match img with | none => true | some q => decide (q.2.2.1 ≤ 16 * (e.extent % 4096)) || decide (e.stamp ≤ q.2.2.2)))

/-- BAND_CLEANING: the merged band is written to a free shingled zone, the swap is journaled, the old zone and the band's slots are freed
(R221). An image begun under R220 is the zone that is completed. `home` is the band's image as read, `slots` the 64 KiB of its cached extents; an extent newer than the
pass, which began at `since`, survives (R222). -/
def execBandCleaning (n band phys since home : Nat) (slots : List (Nat × Nat)) (s : State) : Out :=
  let z := get (Reg.ZMG_NS_ZONES.FIRST n) s + band
  let img := s.zmg.images.find? (fun q => q.1 == z)
  let new := (img.map (·.2.1)).getD phys
  let done := (img.map (·.2.2.1)).getD 0
  let old := (zoneOf z s).phys
  let l := mergedNow n band since s
  let v := l.foldl (overExtent (fun x => (AMap.lookup x slots).getD 0)) home
  let t := dropSlots l (setZone z { zoneOf z s with phys := new }
    (send (.image new done (v / 2 ^ (32768 * done))) { s with zmg := { s.zmg with images := s.zmg.images.filter (fun q => q.1 != z) } }))
  unit n 64 (occurs (zmgOn s = true ∧ get Reg.ZMG_CTL.CLEAN_EN s = 1 ∧ nsType n s = 3 ∧ inNs n z s = true ∧ cleanNext n band s = true
      ∧ cleanTime n old s = true ∧ since ≤ tmpCount s % 2 ^ 48 ∧ (img.isSome = true ∨ s.zmg.spares.contains phys = true))
    (leaveCrit n (showFill (bump Reg.ZMG_DM_STAT.CLEANS (setSpares ((s.zmg.spares.filter (· != new)) ++ [old]) t)))) s)

/-! ### 512-byte emulation -/

/-- The sub-sectors of a block: those of the mask from the host's data, the others from what stands there (R224). -/
def mergeSubs (mask new old : Nat) : Nat :=
  (List.range 8).foldl (fun v i => v + bits (if mask.testBit i then new else old) (4096 * i) 4096 * 2 ^ (4096 * i)) 0

/-- SUBSECTOR_FILL: the missing sub-sectors of a line are filled from the block's current location (R224), or with zeroes where that cannot
be read after deep recovery: their LBAs then enter the pending-unrecoverable list (R225). -/
def execSubsectorFill (n blk data : Nat) (failed : Bool) (s : State) : Out :=
  match lineOf n blk s with
  | none => .next s
  | some l =>
    let f : CacheLine := { l with mask := 255, data := mergeSubs l.mask l.data (if failed then 0 else data) }
    let t := { s with cmd := { s.cmd with lines := s.cmd.lines.map (fun x => if x.ns == n && x.blk == blk then f else x) } }
    let gaps := (List.range 8).filter (fun i => !l.mask.testBit i)
    occurs (l.mask ≠ 255) (if failed then gaps.foldl (fun u i => addPend n (8 * blk + i) 1 u) t else t) s

/-! ### Defects and relocation -/

/-- A sector leaves the list of sectors that wait for repair. -/
def repaired (q : Nat × Nat) (s : State) : State :=
  { s with zmg := { s.zmg with rewrite := s.zmg.rewrite.filter (fun x => x.1 != q) } }

/-- The remaps are set; the change is journaled (R233). -/
def setRemaps (l : List ((Nat × Nat) × (Nat × Nat))) (s : State) : State := journal (.remap l) { s with zmg := { s.zmg with remaps := l } }

/-- The remaps of a physical zone. -/
def remapsOf (zone : Nat) (s : State) : Nat := (s.zmg.remaps.filter (fun r => r.1.1 == zone)).length

/-- Reads follow a remap (R226): the place where a sector stands. Log entry 244 (DEDUCED). -/
def placeFor (q : Nat × Nat) (s : State) : Nat × Nat := ((s.zmg.remaps.find? (fun r => r.1 == q)).map (·.2)).getD q

/-- The logical zones of all namespaces, and the one that stands at a physical zone. -/
def allZones (s : State) : List Nat :=
  (List.range 64).flatMap (fun n => if nsType n s = 0 then [] else (List.range (get (Reg.ZMG_NS_COUNT.COUNT n) s)).map (· + get (Reg.ZMG_NS_ZONES.FIRST n) s))
def zoneAt (phys : Nat) (s : State) : Option Nat := (allZones s).find? (fun z => (zoneOf z s).phys == phys)

/-- A physical zone is written as a shingled one. -/
def shingledAt (phys : Nat) (s : State) : Bool := match zoneAt phys s with | none => false | some z => isShingled (zoneOf z s)

/-- A spare sector stands ready for a remap (R226): free, in a conventional spare zone on the same actuator. Log entry 244 (DEDUCED). -/
def spareSector (zone : Nat) (q : Nat × Nat) (s : State) : Bool :=
  (s.zmg.spares.contains q.1 || s.zmg.remaps.any (fun r => r.2.1 == q.1)) && decide (q.2 < 65536) && zoneAct q.1 == zoneAct zone
  && !s.zmg.remaps.any (fun r => r.2 == q)

/-- A sector is written anew with the information it had: its PSA, its user bytes and protection information under a new write stamp (R181). Log entry 244 (DEDUCED). -/
def anew (q : Nat × Nat) (info : Nat) (s : State) : Nat := ofBytes (sectorBytes q.1 q.2 (tmpCount s) (bits info 32896 64) (infoData info))

/-- A sector's remap (R226): its PSA goes to a spare sector, which is written; more than ZONE_MAX remaps make the zone due for relocation. Log entry 244 (DEDUCED). -/
def remapTo (n : Nat) (q spare : Nat × Nat) (info : Nat) (s : State) : State :=
  let t := setSpares (s.zmg.spares.filter (· != spare.1)) (setRemaps (s.zmg.remaps.filter (fun r => r.1 != q) ++ [(q, spare)]) (emitSector n spare.1 spare.2 info s))
  let u := put Reg.ZMG_DEFECT.REMAPS (get Reg.ZMG_DEFECT.REMAPS s + 1) t
  if get Reg.ZMG_DEFECT.ZONE_MAX s < remapsOf q.1 u ∧ !u.zmg.relocate.contains q.1 then { u with zmg := { u.zmg with relocate := u.zmg.relocate ++ [q.1] } } else u

/-- DEFECT_REMAP: a grown defect that waits for repair is rewritten in place in a conventional zone where the rewrite reads back accepted (`back`), and remapped to a spare sector
otherwise (R226), by stream n under its head's permit. -/
def execDefectRemap (n zone idx spareZone spareIdx : Nat) (back : Decoded) (s : State) : Out :=
  let q := (zone, idx)
  unit n 5 (match s.zmg.rewrite.find? (fun x => x.1 == q) with
    | none => .next s
    | some x =>
      let info := anew q x.2 s
      let t := if shingledAt zone s then repaired q s else emitSector n zone idx info (repaired q s)
      occurs (zmgOn s = true ∧ streamRuns n s = true ∧ mayWrite n s = true ∧ spareSector zone (spareZone, spareIdx) s = true)
        (if shingledAt zone s = false ∧ accepted zone idx back = true then t else remapTo n q (spareZone, spareIdx) info t) s)

/-- A physical zone lies on the surface of a head that is retiring or retired (R166, R167). Log entry 214 (DESIGN CHOICE). -/
def surfaceLeft (phys : Nat) (s : State) : Bool :=
  (List.range 24).any (fun h => (get (Reg.ASX_HSTAT.RETIRE_PEND h) s == 1 || isRetired h s) && Config.zoneHead phys == h)

/-- The spare zones that a relocation may use: none on a surface that migrates (R166), and none while no more are left than the drive-managed namespaces keep (R221).
All are of the size of a shingled zone (R202). Log entries 214 (DESIGN CHOICE), 242 (DESIGN CHOICE). -/
def sparesFree (s : State) : List Nat := if s.zmg.spares.length ≤ reservedZones s then [] else s.zmg.spares.filter (fun p => !surfaceLeft p s)

/-- A relocation begins (R227): RELOC is set, a spare zone is taken. -/
def relocStart (z phys : Nat) (s : State) : State :=
  setSpares (s.zmg.spares.filter (· != phys)) (setZone z { zoneOf z s with reloc := true } { s with zmg := { s.zmg with copying := AMap.insert z phys s.zmg.copying } })

/-- A relocation ends (R227): the sectors up to the media write pointer stand in the spare zone, the descriptor names it, the old zone is free. -/
def relocEnd (z phys data : Nat) (s : State) : State :=
  let d := zoneOf z s
  let t := send (.image phys 0 (data % 2 ^ (32768 * (if isShingled d then d.media else 65536)))) (setZone z { d with phys := phys, reloc := false }
    (setRemaps (s.zmg.remaps.filter (fun r => r.1.1 != d.phys))
    { s with zmg := { s.zmg with relocate := s.zmg.relocate.filter (· != d.phys), copying := AMap.erase z s.zmg.copying
                                 rewrite := s.zmg.rewrite.filter (fun q => q.1.1 != d.phys), failed := s.zmg.failed.filter (fun q => q.1 != d.phys) } }))
  setSpares (t.zmg.spares ++ [d.phys]) t

/-- ZONE_RELOCATION: a zone's sectors are copied to a spare physical zone, and the descriptor names it (R227), as for each zone of a surface that migrates (R166); where no spare zone is free
the zone goes Read Only and line 4 is raised. The copy begins with RELOC set and ends with `data`, the user bytes read; reads come from the old zone and writes wait meanwhile. Log entries 49 (DEDUCED), 246 (DEDUCED). -/
def execZoneRelocation (z phys data : Nat) (s : State) : Out :=
  match AMap.lookup z s.zmg.copying with
  | some p => occurs (zmgOn s = true) (relocEnd z p data s) s
  | none =>
    if sparesFree s = [] then .next (raisePost 292 0 (bytesOf 3 z) (setZone z { zoneOf z s with state := 13, reloc := false } s))
    else occurs (zmgOn s = true ∧ (sparesFree s).contains phys = true) (relocStart z phys s) s

/-! ### Deep recovery -/

/-- Where a data sector of a zone stands (R183, R226). -/
def sectorPlace (z p : Nat) (s : State) : Nat × Nat := placeFor ((zoneOf z s).phys, physIdx (isShingled (zoneOf z s)) p) s

/-- The information of a sector from its optical copy (R228): the copy's user bytes under a stamp of its zone. Log entry 245 (DEDUCED). -/
def copyInfo (z p data : Nat) (s : State) : Nat :=
  ofBytes (sectorBytes (zoneOf z s).phys (physIdx (isShingled (zoneOf z s)) p) (zoneOf z s).stamp 0 data)

/-- The user bytes of sector p of zone z in the optical copy, where a recovery read has found its cluster (R228, R287): cluster index i holds zone sectors 16 i to 16 i + 15. Log entry 258 (DEDUCED). -/
def copyData (z p : Nat) (s : State) : Option Nat :=
  match s.och.found with
  | some (zone, i, v) => if zone = z ∧ i = p / 16 then some (bits v (8 * (1024 + 4096 * (p % 16))) 32768) else none
  | none => none

/-- What the steps of R228 come to after the ladder: its accepted sector; the XOR of the group; the optical copy of a sealed and copied zone. -/
def deepResult (z p : Nat) (ladder : Verdict) (group : List Decoded × Decoded) (copy : Option Nat) (s : State) : Option Nat :=
  let d := zoneOf z s
  let parity := if isShingled d then parityVerdict d.phys (physIdx true p) group.1 group.2 s else .failed
  match ladder, parity, copy with
  | .ok i _, _, _ => some i.info
  | _, .ok i _, _ => some i.info
  | _, _, some v => if d.sealed && d.copied then some (copyInfo z p v s) else none
  | _, _, none => none

/-- DEEP_RECOVERY: the steps of R228 on data sector p of logical zone z, which HCH has reported FAILED: the ladder on stream n with four times its
budget, track parity in shingled zones with the group's other sectors recovered, the optical copy of a sealed and copied zone. A recovered sector is due to be
rewritten or remapped, and its LBAs leave the pending-unrecoverable list; otherwise they enter it (R229). -/
def execDeepRecovery (n z p : Nat) (rereads : List Reread) (others : List Decoded) (parity : Decoded) (s : State) : Out :=
  let d := zoneOf z s
  let q := sectorPlace z p s
  let k := lbasPerBlock d.ns s
  let a := blockOf z p s * k
  let t := { s with zmg := { s.zmg with failed := s.zmg.failed.filter (· != q) } }
  unit n 5 (match climb n d.phys (physIdx (isShingled d) p) (4 * budgetOf n s) s (planOf n s) 0 0 rereads with
    | none => .next s
    | some v => occurs (s.zmg.failed.contains q = true ∧ streamRuns n s = true)
      (match deepResult z p v.1 (others, parity) (copyData z p s) s with
       | some info => clearPend d.ns a k { t with zmg := { t.zmg with rewrite := t.zmg.rewrite ++ [((d.phys, physIdx (isShingled d) p), info)] } }
       | none => if touchesPend d.ns a k t then t else addPend d.ns a k t) s)

/-- A sector of a range waits for deep recovery. -/
def waitsRecovery (c : Ctx) (s : State) : Bool :=
  let r := rangeOf c s
  (blocksOf c.cmd.ns r.1 r.2 s).any (fun b => s.zmg.failed.contains (sectorPlace (zoneOfBlock c.cmd.ns b s) (b % 65536) s))

/-- HOST_READ_RECOVERY_TIMEOUT: a host read has waited HOST_MS for deep recovery (R228). -/
def execHostReadRecoveryTimeout (stamp waitedMs : Nat) (s : State) : Out :=
  onCtx stamp (fun c =>
    match c.cmd.op with
    | .read a _ => if waitsRecovery c s ∧ get Reg.ZMG_RECOV_CFG.HOST_MS s ≤ waitedMs then finish c .unrecoveredRead a s else s
    | _ => s) s

/-- ATI_VERIFY: the oldest write-unsafe entry with ATI is verified (R230): the neighbour track's sectors that fail go to deep recovery. -/
def execAtiVerify (failed : List (Nat × Nat)) (s : State) : Out :=
  match s.zmg.ati with
  | [] => .next s
  | _ :: t => .next { s with zmg := { s.zmg with ati := t, failed := s.zmg.failed ++ failed.filter (fun q => !s.zmg.failed.contains q) } }

/-! ### The scan -/

/-- A pass of the scan may go on, or begin (R231): one pass in DAYS, 30 where it is 0. -/
def scanDue (s : State) : Bool :=
  let days := if get Reg.ZMG_SCAN_CFG.DAYS s = 0 then 30 else get Reg.ZMG_SCAN_CFG.DAYS s
  get Reg.ZMG_SCAN_STAT.ZONE s != 0 || (match s.zmg.passAt with | none => true | some t => decide (t + 86400 * days ≤ lifeSec s))

/-- A sector of a physical zone is read by the scan (R231, R232): not above the media write pointer of its zone. -/
def scanned (zone idx : Nat) (s : State) : Bool :=
  match zoneAt zone s with
  | none => true
  | some z => !isShingled (zoneOf z s) || decide (idx < physIdx true (zoneOf z s).media)

/-- What the scan found in a sector of a zone (R232): its index, report code, ladder step and information bytes. Recovered at RELOC_STEP or later, it is due to be
rewritten or remapped; FAILED, for deep recovery. -/
def scanFinds (zone : Nat) (results : List (Nat × Nat × Nat × Nat)) (s : State) : State :=
  let l := results.filter (fun r => scanned zone r.1 s)
  let re := l.filter (fun r => r.2.1 == 1 && decide (get Reg.ZMG_RECOV_CFG.RELOC_STEP s ≤ r.2.2.1))
  let bad := l.filter (fun r => r.2.1 == 2)
  { s with zmg := { s.zmg with rewrite := s.zmg.rewrite ++ re.map (fun r => ((zone, r.1), r.2.2.2)), failed := s.zmg.failed ++ bad.map (fun r => (zone, r.1))
                               passAt := if zone = 0 then some (lifeSec s) else s.zmg.passAt } }

/-- BACKGROUND_SCAN: the next physical zone is read in a natural gap (R231, R232); `whole` says that no host work stopped it at a track's end. After the last zone a pass ends. -/
def execBackgroundScan (zone : Nat) (results : List (Nat × Nat × Nat × Nat)) (whole last : Bool) (s : State) : Out :=
  let t := scanFinds zone results s
  occurs (zmgOn s = true ∧ get Reg.ZMG_CTL.SCAN_EN s = 1 ∧ get Reg.ZMG_SCAN_STAT.ZONE s = zone ∧ naturalGap (zoneAct zone) s = true ∧ scanDue s = true)
    (if !whole then t
     else if last then raisePost 293 0 [] (bump Reg.ZMG_SCAN_STAT.PASSES (put Reg.ZMG_SCAN_STAT.ZONE 0 t))
     else put Reg.ZMG_SCAN_STAT.ZONE (zone + 1) t) s

/-! ### Tables -/

/-- The checkpoint period in minutes. -/
def ckptMin (s : State) : Nat := if get Reg.ZMG_JRNL.CKPT_MIN s = 0 then 10 else get Reg.ZMG_JRNL.CKPT_MIN s

/-- The journal's tail goes to the media. -/
def flushJournal (s : State) : State :=
  { s with zmg := { s.zmg with saved := s.zmg.tail.foldl applyChange s.zmg.saved, tail := [], tailSaved := [] } }

/-- ZMG_JRNL.FILL: the journal's fill in percent (R233). Log entry 240 (DESIGN CHOICE). -/
def journalFill (s : State) : Nat := min 100 (s.zmg.journaled * 100 / Config.journalBytes)

/-- ZMG_CHECKPOINT: a full checkpoint of the tables (R233): one that is due starts, with CKPT_BUSY set and the request taken; one that is being written ends. Log entry 246 (DEDUCED). -/
def execZmgCheckpoint (elapsedMin : Nat) (shutdown : Bool) (s : State) : Out :=
  if get Reg.ZMG_STAT.CKPT_BUSY s = 1 then
    .next (put Reg.ZMG_STAT.CKPT_BUSY 0 (let t := flushJournal s; { t with zmg := { t.zmg with journaled := 0 } }))
  else if zmgOn s = true ∧ (shutdown = true ∨ ckptMin s ≤ elapsedMin ∨ get Reg.ZMG_JRNL.CKPT s = 1) then
    .next (puts [(Reg.ZMG_JRNL.CKPT, 0), (Reg.ZMG_STAT.CKPT_BUSY, 1)] s)
  else occurs (zmgOn s = true ∧ 75 < journalFill s) (puts [(Reg.ZMG_JRNL.CKPT, 0), (Reg.ZMG_STAT.CKPT_BUSY, 1)] s) s

/-- A namespace becomes read-only (R234). -/
def readOnlyNs (s : State) (n : Nat) : State :=
  let t := put (Reg.ZMG_NS_CFG.RO n) 1 s
  let zs := (List.range (get (Reg.ZMG_NS_COUNT.COUNT n) s)).map (· + get (Reg.ZMG_NS_ZONES.FIRST n) s)
  zs.foldl (fun u z => if isShingled (zoneOf z u) then setZone z { zoneOf z u with state := 13 } u else u) t

/-- The descriptors that the checkpoint and the journal give. -/
def rebuildZones (s : State) : State :=
  (flushJournal s).zmg.saved.zones.foldl (fun t q => memPut (zoneAddr q.1 t) 32 q.2 t) s

/-- The other tables as the checkpoint and the journal give them (R233). -/
def rebuildOther (table : Nat) (s : State) : State :=
  let v := (flushJournal s).zmg.saved
  match table with
  | 2 => showFill { s with zmg := { s.zmg with mc := v.mc, mcHead := v.head, mcSeq := v.seq } }
  | 3 => { s with zmg := { s.zmg with remaps := v.remaps } }
  | 4 => put Reg.ZMG_PEND.COUNT v.pend.length { s with zmg := { s.zmg with pend := v.pend } }
  | _ => s

/-- TABLE_REBUILD: an uncorrectable table word has the whole table rebuilt from checkpoint and journal; accesses wait meanwhile; where the rebuild fails the namespaces that
use it become read-only, with line 2 (R234). The rebuild begins with REBUILDING set, and the row ends the one that runs. Log entries 113 (DESIGN CHOICE), 246 (DEDUCED). -/
def execTableRebuild (table : Nat) (ok : Bool) (s : State) : Out :=
  let ended (t : State) : State := put Reg.ZMG_STAT.REBUILDING 0 { t with zmg := { t.zmg with rebuilding := none } }
  unit table 5 (match s.zmg.rebuilding with
    | none => .next (put Reg.ZMG_STAT.REBUILDING 1 { s with zmg := { s.zmg with rebuilding := some table } })
    | some k =>
      occurs (k = table)
        (if ok then ended (if table ≤ 1 then rebuildZones s else rebuildOther table s)
         else raisePost 290 0 [table] ((tableUsers table s).foldl readOnlyNs (ended s))) s)

end Sys2Proof.Machine
end

