-- ==== Sys2Proof/Machine/Motion.lean ====
section
/-! DEFINITION. 11_magazine_motion.md: the stepper axes' profiles (R300 to R308), moves and homing (R305, R311 to R315), currents and bridges (R294
to R299) and switches (R310). Positions are in units of 1/62,500,000,000 microstep and velocities in 1/40,000,000 fs/s, so that every
limit's share of a tempo is whole and a tempo moves an axis by the sum of its two velocities. -/

namespace Sys2Proof.Machine

def axOf (a : Nat) (s : State) : AxMot := AMap.getD s.mot.ax a {}
def setAx (a : Nat) (r : AxMot) (s : State) : State := { s with mot := { s.mot with ax := AMap.insert a r s.mot.ax } }
def grpOf (g : Nat) (s : State) : GrpMot := AMap.getD s.mot.grp g {}
def setGrp (g : Nat) (r : GrpMot) (s : State) : State := { s with mot := { s.mot with grp := AMap.insert g r s.mot.grp } }
def brgOf (b : Nat) (s : State) : BrgMot := AMap.getD s.mot.brg b {}
def setBrg (b : Nat) (r : BrgMot) (s : State) : State := { s with mot := { s.mot with brg := AMap.insert b r s.mot.brg } }

/-- Units of position in a microstep, and of velocity in 1 fs/s. Log entry 70 (DEDUCED). -/
def posUnit : Nat := 62500000000
def velUnit : Nat := 40000000

/-- The axes of a group and the group of an axis (R293). -/
def groupAxes (g : Nat) : List Nat := if g = 0 then [0, 1] else [g + 1]
def axisGroup (a : Nat) : Nat := if a ≤ 1 then 0 else a - 1
def firstAxis (g : Nat) : Nat := if g = 0 then 0 else g + 1

/-- The position in microsteps, as MOT_AX_POS shows it; its rounding is not stated. -/
def microPos (a : Nat) (s : State) : Int := roundOpen (axOf a s).pos posUnit

/-! ### Showing the state -/

/-- An axis is in fault (R311): ESTOP, CHATTER or STAGE. -/
def axFault (a : Nat) (s : State) : Bool :=
  get (Reg.MOT_AX_STAT.ESTOP a) s == 1 || get (Reg.MOT_AX_STAT.CHATTER a) s == 1 || get (Reg.MOT_AX_STAT.STAGE a) s == 1

/-- The group homes this axis. -/
def homing (a : Nat) (s : State) : Bool :=
  match (grpOf (axisGroup a) s).run with
  | some m => m.cls == 1 && (m.t0.toNat + firstAxis (axisGroup a) == a)
  | none => false

/-- MOT_AX_STAT.STATE. -/
def axState (a : Nat) (s : State) : Nat :=
  let g := grpOf (axisGroup a) s
  if get (Reg.MOT_AX_CFG.EN a) s = 0 then 0
  else if axFault a s then 5
  else if g.stop ≠ 0 then 4
  else if homing a s then 3
  else if g.run.isSome || (axOf a s).vel != 0 then 2
  else 1

/-- The registers that follow the axes and groups. Log entry 70 (DEDUCED). -/
def motShow (s : State) : State :=
  let t := [0, 1, 2, 3].foldl (fun u a => puts [(Reg.MOT_AX_STAT.STATE a, axState a s), (Reg.MOT_AX_POS.POS a, ofInt 32 (microPos a s)),
    (Reg.MOT_AX_VNOW.VEL a, ofInt 16 (roundOpen (axOf a s).vel velUnit))] u) s
  [0, 1, 2].foldl (fun u g => puts [(Reg.MOT_GRP_STAT.DEPTH g, (grpOf g s).queue.length), (Reg.MOT_GRP_STAT.BUSY g, b2n (grpOf g s).run.isSome)] u) t

/-! ### Profiles -/

/-- The greatest number below 2ⁿ with a property that smaller ones share. -/
def greatest (p : Nat → Bool) : (n acc : Nat) → Nat
  | 0, acc => acc
  | n + 1, acc => greatest p n (if p (acc + 2 ^ n) then acc + 2 ^ n else acc)

/-- A square root in whole units; where it is not whole its rounding is not stated. -/
def rootOpen (x : Nat) : Nat :=
  let r := greatest (fun v => decide (v * v ≤ x)) 64 0
  r + (if r * r ≠ x ∧ Config.roundsUp x 1 then 1 else 0)

/-- The limits of a profile: speed, acceleration and deceleration by tempo, and the change of acceleration by tempo where the profile has
an S-curve. -/
structure Limits where
  vmax : Nat
  acc  : Nat
  dec  : Nat
  jerk : Option Nat

/-- The stopping distance from v to vj fits in d (R301): v² ÷ 2·DEC + v·DEC ÷ 2·JERK from DEC² ÷ JERK on, and the triangular stop below. Log entry 71 (DEDUCED). -/
def stopsIn (dec jerk vj d v : Nat) : Bool :=
  if v ≤ vj then true
  else if dec * dec ≤ (v - vj) * jerk then decide ((v * v - vj * vj) * jerk + (v + vj) * dec * dec ≤ d * dec * jerk)
  else decide (4 * (v + vj) * (v + vj) * (v - vj) ≤ d * d * jerk)

/-- The speed from which the junction speed is met at the distance d (R300, R301). -/
def brakeSpeed (l : Limits) (vj d : Nat) : Nat :=
  match l.jerk with
  | none => rootOpen (vj * vj + l.dec * d)
  | some j => greatest (stopsIn l.dec j vj d) 48 0

/-- An integer within two bounds. -/
def clampInt (lo hi x : Int) : Int := max lo (min hi x)

/-- The next velocity and acceleration toward a wanted velocity: lim_up is ACC while the speed grows and DEC while it falls; with an S-curve
the acceleration changes by at most JERK, and less than what would pass the wanted velocity. Log entry 71 (DEDUCED). -/
def nextVel (l : Limits) (v a vd : Int) : Int × Int :=
  let up : Int := if 0 ≤ v then l.acc else l.dec
  let down : Int := if v ≤ 0 then l.acc else l.dec
  match l.jerk with
  | none => let w := clampInt (v - down) (v + up) vd
            (w, w - v)
  | some j =>
    let ease : Int := (greatest (fun x => decide (x * x ≤ 2 * j * (vd - v).natAbs)) 64 0 : Nat)
    let want := clampInt (-down) up (clampInt (-ease) ease (vd - v))
    let b := clampInt (a - (j : Int)) (a + (j : Int)) want
    (v + b, b)

/-- The magnitude with a sign. -/
def signed (d : Int) (m : Nat) : Int := if d < 0 then -(m : Int) else m

/-! ### The path of a move -/

/-- A move's path (R307): the long axis, the signed lengths of long and short axis in microsteps. -/
structure Path where
  long  : Nat
  short : Nat
  dl    : Int
  ds    : Int

/-- The path of a move from a position, both in microsteps. Log entry 74 (DEDUCED). -/
def pathOf (g : Nat) (f0 f1 : Int) (m : Move) : Path :=
  let d0 := m.t0 - f0
  let d1 := if g = 0 then m.t1 - f1 else 0
  if d0.natAbs < d1.natAbs then ⟨1, 0, d1, d0⟩ else ⟨firstAxis g, 1, d0, d1⟩

/-- A limit of the path (R307): the lower of the long axis's value and the short axis's times |ΔL| ÷ |ΔS|. -/
def pathLimit (p : Path) (vl vs : Nat) : Nat := if p.ds = 0 then vl else min vl (vs * p.dl.natAbs / p.ds.natAbs)

/-- The limits of an axis as its registers stand: VMAX, HOME_V, ACC, DEC, EMAX and JERK. -/
def axisRegs (a : Nat) (s : State) : List Nat :=
  [get (Reg.MOT_AX_VEL.VMAX a) s, get (Reg.MOT_AX_VEL.HOME_V a) s, get (Reg.MOT_AX_ACC.ACC a) s, get (Reg.MOT_AX_ACC.DEC a) s,
   get (Reg.MOT_AX_LIM2.EMAX a) s, get (Reg.MOT_AX_LIM2.JERK a) s]

/-- Limit i of an axis in force (R303): a write applies from the next tempo. Log entry 262 (DEDUCED). -/
def axisLim (a i : Nat) (s : State) : Nat := (axOf a s).lims.getD i ((axisRegs a s).getD i 0)

/-- VMAX of an axis for a class (R302, R305), in velocity units. -/
def axisSpeed (cls a : Nat) (s : State) : Nat :=
  velUnit * (if cls = 0 then min 25000 (axisLim a 0 s) else axisLim a 1 s)

/-- DEC of an axis in force: the one kept for the rest of the move (R303), or the register's. -/
def axisDec (a : Nat) (s : State) : Nat := ((axOf a s).kept).getD (axisLim a 3 s)

/-- The limits of a path, by class: a tempo's share of 10 fs/s² is 2,000 units. -/
def pathLimits (cls : Nat) (p : Path) (s : State) : Limits :=
  { vmax := pathLimit p (axisSpeed cls p.long s) (axisSpeed cls p.short s)
    acc := 2000 * pathLimit p (axisLim p.long 2 s) (axisLim p.short 2 s)
    dec := 2000 * pathLimit p (axisDec p.long s) (axisDec p.short s)
    jerk := if get (Reg.MOT_AX_CFG.SCURVE p.long) s = 1 then
              some (pathLimit p (axisLim p.long 5 s) (axisLim p.short 5 s)) else none }

/-- The emergency limits of a path: EMAX, without an S-curve. -/
def emergencyLimits (p : Path) (s : State) : Limits :=
  let e := 2000 * pathLimit p (axisLim p.long 4 s) (axisLim p.short 4 s)
  ⟨0, e, e, none⟩

/-! ### Junctions -/

/-- How far one axis lets the path speed go across a joint of group 0 (R306): its velocity changes by at most JUNC_DV. -/
def axisJoint (dv a1 l1 a2 l2 : Int) : Option Nat :=
  let n := (a1 * (l2.natAbs : Int) - a2 * (l1.natAbs : Int)).natAbs
  if n = 0 then none else some (dv.toNat * velUnit * l1.natAbs * l2.natAbs / n)

/-- The lengths of a path by axis of group 0. -/
def alongAxis (p : Path) (a : Nat) : Int := if p.long = a then p.dl else if p.short = a then p.ds else 0

/-- The junction speed between two moves (R306). Log entry 73 (DEDUCED). -/
def junction (g : Nat) (p q : Path) (v1 v2 : Nat) (s : State) : Nat :=
  let m := min v1 v2
  if g = 0 then
    (if [0, 1].any (fun a => decide (alongAxis p a * alongAxis q a < 0)) then 0
     else [0, 1].foldl (fun r a => match axisJoint (get (Reg.MOT_GRP_CTL.JUNC_DV 0) s) (alongAxis p a) p.dl (alongAxis q a) q.dl with
       | none => r
       | some x => min r x) m)
  else if 0 < p.dl * q.dl then m else 0

/-- The speed at which the moves of a queue may be entered after a path (R306): planned over every queued move, so that the group can stop at
the end of the last one. Log entry 73 (DEDUCED). -/
def entrySpeed (g : Nat) (s : State) : (p : Path) → (v0 : Nat) → (f0 f1 : Int) → List Move → Nat
  | _, _, _, _, [] => 0
  | p, v0, f0, f1, m :: t =>
    let q := pathOf g f0 f1 m
    let l := pathLimits m.cls q s
    let j := junction g p q v0 l.vmax s
    min j (brakeSpeed l (entrySpeed g s q l.vmax m.t0 m.t1 t) (q.dl.natAbs * posUnit))

/-! ### Switches -/

/-- The axis and the role of switch k (R310). Log entry 78 (DEDUCED). -/
def switchAxis (k : Nat) (s : State) : Nat := bits (get Reg.MOT_SW_CFG.SW s) (4 * k) 2
def switchRole (k : Nat) (s : State) : Nat := bits (get Reg.MOT_SW_CFG.SW s) (4 * k + 2) 2

/-- A debounced switch of an axis with a role is asserted. -/
def switchOn (a role : Nat) (s : State) : Bool :=
  (List.range 8).any (fun k => switchAxis k s == a && switchRole k s == role && bit Reg.MOT_SW_STAT.DEB k s)

/-- The sign of the direction toward an axis's near switch (MOT_AX_HOME.DIR). -/
def homeSign (a : Nat) (s : State) : Int := if get (Reg.MOT_AX_HOME.DIR a) s = 1 then 1 else -1

/-! ### One tempo of a group -/

/-- An axis moves by a tempo from its velocity to the next one (R300). -/
def moveAxis (a : Nat) (v acc : Int) (s : State) : State :=
  let r := axOf a s
  setAx a { r with pos := r.pos + r.vel + v, vel := v, acc := acc } s

/-- The short axis's share of a velocity of the long one (R307). -/
def shareOf (p : Path) (v : Int) : Int := signed p.dl 1 * v * p.ds / (p.dl.natAbs : Int)

/-- A quotient rounded to the nearest; no rule says where the middle goes. -/
def nearestOpen (i : Int) (d : Nat) : Int := if 2 * (i % d) = d then roundOpen i d else (2 * i + d) / (2 * d)

/-- The short axis follows (R307): its start and the rounded share of the long axis's progress in microsteps. -/
def followShort (p : Path) (fl fs : Int) (v : Int) (s : State) : State :=
  if p.ds = 0 then s
  else
    let num := signed p.dl 1 * p.ds * ((axOf p.long s).pos - fl * posUnit)
    let q := nearestOpen num (p.dl.natAbs * posUnit)
    setAx p.short { axOf p.short s with pos := (fs + q) * posUnit, vel := shareOf p v } s

/-- The wanted velocity of a homing axis by its step (R313). -/
def homeVel (a : Nat) (s : State) : Int :=
  let v := get (Reg.MOT_AX_VEL.HOME_V a) s * velUnit
  match get (Reg.MOT_AX_STAT.HSTEP a) s with
  | 1 => homeSign a s * v
  | 3 => if switchOn a 1 s then -homeSign a s * (v / 4 : Nat) else 0
  | 4 => homeSign a s * (get (Reg.MOT_AX_HOME.CREEP a) s * velUnit : Nat)
  | _ => 0

/-- A group with a stop under way that has come to rest is idle. -/
def restGroup (g : Nat) (s : State) : State :=
  if (grpOf g s).stop ≠ 0 ∧ (groupAxes g).all (fun a => (axOf a s).vel == 0) then
    (groupAxes g).foldl (fun t a => put (Reg.MOT_AX_STAT.HSTEP a) 0 t) (setGrp g {} s)
  else s

/-- The path of the running move from where it started. -/
def runPath (g : Nat) (m : Move) (s : State) : Path := pathOf g (grpOf g s).f0 (grpOf g s).f1 m

/-- One tempo of a positioning move (R300 to R307). -/
def runMove (g : Nat) (m : Move) (s : State) : State :=
  let r := grpOf g s
  let p := runPath g m s
  let l := if r.stop = 2 then emergencyLimits p s else pathLimits m.cls p s
  let x := axOf p.long s
  let goal := if p.long = 1 then m.t1 else m.t0
  let d := goal * posUnit - x.pos
  let vj := r.joint.getD (entrySpeed g s p l.vmax m.t0 m.t1 r.queue)
  let cap := if r.hold then min l.vmax x.vel.natAbs else l.vmax
  let b := brakeSpeed l vj d.natAbs
  let vd := if r.stop ≠ 0 then 0 else signed d (min cap b)
  let w := nextVel l x.vel x.acc vd
  let slow := decide (b < cap) || r.stop != 0
  let fl := if p.long = 1 then r.f1 else r.f0
  let fs := if p.long = 1 then r.f0 else r.f1
  followShort p fl fs w.1
    (setGrp g { r with joint := if slow then some vj else r.joint, slowing := slow, crossed := r.crossed || decide (x.vel * w.1 < 0) }
      (moveAxis p.long w.1 w.2 s))

/-- One tempo of a homing axis. -/
def runHome (g a : Nat) (s : State) : State :=
  let p : Path := ⟨a, a, 0, 0⟩
  let r := grpOf g s
  let l := if r.stop = 2 then emergencyLimits p s else pathLimits 1 p s
  let x := axOf a s
  let w := nextVel l x.vel x.acc (if r.stop ≠ 0 then 0 else homeVel a s)
  moveAxis a w.1 w.2 s

/-- The sled follows the lens (R238): in TRACK_PULL and FOLLOW, while the low-pass of the tracking output exceeds SLED_DB. Log entry 254 (DESIGN CHOICE). -/
def sledFollows (s : State) : Bool :=
  (get Reg.OSV_STAT.STATE s == 4 || get Reg.OSV_STAT.STATE s == 5) && decide ((2 ^ 23 * get Reg.OSV_SEEK_CFG.SLED_DB s : Nat) < s.osv.sledLow.natAbs)

/-- The velocity that CE3 requests of axis S (R238, R308): output slot 6 scaled by VMAX, 0 while the engine is failed and not replaced. Log entry 79 (DEDUCED). -/
def slaveVel (s : State) : Int :=
  if sledFollows s = false ∨ get (Reg.MOT_AX_CFG.SLAVE 3) s = 0 ∨ driverFailed 3 s ∨ axFault 3 s ∨ (grpOf 2 s).stop ≠ 0 then 0
  else roundOpen (AMap.getD (ceOf 3 s).out 6 0 * (axisSpeed 0 3 s : Nat)) (2 ^ 31)

/-- A wanted velocity against the present one waits at 0 first (R308). -/
def throughZero (v vd : Int) : Int := if v * vd < 0 then 0 else vd

/-- One tempo of an axis that no move drives: S follows its request under ACC and DEC; the others stand. -/
def runFree (g : Nat) (s : State) : State :=
  if g = 2 then
    let l := if (grpOf 2 s).stop = 2 then emergencyLimits ⟨3, 3, 0, 0⟩ s else { pathLimits 0 ⟨3, 3, 0, 0⟩ s with jerk := none }
    let w := nextVel l (axOf 3 s).vel (axOf 3 s).acc (throughZero (axOf 3 s).vel (slaveVel s))
    moveAxis 3 w.1 w.2 s
  else s

/-- The group in a tempo: a move taken in it does not move the axes yet (R299). -/
def advanceGroup (s : State) (g : Nat) : State :=
  let r := grpOf g s
  match r.run with
  | none => restGroup g (runFree g s)
  | some m =>
    if r.took then setGrp g { r with took := false } s
    else if m.cls = 1 then restGroup g (runHome g (m.t0.toNat + firstAxis g) s)
    else restGroup g (runMove g m s)

/-- What the axes take at the boundary that ends this tempo. -/
def motAdvance (s : State) : State := [0, 1, 2].foldl advanceGroup s

/-! ### Currents and bridges -/

/-- An axis is at standstill (R299). -/
def standing (a : Nat) (s : State) : Bool :=
  (axOf a s).vel == 0 && (grpOf (axisGroup a) s).run.isNone && (grpOf (axisGroup a) s).queue.isEmpty

/-- The current level I (R299). -/
def currentLevel (a : Nat) (s : State) : Nat :=
  let run := get (Reg.MOT_AX_CUR.RUN a) s
  let hold := get (Reg.MOT_AX_CUR.HOLD a) s
  (roundOpen ((run : Int) * 200 + ((hold : Int) - run) * (min 200 (axOf a s).ramp : Nat)) 200).toNat

/-- The greatest i ≤ 8 with 2ⁱ ≤ x, 0 where there is none. -/
def log2Cap (x : Nat) : Nat := ((List.range 9).filter (fun i => decide (2 ^ i ≤ x))).getLast?.getD 0

/-- log₂ of the resolution (R298). -/
def resolution (a : Nat) (s : State) : Nat :=
  let v := (axOf a s).vel.natAbs
  let cls := ((grpOf (axisGroup a) s).run.map (·.cls)).getD 0
  if cls = 0 ∧ get (Reg.MOT_AX_CFG.AUTO_RES a) s = 0 then min 8 (get (Reg.MOT_AX_CFG.RES a) s)
  else if v = 0 then 8
  else log2Cap (axisSpeed 0 a s / v)

/-- T*(k) of R297; a write to the table applies from the next tempo. Log entry 262 (DEDUCED). -/
def sineEntry (k : Nat) (s : State) : Nat := if 256 ≤ k then 256 else bits (s.mot.sine.getD (k / 4) (get (Reg.MOT_SINE.T (k / 4)) s)) (8 * (k % 4)) 8

/-- s(m) of R297. -/
def sineOf (m : Int) (s : State) : Int :=
  let q := (m / 256 % 4).toNat
  let j := (m % 256).toNat
  if q = 0 then sineEntry j s else if q = 1 then sineEntry (256 - j) s else if q = 2 then -(sineEntry j s : Int) else -(sineEntry (256 - j) s : Int)

/-- The signed threshold of bridge b at the axes' positions (R297, R298). -/
def bridgeValue (b : Nat) (s : State) : Int :=
  let a := b / 2
  let step : Int := 256 / 2 ^ resolution a s
  let m := microPos a s / step * step
  let x := if b % 2 = 0 then sineOf m s else if get (Reg.MOT_AX_CFG.INV a) s = 1 then -sineOf (m + 256) s else sineOf (m + 256) s
  signed x (currentLevel a s * x.natAbs / 256)

/-- The threshold codes of w8 to w15 (R300: for the positions that the axes take at the end of this tempo) and the enables of w16. -/
def bridgeCodes (s : State) : List Nat := (List.range 8).map (fun b => (bridgeValue b (motAdvance s)).natAbs)
def bridgeEnables (s : State) : Nat :=
  if !s.pins.pfailN then 0 else (List.range 8).foldl (fun v b => withBit v b (get (Reg.MOT_AX_CFG.EN (b / 2)) s == 1)) 0

/-- A bridge at a boundary (R296): a polarity change starts an on phase in the new polarity; a threshold change alone leaves the cycle running;
a threshold of 0 lets one off phase end at code 00. -/
def bridgeAt (r : BrgMot) (v : Int) : BrgMot :=
  if v = 0 then { r with code := 0, phase := if r.phase = 1 then 2 else r.phase }
  else if decide (v < 0) != r.neg then { r with neg := decide (v < 0), code := v.natAbs, phase := 1 }
  else { r with code := v.natAbs, phase := if r.phase = 0 then 1 else r.phase }

/-- The codes of a bridge's pins IN1 and IN2 (R294, R295): `slow` tells whether an off phase is in its slow part. -/
def bridgePins (r : BrgMot) (slow : Bool) : Nat :=
  if r.phase = 0 then 0
  else if r.phase = 1 then (if r.neg then 1 else 2)
  else if slow then 3 else if r.neg then 2 else 1

/-- What the pins drive from the start of a bridge's phase on (R295): in an off phase slow decay for TOFF × (16 − FAST) ÷ 16, then fast decay; their edge falls
on the 10 ns grid. Log entry 263 (DEDUCED). -/
def pinPlan (toff fast : Nat) (r : BrgMot) : List (Nat × Nat) :=
  let slow := (roundOpen (10 * toff * (16 - fast) : Nat) 16).toNat
  if r.phase = 2 then [(bridgePins r true, slow), (bridgePins r false, 10 * toff - slow)].filter (fun p => p.2 != 0) else [(bridgePins r true, 0)]

/-- A plan after pins that drive `last`: a change between 10 and 01 passes through 00 for the first 10 ns step (R495). Log entry 285 (DEDUCED). -/
def viaZero (last : Nat) : List (Nat × Nat) → List (Nat × Nat)
  | [] => []
  | p :: l => if (last = 1 ∧ p.1 = 2) ∨ (last = 2 ∧ p.1 = 1) then (0, 1) :: (p.1, p.2 - 1) :: l else p :: l

/-- Bridge b goes on as a new record: its pins follow where its phase or its polarity has changed. Log entries 263 (DEDUCED), 285 (DEDUCED). -/
def toBridge (b : Nat) (r : BrgMot) (s : State) : State :=
  let o := brgOf b s
  let c := b / 2
  setBrg b (if r.phase = o.phase ∧ r.neg = o.neg then { r with drive := o.drive }
            else { r with drive := viaZero ((o.drive.map (·.1)).getLastD 0) (pinPlan (get (Reg.MOT_AX_CHOP.TOFF c) s) (get (Reg.MOT_AX_CHOP.FAST c) s) r) }) s

/-- Every bridge off at code 00 (R315): the output write of a tempo in which PFAIL_N is low. -/
def bridgesOff (s : State) : State := (List.range 8).foldl (fun u b => toBridge b { brgOf b u with code := 0, phase := 0 } u) s

/-- CHOP_ON_END: a high comparator after BLANK ends an on phase (R295). -/
def execChopOnEnd (b sinceNs : Nat) (s : State) : Out :=
  unit b 8 (occurs ((brgOf b s).phase = 1 ∧ 10 * get (Reg.MOT_AX_CHOP.BLANK (b / 2)) s ≤ sinceNs)
    (toBridge b { brgOf b s with phase := 2 } s) s)

/-- CHOP_OFF_END: TOFF has elapsed in an off phase (R295, R296), the time that its pins' two parts take. -/
def execChopOffEnd (b elapsedNs : Nat) (s : State) : Out :=
  let due := ((brgOf b s).drive.map (fun p => 10 * p.2)).foldl (· + ·) 0
  unit b 8 (occurs ((brgOf b s).phase = 2 ∧ due ≤ elapsedNs)
    (toBridge b { brgOf b s with phase := if (brgOf b s).code = 0 then 0 else 1 } s) s)

/-- STANDSTILL_HOLD_RAMP: after DELAY at standstill the current ramps to HOLD (R299). -/
def execStandstillHoldRamp (a : Nat) (s : State) : Out :=
  unit a 4 (occurs (standing a s = true ∧ 2000 * get (Reg.MOT_AX_CUR.DELAY a) s ≤ (axOf a s).still ∧ (axOf a s).ramp = 0)
    (setAx a { axOf a s with ramp := 1 } s) s)

/-- An axis's counts at a boundary: past positions, standstill, ramp, RESNOW. -/
def axisTempo (s : State) (a : Nat) : State :=
  let r := axOf a s
  let t := setAx a { r with past := (r.pos :: r.past).take 16, still := if standing a s then r.still + 1 else 0
                            ramp := if r.ramp = 0 ∨ standing a s = false then 0 else min 200 (r.ramp + 1) } s
  puts [(Reg.MOT_AX_VNOW.RESNOW a, resolution a s), (Reg.MOT_AX_STAT.HOLD_I a, b2n (decide (200 ≤ r.ramp)))] t

/-- The slots that MOT gives CE3 (R309). -/
def feedMotion (s : State) : State :=
  let pos := [0, 1, 2, 3].map (fun a => (18 + a, microPos a s))
  let vel := [0, 1, 2, 3].map (fun a => (22 + a, roundOpen (axOf a s).vel velUnit))
  let flt := [0, 1, 2, 3].foldl (fun v a => withBit v (a + 3) (axFault a s)) ([0, 1, 2].foldl (fun v g => withBit v g (grpOf g s).run.isSome) 0)
  let all : List (Nat × Int) := pos ++ vel ++ [(26, (get Reg.MOT_SW_STAT.DEB s : Int)), (27, (flt : Int)), (28, 0), (29, 0), (30, 0), (31, 0)]
  all.foldl (fun t p => arrive 3 p.1 p.2 t) s

/-- The running move takes a new target from where its axes stand (R304). -/
def retargetMove (m : Move) (g : Nat) (s : State) : State :=
  setGrp g { grpOf g s with run := some m, f0 := microPos (firstAxis g) s, f1 := if g = 0 then microPos 1 s else 0
                            joint := none, hold := false, crossed := false, next := none } s

/-- What a write of the last tempo changes from the boundary on (R297, R303, R304): limits, sine table and the target of a running move. Log entry 262 (DEDUCED). -/
def motLatch (s : State) : State :=
  let t := [0, 1, 2, 3].foldl (fun u a => setAx a { axOf a u with lims := axisRegs a u } u) s
  let u := [0, 1, 2].foldl (fun v g => match (grpOf g v).next with | some m => retargetMove m g v | none => v) t
  { u with mot := { u.mot with sine := (List.range 64).map (fun i => get (Reg.MOT_SINE.T i) u) } }

/-- MOT at a tempo boundary: positions, bridges, currents and CE3's slots, and what applies from the next tempo. -/
def motBoundary (s : State) : State :=
  let t := motAdvance s
  let u := if s.pins.pfailN then (List.range 8).foldl (fun u b => toBridge b (bridgeAt (brgOf b u) (bridgeValue b t)) u) t else t
  feedMotion (motShow (motLatch ([0, 1, 2, 3].foldl axisTempo u)))

/-! ### Pushes -/

/-- The position that offsets count from (R305): the end of the last queued move, or the current position while none is queued. Log entry 75 (DEDUCED). -/
def pushBase (g : Nat) (s : State) : Int × Int :=
  match (grpOf g s).queue.getLast? with
  | some m => (m.t0, m.t1)
  | none => (microPos (firstAxis g) s, if g = 0 then microPos 1 s else 0)

/-- The move that the group's target registers spell. -/
def pushMove (g cls : Nat) (s : State) : Move :=
  let a := toInt 32 (get (Reg.MOT_GRP_TGT0.TGT g) s)
  let b := if g = 0 then toInt 32 (get (Reg.MOT_GRP_TGT1.TGT g) s) else 0
  if get (Reg.MOT_GRP_CMD.REL g) s = 1 then ⟨cls, (pushBase g s).1 + a, (pushBase g s).2 + b⟩ else ⟨cls, a, b⟩

/-- The axes that a move moves, with their targets and where they start. -/
def movedAxes (g : Nat) (m : Move) (s : State) : List (Nat × Int × Int) :=
  (if g = 0 then [(0, m.t0, (pushBase g s).1), (1, m.t1, (pushBase g s).2)] else [(firstAxis g, m.t0, (pushBase g s).1)]).filter
    (fun (p : Nat × Int × Int) => p.2.1 != p.2.2)

def inSoft (a : Nat) (x : Int) (s : State) : Bool :=
  decide (toInt 32 (get (Reg.MOT_AX_SOFT_MIN.POS a) s) ≤ x) && decide (x ≤ toInt 32 (get (Reg.MOT_AX_SOFT_MAX.POS a) s))

/-- The disc interlock refuses (R314). -/
def interlocked (a : Nat) (s : State) : Bool := get (Reg.MOT_AX_CFG.DISC_ILK a) s == 1 && get Reg.OSV_DSTAT.STATE s != 0

/-- The group is idle with its queue empty. -/
def groupIdle (g : Nat) (s : State) : Bool := (grpOf g s).run.isNone && (grpOf g s).queue.isEmpty

/-- A move goes away from every asserted switch of its axis (R305). -/
def awayFrom (a : Nat) (d : Int) (s : State) : Bool :=
  !(switchOn a 1 s && decide (0 ≤ d * homeSign a s)) && !(switchOn a 2 s && decide (d * homeSign a s ≤ 0))

/-- The checks that a push fails (R305), as RCAUSE codes. -/
def pushFails (g : Nat) (m : Move) (s : State) : List Nat :=
  let ax : List (Nat × Int × Int) := if m.cls = 1 then [(m.t0.toNat + firstAxis g, (0 : Int), (0 : Int))] else movedAxes g m s
  let rel := get (Reg.MOT_GRP_CMD.REL g) s == 1
  (if decide (16 ≤ (grpOf g s).queue.length) then [1] else [])
  ++ (if m.cls == 0 && ax.any (fun p => get (Reg.MOT_AX_STAT.HOMED p.1) s == 0) then [2] else [])
  ++ (if ax.any (fun p => (m.cls == 0 || (m.cls == 2 && get (Reg.MOT_AX_STAT.HOMED p.1) s == 1)) && !inSoft p.1 p.2.1 s) then [3] else [])
  ++ (if ax.any (fun p => get (Reg.MOT_AX_CFG.EN p.1) s == 0 || (m.cls != 3 && axFault p.1 s)) then [4] else [])
  ++ (if m.cls != 3 && ax.any (fun p => interlocked p.1 s) then [5] else [])
  ++ (if (m.cls != 0 && !groupIdle g s) || ((m.cls == 2 || m.cls == 3) && !rel)
        || (m.cls == 3 && ax.any (fun p => !awayFrom p.1 (p.2.1 - p.2.2) s)) then [6] else [])

/-- A push that fails sets REFUSED and RCAUSE; which of several failed checks RCAUSE names is not stated. Log entry 14 (DESIGN CHOICE). -/
def refusePush (g : Nat) (l : List Nat) (s : State) : State :=
  puts [(Reg.MOT_GRP_STAT.REFUSED g, 1), (Reg.MOT_GRP_STAT.RCAUSE g, pickOpen l s)] (if l.length ≤ 1 then s else freed s)

/-- A move joins the queue. -/
def enqueueMove (g : Nat) (m : Move) (s : State) : State :=
  motShow (setGrp g { grpOf g s with queue := (grpOf g s).queue ++ [m] } s)

/-- A push of a class, after its checks. -/
def pushClass (g cls : Nat) (s : State) : State :=
  let m := if cls = 1 then (⟨1, if g = 0 then (get (Reg.MOT_GRP_CMD.AXIS g) s : Int) else 0, 0⟩ : Move) else pushMove g cls s
  let f := pushFails g m s
  if f.isEmpty then enqueueMove g m s else refusePush g f s

/-- The command word of a push as it stands in the register: PUSH reads 0. -/
def cmdWord (g value : Nat) (s : State) : State :=
  puts [(Reg.MOT_GRP_CMD.REL g, bits value 0 1), (Reg.MOT_GRP_CMD.CLASS g, bits value 1 2), (Reg.MOT_GRP_CMD.AXIS g, bits value 3 1),
    (Reg.MOT_GRP_CMD.REPLACE g, bits value 4 1)] s

/-- A write of MOT_GRP_CMD with PUSH, of the class that the row names. -/
def pushRow (g cls value : Nat) (replace : Bool) (t s : State) : Out :=
  unit g 3 (occurs (value.testBit 31 = true ∧ bits value 1 2 = cls ∧ value.testBit 4 = replace) t s)

/-- MOVE_PUSH_NORMAL: a push with CLASS 0 (R305). -/
def execMovePushNormal (g value : Nat) (s : State) : Out := pushRow g 0 value false (pushClass g 0 (cmdWord g value s)) s
/-- MOVE_PUSH_HOME: the homing sequence of an axis (R313). -/
def execMovePushHome (g value : Nat) (s : State) : Out := pushRow g 1 value false (pushClass g 1 (cmdWord g value s)) s
/-- MOVE_PUSH_TEST: a push with CLASS 2 (R305). -/
def execMovePushTest (g value : Nat) (s : State) : Out := pushRow g 2 value false (pushClass g 2 (cmdWord g value s)) s
/-- MOVE_PUSH_RECOVERY: a push with CLASS 3 (R305). -/
def execMovePushRecovery (g value : Nat) (s : State) : Out := pushRow g 3 value false (pushClass g 3 (cmdWord g value s)) s

/-- The running move's target is replaced from the next tempo on (R304); with no move running the push is an ordinary one. Log entry 262 (DEDUCED). -/
def replaceMove (g : Nat) (m : Move) (s : State) : State :=
  let r := grpOf g s
  match r.run with
  | none => enqueueMove g m (setGrp g { r with queue := [] } s)
  | some _ =>
    motShow (setGrp g { r with queue := [], next := some m } s)

/-- MOVE_PUSH_REPLACE: a push with REPLACE flushes the queue and replaces the running move's target (R304), after the checks of its class. -/
def execMovePushReplace (g value : Nat) (s : State) : Out :=
  let c := bits value 1 2
  let t := cmdWord g value s
  let m := if c = 1 then (⟨1, if g = 0 then (get (Reg.MOT_GRP_CMD.AXIS g) t : Int) else 0, 0⟩ : Move) else pushMove g c t
  let f := (pushFails g m t).filter (· != 1)
  unit g 3 (occurs (value.testBit 31 = true ∧ value.testBit 4 = true) (if f.isEmpty then replaceMove g m t else refusePush g f t) s)

/-! ### Moves under way -/

/-- MOVE_TAKE: an idle group takes a queued move at cycle 0, and RUN is restored (R299, R305). -/
def execMoveTake (g : Nat) (s : State) : Out :=
  let r := grpOf g s
  unit g 3
    (match r.run, r.queue with
     | none, m :: t =>
       let u := setGrp g { r with queue := t, run := some m, took := true, f0 := microPos (firstAxis g) s, f1 := if g = 0 then microPos 1 s else 0
                                  joint := none, slowing := false, hold := false, crossed := false } s
       let v := (groupAxes g).foldl (fun w a => put (Reg.MOT_AX_STAT.HOLD_I a) 0 (setAx a { axOf a w with ramp := 0, still := 0, kept := none } w)) u
       let a := m.t0.toNat + firstAxis g
       let w := if m.cls = 1 then puts [(Reg.MOT_AX_STAT.HSTEP a, 1), (Reg.MOT_AX_STAT.HCAUSE a, 0), (Reg.MOT_AX_STAT.HOMED a, 0)]
           (setAx a { axOf a v with start := (axOf a v).pos } v) else v
       occurs (r.stop = 0) (motShow w) s
     | _, _ => .next s)

/-- The running move is at its end (R300): the distance is below a microstep and the speed at or below the junction's, or the velocity has
passed 0 there. Log entry 72 (DEDUCED). -/
def atEnd (g : Nat) (m : Move) (s : State) : Bool :=
  let r := grpOf g s
  let p := runPath g m s
  let x := axOf p.long s
  let d := (if p.long = 1 then m.t1 else m.t0) * posUnit - x.pos
  let vj := r.joint.getD (entrySpeed g s p (pathLimits m.cls p s).vmax m.t0 m.t1 r.queue)
  decide (d.natAbs < posUnit) && (decide (x.vel.natAbs ≤ vj) || r.crossed)

/-- The axes of a group take the targets exactly, and the path the junction speed (R300, R306). -/
def takeTargets (g : Nat) (m : Move) (s : State) : State :=
  let p := runPath g m s
  let vj := (grpOf g s).joint.getD 0
  let v := if (grpOf g s).queue.isEmpty then 0 else signed p.dl vj
  let goal := fun a => if a = 1 then m.t1 else m.t0
  let t := setAx p.long { axOf p.long s with pos := goal p.long * posUnit, vel := v, kept := none } s
  if p.ds = 0 then t else setAx p.short { axOf p.short t with pos := goal p.short * posUnit, vel := shareOf p v, kept := none } t

/-- MOVE_END: the running move ends (R300); the next one follows without a stop (R306), or DONE is set with the group's line. Log entry 72 (DEDUCED). -/
def execMoveEnd (g : Nat) (s : State) : Out :=
  let r := grpOf g s
  unit g 3
    (match r.run with
     | none => .next s
     | some m =>
       let t := takeTargets g m s
       let u := match r.queue with
         | [] => linePost (416 + g) (Reg.MOT_GRP_STAT.DONE g) 1 g [] (setGrp g {} t)
         | n :: q => setGrp g { queue := q, run := some n, f0 := m.t0, f1 := m.t1 } t
       occurs (m.cls ≠ 1 ∧ r.took = false ∧ r.stop = 0 ∧ r.next = none ∧ atEnd g m s = true) (motShow u) s)

/-- GROUP_STOP: MOT_GRP_CTL.STOP stops the group at DEC and flushes its queue. Log entry 76 (DEDUCED). -/
def execGroupStop (g : Nat) (s : State) : Out :=
  unit g 3 (.next (motShow (setGrp g { grpOf g s with queue := [], next := none, stop := max 1 (grpOf g s).stop } s)))

/-- An emergency stop of a group for one axis (R311): EMAX, the queue flushed, ESTOP and line 3. Log entry 77 (DEDUCED). -/
def emergencyStop (g a : Nat) (s : State) : State :=
  linePost 419 (Reg.MOT_AX_STAT.ESTOP a) 1 a [] (setGrp g { grpOf g s with queue := [], next := none, stop := 2 } s)

/-- EMERGENCY_STOP: MOT_GRP_CTL.ESTOP (R311): HOMED stays. -/
def execEmergencyStop (g : Nat) (s : State) : Out :=
  unit g 3 (.next (motShow ((groupAxes g).foldl (fun t a => emergencyStop g a t) s)))

/-- A homing fails (R313): HOME_FAIL, HCAUSE and line 6; HOMED stays 0. -/
def homeFails (a cause : Nat) (s : State) : State :=
  linePost 422 (Reg.MOT_AX_STAT.HOME_FAIL a) 1 a [cause] (puts [(Reg.MOT_AX_STAT.HCAUSE a, cause), (Reg.MOT_AX_STAT.HOMED a, 0)] s)

/-- The group runs a NORMAL move that moves this axis. -/
def movesAxis (a : Nat) (s : State) : Bool :=
  match (grpOf (axisGroup a) s).run with
  | some m => m.cls == 0 && (let p := runPath (axisGroup a) m s; (p.long == a && p.dl != 0) || (p.short == a && p.ds != 0))
  | none => false

/-- A switch input's state after the polarity of MOT_SW_POL (R310). Log entry 264 (DEDUCED). -/
def switchLevel (k : Nat) (level : Bool) (s : State) : Bool := level != bit Reg.MOT_SW_POL.POL k s

/-- SWITCH_EDGE: an input has held a new level for 64 samples of 1 µs (R310): `ago` tempo boundaries, 12 or 13, have passed since the first of them. An assertion of
a limit switch takes the position and stops a NORMAL move of its axis (R312); a far one ends a homing (R313). Log entry 264 (DEDUCED). -/
def execSwitchEdge (k : Nat) (level : Bool) (ago : Nat) (s : State) : Out :=
  let a := switchAxis k s
  let role := switchRole k s
  let value := switchLevel k level s
  let t := putBit Reg.MOT_SW_STAT.DEB k value (putBit Reg.MOT_SW_STAT.RAW k value s)
  let u := setAx a { axOf a t with edge := (axOf a s).past.getD ago (axOf a s).pos } t
  let v := if value ∧ (role = 1 ∨ role = 2) then
      (if role = 2 ∧ homing a s = true then homeFails a 4 (emergencyStop (axisGroup a) a u)
       else if movesAxis a s then put (Reg.MOT_AX_STAT.HOMED a) 0 (emergencyStop (axisGroup a) a u)
       else u)
    else t
  unit k 8 (occurs (domOn 13 s = true ∧ bit Reg.MOT_SW_STAT.DEB k s ≠ value ∧ (ago = 12 ∨ ago = 13)) (motShow v) s)

/-- More than 4 transitions lie within some 5 ms, by their times in µs. -/
def chatters (times : List Nat) : Bool :=
  (List.range times.length).any (fun i => i + 4 < times.length && decide (times.getD (i + 4) 0 ≤ times.getD i 0 + 5000))

/-- SWITCH_CHATTER: more than 4 raw transitions of a limit switch within 5 ms (R310, R311): a homing of the axis's group fails. -/
def execSwitchChatter (k : Nat) (times : List Nat) (s : State) : Out :=
  let a := switchAxis k s
  let t := linePost 420 (Reg.MOT_AX_STAT.CHATTER a) 1 a [k] (putBit Reg.MOT_SW_STAT.CHAT k true s)
  let u := put (Reg.MOT_AX_STAT.HOMED a) 0 (emergencyStop (axisGroup a) a t)
  unit k 8 (occurs (domOn 13 s = true ∧ chatters times = true ∧ (switchRole k s = 1 ∨ switchRole k s = 2))
    (motShow (((groupAxes (axisGroup a)).filter (fun b => homing b s)).foldl (fun v b => homeFails b 5 v) u)) s)

/-- A homing step begins where the axis stands. -/
def homeStep (a n : Nat) (s : State) : State := put (Reg.MOT_AX_STAT.HSTEP a) n (setAx a { axOf a s with start := (axOf a s).pos } s)

/-- The microsteps travelled in the homing step. -/
def travelled (a : Nat) (s : State) : Nat := ((axOf a s).pos - (axOf a s).start).natAbs / posUnit

/-- A homing ends: the group is idle once the axis has come to rest. Log entry 76 (DEDUCED). -/
def endHoming (a : Nat) (s : State) : State :=
  let g := axisGroup a
  setGrp g { grpOf g s with stop := max 1 (grpOf g s).stop } s

/-- HOMING_STEP_END: a homing step's exit or failure condition holds (R313). -/
def execHomingStepEnd (a : Nat) (s : State) : Out :=
  let x := axOf a s
  let near := switchOn a 1 s
  let t := match get (Reg.MOT_AX_STAT.HSTEP a) s with
    | 1 => if near then homeStep a 2 s else if 4096 * get (Reg.MOT_AX_HOME.RANGE a) s ≤ travelled a s then endHoming a (homeFails a 1 s) else s
    | 2 => if x.vel = 0 then homeStep a 3 s else s
    | 3 => if !near then (if x.vel = 0 then homeStep a 4 s else s)
           else if 1024 * 256 ≤ travelled a s then endHoming a (homeFails a 2 s) else s
    | 4 => if near then homeStep a 5 (setAx a { x with pos := x.pos - x.edge, past := x.past.map (· - x.edge), edge := 0 } s)
           else if 1024 * 256 ≤ travelled a s then endHoming a (homeFails a 3 s) else s
    | 5 => if x.vel = 0 then
             linePost (416 + axisGroup a) (Reg.MOT_GRP_STAT.DONE (axisGroup a)) 1 (axisGroup a) []
               (raisePost 421 a [] (puts [(Reg.MOT_AX_STAT.HOMED a, 1), (Reg.MOT_AX_STAT.HSTEP a, 0)] (setGrp (axisGroup a) {} s)))
           else s
    | _ => s
  unit a 4 (occurs (homing a s = true ∧ (grpOf (axisGroup a) s).stop = 0 ∧ (grpOf (axisGroup a) s).took = false) (motShow t) s)

/-! ### Loss of drive and limits -/

/-- The bridges lose drive (R315): the generator stops at once, queues are flushed, HOMED is cleared, STAGE set on each enabled axis, line 8. -/
def driveLost (s : State) : State :=
  let t := [0, 1, 2].foldl (fun u g => setGrp g {} u) s
  let u := [0, 1, 2, 3].foldl (fun v a => puts [(Reg.MOT_AX_STAT.HOMED a, 0), (Reg.MOT_AX_STAT.HSTEP a, 0)]
    (putIf (get (Reg.MOT_AX_CFG.EN a) s = 1) (Reg.MOT_AX_STAT.STAGE a) 1 (setAx a { axOf a v with vel := 0, acc := 0, kept := none } v))) t
  post (64 * 13 + 8) 0 [] (hostEdge s (motShow u))

/-- Something is left to lose. -/
def hasDrive (s : State) : Bool :=
  [0, 1, 2].any (fun g => !groupIdle g s)
  || [0, 1, 2, 3].any (fun a => get (Reg.MOT_AX_STAT.HOMED a) s == 1
    || (get (Reg.MOT_AX_CFG.EN a) s == 1 && get (Reg.MOT_AX_STAT.STAGE a) s == 0))

/-- MOTION_DRIVE_LOST: stage 1 is in its safe state, its link has faulted, or PFAIL_N is low (R315). -/
def execMotionDriveLost (s : State) : Out :=
  occurs (((stgOf 1 s).safe = true ∨ get (Reg.STG_STAT.FAULT 1) s = 1 ∨ s.pins.pfailN = false) ∧ hasDrive s = true) (driveLost s) s

/-- The position at which an axis stops under a deceleration, in microsteps. -/
def stopPoint (a dec : Nat) (s : State) : Option Int :=
  let x := axOf a s
  if dec = 0 then (if x.vel = 0 then some (microPos a s) else none)
  else some ((x.pos + signed x.vel (x.vel.natAbs * x.vel.natAbs / (2000 * dec))) / posUnit)

/-- A new DEC while a move of the axis decelerates (R303): lowered beyond the soft limits the old one is kept for the rest of the move, with
LIMIT_HELD and line 7; raised, the axis does not accelerate again within the move. -/
def decWritten (a old new : Nat) (s : State) : State :=
  let g := axisGroup a
  let r := grpOf g s
  if r.run.isNone ∨ r.slowing = false then s
  else if new < old ∧ (match stopPoint a new s with | none => false | some x => inSoft a x s) = false then
    linePost 423 (Reg.MOT_AX_STAT.LIMIT_HELD a) 1 a [] (setAx a { axOf a s with kept := some old } s)
  else if old < new then setGrp g { r with hold := true, joint := r.joint } s
  else s

/-- MOTION_LIMIT_WRITE: MOT_AX_VEL, MOT_AX_ACC or MOT_AX_LIM2 (1, 2, 3) is written; it applies from the next tempo (R303). -/
def execMotionLimitWrite (a reg value : Nat) (s : State) : Out :=
  let lo := bits value 0 16
  let hi := bits value 16 16
  unit a 4
    (if reg = 1 then .next (puts [(Reg.MOT_AX_VEL.VMAX a, lo), (Reg.MOT_AX_VEL.HOME_V a, hi)] s)
     else if reg = 2 then .next (decWritten a (axisDec a s) hi (puts [(Reg.MOT_AX_ACC.ACC a, lo), (Reg.MOT_AX_ACC.DEC a, hi)] s))
     else unit reg 4 (.next (puts [(Reg.MOT_AX_LIM2.EMAX a, lo), (Reg.MOT_AX_LIM2.JERK a, hi)] s)))

end Sys2Proof.Machine
end

