-- ==== Sys2Proof/Machine/Spindle.lean ====
section
/-! DEFINITION. 04_disk_spindle.md: the effective target (R96, R97), the spindle state machine (R98 to R100), starting (R101 to
R104), the lock (R105 to R107), observer loss (R108 to R111), the power-level curve (R112 to R114), the VMOT ceiling (R115) and the
stage faults (R119). Speeds are in units of 0.25 rpm, as SPN_SPEED shows them. -/

namespace Sys2Proof.Machine

def spnState (s : State) : Nat := get Reg.SPN_STAT.STATE s

/-- The effective target speed in rpm (R96). -/
def effTarget (s : State) : Nat :=
  if get Reg.SPN_CTL.CURVE s = 1 then get Reg.SPN_CURVE_STAT.CUR_RPM s
  else if get Reg.SPN_CTL.RUN s = 1 then get Reg.SPN_TARGET.RPM s else 0

/-- A speed is below some percent of SPN_TARGET.RPM. -/
def below (speed pct : Nat) (s : State) : Bool := decide (speed * 100 < 4 * pct * get Reg.SPN_TARGET.RPM s)

/-- K matches the speed (R66, R97): rpm × 400 ÷ 60 = 200,000 ÷ K. -/
def kMatches (s : State) : Bool := get Reg.SPN_TARGET.RPM s * get Reg.TMP_PHASE.K s == 30000

/-- LOCK falls from 2 (R107): write gate drops on both actuators at the cycle 3,200 output write, LOCK_LOST and the lock interrupt. -/
def lockFalls (s : State) : State := linePost 129 Reg.SPN_FAULT.LOCK_LOST 1 0 [] (allFallLater false s)

/-- LOCK is 0 outside RUN (R107). -/
def unlock (s : State) : State := put Reg.SPN_STAT.LOCK 0 (if get Reg.SPN_STAT.LOCK s = 2 then lockFalls s else s)

/-- The K of the wedge phase does not match the full speed that the spindle is to run at (R97). Log entry 198 (DEDUCED). -/
def mismatch (s : State) : Bool := effTarget s == get Reg.SPN_TARGET.RPM s && !kMatches s

/-- Entry to RUN (R100, R105): LOCK 1, NOT_READY 0, line 0; K_MISMATCH at the full-speed target with another K (R97). -/
def enterRun (s : State) : State :=
  let t := { puts [(Reg.SPN_STAT.LOCK, 1), (Reg.SPN_STAT.NOT_READY, 0)] s with
    spn := { s.spn with lockRow := 0, errRow := 0, missRow := 0, aMissed := false, trim := 0 } }
  raisePost 128 0 [7] (putIf (mismatch s = true) Reg.SPN_FAULT.K_MISMATCH 1 t)

/-- Entry to FAULT (R99, R100): FAULT with line 3, NOT_READY, and MEDIA_FAULT in BRINGUP (R41). Log entry 147 (DEDUCED). -/
def enterFault (s : State) : State :=
  let t := linePost 131 Reg.SPN_FAULT.FAULT 1 0 [] (puts [(Reg.SPN_STAT.NOT_READY, 1), (Reg.SPN_STAT.RESTART_PEND, 0)] s)
  putIf (mode s = 2) Reg.SYS_MODE.MEDIA_FAULT 1
    { t with spn := { t.spn with faultPend := false, noRestart := false, rearmed := false, linkWait := false, underWait := false } }

/-- START_S counts from here (R104): entry to MEASURE, and to ACCEL from RUN, REACQ or BRAKE. -/
def startsAnew (old new : Nat) : Bool := new == 1 || (new == 6 && 7 ≤ old && old ≤ 9)

/-- What SPN holds for a state as it is entered (R98): the counts of the state start at 0, a VMOT brake belongs to BRAKE (R115), the blind ramp starts at 0 rpm
from the second align vector (R103), and the profile of a caught, converged or reacquired rotor at its speed (R102 to R104, R110). -/
def spnEnter (old new now speed : Nat) (r : SpnSt) : SpnSt :=
  let q := { r with tempos := 0, bandRow := 0, lowRow := 0, agreeRow := 0, phaseRow := 0, crossRow := 0, crossing := none, reAngles := [], window := 0
                    startAt := if startsAnew old new then now else r.startAt
                    delayAt := if new = 12 then now else r.delayAt
                    vmotBrake := if new = 9 then r.vmotBrake else 0 }
  if new = 4 then { q with openV := 0, openAngle := 400000000000 }
  else if new = 6 ∧ old ≠ 7 ∧ old ≠ 9 then { q with profile := 50000 * (speed : Int) }
  else q

/-- The spindle goes to a state (R98): the transition is recorded with code 0x121, and the actuators follow (R125). -/
def spnGo (new : Nat) (s : State) : State :=
  let old := spnState s
  let s1 := if new = 7 then s else unlock s
  let s2 := post 0x121 0 [old, new] (put Reg.SPN_STAT.STATE new s1)
  let s3 := putIf (old = 13) Reg.SYS_MODE.MEDIA_FAULT 0 s2
  let s4 := { s3 with spn := spnEnter old new (tmpCount s) (get Reg.SPN_SPEED.SPEED s) s3.spn }
  let s5 := if new = 7 then enterRun s4 else if new = 13 then enterFault s4 else s4
  actOnSpindle new 1 (actOnSpindle new 0 s5)

/-- The effective target in force. Log entry 35 (DEDUCED). -/
def setTarget (v : Nat) (s : State) : State := { s with spn := { s.spn with target := v } }

/-- A restart is needed (R99): pending while AUTO_RESTART is 1 and ATTEMPTS is below 3; otherwise the next wait for one is FAULT. -/
def needRestart (s : State) : State :=
  if get Reg.SPN_CTL.AUTO_RESTART s = 1 ∧ get Reg.SPN_STAT.ATTEMPTS s < 3 then
    puts [(Reg.SPN_STAT.RESTART_PEND, 1), (Reg.SPN_STAT.NOT_READY, 1)] s
  else { s with spn := { s.spn with noRestart := true } }

/-! ### The power-level curve -/

/-- The curve's entries in use (R112), as (LEVEL, RPM): up to the first whose LEVEL is not above the previous one's. -/
def risingLevels : List (Nat × Nat) → List (Nat × Nat)
  | [] => []
  | [p] => [p]
  | p :: q :: t => if p.1 < q.1 then p :: risingLevels (q :: t) else [p]

def curveUsed (s : State) : List (Nat × Nat) :=
  risingLevels ((List.range 16).map (fun i => (get (Reg.SPN_CURVE.LEVEL i) s, get (Reg.SPN_CURVE.RPM i) s)))

/-- The index of the first entry at fault (R113): RPM 0 after the turn-on entry, or RPM outside 1,000 to SPN_TARGET.RPM. -/
def curveFault (rpm : Nat) : (i : Nat) → (on : Bool) → List (Nat × Nat) → Option Nat
  | _, _, [] => none
  | i, on, p :: t =>
    if (p.2 = 0 ∧ on = true) ∨ (p.2 ≠ 0 ∧ (p.2 < 1000 ∨ rpm < p.2)) then some i
    else curveFault rpm (i + 1) (on || p.2 != 0) t

/-- The turn-on level (R112): the LEVEL of the first entry in use with RPM other than 0. -/
def onLevel (l : List (Nat × Nat)) : Option Nat := (l.find? (fun p => p.2 != 0)).map (·.1)

/-- The RPM of the last entry whose LEVEL is not above a level, or 0 (R112). -/
def curveAt (l : List (Nat × Nat)) (lvl : Nat) : Nat :=
  ((l.filter (fun p => decide (p.1 ≤ lvl))).getLast?.map (·.2)).getD 0

/-- The turn-on state after an evaluation (R114). -/
def curveOn (l : List (Nat × Nat)) (s : State) : Bool :=
  let lvl := get Reg.SPN_CTL.PLEVEL s
  let was := match s.spn.curveNext with | some p => p.1 | none => get Reg.SPN_CURVE_STAT.ON s == 1
  match onLevel l with
  | none => false
  | some o => if was then decide (o ≤ lvl) else decide (min (o + get Reg.SPN_CURVE_STAT.HYST s) 255 ≤ lvl)

/-- An evaluation of the curve (R112 to R114), with the event of code 0x122 where it is newly found invalid. The turn-on state and the speed apply from the
next tempo. -/
def evalCurve (s : State) : State :=
  let l := curveUsed s
  let bad := curveFault (get Reg.SPN_TARGET.RPM s) 0 false l
  let on := curveOn l s
  let rpm := if bad.isSome ∨ on = false then 0 else curveAt l (get Reg.SPN_CTL.PLEVEL s)
  let t := puts [(Reg.SPN_CURVE_STAT.ON_LEVEL, (onLevel l).getD 0), (Reg.SPN_CURVE_STAT.BAD, b2n bad.isSome)] s
  let u := { t with spn := { t.spn with curveBad := bad.isSome, curveNext := some (on, rpm) } }
  match bad with
  | none => u
  | some i => if s.spn.curveBad then u else post 0x122 0 [i] u

/-- The evaluation of the last tempo takes effect (R114). -/
def curveTakes (s : State) : State :=
  match s.spn.curveNext with
  | none => s
  | some p =>
    let t := puts [(Reg.SPN_CURVE_STAT.CUR_RPM, p.2), (Reg.SPN_CURVE_STAT.ON, b2n p.1)] s
    { t with spn := { t.spn with curveNext := none } }

/-- A change of the effective target between speeds other than 0 applies from the next tempo (R98, R104): RUN goes to ACCEL, BRAKE to ACCEL for a higher one. Log entries 35 (DEDUCED), 188 (DESIGN CHOICE). -/
def retarget (s : State) : State :=
  let e := effTarget s
  let old := s.spn.target
  if old = 0 ∨ e = 0 ∨ e = old then s
  else
    let t := setTarget e s
    if spnState s = 7 then spnGo 6 t
    else if spnState s = 9 ∧ old < e then spnGo 6 t
    else t

/-- PLEVEL_WRITE: SPN_CTL.PLEVEL is written and the curve evaluated (R114). -/
def execPlevelWrite (level : Nat) (s : State) : Out := .next (evalCurve (put Reg.SPN_CTL.PLEVEL level s))

/-- SPN_TARGET_WRITE: one of the four speeds is accepted unless it is in force (R97). -/
def execSpnTargetWrite (rpm : Nat) (s : State) : Out :=
  let v := bits rpm 0 16
  .next
    (if v ≠ 5000 ∧ v ≠ 6000 ∧ v ≠ 7500 ∧ v ≠ 10000 then post 0x120 0 (bytesOf 2 v) s
     else if effTarget s = get Reg.SPN_TARGET.RPM s ∧ spnState s ≠ 0 then s
     else evalCurve (put Reg.SPN_TARGET.RPM v s))

/-- A write of SPN_CTL apart from RESTART and PLEVEL (R96, R114). -/
def spnCtlWritten (value : Nat) (s : State) : State :=
  evalCurve (puts [(Reg.SPN_CTL.RUN, bits value 0 1), (Reg.SPN_CTL.CURVE, bits value 1 1),
    (Reg.SPN_CTL.AUTO_RESTART, bits value 2 1), (Reg.SPN_CTL.PLEVEL, bits value 16 8)] s)

/-- The control bits that a mode transition sets (R96). -/
def spnMode (run curve : Nat) (s : State) : State :=
  evalCurve (puts [(Reg.SPN_CTL.RUN, run), (Reg.SPN_CTL.CURVE, curve)] s)

/-! ### Commands and the start -/

/-- SPN_START_COMMAND: the effective target has changed from 0 to a speed (R96, R98); BRINGUP may hold the start (R346). Log entry 188 (DESIGN CHOICE). -/
def execSpnStartCommand (s : State) : Out :=
  let st := spnState s
  let t := bump Reg.SPN_START_CNT.STARTS (setTarget (effTarget s) s)
  occurs (s.spn.target = 0 ∧ effTarget s ≠ 0 ∧ s.boot.spinHeld = false)
    (if st = 0 ∨ (st = 13 ∧ s.spn.rearmed = true) ∨ (st = 10 ∧ get Reg.SPN_STAT.RESTART_PEND s = 0) then
       spnGo 1 { t with spn := { t.spn with noRestart := false } }
     else if st = 9 then spnGo 6 t else { t with spn := { t.spn with startAt := tmpCount s } }) s

/-- SPN_STOP_COMMAND: the effective target has changed to 0 (R96, R98): SHORT from ALIGN, RAMP and HANDOVER, BRAKE from ACCEL and RUN. -/
def execSpnStopCommand (s : State) : Out :=
  let st := spnState s
  let t := setTarget 0 s
  occurs (effTarget s = 0 ∧ (s.spn.target ≠ 0 ∨ (3 ≤ st ∧ st ≤ 7)))
    (if 3 ≤ st ∧ st ≤ 5 then spnGo 10 t else if st = 6 ∨ st = 7 then spnGo 9 t else t) s

/-- SPN_RESTART: SPN_CTL.RESTART clears FAULT and ATTEMPTS and starts where the effective target is not 0 (R98, R99). Log entry 189 (DESIGN CHOICE). -/
def execSpnRestart (s : State) : Out :=
  let t := hostEdge s (puts [(Reg.SPN_FAULT.FAULT, 0), (Reg.SPN_STAT.ATTEMPTS, 0), (Reg.SPN_CTL.RESTART, 0)] s)
  .next
    (if spnState s = 13 then
       (if effTarget s = 0 then { t with spn := { t.spn with rearmed := true } }
        else spnGo 1 (bump Reg.SPN_START_CNT.STARTS (setTarget (effTarget s) t)))
     else t)

/-- The measured speed: below 0.5 % of SPN_TARGET.RPM it reads 0 (R101). -/
def measured (speed : Nat) (s : State) : Nat := if speed * 1000 < 4 * 5 * get Reg.SPN_TARGET.RPM s then 0 else speed

/-- SPN_MEASURE_END: the fit over the 800 tempos of MEASURE (R98, R101, R102), whose direction, speed and angle the command brings: ACCEL with the observer seeded, BACKBRAKE or ALIGN. Log entries 36 (DEDUCED), 193 (DEDUCED). -/
def execSpnMeasureEnd (backward : Bool) (speed angle : Nat) (s : State) : Out :=
  let v := measured speed s
  let t := puts [(Reg.SPN_SPEED.SPEED, v), (Reg.SPN_SPEED.BACKWARD, b2n backward), (Reg.SPN_STAT.REVERSE, b2n backward)] s
  occurs (spnState s = 1 ∧ 800 ≤ s.spn.tempos)
    (if backward = false ∧ below v 5 s = false then
       spnGo 6 (bump Reg.SPN_START_CNT.CATCHES { t with spn := { t.spn with angle := angle } })
     else if backward = true ∧ below v 1 s = false then spnGo 2 t
     else spnGo 3 t) s

/-- SPN_BACKBRAKE_END: the measured speed is below 1 % (R98). -/
def execSpnBackbrakeEnd (s : State) : Out := occurs (spnState s = 2 ∧ below (get Reg.SPN_SPEED.SPEED s) 1 s = true) (spnGo 3 s) s

/-- SPN_ALIGN_END: ALIGN_MS has elapsed (R98). -/
def execSpnAlignEnd (s : State) : Out :=
  occurs (spnState s = 3 ∧ tempos (get Reg.SPN_START.ALIGN_MS s) ≤ s.spn.tempos) (spnGo 4 s) s

/-- SPN_RAMP_END: the open-loop speed has reached SPN_HANDOVER.RPM (R98, R103). -/
def execSpnRampEnd (s : State) : Out :=
  occurs (spnState s = 4 ∧ 200000 * get Reg.SPN_HANDOVER.RPM s ≤ s.spn.openV) (spnGo 5 s) s

/-- SPN_HANDOVER_CONVERGED: the observer has agreed for CONV_TEMPOS tempos (R103). -/
def execSpnHandoverConverged (s : State) : Out :=
  occurs (spnState s = 5 ∧ get Reg.SPN_HANDOVER.CONV_TEMPOS s ≤ s.spn.agreeRow) (spnGo 6 s) s

/-- SPN_HANDOVER_FAIL: 1.5 times the handover speed without convergence (R98, R99, R119). -/
def execSpnHandoverFail (s : State) : Out :=
  occurs (spnState s = 5 ∧ 3 * 200000 * get Reg.SPN_HANDOVER.RPM s ≤ 2 * s.spn.openV)
    (spnGo 10 (needRestart (put Reg.SPN_FAULT.START_FAIL 1 s))) s

/-- SPN_RUN_ENTRY: within ±0.01 % of the effective target for 20,000 tempos in ACCEL (R98). -/
def execSpnRunEntry (s : State) : Out := occurs (spnState s = 6 ∧ 20000 ≤ s.spn.bandRow) (spnGo 7 s) s

/-- SPN_START_TIMEOUT: START_S has elapsed in ACCEL since the start of the attempt (R98, R99, R104). -/
def execSpnStartTimeout (s : State) : Out :=
  occurs (spnState s = 6 ∧ tempos (1000 * get Reg.SPN_TIMEOUT.START_S s) ≤ tmpCount s - s.spn.startAt)
    (spnGo 9 (needRestart (put Reg.SPN_FAULT.TIMEOUT 1 s))) s

/-! ### The lock -/

/-- PHASE_LOCK: |error| within 100 ns on 400 consecutive wedges at the full-speed target with K matching (R105). -/
def execPhaseLock (s : State) : Out :=
  occurs (spnState s = 7 ∧ get Reg.SPN_STAT.LOCK s = 1 ∧ effTarget s = get Reg.SPN_TARGET.RPM s ∧ kMatches s = true
      ∧ 400 ≤ s.spn.lockRow)
    (raisePost 128 0 [2] (put Reg.SPN_STAT.LOCK 2 s)) s

/-- LOCK_LOST: |error| beyond 200 ns on 2 consecutive wedges, or 8 wedges without a time (R106, R107). -/
def execLockLost (s : State) : Out :=
  occurs (get Reg.SPN_STAT.LOCK s = 2 ∧ (2 ≤ s.spn.errRow ∨ 8 ≤ s.spn.missRow))
    (let t := put Reg.SPN_STAT.LOCK 1 (lockFalls s)
     { t with spn := { t.spn with lockRow := 0 } }) s

/-! ### Observer loss -/

/-- The loss is declared (R109): write gate and assist off on both actuators at the cycle 3,200 output write, LOSS with line 2, LOSSES, REACQ. -/
def declareLoss (s : State) : State :=
  let t := spnGo 8 (linePost 130 Reg.SPN_FAULT.LOSS 1 0 [] (bump Reg.SPN_LOSS_CNT.LOSSES (allFallLater true s)))
  { t with spn := { t.spn with lossAt := tmpCount s } }

/-- An observer loss by state (R98): REACQ from ACCEL and RUN, SHORT from BRAKE. -/
def observerLoss (s : State) : State :=
  if spnState s = 6 ∨ spnState s = 7 then declareLoss s else if spnState s = 9 then spnGo 10 s else s

/-- OBSERVER_LOSS: the phase error beyond 30 degrees in 3 consecutive tempos, or 2 consecutive crossings missing (R108). -/
def execObserverLoss (s : State) : Out := occurs (3 ≤ s.spn.phaseRow ∨ 2 ≤ s.spn.crossRow) (observerLoss s) s

/-- SPN_REACQUIRED: 4 consecutive angles of a window agree within 20 ms of the loss (R98, R110): drive resumes at the last of them. -/
def execSpnReacquired (s : State) : Out :=
  occurs (spnState s = 8 ∧ 4 ≤ s.spn.reAngles.length ∧ tmpCount s - s.spn.lossAt ≤ 4000)
    (let t := spnGo 6 (bump Reg.SPN_LOSS_CNT.REACQ_OK s)
     { t with zmg := { t.zmg with lossAt := some s.spn.lossAt }, spn := { t.spn with angle := s.spn.reAngles.headD 0 } }) s

/-- SPN_REACQ_TIMEOUT: 20 ms without reacquisition (R98, R99, R111). -/
def execSpnReacqTimeout (s : State) : Out :=
  occurs (spnState s = 8 ∧ 4000 ≤ tmpCount s - s.spn.lossAt)
    (spnGo 11 (requestRetract (needRestart (puts [(Reg.SPN_FAULT.REACQ_FAIL, 1), (Reg.SPN_STAT.NOT_READY, 1)] s)))) s

/-! ### Braking, stopping, restarting -/

/-- SPN_BRAKE_TO_SHORT: in BRAKE the speed is below SHORT_PCT of SPN_TARGET.RPM (R115). -/
def execSpnBrakeToShort (s : State) : Out :=
  occurs (spnState s = 9 ∧ below (get Reg.SPN_SPEED.SPEED s) (get Reg.SPN_BRAKE.SHORT_PCT s) s = true) (spnGo 10 s) s

/-- The wait for a restart, or FAULT where none is left (R99). Log entry 188 (DESIGN CHOICE). -/
def restartWait (s : State) : State :=
  if get Reg.SPN_STAT.RESTART_PEND s = 1 then spnGo 12 s else spnGo 13 s

/-- SPN_STOPPED: in SHORT the speed has stayed below 1 % for 1 s (R98, R99, R116). -/
def execSpnStopped (s : State) : Out :=
  occurs (spnState s = 10 ∧ 200000 ≤ s.spn.lowRow)
    (let t := put Reg.SPN_SPEED.BACKWARD 0 s
     if get Reg.SPN_STAT.RESTART_PEND s = 1 ∨ s.spn.noRestart = true then restartWait t else spnGo 0 t) s

/-- SPN_RESTART_DELAY_END: DELAY_MS has elapsed in RESTART_WAIT (R98, R99): after a link fault counted from the stage leaving its safe
state, after VMOT under once bit 3 has stayed clear for 100 ms. -/
def execSpnRestartDelayEnd (s : State) : Out :=
  occurs (spnState s = 12 ∧ tempos (get Reg.SPN_RESTART.DELAY_MS s) ≤ tmpCount s - s.spn.delayAt ∧ (s.spn.linkWait = true → (stgOf 0 s).safe = false)
      ∧ (s.spn.underWait = true → tempos 100 ≤ tmpCount s - s.spn.clearAt))
    (let t := bump Reg.SPN_STAT.ATTEMPTS (put Reg.SPN_STAT.RESTART_PEND 0 (setTarget (effTarget s) s))
     spnGo 1 { t with spn := { t.spn with linkWait := false, underWait := false } }) s

/-- SPN_ATTEMPTS_CLEAR: the lock at the effective target has been held for HOLD_S (R99). -/
def execSpnAttemptsClear (s : State) : Out :=
  occurs (spnState s = 7 ∧ 1 ≤ get Reg.SPN_STAT.LOCK s ∧ tempos (1000 * get Reg.SPN_RESTART.HOLD_S s) ≤ s.spn.tempos) (put Reg.SPN_STAT.ATTEMPTS 0 s) s

/-- SPN_RETRACT_DONE: RETRACT_DONE with PFAIL_N high leaves RETRACT for FAULT where one is pending, for SHORT otherwise (R98). -/
def execSpnRetractDone (s : State) : Out :=
  occurs (spnState s = 11 ∧ (stgOf 0 s).retractDone = true ∧ s.pins.pfailN = true)
    (retractEnds (if s.spn.faultPend then spnGo 13 s else spnGo 10 s)) s

/-- SPN_RETRACT_TIMEOUT: RETRACT_MS without RETRACT_DONE while RETRACT_REQ is set, outside RESCUE (R118): FAULT, whichever block
requested the retract. -/
def execSpnRetractTimeout (s : State) : Out :=
  occurs (retractReq s = true ∧ (stgOf 0 s).retractDone = false ∧ mode s ≠ 5
      ∧ tempos (get Reg.SPN_TIMEOUT.RETRACT_MS s) ≤ tmpCount s - s.spn.retractAt)
    (let t := put Reg.SPN_FAULT.RETRACT_TMO 1 s
     if spnState s = 13 then t else spnGo 13 t) s

/-! ### What the stage returns -/

/-- A stage fault without restart (R98, R119): write gate and assist off, RETRACT_REQ, RETRACT with a fault pending. -/
def hardStageFault (f : Fld) (s : State) : State :=
  let t := allPermitsFall true (requestRetract (put f 1 s))
  let u := { t with spn := { t.spn with faultPend := true } }
  if spnState s = 11 then u else spnGo 11 u

/-- VMOT under (R119): RETRACT, with a restart that waits for bit 3 to stay clear. Log entry 161 (DEDUCED). -/
def underVoltage (s : State) : State :=
  let t := put Reg.SPN_FAULT.VMOT_UNDER 1 s
  let st := spnState s
  if 1 ≤ st ∧ st ≤ 10 then
    let u := needRestart t
    spnGo 11 { u with spn := { u.spn with underWait := true } }
  else t

/-- The VMOT ceiling in force: values above 13,200 mV are taken as 13,200. -/
def vmotCeil (s : State) : Nat := min 13200 (get Reg.SPN_VMOT.CEIL s)

/-- The VMOT ceiling while braking (R115): BRAKE_REQ for at least 16 tempos and until VMOT is at most the ceiling less 2 margins. -/
def vmotBraking (v : Nat) (s : State) : State :=
  let c := vmotCeil s
  let m := get Reg.SPN_BRAKE.VMARGIN s
  let n := s.spn.vmotBrake
  if spnState s ≠ 9 then { s with spn := { s.spn with vmotBrake := 0 } }
  else if c ≤ v then { put Reg.SPN_FAULT.VMOT_OVER 1 s with spn := { s.spn with vmotBrake := if n = 0 then 16 else max 1 (n - 1) } }
  else if n ≤ 1 then { s with spn := { s.spn with vmotBrake := if v + 2 * m ≤ c then 0 else n } }
  else { s with spn := { s.spn with vmotBrake := n - 1 } }

/-- A fault without restart acts (R98, R119): in FAULT only once its bit has been clear, since there it has been answered. Log entry 161 (DEDUCED). -/
def hardActs (was w2 i : Nat) (s : State) : Bool := w2.testBit i && (spnState s != 13 || !was.testBit i)

/-- The stage faults of a return frame, word w2, with that of the frame before (R119). Log entry 161 (DEDUCED). -/
def stageFaults (was w2 : Nat) (s : State) : State :=
  let s1 := if w2.testBit 4 && !was.testBit 4 then postReg Reg.SPN_FAULT.OVERTEMP 0 s else s
  let s2 := putIf (w2.testBit 2 = true) Reg.SPN_FAULT.VMOT_OVER 1 s1
  let s3 := if w2.testBit 1 then observerLoss (put Reg.SPN_FAULT.OVERCURRENT 1 s2) else s2
  let s4 := if w2.testBit 3 then underVoltage s3 else s3
  let s5 := if hardActs was w2 0 s4 then hardStageFault Reg.SPN_FAULT.OVERTEMP s4 else s4
  if hardActs was w2 5 s5 || hardActs was w2 6 s5 then hardStageFault Reg.SPN_FAULT.DRIVER s5 else s5

/-! ### The observer (R94) -/

/-- The signed 16-bit words i to i + 2 of a return frame. -/
def threeWords (words : List Nat) (i : Nat) : List Int := (List.range 3).map (fun k => toInt 16 (words.getD (i + k) 0 % 65536))

/-- The back-EMF of a phase in 1/32,768 µV (R94): e = v − R · i − L · di/dt, with v and i as words of the frame and the current of the tempo before. Log entry 190 (DESIGN CHOICE). -/
def backEmf (v i was : Int) (s : State) : Int :=
  1000 * (Config.stageVolts : Int) * v - (get Reg.SPN_MOTOR.RES s : Int) * Config.stageAmps * i
    - 20 * (get Reg.SPN_MOTOR_L.IND s : Int) * Config.stageAmps * (i - was)

/-- The back-EMF of the three phases from a frame, with the currents of the frame before. Log entry 194 (DEDUCED). -/
def emfOf (words : List Nat) (s : State) : List Int :=
  let v := threeWords words 6
  let i := threeWords words 3
  (List.range 3).map (fun k => backEmf (v.getD k 0) (i.getD k 0) (s.spn.amps.getD k (i.getD k 0)) s)

/-- A difference of angles in 1/65,536 turn, wrapped. -/
def wrapTurn (d : Int) : Int := (d + 32768) % 65536 - 32768

/-- An angle's difference is within some degrees. -/
def withinDeg (deg : Nat) (d : Int) : Bool := decide ((wrapTurn d).natAbs * 360 ≤ deg * 65536)

/-- The electrical advance of a tempo at a speed in 1/65,536 turn. -/
def turned (s : State) : Int :=
  let a := roundOpen ((get Reg.SPN_MOTOR.POLE_PAIRS s : Int) * get Reg.SPN_SPEED.SPEED s * 65536) 48000000
  if get Reg.SPN_SPEED.BACKWARD s = 1 then -a else a

/-- The angle of the blind ramp in 1/65,536 turn (R103). -/
def blindAngle (s : State) : Int := roundOpen ((s.spn.openAngle : Int) * 65536) 2400000000000

/-- The crossing whose window of ±15 degrees an angle lies in (R108): crossing j stands at 30 + 60j degrees. -/
def crossingAt (angle : Nat) : Option Nat := if 15 * 65536 ≤ angle * 360 % (60 * 65536) ∧ angle * 360 % (60 * 65536) ≤ 45 * 65536 then some (angle * 360 / (60 * 65536)) else none

/-- The phase that crosses zero there: V, U, W in turn. Log entry 195 (DEDUCED). -/
def crossingPhase (j : Nat) : Nat := [1, 0, 2].getD (j % 3) 0

/-- The window that is open and the row of missed crossings as the propagated angle moves (R108): a window is left with the sign of its phase changed, or it is missed. -/
def crossingStep (angle : Nat) (e : List Int) (q : Option (Nat × Bool × Bool)) (missed : Nat) : Option (Nat × Bool × Bool) × Nat :=
  let pos (j : Nat) : Bool := decide (0 < e.getD (crossingPhase j) 0)
  let opened : Option (Nat × Bool × Bool) := (crossingAt angle).map (fun j => (j, pos j, false))
  match q with
  | none => (opened, missed)
  | some (j, sign, changed) =>
    if crossingAt angle = some j then (some (j, sign, changed || pos j != sign), missed)
    else (opened, if changed || pos j != sign then 0 else missed + 1)

def crossings (angle : Nat) (e : List Int) (r : SpnSt) : SpnSt :=
  let q := crossingStep angle e r.crossing r.crossRow
  { r with crossing := q.1, crossRow := q.2 }

/-- The angles of a REACQ window after one more (R110): those in a row that agree within 10 degrees after allowance for the advance in a tempo. -/
def agreeing (angle : Nat) (moved : Int) (l : List Nat) : List Nat :=
  match l with
  | [] => [angle]
  | p :: t => if withinDeg 10 ((angle : Int) - p - moved) then angle :: p :: t else [angle]

def reacquire (angle : Nat) (s : State) : List Nat := agreeing angle (turned s) s.spn.reAngles

/-- The speed is within ±0.01 % of the effective target (R98). -/
def inBand (s : State) : Bool :=
  let e := 4 * effTarget s
  decide (effTarget s ≠ 0 ∧ ((get Reg.SPN_SPEED.SPEED s : Int) - (e : Int)).natAbs * 10000 ≤ e)

/-- What SPN counts from tempo to tempo on the observer's outputs, by state (R98, R103, R108, R110, R116): `propagated` is the observer's angle before the frame
moved on by a tempo. Log entry 193 (DEDUCED). -/
def observed (propagated : Nat) (s : State) : SpnSt :=
  let r := s.spn
  let st := spnState s
  if st = 5 then { r with agreeRow := row (withinDeg 15 ((r.angle : Int) - blindAngle s)) r.agreeRow }
  else if st = 6 ∨ st = 7 then
    crossings propagated r.emf { r with phaseRow := row (!withinDeg 30 ((r.emfAngle : Int) - propagated)) r.phaseRow, bandRow := row (inBand s) r.bandRow }
  else if st = 8 then
    (if r.window = 8 then { r with window := 1, reAngles := [r.emfAngle] } else { r with window := r.window + 1, reAngles := reacquire r.emfAngle s })
  else if st = 10 then { r with lowRow := row (below (get Reg.SPN_SPEED.SPEED s) 1 s) r.lowRow }
  else r

/-- The current of the start sequence (R103), in 1/65,536 of full scale: ALIGN_I, ramped over the first 10 ms of ALIGN, capped by SPN_ILIM. -/
def startCurrent (s : State) : Nat :=
  let i := 256 * get Reg.SPN_START.ALIGN_I s
  let st := spnState s
  if st = 3 then min (i * min s.spn.tempos 2000 / 2000) (get Reg.SPN_ILIM.LIMIT s)
  else if st = 4 ∨ st = 5 then min i (get Reg.SPN_ILIM.LIMIT s) else 0

/-- The angle that commutates (R98): the open-loop angle in RAMP and HANDOVER, the observer's otherwise. -/
def driveAngle (s : State) : Nat :=
  if spnState s = 4 ∨ spnState s = 5 then (blindAngle s % 65536).toNat else s.spn.angle

/-- SPN's outputs arrive for CE2 (R94, R102 to R105): angle, speed, speed profile, current of the start and trim. Log entry 196 (DESIGN CHOICE). -/
def feedObserver (s : State) : State :=
  let v : Int := get Reg.SPN_SPEED.SPEED s
  arrive 2 28 s.spn.trim (arrive 2 27 (startCurrent s * 32768) (arrive 2 26 s.spn.profile
    (arrive 2 25 (if get Reg.SPN_SPEED.BACKWARD s = 1 then -v else v) (arrive 2 24 (toInt 32 (driveAngle s * 65536)) s))))

/-- SPN's share of a good return frame of stage 0 (R94, R115, R119): the back-EMF, the observer's outputs, which the command brings, what is counted on them,
CE2's slots, VMOT and the stage faults. Log entries 191 (DESIGN CHOICE), 193 (DEDUCED). -/
def spnReturn (was words : List Nat) (speed angle : Nat) (backward : Bool) (s : State) : State :=
  let v := words.getD 1 0
  let w2 := words.getD 2 0
  let e := emfOf words s
  let p := (((s.spn.angle : Int) + turned s) % 65536).toNat
  let t := puts [(Reg.SPN_VMOT.LAST, v), (Reg.SPN_SPEED.SPEED, speed), (Reg.SPN_SPEED.BACKWARD, b2n backward)] s
  let u := { t with spn := { t.spn with
    emf := e, emfAngle := (Config.emfAngle (e.getD 0 0) (e.getD 1 0) (e.getD 2 0)).toNat, amps := threeWords words 3, angle := angle % 65536
    clearAt := if w2.testBit 3 then tmpCount s else t.spn.clearAt
    delayAt := if t.spn.linkWait ∧ (stgOf 0 s).safe then tmpCount s else t.spn.delayAt } }
  stageFaults (was.getD 2 0) w2 (vmotBraking v (feedObserver { u with spn := observed p u }))

/-- The spindle's answer to a stage-link 0 fault (R98, R119). -/
def spnLinkFault (s : State) : State :=
  let st := spnState s
  let t := put Reg.SPN_FAULT.LINK 1 s
  if 1 ≤ st ∧ st ≤ 10 then
    let u := needRestart t
    restartWait { u with spn := { u.spn with linkWait := true } }
  else t

/-- The spindle at the assertion of PFAIL_N (R98, R117). -/
def spnPfail (s : State) : State :=
  let t := allFallLater true (requestRetract s)
  if spnState s = 11 then t else spnGo 11 t

/-! ### The outbound frame's override (R95, R98, R103) -/

/-- The spindle phase states in the outbound frame, w1 bits 5:0: U in 1:0, V in 3:2, W in 5:4. -/
def phaseWord (ce2 : Nat) (s : State) : Nat :=
  let st := spnState s
  if st = 6 ∨ st = 7 ∨ st = 9 then ce2
  else if st = 4 ∨ st = 5 then 63
  else if st = 3 then (if s.spn.tempos < 100 * get Reg.SPN_START.ALIGN_MS s then 1 + 4 * 2 + 16 * 2 else 1 + 4 * 1 + 16 * 2)
  else 0

/-- BRAKE_REQ of stage link 0 (R95, R98, R115). -/
def brakeReq (s : State) : Bool := spnState s == 2 || spnState s == 10 || (spnState s == 9 && decide (0 < s.spn.vmotBrake))

/-- The spindle current limit in w14 (R89, R115, R527): capped at SPN_ILIM, and in BRAKE scaled by (C − V) ÷ M while VMOT lies within the margin. Log entry 197 (DEDUCED). -/
def currentLimit (ce2 : Nat) (s : State) : Nat :=
  let i := min ce2 (get Reg.SPN_ILIM.LIMIT s)
  let c := vmotCeil s
  let m := get Reg.SPN_BRAKE.VMARGIN s
  let v := get Reg.SPN_VMOT.LAST s
  if spnState s = 9 ∧ c < v + m then (roundOpen ((i * (c - v) : Nat) : Int) m).toNat else i

/-- The profile after a tempo (R104, R115): it moves toward the effective target, or to 0 in BRAKE, by at most SPN_RAMP.ACC up or DEC down. -/
def profileNext (s : State) : Int :=
  let p := s.spn.profile
  let g : Int := if spnState s = 9 then 0 else 200000 * s.spn.target
  if p < g then min g (p + get Reg.SPN_RAMP.ACC s) else max g (p - get Reg.SPN_RAMP.DEC s)

/-- What runs with the tempos in a state: the time in it, the blind ramp (R103), the profile (R104); a tempo without a frame breaks the rows on the observer. Log entry 194 (DEDUCED). -/
def spnTempo (s : State) : SpnSt :=
  let r := { s.spn with tempos := s.spn.tempos + 1 }
  let st := spnState s
  let q := if st = 4 ∨ st = 5 then
      (let v := r.openV + get Reg.SPN_START.RAMP_ACC s
       { r with openV := v, openAngle := (r.openAngle + get Reg.SPN_MOTOR.POLE_PAIRS s * v) % 2400000000000 })
    else if st = 6 ∨ st = 7 ∨ st = 9 then { r with profile := profileNext s } else r
  if get (Reg.STG_STAT.MISS 0) s = 0 then q
  else { q with amps := [], phaseRow := 0, bandRow := 0, lowRow := 0, agreeRow := 0 }

/-- In RUN, K is held against the full speed at each phase 0 (R97): K_MISMATCH, and LOCK falls to 1. Log entry 198 (DEDUCED). -/
def checkK (s : State) : State :=
  if spnState s = 7 ∧ mismatch s = true then
    (let t := put Reg.SPN_FAULT.K_MISMATCH 1 s
     if get Reg.SPN_STAT.LOCK s = 2 then put Reg.SPN_STAT.LOCK 1 (lockFalls { t with spn := { t.spn with lockRow := 0 } }) else t)
  else s

/-- The spindle's share of a tempo boundary: what changes from the next tempo (R104, R114), the counts by tempo, and at phase 0 the match of K and a wedge that no
actuator supplies (R106). Log entry 163 (DEDUCED). -/
def spnBoundary (s : State) : State :=
  let t := { s with spn := spnTempo s }
  let u := retarget (curveTakes t)
  if get Reg.TMP_PHASE.PHASE u = 0 then
    (let v := checkK u
     if spnState v = 7 ∧ supplies 0 v = false ∧ supplies 1 v = false then missLock v else v)
  else u

end Sys2Proof.Machine
end

