-- ==== Sys2Proof/Machine/OptServo.lean ====
section
/-! DEFINITION. 09_optical_servo.md: the optical servo's states (R241 to R249), servo frames (R235, R236), wobble and addresses (R250, R251), the
optical write permit (R252, R253) and the layer table (R239, R240). Signals of a sub-sample are 16-bit signed fractions. -/

namespace Sys2Proof.Machine

def osvState (s : State) : Nat := get Reg.OSV_STAT.STATE s
def setOsv (r : OsvSt) (s : State) : State := { s with osv := r }
def discState (s : State) : Nat := get Reg.OSV_DSTAT.STATE s

/-! ### The layer table -/

/-- Bytes off to off + n − 1 of a layer's entry (R239, R278). -/
def layerAddr (l : Nat) (s : State) : Nat := 2 ^ 32 * get Reg.OSV_LTBL_HI.ADDR s + 512 * get Reg.OSV_LTBL_LO.ADDR s + 32 * l
def layerNat (l off n : Nat) (s : State) : Nat := memNat (layerAddr l s + off) n s

def curLayer (s : State) : Nat := get Reg.OSV_STAT.LAYER s

/-- The nominal SUM of the current layer, 1/65,536 of full scale. -/
def nominalSum (s : State) : Nat := layerNat (curLayer s) 6 2 s

def layerValid (l : Nat) (s : State) : Bool := (layerNat l 15 1 s).testBit 0

/-- Section type 3 of the image (R54). -/
def opticsSection (s : State) : List Nat := ((s.boot.image).map (fun i => sectionData 3 i.sections)).getD []

/-- The layers of the disc, from section type 3 of the image. -/
def layerCount (s : State) : Nat := ((s.boot.image).map (·.layers)).getD 0

/-! ### A write that stops -/

/-- An urgent gate on the optical link (R281, R291). -/
def ochGate (s : State) : State :=
  if get Reg.OLK_STAT.TX_UP s = 1 then sendBlocks 2 [blkGate 0 false true 0] s else s

/-- The cluster being written becomes void (R281): VOID for its slot, with lines 0 and 1; its data waits for the next free cluster (R282). -/
def voidJob (s : State) : State :=
  match s.och.job with
  | none => s
  | some j =>
    if j.op = 2 then
      let t := { s with och := { s.och with job := none, voided := s.och.voided ++ [j] } }
      let u := puts [(Reg.OCH_STAT.STATE, 0), (Reg.OCH_STAT.WRITING, 0)] (ochGate t)
      let v := if j.use = .command then
          linePost 352 (Reg.OCH_RESULT.DONE j.slot) 1 0 [j.slot, 3] (put (Reg.OCH_RESULT.CODE j.slot) 3 u) else u
      raisePost 353 0 (bytesOf 4 (j.cluster + 2 ^ 18 * j.layer)) v
    else s

/-! ### The permit -/

/-- Notes which path of R253 has dropped the permit in this tempo: the fast one of OLK's hardware, or a slow one. -/
def noteFall (fast : Bool) (r : OsvSt) : OsvSt := if fast then { r with fellFast := true } else { r with fellSlow := true }

/-- A condition of R252 fails: PERMIT falls, counted, with line 2, and a hard fall stops the write at once (R281). A fall by the other path of
R253 in the same tempo is counted too, and the hard class applies. -/
def pathFall (fast hard : Bool) (s : State) : State :=
  if get Reg.OSV_STAT.PERMIT s = 1 then
    let t := raisePost 322 0 [b2n hard] (bump Reg.OSV_CNT.WFALLS (put Reg.OSV_STAT.PERMIT 0
      (setOsv (noteFall fast { s.osv with fell := true, permRow := 0 }) s)))
    if hard then voidJob t else t
  else
    let other := if fast then s.osv.fellSlow && !s.osv.fellFast else s.osv.fellFast && !s.osv.fellSlow
    let t := if other then bump Reg.OSV_CNT.WFALLS (setOsv (noteFall fast s.osv) s) else s
    if hard ∧ get Reg.OCH_STAT.WRITING s = 1 then voidJob t else t

/-- OPTICAL_PERMIT_FALL: a fall by a slow path of R252. Log entry 68 (DEDUCED). -/
def opticalFall (hard : Bool) (s : State) : State := pathFall false hard s

/-- The conditions of R252 that hold between sub-samples. -/
def opticalHolds (s : State) : Bool :=
  osvState s == 5 && s.osv.target.isNone && !s.osv.parking && get Reg.OSV_STAT.WOB_LOCK s == 1 && layerValid (curLayer s) s
  && discState s == 7 && decide (s.osv.missRow < 3) && decide (get (Reg.STG_STAT.MISS 1) s < 3) && s.pins.pfailN

/-- OPTICAL_PERMIT_RISE: every condition holds and, after a fall, REQUAL consecutive tempos have met the thresholds (R253). -/
def execOpticalPermitRise (s : State) : Out :=
  occurs (get Reg.OSV_STAT.PERMIT s = 0 ∧ opticalHolds s = true
      ∧ (if s.osv.fell then get Reg.OSV_WR_CFG.REQUAL s else 1) ≤ s.osv.permRow)
    (put Reg.OSV_STAT.PERMIT 1 (setOsv { s.osv with fell := false } s)) s

/-! ### State changes -/

/-- SA_CODE_SEND: a layer's spherical-aberration code goes to the front-end chip (R244), in the command frames from now on. Log entry 59 (DEDUCED). -/
def sendSa (l : Nat) (s : State) : State := setOsv { s.osv with sa := layerNat l 4 2 s } s

/-- The counters of consecutive tempos and addresses begin anew in a new state. -/
def freshRows (r : OsvSt) : OsvSt :=
  { r with feRow := 0, teRow := 0, addrRow := 0, addrOff := 0, sumLow := 0, feHigh := 0, teHigh := 0, zeroRow := 0, tempos := 0, focusIn := r.focus }

/-- OSV goes to a state (R241): the transition is recorded; leaving FOLLOW the permit falls soft (R252), FOCUS sends the layer's
corrector code (R244), FAULT raises line 4. -/
def osvGo (new : Nat) (s : State) : State :=
  let old := osvState s
  let s1 := if old = 5 ∧ new ≠ 5 then opticalFall false s else s
  let s2 := postReg Reg.OSV_STAT.STATE 0 (put Reg.OSV_STAT.STATE new (setOsv (freshRows s1.osv) s1))
  if new = 3 then sendSa (curLayer s2) s2
  else if new = 10 then
    raisePost 324 0 [old] (setOsv { s2.osv with
      target := none, held := none, waits := false, parking := false, mounting := false,
      badMounts := if s2.osv.mounting then s2.osv.badMounts + 1 else s2.osv.badMounts } (put Reg.OSV_CMD.HELD 0 s2))
  else s2

/-- A command is complete: line 0. -/
def osvComplete (s : State) : State := raisePost 320 0 [get Reg.OSV_CMD.OP s] s

/-! ### Seeks and jumps -/

/-- A layer jump starts (R246): the kick. -/
def startJump (dest : Nat) (s : State) : State :=
  let t := osvGo 6 s
  setOsv { t.osv with
    jumpFrom := curLayer s, jumpTo := dest, crossed := 0, kick := get Reg.OSV_LJ_CFG.KICK_T s, brake := false, jumpTime := 0,
    jumpTry := t.osv.jumpTry + 1, jumpV := 0, jumpWay := 0, jumpSince := 0 } t

/-- A NORMAL move that OSV asks of axis S (R308): pushed after the checks of R305. -/
def pushSled (target : Int) (s : State) : State :=
  let m : Move := ⟨0, target, 0⟩
  if (pushFails 2 m s).isEmpty then enqueueMove 2 m s else refusePush 2 (pushFails 2 m s) s

/-- The distance of a seek in tracks (R248), by the address table of the image. -/
def seekTracks (l adu : Nat) (s : State) : Int :=
  Config.addressTrack (opticsSection s) l adu - Config.addressTrack (opticsSection s) (curLayer s) (get Reg.OSV_ADDR.ADU s)

/-- The sled moves first where a seek's distance is beyond LENS_MAX (R248). -/
def moveSled (l adu : Nat) (s : State) : State :=
  let d := seekTracks l adu s
  if get Reg.OSV_SEEK_CFG.LENS_MAX s < d.natAbs then
    pushSled ((pushBase 2 s).1 + Config.sledSteps (opticsSection s) d) s
  else s

/-- A track seek starts (R248): the addresses read until now no longer count. -/
def startTrackSeek (l adu : Nat) (s : State) : State :=
  let t := moveSled l adu (osvGo 7 s)
  put Reg.OSV_ADDR.VALID 0 (setOsv { t.osv with corr := 0 } t)

/-- The address lies from 0 to LOOKAHEAD units before the target (R249). -/
def atTarget (adu : Nat) (s : State) : Bool :=
  let a := get Reg.OSV_ADDR.ADU s
  decide (a ≤ adu) && decide (adu ≤ a + get Reg.OSV_SEEK_CFG.LOOKAHEAD s)

/-- The motion toward a target from FOLLOW (R241): to its layer, then to its address; the command completes at the target. -/
def toward (l adu : Nat) (s : State) : State :=
  if l ≠ curLayer s then
    (if 2 ≤ s.osv.jumpTry then
       let t := osvGo 8 (put Reg.OSV_FAULT.JUMP 1 s)
       setOsv { t.osv with target := none, jumpTry := 0 } t
     else startJump l s)
  else if atTarget adu s then osvComplete (setOsv { s.osv with target := none, jumpTry := 0, seekTry := 0 } s)
  else startTrackSeek l adu s

/-- A SEEK is taken in FOLLOW (R247, R252): the permit falls soft; its motion waits for a cluster being written (R281). -/
def takeTarget (l adu : Nat) (s : State) : State :=
  let t := opticalFall false s
  let u := setOsv { t.osv with target := some (l, adu), jumpTry := 0, seekTry := 0, corr := 0 } t
  if get Reg.OCH_STAT.WRITING u = 1 then setOsv { u.osv with waits := true } u else toward l adu u

/-- FOLLOW is reached (R241, R247): the held SEEK is taken, or the motion goes on to the target; a mount is complete on layer 0. Log entry 166 (DEDUCED). -/
def arrived (s : State) : State :=
  let t := osvGo 5 s
  let u := setOsv { t.osv with recovers := 0 } t
  let v := if u.osv.mounting then osvComplete (setOsv { u.osv with mounting := false, badMounts := 0 } u) else u
  match v.osv.held with
  | some q =>
    let w := match v.osv.target with
      | some p => if p.1 = curLayer v ∧ atTarget p.2 v then osvComplete v else v
      | none => v
    takeTarget q.1 q.2 (put Reg.OSV_CMD.HELD 0 (setOsv { w.osv with held := none } w))
  | none => match v.osv.target with
    | some q => toward q.1 q.2 v
    | none => v

/-- Calibration kind 7 becomes due at each mount (R477, R480), while it is tracked. Log entry 283 (DEDUCED). -/
def mountDue (s : State) : State :=
  if get Reg.CAL_CTL.EN s = 1 ∧ get (Reg.CAL_KIND_CFG.EN 7) s = 1 ∧ bit Reg.CAL_DUE.DUE 7 s = false then
    raisePost 896 0 [7] (putBit Reg.CAL_DUE.DUE 7 true { s with cal := { s.cal with dueAt := AMap.insert 7 (lifeSec s) s.cal.dueAt } })
  else s

/-- OSV_MOUNT: taken in IDLE only (R257). Log entry 283 (DEDUCED). -/
def execOsvMount (s : State) : Out :=
  let t := puts [(Reg.OSV_CMD.OP, 1), (Reg.OSV_CMD.GO, 0)] s
  .next
    (if osvState s = 0 then
       let u := osvGo 1 (puts [(Reg.OSV_STAT.PARKED, 0), (Reg.OSV_STAT.LTBL, 0), (Reg.OSV_ADDR.VALID, 0), (Reg.OCH_NEXT.VALID, 0),
         (Reg.OCH_STAT.READY, 0), (Reg.OCH_DISC.VOIDS, 0)] t)
       mountDue { u with osv := { u.osv with mounting := true, recovers := 0, target := none, held := none }
                         och := { u.och with opc := [], recorded := false, copy := none, copies := [], lastDir := 0, record := [], badCopy := false, fly := 0, noSync := false, found := none } }
     else put Reg.OSV_CMD.REFUSED 1 t)

/-- A SEEK is refused (R240, R257): in IDLE, PARKING and FAULT, and beyond the calibration zone before the table is filled. -/
def seekRefused (l adu : Nat) (s : State) : Bool :=
  let st := osvState s
  st == 0 || st == 9 || st == 10 || (get Reg.OSV_STAT.LTBL s == 0 && !(l == 0 && decide (adu < 4096)))

/-- OSV_SEEK: to OSV_TARGET: taken in FOLLOW, held one deep elsewhere, or refused (R247). -/
def execOsvSeek (s : State) : Out :=
  let l := get Reg.OSV_TARGET.LAYER s
  let a := get Reg.OSV_TARGET.ADU s
  let t := puts [(Reg.OSV_CMD.OP, 2), (Reg.OSV_CMD.GO, 0)] s
  .next
    (if seekRefused l a s then put Reg.OSV_CMD.REFUSED 1 t
     else if osvState s = 5 ∧ s.osv.target = none then takeTarget l a t
     else put Reg.OSV_CMD.HELD 1 (setOsv { t.osv with held := some (l, a) } t))

/-- The PARK motion (R258): PARKING with the jump or seek ended, and the sled sent to position 0 (R308). -/
def startPark (s : State) : State :=
  let t := pushSled 0 (osvGo 9 s)
  setOsv { t.osv with target := none, waits := false, parking := true, spinAgain := false, mounting := false } t

/-- OSV_PARK: taken in states 1 to 8 (R241, R247); the motion waits for a cluster being written (R281). A PARKING that the disc spindle brought
about stays one, and no SPINUP follows it. -/
def execOsvPark (s : State) : Out :=
  let t := puts [(Reg.OSV_CMD.OP, 3), (Reg.OSV_CMD.GO, 0)] s
  let st := osvState s
  .next
    (if 1 ≤ st ∧ st ≤ 8 then
       (let u := opticalFall false t
        let v := setOsv { u.osv with parking := true, held := none } (put Reg.OSV_CMD.HELD 0 u)
        if get Reg.OCH_STAT.WRITING v = 1 then setOsv { v.osv with waits := true } v else startPark v)
     else if st = 9 ∧ s.osv.parking = false then
       (let u := pushSled 0 t
        setOsv { u.osv with parking := true, spinAgain := false, mounting := false, target := none, held := none } (put Reg.OSV_CMD.HELD 0 u))
     else t)

/-- OSV_CLR: leaves FAULT for IDLE (R241). -/
def execOsvClr (s : State) : Out :=
  let t := puts [(Reg.OSV_CMD.OP, 4), (Reg.OSV_CMD.GO, 0)] s
  .next (if osvState s = 10 then osvComplete (osvGo 0 t) else t)

/-! ### Servo frames -/

/-- The magnitude of a sub-sample is within a limit in 1/256 of full scale. -/
def within256 (x : Int) (lim : Nat) : Bool := decide (x.natAbs ≤ 128 * lim)

/-- A sub-sample meets the write thresholds (R252). -/
def meetsWrite (fe te sum : Int) (s : State) : Bool :=
  within256 te (get Reg.OSV_WR_CFG.WR_TE s) && within256 fe (get Reg.OSV_WR_CFG.WR_FE s)
  && decide ((get Reg.OSV_WR_CFG.WR_SUM s * nominalSum s : Nat) ≤ 512 * sum)

/-- Some sub-sample's SUM is below WR_SUM of nominal: the defect flag (R235). -/
def defect (sum : List Int) (s : State) : Bool :=
  sum.any (fun x => decide (512 * x < (get Reg.OSV_WR_CFG.WR_SUM s * nominalSum s : Nat)))

/-- A field of OSV_PULL_CFG or OSV_SWEEP_CFG: written 0 it is taken as its default (R243). -/
def orDefault (f : Fld) (s : State) : Nat := if get f s = 0 then f.rst else get f s

/-- The fields of OSV_PULL_CFG and OSV_SWEEP_CFG (R242, R243), as they apply from the next tempo. -/
def pullNow (s : State) : List Nat :=
  [Reg.OSV_PULL_CFG.FE_SETTLE, Reg.OSV_PULL_CFG.TE_PULL, Reg.OSV_PULL_CFG.FE_LOSS, Reg.OSV_PULL_CFG.TE_LOSS, Reg.OSV_SWEEP_CFG.SWEEP_I].map (fun f => orDefault f s)

/-- The sum of a list. -/
def sumOf (l : List Int) : Int := l.foldl (· + ·) 0

/-- The S-curve that the sub-samples pass (R235, R242): the sign of the lobe, the SUM peak since the last zero crossing, the highest peak of a crossing between opposite lobes, and the crossings
counted while SUM is at least SUM_MIN, toward the disc where FE goes from the positive to the negative lobe. -/
structure Lobe where
  sign  : Int
  peak  : Int
  curve : Option Int
  count : Int

/-- One sub-sample more. Log entry 250 (DESIGN CHOICE). -/
def lobeStep (min' : Int) (l : Lobe) (q : Int × Int) : Lobe :=
  let g := Int.sign q.1
  let p := max l.peak q.2
  if g = 0 ∨ g = l.sign then { l with peak := p }
  else if l.sign = 0 then { l with sign := g, peak := p }
  else { sign := g, peak := q.2, curve := some (max p (l.curve.getD p)), count := if min' ≤ q.2 then l.count + l.sign else l.count }

/-- The sub-samples of a tempo. Log entry 250 (DESIGN CHOICE). -/
def lobes (fe sum : List Int) (s : State) : Lobe :=
  (List.zip fe sum).foldl (lobeStep (128 * get Reg.OSV_FOCUS_CFG.SUM_MIN s)) ⟨s.osv.feSign, s.osv.peak, none, 0⟩

/-- The slots that a good servo frame forms (R235): means of 16 sub-samples as signals, crossings, the defect flag. -/
def feedServo (fe te sum : List Int) (tracks layers : Int) (s : State) : State :=
  [(8, sumOf fe * 2 ^ 12), (9, sumOf te * 2 ^ 12), (10, sumOf sum * 2 ^ 12), (11, tracks), (12, layers),
   (13, if defect sum s then (2 : Int) ^ 30 else 0)].foldl (fun t p => arrive 3 p.1 p.2 t) s

/-- The spacing in nm of a jump's leg j, between its crossings j and j + 1 (R246), from the layer table. -/
def legNm (j : Nat) (s : State) : Nat :=
  let r := s.osv
  layerNat (if r.jumpFrom < r.jumpTo then r.jumpFrom + j + 1 else r.jumpFrom - j) 8 2 s

/-- A jump's count and velocity after the crossings of a tempo (R246): those in the wrong direction are subtracted; the interval since the last gives the velocity. Log entry 252 (DESIGN CHOICE). -/
def jumpCross (layers : Int) (s : State) : OsvSt :=
  let r := s.osv
  let d := if r.jumpFrom < r.jumpTo then layers else -layers
  if osvState s ≠ 6 ∨ d = 0 then r
  else { r with crossed := r.crossed + d, jumpSince := 0
                jumpV := if 0 < d ∧ 1 ≤ r.crossed ∧ !r.brake then 1000 * legNm r.crossed.toNat s / max 1 r.jumpSince else r.jumpV }

/-- The rows of consecutive tempos after a good frame (R241, R243, R245, R253), from the means in 1/16 of a sub-sample unit. -/
def servoRows (fe te sum : Int) (ok : Bool) (l : Lobe) (s : State) : OsvSt :=
  let r := jumpCross l.count s
  let lim (i : Nat) : Nat := 2048 * r.pull.getD i 0
  let low := decide (8 * sum * 2 < (4 * nominalSum s * 8 : Nat))
  let good := r.goodRow + 1
  let blind := r.blind && decide (good < 8)
  { r with missRow := 0, goodRow := good, seen := true, blind := blind, tempos := if r.blind && !blind then 0 else r.tempos
           feRow := row (decide (fe.natAbs ≤ lim 0)) r.feRow, teRow := row (decide (te.natAbs ≤ lim 1)) r.teRow
           sumLow := row low r.sumLow, feHigh := row (decide (lim 2 < fe.natAbs)) r.feHigh
           teHigh := row (decide (lim 3 < te.natAbs)) r.teHigh
           permRow := row ok r.permRow, feSign := l.sign, peak := l.peak, curve := l.curve }

/-- The blocks of a return frame of the optical link (R289, R290): RHDR, 16 SERVO blocks, FAULTS and CRC; blocks of other types are ignored. Log entry 251 (DEDUCED). -/
def servoBlocks (blocks : List Nat) : List Nat := blocks.filter (fun b => [0x2D, 0x71, 0x66, 0x3C].contains (b % 256))

/-- Such a frame is good: its blocks in order, the sub-samples by their index, and the CRC over them. Log entry 251 (DEDUCED). -/
def servoGood (f : List Nat) : Bool :=
  f.map (· % 256) == [0x2D] ++ List.replicate 16 0x71 ++ [0x66, 0x3C] && (List.range 16).all (fun i => bits (f.getD (i + 1) 0) 8 4 == i)
  && f.getD 18 0 == blkCrc (f.take 18)

/-- A signal of the 16 SERVO blocks, from a bit on. -/
def servoSignal (f : List Nat) (lo : Nat) : List Int := (List.range 16).map (fun i => toInt 16 (bits (f.getD (i + 1) 0) lo 16))

/-- SERVO_FRAME: the blocks that arrive of the optical return frame (R235, R290), with the track crossings that OLK finds in its sub-samples. A late one
counts in LATE, a bad one in BAD; a good one forms CE3's slots, and a sub-sample beyond the write thresholds drops the permit
hard (R252). Log entry 251 (DEDUCED). -/
def execServoFrame (blocks : List Nat) (tracks : Int) (late : Bool) (s : State) : Out :=
  let o := s.olk
  let f := servoBlocks blocks
  let fe := servoSignal f 12
  let te := servoSignal f 28
  let sum := servoSignal f 44
  let l := lobes fe sum s
  let ok := (List.range 16).all (fun i => meetsWrite (fe.getD i 0) (te.getD i 0) (sum.getD i 0) s)
  let s1 := feedServo fe te sum tracks l.count { s with olk := { o with frame := some [bits (f.getD 0 0) 8 8, bits (f.getD 17 0) 8 24] } }
  let s2 := setOsv (servoRows (sumOf fe) (sumOf te) (sumOf sum) ok l s1) s1
  occurs (get Reg.OLK_CTL.EN s = 1)
    (if late then arriveLate 3 (bump Reg.OLK_FRAMES.LATE { s with olk := { o with owed := false } })
     else if !servoGood f then bump Reg.OLK_FRAMES.BAD { s with olk := { o with bad := true } }
     else if ok then s2 else pathFall true true s2) s

/-- SERVO_FRAMES_MISSING: 3 missing frames drop the permit hard and set LINK; BLIND_T of them zero focus, tracking and laser, and the state
is RECOVER (R236). -/
def execServoFramesMissing (s : State) : Out :=
  let n := s.osv.missRow
  let st := osvState s
  let t := opticalFall true (put Reg.OSV_FAULT.LINK 1 s)
  let blind := decide (get Reg.OSV_FOCUS_CFG.BLIND_T s ≤ n) && decide (2 ≤ st) && decide (st ≤ 8) && !s.osv.blind
  occurs (3 ≤ n ∧ (get Reg.OSV_FAULT.LINK s = 0 ∨ get Reg.OSV_STAT.PERMIT s = 1 ∨ blind = true))
    (if blind then
       let u := if st = 8 then t else osvGo 8 t
       setOsv { u.osv with blind := true } u
     else t) s

/-! ### Focus and tracking -/

/-- S_CURVE_CAPTURE: the sub-samples of the tempo pass a zero crossing between opposite lobes with a SUM peak of at least SUM_MIN, in SEARCH or
RECOVER (R241, R242). The first capture of a sweep is layer 0. Log entry 250 (DESIGN CHOICE). -/
def execSCurveCapture (s : State) : Out :=
  let st := osvState s
  occurs ((st = 2 ∨ (st = 8 ∧ s.osv.blind = false)) ∧ (match s.osv.curve with | none => false | some p => decide ((128 * get Reg.OSV_FOCUS_CFG.SUM_MIN s : Nat) ≤ p)) = true)
    (let t := osvGo 3 (putIf (st = 2) Reg.OSV_STAT.LAYER 0 s)
     setOsv { t.osv with swept := decide (st = 2) || t.osv.swept } t) s

/-- The tempos of a sweep: SWEEP_MS in SEARCH, one tenth of it in RECOVER (R242, R245). -/
def sweepTempos (s : State) : Nat := max 1 (get Reg.OSV_FOCUS_CFG.SWEEP_MS s * (if osvState s = 8 then 20 else 200))

/-- SWEEPS_EXHAUSTED: SWEEPS sweeps without capture (R241). -/
def execSweepsExhausted (s : State) : Out :=
  occurs (osvState s = 2 ∧ get Reg.OSV_FOCUS_CFG.SWEEPS s ≤ s.osv.tempos / sweepTempos s) (osvGo 10 (put Reg.OSV_FAULT.NOFOCUS 1 s)) s

/-- FOCUS_SETTLED: |FE| within FE_SETTLE for 64 tempos (R243). -/
def execFocusSettled (s : State) : Out := occurs (osvState s = 3 ∧ 64 ≤ s.osv.feRow) (osvGo 4 s) s

/-- TRACK_PULLED: |TE| within TE_PULL for 64 tempos and 2 consecutive good addresses (R243). -/
def execTrackPulled (s : State) : Out := occurs (osvState s = 4 ∧ 64 ≤ s.osv.teRow ∧ 2 ≤ s.osv.addrRow) (arrived s) s

/-- FOCUS_LOSS: low SUM or high FE for LOSS_N tempos (R245). Log entry 166 (DEDUCED). -/
def execFocusLoss (s : State) : Out :=
  let st := osvState s
  let n := get Reg.OSV_FOCUS_CFG.LOSS_N s
  occurs (3 ≤ st ∧ st ≤ 7 ∧ (n ≤ s.osv.sumLow ∨ n ≤ s.osv.feHigh))
    (osvGo 8 (linePost 321 Reg.OSV_FAULT.FOCUS 1 0 [] (bump Reg.OSV_CNT.LOSSES (opticalFall true s)))) s

/-- TRACKING_LOSS: high TE for LOSS_N tempos, or 2 addresses off the prediction (R245). -/
def execTrackingLoss (s : State) : Out :=
  let st := osvState s
  occurs (4 ≤ st ∧ st ≤ 7 ∧ (get Reg.OSV_FOCUS_CFG.LOSS_N s ≤ s.osv.teHigh ∨ 2 ≤ s.osv.addrOff))
    (osvGo 4 (linePost 321 Reg.OSV_FAULT.TRACK 1 0 [] (bump Reg.OSV_CNT.LOSSES (opticalFall true s)))) s

/-- RECOVER_SEARCH_FAIL: 3 failed local searches (R241): SEARCH, or FAULT at the second entry from RECOVER since the last FOLLOW. -/
def execRecoverSearchFail (s : State) : Out :=
  occurs (osvState s = 8 ∧ 3 ≤ s.osv.tempos / sweepTempos s ∧ s.osv.blind = false) (if 1 ≤ s.osv.recovers then osvGo 10 s
     else
       (let t := osvGo 2 s
        setOsv { t.osv with recovers := t.osv.recovers + 1 } t)) s

/-- PARKING_DONE: the lens at 0 for 20 tempos and axis S at park (R241, R258). -/
def execParkingDone (s : State) : Out :=
  occurs (osvState s = 9 ∧ 20 ≤ s.osv.zeroRow ∧ groupIdle 2 s = true ∧ microPos 3 s = 0 ∧ s.osv.spinAgain = false)
    (let t := osvGo 0 s
     osvComplete (put Reg.OSV_STAT.PARKED 1 (setOsv { t.osv with parking := false } t))) s

/-! ### Jumps and seeks under way -/

/-- The layers that a jump crosses. -/
def jumpLayers (r : OsvSt) : Nat := max r.jumpFrom r.jumpTo - min r.jumpFrom r.jumpTo

/-- A jump or seek fails: RECOVER (R260). Log entry 166 (DEDUCED). -/
def jumpFails (s : State) : State :=
  let t := osvGo 8 (put Reg.OSV_FAULT.JUMP 1 s)
  setOsv { t.osv with target := none, jumpTry := 0 } t

/-- The brake of a jump over n layers starts (R246): in the last leg once the remaining distance is at most v² ÷ (2 × acceleration), for one layer once half the spacing is covered. Log entry 252 (DESIGN CHOICE). -/
def brakeDue (s : State) : Bool :=
  let r := s.osv
  let n := jumpLayers r
  if n = 1 then decide (1000 * legNm 0 s ≤ r.jumpWay)
  else decide ((n : Int) ≤ r.crossed + 1)
    && decide (2 * Config.lensAccel (get Reg.OSV_LJ_CFG.KICK s) * (1000 * legNm (n - 1) s - r.jumpV * r.jumpSince) ≤ r.jumpV * r.jumpV)

/-- LAYER_JUMP: a jump's progress (R246): it starts from FOLLOW toward another layer, brakes with the target's corrector code (R244), closes
focus at the target's zero crossing, and fails where the count overshoots. Log entry 252 (DESIGN CHOICE). -/
def execLayerJump (s : State) : Out :=
  let r := s.osv
  let n := jumpLayers r
  .next
    (if osvState s = 5 ∧ r.waits = false then
       (match r.target with
        | some q => if q.1 ≠ curLayer s then toward q.1 q.2 s else s
        | none => s)
     else if osvState s = 6 then
       (if (n : Int) < r.crossed then jumpFails s
        else if r.crossed = n then osvGo 3 (put Reg.OSV_STAT.LAYER r.jumpTo s)
        else if r.brake = false ∧ brakeDue s = true then sendSa r.jumpTo (setOsv { r with brake := true, kick := 0 } s)
        else s)
     else s)

/-- TMO in tempos: units of 0.1 ms, or 1 ms and 0.5 ms per layer (R246). -/
def jumpTmo (s : State) : Nat :=
  if get Reg.OSV_LJ_CFG.TMO s = 0 then 200 + 100 * jumpLayers s.osv else 20 * get Reg.OSV_LJ_CFG.TMO s

/-- LAYER_JUMP_TIMEOUT: TMO has elapsed in LJUMP (R241, R246). -/
def execLayerJumpTimeout (s : State) : Out := occurs (osvState s = 6 ∧ jumpTmo s ≤ s.osv.jumpTime) (jumpFails s) s

/-- TRACK_SEEK_END: two good addresses at a seek's end, with the sled at rest (R248, R249): FOLLOW at the target, a correction, the seek again from TRACK_PULL once, or
its failure. Log entry 166 (DEDUCED). -/
def execTrackSeekEnd (s : State) : Out :=
  let r := s.osv
  match r.target with
  | none => .next s
  | some q =>
    occurs (osvState s = 7 ∧ 2 ≤ r.addrRow ∧ groupIdle 2 s = true)
      (if atTarget q.2 s then arrived s
       else if r.corr < get Reg.OSV_SEEK_CFG.CORR_MAX s then put Reg.OSV_ADDR.VALID 0 (setOsv { r with corr := r.corr + 1, addrRow := 0 } s)
       else if r.seekTry = 0 then
         (let t := osvGo 4 s
          setOsv { t.osv with seekTry := 1, corr := 0 } t)
       else
         (let t := osvGo 8 (linePost 324 Reg.OSV_FAULT.SEEK 1 0 [] s)
          setOsv { t.osv with target := none, seekTry := 0 } t)) s

/-! ### Wobble and addresses -/

/-- A wobble's phase error, in 1/256 degree, is within PHASE_TOL (R250). Log entry 255 (DEDUCED). -/
def wobbleIn (e : Int) (s : State) : Bool := decide (e.natAbs ≤ 256 * get Reg.OSV_WOB_CFG.PHASE_TOL s)

/-- WOBBLE_LOCK: 256 consecutive wobbles within PHASE_TOL (R250): `errs` are the last phase errors of the loop. Log entry 255 (DEDUCED). -/
def execWobbleLock (errs : List Int) (s : State) : Out :=
  occurs (get Reg.OSV_STAT.WOB_LOCK s = 0 ∧ 256 ≤ errs.length ∧ errs.all (fun e => wobbleIn e s) = true) (put Reg.OSV_STAT.WOB_LOCK 1 s) s

/-- WOBBLE_UNLOCK: 64 consecutive wobbles beyond it, or 4 address units of bad parity (R250): a soft fall, WOBBLE and line 5. Log entry 255 (DEDUCED). -/
def execWobbleUnlock (errs : List Int) (s : State) : Out :=
  occurs (get Reg.OSV_STAT.WOB_LOCK s = 1 ∧ ((64 ≤ errs.length ∧ errs.all (fun e => !wobbleIn e s) = true) ∨ 4 ≤ s.osv.badRow))
    (linePost 325 Reg.OSV_FAULT.WOBBLE 1 0 [] (opticalFall false (put Reg.OSV_STAT.WOB_LOCK 0 s))) s

/-- The parity of an address unit (R251): bit k is the even parity of every third bit from 3 + k on, up to bit 30. -/
def unitParity (w : Nat) : Bool :=
  (List.range 3).all (fun k =>
    ((List.range 28).filter (fun i => i % 3 == k)).foldl (fun p i => xor p (w.testBit (3 + i))) (w.testBit k) == false)

/-- The address that the next unit should carry. -/
def predictedAdu (s : State) : Nat := get Reg.OSV_ADDR.ADU s + 1 + s.osv.badRow

/-- ADDRESS_UNIT_DECODE: the 31 bits of an address unit (R251). A good one is OSV_ADDR and gives the layer; the first after a sweep's
capture is recorded where its layer is not 0 (R242). -/
def execAddressUnitDecode (bits31 : Nat) (s : State) : Out :=
  let l := bits bits31 27 4
  let a := bits bits31 3 24
  let r := s.osv
  let free := get Reg.OSV_ADDR.VALID s = 0 ∨ osvState s = 4
  let near := decide (((a : Int) - (predictedAdu s : Int)).natAbs ≤ 2)
  .next
    (if !unitParity bits31 then setOsv { r with badRow := r.badRow + 1, addrRow := 0 } s
     else
       let t := if near = true ∨ (free ∧ r.addrRow = 0) then
           puts [(Reg.OSV_ADDR.ADU, a), (Reg.OSV_ADDR.LAYER, l), (Reg.OSV_ADDR.VALID, 1), (Reg.OSV_STAT.LAYER, l)]
             (setOsv { r with badRow := 0, addrRow := r.addrRow + 1, addrOff := 0, swept := false } s)
         else setOsv { r with badRow := 0, addrRow := 0, addrOff := r.addrOff + 1 } s
       if r.swept ∧ t.osv.swept = false ∧ l ≠ 0 then postReg Reg.OSV_ADDR.LAYER 0 t else t)

/-! ### The layer table at a mount -/

/-- An entry as the table takes it (R239, R240): VALID, and COLD where it comes from a calibration. -/
def tableEntry (cold : Bool) (e : List Nat) : List Nat :=
  (e ++ List.replicate 15 0).take 15 ++ [if cold then 3 else 1] ++ ((e.drop 16) ++ List.replicate 16 0).take 16

/-- LAYER_TABLE_FILL: at a mount the table is filled from the calibration zone's last record, or calibrated cold (R240): `entries` are the
32 bytes of each layer. -/
def execLayerTableFill (cold : Bool) (entries : List (List Nat)) (s : State) : Out :=
  let t := (List.range entries.length).foldl (fun u l => memWrite (layerAddr l u) (tableEntry cold (entries.getD l [])) u) s
  occurs (osvState s = 5 ∧ get Reg.OSV_STAT.LTBL s = 0 ∧ layerCount s ≤ entries.length ∧ entries.length ≤ 16)
    { put Reg.OSV_STAT.LTBL 1 t with och := { t.och with record := if cold then [] else entries } } s

end Sys2Proof.Machine
end

