-- ==== Sys2Proof/Machine/Disc.lean ====
section
/-! DEFINITION. 09_optical_servo.md, the disc spindle (R254 to R256), what OSV adds to the frames of stage link 1 (R237, R241) and its share of
a tempo. -/

namespace Sys2Proof.Machine

/-- The disc's speed is below some percent of TARGET. -/
def discBelow (pct : Nat) (s : State) : Bool := decide (get Reg.OSV_DSTAT.SPEED s * 100 < pct * get Reg.OSV_DSPIN.TARGET s)

def setDisc (r : DiscSt) (s : State) : State := setOsv { s.osv with disc := r } s

/-- What a change of the disc spindle brings about in OSV (R241, R260): PARKING and then SPINUP again where it leaves ACCEL or RUN for a
state other than REACQ, SEARCH once it runs, FAULT with it. -/
def osvOnDisc (old new : Nat) (s : State) : State :=
  let st := osvState s
  if new = 12 then (if 1 ≤ st ∧ st ≤ 9 then osvGo 10 s else s)
  else if new = 7 ∧ st = 1 then osvGo 2 s
  else if new = 7 ∧ st = 9 ∧ s.osv.spinAgain = true then
    (let t := osvGo 2 (osvGo 1 s)
     setOsv { t.osv with spinAgain := false } t)
  else if (old = 6 ∨ old = 7 ∨ old = 8) ∧ new ≠ 6 ∧ new ≠ 7 ∧ new ≠ 8 ∧ 2 ≤ st ∧ st ≤ 8 then
    (let t := osvGo 9 s
     setOsv { t.osv with spinAgain := !t.osv.parking, waits := false } t)
  else s

/-- What a state of the disc spindle begins with (R254, R256): its counts at 0; the open-loop angle at the align vector; the profile of a rotor that is caught, has converged or is
reacquired at its speed. Log entry 256 (DEDUCED). -/
def discEnter (old new now rpm : Nat) (r : DiscSt) : DiscSt :=
  let q := { r with tempos := 0, agreeRow := 0, bandRow := 0, lowRow := 0, backRow := 0, phaseRow := 0, crossRow := 0, crossing := none, reAngles := [], window := 0
                    vmot := if new = 9 then r.vmot else 0, startAt := if new = 1 ∨ (old = 9 ∧ new = 6) then now else r.startAt, lossAt := if new = 8 then now else r.lossAt }
  if new = 4 then { q with openV := 0, openAngle := 800000000000 * r.vector }
  else if new = 6 ∧ old ≠ 9 then { q with profile := 200000 * (rpm : Int) }
  else q

/-- The disc spindle goes to a state (R254); FAULT raises line 3. Log entry 69 (DEDUCED). -/
def discGo (new : Nat) (s : State) : State :=
  let old := discState s
  let t := setDisc (discEnter old new (tmpCount s) (get Reg.OSV_DSTAT.SPEED s) s.osv.disc) (put Reg.OSV_DSTAT.STATE new s)
  osvOnDisc old new (if new = 12 then raisePost 323 0 [old] t else t)

/-- A start has failed (R255): a retry is pending while ATTEMPTS is below 3, and the state goes on to `new`; FAULT otherwise. -/
def startFails (new : Nat) (s : State) : State :=
  if get Reg.OSV_DSTAT.ATTEMPTS s < 3 then discGo new (setDisc { s.osv.disc with retry := true } s)
  else discGo 12 (setDisc { s.osv.disc with retry := false } s)

/-- DISC_START_COMMAND: OSV sets the disc target non-zero in SPINUP (R241, R254): MEASURE from STOPPED and COAST, ACCEL from BRAKE. Log entry 167 (DEDUCED). -/
def execDiscStartCommand (s : State) : Out :=
  let st := discState s
  let t := setDisc { s.osv.disc with target := get Reg.OSV_DSPIN.TARGET s } s
  occurs (osvState s = 1 ∧ (s.osv.disc.target = 0 ∨ st = 0 ∨ st = 13) ∧ get Reg.OSV_DSPIN.TARGET s ≠ 0)
    (if st = 0 ∨ st = 13 then discGo 1 t else if st = 9 then discGo 6 t else if st = 7 then osvGo 2 t else t) s

/-- DISC_STOP_COMMAND: OSV sets the disc target to 0 on a PARK (R254, R258): SHORT from ALIGN, RAMP and HANDOVER, BRAKE from ACCEL and RUN. -/
def execDiscStopCommand (s : State) : Out :=
  let st := discState s
  let t := setDisc { s.osv.disc with target := 0 } s
  occurs ((osvState s = 9 ∧ s.osv.parking = true ∨ osvState s = 0) ∧ (s.osv.disc.target ≠ 0 ∨ (3 ≤ st ∧ st ≤ 7)))
    (if 3 ≤ st ∧ st ≤ 5 then discGo 10 t else if st = 6 ∨ st = 7 then discGo 9 t else t) s

/-- The observer has lost the rotor (R108, R254). -/
def discLost (s : State) : Bool := decide (3 ≤ s.osv.disc.phaseRow) || decide (2 ≤ s.osv.disc.crossRow)

/-- The rotor is reacquired within 20 ms of the loss (R110, R254). -/
def discBack (s : State) : Bool := decide (4 ≤ s.osv.disc.reAngles.length) && decide (tmpCount s ≤ s.osv.disc.lossAt + 4000)

/-- The rotor turns backward above 2 % for 20 consecutive tempos in RAMP or HANDOVER (R254). -/
def turnsBack (s : State) : Bool := decide (20 ≤ s.osv.disc.backRow)

/-- The next state by R254, in the order of its rows, of a state whose condition is met. -/
def discNext (s : State) : Option Nat :=
  let r := s.osv.disc
  match discState s with
  | 13 => if 200000 ≤ r.lowRow then some 0 else none
  | 1 => if r.tempos < 800 then none
         else if !r.backward ∧ discBelow 10 s = false then some 6
         else if r.backward ∧ discBelow 1 s = false then some 2
         else some 3
  | 2 => if discBelow 1 s then some 3 else none
  | 3 => if 200 * get Reg.OSV_DSTART.ALIGN_MS s ≤ r.tempos then some 4 else none
  | 4 => if 200000 * get Reg.OSV_DRAMP.HANDOVER s ≤ r.openV then some 5 else none
  | 5 => if !turnsBack s ∧ 64 ≤ r.agreeRow then some 6 else none
  | 6 => if 20000 ≤ r.bandRow then some 7 else if discLost s ∧ tmpCount s < r.startAt + 2000000 then some 8 else none
  | 7 => if discLost s then some 8 else none
  | 8 => if discBack s then some 6 else none
  | 9 => if discBelow 10 s then some 10 else none
  | 10 => if 40000 ≤ r.lowRow then some (if r.retry then 11 else 0) else none
  | _ => none

/-- DISC_SPINDLE_TRANSITION: a condition of R254 is met; an observer loss drops the permit hard (R260) at the output write, and a rotor reacquired is driven at the last angle that agreed. -/
def execDiscSpindleTransition (s : State) : Out :=
  .next
    (match discNext s with
     | none => s
     | some n =>
       let t := discGo n (putIf (discState s = 1) Reg.OSV_DSTAT.REVERSE (b2n s.osv.disc.backward) s)
       if discState s = 8 then setDisc { t.osv.disc with angle := s.osv.disc.reAngles.headD 0 } t else t)

/-- DISC_START_FAIL: a start fails (R254, R255): the rotor turns backward above 2 % for 20 tempos in RAMP or HANDOVER, the ramp passes 1.5
times the handover speed, 10 s pass in ACCEL, or 20 ms in REACQ. Log entry 69 (DEDUCED). -/
def execDiscStartFail (s : State) : Out :=
  let st := discState s
  let r := s.osv.disc
  .next
    (if (st = 4 ∧ discNext s = none ∨ st = 5) ∧ turnsBack s = true then startFails 10 s
     else if st = 5 ∧ r.agreeRow < 64 ∧ 3 * 200000 * get Reg.OSV_DRAMP.HANDOVER s ≤ 2 * r.openV then startFails 10 s
     else if st = 6 ∧ r.bandRow < 20000 ∧ r.startAt + 2000000 ≤ tmpCount s then startFails 9 s
     else if st = 8 ∧ discBack s = false ∧ r.lossAt + 4000 ≤ tmpCount s then startFails 10 s
     else s)

/-- DISC_RETRY_WAIT_END: 500 ms in RETRY_WAIT (R254, R255): the next attempt, its first vector 120 degrees forward. -/
def execDiscRetryWaitEnd (s : State) : Out :=
  occurs (discState s = 11 ∧ 100000 ≤ s.osv.disc.tempos)
    (discGo 1 (bumpSat Reg.OSV_DSTAT.ATTEMPTS (setDisc { s.osv.disc with retry := false, vector := (s.osv.disc.vector + 1) % 3 } s))) s

/-- DISC_CLR: OSV_DSPIN.CLR leaves FAULT and clears ATTEMPTS (R254, R255). -/
def execDiscClr (s : State) : Out :=
  let t := put Reg.OSV_DSTAT.ATTEMPTS 0 s
  .next (if discState s = 12 then discGo 0 (setDisc { t.osv.disc with target := 0 } t) else t)

/-- DISC_TARGET_WRITE: a speed from 1,000 to 12,000 rpm is taken, another is ignored with an event. -/
def execDiscTargetWrite (rpm : Nat) (s : State) : Out :=
  let v := bits rpm 0 14
  .next (if 1000 ≤ v ∧ v ≤ 12000 then put Reg.OSV_DSPIN.TARGET v s else postReg Reg.OSV_DSPIN.TARGET 0 s)

/-- DISC_ATTEMPTS_CLEAR: 10 s in RUN (R255). -/
def execDiscAttemptsClear (s : State) : Out :=
  occurs (discState s = 7 ∧ 2000000 ≤ s.osv.disc.tempos) (put Reg.OSV_DSTAT.ATTEMPTS 0 s) s

/-! ### Stage link 1 -/

/-- OSV and the disc on a stage-1 safe state or a link fault (R241, R260). -/
def osvStageFault (s : State) : State :=
  if 1 ≤ osvState s ∧ osvState s ≤ 9 then osvGo 10 (put Reg.OSV_FAULT.STAGE 1 s) else s

/-- The disc spindle's VMOT rule while braking (R256): BRAKE_REQ as in R115, with a margin of 300 mV. -/
def discVmot (v : Nat) (s : State) : State :=
  let c := vmotCeil s
  let r := s.osv.disc
  let n := r.vmot
  if discState s ≠ 9 then setDisc { r with vmot := 0 } s
  else if c ≤ v then put Reg.OSV_FAULT.VMOT 1 (setDisc { r with vmot := if n = 0 then 16 else max 1 (n - 1) } s)
  else if n ≤ 1 then setDisc { r with vmot := if v + 600 ≤ c then 0 else n } s
  else setDisc { r with vmot := n - 1 } s

/-- The electrical advance of the disc in a tempo, in 1/65,536 turn. -/
def discTurned (s : State) : Int :=
  let a := roundOpen ((Config.discPoles (opticsSection s) : Int) * get Reg.OSV_DSTAT.SPEED s * 65536) 12000000
  if s.osv.disc.backward then -a else a

/-- The open-loop angle in 1/65,536 turn (R254, R256). -/
def discOpen (r : DiscSt) : Int := roundOpen ((r.openAngle : Int) * 65536) 2400000000000

/-- The speed is within ±0.1 % of TARGET (R254). -/
def discInBand (s : State) : Bool :=
  decide (((get Reg.OSV_DSTAT.SPEED s : Int) - (get Reg.OSV_DSPIN.TARGET s : Int)).natAbs * 1000 ≤ get Reg.OSV_DSPIN.TARGET s)

/-- What OSV counts from tempo to tempo on the observer's outputs, by state, as SPN does (R108, R110, R254). Log entry 256 (DEDUCED). -/
def discObserved (propagated : Nat) (s : State) : DiscSt :=
  let r := s.osv.disc
  let st := discState s
  if st = 4 ∨ st = 5 then
    { r with backRow := row (r.backward && decide (2 * get Reg.OSV_DSPIN.TARGET s < 100 * get Reg.OSV_DSTAT.SPEED s)) r.backRow
             agreeRow := if st = 5 then row (withinDeg 15 ((r.angle : Int) - discOpen r)) r.agreeRow else 0 }
  else if st = 6 ∨ st = 7 then
    (let q := crossingStep propagated r.emf r.crossing r.crossRow
     { r with crossing := q.1, crossRow := q.2, phaseRow := row (!withinDeg 30 ((r.emfAngle : Int) - propagated)) r.phaseRow, bandRow := row (discInBand s) r.bandRow })
  else if st = 8 then
    (if r.window = 8 then { r with window := 1, reAngles := [r.emfAngle] } else { r with window := r.window + 1, reAngles := agreeing r.emfAngle (discTurned s) r.reAngles })
  else if st = 10 ∨ st = 13 then { r with lowRow := row (discBelow 1 s) r.lowRow }
  else r

/-- The back-EMF of the three phases from a frame of stage 1, with the currents of the frame before (R94, R254). Log entry 256 (DEDUCED). -/
def discEmfs (words : List Nat) (s : State) : List Int :=
  let v := threeWords words 6
  let i := threeWords words 3
  (List.range 3).map (fun k => Config.discEmf (opticsSection s) (v.getD k 0) (i.getD k 0) (s.osv.disc.amps.getD k (i.getD k 0)))

/-- The observer of the disc after a frame (R254): the back-EMF, and its speed in rpm, angle and direction, which the command brings. Log entry 256 (DEDUCED). -/
def discObserver (words : List Nat) (speed angle : Nat) (backward : Bool) (s : State) : State :=
  let e := discEmfs words s
  let p := (((s.osv.disc.angle : Int) + discTurned s) % 65536).toNat
  let t := put Reg.OSV_DSTAT.SPEED speed s
  let u := setDisc { t.osv.disc with emf := e, emfAngle := (Config.emfAngle (e.getD 0 0) (e.getD 1 0) (e.getD 2 0)).toNat, amps := threeWords words 3
                                     angle := angle % 65536, backward := backward } t
  setDisc (discObserved p u) u

/-- OSV's share of a good return frame of stage 1 (R254, R256, R260). -/
def osvReturn (words : List Nat) (speed angle : Nat) (backward safe : Bool) (s : State) : State :=
  let f := words.getD 2 0
  let t := discVmot (words.getD 1 0) (discObserver words speed angle backward s)
  let u := if (f.testBit 0 || f.testBit 5 || f.testBit 6) && decide (1 ≤ discState t) && decide (discState t ≤ 11) then discGo 12 t else t
  if safe then osvStageFault u else u

/-- OSV at the assertion of PFAIL_N (R259): IDLE, and COAST for the disc; the permit falls at the output write. -/
def osvPfail (s : State) : State :=
  let t := if 1 ≤ discState s ∧ discState s ≤ 11 then setDisc (discEnter (discState s) 13 (tmpCount s) 0 s.osv.disc) (put Reg.OSV_DSTAT.STATE 13 s) else s
  let u := setOsv { t.osv with disc := { t.osv.disc with target := 0, retry := false }, spinAgain := false } t
  if 1 ≤ osvState u ∧ osvState u ≤ 9 then
    (let v := postReg Reg.OSV_STAT.STATE 0 (put Reg.OSV_STAT.STATE 0 u)
     setOsv { freshRows v.osv with target := none, held := none, waits := false, parking := false, mounting := false } (put Reg.OSV_CMD.HELD 0 v))
  else u

/-- The disc phase states of w1 (R254): the align vector by the attempt. -/
def discPhase (ce3 : Nat) (s : State) : Nat :=
  let st := discState s
  if st = 6 ∨ st = 7 ∨ st = 9 then ce3
  else if st = 4 ∨ st = 5 then 63
  else if st = 3 then [41, 38, 26].getD s.osv.disc.vector 41
  else 0

def discBrake (s : State) : Bool := discState s == 2 || discState s == 10 || (discState s == 9 && decide (0 < s.osv.disc.vmot))

/-- The disc current limit (R237, R256): CE3's, ILIM, ALIGN_I while the rotor is aligned and ramped; in BRAKE scaled by (C − V) ÷ 300 mV while VMOT lies within that margin of the ceiling, as in
R115. -/
def discLimit (slot7 vmot : Nat) (s : State) : Nat :=
  let st := discState s
  let i := min slot7 (get Reg.OSV_DSPIN.ILIM s)
  let c := vmotCeil s
  if 3 ≤ st ∧ st ≤ 5 then min i (256 * get Reg.OSV_DSTART.ALIGN_I s)
  else if st = 9 ∧ c < vmot + 300 then (roundOpen ((i * (c - vmot) : Nat) : Int) 300).toNat else i

/-- A disc duty under the current limit (R237): scaled by L over I where the largest phase current I of the latest good frame exceeds L. Log entry 165 (DEDUCED). -/
def cappedDuty (duty slot7 : Nat) (ret : List Nat) (s : State) : Nat :=
  let l := discLimit slot7 (ret.getD 1 0) s
  let i := ([3, 4, 5].map (fun k => (toInt 16 (ret.getD k 0)).natAbs)).foldl max 0
  if l < i then duty * l / i else duty

/-- Whether OSV holds the focus and the tracking current at 0 (R236, R241, R259). -/
def focusOff (s : State) : Bool := osvState s == 0 || osvState s == 1 || osvState s == 10 || s.osv.blind
def trackingOff (s : State) : Bool := focusOff s || osvState s == 2 || osvState s == 6 || osvState s == 9

/-- The focus current of a sweep (R242, R245): from −A to +A over its tempos, about 0 in SEARCH, about the last focus current in RECOVER, where A is 1.5 layer distances. Log entry 253 (DESIGN CHOICE). -/
def sweepCurrent (s : State) : Int :=
  let r := s.osv
  let n := sweepTempos s
  let at' (a : Int) : Int := roundOpen (a * (2 * (r.tempos % n : Nat) - n)) n
  if osvState s = 2 then at' (128 * (r.pull.getD 4 0 : Nat)) else r.focusIn + at' (Config.lensCurrent (layerNat (max 1 (curLayer s)) 8 2 s * 3 / 2))

/-- The focus current that goes out (R236, R241, R242, R247): 0 where the loop is off, the sweep in SEARCH and RECOVER, a ramp to 0 over 20 tempos in PARKING, CE3's otherwise. Log entry 253 (DESIGN CHOICE). -/
def focusCurrent (ce3 : Int) (s : State) : Int :=
  let st := osvState s
  if focusOff s then 0
  else if st = 2 ∨ st = 8 then satTo 16 (sweepCurrent s)
  else if st = 9 then roundOpen (s.osv.focusIn * ((20 - s.osv.tempos : Nat) : Int)) 20
  else ce3

/-- The laser command of R289: 0 off, 1 read, 2 write. -/
def laser (s : State) : Nat :=
  let st := osvState s
  if st < 2 ∨ 8 < st ∨ s.osv.blind ∨ !s.pins.pfailN then 0 else if get Reg.OCH_STAT.WRITING s = 1 then 2 else 1

/-! ### OSV's share of a tempo -/

/-- The mode word of slot 14 (R235). -/
def discModeWord (s : State) : Nat :=
  let st := osvState s
  st + 16 * (((s.osv.target).map (·.1)).getD (curLayer s)) + 256 * b2n (decide (0 < s.osv.kick) && st == 6)
  + 512 * b2n (s.osv.brake && decide (0 < s.osv.jumpV) && st == 6) + 1024 * b2n (trackingOff s || st == 3 || st == 8) + 2048 * b2n (st == 4 || st == 5)

/-- The angle that commutates the disc (R254): the open-loop angle in RAMP and HANDOVER, the observer's otherwise. -/
def discDrive (s : State) : Nat :=
  if discState s = 4 ∨ discState s = 5 then (discOpen s.osv.disc % 65536).toNat else s.osv.disc.angle

/-- The slots that OSV gives CE3 in every tempo (R235): the mode word, the layer's focus offset, the disc observer's speed and angle. -/
def feedOsv (s : State) : State :=
  [(14, (discModeWord s : Int)), (15, toInt 16 (layerNat (curLayer s) 0 2 s) * 2 ^ 15), (16, (get Reg.OSV_DSTAT.SPEED s : Int) * 2 ^ 17),
   (17, toInt 32 (discDrive s * 65536))].foldl (fun t p => arrive 3 p.1 p.2 t) s

/-- Motion that waited for a cluster starts once none is being written (R281). -/
def resumeMotion (s : State) : State :=
  if s.osv.waits ∧ get Reg.OCH_STAT.WRITING s = 0 then
    let t := setOsv { s.osv with waits := false } s
    if t.osv.parking then startPark t
    else match t.osv.target with
      | some q => toward q.1 q.2 t
      | none => t
  else s

/-- The disc's share of a tempo (R254, R256): the time in the state, the open-loop ramp, the profile under ACC and DEC; a tempo without a frame breaks the rows on the observer. Log entry 256 (DEDUCED). -/
def discTempo (s : State) : DiscSt :=
  let r := { s.osv.disc with tempos := s.osv.disc.tempos + 1 }
  let st := discState s
  let goal : Int := if st = 9 then 0 else 200000 * r.target
  let up : Int := 10 * get Reg.OSV_DRAMP.ACC s
  let down : Int := 100 * get Reg.OSV_DRAMP.DEC s
  let q := if st = 4 ∨ st = 5 then
      (let v := r.openV + get Reg.OSV_DSTART.RAMP_ACC s
       { r with openV := v, openAngle := (r.openAngle + Config.discPoles (opticsSection s) * v) % 2400000000000 })
    else if st = 6 ∨ st = 7 ∨ st = 9 then { r with profile := if r.profile < goal then min goal (r.profile + up) else max goal (r.profile - down) } else r
  if get (Reg.STG_STAT.MISS 1) s = 0 then q else { q with amps := [], phaseRow := 0, bandRow := 0, lowRow := 0, agreeRow := 0, backRow := 0 }

/-- A jump's share of a tempo (R246): the kick and the brake at the acceleration of KICK, the coast between. Log entry 252 (DESIGN CHOICE). -/
def jumpTempo (s : State) : OsvSt :=
  let r := s.osv
  let a := Config.lensAccel (get Reg.OSV_LJ_CFG.KICK s)
  let q := { r with jumpTime := r.jumpTime + 1, jumpSince := r.jumpSince + 1, kick := r.kick - 1 }
  if 0 < r.kick then { q with jumpV := r.jumpV + a, jumpWay := r.jumpWay + 2 * r.jumpV + a }
  else if r.brake then { q with jumpV := r.jumpV - a }
  else { q with jumpWay := r.jumpWay + 2 * r.jumpV }

/-- What OSV counts from tempo to tempo: the focus current sent, the tracking output's low-pass, the rows of tempos. -/
def osvTempo (s : State) : OsvSt :=
  let r := if osvState s = 6 then jumpTempo s else s.osv
  let f := focusCurrent (toInt 16 (linkSigned (outSlot 3 0 s))) s
  let st := osvState s
  { r with seen := false, fellFast := false, fellSlow := false, missRow := if r.seen then 0 else r.missRow + 1, goodRow := if r.seen then r.goodRow else 0,
           permRow := if r.seen then r.permRow else 0, curve := none, tempos := r.tempos + 1, focus := f, pull := pullNow s
           sledLow := if st = 4 ∨ st = 5 then Config.sledFilter (outSlot 3 1 s) r.sledLow else 0
           zeroRow := if st = 9 then row (f == 0) r.zeroRow else r.zeroRow, disc := discTempo s }

/-- The optical servo at cycle 0. -/
def osvBoundary (s : State) : State :=
  let t := feedOsv s
  resumeMotion (if get Reg.OLK_CTL.EN s = 1 then setOsv (osvTempo t) t else setOsv { osvTempo t with missRow := 0 } t)

/-- The optical permit at the output write (R252): it falls hard where the disc has left RUN or PFAIL_N is low. Log entry 68 (DEDUCED). -/
def osvOutput (s : State) : State :=
  if discState s ≠ 7 ∨ !s.pins.pfailN then opticalFall true s else s

end Sys2Proof.Machine
end

