-- ==== Sys2Proof/Machine/OptLink.lean ====
section
/-! DEFINITION. 10_optical_channel.md, the optical link (R289 to R291), and what the three links share: the command frame (R172, R290), TICK and
the control channel (R179). Link 2 is the optical link. -/

namespace Sys2Proof.Machine

def setOlk (r : HlkSt) (s : State) : State := { s with olk := r }

/-! ### Frames -/

/-- CMD, STRAT and EDGE of the optical link (R289). Log entry 59 (DEDUCED). -/
def optCmd (lz pr sa mhz : Nat) : Nat := 0x33 + lz % 4 * 2 ^ 8 + pr % 65536 * 2 ^ 10 + sa % 65536 * 2 ^ 26 + mhz % 4096 * 2 ^ 42
def optStrat (pw pb tfp tmp tcl : Nat) : Nat :=
  0x36 + pw % 65536 * 2 ^ 8 + pb % 65536 * 2 ^ 24 + tfp % 256 * 2 ^ 40 + tmp % 256 * 2 ^ 48 + tcl % 256 * 2 ^ 56
def optEdge (shifts : Nat) : Nat := 0x39 + shifts % 2 ^ 36 * 2 ^ 8

/-- The command frame of R290, with the strategy of the current layer (R278, R279) at a channel rate in MHz. -/
def opticalFrame (mhz : Nat) (s : State) : List Nat :=
  let l := curLayer s
  let f := [blkChdr (seqNow s), optCmd (laser s) (layerNat l 20 2 s) s.osv.sa mhz,
    optStrat (layerNat l 16 2 s) (layerNat l 18 2 s) (layerNat l 22 1 s) (layerNat l 23 1 s) (layerNat l 24 1 s), optEdge (layerNat l 26 5 s)]
  f ++ [blkCrc f]

/-- The optical link can send. Log entry 60 (DESIGN CHOICE). -/
def optSends (s : State) : Bool := get Reg.OLK_CTL.EN s == 1 && get Reg.OLK_STAT.TX_UP s == 1

/-- HEAD_LINK_COMMAND_FRAME: the frame of a link leaves in each tempo from cycle 3,240 (R172, R290). On link 2, `p1` is the channel rate in
MHz (R262). Log entry 60 (DESIGN CHOICE). -/
def execHeadLinkCommandFrame (l p1 p2 : Nat) (s : State) : Out :=
  unit l 3
    (if l = 2 then occurs (optSends s = true) (sendBlocks 2 (opticalFrame p1 s) s) s
     else occurs (linkRuns l s = true ∧ get (Reg.HLK_STAT.TX_UP l) s = 1) (sendBlocks l (commandFrame l p1 p2 s) s) s)

/-- TICK: the block that marks the boundary, with the LANES block of a pending switch ahead of it (R172, R175). -/
def execTickBlock (l ofs : Nat) (s : State) : Out :=
  let lanes := match (hlkOf l s).switch with | none => [] | some q => [blkLanes q.1 q.2.1]
  unit l 3
    (if l = 2 then occurs (optSends s = true ∧ ofs ≤ 65) (sendBlocks 2 [blkTick (seqNow s + 1) ofs] s) s
     else occurs (linkRuns l s = true ∧ get (Reg.HLK_STAT.TX_UP l) s = 1 ∧ ofs ≤ 65)
       (sendBlocks l (lanes ++ [blkTick (seqNow s + 1) ofs]) s) s)

/-- The optical link at cycle 0 (R173, R290): the servo frame of the tempo is latched; a missing one counts in MISS, and in BAD once it can
no longer come late. -/
def olkBoundary (s : State) : State :=
  let r := s.olk
  let t := if r.owed then bump Reg.OLK_FRAMES.BAD s else s
  match r.frame with
  | some f =>
    put Reg.OLK_STAT.MISS 0 (setOlk { r with frame := none, latched := some f, echo := some (f.getD 0 0), owed := false, bad := false,
                                             echoRow := if r.echo = some (f.getD 0 0) then r.echoRow + 1 else 0 } t)
  | none =>
    if get Reg.OLK_STAT.UP s = 1 then bumpSat Reg.OLK_STAT.MISS (setOlk { r with latched := none, owed := !r.bad, bad := false } t)
    else setOlk { r with latched := none, owed := false, bad := false } t

/-! ### Training and faults -/

/-- OPTICAL_LINK_TRAINING: steps 1, 2, 4 and 5 of R174 (R290), each once the one before has its exit. It runs on enable, on RETRAIN, and after a fault up to 3
times within 1 s. Log entry 221 (DEDUCED). -/
def execOpticalLinkTraining (o : TrainObs) (s : State) : Out :=
  let r := s.olk
  let lock := o.locks.testBit 0
  let tx := lock && echoed o s
  let up := tx && framesAdvance o.seqs
  let u := puts [(Reg.OLK_STAT.RX_LOCK, b2n lock), (Reg.OLK_STAT.TX_UP, b2n tx), (Reg.OLK_STAT.UP, b2n up), (Reg.OLK_STAT.MISS, 0)] (setOlk (trained up r) s)
  let v := if r.faulted then bumpSat Reg.OLK_STAT.TRIES u else u
  let w := if tx then put Reg.OLK_DELAY.DELAY (linkDelay o) v else v
  occurs (get Reg.OLK_CTL.EN s = 1
      ∧ (r.retrain = true ∨ (get Reg.OLK_STAT.UP s = 0 ∧ r.faulted = false) ∨ mayRetrain r (get Reg.OLK_STAT.TRIES s) s = true))
    (sendBlocks 2 ([blkIdle] ++ (if lock then (tickSeqs s).map (fun q => blkTick q 0) else [])) w) s

/-- A job's result (OCH_RESULT): its slot's code, with DONE and line 0, where a command asked for it. -/
def ochResult (j : OchJob) (code : Nat) (s : State) : State :=
  if j.use = .command then linePost 352 (Reg.OCH_RESULT.DONE j.slot) 1 0 [j.slot, code] (put (Reg.OCH_RESULT.CODE j.slot) code s) else s

/-- OCH is idle. -/
def ochIdle (s : State) : State :=
  puts [(Reg.OCH_STAT.STATE, 0), (Reg.OCH_STAT.WRITING, 0)] { s with och := { s.och with job := none, kept := [] } }

/-- A read in progress is reported ABORTED (R291). -/
def abortRead (s : State) : State :=
  match s.och.job with
  | none => s
  | some j => if j.op = 1 ∨ j.op = 3 then ochResult j 5 (ochIdle s) else s

/-- OLINK_FAULT_N as it is seen: PIN, with line 2 as it goes low. -/
def seeOptPin (pinLow : Bool) (s : State) : State :=
  let t := put Reg.OLK_STAT.PIN (b2n pinLow) s
  if pinLow ∧ get Reg.OLK_STAT.PIN s = 0 then raisePost 386 0 [] t else t

/-- A fault of the optical link (R177, R291): a write is void, a read ABORTED, FAULT set with its line, and the link down until it trains. -/
def declareOptFault (s : State) : State :=
  let t := abortRead (voidJob s)
  linePost 384 Reg.OLK_STAT.FAULT 1 0 []
    (puts [(Reg.OLK_STAT.UP, 0), (Reg.OLK_STAT.TRIES, 0)] (setOlk { t.olk with faulted := true, faultAt := tmpCount s } t))

/-- OPTICAL_LINK_FAULT: the conditions of R291 are looked at with the level of OLINK_FAULT_N; not while the link's domain is off (R488). -/
def execOpticalLinkFault (pinLow : Bool) (s : State) : Out :=
  let t := seeOptPin pinLow s
  occurs (domOn 12 s = true)
    (if get Reg.OLK_CTL.EN s = 1 ∧ s.olk.faulted = false
        ∧ (get Reg.OLK_STAT.UP s = 0 ∨ 3 ≤ get Reg.OLK_STAT.MISS s ∨ 3 ≤ s.olk.echoRow ∨ pinLow = true) then declareOptFault t else t) s

/-! ### The control channel -/

/-- The registers of a link's control channel, and its line. -/
structure CcPort where
  addr  : Fld
  write : Fld
  busy  : Fld
  data  : Fld
  done  : Fld
  error : Fld
  timeout : Fld
  line  : Nat

def ccPort (l : Nat) : CcPort :=
  if l = 2 then ⟨Reg.OLK_CC_REQ.ADDR, Reg.OLK_CC_REQ.WRITE, Reg.OLK_CC_REQ.BUSY, Reg.OLK_CC_DATA.DATA, Reg.OLK_CC_STAT.DONE,
    Reg.OLK_CC_STAT.ERROR, Reg.OLK_CC_STAT.TIMEOUT, 385⟩
  else ⟨Reg.HLK_CC_REQ.ADDR l, Reg.HLK_CC_REQ.WRITE l, Reg.HLK_CC_REQ.BUSY l, Reg.HLK_CC_DATA.DATA l, Reg.HLK_CC_STAT.DONE l,
    Reg.HLK_CC_STAT.ERROR l, Reg.HLK_CC_STAT.TIMEOUT l, 258 + 4 * l⟩

/-- A request goes out under a TAG: what it is and when it went. -/
def ccOut (l tag : Nat) (write : Bool) (s : State) : State :=
  setLink l { linkOf l s with ccTag := tag, ccWrite := write, ccAt := tmpCount s } s

/-- CONTROL_CHANNEL_REQ: a write of the link's CC_REQ (R179). GO sends one REQ with a fresh TAG unless one is out. -/
def execControlChannelReq (l value : Nat) (s : State) : Out :=
  let p := ccPort l
  let t := puts [(p.addr, bits value 0 8), (p.write, bits value 8 1)] s
  let tag := ((linkOf l s).ccTag + 1) % 256
  unit l 3 (.next
    (if value.testBit 31 ∧ get p.busy s = 0 then
      sendBlocks l [blkReq tag (bits value 0 8) (get p.data s) (value.testBit 8)] (put p.busy 1 (ccOut l tag (value.testBit 8) t))
     else t))

/-- CONTROL_CHANNEL_REPLY: a REPLY with the TAG of the request that is out (R179): DONE, or ERROR; a read places its data. -/
def execControlChannelReply (l payload : Nat) (s : State) : Out :=
  let p := ccPort l
  let err := payload.testBit 57
  let t := put p.busy 0 s
  let u := if (linkOf l s).ccWrite = false ∧ !err then put p.data (bits payload 24 32) t else t
  unit l 3 (occurs (get p.busy s = 1 ∧ bits payload 0 8 = 0x4B ∧ bits payload 8 8 = (linkOf l s).ccTag)
    (linePost p.line (if err then p.error else p.done) 1 l [] u) s)

/-- CONTROL_CHANNEL_TIMEOUT: no reply within 4 tempos (R179). -/
def execControlChannelTimeout (l : Nat) (s : State) : Out :=
  let p := ccPort l
  unit l 3 (occurs (get p.busy s = 1 ∧ (linkOf l s).ccAt + 4 ≤ tmpCount s) (linePost p.line p.timeout 1 l [] (put p.busy 0 s)) s)

end Sys2Proof.Machine
end

