-- ==== Sys2Proof/Machine/Byade.lean ====
section
/-! DEFINITION. 10_optical_channel.md, the recorded form of a cluster: the product code (R264, R265), the modulation (R266, R267), frames (R268,
R269) and the cluster on the track (R270). Bits are in recording order; a row is a list of bytes. -/

namespace Sys2Proof.Machine

/-! ### The product code -/

/-- Multiplication by α = 0x02 modulo x⁸ + x⁴ + x³ + x² + 1. -/
def gfTwice (a : Nat) : Nat := if a < 128 then 2 * a else (2 * a) ^^^ 0x11D

/-- The product in GF(2⁸): bits of b from the highest on. -/
def gfMulBits : (n a b : Nat) → Nat
  | 0, _, _ => 0
  | n + 1, a, b => gfTwice (gfMulBits n a (b / 2)) ^^^ (if b % 2 = 1 then a else 0)

def gfMul (a b : Nat) : Nat := gfMulBits 8 a b

/-- αⁱ. -/
def gfPow : Nat → Nat
  | 0 => 1
  | i + 1 => gfTwice (gfPow i)

/-- A polynomial, highest coefficient first, times x − r. -/
def polyTimes (g : List Nat) (r : Nat) : List Nat := List.zipWith (· ^^^ ·) (g ++ [0]) (0 :: g.map (gfMul r))

/-- The generator with the roots α⁰ to αⁿ⁻¹ (R264). -/
def rsGenerator (n : Nat) : List Nat := (List.range n).foldl (fun g i => polyTimes g (gfPow i)) [1]

/-- The parity symbols of a data word: the remainder of its division by the generator (R264). -/
def rsParity (n : Nat) (data : List Nat) : List Nat :=
  let g := (rsGenerator n).drop 1
  data.foldl (fun r d => List.zipWith (· ^^^ ·) (r.drop 1 ++ [0]) (g.map (gfMul (d ^^^ r.headD 0)))) (List.replicate n 0)

/-- Data row r of the stream: 208 bytes. -/
def dataRow (stream : List Nat) (r : Nat) : List Nat := (stream.drop (208 * r)).take 208

/-- The outer parity of an interleave (0 even, 1 odd): for each column its 16 symbols. -/
def outerParity (stream : List Nat) (odd : Nat) : List (List Nat) :=
  (List.range 208).map (fun c => rsParity 16 ((List.range 160).map (fun k => (stream.getD (208 * (2 * k + odd) + c) 0))))

/-- The 352 rows as frames carry them (R265): data rows, then even and odd parity rows in turn, each with its 32 inner parity bytes. -/
def frameRows (stream : List Nat) : List (List Nat) :=
  let pe := outerParity stream 0
  let po := outerParity stream 1
  let rows := (List.range 320).map (dataRow stream)
    ++ (List.range 16).flatMap (fun j => [pe.map (fun l => l.getD j 0), po.map (fun l => l.getD j 0)])
  rows.map (fun r => r ++ rsParity 32 r)

/-! ### Modulation -/

/-- The basic words of R266. -/
def basicWord (sym : Nat) : List Bool :=
  if sym = 0 then [false, true, false] else if sym = 1 then [false, false, true]
  else if sym = 2 then [true, false, true] else [true, false, false]

/-- The substitutes of R266, for the pairs whose basic words would meet with two 1s. -/
def substitute (a b : Nat) : Option (List Bool) :=
  if a = 1 ∧ b = 2 then some [false, false, true, false, false, false]
  else if a = 1 ∧ b = 3 then some [false, true, false, false, false, false]
  else if a = 2 ∧ b = 2 then some [true, false, true, false, false, false]
  else if a = 2 ∧ b = 3 then some [true, false, false, false, false, false]
  else none

/-- The encoder of R267. -/
def modulate : List Nat → List Bool
  | [] => []
  | [a] => basicWord a
  | a :: b :: t => match substitute a b with
    | some w => w ++ modulate t
    | none => basicWord a ++ modulate (b :: t)

/-- The symbol of a basic word; none marks it erased. -/
def wordSymbol (x y z : Bool) : Option Nat :=
  if !x && y && !z then some 0 else if !x && !y && z then some 1 else if x && !y && z then some 2 else if x && !y && !z then some 3 else none

/-- The pair that a word followed by 000 decodes to. -/
def wordPair (x y z : Bool) : List (Option Nat) :=
  if !x && !y && z then [some 1, some 2] else if !x && y && !z then [some 1, some 3]
  else if x && !y && z then [some 2, some 2] else if x && !y && !z then [some 2, some 3] else [none, none]

/-- The decoder of R267: words in order, none for an erased symbol. -/
def demodulate : List Bool → List (Option Nat)
  | x :: y :: z :: false :: false :: false :: t => wordPair x y z ++ demodulate t
  | x :: y :: z :: t => wordSymbol x y z :: demodulate t
  | _ => []

/-! ### Frames -/

/-- The level and the digital sum value after some NRZI bits (R269): a 1 is a transition. -/
def dsv (st : Int × Int) (l : List Bool) : Int × Int :=
  l.foldl (fun p b => let v := if b then -p.1 else p.1; (v, p.2 + v)) st

/-- The four symbols of a byte, bits 7:6 first. -/
def byteSymbols (b : Nat) : List Nat := [b / 64 % 4, b / 16 % 4, b / 4 % 4, b % 4]

/-- The marker of R268. -/
def frameMarker : List Bool :=
  [false, true] ++ List.replicate 11 false ++ [true] ++ List.replicate 11 false ++ [true, false]

/-- The 7 ID symbols of frame f of a cluster. -/
def idSymbols (cluster f : Nat) : List Nat :=
  (List.range 7).map (fun i => (cluster % 32 * 512 + f) / 4 ^ (6 - i) % 4)

/-- The magnitude of the digital sum value at the end of symbols whose next DC symbol is taken as 00. -/
def endDsv (st : Int × Int) (syms : List Nat) : Nat := (dsv st ((modulate (syms ++ [0])).take (3 * syms.length))).2.natAbs

/-- The DC symbols chosen segment by segment (R269): 00 on a tie. -/
def withDc (st : Int × Int) : (pre : List Nat) → (segs : List (List Nat)) → List Nat
  | pre, [] => pre
  | pre, g :: t =>
    if endDsv st (pre ++ [2] ++ g) < endDsv st (pre ++ [0] ++ g) then withDc st (pre ++ [2] ++ g) t else withDc st (pre ++ [0] ++ g) t

/-- The eight segments of a row: 120 symbols of 30 bytes each. -/
def segments (row : List Nat) : List (List Nat) := (List.range 8).map (fun k => ((row.drop (30 * k)).take 30).flatMap byteSymbols)

/-- Frame f of a cluster (R268). -/
def frameBits (cluster : Nat) (st : Int × Int) (f : Nat) (row : List Nat) : List Bool :=
  frameMarker ++ modulate (withDc (dsv st frameMarker) (idSymbols cluster f) (segments row))

/-- A pattern of four bits repeated n times. -/
def pattern (p : List Bool) (n : Nat) : List Bool := (List.replicate n p).flatten

/-- Frames one after the other, the digital sum value running on. -/
def framesFrom (cluster : Nat) : (st : Int × Int) → (f : Nat) → (rows : List (List Nat)) → List Bool
  | _, _, [] => []
  | st, f, r :: t => frameBits cluster st f r ++ framesFrom cluster (dsv st (frameBits cluster st f r)) (f + 1) t

/-- The recorded bits of a cluster (R270): run-in, frames and run-out. The digital sum value runs from +1 at the first run-in bit. -/
def clusterBits (cluster : Nat) (stream : List Nat) : List Bool :=
  let runIn := pattern [true, false, false, false] 1536
  runIn ++ framesFrom cluster (dsv (-1, 0) runIn) 0 (frameRows stream) ++ pattern [false, false, false, true] 256

end Sys2Proof.Machine
end

