-- ==== Sys2Proof/Machine/OptRead.lean ====
section
/-! DEFINITION. 10_optical_channel.md, how a cluster is read: the Reed-Solomon decoders (R264, R274, R275), marker search and flywheel (R271, R272), the defect detector
(R273) and the decode of a cluster from its rows (R276). Polynomials are lists of coefficients, the lowest first; bits of a cluster count from the start of its address unit. -/

namespace Sys2Proof.Machine

/-! ### Reed-Solomon decoding -/

/-- The inverse in GF(2⁸): the 254th power. -/
def gfInv (a : Nat) : Nat :=
  let p := fun (x y : Nat) => gfMul x y
  let a2 := p a a
  let a4 := p a2 a2
  let a8 := p a4 a4
  let a16 := p a8 a8
  let a32 := p a16 a16
  let a64 := p a32 a32
  p (p a64 a64) (p a64 (p a32 (p a16 (p a8 (p a4 a2)))))

def polyAdd : List Nat → List Nat → List Nat
  | [], q => q
  | p, [] => p
  | a :: p, b :: q => (a ^^^ b) :: polyAdd p q

def polyScale (c : Nat) (p : List Nat) : List Nat := p.map (gfMul c)

def polyMul : List Nat → List Nat → List Nat
  | [], _ => []
  | a :: p, q => polyAdd (polyScale a q) (0 :: polyMul p q)

def polyEval (p : List Nat) (x : Nat) : Nat := p.foldr (fun c v => c ^^^ gfMul x v) 0

/-- The first n powers of α. -/
def gfPowers (n : Nat) : List Nat := (List.range n).map gfPow

/-- The syndromes of a word, its first symbol the highest coefficient: its values at α⁰ to αⁿ⁻¹. -/
def syndromes (n : Nat) (word : List Nat) : List Nat := (gfPowers n).map (fun x => word.foldl (fun v c => gfMul x v ^^^ c) 0)

/-- The locators of the symbols of a word of m symbols. -/
def locators (m : Nat) : List Nat := (gfPowers m).reverse

/-- The locator polynomial of errors and erasures: Berlekamp and Massey's steps r to n from that of e erasures. -/
def locatorSteps (n e : Nat) (synd : List Nat) : (steps r len : Nat) → (lam b : List Nat) → List Nat
  | 0, _, _, lam, _ => lam
  | k + 1, r, len, lam, b =>
    let d := (List.range (min r lam.length)).foldl (fun v j => v ^^^ gfMul (lam.getD j 0) (synd.getD (r - 1 - j) 0)) 0
    let t := polyAdd lam (0 :: polyScale d b)
    if d ≠ 0 ∧ 2 * len ≤ r + e - 1 then locatorSteps n e synd k (r + 1) (r + e - len) t (polyScale (gfInv d) lam)
    else locatorSteps n e synd k (r + 1) len t (0 :: b)

/-- A word with the symbols at some positions erased, decoded under e + 2t ≤ n: the codeword and the errors t that no erasure marks (R264, R274, R275); none where no
codeword lies so near. -/
def rsDecode (n : Nat) (erased word : List Nat) : Option (List Nat × Nat) :=
  let locs := locators word.length
  let e := erased.length
  let s := syndromes n word
  if n < e then none
  else if s.all (· == 0) then some (word, 0)
  else
    let gamma := erased.foldl (fun g i => polyMul g [1, locs.getD i 0]) [1]
    let lam := locatorSteps n e s (n - e) (e + 1) e gamma gamma
    let omega := (polyMul s lam).take n
    let slope := fun (x : Nat) => polyEval ((List.range (lam.length / 2)).flatMap (fun k => [lam.getD (2 * k + 1) 0, 0])) x
    let fix := (List.range word.length).map (fun i =>
      let x := gfInv (locs.getD i 0)
      if polyEval lam x = 0 then gfMul (locs.getD i 0) (gfMul (polyEval omega x) (gfInv (slope x))) else 0)
    let out := List.zipWith (· ^^^ ·) word fix
    let t := ((List.range word.length).filter (fun i => fix.getD i 0 != 0 && !erased.contains i)).length
    if (syndromes n out).all (· == 0) ∧ e + 2 * t ≤ n then some (out, t) else none

/-! ### Rows -/

/-- The thresholds of a pass (R271, R273, R277): TOL, DROP and MINLEN, with EXT. -/
structure OptCfg where
  tol    : Nat
  drop   : Nat
  minlen : Nat
  ext    : Nat
  flyMax : Nat

/-- The bits that the defect detector flags, as a number (R273): the averaged envelope below DROP/128 for at least MINLEN bits, extended by EXT on each side. Log entry
231 (DESIGN CHOICE). -/
def flagBits (c : OptCfg) (env : List Nat) : Nat :=
  let low := (envelopeSums [] env).map (fun p => decide (p.1 < p.2 * c.drop))
  ((runsFrom 0 0 low).filter (fun r => decide (c.minlen ≤ r.2))).foldl
    (fun m r => let a := r.1 - c.ext; m ||| (2 ^ (r.1 + r.2 + c.ext - a) - 1) * 2 ^ a) 0

/-- w bits from a position on. -/
def window (v : Nat) (p : Int) (w : Nat) : Nat := v / 2 ^ p.toNat % 2 ^ w

/-- The symbols of the frame whose marker starts at a position (R267, R268). -/
def frameSymbols (det : Nat) (p : Int) : List (Option Nat) :=
  let w := window det (p + 27) 2925
  demodulate ((List.range 2925).map (fun i => w.testBit i))

/-- Byte m of segment k: none where a symbol is erased, or where a channel bit of its four words or of the word before them is flagged (R273). -/
def rowByte (syms : List (Option Nat)) (flags k m : Nat) : Option Nat :=
  let i := 8 + 121 * k + 4 * m
  if flags / 2 ^ (3 * (i - 1)) % 2 ^ 15 ≠ 0 then none
  else match (syms.drop i).take 4 with
    | [some a, some b, some c, some d] => some (64 * a + 16 * b + 4 * c + d)
    | _ => none

/-- The 240 bytes of a frame's row. -/
def rowBytes (flags : Nat) (syms : List (Option Nat)) (p : Int) : List (Option Nat) :=
  let f := window flags (p + 27) 2925
  (List.range 8).flatMap (fun k => (List.range 30).map (rowByte syms f k))

/-- The inner decode of a row (R274). -/
def innerDecode (l : List (Option Nat)) : RowRead :=
  let word := l.map (fun b => b.getD 0)
  match rsDecode 32 ((List.range l.length).filter (fun i => (l.getD i none).isNone)) word with
  | some q => ⟨q.1, some q.2⟩
  | none => ⟨word, none⟩

/-- The frame number that a frame's ID names, where all its symbols decode. -/
def frameId (syms : List (Option Nat)) : Option Nat :=
  ((syms.take 7).foldl (fun v x => match v, x with | some n, some d => some (4 * n + d) | _, _ => none) (some 0)).map (· % 512)

/-- A frame aligned at a position: its row and its ID. -/
def frameAt (det flags : Nat) (p : Int) : RowRead × Option Nat :=
  let syms := frameSymbols det p
  (innerDecode (rowBytes flags syms p), frameId syms)

/-- The hits of the marker within a reach of its prediction, ranked as R189 ranks them (R271). -/
def markerHits (c : OptCfg) (reach det : Nat) (pred : Int) : Option Int × Option Int :=
  let h := twoHits (markHits 27 (bitsNat frameMarker.reverse) reach c.tol det pred)
  (h.1.map (fun x => pred + x.1), h.2.map (fun x => pred + x.1))

/-! ### Frame by frame -/

/-- Where the reading of a cluster stands: the prediction of the next marker and its frame number, the missed markers in a row that count, whether the whole frame is
searched and whether FLY_MAX has been reached in this cluster, the last hit of the search, an ID that differs from the number expected, and the rows by number,
none for one that is repeated (R272). -/
structure Walk where
  pred : Int
  num  : Nat
  fly  : Nat
  lost : Bool
  hit  : Bool
  seek : Option Int
  odd  : Option Nat
  rows : List (Nat × Option RowRead)

/-- Two IDs in a row name the numbers m − 1 and m where other ones are expected (R272): the last row takes its number, and rows skipped or repeated are erased. Log entry
1 (DEDUCED). Log entry 257 (DEDUCED). -/
def renumber (m : Nat) (w : Walk) : Walk :=
  let back := (List.range (w.num - 1)).filter (fun k => decide (m ≤ k + 1))
  { w with num := m, odd := none,
           rows := w.rows.map (fun q => if q.1 + 1 = w.num then (m - 1, q.2) else q) ++ back.map (fun k => (k, none)) }

/-- A frame that is read at a position goes to its number (R271, R272). -/
def placeFrame (q : Int) (r : RowRead × Option Nat) (w : Walk) : Walk :=
  let v := match r.2 with
    | none => { w with odd := none }
    | some m =>
      if m = w.num then { w with odd := none }
      else if 0 < m ∧ w.odd = some (m - 1) then renumber m w
      else { w with odd := some m }
  { v with pred := q + 2952, num := v.num + 1, rows := v.rows ++ [(v.num, some r.1)] }

/-- The next frame (R271, R272): candidate A, or B where A's inner decode fails; without a hit the flywheel, whose miss counts where no flag covers the marker; while sync
is lost the whole frame is searched for two hits 2,952 bits apart, and rows are erased. Log entry 257 (DEDUCED). -/
def nextFrame (c : OptCfg) (det flags : Nat) (w : Walk) : Walk :=
  if w.lost then
    match (markerHits c 1476 det w.pred).1 with
    | some q =>
      if w.seek = some (q - 2952) then placeFrame q (frameAt det flags q) { w with lost := false, seek := none, fly := 0 }
      else { w with pred := w.pred + 2952, num := w.num + 1, seek := some q, odd := none }
    | none => { w with pred := w.pred + 2952, num := w.num + 1, seek := none, odd := none }
  else
    match markerHits c 16 det w.pred with
    | (some a, b) =>
      let ra := frameAt det flags a
      let other := if ra.1.fix.isSome then none else (b.map (fun p => (p, frameAt det flags p))).filter (fun p => p.2.1.fix.isSome)
      let p := other.getD (a, ra)
      placeFrame p.1 p.2 { w with fly := 0 }
    | (none, _) =>
      let n := if window flags w.pred 27 = 0 then w.fly + 1 else w.fly
      if w.fly < n ∧ c.flyMax ≤ n then
        { w with pred := w.pred + 2952, num := w.num + 1, fly := 0, lost := true, hit := true, seek := none, odd := none }
      else placeFrame w.pred (frameAt det flags w.pred) { w with fly := n }

/-- n frames. -/
def frames (c : OptCfg) (det flags : Nat) : (n : Nat) → Walk → Walk
  | 0, w => w
  | n + 1, w => frames c det flags n (nextFrame c det flags w)

/-- A row of a number, if it was read once. -/
def rowOf (rows : List (Nat × Option RowRead)) (k : Nat) : RowRead :=
  if rows.any (fun q => q.1 == k && q.2.isNone) then {} else ((rows.find? (fun q => q.1 == k)).bind (·.2)).getD {}

/-- One reading of a cluster from the count of missed markers so far: its 352 rows, the count, and whether it reached FLY_MAX (R271 to R274). Log entry 257 (DEDUCED). -/
def readRows (c : OptCfg) (fly : Nat) (o : ClusterRead) : List RowRead × Nat × Bool :=
  let w := frames c o.det (flagBits c o.env) 352 ⟨6144, 0, fly, false, false, none, none, []⟩
  ((List.range 352).map (rowOf w.rows), w.fly, w.hit)

/-! ### The cluster -/

/-- A row is erased for the outer decoder (R274). -/
def rowErased (suspect : Nat) (r : RowRead) : Bool :=
  match r.fix with
  | none => true
  | some t => decide (suspect < t)

/-- The rows of an interleave in the order of its outer codewords (R264, R265). -/
def interleave (odd : Nat) (rows : List RowRead) : List RowRead :=
  (List.range 176).map (fun k => rows.getD (2 * k + odd) {})

/-- The erased rows of an interleave. -/
def erasedIn (suspect odd : Nat) (rows : List RowRead) : List Nat :=
  let l := interleave odd rows
  (List.range 176).filter (fun k => rowErased suspect (l.getD k {}))

/-- The most inner corrections in one row that decoded. -/
def mostFixes (l : List RowRead) : Nat := l.foldl (fun m x => max m (x.fix.getD 0)) 0

/-- The columns of an interleave decoded one by one (R275): with its erased rows as erasures, or without. -/
def outerColumns (passed : Bool) (suspect odd : Nat) (rows : List RowRead) : List (Option (List Nat)) :=
  let l := (interleave odd rows).map (fun r => r.bytes)
  let er := if passed then erasedIn suspect odd rows else []
  (List.range 208).map (fun c => (rsDecode 16 er (l.map (fun b => b.getD c 0))).map (·.1))

/-- The stream of the decoded columns; none where a column does not decode. -/
def streamOfColumns (even odd : List (Option (List Nat))) : Option (List Nat) :=
  if (even ++ odd).any (fun c => c.isNone) then none
  else some ((List.range 320).flatMap (fun r => (if r % 2 = 0 then even else odd).map (fun c => (c.getD []).getD (r / 2) 0)))

/-- The subcode CRC (R263): over subcode bytes 0 to 1,019 and the user bytes. -/
def subcodeCrc (l : List Nat) : Nat := crc32c (l.take 1020 ++ l.drop 1024)

/-- A stream's CRC checks. -/
def streamChecks (v : Nat) : Bool := subcodeCrc (bytesOf 66560 v) == bits v (8 * 1020) 32

/-- The stream of an accepted cluster (R276): every outer codeword decodes and the subcode CRC checks. -/
def clusterStream (passed : Bool) (suspect : Nat) (rows : List RowRead) : Option Nat :=
  ((streamOfColumns (outerColumns passed suspect 0 rows) (outerColumns passed suspect 1 rows)).map ofBytes).filter streamChecks

/-- Rows taken from any read in which they decoded (R277, step 3): the one with fewer corrections. Log entry 67 (DEDUCED). -/
def combineRow (a b : RowRead) : RowRead :=
  match a.fix, b.fix with
  | some x, some y => if y < x then b else a
  | none, some _ => b
  | _, none => a

def combineRows (a b : List RowRead) : List RowRead :=
  (List.range 352).map (fun f => combineRow (a.getD f {}) (b.getD f {}))

/-! ### Unwritten clusters -/

/-- The envelope stays below DROP of nominal. -/
def dark (drop : Nat) (env : List Nat) : Bool := (envelopeSums [] env).all (fun p => decide (p.1 < p.2 * drop))

/-- A cluster reads unwritten (R286): frame 0 gives no marker hit and the envelope stays below DROP. -/
def readsUnwritten (c : OptCfg) (o : ClusterRead) : Bool := (markerHits c 16 o.det 6144).1.isNone && dark c.drop o.env

/-- The first unwritten cluster between a written and an unwritten one, by halving (R286). -/
def bisect (written : Nat → Bool) : (n lo hi : Nat) → Nat
  | 0, _, hi => hi
  | n + 1, lo, hi =>
    if hi ≤ lo + 1 then hi
    else if written ((lo + hi) / 2) then bisect written n ((lo + hi) / 2) hi else bisect written n lo ((lo + hi) / 2)

/-- The next free cluster of a disc (R286): in the last layer with a written cluster 64, or at the next layer's start where that one is full. -/
def freeCluster (written : Nat → Nat → Bool) (layers clusters : Nat) : Nat × Nat :=
  match ((List.range layers).filter (fun l => written l 64)).getLast? with
  | none => (0, 64)
  | some l =>
    let c := bisect (written l) 18 64 clusters
    if c < clusters then (l, c) else (l + 1, 64)

end Sys2Proof.Machine
end

