-- ==== Sys2Proof/Machine/OptChannel.lean ====
section
/-! DEFINITION. 10_optical_channel.md: the commands of OCH, the decoding of clusters (R271 to R277), writing (R278 to R282), the copy of sealed zones
with its directory and verify (R283 to R287) and the failure of a disc (R288). -/

namespace Sys2Proof.Machine

def setOch (r : OchSt) (s : State) : State := { s with och := r }

/-! ### Reading a cluster -/

/-- The thresholds of a read (R271, R273), and those of the ladder's step 2 (R277). -/
def optCfg (step2 : Bool) (s : State) : OptCfg :=
  let tol := get Reg.OCH_SYNC_CFG.TOL s
  let ext := get Reg.OCH_DD_CFG.EXT s
  let fly := get Reg.OCH_SYNC_CFG.FLY_MAX s
  if step2 then ⟨tol + 2, 80, 16, ext, fly⟩ else ⟨tol, get Reg.OCH_DD_CFG.DROP s, get Reg.OCH_DD_CFG.MINLEN s, ext, fly⟩

/-- A cluster's rows as they are read, and what is kept of its markers (R272). -/
def readCluster (step2 : Bool) (o : ClusterRead) (s : State) : List RowRead × State :=
  let r := readRows (optCfg step2 s) s.och.fly o
  (r.1, setOch { s.och with fly := r.2.1, noSync := s.och.noSync || r.2.2 } s)

/-- The stream that rows come to under OCH_CTL and OCH_ECC_CFG (R274 to R276), with erasures or without. -/
def decodedStream (passed : Bool) (rows : List RowRead) (s : State) : Option Nat := clusterStream passed (get Reg.OCH_ECC_CFG.SUSPECT s) rows
def eraseEn (s : State) : Bool := get Reg.OCH_CTL.ERASE_EN s == 1

/-- The address of a cluster in the format of subcode bytes 0 to 3, without the type. -/
def addrOf (layer cluster : Nat) : Nat := cluster % 2 ^ 18 + layer % 16 * 2 ^ 18
def addrLayer (a : Nat) : Nat := bits a 18 4
def addrCluster (a : Nat) : Nat := bits a 0 18

/-- The address that a stream's subcode names, and its zone, namespace and index. -/
def streamAddr (v : Nat) : Nat := bits v 0 22
def streamZone (v : Nat) : Nat := bits v 32 20
def streamNs (v : Nat) : Nat := bits v 52 6
def streamIdx (v : Nat) : Nat := bits v 64 16

/-! ### Slots and commands -/

/-- A slot of the optical region (10_optical_channel.md, *OCH registers*). Log entry 61 (DEDUCED). -/
def ochSlot (k : Nat) : Nat := 0x283C0000 + 0x10400 * k

def ochQueued (s : State) : State := put Reg.OCH_STAT.QUEUED s.och.queue.length s

/-- OCH_STAT.READY (R286). Log entry 62 (DEDUCED). -/
def ochReady (s : State) : State := put Reg.OCH_STAT.READY (b2n (get Reg.OSV_STAT.LTBL s == 1 && get Reg.OCH_NEXT.VALID s == 1)) s

/-- The clusters of a layer, from section type 3 of the image. Log entry 58 (PRESUMED). -/
def layerClusters (s : State) : Nat := ((s.boot.image).map (·.clusters)).getD 0

/-- The next free cluster moves on, layer after layer (R261). -/
def nextFree (s : State) : State :=
  let c := get Reg.OCH_NEXT.CLUSTER s + 1
  let l := get Reg.OCH_NEXT.LAYER s
  if c < layerClusters s then put Reg.OCH_NEXT.CLUSTER c s
  else if l + 1 < layerCount s then puts [(Reg.OCH_NEXT.LAYER, l + 1), (Reg.OCH_NEXT.CLUSTER, 64)] s
  else ochReady (put Reg.OCH_NEXT.VALID 0 s)

/-- What the encoder puts into a stream before it leaves (R263): the address, TMP_COUNT, the lifetime seconds and the CRC. -/
def ochEncode (j : OchJob) (s : State) : State :=
  let a := ochSlot j.slot
  let t := memPut (a + 18) 4 (lifeSec s) (memPut (a + 12) 6 (tmpCount s)
    (memPut a 3 (addrOf j.layer j.cluster) s))
  memPut (a + 1020) 4 (subcodeCrc (memRead a 66560 t)) t

/-- A job starts. A write takes the next free cluster where that is its address. -/
def ochBegin (j : OchJob) (s : State) : State :=
  let t := puts [(Reg.OCH_STAT.STATE, j.op), (Reg.OCH_STAT.WRITING, b2n (j.op == 2))] { s with och := { s.och with job := some j, kept := [] } }
  if j.op = 2 then
    let u := ochEncode j t
    if get Reg.OCH_NEXT.VALID u = 1 ∧ get Reg.OCH_NEXT.LAYER u = j.layer ∧ get Reg.OCH_NEXT.CLUSTER u = j.cluster then nextFree u else u
  else t

/-- The next job starts while OCH is idle (R280, R281): writes and calibrations only under the permit, and the first write to a layer after
a mount only after its calibration. Log entry 62 (DEDUCED). -/
def ochStart (s : State) : State :=
  match s.och.job, s.och.queue with
  | none, j :: t =>
    if get Reg.OCH_CTL.EN s = 0 then s
    else if j.op = 2 ∧ !s.och.opc.contains j.layer then
      (if get Reg.OSV_STAT.PERMIT s = 1 then ochBegin ⟨4, 0, j.layer, 0, .calibrate⟩ s else s)
    else if (j.op = 2 ∨ j.op = 4) ∧ get Reg.OSV_STAT.PERMIT s = 0 then s
    else ochBegin j (ochQueued { s with och := { s.och with queue := t } })
  | _, _ => s

/-- A job joins the queue, last or first. -/
def ochEnqueue (j : OchJob) (s : State) : State := ochStart (ochQueued { s with och := { s.och with queue := s.och.queue ++ [j] } })
def ochAhead (j : OchJob) (s : State) : State := ochStart (ochQueued { s with och := { s.och with queue := j :: s.och.queue } })

/-- A write of GO with an operation (OCH_CMD): refused while the queue is full or READY is 0, and for a slot above 2. Log entry 61 (DEDUCED). -/
def ochSubmit (op : Nat) (s : State) : State :=
  let t := puts [(Reg.OCH_CMD.OP, op), (Reg.OCH_CMD.GO, 0)] s
  let k := get Reg.OCH_CMD.SLOT s
  if 3 ≤ s.och.queue.length ∨ get Reg.OCH_STAT.READY s = 0 ∨ 3 ≤ k then put Reg.OCH_CMD.REFUSED 1 t
  else ochEnqueue ⟨op, k, get Reg.OCH_ADDR.LAYER s, get Reg.OCH_ADDR.CLUSTER s, .command⟩ t

/-- A job ends with a code; the next one starts. -/
def ochEnd (j : OchJob) (code : Nat) (s : State) : State := ochStart (ochResult j code (ochIdle s))

/-- The counts of a decode (OCH_RESULT). -/
def ochCounts (j : OchJob) (rows : List RowRead) (s : State) : State :=
  let q := get Reg.OCH_ECC_CFG.SUSPECT s
  if j.use = .command then
    puts [(Reg.OCH_RESULT.ER_EVEN j.slot, (erasedIn q 0 rows).length), (Reg.OCH_RESULT.ER_ODD j.slot, (erasedIn q 1 rows).length),
      (Reg.OCH_RESULT.MAX_FIX j.slot, min 63 (mostFixes rows))] s
  else s

/-! ### Reading -/

/-- A cluster is reported FAILED (R277): counted, line 2; a cluster of a copy that had passed verify fails its disc (R288). -/
def ochFailed (layer cluster : Nat) (verified : Bool) (s : State) : State :=
  let t := raisePost 354 0 (bytesOf 4 (addrOf layer cluster)) (bump Reg.OCH_CNT.FAILED s)
  if verified then setOch { t.och with badCopy := true } t else t

/-- The address of index i of a copy (R287): from its first cluster on, past its voids; `fuel` bounds the clusters looked at. Log entry 56 (DEDUCED). -/
def walkCopy (clusters layers : Nat) (voids : List Nat) : (fuel a i : Nat) → Nat
  | 0, a, _ => a
  | fuel + 1, a, i =>
    let nxt := if addrCluster a + 1 < clusters ∨ layers ≤ addrLayer a + 1 then a + 1 else addrOf (addrLayer a + 1) 64
    if voids.contains a then walkCopy clusters layers voids fuel nxt i
    else match i with
      | 0 => a
      | i + 1 => walkCopy clusters layers voids fuel nxt i

def copyAddr (c : ZoneCopy) (i : Nat) (s : State) : Option Nat :=
  (c.first).map (fun a => walkCopy (layerClusters s) (layerCount s) c.voids (c.voids.length + i + 1) a i)

/-- The address belongs to a copy that passed. -/
def inCopies (a : Nat) (s : State) : Bool :=
  s.och.copies.any (fun c => !c.voids.contains a && (List.range 4096).any (fun i => copyAddr c i s == some a))

/-- A cluster that decodes (R276): its stream goes to the slot; a subcode that names another address is MISMATCH, with line 5. -/
def ochDecoded (j : OchJob) (code v : Nat) (s : State) : State :=
  if streamAddr v ≠ addrOf j.layer j.cluster then raisePost 357 0 (bytesOf 4 (addrOf j.layer j.cluster)) (ochEnd j 4 s)
  else ochEnd j code (memPut (ochSlot j.slot) 66560 v s)

/-- OCH_READ: without a read, the command's GO; with one, the cluster read in line (R271 to R276). One that fails keeps its decoded rows for the ladder. -/
def execOchRead (o : Option ClusterRead) (s : State) : Out :=
  match o with
  | none => .next (ochSubmit 1 s)
  | some o => match s.och.job with
    | none => .next s
    | some j =>
      occurs (j.op = 1 ∧ s.och.kept = [])
        (let p := readCluster false o s
         let t := ochCounts j p.1 p.2
         match decodedStream (eraseEn s) p.1 s with
         | some v => ochDecoded j 0 v t
         | none => setOch { t.och with kept := p.1 } t) s

/-- The rereads of the ladder in order (R277), steps 1 and 2 in turn: the first accepted stream with its rows, or the rows that all reads leave. Log entry 67 (DEDUCED). -/
def rereads (step2 : Bool) : (kept : List RowRead) → List ClusterRead → State → (Option Nat × List RowRead) × State
  | kept, [], s => ((none, kept), s)
  | kept, o :: t, s =>
    let p := readCluster step2 o s
    match decodedStream (eraseEn s) p.1 s with
    | some v => ((some v, p.1), p.2)
    | none => rereads (!step2) (combineRows kept p.1) t p.2

/-- What the whole ladder comes to: rereads, then their rows combined with erasures, and without them (steps 1 to 4). -/
def ladderResult (reads : List ClusterRead) (s : State) : (Option Nat × List RowRead) × State :=
  let p := rereads false s.och.kept reads s
  match p.1.1 with
  | some _ => p
  | none => (((decodedStream (eraseEn s) p.1.2 s).orElse (fun _ => decodedStream false p.1.2 s), p.1.2), p.2)

/-- CLUSTER_RETRY_LADDER: a cluster that failed in line (R277): RETRIES rereads at most, then all reads' rows combined. Fewer rereads that are not accepted change nothing. Log
entry 67 (DEDUCED). Log entry 67 (DEDUCED). -/
def execClusterRetryLadder (reads : List ClusterRead) (s : State) : Out :=
  let n := get Reg.OCH_ECC_CFG.RETRIES s
  match s.och.job with
  | none => .next s
  | some j =>
    let q := ladderResult (reads.take n) s
    occurs (j.op = 1 ∧ s.och.kept ≠ [] ∧ (n ≤ reads.length ∨ (rereads false s.och.kept (reads.take n) s).1.1.isSome = true))
      (let t := ochCounts j q.1.2 q.2
       match q.1.1 with
       | some v => ochDecoded j 1 v (bump Reg.OCH_CNT.RECOVERED t)
       | none => ochEnd j 2 (ochFailed j.layer j.cluster (inCopies (addrOf j.layer j.cluster) s) t)) s

/-- What rows come to under verify (R285): the stream, and whether the limits hold. -/
def verifyRows (rows : List RowRead) (s : State) : Option Nat × Bool :=
  let q := get Reg.OCH_ECC_CFG.SUSPECT s
  let v := decodedStream (eraseEn s) rows s
  (v, v.isSome && decide (mostFixes rows ≤ get Reg.OCH_VERIFY_CFG.ROW_MAX s)
    && decide ((erasedIn q 0 rows).length ≤ get Reg.OCH_VERIFY_CFG.ER_MAX s) && decide ((erasedIn q 1 rows).length ≤ get Reg.OCH_VERIFY_CFG.ER_MAX s))

/-- A verify's verdict: 4 for another address, 0 for a pass, 2 for a failure. -/
def verdictOf (layer cluster : Nat) (p : Option Nat × Bool) : Nat :=
  match p.1 with
  | some v => if streamAddr v ≠ addrOf layer cluster then 4 else if p.2 then 0 else 2
  | none => 2

/-- The verify of a cluster closed after a wobble unlock ends (R281): one that fails is void (R285), and its data waits. Log entry 259 (DEDUCED). -/
def recheckEnd (j : OchJob) (use : ClusterUse) (code : Nat) (s : State) : State :=
  if code = 0 then ochStart (ochIdle s)
  else
    let w : OchJob := { j with op := 2, use := use }
    let t := ochResult w 3 (ochIdle s)
    ochStart (raisePost 353 0 (bytesOf 4 (addrOf j.layer j.cluster)) (setOch { t.och with voided := t.och.voided ++ [w] } t))

/-- OCH_VERIFY: without a read, the command's GO; with one, the cluster is held to the limits of R285. -/
def execOchVerify (o : Option ClusterRead) (s : State) : Out :=
  match o with
  | none => .next (ochSubmit 3 s)
  | some o => match s.och.job with
    | none => .next s
    | some j =>
      occurs (j.op = 3)
        (let p := readCluster false o s
         let t := ochCounts j p.1 p.2
         let code := verdictOf j.layer j.cluster (verifyRows p.1 s)
         match j.use with
         | .recheck u => recheckEnd j u code t
         | _ =>
           if code = 4 then raisePost 357 0 (bytesOf 4 (addrOf j.layer j.cluster)) (ochEnd j 4 t)
           else if code = 0 then ochEnd j 0 t
           else ochEnd j 2 (ochFailed j.layer j.cluster (inCopies (addrOf j.layer j.cluster) s) t)) s

/-- SYNC_LOST: FLY_MAX missed markers in a row that no defect flag covers (R272): SYNC_LOST, line 3. -/
def execSyncLost (s : State) : Out :=
  occurs (s.och.noSync = true) (linePost 355 Reg.OCH_STAT.SYNC_LOST 1 0 [] (setOch { s.och with noSync := false } s)) s

/-! ### Writing -/

/-- What a written cluster means for its use: an index of the copy, its directory, a calibration record. -/
def ochWritten (j : OchJob) (s : State) : State :=
  let a := addrOf j.layer j.cluster
  match j.use with
  | .copy i => match s.och.copy with
    | some c => setOch { s.och with copy := some { c with first := c.first.orElse (fun _ => some a), made := c.made ++ [i] } } s
    | none => s
  | .directory => match s.och.copy with
    | some c => setOch { s.och with copy := some { c with dir := some a }, lastDir := a } s
    | none => setOch { s.och with lastDir := a } s
  | .record => setOch { s.och with record := (List.range (layerCount s)).map (fun l => memRead (layerAddr l s) 32 s) } s
  | _ => s

/-- A recorded cluster or calibration unit on the transmit lane (R289): GATE on before its first bit, 60 NRZI bits in each data block with bits 63:60 at 0, GATE off
after its last. Log entry 261 (DEDUCED). -/
def recordBlocks (l : List Bool) : List (Bool × Nat) := pieceBlocks 0 0 l

/-- OCH_WRITE: the command's GO, or (`closed`) the end of the run-out of the cluster being written (R264 to R270, R281). One closed after the wobble has unlocked is
verified. Log entry 259 (DEDUCED). -/
def execOchWrite (closed : Bool) (s : State) : Out :=
  if closed then
    match s.och.job with
    | none => .next s
    | some j =>
      let st := memRead (ochSlot j.slot) 66560 s
      let b := recordBlocks (clusterBits j.cluster st)
      let t := ochWritten j (send (.cluster j.layer j.cluster st (b.map (·.2)) (wordsFor 2 b s)) (carried 2 b s))
      occurs (j.op = 2)
        (if get Reg.OSV_STAT.WOB_LOCK s = 1 then ochEnd j 0 t
         else ochAhead { j with op := 3, use := .recheck j.use } (ochResult j 0 (ochIdle t))) s
  else .next (ochSubmit 2 s)

/-- The first unit of the power calibration area at or above byte 31 whose first address unit reads unwritten (R280), of the envelopes read from there on. -/
def opcUnit (l : Nat) (envs : List (List Nat)) (s : State) : Option Nat :=
  let u0 := layerNat l 31 1 s
  ((List.range envs.length).find? (fun k => dark (get Reg.OCH_DD_CFG.DROP s) (envs.getD k []) && decide (u0 + k < 255))).map (u0 + ·)

/-- The steps whose mean asymmetry is nearest 0. Log entry 63 (DESIGN CHOICE). -/
def bestSteps (asym : List (List Int)) : List Nat :=
  let sum := fun (k : Nat) => ((asym.getD k []).foldl (· + ·) 0).natAbs
  let len := fun (k : Nat) => (asym.getD k []).length
  (List.range 8).filter (fun k => (List.range 8).all (fun i => decide (sum k * len i ≤ sum i * len k)))

/-- The write power of a step of calibration: Pw × 80 % to Pw × 115 % in 5 % steps (R280). -/
def stepPower (l k : Nat) (s : State) : Nat := (roundOpen ((layerNat l 16 2 s * (80 + 5 * k) : Nat) : Int) 100).toNat

/-- The strategy block of a layer at a write power (R279, R289). -/
def stratAt (l pw : Nat) (s : State) : Nat := optStrat pw (layerNat l 18 2 s) (layerNat l 22 1 s) (layerNat l 23 1 s) (layerNat l 24 1 s)

/-- A calibration unit on the lane (R280): 8 segments of 4T marks, one per address unit, with the strategy of each step ahead of the data block of its first bit. Log entry 261 (DEDUCED). -/
def opcBlocks (l : Nat) (s : State) : List (Bool × Nat) :=
  let b := recordBlocks (pattern [true, false, false, false] 32768)
  (List.range b.length).flatMap (fun i =>
    (((List.range 8).filter (fun k => (if k = 0 then 0 else 16384 * k / 60 + 1) == i)).map (fun k => (true, stratAt l (stepPower l k s) s))) ++ [b.getD i (true, 0)])

/-- OCH_OPC: without a result, the command's GO; with one, the calibration of a layer (R280): the envelopes of the units read from byte 31 on, and the asymmetry
read back from each of the 8 segments written. Of steps equally near, a free one is taken. A row whose envelopes end before an unwritten unit or unit 255 changes
nothing. -/
def execOchOpc (r : Option (List (List Nat) × List (List Int))) (s : State) : Out :=
  match r with
  | none => .next (ochSubmit 4 s)
  | some (envs, asym) => match s.och.job with
    | none => .next s
    | some j =>
      let t := setOch { s.och with opc := if s.och.opc.contains j.layer then s.och.opc else s.och.opc ++ [j.layer] } s
      occurs (j.op = 4 ∧ ((opcUnit j.layer envs s).isSome = true ∨ 255 ≤ layerNat j.layer 31 1 s + envs.length))
        (match opcUnit j.layer envs s with
         | none => ochEnd j 0 (postNone 11 0 t)
         | some u =>
           let pw := stepPower j.layer (pickOpen (bestSteps asym) s) s
           let b := opcBlocks j.layer s
           let v := send (.opticalLink (b.map (·.2)) (wordsFor 2 b s)) (carried 2 b (freed t))
           ochEnd j 0 (memPut (layerAddr j.layer s + 31) 1 (u + 1) (memPut (layerAddr j.layer s + 16) 2 pw v))) s

/-- The copy under way is interrupted (R283): its clusters waiting go, and one being handled is orphaned. -/
def dropCopy (s : State) : State :=
  let part := fun (u : ClusterUse) => match u with | .copy _ => true | .directory => true | .recheck (.copy _) => true | .recheck .directory => true | _ => false
  let orphan := fun (j : OchJob) => if part j.use then { j with use := .orphan } else j
  setOch { s.och with copy := none, queue := s.och.queue.filter (fun j => !part j.use), job := s.och.job.map orphan,
                      voided := s.och.voided.filter (fun j => !part j.use) } s

/-- OCH_ABORT: OCH_CTL.ABORT ends the queued commands, and a write in progress as on a hard fall (R281); a copy under way is interrupted
(R283). -/
def execOchAbort (s : State) : Out :=
  let t := s.och.queue.foldl (fun u j => ochResult j 5 u) s
  let u := voidJob (ochQueued (dropCopy (setOch { t.och with queue := [] } t)))
  .next (put Reg.OCH_CTL.ABORT 0 u)

/-- A void joins its copy's list. -/
def noteVoid (j : OchJob) (s : State) : State :=
  match j.use, s.och.copy with
  | .copy _, some c => setOch { s.och with copy := some { c with voids := c.voids ++ [addrOf j.layer j.cluster] } } s
  | _, _ => s

/-- CLUSTER_VOID: the data of a void cluster goes to the next free cluster, and the void is counted (R282). -/
def execClusterVoid (s : State) : Out :=
  match s.och.voided with
  | [] => .next s
  | j :: t =>
    let u := bump Reg.OCH_DISC.VOIDS (noteVoid j (setOch { s.och with voided := t } s))
    let again := if j.use = .record then { j with cluster := s.och.calNext } else
      { j with layer := get Reg.OCH_NEXT.LAYER s, cluster := get Reg.OCH_NEXT.CLUSTER s }
    .next
      (if j.use = .orphan then u
       else if j.use = .record then
         (if s.och.calNext < 64 then ochAhead again (setOch { u.och with calNext := u.och.calNext + 1 } u) else postNone 11 0 u)
       else if get Reg.OCH_NEXT.VALID s = 1 then ochAhead again u else u)

/-! ### The copy of sealed zones -/

/-- A slot that no job uses. -/
def spareSlot (s : State) : Option Nat :=
  (List.range 3).find? (fun k => !((s.och.queue.any (fun j => j.slot == k)) || ((s.och.job).map (·.slot)) == some k
    || s.och.voided.any (fun j => j.slot == k)))

/-- A subcode (R263) but for what the encoder adds. -/
def subcode (type zone ns idx seq : Nat) (digest : Nat) (record : List Nat) : List Nat :=
  [0, 0, 0, type] ++ bytesOf 4 (zone % 2 ^ 20 + ns % 64 * 2 ^ 20) ++ bytesOf 2 idx ++ bytesOf 2 seq ++ List.replicate 12 0
  ++ bytesOf 64 digest ++ (record ++ List.replicate 932 0).take 932 ++ [0, 0, 0, 0]

/-- The running digest of group i (R316) from the group digests. -/
def runningDigest (z i : Nat) (e : SealEntry) (s : State) : Nat :=
  (e.groups.take (i + 1)).foldl (fun r g => hash (bytesOf 64 r ++ bytesOf 64 g)) (hash (zoneHeader z (zoneOf z s)))

/-- The sealed zones that are not copied, in seal-sequence order: the first. -/
def nextToCopy (s : State) : Option SealEntry :=
  (s.seals.log.filter (fun e => (zoneOf e.zone s).sealed && !(zoneOf e.zone s).copied && recordOf e.zone s == some e)).foldl
    (fun r e => match r with | none => some e | some x => if e.seq < x.seq then some e else some x) none

/-- The copy may run (R283). -/
def mayCopy (s : State) : Bool := mode s == 3 && get Reg.OCH_STAT.READY s == 1 && get Reg.OCH_CTL.EN s == 1

/-- The copy under way, or the one that starts now with a new sequence number. Log entry 65 (DEDUCED). -/
def copyNow (s : State) : Option (ZoneCopy × SealEntry) × State :=
  match s.och.copy with
  | some c => ((recordOf c.zone s).map (fun e => (c, e)), s)
  | none => match nextToCopy s with
    | none => (none, s)
    | some e =>
      let c : ZoneCopy := { zone := e.zone, ns := e.ns }
      (some (c, e), setOch { s.och with copy := some c, copySeq := s.och.copySeq + 1 } s)

/-- No cluster of the copy waits or is being written. Log entry 65 (DEDUCED). -/
def copyIdle (s : State) : Bool :=
  let busy := fun (j : OchJob) => j.use != .command
  !s.och.queue.any busy && !((s.och.job).any busy) && !s.och.voided.any busy

/-- The 16 sectors of cluster index i of a zone's copy, each accepted as read from its place on the disk. Log entry 260 (DEDUCED). -/
def copySectors (z i : Nat) (l : List Decoded) (s : State) : Bool :=
  l.length == 16 && (List.range 16).all (fun k =>
    let q := sectorPlace z (16 * i + k) s
    accepted q.1 q.2 (l.getD k ⟨false, 0⟩))

/-- The way of sectors from disk to a slot of the optical region (R12): each into the next sector slot of stream n, and its user bytes from there into the stream of
the cluster. Log entry 260 (DEDUCED). -/
def copyUp (n k : Nat) : (m : Nat) → List Decoded → State → State
  | _, [], s => s
  | m, d :: t, s => copyUp n k (m + 1) t (memWrite (ochSlot k + 1024 + 4096 * m) (memRead (sectorSlot n s) 4096 (fillSlot n d.info s)) (fillSlot n d.info s))

/-- ZONE_COPY: the next index of the copy goes to the next free cluster (R283): zone sectors 16i to 16i + 15 come from disk by stream n, through the channel
sector buffers (R12). Log entry 260 (DEDUCED). -/
def execZoneCopy (n : Nat) (sectors : List Decoded) (s : State) : Out :=
  let p := copyNow s
  unit n 5 (match p.1, spareSlot s with
  | some (c, e), some k =>
    match (List.range 4096).find? (fun i => !c.made.contains i) with
    | none => .next s
    | some i =>
      let sub := subcode 0 c.zone c.ns i p.2.och.copySeq (runningDigest c.zone i e s) (if i = 4095 then e.bytes else [])
      let t := memWrite (ochSlot k) sub (copyUp n k 0 sectors p.2)
      occurs (mayCopy s = true ∧ copyIdle s = true ∧ streamRuns n s = true ∧ copySectors c.zone i sectors s = true)
        (ochEnqueue ⟨2, k, get Reg.OCH_NEXT.LAYER s, get Reg.OCH_NEXT.CLUSTER s, .copy i⟩ t) s
  | _, _ => .next s)

/-- The user bytes of a directory cluster (R284). -/
def directoryBytes (c : ZoneCopy) (prev : Nat) : List Nat :=
  let l := bytesOf 4 prev ++ bytesOf 4 (c.zone % 2 ^ 20 + c.ns % 64 * 2 ^ 20) ++ bytesOf 4 (c.first.getD 0) ++ bytesOf 2 c.voids.length ++ [0, 0]
    ++ c.voids.flatMap (bytesOf 4)
  (l ++ List.replicate 65536 0).take 65536

/-- DIRECTORY_WRITE: after the last cluster of a copy its directory goes to the next free cluster (R284). -/
def execDirectoryWrite (s : State) : Out :=
  match s.och.copy, spareSlot s with
  | some c, some k =>
    let prev := if s.och.lastDir = 0 then 0 else s.och.lastDir + 3 * 2 ^ 24
    let t := memWrite (ochSlot k) (subcode 3 0 0 0 s.och.copySeq 0 [] ++ directoryBytes c prev) s
    occurs (mayCopy s = true ∧ copyIdle s = true ∧ c.dir = none ∧ (List.range 4096).all (fun i => c.made.contains i) = true)
      (ochEnqueue ⟨2, k, get Reg.OCH_NEXT.LAYER s, get Reg.OCH_NEXT.CLUSTER s, .directory⟩ t) s
  | _, _ => .next s

/-- Clusters read back one after the other: whether each passes verify. -/
def verifyAll : List ClusterRead → State → List Bool × State
  | [], s => ([], s)
  | o :: t, s =>
    let p := readCluster false o s
    let q := verifyAll t p.2
    ((verifyRows p.1 s).2 :: q.1, q.2)

/-- COPY_VERIFY: every cluster of a copy is read back after its directory (R285). One that fails is void: its data is written again and a new
directory follows. Once all have passed, COPIED is set. Log entry 64 (DEDUCED). -/
def execCopyVerify (obs : List ClusterRead) (s : State) : Out :=
  match s.och.copy with
  | none => .next s
  | some c =>
    let p := verifyAll obs s
    let bad := (List.range 4096).filter (fun i => !p.1.getD i false)
    let addrs := bad.filterMap (fun i => copyAddr c i s)
    occurs (mayCopy s = true ∧ copyIdle s = true ∧ c.dir ≠ none ∧ get Reg.OCH_CTL.VERIFY_EN s = 1 ∧ obs.length = 4096)
      (if bad.isEmpty then
         setZone c.zone { zoneOf c.zone s with copied := true } (setOch { p.2.och with copy := none, copies := s.och.copies ++ [c] } p.2)
       else
         raisePost 353 0 (addrs.flatMap (bytesOf 4)) <| put Reg.OCH_DISC.VOIDS (get Reg.OCH_DISC.VOIDS s + bad.length)
           (setOch { p.2.och with copy := some { c with dir := none, voids := c.voids ++ addrs, made := c.made.filter (fun i => !bad.contains i) } } p.2)) s

/-- The copy's share of a tempo: it is interrupted where it may not run (R283); jobs that waited for the permit start. Log entry 65 (DEDUCED). -/
def ochBoundary (s : State) : State := ochStart (if mayCopy s ∨ s.och.copy = none then s else dropCopy s)

/-! ### At a mount -/

/-- A directory cluster's copy (R284), with the previous directory's address, from the stream at an address. -/
def directoryOf (a v : Nat) : ZoneCopy × Nat :=
  let at4 := fun (i w : Nat) => bits v (8 * (1024 + i)) (8 * w)
  ({ zone := at4 4 4 % 2 ^ 20, ns := at4 4 4 / 2 ^ 20 % 64, first := some (at4 8 4 % 2 ^ 22),
     voids := (List.range (min (at4 12 2) 16380)).map (fun k => at4 (16 + 4 * k) 4 % 2 ^ 22), dir := some a }, at4 0 4)

/-- The directory chain from its latest cluster back (R284, R287): each cluster is a good type-3 one at the address that the one before names. -/
def dirChain : (want : Option Nat) → List (Nat × Nat) → List ZoneCopy
  | _, [] => []
  | want, (a, v) :: t =>
    let d := directoryOf a v
    if streamChecks v && bits v 24 8 == 3 && streamAddr v == a && want.all (fun w => w == a + 3 * 2 ^ 24) then
      d.1 :: (if d.2 = 0 then [] else dirChain (some d.2) t)
    else []

/-- NEXT_FREE_SEARCH: at a mount (R286): what clusters read that OCH looks at, by layer and number, and the directories from the latest back, by address and stream. A
cluster that the row does not bring reads unwritten. Log entries 65 (DEDUCED), 66 (DEDUCED). -/
def execNextFreeSearch (reads : List ((Nat × Nat) × ClusterRead)) (dirs : List (Nat × Nat)) (s : State) : Out :=
  let written := fun (l c : Nat) => ((reads.find? (fun q => q.1 == (l, c))).map (fun q => !readsUnwritten (optCfg false s) q.2)).getD false
  let p := freeCluster written (layerCount s) (layerClusters s)
  let copies := dirChain none dirs
  let seq := ((dirs.head?).map (fun q => bits q.2 80 16)).getD 0
  let cal := (((List.range 64).drop 32).find? (fun c => !written 0 c)).getD 64
  let t := puts [(Reg.OCH_NEXT.LAYER, p.1), (Reg.OCH_NEXT.CLUSTER, p.2), (Reg.OCH_NEXT.VALID, b2n (decide (p.1 < layerCount s))),
    (Reg.OCH_DISC.VOIDS, get Reg.OCH_DISC.VOIDS s + (copies.map (fun d => d.voids.length)).foldl (· + ·) 0)] s
  occurs (osvState s = 5 ∧ get Reg.OSV_STAT.LTBL s = 1 ∧ get Reg.OCH_NEXT.VALID s = 0)
    (ochReady (setOch { t.och with copies := copies, copySeq := if copies = [] then 0 else seq, lastDir := ((copies.head?).bind (·.dir)).getD 0, calNext := cal } t)) s

/-- The first data write of the mount waits or runs. -/
def dataWriteWaits (s : State) : Bool :=
  let isData := fun (j : OchJob) => j.op == 2 && j.use != .record
  s.och.queue.any isData || (s.och.job).any isData

/-- CALIBRATION_RECORD_WRITE: at the first data write of a mount, a layer table that differs from the last record goes to a free cluster of the
calibration zone (R286); while none is free there is an event instead. Log entry 57 (DEDUCED). -/
def execCalibrationRecordWrite (s : State) : Out :=
  let n := layerCount s
  let now := (List.range n).map (fun l => memRead (layerAddr l s) 32 s)
  let user := (bytesOf 2 n ++ List.replicate 14 0 ++ now.flatten ++ List.replicate 65536 0).take 65536
  let t := setOch { s.och with recorded := true } s
  occurs (s.och.recorded = false ∧ dataWriteWaits s = true)
    (if now = s.och.record then t
     else if 64 ≤ s.och.calNext then postNone 11 0 t
     else match spareSlot s with
       | none => s
       | some k =>
         ochAhead ⟨2, k, 0, s.och.calNext, .record⟩
           (memWrite (ochSlot k) (subcode 2 0 0 0 0 0 [] ++ user) (setOch { t.och with calNext := s.och.calNext + 1 } t))) s

/-! ### Recovery and failure -/

/-- OPTICAL_RECOVERY_READ: index i of a zone's copy is read for deep recovery (R287), between clusters being written. A subcode that names another
zone or index is MISMATCH; one that fails is FAILED. Log entry 258 (DEDUCED). -/
def execOpticalRecoveryRead (z i : Nat) (o : ClusterRead) (s : State) : Out :=
  match s.och.copies.find? (fun c => c.zone == z) with
  | none => .next s
  | some c => match copyAddr c i s with
    | none => .next s
    | some a =>
      occurs (get Reg.OCH_STAT.READY s = 1 ∧ get Reg.OCH_STAT.WRITING s = 0)
        (let p := readCluster false o s
         match decodedStream (eraseEn s) p.1 s with
         | some v =>
           if streamAddr v ≠ a ∨ streamZone v ≠ z ∨ streamIdx v ≠ i then raisePost 357 0 (bytesOf 4 a) p.2
           else setOch { p.2.och with found := some (z, i, v) } p.2
         | none => ochFailed (addrLayer a) (addrCluster a) true p.2) s

/-- A disc fails (R288). -/
def discFails (s : State) : Bool :=
  decide (get Reg.OCH_VERIFY_CFG.VOID_MAX s < get Reg.OCH_DISC.VOIDS s) || decide (2 ≤ s.osv.badMounts) || s.och.badCopy

/-- DISC_FAILURE: OCH_DISC.FAILED with line 4 (R288). -/
def execDiscFailure (s : State) : Out :=
  occurs (discFails s = true ∧ get Reg.OCH_DISC.FAILED s = 0) (linePost 356 Reg.OCH_DISC.FAILED 1 0 [] s) s

end Sys2Proof.Machine
end

