-- ==== Sys2Proof/Machine/Seals.lean ====
section
/-! DEFINITION. 12_seals_and_identity.md: zone digests (R316 to R319), seal records and the log (R320 to R324), proofs (R325, R326), retention (R327),
the identity key (R328 to R331), attestation (R332, R333), the chain (R334, R335) and witnessing (R337). Byte strings are lists; a
digest, key or signature is the number its bytes spell, first byte lowest. -/

namespace Sys2Proof.Machine

def setSeals (r : SealSt) (s : State) : State := { s with seals := r }

/-! ### Windows of bytes -/

/-- The words of a byte window: byte 4i + j lies in bits 8j + 7:8j of word i. -/
def putWindow (f : Nat → Fld) (n v : Nat) (s : State) : State := (List.range n).foldl (fun t i => put (f i) (bits v (32 * i) 32) t) s
def windowNat (f : Nat → Fld) (n : Nat) (s : State) : Nat := (List.range n).foldl (fun v i => v + get (f i) s * 2 ^ (32 * i)) 0

/-- KEYID, the public key and the certificate. -/
def keyId (s : State) : Nat := windowNat Reg.SEAL_KEYID.ID 16 s
def pubKey (s : State) : Nat := windowNat Reg.SEAL_PUBKEY.KEY 33 s
def certBytes (s : State) : List Nat := (bytesOf 2048 (windowNat Reg.SEAL_CERT.DATA 512 s)).take (get Reg.SEAL_CERT_CTL.LEN s)

/-! ### The zone digest -/

/-- The leaf of a block (R316): its namespace, its namespace LBA and its 4,096 bytes; a block never written has 64 zero bytes. -/
def leafHash (ns lba data : Nat) : Nat := hash ([ns % 256] ++ bytesOf 8 lba ++ bytesOf 4096 data)

/-- A leaf is present (R317): its block has passed, or the write pointer lies at or below the block at finish. -/
def leafOf (z k : Nat) (c : SealCtx) (s : State) : Option Nat :=
  match AMap.lookup k c.leaves with
  | some h => some h
  | none => match AMap.lookup z s.zmg.fullAt with
    | some p => if (zoneOf z s).state = 14 ∧ p ≤ k then some 0 else none
    | none => none

/-- The leaves of group i, if all are present. -/
def groupLeaves (z i : Nat) (c : SealCtx) (s : State) : Option (List Nat) :=
  let l := (List.range 16).filterMap (fun j => leafOf z (16 * i + j) c s)
  if l.length = 16 then some l else none

/-- G_i from the leaves of its group. -/
def groupDigest (leaves : List Nat) : Nat := hash (leaves.flatMap (bytesOf 64))

/-- R_i from R_i−1 and G_i. -/
def foldDigest (r g : Nat) : Nat := hash (bytesOf 64 r ++ bytesOf 64 g)

/-- GROUP_FOLD: the next group of a context whose 16 leaves are present is folded (R317). -/
def execGroupFold (z : Nat) (s : State) : Out :=
  match AMap.lookup z s.seals.ctxs with
  | none => .next s
  | some c =>
    let i := c.groups.length
    match groupLeaves z i c s with
    | none => .next s
    | some l =>
      let g := groupDigest l
      let d : SealCtx := { c with leaves := c.leaves.filter (fun p => decide (16 * (i + 1) ≤ p.1)), groups := c.groups ++ [g], r := foldDigest c.r g }
      occurs (get Reg.SEAL_CTL.EN s = 1 ∧ i < 4096) (showGroup d i g (showRun d (setCtxOf z d s))) s

/-- A zone that can never be sealed (R319): Read Only, its context freed, with line 1. -/
def zoneDamaged (z : Nat) (s : State) : State :=
  let t := freeSealCtx z (setZone z { zoneOf z s with state := 13 } s)
  raisePost 481 0 (bytesOf 3 z) (setSeals { t.seals with queue := t.seals.queue.filter (· != z) } t)

/-- The zone has a block on the lost-write list. -/
def zoneLost (z : Nat) (s : State) : Bool :=
  let d := zoneOf z s
  let k := lbasPerBlock d.ns s
  touchesLost d.ns ((z - get (Reg.ZMG_NS_ZONES.FIRST d.ns) s) * 65536 * k) (65536 * k) s

/-- A whole context in the table. -/
def showCtx (c : SealCtx) (s : State) : State :=
  c.leaves.foldl (fun t p => showLeaf c p.1 p.2 t) ((List.range c.groups.length).foldl (fun t i => showGroup c i (c.groups.getD i 0) t) (showRun c s))

/-- SEAL_CONTEXT_REBUILD: an uncorrectable error in a context (R319): rebuilt by rehashing, from the groups that `blocks` hold (the zone's blocks up
to the pointer, in order), or the zone is damaged where a block is lost or cannot be read. -/
def execSealContextRebuild (z : Nat) (blocks : List Nat) (readable : Bool) (s : State) : Out :=
  let d := zoneOf z s
  let k := lbasPerBlock d.ns s
  let first := (z - get (Reg.ZMG_NS_ZONES.FIRST d.ns) s) * 65536
  let leaves := (List.range blocks.length).map (fun i => leafHash d.ns ((first + i) * k) (blocks.getD i 0))
  let groups := (List.range (blocks.length / 16)).map (fun i => groupDigest ((leaves.drop (16 * i)).take 16))
  let c : SealCtx := { slot := (AMap.getD s.seals.ctxs z {}).slot
                       leaves := ((List.range blocks.length).drop (16 * groups.length)).map (fun i => (i, leaves.getD i 0))
                       groups := groups, r := groups.foldl foldDigest (hash (zoneHeader z d)) }
  occurs ((AMap.getD s.seals.ctxs z {}).damaged = true ∧ (readable = true → blocks.length = min d.host 65536))
    (if zoneLost z s ∨ !readable then zoneDamaged z s
     else showCtx c (setCtxOf z c s)) s

/-! ### Signing -/

/-- SEAL's signature over a string of bytes (R322): with its check, once more where that fails; where both fail it stops until the next reset,
with FAULT and line 2. -/
def sealSign (l : List Nat) (s : State) : Nat := ofBytes (signP521 (s.seals.key.getD 0) (sha512 l))
def signFails (s : State) : State := linePost 482 Reg.SEAL_STAT.FAULT 1 0 [] (setSeals { s.seals with stopped := true } s)

/-- The seal hash of a record (R321). -/
def sealHash (record : List Nat) : Nat := hash (record.take 380)

/-- The next SEQ (R334): one above the head, 0 without one. -/
def nextSeq (s : State) : Nat :=
  if get Reg.SEAL_SEQ_HI.VALID s = 1 then get Reg.SEAL_SEQ_LO.SEQ s + 2 ^ 32 * get Reg.SEAL_SEQ_HI.SEQ s + 1 else 0
def headHash (s : State) : Nat := if get Reg.SEAL_SEQ_HI.VALID s = 1 then windowNat Reg.SEAL_HEAD.HASH 16 s else 0

/-- The chain head as the registers show it. -/
def showHead (seq h : Nat) (s : State) : State :=
  putWindow Reg.SEAL_HEAD.HASH 16 h (puts [(Reg.SEAL_SEQ_LO.SEQ, bits seq 0 32), (Reg.SEAL_SEQ_HI.SEQ, bits seq 32 16), (Reg.SEAL_SEQ_HI.VALID, 1)] s)

/-- Bytes 0 to 247 of the seal record of a zone (R321). -/
def recordBody (z wp digest : Nat) (s : State) : List Nat :=
  let d := zoneOf z s
  bytesOf 4 0x4C414553 ++ bytesOf 2 1 ++ bytesOf 2 (b2n s.seals.newKey + 2 * b2n s.seals.newLog) ++ bytesOf 8 (nextSeq s)
  ++ bytesOf 4 (z % 2 ^ 20 + d.ns % 64 * 2 ^ 20) ++ bytesOf 4 wp ++ bytesOf 6 d.stamp ++ bytesOf 6 (tmpCount s) ++ bytesOf 4 (lifeSec s)
  ++ bytesOf 8 (wallMs s) ++ bytesOf 4 (get (Reg.SEAL_NS_RET.RET d.ns) s) ++ bytesOf 4 (get Reg.BOOT_IMG_GEN.GEN s) ++ bytesOf 64 digest
  ++ bytesOf 64 (headHash s) ++ bytesOf 64 (keyId s)

/-! ### The log -/

/-- The free sectors of the log as SEAL_LOG shows them: an entry is 65 sectors, a zone holds at most 1,008. -/
def showSealLog (free : Nat) (s : State) : State :=
  put Reg.SEAL_LOG.LEFT (min 1008 (free / 65)) (setSeals { s.seals with logFree := free } s)

/-- Room for n sectors at the end of the log (R324): in the current zone, or in a spare zone. -/
def logRoom (n : Nat) (s : State) : Option State :=
  if n ≤ s.seals.logFree then some s
  else match s.zmg.spares with
    | [] => none
    | _ :: t => some (put Reg.SEAL_STAT.LOG_FULL 0 (showSealLog 65536
        (bump Reg.SEAL_LOG.ZONES (setSpares t s))))

/-- No zone is free for the log (R324). -/
def logFull (s : State) : State := raisePost 486 0 [] (put Reg.SEAL_STAT.LOG_FULL 1 s)

/-- The first sector of a seal entry (R324). -/
def entrySector (e : SealEntry) : List Nat :=
  (e.bytes ++ [0, 0, 0, 0] ++ e.pubkey ++ bytesOf 2 e.cert.length ++ [0, 0] ++ e.cert ++ List.replicate 4096 0).take 4096

/-- A seal is committed (R323): the log entry, the chain head, SEALED, line 0; its witnesses are asked next (R337). -/
def commitSeal (z : Nat) (c : SealCtx) (s : State) : State :=
  let d := zoneOf z s
  let body := recordBody z ((AMap.lookup z s.zmg.fullAt).getD d.host) c.r s
  let bytes := body ++ bytesOf 132 (sealSign body s)
  let e : SealEntry := { seq := nextSeq s, zone := z, ns := d.ns, life := lifeSec s, bytes := bytes, pubkey := bytesOf 132 (pubKey s)
                         cert := certBytes s, groups := c.groups }
  let t := showHead e.seq (sealHash bytes) (showSealLog (s.seals.logFree - 65) s)
  let u := setSeals { t.seals with log := t.seals.log ++ [e], head := some (e.seq, sealHash bytes, keyId s), newKey := false, newLog := false
                                   queue := t.seals.queue.filter (· != z), toWit := t.seals.toWit ++ [e.seq] } t
  raisePost 480 0 (bytesOf 4 z) (bump Reg.SEAL_CNT.SEALS (freeSealCtx z (setZone z { zoneOf z u with sealed := true } u)))

/-- The record's WP: the sectors written when the zone became Full (R321). -/
def sealedZone (z : Nat) (s : State) : State :=
  match AMap.lookup z s.seals.ctxs with
  | none => s
  | some c => commitSeal z c s

/-- A zone is ready to be sealed, once its turn comes (R320): its digest is formed and SEAL may sign. -/
def sealReady (z : Nat) (s : State) : Bool :=
  mode s == 3 && get Reg.SEAL_CTL.EN s == 1 && !s.seals.stopped && s.seals.key.isSome && eligible z s && s.pins.pfailN
  && (match AMap.lookup z s.seals.ctxs with | some c => c.groups.length == 4096 | none => false)

/-- SEAL_ZONE: the first eligible zone is sealed (R320 to R323): `ok1` and `ok2` are the checks of the signature and of its repetition. Log entry 156 (DEDUCED). -/
def execSealZone (ok1 ok2 : Bool) (s : State) : Out :=
  match s.seals.queue with
  | [] => .next s
  | z :: _ =>
    occurs (sealReady z s = true)
      (if !ok1 && !ok2 then signFails s
       else match logRoom 65 s with
         | none => if get Reg.SEAL_STAT.LOG_FULL s = 1 then s else logFull s
         | some t => sealedZone z t) s

/-! ### Proofs -/

/-- Reads are served (R58, R326). -/
def readsServed (s : State) : Bool := mode s == 3 || mode s == 4 || (mode s == 2 && s.boot.mediaReads)

/-- A receive takes a response (R325), cut to the allocation length; it is released once it has been read in full. Log entry 267 (DEDUCED). -/
def takeResponse (port : Port) (alloc : Nat) (r : ProofReq) (status : Nat) (data : List Nat) (s : State) : State :=
  let all := bytesOf 4 r.tag ++ bytesOf 2 status ++ [0, 0] ++ bytesOf 4 data.length ++ [0, 0, 0, 0] ++ data
  send (.proof port (all.take alloc)) (if all.length ≤ alloc then setSeals { s.seals with reqs := s.seals.reqs.erase r } s else s)

/-- A proof operation is answered: the response is held for its TAG, and the first receive that waits for it completes (R325). Log entry 267 (DEDUCED). -/
def answer (r : ProofReq) (status : Nat) (data : List Nat) (s : State) : State :=
  let x := { r with resp := some (status, data) }
  let t := setSeals { s.seals with reqs := s.seals.reqs.map (fun y => if y = r then x else y) } s
  match s.seals.recvs.find? (fun w => w.1 == r.port && w.2.1 == r.tag % 65536) with
  | none => t
  | some w => takeResponse w.1 w.2.2 x status data (setSeals { t.seals with recvs := t.seals.recvs.erase w } t)

/-- The requests of a port: beyond 64 the oldest goes (R325). -/
def evictOldest (port : Port) (l : List ProofReq) : List ProofReq :=
  if 64 ≤ (l.filter (fun r => r.port == port)).length then
    match l.find? (fun r => r.port == port) with
    | some r => l.erase r
    | none => l
  else l

/-- PROOF_REQUEST: the 96 bytes of a request arrive (R325). SATA carries none. Reads that are not served are answered becoming ready; an OP that
does not exist gets STATUS 1. -/
def execProofRequest (port : Port) (bytes : List Nat) (s : State) : Out :=
  let v := ofBytes bytes
  let r : ProofReq := { port := port, op := bits v 0 16, tag := bits v 32 32, p1 := bits v 64 64, p2 := bits v 128 64, nonce := (bytes.drop 32).take 64 }
  let t := setSeals { s.seals with reqs := evictOldest port s.seals.reqs ++ [r] } s
  occurs ((port = .pcie ∨ port = .sas0 ∨ port = .sas1) ∧ bytes.length = 96)
    (if r.op = 0 ∨ 6 < r.op then answer r 1 [] t
     else if r.op ≤ 4 ∧ readsServed s = false then send (statusMsg port 0 r.tag .becomingReady 0) s
     else t) s

/-- The oldest request of an OP that has no response yet. -/
def nextReq (op : Nat) (s : State) : Option ProofReq := s.seals.reqs.find? (fun r => r.op == op && r.resp.isNone)

/-- A meaning of the oldest request of an OP. Log entry 80 (DESIGN CHOICE). -/
def onReq (op : Nat) (f : ProofReq → State) (s : State) : Out :=
  match nextReq op s with
  | none => .next s
  | some r => .next (f r)

def entryAt (seq : Nat) (s : State) : Option SealEntry := s.seals.log.find? (fun e => e.seq == seq)

/-- GET_RECORD: OP 1 (R325). `readable` tells whether the log could be read after deep recovery. -/
def execGetRecord (readable : Bool) (s : State) : Out :=
  onReq 1 (fun r => match entryAt r.p1 s with
    | none => answer r 4 [] s
    | some e => if readable then answer r 0 (entrySector e) s else answer r 6 [] s) s

/-- The current seal of a zone (R326): it counts as sealed once SEALED is set. -/
def sealOf (z : Nat) (s : State) : Option SealEntry := if (zoneOf z s).sealed then recordOf z s else none

/-- GET_ZONE: OP 2 (R325, R326): namespace and logical zone. -/
def execGetZone (readable : Bool) (s : State) : Out :=
  onReq 2 (fun r =>
    if 64 ≤ r.p1 ∨ inNs r.p1 r.p2 s = false then answer r 1 [] s
    else match sealOf r.p2 s with
      | none => answer r 3 [] s
      | some e => if readable then answer r 0 (entrySector e) s else answer r 6 [] s) s

/-- GET_CHAIN: OP 3 (R325): up to 256 records from a SEQ on. -/
def execGetChain (readable : Bool) (s : State) : Out :=
  onReq 3 (fun r =>
    if 256 < r.p2 then answer r 7 [] s
    else if r.p2 = 0 then answer r 1 [] s
    else if (entryAt r.p1 s).isNone then answer r 4 [] s
    else if readable then
      answer r 0 (((List.range r.p2).filterMap (fun i => (entryAt (r.p1 + i) s).map (·.bytes))).flatten) s
    else answer r 6 [] s) s

/-- The response data of GET_PROOF (R325): header, R_i−1, the 16 leaves of group i, G_i+1 on, the record. Log entry 83 (DESIGN CHOICE). -/
def proofData (ns z k : Nat) (leaves : List Nat) (e : SealEntry) (s : State) : List Nat :=
  let i := k / 16
  let before := (e.groups.take i).foldl foldDigest (hash (zoneHeader z (zoneOf z s)))
  bytesOf 64 (Config.proofHeader ns z k i).toNat ++ bytesOf 64 before ++ leaves.flatMap (bytesOf 64)
  ++ (e.groups.drop (i + 1)).flatMap (bytesOf 64) ++ e.bytes

/-- GET_PROOF: OP 4 (R325): namespace and namespace LBA; `blocks` are the 16 blocks of its group as they read, none for one never written. -/
def execGetProof (blocks : List (Option Nat)) (readable : Bool) (s : State) : Out :=
  onReq 4 (fun r =>
    let q := lbasPerBlock r.p1 s
    let blk := r.p2 / q
    let z := zoneOfBlock r.p1 blk s
    let k := blk % 65536
    let first := blk - k % 16
    let leaves := (List.range 16).map (fun j => match blocks.getD j none with
      | none => 0
      | some d => leafHash r.p1 ((first + j) * q) d)
    if 64 ≤ r.p1 ∨ nsLbas r.p1 s ≤ r.p2 then answer r 1 [] s
    else match sealOf z s with
      | none => answer r 3 [] s
      | some e => if readable then answer r 0 (proofData r.p1 z k leaves e s) s else answer r 6 [] s) s

/-! ### Attestation -/

/-- The configuration digest (R333). -/
def configDigest (s : State) : Nat :=
  let each := fun (d : RegDesc) => (List.range 64).flatMap (fun n => bytesOf 4 (peekWord (d.base + n * ((d.dims.map (·.2)).headD 4)) s))
  hash (bytesOf 4 (peekWord Reg.SYS_PATH_CFG.desc.base s)
    ++ each Reg.ZMG_NS_CFG.desc ++ each Reg.ZMG_NS_ZONES.desc ++ each Reg.ZMG_NS_COUNT.desc ++ each Reg.ZMG_NS_MC.desc ++ each Reg.SEAL_NS_RET.desc
    ++ bytesOf 4 (peekWord Reg.SEAL_CTL.desc.base s))

/-- Bytes 0 to 363 of the attestation report (R332). -/
def reportBody (nonce : List Nat) (s : State) : List Nat :=
  bytesOf 4 0x54535441 ++ bytesOf 2 1 ++ bytesOf 2 (bits (peekWord Reg.BOOT_STAT.desc.base s) 0 5) ++ (nonce ++ List.replicate 64 0).take 64
  ++ bytesOf 64 (((s.boot.image).map (·.digest)).getD 0) ++ bytesOf 4 (((s.boot.image).map (·.generation)).getD 0) ++ bytesOf 2 Config.romVersion.toNat
  ++ [get Reg.BOOT_STAT.KEY_SLOT s, bits (peekWord Reg.BOOT_KEY_STAT.desc.base s) 0 8] ++ bytesOf 64 (configDigest s)
  ++ bytesOf 8 (nextSeq s - 1) ++ bytesOf 64 (headHash s) ++ bytesOf 4 (lifeSec s) ++ bytesOf 8 (wallMs s) ++ bytesOf 6 (tmpCount s) ++ [0, 0]
  ++ bytesOf 64 (keyId s)

/-- What refuses an attestation (R325, R326, R329, R335): STATUS 3, 5 and 8; of several, which is given is not stated. Log entry 82 (DEDUCED). -/
def attestBlocked (s : State) : List Nat :=
  (if get Reg.SEAL_STAT.FAULT s = 1 ∨ s.seals.stopped then [3] else []) ++ (if get Reg.SEAL_STAT.PROV s = 0 then [5] else [])
  ++ (if mode s = 3 ∨ mode s = 4 then [] else [8])

/-- ATTEST: OP 5 (R332, R335); a seal record that is ready goes ahead of it (R322). Log entries 14 (DESIGN CHOICE), 80 (DESIGN CHOICE). -/
def execAttest (ok1 ok2 : Bool) (s : State) : Out :=
  onReq 5 (fun r =>
    let l := attestBlocked s
    if s.seals.queue.head?.any (fun z => sealReady z s) then s
    else if l ≠ [] then answer r (pickOpen l s) [] (if l.length ≤ 1 then s else freed s)
    else if !ok1 && !ok2 then answer r 3 [] (signFails s)
    else
      let b := reportBody r.nonce s
      answer r 0 (b ++ bytesOf 132 (sealSign b s)) s) s

/-- GET_CERT: OP 6 (R325): the public key, then the certificate. -/
def execGetCert (s : State) : Out :=
  onReq 6 (fun r => if get Reg.SEAL_STAT.PROV s = 0 then answer r 5 [] s else answer r 0 (bytesOf 132 (pubKey s) ++ certBytes s) s) s

/-- PROOF_RECEIVE: a receive with TAG bits 15:0 (R325): it completes once its response is ready; STATUS 2 for an unknown TAG. Log entry 267 (DEDUCED). -/
def execProofReceive (port : Port) (tag alloc : Nat) (s : State) : Out :=
  match s.seals.reqs.find? (fun r => r.port == port && r.tag % 65536 == tag) with
  | none => .next (send (.proof port ((bytesOf 4 tag ++ bytesOf 2 2 ++ List.replicate 10 0).take alloc)) s)
  | some r => match r.resp with
    | none => .next (setSeals { s.seals with recvs := s.seals.recvs ++ [(port, tag, alloc)] } s)
    | some q => .next (takeResponse port alloc r q.1 q.2 s)

/-- PROOF_RESPONSE_EXPIRY: a response unread 60 s after it became ready is released (R325). -/
def execProofResponseExpiry (port : Port) (tag readyS : Nat) (s : State) : Out :=
  match s.seals.reqs.find? (fun r => r.port == port && r.tag == tag && r.resp.isSome) with
  | none => .next s
  | some r => occurs (60 ≤ readyS) (setSeals { s.seals with reqs := s.seals.reqs.erase r } s) s

/-! ### Retention, key and certificate -/

/-- RETENTION_WRITE: SEAL_NS_RET[n] (R327): once TYPE is 4 a lower value is ignored, with an event. -/
def execRetentionWrite (n value : Nat) (s : State) : Out :=
  unit n 64 (.next (if nsType n s = 4 ∧ value % 2 ^ 32 < get (Reg.SEAL_NS_RET.RET n) s then postReg (Reg.SEAL_NS_RET.RET n) n s
    else put (Reg.SEAL_NS_RET.RET n) value s))

/-- KEY_GENERATE: a write of SEAL_PROV (R328, *Provisioning procedure*): GEN with KEY 0xB7 draws a key from the entropy source; once PROV is 1, GEN is
ignored with an event. -/
def execKeyGenerate (value : Nat) (s : State) : Out :=
  .next
    (if value.testBit 0 = false ∨ bits value 24 8 ≠ 0xB7 then s
     else if get Reg.SEAL_STAT.PROV s = 1 then postReg Reg.SEAL_PROV.GEN 0 s
     else if get Reg.SEAL_PROV.BUSY s = 1 then s
     else freed (put Reg.SEAL_PROV.BUSY 1 (setSeals { s.seals with genKey := some (1 + freeVal Config.scalarBits s % (ecN - 1)) } s)))

/-- The public key and KEYID of a private scalar are shown. Log entry 81 (DEDUCED). -/
def showKey (k : Nat) (s : State) : State :=
  putWindow Reg.SEAL_KEYID.ID 16 (hash (publicKey k)) (putWindow Reg.SEAL_PUBKEY.KEY 33 (ofBytes (publicKey k)) s)

/-- KEY_GENERATE_DONE: the key store is programmed (R328). Log entry 81 (DEDUCED). -/
def execKeyGenerateDone (s : State) : Out :=
  match s.seals.genKey with
  | none => .next s
  | some k => .next (showKey k (puts [(Reg.SEAL_PROV.BUSY, 0), (Reg.SEAL_STAT.PROV, 1)] (setSeals { s.seals with key := some k, genKey := none } s)))

/-- CERT_COMMIT: SEAL_CERT_CTL.COMMIT (R331). -/
def execCertCommit (s : State) : Out :=
  let n := get Reg.SEAL_CERT_CTL.LEN s
  .next (if get Reg.SEAL_STAT.PROV s = 0 ∨ n = 0 ∨ 2048 < n then postReg Reg.SEAL_CERT_CTL.COMMIT 0 s else put Reg.SEAL_CERT_CTL.SET 1 s)

/-- SEAL_SELFTEST: at BRINGUP SEAL loads its key, derives the public key and tests itself (R328); on an empty key store it tests on the built-in key
(R329). -/
def execSealSelftest (katOk ok1 ok2 : Bool) (s : State) : Out :=
  let t := match s.seals.key with
    | some k => showKey k (puts [(Reg.SEAL_STAT.PROV, 1), (Reg.SEAL_STAT.KEY_LOADED, 1)] s)
    | none => puts [(Reg.SEAL_STAT.PROV, 0), (Reg.SEAL_STAT.KEY_LOADED, 0)] s
  let good := put Reg.SEAL_STAT.SELFTEST 1 { t with boot := { t.boot with sealReady := true } }
  occurs (mode s = 2 ∧ s.boot.sealReady = false ∧ s.seals.stopped = false)
    (if katOk && (ok1 || ok2) then good else signFails s) s

/-! ### The chain -/

/-- What the log's last record says: SEQ, seal hash, its key's ID and PREV. -/
def lastRecord (s : State) : Option (Nat × Nat × Nat × Nat) :=
  (s.seals.log.getLast?).map (fun e => (e.seq, sealHash e.bytes, hash e.pubkey, ofBytes ((e.bytes.drop 120).take 64)))

/-- The head taken, with the flags NEW_KEY and NEW_LOG of the next record, and whether the two heads conflict or the MRAM head is rewritten. -/
structure HeadChoice where
  head : Option (Nat × Nat)
  newKey : Bool := false
  newLog : Bool := false
  conflict : Bool := false
  rewrite : Bool := false

/-- The table of R334. -/
def chooseHead (own : Nat) (mram : Option (Nat × Nat × Nat)) (last : Option (Nat × Nat × Nat × Nat)) : HeadChoice :=
  let mine := match mram with | some m => if m.2.2 = own then some (m.1, m.2.1) else none | none => none
  match mine, last with
  | some m, some l =>
    if l.1 = m.1 ∧ l.2.1 = m.2 then { head := some m }
    else if l.2.2.1 = own ∧ l.1 = m.1 + 1 ∧ l.2.2.2 = m.2 then { head := some (l.1, l.2.1) }
    else { head := some (if m.1 < l.1 then (l.1, l.2.1) else m), newLog := true, conflict := true }
  | some m, none => { head := some m, newLog := true }
  | none, some l =>
    if l.2.2.1 = own then { head := some (l.1, l.2.1), rewrite := true } else { head := some (l.1, l.2.1), newKey := true }
  | none, none => { head := none, newKey := true, newLog := true }

/-- A record's signature verifies under a public key (R321, R334, R337). Log entry 85 (DEDUCED). -/
def recordVerifies (bytes key : List Nat) : Bool := verifyP521 key (sha512 (bytes.take 248)) ((bytes.drop 248).take 132)

/-- CHAIN_HEAD_SELECT: at BRINGUP (R334): the last log entry counts where its signature checks under the key stored with it; the MRAM head is rewritten where the table says so. Log entry 85 (DEDUCED). -/
def execChainHeadSelect (s : State) : Out :=
  let good := match s.seals.log.getLast? with | some e => recordVerifies e.bytes e.pubkey | none => false
  let c := chooseHead (keyId s) s.seals.head (if good then lastRecord s else none)
  let t := match c.head with
    | some h => showHead h.1 h.2 (if c.rewrite then setSeals { s.seals with head := some (h.1, h.2, keyId s) } s else s)
    | none => put Reg.SEAL_SEQ_HI.VALID 0 s
  let u := setSeals { t.seals with newKey := c.newKey, newLog := c.newLog } t
  let v := if c.conflict then linePost 485 Reg.SEAL_STAT.CONFLICT 1 0
      (bytesOf 6 (((s.seals.head).map (·.1)).getD 0) ++ bytesOf 6 (((lastRecord s).map (·.1)).getD 0)) u
    else if c.rewrite then postNone 15 0 u else u
  occurs (mode s = 2 ∧ s.boot.sealReady = true) v s

/-! ### Witnessing -/

/-- The peers that are asked: PEER0 and, for N = 2 or 3, PEER1. -/
def witnessPeers (s : State) : List Nat :=
  let n := get Reg.SEAL_WIT_CFG.N s
  if n = 0 then [] else if n = 1 then [get Reg.SEAL_WIT_CFG.PEER0 s] else [get Reg.SEAL_WIT_CFG.PEER0 s, get Reg.SEAL_WIT_CFG.PEER1 s]

/-- A request to a peer (R337, R426): a WITNESS frame with bytes 0 to 515 of the entry's first sector. -/
def askWitness (seq peer : Nat) (s : State) : State :=
  match entryAt seq s with
  | some e =>
    originate { dst := peer, vc := 0, src := nodeId s, type := 0x16, hops := 1, flags := 2, tag := s.fab.tag, status := 0, p1 := 0, p2 := 0,
                payload := (entrySector e).take 516 } (setFab { s.fab with tag := (s.fab.tag + 1) % 2 ^ 32 } s)
  | none => s

/-- WITNESS_REQUEST: after a seal its peers are asked (R337). -/
def execWitnessRequest (s : State) : Out :=
  match s.seals.toWit with
  | [] => .next s
  | q :: t =>
    let u := setSeals { s.seals with toWit := t } s
    .next
      (if get Reg.SEAL_CTL.WIT_EN s = 1 then
         (witnessPeers s).foldl (fun v p => askWitness q p (setSeals { v.seals with wits := v.seals.wits ++ [{ peer := p, seq := q }] } v)) u
       else u)

/-- A statement names the record asked about and the peer's key (R337). -/
def statementFits (stmt key : List Nat) (e : SealEntry) : Bool :=
  let v := ofBytes stmt
  stmt.length == 360 && key.length == 132 && bits v 0 32 == 0x534E5457 && bits v 32 16 == 1 && bits v 64 64 == e.seq
  && bits v 128 512 == sealHash e.bytes && bits v 640 512 == hash e.pubkey && bits v (8 * 164) 512 == hash key

/-- A statement's signature verifies under the peer's key. -/
def statementVerifies (stmt key : List Nat) : Bool := verifyP521 key (sha512 (stmt.take 228)) (stmt.drop 228)

/-- WITNESS_STATEMENT: a peer's statement comes (R337): checked, with its signature, and written to the log as a witness entry, line 3. -/
def execWitnessStatement (peer seq : Nat) (stmt key : List Nat) (s : State) : Out :=
  match s.seals.wits.find? (fun w => w.peer == peer && w.seq == seq), entryAt seq s with
  | some w, some e =>
    let row := (stmt ++ List.replicate 24 0 ++ key ++ List.replicate 4096 0).take 4096
    occurs (statementFits stmt key e = true ∧ statementVerifies stmt key = true)
      (match logRoom 1 s with
       | none => logFull s
       | some t =>
         let u := showSealLog (t.seals.logFree - 1) t
         raisePost 483 0 (bytesOf 8 seq) (bump Reg.SEAL_CNT.WITNESSED
           (setSeals { u.seals with stmts := u.seals.stmts ++ [row], wits := u.seals.wits.erase w } u))) s
  | _, _ => .next s

/-- WITNESS_TIMEOUT: no answer within TMO_MS (R337): asked again up to RETRIES times, then an event and line 4. -/
def execWitnessTimeout (peer seq elapsedMs : Nat) (s : State) : Out :=
  match s.seals.wits.find? (fun w => w.peer == peer && w.seq == seq) with
  | none => .next s
  | some w =>
    occurs (get Reg.SEAL_WIT_TMO.TMO_MS s ≤ elapsedMs)
      (if w.tries < get Reg.SEAL_WIT_TMO.RETRIES s then
         askWitness seq peer (setSeals { s.seals with wits := s.seals.wits.map (fun x => if x = w then { x with tries := x.tries + 1 } else x) } s)
       else raisePost 484 0 (bytesOf 8 seq) (setSeals { s.seals with wits := s.seals.wits.erase w } s)) s

end Sys2Proof.Machine
end

