-- ==== Sys2Proof/Machine/MemProt.lean ====
section
/-! DEFINITION. 15_memory_protection.md: words and their checks (R385 to R390), partial writes (R391), scrubbing (R392 to R395), the flip
mask (R396), repairs (R397, R398) and the DDR5 interface (R383, R384). -/

namespace Sys2Proof.Machine

def setMemp (r : MemSt) (s : State) : State := { s with memp := r }

/-! ### Words -/

/-- The memory code of an address (15_memory_protection.md, *MEM registers*); 0 for the boot ROM. -/
def memCode (a : Nat) : Nat :=
  if a < 0x10000000 then 0 else if a < 0x20000000 then 5 else if a < 0x28000000 then 2 else if a < 0x30000000 then 4
  else if a < 0x1000000000 then 6 else 1

/-- The size of a word: the 32-byte codeword of DRAM, 8 bytes elsewhere (R385, R387). -/
def wordSize (code : Nat) : Nat := if code = 1 then 32 else 8
def wordAt (code a : Nat) : Nat := a / wordSize code * wordSize code

/-- The words that a range touches, in ascending order. -/
def wordsIn (code a n : Nat) : List Nat :=
  if n = 0 then [] else
  (List.range ((a + n - 1) / wordSize code - a / wordSize code + 1)).map (fun i => wordAt code a + i * wordSize code)

/-- The 8-byte words of a word. -/
def eighths (code w : Nat) : List Nat := (List.range (wordSize code / 8)).map (fun i => w + 8 * i)

def isPoisoned (code w : Nat) (s : State) : Bool := (eighths code w).any (fun a => s.poison.contains a)
def poisonWord (code w : Nat) (s : State) : State :=
  { s with poison := s.poison ++ (eighths code w).filter (fun a => !s.poison.contains a) }
def unpoisonWord (code w : Nat) (s : State) : State :=
  { s with poison := s.poison.filter (fun a => !(decide (w ≤ a) && decide (a < w + wordSize code))) }

/-! ### Bits in error -/

def upsetKey (code w : Nat) : Nat := code * 2 ^ 40 + w
def upsetOf (code w : Nat) (s : State) : Option (Nat × Option (Nat × Nat) × Bool × Nat) := AMap.lookup (upsetKey code w) s.memp.upsets
def setUpset (code w cls : Nat) (holds : Option (Nat × Nat)) (target : Bool × Nat) (s : State) : State :=
  setMemp { s.memp with upsets := AMap.insert (upsetKey code w) (cls, holds, target) s.memp.upsets } s
def clearUpset (code w : Nat) (s : State) : State := setMemp { s.memp with upsets := AMap.erase (upsetKey code w) s.memp.upsets } s

/-- Bits in error appear in a word; beside others they make it uncorrectable, and the data bits of both are in error. Log entry 274 (DEDUCED). -/
def addUpset (code : Nat) (u : Upset) (s : State) : State :=
  let w := wordAt code u.addr
  if u.cls = 0 then s
  else match upsetOf code w s with
    | none => setUpset code w (min 2 u.cls) u.holds (u.targetOk, u.mask) s
    | some (_, _, g) => setUpset code w 2 u.holds (u.targetOk, u.mask ^^^ g.2) s

/-- The memory of a counter of MEM_CE: 0 DRAM, 1 SRAM, 2 MRAM. -/
def memKind (code : Nat) : Nat := if code = 1 then 0 else if code = 6 then 2 else 1

def ceFld (code : Nat) : Fld := [Reg.MEM_CE.DRAM, Reg.MEM_CE.SRAM, Reg.MEM_UE.MRAM_CE].getD (memKind code) Reg.MEM_CE.DRAM
def ueFld (code : Nat) : Fld := [Reg.MEM_UE.DRAM, Reg.MEM_UE.SRAM, Reg.MEM_UE.MRAM].getD (memKind code) Reg.MEM_UE.DRAM

/-- A correctable word is counted with an event (R391), and noted for the hour of R395. -/
def countCe (code : Nat) (s : State) : State :=
  let now := lifeSec s
  let l := s.memp.ceLog.filter (fun p => decide (now < p.2 + 3600))
  postReg (ceFld code) 0 (bump (ceFld code) (setMemp { s.memp with ceLog := (memKind code, now) :: l } s))

/-- The region kind of a DRAM address (R393): that of the lowest-numbered region; 6 and 7 are taken as 0. -/
def regionKind (a : Nat) (s : State) : Nat :=
  let u := (a - 0x1000000000) / 2 ^ 24
  match (List.range 16).find? (fun k => decide (get (Reg.MEM_RGN.BASE k) s ≤ u) && decide (u < get (Reg.MEM_RGN.BASE k) s + get (Reg.MEM_RGN.SIZE k) s)) with
  | none => 0
  | some k => if 6 ≤ get (Reg.MEM_RGN.KIND k) s then 0 else get (Reg.MEM_RGN.KIND k) s

/-- The capture of R389 under the rules of R25: the first while VALID is clear, MORE otherwise. -/
def captureUe (code a kind : Nat) (scrub : Bool) (s : State) : State :=
  if get Reg.MEM_ERR_HI.VALID s = 1 then put Reg.MEM_ERR_HI.MORE 1 s
  else putLine Reg.MEM_ERR_HI.VALID 1
    (puts [(Reg.MEM_ERR_LO.ADDR_LO, a % 2 ^ 32), (Reg.MEM_ERR_HI.ADDR_HI, bits a 32 8), (Reg.MEM_ERR_HI.MEM, code),
      (Reg.MEM_ERR_HI.KIND, kind), (Reg.MEM_ERR_HI.SCRUB, b2n scrub)] s)

/-- An uncorrectable word is counted and captured, with its event and line 1 (R389). -/
def recordUe (code a kind : Nat) (scrub : Bool) (s : State) : State :=
  post 0x541 0 [] (captureUe code a kind scrub (bump (ueFld code) s))

/-! ### What follows an uncorrectable word (R393, R394) -/

/-- Blocks of the write cache are lost with a cause (R368); an unsealed zone of a sealed namespace that loses one is damaged (R319). -/
def loseBlock (ns blk cause : Nat) (s : State) : State :=
  let k := lbasPerBlock ns s
  let z := zoneOfBlock ns blk s
  let t := countDirty (dropLine ns blk (addLost ns (blk * k) k cause s))
  if nsType ns s = 4 ∧ !(zoneOf z s).sealed then zoneDamaged z t else t

/-- A command context is destroyed (R373): its command completes with internal error where its completion target reads; otherwise it is
counted and nothing is sent. -/
def loseContext (stamp : Nat) (target : Bool) (s : State) : State :=
  match ctxOf stamp s with
  | none => s
  | some c => if target then finish c .internalError 0 s else dropCtx stamp (bump Reg.CMD_ERR.LOST s)

/-- A hashing context is damaged (R393): it waits to be rebuilt. -/
def damageCtx (z : Nat) (s : State) : State :=
  match AMap.lookup z s.seals.ctxs with
  | none => s
  | some c => setSeals { s.seals with ctxs := AMap.insert z { c with damaged := true } s.seals.ctxs } s

/-- The command context, and the zone whose hashing context, stands at an address (R318, R356). Log entry 270 (DEDUCED). -/
def ctxAt (a : Nat) (s : State) : Option Ctx := s.cmd.ctxs.find? (fun c => decide (poolAddr c s ≤ a) && decide (a < poolAddr c s + 128))
def sealCtxAt (a : Nat) (s : State) : Option Nat :=
  (s.seals.ctxs.find? (fun p => decide (ctxAddr p.2 s ≤ a) && decide (a < ctxAddr p.2 s + 270336))).map (·.1)

/-- The action of R393 by region kind: of clean write-cache data, of a translation table (TABLE_REBUILD) and of a general region nothing
more follows here. -/
def regionAct (kind a : Nat) (holds : Option (Nat × Nat)) (target : Bool) (s : State) : State :=
  if kind = 1 then
    (match holds with
     | none => s
     | some p => if (lineOf p.1 p.2 s).isSome then loseBlock p.1 p.2 1 s else s)
  else if kind = 3 then (match ctxAt a s with | none => s | some c => loseContext c.stamp target s)
  else if kind = 4 then (match sealCtxAt a s with | none => s | some z => damageCtx z s)
  else if kind = 5 then raisePost 675 0 [] s
  else s

/-- The channel sector buffers (R394): the stream of the region fails under R200; in the optical region the command in progress ends
FAILED. Log entry 238 (DEDUCED). -/
def bufferAct (a : Nat) (s : State) : State :=
  let n := (a - 0x28000000) / 0xC0000
  if n < 5 then streamFails n (decide (a < tpWindow n ∨ tpWindow n + 4128 ≤ a)) s
  else match s.och.job with
    | some j => ochEnd j 2 (ochFailed j.layer j.cluster false s)
    | none => s

/-- Bytes of memory XORed with a number, low byte first. -/
def xorMem (a n v : Nat) (s : State) : State := if v = 0 then s else memPut a n (memNat a n s ^^^ v) s

/-- An uncorrectable word (R389): its raw data is written back poisoned, recorded, and acted on. Log entry 274 (DEDUCED). -/
def ueWord (code w : Nat) (scrub : Bool) (holds : Option (Nat × Nat)) (target : Bool × Nat) (s : State) : State :=
  let kind := if code = 1 then regionKind w s else 0
  let t := recordUe code w kind scrub (poisonWord code w (xorMem w (wordSize code) target.2 (clearUpset code w s)))
  if code = 1 then regionAct kind w holds target.1 t else if code = 4 then bufferAct w t else t

/-- A word is read and checked: a correctable one is counted and, under DEMAND_WB, written back corrected unless a write reaches it first
(R392). -/
def checkWord (code w : Nat) (scrub raced : Bool) (s : State) : State :=
  match upsetOf code w s with
  | none => s
  | some (c, h, g) =>
    if isPoisoned code w s then s
    else if c = 1 then
      (let t := countCe code s
       if raced then t else if scrub ∨ get Reg.MEM_ECC_CFG.DEMAND_WB s = 1 then clearUpset code w t else t)
    else ueWord code w scrub h g s

/-! ### Writes -/

/-- The flip of R396 hits a write that covers the armed address of the selected memory. -/
def flipAddr (s : State) : Nat := get Reg.MEM_FLIP_ADDR_LO.ADDR s + 2 ^ 32 * get Reg.MEM_FLIP_ADDR_HI.ADDR s
def flipHits (code a n : Nat) (s : State) : Bool :=
  get Reg.MEM_FLIP_CTL.ARM s == 1 && get Reg.MEM_FLIP_CTL.TARGET s == code && decide (a ≤ flipAddr s) && decide (flipAddr s < a + n)

/-- The ones of a number of n bits. -/
def ones (n v : Nat) : Nat := ((List.range n).filter (fun i => v.testBit i)).length

/-- The flip in a DRAM word: one device is corrected, two of a ×4 organization are uncorrectable; what more devices, or two of a ×8 one, decode
as is open (R382, R385). Where the symbols of a word lie in its bytes is open, so that raw data is a free value. Log entries 87 (DESIGN CHOICE), 88 (DESIGN CHOICE), 89 (DEDUCED). -/
def flipDram (w : Nat) (s : State) : State :=
  let k := if get Reg.MEM_FLIP_M1.MASK s % 2 ^ 16 = 0 then 0 else ones 20 (get Reg.MEM_FLIP_M0.MASK s)
  let raw := ones 20 (get Reg.MEM_FLIP_M0.MASK s &&& 0x3FCFF) != 0
  let m := if raw then freeVal 256 s else 0
  if k = 0 then s
  else if k = 1 then addUpset 1 ⟨w, 1, none, false, m⟩ (freed s)
  else
    let u := freed s
    let c := if k = 2 ∧ get Reg.DRC_CFG.X8 s = 0 then 2 else pickOpen [1, 2] u
    let t := addUpset 1 ⟨w, c, none, false, m⟩ (freed u)
    if raw ∧ 2 < k ∧ c = 1 then freed (memPut w 32 (freeVal 256 t) t) else t

/-- The flip in a word of 8 bytes: one bit is corrected, two are uncorrectable, the poison pattern alone is poison (R387, R388); what
more bits decode as is open. `raw` tells whether memory holds the word in its raw form. Log entry 88 (DESIGN CHOICE). -/
def flipEight (code w : Nat) (raw : Bool) (s : State) : State :=
  let m := get Reg.MEM_FLIP_M0.MASK s + 2 ^ 32 * get Reg.MEM_FLIP_M1.MASK s
  let k := ones 64 m + ones 8 (get Reg.MEM_FLIP_M2.CHECK s)
  if m = 0 ∧ get Reg.MEM_FLIP_M2.CHECK s = 0xE7 then poisonWord code w s
  else if k = 0 then s
  else if k ≤ 2 then addUpset code ⟨w, k, none, false, m⟩ s
  else
    let c := pickOpen [0, 1, 2] s
    addUpset code ⟨w, c, none, false, m⟩ (if raw ∧ c ≠ 2 then freed (memPut w 8 (freeVal 64 (freed s)) (freed s)) else freed s)

/-- A flip is used once: ARM clears and USED is set. -/
def flipUsed (s : State) : State := puts [(Reg.MEM_FLIP_CTL.ARM, 0), (Reg.MEM_FLIP_CTL.USED, 1)] s

/-- The flip after a write of [a, a + n). -/
def flip (code a n : Nat) (s : State) : State :=
  if flipHits code a n s then
    (let w := wordAt code (flipAddr s)
     flipUsed (if isPoisoned code w s then s else if code = 1 then flipDram w s else flipEight code w true s))
  else s

/-- The read of a read-modify-write (R391): a correctable word is corrected whatever DEMAND_WB says, an uncorrectable one becomes poisoned,
a poisoned one stays so, with an event. -/
def rmwWord (code w : Nat) (s : State) : State :=
  if isPoisoned code w s then postNone 21 0 s
  else match upsetOf code w s with
    | none => s
    | some (c, h, g) => if c = 1 then clearUpset code w (countCe code s) else ueWord code w false h g s

/-- One word under a write of [a, a + n): written whole, it is clean afterwards; otherwise it is read first (R391). -/
def writeWordOf (code a n : Nat) (s : State) (w : Nat) : State :=
  if a ≤ w ∧ w + wordSize code ≤ a + n then unpoisonWord code w (clearUpset code w s) else rmwWord code w s

/-- The words that a write of [a, a + n) rewrites: in DRAM all four codewords of each 128-byte line it does not cover whole. -/
def wordsWritten (code a n : Nat) : List Nat :=
  if code = 1 then wordsIn 1 (a / 128 * 128) ((a + n + 127) / 128 * 128 - a / 128 * 128) else wordsIn code a n

/-- Bytes are written into a memory by a master, past its checks (R391, R396). -/
def storeBytes (code a : Nat) (l : List Nat) (s : State) : State :=
  flip code a l.length (memWrite a l ((wordsWritten code a l.length).foldl (writeWordOf code a l.length) s))

/-- The words of a range are checked as they are read. Log entry 86 (DESIGN CHOICE). -/
def loadChecks (code a n : Nat) (s : State) : State := (wordsIn code a n).foldl (fun t w => checkWord code w false false t) s

/-- A range holds poison. -/
def poisonedIn (code a n : Nat) (s : State) : Bool := (wordsIn code a n).any (fun w => isPoisoned code w s)

/-- PARTIAL_WRITE: a write that covers only part of a word (R391). -/
def execPartialWrite (addr : Nat) (data : List Nat) (ups : List Upset) (s : State) : Out :=
  let c := memCode addr
  occurs (c ≠ 0 ∧ 0 < data.length ∧ data.length < wordSize c ∧ wordAt c addr = wordAt c (addr + data.length - 1)
      ∧ accessCause true addr data.length true s = none)
    (storeBytes c addr data (ups.foldl (fun t u => addUpset c u t) s)) s

/-! ### DDR5 interface -/

/-- DRAM_TRAINING: DRC trains the interface in BRINGUP in five steps, or after an activation reset restores the stored results and does step 4, read training, alone
(R383): `failed` lists the steps that fail on some device. Read training finds how the DQ bits of each nibble are swapped (R490). Log entry 275 (DESIGN CHOICE). -/
def execDramTraining (failed : List Nat) (swaps : List (List Nat)) (s : State) : Out :=
  let fast := decide (get Reg.DRC_STAT.SELF_REF s = 1) && s.memp.swaps.isSome
  let bad := failed.any (fun k => !fast || k == 4)
  let t := puts [(Reg.DRC_STAT.FAST, b2n fast), (Reg.DRC_STAT.SELF_REF, 0), (Reg.DRC_STAT.TRAINED, 1)] s
  occurs (mode s = 2 ∧ domOn 18 s = true ∧ get Reg.DRC_STAT.TRAINED s = 0 ∧ get Reg.DRC_STAT.TRAIN_FAIL s = 0)
    (raisePost 640 0 [] (if bad then put Reg.DRC_STAT.TRAIN_FAIL 1 s
      else setMemp { t.memp with swaps := if fast then s.memp.swaps else some swaps } t)) s

/-- DRAM runs: trained and not in self-refresh. -/
def dramRuns (s : State) : Bool := get Reg.DRC_STAT.TRAINED s == 1 && get Reg.DRC_STAT.SELF_REF s == 0

/-- ZQ_CALIBRATION: every 128 ms (R384); it changes nothing that a register or memory shows. Log entry 94 (DEDUCED). -/
def execZqCalibration (s : State) : Out := .next s

/-- Four bits as they arrive on a nibble's DQ, in the order the device drives them (R490): bit i of the nibble carries DQ l[i]. Log entry 275 (DESIGN CHOICE). -/
def unswap (l : List Nat) (v : Nat) : Nat := (List.range 4).foldl (fun r i => withBit r (l.getD i i) (v.testBit i)) 0

/-- A mode register of device d as it was read, with the swaps undone (R490): two nibbles of four bits, both on device d's nibble, or in a ×8 organization on its
two. Log entry 275 (DESIGN CHOICE). -/
def modeRegister (d v : Nat) (s : State) : Nat :=
  let n (k : Nat) : List Nat := (s.memp.swaps.getD []).getD k [0, 1, 2, 3]
  let x := get Reg.DRC_CFG.X8 s == 1
  let p := if x then n (2 * (d % 10)) else n (d % 20)
  let q := if x then n (2 * (d % 10) + 1) else p
  unswap p (v % 16) + 16 * unswap q (v / 16 % 16)

/-- A device's temperature status reports above 85 °C (R384). Log entry 276 (PRESUMED). -/
def isHot (v : Nat) : Bool := decide (3 ≤ v % 8)

/-- DRAM_TEMPERATURE_POLL: the temperature status of every device is read; above 85 °C on any of them the refresh interval is halved, with line 2; 1 s after the last such reading it is normal again (R384). -/
def execDramTemperaturePoll (status : List Nat) (coolMs : Nat) (s : State) : Out :=
  let above := (List.range status.length).any (fun d => isHot (modeRegister d (status.getD d 0) s))
  occurs (dramRuns s = true)
    (if above then (if get Reg.DRC_STAT.REFRESH_2X s = 1 then s else raisePost 642 0 [] (put Reg.DRC_STAT.REFRESH_2X 1 s))
     else if 1000 ≤ coolMs then put Reg.DRC_STAT.REFRESH_2X 0 s else s) s

/-! ### Scrubbing -/

/-- The lines of the SIZE in use, and the words of the four SRAM regions in the order of their memory codes (8 MiB of table cache among
them). Log entry 277 (DEDUCED). -/
def dramLines (s : State) : Nat := dramSize s / 128
def sramWords : Nat := 5242880
def sramWord (i : Nat) : Nat × Nat :=
  if i < 3145728 then (2, 0x20000000 + 8 * i) else if i < 4194304 then (3, 8 * (i - 3145728))
  else if i < 4718592 then (4, 0x28000000 + 8 * (i - 4194304)) else (5, 0x10000000 + 8 * (i - 4718592))

/-- DRAM_SCRUB_READ: the next line is read and its correctable words are written back, unless a write comes between (R392). -/
def execDramScrubRead (ups : List Upset) (raced : Bool) (s : State) : Out :=
  let a := 0x1000000000 + 128 * get Reg.MEM_SCRUB_POS.LINE s
  let t := (wordsIn 1 a 128).foldl (fun t w => checkWord 1 w true raced t)
    ((ups.filter (fun u => u.addr / 128 * 128 == a)).foldl (fun t u => addUpset 1 u t) s)
  let n := get Reg.MEM_SCRUB_POS.LINE s + 1
  let r := dramLines s ≤ n
  occurs (dramRuns s = true ∧ get Reg.MEM_SCRUB_CFG.DRAM_EN s = 1 ∧ s.memp.dramEnd = false)
    (put Reg.MEM_SCRUB_POS.LINE (if r then 0 else n) (setMemp { t.memp with dramEnd := decide r } t)) s

/-- A pass that ends more than 10 % after its time (in ms) sets LATE, with line 2. -/
def passLate (timeMs tookMs : Nat) (s : State) : State :=
  if 11 * timeMs < 10 * tookMs then linePost 674 Reg.MEM_SCRUB_STAT.LATE 1 0 [] s else s

/-- SCRUB_PASS_END: a pass is counted (R392); after a DRAM pass DRC_ECS takes the devices' highest count (R386). -/
def execScrubPassEnd (dram : Bool) (tookMs ecsMax ecsDev : Nat) (s : State) : Out :=
  if dram then
    let m := get Reg.MEM_SCRUB_CFG.DRAM_MIN s
    occurs (s.memp.dramEnd = true)
      (passLate ((if m = 0 then 60 else m) * 60000) tookMs (puts [(Reg.DRC_ECS.MAX, min ecsMax 65535), (Reg.DRC_ECS.DEV, ecsDev)]
        (bump Reg.MEM_SCRUB_STAT.DRAM_PASSES (setMemp { s.memp with dramEnd := false } s)))) s
  else
    let m := get Reg.MEM_SCRUB_CFG.SRAM_S s
    occurs (s.memp.sramEnd = true)
      (passLate ((if m = 0 then 60 else m) * 1000) tookMs
        (bump Reg.MEM_SCRUB_STAT.SRAM_PASSES (setMemp { s.memp with sramEnd := false } s))) s

/-- CE_THRESHOLD: the correctable words of one memory within an hour exceed CE_THR: line 0, once per hour at most (R395). Log entry 95 (DEDUCED). -/
def execCeThreshold (s : State) : Out :=
  let now := lifeSec s
  let n (k : Nat) := (s.memp.ceLog.filter (fun p => p.1 == k && decide (now < p.2 + 3600))).length
  let free : Bool := match s.memp.ceAlarm with | none => true | some t => decide (t + 3600 ≤ now)
  occurs (free = true ∧ (List.range 3).any (fun k => decide (get Reg.MEM_ECC_CFG.CE_THR s < n k)) = true)
    (raisePost 672 0 [] (setMemp { s.memp with ceAlarm := some now } s)) s

/-! ### The flip mask and repairs -/

/-- FLIP_ARM: a write of MEM_FLIP_CTL (R396). -/
def execFlipArm (value : Nat) (s : State) : Out :=
  .next (puts [(Reg.MEM_FLIP_CTL.TARGET, bits value 0 3), (Reg.MEM_FLIP_CTL.ARM, max (get Reg.MEM_FLIP_CTL.ARM s) (bits value 4 1)),
    (Reg.MEM_FLIP_CTL.USED, if value.testBit 5 then 0 else get Reg.MEM_FLIP_CTL.USED s)] s)

/-- A promotion of the SPR inventory without an inventory bit (R481): PROMOS counts and SPR raises line 0, and line 1 where it was the last. -/
def promotion (last : Bool) (s : State) : State :=
  let t := raisePost 928 0 [] (bump Reg.SPR_STAT.PROMOS s)
  if last then raisePost 929 0 [] t else t

/-- SRAM_ROW_PROMOTION: a row or column of a macro with THR correctable errors in a pass, or a word that stays uncorrectable, takes a soft-map
entry (R397): a row at once, a column at the next BRINGUP. Without a spare or an entry it stays, with line 3. Log entry 93 (DEDUCED). -/
def execSramRowPromotion (m : Nat) (column : Bool) (errors : Nat) (stuck : Bool) (s : State) : Out :=
  let used := AMap.getD (if column then s.memp.cols else s.memp.rows) m 0
  let cap := if column then 2 else 4
  let n := get Reg.MEM_REP_STAT.ENTRIES s
  let t := put Reg.MEM_REP_STAT.ENTRIES (n + 1) (setMemp
    (if column then { s.memp with cols := AMap.insert m (used + 1) s.memp.cols, pendCols := s.memp.pendCols ++ [used + 1 == cap] } else { s.memp with rows := AMap.insert m (used + 1) s.memp.rows }) s)
  let full := if 512 ≤ n then linePost 675 Reg.MEM_REP_STAT.FULL 1 0 [] s else s
  unit m 160 (occurs (get Reg.MEM_REP_CFG.AUTO s = 1 ∧ (get Reg.MEM_REP_CFG.THR s ≤ errors ∨ stuck = true))
    (if cap ≤ used then linePost 675 Reg.MEM_REP_STAT.EXHAUSTED 1 0 [] full
     else if 512 ≤ n then full
     else if column then bump Reg.MEM_REP_STAT.COL_PEND t
     else promotion (used + 1 == cap) t) s)

/-- The columns that wait are promoted at BRINGUP (R397). Log entry 93 (DEDUCED). -/
def columnsPromoted (s : State) : State :=
  let t := s.memp.pendCols.foldl (fun t b => promotion b t) s
  put Reg.MEM_REP_STAT.COL_PEND 0 (setMemp { t.memp with pendCols := [] } t)

/-- DRC_PPR_STAT follows the list. -/
def showPpr (s : State) : State :=
  let n (k : Nat) := (s.memp.ppr.filter (fun p => p.2 == k)).length
  puts [(Reg.DRC_PPR_STAT.PEND, n 0), (Reg.DRC_PPR_STAT.DONE, n 1), (Reg.DRC_PPR_STAT.FAILED, n 2)] s

/-- DRAM_REPAIR_CANDIDATE: a DRAM row enters the list, with line 1, or sets FULL (R398). -/
def execDramRepairCandidate (row errors : Nat) (stuck : Bool) (s : State) : Out :=
  occurs (get Reg.DRC_PPR_CFG.AUTO s = 1 ∧ (get Reg.DRC_PPR_CFG.THR s ≤ errors ∨ stuck = true) ∧ s.memp.ppr.any (fun p => p.1 == row) = false)
    (if s.memp.ppr.length < 64 then raisePost 641 0 [] (showPpr (setMemp { s.memp with ppr := s.memp.ppr ++ [(row, 0)] } s))
     else postReg Reg.DRC_PPR_STAT.FULL 0 (put Reg.DRC_PPR_STAT.FULL 1 s)) s

/-- POST_PACKAGE_REPAIR: after training in BRINGUP the pending rows (HARD) or all listed rows are repaired; `refused` lists those the devices
refuse (R398). Log entry 92 (DEDUCED). -/
def execPostPackageRepair (refused : List Nat) (s : State) : Out :=
  let hard := get Reg.DRC_PPR_CFG.HARD s == 1
  let due (p : Nat × Nat) := !hard || p.2 == 0
  let l := s.memp.ppr.map (fun p => if due p then (p.1, if refused.contains p.1 then 2 else 1) else p)
  let n := (s.memp.ppr.filter (fun p => due p && !refused.contains p.1)).length
  occurs (mode s = 2 ∧ get Reg.DRC_STAT.TRAINED s = 1)
    ((List.range n).foldl (fun t _ => promotion false t) (showPpr (setMemp { s.memp with ppr := l } s))) s

end Sys2Proof.Machine
end

