-- ==== Sys2Proof/Machine/TableCache.lean ====
section
/-! DEFINITION. The table cache of 16_data_movement.md (R410 to R416). Memory holds what an access of any master finds (R15, R410); a line
holds what DRAM has beneath its dirty sub-blocks. -/

namespace Sys2Proof.Machine

def setTch (r : TchSt) (s : State) : State := { s with tch := r }

/-! ### Places -/

def dramBase : Nat := 0x1000000000
def subOf (a : Nat) : Nat := bits (a - dramBase) 6 2
def setOf (a : Nat) : Nat := bits (a - dramBase) 8 11
def tagOf (a : Nat) : Nat := bits (a - dramBase) 19 16
/-- The address of the line of a set with a tag. -/
def lineAddr (set tag : Nat) : Nat := dramBase + 256 * set + 2 ^ 19 * tag

def wayKey (set way : Nat) : Nat := 16 * set + way

/-- The way that holds a line, if any does. -/
def hitWay (a : Nat) (s : State) : Option Nat :=
  (List.range 16).find? (fun w => match AMap.lookup (wayKey (setOf a) w) s.tch.lines with
    | none => false
    | some l => l.tag == tagOf a && l.valid != 0)

/-- The requester group of a master (R412, R18). -/
def groupOf (m : Nat) : Nat := if m < 9 then 0 else [1, 2, 2, 2, 3, 7, 4, 5, 5, 6, 7, 7].getD (m - 9) 0

/-- The next state of the LFSR x^16 + x^14 + x^13 + x^11 + 1 (R412). Log entry 96 (DESIGN CHOICE). -/
def lfsrNext (v : Nat) : Nat :=
  v / 2 + (v % 2 + v / 4 % 2 + v / 8 % 2 + v / 32 % 2) % 2 * 2 ^ 15

/-- The valid bits of a way. -/
def wayEmpty (set w : Nat) (s : State) : Bool :=
  match AMap.lookup (wayKey set w) s.tch.lines with | none => true | some l => l.valid == 0

/-- The way a miss allocates into (R412): an empty way of the mask that is not locked, else the one that the LFSR selects; how it selects is
open (Config.wayChoice). PRELOAD allows locked ways. -/
def allocWay (set mask : Nat) (lockedToo : Bool) (s : State) : Option Nat :=
  let l := (List.range 16).filter (fun w => mask.testBit w && (lockedToo || !bit Reg.TCH_LOCK.WAYS w s))
  match l.find? (fun w => wayEmpty set w s) with
  | some w => some w
  | none => if l.isEmpty then none else some (l.getD (Config.wayChoice s.tch.lfsr l.length % l.length) 0)

/-! ### Sub-blocks and DRAM -/

/-- A 64-byte sub-block as memory holds it. -/
def subUnder (a : Nat) (s : State) : Under :=
  { data := memRead a 64 s
    poison := s.poison.filter (fun p => decide (a ≤ p) && decide (p < a + 64)) }

/-- DRAM's own contents of a sub-block come back: dirty data is discarded. -/
def restoreSub (a : Nat) (u : Under) (s : State) : State :=
  let t := memWrite a u.data s
  { t with poison := t.poison.filter (fun p => !(decide (a ≤ p) && decide (p < a + 64))) ++ u.poison }

/-- A dirty sub-block is written to DRAM (R411): whole codewords, a poisoned word poisoning its codeword; a sub-block alone in its 128-byte
line has the other half rewritten as read (R391). -/
def drainSub (both : Bool) (a : Nat) (s : State) : State :=
  let other := if a % 128 = 0 then a + 64 else a - 64
  let t := if both then s else (wordsIn 1 other 64).foldl (fun t w => rmwWord 1 w t) s
  flip 1 a 64 ((wordsIn 1 a 64).foldl (fun t w =>
    let p := isPoisoned 1 w t
    let u := clearUpset 1 w t
    if p then poisonWord 1 w u else u) t)

/-- The dirty sub-blocks of a line at an address are written. -/
def drainAll (addr : Nat) (dirty : AMap Under) (s : State) : State :=
  dirty.foldl (fun t p => drainSub ((AMap.lookup (p.1 + 1 - 2 * (p.1 % 2)) dirty).isSome) (addr + 64 * p.1) t) s

/-- The dirty sub-blocks of a line at an address are discarded. -/
def discardAll (addr : Nat) (dirty : AMap Under) (s : State) : State :=
  dirty.foldl (fun t p => restoreSub (addr + 64 * p.1) p.2 t) s

def putWay (k : Nat) (l : TchLine) (s : State) : State := setTch { s.tch with lines := AMap.insert k l s.tch.lines } s
def dropWay (k : Nat) (s : State) : State := setTch { s.tch with lines := AMap.erase k s.tch.lines } s

/-- The oldest eviction buffer's write completes. Log entry 97 (DEDUCED). -/
def evictDone (s : State) : State :=
  match s.tch.evb with
  | [] => s
  | e :: t => drainAll e.addr e.dirty (setTch { s.tch with evb := t } s)

/-- A line leaves its way (R415): with dirty sub-blocks it waits in an eviction buffer; the oldest is written where all 8 are taken. Log entry 97 (DEDUCED). -/
def evict (set w : Nat) (s : State) : State :=
  match AMap.lookup (wayKey set w) s.tch.lines with
  | none => s
  | some l =>
    let t := dropWay (wayKey set w) s
    if l.dirty.isEmpty then t
    else
      let u := if 8 ≤ t.tch.evb.length then evictDone t else t
      setTch { u.tch with evb := u.tch.evb ++ [⟨lineAddr set l.tag, l.dirty, false, l.valid⟩] } u

/-- A line is allocated with the given dirty sub-blocks and valid bits (R412). -/
def install (a mask : Nat) (lockedToo : Bool) (valid : Nat) (dirty : AMap Under) (s : State) : Option (Nat × State) :=
  match allocWay (setOf a) mask lockedToo s with
  | none => none
  | some w =>
    let t := evict (setOf a) w s
    some (w, putWay (wayKey (setOf a) w) ⟨tagOf a, valid, dirty⟩ (setTch { t.tch with lfsr := lfsrNext t.tch.lfsr } t))

/-- The flip of TARGET 3 (R396): the next fill or write of the line that caches the armed address; the word hit is the one that holds it. A
filled word keeps its good data in DRAM. Log entry 90 (DEDUCED). -/
def cacheFlip (a : Nat) (write : Bool) (s : State) : State :=
  if get Reg.MEM_FLIP_CTL.ARM s = 1 ∧ get Reg.MEM_FLIP_CTL.TARGET s = 3 ∧ flipAddr s / 256 = a / 256 then
    flipUsed (flipEight 3 (flipAddr s / 8 * 8) write s)
  else s

/-- A sub-block is filled from DRAM: its words are checked there (R411). -/
def fillSub (a : Nat) (s : State) : State := cacheFlip a false (loadChecks 1 (a / 64 * 64) 64 s)

def maskOf (master : Nat) (s : State) : Nat := get (Reg.TCH_WAYMASK.ALLOC (groupOf master)) s

/-- A line with a sub-block valid. -/
def withSub (l : TchLine) (a : Nat) : TchLine := { l with valid := withBit l.valid (subOf a) true }

/-- The buffered eviction of a line. -/
def buffered (a : Nat) (s : State) : Option TchEvict := s.tch.evb.find? (fun e => e.addr == a / 256 * 256)

/-- An uncorrectable word of the table cache (R394): a clean line is invalidated and its word refetched from DRAM; a dirty one is written back
poisoned, and R393 applies to its DRAM address. Log entry 274 (DEDUCED). -/
def cacheUe (a w : Nat) (scrub : Bool) (holds : Option (Nat × Nat)) (target : Bool × Nat) (s : State) : State :=
  let t := recordUe 3 w 0 scrub (clearUpset 3 w s)
  match hitWay a s with
  | none => t
  | some v =>
    match AMap.lookup (wayKey (setOf a) v) s.tch.lines with
    | none => t
    | some l =>
      let addr := a / 256 * 256
      if l.dirty.isEmpty then dropWay (wayKey (setOf a) v) t
      else regionAct (regionKind w s) w holds target.1
        (drainAll addr l.dirty (putWay (wayKey (setOf a) v) { l with dirty := [] } (poisonWord 1 (wordAt 1 w) (xorMem w 8 target.2 t))))

/-- The cached words of a range are checked as they are used. -/
def cacheChecks (a n : Nat) (s : State) : State :=
  (wordsIn 3 a n).foldl (fun t w => match upsetOf 3 w t with
    | none => t
    | some (c, h, g) => if c = 1 then clearUpset 3 w (countCe 3 t) else cacheUe a w false h g t) s

/-- A word of the table cache under the scrubber (R392): word i of the array, the lines one after another by set and way, where a line is valid
there. It is named by its DRAM address. -/
def cachedWord (i : Nat) (s : State) : Option Nat :=
  match AMap.lookup (i / 32) s.tch.lines with
  | none => none
  | some l => if l.valid.testBit (i % 32 / 8) then some (lineAddr (i / 32 / 16) l.tag + 8 * (i % 32)) else none

/-- The scrubber's check of a cached word. -/
def scrubCached (w : Nat) (raced : Bool) (s : State) : State :=
  match upsetOf 3 w s with
  | none => s
  | some (c, h, g) => if c = 1 then (if raced then countCe 3 s else clearUpset 3 w (countCe 3 s)) else cacheUe w w true h g s

/-- The operands' bits in error that lie in a word. -/
def upsetsAt (code w : Nat) (ups : List Upset) (s : State) : State :=
  (ups.filter (fun u => u.addr / 8 * 8 == w)).foldl (fun t u => addUpset code u t) s

/-- SRAM_SCRUB_READ: the next word of the four SRAM regions is read, and a correctable one is written back, unless a write comes between (R392). -/
def execSramScrubRead (ups : List Upset) (raced : Bool) (s : State) : Out :=
  let (c, w) := sramWord s.memp.sramPos
  let t := if c = 3 then (match cachedWord (w / 8) s with | none => s | some a => scrubCached a raced (upsetsAt 3 a ups s))
    else checkWord c w true raced (upsetsAt c w ups s)
  let n := s.memp.sramPos + 1
  let r := sramWords ≤ n
  occurs (get Reg.MEM_SCRUB_CFG.SRAM_EN s = 1 ∧ s.memp.sramEnd = false)
    (setMemp { t.memp with sramPos := if r then 0 else n
                           sramEnd := decide r } t) s

/-- A read by a master of bytes within one sub-block (R411, R412, R415). Log entry 98 (DEDUCED). -/
def cacheRead (master a n : Nat) (s : State) : State :=
  match hitWay a s with
  | some w =>
    let l := AMap.getD s.tch.lines (wayKey (setOf a) w) ⟨0, 0, []⟩
    if l.valid.testBit (subOf a) then cacheChecks a n (bump Reg.TCH_HITS.COUNT s)
    else fillSub a (putWay (wayKey (setOf a) w) (withSub l a) (bump Reg.TCH_MISSES.COUNT s))
  | none =>
    if (buffered a s).isSome then bump Reg.TCH_EVB.MERGED s
    else match install a (maskOf master s) false (2 ^ subOf a) [] (bump Reg.TCH_MISSES.COUNT s) with
      | some p => fillSub a p.2
      | none => loadChecks 1 a n (bump Reg.TCH_MISSES.COUNT s)

/-- Bytes are written into a sub-block that a way holds: it becomes dirty over what DRAM holds, and whole words lose their poison. -/
def writeCached (k a : Nat) (l : List Nat) (s : State) : State :=
  let line := AMap.getD s.tch.lines k ⟨0, 0, []⟩
  let sub := a / 64 * 64
  let d := if (AMap.lookup (subOf a) line.dirty).isSome then line.dirty else AMap.insert (subOf a) (subUnder sub s) line.dirty
  let t := (wordsIn 3 a l.length).foldl (fun t w =>
    if a ≤ w ∧ w + 8 ≤ a + l.length then { clearUpset 3 w t with poison := t.poison.filter (· != w) }
    else if s.poison.contains w then postNone 21 0 t else cacheChecks w 8 t) s
  cacheFlip a true (memWrite a l (putWay k { withSub line a with dirty := d } t))

/-- A write into a line that has just been allocated: a sub-block that it leaves in part is filled first where it is not valid (R411). -/
def writeNew (k a valid : Nat) (l : List Nat) (s : State) : State :=
  writeCached k a l (if (a % 64 = 0 ∧ l.length = 64) ∨ valid.testBit (subOf a) = true then s else fillSub a s)

/-- A write by a master of bytes within one sub-block (R411, R412, R415). -/
def cacheWrite (master a : Nat) (l : List Nat) (s : State) : State :=
  let whole := a % 64 = 0 ∧ l.length = 64
  let k (w : Nat) := wayKey (setOf a) w
  match hitWay a s with
  | some w =>
    let line := AMap.getD s.tch.lines (k w) ⟨0, 0, []⟩
    if line.valid.testBit (subOf a) then writeCached (k w) a l (bump Reg.TCH_HITS.COUNT s)
    else
      let t := bump Reg.TCH_MISSES.COUNT s
      writeCached (k w) a l (if whole then t else fillSub a (putWay (k w) (withSub line a) t))
  | none =>
    match buffered a s with
    | some e =>
      if e.issued then
        (let t := drainAll e.addr e.dirty (setTch { s.tch with evb := s.tch.evb.filter (fun x => x.addr != e.addr) } (bump Reg.TCH_EVB.ORDERED s))
         match install a (maskOf master s) false e.valid [] t with
         | some p => writeNew (k p.1) a e.valid l p.2
         | none => storeBytes 1 a l t)
      else
        (let t := setTch { s.tch with evb := s.tch.evb.filter (fun x => x.addr != e.addr) } (bump Reg.TCH_EVB.MERGED s)
         match install a (maskOf master s) false e.valid e.dirty t with
         | some p => writeNew (k p.1) a e.valid l p.2
         | none => storeBytes 1 a l (drainAll e.addr e.dirty t))
    | none =>
      let t := bump Reg.TCH_MISSES.COUNT s
      match install a (maskOf master s) false (2 ^ subOf a) [] t with
      | some p => writeNew (k p.1) a 0 l p.2
      | none => storeBytes 1 a l t

/-! ### Accesses of masters to memory -/

/-- The pieces of a range by sub-block: address and length. -/
def pieces (a n : Nat) : List (Nat × Nat) :=
  if n = 0 then [] else
  (List.range ((a + n - 1) / 64 - a / 64 + 1)).map (fun i =>
    let lo := max a (64 * (a / 64 + i))
    (lo, min (a + n) (64 * (a / 64 + i) + 64) - lo))

/-- The bits in error that an operand brings enter the word that the access meets: the cached one where the table cache holds it. Log entry 86 (DESIGN CHOICE). -/
def meetUpset (s : State) (u : Upset) : State :=
  let c := memCode u.addr
  if c = 1 ∧ get Reg.TCH_CTL.EN s = 1 ∧ (hitWay u.addr s).isSome = true then addUpset 3 u s else addUpset c u s

/-- A master reads a range of one memory: its words are checked. -/
def busLoad (master a n : Nat) (s : State) : State :=
  let c := memCode a
  if c = 0 then s
  else if c = 1 ∧ get Reg.TCH_CTL.EN s = 1 then (pieces a n).foldl (fun t p => cacheRead master p.1 p.2 t) s
  else loadChecks c a n s

/-- The bytes of a range, and whether any word of it reads poisoned (R390). -/
def busBytes (a n : Nat) (s : State) : List Nat × Bool :=
  (memRead a n s, (wordsIn 3 a n).any (fun w => s.poison.contains w))

/-- A master writes bytes into one memory. -/
def busStore (master a : Nat) (l : List Nat) (s : State) : State :=
  let c := memCode a
  if c = 0 then s
  else if c = 1 ∧ get Reg.TCH_CTL.EN s = 1 then
    (pieces a l.length).foldl (fun t p => cacheWrite master p.1 ((l.drop (p.1 - a)).take p.2) t) s
  else storeBytes c a l s

/-- Destination words that receive poisoned bytes are poisoned (R390). -/
def poisonRange (a : Nat) (marks : List Bool) (s : State) : State :=
  let c := if memCode a = 1 ∧ get Reg.TCH_CTL.EN s = 1 then 3 else memCode a
  ((wordsIn c a marks.length).filter (fun w =>
    (List.range (wordSize c)).any (fun i => decide (a ≤ w + i) && marks.getD (w + i - a) false))).foldl (fun t w => poisonWord c w t) s

/-! ### Range operations -/

/-- The lines in the range: the first line's address and their count; operations 5 and 6 take every line of the array. -/
def rangeLines (op : Nat) (s : State) : Nat := if op = 5 ∨ op = 6 then 32768 else get Reg.TCH_RANGE_LEN.LINES s
def rangeStart (s : State) : Nat := 256 * get Reg.TCH_RANGE_LO.ADDR s + 2 ^ 32 * get Reg.TCH_RANGE_HI.ADDR s

/-- A refusal: OP_REFUSED with line 1. -/
def opRefused (s : State) : State := linePost 769 Reg.TCH_STAT.OP_REFUSED 1 0 [] s

/-- A GO of a range operation (R414). -/
def tchGo (op ways : Nat) (s : State) : State :=
  if get Reg.TCH_STAT.BUSY s = 1 ∨ op = 0 ∨ op = 7 ∨ (op ≠ 5 ∧ get Reg.TCH_CTL.EN s = 0) then opRefused s
  else put Reg.TCH_STAT.BUSY 1 (setTch { s.tch with op := some (op, ways, 0, rangeLines op s) } s)

/-- What an operation does to the line in a way. -/
def wayOp (op k : Nat) (s : State) : State :=
  match AMap.lookup k s.tch.lines with
  | none => s
  | some l =>
    let a := lineAddr (k / 16) l.tag
    if op = 1 ∨ op = 5 then dropWay k (discardAll a l.dirty s)
    else if op = 2 then putWay k { l with dirty := [] } (drainAll a l.dirty s)
    else dropWay k (drainAll a l.dirty s)

/-- PRELOAD of a line (R414): filled in full into a way of WAYS, locked ones included. -/
def preload (a ways : Nat) (s : State) : State :=
  if a < dramBase then s else
  match hitWay a s with
  | some w =>
    let l := AMap.getD s.tch.lines (wayKey (setOf a) w) ⟨0, 0, []⟩
    (List.range 4).foldl (fun t i => if l.valid.testBit i then t else fillSub (a + 64 * i) t)
      (putWay (wayKey (setOf a) w) { l with valid := 15 } s)
  | none => match install a ways true 15 [] s with
    | none => s
    | some p => (List.range 4).foldl (fun t i => fillSub (a + 64 * i) t) p.2

/-- The buffered eviction of a line under an operation: written, or discarded by an invalidation without write-back. -/
def bufferOp (op a : Nat) (s : State) : State :=
  match buffered a s with
  | none => s
  | some e =>
    let t := setTch { s.tch with evb := s.tch.evb.filter (fun x => x.addr != e.addr) } s
    if op = 1 then discardAll e.addr e.dirty t else drainAll e.addr e.dirty t

/-- One line of an operation: line i of its range. -/
def lineOp (op ways i : Nat) (s : State) : State :=
  if op = 5 ∨ op = 6 then wayOp op i s
  else
    let a := rangeStart s + 256 * i
    if op = 4 then preload a ways s
    else if a < dramBase then s
    else match hitWay a s with
      | some w => wayOp op (wayKey (setOf a) w) s
      | none => bufferOp op a s

/-- The eviction buffers under the operations on every line. -/
def allBuffers (op : Nat) (s : State) : State :=
  let l := s.tch.evb
  let t := setTch { s.tch with evb := [] } s
  l.foldl (fun u e => if op = 5 then discardAll e.addr e.dirty u else drainAll e.addr e.dirty u) t

/-- The engine passes n more lines of the operation that runs. -/
def passLines (op n : Nat) (s : State) : State :=
  match s.tch.op with
  | none => s
  | some (o, ways, i, len) =>
    if o = op then
      (let m := min n (len - i)
       let t := (List.range m).foldl (fun t j => lineOp o ways (i + j) t) s
       let u := if (o = 5 ∨ o = 6) ∧ i + m = len ∧ i < len then allBuffers o t else t
       setTch { u.tch with op := some (o, ways, i + m, len) } u)
    else s

/-- A range operation: its GO, or n more lines of it. -/
def rangeOp (op : Nat) (go : Bool) (ways n : Nat) (s : State) : Out :=
  .next (if go then tchGo op ways s else passLines op n s)

/-- TCH_INVALIDATE: range operation 1 (R414). -/
def execTchInvalidate (go : Bool) (n : Nat) (s : State) : Out := rangeOp 1 go 0 n s

/-- TCH_WRITEBACK: range operation 2 (R414). -/
def execTchWriteback (go : Bool) (n : Nat) (s : State) : Out := rangeOp 2 go 0 n s

/-- TCH_WB_INV: range operation 3 (R414). -/
def execTchWbInv (go : Bool) (n : Nat) (s : State) : Out := rangeOp 3 go 0 n s

/-- TCH_PRELOAD: range operation 4 (R414). -/
def execTchPreload (go : Bool) (n : Nat) (ways : Nat) (s : State) : Out := rangeOp 4 go (ways % 65536) n s

/-- TCH_INVALIDATE_ALL: range operation 5 (R414). -/
def execTchInvalidateAll (go : Bool) (n : Nat) (s : State) : Out := rangeOp 5 go 0 n s

/-- TCH_WB_INV_ALL: range operation 6 (R414), which a write of EN = 0 also starts (R413). -/
def execTchWbInvAll (go : Bool) (n : Nat) (s : State) : Out := rangeOp 6 go 0 n s

/-- The write-back of a disabling starts (R413): marked by ways of 1. -/
def startDisable (s : State) : State := put Reg.TCH_STAT.BUSY 1 (setTch { s.tch with op := some (6, 1, 0, 32768) } s)

/-- After an operation (R413): the write-back of a disabling leaves EN and INV_DONE at 0; one that waited starts. -/
def disabled (own : Bool) (s : State) : State :=
  if get Reg.TCH_STAT.DISABLING s = 1 then
    (if own then puts [(Reg.TCH_CTL.EN, 0), (Reg.TCH_STAT.DISABLING, 0), (Reg.TCH_STAT.INV_DONE, 0)] s else startDisable s)
  else s

/-- TCH_RANGE_DONE: the operation has passed every line (R413, R414). -/
def execTchRangeDone (s : State) : Out :=
  match s.tch.op with
  | none => .next s
  | some (o, w, i, len) =>
    occurs (len ≤ i)
      (raisePost 768 0 [] (disabled (o == 6 && w == 1) (putIf (o = 5) Reg.TCH_STAT.INV_DONE 1
        (put Reg.TCH_STAT.BUSY 0 (setTch { s.tch with op := none } s))))) s

/-- TCH_ENABLE_WRITE: a write of TCH_CTL.EN (R413). A write that leaves EN as it is changes nothing. -/
def execTchEnableWrite (en : Bool) (s : State) : Out :=
  if en then
    occurs (get Reg.TCH_CTL.EN s = 0)
      (if get Reg.TCH_STAT.INV_DONE s = 1 then put Reg.TCH_CTL.EN 1 s else linePost 769 Reg.TCH_STAT.EN_REFUSED 1 0 [] s) s
  else
    occurs (get Reg.TCH_CTL.EN s = 1 ∧ get Reg.TCH_STAT.DISABLING s = 0)
      (put Reg.TCH_STAT.DISABLING 1 (if get Reg.TCH_STAT.BUSY s = 1 then s else startDisable s)) s

/-- TCH_EVICTION_WRITE: the oldest eviction's write is issued, or an issued one completes (R415). -/
def execTchEvictionWrite (complete : Bool) (s : State) : Out :=
  match s.tch.evb with
  | [] => .next s
  | e :: t =>
    if complete then occurs (e.issued = true) (evictDone s) s
    else
      let l := e :: t
      match l.findIdx? (fun x => !x.issued) with
      | none => .next s
      | some i => .next (setTch { s.tch with evb := l.set i { l.getD i e with issued := true } } s)

/-- The diagnostic window (R416): the bytes of the line at TCH_DIAG_SEL, word i. -/
def diagWord (i : Nat) (s : State) : Nat :=
  let set := get Reg.TCH_DIAG_SEL.SET s
  match AMap.lookup (wayKey set (get Reg.TCH_DIAG_SEL.WAY s)) s.tch.lines with
  | none => 0
  | some l => memNat (lineAddr set l.tag + 4 * i) 4 s

/-- TCH_DIAG_TAG shows the way selected. -/
def showDiag (s : State) : State :=
  let w := get Reg.TCH_DIAG_SEL.WAY s
  let l := AMap.getD s.tch.lines (wayKey (get Reg.TCH_DIAG_SEL.SET s) w) ⟨0, 0, []⟩
  puts [(Reg.TCH_DIAG_TAG.TAG, l.tag), (Reg.TCH_DIAG_TAG.VALID, l.valid),
    (Reg.TCH_DIAG_TAG.DIRTY, l.dirty.foldl (fun v p => withBit v p.1 true) 0), (Reg.TCH_DIAG_TAG.LOCKED, b2n (bit Reg.TCH_LOCK.WAYS w s))] s

/-! ### Firmware -/

/-- A section of type 5 is written at its LOAD address by the boot ROM (R54): those in DRAM once the interface is trained, the others as the image is
loaded. One whose bytes do not all lie in reachable memory is not written. Log entry 179 (DEDUCED). -/
def loadSection (dram : Bool) (s : State) (x : ImgSection) : State :=
  if x.type = 5 ∧ x.data ≠ [] ∧ within dramSpace x.load x.data.length = dram ∧ overlaps regSpace x.load x.data.length = false
      ∧ accessCause true x.load x.data.length true s = none then busStore 19 x.load x.data s
  else s

/-- The application-core firmware of an image (R54). Log entry 179 (DEDUCED). -/
def loadFirmware (dram : Bool) (i : Image) (s : State) : State := i.sections.foldl (loadSection dram) s

end Sys2Proof.Machine
end

