-- ==== Sys2Proof/Machine/DataMove.lean ====
section
/-! DEFINITION. 16_data_movement.md: DMA channels but for their bursts (R399 to R403), FIFOs (R404 to R409). -/

namespace Sys2Proof.Machine

/-! ### DMA channels -/

def dmaOf (c : Nat) (s : State) : DmaSt := AMap.getD s.dma c {}
def setDma (c : Nat) (r : DmaSt) (s : State) : State := { s with dma := AMap.insert c r s.dma }
def dmaState (c : Nat) (s : State) : Nat := get (Reg.DMA_STAT.STATE c) s
def dmaClass (c : Nat) (s : State) : Nat := get (Reg.DMA_CTL.CLASS c) s

/-- The channels on the 4 movers, and those that wait. Log entry 103 (DEDUCED). -/
def onMover (s : State) : List Nat := (List.range 32).filter (fun c => dmaState c s == 1)
def waiting (s : State) : List Nat := (List.range 32).filter (fun c => dmaState c s == 2)

/-- Of several channels, the next in rotation after the one that took a mover last (R400). -/
def rotation (l : List Nat) (s : State) : Option Nat :=
  match l.find? (fun c => decide (s.dmaTurn < c)) with
  | some c => some c
  | none => l.head?

/-- The channels of the highest class among some. -/
def highest (l : List Nat) (s : State) : List Nat :=
  l.filter (fun c => l.all (fun d => decide (dmaClass d s ≤ dmaClass c s)))

def toMover (c : Nat) (s : State) : State := { put (Reg.DMA_STAT.STATE c) 1 s with dmaTurn := c }

/-- Free movers take waiting channels: the highest class first, in rotation (R400). -/
def fillMovers (s : State) : State :=
  if (onMover s).length < 4 then
    match rotation (highest (waiting s) s) s with
    | some c => toMover c s
    | none => s
  else s

/-- The addresses of a channel's active descriptor. -/
def dmaSrc (c : Nat) (s : State) : Nat := get (Reg.DMA_SRC_LO.ADDR c) s + 2 ^ 32 * get (Reg.DMA_SRC_HI.ADDR c) s
def dmaDst (c : Nat) (s : State) : Nat := get (Reg.DMA_DST_LO.ADDR c) s + 2 ^ 32 * get (Reg.DMA_DST_HI.ADDR c) s

/-- An address lies in a region of R13. -/
def inMap (a : Nat) : Bool := within regSpace a 1 || within dramSpace a 1 || memRegions.any (fun r => within r a 1)

/-- The check of CTL.CRC: 3 is taken as 0 (R401). -/
def crcKind (c : Nat) (s : State) : Nat := if get (Reg.DMA_CTL.CRC c) s = 3 then 0 else get (Reg.DMA_CTL.CRC c) s

/-- The running value of a check before its first byte: CRC-32C is kept inverted as its algorithm runs. Log entry 99 (DEDUCED). -/
def crcInit (k : Nat) : Nat := if k = 1 then 0xFFFFFFFF else if k = 2 then 2 ^ 64 - 1 else 0
/-- The 64-bit CRC of 64b Guard protection information: the NVMe base specification's, reflected, polynomial 0xAD93D23594C93659
(PRESUMED: the spec names it without giving it). -/
def crc64Bit (c : Nat) : Nat := if c % 2 = 1 then (c / 2) ^^^ 0x9A6C9329AC4BC9B5 else c / 2

/-- One byte of CRC-64 NVMe (R401). Log entry 6 (PRESUMED). -/
def crc64Byte (c b : Nat) : Nat := crc64Bit (crc64Bit (crc64Bit (crc64Bit (crc64Bit (crc64Bit (crc64Bit (crc64Bit (c ^^^ (b % 256)))))))))

/-- A CRC carried over more bytes: kind 1 is CRC-32C, kind 2 CRC-64 NVMe (R401). Log entry 99 (DEDUCED). -/
def crcRun (k c : Nat) (l : List Nat) : Nat := if k = 1 then l.foldl crcByte c else if k = 2 then l.foldl crc64Byte c else c
def crcFinal (k c : Nat) : Nat := if k = 1 then c ^^^ 0xFFFFFFFF else if k = 2 then c ^^^ (2 ^ 64 - 1) else 0
def crcLen (k : Nat) : Nat := if k = 1 then 4 else if k = 2 then 8 else 0

/-- The channel's line follows its bit of DMA_IRQ (R402, R525). -/
def dmaIrq (c : Nat) (s : State) : State :=
  post (0x580 + c) 0 [c, get (Reg.DMA_STAT.CODE c) s] (hostEdge s (putBit Reg.DMA_IRQ.END c true s))

/-- A block ends with a code (R402): codes 2 to 5 leave the channel idle, and code 1 sets its bit only while IE is 1. Log entry 102 (DEDUCED). -/
def dmaEnd (c code : Nat) (s : State) : State :=
  let r := dmaOf c s
  let k := crcKind c s
  let f := crcFinal k r.crc
  let t := puts [(Reg.DMA_STAT.STATE c, 0), (Reg.DMA_STAT.CODE c, code), (Reg.DMA_REMAIN.BYTES c, r.size - r.wrote)]
    (setDma c { r with stag := [] } s)
  let u := if k = 0 then t else puts [(Reg.DMA_CRC_LO.CRC c, bits f 0 32), (Reg.DMA_CRC_HI.CRC c, bits f 32 32)] t
  fillMovers (if code ≠ 1 ∨ get (Reg.DMA_CTL.IE c) s = 1 then dmaIrq c u else u)

/-- The active descriptor's block starts (R399): on a free mover, or waiting; at once with code 2 where the count is 0 or an address lies outside
R13. -/
def dmaStart (c : Nat) (s : State) : State :=
  let n := get (Reg.DMA_COUNT.BYTES c) s
  let old := dmaOf c s
  let k := crcKind c s
  let r : DmaSt := { src := dmaSrc c s
                     dst := dmaDst c s
                     size := n
                     crc := if get (Reg.DMA_CTL.CRC_CONT c) s = 1 then old.crc else crcInit k
                     order := s.dmaNext }
  let t := put (Reg.DMA_REMAIN.BYTES c) n (setDma c r { s with dmaNext := s.dmaNext + 1 })
  if n = 0 ∨ inMap r.src = false ∨ inMap r.dst = false then dmaEnd c 2 t
  else fillMovers (put (Reg.DMA_STAT.STATE c) 2 t)

/-- The fields of DMA_CTL in a word written. -/
def dmaCtl (c value : Nat) (s : State) : State :=
  puts [(Reg.DMA_CTL.CLASS c, bits value 0 2), (Reg.DMA_CTL.CRC c, bits value 2 2), (Reg.DMA_CTL.CRC_CONT c, bits value 4 1),
    (Reg.DMA_CTL.CRC_STORE c, bits value 5 1), (Reg.DMA_CTL.IE c, bits value 6 1), (Reg.DMA_CTL.SRC_FIX c, bits value 7 1),
    (Reg.DMA_CTL.DST_FIX c, bits value 8 1)] s

/-- DMA_GO: a write of DMA_CTL with GO (R399); GO is ignored while the channel runs. -/
def execDmaGo (c value : Nat) (s : State) : Out :=
  unit c 32 (.next (if dmaState c s = 0 then dmaStart c (dmaCtl c value s) else dmaCtl c value s))

/-- DMA_ABORT: CTL.ABORT ends the block with code 4; what stands in staging is discarded (R402). -/
def execDmaAbort (c : Nat) (s : State) : Out := unit c 32 (occurs (dmaState c s ≠ 0) (dmaEnd c 4 s) s)

/-- The mover that a waiting channel pre-empts (R400): the lowest class below its own, the youngest-started among equals. -/
def preempted (c : Nat) (s : State) : Option Nat :=
  let l := (onMover s).filter (fun d => decide (dmaClass d s < dmaClass c s))
  let low := l.filter (fun d => l.all (fun e => decide (dmaClass d s ≤ dmaClass e s)))
  low.find? (fun d => low.all (fun e => decide ((dmaOf e s).order ≤ (dmaOf d s).order)))

/-- DMA_PREEMPT: a ready channel takes the mover of a lower class; the pre-empted one keeps its staging buffer and its place (R400). -/
def execDmaPreempt (c : Nat) (s : State) : Out :=
  unit c 32 (match preempted c s with
    | none => .next s
    | some d => occurs (dmaState c s = 2 ∧ 4 ≤ (onMover s).length) (toMover c (put (Reg.DMA_STAT.STATE d) 2 s)) s)

/-- The shadow descriptor becomes the active one (R403). -/
def shadowLoad (c : Nat) (s : State) : State :=
  bump (Reg.DMA_STAT.LOADS c) (puts
    [(Reg.DMA_STAT.SH_VALID c, 0), (Reg.DMA_SRC_LO.ADDR c, get (Reg.DMA_SH_SRC_LO.ADDR c) s),
      (Reg.DMA_SRC_HI.ADDR c, get (Reg.DMA_SH_SRC_HI.ADDR c) s), (Reg.DMA_DST_LO.ADDR c, get (Reg.DMA_SH_DST_LO.ADDR c) s),
      (Reg.DMA_DST_HI.ADDR c, get (Reg.DMA_SH_DST_HI.ADDR c) s), (Reg.DMA_COUNT.BYTES c, get (Reg.DMA_SH_COUNT.BYTES c) s),
      (Reg.DMA_CTL.CLASS c, get (Reg.DMA_SH_CTL.CLASS c) s), (Reg.DMA_CTL.CRC c, get (Reg.DMA_SH_CTL.CRC c) s),
      (Reg.DMA_CTL.CRC_CONT c, get (Reg.DMA_SH_CTL.CRC_CONT c) s), (Reg.DMA_CTL.CRC_STORE c, get (Reg.DMA_SH_CTL.CRC_STORE c) s),
      (Reg.DMA_CTL.IE c, get (Reg.DMA_SH_CTL.IE c) s), (Reg.DMA_CTL.SRC_FIX c, get (Reg.DMA_SH_CTL.SRC_FIX c) s),
      (Reg.DMA_CTL.DST_FIX c, get (Reg.DMA_SH_CTL.DST_FIX c) s)] s)

/-- What follows a block that has reached its count (R402, R403): after code 1 the shadow is loaded and started where SH_VALID is 1. -/
def dmaDone (c : Nat) (s : State) : State :=
  if (dmaOf c s).bad then dmaEnd c 3 s
  else
    let t := dmaEnd c 1 s
    if get (Reg.DMA_STAT.SH_VALID c) s = 1 then dmaStart c (shadowLoad c t) else t

/-- A burst that a mover has begun to write out is completed (R402, R455): blocks end at a burst boundary. Log entry 280 (DEDUCED). -/
def burstEnds (c : Nat) (s : State) : State :=
  let r := dmaOf c s
  let a := r.dst + r.wrote
  if dmaState c s = 1 ∧ r.stag ≠ [] ∧ r.wrote % 1024 ≠ 0 ∧ get (Reg.DMA_CTL.DST_FIX c) s = 0 ∧ overlaps regSpace a r.stag.length = false
      ∧ accessCause true a r.stag.length true s = none then
    setDma c { r with stag := [], wrote := r.wrote + r.stag.length, crc := crcRun (crcKind c s) r.crc (r.stag.map (·.1)) }
      (poisonRange a (r.stag.map (·.2)) (busStore 9 a (r.stag.map (·.1)) s))
  else s

/-- Every running channel ends with code 5 as the device enters RESCUE (R402): what else stands in staging is discarded. Log entry 280 (DEDUCED). -/
def dmaPfail (s : State) : State :=
  (List.range 32).foldl (fun t c => if dmaState c t = 0 then t else dmaEnd c 5 (burstEnds c t)) s

/-! ### FIFOs -/

def fifOf (f : Nat) (s : State) : FifoSt := AMap.getD s.fif f {}

/-- Items whose EOI word is still to be read. -/
def fifPkts (r : FifoSt) : Nat := ((r.q.drop r.rd).filter (·.eoi)).length

/-- The registers of a FIFO follow it. Pointers cross between the clocks at once (R405): the crossing's few cycles are timing. -/
def setFif (f : Nat) (r : FifoSt) (s : State) : State :=
  puts [(Reg.FIF_STAT.WLEVEL f, r.q.length), (Reg.FIF_STAT.FULL f, b2n (decide (1024 ≤ r.q.length))),
    (Reg.FIF_STAT.RLEVEL f, r.q.length - r.rd), (Reg.FIF_STAT.EMPTY f, b2n (decide (r.q.length ≤ r.rd))),
    (Reg.FIF_PKT.PKTS f, fifPkts r)] { s with fif := AMap.insert f r s.fif }

def fifRuns (f : Nat) (s : State) : Bool := get (Reg.FIF_CFG.EN f) s == 1

/-- A change of a FIFO under its notice line (R407): host and event follow the line. -/
def fifNotice (f : Nat) (s t : State) : State :=
  let on (x : State) : Bool := get (Reg.FIF_CFG.NIE f) x == 1 && get (Reg.FIF_PKT.PKTS f) x != 0
  let u := hostEdge s t
  if !on s && on t then post (0x5C0 + f) 0 [f] u else u

/-- FIFO_CFG_WRITE: a write of FIF_CFG (R404): taken while EN is 0; with EN at 0 it stops a running FIFO; any other is ignored. -/
def execFifoCfgWrite (f value : Nat) (s : State) : Out :=
  let t := puts [(Reg.FIF_CFG.EN f, bits value 0 1), (Reg.FIF_CFG.MODE f, bits value 1 1), (Reg.FIF_CFG.PEP f, bits value 2 3),
    (Reg.FIF_CFG.PUNIT f, bits value 5 5), (Reg.FIF_CFG.CEP f, bits value 10 3), (Reg.FIF_CFG.CUNIT f, bits value 13 5),
    (Reg.FIF_CFG.NIE f, bits value 18 1)] s
  unit f 16 (.next
    (if !fifRuns f s then t
     else if value % 2 = 0 then
       hostEdge s (puts [(Reg.FIF_STAT.OVERRUN f, 0), (Reg.FIF_STAT.UNDERRUN f, 0)] (setFif f {} t))
     else s))

/-- A word and its marks enter (R406 to R408): dropped while DROPPING and not an SOI; lost, with OVERRUN and line 16, while FULL. Log entries 100 (DEDUCED), 101 (DEDUCED). -/
def fifPush (f : Nat) (soi eoi : Bool) (data : Nat) (s : State) : State :=
  let r := fifOf f s
  if get (Reg.FIF_STAT.DROPPING f) s = 1 ∧ !soi then bump (Reg.FIF_DROP.WORDS f) s
  else
    let t := put (Reg.FIF_STAT.DROPPING f) 0 s
    let inItem := soi || r.inItem
    if 1024 ≤ r.q.length then
      linePost 752 (Reg.FIF_STAT.OVERRUN f) 1 0 [f] { t with fif := AMap.insert f { r with inItem := inItem, lostIn := r.lostIn || inItem } t.fif }
    else
      fifNotice f s (setFif f { r with q := r.q ++ [⟨data % 2 ^ 32, soi, eoi, eoi && r.lostIn⟩]
                                       inItem := inItem && !eoi
                                       lostIn := r.lostIn && !eoi
                                       ended := eoi } t)

/-- FIFO_PUSH: a write of FIF_PUSH or of a producer endpoint (R407): mark 0 none, 1 SOI, 2 EOI, 3 both. -/
def execFifoPush (f mark data : Nat) (s : State) : Out :=
  unit f 16 (occurs (fifRuns f s = true) (fifPush f (mark.testBit 0) (mark.testBit 1) data s) s)

/-- A consumer's read (R406, R409): the word it returns, and the FIFO after it. Log entry 100 (DEDUCED). -/
def fifPop (f : Nat) (s : State) : Nat × State :=
  let r := fifOf f s
  match r.q[r.rd]? with
  | none => (0, puts [(Reg.FIF_STAT.UNDERRUN f, 1), (Reg.FIF_POP_INFO.VALID f, 0)] s)
  | some w =>
    let q := if get (Reg.FIF_CFG.MODE f) s = 1 then { r with rd := r.rd + 1 } else { r with q := r.q.drop 1 }
    (w.data, hostEdge s (puts [(Reg.FIF_POP_INFO.SOI f, b2n w.soi), (Reg.FIF_POP_INFO.EOI f, b2n w.eoi), (Reg.FIF_POP_INFO.BAD f, b2n w.bad),
      (Reg.FIF_POP_INFO.VALID f, 1)] (setFif f q s)))

/-- FIFO_POP: a read of FIF_POP or by a consumer endpoint (R406). -/
def execFifoPop (f : Nat) (s : State) : Out :=
  unit f 16 (.next (respond (.data (bytesOf 4 (fifPop f s).1) false) (fifPop f s).2))

/-- FLUSH (R408): the FIFO is empty, and DROPPING is set, with line 17, where the last word written did not end an item. -/
def fifFlush (f : Nat) (s : State) : State :=
  let r := fifOf f s
  let t := hostEdge s (setFif f { r with q := [], rd := 0, inItem := false, lostIn := false, ended := true } s)
  if r.ended then t else linePost 753 (Reg.FIF_STAT.DROPPING f) 1 0 [f] t

/-- FIFO_FLUSH: FIF_CTL.FLUSH (R408). -/
def execFifoFlush (f : Nat) (s : State) : Out := unit f 16 (.next (fifFlush f s))

/-- FIFO_MARK: FIF_CTL.MARK frees the words before the read pointer (R409); ignored with MODE at 0. -/
def execFifoMark (f : Nat) (s : State) : Out :=
  let r := fifOf f s
  unit f 16 (occurs (get (Reg.FIF_CFG.MODE f) s = 1) (setFif f { r with q := r.q.drop r.rd, rd := 0 } s) s)

/-- FIFO_REWIND: FIF_CTL.REWIND returns the read pointer to the mark, and PKTS with it (R409). -/
def execFifoRewind (f : Nat) (s : State) : Out :=
  unit f 16 (occurs (get (Reg.FIF_CFG.MODE f) s = 1) (fifNotice f s (setFif f { fifOf f s with rd := 0 } s)) s)

end Sys2Proof.Machine
end

