-- ==== Sys2Proof/Machine/Arbiter.lean ====
section
/-! DEFINITION. Arbitration at a target (R417 to R419): what each of the three levels passes on, the promotion of old requests, and the waits. -/

namespace Sys2Proof.Machine

/-- The cluster of a master and the class of its requests (R417); a DMA channel has its own, a scrub class 0. -/
def clusterOf (m : Nat) : Nat := if m < 9 then 0 else [3, 1, 1, 1, 1, 3, 2, 2, 2, 3, 3, 3].getD (m - 9) 3
def arbClass (r : ArbReq) (s : State) : Nat :=
  if r.scrub then 0 else if r.master = 9 then dmaClass r.channel s
  else if r.master < 9 then 2 else [0, 2, 2, 2, 2, 1, 2, 3, 3, 3, 2, 1].getD (r.master - 9) 0

/-- Those of the highest class among some, and the oldest of some. -/
def topClass (l : List ArbReq) (s : State) : List ArbReq := l.filter (fun r => l.all (fun q => decide (arbClass q s ≤ arbClass r s)))
def oldest (l : List ArbReq) : Option ArbReq := l.find? (fun r => l.all (fun q => decide (q.age ≤ r.age)))

/-- What the port arbiter of a master passes on (R418): of the highest class the oldest. Log entry 278 (DEDUCED). -/
def portHead (m : Nat) (l : List ArbReq) (s : State) : List ArbReq :=
  (oldest (topClass (l.filter (fun r => !r.scrub && r.master == m)) s)).toList

def arbOf (t : Nat) (s : State) : ArbSt := AMap.getD s.arb t {}

/-- What the arbiter of cluster k passes on (R418): of the highest class, the next port after the one granted last. Log entry 278 (DEDUCED). -/
def clusterHead (t k : Nat) (l : List ArbReq) (s : State) : List ArbReq :=
  let h := topClass (((List.range 21).filter (fun m => clusterOf m == k)).flatMap (fun m => portHead m l s)) s
  let last := AMap.lookup k (arbOf t s).last
  match h.find? (fun r => match last with | none => true | some m => decide (m < r.master)) with
  | some r => [r]
  | none => h.head?.toList

/-- The weight of a cluster; 0 is taken as 1 (R418). Log entry 278 (DEDUCED). -/
def weightOf (t k : Nat) (s : State) : Nat :=
  max 1 (get ([Reg.ARB_CW.W0 t, Reg.ARB_CW.W1 t, Reg.ARB_CW.W2 t, Reg.ARB_CW.W3 t].getD k (Reg.ARB_CW.W0 t)) s)

/-- Weighted round-robin by grants among clusters with a request: the cluster served, and the arbiter after it. Log entry 278 (DEDUCED). -/
def roundRobin (t : Nat) (ks : List Nat) (s : State) : Option (Nat × ArbSt) :=
  let a := arbOf t s
  if ks.contains a.cur ∧ 0 < a.left then some (a.cur, { a with left := a.left - 1 })
  else match ((List.range 4).map (fun i => (a.cur + 1 + i) % 4)).find? (fun k => ks.contains k) with
    | some k => some (k, { a with cur := k, left := weightOf t k s - 1 })
    | none => none

/-- The request granted at a target, and its arbiter after it (R418): the oldest of those promoted, else by class and weighted round-robin; a scrub comes after the
clusters of its class. Log entry 278 (DEDUCED). -/
def granted (t : Nat) (l : List ArbReq) (s : State) : Option (ArbReq × ArbSt) :=
  let n := get (Reg.ARB_AGE.LIMIT t) s
  match oldest (l.filter (fun r => decide ((if n = 0 then 200 else n) < r.age))) with
  | some r => some (r, arbOf t s)
  | none =>
    let h := topClass ((List.range 4).flatMap (fun k => clusterHead t k l s) ++ (oldest (l.filter (·.scrub))).toList) s
    match roundRobin t ((h.filter (fun r => !r.scrub)).map (fun r => clusterOf r.master)) s with
    | some (k, a) =>
      (match h.find? (fun r => !r.scrub && clusterOf r.master == k) with
       | some r => some (r, { a with last := AMap.insert k r.master a.last })
       | none => none)
    | none => h.head?.map (fun r => (r, arbOf t s))

/-- A request is granted: its wait from arrival, in units of 10 ns, counts where it is promoted, is kept where it is the longest, and one above 4 µs is counted with an
event and line 0 (R418, R419). -/
def grantWait (t wait : Nat) (s : State) : State :=
  let n := get (Reg.ARB_AGE.LIMIT t) s
  let p := if (if n = 0 then 200 else n) < wait then bump (Reg.ARB_PROMO.COUNT t) s else s
  let u := put (Reg.ARB_WAIT.MAX t) (min 65535 (max wait (get (Reg.ARB_WAIT.MAX t) s))) p
  if 400 < wait then raisePost 800 t [] (bump (Reg.ARB_WAIT.OVER t) u) else u

/-- The load of the 10 µs window that has ended, in percent. -/
def windowLoad (t : Nat) (load : Option Nat) (s : State) : State :=
  match load with
  | none => s
  | some p => puts [(Reg.ARB_LOAD.LOAD t, min p 100), (Reg.ARB_LOAD.PEAK t, max (min p 100) (get (Reg.ARB_LOAD.PEAK t) s))] s

/-- ARB_WAIT_EXCEEDED: of the requests that wait at target t one is granted (R417, R418), and its wait is judged (R419); `load` brings the load of a window that has
ended. Log entry 154 (DESIGN CHOICE). -/
def execArbWaitExceeded (t : Nat) (reqs : List ArbReq) (load : Option Nat) (s : State) : Out :=
  let u := windowLoad t load s
  unit t 6 (.next (match granted t reqs u with
    | none => u
    | some (r, a) => grantWait t r.age { u with arb := AMap.insert t a u.arb }))

end Sys2Proof.Machine
end

