-- ==== Sys2Proof/Machine/Arrive.lean ====
section
/-! DEFINITION. What host ports and the command store share as commands arrive: demands (R350), context classes (R358), nexuses (R345), arrival
stamps (R360), and what happens to commands in an activation (R377). -/

namespace Sys2Proof.Machine

def setCmd (r : CmdSt) (s : State) : State := { s with cmd := r }
def setHost (r : HostSt) (s : State) : State := { s with host := r }

/-! ### Demands -/

/-- A port's demand fields and the source of its demand interrupt; the two SAS ports share one register. Log entry 133 (DEDUCED). -/
def demandOf (p : Port) : Option (Fld × Fld × Fld × Nat) :=
  match p with
  | .pcie => some (Reg.HPC_DEMAND.MODE, Reg.HPC_DEMAND.LEVEL, Reg.HPC_DEMAND.CHG, 513)
  | .sas0 => some (Reg.HSA_DEMAND.MODE, Reg.HSA_DEMAND.LEVEL, Reg.HSA_DEMAND.CHG, 546)
  | .sas1 => some (Reg.HSA_DEMAND.MODE, Reg.HSA_DEMAND.LEVEL, Reg.HSA_DEMAND.CHG, 546)
  | .sata => some (Reg.HST_DEMAND.MODE, Reg.HST_DEMAND.LEVEL, Reg.HST_DEMAND.CHG, 577)
  | _ => none

/-- A port's demand takes a mode and a level; a change sets CHG and raises the demand interrupt (R350). Log entry 133 (DEDUCED). -/
def setDemand (p : Port) (m level : Nat) (s : State) : State :=
  match demandOf p with
  | none => s
  | some (fm, fl, fc, src) =>
    if get fm s = m ∧ get fl s = level then s
    else linePost src fc 1 0 [m, level] (puts [(fm, m), (fl, level)] s)

/-! ### Commands -/

def isSas (p : Port) : Bool := p == .sas0 || p == .sas1

/-- The number of a SAS port, and a command's I_T nexus. -/
def sasPort (p : Port) : Nat := if p = .sas1 then 1 else 0
def nexusOf (c : HostCmd) : Nat × Nat := (sasPort c.port, c.nexus)

/-- The class of context a command takes (R358): 0 administration, 1 SATA, 2 SAS, 3 the unreserved rest. -/
def ctxClass (c : HostCmd) : Nat :=
  if c.port = .sideband then 0
  else match c.op with
    | .identify => 0
    | .getLog => 0
    | .admin => 0
    | .setWce _ => 0
    | .selfTest _ => 0
    | .abort _ _ => 0
    | _ => if c.port = .sata then 1 else if isSas c.port then 2 else 3

/-- The contexts that a class may hold (R358). Log entry 122 (DEDUCED). -/
def classCap (k : Nat) (s : State) : Nat :=
  let a := get Reg.CMD_RSV.ADMIN s
  let b := get Reg.CMD_RSV.SAS s
  if k = 0 then a else if k = 1 then 32 else if k = 2 then b else 131072 - a - 32 - b

def classUsed (k : Nat) (s : State) : Nat := (s.cmd.ctxs.filter (fun c => c.cls == k)).length

/-- A class has a context left. Log entry 122 (DEDUCED). -/
def hasRoom (k : Nat) (s : State) : Bool := decide (classUsed k s < classCap k s) && decide (s.cmd.ctxs.length < 131072)

/-- The namespace is attached to the command's port (R203), or served to peers (R433). The sideband sees what PCIe sees (R380). -/
def isAttached (p : Port) (ns : Nat) (s : State) : Bool :=
  decide (ns < 64) && nsType ns s != 0 &&
  (match p with
   | .pcie => bit (Reg.ZMG_NS_CFG.PORTS ns) 0 s
   | .sideband => bit (Reg.ZMG_NS_CFG.PORTS ns) 0 s
   | .sas0 => bit (Reg.ZMG_NS_CFG.PORTS ns) 1 s
   | .sas1 => bit (Reg.ZMG_NS_CFG.PORTS ns) 2 s
   | .sata => bit (Reg.ZMG_NS_CFG.PORTS ns) 3 s
   | .fabric => if ns < 32 then bit Reg.FAB_NS_EN_LO.EN ns s else bit Reg.FAB_NS_EN_HI.EN (ns - 32) s
   | .internal => true)

/-- The cache enable bit of a namespace (R365). -/
def wce (ns : Nat) (s : State) : Bool := if ns < 32 then bit Reg.CMD_WCE_LO.EN ns s else bit Reg.CMD_WCE_HI.EN (ns - 32) s

def isFua (op : HostOp) : Bool :=
  match op with
  | .write _ _ f => f
  | .append _ _ f => f
  | _ => false

/-- A write completes on acceptance (R366): its namespace's cache is enabled, FUA is clear, and there is a cache. -/
def onAccept (c : HostCmd) (s : State) : Bool := isWrite c.op && wce c.ns s && !isFua c.op && get Reg.CMD_WC_CFG.SIZE s != 0

/-- A command takes a context and the next stamp (R356, R360); a media command returns its port's demand to SERVICE (R350). Log entry 121 (DEDUCED). -/
def stampCmd (c : HostCmd) (s : State) : State :=
  let n := s.cmd.next
  let x : Ctx := { stamp := n, cmd := c, cls := ctxClass c, slot := poolPlace s, cached := onAccept c s, attached := isAttached c.port c.ns s }
  let t := countCtxs (puts [(Reg.CMD_STAMP_LO.STAMP, bits n 0 32), (Reg.CMD_STAMP_HI.STAMP, bits n 32 16)]
    (setCmd { s.cmd with ctxs := s.cmd.ctxs ++ [x], next := (n + 1) % 2 ^ 48 } s))
  if isMedia c.op then setDemand c.port 3 255 t else t

/-- A personality finds no context (R358): FULL with line 1; SAS answers, the others wait unfetched. Log entry 273 (DEDUCED). -/
def poolFull (c : HostCmd) (s : State) : State :=
  let t := linePost 609 Reg.CMD_POOL_STAT.FULL 1 0 [ctxClass c] s
  if isSas c.port ∧ ctxClass c = 2 then send (statusMsg c.port c.nexus c.tag .taskSetFull 0) t else t

/-- The nexus is held or there is room for it (R345). -/
def hasNexus (c : HostCmd) (s : State) : Bool := s.host.nexus.contains (nexusOf c) || decide (s.host.nexus.length < 512)

/-- A new initiator's first command takes a nexus. -/
def takeNexus (c : HostCmd) (s : State) : State :=
  if isSas c.port ∧ !s.host.nexus.contains (nexusOf c) then setHost { s.host with nexus := s.host.nexus ++ [nexusOf c] } s else s

/-- All nexuses are taken (R345): TASK SET FULL, FULL and line 3 of HSA. -/
def nexusFull (c : HostCmd) (s : State) : State :=
  linePost 547 Reg.HSA_NEXUS.FULL 1 (sasPort c.port) [] (send (statusMsg c.port c.nexus c.tag .taskSetFull 0) s)

/-- A unit attention of the nexus is reported with the next media command (R377), which it ends. -/
def reportUa (c : HostCmd) (s : State) : State :=
  send (statusMsg c.port c.nexus c.tag .unitAttention 0) (setHost { s.host with ua := s.host.ua.filter (· != nexusOf c) } s)

/-- A command is taken where its class has a context. -/
def takeCmd (c : HostCmd) (s : State) : State :=
  if isSas c.port ∧ s.host.ua.contains (nexusOf c) ∧ isMedia c.op then reportUa c s
  else if hasRoom (ctxClass c) s then stampCmd c s else poolFull c s

/-- Commands while fetching is stopped (R377): SAS answers BUSY, SATA holds up to 32, the others stay where they are. Log entry 130 (DEDUCED). -/
def whileStopped (c : HostCmd) (s : State) : State :=
  if isSas c.port then send (statusMsg c.port c.nexus c.tag .busy 0) (bump Reg.CMD_ACT_HELD.SAS_BUSY s)
  else if c.port = .sata ∧ s.cmd.held.length < 32 then
    put Reg.CMD_ACT_HELD.SATA (s.cmd.held.length + 1) (setCmd { s.cmd with held := s.cmd.held ++ [c] } s)
  else s

/-- The command store takes commands: it runs, and the mode serves them (R39, R58). -/
def storeRuns (s : State) : Bool :=
  get Reg.CMD_CTL.EN s == 1 && (mode s == 3 || mode s == 4 || (mode s == 2 && s.boot.admin))

/-- CSTS.PP of the NVMe controller (R377): processing is paused from the activation command until fetching resumes. -/
def cstsPp (s : State) : Bool := get Reg.SYS_MODE.ACT s == 1

/-- Host traffic wakes a link (R352). Log entry 137 (DEDUCED). -/
def wakeLink (p : Port) (s : State) : State :=
  match p with
  | .pcie => put Reg.HPC_LINK.L1 0 s
  | .sas0 => put (Reg.HSA_LINK.PSTATE 0) 0 s
  | .sas1 => put (Reg.HSA_LINK.PSTATE 1) 0 s
  | .sata => put Reg.HST_LINK.PSTATE 0 s
  | _ => s

/-- What the boot ROM serves with no image (R50): Identify and Get Log Page on the sideband, at once. -/
def romServes (c : HostCmd) (s : State) : State :=
  if c.port = .sideband ∧ (c.op = .identify ∨ c.op = .getLog) then send (statusMsg c.port c.nexus c.tag .success 0) s else s

/-- A command arrives (R345, R358, R360, R377); the sideband is served by mode in an activation too. Log entry 180 (DEDUCED). -/
def arriveCmd (c : HostCmd) (s' : State) : State :=
  let s := wakeLink c.port s'
  if s.boot.recovery then romServes c s
  else if !storeRuns s then s
  else if get Reg.SYS_MODE.ACT s = 1 ∧ c.port ≠ .internal ∧ c.port ≠ .sideband then whileStopped c s
  else if isSas c.port ∧ !hasNexus c s then nexusFull c s
  else takeCmd c (takeNexus c s)

/-- Fetching resumes (R377): held SATA commands are taken in order. Log entry 130 (DEDUCED). -/
def resumeFetch (s : State) : State :=
  s.cmd.held.foldl (fun t c => arriveCmd c t) (put Reg.CMD_ACT_HELD.SATA 0 (setCmd { s.cmd with held := [] } s))

/-- After an activation each nexus has a unit attention (R377). Log entry 128 (PRESUMED). -/
def attention (s : State) : State := setHost { s.host with ua := s.host.nexus } s

/-- At a BRINGUP stamps count from 0 (R360): blocks still cached are older than every command. Log entry 159 (DEDUCED). -/
def stampsAnew (s : State) : State :=
  puts [(Reg.CMD_STAMP_LO.STAMP, 0), (Reg.CMD_STAMP_HI.STAMP, 0)]
    (setCmd { s.cmd with next := 0, lines := s.cmd.lines.map (fun l => { l with stamps := [0] }) } s)

end Sys2Proof.Machine
end

