-- ==== Sys2Proof/Machine/Records.lean ====
section
/-! DEFINITION. 19_records_calibration_spares.md: the clocks of EVR (R462 to R465), the event ring (R466 to R474), calibration (R477 to R480)
and the promotion of spares by firmware (R481, R482). -/

namespace Sys2Proof.Machine

def setEvr (r : EvrSt) (s : State) : State := { s with evr := r }
def setCal (r : CalSt) (s : State) : State := { s with cal := r }
def setTmp (r : TmpSt) (s : State) : State := { s with tmp := r }

/-! ### Clocks -/

/-- The tokens missing after a second's refill from a bucket that missed m (R473): RATE as the registers have it now comes in, and no bucket holds more
than BURST as they have it now. Log entries 105 (DEDUCED), 282 (DEDUCED). -/
def refilled (k m : Nat) (s : State) : Nat :=
  classBurst k s - min (classBurst k s) ((classNow k s).1 - m + get (Reg.EVR_RATE_CFG.RATE k) s)

/-- Each code's bucket takes RATE tokens in a second, up to BURST, and a change to EVR_RATE_CFG applies from here (R473). Log entry 282 (DEDUCED). -/
def refillBuckets (s : State) : State :=
  setEvr { s.evr with
    used := s.evr.used.map (fun p => (p.1, refilled (codeClass p.1 s) p.2 s))
    rates := (List.range 16).map (fun k => (k, classBurst k s, get (Reg.EVR_RATE_CFG.RATE k) s, refilled k (classNow k s).2.2 s)) } s

/-- LIFETIME_SECOND_TICK: every 200,000th tempo of the divider (R462). -/
def execLifetimeSecondTick (s : State) : Out :=
  occurs (200000 ≤ s.tmp.lifeDiv)
    (refillBuckets (bump Reg.EVR_LIFE.SECONDS { s with tmp := { s.tmp with lifeDiv := s.tmp.lifeDiv - 200000 }
                                                       seals := { s.seals with served := 0 } })) s

/-- The wall time takes a value. Log entry 106 (DEDUCED). -/
def putWall (v : Nat) (s : State) : State := puts [(Reg.EVR_WALL_LO.MS, bits v 0 32), (Reg.EVR_WALL_HI.MS, bits v 32 32)] s

/-- WALL_TIME_TICK: every 200 tempos of the divider (R463). -/
def execWallTimeTick (s : State) : Out :=
  occurs (200 ≤ s.tmp.wallDiv) (putWall (wallMs s + 1) (setTmp { s.tmp with wallDiv := s.tmp.wallDiv - 200 } s)) s

/-- A wall time written takes effect, and WALL_STALE clears (R463, R465). -/
def wallTakes (s : State) : State :=
  match s.evr.newWall with
  | none => s
  | some v => put Reg.EVR_STAT.WALL_STALE 0 (putWall v (setEvr { s.evr with newWall := none } s))

/-- TIME_SET: a write of EVR_WALL_HI (R463, R465): the record bears the old time, and the new one takes effect from the next tempo. Log entry 106 (DEDUCED). -/
def execTimeSet (hi : Nat) (s : State) : Out :=
  let v := s.evr.wallLow + 2 ^ 32 * (hi % 2 ^ 32)
  let t := post 0x021 0 (bytesOf 8 (wallMs s) ++ bytesOf 8 v ++ [b2n (decide (v < wallMs s))]) s
  .next (setEvr { t.evr with newWall := some v } t)

/-! ### Posting -/

/-- The block of a master that posts through a port (EVR_PORT_CMD): 0 for firmware. -/
def masterBlock (m : Nat) : Nat := if m < 9 then 0 else [22, 16, 17, 18, 26, 32, 15, 7, 11, 3, 30, 27].getD (m - 9) 0

/-- The payload words of a port, as bytes. -/
def portPayload (p : Nat) (s : State) : List Nat := (List.range 7).flatMap (fun i => bytesOf 4 (get (Reg.EVR_PORT_PAY.DATA p i) s))

/-- EVENT_POST: a write of EVR_PORT_CMD with GO by a master (R471). The record is staged at once, so BUSY reads 0. -/
def execEventPost (p master value : Nat) (s : State) : Out :=
  let t := puts [(Reg.EVR_PORT_CMD.CODE p, bits value 0 12), (Reg.EVR_PORT_CMD.SEV p, bits value 12 4), (Reg.EVR_PORT_CMD.UNIT p, bits value 16 5),
    (Reg.EVR_PORT_CMD.REPEAT p, bits value 21 1)] s
  let r : EvRec := { code := bits value 0 12
                     sev := bits value 12 4
                     source := masterBlock master + 64 * bits value 16 5 + 2048 * (master % 32)
                     payload := portPayload p s
                     repeatReq := value.testBit 21
                     port := p }
  unit p 10 (.next (if value.testBit 31 then postRec r t else t))

/-- HARDWARE_EVENT_POST: a block posts an event of its codes (R523). -/
def execHardwareEventPost (code u : Nat) (payload : List Nat) (s : State) : Out :=
  occurs (code < 0x840 ∧ ¬ (0x6C0 ≤ code ∧ code ≤ 0x6C2)) (post code u payload s) s

/-! ### The ring -/

/-- Record i of the ring (R469). -/
def ringAddr (i : Nat) : Nat := 0x30C00000 + 64 * (i % 32768)

/-- The 64 bytes of a record (R466). -/
def recordBytes (seq rep : Nat) (r : EvRec) : List Nat :=
  let l := bytesOf 6 seq ++ bytesOf 2 (r.code % 4096 + 4096 * (r.sev % 16)) ++ bytesOf 6 r.tempo ++ bytesOf 2 rep ++ bytesOf 8 r.wall
    ++ bytesOf 4 r.life ++ bytesOf 2 r.source ++ [r.snapset % 256, r.flags % 256] ++ payload28 r.payload
  l ++ bytesOf 4 (crc32c l)

/-- A record of the ring whose CRC checks. -/
def recordChecks (i : Nat) (s : State) : Bool := crc32c (memRead (ringAddr i) 60 s) == memNat (ringAddr i + 60) 4 s

/-- EVR_SEQ, the next SEQ. -/
def evrSeq (s : State) : Nat := get Reg.EVR_SEQ_LO.SEQ s + 2 ^ 32 * get Reg.EVR_SEQ_HI.SEQ s
def putSeq (v : Nat) (s : State) : State := puts [(Reg.EVR_SEQ_LO.SEQ, bits v 0 32), (Reg.EVR_SEQ_HI.SEQ, bits v 32 16)] s

/-- The newest record of the ring. -/
def newestIdx (s : State) : Nat := (get Reg.EVR_HEAD.HEAD s + 32767) % 32768

/-- A post merges with the newest record (R472): it asks to, and CODE and SOURCE match. Log entry 105 (DEDUCED). -/
def mergesWith (r : EvRec) (s : State) : Bool :=
  let a := ringAddr (newestIdx s)
  r.repeatReq && recordChecks (newestIdx s) s && memNat (a + 6) 2 s % 4096 == r.code && memNat (a + 28) 2 s == r.source

/-- HEAD moves on; where it reaches MARK, line 1 is raised, and no record accompanies it (R467, R469). -/
def headMoves (s : State) : State :=
  let h := (get Reg.EVR_HEAD.HEAD s + 1) % 32768
  let t := put Reg.EVR_HEAD.HEAD h (if h = 0 then bump Reg.EVR_HEAD.WRAPS s else s)
  if h = get Reg.EVR_MARK.IDX s then raise 865 t else t

/-- The queue without its oldest record; in RESCUE an empty queue has drained (R470). -/
def unstage (s : State) : State :=
  let l := s.evr.staged.drop 1
  setEvr { s.evr with staged := l
                      rescueDrained := s.evr.rescueDrained || (mode s == 5 && l.isEmpty) } s

/-- A record is written to the ring (R466, R469). The first record of a code written after a dropped one carries GAP (R473), the first of any
code after a lost one LOST (R470). -/
def writeRecord (r : EvRec) (s : State) : State :=
  let q := { r with flags := r.flags + (if s.evr.gaps.contains r.code then 2 else 0) + (if s.evr.lostFlag then 4 else 0) }
  let t := memWrite (ringAddr (get Reg.EVR_HEAD.HEAD s)) (recordBytes (evrSeq s) 0 q) s
  let u := headMoves (putSeq (evrSeq s + 1) (setEvr { t.evr with lostFlag := false, gaps := t.evr.gaps.filter (· != r.code) } t))
  if get Reg.EVR_CTL.IRQ_SEV s ≤ r.sev then raise 864 u else u

/-- A post that asked for a merge and found none needs a token of its bucket as it leaves the queue (R472, R473). Log entry 105 (DEDUCED). -/
def lateToken (r : EvRec) : Bool := r.repeatReq && !forcedCode r.code

/-- The oldest staged record leaves the queue without a merge: it is written, or dropped without a token. -/
def leaveQueue (r : EvRec) (s : State) : State :=
  if lateToken r = true ∧ hasToken r.code s = false then unstage (setEvr (tokenless r.code s s.evr) s)
  else writeRecord r (unstage (if lateToken r then setEvr (tokenSpent r.code s s.evr) s else s))

/-- RECORD_WRITE: the oldest staged record is written where the budget holds a token, without one in RESCUE (R470). Log entry 281 (DEDUCED). -/
def execRecordWrite (s : State) : Out :=
  match s.evr.staged with
  | [] => .next s
  | r :: _ =>
    let t := if mode s = 5 ∨ (lateToken r = true ∧ hasToken r.code s = false) then s else setEvr { s.evr with budget := s.evr.budget - 1 } s
    occurs (domOn 1 s = true ∧ mergesWith r s = false ∧ (mode s = 5 ∨ 0 < s.evr.budget)) (leaveQueue r t) s

/-- REPEAT_MERGE: the oldest staged post merges into the newest record (R472). -/
def execRepeatMerge (s : State) : Out :=
  match s.evr.staged with
  | [] => .next s
  | r :: _ =>
    let a := ringAddr (newestIdx s)
    let t := memPut (a + 14) 2 (min 65535 (memNat (a + 14) 2 s + 1)) s
    occurs (domOn 1 s = true ∧ mergesWith r s = true) (unstage (memPut (a + 60) 4 (crc32c (memRead a 60 t)) t)) s

/-- RECORDS_LOST: with the queue empty again, a record of code 0x6E0 gives the count lost since the last one, with line 2 (R467, R470). -/
def execRecordsLost (s : State) : Out :=
  let n := s.evr.lostSince
  let t := post 0x6E0 0 (bytesOf 4 n) (setEvr { s.evr with lostSince := 0 } s)
  occurs (s.evr.staged = [] ∧ 0 < n) (raise 866 t) s

/-- The records of the ring that memory lists anything of. -/
def ringListed (s : State) : List Nat :=
  ((s.mem.filter (fun c => decide (0x30C00000 ≤ c.1) && decide (c.1 < 0x30E00000))).map (fun c => (c.1 - 0x30C00000) / 64)).eraseDups

/-- The record of highest SEQ whose CRC checks (R468): its index and its SEQ. -/
def ringNewest (s : State) : Option (Nat × Nat) :=
  ((ringListed s).filter (fun i => recordChecks i s)).foldl (fun b i =>
    let q := memNat (ringAddr i) 6 s
    match b with
    | none => some (i, q)
    | some p => if p.2 < q then some (i, q) else b) none

/-- SEQ continues after the scan, or from the persistent copy where no record checks (R468). -/
def ringScan (s : State) : State :=
  match ringNewest s with
  | some p => putSeq (p.2 + 1) (put Reg.EVR_HEAD.HEAD ((p.1 + 1) % 32768) s)
  | none => putSeq s.evr.seqCopy s

/-- RING_SCAN: in BRINGUP EVR scans the ring (R468). -/
def execRingScan (s : State) : Out := occurs (mode s = 2) (ringScan s) s

/-! ### Calibration -/

/-- A kind is due (R477). Log entry 107 (DEDUCED). -/
def calDue (k : Nat) (s : State) : Bool := bit Reg.CAL_DUE.DUE k s

/-- A kind is tracked. -/
def calTracked (k : Nat) (s : State) : Bool :=
  get Reg.CAL_CTL.EN s == 1 && get (Reg.CAL_KIND_CFG.EN k) s == 1 && get (Reg.CAL_KIND_CFG.INTERVAL k) s != 0
def calSeconds (k : Nat) (s : State) : Nat := get (Reg.CAL_KIND_CFG.INTERVAL k) s * 3600

/-- CALIBRATION_DUE: kind k becomes due (R477, R480). -/
def execCalibrationDue (k : Nat) (s : State) : Out :=
  let l := get (Reg.CAL_KIND_LAST.LIFE k) s
  unit k 16 (occurs (calTracked k s = true ∧ calDue k s = false ∧ (l = 0 ∨ l + calSeconds k s ≤ lifeSec s))
    (raisePost 896 0 [k] (putBit Reg.CAL_DUE.DUE k true (setCal { s.cal with dueAt := AMap.insert k (lifeSec s) s.cal.dueAt } s))) s)

/-- CALIBRATION_OVERDUE: kind k has been due for a further INTERVAL (R480). Log entry 108 (DEDUCED). -/
def execCalibrationOverdue (k : Nat) (s : State) : Out :=
  unit k 16 (occurs (calTracked k s = true ∧ calDue k s = true ∧ bit Reg.CAL_DUE.OVERDUE k s = false
      ∧ AMap.getD s.cal.dueAt k 0 + calSeconds k s ≤ lifeSec s)
    (raisePost 897 0 [k] (post 0x721 0 [k] (putBit Reg.CAL_DUE.OVERDUE k true s))) s)

/-- CAL_DONE: a write of CAL_DONE with GO (R479). -/
def execCalDone (value : Nat) (s : State) : Out :=
  let k := bits value 0 4
  let r := bits value 4 2
  let t := puts [(Reg.CAL_DONE.KIND, k), (Reg.CAL_DONE.RESULT, r)] s
  let ok := get Reg.SYS_CLK_STAT.CALREF_OK s == 1
  let u := puts [(Reg.CAL_KIND_STAT.RESULT k, r), (Reg.CAL_KIND_STAT.TRACED k, b2n (s.cal.traced && ok))]
    (bump (Reg.CAL_KIND_COUNT.COUNT k) (setCal { s.cal with traced := ok } t))
  let v := if r = 2 then u
    else put (Reg.CAL_KIND_LAST.LIFE k) (lifeSec s) (putBit Reg.CAL_DUE.DUE k false (putBit Reg.CAL_DUE.OVERDUE k false u))
  .next (if value.testBit 31 then post 0x720 0 [k, r] v else t)

/-! ### Promotion by firmware -/

/-- CORE_RETIRE: SPR_CORE.RETIRE holds cores in reset for life (R481, R482); their interrupts are delivered under R31. A core that is retired while core
8 serves another stays out of service, and SPR raises line 1 again (R482). Log entry 284 (DEDUCED). -/
def execCoreRetire (mask : Nat) (s : State) : Out :=
  let t := put Reg.SPR_CORE.RETIRE (get Reg.SPR_CORE.RETIRE s ||| mask) s
  .next (redirectAll (if get Reg.SPR_CORE.RETIRE t ≠ get Reg.SPR_CORE.RETIRE s ∧ get Reg.SPR_CORE.SEL s ≠ 15 then raisePost 929 0 [] t else t))

/-- CORE8_SELECT: a write of SPR_CORE.SEL starts core 8 in the role of a core, or is refused (R481, R31). A write of 15 starts nothing. Log entry 151 (DEDUCED). -/
def execCore8Select (sel : Nat) (s : State) : Out :=
  let n := sel % 16
  .next (if get Reg.SPR_CORE.SEL s ≠ 15 ∨ bit Reg.SPR_CORE.RETIRE 8 s = true then put Reg.SPR_STAT.REFUSED 1 s
    else if n = 15 then s
    else redirectAll (post 0x760 0 [0, n] (promoted Reg.SPR_INV.CORE
      (put Reg.SPR_CORE.SEL n { s with sys := { s.sys with started := if s.sys.started.contains 8 then s.sys.started else s.sys.started ++ [8] } }))))

/-- SPARE_DISC_PROMOTE: a USED bit of SPR_DISC (R481). -/
def execSpareDiscPromote (d : Nat) (s : State) : Out :=
  let f := if d = 0 then Reg.SPR_DISC.USED0 else Reg.SPR_DISC.USED1
  let left := get Reg.SPR_INV.DISCS s - 1
  unit d 2 (occurs (get f s = 0)
    (promotion (left == 0) (post 0x760 0 [1, d] (puts [(f, 1), (Reg.SPR_INV.DISCS, left)] s))) s)

end Sys2Proof.Machine
end

