-- ==== Sys2Proof/Machine/Power.lean ====
section
/-! DEFINITION. 18_power_and_rescue.md: power domains (R441 to R446), checkpoints (R448 to R452), the RESCUE sequence (R455 to R458) and the
restore (R459, R460). -/

namespace Sys2Proof.Machine

def setPmu (r : PmuSt) (s : State) : State := { s with pmu := r }
def setBoot (r : BootSt) (s : State) : State := { s with boot := r }

/-! ### Domains -/

def domCtl (d : Nat) (s : State) : Bool := bit Reg.PMU_DOM_CTL.ON d s

/-- What a domain holds beside registers and memory is lost as it goes off (R443); what media, MRAM and the fused or external parts hold stays. -/
def hiddenOff (d : Nat) (s : State) : State :=
  let drop (lo hi : Nat) : State :=
    { s with sys := { s.sys with started := s.sys.started.filter (fun n => !(decide (lo ≤ n) && decide (n ≤ hi))) } }
  let hchOff (l : List Nat) : State := { s with hch := s.hch.filter (fun p => !l.contains p.1) }
  if d = 2 then
    { s with sys := {}
             cmd := { lost := s.cmd.lost, testLog := s.cmd.testLog }
             evr := { seqCopy := s.evr.seqCopy }
             fif := []
             arb := []
             memp := { upsets := s.memp.upsets, rows := s.memp.rows, cols := s.memp.cols, ppr := s.memp.ppr,
                       pendCols := s.memp.pendCols, swaps := s.memp.swaps } }
  else if d = 3 then drop 0 3
  else if d = 4 then drop 4 7
  else if d = 5 then drop 8 8
  else if d = 6 then { s with ce := [], act := [], asx := [] }
  else if d = 7 then hchOff [0, 1, 4]
  else if d = 8 then hchOff [2, 3]
  else if d = 9 then { s with och := { copies := s.och.copies, record := s.och.record, copySeq := s.och.copySeq } }
  else if d = 10 then { s with hlk := AMap.erase 0 s.hlk }
  else if d = 11 then { s with hlk := AMap.erase 1 s.hlk }
  else if d = 12 then { s with olk := {}, osv := {} }
  else if d = 13 then { s with stg := [], spn := {}, mot := {} }
  else if d = 15 then { s with host := { s.host with nexus := [], ua := [] } }
  else if d = 17 then { s with fab := {} }
  else if d = 19 then { s with tch := {} }
  else if d = 20 then { s with tp := .none }
  else if d = 21 then { s with seals := { s.seals with genKey := none, reqs := [], wits := [], recvs := [] } }
  else if d = 22 then { s with dma := [] }
  else s

/-- A domain goes off (R443, R445): its registers, memory and contents are lost, and it no longer reads on. -/
def domainOff (d : Nat) (s : State) : State :=
  if d = 0 then s else
  let t := resetDomain d (wipeMem d (hiddenOff d s))
  redirectAll (putBit Reg.PMU_DOM_PEND.PEND d false (putBit Reg.PMU_DOM_STAT.ON d false (putBit Reg.PMU_DOM_CTL.ON d false t)))

def domainsOff (l : List Nat) (s : State) : State := l.foldl (fun t d => domainOff d t) s

/-- A domain reads on, with every register at its Reset value (R443). -/
def domainOn (d : Nat) (s : State) : State :=
  redirectAll (putBit Reg.PMU_DOM_STAT.ON d true (putBit Reg.PMU_DOM_CTL.ON d true s))

/-- Switching-on order: parents first (R446); switching-off order is its reverse. -/
def domOrder : List Nat := [1, 2, 3, 4, 5, 6, 20, 7, 8, 9, 10, 11, 12, 13, 14, 15, 16, 17, 18, 19, 21, 22, 23]
def domChildren (d : Nat) : List Nat := domOrder.filter (fun c => domParent c == some d)

/-- The requests of one write that are refused (R442): of `on`, domains whose parent neither stays on nor goes on; of `off`, domains with a child that
stays on, and SRAM_TBL while the table cache is enabled. -/
def refusedOn (now on : Nat) : List Nat :=
  domOrder.foldl (fun l d =>
    if on.testBit d then
      (match domParent d with
       | none => l
       | some p => if now.testBit p ∨ (on.testBit p ∧ !l.contains p) then l else l ++ [d])
    else l) []

def refusedOff (now off on : Nat) (tch : Bool) : List Nat :=
  domOrder.reverse.foldl (fun l d =>
    if off.testBit d then
      (if (d = 19 ∧ tch = true) ∨ (domChildren d).any (fun c => on.testBit c || (now.testBit c && (!off.testBit c || l.contains c))) = true
       then l ++ [d] else l)
    else l) []

/-- The first refusal sets PMU_DOM_ERR, records an event and raises line 0; a further one sets MORE (R442, R444). Log entry 110 (DEDUCED). -/
def domRefused (d cause : Nat) (s : State) : State :=
  if get Reg.PMU_DOM_ERR.VALID s = 1 then put Reg.PMU_DOM_ERR.MORE 1 s
  else linePost 32 Reg.PMU_DOM_ERR.VALID 1 0 [d, cause] (puts [(Reg.PMU_DOM_ERR.DOM, d), (Reg.PMU_DOM_ERR.CAUSE, cause)] s)

/-- One domain's accepted request (R442, R444): on, it starts to switch on, or its deferral is cancelled; off, its deferral starts, or waits for
a switch-on to complete. -/
def domRequest (value : Nat) (s : State) (d : Nat) : State :=
  if value.testBit d then
    let t := putBit Reg.PMU_DOM_CTL.ON d true s
    if bit Reg.PMU_DOM_PEND.PEND d s then putBit Reg.PMU_DOM_PEND.PEND d false t
    else if domOn d s ∨ s.pmu.goingOn.contains d then t
    else setPmu { t.pmu with goingOn := t.pmu.goingOn ++ [d] } t
  else
    let t := putBit Reg.PMU_DOM_CTL.ON d false s
    if domOn d s then putBit Reg.PMU_DOM_PEND.PEND d true t else t

/-- A set of domains is requested as by one write of PMU_DOM_CTL (R442, R446). Bit 0 and unchanged bits are ignored. -/
def requestDomains (value : Nat) (s : State) : State :=
  let now := get Reg.PMU_DOM_CTL.ON s
  let changed (d : Nat) : Bool := now.testBit d != value.testBit d
  let mask (p : Nat → Bool) : Nat := domOrder.foldl (fun m d => withBit m d (p d)) 0
  let on := mask (fun d => changed d && value.testBit d)
  let off := mask (fun d => changed d && !value.testBit d)
  let bad := refusedOn now on ++ refusedOff now off on (get Reg.TCH_CTL.EN s == 1)
  let t := (domOrder.filter (fun d => changed d && !bad.contains d)).foldl (domRequest value) s
  (domOrder.filter (fun d => bad.contains d)).foldl (fun u d => domRefused d 2 u) t

/-- DOMAIN_CTL_WRITE: a write of PMU_DOM_CTL (R442). -/
def execDomainCtlWrite (value : Nat) (s : State) : Out := .next (requestDomains value s)

/-- A domain is on only while its parent is (R441): it reads on once its parent does, and goes off once its children have gone off (R442, R446). -/
def parentOn (d : Nat) (s : State) : Bool := (domParent d).all (fun p => domOn p s)
def childOn (d : Nat) (s : State) : Bool := (domChildren d).any (fun c => domOn c s || s.pmu.goingOn.contains c)

/-- DOMAIN_ON_COMPLETE: a domain that switches on reads on after its parent (R443, R446); one requested off meanwhile starts its deferral (R444). Log entry 168 (DEDUCED). -/
def execDomainOnComplete (d : Nat) (s : State) : Out :=
  let ctl := domCtl d s
  let t := domainOn d (setPmu { s.pmu with goingOn := s.pmu.goingOn.filter (· != d) } s)
  unit d 24 (occurs (s.pmu.goingOn.contains d = true ∧ parentOn d s = true)
    (if ctl then t else putBit Reg.PMU_DOM_PEND.PEND d true (putBit Reg.PMU_DOM_CTL.ON d false t)) s)

/-- The domain of an address. -/
def addrDomain (a : Nat) : Nat := if within regSpace a 1 then regDomain a else memDomain a

/-- A DMA block touches a domain (R444). Each access is one step, so none is outstanding between steps. -/
def touches (d : Nat) (s : State) : Bool :=
  (List.range 32).any (fun c =>
    let r := dmaOf c s
    let ends (a : Nat) (fix : Bool) : Bool := addrDomain a == d || (!fix && addrDomain (a + r.size - 1) == d)
    dmaState c s != 0 && (ends r.src (get (Reg.DMA_CTL.SRC_FIX c) s == 1) || ends r.dst (get (Reg.DMA_CTL.DST_FIX c) s == 1)))

/-- DOMAIN_OFF: a domain under deferral goes off once no transfer touches it (R444) and its children are off (R441, R442). Log entry 168 (DEDUCED). -/
def execDomainOff (d : Nat) (s : State) : Out :=
  unit d 24 (occurs (bit Reg.PMU_DOM_PEND.PEND d s = true ∧ touches d s = false ∧ childOn d s = false) (domainOff d s) s)

/-- DOMAIN_DEFER_TIMEOUT: a transfer still touches a domain after DEFER_US: refused with cause 1 (R444), with
the parent that was to go off after it. Log entry 168 (DEDUCED). -/
def execDomainDeferTimeout (d elapsedUs : Nat) (s : State) : Out :=
  let lim := get Reg.PMU_DOM_CFG.DEFER_US s
  unit d 24 (occurs (bit Reg.PMU_DOM_PEND.PEND d s = true ∧ (touches d s || childOn d s) = true ∧ (if lim = 0 then 1000 else lim) ≤ elapsedUs)
    (domRefused d 1 (putBit Reg.PMU_DOM_CTL.ON d true (putBit Reg.PMU_DOM_PEND.PEND d false s))) s)

/-! ### Checkpoints -/

def slotAddr (k : Nat) : Nat := 0x30000000 + 0x200000 * k
def commitWord : Nat := 0xA5C35A3C
def ckptMagic : Nat := 0x54504B43

/-- The ranks of held triggers (R450). -/
def kindRank (k : Nat) : Nat := if k = 4 then 3 else if k = 3 then 2 else if k = 5 then 1 else 0

def xlogWord (s : State) : Nat := get Reg.PMU_XLOG.HEAD s + 2 ^ 16 * get Reg.PMU_XLOG.WRAPS s

/-- A checkpoint of a kind starts in a slot (R450, R451): COMMIT is written 0 first. -/
def ckptStart (kind slot : Nat) (s : State) : State :=
  let c : Ckpt := { kind := kind, slot := slot, seq := s.pmu.nextSeq, tempo := tmpCount s, life := lifeSec s, xlog := xlogWord s, wall := wallMs s }
  put Reg.PMU_CKPT_STAT.BUSY 1 (memPut (slotAddr slot + 0xFFC) 4 0 (setPmu { s.pmu with ckpt := some c } s))

def nextSlot (s : State) : Nat := (get Reg.PMU_CKPT_STAT.LAST s + 1) % 6

/-- A trigger (R450): it runs, or is held one deep, where the highest-ranking kind stands. -/
def ckptTrigger (kind : Nat) (s : State) : State :=
  match s.pmu.ckpt with
  | none => ckptStart kind (nextSlot s) s
  | some _ =>
    let k := match s.pmu.held with
      | none => kind
      | some h => if kindRank h < kindRank kind then kind else h
    put Reg.PMU_CKPT_STAT.HELD 1 (setPmu { s.pmu with held := some k } s)

/-- A write of PMU_CKPT_CFG (R450): a PERIOD_S other than 0 after 0 makes the next periodic checkpoint due at once. -/
def ckptCfgWrite (v : Nat) (s : State) : State :=
  let t := put Reg.PMU_CKPT_CFG.PERIOD_S (bits v 0 8) s
  setPmu { t.pmu with atOnce := bits v 0 8 != 0 && (get Reg.PMU_CKPT_CFG.PERIOD_S s == 0 || t.pmu.atOnce) } t

/-- PERIODIC_CHECKPOINT: PERIOD_S since the start of the last periodic checkpoint or the setting of RESTORED (R450). -/
def execPeriodicCheckpoint (elapsedMs : Nat) (s : State) : Out :=
  let p := get Reg.PMU_CKPT_CFG.PERIOD_S s
  occurs ((mode s = 3 ∨ mode s = 4) ∧ get Reg.PMU_CKPT_CTL.RESTORED s = 1 ∧ p ≠ 0 ∧ (p * 1000 ≤ elapsedMs ∨ s.pmu.atOnce = true))
    (ckptTrigger 1 (setPmu { s.pmu with atOnce := false } s)) s

/-- CHECKPOINT_REQUEST: PMU_CKPT_CTL.REQ (R450): held until RESTORED is set, dropped in RESCUE. Log entry 111 (DEDUCED). -/
def execCheckpointRequest (s : State) : Out :=
  .next (if mode s = 5 then put Reg.PMU_CKPT_CTL.REQ 0 s
    else if get Reg.PMU_CKPT_CTL.RESTORED s = 0 then put Reg.PMU_CKPT_CTL.REQ 1 s
    else ckptTrigger 5 s)

/-- The source of an entry of PMU_RESCUE_SRC. -/
def srcAddr (k : Nat) (s : State) : Nat := 16 * get (Reg.PMU_RESCUE_SRC_LO.ADDR k) s + 2 ^ 32 * get (Reg.PMU_RESCUE_SRC_HI.ADDR k) s

/-- A source lies in DRAM or MRAM (R452). -/
def srcOk (a : Nat) : Bool := within dramSpace a 4 || within (0x30000000, 0x31000000) a 4

/-- The next entry's section is copied (R452): the count word and its data, up to MAX and the slot end; cut, it is marked TRUNC with an event. -/
def copySection (c : Ckpt) (s : State) : State :=
  let k := c.next
  let a := srcAddr k s
  let full := 4 + memNat a 4 s
  let n := min full (min (get (Reg.PMU_RESCUE_SRC_MAX.MAX k) s) (0x200000 - c.ofs))
  let id := get (Reg.PMU_RESCUE_SRC_HI.ID k) s
  let l := memRead a n s
  let cut := b2n (decide (n < full))
  if get (Reg.PMU_RESCUE_SRC_HI.EN k) s = 1 ∧ srcOk a = true then
    (let t := setPmu { s.pmu with ckpt := some { c with next := k + 1
                                                        ofs := (c.ofs + n + 4095) / 4096 * 4096
                                                        secs := c.secs ++ [(id, cut, c.ofs, n, crc32c l)] } }
       (memWrite (slotAddr c.slot + c.ofs) l s)
     if n < full then post 0x060 0 ([id, 0, 0, 0] ++ bytesOf 4 n) (put Reg.PMU_RESCUE_STAT.TRUNC 1 t) else t)
  else setPmu { s.pmu with ckpt := some { c with next := k + 1 } } s

/-- The copy of every section left. -/
def copyRest : (n : Nat) → State → State
  | 0, s => s
  | n + 1, s => match s.pmu.ckpt with
    | some c => if c.next < 8 then copyRest n (copySection c s) else s
    | none => s

/-- The header of a slot (R451), but for its CRC and COMMIT. -/
def headerBytes (c : Ckpt) (s : State) : List Nat :=
  let secs := c.secs.flatMap (fun p => bytesOf 2 p.1 ++ bytesOf 2 p.2.1 ++ bytesOf 4 p.2.2.1 ++ bytesOf 4 p.2.2.2.1 ++ bytesOf 4 p.2.2.2.2)
  let l := bytesOf 4 ckptMagic ++ [1, c.kind % 256] ++ bytesOf 2 c.secs.length ++ bytesOf 8 c.seq ++ bytesOf 8 c.tempo ++ bytesOf 4 c.life
    ++ bytesOf 4 c.xlog ++ bytesOf 8 c.wall ++ bytesOf 4 (get Reg.BOOT_IMG_GEN.GEN s) ++ bytesOf 4 (get Reg.CMD_WCE_LO.EN s)
    ++ bytesOf 4 (get Reg.CMD_WCE_HI.EN s) ++ List.replicate 12 0 ++ secs
  (l ++ List.replicate 4088 0).take 4088

/-- A slot is committed (R451): header, CRC, COMMIT; SEQ and LAST follow, and SEQ of the event ring is copied (R468). -/
def ckptCommit (c : Ckpt) (s : State) : State :=
  let h := headerBytes c s
  let t := memWrite (slotAddr c.slot) (h ++ bytesOf 4 (crc32c h) ++ bytesOf 4 commitWord) s
  puts [(Reg.PMU_CKPT_STAT.BUSY, 0), (Reg.PMU_CKPT_STAT.LAST, c.slot), (Reg.PMU_CKPT_SEQ_LO.SEQ, bits c.seq 0 32),
    (Reg.PMU_CKPT_SEQ_HI.SEQ, bits c.seq 32 16)]
    { t with pmu := { t.pmu with ckpt := none, nextSeq := c.seq + 1 }
             evr := { t.evr with seqCopy := evrSeq t }
             zmg := { t.zmg with tailSaved := t.zmg.tail } }

/-- CHECKPOINT_WRITE: the next section of the checkpoint being written (R451, R452). Log entry 112 (DEDUCED). -/
def execCheckpointWrite (s : State) : Out :=
  match s.pmu.ckpt with
  | none => .next s
  | some c => occurs (c.next < 8) (copySection c s) s

/-- The held trigger runs as a checkpoint ends (R450). -/
def heldRuns (s : State) : State :=
  match s.pmu.held with
  | none => s
  | some k => ckptTrigger k (put Reg.PMU_CKPT_STAT.HELD 0 (setPmu { s.pmu with held := none } s))

/-- CHECKPOINT_COMPLETE: a checkpoint commits, with line 1, and a held trigger runs (R450, R451). -/
def execCheckpointComplete (s : State) : Out :=
  match s.pmu.ckpt with
  | none => .next s
  | some c => occurs (c.next = 8 ∧ c.kind ≠ 2) (heldRuns (raisePost 33 0 [c.kind, c.slot] (ckptCommit c s))) s

/-! ### The extent log -/

/-- A record of the extent log is written before data enters a clean extent (R449). -/
def xlogAppend (ns extent : Nat) (s : State) : State :=
  let h := get Reg.PMU_XLOG.HEAD s
  let q := get Reg.PMU_CKPT_SEQ_LO.SEQ s + 2 ^ 32 * get Reg.PMU_CKPT_SEQ_HI.SEQ s
  let t := put Reg.PMU_XLOG.HEAD (h + 1) (memWrite (0x30F00000 + 16 * h) (bytesOf 8 extent ++ [ns % 256, 0] ++ bytesOf 6 q) s)
  if h + 1 = 65536 then bump Reg.PMU_XLOG.WRAPS t else t

/-! ### RESCUE -/

/-- The staged records are written to the ring without the budget (R455, R470). Log entry 149 (DEDUCED). -/
def drainRing : (n : Nat) → State → State
  | 0, s => s
  | n + 1, s => match s.evr.staged with
    | [] => s
    | r :: _ => drainRing n (if mergesWith r s then
        (let a := ringAddr (newestIdx s)
         let t := memPut (a + 14) 2 (min 65535 (memNat (a + 14) 2 s + 1)) s
         unstage (memPut (a + 60) 4 (crc32c (memRead a 60 t)) t))
      else leaveQueue r s)

/-- The domains that go off within 20 µs of the assertion (R441, R455). -/
def rescueOffSet : List Nat := [23, 22, 21, 17, 16, 15, 14, 13, 12, 11, 10, 9, 8, 7, 20, 6, 5, 4, 3]

/-- The table cache is written back and its domain goes off (R455). -/
def tableOff (s : State) : State :=
  let t := allBuffers 6 ((s.tch.lines.map (·.1)).foldl (fun t k => wayOp 6 k t) s)
  domainOff 19 t

/-- RESCUE_SEQUENCE: running blocks end, domains go off, the staged records are written, the table cache is written back and the image is copied
(R455, R456); before RESTORED only the event-ring step is taken, and then everything but AON goes off (R44, R38). -/
def execRescueSequence (s : State) : Out :=
  let t := drainRing 65 (domainsOff rescueOffSet (dmaPfail s))
  let slot := match s.pmu.ckpt with
    | some c => c.slot
    | none => nextSlot s
  let full := copyRest 8 (ckptStart 2 slot (tableOff t))
  let ring := domainsOff [18, 19, 2, 1] (domainsOff rescueOffSet (drainRing 65 s))
  if s.boot.rescue = 1 then occurs (mode s = 5) (setBoot { full.boot with rescue := 2 } full) s
  else occurs (mode s = 5 ∧ s.boot.rescue = 4) (setBoot { ring.boot with rescue := 3 } (put Reg.PMU_RESCUE_STAT.RESULT 2 ring)) s

/-- COMMIT is written and read back, RESULT and TIME are set, and every domain but AON goes off (R455). -/
def rescueFinal (c : Ckpt) (time10us : Nat) (s : State) : State :=
  let t := domainsOff [18, 2, 1] (puts [(Reg.PMU_RESCUE_STAT.RESULT, 1), (Reg.PMU_RESCUE_STAT.TIME, min time10us 4095)] (ckptCommit c s))
  setBoot { t.boot with rescue := 3 } t

/-- The save stops before COMMIT (R457): the slot stays uncommitted, RESULT is 3. -/
def rescueAbandon (s : State) : State :=
  if s.boot.rescue = 1 ∨ s.boot.rescue = 2 then
    { puts [(Reg.PMU_RESCUE_STAT.RESULT, 3), (Reg.PMU_CKPT_STAT.BUSY, 0)] s with
      boot := { s.boot with rescue := 3 }
      pmu := { s.pmu with ckpt := none } }
  else s

/-! ### Restore -/

/-- A header's fields: magic, SEQ. -/
def hasMagic (k : Nat) (s : State) : Bool := memNat (slotAddr k) 4 s == ckptMagic
def slotSeq (k : Nat) (s : State) : Nat := memNat (slotAddr k + 8) 6 s

/-- Section entry j of a slot: ID, TRUNC, offset, length, CRC. -/
def sectionOf (k j : Nat) (s : State) : Nat × Nat × Nat × Nat × Nat :=
  let a := slotAddr k + 0x40 + 16 * j
  (memNat a 2 s, memNat (a + 2) 2 s, memNat (a + 4) 4 s, memNat (a + 8) 4 s, memNat (a + 12) 4 s)

/-- A slot is valid (R451). -/
def slotValid (k : Nat) (s : State) : Bool :=
  let a := slotAddr k
  hasMagic k s && memNat (a + 0xFFC) 4 s == commitWord
  && crc32c (memRead a 0xFF8 s) == memNat (a + 0xFF8) 4 s
  && (List.range (min 8 (memNat (a + 6) 2 s))).all (fun j =>
      let p := sectionOf k j s
      crc32c (memRead (a + p.2.2.1) p.2.2.2.1 s) == p.2.2.2.2)
  && !s.poison.any (fun p => decide (a ≤ p) && decide (p < a + 0x200000))
  && !s.memp.upsets.any (fun u => u.2.1 == 2 && decide (upsetKey 6 a ≤ u.1) && decide (u.1 < upsetKey 6 (a + 0x200000)))

/-- The valid slot of highest SEQ (R459). -/
def bestSlot (s : State) : Option Nat :=
  ((List.range 6).filter (fun k => slotValid k s)).foldl (fun b k => match b with
    | none => some k
    | some j => if slotSeq j s < slotSeq k s then some k else b) none

/-- The highest SEQ of any header with a valid MAGIC. -/
def topSeq (s : State) : Nat := ((List.range 6).filter (fun k => hasMagic k s)).foldl (fun m k => max m (slotSeq k s)) 0

/-- After a reset other than an activation reset the wall time restarts from the header's, or 0, and is stale (R463). -/
def wallRestored (k : Option Nat) (s : State) : State :=
  if s.boot.cause = 7 then s
  else put Reg.EVR_STAT.WALL_STALE 1 (putWall (match k with | none => 0 | some j => memNat (slotAddr j + 0x20) 8 s) s)

/-- CHECKPOINT_RESTORE: in BRINGUP PMU selects the valid slot of highest SEQ (R459, R460). -/
def execCheckpointRestore (s : State) : Out :=
  let b := bestSlot s
  let t := wallRestored b (setPmu { s.pmu with nextSeq := topSeq s + 1 } s)
  let u := match b with
    | none => put Reg.PMU_CKPT_STAT.NONE 1 t
    | some k =>
      let v := puts [(Reg.PMU_CKPT_STAT.RESTORED_SLOT, k), (Reg.PMU_CKPT_STAT.KIND, memNat (slotAddr k + 5) 1 s), (Reg.PMU_CKPT_STAT.NONE, 0)] t
      if slotSeq k s < topSeq s then linePost 34 Reg.PMU_CKPT_STAT.FALLBACK 1 0 [k] v else v
  occurs (mode s = 2 ∧ get Reg.PMU_CKPT_CTL.RESTORED s = 0) u s

/-- The entries of a slot's dirty-extent table (R369): namespace, first extent, extents covered. -/
def dirtyTable (k : Nat) (s : State) : List (Nat × Nat × Nat) :=
  match ((List.range (min 8 (memNat (slotAddr k + 6) 2 s))).map (fun j => sectionOf k j s)).find? (fun p => p.1 == 2) with
  | none => []
  | some p =>
    let a := slotAddr k + p.2.2.1
    (List.range ((p.2.2.2.1 - 4) / 16)).map (fun i =>
      let b := a + 4 + 16 * i
      (memNat (b + 8) 1 s, memNat b 8 s, memNat (b + 12) 4 s))

/-- The records of the extent log since a slot's position: how many, and what they hold. -/
def xlogSince (k : Nat) (s : State) : Nat :=
  let h := memNat (slotAddr k + 0x1C) 4 s
  (xlogWord s % 2 ^ 16 + xlogWord s / 2 ^ 16 * 65536 + 2 ^ 32 - (h % 2 ^ 16 + h / 2 ^ 16 * 65536)) % 2 ^ 32
def xlogRecords (k : Nat) (s : State) : List (Nat × Nat × Nat) :=
  let h := memNat (slotAddr k + 0x1C) 2 s
  (List.range (xlogSince k s)).map (fun i =>
    let a := 0x30F00000 + 16 * ((h + i) % 65536)
    (memNat (a + 8) 1 s, memNat a 8 s, 1))

/-- The namespaces with zones. -/
def namespaces (s : State) : List Nat := (List.range 64).filter (fun n => get (Reg.ZMG_NS_COUNT.COUNT n) s != 0)

/-- One entry with cause 2 over a namespace's zones that are not Full, Read Only or Offline (R460). -/
def loseNamespace (n : Nat) (s : State) : State :=
  let f := get (Reg.ZMG_NS_ZONES.FIRST n) s
  let l := (List.range (get (Reg.ZMG_NS_COUNT.COUNT n) s)).filter (fun i =>
    let st := (zoneOf (f + i) s).state
    st != 14 && st != 13 && st != 15)
  match l.head?, l.getLast? with
  | some i, some j => addLost n (i * zoneLbas n s) ((j + 1 - i) * zoneLbas n s) 2 s
  | _, _ => s

/-- The LBAs of an extent of 64 KiB. -/
def extentLbas (n : Nat) (s : State) : Nat := 16 * lbasPerBlock n s

/-- An extent of a zone whose write pointer is to be recovered: R215 says what of it is lost. -/
def recovers (n extent : Nat) (s : State) : Bool := (zoneOf (zoneOfBlock n (16 * extent) s) s).recov

/-- The candidates of the checkpoint restored (R460): namespace and extent of what its dirty table and the log since then name. Log entry 150 (DEDUCED). -/
def lostCandidates (s : State) : List (Nat × Nat) :=
  let k := get Reg.PMU_CKPT_STAT.RESTORED_SLOT s
  ((dirtyTable k s ++ xlogRecords k s).flatMap (fun p => (List.range p.2.2).map (fun i => (p.1, p.2.1 + i)))).eraseDups

/-- The lost-write entries after a reset (R369, R460), from the candidates that `onMedia` (namespace, extent) does not show on media; none
after an activation reset. Log entry 150 (DEDUCED). -/
def candidatesLost (onMedia : List (Nat × Nat)) (s : State) : State :=
  if s.boot.cause = 7 then s
  else if get Reg.PMU_CKPT_STAT.NONE s = 1 then (namespaces s).foldl (fun t n => loseNamespace n t) s
  else
    let k := get Reg.PMU_CKPT_STAT.RESTORED_SLOT s
    if 65536 < xlogSince k s then
      ((namespaces s).filter (fun n => (memNat (slotAddr k + 0x2C) 8 s).testBit n)).foldl (fun t n => loseNamespace n t) s
    else
      ((lostCandidates s).filter (fun p => !onMedia.contains p && !recovers p.1 p.2 s)).foldl (fun t p =>
        addLost p.1 (p.2 * extentLbas p.1 s) (extentLbas p.1 s) 2 t) s

/-- The tables are taken from the last checkpoint and journal (R215, R233): descriptors, media-cache index, remaps, pending-unrecoverable list; after a loss of power every zone
that was opened carries RECOV, and the index is completed from the tag sectors read past each log head. A copy that was running is begun anew. DRAM keeps all of it through an activation. Log entry 248 (DEDUCED). -/
def loadZones (tags : List (Nat × List Decoded)) (s : State) : State :=
  if s.boot.cause = 7 then s
  else
    let t := [2, 3, 4].foldl (fun u k => rebuildOther k u) (rebuildZones s)
    let ks := (flushJournal s).zmg.saved.zones.map (·.1)
    let n (f : Nat → Bool) : Nat := (ks.filter (fun z => f (zoneOf z t).state)).length
    let u := puts [(Reg.ZMG_OPEN_CNT.OPEN, n isOpened), (Reg.ZMG_OPEN_CNT.ACTIVE, n isActive)] t
    let u1 := (ks.filter (fun z => (zoneOf z t).reloc)).foldl (fun w z => setZone z { zoneOf z w with reloc := false } w) u
    let l := if s.boot.cause = 6 then [] else ks.filter (fun z => isOpened (zoneOf z t).state)
    let v := l.foldl (fun w z => setZone z { zoneOf z w with recov := true } w) u1
    let w := if s.boot.cause = 6 then v else tags.foldl (fun x q => completeCache q.1 q.2 x) v
    showFill (showRecovering { w with zmg := { w.zmg with order := l.filter (fun z => !w.zmg.order.contains z) ++ w.zmg.order } })

/-- The free spare zones (R227) are those of the image's zone layout that nothing uses; the layout comes with the row. Log entry 249 (PRESUMED). -/
def layoutSpares (layout : List Nat) (s : State) : State :=
  if s.boot.cause = 7 then s
  else
    let used := (allZones s).map (fun z => (zoneOf z s).phys)
    let l := layout.filter (fun p => !used.contains p && !s.zmg.remaps.any (fun r => r.2.1 == p))
    put Reg.ZMG_SPARE.FREE l.length { s with zmg := { s.zmg with spares := l } }

/-- RESTORED: firmware sets PMU_CKPT_CTL.RESTORED (R459, R460): the zone tables are loaded, the candidates enter the lost-write list, and a REQ that waited runs. Log entry 249 (PRESUMED). -/
def execRestored (onMedia : List (Nat × Nat)) (tags : List (Nat × List Decoded)) (layout : List Nat) (s : State) : Out :=
  let t := put Reg.PMU_CKPT_CTL.RESTORED 1 (layoutSpares layout (candidatesLost onMedia (loadZones tags s)))
  occurs (mode s = 2 ∧ get Reg.PMU_CKPT_CTL.RESTORED s = 0)
    (if get Reg.PMU_CKPT_CTL.REQ s = 1 then ckptTrigger 5 (put Reg.PMU_CKPT_CTL.REQ 0 t) else t) s

end Sys2Proof.Machine
end

