-- ==== Sys2Proof/Machine/Modes.lean ====
section
/-! DEFINITION. 02_modes_and_bringup.md: resets (R59), the boot ROM (R46 to R57), mode transitions (R38 to R45), firmware download, commit and
activation (R61 to R64, R353), and the pins of 21_electrical_and_timing.md that start them (R506, R507). -/

namespace Sys2Proof.Machine

/-! ### Resets -/

/-- The boot record's fields lie in MRAM (R47). -/
def keptRecord : List (RegDesc × Nat) := [(Reg.BOOT_SLOT_CTL.desc, 0), (Reg.BOOT_SLOT_CTL.desc, 1), (Reg.BOOT_SLOT_CTL.desc, 2), (Reg.BOOT_SLOT_CTL.desc, 3)]

/-- The fields that a reset "as pin" keeps (R59). Log entry 114 (DEDUCED). -/
def keepsPin (k : Nat) : Bool := keyIn Reg.keptMram k || keyIn Reg.keptAon k || keyIn keptRecord k
/-- The fields that power-on keeps: MRAM contents. -/
def keepsMram (k : Nat) : Bool := keyIn Reg.keptMram k || keyIn keptRecord k

/-- The boot record's and the fuses' owner after a reset. -/
def bootAfter (cause : Nat) (b : BootSt) : BootSt :=
  { fuses := b.fuses, slotA := b.slotA, slotB := b.slotB, recordGood := b.recordGood, straps := b.straps, uid := b.uid, cause := cause
    pwrLow := b.pwrLow, oldMode := b.oldMode
    clockLost := b.clockLost, trialFailed := b.trialFailed, wokeBy := b.wokeBy }

/-- The hashing contexts stood in DRAM: after a loss of it they wait to be rebuilt (R319). Log entry 158 (DEDUCED). -/
def ctxsLost (m : AMap SealCtx) : AMap SealCtx := m.map (fun p => (p.1, { p.2 with damaged := true }))

/-- What ZMG works on is given up at a reset (R59); its tables stay. -/
def zmgIdle (s : State) : State :=
  { s with zmg := { s.zmg with ati := [], failed := [], rewrite := [], relocate := [], rebuilding := none } }

/-- What ZMG holds after a reset: what MRAM, media and the checkpoint keep; DRAM is lost, and a zone that was being written as an image or a copy is free again (R221). -/
def zmgReset (s : State) : State :=
  let t := zmgIdle s
  { t with zmg := { t.zmg with tail := t.zmg.tailSaved, mc := [], images := [], copying := []
                               spares := t.zmg.spares ++ t.zmg.images.map (fun q => q.2.1) ++ t.zmg.copying.map (fun q => q.2) } }

/-- What the blocks hold beside their registers after a reset "as pin": what MRAM, media and AON hold stays (R59). -/
def hiddenReset (s : State) : State :=
  let t := zmgReset ((0 :: domOrder).foldl (fun t d => hiddenOff d t) s)
  { t with
    seals := { t.seals with ctxs := ctxsLost t.seals.ctxs, queue := [], stopped := false }
    cal := {}
    pmu := { nextSeq := t.pmu.nextSeq }
    tmp := { t.tmp with newK := none } }

/-- The registers that follow pins and fuses (R10). Log entry 171 (DESIGN CHOICE). -/
def showPins (s : State) : State :=
  let m (f : KeyFuse → Bool) : Nat := (List.range 4).foldl (fun v i => withBit v i (f (s.boot.fuses.getD i {}))) 0
  puts [(Reg.SMB_CFG.ADDR, 0x1C + s.boot.straps % 8), (Reg.BOOT_KEY_STAT.PROG, m (fun f => f.hash.isSome)),
    (Reg.BOOT_KEY_STAT.REVOKED, m (·.revoked)), (Reg.SEAL_STAT.PROV, b2n s.seals.key.isSome),
    (Reg.FAB_UID_LO.UID, bits s.boot.uid 0 32), (Reg.FAB_UID_HI.UID, bits s.boot.uid 32 32), (Reg.HPC_LINK.PERST, b2n s.pins.perstN),
    (Reg.SYS_CLK_STAT.REFCLK_OK, b2n s.pins.refclk), (Reg.SYS_CLK_STAT.CALREF_OK, b2n s.pins.calref)] s

/-- Registers, memory and hidden state after a reset that keeps some fields and MRAM. The mode before it is noted for the event of R39. Log entries 114 (DEDUCED), 177 (DEDUCED). -/
def resetState (keep : Nat → Bool) (cause : Nat) (s : State) : State :=
  let t := hiddenReset s
  { t with
    regs := t.regs.filter (fun p => keep p.1)
    mem := t.mem.filter (fun c => memDomain c.1 == 1)
    poison := t.poison.filter (fun a => memDomain a == 1)
    memp := { t.memp with upsets := t.memp.upsets.filter (fun u => decide (upsetKey 6 0 ≤ u.1)) }
    boot := { bootAfter cause t.boot with oldMode := some (s.boot.oldMode.getD (mode s)) } }

/-- The domains that power and clocks allow while a reset lasts: AON without PWR_OK (R506), AON and MRAM without clocks (R35), else those of the
Reset values. Log entry 177 (DEDUCED). -/
def heldDomains (s : State) : State :=
  if !s.pins.pwrOk then puts [(Reg.PMU_DOM_CTL.ON, 1), (Reg.PMU_DOM_STAT.ON, 1)] s
  else if !s.pins.xin || !s.pins.pll then puts [(Reg.PMU_DOM_CTL.ON, 3), (Reg.PMU_DOM_STAT.ON, 3)] s
  else puts [(Reg.PMU_DOM_CTL.ON, 7), (Reg.PMU_DOM_STAT.ON, 7)] s

/-- BRINGUP is entered from a reset (R39, R59, R51): the cause and the event with the old and the new code are recorded, and the boot ROM is to run. Log entry 177 (DEDUCED). -/
def toBoot (s : State) : State :=
  let t := showPins (put (causeFld s.boot.cause) 1 (heldDomains s))
  post 0x020 0 [s.boot.oldMode.getD 2, 2] (setBoot { t.boot with awaitBoot := true, oldMode := none } t)

/-- RESET_N is high, and rails, PWR_OK and clocks are good (R35, R506). -/
def pinsGood (s : State) : Bool := s.pins.resetN && s.pins.rails && s.pins.pwrOk && s.pins.xin && s.pins.pll

/-- A reset ends once the pins are good; in RESCUE it has been abandoned (R42). Log entry 177 (DEDUCED). -/
def bootDue (s : State) : State := if pinsGood s && mode s != 5 then toBoot s else heldDomains s

/-- A reset "as pin" (R59): everything but AON, MRAM and what they keep returns to reset. -/
def pinReset (cause : Nat) (s : State) : State := bootDue (resetState keepsPin cause s)

/-- A reset under which the device waits for a pin or a clock. -/
def heldReset (cause : Nat) (s : State) : State := heldDomains (resetState keepsPin cause s)

/-- RESCUE runs: its image is neither finalized nor abandoned. Log entry 149 (DEDUCED). -/
def rescueRuns (s : State) : Bool := mode s == 5 && s.boot.rescue != 0 && s.boot.rescue != 3

/-- POWER_ON_RESET: the AON rails rise (R59): nothing but MRAM, the fuses, the flash and the media stays. TMP_COUNT and the lifetime seconds
resume from what MRAM holds (R65, R462). -/
def execPowerOnReset (s : State) : Out :=
  let t := resetState keepsMram 0 s
  let c := if s.tmp.storedAny then (max s.tmp.stored0 s.tmp.stored1 + 400000) % 2 ^ 48 else 0
  let u := puts [(Reg.TMP_COUNT_LO.COUNT, bits c 0 32), (Reg.TMP_COUNT_HI.COUNT, bits c 32 16),
    (Reg.EVR_LIFE.SECONDS, max s.tmp.life0 s.tmp.life1)] t
  occurs (s.pins.rails = false)
    { u with pins := {}
             tmp := { stored0 := s.tmp.stored0, stored1 := s.tmp.stored1, life0 := s.tmp.life0, life1 := s.tmp.life1
                      storedAny := s.tmp.storedAny }
             boot := { u.boot with clockLost := none, trialFailed := none, wokeBy := none } } s

/-- A pin reset that waited for RESCUE acts (R507). -/
def waitedReset (s : State) : State := if s.boot.resetHeld then pinReset 1 s else s

/-- RESET_N_ASSERT: low for 10 µs (R507): it waits while RESCUE runs. -/
def execResetNAssert (lowNs : Nat) (s : State) : Out :=
  let t := { s with pins := { s.pins with resetN := false } }
  occurs (10000 ≤ lowNs ∧ s.pins.resetN = true)
    (if rescueRuns s then setBoot { t.boot with resetHeld := true } t else heldReset 1 t) s

/-- RESET_N_RELEASE: RESET_N rises with the rails valid (R39, R494): straps are sampled, fuses load, the cause is recorded and the boot ROM is to
run; without PWR_OK or a clock the boot waits for them (R35, R506), and a reset that RESCUE holds or has cut does not end (R42, R507). Log entry 177 (DEDUCED). -/
def execResetNRelease (straps : Nat) (s : State) : Out :=
  let t := { s with pins := { s.pins with resetN := true } }
  let u := setBoot { t.boot with straps := straps % 8 } t
  occurs (s.pins.resetN = false ∧ s.pins.rails = true) (if mode s = 5 then u else bootDue u) s

/-- RESCUE_FINALIZED: the image is committed (R455); a pin reset that waited acts (R507). -/
def execRescueFinalized (time10us : Nat) (s : State) : Out :=
  match s.pmu.ckpt with
  | none => .next s
  | some c => occurs (mode s = 5 ∧ s.boot.rescue = 2) (waitedReset (rescueFinal c time10us s)) s

/-- RESCUE_ABANDONED: PWR_OK falls or a clock loss is declared before COMMIT is written (R457); a pin reset that waited acts (R507). -/
def execRescueAbandoned (s : State) : Out :=
  occurs (rescueRuns s = true ∧ (s.pins.pwrOk = false ∨ s.pins.xin = false ∨ s.pins.pll = false)) (waitedReset (rescueAbandon s)) s

/-- SOFTWARE_RESET: a write of SYS_SW_RESET with its key and DEV (R59); other writes are ignored. -/
def execSoftwareReset (value : Nat) (s : State) : Out :=
  occurs (bits value 0 16 = 0x5A3C ∧ value.testBit 16 = true ∧ mode s ≠ 5) (pinReset 2 s) s

/-- A clock-loss reset (R35, R457): the flag is set, a save stops, and every domain but AON and MRAM is off until XIN has been valid. `pins` are the
pins after the loss. -/
def clockLoss (f : Fld) (pins : Pins) (s : State) : State :=
  let t := put f 1 (rescueAbandon { s with pins := pins })
  let w := peekWord f.addr t
  let u := heldReset 3 t
  setBoot { u.boot with clockLost := some w } u

/-- XIN_LOSS: no XIN edge for 2 µs (R35). -/
def execXinLoss (gapNs : Nat) (s : State) : Out :=
  occurs (2000 ≤ gapNs ∧ s.pins.rails = true ∧ s.pins.xin = true) (clockLoss Reg.SYS_CLK_STAT.XIN_LOST { s.pins with xin := false } s) s

/-- PLL_LOSS_OF_LOCK: a PLL that is in use has lost lock for more than 1 µs (R35). -/
def execPllLossOfLock (pll unlockedNs : Nat) (s : State) : Out :=
  let f := [Reg.SYS_CLK_STAT.CPLL_LOCK, Reg.SYS_CLK_STAT.DPLL_LOCK, Reg.SYS_CLK_STAT.MPLL_LOCK].getD pll Reg.SYS_CLK_STAT.CPLL_LOCK
  unit pll 3 (occurs (1000 < unlockedNs ∧ get f s = 1) (clockLoss Reg.SYS_CLK_STAT.PLL_LOST { s.pins with pll := false } (put f 0 s)) s)

/-- CLOCK_LOSS_REBOOT: XIN has been valid for 10 ms (R35): the boot ROM runs as after RESET_N. Log entry 177 (DEDUCED). -/
def execClockLossReboot (xinValidMs : Nat) (s : State) : Out :=
  occurs (10 ≤ xinValidMs ∧ s.pins.rails = true ∧ (s.pins.xin = false ∨ s.pins.pll = false))
    (let t := { s with pins := { s.pins with xin := true, pll := true } }
     if mode s = 5 then t else bootDue t) s

/-- PWR_OK_FALL: PWR_OK falls (R506, R457). While RESET_N is high, MRAM writing stops and every domain but AON is held off; while it is low, the
device is in reset and only the domains follow. Log entry 177 (DEDUCED). -/
def execPwrOkFall (s : State) : Out :=
  let t := { s with pins := { s.pins with pwrOk := false } }
  let u := heldReset 1 (rescueAbandon t)
  occurs (s.pins.pwrOk = true ∧ s.pins.rails = true)
    (if s.pins.resetN then setBoot { u.boot with pwrLow := true } u else if mode s = 5 then t else heldDomains t) s

/-- PWR_OK_RISE: boot as after a pin reset (R506). Log entry 177 (DEDUCED). -/
def execPwrOkRise (s : State) : Out :=
  let t := { s with pins := { s.pins with pwrOk := true }
                    boot := { s.boot with pwrLow := false } }
  occurs (s.pins.pwrOk = false ∧ s.pins.rails = true) (if mode s = 5 then t else bootDue t) s

/-- RAILS_LOST: the device is OFF (R39). -/
def execRailsLost (s : State) : Out :=
  let t := resetState keepsMram 0 s
  occurs (s.pins.rails = true)
    { puts [(Reg.PMU_DOM_CTL.ON, 0), (Reg.PMU_DOM_STAT.ON, 0), (Reg.SYS_MODE.CUR, 0)] t with
      pins := { t.pins with rails := false, pwrOk := false, resetN := false }
      boot := { t.boot with oldMode := some 0, pwrLow := false } } s

/-! ### Images -/

/-- The image of a slot, 0 A or 1 B, where it verifies. -/
def slotImage (k : Nat) (s : State) : Option Image := imageOf s.boot.fuses (if k = 0 then s.boot.slotA else s.boot.slotB)

/-- The boot record (R47): PREF, TRIAL, ARMED, TRIES. -/
structure BootRec where
  pref  : Nat
  trial : Nat
  armed : Nat
  tries : Nat
deriving DecidableEq, Repr

def bootRec (s : State) : BootRec :=
  if s.boot.recordGood then ⟨get Reg.BOOT_SLOT_CTL.PREF s, get Reg.BOOT_SLOT_CTL.TRIAL s, get Reg.BOOT_SLOT_CTL.ARMED s, get Reg.BOOT_SLOT_CTL.TRIES s⟩
  else ⟨0, 0, 0, 0⟩

/-- The boot ROM and a commit write the record whole, with a check code that holds; that includes a record found with a bad one. Log entry 174 (DESIGN CHOICE). -/
def putRec (r : BootRec) (s : State) : State :=
  puts [(Reg.BOOT_SLOT_CTL.PREF, r.pref), (Reg.BOOT_SLOT_CTL.TRIAL, r.trial), (Reg.BOOT_SLOT_CTL.ARMED, r.armed), (Reg.BOOT_SLOT_CTL.TRIES, r.tries)]
    (setBoot { s.boot with recordGood := true } s)

/-- SLOT_SELECT (R47): the record after the selection, the slot with its image, and whether the boot rolled back or fell back. -/
def slotSelect (s : State) : BootRec × Option (Nat × Image) × Bool × Bool :=
  let r0 := bootRec s
  let out := r0.trial == 1 && r0.armed == 1
  let r := if out then ⟨1 - r0.pref, 0, 0, 0⟩ else r0
  match slotImage r.pref s with
  | some i => ({ r with armed := if r.trial = 1 then 1 else r.armed }, some (r.pref, i), out, false)
  | none =>
    let o := 1 - r.pref
    let rolled := r.trial == 1
    let r1 := if rolled then ⟨o, 0, 0, 0⟩ else r
    match slotImage o s with
    | some i => (r1, some (o, i), out || rolled, !rolled)
    | none => (r1, none, out || rolled, !rolled)

/-! ### The boot ROM -/

def hasOptics (i : Image) : Bool := i.sections.any (fun x => x.type == 3)

/-- The domains that an image requires (R446, R54): APPS where core 8 has a role, DBG not, OCH and OLINK with section type 3 only. Log entry 115 (DEDUCED). -/
def imageDomains (i : Image) (s : State) : List Nat :=
  domOrder.filter (fun d =>
    !(d == 23) && !(d == 5 && get Reg.SPR_CORE.SEL s == 15) && !((d == 9 || d == 12) && !hasOptics i))

/-- A domain and its parents. Log entry 115 (DEDUCED). -/
def withParents (d : Nat) : List Nat :=
  match domParent d with
  | none => [d]
  | some p => match domParent p with
    | none => [p, d]
    | some q => [q, p, d]

/-- The domains that presets need (R56). -/
def presetDomains (i : Image) : List Nat :=
  (i.presets.flatMap (fun p => withParents (regDomain p.1))) ++ withParents 2

/-- The coefficient tables of an image go into both banks of each engine (R54, R87). Log entry 182 (PRESUMED). -/
def loadCoefs (i : Image) (s : State) : State :=
  let table (l : List Nat) (m : AMap Nat) : AMap Nat := (List.range l.length).foldl (fun m k => AMap.insert k (l.getD k 0) m) m
  (List.range 5).foldl (fun t e =>
    let l := i.coefs.getD e []
    setCe e { ceOf e t with bank0 := table l (ceOf e t).bank0, bank1 := table l (ceOf e t).bank1 } t) s

/-- A field is RWL and its lock holds (R6). -/
def fieldLocked (f : Fld) (s : State) : Bool := (fieldsAt f.addr).any (fun p => p.1 == f && p.2 == .rwl) && isLocked f.addr s

/-- The values that the image gives register fields (R10), but for RWL fields whose lock holds across an activation (R6); K takes effect as a write of
it does (R68). Log entry 10 (DESIGN CHOICE). -/
def imageFields (i : Image) (s : State) : State :=
  let t := puts (i.fields.filter (fun p => !fieldLocked p.1 s)) s
  let k := get Reg.TMP_PHASE.K t
  if k = get Reg.TMP_PHASE.K s then t else kWrite k (put Reg.TMP_PHASE.K (get Reg.TMP_PHASE.K s) t)

/-- The ports and links that the boot ROM enables, by the tables of HSA_CFG, STG_CTL, HLK_CTL and OLK_CTL: stage link 1 and the optical link with section
type 3 only (R54). -/
def enableLinks (i : Image) (s : State) : State :=
  let t := puts [(Reg.HSA_CFG.EN 0, 1), (Reg.HSA_CFG.EN 1, 1), (Reg.STG_CTL.EN 0, 1), (Reg.HLK_CTL.EN 0, 1), (Reg.HLK_CTL.EN 1, 1)] s
  if hasOptics i then puts [(Reg.STG_CTL.EN 1, 1), (Reg.OLK_CTL.EN, 1)] t else t

/-- The image is applied (R51, R54, R56, R76): domains, image values, ball multiplexing, presets, programs and coefficients; what MRAM gives the heads (R163, R167); the spindle is told to
start (R96), or waits for NOTIFY (ENABLE SPINUP) (R346). Flash is read in 8D-8D-8D mode from here on only if the header's XSPI_8D flag is set (R46). `wr` is the write of a register preset (R56). Log entries 10 (DESIGN CHOICE), 164 (DEDUCED). -/
def applyImage (wr : State → Nat × Nat → State) (slot : Nat) (i : Image) (s : State) : State :=
  let want := domOrder.filter (fun d => (imageDomains i s).contains d || (presetDomains i).contains d)
  let t := want.foldl (fun t d => domainOn d t) s
  let u := puts [(Reg.BOOT_STAT.SLOT, slot), (Reg.BOOT_STAT.KEY_SLOT, i.keySlot), (Reg.BOOT_IMG_GEN.GEN, i.generation), (Reg.SYS_MODE.STAGE, 1)]
    (setBoot { t.boot with image := some i, flash8D := i.flags.testBit 0 } t)
  let pads := (List.range (min 16 i.padWords.length)).map (fun n => (0x40005000 + 4 * n, i.padWords.getD n 0))
  let v := (pads ++ i.presets).foldl wr (loadFirmware false i (imageFields i u))
  let w := enableLinks i (loadCoefs i (loadPrograms i.programs v))
  let held := get Reg.HSA_SPINUP.WAIT w == 1
  spnMode 1 0 (columnsPromoted ((List.range 24).foldl assistLoaded (setBoot { w.boot with spinHeld := held, trialPaused := held } w)))

/-- The events that the first BRINGUP after a loss, a failed trial or a wake records (R35, R48, R39). -/
def bringupEvents (s : State) : State :=
  let t := match s.boot.clockLost with | none => s | some w => post 0x025 0 (bytesOf 4 w) s
  let u := match s.boot.trialFailed with | none => t | some k => post 0x7A3 0 [k] t
  let v := match s.boot.wokeBy with | none => u | some m => post 0x026 0 (bytesOf 4 m) u
  setBoot { v.boot with clockLost := none, trialFailed := none, wokeBy := none, awaitBoot := false } v

/-- ROLLBACK (R64). Log entry 173 (DESIGN CHOICE). -/
def rolledBack (slot : Nat) (s : State) : State :=
  post 0x7A2 0 [slot] (put Reg.SYS_ACT_STAT.RESULT 6 s)

/-- Core 0 runs the boot ROM, the PLLs are locked (R51, R31). -/
def romRuns (s : State) : State :=
  let t := puts [(Reg.SYS_CLK_STAT.CPLL_LOCK, 1), (Reg.SYS_CLK_STAT.DPLL_LOCK, 1), (Reg.SYS_CLK_STAT.MPLL_LOCK, 1)] (domainOn 3 s)
  redirectAll { t with sys := { t.sys with started := if t.sys.started.contains 0 then t.sys.started else t.sys.started ++ [0] } }

/-- The boot ROM: selection, verification and load, or the sideband recovery of R50. BOOT_STAT says of this boot whether it rolled back, fell back or
found no image (R47). The event of a rollback names the slot that the record then prefers, also where no slot verifies. Log entries 173 (DESIGN CHOICE), 174 (DESIGN CHOICE). -/
def bootRom (wr : State → Nat × Nat → State) (s : State) : State :=
  let (r, pick, rb, fb) := slotSelect s
  let t := puts [(Reg.BOOT_STAT.ROLLBACK, b2n rb), (Reg.BOOT_STAT.FALLBACK, b2n fb), (Reg.BOOT_STAT.NO_IMAGE, b2n pick.isNone),
    (Reg.BOOT_STAT.TRIAL, r.trial)] (putRec r s)
  let u := if rb then rolledBack (match pick with | none => r.pref | some p => p.1) t else t
  match pick with
  | none => setBoot { u.boot with recovery := true, flash8D := false } u
  | some (k, i) =>
    let v := if fb then post 0x7A4 0 [k] u else u
    let w := applyImage wr k i v
    setBoot { w.boot with trialRuns := r.trial == 1, recovery := false } w

/-- TRIAL_TIMER_EXPIRY: 60 s without SERVICE (R48): a trial reset; the next boot rolls back. -/
def execTrialTimerExpiry (elapsedMs : Nat) (s : State) : Out :=
  let t := setBoot { s.boot with trialFailed := some (get Reg.BOOT_STAT.SLOT s) } s
  occurs (s.boot.trialRuns = true ∧ s.boot.trialPaused = false ∧ mode s = 2 ∧ 60000 ≤ elapsedMs) (pinReset 4 t) s

/-! ### Mode transitions -/

/-- The mode changes, with its event (R39). Log entry 120 (DEDUCED). -/
def goMode (new : Nat) (s : State) : State :=
  post 0x020 0 [mode s, new] (puts [(Reg.SYS_MODE.PREV, mode s), (Reg.SYS_MODE.CUR, new)] s)

/-- A transition or an activation is running (R45). -/
def modeBusy (s : State) : Bool := get Reg.SYS_MODE.BUSY s == 1 || get Reg.SYS_MODE.ACT s == 1

/-- The requests that R39 allows. -/
def allowed (m target : Nat) : Bool :=
  (m == 3 && target == 4) || (m == 4 && target == 3) || ((m == 3 || m == 4) && target == 1)

/-- A request is taken or refused (R45, R39): SERVICE from QUIESCE resumes the spindle at once (R96); the others run. -/
def takeMode (target : Nat) (s : State) : State :=
  let t := put Reg.SYS_MODE_REQ.GO 0 s
  if !allowed (mode s) target then put Reg.SYS_MODE_REQ.REFUSED 1 t
  else if target = 3 then spnMode 1 0 (goMode 3 t)
  else
    let u := put Reg.SYS_MODE.BUSY 1 (setBoot { t.boot with going := some target } t)
    if target = 1 ∧ mode s = 4 then spnMode 0 0 u else u

/-- A request (R45): held one deep while a transition or activation runs, a later one in its place; nothing is taken in RESCUE (R42). -/
def askMode (target : Nat) (s : State) : State :=
  if mode s = 5 then s
  else if modeBusy s then
    puts [(Reg.SYS_MODE_REQ.GO, 1), (Reg.SYS_MODE_REQ.PEND, 1)] (setBoot { s.boot with heldReq := some target } s)
  else takeMode target s

/-- MODE_REQUEST: SYS_MODE_REQ.GO with a target (R45). -/
def execModeRequest (target : Nat) (s : State) : Out :=
  .next (askMode (target % 8) (put Reg.SYS_MODE_REQ.TARGET target s))

/-- HELD_MODE_REQUEST_TAKEN: the running transition or activation has ended (R45). -/
def execHeldModeRequestTaken (s : State) : Out :=
  match s.boot.heldReq with
  | none => .next s
  | some k => occurs (modeBusy s = false) (takeMode k (put Reg.SYS_MODE_REQ.PEND 0 (setBoot { s.boot with heldReq := none } s))) s

/-- The mechanisms that SERVICE needs are driven by an engine: the optical engine counts only with section type 3 (R40, R54). Log entry 172 (DEDUCED). -/
def engineNeeded (e : Nat) (s : State) : Bool :=
  e != 3 || (match s.boot.image with | none => false | some i => hasOptics i)

/-- The readiness conditions of R40, R76 and R216: the streams asked are those that serve, a promoted one in its place (R200). Log entries 146 (DEDUCED), 172 (DEDUCED). -/
def serviceReady (s : State) : Bool :=
  s.boot.image.isSome && get Reg.DRC_STAT.TRAINED s == 1 && get Reg.PMU_CKPT_CTL.RESTORED s == 1
  && get Reg.SPN_STAT.LOCK s == 2 && actState 0 s == 4 && actState 1 s == 4
  && get (Reg.HCH_STAT.CONV (streamOf 0 1 s)) s == 1 && get (Reg.HCH_STAT.CONV (streamOf 1 1 s)) s == 1 && s.boot.sealReady
  && get Reg.ZMG_STAT.RECOVERING s == 0 && (List.range 4).all (fun e => get (Reg.CE_STAT.BAD_PROG e) s == 0 || !engineNeeded e s)

/-- SERVICE_ENTRY: BRINGUP reaches SERVICE (R40): a trial is cleared (R48), an activation is done (R62), the SERVICE domains are requested
(R446), and fetching runs (R377). -/
def execServiceEntry (s : State) : Out :=
  let t := noteAllEligible (goMode 3 s)
  let u := if s.boot.trialRuns then puts [(Reg.BOOT_SLOT_CTL.TRIAL, 0), (Reg.BOOT_SLOT_CTL.ARMED, 0), (Reg.BOOT_SLOT_CTL.TRIES, 0)] t else t
  let v := if get Reg.SYS_ACT_STAT.RESULT s = 1 then attention (put Reg.SYS_ACT_STAT.RESULT 2 u) else u
  let w := puts [(Reg.SYS_MODE.ACT, 0), (Reg.SYS_MODE.MEDIA_FAULT, 0)] (setBoot { v.boot with trialRuns := false, actPhase := 0, actPort := none } v)
  occurs (mode s = 2 ∧ serviceReady s = true) (resumeFetch (spnMode 1 0 (requestDomains (get Reg.PMU_DOM_SVC.SET s ||| 1) w))) s

/-- Both actuators are told to unload, and OSV to park its disc (R38, R62). -/
def standDown (s : State) : State :=
  let act (a : Nat) (t : State) : State :=
    let st := actState a t
    if 2 ≤ st ∧ st ≤ 5 then startUnload (st == 5) a t else if st = 0 then t else put (Reg.ACT_CTL.UNLOAD a) 1 t
  let u := act 1 (act 0 s)
  let st := osvState u
  if 1 ≤ st ∧ st ≤ 8 then
    (let v := opticalFall false u
     let w := setOsv { v.osv with parking := true, held := none } (put Reg.OSV_CMD.HELD 0 v)
     if get Reg.OCH_STAT.WRITING w = 1 then setOsv { w.osv with waits := true } w else startPark w)
  else u

/-- QUIESCE_ENTRY: a request for QUIESCE, or for STANDBY by way of it (R39): heads unload, the disc parks and the spindle follows the curve (R96),
or stops on the way to STANDBY. Log entry 120 (DEDUCED). -/
def execQuiesceEntry (s : State) : Out :=
  let t := goMode 4 (standDown s)
  occurs (mode s = 3 ∧ s.boot.going.isSome = true)
    (if s.boot.going = some 4 then put Reg.SYS_MODE.BUSY 0 (setBoot { t.boot with going := none } (spnMode (get Reg.SPN_CTL.RUN t) 1 t))
     else spnMode 0 0 t) s

/-- The write of TMP_COUNT and the lifetime seconds to MRAM, in turn (R65, R462). -/
def persistTime (s : State) : State :=
  let t := s.tmp
  setTmp (if t.turn then { t with stored1 := tmpCount s, life1 := lifeSec s, turn := false, storedAny := true }
          else { t with stored0 := tmpCount s, life0 := lifeSec s, turn := true, storedAny := true }) s

/-- A checkpoint of a kind is written whole. Log entries 112 (DEDUCED), 113 (DESIGN CHOICE). -/
def wholeCheckpoint (kind : Nat) (s : State) : State :=
  let t := copyRest 8 (ckptStart kind (nextSlot s) s)
  match t.pmu.ckpt with
  | none => t
  | some c => raisePost 33 0 [c.kind, c.slot] (ckptCommit c t)

/-- Heads parked or at fault, disc parked or at fault: nothing moves on the media. -/
def mediaStill (s : State) : Bool :=
  (List.range 2).all (fun a => actState a s == 0 || actState a s == 8) && (osvState s == 0 || osvState s == 10)

/-- STANDBY_DOMAINS_OFF: the spindle is at rest (R39): the kind 3 checkpoint is written, the clocks are stored a last time (R462), and every domain
but AON goes off. -/
def execStandbyDomainsOff (s : State) : Out :=
  let t := persistTime (wholeCheckpoint 3 s)
  let u := goMode 1 (put Reg.SYS_MODE.BUSY 0 t)
  let v := domainsOff domOrder.reverse (drainRing 65 u)
  occurs (mode s = 4 ∧ s.boot.going = some 1 ∧ spnState s = 0 ∧ mediaStill s = true ∧ s.pmu.ckpt = none ∧ s.pmu.held = none)
    (put Reg.SYS_MODE.CUR 1 (setBoot { v.boot with going := none } v)) s

/-- The wake events and their bits. -/
def wakeBit (w : WakeSrc) : Nat :=
  match w with
  | .gpio n => n % 16
  | .smb => 16
  | .perst => 17

/-- The wake events that SYS_WAKE_CFG enables; a GPIO only while its FUNC is 0, as which 3 counts on GPIO5 to GPIO15 (R497). -/
def wakeEnabled (w : WakeSrc) (s : State) : Bool :=
  match w with
  | .gpio n =>
    let f := get (Reg.SYS_PAD_CFG.FUNC n) s
    decide (n < 16) && bit Reg.SYS_WAKE_CFG.GPIO n s && (f == 0 || (f == 3 && decide (5 ≤ n)))
  | .smb => get Reg.SYS_WAKE_CFG.SMB s == 1
  | .perst => get Reg.SYS_WAKE_CFG.PERST s == 1

/-- WAKE_EVENT: an enabled wake event in STANDBY (R39, R59); after PFAIL_N has asserted there the device stays in STANDBY (R43). Log entry 37 (DEDUCED). -/
def execWakeEvent (src : WakeSrc) (s : State) : Out :=
  let t := setBoot { s.boot with wokeBy := some (2 ^ wakeBit src) } s
  let u := pinReset 6 (match src with | .perst => { t with pins := { t.pins with perstN := true } } | _ => t)
  occurs (mode s = 1 ∧ wakeEnabled src s = true ∧ s.pins.pfailN = true) (putIf (src = .smb) Reg.SMB_STAT.WAKE_RX 1 u) s

/-! ### Loss of power -/

/-- A trial that RESCUE interrupts (R49). -/
def trialCut (s : State) : State :=
  if s.boot.trialRuns then
    (let t := setBoot { s.boot with trialRuns := false } s
     if get Reg.BOOT_SLOT_CTL.TRIES s = 0 then puts [(Reg.BOOT_SLOT_CTL.ARMED, 0), (Reg.BOOT_SLOT_CTL.TRIES, 1)] t else t)
  else s

/-- What a running request, activation or checkpoint trigger loses at the assertion (R42, R63, R450). Log entry 119 (DEDUCED). -/
def abandon (s : State) : State :=
  let t := puts [(Reg.SYS_MODE.BUSY, 0), (Reg.SYS_MODE.ACT, 0), (Reg.SYS_MODE_REQ.PEND, 0), (Reg.SYS_MODE_REQ.GO, 0),
    (Reg.PMU_CKPT_STAT.HELD, 0), (Reg.PMU_CKPT_CTL.REQ, 0)]
    (putIf (s.boot.actPhase = 1 ∨ s.boot.actPhase = 2) Reg.SYS_ACT_STAT.RESULT 0 s)
  { t with boot := { t.boot with going := none, heldReq := none, actPhase := 0, actPort := none, awaitBoot := false, session := none }
           pmu := { t.pmu with held := none } }

/-- RESCUE is entered (R454, R455): requests are abandoned, the spindle's stage is asked to retract, the optical servo goes idle; permits and drives
follow at the output write. -/
def toRescue (variant : Nat) (s : State) : State :=
  let t := goMode 5 (trialCut (abandon s))
  let u := osvPfail (spnPfail t)
  { u with boot := { u.boot with rescue := variant }
           evr := { u.evr with rescueDrained := false } }

/-- PFAIL_ASSERT: PFAIL_N low for 500 ns (R454): RESCUE from BRINGUP, SERVICE and QUIESCE; nothing is saved from STANDBY (R43) and the event ring
alone before the restore (R44). -/
def execPfailAssert (lowNs : Nat) (s : State) : Out :=
  let t := { s with pins := { s.pins with pfailN := false } }
  occurs (500 ≤ lowNs ∧ s.pins.rails = true)
    (if mode s = 1 then put Reg.PMU_RESCUE_STAT.RESULT 2 t
     else if mode s = 2 ∧ get Reg.PMU_CKPT_CTL.RESTORED s = 0 then toRescue 4 t
     else if mode s = 2 ∨ mode s = 3 ∨ mode s = 4 then toRescue 1 t
     else t) s

/-- RESCUE_RETURN: PFAIL_N high for 100 ms after the image is finalized (R39, R458). -/
def execRescueReturn (highMs : Nat) (s : State) : Out :=
  occurs (mode s = 5 ∧ s.boot.rescue = 3 ∧ 100 ≤ highMs)
    (pinReset 5 { s with pins := { s.pins with pfailN := true } }) s

/-! ### Key revocation -/

/-- KEY_REVOKE: a write of BOOT_KEY_REVOKE (R57): ignored without its key; refused with an event for the running image's slot or the last one. -/
def execKeyRevoke (value : Nat) (s : State) : Out :=
  let m := bits value 0 4
  let run := match s.boot.image with | none => false | some i => m.testBit i.keySlot
  let left := (List.range 4).any (fun k => (s.boot.fuses.getD k {}).hash.isSome && !(s.boot.fuses.getD k {}).revoked && !m.testBit k && !s.boot.revoking.testBit k)
  .next
    (if bits value 24 8 ≠ 0xC3 then s
     else if run = true ∨ left = false then post 0x7A1 0 [m] s
     else put Reg.BOOT_KEY_STAT.BUSY 1 (setBoot { s.boot with revoking := s.boot.revoking ||| m } s))

/-- KEY_REVOKE_DONE: the fuses are blown (R57). -/
def execKeyRevokeDone (s : State) : Out :=
  let l := (List.range s.boot.fuses.length).map (fun k =>
    let f := s.boot.fuses.getD k {}
    { f with revoked := f.revoked || s.boot.revoking.testBit k })
  occurs (get Reg.BOOT_KEY_STAT.BUSY s = 1)
    (put Reg.BOOT_KEY_STAT.BUSY 0 (showPins (setBoot { s.boot with fuses := l, revoking := 0 } s))) s

/-! ### Firmware -/

/-- Administration is served on a path (R50, R58): on the sideband alone while no image has verified. -/
def adminServed (path : Port) (s : State) : Bool :=
  if s.boot.recovery then path == .sideband else mode s == 3 || mode s == 4 || (mode s == 2 && s.boot.admin)

/-- The session's bytes after a part of an image has come at an offset: bytes that no part has brought yet are FFH. Log entry 178 (DEDUCED). -/
def downloaded (old : List Nat) (offset : Nat) (data : List Nat) : List Nat :=
  old.take offset ++ List.replicate (offset - old.length) 255 ++ data ++ old.drop (offset + data.length)

/-- FIRMWARE_DOWNLOAD: opens or continues the one session with bytes of an image, or is refused (R353). Log entry 178 (DEDUCED). -/
def execFirmwareDownload (path : Port) (offset : Nat) (data : List Nat) (s : State) : Out :=
  let free := match s.boot.session with | none => true | some p => p.1 == path
  let old := match s.boot.session with | none => [] | some p => p.2
  occurs (adminServed path s = true)
    (if free then send (adminMsg path .success) (setBoot { s.boot with session := some (path, downloaded old offset data) } s)
     else send (adminMsg path .sequenceError) s) s

/-- The slot that is not running; while none runs, the one that is not preferred. Log entry 175 (DESIGN CHOICE). -/
def otherSlot (s : State) : Nat :=
  if s.boot.image.isSome then 1 - get Reg.BOOT_STAT.SLOT s else 1 - get Reg.BOOT_SLOT_CTL.PREF s

/-- DOWNLOAD_SESSION_TIMEOUT: 60 s without a download command (R353). -/
def execDownloadSessionTimeout (idleMs : Nat) (s : State) : Out :=
  occurs (60000 ≤ idleMs) (setBoot { s.boot with session := none } s) s

/-- The staged slot verifies (R61). -/
def stagedOk (s : State) : Bool :=
  match s.boot.staged with
  | none => false
  | some k => (slotImage k s).isSome

/-- FIRMWARE_ACTIVATE: fetching stops, or the activation is refused (R61, R62); the recovery of R50 does not serve it. Log entry 118 (DEDUCED). -/
def execFirmwareActivate (path : Port) (s : State) : Out :=
  occurs (adminServed path s = true ∧ s.boot.recovery = false)
    (if get Reg.SYS_MODE.ACT s = 1 then send (adminMsg path .busy) s
     else if mode s ≠ 3 ∨ get Reg.SYS_MODE.BUSY s = 1 then send (adminMsg path .busy) (put Reg.SYS_ACT_STAT.RESULT 5 s)
     else if !stagedOk s then send (adminMsg path .invalidField) (put Reg.SYS_ACT_STAT.RESULT 4 s)
     else puts [(Reg.SYS_MODE.ACT, 1), (Reg.SYS_ACT_STAT.RESULT, 1)] (setBoot { s.boot with actPhase := 1, actPort := some path } s)) s

/-- The drain limit (R61). -/
def drainMs (s : State) : Nat := if get Reg.SYS_ACT_CFG.DRAIN_MS s = 0 then 2000 else get Reg.SYS_ACT_CFG.DRAIN_MS s

/-- ACTIVATION_DRAIN_END: the last fetched command has completed (R62): heads unload and the disc parks. -/
def execActivationDrainEnd (elapsed : Nat) (s : State) : Out :=
  let t := standDown (put Reg.SYS_ACT_STAT.DRAIN (min elapsed 65535) s)
  occurs (s.boot.actPhase = 1 ∧ s.cmd.ctxs = [] ∧ elapsed ≤ drainMs s) (setBoot { t.boot with actPhase := 2 } t) s

/-- ACTIVATION_DRAIN_TIMEOUT: fetched commands have not drained (R61): refused, and fetching resumes. -/
def execActivationDrainTimeout (elapsed : Nat) (s : State) : Out :=
  let t := puts [(Reg.SYS_MODE.ACT, 0), (Reg.SYS_ACT_STAT.RESULT, 3)] s
  let u := match s.boot.actPort with | none => t | some p => send (adminMsg p .busy) t
  occurs (s.boot.actPhase = 1 ∧ s.cmd.ctxs ≠ [] ∧ drainMs s < elapsed) (resumeFetch (setBoot { u.boot with actPhase := 0, actPort := none } u)) s

/-- The blocks in the scope of an activation reset (R59). -/
def activationBlocks : List Nat := [3, 5, 6, 7, 9, 11, 15, 22, 26]

/-- The spindle as the stop of the engines leaves it: the stage no longer drives it, so that the start of the next BRINGUP measures and catches a rotor that still turns
(R60, R101, R102). Log entry 239 (DEDUCED). -/
def spindleFreed (s : State) : State :=
  puts [(Reg.SPN_STAT.STATE, 0), (Reg.SPN_STAT.LOCK, 0), (Reg.SPN_STAT.RESTART_PEND, 0)] { s with spn := {} }

/-- The activation reset (R59, R62): its blocks return to reset, DRAM is kept in self-refresh, the lock of SYS_PATH_CFG clears
and its fields take their defaults until the new image is loaded (R6, R24), a held mode request waits on (R45), and the boot ROM is to run. Log entries 116 (DESIGN CHOICE), 159 (DEDUCED), 239 (DEDUCED). -/
def activationReset (s : State) : State :=
  let t := spindleFreed <| zmgIdle ([3, 4, 5, 6, 7, 8, 9, 17, 21, 22].foldl (fun t d => hiddenOff d t) s)
  let u := { t with
    regs := t.regs.filter (fun p => !activationBlocks.contains (regBlock (p.1 / 32)) || keyIn Reg.keptMram p.1 || keyIn Reg.keptAon p.1)
    boot := { bootAfter 7 t.boot with actPhase := 3, actPort := t.boot.actPort, heldReq := t.boot.heldReq }
    evr := { t.evr with
               used := []
               rates := (List.range 16).map (fun k => (k, classBurst k t, get (Reg.EVR_RATE_CFG.RATE k) t, 0)) }
    seals := { t.seals with stopped := false } }
  let v := puts [(Reg.SYS_MODE.CUR, 2), (Reg.SYS_MODE.PREV, 0), (Reg.SYS_MODE.STAGE, 0), (Reg.PMU_CKPT_CTL.RESTORED, 0),
    (Reg.DRC_STAT.SELF_REF, 1), (Reg.DRC_STAT.TRAINED, 0), (Reg.SYS_RESET_CAUSE.ACTIVATE, 1), (Reg.SYS_PATH_CFG.LOCK, 0),
    (Reg.SYS_PATH_CFG.BAR2_EN, 1), (Reg.SYS_PATH_CFG.FAB_EN, 1), (Reg.SYS_PATH_CFG.JTAG_EN, 1)] u
  post 0x020 0 [mode s, 2] (stampsAnew (setBoot { v.boot with awaitBoot := true } v))

/-- ACTIVATION_RESET: with heads and disc parked the kind 4 checkpoint is written, the boot record names the new slot as a trial, and the activation
reset runs (R62). -/
def execActivationReset (s : State) : Out :=
  let k := s.boot.staged.getD 0
  let t := putRec ⟨k, 1, 0, 0⟩ (wholeCheckpoint 4 s)
  occurs (s.boot.actPhase = 2 ∧ mediaStill s = true ∧ s.pmu.ckpt = none ∧ s.pmu.held = none) (activationReset t) s

end Sys2Proof.Machine
end

