-- ==== Sys2Proof/Machine/Commands.lean ====
section
/-! DEFINITION. 14_command_store.md: arrival and ordering (R356 to R363), the write cache (R364 to R367), lost writes (R368 to R373), aborts and
port resets (R374 to R377), self-tests (R378, R379). -/

namespace Sys2Proof.Machine

/-! ### Ordering -/

/-- Two commands conflict (R361). -/
def conflicts (c d : Ctx) (s : State) : Bool :=
  c.cmd.ns == d.cmd.ns && (changes c.cmd.op || changes d.cmd.op)
  && overlap (rangeOf c s).1 (rangeOf c s).2 (rangeOf d s).1 (rangeOf d s).2

/-- The data of an earlier write for the blocks that a command shares with it has been accepted (R363); where an append writes is not known before its zone's pointer
is taken. Log entry 271 (DEDUCED). -/
def overlapTaken (c d : Ctx) (s : State) : Bool :=
  let r := rangeOf c s
  let w := if isAppend d.cmd.op && !d.checked then rangeOf d s else (d.lba, writeLen d.cmd.op)
  let lo := max r.1 w.1
  let b := blocksOf d.cmd.ns lo (min (r.1 + r.2) (w.1 + w.2) - lo) s
  d.accepted || (d.started && !(isAppend d.cmd.op && !d.checked) && b.all (fun k => d.got.contains k))

/-- A command must wait for an earlier-stamped one that conflicts with it: for a write until its data for what they share is accepted (R361, R363). Log entry 271 (DEDUCED). -/
def waitsOn (c d : Ctx) (s : State) : Bool :=
  decide (d.stamp < c.stamp) && conflicts c d s && !(isWrite d.cmd.op && overlapTaken c d s)

/-- Two commands of one I_T nexus (R362). -/
def sameNexus (c d : Ctx) : Bool := isSas c.cmd.port && c.cmd.port == d.cmd.port && c.cmd.nexus == d.cmd.nexus

/-- A command must wait for an earlier-stamped one of its nexus because one of the two is ORDERED (R362). -/
def waitsOrdered (c d : Ctx) : Bool := decide (d.stamp < c.stamp) && sameNexus c d && (c.cmd.ordered || d.cmd.ordered)

def isWce (op : HostOp) : Bool :=
  match op with
  | .setWce _ => true
  | _ => false

/-- Cache-enable commands act in stamp order, so that each acts on the writes stamped after it (R365). -/
def waitsWce (c d : Ctx) : Bool := decide (d.stamp < c.stamp) && isWce c.cmd.op && isWce d.cmd.op

/-- The ordering conditions of a context are met (R357). -/
def mayStart (c : Ctx) (s : State) : Bool :=
  !c.started && s.cmd.ctxs.all (fun d => !(waitsOn c d s || waitsOrdered c d || waitsWce c d))

/-- A context comes before another (R357, R362): in stamp order, HEAD OF QUEUE before the others. Log entry 272 (DEDUCED). -/
def before (d c : Ctx) : Bool :=
  if c.cmd.head != d.cmd.head then d.cmd.head else decide (d.stamp < c.stamp)

/-- It is the first of those in that order (R357). Log entry 272 (DEDUCED). -/
def inTurn (c : Ctx) (s : State) : Bool := s.cmd.ctxs.all (fun d => !(before d c && mayStart d s))

/-! ### Refusals -/

/-- BRINGUP serves media reads and zone reports (R51, R58); not while MEDIA_FAULT holds it (R41). -/
def bringupReads (s : State) : Bool := s.boot.mediaReads && get Reg.SYS_MODE.MEDIA_FAULT s == 0

/-- A media command's readiness (R58, R100). -/
def notReady (op : HostOp) (s : State) : Option Status :=
  if mode s = 2 then
    match op with
    | .read _ _ => if bringupReads s then none else some .becomingReady
    | .zoneReport => if bringupReads s then none else some .becomingReady
    | .selfTest _ => some .becomingReady
    | .flush _ => none
    | o => if isMedia o then some .becomingReady else none
  else if mode s = 3 ∧ get Reg.SPN_STAT.NOT_READY s = 1 ∧ isMedia op then
    some (if spnState s = 13 then .spindleFault else .becomingReady)
  else none

/-- The range of a command lies outside its namespace. -/
def outOfRange (c : Ctx) (s : State) : Bool :=
  match c.cmd.op with
  | .format => false
  | .sanitize => false
  | _ => decide (nsLbas c.cmd.ns s < (rangeOf c s).1 + (rangeOf c s).2)

/-- The command names a namespace. -/
def needsNs (op : HostOp) : Bool :=
  match op with
  | .flush b => !b
  | .zoneReport => true
  | o => isMedia o

/-- A field that the device does not accept: NACA (R362), a transfer above MDTS (R342). -/
def badField (c : Ctx) (s : State) : Bool :=
  c.cmd.naca ||
  (match c.cmd.op with
   | .read _ n => c.cmd.port == .pcie && decide (2097152 < n * (4096 / lbasPerBlock c.cmd.ns s))
   | .write _ n _ => c.cmd.port == .pcie && decide (2097152 < n * (4096 / lbasPerBlock c.cmd.ns s))
   | _ => false)

/-- A format or sanitize of a namespace with a sealed, unexpired zone (R327). -/
def wipes (op : HostOp) : Bool :=
  match op with
  | .format => true
  | .sanitize => true
  | _ => false

/-- A conventional or drive-managed namespace that is read-only refuses changes (R234). -/
def isProtected (c : Ctx) (s : State) : Bool :=
  changes c.cmd.op && get (Reg.ZMG_NS_CFG.RO c.cmd.ns) s == 1 && (nsType c.cmd.ns s == 1 || nsType c.cmd.ns s == 3)

/-- A namespace that SAS and SATA show as non-zoned does not know a zone report (R349). Log entry 268 (PRESUMED). -/
def noZones (c : Ctx) (s : State) : Bool :=
  c.cmd.op == .zoneReport && (isSas c.cmd.port || c.cmd.port == .sata) && (nsType c.cmd.ns s == 1 || nsType c.cmd.ns s == 3)

/-- What refuses a command as it starts. Which status is returned where several apply is not stated. Log entry 121 (DEDUCED). -/
def refusals (c : Ctx) (s : State) : List Status :=
  if needsNs c.cmd.op ∧ !c.attached then [.invalidNs]
  else (if badField c s then [.invalidField] else [])
    ++ (if noZones c s then [.invalidOpcode] else [])
    ++ (if needsNs c.cmd.op ∧ outOfRange c s then [.lbaRange] else [])
    ++ (match notReady c.cmd.op s with | some x => [x] | none => [])
    ++ (if isProtected c s then [.writeProtected] else [])
    ++ (if wipes c.cmd.op ∧ nsHeld c.cmd.ns s then [.retention] else [])

/-- One of several statuses. Log entry 14 (DESIGN CHOICE). -/
def pickStatus (l : List Status) (s : State) : Status := l.getD (pickOpen (List.range l.length) s) .success

/-- A meaning of a started media command: while the media are not ready it completes with that status (R58, R100). Log entry 121 (DEDUCED). -/
def onReady (c : Ctx) (f : State) (s : State) : State :=
  match notReady c.cmd.op s with
  | some x => finish c x (rangeOf c s).1 s
  | none => f

/-! ### Arrival -/

/-- COMMAND_STAMP: a command arrives on any source (R360). Log entry 273 (DEDUCED). -/
def execCommandStamp (cmd : HostCmd) (s : State) : Out := .next (arriveCmd cmd s)

/-- Submission entries are fetched one after another while contexts are left (R358): the rest stays in host memory. -/
def fetch : List HostCmd → State → State
  | [], s => s
  | c :: t, s => if hasRoom (ctxClass c) s then fetch t (arriveCmd c s) else poolFull c s

/-- NVME_FETCH: up to 8 entries of one queue (R359), while fetching runs (R377). Log entry 273 (DEDUCED). -/
def execNvmeFetch (queue : Nat) (cmds : List HostCmd) (s : State) : Out :=
  occurs (queue ≤ 1023 ∧ cmds.length ≤ 8 ∧ cmds.all (fun c => c.port == .pcie && c.nexus == queue) = true ∧ storeRuns s = true
      ∧ get Reg.SYS_MODE.ACT s = 0)
    (fetch cmds s) s

/-- A format or sanitize: the namespace's zones are fresh ones at the places they have (R204). Log entry 125 (DEDUCED). -/
def formatNs (n : Nat) (s : State) : State :=
  freshZones n (nsType n s) (fun i => (zoneOf (get (Reg.ZMG_NS_ZONES.FIRST n) s + i) s).phys) (dropNs n s)

/-- What Identify reports (R342, R348, R365): a namespace that is not attached to the port has no blocks. -/
def identityOf (c : Ctx) (s : State) : Identity :=
  { lbas := if c.attached then nsLbas c.cmd.ns s else 0, perBlock := lbasPerBlock c.cmd.ns s,
    zoned := nsType c.cmd.ns s == 2 || nsType c.cmd.ns s == 4, cache := wce c.cmd.ns s, volatile := true,
    mdts := 2097152, zasl := 1048576, queues := 1024, mqes := 65535 }

/-- The zones of a namespace as a report shows them (R205, R349). -/
def zonesOf (n : Nat) (s : State) : List ZoneInfo :=
  (List.range (get (Reg.ZMG_NS_COUNT.COUNT n) s)).map (fun i =>
    let d := zoneOf (get (Reg.ZMG_NS_ZONES.FIRST n) s + i) s
    { type := if nsType n s = 2 ∨ nsType n s = 4 then 2 else 1, state := d.state, first := i * zoneLbas n s,
      pointer := i * zoneLbas n s + d.host * lbasPerBlock n s })

/-- What a command that starts does at once: those without a row of their own complete; what a deallocation makes its LBAs read is not stated, and it
changes nothing. Log entry 125 (DEDUCED). -/
def startEffect (c : Ctx) (s : State) : State :=
  match c.cmd.op with
  | .identify => finish c .success 0 (send (.identity c.cmd.port c.cmd.nexus c.cmd.tag (identityOf c s)) s)
  | .getLog => finish c .success 0 s
  | .admin => finish c .success 0 s
  | .zoneReport => finish c .success 0 (send (.zones c.cmd.port c.cmd.nexus c.cmd.tag (zonesOf c.cmd.ns s)) s)
  | .deallocate a _ => finish c .success a s
  | .format => finish c .success 0 (formatNs c.cmd.ns s)
  | .sanitize => finish c .success 0 (formatNs c.cmd.ns s)
  | _ => s

/-- A context takes an execution slot. -/
def startCtx (c : Ctx) (s : State) : State :=
  let d := { c with started := true, lba := (match c.cmd.op with | .write a _ _ => a | _ => 0) }
  let t := countCtxs (setCtx d s)
  match refusals d s with
  | [] => startEffect d t
  | l => finish d (pickStatus l t) (rangeOf d t).1 (if l.length ≤ 1 then t else freed t)

/-- EXECUTION_START: a context whose ordering conditions are met takes one of 4,096 slots, in stamp order (R357). Log entry 124 (DEDUCED). -/
def execExecutionStart (stamp : Nat) (s : State) : Out :=
  match ctxOf stamp s with
  | none => .next s
  | some c => occurs (mayStart c s = true ∧ inTurn c s = true ∧ get Reg.CMD_EXEC_STAT.EXEC s < 4096) (startCtx c s) s

/-! ### The write cache -/

/-- The first LBA and the count of a write (R208). -/
def writeSpan (c : Ctx) : Nat × Nat := (c.lba, writeLen c.cmd.op)

/-- The part of a block that a range covers: its first LBA and the LBA past its last. -/
def blockPart (ns blk lba n : Nat) (s : State) : Nat × Nat :=
  let k := lbasPerBlock ns s
  (max (blk * k) lba, min (blk * k + k) (lba + n))

/-- The sub-sectors of a block in a part of it: all of a 4,096-byte block. -/
def subMask (ns blk lo hi : Nat) (s : State) : Nat :=
  let k := lbasPerBlock ns s
  if k = 1 then 255 else (List.range 8).foldl (fun m i => withBit m i (decide (lo ≤ blk * k + i) && decide (blk * k + i < hi))) 0

/-- The cache takes another block (R364): SIZE counts 64 MiB, 64 of them at most; with SIZE 0 there is no cache to be full. Log entry 126 (DEDUCED). -/
def cacheRoom (ns blk : Nat) (s : State) : Bool :=
  let z := get Reg.CMD_WC_CFG.SIZE s
  z == 0 || (lineOf ns blk s).isSome || decide (s.cmd.lines.length < min z 64 * 16384)

/-- A line of the cache after a write over some of its sub-sectors (R224). -/
def mergeLine (ns blk mask data stamp : Nat) (s : State) : CacheLine :=
  match lineOf ns blk s with
  | none => { ns := ns, blk := blk, mask := mask, data := mergeSubs mask data 0, stamps := [stamp + 1] }
  | some l => { l with mask := l.mask ||| mask, data := mergeSubs mask data l.data, stamps := l.stamps ++ [stamp + 1] }

def putLineOf (l : CacheLine) (s : State) : State :=
  let t := dropLine l.ns l.blk s
  countDirty (setCmd { t.cmd with lines := t.cmd.lines ++ [l] } t)

/-- The extent of a block holds no dirty data (R449). -/
def cleanExtent (ns blk : Nat) (s : State) : Bool := !s.cmd.lines.any (fun l => l.ns == ns && l.blk / 16 == blk / 16)

/-- The leaf of a block of a sealed namespace as it passes (R317). -/
def takeLeaf (ns blk data : Nat) (s : State) : State :=
  let z := zoneOfBlock ns blk s
  match AMap.lookup z s.seals.ctxs with
  | none => s
  | some c =>
    if nsType ns s = 4 then
      let h := leafHash ns (blk * lbasPerBlock ns s) data
      showLeaf c blk h (setCtxOf z { c with leaves := AMap.insert (blk % 65536) h c.leaves } s)
    else s

/-- The host write pointer advances over a block (R207); at the zone end the zone is Full. The zone is the last one written. -/
def advanceHost (ns blk : Nat) (s : State) : State :=
  let z := zoneOfBlock ns blk s
  let d := zoneOf z s
  let h := max d.host (blk % 65536 + 1)
  if nsType ns s = 2 ∨ nsType ns s = 4 then
    (let t := setZone z { d with host := h, state := if h = 65536 then 14 else d.state } s
     noteEligible z { t with zmg := { t.zmg with order := t.zmg.order.filter (· != z) ++ [z],
                                                 fullAt := if h = 65536 then AMap.insert z 65536 t.zmg.fullAt else t.zmg.fullAt } })
  else s

/-- The context after one of its blocks is accepted. Log entry 55 (DEDUCED). -/
def gotBlock (c : Ctx) (blk : Nat) (s : State) : Ctx :=
  let g := c.got ++ [blk]
  { c with got := g, accepted := (blocksOf c.cmd.ns (writeSpan c).1 (writeSpan c).2 s).all (fun b => g.contains b) }

/-- A block of a write is accepted into the cache (R364): extent log, leaf, line, host write pointer; its LBAs leave both lists (R229, R371). Log entry 55 (DEDUCED). -/
def acceptBlock (c : Ctx) (blk data : Nat) (s : State) : State :=
  let ns := c.cmd.ns
  let p := blockPart ns blk (writeSpan c).1 (writeSpan c).2 s
  let l := mergeLine ns blk (subMask ns blk p.1 p.2 s) data c.stamp s
  let t := if cleanExtent ns blk s then xlogAppend ns (blk / 16) s else s
  let u := putLineOf l (takeLeaf ns blk data t)
  let v := advanceHost ns blk (clearLost ns p.1 (p.2 - p.1) (clearPend ns p.1 (p.2 - p.1) u))
  put Reg.CMD_WC_STAT.WAIT 0 (setCtx (gotBlock c blk s) v)

/-- A block is more than 63 blocks ahead of the first group that its zone's context has not folded (R318). -/
def leafAhead (ns blk : Nat) (s : State) : Bool :=
  match AMap.lookup (zoneOfBlock ns blk s) s.seals.ctxs with
  | some c => nsType ns s == 4 && decide (16 * c.groups.length + 63 < blk % 65536)
  | none => false

/-- The zone of a block is being rebuilt by SEAL or its pointer is being recovered, the block is too far ahead of the fold, or hashing does not run: its writes wait
in staging (R215, R317 to R319). Log entry 266 (DEDUCED). -/
def zoneHeld (ns blk : Nat) (s : State) : Bool :=
  let z := zoneOfBlock ns blk s
  (AMap.getD s.seals.ctxs z {}).damaged || (isShingled (zoneOf z s) && (zoneOf z s).recov) || leafAhead ns blk s
  || (nsType ns s == 4 && get Reg.SEAL_CTL.EN s == 0)

/-- The write may pass its data: its pointer check is done where there is one (R208). -/
def mayAccept (c : Ctx) (blk : Nat) (s : State) : Bool :=
  isWrite c.cmd.op && (c.checked || nsType c.cmd.ns s == 1 || nsType c.cmd.ns s == 3) && !c.got.contains blk
  && (blocksOf c.cmd.ns (writeSpan c).1 (writeSpan c).2 s).contains blk && !zoneHeld c.cmd.ns blk s

/-- The data of a block in its port's staging: what a peer's frames have brought (R434), and what the port gives otherwise. -/
def stagedData (c : Ctx) (blk data : Nat) (s : State) : Option Nat :=
  if c.cmd.port = .fabric then
    match workOf c.stamp s with
    | none => none
    | some w =>
      let i := blk - (writeSpan c).1 / lbasPerBlock c.cmd.ns s
      if 4096 * (i + 1) ≤ w.come then some (bits w.data (32768 * i) 32768) else none
  else some data

/-- WRITE_ACCEPT: a block of a write's data (4,096 bytes, of which the write's own count) comes from its port (R364): accepted, or waiting with WAIT set
while the cache is full; a failed protection guard ends the command (R381). Log entry 55 (DEDUCED). -/
def execWriteAccept (stamp blk data : Nat) (guardOk : Bool) (s : State) : Out :=
  onCtx stamp (fun c =>
    match stagedData c blk data s with
    | none => s
    | some v =>
      if mayAccept c blk s then
        onReady c (if !guardOk then finish c .guardCheck (writeSpan c).1 s
          else if cacheRoom c.cmd.ns blk s then acceptBlock c blk v s
          else put Reg.CMD_WC_STAT.WAIT 1 s) s
      else s) s

/-- The first LBA of a range that is on the lost-write list. -/
def firstLost (ns lba n : Nat) (s : State) : Option Nat :=
  (s.cmd.lost.filter (fun e => e.ns == ns && overlap lba n e.lba e.n)).foldl
    (fun b e => match b with | none => some (max e.lba lba) | some x => some (min x (max e.lba lba))) none

/-- Every block that a write has written is on media (R366): its lines have left the cache. -/
def onMediaAll (c : Ctx) (s : State) : Bool :=
  !s.cmd.lines.any (fun l => l.ns == c.cmd.ns && l.stamps.contains (c.stamp + 1))

/-- WRITE_COMPLETE: on acceptance, or once its blocks are on media under FUA or with the cache disabled (R366); a write whose own data is lost
meanwhile fails (R370). Log entry 126 (DEDUCED). -/
def execWriteComplete (stamp : Nat) (s : State) : Out :=
  onCtx stamp (fun c =>
    let r := writeSpan c
    if !isWrite c.cmd.op ∨ !c.accepted then s
    else if c.cached then finish c .success r.1 s
    else match firstLost c.cmd.ns r.1 r.2 s with
      | some a => finish c .writeFault a s
      | none => onReady c (if onMediaAll c s then finish c .success r.1 s else s) s) s

/-! ### Reads -/

/-- Sub-sectors of a block that a read needs and the cache does not hold. -/
def needsMedia (ns blk lba n : Nat) (s : State) : Bool :=
  let p := blockPart ns blk lba n s
  let m := subMask ns blk p.1 p.2 s
  match lineOf ns blk s with
  | none => true
  | some l => (List.range 8).any (fun i => m.testBit i && !l.mask.testBit i)

/-- A block lies above what has been written of a shingled zone of a zoned or sealed namespace (R210, R213). -/
def aboveMedia (ns blk : Nat) (s : State) : Bool :=
  let d := zoneOf (zoneOfBlock ns blk s) s
  (nsType ns s == 2 || nsType ns s == 4) && decide (d.media ≤ blk % 65536)

/-- What a block reads under its cached sub-sectors: a Full zone's unwritten blocks read zeroes (R210); what another unwritten block reads is not
stated (R213 rules out old data). -/
def beneath (ns blk : Nat) (media : Option Nat) (s : State) : Option Nat × State :=
  if aboveMedia ns blk s then
    (if (zoneOf (zoneOfBlock ns blk s) s).state = 14 then (some 0, s) else (some (freeVal 32768 s), freed s))
  else (media, s)

/-- The blocks of a read, each 4,096 bytes as a number, or none where a needed one was not read. Log entry 54 (DEDUCED). -/
def readBlocks (ns lba n : Nat) : List Nat → List (Option Nat) → State → Option (List Nat) × State
  | [], _, s => (some [], s)
  | b :: t, m, s =>
    let (x, u) : Option Nat × State := if needsMedia ns b lba n s then beneath ns b (m.headD none) s else (some 0, s)
    let y := x.map (fun v => match lineOf ns b s with | none => v | some l => mergeSubs l.mask l.data v)
    let (r, w) := readBlocks ns lba n t m.tail u
    (match y, r with | some v, some l => some (v :: l) | _, _ => none, w)

/-- The bytes of the LBAs asked for. -/
def readBytes (ns lba n : Nat) (l : List Nat) (s : State) : Nat :=
  let k := lbasPerBlock ns s
  bits (ofWords l) (lba % k * (32768 / k)) (n * (32768 / k))
where
  ofWords : List Nat → Nat
    | [] => 0
    | v :: t => v % 2 ^ 32768 + 2 ^ 32768 * ofWords t

/-- The media can be read (R58). Log entry 54 (DEDUCED). -/
def mediaRead (s : State) : Bool := mode s == 3 || (mode s == 2 && s.boot.mediaReads)

/-- A read waits for write-pointer recovery (R216) or deep recovery (R228). -/
def readHeld (c : Ctx) (s : State) : Bool :=
  waitsRecovery c s || (blocksOf c.cmd.ns (rangeOf c s).1 (rangeOf c s).2 s).any (fun b =>
    isShingled (zoneOf (zoneOfBlock c.cmd.ns b s) s) && (zoneOf (zoneOfBlock c.cmd.ns b s) s).recov)

/-- A read touches a zone that is Offline (R229). -/
def readOffline (c : Ctx) (s : State) : Bool :=
  (blocksOf c.cmd.ns (rangeOf c s).1 (rangeOf c s).2 s).any (fun b => (zoneOf (zoneOfBlock c.cmd.ns b s) s).state == 15)

/-- A read with its data, where all of it is at hand. -/
def serveRead (c : Ctx) (lba n : Nat) (media : List (Option Nat)) (s : State) : State :=
  let b := blocksOf c.cmd.ns lba n s
  let (r, t) := readBlocks c.cmd.ns lba n b media s
  let far := b.any (fun k => needsMedia c.cmd.ns k lba n s && !aboveMedia c.cmd.ns k s)
  match r with
  | none => s
  | some l =>
    if far ∧ !mediaRead s then s
    else if c.cmd.port = .fabric then
      dropCtx c.stamp (answerData c.stamp (bytesOf (n * (4096 / lbasPerBlock c.cmd.ns s)) (readBytes c.cmd.ns lba n l s)) t)
    else finish c .success lba (send (.readData c.cmd.port c.cmd.nexus c.cmd.tag lba (readBytes c.cmd.ns lba n l s)) t)

/-- HOST_READ: a started read is served from dirty cache blocks and from the media (R223, R363); `media` gives what the media reads of its blocks. A
listed LBA fails it (R229, R371), with a ladder pass first under REREAD. -/
def execHostRead (stamp : Nat) (media : List (Option Nat)) (guardOk : Bool) (s : State) : Out :=
  onCtx stamp (fun c =>
    match c.cmd.op with
    | .read lba n =>
      onReady c
        (match firstLost c.cmd.ns lba n s with
         | some a => finish c .unrecoveredRead a s
         | none =>
           if touchesPend c.cmd.ns lba n s ∧ (get Reg.ZMG_RECOV_CFG.REREAD s = 0 ∨ media.any (·.isNone) = true) then finish c .unrecoveredRead lba s
           else if readOffline c s then finish c .zoneOffline lba s
           else if readHeld c s then s
           else if !guardOk then finish c .guardCheck lba s
           else serveRead c lba n media s) s
    | _ => s) s

/-! ### Flush and cache enable -/

/-- The namespaces that a flush names (R367). -/
def flushSet (c : Ctx) (s : State) : List Nat :=
  match c.cmd.op with
  | .flush true => (List.range 64).filter (fun n => isAttached c.cmd.port n s)
  | _ => [c.cmd.ns]

/-- Every write to a namespace stamped before the flush is on media (R367). -/
def flushed (c : Ctx) (n : Nat) (s : State) : Bool :=
  !s.cmd.lines.any (fun l => l.ns == n && l.stamps.any (fun x => decide (x ≤ c.stamp)))
  && !s.cmd.ctxs.any (fun d => decide (d.stamp < c.stamp) && isWrite d.cmd.op && d.cmd.ns == n && !d.accepted)

/-- The oldest entry not reported of some namespaces is reported (R370). -/
def reportLost (e : Lost) (s : State) : State :=
  setLost (s.cmd.lost.map (fun x => if x = e then { x with reported := true } else x)) s

/-- FLUSH: completes when earlier writes are on media, with the write-fault status where an entry is not reported (R367, R370). -/
def execFlush (stamp : Nat) (s : State) : Out :=
  onCtx stamp (fun c =>
    match c.cmd.op with
    | .flush _ =>
      onReady c
        (if (flushSet c s).all (fun n => flushed c n s) then
          match s.cmd.lost.find? (fun e => (flushSet c s).contains e.ns && !e.reported) with
          | some e => finish c .writeFault e.lba (reportLost e s)
          | none => finish c .success 0 s
         else s) s
    | _ => s) s

/-- The namespaces that a cache-enable command acts on (R365). -/
def wceSet (c : Ctx) (s : State) : List Nat :=
  if c.cmd.port = .pcie ∨ c.cmd.port = .sideband then (List.range 64).filter (fun n => isAttached .pcie n s)
  else if isAttached c.cmd.port c.cmd.ns s then [c.cmd.ns] else []

def putWce (on : Bool) (s : State) (n : Nat) : State :=
  if n < 32 then putBit Reg.CMD_WCE_LO.EN n on s else putBit Reg.CMD_WCE_HI.EN (n - 32) on s

/-- Writes stamped after the command take the new setting (R365). -/
def recache (c : Ctx) (l : List Nat) (s : State) : State :=
  setCmd { s.cmd with ctxs := s.cmd.ctxs.map (fun d =>
    if c.stamp < d.stamp ∧ l.contains d.cmd.ns then { d with cached := onAccept d.cmd s } else d) } s

/-- WRITE_CACHE_ENABLE_CHANGE: a host's cache-enable command (R365). -/
def execWriteCacheEnableChange (stamp : Nat) (s : State) : Out :=
  onCtx stamp (fun c =>
    match c.cmd.op with
    | .setWce on => finish c .success 0 (recache c (wceSet c s) ((wceSet c s).foldl (putWce on) s))
    | _ => s) s

/-! ### Losses -/

/-- LOST_WRITE_ENTRY: a cached block whose data can no longer reach the media enters the list with its cause, 1 memory, 2 power or 3 media (R368). -/
def execLostWriteEntry (ns blk cause : Nat) (s : State) : Out :=
  occurs (1 ≤ cause ∧ cause ≤ 3 ∧ (lineOf ns blk s).isSome = true) (loseBlock ns blk cause s) s

/-- CONTEXT_LOST: an uncorrectable error destroys a context (R373). -/
def execContextLost (stamp : Nat) (targetOk : Bool) (s : State) : Out := .next (loseContext stamp targetOk s)

/-! ### Aborts -/

/-- A command is aborted before its commit point (R374): with a completion of its own where its personality has one. -/
def abortCtx (own : Bool) (d : Ctx) (s : State) : State :=
  bump Reg.CMD_ABORT_CNT.ABORTED (if own then finish d .aborted (rangeOf d s).1 s else dropCtx d.stamp s)

/-- NVME_ABORT: an Abort command (R375): the command it names is in the store, before its commit point, or the answer is "not aborted". -/
def execNvmeAbort (stamp : Nat) (s : State) : Out :=
  onCtx stamp (fun c =>
    match c.cmd.op with
    | .abort q t =>
      match s.cmd.ctxs.find? (fun d => d.cmd.port == .pcie && d.cmd.nexus == q && d.cmd.tag == t && d.stamp != stamp) with
      | some d => finish c .success 0 (abortCtx true d s)
      | none => finish c .notAborted 0 (bump Reg.CMD_ABORT_CNT.NOT_ABORTED s)
    | _ => s) s

/-- The commands that a task management function acts on: 0 ABORT TASK, 1 ABORT TASK SET, 2 CLEAR TASK SET, 3 LOGICAL UNIT RESET (R375). Log entry 128 (PRESUMED). -/
def tmfHits (p : Port) (nexus fn ns target : Nat) (d : Ctx) : Bool :=
  isSas d.cmd.port && d.cmd.ns == ns &&
  (if fn ≤ 1 then d.cmd.port == p && d.cmd.nexus == nexus && (fn == 1 || d.cmd.tag == target) else true)

/-- SAS_TASK_MANAGEMENT: aborted commands end without a response, and FUNCTION COMPLETE answers (R375). -/
def execSasTaskManagement (port nexus tag fn ns target : Nat) (s : State) : Out :=
  let p : Port := if port = 0 then .sas0 else .sas1
  let l := s.cmd.ctxs.filter (tmfHits p nexus fn ns target)
  let t := l.foldl (fun u d => abortCtx false d u) s
  unit port 2 (unit fn 4 (occurs (s.host.nexus.contains (port, nexus) = true)
    (send (statusMsg p nexus tag .functionComplete 0) (if fn = 0 ∧ l = [] then bump Reg.CMD_ABORT_CNT.NOT_ABORTED t else t)) s))

/-- NCQ_FAILURE_ABORT: an NCQ command has failed: every other outstanding NCQ tag is aborted (R375). -/
def execNcqFailureAbort (s : State) : Out :=
  let t := (s.cmd.ctxs.filter (·.cmd.ncq)).foldl (fun u d => abortCtx true d u) s
  occurs (s.cmd.ncqFailed = true) (setCmd { t.cmd with ncqFailed := false } t) s

/-! ### Self-tests -/

/-- The register's code of a port, and the port. -/
def portCode (p : Port) : Nat :=
  match p with
  | .pcie => 0
  | .sas0 => 1
  | .sas1 => 2
  | .sata => 3
  | _ => 4

/-- A self-test ends: its result is logged, and line 2 is raised (R379). -/
def testEnds (result : Nat) (s : State) : State :=
  raisePost 610 0 [get Reg.CMD_ST_STAT.KIND s, result] (put Reg.CMD_ST_STAT.STATE 0
    (setCmd { s.cmd with testBy := none, testLog := s.cmd.testLog ++ [(get Reg.CMD_ST_STAT.KIND s, result)] } s))

/-- SELF_TEST_START: one runs at a time (R378). -/
def execSelfTestStart (stamp : Nat) (s : State) : Out :=
  onCtx stamp (fun c =>
    match c.cmd.op with
    | .selfTest e =>
      if get Reg.CMD_ST_STAT.STATE s ≠ 0 then finish c .selfTestInProgress 0 s
      else finish c .success 0 (puts [(Reg.CMD_ST_STAT.STATE, 1), (Reg.CMD_ST_STAT.KIND, if e then 2 else 1),
        (Reg.CMD_ST_STAT.PORT, portCode c.cmd.port), (Reg.CMD_ST_STAT.PCT, 0)] (setCmd { s.cmd with testBy := some c.cmd.port } s))
    | _ => s) s

/-- A media command is in the store. -/
def mediaInStore (s : State) : Bool := s.cmd.ctxs.any (fun c => isMedia c.cmd.op)

/-- SELF_TEST_SUSPEND: a media command has been stamped (R379); `pct` is the progress made. -/
def execSelfTestSuspend (pct : Nat) (s : State) : Out :=
  occurs (get Reg.CMD_ST_STAT.STATE s = 1 ∧ mediaInStore s = true) (puts [(Reg.CMD_ST_STAT.STATE, 2), (Reg.CMD_ST_STAT.PCT, min pct 100)] s) s

/-- SELF_TEST_RESUME: no media command has been in the store for IDLE_MS (R379). -/
def execSelfTestResume (idleMs : Nat) (s : State) : Out :=
  let n := get Reg.CMD_ST_CFG.IDLE_MS s
  occurs (get Reg.CMD_ST_STAT.STATE s = 2 ∧ mediaInStore s = false ∧ (if n = 0 then 100 else n) ≤ idleMs) (put Reg.CMD_ST_STAT.STATE 1 s) s

/-- SELF_TEST_END: a running test ends, or the port that started it, and no other, aborts it (R378, R379). Log entry 129 (DESIGN CHOICE). -/
def execSelfTestEnd (result : Nat) (abortBy : Option Port) (s : State) : Out :=
  match abortBy with
  | none => occurs (get Reg.CMD_ST_STAT.STATE s = 1) (testEnds result s) s
  | some p => occurs (get Reg.CMD_ST_STAT.STATE s ≠ 0 ∧ s.cmd.testBy = some p) (testEnds result s) s

/-! ### Port resets -/

/-- The commands stamped from a port leave without completions (R376): what writes have had accepted stays. -/
def dropPort (p : Port) (s : State) : State :=
  countCtxs (setCmd { s.cmd with ctxs := s.cmd.ctxs.filter (fun c => c.cmd.port != p)
                                 held := s.cmd.held.filter (fun c => c.port != p)
                                 ncqFailed := s.cmd.ncqFailed && p != .sata } s)

/-- The nexuses of a SAS port are freed (R345). -/
def freeNexuses (p : Port) (s : State) : State :=
  if isSas p then
    setHost { s.host with nexus := s.host.nexus.filter (fun q => q.1 != sasPort p), ua := s.host.ua.filter (fun q => q.1 != sasPort p) } s
  else s

/-- A controller-level reset of a port (R59, R376): its commands, the self-test it started, a SAS port's nexuses, its demand (R350). -/
def portClear (p : Port) (s : State) : State :=
  let t := dropPort p s
  let u := if t.cmd.testBy = some p then testEnds 2 t else t
  freeNexuses p (if p = .sata then put Reg.CMD_ACT_HELD.SATA 0 u else u)

def portReset (p : Port) (s : State) : State := setDemand p 3 255 (portClear p s)

def isHostPort (p : Port) : Bool := p == .pcie || isSas p || p == .sata

/-- CONTROLLER_LEVEL_RESET: CC.EN cleared, a SAS hard reset, or a COMRESET, which raises line 2 of HST (R376). -/
def execControllerLevelReset (port : Port) (s : State) : Out :=
  let t := portReset port s
  occurs (isHostPort port = true)
    (if port = .sata then raisePost 578 0 [] t else if port = .pcie then put Reg.HPC_PM.PS 0 t else t) s

end Sys2Proof.Machine
end

