-- ==== Sys2Proof/Machine/HostPorts.lean ====
section
/-! DEFINITION. 13_host_ports.md: lanes (R339), links and resets of the ports (R340, R343, R350), nexuses (R345), spin-up (R346), demands (R350),
link power (R352), the sideband (R355, R517); and the pins CALREF, REFCLK and JTAG_TRST_N (R36, R37, R518). -/

namespace Sys2Proof.Machine

/-! ### Lanes -/

/-- HOST_LANE_PROMOTION: lanes fail their loopback before training (R339): the lowest takes lane 7 where AUTO allows and it is free. -/
def execHostLanePromotion (failed : List Nat) (s : State) : Out :=
  let l := (List.range 7).filter (fun n => failed.contains n && !(s.host.dead.contains n))
  let t := setHost { s.host with dead := s.host.dead ++ l } (l.foldl (fun u n => putBit Reg.HPC_HLANE.FAILED n true u) s)
  match l with
  | [] => .next s
  | n :: _ =>
    .next
      (if get Reg.HPC_HLANE.AUTO s = 1 ∧ get Reg.HPC_HLANE.SEL s = 7 then
        promoted Reg.SPR_INV.HOST (raisePost 515 0 [n] (put Reg.HPC_HLANE.SEL n t))
       else t)

/-- A lane works, or lane 7 stands for it (R339). -/
def laneWorks (n : Nat) (s : State) : Bool := !s.host.dead.contains n || get Reg.HPC_HLANE.SEL s == n

/-- The PCIe lanes that work. Log entry 134 (DEDUCED). -/
def workingLanes (s : State) : Nat := ((List.range 4).filter (fun n => laneWorks n s)).length

/-- The widest width that the lanes and MAX_WIDTH allow (R339, R340). Log entry 134 (DEDUCED). -/
def maxWidth (s : State) : Nat :=
  let w := get Reg.HPC_CFG.MAX_WIDTH s
  let c := if w = 0 then 1 else if w = 1 then 2 else 4
  let n := workingLanes s
  min c (if 4 ≤ n then 4 else if 2 ≤ n then 2 else n)

/-! ### Links -/

/-- Host ports may train: the image is applied and the mode keeps their domains on (R51). -/
def portsTrain (s : State) : Bool := decide (1 ≤ get Reg.SYS_MODE.STAGE s) && (mode s == 2 || mode s == 3 || mode s == 4)

/-- A port's link comes up at a rate (R340, R344, R347): its fields, or none where the port cannot train so. -/
def linkUp (p : Port) (rate width : Nat) (s : State) : Option State :=
  match p with
  | .pcie =>
    if get Reg.HPC_LINK.UP s = 0 ∧ s.pins.perstN = true ∧ 1 ≤ rate ∧ rate ≤ get Reg.HPC_CFG.MAX_SPEED s
        ∧ (width = 1 ∨ width = 2 ∨ width = 4) ∧ width ≤ maxWidth s then
      some (msixFlush <| raisePost 512 0 [rate, width] (puts [(Reg.HPC_LINK.SPEED, rate), (Reg.HPC_LINK.WIDTH, width), (Reg.HPC_LINK.UP, 1),
        (Reg.HPC_LINK.L1, 0), (Reg.SYS_CLK_STAT.REFCLK_OK, 1)] { s with pins := { s.pins with refclk := true } }))
    else none
  | .sata =>
    if get Reg.HST_LINK.UP s = 0 ∧ get Reg.HST_CFG.EN s = 1 ∧ 1 ≤ rate ∧ rate ≤ get Reg.HST_CFG.MAX_GEN s ∧ laneWorks 6 s = true then
      some (raisePost 576 0 [rate] (puts [(Reg.HST_LINK.GEN, rate), (Reg.HST_LINK.UP, 1), (Reg.HST_LINK.PSTATE, 0)] s))
    else none
  | p =>
    let k := sasPort p
    if isSas p = true ∧ get (Reg.HSA_LINK.UP k) s = 0 ∧ get (Reg.HSA_CFG.EN k) s = 1 ∧ rate ≤ get (Reg.HSA_CFG.MAX_RATE k) s
        ∧ laneWorks (4 + k) s = true then
      some (raisePost (544 + k) k [rate] (puts [(Reg.HSA_LINK.RATE k, rate), (Reg.HSA_LINK.UP k, 1), (Reg.HSA_LINK.PSTATE k, 0)] s))
    else none

/-- HOST_LINK_UP: a port's link trains and comes up; its demand becomes SERVICE at level 255 (R350). Log entry 135 (DEDUCED). -/
def execHostLinkUp (port : Port) (rate width : Nat) (s : State) : Out :=
  match linkUp port rate width s with
  | none => .next s
  | some t => occurs (portsTrain s = true) (setDemand port 3 255 t) s

/-- The PCIe link is down: its fields, the controller-level reset of HPC, the device and NVMe power states (R343). -/
def pcieDown (s : State) : State :=
  let t := portClear .pcie s
  puts [(Reg.HPC_LINK.SPEED, 0), (Reg.HPC_LINK.WIDTH, 0), (Reg.HPC_LINK.UP, 0), (Reg.HPC_LINK.L1, 0), (Reg.HPC_PM.DSTATE, 0), (Reg.HPC_PM.PS, 0)]
    (if get Reg.HPC_LINK.UP s = 1 then raisePost 512 0 [0, 0] t else t)

/-- PCIE_LINK_DOWN: a link-down of any cause (R343); the port's demand becomes NONE (R350). -/
def execPcieLinkDown (s : State) : Out := occurs (get Reg.HPC_LINK.UP s = 1) (setDemand .pcie 0 0 (pcieDown s)) s

/-- PCIE_REFCLK_LOSS: REFCLK is lost (R36); for more than 10 µs the PCIe link goes down (R343). No other port is touched. -/
def execPcieRefclkLoss (gapNs : Nat) (s : State) : Out :=
  let t := put Reg.SYS_CLK_STAT.REFCLK_OK 0 { s with pins := { s.pins with refclk := false } }
  .next (if 10000 < gapNs ∧ get Reg.HPC_LINK.UP s = 1 then setDemand .pcie 0 0 (pcieDown t) else t)

/-- PERST_N_ASSERT: a PCIe fundamental reset (R59), with line 2; in D3hot under D3C_STBY it is the entry to D3cold, whose demand is STANDBY (R350). -/
def execPerstNAssert (s : State) : Out :=
  let cold := decide (get Reg.HPC_PM.DSTATE s = 3 ∧ get Reg.HPC_PM.D3C_STBY s = 1)
  let t := put Reg.HPC_LINK.PERST 0 { s with pins := { s.pins with perstN := false } }
  let u := pcieDown (setHost { t.host with d3cold := cold } t)
  occurs (s.pins.perstN = true) (raisePost 514 0 [] (setDemand .pcie (if cold then 1 else 0) 0 u)) s

/-- PERST_N_RELEASE: PERST_N rises (R350): a STANDBY demand ends; in STANDBY the rise is also the wake event of SYS_WAKE_CFG.PERST. -/
def execPerstNRelease (s : State) : Out :=
  let t := put Reg.HPC_LINK.PERST 1 { s with pins := { s.pins with perstN := true } }
  occurs (s.pins.perstN = false)
    (if s.host.d3cold then setDemand .pcie 0 0 (setHost { t.host with d3cold := false } t) else t) s

/-- FUNCTION_LEVEL_RESET: the reset of the PCIe function (R340), as a controller-level reset (R59): D0, the NVMe power state 0. Log entry 131 (PRESUMED). -/
def execFunctionLevelReset (s : State) : Out :=
  occurs (get Reg.HPC_LINK.UP s = 1) (puts [(Reg.HPC_PM.DSTATE, 0), (Reg.HPC_PM.PS, 0)] (portReset .pcie s)) s

/-- SAS_SATA_LINK_DOWN: the port's demand becomes NONE (R350); the two SAS ports share a demand, which ends with the second link. -/
def execSasSataLinkDown (port : Port) (s : State) : Out :=
  let k := sasPort port
  if port = .sata then
    occurs (get Reg.HST_LINK.UP s = 1)
      (setDemand .sata 0 0 (raisePost 576 0 [0] (puts [(Reg.HST_LINK.GEN, 0), (Reg.HST_LINK.UP, 0), (Reg.HST_LINK.PSTATE, 0)] s))) s
  else
    let t := raisePost (544 + k) k [0] (puts [(Reg.HSA_LINK.RATE k, 0), (Reg.HSA_LINK.UP k, 0), (Reg.HSA_LINK.PSTATE k, 0)] s)
    occurs (isSas port = true ∧ get (Reg.HSA_LINK.UP k) s = 1)
      (if get (Reg.HSA_LINK.UP (1 - k)) s = 1 then t else setDemand port 0 0 t) s

/-! ### Nexuses -/

/-- NEXUS_TAKE: the first command of a new initiator takes an I_T nexus, or ends with TASK SET FULL (R345). -/
def execNexusTake (cmd : HostCmd) (s : State) : Out :=
  occurs (isSas cmd.port = true ∧ s.host.nexus.contains (nexusOf cmd) = false) (arriveCmd cmd s) s

def freeNexus (port nexus : Nat) (s : State) : State :=
  setHost { s.host with nexus := s.host.nexus.filter (· != (port, nexus)), ua := s.host.ua.filter (· != (port, nexus)) } s

/-- NEXUS_IDLE_FREE: IDLE_S with no command, no registration and no pending unit attention (R345). -/
def execNexusIdleFree (port nexus idleS : Nat) (registered : Bool) (s : State) : Out :=
  unit port 2 (occurs (get Reg.HSA_NEXUS.IDLE_S s ≤ idleS ∧ registered = false ∧ s.host.ua.contains (port, nexus) = false
      ∧ s.cmd.ctxs.any (fun c => isSas c.cmd.port && nexusOf c.cmd == (port, nexus)) = false)
    (freeNexus port nexus s) s)

/-- I_T_NEXUS_LOSS: the nexus is freed (R345). -/
def execITNexusLoss (port nexus : Nat) (s : State) : Out := unit port 2 (.next (freeNexus port nexus s))

/-! ### Spin-up and power -/

/-- NOTIFY_ENABLE_SPINUP: the first one on either SAS port releases the spindle and the trial timer (R346). -/
def execNotifyEnableSpinup (port : Nat) (s : State) : Out :=
  unit port 2 (.next (setBoot { s.boot with spinHeld := false, trialPaused := s.boot.trialPaused && !s.boot.spinHeld } (put Reg.HSA_SPINUP.GOT 1 s)))

/-- The demand of a power condition (R350): its mode and level. -/
def condDemand (p : Port) (c : PowerCond) (s : State) : Option (Nat × Nat) :=
  let lv (b cc y z : Fld) : Option (Nat × Nat) :=
    match c with
    | .active => some (3, 255)
    | .idleA => some (3, 255)
    | .idleB => some (4, get b s)
    | .idleC => some (4, get cc s)
    | .standbyY => some (4, get y s)
    | .standbyZ => some (4, get z s)
    | _ => none
  match p with
  | .pcie =>
    (match c with
     | .ps 0 => some (3, 255)
     | .ps 1 => some (4, get Reg.HPC_PM.PS1_LEVEL s)
     | .ps 2 => some (4, get Reg.HPC_PM.PS2_LEVEL s)
     | _ => none)
  | .sata => lv Reg.HST_PM.IDLE_B Reg.HST_PM.IDLE_C Reg.HST_PM.STBY_Y Reg.HST_PM.STBY_Z
  | p => if isSas p then lv Reg.HSA_PM.IDLE_B Reg.HSA_PM.IDLE_C Reg.HSA_PM.STBY_Y Reg.HSA_PM.STBY_Z else none

/-- The PCIe power states that a condition names. -/
def condState (p : Port) (c : PowerCond) (s : State) : State :=
  if p = .pcie then
    match c with
    | .ps n => put Reg.HPC_PM.PS n s
    | .d0 => msixFlush (put Reg.HPC_PM.DSTATE 0 s)
    | .d3hot => put Reg.HPC_PM.DSTATE 3 s
    | _ => s
  else s

/-- A port's link is up. -/
def isUp (p : Port) (s : State) : Bool :=
  match p with
  | .pcie => get Reg.HPC_LINK.UP s == 1
  | .sas0 => get (Reg.HSA_LINK.UP 0) s == 1
  | .sas1 => get (Reg.HSA_LINK.UP 1) s == 1
  | .sata => get Reg.HST_LINK.UP s == 1
  | _ => false

/-- The condition is one the port has: NVMe power states 0 to 2. -/
def condOk (p : Port) (c : PowerCond) (s : State) : Bool :=
  (condDemand p c s).isSome || (p == .pcie && (c == .d0 || c == .d3hot))

/-- POWER_DEMAND_CHANGE: a power command or the expiry of an idle timer (R350). -/
def execPowerDemandChange (port : Port) (cond : PowerCond) (s : State) : Out :=
  let t := condState port cond s
  occurs (isUp port s = true ∧ condOk port cond s = true)
    (match condDemand port cond s with
     | some d => setDemand port d.1 d.2 t
     | none => t) s

/-- LINK_LOW_POWER_ENTRY: in QUIESCE a port enters the lowest link power state that its host has enabled (R352): `slumberOk` is ASPM L1 for PCIe. -/
def execLinkLowPowerEntry (port : Port) (partialOk slumberOk : Bool) (idleNs : Nat) (s : State) : Out :=
  let k := sasPort port
  occurs (mode s = 4 ∧ isUp port s = true)
    (match port with
     | .pcie => if slumberOk ∧ 10000 ≤ idleNs then put Reg.HPC_LINK.L1 1 s else s
     | .sata => if slumberOk ∧ get Reg.HST_CFG.DIPM_ALLOW s = 1 then put Reg.HST_LINK.PSTATE 2 s else s
     | _ => if slumberOk ∧ get (Reg.HSA_CFG.SLUMBER_EN k) s = 1 then put (Reg.HSA_LINK.PSTATE k) 2 s
            else if partialOk ∧ get (Reg.HSA_CFG.PARTIAL_EN k) s = 1 then put (Reg.HSA_LINK.PSTATE k) 1 s else s) s

/-! ### The sideband -/

/-- A request is received and handed on to be served. -/
def smbServe (bytes : List Nat) (s : State) : State := raisePost 992 0 [] (setHost { s.host with mctp := s.host.mctp ++ [bytes] } s)

/-- The packets held are served once administration is available (R355). -/
def serveHeld (s : State) : State :=
  if adminServed .sideband s then
    s.host.smb.foldl (fun t b => smbServe b t) (setHost { s.host with smb := [] } s)
  else s

def smbHold (bytes : List Nat) (s : State) : State := setHost { s.host with smb := s.host.smb ++ [bytes] } s
def smbNack (s : State) : State := bump Reg.SMB_ERR.NACK s

/-- The device ACKs its address (R355). -/
def smbAcks (s : State) : Bool :=
  if mode s = 1 then get Reg.SYS_WAKE_CFG.SMB s == 1 && s.host.smb.isEmpty
  else if mode s = 2 then adminServed .sideband s || decide (s.host.smb.length < 4)
  else mode s == 3 || mode s == 4

/-- SMBUS_PACKET: a packet to the device address is held, served or NACKed by mode (R355); one with a bad PEC is dropped and counted (R354). Log entry 136 (DEDUCED). -/
def execSmbusPacket (addr : Nat) (bytes : List Nat) (pecOk : Bool) (s : State) : Out :=
  occurs (s.pins.rails = true ∧ addr = get Reg.SMB_CFG.ADDR s ∧ get Reg.SMB_CFG.EN s = 1)
    (if !smbAcks s then smbNack s
     else if !pecOk then raisePost 993 0 [1] (bump Reg.SMB_ERR.PEC s)
     else if adminServed .sideband s then smbServe bytes s
     else smbHold bytes s) s

/-- SMBUS_CLOCK_LOW_TIMEOUT: SMB_CLK has been low for at least 25 ms (R517). -/
def execSmbusClockLowTimeout (lowMs : Nat) (s : State) : Out :=
  occurs (25 ≤ lowMs) (raisePost 993 0 [3] (bump Reg.SMB_ERR.TIMEOUT (put Reg.SMB_STAT.BUSY 0 s))) s

/-! ### Pins -/

/-- CALREF_LOSS: CALREF stops being valid (R37): PPM holds, and the trim of the wall time stops. -/
def execCalrefLoss (s : State) : Out :=
  .next (calrefLost s)

/-- JTAG_TRST_N_ASSERT: the TAP goes to Test-Logic-Reset at once (R518). Log entry 152 (DESIGN CHOICE). -/
def execJtagTrstNAssert (s : State) : Out := .next { s with pins := { s.pins with trstN := false, tapReset := true } }

end Sys2Proof.Machine
end

