-- ==== Sys2Proof/Machine/Fabric.lean ====
section
/-! DEFINITION. 17_nguam_fabric.md: ports and lanes (R421, R422), node identity (R423, R424), discovery (R427 to R429), forwarding (R430), link
reliability (R431, R432), services (R433 to R436) and requests (R437, R438). The REG service is in RegWrite.lean, beside register writes. -/

namespace Sys2Proof.Machine

/-! ### Requests: their end -/

/-- The ring and a descriptor of it (R436's *Request descriptor*). -/
def ringBase (s : State) : Nat := 16384 * get Reg.FAB_RING_LO.ADDR s + 2 ^ 32 * get Reg.FAB_RING_HI.ADDR s
def descAddr (i : Nat) (s : State) : Nat := ringBase s + 64 * (i % 256)

/-- Bytes of an address that FAB, master 13, reads and writes. -/
def fabBytes (a n : Nat) (s : State) : List Nat × State :=
  let t := busLoad 13 a n s
  ((busBytes a n t).1, t)

/-- TAIL advances over each run of DONE entries; OUT counts the requests outstanding (R437). -/
def advanceTail : (n : Nat) → State → State
  | 0, s => s
  | n + 1, s =>
    let t := get Reg.FAB_RING_CTL.TAIL s
    if s.fab.ended.contains t then advanceTail n (put Reg.FAB_RING_CTL.TAIL (t + 1) (setFab { s.fab with ended := s.fab.ended.filter (· != t) } s))
    else s

def showOut (s : State) : State := put Reg.FAB_RING_CTL.OUT s.fab.reqs.length s

/-- A request ends (R437, R438): STATUS and result go into its descriptor, DONE last; line 2 where IE is set. -/
def endReq (r : FabReq) (status result : Nat) (s : State) : State :=
  let a := descAddr r.idx s
  let (ie, t) := fabBytes (a + 1) 1 s
  let u := busStore 13 (a + 63) [1] (busStore 13 (a + 44) (bytesOf 8 result) (busStore 13 (a + 40) (bytesOf 2 status) t))
  let v := advanceTail 256 (showOut (setFab { u.fab with reqs := u.fab.reqs.filter (fun x => x.tag != r.tag), ended := u.fab.ended ++ [r.idx] } u))
  if (ie.getD 0 0).testBit 1 then raisePost 834 0 [r.idx] v else v

/-! ### Routes -/

/-- A routing entry becomes invalid (R429): line 1; outstanding requests to it end with 7/03 (R438). -/
def dropRoute (id : Nat) (s : State) : State :=
  let t := raisePost 833 0 (bytesOf 2 id) (put (Reg.FAB_RT.VALID id) 0 s)
  (t.fab.reqs.filter (fun r => r.frame.dst == id)).foldl (fun u r => endReq r 0x703 0 u) t

/-- The valid entries that name a port. -/
def routesVia (p : Nat) (s : State) : List Nat :=
  let a := (Reg.FAB_RT.VALID 0).key
  (s.regs.filterMap (fun q => if a + 128 ≤ q.1 ∧ q.1 < a + 4095 * 128 ∧ (q.1 - a) % 128 = 0 ∧ q.2 = 1 then some ((q.1 - a) / 128) else none)).filter
    (fun id => get (Reg.FAB_RT.PORT id) s == p)

def dropRoutes (p : Nat) (s : State) : State := (routesVia p s).foldl (fun t id => dropRoute id t) s

/-! ### Adverts -/

def ownUid (s : State) : Nat := get Reg.FAB_UID_LO.UID s + 2 ^ 32 * get Reg.FAB_UID_HI.UID s
def upPorts (s : State) : List Nat := (List.range 4).filter (fun p => fabUp p s)
def upMap (s : State) : Nat := (upPorts s).foldl (fun m p => withBit m p true) 0

/-- A frame goes out on some ports. -/
def flood (ports : List Nat) (f : Frame) (s : State) : State := ports.foldl (fun t p => toPort p none f t) s

/-- The node's own ADVERT on some ports (R427). -/
def ownAdvert (ports : List Nat) (s : State) : State :=
  let q := (s.fab.seq + 1) % 2 ^ 32
  let f : Frame := { dst := 4095, vc := 0, src := nodeId s, type := 1, hops := 1, flags := 0, tag := 0, status := 0, p1 := 0, p2 := 0
                     payload := bytesOf 8 (ownUid s) ++ bytesOf 4 q ++ [upMap s, 0, 0, 0] }
  flood ports f (setFab { s.fab with seq := q } s)

/-- The node advertises (R423, R424, R427). -/
def advertises (s : State) : Bool := get Reg.FAB_CFG.EN s == 1 && nodeActive s

/-- After a change of a port the node advertises at once on every up port. -/
def advertNow (s : State) : State := if advertises s then ownAdvert (upPorts s) s else s

/-- ADVERT_ORIGINATE: every ADV_MS (R427). -/
def advMs (s : State) : Nat := if get Reg.FAB_ADV.ADV_MS s = 0 then 100 else get Reg.FAB_ADV.ADV_MS s
def execAdvertOriginate (elapsedMs : Nat) (s : State) : Out :=
  occurs (advertises s = true ∧ advMs s ≤ elapsedMs) (ownAdvert (upPorts s) s) s

/-! ### Ports -/

/-- A port is down: what it held is discarded, its routes are invalid, line 0, and the node advertises (R427, R429, R432). -/
def portDown (p : Nat) (s : State) : State :=
  let t := putBit Reg.FAB_STAT.UP p false (puts [(Reg.FAB_PORT_STAT.UP p, 0), (Reg.FAB_PORT_STAT.TRAINING p, 0)]
    (setFabPort p { stays := (fabPort p s).stays } s))
  if fabUp p s then advertNow (raisePost 832 p [0] (dropRoutes p t)) else t

/-- The fabric's ports run: the image is applied and the mode keeps the domain on (R440). -/
def fabRuns (s : State) : Bool := domOn 17 s && decide (1 ≤ get Reg.SYS_MODE.STAGE s) && (mode s == 2 || mode s == 3 || mode s == 4)

/-- Training starts (R422): the INIT blocks carry the node ID and the credits of this side's buffers, 8 KiB for VC0 and 32 KiB for VC1 and VC2. Log entry 42 (DEDUCED). -/
def trainStart (p : Nat) (s : State) : State :=
  let b := initBlock (nodeId s) 128 512
  sendCtl p b (sendCtl p b (put (Reg.FAB_PORT_STAT.TRAINING p) 1 (setFabPort p { stays := false } s)))

/-- A retrain after a link fault: three within 1 s, then none until RETRAIN (R432). -/
def retrainOk (p : Nat) (s : State) : Bool := get (Reg.FAB_PORT_STAT.FAULT p) s == 0 || decide (get (Reg.FAB_PORT_STAT.TRIES p) s < 3)

/-- FAB_PORT_TRAINING: a port that is down starts to train, or completes it once both sides have received two INIT blocks (R422): it is up, with
line 0, and the node's advert goes out. -/
def execFabPortTraining (port : Nat) (complete : Bool) (s : State) : Out :=
  let t := trainStart port (if get (Reg.FAB_PORT_STAT.FAULT port) s = 1 then bump (Reg.FAB_PORT_STAT.TRIES port) s else s)
  let u := putBit Reg.FAB_STAT.UP port true (puts [(Reg.FAB_PORT_STAT.UP port, 1), (Reg.FAB_PORT_STAT.TRAINING port, 0)] s)
  unit port 4
    (if complete then
      occurs (get (Reg.FAB_PORT_STAT.TRAINING port) s = 1 ∧ 2 ≤ (fabPort port s).inits) (advertNow (raisePost 832 port [1] u)) s
     else occurs (fabRuns s = true ∧ fabUp port s = false ∧ (fabPort port s).stays = false ∧ retrainOk port s = true) t s)

/-- INIT: the peer's node ID and credits; VC2 equals VC1 (R422, R425). -/
def execInitBlock (port node c0 c1 : Nat) (s : State) : Out :=
  let r := fabPort port s
  unit port 4 (occurs (get (Reg.FAB_PORT_STAT.TRAINING port) s = 1)
    (put (Reg.FAB_PORT_STAT.PEER port) node
      (setFabPort port { r with inits := r.inits + 1, credit := [c0 % 65536, c1 % 65536, c1 % 65536] } s)) s)

/-- Lanes that fail: the lowest takes lane 4 where AUTO allows and it is free; the ports of the others stay down (R421). -/
def lanesFail (l : List Nat) (s : State) : State :=
  let t := l.foldl (fun u p => portDown p (putBit Reg.FAB_LANE.FAILED p true u)) s
  match l with
  | [] => s
  | p :: rest =>
    let stay (u : State) (k : Nat) : State := setFabPort k { fabPort k u with stays := true } u
    if get Reg.FAB_LANE.AUTO s = 1 ∧ get Reg.FAB_LANE.SEL s = 7 then
      rest.foldl stay (promoted Reg.SPR_INV.FAB (raisePost 836 p [] (put Reg.FAB_LANE.SEL p t)))
    else l.foldl stay t

/-- FAB_LANE_PROMOTION: lanes fail the loopback before training, or an up port's lane shows ERR_THR invalid sync headers within 1 s (R421). -/
def execFabLanePromotion (failed : List Nat) (badHeaders : Nat) (s : State) : Out :=
  let l := (List.range 4).filter (fun p => failed.contains p && !(fabPort p s).stays
    && (!fabUp p s || decide (get Reg.FAB_LANE.ERR_THR s ≤ badHeaders)))
  .next (lanesFail l s)

/-! ### Links -/

/-- A frame arrives on a port (R432): accepted with its ACK, or none: a bad CRC or a gap is NAKed and frames are discarded until the replay. Log entry 138 (DEDUCED). -/
def receive (p seq : Nat) (good : Bool) (s : State) : Option State × State :=
  let r := fabPort p s
  if !fabUp p s then (none, s)
  else if good ∧ seq = r.expect then
    (some (sendCtl p (ackBlock seq false) (setFabPort p { r with expect := (r.expect + 1) % 256, discard := false } s)), s)
  else
    let t := if good then s else bump (Reg.FAB_PORT_ERR.CRC p) s
    if r.discard then (none, t)
    else (none, sendCtl p (ackBlock (r.expect + 255) true) (setFabPort p { r with discard := true } t))

/-- A meaning of an accepted frame; its receive buffer is freed after it. -/
def onFrame (p seq : Nat) (w : List Nat) (g : State → State) (s : State) : Out :=
  let f := frameOf w
  unit p 4 (.next (match receive p seq (wireGood w) s with
    | (none, t) => t
    | (some t, _) => returnCredit (some p) f (g t)))

/-- The same for a frame to this node of one TYPE. A node that is withdrawn or without an ID drops it (R423, R424). Log entry 138 (DEDUCED). -/
def onLocal (p seq : Nat) (w : List Nat) (type : Nat) (g : State → State) (s : State) : Out :=
  let f := frameOf w
  if f.type = type ∧ f.dst = nodeId s ∧ nodeId s ≠ 0 then
    onFrame p seq w (fun t => if nodeActive t then g t else t) s
  else .next s

/-- Acknowledged frames leave the replay buffer: those up to the last good number. -/
def acked (last : Nat) (l : List (Nat × Frame)) : List (Nat × Frame) :=
  match l.findIdx? (fun q => q.1 == last) with
  | some i => l.drop (i + 1)
  | none => l

/-- What is left in the replay buffer is sent again. -/
def replayAll (p : Nat) (s : State) : State :=
  let r := fabPort p s
  if r.replay = [] then s
  else r.replay.foldl (fun t q => sendOut p q.1 q.2 t)
    (bump (Reg.FAB_PORT_ERR.REPLAYS p) (setFabPort p { r with tries := r.tries + 1 } s))

/-- ACK: an ACK frees frames, a NAK has the rest sent again (R432). -/
def execAckBlock (port last : Nat) (nak : Bool) (s : State) : Out :=
  let r := fabPort port s
  let l := acked last r.replay
  let t := setFabPort port { r with replay := l, tries := if l.length < r.replay.length then 0 else r.tries } s
  unit port 4 (occurs (fabUp port s = true) (pump (r.queue.length + 1) port (if nak then replayAll port t else t)) s)

/-- REPLAY_TIMEOUT: 20 µs without an ACK (R432). -/
def execReplayTimeout (port elapsedNs : Nat) (s : State) : Out :=
  unit port 4 (occurs (fabUp port s = true ∧ 20000 ≤ elapsedNs) (replayAll port s) s)

/-- FAB_LINK_FAULT: 8 replays without the ACK advancing (R432): the port goes down, with FAULT and line 5. -/
def execFabLinkFault (port : Nat) (s : State) : Out :=
  unit port 4 (occurs (fabUp port s = true ∧ 8 ≤ (fabPort port s).tries)
    (linePost 837 (Reg.FAB_PORT_STAT.FAULT port) 1 port [] (put (Reg.FAB_PORT_STAT.TRIES port) 0 (portDown port s))) s)

/-- CREDIT: receive buffer returned by the peer (R431). -/
def execCreditBlock (port vc units : Nat) (s : State) : Out :=
  let r := fabPort port s
  unit port 4 (occurs (fabUp port s = true ∧ vc < 3)
    (pump (r.queue.length + 1) port (setFabPort port { r with credit := r.credit.set vc (r.credit.getD vc 0 + units) } s)) s)

/-! ### Forwarding -/

/-- Requests, which are answered where they find no route (R430). -/
def isRequest (type : Nat) : Bool := type == 0x10 || type == 0x12 || type == 0x14 || type == 0x16 || type == 0x18

/-- A frame for another DST (R430): `p` is the port whose buffer holds it. -/
def forward (p : Nat) (f : Frame) (s : State) : State :=
  let free := returnCredit (some p) f
  if 16 ≤ f.hops then free (bump Reg.FAB_CNT.HOPDROP s)
  else if hasRoute f.dst s then toPort (routePort f.dst s) (some p) { f with hops := f.hops + 1 } s
  else
    let t := free (bump Reg.FAB_CNT.NOROUTE s)
    if isRequest f.type then respondTo f.src f.type f.tag 0x703 0 0 [] true t else t

/-- Frame TYPEs that exist (R426). -/
def knownType (t : Nat) : Bool := t == 1 || t == 0x11 || isRequest t || (decide (0x80 ≤ t) && isRequest (t - 0x80))

/-- FRAME_FORWARD: a frame for another node (R430); one of unknown TYPE is dropped and counted (R426). -/
def execFrameForward (port seq : Nat) (wire : List Nat) (s : State) : Out :=
  let f := frameOf wire
  if f.type = 1 ∨ (f.dst = nodeId s ∧ nodeId s ≠ 0 ∧ knownType f.type = true) then .next s
  else unit port 4 (.next (match receive port seq (wireGood wire) s with
    | (none, t) => t
    | (some t, _) =>
      if knownType f.type then forward port f t else returnCredit (some port) f (bump Reg.FAB_CNT.BAD t)))

/-! ### Discovery -/

/-- SEQ a is newer than b, modulo 2^32 (R428). -/
def newerSeq (a b : Nat) : Bool :=
  let d := (a + 2 ^ 32 - b % 2 ^ 32) % 2 ^ 32
  decide (1 ≤ d) && decide (d < 2 ^ 31)

/-- An advert is sent once on every other up port, while HOPS allows (R428). -/
def reflood (p : Nat) (f : Frame) (s : State) : State :=
  if f.hops < 16 then flood ((upPorts s).filter (· != p)) { f with hops := f.hops + 1 } s else s

/-- An entry takes a port and HOPS with a fresh age. -/
def setRoute (id p hops : Nat) (s : State) : State :=
  puts [(Reg.FAB_RT.VALID id, 1), (Reg.FAB_RT.STATIC id, 0), (Reg.FAB_RT.PORT id, p), (Reg.FAB_RT.HOPS id, hops)]
    (setFab { s.fab with fresh := AMap.insert id (tmpCount s) s.fab.fresh } s)
def refresh (id : Nat) (s : State) : State := setFab { s.fab with fresh := AMap.insert id (tmpCount s) s.fab.fresh } s
def sawSeq (id q : Nat) (s : State) : State := setFab { s.fab with seen := AMap.insert id q s.fab.seen } s

/-- The cases of R428 for an advert of origin `id`. STATIC entries are never changed (R429): their adverts are recorded and flooded on. Log entry 140 (DEDUCED). -/
def takeAdvert (p : Nat) (f : Frame) (q : Nat) (s : State) : State :=
  let id := f.src
  let valid := get (Reg.FAB_RT.VALID id) s == 1
  let static := valid && get (Reg.FAB_RT.STATIC id) s == 1
  let port := get (Reg.FAB_RT.PORT id) s
  let hops := get (Reg.FAB_RT.HOPS id) s
  match AMap.lookup id s.fab.seen with
  | none => if static then reflood p f (sawSeq id q s) else reflood p f (sawSeq id q (setRoute id p f.hops s))
  | some old =>
    if static then (if newerSeq q old then reflood p f (sawSeq id q s) else s)
    else if !valid then reflood p f (sawSeq id q (setRoute id p f.hops s))
    else if newerSeq q old then
      (if p = port then reflood p f (sawSeq id q (refresh id (put (Reg.FAB_RT.HOPS id) f.hops s)))
       else if f.hops < hops then reflood p f (sawSeq id q (setRoute id p f.hops s))
       else reflood p f (sawSeq id q s))
    else if q = old then
      (if p = port then
        (if f.hops < hops then reflood p f (refresh id (put (Reg.FAB_RT.HOPS id) f.hops s)) else refresh id s)
       else if f.hops < hops then reflood p f (setRoute id p f.hops s)
       else s)
    else s

/-- An advert with the node's own ID and another UID (R424): DUP with line 3; the node of higher UID withdraws. Log entry 140 (DEDUCED). -/
def duplicate (uid : Nat) (s : State) : State :=
  let t := linePost 835 Reg.FAB_STAT.DUP 1 0 (bytesOf 8 uid) s
  if uid < ownUid s then put Reg.FAB_STAT.WITHDRAWN 1 t else t

/-- ADVERT: an advert arrives (R424, R428). Of two other nodes with one ID the entry keeps the lower UID. -/
def execAdvertFrame (port seq : Nat) (wire : List Nat) (s : State) : Out :=
  let f := frameOf wire
  let uid := ofBytes (f.payload.take 8)
  let q := ofBytes ((f.payload.drop 8).take 4)
  if f.type ≠ 1 ∨ f.dst ≠ 4095 then .next s
  else onFrame port seq wire (fun t =>
    if f.src = nodeId t ∧ nodeId t ≠ 0 then (if uid = ownUid t then t else duplicate uid t)
    else if f.src = 0 ∨ f.src = 4095 then t
    else
      let u := setFab { t.fab with uids := AMap.insert f.src uid t.fab.uids } t
      match AMap.lookup f.src t.fab.uids with
      | none => takeAdvert port f q u
      | some old =>
        if uid = old then takeAdvert port f q t
        else if get (Reg.FAB_RT.VALID f.src) t = 0 then takeAdvert port f q (setFab { u.fab with seen := AMap.erase f.src u.fab.seen } u)
        else if uid < old then put Reg.FAB_STAT.CONFLICT 1 (takeAdvert port f q (setFab { u.fab with seen := AMap.erase f.src u.fab.seen } u))
        else put Reg.FAB_STAT.CONFLICT 1 t) s

/-- ROUTE_AGE_OUT: no advert has refreshed an entry for AGE × ADV_MS (R429). -/
def execRouteAgeOut (id : Nat) (s : State) : Out :=
  let a := get Reg.FAB_ADV.AGE s
  unit id 4096 (occurs (get (Reg.FAB_RT.VALID id) s = 1 ∧ get (Reg.FAB_RT.STATIC id) s = 0 ∧ id ≠ nodeId s
      ∧ (if a = 0 then 4 else a) * advMs s ≤ routeAge id s)
    (dropRoute id s) s)

/-! ### Services -/

/-- The namespace's bit in FAB_NS_EN. -/
def nsServed (ns : Nat) (s : State) : Bool := if ns < 32 then bit Reg.FAB_NS_EN_LO.EN ns s else bit Reg.FAB_NS_EN_HI.EN (ns - 32) s

/-- A request of a peer takes a context (R360, R433): a refusal is answered and changes nothing. Without a context the frame stays in its buffer
(R431). -/
def takeRequest (p seq : Nat) (wire : List Nat) (enabled : Bool) (ns : Nat) (bad : Option Nat) (op : HostOp) (w : FabWork) (s : State) : Out :=
  let f := frameOf wire
  let c : HostCmd := { port := .fabric, nexus := f.src, tag := f.tag, ns := ns, op := op, ordered := false, naca := false, ncq := false }
  if get Reg.SYS_MODE.ACT s = 1 then .next s
  else if storeRuns s ∧ !hasRoom (ctxClass c) s then .next (poolFull c s)
  else onLocal p seq wire f.type (fun t =>
    let refuse (k : Nat) := respondTo f.src f.type f.tag k 0 0 [] true t
    if !enabled then refuse 0x701
    else if !nsServed ns t then refuse 0x702
    else match bad with
      | some k => refuse k
      | none =>
        if !storeRuns t then refuse 0x082
        else
          let u := setFab { t.fab with work := t.fab.work ++ [{ w with stamp := t.cmd.next }] } t
          stampCmd c u) s

/-- APPEND: a zone append of a peer (R433, R434): P1 gives logical zone and namespace, P2 the bytes. Log entry 139 (DEDUCED). -/
def execAppendFrame (port seq : Nat) (wire : List Nat) (s : State) : Out :=
  let f := frameOf wire
  let z := bits f.p1 0 20
  let ns := bits f.p1 20 6
  let k := if inNs ns z s then z - get (Reg.ZMG_NS_ZONES.FIRST ns) s else get (Reg.ZMG_NS_COUNT.COUNT ns) s
  let bad := if nsType ns s ≠ 2 ∧ nsType ns s ≠ 4 then some 0x002
    else if f.p2 % 4096 ≠ 0 ∨ f.p2 = 0 ∨ 1048576 < f.p2 then some 0x002 else none
  if f.type ≠ 0x10 then .next s
  else takeRequest port seq wire (get Reg.FAB_CFG.APP_EN s == 1) ns bad (.append k (f.p2 / 4096) (f.flags.testBit 0))
    { src := f.src, tag := f.tag, type := 0x10, stamp := 0, total := f.p2, come := f.payload.length, data := ofBytes f.payload } s

/-- DATA: further data of an append (R434); without the append it is dropped. Log entry 139 (DEDUCED). -/
def execDataFrame (port seq : Nat) (wire : List Nat) (s : State) : Out :=
  let f := frameOf wire
  onLocal port seq wire 0x11 (fun t =>
    match t.fab.work.find? (fun w => w.src == f.src && w.tag == f.tag && w.type == 0x10) with
    | none => t
    | some w =>
      if f.p1 = w.come ∧ w.come + f.payload.length ≤ w.total then
        setFab { t.fab with work := t.fab.work.map (fun x => if x = w then
          { x with come := x.come + f.payload.length, data := x.data + ofBytes f.payload * 2 ^ (8 * f.p1) } else x) } t
      else t) s

/-- TMO_MS (R434, R438). -/
def tmoMs (s : State) : Nat := if get Reg.FAB_TMO.TMO_MS s = 0 then 100 else get Reg.FAB_TMO.TMO_MS s

/-- APPEND_DATA_TIMEOUT: the DATA frames stop before the last (R434): 7/04, and accepted blocks stay. -/
def execAppendDataTimeout (src tag elapsedMs : Nat) (s : State) : Out :=
  match s.fab.work.find? (fun w => w.src == src && w.tag == tag && w.type == 0x10 && decide (w.come < w.total)) with
  | none => .next s
  | some w => occurs (tmoMs s ≤ elapsedMs) (dropCtx w.stamp (respondTo w.src w.type w.tag 0x704 0 0 [] true s)) s

/-- READ: a host read of a peer (R435). -/
def execReadFrame (port seq : Nat) (wire : List Nat) (s : State) : Out :=
  let f := frameOf wire
  let ns := bits f.p1 48 6
  let size := 4096 / lbasPerBlock ns s
  let bad := if f.p2 % size ≠ 0 ∨ f.p2 = 0 ∨ 1048576 < f.p2 then some 0x002 else none
  if f.type ≠ 0x12 then .next s
  else takeRequest port seq wire (get Reg.FAB_CFG.READ_EN s == 1) ns bad (.read (bits f.p1 0 48) (f.p2 / size))
    { src := f.src, tag := f.tag, type := 0x12, stamp := 0 } s

/-- A descriptor as a copy gives it: bytes 24 to 31 are 0 (R435). -/
def copyDesc (z : Nat) (s : State) : List Nat := bytesOf 24 (zoneWord (zoneOf z s)) ++ List.replicate 8 0

/-- COPY: a zone is read from LBA 0 up to its host write pointer as it is stamped (R435). -/
def execCopyFrame (port seq : Nat) (wire : List Nat) (s : State) : Out :=
  let f := frameOf wire
  let z := bits f.p1 0 20
  let ns := bits f.p1 20 6
  let k := z - get (Reg.ZMG_NS_ZONES.FIRST ns) s
  if f.type ≠ 0x14 then .next s
  else takeRequest port seq wire (get Reg.FAB_CFG.COPY_EN s == 1) ns (if inNs ns z s then none else some 0x080)
    (.read (k * zoneLbas ns s) ((zoneOf z s).host * lbasPerBlock ns s))
    { src := f.src, tag := f.tag, type := 0x14, stamp := 0, first := copyDesc z s } s

/-- The statement of a witness (R337) over bytes 0 to 515 of a seal entry. -/
def witnessStatement (l : List Nat) (s : State) : List Nat :=
  let b := bytesOf 4 0x534E5457 ++ bytesOf 2 1 ++ [0, 0] ++ (l.drop 8).take 8 ++ bytesOf 64 (sealHash (l.take 380)) ++ (l.drop 184).take 64
    ++ bytesOf 6 (tmpCount s) ++ [0, 0] ++ bytesOf 4 (lifeSec s) ++ bytesOf 8 (wallMs s) ++ bytesOf 64 (keyId s)
  b ++ bytesOf 132 (sealSign b s)

/-- WITNESS: a peer's request is checked and served, or refused with 7/05 (R337, R433). -/
def execWitnessFrame (port seq : Nat) (wire : List Nat) (s : State) : Out :=
  let f := frameOf wire
  onLocal port seq wire 0x16 (fun t =>
    let l := f.payload
    let fits := l.length == 516 && ofBytes ((l.drop 184).take 64) == hash ((l.drop 384).take 132) && recordVerifies l ((l.drop 384).take 132)
    if mode t = 3 ∧ t.seals.stopped = false ∧ get Reg.SEAL_STAT.PROV t = 1 ∧ get Reg.SEAL_CTL.WIT_SERVE t = 1 ∧ t.seals.served < get Reg.SEAL_WIT_TMO.SERVE_RATE t ∧ fits = true then
      respondTo f.src 0x16 f.tag 0 0 0 (witnessStatement l t ++ bytesOf 132 (pubKey t)) true (setSeals { t.seals with served := t.seals.served + 1 } t)
    else respondTo f.src 0x16 f.tag 0x705 0 0 [] true t) s

/-! ### Requests -/

/-- The VC of a request TYPE (R426). -/
def reqVc (type : Nat) : Nat := if type = 0x16 ∨ type = 0x18 then 0 else 1

/-- The frames of a request (R426): an append's first 4,096 bytes with its APPEND frame, the rest in DATA frames, LAST on the final one. -/
def requestFrames (f : Frame) (data : List Nat) : List Frame :=
  if f.type = 0x10 then
    (let l := chunks (data.length / 4096 + 1) data
     let n := l.length
     (List.range n).map (fun i => { f with
       type := if i = 0 then 0x10 else 0x11, flags := f.flags % 2 + (if i + 1 = n then 2 else 0)
       p1 := if i = 0 then f.p1 else 4096 * i, p2 := if i = 0 then f.p2 else 0, payload := l.getD i [] }))
  else [{ f with payload := data, flags := f.flags + 2 }]

/-- Whether a request sends data: an append, a register write, a witness request. Log entry 141 (DEDUCED). -/
def sendsData (type p1 : Nat) : Bool := type == 0x10 || type == 0x16 || (type == 0x18 && p1.testBit 63)

/-- A descriptor is started (R437): its frames go out, or it ends at once with 7/03 where its DST has no route (R438). Log entry 141 (DEDUCED). -/
def startReq (i : Nat) (s : State) : State :=
  let (d, t) := fabBytes (descAddr i s) 64 s
  let v := ofBytes d
  let type := bits v 0 8
  let a := bits v 192 64
  let p1 := bits v 64 64
  let (data, u) := if sendsData type p1 then fabBytes a (bits v 32 32) t else ([], t)
  let f : Frame := { dst := bits v 16 12, vc := reqVc type, src := nodeId s, type := type, hops := 1, flags := bits v 8 1, tag := u.fab.tag
                     status := 0, p1 := p1, p2 := bits v 128 64, payload := [] }
  let r : FabReq := { idx := i, tag := u.fab.tag, frame := f, data := a }
  let w := showOut (setFab { u.fab with reqs := u.fab.reqs ++ [r], tag := (u.fab.tag + 1) % 2 ^ 32 } u)
  if hasRoute f.dst s then (requestFrames f data).foldl (fun x g => originate g x) w else endReq r 0x703 0 w

/-- Descriptors are started in ring order up to HEAD. -/
def startReqs : (n : Nat) → State → State
  | 0, s => s
  | n + 1, s =>
    if s.fab.start = get Reg.FAB_RING_CTL.HEAD s then s
    else startReqs n (startReq s.fab.start (setFab { s.fab with start := (s.fab.start + 1) % 256 } s))

/-- RING_HEAD_ADVANCE: a write of FAB_RING_CTL.HEAD (R437). A node that is withdrawn, without an ID or not enabled originates nothing (R424). -/
def execRingHeadAdvance (head : Nat) (s : State) : Out :=
  let t := put Reg.FAB_RING_CTL.HEAD head s
  .next (if get Reg.FAB_CFG.EN s = 1 ∧ nodeActive s then startReqs 256 t else t)

/-- The request that a response answers. -/
def reqOf (f : Frame) (s : State) : Option FabReq :=
  s.fab.reqs.find? (fun r => r.tag == f.tag && r.frame.dst == f.src && f.type == r.frame.type + 0x80)

/-- FABRIC_RESPONSE: a response brings data into the buffer, and its LAST frame ends the request (R438); one that finds no request is counted LATE. The
statement of a witness that is asked is no late response: WITNESS_STATEMENT takes it. -/
def execFabricResponse (port seq : Nat) (wire : List Nat) (s : State) : Out :=
  let f := frameOf wire
  if f.type < 0x80 then .next s
  else onLocal port seq wire f.type (fun t =>
    match reqOf f t with
    | none => if f.type = 0x96 ∧ t.seals.wits.any (fun w => w.peer == f.src) = true then t else bump Reg.FAB_CNT.LATE t
    | some r =>
      let u := if f.payload = [] then t else busStore 13 (r.data + r.come) f.payload t
      let r' := { r with come := r.come + f.payload.length }
      if f.flags.testBit 1 then endReq r' f.status (if r.frame.type = 0x10 then f.p1 else r'.come) u
      else setFab { u.fab with reqs := u.fab.reqs.map (fun x => if x.tag = r.tag then r' else x) } u) s

/-- A request that may be sent once more (R438): READ, COPY, or a REG read. -/
def mayRetry (r : FabReq) : Bool := r.frame.type == 0x12 || r.frame.type == 0x14 || (r.frame.type == 0x18 && !r.frame.p1.testBit 63)

/-- FABRIC_REQUEST_TIMEOUT: TMO_MS without the end of the response (R438): sent once more with RETRY, or ended with 7/04. -/
def execFabricRequestTimeout (tag elapsedMs : Nat) (s : State) : Out :=
  match s.fab.reqs.find? (fun r => r.tag == tag) with
  | none => .next s
  | some r =>
    occurs (tmoMs s ≤ elapsedMs)
      (if mayRetry r ∧ get Reg.FAB_TMO.RETRY s = 1 ∧ !r.again then
        originate { r.frame with flags := 6 } (setFab { s.fab with reqs := s.fab.reqs.map (fun x => if x.tag = r.tag then { x with again := true, come := 0 } else x) } s)
       else endReq r 0x704 0 s) s

end Sys2Proof.Machine
end

