-- ==== Sys2Proof/Machine/Tempo.lean ====
section
/-! DEFINITION. 03_tempo_and_control_engines.md: the tempo boundary (R65 to R70), the output write (R69), the stage links (R89 to R92, R527) and the
failures of engines (R83, R88), with what other chapters count from tempo to tempo. -/

namespace Sys2Proof.Machine

/-! ### The tempo's phase -/

/-- PHASE is 0 in the tempo that starts, and a K that waits takes effect (R68). -/
def phaseZero (s : State) : State :=
  match s.tmp.newK with
  | some k => puts [(Reg.TMP_PHASE.K, k), (Reg.TMP_PHASE.PHASE, 0), (Reg.TMP_PHASE.B_PHASE, (k + 1) / 2)] (setTmp { s.tmp with newK := none } s)
  | none => put Reg.TMP_PHASE.PHASE 0 s

/-- PHASE at a boundary (R66, R68): modulo K; 0 while K is not valid. Log entry 24 (DEDUCED). -/
def phaseNext (s : State) : State :=
  let p := get Reg.TMP_PHASE.PHASE s + 1
  if kValid (get Reg.TMP_PHASE.K s) = true ∧ p < get Reg.TMP_PHASE.K s then put Reg.TMP_PHASE.PHASE p s else phaseZero s

/-- TMP_COUNT takes a value, modulo 2⁴⁸ (R65). Log entry 25 (DEDUCED). -/
def putCount (v : Nat) (s : State) : State := puts [(Reg.TMP_COUNT_LO.COUNT, bits v 0 32), (Reg.TMP_COUNT_HI.COUNT, bits v 32 16)] s

/-! ### The dividers of the clocks -/

/-- The trim after a tempo, in 1/100,000,000 tempo (R464): PPM is in 0.01 ppm, and a fast XIN skips counts. Log entry 25 (DEDUCED). -/
def trimNow (s : State) : Int :=
  if get Reg.EVR_TIME_CFG.TRIM s = 1 ∧ get Reg.SYS_CLK_STAT.CALREF_OK s = 1 then s.tmp.trim - toInt 16 (get Reg.SYS_CLK_CALREF.PPM s) else s.tmp.trim

/-- The counts that a tempo gives the dividers: 1, 0 where one is skipped, 2 where one is inserted (R464). Log entry 25 (DEDUCED). -/
def trimCounts (t : Int) : Nat := if t ≤ -100000000 then 0 else if 100000000 ≤ t then 2 else 1

/-- The dividers of lifetime seconds and wall time at a boundary (R462, R463); the wall time stands while EVR is off. Log entry 145 (DEDUCED). -/
def dividers (s : State) : State :=
  let t := trimNow s
  let n := trimCounts t
  setTmp { s.tmp with
    trim := t - 100000000 * ((n : Int) - 1), lifeDiv := s.tmp.lifeDiv + n, wallDiv := if domOn 2 s then s.tmp.wallDiv + n else s.tmp.wallDiv } s

/-- The recorder at a boundary: a wall time written takes effect, and the write budget takes a token every 20 tempos up to 64 (R463, R470). -/
def recorderTempo (s : State) : State :=
  let t := wallTakes s
  if tmpCount s % 20 = 0 then setEvr { t.evr with budget := min 64 (t.evr.budget + 1) } t else t

/-! ### BRINGUP -/

/-- The cores that run the firmware (R51, R481): 0 to 7, and core 8 once it has taken a role. -/
def firmwareCores (s : State) : List Nat := if get Reg.SPR_CORE.SEL s = 15 then List.range 8 else List.range 9

/-- The core in core 0's role starts the firmware at ENTRY (R52, R481). -/
def entryCore (s : State) : Nat := if get Reg.SPR_CORE.SEL s = 0 then 8 else 0

/-- DRAM training is complete, or has failed (R51, R383): the firmware is in place and is started on its cores, and administration becomes available,
from on-chip memory only where training failed. Log entry 179 (DEDUCED). -/
def administration (s : State) : State :=
  match s.boot.image with
  | none => s
  | some i =>
    if (get Reg.DRC_STAT.TRAINED s = 1 ∨ get Reg.DRC_STAT.TRAIN_FAIL s = 1) ∧ s.boot.admin = false then
      let t := if get Reg.DRC_STAT.TRAINED s = 1 then loadFirmware true i s else s
      serveHeld (redirectAll { t with boot := { t.boot with admin := true }
                                      sys := { t.sys with
                                        started := t.sys.started ++ (firmwareCores t).filter (fun n => !t.sys.started.contains n)
                                        startAt := AMap.insert (entryCore t) i.entry t.sys.startAt } })
    else s

/-- The media can be read on one stream per actuator (R51, R58): state restored, spindle locked, an actuator following. Log entry 146 (DEDUCED). -/
def mediaReady (s : State) : Bool :=
  get Reg.PMU_CKPT_CTL.RESTORED s == 1 && get Reg.SPN_STAT.LOCK s == 2 && (actState 0 s == 4 || actState 1 s == 4)

/-- The highest milestone reached (SYS_MODE.STAGE). Log entry 146 (DEDUCED). -/
def milestone (s : State) : Nat :=
  if !s.boot.admin then get Reg.SYS_MODE.STAGE s
  else if !s.boot.mediaReads then 2
  else if s.boot.sealReady then 5
  else if osvState s = 5 ∧ get Reg.OCH_STAT.READY s = 1 then 4
  else 3

/-- BRINGUP at a boundary: its milestones (R51), and MEDIA_FAULT while the spindle is in FAULT (R41). -/
def bringupTempo (s : State) : State :=
  if mode s = 2 then
    let t := administration s
    let u := if mediaReady t then { t with boot := { t.boot with mediaReads := true } } else t
    putIf (spnState u = 13) Reg.SYS_MODE.MEDIA_FAULT 1 (put Reg.SYS_MODE.STAGE (max (get Reg.SYS_MODE.STAGE u) (milestone u)) u)
  else s

/-! ### Calibration gaps -/

/-- The gaps that the states admit (R478). Gaps 0, 1, 4 and 5 need an actuator in FOLLOW, 2 and 3 one in SETTLE, 6 the optical servo in FOLLOW and OCH
idle. Log entry 109 (DESIGN CHOICE). -/
def gapMask (s : State) : Nat :=
  let f (a st g : Nat) : Nat := if actState a s = st then 2 ^ g else 0
  f 0 4 0 + f 1 4 1 + f 1 3 2 + f 0 3 3 + f 0 4 4 + f 1 4 5

/-- CAL_GAP at a boundary: whether ZMG holds work for an actuator, whether it may move and its rotational wait are not told by state, so of the
gaps 0 to 5 that the states admit those are open that a free value names. Log entry 109 (DESIGN CHOICE). -/
def gapsTempo (s : State) : State :=
  let g := gapMask s &&& freeVal 6 s
  let six := if osvState s = 5 ∧ s.och.job = none ∧ s.och.queue = [] then 64 else 0
  let t := hostEdge s (put Reg.CAL_GAP.OPEN (g + six) s)
  if domOn 2 s then freed (if (levelConds t).contains 898 && !(levelConds s).contains 898 then post 0x702 0 [] t else t) else s

/-! ### The boundary -/

/-- The block of a register is on. -/
def onAt (f : Fld) (s : State) : Bool := domOn (regDomain f.addr) s

/-- A stage link at a boundary (R92): a tempo without a good return frame counts in MISS and ERRORS. Log entry 28 (DESIGN CHOICE). -/
def stageBoundary (l : Nat) (s : State) : State :=
  let r := stgOf l s
  if get (Reg.STG_CTL.EN l) s = 1 then
    if r.arrived then
      puts [(Reg.STG_STAT.LINK_UP l, 1), (Reg.STG_STAT.MISS l, 0)] (setStg l { r with arrived := false, declared := false } s)
    else bumpSat (Reg.STG_STAT.ERRORS l) (bumpSat (Reg.STG_STAT.MISS l) (put (Reg.STG_STAT.LINK_UP l) 0 s))
  else s

/-- A block's share of a boundary, while its domain is on. -/
def share (f : Fld) (g : State → State) (s : State) : State := if onAt f s then g s else s

/-- The sectors that the hops of this tempo's latch mark on each stream, as the permits fall (R157). -/
def hopMarks (s : State) : State :=
  (List.range 5).foldl (fun t n => if (hchOf n t).hopMark then (let u := hopRewind n t; setHch n { hchOf n u with hopMark := false } u) else t) s

/-- Cycle 0: links, assist, servos and motion give their inputs, the engines latch them (R69), and what is counted by tempos counts. Log entry 28 (DESIGN CHOICE). -/
def cycle0 (s : State) : State :=
  let s1 := share (Reg.STG_CTL.EN 0) (fun t => stageBoundary 1 (stageBoundary 0 t)) s
  let s2 := share (Reg.HLK_CTL.EN 0) (fun t => linkBoundary 1 (linkBoundary 0 t)) s1
  let s3 := share Reg.OLK_CTL.EN olkBoundary s2
  let s4 := share (Reg.MOT_AX_CFG.EN 0) motBoundary s3
  let s5 := share Reg.OSV_STAT.STATE osvBoundary s4
  let s6 := share (Reg.CE_CTL.RUN 0) engineBoundary s5
  let s7 := share (Reg.ASX_HSTAT.STATE 0) assistBoundary s6
  let s8 := share Reg.SPN_STAT.STATE spnBoundary s7
  share (Reg.OCH_STAT.STATE) ochBoundary s8

/-- TEMPO_BOUNDARY: the XIN division ends (R65). Log entry 2 (DESIGN CHOICE). -/
def execTempoBoundary (s : State) : Out :=
  let t := phaseNext (putCount (tmpCount s + 1) s)
  let u := gapsTempo (bringupTempo (cycle0 (dividers t)))
  occurs (s.pins.xin = true ∧ s.pins.rails = true) (if domOn 2 u then recorderTempo u else u) s

/-- TEMPO_COUNT_PERSIST: once a second EVR writes TMP_COUNT and the lifetime seconds to MRAM while its domain is on (R65, R462). -/
def execTempoCountPersist (s : State) : Out := occurs (domOn 1 s = true ∧ domOn 2 s = true) (persistTime s) s

/-- PHASE_K_WRITE: a write of TMP_PHASE.K (R68). -/
def execPhaseKWrite (k : Nat) (s : State) : Out := .next (kWrite (k % 16) s)

/-- ALARM_FIRE: at a boundary the count is at or above AT while EN is 1 (R526): FIRED with line 0, and EN clears. -/
def execAlarmFire (s : State) : Out :=
  occurs (get Reg.TMP_ALARM_HI.EN s = 1 ∧ get Reg.TMP_ALARM_LO.AT s + 2 ^ 32 * get Reg.TMP_ALARM_HI.AT s ≤ tmpCount s)
    (linePost 64 Reg.TMP_ALARM_HI.FIRED 1 0 [] (put Reg.TMP_ALARM_HI.EN 0 s)) s

/-! ### The output write -/

/-- The permits of an actuator at the output write (R107, R109, R139, R142): they fall hard where its engine has failed unreplaced, a tripped monitor acts, the rotor is
lost or PFAIL_N is low, soft where the lock is lost; an episode does not outlast FOLLOW (R141). Log entry 208 (DEDUCED). -/
def permitsOutput (s : State) (a : Nat) : State :=
  let r := actOf a s
  let hard := engineDrives a s = false ∨ tripActs a s = true ∨ s.pins.pfailN = false ∨ r.fallPend = some true
  let t := setAct a { r with fallPend := none } s
  let u := if hard then permitsFall a true 2 t else if r.fallPend = some false then permitsFall a false 2 t else t
  if actState a s = 4 then u else endEpisode a 2 (endEpisode a 1 u)

/-- OUTPUT_WRITE: at cycle 3,200 (R69) the outputs are written and state commits, and the falls that wait for it happen. -/
def execOutputWrite (s : State) : Out :=
  let s1 := share (Reg.CE_CTL.RUN 0) engineOutputs s
  let s2 := share (Reg.ASX_HSTAT.STATE 0) (fun t => hopMarks ((List.range 24).foldl assistOutput t)) s1
  let s3 := share (Reg.ACT_STAT.STATE 0) (fun t => [0, 1].foldl permitsOutput t) s2
  let s4 := share (Reg.MOT_AX_CFG.EN 0) (fun t => if t.pins.pfailN then t else bridgesOff t) s3
  .next (share Reg.OSV_STAT.STATE osvOutput s4)

/-- ENGINE_FAILURE: an engine is declared failed (R83). -/
def execEngineFailure (e : Nat) (memoryError : Bool) (s : State) : Out :=
  unit e 5 (occurs (domOn 6 s = true ∧ engineFails e memoryError s = true) (failEngine e s) s)

/-- FOLLOWING_ERROR_TRIP: monitor m of engine e reaches its TIME (R88). -/
def execFollowingErrorTrip (e m : Nat) (s : State) : Out := unit e 5 (unit m 16 (occurs (monitorTrips e m s = true) (monitorTrip e m s) s))

/-! ### The stage links -/

/-- A head's microactuator voltage, clamped to the head's limit (R133). Log entry 31 (DEDUCED). -/
def microVolts (a k : Nat) (s : State) : Nat :=
  let v := toInt 16 (linkSigned (outSlot a k s))
  let h := headOf a k s
  let l : Int := get (Reg.ACT_UA_LIM.LIM h) s
  ofInt 16 (if h < 24 then max (-l) (min v l) else v)

/-- Word w0 (R89): SEQ, the type, SAFE_CLR, RETRACT_REQ and BRAKE_REQ. -/
def word0 (l : Nat) (retract brake : Bool) (s : State) : Nat :=
  tmpCount s % 256 + 256 + 4096 * get (Reg.STG_CTL.SAFE_CLR l) s + 8192 * b2n retract + 16384 * b2n brake

/-- Words w0 to w29 of stage link 0 (R89, R527). Log entry 31 (DEDUCED). -/
def diskFrame (s : State) : List Nat :=
  let o (e g : Nat) : Nat := linkSigned (outSlot e g s)
  let d (g : Nat) : Nat := linkUnsigned (outSlot 2 g s)
  [word0 0 (retractReq s) (brakeReq s) s, phaseWord (bits (ofInt 32 (outSlot 2 0 s)) 16 6) s, d 1, d 2, d 3, o 0 0, o 1 0,
   microVolts 0 1 s, microVolts 0 2 s, microVolts 1 1 s, microVolts 1 2 s,
   headOf 0 1 s % 32 + 32 * (headOf 0 2 s % 32) + 1024 * (headOf 1 1 s % 32), headOf 1 2 s % 32, vmotCeil s, currentLimit (d 4) s]
  ++ List.replicate 15 0

/-- Words w0 to w29 of stage link 1 (R89, R237, R527); OSV holds focus and tracking at 0 where its states say so. -/
def discFrame (s : State) : List Nat :=
  let ret := (stgOf 1 s).words
  let d (g : Nat) : Nat := cappedDuty (linkUnsigned (outSlot 3 g s)) (linkUnsigned (outSlot 3 7 s)) ret s
  [word0 1 false (discBrake s) s, discPhase (bits (ofInt 32 (outSlot 3 2 s)) 16 6) s, d 3, d 4, d 5,
   ofInt 16 (focusCurrent (toInt 16 (linkSigned (outSlot 3 0 s))) s), if trackingOff s then 0 else linkSigned (outSlot 3 1 s), 0]
  ++ bridgeCodes s ++ [bridgeEnables s, vmotCeil s] ++ List.replicate 12 0

/-- STAGE_OUTBOUND_FRAME: one frame per link and tempo at cycle 3,240 (R69, R89); none while a reset has stopped the engines (R59). Log entry 187 (DEDUCED). -/
def execStageOutboundFrame (link : Nat) (s : State) : Out :=
  unit link 2 (occurs (onAt (Reg.STG_CTL.EN link) s = true ∧ get (Reg.STG_CTL.EN link) s = 1 ∧ s.boot.awaitBoot = false)
    (send (.stageFrame link (if link = 0 then diskFrame s else discFrame s)) s) s)

/-- The engines that take a link's return words, with the first of the 13 slots (R527). -/
def returnSlots (link : Nat) : List (Nat × Nat) := if link = 0 then [(2, 8), (0, 24), (1, 24)] else [(3, 32)]

/-- Return words w1 to w13 arrive for the input slots of the next tempo: a word stands in bits 31:16 (R527). -/
def feedReturn (link : Nat) (words : List Nat) (s : State) : State :=
  (returnSlots link).foldl (fun t p => (List.range 13).foldl (fun u i => arrive p.1 (p.2 + i) (toInt 32 (words.getD (i + 1) 0 % 65536 * 65536)) u) t) s

/-- A good return frame: the link's record, STAGE_SAFE, the slots, and what SPN or OSV takes from it (R90, R92, R94). Log entry 27 (DEDUCED). -/
def returnGood (link : Nat) (words : List Nat) (speed angle : Nat) (backward : Bool) (s : State) : State :=
  let w0 := words.getD 0 0
  let r := { stgOf link s with words := words, arrived := true, safe := w0.testBit 12, retractDone := w0.testBit 13 }
  let t := feedReturn link words (setStg link r s)
  let u := if w0.testBit 12 ∧ get (Reg.STG_STAT.STAGE_SAFE link) s = 0 then linePost 450 (Reg.STG_STAT.STAGE_SAFE link) 1 link [] t else t
  if link = 0 then [0, 1].foldl (fun x a => actReturn words a x) (spnReturn (stgOf 0 s).words words speed angle backward u) else osvReturn words speed angle backward (w0.testBit 12) u

/-- STAGE_RETURN_FRAME: words w0 to w29 from a power stage (R90); `good` tells that the CRC checks. A late one is discarded and counted (R70); a
bad one leaves the link's slots missing (R92). The observer's speed and angle are what the frame's measurements give it (R94). Log entries 27 (DEDUCED), 186 (DESIGN CHOICE). -/
def execStageReturnFrame (link : Nat) (words : List Nat) (good late : Bool) (speed angle : Nat) (backward : Bool) (s : State) : Out :=
  let ok := good && words.length == 30 && bits (words.getD 0 0) 8 4 == 2
  unit link 2 (occurs (onAt (Reg.STG_CTL.EN link) s = true ∧ get (Reg.STG_CTL.EN link) s = 1)
    (if late then (returnSlots link).foldl (fun t p => arriveLate p.1 t) s
     else if ok then returnGood link words speed angle backward s
     else s) s)

/-- STAGE_LINK_FAULT: 3 consecutive tempos without a good return frame (R92): write gate and assist drop on link 0, an optical write stops on link
1; FAULT is set with the link's line. Log entry 29 (DEDUCED). -/
def execStageLinkFault (link : Nat) (s : State) : Out :=
  let r := stgOf link s
  let t := linePost (448 + link) (Reg.STG_STAT.FAULT link) 1 link [] (setStg link { r with declared := true } s)
  unit link 2 (occurs (3 ≤ get (Reg.STG_STAT.MISS link) s ∧ r.declared = false)
    (if link = 0 then spnLinkFault (allPermitsFall true t) else osvStageFault (opticalFall true t)) s)

end Sys2Proof.Machine
end

