-- ==== Sys2Proof/Machine/RegWrite.lean ====
section
/-! DEFINITION. What a read and a write of a register do: the access codes (R5, R6), and the registers whose write or read is a command of its own. A word
written goes to the meaning of the register's row where it has one; its other fields act under their access codes. -/

namespace Sys2Proof.Machine

/-- The state that an outcome gives, or the one it started from. -/
def nextOf (o : Out) (s : State) : State :=
  match o with
  | .next t => t
  | _ => s

/-- A meaning that follows where a bit of the word is 1. -/
def onBit (v i : Nat) (f : State → State) (s : State) : State := if v.testBit i then f s else s

/-! ### The access codes -/

/-- A write to a committed lock's fields that would change one of them (R6). -/
def lockedDiffers (addr v : Nat) (s : State) : Bool :=
  isLocked addr s && (fieldsAt addr).any (fun p => p.2 == .rwl && bits v p.1.lo p.1.width != get p.1 s)

/-- A word written field by field under the access codes (R5); one that would change a locked field records code 0x022 (R6). Lines that follow a
field follow it at once (R525). -/
def plainWrite (addr v : Nat) (s : State) : State :=
  let t := hostEdge s (writeWord addr v s)
  if lockedDiffers addr v s then post 0x022 0 (bytesOf 5 addr ++ [0, 0, 0] ++ bytesOf 4 v) t else t

/-- The same with some bits of the word taken as 0: those whose write is an action. -/
def maskedWrite (addr v : Nat) (acts : List Nat) (s : State) : State := plainWrite addr (acts.foldl (fun w i => withBit w i false) v) s

/-! ### SYS, PMU, BOOT and TMP -/

/-- A write of SYS_MODE_REQ (R39, R45). -/
def modeReqWrite (addr v : Nat) (s : State) : State :=
  onBit v 8 (fun t => nextOf (execModeRequest (bits v 0 3) t) t) (maskedWrite addr v [8] s)

/-- A write of PMU_CKPT_CTL (R450, R459). A RESTORED that no RESTORED row brings: which candidates the media hold is open; it comes with no tag sector read and the spare zones known before. Log entry 148 (DESIGN CHOICE). -/
def ckptCtlWrite (v : Nat) (s : State) : State :=
  let t := onBit v 0 (fun u => nextOf (execCheckpointRequest u) u) s
  let found := ((List.range (lostCandidates t).length).filter (fun i => (freeVal (lostCandidates t).length t).testBit i)).map (fun i => (lostCandidates t).getD i (0, 0))
  onBit v 1 (fun u => freed (nextOf (execRestored found [] u.zmg.spares u) u)) t

/-! ### CE -/

/-- The cycle of the tempo at which a write arrives that no row of its own brings: open. Log entry 34 (DESIGN CHOICE). -/
def openCycle (s : State) : Nat := freeVal 16 s % 4000

/-- A write in the windows of CE: the inactive window takes it (R86); the others are read-only. Log entry 34 (DESIGN CHOICE). -/
def ceWindowWrite (addr v : Nat) (s : State) : State :=
  let o := addr - 0x40034000
  if o < 0x5000 then freed (nextOf (execCoefWindowWrite (o / 0x1000) (o % 0x1000 / 4) v (openCycle s) s) s) else s

/-- A read in the windows of CE: coefficient banks by half entries, and state words (R84 for a promoted CE4). -/
def ceWindowRead (addr : Nat) (s : State) : Nat :=
  let o := addr - 0x40034000
  let half (b : AMap Nat) (w : Nat) : Nat := bits (AMap.getD b (w / 2) 0) (32 * (w % 2)) 32
  let bank (e : Nat) (active : Bool) : AMap Nat :=
    if (get (Reg.CE_SWAP.ACTIVE e) s == 1) == active then (ceOf e s).bank1 else (ceOf e s).bank0
  if o < 0x5000 then half (bank (o / 0x1000) false) (o % 0x1000 / 4)
  else if o < 0xA000 then half (bank ((o - 0x5000) / 0x1000) true) (o % 0x1000 / 4)
  else ofInt 32 (AMap.getD (ceOf (watched ((o - 0xA000) / 0x400) s) s).state ((o - 0xA000) % 0x400 / 4) 0)

/-! ### SPN, ACT, ASX, HCH, HLK -/

/-- A write of SPN_CTL (R96, R99, R114). -/
def spnCtlWrite (v : Nat) (s : State) : State := onBit v 3 (fun t => nextOf (execSpnRestart t) t) (spnCtlWritten v s)

/-- A write of ACT_CTL (R125, R138, R144). -/
def actCtlWrite (a addr v : Nat) (s : State) : State :=
  let t := onBit v 0 (fun u => nextOf (execActLoad a u) u) (maskedWrite addr v [0, 1, 2, 3] s)
  let u := onBit v 1 (fun w => nextOf (execActUnload a w) w) t
  onBit v 3 (fun w => nextOf (execActUnpair a w) w) (onBit v 2 (fun w => nextOf (execActClr a w) w) u)

/-- A write of ASX_HCTL (R153, R160, R165, R167). -/
def asxCtlWrite (h v : Nat) (s : State) : State :=
  let on := v.testBit 8
  let t := if on = (get (Reg.ASX_HCTL.FORCE_OFF h) s == 1) then s else nextOf (execForceOffWrite h on s) s
  let u := onBit v 0 (fun w => nextOf (execAssistClr h w) w) t
  onBit v 2 (fun w => nextOf (execRetireDone h w) w) (onBit v 1 (fun w => nextOf (execRetireReq h w) w) u)

/-- A write of HCH_CTL (R200): FAIL asks for the stream's failure. -/
def hchCtlWrite (n addr v : Nat) (s : State) : State :=
  onBit v 2 (fun t => setHch n { hchOf n t with failReq := true } t) (maskedWrite addr v [2] s)

/-- A write of HCH_TP_CTL (R184): not taken while a copy runs. Log entry 47 (DEDUCED). -/
def tpCtlWrite (v : Nat) (s : State) : State :=
  let n := bits v 0 3
  if get Reg.HCH_TP_CTL.BUSY s = 1 then s
  else
    let t := puts [(Reg.HCH_TP_CTL.STREAM, n), (Reg.HCH_TP_CTL.COUNT, bits v 8 5)] s
    if v.testBit 5 then nextOf (execParityClear n t) t
    else if v.testBit 3 then nextOf (execParitySave n t) t
    else if v.testBit 4 then nextOf (execParityLoad n t) t
    else t

/-- A write of HLK_CTL or OLK_CTL: RETRAIN starts training (R174). -/
def hlkCtlWrite (l addr v : Nat) (s : State) : State :=
  onBit v 2 (fun t => setHlk l { hlkOf l t with retrain := true } t) (maskedWrite addr v [2] s)
def olkCtlWrite (addr v : Nat) (s : State) : State := onBit v 1 (fun t => setOlk { t.olk with retrain := true } t) (maskedWrite addr v [1] s)

/-! ### ZMG, OSV, OCH, MOT -/

/-- A write of ZMG_NS_CFG (R203, R204): a changed TYPE or LBAF creates or deletes the namespace, at physical zones that no rule gives. Log entry 51 (DESIGN CHOICE). -/
def nsCfgWrite (n v : Nat) (s : State) : State :=
  let t := if bits v 0 3 = get (Reg.ZMG_NS_CFG.TYPE n) s ∧ bits v 3 1 = get (Reg.ZMG_NS_CFG.LBAF n) s then s
    else freed (nextOf (execNamespaceCreate n v (freeVal 19 s) false s) s)
  nextOf (execNamespaceAttach n (bits v (Reg.ZMG_NS_CFG.PORTS n).lo 4) t) t

/-- A write of OSV_CMD (R257): GO submits OP; an OP outside 1 to 4 is refused. -/
def osvCmdWrite (addr v : Nat) (s : State) : State :=
  let t := maskedWrite addr v [8] s
  let op := bits v 0 3
  onBit v 8 (fun u => if op = 1 then nextOf (execOsvMount u) u else if op = 2 then nextOf (execOsvSeek u) u else if op = 3 then nextOf (execOsvPark u) u
    else if op = 4 then nextOf (execOsvClr u) u else put Reg.OSV_CMD.REFUSED 1 u) t

/-- A write of OSV_DSPIN (R254). -/
def dspinWrite (v : Nat) (s : State) : State :=
  let t := nextOf (execDiscTargetWrite (bits v 0 14) s) s
  onBit v 14 (fun u => nextOf (execDiscClr u) u) (put Reg.OSV_DSPIN.ILIM (bits v 16 16) t)

/-- A write of OCH_CTL (R281) and of OCH_CMD (R278): another OP than 1 to 4 is refused. -/
def ochCtlWrite (addr v : Nat) (s : State) : State := onBit v 3 (fun t => nextOf (execOchAbort t) t) (maskedWrite addr v [3] s)
def ochCmdWrite (addr v : Nat) (s : State) : State :=
  let t := maskedWrite addr v [8] s
  let op := bits v 0 3
  onBit v 8 (fun u => if 1 ≤ op ∧ op ≤ 4 then ochSubmit op u else put Reg.OCH_CMD.REFUSED 1 u) t

/-- A write of MOT_GRP_CMD (R304, R305): without PUSH its fields are stored. -/
def grpCmdWrite (g v : Nat) (s : State) : State :=
  if v.testBit 31 = false then cmdWord g v s
  else if v.testBit 4 then nextOf (execMovePushReplace g v s) s
  else match bits v 1 2 with
    | 0 => nextOf (execMovePushNormal g v s) s
    | 1 => nextOf (execMovePushHome g v s) s
    | 2 => nextOf (execMovePushTest g v s) s
    | _ => nextOf (execMovePushRecovery g v s) s

/-- A write of MOT_GRP_CTL (R311). -/
def grpCtlWrite (g addr v : Nat) (s : State) : State :=
  let t := onBit v 0 (fun u => nextOf (execGroupStop g u) u) (maskedWrite addr v [0, 1] s)
  onBit v 1 (fun u => nextOf (execEmergencyStop g u) u) t

/-! ### SEAL, DMA, FIF, TCH, FAB, EVR, SPR -/

/-- A write of SEAL_CERT_CTL or of the certificate (R331): both are read-only once SET. -/
def certCtlWrite (v : Nat) (s : State) : State :=
  if get Reg.SEAL_CERT_CTL.SET s = 1 then s
  else onBit v 13 (fun t => nextOf (execCertCommit t) t) (put Reg.SEAL_CERT_CTL.LEN (bits v 0 12) s)
def certWrite (addr v : Nat) (s : State) : State := if get Reg.SEAL_CERT_CTL.SET s = 1 then s else plainWrite addr v s

/-- A write of DMA_CTL (R399, R402). -/
def dmaCtlWrite (c v : Nat) (s : State) : State :=
  let t := onBit v 30 (fun u => nextOf (execDmaAbort c u) u) s
  if v.testBit 31 then nextOf (execDmaGo c v t) t else dmaCtl c v t

/-- A write of FIF_CTL (R408, R409). -/
def fifCtlWrite (f v : Nat) (s : State) : State :=
  let t := onBit v 0 (fun u => nextOf (execFifoFlush f u) u) s
  onBit v 2 (fun u => nextOf (execFifoRewind f u) u) (onBit v 1 (fun u => nextOf (execFifoMark f u) u) t)

/-- A write of TCH_RANGE_OP (R414). -/
def rangeOpWrite (v : Nat) (s : State) : State :=
  let t := puts [(Reg.TCH_RANGE_OP.OP, bits v 0 3), (Reg.TCH_RANGE_OP.WAYS, bits v 4 16)] s
  onBit v 31 (tchGo (bits v 0 3) (bits v 4 16)) t

/-- A write of FAB_CFG (R423, R424): NODE is written only while EN is 0, and a new one ends a withdrawal; once EN is 1 the descriptors that wait
are started (R437). -/
def fabCfgWrite (addr v : Nat) (s : State) : State :=
  let old := get Reg.FAB_CFG.NODE s
  let t := plainWrite addr v s
  if get Reg.FAB_CFG.EN s = 1 then put Reg.FAB_CFG.NODE old t
  else
    let u := if get Reg.FAB_CFG.NODE t = old then t else put Reg.FAB_STAT.WITHDRAWN 0 t
    if get Reg.FAB_CFG.EN u = 1 ∧ nodeActive u = true then startReqs 256 u else u

/-- A write of FAB_PORT_STAT: RETRAIN starts training (R422, R432). -/
def fabPortWrite (p addr v : Nat) (s : State) : State :=
  onBit v 3 (fun t => trainStart p (put (Reg.FAB_PORT_STAT.TRIES p) 0 t)) (maskedWrite addr v [3] s)

/-- A write of FAB_RT (R429): the entry's age starts anew; requests to an entry that it makes invalid end with 7/03 (R438). Log entry 143 (DEDUCED). -/
def routeWrite (id addr v : Nat) (s : State) : State :=
  let t := refresh id (plainWrite addr v s)
  if get (Reg.FAB_RT.VALID id) s = 1 ∧ get (Reg.FAB_RT.VALID id) t = 0 then
    (t.fab.reqs.filter (fun r => r.frame.dst == id)).foldl (fun u r => endReq r 0x703 0 u) t
  else t

/-- A write of SPR_CORE (R481): RETIRE bits retire cores, a SEL other than the present one is a selection. Log entry 151 (DEDUCED). -/
def sprCoreWrite (v : Nat) (s : State) : State :=
  let t := if bits v 4 9 = 0 then s else nextOf (execCoreRetire (bits v 4 9) s) s
  if bits v 0 4 = get Reg.SPR_CORE.SEL s then t else nextOf (execCore8Select (bits v 0 4) t) t

/-! ### The registers of their own -/

/-- The index of a register of one index or none at an address. -/
def regIdx (d : RegDesc) (addr : Nat) : Option Nat :=
  if !covers d addr then none
  else match d.dims with
    | [] => some 0
    | (_, w) :: _ => some ((addr - d.base) / w)

/-- The registers whose write is an action, with it: the index, the address, the word. `m` is the master that writes. -/
def ownWrites (m : Nat) : List (RegDesc × (Nat → Nat → Nat → State → State)) :=
  [(Reg.SYS_IRQ_DONE.desc, fun c _ v s => nextOf (execIrqDone c (bits v 0 16) s) s),
   (Reg.SYS_IRQ_ROUTE.desc, fun n _ v s => nextOf (execIrqRouteWrite n v s) s),
   (Reg.SYS_MODE_REQ.desc, fun _ a v => modeReqWrite a v),
   (Reg.SYS_SW_RESET.desc, fun _ _ v s => nextOf (execSoftwareReset v s) s),
   (Reg.SYS_GPIO_SET.desc, fun _ _ v s => put Reg.SYS_GPIO_OUT.OUT (get Reg.SYS_GPIO_OUT.OUT s ||| bits v 0 16) s),
   (Reg.SYS_GPIO_CLR.desc, fun _ _ v s => put Reg.SYS_GPIO_OUT.OUT (get Reg.SYS_GPIO_OUT.OUT s - (get Reg.SYS_GPIO_OUT.OUT s &&& bits v 0 16)) s),
   (Reg.PMU_DOM_CTL.desc, fun _ _ v s => nextOf (execDomainCtlWrite (bits v 0 24) s) s),
   (Reg.PMU_CKPT_CTL.desc, fun _ _ v => ckptCtlWrite v),
   (Reg.PMU_CKPT_CFG.desc, fun _ _ v => ckptCfgWrite v),
   (Reg.TMP_PHASE.desc, fun _ _ v s => nextOf (execPhaseKWrite (bits v 0 4) s) s),
   (Reg.CE_SWAP.desc, fun e _ v s => onBit v 0 (fun t => freed (nextOf (execSwapRequest e (openCycle t) t) t)) s),
   (Reg.CE_SPARE.desc, fun _ _ v => spareWritten v),
   (Reg.SPN_TARGET.desc, fun _ _ v s => nextOf (execSpnTargetWrite (bits v 0 16) s) s),
   (Reg.SPN_CTL.desc, fun _ _ v => spnCtlWrite v),
   (Reg.SPN_CURVE.desc, fun _ a v s => evalCurve (plainWrite a v s)),
   (Reg.SPN_CURVE_STAT.desc, fun _ a v s => evalCurve (plainWrite a v s)),
   (Reg.ACT_CTL.desc, fun a x v => actCtlWrite a x v),
   (Reg.ACT_SEEK.desc, fun a _ v s => nextOf (execSeekGo a v s) s),
   (Reg.ASX_HCTL.desc, fun h _ v => asxCtlWrite h v),
   (Reg.ASX_IOP0.desc, fun h _ v s => nextOf (execIop0Write h v s) s),
   (Reg.HCH_CTL.desc, fun n a v => hchCtlWrite n a v),
   (Reg.HCH_TP_CTL.desc, fun _ _ v => tpCtlWrite v),
   (Reg.HLK_CTL.desc, fun l a v => hlkCtlWrite l a v),
   (Reg.HLK_CC_REQ.desc, fun l _ v s => nextOf (execControlChannelReq l v s) s),
   (Reg.ZMG_NS_CFG.desc, fun n _ v => nsCfgWrite n v),
   (Reg.OSV_CMD.desc, fun _ a v => osvCmdWrite a v),
   (Reg.OSV_DSPIN.desc, fun _ _ v => dspinWrite v),
   (Reg.OCH_CTL.desc, fun _ a v => ochCtlWrite a v),
   (Reg.OCH_CMD.desc, fun _ a v => ochCmdWrite a v),
   (Reg.OLK_CTL.desc, fun _ a v => olkCtlWrite a v),
   (Reg.OLK_CC_REQ.desc, fun _ _ v s => nextOf (execControlChannelReq 2 v s) s),
   (Reg.MOT_GRP_CMD.desc, fun g _ v => grpCmdWrite g v),
   (Reg.MOT_GRP_CTL.desc, fun g a v => grpCtlWrite g a v),
   (Reg.MOT_AX_VEL.desc, fun a _ v s => nextOf (execMotionLimitWrite a 1 v s) s),
   (Reg.MOT_AX_ACC.desc, fun a _ v s => nextOf (execMotionLimitWrite a 2 v s) s),
   (Reg.MOT_AX_LIM2.desc, fun a _ v s => nextOf (execMotionLimitWrite a 3 v s) s),
   (Reg.MOT_AX_CFG.desc, fun _ a v s => motShow (plainWrite a v s)),
   (Reg.SEAL_PROV.desc, fun _ _ v s => nextOf (execKeyGenerate v s) s),
   (Reg.SEAL_CERT_CTL.desc, fun _ _ v => certCtlWrite v),
   (Reg.SEAL_CERT.desc, fun _ a v => certWrite a v),
   (Reg.SEAL_NS_RET.desc, fun n _ v s => nextOf (execRetentionWrite n v s) s),
   (Reg.CMD_LWL_IDX.desc, fun _ a v s => showLost (plainWrite a v s)),
   (Reg.MEM_FLIP_CTL.desc, fun _ _ v s => nextOf (execFlipArm v s) s),
   (Reg.DMA_CTL.desc, fun c _ v => dmaCtlWrite c v),
   (Reg.FIF_CFG.desc, fun f _ v s => nextOf (execFifoCfgWrite f v s) s),
   (Reg.FIF_CTL.desc, fun f _ v => fifCtlWrite f v),
   (Reg.FIF_PUSH.desc, fun f a v s => nextOf (execFifoPush f ((a - Reg.FIF_PUSH.desc.base) % 64 / 4) v s) s),
   (Reg.TCH_CTL.desc, fun _ _ v s => nextOf (execTchEnableWrite (v.testBit 0) s) s),
   (Reg.TCH_RANGE_OP.desc, fun _ _ v => rangeOpWrite v),
   (Reg.FAB_CFG.desc, fun _ a v => fabCfgWrite a v),
   (Reg.FAB_PORT_STAT.desc, fun p a v => fabPortWrite p a v),
   (Reg.FAB_RT.desc, fun i a v => routeWrite i a v),
   (Reg.FAB_RING_CTL.desc, fun _ _ v s => nextOf (execRingHeadAdvance (bits v 0 8) s) s),
   (Reg.EVR_STAT.desc, fun _ _ v s => onBit v 16 (fun t => setEvr { t.evr with lost := 0 } t) s),
   (Reg.EVR_WALL_LO.desc, fun _ _ v s => setEvr { s.evr with wallLow := v % 2 ^ 32 } s),
   (Reg.EVR_WALL_HI.desc, fun _ _ v s => nextOf (execTimeSet v s) s),
   (Reg.EVR_PORT_CMD.desc, fun p _ v s => nextOf (execEventPost p m v s) s),
   (Reg.CAL_DONE.desc, fun _ _ v s => nextOf (execCalDone v s) s),
   (Reg.SPR_CORE.desc, fun _ _ v => sprCoreWrite v),
   (Reg.SPR_DISC.desc, fun _ _ v s => onBit v 13 (fun t => nextOf (execSpareDiscPromote 1 t) t) (onBit v 12 (fun t => nextOf (execSpareDiscPromote 0 t) t) s)),
   (Reg.BOOT_KEY_REVOKE.desc, fun _ _ v s => nextOf (execKeyRevoke v s) s)]

/-- A register word is written by a master. -/
def writeReg (m addr v : Nat) (s : State) : State :=
  if ceWindow addr then ceWindowWrite addr v s
  else match (ownWrites m).find? (fun p => covers p.1 addr) with
    | some p => p.2 ((regIdx p.1 addr).getD 0) addr v s
    | none => plainWrite addr v s

/-- The levels at the GPIO balls (SYS_GPIO_IN, R497): a push-pull output gives its level, an open drain pulls to 0; what another party drives, or a ball
that nothing pulls down, is open. Log entry 160 (DESIGN CHOICE). -/
def ballLevels (s : State) : Nat :=
  (List.range 16).foldl (fun v n =>
    let out := bit Reg.SYS_GPIO_OUT.OUT n s
    let outside := (freeVal 16 s).testBit n
    withBit v n
      (match get (Reg.SYS_PAD_CFG.FUNC n) s with
       | 1 => out
       | 2 => out && outside
       | 3 => outside && !(n == 3 && s.cmd.ctxs.any (·.started))
           && !(n == 4 && (get Reg.SPN_FAULT.FAULT s == 1 || get Reg.SYS_MODE.MEDIA_FAULT s == 1))
       | _ => outside)) 0

/-- A register word is read by a master: its value, and the state after it. Reads of claims, FIFO pops and log entries act (R27, R406, R141), a pair's lower
half latches (R9). Log entry 22 (DESIGN CHOICE). -/
def readReg (m addr : Nat) (s : State) : Nat × State :=
  if ceWindow addr then (ceWindowRead addr s, s)
  else if covers Reg.SYS_IRQ_CLAIM.desc addr then
    let c := (addr - Reg.SYS_IRQ_CLAIM.desc.base) / 16
    ((offered c s).getD 0xFFFF, claim c s)
  else if covers Reg.FIF_POP.desc addr then fifPop ((addr - Reg.FIF_POP.desc.base) / 64) s
  else if covers Reg.ACT_WUS_LOG_HI.desc addr then
    let a := (addr - Reg.ACT_WUS_LOG_HI.desc.base) / 256
    ((pairedRead m addr s).1, wusRead a m s)
  else if covers Reg.SYS_GPIO_IN.desc addr then (ballLevels s, freed s)
  else if covers Reg.ZMG_JRNL.desc addr then pairedRead m addr (put Reg.ZMG_JRNL.FILL (journalFill s) s)
  else if covers Reg.TCH_DIAG_DATA.desc addr then (diagWord ((addr - Reg.TCH_DIAG_DATA.desc.base) / 4) s, s)
  else if covers Reg.TCH_DIAG_TAG.desc addr then (peekWord addr (showDiag s), showDiag s)
  else pairedRead m addr s

end Sys2Proof.Machine
end

