-- ==== Sys2Proof/Machine/Access.lean ====
section
/-! DEFINITION. Accesses (R16 to R25): register writes, BAR2 requests, DMA bursts (R399 to R403) and remote register access (R436); the boot ROM's register
presets, which are such writes (R51, R56). -/

namespace Sys2Proof.Machine

/-! ### One access -/

/-- One access by a master, judged as a whole (R16): an error response, or its effect and answer. `path` tells whether its path is open (R24). -/
def access (path : Bool) (m addr len : Nat) (write : Bool) (data : List Nat) (ups : List Upset) (s : State) : State :=
  match accessCause path addr len write s with
  | some c => busError m addr c write s
  | none =>
    let t := ups.foldl meetUpset s
    if within regSpace addr 1 then
      if write then respond .done (writeReg m addr (ofBytes (data.take 4)) t)
      else respond (.data (bytesOf 4 (readReg m addr t).1) false) (readReg m addr t).2
    else if write then respond .done (busStore m addr ((data ++ List.replicate len 0).take len) t)
    else
      let u := busLoad m addr len t
      respond (.data (busBytes addr len u).1 (busBytes addr len u).2) u

/-- REGISTER_WRITE: a master writes register space (R4, R5). -/
def execRegisterWrite (master addr size value : Nat) (s : State) : Out :=
  occurs (within regSpace addr 1 = true) (access (pathOpen master s) master addr size true (bytesOf size value) [] s) s

/-- LOCK_COMMIT: a write with 1 in the LOCK bit of a register that holds one (R6). -/
def execLockCommit (master addr value : Nat) (s : State) : Out :=
  occurs (value.testBit 31 = true ∧ (match lockOf addr with | none => false | some f => f.addr == addr) = true)
    (access (pathOpen master s) master addr 4 true (bytesOf 4 value) [] s) s

/-- BAR2_REQUEST: a request TLP on BAR2 while its window is implemented and the link is up (R22, R341). An error-responded read is a Completer Abort, an
error-responded write is dropped: the bus answer tells. -/
def execBar2Request (addr len : Nat) (write : Bool) (data : List Nat) (ups : List Upset) (s : State) : Out :=
  occurs (get Reg.HPC_CFG.BAR2_IMPL s = 1 ∧ get Reg.HPC_LINK.UP s = 1) (access (pathOpen 10 s) 10 addr len write data ups s) s

/-- MEMORY_ACCESS: a transfer by a master (R16, R18), judged as a whole, with its checks (R389 to R391). HPC and FAB also move data of
their own, so of the paths of R24 only JTAG's closes this row: BAR2_REQUEST and REG are rows of their own. Log entry 22 (DESIGN CHOICE). -/
def execMemoryAccess (master addr len : Nat) (write : Bool) (data : List Nat) (ups : List Upset) (s : State) : Out :=
  .next (access (master != 14 || pathOpen 14 s) master addr len write data ups s)

/-! ### Remote register access -/

/-- The accesses of a REG request (R529): a register word, or what the request covers of a naturally aligned 32-byte block. -/
def regPieces : (n a left : Nat) → List (Nat × Nat)
  | 0, _, _ => []
  | n + 1, a, left =>
    if left = 0 then []
    else
      let k := min left (if within regSpace a 1 then 4 else 32 - a % 32)
      (a, k) :: regPieces n (a + k) (left - k)

/-- Accesses of a REG request one after another, up to the first error response (R436): the bytes completed, the data read, and the cause that ended it. -/
def regAccesses (write : Bool) (ups : List Upset) : (l : List (Nat × Nat)) → (data : List Nat) → State → Nat × List Nat × Option Nat × State
  | [], _, s => (0, [], none, s)
  | (addr, k) :: l, data, s =>
    let t := access (pathOpen 13 s) 13 addr k write (data.take k) ups s
    match t.sys.resp with
    | .error c => (0, [], some c, t)
    | .data b _ =>
      let r := regAccesses write [] l (data.drop k) t
      (k + r.1, b ++ r.2.1, r.2.2.1, r.2.2.2)
    | _ =>
      let r := regAccesses write [] l (data.drop k) t
      (k + r.1, r.2.1, r.2.2.1, r.2.2.2)

/-- REG: a remote register access (R436, R529): up to 256 bytes in ascending order; the response carries 7/10 plus the cause at the first error
response, P2 the bytes completed and zero data for the rest. Log entry 142 (DEDUCED). -/
def regServed (f : Frame) (ups : List Upset) (s : State) : State :=
  let write := f.p1.testBit 63
  let n := min f.p2 256
  let r := regAccesses write ups (regPieces n (bits f.p1 0 40) n) f.payload s
  let body := if write then [] else (r.2.1 ++ List.replicate n 0).take n
  respondTo f.src 0x18 f.tag (match r.2.2.1 with | none => 0 | some c => 0x710 + c) 0 r.1 body true r.2.2.2

/-- REG: the frame to this node (R436). Log entry 142 (DEDUCED). -/
def execRegFrame (port seq : Nat) (wire : List Nat) (ups : List Upset) (s : State) : Out := onLocal port seq wire 0x18 (regServed (frameOf wire) ups) s

/-! ### DMA bursts -/

/-- Aligned 4-byte reads at one address for n bytes (R399): bytes with their poison, none at an error response. -/
def fixedReads (a : Nat) (ups : List Upset) : (n : Nat) → List (Nat × Bool) × Bool × State → List (Nat × Bool) × Bool × State
  | 0, x => x
  | n + 1, (l, ok, s) =>
    if ok then
      let t := access true 9 a 4 false [] ups s
      match t.sys.resp with
      | .data b p => fixedReads a [] n (l ++ b.map (fun y => (y, p)), true, t)
      | _ => fixedReads a [] n (l, false, t)
    else fixedReads a [] n (l, ok, s)

/-- The read of a burst (R399): up to 1 KiB of what is left, whole or in words at a fixed address. -/
def burstRead (c : Nat) (ups : List Upset) (s : State) : List (Nat × Bool) × Bool × State :=
  let r := dmaOf c s
  let n := min 1024 (r.size - r.got)
  if get (Reg.DMA_CTL.SRC_FIX c) s = 1 then
    let q := fixedReads r.src ups ((n + 3) / 4) ([], true, s)
    (q.1.take n, q.2.1, q.2.2)
  else
    let a := r.src + r.got
    let t := access true 9 a n false [] ups s
    match t.sys.resp with
    | .data b _ => ((List.range b.length).map (fun i => (b.getD i 0, t.poison.contains ((a + i) / 8 * 8))), true, t)
    | _ => ([], false, t)

/-- Words written at one address. -/
def fixedWrites (a : Nat) : (n : Nat) → (l : List Nat) → Bool × State → Bool × State
  | 0, _, x => x
  | n + 1, l, (ok, s) =>
    if ok then
      let t := access true 9 a 4 true ((l ++ [0, 0, 0]).take 4) [] s
      fixedWrites a n (l.drop 4) (t.sys.resp == .done, t)
    else (ok, s)

/-- The write of staged bytes (R399, R401, R402): the burst is judged whole, the beats asked for are written; words from poisoned sources are poisoned. Log entry 104 (DEDUCED). -/
def burstWrite (c beats : Nat) (s : State) : Bool × State :=
  let r := dmaOf c s
  if get (Reg.DMA_CTL.DST_FIX c) s = 1 then
    let l := (r.stag.take (4 * beats)).map (·.1)
    fixedWrites r.dst ((l.length + 3) / 4) l (true, s)
  else
    let a := r.dst + r.wrote
    match accessCause true a r.stag.length true s with
    | some e => (false, busError 9 a e true s)
    | none =>
      let l := r.stag.take (32 * beats)
      let t := access true 9 a l.length true (l.map (·.1)) [] s
      (t.sys.resp == .done, if within regSpace a 1 then t else poisonRange a (l.map (·.2)) t)

/-- The channel's record after its beats, and the mover passed on at a burst's end (R400, R401). Log entry 104 (DEDUCED). -/
def burstTaken (c beats : Nat) (s : State) : State :=
  let r := dmaOf c s
  let n := min r.stag.length (if get (Reg.DMA_CTL.DST_FIX c) s = 1 then 4 * beats else 32 * beats)
  let l := r.stag.take n
  let t := setDma c { r with stag := r.stag.drop n, wrote := r.wrote + n, crc := crcRun (crcKind c s) r.crc (l.map (·.1)) } s
  let u := put (Reg.DMA_REMAIN.BYTES c) (r.size - (r.wrote + n)) t
  if r.stag.length ≤ n ∧ r.wrote + n < r.size then fillMovers (put (Reg.DMA_STAT.STATE c) 2 u) else u

/-- DMA_BURST: a channel on a mover reads up to 1 KiB into its staging buffer where that is empty, and writes some beats of it out (R399). Any error response
ends the block with code 2. -/
def execDmaBurst (c beats : Nat) (ups : List Upset) (s : State) : Out :=
  let r := dmaOf c s
  let q := if r.stag.isEmpty then burstRead c ups s else (r.stag, true, s)
  let t := if r.stag.isEmpty then
      setDma c { r with stag := q.1, got := r.got + q.1.length, bad := r.bad || q.1.any (·.2) } q.2.2
    else q.2.2
  let w := burstWrite c beats t
  unit c 32 (occurs (dmaState c s = 1 ∧ r.wrote < r.size)
    (if !q.2.1 then dmaEnd c 2 q.2.2 else if w.1 then burstTaken c beats w.2 else dmaEnd c 2 w.2) s)

/-- DMA_BLOCK_END: a block has reached its count (R401 to R403): its CRC is stored as the last write, and the end code follows. Log entry 102 (DEDUCED). -/
def execDmaBlockEnd (c : Nat) (s : State) : Out :=
  let r := dmaOf c s
  let k := crcKind c s
  let fix := get (Reg.DMA_CTL.DST_FIX c) s == 1
  let l := bytesOf (crcLen k) (crcFinal k r.crc)
  let w := if get (Reg.DMA_CTL.CRC_STORE c) s = 0 ∨ k = 0 then (true, s)
    else if fix then fixedWrites r.dst (l.length / 4) l (true, s)
    else
      let t := access true 9 (r.dst + r.size) l.length true l [] s
      (t.sys.resp == .done, t)
  unit c 32 (occurs (dmaState c s = 1 ∧ r.size ≤ r.wrote) (if w.1 then dmaDone c w.2 else dmaEnd c 2 w.2) s)

/-! ### The boot ROM's writes -/

/-- A register preset (R56): one that meets an error response records an event, and the next follows. Log entry 144 (DEDUCED). -/
def preset (s : State) (p : Nat × Nat) : State :=
  match accessCause true p.1 4 true s with
  | some c => post 0x7A0 0 (bytesOf 5 p.1 ++ [0, 0, 0] ++ bytesOf 4 p.2) (busError 19 p.1 c true s)
  | none => access true 19 p.1 4 true (bytesOf 4 p.2) [] s

/-- BOOT_START: the later of the release of RESET_N and 100 ms of PFAIL_N high (R51). -/
def execBootStart (pfailHighMs : Nat) (s : State) : Out :=
  occurs (s.boot.awaitBoot = true ∧ s.pins.resetN = true ∧ s.pins.rails = true ∧ s.pins.pwrOk = true ∧ s.pins.xin = true ∧ s.pins.pll = true
      ∧ mode s ≠ 5 ∧ 100 ≤ pfailHighMs)
    (bootRom preset (romRuns (bringupEvents { s with pins := { s.pins with pfailN := true } }))) s

/-- FIRMWARE_COMMIT: verifies the download under R55 and, without activation, makes it PREF as a trial (R353, R62's preface); with no image running
it is booted at once (R50). Log entries 118 (DEDUCED), 175 (DESIGN CHOICE), 178 (DEDUCED). -/
def execFirmwareCommit (path : Port) (activate : Bool) (s : State) : Out :=
  match s.boot.session with
  | none => occurs (adminServed path s = true) (send (adminMsg path .sequenceError) s) s
  | some (q, l) =>
    let k := otherSlot s
    let t := setBoot { s.boot with session := none } s
    let u := setBoot (if k = 0 then { t.boot with slotA := l, staged := some 0 } else { t.boot with slotB := l, staged := some 1 }) t
    let v := send (adminMsg path .success) (if activate ∧ !s.boot.recovery then u else putRec ⟨k, 1, 0, 0⟩ u)
    occurs (adminServed path s = true)
      (if q ≠ path then send (adminMsg path .sequenceError) s
       else if (imageOf s.boot.fuses l).isNone then send (adminMsg path .invalidField) t
       else if s.boot.recovery then bootRom preset v else v) s

end Sys2Proof.Machine
end

