-- ==== Sys2Proof/Machine/Dispatch.lean ====
section
/-! DEFINITION. The dispatch of commands to their meanings, one arm per constructor, in the order of the opcode table. -/

namespace Sys2Proof.Machine

def exec (i : Instr) (s : State) : Host.Outcome State Fault Refusal :=
  match i with
  | .registerWrite master addr size value => Sys2Proof.Machine.execRegisterWrite master addr size value s
  | .lockCommit master addr value => Sys2Proof.Machine.execLockCommit master addr value s
  | .memoryAccess master addr len write data ups => Sys2Proof.Machine.execMemoryAccess master addr len write data ups s
  | .pairedRegisterReadLatch master addr => Sys2Proof.Machine.execPairedRegisterReadLatch master addr s
  | .bar2Request addr len write data ups => Sys2Proof.Machine.execBar2Request addr len write data ups s
  | .irqClaim ctx => Sys2Proof.Machine.execIrqClaim ctx s
  | .irqDone ctx src => Sys2Proof.Machine.execIrqDone ctx src s
  | .irqRouteWrite src value => Sys2Proof.Machine.execIrqRouteWrite src value s
  | .xinLoss gapNs => Sys2Proof.Machine.execXinLoss gapNs s
  | .pllLossOfLock pll unlockedNs => Sys2Proof.Machine.execPllLossOfLock pll unlockedNs s
  | .clockLossReboot xinValidMs => Sys2Proof.Machine.execClockLossReboot xinValidMs s
  | .pcieRefclkLoss gapNs => Sys2Proof.Machine.execPcieRefclkLoss gapNs s
  | .calrefGateEnd ppm => Sys2Proof.Machine.execCalrefGateEnd ppm s
  | .powerOnReset => Sys2Proof.Machine.execPowerOnReset s
  | .resetNAssert lowNs => Sys2Proof.Machine.execResetNAssert lowNs s
  | .resetNRelease straps => Sys2Proof.Machine.execResetNRelease straps s
  | .bootStart pfailHighMs => Sys2Proof.Machine.execBootStart pfailHighMs s
  | .trialTimerExpiry elapsedMs => Sys2Proof.Machine.execTrialTimerExpiry elapsedMs s
  | .softwareReset value => Sys2Proof.Machine.execSoftwareReset value s
  | .modeRequest target => Sys2Proof.Machine.execModeRequest target s
  | .heldModeRequestTaken => Sys2Proof.Machine.execHeldModeRequestTaken s
  | .serviceEntry => Sys2Proof.Machine.execServiceEntry s
  | .quiesceEntry => Sys2Proof.Machine.execQuiesceEntry s
  | .standbyDomainsOff => Sys2Proof.Machine.execStandbyDomainsOff s
  | .wakeEvent src => Sys2Proof.Machine.execWakeEvent src s
  | .pfailAssert lowNs => Sys2Proof.Machine.execPfailAssert lowNs s
  | .rescueReturn highMs => Sys2Proof.Machine.execRescueReturn highMs s
  | .pwrOkFall => Sys2Proof.Machine.execPwrOkFall s
  | .pwrOkRise => Sys2Proof.Machine.execPwrOkRise s
  | .railsLost => Sys2Proof.Machine.execRailsLost s
  | .keyRevoke value => Sys2Proof.Machine.execKeyRevoke value s
  | .keyRevokeDone => Sys2Proof.Machine.execKeyRevokeDone s
  | .firmwareDownload path offset data => Sys2Proof.Machine.execFirmwareDownload path offset data s
  | .firmwareCommit path activate => Sys2Proof.Machine.execFirmwareCommit path activate s
  | .downloadSessionTimeout idleMs => Sys2Proof.Machine.execDownloadSessionTimeout idleMs s
  | .firmwareActivate path => Sys2Proof.Machine.execFirmwareActivate path s
  | .activationDrainEnd drainMs => Sys2Proof.Machine.execActivationDrainEnd drainMs s
  | .activationDrainTimeout drainMs => Sys2Proof.Machine.execActivationDrainTimeout drainMs s
  | .activationReset => Sys2Proof.Machine.execActivationReset s
  | .tempoBoundary => Sys2Proof.Machine.execTempoBoundary s
  | .tempoCountPersist => Sys2Proof.Machine.execTempoCountPersist s
  | .phaseKWrite k => Sys2Proof.Machine.execPhaseKWrite k s
  | .alarmFire => Sys2Proof.Machine.execAlarmFire s
  | .wedgeLatch => Sys2Proof.Machine.execWedgeLatch s
  | .outputWrite => Sys2Proof.Machine.execOutputWrite s
  | .stageOutboundFrame link => Sys2Proof.Machine.execStageOutboundFrame link s
  | .stageReturnFrame link words good late speed angle backward => Sys2Proof.Machine.execStageReturnFrame link words good late speed angle backward s
  | .stageLinkFault link => Sys2Proof.Machine.execStageLinkFault link s
  | .hecelNop e pred a c => Sys2Proof.Machine.execHecelNop e pred a c s
  | .hecelClr e pred a c => Sys2Proof.Machine.execHecelClr e pred a c s
  | .hecelMac e pred a c => Sys2Proof.Machine.execHecelMac e pred a c s
  | .hecelMsu e pred a c => Sys2Proof.Machine.execHecelMsu e pred a c s
  | .hecelLda e pred a c => Sys2Proof.Machine.execHecelLda e pred a c s
  | .hecelSt e pred a c => Sys2Proof.Machine.execHecelSt e pred a c s
  | .hecelOut e pred a c => Sys2Proof.Machine.execHecelOut e pred a c s
  | .hecelLim e pred a c => Sys2Proof.Machine.execHecelLim e pred a c s
  | .hecelTfetch e pred a c inTime => Sys2Proof.Machine.execHecelTfetch e pred a c inTime s
  | .tfetchReturn e cycles => Sys2Proof.Machine.execTfetchReturn e cycles s
  | .hecelSetf e pred a c => Sys2Proof.Machine.execHecelSetf e pred a c s
  | .hecelEnd e pred a c => Sys2Proof.Machine.execHecelEnd e pred a c s
  | .hecelReservedOp e op pred a c => Sys2Proof.Machine.execHecelReservedOp e op pred a c s
  | .programOverrun e => Sys2Proof.Machine.execProgramOverrun e s
  | .missLimitReached e slot => Sys2Proof.Machine.execMissLimitReached e slot s
  | .engineFailure e memoryError => Sys2Proof.Machine.execEngineFailure e memoryError s
  | .swapRequest e cycle => Sys2Proof.Machine.execSwapRequest e cycle s
  | .coefWindowWrite e word value cycle => Sys2Proof.Machine.execCoefWindowWrite e word value cycle s
  | .followingErrorTrip e m => Sys2Proof.Machine.execFollowingErrorTrip e m s
  | .spnTargetWrite rpm => Sys2Proof.Machine.execSpnTargetWrite rpm s
  | .spnStartCommand => Sys2Proof.Machine.execSpnStartCommand s
  | .spnStopCommand => Sys2Proof.Machine.execSpnStopCommand s
  | .spnRestart => Sys2Proof.Machine.execSpnRestart s
  | .spnMeasureEnd backward speed angle => Sys2Proof.Machine.execSpnMeasureEnd backward speed angle s
  | .spnBackbrakeEnd => Sys2Proof.Machine.execSpnBackbrakeEnd s
  | .spnAlignEnd => Sys2Proof.Machine.execSpnAlignEnd s
  | .spnRampEnd => Sys2Proof.Machine.execSpnRampEnd s
  | .spnHandoverConverged => Sys2Proof.Machine.execSpnHandoverConverged s
  | .spnHandoverFail => Sys2Proof.Machine.execSpnHandoverFail s
  | .spnRunEntry => Sys2Proof.Machine.execSpnRunEntry s
  | .spnStartTimeout => Sys2Proof.Machine.execSpnStartTimeout s
  | .phaseLock => Sys2Proof.Machine.execPhaseLock s
  | .lockLost => Sys2Proof.Machine.execLockLost s
  | .observerLoss => Sys2Proof.Machine.execObserverLoss s
  | .spnReacquired => Sys2Proof.Machine.execSpnReacquired s
  | .spnReacqTimeout => Sys2Proof.Machine.execSpnReacqTimeout s
  | .spnBrakeToShort => Sys2Proof.Machine.execSpnBrakeToShort s
  | .spnStopped => Sys2Proof.Machine.execSpnStopped s
  | .spnRestartDelayEnd => Sys2Proof.Machine.execSpnRestartDelayEnd s
  | .spnAttemptsClear => Sys2Proof.Machine.execSpnAttemptsClear s
  | .spnRetractDone => Sys2Proof.Machine.execSpnRetractDone s
  | .spnRetractTimeout => Sys2Proof.Machine.execSpnRetractTimeout s
  | .plevelWrite level => Sys2Proof.Machine.execPlevelWrite level s
  | .seekGo a value => Sys2Proof.Machine.execSeekGo a value s
  | .seekTake a => Sys2Proof.Machine.execSeekTake a s
  | .wedgeDemodComplete a w => Sys2Proof.Machine.execWedgeDemodComplete a w s
  | .actLoad a => Sys2Proof.Machine.execActLoad a s
  | .actLoadAcquired a => Sys2Proof.Machine.execActLoadAcquired a s
  | .actLoadTimeout a => Sys2Proof.Machine.execActLoadTimeout a s
  | .actSettleDone a => Sys2Proof.Machine.execActSettleDone a s
  | .actSettleTimeout a => Sys2Proof.Machine.execActSettleTimeout a s
  | .actReseekEntry a => Sys2Proof.Machine.execActReseekEntry a s
  | .actReseekFault a => Sys2Proof.Machine.execActReseekFault a s
  | .actUnload a => Sys2Proof.Machine.execActUnload a s
  | .actParked a => Sys2Proof.Machine.execActParked a s
  | .actUnloadTimeout a => Sys2Proof.Machine.execActUnloadTimeout a s
  | .actRetracted a => Sys2Proof.Machine.execActRetracted a s
  | .actRetractDone a => Sys2Proof.Machine.execActRetractDone a s
  | .actClr a => Sys2Proof.Machine.execActClr a s
  | .actUnpair a => Sys2Proof.Machine.execActUnpair a s
  | .actLowSpeedRetract a => Sys2Proof.Machine.execActLowSpeedRetract a s
  | .wusLogRead a master => Sys2Proof.Machine.execWusLogRead a master s
  | .assistArmed h => Sys2Proof.Machine.execAssistArmed h s
  | .assistHoldRequal h => Sys2Proof.Machine.execAssistHoldRequal h s
  | .hopStorm h => Sys2Proof.Machine.execHopStorm h s
  | .assistTrip h cause => Sys2Proof.Machine.execAssistTrip h cause s
  | .assistClr h => Sys2Proof.Machine.execAssistClr h s
  | .retireReq h => Sys2Proof.Machine.execRetireReq h s
  | .retireDone h => Sys2Proof.Machine.execRetireDone h s
  | .forceOffWrite h on => Sys2Proof.Machine.execForceOffWrite h on s
  | .iop0Write h value => Sys2Proof.Machine.execIop0Write h value s
  | .agingUpdate h => Sys2Proof.Machine.execAgingUpdate h s
  | .headLinkTraining l o => Sys2Proof.Machine.execHeadLinkTraining l o s
  | .headLinkCommandFrame l p1 p2 => Sys2Proof.Machine.execHeadLinkCommandFrame l p1 p2 s
  | .tickBlock l ofs => Sys2Proof.Machine.execTickBlock l ofs s
  | .headLinkReturnFrame l blocks late => Sys2Proof.Machine.execHeadLinkReturnFrame l blocks late s
  | .receiveDataBlock l p word => Sys2Proof.Machine.execReceiveDataBlock l p word s
  | .lanePromotion l p => Sys2Proof.Machine.execLanePromotion l p s
  | .singleLaneMode l p => Sys2Proof.Machine.execSingleLaneMode l p s
  | .headLinkFault l pinLow => Sys2Proof.Machine.execHeadLinkFault l pinLow s
  | .controlChannelReq l value => Sys2Proof.Machine.execControlChannelReq l value s
  | .controlChannelReply l payload => Sys2Proof.Machine.execControlChannelReply l payload s
  | .controlChannelTimeout l => Sys2Proof.Machine.execControlChannelTimeout l s
  | .sectorWrite n lz p data pi more accAddr => Sys2Proof.Machine.execSectorWrite n lz p data pi more accAddr s
  | .sectorDecode n zone idx more o => Sys2Proof.Machine.execSectorDecode n zone idx more o s
  | .retryLadder n rereads => Sys2Proof.Machine.execRetryLadder n rereads s
  | .seedFetch n zone rate idx => Sys2Proof.Machine.execSeedFetch n zone rate idx s
  | .seedWriteback n => Sys2Proof.Machine.execSeedWriteback n s
  | .streamFailure n memoryError accReadable => Sys2Proof.Machine.execStreamFailure n memoryError accReadable s
  | .paritySave n => Sys2Proof.Machine.execParitySave n s
  | .parityLoad n => Sys2Proof.Machine.execParityLoad n s
  | .parityClear n => Sys2Proof.Machine.execParityClear n s
  | .parityCopyDone => Sys2Proof.Machine.execParityCopyDone s
  | .namespaceAttach n ports => Sys2Proof.Machine.execNamespaceAttach n ports s
  | .namespaceCreate n cfg phys0 format => Sys2Proof.Machine.execNamespaceCreate n cfg phys0 format s
  | .zoneWrite stamp => Sys2Proof.Machine.execZoneWrite stamp s
  | .zoneAppend stamp => Sys2Proof.Machine.execZoneAppend stamp s
  | .zoneReset stamp => Sys2Proof.Machine.execZoneReset stamp s
  | .zoneFinish stamp => Sys2Proof.Machine.execZoneFinish stamp s
  | .lossRewriteRecovery reads => Sys2Proof.Machine.execLossRewriteRecovery reads s
  | .wpRecovery z before reads accAddr head track => Sys2Proof.Machine.execWpRecovery z before reads accAddr head track s
  | .mediaCacheDestage n extent old => Sys2Proof.Machine.execMediaCacheDestage n extent old s
  | .directBandWrite n band count phys => Sys2Proof.Machine.execDirectBandWrite n band count phys s
  | .bandCleaning n band phys since home slots => Sys2Proof.Machine.execBandCleaning n band phys since home slots s
  | .mediaCacheCrit n => Sys2Proof.Machine.execMediaCacheCrit n s
  | .subsectorFill n blk data failed => Sys2Proof.Machine.execSubsectorFill n blk data failed s
  | .defectRemap n zone idx spareZone spareIdx back => Sys2Proof.Machine.execDefectRemap n zone idx spareZone spareIdx back s
  | .zoneRelocation z phys data => Sys2Proof.Machine.execZoneRelocation z phys data s
  | .deepRecovery n z p rereads others parity => Sys2Proof.Machine.execDeepRecovery n z p rereads others parity s
  | .hostReadRecoveryTimeout stamp waitedMs => Sys2Proof.Machine.execHostReadRecoveryTimeout stamp waitedMs s
  | .atiVerify failed => Sys2Proof.Machine.execAtiVerify failed s
  | .backgroundScan zone results whole last => Sys2Proof.Machine.execBackgroundScan zone results whole last s
  | .zmgCheckpoint elapsedMin shutdown => Sys2Proof.Machine.execZmgCheckpoint elapsedMin shutdown s
  | .tableRebuild table ok => Sys2Proof.Machine.execTableRebuild table ok s
  | .osvMount => Sys2Proof.Machine.execOsvMount s
  | .osvSeek => Sys2Proof.Machine.execOsvSeek s
  | .osvPark => Sys2Proof.Machine.execOsvPark s
  | .osvClr => Sys2Proof.Machine.execOsvClr s
  | .servoFrame blocks tracks late => Sys2Proof.Machine.execServoFrame blocks tracks late s
  | .servoFramesMissing => Sys2Proof.Machine.execServoFramesMissing s
  | .sCurveCapture => Sys2Proof.Machine.execSCurveCapture s
  | .sweepsExhausted => Sys2Proof.Machine.execSweepsExhausted s
  | .focusSettled => Sys2Proof.Machine.execFocusSettled s
  | .trackPulled => Sys2Proof.Machine.execTrackPulled s
  | .layerJump => Sys2Proof.Machine.execLayerJump s
  | .layerJumpTimeout => Sys2Proof.Machine.execLayerJumpTimeout s
  | .trackSeekEnd => Sys2Proof.Machine.execTrackSeekEnd s
  | .focusLoss => Sys2Proof.Machine.execFocusLoss s
  | .trackingLoss => Sys2Proof.Machine.execTrackingLoss s
  | .recoverSearchFail => Sys2Proof.Machine.execRecoverSearchFail s
  | .parkingDone => Sys2Proof.Machine.execParkingDone s
  | .wobbleLock errs => Sys2Proof.Machine.execWobbleLock errs s
  | .wobbleUnlock errs => Sys2Proof.Machine.execWobbleUnlock errs s
  | .addressUnitDecode bits31 => Sys2Proof.Machine.execAddressUnitDecode bits31 s
  | .opticalPermitRise => Sys2Proof.Machine.execOpticalPermitRise s
  | .layerTableFill cold entries => Sys2Proof.Machine.execLayerTableFill cold entries s
  | .discStartCommand => Sys2Proof.Machine.execDiscStartCommand s
  | .discStopCommand => Sys2Proof.Machine.execDiscStopCommand s
  | .discSpindleTransition => Sys2Proof.Machine.execDiscSpindleTransition s
  | .discStartFail => Sys2Proof.Machine.execDiscStartFail s
  | .discRetryWaitEnd => Sys2Proof.Machine.execDiscRetryWaitEnd s
  | .discClr => Sys2Proof.Machine.execDiscClr s
  | .discTargetWrite rpm => Sys2Proof.Machine.execDiscTargetWrite rpm s
  | .ochRead o => Sys2Proof.Machine.execOchRead o s
  | .ochWrite closed => Sys2Proof.Machine.execOchWrite closed s
  | .ochVerify o => Sys2Proof.Machine.execOchVerify o s
  | .ochOpc r => Sys2Proof.Machine.execOchOpc r s
  | .ochAbort => Sys2Proof.Machine.execOchAbort s
  | .clusterRetryLadder reads => Sys2Proof.Machine.execClusterRetryLadder reads s
  | .syncLost => Sys2Proof.Machine.execSyncLost s
  | .clusterVoid => Sys2Proof.Machine.execClusterVoid s
  | .zoneCopy n sectors => Sys2Proof.Machine.execZoneCopy n sectors s
  | .directoryWrite => Sys2Proof.Machine.execDirectoryWrite s
  | .copyVerify obs => Sys2Proof.Machine.execCopyVerify obs s
  | .nextFreeSearch reads dirs => Sys2Proof.Machine.execNextFreeSearch reads dirs s
  | .calibrationRecordWrite => Sys2Proof.Machine.execCalibrationRecordWrite s
  | .opticalRecoveryRead z idx o => Sys2Proof.Machine.execOpticalRecoveryRead z idx o s
  | .discFailure => Sys2Proof.Machine.execDiscFailure s
  | .opticalLinkFault pinLow => Sys2Proof.Machine.execOpticalLinkFault pinLow s
  | .opticalLinkTraining o => Sys2Proof.Machine.execOpticalLinkTraining o s
  | .movePushNormal g value => Sys2Proof.Machine.execMovePushNormal g value s
  | .movePushHome g value => Sys2Proof.Machine.execMovePushHome g value s
  | .movePushTest g value => Sys2Proof.Machine.execMovePushTest g value s
  | .movePushRecovery g value => Sys2Proof.Machine.execMovePushRecovery g value s
  | .movePushReplace g value => Sys2Proof.Machine.execMovePushReplace g value s
  | .moveTake g => Sys2Proof.Machine.execMoveTake g s
  | .moveEnd g => Sys2Proof.Machine.execMoveEnd g s
  | .groupStop g => Sys2Proof.Machine.execGroupStop g s
  | .emergencyStop g => Sys2Proof.Machine.execEmergencyStop g s
  | .standstillHoldRamp a => Sys2Proof.Machine.execStandstillHoldRamp a s
  | .switchEdge k level ago => Sys2Proof.Machine.execSwitchEdge k level ago s
  | .switchChatter k times => Sys2Proof.Machine.execSwitchChatter k times s
  | .homingStepEnd a => Sys2Proof.Machine.execHomingStepEnd a s
  | .motionDriveLost => Sys2Proof.Machine.execMotionDriveLost s
  | .motionLimitWrite a reg value => Sys2Proof.Machine.execMotionLimitWrite a reg value s
  | .chopOnEnd b sinceNs => Sys2Proof.Machine.execChopOnEnd b sinceNs s
  | .chopOffEnd b elapsedNs => Sys2Proof.Machine.execChopOffEnd b elapsedNs s
  | .groupFold z => Sys2Proof.Machine.execGroupFold z s
  | .sealContextRebuild z blocks readable => Sys2Proof.Machine.execSealContextRebuild z blocks readable s
  | .sealZone ok1 ok2 => Sys2Proof.Machine.execSealZone ok1 ok2 s
  | .proofRequest port bytes => Sys2Proof.Machine.execProofRequest port bytes s
  | .getRecord readable => Sys2Proof.Machine.execGetRecord readable s
  | .getZone readable => Sys2Proof.Machine.execGetZone readable s
  | .getChain readable => Sys2Proof.Machine.execGetChain readable s
  | .getProof blocks readable => Sys2Proof.Machine.execGetProof blocks readable s
  | .attest ok1 ok2 => Sys2Proof.Machine.execAttest ok1 ok2 s
  | .getCert => Sys2Proof.Machine.execGetCert s
  | .proofReceive port tag alloc => Sys2Proof.Machine.execProofReceive port tag alloc s
  | .proofResponseExpiry port tag readyS => Sys2Proof.Machine.execProofResponseExpiry port tag readyS s
  | .retentionWrite n value => Sys2Proof.Machine.execRetentionWrite n value s
  | .keyGenerate value => Sys2Proof.Machine.execKeyGenerate value s
  | .keyGenerateDone => Sys2Proof.Machine.execKeyGenerateDone s
  | .certCommit => Sys2Proof.Machine.execCertCommit s
  | .sealSelftest katOk ok1 ok2 => Sys2Proof.Machine.execSealSelftest katOk ok1 ok2 s
  | .chainHeadSelect => Sys2Proof.Machine.execChainHeadSelect s
  | .witnessRequest => Sys2Proof.Machine.execWitnessRequest s
  | .witnessStatement peer seq stmt key => Sys2Proof.Machine.execWitnessStatement peer seq stmt key s
  | .witnessTimeout peer seq elapsedMs => Sys2Proof.Machine.execWitnessTimeout peer seq elapsedMs s
  | .hostLanePromotion failed => Sys2Proof.Machine.execHostLanePromotion failed s
  | .pcieLinkDown => Sys2Proof.Machine.execPcieLinkDown s
  | .perstNAssert => Sys2Proof.Machine.execPerstNAssert s
  | .nexusTake cmd => Sys2Proof.Machine.execNexusTake cmd s
  | .nexusIdleFree port nexus idleS registered => Sys2Proof.Machine.execNexusIdleFree port nexus idleS registered s
  | .notifyEnableSpinup port => Sys2Proof.Machine.execNotifyEnableSpinup port s
  | .powerDemandChange port cond => Sys2Proof.Machine.execPowerDemandChange port cond s
  | .linkLowPowerEntry port partialOk slumberOk idleNs => Sys2Proof.Machine.execLinkLowPowerEntry port partialOk slumberOk idleNs s
  | .smbusPacket addr bytes pecOk => Sys2Proof.Machine.execSmbusPacket addr bytes pecOk s
  | .commandStamp cmd => Sys2Proof.Machine.execCommandStamp cmd s
  | .nvmeFetch queue cmds => Sys2Proof.Machine.execNvmeFetch queue cmds s
  | .executionStart stamp => Sys2Proof.Machine.execExecutionStart stamp s
  | .writeAccept stamp blk data guardOk => Sys2Proof.Machine.execWriteAccept stamp blk data guardOk s
  | .writeComplete stamp => Sys2Proof.Machine.execWriteComplete stamp s
  | .hostRead stamp media guardOk => Sys2Proof.Machine.execHostRead stamp media guardOk s
  | .flush stamp => Sys2Proof.Machine.execFlush stamp s
  | .writeCacheEnableChange stamp => Sys2Proof.Machine.execWriteCacheEnableChange stamp s
  | .lostWriteEntry ns blk cause => Sys2Proof.Machine.execLostWriteEntry ns blk cause s
  | .contextLost stamp targetOk => Sys2Proof.Machine.execContextLost stamp targetOk s
  | .nvmeAbort stamp => Sys2Proof.Machine.execNvmeAbort stamp s
  | .sasTaskManagement port nexus tag fn ns target => Sys2Proof.Machine.execSasTaskManagement port nexus tag fn ns target s
  | .ncqFailureAbort => Sys2Proof.Machine.execNcqFailureAbort s
  | .controllerLevelReset port => Sys2Proof.Machine.execControllerLevelReset port s
  | .selfTestStart stamp => Sys2Proof.Machine.execSelfTestStart stamp s
  | .selfTestSuspend pct => Sys2Proof.Machine.execSelfTestSuspend pct s
  | .selfTestResume idleMs => Sys2Proof.Machine.execSelfTestResume idleMs s
  | .selfTestEnd result abortBy => Sys2Proof.Machine.execSelfTestEnd result abortBy s
  | .dramTraining failed swaps => Sys2Proof.Machine.execDramTraining failed swaps s
  | .zqCalibration => Sys2Proof.Machine.execZqCalibration s
  | .dramTemperaturePoll status coolMs => Sys2Proof.Machine.execDramTemperaturePoll status coolMs s
  | .partialWrite addr data ups => Sys2Proof.Machine.execPartialWrite addr data ups s
  | .dramScrubRead ups raced => Sys2Proof.Machine.execDramScrubRead ups raced s
  | .sramScrubRead ups raced => Sys2Proof.Machine.execSramScrubRead ups raced s
  | .scrubPassEnd dram tookMs ecsMax ecsDev => Sys2Proof.Machine.execScrubPassEnd dram tookMs ecsMax ecsDev s
  | .ceThreshold => Sys2Proof.Machine.execCeThreshold s
  | .flipArm value => Sys2Proof.Machine.execFlipArm value s
  | .sramRowPromotion m column errors stuck => Sys2Proof.Machine.execSramRowPromotion m column errors stuck s
  | .dramRepairCandidate row errors stuck => Sys2Proof.Machine.execDramRepairCandidate row errors stuck s
  | .postPackageRepair refused => Sys2Proof.Machine.execPostPackageRepair refused s
  | .dmaGo c value => Sys2Proof.Machine.execDmaGo c value s
  | .dmaAbort c => Sys2Proof.Machine.execDmaAbort c s
  | .dmaBurst c beats ups => Sys2Proof.Machine.execDmaBurst c beats ups s
  | .dmaPreempt c => Sys2Proof.Machine.execDmaPreempt c s
  | .dmaBlockEnd c => Sys2Proof.Machine.execDmaBlockEnd c s
  | .fifoCfgWrite f value => Sys2Proof.Machine.execFifoCfgWrite f value s
  | .fifoPush f mark data => Sys2Proof.Machine.execFifoPush f mark data s
  | .fifoPop f => Sys2Proof.Machine.execFifoPop f s
  | .fifoFlush f => Sys2Proof.Machine.execFifoFlush f s
  | .fifoMark f => Sys2Proof.Machine.execFifoMark f s
  | .fifoRewind f => Sys2Proof.Machine.execFifoRewind f s
  | .tchEnableWrite en => Sys2Proof.Machine.execTchEnableWrite en s
  | .tchInvalidate go n => Sys2Proof.Machine.execTchInvalidate go n s
  | .tchWriteback go n => Sys2Proof.Machine.execTchWriteback go n s
  | .tchWbInv go n => Sys2Proof.Machine.execTchWbInv go n s
  | .tchPreload go n ways => Sys2Proof.Machine.execTchPreload go n ways s
  | .tchInvalidateAll go n => Sys2Proof.Machine.execTchInvalidateAll go n s
  | .tchWbInvAll go n => Sys2Proof.Machine.execTchWbInvAll go n s
  | .tchRangeDone => Sys2Proof.Machine.execTchRangeDone s
  | .tchEvictionWrite complete => Sys2Proof.Machine.execTchEvictionWrite complete s
  | .arbWaitExceeded t reqs load => Sys2Proof.Machine.execArbWaitExceeded t reqs load s
  | .fabLanePromotion failed badHeaders => Sys2Proof.Machine.execFabLanePromotion failed badHeaders s
  | .fabPortTraining port complete => Sys2Proof.Machine.execFabPortTraining port complete s
  | .initBlock port node c0 c1 => Sys2Proof.Machine.execInitBlock port node c0 c1 s
  | .advertOriginate elapsedMs => Sys2Proof.Machine.execAdvertOriginate elapsedMs s
  | .advertFrame port seq wire => Sys2Proof.Machine.execAdvertFrame port seq wire s
  | .routeAgeOut id => Sys2Proof.Machine.execRouteAgeOut id s
  | .frameForward port seq wire => Sys2Proof.Machine.execFrameForward port seq wire s
  | .appendFrame port seq wire => Sys2Proof.Machine.execAppendFrame port seq wire s
  | .dataFrame port seq wire => Sys2Proof.Machine.execDataFrame port seq wire s
  | .appendDataTimeout src tag elapsedMs => Sys2Proof.Machine.execAppendDataTimeout src tag elapsedMs s
  | .readFrame port seq wire => Sys2Proof.Machine.execReadFrame port seq wire s
  | .copyFrame port seq wire => Sys2Proof.Machine.execCopyFrame port seq wire s
  | .witnessFrame port seq wire => Sys2Proof.Machine.execWitnessFrame port seq wire s
  | .regFrame port seq wire ups => Sys2Proof.Machine.execRegFrame port seq wire ups s
  | .fabricResponse port seq wire => Sys2Proof.Machine.execFabricResponse port seq wire s
  | .creditBlock port vc units => Sys2Proof.Machine.execCreditBlock port vc units s
  | .ackBlock port last nak => Sys2Proof.Machine.execAckBlock port last nak s
  | .replayTimeout port elapsedNs => Sys2Proof.Machine.execReplayTimeout port elapsedNs s
  | .fabLinkFault port => Sys2Proof.Machine.execFabLinkFault port s
  | .ringHeadAdvance head => Sys2Proof.Machine.execRingHeadAdvance head s
  | .fabricRequestTimeout tag elapsedMs => Sys2Proof.Machine.execFabricRequestTimeout tag elapsedMs s
  | .domainCtlWrite value => Sys2Proof.Machine.execDomainCtlWrite value s
  | .domainOnComplete d => Sys2Proof.Machine.execDomainOnComplete d s
  | .domainOff d => Sys2Proof.Machine.execDomainOff d s
  | .domainDeferTimeout d elapsedUs => Sys2Proof.Machine.execDomainDeferTimeout d elapsedUs s
  | .periodicCheckpoint elapsedMs => Sys2Proof.Machine.execPeriodicCheckpoint elapsedMs s
  | .checkpointRequest => Sys2Proof.Machine.execCheckpointRequest s
  | .checkpointWrite => Sys2Proof.Machine.execCheckpointWrite s
  | .checkpointComplete => Sys2Proof.Machine.execCheckpointComplete s
  | .rescueSequence => Sys2Proof.Machine.execRescueSequence s
  | .rescueFinalized time10us => Sys2Proof.Machine.execRescueFinalized time10us s
  | .rescueAbandoned => Sys2Proof.Machine.execRescueAbandoned s
  | .checkpointRestore => Sys2Proof.Machine.execCheckpointRestore s
  | .restored onMedia tags layout => Sys2Proof.Machine.execRestored onMedia tags layout s
  | .lifetimeSecondTick => Sys2Proof.Machine.execLifetimeSecondTick s
  | .wallTimeTick => Sys2Proof.Machine.execWallTimeTick s
  | .timeSet hi => Sys2Proof.Machine.execTimeSet hi s
  | .eventPost p master value => Sys2Proof.Machine.execEventPost p master value s
  | .hardwareEventPost code u payload => Sys2Proof.Machine.execHardwareEventPost code u payload s
  | .recordWrite => Sys2Proof.Machine.execRecordWrite s
  | .repeatMerge => Sys2Proof.Machine.execRepeatMerge s
  | .recordsLost => Sys2Proof.Machine.execRecordsLost s
  | .ringScan => Sys2Proof.Machine.execRingScan s
  | .calibrationDue k => Sys2Proof.Machine.execCalibrationDue k s
  | .calibrationOverdue k => Sys2Proof.Machine.execCalibrationOverdue k s
  | .calDone value => Sys2Proof.Machine.execCalDone value s
  | .coreRetire mask => Sys2Proof.Machine.execCoreRetire mask s
  | .core8Select sel => Sys2Proof.Machine.execCore8Select sel s
  | .spareDiscPromote d => Sys2Proof.Machine.execSpareDiscPromote d s
  | .hostLinkUp port rate width => Sys2Proof.Machine.execHostLinkUp port rate width s
  | .sasSataLinkDown port => Sys2Proof.Machine.execSasSataLinkDown port s
  | .perstNRelease => Sys2Proof.Machine.execPerstNRelease s
  | .iTNexusLoss port nexus => Sys2Proof.Machine.execITNexusLoss port nexus s
  | .functionLevelReset => Sys2Proof.Machine.execFunctionLevelReset s
  | .calrefLoss => Sys2Proof.Machine.execCalrefLoss s
  | .smbusClockLowTimeout lowMs => Sys2Proof.Machine.execSmbusClockLowTimeout lowMs s
  | .discAttemptsClear => Sys2Proof.Machine.execDiscAttemptsClear s
  | .zoneOpen stamp => Sys2Proof.Machine.execZoneOpen stamp s
  | .zoneClose stamp => Sys2Proof.Machine.execZoneClose stamp s
  | .jtagTrstNAssert => Sys2Proof.Machine.execJtagTrstNAssert s

end Sys2Proof.Machine
end

