-- ==== Sys2Proof/WellFormed.lean ====
section
/-! DEFINITION. Well-formed commands: the unit a command names exists, and what it carries has the sizes that the spec gives it. An
operand that the spec leaves to the master's choice or to what a sensor or a decoder finds is not checked. -/

namespace Sys2Proof

/-- A number is below a bound: of units, or of a field of some width. -/
def fits (n i : Nat) : Bool := decide (i < n)

/-- A register word (R4). -/
def isWord (v : Nat) : Bool := decide (v < 2 ^ 32)

/-- An address: 40 bits (R13). -/
def isAddr (a : Nat) : Bool := decide (a < 2 ^ 40)

/-- A register access size in bytes (R4, R16). -/
def accessSize (n : Nat) : Bool := n == 1 || n == 2 || n == 4 || n == 8

/-- A string of bytes. -/
def isBytes (l : List Nat) : Bool := l.all (fun b => decide (b < 256))

/-- Bits in error that a check finds are correctable, 1, or uncorrectable, 2 (R385). -/
def upsetOk (u : Upset) : Bool := isAddr u.addr && (u.cls == 1 || u.cls == 2) && fits (2 ^ 256) u.mask

/-- The four DQ bits of a nibble in some order (R490). -/
def swapOk (l : List Nat) : Bool := l.length == 4 && (List.range 4).all (fun i => l.contains i)

/-- A fabric frame's bytes between SOF and EOF: a header, at most 4,096 payload bytes, and 8 bytes that end it (R425). -/
def wireLen (l : List Nat) : Bool := decide (40 ≤ l.length) && decide (l.length ≤ 4136) && l.length % 8 == 0

/-- The decode of a sector: 33,024 information bits (R181). -/
def decodedOk (d : Decoded) : Bool := fits (2 ^ 33024) d.info

/-- What the detectors give of a sector: the bits around the marks (R188, R189), and decodes of a codeword's information bits. -/
def sectorOk (o : SectorObs) : Bool :=
  fits (2 ^ 64) o.sm1 && fits (2 ^ 96) o.sm2 && o.rs.all (fits (2 ^ 32)) && fits (2 ^ 16) o.mse && o.decodes.all (fun p => decodedOk p.2)

/-- An entry of the retry ladder. -/
def rereadOk : Reread → Bool
  | .pass o => sectorOk o
  | .group others parity => others.all decodedOk && decodedOk parity

/-- A head's wedge: sample counts of 24 bits (R171, R173). -/
def wedgeOk (w : HeadWedge) : Bool := fits (2 ^ 24) w.first && fits (2 ^ 24) w.last

/-- What a training finds: a mask of three lanes, SEQs of 8 bits (R171). -/
def trainOk (o : TrainObs) : Bool := fits 8 o.locks && isBytes o.echoes && isBytes (o.seqs.filterMap id)

/-- A host command names one of 64 namespaces (R202). -/
def cmdOk (c : HostCmd) : Bool := fits 64 c.ns

/-- The unit that a command names exists. Log entry 4 (DESIGN CHOICE). -/
def Instr.unitOk : Instr → Bool
  | .registerWrite _ _ _ _ => true
  | .lockCommit _ _ _ => true
  | .memoryAccess _ _ _ _ _ _ => true
  | .pairedRegisterReadLatch _ _ => true
  | .bar2Request _ _ _ _ _ => true
  | .irqClaim ctx => fits 10 ctx
  | .irqDone ctx _ => fits 10 ctx
  | .irqRouteWrite src _ => fits 1056 src
  | .xinLoss _ => true
  | .pllLossOfLock pll _ => fits 3 pll
  | .clockLossReboot _ => true
  | .pcieRefclkLoss _ => true
  | .calrefGateEnd _ => true
  | .powerOnReset => true
  | .resetNAssert _ => true
  | .resetNRelease _ => true
  | .bootStart _ => true
  | .trialTimerExpiry _ => true
  | .softwareReset _ => true
  | .modeRequest _ => true
  | .heldModeRequestTaken => true
  | .serviceEntry => true
  | .quiesceEntry => true
  | .standbyDomainsOff => true
  | .wakeEvent _ => true
  | .pfailAssert _ => true
  | .rescueReturn _ => true
  | .pwrOkFall => true
  | .pwrOkRise => true
  | .railsLost => true
  | .keyRevoke _ => true
  | .keyRevokeDone => true
  | .firmwareDownload _ _ _ => true
  | .firmwareCommit _ _ => true
  | .downloadSessionTimeout _ => true
  | .firmwareActivate _ => true
  | .activationDrainEnd _ => true
  | .activationDrainTimeout _ => true
  | .activationReset => true
  | .tempoBoundary => true
  | .tempoCountPersist => true
  | .phaseKWrite _ => true
  | .alarmFire => true
  | .wedgeLatch => true
  | .outputWrite => true
  | .stageOutboundFrame link => fits 2 link
  | .stageReturnFrame link _ _ _ _ _ _ => fits 2 link
  | .stageLinkFault link => fits 2 link
  | .hecelNop e _ _ _ => fits 5 e
  | .hecelClr e _ _ _ => fits 5 e
  | .hecelMac e _ _ _ => fits 5 e
  | .hecelMsu e _ _ _ => fits 5 e
  | .hecelLda e _ _ _ => fits 5 e
  | .hecelSt e _ _ _ => fits 5 e
  | .hecelOut e _ _ _ => fits 5 e
  | .hecelLim e _ _ _ => fits 5 e
  | .hecelTfetch e _ _ _ _ => fits 5 e
  | .tfetchReturn e _ => fits 5 e
  | .hecelSetf e _ _ _ => fits 5 e
  | .hecelEnd e _ _ _ => fits 5 e
  | .hecelReservedOp e _ _ _ _ => fits 5 e
  | .programOverrun e => fits 5 e
  | .missLimitReached e slot => fits 5 e && fits 64 slot
  | .engineFailure e _ => fits 5 e
  | .swapRequest e _ => fits 5 e
  | .coefWindowWrite e word _ _ => fits 5 e && fits 1024 word
  | .followingErrorTrip e m => fits 5 e && fits 16 m
  | .spnTargetWrite _ => true
  | .spnStartCommand => true
  | .spnStopCommand => true
  | .spnRestart => true
  | .spnMeasureEnd _ _ _ => true
  | .spnBackbrakeEnd => true
  | .spnAlignEnd => true
  | .spnRampEnd => true
  | .spnHandoverConverged => true
  | .spnHandoverFail => true
  | .spnRunEntry => true
  | .spnStartTimeout => true
  | .phaseLock => true
  | .lockLost => true
  | .observerLoss => true
  | .spnReacquired => true
  | .spnReacqTimeout => true
  | .spnBrakeToShort => true
  | .spnStopped => true
  | .spnRestartDelayEnd => true
  | .spnAttemptsClear => true
  | .spnRetractDone => true
  | .spnRetractTimeout => true
  | .plevelWrite _ => true
  | .seekGo a _ => fits 2 a
  | .seekTake a => fits 2 a
  | .wedgeDemodComplete a _ => fits 2 a
  | .actLoad a => fits 2 a
  | .actLoadAcquired a => fits 2 a
  | .actLoadTimeout a => fits 2 a
  | .actSettleDone a => fits 2 a
  | .actSettleTimeout a => fits 2 a
  | .actReseekEntry a => fits 2 a
  | .actReseekFault a => fits 2 a
  | .actUnload a => fits 2 a
  | .actParked a => fits 2 a
  | .actUnloadTimeout a => fits 2 a
  | .actRetracted a => fits 2 a
  | .actRetractDone a => fits 2 a
  | .actClr a => fits 2 a
  | .actUnpair a => fits 2 a
  | .actLowSpeedRetract a => fits 2 a
  | .wusLogRead a _ => fits 2 a
  | .assistArmed h => fits 24 h
  | .assistHoldRequal h => fits 24 h
  | .hopStorm h => fits 24 h
  | .assistTrip h _ => fits 24 h
  | .assistClr h => fits 24 h
  | .retireReq h => fits 24 h
  | .retireDone h => fits 24 h
  | .forceOffWrite h _ => fits 24 h
  | .iop0Write h _ => fits 24 h
  | .agingUpdate h => fits 24 h
  | .headLinkTraining l _ => fits 2 l
  | .headLinkCommandFrame l _ _ => fits 3 l
  | .tickBlock l _ => fits 3 l
  | .headLinkReturnFrame l _ _ => fits 2 l
  | .receiveDataBlock l p _ => fits 3 l && fits (if l = 2 then 1 else 3) p
  | .lanePromotion l p => fits 2 l && fits 3 p
  | .singleLaneMode l p => fits 2 l && fits 3 p
  | .headLinkFault l _ => fits 2 l
  | .controlChannelReq l _ => fits 3 l
  | .controlChannelReply l _ => fits 3 l
  | .controlChannelTimeout l => fits 3 l
  | .sectorWrite n _ _ _ _ _ _ => fits 5 n
  | .sectorDecode n _ _ _ _ => fits 5 n
  | .retryLadder n _ => fits 5 n
  | .seedFetch n _ _ _ => fits 5 n
  | .seedWriteback n => fits 5 n
  | .streamFailure n _ _ => fits 5 n
  | .paritySave n => fits 5 n
  | .parityLoad n => fits 5 n
  | .parityClear n => fits 5 n
  | .parityCopyDone => true
  | .namespaceAttach n _ => fits 64 n
  | .namespaceCreate n _ _ _ => fits 64 n
  | .zoneWrite _ => true
  | .zoneAppend _ => true
  | .zoneReset _ => true
  | .zoneFinish _ => true
  | .lossRewriteRecovery _ => true
  | .wpRecovery _ _ _ _ _ _ => true
  | .mediaCacheDestage n _ _ => fits 64 n
  | .directBandWrite n _ _ _ => fits 64 n
  | .bandCleaning n _ _ _ _ _ => fits 64 n
  | .mediaCacheCrit n => fits 64 n
  | .subsectorFill _ _ _ _ => true
  | .defectRemap n _ _ _ _ _ => fits 5 n
  | .zoneRelocation _ _ _ => true
  | .deepRecovery n _ _ _ _ _ => fits 5 n
  | .hostReadRecoveryTimeout _ _ => true
  | .atiVerify _ => true
  | .backgroundScan _ _ _ _ => true
  | .zmgCheckpoint _ _ => true
  | .tableRebuild table _ => fits 5 table
  | .osvMount => true
  | .osvSeek => true
  | .osvPark => true
  | .osvClr => true
  | .servoFrame _ _ _ => true
  | .servoFramesMissing => true
  | .sCurveCapture => true
  | .sweepsExhausted => true
  | .focusSettled => true
  | .trackPulled => true
  | .layerJump => true
  | .layerJumpTimeout => true
  | .trackSeekEnd => true
  | .focusLoss => true
  | .trackingLoss => true
  | .recoverSearchFail => true
  | .parkingDone => true
  | .wobbleLock _ => true
  | .wobbleUnlock _ => true
  | .addressUnitDecode _ => true
  | .opticalPermitRise => true
  | .layerTableFill _ _ => true
  | .discStartCommand => true
  | .discStopCommand => true
  | .discSpindleTransition => true
  | .discStartFail => true
  | .discRetryWaitEnd => true
  | .discClr => true
  | .discTargetWrite _ => true
  | .ochRead _ => true
  | .ochWrite _ => true
  | .ochVerify _ => true
  | .ochOpc _ => true
  | .ochAbort => true
  | .clusterRetryLadder _ => true
  | .syncLost => true
  | .clusterVoid => true
  | .zoneCopy n _ => fits 5 n
  | .directoryWrite => true
  | .copyVerify _ => true
  | .nextFreeSearch _ _ => true
  | .calibrationRecordWrite => true
  | .opticalRecoveryRead _ _ _ => true
  | .discFailure => true
  | .opticalLinkFault _ => true
  | .opticalLinkTraining _ => true
  | .movePushNormal g _ => fits 3 g
  | .movePushHome g _ => fits 3 g
  | .movePushTest g _ => fits 3 g
  | .movePushRecovery g _ => fits 3 g
  | .movePushReplace g _ => fits 3 g
  | .moveTake g => fits 3 g
  | .moveEnd g => fits 3 g
  | .groupStop g => fits 3 g
  | .emergencyStop g => fits 3 g
  | .standstillHoldRamp a => fits 4 a
  | .switchEdge k _ _ => fits 8 k
  | .switchChatter k _ => fits 8 k
  | .homingStepEnd a => fits 4 a
  | .motionDriveLost => true
  | .motionLimitWrite a reg _ => fits 4 a && fits 4 reg
  | .chopOnEnd b _ => fits 8 b
  | .chopOffEnd b _ => fits 8 b
  | .groupFold _ => true
  | .sealContextRebuild _ _ _ => true
  | .sealZone _ _ => true
  | .proofRequest _ _ => true
  | .getRecord _ => true
  | .getZone _ => true
  | .getChain _ => true
  | .getProof _ _ => true
  | .attest _ _ => true
  | .getCert => true
  | .proofReceive _ _ _ => true
  | .proofResponseExpiry _ _ _ => true
  | .retentionWrite n _ => fits 64 n
  | .keyGenerate _ => true
  | .keyGenerateDone => true
  | .certCommit => true
  | .sealSelftest _ _ _ => true
  | .chainHeadSelect => true
  | .witnessRequest => true
  | .witnessStatement _ _ _ _ => true
  | .witnessTimeout _ _ _ => true
  | .hostLanePromotion _ => true
  | .pcieLinkDown => true
  | .perstNAssert => true
  | .nexusTake _ => true
  | .nexusIdleFree port _ _ _ => fits 2 port
  | .notifyEnableSpinup port => fits 2 port
  | .powerDemandChange _ _ => true
  | .linkLowPowerEntry _ _ _ _ => true
  | .smbusPacket _ _ _ => true
  | .commandStamp _ => true
  | .nvmeFetch _ _ => true
  | .executionStart _ => true
  | .writeAccept _ _ _ _ => true
  | .writeComplete _ => true
  | .hostRead _ _ _ => true
  | .flush _ => true
  | .writeCacheEnableChange _ => true
  | .lostWriteEntry _ _ _ => true
  | .contextLost _ _ => true
  | .nvmeAbort _ => true
  | .sasTaskManagement port _ _ fn _ _ => fits 2 port && fits 4 fn
  | .ncqFailureAbort => true
  | .controllerLevelReset _ => true
  | .selfTestStart _ => true
  | .selfTestSuspend _ => true
  | .selfTestResume _ => true
  | .selfTestEnd _ _ => true
  | .dramTraining failed swaps => failed.all (fun k => decide (1 ≤ k) && decide (k ≤ 5)) && swaps.all swapOk
  | .zqCalibration => true
  | .dramTemperaturePoll status _ => isBytes status
  | .partialWrite _ _ _ => true
  | .dramScrubRead _ _ => true
  | .sramScrubRead _ _ => true
  | .scrubPassEnd _ _ _ _ => true
  | .ceThreshold => true
  | .flipArm _ => true
  | .sramRowPromotion m _ _ _ => fits 160 m
  | .dramRepairCandidate _ _ _ => true
  | .postPackageRepair _ => true
  | .dmaGo c _ => fits 32 c
  | .dmaAbort c => fits 32 c
  | .dmaBurst c _ _ => fits 32 c
  | .dmaPreempt c => fits 32 c
  | .dmaBlockEnd c => fits 32 c
  | .fifoCfgWrite f _ => fits 16 f
  | .fifoPush f _ _ => fits 16 f
  | .fifoPop f => fits 16 f
  | .fifoFlush f => fits 16 f
  | .fifoMark f => fits 16 f
  | .fifoRewind f => fits 16 f
  | .tchEnableWrite _ => true
  | .tchInvalidate _ _ => true
  | .tchWriteback _ _ => true
  | .tchWbInv _ _ => true
  | .tchPreload _ _ _ => true
  | .tchInvalidateAll _ _ => true
  | .tchWbInvAll _ _ => true
  | .tchRangeDone => true
  | .tchEvictionWrite _ => true
  | .arbWaitExceeded t reqs _ => fits 6 t && reqs.all (fun r => fits 21 r.master && fits 32 r.channel)
  | .fabLanePromotion _ _ => true
  | .fabPortTraining port _ => fits 4 port
  | .initBlock port _ _ _ => fits 4 port
  | .advertOriginate _ => true
  | .advertFrame port seq wire => fits 4 port && fits 256 seq && isBytes wire
  | .routeAgeOut id => fits 4096 id
  | .frameForward port seq wire => fits 4 port && fits 256 seq && isBytes wire
  | .appendFrame port seq wire => fits 4 port && fits 256 seq && isBytes wire
  | .dataFrame port seq wire => fits 4 port && fits 256 seq && isBytes wire
  | .appendDataTimeout _ _ _ => true
  | .readFrame port seq wire => fits 4 port && fits 256 seq && isBytes wire
  | .copyFrame port seq wire => fits 4 port && fits 256 seq && isBytes wire
  | .witnessFrame port seq wire => fits 4 port && fits 256 seq && isBytes wire
  | .regFrame port seq wire ups => fits 4 port && fits 256 seq && isBytes wire && ups.all upsetOk
  | .fabricResponse port seq wire => fits 4 port && fits 256 seq && isBytes wire
  | .creditBlock port _ _ => fits 4 port
  | .ackBlock port _ _ => fits 4 port
  | .replayTimeout port _ => fits 4 port
  | .fabLinkFault port => fits 4 port
  | .ringHeadAdvance _ => true
  | .fabricRequestTimeout _ _ => true
  | .domainCtlWrite _ => true
  | .domainOnComplete d => fits 24 d
  | .domainOff d => fits 24 d
  | .domainDeferTimeout d _ => fits 24 d
  | .periodicCheckpoint _ => true
  | .checkpointRequest => true
  | .checkpointWrite => true
  | .checkpointComplete => true
  | .rescueSequence => true
  | .rescueFinalized _ => true
  | .rescueAbandoned => true
  | .checkpointRestore => true
  | .restored _ _ _ => true
  | .lifetimeSecondTick => true
  | .wallTimeTick => true
  | .timeSet _ => true
  | .eventPost p _ _ => fits 10 p
  | .hardwareEventPost _ _ _ => true
  | .recordWrite => true
  | .repeatMerge => true
  | .recordsLost => true
  | .ringScan => true
  | .calibrationDue k => fits 16 k
  | .calibrationOverdue k => fits 16 k
  | .calDone _ => true
  | .coreRetire _ => true
  | .core8Select _ => true
  | .spareDiscPromote d => fits 2 d
  | .hostLinkUp _ _ _ => true
  | .sasSataLinkDown _ => true
  | .perstNRelease => true
  | .iTNexusLoss port _ => fits 2 port
  | .functionLevelReset => true
  | .calrefLoss => true
  | .smbusClockLowTimeout _ => true
  | .discAttemptsClear => true
  | .zoneOpen _ => true
  | .zoneClose _ => true
  | .jtagTrstNAssert => true

/-- What a command carries has the sizes that the spec gives it. -/
def Instr.valuesOk : Instr → Bool
  | .registerWrite master addr size value => fits 32 master && isAddr addr && accessSize size && isWord value
  | .lockCommit master addr value => fits 32 master && isAddr addr && isWord value
  | .memoryAccess master addr _ _ data ups => fits 32 master && isAddr addr && isBytes data && ups.all upsetOk
  | .pairedRegisterReadLatch master addr => fits 32 master && isAddr addr
  | .bar2Request addr _ _ data ups => isAddr addr && isBytes data && ups.all upsetOk
  | .irqClaim _ => true
  | .irqDone _ _ => true
  | .irqRouteWrite _ value => isWord value
  | .xinLoss _ => true
  | .pllLossOfLock _ _ => true
  | .clockLossReboot _ => true
  | .pcieRefclkLoss _ => true
  | .calrefGateEnd _ => true
  | .powerOnReset => true
  | .resetNAssert _ => true
  | .resetNRelease _ => true
  | .bootStart _ => true
  | .trialTimerExpiry _ => true
  | .softwareReset value => isWord value
  | .modeRequest _ => true
  | .heldModeRequestTaken => true
  | .serviceEntry => true
  | .quiesceEntry => true
  | .standbyDomainsOff => true
  | .wakeEvent _ => true
  | .pfailAssert _ => true
  | .rescueReturn _ => true
  | .pwrOkFall => true
  | .pwrOkRise => true
  | .railsLost => true
  | .keyRevoke value => isWord value
  | .keyRevokeDone => true
  | .firmwareDownload _ offset data => fits (2 ^ 25) offset && isBytes data && decide (offset + data.length ≤ 2 ^ 25)
  | .firmwareCommit _ _ => true
  | .downloadSessionTimeout _ => true
  | .firmwareActivate _ => true
  | .activationDrainEnd _ => true
  | .activationDrainTimeout _ => true
  | .activationReset => true
  | .tempoBoundary => true
  | .tempoCountPersist => true
  | .phaseKWrite _ => true
  | .alarmFire => true
  | .wedgeLatch => true
  | .outputWrite => true
  | .stageOutboundFrame _ => true
  | .stageReturnFrame _ _ _ _ _ _ _ => true
  | .stageLinkFault _ => true
  | .hecelNop _ _ _ _ => true
  | .hecelClr _ _ _ _ => true
  | .hecelMac _ _ _ _ => true
  | .hecelMsu _ _ _ _ => true
  | .hecelLda _ _ _ _ => true
  | .hecelSt _ _ _ _ => true
  | .hecelOut _ _ _ _ => true
  | .hecelLim _ _ _ _ => true
  | .hecelTfetch _ _ _ _ _ => true
  | .tfetchReturn _ _ => true
  | .hecelSetf _ _ _ _ => true
  | .hecelEnd _ _ _ _ => true
  | .hecelReservedOp _ _ _ _ _ => true
  | .programOverrun _ => true
  | .missLimitReached _ _ => true
  | .engineFailure _ _ => true
  | .swapRequest _ _ => true
  | .coefWindowWrite _ _ value _ => isWord value
  | .followingErrorTrip _ _ => true
  | .spnTargetWrite _ => true
  | .spnStartCommand => true
  | .spnStopCommand => true
  | .spnRestart => true
  | .spnMeasureEnd _ _ _ => true
  | .spnBackbrakeEnd => true
  | .spnAlignEnd => true
  | .spnRampEnd => true
  | .spnHandoverConverged => true
  | .spnHandoverFail => true
  | .spnRunEntry => true
  | .spnStartTimeout => true
  | .phaseLock => true
  | .lockLost => true
  | .observerLoss => true
  | .spnReacquired => true
  | .spnReacqTimeout => true
  | .spnBrakeToShort => true
  | .spnStopped => true
  | .spnRestartDelayEnd => true
  | .spnAttemptsClear => true
  | .spnRetractDone => true
  | .spnRetractTimeout => true
  | .plevelWrite _ => true
  | .seekGo _ value => isWord value
  | .seekTake _ => true
  | .wedgeDemodComplete _ w => wedgeOk w.h1 && wedgeOk w.h2
  | .actLoad _ => true
  | .actLoadAcquired _ => true
  | .actLoadTimeout _ => true
  | .actSettleDone _ => true
  | .actSettleTimeout _ => true
  | .actReseekEntry _ => true
  | .actReseekFault _ => true
  | .actUnload _ => true
  | .actParked _ => true
  | .actUnloadTimeout _ => true
  | .actRetracted _ => true
  | .actRetractDone _ => true
  | .actClr _ => true
  | .actUnpair _ => true
  | .actLowSpeedRetract _ => true
  | .wusLogRead _ master => fits 32 master
  | .assistArmed _ => true
  | .assistHoldRequal _ => true
  | .hopStorm _ => true
  | .assistTrip _ _ => true
  | .assistClr _ => true
  | .retireReq _ => true
  | .retireDone _ => true
  | .forceOffWrite _ _ => true
  | .iop0Write _ value => isWord value
  | .agingUpdate _ => true
  | .headLinkTraining _ o => trainOk o
  | .headLinkCommandFrame _ _ _ => true
  | .tickBlock _ _ => true
  | .headLinkReturnFrame _ blocks _ => blocks.all (fits (2 ^ 64))
  | .receiveDataBlock _ _ w => fits (2 ^ 66) w
  | .lanePromotion _ _ => true
  | .singleLaneMode _ _ => true
  | .headLinkFault _ _ => true
  | .controlChannelReq _ value => isWord value
  | .controlChannelReply _ _ => true
  | .controlChannelTimeout _ => true
  | .sectorWrite _ _ _ _ _ _ _ => true
  | .sectorDecode _ _ _ _ o => sectorOk o
  | .retryLadder _ l => l.all rereadOk
  | .seedFetch _ zone rate idx => fits (2 ^ 20) zone && fits 4096 rate && fits (2 ^ 17) idx
  | .seedWriteback _ => true
  | .streamFailure _ _ _ => true
  | .paritySave _ => true
  | .parityLoad _ => true
  | .parityClear _ => true
  | .parityCopyDone => true
  | .namespaceAttach _ _ => true
  | .namespaceCreate _ _ _ _ => true
  | .zoneWrite _ => true
  | .zoneAppend _ => true
  | .zoneReset _ => true
  | .zoneFinish _ => true
  | .lossRewriteRecovery reads => reads.all (fun l => l.all decodedOk)
  | .wpRecovery _ before reads _ _ _ => before.all decodedOk && reads.all decodedOk
  | .mediaCacheDestage _ _ _ => true
  | .directBandWrite _ _ _ _ => true
  | .bandCleaning _ _ _ _ _ _ => true
  | .mediaCacheCrit _ => true
  | .subsectorFill _ _ _ _ => true
  | .defectRemap _ _ _ _ _ back => decodedOk back
  | .zoneRelocation _ _ _ => true
  | .deepRecovery _ _ _ rereads others parity => rereads.all rereadOk && others.all decodedOk && decodedOk parity
  | .hostReadRecoveryTimeout _ _ => true
  | .atiVerify _ => true
  | .backgroundScan _ _ _ _ => true
  | .zmgCheckpoint _ _ => true
  | .tableRebuild _ _ => true
  | .osvMount => true
  | .osvSeek => true
  | .osvPark => true
  | .osvClr => true
  | .servoFrame blocks _ _ => blocks.all (fits (2 ^ 64))
  | .servoFramesMissing => true
  | .sCurveCapture => true
  | .sweepsExhausted => true
  | .focusSettled => true
  | .trackPulled => true
  | .layerJump => true
  | .layerJumpTimeout => true
  | .trackSeekEnd => true
  | .focusLoss => true
  | .trackingLoss => true
  | .recoverSearchFail => true
  | .parkingDone => true
  | .wobbleLock _ => true
  | .wobbleUnlock _ => true
  | .addressUnitDecode _ => true
  | .opticalPermitRise => true
  | .layerTableFill _ _ => true
  | .discStartCommand => true
  | .discStopCommand => true
  | .discSpindleTransition => true
  | .discStartFail => true
  | .discRetryWaitEnd => true
  | .discClr => true
  | .discTargetWrite _ => true
  | .ochRead _ => true
  | .ochWrite _ => true
  | .ochVerify _ => true
  | .ochOpc _ => true
  | .ochAbort => true
  | .clusterRetryLadder _ => true
  | .syncLost => true
  | .clusterVoid => true
  | .zoneCopy _ sectors => sectors.all decodedOk
  | .directoryWrite => true
  | .copyVerify _ => true
  | .nextFreeSearch _ _ => true
  | .calibrationRecordWrite => true
  | .opticalRecoveryRead _ _ _ => true
  | .discFailure => true
  | .opticalLinkFault _ => true
  | .opticalLinkTraining o => trainOk o
  | .movePushNormal _ value => isWord value
  | .movePushHome _ value => isWord value
  | .movePushTest _ value => isWord value
  | .movePushRecovery _ value => isWord value
  | .movePushReplace _ value => isWord value
  | .moveTake _ => true
  | .moveEnd _ => true
  | .groupStop _ => true
  | .emergencyStop _ => true
  | .standstillHoldRamp _ => true
  | .switchEdge _ _ _ => true
  | .switchChatter _ _ => true
  | .homingStepEnd _ => true
  | .motionDriveLost => true
  | .motionLimitWrite _ _ value => isWord value
  | .chopOnEnd _ _ => true
  | .chopOffEnd _ _ => true
  | .groupFold _ => true
  | .sealContextRebuild _ _ _ => true
  | .sealZone _ _ => true
  | .proofRequest _ bytes => isBytes bytes
  | .getRecord _ => true
  | .getZone _ => true
  | .getChain _ => true
  | .getProof _ _ => true
  | .attest _ _ => true
  | .getCert => true
  | .proofReceive _ _ _ => true
  | .proofResponseExpiry _ _ _ => true
  | .retentionWrite _ value => isWord value
  | .keyGenerate value => isWord value
  | .keyGenerateDone => true
  | .certCommit => true
  | .sealSelftest _ _ _ => true
  | .chainHeadSelect => true
  | .witnessRequest => true
  | .witnessStatement _ _ stmt key => isBytes stmt && isBytes key
  | .witnessTimeout _ _ _ => true
  | .hostLanePromotion _ => true
  | .pcieLinkDown => true
  | .perstNAssert => true
  | .nexusTake cmd => cmdOk cmd
  | .nexusIdleFree _ _ _ _ => true
  | .notifyEnableSpinup _ => true
  | .powerDemandChange _ _ => true
  | .linkLowPowerEntry _ _ _ _ => true
  | .smbusPacket addr bytes _ => isAddr addr && isBytes bytes
  | .commandStamp cmd => cmdOk cmd
  | .nvmeFetch _ cmds => cmds.all cmdOk
  | .executionStart _ => true
  | .writeAccept _ _ _ _ => true
  | .writeComplete _ => true
  | .hostRead _ _ _ => true
  | .flush _ => true
  | .writeCacheEnableChange _ => true
  | .lostWriteEntry _ _ _ => true
  | .contextLost _ _ => true
  | .nvmeAbort _ => true
  | .sasTaskManagement _ _ _ _ _ _ => true
  | .ncqFailureAbort => true
  | .controllerLevelReset _ => true
  | .selfTestStart _ => true
  | .selfTestSuspend _ => true
  | .selfTestResume _ => true
  | .selfTestEnd _ _ => true
  | .dramTraining _ swaps => swaps.length == 20
  | .zqCalibration => true
  | .dramTemperaturePoll status _ => decide (status.length ≤ 40)
  | .partialWrite addr data ups => isAddr addr && isBytes data && ups.all upsetOk
  | .dramScrubRead ups _ => ups.all upsetOk
  | .sramScrubRead ups _ => ups.all upsetOk
  | .scrubPassEnd _ _ _ _ => true
  | .ceThreshold => true
  | .flipArm value => isWord value
  | .sramRowPromotion _ _ _ _ => true
  | .dramRepairCandidate _ _ _ => true
  | .postPackageRepair _ => true
  | .dmaGo _ value => isWord value
  | .dmaAbort _ => true
  | .dmaBurst _ _ ups => ups.all upsetOk
  | .dmaPreempt _ => true
  | .dmaBlockEnd _ => true
  | .fifoCfgWrite _ value => isWord value
  | .fifoPush _ _ _ => true
  | .fifoPop _ => true
  | .fifoFlush _ => true
  | .fifoMark _ => true
  | .fifoRewind _ => true
  | .tchEnableWrite _ => true
  | .tchInvalidate _ _ => true
  | .tchWriteback _ _ => true
  | .tchWbInv _ _ => true
  | .tchPreload _ _ _ => true
  | .tchInvalidateAll _ _ => true
  | .tchWbInvAll _ _ => true
  | .tchRangeDone => true
  | .tchEvictionWrite _ => true
  | .arbWaitExceeded _ _ _ => true
  | .fabLanePromotion _ _ => true
  | .fabPortTraining _ _ => true
  | .initBlock _ _ _ _ => true
  | .advertOriginate _ => true
  | .advertFrame _ _ wire => wireLen wire
  | .routeAgeOut _ => true
  | .frameForward _ _ wire => wireLen wire
  | .appendFrame _ _ wire => wireLen wire
  | .dataFrame _ _ wire => wireLen wire
  | .appendDataTimeout _ _ _ => true
  | .readFrame _ _ wire => wireLen wire
  | .copyFrame _ _ wire => wireLen wire
  | .witnessFrame _ _ wire => wireLen wire
  | .regFrame _ _ wire _ => wireLen wire
  | .fabricResponse _ _ wire => wireLen wire
  | .creditBlock _ _ _ => true
  | .ackBlock _ _ _ => true
  | .replayTimeout _ _ => true
  | .fabLinkFault _ => true
  | .ringHeadAdvance _ => true
  | .fabricRequestTimeout _ _ => true
  | .domainCtlWrite value => isWord value
  | .domainOnComplete _ => true
  | .domainOff _ => true
  | .domainDeferTimeout _ _ => true
  | .periodicCheckpoint _ => true
  | .checkpointRequest => true
  | .checkpointWrite => true
  | .checkpointComplete => true
  | .rescueSequence => true
  | .rescueFinalized _ => true
  | .rescueAbandoned => true
  | .checkpointRestore => true
  | .restored _ tags _ => tags.all (fun p => p.2.all decodedOk)
  | .lifetimeSecondTick => true
  | .wallTimeTick => true
  | .timeSet _ => true
  | .eventPost _ master value => fits 32 master && isWord value
  | .hardwareEventPost _ _ payload => isBytes payload
  | .recordWrite => true
  | .repeatMerge => true
  | .recordsLost => true
  | .ringScan => true
  | .calibrationDue _ => true
  | .calibrationOverdue _ => true
  | .calDone value => isWord value
  | .coreRetire _ => true
  | .core8Select _ => true
  | .spareDiscPromote _ => true
  | .hostLinkUp _ _ _ => true
  | .sasSataLinkDown _ => true
  | .perstNRelease => true
  | .iTNexusLoss _ _ => true
  | .functionLevelReset => true
  | .calrefLoss => true
  | .smbusClockLowTimeout _ => true
  | .discAttemptsClear => true
  | .zoneOpen _ => true
  | .zoneClose _ => true
  | .jtagTrstNAssert => true

/-- A command is well formed. -/
def Instr.wf (i : Instr) : Bool := i.unitOk && i.valuesOk

end Sys2Proof
end

