-- ==== Sys2Proof/Safety.lean ====
section
/-! DEFINITION. The terms in which claims are made: that a command completes, what it leaves unchanged, and the canonical form that
every step keeps. -/

namespace Sys2Proof.Machine

/-- A command completes: the device answers a next state, and P holds of it. -/
def Gives (i : Instr) (s : State) (P : State → Prop) : Prop := ∃ t, exec i s = .next t ∧ P t

/-- Every register field but the listed ones reads as before. -/
def OnlyRegs (l : List Fld) (s t : State) : Prop := ∀ f : Fld, f.key ∉ l.map Fld.key → get f t = get f s

/-- Every register field outside some blocks (R14) reads as before. -/
def OnlyBlocks (l : List Nat) (s t : State) : Prop := ∀ f : Fld, regBlock (f.key / 32) ∉ l → get f t = get f s

/-- Nothing has changed but registers and what an event leaves: the interrupt controller's latches, the recorder's queue, the
messages that have gone out and the masked vectors that wait. Memory, every unit's record and the queue are as before. -/
def OnlyEvents (s t : State) : Prop :=
  t = { s with regs := t.regs, sys := t.sys, evr := t.evr, sent := t.sent, host := { s.host with msixPend := t.host.msixPend } }

/-- Nothing has changed but registers. -/
def OnlyRegisters (s t : State) : Prop := t = { s with regs := t.regs }

/-- Every field that a reset does not keep, but the listed ones, reads its Reset value (R10). -/
def AtReset (keep : Nat → Bool) (l : List Fld) (t : State) : Prop :=
  ∀ f : Fld, keep f.key = false → f.key ∉ l.map Fld.key → get f t = f.rst

/-- Every field that a reset keeps, but the listed ones, reads as before. -/
def KeptFields (keep : Nat → Bool) (l : List Fld) (s t : State) : Prop :=
  ∀ f : Fld, keep f.key = true → f.key ∉ l.map Fld.key → get f t = get f s

/-- Memory of the kept domains reads as before, and 0 elsewhere. -/
def MemKept (keep : Nat → Bool) (s t : State) : Prop :=
  ∀ a, memByte a t = if keep (memDomain a) then memByte a s else 0

/-- Every byte outside an address range reads as before. -/
def MemOutside (a n : Nat) (s t : State) : Prop := ∀ b, ¬ (a ≤ b ∧ b < a + n) → memByte b t = memByte b s

/-- Every byte outside some address ranges, each a first address and a length, reads as before. -/
def MemOutsides (l : List (Nat × Nat)) (s t : State) : Prop :=
  ∀ b, l.any (fun p => decide (p.1 ≤ b) && decide (b < p.1 + p.2)) = false → memByte b t = memByte b s

/-- Every byte of memory reads as before. -/
def SameMem (s t : State) : Prop := ∀ a, memByte a t = memByte a s

/-- A proof request is answered (R325): its response is held for its TAG; where a receive waits for that TAG, the first one takes the
response, its header of 16 bytes before the data, cut to its allocation length, and a response that fits whole is released. -/
def Answered (r : ProofReq) (status : Nat) (data : List Nat) (s t : State) : Prop :=
  let x := { r with resp := some (status, data) }
  let l := s.seals.reqs.map (fun y => if y = r then x else y)
  let all := bytesOf 4 r.tag ++ bytesOf 2 status ++ [0, 0] ++ bytesOf 4 data.length ++ [0, 0, 0, 0] ++ data
  match s.seals.recvs.find? (fun w => w.1 == r.port && w.2.1 == r.tag % 65536) with
  | none => t.seals.reqs = l ∧ t.seals.recvs = s.seals.recvs ∧ t.sent = s.sent
  | some w => t.seals.reqs = (if all.length ≤ w.2.2 then l.erase x else l) ∧ t.seals.recvs = s.seals.recvs.erase w
      ∧ t.sent = s.sent ++ [.proof w.1 (all.take w.2.2)]

/-- The i-th of some commands finds a context of its class once those before it have been taken (R358). -/
def roomForNth (l : List HostCmd) (i : Nat) (s : State) : Bool :=
  match l[i]? with
  | none => false
  | some c =>
    decide (s.cmd.ctxs.length + i < 131072)
    && decide (classUsed (ctxClass c) s + ((l.take i).filter (fun d => ctxClass d == ctxClass c)).length < classCap (ctxClass c) s)

/-- The context as execution starts it (R362): its first LBA is the one the command names. -/
def startedCtx (c : Ctx) : Ctx := { c with started := true, lba := (match c.cmd.op with | .write a _ _ => a | _ => 0) }

/-- What ends at its start, with nothing left to wait for. -/
def endsAtOnce (op : HostOp) : Bool :=
  match op with
  | .identify | .getLog | .admin | .zoneReport | .deallocate _ _ | .format | .sanitize => true
  | _ => false

/-- The control blocks, and the frames with their numbers, that go out on a port among some messages (R425). -/
def controlsTo (p : Nat) (l : List Msg) : List Nat :=
  l.filterMap (fun m => match m with | .fabricCtl q b => if q = p then some b else none | _ => none)
def framesTo (p : Nat) (l : List Msg) : List (Nat × Frame) :=
  l.filterMap (fun m => match m with | .fabric q n f => if q = p then some (n, f) else none | _ => none)

/-- The frames that a port holds: those that wait for credits and those that wait for their ACK. -/
def heldFrames (p : Nat) (s : State) : List Frame := (fabPort p s).queue.map (·.frame) ++ (fabPort p s).replay.map (·.2)

/-- A request's response stands at the port of its route (R426, R430): TYPE + 0x80 with its TAG and a STATUS; without a route there is none. -/
def respondedWith (f : Frame) (status : Nat) (s t : State) : Bool :=
  !hasRoute f.src s || (heldFrames (routePort f.src s) t).any (fun g =>
    g.dst == f.src && g.type == f.type + 0x80 && g.tag == f.tag && g.status == status)

/-- The canonical form of a state: register keys rise, and memory lists rising addresses without a byte of 0. -/
def State.wf (s : State) : Prop := AMap.rising s.regs = true ∧ Memory.wf s.mem = true

/-- The registers that follow the axes and groups of MOT at every change of a move (R293). -/
def motShown : List Fld :=
  [0, 1, 2, 3].flatMap (fun a => [Reg.MOT_AX_STAT.STATE a, Reg.MOT_AX_POS.POS a, Reg.MOT_AX_VNOW.VEL a])
  ++ [0, 1, 2].flatMap (fun g => [Reg.MOT_GRP_STAT.DEPTH g, Reg.MOT_GRP_STAT.BUSY g])

end Sys2Proof.Machine
end

