-- ==== Sys2Proof/Certificates/Slice0/Obligations.lean ====
section
/-! DEFINITION. What is to be proved of the device: its commands by family, each with what it completes with and what it leaves
unchanged, the step, and what every step keeps. `Gives c s P` says that command c completes in state s with a state of which P holds. -/

open Sys2Proof Sys2Proof.Machine

/-- A step takes the command at the front of the queue and runs it with the rest of the queue.  Where it meets them it rests on
choices of the model: log entries 1. -/
def Obligations.StepRunsTheFrontCommand : Prop :=
  (∀ (c : Instr) (q : List Instr) (s : State), s.pending = c :: q → step s = exec c { s with pending := q }) ∧
  (∀ s : State, s.pending = [] → step s = .next s)

/-- Every command whose unit exists answers a next state, in every state. -/
def Obligations.CommandsOnUnitsThatExistComplete : Prop :=
  (∀ (c : Instr) (s : State), c.unitOk = true → ∃ t, exec c s = .next t)

/-- A command that names a unit that does not exist stops with noSuchUnit, and only such a command.  Where it meets them it rests on
choices of the model: log entries 4. -/
def Obligations.CommandsOnUnitsThatDoNotExistFault : Prop :=
  (∀ (c : Instr) (s : State), c.unitOk = false → exec c s = .fault .noSuchUnit) ∧
  (∀ (c : Instr) (s : State) (r : Refusal), exec c s ≠ .refused r)

/-- Every step keeps registers and memory in canonical form.  Where it meets them it rests on choices of the model: log entries 1. -/
def Obligations.EveryStepKeepsTheCanonicalForm : Prop :=
  (∀ s t : State, s.wf → step s = .next t → t.wf)

/-- The state after reset is in canonical form and nothing waits in its queue. -/
def Obligations.ResetIsInCanonicalForm : Prop :=
  (State.reset.wf ∧ State.reset.pending = [] ∧ State.reset.sent = [])

/-- At reset every register field reads the Reset column of its table. Rests on R10, R118, R158, R275, R395, R413. Where it meets
them it rests on choices of the model: log entries 10, 11. -/
def Obligations.ResetLeavesTheResetColumn : Prop :=
  (∀ f : Fld, get f State.reset = f.rst) ∧
  (get Reg.SYS_PATH_CFG.BAR2_EN State.reset = 1) ∧
  (get Reg.SPN_TIMEOUT.RETRACT_MS State.reset = 500) ∧
  (get Reg.ASX_HOP_CFG.STORM State.reset = 8) ∧
  (get Reg.OCH_CTL.ERASE_EN State.reset = 1) ∧
  (get Reg.TCH_CTL.EN State.reset = 0) ∧
  (get Reg.MEM_ECC_CFG.CE_THR State.reset = 1000) ∧
  (get Reg.SYS_BUS_ERR_HI.VALID State.reset = 0) ∧
  (get Reg.DRC_PPR_CFG.THR State.reset = 8) ∧
  (get Reg.CMD_ST_CFG.IDLE_MS State.reset = 100)

/-- No command touches the queue, and what has been sent stays sent. -/
def Obligations.ExecLeavesTheQueueAndWhatWasSent : Prop :=
  (∀ (c : Instr) (s t : State), exec c s = .next t → t.pending = s.pending ∧ s.sent <+: t.sent ∧ s.free ≤ t.free)

/-- A queue of commands on units that exist runs to its end, one command a step. -/
def Obligations.AQueueRunsToItsEnd : Prop :=
  (∀ s : State, s.pending.all Instr.unitOk = true → ∀ k, k ≤ s.pending.length → ∃ t : State, Host.Core.run Sys2Proof.core k s = .next t ∧ t.pending = s.pending.drop k)

/-- Accesses by masters: register writes, locks, memory, R9 pairs, BAR2. Rests on R5, R6, R9, R16, R18, R22, R24, R25. Where it
meets them it rests on choices of the model: log entries 9, 19, 20, 22, 27, 86, 141, 152, 406. -/
def Obligations.InterconnectAccessesTakeEffect : Prop :=
  (∀ (m addr v : Nat) (s : State),
    within regSpace addr 4 = true →
    accessCause (pathOpen m s) addr 4 true s = none →
    v < 2 ^ 32 →
    ceWindow addr = false →
    ((ownWrites m).find? (fun p => covers p.1 addr) = none) →
    Gives (.registerWrite m addr 4 v) s (fun t =>
      t.sys.resp = .done ∧
      (∀ p ∈ fieldsAt addr, get p.1 t = (match p.2 with | .rw => bits v p.1.lo p.1.width | .ro => get p.1 s | .wo => get p.1 s | .rwl => if isLocked addr s = true then get p.1 s else bits v p.1.lo p.1.width | .w1c => (get p.1 s - (get p.1 s &&& bits v p.1.lo p.1.width)) % 2 ^ p.1.width | .w1cn => if bits v p.1.lo p.1.width % 2 = 1 then 0 else get p.1 s | .w1s => (get p.1 s ||| bits v p.1.lo p.1.width) % 2 ^ p.1.width)) ∧
      (OnlyRegs ((fieldsAt addr).map (fun p => p.1)) s t) ∧
      t = { s with regs := t.regs, sys := t.sys, evr := t.evr, sent := t.sent, host := { s.host with msixPend := t.host.msixPend } })) ∧
  (∀ (m addr v : Nat) (s : State),
    within regSpace addr 4 = true →
    accessCause (pathOpen m s) addr 4 true s = none →
    v < 2 ^ 32 →
    Gives (.registerWrite m addr 4 v) s (fun t =>
      t = respond .done (writeReg m addr v s))) ∧
  (∀ (m addr n v c : Nat) (s : State),
    within regSpace addr 1 = true →
    accessCause (pathOpen m s) addr n true s = some c →
    Gives (.registerWrite m addr n v) s (fun t =>
      t.sys.resp = .error c)) ∧
  (∀ (m addr v : Nat) (f : Fld) (s : State),
    v < 2 ^ 32 →
    v.testBit 31 = true →
    lockOf addr = some f →
    f.addr = addr →
    accessCause (pathOpen m s) addr 4 true s = none →
    get f s ≤ 1 →
    Gives (.lockCommit m addr v) s (fun t =>
      t.sys.resp = .done ∧
      get f t = 1 ∧
      (∀ p ∈ fieldsAt addr, p.2 = .rwl → get p.1 t = if isLocked addr s = true then get p.1 s else bits v p.1.lo p.1.width))) ∧
  (∀ (m addr n : Nat) (l : List Nat) (ups : List Upset) (s : State),
    within regSpace addr 1 = false →
    accessCause (m != 14 || pathOpen 14 s) addr n true s = none →
    Gives (.memoryAccess m addr n true l ups) s (fun t =>
      t = respond .done (busStore m addr ((l ++ List.replicate n 0).take n) (ups.foldl meetUpset s)))) ∧
  (∀ (m addr n : Nat) (l : List Nat) (s : State),
    within regSpace addr 1 = false →
    accessCause (m != 14 || pathOpen 14 s) addr n true s = none →
    get Reg.TCH_CTL.EN s = 0 →
    s.memp.upsets = [] →
    s.poison = [] →
    get Reg.MEM_FLIP_CTL.ARM s = 0 →
    Gives (.memoryAccess m addr n true l []) s (fun t =>
      memRead addr n t = ((l ++ List.replicate n 0).take n).map (· % 256) ∧
      t.sys.resp = .done ∧
      MemOutside addr n s t)) ∧
  (∀ (m addr n : Nat) (l : List Nat) (ups : List Upset) (s : State),
    within regSpace addr 1 = false →
    accessCause (m != 14 || pathOpen 14 s) addr n false s = none →
    Gives (.memoryAccess m addr n false l ups) s (fun t =>
      t = respond (.data (busBytes addr n (busLoad m addr n (ups.foldl meetUpset s))).1 (busBytes addr n (busLoad m addr n (ups.foldl meetUpset s))).2) (busLoad m addr n (ups.foldl meetUpset s)))) ∧
  (∀ (m addr n : Nat) (l : List Nat) (s : State),
    within regSpace addr 1 = false →
    accessCause (m != 14 || pathOpen 14 s) addr n false s = none →
    get Reg.TCH_CTL.EN s = 0 →
    s.memp.upsets = [] →
    s.poison = [] →
    Gives (.memoryAccess m addr n false l []) s (fun t =>
      t.sys.resp = .data (memRead addr n s) false ∧
      SameMem s t)) ∧
  (∀ (m addr : Nat) (w : Bool) (l : List Nat) (s : State),
    within regSpace addr 1 = true →
    accessCause (m != 14 || pathOpen 14 s) addr 4 w s = none →
    Gives (.memoryAccess m addr 4 w l []) s (fun t =>
      (t = if w = true then respond .done (writeReg m addr (ofBytes (l.take 4)) s) else respond (.data (bytesOf 4 (readReg m addr s).1) false) (readReg m addr s).2))) ∧
  (∀ (m addr n c : Nat) (w : Bool) (l : List Nat) (ups : List Upset) (s : State),
    accessCause (m != 14 || pathOpen 14 s) addr n w s = some c →
    Gives (.memoryAccess m addr n w l ups) s (fun t =>
      t.sys.resp = .error c)) ∧
  (∀ (m addr hi : Nat) (s : State),
    upperOf addr = some hi →
    accessCause (pathOpen m s) addr 4 false s = none →
    Gives (.pairedRegisterReadLatch m addr) s (fun t =>
      t.sys.resp = .data (bytesOf 4 (peekWord addr s)) false ∧
      t.sys.pairLatch = unlatch m hi s.sys.pairLatch ++ [(m, hi, peekWord hi s)] ∧
      OnlyRegs [] s t ∧
      t = { s with regs := t.regs, sys := t.sys })) ∧
  (∀ (addr n : Nat) (w : Bool) (l : List Nat) (ups : List Upset) (s : State),
    get Reg.HPC_CFG.BAR2_IMPL s = 1 →
    get Reg.HPC_LINK.UP s = 1 →
    get Reg.SYS_PATH_CFG.BAR2_EN s = 1 →
    Gives (.bar2Request addr n w l ups) s (fun t =>
      t = access true 10 addr n w l ups s)) ∧
  (∀ (addr n : Nat) (l : List Nat) (s : State),
    get Reg.HPC_CFG.BAR2_IMPL s = 1 →
    get Reg.HPC_LINK.UP s = 1 →
    get Reg.SYS_PATH_CFG.BAR2_EN s = 1 →
    within regSpace addr 1 = false →
    accessCause true addr n true s = none →
    get Reg.TCH_CTL.EN s = 0 →
    s.memp.upsets = [] →
    s.poison = [] →
    get Reg.MEM_FLIP_CTL.ARM s = 0 →
    Gives (.bar2Request addr n true l []) s (fun t =>
      t.sys.resp = .done ∧
      memRead addr n t = ((l ++ List.replicate n 0).take n).map (· % 256))) ∧
  (∀ (addr n : Nat) (l : List Nat) (s : State),
    get Reg.HPC_CFG.BAR2_IMPL s = 1 →
    get Reg.HPC_LINK.UP s = 1 →
    get Reg.SYS_PATH_CFG.BAR2_EN s = 1 →
    within regSpace addr 1 = false →
    accessCause true addr n false s = none →
    get Reg.TCH_CTL.EN s = 0 →
    s.memp.upsets = [] →
    s.poison = [] →
    Gives (.bar2Request addr n false l []) s (fun t =>
      t.sys.resp = .data (memRead addr n s) false)) ∧
  (∀ (m c v : Nat) (s : State),
    m ≠ 10 →
    m ≠ 13 →
    m ≠ 14 →
    c < 10 →
    v < 2 ^ 32 →
    domOn 2 s = true →
    Gives (.registerWrite m (Reg.SYS_IRQ_THR.THR c).addr 4 v) s (fun t =>
      get (Reg.SYS_IRQ_THR.THR c) t = v % 8 ∧
      t.sys.resp = .done ∧
      OnlyRegs [Reg.SYS_IRQ_THR.THR c] s t ∧
      OnlyEvents s t)) ∧
  (∀ (m v : Nat) (s : State),
    m ≠ 10 →
    m ≠ 13 →
    m ≠ 14 →
    v < 2 ^ 32 →
    domOn (regDomain Reg.SYS_CLK_STAT.XIN_LOST.addr) s = true →
    get Reg.SYS_CLK_STAT.XIN_LOST s ≤ 1 →
    get Reg.SYS_CLK_STAT.PLL_LOST s ≤ 1 →
    Gives (.registerWrite m Reg.SYS_CLK_STAT.XIN_LOST.addr 4 v) s (fun t =>
      (get Reg.SYS_CLK_STAT.XIN_LOST t = (if v.testBit 8 then 0 else get Reg.SYS_CLK_STAT.XIN_LOST s)) ∧
      (get Reg.SYS_CLK_STAT.PLL_LOST t = (if v.testBit 9 then 0 else get Reg.SYS_CLK_STAT.PLL_LOST s)) ∧
      OnlyRegs [Reg.SYS_CLK_STAT.XIN_LOST, Reg.SYS_CLK_STAT.PLL_LOST] s t ∧
      OnlyEvents s t)) ∧
  (∀ (m v : Nat) (s : State),
    m ≠ 10 →
    m ≠ 13 →
    m ≠ 14 →
    v < 2 ^ 32 →
    v.testBit 31 = true →
    domOn (regDomain Reg.SYS_PATH_CFG.LOCK.addr) s = true →
    get Reg.SYS_PATH_CFG.LOCK s ≤ 1 →
    Gives (.lockCommit m Reg.SYS_PATH_CFG.LOCK.addr v) s (fun t =>
      get Reg.SYS_PATH_CFG.LOCK t = 1 ∧
      (get Reg.SYS_PATH_CFG.BAR2_EN t = (if get Reg.SYS_PATH_CFG.LOCK s = 1 then get Reg.SYS_PATH_CFG.BAR2_EN s else v % 2)) ∧
      (get Reg.SYS_PATH_CFG.FAB_EN t = (if get Reg.SYS_PATH_CFG.LOCK s = 1 then get Reg.SYS_PATH_CFG.FAB_EN s else v / 2 % 2)) ∧
      (get Reg.SYS_PATH_CFG.JTAG_EN t = (if get Reg.SYS_PATH_CFG.LOCK s = 1 then get Reg.SYS_PATH_CFG.JTAG_EN s else v / 4 % 2)) ∧
      OnlyRegs [Reg.SYS_PATH_CFG.LOCK, Reg.SYS_PATH_CFG.BAR2_EN, Reg.SYS_PATH_CFG.FAB_EN, Reg.SYS_PATH_CFG.JTAG_EN] s t ∧
      OnlyEvents s t)) ∧
  (∀ (m addr : Nat) (l : List Nat) (s : State),
    m ≠ 14 →
    0x30000000 ≤ addr →
    addr + l.length ≤ 0x31000000 →
    domOn 1 s = true →
    s.memp.upsets = [] →
    s.poison = [] →
    get Reg.MEM_FLIP_CTL.ARM s = 0 →
    Gives (.memoryAccess m addr l.length true l []) s (fun t =>
      memRead addr l.length t = l.map (· % 256) ∧
      t.sys.resp = .done ∧
      OnlyRegs [] s t ∧
      t = { s with regs := t.regs, mem := t.mem, sys := t.sys })) ∧
  (∀ (m addr n : Nat) (l : List Nat) (s : State),
    m ≠ 14 →
    0x30000000 ≤ addr →
    addr + n ≤ 0x31000000 →
    domOn 1 s = true →
    s.memp.upsets = [] →
    s.poison = [] →
    Gives (.memoryAccess m addr n false l []) s (fun t =>
      t.sys.resp = .data (memRead addr n s) false ∧
      OnlyRegs [] s t ∧
      t = { s with regs := t.regs, sys := t.sys })) ∧
  (∀ (m : Nat) (s : State),
    m ≠ 10 →
    m ≠ 13 →
    m ≠ 14 →
    domOn (regDomain Reg.TMP_COUNT_LO.COUNT.addr) s = true →
    Gives (.pairedRegisterReadLatch m Reg.TMP_COUNT_LO.COUNT.addr) s (fun t =>
      t.sys.resp = .data (bytesOf 4 (get Reg.TMP_COUNT_LO.COUNT s)) false ∧
      (m, Reg.TMP_COUNT_HI.COUNT.addr, get Reg.TMP_COUNT_HI.COUNT s) ∈ t.sys.pairLatch ∧
      OnlyRegs [] s t ∧
      t = { s with regs := t.regs, sys := t.sys })) ∧
  (∀ (c : Nat) (l : List Nat) (s : State),
    c < 10 →
    domOn 2 s = true →
    get Reg.HPC_CFG.BAR2_IMPL s = 1 →
    get Reg.HPC_LINK.UP s = 1 →
    get Reg.SYS_PATH_CFG.BAR2_EN s = 1 →
    Gives (.bar2Request (Reg.SYS_IRQ_THR.THR c).addr 4 true l []) s (fun t =>
      get (Reg.SYS_IRQ_THR.THR c) t = ofBytes (l.take 4) % 8 ∧
      t.sys.resp = .done ∧
      OnlyRegs [Reg.SYS_IRQ_THR.THR c] s t ∧
      OnlyEvents s t)) ∧
  (∀ (addr n : Nat) (w : Bool) (l : List Nat) (s : State),
    get Reg.HPC_CFG.BAR2_IMPL s = 1 →
    get Reg.HPC_LINK.UP s = 1 →
    get Reg.SYS_PATH_CFG.BAR2_EN s = 0 →
    get Reg.SYS_BUS_ERR_HI.VALID s ≤ 1 →
    Gives (.bar2Request addr n w l []) s (fun t =>
      t.sys.resp = .error 3 ∧
      get Reg.SYS_BUS_ERR_HI.VALID t = 1 ∧
      (get Reg.SYS_BUS_ERR_HI.MORE t = (if get Reg.SYS_BUS_ERR_HI.VALID s = 1 then 1 else get Reg.SYS_BUS_ERR_HI.MORE s)) ∧
      OnlyRegs [Reg.SYS_BUS_ERR_LO.ADDR_LO, Reg.SYS_BUS_ERR_HI.ADDR_HI, Reg.SYS_BUS_ERR_HI.MASTER, Reg.SYS_BUS_ERR_HI.WRITE, Reg.SYS_BUS_ERR_HI.CAUSE, Reg.SYS_BUS_ERR_HI.VALID, Reg.SYS_BUS_ERR_HI.MORE] s t ∧
      OnlyEvents s t))

/-- The interrupt controller: claim, done and route, and the CALREF gate. Rests on R27, R28, R30, R37, R525. Where it meets them it
rests on choices of the model: log entries 15, 21, 181. -/
def Obligations.InterruptControllerRows : Prop :=
  (∀ (ctx x : Nat) (s : State),
    ctx < 10 →
    offered ctx s = some x →
    Gives (.irqClaim ctx) s (fun t =>
      t.sys.resp = .data (bytesOf 4 x) false ∧
      t.sys.inService = s.sys.inService ++ [(ctx, x)] ∧
      t.sys.latched = s.sys.latched.filter (· != x) ∧
      t.sent = s.sent ++ [.claim ctx x] ∧
      OnlyRegs [] s t ∧
      t = { s with regs := t.regs, sys := t.sys, sent := t.sent })) ∧
  (∀ (ctx : Nat) (s : State),
    ctx < 10 →
    offered ctx s = none →
    Gives (.irqClaim ctx) s (fun t =>
      t.sys.resp = .data (bytesOf 4 0xFFFF) false ∧
      t.sys.inService = s.sys.inService ∧
      t.sys.latched = s.sys.latched ∧
      OnlyRegs [] s t ∧
      t = { s with regs := t.regs, sys := t.sys, sent := t.sent })) ∧
  (∀ (ctx src : Nat) (s : State),
    ctx < 10 →
    Gives (.irqDone ctx src) s (fun t =>
      t.sys.inService = s.sys.inService.filter (· != (ctx, src)) ∧
      t.sys.latched = s.sys.latched ∧
      OnlyRegs [] s t ∧
      t = { s with regs := t.regs, sys := t.sys, sent := t.sent })) ∧
  (∀ (src value : Nat) (s : State),
    src < 1056 →
    Gives (.irqRouteWrite src value) s (fun t =>
      get (Reg.SYS_IRQ_ROUTE.EN src) t = value % 2 ∧
      get (Reg.SYS_IRQ_ROUTE.PRIO src) t = value / 2 % 8 ∧
      get (Reg.SYS_IRQ_ROUTE.CTX src) t = value / 256 % 16 ∧
      t.sys.inService = s.sys.inService ∧
      (t.sys.latched = if value % 2 = 0 then s.sys.latched.filter (· != src) else s.sys.latched) ∧
      OnlyRegs [Reg.SYS_IRQ_ROUTE.EN src, Reg.SYS_IRQ_ROUTE.PRIO src, Reg.SYS_IRQ_ROUTE.CTX src] s t ∧
      OnlyEvents s t)) ∧
  (∀ (ppm : Nat) (s : State),
    s.pins.rails = true →
    s.pins.xin = true →
    -10000 ≤ toInt 16 (ppm % 65536) →
    toInt 16 (ppm % 65536) ≤ 10000 →
    Gives (.calrefGateEnd ppm) s (fun t =>
      get Reg.SYS_CLK_CALREF.PPM t = ppm % 2 ^ 16 ∧
      get Reg.SYS_CLK_CALREF.FRESH t = 1 ∧
      get Reg.SYS_CLK_CALREF.GATES t = min (get Reg.SYS_CLK_CALREF.GATES s + 1) 32767 ∧
      get Reg.SYS_CLK_STAT.CALREF_OK t = 1 ∧
      get (Reg.CAL_KIND_COUNT.COUNT 0) t = (get (Reg.CAL_KIND_COUNT.COUNT 0) s + 1) % 2 ^ 32 ∧
      OnlyRegs [Reg.SYS_CLK_CALREF.PPM, Reg.SYS_CLK_CALREF.FRESH, Reg.SYS_CLK_CALREF.GATES, Reg.SYS_CLK_STAT.CALREF_OK, Reg.CAL_KIND_COUNT.COUNT 0] s t ∧
      t = { s with regs := t.regs, pins := t.pins })) ∧
  (∀ (ppm : Nat) (s : State),
    s.pins.rails = true →
    s.pins.xin = true →
    (toInt 16 (ppm % 65536) < -10000 ∨ 10000 < toInt 16 (ppm % 65536)) →
    Gives (.calrefGateEnd ppm) s (fun t =>
      get Reg.SYS_CLK_STAT.CALREF_OK t = 0 ∧
      t.cal.traced = false ∧
      OnlyRegs [Reg.SYS_CLK_STAT.CALREF_OK] s t ∧
      t = { s with regs := t.regs, pins := t.pins, cal := t.cal }))

/-- The tempo: a boundary advances TMP_COUNT and PHASE, and a held K takes effect at PHASE 0. Rests on R65, R66, R68. Where it meets
them it rests on choices of the model: log entries 2, 24. -/
def Obligations.TempoBoundariesAdvanceTheCount : Prop :=
  (∀ (s : State),
    s.pins.xin = true →
    s.pins.rails = true →
    get Reg.TMP_COUNT_LO.COUNT s < 2 ^ 32 →
    get Reg.TMP_COUNT_HI.COUNT s < 2 ^ 16 →
    Gives (.tempoBoundary) s (fun t =>
      tmpCount t = (tmpCount s + 1) % 2 ^ 48)) ∧
  (∀ (s : State),
    s.pins.xin = true →
    s.pins.rails = true →
    s.tmp.newK = none →
    2 ≤ get Reg.TMP_PHASE.K s →
    get Reg.TMP_PHASE.K s ≤ 8 →
    get Reg.TMP_PHASE.PHASE s < get Reg.TMP_PHASE.K s →
    Gives (.tempoBoundary) s (fun t =>
      get Reg.TMP_PHASE.PHASE t = (get Reg.TMP_PHASE.PHASE s + 1) % get Reg.TMP_PHASE.K s ∧
      get Reg.TMP_PHASE.K t = get Reg.TMP_PHASE.K s)) ∧
  (∀ (k : Nat) (s : State),
    s.pins.xin = true →
    s.pins.rails = true →
    s.tmp.newK = some k →
    2 ≤ k →
    k ≤ 8 →
    2 ≤ get Reg.TMP_PHASE.K s →
    get Reg.TMP_PHASE.K s ≤ 8 →
    get Reg.TMP_PHASE.PHASE s < get Reg.TMP_PHASE.K s →
    Gives (.tempoBoundary) s (fun t =>
      ((get Reg.TMP_PHASE.PHASE s + 1 = get Reg.TMP_PHASE.K s → get Reg.TMP_PHASE.PHASE t = 0 ∧ get Reg.TMP_PHASE.K t = k)) ∧
      ((get Reg.TMP_PHASE.PHASE s + 1 < get Reg.TMP_PHASE.K s → get Reg.TMP_PHASE.PHASE t = get Reg.TMP_PHASE.PHASE s + 1 ∧ get Reg.TMP_PHASE.K t = get Reg.TMP_PHASE.K s))))

/-- Persistence of the count, the K write and the alarm. Rests on R65, R462, R68, R526, R69, R70, R80. -/
def Obligations.TempoRowsHoldTheirRules : Prop :=
  (∀ (s : State),
    domOn 1 s = true →
    domOn 2 s = true →
    Gives (.tempoCountPersist) s (fun t =>
      ((if s.tmp.turn = true then t.tmp.stored1 else t.tmp.stored0) = tmpCount s) ∧
      ((if s.tmp.turn = true then t.tmp.life1 else t.tmp.life0) = get Reg.EVR_LIFE.SECONDS s) ∧
      t.tmp.turn = !s.tmp.turn ∧
      OnlyRegs [] s t ∧
      t = { s with tmp := t.tmp })) ∧
  (∀ (k : Nat) (s : State),
    2 ≤ k →
    k ≤ 8 →
    Gives (.phaseKWrite k) s (fun t =>
      t = { s with tmp := { s.tmp with newK := some k } })) ∧
  (∀ (k : Nat) (s : State),
    k < 16 →
    (k < 2 ∨ 8 < k) →
    Gives (.phaseKWrite k) s (fun t =>
      t.tmp = s.tmp ∧
      OnlyRegs [] s t ∧
      OnlyEvents s t)) ∧
  (∀ (s : State),
    get Reg.TMP_ALARM_HI.EN s = 1 →
    get Reg.TMP_ALARM_LO.AT s + 2 ^ 32 * get Reg.TMP_ALARM_HI.AT s ≤ tmpCount s →
    Gives (.alarmFire) s (fun t =>
      get Reg.TMP_ALARM_HI.FIRED t = 1 ∧
      get Reg.TMP_ALARM_HI.EN t = 0 ∧
      OnlyRegs [Reg.TMP_ALARM_HI.EN, Reg.TMP_ALARM_HI.FIRED] s t ∧
      OnlyEvents s t)) ∧
  (∀ (e j : Nat) (x : Int) (p : Program) (s : State),
    e < 4 →
    j < 8 →
    (ceOf e s).prog = some p →
    isService e s = true →
    policyOf p j ≠ 3 →
    AMap.lookup j (wedgeValues e s) = some x →
    Gives (.wedgeLatch) s (fun t =>
      AMap.getD (ceOf e t).inVal j 0 = x ∧
      j ∈ (ceOf e t).inOk ∧
      AMap.getD (ceOf e t).misses j 0 = 0 ∧
      OnlyRegs [] s t ∧
      t = { s with ce := t.ce, act := t.act })) ∧
  (∀ (e j : Nat) (p : Program) (s : State),
    e < 4 →
    j < 8 →
    (ceOf e s).prog = some p →
    isService e s = true →
    policyOf p j ≠ 3 →
    AMap.lookup j (wedgeValues e s) = none →
    Gives (.wedgeLatch) s (fun t =>
      j ∉ (ceOf e t).inOk ∧
      AMap.getD (ceOf e t).misses j 0 = AMap.getD (ceOf e s).misses j 0 + 1 ∧
      (AMap.getD (ceOf e t).inVal j 0 = (if policyOf p j = 2 then 0 else AMap.getD (ceOf e s).inVal j 0)) ∧
      OnlyRegs [] s t ∧
      t = { s with ce := t.ce, act := t.act })) ∧
  (∀ (s : State),
    Gives (.wedgeLatch) s (fun t =>
      ((∀ e ∈ List.range 4, ((ceOf e s).prog = none ∨ isService e s = false) → (ceOf e t).inVal = (ceOf e s).inVal ∧ (ceOf e t).inOk = (ceOf e s).inOk)) ∧
      OnlyRegs [] s t ∧
      t = { s with ce := t.ce, act := t.act })) ∧
  (∀ (e g : Nat) (s : State),
    e < 4 →
    g < 32 →
    domOn 6 s = true →
    Gives (.outputWrite) s (fun t =>
      AMap.getD (ceOf e t).out g 0 = slotValue e g s ∧
      (ceOf e t).state = committed (ceOf e s) ∧
      (ceOf e t).fresh = [] ∧
      SameMem s t))

/-- Hecel NOP, CLR, LDA, MAC, MSU, LIM: the accumulator and one cycle. Rests on R71, R72, R73, R77, R78. -/
def Obligations.HecelArithmeticUpdatesTheAccumulator : Prop :=
  (∀ (e pred a c : Nat) (s : State),
    e < 5 →
    canIssue e 0 pred a c s = true →
    Gives (.hecelNop e pred a c) s (fun t =>
      (ceOf e t).acc = (ceOf e s).acc ∧
      (ceOf e t).pc = (ceOf e s).pc + 1 ∧
      (ceOf e t).cycle = issueCycle (ceOf e s) a + 1 ∧
      OnlyRegs [] s t ∧
      t = { s with regs := t.regs, ce := t.ce })) ∧
  (∀ (e pred a c : Nat) (s : State),
    e < 5 →
    canIssue e 1 pred a c s = true →
    Gives (.hecelClr e pred a c) s (fun t =>
      ((ceOf e t).acc = (if predPasses e pred a s = true then 0 else (ceOf e s).acc)) ∧
      (ceOf e t).pc = (ceOf e s).pc + 1 ∧
      (ceOf e t).cycle = issueCycle (ceOf e s) a + 1 ∧
      OnlyRegs [] s t ∧
      t = { s with regs := t.regs, ce := t.ce })) ∧
  (∀ (e pred a c : Nat) (s : State),
    e < 5 →
    canIssue e 4 pred a c s = true →
    Gives (.hecelLda e pred a c) s (fun t =>
      ((ceOf e t).acc = (if predPasses e pred a s = true then signal e a s * 2 ^ 30 else (ceOf e s).acc)) ∧
      (ceOf e t).pc = (ceOf e s).pc + 1 ∧
      (ceOf e t).cycle = issueCycle (ceOf e s) a + 1 ∧
      OnlyRegs [] s t ∧
      t = { s with regs := t.regs, ce := t.ce })) ∧
  (∀ (e pred a c : Nat) (s : State),
    e < 5 →
    canIssue e 2 pred a c s = true →
    Gives (.hecelMac e pred a c) s (fun t =>
      ((ceOf e t).acc = (if predPasses e pred a s = true then satTo 72 ((ceOf e s).acc + satTo 72 (shiftProduct (coefM (coef e c s) * signal e a s) (coefS (coef e c s)))) else (ceOf e s).acc)) ∧
      (ceOf e t).pc = (ceOf e s).pc + 1 ∧
      (ceOf e t).cycle = issueCycle (ceOf e s) a + 1 ∧
      OnlyRegs [Reg.CE_STAT.ACC_SAT e] s t ∧
      t = { s with regs := t.regs, ce := t.ce })) ∧
  (∀ (e pred a c : Nat) (s : State),
    e < 5 →
    canIssue e 3 pred a c s = true →
    Gives (.hecelMsu e pred a c) s (fun t =>
      ((ceOf e t).acc = (if predPasses e pred a s = true then satTo 72 ((ceOf e s).acc - satTo 72 (shiftProduct (coefM (coef e c s) * signal e a s) (coefS (coef e c s)))) else (ceOf e s).acc)) ∧
      (ceOf e t).pc = (ceOf e s).pc + 1 ∧
      (ceOf e t).cycle = issueCycle (ceOf e s) a + 1 ∧
      OnlyRegs [Reg.CE_STAT.ACC_SAT e] s t ∧
      t = { s with regs := t.regs, ce := t.ce })) ∧
  (∀ (e pred a c : Nat) (s : State),
    e < 5 →
    canIssue e 7 pred a c s = true →
    Gives (.hecelLim e pred a c) s (fun t =>
      ((ceOf e t).acc = (if predPasses e pred a s = true then satTo 72 (min (max (ceOf e s).acc (coefValue (coef e c s))) (coefValue (coef e (c + 1) s))) else (ceOf e s).acc)) ∧
      ((predPasses e pred a s = true → (ceOf e t).satd = roundAcc ((ceOf e t).acc - (ceOf e s).acc))) ∧
      (ceOf e t).pc = (ceOf e s).pc + 1 ∧
      (ceOf e t).cycle = issueCycle (ceOf e s) a + 1 ∧
      OnlyRegs [] s t ∧
      t = { s with regs := t.regs, ce := t.ce }))

/-- Hecel ST, OUT, SETF, END, reserved codes and TFETCH. Rests on R73, R77, R78, R528. Where it meets them it rests on choices of
the model: log entries 20. -/
def Obligations.HecelStoresAndControl : Prop :=
  (∀ (e pred a c : Nat) (s : State),
    e < 5 →
    canIssue e 5 pred a c s = true →
    Gives (.hecelSt e pred a c) s (fun t =>
      ((predPasses e pred a s = true → AMap.lookup (c % 256) (ceOf e t).fresh = some (satTo 32 (((ceOf e s).acc + 2 ^ 29) / 2 ^ 30)))) ∧
      (ceOf e t).state = (ceOf e s).state ∧
      (ceOf e t).pc = (ceOf e s).pc + 1 ∧
      (ceOf e t).cycle = issueCycle (ceOf e s) a + 1 ∧
      OnlyRegs [] s t ∧
      t = { s with regs := t.regs, ce := t.ce })) ∧
  (∀ (e pred a c : Nat) (s : State),
    e < 5 →
    canIssue e 6 pred a c s = true →
    Gives (.hecelOut e pred a c) s (fun t =>
      ((predPasses e pred a s = true → AMap.lookup (c % 32) (ceOf e t).outNew = some (satTo 32 (((ceOf e s).acc + 2 ^ 29) / 2 ^ 30)))) ∧
      (ceOf e t).out = (ceOf e s).out ∧
      (ceOf e t).pc = (ceOf e s).pc + 1 ∧
      (ceOf e t).cycle = issueCycle (ceOf e s) a + 1 ∧
      OnlyRegs [] s t ∧
      t = { s with regs := t.regs, ce := t.ce })) ∧
  (∀ (e pred a c : Nat) (s : State),
    e < 5 →
    canIssue e 9 pred a c s = true →
    Gives (.hecelSetf e pred a c) s (fun t =>
      ((ceOf e t).flag = (if predPasses e pred a s = true then decide (0 ≤ (ceOf e s).acc) else (ceOf e s).flag)) ∧
      (ceOf e t).pc = (ceOf e s).pc + 1 ∧
      (ceOf e t).cycle = issueCycle (ceOf e s) a + 1 ∧
      OnlyRegs [] s t ∧
      t = { s with regs := t.regs, ce := t.ce })) ∧
  (∀ (e pred a c : Nat) (s : State),
    e < 5 →
    canIssue e 10 pred a c s = true →
    Gives (.hecelEnd e pred a c) s (fun t =>
      ((predPasses e pred a s = true → (ceOf e t).ended = true ∧ get (Reg.CE_CYCLES.LAST e) t = issueCycle (ceOf e s) a)) ∧
      (ceOf e t).pc = (ceOf e s).pc + 1 ∧
      (ceOf e t).cycle = issueCycle (ceOf e s) a + 1 ∧
      OnlyRegs [Reg.CE_CYCLES.LAST e, Reg.CE_CYCLES.MAX e] s t ∧
      t = { s with regs := t.regs, ce := t.ce })) ∧
  (∀ (e op pred a c : Nat) (s : State),
    e < 5 →
    11 ≤ op →
    canIssue e op pred a c s = true →
    Gives (.hecelReservedOp e op pred a c) s (fun t =>
      get (Reg.CE_STAT.BAD_OP e) t = 1 ∧
      (ceOf e t).acc = (ceOf e s).acc ∧
      (ceOf e t).pc = (ceOf e s).pc + 1 ∧
      OnlyRegs [Reg.CE_STAT.BAD_OP e] s t ∧
      t = { s with regs := t.regs, ce := t.ce })) ∧
  (∀ (e pred a c : Nat) (s : State),
    e < 5 →
    canIssue e 8 pred a c s = true →
    Gives (.hecelTfetch e pred a c true) s (fun t =>
      ((predPasses e pred a s = true → accessCause true (tfetchAddr (coef e c s) (signal e a s)) 4 false s = none → (ceOf e t).tbl = toInt 32 (memNat (tfetchAddr (coef e c s) (signal e a s)) 4 s) ∧ (ceOf e t).tblOk = true)) ∧
      ((predPasses e pred a s = true → accessCause true (tfetchAddr (coef e c s) (signal e a s)) 4 false s ≠ none → (ceOf e t).tbl = 0 ∧ (ceOf e t).tblOk = false ∧ get (Reg.CE_STAT.TF_ERR e) t = 1)) ∧
      (ceOf e t).pc = (ceOf e s).pc + 1 ∧
      (ceOf e t).cycle = issueCycle (ceOf e s) a + 24 ∧
      OnlyRegs [Reg.CE_STAT.TF_ERR e, Reg.SYS_BUS_ERR_LO.ADDR_LO, Reg.SYS_BUS_ERR_HI.ADDR_HI, Reg.SYS_BUS_ERR_HI.MASTER, Reg.SYS_BUS_ERR_HI.WRITE, Reg.SYS_BUS_ERR_HI.CAUSE, Reg.SYS_BUS_ERR_HI.VALID, Reg.SYS_BUS_ERR_HI.MORE] s t ∧
      t = { s with regs := t.regs, sys := t.sys, ce := t.ce, evr := t.evr, sent := t.sent, host := { s.host with msixPend := t.host.msixPend } })) ∧
  (∀ (e pred a c : Nat) (s : State),
    e < 5 →
    canIssue e 8 pred a c s = true →
    Gives (.hecelTfetch e pred a c false) s (fun t =>
      ((predPasses e pred a s = true → (ceOf e t).stalled = some (tfetchAddr (coef e c s) (signal e a s)))) ∧
      (ceOf e t).pc = (ceOf e s).pc + 1 ∧
      OnlyRegs [] s t ∧
      t = { s with regs := t.regs, ce := t.ce })) ∧
  (∀ (e n x : Nat) (s : State),
    e < 5 →
    (ceOf e s).stalled = some x →
    Gives (.tfetchReturn e n) s (fun t =>
      (ceOf e t).stalled = none ∧
      (ceOf e t).cycle = (ceOf e s).cycle + n ∧
      ((accessCause true x 4 false s = none → (ceOf e t).tbl = toInt 32 (memNat x 4 s))) ∧
      OnlyRegs [Reg.CE_STAT.TF_ERR e, Reg.SYS_BUS_ERR_LO.ADDR_LO, Reg.SYS_BUS_ERR_HI.ADDR_HI, Reg.SYS_BUS_ERR_HI.MASTER, Reg.SYS_BUS_ERR_HI.WRITE, Reg.SYS_BUS_ERR_HI.CAUSE, Reg.SYS_BUS_ERR_HI.VALID, Reg.SYS_BUS_ERR_HI.MORE] s t ∧
      t = { s with regs := t.regs, sys := t.sys, ce := t.ce, evr := t.evr, sent := t.sent, host := { s.host with msixPend := t.host.msixPend } }))

/-- Overruns, misses, failures, swaps, window writes and monitor trips. Rests on R81, R82, R83, R84, R85, R86, R88. Where it meets
them it rests on choices of the model: log entries 29, 32, 34. -/
def Obligations.EngineFaultsAndCastling : Prop :=
  (∀ (e : Nat) (s : State),
    e < 5 →
    engineRuns e s = true →
    (ceOf e s).ended = false →
    (ceOf e s).cycle < 4000 →
    Gives (.programOverrun e) s (fun t =>
      get (Reg.CE_STAT.OVERRUN e) t = 1 ∧
      (ceOf e t).fresh = [] ∧
      (ceOf e t).outNew = [] ∧
      (ceOf e t).state = (ceOf e s).state ∧
      OnlyRegs [Reg.CE_STAT.OVERRUN e] s t ∧
      t = { s with regs := t.regs, sys := t.sys, evr := t.evr, sent := t.sent, ce := t.ce, host := { s.host with msixPend := t.host.msixPend } })) ∧
  (∀ (e j : Nat) (p : Program) (s : State),
    e < 5 →
    j < 64 →
    progOf e s = some p →
    policyOf p j ≠ 3 →
    0 < limitOf p j →
    limitOf p j ≤ AMap.getD (ceOf e s).misses j 0 →
    j ∉ (ceOf e s).sawMiss →
    get (Reg.CE_MISS_LO.SLOT e) s < 2 ^ 32 →
    get (Reg.CE_MISS_HI.SLOT e) s < 2 ^ 32 →
    Gives (.missLimitReached e j) s (fun t =>
      (get (missFld e j) t).testBit (j % 32) = true ∧
      OnlyRegs [Reg.CE_MISS_LO.SLOT e, Reg.CE_MISS_HI.SLOT e] s t ∧
      t = { s with regs := t.regs, sys := t.sys, evr := t.evr, sent := t.sent, ce := t.ce, host := { s.host with msixPend := t.host.msixPend } })) ∧
  (∀ (e : Nat) (b : Bool) (s : State),
    e < 5 →
    domOn 6 s = true →
    engineFails e b s = true →
    get Reg.CE_FAULT.FAILED s < 32 →
    Gives (.engineFailure e b) s (fun t =>
      (ceOf e t).failed = true ∧
      (get Reg.CE_FAULT.FAILED t).testBit e = true ∧
      ((e ≠ 4 → shadowed e s = true → (ceOf 4 t).promoting = true)) ∧
      OnlyRegs [Reg.CE_FAULT.FAILED] s t ∧
      t = { s with regs := t.regs, sys := t.sys, evr := t.evr, sent := t.sent, ce := t.ce, host := { s.host with msixPend := t.host.msixPend } })) ∧
  (∀ (e n : Nat) (s : State),
    e < 5 →
    get (Reg.CE_SWAP.REQ e) s = 0 →
    Gives (.swapRequest e n) s (fun t =>
      get (Reg.CE_SWAP.REQ e) t = 1 ∧
      (ceOf e t).swapLate = decide (3984 < n) ∧
      get (Reg.CE_SWAP.ACTIVE e) t = get (Reg.CE_SWAP.ACTIVE e) s ∧
      OnlyRegs [Reg.CE_SWAP.REQ e] s t ∧
      t = { s with regs := t.regs, ce := t.ce })) ∧
  (∀ (e w x n : Nat) (s : State),
    e < 5 →
    w < 1024 →
    windowStalls e n s = false →
    Gives (.coefWindowWrite e w x n) s (fun t =>
      ((if get (Reg.CE_SWAP.ACTIVE e) s = 1 then bits (AMap.getD (ceOf e t).bank0 (w / 2) 0) (32 * (w % 2)) 32 = x % 2 ^ 32 ∧ (ceOf e t).bank1 = (ceOf e s).bank1 else bits (AMap.getD (ceOf e t).bank1 (w / 2) 0) (32 * (w % 2)) 32 = x % 2 ^ 32 ∧ (ceOf e t).bank0 = (ceOf e s).bank0)) ∧
      OnlyRegs [] s t ∧
      t = { s with ce := t.ce })) ∧
  (∀ (e w x n : Nat) (s : State),
    e < 5 →
    w < 1024 →
    windowStalls e n s = true →
    Gives (.coefWindowWrite e w x n) s (fun t =>
      (ceOf e t).bank0 = (ceOf e s).bank0 ∧
      (ceOf e t).bank1 = (ceOf e s).bank1 ∧
      (ceOf e t).held = (ceOf e s).held ++ [(w, x)] ∧
      OnlyRegs [] s t ∧
      t = { s with ce := t.ce })) ∧
  (∀ (e m : Nat) (s : State),
    e < 5 →
    m < 16 →
    get (Reg.CE_FE_CFG.EN e m) s = 1 →
    get (Reg.CE_FE_CFG.TRIP e m) s = 0 →
    max 1 (get (Reg.CE_FE_CFG.TIME e m) s) ≤ AMap.getD (ceOf e s).timers m 0 →
    Gives (.followingErrorTrip e m) s (fun t =>
      get (Reg.CE_FE_CFG.TRIP e m) t = 1 ∧
      OnlyRegs [Reg.CE_FE_CFG.TRIP e m] s t ∧
      t = { s with regs := t.regs, sys := t.sys, evr := t.evr, sent := t.sent, ce := t.ce, host := { s.host with msixPend := t.host.msixPend } }))

/-- Stage links: outbound frames, return frames, faults. Rests on R69, R70, R89, R90, R92, R527. Where it meets them it rests on
choices of the model: log entries 27, 28, 29, 31, 186, 187. -/
def Obligations.StageLinksCarryTheirFrames : Prop :=
  (∀ (l : Nat) (s : State),
    l < 2 →
    onAt (Reg.STG_CTL.EN l) s = true →
    get (Reg.STG_CTL.EN l) s = 1 →
    s.boot.awaitBoot = false →
    Gives (.stageOutboundFrame l) s (fun t =>
      (t.sent = s.sent ++ [.stageFrame l (if l = 0 then diskFrame s else discFrame s)]) ∧
      ((if l = 0 then diskFrame s else discFrame s).headD 0 % 256 = tmpCount s % 256) ∧
      OnlyRegs [] s t ∧
      t = { s with sent := t.sent })) ∧
  (∀ (words : List Nat) (speed angle i : Nat) (back : Bool) (s : State),
    onAt (Reg.STG_CTL.EN 0) s = true →
    get (Reg.STG_CTL.EN 0) s = 1 →
    words.length = 30 →
    bits (words.headD 0) 8 4 = 2 →
    i < 13 →
    Gives (.stageReturnFrame 0 words true false speed angle back) s (fun t =>
      (stgOf 0 t).words = words ∧
      (stgOf 0 t).arrived = true ∧
      (stgOf 0 t).safe = (words.headD 0).testBit 12 ∧
      AMap.lookup (8 + i) (ceOf 2 t).arrived = some (toInt 32 (words.getD (i + 1) 0 % 65536 * 65536)) ∧
      SameMem s t)) ∧
  (∀ (words : List Nat) (speed angle i : Nat) (back : Bool) (s : State),
    onAt (Reg.STG_CTL.EN 1) s = true →
    get (Reg.STG_CTL.EN 1) s = 1 →
    words.length = 30 →
    bits (words.headD 0) 8 4 = 2 →
    i < 13 →
    Gives (.stageReturnFrame 1 words true false speed angle back) s (fun t =>
      (stgOf 1 t).words = words ∧
      (stgOf 1 t).arrived = true ∧
      AMap.lookup (32 + i) (ceOf 3 t).arrived = some (toInt 32 (words.getD (i + 1) 0 % 65536 * 65536)) ∧
      SameMem s t)) ∧
  (∀ (l : Nat) (words : List Nat) (good : Bool) (speed angle : Nat) (back : Bool) (s : State),
    l < 2 →
    onAt (Reg.STG_CTL.EN l) s = true →
    get (Reg.STG_CTL.EN l) s = 1 →
    Gives (.stageReturnFrame l words good true speed angle back) s (fun t =>
      (get (Reg.CE_STAT.LATE (if l = 0 then 2 else 3)) t = min (get (Reg.CE_STAT.LATE (if l = 0 then 2 else 3)) s + 1) (2 ^ (Reg.CE_STAT.LATE 0).width - 1)) ∧
      OnlyRegs [Reg.CE_STAT.LATE 0, Reg.CE_STAT.LATE 1, Reg.CE_STAT.LATE 2, Reg.CE_STAT.LATE 3] s t ∧
      OnlyRegisters s t)) ∧
  (∀ (l : Nat) (words : List Nat) (speed angle : Nat) (back : Bool) (s : State),
    l < 2 →
    Gives (.stageReturnFrame l words false false speed angle back) s (fun t =>
      t = s)) ∧
  (∀ (s : State),
    3 ≤ get (Reg.STG_STAT.MISS 0) s →
    (stgOf 0 s).declared = false →
    Gives (.stageLinkFault 0) s (fun t =>
      get (Reg.STG_STAT.FAULT 0) t = 1 ∧
      (stgOf 0 t).declared = true ∧
      get (Reg.ACT_STAT.PERMIT1 0) t = 0 ∧
      get (Reg.ACT_STAT.PERMIT2 0) t = 0 ∧
      get (Reg.ACT_STAT.PERMIT1 1) t = 0 ∧
      get (Reg.ACT_STAT.PERMIT2 1) t = 0 ∧
      SameMem s t)) ∧
  (∀ (s : State),
    3 ≤ get (Reg.STG_STAT.MISS 1) s →
    (stgOf 1 s).declared = false →
    Gives (.stageLinkFault 1) s (fun t =>
      get (Reg.STG_STAT.FAULT 1) t = 1 ∧
      (stgOf 1 t).declared = true ∧
      SameMem s t))

/-- The spindle from OFF to RUN: start, measure, align, ramp, handover. Rests on R96, R98, R99, R100, R101, R102, R103, R105. Where
it meets them it rests on choices of the model: log entries 36, 188, 193. -/
def Obligations.SpindleStartsAndHandsOver : Prop :=
  (∀ (s : State),
    s.spn.target = 0 →
    effTarget s ≠ 0 →
    s.boot.spinHeld = false →
    Gives (.spnStartCommand) s (fun t =>
      get Reg.SPN_START_CNT.STARTS t = (get Reg.SPN_START_CNT.STARTS s + 1) % 2 ^ Reg.SPN_START_CNT.STARTS.width ∧
      t.spn.target = effTarget s ∧
      (get Reg.SPN_STAT.STATE t = (if get Reg.SPN_STAT.STATE s = 0 ∨ (get Reg.SPN_STAT.STATE s = 13 ∧ s.spn.rearmed = true) ∨ (get Reg.SPN_STAT.STATE s = 10 ∧ get Reg.SPN_STAT.RESTART_PEND s = 0) then 1 else if get Reg.SPN_STAT.STATE s = 9 then 6 else get Reg.SPN_STAT.STATE s)) ∧
      OnlyBlocks [0, 4, 5, 6, 7] s t ∧
      SameMem s t)) ∧
  (∀ (v a : Nat) (s : State),
    get Reg.SPN_STAT.STATE s = 1 →
    800 ≤ s.spn.tempos →
    20 * get Reg.SPN_TARGET.RPM s ≤ 100 * v →
    v < 2 ^ Reg.SPN_SPEED.SPEED.width →
    Gives (.spnMeasureEnd false v a) s (fun t =>
      get Reg.SPN_STAT.STATE t = 6 ∧
      get Reg.SPN_SPEED.SPEED t = v ∧
      get Reg.SPN_SPEED.BACKWARD t = 0 ∧
      t.spn.angle = a ∧
      t.spn.profile = 50000 * (v : Int) ∧
      get Reg.SPN_START_CNT.CATCHES t = (get Reg.SPN_START_CNT.CATCHES s + 1) % 2 ^ Reg.SPN_START_CNT.CATCHES.width ∧
      OnlyBlocks [0, 4, 5, 6, 7] s t ∧
      SameMem s t)) ∧
  (∀ (v a : Nat) (s : State),
    get Reg.SPN_STAT.STATE s = 1 →
    800 ≤ s.spn.tempos →
    4 * get Reg.SPN_TARGET.RPM s ≤ 100 * v →
    v < 2 ^ Reg.SPN_SPEED.SPEED.width →
    Gives (.spnMeasureEnd true v a) s (fun t =>
      get Reg.SPN_STAT.STATE t = 2 ∧
      get Reg.SPN_SPEED.BACKWARD t = 1 ∧
      get Reg.SPN_STAT.REVERSE t = 1 ∧
      get Reg.SPN_SPEED.SPEED t = v ∧
      OnlyBlocks [0, 4, 5, 6, 7] s t ∧
      SameMem s t)) ∧
  (∀ (b : Bool) (v a : Nat) (s : State),
    get Reg.SPN_STAT.STATE s = 1 →
    800 ≤ s.spn.tempos →
    (100 * v < (if b = true then 4 else 20) * get Reg.SPN_TARGET.RPM s) →
    v < 2 ^ Reg.SPN_SPEED.SPEED.width →
    Gives (.spnMeasureEnd b v a) s (fun t =>
      get Reg.SPN_STAT.STATE t = 3 ∧
      (get Reg.SPN_SPEED.SPEED t = (if 1000 * v < 20 * get Reg.SPN_TARGET.RPM s then 0 else v)) ∧
      get Reg.SPN_STAT.REVERSE t = b2n b ∧
      OnlyBlocks [0, 4, 5, 6, 7] s t ∧
      SameMem s t)) ∧
  (∀ (s : State),
    get Reg.SPN_STAT.STATE s = 2 →
    100 * get Reg.SPN_SPEED.SPEED s < 4 * get Reg.SPN_TARGET.RPM s →
    Gives (.spnBackbrakeEnd) s (fun t =>
      get Reg.SPN_STAT.STATE t = 3 ∧
      OnlyBlocks [0, 4, 5, 6, 7] s t ∧
      SameMem s t)) ∧
  (∀ (s : State),
    get Reg.SPN_STAT.STATE s = 3 →
    200 * get Reg.SPN_START.ALIGN_MS s ≤ s.spn.tempos →
    Gives (.spnAlignEnd) s (fun t =>
      get Reg.SPN_STAT.STATE t = 4 ∧
      t.spn.openV = 0 ∧
      OnlyBlocks [0, 4, 5, 6, 7] s t ∧
      SameMem s t)) ∧
  (∀ (s : State),
    get Reg.SPN_STAT.STATE s = 4 →
    200000 * get Reg.SPN_HANDOVER.RPM s ≤ s.spn.openV →
    Gives (.spnRampEnd) s (fun t =>
      get Reg.SPN_STAT.STATE t = 5 ∧
      OnlyBlocks [0, 4, 5, 6, 7] s t ∧
      SameMem s t)) ∧
  (∀ (s : State),
    get Reg.SPN_STAT.STATE s = 5 →
    get Reg.SPN_HANDOVER.CONV_TEMPOS s ≤ s.spn.agreeRow →
    Gives (.spnHandoverConverged) s (fun t =>
      get Reg.SPN_STAT.STATE t = 6 ∧
      t.spn.profile = 50000 * (get Reg.SPN_SPEED.SPEED s : Int) ∧
      OnlyBlocks [0, 4, 5, 6, 7] s t ∧
      SameMem s t)) ∧
  (∀ (s : State),
    get Reg.SPN_STAT.STATE s = 5 →
    600000 * get Reg.SPN_HANDOVER.RPM s ≤ 2 * s.spn.openV →
    Gives (.spnHandoverFail) s (fun t =>
      get Reg.SPN_STAT.STATE t = 10 ∧
      get Reg.SPN_FAULT.START_FAIL t = 1 ∧
      OnlyBlocks [0, 4, 5, 6, 7] s t ∧
      SameMem s t)) ∧
  (∀ (s : State),
    get Reg.SPN_STAT.STATE s = 6 →
    20000 ≤ s.spn.bandRow →
    Gives (.spnRunEntry) s (fun t =>
      get Reg.SPN_STAT.STATE t = 7 ∧
      get Reg.SPN_STAT.LOCK t = 1 ∧
      get Reg.SPN_STAT.NOT_READY t = 0 ∧
      OnlyBlocks [0, 4, 5, 6, 7] s t ∧
      SameMem s t))

/-- The spindle: targets, the curve, stops, restarts and timeouts. Rests on R96, R97, R98, R99, R104, R114, R115, R116. Where it
meets them it rests on choices of the model: log entries 35, 189. -/
def Obligations.SpindleTargetsAndStops : Prop :=
  (∀ (v : Nat) (s : State),
    (v = 5000 ∨ v = 6000 ∨ v = 7500 ∨ v = 10000) →
    (effTarget s ≠ get Reg.SPN_TARGET.RPM s ∨ get Reg.SPN_STAT.STATE s = 0) →
    Gives (.spnTargetWrite v) s (fun t =>
      get Reg.SPN_TARGET.RPM t = v ∧
      OnlyBlocks [0, 4, 5, 6, 7] s t ∧
      SameMem s t)) ∧
  (∀ (v : Nat) (s : State),
    v < 2 ^ 16 →
    ((v ≠ 5000 ∧ v ≠ 6000 ∧ v ≠ 7500 ∧ v ≠ 10000) ∨ (effTarget s = get Reg.SPN_TARGET.RPM s ∧ get Reg.SPN_STAT.STATE s ≠ 0)) →
    Gives (.spnTargetWrite v) s (fun t =>
      get Reg.SPN_TARGET.RPM t = get Reg.SPN_TARGET.RPM s ∧
      OnlyBlocks [0, 4, 5, 6, 7] s t ∧
      SameMem s t)) ∧
  (∀ (v : Nat) (s : State),
    Gives (.plevelWrite v) s (fun t =>
      get Reg.SPN_CTL.PLEVEL t = v % 256 ∧
      t.spn.curveNext.isSome = true ∧
      OnlyBlocks [0, 4, 5, 6, 7] s t ∧
      SameMem s t)) ∧
  (∀ (s : State),
    effTarget s = 0 →
    (s.spn.target ≠ 0 ∨ (3 ≤ get Reg.SPN_STAT.STATE s ∧ get Reg.SPN_STAT.STATE s ≤ 7)) →
    Gives (.spnStopCommand) s (fun t =>
      t.spn.target = 0 ∧
      (get Reg.SPN_STAT.STATE t = (if 3 ≤ get Reg.SPN_STAT.STATE s ∧ get Reg.SPN_STAT.STATE s ≤ 5 then 10 else if get Reg.SPN_STAT.STATE s = 6 ∨ get Reg.SPN_STAT.STATE s = 7 then 9 else get Reg.SPN_STAT.STATE s)) ∧
      OnlyBlocks [0, 4, 5, 6, 7] s t ∧
      SameMem s t)) ∧
  (∀ (s : State),
    get Reg.SPN_STAT.STATE s = 13 →
    effTarget s ≠ 0 →
    Gives (.spnRestart) s (fun t =>
      get Reg.SPN_STAT.STATE t = 1 ∧
      get Reg.SPN_STAT.ATTEMPTS t = 0 ∧
      get Reg.SPN_START_CNT.STARTS t = (get Reg.SPN_START_CNT.STARTS s + 1) % 2 ^ Reg.SPN_START_CNT.STARTS.width ∧
      OnlyBlocks [0, 4, 5, 6, 7] s t ∧
      SameMem s t)) ∧
  (∀ (s : State),
    get Reg.SPN_STAT.STATE s = 13 →
    effTarget s = 0 →
    Gives (.spnRestart) s (fun t =>
      get Reg.SPN_STAT.STATE t = 13 ∧
      get Reg.SPN_STAT.ATTEMPTS t = 0 ∧
      get Reg.SPN_FAULT.FAULT t = 0 ∧
      t.spn.rearmed = true ∧
      OnlyBlocks [0, 4, 5, 6, 7] s t ∧
      SameMem s t)) ∧
  (∀ (s : State),
    get Reg.SPN_STAT.STATE s ≠ 13 →
    Gives (.spnRestart) s (fun t =>
      get Reg.SPN_STAT.ATTEMPTS t = 0 ∧
      get Reg.SPN_FAULT.FAULT t = 0 ∧
      get Reg.SPN_STAT.STATE t = get Reg.SPN_STAT.STATE s ∧
      OnlyBlocks [0, 4, 5, 6, 7] s t ∧
      SameMem s t)) ∧
  (∀ (s : State),
    get Reg.SPN_STAT.STATE s = 6 →
    200000 * get Reg.SPN_TIMEOUT.START_S s ≤ tmpCount s - s.spn.startAt →
    Gives (.spnStartTimeout) s (fun t =>
      get Reg.SPN_STAT.STATE t = 9 ∧
      get Reg.SPN_FAULT.TIMEOUT t = 1 ∧
      OnlyBlocks [0, 4, 5, 6, 7] s t ∧
      SameMem s t)) ∧
  (∀ (s : State),
    get Reg.SPN_STAT.STATE s = 9 →
    100 * get Reg.SPN_SPEED.SPEED s < 4 * get Reg.SPN_BRAKE.SHORT_PCT s * get Reg.SPN_TARGET.RPM s →
    Gives (.spnBrakeToShort) s (fun t =>
      get Reg.SPN_STAT.STATE t = 10 ∧
      OnlyBlocks [0, 4, 5, 6, 7] s t ∧
      SameMem s t)) ∧
  (∀ (s : State),
    get Reg.SPN_STAT.STATE s = 10 →
    200000 ≤ s.spn.lowRow →
    Gives (.spnStopped) s (fun t =>
      get Reg.SPN_SPEED.BACKWARD t = 0 ∧
      (get Reg.SPN_STAT.STATE t = (if get Reg.SPN_STAT.RESTART_PEND s = 1 then 12 else if s.spn.noRestart = true then 13 else 0)) ∧
      OnlyBlocks [0, 4, 5, 6, 7] s t ∧
      SameMem s t)) ∧
  (∀ (s : State),
    get Reg.SPN_STAT.STATE s = 12 →
    200 * get Reg.SPN_RESTART.DELAY_MS s ≤ tmpCount s - s.spn.delayAt →
    ((s.spn.linkWait = true → (stgOf 0 s).safe = false)) →
    ((s.spn.underWait = true → 20000 ≤ tmpCount s - s.spn.clearAt)) →
    Gives (.spnRestartDelayEnd) s (fun t =>
      get Reg.SPN_STAT.STATE t = 1 ∧
      get Reg.SPN_STAT.ATTEMPTS t = (get Reg.SPN_STAT.ATTEMPTS s + 1) % 2 ^ Reg.SPN_STAT.ATTEMPTS.width ∧
      get Reg.SPN_STAT.RESTART_PEND t = 0 ∧
      OnlyBlocks [0, 4, 5, 6, 7] s t ∧
      SameMem s t)) ∧
  (∀ (s : State),
    get Reg.SPN_STAT.STATE s = 7 →
    1 ≤ get Reg.SPN_STAT.LOCK s →
    200000 * get Reg.SPN_RESTART.HOLD_S s ≤ s.spn.tempos →
    Gives (.spnAttemptsClear) s (fun t =>
      get Reg.SPN_STAT.STATE t = 7 ∧
      get Reg.SPN_STAT.ATTEMPTS t = 0 ∧
      OnlyBlocks [0, 4, 5, 6, 7] s t ∧
      SameMem s t))

/-- The spindle: phase lock, lock lost, observer loss and retract. Rests on R98, R105, R107, R108, R109, R110, R111, R118. Where it
meets them it rests on choices of the model: log entries 23. -/
def Obligations.SpindleLockAndLoss : Prop :=
  (∀ (s : State),
    get Reg.SPN_STAT.STATE s = 7 →
    get Reg.SPN_STAT.LOCK s = 1 →
    effTarget s = get Reg.SPN_TARGET.RPM s →
    get Reg.SPN_TARGET.RPM s * get Reg.TMP_PHASE.K s = 30000 →
    400 ≤ s.spn.lockRow →
    Gives (.phaseLock) s (fun t =>
      get Reg.SPN_STAT.STATE t = 7 ∧
      get Reg.SPN_STAT.LOCK t = 2 ∧
      OnlyBlocks [0, 4, 5, 6, 7] s t ∧
      SameMem s t)) ∧
  (∀ (s : State),
    get Reg.SPN_STAT.LOCK s = 2 →
    (2 ≤ s.spn.errRow ∨ 8 ≤ s.spn.missRow) →
    Gives (.lockLost) s (fun t =>
      get Reg.SPN_STAT.LOCK t = 1 ∧
      get Reg.SPN_FAULT.LOCK_LOST t = 1 ∧
      t.spn.lockRow = 0 ∧
      (actOf 0 t).fallPend.isSome = true ∧
      (actOf 1 t).fallPend.isSome = true ∧
      OnlyBlocks [0, 4, 5, 6, 7] s t ∧
      SameMem s t)) ∧
  (∀ (s : State),
    (3 ≤ s.spn.phaseRow ∨ 2 ≤ s.spn.crossRow) →
    (get Reg.SPN_STAT.STATE s = 6 ∨ get Reg.SPN_STAT.STATE s = 7) →
    Gives (.observerLoss) s (fun t =>
      get Reg.SPN_STAT.STATE t = 8 ∧
      get Reg.SPN_LOSS_CNT.LOSSES t = (get Reg.SPN_LOSS_CNT.LOSSES s + 1) % 2 ^ Reg.SPN_LOSS_CNT.LOSSES.width ∧
      get Reg.SPN_FAULT.LOSS t = 1 ∧
      t.spn.lossAt = tmpCount s ∧
      (actOf 0 t).fallPend = some true ∧
      (actOf 1 t).fallPend = some true ∧
      OnlyBlocks [0, 4, 5, 6, 7] s t ∧
      SameMem s t)) ∧
  (∀ (s : State),
    (3 ≤ s.spn.phaseRow ∨ 2 ≤ s.spn.crossRow) →
    get Reg.SPN_STAT.STATE s ≠ 6 →
    get Reg.SPN_STAT.STATE s ≠ 7 →
    Gives (.observerLoss) s (fun t =>
      (get Reg.SPN_STAT.STATE t = (if get Reg.SPN_STAT.STATE s = 9 then 10 else get Reg.SPN_STAT.STATE s)) ∧
      OnlyBlocks [0, 4, 5, 6, 7] s t ∧
      SameMem s t)) ∧
  (∀ (s : State),
    get Reg.SPN_STAT.STATE s = 8 →
    4 ≤ s.spn.reAngles.length →
    tmpCount s - s.spn.lossAt ≤ 4000 →
    Gives (.spnReacquired) s (fun t =>
      get Reg.SPN_STAT.STATE t = 6 ∧
      get Reg.SPN_LOSS_CNT.REACQ_OK t = (get Reg.SPN_LOSS_CNT.REACQ_OK s + 1) % 2 ^ Reg.SPN_LOSS_CNT.REACQ_OK.width ∧
      t.zmg.lossAt = some s.spn.lossAt ∧
      t.spn.angle = s.spn.reAngles.headD 0 ∧
      OnlyBlocks [0, 4, 5, 6, 7] s t ∧
      SameMem s t)) ∧
  (∀ (s : State),
    get Reg.SPN_STAT.STATE s = 8 →
    4000 ≤ tmpCount s - s.spn.lossAt →
    Gives (.spnReacqTimeout) s (fun t =>
      get Reg.SPN_STAT.STATE t = 11 ∧
      get Reg.SPN_FAULT.REACQ_FAIL t = 1 ∧
      get Reg.SPN_STAT.NOT_READY t = 1 ∧
      OnlyBlocks [0, 4, 5, 6, 7] s t ∧
      SameMem s t)) ∧
  (∀ (s : State),
    get Reg.SPN_STAT.STATE s = 11 →
    (stgOf 0 s).retractDone = true →
    s.pins.pfailN = true →
    Gives (.spnRetractDone) s (fun t =>
      (stgOf 0 t).retractReq = false ∧
      (get Reg.SPN_STAT.STATE t = (if s.spn.faultPend = true then 13 else 10)) ∧
      ((s.spn.faultPend = true → get Reg.SPN_FAULT.FAULT t = 1)) ∧
      OnlyBlocks [0, 4, 5, 6, 7] s t ∧
      SameMem s t)) ∧
  (∀ (s : State),
    retractReq s = true →
    (stgOf 0 s).retractDone = false →
    mode s ≠ 5 →
    200 * get Reg.SPN_TIMEOUT.RETRACT_MS s ≤ tmpCount s - s.spn.retractAt →
    Gives (.spnRetractTimeout) s (fun t =>
      get Reg.SPN_STAT.STATE t = 13 ∧
      get Reg.SPN_FAULT.RETRACT_TMO t = 1 ∧
      ((get Reg.SPN_STAT.STATE s ≠ 13 → get Reg.SPN_FAULT.FAULT t = 1)) ∧
      OnlyBlocks [0, 4, 5, 6, 7] s t ∧
      SameMem s t))

/-- Resets as pin: everything but MRAM, AON and what they keep returns to Reset. Rests on R10, R39, R48, R59, R458, R507. Where it
meets them it rests on choices of the model: log entries 11, 37, 114, 149. -/
def Obligations.ResetsReturnToReset : Prop :=
  (∀ (v : Nat) (s : State),
    v % 2 ^ 16 = 0x5A3C →
    v.testBit 16 = true →
    mode s ≠ 5 →
    Gives (.softwareReset v) s (fun t =>
      (get Reg.SYS_RESET_CAUSE.SW t = (if pinsGood s = true then 1 else get Reg.SYS_RESET_CAUSE.SW s)) ∧
      t.boot.awaitBoot = pinsGood s ∧
      t.boot.image = none ∧
      t.cmd.ctxs = [] ∧
      AtReset keepsPin [Reg.SMB_CFG.ADDR, Reg.BOOT_KEY_STAT.PROG, Reg.BOOT_KEY_STAT.REVOKED, Reg.HPC_LINK.PERST, Reg.SYS_CLK_STAT.REFCLK_OK, Reg.SYS_CLK_STAT.CALREF_OK, Reg.FAB_UID_LO.UID, Reg.FAB_UID_HI.UID, Reg.SEAL_STAT.PROV, Reg.PMU_DOM_CTL.ON, Reg.PMU_DOM_STAT.ON, Reg.SYS_RESET_CAUSE.SW] t ∧
      KeptFields keepsPin [Reg.SMB_CFG.ADDR, Reg.BOOT_KEY_STAT.PROG, Reg.BOOT_KEY_STAT.REVOKED, Reg.HPC_LINK.PERST, Reg.SYS_CLK_STAT.REFCLK_OK, Reg.SYS_CLK_STAT.CALREF_OK, Reg.FAB_UID_LO.UID, Reg.FAB_UID_HI.UID, Reg.SEAL_STAT.PROV, Reg.PMU_DOM_CTL.ON, Reg.PMU_DOM_STAT.ON, Reg.SYS_RESET_CAUSE.SW] s t ∧
      MemKept (· == 1) s t)) ∧
  (∀ (n : Nat) (s : State),
    s.boot.trialRuns = true →
    s.boot.trialPaused = false →
    mode s = 2 →
    60000 ≤ n →
    Gives (.trialTimerExpiry n) s (fun t =>
      (get Reg.SYS_RESET_CAUSE.TRIAL t = (if pinsGood s = true then 1 else get Reg.SYS_RESET_CAUSE.TRIAL s)) ∧
      t.boot.awaitBoot = pinsGood s ∧
      t.boot.image = none ∧
      t.cmd.ctxs = [] ∧
      t.boot.trialFailed = some (get Reg.BOOT_STAT.SLOT s) ∧
      AtReset keepsPin [Reg.SMB_CFG.ADDR, Reg.BOOT_KEY_STAT.PROG, Reg.BOOT_KEY_STAT.REVOKED, Reg.HPC_LINK.PERST, Reg.SYS_CLK_STAT.REFCLK_OK, Reg.SYS_CLK_STAT.CALREF_OK, Reg.FAB_UID_LO.UID, Reg.FAB_UID_HI.UID, Reg.SEAL_STAT.PROV, Reg.PMU_DOM_CTL.ON, Reg.PMU_DOM_STAT.ON, Reg.SYS_RESET_CAUSE.TRIAL] t ∧
      KeptFields keepsPin [Reg.SMB_CFG.ADDR, Reg.BOOT_KEY_STAT.PROG, Reg.BOOT_KEY_STAT.REVOKED, Reg.HPC_LINK.PERST, Reg.SYS_CLK_STAT.REFCLK_OK, Reg.SYS_CLK_STAT.CALREF_OK, Reg.FAB_UID_LO.UID, Reg.FAB_UID_HI.UID, Reg.SEAL_STAT.PROV, Reg.PMU_DOM_CTL.ON, Reg.PMU_DOM_STAT.ON, Reg.SYS_RESET_CAUSE.TRIAL] s t ∧
      MemKept (· == 1) s t)) ∧
  (∀ (n : Nat) (s : State),
    n < 16 →
    mode s = 1 →
    s.pins.pfailN = true →
    bit Reg.SYS_WAKE_CFG.GPIO n s = true →
    (get (Reg.SYS_PAD_CFG.FUNC n) s = 0 ∨ (get (Reg.SYS_PAD_CFG.FUNC n) s = 3 ∧ 5 ≤ n)) →
    Gives (.wakeEvent (.gpio n)) s (fun t =>
      (get Reg.SYS_RESET_CAUSE.WAKE t = (if pinsGood s = true then 1 else get Reg.SYS_RESET_CAUSE.WAKE s)) ∧
      t.boot.awaitBoot = pinsGood s ∧
      t.boot.image = none ∧
      t.cmd.ctxs = [] ∧
      t.boot.wokeBy = some (2 ^ n) ∧
      AtReset keepsPin [Reg.SMB_CFG.ADDR, Reg.BOOT_KEY_STAT.PROG, Reg.BOOT_KEY_STAT.REVOKED, Reg.HPC_LINK.PERST, Reg.SYS_CLK_STAT.REFCLK_OK, Reg.SYS_CLK_STAT.CALREF_OK, Reg.FAB_UID_LO.UID, Reg.FAB_UID_HI.UID, Reg.SEAL_STAT.PROV, Reg.PMU_DOM_CTL.ON, Reg.PMU_DOM_STAT.ON, Reg.SYS_RESET_CAUSE.WAKE] t ∧
      KeptFields keepsPin [Reg.SMB_CFG.ADDR, Reg.BOOT_KEY_STAT.PROG, Reg.BOOT_KEY_STAT.REVOKED, Reg.HPC_LINK.PERST, Reg.SYS_CLK_STAT.REFCLK_OK, Reg.SYS_CLK_STAT.CALREF_OK, Reg.FAB_UID_LO.UID, Reg.FAB_UID_HI.UID, Reg.SEAL_STAT.PROV, Reg.PMU_DOM_CTL.ON, Reg.PMU_DOM_STAT.ON, Reg.SYS_RESET_CAUSE.WAKE] s t ∧
      MemKept (· == 1) s t)) ∧
  (∀ (s : State),
    mode s = 1 →
    s.pins.pfailN = true →
    get Reg.SYS_WAKE_CFG.PERST s = 1 →
    Gives (.wakeEvent .perst) s (fun t =>
      (get Reg.SYS_RESET_CAUSE.WAKE t = (if pinsGood s = true then 1 else get Reg.SYS_RESET_CAUSE.WAKE s)) ∧
      t.boot.awaitBoot = pinsGood s ∧
      t.boot.image = none ∧
      t.cmd.ctxs = [] ∧
      t.boot.wokeBy = some (2 ^ 17) ∧
      t.pins.perstN = true ∧
      AtReset keepsPin [Reg.SMB_CFG.ADDR, Reg.BOOT_KEY_STAT.PROG, Reg.BOOT_KEY_STAT.REVOKED, Reg.HPC_LINK.PERST, Reg.SYS_CLK_STAT.REFCLK_OK, Reg.SYS_CLK_STAT.CALREF_OK, Reg.FAB_UID_LO.UID, Reg.FAB_UID_HI.UID, Reg.SEAL_STAT.PROV, Reg.PMU_DOM_CTL.ON, Reg.PMU_DOM_STAT.ON, Reg.SYS_RESET_CAUSE.WAKE] t ∧
      KeptFields keepsPin [Reg.SMB_CFG.ADDR, Reg.BOOT_KEY_STAT.PROG, Reg.BOOT_KEY_STAT.REVOKED, Reg.HPC_LINK.PERST, Reg.SYS_CLK_STAT.REFCLK_OK, Reg.SYS_CLK_STAT.CALREF_OK, Reg.FAB_UID_LO.UID, Reg.FAB_UID_HI.UID, Reg.SEAL_STAT.PROV, Reg.PMU_DOM_CTL.ON, Reg.PMU_DOM_STAT.ON, Reg.SYS_RESET_CAUSE.WAKE] s t ∧
      MemKept (· == 1) s t)) ∧
  (∀ (s : State),
    mode s = 1 →
    s.pins.pfailN = true →
    get Reg.SYS_WAKE_CFG.SMB s = 1 →
    Gives (.wakeEvent .smb) s (fun t =>
      (get Reg.SYS_RESET_CAUSE.WAKE t = (if pinsGood s = true then 1 else get Reg.SYS_RESET_CAUSE.WAKE s)) ∧
      t.boot.awaitBoot = pinsGood s ∧
      t.boot.image = none ∧
      t.cmd.ctxs = [] ∧
      t.boot.wokeBy = some (2 ^ 16) ∧
      get Reg.SMB_STAT.WAKE_RX t = 1 ∧
      AtReset keepsPin [Reg.SMB_CFG.ADDR, Reg.BOOT_KEY_STAT.PROG, Reg.BOOT_KEY_STAT.REVOKED, Reg.HPC_LINK.PERST, Reg.SYS_CLK_STAT.REFCLK_OK, Reg.SYS_CLK_STAT.CALREF_OK, Reg.FAB_UID_LO.UID, Reg.FAB_UID_HI.UID, Reg.SEAL_STAT.PROV, Reg.PMU_DOM_CTL.ON, Reg.PMU_DOM_STAT.ON, Reg.SYS_RESET_CAUSE.WAKE, Reg.SMB_STAT.WAKE_RX] t ∧
      KeptFields keepsPin [Reg.SMB_CFG.ADDR, Reg.BOOT_KEY_STAT.PROG, Reg.BOOT_KEY_STAT.REVOKED, Reg.HPC_LINK.PERST, Reg.SYS_CLK_STAT.REFCLK_OK, Reg.SYS_CLK_STAT.CALREF_OK, Reg.FAB_UID_LO.UID, Reg.FAB_UID_HI.UID, Reg.SEAL_STAT.PROV, Reg.PMU_DOM_CTL.ON, Reg.PMU_DOM_STAT.ON, Reg.SYS_RESET_CAUSE.WAKE, Reg.SMB_STAT.WAKE_RX] s t ∧
      MemKept (· == 1) s t)) ∧
  (∀ (x : WakeSrc) (s : State),
    mode s = 1 →
    wakeEnabled x s = true →
    s.pins.pfailN = true →
    Gives (.wakeEvent x) s (fun t =>
      (get Reg.SYS_RESET_CAUSE.WAKE t = (if pinsGood s = true then 1 else get Reg.SYS_RESET_CAUSE.WAKE s)) ∧
      t.boot.awaitBoot = pinsGood s ∧
      t.boot.image = none ∧
      t.cmd.ctxs = [] ∧
      t.boot.wokeBy = some (2 ^ wakeBit x) ∧
      AtReset keepsPin [Reg.SMB_CFG.ADDR, Reg.BOOT_KEY_STAT.PROG, Reg.BOOT_KEY_STAT.REVOKED, Reg.HPC_LINK.PERST, Reg.SYS_CLK_STAT.REFCLK_OK, Reg.SYS_CLK_STAT.CALREF_OK, Reg.FAB_UID_LO.UID, Reg.FAB_UID_HI.UID, Reg.SEAL_STAT.PROV, Reg.PMU_DOM_CTL.ON, Reg.PMU_DOM_STAT.ON, Reg.SYS_RESET_CAUSE.WAKE, Reg.SMB_STAT.WAKE_RX] t ∧
      KeptFields keepsPin [Reg.SMB_CFG.ADDR, Reg.BOOT_KEY_STAT.PROG, Reg.BOOT_KEY_STAT.REVOKED, Reg.HPC_LINK.PERST, Reg.SYS_CLK_STAT.REFCLK_OK, Reg.SYS_CLK_STAT.CALREF_OK, Reg.FAB_UID_LO.UID, Reg.FAB_UID_HI.UID, Reg.SEAL_STAT.PROV, Reg.PMU_DOM_CTL.ON, Reg.PMU_DOM_STAT.ON, Reg.SYS_RESET_CAUSE.WAKE, Reg.SMB_STAT.WAKE_RX] s t ∧
      MemKept (· == 1) s t)) ∧
  (∀ (n : Nat) (s : State),
    mode s = 5 →
    s.boot.rescue = 3 →
    100 ≤ n →
    Gives (.rescueReturn n) s (fun t =>
      (get Reg.SYS_RESET_CAUSE.RESCUE_RET t = (if pinsGood s = true then 1 else get Reg.SYS_RESET_CAUSE.RESCUE_RET s)) ∧
      t.boot.awaitBoot = pinsGood s ∧
      t.boot.image = none ∧
      t.cmd.ctxs = [] ∧
      t.pins.pfailN = true ∧
      AtReset keepsPin [Reg.SMB_CFG.ADDR, Reg.BOOT_KEY_STAT.PROG, Reg.BOOT_KEY_STAT.REVOKED, Reg.HPC_LINK.PERST, Reg.SYS_CLK_STAT.REFCLK_OK, Reg.SYS_CLK_STAT.CALREF_OK, Reg.FAB_UID_LO.UID, Reg.FAB_UID_HI.UID, Reg.SEAL_STAT.PROV, Reg.PMU_DOM_CTL.ON, Reg.PMU_DOM_STAT.ON, Reg.SYS_RESET_CAUSE.RESCUE_RET] t ∧
      KeptFields keepsPin [Reg.SMB_CFG.ADDR, Reg.BOOT_KEY_STAT.PROG, Reg.BOOT_KEY_STAT.REVOKED, Reg.HPC_LINK.PERST, Reg.SYS_CLK_STAT.REFCLK_OK, Reg.SYS_CLK_STAT.CALREF_OK, Reg.FAB_UID_LO.UID, Reg.FAB_UID_HI.UID, Reg.SEAL_STAT.PROV, Reg.PMU_DOM_CTL.ON, Reg.PMU_DOM_STAT.ON, Reg.SYS_RESET_CAUSE.RESCUE_RET] s t ∧
      MemKept (· == 1) s t)) ∧
  (∀ (n : Nat) (s : State),
    10000 ≤ n →
    s.pins.resetN = true →
    rescueRuns s = false →
    Gives (.resetNAssert n) s (fun t =>
      t.pins.resetN = false ∧
      t.cmd.ctxs = [] ∧
      t.boot.awaitBoot = false ∧
      AtReset keepsPin [Reg.PMU_DOM_CTL.ON, Reg.PMU_DOM_STAT.ON] t ∧
      KeptFields keepsPin [Reg.PMU_DOM_CTL.ON, Reg.PMU_DOM_STAT.ON] s t ∧
      MemKept (· == 1) s t)) ∧
  (∀ (n : Nat) (s : State),
    10000 ≤ n →
    s.pins.resetN = true →
    rescueRuns s = true →
    Gives (.resetNAssert n) s (fun t =>
      t.pins.resetN = false ∧
      t.boot.resetHeld = true ∧
      t = { s with pins := t.pins, boot := t.boot }))

/-- Loss of XIN, of a PLL, of PWR_OK and of the rails; power on. Rests on R10, R35, R39, R59, R65, R457, R506. Where it meets them
it rests on choices of the model: log entries 114, 177. -/
def Obligations.LossesOfClockAndPowerHoldDomainsOff : Prop :=
  (∀ (n : Nat) (s : State),
    2000 ≤ n →
    s.pins.rails = true →
    s.pins.xin = true →
    Gives (.xinLoss n) s (fun t =>
      get Reg.SYS_CLK_STAT.XIN_LOST t = 1 ∧
      t.pins.xin = false ∧
      t.boot.clockLost.isSome = true ∧
      (get Reg.PMU_DOM_STAT.ON t = (if s.pins.pwrOk = true then 3 else 1)) ∧
      t.cmd.ctxs = [] ∧
      AtReset keepsPin [Reg.PMU_DOM_CTL.ON, Reg.PMU_DOM_STAT.ON, Reg.SYS_CLK_STAT.XIN_LOST] t ∧
      KeptFields keepsPin [Reg.PMU_DOM_CTL.ON, Reg.PMU_DOM_STAT.ON, Reg.SYS_CLK_STAT.XIN_LOST] s t ∧
      MemKept (· == 1) s t)) ∧
  (∀ (p n : Nat) (s : State),
    1000 < n →
    ((p = 0 ∧ get Reg.SYS_CLK_STAT.CPLL_LOCK s = 1) ∨ (p = 1 ∧ get Reg.SYS_CLK_STAT.DPLL_LOCK s = 1) ∨ (p = 2 ∧ get Reg.SYS_CLK_STAT.MPLL_LOCK s = 1)) →
    Gives (.pllLossOfLock p n) s (fun t =>
      get Reg.SYS_CLK_STAT.PLL_LOST t = 1 ∧
      t.pins.pll = false ∧
      t.boot.clockLost.isSome = true ∧
      (get Reg.PMU_DOM_STAT.ON t = (if s.pins.pwrOk = true then 3 else 1)) ∧
      t.cmd.ctxs = [] ∧
      AtReset keepsPin [Reg.PMU_DOM_CTL.ON, Reg.PMU_DOM_STAT.ON, Reg.SYS_CLK_STAT.PLL_LOST, Reg.SYS_CLK_STAT.CPLL_LOCK, Reg.SYS_CLK_STAT.DPLL_LOCK, Reg.SYS_CLK_STAT.MPLL_LOCK] t ∧
      KeptFields keepsPin [Reg.PMU_DOM_CTL.ON, Reg.PMU_DOM_STAT.ON, Reg.SYS_CLK_STAT.PLL_LOST, Reg.SYS_CLK_STAT.CPLL_LOCK, Reg.SYS_CLK_STAT.DPLL_LOCK, Reg.SYS_CLK_STAT.MPLL_LOCK] s t ∧
      MemKept (· == 1) s t)) ∧
  (∀ (s : State),
    s.pins.pwrOk = true →
    s.pins.resetN = true →
    s.pins.rails = true →
    Gives (.pwrOkFall) s (fun t =>
      t.pins.pwrOk = false ∧
      t.boot.pwrLow = true ∧
      get Reg.PMU_DOM_STAT.ON t = 1 ∧
      t.cmd.ctxs = [] ∧
      AtReset keepsPin [Reg.PMU_DOM_CTL.ON, Reg.PMU_DOM_STAT.ON] t ∧
      KeptFields keepsPin [Reg.PMU_DOM_CTL.ON, Reg.PMU_DOM_STAT.ON] s t ∧
      MemKept (· == 1) s t)) ∧
  (∀ (s : State),
    s.pins.pwrOk = true →
    s.pins.resetN = false →
    s.pins.rails = true →
    Gives (.pwrOkFall) s (fun t =>
      t.pins.pwrOk = false ∧
      (mode s ≠ 5 → get Reg.PMU_DOM_STAT.ON t = 1) ∧
      (mode s = 5 → t.regs = s.regs) ∧
      OnlyRegs [Reg.PMU_DOM_CTL.ON, Reg.PMU_DOM_STAT.ON] s t ∧
      t = { s with regs := t.regs, pins := t.pins } ∧
      SameMem s t)) ∧
  (∀ (s : State),
    s.pins.rails = true →
    Gives (.railsLost) s (fun t =>
      mode t = 0 ∧
      t.pins.rails = false ∧
      t.pins.resetN = false ∧
      get Reg.PMU_DOM_STAT.ON t = 0 ∧
      t.cmd.ctxs = [] ∧
      AtReset keepsMram [Reg.PMU_DOM_CTL.ON, Reg.PMU_DOM_STAT.ON, Reg.SYS_MODE.CUR] t ∧
      KeptFields keepsMram [Reg.PMU_DOM_CTL.ON, Reg.PMU_DOM_STAT.ON, Reg.SYS_MODE.CUR] s t ∧
      MemKept (· == 1) s t)) ∧
  (∀ (s : State),
    s.pins.rails = false →
    Gives (.powerOnReset) s (fun t =>
      (tmpCount t = (if s.tmp.storedAny then (max s.tmp.stored0 s.tmp.stored1 + 400000) % 2 ^ 48 else 0)) ∧
      lifeSec t = max s.tmp.life0 s.tmp.life1 % 2 ^ 32 ∧
      t.pins = {} ∧
      t.cmd.ctxs = [] ∧
      AtReset keepsMram [Reg.TMP_COUNT_LO.COUNT, Reg.TMP_COUNT_HI.COUNT, Reg.EVR_LIFE.SECONDS] t ∧
      KeptFields keepsMram [Reg.TMP_COUNT_LO.COUNT, Reg.TMP_COUNT_HI.COUNT, Reg.EVR_LIFE.SECONDS] s t ∧
      MemKept (· == 1) s t))

/-- Release of RESET_N, of a clock loss and of PWR_OK, and the boot ROM. Rests on R31, R35, R39, R47, R50, R51, R59, R506. Where it
meets them it rests on choices of the model: log entries 10, 115, 144, 177. -/
def Obligations.ReleasesAndTheBootRom : Prop :=
  (∀ (k : Nat) (s : State),
    s.pins.resetN = false →
    s.pins.rails = true →
    Gives (.resetNRelease k) s (fun t =>
      t.boot.straps = k % 8 ∧
      ((mode s != 5 && s.pins.pwrOk && s.pins.xin && s.pins.pll) = true → get Reg.SMB_CFG.ADDR t = (0x1C + k % 8) % 2 ^ Reg.SMB_CFG.ADDR.width) ∧
      t.pins = { s.pins with resetN := true } ∧
      t.boot.awaitBoot = (s.boot.awaitBoot || (mode s != 5 && s.pins.pwrOk && s.pins.xin && s.pins.pll)) ∧
      ((mode s != 5 && s.pins.pwrOk && s.pins.xin && s.pins.pll) = true → get (causeFld s.boot.cause) t = 1 ∧ get Reg.PMU_DOM_STAT.ON t = 7) ∧
      (mode s = 5 → t.regs = s.regs) ∧
      OnlyRegs [causeFld s.boot.cause, Reg.SMB_CFG.ADDR, Reg.BOOT_KEY_STAT.PROG, Reg.BOOT_KEY_STAT.REVOKED, Reg.HPC_LINK.PERST, Reg.SYS_CLK_STAT.REFCLK_OK, Reg.SYS_CLK_STAT.CALREF_OK, Reg.FAB_UID_LO.UID, Reg.FAB_UID_HI.UID, Reg.SEAL_STAT.PROV, Reg.PMU_DOM_CTL.ON, Reg.PMU_DOM_STAT.ON] s t ∧
      t = { s with regs := t.regs, pins := t.pins, boot := t.boot, evr := t.evr, sys := t.sys, sent := t.sent, host := { s.host with msixPend := t.host.msixPend } } ∧
      SameMem s t)) ∧
  (∀ (n : Nat) (s : State),
    10 ≤ n →
    s.pins.rails = true →
    (s.pins.xin = false ∨ s.pins.pll = false) →
    Gives (.clockLossReboot n) s (fun t =>
      t.pins = { s.pins with xin := true, pll := true } ∧
      t.boot.awaitBoot = (s.boot.awaitBoot || (mode s != 5 && s.pins.pwrOk && s.pins.resetN)) ∧
      ((mode s != 5 && s.pins.pwrOk && s.pins.resetN) = true → get (causeFld s.boot.cause) t = 1 ∧ get Reg.PMU_DOM_STAT.ON t = 7) ∧
      (mode s = 5 → t.regs = s.regs) ∧
      OnlyRegs [causeFld s.boot.cause, Reg.SMB_CFG.ADDR, Reg.BOOT_KEY_STAT.PROG, Reg.BOOT_KEY_STAT.REVOKED, Reg.HPC_LINK.PERST, Reg.SYS_CLK_STAT.REFCLK_OK, Reg.SYS_CLK_STAT.CALREF_OK, Reg.FAB_UID_LO.UID, Reg.FAB_UID_HI.UID, Reg.SEAL_STAT.PROV, Reg.PMU_DOM_CTL.ON, Reg.PMU_DOM_STAT.ON] s t ∧
      t = { s with regs := t.regs, pins := t.pins, boot := t.boot, evr := t.evr, sys := t.sys, sent := t.sent, host := { s.host with msixPend := t.host.msixPend } } ∧
      SameMem s t)) ∧
  (∀ (s : State),
    s.pins.pwrOk = false →
    s.pins.rails = true →
    Gives (.pwrOkRise) s (fun t =>
      t.boot.pwrLow = false ∧
      t.pins = { s.pins with pwrOk := true } ∧
      t.boot.awaitBoot = (s.boot.awaitBoot || (mode s != 5 && s.pins.resetN && s.pins.xin && s.pins.pll)) ∧
      ((mode s != 5 && s.pins.resetN && s.pins.xin && s.pins.pll) = true → get (causeFld s.boot.cause) t = 1 ∧ get Reg.PMU_DOM_STAT.ON t = 7) ∧
      (mode s = 5 → t.regs = s.regs) ∧
      OnlyRegs [causeFld s.boot.cause, Reg.SMB_CFG.ADDR, Reg.BOOT_KEY_STAT.PROG, Reg.BOOT_KEY_STAT.REVOKED, Reg.HPC_LINK.PERST, Reg.SYS_CLK_STAT.REFCLK_OK, Reg.SYS_CLK_STAT.CALREF_OK, Reg.FAB_UID_LO.UID, Reg.FAB_UID_HI.UID, Reg.SEAL_STAT.PROV, Reg.PMU_DOM_CTL.ON, Reg.PMU_DOM_STAT.ON] s t ∧
      t = { s with regs := t.regs, pins := t.pins, boot := t.boot, evr := t.evr, sys := t.sys, sent := t.sent, host := { s.host with msixPend := t.host.msixPend } } ∧
      SameMem s t)) ∧
  (∀ (n : Nat) (s : State),
    100 ≤ n →
    s.boot.awaitBoot = true →
    s.pins.resetN = true →
    s.pins.rails = true →
    s.pins.pwrOk = true →
    s.pins.xin = true →
    s.pins.pll = true →
    mode s ≠ 5 →
    s.boot.slotA = [] →
    s.boot.slotB = [] →
    Gives (.bootStart n) s (fun t =>
      get Reg.BOOT_STAT.NO_IMAGE t = 1 ∧
      t.boot.recovery = true ∧
      get Reg.SYS_CLK_STAT.CPLL_LOCK t = 1 ∧
      get Reg.SYS_CLK_STAT.DPLL_LOCK t = 1 ∧
      get Reg.SYS_CLK_STAT.MPLL_LOCK t = 1 ∧
      domOn 3 t = true ∧
      0 ∈ t.sys.started ∧
      t.boot.awaitBoot = false ∧
      t.pins.pfailN = true ∧
      t = { s with regs := t.regs, pins := t.pins, boot := t.boot, sys := t.sys, evr := t.evr, sent := t.sent, host := { s.host with msixPend := t.host.msixPend } } ∧
      SameMem s t)) ∧
  (∀ (n : Nat) (s : State),
    100 ≤ n →
    s.boot.awaitBoot = true →
    s.pins.resetN = true →
    s.pins.rails = true →
    s.pins.pwrOk = true →
    s.pins.xin = true →
    s.pins.pll = true →
    mode s ≠ 5 →
    Gives (.bootStart n) s (fun t =>
      ((slotSelect s).2.1 = none → get Reg.BOOT_STAT.NO_IMAGE t = 1 ∧ t.boot.recovery = true) ∧
      ((slotSelect s).2.1.all (fun p => !(p.2.presets.isEmpty && p.2.padWords.isEmpty && p.2.fields.isEmpty) || (get Reg.BOOT_STAT.NO_IMAGE t == 0 && get Reg.BOOT_STAT.SLOT t == p.1 % 2 && get Reg.BOOT_STAT.KEY_SLOT t == p.2.keySlot % 4 && get Reg.BOOT_IMG_GEN.GEN t == p.2.generation % 2 ^ 32 && get Reg.SYS_MODE.STAGE t == 1 && decide (t.boot.image = some p.2) && !t.boot.recovery && domOn 3 t && t.sys.started.contains 0)) = true)))

/-- Mode requests, the entries to SERVICE and QUIESCE, STANDBY, and PFAIL. Rests on R39, R40, R42, R43, R44, R45, R48, R454. Where
it meets them it rests on choices of the model: log entries 37, 120, 146, 172. -/
def Obligations.ModeTransitionsAreTaken : Prop :=
  (∀ (k : Nat) (s : State),
    mode s ≠ 5 →
    (get Reg.SYS_MODE.BUSY s = 1 ∨ get Reg.SYS_MODE.ACT s = 1) →
    Gives (.modeRequest k) s (fun t =>
      get Reg.SYS_MODE_REQ.PEND t = 1 ∧
      t.boot.heldReq = some (k % 8) ∧
      mode t = mode s ∧
      OnlyRegs [Reg.SYS_MODE_REQ.TARGET, Reg.SYS_MODE_REQ.GO, Reg.SYS_MODE_REQ.PEND] s t ∧
      t = { s with regs := t.regs, boot := t.boot })) ∧
  (∀ (k : Nat) (s : State),
    mode s ≠ 5 →
    get Reg.SYS_MODE.BUSY s = 0 →
    get Reg.SYS_MODE.ACT s = 0 →
    allowed (mode s) (k % 8) = false →
    Gives (.modeRequest k) s (fun t =>
      get Reg.SYS_MODE_REQ.REFUSED t = 1 ∧
      get Reg.SYS_MODE_REQ.GO t = 0 ∧
      mode t = mode s ∧
      OnlyRegs [Reg.SYS_MODE_REQ.TARGET, Reg.SYS_MODE_REQ.GO, Reg.SYS_MODE_REQ.REFUSED] s t ∧
      OnlyRegisters s t)) ∧
  (∀ (k : Nat) (s : State),
    mode s = 5 →
    Gives (.modeRequest k) s (fun t =>
      t.boot = s.boot ∧
      OnlyRegs [Reg.SYS_MODE_REQ.TARGET] s t ∧
      OnlyRegisters s t)) ∧
  (∀ (k : Nat) (s : State),
    mode s = 3 →
    (k % 8 = 4 ∨ k % 8 = 1) →
    get Reg.SYS_MODE.BUSY s = 0 →
    get Reg.SYS_MODE.ACT s = 0 →
    Gives (.modeRequest k) s (fun t =>
      get Reg.SYS_MODE.BUSY t = 1 ∧
      t.boot.going = some (k % 8) ∧
      mode t = mode s ∧
      OnlyRegs [Reg.SYS_MODE_REQ.TARGET, Reg.SYS_MODE_REQ.GO, Reg.SYS_MODE.BUSY] s t ∧
      t = { s with regs := t.regs, boot := t.boot })) ∧
  (∀ (k : Nat) (s : State),
    mode s = 4 →
    k % 8 = 1 →
    get Reg.SYS_MODE.BUSY s = 0 →
    get Reg.SYS_MODE.ACT s = 0 →
    Gives (.modeRequest k) s (fun t =>
      get Reg.SYS_MODE.BUSY t = 1 ∧
      t.boot.going = some 1 ∧
      mode t = 4 ∧
      get Reg.SPN_CTL.RUN t = 0 ∧
      SameMem s t)) ∧
  (∀ (k : Nat) (s : State),
    mode s = 4 →
    k % 8 = 3 →
    get Reg.SYS_MODE.BUSY s = 0 →
    get Reg.SYS_MODE.ACT s = 0 →
    Gives (.modeRequest k) s (fun t =>
      mode t = 3 ∧
      get Reg.SYS_MODE.PREV t = 4 ∧
      get Reg.SPN_CTL.RUN t = 1 ∧
      SameMem s t)) ∧
  (∀ (k : Nat) (s : State),
    s.boot.heldReq = some k →
    mode s = 3 →
    (k = 4 ∨ k = 1) →
    get Reg.SYS_MODE.BUSY s = 0 →
    get Reg.SYS_MODE.ACT s = 0 →
    Gives (.heldModeRequestTaken) s (fun t =>
      get Reg.SYS_MODE_REQ.PEND t = 0 ∧
      t.boot.heldReq = none ∧
      t.boot.going = some k ∧
      get Reg.SYS_MODE.BUSY t = 1 ∧
      OnlyRegs [Reg.SYS_MODE_REQ.PEND, Reg.SYS_MODE_REQ.GO, Reg.SYS_MODE.BUSY] s t ∧
      t = { s with regs := t.regs, boot := t.boot })) ∧
  (∀ (k : Nat) (s : State),
    s.boot.heldReq = some k →
    get Reg.SYS_MODE.BUSY s ≠ 1 →
    get Reg.SYS_MODE.ACT s ≠ 1 →
    Gives (.heldModeRequestTaken) s (fun t =>
      get Reg.SYS_MODE_REQ.PEND t = 0 ∧
      get Reg.SYS_MODE_REQ.GO t = 0 ∧
      t.boot.heldReq = none ∧
      (allowed (mode s) k = false → get Reg.SYS_MODE_REQ.REFUSED t = 1 ∧ mode t = mode s) ∧
      (allowed (mode s) k = true ∧ k ≠ 3 → t.boot.going = some k ∧ get Reg.SYS_MODE.BUSY t = 1 ∧ mode t = mode s) ∧
      (allowed (mode s) k = true ∧ k = 3 → mode t = 3) ∧
      SameMem s t)) ∧
  (∀ (s : State),
    mode s = 2 →
    serviceReady s = true →
    Gives (.serviceEntry) s (fun t =>
      mode t = 3 ∧
      get Reg.SYS_MODE.PREV t = 2 ∧
      get Reg.SYS_MODE.ACT t = 0 ∧
      get Reg.SYS_MODE.MEDIA_FAULT t = 0 ∧
      ((s.boot.trialRuns = true → get Reg.BOOT_SLOT_CTL.TRIAL t = 0 ∧ get Reg.BOOT_SLOT_CTL.ARMED t = 0 ∧ get Reg.BOOT_SLOT_CTL.TRIES t = 0)) ∧
      t.boot.trialRuns = false ∧
      SameMem s t)) ∧
  (∀ (s : State),
    mode s = 3 →
    s.boot.going = some 4 →
    Gives (.quiesceEntry) s (fun t =>
      mode t = 4 ∧
      get Reg.SYS_MODE.PREV t = 3 ∧
      get Reg.SYS_MODE.BUSY t = 0 ∧
      t.boot.going = none ∧
      get Reg.SPN_CTL.CURVE t = 1 ∧
      SameMem s t)) ∧
  (∀ (k : Nat) (s : State),
    mode s = 3 →
    s.boot.going = some k →
    k ≠ 4 →
    Gives (.quiesceEntry) s (fun t =>
      mode t = 4 ∧
      get Reg.SYS_MODE.PREV t = 3 ∧
      t.boot.going = some k ∧
      get Reg.SPN_CTL.RUN t = 0 ∧
      SameMem s t)) ∧
  (∀ (s : State),
    mode s = 4 →
    s.boot.going = some 1 →
    spnState s = 0 →
    mediaStill s = true →
    s.pmu.ckpt = none →
    s.pmu.held = none →
    Gives (.standbyDomainsOff) s (fun t =>
      mode t = 1 ∧
      t.boot.going = none ∧
      ((List.range 24).all (fun d => d == 0 || !domOn d t) = true))) ∧
  (∀ (n : Nat) (s : State),
    500 ≤ n →
    s.pins.rails = true →
    (mode s = 2 ∨ mode s = 3 ∨ mode s = 4) →
    Gives (.pfailAssert n) s (fun t =>
      mode t = 5 ∧
      get Reg.SYS_MODE.PREV t = mode s % 8 ∧
      t.pins.pfailN = false ∧
      (t.boot.rescue = (if mode s = 2 ∧ get Reg.PMU_CKPT_CTL.RESTORED s = 0 then 4 else 1)) ∧
      get Reg.SYS_MODE.BUSY t = 0 ∧
      get Reg.SYS_MODE.ACT t = 0 ∧
      t.boot.going = none ∧
      t.boot.heldReq = none ∧
      SameMem s t)) ∧
  (∀ (n : Nat) (s : State),
    500 ≤ n →
    s.pins.rails = true →
    mode s = 1 →
    Gives (.pfailAssert n) s (fun t =>
      get Reg.PMU_RESCUE_STAT.RESULT t = 2 ∧
      t.pins.pfailN = false ∧
      OnlyRegs [Reg.PMU_RESCUE_STAT.RESULT] s t ∧
      t = { s with regs := t.regs, pins := t.pins })) ∧
  (∀ (n : Nat) (s : State),
    500 ≤ n →
    s.pins.rails = true →
    (mode s = 0 ∨ 5 ≤ mode s) →
    Gives (.pfailAssert n) s (fun t =>
      t.pins = { s.pins with pfailN := false } ∧
      OnlyRegs [] s t ∧
      t = { s with pins := t.pins }))

/-- Key revocation, firmware download and commit, activation. Rests on R57, R59, R61, R62, R353, R377. Where it meets them it rests
on choices of the model: log entries 118, 119, 144, 159, 169, 173, 174, 175, 178. -/
def Obligations.KeysDownloadsAndActivation : Prop :=
  (∀ (v : Nat) (s : State),
    v / 2 ^ 24 % 256 = 0xC3 →
    (s.boot.image.all (fun i => !(v % 16).testBit i.keySlot) = true) →
    ((List.range 4).any (fun k => (s.boot.fuses.getD k {}).hash.isSome && !(s.boot.fuses.getD k {}).revoked && !(v % 16).testBit k && !s.boot.revoking.testBit k) = true) →
    Gives (.keyRevoke v) s (fun t =>
      get Reg.BOOT_KEY_STAT.BUSY t = 1 ∧
      t.boot.revoking = s.boot.revoking ||| v % 16 ∧
      OnlyRegs [Reg.BOOT_KEY_STAT.BUSY] s t ∧
      t = { s with regs := t.regs, boot := t.boot })) ∧
  (∀ (v : Nat) (i : Image) (s : State),
    v / 2 ^ 24 % 256 = 0xC3 →
    s.boot.image = some i →
    i.keySlot < 4 →
    v.testBit i.keySlot = true →
    Gives (.keyRevoke v) s (fun t =>
      OnlyRegs [] s t ∧
      t = { s with evr := t.evr, host := { s.host with msixPend := t.host.msixPend } })) ∧
  (∀ (v : Nat) (s : State),
    v / 2 ^ 24 % 256 = 0xC3 →
    ((List.range 4).any (fun k => (s.boot.fuses.getD k {}).hash.isSome && !(s.boot.fuses.getD k {}).revoked && !(v % 16).testBit k && !s.boot.revoking.testBit k) = false) →
    Gives (.keyRevoke v) s (fun t =>
      OnlyRegs [] s t ∧
      t = { s with evr := t.evr, host := { s.host with msixPend := t.host.msixPend } })) ∧
  (∀ (v : Nat) (s : State),
    v / 2 ^ 24 % 256 ≠ 0xC3 →
    Gives (.keyRevoke v) s (fun t =>
      t = s)) ∧
  (∀ (s : State),
    get Reg.BOOT_KEY_STAT.BUSY s = 1 →
    Gives (.keyRevokeDone) s (fun t =>
      get Reg.BOOT_KEY_STAT.BUSY t = 0 ∧
      t.boot.revoking = 0 ∧
      ((List.range s.boot.fuses.length).all (fun k => (t.boot.fuses.getD k {}).revoked == ((s.boot.fuses.getD k {}).revoked || s.boot.revoking.testBit k)) = true) ∧
      OnlyRegs [Reg.BOOT_KEY_STAT.BUSY, Reg.SMB_CFG.ADDR, Reg.BOOT_KEY_STAT.PROG, Reg.BOOT_KEY_STAT.REVOKED, Reg.HPC_LINK.PERST, Reg.SYS_CLK_STAT.REFCLK_OK, Reg.SYS_CLK_STAT.CALREF_OK, Reg.FAB_UID_LO.UID, Reg.FAB_UID_HI.UID, Reg.SEAL_STAT.PROV] s t ∧
      t = { s with regs := t.regs, boot := t.boot })) ∧
  (∀ (p : Port) (o : Nat) (l : List Nat) (s : State),
    adminServed p s = true →
    (s.boot.session = none ∨ s.boot.session.map (·.1) = some p) →
    Gives (.firmwareDownload p o l) s (fun t =>
      t.boot.session = some (p, downloaded ((s.boot.session.map (·.2)).getD []) o l) ∧
      ((downloaded ((s.boot.session.map (·.2)).getD []) o l).drop o).take l.length = l ∧
      t.sent = s.sent ++ [adminMsg p .success] ∧
      OnlyRegs [] s t ∧
      t = { s with boot := t.boot, sent := t.sent })) ∧
  (∀ (p q : Port) (o : Nat) (l m : List Nat) (s : State),
    adminServed p s = true →
    s.boot.session = some (q, m) →
    q ≠ p →
    Gives (.firmwareDownload p o l) s (fun t =>
      t.boot = s.boot ∧
      t.sent = s.sent ++ [adminMsg p .sequenceError] ∧
      OnlyRegs [] s t ∧
      t = { s with boot := t.boot, sent := t.sent })) ∧
  (∀ (n : Nat) (s : State),
    60000 ≤ n →
    Gives (.downloadSessionTimeout n) s (fun t =>
      t.boot.session = none ∧
      OnlyRegs [] s t ∧
      t = { s with boot := t.boot })) ∧
  (∀ (p : Port) (b : Bool) (l : List Nat) (s : State),
    adminServed p s = true →
    s.boot.session = some (p, l) →
    s.boot.recovery = false →
    Gives (.firmwareCommit p b) s (fun t =>
      t.boot.session = none ∧
      ((imageOf s.boot.fuses l).isSome = false → t.boot.staged = s.boot.staged ∧ t.regs = s.regs ∧ t.sent = s.sent ++ [adminMsg p .invalidField]) ∧
      ((imageOf s.boot.fuses l).isSome = true → t.boot.staged = some (otherSlot s) ∧ (if otherSlot s = 0 then t.boot.slotA else t.boot.slotB) = l ∧ (b = false → get Reg.BOOT_SLOT_CTL.PREF t = otherSlot s % 2 ∧ get Reg.BOOT_SLOT_CTL.TRIAL t = 1) ∧ t.sent = s.sent ++ [adminMsg p .success]) ∧
      OnlyRegs [Reg.BOOT_SLOT_CTL.PREF, Reg.BOOT_SLOT_CTL.TRIAL, Reg.BOOT_SLOT_CTL.ARMED, Reg.BOOT_SLOT_CTL.TRIES] s t ∧
      t = { s with regs := t.regs, boot := t.boot, sent := t.sent })) ∧
  (∀ (b : Bool) (l : List Nat) (s : State),
    s.boot.session = some (.sideband, l) →
    s.boot.recovery = true →
    Gives (.firmwareCommit .sideband b) s (fun t =>
      ((imageOf s.boot.fuses l).isSome = false → t = { s with boot := { s.boot with session := none }, sent := s.sent ++ [adminMsg .sideband .invalidField] }) ∧
      ((imageOf s.boot.fuses l).isSome = true → t = bootRom preset (send (adminMsg .sideband .success) (putRec ⟨otherSlot s, 1, 0, 0⟩ (setBoot (if otherSlot s = 0 then { s.boot with session := none, slotA := l, staged := some 0 } else { s.boot with session := none, slotB := l, staged := some 1 }) s)))))) ∧
  (∀ (p : Port) (b : Bool) (s : State),
    adminServed p s = true →
    s.boot.session.map (·.1) ≠ some p →
    Gives (.firmwareCommit p b) s (fun t =>
      t.sent = s.sent ++ [adminMsg p .sequenceError] ∧
      OnlyRegs [] s t ∧
      t = { s with sent := t.sent })) ∧
  (∀ (p : Port) (s : State),
    adminServed p s = true →
    s.boot.recovery = false →
    mode s = 3 →
    get Reg.SYS_MODE.ACT s ≠ 1 →
    get Reg.SYS_MODE.BUSY s ≠ 1 →
    Gives (.firmwareActivate p) s (fun t =>
      (stagedOk s = true → get Reg.SYS_MODE.ACT t = 1 ∧ get Reg.SYS_ACT_STAT.RESULT t = 1 ∧ t.boot.actPhase = 1 ∧ t.boot.actPort = some p ∧ t.sent = s.sent) ∧
      (stagedOk s = false → get Reg.SYS_ACT_STAT.RESULT t = 4 ∧ t.boot = s.boot ∧ t.sent = s.sent ++ [adminMsg p .invalidField]) ∧
      OnlyRegs [Reg.SYS_MODE.ACT, Reg.SYS_ACT_STAT.RESULT] s t ∧
      t = { s with regs := t.regs, boot := t.boot, sent := t.sent })) ∧
  (∀ (p : Port) (s : State),
    adminServed p s = true →
    s.boot.recovery = false →
    (mode s ≠ 3 ∨ get Reg.SYS_MODE.ACT s = 1 ∨ get Reg.SYS_MODE.BUSY s = 1) →
    Gives (.firmwareActivate p) s (fun t =>
      (get Reg.SYS_ACT_STAT.RESULT t = (if get Reg.SYS_MODE.ACT s = 1 then get Reg.SYS_ACT_STAT.RESULT s else 5)) ∧
      t.sent = s.sent ++ [adminMsg p .busy] ∧
      OnlyRegs [Reg.SYS_ACT_STAT.RESULT] s t ∧
      t = { s with regs := t.regs, sent := t.sent })) ∧
  (∀ (n : Nat) (s : State),
    s.boot.actPhase = 1 →
    s.cmd.ctxs = [] →
    n ≤ drainMs s →
    Gives (.activationDrainEnd n) s (fun t =>
      get Reg.SYS_ACT_STAT.DRAIN t = min n 65535 ∧
      t.boot.actPhase = 2 ∧
      SameMem s t)) ∧
  (∀ (n : Nat) (s : State),
    s.boot.actPhase = 1 →
    s.cmd.ctxs ≠ [] →
    drainMs s < n →
    Gives (.activationDrainTimeout n) s (fun t =>
      get Reg.SYS_MODE.ACT t = 0 ∧
      get Reg.SYS_ACT_STAT.RESULT t = 3 ∧
      t.boot.actPhase = 0 ∧
      SameMem s t)) ∧
  (∀ (s : State),
    s.boot.actPhase = 2 →
    mediaStill s = true →
    s.pmu.ckpt = none →
    s.pmu.held = none →
    Gives (.activationReset) s (fun t =>
      mode t = 2 ∧
      get Reg.SYS_RESET_CAUSE.ACTIVATE t = 1 ∧
      get Reg.PMU_CKPT_CTL.RESTORED t = 0 ∧
      get Reg.DRC_STAT.SELF_REF t = 1 ∧
      get Reg.SYS_PATH_CFG.LOCK t = 0 ∧
      get Reg.BOOT_SLOT_CTL.PREF t = s.boot.staged.getD 0 % 2 ∧
      get Reg.BOOT_SLOT_CTL.TRIAL t = 1 ∧
      t.boot.awaitBoot = true ∧
      t.boot.heldReq = s.boot.heldReq ∧
      t.boot.actPhase = 3))

/-- Power domains: a request on, a request off, a refusal, completion, switching off, the deferral limit. Rests on R442, R443, R444,
R445, R446. Where it meets them it rests on choices of the model: log entries 110, 168. -/
def Obligations.PowerDomainRequests : Prop :=
  (∀ (d v : Nat) (s : State),
    1 ≤ d →
    d < 24 →
    get Reg.PMU_DOM_CTL.ON s < 2 ^ 24 →
    domCtl d s = false →
    v = get Reg.PMU_DOM_CTL.ON s + 2 ^ d →
    (((domParent d).all (fun p => p == 0 || domCtl p s)) = true) →
    bit Reg.PMU_DOM_PEND.PEND d s = false →
    domOn d s = false →
    (get Reg.PMU_DOM_CTL.ON s).testBit 0 = true →
    Gives (.domainCtlWrite v) s (fun t =>
      get Reg.PMU_DOM_CTL.ON t = v ∧
      d ∈ t.pmu.goingOn ∧
      OnlyRegs [Reg.PMU_DOM_CTL.ON] s t ∧
      t = { s with regs := t.regs, pmu := t.pmu })) ∧
  (∀ (d v : Nat) (s : State),
    1 ≤ d →
    d < 24 →
    get Reg.PMU_DOM_CTL.ON s < 2 ^ 24 →
    domCtl d s = true →
    v + 2 ^ d = get Reg.PMU_DOM_CTL.ON s →
    ((domChildren d).all (fun c => !domCtl c s) = true) →
    (d ≠ 19 ∨ get Reg.TCH_CTL.EN s = 0) →
    domOn d s = true →
    Gives (.domainCtlWrite v) s (fun t =>
      get Reg.PMU_DOM_CTL.ON t = v ∧
      bit Reg.PMU_DOM_PEND.PEND d t = true ∧
      domOn d t = true ∧
      OnlyRegs [Reg.PMU_DOM_CTL.ON, Reg.PMU_DOM_PEND.PEND] s t ∧
      OnlyRegisters s t)) ∧
  (∀ (d v : Nat) (s : State),
    1 ≤ d →
    d < 24 →
    domCtl d s = true →
    v + 2 ^ d = get Reg.PMU_DOM_CTL.ON s →
    ((domChildren d).any (fun c => domCtl c s) = true) →
    get Reg.PMU_DOM_ERR.VALID s = 0 →
    Gives (.domainCtlWrite v) s (fun t =>
      get Reg.PMU_DOM_CTL.ON t = get Reg.PMU_DOM_CTL.ON s ∧
      get Reg.PMU_DOM_ERR.VALID t = 1 ∧
      get Reg.PMU_DOM_ERR.DOM t = d ∧
      get Reg.PMU_DOM_ERR.CAUSE t = 2 ∧
      OnlyRegs [Reg.PMU_DOM_ERR.VALID, Reg.PMU_DOM_ERR.DOM, Reg.PMU_DOM_ERR.CAUSE] s t ∧
      OnlyEvents s t)) ∧
  (∀ (v : Nat) (s : State),
    Gives (.domainCtlWrite v) s (fun t =>
      (∀ d ∈ domOrder, domCtl d t = domCtl d s ∨ domCtl d t = v.testBit d) ∧
      ((∀ d ∈ domOrder, domCtl d t = v.testBit d) ∨ get Reg.PMU_DOM_ERR.VALID t = 1) ∧
      domCtl 0 t = domCtl 0 s ∧
      OnlyRegs [Reg.PMU_DOM_CTL.ON, Reg.PMU_DOM_PEND.PEND, Reg.PMU_DOM_ERR.VALID, Reg.PMU_DOM_ERR.DOM, Reg.PMU_DOM_ERR.CAUSE, Reg.PMU_DOM_ERR.MORE] s t ∧
      t = { s with regs := t.regs, pmu := t.pmu, sys := t.sys, evr := t.evr, sent := t.sent, host := { s.host with msixPend := t.host.msixPend } })) ∧
  (∀ (d : Nat) (s : State),
    d < 24 →
    d ∈ s.pmu.goingOn →
    parentOn d s = true →
    Gives (.domainOnComplete d) s (fun t =>
      domOn d t = true ∧
      d ∉ t.pmu.goingOn ∧
      (domCtl d s = false → bit Reg.PMU_DOM_PEND.PEND d t = true ∧ domCtl d t = false) ∧
      OnlyRegs [Reg.PMU_DOM_CTL.ON, Reg.PMU_DOM_STAT.ON, Reg.PMU_DOM_PEND.PEND] s t ∧
      t = { s with regs := t.regs, pmu := t.pmu, sys := t.sys, evr := t.evr, sent := t.sent, host := { s.host with msixPend := t.host.msixPend } })) ∧
  (∀ (d : Nat) (s : State),
    d < 24 →
    d ∈ s.pmu.goingOn →
    parentOn d s = true →
    domCtl d s = true →
    Gives (.domainOnComplete d) s (fun t =>
      domOn d t = true ∧
      domCtl d t = true ∧
      d ∉ t.pmu.goingOn ∧
      OnlyRegs [Reg.PMU_DOM_CTL.ON, Reg.PMU_DOM_STAT.ON] s t ∧
      t = { s with regs := t.regs, pmu := t.pmu, sys := t.sys, evr := t.evr, sent := t.sent, host := { s.host with msixPend := t.host.msixPend } })) ∧
  (∀ (d : Nat) (s : State),
    1 ≤ d →
    d < 24 →
    bit Reg.PMU_DOM_PEND.PEND d s = true →
    touches d s = false →
    childOn d s = false →
    Gives (.domainOff d) s (fun t =>
      domOn d t = false ∧
      domCtl d t = false ∧
      bit Reg.PMU_DOM_PEND.PEND d t = false ∧
      (MemKept (fun k => k != d || k == 1) s t) ∧
      (AtReset (fun k => regDomain (k / 32) != d || keyIn Reg.locked k || keyIn Reg.keptMram k || keyIn Reg.keptAon k) [] t) ∧
      (KeptFields (fun k => regDomain (k / 32) != d || keyIn Reg.locked k || keyIn Reg.keptMram k || keyIn Reg.keptAon k) [Reg.PMU_DOM_CTL.ON, Reg.PMU_DOM_STAT.ON, Reg.PMU_DOM_PEND.PEND] s t))) ∧
  (∀ (d n : Nat) (s : State),
    d < 24 →
    bit Reg.PMU_DOM_PEND.PEND d s = true →
    touches d s = true →
    ((if get Reg.PMU_DOM_CFG.DEFER_US s = 0 then 1000 else get Reg.PMU_DOM_CFG.DEFER_US s) ≤ n) →
    get Reg.PMU_DOM_ERR.VALID s = 0 →
    Gives (.domainDeferTimeout d n) s (fun t =>
      domCtl d t = true ∧
      bit Reg.PMU_DOM_PEND.PEND d t = false ∧
      get Reg.PMU_DOM_ERR.VALID t = 1 ∧
      get Reg.PMU_DOM_ERR.DOM t = d ∧
      get Reg.PMU_DOM_ERR.CAUSE t = 1 ∧
      OnlyRegs [Reg.PMU_DOM_CTL.ON, Reg.PMU_DOM_PEND.PEND, Reg.PMU_DOM_ERR.VALID, Reg.PMU_DOM_ERR.DOM, Reg.PMU_DOM_ERR.CAUSE] s t ∧
      OnlyEvents s t)) ∧
  (∀ (d n : Nat) (s : State),
    d < 24 →
    bit Reg.PMU_DOM_PEND.PEND d s = true →
    (touches d s = true ∨ childOn d s = true) →
    ((if get Reg.PMU_DOM_CFG.DEFER_US s = 0 then 1000 else get Reg.PMU_DOM_CFG.DEFER_US s) ≤ n) →
    Gives (.domainDeferTimeout d n) s (fun t =>
      domCtl d t = true ∧
      bit Reg.PMU_DOM_PEND.PEND d t = false ∧
      get Reg.PMU_DOM_ERR.VALID t = 1 ∧
      (get Reg.PMU_DOM_ERR.VALID s ≠ 1 → get Reg.PMU_DOM_ERR.DOM t = d ∧ get Reg.PMU_DOM_ERR.CAUSE t = 1) ∧
      (get Reg.PMU_DOM_ERR.VALID s = 1 → get Reg.PMU_DOM_ERR.MORE t = 1) ∧
      OnlyRegs [Reg.PMU_DOM_CTL.ON, Reg.PMU_DOM_PEND.PEND, Reg.PMU_DOM_ERR.VALID, Reg.PMU_DOM_ERR.DOM, Reg.PMU_DOM_ERR.CAUSE, Reg.PMU_DOM_ERR.MORE] s t ∧
      OnlyEvents s t))

/-- Checkpoints and RESCUE: trigger, sections, commit, the save, restore. Rests on R450, R451, R452, R455, R456, R457, R459, R460.
Where it meets them it rests on choices of the model: log entries 111, 112, 149, 150, 249. -/
def Obligations.CheckpointsAndTheRescueImage : Prop :=
  (∀ (n : Nat) (s : State),
    (mode s = 3 ∨ mode s = 4) →
    get Reg.PMU_CKPT_CTL.RESTORED s = 1 →
    get Reg.PMU_CKPT_CFG.PERIOD_S s ≠ 0 →
    get Reg.PMU_CKPT_CFG.PERIOD_S s * 1000 ≤ n →
    s.pmu.ckpt = none →
    Gives (.periodicCheckpoint n) s (fun t =>
      ((t.pmu.ckpt.map (fun c => (c.kind, c.slot, c.seq))) = some (1, nextSlot s, s.pmu.nextSeq)) ∧
      get Reg.PMU_CKPT_STAT.BUSY t = 1 ∧
      memNat (slotAddr (nextSlot s) + 0xFFC) 4 t = 0 ∧
      MemOutside (slotAddr (nextSlot s) + 0xFFC) 4 s t ∧
      OnlyRegs [Reg.PMU_CKPT_STAT.BUSY] s t ∧
      t = { s with regs := t.regs, pmu := t.pmu, mem := t.mem })) ∧
  (∀ (s : State),
    mode s ≠ 5 →
    get Reg.PMU_CKPT_CTL.RESTORED s = 1 →
    s.pmu.ckpt = none →
    Gives (.checkpointRequest) s (fun t =>
      ((t.pmu.ckpt.map (fun c => (c.kind, c.slot, c.seq))) = some (5, nextSlot s, s.pmu.nextSeq)) ∧
      get Reg.PMU_CKPT_STAT.BUSY t = 1 ∧
      memNat (slotAddr (nextSlot s) + 0xFFC) 4 t = 0 ∧
      MemOutside (slotAddr (nextSlot s) + 0xFFC) 4 s t ∧
      OnlyRegs [Reg.PMU_CKPT_STAT.BUSY] s t ∧
      t = { s with regs := t.regs, pmu := t.pmu, mem := t.mem })) ∧
  (∀ (s : State),
    mode s ≠ 5 →
    get Reg.PMU_CKPT_CTL.RESTORED s = 1 →
    s.pmu.ckpt ≠ none →
    Gives (.checkpointRequest) s (fun t =>
      get Reg.PMU_CKPT_STAT.HELD t = 1 ∧
      t.pmu.ckpt = s.pmu.ckpt ∧
      (t.pmu.held = some (match s.pmu.held with | none => 5 | some h => if h = 3 ∨ h = 4 ∨ h = 5 then h else 5)) ∧
      OnlyRegs [Reg.PMU_CKPT_STAT.HELD] s t ∧
      t = { s with regs := t.regs, pmu := t.pmu })) ∧
  (∀ (s : State),
    mode s ≠ 5 →
    get Reg.PMU_CKPT_CTL.RESTORED s = 0 →
    Gives (.checkpointRequest) s (fun t =>
      get Reg.PMU_CKPT_CTL.REQ t = 1 ∧
      OnlyRegs [Reg.PMU_CKPT_CTL.REQ] s t ∧
      OnlyRegisters s t)) ∧
  (∀ (n : Nat) (s : State),
    (mode s = 3 ∨ mode s = 4) →
    get Reg.PMU_CKPT_CTL.RESTORED s = 1 →
    get Reg.PMU_CKPT_CFG.PERIOD_S s ≠ 0 →
    (get Reg.PMU_CKPT_CFG.PERIOD_S s * 1000 ≤ n ∨ s.pmu.atOnce = true) →
    Gives (.periodicCheckpoint n) s (fun t =>
      t.pmu.atOnce = false ∧
      (s.pmu.ckpt = none → t.pmu.ckpt.map (fun c => (c.kind, c.slot, c.seq)) = some (1, nextSlot s, s.pmu.nextSeq) ∧ get Reg.PMU_CKPT_STAT.BUSY t = 1 ∧ memNat (slotAddr (nextSlot s) + 0xFFC) 4 t = 0) ∧
      (s.pmu.ckpt ≠ none → get Reg.PMU_CKPT_STAT.HELD t = 1 ∧ t.pmu.held = some (match s.pmu.held with | none => 1 | some h => h) ∧ t.pmu.ckpt = s.pmu.ckpt) ∧
      MemOutside (slotAddr (nextSlot s) + 0xFFC) 4 s t ∧
      OnlyRegs [Reg.PMU_CKPT_STAT.BUSY, Reg.PMU_CKPT_STAT.HELD] s t ∧
      t = { s with regs := t.regs, pmu := t.pmu, mem := t.mem })) ∧
  (∀ (s : State),
    mode s = 5 →
    Gives (.checkpointRequest) s (fun t =>
      get Reg.PMU_CKPT_CTL.REQ t = 0 ∧
      OnlyRegs [Reg.PMU_CKPT_CTL.REQ] s t ∧
      OnlyRegisters s t)) ∧
  (∀ (c : Ckpt) (s : State),
    s.pmu.ckpt = some c →
    c.next < 8 →
    Gives (.checkpointWrite) s (fun t =>
      (t.pmu.ckpt.map (·.next)) = some (c.next + 1) ∧
      ((get (Reg.PMU_RESCUE_SRC_HI.EN c.next) s = 0 → t.pmu.ckpt.map (·.secs) = some c.secs)) ∧
      MemOutside (slotAddr c.slot + c.ofs) (0x200000 - c.ofs) s t ∧
      OnlyRegs [Reg.PMU_RESCUE_STAT.TRUNC] s t ∧
      t = { s with regs := t.regs, pmu := t.pmu, mem := t.mem, evr := t.evr, host := { s.host with msixPend := t.host.msixPend } })) ∧
  (∀ (c : Ckpt) (s : State),
    s.pmu.ckpt = some c →
    c.next = 8 →
    c.kind ≠ 2 →
    s.pmu.held = none →
    c.secs.length ≤ 8 →
    Gives (.checkpointComplete) s (fun t =>
      get Reg.PMU_CKPT_STAT.LAST t = c.slot % 8 ∧
      get Reg.PMU_CKPT_SEQ_LO.SEQ t = c.seq % 2 ^ 32 ∧
      get Reg.PMU_CKPT_STAT.BUSY t = 0 ∧
      t.pmu.ckpt = none ∧
      t.pmu.nextSeq = c.seq + 1 ∧
      memNat (slotAddr c.slot + 0xFFC) 4 t = commitWord ∧
      MemOutside (slotAddr c.slot) 0x1000 s t ∧
      OnlyRegs [Reg.PMU_CKPT_STAT.BUSY, Reg.PMU_CKPT_STAT.LAST, Reg.PMU_CKPT_SEQ_LO.SEQ, Reg.PMU_CKPT_SEQ_HI.SEQ] s t ∧
      t = { s with regs := t.regs, pmu := t.pmu, mem := t.mem, evr := t.evr, zmg := t.zmg, sys := t.sys, sent := t.sent, host := { s.host with msixPend := t.host.msixPend } })) ∧
  (∀ (c : Ckpt) (s : State),
    s.pmu.ckpt = some c →
    c.next = 8 →
    c.kind ≠ 2 →
    Gives (.checkpointComplete) s (fun t =>
      get Reg.PMU_CKPT_STAT.LAST t = c.slot % 8 ∧
      get Reg.PMU_CKPT_SEQ_LO.SEQ t = c.seq % 2 ^ 32 ∧
      t.pmu.nextSeq = c.seq + 1 ∧
      t.pmu.held = none ∧
      t.pmu.ckpt.map (·.kind) = s.pmu.held ∧
      get Reg.PMU_CKPT_STAT.BUSY t = b2n s.pmu.held.isSome ∧
      OnlyRegs [Reg.PMU_CKPT_STAT.BUSY, Reg.PMU_CKPT_STAT.HELD, Reg.PMU_CKPT_STAT.LAST, Reg.PMU_CKPT_SEQ_LO.SEQ, Reg.PMU_CKPT_SEQ_HI.SEQ] s t ∧
      t = { s with regs := t.regs, pmu := t.pmu, mem := t.mem, evr := t.evr, zmg := t.zmg, sys := t.sys, sent := t.sent, host := { s.host with msixPend := t.host.msixPend } })) ∧
  (∀ (s : State),
    mode s = 5 →
    s.boot.rescue = 1 →
    Gives (.rescueSequence) s (fun t =>
      t.boot.rescue = 2 ∧
      ((t.pmu.ckpt.map (fun c => (c.kind, c.next))) = some (2, 8)))) ∧
  (∀ (s : State),
    mode s = 5 →
    s.boot.rescue = 4 →
    Gives (.rescueSequence) s (fun t =>
      t.boot.rescue = 3 ∧
      get Reg.PMU_RESCUE_STAT.RESULT t = 2 ∧
      ((List.range 24).all (fun d => d == 0 || !domOn d t) = true))) ∧
  (∀ (n : Nat) (c : Ckpt) (s : State),
    mode s = 5 →
    s.boot.rescue = 2 →
    s.pmu.ckpt = some c →
    s.boot.resetHeld = false →
    c.slot < 6 →
    c.secs.length ≤ 8 →
    Gives (.rescueFinalized n) s (fun t =>
      get Reg.PMU_RESCUE_STAT.RESULT t = 1 ∧
      get Reg.PMU_RESCUE_STAT.TIME t = min n 4095 ∧
      get Reg.PMU_CKPT_STAT.LAST t = c.slot % 8 ∧
      t.boot.rescue = 3 ∧
      memNat (slotAddr c.slot + 0xFFC) 4 t = commitWord)) ∧
  (∀ (s : State),
    mode s = 5 →
    (s.boot.rescue = 1 ∨ s.boot.rescue = 2) →
    s.boot.resetHeld = false →
    (s.pins.pwrOk = false ∨ s.pins.xin = false ∨ s.pins.pll = false) →
    Gives (.rescueAbandoned) s (fun t =>
      get Reg.PMU_RESCUE_STAT.RESULT t = 3 ∧
      t.boot.rescue = 3 ∧
      t.pmu.ckpt = none ∧
      OnlyRegs [Reg.PMU_RESCUE_STAT.RESULT, Reg.PMU_CKPT_STAT.BUSY] s t ∧
      t = { s with regs := t.regs, boot := t.boot, pmu := t.pmu })) ∧
  (∀ (n : Nat) (c : Ckpt) (s : State),
    mode s = 5 →
    s.boot.rescue = 2 →
    s.pmu.ckpt = some c →
    Gives (.rescueFinalized n) s (fun t =>
      (s.boot.resetHeld = false → get Reg.PMU_RESCUE_STAT.RESULT t = 1 ∧ get Reg.PMU_RESCUE_STAT.TIME t = min n 4095 ∧ t.boot.rescue = 3) ∧
      (s.boot.resetHeld = true → t.boot.rescue = 0 ∧ t.boot.resetHeld = false ∧ mode t = 2 ∧ t.boot.awaitBoot = pinsGood s ∧ t.cmd.ctxs = []))) ∧
  (∀ (s : State),
    rescueRuns s = true →
    s.boot.resetHeld = false →
    (s.pins.pwrOk = false ∨ s.pins.xin = false ∨ s.pins.pll = false) →
    Gives (.rescueAbandoned) s (fun t =>
      (get Reg.PMU_RESCUE_STAT.RESULT t = (if s.boot.rescue = 1 ∨ s.boot.rescue = 2 then 3 else get Reg.PMU_RESCUE_STAT.RESULT s)) ∧
      (t.boot.rescue = (if s.boot.rescue = 1 ∨ s.boot.rescue = 2 then 3 else s.boot.rescue)) ∧
      SameMem s t ∧
      t = { s with regs := t.regs, boot := t.boot, pmu := t.pmu })) ∧
  (∀ (s : State),
    rescueRuns s = true →
    s.boot.resetHeld = true →
    (s.pins.pwrOk = false ∨ s.pins.xin = false ∨ s.pins.pll = false) →
    Gives (.rescueAbandoned) s (fun t =>
      t.boot.rescue = 0 ∧
      t.boot.resetHeld = false ∧
      t.boot.awaitBoot = false ∧
      t.cmd.ctxs = [] ∧
      MemKept (· == 1) s t)) ∧
  (∀ (s : State),
    mode s = 2 →
    get Reg.PMU_CKPT_CTL.RESTORED s = 0 →
    bestSlot s = none →
    Gives (.checkpointRestore) s (fun t =>
      get Reg.PMU_CKPT_STAT.NONE t = 1 ∧
      t.pmu.nextSeq = topSeq s + 1 ∧
      ((s.boot.cause ≠ 7 → get Reg.EVR_STAT.WALL_STALE t = 1 ∧ wallMs t = 0)) ∧
      OnlyRegs [Reg.PMU_CKPT_STAT.NONE, Reg.EVR_STAT.WALL_STALE, Reg.EVR_WALL_LO.MS, Reg.EVR_WALL_HI.MS] s t ∧
      t = { s with regs := t.regs, pmu := t.pmu })) ∧
  (∀ (k : Nat) (s : State),
    mode s = 2 →
    get Reg.PMU_CKPT_CTL.RESTORED s = 0 →
    bestSlot s = some k →
    Gives (.checkpointRestore) s (fun t =>
      get Reg.PMU_CKPT_STAT.NONE t = 0 ∧
      get Reg.PMU_CKPT_STAT.RESTORED_SLOT t = k ∧
      t.pmu.nextSeq = topSeq s + 1 ∧
      ((slotSeq k s < topSeq s → get Reg.PMU_CKPT_STAT.FALLBACK t = 1)) ∧
      OnlyRegs [Reg.PMU_CKPT_STAT.NONE, Reg.PMU_CKPT_STAT.RESTORED_SLOT, Reg.PMU_CKPT_STAT.KIND, Reg.PMU_CKPT_STAT.FALLBACK, Reg.EVR_STAT.WALL_STALE, Reg.EVR_WALL_LO.MS, Reg.EVR_WALL_HI.MS] s t ∧
      t = { s with regs := t.regs, pmu := t.pmu, evr := t.evr, sent := t.sent, host := { s.host with msixPend := t.host.msixPend } })) ∧
  (∀ (l : List (Nat × Nat)) (g : List (Nat × List Decoded)) (y : List Nat) (s : State),
    mode s = 2 →
    get Reg.PMU_CKPT_CTL.RESTORED s = 0 →
    Gives (.restored l g y) s (fun t =>
      get Reg.PMU_CKPT_CTL.RESTORED t = 1 ∧
      (get Reg.PMU_CKPT_CTL.REQ s = 1 → get Reg.PMU_CKPT_CTL.REQ t = 0) ∧
      (get Reg.PMU_CKPT_CTL.REQ s = 1 ∧ s.pmu.ckpt = none → t.pmu.ckpt.map (·.kind) = some 5) ∧
      (get Reg.PMU_CKPT_CTL.REQ s ≠ 1 → t.pmu = s.pmu) ∧
      t = { s with regs := t.regs, mem := t.mem, poison := t.poison, memp := t.memp, tch := t.tch, free := t.free, cmd := t.cmd, zmg := t.zmg, sys := t.sys, evr := t.evr, sent := t.sent, pmu := t.pmu, host := { s.host with msixPend := t.host.msixPend } })) ∧
  (∀ (l : List (Nat × Nat)) (g : List (Nat × List Decoded)) (y : List Nat) (s : State),
    mode s = 2 →
    get Reg.PMU_CKPT_CTL.RESTORED s = 0 →
    get Reg.PMU_CKPT_CTL.REQ s ≠ 1 →
    s.boot.cause = 7 →
    y = [] →
    Gives (.restored l g y) s (fun t =>
      get Reg.PMU_CKPT_CTL.RESTORED t = 1 ∧
      OnlyRegs [Reg.PMU_CKPT_CTL.RESTORED] s t ∧
      OnlyRegisters s t))

/-- EVR: lifetime and wall time, time set, posting, the ring. Rests on R462, R463, R465, R466, R468, R469, R470, R471, R472, R474,
R523. Where it meets them it rests on choices of the model: log entries 17, 25, 105, 106, 281. -/
def Obligations.RecordsAndClocksAdvance : Prop :=
  (∀ (s : State),
    200000 ≤ s.tmp.lifeDiv →
    Gives (.lifetimeSecondTick) s (fun t =>
      lifeSec t = (lifeSec s + 1) % 2 ^ 32 ∧
      t.tmp.lifeDiv + 200000 = s.tmp.lifeDiv ∧
      t.seals.served = 0 ∧
      OnlyRegs [Reg.EVR_LIFE.SECONDS] s t ∧
      t = { s with regs := t.regs, tmp := t.tmp, seals := t.seals, evr := t.evr, host := { s.host with msixPend := t.host.msixPend } })) ∧
  (∀ (s : State),
    200 ≤ s.tmp.wallDiv →
    Gives (.wallTimeTick) s (fun t =>
      wallMs t = (wallMs s + 1) % 2 ^ 64 ∧
      t.tmp.wallDiv + 200 = s.tmp.wallDiv ∧
      OnlyRegs [Reg.EVR_WALL_LO.MS, Reg.EVR_WALL_HI.MS] s t ∧
      t = { s with regs := t.regs, tmp := t.tmp })) ∧
  (∀ (hi : Nat) (s : State),
    Gives (.timeSet hi) s (fun t =>
      t.evr.newWall = some (s.evr.wallLow + 2 ^ 32 * (hi % 2 ^ 32)) ∧
      wallMs t = wallMs s ∧
      ((s.evr.staged.length < 64 → t.evr.staged.length = s.evr.staged.length + 1)) ∧
      OnlyRegs [] s t ∧
      t = { s with evr := t.evr, host := { s.host with msixPend := t.host.msixPend } })) ∧
  (∀ (p m v : Nat) (s : State),
    p < 10 →
    v.testBit 31 = true →
    v.testBit 21 = false →
    get Reg.EVR_CTL.EN s = 1 →
    get (Reg.EVR_CODE.EN (v % 2 ^ 12)) s = 1 →
    get (Reg.EVR_RATE_CFG.RATE (get (Reg.EVR_CODE.CLASS (v % 2 ^ 12)) s)) s = 0 →
    s.evr.staged.length < 64 →
    Gives (.eventPost p m v) s (fun t =>
      get (Reg.EVR_PORT_CMD.CODE p) t = v % 2 ^ 12 ∧
      t.evr.staged.map (·.code) = s.evr.staged.map (·.code) ++ [v % 2 ^ 12] ∧
      OnlyRegs [Reg.EVR_PORT_CMD.CODE p, Reg.EVR_PORT_CMD.SEV p, Reg.EVR_PORT_CMD.UNIT p, Reg.EVR_PORT_CMD.REPEAT p] s t ∧
      t = { s with regs := t.regs, evr := t.evr, host := { s.host with msixPend := t.host.msixPend } })) ∧
  (∀ (p m v : Nat) (s : State),
    p < 10 →
    v.testBit 31 = false →
    Gives (.eventPost p m v) s (fun t =>
      get (Reg.EVR_PORT_CMD.CODE p) t = v % 2 ^ 12 ∧
      t.evr = s.evr ∧
      OnlyRegs [Reg.EVR_PORT_CMD.CODE p, Reg.EVR_PORT_CMD.SEV p, Reg.EVR_PORT_CMD.UNIT p, Reg.EVR_PORT_CMD.REPEAT p] s t ∧
      OnlyRegisters s t)) ∧
  (∀ (p m v : Nat) (s : State),
    p < 10 →
    Gives (.eventPost p m v) s (fun t =>
      get (Reg.EVR_PORT_CMD.CODE p) t = v % 2 ^ 12 ∧
      get (Reg.EVR_PORT_CMD.SEV p) t = v / 2 ^ 12 % 16 ∧
      get (Reg.EVR_PORT_CMD.UNIT p) t = v / 2 ^ 16 % 32 ∧
      get (Reg.EVR_PORT_CMD.REPEAT p) t = v / 2 ^ 21 % 2 ∧
      (∀ r ∈ t.evr.staged, r ∈ s.evr.staged ∨ (v.testBit 31 = true ∧ r.code = v % 2 ^ 12 ∧ r.sev = v / 2 ^ 12 % 16 ∧ r.port = p)) ∧
      (v.testBit 31 = true ∧ (forcedCode (v % 2 ^ 12) = true ∨ (get Reg.EVR_CTL.EN s = 1 ∧ get (Reg.EVR_CODE.EN (v % 2 ^ 12)) s = 1 ∧ (v.testBit 21 = true ∨ hasToken (v % 2 ^ 12) s = true))) ∧ s.evr.staged.length < 64 → t.evr.staged.length = s.evr.staged.length + 1) ∧
      OnlyRegs [Reg.EVR_PORT_CMD.CODE p, Reg.EVR_PORT_CMD.SEV p, Reg.EVR_PORT_CMD.UNIT p, Reg.EVR_PORT_CMD.REPEAT p] s t ∧
      t = { s with regs := t.regs, evr := t.evr, host := { s.host with msixPend := t.host.msixPend } })) ∧
  (∀ (c u : Nat) (l : List Nat) (s : State),
    (c = 0x020 ∨ c = 0x021 ∨ c = 0x6E0) →
    s.evr.staged.length < 64 →
    Gives (.hardwareEventPost c u l) s (fun t =>
      t.evr.staged.map (·.code) = s.evr.staged.map (·.code) ++ [c] ∧
      OnlyRegs [] s t ∧
      t = { s with evr := t.evr, host := { s.host with msixPend := t.host.msixPend } })) ∧
  (∀ (c u : Nat) (l : List Nat) (s : State),
    c < 0x840 →
    (c < 0x6C0 ∨ 0x6C2 < c) →
    Gives (.hardwareEventPost c u l) s (fun t =>
      ((∀ r ∈ t.evr.staged, r ∈ s.evr.staged ∨ r.code = c)) ∧
      OnlyRegs [] s t ∧
      t = { s with evr := t.evr, host := { s.host with msixPend := t.host.msixPend } })) ∧
  (∀ (r : EvRec) (l : List EvRec) (s : State),
    s.evr.staged = r :: l →
    domOn 1 s = true →
    mergesWith r s = false →
    (lateToken r = false ∨ hasToken r.code s = true) →
    mode s ≠ 5 →
    0 < s.evr.budget →
    Gives (.recordWrite) s (fun t =>
      t.evr.staged = s.evr.staged.drop 1 ∧
      get Reg.EVR_HEAD.HEAD t = (get Reg.EVR_HEAD.HEAD s + 1) % 32768 ∧
      evrSeq t = (evrSeq s + 1) % 2 ^ 48 ∧
      t.evr.budget + 1 = s.evr.budget ∧
      MemOutside (ringAddr (get Reg.EVR_HEAD.HEAD s)) 64 s t ∧
      OnlyRegs [Reg.EVR_HEAD.HEAD, Reg.EVR_HEAD.WRAPS, Reg.EVR_SEQ_LO.SEQ, Reg.EVR_SEQ_HI.SEQ] s t ∧
      t = { s with regs := t.regs, mem := t.mem, evr := t.evr, sys := t.sys, sent := t.sent, host := { s.host with msixPend := t.host.msixPend } })) ∧
  (∀ (r : EvRec) (l : List EvRec) (s : State),
    s.evr.staged = r :: l →
    domOn 1 s = true →
    mergesWith r s = false →
    (lateToken r = false ∨ hasToken r.code s = true) →
    mode s = 5 →
    Gives (.recordWrite) s (fun t =>
      t.evr.staged = s.evr.staged.drop 1 ∧
      get Reg.EVR_HEAD.HEAD t = (get Reg.EVR_HEAD.HEAD s + 1) % 32768 ∧
      t.evr.budget = s.evr.budget ∧
      MemOutside (ringAddr (get Reg.EVR_HEAD.HEAD s)) 64 s t ∧
      OnlyRegs [Reg.EVR_HEAD.HEAD, Reg.EVR_HEAD.WRAPS, Reg.EVR_SEQ_LO.SEQ, Reg.EVR_SEQ_HI.SEQ] s t ∧
      t = { s with regs := t.regs, mem := t.mem, evr := t.evr, sys := t.sys, sent := t.sent, host := { s.host with msixPend := t.host.msixPend } })) ∧
  (∀ (r : EvRec) (l : List EvRec) (s : State),
    s.evr.staged = r :: l →
    domOn 1 s = true →
    mergesWith r s = false →
    lateToken r = true →
    hasToken r.code s = false →
    (mode s = 5 ∨ 0 < s.evr.budget) →
    Gives (.recordWrite) s (fun t =>
      t.evr.staged = s.evr.staged.drop 1 ∧
      AMap.getD t.evr.drops (codeClass r.code s) 0 = (AMap.getD s.evr.drops (codeClass r.code s) 0 + 1) % 2 ^ 32 ∧
      r.code ∈ t.evr.gaps ∧
      OnlyRegs [] s t ∧
      t = { s with evr := t.evr, host := { s.host with msixPend := t.host.msixPend } })) ∧
  (∀ (r : EvRec) (l : List EvRec) (s : State),
    s.evr.staged = r :: l →
    domOn 1 s = true →
    mergesWith r s = true →
    Gives (.repeatMerge) s (fun t =>
      t.evr.staged = s.evr.staged.drop 1 ∧
      memNat (ringAddr (newestIdx s) + 14) 2 t = min 65535 (memNat (ringAddr (newestIdx s) + 14) 2 s + 1) ∧
      recordChecks (newestIdx s) t = true ∧
      MemOutside (ringAddr (newestIdx s)) 64 s t ∧
      OnlyRegs [] s t ∧
      t = { s with mem := t.mem, evr := t.evr, host := { s.host with msixPend := t.host.msixPend } })) ∧
  (∀ (s : State),
    s.evr.staged = [] →
    0 < s.evr.lostSince →
    Gives (.recordsLost) s (fun t =>
      t.evr.lostSince = 0 ∧
      t.evr.staged.map (·.code) = [0x6E0] ∧
      OnlyRegs [] s t ∧
      t = { s with evr := t.evr, sys := t.sys, sent := t.sent, host := { s.host with msixPend := t.host.msixPend } })) ∧
  (∀ (s : State),
    mode s = 2 →
    Gives (.ringScan) s (fun t =>
      ((ringNewest s).all (fun p => get Reg.EVR_HEAD.HEAD t == (p.1 + 1) % 32768 && evrSeq t == (p.2 + 1) % 2 ^ 48) = true) ∧
      ((ringNewest s = none → evrSeq t = s.evr.seqCopy % 2 ^ 48)) ∧
      OnlyRegs [Reg.EVR_HEAD.HEAD, Reg.EVR_SEQ_LO.SEQ, Reg.EVR_SEQ_HI.SEQ] s t ∧
      OnlyRegisters s t))

/-- CAL and SPR: due, overdue, done, retired cores, core 8, spare discs. Rests on R31, R477, R479, R480, R481, R482. Where it meets
them it rests on choices of the model: log entries 107, 108, 109, 151, 284. -/
def Obligations.CalibrationsAndSparesInService : Prop :=
  (∀ (k : Nat) (s : State),
    k < 16 →
    calTracked k s = true →
    calDue k s = false →
    (get (Reg.CAL_KIND_LAST.LIFE k) s = 0 ∨ get (Reg.CAL_KIND_LAST.LIFE k) s + get (Reg.CAL_KIND_CFG.INTERVAL k) s * 3600 ≤ lifeSec s) →
    Gives (.calibrationDue k) s (fun t =>
      bit Reg.CAL_DUE.DUE k t = true ∧
      OnlyRegs [Reg.CAL_DUE.DUE] s t ∧
      t = { s with regs := t.regs, cal := t.cal, evr := t.evr, sys := t.sys, sent := t.sent, host := { s.host with msixPend := t.host.msixPend } })) ∧
  (∀ (k : Nat) (s : State),
    k < 16 →
    calTracked k s = true →
    calDue k s = true →
    bit Reg.CAL_DUE.OVERDUE k s = false →
    AMap.getD s.cal.dueAt k 0 + get (Reg.CAL_KIND_CFG.INTERVAL k) s * 3600 ≤ lifeSec s →
    Gives (.calibrationOverdue k) s (fun t =>
      bit Reg.CAL_DUE.OVERDUE k t = true ∧
      OnlyRegs [Reg.CAL_DUE.OVERDUE] s t ∧
      t = { s with regs := t.regs, evr := t.evr, sys := t.sys, sent := t.sent, host := { s.host with msixPend := t.host.msixPend } })) ∧
  (∀ (v : Nat) (s : State),
    v.testBit 31 = true →
    Gives (.calDone v) s (fun t =>
      get (Reg.CAL_KIND_STAT.RESULT (v % 16)) t = v / 16 % 4 ∧
      get (Reg.CAL_KIND_COUNT.COUNT (v % 16)) t = (get (Reg.CAL_KIND_COUNT.COUNT (v % 16)) s + 1) % 2 ^ (Reg.CAL_KIND_COUNT.COUNT 0).width ∧
      ((v / 16 % 4 ≠ 2 → get (Reg.CAL_KIND_LAST.LIFE (v % 16)) t = lifeSec s % 2 ^ 32 ∧ bit Reg.CAL_DUE.DUE (v % 16) t = false ∧ bit Reg.CAL_DUE.OVERDUE (v % 16) t = false)) ∧
      ((v / 16 % 4 = 2 → get (Reg.CAL_KIND_LAST.LIFE (v % 16)) t = get (Reg.CAL_KIND_LAST.LIFE (v % 16)) s)) ∧
      OnlyRegs [Reg.CAL_DONE.KIND, Reg.CAL_DONE.RESULT, Reg.CAL_KIND_STAT.RESULT (v % 16), Reg.CAL_KIND_STAT.TRACED (v % 16), Reg.CAL_KIND_COUNT.COUNT (v % 16), Reg.CAL_KIND_LAST.LIFE (v % 16), Reg.CAL_DUE.DUE, Reg.CAL_DUE.OVERDUE] s t ∧
      t = { s with regs := t.regs, cal := t.cal, evr := t.evr, host := { s.host with msixPend := t.host.msixPend } })) ∧
  (∀ (v : Nat) (s : State),
    v.testBit 31 = false →
    Gives (.calDone v) s (fun t =>
      get Reg.CAL_DONE.KIND t = v % 16 ∧
      get Reg.CAL_DONE.RESULT t = v / 16 % 4 ∧
      OnlyRegs [Reg.CAL_DONE.KIND, Reg.CAL_DONE.RESULT] s t ∧
      OnlyRegisters s t)) ∧
  (∀ (m : Nat) (s : State),
    Gives (.coreRetire m) s (fun t =>
      get Reg.SPR_CORE.RETIRE t = (get Reg.SPR_CORE.RETIRE s ||| m) % 2 ^ Reg.SPR_CORE.RETIRE.width ∧
      OnlyRegs [Reg.SPR_CORE.RETIRE] s t ∧
      OnlyEvents s t)) ∧
  (∀ (n : Nat) (s : State),
    n % 16 ≠ 15 →
    get Reg.SPR_CORE.SEL s = 15 →
    bit Reg.SPR_CORE.RETIRE 8 s = false →
    Gives (.core8Select n) s (fun t =>
      get Reg.SPR_CORE.SEL t = n % 16 ∧
      get Reg.SPR_INV.CORE t = 0 ∧
      get Reg.SPR_STAT.PROMOS t = (get Reg.SPR_STAT.PROMOS s + 1) % 2 ^ Reg.SPR_STAT.PROMOS.width ∧
      8 ∈ t.sys.started ∧
      OnlyRegs [Reg.SPR_CORE.SEL, Reg.SPR_INV.CORE, Reg.SPR_STAT.PROMOS] s t ∧
      OnlyEvents s t)) ∧
  (∀ (n : Nat) (s : State),
    (get Reg.SPR_CORE.SEL s ≠ 15 ∨ bit Reg.SPR_CORE.RETIRE 8 s = true) →
    Gives (.core8Select n) s (fun t =>
      get Reg.SPR_STAT.REFUSED t = 1 ∧
      OnlyRegs [Reg.SPR_STAT.REFUSED] s t ∧
      OnlyRegisters s t)) ∧
  (∀ (d : Nat) (s : State),
    d < 2 →
    (get (if d = 0 then Reg.SPR_DISC.USED0 else Reg.SPR_DISC.USED1) s = 0) →
    Gives (.spareDiscPromote d) s (fun t =>
      (get (if d = 0 then Reg.SPR_DISC.USED0 else Reg.SPR_DISC.USED1) t = 1) ∧
      get Reg.SPR_INV.DISCS t = (get Reg.SPR_INV.DISCS s - 1) % 2 ^ Reg.SPR_INV.DISCS.width ∧
      OnlyRegs [Reg.SPR_DISC.USED0, Reg.SPR_DISC.USED1, Reg.SPR_INV.DISCS, Reg.SPR_STAT.PROMOS] s t ∧
      OnlyEvents s t))

/-- Actuators: seeks submitted and taken, wedges, settling, reseeking. Rests on R121, R122, R124, R125, R126, R127, R128, R139.
Where it meets them it rests on choices of the model: log entries 38, 199, 200. -/
def Obligations.ActuatorSeeksAndWedges : Prop :=
  (∀ (a : Nat) (v : Nat) (s : State),
    a < 2 →
    Gives (.seekGo a v) s (fun t =>
      get (Reg.ACT_SEEK.TRACK a) t = v % 2 ^ 22 ∧
      get (Reg.ACT_SEEK.WRITE a) t = v / 2 ^ 24 % 2 ∧
      get (Reg.ACT_SEEK.SHINGLED a) t = v / 2 ^ 25 % 2 ∧
      get (Reg.ACT_SEEK.DIR a) t = v / 2 ^ 26 % 2 ∧
      actState a t = actState a s ∧
      ((v.testBit 31 = true → 2 ≤ actState a s → actState a s ≤ 5 → get (Reg.ACT_SEEK.GO a) t = 1)) ∧
      ((v.testBit 31 = true → actState a s = 1 → get (Reg.ACT_STAT.CMD_PEND a) t = 1 ∧ (actOf a t).goHeld = true)) ∧
      ((v.testBit 31 = true → actState a s = 0 ∨ 6 ≤ actState a s → get (Reg.ACT_STAT.REFUSED a) t = 1 ∧ get (Reg.ACT_SEEK.GO a) t = 0)) ∧
      OnlyRegs [Reg.ACT_SEEK.TRACK a, Reg.ACT_SEEK.WRITE a, Reg.ACT_SEEK.SHINGLED a, Reg.ACT_SEEK.DIR a, Reg.ACT_SEEK.GO a, Reg.ACT_STAT.CMD_PEND a, Reg.ACT_STAT.REFUSED a] s t ∧
      t = { s with regs := t.regs, act := t.act } ∧
      SameMem s t)) ∧
  (∀ (a : Nat) (s : State),
    a < 2 →
    get (Reg.ACT_SEEK.GO a) s = 1 →
    2 ≤ actState a s →
    actState a s ≤ 4 →
    isService a s = true →
    badTarget a s = false →
    get (Reg.ACT_STAT.PERMIT1 a) s ≤ 1 →
    get (Reg.ACT_STAT.PERMIT2 a) s ≤ 1 →
    Gives (.seekTake a) s (fun t =>
      actState a t = 2 ∧
      get (Reg.ACT_SEEK.GO a) t = 0 ∧
      get (Reg.ACT_STAT.PERMIT1 a) t = 0 ∧
      get (Reg.ACT_STAT.PERMIT2 a) t = 0 ∧
      (actOf a t).track = get (Reg.ACT_SEEK.TRACK a) s ∧
      (actOf a t).head1 = get (Reg.ACT_HEADS.HEAD1 a) s ∧
      (actOf a t).newTarget = true ∧
      OnlyBlocks [5, 6, 7] s t ∧
      SameMem s t)) ∧
  (∀ (a : Nat) (s : State),
    a < 2 →
    get (Reg.ACT_SEEK.GO a) s = 1 →
    2 ≤ actState a s →
    actState a s ≤ 4 →
    isService a s = true →
    badTarget a s = true →
    Gives (.seekTake a) s (fun t =>
      get (Reg.ACT_STAT.BAD_TGT a) t = 1 ∧
      get (Reg.ACT_SEEK.GO a) t = 0 ∧
      OnlyRegs [Reg.ACT_STAT.BAD_TGT a, Reg.ACT_SEEK.GO a] s t ∧
      OnlyRegisters s t ∧
      SameMem s t)) ∧
  (∀ (a : Nat) (s : State),
    a < 2 →
    get (Reg.ACT_SEEK.GO a) s = 1 →
    2 ≤ actState a s →
    actState a s ≤ 4 →
    isService a s = true →
    Gives (.seekTake a) s (fun t =>
      get (Reg.ACT_SEEK.GO a) t = 0 ∧
      ((badTarget a s = false → actState a t = 2 ∧ (actOf a t).track = get (Reg.ACT_SEEK.TRACK a) s ∧ (actOf a t).head1 = get (Reg.ACT_HEADS.HEAD1 a) s)) ∧
      ((badTarget a s = true → get (Reg.ACT_STAT.BAD_TGT a) t = 1 ∧ actState a t = actState a s)) ∧
      OnlyBlocks [5, 6, 7] s t ∧
      SameMem s t)) ∧
  (∀ (a : Nat) (o : WedgeObs) (s : State),
    a < 2 →
    1 ≤ actState a s →
    actState a s ≤ 6 →
    Gives (.wedgeDemodComplete a o) s (fun t =>
      get (Reg.ACT_WEDGE_TIME.WEDGE a) t = ((actOf a s).nextNo.getD o.h1.wedge) % 2 ^ (Reg.ACT_WEDGE_TIME.WEDGE 0).width ∧
      get (Reg.ACT_WEDGE_TIME.VALID a) t = b2n (!wedgeMissed a 1 o.h1 s) ∧
      ((wedgeMissed a 1 o.h1 s = true → (actOf a s).head2 = 31 → get (Reg.ACT_CNT.MISSED a) t = (get (Reg.ACT_CNT.MISSED a) s + 1) % 2 ^ (Reg.ACT_CNT.MISSED 0).width)) ∧
      ((wedgeMissed a 1 o.h1 s = false → get (Reg.ACT_PES.PES1 a) t = ofInt 16 (satTo 16 (wedgeErr a 1 o.h1 s)))) ∧
      (actOf a t).wedges = (actOf a s).wedges + 1 ∧
      OnlyBlocks [3, 4, 5, 6, 7] s t ∧
      SameMem s t)) ∧
  (∀ (a : Nat) (s : State),
    a < 2 →
    actState a s = 3 →
    get (Reg.ACT_SETTLE.RD_N a) s ≤ (actOf a s).okRow →
    Gives (.actSettleDone a) s (fun t =>
      actState a t = 4 ∧
      get (Reg.ACT_STAT.LOADED a) t = 1 ∧
      get (Reg.ACT_STAT.ATTEMPTS a) t = 0 ∧
      OnlyRegs [Reg.ACT_STAT.STATE a, Reg.ACT_STAT.LOADED a, Reg.ACT_STAT.ATTEMPTS a] s t ∧
      t = { s with regs := t.regs, act := t.act, sys := t.sys, evr := t.evr, sent := t.sent, host := { s.host with msixPend := t.host.msixPend } } ∧
      SameMem s t)) ∧
  (∀ (a : Nat) (s : State),
    a < 2 →
    actState a s = 3 →
    tempos (get (Reg.ACT_SETTLE.TMO_MS a) s) ≤ tmpCount s - (actOf a s).since →
    (actOf a s).timeouts < 2 →
    Gives (.actSettleTimeout a) s (fun t =>
      actState a t = 2 ∧
      (actOf a t).timeouts = (actOf a s).timeouts + 1 ∧
      OnlyRegs [Reg.ACT_STAT.STATE a] s t ∧
      t = { s with regs := t.regs, act := t.act, sys := t.sys, evr := t.evr, sent := t.sent, host := { s.host with msixPend := t.host.msixPend } } ∧
      SameMem s t)) ∧
  (∀ (a : Nat) (s : State),
    a < 2 →
    actState a s = 3 →
    tempos (get (Reg.ACT_SETTLE.TMO_MS a) s) ≤ tmpCount s - (actOf a s).since →
    2 ≤ (actOf a s).timeouts →
    Gives (.actSettleTimeout a) s (fun t =>
      actState a t = 6 ∧
      (actOf a t).faultPend = true ∧
      OnlyBlocks [5, 6] s t ∧
      SameMem s t)) ∧
  (∀ (a : Nat) (s : State),
    a < 2 →
    2 ≤ actState a s →
    actState a s ≤ 4 →
    1 ≤ (actOf a s).missRow →
    get (Reg.ACT_DEMOD_CFG.MISS_RESEEK a) s ≤ (actOf a s).missRow →
    Gives (.actReseekEntry a) s (fun t =>
      actState a t = 5 ∧
      OnlyBlocks [5, 6, 7] s t ∧
      SameMem s t)) ∧
  (∀ (a : Nat) (s : State),
    a < 2 →
    actState a s = 5 →
    get (Reg.ACT_DEMOD_CFG.RESEEK_FAULT a) s ≤ (actOf a s).missRow →
    Gives (.actReseekFault a) s (fun t =>
      actState a t = 6 ∧
      (actOf a t).faultPend = true ∧
      OnlyBlocks [5, 6] s t ∧
      SameMem s t))

/-- Actuators: load, unload, retract, faults, unpairing, the write-unsafe log. Rests on R9, R125, R128, R138, R141, R144, R146,
R147. Where it meets them it rests on choices of the model: log entries 19, 22, 23, 40, 201. -/
def Obligations.ActuatorLoadsAndUnloads : Prop :=
  (∀ (a : Nat) (s : State),
    a < 2 →
    actState a s = 0 →
    get Reg.SPN_STAT.STATE s = 7 →
    Gives (.actLoad a) s (fun t =>
      actState a t = 1 ∧
      ((actOf a t).acqHead = (if isRetired (get (Reg.ACT_LOAD.HEAD a) s) s = true then nextHead a (get (Reg.ACT_LOAD.HEAD a) s) s else get (Reg.ACT_LOAD.HEAD a) s)) ∧
      get (Reg.ACT_STAT.CMD_PEND a) t = b2n (actOf a s).goHeld ∧
      get (Reg.ACT_CTL.LOAD a) t = 0 ∧
      OnlyBlocks [5, 6] s t ∧
      SameMem s t)) ∧
  (∀ (a : Nat) (s : State),
    a < 2 →
    (get Reg.SPN_STAT.STATE s ≠ 7 ∨ actState a s = 6) →
    Gives (.actLoad a) s (fun t =>
      (actOf a t).loadHeld = true ∧
      get (Reg.ACT_STAT.CMD_PEND a) t = 1 ∧
      OnlyRegs [Reg.ACT_CTL.LOAD a, Reg.ACT_STAT.CMD_PEND a] s t ∧
      t = { s with regs := t.regs, act := t.act } ∧
      SameMem s t)) ∧
  (∀ (a : Nat) (s : State),
    a < 2 →
    actState a s ≠ 0 →
    actState a s ≠ 6 →
    get Reg.SPN_STAT.STATE s = 7 →
    Gives (.actLoad a) s (fun t =>
      get (Reg.ACT_STAT.REFUSED a) t = 1 ∧
      OnlyRegs [Reg.ACT_CTL.LOAD a, Reg.ACT_STAT.REFUSED a] s t ∧
      OnlyRegisters s t ∧
      SameMem s t)) ∧
  (∀ (a : Nat) (s : State),
    a < 2 →
    actState a s = 1 →
    4 ≤ (actOf a s).validRow →
    (actOf a s).goHeld = false →
    get (Reg.ACT_CTL.UNLOAD a) s = 0 →
    (actOf a s).acqHead < 24 →
    Gives (.actLoadAcquired a) s (fun t =>
      actState a t = 2 ∧
      (actOf a t).track = get (Reg.ACT_LOAD.HOME a) s ∧
      (actOf a t).head1 = (actOf a s).acqHead ∧
      get (Reg.ACT_STAT.CMD_PEND a) t = 0 ∧
      OnlyBlocks [5, 6] s t ∧
      SameMem s t)) ∧
  (∀ (a : Nat) (s : State),
    a < 2 →
    actState a s = 1 →
    4 ≤ (actOf a s).validRow →
    Gives (.actLoadAcquired a) s (fun t =>
      get (Reg.ACT_STAT.CMD_PEND a) t = 0 ∧
      (actOf a t).goHeld = false ∧
      (actState a t = (if get (Reg.ACT_CTL.UNLOAD a) s = 1 then 6 else 2)) ∧
      SameMem s t)) ∧
  (∀ (a : Nat) (s : State),
    a < 2 →
    actState a s = 1 →
    tempos (10 * get (Reg.ACT_LU_CFG.LOAD_TMO a) s) ≤ tmpCount s - (actOf a s).since →
    Gives (.actLoadTimeout a) s (fun t =>
      actState a t = 6 ∧
      ((get (Reg.ACT_STAT.ATTEMPTS a) s < 2 → (actOf a t).retry = true)) ∧
      ((2 ≤ get (Reg.ACT_STAT.ATTEMPTS a) s → (actOf a t).faultPend = true)) ∧
      OnlyBlocks [5, 6] s t ∧
      SameMem s t)) ∧
  (∀ (a : Nat) (s : State),
    a < 2 →
    2 ≤ actState a s →
    actState a s ≤ 5 →
    Gives (.actUnload a) s (fun t =>
      actState a t = 6 ∧
      get (Reg.ACT_CTL.UNLOAD a) t = 0 ∧
      OnlyBlocks [5, 6, 7] s t ∧
      SameMem s t)) ∧
  (∀ (a : Nat) (s : State),
    a < 2 →
    (actState a s < 2 ∨ 5 < actState a s) →
    Gives (.actUnload a) s (fun t =>
      actState a t = actState a s ∧
      (get (Reg.ACT_CTL.UNLOAD a) t = (if actState a s = 0 then 0 else 1)) ∧
      OnlyRegs [Reg.ACT_CTL.UNLOAD a] s t ∧
      OnlyRegisters s t ∧
      SameMem s t)) ∧
  (∀ (a : Nat) (s : State),
    a < 2 →
    actState a s = 6 →
    2000 ≤ (actOf a s).lowRow →
    (actOf a s).retry = false →
    (actOf a s).faultPend = false →
    Gives (.actParked a) s (fun t =>
      (actState a t = (if (actOf a s).loadHeld = true ∧ get Reg.SPN_STAT.STATE s = 7 then 1 else 0)) ∧
      get (Reg.ACT_STAT.LOADED a) t = 0 ∧
      get (Reg.ACT_CTL.UNLOAD a) t = 0 ∧
      OnlyBlocks [5, 6] s t ∧
      SameMem s t)) ∧
  (∀ (a : Nat) (s : State),
    a < 2 →
    actState a s = 6 →
    2000 ≤ (actOf a s).lowRow →
    (actOf a s).retry = false →
    (actOf a s).faultPend = true →
    Gives (.actParked a) s (fun t =>
      actState a t = 8 ∧
      get (Reg.ACT_STAT.LOADED a) t = 0 ∧
      OnlyBlocks [5, 6] s t ∧
      SameMem s t)) ∧
  (∀ (a : Nat) (s : State),
    a < 2 →
    actState a s = 6 →
    2000 ≤ (actOf a s).lowRow →
    (actOf a s).retry = true →
    Gives (.actParked a) s (fun t =>
      actState a t = 1 ∧
      get (Reg.ACT_STAT.ATTEMPTS a) t = (get (Reg.ACT_STAT.ATTEMPTS a) s + 1) % 2 ^ (Reg.ACT_STAT.ATTEMPTS 0).width ∧
      OnlyBlocks [5, 6] s t ∧
      SameMem s t)) ∧
  (∀ (a : Nat) (s : State),
    a < 2 →
    actState a s = 6 →
    tempos (10 * get (Reg.ACT_LU_CFG.UNLOAD_TMO a) s) ≤ tmpCount s - (actOf a s).since →
    Gives (.actUnloadTimeout a) s (fun t =>
      actState a t = 7 ∧
      (stgOf 0 t).retractReq = true ∧
      (actOf a t).faultPend = true ∧
      OnlyBlocks [5, 6] s t ∧
      SameMem s t)) ∧
  (∀ (a : Nat) (s : State),
    a < 2 →
    actState a s ≤ 6 →
    (s.pins.pfailN = false ∨ (stgOf 0 s).safe = true ∨ ((stgOf 0 s).words.getD 2 0).testBit 7 = true) →
    Gives (.actRetracted a) s (fun t =>
      actState a t = 7 ∧
      OnlyBlocks [5, 6, 7] s t ∧
      SameMem s t)) ∧
  (∀ (a : Nat) (s : State),
    a < 2 →
    1 ≤ actState a s →
    actState a s ≤ 6 →
    retractSeen s = false →
    engineDrives a s = false →
    Gives (.actRetracted a) s (fun t =>
      actState a t = 7 ∧
      (stgOf 0 t).retractReq = true ∧
      (actOf a t).faultPend = true ∧
      OnlyBlocks [5, 6, 7] s t ∧
      SameMem s t)) ∧
  (∀ (a : Nat) (s : State),
    a < 2 →
    ((7 ≤ actState a s) ∨ (retractSeen s = false ∧ (actState a s = 0 ∨ engineDrives a s = true))) →
    Gives (.actRetracted a) s (fun t =>
      t = s ∧
      SameMem s t)) ∧
  (∀ (a : Nat) (s : State),
    a < 2 →
    actState a s = 7 →
    (stgOf 0 s).retractDone = true →
    s.pins.pfailN = true →
    (actOf a s).faultPend = true →
    Gives (.actRetractDone a) s (fun t =>
      actState a t = 8 ∧
      get (Reg.ACT_STAT.LOADED a) t = 0 ∧
      (actOf a t).faultPend = false ∧
      OnlyBlocks [5, 6] s t ∧
      SameMem s t)) ∧
  (∀ (a : Nat) (s : State),
    a < 2 →
    actState a s = 7 →
    (stgOf 0 s).retractDone = true →
    s.pins.pfailN = true →
    (actOf a s).faultPend = false →
    Gives (.actRetractDone a) s (fun t =>
      (actState a t = (if (actOf a s).loadHeld = true ∧ get Reg.SPN_STAT.STATE s = 7 then 1 else 0)) ∧
      get (Reg.ACT_STAT.LOADED a) t = 0 ∧
      OnlyBlocks [5, 6] s t ∧
      SameMem s t)) ∧
  (∀ (a : Nat) (s : State),
    a < 2 →
    actState a s = 8 →
    Gives (.actClr a) s (fun t =>
      (actState a t = (if (actOf a s).loadHeld = true ∧ get Reg.SPN_STAT.STATE s = 7 then 1 else 0)) ∧
      get (Reg.ACT_STAT.ATTEMPTS a) t = 0 ∧
      OnlyBlocks [5, 6] s t ∧
      SameMem s t)) ∧
  (∀ (a : Nat) (s : State),
    a < 2 →
    actState a s ≠ 8 →
    Gives (.actClr a) s (fun t =>
      get (Reg.ACT_STAT.ATTEMPTS a) t = 0 ∧
      OnlyRegs [Reg.ACT_CTL.CLR a, Reg.ACT_STAT.ATTEMPTS a] s t ∧
      OnlyRegisters s t ∧
      SameMem s t)) ∧
  (∀ (a : Nat) (s : State),
    a < 2 →
    get (Reg.ACT_STAT.PAIRED a) s = 1 →
    get (Reg.HCH_STAT.BUSY (streamOf a 2 s)) s = 0 →
    Gives (.actUnpair a) s (fun t =>
      get (Reg.ACT_STAT.PAIRED a) t = 0 ∧
      get (Reg.ACT_PAIR_STAT.CAUSE a) t = 6 ∧
      get (Reg.ACT_PAIR_STAT.HOLD a) t = get (Reg.ACT_PAIR_CFG.HOLDOFF a) s % 2 ^ (Reg.ACT_PAIR_STAT.HOLD 0).width ∧
      (actOf a t).head2 = 31 ∧
      OnlyBlocks [5, 6, 7] s t ∧
      SameMem s t)) ∧
  (∀ (a : Nat) (s : State),
    a < 2 →
    get (Reg.ACT_STAT.PAIRED a) s = 1 →
    get (Reg.HCH_STAT.BUSY (streamOf a 2 s)) s = 1 →
    Gives (.actUnpair a) s (fun t =>
      (actOf a t).unpairPend = true ∧
      OnlyRegs [] s t ∧
      t = { s with act := t.act } ∧
      SameMem s t)) ∧
  (∀ (a : Nat) (s : State),
    a < 2 →
    actState a s ≠ 0 →
    actState a s ≠ 8 →
    get Reg.SPN_SPEED.SPEED s * 100 < 4 * get (Reg.ACT_UNLOAD.MIN_PCT a) s * get Reg.SPN_TARGET.RPM s →
    Gives (.actLowSpeedRetract a) s (fun t =>
      (stgOf 0 t).retractReq = true ∧
      OnlyRegs [] s t ∧
      t = { s with stg := t.stg, spn := t.spn } ∧
      SameMem s t)) ∧
  (∀ (a : Nat) (m : Nat) (s : State),
    a < 2 →
    (s.sys.pairLatch.any (fun p => p.1 == m && p.2.1 == (Reg.ACT_WUS_LOG_HI.WEDGE a).addr) = true) →
    Gives (.wusLogRead a m) s (fun t =>
      (actOf a t).log = (actOf a s).log.drop 1 ∧
      OnlyRegs [Reg.ACT_WUS_LOG_LO.TRACK a, Reg.ACT_WUS_LOG_LO.HEAD a, Reg.ACT_WUS_LOG_LO.ATI a, Reg.ACT_WUS_LOG_LO.CAUSE a, Reg.ACT_WUS_LOG_LO.VALID a, Reg.ACT_WUS_LOG_HI.WEDGE a, Reg.ACT_WUS_LOG_HI.PEAK a] s t ∧
      t = { s with regs := t.regs, sys := t.sys, act := t.act } ∧
      SameMem s t)) ∧
  (∀ (a : Nat) (m : Nat) (s : State),
    a < 2 →
    (s.sys.pairLatch.any (fun p => p.1 == m && p.2.1 == (Reg.ACT_WUS_LOG_HI.WEDGE a).addr) = false) →
    Gives (.wusLogRead a m) s (fun t =>
      (actOf a t).log = (actOf a s).log ∧
      t.sys.resp = .data (bytesOf 4 (peekWord (Reg.ACT_WUS_LOG_HI.WEDGE a).addr s)) false ∧
      OnlyRegs [] s t ∧
      t = { s with sys := t.sys } ∧
      SameMem s t))

/-- The assist: arming, hold, trips, clearing, forcing off, aging and retirement. Rests on R152, R153, R158, R161, R163, R164, R165,
R167. Where it meets them it rests on choices of the model: log entries 26, 213. -/
def Obligations.AssistStatesAndAging : Prop :=
  (∀ (x : Nat) (s : State),
    x < 24 →
    asxState x s = 2 →
    get Reg.ASX_PB.SETTLE s < (asxOf x s).tempos →
    Gives (.assistArmed x) s (fun t =>
      asxState x t = 3 ∧
      (get (Reg.ASX_HSTAT.READY x) t = (if get (Reg.ASX_HCTL.FORCE_OFF x) s = 1 then 0 else 1)) ∧
      OnlyRegs [Reg.ASX_HSTAT.STATE x, Reg.ASX_HSTAT.READY x] s t ∧
      t = { s with regs := t.regs, asx := t.asx, evr := t.evr, host := { s.host with msixPend := t.host.msixPend } } ∧
      SameMem s t)) ∧
  (∀ (x : Nat) (s : State),
    x < 24 →
    asxState x s = 4 →
    get Reg.ASX_PB.REQUAL s ≤ (asxOf x s).tempos →
    Gives (.assistHoldRequal x) s (fun t =>
      asxState x t = 3 ∧
      (get (Reg.ASX_HSTAT.READY x) t = (if get (Reg.ASX_HCTL.FORCE_OFF x) s = 1 then 0 else 1)) ∧
      OnlyRegs [Reg.ASX_HSTAT.STATE x, Reg.ASX_HSTAT.READY x] s t ∧
      t = { s with regs := t.regs, asx := t.asx, evr := t.evr, host := { s.host with msixPend := t.host.msixPend } } ∧
      SameMem s t)) ∧
  (∀ (x : Nat) (s : State),
    x < 24 →
    1 ≤ asxState x s →
    asxState x s ≤ 4 →
    get Reg.ASX_HOP_CFG.STORM s < (recentHops x s).length →
    Gives (.hopStorm x) s (fun t =>
      asxState x t = 5 ∧
      get (Reg.ASX_HSTAT.CAUSE x) t = 3 ∧
      get (Reg.ASX_HCNT.TRIPS x) t = (get (Reg.ASX_HCNT.TRIPS x) s + 1) % 2 ^ (Reg.ASX_HCNT.TRIPS 0).width ∧
      (asxOf x t).fallPend = true ∧
      OnlyRegs [Reg.ASX_HSTAT.STATE x, Reg.ASX_HSTAT.READY x, Reg.ASX_HSTAT.CAUSE x, Reg.ASX_HCNT.TRIPS x] s t ∧
      t = { s with regs := t.regs, asx := t.asx, evr := t.evr, sys := t.sys, sent := t.sent, host := { s.host with msixPend := t.host.msixPend } } ∧
      SameMem s t)) ∧
  (∀ (x : Nat) (k : Nat) (s : State),
    x < 24 →
    1 ≤ k →
    k ≤ 5 →
    1 ≤ asxState x s →
    asxState x s ≤ 4 →
    tripCause x k s = true →
    Gives (.assistTrip x k) s (fun t =>
      asxState x t = 5 ∧
      get (Reg.ASX_HSTAT.CAUSE x) t = k ∧
      get (Reg.ASX_HCNT.TRIPS x) t = (get (Reg.ASX_HCNT.TRIPS x) s + 1) % 2 ^ (Reg.ASX_HCNT.TRIPS 0).width ∧
      ((k = 2 → (asxOf x t).backoff = true)) ∧
      OnlyRegs [Reg.ASX_HSTAT.STATE x, Reg.ASX_HSTAT.READY x, Reg.ASX_HSTAT.CAUSE x, Reg.ASX_HCNT.TRIPS x] s t ∧
      t = { s with regs := t.regs, asx := t.asx, evr := t.evr, sys := t.sys, sent := t.sent, host := { s.host with msixPend := t.host.msixPend } } ∧
      SameMem s t)) ∧
  (∀ (x : Nat) (s : State),
    x < 24 →
    asxState x s = 5 →
    Gives (.assistClr x) s (fun t =>
      asxState x t = 1 ∧
      (asxOf x t).backoff = false ∧
      OnlyRegs [Reg.ASX_HSTAT.STATE x, Reg.ASX_HSTAT.READY x] s t ∧
      t = { s with regs := t.regs, asx := t.asx, evr := t.evr, host := { s.host with msixPend := t.host.msixPend } } ∧
      SameMem s t)) ∧
  (∀ (x : Nat) (s : State),
    x < 24 →
    Gives (.assistClr x) s (fun t =>
      (asxState x t = (if asxState x s = 5 then 1 else asxState x s)) ∧
      (asxOf x t).backoff = false ∧
      (asxOf x t).omRow = 0 ∧
      OnlyRegs [Reg.ASX_HSTAT.STATE x, Reg.ASX_HSTAT.READY x] s t ∧
      t = { s with regs := t.regs, asx := t.asx, evr := t.evr, host := { s.host with msixPend := t.host.msixPend } } ∧
      SameMem s t)) ∧
  (∀ (x : Nat) (b : Bool) (s : State),
    x < 24 →
    Gives (.forceOffWrite x b) s (fun t =>
      get (Reg.ASX_HCTL.FORCE_OFF x) t = b2n b ∧
      ((asxOf x t).forceIn = (if b = false then 0 else if get (Reg.ASX_HCTL.FORCE_OFF x) s = 1 then (asxOf x s).forceIn else 2)) ∧
      OnlyRegs [Reg.ASX_HCTL.FORCE_OFF x] s t ∧
      t = { s with regs := t.regs, asx := t.asx } ∧
      SameMem s t)) ∧
  (∀ (x : Nat) (s : State),
    x < 24 →
    Gives (.retireReq x) s (fun t =>
      get (Reg.ASX_HSTAT.RETIRE_PEND x) t = 1 ∧
      OnlyBlocks [5, 6, 7] s t ∧
      SameMem s t)) ∧
  (∀ (x : Nat) (s : State),
    x < 24 →
    get (Reg.ASX_HSTAT.RETIRE_PEND x) s ≠ 0 →
    headInUse x s = false →
    Gives (.retireDone x) s (fun t =>
      bit Reg.ASX_RETIRED.MAP x t = true ∧
      ((asxState x s ≤ 5 → asxState x t = 6)) ∧
      OnlyRegs [Reg.ASX_HSTAT.STATE x, Reg.ASX_HSTAT.READY x, Reg.ASX_RETIRED.MAP] s t ∧
      t = { s with regs := t.regs, asx := t.asx, evr := t.evr, host := { s.host with msixPend := t.host.msixPend } } ∧
      SameMem s t)) ∧
  (∀ (x : Nat) (s : State),
    x < 24 →
    (get (Reg.ASX_HSTAT.RETIRE_PEND x) s = 0 ∨ headInUse x s = true) →
    Gives (.retireDone x) s (fun t =>
      OnlyRegs [] s t ∧
      t = { s with evr := t.evr, host := { s.host with msixPend := t.host.msixPend } } ∧
      SameMem s t)) ∧
  (∀ (x : Nat) (v : Nat) (s : State),
    x < 24 →
    Gives (.iop0Write x v) s (fun t =>
      (get (Reg.ASX_IOP0.IOP0 x) t = (if get (Reg.ASX_IOP0.IOP0 x) s = 0 then v % 2 ^ 16 else get (Reg.ASX_IOP0.IOP0 x) s)) ∧
      OnlyRegs [Reg.ASX_IOP0.IOP0 x] s t ∧
      t = { s with regs := t.regs, evr := t.evr, host := { s.host with msixPend := t.host.msixPend } } ∧
      SameMem s t)) ∧
  (∀ (x : Nat) (s : State),
    x < 24 →
    (asxOf x s).ended = true →
    (asxOf x s).inEpisode = false →
    64 ≤ (asxOf x s).episode →
    get (Reg.ASX_IOP0.IOP0 x) s ≠ 0 →
    Gives (.agingUpdate x) s (fun t =>
      get (Reg.ASX_IOP.IOP_AVG x) t = iopAfter x s ∧
      (asxOf x t).ended = false ∧
      ((160 * get (Reg.ASX_IOP0.IOP0 x) s ≤ 100 * iopAfter x s → get (Reg.ASX_HSTAT.RETIRE_PEND x) t = 1)) ∧
      OnlyBlocks [5, 6, 7] s t ∧
      SameMem s t)) ∧
  (∀ (x : Nat) (s : State),
    x < 24 →
    (asxOf x s).ended = true →
    64 ≤ (asxOf x s).episode →
    get (Reg.ASX_IOP0.IOP0 x) s ≠ 0 →
    Gives (.agingUpdate x) s (fun t =>
      get (Reg.ASX_IOP.IOP_AVG x) t = iopAfter x s ∧
      ((160 * get (Reg.ASX_IOP0.IOP0 x) s ≤ 100 * iopAfter x s → get (Reg.ASX_HSTAT.RETIRE_PEND x) t = 1)) ∧
      OnlyBlocks [5, 6, 7] s t ∧
      SameMem s t)) ∧
  (∀ (x : Nat) (s : State),
    x < 24 →
    (asxOf x s).ended = true →
    64 ≤ (asxOf x s).episode →
    get (Reg.ASX_IOP0.IOP0 x) s = 0 →
    Gives (.agingUpdate x) s (fun t =>
      (asxOf x t).ended = false ∧
      (asxOf x t).episode = 0 ∧
      OnlyRegs [] s t ∧
      t = { s with asx := t.asx } ∧
      SameMem s t))

/-- Head links: training, return frames, data blocks, lanes, faults. Rests on R169, R170, R171, R172, R173, R174, R175, R176, R177,
R481. Where it meets them it rests on choices of the model: log entries 13, 30, 42, 215, 216, 219, 220, 221. -/
def Obligations.HeadLinksCarryFramesAndLanes : Prop :=
  (∀ (l : Nat) (o : TrainObs) (s : State),
    l < 2 →
    mayTrain l s = true →
    Gives (.headLinkTraining l o) s (fun t =>
      get (Reg.HLK_STAT.LOCK l) t = o.locks % 8 ∧
      get (Reg.HLK_STAT.LOG0 l) t = (lockedLanes o.locks).headD 0 ∧
      get (Reg.HLK_STAT.LOG1 l) t = (lockedLanes o.locks).getD 1 ((lockedLanes o.locks).headD 0) ∧
      get (Reg.HLK_STAT.TX_UP l) t = b2n (!(lockedLanes o.locks).isEmpty && ((lockedLanes o.locks).length == 1 || decide (o.skew ≤ 32)) && echoed o s) ∧
      get (Reg.HLK_STAT.UP l) t = b2n (!(lockedLanes o.locks).isEmpty && ((lockedLanes o.locks).length == 1 || decide (o.skew ≤ 32)) && echoed o s && framesAdvance o.seqs) ∧
      get (Reg.HLK_STAT.SINGLE l) t = b2n ((lockedLanes o.locks).length == 1) ∧
      get (Reg.HLK_STAT.MISS l) t = 0 ∧
      (hlkOf l t).retrain = false ∧
      ((!(lockedLanes o.locks).isEmpty && ((lockedLanes o.locks).length == 1 || decide (o.skew ≤ 32)) && echoed o s) = true → get (Reg.HLK_DELAY.DELAY l) t = linkDelay o % 2 ^ (Reg.HLK_DELAY.DELAY 0).width) ∧
      ((!(lockedLanes o.locks).isEmpty && ((lockedLanes o.locks).length == 1 || decide (o.skew ≤ 32)) && echoed o s && framesAdvance o.seqs && (lockedLanes o.locks).length == 1) = true → get (Reg.ACT_CTL.PAIR_EN l) t = 0) ∧
      (t.sent.getLast? = some (.headLink l ([blkIdle] ++ (if (lockedLanes o.locks).isEmpty then [] else [blkLanes ((lockedLanes o.locks).headD 0) ((lockedLanes o.locks).getD 1 ((lockedLanes o.locks).headD 0))]) ++ (if (!(lockedLanes o.locks).isEmpty && ((lockedLanes o.locks).length == 1 || decide (o.skew ≤ 32))) = true then (tickSeqs s).map (fun q => blkTick q 0) else [])) (wordsFor l (([blkIdle] ++ (if (lockedLanes o.locks).isEmpty then [] else [blkLanes ((lockedLanes o.locks).headD 0) ((lockedLanes o.locks).getD 1 ((lockedLanes o.locks).headD 0))]) ++ (if (!(lockedLanes o.locks).isEmpty && ((lockedLanes o.locks).length == 1 || decide (o.skew ≤ 32))) = true then (tickSeqs s).map (fun q => blkTick q 0) else [])).map (fun x => (true, x))) s))) ∧
      OnlyRegs [Reg.HLK_STAT.LOCK l, Reg.HLK_STAT.TX_UP l, Reg.HLK_STAT.LOG0 l, Reg.HLK_STAT.LOG1 l, Reg.HLK_STAT.SINGLE l, Reg.HLK_STAT.UP l, Reg.HLK_STAT.MISS l, Reg.HLK_STAT.TRIES l, Reg.HLK_DELAY.DELAY l, Reg.ACT_CTL.PAIR_EN l] s t ∧
      t = { s with regs := t.regs, hlk := t.hlk, sent := t.sent, sys := t.sys, evr := t.evr, host := { s.host with msixPend := t.host.msixPend } } ∧
      SameMem s t)) ∧
  (∀ (l : Nat) (b : List Nat) (d : Bool) (s : State),
    l < 2 →
    linkRuns l s = true →
    d = false →
    frameGood (frameBlocks b) = true →
    Gives (.headLinkReturnFrame l b d) s (fun t =>
      (hlkOf l t).frame = some ((frameBlocks b).take 4) ∧
      OnlyRegs [] s t ∧
      t = { s with hlk := t.hlk } ∧
      SameMem s t)) ∧
  (∀ (l : Nat) (b : List Nat) (d : Bool) (s : State),
    l < 2 →
    linkRuns l s = true →
    d = true →
    Gives (.headLinkReturnFrame l b d) s (fun t =>
      get (Reg.HLK_FRAMES.LATE l) t = (get (Reg.HLK_FRAMES.LATE l) s + 1) % 2 ^ (Reg.HLK_FRAMES.LATE 0).width ∧
      (hlkOf l t).frame = (hlkOf l s).frame ∧
      OnlyRegs [Reg.HLK_FRAMES.LATE l, Reg.CE_STAT.LATE l] s t ∧
      t = { s with regs := t.regs, hlk := t.hlk } ∧
      SameMem s t)) ∧
  (∀ (l : Nat) (b : List Nat) (d : Bool) (s : State),
    l < 2 →
    linkRuns l s = true →
    d = false →
    frameGood (frameBlocks b) = false →
    Gives (.headLinkReturnFrame l b d) s (fun t =>
      get (Reg.HLK_FRAMES.BAD l) t = (get (Reg.HLK_FRAMES.BAD l) s + 1) % 2 ^ (Reg.HLK_FRAMES.BAD 0).width ∧
      (hlkOf l t).frame = (hlkOf l s).frame ∧
      OnlyRegs [Reg.HLK_FRAMES.BAD l] s t ∧
      t = { s with regs := t.regs, hlk := t.hlk } ∧
      SameMem s t)) ∧
  (∀ (l : Nat) (p x q : Nat) (s : State),
    l < 2 →
    p < 3 →
    domOn (10 + l) s = true →
    x % 4 = 1 →
    q = (blockOn p x (hlkOf l s)).2 →
    q / 2 ^ 60 % 2 = 0 →
    get (Reg.HLK_STAT.UP l) s = 1 →
    get (Reg.HLK_STAT.SINGLE l) s = 1 →
    (get (Reg.HLK_STAT.LOCK l) s).testBit p = true →
    get (Reg.HLK_STAT.LOG0 l) s = p →
    Gives (.receiveDataBlock l p x) s (fun t =>
      ((hchOf (streamOf l 1 s) t).ringPos = (hchOf (streamOf l 1 s) s).ringPos + 10 * (match (hlkOf l s).seq.getD 0 none with | none => 0 | some e => (q / 2 ^ 62 % 4 + 4 - e) % 4) + 10) ∧
      ((q.testBit 61 = true → t.mem = s.mem)) ∧
      OnlyRegs [] s t ∧
      t = { s with hlk := t.hlk, hch := t.hch, mem := t.mem })) ∧
  (∀ (l p x : Nat) (s : State),
    l < 3 →
    (p < (if l = 2 then 1 else 3)) →
    domOn (10 + l) s = true →
    Gives (.receiveDataBlock l p x) s (fun t =>
      (get (laneErrs l p) t = (if headerOk x = true then get (laneErrs l p) s else (get (laneErrs l p) s + 1) % 2 ^ (laneErrs l p).width)) ∧
      (headerOk x = true → laneLock l p t = laneLock l p s ∧ get (laneLosses l p) t = get (laneLosses l p) s) ∧
      (headerOk x = false ∧ (laneOf p (linkOf l s)).badRow = 63 → laneLock l p t = false) ∧
      OnlyRegs [laneErrs l p, laneLosses l p, Reg.HLK_STAT.LOCK l, Reg.OLK_STAT.RX_LOCK] s t ∧
      t = { s with regs := t.regs, hlk := t.hlk, olk := t.olk, hch := t.hch, mem := t.mem })) ∧
  (∀ (l : Nat) (p : Nat) (s : State),
    l < 2 →
    p < 3 →
    get (Reg.HLK_STAT.UP l) s = 1 →
    laneBad l p s = true →
    laneActive l p s = true →
    spareReady l s = true →
    get (Reg.HLK_CTL.AUTO_PROMO l) s = 1 →
    (hlkOf l s).switch = none →
    Gives (.lanePromotion l p) s (fun t =>
      get (Reg.HLK_STAT.PROMOTED l) t = 1 ∧
      ((hlkOf l t).switch = some (if get (Reg.HLK_STAT.LOG0 l) s = p then (spareLane l s, get (Reg.HLK_STAT.LOG1 l) s, false) else (get (Reg.HLK_STAT.LOG0 l) s, spareLane l s, false))) ∧
      (get (if l = 0 then Reg.SPR_INV.HLANE_A else Reg.SPR_INV.HLANE_B) t = 0) ∧
      OnlyRegs [Reg.HLK_STAT.PROMOTED l, Reg.SPR_INV.HLANE_A, Reg.SPR_INV.HLANE_B, Reg.SPR_STAT.PROMOS] s t ∧
      t = { s with regs := t.regs, hlk := t.hlk, sys := t.sys, evr := t.evr, sent := t.sent, host := { s.host with msixPend := t.host.msixPend } } ∧
      SameMem s t)) ∧
  (∀ (l : Nat) (p : Nat) (s : State),
    l < 2 →
    p < 3 →
    get (Reg.HLK_STAT.UP l) s = 1 →
    get (Reg.HLK_STAT.SINGLE l) s = 0 →
    laneBad l p s = true →
    laneActive l p s = true →
    (spareReady l s = false ∨ get (Reg.HLK_CTL.AUTO_PROMO l) s = 0) →
    (hlkOf l s).switch = none →
    Gives (.singleLaneMode l p) s (fun t =>
      get (Reg.ACT_CTL.PAIR_EN l) t = 0 ∧
      ((hlkOf l t).switch = some (if get (Reg.HLK_STAT.LOG0 l) s = p then (get (Reg.HLK_STAT.LOG1 l) s, get (Reg.HLK_STAT.LOG1 l) s, true) else (get (Reg.HLK_STAT.LOG0 l) s, get (Reg.HLK_STAT.LOG0 l) s, true))) ∧
      OnlyRegs [Reg.ACT_CTL.PAIR_EN l] s t ∧
      t = { s with regs := t.regs, hlk := t.hlk, sys := t.sys, evr := t.evr, sent := t.sent, host := { s.host with msixPend := t.host.msixPend } } ∧
      SameMem s t)) ∧
  (∀ (l : Nat) (b : Bool) (s : State),
    l < 2 →
    domOn (10 + l) s = true →
    linkRuns l s = true →
    (hlkOf l s).faulted = false →
    linkFaulty l b s = true →
    Gives (.headLinkFault l b) s (fun t =>
      get (Reg.HLK_STAT.UP l) t = 0 ∧
      get (Reg.HLK_STAT.TRIES l) t = 0 ∧
      get (Reg.HLK_STAT.FAULT l) t = 1 ∧
      get (Reg.HLK_STAT.PIN l) t = b2n b ∧
      (hlkOf l t).faulted = true ∧
      OnlyBlocks [6, 7, 8] s t ∧
      SameMem s t)) ∧
  (∀ (l : Nat) (b : Bool) (s : State),
    l < 2 →
    domOn (10 + l) s = true →
    (linkRuns l s = false ∨ (hlkOf l s).faulted = true ∨ linkFaulty l b s = false) →
    Gives (.headLinkFault l b) s (fun t =>
      get (Reg.HLK_STAT.PIN l) t = b2n b ∧
      OnlyRegs [Reg.HLK_STAT.PIN l] s t ∧
      OnlyEvents s t ∧
      SameMem s t))

/-- The read channel: sectors written and decoded, the ladder, seeds, failures, parity copies. Rests on R183, R184, R187, R193,
R194, R196, R197, R199, R200, R201. Where it meets them it rests on choices of the model: log entries 43, 44, 46, 47, 228, 229,
235, 236. -/
def Obligations.StreamsWriteAndDecode : Prop :=
  (∀ (n : Nat) (z p x q c : Nat) (b : Bool) (s : State),
    n < 5 →
    mayHand n z p s = true →
    mayWrite n s = false →
    parityDue z s = false →
    b = true →
    servedBy n s = none →
    Gives (.sectorWrite n z p x q b c) s (fun t =>
      get (Reg.HCH_STAT.BUSY n) t = 0 ∧
      get (Reg.HCH_STAT.WRITING n) t = 0 ∧
      get (Reg.HCH_TPCNT.UNWRITTEN n) t = (get (Reg.HCH_TPCNT.UNWRITTEN n) s + 1) % 2 ^ (Reg.HCH_TPCNT.UNWRITTEN 0).width ∧
      (hchOf n t).marked = false ∧
      (hchOf n t).report = some ⟨3, (zoneOf z s).phys, physIdx (isShingled (zoneOf z s)) p, 0⟩ ∧
      t.sent = s.sent ∧
      OnlyRegs [Reg.HCH_STAT.BUSY n, Reg.HCH_STAT.WRITING n, Reg.HCH_TPCNT.UNWRITTEN n] s t ∧
      t = { s with regs := t.regs, hch := t.hch } ∧
      SameMem s t)) ∧
  (∀ (n : Nat) (z p x q c : Nat) (b : Bool) (s : State),
    n < 5 →
    mayHand n z p s = true →
    mayWrite n s = true →
    b = true →
    stopsHere n s = false →
    (zoneOf z s).state = 0 →
    s.zmg.finish.contains (z, p) = false →
    Gives (.sectorWrite n z p x q b c) s (fun t =>
      (hchOf n t).report = some ⟨0, (zoneOf z s).phys, physIdx false p, 0⟩ ∧
      get (Reg.HCH_STAT.BUSY n) t = 1 ∧
      get (Reg.HCH_STAT.WRITING n) t = 1 ∧
      get (Reg.HCH_ZONE.ZONE n) t = (zoneOf z s).phys % 2 ^ (Reg.HCH_ZONE.ZONE 0).width ∧
      (hchOf n t).writing = some z ∧
      (hchOf n t).slot = ((hchOf n s).slot + 1) % 60 ∧
      MemOutside (sectorSlot n s) 4128 s t ∧
      OnlyBlocks [5, 6, 7, 9, 19] s t)) ∧
  (∀ (n : Nat) (z p x q c : Nat) (b : Bool) (s : State),
    n < 5 →
    mayHand n z p s = true →
    mayWrite n s = true →
    b = true →
    p < 65535 →
    stopsHere n s = false →
    (zoneOf z s).state ≠ 0 →
    parityDue z s = false →
    Gives (.sectorWrite n z p x q b c) s (fun t =>
      (hchOf n t).report = some ⟨0, (zoneOf z s).phys, physIdx true p, 0⟩ ∧
      (zoneOf z t).media = p + 1 ∧
      (zoneOf z t).state = (zoneOf z s).state ∧
      (hchOf n t).writing = some z ∧
      s.sent.isPrefixOf t.sent = true ∧
      MemOutsides [(zoneAddr z s, 32), (sectorSlot n s, 4128)] s t ∧
      OnlyBlocks [5, 6, 7, 9, 19] s t)) ∧
  (∀ (n : Nat) (z p x q c : Nat) (b : Bool) (s : State),
    n < 5 →
    mayHand n z p s = true →
    mayWrite n s = true →
    parityDue z s = true →
    (s.zmg.finish.contains (z, p) = true ∨ 65536 ≤ p) →
    servedBy n s = some (0, 1) →
    stopsHere n s = false →
    Gives (.sectorWrite n z p x q b c) s (fun t =>
      (hchOf n t).report = some ⟨0, (zoneOf z s).phys, parityIdx ((zoneOf z s).media - 1), 0⟩ ∧
      (zoneOf z t).group = 0 ∧
      (zoneOf z t).media = p ∧
      (hchOf n t).accN = 0 ∧
      MemOutsides [(zoneAddr z s, 32), (sectorSlot n s, 4128)] s t ∧
      OnlyBlocks [5, 6, 7, 9, 19] s t)) ∧
  (∀ (n : Nat) (z p x q c : Nat) (b : Bool) (s : State),
    n < 5 →
    mayHand n z p s = true →
    Gives (.sectorWrite n z p x q b c) s (fun t =>
      (hchOf n t).report.isSome = true ∧
      ((mayWrite n s = false → get (Reg.HCH_STAT.WRITING n) t = 0 ∧ (hchOf n t).report.map (·.code) = some 3)) ∧
      ((b = false → get (Reg.HCH_STAT.BUSY n) t = 0 ∧ (hchOf n t).writing = none)) ∧
      OnlyBlocks [5, 6, 7, 9, 19] s t)) ∧
  (∀ (n : Nat) (z i : Nat) (b f : Bool) (o : SectorObs) (d : Decoded) (s : State),
    n < 5 →
    streamRuns n s = true →
    get (Reg.HCH_STAT.WRITING n) s = 0 →
    (hchOf n s).missing = false →
    passVerdict n 0 z i o s = .ok d f →
    Gives (.sectorDecode n z i b o) s (fun t =>
      (hchOf n t).report = some ⟨0, z, i, 0⟩ ∧
      (hchOf n t).decoded = some d ∧
      (hchOf n t).slot = ((hchOf n s).slot + 1) % 60 ∧
      get (Reg.HCH_MSE.MSE n) t = o.mse % 2 ^ (Reg.HCH_MSE.MSE 0).width ∧
      MemOutside (sectorSlot n s) 4128 s t ∧
      OnlyRegs [Reg.HCH_SMCNT.SM1_MISS n, Reg.HCH_SMCNT.ALT_OK n, Reg.HCH_MSE.MSE n, Reg.HCH_STAT.CONV n, Reg.HCH_STAT.BUSY n] s t ∧
      t = { s with regs := t.regs, hch := t.hch, mem := t.mem, zmg := t.zmg })) ∧
  (∀ (n : Nat) (z i : Nat) (b : Bool) (o : SectorObs) (s : State),
    n < 5 →
    streamRuns n s = true →
    get (Reg.HCH_STAT.WRITING n) s = 0 →
    Gives (.sectorDecode n z i b o) s (fun t =>
      get (Reg.HCH_MSE.MSE n) t = o.mse % 2 ^ (Reg.HCH_MSE.MSE 0).width ∧
      get (Reg.HCH_STAT.BUSY n) t = b2n b ∧
      ((hchOf n t).nextSec = (if b = true then some (z, i + 1) else none)) ∧
      (hchOf n t).ringSlot = ((hchOf n s).ringSlot + 1) % 16 ∧
      (hchOf n t).ringPos = 0 ∧
      ((hchOf n s).missing = true ∨ passVerdict n 0 z i o s = .failed → (if pairedStream n s then (hchOf n t).report = some ⟨5, z, i, 0⟩ else (hchOf n t).ladder = some (z, i)) ∧ t.mem = s.mem) ∧
      MemOutside (sectorSlot n s) 4128 s t ∧
      OnlyRegs [Reg.HCH_SMCNT.SM1_MISS n, Reg.HCH_SMCNT.ALT_OK n, Reg.HCH_MSE.MSE n, Reg.HCH_STAT.CONV n, Reg.HCH_STAT.BUSY n] s t ∧
      t = { s with regs := t.regs, hch := t.hch, mem := t.mem, zmg := t.zmg, sys := t.sys, evr := t.evr, sent := t.sent, host := { s.host with msixPend := t.host.msixPend } })) ∧
  (∀ (n : Nat) (q : Nat × Nat) (l : List Reread) (s : State),
    n < 5 →
    (hchOf n s).ladder = some q →
    (climb n q.1 q.2 (budgetOf n s) s (planOf n s) 0 0 l).isSome = true →
    Gives (.retryLadder n l) s (fun t =>
      (hchOf n t).ladder = none ∧
      ((climb n q.1 q.2 (budgetOf n s) s (planOf n s) 0 0 l).map (·.1) = some .failed → (hchOf n t).report = some ⟨2, q.1, q.2, 0⟩ ∧ get (Reg.HCH_CNT.FAILED n) t = (get (Reg.HCH_CNT.FAILED n) s + 1) % 2 ^ (Reg.HCH_CNT.FAILED 0).width ∧ q ∈ t.zmg.failed ∧ t.mem = s.mem) ∧
      ((climb n q.1 q.2 (budgetOf n s) s (planOf n s) 0 0 l).map (·.1) = some .mismatch → (hchOf n t).report = some ⟨6, q.1, q.2, 0⟩ ∧ t.mem = s.mem) ∧
      ((climb n q.1 q.2 (budgetOf n s) s (planOf n s) 0 0 l).all (fun o => match o.1 with | .ok d _ => decide ((hchOf n t).report = some ⟨1, q.1, q.2, o.2.1⟩) && decide ((hchOf n t).decoded = some d) && get (Reg.HCH_CNT.RECOVERED n) t == (get (Reg.HCH_CNT.RECOVERED n) s + 1) % 2 ^ (Reg.HCH_CNT.RECOVERED 0).width | _ => true) = true) ∧
      MemOutside (sectorSlot n s) 4128 s t ∧
      OnlyRegs [Reg.HCH_CNT.RECOVERED n, Reg.HCH_CNT.FAILED n, Reg.HCH_TPCNT.TP_OK n, Reg.HCH_SMCNT.ALT_OK n] s t ∧
      t = { s with regs := t.regs, hch := t.hch, mem := t.mem, zmg := t.zmg, sys := t.sys, evr := t.evr, sent := t.sent, host := { s.host with msixPend := t.host.msixPend } })) ∧
  (∀ (n : Nat) (q : Nat × Nat) (l : List Reread) (s : State),
    n < 5 →
    (hchOf n s).ladder = some q →
    climb n q.1 q.2 (budgetOf n s) s (planOf n s) 0 0 l = none →
    Gives (.retryLadder n l) s (fun t =>
      t = s)) ∧
  (∀ (n : Nat) (z r i : Nat) (s : State),
    n < 5 →
    streamRuns n s = true →
    Gives (.seedFetch n z r i) s (fun t =>
      get (Reg.HCH_ZONE.ZONE n) t = z % 2 ^ (Reg.HCH_ZONE.ZONE 0).width ∧
      get (Reg.HCH_STAT.RATE n) t = r % 2 ^ (Reg.HCH_STAT.RATE 0).width ∧
      get (Reg.HCH_STAT.COLD n) t = 1 - memNat (seedAddr z s + 62) 1 s % 2 ∧
      get (Reg.HCH_STAT.BUSY n) t = 1 ∧
      (hchOf n t).nextSec = some (z, i) ∧
      OnlyRegs [Reg.HCH_ZONE.ZONE n, Reg.HCH_STAT.RATE n, Reg.HCH_STAT.COLD n, Reg.HCH_STAT.BUSY n] s t ∧
      t = { s with regs := t.regs, hch := t.hch } ∧
      SameMem s t)) ∧
  (∀ (n : Nat) (s : State),
    n < 5 →
    get (Reg.HCH_STAT.CONV n) s = 1 →
    (hchOf n s).adapt.taps.length = 16 →
    (hchOf n s).adapt.target.length = 5 →
    Gives (.seedWriteback n) s (fun t =>
      memNat (seedAddr (get (Reg.HCH_ZONE.ZONE n) s) s + 62) 1 t = 1 ∧
      memNat (seedAddr (get (Reg.HCH_ZONE.ZONE n) s) s + 63) 1 t = (memNat (seedAddr (get (Reg.HCH_ZONE.ZONE n) s) s + 63) 1 s + 1) % 256 ∧
      MemOutside (seedAddr (get (Reg.HCH_ZONE.ZONE n) s) s) 64 s t ∧
      OnlyRegs [] s t ∧
      t = { s with mem := t.mem })) ∧
  (∀ (n : Nat) (b c : Bool) (s : State),
    n < 5 →
    (b = true ∨ (hchOf n s).failReq = true) →
    get (Reg.HCH_STAT.FAILED n) s ≠ 1 →
    Gives (.streamFailure n b c) s (fun t =>
      get (Reg.HCH_STAT.FAILED n) t = 1 ∧
      ((get (Reg.HCH_STAT.BUSY n) s = 1 → get (Reg.HCH_STAT.BUSY n) t = 0)) ∧
      ((get Reg.HCH_SPARE.AUTO s = 1 → get Reg.HCH_SPARE.SEL s = 7 → n ≠ 4 → get Reg.HCH_SPARE.SEL t = n ∧ get (Reg.HCH_CTL.EN 4) t = 1 ∧ get Reg.SPR_INV.STREAM t = 0)) ∧
      OnlyRegs [Reg.HCH_STAT.BUSY n, Reg.HCH_STAT.WRITING n, Reg.HCH_STAT.FAILED n, Reg.HCH_SPARE.SEL, Reg.HCH_CTL.EN 4, Reg.HCH_STAT.RATE 4, Reg.SPR_INV.STREAM, Reg.SPR_STAT.PROMOS] s t ∧
      t = { s with regs := t.regs, hch := t.hch, sys := t.sys, evr := t.evr, sent := t.sent, host := { s.host with msixPend := t.host.msixPend } } ∧
      SameMem s t)) ∧
  (∀ (n : Nat) (b c : Bool) (s : State),
    n < 5 →
    (b = true ∨ (hchOf n s).failReq = true) →
    get (Reg.HCH_STAT.FAILED n) s = 1 →
    Gives (.streamFailure n b c) s (fun t =>
      t = s)) ∧
  (∀ (n : Nat) (s : State),
    n < 5 →
    get Reg.HCH_TP_CTL.BUSY s = 0 →
    Gives (.paritySave n) s (fun t =>
      get Reg.HCH_TP_CTL.BUSY t = 1 ∧
      get Reg.HCH_TP_CTL.STREAM t = n ∧
      t.tp = .save n ∧
      OnlyRegs [Reg.HCH_TP_CTL.BUSY, Reg.HCH_TP_CTL.STREAM] s t ∧
      t = { s with regs := t.regs, tp := t.tp } ∧
      SameMem s t)) ∧
  (∀ (n : Nat) (s : State),
    n < 5 →
    get Reg.HCH_TP_CTL.BUSY s = 0 →
    Gives (.parityLoad n) s (fun t =>
      get Reg.HCH_TP_CTL.BUSY t = 1 ∧
      get Reg.HCH_TP_CTL.STREAM t = n ∧
      t.tp = .load n ∧
      OnlyRegs [Reg.HCH_TP_CTL.BUSY, Reg.HCH_TP_CTL.STREAM] s t ∧
      t = { s with regs := t.regs, tp := t.tp } ∧
      SameMem s t)) ∧
  (∀ (n : Nat) (s : State),
    n < 5 →
    Gives (.parityClear n) s (fun t =>
      (hchOf n t).acc = 0 ∧
      (hchOf n t).accN = 0 ∧
      OnlyRegs [Reg.HCH_TP_CTL.STREAM] s t ∧
      t = { s with regs := t.regs, hch := t.hch } ∧
      SameMem s t)) ∧
  (∀ (n : Nat) (s : State),
    n < 5 →
    s.tp = .save n →
    Gives (.parityCopyDone) s (fun t =>
      get Reg.HCH_TP_CTL.BUSY t = 0 ∧
      t.tp = .none ∧
      memNat (tpWindow n) 4128 t = (hchOf n s).acc % 2 ^ 33024 ∧
      get Reg.HCH_TP_CTL.COUNT t = (hchOf n s).accN % 2 ^ Reg.HCH_TP_CTL.COUNT.width ∧
      MemOutside (tpWindow n) 4128 s t ∧
      OnlyRegs [Reg.HCH_TP_CTL.BUSY, Reg.HCH_TP_CTL.COUNT] s t ∧
      t = { s with regs := t.regs, tp := t.tp, mem := t.mem })) ∧
  (∀ (n : Nat) (s : State),
    n < 5 →
    s.tp = .load n →
    Gives (.parityCopyDone) s (fun t =>
      get Reg.HCH_TP_CTL.BUSY t = 0 ∧
      t.tp = .none ∧
      (hchOf n t).acc = memNat (tpWindow n) 4128 s ∧
      (hchOf n t).accN = get Reg.HCH_TP_CTL.COUNT s ∧
      OnlyRegs [Reg.HCH_TP_CTL.BUSY] s t ∧
      t = { s with regs := t.regs, tp := t.tp, hch := t.hch } ∧
      SameMem s t))

/-- Namespaces and zone commands: attach, create, write, append, reset, finish, open, close. Rests on R203, R204, R205, R206, R208,
R209, R210, R374. Where it meets them it rests on choices of the model: log entries 51, 52, 53. -/
def Obligations.ZoneCommandsMoveTheZoneStates : Prop :=
  (∀ (n p : Nat) (s : State),
    n < 64 →
    Gives (.namespaceAttach n p) s (fun t =>
      (get (Reg.ZMG_NS_CFG.PORTS n) t = (if attachRefused n p s then get (Reg.ZMG_NS_CFG.PORTS n) s else p % 2 ^ (Reg.ZMG_NS_CFG.PORTS 0).width)) ∧
      OnlyRegs [Reg.ZMG_NS_CFG.PORTS n] s t ∧
      OnlyRegisters s t ∧
      SameMem s t)) ∧
  (∀ (n k q : Nat) (b : Bool) (s : State),
    n < 64 →
    k % 8 = 0 →
    b = false →
    nsIdle n s = true →
    k / 8 % 2 = 0 →
    nsHeld n s = false →
    Gives (.namespaceCreate n k q b) s (fun t =>
      get (Reg.ZMG_NS_CFG.TYPE n) t = 0 ∧
      get (Reg.ZMG_NS_CFG.PORTS n) t = 0 ∧
      OnlyBlocks [9, 15, 19] s t)) ∧
  (∀ (n k q : Nat) (b : Bool) (s : State),
    n < 64 →
    k % 8 ≠ 0 →
    b = false →
    nsIdle n s = true →
    typeOk (k % 8) s = true →
    lbafOk (k % 8) (k / 8 % 2) = true →
    nsHeld n s = false →
    Gives (.namespaceCreate n k q b) s (fun t =>
      get (Reg.ZMG_NS_CFG.TYPE n) t = k % 8 ∧
      get (Reg.ZMG_NS_CFG.LBAF n) t = k / 8 % 2 ∧
      get (Reg.ZMG_NS_CFG.RO n) t = 0 ∧
      ((List.range (get (Reg.ZMG_NS_COUNT.COUNT n) s)).all (fun i => (zoneOf (get (Reg.ZMG_NS_ZONES.FIRST n) s + i) t).state == (if k % 8 = 1 then 0 else 1) && (zoneOf (get (Reg.ZMG_NS_ZONES.FIRST n) s + i) t).phys == (q + i) % 2 ^ 20 && (zoneOf (get (Reg.ZMG_NS_ZONES.FIRST n) s + i) t).ns == n) = true) ∧
      OnlyBlocks [9, 15, 19] s t)) ∧
  (∀ (n k q y : Nat) (b : Bool) (s : State),
    n < 64 →
    (y = (if b = true then nsType n s else k % 8)) →
    nsIdle n s = true →
    typeOk y s = true →
    lbafOk y (k / 8 % 2) = true →
    nsHeld n s = false →
    Gives (.namespaceCreate n k q b) s (fun t =>
      get (Reg.ZMG_NS_CFG.TYPE n) t = y ∧
      get (Reg.ZMG_NS_CFG.LBAF n) t = k / 8 % 2 ∧
      get (Reg.ZMG_NS_CFG.RO n) t = 0 ∧
      (get (Reg.ZMG_NS_CFG.PORTS n) t = (if y = 0 then 0 else get (Reg.ZMG_NS_CFG.PORTS n) s)) ∧
      get (Reg.ZMG_NS_MC.ZONES n) t = mcZones n y s % 2 ^ (Reg.ZMG_NS_MC.ZONES 0).width ∧
      (t.cmd.lines.all (fun l => l.ns != n) = true) ∧
      (t.zmg.mc.all (fun e => e.ns != n) = true) ∧
      (y = 0 ∨ (List.range (get (Reg.ZMG_NS_COUNT.COUNT n) s)).all (fun i => (zoneOf (get (Reg.ZMG_NS_ZONES.FIRST n) s + i) t).state == (if y = 1 then 0 else 1) && (zoneOf (get (Reg.ZMG_NS_ZONES.FIRST n) s + i) t).host == 0 && (zoneOf (get (Reg.ZMG_NS_ZONES.FIRST n) s + i) t).ns == n && (b || (zoneOf (get (Reg.ZMG_NS_ZONES.FIRST n) s + i) t).phys == (q + i) % 2 ^ 20)) = true) ∧
      OnlyBlocks [9, 15, 19] s t)) ∧
  (∀ (n : Nat) (c : Ctx) (a k : Nat) (b : Bool) (s : State),
    ctxOf n s = some c →
    c.started = true →
    tableWaits c.cmd.ns s = false →
    c.cmd.op = .write a k b →
    (nsType c.cmd.ns s = 2 ∨ nsType c.cmd.ns s = 4) →
    c.checked = false →
    zoneAhead c s = false →
    ((zoneOf (ctxZone c s) s).state = 1 ∨ (zoneOf (ctxZone c s) s).state = 2) →
    writeBlocked (ctxZone c s) (a % 65536) k s = none →
    Gives (.zoneWrite n) s (fun t =>
      (((ctxOf n t).map (fun d => (d.checked, d.lba))) = some (true, a)) ∧
      (zoneOf (ctxZone c s) t).state = 2 ∧
      OnlyBlocks [9, 15, 19] s t)) ∧
  (∀ (n : Nat) (c : Ctx) (a k : Nat) (b : Bool) (s : State),
    ctxOf n s = some c →
    c.started = true →
    tableWaits c.cmd.ns s = false →
    c.cmd.op = .write a k b →
    (nsType c.cmd.ns s = 2 ∨ nsType c.cmd.ns s = 4) →
    c.checked = false →
    zoneAhead c s = false →
    writeBlocked (ctxZone c s) (a % 65536) k s = some .zoneInvalidWrite →
    Gives (.zoneWrite n) s (fun t =>
      ((c.cmd.port ≠ .fabric → t.sent = s.sent ++ [statusMsg c.cmd.port c.cmd.nexus c.cmd.tag .zoneInvalidWrite a])) ∧
      ctxOf n t = none ∧
      OnlyRegs [Reg.CMD_POOL_STAT.USED, Reg.CMD_EXEC_STAT.EXEC] s t ∧
      t = { s with regs := t.regs, cmd := t.cmd, fab := t.fab, sent := t.sent } ∧
      SameMem s t)) ∧
  (∀ (n : Nat) (c : Ctx) (a k : Nat) (b : Bool) (x : Status) (s : State),
    ctxOf n s = some c →
    c.started = true →
    tableWaits c.cmd.ns s = false →
    c.cmd.op = .write a k b →
    (nsType c.cmd.ns s = 2 ∨ nsType c.cmd.ns s = 4) →
    c.checked = false →
    zoneAhead c s = false →
    writeBlocked (ctxZone c s) (a % 65536) k s = some x →
    Gives (.zoneWrite n) s (fun t =>
      ((c.cmd.port ≠ .fabric → t.sent = s.sent ++ [statusMsg c.cmd.port c.cmd.nexus c.cmd.tag (x) a])) ∧
      ctxOf n t = none ∧
      OnlyRegs [Reg.CMD_POOL_STAT.USED, Reg.CMD_EXEC_STAT.EXEC] s t ∧
      t = { s with regs := t.regs, cmd := t.cmd, fab := t.fab, sent := t.sent } ∧
      SameMem s t)) ∧
  (∀ (n : Nat) (c : Ctx) (a k : Nat) (b : Bool) (s : State),
    ctxOf n s = some c →
    c.started = true →
    tableWaits c.cmd.ns s = false →
    c.cmd.op = .write a k b →
    (nsType c.cmd.ns s = 2 ∨ nsType c.cmd.ns s = 4) →
    c.checked = false →
    zoneAhead c s = false →
    writeBlocked (ctxZone c s) (a % 65536) k s = none →
    c.stamp = n →
    Gives (.zoneWrite n) s (fun t =>
      (((ctxOf n t).map (fun d => (d.checked, d.lba))) = some (true, a)) ∧
      isOpened (zoneOf (ctxZone c s) t).state = true ∧
      (zoneOf (ctxZone c s) t).host = (zoneOf (ctxZone c s) s).host ∧
      ((isOpened (zoneOf (ctxZone c s) s).state = true → (zoneOf (ctxZone c s) t).state = (zoneOf (ctxZone c s) s).state)) ∧
      t.sent = s.sent ∧
      OnlyBlocks [9, 13, 15, 19] s t)) ∧
  (∀ (n : Nat) (c : Ctx) (q k : Nat) (b : Bool) (s : State),
    ctxOf n s = some c →
    c.started = true →
    tableWaits c.cmd.ns s = false →
    c.cmd.op = .append q k b →
    (nsType c.cmd.ns s = 2 ∨ nsType c.cmd.ns s = 4) →
    k ≤ 256 →
    c.checked = false →
    zoneAhead c s = false →
    writeBlocked (ctxZone c s) (zoneOf (ctxZone c s) s).host k s = none →
    Gives (.zoneAppend n) s (fun t =>
      (((ctxOf n t).map (fun d => (d.checked, d.lba))) = some (true, q * 65536 + (zoneOf (ctxZone c s) s).host)) ∧
      OnlyBlocks [9, 15, 19] s t)) ∧
  (∀ (n : Nat) (c : Ctx) (q k : Nat) (b : Bool) (s : State),
    ctxOf n s = some c →
    c.started = true →
    tableWaits c.cmd.ns s = false →
    c.cmd.op = .append q k b →
    (nsType c.cmd.ns s = 2 ∨ nsType c.cmd.ns s = 4) →
    k ≤ 256 →
    c.checked = false →
    zoneAhead c s = false →
    writeBlocked (ctxZone c s) (zoneOf (ctxZone c s) s).host k s = none →
    c.stamp = n →
    Gives (.zoneAppend n) s (fun t =>
      isOpened (zoneOf (ctxZone c s) t).state = true ∧
      (zoneOf (ctxZone c s) t).host = (zoneOf (ctxZone c s) s).host ∧
      ((ctxOf n t).map (·.lba)) = some (q * 65536 + (zoneOf (ctxZone c s) s).host) ∧
      t.sent = s.sent ∧
      OnlyBlocks [9, 13, 15, 19] s t)) ∧
  (∀ (n : Nat) (c : Ctx) (q k : Nat) (b : Bool) (x : Status) (s : State),
    ctxOf n s = some c →
    c.started = true →
    tableWaits c.cmd.ns s = false →
    c.cmd.op = .append q k b →
    (nsType c.cmd.ns s = 2 ∨ nsType c.cmd.ns s = 4) →
    k ≤ 256 →
    c.checked = false →
    zoneAhead c s = false →
    writeBlocked (ctxZone c s) (zoneOf (ctxZone c s) s).host k s = some x →
    Gives (.zoneAppend n) s (fun t =>
      ((c.cmd.port ≠ .fabric → t.sent = s.sent ++ [statusMsg c.cmd.port c.cmd.nexus c.cmd.tag (x) (q * 65536)])) ∧
      ctxOf n t = none ∧
      OnlyRegs [Reg.CMD_POOL_STAT.USED, Reg.CMD_EXEC_STAT.EXEC] s t ∧
      t = { s with regs := t.regs, cmd := t.cmd, fab := t.fab, sent := t.sent } ∧
      SameMem s t)) ∧
  (∀ (n : Nat) (c : Ctx) (q k : Nat) (b : Bool) (s : State),
    ctxOf n s = some c →
    c.started = true →
    tableWaits c.cmd.ns s = false →
    c.cmd.op = .append q k b →
    (nsType c.cmd.ns s = 1 ∨ nsType c.cmd.ns s = 3 ∨ 256 < k) →
    c.checked = false →
    zoneAhead c s = false →
    Gives (.zoneAppend n) s (fun t =>
      ((c.cmd.port ≠ .fabric → t.sent = s.sent ++ [statusMsg c.cmd.port c.cmd.nexus c.cmd.tag .invalidField (q * 65536)])) ∧
      ctxOf n t = none ∧
      OnlyRegs [Reg.CMD_POOL_STAT.USED, Reg.CMD_EXEC_STAT.EXEC] s t ∧
      t = { s with regs := t.regs, cmd := t.cmd, fab := t.fab, sent := t.sent } ∧
      SameMem s t)) ∧
  (∀ (n : Nat) (c : Ctx) (q : Nat) (s : State),
    ctxOf n s = some c →
    c.started = true →
    tableWaits c.cmd.ns s = false →
    c.cmd.op = .zoneReset q →
    (nsType c.cmd.ns s = 2 ∨ nsType c.cmd.ns s = 4) →
    zoneBusy c s = false →
    (zoneOf (ctxZone c s) s).state ≠ 13 →
    (zoneOf (ctxZone c s) s).state ≠ 15 →
    held (ctxZone c s) s = false →
    c.stamp = n →
    Gives (.zoneReset n) s (fun t =>
      (zoneOf (ctxZone c s) t).state = 1 ∧
      (zoneOf (ctxZone c s) t).host = 0 ∧
      (zoneOf (ctxZone c s) t).media = 0 ∧
      ((c.cmd.port ≠ .fabric → t.sent = s.sent ++ [statusMsg c.cmd.port c.cmd.nexus c.cmd.tag .success (q * 65536)])) ∧
      ctxOf n t = none ∧
      OnlyBlocks [9, 15, 19] s t)) ∧
  (∀ (n : Nat) (c : Ctx) (q : Nat) (s : State),
    ctxOf n s = some c →
    c.started = true →
    tableWaits c.cmd.ns s = false →
    c.cmd.op = .zoneReset q →
    (nsType c.cmd.ns s ≠ 2 ∧ nsType c.cmd.ns s ≠ 4) →
    zoneBusy c s = false →
    c.stamp = n →
    Gives (.zoneReset n) s (fun t =>
      ((c.cmd.port ≠ .fabric → t.sent = s.sent ++ [statusMsg c.cmd.port c.cmd.nexus c.cmd.tag .invalidField (q * 65536)])) ∧
      ctxOf n t = none ∧
      OnlyRegs [Reg.CMD_POOL_STAT.USED, Reg.CMD_EXEC_STAT.EXEC] s t ∧
      t = { s with regs := t.regs, cmd := t.cmd, fab := t.fab, sent := t.sent } ∧
      SameMem s t)) ∧
  (∀ (n : Nat) (c : Ctx) (q : Nat) (s : State),
    ctxOf n s = some c →
    c.started = true →
    tableWaits c.cmd.ns s = false →
    c.cmd.op = .zoneReset q →
    (nsType c.cmd.ns s = 2 ∨ nsType c.cmd.ns s = 4) →
    zoneBusy c s = false →
    ((zoneOf (ctxZone c s) s).state = 13 ∨ (zoneOf (ctxZone c s) s).state = 15) →
    c.stamp = n →
    Gives (.zoneReset n) s (fun t =>
      ((c.cmd.port ≠ .fabric → t.sent = s.sent ++ [statusMsg c.cmd.port c.cmd.nexus c.cmd.tag (if (zoneOf (ctxZone c s) s).state = 13 then .zoneReadOnly else .zoneOffline) (q * 65536)])) ∧
      ctxOf n t = none ∧
      OnlyRegs [Reg.CMD_POOL_STAT.USED, Reg.CMD_EXEC_STAT.EXEC] s t ∧
      t = { s with regs := t.regs, cmd := t.cmd, fab := t.fab, sent := t.sent } ∧
      SameMem s t)) ∧
  (∀ (n : Nat) (c : Ctx) (q : Nat) (s : State),
    ctxOf n s = some c →
    c.started = true →
    tableWaits c.cmd.ns s = false →
    c.cmd.op = .zoneReset q →
    (nsType c.cmd.ns s = 2 ∨ nsType c.cmd.ns s = 4) →
    zoneBusy c s = false →
    (zoneOf (ctxZone c s) s).state ≠ 13 →
    (zoneOf (ctxZone c s) s).state ≠ 15 →
    held (ctxZone c s) s = true →
    c.stamp = n →
    Gives (.zoneReset n) s (fun t =>
      ((c.cmd.port ≠ .fabric → t.sent = s.sent ++ [statusMsg c.cmd.port c.cmd.nexus c.cmd.tag .retention (q * 65536)])) ∧
      ctxOf n t = none ∧
      OnlyRegs [Reg.CMD_POOL_STAT.USED, Reg.CMD_EXEC_STAT.EXEC] s t ∧
      t = { s with regs := t.regs, cmd := t.cmd, fab := t.fab, sent := t.sent } ∧
      SameMem s t)) ∧
  (∀ (n : Nat) (c : Ctx) (q : Nat) (s : State),
    ctxOf n s = some c →
    c.started = true →
    tableWaits c.cmd.ns s = false →
    c.cmd.op = .zoneFinish q →
    (nsType c.cmd.ns s = 2 ∨ nsType c.cmd.ns s = 4) →
    zoneBusy c s = false →
    (zoneOf (ctxZone c s) s).state ≠ 13 →
    (zoneOf (ctxZone c s) s).state ≠ 15 →
    c.stamp = n →
    Gives (.zoneFinish n) s (fun t =>
      (zoneOf (ctxZone c s) t).state = 14 ∧
      (((zoneOf (ctxZone c s) s).state ≠ 14 → (zoneOf (ctxZone c s) t).host = 65536)) ∧
      (zoneOf (ctxZone c s) t).media = (zoneOf (ctxZone c s) s).media ∧
      ((c.cmd.port ≠ .fabric → t.sent = s.sent ++ [statusMsg c.cmd.port c.cmd.nexus c.cmd.tag .success (q * 65536)])) ∧
      ctxOf n t = none ∧
      MemOutside (zoneAddr (ctxZone c s) s) 32 s t ∧
      OnlyBlocks [9, 15, 19] s t)) ∧
  (∀ (n : Nat) (c : Ctx) (q : Nat) (s : State),
    ctxOf n s = some c →
    c.started = true →
    tableWaits c.cmd.ns s = false →
    c.cmd.op = .zoneFinish q →
    (nsType c.cmd.ns s ≠ 2 ∧ nsType c.cmd.ns s ≠ 4) →
    zoneBusy c s = false →
    c.stamp = n →
    Gives (.zoneFinish n) s (fun t =>
      ((c.cmd.port ≠ .fabric → t.sent = s.sent ++ [statusMsg c.cmd.port c.cmd.nexus c.cmd.tag .invalidField (q * 65536)])) ∧
      ctxOf n t = none ∧
      OnlyRegs [Reg.CMD_POOL_STAT.USED, Reg.CMD_EXEC_STAT.EXEC] s t ∧
      t = { s with regs := t.regs, cmd := t.cmd, fab := t.fab, sent := t.sent } ∧
      SameMem s t)) ∧
  (∀ (n : Nat) (c : Ctx) (q : Nat) (s : State),
    ctxOf n s = some c →
    c.started = true →
    tableWaits c.cmd.ns s = false →
    c.cmd.op = .zoneFinish q →
    (nsType c.cmd.ns s = 2 ∨ nsType c.cmd.ns s = 4) →
    zoneBusy c s = false →
    ((zoneOf (ctxZone c s) s).state = 13 ∨ (zoneOf (ctxZone c s) s).state = 15) →
    c.stamp = n →
    Gives (.zoneFinish n) s (fun t =>
      ((c.cmd.port ≠ .fabric → t.sent = s.sent ++ [statusMsg c.cmd.port c.cmd.nexus c.cmd.tag (if (zoneOf (ctxZone c s) s).state = 13 then .zoneReadOnly else .zoneOffline) (q * 65536)])) ∧
      ctxOf n t = none ∧
      OnlyRegs [Reg.CMD_POOL_STAT.USED, Reg.CMD_EXEC_STAT.EXEC] s t ∧
      t = { s with regs := t.regs, cmd := t.cmd, fab := t.fab, sent := t.sent } ∧
      SameMem s t)) ∧
  (∀ (n : Nat) (c : Ctx) (q : Nat) (s : State),
    ctxOf n s = some c →
    c.started = true →
    tableWaits c.cmd.ns s = false →
    c.cmd.op = .zoneOpen q →
    (nsType c.cmd.ns s = 2 ∨ nsType c.cmd.ns s = 4) →
    zoneBusy c s = false →
    ((zoneOf (ctxZone c s) s).state = 1 ∨ (zoneOf (ctxZone c s) s).state = 2 ∨ (zoneOf (ctxZone c s) s).state = 4) →
    openBlocked (ctxZone c s) s = none →
    c.stamp = n →
    Gives (.zoneOpen n) s (fun t =>
      (zoneOf (ctxZone c s) t).state = 3 ∧
      ((c.cmd.port ≠ .fabric → t.sent = s.sent ++ [statusMsg c.cmd.port c.cmd.nexus c.cmd.tag .success (q * 65536)])) ∧
      ctxOf n t = none ∧
      OnlyBlocks [9, 15, 19] s t)) ∧
  (∀ (n : Nat) (c : Ctx) (q : Nat) (s : State),
    ctxOf n s = some c →
    c.started = true →
    tableWaits c.cmd.ns s = false →
    c.cmd.op = .zoneOpen q →
    (nsType c.cmd.ns s ≠ 2 ∧ nsType c.cmd.ns s ≠ 4) →
    zoneBusy c s = false →
    c.stamp = n →
    Gives (.zoneOpen n) s (fun t =>
      ((c.cmd.port ≠ .fabric → t.sent = s.sent ++ [statusMsg c.cmd.port c.cmd.nexus c.cmd.tag .invalidField (q * 65536)])) ∧
      ctxOf n t = none ∧
      OnlyRegs [Reg.CMD_POOL_STAT.USED, Reg.CMD_EXEC_STAT.EXEC] s t ∧
      t = { s with regs := t.regs, cmd := t.cmd, fab := t.fab, sent := t.sent } ∧
      SameMem s t)) ∧
  (∀ (n : Nat) (c : Ctx) (q : Nat) (s : State),
    ctxOf n s = some c →
    c.started = true →
    tableWaits c.cmd.ns s = false →
    c.cmd.op = .zoneOpen q →
    (nsType c.cmd.ns s = 2 ∨ nsType c.cmd.ns s = 4) →
    zoneBusy c s = false →
    ((zoneOf (ctxZone c s) s).state = 13 ∨ (zoneOf (ctxZone c s) s).state = 15) →
    c.stamp = n →
    Gives (.zoneOpen n) s (fun t =>
      ((c.cmd.port ≠ .fabric → t.sent = s.sent ++ [statusMsg c.cmd.port c.cmd.nexus c.cmd.tag (if (zoneOf (ctxZone c s) s).state = 13 then .zoneReadOnly else .zoneOffline) (q * 65536)])) ∧
      ctxOf n t = none ∧
      OnlyRegs [Reg.CMD_POOL_STAT.USED, Reg.CMD_EXEC_STAT.EXEC] s t ∧
      t = { s with regs := t.regs, cmd := t.cmd, fab := t.fab, sent := t.sent } ∧
      SameMem s t)) ∧
  (∀ (n : Nat) (c : Ctx) (q : Nat) (s : State),
    ctxOf n s = some c →
    c.started = true →
    tableWaits c.cmd.ns s = false →
    c.cmd.op = .zoneOpen q →
    (nsType c.cmd.ns s = 2 ∨ nsType c.cmd.ns s = 4) →
    zoneBusy c s = false →
    ((zoneOf (ctxZone c s) s).state = 14 ∨ (zoneOf (ctxZone c s) s).state = 3) →
    c.stamp = n →
    Gives (.zoneOpen n) s (fun t =>
      ((c.cmd.port ≠ .fabric → t.sent = s.sent ++ [statusMsg c.cmd.port c.cmd.nexus c.cmd.tag (if (zoneOf (ctxZone c s) s).state = 14 then .zoneFull else .success) (q * 65536)])) ∧
      ctxOf n t = none ∧
      OnlyRegs [Reg.CMD_POOL_STAT.USED, Reg.CMD_EXEC_STAT.EXEC] s t ∧
      t = { s with regs := t.regs, cmd := t.cmd, fab := t.fab, sent := t.sent } ∧
      SameMem s t)) ∧
  (∀ (n : Nat) (c : Ctx) (q : Nat) (x : Status) (s : State),
    ctxOf n s = some c →
    c.started = true →
    tableWaits c.cmd.ns s = false →
    c.cmd.op = .zoneOpen q →
    (nsType c.cmd.ns s = 2 ∨ nsType c.cmd.ns s = 4) →
    zoneBusy c s = false →
    (zoneOf (ctxZone c s) s).state ≠ 13 →
    (zoneOf (ctxZone c s) s).state ≠ 15 →
    (zoneOf (ctxZone c s) s).state ≠ 14 →
    (zoneOf (ctxZone c s) s).state ≠ 3 →
    openBlocked (ctxZone c s) s = some x →
    c.stamp = n →
    Gives (.zoneOpen n) s (fun t =>
      ((c.cmd.port ≠ .fabric → t.sent = s.sent ++ [statusMsg c.cmd.port c.cmd.nexus c.cmd.tag (x) (q * 65536)])) ∧
      ctxOf n t = none ∧
      OnlyRegs [Reg.CMD_POOL_STAT.USED, Reg.CMD_EXEC_STAT.EXEC] s t ∧
      t = { s with regs := t.regs, cmd := t.cmd, fab := t.fab, sent := t.sent } ∧
      SameMem s t)) ∧
  (∀ (n : Nat) (c : Ctx) (q : Nat) (s : State),
    ctxOf n s = some c →
    c.started = true →
    tableWaits c.cmd.ns s = false →
    c.cmd.op = .zoneClose q →
    (nsType c.cmd.ns s = 2 ∨ nsType c.cmd.ns s = 4) →
    zoneBusy c s = false →
    ((zoneOf (ctxZone c s) s).state = 2 ∨ (zoneOf (ctxZone c s) s).state = 3) →
    c.stamp = n →
    Gives (.zoneClose n) s (fun t =>
      ((zoneOf (ctxZone c s) t).state = (if (zoneOf (ctxZone c s) s).host = 0 then 1 else 4)) ∧
      (zoneOf (ctxZone c s) t).host = (zoneOf (ctxZone c s) s).host ∧
      ((c.cmd.port ≠ .fabric → t.sent = s.sent ++ [statusMsg c.cmd.port c.cmd.nexus c.cmd.tag .success (q * 65536)])) ∧
      ctxOf n t = none ∧
      MemOutside (zoneAddr (ctxZone c s) s) 32 s t ∧
      OnlyBlocks [9, 15, 19] s t)) ∧
  (∀ (n : Nat) (c : Ctx) (q : Nat) (s : State),
    ctxOf n s = some c →
    c.started = true →
    tableWaits c.cmd.ns s = false →
    c.cmd.op = .zoneClose q →
    (nsType c.cmd.ns s ≠ 2 ∧ nsType c.cmd.ns s ≠ 4) →
    zoneBusy c s = false →
    c.stamp = n →
    Gives (.zoneClose n) s (fun t =>
      ((c.cmd.port ≠ .fabric → t.sent = s.sent ++ [statusMsg c.cmd.port c.cmd.nexus c.cmd.tag .invalidField (q * 65536)])) ∧
      ctxOf n t = none ∧
      OnlyRegs [Reg.CMD_POOL_STAT.USED, Reg.CMD_EXEC_STAT.EXEC] s t ∧
      t = { s with regs := t.regs, cmd := t.cmd, fab := t.fab, sent := t.sent } ∧
      SameMem s t)) ∧
  (∀ (n : Nat) (c : Ctx) (q : Nat) (s : State),
    ctxOf n s = some c →
    c.started = true →
    tableWaits c.cmd.ns s = false →
    c.cmd.op = .zoneClose q →
    (nsType c.cmd.ns s = 2 ∨ nsType c.cmd.ns s = 4) →
    zoneBusy c s = false →
    ((zoneOf (ctxZone c s) s).state = 13 ∨ (zoneOf (ctxZone c s) s).state = 15) →
    c.stamp = n →
    Gives (.zoneClose n) s (fun t =>
      ((c.cmd.port ≠ .fabric → t.sent = s.sent ++ [statusMsg c.cmd.port c.cmd.nexus c.cmd.tag (if (zoneOf (ctxZone c s) s).state = 13 then .zoneReadOnly else .zoneOffline) (q * 65536)])) ∧
      ctxOf n t = none ∧
      OnlyRegs [Reg.CMD_POOL_STAT.USED, Reg.CMD_EXEC_STAT.EXEC] s t ∧
      t = { s with regs := t.regs, cmd := t.cmd, fab := t.fab, sent := t.sent } ∧
      SameMem s t)) ∧
  (∀ (n : Nat) (c : Ctx) (q : Nat) (s : State),
    ctxOf n s = some c →
    c.started = true →
    tableWaits c.cmd.ns s = false →
    c.cmd.op = .zoneClose q →
    (nsType c.cmd.ns s = 2 ∨ nsType c.cmd.ns s = 4) →
    zoneBusy c s = false →
    (zoneOf (ctxZone c s) s).state ≠ 13 →
    (zoneOf (ctxZone c s) s).state ≠ 15 →
    (zoneOf (ctxZone c s) s).state ≠ 2 →
    (zoneOf (ctxZone c s) s).state ≠ 3 →
    c.stamp = n →
    Gives (.zoneClose n) s (fun t =>
      ((c.cmd.port ≠ .fabric → t.sent = s.sent ++ [statusMsg c.cmd.port c.cmd.nexus c.cmd.tag (if (zoneOf (ctxZone c s) s).state = 4 then .success else .invalidField) (q * 65536)])) ∧
      ctxOf n t = none ∧
      OnlyRegs [Reg.CMD_POOL_STAT.USED, Reg.CMD_EXEC_STAT.EXEC] s t ∧
      t = { s with regs := t.regs, cmd := t.cmd, fab := t.fab, sent := t.sent } ∧
      SameMem s t))

/-- Drive-managed namespaces: destaging, direct bands, cleaning, CRIT, sub-sector fill. Rests on R217, R218, R219, R220, R221, R222,
R224, R225. Where it meets them it rests on choices of the model: log entries 45, 48, 242, 243. -/
def Obligations.MediaCacheAndBandsAreWritten : Prop :=
  (∀ (n x : Nat) (l : List Nat) (s : State),
    n < 64 →
    zmgOn s = true →
    nsType n s = 3 →
    extentLines n x s ≠ [] →
    ((extentLines n x s).all (fun l => l.mask == 255) = true) →
    mcFill n s < get Reg.ZMG_DM_CFG.CRIT s →
    ((s.zmg.mc.filter (fun e => e.ns == n)).length < mcSlots n s) →
    Gives (.mediaCacheDestage n x l) s (fun t =>
      t.sent = s.sent ++ [Msg.slot n (logHead n s) (tagBytes x (lineMask (extentLines n x s) ||| ((mcOf n x s).map (·.mask)).getD 0) (tmpCount s % 2 ^ 48) (logSeq n s)) (slotBlocks n x l s)] ∧
      (((mcOf n x t).map (fun e => (e.slot, e.mask))) = some (logHead n s, lineMask (extentLines n x s) ||| ((mcOf n x s).map (·.mask)).getD 0)) ∧
      extentLines n x t = [] ∧
      logSeq n t = logSeq n s + 1 ∧
      AMap.getD t.zmg.mcHead n 0 = (logHead n s + 1) % mcSlots n s ∧
      OnlyRegs [Reg.ZMG_SPARE.FREE, Reg.ZMG_DM_STAT.FILL, Reg.ZMG_DM_STAT.NS, Reg.ZMG_DM_STAT.CLEANS, Reg.ZMG_OPEN_CNT.OPEN, Reg.ZMG_OPEN_CNT.ACTIVE, Reg.CMD_WC_STAT.DIRTY] s t ∧
      t = { s with regs := t.regs, zmg := t.zmg, cmd := t.cmd, sent := t.sent } ∧
      SameMem s t)) ∧
  (∀ (n b k q : Nat) (s : State),
    n < 64 →
    zmgOn s = true →
    nsType n s = 3 →
    inNs n (get (Reg.ZMG_NS_ZONES.FIRST n) s + b) s = true →
    s.zmg.spares.contains q = true →
    k = 65536 →
    2 ^ get Reg.ZMG_DM_CFG.DIRECT_MIN s * 256 ≤ k →
    ((List.range k).all (fun i => (lineOf n (65536 * b + i) s).any (fun l => l.mask == 255)) = true) →
    Gives (.directBandWrite n b k q) s (fun t =>
      (zoneOf (get (Reg.ZMG_NS_ZONES.FIRST n) s + b) t).phys = q % 2 ^ 20 ∧
      (zoneOf (get (Reg.ZMG_NS_ZONES.FIRST n) s + b) s).phys ∈ t.zmg.spares ∧
      MemOutside (zoneAddr (get (Reg.ZMG_NS_ZONES.FIRST n) s + b) s) 32 s t ∧
      OnlyRegs [Reg.ZMG_SPARE.FREE, Reg.ZMG_DM_STAT.FILL, Reg.ZMG_DM_STAT.NS, Reg.ZMG_DM_STAT.CLEANS, Reg.ZMG_OPEN_CNT.OPEN, Reg.ZMG_OPEN_CNT.ACTIVE, Reg.CMD_WC_STAT.DIRTY] s t ∧
      t = { s with regs := t.regs, zmg := t.zmg, cmd := t.cmd, mem := t.mem, sys := t.sys, evr := t.evr, sent := t.sent, host := { s.host with msixPend := t.host.msixPend } })) ∧
  (∀ (n b k q : Nat) (s : State),
    n < 64 →
    zmgOn s = true →
    nsType n s = 3 →
    inNs n (get (Reg.ZMG_NS_ZONES.FIRST n) s + b) s = true →
    s.zmg.spares.contains q = true →
    reservedZones s < s.zmg.spares.length →
    k < 65536 →
    2 ^ get Reg.ZMG_DM_CFG.DIRECT_MIN s * 256 ≤ k →
    ((List.range k).all (fun i => (lineOf n (65536 * b + i) s).any (fun l => l.mask == 255)) = true) →
    Gives (.directBandWrite n b k q) s (fun t =>
      (get (Reg.ZMG_NS_ZONES.FIRST n) s + b, q, k, tmpCount s % 2 ^ 48) ∈ t.zmg.images ∧
      q ∉ t.zmg.spares ∧
      (t.sent.drop s.sent.length).head? = some (.image q 0 (cachedRun n (65536 * b) s k)) ∧
      OnlyRegs [Reg.ZMG_SPARE.FREE, Reg.ZMG_DM_STAT.FILL, Reg.ZMG_DM_STAT.NS, Reg.ZMG_DM_STAT.CLEANS, Reg.ZMG_OPEN_CNT.OPEN, Reg.ZMG_OPEN_CNT.ACTIVE, Reg.CMD_WC_STAT.DIRTY] s t ∧
      t = { s with regs := t.regs, zmg := t.zmg, cmd := t.cmd, sys := t.sys, evr := t.evr, sent := t.sent, host := { s.host with msixPend := t.host.msixPend } } ∧
      SameMem s t)) ∧
  (∀ (n b q a h : Nat) (l : List (Nat × Nat)) (s : State),
    n < 64 →
    zmgOn s = true →
    get Reg.ZMG_CTL.CLEAN_EN s = 1 →
    nsType n s = 3 →
    inNs n (get (Reg.ZMG_NS_ZONES.FIRST n) s + b) s = true →
    cleanNext n b s = true →
    cleanTime n (zoneOf (get (Reg.ZMG_NS_ZONES.FIRST n) s + b) s).phys s = true →
    a ≤ tmpCount s % 2 ^ 48 →
    (s.zmg.images.any (fun i => i.1 == get (Reg.ZMG_NS_ZONES.FIRST n) s + b) = true ∨ s.zmg.spares.contains q = true) →
    Gives (.bandCleaning n b q a h l) s (fun t =>
      ((zoneOf (get (Reg.ZMG_NS_ZONES.FIRST n) s + b) t).phys = (((s.zmg.images.find? (fun i => i.1 == get (Reg.ZMG_NS_ZONES.FIRST n) s + b)).map (·.2.1)).getD q) % 2 ^ 20) ∧
      ((bandEntries n b t).all (fun e => !(mergedNow n b a s).contains e) = true) ∧
      (t.zmg.images.all (fun i => i.1 != get (Reg.ZMG_NS_ZONES.FIRST n) s + b) = true) ∧
      (zoneOf (get (Reg.ZMG_NS_ZONES.FIRST n) s + b) s).phys ∈ t.zmg.spares ∧
      get Reg.ZMG_DM_STAT.CLEANS t = (get Reg.ZMG_DM_STAT.CLEANS s + 1) % 2 ^ Reg.ZMG_DM_STAT.CLEANS.width ∧
      MemOutside (zoneAddr (get (Reg.ZMG_NS_ZONES.FIRST n) s + b) s) 32 s t ∧
      OnlyRegs [Reg.ZMG_SPARE.FREE, Reg.ZMG_DM_STAT.FILL, Reg.ZMG_DM_STAT.NS, Reg.ZMG_DM_STAT.CLEANS, Reg.ZMG_OPEN_CNT.OPEN, Reg.ZMG_OPEN_CNT.ACTIVE, Reg.CMD_WC_STAT.DIRTY] s t ∧
      t = { s with regs := t.regs, zmg := t.zmg, mem := t.mem, sys := t.sys, evr := t.evr, sent := t.sent, host := { s.host with msixPend := t.host.msixPend } })) ∧
  (∀ (n : Nat) (s : State),
    n < 64 →
    nsType n s = 3 →
    get Reg.ZMG_DM_CFG.CRIT s ≤ mcFill n s →
    s.zmg.crit.contains n = false →
    Gives (.mediaCacheCrit n) s (fun t =>
      n ∈ t.zmg.crit ∧
      OnlyRegs [] s t ∧
      t = { s with zmg := t.zmg, sys := t.sys, evr := t.evr, sent := t.sent, host := { s.host with msixPend := t.host.msixPend } } ∧
      SameMem s t)) ∧
  (∀ (n b d : Nat) (f : Bool) (l : CacheLine) (s : State),
    f = false →
    lineOf n b s = some l →
    l.mask ≠ 255 →
    Gives (.subsectorFill n b d f) s (fun t =>
      (t.cmd.lines = s.cmd.lines.map (fun y => if y.ns == n && y.blk == b then { l with mask := 255, data := mergeSubs l.mask l.data d } else y)) ∧
      OnlyRegs [] s t ∧
      t = { s with cmd := t.cmd } ∧
      SameMem s t)) ∧
  (∀ (n b d : Nat) (f : Bool) (l : CacheLine) (s : State),
    f = true →
    lineOf n b s = some l →
    l.mask ≠ 255 →
    s.zmg.pend.length < 65000 →
    Gives (.subsectorFill n b d f) s (fun t =>
      (t.cmd.lines = s.cmd.lines.map (fun y => if y.ns == n && y.blk == b then { l with mask := 255, data := mergeSubs l.mask l.data 0 } else y)) ∧
      ((List.range 8).all (fun i => l.mask.testBit i || t.zmg.pend.contains (n, 8 * b + i, 1)) = true) ∧
      OnlyBlocks [9] s t)) ∧
  (∀ (n b d : Nat) (f : Bool) (l : CacheLine) (s : State),
    lineOf n b s = some l →
    l.mask ≠ 255 →
    Gives (.subsectorFill n b d f) s (fun t =>
      (t.cmd.lines = s.cmd.lines.map (fun y => if y.ns == n && y.blk == b then { l with mask := 255, data := mergeSubs l.mask l.data (if f = true then 0 else d) } else y)) ∧
      ((f = false → t.zmg = s.zmg ∧ t.mem = s.mem)) ∧
      OnlyBlocks [9] s t))

/-- The zone manager: remaps, relocation, deep recovery, the scan, pointer recovery, checkpoints, tables. Rests on R214, R215, R226,
R227, R228, R229, R230, R231, R233, R234. Where it meets them it rests on choices of the model: log entries 49, 56, 86, 113,
214, 236, 240, 242, 244, 246, 247, 258. -/
def Obligations.DefectsRecoveryAndTables : Prop :=
  (∀ (n z i y j v : Nat) (o : Decoded) (s : State),
    n < 5 →
    (s.zmg.rewrite.find? (fun x => x.1 == (z, i)) = some ((z, i), v)) →
    zmgOn s = true →
    streamRuns n s = true →
    mayWrite n s = true →
    spareSector z (y, j) s = true →
    (shingledAt z s = true ∨ accepted z i o = false) →
    Gives (.defectRemap n z i y j o) s (fun t =>
      (t.zmg.remaps = s.zmg.remaps.filter (fun r => r.1 != (z, i)) ++ [((z, i), (y, j))]) ∧
      get Reg.ZMG_DEFECT.REMAPS t = (get Reg.ZMG_DEFECT.REMAPS s + 1) % 2 ^ Reg.ZMG_DEFECT.REMAPS.width ∧
      (t.zmg.rewrite.all (fun x => x.1 != (z, i)) = true) ∧
      y ∉ t.zmg.spares ∧
      Msg.sector n y j (anew (z, i) v s) ∈ t.sent ∧
      OnlyRegs [Reg.ZMG_DEFECT.REMAPS, Reg.ZMG_SPARE.FREE] s t ∧
      t = { s with regs := t.regs, zmg := t.zmg, hlk := t.hlk, sys := t.sys, evr := t.evr, sent := t.sent, host := { s.host with msixPend := t.host.msixPend } } ∧
      SameMem s t)) ∧
  (∀ (n z i y j v : Nat) (o : Decoded) (s : State),
    n < 5 →
    (s.zmg.rewrite.find? (fun x => x.1 == (z, i)) = some ((z, i), v)) →
    zmgOn s = true →
    streamRuns n s = true →
    mayWrite n s = true →
    spareSector z (y, j) s = true →
    shingledAt z s = false →
    accepted z i o = true →
    Gives (.defectRemap n z i y j o) s (fun t =>
      t.zmg.remaps = s.zmg.remaps ∧
      (t.zmg.rewrite.all (fun x => x.1 != (z, i)) = true) ∧
      Msg.sector n z i (anew (z, i) v s) ∈ t.sent ∧
      OnlyRegs [] s t ∧
      t = { s with zmg := t.zmg, hlk := t.hlk, sent := t.sent } ∧
      SameMem s t)) ∧
  (∀ (z q d : Nat) (s : State),
    AMap.lookup z s.zmg.copying = none →
    sparesFree s ≠ [] →
    zmgOn s = true →
    (sparesFree s).contains q = true →
    Gives (.zoneRelocation z q d) s (fun t =>
      (zoneOf z t).reloc = true ∧
      (zoneOf z t).phys = (zoneOf z s).phys ∧
      AMap.lookup z t.zmg.copying = some q ∧
      q ∉ t.zmg.spares ∧
      (t.sent.filter (fun m => match m with | .image _ _ _ => true | _ => false) = s.sent.filter (fun m => match m with | .image _ _ _ => true | _ => false)) ∧
      MemOutside (zoneAddr z s) 32 s t ∧
      OnlyRegs [Reg.ZMG_SPARE.FREE, Reg.ZMG_OPEN_CNT.OPEN, Reg.ZMG_OPEN_CNT.ACTIVE] s t ∧
      t = { s with regs := t.regs, zmg := t.zmg, mem := t.mem, sys := t.sys, evr := t.evr, sent := t.sent, host := { s.host with msixPend := t.host.msixPend } })) ∧
  (∀ (z q p d : Nat) (s : State),
    AMap.lookup z s.zmg.copying = some p →
    zmgOn s = true →
    Gives (.zoneRelocation z q d) s (fun t =>
      (zoneOf z t).phys = p % 2 ^ 20 ∧
      (zoneOf z t).reloc = false ∧
      (zoneOf z s).phys ∈ t.zmg.spares ∧
      t.zmg.copying = AMap.erase z s.zmg.copying ∧
      (t.zmg.remaps = s.zmg.remaps.filter (fun r => r.1.1 != (zoneOf z s).phys)) ∧
      MemOutside (zoneAddr z s) 32 s t ∧
      OnlyRegs [Reg.ZMG_SPARE.FREE, Reg.ZMG_OPEN_CNT.OPEN, Reg.ZMG_OPEN_CNT.ACTIVE, Reg.ZMG_DEFECT.REMAPS] s t ∧
      t = { s with regs := t.regs, zmg := t.zmg, mem := t.mem, sys := t.sys, evr := t.evr, sent := t.sent, host := { s.host with msixPend := t.host.msixPend } })) ∧
  (∀ (z q d : Nat) (s : State),
    sparesFree s = [] →
    AMap.lookup z s.zmg.copying = none →
    Gives (.zoneRelocation z q d) s (fun t =>
      (zoneOf z t).state = 13 ∧
      (zoneOf z t).reloc = false ∧
      (zoneOf z t).phys = (zoneOf z s).phys ∧
      MemOutside (zoneAddr z s) 32 s t ∧
      OnlyRegs [Reg.ZMG_OPEN_CNT.OPEN, Reg.ZMG_OPEN_CNT.ACTIVE] s t ∧
      t = { s with regs := t.regs, zmg := t.zmg, mem := t.mem, sys := t.sys, evr := t.evr, sent := t.sent, host := { s.host with msixPend := t.host.msixPend } })) ∧
  (∀ (n z p i : Nat) (r : List Reread) (o : List Decoded) (d : Decoded) (w : Verdict × Nat × Nat) (s : State),
    n < 5 →
    climb n (zoneOf z s).phys (physIdx (isShingled (zoneOf z s)) p) (4 * budgetOf n s) s (planOf n s) 0 0 r = some w →
    s.zmg.failed.contains (sectorPlace z p s) = true →
    streamRuns n s = true →
    deepResult z p w.1 (o, d) (copyData z p s) s = some i →
    Gives (.deepRecovery n z p r o d) s (fun t =>
      (((zoneOf z s).phys, physIdx (isShingled (zoneOf z s)) p), i) ∈ t.zmg.rewrite ∧
      (sectorPlace z p s) ∉ t.zmg.failed ∧
      touchesPend (zoneOf z s).ns (blockOf z p s * lbasPerBlock (zoneOf z s).ns s) (lbasPerBlock (zoneOf z s).ns s) t = false ∧
      OnlyBlocks [9] s t)) ∧
  (∀ (n z p : Nat) (r : List Reread) (o : List Decoded) (d : Decoded) (w : Verdict × Nat × Nat) (s : State),
    n < 5 →
    climb n (zoneOf z s).phys (physIdx (isShingled (zoneOf z s)) p) (4 * budgetOf n s) s (planOf n s) 0 0 r = some w →
    s.zmg.failed.contains (sectorPlace z p s) = true →
    streamRuns n s = true →
    deepResult z p w.1 (o, d) (copyData z p s) s = none →
    s.zmg.pend.length < 65536 →
    Gives (.deepRecovery n z p r o d) s (fun t =>
      touchesPend (zoneOf z s).ns (blockOf z p s * lbasPerBlock (zoneOf z s).ns s) (lbasPerBlock (zoneOf z s).ns s) t = true ∧
      (sectorPlace z p s) ∉ t.zmg.failed ∧
      t.zmg.rewrite = s.zmg.rewrite ∧
      OnlyBlocks [9] s t)) ∧
  (∀ (n z p : Nat) (r : List Reread) (o : List Decoded) (d : Decoded) (w : Verdict × Nat × Nat) (s : State),
    n < 5 →
    climb n (zoneOf z s).phys (physIdx (isShingled (zoneOf z s)) p) (4 * budgetOf n s) s (planOf n s) 0 0 r = some w →
    s.zmg.failed.contains (sectorPlace z p s) = true →
    streamRuns n s = true →
    Gives (.deepRecovery n z p r o d) s (fun t =>
      (sectorPlace z p s) ∉ t.zmg.failed ∧
      OnlyBlocks [9] s t)) ∧
  (∀ (n : Nat) (c : Ctx) (m a k : Nat) (s : State),
    ctxOf n s = some c →
    c.started = true →
    tableWaits c.cmd.ns s = false →
    c.cmd.op = .read a k →
    waitsRecovery c s = true →
    get Reg.ZMG_RECOV_CFG.HOST_MS s ≤ m →
    Gives (.hostReadRecoveryTimeout n m) s (fun t =>
      ((c.cmd.port ≠ .fabric → t.sent = s.sent ++ [statusMsg c.cmd.port c.cmd.nexus c.cmd.tag .unrecoveredRead a])) ∧
      ctxOf n t = none ∧
      OnlyRegs [Reg.CMD_POOL_STAT.USED, Reg.CMD_EXEC_STAT.EXEC] s t ∧
      t = { s with regs := t.regs, cmd := t.cmd, fab := t.fab, sent := t.sent } ∧
      SameMem s t)) ∧
  (∀ (l : List (Nat × Nat)) (s : State),
    s.zmg.ati ≠ [] →
    Gives (.atiVerify l) s (fun t =>
      t.zmg.ati = s.zmg.ati.drop 1 ∧
      ((∀ q ∈ l, q ∈ t.zmg.failed)) ∧
      OnlyRegs [] s t ∧
      t = { s with zmg := t.zmg } ∧
      SameMem s t)) ∧
  (∀ (z : Nat) (l : List (Nat × Nat × Nat × Nat)) (b f : Bool) (s : State),
    b = true →
    f = false →
    zmgOn s = true →
    get Reg.ZMG_CTL.SCAN_EN s = 1 →
    get Reg.ZMG_SCAN_STAT.ZONE s = z →
    naturalGap (zoneAct z) s = true →
    scanDue s = true →
    Gives (.backgroundScan z l b f) s (fun t =>
      get Reg.ZMG_SCAN_STAT.ZONE t = (z + 1) % 2 ^ Reg.ZMG_SCAN_STAT.ZONE.width ∧
      OnlyRegs [Reg.ZMG_SCAN_STAT.ZONE] s t ∧
      t = { s with regs := t.regs, zmg := t.zmg } ∧
      SameMem s t)) ∧
  (∀ (z : Nat) (l : List (Nat × Nat × Nat × Nat)) (b f : Bool) (s : State),
    b = true →
    f = true →
    zmgOn s = true →
    get Reg.ZMG_CTL.SCAN_EN s = 1 →
    get Reg.ZMG_SCAN_STAT.ZONE s = z →
    naturalGap (zoneAct z) s = true →
    scanDue s = true →
    Gives (.backgroundScan z l b f) s (fun t =>
      get Reg.ZMG_SCAN_STAT.ZONE t = 0 ∧
      get Reg.ZMG_SCAN_STAT.PASSES t = (get Reg.ZMG_SCAN_STAT.PASSES s + 1) % 2 ^ Reg.ZMG_SCAN_STAT.PASSES.width ∧
      OnlyRegs [Reg.ZMG_SCAN_STAT.ZONE, Reg.ZMG_SCAN_STAT.PASSES] s t ∧
      t = { s with regs := t.regs, zmg := t.zmg, sys := t.sys, evr := t.evr, sent := t.sent, host := { s.host with msixPend := t.host.msixPend } } ∧
      SameMem s t)) ∧
  (∀ (z : Nat) (l : List (Nat × Nat × Nat × Nat)) (b f : Bool) (s : State),
    zmgOn s = true →
    get Reg.ZMG_CTL.SCAN_EN s = 1 →
    get Reg.ZMG_SCAN_STAT.ZONE s = z →
    naturalGap (zoneAct z) s = true →
    scanDue s = true →
    Gives (.backgroundScan z l b f) s (fun t =>
      (t.zmg.failed = s.zmg.failed ++ ((l.filter (fun r => scanned z r.1 s)).filter (fun r => r.2.1 == 2)).map (fun r => (z, r.1))) ∧
      (t.zmg.rewrite = s.zmg.rewrite ++ (((l.filter (fun r => scanned z r.1 s)).filter (fun r => r.2.1 == 1 && decide (get Reg.ZMG_RECOV_CFG.RELOC_STEP s ≤ r.2.2.1))).map (fun r => ((z, r.1), r.2.2.2)))) ∧
      ((b = false → t.regs = s.regs ∧ t.sent = s.sent)) ∧
      OnlyRegs [Reg.ZMG_SCAN_STAT.ZONE, Reg.ZMG_SCAN_STAT.PASSES] s t ∧
      t = { s with regs := t.regs, zmg := t.zmg, sys := t.sys, evr := t.evr, sent := t.sent, host := { s.host with msixPend := t.host.msixPend } } ∧
      SameMem s t)) ∧
  (∀ (l : List (List Decoded)) (s : State),
    s.zmg.lossAt.isSome = true →
    get Reg.SPN_STAT.LOCK s = 2 →
    Gives (.lossRewriteRecovery l) s (fun t =>
      t.zmg.lossAt = none ∧
      OnlyBlocks [9, 19] s t)) ∧
  (∀ (z q h u : Nat) (m l : List Decoded) (s : State),
    (zoneOf z s).recov = true →
    ((s.zmg.order.filter (fun k => (zoneOf k s).recov)).getLast? = some z) →
    get Reg.SYS_MODE.MEDIA_FAULT s = 0 →
    m.length = (zoneOf z s).media % 31 →
    scanWp (zoneOf z s).phys (zoneOf z s).stamp l (zoneOf z s).media % 31 = 0 →
    s.zmg.lossAt = none →
    Gives (.wpRecovery z m l q h u) s (fun t =>
      (zoneOf z t).recov = false ∧
      (zoneOf z t).media = scanWp (zoneOf z s).phys (zoneOf z s).stamp l (zoneOf z s).media % 2 ^ 32 ∧
      (h, u, 0, 399) ∈ t.zmg.ati ∧
      (zoneOf z t).group = scanWp (zoneOf z s).phys (zoneOf z s).stamp l (zoneOf z s).media % 31 ∧
      MemOutside (zoneAddr z s) 32 s t ∧
      OnlyBlocks [9, 13, 15, 19] s t)) ∧
  (∀ (z q h u : Nat) (m l : List Decoded) (s : State),
    (zoneOf z s).recov = true →
    ((s.zmg.order.filter (fun k => (zoneOf k s).recov)).getLast? = some z) →
    get Reg.SYS_MODE.MEDIA_FAULT s = 0 →
    m.length = (zoneOf z s).media % 31 →
    s.zmg.lossAt = none →
    ((zoneAddr z s + 32 ≤ q ∨ q + 4128 ≤ zoneAddr z s)) →
    Gives (.wpRecovery z m l q h u) s (fun t =>
      (zoneOf z t).recov = false ∧
      (zoneOf z t).media = scanWp (zoneOf z s).phys (zoneOf z s).stamp l (zoneOf z s).media % 2 ^ 32 ∧
      (h, u, 0, 399) ∈ t.zmg.ati ∧
      MemOutsides [(zoneAddr z s, 32), (q, 4128)] s t ∧
      OnlyBlocks [9, 13, 15, 19] s t)) ∧
  (∀ (m : Nat) (b : Bool) (s : State),
    get Reg.ZMG_STAT.CKPT_BUSY s ≠ 1 →
    zmgOn s = true →
    (b = true ∨ ckptMin s ≤ m ∨ 75 < journalFill s ∨ get Reg.ZMG_JRNL.CKPT s = 1) →
    Gives (.zmgCheckpoint m b) s (fun t =>
      get Reg.ZMG_JRNL.CKPT t = 0 ∧
      get Reg.ZMG_STAT.CKPT_BUSY t = 1 ∧
      OnlyRegs [Reg.ZMG_JRNL.CKPT, Reg.ZMG_STAT.CKPT_BUSY] s t ∧
      OnlyRegisters s t ∧
      SameMem s t)) ∧
  (∀ (m : Nat) (b : Bool) (s : State),
    get Reg.ZMG_STAT.CKPT_BUSY s = 1 →
    Gives (.zmgCheckpoint m b) s (fun t =>
      get Reg.ZMG_STAT.CKPT_BUSY t = 0 ∧
      t.zmg.tail = [] ∧
      t.zmg.saved = s.zmg.tail.foldl applyChange s.zmg.saved ∧
      journalFill t = 0 ∧
      OnlyRegs [Reg.ZMG_STAT.CKPT_BUSY] s t ∧
      t = { s with regs := t.regs, zmg := t.zmg } ∧
      SameMem s t)) ∧
  (∀ (k : Nat) (b : Bool) (s : State),
    k < 5 →
    s.zmg.rebuilding = none →
    Gives (.tableRebuild k b) s (fun t =>
      t.zmg.rebuilding = some k ∧
      get Reg.ZMG_STAT.REBUILDING t = 1 ∧
      OnlyRegs [Reg.ZMG_STAT.REBUILDING] s t ∧
      t = { s with regs := t.regs, zmg := t.zmg } ∧
      SameMem s t)) ∧
  (∀ (k : Nat) (b : Bool) (s : State),
    k < 5 →
    s.zmg.rebuilding = some k →
    b = false →
    Gives (.tableRebuild k b) s (fun t =>
      t.zmg.rebuilding = none ∧
      get Reg.ZMG_STAT.REBUILDING t = 0 ∧
      ((List.range 64).all (fun n => !(tableUsers k s).contains n || get (Reg.ZMG_NS_CFG.RO n) t == 1) = true) ∧
      OnlyBlocks [9] s t)) ∧
  (∀ (k : Nat) (b : Bool) (s : State),
    k < 5 →
    s.zmg.rebuilding = some k →
    b = true →
    Gives (.tableRebuild k b) s (fun t =>
      t.zmg.rebuilding = none ∧
      get Reg.ZMG_STAT.REBUILDING t = 0 ∧
      ((k ≤ 1 → t.zmg.remaps = s.zmg.remaps ∧ t.zmg.pend = s.zmg.pend)) ∧
      ((k = 2 → t.zmg.mc = (flushJournal s).zmg.saved.mc)) ∧
      ((k = 3 → t.zmg.remaps = (flushJournal s).zmg.saved.remaps)) ∧
      ((k = 4 → t.zmg.pend = (flushJournal s).zmg.saved.pend)) ∧
      ((2 ≤ k → t.mem = s.mem)) ∧
      OnlyRegs [Reg.ZMG_STAT.REBUILDING, Reg.ZMG_DM_STAT.FILL, Reg.ZMG_DM_STAT.NS, Reg.ZMG_PEND.COUNT] s t ∧
      t = { s with regs := t.regs, zmg := t.zmg, mem := t.mem }))

/-- The optical servo: mount, seek, park, clear, focus, tracking, jumps, seeks. Rests on R241, R242, R243, R244, R246, R247, R249,
R257, R258. Where it meets them it rests on choices of the model: log entries 58, 59, 69, 166, 250, 252, 283. -/
def Obligations.OpticalServoMountsSeeksAndParks : Prop :=
  (∀ (s : State),
    osvState s = 0 →
    Gives (.osvMount) s (fun t =>
      osvState t = 1 ∧
      t.osv.mounting = true ∧
      t.osv.target = none ∧
      get Reg.OSV_STAT.PARKED t = 0 ∧
      get Reg.OSV_STAT.LTBL t = 0 ∧
      get Reg.OSV_ADDR.VALID t = 0 ∧
      get Reg.OCH_NEXT.VALID t = 0 ∧
      get Reg.OCH_STAT.READY t = 0 ∧
      t.och.copies = [] ∧
      OnlyRegs [Reg.OSV_CMD.OP, Reg.OSV_CMD.GO, Reg.OSV_STAT.STATE, Reg.OSV_STAT.PARKED, Reg.OSV_STAT.LTBL, Reg.OSV_ADDR.VALID, Reg.OCH_NEXT.VALID, Reg.OCH_STAT.READY, Reg.OCH_DISC.VOIDS, Reg.CAL_DUE.DUE] s t ∧
      t = { s with regs := t.regs, osv := t.osv, och := t.och, cal := t.cal, sys := t.sys, evr := t.evr, sent := t.sent, host := { s.host with msixPend := t.host.msixPend } } ∧
      SameMem s t)) ∧
  (∀ (s : State),
    osvState s ≠ 0 →
    Gives (.osvMount) s (fun t =>
      get Reg.OSV_CMD.REFUSED t = 1 ∧
      OnlyRegs [Reg.OSV_CMD.OP, Reg.OSV_CMD.GO, Reg.OSV_CMD.REFUSED] s t ∧
      OnlyRegisters s t ∧
      SameMem s t)) ∧
  (∀ (s : State),
    seekRefused (get Reg.OSV_TARGET.LAYER s) (get Reg.OSV_TARGET.ADU s) s = true →
    Gives (.osvSeek) s (fun t =>
      get Reg.OSV_CMD.REFUSED t = 1 ∧
      OnlyRegs [Reg.OSV_CMD.OP, Reg.OSV_CMD.GO, Reg.OSV_CMD.REFUSED] s t ∧
      OnlyRegisters s t ∧
      SameMem s t)) ∧
  (∀ (s : State),
    seekRefused (get Reg.OSV_TARGET.LAYER s) (get Reg.OSV_TARGET.ADU s) s = false →
    (osvState s ≠ 5 ∨ s.osv.target.isSome = true) →
    Gives (.osvSeek) s (fun t =>
      get Reg.OSV_CMD.HELD t = 1 ∧
      t.osv.held = some (get Reg.OSV_TARGET.LAYER s, get Reg.OSV_TARGET.ADU s) ∧
      OnlyRegs [Reg.OSV_CMD.OP, Reg.OSV_CMD.GO, Reg.OSV_CMD.HELD] s t ∧
      t = { s with regs := t.regs, osv := t.osv } ∧
      SameMem s t)) ∧
  (∀ (s : State),
    osvState s = 5 →
    seekRefused (get Reg.OSV_TARGET.LAYER s) (get Reg.OSV_TARGET.ADU s) s = false →
    s.osv.target = none →
    get Reg.OCH_STAT.WRITING s = 0 →
    get Reg.OSV_TARGET.LAYER s = curLayer s →
    atTarget (get Reg.OSV_TARGET.ADU s) s = true →
    get Reg.OSV_STAT.PERMIT s ≤ 1 →
    Gives (.osvSeek) s (fun t =>
      osvState t = 5 ∧
      t.osv.target = none ∧
      get Reg.OSV_STAT.PERMIT t = 0 ∧
      OnlyRegs [Reg.OSV_CMD.OP, Reg.OSV_CMD.GO, Reg.OSV_STAT.PERMIT, Reg.OSV_CNT.WFALLS] s t ∧
      t = { s with regs := t.regs, osv := t.osv, sys := t.sys, evr := t.evr, sent := t.sent, host := { s.host with msixPend := t.host.msixPend } } ∧
      SameMem s t)) ∧
  (∀ (s : State),
    osvState s = 5 →
    seekRefused (get Reg.OSV_TARGET.LAYER s) (get Reg.OSV_TARGET.ADU s) s = false →
    s.osv.target = none →
    Gives (.osvSeek) s (fun t =>
      get Reg.OSV_CMD.GO t = 0 ∧
      get Reg.OSV_CMD.OP t = 2 ∧
      ((get Reg.OSV_STAT.PERMIT s ≤ 1 → get Reg.OSV_STAT.PERMIT t = 0)) ∧
      ((get Reg.OCH_STAT.WRITING s ≠ 1 → get Reg.OSV_TARGET.LAYER s ≠ curLayer s → osvState t = 6 ∧ t.osv.jumpTo = get Reg.OSV_TARGET.LAYER s ∧ t.osv.jumpFrom = curLayer s)) ∧
      ((get Reg.OCH_STAT.WRITING s ≠ 1 → get Reg.OSV_TARGET.LAYER s = curLayer s → atTarget (get Reg.OSV_TARGET.ADU s) s = false → osvState t = 7 ∧ get Reg.OSV_ADDR.VALID t = 0)) ∧
      ((get Reg.OCH_STAT.WRITING s = 1 → osvState t = 5 ∧ t.osv.waits = true)) ∧
      (get Reg.OCH_STAT.WRITING s ≠ 1 ∧ get Reg.OSV_TARGET.LAYER s = curLayer s ∧ atTarget (get Reg.OSV_TARGET.ADU s) s = true ∨ t.osv.target = some (get Reg.OSV_TARGET.LAYER s, get Reg.OSV_TARGET.ADU s)) ∧
      OnlyBlocks [10, 13] s t ∧
      SameMem s t)) ∧
  (∀ (s : State),
    1 ≤ osvState s →
    osvState s ≤ 8 →
    get Reg.OCH_STAT.WRITING s = 0 →
    get Reg.OSV_STAT.PERMIT s ≤ 1 →
    Gives (.osvPark) s (fun t =>
      osvState t = 9 ∧
      t.osv.parking = true ∧
      get Reg.OSV_STAT.PERMIT t = 0 ∧
      t.osv.target = none ∧
      get Reg.OSV_CMD.HELD t = 0 ∧
      OnlyBlocks [10, 13] s t ∧
      SameMem s t)) ∧
  (∀ (s : State),
    1 ≤ osvState s →
    osvState s ≤ 8 →
    get Reg.OCH_STAT.WRITING s = 1 →
    get Reg.OSV_STAT.PERMIT s ≤ 1 →
    Gives (.osvPark) s (fun t =>
      t.osv.parking = true ∧
      t.osv.waits = true ∧
      get Reg.OSV_STAT.PERMIT t = 0 ∧
      get Reg.OSV_CMD.HELD t = 0 ∧
      t.osv.held = none ∧
      get Reg.OSV_CMD.GO t = 0 ∧
      OnlyBlocks [10, 13] s t ∧
      SameMem s t)) ∧
  (∀ (s : State),
    osvState s = 9 →
    s.osv.parking = false →
    Gives (.osvPark) s (fun t =>
      osvState t = 9 ∧
      t.osv.parking = true ∧
      t.osv.spinAgain = false ∧
      t.osv.mounting = false ∧
      t.osv.target = none ∧
      t.osv.held = none ∧
      get Reg.OSV_CMD.HELD t = 0 ∧
      OnlyBlocks [10, 13] s t ∧
      SameMem s t)) ∧
  (∀ (s : State),
    (osvState s = 0 ∨ 9 < osvState s ∨ osvState s = 9 ∧ s.osv.parking = true) →
    Gives (.osvPark) s (fun t =>
      OnlyRegs [Reg.OSV_CMD.OP, Reg.OSV_CMD.GO] s t ∧
      OnlyRegisters s t ∧
      SameMem s t)) ∧
  (∀ (s : State),
    osvState s = 10 →
    Gives (.osvClr) s (fun t =>
      osvState t = 0 ∧
      OnlyRegs [Reg.OSV_CMD.OP, Reg.OSV_CMD.GO, Reg.OSV_STAT.STATE] s t ∧
      t = { s with regs := t.regs, osv := t.osv, sys := t.sys, evr := t.evr, sent := t.sent, host := { s.host with msixPend := t.host.msixPend } } ∧
      SameMem s t)) ∧
  (∀ (s : State),
    osvState s ≠ 10 →
    Gives (.osvClr) s (fun t =>
      OnlyRegs [Reg.OSV_CMD.OP, Reg.OSV_CMD.GO] s t ∧
      OnlyRegisters s t ∧
      SameMem s t)) ∧
  (∀ (p : Int) (s : State),
    (osvState s = 2 ∨ (osvState s = 8 ∧ s.osv.blind = false)) →
    s.osv.curve = some p →
    (128 * get Reg.OSV_FOCUS_CFG.SUM_MIN s : Nat) ≤ p →
    Gives (.sCurveCapture) s (fun t =>
      osvState t = 3 ∧
      ((osvState s = 2 → curLayer t = 0 ∧ t.osv.swept = true)) ∧
      t.osv.feRow = 0 ∧
      OnlyRegs [Reg.OSV_STAT.STATE, Reg.OSV_STAT.LAYER] s t ∧
      t = { s with regs := t.regs, osv := t.osv, evr := t.evr, host := { s.host with msixPend := t.host.msixPend } } ∧
      SameMem s t)) ∧
  (∀ (s : State),
    osvState s = 2 →
    get Reg.OSV_FOCUS_CFG.SWEEPS s ≤ s.osv.tempos / sweepTempos s →
    Gives (.sweepsExhausted) s (fun t =>
      osvState t = 10 ∧
      get Reg.OSV_FAULT.NOFOCUS t = 1 ∧
      OnlyRegs [Reg.OSV_STAT.STATE, Reg.OSV_FAULT.NOFOCUS, Reg.OSV_CMD.HELD] s t ∧
      t = { s with regs := t.regs, osv := t.osv, sys := t.sys, evr := t.evr, sent := t.sent, host := { s.host with msixPend := t.host.msixPend } } ∧
      SameMem s t)) ∧
  (∀ (s : State),
    osvState s = 3 →
    64 ≤ s.osv.feRow →
    Gives (.focusSettled) s (fun t =>
      osvState t = 4 ∧
      OnlyRegs [Reg.OSV_STAT.STATE] s t ∧
      t = { s with regs := t.regs, osv := t.osv, evr := t.evr, host := { s.host with msixPend := t.host.msixPend } } ∧
      SameMem s t)) ∧
  (∀ (s : State),
    osvState s = 4 →
    64 ≤ s.osv.teRow →
    2 ≤ s.osv.addrRow →
    s.osv.target = none →
    s.osv.held = none →
    Gives (.trackPulled) s (fun t =>
      osvState t = 5 ∧
      t.osv.mounting = false ∧
      t.osv.recovers = 0 ∧
      OnlyRegs [Reg.OSV_STAT.STATE] s t ∧
      t = { s with regs := t.regs, osv := t.osv, sys := t.sys, evr := t.evr, sent := t.sent, host := { s.host with msixPend := t.host.msixPend } } ∧
      SameMem s t)) ∧
  (∀ (q : Nat × Nat) (s : State),
    osvState s = 4 →
    64 ≤ s.osv.teRow →
    2 ≤ s.osv.addrRow →
    Gives (.trackPulled) s (fun t =>
      t.osv.mounting = false ∧
      t.osv.held = none ∧
      (t.osv.recovers = 0 ∨ osvState t = 8) ∧
      ((s.osv.held = none → s.osv.target = some q → q.1 = curLayer s → atTarget q.2 s = true → osvState t = 5 ∧ t.osv.target = none)) ∧
      ((s.osv.held = none → s.osv.target = some q → q.1 = curLayer s → atTarget q.2 s = false → osvState t = 7)) ∧
      ((s.osv.held = some q → t.osv.jumpTry ≤ 1)) ∧
      OnlyBlocks [10, 13] s t ∧
      SameMem s t)) ∧
  (∀ (s : State),
    osvState s = 6 →
    s.osv.crossed = jumpLayers s.osv →
    Gives (.layerJump) s (fun t =>
      osvState t = 3 ∧
      get Reg.OSV_STAT.LAYER t = s.osv.jumpTo % 2 ^ Reg.OSV_STAT.LAYER.width ∧
      OnlyRegs [Reg.OSV_STAT.STATE, Reg.OSV_STAT.LAYER] s t ∧
      t = { s with regs := t.regs, osv := t.osv, evr := t.evr, host := { s.host with msixPend := t.host.msixPend } } ∧
      SameMem s t)) ∧
  (∀ (s : State),
    osvState s = 6 →
    (jumpLayers s.osv : Int) < s.osv.crossed →
    Gives (.layerJump) s (fun t =>
      osvState t = 8 ∧
      get Reg.OSV_FAULT.JUMP t = 1 ∧
      t.osv.target = none ∧
      OnlyRegs [Reg.OSV_STAT.STATE, Reg.OSV_FAULT.JUMP] s t ∧
      t = { s with regs := t.regs, osv := t.osv, evr := t.evr, host := { s.host with msixPend := t.host.msixPend } } ∧
      SameMem s t)) ∧
  (∀ (s : State),
    osvState s = 6 →
    s.osv.crossed < jumpLayers s.osv →
    s.osv.brake = false →
    brakeDue s = true →
    Gives (.layerJump) s (fun t =>
      osvState t = 6 ∧
      t.osv.brake = true ∧
      t.osv.kick = 0 ∧
      OnlyRegs [] s t ∧
      t = { s with osv := t.osv } ∧
      SameMem s t)) ∧
  (∀ (q : Nat × Nat) (s : State),
    osvState s = 5 →
    s.osv.waits = false →
    s.osv.target = some q →
    q.1 ≠ curLayer s →
    s.osv.jumpTry < 2 →
    Gives (.layerJump) s (fun t =>
      osvState t = 6 ∧
      t.osv.jumpTo = q.1 ∧
      t.osv.crossed = 0 ∧
      t.osv.brake = false ∧
      OnlyBlocks [10, 13] s t ∧
      SameMem s t)) ∧
  (∀ (s : State),
    osvState s ≠ 5 →
    osvState s ≠ 6 →
    Gives (.layerJump) s (fun t =>
      t = s ∧
      OnlyRegs [] s t ∧
      SameMem s t)) ∧
  (∀ (s : State),
    osvState s = 6 →
    jumpTmo s ≤ s.osv.jumpTime →
    Gives (.layerJumpTimeout) s (fun t =>
      osvState t = 8 ∧
      get Reg.OSV_FAULT.JUMP t = 1 ∧
      t.osv.target = none ∧
      OnlyRegs [Reg.OSV_STAT.STATE, Reg.OSV_FAULT.JUMP] s t ∧
      t = { s with regs := t.regs, osv := t.osv, evr := t.evr, host := { s.host with msixPend := t.host.msixPend } } ∧
      SameMem s t)) ∧
  (∀ (q : Nat × Nat) (s : State),
    osvState s = 7 →
    2 ≤ s.osv.addrRow →
    groupIdle 2 s = true →
    s.osv.target = some q →
    atTarget q.2 s = false →
    s.osv.corr < get Reg.OSV_SEEK_CFG.CORR_MAX s →
    Gives (.trackSeekEnd) s (fun t =>
      osvState t = 7 ∧
      t.osv.corr = s.osv.corr + 1 ∧
      t.osv.addrRow = 0 ∧
      get Reg.OSV_ADDR.VALID t = 0 ∧
      OnlyRegs [Reg.OSV_ADDR.VALID] s t ∧
      t = { s with regs := t.regs, osv := t.osv } ∧
      SameMem s t)) ∧
  (∀ (q : Nat × Nat) (s : State),
    osvState s = 7 →
    2 ≤ s.osv.addrRow →
    groupIdle 2 s = true →
    s.osv.target = some q →
    atTarget q.2 s = false →
    get Reg.OSV_SEEK_CFG.CORR_MAX s ≤ s.osv.corr →
    s.osv.seekTry ≠ 0 →
    Gives (.trackSeekEnd) s (fun t =>
      osvState t = 8 ∧
      get Reg.OSV_FAULT.SEEK t = 1 ∧
      t.osv.target = none ∧
      OnlyRegs [Reg.OSV_STAT.STATE, Reg.OSV_FAULT.SEEK] s t ∧
      t = { s with regs := t.regs, osv := t.osv, sys := t.sys, evr := t.evr, sent := t.sent, host := { s.host with msixPend := t.host.msixPend } } ∧
      SameMem s t)) ∧
  (∀ (q : Nat × Nat) (s : State),
    osvState s = 7 →
    2 ≤ s.osv.addrRow →
    groupIdle 2 s = true →
    s.osv.target = some q →
    atTarget q.2 s = false →
    get Reg.OSV_SEEK_CFG.CORR_MAX s ≤ s.osv.corr →
    s.osv.seekTry = 0 →
    Gives (.trackSeekEnd) s (fun t =>
      osvState t = 4 ∧
      t.osv.seekTry = 1 ∧
      t.osv.corr = 0 ∧
      t.osv.target = s.osv.target ∧
      OnlyRegs [Reg.OSV_STAT.STATE] s t ∧
      t = { s with regs := t.regs, osv := t.osv, evr := t.evr, host := { s.host with msixPend := t.host.msixPend } } ∧
      SameMem s t)) ∧
  (∀ (q : Nat × Nat) (s : State),
    osvState s = 7 →
    2 ≤ s.osv.addrRow →
    groupIdle 2 s = true →
    s.osv.target = some q →
    q.1 = curLayer s →
    s.osv.held = none →
    atTarget q.2 s = true →
    Gives (.trackSeekEnd) s (fun t =>
      osvState t = 5 ∧
      t.osv.target = none ∧
      OnlyRegs [Reg.OSV_STAT.STATE] s t ∧
      t = { s with regs := t.regs, osv := t.osv, sys := t.sys, evr := t.evr, sent := t.sent, host := { s.host with msixPend := t.host.msixPend } } ∧
      SameMem s t)) ∧
  (∀ (s : State),
    osvState s = 9 →
    20 ≤ s.osv.zeroRow →
    groupIdle 2 s = true →
    microPos 3 s = 0 →
    s.osv.spinAgain = false →
    Gives (.parkingDone) s (fun t =>
      osvState t = 0 ∧
      get Reg.OSV_STAT.PARKED t = 1 ∧
      t.osv.parking = false ∧
      OnlyRegs [Reg.OSV_STAT.STATE, Reg.OSV_STAT.PARKED] s t ∧
      t = { s with regs := t.regs, osv := t.osv, sys := t.sys, evr := t.evr, sent := t.sent, host := { s.host with msixPend := t.host.msixPend } } ∧
      SameMem s t))

/-- The optical servo: frames, losses, wobble, addresses, the permit, the layer table. Rests on R235, R236, R240, R241, R245, R250,
R251, R252, R253. Where it meets them it rests on choices of the model: log entries 68, 166, 250, 251, 255. -/
def Obligations.OpticalServoFramesLossesAndAddresses : Prop :=
  (∀ (b : List Nat) (y : Int) (l : Bool) (s : State),
    get Reg.OLK_CTL.EN s = 1 →
    l = true →
    Gives (.servoFrame b y l) s (fun t =>
      get Reg.OLK_FRAMES.LATE t = (get Reg.OLK_FRAMES.LATE s + 1) % 2 ^ Reg.OLK_FRAMES.LATE.width ∧
      OnlyRegs [Reg.OLK_FRAMES.LATE, Reg.CE_STAT.LATE 3] s t ∧
      t = { s with regs := t.regs, olk := t.olk } ∧
      SameMem s t)) ∧
  (∀ (b : List Nat) (y : Int) (l : Bool) (s : State),
    get Reg.OLK_CTL.EN s = 1 →
    l = false →
    servoGood (servoBlocks b) = false →
    Gives (.servoFrame b y l) s (fun t =>
      get Reg.OLK_FRAMES.BAD t = (get Reg.OLK_FRAMES.BAD s + 1) % 2 ^ Reg.OLK_FRAMES.BAD.width ∧
      OnlyRegs [Reg.OLK_FRAMES.BAD] s t ∧
      t = { s with regs := t.regs, olk := t.olk } ∧
      SameMem s t)) ∧
  (∀ (b : List Nat) (y : Int) (l : Bool) (s : State),
    get Reg.OLK_CTL.EN s = 1 →
    l = false →
    servoGood (servoBlocks b) = true →
    Gives (.servoFrame b y l) s (fun t =>
      t.osv.missRow = 0 ∧
      t.osv.goodRow = s.osv.goodRow + 1 ∧
      t.osv.seen = true ∧
      t.olk.frame = some [(servoBlocks b).getD 0 0 / 256 % 256, (servoBlocks b).getD 17 0 / 256 % 2 ^ 24] ∧
      ((osvState s = 6 → s.osv.jumpFrom < s.osv.jumpTo → t.osv.crossed = s.osv.crossed + (lobes (servoSignal (servoBlocks b) 12) (servoSignal (servoBlocks b) 44) s).count)) ∧
      OnlyBlocks [10, 11] s t ∧
      SameMem s t)) ∧
  (∀ (s : State),
    3 ≤ s.osv.missRow →
    get Reg.OSV_FAULT.LINK s = 0 →
    s.osv.missRow < get Reg.OSV_FOCUS_CFG.BLIND_T s →
    get Reg.OSV_STAT.PERMIT s ≤ 1 →
    Gives (.servoFramesMissing) s (fun t =>
      get Reg.OSV_FAULT.LINK t = 1 ∧
      get Reg.OSV_STAT.PERMIT t = 0 ∧
      OnlyBlocks [10, 11] s t ∧
      SameMem s t)) ∧
  (∀ (s : State),
    3 ≤ s.osv.missRow →
    get Reg.OSV_FOCUS_CFG.BLIND_T s ≤ s.osv.missRow →
    2 ≤ osvState s →
    osvState s ≤ 8 →
    s.osv.blind = false →
    Gives (.servoFramesMissing) s (fun t =>
      osvState t = 8 ∧
      get Reg.OSV_FAULT.LINK t = 1 ∧
      t.osv.blind = true ∧
      ((get Reg.OSV_STAT.PERMIT s ≤ 1 → get Reg.OSV_STAT.PERMIT t = 0)) ∧
      OnlyBlocks [10, 11] s t ∧
      SameMem s t)) ∧
  (∀ (s : State),
    3 ≤ osvState s →
    osvState s ≤ 7 →
    (get Reg.OSV_FOCUS_CFG.LOSS_N s ≤ s.osv.sumLow ∨ get Reg.OSV_FOCUS_CFG.LOSS_N s ≤ s.osv.feHigh) →
    get Reg.OSV_STAT.PERMIT s ≤ 1 →
    Gives (.focusLoss) s (fun t =>
      osvState t = 8 ∧
      get Reg.OSV_FAULT.FOCUS t = 1 ∧
      get Reg.OSV_STAT.PERMIT t = 0 ∧
      t.osv.target = s.osv.target ∧
      OnlyBlocks [10, 11] s t ∧
      SameMem s t)) ∧
  (∀ (s : State),
    4 ≤ osvState s →
    osvState s ≤ 7 →
    (get Reg.OSV_FOCUS_CFG.LOSS_N s ≤ s.osv.teHigh ∨ 2 ≤ s.osv.addrOff) →
    get Reg.OSV_STAT.PERMIT s ≤ 1 →
    Gives (.trackingLoss) s (fun t =>
      osvState t = 4 ∧
      get Reg.OSV_FAULT.TRACK t = 1 ∧
      get Reg.OSV_STAT.PERMIT t = 0 ∧
      get Reg.OSV_CNT.LOSSES t = (get Reg.OSV_CNT.LOSSES s + 1) % 2 ^ Reg.OSV_CNT.LOSSES.width ∧
      OnlyBlocks [10, 11] s t ∧
      SameMem s t)) ∧
  (∀ (s : State),
    osvState s = 8 →
    3 ≤ s.osv.tempos / sweepTempos s →
    s.osv.blind = false →
    Gives (.recoverSearchFail) s (fun t =>
      ((s.osv.recovers = 0 → osvState t = 2 ∧ t.osv.recovers = 1)) ∧
      ((1 ≤ s.osv.recovers → osvState t = 10)) ∧
      OnlyRegs [Reg.OSV_STAT.STATE, Reg.OSV_CMD.HELD] s t ∧
      t = { s with regs := t.regs, osv := t.osv, sys := t.sys, evr := t.evr, sent := t.sent, host := { s.host with msixPend := t.host.msixPend } } ∧
      SameMem s t)) ∧
  (∀ (l : List Int) (s : State),
    get Reg.OSV_STAT.WOB_LOCK s = 0 →
    256 ≤ l.length →
    (l.all (fun e => wobbleIn e s) = true) →
    Gives (.wobbleLock l) s (fun t =>
      get Reg.OSV_STAT.WOB_LOCK t = 1 ∧
      OnlyRegs [Reg.OSV_STAT.WOB_LOCK] s t ∧
      OnlyRegisters s t ∧
      SameMem s t)) ∧
  (∀ (l : List Int) (s : State),
    get Reg.OSV_STAT.WOB_LOCK s = 1 →
    ((64 ≤ l.length ∧ l.all (fun e => !wobbleIn e s) = true) ∨ 4 ≤ s.osv.badRow) →
    get Reg.OSV_STAT.PERMIT s ≤ 1 →
    Gives (.wobbleUnlock l) s (fun t =>
      get Reg.OSV_STAT.WOB_LOCK t = 0 ∧
      get Reg.OSV_FAULT.WOBBLE t = 1 ∧
      get Reg.OSV_STAT.PERMIT t = 0 ∧
      OnlyRegs [Reg.OSV_STAT.WOB_LOCK, Reg.OSV_FAULT.WOBBLE, Reg.OSV_STAT.PERMIT, Reg.OSV_CNT.WFALLS] s t ∧
      t = { s with regs := t.regs, osv := t.osv, sys := t.sys, evr := t.evr, sent := t.sent, host := { s.host with msixPend := t.host.msixPend } } ∧
      SameMem s t)) ∧
  (∀ (w : Nat) (s : State),
    unitParity w = false →
    Gives (.addressUnitDecode w) s (fun t =>
      t.osv.badRow = s.osv.badRow + 1 ∧
      t.osv.addrRow = 0 ∧
      OnlyRegs [] s t ∧
      t = { s with osv := t.osv } ∧
      SameMem s t)) ∧
  (∀ (w : Nat) (s : State),
    unitParity w = true →
    get Reg.OSV_ADDR.VALID s = 0 →
    s.osv.addrRow = 0 →
    Gives (.addressUnitDecode w) s (fun t =>
      get Reg.OSV_ADDR.ADU t = w / 8 % 2 ^ 24 ∧
      get Reg.OSV_ADDR.LAYER t = w / 2 ^ 27 % 16 ∧
      get Reg.OSV_ADDR.VALID t = 1 ∧
      curLayer t = w / 2 ^ 27 % 16 ∧
      t.osv.addrRow = s.osv.addrRow + 1 ∧
      t.osv.addrOff = 0 ∧
      t.osv.badRow = 0 ∧
      OnlyRegs [Reg.OSV_ADDR.ADU, Reg.OSV_ADDR.LAYER, Reg.OSV_ADDR.VALID, Reg.OSV_STAT.LAYER] s t ∧
      t = { s with regs := t.regs, osv := t.osv, evr := t.evr, host := { s.host with msixPend := t.host.msixPend } } ∧
      SameMem s t)) ∧
  (∀ (w : Nat) (s : State),
    unitParity w = true →
    Gives (.addressUnitDecode w) s (fun t =>
      ((((w / 8 % 2 ^ 24 : Nat) : Int) - (predictedAdu s : Int)).natAbs ≤ 2 → get Reg.OSV_ADDR.ADU t = w / 8 % 2 ^ 24 ∧ get Reg.OSV_ADDR.VALID t = 1 ∧ t.osv.addrRow = s.osv.addrRow + 1) ∧
      ((2 < (((w / 8 % 2 ^ 24 : Nat) : Int) - (predictedAdu s : Int)).natAbs → get Reg.OSV_ADDR.VALID s = 1 → osvState s ≠ 4 → get Reg.OSV_ADDR.ADU t = get Reg.OSV_ADDR.ADU s ∧ t.osv.addrRow = 0 ∧ t.osv.addrOff = s.osv.addrOff + 1)) ∧
      t.osv.badRow = 0 ∧
      OnlyRegs [Reg.OSV_ADDR.ADU, Reg.OSV_ADDR.LAYER, Reg.OSV_ADDR.VALID, Reg.OSV_STAT.LAYER] s t ∧
      t = { s with regs := t.regs, osv := t.osv, evr := t.evr, host := { s.host with msixPend := t.host.msixPend } } ∧
      SameMem s t)) ∧
  (∀ (s : State),
    get Reg.OSV_STAT.PERMIT s = 0 →
    opticalHolds s = true →
    ((if s.osv.fell then get Reg.OSV_WR_CFG.REQUAL s else 1) ≤ s.osv.permRow) →
    Gives (.opticalPermitRise) s (fun t =>
      get Reg.OSV_STAT.PERMIT t = 1 ∧
      t.osv.fell = false ∧
      OnlyRegs [Reg.OSV_STAT.PERMIT] s t ∧
      t = { s with regs := t.regs, osv := t.osv } ∧
      SameMem s t)) ∧
  (∀ (b : Bool) (l : List (List Nat)) (s : State),
    osvState s = 5 →
    get Reg.OSV_STAT.LTBL s = 0 →
    layerCount s ≤ l.length →
    l.length ≤ 16 →
    l ≠ [] →
    Gives (.layerTableFill b l) s (fun t =>
      get Reg.OSV_STAT.LTBL t = 1 ∧
      (t.och.record = (if b then [] else l)) ∧
      (layerNat 0 15 1 t = (if b then 3 else 1)) ∧
      MemOutside (layerAddr 0 s) (32 * l.length) s t ∧
      OnlyRegs [Reg.OSV_STAT.LTBL] s t ∧
      t = { s with regs := t.regs, och := t.och, mem := t.mem }))

/-- The disc spindle: start, stop, transitions, failed starts, retries, target. Rests on R254, R255, R258. Where it meets them it
rests on choices of the model: log entries 69, 167. -/
def Obligations.DiscSpindleTransitions : Prop :=
  (∀ (s : State),
    osvState s = 1 →
    (s.osv.disc.target = 0 ∨ discState s = 0 ∨ discState s = 13) →
    get Reg.OSV_DSPIN.TARGET s ≠ 0 →
    (discState s = 0 ∨ discState s = 13) →
    Gives (.discStartCommand) s (fun t =>
      discState t = 1 ∧
      t.osv.disc.target = get Reg.OSV_DSPIN.TARGET s ∧
      OnlyRegs [Reg.OSV_DSTAT.STATE] s t ∧
      t = { s with regs := t.regs, osv := t.osv } ∧
      SameMem s t)) ∧
  (∀ (s : State),
    osvState s = 1 →
    (s.osv.disc.target = 0 ∨ discState s = 0 ∨ discState s = 13) →
    get Reg.OSV_DSPIN.TARGET s ≠ 0 →
    discState s = 9 →
    Gives (.discStartCommand) s (fun t =>
      discState t = 6 ∧
      t.osv.disc.target = get Reg.OSV_DSPIN.TARGET s ∧
      OnlyRegs [Reg.OSV_DSTAT.STATE] s t ∧
      t = { s with regs := t.regs, osv := t.osv } ∧
      SameMem s t)) ∧
  (∀ (s : State),
    osvState s = 1 →
    (s.osv.disc.target = 0 ∨ discState s = 0 ∨ discState s = 13) →
    get Reg.OSV_DSPIN.TARGET s ≠ 0 →
    Gives (.discStartCommand) s (fun t =>
      t.osv.disc.target = get Reg.OSV_DSPIN.TARGET s ∧
      ((discState s = 7 → osvState t = 2 ∧ discState t = 7)) ∧
      ((discState s ≠ 7 → osvState t = 1)) ∧
      ((discState s ≠ 0 → discState s ≠ 13 → discState s ≠ 9 → discState t = discState s)) ∧
      OnlyRegs [Reg.OSV_DSTAT.STATE, Reg.OSV_STAT.STATE] s t ∧
      t = { s with regs := t.regs, osv := t.osv, evr := t.evr, host := { s.host with msixPend := t.host.msixPend } } ∧
      SameMem s t)) ∧
  (∀ (s : State),
    (osvState s = 9 ∧ s.osv.parking = true ∨ osvState s = 0) →
    3 ≤ discState s →
    discState s ≤ 5 →
    Gives (.discStopCommand) s (fun t =>
      discState t = 10 ∧
      t.osv.disc.target = 0 ∧
      OnlyRegs [Reg.OSV_DSTAT.STATE] s t ∧
      t = { s with regs := t.regs, osv := t.osv } ∧
      SameMem s t)) ∧
  (∀ (s : State),
    (osvState s = 9 ∧ s.osv.parking = true ∨ osvState s = 0) →
    (discState s = 6 ∨ discState s = 7) →
    Gives (.discStopCommand) s (fun t =>
      discState t = 9 ∧
      t.osv.disc.target = 0 ∧
      OnlyBlocks [10, 11] s t ∧
      SameMem s t)) ∧
  (∀ (s : State),
    (osvState s = 9 ∧ s.osv.parking = true ∨ osvState s = 0) →
    s.osv.disc.target ≠ 0 →
    (discState s < 3 ∨ 7 < discState s) →
    Gives (.discStopCommand) s (fun t =>
      t.osv.disc.target = 0 ∧
      discState t = discState s ∧
      OnlyRegs [] s t ∧
      t = { s with osv := t.osv } ∧
      SameMem s t)) ∧
  (∀ (k : Nat) (s : State),
    discNext s = some k →
    Gives (.discSpindleTransition) s (fun t =>
      discState t = k ∧
      ((discState s = 8 → t.osv.disc.angle = s.osv.disc.reAngles.headD 0)) ∧
      t.osv.disc.tempos = 0 ∧
      ((discState s = 1 → get Reg.OSV_DSTAT.REVERSE t = b2n s.osv.disc.backward)) ∧
      ((k = 7 → osvState s = 1 → osvState t = 2)) ∧
      (((discState s = 6 ∨ discState s = 7) → k = 8 → osvState t = osvState s)) ∧
      OnlyBlocks [10, 11] s t ∧
      SameMem s t)) ∧
  (∀ (s : State),
    discNext s = none →
    Gives (.discSpindleTransition) s (fun t =>
      t = s ∧
      OnlyRegs [] s t ∧
      SameMem s t)) ∧
  (∀ (s : State),
    discState s = 6 →
    s.osv.disc.bandRow < 20000 →
    s.osv.disc.startAt + 2000000 ≤ tmpCount s →
    Gives (.discStartFail) s (fun t =>
      ((get Reg.OSV_DSTAT.ATTEMPTS s < 3 → t.osv.disc.retry = true ∧ discState t = 9)) ∧
      ((3 ≤ get Reg.OSV_DSTAT.ATTEMPTS s → t.osv.disc.retry = false ∧ discState t = 12)) ∧
      OnlyBlocks [10, 11] s t ∧
      SameMem s t)) ∧
  (∀ (s : State),
    (discState s = 8 ∧ discBack s = false ∧ s.osv.disc.lossAt + 4000 ≤ tmpCount s ∨ discState s = 5 ∧ s.osv.disc.agreeRow < 64 ∧ 3 * 200000 * get Reg.OSV_DRAMP.HANDOVER s ≤ 2 * s.osv.disc.openV ∨ (discState s = 4 ∧ discNext s = none ∨ discState s = 5) ∧ turnsBack s = true) →
    Gives (.discStartFail) s (fun t =>
      ((get Reg.OSV_DSTAT.ATTEMPTS s < 3 → t.osv.disc.retry = true ∧ discState t = 10)) ∧
      ((3 ≤ get Reg.OSV_DSTAT.ATTEMPTS s → t.osv.disc.retry = false ∧ discState t = 12)) ∧
      OnlyBlocks [10, 11] s t ∧
      SameMem s t)) ∧
  (∀ (s : State),
    (discState s < 4 ∨ discState s = 7 ∨ 8 < discState s) →
    Gives (.discStartFail) s (fun t =>
      t = s ∧
      OnlyRegs [] s t ∧
      SameMem s t)) ∧
  (∀ (s : State),
    discState s = 11 →
    100000 ≤ s.osv.disc.tempos →
    Gives (.discRetryWaitEnd) s (fun t =>
      discState t = 1 ∧
      get Reg.OSV_DSTAT.ATTEMPTS t = min (get Reg.OSV_DSTAT.ATTEMPTS s + 1) (2 ^ Reg.OSV_DSTAT.ATTEMPTS.width - 1) ∧
      t.osv.disc.retry = false ∧
      t.osv.disc.vector = (s.osv.disc.vector + 1) % 3 ∧
      OnlyRegs [Reg.OSV_DSTAT.STATE, Reg.OSV_DSTAT.ATTEMPTS] s t ∧
      t = { s with regs := t.regs, osv := t.osv } ∧
      SameMem s t)) ∧
  (∀ (s : State),
    discState s = 12 →
    Gives (.discClr) s (fun t =>
      discState t = 0 ∧
      get Reg.OSV_DSTAT.ATTEMPTS t = 0 ∧
      OnlyRegs [Reg.OSV_DSTAT.STATE, Reg.OSV_DSTAT.ATTEMPTS] s t ∧
      t = { s with regs := t.regs, osv := t.osv } ∧
      SameMem s t)) ∧
  (∀ (s : State),
    discState s ≠ 12 →
    Gives (.discClr) s (fun t =>
      get Reg.OSV_DSTAT.ATTEMPTS t = 0 ∧
      OnlyRegs [Reg.OSV_DSTAT.ATTEMPTS] s t ∧
      OnlyRegisters s t ∧
      SameMem s t)) ∧
  (∀ (v : Nat) (s : State),
    Gives (.discTargetWrite v) s (fun t =>
      (get Reg.OSV_DSPIN.TARGET t = (if 1000 ≤ v % 2 ^ 14 ∧ v % 2 ^ 14 ≤ 12000 then v % 2 ^ 14 else get Reg.OSV_DSPIN.TARGET s)) ∧
      OnlyRegs [Reg.OSV_DSPIN.TARGET] s t ∧
      t = { s with regs := t.regs, evr := t.evr, host := { s.host with msixPend := t.host.msixPend } } ∧
      SameMem s t)) ∧
  (∀ (s : State),
    discState s = 7 →
    2000000 ≤ s.osv.disc.tempos →
    Gives (.discAttemptsClear) s (fun t =>
      get Reg.OSV_DSTAT.ATTEMPTS t = 0 ∧
      OnlyRegs [Reg.OSV_DSTAT.ATTEMPTS] s t ∧
      OnlyRegisters s t ∧
      SameMem s t))

/-- The optical channel: commands, cluster reads, the retry ladder and verify. Rests on R271, R272, R274, R275, R276, R277, R278,
R279, R285, R287. Where it meets them it rests on choices of the model: log entries 61, 62, 67, 258. -/
def Obligations.OpticalClustersAreReadAndVerified : Prop :=
  (∀ (s : State),
    s.och.queue.length < 3 →
    get Reg.OCH_STAT.READY s = 1 →
    get Reg.OCH_CMD.SLOT s < 3 →
    Gives (.ochRead none) s (fun t =>
      (⟨1, get Reg.OCH_CMD.SLOT s, get Reg.OCH_ADDR.LAYER s, get Reg.OCH_ADDR.CLUSTER s, .command⟩ ∈ t.och.queue ∨ t.och.job = some ⟨1, get Reg.OCH_CMD.SLOT s, get Reg.OCH_ADDR.LAYER s, get Reg.OCH_ADDR.CLUSTER s, .command⟩) ∧
      get Reg.OCH_CMD.GO t = 0 ∧
      get Reg.OCH_CMD.REFUSED t = get Reg.OCH_CMD.REFUSED s ∧
      ((s.och.job.isSome = true → t.och.job = s.och.job)) ∧
      MemOutside 0x283C0000 199680 s t ∧
      OnlyBlocks [11] s t)) ∧
  (∀ (s : State),
    s.och.queue.length < 3 →
    get Reg.OCH_STAT.READY s = 1 →
    get Reg.OCH_CMD.SLOT s < 3 →
    Gives (.ochVerify none) s (fun t =>
      (⟨3, get Reg.OCH_CMD.SLOT s, get Reg.OCH_ADDR.LAYER s, get Reg.OCH_ADDR.CLUSTER s, .command⟩ ∈ t.och.queue ∨ t.och.job = some ⟨3, get Reg.OCH_CMD.SLOT s, get Reg.OCH_ADDR.LAYER s, get Reg.OCH_ADDR.CLUSTER s, .command⟩) ∧
      get Reg.OCH_CMD.GO t = 0 ∧
      get Reg.OCH_CMD.REFUSED t = get Reg.OCH_CMD.REFUSED s ∧
      ((s.och.job.isSome = true → t.och.job = s.och.job)) ∧
      MemOutside 0x283C0000 199680 s t ∧
      OnlyBlocks [11] s t)) ∧
  (∀ (s : State),
    (3 ≤ s.och.queue.length ∨ get Reg.OCH_STAT.READY s = 0 ∨ 3 ≤ get Reg.OCH_CMD.SLOT s) →
    Gives (.ochRead none) s (fun t =>
      get Reg.OCH_CMD.REFUSED t = 1 ∧
      OnlyRegs [Reg.OCH_CMD.OP, Reg.OCH_CMD.GO, Reg.OCH_CMD.REFUSED] s t ∧
      OnlyRegisters s t ∧
      SameMem s t)) ∧
  (∀ (s : State),
    s.och.queue.length < 3 →
    get Reg.OCH_STAT.READY s = 1 →
    get Reg.OCH_CMD.SLOT s < 3 →
    s.och.job.isSome = true →
    Gives (.ochRead none) s (fun t =>
      t.och.queue = s.och.queue ++ [⟨1, get Reg.OCH_CMD.SLOT s, get Reg.OCH_ADDR.LAYER s, get Reg.OCH_ADDR.CLUSTER s, .command⟩] ∧
      get Reg.OCH_STAT.QUEUED t = s.och.queue.length + 1 ∧
      OnlyRegs [Reg.OCH_CMD.OP, Reg.OCH_CMD.GO, Reg.OCH_STAT.QUEUED] s t ∧
      t = { s with regs := t.regs, och := t.och } ∧
      SameMem s t)) ∧
  (∀ (s : State),
    s.och.queue.length < 3 →
    get Reg.OCH_STAT.READY s = 1 →
    get Reg.OCH_CMD.SLOT s < 3 →
    s.och.job = none →
    s.och.queue = [] →
    get Reg.OCH_CTL.EN s = 1 →
    Gives (.ochRead none) s (fun t =>
      t.och.job = some ⟨1, get Reg.OCH_CMD.SLOT s, get Reg.OCH_ADDR.LAYER s, get Reg.OCH_ADDR.CLUSTER s, .command⟩ ∧
      t.och.queue = [] ∧
      get Reg.OCH_STAT.STATE t = 1 ∧
      OnlyRegs [Reg.OCH_CMD.OP, Reg.OCH_CMD.GO, Reg.OCH_STAT.QUEUED, Reg.OCH_STAT.STATE, Reg.OCH_STAT.WRITING] s t ∧
      t = { s with regs := t.regs, och := t.och } ∧
      SameMem s t)) ∧
  (∀ (s : State),
    (3 ≤ s.och.queue.length ∨ get Reg.OCH_STAT.READY s = 0 ∨ 3 ≤ get Reg.OCH_CMD.SLOT s) →
    Gives (.ochVerify none) s (fun t =>
      get Reg.OCH_CMD.REFUSED t = 1 ∧
      OnlyRegs [Reg.OCH_CMD.OP, Reg.OCH_CMD.GO, Reg.OCH_CMD.REFUSED] s t ∧
      OnlyRegisters s t ∧
      SameMem s t)) ∧
  (∀ (s : State),
    s.och.queue.length < 3 →
    get Reg.OCH_STAT.READY s = 1 →
    get Reg.OCH_CMD.SLOT s < 3 →
    s.och.job.isSome = true →
    Gives (.ochVerify none) s (fun t =>
      t.och.queue = s.och.queue ++ [⟨3, get Reg.OCH_CMD.SLOT s, get Reg.OCH_ADDR.LAYER s, get Reg.OCH_ADDR.CLUSTER s, .command⟩] ∧
      get Reg.OCH_STAT.QUEUED t = s.och.queue.length + 1 ∧
      OnlyRegs [Reg.OCH_CMD.OP, Reg.OCH_CMD.GO, Reg.OCH_STAT.QUEUED] s t ∧
      t = { s with regs := t.regs, och := t.och } ∧
      SameMem s t)) ∧
  (∀ (s : State),
    s.och.queue.length < 3 →
    get Reg.OCH_STAT.READY s = 1 →
    get Reg.OCH_CMD.SLOT s < 3 →
    s.och.job = none →
    s.och.queue = [] →
    get Reg.OCH_CTL.EN s = 1 →
    Gives (.ochVerify none) s (fun t =>
      t.och.job = some ⟨3, get Reg.OCH_CMD.SLOT s, get Reg.OCH_ADDR.LAYER s, get Reg.OCH_ADDR.CLUSTER s, .command⟩ ∧
      t.och.queue = [] ∧
      get Reg.OCH_STAT.STATE t = 3 ∧
      OnlyRegs [Reg.OCH_CMD.OP, Reg.OCH_CMD.GO, Reg.OCH_STAT.QUEUED, Reg.OCH_STAT.STATE, Reg.OCH_STAT.WRITING] s t ∧
      t = { s with regs := t.regs, och := t.och } ∧
      SameMem s t)) ∧
  (∀ (o : ClusterRead) (d : Nat) (j : OchJob) (s : State),
    s.och.job = some j →
    j.op = 1 →
    j.slot < 3 →
    s.och.kept = [] →
    Gives (.ochRead (some o)) s (fun t =>
      ((decodedStream (eraseEn s) (readCluster false o s).1 s = none → t.och.kept = (readCluster false o s).1 ∧ t.och.job = some j ∧ t.mem = s.mem)) ∧
      ((decodedStream (eraseEn s) (readCluster false o s).1 s = some d → streamAddr d = addrOf j.layer j.cluster → (j.use = .command → get (Reg.OCH_RESULT.CODE j.slot) t = 0 ∧ get (Reg.OCH_RESULT.DONE j.slot) t = 1) ∧ (s.och.queue = [] → memRead (ochSlot j.slot) 66560 t = bytesOf 66560 d) ∧ (s.och.queue = [] → t.och.job = none ∧ get Reg.OCH_STAT.STATE t = 0))) ∧
      ((decodedStream (eraseEn s) (readCluster false o s).1 s = some d → streamAddr d ≠ addrOf j.layer j.cluster → (j.use = .command → get (Reg.OCH_RESULT.CODE j.slot) t = 4 ∧ get (Reg.OCH_RESULT.DONE j.slot) t = 1) ∧ (s.och.queue = [] → t.och.job = none ∧ get Reg.OCH_STAT.STATE t = 0))) ∧
      ((j.use = .command → get (Reg.OCH_RESULT.ER_EVEN j.slot) t = (erasedIn (get Reg.OCH_ECC_CFG.SUSPECT s) 0 (readCluster false o s).1).length % 256 ∧ get (Reg.OCH_RESULT.ER_ODD j.slot) t = (erasedIn (get Reg.OCH_ECC_CFG.SUSPECT s) 1 (readCluster false o s).1).length % 256 ∧ get (Reg.OCH_RESULT.MAX_FIX j.slot) t = min 63 (mostFixes (readCluster false o s).1))) ∧
      ((s.och.noSync = true → t.och.noSync = true)) ∧
      MemOutside 0x283C0000 199680 s t ∧
      OnlyBlocks [11] s t)) ∧
  (∀ (reads : List ClusterRead) (d : Nat) (j : OchJob) (s : State),
    s.och.job = some j →
    j.op = 1 →
    j.slot < 3 →
    s.och.kept ≠ [] →
    (get Reg.OCH_ECC_CFG.RETRIES s ≤ reads.length ∨ (rereads false s.och.kept (reads.take (get Reg.OCH_ECC_CFG.RETRIES s)) s).1.1.isSome = true) →
    Gives (.clusterRetryLadder reads) s (fun t =>
      (((ladderResult (reads.take (get Reg.OCH_ECC_CFG.RETRIES s)) s).1.1 = some d → streamAddr d = addrOf j.layer j.cluster → (j.use = .command → get (Reg.OCH_RESULT.CODE j.slot) t = 1 ∧ get (Reg.OCH_RESULT.DONE j.slot) t = 1) ∧ (s.och.queue = [] → memRead (ochSlot j.slot) 66560 t = bytesOf 66560 d) ∧ (s.och.queue = [] → t.och.job = none ∧ get Reg.OCH_STAT.STATE t = 0) ∧ get Reg.OCH_CNT.RECOVERED t = (get Reg.OCH_CNT.RECOVERED s + 1) % 2 ^ Reg.OCH_CNT.RECOVERED.width)) ∧
      (((ladderResult (reads.take (get Reg.OCH_ECC_CFG.RETRIES s)) s).1.1 = some d → streamAddr d ≠ addrOf j.layer j.cluster → (j.use = .command → get (Reg.OCH_RESULT.CODE j.slot) t = 4 ∧ get (Reg.OCH_RESULT.DONE j.slot) t = 1) ∧ (s.och.queue = [] → t.och.job = none ∧ get Reg.OCH_STAT.STATE t = 0))) ∧
      (((ladderResult (reads.take (get Reg.OCH_ECC_CFG.RETRIES s)) s).1.1 = none → (j.use = .command → get (Reg.OCH_RESULT.CODE j.slot) t = 2 ∧ get (Reg.OCH_RESULT.DONE j.slot) t = 1) ∧ (s.och.queue = [] → t.och.job = none ∧ get Reg.OCH_STAT.STATE t = 0) ∧ get Reg.OCH_CNT.FAILED t = (get Reg.OCH_CNT.FAILED s + 1) % 2 ^ Reg.OCH_CNT.FAILED.width)) ∧
      ((j.use = .command → get (Reg.OCH_RESULT.ER_EVEN j.slot) t = (erasedIn (get Reg.OCH_ECC_CFG.SUSPECT s) 0 (ladderResult (reads.take (get Reg.OCH_ECC_CFG.RETRIES s)) s).1.2).length % 256 ∧ get (Reg.OCH_RESULT.ER_ODD j.slot) t = (erasedIn (get Reg.OCH_ECC_CFG.SUSPECT s) 1 (ladderResult (reads.take (get Reg.OCH_ECC_CFG.RETRIES s)) s).1.2).length % 256 ∧ get (Reg.OCH_RESULT.MAX_FIX j.slot) t = min 63 (mostFixes (ladderResult (reads.take (get Reg.OCH_ECC_CFG.RETRIES s)) s).1.2))) ∧
      MemOutside 0x283C0000 199680 s t ∧
      OnlyBlocks [11] s t)) ∧
  (∀ (o : ClusterRead) (u : ClusterUse) (j : OchJob) (s : State),
    s.och.job = some j →
    j.op = 3 →
    j.slot < 3 →
    Gives (.ochVerify (some o)) s (fun t =>
      ((j.use = .command → get (Reg.OCH_RESULT.CODE j.slot) t = verdictOf j.layer j.cluster (verifyRows (readCluster false o s).1 s) ∧ get (Reg.OCH_RESULT.DONE j.slot) t = 1)) ∧
      ((j.use = .command → verdictOf j.layer j.cluster (verifyRows (readCluster false o s).1 s) = 2 → get Reg.OCH_CNT.FAILED t = (get Reg.OCH_CNT.FAILED s + 1) % 2 ^ Reg.OCH_CNT.FAILED.width)) ∧
      ((s.och.queue = [] → t.och.job = none ∧ get Reg.OCH_STAT.STATE t = 0)) ∧
      ((j.use = .command → get (Reg.OCH_RESULT.ER_EVEN j.slot) t = (erasedIn (get Reg.OCH_ECC_CFG.SUSPECT s) 0 (readCluster false o s).1).length % 256 ∧ get (Reg.OCH_RESULT.ER_ODD j.slot) t = (erasedIn (get Reg.OCH_ECC_CFG.SUSPECT s) 1 (readCluster false o s).1).length % 256 ∧ get (Reg.OCH_RESULT.MAX_FIX j.slot) t = min 63 (mostFixes (readCluster false o s).1))) ∧
      ((j.use = .recheck u → verdictOf j.layer j.cluster (verifyRows (readCluster false o s).1 s) ≠ 0 → { j with op := 2, use := u } ∈ t.och.voided)) ∧
      MemOutside 0x283C0000 199680 s t ∧
      OnlyBlocks [11] s t)) ∧
  (∀ (s : State),
    s.och.noSync = true →
    Gives (.syncLost) s (fun t =>
      get Reg.OCH_STAT.SYNC_LOST t = 1 ∧
      t.och.noSync = false ∧
      OnlyRegs [Reg.OCH_STAT.SYNC_LOST] s t ∧
      t = { s with regs := t.regs, och := t.och, sys := t.sys, evr := t.evr, sent := t.sent, host := { s.host with msixPend := t.host.msixPend } } ∧
      SameMem s t)) ∧
  (∀ (z i a d : Nat) (c : ZoneCopy) (o : ClusterRead) (s : State),
    (s.och.copies.find? (fun c => c.zone == z) = some c) →
    copyAddr c i s = some a →
    get Reg.OCH_STAT.READY s = 1 →
    get Reg.OCH_STAT.WRITING s = 0 →
    Gives (.opticalRecoveryRead z i o) s (fun t =>
      ((decodedStream (eraseEn s) (readCluster false o s).1 s = none → t.och.badCopy = true ∧ t.och.found = s.och.found ∧ get Reg.OCH_CNT.FAILED t = (get Reg.OCH_CNT.FAILED s + 1) % 2 ^ Reg.OCH_CNT.FAILED.width)) ∧
      ((decodedStream (eraseEn s) (readCluster false o s).1 s = some d → streamAddr d = a → streamZone d = z → streamIdx d = i → t.och.found = some (z, i, d) ∧ t.sent = s.sent)) ∧
      ((decodedStream (eraseEn s) (readCluster false o s).1 s = some d → streamAddr d ≠ a ∨ streamZone d ≠ z ∨ streamIdx d ≠ i → t.och.found = s.och.found ∧ t.och.badCopy = s.och.badCopy)) ∧
      OnlyRegs [Reg.OCH_CNT.FAILED] s t ∧
      t = { s with regs := t.regs, och := t.och, sys := t.sys, evr := t.evr, sent := t.sent, host := { s.host with msixPend := t.host.msixPend } } ∧
      SameMem s t))

/-- The optical channel: writes, power calibration, voids, zone copies, the disc. Rests on R261, R263, R264, R280, R281, R282, R283,
R284, R285, R286, R288. Where it meets them it rests on choices of the model: log entries 57, 58, 61, 63, 64, 65, 66, 259, 260,
261. -/
def Obligations.OpticalWritesCopiesAndMounts : Prop :=
  (∀ (s : State),
    s.och.queue.length < 3 →
    get Reg.OCH_STAT.READY s = 1 →
    get Reg.OCH_CMD.SLOT s < 3 →
    Gives (.ochWrite false) s (fun t =>
      (⟨2, get Reg.OCH_CMD.SLOT s, get Reg.OCH_ADDR.LAYER s, get Reg.OCH_ADDR.CLUSTER s, .command⟩ ∈ t.och.queue ∨ t.och.job = some ⟨2, get Reg.OCH_CMD.SLOT s, get Reg.OCH_ADDR.LAYER s, get Reg.OCH_ADDR.CLUSTER s, .command⟩) ∧
      get Reg.OCH_CMD.GO t = 0 ∧
      get Reg.OCH_CMD.REFUSED t = get Reg.OCH_CMD.REFUSED s ∧
      ((s.och.job.isSome = true → t.och.job = s.och.job)) ∧
      MemOutside 0x283C0000 199680 s t ∧
      ((s.och.job = none → s.och.queue = [] → get Reg.OSV_STAT.PERMIT s = 1 → get Reg.OCH_CTL.EN s = 1 → s.och.opc.contains (get Reg.OCH_ADDR.LAYER s) = false → t.och.job = some ⟨4, 0, get Reg.OCH_ADDR.LAYER s, 0, .calibrate⟩)) ∧
      ((s.och.job = none → s.och.queue = [] → get Reg.OSV_STAT.PERMIT s = 0 → t.och.job = none)) ∧
      OnlyBlocks [11] s t)) ∧
  (∀ (s : State),
    s.och.queue.length < 3 →
    get Reg.OCH_STAT.READY s = 1 →
    get Reg.OCH_CMD.SLOT s < 3 →
    Gives (.ochOpc none) s (fun t =>
      (⟨4, get Reg.OCH_CMD.SLOT s, get Reg.OCH_ADDR.LAYER s, get Reg.OCH_ADDR.CLUSTER s, .command⟩ ∈ t.och.queue ∨ t.och.job = some ⟨4, get Reg.OCH_CMD.SLOT s, get Reg.OCH_ADDR.LAYER s, get Reg.OCH_ADDR.CLUSTER s, .command⟩) ∧
      get Reg.OCH_CMD.GO t = 0 ∧
      get Reg.OCH_CMD.REFUSED t = get Reg.OCH_CMD.REFUSED s ∧
      ((s.och.job.isSome = true → t.och.job = s.och.job)) ∧
      MemOutside 0x283C0000 199680 s t ∧
      OnlyBlocks [11] s t)) ∧
  (∀ (s : State),
    (3 ≤ s.och.queue.length ∨ get Reg.OCH_STAT.READY s = 0 ∨ 3 ≤ get Reg.OCH_CMD.SLOT s) →
    Gives (.ochWrite false) s (fun t =>
      get Reg.OCH_CMD.REFUSED t = 1 ∧
      OnlyRegs [Reg.OCH_CMD.OP, Reg.OCH_CMD.GO, Reg.OCH_CMD.REFUSED] s t ∧
      OnlyRegisters s t ∧
      SameMem s t)) ∧
  (∀ (s : State),
    s.och.queue.length < 3 →
    get Reg.OCH_STAT.READY s = 1 →
    get Reg.OCH_CMD.SLOT s < 3 →
    s.och.job.isSome = true →
    Gives (.ochWrite false) s (fun t =>
      t.och.queue = s.och.queue ++ [⟨2, get Reg.OCH_CMD.SLOT s, get Reg.OCH_ADDR.LAYER s, get Reg.OCH_ADDR.CLUSTER s, .command⟩] ∧
      get Reg.OCH_STAT.QUEUED t = s.och.queue.length + 1 ∧
      OnlyRegs [Reg.OCH_CMD.OP, Reg.OCH_CMD.GO, Reg.OCH_STAT.QUEUED] s t ∧
      t = { s with regs := t.regs, och := t.och } ∧
      SameMem s t)) ∧
  (∀ (s : State),
    (3 ≤ s.och.queue.length ∨ get Reg.OCH_STAT.READY s = 0 ∨ 3 ≤ get Reg.OCH_CMD.SLOT s) →
    Gives (.ochOpc none) s (fun t =>
      get Reg.OCH_CMD.REFUSED t = 1 ∧
      OnlyRegs [Reg.OCH_CMD.OP, Reg.OCH_CMD.GO, Reg.OCH_CMD.REFUSED] s t ∧
      OnlyRegisters s t ∧
      SameMem s t)) ∧
  (∀ (s : State),
    s.och.queue.length < 3 →
    get Reg.OCH_STAT.READY s = 1 →
    get Reg.OCH_CMD.SLOT s < 3 →
    s.och.job.isSome = true →
    Gives (.ochOpc none) s (fun t =>
      t.och.queue = s.och.queue ++ [⟨4, get Reg.OCH_CMD.SLOT s, get Reg.OCH_ADDR.LAYER s, get Reg.OCH_ADDR.CLUSTER s, .command⟩] ∧
      get Reg.OCH_STAT.QUEUED t = s.och.queue.length + 1 ∧
      OnlyRegs [Reg.OCH_CMD.OP, Reg.OCH_CMD.GO, Reg.OCH_STAT.QUEUED] s t ∧
      t = { s with regs := t.regs, och := t.och } ∧
      SameMem s t)) ∧
  (∀ (s : State),
    s.och.queue.length < 3 →
    get Reg.OCH_STAT.READY s = 1 →
    get Reg.OCH_CMD.SLOT s < 3 →
    s.och.job = none →
    s.och.queue = [] →
    get Reg.OCH_CTL.EN s = 1 →
    get Reg.OSV_STAT.PERMIT s = 1 →
    Gives (.ochOpc none) s (fun t =>
      t.och.job = some ⟨4, get Reg.OCH_CMD.SLOT s, get Reg.OCH_ADDR.LAYER s, get Reg.OCH_ADDR.CLUSTER s, .command⟩ ∧
      t.och.queue = [] ∧
      get Reg.OCH_STAT.STATE t = 4 ∧
      OnlyRegs [Reg.OCH_CMD.OP, Reg.OCH_CMD.GO, Reg.OCH_STAT.QUEUED, Reg.OCH_STAT.STATE, Reg.OCH_STAT.WRITING] s t ∧
      t = { s with regs := t.regs, och := t.och } ∧
      SameMem s t)) ∧
  (∀ (s : State),
    s.och.queue.length < 3 →
    get Reg.OCH_STAT.READY s = 1 →
    get Reg.OCH_CMD.SLOT s < 3 →
    s.och.job = none →
    s.och.queue = [] →
    get Reg.OCH_CTL.EN s = 1 →
    get Reg.OSV_STAT.PERMIT s = 1 →
    s.och.opc.contains (get Reg.OCH_ADDR.LAYER s) = true →
    Gives (.ochWrite false) s (fun t =>
      t.och.job = some ⟨2, get Reg.OCH_CMD.SLOT s, get Reg.OCH_ADDR.LAYER s, get Reg.OCH_ADDR.CLUSTER s, .command⟩ ∧
      get Reg.OCH_STAT.STATE t = 2 ∧
      get Reg.OCH_STAT.WRITING t = 1 ∧
      memRead (ochSlot (get Reg.OCH_CMD.SLOT s)) 3 t = bytesOf 3 (addrOf (get Reg.OCH_ADDR.LAYER s) (get Reg.OCH_ADDR.CLUSTER s)) ∧
      MemOutside (ochSlot (get Reg.OCH_CMD.SLOT s)) 1024 s t ∧
      OnlyBlocks [11] s t)) ∧
  (∀ (j : OchJob) (s : State),
    s.och.job = some j →
    j.op = 2 →
    j.slot < 3 →
    get Reg.OSV_STAT.WOB_LOCK s = 1 →
    Gives (.ochWrite true) s (fun t =>
      ((j.use = .command → get (Reg.OCH_RESULT.CODE j.slot) t = 0 ∧ get (Reg.OCH_RESULT.DONE j.slot) t = 1)) ∧
      (.cluster j.layer j.cluster (memRead (ochSlot j.slot) 66560 s) ((recordBlocks (clusterBits j.cluster (memRead (ochSlot j.slot) 66560 s))).map (·.2)) (wordsFor 2 (recordBlocks (clusterBits j.cluster (memRead (ochSlot j.slot) 66560 s))) s)) ∈ t.sent ∧
      ((s.och.queue = [] → t.och.job = none ∧ get Reg.OCH_STAT.STATE t = 0)) ∧
      MemOutside 0x283C0000 199680 s t ∧
      OnlyBlocks [11] s t)) ∧
  (∀ (j : OchJob) (s : State),
    s.och.job = some j →
    j.op = 2 →
    j.slot < 3 →
    get Reg.OSV_STAT.WOB_LOCK s = 0 →
    Gives (.ochWrite true) s (fun t =>
      ((j.use = .command → get (Reg.OCH_RESULT.CODE j.slot) t = 0 ∧ get (Reg.OCH_RESULT.DONE j.slot) t = 1)) ∧
      (t.och.job = some { j with op := 3, use := .recheck j.use } ∨ t.och.queue.head? = some { j with op := 3, use := .recheck j.use }) ∧
      ((get Reg.OCH_CTL.EN s = 1 → get Reg.OCH_STAT.STATE t = 3)) ∧
      s.sent.length < t.sent.length ∧
      OnlyBlocks [11] s t ∧
      SameMem s t)) ∧
  (∀ (u : List (List Nat)) (a : List (List Int)) (j : OchJob) (s : State),
    s.och.job = some j →
    j.op = 4 →
    j.slot < 3 →
    opcUnit j.layer u s = none →
    255 ≤ layerNat j.layer 31 1 s + u.length →
    Gives (.ochOpc (some (u, a))) s (fun t =>
      t.och.opc.contains j.layer = true ∧
      ((j.use = .command → get (Reg.OCH_RESULT.CODE j.slot) t = 0 ∧ get (Reg.OCH_RESULT.DONE j.slot) t = 1)) ∧
      ((s.och.queue = [] → t.och.job = none ∧ get Reg.OCH_STAT.STATE t = 0)) ∧
      OnlyBlocks [11] s t)) ∧
  (∀ (u : List (List Nat)) (a : List (List Int)) (n : Nat) (j : OchJob) (s : State),
    s.och.job = some j →
    j.op = 4 →
    j.slot < 3 →
    opcUnit j.layer u s = some n →
    Gives (.ochOpc (some (u, a))) s (fun t =>
      t.och.opc.contains j.layer = true ∧
      ((j.use = .command → get (Reg.OCH_RESULT.CODE j.slot) t = 0 ∧ get (Reg.OCH_RESULT.DONE j.slot) t = 1)) ∧
      ((s.och.queue = [] → t.och.job = none ∧ get Reg.OCH_STAT.STATE t = 0)) ∧
      t.free = s.free + 1 ∧
      ((s.och.queue = [] → memRead (layerAddr j.layer s + 31) 1 t = [(n + 1) % 256])) ∧
      OnlyBlocks [11] s t)) ∧
  (∀ (s : State),
    Gives (.ochAbort) s (fun t =>
      t.och.queue = [] ∧
      t.och.copy = none ∧
      get Reg.OCH_CTL.ABORT t = 0 ∧
      get Reg.OCH_STAT.QUEUED t = 0 ∧
      ((∀ j ∈ s.och.job, j.op = 2 → t.och.job = none ∧ get Reg.OCH_STAT.WRITING t = 0)) ∧
      ((∀ j ∈ s.och.job, j.op = 2 → j.use = .command → j ∈ t.och.voided)) ∧
      ((∀ j ∈ s.och.job, j.op ≠ 2 → (t.och.job).map (·.op) = some j.op)) ∧
      ((s.och.job = none → t.och.job = none)) ∧
      OnlyBlocks [11] s t ∧
      SameMem s t)) ∧
  (∀ (s : State),
    (s.och.queue.all (fun q => decide (q.slot < 3)) = true) →
    ((s.och.job).all (fun q => decide (q.slot < 3)) = true) →
    Gives (.ochAbort) s (fun t =>
      (s.och.queue.all (fun q => q.use != .command || get (Reg.OCH_RESULT.CODE q.slot) t == 5 || (s.och.job).any (fun j => j.slot == q.slot)) = true) ∧
      OnlyBlocks [11] s t ∧
      SameMem s t)) ∧
  (∀ (j : OchJob) (l : List OchJob) (s : State),
    s.och.voided = j :: l →
    j.use ≠ .record →
    j.use ≠ .orphan →
    get Reg.OCH_NEXT.VALID s = 1 →
    s.och.job.isSome = true →
    Gives (.clusterVoid) s (fun t =>
      get Reg.OCH_DISC.VOIDS t = (get Reg.OCH_DISC.VOIDS s + 1) % 2 ^ Reg.OCH_DISC.VOIDS.width ∧
      t.och.queue = { j with layer := get Reg.OCH_NEXT.LAYER s, cluster := get Reg.OCH_NEXT.CLUSTER s } :: s.och.queue ∧
      t.och.voided = l ∧
      OnlyRegs [Reg.OCH_DISC.VOIDS, Reg.OCH_STAT.QUEUED] s t ∧
      t = { s with regs := t.regs, och := t.och } ∧
      SameMem s t)) ∧
  (∀ (j : OchJob) (l : List OchJob) (s : State),
    s.och.voided = j :: l →
    j.use = .record →
    Gives (.clusterVoid) s (fun t =>
      get Reg.OCH_DISC.VOIDS t = (get Reg.OCH_DISC.VOIDS s + 1) % 2 ^ Reg.OCH_DISC.VOIDS.width ∧
      t.och.voided = l ∧
      ((s.och.calNext < 64 → t.och.calNext = s.och.calNext + 1)) ∧
      OnlyBlocks [11] s t)) ∧
  (∀ (j : OchJob) (l : List OchJob) (i : Nat) (c : ZoneCopy) (s : State),
    s.och.voided = j :: l →
    Gives (.clusterVoid) s (fun t =>
      get Reg.OCH_DISC.VOIDS t = (get Reg.OCH_DISC.VOIDS s + 1) % 2 ^ Reg.OCH_DISC.VOIDS.width ∧
      t.och.voided = l ∧
      ((j.use = .orphan ∨ j.use ≠ .record ∧ get Reg.OCH_NEXT.VALID s ≠ 1 → t.och.queue = s.och.queue ∧ t.och.job = s.och.job)) ∧
      ((j.use = .copy i → s.och.copy = some c → t.och.copy = some { c with voids := c.voids ++ [addrOf j.layer j.cluster] })) ∧
      OnlyBlocks [11] s t)) ∧
  (∀ (n k i : Nat) (l : List Decoded) (c : ZoneCopy) (e : SealEntry) (s : State),
    n < 5 →
    (copyNow s).1 = some (c, e) →
    spareSlot s = some k →
    ((List.range 4096).find? (fun i => !c.made.contains i) = some i) →
    mayCopy s = true →
    copyIdle s = true →
    streamRuns n s = true →
    Gives (.zoneCopy n l) s (fun t =>
      ((copySectors c.zone i l s = true → ⟨2, k, get Reg.OCH_NEXT.LAYER s, get Reg.OCH_NEXT.CLUSTER s, .copy i⟩ ∈ t.och.queue ∨ t.och.job = some ⟨2, k, get Reg.OCH_NEXT.LAYER s, get Reg.OCH_NEXT.CLUSTER s, .copy i⟩)) ∧
      ((copySectors c.zone i l s = true → t.och.copy = some c)) ∧
      ((copySectors c.zone i l s = false → t = s)) ∧
      OnlyBlocks [7, 11] s t)) ∧
  (∀ (k : Nat) (c : ZoneCopy) (s : State),
    s.och.copy = some c →
    spareSlot s = some k →
    ((List.range 4096).all (fun i => c.made.contains i) = true) →
    c.dir = none →
    mayCopy s = true →
    copyIdle s = true →
    s.och.job.isSome = true →
    Gives (.directoryWrite) s (fun t =>
      t.och.queue = s.och.queue ++ [⟨2, k, get Reg.OCH_NEXT.LAYER s, get Reg.OCH_NEXT.CLUSTER s, .directory⟩] ∧
      memRead (ochSlot k + 1028) 4 t = bytesOf 4 (c.zone % 2 ^ 20 + c.ns % 64 * 2 ^ 20) ∧
      MemOutside (ochSlot k) 66560 s t ∧
      OnlyRegs [Reg.OCH_STAT.QUEUED] s t ∧
      t = { s with regs := t.regs, och := t.och, mem := t.mem, poison := t.poison })) ∧
  (∀ (obs : List ClusterRead) (c : ZoneCopy) (s : State),
    s.och.copy = some c →
    c.dir ≠ none →
    mayCopy s = true →
    copyIdle s = true →
    get Reg.OCH_CTL.VERIFY_EN s = 1 →
    obs.length = 4096 →
    Gives (.copyVerify obs) s (fun t =>
      ((((List.range 4096).filter (fun i => !(verifyAll obs s).1.getD i false)) = [] → t.och.copy = none ∧ t.och.copies = s.och.copies ++ [c] ∧ zoneOf c.zone t = { zoneOf c.zone s with copied := true })) ∧
      MemOutside (zoneAddr c.zone s) 32 s t ∧
      ((((List.range 4096).filter (fun i => !(verifyAll obs s).1.getD i false)) ≠ [] → t.mem = s.mem ∧ t.och.copies = s.och.copies ∧ (t.och.copy).all (fun x => x.dir.isNone && x.made == c.made.filter (fun i => !(((List.range 4096).filter (fun i => !(verifyAll obs s).1.getD i false))).contains i)) = true ∧ get Reg.OCH_DISC.VOIDS t = (get Reg.OCH_DISC.VOIDS s + (((List.range 4096).filter (fun i => !(verifyAll obs s).1.getD i false))).length) % 2 ^ Reg.OCH_DISC.VOIDS.width)) ∧
      OnlyRegs [Reg.OCH_DISC.VOIDS, Reg.ZMG_OPEN_CNT.OPEN, Reg.ZMG_OPEN_CNT.ACTIVE] s t ∧
      t = { s with regs := t.regs, och := t.och, zmg := t.zmg, mem := t.mem, poison := t.poison, sys := t.sys, evr := t.evr, sent := t.sent, host := { s.host with msixPend := t.host.msixPend } })) ∧
  (∀ (f : List ((Nat × Nat) × ClusterRead)) (d : List (Nat × Nat)) (s : State),
    osvState s = 5 →
    get Reg.OSV_STAT.LTBL s = 1 →
    get Reg.OCH_NEXT.VALID s = 0 →
    Gives (.nextFreeSearch f d) s (fun t =>
      (((freeCluster (fun (l c : Nat) => ((f.find? (fun q => q.1 == (l, c))).map (fun q => !readsUnwritten (optCfg false s) q.2)).getD false) (layerCount s) (layerClusters s)).1 < layerCount s → (get Reg.OCH_NEXT.VALID t = 1 ∧ get Reg.OCH_STAT.READY t = 1))) ∧
      ((layerCount s ≤ (freeCluster (fun (l c : Nat) => ((f.find? (fun q => q.1 == (l, c))).map (fun q => !readsUnwritten (optCfg false s) q.2)).getD false) (layerCount s) (layerClusters s)).1 → (get Reg.OCH_NEXT.VALID t = 0 ∧ get Reg.OCH_STAT.READY t = 0))) ∧
      (get Reg.OCH_NEXT.LAYER t = (freeCluster (fun (l c : Nat) => ((f.find? (fun q => q.1 == (l, c))).map (fun q => !readsUnwritten (optCfg false s) q.2)).getD false) (layerCount s) (layerClusters s)).1 % 2 ^ Reg.OCH_NEXT.LAYER.width) ∧
      (get Reg.OCH_NEXT.CLUSTER t = (freeCluster (fun (l c : Nat) => ((f.find? (fun q => q.1 == (l, c))).map (fun q => !readsUnwritten (optCfg false s) q.2)).getD false) (layerCount s) (layerClusters s)).2 % 2 ^ Reg.OCH_NEXT.CLUSTER.width) ∧
      t.och.copies = dirChain none d ∧
      (t.och.calNext = (((List.range 64).drop 32).find? (fun c => !(fun (l c : Nat) => ((f.find? (fun q => q.1 == (l, c))).map (fun q => !readsUnwritten (optCfg false s) q.2)).getD false) 0 c)).getD 64) ∧
      OnlyRegs [Reg.OCH_NEXT.CLUSTER, Reg.OCH_NEXT.LAYER, Reg.OCH_NEXT.VALID, Reg.OCH_DISC.VOIDS, Reg.OCH_STAT.READY] s t ∧
      t = { s with regs := t.regs, och := t.och } ∧
      SameMem s t)) ∧
  (∀ (k : Nat) (s : State),
    s.och.recorded = false →
    dataWriteWaits s = true →
    spareSlot s = some k →
    s.och.job.isSome = true →
    Gives (.calibrationRecordWrite) s (fun t =>
      t.och.recorded = true ∧
      ((¬(List.range (layerCount s)).map (fun l => memRead (layerAddr l s) 32 s) = s.och.record → s.och.calNext < 64 → t.och.calNext = s.och.calNext + 1 ∧ t.och.queue = ⟨2, k, 0, s.och.calNext, .record⟩ :: s.och.queue)) ∧
      OnlyBlocks [11] s t)) ∧
  (∀ (s : State),
    s.och.recorded = false →
    dataWriteWaits s = true →
    Gives (.calibrationRecordWrite) s (fun t =>
      (((List.range (layerCount s)).map (fun l => memRead (layerAddr l s) 32 s) = s.och.record ∨ 64 ≤ s.och.calNext → t.och.recorded = true ∧ t.och.queue = s.och.queue ∧ t.och.calNext = s.och.calNext ∧ t.mem = s.mem)) ∧
      ((¬(List.range (layerCount s)).map (fun l => memRead (layerAddr l s) 32 s) = s.och.record → s.och.calNext < 64 → spareSlot s = none → t = s)) ∧
      OnlyBlocks [11] s t)) ∧
  (∀ (s : State),
    discFails s = true →
    get Reg.OCH_DISC.FAILED s = 0 →
    Gives (.discFailure) s (fun t =>
      get Reg.OCH_DISC.FAILED t = 1 ∧
      OnlyRegs [Reg.OCH_DISC.FAILED] s t ∧
      OnlyEvents s t ∧
      SameMem s t))

/-- The links: command frames, TICK, the control channel, and the optical link. Rests on R172, R174, R177, R179, R289, R290, R291.
Where it meets them it rests on choices of the model: log entries 60, 221. -/
def Obligations.LinksSendFramesAndControl : Prop :=
  (∀ (p q : Nat) (s : State),
    optSends s = true →
    Gives (.headLinkCommandFrame 2 p q) s (fun t =>
      (t.sent = s.sent ++ [.opticalLink (opticalFrame p s) (wordsFor 2 ((opticalFrame p s).map (fun x => (true, x))) s)]) ∧
      OnlyRegs [] s t ∧
      t = { s with olk := t.olk, sent := t.sent } ∧
      SameMem s t)) ∧
  (∀ (l p q : Nat) (s : State),
    l < 2 →
    linkRuns l s = true →
    get (Reg.HLK_STAT.TX_UP l) s = 1 →
    Gives (.headLinkCommandFrame l p q) s (fun t =>
      (t.sent = s.sent ++ [.headLink l (commandFrame l p q s) (wordsFor l ((commandFrame l p q s).map (fun x => (true, x))) s)]) ∧
      OnlyRegs [] s t ∧
      t = { s with hlk := t.hlk, sent := t.sent } ∧
      SameMem s t)) ∧
  (∀ (l p q : Nat) (s : State),
    l < 3 →
    (if l = 2 then optSends s = false else linkRuns l s = false ∨ get (Reg.HLK_STAT.TX_UP l) s ≠ 1) →
    Gives (.headLinkCommandFrame l p q) s (fun t =>
      t = s)) ∧
  (∀ (l o : Nat) (s : State),
    l < 3 →
    o ≤ 65 →
    (if l = 2 then optSends s = true else linkRuns l s = true ∧ get (Reg.HLK_STAT.TX_UP l) s = 1) →
    Gives (.tickBlock l o) s (fun t =>
      (t.sent = s.sent ++ [if l = 2 then .opticalLink [blkTick (seqNow s + 1) o] (wordsFor 2 ([blkTick (seqNow s + 1) o].map (fun x => (true, x))) s) else .headLink l ((match (hlkOf l s).switch with | none => [] | some q => [blkLanes q.1 q.2.1]) ++ [blkTick (seqNow s + 1) o]) (wordsFor l (((match (hlkOf l s).switch with | none => [] | some q => [blkLanes q.1 q.2.1]) ++ [blkTick (seqNow s + 1) o]).map (fun x => (true, x))) s)]) ∧
      OnlyRegs [] s t ∧
      t = { s with hlk := t.hlk, olk := t.olk, sent := t.sent } ∧
      SameMem s t)) ∧
  (∀ (l v : Nat) (s : State),
    l < 3 →
    v.testBit 31 = true →
    get (ccPort l).busy s = 0 →
    Gives (.controlChannelReq l v) s (fun t =>
      get (ccPort l).addr t = bits v 0 8 ∧
      get (ccPort l).write t = bits v 8 1 ∧
      get (ccPort l).busy t = 1 ∧
      (linkOf l t).ccTag = ((linkOf l s).ccTag + 1) % 256 ∧
      (linkOf l t).ccWrite = v.testBit 8 ∧
      (linkOf l t).ccAt = tmpCount s ∧
      (t.sent = s.sent ++ [if l = 2 then .opticalLink [blkReq (((linkOf l s).ccTag + 1) % 256) (bits v 0 8) (get (ccPort l).data s) (v.testBit 8)] (wordsFor 2 ([blkReq (((linkOf l s).ccTag + 1) % 256) (bits v 0 8) (get (ccPort l).data s) (v.testBit 8)].map (fun x => (true, x))) s) else .headLink l [blkReq (((linkOf l s).ccTag + 1) % 256) (bits v 0 8) (get (ccPort l).data s) (v.testBit 8)] (wordsFor l ([blkReq (((linkOf l s).ccTag + 1) % 256) (bits v 0 8) (get (ccPort l).data s) (v.testBit 8)].map (fun x => (true, x))) s)]) ∧
      OnlyRegs [(ccPort l).addr, (ccPort l).write, (ccPort l).busy] s t ∧
      t = { s with regs := t.regs, hlk := t.hlk, olk := t.olk, sent := t.sent } ∧
      SameMem s t)) ∧
  (∀ (l v : Nat) (s : State),
    l < 3 →
    (v.testBit 31 = false ∨ get (ccPort l).busy s ≠ 0) →
    Gives (.controlChannelReq l v) s (fun t =>
      get (ccPort l).addr t = bits v 0 8 ∧
      get (ccPort l).write t = bits v 8 1 ∧
      OnlyRegs [(ccPort l).addr, (ccPort l).write] s t ∧
      OnlyRegisters s t ∧
      SameMem s t)) ∧
  (∀ (l p : Nat) (s : State),
    l < 3 →
    get (ccPort l).busy s = 1 →
    bits p 0 8 = 0x4B →
    bits p 8 8 = (linkOf l s).ccTag →
    Gives (.controlChannelReply l p) s (fun t =>
      get (ccPort l).busy t = 0 ∧
      ((p.testBit 57 = false → get (ccPort l).done t = 1)) ∧
      ((p.testBit 57 = true → get (ccPort l).error t = 1)) ∧
      (get (ccPort l).data t = (if (linkOf l s).ccWrite = false ∧ p.testBit 57 = false then bits p 24 32 else get (ccPort l).data s)) ∧
      OnlyRegs [(ccPort l).busy, (ccPort l).done, (ccPort l).error, (ccPort l).data] s t ∧
      OnlyEvents s t ∧
      SameMem s t)) ∧
  (∀ (l p : Nat) (s : State),
    l < 3 →
    get (ccPort l).busy s = 1 →
    bits p 0 8 = 0x4B →
    bits p 8 8 = (linkOf l s).ccTag →
    p.testBit 57 = true →
    Gives (.controlChannelReply l p) s (fun t =>
      get (ccPort l).busy t = 0 ∧
      get (ccPort l).error t = 1 ∧
      OnlyRegs [(ccPort l).busy, (ccPort l).error] s t ∧
      OnlyEvents s t ∧
      SameMem s t)) ∧
  (∀ (l : Nat) (s : State),
    l < 3 →
    get (ccPort l).busy s = 1 →
    (linkOf l s).ccAt + 4 ≤ tmpCount s →
    Gives (.controlChannelTimeout l) s (fun t =>
      get (ccPort l).busy t = 0 ∧
      get (ccPort l).timeout t = 1 ∧
      OnlyRegs [(ccPort l).busy, (ccPort l).timeout] s t ∧
      OnlyEvents s t ∧
      SameMem s t)) ∧
  (∀ (o : TrainObs) (s : State),
    get Reg.OLK_CTL.EN s = 1 →
    (s.olk.retrain = true ∨ (get Reg.OLK_STAT.UP s = 0 ∧ s.olk.faulted = false) ∨ mayRetrain s.olk (get Reg.OLK_STAT.TRIES s) s = true) →
    Gives (.opticalLinkTraining o) s (fun t =>
      get Reg.OLK_STAT.RX_LOCK t = b2n (o.locks.testBit 0) ∧
      get Reg.OLK_STAT.TX_UP t = b2n (o.locks.testBit 0 && echoed o s) ∧
      get Reg.OLK_STAT.UP t = b2n ((o.locks.testBit 0 && echoed o s) && framesAdvance o.seqs) ∧
      get Reg.OLK_STAT.MISS t = 0 ∧
      (get Reg.OLK_STAT.TRIES t = (if s.olk.faulted = true then min (get Reg.OLK_STAT.TRIES s + 1) (2 ^ Reg.OLK_STAT.TRIES.width - 1) else get Reg.OLK_STAT.TRIES s)) ∧
      t.olk.faulted = (s.olk.faulted && !((o.locks.testBit 0 && echoed o s) && framesAdvance o.seqs)) ∧
      t.olk.retrain = false ∧
      ((o.locks.testBit 0 && echoed o s) = true → get Reg.OLK_DELAY.DELAY t = linkDelay o % 2 ^ Reg.OLK_DELAY.DELAY.width) ∧
      (t.sent = s.sent ++ [.opticalLink ([blkIdle] ++ (if o.locks.testBit 0 then (tickSeqs s).map (fun q => blkTick q 0) else [])) (wordsFor 2 (([blkIdle] ++ (if o.locks.testBit 0 then (tickSeqs s).map (fun q => blkTick q 0) else [])).map (fun x => (true, x))) s)]) ∧
      OnlyRegs [Reg.OLK_STAT.RX_LOCK, Reg.OLK_STAT.TX_UP, Reg.OLK_STAT.UP, Reg.OLK_STAT.MISS, Reg.OLK_STAT.TRIES, Reg.OLK_DELAY.DELAY] s t ∧
      t = { s with regs := t.regs, olk := t.olk, sent := t.sent } ∧
      SameMem s t)) ∧
  (∀ (p : Bool) (s : State),
    domOn 12 s = true →
    get Reg.OLK_CTL.EN s = 1 →
    s.olk.faulted = false →
    (get Reg.OLK_STAT.UP s = 0 ∨ 3 ≤ get Reg.OLK_STAT.MISS s ∨ 3 ≤ s.olk.echoRow ∨ p = true) →
    Gives (.opticalLinkFault p) s (fun t =>
      get Reg.OLK_STAT.FAULT t = 1 ∧
      get Reg.OLK_STAT.UP t = 0 ∧
      get Reg.OLK_STAT.TRIES t = 0 ∧
      get Reg.OLK_STAT.PIN t = b2n p ∧
      t.olk.faulted = true ∧
      t.olk.faultAt = tmpCount s ∧
      (((s.och.job).all (fun j => j.op == 1 || j.op == 3) = true → t.och.job = none)) ∧
      ((∀ j ∈ s.och.job, j.op = 2 → t.och.job = none ∧ t.och.voided = s.och.voided ++ [j])) ∧
      OnlyBlocks [11, 12] s t ∧
      t = { s with regs := t.regs, olk := t.olk, och := t.och, sys := t.sys, evr := t.evr, sent := t.sent, host := { s.host with msixPend := t.host.msixPend } } ∧
      SameMem s t)) ∧
  (∀ (p : Bool) (s : State),
    domOn 12 s = true →
    (get Reg.OLK_CTL.EN s = 0 ∨ s.olk.faulted = true ∨ get Reg.OLK_STAT.UP s ≠ 0 ∧ get Reg.OLK_STAT.MISS s < 3 ∧ s.olk.echoRow < 3 ∧ p = false) →
    Gives (.opticalLinkFault p) s (fun t =>
      get Reg.OLK_STAT.PIN t = b2n p ∧
      OnlyRegs [Reg.OLK_STAT.PIN] s t ∧
      OnlyEvents s t ∧
      SameMem s t))

/-- The stepper axes: pushes, moves, stops and limits. Rests on R294, R295, R296, R299, R300, R303, R304, R305, R306, R311, R313.
Where it meets them it rests on choices of the model: log entries 14, 70, 72, 73, 75, 76. -/
def Obligations.MotionMovesAreQueuedAndEnd : Prop :=
  (∀ (g v : Nat) (s : State),
    g < 3 →
    v.testBit 31 = true →
    bits v 1 2 = 0 →
    v.testBit 4 = false →
    pushFails g (pushMove g 0 (cmdWord g v s)) (cmdWord g v s) = [] →
    Gives (.movePushNormal g v) s (fun t =>
      (grpOf g t).queue = (grpOf g s).queue ++ [pushMove g 0 (cmdWord g v s)] ∧
      get (Reg.MOT_GRP_STAT.DEPTH g) t = (grpOf g s).queue.length + 1 ∧
      OnlyRegs (motShown ++ [Reg.MOT_GRP_CMD.REL g, Reg.MOT_GRP_CMD.CLASS g, Reg.MOT_GRP_CMD.AXIS g, Reg.MOT_GRP_CMD.REPLACE g]) s t ∧
      t = { s with regs := t.regs, mot := t.mot } ∧
      SameMem s t)) ∧
  (∀ (g v : Nat) (f : List Nat) (s : State),
    g < 3 →
    v.testBit 31 = true →
    bits v 1 2 = 0 →
    v.testBit 4 = false →
    pushFails g (pushMove g 0 (cmdWord g v s)) (cmdWord g v s) = f →
    f ≠ [] →
    Gives (.movePushNormal g v) s (fun t =>
      (grpOf g t).queue = (grpOf g s).queue ∧
      get (Reg.MOT_GRP_STAT.REFUSED g) t = 1 ∧
      ((f.length = 1 → f = [get (Reg.MOT_GRP_STAT.RCAUSE g) t])) ∧
      OnlyRegs [Reg.MOT_GRP_CMD.REL g, Reg.MOT_GRP_CMD.CLASS g, Reg.MOT_GRP_CMD.AXIS g, Reg.MOT_GRP_CMD.REPLACE g, Reg.MOT_GRP_STAT.REFUSED g, Reg.MOT_GRP_STAT.RCAUSE g] s t ∧
      t = { s with regs := t.regs, free := t.free } ∧
      SameMem s t)) ∧
  (∀ (g v : Nat) (s : State),
    g < 3 →
    v.testBit 31 = true →
    bits v 1 2 = 1 →
    v.testBit 4 = false →
    (pushFails g (⟨1, if g = 0 then (bits v 3 1 : Int) else 0, 0⟩) (cmdWord g v s) = []) →
    Gives (.movePushHome g v) s (fun t =>
      ((grpOf g t).queue = (grpOf g s).queue ++ [⟨1, if g = 0 then (bits v 3 1 : Int) else 0, 0⟩]) ∧
      get (Reg.MOT_GRP_STAT.DEPTH g) t = (grpOf g s).queue.length + 1 ∧
      OnlyRegs (motShown ++ [Reg.MOT_GRP_CMD.REL g, Reg.MOT_GRP_CMD.CLASS g, Reg.MOT_GRP_CMD.AXIS g, Reg.MOT_GRP_CMD.REPLACE g]) s t ∧
      t = { s with regs := t.regs, mot := t.mot } ∧
      SameMem s t)) ∧
  (∀ (g v : Nat) (f : List Nat) (s : State),
    g < 3 →
    v.testBit 31 = true →
    bits v 1 2 = 1 →
    v.testBit 4 = false →
    (pushFails g (⟨1, if g = 0 then (bits v 3 1 : Int) else 0, 0⟩) (cmdWord g v s) = f) →
    f ≠ [] →
    Gives (.movePushHome g v) s (fun t =>
      (grpOf g t).queue = (grpOf g s).queue ∧
      get (Reg.MOT_GRP_STAT.REFUSED g) t = 1 ∧
      ((f.length = 1 → f = [get (Reg.MOT_GRP_STAT.RCAUSE g) t])) ∧
      OnlyRegs [Reg.MOT_GRP_CMD.REL g, Reg.MOT_GRP_CMD.CLASS g, Reg.MOT_GRP_CMD.AXIS g, Reg.MOT_GRP_CMD.REPLACE g, Reg.MOT_GRP_STAT.REFUSED g, Reg.MOT_GRP_STAT.RCAUSE g] s t ∧
      t = { s with regs := t.regs, free := t.free } ∧
      SameMem s t)) ∧
  (∀ (g v : Nat) (s : State),
    g < 3 →
    v.testBit 31 = true →
    bits v 1 2 = 2 →
    v.testBit 4 = false →
    pushFails g (pushMove g 2 (cmdWord g v s)) (cmdWord g v s) = [] →
    Gives (.movePushTest g v) s (fun t =>
      (grpOf g t).queue = (grpOf g s).queue ++ [pushMove g 2 (cmdWord g v s)] ∧
      get (Reg.MOT_GRP_STAT.DEPTH g) t = (grpOf g s).queue.length + 1 ∧
      OnlyRegs (motShown ++ [Reg.MOT_GRP_CMD.REL g, Reg.MOT_GRP_CMD.CLASS g, Reg.MOT_GRP_CMD.AXIS g, Reg.MOT_GRP_CMD.REPLACE g]) s t ∧
      t = { s with regs := t.regs, mot := t.mot } ∧
      SameMem s t)) ∧
  (∀ (g v : Nat) (f : List Nat) (s : State),
    g < 3 →
    v.testBit 31 = true →
    bits v 1 2 = 2 →
    v.testBit 4 = false →
    pushFails g (pushMove g 2 (cmdWord g v s)) (cmdWord g v s) = f →
    f ≠ [] →
    Gives (.movePushTest g v) s (fun t =>
      (grpOf g t).queue = (grpOf g s).queue ∧
      get (Reg.MOT_GRP_STAT.REFUSED g) t = 1 ∧
      ((f.length = 1 → f = [get (Reg.MOT_GRP_STAT.RCAUSE g) t])) ∧
      OnlyRegs [Reg.MOT_GRP_CMD.REL g, Reg.MOT_GRP_CMD.CLASS g, Reg.MOT_GRP_CMD.AXIS g, Reg.MOT_GRP_CMD.REPLACE g, Reg.MOT_GRP_STAT.REFUSED g, Reg.MOT_GRP_STAT.RCAUSE g] s t ∧
      t = { s with regs := t.regs, free := t.free } ∧
      SameMem s t)) ∧
  (∀ (g v : Nat) (s : State),
    g < 3 →
    v.testBit 31 = true →
    bits v 1 2 = 3 →
    v.testBit 4 = false →
    pushFails g (pushMove g 3 (cmdWord g v s)) (cmdWord g v s) = [] →
    Gives (.movePushRecovery g v) s (fun t =>
      (grpOf g t).queue = (grpOf g s).queue ++ [pushMove g 3 (cmdWord g v s)] ∧
      get (Reg.MOT_GRP_STAT.DEPTH g) t = (grpOf g s).queue.length + 1 ∧
      OnlyRegs (motShown ++ [Reg.MOT_GRP_CMD.REL g, Reg.MOT_GRP_CMD.CLASS g, Reg.MOT_GRP_CMD.AXIS g, Reg.MOT_GRP_CMD.REPLACE g]) s t ∧
      t = { s with regs := t.regs, mot := t.mot } ∧
      SameMem s t)) ∧
  (∀ (g v : Nat) (f : List Nat) (s : State),
    g < 3 →
    v.testBit 31 = true →
    bits v 1 2 = 3 →
    v.testBit 4 = false →
    pushFails g (pushMove g 3 (cmdWord g v s)) (cmdWord g v s) = f →
    f ≠ [] →
    Gives (.movePushRecovery g v) s (fun t =>
      (grpOf g t).queue = (grpOf g s).queue ∧
      get (Reg.MOT_GRP_STAT.REFUSED g) t = 1 ∧
      ((f.length = 1 → f = [get (Reg.MOT_GRP_STAT.RCAUSE g) t])) ∧
      OnlyRegs [Reg.MOT_GRP_CMD.REL g, Reg.MOT_GRP_CMD.CLASS g, Reg.MOT_GRP_CMD.AXIS g, Reg.MOT_GRP_CMD.REPLACE g, Reg.MOT_GRP_STAT.REFUSED g, Reg.MOT_GRP_STAT.RCAUSE g] s t ∧
      t = { s with regs := t.regs, free := t.free } ∧
      SameMem s t)) ∧
  (∀ (g v : Nat) (s : State),
    g < 3 →
    v.testBit 31 = true →
    v.testBit 4 = true →
    ((pushFails g (if bits v 1 2 = 1 then ⟨1, if g = 0 then (bits v 3 1 : Int) else 0, 0⟩ else pushMove g (bits v 1 2) (cmdWord g v s)) (cmdWord g v s)).filter (· != 1) = []) →
    (grpOf g s).run.isSome = true →
    Gives (.movePushReplace g v) s (fun t =>
      (grpOf g t).run = (grpOf g s).run ∧
      ((grpOf g t).next = some (if bits v 1 2 = 1 then ⟨1, if g = 0 then (bits v 3 1 : Int) else 0, 0⟩ else pushMove g (bits v 1 2) (cmdWord g v s))) ∧
      (grpOf g t).queue = [] ∧
      get (Reg.MOT_GRP_STAT.DEPTH g) t = 0 ∧
      OnlyRegs (motShown ++ [Reg.MOT_GRP_CMD.REL g, Reg.MOT_GRP_CMD.CLASS g, Reg.MOT_GRP_CMD.AXIS g, Reg.MOT_GRP_CMD.REPLACE g]) s t ∧
      t = { s with regs := t.regs, mot := t.mot } ∧
      SameMem s t)) ∧
  (∀ (g v : Nat) (s : State),
    g < 3 →
    v.testBit 31 = true →
    v.testBit 4 = true →
    ((pushFails g (if bits v 1 2 = 1 then ⟨1, if g = 0 then (bits v 3 1 : Int) else 0, 0⟩ else pushMove g (bits v 1 2) (cmdWord g v s)) (cmdWord g v s)).filter (· != 1) = []) →
    (grpOf g s).run = none →
    Gives (.movePushReplace g v) s (fun t =>
      (grpOf g t).run = none ∧
      ((grpOf g t).queue = [(if bits v 1 2 = 1 then ⟨1, if g = 0 then (bits v 3 1 : Int) else 0, 0⟩ else pushMove g (bits v 1 2) (cmdWord g v s))]) ∧
      OnlyRegs (motShown ++ [Reg.MOT_GRP_CMD.REL g, Reg.MOT_GRP_CMD.CLASS g, Reg.MOT_GRP_CMD.AXIS g, Reg.MOT_GRP_CMD.REPLACE g]) s t ∧
      t = { s with regs := t.regs, mot := t.mot } ∧
      SameMem s t)) ∧
  (∀ (g v : Nat) (f : List Nat) (s : State),
    g < 3 →
    v.testBit 31 = true →
    v.testBit 4 = true →
    ((pushFails g (if bits v 1 2 = 1 then ⟨1, if g = 0 then (bits v 3 1 : Int) else 0, 0⟩ else pushMove g (bits v 1 2) (cmdWord g v s)) (cmdWord g v s)).filter (· != 1) = f) →
    f ≠ [] →
    Gives (.movePushReplace g v) s (fun t =>
      get (Reg.MOT_GRP_STAT.REFUSED g) t = 1 ∧
      t.mot = s.mot ∧
      ((f.length = 1 → f = [get (Reg.MOT_GRP_STAT.RCAUSE g) t])) ∧
      OnlyRegs [Reg.MOT_GRP_CMD.REL g, Reg.MOT_GRP_CMD.CLASS g, Reg.MOT_GRP_CMD.AXIS g, Reg.MOT_GRP_CMD.REPLACE g, Reg.MOT_GRP_STAT.REFUSED g, Reg.MOT_GRP_STAT.RCAUSE g] s t ∧
      t = { s with regs := t.regs, free := t.free } ∧
      SameMem s t)) ∧
  (∀ (g : Nat) (m : Move) (q : List Move) (s : State),
    g < 3 →
    (grpOf g s).run = none →
    (grpOf g s).stop = 0 →
    (grpOf g s).queue = m :: q →
    (m.cls = 1 → m.t0 = 0 ∨ (g = 0 ∧ m.t0 = 1)) →
    Gives (.moveTake g) s (fun t =>
      (grpOf g t).run = some m ∧
      (grpOf g t).queue = q ∧
      (grpOf g t).took = true ∧
      ((groupAxes g).all (fun a => get (Reg.MOT_AX_STAT.HOLD_I a) t == 0 && (axOf a t).ramp == 0 && (axOf a t).pos == (axOf a s).pos) = true) ∧
      ((m.cls = 1 → get (Reg.MOT_AX_STAT.HSTEP (m.t0.toNat + firstAxis g)) t = 1 ∧ get (Reg.MOT_AX_STAT.HOMED (m.t0.toNat + firstAxis g)) t = 0)) ∧
      OnlyBlocks [13] s t ∧
      t = { s with regs := t.regs, mot := t.mot } ∧
      SameMem s t)) ∧
  (∀ (g : Nat) (m : Move) (q : List Move) (s : State),
    g < 3 →
    (grpOf g s).run = none →
    (grpOf g s).stop = 0 →
    (grpOf g s).queue = m :: q →
    Gives (.moveTake g) s (fun t =>
      (grpOf g t).run = some m ∧
      (grpOf g t).queue = q ∧
      (grpOf g t).took = true ∧
      ((m.cls = 1 → get (Reg.MOT_AX_STAT.HSTEP (m.t0.toNat + firstAxis g)) t = 1)) ∧
      OnlyBlocks [13] s t ∧
      t = { s with regs := t.regs, mot := t.mot } ∧
      SameMem s t)) ∧
  (∀ (g : Nat) (m : Move) (s : State),
    g < 3 →
    (grpOf g s).run = some m →
    m.cls ≠ 1 →
    (grpOf g s).took = false →
    (grpOf g s).stop = 0 →
    (grpOf g s).next = none →
    atEnd g m s = true →
    Gives (.moveEnd g) s (fun t =>
      ((axOf (runPath g m s).long t).pos = (if (runPath g m s).long = 1 then m.t1 else m.t0) * posUnit) ∧
      (((grpOf g s).queue = [] → (grpOf g t).run = none ∧ get (Reg.MOT_GRP_STAT.DONE g) t = 1)) ∧
      (((grpOf g s).queue ≠ [] → (grpOf g t).run = (grpOf g s).queue.head? ∧ (grpOf g t).queue = (grpOf g s).queue.tail)) ∧
      OnlyRegs (motShown ++ [Reg.MOT_GRP_STAT.DONE g]) s t ∧
      t = { s with regs := t.regs, mot := t.mot, sys := t.sys, evr := t.evr, sent := t.sent, host := { s.host with msixPend := t.host.msixPend } } ∧
      SameMem s t)) ∧
  (∀ (g : Nat) (s : State),
    g < 3 →
    Gives (.groupStop g) s (fun t =>
      (grpOf g t).queue = [] ∧
      (grpOf g t).stop = max 1 (grpOf g s).stop ∧
      (grpOf g t).run = (grpOf g s).run ∧
      (grpOf g t).next = none ∧
      OnlyRegs (motShown ++ []) s t ∧
      t = { s with regs := t.regs, mot := t.mot } ∧
      SameMem s t)) ∧
  (∀ (g : Nat) (s : State),
    g < 3 →
    Gives (.emergencyStop g) s (fun t =>
      (grpOf g t).queue = [] ∧
      (grpOf g t).stop = 2 ∧
      ((groupAxes g).all (fun a => get (Reg.MOT_AX_STAT.ESTOP a) t == 1) = true) ∧
      OnlyRegs (motShown ++ (groupAxes g).map Reg.MOT_AX_STAT.ESTOP) s t ∧
      t = { s with regs := t.regs, mot := t.mot, sys := t.sys, evr := t.evr, sent := t.sent, host := { s.host with msixPend := t.host.msixPend } } ∧
      SameMem s t)) ∧
  (∀ (a v : Nat) (s : State),
    a < 4 →
    Gives (.motionLimitWrite a 1 v) s (fun t =>
      get (Reg.MOT_AX_VEL.VMAX a) t = bits v 0 16 ∧
      get (Reg.MOT_AX_VEL.HOME_V a) t = bits v 16 16 ∧
      OnlyRegs [Reg.MOT_AX_VEL.VMAX a, Reg.MOT_AX_VEL.HOME_V a] s t ∧
      OnlyRegisters s t ∧
      SameMem s t)) ∧
  (∀ (a v : Nat) (s : State),
    a < 4 →
    Gives (.motionLimitWrite a 3 v) s (fun t =>
      get (Reg.MOT_AX_LIM2.EMAX a) t = bits v 0 16 ∧
      get (Reg.MOT_AX_LIM2.JERK a) t = bits v 16 16 ∧
      OnlyRegs [Reg.MOT_AX_LIM2.EMAX a, Reg.MOT_AX_LIM2.JERK a] s t ∧
      OnlyRegisters s t ∧
      SameMem s t)) ∧
  (∀ (a v : Nat) (s : State),
    a < 4 →
    Gives (.motionLimitWrite a 2 v) s (fun t =>
      get (Reg.MOT_AX_ACC.ACC a) t = bits v 0 16 ∧
      get (Reg.MOT_AX_ACC.DEC a) t = bits v 16 16 ∧
      (((grpOf (axisGroup a) s).run = none → t.mot = s.mot)) ∧
      (((grpOf (axisGroup a) s).run.isSome = true → (grpOf (axisGroup a) s).slowing = true → axisDec a s < bits v 16 16 → (grpOf (axisGroup a) t).hold = true)) ∧
      OnlyRegs [Reg.MOT_AX_ACC.ACC a, Reg.MOT_AX_ACC.DEC a, Reg.MOT_AX_STAT.LIMIT_HELD a] s t ∧
      t = { s with regs := t.regs, mot := t.mot, sys := t.sys, evr := t.evr, sent := t.sent, host := { s.host with msixPend := t.host.msixPend } } ∧
      SameMem s t)) ∧
  (∀ (b n : Nat) (s : State),
    b < 8 →
    (brgOf b s).phase = 1 →
    10 * get (Reg.MOT_AX_CHOP.BLANK (b / 2)) s ≤ n →
    Gives (.chopOnEnd b n) s (fun t =>
      (brgOf b t).phase = 2 ∧
      (brgOf b t).code = (brgOf b s).code ∧
      (brgOf b t).neg = (brgOf b s).neg ∧
      OnlyRegs [] s t ∧
      t = { s with mot := t.mot } ∧
      SameMem s t)) ∧
  (∀ (b n : Nat) (s : State),
    b < 8 →
    (brgOf b s).phase = 2 →
    (((brgOf b s).drive.map (fun p => 10 * p.2)).foldl (· + ·) 0 ≤ n) →
    Gives (.chopOffEnd b n) s (fun t =>
      ((brgOf b t).phase = (if (brgOf b s).code = 0 then 0 else 1)) ∧
      (brgOf b t).code = (brgOf b s).code ∧
      (brgOf b t).neg = (brgOf b s).neg ∧
      OnlyRegs [] s t ∧
      t = { s with mot := t.mot } ∧
      SameMem s t)) ∧
  (∀ (a : Nat) (s : State),
    a < 4 →
    standing a s = true →
    2000 * get (Reg.MOT_AX_CUR.DELAY a) s ≤ (axOf a s).still →
    (axOf a s).ramp = 0 →
    Gives (.standstillHoldRamp a) s (fun t =>
      axOf a t = { axOf a s with ramp := 1 } ∧
      OnlyRegs [] s t ∧
      t = { s with mot := t.mot } ∧
      SameMem s t))

/-- The stepper axes: homing steps, switches, chatter and loss of drive. Rests on R310, R311, R312, R313, R315. Where it meets them
it rests on choices of the model: log entries 76, 77, 78, 264. -/
def Obligations.MotionHomesAndLosesDrive : Prop :=
  (∀ (a : Nat) (s : State),
    a < 4 →
    homing a s = true →
    (grpOf (axisGroup a) s).stop = 0 →
    (grpOf (axisGroup a) s).took = false →
    get (Reg.MOT_AX_STAT.HSTEP a) s = 1 →
    switchOn a 1 s = true →
    Gives (.homingStepEnd a) s (fun t =>
      get (Reg.MOT_AX_STAT.HSTEP a) t = 2 ∧
      (axOf a t).start = (axOf a s).pos ∧
      OnlyRegs (motShown ++ [Reg.MOT_AX_STAT.HSTEP a]) s t ∧
      t = { s with regs := t.regs, mot := t.mot } ∧
      SameMem s t)) ∧
  (∀ (a : Nat) (s : State),
    a < 4 →
    homing a s = true →
    (grpOf (axisGroup a) s).stop = 0 →
    (grpOf (axisGroup a) s).took = false →
    get (Reg.MOT_AX_STAT.HSTEP a) s = 1 →
    switchOn a 1 s = false →
    4096 * get (Reg.MOT_AX_HOME.RANGE a) s ≤ travelled a s →
    Gives (.homingStepEnd a) s (fun t =>
      get (Reg.MOT_AX_STAT.HOME_FAIL a) t = 1 ∧
      get (Reg.MOT_AX_STAT.HCAUSE a) t = 1 ∧
      get (Reg.MOT_AX_STAT.HOMED a) t = 0 ∧
      1 ≤ (grpOf (axisGroup a) t).stop ∧
      OnlyRegs (motShown ++ [Reg.MOT_AX_STAT.HOME_FAIL a, Reg.MOT_AX_STAT.HCAUSE a, Reg.MOT_AX_STAT.HOMED a]) s t ∧
      t = { s with regs := t.regs, mot := t.mot, sys := t.sys, evr := t.evr, sent := t.sent, host := { s.host with msixPend := t.host.msixPend } } ∧
      SameMem s t)) ∧
  (∀ (a : Nat) (s : State),
    a < 4 →
    homing a s = true →
    (grpOf (axisGroup a) s).stop = 0 →
    (grpOf (axisGroup a) s).took = false →
    get (Reg.MOT_AX_STAT.HSTEP a) s = 2 →
    (axOf a s).vel = 0 →
    Gives (.homingStepEnd a) s (fun t =>
      get (Reg.MOT_AX_STAT.HSTEP a) t = 3 ∧
      OnlyRegs (motShown ++ [Reg.MOT_AX_STAT.HSTEP a]) s t ∧
      t = { s with regs := t.regs, mot := t.mot } ∧
      SameMem s t)) ∧
  (∀ (a : Nat) (s : State),
    a < 4 →
    homing a s = true →
    (grpOf (axisGroup a) s).stop = 0 →
    (grpOf (axisGroup a) s).took = false →
    get (Reg.MOT_AX_STAT.HSTEP a) s = 3 →
    switchOn a 1 s = false →
    (axOf a s).vel = 0 →
    Gives (.homingStepEnd a) s (fun t =>
      get (Reg.MOT_AX_STAT.HSTEP a) t = 4 ∧
      OnlyRegs (motShown ++ [Reg.MOT_AX_STAT.HSTEP a]) s t ∧
      t = { s with regs := t.regs, mot := t.mot } ∧
      SameMem s t)) ∧
  (∀ (a : Nat) (s : State),
    a < 4 →
    homing a s = true →
    (grpOf (axisGroup a) s).stop = 0 →
    (grpOf (axisGroup a) s).took = false →
    (get (Reg.MOT_AX_STAT.HSTEP a) s = 3 ∧ switchOn a 1 s = true ∨ get (Reg.MOT_AX_STAT.HSTEP a) s = 4 ∧ switchOn a 1 s = false) →
    262144 ≤ travelled a s →
    Gives (.homingStepEnd a) s (fun t =>
      get (Reg.MOT_AX_STAT.HOME_FAIL a) t = 1 ∧
      ((get (Reg.MOT_AX_STAT.HSTEP a) s = 3 → get (Reg.MOT_AX_STAT.HCAUSE a) t = 2)) ∧
      ((get (Reg.MOT_AX_STAT.HSTEP a) s = 4 → get (Reg.MOT_AX_STAT.HCAUSE a) t = 3)) ∧
      get (Reg.MOT_AX_STAT.HOMED a) t = 0 ∧
      1 ≤ (grpOf (axisGroup a) t).stop ∧
      OnlyRegs (motShown ++ [Reg.MOT_AX_STAT.HOME_FAIL a, Reg.MOT_AX_STAT.HCAUSE a, Reg.MOT_AX_STAT.HOMED a]) s t ∧
      t = { s with regs := t.regs, mot := t.mot, sys := t.sys, evr := t.evr, sent := t.sent, host := { s.host with msixPend := t.host.msixPend } } ∧
      SameMem s t)) ∧
  (∀ (a : Nat) (s : State),
    a < 4 →
    homing a s = true →
    (grpOf (axisGroup a) s).stop = 0 →
    (grpOf (axisGroup a) s).took = false →
    get (Reg.MOT_AX_STAT.HSTEP a) s = 4 →
    switchOn a 1 s = true →
    Gives (.homingStepEnd a) s (fun t =>
      get (Reg.MOT_AX_STAT.HSTEP a) t = 5 ∧
      (axOf a t).pos = (axOf a s).pos - (axOf a s).edge ∧
      OnlyRegs (motShown ++ [Reg.MOT_AX_STAT.HSTEP a]) s t ∧
      t = { s with regs := t.regs, mot := t.mot } ∧
      SameMem s t)) ∧
  (∀ (a : Nat) (s : State),
    a < 4 →
    homing a s = true →
    (grpOf (axisGroup a) s).stop = 0 →
    (grpOf (axisGroup a) s).took = false →
    get (Reg.MOT_AX_STAT.HSTEP a) s = 5 →
    (axOf a s).vel = 0 →
    Gives (.homingStepEnd a) s (fun t =>
      get (Reg.MOT_AX_STAT.HSTEP a) t = 0 ∧
      get (Reg.MOT_AX_STAT.HOMED a) t = 1 ∧
      (grpOf (axisGroup a) t).run = none ∧
      get (Reg.MOT_GRP_STAT.DONE (axisGroup a)) t = 1 ∧
      OnlyRegs (motShown ++ [Reg.MOT_AX_STAT.HSTEP a, Reg.MOT_AX_STAT.HOMED a, Reg.MOT_GRP_STAT.DONE (axisGroup a)]) s t ∧
      t = { s with regs := t.regs, mot := t.mot, sys := t.sys, evr := t.evr, sent := t.sent, host := { s.host with msixPend := t.host.msixPend } } ∧
      SameMem s t)) ∧
  (∀ (a : Nat) (s : State),
    a < 4 →
    homing a s = true →
    (grpOf (axisGroup a) s).stop = 0 →
    (grpOf (axisGroup a) s).took = false →
    (get (Reg.MOT_AX_STAT.HSTEP a) s = 1 ∧ switchOn a 1 s = false ∧ travelled a s < 4096 * get (Reg.MOT_AX_HOME.RANGE a) s ∨ (get (Reg.MOT_AX_STAT.HSTEP a) s = 2 ∨ get (Reg.MOT_AX_STAT.HSTEP a) s = 5) ∧ (axOf a s).vel ≠ 0 ∨ get (Reg.MOT_AX_STAT.HSTEP a) s = 3 ∧ switchOn a 1 s = false ∧ (axOf a s).vel ≠ 0 ∨ (get (Reg.MOT_AX_STAT.HSTEP a) s = 3 ∧ switchOn a 1 s = true ∨ get (Reg.MOT_AX_STAT.HSTEP a) s = 4 ∧ switchOn a 1 s = false) ∧ travelled a s < 262144) →
    Gives (.homingStepEnd a) s (fun t =>
      get (Reg.MOT_AX_STAT.HSTEP a) t = get (Reg.MOT_AX_STAT.HSTEP a) s ∧
      t.mot = s.mot ∧
      OnlyRegs (motShown ++ []) s t ∧
      t = { s with regs := t.regs } ∧
      SameMem s t)) ∧
  (∀ (k : Nat) (v x : Bool) (n : Nat) (s : State),
    k < 8 →
    domOn 13 s = true →
    switchLevel k v s = x →
    bit Reg.MOT_SW_STAT.DEB k s ≠ x →
    (n = 12 ∨ n = 13) →
    (x = false ∨ switchRole k s = 0 ∨ switchRole k s = 3) →
    Gives (.switchEdge k v n) s (fun t =>
      bit Reg.MOT_SW_STAT.DEB k t = x ∧
      bit Reg.MOT_SW_STAT.RAW k t = x ∧
      t.mot = s.mot ∧
      OnlyRegs (motShown ++ [Reg.MOT_SW_STAT.DEB, Reg.MOT_SW_STAT.RAW]) s t ∧
      t = { s with regs := t.regs } ∧
      SameMem s t)) ∧
  (∀ (k : Nat) (v x : Bool) (n a : Nat) (s : State),
    k < 8 →
    domOn 13 s = true →
    switchLevel k v s = x →
    bit Reg.MOT_SW_STAT.DEB k s ≠ x →
    (n = 12 ∨ n = 13) →
    x = true →
    switchAxis k s = a →
    (switchRole k s = 1 ∨ switchRole k s = 2) →
    movesAxis a s = false →
    (switchRole k s = 1 ∨ homing a s = false) →
    Gives (.switchEdge k v n) s (fun t =>
      bit Reg.MOT_SW_STAT.DEB k t = true ∧
      (axOf a t).edge = (axOf a s).past.getD n (axOf a s).pos ∧
      (grpOf (axisGroup a) t).queue = (grpOf (axisGroup a) s).queue ∧
      OnlyRegs (motShown ++ [Reg.MOT_SW_STAT.DEB, Reg.MOT_SW_STAT.RAW]) s t ∧
      t = { s with regs := t.regs, mot := t.mot } ∧
      SameMem s t)) ∧
  (∀ (k : Nat) (v x : Bool) (n a : Nat) (s : State),
    k < 8 →
    domOn 13 s = true →
    switchLevel k v s = x →
    bit Reg.MOT_SW_STAT.DEB k s ≠ x →
    (n = 12 ∨ n = 13) →
    x = true →
    switchAxis k s = a →
    (switchRole k s = 1 ∨ switchRole k s = 2) →
    movesAxis a s = true →
    Gives (.switchEdge k v n) s (fun t =>
      bit Reg.MOT_SW_STAT.DEB k t = true ∧
      (axOf a t).edge = (axOf a s).past.getD n (axOf a s).pos ∧
      get (Reg.MOT_AX_STAT.ESTOP a) t = 1 ∧
      get (Reg.MOT_AX_STAT.HOMED a) t = 0 ∧
      (grpOf (axisGroup a) t).stop = 2 ∧
      (grpOf (axisGroup a) t).queue = [] ∧
      OnlyRegs (motShown ++ [Reg.MOT_SW_STAT.DEB, Reg.MOT_SW_STAT.RAW, Reg.MOT_AX_STAT.ESTOP a, Reg.MOT_AX_STAT.HOMED a]) s t ∧
      t = { s with regs := t.regs, mot := t.mot, sys := t.sys, evr := t.evr, sent := t.sent, host := { s.host with msixPend := t.host.msixPend } } ∧
      SameMem s t)) ∧
  (∀ (k : Nat) (v x : Bool) (n a : Nat) (s : State),
    k < 8 →
    domOn 13 s = true →
    switchLevel k v s = x →
    bit Reg.MOT_SW_STAT.DEB k s ≠ x →
    (n = 12 ∨ n = 13) →
    x = true →
    switchAxis k s = a →
    switchRole k s = 2 →
    homing a s = true →
    Gives (.switchEdge k v n) s (fun t =>
      (axOf a t).edge = (axOf a s).past.getD n (axOf a s).pos ∧
      get (Reg.MOT_AX_STAT.ESTOP a) t = 1 ∧
      get (Reg.MOT_AX_STAT.HOME_FAIL a) t = 1 ∧
      get (Reg.MOT_AX_STAT.HCAUSE a) t = 4 ∧
      get (Reg.MOT_AX_STAT.HOMED a) t = 0 ∧
      OnlyRegs (motShown ++ [Reg.MOT_SW_STAT.DEB, Reg.MOT_SW_STAT.RAW, Reg.MOT_AX_STAT.ESTOP a, Reg.MOT_AX_STAT.HOMED a, Reg.MOT_AX_STAT.HOME_FAIL a, Reg.MOT_AX_STAT.HCAUSE a]) s t ∧
      t = { s with regs := t.regs, mot := t.mot, sys := t.sys, evr := t.evr, sent := t.sent, host := { s.host with msixPend := t.host.msixPend } } ∧
      SameMem s t)) ∧
  (∀ (k a : Nat) (l : List Nat) (s : State),
    k < 8 →
    domOn 13 s = true →
    chatters l = true →
    switchAxis k s = a →
    (switchRole k s = 1 ∨ switchRole k s = 2) →
    Gives (.switchChatter k l) s (fun t =>
      bit Reg.MOT_SW_STAT.CHAT k t = true ∧
      get (Reg.MOT_AX_STAT.CHATTER a) t = 1 ∧
      get (Reg.MOT_AX_STAT.ESTOP a) t = 1 ∧
      get (Reg.MOT_AX_STAT.HOMED a) t = 0 ∧
      (grpOf (axisGroup a) t).queue = [] ∧
      (grpOf (axisGroup a) t).stop = 2 ∧
      ((homing a s = true → get (Reg.MOT_AX_STAT.HCAUSE a) t = 5)) ∧
      OnlyRegs (motShown ++ [Reg.MOT_SW_STAT.CHAT, Reg.MOT_AX_STAT.CHATTER a, Reg.MOT_AX_STAT.ESTOP a, Reg.MOT_AX_STAT.HOMED a, Reg.MOT_AX_STAT.HOME_FAIL a, Reg.MOT_AX_STAT.HCAUSE a]) s t ∧
      t = { s with regs := t.regs, mot := t.mot, sys := t.sys, evr := t.evr, sent := t.sent, host := { s.host with msixPend := t.host.msixPend } } ∧
      SameMem s t)) ∧
  (∀ (s : State),
    ((stgOf 1 s).safe = true ∨ get (Reg.STG_STAT.FAULT 1) s = 1 ∨ s.pins.pfailN = false) →
    hasDrive s = true →
    Gives (.motionDriveLost) s (fun t =>
      ([0, 1, 2, 3].all (fun a => (axOf a t).vel == 0 && get (Reg.MOT_AX_STAT.HOMED a) t == 0 && (get (Reg.MOT_AX_CFG.EN a) s != 1 || get (Reg.MOT_AX_STAT.STAGE a) t == 1)) = true) ∧
      ([0, 1, 2].all (fun g => groupIdle g t) = true) ∧
      OnlyBlocks [13] s t ∧
      t = { s with regs := t.regs, mot := t.mot, sys := t.sys, evr := t.evr, sent := t.sent, host := { s.host with msixPend := t.host.msixPend } } ∧
      SameMem s t))

/-- SEAL: folding, context rebuilds, sealing, retention, the key, the chain head. Rests on R316, R317, R319, R320, R321, R322, R323,
R324, R327, R328, R331, R334. Where it meets them it rests on choices of the model: log entries 7, 8, 53, 81, 85, 156. -/
def Obligations.ZonesAreHashedAndSealed : Prop :=
  (∀ (z : Nat) (c : SealCtx) (l : List Nat) (s : State),
    AMap.lookup z s.seals.ctxs = some c →
    groupLeaves z c.groups.length c s = some l →
    get Reg.SEAL_CTL.EN s = 1 →
    c.groups.length < 4096 →
    Gives (.groupFold z) s (fun t =>
      (AMap.lookup z t.seals.ctxs = some { c with leaves := c.leaves.filter (fun p => decide (16 * (c.groups.length + 1) ≤ p.1)), groups := c.groups ++ [groupDigest l], r := foldDigest c.r (groupDigest l) }) ∧
      MemOutside (ctxAddr c s) 270336 s t ∧
      OnlyRegs [] s t ∧
      t = { s with seals := t.seals, mem := t.mem, poison := t.poison })) ∧
  (∀ (z : Nat) (b : List Nat) (r : Bool) (s : State),
    (AMap.getD s.seals.ctxs z {}).damaged = true →
    r = true →
    b.length = min (zoneOf z s).host 65536 →
    zoneLost z s = false →
    Gives (.sealContextRebuild z b r) s (fun t =>
      (((AMap.lookup z t.seals.ctxs).map (fun c => (c.damaged, c.slot, c.groups.length, c.leaves.length))) = some (false, (AMap.getD s.seals.ctxs z {}).slot, b.length / 16, b.length % 16)) ∧
      MemOutside (ctxAddr (AMap.getD s.seals.ctxs z {}) s) 270336 s t ∧
      OnlyRegs [] s t ∧
      t = { s with seals := t.seals, mem := t.mem, poison := t.poison })) ∧
  (∀ (z : Nat) (b : List Nat) (r : Bool) (s : State),
    (AMap.getD s.seals.ctxs z {}).damaged = true →
    AMap.rising s.seals.ctxs = true →
    r = false →
    Gives (.sealContextRebuild z b r) s (fun t =>
      (zoneOf z t).state = 13 ∧
      AMap.lookup z t.seals.ctxs = none ∧
      t.seals.queue = s.seals.queue.filter (· != z) ∧
      MemOutside (zoneAddr z s) 32 s t ∧
      OnlyRegs [Reg.SEAL_STAT.CTX_USED, Reg.ZMG_OPEN_CNT.OPEN, Reg.ZMG_OPEN_CNT.ACTIVE] s t ∧
      t = { s with regs := t.regs, zmg := t.zmg, seals := t.seals, mem := t.mem, poison := t.poison, sys := t.sys, evr := t.evr, sent := t.sent, host := { s.host with msixPend := t.host.msixPend } })) ∧
  (∀ (z : Nat) (b : List Nat) (r : Bool) (s : State),
    (AMap.getD s.seals.ctxs z {}).damaged = true →
    AMap.rising s.seals.ctxs = true →
    zoneLost z s = true →
    b.length = min (zoneOf z s).host 65536 →
    Gives (.sealContextRebuild z b r) s (fun t =>
      (zoneOf z t).state = 13 ∧
      AMap.lookup z t.seals.ctxs = none ∧
      t.seals.queue = s.seals.queue.filter (· != z) ∧
      MemOutside (zoneAddr z s) 32 s t ∧
      OnlyRegs [Reg.SEAL_STAT.CTX_USED, Reg.ZMG_OPEN_CNT.OPEN, Reg.ZMG_OPEN_CNT.ACTIVE] s t ∧
      t = { s with regs := t.regs, zmg := t.zmg, seals := t.seals, mem := t.mem, poison := t.poison, sys := t.sys, evr := t.evr, sent := t.sent, host := { s.host with msixPend := t.host.msixPend } })) ∧
  (∀ (a b : Bool) (z : Nat) (q : List Nat) (c : SealCtx) (s : State),
    s.seals.queue = z :: q →
    mode s = 3 →
    get Reg.SEAL_CTL.EN s = 1 →
    s.seals.stopped = false →
    s.seals.key.isSome = true →
    AMap.lookup z s.seals.ctxs = some c →
    c.groups.length = 4096 →
    eligible z s = true →
    s.pins.pfailN = true →
    AMap.rising s.seals.ctxs = true →
    (a = true ∨ b = true) →
    65 ≤ s.seals.logFree →
    Gives (.sealZone a b) s (fun t =>
      zoneOf z t = { zoneOf z s with sealed := true } ∧
      AMap.lookup z t.seals.ctxs = none ∧
      t.seals.queue = (z :: q).filter (· != z) ∧
      ((t.seals.log.getLast?).map (fun e => (e.seq, e.zone, e.groups, e.bytes.length)) = some (nextSeq s, z, c.groups, 380)) ∧
      t.seals.log.dropLast = s.seals.log ∧
      t.seals.toWit = s.seals.toWit ++ [nextSeq s] ∧
      get Reg.SEAL_CNT.SEALS t = (get Reg.SEAL_CNT.SEALS s + 1) % 2 ^ Reg.SEAL_CNT.SEALS.width ∧
      get Reg.SEAL_SEQ_HI.VALID t = 1 ∧
      MemOutside (zoneAddr z s) 32 s t ∧
      OnlyBlocks [9, 15] s t)) ∧
  (∀ (a b : Bool) (z : Nat) (q : List Nat) (c : SealCtx) (p : Nat) (m : List Nat) (s : State),
    s.seals.queue = z :: q →
    mode s = 3 →
    get Reg.SEAL_CTL.EN s = 1 →
    s.seals.stopped = false →
    s.seals.key.isSome = true →
    AMap.lookup z s.seals.ctxs = some c →
    c.groups.length = 4096 →
    eligible z s = true →
    s.pins.pfailN = true →
    AMap.rising s.seals.ctxs = true →
    (a = true ∨ b = true) →
    s.seals.logFree < 65 →
    s.zmg.spares = p :: m →
    Gives (.sealZone a b) s (fun t =>
      zoneOf z t = { zoneOf z s with sealed := true } ∧
      AMap.lookup z t.seals.ctxs = none ∧
      t.seals.queue = (z :: q).filter (· != z) ∧
      ((t.seals.log.getLast?).map (fun e => (e.seq, e.zone, e.groups, e.bytes.length)) = some (nextSeq s, z, c.groups, 380)) ∧
      t.seals.log.dropLast = s.seals.log ∧
      t.seals.toWit = s.seals.toWit ++ [nextSeq s] ∧
      get Reg.SEAL_CNT.SEALS t = (get Reg.SEAL_CNT.SEALS s + 1) % 2 ^ Reg.SEAL_CNT.SEALS.width ∧
      get Reg.SEAL_SEQ_HI.VALID t = 1 ∧
      t.zmg.spares = m ∧
      t.seals.logFree = 65471 ∧
      get Reg.SEAL_LOG.ZONES t = (get Reg.SEAL_LOG.ZONES s + 1) % 2 ^ Reg.SEAL_LOG.ZONES.width ∧
      MemOutside (zoneAddr z s) 32 s t ∧
      OnlyBlocks [9, 15] s t)) ∧
  (∀ (a b : Bool) (z : Nat) (q : List Nat) (c : SealCtx) (s : State),
    s.seals.queue = z :: q →
    mode s = 3 →
    get Reg.SEAL_CTL.EN s = 1 →
    s.seals.stopped = false →
    s.seals.key.isSome = true →
    AMap.lookup z s.seals.ctxs = some c →
    c.groups.length = 4096 →
    eligible z s = true →
    s.pins.pfailN = true →
    a = false →
    b = false →
    Gives (.sealZone a b) s (fun t =>
      get Reg.SEAL_STAT.FAULT t = 1 ∧
      t.seals.stopped = true ∧
      OnlyRegs [Reg.SEAL_STAT.FAULT] s t ∧
      t = { s with regs := t.regs, seals := t.seals, sys := t.sys, evr := t.evr, sent := t.sent, host := { s.host with msixPend := t.host.msixPend } } ∧
      SameMem s t)) ∧
  (∀ (a b : Bool) (z : Nat) (q : List Nat) (c : SealCtx) (s : State),
    s.seals.queue = z :: q →
    mode s = 3 →
    get Reg.SEAL_CTL.EN s = 1 →
    s.seals.stopped = false →
    s.seals.key.isSome = true →
    AMap.lookup z s.seals.ctxs = some c →
    c.groups.length = 4096 →
    eligible z s = true →
    s.pins.pfailN = true →
    (a = true ∨ b = true) →
    s.seals.logFree < 65 →
    s.zmg.spares = [] →
    Gives (.sealZone a b) s (fun t =>
      get Reg.SEAL_STAT.LOG_FULL t = 1 ∧
      OnlyRegs [Reg.SEAL_STAT.LOG_FULL] s t ∧
      OnlyEvents s t ∧
      SameMem s t)) ∧
  (∀ (a b : Bool) (s : State),
    s.seals.queue = [] →
    Gives (.sealZone a b) s (fun t =>
      t = s ∧
      OnlyRegs [] s t ∧
      SameMem s t)) ∧
  (∀ (n v : Nat) (s : State),
    n < 64 →
    Gives (.retentionWrite n v) s (fun t =>
      (get (Reg.SEAL_NS_RET.RET n) t = (if nsType n s = 4 ∧ v % 2 ^ 32 < get (Reg.SEAL_NS_RET.RET n) s then get (Reg.SEAL_NS_RET.RET n) s else v % 2 ^ 32)) ∧
      OnlyRegs [Reg.SEAL_NS_RET.RET n] s t ∧
      t = { s with regs := t.regs, evr := t.evr, host := { s.host with msixPend := t.host.msixPend } } ∧
      SameMem s t)) ∧
  (∀ (v : Nat) (s : State),
    v.testBit 0 = true →
    bits v 24 8 = 0xB7 →
    get Reg.SEAL_STAT.PROV s = 0 →
    get Reg.SEAL_PROV.BUSY s = 0 →
    Gives (.keyGenerate v) s (fun t =>
      t.seals.genKey.isSome = true ∧
      get Reg.SEAL_PROV.BUSY t = 1 ∧
      t.free = s.free + 1 ∧
      OnlyRegs [Reg.SEAL_PROV.BUSY] s t ∧
      t = { s with regs := t.regs, seals := t.seals, free := t.free } ∧
      SameMem s t)) ∧
  (∀ (v : Nat) (s : State),
    v.testBit 0 = true →
    bits v 24 8 = 0xB7 →
    get Reg.SEAL_STAT.PROV s = 1 →
    Gives (.keyGenerate v) s (fun t =>
      t.seals = s.seals ∧
      OnlyRegs [] s t ∧
      t = { s with evr := t.evr, host := { s.host with msixPend := t.host.msixPend } } ∧
      SameMem s t)) ∧
  (∀ (v : Nat) (s : State),
    (v.testBit 0 = false ∨ bits v 24 8 ≠ 0xB7 ∨ get Reg.SEAL_STAT.PROV s ≠ 1 ∧ get Reg.SEAL_PROV.BUSY s = 1) →
    Gives (.keyGenerate v) s (fun t =>
      t = s ∧
      OnlyRegs [] s t ∧
      SameMem s t)) ∧
  (∀ (k h : Nat) (p : List Nat) (s : State),
    s.seals.genKey = some k →
    Gives (.keyGenerateDone) s (fun t =>
      t.seals.key = some k ∧
      t.seals.genKey = none ∧
      get Reg.SEAL_STAT.PROV t = 1 ∧
      get Reg.SEAL_PROV.BUSY t = 0 ∧
      ((publicKey k = p → (List.range 33).all (fun i => get (Reg.SEAL_PUBKEY.KEY i) t == bits (ofBytes p) (32 * i) 32) = true)) ∧
      ((Machine.hash (publicKey k) = h → (List.range 16).all (fun i => get (Reg.SEAL_KEYID.ID i) t == bits h (32 * i) 32) = true)) ∧
      OnlyRegs ([Reg.SEAL_STAT.PROV, Reg.SEAL_PROV.BUSY] ++ (List.range 33).map Reg.SEAL_PUBKEY.KEY ++ (List.range 16).map Reg.SEAL_KEYID.ID) s t ∧
      t = { s with regs := t.regs, seals := t.seals } ∧
      SameMem s t)) ∧
  (∀ (s : State),
    Gives (.certCommit) s (fun t =>
      (get Reg.SEAL_CERT_CTL.SET t = (if get Reg.SEAL_STAT.PROV s = 0 ∨ get Reg.SEAL_CERT_CTL.LEN s = 0 ∨ 2048 < get Reg.SEAL_CERT_CTL.LEN s then get Reg.SEAL_CERT_CTL.SET s else 1)) ∧
      OnlyRegs [Reg.SEAL_CERT_CTL.SET] s t ∧
      t = { s with regs := t.regs, evr := t.evr, host := { s.host with msixPend := t.host.msixPend } } ∧
      SameMem s t)) ∧
  (∀ (k a b : Bool) (s : State),
    mode s = 2 →
    s.boot.sealReady = false →
    s.seals.stopped = false →
    k = true →
    (a = true ∨ b = true) →
    Gives (.sealSelftest k a b) s (fun t =>
      get Reg.SEAL_STAT.SELFTEST t = 1 ∧
      t.boot = { s.boot with sealReady := true } ∧
      get Reg.SEAL_STAT.PROV t = b2n s.seals.key.isSome ∧
      get Reg.SEAL_STAT.KEY_LOADED t = b2n s.seals.key.isSome ∧
      OnlyBlocks [15] s t ∧
      t = { s with regs := t.regs, boot := t.boot } ∧
      SameMem s t)) ∧
  (∀ (k a b : Bool) (s : State),
    mode s = 2 →
    s.boot.sealReady = false →
    s.seals.stopped = false →
    (k = false ∨ (a = false ∧ b = false)) →
    Gives (.sealSelftest k a b) s (fun t =>
      get Reg.SEAL_STAT.FAULT t = 1 ∧
      t.seals.stopped = true ∧
      OnlyRegs [Reg.SEAL_STAT.FAULT] s t ∧
      t = { s with regs := t.regs, seals := t.seals, sys := t.sys, evr := t.evr, sent := t.sent, host := { s.host with msixPend := t.host.msixPend } } ∧
      SameMem s t)) ∧
  (∀ (q : Option (Nat × Nat × Nat × Nat)) (s : State),
    mode s = 2 →
    s.boot.sealReady = true →
    Gives (.chainHeadSelect) s (fun t =>
      ((if (s.seals.log.getLast?).any (fun e => recordVerifies e.bytes e.pubkey) = true then lastRecord s else none) = q → (t.seals.newKey = (chooseHead (keyId s) s.seals.head q).newKey ∧ t.seals.newLog = (chooseHead (keyId s) s.seals.head q).newLog ∧ ((chooseHead (keyId s) s.seals.head q).conflict = true → get Reg.SEAL_STAT.CONFLICT t = 1) ∧ (∀ h ∈ (chooseHead (keyId s) s.seals.head q).head, get Reg.SEAL_SEQ_HI.VALID t = 1 ∧ get Reg.SEAL_SEQ_LO.SEQ t = bits h.1 0 32 ∧ t.seals.head = (if (chooseHead (keyId s) s.seals.head q).rewrite = true then some (h.1, h.2, keyId s) else s.seals.head)) ∧ ((chooseHead (keyId s) s.seals.head q).head = none → get Reg.SEAL_SEQ_HI.VALID t = 0))) ∧
      OnlyRegs ([Reg.SEAL_SEQ_LO.SEQ, Reg.SEAL_SEQ_HI.SEQ, Reg.SEAL_SEQ_HI.VALID, Reg.SEAL_STAT.CONFLICT] ++ (List.range 16).map Reg.SEAL_HEAD.HASH) s t ∧
      t = { s with regs := t.regs, seals := t.seals, sys := t.sys, evr := t.evr, sent := t.sent, host := { s.host with msixPend := t.host.msixPend } } ∧
      SameMem s t))

/-- SEAL: proof requests and their responses, attestation, witnessing. Rests on R322, R325, R326, R332, R335, R337. Where it meets
them it rests on choices of the model: log entries 7, 8, 12, 14, 63, 80, 81, 82, 83, 84, 85, 267. -/
def Obligations.ProofsAttestationsAndWitnesses : Prop :=
  (∀ (p : Port) (b : List Nat) (s : State),
    (p = .pcie ∨ p = .sas0 ∨ p = .sas1) →
    b.length = 96 →
    1 ≤ bits (ofBytes b) 0 16 →
    bits (ofBytes b) 0 16 ≤ 6 →
    (readsServed s = true ∨ 5 ≤ bits (ofBytes b) 0 16) →
    Gives (.proofRequest p b) s (fun t =>
      (t.seals.reqs.getLast?.map (fun r => (r.port, r.op, r.tag, r.resp)) = some (p, bits (ofBytes b) 0 16, bits (ofBytes b) 32 32, none)) ∧
      (t.seals.reqs.getLast?.map (fun r => (r.p1, r.p2, r.nonce)) = some (bits (ofBytes b) 64 64, bits (ofBytes b) 128 64, (b.drop 32).take 64)) ∧
      OnlyRegs [] s t ∧
      t = { s with seals := t.seals, sent := t.sent } ∧
      SameMem s t)) ∧
  (∀ (p : Port) (b : List Nat) (w : Port × Nat × Nat) (s : State),
    (p = .pcie ∨ p = .sas0 ∨ p = .sas1) →
    b.length = 96 →
    (bits (ofBytes b) 0 16 = 0 ∨ 6 < bits (ofBytes b) 0 16) →
    Gives (.proofRequest p b) s (fun t =>
      ((s.seals.recvs.find? (fun w => w.1 == p && w.2.1 == bits (ofBytes b) 32 32 % 65536) = none → t.seals.reqs.getLast?.map (fun r => (r.port, r.tag, r.resp)) = some (p, bits (ofBytes b) 32 32, some (1, [])))) ∧
      ((s.seals.recvs.find? (fun w => w.1 == p && w.2.1 == bits (ofBytes b) 32 32 % 65536) = some w → t.sent = s.sent ++ [.proof w.1 ((bytesOf 4 (bits (ofBytes b) 32 32) ++ bytesOf 2 1 ++ List.replicate 10 0).take w.2.2)] ∧ t.seals.recvs = s.seals.recvs.erase w)) ∧
      OnlyRegs [] s t ∧
      t = { s with seals := t.seals, sent := t.sent } ∧
      SameMem s t)) ∧
  (∀ (p : Port) (b : List Nat) (s : State),
    (p = .pcie ∨ p = .sas0 ∨ p = .sas1) →
    b.length = 96 →
    1 ≤ bits (ofBytes b) 0 16 →
    bits (ofBytes b) 0 16 ≤ 4 →
    readsServed s = false →
    Gives (.proofRequest p b) s (fun t =>
      t.sent = s.sent ++ [statusMsg p 0 (bits (ofBytes b) 32 32) .becomingReady 0] ∧
      t.seals = s.seals ∧
      OnlyRegs [] s t ∧
      t = { s with sent := t.sent } ∧
      SameMem s t)) ∧
  (∀ (r0 : Bool) (r : ProofReq) (e : SealEntry) (s : State),
    nextReq 1 s = some r →
    entryAt r.p1 s = some e →
    r0 = true →
    Gives (.getRecord r0) s (fun t =>
      Answered r (0) (entrySector e) s t ∧
      OnlyRegs [] s t ∧
      t = { s with seals := t.seals, sent := t.sent } ∧
      SameMem s t)) ∧
  (∀ (r0 : Bool) (r : ProofReq) (s : State),
    nextReq 1 s = some r →
    ((entryAt r.p1 s).isNone = true ∨ r0 = false) →
    Gives (.getRecord r0) s (fun t =>
      ((entryAt r.p1 s = none → Answered r (4) ([]) s t)) ∧
      (((entryAt r.p1 s).isSome = true → Answered r (6) ([]) s t)) ∧
      OnlyRegs [] s t ∧
      t = { s with seals := t.seals, sent := t.sent } ∧
      SameMem s t)) ∧
  (∀ (r0 : Bool) (r : ProofReq) (e : SealEntry) (s : State),
    nextReq 2 s = some r →
    r0 = true →
    r.p1 < 64 →
    inNs r.p1 r.p2 s = true →
    sealOf r.p2 s = some e →
    Gives (.getZone r0) s (fun t =>
      Answered r (0) (entrySector e) s t ∧
      OnlyRegs [] s t ∧
      t = { s with seals := t.seals, sent := t.sent } ∧
      SameMem s t)) ∧
  (∀ (r0 : Bool) (r : ProofReq) (s : State),
    nextReq 2 s = some r →
    r.p1 < 64 →
    inNs r.p1 r.p2 s = true →
    sealOf r.p2 s = none →
    Gives (.getZone r0) s (fun t =>
      Answered r (3) ([]) s t ∧
      OnlyRegs [] s t ∧
      t = { s with seals := t.seals, sent := t.sent } ∧
      SameMem s t)) ∧
  (∀ (r0 : Bool) (r : ProofReq) (s : State),
    nextReq 2 s = some r →
    (64 ≤ r.p1 ∨ inNs r.p1 r.p2 s = false) →
    Gives (.getZone r0) s (fun t =>
      Answered r (1) ([]) s t ∧
      OnlyRegs [] s t ∧
      t = { s with seals := t.seals, sent := t.sent } ∧
      SameMem s t)) ∧
  (∀ (r0 : Bool) (r : ProofReq) (e : SealEntry) (s : State),
    nextReq 2 s = some r →
    r0 = false →
    r.p1 < 64 →
    inNs r.p1 r.p2 s = true →
    sealOf r.p2 s = some e →
    Gives (.getZone r0) s (fun t =>
      Answered r (6) ([]) s t ∧
      OnlyRegs [] s t ∧
      t = { s with seals := t.seals, sent := t.sent } ∧
      SameMem s t)) ∧
  (∀ (r0 : Bool) (r : ProofReq) (s : State),
    nextReq 3 s = some r →
    1 ≤ r.p2 →
    r.p2 ≤ 256 →
    (entryAt r.p1 s).isSome = true →
    r0 = true →
    Gives (.getChain r0) s (fun t =>
      (Answered r (0) (((List.range r.p2).filterMap (fun i => (entryAt (r.p1 + i) s).map (·.bytes))).flatten) s t) ∧
      OnlyRegs [] s t ∧
      t = { s with seals := t.seals, sent := t.sent } ∧
      SameMem s t)) ∧
  (∀ (r0 : Bool) (r : ProofReq) (s : State),
    nextReq 3 s = some r →
    entryAt r.p1 s = none →
    Gives (.getChain r0) s (fun t =>
      ((256 < r.p2 → Answered r (7) ([]) s t)) ∧
      ((r.p2 = 0 → Answered r (1) ([]) s t)) ∧
      ((1 ≤ r.p2 → r.p2 ≤ 256 → Answered r (4) ([]) s t)) ∧
      OnlyRegs [] s t ∧
      t = { s with seals := t.seals, sent := t.sent } ∧
      SameMem s t)) ∧
  (∀ (r0 : Bool) (r : ProofReq) (s : State),
    nextReq 3 s = some r →
    Gives (.getChain r0) s (fun t =>
      ((256 < r.p2 → Answered r (7) ([]) s t)) ∧
      ((r.p2 = 0 → Answered r (1) ([]) s t)) ∧
      ((1 ≤ r.p2 → r.p2 ≤ 256 → (entryAt r.p1 s).isSome = true → r0 = false → Answered r (6) ([]) s t)) ∧
      OnlyRegs [] s t ∧
      t = { s with seals := t.seals, sent := t.sent } ∧
      SameMem s t)) ∧
  (∀ (b : List (Option Nat)) (r0 : Bool) (z : Nat) (r : ProofReq) (e : SealEntry) (s : State),
    nextReq 4 s = some r →
    r.p1 < 64 →
    r.p2 < nsLbas r.p1 s →
    zoneOfBlock r.p1 (r.p2 / lbasPerBlock r.p1 s) s = z →
    sealOf z s = some e →
    r0 = true →
    Gives (.getProof b r0) s (fun t =>
      (Answered r (0) (proofData r.p1 z (r.p2 / lbasPerBlock r.p1 s % 65536) ((List.range 16).map (fun j => match b.getD j none with | none => 0 | some d => leafHash r.p1 ((r.p2 / lbasPerBlock r.p1 s - r.p2 / lbasPerBlock r.p1 s % 65536 % 16 + j) * lbasPerBlock r.p1 s) d)) e s) s t) ∧
      OnlyRegs [] s t ∧
      t = { s with seals := t.seals, sent := t.sent } ∧
      SameMem s t)) ∧
  (∀ (b : List (Option Nat)) (r0 : Bool) (r : ProofReq) (s : State),
    nextReq 4 s = some r →
    (64 ≤ r.p1 ∨ nsLbas r.p1 s ≤ r.p2) →
    Gives (.getProof b r0) s (fun t =>
      Answered r (1) ([]) s t ∧
      OnlyRegs [] s t ∧
      t = { s with seals := t.seals, sent := t.sent } ∧
      SameMem s t)) ∧
  (∀ (b : List (Option Nat)) (r0 : Bool) (r : ProofReq) (e : SealEntry) (s : State),
    nextReq 4 s = some r →
    r.p1 < 64 →
    r.p2 < nsLbas r.p1 s →
    Gives (.getProof b r0) s (fun t =>
      ((sealOf (zoneOfBlock r.p1 (r.p2 / lbasPerBlock r.p1 s) s) s = none → Answered r (3) ([]) s t)) ∧
      ((sealOf (zoneOfBlock r.p1 (r.p2 / lbasPerBlock r.p1 s) s) s = some e → r0 = false → Answered r (6) ([]) s t)) ∧
      OnlyRegs [] s t ∧
      t = { s with seals := t.seals, sent := t.sent } ∧
      SameMem s t)) ∧
  (∀ (a b : Bool) (r : ProofReq) (s : State),
    nextReq 5 s = some r →
    (s.seals.queue.head?.any (fun z => sealReady z s) = false) →
    attestBlocked s = [] →
    (a = true ∨ b = true) →
    Gives (.attest a b) s (fun t =>
      Answered r (0) (reportBody r.nonce s ++ bytesOf 132 (sealSign (reportBody r.nonce s) s)) s t ∧
      OnlyRegs [] s t ∧
      t = { s with seals := t.seals, sent := t.sent } ∧
      SameMem s t)) ∧
  (∀ (a b : Bool) (n : Nat) (r : ProofReq) (s : State),
    nextReq 5 s = some r →
    (s.seals.queue.head?.any (fun z => sealReady z s) = false) →
    attestBlocked s = [n] →
    Gives (.attest a b) s (fun t =>
      Answered r (n) ([]) s t ∧
      OnlyRegs [] s t ∧
      t = { s with seals := t.seals, sent := t.sent } ∧
      SameMem s t)) ∧
  (∀ (a b : Bool) (r : ProofReq) (s : State),
    nextReq 5 s = some r →
    (s.seals.queue.head?.any (fun z => sealReady z s) = false) →
    attestBlocked s = [] →
    a = false →
    b = false →
    Gives (.attest a b) s (fun t =>
      get Reg.SEAL_STAT.FAULT t = 1 ∧
      t.seals.stopped = true ∧
      Answered r 3 [] (signFails s) t ∧
      OnlyRegs [Reg.SEAL_STAT.FAULT] s t ∧
      t = { s with regs := t.regs, seals := t.seals, sys := t.sys, evr := t.evr, sent := t.sent, host := { s.host with msixPend := t.host.msixPend } } ∧
      SameMem s t)) ∧
  (∀ (a b : Bool) (r : ProofReq) (s : State),
    nextReq 5 s = some r →
    (s.seals.queue.head?.any (fun z => sealReady z s) = false) →
    attestBlocked s ≠ [] →
    Gives (.attest a b) s (fun t =>
      Answered r (pickOpen (attestBlocked s) s) [] s t ∧
      pickOpen (attestBlocked s) s ∈ attestBlocked s ∧
      (t.free = (if (attestBlocked s).length ≤ 1 then s.free else s.free + 1)) ∧
      OnlyRegs [] s t ∧
      t = { s with seals := t.seals, sent := t.sent, free := t.free } ∧
      SameMem s t)) ∧
  (∀ (a b : Bool) (r : ProofReq) (s : State),
    nextReq 5 s = some r →
    (s.seals.queue.head?.any (fun z => sealReady z s) = true) →
    Gives (.attest a b) s (fun t =>
      t = s ∧
      OnlyRegs [] s t ∧
      SameMem s t)) ∧
  (∀ (r : ProofReq) (s : State),
    nextReq 6 s = some r →
    Gives (.getCert) s (fun t =>
      ((get Reg.SEAL_STAT.PROV s = 0 → Answered r (5) ([]) s t)) ∧
      ((get Reg.SEAL_STAT.PROV s ≠ 0 → Answered r (0) (bytesOf 132 (pubKey s) ++ certBytes s) s t)) ∧
      OnlyRegs [] s t ∧
      t = { s with seals := t.seals, sent := t.sent } ∧
      SameMem s t)) ∧
  (∀ (p : Port) (g a : Nat) (r : ProofReq) (q : Nat × List Nat) (s : State),
    (s.seals.reqs.find? (fun r => r.port == p && r.tag % 65536 == g) = some r) →
    r.resp = some q →
    Gives (.proofReceive p g a) s (fun t =>
      t.sent = s.sent ++ [.proof p ((bytesOf 4 r.tag ++ bytesOf 2 q.1 ++ [0, 0] ++ bytesOf 4 q.2.length ++ [0, 0, 0, 0] ++ q.2).take a)] ∧
      (t.seals.reqs = (if 16 + q.2.length ≤ a then s.seals.reqs.erase r else s.seals.reqs)) ∧
      OnlyRegs [] s t ∧
      t = { s with seals := t.seals, sent := t.sent } ∧
      SameMem s t)) ∧
  (∀ (p : Port) (g a : Nat) (r : ProofReq) (s : State),
    (s.seals.reqs.find? (fun r => r.port == p && r.tag % 65536 == g) = some r) →
    r.resp = none →
    Gives (.proofReceive p g a) s (fun t =>
      t.seals.recvs = s.seals.recvs ++ [(p, g, a)] ∧
      t.seals.reqs = s.seals.reqs ∧
      OnlyRegs [] s t ∧
      t = { s with seals := t.seals } ∧
      SameMem s t)) ∧
  (∀ (p : Port) (g a : Nat) (s : State),
    (s.seals.reqs.find? (fun r => r.port == p && r.tag % 65536 == g) = none) →
    Gives (.proofReceive p g a) s (fun t =>
      t.sent = s.sent ++ [.proof p ((bytesOf 4 g ++ bytesOf 2 2 ++ List.replicate 10 0).take a)] ∧
      OnlyRegs [] s t ∧
      t = { s with sent := t.sent } ∧
      SameMem s t)) ∧
  (∀ (p : Port) (g n : Nat) (r : ProofReq) (s : State),
    (s.seals.reqs.find? (fun r => r.port == p && r.tag == g && r.resp.isSome) = some r) →
    60 ≤ n →
    Gives (.proofResponseExpiry p g n) s (fun t =>
      t.seals.reqs = s.seals.reqs.erase r ∧
      OnlyRegs [] s t ∧
      t = { s with seals := t.seals, sent := t.sent } ∧
      SameMem s t)) ∧
  (∀ (q : Nat) (l : List Nat) (s : State),
    s.seals.toWit = q :: l →
    Gives (.witnessRequest) s (fun t =>
      t.seals.toWit = l ∧
      (t.seals.wits = s.seals.wits ++ (if get Reg.SEAL_CTL.WIT_EN s = 1 then (witnessPeers s).map (fun p => { peer := p, seq := q }) else [])) ∧
      OnlyBlocks [26] s t ∧
      SameMem s t)) ∧
  (∀ (p q : Nat) (ky : List Nat) (x : WitReq) (e : SealEntry) (st : List Nat) (s : State),
    (s.seals.wits.find? (fun w => w.peer == p && w.seq == q) = some x) →
    entryAt q s = some e →
    Gives (.witnessStatement p q st ky) s (fun t =>
      ((statementFits st ky e = true → statementVerifies st ky = true → 1 ≤ s.seals.logFree → t.seals.wits = s.seals.wits.erase x ∧ t.seals.stmts = s.seals.stmts ++ [(st ++ List.replicate 24 0 ++ ky ++ List.replicate 4096 0).take 4096] ∧ t.seals.logFree = s.seals.logFree - 1 ∧ get Reg.SEAL_CNT.WITNESSED t = (get Reg.SEAL_CNT.WITNESSED s + 1) % 2 ^ Reg.SEAL_CNT.WITNESSED.width)) ∧
      ((statementFits st ky e = true → statementVerifies st ky = true → s.seals.logFree = 0 → s.zmg.spares = [] → get Reg.SEAL_STAT.LOG_FULL t = 1 ∧ t.seals = s.seals)) ∧
      ((statementFits st ky e = false ∨ statementVerifies st ky = false → t = s)) ∧
      OnlyRegs [Reg.SEAL_CNT.WITNESSED, Reg.SEAL_LOG.LEFT, Reg.SEAL_LOG.ZONES, Reg.SEAL_STAT.LOG_FULL, Reg.ZMG_SPARE.FREE] s t ∧
      t = { s with regs := t.regs, seals := t.seals, zmg := t.zmg, sys := t.sys, evr := t.evr, sent := t.sent, host := { s.host with msixPend := t.host.msixPend } } ∧
      SameMem s t)) ∧
  (∀ (p q n : Nat) (x : WitReq) (s : State),
    (s.seals.wits.find? (fun w => w.peer == p && w.seq == q) = some x) →
    get Reg.SEAL_WIT_TMO.TMO_MS s ≤ n →
    x.tries < get Reg.SEAL_WIT_TMO.RETRIES s →
    Gives (.witnessTimeout p q n) s (fun t =>
      (t.seals.wits = s.seals.wits.map (fun y => if y = x then { y with tries := y.tries + 1 } else y)) ∧
      OnlyBlocks [26] s t ∧
      SameMem s t)) ∧
  (∀ (p q n : Nat) (x : WitReq) (s : State),
    (s.seals.wits.find? (fun w => w.peer == p && w.seq == q) = some x) →
    get Reg.SEAL_WIT_TMO.TMO_MS s ≤ n →
    get Reg.SEAL_WIT_TMO.RETRIES s ≤ x.tries →
    Gives (.witnessTimeout p q n) s (fun t =>
      t.seals.wits = s.seals.wits.erase x ∧
      OnlyRegs [] s t ∧
      t = { s with seals := t.seals, sys := t.sys, evr := t.evr, sent := t.sent, host := { s.host with msixPend := t.host.msixPend } } ∧
      SameMem s t))

/-- The host ports: lanes, links, resets, nexuses, power demands, the sideband, pins. Rests on R36, R37, R59, R339, R340, R343,
R344, R345, R346, R350, R352, R355. Where it meets them it rests on choices of the model: log entries 128, 131, 132, 133, 134,
135, 136, 152. -/
def Obligations.HostPortsTrainResetAndDemand : Prop :=
  (∀ (l : List Nat) (s : State),
    ((List.range 7).filter (fun n => l.contains n && !(s.host.dead.contains n)) = []) →
    Gives (.hostLanePromotion l) s (fun t =>
      t = s)) ∧
  (∀ (l : List Nat) (n : Nat) (d : List Nat) (s : State),
    ((List.range 7).filter (fun n => l.contains n && !(s.host.dead.contains n)) = n :: d) →
    get Reg.HPC_HLANE.AUTO s = 1 →
    get Reg.HPC_HLANE.SEL s = 7 →
    Gives (.hostLanePromotion l) s (fun t =>
      bit Reg.HPC_HLANE.FAILED n t = true ∧
      get Reg.HPC_HLANE.SEL t = n ∧
      get Reg.SPR_STAT.PROMOS t = (get Reg.SPR_STAT.PROMOS s + 1) % 2 ^ Reg.SPR_STAT.PROMOS.width ∧
      t.host.dead = s.host.dead ++ n :: d ∧
      OnlyRegs [Reg.HPC_HLANE.FAILED, Reg.HPC_HLANE.SEL, Reg.SPR_STAT.PROMOS, Reg.SPR_INV.HOST] s t ∧
      t = { s with regs := t.regs, host := t.host, sys := t.sys, evr := t.evr, sent := t.sent } ∧
      SameMem s t)) ∧
  (∀ (l : List Nat) (n : Nat) (d : List Nat) (s : State),
    ((List.range 7).filter (fun n => l.contains n && !(s.host.dead.contains n)) = n :: d) →
    (get Reg.HPC_HLANE.AUTO s ≠ 1 ∨ get Reg.HPC_HLANE.SEL s ≠ 7) →
    Gives (.hostLanePromotion l) s (fun t =>
      bit Reg.HPC_HLANE.FAILED n t = true ∧
      t.host.dead = s.host.dead ++ n :: d ∧
      OnlyRegs [Reg.HPC_HLANE.FAILED] s t ∧
      t = { s with regs := t.regs, host := t.host } ∧
      SameMem s t)) ∧
  (∀ (r w : Nat) (s : State),
    portsTrain s = true →
    get Reg.HPC_LINK.UP s = 0 →
    s.pins.perstN = true →
    1 ≤ r →
    r ≤ get Reg.HPC_CFG.MAX_SPEED s →
    r < 8 →
    (w = 1 ∨ w = 2 ∨ w = 4) →
    w ≤ maxWidth s →
    Gives (.hostLinkUp .pcie r w) s (fun t =>
      get Reg.HPC_LINK.UP t = 1 ∧
      get Reg.HPC_LINK.SPEED t = r ∧
      get Reg.HPC_LINK.WIDTH t = w ∧
      get Reg.HPC_DEMAND.MODE t = 3 ∧
      get Reg.HPC_DEMAND.LEVEL t = 255 ∧
      OnlyRegs [Reg.HPC_LINK.SPEED, Reg.HPC_LINK.WIDTH, Reg.HPC_LINK.UP, Reg.HPC_LINK.L1, Reg.SYS_CLK_STAT.REFCLK_OK, Reg.HPC_DEMAND.MODE, Reg.HPC_DEMAND.LEVEL, Reg.HPC_DEMAND.CHG] s t ∧
      t = { s with regs := t.regs, pins := t.pins, sys := t.sys, evr := t.evr, sent := t.sent, host := { s.host with msixPend := t.host.msixPend } } ∧
      SameMem s t)) ∧
  (∀ (r w : Nat) (s : State),
    portsTrain s = true →
    get Reg.HST_LINK.UP s = 0 →
    get Reg.HST_CFG.EN s = 1 →
    1 ≤ r →
    r ≤ get Reg.HST_CFG.MAX_GEN s →
    r < 4 →
    laneWorks 6 s = true →
    Gives (.hostLinkUp .sata r w) s (fun t =>
      get Reg.HST_LINK.UP t = 1 ∧
      get Reg.HST_LINK.GEN t = r ∧
      get Reg.HST_DEMAND.MODE t = 3 ∧
      get Reg.HST_DEMAND.LEVEL t = 255 ∧
      OnlyRegs [Reg.HST_LINK.GEN, Reg.HST_LINK.UP, Reg.HST_LINK.PSTATE, Reg.HST_DEMAND.MODE, Reg.HST_DEMAND.LEVEL, Reg.HST_DEMAND.CHG] s t ∧
      OnlyEvents s t ∧
      SameMem s t)) ∧
  (∀ (p : Port) (r w k : Nat) (s : State),
    portsTrain s = true →
    (p = .sas0 ∧ k = 0 ∨ p = .sas1 ∧ k = 1) →
    get (Reg.HSA_LINK.UP k) s = 0 →
    get (Reg.HSA_CFG.EN k) s = 1 →
    r ≤ get (Reg.HSA_CFG.MAX_RATE k) s →
    r < 4 →
    laneWorks (4 + k) s = true →
    Gives (.hostLinkUp p r w) s (fun t =>
      get (Reg.HSA_LINK.UP k) t = 1 ∧
      get (Reg.HSA_LINK.RATE k) t = r ∧
      get Reg.HSA_DEMAND.MODE t = 3 ∧
      get Reg.HSA_DEMAND.LEVEL t = 255 ∧
      OnlyRegs [Reg.HSA_LINK.RATE k, Reg.HSA_LINK.UP k, Reg.HSA_LINK.PSTATE k, Reg.HSA_DEMAND.MODE, Reg.HSA_DEMAND.LEVEL, Reg.HSA_DEMAND.CHG] s t ∧
      OnlyEvents s t ∧
      SameMem s t)) ∧
  (∀ (s : State),
    get Reg.HPC_LINK.UP s = 1 →
    Gives (.pcieLinkDown) s (fun t =>
      get Reg.HPC_LINK.UP t = 0 ∧
      get Reg.HPC_LINK.SPEED t = 0 ∧
      get Reg.HPC_LINK.WIDTH t = 0 ∧
      get Reg.HPC_PM.DSTATE t = 0 ∧
      get Reg.HPC_PM.PS t = 0 ∧
      (t.cmd.ctxs = s.cmd.ctxs.filter (fun c => c.cmd.port != .pcie)) ∧
      get Reg.HPC_DEMAND.MODE t = 0 ∧
      get Reg.HPC_DEMAND.LEVEL t = 0 ∧
      OnlyRegs [Reg.HPC_LINK.SPEED, Reg.HPC_LINK.WIDTH, Reg.HPC_LINK.UP, Reg.HPC_LINK.L1, Reg.HPC_PM.DSTATE, Reg.HPC_PM.PS, Reg.CMD_POOL_STAT.USED, Reg.CMD_EXEC_STAT.EXEC, Reg.CMD_ST_STAT.STATE, Reg.HPC_DEMAND.MODE, Reg.HPC_DEMAND.LEVEL, Reg.HPC_DEMAND.CHG] s t ∧
      t = { s with regs := t.regs, cmd := t.cmd, sys := t.sys, evr := t.evr, sent := t.sent, host := { s.host with msixPend := t.host.msixPend } } ∧
      SameMem s t)) ∧
  (∀ (n : Nat) (s : State),
    Gives (.pcieRefclkLoss n) s (fun t =>
      get Reg.SYS_CLK_STAT.REFCLK_OK t = 0 ∧
      t.pins.refclk = false ∧
      ((10000 < n → get Reg.HPC_LINK.UP s = 1 → get Reg.HPC_LINK.UP t = 0 ∧ get Reg.HPC_DEMAND.MODE t = 0)) ∧
      ((n ≤ 10000 → t.cmd = s.cmd ∧ get Reg.HPC_LINK.UP t = get Reg.HPC_LINK.UP s)) ∧
      OnlyRegs [Reg.SYS_CLK_STAT.REFCLK_OK, Reg.HPC_LINK.SPEED, Reg.HPC_LINK.WIDTH, Reg.HPC_LINK.UP, Reg.HPC_LINK.L1, Reg.HPC_PM.DSTATE, Reg.HPC_PM.PS, Reg.CMD_POOL_STAT.USED, Reg.CMD_EXEC_STAT.EXEC, Reg.CMD_ST_STAT.STATE, Reg.HPC_DEMAND.MODE, Reg.HPC_DEMAND.LEVEL, Reg.HPC_DEMAND.CHG] s t ∧
      t = { s with regs := t.regs, pins := t.pins, cmd := t.cmd, sys := t.sys, evr := t.evr, sent := t.sent, host := { s.host with msixPend := t.host.msixPend } } ∧
      SameMem s t)) ∧
  (∀ (s : State),
    s.pins.perstN = true →
    Gives (.perstNAssert) s (fun t =>
      t.pins.perstN = false ∧
      get Reg.HPC_LINK.PERST t = 0 ∧
      get Reg.HPC_LINK.UP t = 0 ∧
      get Reg.HPC_LINK.SPEED t = 0 ∧
      get Reg.HPC_LINK.WIDTH t = 0 ∧
      get Reg.HPC_PM.DSTATE t = 0 ∧
      get Reg.HPC_PM.PS t = 0 ∧
      (t.cmd.ctxs = s.cmd.ctxs.filter (fun c => c.cmd.port != .pcie)) ∧
      (get Reg.HPC_DEMAND.MODE t = (if get Reg.HPC_PM.DSTATE s = 3 ∧ get Reg.HPC_PM.D3C_STBY s = 1 then 1 else 0)) ∧
      get Reg.HPC_DEMAND.LEVEL t = 0 ∧
      OnlyRegs [Reg.HPC_LINK.PERST, Reg.HPC_LINK.SPEED, Reg.HPC_LINK.WIDTH, Reg.HPC_LINK.UP, Reg.HPC_LINK.L1, Reg.HPC_PM.DSTATE, Reg.HPC_PM.PS, Reg.CMD_POOL_STAT.USED, Reg.CMD_EXEC_STAT.EXEC, Reg.CMD_ST_STAT.STATE, Reg.HPC_DEMAND.MODE, Reg.HPC_DEMAND.LEVEL, Reg.HPC_DEMAND.CHG] s t ∧
      t = { s with regs := t.regs, pins := t.pins, host := t.host, cmd := t.cmd, sys := t.sys, evr := t.evr, sent := t.sent } ∧
      SameMem s t)) ∧
  (∀ (s : State),
    s.pins.perstN = false →
    Gives (.perstNRelease) s (fun t =>
      t.pins.perstN = true ∧
      get Reg.HPC_LINK.PERST t = 1 ∧
      ((s.host.d3cold = true → get Reg.HPC_DEMAND.MODE t = 0 ∧ t.host.d3cold = false)) ∧
      ((s.host.d3cold = false → get Reg.HPC_DEMAND.MODE t = get Reg.HPC_DEMAND.MODE s)) ∧
      OnlyRegs [Reg.HPC_LINK.PERST, Reg.HPC_DEMAND.MODE, Reg.HPC_DEMAND.LEVEL, Reg.HPC_DEMAND.CHG] s t ∧
      t = { s with regs := t.regs, pins := t.pins, host := t.host, sys := t.sys, evr := t.evr, sent := t.sent } ∧
      SameMem s t)) ∧
  (∀ (s : State),
    get Reg.HPC_LINK.UP s = 1 →
    Gives (.functionLevelReset) s (fun t =>
      get Reg.HPC_PM.DSTATE t = 0 ∧
      get Reg.HPC_PM.PS t = 0 ∧
      (t.cmd.ctxs = s.cmd.ctxs.filter (fun c => c.cmd.port != .pcie)) ∧
      get Reg.HPC_DEMAND.MODE t = 3 ∧
      get Reg.HPC_DEMAND.LEVEL t = 255 ∧
      OnlyRegs [Reg.HPC_PM.DSTATE, Reg.HPC_PM.PS, Reg.CMD_POOL_STAT.USED, Reg.CMD_EXEC_STAT.EXEC, Reg.CMD_ST_STAT.STATE, Reg.HPC_DEMAND.MODE, Reg.HPC_DEMAND.LEVEL, Reg.HPC_DEMAND.CHG] s t ∧
      t = { s with regs := t.regs, cmd := t.cmd, sys := t.sys, evr := t.evr, sent := t.sent, host := { s.host with msixPend := t.host.msixPend } } ∧
      SameMem s t)) ∧
  (∀ (s : State),
    get Reg.HST_LINK.UP s = 1 →
    Gives (.sasSataLinkDown .sata) s (fun t =>
      get Reg.HST_LINK.UP t = 0 ∧
      get Reg.HST_LINK.GEN t = 0 ∧
      get Reg.HST_DEMAND.MODE t = 0 ∧
      get Reg.HST_DEMAND.LEVEL t = 0 ∧
      OnlyRegs [Reg.HST_LINK.GEN, Reg.HST_LINK.UP, Reg.HST_LINK.PSTATE, Reg.HST_DEMAND.MODE, Reg.HST_DEMAND.LEVEL, Reg.HST_DEMAND.CHG] s t ∧
      OnlyEvents s t ∧
      SameMem s t)) ∧
  (∀ (p : Port) (k : Nat) (s : State),
    (p = .sas0 ∧ k = 0 ∨ p = .sas1 ∧ k = 1) →
    get (Reg.HSA_LINK.UP k) s = 1 →
    Gives (.sasSataLinkDown p) s (fun t =>
      get (Reg.HSA_LINK.UP k) t = 0 ∧
      get (Reg.HSA_LINK.RATE k) t = 0 ∧
      ((get (Reg.HSA_LINK.UP (1 - k)) s ≠ 1 → get Reg.HSA_DEMAND.MODE t = 0)) ∧
      ((get (Reg.HSA_LINK.UP (1 - k)) s = 1 → get Reg.HSA_DEMAND.MODE t = get Reg.HSA_DEMAND.MODE s)) ∧
      OnlyRegs [Reg.HSA_LINK.RATE k, Reg.HSA_LINK.UP k, Reg.HSA_LINK.PSTATE k, Reg.HSA_DEMAND.MODE, Reg.HSA_DEMAND.LEVEL, Reg.HSA_DEMAND.CHG] s t ∧
      OnlyEvents s t ∧
      SameMem s t)) ∧
  (∀ (c : HostCmd) (s : State),
    isSas c.port = true →
    s.host.nexus.contains (nexusOf c) = false →
    Gives (.nexusTake c) s (fun t =>
      ((s.boot.recovery = true ∨ storeRuns s = false → t.host = s.host ∧ t.cmd = s.cmd ∧ t.sent = s.sent)) ∧
      ((s.boot.recovery = false → storeRuns s = true → get Reg.SYS_MODE.ACT s = 1 → get Reg.CMD_ACT_HELD.SAS_BUSY t = (get Reg.CMD_ACT_HELD.SAS_BUSY s + 1) % 2 ^ Reg.CMD_ACT_HELD.SAS_BUSY.width ∧ t.host = s.host ∧ t.cmd = s.cmd ∧ t.sent = s.sent ++ [statusMsg c.port c.nexus c.tag .busy 0])) ∧
      ((s.boot.recovery = false → storeRuns s = true → get Reg.SYS_MODE.ACT s ≠ 1 → s.host.nexus.length < 512 → t.host.nexus = s.host.nexus ++ [nexusOf c])) ∧
      ((s.boot.recovery = false → storeRuns s = true → get Reg.SYS_MODE.ACT s ≠ 1 → 512 ≤ s.host.nexus.length → get Reg.HSA_NEXUS.FULL t = 1 ∧ t.cmd = s.cmd ∧ statusMsg c.port c.nexus c.tag .taskSetFull 0 ∈ t.sent)) ∧
      OnlyBlocks [17, 19] s t ∧
      t = { s with regs := t.regs, host := t.host, cmd := t.cmd, sys := t.sys, evr := t.evr, sent := t.sent } ∧
      SameMem s t)) ∧
  (∀ (p n i : Nat) (r : Bool) (s : State),
    p < 2 →
    get Reg.HSA_NEXUS.IDLE_S s ≤ i →
    r = false →
    s.host.ua.contains (p, n) = false →
    (s.cmd.ctxs.any (fun c => isSas c.cmd.port && nexusOf c.cmd == (p, n)) = false) →
    Gives (.nexusIdleFree p n i r) s (fun t =>
      t.host.nexus = s.host.nexus.filter (· != (p, n)) ∧
      OnlyRegs [] s t ∧
      t = { s with host := t.host } ∧
      SameMem s t)) ∧
  (∀ (p n : Nat) (s : State),
    p < 2 →
    Gives (.iTNexusLoss p n) s (fun t =>
      t.host.nexus = s.host.nexus.filter (· != (p, n)) ∧
      t.host.ua = s.host.ua.filter (· != (p, n)) ∧
      OnlyRegs [] s t ∧
      t = { s with host := t.host } ∧
      SameMem s t)) ∧
  (∀ (p : Nat) (s : State),
    p < 2 →
    Gives (.notifyEnableSpinup p) s (fun t =>
      get Reg.HSA_SPINUP.GOT t = 1 ∧
      t.boot.spinHeld = false ∧
      OnlyRegs [Reg.HSA_SPINUP.GOT] s t ∧
      t = { s with regs := t.regs, boot := t.boot } ∧
      SameMem s t)) ∧
  (∀ (c : PowerCond) (d : Nat × Nat) (s : State),
    get Reg.HPC_LINK.UP s = 1 →
    condDemand .pcie c s = some d →
    d.2 < 256 →
    Gives (.powerDemandChange .pcie c) s (fun t =>
      ((c = .ps 0 → get Reg.HPC_PM.PS t = 0)) ∧
      ((c = .ps 1 → get Reg.HPC_PM.PS t = 1)) ∧
      ((c = .ps 2 → get Reg.HPC_PM.PS t = 2)) ∧
      get Reg.HPC_DEMAND.MODE t = d.1 ∧
      get Reg.HPC_DEMAND.LEVEL t = d.2 ∧
      OnlyRegs [Reg.HPC_PM.PS, Reg.HPC_PM.DSTATE, Reg.HPC_DEMAND.MODE, Reg.HPC_DEMAND.LEVEL, Reg.HPC_DEMAND.CHG] s t ∧
      OnlyEvents s t ∧
      SameMem s t)) ∧
  (∀ (c : PowerCond) (s : State),
    get Reg.HPC_LINK.UP s = 1 →
    (c = .d0 ∨ c = .d3hot) →
    Gives (.powerDemandChange .pcie c) s (fun t =>
      (get Reg.HPC_PM.DSTATE t = (if c = .d0 then 0 else 3)) ∧
      ((c = .d3hot → t.sent = s.sent ∧ t.host = s.host)) ∧
      OnlyRegs [Reg.HPC_PM.DSTATE] s t ∧
      t = { s with regs := t.regs, host := t.host, sent := t.sent } ∧
      SameMem s t)) ∧
  (∀ (p : Port) (c : PowerCond) (d : Nat × Nat) (s : State),
    (p = .sata ∨ p = .sas0 ∨ p = .sas1) →
    isUp p s = true →
    condDemand p c s = some d →
    d.2 < 256 →
    Gives (.powerDemandChange p c) s (fun t =>
      ((p = .sata → get Reg.HST_DEMAND.MODE t = d.1 ∧ get Reg.HST_DEMAND.LEVEL t = d.2)) ∧
      ((p ≠ .sata → get Reg.HSA_DEMAND.MODE t = d.1 ∧ get Reg.HSA_DEMAND.LEVEL t = d.2)) ∧
      OnlyRegs [Reg.HST_DEMAND.MODE, Reg.HST_DEMAND.LEVEL, Reg.HST_DEMAND.CHG, Reg.HSA_DEMAND.MODE, Reg.HSA_DEMAND.LEVEL, Reg.HSA_DEMAND.CHG] s t ∧
      OnlyEvents s t ∧
      SameMem s t)) ∧
  (∀ (a b : Bool) (n : Nat) (s : State),
    mode s = 4 →
    get Reg.HPC_LINK.UP s = 1 →
    Gives (.linkLowPowerEntry .pcie a b n) s (fun t =>
      (get Reg.HPC_LINK.L1 t = (if b = true ∧ 10000 ≤ n then 1 else get Reg.HPC_LINK.L1 s)) ∧
      OnlyRegs [Reg.HPC_LINK.L1] s t ∧
      OnlyRegisters s t ∧
      SameMem s t)) ∧
  (∀ (a b : Bool) (n : Nat) (s : State),
    mode s = 4 →
    get Reg.HST_LINK.UP s = 1 →
    Gives (.linkLowPowerEntry .sata a b n) s (fun t =>
      (get Reg.HST_LINK.PSTATE t = (if b = true ∧ get Reg.HST_CFG.DIPM_ALLOW s = 1 then 2 else get Reg.HST_LINK.PSTATE s)) ∧
      OnlyRegs [Reg.HST_LINK.PSTATE] s t ∧
      OnlyRegisters s t ∧
      SameMem s t)) ∧
  (∀ (p : Port) (a b : Bool) (n k : Nat) (s : State),
    (p = .sas0 ∧ k = 0 ∨ p = .sas1 ∧ k = 1) →
    mode s = 4 →
    get (Reg.HSA_LINK.UP k) s = 1 →
    Gives (.linkLowPowerEntry p a b n) s (fun t =>
      (get (Reg.HSA_LINK.PSTATE k) t = (if b = true ∧ get (Reg.HSA_CFG.SLUMBER_EN k) s = 1 then 2 else if a = true ∧ get (Reg.HSA_CFG.PARTIAL_EN k) s = 1 then 1 else get (Reg.HSA_LINK.PSTATE k) s)) ∧
      OnlyRegs [Reg.HSA_LINK.PSTATE k] s t ∧
      OnlyRegisters s t ∧
      SameMem s t)) ∧
  (∀ (a : Nat) (l : List Nat) (p : Bool) (s : State),
    s.pins.rails = true →
    a = get Reg.SMB_CFG.ADDR s →
    get Reg.SMB_CFG.EN s = 1 →
    Gives (.smbusPacket a l p) s (fun t =>
      ((smbAcks s = false → get Reg.SMB_ERR.NACK t = (get Reg.SMB_ERR.NACK s + 1) % 2 ^ Reg.SMB_ERR.NACK.width ∧ t.host = s.host)) ∧
      ((smbAcks s = true → p = false → get Reg.SMB_ERR.PEC t = (get Reg.SMB_ERR.PEC s + 1) % 2 ^ Reg.SMB_ERR.PEC.width ∧ t.host = { s.host with msixPend := t.host.msixPend })) ∧
      ((smbAcks s = true → p = true → adminServed .sideband s = false → t.host.smb = s.host.smb ++ [l])) ∧
      ((smbAcks s = true → p = true → adminServed .sideband s = true → t.host = { s.host with mctp := s.host.mctp ++ [l], msixPend := t.host.msixPend })) ∧
      OnlyRegs [Reg.SMB_ERR.NACK, Reg.SMB_ERR.PEC] s t ∧
      t = { s with regs := t.regs, host := t.host, sys := t.sys, evr := t.evr, sent := t.sent } ∧
      SameMem s t)) ∧
  (∀ (n : Nat) (s : State),
    25 ≤ n →
    Gives (.smbusClockLowTimeout n) s (fun t =>
      get Reg.SMB_ERR.TIMEOUT t = (get Reg.SMB_ERR.TIMEOUT s + 1) % 2 ^ Reg.SMB_ERR.TIMEOUT.width ∧
      get Reg.SMB_STAT.BUSY t = 0 ∧
      OnlyRegs [Reg.SMB_ERR.TIMEOUT, Reg.SMB_STAT.BUSY] s t ∧
      OnlyEvents s t ∧
      SameMem s t)) ∧
  (∀ (s : State),
    Gives (.calrefLoss) s (fun t =>
      get Reg.SYS_CLK_STAT.CALREF_OK t = 0 ∧
      t.pins.calref = false ∧
      t.cal = { s.cal with traced := false } ∧
      OnlyRegs [Reg.SYS_CLK_STAT.CALREF_OK] s t ∧
      t = { s with regs := t.regs, pins := t.pins, cal := t.cal } ∧
      SameMem s t)) ∧
  (∀ (s : State),
    Gives (.jtagTrstNAssert) s (fun t =>
      t.pins = { s.pins with trstN := false, tapReset := true } ∧
      OnlyRegs [] s t ∧
      t = { s with pins := t.pins } ∧
      SameMem s t))

/-- The command store: arrival, stamps, execution, aborts, port resets. Rests on R357, R358, R359, R360, R361, R362, R373, R374,
R375, R376, R377. Where it meets them it rests on choices of the model: log entries 14, 121, 122, 123, 124, 125, 128, 130, 271,
272, 273. -/
def Obligations.CommandsAreStampedAndStarted : Prop :=
  (∀ (x : HostCmd) (s : State),
    s.boot.recovery = false →
    storeRuns s = true →
    (get Reg.SYS_MODE.ACT s ≠ 1 ∨ x.port = .internal ∨ x.port = .sideband) →
    (isSas x.port = false ∨ hasNexus x s = true ∧ (s.host.ua.contains (nexusOf x) = false ∨ isMedia x.op = false)) →
    hasRoom (ctxClass x) s = true →
    Gives (.commandStamp x) s (fun t =>
      t.cmd.ctxs.map (·.stamp) = s.cmd.ctxs.map (·.stamp) ++ [s.cmd.next] ∧
      t.cmd.ctxs.getLast?.map (·.cmd) = some x ∧
      t.cmd.next = (s.cmd.next + 1) % 2 ^ 48 ∧
      get Reg.CMD_STAMP_LO.STAMP t = bits s.cmd.next 0 32 ∧
      get Reg.CMD_STAMP_HI.STAMP t = bits s.cmd.next 32 16 ∧
      (t.host.nexus = (if isSas x.port = true ∧ s.host.nexus.contains (nexusOf x) = false then s.host.nexus ++ [nexusOf x] else s.host.nexus)) ∧
      t.host.ua = s.host.ua ∧
      OnlyBlocks [16, 17, 18, 19] s t ∧
      t = { s with regs := t.regs, cmd := t.cmd, host := t.host, sys := t.sys, evr := t.evr, sent := t.sent } ∧
      SameMem s t)) ∧
  (∀ (x : HostCmd) (s : State),
    s.boot.recovery = false →
    storeRuns s = true →
    (get Reg.SYS_MODE.ACT s ≠ 1 ∨ x.port = .internal ∨ x.port = .sideband) →
    (isSas x.port = false ∨ hasNexus x s = true ∧ (s.host.ua.contains (nexusOf x) = false ∨ isMedia x.op = false)) →
    hasRoom (ctxClass x) s = false →
    Gives (.commandStamp x) s (fun t =>
      get Reg.CMD_POOL_STAT.FULL t = 1 ∧
      t.cmd = s.cmd ∧
      ((ctxClass x = 2 → isSas x.port = true → statusMsg x.port x.nexus x.tag .taskSetFull 0 ∈ t.sent)) ∧
      OnlyRegs [Reg.CMD_POOL_STAT.FULL, Reg.HSA_LINK.PSTATE 0, Reg.HSA_LINK.PSTATE 1, Reg.HST_LINK.PSTATE, Reg.HPC_LINK.L1] s t ∧
      t = { s with regs := t.regs, host := t.host, sys := t.sys, evr := t.evr, sent := t.sent } ∧
      SameMem s t)) ∧
  (∀ (x : HostCmd) (s : State),
    s.boot.recovery = false →
    storeRuns s = true →
    get Reg.SYS_MODE.ACT s = 1 →
    x.port = .sata →
    s.cmd.held.length < 32 →
    Gives (.commandStamp x) s (fun t =>
      get Reg.CMD_ACT_HELD.SATA t = s.cmd.held.length + 1 ∧
      t.cmd.held = s.cmd.held ++ [x] ∧
      t.cmd.ctxs = s.cmd.ctxs ∧
      OnlyRegs [Reg.CMD_ACT_HELD.SATA, Reg.HST_LINK.PSTATE] s t ∧
      t = { s with regs := t.regs, cmd := t.cmd } ∧
      SameMem s t)) ∧
  (∀ (x : HostCmd) (s : State),
    s.boot.recovery = false →
    storeRuns s = true →
    get Reg.SYS_MODE.ACT s = 1 →
    isSas x.port = true →
    Gives (.commandStamp x) s (fun t =>
      get Reg.CMD_ACT_HELD.SAS_BUSY t = (get Reg.CMD_ACT_HELD.SAS_BUSY s + 1) % 2 ^ Reg.CMD_ACT_HELD.SAS_BUSY.width ∧
      t.sent = s.sent ++ [statusMsg x.port x.nexus x.tag .busy 0] ∧
      OnlyRegs [Reg.CMD_ACT_HELD.SAS_BUSY, Reg.HSA_LINK.PSTATE 0, Reg.HSA_LINK.PSTATE 1] s t ∧
      t = { s with regs := t.regs, sent := t.sent } ∧
      SameMem s t)) ∧
  (∀ (x : HostCmd) (s : State),
    s.boot.recovery = false →
    storeRuns s = true →
    get Reg.SYS_MODE.ACT s ≠ 1 →
    isSas x.port = true →
    s.host.nexus.contains (nexusOf x) = true →
    s.host.ua.contains (nexusOf x) = true →
    isMedia x.op = true →
    Gives (.commandStamp x) s (fun t =>
      t.cmd = s.cmd ∧
      t.sent = s.sent ++ [statusMsg x.port x.nexus x.tag .unitAttention 0] ∧
      t.host.ua = s.host.ua.filter (· != nexusOf x) ∧
      OnlyRegs [Reg.HSA_LINK.PSTATE 0, Reg.HSA_LINK.PSTATE 1] s t ∧
      t = { s with regs := t.regs, host := t.host, sent := t.sent } ∧
      SameMem s t)) ∧
  (∀ (x : HostCmd) (s : State),
    s.boot.recovery = true →
    Gives (.commandStamp x) s (fun t =>
      (t.sent = s.sent ++ (if x.port = .sideband ∧ (x.op = .identify ∨ x.op = .getLog) then [statusMsg x.port x.nexus x.tag .success 0] else [])) ∧
      OnlyRegs [Reg.HSA_LINK.PSTATE 0, Reg.HSA_LINK.PSTATE 1, Reg.HST_LINK.PSTATE, Reg.HPC_LINK.L1] s t ∧
      t = { s with regs := t.regs, sent := t.sent } ∧
      SameMem s t)) ∧
  (∀ (q : Nat) (l : List HostCmd) (s : State),
    s.boot.recovery = false →
    q ≤ 1023 →
    l.length ≤ 8 →
    (l.all (fun c => c.port == .pcie && c.nexus == q) = true) →
    storeRuns s = true →
    get Reg.SYS_MODE.ACT s = 0 →
    s.cmd.next < 2 ^ 48 →
    s.cmd.ctxs.length + 8 ≤ 131072 →
    ([0, 3].all (fun k => decide (classUsed k s + 8 ≤ classCap k s)) = true) →
    Gives (.nvmeFetch q l) s (fun t =>
      t.cmd.ctxs.map (·.cmd) = s.cmd.ctxs.map (·.cmd) ++ l ∧
      t.cmd.next = (s.cmd.next + l.length) % 2 ^ 48 ∧
      OnlyBlocks [16, 19] s t ∧
      t = { s with regs := t.regs, cmd := t.cmd, sys := t.sys, evr := t.evr, sent := t.sent, host := { s.host with msixPend := t.host.msixPend } } ∧
      SameMem s t)) ∧
  (∀ (q k : Nat) (l : List HostCmd) (s : State),
    s.boot.recovery = false →
    q ≤ 1023 →
    l.length ≤ 8 →
    (l.all (fun c => c.port == .pcie && c.nexus == q) = true) →
    storeRuns s = true →
    get Reg.SYS_MODE.ACT s = 0 →
    k ≤ l.length →
    ((List.range k).all (fun i => roomForNth l i s) = true) →
    roomForNth l k s = false →
    Gives (.nvmeFetch q l) s (fun t =>
      t.cmd.ctxs.map (·.cmd) = s.cmd.ctxs.map (·.cmd) ++ l.take k ∧
      ((k < l.length → get Reg.CMD_POOL_STAT.FULL t = 1)) ∧
      OnlyBlocks [16, 19] s t ∧
      t = { s with regs := t.regs, cmd := t.cmd, sys := t.sys, evr := t.evr, sent := t.sent, host := { s.host with msixPend := t.host.msixPend } } ∧
      SameMem s t)) ∧
  (∀ (n : Nat) (c : Ctx) (s : State),
    ctxOf n s = some c →
    mayStart c s = true →
    inTurn c s = true →
    get Reg.CMD_EXEC_STAT.EXEC s < 4096 →
    (refusals { c with started := true, lba := match c.cmd.op with | .write a _ _ => a | _ => 0 } s = []) →
    isWrite c.cmd.op = true →
    Gives (.executionStart n) s (fun t =>
      ((ctxOf n t).map (fun d => (d.cmd, d.started)) = some (c.cmd, true)) ∧
      ((c.cmd.op = .flush false ∨ isWrite c.cmd.op = true → t.cmd.ctxs.length = s.cmd.ctxs.length)) ∧
      OnlyRegs [Reg.CMD_POOL_STAT.USED, Reg.CMD_EXEC_STAT.EXEC] s t ∧
      t = { s with regs := t.regs, cmd := t.cmd } ∧
      SameMem s t)) ∧
  (∀ (n : Nat) (c : Ctx) (s : State),
    ctxOf n s = some c →
    c.stamp = n →
    mayStart c s = true →
    inTurn c s = true →
    get Reg.CMD_EXEC_STAT.EXEC s < 4096 →
    needsNs c.cmd.op = true →
    c.attached = false →
    Gives (.executionStart n) s (fun t =>
      ((c.cmd.port ≠ .fabric → t.sent = s.sent ++ [statusMsg c.cmd.port c.cmd.nexus c.cmd.tag .invalidNs (rangeOf { c with started := true, lba := match c.cmd.op with | .write a _ _ => a | _ => 0 } s).1])) ∧
      ctxOf n t = none ∧
      OnlyRegs [Reg.CMD_POOL_STAT.USED, Reg.CMD_EXEC_STAT.EXEC] s t ∧
      t = { s with regs := t.regs, cmd := t.cmd, fab := t.fab, sent := t.sent } ∧
      SameMem s t)) ∧
  (∀ (n : Nat) (c : Ctx) (s : State),
    ctxOf n s = some c →
    c.stamp = n →
    mayStart c s = true →
    inTurn c s = true →
    get Reg.CMD_EXEC_STAT.EXEC s < 4096 →
    c.cmd.op = .admin →
    c.cmd.naca = false →
    Gives (.executionStart n) s (fun t =>
      ((c.cmd.port ≠ .fabric → t.sent = s.sent ++ [statusMsg c.cmd.port c.cmd.nexus c.cmd.tag .success 0])) ∧
      ctxOf n t = none ∧
      OnlyRegs [Reg.CMD_POOL_STAT.USED, Reg.CMD_EXEC_STAT.EXEC] s t ∧
      t = { s with regs := t.regs, cmd := t.cmd, fab := t.fab, sent := t.sent } ∧
      SameMem s t)) ∧
  (∀ (n : Nat) (c d : Ctx) (x : Status) (s : State),
    ctxOf n s = some c →
    c.stamp = n →
    mayStart c s = true →
    inTurn c s = true →
    get Reg.CMD_EXEC_STAT.EXEC s < 4096 →
    d = startedCtx c →
    Gives (.executionStart n) s (fun t =>
      ((refusals d s = [] → endsAtOnce c.cmd.op = false → (ctxOf n t).map (fun x => (x.cmd, x.started, x.lba)) = some (c.cmd, true, d.lba) ∧ t.sent = s.sent)) ∧
      ((refusals d s = [] → endsAtOnce c.cmd.op = true → ctxOf n t = none ∧ (c.cmd.port ≠ .fabric → t.sent.getLast? = some (statusMsg c.cmd.port c.cmd.nexus c.cmd.tag .success (match c.cmd.op with | .deallocate a _ => a | _ => 0))))) ∧
      ((refusals d s ≠ [] → ctxOf n t = none)) ∧
      ((refusals d s = [x] → c.cmd.port ≠ .fabric → t.sent = s.sent ++ [statusMsg c.cmd.port c.cmd.nexus c.cmd.tag x (rangeOf d s).1])) ∧
      ((2 ≤ (refusals d s).length → pickStatus (refusals d s) s ∈ refusals d s ∧ t.free = s.free + 1 ∧ (c.cmd.port ≠ .fabric → t.sent = s.sent ++ [statusMsg c.cmd.port c.cmd.nexus c.cmd.tag (pickStatus (refusals d s) s) (rangeOf d s).1]))))) ∧
  (∀ (n : Nat) (c : Ctx) (q g : Nat) (s : State),
    ctxOf n s = some c →
    c.started = true →
    (isMedia c.cmd.op && tableWaits c.cmd.ns s) = false →
    c.cmd.op = .abort q g →
    c.stamp = n →
    (s.cmd.ctxs.find? (fun d => d.cmd.port == .pcie && d.cmd.nexus == q && d.cmd.tag == g && d.stamp != n) = none) →
    Gives (.nvmeAbort n) s (fun t =>
      get Reg.CMD_ABORT_CNT.NOT_ABORTED t = (get Reg.CMD_ABORT_CNT.NOT_ABORTED s + 1) % 2 ^ Reg.CMD_ABORT_CNT.NOT_ABORTED.width ∧
      ((c.cmd.port ≠ .fabric → t.sent = s.sent ++ [statusMsg c.cmd.port c.cmd.nexus c.cmd.tag .notAborted 0])) ∧
      ctxOf n t = none ∧
      OnlyRegs [Reg.CMD_POOL_STAT.USED, Reg.CMD_EXEC_STAT.EXEC, Reg.CMD_ABORT_CNT.NOT_ABORTED] s t ∧
      t = { s with regs := t.regs, cmd := t.cmd, fab := t.fab, sent := t.sent } ∧
      SameMem s t)) ∧
  (∀ (n q g : Nat) (c d : Ctx) (s : State),
    ctxOf n s = some c →
    c.started = true →
    c.cmd.op = .abort q g →
    c.stamp = n →
    (s.cmd.ctxs.find? (fun d => d.cmd.port == .pcie && d.cmd.nexus == q && d.cmd.tag == g && d.stamp != n) = some d) →
    Gives (.nvmeAbort n) s (fun t =>
      get Reg.CMD_ABORT_CNT.ABORTED t = (get Reg.CMD_ABORT_CNT.ABORTED s + 1) % 2 ^ Reg.CMD_ABORT_CNT.ABORTED.width ∧
      statusMsg .pcie q g .aborted (rangeOf d s).1 ∈ t.sent ∧
      ctxOf d.stamp t = none ∧
      ctxOf n t = none ∧
      OnlyRegs [Reg.CMD_POOL_STAT.USED, Reg.CMD_EXEC_STAT.EXEC, Reg.CMD_ABORT_CNT.ABORTED] s t ∧
      t = { s with regs := t.regs, cmd := t.cmd, fab := t.fab, sent := t.sent } ∧
      SameMem s t)) ∧
  (∀ (p x g f ns y : Nat) (s : State),
    p < 2 →
    f < 4 →
    s.host.nexus.contains (p, x) = true →
    Gives (.sasTaskManagement p x g f ns y) s (fun t =>
      (t.cmd.ctxs = s.cmd.ctxs.filter (fun c => !(s.cmd.ctxs.any (fun d => d.stamp == c.stamp && tmfHits (if p = 0 then .sas0 else .sas1) x f ns y d)))) ∧
      (t.sent = s.sent ++ [statusMsg (if p = 0 then .sas0 else .sas1) x g .functionComplete 0]) ∧
      OnlyRegs [Reg.CMD_POOL_STAT.USED, Reg.CMD_EXEC_STAT.EXEC, Reg.CMD_ABORT_CNT.ABORTED, Reg.CMD_ABORT_CNT.NOT_ABORTED] s t ∧
      t = { s with regs := t.regs, cmd := t.cmd, fab := t.fab, sent := t.sent } ∧
      SameMem s t)) ∧
  (∀ (s : State),
    s.cmd.ncqFailed = true →
    (s.cmd.ctxs.all (fun d => !d.cmd.ncq || d.cmd.port == .sata) = true) →
    Gives (.ncqFailureAbort) s (fun t =>
      t.cmd.ncqFailed = false ∧
      ((s.cmd.ctxs.filter (·.cmd.ncq)).all (fun d => (ctxOf d.stamp t).isNone) = true) ∧
      OnlyRegs [Reg.CMD_POOL_STAT.USED, Reg.CMD_EXEC_STAT.EXEC, Reg.CMD_ABORT_CNT.ABORTED] s t ∧
      t = { s with regs := t.regs, cmd := t.cmd, fab := t.fab, sent := t.sent } ∧
      SameMem s t)) ∧
  (∀ (p : Port) (s : State),
    isHostPort p = true →
    Gives (.controllerLevelReset p) s (fun t =>
      (t.cmd.ctxs = s.cmd.ctxs.filter (fun c => c.cmd.port != p)) ∧
      ((p = .pcie → get Reg.HPC_PM.PS t = 0 ∧ get Reg.HPC_DEMAND.MODE t = 3 ∧ get Reg.HPC_DEMAND.LEVEL t = 255)) ∧
      ((p = .sata → get Reg.HST_DEMAND.MODE t = 3 ∧ t.cmd.held = s.cmd.held.filter (fun c => c.port != p))) ∧
      ((p = .sas0 → t.host.nexus = s.host.nexus.filter (fun q => q.1 != 0) ∧ get Reg.HSA_DEMAND.MODE t = 3)) ∧
      ((s.cmd.testBy = some p → get Reg.CMD_ST_STAT.STATE t = 0 ∧ t.cmd.testBy = none)) ∧
      OnlyRegs [Reg.CMD_POOL_STAT.USED, Reg.CMD_EXEC_STAT.EXEC, Reg.CMD_ST_STAT.STATE, Reg.CMD_ACT_HELD.SATA, Reg.HPC_PM.PS, Reg.HPC_DEMAND.MODE, Reg.HPC_DEMAND.LEVEL, Reg.HPC_DEMAND.CHG, Reg.HSA_DEMAND.MODE, Reg.HSA_DEMAND.LEVEL, Reg.HSA_DEMAND.CHG, Reg.HST_DEMAND.MODE, Reg.HST_DEMAND.LEVEL, Reg.HST_DEMAND.CHG] s t ∧
      t = { s with regs := t.regs, cmd := t.cmd, host := t.host, sys := t.sys, evr := t.evr, sent := t.sent } ∧
      SameMem s t)) ∧
  (∀ (n : Nat) (b : Bool) (c : Ctx) (s : State),
    ctxOf n s = some c →
    Gives (.contextLost n b) s (fun t =>
      ((b = true → c.stamp = n → get Reg.CMD_ERR.INTERNAL t = (get Reg.CMD_ERR.INTERNAL s + 1) % 2 ^ Reg.CMD_ERR.INTERNAL.width)) ∧
      ((b = false → get Reg.CMD_ERR.LOST t = (get Reg.CMD_ERR.LOST s + 1) % 2 ^ Reg.CMD_ERR.LOST.width ∧ t.sent = s.sent)) ∧
      ((c.stamp = n → ctxOf n t = none)) ∧
      OnlyRegs [Reg.CMD_POOL_STAT.USED, Reg.CMD_EXEC_STAT.EXEC, Reg.CMD_ERR.INTERNAL, Reg.CMD_ERR.LOST] s t ∧
      t = { s with regs := t.regs, cmd := t.cmd, fab := t.fab, sys := t.sys, evr := t.evr, sent := t.sent, host := { s.host with msixPend := t.host.msixPend } } ∧
      SameMem s t))

/-- The command store: the write cache, reads, flush, lost writes, self-tests. Rests on R208, R223, R364, R365, R366, R367, R368,
R370, R371, R378, R379, R381. Where it meets them it rests on choices of the model: log entries 50, 54, 55, 123, 126, 127, 128,
129, 271. -/
def Obligations.WritesReadsFlushesAndSelfTests : Prop :=
  (∀ (n : Nat) (c : Ctx) (b d v : Nat) (g : Bool) (s : State),
    ctxOf n s = some c →
    c.started = true →
    (isMedia c.cmd.op && tableWaits c.cmd.ns s) = false →
    c.stamp = n →
    stagedData c b d s = some v →
    mayAccept c b s = true →
    notReady c.cmd.op s = none →
    g = true →
    cacheRoom c.cmd.ns b s = true →
    Gives (.writeAccept n b d g) s (fun t =>
      (((ctxOf n t).map (fun x => x.got)) = some (c.got ++ [b])) ∧
      ((lineOf c.cmd.ns b t).map (fun l => (l.ns, l.blk)) = some (c.cmd.ns, b)) ∧
      ((lineOf c.cmd.ns b s = none → (lineOf c.cmd.ns b t).map (fun l => l.stamps) = some [n + 1])) ∧
      get Reg.CMD_WC_STAT.WAIT t = 0 ∧
      OnlyBlocks [9, 15, 19, 1] s t)) ∧
  (∀ (n : Nat) (c : Ctx) (b d v : Nat) (g : Bool) (s : State),
    ctxOf n s = some c →
    c.started = true →
    (isMedia c.cmd.op && tableWaits c.cmd.ns s) = false →
    stagedData c b d s = some v →
    mayAccept c b s = true →
    notReady c.cmd.op s = none →
    g = true →
    cacheRoom c.cmd.ns b s = false →
    Gives (.writeAccept n b d g) s (fun t =>
      get Reg.CMD_WC_STAT.WAIT t = 1 ∧
      OnlyRegs [Reg.CMD_WC_STAT.WAIT] s t ∧
      t = { s with regs := t.regs } ∧
      SameMem s t)) ∧
  (∀ (n : Nat) (c : Ctx) (b d v : Nat) (g : Bool) (s : State),
    ctxOf n s = some c →
    c.started = true →
    (isMedia c.cmd.op && tableWaits c.cmd.ns s) = false →
    c.stamp = n →
    stagedData c b d s = some v →
    mayAccept c b s = true →
    notReady c.cmd.op s = none →
    g = false →
    Gives (.writeAccept n b d g) s (fun t =>
      ((c.cmd.port ≠ .fabric → t.sent = s.sent ++ [statusMsg c.cmd.port c.cmd.nexus c.cmd.tag .guardCheck (writeSpan c).1])) ∧
      ctxOf n t = none ∧
      OnlyRegs [Reg.CMD_POOL_STAT.USED, Reg.CMD_EXEC_STAT.EXEC] s t ∧
      t = { s with regs := t.regs, cmd := t.cmd, fab := t.fab, sent := t.sent } ∧
      SameMem s t)) ∧
  (∀ (n : Nat) (c : Ctx) (b d : Nat) (g : Bool) (x : Status) (s : State),
    ctxOf n s = some c →
    c.started = true →
    (isMedia c.cmd.op && tableWaits c.cmd.ns s) = false →
    c.stamp = n →
    c.cmd.port ≠ .fabric →
    mayAccept c b s = true →
    notReady c.cmd.op s = some x →
    Gives (.writeAccept n b d g) s (fun t =>
      t.sent = s.sent ++ [statusMsg c.cmd.port c.cmd.nexus c.cmd.tag x (rangeOf c s).1] ∧
      ctxOf n t = none ∧
      OnlyRegs [Reg.CMD_POOL_STAT.USED, Reg.CMD_EXEC_STAT.EXEC] s t ∧
      t = { s with regs := t.regs, cmd := t.cmd, fab := t.fab, sent := t.sent } ∧
      SameMem s t)) ∧
  (∀ (n : Nat) (c : Ctx) (s : State),
    ctxOf n s = some c →
    c.started = true →
    (isMedia c.cmd.op && tableWaits c.cmd.ns s) = false →
    c.stamp = n →
    isWrite c.cmd.op = true →
    c.accepted = true →
    (c.cached = true ∨ (firstLost c.cmd.ns (writeSpan c).1 (writeSpan c).2 s = none ∧ notReady c.cmd.op s = none ∧ onMediaAll c s = true)) →
    Gives (.writeComplete n) s (fun t =>
      ((c.cmd.port ≠ .fabric → t.sent = s.sent ++ [statusMsg c.cmd.port c.cmd.nexus c.cmd.tag .success (writeSpan c).1])) ∧
      ctxOf n t = none ∧
      OnlyRegs [Reg.CMD_POOL_STAT.USED, Reg.CMD_EXEC_STAT.EXEC] s t ∧
      t = { s with regs := t.regs, cmd := t.cmd, fab := t.fab, sent := t.sent } ∧
      SameMem s t)) ∧
  (∀ (n : Nat) (c : Ctx) (a : Nat) (s : State),
    ctxOf n s = some c →
    c.started = true →
    (isMedia c.cmd.op && tableWaits c.cmd.ns s) = false →
    c.stamp = n →
    isWrite c.cmd.op = true →
    c.accepted = true →
    c.cached = false →
    firstLost c.cmd.ns (writeSpan c).1 (writeSpan c).2 s = some a →
    Gives (.writeComplete n) s (fun t =>
      ((c.cmd.port ≠ .fabric → t.sent = s.sent ++ [statusMsg c.cmd.port c.cmd.nexus c.cmd.tag .writeFault a])) ∧
      ctxOf n t = none ∧
      OnlyRegs [Reg.CMD_POOL_STAT.USED, Reg.CMD_EXEC_STAT.EXEC] s t ∧
      t = { s with regs := t.regs, cmd := t.cmd, fab := t.fab, sent := t.sent } ∧
      SameMem s t)) ∧
  (∀ (n : Nat) (c : Ctx) (s : State),
    ctxOf n s = some c →
    c.started = true →
    (isMedia c.cmd.op && tableWaits c.cmd.ns s) = false →
    isWrite c.cmd.op = true →
    c.accepted = false →
    Gives (.writeComplete n) s (fun t =>
      t = s)) ∧
  (∀ (n : Nat) (c : Ctx) (s : State),
    ctxOf n s = some c →
    c.started = true →
    (isMedia c.cmd.op && tableWaits c.cmd.ns s) = false →
    isWrite c.cmd.op = true →
    c.accepted = true →
    c.cached = false →
    firstLost c.cmd.ns (writeSpan c).1 (writeSpan c).2 s = none →
    notReady c.cmd.op s = none →
    Gives (.writeComplete n) s (fun t =>
      ((onMediaAll c s = false → t = s)))) ∧
  (∀ (n : Nat) (c : Ctx) (m : List (Option Nat)) (g : Bool) (a k : Nat) (l : List Nat) (s : State),
    ctxOf n s = some c →
    c.started = true →
    (isMedia c.cmd.op && tableWaits c.cmd.ns s) = false →
    c.cmd.op = .read a k →
    c.stamp = n →
    c.cmd.port ≠ .fabric →
    notReady c.cmd.op s = none →
    firstLost c.cmd.ns a k s = none →
    (touchesPend c.cmd.ns a k s && (get Reg.ZMG_RECOV_CFG.REREAD s == 0 || m.any (·.isNone))) = false →
    readOffline c s = false →
    readHeld c s = false →
    g = true →
    (readBlocks c.cmd.ns a k (blocksOf c.cmd.ns a k s) m s).1 = some l →
    (mediaRead s = true ∨ (blocksOf c.cmd.ns a k s).any (fun b => needsMedia c.cmd.ns b a k s && !aboveMedia c.cmd.ns b s) = false) →
    Gives (.hostRead n m g) s (fun t =>
      t.sent = s.sent ++ [.readData c.cmd.port c.cmd.nexus c.cmd.tag a (readBytes c.cmd.ns a k l s), statusMsg c.cmd.port c.cmd.nexus c.cmd.tag .success a] ∧
      ctxOf n t = none ∧
      OnlyRegs [Reg.CMD_POOL_STAT.USED, Reg.CMD_EXEC_STAT.EXEC] s t ∧
      t = { s with regs := t.regs, cmd := t.cmd, fab := t.fab, sent := t.sent, free := t.free } ∧
      SameMem s t)) ∧
  (∀ (n : Nat) (c : Ctx) (m : List (Option Nat)) (g : Bool) (a k : Nat) (l : List Nat) (s : State),
    ctxOf n s = some c →
    c.started = true →
    (isMedia c.cmd.op && tableWaits c.cmd.ns s) = false →
    c.cmd.op = .read a k →
    c.stamp = n →
    c.cmd.port = .fabric →
    notReady c.cmd.op s = none →
    firstLost c.cmd.ns a k s = none →
    (touchesPend c.cmd.ns a k s && (get Reg.ZMG_RECOV_CFG.REREAD s == 0 || m.any (·.isNone))) = false →
    readOffline c s = false →
    readHeld c s = false →
    g = true →
    (readBlocks c.cmd.ns a k (blocksOf c.cmd.ns a k s) m s).1 = some l →
    (mediaRead s = true ∨ (blocksOf c.cmd.ns a k s).any (fun b => needsMedia c.cmd.ns b a k s && !aboveMedia c.cmd.ns b s) = false) →
    Gives (.hostRead n m g) s (fun t =>
      t.sent = s.sent ++ (answerData n (bytesOf (k * (4096 / lbasPerBlock c.cmd.ns s)) (readBytes c.cmd.ns a k l s)) s).sent.drop s.sent.length ∧
      (t.fab.work = ((answerData n (bytesOf (k * (4096 / lbasPerBlock c.cmd.ns s)) (readBytes c.cmd.ns a k l s)) s).fab.work).filter (fun w => w.stamp != n)) ∧
      ctxOf n t = none ∧
      OnlyBlocks [19, 26, 28] s t ∧
      SameMem s t)) ∧
  (∀ (n : Nat) (c : Ctx) (m : List (Option Nat)) (g : Bool) (a k : Nat) (s : State),
    ctxOf n s = some c →
    c.started = true →
    (isMedia c.cmd.op && tableWaits c.cmd.ns s) = false →
    c.cmd.op = .read a k →
    c.stamp = n →
    notReady c.cmd.op s = none →
    firstLost c.cmd.ns a k s = none →
    Gives (.hostRead n m g) s (fun t =>
      ((touchesPend c.cmd.ns a k s = true → (get Reg.ZMG_RECOV_CFG.REREAD s = 0 ∨ m.any (·.isNone) = true) → (c.cmd.port ≠ .fabric → t.sent = s.sent ++ [statusMsg c.cmd.port c.cmd.nexus c.cmd.tag .unrecoveredRead a]) ∧ ctxOf n t = none)) ∧
      (((touchesPend c.cmd.ns a k s && (get Reg.ZMG_RECOV_CFG.REREAD s == 0 || m.any (·.isNone))) = false → readOffline c s = true → (c.cmd.port ≠ .fabric → t.sent = s.sent ++ [statusMsg c.cmd.port c.cmd.nexus c.cmd.tag .zoneOffline a]) ∧ ctxOf n t = none)) ∧
      (((touchesPend c.cmd.ns a k s && (get Reg.ZMG_RECOV_CFG.REREAD s == 0 || m.any (·.isNone))) = false → readOffline c s = false → readHeld c s = false → g = false → (c.cmd.port ≠ .fabric → t.sent = s.sent ++ [statusMsg c.cmd.port c.cmd.nexus c.cmd.tag .guardCheck a]) ∧ ctxOf n t = none)) ∧
      SameMem s t)) ∧
  (∀ (n : Nat) (c : Ctx) (m : List (Option Nat)) (g : Bool) (a k x : Nat) (s : State),
    ctxOf n s = some c →
    c.started = true →
    (isMedia c.cmd.op && tableWaits c.cmd.ns s) = false →
    c.cmd.op = .read a k →
    c.stamp = n →
    notReady c.cmd.op s = none →
    firstLost c.cmd.ns a k s = some x →
    Gives (.hostRead n m g) s (fun t =>
      ((c.cmd.port ≠ .fabric → t.sent = s.sent ++ [statusMsg c.cmd.port c.cmd.nexus c.cmd.tag .unrecoveredRead x])) ∧
      ctxOf n t = none ∧
      OnlyRegs [Reg.CMD_POOL_STAT.USED, Reg.CMD_EXEC_STAT.EXEC] s t ∧
      t = { s with regs := t.regs, cmd := t.cmd, fab := t.fab, sent := t.sent } ∧
      SameMem s t)) ∧
  (∀ (n : Nat) (c : Ctx) (b : Bool) (s : State),
    ctxOf n s = some c →
    c.started = true →
    (isMedia c.cmd.op && tableWaits c.cmd.ns s) = false →
    c.cmd.op = .flush b →
    c.stamp = n →
    notReady c.cmd.op s = none →
    ((flushSet c s).all (fun m => flushed c m s) = true) →
    (s.cmd.lost.find? (fun e => (flushSet c s).contains e.ns && !e.reported) = none) →
    Gives (.flush n) s (fun t =>
      ((c.cmd.port ≠ .fabric → t.sent = s.sent ++ [statusMsg c.cmd.port c.cmd.nexus c.cmd.tag .success 0])) ∧
      ctxOf n t = none ∧
      OnlyRegs [Reg.CMD_POOL_STAT.USED, Reg.CMD_EXEC_STAT.EXEC] s t ∧
      t = { s with regs := t.regs, cmd := t.cmd, fab := t.fab, sent := t.sent } ∧
      SameMem s t)) ∧
  (∀ (n : Nat) (c : Ctx) (b : Bool) (e : Lost) (s : State),
    ctxOf n s = some c →
    c.started = true →
    (isMedia c.cmd.op && tableWaits c.cmd.ns s) = false →
    c.cmd.op = .flush b →
    c.stamp = n →
    notReady c.cmd.op s = none →
    ((flushSet c s).all (fun m => flushed c m s) = true) →
    (s.cmd.lost.find? (fun e => (flushSet c s).contains e.ns && !e.reported) = some e) →
    Gives (.flush n) s (fun t =>
      ((c.cmd.port ≠ .fabric → t.sent = s.sent ++ [statusMsg c.cmd.port c.cmd.nexus c.cmd.tag .writeFault e.lba])) ∧
      ctxOf n t = none ∧
      (t.cmd.lost = s.cmd.lost.map (fun x => if x = e then { x with reported := true } else x)) ∧
      OnlyBlocks [19] s t ∧
      t = { s with regs := t.regs, cmd := t.cmd, fab := t.fab, sent := t.sent } ∧
      SameMem s t)) ∧
  (∀ (n : Nat) (c : Ctx) (b : Bool) (s : State),
    ctxOf n s = some c →
    c.started = true →
    (isMedia c.cmd.op && tableWaits c.cmd.ns s) = false →
    c.cmd.op = .flush b →
    notReady c.cmd.op s = none →
    ((flushSet c s).all (fun m => flushed c m s) = false) →
    Gives (.flush n) s (fun t =>
      t = s)) ∧
  (∀ (n : Nat) (c : Ctx) (b : Bool) (s : State),
    ctxOf n s = some c →
    c.started = true →
    (isMedia c.cmd.op && tableWaits c.cmd.ns s) = false →
    c.cmd.op = .setWce b →
    c.stamp = n →
    Gives (.writeCacheEnableChange n) s (fun t =>
      ((wceSet c s).all (fun m => wce m t == b) = true) ∧
      ((List.range 64).all (fun m => (wceSet c s).contains m || wce m t == wce m s) = true) ∧
      ((c.cmd.port ≠ .fabric → t.sent = s.sent ++ [statusMsg c.cmd.port c.cmd.nexus c.cmd.tag .success 0])) ∧
      ctxOf n t = none ∧
      OnlyRegs [Reg.CMD_POOL_STAT.USED, Reg.CMD_EXEC_STAT.EXEC, Reg.CMD_WCE_LO.EN, Reg.CMD_WCE_HI.EN] s t ∧
      t = { s with regs := t.regs, cmd := t.cmd, fab := t.fab, sent := t.sent } ∧
      SameMem s t)) ∧
  (∀ (n b k : Nat) (s : State),
    1 ≤ k →
    k ≤ 3 →
    (lineOf n b s).isSome = true →
    nsType n s ≠ 4 →
    Gives (.lostWriteEntry n b k) s (fun t =>
      lineOf n b t = none ∧
      ((s.cmd.lost.length < 4096 → t.cmd.lost = s.cmd.lost ++ [⟨n, b * lbasPerBlock n s, lbasPerBlock n s, k, tmpCount s, false⟩] ∧ get Reg.CMD_LWL.COUNT t = s.cmd.lost.length + 1)) ∧
      OnlyBlocks [19] s t ∧
      t = { s with regs := t.regs, cmd := t.cmd, sys := t.sys, evr := t.evr, sent := t.sent, host := { s.host with msixPend := t.host.msixPend } } ∧
      SameMem s t)) ∧
  (∀ (n b k : Nat) (s : State),
    1 ≤ k →
    k ≤ 3 →
    (lineOf n b s).isSome = true →
    nsType n s = 4 →
    Gives (.lostWriteEntry n b k) s (fun t =>
      lineOf n b t = none ∧
      ((s.cmd.lost.length < 4096 → t.cmd.lost = s.cmd.lost ++ [⟨n, b * lbasPerBlock n s, lbasPerBlock n s, k, tmpCount s, false⟩])) ∧
      (((zoneOf (zoneOfBlock n b s) s).sealed = true → t.mem = s.mem)) ∧
      (((zoneOf (zoneOfBlock n b s) s).sealed = false → AMap.rising s.seals.ctxs = true → (zoneOf (zoneOfBlock n b s) t).state = 13 ∧ AMap.lookup (zoneOfBlock n b s) t.seals.ctxs = none)) ∧
      MemOutside (zoneAddr (zoneOfBlock n b s) s) 32 s t ∧
      OnlyBlocks [9, 15, 19] s t)) ∧
  (∀ (n : Nat) (c : Ctx) (e : Bool) (s : State),
    ctxOf n s = some c →
    c.started = true →
    (isMedia c.cmd.op && tableWaits c.cmd.ns s) = false →
    c.cmd.op = .selfTest e →
    c.stamp = n →
    get Reg.CMD_ST_STAT.STATE s = 0 →
    Gives (.selfTestStart n) s (fun t =>
      get Reg.CMD_ST_STAT.STATE t = 1 ∧
      (get Reg.CMD_ST_STAT.KIND t = (if e then 2 else 1)) ∧
      get Reg.CMD_ST_STAT.PORT t = portCode c.cmd.port ∧
      t.cmd.testBy = some c.cmd.port ∧
      ((c.cmd.port ≠ .fabric → t.sent = s.sent ++ [statusMsg c.cmd.port c.cmd.nexus c.cmd.tag .success 0])) ∧
      ctxOf n t = none ∧
      OnlyRegs [Reg.CMD_POOL_STAT.USED, Reg.CMD_EXEC_STAT.EXEC, Reg.CMD_ST_STAT.STATE, Reg.CMD_ST_STAT.KIND, Reg.CMD_ST_STAT.PORT, Reg.CMD_ST_STAT.PCT] s t ∧
      t = { s with regs := t.regs, cmd := t.cmd, fab := t.fab, sent := t.sent } ∧
      SameMem s t)) ∧
  (∀ (n : Nat) (c : Ctx) (e : Bool) (s : State),
    ctxOf n s = some c →
    c.started = true →
    (isMedia c.cmd.op && tableWaits c.cmd.ns s) = false →
    c.cmd.op = .selfTest e →
    c.stamp = n →
    get Reg.CMD_ST_STAT.STATE s ≠ 0 →
    Gives (.selfTestStart n) s (fun t =>
      ((c.cmd.port ≠ .fabric → t.sent = s.sent ++ [statusMsg c.cmd.port c.cmd.nexus c.cmd.tag .selfTestInProgress 0])) ∧
      ctxOf n t = none ∧
      OnlyRegs [Reg.CMD_POOL_STAT.USED, Reg.CMD_EXEC_STAT.EXEC] s t ∧
      t = { s with regs := t.regs, cmd := t.cmd, fab := t.fab, sent := t.sent } ∧
      SameMem s t)) ∧
  (∀ (k : Nat) (s : State),
    get Reg.CMD_ST_STAT.STATE s = 1 →
    mediaInStore s = true →
    Gives (.selfTestSuspend k) s (fun t =>
      get Reg.CMD_ST_STAT.STATE t = 2 ∧
      get Reg.CMD_ST_STAT.PCT t = min k 100 ∧
      OnlyRegs [Reg.CMD_ST_STAT.STATE, Reg.CMD_ST_STAT.PCT] s t ∧
      OnlyRegisters s t ∧
      SameMem s t)) ∧
  (∀ (k : Nat) (s : State),
    get Reg.CMD_ST_STAT.STATE s = 2 →
    mediaInStore s = false →
    ((if get Reg.CMD_ST_CFG.IDLE_MS s = 0 then 100 else get Reg.CMD_ST_CFG.IDLE_MS s) ≤ k) →
    Gives (.selfTestResume k) s (fun t =>
      get Reg.CMD_ST_STAT.STATE t = 1 ∧
      OnlyRegs [Reg.CMD_ST_STAT.STATE] s t ∧
      OnlyRegisters s t ∧
      SameMem s t)) ∧
  (∀ (r : Nat) (a : Option Port) (s : State),
    (a = none ∧ get Reg.CMD_ST_STAT.STATE s = 1 ∨ a.isSome = true ∧ get Reg.CMD_ST_STAT.STATE s ≠ 0 ∧ s.cmd.testBy = a) →
    Gives (.selfTestEnd r a) s (fun t =>
      get Reg.CMD_ST_STAT.STATE t = 0 ∧
      t.cmd.testBy = none ∧
      t.cmd.testLog = s.cmd.testLog ++ [(get Reg.CMD_ST_STAT.KIND s, r)] ∧
      OnlyRegs [Reg.CMD_ST_STAT.STATE] s t ∧
      t = { s with regs := t.regs, cmd := t.cmd, sys := t.sys, evr := t.evr, sent := t.sent, host := { s.host with msixPend := t.host.msixPend } } ∧
      SameMem s t))

/-- Memory protection: partial writes, training, scrubbing, thresholds, the flip mask, repairs. Rests on R383, R384, R386, R389,
R391, R392, R393, R395, R396, R397, R398. Where it meets them it rests on choices of the model: log entries 9, 20, 86, 87, 88,
89, 90, 91, 92, 93, 94, 95, 270, 275, 276, 277. -/
def Obligations.MemoryIsScrubbedFlippedAndRepaired : Prop :=
  (∀ (a : Nat) (l : List Nat) (s : State),
    0 < l.length →
    l.length < wordSize (memCode a) →
    memCode a ≠ 0 →
    wordAt (memCode a) a = wordAt (memCode a) (a + l.length - 1) →
    accessCause true a l.length true s = none →
    flipHits (memCode a) a l.length s = false →
    ((wordsWritten (memCode a) a l.length).all (fun w => (upsetOf (memCode a) w s).isNone && !isPoisoned (memCode a) w s) = true) →
    Gives (.partialWrite a l []) s (fun t =>
      (memRead a l.length t = l.map (fun b => b % 256)) ∧
      MemOutside a l.length s t ∧
      OnlyRegs [] s t ∧
      t = { s with mem := t.mem })) ∧
  (∀ (a c : Nat) (l : List Nat) (h : Option (Nat × Nat)) (g : Bool × Nat) (s : State),
    0 < l.length →
    l.length < 8 →
    memCode a = 2 →
    wordAt 2 a = wordAt 2 (a + l.length - 1) →
    accessCause true a l.length true s = none →
    flipHits 2 a l.length s = false →
    upsetOf 2 (wordAt 2 a) s = some (c, h, g) →
    c ≠ 1 →
    isPoisoned 2 (wordAt 2 a) s = false →
    AMap.rising s.memp.upsets = true →
    Gives (.partialWrite a l []) s (fun t =>
      get Reg.MEM_UE.SRAM t = (get Reg.MEM_UE.SRAM s + 1) % 2 ^ Reg.MEM_UE.SRAM.width ∧
      t.poison = s.poison ++ [wordAt 2 a] ∧
      upsetOf 2 (wordAt 2 a) t = none ∧
      (memRead a l.length t = l.map (fun b => b % 256)) ∧
      ((get Reg.MEM_ERR_HI.VALID s = 0 → get Reg.MEM_ERR_HI.VALID t = 1 ∧ get Reg.MEM_ERR_LO.ADDR_LO t = wordAt 2 a % 2 ^ 32 ∧ get Reg.MEM_ERR_HI.MEM t = 2)) ∧
      ((get Reg.MEM_ERR_HI.VALID s = 1 → get Reg.MEM_ERR_HI.MORE t = 1)) ∧
      MemOutside (wordAt 2 a) 8 s t ∧
      ((List.range 8).all (fun j => (decide (a ≤ wordAt 2 a + j) && decide (wordAt 2 a + j < a + l.length)) || memByte (wordAt 2 a + j) t == memByte (wordAt 2 a + j) s ^^^ bits g.2 (8 * j) 8) = true) ∧
      OnlyBlocks [21] s t ∧
      t = { s with regs := t.regs, mem := t.mem, poison := t.poison, memp := t.memp, sys := t.sys, evr := t.evr, sent := t.sent, host := { s.host with msixPend := t.host.msixPend } })) ∧
  (∀ (a : Nat) (l : List Nat) (u : List Upset) (s : State),
    0 < l.length →
    l.length < wordSize (memCode a) →
    memCode a ≠ 0 →
    wordAt (memCode a) a = wordAt (memCode a) (a + l.length - 1) →
    accessCause true a l.length true s = none →
    Gives (.partialWrite a l u) s (fun t =>
      ((flipHits (memCode a) a l.length s = false → memRead a l.length t = l.map (fun b => b % 256) ∧ get Reg.MEM_FLIP_CTL.ARM t = get Reg.MEM_FLIP_CTL.ARM s)) ∧
      ((flipHits (memCode a) a l.length s = true → get Reg.MEM_FLIP_CTL.ARM t = 0 ∧ get Reg.MEM_FLIP_CTL.USED t = 1)))) ∧
  (∀ (a k : Nat) (l : List Nat) (s : State),
    0 < l.length →
    l.length < 8 →
    memCode a = 2 →
    wordAt 2 a = wordAt 2 (a + l.length - 1) →
    accessCause true a l.length true s = none →
    flipHits 2 a l.length s = true →
    upsetOf 2 (wordAt 2 a) s = none →
    isPoisoned 2 (wordAt 2 a) s = false →
    k = ones 64 (get Reg.MEM_FLIP_M0.MASK s + 2 ^ 32 * get Reg.MEM_FLIP_M1.MASK s) + ones 8 (get Reg.MEM_FLIP_M2.CHECK s) →
    Gives (.partialWrite a l []) s (fun t =>
      get Reg.MEM_FLIP_CTL.ARM t = 0 ∧
      get Reg.MEM_FLIP_CTL.USED t = 1 ∧
      ((1 ≤ k → k ≤ 2 → (upsetOf 2 (wordAt 2 a) t).map (·.1) = some k ∧ memRead a l.length t = l.map (fun b => b % 256))) ∧
      ((k = 0 → upsetOf 2 (wordAt 2 a) t = none)) ∧
      ((get Reg.MEM_FLIP_M0.MASK s = 0 → get Reg.MEM_FLIP_M1.MASK s = 0 → get Reg.MEM_FLIP_M2.CHECK s = 0xE7 → isPoisoned 2 (wordAt 2 a) t = true)) ∧
      OnlyRegs [Reg.MEM_FLIP_CTL.ARM, Reg.MEM_FLIP_CTL.USED] s t ∧
      t = { s with regs := t.regs, mem := t.mem, poison := t.poison, memp := t.memp, free := t.free })) ∧
  (∀ (f : List Nat) (w : List (List Nat)) (s : State),
    mode s = 2 →
    domOn 18 s = true →
    get Reg.DRC_STAT.TRAINED s = 0 →
    get Reg.DRC_STAT.TRAIN_FAIL s = 0 →
    Gives (.dramTraining f w) s (fun t =>
      (((get Reg.DRC_STAT.SELF_REF s = 1 ∧ s.memp.swaps.isSome = true) → f.contains 4 = false → get Reg.DRC_STAT.TRAINED t = 1 ∧ get Reg.DRC_STAT.SELF_REF t = 0 ∧ get Reg.DRC_STAT.FAST t = 1 ∧ t.memp = s.memp)) ∧
      ((¬ (get Reg.DRC_STAT.SELF_REF s = 1 ∧ s.memp.swaps.isSome = true) → f = [] → get Reg.DRC_STAT.TRAINED t = 1 ∧ get Reg.DRC_STAT.SELF_REF t = 0 ∧ get Reg.DRC_STAT.FAST t = 0 ∧ t.memp = { s.memp with swaps := some w })) ∧
      (((get Reg.DRC_STAT.SELF_REF s = 1 ∧ s.memp.swaps.isSome = true) → f.contains 4 = true → get Reg.DRC_STAT.TRAIN_FAIL t = 1 ∧ get Reg.DRC_STAT.TRAINED t = 0 ∧ t.memp = s.memp)) ∧
      ((¬ (get Reg.DRC_STAT.SELF_REF s = 1 ∧ s.memp.swaps.isSome = true) → f ≠ [] → get Reg.DRC_STAT.TRAIN_FAIL t = 1 ∧ get Reg.DRC_STAT.TRAINED t = 0 ∧ t.memp = s.memp)) ∧
      OnlyRegs [Reg.DRC_STAT.TRAINED, Reg.DRC_STAT.SELF_REF, Reg.DRC_STAT.FAST, Reg.DRC_STAT.TRAIN_FAIL] s t ∧
      t = { s with regs := t.regs, memp := t.memp, sys := t.sys, evr := t.evr, sent := t.sent, host := { s.host with msixPend := t.host.msixPend } } ∧
      SameMem s t)) ∧
  (∀ (f : List Nat) (w : List (List Nat)) (s : State),
    mode s = 2 →
    domOn 18 s = true →
    get Reg.DRC_STAT.TRAINED s = 0 →
    get Reg.DRC_STAT.TRAIN_FAIL s = 0 →
    get Reg.DRC_STAT.SELF_REF s = 0 →
    Gives (.dramTraining f w) s (fun t =>
      ((f = [] → get Reg.DRC_STAT.TRAINED t = 1 ∧ get Reg.DRC_STAT.SELF_REF t = 0 ∧ get Reg.DRC_STAT.FAST t = 0 ∧ t.memp = { s.memp with swaps := some w })) ∧
      ((f ≠ [] → get Reg.DRC_STAT.TRAIN_FAIL t = 1 ∧ get Reg.DRC_STAT.TRAINED t = 0 ∧ t.memp = s.memp)) ∧
      OnlyRegs [Reg.DRC_STAT.TRAINED, Reg.DRC_STAT.SELF_REF, Reg.DRC_STAT.FAST, Reg.DRC_STAT.TRAIN_FAIL] s t ∧
      t = { s with regs := t.regs, memp := t.memp, sys := t.sys, evr := t.evr, sent := t.sent, host := { s.host with msixPend := t.host.msixPend } } ∧
      SameMem s t)) ∧
  (∀ (s : State),
    Gives (.zqCalibration) s (fun t =>
      t = s)) ∧
  (∀ (l : List Nat) (n : Nat) (s : State),
    dramRuns s = true →
    Gives (.dramTemperaturePoll l n) s (fun t =>
      (get Reg.DRC_STAT.REFRESH_2X t = (if (List.range l.length).any (fun d => isHot (modeRegister d (l.getD d 0) s)) = true then 1 else if 1000 ≤ n then 0 else get Reg.DRC_STAT.REFRESH_2X s)) ∧
      OnlyRegs [Reg.DRC_STAT.REFRESH_2X] s t ∧
      OnlyEvents s t ∧
      SameMem s t)) ∧
  (∀ (u : List Upset) (r : Bool) (s : State),
    dramRuns s = true →
    get Reg.MEM_SCRUB_CFG.DRAM_EN s = 1 →
    s.memp.dramEnd = false →
    Gives (.dramScrubRead u r) s (fun t =>
      (get Reg.MEM_SCRUB_POS.LINE t = (if dramLines s ≤ get Reg.MEM_SCRUB_POS.LINE s + 1 then 0 else get Reg.MEM_SCRUB_POS.LINE s + 1) % 2 ^ Reg.MEM_SCRUB_POS.LINE.width) ∧
      t.memp.dramEnd = decide (dramLines s ≤ get Reg.MEM_SCRUB_POS.LINE s + 1))) ∧
  (∀ (u : List Upset) (r : Bool) (s : State),
    dramRuns s = true →
    get Reg.MEM_SCRUB_CFG.DRAM_EN s = 1 →
    s.memp.dramEnd = false →
    (u.filter (fun x => x.addr / 128 * 128 == (0x1000000000 + 128 * get Reg.MEM_SCRUB_POS.LINE s)) = []) →
    ((wordsIn 1 (0x1000000000 + 128 * get Reg.MEM_SCRUB_POS.LINE s) 128).all (fun w => (upsetOf 1 w s).isNone) = true) →
    Gives (.dramScrubRead u r) s (fun t =>
      (get Reg.MEM_SCRUB_POS.LINE t = (if dramLines s ≤ get Reg.MEM_SCRUB_POS.LINE s + 1 then 0 else get Reg.MEM_SCRUB_POS.LINE s + 1) % 2 ^ Reg.MEM_SCRUB_POS.LINE.width) ∧
      OnlyRegs [Reg.MEM_SCRUB_POS.LINE] s t ∧
      t = { s with regs := t.regs, memp := t.memp } ∧
      SameMem s t)) ∧
  (∀ (r : Bool) (h : Option (Nat × Nat)) (g : Bool × Nat) (s : State),
    dramRuns s = true →
    get Reg.MEM_SCRUB_CFG.DRAM_EN s = 1 →
    s.memp.dramEnd = false →
    upsetOf 1 (0x1000000000 + 128 * get Reg.MEM_SCRUB_POS.LINE s) s = some (1, h, g) →
    isPoisoned 1 (0x1000000000 + 128 * get Reg.MEM_SCRUB_POS.LINE s) s = false →
    ((wordsIn 1 ((0x1000000000 + 128 * get Reg.MEM_SCRUB_POS.LINE s) + 32) 96).all (fun w => (upsetOf 1 w s).isNone) = true) →
    AMap.rising s.memp.upsets = true →
    Gives (.dramScrubRead [] r) s (fun t =>
      (get Reg.MEM_SCRUB_POS.LINE t = (if dramLines s ≤ get Reg.MEM_SCRUB_POS.LINE s + 1 then 0 else get Reg.MEM_SCRUB_POS.LINE s + 1) % 2 ^ Reg.MEM_SCRUB_POS.LINE.width) ∧
      get Reg.MEM_CE.DRAM t = (get Reg.MEM_CE.DRAM s + 1) % 2 ^ Reg.MEM_CE.DRAM.width ∧
      ((r = false → upsetOf 1 (0x1000000000 + 128 * get Reg.MEM_SCRUB_POS.LINE s) t = none)) ∧
      ((r = true → upsetOf 1 (0x1000000000 + 128 * get Reg.MEM_SCRUB_POS.LINE s) t = upsetOf 1 (0x1000000000 + 128 * get Reg.MEM_SCRUB_POS.LINE s) s)) ∧
      OnlyRegs [Reg.MEM_SCRUB_POS.LINE, Reg.MEM_CE.DRAM] s t ∧
      t = { s with regs := t.regs, memp := t.memp, sys := t.sys, evr := t.evr, sent := t.sent, host := { s.host with msixPend := t.host.msixPend } } ∧
      SameMem s t)) ∧
  (∀ (r : Bool) (g : Bool × Nat) (s : State),
    dramRuns s = true →
    get Reg.MEM_SCRUB_CFG.DRAM_EN s = 1 →
    s.memp.dramEnd = false →
    upsetOf 1 (0x1000000000 + 128 * get Reg.MEM_SCRUB_POS.LINE s) s = some (2, none, g) →
    isPoisoned 1 (0x1000000000 + 128 * get Reg.MEM_SCRUB_POS.LINE s) s = false →
    ((wordsIn 1 ((0x1000000000 + 128 * get Reg.MEM_SCRUB_POS.LINE s) + 32) 96).all (fun w => (upsetOf 1 w s).isNone) = true) →
    regionKind (0x1000000000 + 128 * get Reg.MEM_SCRUB_POS.LINE s) s ≤ 2 →
    AMap.rising s.memp.upsets = true →
    Gives (.dramScrubRead [] r) s (fun t =>
      (get Reg.MEM_SCRUB_POS.LINE t = (if dramLines s ≤ get Reg.MEM_SCRUB_POS.LINE s + 1 then 0 else get Reg.MEM_SCRUB_POS.LINE s + 1) % 2 ^ Reg.MEM_SCRUB_POS.LINE.width) ∧
      get Reg.MEM_UE.DRAM t = (get Reg.MEM_UE.DRAM s + 1) % 2 ^ Reg.MEM_UE.DRAM.width ∧
      isPoisoned 1 (0x1000000000 + 128 * get Reg.MEM_SCRUB_POS.LINE s) t = true ∧
      upsetOf 1 (0x1000000000 + 128 * get Reg.MEM_SCRUB_POS.LINE s) t = none ∧
      ((get Reg.MEM_ERR_HI.VALID s = 0 → get Reg.MEM_ERR_HI.SCRUB t = 1 ∧ get Reg.MEM_ERR_HI.MEM t = 1)) ∧
      get Reg.MEM_ERR_HI.VALID t = 1 ∧
      memNat (0x1000000000 + 128 * get Reg.MEM_SCRUB_POS.LINE s) 32 t = memNat (0x1000000000 + 128 * get Reg.MEM_SCRUB_POS.LINE s) 32 s ^^^ (g.2 % 2 ^ 256) ∧
      MemOutside (0x1000000000 + 128 * get Reg.MEM_SCRUB_POS.LINE s) 32 s t ∧
      OnlyBlocks [21] s t ∧
      t = { s with regs := t.regs, mem := t.mem, memp := t.memp, poison := t.poison, sys := t.sys, evr := t.evr, sent := t.sent, host := { s.host with msixPend := t.host.msixPend } })) ∧
  (∀ (r : Bool) (g : Bool × Nat) (h : Option (Nat × Nat)) (p : Nat × Nat) (c : Ctx) (z : Nat) (s : State),
    dramRuns s = true →
    get Reg.MEM_SCRUB_CFG.DRAM_EN s = 1 →
    s.memp.dramEnd = false →
    upsetOf 1 (0x1000000000 + 128 * get Reg.MEM_SCRUB_POS.LINE s) s = some (2, h, g) →
    isPoisoned 1 (0x1000000000 + 128 * get Reg.MEM_SCRUB_POS.LINE s) s = false →
    ((wordsIn 1 ((0x1000000000 + 128 * get Reg.MEM_SCRUB_POS.LINE s) + 32) 96).all (fun w => (upsetOf 1 w s).isNone) = true) →
    AMap.rising s.memp.upsets = true →
    Gives (.dramScrubRead [] r) s (fun t =>
      (get Reg.MEM_SCRUB_POS.LINE t = (if dramLines s ≤ get Reg.MEM_SCRUB_POS.LINE s + 1 then 0 else get Reg.MEM_SCRUB_POS.LINE s + 1) % 2 ^ Reg.MEM_SCRUB_POS.LINE.width) ∧
      get Reg.MEM_UE.DRAM t = (get Reg.MEM_UE.DRAM s + 1) % 2 ^ Reg.MEM_UE.DRAM.width ∧
      isPoisoned 1 (0x1000000000 + 128 * get Reg.MEM_SCRUB_POS.LINE s) t = true ∧
      ((regionKind (0x1000000000 + 128 * get Reg.MEM_SCRUB_POS.LINE s) s = 1 → h = some p → (lineOf p.1 p.2 s).isSome = true → lineOf p.1 p.2 t = none)) ∧
      ((regionKind (0x1000000000 + 128 * get Reg.MEM_SCRUB_POS.LINE s) s = 3 → ctxAt (0x1000000000 + 128 * get Reg.MEM_SCRUB_POS.LINE s) s = some c → ctxOf c.stamp t = none)) ∧
      ((regionKind (0x1000000000 + 128 * get Reg.MEM_SCRUB_POS.LINE s) s = 4 → sealCtxAt (0x1000000000 + 128 * get Reg.MEM_SCRUB_POS.LINE s) s = some z → AMap.rising s.seals.ctxs = true → (AMap.getD t.seals.ctxs z {}).damaged = true)))) ∧
  (∀ (u : List Upset) (r : Bool) (s : State),
    get Reg.MEM_SCRUB_CFG.SRAM_EN s = 1 →
    s.memp.sramEnd = false →
    Gives (.sramScrubRead u r) s (fun t =>
      (t.memp.sramPos = (if sramWords ≤ s.memp.sramPos + 1 then 0 else s.memp.sramPos + 1)) ∧
      t.memp.sramEnd = decide (sramWords ≤ s.memp.sramPos + 1))) ∧
  (∀ (r : Bool) (h : Option (Nat × Nat)) (g : Bool × Nat) (s : State),
    get Reg.MEM_SCRUB_CFG.SRAM_EN s = 1 →
    s.memp.sramEnd = false →
    (sramWord s.memp.sramPos).1 ≠ 3 →
    upsetOf (sramWord s.memp.sramPos).1 (sramWord s.memp.sramPos).2 s = some (1, h, g) →
    isPoisoned (sramWord s.memp.sramPos).1 (sramWord s.memp.sramPos).2 s = false →
    AMap.rising s.memp.upsets = true →
    Gives (.sramScrubRead [] r) s (fun t =>
      (t.memp.sramPos = (if sramWords ≤ s.memp.sramPos + 1 then 0 else s.memp.sramPos + 1)) ∧
      get Reg.MEM_CE.SRAM t = (get Reg.MEM_CE.SRAM s + 1) % 2 ^ Reg.MEM_CE.SRAM.width ∧
      ((r = false → upsetOf (sramWord s.memp.sramPos).1 (sramWord s.memp.sramPos).2 t = none)) ∧
      OnlyRegs [Reg.MEM_CE.SRAM] s t ∧
      t = { s with regs := t.regs, memp := t.memp, sys := t.sys, evr := t.evr, sent := t.sent, host := { s.host with msixPend := t.host.msixPend } } ∧
      SameMem s t)) ∧
  (∀ (r : Bool) (a : Nat) (h : Option (Nat × Nat)) (g : Bool × Nat) (s : State),
    get Reg.MEM_SCRUB_CFG.SRAM_EN s = 1 →
    s.memp.sramEnd = false →
    (sramWord s.memp.sramPos).1 = 3 →
    cachedWord ((sramWord s.memp.sramPos).2 / 8) s = some a →
    upsetOf 3 a s = some (1, h, g) →
    AMap.rising s.memp.upsets = true →
    Gives (.sramScrubRead [] r) s (fun t =>
      (t.memp.sramPos = (if sramWords ≤ s.memp.sramPos + 1 then 0 else s.memp.sramPos + 1)) ∧
      get Reg.MEM_CE.SRAM t = (get Reg.MEM_CE.SRAM s + 1) % 2 ^ Reg.MEM_CE.SRAM.width ∧
      ((r = false → upsetOf 3 a t = none)) ∧
      OnlyRegs [Reg.MEM_CE.SRAM] s t ∧
      t = { s with regs := t.regs, memp := t.memp, sys := t.sys, evr := t.evr, sent := t.sent, host := { s.host with msixPend := t.host.msixPend } } ∧
      SameMem s t)) ∧
  (∀ (r : Bool) (h : Option (Nat × Nat)) (g : Bool × Nat) (s : State),
    get Reg.MEM_SCRUB_CFG.SRAM_EN s = 1 →
    s.memp.sramEnd = false →
    ((sramWord s.memp.sramPos).1 = 2 ∨ (sramWord s.memp.sramPos).1 = 5) →
    upsetOf (sramWord s.memp.sramPos).1 (sramWord s.memp.sramPos).2 s = some (2, h, g) →
    isPoisoned (sramWord s.memp.sramPos).1 (sramWord s.memp.sramPos).2 s = false →
    AMap.rising s.memp.upsets = true →
    Gives (.sramScrubRead [] r) s (fun t =>
      (t.memp.sramPos = (if sramWords ≤ s.memp.sramPos + 1 then 0 else s.memp.sramPos + 1)) ∧
      get Reg.MEM_UE.SRAM t = (get Reg.MEM_UE.SRAM s + 1) % 2 ^ Reg.MEM_UE.SRAM.width ∧
      isPoisoned (sramWord s.memp.sramPos).1 (sramWord s.memp.sramPos).2 t = true ∧
      upsetOf (sramWord s.memp.sramPos).1 (sramWord s.memp.sramPos).2 t = none ∧
      get Reg.MEM_ERR_HI.VALID t = 1 ∧
      ((get Reg.MEM_ERR_HI.VALID s = 0 → get Reg.MEM_ERR_HI.MEM t = (sramWord s.memp.sramPos).1 ∧ get Reg.MEM_ERR_HI.SCRUB t = 1)) ∧
      MemOutside (sramWord s.memp.sramPos).2 8 s t ∧
      OnlyBlocks [21] s t ∧
      t = { s with regs := t.regs, mem := t.mem, poison := t.poison, memp := t.memp, sys := t.sys, evr := t.evr, sent := t.sent, host := { s.host with msixPend := t.host.msixPend } })) ∧
  (∀ (n e d : Nat) (s : State),
    s.memp.dramEnd = true →
    Gives (.scrubPassEnd true n e d) s (fun t =>
      get Reg.MEM_SCRUB_STAT.DRAM_PASSES t = (get Reg.MEM_SCRUB_STAT.DRAM_PASSES s + 1) % 2 ^ Reg.MEM_SCRUB_STAT.DRAM_PASSES.width ∧
      get Reg.DRC_ECS.MAX t = min e 65535 ∧
      get Reg.DRC_ECS.DEV t = d % 2 ^ Reg.DRC_ECS.DEV.width ∧
      t.memp.dramEnd = false ∧
      (get Reg.MEM_SCRUB_STAT.LATE t = (if 11 * ((if get Reg.MEM_SCRUB_CFG.DRAM_MIN s = 0 then 60 else get Reg.MEM_SCRUB_CFG.DRAM_MIN s) * 60000) < 10 * n then 1 else get Reg.MEM_SCRUB_STAT.LATE s)) ∧
      OnlyRegs [Reg.MEM_SCRUB_STAT.DRAM_PASSES, Reg.DRC_ECS.MAX, Reg.DRC_ECS.DEV, Reg.MEM_SCRUB_STAT.LATE] s t ∧
      t = { s with regs := t.regs, memp := t.memp, sys := t.sys, evr := t.evr, sent := t.sent, host := { s.host with msixPend := t.host.msixPend } } ∧
      SameMem s t)) ∧
  (∀ (n e d : Nat) (s : State),
    s.memp.sramEnd = true →
    Gives (.scrubPassEnd false n e d) s (fun t =>
      get Reg.MEM_SCRUB_STAT.SRAM_PASSES t = (get Reg.MEM_SCRUB_STAT.SRAM_PASSES s + 1) % 2 ^ Reg.MEM_SCRUB_STAT.SRAM_PASSES.width ∧
      t.memp.sramEnd = false ∧
      (get Reg.MEM_SCRUB_STAT.LATE t = (if 11 * ((if get Reg.MEM_SCRUB_CFG.SRAM_S s = 0 then 60 else get Reg.MEM_SCRUB_CFG.SRAM_S s) * 1000) < 10 * n then 1 else get Reg.MEM_SCRUB_STAT.LATE s)) ∧
      OnlyRegs [Reg.MEM_SCRUB_STAT.SRAM_PASSES, Reg.MEM_SCRUB_STAT.LATE] s t ∧
      t = { s with regs := t.regs, memp := t.memp, sys := t.sys, evr := t.evr, sent := t.sent, host := { s.host with msixPend := t.host.msixPend } } ∧
      SameMem s t)) ∧
  (∀ (s : State),
    ((s.memp.ceAlarm).all (fun x => decide (x + 3600 ≤ lifeSec s)) = true) →
    ((List.range 3).any (fun k => decide (get Reg.MEM_ECC_CFG.CE_THR s < (s.memp.ceLog.filter (fun p => p.1 == k && decide (lifeSec s < p.2 + 3600))).length)) = true) →
    Gives (.ceThreshold) s (fun t =>
      t.memp = { s.memp with ceAlarm := some (lifeSec s) } ∧
      OnlyRegs [] s t ∧
      t = { s with memp := t.memp, sys := t.sys, evr := t.evr, sent := t.sent, host := { s.host with msixPend := t.host.msixPend } } ∧
      SameMem s t)) ∧
  (∀ (v : Nat) (s : State),
    get Reg.MEM_FLIP_CTL.ARM s ≤ 1 →
    get Reg.MEM_FLIP_CTL.USED s ≤ 1 →
    Gives (.flipArm v) s (fun t =>
      get Reg.MEM_FLIP_CTL.TARGET t = bits v 0 3 ∧
      ((v.testBit 4 = true → get Reg.MEM_FLIP_CTL.ARM t = 1)) ∧
      (get Reg.MEM_FLIP_CTL.USED t = (if v.testBit 5 then 0 else get Reg.MEM_FLIP_CTL.USED s)) ∧
      OnlyRegs [Reg.MEM_FLIP_CTL.TARGET, Reg.MEM_FLIP_CTL.ARM, Reg.MEM_FLIP_CTL.USED] s t ∧
      OnlyRegisters s t ∧
      SameMem s t)) ∧
  (∀ (m e : Nat) (k : Bool) (s : State),
    m < 160 →
    get Reg.MEM_REP_CFG.AUTO s = 1 →
    (get Reg.MEM_REP_CFG.THR s ≤ e ∨ k = true) →
    AMap.getD s.memp.rows m 0 < 4 →
    get Reg.MEM_REP_STAT.ENTRIES s < 512 →
    Gives (.sramRowPromotion m false e k) s (fun t =>
      AMap.getD t.memp.rows m 0 = AMap.getD s.memp.rows m 0 + 1 ∧
      get Reg.MEM_REP_STAT.ENTRIES t = (get Reg.MEM_REP_STAT.ENTRIES s + 1) % 2 ^ Reg.MEM_REP_STAT.ENTRIES.width ∧
      get Reg.SPR_STAT.PROMOS t = (get Reg.SPR_STAT.PROMOS s + 1) % 2 ^ Reg.SPR_STAT.PROMOS.width ∧
      OnlyRegs [Reg.MEM_REP_STAT.ENTRIES, Reg.SPR_STAT.PROMOS] s t ∧
      t = { s with regs := t.regs, memp := t.memp, sys := t.sys, evr := t.evr, sent := t.sent, host := { s.host with msixPend := t.host.msixPend } } ∧
      SameMem s t)) ∧
  (∀ (m e : Nat) (k : Bool) (s : State),
    m < 160 →
    get Reg.MEM_REP_CFG.AUTO s = 1 →
    (get Reg.MEM_REP_CFG.THR s ≤ e ∨ k = true) →
    AMap.getD s.memp.cols m 0 < 2 →
    get Reg.MEM_REP_STAT.ENTRIES s < 512 →
    Gives (.sramRowPromotion m true e k) s (fun t =>
      AMap.getD t.memp.cols m 0 = AMap.getD s.memp.cols m 0 + 1 ∧
      get Reg.MEM_REP_STAT.ENTRIES t = (get Reg.MEM_REP_STAT.ENTRIES s + 1) % 2 ^ Reg.MEM_REP_STAT.ENTRIES.width ∧
      get Reg.MEM_REP_STAT.COL_PEND t = (get Reg.MEM_REP_STAT.COL_PEND s + 1) % 2 ^ Reg.MEM_REP_STAT.COL_PEND.width ∧
      OnlyRegs [Reg.MEM_REP_STAT.ENTRIES, Reg.MEM_REP_STAT.COL_PEND] s t ∧
      t = { s with regs := t.regs, memp := t.memp } ∧
      SameMem s t)) ∧
  (∀ (m e : Nat) (c k : Bool) (s : State),
    m < 160 →
    get Reg.MEM_REP_CFG.AUTO s = 1 →
    (get Reg.MEM_REP_CFG.THR s ≤ e ∨ k = true) →
    (512 ≤ get Reg.MEM_REP_STAT.ENTRIES s ∨ (if c then 2 else 4) ≤ AMap.getD (if c then s.memp.cols else s.memp.rows) m 0) →
    Gives (.sramRowPromotion m c e k) s (fun t =>
      ((512 ≤ get Reg.MEM_REP_STAT.ENTRIES s → get Reg.MEM_REP_STAT.FULL t = 1)) ∧
      (((if c then 2 else 4) ≤ AMap.getD (if c then s.memp.cols else s.memp.rows) m 0 → get Reg.MEM_REP_STAT.EXHAUSTED t = 1)) ∧
      OnlyRegs [Reg.MEM_REP_STAT.FULL, Reg.MEM_REP_STAT.EXHAUSTED] s t ∧
      OnlyEvents s t ∧
      SameMem s t)) ∧
  (∀ (r e : Nat) (k : Bool) (s : State),
    get Reg.DRC_PPR_CFG.AUTO s = 1 →
    (get Reg.DRC_PPR_CFG.THR s ≤ e ∨ k = true) →
    (s.memp.ppr.any (fun p => p.1 == r) = false) →
    Gives (.dramRepairCandidate r e k) s (fun t =>
      ((s.memp.ppr.length < 64 → t.memp.ppr = s.memp.ppr ++ [(r, 0)] ∧ get Reg.DRC_PPR_STAT.PEND t = (s.memp.ppr.filter (fun p => p.2 == 0)).length + 1)) ∧
      ((64 ≤ s.memp.ppr.length → t.memp = s.memp ∧ get Reg.DRC_PPR_STAT.FULL t = 1)) ∧
      OnlyRegs [Reg.DRC_PPR_STAT.PEND, Reg.DRC_PPR_STAT.DONE, Reg.DRC_PPR_STAT.FAILED, Reg.DRC_PPR_STAT.FULL] s t ∧
      t = { s with regs := t.regs, memp := t.memp, sys := t.sys, evr := t.evr, sent := t.sent, host := { s.host with msixPend := t.host.msixPend } } ∧
      SameMem s t)) ∧
  (∀ (l : List Nat) (s : State),
    mode s = 2 →
    get Reg.DRC_STAT.TRAINED s = 1 →
    get Reg.SPR_STAT.PROMOS s < 2 ^ Reg.SPR_STAT.PROMOS.width →
    Gives (.postPackageRepair l) s (fun t =>
      (t.memp.ppr = s.memp.ppr.map (fun p => if get Reg.DRC_PPR_CFG.HARD s ≠ 1 ∨ p.2 = 0 then (p.1, if l.contains p.1 then 2 else 1) else p)) ∧
      (get Reg.SPR_STAT.PROMOS t = (get Reg.SPR_STAT.PROMOS s + (s.memp.ppr.filter (fun p => decide (get Reg.DRC_PPR_CFG.HARD s ≠ 1 ∨ p.2 = 0) && !l.contains p.1)).length) % 2 ^ Reg.SPR_STAT.PROMOS.width) ∧
      (get Reg.DRC_PPR_STAT.FAILED t = (t.memp.ppr.filter (fun p => p.2 == 2)).length % 2 ^ Reg.DRC_PPR_STAT.FAILED.width) ∧
      OnlyRegs [Reg.DRC_PPR_STAT.PEND, Reg.DRC_PPR_STAT.DONE, Reg.DRC_PPR_STAT.FAILED, Reg.SPR_STAT.PROMOS] s t ∧
      t = { s with regs := t.regs, memp := t.memp, sys := t.sys, evr := t.evr, sent := t.sent, host := { s.host with msixPend := t.host.msixPend } } ∧
      SameMem s t))

/-- The DMA channels: GO, pre-emption, bursts, ends, the shadow; the wait bound of the arbiters. Rests on R399, R400, R401, R402,
R403, R419. Where it meets them it rests on choices of the model: log entries 5, 6, 20, 99, 102, 103, 104, 154. -/
def Obligations.DmaChannelsCopyAndEnd : Prop :=
  (∀ (c v : Nat) (s : State),
    c < 32 →
    dmaState c s = 0 →
    get (Reg.DMA_COUNT.BYTES c) s ≠ 0 →
    get (Reg.DMA_COUNT.BYTES c) s < 2 ^ 32 →
    inMap (dmaSrc c s) = true →
    inMap (dmaDst c s) = true →
    Gives (.dmaGo c v) s (fun t =>
      (get (Reg.DMA_STAT.STATE c) t = 1 ∨ get (Reg.DMA_STAT.STATE c) t = 2) ∧
      get (Reg.DMA_REMAIN.BYTES c) t = get (Reg.DMA_COUNT.BYTES c) s ∧
      (dmaOf c t).src = dmaSrc c s ∧
      (dmaOf c t).dst = dmaDst c s ∧
      (dmaOf c t).size = get (Reg.DMA_COUNT.BYTES c) s ∧
      (dmaOf c t).wrote = 0 ∧
      get (Reg.DMA_CTL.CLASS c) t = bits v 0 2 ∧
      get (Reg.DMA_CTL.IE c) t = bits v 6 1 ∧
      OnlyRegs ([Reg.DMA_CTL.CLASS c, Reg.DMA_CTL.CRC c, Reg.DMA_CTL.CRC_CONT c, Reg.DMA_CTL.CRC_STORE c, Reg.DMA_CTL.IE c, Reg.DMA_CTL.SRC_FIX c, Reg.DMA_CTL.DST_FIX c] ++ [Reg.DMA_REMAIN.BYTES c] ++ (List.range 32).map Reg.DMA_STAT.STATE) s t ∧
      t = { s with regs := t.regs, dma := t.dma, dmaNext := t.dmaNext, dmaTurn := t.dmaTurn } ∧
      SameMem s t)) ∧
  (∀ (c v : Nat) (s : State),
    c < 32 →
    dmaState c s = 0 →
    (get (Reg.DMA_COUNT.BYTES c) s = 0 ∨ inMap (dmaSrc c s) = false ∨ inMap (dmaDst c s) = false) →
    Gives (.dmaGo c v) s (fun t =>
      get (Reg.DMA_STAT.STATE c) t = 0 ∧
      get (Reg.DMA_STAT.CODE c) t = 2 ∧
      bit Reg.DMA_IRQ.END c t = true ∧
      OnlyRegs ([Reg.DMA_CTL.CLASS c, Reg.DMA_CTL.CRC c, Reg.DMA_CTL.CRC_CONT c, Reg.DMA_CTL.CRC_STORE c, Reg.DMA_CTL.IE c, Reg.DMA_CTL.SRC_FIX c, Reg.DMA_CTL.DST_FIX c] ++ [Reg.DMA_STAT.CODE c, Reg.DMA_REMAIN.BYTES c, Reg.DMA_CRC_LO.CRC c, Reg.DMA_CRC_HI.CRC c, Reg.DMA_IRQ.END] ++ (List.range 32).map Reg.DMA_STAT.STATE) s t ∧
      t = { s with regs := t.regs, dma := t.dma, dmaNext := t.dmaNext, dmaTurn := t.dmaTurn, sys := t.sys, evr := t.evr, sent := t.sent, host := { s.host with msixPend := t.host.msixPend } } ∧
      SameMem s t)) ∧
  (∀ (c v : Nat) (s : State),
    c < 32 →
    dmaState c s ≠ 0 →
    Gives (.dmaGo c v) s (fun t =>
      t.dma = s.dma ∧
      get (Reg.DMA_STAT.STATE c) t = get (Reg.DMA_STAT.STATE c) s ∧
      OnlyRegs ([Reg.DMA_CTL.CLASS c, Reg.DMA_CTL.CRC c, Reg.DMA_CTL.CRC_CONT c, Reg.DMA_CTL.CRC_STORE c, Reg.DMA_CTL.IE c, Reg.DMA_CTL.SRC_FIX c, Reg.DMA_CTL.DST_FIX c]) s t ∧
      OnlyRegisters s t ∧
      SameMem s t)) ∧
  (∀ (c : Nat) (s : State),
    c < 32 →
    dmaState c s ≠ 0 →
    Gives (.dmaAbort c) s (fun t =>
      get (Reg.DMA_STAT.STATE c) t = 0 ∧
      get (Reg.DMA_STAT.CODE c) t = 4 ∧
      bit Reg.DMA_IRQ.END c t = true ∧
      (dmaOf c t).stag = [] ∧
      OnlyRegs ([Reg.DMA_STAT.CODE c, Reg.DMA_REMAIN.BYTES c, Reg.DMA_CRC_LO.CRC c, Reg.DMA_CRC_HI.CRC c, Reg.DMA_IRQ.END] ++ (List.range 32).map Reg.DMA_STAT.STATE) s t ∧
      t = { s with regs := t.regs, dma := t.dma, dmaNext := t.dmaNext, dmaTurn := t.dmaTurn, sys := t.sys, evr := t.evr, sent := t.sent, host := { s.host with msixPend := t.host.msixPend } } ∧
      SameMem s t)) ∧
  (∀ (c : Nat) (s : State),
    c < 32 →
    dmaState c s = 0 →
    Gives (.dmaAbort c) s (fun t =>
      t = s)) ∧
  (∀ (c d : Nat) (s : State),
    c < 32 →
    preempted c s = some d →
    dmaState c s = 2 →
    4 ≤ (onMover s).length →
    Gives (.dmaPreempt c) s (fun t =>
      get (Reg.DMA_STAT.STATE c) t = 1 ∧
      ((c ≠ d → get (Reg.DMA_STAT.STATE d) t = 2)) ∧
      t.dmaTurn = c ∧
      t.dma = s.dma ∧
      OnlyRegs [Reg.DMA_STAT.STATE c, Reg.DMA_STAT.STATE d] s t ∧
      t = { s with regs := t.regs, dmaTurn := t.dmaTurn } ∧
      SameMem s t)) ∧
  (∀ (c b n : Nat) (s : State),
    c < 32 →
    dmaState c s = 1 →
    (dmaOf c s).wrote < (dmaOf c s).size →
    (dmaOf c s).stag = [] →
    get (Reg.DMA_CTL.SRC_FIX c) s = 0 →
    get (Reg.DMA_CTL.DST_FIX c) s = 0 →
    32 ≤ b →
    n = min 1024 ((dmaOf c s).size - (dmaOf c s).got) →
    0 < n →
    within (0x20000000, 0x28000000) ((dmaOf c s).src + (dmaOf c s).got) n = true →
    within (0x20000000, 0x28000000) ((dmaOf c s).dst + (dmaOf c s).wrote) n = true →
    accessCause true ((dmaOf c s).src + (dmaOf c s).got) n false s = none →
    accessCause true ((dmaOf c s).dst + (dmaOf c s).wrote) n true s = none →
    flipHits 2 ((dmaOf c s).dst + (dmaOf c s).wrote) n s = false →
    ((wordsIn 2 ((dmaOf c s).src + (dmaOf c s).got) n ++ wordsIn 2 ((dmaOf c s).dst + (dmaOf c s).wrote) n).all (fun w => (upsetOf 2 w s).isNone && !isPoisoned 2 w s) = true) →
    Gives (.dmaBurst c b []) s (fun t =>
      memRead ((dmaOf c s).dst + (dmaOf c s).wrote) n t = memRead ((dmaOf c s).src + (dmaOf c s).got) n s ∧
      (dmaOf c t).wrote = (dmaOf c s).wrote + n ∧
      (dmaOf c t).got = (dmaOf c s).got + n ∧
      (dmaOf c t).stag = [] ∧
      get (Reg.DMA_REMAIN.BYTES c) t = ((dmaOf c s).size - ((dmaOf c s).wrote + n)) % 2 ^ 32 ∧
      MemOutside ((dmaOf c s).dst + (dmaOf c s).wrote) n s t ∧
      OnlyRegs ([Reg.DMA_REMAIN.BYTES c] ++ (List.range 32).map Reg.DMA_STAT.STATE) s t ∧
      t = { s with regs := t.regs, mem := t.mem, poison := t.poison, dma := t.dma, dmaTurn := t.dmaTurn, sys := t.sys })) ∧
  (∀ (c b e : Nat) (s : State),
    c < 32 →
    dmaState c s = 1 →
    (dmaOf c s).wrote < (dmaOf c s).size →
    (dmaOf c s).stag = [] →
    get (Reg.DMA_CTL.SRC_FIX c) s = 0 →
    get (Reg.DMA_CTL.DST_FIX c) s = 0 →
    accessCause true ((dmaOf c s).src + (dmaOf c s).got) (min 1024 ((dmaOf c s).size - (dmaOf c s).got)) false s = some e →
    Gives (.dmaBurst c b []) s (fun t =>
      get (Reg.DMA_STAT.STATE c) t = 0 ∧
      get (Reg.DMA_STAT.CODE c) t = 2 ∧
      bit Reg.DMA_IRQ.END c t = true ∧
      OnlyBlocks [0, 22] s t ∧
      t = { s with regs := t.regs, dma := t.dma, dmaNext := t.dmaNext, dmaTurn := t.dmaTurn, sys := t.sys, evr := t.evr, sent := t.sent, host := { s.host with msixPend := t.host.msixPend } } ∧
      SameMem s t)) ∧
  (∀ (c b m : Nat) (u : List Upset) (s : State),
    c < 32 →
    dmaState c s = 1 →
    (dmaOf c s).wrote < (dmaOf c s).size →
    (dmaOf c s).stag ≠ [] →
    ((dmaOf c s).stag.all (fun x => decide (x.1 < 256)) = true) →
    get (Reg.DMA_CTL.DST_FIX c) s = 0 →
    m = min (dmaOf c s).stag.length (32 * b) →
    within (0x20000000, 0x28000000) ((dmaOf c s).dst + (dmaOf c s).wrote) (dmaOf c s).stag.length = true →
    accessCause true ((dmaOf c s).dst + (dmaOf c s).wrote) (dmaOf c s).stag.length true s = none →
    flipHits 2 ((dmaOf c s).dst + (dmaOf c s).wrote) m s = false →
    ((wordsIn 2 ((dmaOf c s).dst + (dmaOf c s).wrote) m).all (fun w => (upsetOf 2 w s).isNone && !isPoisoned 2 w s) = true) →
    Gives (.dmaBurst c b u) s (fun t =>
      memRead ((dmaOf c s).dst + (dmaOf c s).wrote) m t = ((dmaOf c s).stag.take m).map (·.1) ∧
      (dmaOf c t).wrote = (dmaOf c s).wrote + m ∧
      (dmaOf c t).got = (dmaOf c s).got ∧
      (dmaOf c t).stag = (dmaOf c s).stag.drop m ∧
      get (Reg.DMA_REMAIN.BYTES c) t = ((dmaOf c s).size - ((dmaOf c s).wrote + m)) % 2 ^ 32 ∧
      MemOutside ((dmaOf c s).dst + (dmaOf c s).wrote) m s t ∧
      OnlyRegs ([Reg.DMA_REMAIN.BYTES c] ++ (List.range 32).map Reg.DMA_STAT.STATE) s t ∧
      t = { s with regs := t.regs, mem := t.mem, poison := t.poison, dma := t.dma, dmaTurn := t.dmaTurn, sys := t.sys })) ∧
  (∀ (c b n : Nat) (u : List Upset) (s : State),
    c < 32 →
    dmaState c s = 1 →
    (dmaOf c s).wrote < (dmaOf c s).size →
    (dmaOf c s).stag = [] →
    n = min 1024 ((dmaOf c s).size - (dmaOf c s).got) →
    0 < n →
    within (0x20000000, 0x28000000) ((dmaOf c s).src + (dmaOf c s).got) n = true →
    within (0x20000000, 0x28000000) ((dmaOf c s).dst + (dmaOf c s).wrote) n = true →
    within (0x20000000, 0x28000000) (dmaOf c s).src 4 = true →
    within (0x20000000, 0x28000000) (dmaOf c s).dst 4 = true →
    ((List.range 21).all (fun k => domOn k s) = true) →
    Gives (.dmaBurst c b u) s (fun t =>
      ((dmaOf c t).wrote = (dmaOf c s).wrote + min n (if get (Reg.DMA_CTL.DST_FIX c) s = 1 then 4 * b else 32 * b)) ∧
      (dmaOf c t).got = (dmaOf c s).got + n ∧
      ((dmaOf c t).stag.length = n - (if get (Reg.DMA_CTL.DST_FIX c) s = 1 then 4 * b else 32 * b)) ∧
      (get (Reg.DMA_REMAIN.BYTES c) t = ((dmaOf c s).size - ((dmaOf c s).wrote + min n (if get (Reg.DMA_CTL.DST_FIX c) s = 1 then 4 * b else 32 * b))) % 2 ^ 32) ∧
      get (Reg.DMA_STAT.CODE c) t = get (Reg.DMA_STAT.CODE c) s)) ∧
  (∀ (c b e : Nat) (s : State),
    c < 32 →
    dmaState c s = 1 →
    (dmaOf c s).wrote < (dmaOf c s).size →
    (dmaOf c s).stag ≠ [] →
    get (Reg.DMA_CTL.DST_FIX c) s = 0 →
    accessCause true ((dmaOf c s).dst + (dmaOf c s).wrote) (dmaOf c s).stag.length true s = some e →
    Gives (.dmaBurst c b []) s (fun t =>
      get (Reg.DMA_STAT.STATE c) t = 0 ∧
      get (Reg.DMA_STAT.CODE c) t = 2 ∧
      bit Reg.DMA_IRQ.END c t = true ∧
      OnlyBlocks [0, 22] s t ∧
      t = { s with regs := t.regs, dma := t.dma, dmaNext := t.dmaNext, dmaTurn := t.dmaTurn, sys := t.sys, evr := t.evr, sent := t.sent, host := { s.host with msixPend := t.host.msixPend } } ∧
      SameMem s t)) ∧
  (∀ (c : Nat) (s : State),
    c < 32 →
    dmaState c s = 1 →
    (dmaOf c s).size ≤ (dmaOf c s).wrote →
    (get (Reg.DMA_CTL.CRC_STORE c) s = 0 ∨ crcKind c s = 0) →
    (dmaOf c s).bad = false →
    get (Reg.DMA_STAT.SH_VALID c) s ≠ 1 →
    Gives (.dmaBlockEnd c) s (fun t =>
      get (Reg.DMA_STAT.CODE c) t = 1 ∧
      get (Reg.DMA_STAT.STATE c) t = 0 ∧
      ((get (Reg.DMA_CTL.IE c) s = 1 → bit Reg.DMA_IRQ.END c t = true)) ∧
      ((get (Reg.DMA_CTL.IE c) s ≠ 1 → get Reg.DMA_IRQ.END t = get Reg.DMA_IRQ.END s)) ∧
      ((crcKind c s ≠ 0 → get (Reg.DMA_CRC_LO.CRC c) t = bits (crcFinal (crcKind c s) (dmaOf c s).crc) 0 32)) ∧
      OnlyRegs ([Reg.DMA_STAT.CODE c, Reg.DMA_REMAIN.BYTES c, Reg.DMA_CRC_LO.CRC c, Reg.DMA_CRC_HI.CRC c, Reg.DMA_IRQ.END] ++ (List.range 32).map Reg.DMA_STAT.STATE) s t ∧
      t = { s with regs := t.regs, dma := t.dma, dmaNext := t.dmaNext, dmaTurn := t.dmaTurn, sys := t.sys, evr := t.evr, sent := t.sent, host := { s.host with msixPend := t.host.msixPend } } ∧
      SameMem s t)) ∧
  (∀ (c : Nat) (s : State),
    c < 32 →
    dmaState c s = 1 →
    (dmaOf c s).size ≤ (dmaOf c s).wrote →
    (get (Reg.DMA_CTL.CRC_STORE c) s = 0 ∨ crcKind c s = 0) →
    (dmaOf c s).bad = true →
    Gives (.dmaBlockEnd c) s (fun t =>
      get (Reg.DMA_STAT.CODE c) t = 3 ∧
      get (Reg.DMA_STAT.STATE c) t = 0 ∧
      bit Reg.DMA_IRQ.END c t = true ∧
      OnlyRegs ([Reg.DMA_STAT.CODE c, Reg.DMA_REMAIN.BYTES c, Reg.DMA_CRC_LO.CRC c, Reg.DMA_CRC_HI.CRC c, Reg.DMA_IRQ.END] ++ (List.range 32).map Reg.DMA_STAT.STATE) s t ∧
      t = { s with regs := t.regs, dma := t.dma, dmaNext := t.dmaNext, dmaTurn := t.dmaTurn, sys := t.sys, evr := t.evr, sent := t.sent, host := { s.host with msixPend := t.host.msixPend } } ∧
      SameMem s t)) ∧
  (∀ (c : Nat) (s : State),
    c < 32 →
    dmaState c s = 1 →
    (dmaOf c s).size ≤ (dmaOf c s).wrote →
    get (Reg.DMA_CTL.CRC_STORE c) s ≠ 0 →
    crcKind c s ≠ 0 →
    get (Reg.DMA_CTL.DST_FIX c) s ≠ 1 →
    within (0x20000000, 0x28000000) ((dmaOf c s).dst + (dmaOf c s).size) (crcLen (crcKind c s)) = true →
    accessCause true ((dmaOf c s).dst + (dmaOf c s).size) (crcLen (crcKind c s)) true s = none →
    flipHits 2 ((dmaOf c s).dst + (dmaOf c s).size) (crcLen (crcKind c s)) s = false →
    (dmaOf c s).bad = false →
    get (Reg.DMA_STAT.SH_VALID c) s ≠ 1 →
    Gives (.dmaBlockEnd c) s (fun t =>
      get (Reg.DMA_STAT.CODE c) t = 1 ∧
      get (Reg.DMA_STAT.STATE c) t = 0 ∧
      memRead ((dmaOf c s).dst + (dmaOf c s).size) (crcLen (crcKind c s)) t = bytesOf (crcLen (crcKind c s)) (crcFinal (crcKind c s) (dmaOf c s).crc))) ∧
  (∀ (c e : Nat) (s : State),
    c < 32 →
    dmaState c s = 1 →
    (dmaOf c s).size ≤ (dmaOf c s).wrote →
    get (Reg.DMA_CTL.CRC_STORE c) s ≠ 0 →
    crcKind c s ≠ 0 →
    get (Reg.DMA_CTL.DST_FIX c) s ≠ 1 →
    accessCause true ((dmaOf c s).dst + (dmaOf c s).size) (crcLen (crcKind c s)) true s = some e →
    Gives (.dmaBlockEnd c) s (fun t =>
      get (Reg.DMA_STAT.CODE c) t = 2 ∧
      get (Reg.DMA_STAT.STATE c) t = 0 ∧
      bit Reg.DMA_IRQ.END c t = true ∧
      OnlyBlocks [0, 22] s t ∧
      t = { s with regs := t.regs, dma := t.dma, dmaNext := t.dmaNext, dmaTurn := t.dmaTurn, sys := t.sys, evr := t.evr, sent := t.sent, host := { s.host with msixPend := t.host.msixPend } } ∧
      SameMem s t)) ∧
  (∀ (c : Nat) (s : State),
    c < 32 →
    dmaState c s = 1 →
    (dmaOf c s).size ≤ (dmaOf c s).wrote →
    (get (Reg.DMA_CTL.CRC_STORE c) s = 0 ∨ crcKind c s = 0) →
    (dmaOf c s).bad = false →
    get (Reg.DMA_STAT.SH_VALID c) s = 1 →
    Gives (.dmaBlockEnd c) s (fun t =>
      get (Reg.DMA_STAT.SH_VALID c) t = 0 ∧
      get (Reg.DMA_STAT.LOADS c) t = (get (Reg.DMA_STAT.LOADS c) s + 1) % 256 ∧
      get (Reg.DMA_COUNT.BYTES c) t = get (Reg.DMA_SH_COUNT.BYTES c) s % 2 ^ 32 ∧
      get (Reg.DMA_SRC_LO.ADDR c) t = get (Reg.DMA_SH_SRC_LO.ADDR c) s % 2 ^ 32 ∧
      get (Reg.DMA_DST_LO.ADDR c) t = get (Reg.DMA_SH_DST_LO.ADDR c) s % 2 ^ 32 ∧
      OnlyBlocks [22, 0] s t ∧
      t = { s with regs := t.regs, dma := t.dma, dmaNext := t.dmaNext, dmaTurn := t.dmaTurn, sys := t.sys, evr := t.evr, sent := t.sent, host := { s.host with msixPend := t.host.msixPend } } ∧
      SameMem s t)) ∧
  (∀ (r : ArbReq) (x : Nat) (l : List ArbReq) (o : Option Nat) (s : State),
    x < 6 →
    (oldest (l.filter (fun r => decide ((if get (Reg.ARB_AGE.LIMIT x) s = 0 then 200 else get (Reg.ARB_AGE.LIMIT x) s) < r.age))) = some r) →
    Gives (.arbWaitExceeded x l o) s (fun t =>
      get (Reg.ARB_WAIT.MAX x) t = min 65535 (max r.age (get (Reg.ARB_WAIT.MAX x) s)) ∧
      (get (Reg.ARB_WAIT.OVER x) t = (if 400 < r.age then (get (Reg.ARB_WAIT.OVER x) s + 1) % 2 ^ (Reg.ARB_WAIT.OVER 0).width else get (Reg.ARB_WAIT.OVER x) s)) ∧
      get (Reg.ARB_PROMO.COUNT x) t = (get (Reg.ARB_PROMO.COUNT x) s + 1) % 2 ^ (Reg.ARB_PROMO.COUNT 0).width ∧
      arbOf x t = arbOf x s ∧
      ((∀ p ∈ o, get (Reg.ARB_LOAD.LOAD x) t = min p 100 ∧ get (Reg.ARB_LOAD.PEAK x) t = max (min p 100) (get (Reg.ARB_LOAD.PEAK x) s) % 2 ^ (Reg.ARB_LOAD.PEAK 0).width)) ∧
      ((o = none → get (Reg.ARB_LOAD.LOAD x) t = get (Reg.ARB_LOAD.LOAD x) s ∧ get (Reg.ARB_LOAD.PEAK x) t = get (Reg.ARB_LOAD.PEAK x) s)) ∧
      OnlyRegs [Reg.ARB_WAIT.MAX x, Reg.ARB_WAIT.OVER x, Reg.ARB_PROMO.COUNT x, Reg.ARB_LOAD.LOAD x, Reg.ARB_LOAD.PEAK x] s t ∧
      t = { s with regs := t.regs, arb := t.arb, sys := t.sys, evr := t.evr, sent := t.sent, host := { s.host with msixPend := t.host.msixPend } } ∧
      SameMem s t)) ∧
  (∀ (x : Nat) (l : List ArbReq) (o : Option Nat) (s : State),
    x < 6 →
    (l.all (fun r => decide (r.master < 21)) = true) →
    (l.all (fun r => decide (r.age ≤ (if get (Reg.ARB_AGE.LIMIT x) s = 0 then 200 else get (Reg.ARB_AGE.LIMIT x) s))) = true) →
    Gives (.arbWaitExceeded x l o) s (fun t =>
      ((l = [] → get (Reg.ARB_WAIT.MAX x) t = get (Reg.ARB_WAIT.MAX x) s ∧ t.arb = s.arb)) ∧
      ((l ≠ [] → l.any (fun r => l.all (fun q => decide (arbClass q s ≤ arbClass r s)) && (!r.scrub || l.all (fun q => q.scrub || decide (arbClass q s < arbClass r s))) && (get (Reg.ARB_WAIT.MAX x) t == min 65535 (max r.age (get (Reg.ARB_WAIT.MAX x) s)))) = true)) ∧
      (get (Reg.ARB_WAIT.OVER x) t = get (Reg.ARB_WAIT.OVER x) s ∨ get (Reg.ARB_WAIT.OVER x) t = (get (Reg.ARB_WAIT.OVER x) s + 1) % 2 ^ (Reg.ARB_WAIT.OVER 0).width) ∧
      get (Reg.ARB_PROMO.COUNT x) t = get (Reg.ARB_PROMO.COUNT x) s ∧
      ((∀ p ∈ o, get (Reg.ARB_LOAD.LOAD x) t = min p 100 ∧ get (Reg.ARB_LOAD.PEAK x) t = max (min p 100) (get (Reg.ARB_LOAD.PEAK x) s) % 2 ^ (Reg.ARB_LOAD.PEAK 0).width)) ∧
      ((o = none → get (Reg.ARB_LOAD.LOAD x) t = get (Reg.ARB_LOAD.LOAD x) s ∧ get (Reg.ARB_LOAD.PEAK x) t = get (Reg.ARB_LOAD.PEAK x) s)) ∧
      OnlyRegs [Reg.ARB_WAIT.MAX x, Reg.ARB_WAIT.OVER x, Reg.ARB_PROMO.COUNT x, Reg.ARB_LOAD.LOAD x, Reg.ARB_LOAD.PEAK x] s t ∧
      t = { s with regs := t.regs, arb := t.arb, sys := t.sys, evr := t.evr, sent := t.sent, host := { s.host with msixPend := t.host.msixPend } } ∧
      SameMem s t)) ∧
  (∀ (x k : Nat) (l : List ArbReq) (o : Option Nat) (s : State),
    x < 6 →
    (l.all (fun r => decide (r.age ≤ (if get (Reg.ARB_AGE.LIMIT x) s = 0 then 200 else get (Reg.ARB_AGE.LIMIT x) s))) = true) →
    k = (arbOf x s).cur →
    0 < (arbOf x s).left →
    (l.any (fun r => decide (r.master < 21) && clusterOf r.master == k && !r.scrub && l.all (fun q => decide (arbClass q s ≤ arbClass r s))) = true) →
    Gives (.arbWaitExceeded x l o) s (fun t =>
      (arbOf x t).cur = k ∧
      (arbOf x t).left = (arbOf x s).left - 1 ∧
      OnlyRegs [Reg.ARB_WAIT.MAX x, Reg.ARB_WAIT.OVER x, Reg.ARB_PROMO.COUNT x, Reg.ARB_LOAD.LOAD x, Reg.ARB_LOAD.PEAK x] s t ∧
      t = { s with regs := t.regs, arb := t.arb, sys := t.sys, evr := t.evr, sent := t.sent, host := { s.host with msixPend := t.host.msixPend } } ∧
      SameMem s t))

/-- The FIFOs: configuration, push, pop, flush, mark and rewind. Rests on R404, R405, R406, R407, R408, R409. Where it meets them it
rests on choices of the model: log entries 100, 101. -/
def Obligations.FifosPushPopFlushAndRewind : Prop :=
  (∀ (f v : Nat) (s : State),
    f < 16 →
    fifRuns f s = false →
    Gives (.fifoCfgWrite f v) s (fun t =>
      get (Reg.FIF_CFG.EN f) t = bits v 0 1 ∧
      get (Reg.FIF_CFG.MODE f) t = bits v 1 1 ∧
      get (Reg.FIF_CFG.PEP f) t = bits v 2 3 ∧
      get (Reg.FIF_CFG.PUNIT f) t = bits v 5 5 ∧
      get (Reg.FIF_CFG.CEP f) t = bits v 10 3 ∧
      get (Reg.FIF_CFG.CUNIT f) t = bits v 13 5 ∧
      get (Reg.FIF_CFG.NIE f) t = bits v 18 1 ∧
      OnlyRegs [Reg.FIF_CFG.EN f, Reg.FIF_CFG.MODE f, Reg.FIF_CFG.PEP f, Reg.FIF_CFG.PUNIT f, Reg.FIF_CFG.CEP f, Reg.FIF_CFG.CUNIT f, Reg.FIF_CFG.NIE f] s t ∧
      OnlyRegisters s t ∧
      SameMem s t)) ∧
  (∀ (f v : Nat) (s : State),
    f < 16 →
    fifRuns f s = true →
    v % 2 = 0 →
    Gives (.fifoCfgWrite f v) s (fun t =>
      get (Reg.FIF_CFG.EN f) t = 0 ∧
      get (Reg.FIF_STAT.OVERRUN f) t = 0 ∧
      get (Reg.FIF_STAT.UNDERRUN f) t = 0 ∧
      get (Reg.FIF_STAT.EMPTY f) t = 1 ∧
      get (Reg.FIF_STAT.FULL f) t = 0 ∧
      (fifOf f t).q = [] ∧
      OnlyRegs ([Reg.FIF_STAT.WLEVEL f, Reg.FIF_STAT.FULL f, Reg.FIF_STAT.RLEVEL f, Reg.FIF_STAT.EMPTY f, Reg.FIF_PKT.PKTS f] ++ [Reg.FIF_CFG.EN f, Reg.FIF_CFG.MODE f, Reg.FIF_CFG.PEP f, Reg.FIF_CFG.PUNIT f, Reg.FIF_CFG.CEP f, Reg.FIF_CFG.CUNIT f, Reg.FIF_CFG.NIE f, Reg.FIF_STAT.OVERRUN f, Reg.FIF_STAT.UNDERRUN f]) s t ∧
      t = { s with regs := t.regs, fif := t.fif, sys := t.sys } ∧
      SameMem s t)) ∧
  (∀ (f v : Nat) (s : State),
    f < 16 →
    fifRuns f s = true →
    v % 2 = 1 →
    Gives (.fifoCfgWrite f v) s (fun t =>
      t = s)) ∧
  (∀ (f m d : Nat) (s : State),
    f < 16 →
    fifRuns f s = true →
    (get (Reg.FIF_STAT.DROPPING f) s = 0 ∨ m.testBit 0 = true) →
    (fifOf f s).q.length < 1024 →
    Gives (.fifoPush f m d) s (fun t =>
      (fifOf f t).q = (fifOf f s).q ++ [⟨d % 2 ^ 32, m.testBit 0, m.testBit 1, m.testBit 1 && (fifOf f s).lostIn⟩] ∧
      get (Reg.FIF_STAT.WLEVEL f) t = (fifOf f s).q.length + 1 ∧
      get (Reg.FIF_STAT.DROPPING f) t = 0 ∧
      OnlyRegs ([Reg.FIF_STAT.WLEVEL f, Reg.FIF_STAT.FULL f, Reg.FIF_STAT.RLEVEL f, Reg.FIF_STAT.EMPTY f, Reg.FIF_PKT.PKTS f] ++ [Reg.FIF_STAT.DROPPING f]) s t ∧
      t = { s with regs := t.regs, fif := t.fif, sys := t.sys, evr := t.evr, sent := t.sent, host := { s.host with msixPend := t.host.msixPend } } ∧
      SameMem s t)) ∧
  (∀ (f m d : Nat) (s : State),
    f < 16 →
    fifRuns f s = true →
    (get (Reg.FIF_STAT.DROPPING f) s = 0 ∨ m.testBit 0 = true) →
    1024 ≤ (fifOf f s).q.length →
    Gives (.fifoPush f m d) s (fun t =>
      (fifOf f t).q = (fifOf f s).q ∧
      get (Reg.FIF_STAT.OVERRUN f) t = 1 ∧
      OnlyRegs [Reg.FIF_STAT.OVERRUN f, Reg.FIF_STAT.DROPPING f] s t ∧
      t = { s with regs := t.regs, fif := t.fif, sys := t.sys, evr := t.evr, sent := t.sent, host := { s.host with msixPend := t.host.msixPend } } ∧
      SameMem s t)) ∧
  (∀ (f m d : Nat) (s : State),
    f < 16 →
    fifRuns f s = true →
    get (Reg.FIF_STAT.DROPPING f) s = 1 →
    m.testBit 0 = false →
    Gives (.fifoPush f m d) s (fun t =>
      get (Reg.FIF_DROP.WORDS f) t = (get (Reg.FIF_DROP.WORDS f) s + 1) % 2 ^ (Reg.FIF_DROP.WORDS 0).width ∧
      OnlyRegs [Reg.FIF_DROP.WORDS f] s t ∧
      OnlyRegisters s t ∧
      SameMem s t)) ∧
  (∀ (f : Nat) (w : FifoWord) (s : State),
    f < 16 →
    (fifOf f s).q[(fifOf f s).rd]? = some w →
    Gives (.fifoPop f) s (fun t =>
      t.sys.resp = .data (bytesOf 4 w.data) false ∧
      get (Reg.FIF_POP_INFO.VALID f) t = 1 ∧
      get (Reg.FIF_POP_INFO.SOI f) t = b2n w.soi ∧
      get (Reg.FIF_POP_INFO.EOI f) t = b2n w.eoi ∧
      get (Reg.FIF_POP_INFO.BAD f) t = b2n w.bad ∧
      ((get (Reg.FIF_CFG.MODE f) s = 1 → (fifOf f t).q = (fifOf f s).q ∧ (fifOf f t).rd = (fifOf f s).rd + 1)) ∧
      ((get (Reg.FIF_CFG.MODE f) s ≠ 1 → (fifOf f t).q = (fifOf f s).q.drop 1)) ∧
      OnlyRegs ([Reg.FIF_STAT.WLEVEL f, Reg.FIF_STAT.FULL f, Reg.FIF_STAT.RLEVEL f, Reg.FIF_STAT.EMPTY f, Reg.FIF_PKT.PKTS f] ++ [Reg.FIF_POP_INFO.SOI f, Reg.FIF_POP_INFO.EOI f, Reg.FIF_POP_INFO.BAD f, Reg.FIF_POP_INFO.VALID f]) s t ∧
      t = { s with regs := t.regs, fif := t.fif, sys := t.sys } ∧
      SameMem s t)) ∧
  (∀ (f : Nat) (s : State),
    f < 16 →
    (fifOf f s).q[(fifOf f s).rd]? = none →
    Gives (.fifoPop f) s (fun t =>
      t.sys.resp = .data [0, 0, 0, 0] false ∧
      get (Reg.FIF_STAT.UNDERRUN f) t = 1 ∧
      get (Reg.FIF_POP_INFO.VALID f) t = 0 ∧
      t.fif = s.fif ∧
      OnlyRegs [Reg.FIF_STAT.UNDERRUN f, Reg.FIF_POP_INFO.VALID f] s t ∧
      t = { s with regs := t.regs, sys := t.sys } ∧
      SameMem s t)) ∧
  (∀ (f : Nat) (s : State),
    f < 16 →
    Gives (.fifoFlush f) s (fun t =>
      (fifOf f t).q = [] ∧
      (fifOf f t).rd = 0 ∧
      get (Reg.FIF_STAT.EMPTY f) t = 1 ∧
      (((fifOf f s).ended = true → get (Reg.FIF_STAT.DROPPING f) t = get (Reg.FIF_STAT.DROPPING f) s)) ∧
      (((fifOf f s).ended = false → get (Reg.FIF_STAT.DROPPING f) t = 1)) ∧
      OnlyRegs ([Reg.FIF_STAT.WLEVEL f, Reg.FIF_STAT.FULL f, Reg.FIF_STAT.RLEVEL f, Reg.FIF_STAT.EMPTY f, Reg.FIF_PKT.PKTS f] ++ [Reg.FIF_STAT.DROPPING f]) s t ∧
      t = { s with regs := t.regs, fif := t.fif, sys := t.sys, evr := t.evr, sent := t.sent, host := { s.host with msixPend := t.host.msixPend } } ∧
      SameMem s t)) ∧
  (∀ (f : Nat) (s : State),
    f < 16 →
    get (Reg.FIF_CFG.MODE f) s = 1 →
    Gives (.fifoMark f) s (fun t =>
      (fifOf f t).q = (fifOf f s).q.drop (fifOf f s).rd ∧
      (fifOf f t).rd = 0 ∧
      OnlyRegs ([Reg.FIF_STAT.WLEVEL f, Reg.FIF_STAT.FULL f, Reg.FIF_STAT.RLEVEL f, Reg.FIF_STAT.EMPTY f, Reg.FIF_PKT.PKTS f]) s t ∧
      t = { s with regs := t.regs, fif := t.fif } ∧
      SameMem s t)) ∧
  (∀ (f : Nat) (s : State),
    f < 16 →
    get (Reg.FIF_CFG.MODE f) s = 1 →
    Gives (.fifoRewind f) s (fun t =>
      (fifOf f t).q = (fifOf f s).q ∧
      (fifOf f t).rd = 0 ∧
      OnlyRegs ([Reg.FIF_STAT.WLEVEL f, Reg.FIF_STAT.FULL f, Reg.FIF_STAT.RLEVEL f, Reg.FIF_STAT.EMPTY f, Reg.FIF_PKT.PKTS f]) s t ∧
      t = { s with regs := t.regs, fif := t.fif, sys := t.sys, evr := t.evr, sent := t.sent, host := { s.host with msixPend := t.host.msixPend } } ∧
      SameMem s t))

/-- The table cache: enabling, range operations, evictions. Rests on R410, R411, R412, R413, R414, R415. Where it meets them it
rests on choices of the model: log entries 96, 97, 98. -/
def Obligations.TableCacheOperationsPassLines : Prop :=
  (∀ (e : Bool) (s : State),
    e = true →
    get Reg.TCH_CTL.EN s = 0 →
    Gives (.tchEnableWrite e) s (fun t =>
      ((get Reg.TCH_STAT.INV_DONE s = 1 → get Reg.TCH_CTL.EN t = 1)) ∧
      ((get Reg.TCH_STAT.INV_DONE s ≠ 1 → get Reg.TCH_STAT.EN_REFUSED t = 1 ∧ get Reg.TCH_CTL.EN t = 0)) ∧
      OnlyRegs [Reg.TCH_CTL.EN, Reg.TCH_STAT.EN_REFUSED] s t ∧
      OnlyEvents s t ∧
      SameMem s t)) ∧
  (∀ (e : Bool) (s : State),
    e = false →
    get Reg.TCH_CTL.EN s = 1 →
    get Reg.TCH_STAT.DISABLING s = 0 →
    Gives (.tchEnableWrite e) s (fun t =>
      get Reg.TCH_STAT.DISABLING t = 1 ∧
      ((get Reg.TCH_STAT.BUSY s ≠ 1 → get Reg.TCH_STAT.BUSY t = 1 ∧ t.tch.op = some (6, 1, 0, 32768))) ∧
      OnlyRegs [Reg.TCH_STAT.DISABLING, Reg.TCH_STAT.BUSY] s t ∧
      t = { s with regs := t.regs, tch := t.tch } ∧
      SameMem s t)) ∧
  (∀ (e : Bool) (s : State),
    e = true →
    get Reg.TCH_CTL.EN s = 1 →
    Gives (.tchEnableWrite e) s (fun t =>
      t = s)) ∧
  (∀ (g : Bool) (n : Nat) (s : State),
    g = true →
    get Reg.TCH_STAT.BUSY s ≠ 1 →
    get Reg.TCH_CTL.EN s ≠ 0 →
    Gives (.tchInvalidate g n) s (fun t =>
      get Reg.TCH_STAT.BUSY t = 1 ∧
      t.tch = { s.tch with op := some (1, 0, 0, get Reg.TCH_RANGE_LEN.LINES s) } ∧
      OnlyRegs [Reg.TCH_STAT.BUSY] s t ∧
      t = { s with regs := t.regs, tch := t.tch } ∧
      SameMem s t)) ∧
  (∀ (g : Bool) (n : Nat) (s : State),
    g = true →
    get Reg.TCH_STAT.BUSY s ≠ 1 →
    get Reg.TCH_CTL.EN s ≠ 0 →
    Gives (.tchWriteback g n) s (fun t =>
      get Reg.TCH_STAT.BUSY t = 1 ∧
      t.tch = { s.tch with op := some (2, 0, 0, get Reg.TCH_RANGE_LEN.LINES s) } ∧
      OnlyRegs [Reg.TCH_STAT.BUSY] s t ∧
      t = { s with regs := t.regs, tch := t.tch } ∧
      SameMem s t)) ∧
  (∀ (g : Bool) (n : Nat) (s : State),
    g = true →
    get Reg.TCH_STAT.BUSY s ≠ 1 →
    get Reg.TCH_CTL.EN s ≠ 0 →
    Gives (.tchWbInv g n) s (fun t =>
      get Reg.TCH_STAT.BUSY t = 1 ∧
      t.tch = { s.tch with op := some (3, 0, 0, get Reg.TCH_RANGE_LEN.LINES s) } ∧
      OnlyRegs [Reg.TCH_STAT.BUSY] s t ∧
      t = { s with regs := t.regs, tch := t.tch } ∧
      SameMem s t)) ∧
  (∀ (g : Bool) (n : Nat) (q : Nat) (s : State),
    g = true →
    get Reg.TCH_STAT.BUSY s ≠ 1 →
    get Reg.TCH_CTL.EN s ≠ 0 →
    Gives (.tchPreload g n q) s (fun t =>
      get Reg.TCH_STAT.BUSY t = 1 ∧
      t.tch = { s.tch with op := some (4, q % 65536, 0, get Reg.TCH_RANGE_LEN.LINES s) } ∧
      OnlyRegs [Reg.TCH_STAT.BUSY] s t ∧
      t = { s with regs := t.regs, tch := t.tch } ∧
      SameMem s t)) ∧
  (∀ (g : Bool) (n : Nat) (s : State),
    g = true →
    get Reg.TCH_STAT.BUSY s ≠ 1 →
    Gives (.tchInvalidateAll g n) s (fun t =>
      get Reg.TCH_STAT.BUSY t = 1 ∧
      t.tch = { s.tch with op := some (5, 0, 0, 32768) } ∧
      OnlyRegs [Reg.TCH_STAT.BUSY] s t ∧
      t = { s with regs := t.regs, tch := t.tch } ∧
      SameMem s t)) ∧
  (∀ (g : Bool) (n : Nat) (s : State),
    g = true →
    get Reg.TCH_STAT.BUSY s ≠ 1 →
    get Reg.TCH_CTL.EN s ≠ 0 →
    Gives (.tchWbInvAll g n) s (fun t =>
      get Reg.TCH_STAT.BUSY t = 1 ∧
      t.tch = { s.tch with op := some (6, 0, 0, 32768) } ∧
      OnlyRegs [Reg.TCH_STAT.BUSY] s t ∧
      t = { s with regs := t.regs, tch := t.tch } ∧
      SameMem s t)) ∧
  (∀ (g : Bool) (n : Nat) (s : State),
    g = true →
    (get Reg.TCH_STAT.BUSY s = 1 ∨ get Reg.TCH_CTL.EN s = 0) →
    Gives (.tchInvalidate g n) s (fun t =>
      get Reg.TCH_STAT.OP_REFUSED t = 1 ∧
      OnlyRegs [Reg.TCH_STAT.OP_REFUSED] s t ∧
      OnlyEvents s t ∧
      SameMem s t)) ∧
  (∀ (g : Bool) (n : Nat) (s : State),
    g = true →
    (get Reg.TCH_STAT.BUSY s = 1 ∨ get Reg.TCH_CTL.EN s = 0) →
    Gives (.tchWriteback g n) s (fun t =>
      get Reg.TCH_STAT.OP_REFUSED t = 1 ∧
      OnlyRegs [Reg.TCH_STAT.OP_REFUSED] s t ∧
      OnlyEvents s t ∧
      SameMem s t)) ∧
  (∀ (g : Bool) (n : Nat) (s : State),
    g = true →
    (get Reg.TCH_STAT.BUSY s = 1 ∨ get Reg.TCH_CTL.EN s = 0) →
    Gives (.tchWbInv g n) s (fun t =>
      get Reg.TCH_STAT.OP_REFUSED t = 1 ∧
      OnlyRegs [Reg.TCH_STAT.OP_REFUSED] s t ∧
      OnlyEvents s t ∧
      SameMem s t)) ∧
  (∀ (g : Bool) (n : Nat) (q : Nat) (s : State),
    g = true →
    (get Reg.TCH_STAT.BUSY s = 1 ∨ get Reg.TCH_CTL.EN s = 0) →
    Gives (.tchPreload g n q) s (fun t =>
      get Reg.TCH_STAT.OP_REFUSED t = 1 ∧
      OnlyRegs [Reg.TCH_STAT.OP_REFUSED] s t ∧
      OnlyEvents s t ∧
      SameMem s t)) ∧
  (∀ (g : Bool) (n : Nat) (s : State),
    g = true →
    get Reg.TCH_STAT.BUSY s = 1 →
    Gives (.tchInvalidateAll g n) s (fun t =>
      get Reg.TCH_STAT.OP_REFUSED t = 1 ∧
      OnlyRegs [Reg.TCH_STAT.OP_REFUSED] s t ∧
      OnlyEvents s t ∧
      SameMem s t)) ∧
  (∀ (g : Bool) (n : Nat) (s : State),
    g = true →
    (get Reg.TCH_STAT.BUSY s = 1 ∨ get Reg.TCH_CTL.EN s = 0) →
    Gives (.tchWbInvAll g n) s (fun t =>
      get Reg.TCH_STAT.OP_REFUSED t = 1 ∧
      OnlyRegs [Reg.TCH_STAT.OP_REFUSED] s t ∧
      OnlyEvents s t ∧
      SameMem s t)) ∧
  (∀ (g : Bool) (n i m w : Nat) (j : Nat) (u : Under) (l : TchLine) (s : State),
    g = false →
    n = 1 →
    s.tch.op = some (1, 0, i, m) →
    i < m →
    dramBase ≤ (rangeStart s + 256 * i) →
    hitWay (rangeStart s + 256 * i) s = some w →
    AMap.lookup (wayKey (setOf (rangeStart s + 256 * i)) w) s.tch.lines = some l →
    AMap.rising s.tch.lines = true →
    l.dirty = [(j, u)] →
    u.data.length = 64 →
    Gives (.tchInvalidate g n) s (fun t =>
      t.tch.op = some (1, 0, i + 1, m) ∧
      AMap.lookup (wayKey (setOf (rangeStart s + 256 * i)) w) t.tch.lines = none ∧
      (memRead ((lineAddr (setOf (rangeStart s + 256 * i)) l.tag) + 64 * j) 64 t = u.data.map (fun b => b % 256)) ∧
      MemOutside ((lineAddr (setOf (rangeStart s + 256 * i)) l.tag) + 64 * j) 64 s t ∧
      OnlyRegs [] s t ∧
      t = { s with tch := t.tch, mem := t.mem, poison := t.poison })) ∧
  (∀ (g : Bool) (n i m w : Nat) (l : TchLine) (s : State),
    g = false →
    n = 1 →
    s.tch.op = some (2, 0, i, m) →
    i < m →
    dramBase ≤ (rangeStart s + 256 * i) →
    hitWay (rangeStart s + 256 * i) s = some w →
    AMap.lookup (wayKey (setOf (rangeStart s + 256 * i)) w) s.tch.lines = some l →
    AMap.rising s.tch.lines = true →
    get Reg.MEM_FLIP_CTL.ARM s = 0 →
    ((wordsIn 1 (lineAddr (setOf (rangeStart s + 256 * i)) l.tag) 256).all (fun x => (upsetOf 1 x s).isNone && !isPoisoned 1 x s) = true) →
    (l.dirty.all (fun p => decide (p.1 < 4)) = true) →
    Gives (.tchWriteback g n) s (fun t =>
      t.tch.op = some (2, 0, i + 1, m) ∧
      AMap.lookup (wayKey (setOf (rangeStart s + 256 * i)) w) t.tch.lines = some { l with dirty := [] } ∧
      OnlyRegs [] s t ∧
      t = { s with tch := t.tch } ∧
      SameMem s t)) ∧
  (∀ (g : Bool) (n i m w : Nat) (l : TchLine) (s : State),
    g = false →
    n = 1 →
    s.tch.op = some (3, 0, i, m) →
    i < m →
    dramBase ≤ (rangeStart s + 256 * i) →
    hitWay (rangeStart s + 256 * i) s = some w →
    AMap.lookup (wayKey (setOf (rangeStart s + 256 * i)) w) s.tch.lines = some l →
    AMap.rising s.tch.lines = true →
    get Reg.MEM_FLIP_CTL.ARM s = 0 →
    ((wordsIn 1 (lineAddr (setOf (rangeStart s + 256 * i)) l.tag) 256).all (fun x => (upsetOf 1 x s).isNone && !isPoisoned 1 x s) = true) →
    (l.dirty.all (fun p => decide (p.1 < 4)) = true) →
    Gives (.tchWbInv g n) s (fun t =>
      t.tch.op = some (3, 0, i + 1, m) ∧
      AMap.lookup (wayKey (setOf (rangeStart s + 256 * i)) w) t.tch.lines = none ∧
      OnlyRegs [] s t ∧
      t = { s with tch := t.tch } ∧
      SameMem s t)) ∧
  (∀ (g : Bool) (n i m : Nat) (j : Nat) (u : Under) (l : TchLine) (s : State),
    g = false →
    n = 1 →
    s.tch.op = some (5, 0, i, m) →
    i < m →
    i + 1 < m →
    AMap.lookup (i) s.tch.lines = some l →
    AMap.rising s.tch.lines = true →
    l.dirty = [(j, u)] →
    u.data.length = 64 →
    Gives (.tchInvalidateAll g n) s (fun t =>
      t.tch.op = some (5, 0, i + 1, m) ∧
      AMap.lookup (i) t.tch.lines = none ∧
      (memRead ((lineAddr (i / 16) l.tag) + 64 * j) 64 t = u.data.map (fun b => b % 256)) ∧
      MemOutside ((lineAddr (i / 16) l.tag) + 64 * j) 64 s t ∧
      OnlyRegs [] s t ∧
      t = { s with tch := t.tch, mem := t.mem, poison := t.poison })) ∧
  (∀ (g : Bool) (n i m : Nat) (l : TchLine) (s : State),
    g = false →
    n = 1 →
    s.tch.op = some (6, 0, i, m) →
    i < m →
    i + 1 < m →
    AMap.lookup (i) s.tch.lines = some l →
    AMap.rising s.tch.lines = true →
    get Reg.MEM_FLIP_CTL.ARM s = 0 →
    ((wordsIn 1 (lineAddr (i / 16) l.tag) 256).all (fun x => (upsetOf 1 x s).isNone && !isPoisoned 1 x s) = true) →
    (l.dirty.all (fun p => decide (p.1 < 4)) = true) →
    Gives (.tchWbInvAll g n) s (fun t =>
      t.tch.op = some (6, 0, i + 1, m) ∧
      AMap.lookup (i) t.tch.lines = none ∧
      OnlyRegs [] s t ∧
      t = { s with tch := t.tch } ∧
      SameMem s t)) ∧
  (∀ (g : Bool) (n q x i m w : Nat) (l : TchLine) (s : State),
    g = false →
    n = 1 →
    s.tch.op = some (4, x, i, m) →
    i < m →
    dramBase ≤ (rangeStart s + 256 * i) →
    hitWay (rangeStart s + 256 * i) s = some w →
    AMap.lookup (wayKey (setOf (rangeStart s + 256 * i)) w) s.tch.lines = some l →
    AMap.rising s.tch.lines = true →
    get Reg.MEM_FLIP_CTL.ARM s = 0 →
    ((wordsIn 1 ((rangeStart s + 256 * i) / 64 * 64) 256).all (fun y => (upsetOf 1 y s).isNone) = true) →
    Gives (.tchPreload g n q) s (fun t =>
      t.tch.op = some (4, x, i + 1, m) ∧
      AMap.lookup (wayKey (setOf (rangeStart s + 256 * i)) w) t.tch.lines = some { l with valid := 15 } ∧
      OnlyRegs [] s t ∧
      t = { s with tch := t.tch } ∧
      SameMem s t)) ∧
  (∀ (g : Bool) (n x i m : Nat) (s : State),
    g = false →
    s.tch.op = some (1, x, i, m) →
    Gives (.tchInvalidate g n) s (fun t =>
      t.tch.op = some (1, x, i + min n (m - i), m))) ∧
  (∀ (g : Bool) (n x i m : Nat) (s : State),
    g = false →
    s.tch.op = some (2, x, i, m) →
    Gives (.tchWriteback g n) s (fun t =>
      t.tch.op = some (2, x, i + min n (m - i), m))) ∧
  (∀ (g : Bool) (n x i m : Nat) (s : State),
    g = false →
    s.tch.op = some (3, x, i, m) →
    Gives (.tchWbInv g n) s (fun t =>
      t.tch.op = some (3, x, i + min n (m - i), m))) ∧
  (∀ (g : Bool) (n x i m : Nat) (q : Nat) (s : State),
    g = false →
    s.tch.op = some (4, x, i, m) →
    Gives (.tchPreload g n q) s (fun t =>
      t.tch.op = some (4, x, i + min n (m - i), m))) ∧
  (∀ (g : Bool) (n x i m : Nat) (s : State),
    g = false →
    s.tch.op = some (5, x, i, m) →
    Gives (.tchInvalidateAll g n) s (fun t =>
      t.tch.op = some (5, x, i + min n (m - i), m))) ∧
  (∀ (g : Bool) (n x i m : Nat) (s : State),
    g = false →
    s.tch.op = some (6, x, i, m) →
    Gives (.tchWbInvAll g n) s (fun t =>
      t.tch.op = some (6, x, i + min n (m - i), m))) ∧
  (∀ (o x i m : Nat) (s : State),
    s.tch.op = some (o, x, i, m) →
    m ≤ i →
    get Reg.TCH_STAT.DISABLING s = 1 →
    (o ≠ 6 ∨ x ≠ 1) →
    Gives (.tchRangeDone) s (fun t =>
      t.tch.op = some (6, 1, 0, 32768) ∧
      get Reg.TCH_STAT.BUSY t = 1 ∧
      get Reg.TCH_STAT.DISABLING t = 1 ∧
      ((o = 5 → get Reg.TCH_STAT.INV_DONE t = 1)) ∧
      OnlyRegs [Reg.TCH_STAT.BUSY, Reg.TCH_STAT.INV_DONE] s t ∧
      t = { s with regs := t.regs, tch := t.tch, sys := t.sys, evr := t.evr, sent := t.sent, host := { s.host with msixPend := t.host.msixPend } } ∧
      SameMem s t)) ∧
  (∀ (b : Bool) (e : TchEvict) (l : List TchEvict) (s : State),
    b = true →
    s.tch.evb = e :: l →
    e.issued = true →
    Gives (.tchEvictionWrite b) s (fun t =>
      t.tch.evb = l)) ∧
  (∀ (o x i m : Nat) (s : State),
    s.tch.op = some (o, x, i, m) →
    m ≤ i →
    (get Reg.TCH_STAT.DISABLING s ≠ 1 ∨ (o = 6 ∧ x = 1)) →
    Gives (.tchRangeDone) s (fun t =>
      t.tch.op = none ∧
      ((get Reg.TCH_STAT.DISABLING s ≠ 1 → get Reg.TCH_STAT.BUSY t = 0)) ∧
      ((o = 5 → get Reg.TCH_STAT.DISABLING s ≠ 1 → get Reg.TCH_STAT.INV_DONE t = 1)) ∧
      ((get Reg.TCH_STAT.DISABLING s = 1 → o = 6 → x = 1 → get Reg.TCH_CTL.EN t = 0 ∧ get Reg.TCH_STAT.DISABLING t = 0 ∧ get Reg.TCH_STAT.INV_DONE t = 0 ∧ get Reg.TCH_STAT.BUSY t = 0)) ∧
      OnlyRegs [Reg.TCH_STAT.BUSY, Reg.TCH_STAT.INV_DONE, Reg.TCH_CTL.EN, Reg.TCH_STAT.DISABLING] s t ∧
      t = { s with regs := t.regs, tch := t.tch, sys := t.sys, evr := t.evr, sent := t.sent, host := { s.host with msixPend := t.host.msixPend } } ∧
      SameMem s t)) ∧
  (∀ (b : Bool) (e : TchEvict) (l : List TchEvict) (s : State),
    b = true →
    s.tch.evb = e :: l →
    e.issued = true →
    get Reg.MEM_FLIP_CTL.ARM s = 0 →
    (e.dirty.all (fun p => decide (p.1 < 4)) = true) →
    ((wordsIn 1 e.addr 256).all (fun x => (upsetOf 1 x s).isNone && !isPoisoned 1 x s) = true) →
    e.addr % 256 = 0 →
    Gives (.tchEvictionWrite b) s (fun t =>
      t.tch = { s.tch with evb := l } ∧
      OnlyRegs [] s t ∧
      t = { s with tch := t.tch } ∧
      SameMem s t)) ∧
  (∀ (b : Bool) (i : Nat) (d : TchEvict) (s : State),
    b = false →
    (s.tch.evb.findIdx? (fun x => !x.issued) = some i) →
    s.tch.evb[i]? = some d →
    Gives (.tchEvictionWrite b) s (fun t =>
      t.tch = { s.tch with evb := s.tch.evb.set i { d with issued := true } } ∧
      OnlyRegs [] s t ∧
      t = { s with tch := t.tch } ∧
      SameMem s t))

/-- The fabric: lanes, ports, link reliability, credits, forwarding. Rests on R421, R422, R425, R426, R430, R431, R432. Where it
meets them it rests on choices of the model: log entries 42, 138, 279. -/
def Obligations.FabricPortsAndLinksRun : Prop :=
  (∀ (l : List Nat) (n p : Nat) (s : State),
    ((List.range 4).filter (fun k => l.contains k && !(fabPort k s).stays && (!fabUp k s || decide (get Reg.FAB_LANE.ERR_THR s ≤ n))) = [p]) →
    fabUp p s = false →
    get Reg.FAB_LANE.AUTO s = 1 →
    get Reg.FAB_LANE.SEL s = 7 →
    Gives (.fabLanePromotion l n) s (fun t =>
      bit Reg.FAB_LANE.FAILED p t = true ∧
      get Reg.FAB_LANE.SEL t = p ∧
      get Reg.SPR_STAT.PROMOS t = (get Reg.SPR_STAT.PROMOS s + 1) % 2 ^ Reg.SPR_STAT.PROMOS.width ∧
      OnlyRegs [Reg.FAB_LANE.FAILED, Reg.FAB_LANE.SEL, Reg.SPR_STAT.PROMOS, Reg.SPR_INV.FAB, Reg.FAB_STAT.UP, Reg.FAB_PORT_STAT.UP p, Reg.FAB_PORT_STAT.TRAINING p] s t ∧
      t = { s with regs := t.regs, fab := t.fab, sys := t.sys, evr := t.evr, sent := t.sent, host := { s.host with msixPend := t.host.msixPend } } ∧
      SameMem s t)) ∧
  (∀ (l : List Nat) (n p : Nat) (s : State),
    ((List.range 4).filter (fun k => l.contains k && !(fabPort k s).stays && (!fabUp k s || decide (get Reg.FAB_LANE.ERR_THR s ≤ n))) = [p]) →
    fabUp p s = false →
    (get Reg.FAB_LANE.AUTO s ≠ 1 ∨ get Reg.FAB_LANE.SEL s ≠ 7) →
    Gives (.fabLanePromotion l n) s (fun t =>
      bit Reg.FAB_LANE.FAILED p t = true ∧
      (fabPort p t).stays = true ∧
      OnlyRegs [Reg.FAB_LANE.FAILED, Reg.FAB_STAT.UP, Reg.FAB_PORT_STAT.UP p, Reg.FAB_PORT_STAT.TRAINING p] s t ∧
      t = { s with regs := t.regs, fab := t.fab } ∧
      SameMem s t)) ∧
  (∀ (l d : List Nat) (n : Nat) (s : State),
    (d = (List.range 4).filter (fun k => l.contains k && !(fabPort k s).stays && (!fabUp k s || decide (get Reg.FAB_LANE.ERR_THR s ≤ n)))) →
    Gives (.fabLanePromotion l n) s (fun t =>
      (d.all (fun k => bit Reg.FAB_LANE.FAILED k t && !fabUp k t) = true) ∧
      ((get Reg.FAB_LANE.AUTO s = 1 → get Reg.FAB_LANE.SEL s = 7 → d ≠ [] → get Reg.FAB_LANE.SEL t = d.headD 0 ∧ (d.drop 1).all (fun k => (fabPort k t).stays) = true)) ∧
      ((get Reg.FAB_LANE.AUTO s ≠ 1 ∨ get Reg.FAB_LANE.SEL s ≠ 7 → get Reg.FAB_LANE.SEL t = get Reg.FAB_LANE.SEL s ∧ d.all (fun k => (fabPort k t).stays) = true)))) ∧
  (∀ (p : Nat) (c : Bool) (s : State),
    p < 4 →
    c = false →
    fabRuns s = true →
    fabUp p s = false →
    (fabPort p s).stays = false →
    retrainOk p s = true →
    Gives (.fabPortTraining p c) s (fun t =>
      get (Reg.FAB_PORT_STAT.TRAINING p) t = 1 ∧
      (fabPort p t).stays = false ∧
      controlsTo p (t.sent.drop s.sent.length) = [initBlock (nodeId s) 128 512, initBlock (nodeId s) 128 512] ∧
      t.sent.take s.sent.length = s.sent ∧
      ((get (Reg.FAB_PORT_STAT.FAULT p) s = 1 → get (Reg.FAB_PORT_STAT.TRIES p) t = (get (Reg.FAB_PORT_STAT.TRIES p) s + 1) % 4)) ∧
      OnlyRegs [Reg.FAB_PORT_STAT.TRAINING p, Reg.FAB_PORT_STAT.TRIES p] s t ∧
      t = { s with regs := t.regs, fab := t.fab, sent := t.sent } ∧
      SameMem s t)) ∧
  (∀ (p : Nat) (c : Bool) (s : State),
    p < 4 →
    c = true →
    get (Reg.FAB_PORT_STAT.TRAINING p) s = 1 →
    2 ≤ (fabPort p s).inits →
    Gives (.fabPortTraining p c) s (fun t =>
      get (Reg.FAB_PORT_STAT.UP p) t = 1 ∧
      get (Reg.FAB_PORT_STAT.TRAINING p) t = 0 ∧
      bit Reg.FAB_STAT.UP p t = true ∧
      ((advertises s = true → t.fab.seq = (s.fab.seq + 1) % 2 ^ 32)) ∧
      OnlyRegs [Reg.FAB_PORT_STAT.TRAINING p, Reg.FAB_PORT_STAT.UP p, Reg.FAB_STAT.UP] s t ∧
      t = { s with regs := t.regs, fab := t.fab, sys := t.sys, evr := t.evr, sent := t.sent, host := { s.host with msixPend := t.host.msixPend } } ∧
      SameMem s t)) ∧
  (∀ (p n a b : Nat) (s : State),
    p < 4 →
    get (Reg.FAB_PORT_STAT.TRAINING p) s = 1 →
    Gives (.initBlock p n a b) s (fun t =>
      get (Reg.FAB_PORT_STAT.PEER p) t = n % 4096 ∧
      fabPort p t = { fabPort p s with inits := (fabPort p s).inits + 1, credit := [a % 65536, b % 65536, b % 65536] } ∧
      OnlyRegs [Reg.FAB_PORT_STAT.PEER p] s t ∧
      t = { s with regs := t.regs, fab := t.fab } ∧
      SameMem s t)) ∧
  (∀ (p n : Nat) (k : Bool) (s : State),
    p < 4 →
    fabUp p s = true →
    (fabPort p s).queue = [] →
    Gives (.ackBlock p n k) s (fun t =>
      (fabPort p t).replay = acked n (fabPort p s).replay ∧
      ((k = true → acked n (fabPort p s).replay ≠ [] → get (Reg.FAB_PORT_ERR.REPLAYS p) t = (get (Reg.FAB_PORT_ERR.REPLAYS p) s + 1) % 65536)) ∧
      ((k = true → (acked n (fabPort p s).replay).all (fun x => decide ((Msg.fabric p x.1 x.2) ∈ t.sent)) = true)) ∧
      OnlyRegs [Reg.FAB_PORT_ERR.REPLAYS p] s t ∧
      t = { s with regs := t.regs, fab := t.fab, sent := t.sent } ∧
      SameMem s t)) ∧
  (∀ (p n : Nat) (k : Bool) (s : State),
    p < 4 →
    fabUp p s = true →
    Gives (.ackBlock p n k) s (fun t =>
      nextOut (fabPort p t) = none ∧
      (fabPort p t).replay.take (acked n (fabPort p s).replay).length = acked n (fabPort p s).replay ∧
      (fabPort p t).replay.length + (fabPort p t).queue.length = (acked n (fabPort p s).replay).length + (fabPort p s).queue.length ∧
      t.sent.take s.sent.length = s.sent ∧
      OnlyRegs [Reg.FAB_PORT_ERR.REPLAYS p] s t ∧
      t = { s with regs := t.regs, fab := t.fab, sent := t.sent } ∧
      SameMem s t)) ∧
  (∀ (p n : Nat) (s : State),
    p < 4 →
    fabUp p s = true →
    20000 ≤ n →
    Gives (.replayTimeout p n) s (fun t =>
      (fabPort p t).replay = (fabPort p s).replay ∧
      (((fabPort p s).replay ≠ [] → (fabPort p t).tries = (fabPort p s).tries + 1)) ∧
      framesTo p (t.sent.drop s.sent.length) = (fabPort p s).replay ∧
      t.sent.take s.sent.length = s.sent ∧
      OnlyRegs [Reg.FAB_PORT_ERR.REPLAYS p] s t ∧
      t = { s with regs := t.regs, fab := t.fab, sent := t.sent } ∧
      SameMem s t)) ∧
  (∀ (p : Nat) (s : State),
    p < 4 →
    fabUp p s = true →
    8 ≤ (fabPort p s).tries →
    Gives (.fabLinkFault p) s (fun t =>
      get (Reg.FAB_PORT_STAT.FAULT p) t = 1 ∧
      get (Reg.FAB_PORT_STAT.UP p) t = 0 ∧
      get (Reg.FAB_PORT_STAT.TRIES p) t = 0)) ∧
  (∀ (p v u : Nat) (s : State),
    p < 4 →
    fabUp p s = true →
    v < 3 →
    v < (fabPort p s).credit.length →
    (fabPort p s).queue = [] →
    Gives (.creditBlock p v u) s (fun t =>
      (fabPort p t).credit.getD v 0 = (fabPort p s).credit.getD v 0 + u ∧
      OnlyRegs [] s t ∧
      t = { s with fab := t.fab } ∧
      SameMem s t)) ∧
  (∀ (p v u : Nat) (x : FabWait) (s : State),
    p < 4 →
    fabUp p s = true →
    v < 3 →
    v < (fabPort p s).credit.length →
    (fabPort p s).queue = [x] →
    x.frame.vc = v →
    frameUnits x.frame ≤ (fabPort p s).credit.getD v 0 + u →
    (fabPort p s).replay.length < 64 →
    Gives (.creditBlock p v u) s (fun t =>
      (fabPort p t).queue = [] ∧
      (.fabric p (fabPort p s).next x.frame) ∈ t.sent ∧
      (fabPort p t).replay = (fabPort p s).replay ++ [((fabPort p s).next, x.frame)] ∧
      OnlyRegs [] s t ∧
      t = { s with fab := t.fab, sent := t.sent } ∧
      SameMem s t)) ∧
  (∀ (p v u : Nat) (s : State),
    p < 4 →
    fabUp p s = true →
    v < 3 →
    Gives (.creditBlock p v u) s (fun t =>
      nextOut (fabPort p t) = none ∧
      (fabPort p t).replay.take (fabPort p s).replay.length = (fabPort p s).replay ∧
      (fabPort p t).replay.length + (fabPort p t).queue.length = (fabPort p s).replay.length + (fabPort p s).queue.length ∧
      t.sent.take s.sent.length = s.sent ∧
      OnlyRegs [] s t ∧
      t = { s with fab := t.fab, sent := t.sent } ∧
      SameMem s t)) ∧
  (∀ (p q : Nat) (f : Frame) (b : List Nat) (s : State),
    p < 4 →
    fabUp p s = true →
    wireGood b = true →
    frameOf b = f →
    q = (fabPort p s).expect →
    f.type ≠ 1 →
    knownType f.type = true →
    f.dst ≠ nodeId s →
    f.hops < 16 →
    hasRoute f.dst s = true →
    routePort f.dst s ≠ p →
    (fabPort (routePort f.dst s) s).queue = [] →
    frameUnits f ≤ (fabPort (routePort f.dst s) s).credit.getD f.vc 0 →
    (fabPort (routePort f.dst s) s).replay.length < 64 →
    Gives (.frameForward p q b) s (fun t =>
      (.fabricCtl p (ackBlock q false)) ∈ t.sent ∧
      (fabPort p t).expect = (q + 1) % 256 ∧
      (.fabric (routePort f.dst s) (fabPort (routePort f.dst s) s).next { f with hops := f.hops + 1 }) ∈ t.sent ∧
      (.fabricCtl p (creditBlock f.vc (frameUnits f))) ∈ t.sent ∧
      OnlyRegs [] s t ∧
      t = { s with fab := t.fab, sent := t.sent } ∧
      SameMem s t)) ∧
  (∀ (p q : Nat) (f : Frame) (b : List Nat) (s : State),
    p < 4 →
    fabUp p s = true →
    wireGood b = true →
    frameOf b = f →
    q = (fabPort p s).expect →
    f.type ≠ 1 →
    knownType f.type = true →
    f.dst ≠ nodeId s →
    (16 ≤ f.hops ∨ (hasRoute f.dst s = false ∧ hasRoute f.src s = false)) →
    Gives (.frameForward p q b) s (fun t =>
      (.fabricCtl p (ackBlock q false)) ∈ t.sent ∧
      (fabPort p t).expect = (q + 1) % 256 ∧
      (.fabricCtl p (creditBlock f.vc (frameUnits f))) ∈ t.sent ∧
      ((16 ≤ f.hops → get Reg.FAB_CNT.HOPDROP t = (get Reg.FAB_CNT.HOPDROP s + 1) % 2 ^ Reg.FAB_CNT.HOPDROP.width)) ∧
      ((f.hops < 16 → get Reg.FAB_CNT.NOROUTE t = (get Reg.FAB_CNT.NOROUTE s + 1) % 2 ^ Reg.FAB_CNT.NOROUTE.width)) ∧
      OnlyRegs [Reg.FAB_CNT.HOPDROP, Reg.FAB_CNT.NOROUTE] s t ∧
      t = { s with regs := t.regs, fab := t.fab, sent := t.sent } ∧
      SameMem s t)) ∧
  (∀ (p q : Nat) (f : Frame) (b : List Nat) (s : State),
    p < 4 →
    fabUp p s = true →
    wireGood b = true →
    frameOf b = f →
    q = (fabPort p s).expect →
    f.type ≠ 1 →
    knownType f.type = false →
    Gives (.frameForward p q b) s (fun t =>
      get Reg.FAB_CNT.BAD t = (get Reg.FAB_CNT.BAD s + 1) % 2 ^ Reg.FAB_CNT.BAD.width ∧
      (.fabricCtl p (ackBlock q false)) ∈ t.sent ∧
      (.fabricCtl p (creditBlock f.vc (frameUnits f))) ∈ t.sent ∧
      OnlyRegs [Reg.FAB_CNT.BAD] s t ∧
      t = { s with regs := t.regs, fab := t.fab, sent := t.sent } ∧
      SameMem s t)) ∧
  (∀ (p q : Nat) (f : Frame) (b : List Nat) (s : State),
    p < 4 →
    fabUp p s = true →
    wireGood b = false →
    frameOf b = f →
    f.type ≠ 1 →
    f.dst ≠ nodeId s →
    Gives (.frameForward p q b) s (fun t =>
      get (Reg.FAB_PORT_ERR.CRC p) t = (get (Reg.FAB_PORT_ERR.CRC p) s + 1) % 65536 ∧
      (((fabPort p s).discard = false → controlsTo p (t.sent.drop s.sent.length) = [ackBlock ((fabPort p s).expect + 255) true] ∧ (fabPort p t).discard = true)) ∧
      (((fabPort p s).discard = true → t.sent = s.sent)) ∧
      OnlyRegs [Reg.FAB_PORT_ERR.CRC p] s t ∧
      t = { s with regs := t.regs, fab := t.fab, sent := t.sent } ∧
      SameMem s t)) ∧
  (∀ (p q : Nat) (f : Frame) (b : List Nat) (s : State),
    p < 4 →
    fabUp p s = true →
    wireGood b = true →
    frameOf b = f →
    q = (fabPort p s).expect →
    f.type ≠ 1 →
    knownType f.type = true →
    (f.dst ≠ nodeId s ∨ nodeId s = 0) →
    Gives (.frameForward p q b) s (fun t =>
      (.fabricCtl p (ackBlock q false)) ∈ t.sent ∧
      (fabPort p t).expect = (q + 1) % 256 ∧
      ((16 ≤ f.hops → get Reg.FAB_CNT.HOPDROP t = (get Reg.FAB_CNT.HOPDROP s + 1) % 2 ^ Reg.FAB_CNT.HOPDROP.width ∧ (.fabricCtl p (creditBlock f.vc (frameUnits f))) ∈ t.sent)) ∧
      ((f.hops < 16 → hasRoute f.dst s = false → get Reg.FAB_CNT.NOROUTE t = (get Reg.FAB_CNT.NOROUTE s + 1) % 2 ^ Reg.FAB_CNT.NOROUTE.width ∧ (.fabricCtl p (creditBlock f.vc (frameUnits f))) ∈ t.sent)) ∧
      ((f.hops < 16 → hasRoute f.dst s = false → isRequest f.type = true → respondedWith f 0x703 s t = true)) ∧
      ((f.hops < 16 → hasRoute f.dst s = true → (heldFrames (routePort f.dst s) t).contains { f with hops := f.hops + 1 } = true)) ∧
      OnlyRegs [Reg.FAB_CNT.HOPDROP, Reg.FAB_CNT.NOROUTE] s t ∧
      t = { s with regs := t.regs, fab := t.fab, sent := t.sent } ∧
      SameMem s t)) ∧
  (∀ (p q : Nat) (f : Frame) (b : List Nat) (s : State),
    p < 4 →
    fabUp p s = true →
    wireGood b = true →
    frameOf b = f →
    f.type ≠ 1 →
    f.dst ≠ nodeId s →
    q ≠ (fabPort p s).expect →
    Gives (.frameForward p q b) s (fun t =>
      (((fabPort p s).discard = false → controlsTo p (t.sent.drop s.sent.length) = [ackBlock ((fabPort p s).expect + 255) true] ∧ (fabPort p t).discard = true)) ∧
      (((fabPort p s).discard = true → t.sent = s.sent)) ∧
      (fabPort p t).expect = (fabPort p s).expect ∧
      OnlyRegs [] s t ∧
      t = { s with fab := t.fab, sent := t.sent } ∧
      SameMem s t))

/-- The fabric: adverts and routes, the services of peers, requests of the ring. Rests on R423, R424, R427, R428, R429, R433, R434,
R435, R436, R437, R438. Where it meets them it rests on choices of the model: log entries 20, 85, 122, 139, 140, 141, 142, 143,
152, 279. -/
def Obligations.FabricNodesServeAndRequest : Prop :=
  (∀ (n : Nat) (s : State),
    advertises s = true →
    advMs s ≤ n →
    Gives (.advertOriginate n) s (fun t =>
      t.fab.seq = (s.fab.seq + 1) % 2 ^ 32 ∧
      OnlyRegs [] s t ∧
      t = { s with fab := t.fab, sent := t.sent } ∧
      SameMem s t)) ∧
  (∀ (p q : Nat) (f : Frame) (b : List Nat) (s : State),
    p < 4 →
    fabUp p s = true →
    wireGood b = true →
    frameOf b = f →
    q = (fabPort p s).expect →
    f.type = 1 →
    f.dst = 4095 →
    f.src ≠ nodeId s →
    f.src ≠ 0 →
    f.src < 4095 →
    AMap.lookup f.src s.fab.uids = none →
    AMap.lookup f.src s.fab.seen = none →
    get (Reg.FAB_RT.STATIC f.src) s = 0 →
    AMap.rising s.fab.uids = true →
    AMap.rising s.fab.seen = true →
    Gives (.advertFrame p q b) s (fun t =>
      get (Reg.FAB_RT.VALID f.src) t = 1 ∧
      get (Reg.FAB_RT.PORT f.src) t = p ∧
      get (Reg.FAB_RT.HOPS f.src) t = f.hops % 32 ∧
      AMap.lookup f.src t.fab.seen = some (ofBytes ((f.payload.drop 8).take 4)) ∧
      AMap.lookup f.src t.fab.uids = some (ofBytes (f.payload.take 8)) ∧
      AMap.lookup f.src t.fab.fresh = some (tmpCount s) ∧
      (.fabricCtl p (ackBlock q false)) ∈ t.sent ∧
      (.fabricCtl p (creditBlock f.vc (frameUnits f))) ∈ t.sent ∧
      OnlyRegs [Reg.FAB_RT.VALID f.src, Reg.FAB_RT.STATIC f.src, Reg.FAB_RT.PORT f.src, Reg.FAB_RT.HOPS f.src] s t ∧
      t = { s with regs := t.regs, fab := t.fab, sent := t.sent } ∧
      SameMem s t)) ∧
  (∀ (p q : Nat) (f : Frame) (b : List Nat) (s : State),
    p < 4 →
    fabUp p s = true →
    wireGood b = true →
    frameOf b = f →
    q = (fabPort p s).expect →
    f.type = 1 →
    f.dst = 4095 →
    f.src = nodeId s →
    nodeId s ≠ 0 →
    ofBytes (f.payload.take 8) ≠ ownUid s →
    Gives (.advertFrame p q b) s (fun t =>
      get Reg.FAB_STAT.DUP t = 1 ∧
      (get Reg.FAB_STAT.WITHDRAWN t = (if ofBytes (f.payload.take 8) < ownUid s then 1 else get Reg.FAB_STAT.WITHDRAWN s)) ∧
      (.fabricCtl p (ackBlock q false)) ∈ t.sent ∧
      (.fabricCtl p (creditBlock f.vc (frameUnits f))) ∈ t.sent ∧
      OnlyRegs [Reg.FAB_STAT.DUP, Reg.FAB_STAT.WITHDRAWN] s t ∧
      t = { s with regs := t.regs, fab := t.fab, sys := t.sys, evr := t.evr, sent := t.sent, host := { s.host with msixPend := t.host.msixPend } } ∧
      SameMem s t)) ∧
  (∀ (p q : Nat) (f : Frame) (b : List Nat) (s : State),
    p < 4 →
    fabUp p s = true →
    wireGood b = true →
    frameOf b = f →
    q = (fabPort p s).expect →
    f.type = 1 →
    f.dst = 4095 →
    AMap.rising s.fab.uids = true →
    Gives (.advertFrame p q b) s (fun t =>
      (.fabricCtl p (ackBlock q false)) ∈ t.sent ∧
      (.fabricCtl p (creditBlock f.vc (frameUnits f))) ∈ t.sent ∧
      (fabPort p t).expect = (q + 1) % 256 ∧
      ((f.src = nodeId s → nodeId s ≠ 0 → ofBytes (f.payload.take 8) = ownUid s → t.regs = s.regs)) ∧
      ((f.src = 0 ∨ f.src = 4095 → t.regs = s.regs ∧ t.fab.uids = s.fab.uids)) ∧
      ((f.src ≠ nodeId s → f.src ≠ 0 → f.src < 4095 → get (Reg.FAB_RT.VALID f.src) s = 1 → (AMap.lookup f.src s.fab.uids).any (fun u => u != ofBytes (f.payload.take 8)) = true → get Reg.FAB_STAT.CONFLICT t = 1)) ∧
      ((f.src ≠ nodeId s → f.src ≠ 0 → f.src < 4095 → (AMap.lookup f.src s.fab.uids).all (fun u => u == ofBytes (f.payload.take 8)) = true → AMap.lookup f.src t.fab.uids = some (ofBytes (f.payload.take 8)))) ∧
      OnlyRegs [Reg.FAB_RT.VALID f.src, Reg.FAB_RT.STATIC f.src, Reg.FAB_RT.PORT f.src, Reg.FAB_RT.HOPS f.src, Reg.FAB_STAT.DUP, Reg.FAB_STAT.WITHDRAWN, Reg.FAB_STAT.CONFLICT] s t ∧
      t = { s with regs := t.regs, fab := t.fab, sys := t.sys, evr := t.evr, sent := t.sent, host := { s.host with msixPend := t.host.msixPend } } ∧
      SameMem s t)) ∧
  (∀ (o : Nat) (p q : Nat) (f : Frame) (b : List Nat) (s : State),
    p < 4 →
    fabUp p s = true →
    wireGood b = true →
    frameOf b = f →
    q = (fabPort p s).expect →
    f.type = 1 →
    f.dst = 4095 →
    f.src ≠ nodeId s →
    f.src ≠ 0 →
    f.src < 4095 →
    AMap.lookup f.src s.fab.uids = some (ofBytes (f.payload.take 8)) →
    AMap.lookup f.src s.fab.seen = some o →
    get (Reg.FAB_RT.VALID f.src) s = 1 →
    get (Reg.FAB_RT.STATIC f.src) s = 0 →
    AMap.rising s.fab.uids = true →
    AMap.rising s.fab.seen = true →
    AMap.rising s.fab.fresh = true →
    Gives (.advertFrame p q b) s (fun t =>
      (.fabricCtl p (ackBlock q false)) ∈ t.sent ∧
      (.fabricCtl p (creditBlock f.vc (frameUnits f))) ∈ t.sent ∧
      (fabPort p t).expect = (q + 1) % 256 ∧
      ((newerSeq (ofBytes ((f.payload.drop 8).take 4)) o = true → AMap.lookup f.src t.fab.seen = some (ofBytes ((f.payload.drop 8).take 4)))) ∧
      ((newerSeq (ofBytes ((f.payload.drop 8).take 4)) o = true → get (Reg.FAB_RT.PORT f.src) s = p → get (Reg.FAB_RT.HOPS f.src) t = f.hops % 32 ∧ AMap.lookup f.src t.fab.fresh = some (tmpCount s))) ∧
      ((get (Reg.FAB_RT.PORT f.src) s ≠ p → f.hops < get (Reg.FAB_RT.HOPS f.src) s → newerSeq (ofBytes ((f.payload.drop 8).take 4)) o = true ∨ (ofBytes ((f.payload.drop 8).take 4)) = o → get (Reg.FAB_RT.PORT f.src) t = p ∧ get (Reg.FAB_RT.HOPS f.src) t = f.hops % 32)) ∧
      ((get (Reg.FAB_RT.PORT f.src) s ≠ p → get (Reg.FAB_RT.HOPS f.src) s ≤ f.hops → get (Reg.FAB_RT.PORT f.src) t = get (Reg.FAB_RT.PORT f.src) s ∧ get (Reg.FAB_RT.HOPS f.src) t = get (Reg.FAB_RT.HOPS f.src) s)) ∧
      (((ofBytes ((f.payload.drop 8).take 4)) ≠ o → newerSeq (ofBytes ((f.payload.drop 8).take 4)) o = false → t.regs = s.regs ∧ t.fab.seen = s.fab.seen)) ∧
      OnlyRegs [Reg.FAB_RT.STATIC f.src, Reg.FAB_RT.VALID f.src, Reg.FAB_RT.PORT f.src, Reg.FAB_RT.HOPS f.src] s t ∧
      t = { s with regs := t.regs, fab := t.fab, sent := t.sent } ∧
      SameMem s t)) ∧
  (∀ (n : Nat) (s : State),
    n < 4096 →
    get (Reg.FAB_RT.VALID n) s = 1 →
    get (Reg.FAB_RT.STATIC n) s = 0 →
    n ≠ nodeId s →
    ((if get Reg.FAB_ADV.AGE s = 0 then 4 else get Reg.FAB_ADV.AGE s) * advMs s ≤ routeAge n s) →
    (s.fab.reqs.filter (fun r => r.frame.dst == n) = []) →
    Gives (.routeAgeOut n) s (fun t =>
      get (Reg.FAB_RT.VALID n) t = 0 ∧
      OnlyRegs [Reg.FAB_RT.VALID n] s t ∧
      OnlyEvents s t ∧
      SameMem s t)) ∧
  (∀ (n : Nat) (s : State),
    n < 4096 →
    get (Reg.FAB_RT.VALID n) s = 1 →
    get (Reg.FAB_RT.STATIC n) s = 0 →
    n ≠ nodeId s →
    ((if get Reg.FAB_ADV.AGE s = 0 then 4 else get Reg.FAB_ADV.AGE s) * advMs s ≤ routeAge n s) →
    Gives (.routeAgeOut n) s (fun t =>
      get (Reg.FAB_RT.VALID n) t = 0 ∧
      (t.fab.reqs.any (fun r => r.frame.dst == n) = false))) ∧
  (∀ (p q : Nat) (f : Frame) (b : List Nat) (s : State),
    p < 4 →
    fabUp p s = true →
    wireGood b = true →
    frameOf b = f →
    q = (fabPort p s).expect →
    f.dst = nodeId s →
    nodeActive s = true →
    get Reg.SYS_MODE.ACT s = 0 →
    storeRuns s = true →
    hasRoom 3 s = true →
    f.type = 0x10 →
    get Reg.FAB_CFG.APP_EN s = 1 →
    nsServed (bits f.p1 20 6) s = true →
    (nsType (bits f.p1 20 6) s = 2 ∨ nsType (bits f.p1 20 6) s = 4) →
    f.p2 % 4096 = 0 →
    f.p2 ≠ 0 →
    f.p2 ≤ 1048576 →
    inNs (bits f.p1 20 6) (bits f.p1 0 20) s = true →
    Gives (.appendFrame p q b) s (fun t =>
      (.fabricCtl p (ackBlock q false)) ∈ t.sent ∧
      (.fabricCtl p (creditBlock f.vc (frameUnits f))) ∈ t.sent ∧
      t.cmd.next = (s.cmd.next + 1) % 2 ^ 48 ∧
      (t.cmd.ctxs.getLast?.map (fun c => (c.stamp, c.cmd.port, c.cmd.nexus, c.cmd.tag)) = some (s.cmd.next, Port.fabric, f.src, f.tag)) ∧
      (t.cmd.ctxs.getLast?.map (fun c => c.cmd.op) = some (HostOp.append (bits f.p1 0 20 - get (Reg.ZMG_NS_ZONES.FIRST (bits f.p1 20 6)) s) (f.p2 / 4096) (f.flags.testBit 0))) ∧
      (t.fab.work.getLast?.map (fun w => (w.src, w.tag, w.type, w.stamp)) = some (f.src, f.tag, 16, s.cmd.next)) ∧
      OnlyRegs [Reg.CMD_STAMP_LO.STAMP, Reg.CMD_STAMP_HI.STAMP, Reg.CMD_POOL_STAT.USED, Reg.CMD_EXEC_STAT.EXEC] s t ∧
      t = { s with regs := t.regs, cmd := t.cmd, fab := t.fab, sent := t.sent } ∧
      SameMem s t)) ∧
  (∀ (p q : Nat) (f : Frame) (b : List Nat) (s : State),
    p < 4 →
    fabUp p s = true →
    wireGood b = true →
    frameOf b = f →
    q = (fabPort p s).expect →
    f.dst = nodeId s →
    nodeActive s = true →
    get Reg.SYS_MODE.ACT s = 0 →
    storeRuns s = true →
    hasRoom 3 s = true →
    f.type = 0x10 →
    get Reg.FAB_CFG.APP_EN s = 0 →
    hasRoute f.src s = false →
    Gives (.appendFrame p q b) s (fun t =>
      (.fabricCtl p (ackBlock q false)) ∈ t.sent ∧
      (.fabricCtl p (creditBlock f.vc (frameUnits f))) ∈ t.sent ∧
      t.cmd = s.cmd ∧
      t.fab.work = s.fab.work ∧
      OnlyRegs [] s t ∧
      t = { s with fab := t.fab, sent := t.sent } ∧
      SameMem s t)) ∧
  (∀ (p q : Nat) (f : Frame) (b : List Nat) (s : State),
    p < 4 →
    fabUp p s = true →
    wireGood b = true →
    frameOf b = f →
    q = (fabPort p s).expect →
    f.dst = nodeId s →
    nodeActive s = true →
    f.type = 0x10 →
    get Reg.SYS_MODE.ACT s ≠ 1 →
    (storeRuns s = false ∨ hasRoom 3 s = true) →
    Gives (.appendFrame p q b) s (fun t =>
      (.fabricCtl p (ackBlock q false)) ∈ t.sent ∧
      (.fabricCtl p (creditBlock f.vc (frameUnits f))) ∈ t.sent ∧
      (fabPort p t).expect = (q + 1) % 256 ∧
      ((get Reg.FAB_CFG.APP_EN s ≠ 1 → respondedWith f 0x701 s t = true ∧ t.cmd = s.cmd ∧ t.fab.work = s.fab.work)) ∧
      ((get Reg.FAB_CFG.APP_EN s = 1 → nsServed (bits f.p1 20 6) s = false → respondedWith f 0x702 s t = true ∧ t.cmd = s.cmd ∧ t.fab.work = s.fab.work)) ∧
      ((get Reg.FAB_CFG.APP_EN s = 1 → nsServed (bits f.p1 20 6) s = true → ((nsType (bits f.p1 20 6) s ≠ 2 ∧ nsType (bits f.p1 20 6) s ≠ 4) ∨ f.p2 % 4096 ≠ 0 ∨ f.p2 = 0 ∨ 1048576 < f.p2) → respondedWith f 0x002 s t = true ∧ t.cmd = s.cmd ∧ t.fab.work = s.fab.work)) ∧
      ((get Reg.FAB_CFG.APP_EN s = 1 → nsServed (bits f.p1 20 6) s = true → ¬ ((nsType (bits f.p1 20 6) s ≠ 2 ∧ nsType (bits f.p1 20 6) s ≠ 4) ∨ f.p2 % 4096 ≠ 0 ∨ f.p2 = 0 ∨ 1048576 < f.p2) → storeRuns s = false → respondedWith f 0x082 s t = true ∧ t.cmd = s.cmd ∧ t.fab.work = s.fab.work)) ∧
      ((get Reg.FAB_CFG.APP_EN s = 1 → nsServed (bits f.p1 20 6) s = true → ¬ ((nsType (bits f.p1 20 6) s ≠ 2 ∧ nsType (bits f.p1 20 6) s ≠ 4) ∨ f.p2 % 4096 ≠ 0 ∨ f.p2 = 0 ∨ 1048576 < f.p2) → storeRuns s = true → t.cmd.next = (s.cmd.next + 1) % 2 ^ 48 ∧ t.fab.work.length = s.fab.work.length + 1)) ∧
      OnlyRegs [Reg.CMD_STAMP_LO.STAMP, Reg.CMD_STAMP_HI.STAMP, Reg.CMD_POOL_STAT.USED, Reg.CMD_EXEC_STAT.EXEC] s t ∧
      t = { s with regs := t.regs, cmd := t.cmd, fab := t.fab, sent := t.sent } ∧
      SameMem s t)) ∧
  (∀ (p q : Nat) (f : Frame) (b : List Nat) (s : State),
    p < 4 →
    fabUp p s = true →
    wireGood b = true →
    frameOf b = f →
    q = (fabPort p s).expect →
    f.dst = nodeId s →
    nodeActive s = true →
    get Reg.SYS_MODE.ACT s = 0 →
    storeRuns s = true →
    hasRoom 3 s = true →
    f.type = 0x12 →
    get Reg.FAB_CFG.READ_EN s = 1 →
    nsServed (bits f.p1 48 6) s = true →
    f.p2 % (4096 / lbasPerBlock (bits f.p1 48 6) s) = 0 →
    f.p2 ≠ 0 →
    f.p2 ≤ 1048576 →
    Gives (.readFrame p q b) s (fun t =>
      (.fabricCtl p (ackBlock q false)) ∈ t.sent ∧
      (.fabricCtl p (creditBlock f.vc (frameUnits f))) ∈ t.sent ∧
      t.cmd.next = (s.cmd.next + 1) % 2 ^ 48 ∧
      (t.cmd.ctxs.getLast?.map (fun c => (c.stamp, c.cmd.port, c.cmd.nexus, c.cmd.tag)) = some (s.cmd.next, Port.fabric, f.src, f.tag)) ∧
      (t.cmd.ctxs.getLast?.map (fun c => c.cmd.op) = some (HostOp.read (bits f.p1 0 48) (f.p2 / (4096 / lbasPerBlock (bits f.p1 48 6) s)))) ∧
      (t.fab.work.getLast?.map (fun w => (w.src, w.tag, w.type, w.stamp)) = some (f.src, f.tag, 18, s.cmd.next)) ∧
      OnlyRegs [Reg.CMD_STAMP_LO.STAMP, Reg.CMD_STAMP_HI.STAMP, Reg.CMD_POOL_STAT.USED, Reg.CMD_EXEC_STAT.EXEC] s t ∧
      t = { s with regs := t.regs, cmd := t.cmd, fab := t.fab, sent := t.sent } ∧
      SameMem s t)) ∧
  (∀ (p q : Nat) (f : Frame) (b : List Nat) (s : State),
    p < 4 →
    fabUp p s = true →
    wireGood b = true →
    frameOf b = f →
    q = (fabPort p s).expect →
    f.dst = nodeId s →
    nodeActive s = true →
    f.type = 0x12 →
    get Reg.SYS_MODE.ACT s ≠ 1 →
    (storeRuns s = false ∨ hasRoom 3 s = true) →
    Gives (.readFrame p q b) s (fun t =>
      (.fabricCtl p (ackBlock q false)) ∈ t.sent ∧
      (.fabricCtl p (creditBlock f.vc (frameUnits f))) ∈ t.sent ∧
      (fabPort p t).expect = (q + 1) % 256 ∧
      ((get Reg.FAB_CFG.READ_EN s ≠ 1 → respondedWith f 0x701 s t = true ∧ t.cmd = s.cmd ∧ t.fab.work = s.fab.work)) ∧
      ((get Reg.FAB_CFG.READ_EN s = 1 → nsServed (bits f.p1 48 6) s = false → respondedWith f 0x702 s t = true ∧ t.cmd = s.cmd ∧ t.fab.work = s.fab.work)) ∧
      ((get Reg.FAB_CFG.READ_EN s = 1 → nsServed (bits f.p1 48 6) s = true → (f.p2 % (4096 / lbasPerBlock (bits f.p1 48 6) s) ≠ 0 ∨ f.p2 = 0 ∨ 1048576 < f.p2) → respondedWith f 0x002 s t = true ∧ t.cmd = s.cmd ∧ t.fab.work = s.fab.work)) ∧
      ((get Reg.FAB_CFG.READ_EN s = 1 → nsServed (bits f.p1 48 6) s = true → ¬ (f.p2 % (4096 / lbasPerBlock (bits f.p1 48 6) s) ≠ 0 ∨ f.p2 = 0 ∨ 1048576 < f.p2) → storeRuns s = false → respondedWith f 0x082 s t = true ∧ t.cmd = s.cmd ∧ t.fab.work = s.fab.work)) ∧
      ((get Reg.FAB_CFG.READ_EN s = 1 → nsServed (bits f.p1 48 6) s = true → ¬ (f.p2 % (4096 / lbasPerBlock (bits f.p1 48 6) s) ≠ 0 ∨ f.p2 = 0 ∨ 1048576 < f.p2) → storeRuns s = true → t.cmd.next = (s.cmd.next + 1) % 2 ^ 48 ∧ t.fab.work.length = s.fab.work.length + 1)) ∧
      OnlyRegs [Reg.CMD_STAMP_LO.STAMP, Reg.CMD_STAMP_HI.STAMP, Reg.CMD_POOL_STAT.USED, Reg.CMD_EXEC_STAT.EXEC] s t ∧
      t = { s with regs := t.regs, cmd := t.cmd, fab := t.fab, sent := t.sent } ∧
      SameMem s t)) ∧
  (∀ (p q : Nat) (f : Frame) (b : List Nat) (s : State),
    p < 4 →
    fabUp p s = true →
    wireGood b = true →
    frameOf b = f →
    q = (fabPort p s).expect →
    f.dst = nodeId s →
    nodeActive s = true →
    get Reg.SYS_MODE.ACT s = 0 →
    storeRuns s = true →
    hasRoom 3 s = true →
    f.type = 0x14 →
    get Reg.FAB_CFG.COPY_EN s = 1 →
    nsServed (bits f.p1 20 6) s = true →
    inNs (bits f.p1 20 6) (bits f.p1 0 20) s = true →
    Gives (.copyFrame p q b) s (fun t =>
      (.fabricCtl p (ackBlock q false)) ∈ t.sent ∧
      (.fabricCtl p (creditBlock f.vc (frameUnits f))) ∈ t.sent ∧
      t.cmd.next = (s.cmd.next + 1) % 2 ^ 48 ∧
      (t.cmd.ctxs.getLast?.map (fun c => (c.stamp, c.cmd.port, c.cmd.nexus, c.cmd.tag)) = some (s.cmd.next, Port.fabric, f.src, f.tag)) ∧
      (t.cmd.ctxs.getLast?.map (fun c => c.cmd.op) = some (HostOp.read ((bits f.p1 0 20 - get (Reg.ZMG_NS_ZONES.FIRST (bits f.p1 20 6)) s) * zoneLbas (bits f.p1 20 6) s) ((zoneOf (bits f.p1 0 20) s).host * lbasPerBlock (bits f.p1 20 6) s))) ∧
      (t.fab.work.getLast?.map (fun w => (w.src, w.tag, w.type, w.stamp)) = some (f.src, f.tag, 20, s.cmd.next)) ∧
      t.fab.work.getLast?.map (·.first) = some (copyDesc (bits f.p1 0 20) s) ∧
      OnlyRegs [Reg.CMD_STAMP_LO.STAMP, Reg.CMD_STAMP_HI.STAMP, Reg.CMD_POOL_STAT.USED, Reg.CMD_EXEC_STAT.EXEC] s t ∧
      t = { s with regs := t.regs, cmd := t.cmd, fab := t.fab, sent := t.sent } ∧
      SameMem s t)) ∧
  (∀ (p q : Nat) (f : Frame) (b : List Nat) (s : State),
    p < 4 →
    fabUp p s = true →
    wireGood b = true →
    frameOf b = f →
    q = (fabPort p s).expect →
    f.dst = nodeId s →
    nodeActive s = true →
    f.type = 0x14 →
    get Reg.SYS_MODE.ACT s ≠ 1 →
    (storeRuns s = false ∨ hasRoom 3 s = true) →
    Gives (.copyFrame p q b) s (fun t =>
      (.fabricCtl p (ackBlock q false)) ∈ t.sent ∧
      (.fabricCtl p (creditBlock f.vc (frameUnits f))) ∈ t.sent ∧
      (fabPort p t).expect = (q + 1) % 256 ∧
      ((get Reg.FAB_CFG.COPY_EN s ≠ 1 → respondedWith f 0x701 s t = true ∧ t.cmd = s.cmd ∧ t.fab.work = s.fab.work)) ∧
      ((get Reg.FAB_CFG.COPY_EN s = 1 → nsServed (bits f.p1 20 6) s = false → respondedWith f 0x702 s t = true ∧ t.cmd = s.cmd ∧ t.fab.work = s.fab.work)) ∧
      ((get Reg.FAB_CFG.COPY_EN s = 1 → nsServed (bits f.p1 20 6) s = true → (inNs (bits f.p1 20 6) (bits f.p1 0 20) s = false) → respondedWith f 0x080 s t = true ∧ t.cmd = s.cmd ∧ t.fab.work = s.fab.work)) ∧
      ((get Reg.FAB_CFG.COPY_EN s = 1 → nsServed (bits f.p1 20 6) s = true → ¬ (inNs (bits f.p1 20 6) (bits f.p1 0 20) s = false) → storeRuns s = false → respondedWith f 0x082 s t = true ∧ t.cmd = s.cmd ∧ t.fab.work = s.fab.work)) ∧
      ((get Reg.FAB_CFG.COPY_EN s = 1 → nsServed (bits f.p1 20 6) s = true → ¬ (inNs (bits f.p1 20 6) (bits f.p1 0 20) s = false) → storeRuns s = true → t.cmd.next = (s.cmd.next + 1) % 2 ^ 48 ∧ t.fab.work.length = s.fab.work.length + 1)) ∧
      OnlyRegs [Reg.CMD_STAMP_LO.STAMP, Reg.CMD_STAMP_HI.STAMP, Reg.CMD_POOL_STAT.USED, Reg.CMD_EXEC_STAT.EXEC] s t ∧
      t = { s with regs := t.regs, cmd := t.cmd, fab := t.fab, sent := t.sent } ∧
      SameMem s t)) ∧
  (∀ (p q : Nat) (f : Frame) (b : List Nat) (w : FabWork) (s : State),
    p < 4 →
    fabUp p s = true →
    wireGood b = true →
    frameOf b = f →
    q = (fabPort p s).expect →
    f.dst = nodeId s →
    nodeActive s = true →
    f.type = 0x11 →
    (s.fab.work.find? (fun w => w.src == f.src && w.tag == f.tag && w.type == 0x10) = some w) →
    f.p1 = w.come →
    w.come + f.payload.length ≤ w.total →
    Gives (.dataFrame p q b) s (fun t =>
      (.fabricCtl p (ackBlock q false)) ∈ t.sent ∧
      (.fabricCtl p (creditBlock f.vc (frameUnits f))) ∈ t.sent ∧
      (t.fab.work = s.fab.work.map (fun x => if x = w then { x with come := x.come + f.payload.length, data := x.data + ofBytes f.payload * 2 ^ (8 * f.p1) } else x)) ∧
      OnlyRegs [] s t ∧
      t = { s with fab := t.fab, sent := t.sent } ∧
      SameMem s t)) ∧
  (∀ (p q : Nat) (f : Frame) (b : List Nat) (s : State),
    p < 4 →
    fabUp p s = true →
    wireGood b = true →
    frameOf b = f →
    q = (fabPort p s).expect →
    f.dst = nodeId s →
    nodeActive s = true →
    f.type = 0x11 →
    Gives (.dataFrame p q b) s (fun t =>
      (.fabricCtl p (ackBlock q false)) ∈ t.sent ∧
      (.fabricCtl p (creditBlock f.vc (frameUnits f))) ∈ t.sent ∧
      (fabPort p t).expect = (q + 1) % 256 ∧
      ((s.fab.work.find? (fun w => w.src == f.src && w.tag == f.tag && w.type == 0x10) = none → t.fab.work = s.fab.work)) ∧
      (((s.fab.work.find? (fun w => w.src == f.src && w.tag == f.tag && w.type == 0x10)).all (fun w => decide (f.p1 ≠ w.come) || decide (w.total < w.come + f.payload.length)) = true → t.fab.work = s.fab.work)) ∧
      OnlyRegs [] s t ∧
      t = { s with fab := t.fab, sent := t.sent } ∧
      SameMem s t)) ∧
  (∀ (a b n : Nat) (w : FabWork) (s : State),
    (s.fab.work.find? (fun w => w.src == a && w.tag == b && w.type == 0x10 && decide (w.come < w.total)) = some w) →
    tmoMs s ≤ n →
    Gives (.appendDataTimeout a b n) s (fun t =>
      ctxOf w.stamp t = none ∧
      (t.fab.work = s.fab.work.filter (fun x => x.stamp != w.stamp)) ∧
      OnlyRegs [Reg.CMD_POOL_STAT.USED, Reg.CMD_EXEC_STAT.EXEC] s t ∧
      t = { s with regs := t.regs, cmd := t.cmd, fab := t.fab, sent := t.sent } ∧
      SameMem s t)) ∧
  (∀ (p q : Nat) (f : Frame) (b : List Nat) (s : State),
    p < 4 →
    fabUp p s = true →
    wireGood b = true →
    frameOf b = f →
    q = (fabPort p s).expect →
    f.dst = nodeId s →
    nodeActive s = true →
    f.type = 0x16 →
    (get Reg.SEAL_CTL.WIT_SERVE s ≠ 1 ∨ mode s ≠ 3 ∨ get Reg.SEAL_STAT.PROV s ≠ 1 ∨ s.seals.stopped = true ∨ get Reg.SEAL_WIT_TMO.SERVE_RATE s ≤ s.seals.served) →
    Gives (.witnessFrame p q b) s (fun t =>
      (.fabricCtl p (ackBlock q false)) ∈ t.sent ∧
      (.fabricCtl p (creditBlock f.vc (frameUnits f))) ∈ t.sent ∧
      (fabPort p t).expect = (q + 1) % 256 ∧
      t.seals = s.seals ∧
      respondedWith f 0x705 s t = true ∧
      OnlyRegs [] s t ∧
      t = { s with fab := t.fab, sent := t.sent } ∧
      SameMem s t)) ∧
  (∀ (p q : Nat) (f : Frame) (b : List Nat) (s : State),
    p < 4 →
    fabUp p s = true →
    wireGood b = true →
    frameOf b = f →
    q = (fabPort p s).expect →
    f.dst = nodeId s →
    nodeActive s = true →
    f.type = 0x16 →
    mode s = 3 →
    s.seals.stopped = false →
    get Reg.SEAL_STAT.PROV s = 1 →
    get Reg.SEAL_CTL.WIT_SERVE s = 1 →
    s.seals.served < get Reg.SEAL_WIT_TMO.SERVE_RATE s →
    Gives (.witnessFrame p q b) s (fun t =>
      (.fabricCtl p (ackBlock q false)) ∈ t.sent ∧
      (.fabricCtl p (creditBlock f.vc (frameUnits f))) ∈ t.sent ∧
      (fabPort p t).expect = (q + 1) % 256 ∧
      (((f.payload.length = 516 ∧ ofBytes ((f.payload.drop 184).take 64) = Sys2Proof.Machine.hash ((f.payload.drop 384).take 132) ∧ recordVerifies f.payload ((f.payload.drop 384).take 132) = true) → t.seals = { s.seals with served := s.seals.served + 1 } ∧ respondedWith f 0 s t = true)) ∧
      ((¬ (f.payload.length = 516 ∧ ofBytes ((f.payload.drop 184).take 64) = Sys2Proof.Machine.hash ((f.payload.drop 384).take 132) ∧ recordVerifies f.payload ((f.payload.drop 384).take 132) = true) → t.seals = s.seals ∧ respondedWith f 0x705 s t = true)) ∧
      OnlyRegs [] s t ∧
      t = { s with fab := t.fab, seals := t.seals, sent := t.sent } ∧
      SameMem s t)) ∧
  (∀ (p q : Nat) (f : Frame) (b : List Nat) (s : State),
    p < 4 →
    fabUp p s = true →
    wireGood b = true →
    frameOf b = f →
    q = (fabPort p s).expect →
    f.dst = nodeId s →
    nodeActive s = true →
    f.type = 0x18 →
    f.p2 = 4 →
    f.p1.testBit 63 = true →
    within (0x20000000, 0x28000000) (bits f.p1 0 40) 4 = true →
    bits f.p1 0 40 % 8 ≤ 4 →
    f.payload.length = 4 →
    (f.payload.all (fun b => decide (b < 256)) = true) →
    pathOpen 13 s = true →
    accessCause true (bits f.p1 0 40) 4 true s = none →
    get Reg.MEM_FLIP_CTL.ARM s = 0 →
    (upsetOf 2 (wordAt 2 (bits f.p1 0 40)) s).isNone = true →
    isPoisoned 2 (wordAt 2 (bits f.p1 0 40)) s = false →
    Gives (.regFrame p q b []) s (fun t =>
      (.fabricCtl p (ackBlock q false)) ∈ t.sent ∧
      (.fabricCtl p (creditBlock f.vc (frameUnits f))) ∈ t.sent ∧
      memRead (bits f.p1 0 40) 4 t = f.payload ∧
      t.sys.resp = .done ∧
      MemOutside (bits f.p1 0 40) 4 s t ∧
      OnlyRegs [] s t ∧
      t = { s with mem := t.mem, sys := t.sys, fab := t.fab, sent := t.sent })) ∧
  (∀ (p q : Nat) (f : Frame) (b : List Nat) (u : List Upset) (s : State),
    p < 4 →
    fabUp p s = true →
    wireGood b = true →
    frameOf b = f →
    q = (fabPort p s).expect →
    f.dst = nodeId s →
    nodeActive s = true →
    f.type = 0x18 →
    Gives (.regFrame p q b u) s (fun t =>
      (.fabricCtl p (ackBlock q false)) ∈ t.sent)) ∧
  (∀ (p q : Nat) (f : Frame) (b : List Nat) (s : State),
    p < 4 →
    fabUp p s = true →
    wireGood b = true →
    frameOf b = f →
    q = (fabPort p s).expect →
    f.dst = nodeId s →
    nodeActive s = true →
    f.type = 0x18 →
    f.p2 = 4 →
    f.p1.testBit 63 = false →
    within (0x20000000, 0x28000000) (bits f.p1 0 40) 4 = true →
    bits f.p1 0 40 % 8 ≤ 4 →
    pathOpen 13 s = true →
    accessCause true (bits f.p1 0 40) 4 false s = none →
    (upsetOf 2 (wordAt 2 (bits f.p1 0 40)) s).isNone = true →
    isPoisoned 2 (wordAt 2 (bits f.p1 0 40)) s = false →
    Gives (.regFrame p q b []) s (fun t =>
      (.fabricCtl p (ackBlock q false)) ∈ t.sent ∧
      (.fabricCtl p (creditBlock f.vc (frameUnits f))) ∈ t.sent ∧
      (fabPort p t).expect = (q + 1) % 256 ∧
      t.sys.resp = .data (memRead (bits f.p1 0 40) 4 s) false ∧
      (!hasRoute f.src s || (heldFrames (routePort f.src s) t).any (fun x => x.status == 0 && x.p2 == 4 && x.tag == f.tag && x.type == 0x98 && x.payload == memRead (bits f.p1 0 40) 4 s)) ∧
      OnlyRegs [] s t ∧
      t = { s with sys := t.sys, fab := t.fab, sent := t.sent } ∧
      SameMem s t)) ∧
  (∀ (p q : Nat) (f : Frame) (b : List Nat) (s : State),
    p < 4 →
    fabUp p s = true →
    wireGood b = true →
    frameOf b = f →
    q = (fabPort p s).expect →
    f.dst = nodeId s →
    nodeActive s = true →
    f.type = 0x18 →
    f.p2 = 4 →
    pathOpen 13 s = false →
    Gives (.regFrame p q b []) s (fun t =>
      (.fabricCtl p (ackBlock q false)) ∈ t.sent ∧
      (.fabricCtl p (creditBlock f.vc (frameUnits f))) ∈ t.sent ∧
      (fabPort p t).expect = (q + 1) % 256 ∧
      t.sys.resp = .error 3 ∧
      respondedWith f 0x713 s t = true ∧
      OnlyBlocks [0] s t ∧
      t = { s with regs := t.regs, sys := t.sys, fab := t.fab, evr := t.evr, sent := t.sent, host := { s.host with msixPend := t.host.msixPend } } ∧
      SameMem s t)) ∧
  (∀ (n : Nat) (s : State),
    (get Reg.FAB_CFG.EN s ≠ 1 ∨ nodeActive s = false ∨ s.fab.start = n % 256) →
    Gives (.ringHeadAdvance n) s (fun t =>
      get Reg.FAB_RING_CTL.HEAD t = n % 256 ∧
      ((get Reg.FAB_CFG.EN s ≠ 1 ∨ nodeActive s = false → t.fab = s.fab)) ∧
      OnlyRegs [Reg.FAB_RING_CTL.HEAD] s t ∧
      t = { s with regs := t.regs } ∧
      SameMem s t)) ∧
  (∀ (n : Nat) (s : State),
    get Reg.FAB_CFG.EN s = 1 →
    nodeActive s = true →
    n % 256 = (s.fab.start + 1) % 256 →
    s.fab.start < 256 →
    memCode (descAddr s.fab.start s) = 2 →
    ((wordsIn 2 (descAddr s.fab.start s) 64).all (fun w => (upsetOf 2 w s).isNone) = true) →
    bits (memNat (descAddr s.fab.start s) 64 s) 0 8 = 0x12 →
    hasRoute (bits (memNat (descAddr s.fab.start s) 64 s) 16 12) s = true →
    s.fab.reqs = [] →
    Gives (.ringHeadAdvance n) s (fun t =>
      get Reg.FAB_RING_CTL.HEAD t = n % 256 ∧
      t.fab.start = n % 256 ∧
      ((t.fab.reqs.map (fun r => (r.idx, r.tag, r.frame.dst, r.frame.type, r.come))) = [(s.fab.start, s.fab.tag, bits (memNat (descAddr s.fab.start s) 64 s) 16 12, 0x12, 0)]) ∧
      t.fab.tag = (s.fab.tag + 1) % 2 ^ 32 ∧
      get Reg.FAB_RING_CTL.OUT t = 1 ∧
      OnlyRegs [Reg.FAB_RING_CTL.HEAD, Reg.FAB_RING_CTL.OUT] s t ∧
      t = { s with regs := t.regs, fab := t.fab, sent := t.sent } ∧
      SameMem s t)) ∧
  (∀ (n : Nat) (s : State),
    get Reg.FAB_CFG.EN s = 1 →
    nodeActive s = true →
    s.fab.start < 256 →
    Gives (.ringHeadAdvance n) s (fun t =>
      get Reg.FAB_RING_CTL.HEAD t = n % 256 ∧
      t.fab.start = n % 256)) ∧
  (∀ (p q : Nat) (f : Frame) (b : List Nat) (s : State),
    p < 4 →
    fabUp p s = true →
    wireGood b = true →
    frameOf b = f →
    q = (fabPort p s).expect →
    f.dst = nodeId s →
    nodeActive s = true →
    0x80 ≤ f.type →
    reqOf f s = none →
    (f.type ≠ 0x96 ∨ s.seals.wits.any (fun w => w.peer == f.src) = false) →
    Gives (.fabricResponse p q b) s (fun t =>
      (.fabricCtl p (ackBlock q false)) ∈ t.sent ∧
      (.fabricCtl p (creditBlock f.vc (frameUnits f))) ∈ t.sent ∧
      get Reg.FAB_CNT.LATE t = (get Reg.FAB_CNT.LATE s + 1) % 2 ^ Reg.FAB_CNT.LATE.width ∧
      OnlyRegs [Reg.FAB_CNT.LATE] s t ∧
      t = { s with regs := t.regs, fab := t.fab, sent := t.sent } ∧
      SameMem s t)) ∧
  (∀ (p q : Nat) (f : Frame) (b : List Nat) (r : FabReq) (s : State),
    p < 4 →
    fabUp p s = true →
    wireGood b = true →
    frameOf b = f →
    q = (fabPort p s).expect →
    f.dst = nodeId s →
    nodeActive s = true →
    0x80 ≤ f.type →
    reqOf f s = some r →
    f.flags.testBit 1 = false →
    f.payload = [] →
    Gives (.fabricResponse p q b) s (fun t =>
      (.fabricCtl p (ackBlock q false)) ∈ t.sent ∧
      (.fabricCtl p (creditBlock f.vc (frameUnits f))) ∈ t.sent ∧
      (t.fab.reqs = s.fab.reqs.map (fun x => if x.tag = r.tag then { r with come := r.come + f.payload.length } else x)) ∧
      OnlyRegs [] s t ∧
      t = { s with fab := t.fab, sent := t.sent } ∧
      SameMem s t)) ∧
  (∀ (p q : Nat) (f : Frame) (b : List Nat) (r : FabReq) (s : State),
    p < 4 →
    fabUp p s = true →
    wireGood b = true →
    frameOf b = f →
    q = (fabPort p s).expect →
    f.dst = nodeId s →
    nodeActive s = true →
    0x80 ≤ f.type →
    reqOf f s = some r →
    f.flags.testBit 1 = true →
    Gives (.fabricResponse p q b) s (fun t =>
      (.fabricCtl p (ackBlock q false)) ∈ t.sent ∧
      (.fabricCtl p (creditBlock f.vc (frameUnits f))) ∈ t.sent ∧
      (t.fab.reqs.any (fun x => x.tag == r.tag) = false))) ∧
  (∀ (p q : Nat) (f : Frame) (b : List Nat) (s : State),
    p < 4 →
    fabUp p s = true →
    wireGood b = true →
    frameOf b = f →
    q = (fabPort p s).expect →
    f.dst = nodeId s →
    nodeActive s = true →
    f.type = 0x96 →
    reqOf f s = none →
    (s.seals.wits.any (fun w => w.peer == f.src) = true) →
    Gives (.fabricResponse p q b) s (fun t =>
      (.fabricCtl p (ackBlock q false)) ∈ t.sent ∧
      (.fabricCtl p (creditBlock f.vc (frameUnits f))) ∈ t.sent ∧
      (fabPort p t).expect = (q + 1) % 256 ∧
      OnlyRegs [] s t ∧
      t = { s with fab := t.fab, sent := t.sent } ∧
      SameMem s t)) ∧
  (∀ (p q : Nat) (f : Frame) (b : List Nat) (r : FabReq) (s : State),
    p < 4 →
    fabUp p s = true →
    wireGood b = true →
    frameOf b = f →
    q = (fabPort p s).expect →
    f.dst = nodeId s →
    nodeActive s = true →
    0x80 ≤ f.type →
    reqOf f s = some r →
    f.flags.testBit 1 = false →
    Gives (.fabricResponse p q b) s (fun t =>
      (.fabricCtl p (ackBlock q false)) ∈ t.sent ∧
      (.fabricCtl p (creditBlock f.vc (frameUnits f))) ∈ t.sent ∧
      (fabPort p t).expect = (q + 1) % 256 ∧
      (t.fab.reqs = s.fab.reqs.map (fun x => if x.tag = r.tag then { r with come := r.come + f.payload.length } else x)) ∧
      ((within (0x20000000, 0x28000000) (r.data + r.come) f.payload.length = true → flipHits 2 (r.data + r.come) f.payload.length s = false → memRead (r.data + r.come) f.payload.length t = f.payload)))) ∧
  (∀ (g n : Nat) (r : FabReq) (s : State),
    (s.fab.reqs.find? (fun r => r.tag == g) = some r) →
    tmoMs s ≤ n →
    mayRetry r = true →
    get Reg.FAB_TMO.RETRY s = 1 →
    r.again = false →
    Gives (.fabricRequestTimeout g n) s (fun t =>
      (t.fab.reqs = s.fab.reqs.map (fun x => if x.tag = r.tag then { x with again := true, come := 0 } else x)) ∧
      OnlyRegs [] s t ∧
      t = { s with fab := t.fab, sent := t.sent } ∧
      SameMem s t)) ∧
  (∀ (g n : Nat) (r : FabReq) (s : State),
    (s.fab.reqs.find? (fun r => r.tag == g) = some r) →
    tmoMs s ≤ n →
    (mayRetry r = false ∨ get Reg.FAB_TMO.RETRY s = 0 ∨ r.again = true) →
    Gives (.fabricRequestTimeout g n) s (fun t =>
      (t.fab.reqs.any (fun x => x.tag == g) = false)))

/-- ST and OUT write the accumulator rounded half up and saturated to the signal range (R73). Formalises R73. -/
def Obligations.AccumulatorIsRoundedAndSaturated : Prop :=
  (∀ (e pred a c : Nat) (x : Int) (s : State),
    e < 5 →
    canIssue e 5 pred a c s = true →
    predPasses e pred a s = true →
    (ceOf e s).acc = x →
    Gives (.hecelSt e pred a c) s (fun t =>
      (AMap.lookup (c % 256) (ceOf e t).fresh = some (if 2 ^ 31 ≤ ((ceOf e s).acc + 2 ^ 29) / 2 ^ 30 then 2 ^ 31 - 1 else if ((ceOf e s).acc + 2 ^ 29) / 2 ^ 30 < -2 ^ 31 then -2 ^ 31 else ((ceOf e s).acc + 2 ^ 29) / 2 ^ 30)) ∧
      OnlyRegs [] s t ∧
      t = { s with ce := t.ce })) ∧
  (∀ (e pred a c : Nat) (x : Int) (s : State),
    e < 5 →
    canIssue e 6 pred a c s = true →
    predPasses e pred a s = true →
    (ceOf e s).acc = x →
    Gives (.hecelOut e pred a c) s (fun t =>
      (AMap.lookup (c % 32) (ceOf e t).outNew = some (if 2 ^ 31 ≤ ((ceOf e s).acc + 2 ^ 29) / 2 ^ 30 then 2 ^ 31 - 1 else if ((ceOf e s).acc + 2 ^ 29) / 2 ^ 30 < -2 ^ 31 then -2 ^ 31 else ((ceOf e s).acc + 2 ^ 29) / 2 ^ 30)) ∧
      OnlyRegs [] s t ∧
      t = { s with ce := t.ce }))

/-- An access that meets an error response is captured in SYS_BUS_ERR while VALID is 0, sets MORE while it is 1, and records an
event (R25). Formalises R25. -/
def Obligations.ErrorResponsesAreCaptured : Prop :=
  (∀ (m addr n v k : Nat) (s : State),
    within regSpace addr 1 = true →
    accessCause (pathOpen m s) addr n true s = some k →
    get Reg.SYS_BUS_ERR_HI.VALID s = 0 →
    Gives (.registerWrite m addr n v) s (fun t =>
      get Reg.SYS_BUS_ERR_LO.ADDR_LO t = addr % 2 ^ 32 ∧
      get Reg.SYS_BUS_ERR_HI.ADDR_HI t = addr / 2 ^ 32 % 256 ∧
      get Reg.SYS_BUS_ERR_HI.MASTER t = m % 2 ^ Reg.SYS_BUS_ERR_HI.MASTER.width ∧
      get Reg.SYS_BUS_ERR_HI.WRITE t = 1 ∧
      get Reg.SYS_BUS_ERR_HI.CAUSE t = k % 2 ^ Reg.SYS_BUS_ERR_HI.CAUSE.width ∧
      get Reg.SYS_BUS_ERR_HI.VALID t = 1 ∧
      t.sys.resp = .error k ∧
      t.evr = (post 0x023 0 (bytesOf 4 (addr % 2 ^ 32) ++ bytesOf 4 (addr / 2 ^ 32 % 256 + 256 * m + 8192 * 1 + 16384 * k + 2 ^ 31)) s).evr ∧
      OnlyRegs [Reg.SYS_BUS_ERR_LO.ADDR_LO, Reg.SYS_BUS_ERR_HI.ADDR_HI, Reg.SYS_BUS_ERR_HI.MASTER, Reg.SYS_BUS_ERR_HI.WRITE, Reg.SYS_BUS_ERR_HI.CAUSE, Reg.SYS_BUS_ERR_HI.VALID] s t ∧
      t = { s with regs := t.regs, sys := t.sys, evr := t.evr, host := { s.host with msixPend := t.host.msixPend } } ∧
      SameMem s t)) ∧
  (∀ (m addr n v k : Nat) (s : State),
    within regSpace addr 1 = true →
    accessCause (pathOpen m s) addr n true s = some k →
    get Reg.SYS_BUS_ERR_HI.VALID s = 1 →
    Gives (.registerWrite m addr n v) s (fun t =>
      get Reg.SYS_BUS_ERR_HI.MORE t = 1 ∧
      t.sys.resp = .error k ∧
      t.evr = (post 0x023 0 (bytesOf 4 (addr % 2 ^ 32) ++ bytesOf 4 (addr / 2 ^ 32 % 256 + 256 * m + 8192 * 1 + 16384 * k + 2 ^ 31)) s).evr ∧
      OnlyRegs [Reg.SYS_BUS_ERR_HI.MORE] s t ∧
      t = { s with regs := t.regs, sys := t.sys, evr := t.evr, host := { s.host with msixPend := t.host.msixPend } } ∧
      SameMem s t)) ∧
  (∀ (m addr n k : Nat) (w : Bool) (l : List Nat) (s : State),
    accessCause (m != 14 || pathOpen 14 s) addr n w s = some k →
    get Reg.SYS_BUS_ERR_HI.VALID s = 0 →
    Gives (.memoryAccess m addr n w l []) s (fun t =>
      get Reg.SYS_BUS_ERR_LO.ADDR_LO t = addr % 2 ^ 32 ∧
      get Reg.SYS_BUS_ERR_HI.ADDR_HI t = addr / 2 ^ 32 % 256 ∧
      get Reg.SYS_BUS_ERR_HI.MASTER t = m % 2 ^ Reg.SYS_BUS_ERR_HI.MASTER.width ∧
      get Reg.SYS_BUS_ERR_HI.WRITE t = b2n w ∧
      get Reg.SYS_BUS_ERR_HI.CAUSE t = k % 2 ^ Reg.SYS_BUS_ERR_HI.CAUSE.width ∧
      get Reg.SYS_BUS_ERR_HI.VALID t = 1 ∧
      t.sys.resp = .error k ∧
      t.evr = (post 0x023 0 (bytesOf 4 (addr % 2 ^ 32) ++ bytesOf 4 (addr / 2 ^ 32 % 256 + 256 * m + 8192 * b2n w + 16384 * k + 2 ^ 31)) s).evr ∧
      OnlyRegs [Reg.SYS_BUS_ERR_LO.ADDR_LO, Reg.SYS_BUS_ERR_HI.ADDR_HI, Reg.SYS_BUS_ERR_HI.MASTER, Reg.SYS_BUS_ERR_HI.WRITE, Reg.SYS_BUS_ERR_HI.CAUSE, Reg.SYS_BUS_ERR_HI.VALID] s t ∧
      t = { s with regs := t.regs, sys := t.sys, evr := t.evr, host := { s.host with msixPend := t.host.msixPend } } ∧
      SameMem s t)) ∧
  (∀ (m addr n k : Nat) (w : Bool) (l : List Nat) (s : State),
    accessCause (m != 14 || pathOpen 14 s) addr n w s = some k →
    get Reg.SYS_BUS_ERR_HI.VALID s = 1 →
    Gives (.memoryAccess m addr n w l []) s (fun t =>
      get Reg.SYS_BUS_ERR_HI.MORE t = 1 ∧
      t.sys.resp = .error k ∧
      t.evr = (post 0x023 0 (bytesOf 4 (addr % 2 ^ 32) ++ bytesOf 4 (addr / 2 ^ 32 % 256 + 256 * m + 8192 * b2n w + 16384 * k + 2 ^ 31)) s).evr ∧
      OnlyRegs [Reg.SYS_BUS_ERR_HI.MORE] s t ∧
      t = { s with regs := t.regs, sys := t.sys, evr := t.evr, host := { s.host with msixPend := t.host.msixPend } } ∧
      SameMem s t))

/-- A GO in LOADING is held and replaces an earlier one, is taken when LOADING ends, and is refused in PARKED, UNLOADING, RETRACTED
and FAULT (R128). Formalises R128. -/
def Obligations.SeeksFollowTheActuatorState : Prop :=
  (∀ (a v : Nat) (s : State),
    a < 2 →
    v.testBit 31 = true →
    actState a s = 1 →
    Gives (.seekGo a v) s (fun t =>
      (actOf a t).goHeld = true ∧
      get (Reg.ACT_SEEK.TRACK a) t = v % 2 ^ 22 ∧
      get (Reg.ACT_SEEK.WRITE a) t = v / 2 ^ 24 % 2 ∧
      get (Reg.ACT_SEEK.SHINGLED a) t = v / 2 ^ 25 % 2 ∧
      get (Reg.ACT_SEEK.DIR a) t = v / 2 ^ 26 % 2 ∧
      OnlyRegs [Reg.ACT_SEEK.TRACK a, Reg.ACT_SEEK.WRITE a, Reg.ACT_SEEK.SHINGLED a, Reg.ACT_SEEK.DIR a, Reg.ACT_SEEK.GO a, Reg.ACT_STAT.CMD_PEND a] s t ∧
      t = { s with regs := t.regs, act := t.act } ∧
      SameMem s t)) ∧
  (∀ (a : Nat) (s : State),
    a < 2 →
    actState a s = 1 →
    4 ≤ (actOf a s).validRow →
    (actOf a s).goHeld = true →
    get (Reg.ACT_CTL.UNLOAD a) s = 0 →
    badTarget a s = false →
    Gives (.actLoadAcquired a) s (fun t =>
      actState a t = 2 ∧
      (actOf a t).track = get (Reg.ACT_SEEK.TRACK a) s ∧
      (actOf a t).head1 = get (Reg.ACT_HEADS.HEAD1 a) s ∧
      (actOf a t).write = decide (get (Reg.ACT_SEEK.WRITE a) s = 1) ∧
      (actOf a t).goHeld = false ∧
      SameMem s t)) ∧
  (∀ (a v : Nat) (s : State),
    a < 2 →
    v.testBit 31 = true →
    (actState a s = 0 ∨ actState a s = 6 ∨ actState a s = 7 ∨ actState a s = 8) →
    Gives (.seekGo a v) s (fun t =>
      get (Reg.ACT_STAT.REFUSED a) t = 1 ∧
      get (Reg.ACT_SEEK.GO a) t = 0 ∧
      OnlyRegs [Reg.ACT_SEEK.TRACK a, Reg.ACT_SEEK.WRITE a, Reg.ACT_SEEK.SHINGLED a, Reg.ACT_SEEK.DIR a, Reg.ACT_SEEK.GO a, Reg.ACT_STAT.REFUSED a] s t ∧
      OnlyRegisters s t ∧
      SameMem s t))

/-- RETRACT_REQ without RETRACT_DONE within RETRACT_MS, 500 ms by default, sets RETRACT_TMO and ends in FAULT, but not in RESCUE
(R118). Formalises R118. -/
def Obligations.RetractTimeoutEndsInFault : Prop :=
  (∀ (s : State),
    retractReq s = true →
    (stgOf 0 s).retractDone = false →
    mode s ≠ 5 →
    200 * get Reg.SPN_TIMEOUT.RETRACT_MS s ≤ tmpCount s - s.spn.retractAt →
    Gives (.spnRetractTimeout) s (fun t =>
      get Reg.SPN_FAULT.RETRACT_TMO t = 1 ∧
      get Reg.SPN_STAT.STATE t = 13 ∧
      ((get Reg.SPN_STAT.STATE s ≠ 13 → get Reg.SPN_STAT.RESTART_PEND t = 0)) ∧
      OnlyBlocks [0, 4, 5, 6, 7] s t ∧
      SameMem s t)) ∧
  (∀ (s : State),
    mode s = 5 →
    Gives (.spnRetractTimeout) s (fun t =>
      t = s)) ∧
  (get Reg.SPN_TIMEOUT.RETRACT_MS State.reset = 500)

/-- More than STORM hops of a head within 200,000 tempos trip it with cause 3; STORM is 8 at reset (R158). Formalises R158. -/
def Obligations.HopStormsTripTheHead : Prop :=
  (∀ (x : Nat) (s : State),
    x < 24 →
    1 ≤ asxState x s →
    asxState x s ≤ 4 →
    (get Reg.ASX_HOP_CFG.STORM s < ((asxOf x s).hopAt.filter (fun n => tmpCount s < n + 200000)).length) →
    Gives (.hopStorm x) s (fun t =>
      asxState x t = 5 ∧
      get (Reg.ASX_HSTAT.CAUSE x) t = 3 ∧
      get (Reg.ASX_HCNT.TRIPS x) t = (get (Reg.ASX_HCNT.TRIPS x) s + 1) % 2 ^ (Reg.ASX_HCNT.TRIPS 0).width ∧
      OnlyRegs [Reg.ASX_HSTAT.STATE x, Reg.ASX_HSTAT.READY x, Reg.ASX_HSTAT.CAUSE x, Reg.ASX_HCNT.TRIPS x] s t ∧
      t = { s with regs := t.regs, asx := t.asx, evr := t.evr, sys := t.sys, sent := t.sent, host := { s.host with msixPend := t.host.msixPend } } ∧
      SameMem s t)) ∧
  (get Reg.ASX_HOP_CFG.STORM State.reset = 8)
end

