-- ==== Sys2Proof/Laws/Maps.lean ====
section
/-! SUPPORT. Sparse maps: a lookup after an insertion or a removal, and that both keep keys rising. -/

namespace Sys2Proof.AMap

variable {α : Type}

@[simp] theorem lookup_insert_self (k : Nat) (v : α) (m : AMap α) : lookup k (insert k v m) = some v := by
  induction m with
  | nil => simp [insert, lookup]
  | cons p t ih =>
    obtain ⟨j, w⟩ := p
    by_cases h : k < j
    · simp [insert, lookup, h]
    · by_cases e : k = j
      · simp [insert, lookup, e]
      · simp [insert, lookup, h, e, ih]

theorem lookup_insert_ne {k j : Nat} (h : j ≠ k) (v : α) (m : AMap α) : lookup j (insert k v m) = lookup j m := by
  induction m with
  | nil => simp [insert, lookup, h]
  | cons p t ih =>
    obtain ⟨i, w⟩ := p
    simp only [insert]
    split
    · simp [lookup, h]
    · split
      · rename_i e
        subst e
        simp [lookup, h]
      · simp [lookup, ih]

@[simp] theorem lookup_erase_self (k : Nat) (m : AMap α) : lookup k (erase k m) = none := by
  induction m with
  | nil => rfl
  | cons p t ih =>
    obtain ⟨j, w⟩ := p
    by_cases e : k = j
    · simp [erase, e] at ih ⊢
      simpa [e] using ih
    · simp [erase, lookup, e, ih]

theorem lookup_erase_ne {k j : Nat} (h : j ≠ k) (m : AMap α) : lookup j (erase k m) = lookup j m := by
  induction m with
  | nil => rfl
  | cons p t ih =>
    obtain ⟨i, w⟩ := p
    by_cases e : k = i
    · subst e
      simp [erase, lookup, h, ih]
    · by_cases e' : j = i
      · simp [erase, lookup, e, e']
      · simp [erase, lookup, e, e', ih]

@[simp] theorem getD_insert_self (k : Nat) (v d : α) (m : AMap α) : getD (insert k v m) k d = v := by simp [getD]

theorem getD_insert_ne {k j : Nat} (h : j ≠ k) (v d : α) (m : AMap α) : getD (insert k v m) j d = getD m j d := by
  simp [getD, lookup_insert_ne h]

@[simp] theorem getD_erase_self (k : Nat) (d : α) (m : AMap α) : getD (erase k m) k d = d := by simp [getD]

theorem getD_erase_ne {k j : Nat} (h : j ≠ k) (d : α) (m : AMap α) : getD (erase k m) j d = getD m j d := by
  simp [getD, lookup_erase_ne h]

/-- Every key of a map is above k. -/
def above (k : Nat) (m : AMap α) : Prop := ∀ p ∈ m, k < p.1

theorem rising_cons (p : Nat × α) (m : AMap α) : rising (p :: m) = true ↔ above p.1 m ∧ rising m = true := by
  induction m generalizing p with
  | nil => simp [rising, above]
  | cons q t ih =>
    simp only [rising, Bool.and_eq_true, decide_eq_true_eq]
    rw [ih q]
    constructor
    · rintro ⟨h, a, r⟩
      refine ⟨?_, a, r⟩
      intro x hx
      rcases List.mem_cons.1 hx with rfl | hx
      · exact h
      · exact Nat.lt_trans h (a x hx)
    · rintro ⟨h, a, r⟩
      exact ⟨h q (by simp), a, r⟩

theorem above_insert {k j : Nat} (h : j < k) {v : α} {m : AMap α} (a : above j m) : above j (insert k v m) := by
  induction m with
  | nil => simp [insert, above, h]
  | cons p t ih =>
    obtain ⟨i, w⟩ := p
    have hi : j < i := a (i, w) (by simp)
    have ht : above j t := fun q hq => a q (by simp [hq])
    simp only [insert]
    split
    · intro q hq
      rcases List.mem_cons.1 hq with rfl | hq
      · exact h
      · exact a q hq
    · split
      · intro q hq
        rcases List.mem_cons.1 hq with rfl | hq
        · exact h
        · exact ht q hq
      · intro q hq
        rcases List.mem_cons.1 hq with rfl | hq
        · exact hi
        · exact ih ht q hq

theorem rising_insert (k : Nat) (v : α) {m : AMap α} (h : rising m = true) : rising (insert k v m) = true := by
  induction m with
  | nil => rfl
  | cons p t ih =>
    obtain ⟨j, w⟩ := p
    have hc := (rising_cons _ _).1 h
    simp only [insert]
    split
    · rename_i hk
      refine (rising_cons _ _).2 ⟨?_, h⟩
      intro q hq
      rcases List.mem_cons.1 hq with rfl | hq
      · exact hk
      · exact Nat.lt_trans hk (hc.1 q hq)
    · split
      · rename_i e
        subst e
        exact (rising_cons _ _).2 ⟨hc.1, hc.2⟩
      · exact (rising_cons _ _).2 ⟨above_insert (by simp only; omega) hc.1, ih hc.2⟩

theorem rising_filter (f : Nat × α → Bool) {m : AMap α} (h : rising m = true) : rising (m.filter f) = true := by
  induction m with
  | nil => rfl
  | cons p t ih =>
    have hc := (rising_cons _ _).1 h
    rw [List.filter_cons]
    split
    · exact (rising_cons _ _).2 ⟨fun q hq => hc.1 q (List.mem_filter.1 hq).1, ih hc.2⟩
    · exact ih hc.2

theorem erase_eq_filter (k : Nat) (m : AMap α) : erase k m = m.filter (fun p => p.1 != k) := by
  induction m with
  | nil => rfl
  | cons p t ih =>
    obtain ⟨j, w⟩ := p
    by_cases e : k = j
    · subst e
      simp [erase, ih]
    · have : j ≠ k := fun x => e x.symm
      simp [erase, e, ih, this]

theorem rising_erase (k : Nat) {m : AMap α} (h : rising m = true) : rising (erase k m) = true := by
  rw [erase_eq_filter]; exact rising_filter _ h

theorem mem_insert {p : Nat × α} {k : Nat} {v : α} {m : AMap α} (h : p ∈ insert k v m) : p = (k, v) ∨ p ∈ m := by
  induction m with
  | nil => simpa [insert] using h
  | cons q t ih =>
    obtain ⟨j, w⟩ := q
    simp only [insert] at h
    split at h
    · rcases List.mem_cons.1 h with rfl | h
      · exact .inl rfl
      · exact .inr h
    · split at h
      · rcases List.mem_cons.1 h with rfl | h
        · exact .inl rfl
        · exact .inr (List.mem_cons.2 (.inr h))
      · rcases List.mem_cons.1 h with rfl | h
        · exact .inr (by simp)
        · rcases ih h with h | h
          · exact .inl h
          · exact .inr (List.mem_cons.2 (.inr h))

end Sys2Proof.AMap
end

