-- ==== Sys2Proof/Laws/Memory.lean ====
section
/-! SUPPORT. Memory keeps its canonical form, a byte reads as it was last written, and a write changes no other byte. -/

namespace Sys2Proof.Machine

open Sys2Proof

theorem wf_iff (m : List Host.Cell) : Memory.wf m = true ↔ AMap.rising m = true ∧ ∀ c ∈ m, c.2 ≠ 0 := by
  simp [Memory.wf]

theorem wf_putCell (a : Nat) (v : Byte) {m : List Host.Cell} (h : Memory.wf m = true) : Memory.wf (putCell a v m) = true := by
  rw [wf_iff] at h ⊢
  unfold putCell
  split
  · refine ⟨AMap.rising_erase a h.1, ?_⟩
    intro c hc
    rw [AMap.erase_eq_filter] at hc
    exact h.2 c (List.mem_filter.1 hc).1
  · rename_i hv
    refine ⟨AMap.rising_insert a v h.1, ?_⟩
    intro c hc
    rcases AMap.mem_insert hc with rfl | hc
    · exact hv
    · exact h.2 c hc

theorem wf_putCells (a : Nat) (l : List Nat) {m : List Host.Cell} (h : Memory.wf m = true) : Memory.wf (putCells a l m) = true := by
  induction l generalizing a m with
  | nil => exact h
  | cons b t ih => exact ih (a + 1) (wf_putCell a _ h)

theorem wf_filter (f : Host.Cell → Bool) {m : List Host.Cell} (h : Memory.wf m = true) : Memory.wf (m.filter f) = true := by
  rw [wf_iff] at h ⊢
  exact ⟨AMap.rising_filter f h.1, fun c hc => h.2 c (List.mem_filter.1 hc).1⟩

/-- The byte a list of cells holds at an address. -/
theorem getD_putCell (a b : Nat) (v : Byte) (m : List Host.Cell) :
    AMap.getD (putCell a v m) b 0 = if b = a then v else AMap.getD m b 0 := by
  unfold putCell
  by_cases e : b = a
  · subst e
    split <;> simp_all
  · split
    · exact AMap.getD_erase_ne e _ _
    · exact AMap.getD_insert_ne e _ _ _

theorem getD_putCells (a b : Nat) (l : List Nat) (m : List Host.Cell) :
    AMap.getD (putCells a l m) b 0
      = if a ≤ b ∧ b < a + l.length then BitVec.ofNat 8 (l.getD (b - a) 0) else AMap.getD m b 0 := by
  induction l generalizing a m with
  | nil => simp only [putCells, List.length_nil]; rw [if_neg (by omega)]
  | cons x t ih =>
    simp only [putCells, ih, getD_putCell, List.length_cons]
    by_cases e : b = a
    · subst e
      rw [if_neg (by omega), if_pos rfl, if_pos (by omega)]
      simp
    · by_cases h : a + 1 ≤ b ∧ b < a + 1 + t.length
      · rw [if_pos h, if_pos (by omega)]
        obtain ⟨k, rfl⟩ : ∃ k, b = a + 1 + k := ⟨b - (a + 1), by omega⟩
        rw [show a + 1 + k - (a + 1) = k by omega, show a + 1 + k - a = k + 1 by omega]
        rfl
      · rw [if_neg h, if_neg e, if_neg (by omega)]

/-- A byte in the range of a write reads as written. -/
theorem memByte_memWrite_in {a b : Nat} {l : List Nat} (s : State) (h : a ≤ b ∧ b < a + l.length) :
    memByte b (memWrite a l s) = BitVec.ofNat 8 (l.getD (b - a) 0) := by
  simp only [memByte, memWrite, getD_putCells, if_pos h]

/-- A byte outside the range of a write reads as before. -/
theorem memByte_memWrite_out {a b : Nat} {l : List Nat} (s : State) (h : ¬ (a ≤ b ∧ b < a + l.length)) :
    memByte b (memWrite a l s) = memByte b s := by
  simp only [memByte, memWrite, getD_putCells, if_neg h]

end Sys2Proof.Machine
end

