-- ==== Sys2Proof/Laws/Registers.lean ====
section
/-! SUPPORT. Register fields: what a field reads after a write of it, after a write of another, and after an operation that writes none. -/

namespace Sys2Proof.Machine

open Sys2Proof

theorem get_regs {s t : State} (f : Fld) (h : t.regs = s.regs) : get f t = get f s := by simp [get, h]

theorem getD_putReg_self (f : Fld) (v : Nat) (m : AMap Nat) : AMap.getD (putReg f v m) f.key f.rst = v % 2 ^ f.width := by
  unfold putReg
  dsimp only
  split
  · rename_i h; simp [h]
  · simp

theorem getD_putReg_ne {f g : Fld} (h : g.key ≠ f.key) (v d : Nat) (m : AMap Nat) :
    AMap.getD (putReg f v m) g.key d = AMap.getD m g.key d := by
  unfold putReg
  dsimp only
  split
  · exact AMap.getD_erase_ne h d m
  · exact AMap.getD_insert_ne h _ d m

/-- A field reads what was written, cut to its width. -/
@[simp] theorem get_put_self (f : Fld) (v : Nat) (s : State) : get f (put f v s) = v % 2 ^ f.width := getD_putReg_self f v s.regs

/-- A write of a field leaves every field of another key. -/
theorem get_put_ne {f g : Fld} (h : g.key ≠ f.key) (v : Nat) (s : State) : get g (put f v s) = get g s := getD_putReg_ne h v g.rst s.regs

theorem puts_nil (s : State) : puts [] s = s := rfl
theorem puts_cons (f : Fld) (v : Nat) (l : List (Fld × Nat)) (s : State) : puts ((f, v) :: l) s = puts l (put f v s) := rfl

/-- Several writes leave every field of another key. -/
theorem get_puts_ne {g : Fld} {l : List (Fld × Nat)} (h : ∀ p ∈ l, g.key ≠ p.1.key) (s : State) : get g (puts l s) = get g s := by
  induction l generalizing s with
  | nil => rfl
  | cons p t ih =>
    obtain ⟨f, v⟩ := p
    rw [puts_cons, ih (fun q hq => h q (by simp [hq])), get_put_ne (h (f, v) (by simp))]

theorem rising_putReg (f : Fld) (v : Nat) {m : AMap Nat} (h : AMap.rising m = true) : AMap.rising (putReg f v m) = true := by
  unfold putReg
  dsimp only
  split
  · exact AMap.rising_erase _ h
  · exact AMap.rising_insert _ _ h

@[simp] theorem msix_regs (v : Nat) (s : State) : (msix v s).regs = s.regs := by unfold msix; split <;> rfl
@[simp] theorem hostEdge_regs (s t : State) : (hostEdge s t).regs = t.regs := by unfold hostEdge; split <;> simp
@[simp] theorem raise_regs (n : Nat) (s : State) : (raise n s).regs = s.regs := by unfold raise; simp
@[simp] theorem postRec_regs (r : EvRec) (s : State) : (postRec r s).regs = s.regs := rfl
@[simp] theorem post_regs (c u : Nat) (p : List Nat) (s : State) : (post c u p s).regs = s.regs := rfl
@[simp] theorem raisePost_regs (n u : Nat) (p : List Nat) (s : State) : (raisePost n u p s).regs = s.regs := by unfold raisePost; simp
@[simp] theorem postReg_regs (f : Fld) (u : Nat) (s : State) : (postReg f u s).regs = s.regs := by delta postReg; exact post_regs _ _ _ _
@[simp] theorem postNone_regs (b u : Nat) (s : State) : (postNone b u s).regs = s.regs := by unfold postNone; simp
@[simp] theorem putLine_regs (f : Fld) (v : Nat) (s : State) : (putLine f v s).regs = (put f v s).regs := by unfold putLine; simp
@[simp] theorem linePost_regs (n : Nat) (f : Fld) (v u : Nat) (p : List Nat) (s : State) : (linePost n f v u p s).regs = (put f v s).regs := by unfold linePost; simp

@[simp] theorem get_hostEdge (f : Fld) (s t : State) : get f (hostEdge s t) = get f t := get_regs f (by simp)
@[simp] theorem get_raise (f : Fld) (n : Nat) (s : State) : get f (raise n s) = get f s := get_regs f (by simp)
@[simp] theorem get_post (f : Fld) (c u : Nat) (p : List Nat) (s : State) : get f (post c u p s) = get f s := rfl
@[simp] theorem get_raisePost (f : Fld) (n u : Nat) (p : List Nat) (s : State) : get f (raisePost n u p s) = get f s := get_regs f (by simp)
@[simp] theorem get_postReg (f g : Fld) (u : Nat) (s : State) : get f (postReg g u s) = get f s := get_regs f (by simp)
@[simp] theorem get_postNone (f : Fld) (b u : Nat) (s : State) : get f (postNone b u s) = get f s := get_regs f (by simp)
@[simp] theorem get_linePost (f g : Fld) (n v u : Nat) (p : List Nat) (s : State) : get f (linePost n g v u p s) = get f (put g v s) := get_regs f (by simp)
@[simp] theorem get_putLine (f g : Fld) (v : Nat) (s : State) : get f (putLine g v s) = get f (put g v s) := get_regs f (by simp)
@[simp] theorem get_send (f : Fld) (m : Msg) (s : State) : get f (send m s) = get f s := rfl
@[simp] theorem get_freed (f : Fld) (s : State) : get f (freed s) = get f s := rfl
@[simp] theorem get_memWrite (f : Fld) (a : Nat) (l : List Nat) (s : State) : get f (memWrite a l s) = get f s := rfl

end Sys2Proof.Machine
end

