-- ==== Sys2Proof/Laws/Steady.lean ====
section
/-! SUPPORT. What every operation of the device keeps. -/

namespace Sys2Proof.Machine

open Sys2Proof

/-- What a state keeps of an earlier one, by the fields concerned: the queue, what has been sent, the count of free values taken, the order
of the register map and the canonical form of memory. -/
def Keeps (s : State) (q : List Instr) (o : List Msg) (n : Nat) (r : AMap Nat) (m : List Host.Cell) : Prop :=
  q = s.pending ∧ s.sent <+: o ∧ s.free ≤ n ∧ (AMap.rising s.regs = true → AMap.rising r = true)
  ∧ (Memory.wf s.mem = true → Memory.wf m = true)

/-- A state that an operation leaves: the queue is untouched, what has been sent stays, registers and memory stay in canonical form. -/
def Steady (s t : State) : Prop := Keeps s t.pending t.sent t.free t.regs t.mem

theorem Steady.refl (s : State) : Steady s s := ⟨rfl, List.prefix_rfl, Nat.le_refl _, id, id⟩

theorem Steady.trans {s t u : State} (h : Steady s t) (k : Steady t u) : Steady s u :=
  ⟨k.1.trans h.1, h.2.1.trans k.2.1, Nat.le_trans h.2.2.1 k.2.2.1, fun x => k.2.2.2.1 (h.2.2.2.1 x), fun x => k.2.2.2.2 (h.2.2.2.2 x)⟩

@[simp] theorem keeps_self (s t : State) : Keeps s t.pending t.sent t.free t.regs t.mem ↔ Steady s t := Iff.rfl

variable {z s : State}

@[simp] theorem steady_mk (p r m po f se pi sy bo tm ce st sp ac as hc hl tp zm os oc ol mo cm sl ev ca pm me dm dn dt fi tc ho fa ar) :
    Steady z (State.mk p r m po f se pi sy bo tm ce st sp ac as hc hl tp zm os oc ol mo cm sl ev ca pm me dm dn dt fi tc ho fa ar)
      ↔ Keeps z p se f r m := Iff.rfl

@[simp] theorem steady_ite {c : Prop} [Decidable c] {a b : State} (h : Steady z a) (k : Steady z b) : Steady z (if c then a else b) := by
  split <;> assumption

theorem steady_foldl {α : Type} {g : State → α → State} {l : List α} (h : Steady z s) (k : ∀ t x, Steady z t → Steady z (g t x)) :
    Steady z (l.foldl g s) := by
  induction l generalizing s with
  | nil => exact h
  | cons x t ih => exact ih (k s x h)

@[simp] theorem put_steady {f : Fld} {v : Nat} (h : Steady z s) : Steady z (put f v s) :=
  ⟨h.1, h.2.1, h.2.2.1, fun x => rising_putReg f v (h.2.2.2.1 x), h.2.2.2.2⟩

@[simp] theorem msix_steady {v : Nat} (h : Steady z s) : Steady z (msix v s) := by
  unfold msix
  split
  · exact ⟨h.1, h.2.1.trans (List.prefix_append _ _), h.2.2⟩
  · exact h

@[simp] theorem msixFlush_steady (h : Steady z s) : Steady z (msixFlush s) := ⟨h.1, h.2.1.trans (List.prefix_append _ _), h.2.2⟩

@[simp] theorem hostEdge_steady {t : State} (h : Steady z t) : Steady z (hostEdge s t) := by
  unfold hostEdge
  split
  · exact msix_steady h
  · exact h

@[simp] theorem send_steady {m : Msg} (h : Steady z s) : Steady z (send m s) := ⟨h.1, h.2.1.trans (List.prefix_append _ _), h.2.2⟩
@[simp] theorem freed_steady (h : Steady z s) : Steady z (freed s) := ⟨h.1, h.2.1, Nat.le_succ_of_le h.2.2.1, h.2.2.2⟩
@[simp] theorem memWrite_steady {a : Nat} {l : List Nat} (h : Steady z s) : Steady z (memWrite a l s) :=
  ⟨h.1, h.2.1, h.2.2.1, h.2.2.2.1, fun x => wf_putCells a l (h.2.2.2.2 x)⟩
@[simp] theorem wipeMem_steady {d : Nat} (h : Steady z s) : Steady z (wipeMem d s) := by
  unfold wipeMem
  split
  · exact h
  · exact ⟨h.1, h.2.1, h.2.2.1, h.2.2.2.1, fun x => wf_filter _ (h.2.2.2.2 x)⟩
@[simp] theorem resetRegs_steady {d k : Nat → Bool} (h : Steady z s) : Steady z (resetRegs d k s) :=
  ⟨h.1, h.2.1, h.2.2.1, fun x => AMap.rising_filter _ (h.2.2.2.1 x), h.2.2.2.2⟩

/-- The next state of an answer, where there is one, is steady. -/
def SteadyOut (z : State) (o : Out) : Prop := ∀ t, o = .next t → Steady z t

@[simp] theorem steadyOut_next {t : State} (h : Steady z t) : SteadyOut z (.next t) := by
  intro u e
  cases e
  exact h
@[simp] theorem steadyOut_fault (r : Fault) : SteadyOut z (.fault r) := by intro u e; cases e
@[simp] theorem steadyOut_ite {c : Prop} [Decidable c] {a b : Out} (h : SteadyOut z a) (k : SteadyOut z b) :
    SteadyOut z (if c then a else b) := by split <;> assumption
@[simp] theorem occurs_steady {c : Prop} [Decidable c] {t : State} (k : Steady z t) (h : Steady z s) : SteadyOut z (occurs c t s) := by
  unfold occurs; split <;> simp [h, k]
@[simp] theorem unit_steady {i n : Nat} {o : Out} (h : SteadyOut z o) : SteadyOut z (unit i n o) := by
  unfold unit; split <;> simp [h]

end Sys2Proof.Machine
end

