-- ==== Sys2Proof/Laws/SteadyMedia.lean ====
section
/-! SUPPORT. Every operation of the engines, the disks and the zones keeps what Laws/Steady.lean says: the queue, what has been sent, and the canonical
forms of registers and memory. -/

namespace Sys2Proof.Machine

open Sys2Proof

set_option linter.unusedSimpArgs false

variable {z₀ : State}

/-! Ops -/

@[simp] theorem puts_steady {l : List (Fld × Nat)} {s : State} (hS : Steady z₀ s) : Steady z₀ (puts l s) := by
  unfold puts; simp (maxDischargeDepth := 99) +contextual [hS, steady_foldl]
@[simp] theorem putIf_steady {c : Prop} [Decidable c] {f : Fld} {v : Nat} {s : State} (hS : Steady z₀ s) : Steady z₀ (putIf c f v s) := by
  unfold putIf; simp (maxDischargeDepth := 99) [hS]
@[simp] theorem bump_steady {f : Fld} {s : State} (hS : Steady z₀ s) : Steady z₀ (bump f s) := by
  unfold bump; simp (maxDischargeDepth := 99) [hS]
@[simp] theorem bumpSat_steady {f : Fld} {s : State} (hS : Steady z₀ s) : Steady z₀ (bumpSat f s) := by
  unfold bumpSat; simp (maxDischargeDepth := 99) [hS]
@[simp] theorem putBit_steady {f : Fld} {i : Nat} {b : Bool} {s : State} (hS : Steady z₀ s) : Steady z₀ (putBit f i b s) := by
  unfold putBit; simp (maxDischargeDepth := 99) [hS]
@[simp] theorem setAct_steady {a : Nat} {r : ActSt} {s : State} (hS : Steady z₀ s) : Steady z₀ (setAct a r s) := by
  unfold setAct; simp (maxDischargeDepth := 99) [hS]
@[simp] theorem setCe_steady {e : Nat} {r : EngSt} {s : State} (hS : Steady z₀ s) : Steady z₀ (setCe e r s) := by
  unfold setCe; simp (maxDischargeDepth := 99) [hS]
@[simp] theorem setStg_steady {l : Nat} {r : StgSt} {s : State} (hS : Steady z₀ s) : Steady z₀ (setStg l r s) := by
  unfold setStg; simp (maxDischargeDepth := 99) [hS]
@[simp] theorem setAsx_steady {h : Nat} {r : AsxSt} {s : State} (hS : Steady z₀ s) : Steady z₀ (setAsx h r s) := by
  unfold setAsx; simp (maxDischargeDepth := 99) [hS]
@[simp] theorem setHch_steady {n : Nat} {r : HchSt} {s : State} (hS : Steady z₀ s) : Steady z₀ (setHch n r s) := by
  unfold setHch; simp (maxDischargeDepth := 99) [hS]
@[simp] theorem setHlk_steady {l : Nat} {r : HlkSt} {s : State} (hS : Steady z₀ s) : Steady z₀ (setHlk l r s) := by
  unfold setHlk; simp (maxDischargeDepth := 99) [hS]
@[simp] theorem raise_steady {src : Nat} {s : State} (hS : Steady z₀ s) : Steady z₀ (raise src s) := by
  unfold raise; simp (maxDischargeDepth := 99) [hS]
@[simp] theorem putLine_steady {f : Fld} {v : Nat} {s : State} (hS : Steady z₀ s) : Steady z₀ (putLine f v s) := by
  unfold putLine; simp (maxDischargeDepth := 99) [hS]
@[simp] theorem writeField_steady {lkd : Bool} {word : Nat} {p : Fld × Access} {s : State} (hS : Steady z₀ s) : Steady z₀ (writeField lkd word p s) := by
  unfold writeField; split <;> simp (maxDischargeDepth := 99) +contextual [hS, steady_foldl]
@[simp] theorem writeWord_steady {addr word : Nat} {s : State} (hS : Steady z₀ s) : Steady z₀ (writeWord addr word s) := by
  unfold writeWord; simp (maxDischargeDepth := 99) +contextual [hS, steady_foldl]
@[simp] theorem postRec_steady {r : EvRec} {s : State} (hS : Steady z₀ s) : Steady z₀ (postRec r s) := by
  unfold postRec; simp (maxDischargeDepth := 99) [hS]
@[simp] theorem post_steady {code unit : Nat} {payload : List Nat} {s : State} (hS : Steady z₀ s) : Steady z₀ (post code unit payload s) := by
  unfold post; simp (maxDischargeDepth := 99) [hS]
@[simp] theorem raisePost_steady {src unit : Nat} {payload : List Nat} {s : State} (hS : Steady z₀ s) : Steady z₀ (raisePost src unit payload s) := by
  unfold raisePost; simp (maxDischargeDepth := 99) [hS]
@[simp] theorem postReg_steady {f : Fld} {unit : Nat} {s : State} (hS : Steady z₀ s) : Steady z₀ (postReg f unit s) := by
  unfold postReg; simp (maxDischargeDepth := 99) [hS]
@[simp] theorem postNone_steady {block unit : Nat} {s : State} (hS : Steady z₀ s) : Steady z₀ (postNone block unit s) := by
  unfold postNone; simp (maxDischargeDepth := 99) [hS]
@[simp] theorem linePost_steady {src : Nat} {f : Fld} {v unit : Nat} {payload : List Nat} {s : State} (hS : Steady z₀ s) : Steady z₀ (linePost src f v unit payload s) := by
  unfold linePost; simp (maxDischargeDepth := 99) [hS]
@[simp] theorem promoted_steady {inv : Fld} {s : State} (hS : Steady z₀ s) : Steady z₀ (promoted inv s) := by
  unfold promoted; simp (maxDischargeDepth := 99) [hS]
@[simp] theorem memPut_steady {a n v : Nat} {s : State} (hS : Steady z₀ s) : Steady z₀ (memPut a n v s) := by
  unfold memPut; simp (maxDischargeDepth := 99) [hS]
@[simp] theorem resetDomain_steady {d : Nat} {s : State} (hS : Steady z₀ s) : Steady z₀ (resetDomain d s) := by
  unfold resetDomain; simp (maxDischargeDepth := 99) [hS]

/-! Arch -/

@[simp] theorem busError_steady {master addr cause : Nat} {write : Bool} {s : State} (hS : Steady z₀ s) : Steady z₀ (busError master addr cause write s) := by
  unfold busError; simp (maxDischargeDepth := 99) [hS]
@[simp] theorem respond_steady {r : BusResp} {s : State} (hS : Steady z₀ s) : Steady z₀ (respond r s) := by
  unfold respond; simp (maxDischargeDepth := 99) [hS]
@[simp] theorem latchUpper_steady {master addr : Nat} {s : State} (hS : Steady z₀ s) : Steady z₀ (latchUpper master addr s) := by
  unfold latchUpper; split <;> simp (maxDischargeDepth := 99) +contextual [hS, steady_foldl]
@[simp] theorem pairedRead_steady {master addr : Nat} {s : State} (hS : Steady z₀ s) : Steady z₀ (pairedRead master addr s).2 := by
  unfold pairedRead; split <;> simp (maxDischargeDepth := 99) +contextual [hS, steady_foldl]
@[simp] theorem execPairedRegisterReadLatch_steady {master addr : Nat} {s : State} (hS : Steady z₀ s) : SteadyOut z₀ (execPairedRegisterReadLatch master addr s) := by
  unfold execPairedRegisterReadLatch; split <;> simp (maxDischargeDepth := 99) +contextual [hS, steady_foldl]
@[simp] theorem claim_steady {ctx : Nat} {s : State} (hS : Steady z₀ s) : Steady z₀ (claim ctx s) := by
  unfold claim; split <;> simp (maxDischargeDepth := 99) +contextual [hS, steady_foldl]
@[simp] theorem execIrqClaim_steady {ctx : Nat} {s : State} (hS : Steady z₀ s) : SteadyOut z₀ (execIrqClaim ctx s) := by
  unfold execIrqClaim; simp (maxDischargeDepth := 99) [hS]
@[simp] theorem done_steady {ctx src : Nat} {s : State} (hS : Steady z₀ s) : Steady z₀ (done ctx src s) := by
  unfold done; simp (maxDischargeDepth := 99) [hS]
@[simp] theorem execIrqDone_steady {ctx src : Nat} {s : State} (hS : Steady z₀ s) : SteadyOut z₀ (execIrqDone ctx src s) := by
  unfold execIrqDone; simp (maxDischargeDepth := 99) [hS]
@[simp] theorem redirect_steady {s : State} {src : Nat} (hS : Steady z₀ s) : Steady z₀ (redirect s src) := by
  unfold redirect; simp (maxDischargeDepth := 99) [hS]
@[simp] theorem redirectAll_steady {s : State} (hS : Steady z₀ s) : Steady z₀ (redirectAll s) := by
  unfold redirectAll; simp (maxDischargeDepth := 99) +contextual [hS, steady_foldl]
@[simp] theorem routeWritten_steady {src value : Nat} {s : State} (hS : Steady z₀ s) : Steady z₀ (routeWritten src value s) := by
  unfold routeWritten; simp (maxDischargeDepth := 99) [hS]
@[simp] theorem execIrqRouteWrite_steady {src value : Nat} {s : State} (hS : Steady z₀ s) : SteadyOut z₀ (execIrqRouteWrite src value s) := by
  unfold execIrqRouteWrite; simp (maxDischargeDepth := 99) [hS]
@[simp] theorem calrefLost_steady {s : State} (hS : Steady z₀ s) : Steady z₀ (calrefLost s) := by
  unfold calrefLost; simp (maxDischargeDepth := 99) [hS]
@[simp] theorem execCalrefGateEnd_steady {ppm : Nat} {s : State} (hS : Steady z₀ s) : SteadyOut z₀ (execCalrefGateEnd ppm s) := by
  unfold execCalrefGateEnd; simp (maxDischargeDepth := 99) [hS]

/-! Engines -/

@[simp] theorem presetMonitors_steady {e : Nat} {p : Program} {s : State} (hS : Steady z₀ s) : Steady z₀ (presetMonitors e p s) := by
  unfold presetMonitors; simp (maxDischargeDepth := 99) +contextual [hS, steady_foldl]
@[simp] theorem loadProgram_steady {s : State} {p : Program} (hS : Steady z₀ s) : Steady z₀ (loadProgram s p) := by
  unfold loadProgram; simp (maxDischargeDepth := 99) [hS]
@[simp] theorem loadPrograms_steady {l : List Program} {s : State} (hS : Steady z₀ s) : Steady z₀ (loadPrograms l s) := by
  unfold loadPrograms; simp (maxDischargeDepth := 99) +contextual [hS, steady_foldl]
@[simp] theorem kWrite_steady {k : Nat} {s : State} (hS : Steady z₀ s) : Steady z₀ (kWrite k s) := by
  unfold kWrite; simp (maxDischargeDepth := 99) [hS]
@[simp] theorem hecel_steady {e op pred a c n : Nat} {f : EngSt → EngSt} {s : State} (hS : Steady z₀ s) : SteadyOut z₀ (hecel e op pred a c n f s) := by
  unfold hecel; simp (maxDischargeDepth := 99) [hS]
@[simp] theorem execHecelNop_steady {e pred a c : Nat} {s : State} (hS : Steady z₀ s) : SteadyOut z₀ (execHecelNop e pred a c s) := by
  unfold execHecelNop; simp (maxDischargeDepth := 99) [hS]
@[simp] theorem execHecelClr_steady {e pred a c : Nat} {s : State} (hS : Steady z₀ s) : SteadyOut z₀ (execHecelClr e pred a c s) := by
  unfold execHecelClr; simp (maxDischargeDepth := 99) [hS]
@[simp] theorem macOp_steady {neg : Bool} {op e pred a c : Nat} {s : State} (hS : Steady z₀ s) : SteadyOut z₀ (macOp neg op e pred a c s) := by
  unfold macOp; simp (maxDischargeDepth := 99) [hS]
@[simp] theorem execHecelMac_steady {e pred a c : Nat} {s : State} (hS : Steady z₀ s) : SteadyOut z₀ (execHecelMac e pred a c s) := by
  unfold execHecelMac; simp (maxDischargeDepth := 99) [hS]
@[simp] theorem execHecelMsu_steady {e pred a c : Nat} {s : State} (hS : Steady z₀ s) : SteadyOut z₀ (execHecelMsu e pred a c s) := by
  unfold execHecelMsu; simp (maxDischargeDepth := 99) [hS]
@[simp] theorem execHecelLda_steady {e pred a c : Nat} {s : State} (hS : Steady z₀ s) : SteadyOut z₀ (execHecelLda e pred a c s) := by
  unfold execHecelLda; simp (maxDischargeDepth := 99) [hS]
@[simp] theorem execHecelSt_steady {e pred a c : Nat} {s : State} (hS : Steady z₀ s) : SteadyOut z₀ (execHecelSt e pred a c s) := by
  unfold execHecelSt; simp (maxDischargeDepth := 99) [hS]
@[simp] theorem execHecelOut_steady {e pred a c : Nat} {s : State} (hS : Steady z₀ s) : SteadyOut z₀ (execHecelOut e pred a c s) := by
  unfold execHecelOut; simp (maxDischargeDepth := 99) [hS]
@[simp] theorem execHecelLim_steady {e pred a c : Nat} {s : State} (hS : Steady z₀ s) : SteadyOut z₀ (execHecelLim e pred a c s) := by
  unfold execHecelLim; simp (maxDischargeDepth := 99) [hS]
@[simp] theorem tfetchTake_steady {e addr : Nat} {s : State} (hS : Steady z₀ s) : Steady z₀ (tfetchTake e addr s) := by
  unfold tfetchTake; split <;> simp (maxDischargeDepth := 99) +contextual [hS, steady_foldl]
@[simp] theorem execHecelTfetch_steady {e pred a c : Nat} {inTime : Bool} {s : State} (hS : Steady z₀ s) : SteadyOut z₀ (execHecelTfetch e pred a c inTime s) := by
  unfold execHecelTfetch; simp (maxDischargeDepth := 99) [hS]
@[simp] theorem execTfetchReturn_steady {e cycles : Nat} {s : State} (hS : Steady z₀ s) : SteadyOut z₀ (execTfetchReturn e cycles s) := by
  unfold execTfetchReturn; split <;> simp (maxDischargeDepth := 99) +contextual [hS, steady_foldl]
@[simp] theorem execHecelSetf_steady {e pred a c : Nat} {s : State} (hS : Steady z₀ s) : SteadyOut z₀ (execHecelSetf e pred a c s) := by
  unfold execHecelSetf; simp (maxDischargeDepth := 99) [hS]
@[simp] theorem execHecelEnd_steady {e pred a c : Nat} {s : State} (hS : Steady z₀ s) : SteadyOut z₀ (execHecelEnd e pred a c s) := by
  unfold execHecelEnd; simp (maxDischargeDepth := 99) [hS]
@[simp] theorem execHecelReservedOp_steady {e op pred a c : Nat} {s : State} (hS : Steady z₀ s) : SteadyOut z₀ (execHecelReservedOp e op pred a c s) := by
  unfold execHecelReservedOp; simp (maxDischargeDepth := 99) [hS]
@[simp] theorem execProgramOverrun_steady {e : Nat} {s : State} (hS : Steady z₀ s) : SteadyOut z₀ (execProgramOverrun e s) := by
  unfold execProgramOverrun; simp (maxDischargeDepth := 99) [hS]
@[simp] theorem execMissLimitReached_steady {e j : Nat} {s : State} (hS : Steady z₀ s) : SteadyOut z₀ (execMissLimitReached e j s) := by
  unfold execMissLimitReached; simp (maxDischargeDepth := 99) [hS]
@[simp] theorem monitorTrip_steady {e m : Nat} {s : State} (hS : Steady z₀ s) : Steady z₀ (monitorTrip e m s) := by
  unfold monitorTrip; simp (maxDischargeDepth := 99) [hS]
@[simp] theorem execSwapRequest_steady {e cycle : Nat} {s : State} (hS : Steady z₀ s) : SteadyOut z₀ (execSwapRequest e cycle s) := by
  unfold execSwapRequest; simp (maxDischargeDepth := 99) [hS]
@[simp] theorem inactiveWrite_steady {e word value : Nat} {s : State} (hS : Steady z₀ s) : Steady z₀ (inactiveWrite e word value s) := by
  unfold inactiveWrite; simp (maxDischargeDepth := 99) [hS]
@[simp] theorem execCoefWindowWrite_steady {e word value cycle : Nat} {s : State} (hS : Steady z₀ s) : SteadyOut z₀ (execCoefWindowWrite e word value cycle s) := by
  unfold execCoefWindowWrite; simp (maxDischargeDepth := 99) [hS]
@[simp] theorem castle_steady {e : Nat} {s : State} (hS : Steady z₀ s) : Steady z₀ (castle e s) := by
  unfold castle; simp (maxDischargeDepth := 99) +contextual [hS, steady_foldl]
@[simp] theorem cycleZero_steady {e : Nat} {s : State} (hS : Steady z₀ s) : Steady z₀ (cycleZero e s) := by
  unfold cycleZero; simp (maxDischargeDepth := 99) [hS]
@[simp] theorem targetShown_steady {e : Nat} {s : State} (hS : Steady z₀ s) : Steady z₀ (targetShown e s) := by
  unfold targetShown; simp (maxDischargeDepth := 99) [hS]
@[simp] theorem wedgeLatch_steady {e : Nat} {s : State} (hS : Steady z₀ s) : Steady z₀ (wedgeLatch e s) := by
  unfold wedgeLatch; dsimp only; repeat' split
  all_goals simp (maxDischargeDepth := 99) +contextual [hS, steady_foldl]
@[simp] theorem execWedgeLatch_steady {s : State} (hS : Steady z₀ s) : SteadyOut z₀ (execWedgeLatch s) := by
  unfold execWedgeLatch; simp (maxDischargeDepth := 99) +contextual [hS, steady_foldl]
@[simp] theorem commitEngine_steady {s : State} {e : Nat} (hS : Steady z₀ s) : Steady z₀ (commitEngine s e) := by
  unfold commitEngine; simp (maxDischargeDepth := 99) [hS]
@[simp] theorem engineOutputs_steady {s : State} (hS : Steady z₀ s) : Steady z₀ (engineOutputs s) := by
  unfold engineOutputs; simp (maxDischargeDepth := 99) +contextual [hS, steady_foldl]
@[simp] theorem failEngine_steady {e : Nat} {s : State} (hS : Steady z₀ s) : Steady z₀ (failEngine e s) := by
  unfold failEngine; simp (maxDischargeDepth := 99) [hS]
@[simp] theorem promoteCe4_steady {s : State} (hS : Steady z₀ s) : Steady z₀ (promoteCe4 s) := by
  unfold promoteCe4; simp (maxDischargeDepth := 99) [hS]
@[simp] theorem engineBoundary_steady {s : State} (hS : Steady z₀ s) : Steady z₀ (engineBoundary s) := by
  unfold engineBoundary; simp (maxDischargeDepth := 99) +contextual [hS, steady_foldl]
@[simp] theorem spareWritten_steady {value : Nat} {s : State} (hS : Steady z₀ s) : Steady z₀ (spareWritten value s) := by
  unfold spareWritten; simp (maxDischargeDepth := 99) [hS]
@[simp] theorem arrive_steady {e j : Nat} {v : Int} {s : State} (hS : Steady z₀ s) : Steady z₀ (arrive e j v s) := by
  unfold arrive; simp (maxDischargeDepth := 99) [hS]
@[simp] theorem arriveWedge_steady {e : Nat} {l : AMap Int} {s : State} (hS : Steady z₀ s) : Steady z₀ (arriveWedge e l s) := by
  unfold arriveWedge; simp (maxDischargeDepth := 99) [hS]
@[simp] theorem arriveLate_steady {e : Nat} {s : State} (hS : Steady z₀ s) : Steady z₀ (arriveLate e s) := by
  unfold arriveLate; simp (maxDischargeDepth := 99) [hS]

/-! Lanes -/

@[simp] theorem setLink_steady {l : Nat} {r : HlkSt} {s : State} (hS : Steady z₀ s) : Steady z₀ (setLink l r s) := by
  unfold setLink; simp (maxDischargeDepth := 99) [hS]
@[simp] theorem carried_steady {l : Nat} {b : List (Bool × Nat)} {s : State} (hS : Steady z₀ s) : Steady z₀ (carried l b s) := by
  unfold carried; simp (maxDischargeDepth := 99) [hS]
@[simp] theorem sendBlocks_steady {l : Nat} {blocks : List Nat} {s : State} (hS : Steady z₀ s) : Steady z₀ (sendBlocks l blocks s) := by
  unfold sendBlocks; simp (maxDischargeDepth := 99) [hS]
@[simp] theorem unlockLane_steady {l p : Nat} {s : State} (hS : Steady z₀ s) : Steady z₀ (unlockLane l p s) := by
  unfold unlockLane; simp (maxDischargeDepth := 99) [hS]
@[simp] theorem laneWord_steady {l p w : Nat} {s : State} (hS : Steady z₀ s) : Steady z₀ (laneWord l p w s) := by
  unfold laneWord; simp (maxDischargeDepth := 99) [hS]

/-! Permits -/

@[simp] theorem asxGo_steady {h new : Nat} {s : State} (hS : Steady z₀ s) : Steady z₀ (asxGo h new s) := by
  unfold asxGo; simp (maxDischargeDepth := 99) [hS]
@[simp] theorem asxGoIf_steady {c : Nat → Bool} {h new : Nat} {s : State} (hS : Steady z₀ s) : Steady z₀ (asxGoIf c h new s) := by
  unfold asxGoIf; simp (maxDischargeDepth := 99) [hS]
@[simp] theorem asxHardOff_steady {h : Nat} {s : State} (hS : Steady z₀ s) : Steady z₀ (asxHardOff h s) := by
  unfold asxHardOff; simp (maxDischargeDepth := 99) [hS]
@[simp] theorem asxOff_steady {h : Nat} {s : State} (hS : Steady z₀ s) : Steady z₀ (asxOff h s) := by
  unfold asxOff; simp (maxDischargeDepth := 99) [hS]
@[simp] theorem markUnwritten_steady {n : Nat} {s : State} (hS : Steady z₀ s) : Steady z₀ (markUnwritten n s) := by
  unfold markUnwritten; simp (maxDischargeDepth := 99) [hS]
@[simp] theorem gateOff_steady {a k : Nat} {s : State} (hS : Steady z₀ s) : Steady z₀ (gateOff a k s) := by
  unfold gateOff; simp (maxDischargeDepth := 99) [hS]
@[simp] theorem permitDrop_steady {a k cause : Nat} {peak : Int} {s : State} (hS : Steady z₀ s) : Steady z₀ (permitDrop a k cause peak s) := by
  unfold permitDrop; simp (maxDischargeDepth := 99) [hS]
@[simp] theorem permitFall_steady {a k : Nat} {hard : Bool} {cause : Nat} {peak : Int} {s : State} (hS : Steady z₀ s) : Steady z₀ (permitFall a k hard cause peak s) := by
  unfold permitFall; simp (maxDischargeDepth := 99) [hS]
@[simp] theorem permitsFall_steady {a : Nat} {hard : Bool} {cause : Nat} {s : State} (hS : Steady z₀ s) : Steady z₀ (permitsFall a hard cause s) := by
  unfold permitsFall; simp (maxDischargeDepth := 99) [hS]
@[simp] theorem allPermitsFall_steady {hard : Bool} {s : State} (hS : Steady z₀ s) : Steady z₀ (allPermitsFall hard s) := by
  unfold allPermitsFall; simp (maxDischargeDepth := 99) [hS]
@[simp] theorem readyFall_steady {h : Nat} {s : State} (hS : Steady z₀ s) : Steady z₀ (readyFall h s) := by
  unfold readyFall; simp (maxDischargeDepth := 99) [hS]
@[simp] theorem fallLater_steady {hard : Bool} {a : Nat} {s : State} (hS : Steady z₀ s) : Steady z₀ (fallLater hard a s) := by
  unfold fallLater; simp (maxDischargeDepth := 99) [hS]
@[simp] theorem allFallLater_steady {hard : Bool} {s : State} (hS : Steady z₀ s) : Steady z₀ (allFallLater hard s) := by
  unfold allFallLater; simp (maxDischargeDepth := 99) [hS]
@[simp] theorem showLog_steady {a : Nat} {s : State} (hS : Steady z₀ s) : Steady z₀ (showLog a s) := by
  unfold showLog; split <;> simp (maxDischargeDepth := 99) +contextual [hS, steady_foldl]
@[simp] theorem pushLog_steady {a : Nat} {e : WusEntry} {s : State} (hS : Steady z₀ s) : Steady z₀ (pushLog a e s) := by
  unfold pushLog; simp (maxDischargeDepth := 99) [hS]
@[simp] theorem endEpisode_steady {a k : Nat} {s : State} (hS : Steady z₀ s) : Steady z₀ (endEpisode a k s) := by
  unfold endEpisode; dsimp only; repeat' split
  all_goals simp (maxDischargeDepth := 99) +contextual [hS, steady_foldl]
@[simp] theorem permitRise_steady {a k : Nat} {s : State} (hS : Steady z₀ s) : Steady z₀ (permitRise a k s) := by
  unfold permitRise; simp (maxDischargeDepth := 99) [hS]
@[simp] theorem requestRetract_steady {s : State} (hS : Steady z₀ s) : Steady z₀ (requestRetract s) := by
  unfold requestRetract; simp (maxDischargeDepth := 99) [hS]
@[simp] theorem retractEnds_steady {s : State} (hS : Steady z₀ s) : Steady z₀ (retractEnds s) := by
  unfold retractEnds; simp (maxDischargeDepth := 99) [hS]
@[simp] theorem retractOver_steady {s : State} (hS : Steady z₀ s) : Steady z₀ (retractOver s) := by
  unfold retractOver; simp (maxDischargeDepth := 99) [hS]

/-! Actuators -/

@[simp] theorem headsOff_steady {a : Nat} {s : State} (hS : Steady z₀ s) : Steady z₀ (headsOff a s) := by
  unfold headsOff; simp (maxDischargeDepth := 99) +contextual [hS, steady_foldl]
@[simp] theorem leaveFollow_steady {a : Nat} {s : State} (hS : Steady z₀ s) : Steady z₀ (leaveFollow a s) := by
  unfold leaveFollow; simp (maxDischargeDepth := 99) [hS]
@[simp] theorem actEntry_steady {a new : Nat} {s : State} (hS : Steady z₀ s) : Steady z₀ (actEntry a new s) := by
  unfold actEntry; simp (maxDischargeDepth := 99) [hS]
@[simp] theorem actGo_steady {a new : Nat} {s : State} (hS : Steady z₀ s) : Steady z₀ (actGo a new s) := by
  unfold actGo; simp (maxDischargeDepth := 99) [hS]
@[simp] theorem unloaded_steady {a : Nat} {s : State} (hS : Steady z₀ s) : Steady z₀ (unloaded a s) := by
  unfold unloaded; simp (maxDischargeDepth := 99) [hS]
@[simp] theorem execSeekGo_steady {a value : Nat} {s : State} (hS : Steady z₀ s) : SteadyOut z₀ (execSeekGo a value s) := by
  unfold execSeekGo; simp (maxDischargeDepth := 99) [hS]
@[simp] theorem pairFallback_steady {a cause : Nat} {s : State} (hS : Steady z₀ s) : Steady z₀ (pairFallback a cause s) := by
  unfold pairFallback; simp (maxDischargeDepth := 99) [hS]
@[simp] theorem assistGo_steady {write : Bool} {s : State} {h : Nat} (hS : Steady z₀ s) : Steady z₀ (assistGo write s h) := by
  unfold assistGo; simp (maxDischargeDepth := 99) [hS]
@[simp] theorem pairEnds_steady {a : Nat} {s : State} (hS : Steady z₀ s) : Steady z₀ (pairEnds a s) := by
  unfold pairEnds; simp (maxDischargeDepth := 99) [hS]
@[simp] theorem takeSeek_steady {a : Nat} {s : State} (hS : Steady z₀ s) : Steady z₀ (takeSeek a s) := by
  unfold takeSeek; simp (maxDischargeDepth := 99) +contextual [hS, steady_foldl]
@[simp] theorem execSeekTake_steady {a : Nat} {s : State} (hS : Steady z₀ s) : SteadyOut z₀ (execSeekTake a s) := by
  unfold execSeekTake; simp (maxDischargeDepth := 99) [hS]
@[simp] theorem wedgeRegs_steady {a : Nat} {w : WedgeObs} {miss1 miss2 two : Bool} {s : State} (hS : Steady z₀ s) : Steady z₀ (wedgeRegs a w miss1 miss2 two s) := by
  unfold wedgeRegs; simp (maxDischargeDepth := 99) [hS]
@[simp] theorem wedgeFall_steady {a k : Nat} {missed : Bool} {err : Int} {s : State} (hS : Steady z₀ s) : Steady z₀ (wedgeFall a k missed err s) := by
  unfold wedgeFall; simp (maxDischargeDepth := 99) [hS]
@[simp] theorem wedgeRise_steady {a k : Nat} {missed : Bool} {err : Int} {s : State} (hS : Steady z₀ s) : Steady z₀ (wedgeRise a k missed err s) := by
  unfold wedgeRise; simp (maxDischargeDepth := 99) [hS]
@[simp] theorem flagOffTrack_steady {a k : Nat} {err : Int} {s : State} (hS : Steady z₀ s) : Steady z₀ (flagOffTrack a k err s) := by
  unfold flagOffTrack; simp (maxDischargeDepth := 99) [hS]
@[simp] theorem pairRows_steady {a : Nat} {s : State} (hS : Steady z₀ s) : Steady z₀ (pairRows a s) := by
  unfold pairRows; simp (maxDischargeDepth := 99) [hS]
@[simp] theorem pairWatch_steady {a : Nat} {trackEnd : Bool} {s : State} (hS : Steady z₀ s) : Steady z₀ (pairWatch a trackEnd s) := by
  unfold pairWatch; simp (maxDischargeDepth := 99) [hS]
@[simp] theorem holdoff_steady {a : Nat} {s : State} (hS : Steady z₀ s) : Steady z₀ (holdoff a s) := by
  unfold holdoff; simp (maxDischargeDepth := 99) [hS]
@[simp] theorem wedgeState_steady {a : Nat} {miss1 : Bool} {e1 : Int} {s : State} (hS : Steady z₀ s) : Steady z₀ (wedgeState a miss1 e1 s) := by
  unfold wedgeState; simp (maxDischargeDepth := 99) [hS]
@[simp] theorem feedLock_steady {err : Int} {s : State} (hS : Steady z₀ s) : Steady z₀ (feedLock err s) := by
  unfold feedLock; simp (maxDischargeDepth := 99) [hS]
@[simp] theorem missLock_steady {s : State} (hS : Steady z₀ s) : Steady z₀ (missLock s) := by
  unfold missLock; simp (maxDischargeDepth := 99) [hS]
@[simp] theorem spindleWedge_steady {a : Nat} {miss1 : Bool} {endNs : Int} {s : State} (hS : Steady z₀ s) : Steady z₀ (spindleWedge a miss1 endNs s) := by
  unfold spindleWedge; simp (maxDischargeDepth := 99) [hS]
@[simp] theorem wedgeActs_steady {a : Nat} {two miss1 miss2 : Bool} {e1 e2 : Int} {trackEnd : Bool} {s : State} (hS : Steady z₀ s) : Steady z₀ (wedgeActs a two miss1 miss2 e1 e2 trackEnd s) := by
  unfold wedgeActs; simp (maxDischargeDepth := 99) [hS]
@[simp] theorem wedgeDemod_steady {a : Nat} {w : WedgeObs} {s : State} (hS : Steady z₀ s) : Steady z₀ (wedgeDemod a w s) := by
  unfold wedgeDemod; simp (maxDischargeDepth := 99) [hS]
@[simp] theorem execWedgeDemodComplete_steady {a : Nat} {w : WedgeObs} {s : State} (hS : Steady z₀ s) : SteadyOut z₀ (execWedgeDemodComplete a w s) := by
  unfold execWedgeDemodComplete; simp (maxDischargeDepth := 99) [hS]
@[simp] theorem startLoad_steady {a head : Nat} {s : State} (hS : Steady z₀ s) : Steady z₀ (startLoad a head s) := by
  unfold startLoad; simp (maxDischargeDepth := 99) [hS]
@[simp] theorem takeHeldLoad_steady {a : Nat} {s : State} (hS : Steady z₀ s) : Steady z₀ (takeHeldLoad a s) := by
  unfold takeHeldLoad; simp (maxDischargeDepth := 99) [hS]
@[simp] theorem holdLoad_steady {a : Nat} {s : State} (hS : Steady z₀ s) : Steady z₀ (holdLoad a s) := by
  unfold holdLoad; simp (maxDischargeDepth := 99) [hS]
@[simp] theorem execActLoad_steady {a : Nat} {s : State} (hS : Steady z₀ s) : SteadyOut z₀ (execActLoad a s) := by
  unfold execActLoad; simp (maxDischargeDepth := 99) [hS]
@[simp] theorem startUnload_steady {lost : Bool} {a : Nat} {s : State} (hS : Steady z₀ s) : Steady z₀ (startUnload lost a s) := by
  unfold startUnload; simp (maxDischargeDepth := 99) [hS]
@[simp] theorem loadAcquired_steady {a : Nat} {s : State} (hS : Steady z₀ s) : Steady z₀ (loadAcquired a s) := by
  unfold loadAcquired; simp (maxDischargeDepth := 99) [hS]
@[simp] theorem execActLoadAcquired_steady {a : Nat} {s : State} (hS : Steady z₀ s) : SteadyOut z₀ (execActLoadAcquired a s) := by
  unfold execActLoadAcquired; simp (maxDischargeDepth := 99) [hS]
@[simp] theorem execActLoadTimeout_steady {a : Nat} {s : State} (hS : Steady z₀ s) : SteadyOut z₀ (execActLoadTimeout a s) := by
  unfold execActLoadTimeout; simp (maxDischargeDepth := 99) [hS]
@[simp] theorem execActSettleDone_steady {a : Nat} {s : State} (hS : Steady z₀ s) : SteadyOut z₀ (execActSettleDone a s) := by
  unfold execActSettleDone; simp (maxDischargeDepth := 99) [hS]
@[simp] theorem execActSettleTimeout_steady {a : Nat} {s : State} (hS : Steady z₀ s) : SteadyOut z₀ (execActSettleTimeout a s) := by
  unfold execActSettleTimeout; simp (maxDischargeDepth := 99) [hS]
@[simp] theorem execActReseekEntry_steady {a : Nat} {s : State} (hS : Steady z₀ s) : SteadyOut z₀ (execActReseekEntry a s) := by
  unfold execActReseekEntry; simp (maxDischargeDepth := 99) [hS]
@[simp] theorem execActReseekFault_steady {a : Nat} {s : State} (hS : Steady z₀ s) : SteadyOut z₀ (execActReseekFault a s) := by
  unfold execActReseekFault; simp (maxDischargeDepth := 99) [hS]
@[simp] theorem execActUnload_steady {a : Nat} {s : State} (hS : Steady z₀ s) : SteadyOut z₀ (execActUnload a s) := by
  unfold execActUnload; simp (maxDischargeDepth := 99) [hS]
@[simp] theorem parked_steady {a : Nat} {s : State} (hS : Steady z₀ s) : Steady z₀ (parked a s) := by
  unfold parked; simp (maxDischargeDepth := 99) [hS]
@[simp] theorem execActParked_steady {a : Nat} {s : State} (hS : Steady z₀ s) : SteadyOut z₀ (execActParked a s) := by
  unfold execActParked; simp (maxDischargeDepth := 99) [hS]
@[simp] theorem actReturn_steady {words : List Nat} {a : Nat} {s : State} (hS : Steady z₀ s) : Steady z₀ (actReturn words a s) := by
  unfold actReturn; simp (maxDischargeDepth := 99) [hS]
@[simp] theorem execActUnloadTimeout_steady {a : Nat} {s : State} (hS : Steady z₀ s) : SteadyOut z₀ (execActUnloadTimeout a s) := by
  unfold execActUnloadTimeout; simp (maxDischargeDepth := 99) [hS]
@[simp] theorem execActRetracted_steady {a : Nat} {s : State} (hS : Steady z₀ s) : SteadyOut z₀ (execActRetracted a s) := by
  unfold execActRetracted; simp (maxDischargeDepth := 99) [hS]
@[simp] theorem execActRetractDone_steady {a : Nat} {s : State} (hS : Steady z₀ s) : SteadyOut z₀ (execActRetractDone a s) := by
  unfold execActRetractDone; simp (maxDischargeDepth := 99) [hS]
@[simp] theorem execActClr_steady {a : Nat} {s : State} (hS : Steady z₀ s) : SteadyOut z₀ (execActClr a s) := by
  unfold execActClr; simp (maxDischargeDepth := 99) [hS]
@[simp] theorem execActUnpair_steady {a : Nat} {s : State} (hS : Steady z₀ s) : SteadyOut z₀ (execActUnpair a s) := by
  unfold execActUnpair; simp (maxDischargeDepth := 99) [hS]
@[simp] theorem execActLowSpeedRetract_steady {a : Nat} {s : State} (hS : Steady z₀ s) : SteadyOut z₀ (execActLowSpeedRetract a s) := by
  unfold execActLowSpeedRetract; simp (maxDischargeDepth := 99) [hS]
@[simp] theorem popLog_steady {a : Nat} {s : State} (hS : Steady z₀ s) : Steady z₀ (popLog a s) := by
  unfold popLog; simp (maxDischargeDepth := 99) [hS]
@[simp] theorem wusRead_steady {a master : Nat} {s : State} (hS : Steady z₀ s) : Steady z₀ (wusRead a master s) := by
  unfold wusRead; simp (maxDischargeDepth := 99) [hS]
@[simp] theorem execWusLogRead_steady {a master : Nat} {s : State} (hS : Steady z₀ s) : SteadyOut z₀ (execWusLogRead a master s) := by
  unfold execWusLogRead; simp (maxDischargeDepth := 99) [hS]
@[simp] theorem actOnSpindle_steady {new a : Nat} {s : State} (hS : Steady z₀ s) : Steady z₀ (actOnSpindle new a s) := by
  unfold actOnSpindle; simp (maxDischargeDepth := 99) [hS]

/-! Assist -/

@[simp] theorem asxTrip_steady {h cause : Nat} {s : State} (hS : Steady z₀ s) : Steady z₀ (asxTrip h cause s) := by
  unfold asxTrip; simp (maxDischargeDepth := 99) [hS]
@[simp] theorem contactTrip_steady {h : Nat} {s : State} (hS : Steady z₀ s) : Steady z₀ (contactTrip h s) := by
  unfold contactTrip; simp (maxDischargeDepth := 99) [hS]
@[simp] theorem execAssistTrip_steady {h cause : Nat} {s : State} (hS : Steady z₀ s) : SteadyOut z₀ (execAssistTrip h cause s) := by
  unfold execAssistTrip; simp (maxDischargeDepth := 99) [hS]
@[simp] theorem execHopStorm_steady {h : Nat} {s : State} (hS : Steady z₀ s) : SteadyOut z₀ (execHopStorm h s) := by
  unfold execHopStorm; simp (maxDischargeDepth := 99) [hS]
@[simp] theorem execAssistClr_steady {h : Nat} {s : State} (hS : Steady z₀ s) : SteadyOut z₀ (execAssistClr h s) := by
  unfold execAssistClr; simp (maxDischargeDepth := 99) [hS]
@[simp] theorem execAssistArmed_steady {h : Nat} {s : State} (hS : Steady z₀ s) : SteadyOut z₀ (execAssistArmed h s) := by
  unfold execAssistArmed; simp (maxDischargeDepth := 99) [hS]
@[simp] theorem execAssistHoldRequal_steady {h : Nat} {s : State} (hS : Steady z₀ s) : SteadyOut z₀ (execAssistHoldRequal h s) := by
  unfold execAssistHoldRequal; simp (maxDischargeDepth := 99) [hS]
@[simp] theorem execForceOffWrite_steady {h : Nat} {on : Bool} {s : State} (hS : Steady z₀ s) : SteadyOut z₀ (execForceOffWrite h on s) := by
  unfold execForceOffWrite; simp (maxDischargeDepth := 99) [hS]
@[simp] theorem storeBand_steady {h cur : Nat} {s : State} (hS : Steady z₀ s) : Steady z₀ (storeBand h cur s) := by
  unfold storeBand; simp (maxDischargeDepth := 99) [hS]
@[simp] theorem hopHold_steady {h : Nat} {s : State} (hS : Steady z₀ s) : Steady z₀ (hopHold h s) := by
  unfold hopHold; simp (maxDischargeDepth := 99) [hS]
@[simp] theorem hopNoted_steady {h : Nat} {s : State} (hS : Steady z₀ s) : Steady z₀ (hopNoted h s) := by
  unfold hopNoted; simp (maxDischargeDepth := 99) [hS]
@[simp] theorem hop_steady {h : Nat} {s : State} (hS : Steady z₀ s) : Steady z₀ (hop h s) := by
  unfold hop; simp (maxDischargeDepth := 99) [hS]
@[simp] theorem assistTempo_steady {a k : Nat} {s : State} (hS : Steady z₀ s) : Steady z₀ (assistTempo a k s) := by
  unfold assistTempo; simp (maxDischargeDepth := 99) [hS]
@[simp] theorem assistBoundary_steady {s : State} (hS : Steady z₀ s) : Steady z₀ (assistBoundary s) := by
  unfold assistBoundary; simp (maxDischargeDepth := 99) [hS]
@[simp] theorem assistOutput_steady {s : State} {h : Nat} (hS : Steady z₀ s) : Steady z₀ (assistOutput s h) := by
  unfold assistOutput; simp (maxDischargeDepth := 99) [hS]
@[simp] theorem retirePend_steady {h : Nat} {s : State} (hS : Steady z₀ s) : Steady z₀ (retirePend h s) := by
  unfold retirePend; simp (maxDischargeDepth := 99) [hS]
@[simp] theorem execRetireReq_steady {h : Nat} {s : State} (hS : Steady z₀ s) : SteadyOut z₀ (execRetireReq h s) := by
  unfold execRetireReq; simp (maxDischargeDepth := 99) [hS]
@[simp] theorem execRetireDone_steady {h : Nat} {s : State} (hS : Steady z₀ s) : SteadyOut z₀ (execRetireDone h s) := by
  unfold execRetireDone; simp (maxDischargeDepth := 99) [hS]
@[simp] theorem execIop0Write_steady {h value : Nat} {s : State} (hS : Steady z₀ s) : SteadyOut z₀ (execIop0Write h value s) := by
  unfold execIop0Write; simp (maxDischargeDepth := 99) [hS]
@[simp] theorem headroom_steady {h : Nat} {s : State} (hS : Steady z₀ s) : Steady z₀ (headroom h s) := by
  unfold headroom; simp (maxDischargeDepth := 99) [hS]
@[simp] theorem untrackedEpisode_steady {h : Nat} {s : State} (hS : Steady z₀ s) : Steady z₀ (untrackedEpisode h s) := by
  unfold untrackedEpisode; simp (maxDischargeDepth := 99) [hS]
@[simp] theorem assistLoaded_steady {s : State} {h : Nat} (hS : Steady z₀ s) : Steady z₀ (assistLoaded s h) := by
  unfold assistLoaded; simp (maxDischargeDepth := 99) [hS]
@[simp] theorem execAgingUpdate_steady {h : Nat} {s : State} (hS : Steady z₀ s) : SteadyOut z₀ (execAgingUpdate h s) := by
  unfold execAgingUpdate; simp (maxDischargeDepth := 99) [hS]

/-! Media -/

@[simp] theorem journal_steady {c : Change} {s : State} (hS : Steady z₀ s) : Steady z₀ (journal c s) := by
  unfold journal; simp (maxDischargeDepth := 99) [hS]
@[simp] theorem setZone_steady {z : Nat} {d : Zone} {s : State} (hS : Steady z₀ s) : Steady z₀ (setZone z d s) := by
  unfold setZone; simp (maxDischargeDepth := 99) [hS]
@[simp] theorem dropLine_steady {ns blk : Nat} {s : State} (hS : Steady z₀ s) : Steady z₀ (dropLine ns blk s) := by
  unfold dropLine; simp (maxDischargeDepth := 99) [hS]
@[simp] theorem countDirty_steady {s : State} (hS : Steady z₀ s) : Steady z₀ (countDirty s) := by
  unfold countDirty; simp (maxDischargeDepth := 99) [hS]
@[simp] theorem onMedia_steady {z p : Nat} {s : State} (hS : Steady z₀ s) : Steady z₀ (onMedia z p s) := by
  unfold onMedia; simp (maxDischargeDepth := 99) [hS]
@[simp] theorem noteEligible_steady {z : Nat} {s : State} (hS : Steady z₀ s) : Steady z₀ (noteEligible z s) := by
  unfold noteEligible; simp (maxDischargeDepth := 99) [hS]
@[simp] theorem noteAllEligible_steady {s : State} (hS : Steady z₀ s) : Steady z₀ (noteAllEligible s) := by
  unfold noteAllEligible; simp (maxDischargeDepth := 99) +contextual [hS, steady_foldl]
@[simp] theorem relist_steady {l : List Written} {s : State} (hS : Steady z₀ s) : Steady z₀ (relist l s) := by
  unfold relist; simp (maxDischargeDepth := 99) +contextual [hS, steady_foldl]
@[simp] theorem rewind_steady {n z p : Nat} {s : State} (hS : Steady z₀ s) : Steady z₀ (rewind n z p s) := by
  unfold rewind; simp (maxDischargeDepth := 99) [hS]

/-! SectorForm -/

@[simp] theorem sendPiece_steady {a k n wedge : Nat} {s : State} {p : Nat × Nat × List Bool} (hS : Steady z₀ s) : Steady z₀ (sendPiece a k n wedge s p) := by
  unfold sendPiece; simp (maxDischargeDepth := 99) [hS]
@[simp] theorem sendSector_steady {a k n zone idx info : Nat} {s : State} (hS : Steady z₀ s) : Steady z₀ (sendSector a k n zone idx info s) := by
  unfold sendSector; simp (maxDischargeDepth := 99) +contextual [hS, steady_foldl]

/-! HeadLink -/

@[simp] theorem execHeadLinkReturnFrame_steady {l : Nat} {blocks : List Nat} {late : Bool} {s : State} (hS : Steady z₀ s) : SteadyOut z₀ (execHeadLinkReturnFrame l blocks late s) := by
  unfold execHeadLinkReturnFrame; simp (maxDischargeDepth := 99) [hS]
@[simp] theorem feedStatus_steady {l k st : Nat} {s : State} (hS : Steady z₀ s) : Steady z₀ (feedStatus l k st s) := by
  unfold feedStatus; simp (maxDischargeDepth := 99) [hS]
@[simp] theorem latchFrame_steady {l : Nat} {f : List Nat} {s : State} (hS : Steady z₀ s) : Steady z₀ (latchFrame l f s) := by
  unfold latchFrame; dsimp only; repeat' split
  all_goals simp (maxDischargeDepth := 99) +contextual [hS, steady_foldl]
@[simp] theorem linkBoundary_steady {l : Nat} {s : State} (hS : Steady z₀ s) : Steady z₀ (linkBoundary l s) := by
  unfold linkBoundary; dsimp only; repeat' split
  all_goals simp (maxDischargeDepth := 99) +contextual [hS, steady_foldl]
@[simp] theorem ringWrite_steady {n pos samples : Nat} {s : State} (hS : Steady z₀ s) : Steady z₀ (ringWrite n pos samples s) := by
  unfold ringWrite; simp (maxDischargeDepth := 99) [hS]
@[simp] theorem takeSamples_steady {l payload : Nat} {s : State} (hS : Steady z₀ s) : Steady z₀ (takeSamples l payload s) := by
  unfold takeSamples; simp (maxDischargeDepth := 99) [hS]
@[simp] theorem takeBlock_steady {l : Nat} {s : State} {b : Bool × Nat} (hS : Steady z₀ s) : Steady z₀ (takeBlock l s b) := by
  unfold takeBlock; simp (maxDischargeDepth := 99) [hS]
@[simp] theorem orderBlock_steady {l p : Nat} {b : Bool × Nat} {s : State} (hS : Steady z₀ s) : Steady z₀ (orderBlock l p b s) := by
  unfold orderBlock; simp (maxDischargeDepth := 99) +contextual [hS, steady_foldl]
@[simp] theorem execReceiveDataBlock_steady {l p word : Nat} {s : State} (hS : Steady z₀ s) : SteadyOut z₀ (execReceiveDataBlock l p word s) := by
  unfold execReceiveDataBlock; simp (maxDischargeDepth := 99) [hS]
@[simp] theorem singleEntry_steady {l : Nat} {payload : List Nat} {s : State} (hS : Steady z₀ s) : Steady z₀ (singleEntry l payload s) := by
  unfold singleEntry; simp (maxDischargeDepth := 99) [hS]
@[simp] theorem execHeadLinkTraining_steady {l : Nat} {o : TrainObs} {s : State} (hS : Steady z₀ s) : SteadyOut z₀ (execHeadLinkTraining l o s) := by
  unfold execHeadLinkTraining; simp (maxDischargeDepth := 99) [hS]
@[simp] theorem execLanePromotion_steady {l p : Nat} {s : State} (hS : Steady z₀ s) : SteadyOut z₀ (execLanePromotion l p s) := by
  unfold execLanePromotion; simp (maxDischargeDepth := 99) [hS]
@[simp] theorem execSingleLaneMode_steady {l p : Nat} {s : State} (hS : Steady z₀ s) : SteadyOut z₀ (execSingleLaneMode l p s) := by
  unfold execSingleLaneMode; simp (maxDischargeDepth := 99) [hS]
@[simp] theorem requeue_steady {q : Nat × Nat} {s : State} (hS : Steady z₀ s) : Steady z₀ (requeue q s) := by
  unfold requeue; simp (maxDischargeDepth := 99) [hS]
@[simp] theorem dropRequeue_steady {q : Nat × Nat} {s : State} (hS : Steady z₀ s) : Steady z₀ (dropRequeue q s) := by
  unfold dropRequeue; simp (maxDischargeDepth := 99) [hS]
@[simp] theorem reportSector_steady {n : Nat} {r : Report} {s : State} (hS : Steady z₀ s) : Steady z₀ (reportSector n r s) := by
  unfold reportSector; split <;> simp (maxDischargeDepth := 99) +contextual [hS, steady_foldl]
@[simp] theorem abortSector_steady {n : Nat} {s : State} (hS : Steady z₀ s) : Steady z₀ (abortSector n s) := by
  unfold abortSector; simp (maxDischargeDepth := 99) [hS]
@[simp] theorem urgentGates_steady {l : Nat} {s : State} (hS : Steady z₀ s) : Steady z₀ (urgentGates l s) := by
  unfold urgentGates; simp (maxDischargeDepth := 99) [hS]
@[simp] theorem seePin_steady {l : Nat} {pinLow : Bool} {s : State} (hS : Steady z₀ s) : Steady z₀ (seePin l pinLow s) := by
  unfold seePin; simp (maxDischargeDepth := 99) [hS]
@[simp] theorem declareFault_steady {l : Nat} {s : State} (hS : Steady z₀ s) : Steady z₀ (declareFault l s) := by
  unfold declareFault; simp (maxDischargeDepth := 99) [hS]
@[simp] theorem execHeadLinkFault_steady {l : Nat} {pinLow : Bool} {s : State} (hS : Steady z₀ s) : SteadyOut z₀ (execHeadLinkFault l pinLow s) := by
  unfold execHeadLinkFault; simp (maxDischargeDepth := 99) [hS]

/-! Channel -/

@[simp] theorem accTaken_steady {n z p k : Nat} {s : State} (hS : Steady z₀ s) : Steady z₀ (accTaken n z p k s) := by
  unfold accTaken; simp (maxDischargeDepth := 99) [hS]
@[simp] theorem fillSlot_steady {n info : Nat} {s : State} (hS : Steady z₀ s) : Steady z₀ (fillSlot n info s) := by
  unfold fillSlot; simp (maxDischargeDepth := 99) [hS]
@[simp] theorem emitSector_steady {n zone idx info : Nat} {s : State} (hS : Steady z₀ s) : Steady z₀ (emitSector n zone idx info s) := by
  unfold emitSector; split <;> simp (maxDischargeDepth := 99) +contextual [hS, steady_foldl]
@[simp] theorem sectorDone_steady {n z p data pi : Nat} {s : State} (hS : Steady z₀ s) : Steady z₀ (sectorDone n z p data pi s) := by
  unfold sectorDone; simp (maxDischargeDepth := 99) [hS]
@[simp] theorem writeParity_steady {n z : Nat} {s : State} (hS : Steady z₀ s) : Steady z₀ (writeParity n z s) := by
  unfold writeParity; simp (maxDischargeDepth := 99) [hS]
@[simp] theorem saveOpen_steady {n z accAddr : Nat} {s : State} (hS : Steady z₀ s) : Steady z₀ (saveOpen n z accAddr s) := by
  unfold saveOpen; simp (maxDischargeDepth := 99) [hS]
@[simp] theorem wroteMark_steady {n : Nat} {s : State} (hS : Steady z₀ s) : Steady z₀ (wroteMark n s) := by
  unfold wroteMark; split <;> simp (maxDischargeDepth := 99) +contextual [hS, steady_foldl]
@[simp] theorem showWriting_steady {n z : Nat} {s : State} (hS : Steady z₀ s) : Steady z₀ (showWriting n z s) := by
  unfold showWriting; simp (maxDischargeDepth := 99) [hS]
@[simp] theorem writeSector_steady {n z p data pi : Nat} {s : State} (hS : Steady z₀ s) : Steady z₀ (writeSector n z p data pi s) := by
  unfold writeSector; simp (maxDischargeDepth := 99) [hS]
@[simp] theorem unwritten_steady {n z idx : Nat} {s : State} (hS : Steady z₀ s) : Steady z₀ (unwritten n z idx s) := by
  unfold unwritten; simp (maxDischargeDepth := 99) [hS]
@[simp] theorem parityFirst_steady {n z : Nat} {s : State} (hS : Steady z₀ s) : Steady z₀ (parityFirst n z s) := by
  unfold parityFirst; simp (maxDischargeDepth := 99) [hS]
@[simp] theorem dataThen_steady {n z p data pi : Nat} {last : Bool} {s : State} (hS : Steady z₀ s) : Steady z₀ (dataThen n z p data pi last s) := by
  unfold dataThen; simp (maxDischargeDepth := 99) [hS]
@[simp] theorem writeRow_steady {n z p data pi : Nat} {last : Bool} {s : State} (hS : Steady z₀ s) : Steady z₀ (writeRow n z p data pi last s) := by
  unfold writeRow; simp (maxDischargeDepth := 99) [hS]
@[simp] theorem readAfter_steady {h : Nat} {s : State} (hS : Steady z₀ s) : Steady z₀ (readAfter h s) := by
  unfold readAfter; simp (maxDischargeDepth := 99) [hS]
@[simp] theorem sectorEnds_steady {n : Nat} {s : State} (hS : Steady z₀ s) : Steady z₀ (sectorEnds n s) := by
  unfold sectorEnds; split <;> simp (maxDischargeDepth := 99) +contextual [hS, steady_foldl]
@[simp] theorem execSectorWrite_steady {n lz p data pi : Nat} {more : Bool} {accAddr : Nat} {s : State} (hS : Steady z₀ s) : SteadyOut z₀ (execSectorWrite n lz p data pi more accAddr s) := by
  unfold execSectorWrite; simp (maxDischargeDepth := 99) [hS]
@[simp] theorem hopRewind_steady {n : Nat} {s : State} (hS : Steady z₀ s) : Steady z₀ (hopRewind n s) := by
  unfold hopRewind; dsimp only; repeat' split
  all_goals simp (maxDischargeDepth := 99) +contextual [hS, steady_foldl]
@[simp] theorem storeSector_steady {n : Nat} {d : Decoded} {s : State} (hS : Steady z₀ s) : Steady z₀ (storeSector n d s) := by
  unfold storeSector; simp (maxDischargeDepth := 99) [hS]
@[simp] theorem nextSector_steady {n : Nat} {s : State} (hS : Steady z₀ s) : Steady z₀ (nextSector n s) := by
  unfold nextSector; simp (maxDischargeDepth := 99) [hS]
@[simp] theorem readOn_steady {n : Nat} {next : Option (Nat × Nat)} {s : State} (hS : Steady z₀ s) : Steady z₀ (readOn n next s) := by
  unfold readOn; simp (maxDischargeDepth := 99) [hS]
@[simp] theorem measure_steady {n mse : Nat} {s : State} (hS : Steady z₀ s) : Steady z₀ (measure n mse s) := by
  unfold measure; simp (maxDischargeDepth := 99) [hS]
@[simp] theorem inlineFail_steady {n zone idx : Nat} {s : State} (hS : Steady z₀ s) : Steady z₀ (inlineFail n zone idx s) := by
  unfold inlineFail; simp (maxDischargeDepth := 99) [hS]
@[simp] theorem sectorRead_steady {n zone idx code step : Nat} {d : Decoded} {fromB : Bool} {s : State} (hS : Steady z₀ s) : Steady z₀ (sectorRead n zone idx code step d fromB s) := by
  unfold sectorRead; simp (maxDischargeDepth := 99) [hS]
@[simp] theorem decodeLine_steady {n zone idx : Nat} {o : SectorObs} {s : State} (hS : Steady z₀ s) : Steady z₀ (decodeLine n zone idx o s) := by
  unfold decodeLine; repeat' split
  all_goals simp (maxDischargeDepth := 99) +contextual [hS, steady_foldl]
@[simp] theorem execSectorDecode_steady {n zone idx : Nat} {more : Bool} {o : SectorObs} {s : State} (hS : Steady z₀ s) : SteadyOut z₀ (execSectorDecode n zone idx more o s) := by
  unfold execSectorDecode; simp (maxDischargeDepth := 99) [hS]
@[simp] theorem ladderEnds_steady {n zone idx step : Nat} {v : Verdict} {s : State} (hS : Steady z₀ s) : Steady z₀ (ladderEnds n zone idx step v s) := by
  unfold ladderEnds; split <;> simp (maxDischargeDepth := 99) +contextual [hS, steady_foldl]
@[simp] theorem execRetryLadder_steady {n : Nat} {rereads : List Reread} {s : State} (hS : Steady z₀ s) : SteadyOut z₀ (execRetryLadder n rereads s) := by
  unfold execRetryLadder; dsimp only; repeat' split
  all_goals simp (maxDischargeDepth := 99) +contextual [hS, steady_foldl]
@[simp] theorem execSeedFetch_steady {n zone rate idx : Nat} {s : State} (hS : Steady z₀ s) : SteadyOut z₀ (execSeedFetch n zone rate idx s) := by
  unfold execSeedFetch; simp (maxDischargeDepth := 99) [hS]
@[simp] theorem execSeedWriteback_steady {n : Nat} {s : State} (hS : Steady z₀ s) : SteadyOut z₀ (execSeedWriteback n s) := by
  unfold execSeedWriteback; simp (maxDischargeDepth := 99) [hS]
@[simp] theorem promoteStream_steady {n : Nat} {r : HchSt} {accReadable : Bool} {s : State} (hS : Steady z₀ s) : Steady z₀ (promoteStream n r accReadable s) := by
  unfold promoteStream; simp (maxDischargeDepth := 99) [hS]
@[simp] theorem streamFails_steady {n : Nat} {accReadable : Bool} {s : State} (hS : Steady z₀ s) : Steady z₀ (streamFails n accReadable s) := by
  unfold streamFails; simp (maxDischargeDepth := 99) [hS]
@[simp] theorem execStreamFailure_steady {n : Nat} {memoryError accReadable : Bool} {s : State} (hS : Steady z₀ s) : SteadyOut z₀ (execStreamFailure n memoryError accReadable s) := by
  unfold execStreamFailure; simp (maxDischargeDepth := 99) [hS]
@[simp] theorem startCopy_steady {c : TpCopy} {n : Nat} {s : State} (hS : Steady z₀ s) : Steady z₀ (startCopy c n s) := by
  unfold startCopy; simp (maxDischargeDepth := 99) [hS]
@[simp] theorem execParitySave_steady {n : Nat} {s : State} (hS : Steady z₀ s) : SteadyOut z₀ (execParitySave n s) := by
  unfold execParitySave; simp (maxDischargeDepth := 99) [hS]
@[simp] theorem execParityLoad_steady {n : Nat} {s : State} (hS : Steady z₀ s) : SteadyOut z₀ (execParityLoad n s) := by
  unfold execParityLoad; simp (maxDischargeDepth := 99) [hS]
@[simp] theorem execParityClear_steady {n : Nat} {s : State} (hS : Steady z₀ s) : SteadyOut z₀ (execParityClear n s) := by
  unfold execParityClear; simp (maxDischargeDepth := 99) [hS]
@[simp] theorem execParityCopyDone_steady {s : State} (hS : Steady z₀ s) : SteadyOut z₀ (execParityCopyDone s) := by
  unfold execParityCopyDone; split <;> simp (maxDischargeDepth := 99) +contextual [hS, steady_foldl]

/-! FabLink -/

@[simp] theorem setFab_steady {r : FabSt} {s : State} (hS : Steady z₀ s) : Steady z₀ (setFab r s) := by
  unfold setFab; simp (maxDischargeDepth := 99) [hS]
@[simp] theorem setFabPort_steady {p : Nat} {r : FabPort} {s : State} (hS : Steady z₀ s) : Steady z₀ (setFabPort p r s) := by
  unfold setFabPort; simp (maxDischargeDepth := 99) [hS]
@[simp] theorem onWire_steady {p : Nat} {b : List (Bool × Nat)} {s : State} (hS : Steady z₀ s) : Steady z₀ (onWire p b s) := by
  unfold onWire; simp (maxDischargeDepth := 99) [hS]
@[simp] theorem sendCtl_steady {p block : Nat} {s : State} (hS : Steady z₀ s) : Steady z₀ (sendCtl p block s) := by
  unfold sendCtl; simp (maxDischargeDepth := 99) [hS]
@[simp] theorem sendOut_steady {p seq : Nat} {f : Frame} {s : State} (hS : Steady z₀ s) : Steady z₀ (sendOut p seq f s) := by
  unfold sendOut; simp (maxDischargeDepth := 99) [hS]
@[simp] theorem returnCredit_steady {p : Option Nat} {f : Frame} {s : State} (hS : Steady z₀ s) : Steady z₀ (returnCredit p f s) := by
  unfold returnCredit; split <;> simp (maxDischargeDepth := 99) +contextual [hS, steady_foldl]
@[simp] theorem sendFrame_steady {p : Nat} {w : FabWait} {s : State} (hS : Steady z₀ s) : Steady z₀ (sendFrame p w s) := by
  unfold sendFrame; simp (maxDischargeDepth := 99) [hS]
@[simp] theorem pump_steady {n p : Nat} {s : State} (hS : Steady z₀ s) : Steady z₀ (pump n p s) := by
  induction n generalizing s with
  | zero => exact hS
  | succ n ih =>
    unfold pump
    split
    · exact hS
    · exact ih (by simp (maxDischargeDepth := 99) [hS])
@[simp] theorem toPort_steady {p : Nat} {q : Option Nat} {f : Frame} {s : State} (hS : Steady z₀ s) : Steady z₀ (toPort p q f s) := by
  unfold toPort; simp (maxDischargeDepth := 99) [hS]
@[simp] theorem originate_steady {f : Frame} {s : State} (hS : Steady z₀ s) : Steady z₀ (originate f s) := by
  unfold originate; simp (maxDischargeDepth := 99) [hS]
@[simp] theorem respondTo_steady {dst type tag status p1 p2 : Nat} {payload : List Nat} {last : Bool} {s : State} (hS : Steady z₀ s) : Steady z₀ (respondTo dst type tag status p1 p2 payload last s) := by
  unfold respondTo; simp (maxDischargeDepth := 99) [hS]
@[simp] theorem dropWork_steady {w : FabWork} {s : State} (hS : Steady z₀ s) : Steady z₀ (dropWork w s) := by
  unfold dropWork; simp (maxDischargeDepth := 99) [hS]
@[simp] theorem endWork_steady {stamp : Nat} {st : Status} {lba : Nat} {s : State} (hS : Steady z₀ s) : Steady z₀ (endWork stamp st lba s) := by
  unfold endWork; split <;> simp (maxDischargeDepth := 99) +contextual [hS, steady_foldl]
@[simp] theorem answerData_steady {stamp : Nat} {bytes : List Nat} {s : State} (hS : Steady z₀ s) : Steady z₀ (answerData stamp bytes s) := by
  unfold answerData; split <;> simp (maxDischargeDepth := 99) +contextual [hS, steady_foldl]

/-! Store -/

@[simp] theorem setCtx_steady {c : Ctx} {s : State} (hS : Steady z₀ s) : Steady z₀ (setCtx c s) := by
  unfold setCtx; simp (maxDischargeDepth := 99) [hS]
@[simp] theorem countCtxs_steady {s : State} (hS : Steady z₀ s) : Steady z₀ (countCtxs s) := by
  unfold countCtxs; simp (maxDischargeDepth := 99) [hS]
@[simp] theorem dropCtx_steady {stamp : Nat} {s : State} (hS : Steady z₀ s) : Steady z₀ (dropCtx stamp s) := by
  unfold dropCtx; simp (maxDischargeDepth := 99) [hS]
@[simp] theorem noteNcq_steady {c : Ctx} {st : Status} {s : State} (hS : Steady z₀ s) : Steady z₀ (noteNcq c st s) := by
  unfold noteNcq; simp (maxDischargeDepth := 99) [hS]
@[simp] theorem finish_steady {c : Ctx} {st : Status} {lba : Nat} {s : State} (hS : Steady z₀ s) : Steady z₀ (finish c st lba s) := by
  unfold finish; simp (maxDischargeDepth := 99) [hS]
@[simp] theorem showLost_steady {s : State} (hS : Steady z₀ s) : Steady z₀ (showLost s) := by
  unfold showLost; simp (maxDischargeDepth := 99) [hS]
@[simp] theorem setLost_steady {l : List Lost} {s : State} (hS : Steady z₀ s) : Steady z₀ (setLost l s) := by
  unfold setLost; simp (maxDischargeDepth := 99) [hS]
@[simp] theorem addLost_steady {ns lba n cause : Nat} {s : State} (hS : Steady z₀ s) : Steady z₀ (addLost ns lba n cause s) := by
  unfold addLost; dsimp only; repeat' split
  all_goals simp (maxDischargeDepth := 99) +contextual [hS, steady_foldl]
@[simp] theorem clearLost_steady {ns lba n : Nat} {s : State} (hS : Steady z₀ s) : Steady z₀ (clearLost ns lba n s) := by
  unfold clearLost; simp (maxDischargeDepth := 99) [hS]
@[simp] theorem setPend_steady {l : List (Nat × Nat × Nat)} {s : State} (hS : Steady z₀ s) : Steady z₀ (setPend l s) := by
  unfold setPend; simp (maxDischargeDepth := 99) [hS]
@[simp] theorem addPend_steady {ns lba n : Nat} {s : State} (hS : Steady z₀ s) : Steady z₀ (addPend ns lba n s) := by
  unfold addPend; simp (maxDischargeDepth := 99) [hS]
@[simp] theorem markPend_steady {lz : Nat} {s : State} (hS : Steady z₀ s) : Steady z₀ (markPend lz s) := by
  unfold markPend; simp (maxDischargeDepth := 99) [hS]
@[simp] theorem clearPend_steady {ns lba n : Nat} {s : State} (hS : Steady z₀ s) : Steady z₀ (clearPend ns lba n s) := by
  unfold clearPend; simp (maxDischargeDepth := 99) +contextual [hS, steady_foldl]

/-! Zones -/

@[simp] theorem execNamespaceAttach_steady {n ports : Nat} {s : State} (hS : Steady z₀ s) : SteadyOut z₀ (execNamespaceAttach n ports s) := by
  unfold execNamespaceAttach; simp (maxDischargeDepth := 99) [hS]
@[simp] theorem dropNs_steady {n : Nat} {s : State} (hS : Steady z₀ s) : Steady z₀ (dropNs n s) := by
  unfold dropNs; simp (maxDischargeDepth := 99) [hS]
@[simp] theorem freshZones_steady {n type : Nat} {phys : Nat → Nat} {s : State} (hS : Steady z₀ s) : Steady z₀ (freshZones n type phys s) := by
  unfold freshZones; simp (maxDischargeDepth := 99) +contextual [hS, steady_foldl]
@[simp] theorem cacheAt_steady {n type first : Nat} {s : State} (hS : Steady z₀ s) : Steady z₀ (cacheAt n type first s) := by
  unfold cacheAt; simp (maxDischargeDepth := 99) [hS]
@[simp] theorem execNamespaceCreate_steady {n cfg phys0 : Nat} {format : Bool} {s : State} (hS : Steady z₀ s) : SteadyOut z₀ (execNamespaceCreate n cfg phys0 format s) := by
  unfold execNamespaceCreate; simp (maxDischargeDepth := 99) [hS]
@[simp] theorem onCtx_steady {stamp : Nat} {f : Ctx → State} {s : State} (hf : ∀ c, Steady z₀ (f c)) (hS : Steady z₀ s) :
    SteadyOut z₀ (onCtx stamp f s) := by
  unfold onCtx; split <;> simp [hS, hf]
@[simp] theorem makeRoom_steady {z : Nat} {s : State} (hS : Steady z₀ s) : Steady z₀ (makeRoom z s) := by
  unfold makeRoom; dsimp only; repeat' split
  all_goals simp (maxDischargeDepth := 99) +contextual [hS, steady_foldl]
@[simp] theorem setCtxOf_steady {z : Nat} {c : SealCtx} {s : State} (hS : Steady z₀ s) : Steady z₀ (setCtxOf z c s) := by
  unfold setCtxOf; simp (maxDischargeDepth := 99) [hS]
@[simp] theorem showRun_steady {c : SealCtx} {s : State} (hS : Steady z₀ s) : Steady z₀ (showRun c s) := by
  unfold showRun; simp (maxDischargeDepth := 99) [hS]
@[simp] theorem showLeaf_steady {c : SealCtx} {k h : Nat} {s : State} (hS : Steady z₀ s) : Steady z₀ (showLeaf c k h s) := by
  unfold showLeaf; simp (maxDischargeDepth := 99) [hS]
@[simp] theorem showGroup_steady {c : SealCtx} {i g : Nat} {s : State} (hS : Steady z₀ s) : Steady z₀ (showGroup c i g s) := by
  unfold showGroup; simp (maxDischargeDepth := 99) [hS]
@[simp] theorem takeSealCtx_steady {z : Nat} {s : State} (hS : Steady z₀ s) : Steady z₀ (takeSealCtx z s) := by
  unfold takeSealCtx; simp (maxDischargeDepth := 99) [hS]
@[simp] theorem freeSealCtx_steady {z : Nat} {s : State} (hS : Steady z₀ s) : Steady z₀ (freeSealCtx z s) := by
  unfold freeSealCtx; simp (maxDischargeDepth := 99) [hS]
@[simp] theorem openZone_steady {z st : Nat} {s : State} (hS : Steady z₀ s) : Steady z₀ (openZone z st s) := by
  unfold openZone; simp (maxDischargeDepth := 99) [hS]
@[simp] theorem stampZone_steady {z : Nat} {s : State} (hS : Steady z₀ s) : Steady z₀ (stampZone z s) := by
  unfold stampZone; dsimp only; repeat' split
  all_goals simp (maxDischargeDepth := 99) +contextual [hS, steady_foldl]
@[simp] theorem takeWrite_steady {c : Ctx} {z lba : Nat} {s : State} (hS : Steady z₀ s) : Steady z₀ (takeWrite c z lba s) := by
  unfold takeWrite; simp (maxDischargeDepth := 99) [hS]
@[simp] theorem execZoneWrite_steady {stamp : Nat} {s : State} (hS : Steady z₀ s) : SteadyOut z₀ (execZoneWrite stamp s) := by
  unfold execZoneWrite
  refine onCtx_steady (fun c => ?_) hS
  repeat' split
  all_goals simp (maxDischargeDepth := 99) [hS]
@[simp] theorem execZoneAppend_steady {stamp : Nat} {s : State} (hS : Steady z₀ s) : SteadyOut z₀ (execZoneAppend stamp s) := by
  unfold execZoneAppend
  refine onCtx_steady (fun c => ?_) hS
  try dsimp only
  repeat' split
  all_goals simp (maxDischargeDepth := 99) [hS]
@[simp] theorem zoneOp_steady {c : Ctx} {stamp k : Nat} {f : Nat → State} {s : State} (hf : ∀ c, Steady z₀ (f c)) (hS : Steady z₀ s) :
    Steady z₀ (zoneOp c stamp k f s) := by
  unfold zoneOp; simp (maxDischargeDepth := 99) [hS, hf]
@[simp] theorem resetZone_steady {z : Nat} {s : State} (hS : Steady z₀ s) : Steady z₀ (resetZone z s) := by
  unfold resetZone; simp (maxDischargeDepth := 99) [hS]
@[simp] theorem execZoneReset_steady {stamp : Nat} {s : State} (hS : Steady z₀ s) : SteadyOut z₀ (execZoneReset stamp s) := by
  unfold execZoneReset
  refine onCtx_steady (fun c => ?_) hS
  split
  · refine zoneOp_steady (fun z => ?_) hS
    try dsimp only
    repeat' split
    all_goals simp (maxDischargeDepth := 99) [hS]
  · exact hS
@[simp] theorem finishZone_steady {z : Nat} {s : State} (hS : Steady z₀ s) : Steady z₀ (finishZone z s) := by
  unfold finishZone; simp (maxDischargeDepth := 99) [hS]
@[simp] theorem execZoneFinish_steady {stamp : Nat} {s : State} (hS : Steady z₀ s) : SteadyOut z₀ (execZoneFinish stamp s) := by
  unfold execZoneFinish
  refine onCtx_steady (fun c => ?_) hS
  split
  · refine zoneOp_steady (fun z => ?_) hS
    try dsimp only
    repeat' split
    all_goals simp (maxDischargeDepth := 99) [hS]
  · exact hS
@[simp] theorem execZoneOpen_steady {stamp : Nat} {s : State} (hS : Steady z₀ s) : SteadyOut z₀ (execZoneOpen stamp s) := by
  unfold execZoneOpen
  refine onCtx_steady (fun c => ?_) hS
  split
  · refine zoneOp_steady (fun z => ?_) hS
    try dsimp only
    repeat' split
    all_goals simp (maxDischargeDepth := 99) [hS]
  · exact hS
@[simp] theorem execZoneClose_steady {stamp : Nat} {s : State} (hS : Steady z₀ s) : SteadyOut z₀ (execZoneClose stamp s) := by
  unfold execZoneClose
  refine onCtx_steady (fun c => ?_) hS
  split
  · refine zoneOp_steady (fun z => ?_) hS
    try dsimp only
    repeat' split
    all_goals simp (maxDischargeDepth := 99) [hS]
  · exact hS
@[simp] theorem execLossRewriteRecovery_steady {reads : List (List Decoded)} {s : State} (hS : Steady z₀ s) :
    SteadyOut z₀ (execLossRewriteRecovery reads s) := by
  unfold execLossRewriteRecovery
  split
  · simp [hS]
  · refine occurs_steady ?_ hS
    simp only [steady_mk, keeps_self]
    refine steady_foldl hS ?_
    intro u n hu
    split <;> simp [hu]
@[simp] theorem showRecovering_steady {s : State} (hS : Steady z₀ s) : Steady z₀ (showRecovering s) := by
  unfold showRecovering; simp (maxDischargeDepth := 99) [hS]
@[simp] theorem execWpRecovery_steady {z : Nat} {before reads : List Decoded} {accAddr head track : Nat} {s : State} (hS : Steady z₀ s) : SteadyOut z₀ (execWpRecovery z before reads accAddr head track s) := by
  unfold execWpRecovery; dsimp only; repeat' split
  all_goals simp (maxDischargeDepth := 99) +contextual [hS, steady_foldl]

/-! Integrity -/

@[simp] theorem showFill_steady {s : State} (hS : Steady z₀ s) : Steady z₀ (showFill s) := by
  unfold showFill; simp (maxDischargeDepth := 99) [hS]
@[simp] theorem indexSlot_steady {e : McEntry} {s : State} (hS : Steady z₀ s) : Steady z₀ (indexSlot e s) := by
  unfold indexSlot; simp (maxDischargeDepth := 99) [hS]
@[simp] theorem dropSlots_steady {l : List McEntry} {s : State} (hS : Steady z₀ s) : Steady z₀ (dropSlots l s) := by
  unfold dropSlots; simp (maxDischargeDepth := 99) [hS]
@[simp] theorem destage_steady {n extent : Nat} {old : List Nat} {s : State} (hS : Steady z₀ s) : Steady z₀ (destage n extent old s) := by
  unfold destage; simp (maxDischargeDepth := 99) [hS]
@[simp] theorem execMediaCacheDestage_steady {n extent : Nat} {old : List Nat} {s : State} (hS : Steady z₀ s) : SteadyOut z₀ (execMediaCacheDestage n extent old s) := by
  unfold execMediaCacheDestage; simp (maxDischargeDepth := 99) [hS]
@[simp] theorem completeCache_steady {n : Nat} {l : List Decoded} {s : State} (hS : Steady z₀ s) : Steady z₀ (completeCache n l s) := by
  induction l generalizing s with
  | nil => exact hS
  | cons d t ih =>
    unfold completeCache
    dsimp only
    split
    · exact ih (indexSlot_steady hS)
    · exact hS
@[simp] theorem execMediaCacheCrit_steady {n : Nat} {s : State} (hS : Steady z₀ s) : SteadyOut z₀ (execMediaCacheCrit n s) := by
  unfold execMediaCacheCrit; simp (maxDischargeDepth := 99) [hS]
@[simp] theorem leaveCrit_steady {n : Nat} {s : State} (hS : Steady z₀ s) : Steady z₀ (leaveCrit n s) := by
  unfold leaveCrit; simp (maxDischargeDepth := 99) [hS]
@[simp] theorem setSpares_steady {l : List Nat} {s : State} (hS : Steady z₀ s) : Steady z₀ (setSpares l s) := by
  unfold setSpares; simp (maxDischargeDepth := 99) [hS]
@[simp] theorem takeBlocks_steady {z lo n : Nat} {s : State} (hS : Steady z₀ s) : Steady z₀ (takeBlocks z lo n s) := by
  unfold takeBlocks; simp (maxDischargeDepth := 99) [hS]
@[simp] theorem execDirectBandWrite_steady {n band count phys : Nat} {s : State} (hS : Steady z₀ s) : SteadyOut z₀ (execDirectBandWrite n band count phys s) := by
  unfold execDirectBandWrite; simp (maxDischargeDepth := 99) [hS]
@[simp] theorem execBandCleaning_steady {n band phys since home : Nat} {slots : List (Nat × Nat)} {s : State} (hS : Steady z₀ s) : SteadyOut z₀ (execBandCleaning n band phys since home slots s) := by
  unfold execBandCleaning; simp (maxDischargeDepth := 99) [hS]
@[simp] theorem execSubsectorFill_steady {n blk data : Nat} {failed : Bool} {s : State} (hS : Steady z₀ s) : SteadyOut z₀ (execSubsectorFill n blk data failed s) := by
  unfold execSubsectorFill; split <;> simp (maxDischargeDepth := 99) +contextual [hS, steady_foldl]
@[simp] theorem repaired_steady {q : Nat × Nat} {s : State} (hS : Steady z₀ s) : Steady z₀ (repaired q s) := by
  unfold repaired; simp (maxDischargeDepth := 99) [hS]
@[simp] theorem setRemaps_steady {l : List ((Nat × Nat) × (Nat × Nat))} {s : State} (hS : Steady z₀ s) : Steady z₀ (setRemaps l s) := by
  unfold setRemaps; simp (maxDischargeDepth := 99) [hS]
@[simp] theorem remapTo_steady {n : Nat} {q spare : Nat × Nat} {info : Nat} {s : State} (hS : Steady z₀ s) : Steady z₀ (remapTo n q spare info s) := by
  unfold remapTo; simp (maxDischargeDepth := 99) [hS]
@[simp] theorem execDefectRemap_steady {n zone idx spareZone spareIdx : Nat} {back : Decoded} {s : State} (hS : Steady z₀ s) : SteadyOut z₀ (execDefectRemap n zone idx spareZone spareIdx back s) := by
  unfold execDefectRemap; dsimp only; repeat' split
  all_goals simp (maxDischargeDepth := 99) +contextual [hS, steady_foldl]
@[simp] theorem relocStart_steady {z phys : Nat} {s : State} (hS : Steady z₀ s) : Steady z₀ (relocStart z phys s) := by
  unfold relocStart; simp (maxDischargeDepth := 99) [hS]
@[simp] theorem relocEnd_steady {z phys data : Nat} {s : State} (hS : Steady z₀ s) : Steady z₀ (relocEnd z phys data s) := by
  unfold relocEnd; simp (maxDischargeDepth := 99) [hS]
@[simp] theorem execZoneRelocation_steady {z phys data : Nat} {s : State} (hS : Steady z₀ s) : SteadyOut z₀ (execZoneRelocation z phys data s) := by
  unfold execZoneRelocation; split <;> simp (maxDischargeDepth := 99) +contextual [hS, steady_foldl]
@[simp] theorem execDeepRecovery_steady {n z p : Nat} {rereads : List Reread} {others : List Decoded} {parity : Decoded} {s : State} (hS : Steady z₀ s) : SteadyOut z₀ (execDeepRecovery n z p rereads others parity s) := by
  unfold execDeepRecovery; dsimp only; repeat' split
  all_goals simp (maxDischargeDepth := 99) +contextual [hS, steady_foldl]
@[simp] theorem execHostReadRecoveryTimeout_steady {stamp waitedMs : Nat} {s : State} (hS : Steady z₀ s) : SteadyOut z₀ (execHostReadRecoveryTimeout stamp waitedMs s) := by
  unfold execHostReadRecoveryTimeout
  refine onCtx_steady (fun c => ?_) hS
  repeat' split
  all_goals simp (maxDischargeDepth := 99) [hS]
@[simp] theorem execAtiVerify_steady {failed : List (Nat × Nat)} {s : State} (hS : Steady z₀ s) : SteadyOut z₀ (execAtiVerify failed s) := by
  unfold execAtiVerify; split <;> simp (maxDischargeDepth := 99) +contextual [hS, steady_foldl]
@[simp] theorem scanFinds_steady {zone : Nat} {results : List (Nat × Nat × Nat × Nat)} {s : State} (hS : Steady z₀ s) : Steady z₀ (scanFinds zone results s) := by
  unfold scanFinds; simp (maxDischargeDepth := 99) [hS]
@[simp] theorem execBackgroundScan_steady {zone : Nat} {results : List (Nat × Nat × Nat × Nat)} {whole last : Bool} {s : State} (hS : Steady z₀ s) : SteadyOut z₀ (execBackgroundScan zone results whole last s) := by
  unfold execBackgroundScan; simp (maxDischargeDepth := 99) [hS]
@[simp] theorem flushJournal_steady {s : State} (hS : Steady z₀ s) : Steady z₀ (flushJournal s) := by
  unfold flushJournal; simp (maxDischargeDepth := 99) [hS]
@[simp] theorem execZmgCheckpoint_steady {elapsedMin : Nat} {shutdown : Bool} {s : State} (hS : Steady z₀ s) : SteadyOut z₀ (execZmgCheckpoint elapsedMin shutdown s) := by
  unfold execZmgCheckpoint; simp (maxDischargeDepth := 99) [hS]
@[simp] theorem readOnlyNs_steady {s : State} {n : Nat} (hS : Steady z₀ s) : Steady z₀ (readOnlyNs s n) := by
  unfold readOnlyNs; simp (maxDischargeDepth := 99) +contextual [hS, steady_foldl]
@[simp] theorem rebuildZones_steady {s : State} (hS : Steady z₀ s) : Steady z₀ (rebuildZones s) := by
  unfold rebuildZones; simp (maxDischargeDepth := 99) +contextual [hS, steady_foldl]
@[simp] theorem rebuildOther_steady {table : Nat} {s : State} (hS : Steady z₀ s) : Steady z₀ (rebuildOther table s) := by
  unfold rebuildOther; split <;> simp (maxDischargeDepth := 99) +contextual [hS, steady_foldl]
@[simp] theorem execTableRebuild_steady {table : Nat} {ok : Bool} {s : State} (hS : Steady z₀ s) : SteadyOut z₀ (execTableRebuild table ok s) := by
  unfold execTableRebuild; split <;> simp (maxDischargeDepth := 99) +contextual [hS, steady_foldl]

/-! Spindle -/

@[simp] theorem lockFalls_steady {s : State} (hS : Steady z₀ s) : Steady z₀ (lockFalls s) := by
  unfold lockFalls; simp (maxDischargeDepth := 99) [hS]
@[simp] theorem unlock_steady {s : State} (hS : Steady z₀ s) : Steady z₀ (unlock s) := by
  unfold unlock; simp (maxDischargeDepth := 99) [hS]
@[simp] theorem enterRun_steady {s : State} (hS : Steady z₀ s) : Steady z₀ (enterRun s) := by
  unfold enterRun; simp (maxDischargeDepth := 99) [hS]
@[simp] theorem enterFault_steady {s : State} (hS : Steady z₀ s) : Steady z₀ (enterFault s) := by
  unfold enterFault
  refine putIf_steady ?_
  simp only [steady_mk, keeps_self]
  simp (maxDischargeDepth := 99) [hS]
@[simp] theorem spnGo_steady {new : Nat} {s : State} (hS : Steady z₀ s) : Steady z₀ (spnGo new s) := by
  unfold spnGo; simp (maxDischargeDepth := 99) [hS]
@[simp] theorem setTarget_steady {v : Nat} {s : State} (hS : Steady z₀ s) : Steady z₀ (setTarget v s) := by
  unfold setTarget; simp (maxDischargeDepth := 99) [hS]
@[simp] theorem needRestart_steady {s : State} (hS : Steady z₀ s) : Steady z₀ (needRestart s) := by
  unfold needRestart; simp (maxDischargeDepth := 99) [hS]
@[simp] theorem evalCurve_steady {s : State} (hS : Steady z₀ s) : Steady z₀ (evalCurve s) := by
  unfold evalCurve; dsimp only; repeat' split
  all_goals simp (maxDischargeDepth := 99) +contextual [hS, steady_foldl]
@[simp] theorem curveTakes_steady {s : State} (hS : Steady z₀ s) : Steady z₀ (curveTakes s) := by
  unfold curveTakes; split <;> simp (maxDischargeDepth := 99) +contextual [hS, steady_foldl]
@[simp] theorem retarget_steady {s : State} (hS : Steady z₀ s) : Steady z₀ (retarget s) := by
  unfold retarget; simp (maxDischargeDepth := 99) [hS]
@[simp] theorem execPlevelWrite_steady {level : Nat} {s : State} (hS : Steady z₀ s) : SteadyOut z₀ (execPlevelWrite level s) := by
  unfold execPlevelWrite; simp (maxDischargeDepth := 99) [hS]
@[simp] theorem execSpnTargetWrite_steady {rpm : Nat} {s : State} (hS : Steady z₀ s) : SteadyOut z₀ (execSpnTargetWrite rpm s) := by
  unfold execSpnTargetWrite; simp (maxDischargeDepth := 99) [hS]
@[simp] theorem spnCtlWritten_steady {value : Nat} {s : State} (hS : Steady z₀ s) : Steady z₀ (spnCtlWritten value s) := by
  unfold spnCtlWritten; simp (maxDischargeDepth := 99) [hS]
@[simp] theorem spnMode_steady {run curve : Nat} {s : State} (hS : Steady z₀ s) : Steady z₀ (spnMode run curve s) := by
  unfold spnMode; simp (maxDischargeDepth := 99) [hS]
@[simp] theorem execSpnStartCommand_steady {s : State} (hS : Steady z₀ s) : SteadyOut z₀ (execSpnStartCommand s) := by
  unfold execSpnStartCommand; simp (maxDischargeDepth := 99) [hS]
@[simp] theorem execSpnStopCommand_steady {s : State} (hS : Steady z₀ s) : SteadyOut z₀ (execSpnStopCommand s) := by
  unfold execSpnStopCommand; simp (maxDischargeDepth := 99) [hS]
@[simp] theorem execSpnRestart_steady {s : State} (hS : Steady z₀ s) : SteadyOut z₀ (execSpnRestart s) := by
  have ht : Steady z₀ (hostEdge s (puts [(Reg.SPN_FAULT.FAULT, 0), (Reg.SPN_STAT.ATTEMPTS, 0), (Reg.SPN_CTL.RESTART, 0)] s)) := by
    simp (maxDischargeDepth := 99) [hS]
  unfold execSpnRestart
  dsimp only
  refine steadyOut_next ?_
  split
  · split
    · simp only [steady_mk, keeps_self]; exact ht
    · simp (maxDischargeDepth := 99) [ht]
  · exact ht
@[simp] theorem execSpnMeasureEnd_steady {backward : Bool} {speed angle : Nat} {s : State} (hS : Steady z₀ s) : SteadyOut z₀ (execSpnMeasureEnd backward speed angle s) := by
  unfold execSpnMeasureEnd; simp (maxDischargeDepth := 99) [hS]
@[simp] theorem execSpnBackbrakeEnd_steady {s : State} (hS : Steady z₀ s) : SteadyOut z₀ (execSpnBackbrakeEnd s) := by
  unfold execSpnBackbrakeEnd; simp (maxDischargeDepth := 99) [hS]
@[simp] theorem execSpnAlignEnd_steady {s : State} (hS : Steady z₀ s) : SteadyOut z₀ (execSpnAlignEnd s) := by
  unfold execSpnAlignEnd; simp (maxDischargeDepth := 99) [hS]
@[simp] theorem execSpnRampEnd_steady {s : State} (hS : Steady z₀ s) : SteadyOut z₀ (execSpnRampEnd s) := by
  unfold execSpnRampEnd; simp (maxDischargeDepth := 99) [hS]
@[simp] theorem execSpnHandoverConverged_steady {s : State} (hS : Steady z₀ s) : SteadyOut z₀ (execSpnHandoverConverged s) := by
  unfold execSpnHandoverConverged; simp (maxDischargeDepth := 99) [hS]
@[simp] theorem execSpnHandoverFail_steady {s : State} (hS : Steady z₀ s) : SteadyOut z₀ (execSpnHandoverFail s) := by
  unfold execSpnHandoverFail; simp (maxDischargeDepth := 99) [hS]
@[simp] theorem execSpnRunEntry_steady {s : State} (hS : Steady z₀ s) : SteadyOut z₀ (execSpnRunEntry s) := by
  unfold execSpnRunEntry; simp (maxDischargeDepth := 99) [hS]
@[simp] theorem execSpnStartTimeout_steady {s : State} (hS : Steady z₀ s) : SteadyOut z₀ (execSpnStartTimeout s) := by
  unfold execSpnStartTimeout; simp (maxDischargeDepth := 99) [hS]
@[simp] theorem execPhaseLock_steady {s : State} (hS : Steady z₀ s) : SteadyOut z₀ (execPhaseLock s) := by
  unfold execPhaseLock; simp (maxDischargeDepth := 99) [hS]
@[simp] theorem execLockLost_steady {s : State} (hS : Steady z₀ s) : SteadyOut z₀ (execLockLost s) := by
  unfold execLockLost; simp (maxDischargeDepth := 99) [hS]
@[simp] theorem declareLoss_steady {s : State} (hS : Steady z₀ s) : Steady z₀ (declareLoss s) := by
  unfold declareLoss; simp (maxDischargeDepth := 99) [hS]
@[simp] theorem observerLoss_steady {s : State} (hS : Steady z₀ s) : Steady z₀ (observerLoss s) := by
  unfold observerLoss; simp (maxDischargeDepth := 99) [hS]
@[simp] theorem execObserverLoss_steady {s : State} (hS : Steady z₀ s) : SteadyOut z₀ (execObserverLoss s) := by
  unfold execObserverLoss; simp (maxDischargeDepth := 99) [hS]
@[simp] theorem execSpnReacquired_steady {s : State} (hS : Steady z₀ s) : SteadyOut z₀ (execSpnReacquired s) := by
  unfold execSpnReacquired; simp (maxDischargeDepth := 99) [hS]
@[simp] theorem execSpnReacqTimeout_steady {s : State} (hS : Steady z₀ s) : SteadyOut z₀ (execSpnReacqTimeout s) := by
  unfold execSpnReacqTimeout; simp (maxDischargeDepth := 99) [hS]
@[simp] theorem execSpnBrakeToShort_steady {s : State} (hS : Steady z₀ s) : SteadyOut z₀ (execSpnBrakeToShort s) := by
  unfold execSpnBrakeToShort; simp (maxDischargeDepth := 99) [hS]
@[simp] theorem restartWait_steady {s : State} (hS : Steady z₀ s) : Steady z₀ (restartWait s) := by
  unfold restartWait; simp (maxDischargeDepth := 99) [hS]
@[simp] theorem execSpnStopped_steady {s : State} (hS : Steady z₀ s) : SteadyOut z₀ (execSpnStopped s) := by
  unfold execSpnStopped; simp (maxDischargeDepth := 99) [hS]
@[simp] theorem execSpnRestartDelayEnd_steady {s : State} (hS : Steady z₀ s) : SteadyOut z₀ (execSpnRestartDelayEnd s) := by
  unfold execSpnRestartDelayEnd; simp (maxDischargeDepth := 99) [hS]
@[simp] theorem execSpnAttemptsClear_steady {s : State} (hS : Steady z₀ s) : SteadyOut z₀ (execSpnAttemptsClear s) := by
  unfold execSpnAttemptsClear; simp (maxDischargeDepth := 99) [hS]
@[simp] theorem execSpnRetractDone_steady {s : State} (hS : Steady z₀ s) : SteadyOut z₀ (execSpnRetractDone s) := by
  unfold execSpnRetractDone; simp (maxDischargeDepth := 99) [hS]
@[simp] theorem execSpnRetractTimeout_steady {s : State} (hS : Steady z₀ s) : SteadyOut z₀ (execSpnRetractTimeout s) := by
  unfold execSpnRetractTimeout; simp (maxDischargeDepth := 99) [hS]
@[simp] theorem hardStageFault_steady {f : Fld} {s : State} (hS : Steady z₀ s) : Steady z₀ (hardStageFault f s) := by
  unfold hardStageFault; simp (maxDischargeDepth := 99) [hS]
@[simp] theorem underVoltage_steady {s : State} (hS : Steady z₀ s) : Steady z₀ (underVoltage s) := by
  unfold underVoltage; simp (maxDischargeDepth := 99) [hS]
@[simp] theorem vmotBraking_steady {v : Nat} {s : State} (hS : Steady z₀ s) : Steady z₀ (vmotBraking v s) := by
  unfold vmotBraking; simp (maxDischargeDepth := 99) [hS]
@[simp] theorem stageFaults_steady {was w2 : Nat} {s : State} (hS : Steady z₀ s) : Steady z₀ (stageFaults was w2 s) := by
  unfold stageFaults; simp (maxDischargeDepth := 99) [hS]
@[simp] theorem feedObserver_steady {s : State} (hS : Steady z₀ s) : Steady z₀ (feedObserver s) := by
  unfold feedObserver; simp (maxDischargeDepth := 99) [hS]
@[simp] theorem spnReturn_steady {was words : List Nat} {speed angle : Nat} {backward : Bool} {s : State} (hS : Steady z₀ s) : Steady z₀ (spnReturn was words speed angle backward s) := by
  unfold spnReturn; simp (maxDischargeDepth := 99) [hS]
@[simp] theorem spnLinkFault_steady {s : State} (hS : Steady z₀ s) : Steady z₀ (spnLinkFault s) := by
  unfold spnLinkFault; simp (maxDischargeDepth := 99) [hS]
@[simp] theorem spnPfail_steady {s : State} (hS : Steady z₀ s) : Steady z₀ (spnPfail s) := by
  unfold spnPfail; simp (maxDischargeDepth := 99) [hS]
@[simp] theorem checkK_steady {s : State} (hS : Steady z₀ s) : Steady z₀ (checkK s) := by
  unfold checkK; simp (maxDischargeDepth := 99) [hS]
@[simp] theorem spnBoundary_steady {s : State} (hS : Steady z₀ s) : Steady z₀ (spnBoundary s) := by
  unfold spnBoundary; simp (maxDischargeDepth := 99) [hS]

end Sys2Proof.Machine
end

