-- ==== Sys2Proof/Laws/SteadyOptical.lean ====
section
/-! SUPPORT. Every operation of motion, the optical discs and the seals keeps what Laws/Steady.lean says: the queue, what has been sent, and the canonical
forms of registers and memory. -/

namespace Sys2Proof.Machine

open Sys2Proof

set_option linter.unusedSimpArgs false

variable {z₀ : State}

/-! Motion -/

@[simp] theorem setAx_steady {a : Nat} {r : AxMot} {s : State} (hS : Steady z₀ s) : Steady z₀ (setAx a r s) := by
  unfold setAx; simp (maxDischargeDepth := 99) [hS]
@[simp] theorem setGrp_steady {g : Nat} {r : GrpMot} {s : State} (hS : Steady z₀ s) : Steady z₀ (setGrp g r s) := by
  unfold setGrp; simp (maxDischargeDepth := 99) [hS]
@[simp] theorem setBrg_steady {b : Nat} {r : BrgMot} {s : State} (hS : Steady z₀ s) : Steady z₀ (setBrg b r s) := by
  unfold setBrg; simp (maxDischargeDepth := 99) [hS]
@[simp] theorem motShow_steady {s : State} (hS : Steady z₀ s) : Steady z₀ (motShow s) := by
  unfold motShow; simp (maxDischargeDepth := 99) [hS]
@[simp] theorem moveAxis_steady {a : Nat} {v acc : Int} {s : State} (hS : Steady z₀ s) : Steady z₀ (moveAxis a v acc s) := by
  unfold moveAxis; simp (maxDischargeDepth := 99) [hS]
@[simp] theorem followShort_steady {p : Path} {fl fs : Int} {v : Int} {s : State} (hS : Steady z₀ s) : Steady z₀ (followShort p fl fs v s) := by
  unfold followShort; simp (maxDischargeDepth := 99) [hS]
@[simp] theorem restGroup_steady {g : Nat} {s : State} (hS : Steady z₀ s) : Steady z₀ (restGroup g s) := by
  unfold restGroup; simp (maxDischargeDepth := 99) +contextual [hS, steady_foldl]
@[simp] theorem runMove_steady {g : Nat} {m : Move} {s : State} (hS : Steady z₀ s) : Steady z₀ (runMove g m s) := by
  unfold runMove; simp (maxDischargeDepth := 99) [hS]
@[simp] theorem runHome_steady {g a : Nat} {s : State} (hS : Steady z₀ s) : Steady z₀ (runHome g a s) := by
  unfold runHome; simp (maxDischargeDepth := 99) [hS]
@[simp] theorem runFree_steady {g : Nat} {s : State} (hS : Steady z₀ s) : Steady z₀ (runFree g s) := by
  unfold runFree; simp (maxDischargeDepth := 99) [hS]
@[simp] theorem advanceGroup_steady {s : State} {g : Nat} (hS : Steady z₀ s) : Steady z₀ (advanceGroup s g) := by
  unfold advanceGroup; dsimp only; repeat' split
  all_goals simp (maxDischargeDepth := 99) +contextual [hS, steady_foldl]
@[simp] theorem motAdvance_steady {s : State} (hS : Steady z₀ s) : Steady z₀ (motAdvance s) := by
  unfold motAdvance; simp (maxDischargeDepth := 99) [hS]
@[simp] theorem toBridge_steady {b : Nat} {r : BrgMot} {s : State} (hS : Steady z₀ s) : Steady z₀ (toBridge b r s) := by
  unfold toBridge; simp (maxDischargeDepth := 99) [hS]
@[simp] theorem bridgesOff_steady {s : State} (hS : Steady z₀ s) : Steady z₀ (bridgesOff s) := by
  unfold bridgesOff; simp (maxDischargeDepth := 99) +contextual [hS, steady_foldl]
@[simp] theorem execChopOnEnd_steady {b sinceNs : Nat} {s : State} (hS : Steady z₀ s) : SteadyOut z₀ (execChopOnEnd b sinceNs s) := by
  unfold execChopOnEnd; simp (maxDischargeDepth := 99) [hS]
@[simp] theorem execChopOffEnd_steady {b elapsedNs : Nat} {s : State} (hS : Steady z₀ s) : SteadyOut z₀ (execChopOffEnd b elapsedNs s) := by
  unfold execChopOffEnd; simp (maxDischargeDepth := 99) [hS]
@[simp] theorem execStandstillHoldRamp_steady {a : Nat} {s : State} (hS : Steady z₀ s) : SteadyOut z₀ (execStandstillHoldRamp a s) := by
  unfold execStandstillHoldRamp; simp (maxDischargeDepth := 99) [hS]
@[simp] theorem axisTempo_steady {s : State} {a : Nat} (hS : Steady z₀ s) : Steady z₀ (axisTempo s a) := by
  unfold axisTempo; simp (maxDischargeDepth := 99) [hS]
@[simp] theorem feedMotion_steady {s : State} (hS : Steady z₀ s) : Steady z₀ (feedMotion s) := by
  unfold feedMotion; simp (maxDischargeDepth := 99) [hS]
@[simp] theorem retargetMove_steady {m : Move} {g : Nat} {s : State} (hS : Steady z₀ s) : Steady z₀ (retargetMove m g s) := by
  unfold retargetMove; simp (maxDischargeDepth := 99) [hS]
@[simp] theorem motLatch_steady {s : State} (hS : Steady z₀ s) : Steady z₀ (motLatch s) := by
  unfold motLatch
  extract_lets t u
  have ht : Steady z₀ t := steady_foldl hS (fun t x h => setAx_steady h)
  have hu : Steady z₀ u := by
    refine steady_foldl ht (fun v g h => ?_)
    split
    · exact retargetMove_steady h
    · exact h
  exact hu
@[simp] theorem motBoundary_steady {s : State} (hS : Steady z₀ s) : Steady z₀ (motBoundary s) := by
  unfold motBoundary; simp (maxDischargeDepth := 99) +contextual [hS, steady_foldl]
@[simp] theorem refusePush_steady {g : Nat} {l : List Nat} {s : State} (hS : Steady z₀ s) : Steady z₀ (refusePush g l s) := by
  unfold refusePush; simp (maxDischargeDepth := 99) [hS]
@[simp] theorem enqueueMove_steady {g : Nat} {m : Move} {s : State} (hS : Steady z₀ s) : Steady z₀ (enqueueMove g m s) := by
  unfold enqueueMove; simp (maxDischargeDepth := 99) [hS]
@[simp] theorem pushClass_steady {g cls : Nat} {s : State} (hS : Steady z₀ s) : Steady z₀ (pushClass g cls s) := by
  unfold pushClass; simp (maxDischargeDepth := 99) [hS]
@[simp] theorem cmdWord_steady {g value : Nat} {s : State} (hS : Steady z₀ s) : Steady z₀ (cmdWord g value s) := by
  unfold cmdWord; simp (maxDischargeDepth := 99) [hS]
@[simp] theorem pushRow_steady {g cls value : Nat} {replace : Bool} {t s : State} (ht : Steady z₀ t) (hS : Steady z₀ s) :
    SteadyOut z₀ (pushRow g cls value replace t s) := by
  unfold pushRow; simp [hS, ht]
@[simp] theorem execMovePushNormal_steady {g value : Nat} {s : State} (hS : Steady z₀ s) : SteadyOut z₀ (execMovePushNormal g value s) := by
  unfold execMovePushNormal; simp (maxDischargeDepth := 99) [hS]
@[simp] theorem execMovePushHome_steady {g value : Nat} {s : State} (hS : Steady z₀ s) : SteadyOut z₀ (execMovePushHome g value s) := by
  unfold execMovePushHome; simp (maxDischargeDepth := 99) [hS]
@[simp] theorem execMovePushTest_steady {g value : Nat} {s : State} (hS : Steady z₀ s) : SteadyOut z₀ (execMovePushTest g value s) := by
  unfold execMovePushTest; simp (maxDischargeDepth := 99) [hS]
@[simp] theorem execMovePushRecovery_steady {g value : Nat} {s : State} (hS : Steady z₀ s) : SteadyOut z₀ (execMovePushRecovery g value s) := by
  unfold execMovePushRecovery; simp (maxDischargeDepth := 99) [hS]
@[simp] theorem replaceMove_steady {g : Nat} {m : Move} {s : State} (hS : Steady z₀ s) : Steady z₀ (replaceMove g m s) := by
  unfold replaceMove; dsimp only; repeat' split
  all_goals simp (maxDischargeDepth := 99) +contextual [hS, steady_foldl]
@[simp] theorem execMovePushReplace_steady {g value : Nat} {s : State} (hS : Steady z₀ s) : SteadyOut z₀ (execMovePushReplace g value s) := by
  unfold execMovePushReplace; simp (maxDischargeDepth := 99) [hS]
@[simp] theorem execMoveTake_steady {g : Nat} {s : State} (hS : Steady z₀ s) : SteadyOut z₀ (execMoveTake g s) := by
  unfold execMoveTake; dsimp only; repeat' split
  all_goals simp (maxDischargeDepth := 99) +contextual [hS, steady_foldl]
@[simp] theorem takeTargets_steady {g : Nat} {m : Move} {s : State} (hS : Steady z₀ s) : Steady z₀ (takeTargets g m s) := by
  unfold takeTargets; simp (maxDischargeDepth := 99) [hS]
@[simp] theorem execMoveEnd_steady {g : Nat} {s : State} (hS : Steady z₀ s) : SteadyOut z₀ (execMoveEnd g s) := by
  unfold execMoveEnd; dsimp only; repeat' split
  all_goals simp (maxDischargeDepth := 99) +contextual [hS, steady_foldl]
@[simp] theorem execGroupStop_steady {g : Nat} {s : State} (hS : Steady z₀ s) : SteadyOut z₀ (execGroupStop g s) := by
  unfold execGroupStop; simp (maxDischargeDepth := 99) [hS]
@[simp] theorem emergencyStop_steady {g a : Nat} {s : State} (hS : Steady z₀ s) : Steady z₀ (emergencyStop g a s) := by
  unfold emergencyStop; simp (maxDischargeDepth := 99) [hS]
@[simp] theorem execEmergencyStop_steady {g : Nat} {s : State} (hS : Steady z₀ s) : SteadyOut z₀ (execEmergencyStop g s) := by
  unfold execEmergencyStop; simp (maxDischargeDepth := 99) +contextual [hS, steady_foldl]
@[simp] theorem homeFails_steady {a cause : Nat} {s : State} (hS : Steady z₀ s) : Steady z₀ (homeFails a cause s) := by
  unfold homeFails; simp (maxDischargeDepth := 99) [hS]
@[simp] theorem execSwitchEdge_steady {k : Nat} {level : Bool} {ago : Nat} {s : State} (hS : Steady z₀ s) : SteadyOut z₀ (execSwitchEdge k level ago s) := by
  unfold execSwitchEdge; simp (maxDischargeDepth := 99) [hS]
@[simp] theorem execSwitchChatter_steady {k : Nat} {times : List Nat} {s : State} (hS : Steady z₀ s) : SteadyOut z₀ (execSwitchChatter k times s) := by
  unfold execSwitchChatter; simp (maxDischargeDepth := 99) +contextual [hS, steady_foldl]
@[simp] theorem homeStep_steady {a n : Nat} {s : State} (hS : Steady z₀ s) : Steady z₀ (homeStep a n s) := by
  unfold homeStep; simp (maxDischargeDepth := 99) [hS]
@[simp] theorem endHoming_steady {a : Nat} {s : State} (hS : Steady z₀ s) : Steady z₀ (endHoming a s) := by
  unfold endHoming; simp (maxDischargeDepth := 99) [hS]
@[simp] theorem execHomingStepEnd_steady {a : Nat} {s : State} (hS : Steady z₀ s) : SteadyOut z₀ (execHomingStepEnd a s) := by
  unfold execHomingStepEnd; split <;> simp (maxDischargeDepth := 99) +contextual [hS, steady_foldl]
@[simp] theorem driveLost_steady {s : State} (hS : Steady z₀ s) : Steady z₀ (driveLost s) := by
  unfold driveLost; simp (maxDischargeDepth := 99) [hS]
@[simp] theorem execMotionDriveLost_steady {s : State} (hS : Steady z₀ s) : SteadyOut z₀ (execMotionDriveLost s) := by
  unfold execMotionDriveLost; simp (maxDischargeDepth := 99) [hS]
@[simp] theorem decWritten_steady {a old new : Nat} {s : State} (hS : Steady z₀ s) : Steady z₀ (decWritten a old new s) := by
  unfold decWritten; simp (maxDischargeDepth := 99) [hS]
@[simp] theorem execMotionLimitWrite_steady {a reg value : Nat} {s : State} (hS : Steady z₀ s) : SteadyOut z₀ (execMotionLimitWrite a reg value s) := by
  unfold execMotionLimitWrite; simp (maxDischargeDepth := 99) [hS]

/-! OptServo -/

@[simp] theorem setOsv_steady {r : OsvSt} {s : State} (hS : Steady z₀ s) : Steady z₀ (setOsv r s) := by
  unfold setOsv; simp (maxDischargeDepth := 99) [hS]
@[simp] theorem ochGate_steady {s : State} (hS : Steady z₀ s) : Steady z₀ (ochGate s) := by
  unfold ochGate; simp (maxDischargeDepth := 99) [hS]
@[simp] theorem voidJob_steady {s : State} (hS : Steady z₀ s) : Steady z₀ (voidJob s) := by
  unfold voidJob; split <;> simp (maxDischargeDepth := 99) +contextual [hS, steady_foldl]
@[simp] theorem pathFall_steady {fast hard : Bool} {s : State} (hS : Steady z₀ s) : Steady z₀ (pathFall fast hard s) := by
  unfold pathFall; simp (maxDischargeDepth := 99) [hS]
@[simp] theorem opticalFall_steady {hard : Bool} {s : State} (hS : Steady z₀ s) : Steady z₀ (opticalFall hard s) := by
  unfold opticalFall; simp (maxDischargeDepth := 99) [hS]
@[simp] theorem execOpticalPermitRise_steady {s : State} (hS : Steady z₀ s) : SteadyOut z₀ (execOpticalPermitRise s) := by
  unfold execOpticalPermitRise; simp (maxDischargeDepth := 99) [hS]
@[simp] theorem sendSa_steady {l : Nat} {s : State} (hS : Steady z₀ s) : Steady z₀ (sendSa l s) := by
  unfold sendSa; simp (maxDischargeDepth := 99) [hS]
@[simp] theorem osvGo_steady {new : Nat} {s : State} (hS : Steady z₀ s) : Steady z₀ (osvGo new s) := by
  unfold osvGo; simp (maxDischargeDepth := 99) [hS]
@[simp] theorem osvComplete_steady {s : State} (hS : Steady z₀ s) : Steady z₀ (osvComplete s) := by
  unfold osvComplete; simp (maxDischargeDepth := 99) [hS]
@[simp] theorem startJump_steady {dest : Nat} {s : State} (hS : Steady z₀ s) : Steady z₀ (startJump dest s) := by
  unfold startJump; simp (maxDischargeDepth := 99) [hS]
@[simp] theorem pushSled_steady {target : Int} {s : State} (hS : Steady z₀ s) : Steady z₀ (pushSled target s) := by
  unfold pushSled; simp (maxDischargeDepth := 99) [hS]
@[simp] theorem moveSled_steady {l adu : Nat} {s : State} (hS : Steady z₀ s) : Steady z₀ (moveSled l adu s) := by
  unfold moveSled; simp (maxDischargeDepth := 99) [hS]
@[simp] theorem startTrackSeek_steady {l adu : Nat} {s : State} (hS : Steady z₀ s) : Steady z₀ (startTrackSeek l adu s) := by
  unfold startTrackSeek; simp (maxDischargeDepth := 99) [hS]
@[simp] theorem toward_steady {l adu : Nat} {s : State} (hS : Steady z₀ s) : Steady z₀ (toward l adu s) := by
  unfold toward; simp (maxDischargeDepth := 99) [hS]
@[simp] theorem takeTarget_steady {l adu : Nat} {s : State} (hS : Steady z₀ s) : Steady z₀ (takeTarget l adu s) := by
  unfold takeTarget; simp (maxDischargeDepth := 99) [hS]
@[simp] theorem arrived_steady {s : State} (hS : Steady z₀ s) : Steady z₀ (arrived s) := by
  unfold arrived; dsimp only; repeat' split
  all_goals simp (maxDischargeDepth := 99) +contextual [hS, steady_foldl]
@[simp] theorem mountDue_steady {s : State} (hS : Steady z₀ s) : Steady z₀ (mountDue s) := by
  unfold mountDue; simp (maxDischargeDepth := 99) [hS]
@[simp] theorem execOsvMount_steady {s : State} (hS : Steady z₀ s) : SteadyOut z₀ (execOsvMount s) := by
  unfold execOsvMount; simp (maxDischargeDepth := 99) [hS]
@[simp] theorem execOsvSeek_steady {s : State} (hS : Steady z₀ s) : SteadyOut z₀ (execOsvSeek s) := by
  unfold execOsvSeek; simp (maxDischargeDepth := 99) [hS]
@[simp] theorem startPark_steady {s : State} (hS : Steady z₀ s) : Steady z₀ (startPark s) := by
  unfold startPark; simp (maxDischargeDepth := 99) [hS]
@[simp] theorem execOsvPark_steady {s : State} (hS : Steady z₀ s) : SteadyOut z₀ (execOsvPark s) := by
  unfold execOsvPark; simp (maxDischargeDepth := 99) [hS]
@[simp] theorem execOsvClr_steady {s : State} (hS : Steady z₀ s) : SteadyOut z₀ (execOsvClr s) := by
  unfold execOsvClr; simp (maxDischargeDepth := 99) [hS]
@[simp] theorem feedServo_steady {fe te sum : List Int} {tracks layers : Int} {s : State} (hS : Steady z₀ s) : Steady z₀ (feedServo fe te sum tracks layers s) := by
  unfold feedServo; simp (maxDischargeDepth := 99) [hS]
@[simp] theorem execServoFrame_steady {blocks : List Nat} {tracks : Int} {late : Bool} {s : State} (hS : Steady z₀ s) : SteadyOut z₀ (execServoFrame blocks tracks late s) := by
  unfold execServoFrame; simp (maxDischargeDepth := 99) [hS]
@[simp] theorem execServoFramesMissing_steady {s : State} (hS : Steady z₀ s) : SteadyOut z₀ (execServoFramesMissing s) := by
  unfold execServoFramesMissing; simp (maxDischargeDepth := 99) [hS]
@[simp] theorem execSCurveCapture_steady {s : State} (hS : Steady z₀ s) : SteadyOut z₀ (execSCurveCapture s) := by
  unfold execSCurveCapture; simp (maxDischargeDepth := 99) [hS]
@[simp] theorem execSweepsExhausted_steady {s : State} (hS : Steady z₀ s) : SteadyOut z₀ (execSweepsExhausted s) := by
  unfold execSweepsExhausted; simp (maxDischargeDepth := 99) [hS]
@[simp] theorem execFocusSettled_steady {s : State} (hS : Steady z₀ s) : SteadyOut z₀ (execFocusSettled s) := by
  unfold execFocusSettled; simp (maxDischargeDepth := 99) [hS]
@[simp] theorem execTrackPulled_steady {s : State} (hS : Steady z₀ s) : SteadyOut z₀ (execTrackPulled s) := by
  unfold execTrackPulled; simp (maxDischargeDepth := 99) [hS]
@[simp] theorem execFocusLoss_steady {s : State} (hS : Steady z₀ s) : SteadyOut z₀ (execFocusLoss s) := by
  unfold execFocusLoss; simp (maxDischargeDepth := 99) [hS]
@[simp] theorem execTrackingLoss_steady {s : State} (hS : Steady z₀ s) : SteadyOut z₀ (execTrackingLoss s) := by
  unfold execTrackingLoss; simp (maxDischargeDepth := 99) [hS]
@[simp] theorem execRecoverSearchFail_steady {s : State} (hS : Steady z₀ s) : SteadyOut z₀ (execRecoverSearchFail s) := by
  unfold execRecoverSearchFail; simp (maxDischargeDepth := 99) [hS]
@[simp] theorem execParkingDone_steady {s : State} (hS : Steady z₀ s) : SteadyOut z₀ (execParkingDone s) := by
  unfold execParkingDone; simp (maxDischargeDepth := 99) [hS]
@[simp] theorem jumpFails_steady {s : State} (hS : Steady z₀ s) : Steady z₀ (jumpFails s) := by
  unfold jumpFails; simp (maxDischargeDepth := 99) [hS]
@[simp] theorem execLayerJump_steady {s : State} (hS : Steady z₀ s) : SteadyOut z₀ (execLayerJump s) := by
  unfold execLayerJump; dsimp only; repeat' split
  all_goals simp (maxDischargeDepth := 99) +contextual [hS, steady_foldl]
@[simp] theorem execLayerJumpTimeout_steady {s : State} (hS : Steady z₀ s) : SteadyOut z₀ (execLayerJumpTimeout s) := by
  unfold execLayerJumpTimeout; simp (maxDischargeDepth := 99) [hS]
@[simp] theorem execTrackSeekEnd_steady {s : State} (hS : Steady z₀ s) : SteadyOut z₀ (execTrackSeekEnd s) := by
  unfold execTrackSeekEnd; dsimp only; repeat' split
  all_goals simp (maxDischargeDepth := 99) +contextual [hS, steady_foldl]
@[simp] theorem execWobbleLock_steady {errs : List Int} {s : State} (hS : Steady z₀ s) : SteadyOut z₀ (execWobbleLock errs s) := by
  unfold execWobbleLock; simp (maxDischargeDepth := 99) [hS]
@[simp] theorem execWobbleUnlock_steady {errs : List Int} {s : State} (hS : Steady z₀ s) : SteadyOut z₀ (execWobbleUnlock errs s) := by
  unfold execWobbleUnlock; simp (maxDischargeDepth := 99) [hS]
@[simp] theorem execAddressUnitDecode_steady {bits31 : Nat} {s : State} (hS : Steady z₀ s) : SteadyOut z₀ (execAddressUnitDecode bits31 s) := by
  unfold execAddressUnitDecode; simp (maxDischargeDepth := 99) [hS]
@[simp] theorem execLayerTableFill_steady {cold : Bool} {entries : List (List Nat)} {s : State} (hS : Steady z₀ s) : SteadyOut z₀ (execLayerTableFill cold entries s) := by
  unfold execLayerTableFill; simp (maxDischargeDepth := 99) +contextual [hS, steady_foldl]

/-! Disc -/

@[simp] theorem setDisc_steady {r : DiscSt} {s : State} (hS : Steady z₀ s) : Steady z₀ (setDisc r s) := by
  unfold setDisc; simp (maxDischargeDepth := 99) [hS]
@[simp] theorem osvOnDisc_steady {old new : Nat} {s : State} (hS : Steady z₀ s) : Steady z₀ (osvOnDisc old new s) := by
  unfold osvOnDisc; simp (maxDischargeDepth := 99) [hS]
@[simp] theorem discGo_steady {new : Nat} {s : State} (hS : Steady z₀ s) : Steady z₀ (discGo new s) := by
  unfold discGo; simp (maxDischargeDepth := 99) [hS]
@[simp] theorem startFails_steady {new : Nat} {s : State} (hS : Steady z₀ s) : Steady z₀ (startFails new s) := by
  unfold startFails; simp (maxDischargeDepth := 99) [hS]
@[simp] theorem execDiscStartCommand_steady {s : State} (hS : Steady z₀ s) : SteadyOut z₀ (execDiscStartCommand s) := by
  unfold execDiscStartCommand; simp (maxDischargeDepth := 99) [hS]
@[simp] theorem execDiscStopCommand_steady {s : State} (hS : Steady z₀ s) : SteadyOut z₀ (execDiscStopCommand s) := by
  unfold execDiscStopCommand; simp (maxDischargeDepth := 99) [hS]
@[simp] theorem execDiscSpindleTransition_steady {s : State} (hS : Steady z₀ s) : SteadyOut z₀ (execDiscSpindleTransition s) := by
  unfold execDiscSpindleTransition; split <;> simp (maxDischargeDepth := 99) +contextual [hS, steady_foldl]
@[simp] theorem execDiscStartFail_steady {s : State} (hS : Steady z₀ s) : SteadyOut z₀ (execDiscStartFail s) := by
  unfold execDiscStartFail; simp (maxDischargeDepth := 99) [hS]
@[simp] theorem execDiscRetryWaitEnd_steady {s : State} (hS : Steady z₀ s) : SteadyOut z₀ (execDiscRetryWaitEnd s) := by
  unfold execDiscRetryWaitEnd; simp (maxDischargeDepth := 99) [hS]
@[simp] theorem execDiscClr_steady {s : State} (hS : Steady z₀ s) : SteadyOut z₀ (execDiscClr s) := by
  unfold execDiscClr; simp (maxDischargeDepth := 99) [hS]
@[simp] theorem execDiscTargetWrite_steady {rpm : Nat} {s : State} (hS : Steady z₀ s) : SteadyOut z₀ (execDiscTargetWrite rpm s) := by
  unfold execDiscTargetWrite; simp (maxDischargeDepth := 99) [hS]
@[simp] theorem execDiscAttemptsClear_steady {s : State} (hS : Steady z₀ s) : SteadyOut z₀ (execDiscAttemptsClear s) := by
  unfold execDiscAttemptsClear; simp (maxDischargeDepth := 99) [hS]
@[simp] theorem osvStageFault_steady {s : State} (hS : Steady z₀ s) : Steady z₀ (osvStageFault s) := by
  unfold osvStageFault; simp (maxDischargeDepth := 99) [hS]
@[simp] theorem discVmot_steady {v : Nat} {s : State} (hS : Steady z₀ s) : Steady z₀ (discVmot v s) := by
  unfold discVmot; simp (maxDischargeDepth := 99) [hS]
@[simp] theorem discObserver_steady {words : List Nat} {speed angle : Nat} {backward : Bool} {s : State} (hS : Steady z₀ s) : Steady z₀ (discObserver words speed angle backward s) := by
  unfold discObserver; simp (maxDischargeDepth := 99) [hS]
@[simp] theorem osvReturn_steady {words : List Nat} {speed angle : Nat} {backward safe : Bool} {s : State} (hS : Steady z₀ s) : Steady z₀ (osvReturn words speed angle backward safe s) := by
  unfold osvReturn; simp (maxDischargeDepth := 99) [hS]
@[simp] theorem osvPfail_steady {s : State} (hS : Steady z₀ s) : Steady z₀ (osvPfail s) := by
  unfold osvPfail; simp (maxDischargeDepth := 99) [hS]
@[simp] theorem feedOsv_steady {s : State} (hS : Steady z₀ s) : Steady z₀ (feedOsv s) := by
  unfold feedOsv; simp (maxDischargeDepth := 99) [hS]
@[simp] theorem resumeMotion_steady {s : State} (hS : Steady z₀ s) : Steady z₀ (resumeMotion s) := by
  unfold resumeMotion; dsimp only; repeat' split
  all_goals simp (maxDischargeDepth := 99) +contextual [hS, steady_foldl]
@[simp] theorem osvBoundary_steady {s : State} (hS : Steady z₀ s) : Steady z₀ (osvBoundary s) := by
  unfold osvBoundary; simp (maxDischargeDepth := 99) [hS]
@[simp] theorem osvOutput_steady {s : State} (hS : Steady z₀ s) : Steady z₀ (osvOutput s) := by
  unfold osvOutput; simp (maxDischargeDepth := 99) [hS]

/-! OptLink -/

@[simp] theorem setOlk_steady {r : HlkSt} {s : State} (hS : Steady z₀ s) : Steady z₀ (setOlk r s) := by
  unfold setOlk; simp (maxDischargeDepth := 99) [hS]
@[simp] theorem execHeadLinkCommandFrame_steady {l p1 p2 : Nat} {s : State} (hS : Steady z₀ s) : SteadyOut z₀ (execHeadLinkCommandFrame l p1 p2 s) := by
  unfold execHeadLinkCommandFrame; simp (maxDischargeDepth := 99) [hS]
@[simp] theorem execTickBlock_steady {l ofs : Nat} {s : State} (hS : Steady z₀ s) : SteadyOut z₀ (execTickBlock l ofs s) := by
  unfold execTickBlock; simp (maxDischargeDepth := 99) [hS]
@[simp] theorem olkBoundary_steady {s : State} (hS : Steady z₀ s) : Steady z₀ (olkBoundary s) := by
  unfold olkBoundary; dsimp only; repeat' split
  all_goals simp (maxDischargeDepth := 99) +contextual [hS, steady_foldl]
@[simp] theorem execOpticalLinkTraining_steady {o : TrainObs} {s : State} (hS : Steady z₀ s) : SteadyOut z₀ (execOpticalLinkTraining o s) := by
  unfold execOpticalLinkTraining; simp (maxDischargeDepth := 99) [hS]
@[simp] theorem ochResult_steady {j : OchJob} {code : Nat} {s : State} (hS : Steady z₀ s) : Steady z₀ (ochResult j code s) := by
  unfold ochResult; simp (maxDischargeDepth := 99) [hS]
@[simp] theorem ochIdle_steady {s : State} (hS : Steady z₀ s) : Steady z₀ (ochIdle s) := by
  unfold ochIdle; simp (maxDischargeDepth := 99) [hS]
@[simp] theorem abortRead_steady {s : State} (hS : Steady z₀ s) : Steady z₀ (abortRead s) := by
  unfold abortRead; split <;> simp (maxDischargeDepth := 99) +contextual [hS, steady_foldl]
@[simp] theorem seeOptPin_steady {pinLow : Bool} {s : State} (hS : Steady z₀ s) : Steady z₀ (seeOptPin pinLow s) := by
  unfold seeOptPin; simp (maxDischargeDepth := 99) [hS]
@[simp] theorem declareOptFault_steady {s : State} (hS : Steady z₀ s) : Steady z₀ (declareOptFault s) := by
  unfold declareOptFault; simp (maxDischargeDepth := 99) [hS]
@[simp] theorem execOpticalLinkFault_steady {pinLow : Bool} {s : State} (hS : Steady z₀ s) : SteadyOut z₀ (execOpticalLinkFault pinLow s) := by
  unfold execOpticalLinkFault; simp (maxDischargeDepth := 99) [hS]
@[simp] theorem ccOut_steady {l tag : Nat} {write : Bool} {s : State} (hS : Steady z₀ s) : Steady z₀ (ccOut l tag write s) := by
  unfold ccOut; simp (maxDischargeDepth := 99) [hS]
@[simp] theorem execControlChannelReq_steady {l value : Nat} {s : State} (hS : Steady z₀ s) : SteadyOut z₀ (execControlChannelReq l value s) := by
  unfold execControlChannelReq; simp (maxDischargeDepth := 99) [hS]
@[simp] theorem execControlChannelReply_steady {l payload : Nat} {s : State} (hS : Steady z₀ s) : SteadyOut z₀ (execControlChannelReply l payload s) := by
  unfold execControlChannelReply; simp (maxDischargeDepth := 99) [hS]
@[simp] theorem execControlChannelTimeout_steady {l : Nat} {s : State} (hS : Steady z₀ s) : SteadyOut z₀ (execControlChannelTimeout l s) := by
  unfold execControlChannelTimeout; simp (maxDischargeDepth := 99) [hS]

/-! OptChannel -/

@[simp] theorem setOch_steady {r : OchSt} {s : State} (hS : Steady z₀ s) : Steady z₀ (setOch r s) := by
  unfold setOch; simp (maxDischargeDepth := 99) [hS]
@[simp] theorem readCluster_steady {step2 : Bool} {o : ClusterRead} {s : State} (hS : Steady z₀ s) : Steady z₀ (readCluster step2 o s).2 := by
  unfold readCluster; simp (maxDischargeDepth := 99) [hS]
@[simp] theorem ochQueued_steady {s : State} (hS : Steady z₀ s) : Steady z₀ (ochQueued s) := by
  unfold ochQueued; simp (maxDischargeDepth := 99) [hS]
@[simp] theorem ochReady_steady {s : State} (hS : Steady z₀ s) : Steady z₀ (ochReady s) := by
  unfold ochReady; simp (maxDischargeDepth := 99) [hS]
@[simp] theorem nextFree_steady {s : State} (hS : Steady z₀ s) : Steady z₀ (nextFree s) := by
  unfold nextFree; simp (maxDischargeDepth := 99) [hS]
@[simp] theorem ochEncode_steady {j : OchJob} {s : State} (hS : Steady z₀ s) : Steady z₀ (ochEncode j s) := by
  unfold ochEncode; simp (maxDischargeDepth := 99) [hS]
@[simp] theorem ochBegin_steady {j : OchJob} {s : State} (hS : Steady z₀ s) : Steady z₀ (ochBegin j s) := by
  unfold ochBegin; simp (maxDischargeDepth := 99) [hS]
@[simp] theorem ochStart_steady {s : State} (hS : Steady z₀ s) : Steady z₀ (ochStart s) := by
  unfold ochStart; split <;> simp (maxDischargeDepth := 99) +contextual [hS, steady_foldl]
@[simp] theorem ochEnqueue_steady {j : OchJob} {s : State} (hS : Steady z₀ s) : Steady z₀ (ochEnqueue j s) := by
  unfold ochEnqueue; simp (maxDischargeDepth := 99) [hS]
@[simp] theorem ochAhead_steady {j : OchJob} {s : State} (hS : Steady z₀ s) : Steady z₀ (ochAhead j s) := by
  unfold ochAhead; simp (maxDischargeDepth := 99) [hS]
@[simp] theorem ochSubmit_steady {op : Nat} {s : State} (hS : Steady z₀ s) : Steady z₀ (ochSubmit op s) := by
  unfold ochSubmit; simp (maxDischargeDepth := 99) [hS]
@[simp] theorem ochEnd_steady {j : OchJob} {code : Nat} {s : State} (hS : Steady z₀ s) : Steady z₀ (ochEnd j code s) := by
  unfold ochEnd; simp (maxDischargeDepth := 99) [hS]
@[simp] theorem ochCounts_steady {j : OchJob} {rows : List RowRead} {s : State} (hS : Steady z₀ s) : Steady z₀ (ochCounts j rows s) := by
  unfold ochCounts; simp (maxDischargeDepth := 99) [hS]
@[simp] theorem ochFailed_steady {layer cluster : Nat} {verified : Bool} {s : State} (hS : Steady z₀ s) : Steady z₀ (ochFailed layer cluster verified s) := by
  unfold ochFailed; simp (maxDischargeDepth := 99) [hS]
@[simp] theorem ochDecoded_steady {j : OchJob} {code v : Nat} {s : State} (hS : Steady z₀ s) : Steady z₀ (ochDecoded j code v s) := by
  unfold ochDecoded; simp (maxDischargeDepth := 99) [hS]
@[simp] theorem execOchRead_steady {o : Option ClusterRead} {s : State} (hS : Steady z₀ s) : SteadyOut z₀ (execOchRead o s) := by
  unfold execOchRead; dsimp only; repeat' split
  all_goals simp (maxDischargeDepth := 99) +contextual [hS, steady_foldl]
@[simp] theorem rereads_steady {step2 : Bool} {kept : List RowRead} {l : List ClusterRead} {s : State} (hS : Steady z₀ s) :
    Steady z₀ (rereads step2 kept l s).2 := by
  induction l generalizing step2 kept s with
  | nil => exact hS
  | cons o t ih =>
    unfold rereads
    dsimp only
    split
    · exact readCluster_steady hS
    · exact ih (readCluster_steady hS)
@[simp] theorem ladderResult_steady {reads : List ClusterRead} {s : State} (hS : Steady z₀ s) : Steady z₀ (ladderResult reads s).2 := by
  unfold ladderResult
  dsimp only
  split <;> exact rereads_steady hS
@[simp] theorem execClusterRetryLadder_steady {reads : List ClusterRead} {s : State} (hS : Steady z₀ s) : SteadyOut z₀ (execClusterRetryLadder reads s) := by
  unfold execClusterRetryLadder; dsimp only; repeat' split
  all_goals simp (maxDischargeDepth := 99) +contextual [hS, steady_foldl]
@[simp] theorem recheckEnd_steady {j : OchJob} {use : ClusterUse} {code : Nat} {s : State} (hS : Steady z₀ s) : Steady z₀ (recheckEnd j use code s) := by
  unfold recheckEnd; simp (maxDischargeDepth := 99) [hS]
@[simp] theorem execOchVerify_steady {o : Option ClusterRead} {s : State} (hS : Steady z₀ s) : SteadyOut z₀ (execOchVerify o s) := by
  unfold execOchVerify; repeat' split
  all_goals simp (maxDischargeDepth := 99) +contextual [hS, steady_foldl]
@[simp] theorem execSyncLost_steady {s : State} (hS : Steady z₀ s) : SteadyOut z₀ (execSyncLost s) := by
  unfold execSyncLost; simp (maxDischargeDepth := 99) [hS]
@[simp] theorem ochWritten_steady {j : OchJob} {s : State} (hS : Steady z₀ s) : Steady z₀ (ochWritten j s) := by
  unfold ochWritten; repeat' split
  all_goals simp (maxDischargeDepth := 99) +contextual [hS, steady_foldl]
@[simp] theorem execOchWrite_steady {closed : Bool} {s : State} (hS : Steady z₀ s) : SteadyOut z₀ (execOchWrite closed s) := by
  unfold execOchWrite; repeat' split
  all_goals simp (maxDischargeDepth := 99) +contextual [hS, steady_foldl]
@[simp] theorem execOchOpc_steady {r : Option (List (List Nat) × List (List Int))} {s : State} (hS : Steady z₀ s) : SteadyOut z₀ (execOchOpc r s) := by
  unfold execOchOpc; repeat' split
  all_goals simp (maxDischargeDepth := 99) +contextual [hS, steady_foldl]
@[simp] theorem dropCopy_steady {s : State} (hS : Steady z₀ s) : Steady z₀ (dropCopy s) := by
  unfold dropCopy; simp (maxDischargeDepth := 99) [hS]
@[simp] theorem execOchAbort_steady {s : State} (hS : Steady z₀ s) : SteadyOut z₀ (execOchAbort s) := by
  unfold execOchAbort; simp (maxDischargeDepth := 99) +contextual [hS, steady_foldl]
@[simp] theorem noteVoid_steady {j : OchJob} {s : State} (hS : Steady z₀ s) : Steady z₀ (noteVoid j s) := by
  unfold noteVoid; split <;> simp (maxDischargeDepth := 99) +contextual [hS, steady_foldl]
@[simp] theorem execClusterVoid_steady {s : State} (hS : Steady z₀ s) : SteadyOut z₀ (execClusterVoid s) := by
  unfold execClusterVoid; split <;> simp (maxDischargeDepth := 99) +contextual [hS, steady_foldl]
@[simp] theorem copyNow_steady {s : State} (hS : Steady z₀ s) : Steady z₀ (copyNow s).2 := by
  unfold copyNow; repeat' split
  all_goals simp (maxDischargeDepth := 99) +contextual [hS, steady_foldl]
@[simp] theorem copyUp_steady {n k m : Nat} {l : List Decoded} {s : State} (hS : Steady z₀ s) : Steady z₀ (copyUp n k m l s) := by
  induction l generalizing m s with
  | nil => exact hS
  | cons d t ih =>
    unfold copyUp
    exact ih (memWrite_steady (fillSlot_steady hS))
@[simp] theorem execZoneCopy_steady {n : Nat} {sectors : List Decoded} {s : State} (hS : Steady z₀ s) : SteadyOut z₀ (execZoneCopy n sectors s) := by
  unfold execZoneCopy
  dsimp only
  refine unit_steady ?_
  split
  · split
    · simp [hS]
    · refine occurs_steady ?_ hS
      exact ochEnqueue_steady (memWrite_steady (copyUp_steady (copyNow_steady hS)))
  · simp [hS]
@[simp] theorem execDirectoryWrite_steady {s : State} (hS : Steady z₀ s) : SteadyOut z₀ (execDirectoryWrite s) := by
  unfold execDirectoryWrite; split <;> simp (maxDischargeDepth := 99) +contextual [hS, steady_foldl]
@[simp] theorem verifyAll_steady {l : List ClusterRead} {s : State} (hS : Steady z₀ s) : Steady z₀ (verifyAll l s).2 := by
  induction l generalizing s with
  | nil => exact hS
  | cons o t ih => exact ih (readCluster_steady hS)
@[simp] theorem execCopyVerify_steady {obs : List ClusterRead} {s : State} (hS : Steady z₀ s) : SteadyOut z₀ (execCopyVerify obs s) := by
  have hp : Steady z₀ (verifyAll obs s).2 := verifyAll_steady hS
  unfold execCopyVerify
  split
  · simp [hS]
  · refine occurs_steady ?_ hS
    refine steady_ite (setZone_steady (setOch_steady hp)) ?_
    exact raisePost_steady (put_steady (setOch_steady hp))
@[simp] theorem ochBoundary_steady {s : State} (hS : Steady z₀ s) : Steady z₀ (ochBoundary s) := by
  unfold ochBoundary; simp (maxDischargeDepth := 99) [hS]
@[simp] theorem execNextFreeSearch_steady {reads : List ((Nat × Nat) × ClusterRead)} {dirs : List (Nat × Nat)} {s : State} (hS : Steady z₀ s) : SteadyOut z₀ (execNextFreeSearch reads dirs s) := by
  unfold execNextFreeSearch; simp (maxDischargeDepth := 99) [hS]
@[simp] theorem execCalibrationRecordWrite_steady {s : State} (hS : Steady z₀ s) : SteadyOut z₀ (execCalibrationRecordWrite s) := by
  unfold execCalibrationRecordWrite
  dsimp only
  refine occurs_steady ?_ hS
  split
  · simp [hS]
  · split
    · simp (maxDischargeDepth := 99) [hS]
    · split
      · exact hS
      · exact ochAhead_steady (memWrite_steady (setOch_steady (setOch_steady hS)))
@[simp] theorem execOpticalRecoveryRead_steady {z i : Nat} {o : ClusterRead} {s : State} (hS : Steady z₀ s) : SteadyOut z₀ (execOpticalRecoveryRead z i o s) := by
  unfold execOpticalRecoveryRead; dsimp only; repeat' split
  all_goals simp (maxDischargeDepth := 99) +contextual [hS, steady_foldl]
@[simp] theorem execDiscFailure_steady {s : State} (hS : Steady z₀ s) : SteadyOut z₀ (execDiscFailure s) := by
  unfold execDiscFailure; simp (maxDischargeDepth := 99) [hS]

/-! Seals -/

@[simp] theorem setSeals_steady {r : SealSt} {s : State} (hS : Steady z₀ s) : Steady z₀ (setSeals r s) := by
  unfold setSeals; simp (maxDischargeDepth := 99) [hS]
@[simp] theorem putWindow_steady {f : Nat → Fld} {n v : Nat} {s : State} (hS : Steady z₀ s) : Steady z₀ (putWindow f n v s) := by
  unfold putWindow; simp (maxDischargeDepth := 99) +contextual [hS, steady_foldl]
@[simp] theorem execGroupFold_steady {z : Nat} {s : State} (hS : Steady z₀ s) : SteadyOut z₀ (execGroupFold z s) := by
  unfold execGroupFold
  split
  · simp [hS]
  · dsimp only
    split
    · simp [hS]
    · exact occurs_steady (showGroup_steady (showRun_steady (setCtxOf_steady hS))) hS
@[simp] theorem zoneDamaged_steady {z : Nat} {s : State} (hS : Steady z₀ s) : Steady z₀ (zoneDamaged z s) := by
  unfold zoneDamaged; simp (maxDischargeDepth := 99) [hS]
@[simp] theorem showCtx_steady {c : SealCtx} {s : State} (hS : Steady z₀ s) : Steady z₀ (showCtx c s) := by
  unfold showCtx
  exact steady_foldl (steady_foldl (showRun_steady hS) (fun t i h => showGroup_steady h)) (fun t p h => showLeaf_steady h)
@[simp] theorem execSealContextRebuild_steady {z : Nat} {blocks : List Nat} {readable : Bool} {s : State} (hS : Steady z₀ s) :
    SteadyOut z₀ (execSealContextRebuild z blocks readable s) := by
  unfold execSealContextRebuild
  exact occurs_steady (steady_ite (zoneDamaged_steady hS) (showCtx_steady (setCtxOf_steady hS))) hS
@[simp] theorem signFails_steady {s : State} (hS : Steady z₀ s) : Steady z₀ (signFails s) := by
  unfold signFails; simp (maxDischargeDepth := 99) [hS]
@[simp] theorem showHead_steady {seq h : Nat} {s : State} (hS : Steady z₀ s) : Steady z₀ (showHead seq h s) := by
  unfold showHead; simp (maxDischargeDepth := 99) [hS]
@[simp] theorem showSealLog_steady {free : Nat} {s : State} (hS : Steady z₀ s) : Steady z₀ (showSealLog free s) := by
  unfold showSealLog; simp (maxDischargeDepth := 99) [hS]
theorem logRoom_steady {n : Nat} {s t : State} (hS : Steady z₀ s) (e : logRoom n s = some t) : Steady z₀ t := by
  unfold logRoom at e
  split at e
  · cases e; exact hS
  · split at e
    · cases e
    · cases e; simp (maxDischargeDepth := 99) [hS]
@[simp] theorem logFull_steady {s : State} (hS : Steady z₀ s) : Steady z₀ (logFull s) := by
  unfold logFull; simp (maxDischargeDepth := 99) [hS]
@[simp] theorem commitSeal_steady {z : Nat} {c : SealCtx} {s : State} (hS : Steady z₀ s) : Steady z₀ (commitSeal z c s) := by
  unfold commitSeal; simp (maxDischargeDepth := 99) [hS]
@[simp] theorem sealedZone_steady {z : Nat} {s : State} (hS : Steady z₀ s) : Steady z₀ (sealedZone z s) := by
  unfold sealedZone; split <;> simp (maxDischargeDepth := 99) +contextual [hS, steady_foldl]
@[simp] theorem execSealZone_steady {ok1 ok2 : Bool} {s : State} (hS : Steady z₀ s) : SteadyOut z₀ (execSealZone ok1 ok2 s) := by
  unfold execSealZone
  split
  · simp [hS]
  · refine occurs_steady ?_ hS
    refine steady_ite (by simp [hS]) ?_
    split
    · simp [hS]
    · rename_i e
      simp [logRoom_steady hS e]
@[simp] theorem takeResponse_steady {port : Port} {alloc : Nat} {r : ProofReq} {status : Nat} {data : List Nat} {s : State} (hS : Steady z₀ s) : Steady z₀ (takeResponse port alloc r status data s) := by
  unfold takeResponse; simp (maxDischargeDepth := 99) [hS]
@[simp] theorem answer_steady {r : ProofReq} {status : Nat} {data : List Nat} {s : State} (hS : Steady z₀ s) : Steady z₀ (answer r status data s) := by
  unfold answer; split <;> simp (maxDischargeDepth := 99) +contextual [hS, steady_foldl]
@[simp] theorem execProofRequest_steady {port : Port} {bytes : List Nat} {s : State} (hS : Steady z₀ s) : SteadyOut z₀ (execProofRequest port bytes s) := by
  unfold execProofRequest; simp (maxDischargeDepth := 99) [hS]
@[simp] theorem onReq_steady {op : Nat} {f : ProofReq → State} {s : State} (hf : ∀ c, Steady z₀ (f c)) (hS : Steady z₀ s) :
    SteadyOut z₀ (onReq op f s) := by
  unfold onReq; split <;> simp [hS, hf]
@[simp] theorem execGetRecord_steady {readable : Bool} {s : State} (hS : Steady z₀ s) : SteadyOut z₀ (execGetRecord readable s) := by
  unfold execGetRecord
  refine onReq_steady (fun c => ?_) hS
  try dsimp only
  repeat' split
  all_goals simp (maxDischargeDepth := 99) [hS]
@[simp] theorem execGetZone_steady {readable : Bool} {s : State} (hS : Steady z₀ s) : SteadyOut z₀ (execGetZone readable s) := by
  unfold execGetZone
  refine onReq_steady (fun c => ?_) hS
  try dsimp only
  repeat' split
  all_goals simp (maxDischargeDepth := 99) [hS]
@[simp] theorem execGetChain_steady {readable : Bool} {s : State} (hS : Steady z₀ s) : SteadyOut z₀ (execGetChain readable s) := by
  unfold execGetChain; simp (maxDischargeDepth := 99) [hS]
@[simp] theorem execGetProof_steady {blocks : List (Option Nat)} {readable : Bool} {s : State} (hS : Steady z₀ s) : SteadyOut z₀ (execGetProof blocks readable s) := by
  unfold execGetProof
  refine onReq_steady (fun c => ?_) hS
  try dsimp only
  repeat' split
  all_goals simp (maxDischargeDepth := 99) [hS]
@[simp] theorem execAttest_steady {ok1 ok2 : Bool} {s : State} (hS : Steady z₀ s) : SteadyOut z₀ (execAttest ok1 ok2 s) := by
  unfold execAttest; simp (maxDischargeDepth := 99) [hS]
@[simp] theorem execGetCert_steady {s : State} (hS : Steady z₀ s) : SteadyOut z₀ (execGetCert s) := by
  unfold execGetCert; simp (maxDischargeDepth := 99) [hS]
@[simp] theorem execProofReceive_steady {port : Port} {tag alloc : Nat} {s : State} (hS : Steady z₀ s) : SteadyOut z₀ (execProofReceive port tag alloc s) := by
  unfold execProofReceive; repeat' split
  all_goals simp (maxDischargeDepth := 99) +contextual [hS, steady_foldl]
@[simp] theorem execProofResponseExpiry_steady {port : Port} {tag readyS : Nat} {s : State} (hS : Steady z₀ s) : SteadyOut z₀ (execProofResponseExpiry port tag readyS s) := by
  unfold execProofResponseExpiry; split <;> simp (maxDischargeDepth := 99) +contextual [hS, steady_foldl]
@[simp] theorem execRetentionWrite_steady {n value : Nat} {s : State} (hS : Steady z₀ s) : SteadyOut z₀ (execRetentionWrite n value s) := by
  unfold execRetentionWrite; simp (maxDischargeDepth := 99) [hS]
@[simp] theorem execKeyGenerate_steady {value : Nat} {s : State} (hS : Steady z₀ s) : SteadyOut z₀ (execKeyGenerate value s) := by
  unfold execKeyGenerate; simp (maxDischargeDepth := 99) [hS]
@[simp] theorem showKey_steady {k : Nat} {s : State} (hS : Steady z₀ s) : Steady z₀ (showKey k s) := by
  unfold showKey; simp (maxDischargeDepth := 99) [hS]
@[simp] theorem execKeyGenerateDone_steady {s : State} (hS : Steady z₀ s) : SteadyOut z₀ (execKeyGenerateDone s) := by
  unfold execKeyGenerateDone; split <;> simp (maxDischargeDepth := 99) +contextual [hS, steady_foldl]
@[simp] theorem execCertCommit_steady {s : State} (hS : Steady z₀ s) : SteadyOut z₀ (execCertCommit s) := by
  unfold execCertCommit; simp (maxDischargeDepth := 99) [hS]
@[simp] theorem execSealSelftest_steady {katOk ok1 ok2 : Bool} {s : State} (hS : Steady z₀ s) : SteadyOut z₀ (execSealSelftest katOk ok1 ok2 s) := by
  unfold execSealSelftest; split <;> simp (maxDischargeDepth := 99) +contextual [hS, steady_foldl]
@[simp] theorem execChainHeadSelect_steady {s : State} (hS : Steady z₀ s) : SteadyOut z₀ (execChainHeadSelect s) := by
  unfold execChainHeadSelect; dsimp only; repeat' split
  all_goals simp (maxDischargeDepth := 99) +contextual [hS, steady_foldl]
@[simp] theorem askWitness_steady {seq peer : Nat} {s : State} (hS : Steady z₀ s) : Steady z₀ (askWitness seq peer s) := by
  unfold askWitness; split <;> simp (maxDischargeDepth := 99) +contextual [hS, steady_foldl]
@[simp] theorem execWitnessRequest_steady {s : State} (hS : Steady z₀ s) : SteadyOut z₀ (execWitnessRequest s) := by
  unfold execWitnessRequest; split <;> simp (maxDischargeDepth := 99) +contextual [hS, steady_foldl]
@[simp] theorem execWitnessStatement_steady {peer seq : Nat} {stmt key : List Nat} {s : State} (hS : Steady z₀ s) :
    SteadyOut z₀ (execWitnessStatement peer seq stmt key s) := by
  unfold execWitnessStatement
  split
  · dsimp only
    refine occurs_steady ?_ hS
    split
    · simp [hS]
    · rename_i e
      have := logRoom_steady hS e
      exact raisePost_steady (bump_steady (setSeals_steady (showSealLog_steady this)))
  · simp [hS]
@[simp] theorem execWitnessTimeout_steady {peer seq elapsedMs : Nat} {s : State} (hS : Steady z₀ s) : SteadyOut z₀ (execWitnessTimeout peer seq elapsedMs s) := by
  unfold execWitnessTimeout; split <;> simp (maxDischargeDepth := 99) +contextual [hS, steady_foldl]

end Sys2Proof.Machine
end

