-- ==== Sys2Proof/Laws/SteadySystem.lean ====
section
/-! SUPPORT. Every operation of memory, data movement, records, power, modes, commands, ports and the fabric keeps what Laws/Steady.lean says: the queue, what has been sent, and the canonical
forms of registers and memory. -/

namespace Sys2Proof.Machine

open Sys2Proof

set_option linter.unusedSimpArgs false

variable {z₀ : State}

/-! MemProt -/

@[simp] theorem setMemp_steady {r : MemSt} {s : State} (hS : Steady z₀ s) : Steady z₀ (setMemp r s) := by
  unfold setMemp; simp (maxDischargeDepth := 99) [hS]
@[simp] theorem poisonWord_steady {code w : Nat} {s : State} (hS : Steady z₀ s) : Steady z₀ (poisonWord code w s) := by
  unfold poisonWord; simp (maxDischargeDepth := 99) [hS]
@[simp] theorem unpoisonWord_steady {code w : Nat} {s : State} (hS : Steady z₀ s) : Steady z₀ (unpoisonWord code w s) := by
  unfold unpoisonWord; simp (maxDischargeDepth := 99) [hS]
@[simp] theorem setUpset_steady {code w cls : Nat} {holds : Option (Nat × Nat)} {target : Bool × Nat} {s : State} (hS : Steady z₀ s) : Steady z₀ (setUpset code w cls holds target s) := by
  unfold setUpset; simp (maxDischargeDepth := 99) [hS]
@[simp] theorem clearUpset_steady {code w : Nat} {s : State} (hS : Steady z₀ s) : Steady z₀ (clearUpset code w s) := by
  unfold clearUpset; simp (maxDischargeDepth := 99) [hS]
@[simp] theorem addUpset_steady {code : Nat} {u : Upset} {s : State} (hS : Steady z₀ s) : Steady z₀ (addUpset code u s) := by
  unfold addUpset; dsimp only; repeat' split
  all_goals simp (maxDischargeDepth := 99) +contextual [hS, steady_foldl]
@[simp] theorem countCe_steady {code : Nat} {s : State} (hS : Steady z₀ s) : Steady z₀ (countCe code s) := by
  unfold countCe; simp (maxDischargeDepth := 99) [hS]
@[simp] theorem captureUe_steady {code a kind : Nat} {scrub : Bool} {s : State} (hS : Steady z₀ s) : Steady z₀ (captureUe code a kind scrub s) := by
  unfold captureUe; simp (maxDischargeDepth := 99) [hS]
@[simp] theorem recordUe_steady {code a kind : Nat} {scrub : Bool} {s : State} (hS : Steady z₀ s) : Steady z₀ (recordUe code a kind scrub s) := by
  unfold recordUe; simp (maxDischargeDepth := 99) [hS]
@[simp] theorem loseBlock_steady {ns blk cause : Nat} {s : State} (hS : Steady z₀ s) : Steady z₀ (loseBlock ns blk cause s) := by
  unfold loseBlock; simp (maxDischargeDepth := 99) [hS]
@[simp] theorem loseContext_steady {stamp : Nat} {target : Bool} {s : State} (hS : Steady z₀ s) : Steady z₀ (loseContext stamp target s) := by
  unfold loseContext; split <;> simp (maxDischargeDepth := 99) +contextual [hS, steady_foldl]
@[simp] theorem damageCtx_steady {z : Nat} {s : State} (hS : Steady z₀ s) : Steady z₀ (damageCtx z s) := by
  unfold damageCtx; split <;> simp (maxDischargeDepth := 99) +contextual [hS, steady_foldl]
@[simp] theorem regionAct_steady {kind a : Nat} {holds : Option (Nat × Nat)} {target : Bool} {s : State} (hS : Steady z₀ s) : Steady z₀ (regionAct kind a holds target s) := by
  unfold regionAct; repeat' split
  all_goals simp (maxDischargeDepth := 99) +contextual [hS, steady_foldl]
@[simp] theorem bufferAct_steady {a : Nat} {s : State} (hS : Steady z₀ s) : Steady z₀ (bufferAct a s) := by
  unfold bufferAct; split <;> simp (maxDischargeDepth := 99) +contextual [hS, steady_foldl]
@[simp] theorem xorMem_steady {a n v : Nat} {s : State} (hS : Steady z₀ s) : Steady z₀ (xorMem a n v s) := by
  unfold xorMem; simp (maxDischargeDepth := 99) [hS]
@[simp] theorem ueWord_steady {code w : Nat} {scrub : Bool} {holds : Option (Nat × Nat)} {target : Bool × Nat} {s : State} (hS : Steady z₀ s) : Steady z₀ (ueWord code w scrub holds target s) := by
  unfold ueWord; simp (maxDischargeDepth := 99) [hS]
@[simp] theorem checkWord_steady {code w : Nat} {scrub raced : Bool} {s : State} (hS : Steady z₀ s) : Steady z₀ (checkWord code w scrub raced s) := by
  unfold checkWord; split <;> simp (maxDischargeDepth := 99) +contextual [hS, steady_foldl]
@[simp] theorem flipDram_steady {w : Nat} {s : State} (hS : Steady z₀ s) : Steady z₀ (flipDram w s) := by
  unfold flipDram; simp (maxDischargeDepth := 99) [hS]
@[simp] theorem flipEight_steady {code w : Nat} {raw : Bool} {s : State} (hS : Steady z₀ s) : Steady z₀ (flipEight code w raw s) := by
  unfold flipEight; simp (maxDischargeDepth := 99) [hS]
@[simp] theorem flipUsed_steady {s : State} (hS : Steady z₀ s) : Steady z₀ (flipUsed s) := by
  unfold flipUsed; simp (maxDischargeDepth := 99) [hS]
@[simp] theorem flip_steady {code a n : Nat} {s : State} (hS : Steady z₀ s) : Steady z₀ (flip code a n s) := by
  unfold flip; simp (maxDischargeDepth := 99) [hS]
@[simp] theorem rmwWord_steady {code w : Nat} {s : State} (hS : Steady z₀ s) : Steady z₀ (rmwWord code w s) := by
  unfold rmwWord; repeat' split
  all_goals simp (maxDischargeDepth := 99) +contextual [hS, steady_foldl]
@[simp] theorem writeWordOf_steady {code a n : Nat} {s : State} {w : Nat} (hS : Steady z₀ s) : Steady z₀ (writeWordOf code a n s w) := by
  unfold writeWordOf; simp (maxDischargeDepth := 99) [hS]
@[simp] theorem storeBytes_steady {code a : Nat} {l : List Nat} {s : State} (hS : Steady z₀ s) : Steady z₀ (storeBytes code a l s) := by
  unfold storeBytes; simp (maxDischargeDepth := 99) +contextual [hS, steady_foldl]
@[simp] theorem loadChecks_steady {code a n : Nat} {s : State} (hS : Steady z₀ s) : Steady z₀ (loadChecks code a n s) := by
  unfold loadChecks; simp (maxDischargeDepth := 99) +contextual [hS, steady_foldl]
@[simp] theorem execPartialWrite_steady {addr : Nat} {data : List Nat} {ups : List Upset} {s : State} (hS : Steady z₀ s) : SteadyOut z₀ (execPartialWrite addr data ups s) := by
  unfold execPartialWrite; simp (maxDischargeDepth := 99) +contextual [hS, steady_foldl]
@[simp] theorem execDramTraining_steady {failed : List Nat} {swaps : List (List Nat)} {s : State} (hS : Steady z₀ s) : SteadyOut z₀ (execDramTraining failed swaps s) := by
  unfold execDramTraining; simp (maxDischargeDepth := 99) [hS]
@[simp] theorem execZqCalibration_steady {s : State} (hS : Steady z₀ s) : SteadyOut z₀ (execZqCalibration s) := by
  unfold execZqCalibration; simp (maxDischargeDepth := 99) [hS]
@[simp] theorem execDramTemperaturePoll_steady {status : List Nat} {coolMs : Nat} {s : State} (hS : Steady z₀ s) : SteadyOut z₀ (execDramTemperaturePoll status coolMs s) := by
  unfold execDramTemperaturePoll; simp (maxDischargeDepth := 99) [hS]
@[simp] theorem execDramScrubRead_steady {ups : List Upset} {raced : Bool} {s : State} (hS : Steady z₀ s) : SteadyOut z₀ (execDramScrubRead ups raced s) := by
  unfold execDramScrubRead; simp (maxDischargeDepth := 99) +contextual [hS, steady_foldl]
@[simp] theorem passLate_steady {timeMs tookMs : Nat} {s : State} (hS : Steady z₀ s) : Steady z₀ (passLate timeMs tookMs s) := by
  unfold passLate; simp (maxDischargeDepth := 99) [hS]
@[simp] theorem execScrubPassEnd_steady {dram : Bool} {tookMs ecsMax ecsDev : Nat} {s : State} (hS : Steady z₀ s) : SteadyOut z₀ (execScrubPassEnd dram tookMs ecsMax ecsDev s) := by
  unfold execScrubPassEnd; simp (maxDischargeDepth := 99) [hS]
@[simp] theorem execCeThreshold_steady {s : State} (hS : Steady z₀ s) : SteadyOut z₀ (execCeThreshold s) := by
  unfold execCeThreshold; simp (maxDischargeDepth := 99) [hS]
@[simp] theorem execFlipArm_steady {value : Nat} {s : State} (hS : Steady z₀ s) : SteadyOut z₀ (execFlipArm value s) := by
  unfold execFlipArm; simp (maxDischargeDepth := 99) [hS]
@[simp] theorem promotion_steady {last : Bool} {s : State} (hS : Steady z₀ s) : Steady z₀ (promotion last s) := by
  unfold promotion; simp (maxDischargeDepth := 99) [hS]
@[simp] theorem execSramRowPromotion_steady {m : Nat} {column : Bool} {errors : Nat} {stuck : Bool} {s : State} (hS : Steady z₀ s) : SteadyOut z₀ (execSramRowPromotion m column errors stuck s) := by
  unfold execSramRowPromotion; simp (maxDischargeDepth := 99) [hS]
@[simp] theorem columnsPromoted_steady {s : State} (hS : Steady z₀ s) : Steady z₀ (columnsPromoted s) := by
  unfold columnsPromoted; simp (maxDischargeDepth := 99) +contextual [hS, steady_foldl]
@[simp] theorem showPpr_steady {s : State} (hS : Steady z₀ s) : Steady z₀ (showPpr s) := by
  unfold showPpr; simp (maxDischargeDepth := 99) [hS]
@[simp] theorem execDramRepairCandidate_steady {row errors : Nat} {stuck : Bool} {s : State} (hS : Steady z₀ s) : SteadyOut z₀ (execDramRepairCandidate row errors stuck s) := by
  unfold execDramRepairCandidate; simp (maxDischargeDepth := 99) [hS]
@[simp] theorem execPostPackageRepair_steady {refused : List Nat} {s : State} (hS : Steady z₀ s) : SteadyOut z₀ (execPostPackageRepair refused s) := by
  unfold execPostPackageRepair; simp (maxDischargeDepth := 99) +contextual [hS, steady_foldl]

/-! TableCache -/

@[simp] theorem setTch_steady {r : TchSt} {s : State} (hS : Steady z₀ s) : Steady z₀ (setTch r s) := by
  unfold setTch; simp (maxDischargeDepth := 99) [hS]
@[simp] theorem restoreSub_steady {a : Nat} {u : Under} {s : State} (hS : Steady z₀ s) : Steady z₀ (restoreSub a u s) := by
  unfold restoreSub; simp (maxDischargeDepth := 99) [hS]
@[simp] theorem drainSub_steady {both : Bool} {a : Nat} {s : State} (hS : Steady z₀ s) : Steady z₀ (drainSub both a s) := by
  unfold drainSub; simp (maxDischargeDepth := 99) +contextual [hS, steady_foldl]
@[simp] theorem drainAll_steady {addr : Nat} {dirty : AMap Under} {s : State} (hS : Steady z₀ s) : Steady z₀ (drainAll addr dirty s) := by
  unfold drainAll; simp (maxDischargeDepth := 99) +contextual [hS, steady_foldl]
@[simp] theorem discardAll_steady {addr : Nat} {dirty : AMap Under} {s : State} (hS : Steady z₀ s) : Steady z₀ (discardAll addr dirty s) := by
  unfold discardAll; simp (maxDischargeDepth := 99) +contextual [hS, steady_foldl]
@[simp] theorem putWay_steady {k : Nat} {l : TchLine} {s : State} (hS : Steady z₀ s) : Steady z₀ (putWay k l s) := by
  unfold putWay; simp (maxDischargeDepth := 99) [hS]
@[simp] theorem dropWay_steady {k : Nat} {s : State} (hS : Steady z₀ s) : Steady z₀ (dropWay k s) := by
  unfold dropWay; simp (maxDischargeDepth := 99) [hS]
@[simp] theorem evictDone_steady {s : State} (hS : Steady z₀ s) : Steady z₀ (evictDone s) := by
  unfold evictDone; split <;> simp (maxDischargeDepth := 99) +contextual [hS, steady_foldl]
@[simp] theorem evict_steady {set w : Nat} {s : State} (hS : Steady z₀ s) : Steady z₀ (evict set w s) := by
  unfold evict; split <;> simp (maxDischargeDepth := 99) +contextual [hS, steady_foldl]
theorem install_steady {a mask valid : Nat} {lk : Bool} {dirty : AMap Under} {s : State} {p : Nat × State} (hS : Steady z₀ s)
    (e : install a mask lk valid dirty s = some p) : Steady z₀ p.2 := by
  unfold install at e
  split at e
  · cases e
  · cases e; simp (maxDischargeDepth := 99) [hS]
@[simp] theorem cacheFlip_steady {a : Nat} {write : Bool} {s : State} (hS : Steady z₀ s) : Steady z₀ (cacheFlip a write s) := by
  unfold cacheFlip; simp (maxDischargeDepth := 99) [hS]
@[simp] theorem fillSub_steady {a : Nat} {s : State} (hS : Steady z₀ s) : Steady z₀ (fillSub a s) := by
  unfold fillSub; simp (maxDischargeDepth := 99) [hS]
@[simp] theorem cacheUe_steady {a w : Nat} {scrub : Bool} {holds : Option (Nat × Nat)} {target : Bool × Nat} {s : State} (hS : Steady z₀ s) : Steady z₀ (cacheUe a w scrub holds target s) := by
  unfold cacheUe; repeat' split
  all_goals simp (maxDischargeDepth := 99) +contextual [hS, steady_foldl]
@[simp] theorem cacheChecks_steady {a n : Nat} {s : State} (hS : Steady z₀ s) : Steady z₀ (cacheChecks a n s) := by
  unfold cacheChecks
  refine steady_foldl hS ?_
  intro t w ht
  split <;> simp (maxDischargeDepth := 99) [ht]
@[simp] theorem scrubCached_steady {w : Nat} {raced : Bool} {s : State} (hS : Steady z₀ s) : Steady z₀ (scrubCached w raced s) := by
  unfold scrubCached; split <;> simp (maxDischargeDepth := 99) +contextual [hS, steady_foldl]
@[simp] theorem upsetsAt_steady {code w : Nat} {ups : List Upset} {s : State} (hS : Steady z₀ s) : Steady z₀ (upsetsAt code w ups s) := by
  unfold upsetsAt; simp (maxDischargeDepth := 99) +contextual [hS, steady_foldl]
@[simp] theorem execSramScrubRead_steady {ups : List Upset} {raced : Bool} {s : State} (hS : Steady z₀ s) : SteadyOut z₀ (execSramScrubRead ups raced s) := by
  unfold execSramScrubRead; repeat' split
  all_goals simp (maxDischargeDepth := 99) +contextual [hS, steady_foldl]
@[simp] theorem cacheRead_steady {master a n : Nat} {s : State} (hS : Steady z₀ s) : Steady z₀ (cacheRead master a n s) := by
  unfold cacheRead
  split
  · simp (maxDischargeDepth := 99) [hS]
  · refine steady_ite (by simp [hS]) ?_
    split
    · rename_i e
      simp (maxDischargeDepth := 99) [install_steady (bump_steady hS) e]
    · simp (maxDischargeDepth := 99) [hS]
@[simp] theorem writeCached_steady {k a : Nat} {l : List Nat} {s : State} (hS : Steady z₀ s) : Steady z₀ (writeCached k a l s) := by
  unfold writeCached; simp (maxDischargeDepth := 99) +contextual [hS, steady_foldl]
@[simp] theorem writeNew_steady {k a valid : Nat} {l : List Nat} {s : State} (hS : Steady z₀ s) : Steady z₀ (writeNew k a valid l s) := by
  unfold writeNew; simp (maxDischargeDepth := 99) [hS]
@[simp] theorem cacheWrite_steady {master a : Nat} {l : List Nat} {s : State} (hS : Steady z₀ s) : Steady z₀ (cacheWrite master a l s) := by
  unfold cacheWrite
  dsimp only
  split
  · simp (maxDischargeDepth := 99) [hS]
  · split
    · split
      · split
        · rename_i e
          exact writeNew_steady (install_steady (drainAll_steady (setTch_steady (bump_steady hS))) e)
        · exact storeBytes_steady (drainAll_steady (setTch_steady (bump_steady hS)))
      · split
        · rename_i e
          exact writeNew_steady (install_steady (setTch_steady (bump_steady hS)) e)
        · exact storeBytes_steady (drainAll_steady (setTch_steady (bump_steady hS)))
    · split
      · rename_i e
        exact writeNew_steady (install_steady (bump_steady hS) e)
      · exact storeBytes_steady (bump_steady hS)
@[simp] theorem meetUpset_steady {s : State} {u : Upset} (hS : Steady z₀ s) : Steady z₀ (meetUpset s u) := by
  unfold meetUpset; simp (maxDischargeDepth := 99) [hS]
@[simp] theorem busLoad_steady {master a n : Nat} {s : State} (hS : Steady z₀ s) : Steady z₀ (busLoad master a n s) := by
  unfold busLoad; simp (maxDischargeDepth := 99) +contextual [hS, steady_foldl]
@[simp] theorem busStore_steady {master a : Nat} {l : List Nat} {s : State} (hS : Steady z₀ s) : Steady z₀ (busStore master a l s) := by
  unfold busStore; simp (maxDischargeDepth := 99) +contextual [hS, steady_foldl]
@[simp] theorem poisonRange_steady {a : Nat} {marks : List Bool} {s : State} (hS : Steady z₀ s) : Steady z₀ (poisonRange a marks s) := by
  unfold poisonRange; simp (maxDischargeDepth := 99) +contextual [hS, steady_foldl]
@[simp] theorem opRefused_steady {s : State} (hS : Steady z₀ s) : Steady z₀ (opRefused s) := by
  unfold opRefused; simp (maxDischargeDepth := 99) [hS]
@[simp] theorem tchGo_steady {op ways : Nat} {s : State} (hS : Steady z₀ s) : Steady z₀ (tchGo op ways s) := by
  unfold tchGo; simp (maxDischargeDepth := 99) [hS]
@[simp] theorem wayOp_steady {op k : Nat} {s : State} (hS : Steady z₀ s) : Steady z₀ (wayOp op k s) := by
  unfold wayOp; split <;> simp (maxDischargeDepth := 99) +contextual [hS, steady_foldl]
@[simp] theorem preload_steady {a ways : Nat} {s : State} (hS : Steady z₀ s) : Steady z₀ (preload a ways s) := by
  unfold preload
  refine steady_ite hS ?_
  split
  · dsimp only
    refine steady_foldl (by simp (maxDischargeDepth := 99) [hS]) ?_
    intro t i ht
    split <;> simp [ht]
  · split
    · exact hS
    · rename_i e
      refine steady_foldl (install_steady hS e) ?_
      intro t i ht
      simp [ht]
@[simp] theorem bufferOp_steady {op a : Nat} {s : State} (hS : Steady z₀ s) : Steady z₀ (bufferOp op a s) := by
  unfold bufferOp; split <;> simp (maxDischargeDepth := 99) +contextual [hS, steady_foldl]
@[simp] theorem lineOp_steady {op ways i : Nat} {s : State} (hS : Steady z₀ s) : Steady z₀ (lineOp op ways i s) := by
  unfold lineOp; dsimp only; repeat' split
  all_goals simp (maxDischargeDepth := 99) +contextual [hS, steady_foldl]
@[simp] theorem allBuffers_steady {op : Nat} {s : State} (hS : Steady z₀ s) : Steady z₀ (allBuffers op s) := by
  unfold allBuffers; simp (maxDischargeDepth := 99) +contextual [hS, steady_foldl]
@[simp] theorem passLines_steady {op n : Nat} {s : State} (hS : Steady z₀ s) : Steady z₀ (passLines op n s) := by
  unfold passLines; split <;> simp (maxDischargeDepth := 99) +contextual [hS, steady_foldl]
@[simp] theorem rangeOp_steady {op : Nat} {go : Bool} {ways n : Nat} {s : State} (hS : Steady z₀ s) : SteadyOut z₀ (rangeOp op go ways n s) := by
  unfold rangeOp; simp (maxDischargeDepth := 99) [hS]
@[simp] theorem execTchInvalidate_steady {go : Bool} {n : Nat} {s : State} (hS : Steady z₀ s) : SteadyOut z₀ (execTchInvalidate go n s) := by
  unfold execTchInvalidate; simp (maxDischargeDepth := 99) [hS]
@[simp] theorem execTchWriteback_steady {go : Bool} {n : Nat} {s : State} (hS : Steady z₀ s) : SteadyOut z₀ (execTchWriteback go n s) := by
  unfold execTchWriteback; simp (maxDischargeDepth := 99) [hS]
@[simp] theorem execTchWbInv_steady {go : Bool} {n : Nat} {s : State} (hS : Steady z₀ s) : SteadyOut z₀ (execTchWbInv go n s) := by
  unfold execTchWbInv; simp (maxDischargeDepth := 99) [hS]
@[simp] theorem execTchPreload_steady {go : Bool} {n : Nat} {ways : Nat} {s : State} (hS : Steady z₀ s) : SteadyOut z₀ (execTchPreload go n ways s) := by
  unfold execTchPreload; simp (maxDischargeDepth := 99) [hS]
@[simp] theorem execTchInvalidateAll_steady {go : Bool} {n : Nat} {s : State} (hS : Steady z₀ s) : SteadyOut z₀ (execTchInvalidateAll go n s) := by
  unfold execTchInvalidateAll; simp (maxDischargeDepth := 99) [hS]
@[simp] theorem execTchWbInvAll_steady {go : Bool} {n : Nat} {s : State} (hS : Steady z₀ s) : SteadyOut z₀ (execTchWbInvAll go n s) := by
  unfold execTchWbInvAll; simp (maxDischargeDepth := 99) [hS]
@[simp] theorem startDisable_steady {s : State} (hS : Steady z₀ s) : Steady z₀ (startDisable s) := by
  unfold startDisable; simp (maxDischargeDepth := 99) [hS]
@[simp] theorem disabled_steady {own : Bool} {s : State} (hS : Steady z₀ s) : Steady z₀ (disabled own s) := by
  unfold disabled; simp (maxDischargeDepth := 99) [hS]
@[simp] theorem execTchRangeDone_steady {s : State} (hS : Steady z₀ s) : SteadyOut z₀ (execTchRangeDone s) := by
  unfold execTchRangeDone; split <;> simp (maxDischargeDepth := 99) +contextual [hS, steady_foldl]
@[simp] theorem execTchEnableWrite_steady {en : Bool} {s : State} (hS : Steady z₀ s) : SteadyOut z₀ (execTchEnableWrite en s) := by
  unfold execTchEnableWrite; simp (maxDischargeDepth := 99) [hS]
@[simp] theorem execTchEvictionWrite_steady {complete : Bool} {s : State} (hS : Steady z₀ s) : SteadyOut z₀ (execTchEvictionWrite complete s) := by
  unfold execTchEvictionWrite; dsimp only; repeat' split
  all_goals simp (maxDischargeDepth := 99) +contextual [hS, steady_foldl]
@[simp] theorem showDiag_steady {s : State} (hS : Steady z₀ s) : Steady z₀ (showDiag s) := by
  unfold showDiag; simp (maxDischargeDepth := 99) [hS]
@[simp] theorem loadSection_steady {dram : Bool} {s : State} {x : ImgSection} (hS : Steady z₀ s) : Steady z₀ (loadSection dram s x) := by
  unfold loadSection; simp (maxDischargeDepth := 99) [hS]
@[simp] theorem loadFirmware_steady {dram : Bool} {i : Image} {s : State} (hS : Steady z₀ s) : Steady z₀ (loadFirmware dram i s) := by
  unfold loadFirmware; simp (maxDischargeDepth := 99) +contextual [hS, steady_foldl]

/-! DataMove -/

@[simp] theorem setDma_steady {c : Nat} {r : DmaSt} {s : State} (hS : Steady z₀ s) : Steady z₀ (setDma c r s) := by
  unfold setDma; simp (maxDischargeDepth := 99) [hS]
@[simp] theorem toMover_steady {c : Nat} {s : State} (hS : Steady z₀ s) : Steady z₀ (toMover c s) := by
  unfold toMover; simp (maxDischargeDepth := 99) [hS]
@[simp] theorem fillMovers_steady {s : State} (hS : Steady z₀ s) : Steady z₀ (fillMovers s) := by
  unfold fillMovers; repeat' split
  all_goals simp (maxDischargeDepth := 99) +contextual [hS, steady_foldl]
@[simp] theorem dmaIrq_steady {c : Nat} {s : State} (hS : Steady z₀ s) : Steady z₀ (dmaIrq c s) := by
  unfold dmaIrq; simp (maxDischargeDepth := 99) [hS]
@[simp] theorem dmaEnd_steady {c code : Nat} {s : State} (hS : Steady z₀ s) : Steady z₀ (dmaEnd c code s) := by
  unfold dmaEnd; simp (maxDischargeDepth := 99) [hS]
@[simp] theorem dmaStart_steady {c : Nat} {s : State} (hS : Steady z₀ s) : Steady z₀ (dmaStart c s) := by
  unfold dmaStart; simp (maxDischargeDepth := 99) [hS]
@[simp] theorem dmaCtl_steady {c value : Nat} {s : State} (hS : Steady z₀ s) : Steady z₀ (dmaCtl c value s) := by
  unfold dmaCtl; simp (maxDischargeDepth := 99) [hS]
@[simp] theorem execDmaGo_steady {c value : Nat} {s : State} (hS : Steady z₀ s) : SteadyOut z₀ (execDmaGo c value s) := by
  unfold execDmaGo; simp (maxDischargeDepth := 99) [hS]
@[simp] theorem execDmaAbort_steady {c : Nat} {s : State} (hS : Steady z₀ s) : SteadyOut z₀ (execDmaAbort c s) := by
  unfold execDmaAbort; simp (maxDischargeDepth := 99) [hS]
@[simp] theorem execDmaPreempt_steady {c : Nat} {s : State} (hS : Steady z₀ s) : SteadyOut z₀ (execDmaPreempt c s) := by
  unfold execDmaPreempt; split <;> simp (maxDischargeDepth := 99) +contextual [hS, steady_foldl]
@[simp] theorem shadowLoad_steady {c : Nat} {s : State} (hS : Steady z₀ s) : Steady z₀ (shadowLoad c s) := by
  unfold shadowLoad; simp (maxDischargeDepth := 99) [hS]
@[simp] theorem dmaDone_steady {c : Nat} {s : State} (hS : Steady z₀ s) : Steady z₀ (dmaDone c s) := by
  unfold dmaDone; simp (maxDischargeDepth := 99) [hS]
@[simp] theorem burstEnds_steady {c : Nat} {s : State} (hS : Steady z₀ s) : Steady z₀ (burstEnds c s) := by
  unfold burstEnds; simp (maxDischargeDepth := 99) [hS]
@[simp] theorem dmaPfail_steady {s : State} (hS : Steady z₀ s) : Steady z₀ (dmaPfail s) := by
  unfold dmaPfail; simp (maxDischargeDepth := 99) +contextual [hS, steady_foldl]
@[simp] theorem setFif_steady {f : Nat} {r : FifoSt} {s : State} (hS : Steady z₀ s) : Steady z₀ (setFif f r s) := by
  unfold setFif; simp (maxDischargeDepth := 99) [hS]
@[simp] theorem fifNotice_steady {f : Nat} {s t : State} (hS : Steady z₀ t) : Steady z₀ (fifNotice f s t) := by
  unfold fifNotice; simp (maxDischargeDepth := 99) [hS]
@[simp] theorem execFifoCfgWrite_steady {f value : Nat} {s : State} (hS : Steady z₀ s) : SteadyOut z₀ (execFifoCfgWrite f value s) := by
  unfold execFifoCfgWrite; simp (maxDischargeDepth := 99) [hS]
@[simp] theorem fifPush_steady {f : Nat} {soi eoi : Bool} {data : Nat} {s : State} (hS : Steady z₀ s) : Steady z₀ (fifPush f soi eoi data s) := by
  unfold fifPush; simp (maxDischargeDepth := 99) [hS]
@[simp] theorem execFifoPush_steady {f mark data : Nat} {s : State} (hS : Steady z₀ s) : SteadyOut z₀ (execFifoPush f mark data s) := by
  unfold execFifoPush; simp (maxDischargeDepth := 99) [hS]
@[simp] theorem fifPop_steady {f : Nat} {s : State} (hS : Steady z₀ s) : Steady z₀ (fifPop f s).2 := by
  unfold fifPop; dsimp only; repeat' split
  all_goals simp (maxDischargeDepth := 99) +contextual [hS, steady_foldl]
@[simp] theorem execFifoPop_steady {f : Nat} {s : State} (hS : Steady z₀ s) : SteadyOut z₀ (execFifoPop f s) := by
  unfold execFifoPop; simp (maxDischargeDepth := 99) [hS]
@[simp] theorem fifFlush_steady {f : Nat} {s : State} (hS : Steady z₀ s) : Steady z₀ (fifFlush f s) := by
  unfold fifFlush; simp (maxDischargeDepth := 99) [hS]
@[simp] theorem execFifoFlush_steady {f : Nat} {s : State} (hS : Steady z₀ s) : SteadyOut z₀ (execFifoFlush f s) := by
  unfold execFifoFlush; simp (maxDischargeDepth := 99) [hS]
@[simp] theorem execFifoMark_steady {f : Nat} {s : State} (hS : Steady z₀ s) : SteadyOut z₀ (execFifoMark f s) := by
  unfold execFifoMark; simp (maxDischargeDepth := 99) [hS]
@[simp] theorem execFifoRewind_steady {f : Nat} {s : State} (hS : Steady z₀ s) : SteadyOut z₀ (execFifoRewind f s) := by
  unfold execFifoRewind; simp (maxDischargeDepth := 99) [hS]

/-! Records -/

@[simp] theorem setEvr_steady {r : EvrSt} {s : State} (hS : Steady z₀ s) : Steady z₀ (setEvr r s) := by
  unfold setEvr; simp (maxDischargeDepth := 99) [hS]
@[simp] theorem setCal_steady {r : CalSt} {s : State} (hS : Steady z₀ s) : Steady z₀ (setCal r s) := by
  unfold setCal; simp (maxDischargeDepth := 99) [hS]
@[simp] theorem setTmp_steady {r : TmpSt} {s : State} (hS : Steady z₀ s) : Steady z₀ (setTmp r s) := by
  unfold setTmp; simp (maxDischargeDepth := 99) [hS]
@[simp] theorem refillBuckets_steady {s : State} (hS : Steady z₀ s) : Steady z₀ (refillBuckets s) := by
  unfold refillBuckets; simp (maxDischargeDepth := 99) [hS]
@[simp] theorem execLifetimeSecondTick_steady {s : State} (hS : Steady z₀ s) : SteadyOut z₀ (execLifetimeSecondTick s) := by
  unfold execLifetimeSecondTick; simp (maxDischargeDepth := 99) [hS]
@[simp] theorem putWall_steady {v : Nat} {s : State} (hS : Steady z₀ s) : Steady z₀ (putWall v s) := by
  unfold putWall; simp (maxDischargeDepth := 99) [hS]
@[simp] theorem execWallTimeTick_steady {s : State} (hS : Steady z₀ s) : SteadyOut z₀ (execWallTimeTick s) := by
  unfold execWallTimeTick; simp (maxDischargeDepth := 99) [hS]
@[simp] theorem wallTakes_steady {s : State} (hS : Steady z₀ s) : Steady z₀ (wallTakes s) := by
  unfold wallTakes; split <;> simp (maxDischargeDepth := 99) +contextual [hS, steady_foldl]
@[simp] theorem execTimeSet_steady {hi : Nat} {s : State} (hS : Steady z₀ s) : SteadyOut z₀ (execTimeSet hi s) := by
  unfold execTimeSet; simp (maxDischargeDepth := 99) [hS]
@[simp] theorem execEventPost_steady {p master value : Nat} {s : State} (hS : Steady z₀ s) : SteadyOut z₀ (execEventPost p master value s) := by
  unfold execEventPost; simp (maxDischargeDepth := 99) [hS]
@[simp] theorem execHardwareEventPost_steady {code u : Nat} {payload : List Nat} {s : State} (hS : Steady z₀ s) : SteadyOut z₀ (execHardwareEventPost code u payload s) := by
  unfold execHardwareEventPost; simp (maxDischargeDepth := 99) [hS]
@[simp] theorem putSeq_steady {v : Nat} {s : State} (hS : Steady z₀ s) : Steady z₀ (putSeq v s) := by
  unfold putSeq; simp (maxDischargeDepth := 99) [hS]
@[simp] theorem headMoves_steady {s : State} (hS : Steady z₀ s) : Steady z₀ (headMoves s) := by
  unfold headMoves; simp (maxDischargeDepth := 99) [hS]
@[simp] theorem unstage_steady {s : State} (hS : Steady z₀ s) : Steady z₀ (unstage s) := by
  unfold unstage; simp (maxDischargeDepth := 99) [hS]
@[simp] theorem writeRecord_steady {r : EvRec} {s : State} (hS : Steady z₀ s) : Steady z₀ (writeRecord r s) := by
  unfold writeRecord; simp (maxDischargeDepth := 99) [hS]
@[simp] theorem leaveQueue_steady {r : EvRec} {s : State} (hS : Steady z₀ s) : Steady z₀ (leaveQueue r s) := by
  unfold leaveQueue; simp (maxDischargeDepth := 99) [hS]
@[simp] theorem execRecordWrite_steady {s : State} (hS : Steady z₀ s) : SteadyOut z₀ (execRecordWrite s) := by
  unfold execRecordWrite; split <;> simp (maxDischargeDepth := 99) +contextual [hS, steady_foldl]
@[simp] theorem execRepeatMerge_steady {s : State} (hS : Steady z₀ s) : SteadyOut z₀ (execRepeatMerge s) := by
  unfold execRepeatMerge; split <;> simp (maxDischargeDepth := 99) +contextual [hS, steady_foldl]
@[simp] theorem execRecordsLost_steady {s : State} (hS : Steady z₀ s) : SteadyOut z₀ (execRecordsLost s) := by
  unfold execRecordsLost; simp (maxDischargeDepth := 99) [hS]
@[simp] theorem ringScan_steady {s : State} (hS : Steady z₀ s) : Steady z₀ (ringScan s) := by
  unfold ringScan; split <;> simp (maxDischargeDepth := 99) +contextual [hS, steady_foldl]
@[simp] theorem execRingScan_steady {s : State} (hS : Steady z₀ s) : SteadyOut z₀ (execRingScan s) := by
  unfold execRingScan; simp (maxDischargeDepth := 99) [hS]
@[simp] theorem execCalibrationDue_steady {k : Nat} {s : State} (hS : Steady z₀ s) : SteadyOut z₀ (execCalibrationDue k s) := by
  unfold execCalibrationDue; simp (maxDischargeDepth := 99) [hS]
@[simp] theorem execCalibrationOverdue_steady {k : Nat} {s : State} (hS : Steady z₀ s) : SteadyOut z₀ (execCalibrationOverdue k s) := by
  unfold execCalibrationOverdue; simp (maxDischargeDepth := 99) [hS]
@[simp] theorem execCalDone_steady {value : Nat} {s : State} (hS : Steady z₀ s) : SteadyOut z₀ (execCalDone value s) := by
  unfold execCalDone; simp (maxDischargeDepth := 99) [hS]
@[simp] theorem execCoreRetire_steady {mask : Nat} {s : State} (hS : Steady z₀ s) : SteadyOut z₀ (execCoreRetire mask s) := by
  unfold execCoreRetire; simp (maxDischargeDepth := 99) [hS]
@[simp] theorem execCore8Select_steady {sel : Nat} {s : State} (hS : Steady z₀ s) : SteadyOut z₀ (execCore8Select sel s) := by
  unfold execCore8Select; simp (maxDischargeDepth := 99) [hS]
@[simp] theorem execSpareDiscPromote_steady {d : Nat} {s : State} (hS : Steady z₀ s) : SteadyOut z₀ (execSpareDiscPromote d s) := by
  unfold execSpareDiscPromote; simp (maxDischargeDepth := 99) [hS]

/-! Power -/

@[simp] theorem setPmu_steady {r : PmuSt} {s : State} (hS : Steady z₀ s) : Steady z₀ (setPmu r s) := by
  unfold setPmu; simp (maxDischargeDepth := 99) [hS]
@[simp] theorem setBoot_steady {r : BootSt} {s : State} (hS : Steady z₀ s) : Steady z₀ (setBoot r s) := by
  unfold setBoot; simp (maxDischargeDepth := 99) [hS]
@[simp] theorem hiddenOff_steady {d : Nat} {s : State} (hS : Steady z₀ s) : Steady z₀ (hiddenOff d s) := by
  unfold hiddenOff; simp (maxDischargeDepth := 99) [hS]
@[simp] theorem domainOff_steady {d : Nat} {s : State} (hS : Steady z₀ s) : Steady z₀ (domainOff d s) := by
  unfold domainOff; simp (maxDischargeDepth := 99) [hS]
@[simp] theorem domainsOff_steady {l : List Nat} {s : State} (hS : Steady z₀ s) : Steady z₀ (domainsOff l s) := by
  unfold domainsOff; simp (maxDischargeDepth := 99) +contextual [hS, steady_foldl]
@[simp] theorem domainOn_steady {d : Nat} {s : State} (hS : Steady z₀ s) : Steady z₀ (domainOn d s) := by
  unfold domainOn; simp (maxDischargeDepth := 99) [hS]
@[simp] theorem domRefused_steady {d cause : Nat} {s : State} (hS : Steady z₀ s) : Steady z₀ (domRefused d cause s) := by
  unfold domRefused; simp (maxDischargeDepth := 99) [hS]
@[simp] theorem domRequest_steady {value : Nat} {s : State} {d : Nat} (hS : Steady z₀ s) : Steady z₀ (domRequest value s d) := by
  unfold domRequest; simp (maxDischargeDepth := 99) [hS]
@[simp] theorem requestDomains_steady {value : Nat} {s : State} (hS : Steady z₀ s) : Steady z₀ (requestDomains value s) := by
  unfold requestDomains; simp (maxDischargeDepth := 99) +contextual [hS, steady_foldl]
@[simp] theorem execDomainCtlWrite_steady {value : Nat} {s : State} (hS : Steady z₀ s) : SteadyOut z₀ (execDomainCtlWrite value s) := by
  unfold execDomainCtlWrite; simp (maxDischargeDepth := 99) [hS]
@[simp] theorem execDomainOnComplete_steady {d : Nat} {s : State} (hS : Steady z₀ s) : SteadyOut z₀ (execDomainOnComplete d s) := by
  unfold execDomainOnComplete; simp (maxDischargeDepth := 99) [hS]
@[simp] theorem execDomainOff_steady {d : Nat} {s : State} (hS : Steady z₀ s) : SteadyOut z₀ (execDomainOff d s) := by
  unfold execDomainOff; simp (maxDischargeDepth := 99) [hS]
@[simp] theorem execDomainDeferTimeout_steady {d elapsedUs : Nat} {s : State} (hS : Steady z₀ s) : SteadyOut z₀ (execDomainDeferTimeout d elapsedUs s) := by
  unfold execDomainDeferTimeout; simp (maxDischargeDepth := 99) [hS]
@[simp] theorem ckptStart_steady {kind slot : Nat} {s : State} (hS : Steady z₀ s) : Steady z₀ (ckptStart kind slot s) := by
  unfold ckptStart; simp (maxDischargeDepth := 99) [hS]
@[simp] theorem ckptTrigger_steady {kind : Nat} {s : State} (hS : Steady z₀ s) : Steady z₀ (ckptTrigger kind s) := by
  unfold ckptTrigger; split <;> simp (maxDischargeDepth := 99) +contextual [hS, steady_foldl]
@[simp] theorem ckptCfgWrite_steady {v : Nat} {s : State} (hS : Steady z₀ s) : Steady z₀ (ckptCfgWrite v s) := by
  unfold ckptCfgWrite; simp (maxDischargeDepth := 99) [hS]
@[simp] theorem execPeriodicCheckpoint_steady {elapsedMs : Nat} {s : State} (hS : Steady z₀ s) : SteadyOut z₀ (execPeriodicCheckpoint elapsedMs s) := by
  unfold execPeriodicCheckpoint; simp (maxDischargeDepth := 99) [hS]
@[simp] theorem execCheckpointRequest_steady {s : State} (hS : Steady z₀ s) : SteadyOut z₀ (execCheckpointRequest s) := by
  unfold execCheckpointRequest; simp (maxDischargeDepth := 99) [hS]
@[simp] theorem copySection_steady {c : Ckpt} {s : State} (hS : Steady z₀ s) : Steady z₀ (copySection c s) := by
  unfold copySection; simp (maxDischargeDepth := 99) [hS]
@[simp] theorem copyRest_steady {n : Nat} {s : State} (hS : Steady z₀ s) : Steady z₀ (copyRest n s) := by
  induction n generalizing s with
  | zero => exact hS
  | succ n ih =>
    unfold copyRest
    split
    · refine steady_ite (ih ?_) hS
      simp (maxDischargeDepth := 99) [hS]
    · exact hS
@[simp] theorem ckptCommit_steady {c : Ckpt} {s : State} (hS : Steady z₀ s) : Steady z₀ (ckptCommit c s) := by
  unfold ckptCommit; simp (maxDischargeDepth := 99) [hS]
@[simp] theorem execCheckpointWrite_steady {s : State} (hS : Steady z₀ s) : SteadyOut z₀ (execCheckpointWrite s) := by
  unfold execCheckpointWrite; split <;> simp (maxDischargeDepth := 99) +contextual [hS, steady_foldl]
@[simp] theorem heldRuns_steady {s : State} (hS : Steady z₀ s) : Steady z₀ (heldRuns s) := by
  unfold heldRuns; split <;> simp (maxDischargeDepth := 99) +contextual [hS, steady_foldl]
@[simp] theorem execCheckpointComplete_steady {s : State} (hS : Steady z₀ s) : SteadyOut z₀ (execCheckpointComplete s) := by
  unfold execCheckpointComplete; split <;> simp (maxDischargeDepth := 99) +contextual [hS, steady_foldl]
@[simp] theorem xlogAppend_steady {ns extent : Nat} {s : State} (hS : Steady z₀ s) : Steady z₀ (xlogAppend ns extent s) := by
  unfold xlogAppend; simp (maxDischargeDepth := 99) [hS]
@[simp] theorem drainRing_steady {n : Nat} {s : State} (hS : Steady z₀ s) : Steady z₀ (drainRing n s) := by
  induction n generalizing s with
  | zero => exact hS
  | succ n ih =>
    unfold drainRing
    split
    · exact hS
    · refine ih ?_
      simp (maxDischargeDepth := 99) [hS]
@[simp] theorem tableOff_steady {s : State} (hS : Steady z₀ s) : Steady z₀ (tableOff s) := by
  unfold tableOff; simp (maxDischargeDepth := 99) +contextual [hS, steady_foldl]
@[simp] theorem execRescueSequence_steady {s : State} (hS : Steady z₀ s) : SteadyOut z₀ (execRescueSequence s) := by
  unfold execRescueSequence
  extract_lets t slot full ring
  have hf : Steady z₀ full := by simp (maxDischargeDepth := 99) [full, t, hS]
  have hr : Steady z₀ ring := by simp (maxDischargeDepth := 99) [ring, hS]
  simp (maxDischargeDepth := 99) [hS, hf, hr]
@[simp] theorem rescueFinal_steady {c : Ckpt} {time10us : Nat} {s : State} (hS : Steady z₀ s) : Steady z₀ (rescueFinal c time10us s) := by
  unfold rescueFinal; simp (maxDischargeDepth := 99) [hS]
@[simp] theorem rescueAbandon_steady {s : State} (hS : Steady z₀ s) : Steady z₀ (rescueAbandon s) := by
  unfold rescueAbandon; simp (maxDischargeDepth := 99) [hS]
@[simp] theorem wallRestored_steady {k : Option Nat} {s : State} (hS : Steady z₀ s) : Steady z₀ (wallRestored k s) := by
  unfold wallRestored; simp (maxDischargeDepth := 99) [hS]
@[simp] theorem execCheckpointRestore_steady {s : State} (hS : Steady z₀ s) : SteadyOut z₀ (execCheckpointRestore s) := by
  unfold execCheckpointRestore; dsimp only; repeat' split
  all_goals simp (maxDischargeDepth := 99) +contextual [hS, steady_foldl]
@[simp] theorem loseNamespace_steady {n : Nat} {s : State} (hS : Steady z₀ s) : Steady z₀ (loseNamespace n s) := by
  unfold loseNamespace; dsimp only; repeat' split
  all_goals simp (maxDischargeDepth := 99) +contextual [hS, steady_foldl]
@[simp] theorem candidatesLost_steady {onMedia : List (Nat × Nat)} {s : State} (hS : Steady z₀ s) : Steady z₀ (candidatesLost onMedia s) := by
  unfold candidatesLost; simp (maxDischargeDepth := 99) +contextual [hS, steady_foldl]
@[simp] theorem loadZones_steady {tags : List (Nat × List Decoded)} {s : State} (hS : Steady z₀ s) : Steady z₀ (loadZones tags s) := by
  unfold loadZones
  split
  · exact hS
  · extract_lets t ks n u u1 l v w
    have ht : Steady z₀ t := steady_foldl (rebuildZones_steady hS) (fun u k h => rebuildOther_steady h)
    have hu : Steady z₀ u := puts_steady ht
    have hu1 : Steady z₀ u1 := steady_foldl hu (fun w z h => setZone_steady h)
    have hv : Steady z₀ v := steady_foldl hu1 (fun w z h => setZone_steady h)
    have hw : Steady z₀ w := steady_ite hv (steady_foldl hv (fun x q h => completeCache_steady h))
    exact showFill_steady (showRecovering_steady hw)
@[simp] theorem layoutSpares_steady {layout : List Nat} {s : State} (hS : Steady z₀ s) : Steady z₀ (layoutSpares layout s) := by
  unfold layoutSpares; simp (maxDischargeDepth := 99) [hS]
@[simp] theorem execRestored_steady {onMedia : List (Nat × Nat)} {tags : List (Nat × List Decoded)} {layout : List Nat} {s : State} (hS : Steady z₀ s) : SteadyOut z₀ (execRestored onMedia tags layout s) := by
  unfold execRestored; simp (maxDischargeDepth := 99) [hS]

/-! Arrive -/

@[simp] theorem setCmd_steady {r : CmdSt} {s : State} (hS : Steady z₀ s) : Steady z₀ (setCmd r s) := by
  unfold setCmd; simp (maxDischargeDepth := 99) [hS]
@[simp] theorem setHost_steady {r : HostSt} {s : State} (hS : Steady z₀ s) : Steady z₀ (setHost r s) := by
  unfold setHost; simp (maxDischargeDepth := 99) [hS]
@[simp] theorem setDemand_steady {p : Port} {m level : Nat} {s : State} (hS : Steady z₀ s) : Steady z₀ (setDemand p m level s) := by
  unfold setDemand; split <;> simp (maxDischargeDepth := 99) +contextual [hS, steady_foldl]
@[simp] theorem stampCmd_steady {c : HostCmd} {s : State} (hS : Steady z₀ s) : Steady z₀ (stampCmd c s) := by
  unfold stampCmd; simp (maxDischargeDepth := 99) [hS]
@[simp] theorem poolFull_steady {c : HostCmd} {s : State} (hS : Steady z₀ s) : Steady z₀ (poolFull c s) := by
  unfold poolFull; simp (maxDischargeDepth := 99) [hS]
@[simp] theorem takeNexus_steady {c : HostCmd} {s : State} (hS : Steady z₀ s) : Steady z₀ (takeNexus c s) := by
  unfold takeNexus; simp (maxDischargeDepth := 99) [hS]
@[simp] theorem nexusFull_steady {c : HostCmd} {s : State} (hS : Steady z₀ s) : Steady z₀ (nexusFull c s) := by
  unfold nexusFull; simp (maxDischargeDepth := 99) [hS]
@[simp] theorem reportUa_steady {c : HostCmd} {s : State} (hS : Steady z₀ s) : Steady z₀ (reportUa c s) := by
  unfold reportUa; simp (maxDischargeDepth := 99) [hS]
@[simp] theorem takeCmd_steady {c : HostCmd} {s : State} (hS : Steady z₀ s) : Steady z₀ (takeCmd c s) := by
  unfold takeCmd; simp (maxDischargeDepth := 99) [hS]
@[simp] theorem whileStopped_steady {c : HostCmd} {s : State} (hS : Steady z₀ s) : Steady z₀ (whileStopped c s) := by
  unfold whileStopped; simp (maxDischargeDepth := 99) [hS]
@[simp] theorem wakeLink_steady {p : Port} {s : State} (hS : Steady z₀ s) : Steady z₀ (wakeLink p s) := by
  unfold wakeLink; split <;> simp (maxDischargeDepth := 99) +contextual [hS, steady_foldl]
@[simp] theorem romServes_steady {c : HostCmd} {s : State} (hS : Steady z₀ s) : Steady z₀ (romServes c s) := by
  unfold romServes; simp (maxDischargeDepth := 99) [hS]
@[simp] theorem arriveCmd_steady {c : HostCmd} {s' : State} (hS : Steady z₀ s') : Steady z₀ (arriveCmd c s') := by
  unfold arriveCmd; simp (maxDischargeDepth := 99) [hS]
@[simp] theorem resumeFetch_steady {s : State} (hS : Steady z₀ s) : Steady z₀ (resumeFetch s) := by
  unfold resumeFetch; simp (maxDischargeDepth := 99) +contextual [hS, steady_foldl]
@[simp] theorem attention_steady {s : State} (hS : Steady z₀ s) : Steady z₀ (attention s) := by
  unfold attention; simp (maxDischargeDepth := 99) [hS]
@[simp] theorem stampsAnew_steady {s : State} (hS : Steady z₀ s) : Steady z₀ (stampsAnew s) := by
  unfold stampsAnew; simp (maxDischargeDepth := 99) [hS]

/-! Modes -/

@[simp] theorem zmgIdle_steady {s : State} (hS : Steady z₀ s) : Steady z₀ (zmgIdle s) := by
  unfold zmgIdle; simp (maxDischargeDepth := 99) [hS]
@[simp] theorem zmgReset_steady {s : State} (hS : Steady z₀ s) : Steady z₀ (zmgReset s) := by
  unfold zmgReset; simp (maxDischargeDepth := 99) [hS]
@[simp] theorem hiddenReset_steady {s : State} (hS : Steady z₀ s) : Steady z₀ (hiddenReset s) := by
  unfold hiddenReset; simp (maxDischargeDepth := 99) +contextual [hS, steady_foldl]
@[simp] theorem showPins_steady {s : State} (hS : Steady z₀ s) : Steady z₀ (showPins s) := by
  unfold showPins; simp (maxDischargeDepth := 99) [hS]
@[simp] theorem resetState_steady {keep : Nat → Bool} {cause : Nat} {s : State} (hS : Steady z₀ s) : Steady z₀ (resetState keep cause s) := by
  have h : Steady z₀ (hiddenReset s) := by simp [hS]
  exact ⟨h.1, h.2.1, h.2.2.1, fun x => AMap.rising_filter _ (h.2.2.2.1 x), fun x => wf_filter _ (h.2.2.2.2 x)⟩
@[simp] theorem heldDomains_steady {s : State} (hS : Steady z₀ s) : Steady z₀ (heldDomains s) := by
  unfold heldDomains; simp (maxDischargeDepth := 99) [hS]
@[simp] theorem toBoot_steady {s : State} (hS : Steady z₀ s) : Steady z₀ (toBoot s) := by
  unfold toBoot; simp (maxDischargeDepth := 99) [hS]
@[simp] theorem bootDue_steady {s : State} (hS : Steady z₀ s) : Steady z₀ (bootDue s) := by
  unfold bootDue; simp (maxDischargeDepth := 99) [hS]
@[simp] theorem pinReset_steady {cause : Nat} {s : State} (hS : Steady z₀ s) : Steady z₀ (pinReset cause s) := by
  unfold pinReset; simp (maxDischargeDepth := 99) [hS]
@[simp] theorem heldReset_steady {cause : Nat} {s : State} (hS : Steady z₀ s) : Steady z₀ (heldReset cause s) := by
  unfold heldReset; simp (maxDischargeDepth := 99) [hS]
@[simp] theorem execPowerOnReset_steady {s : State} (hS : Steady z₀ s) : SteadyOut z₀ (execPowerOnReset s) := by
  unfold execPowerOnReset; simp (maxDischargeDepth := 99) [hS]
@[simp] theorem waitedReset_steady {s : State} (hS : Steady z₀ s) : Steady z₀ (waitedReset s) := by
  unfold waitedReset; simp (maxDischargeDepth := 99) [hS]
@[simp] theorem execResetNAssert_steady {lowNs : Nat} {s : State} (hS : Steady z₀ s) : SteadyOut z₀ (execResetNAssert lowNs s) := by
  unfold execResetNAssert; simp (maxDischargeDepth := 99) [hS]
@[simp] theorem execResetNRelease_steady {straps : Nat} {s : State} (hS : Steady z₀ s) : SteadyOut z₀ (execResetNRelease straps s) := by
  unfold execResetNRelease; simp (maxDischargeDepth := 99) [hS]
@[simp] theorem execRescueFinalized_steady {time10us : Nat} {s : State} (hS : Steady z₀ s) : SteadyOut z₀ (execRescueFinalized time10us s) := by
  unfold execRescueFinalized; split <;> simp (maxDischargeDepth := 99) +contextual [hS, steady_foldl]
@[simp] theorem execRescueAbandoned_steady {s : State} (hS : Steady z₀ s) : SteadyOut z₀ (execRescueAbandoned s) := by
  unfold execRescueAbandoned; simp (maxDischargeDepth := 99) [hS]
@[simp] theorem execSoftwareReset_steady {value : Nat} {s : State} (hS : Steady z₀ s) : SteadyOut z₀ (execSoftwareReset value s) := by
  unfold execSoftwareReset; simp (maxDischargeDepth := 99) [hS]
@[simp] theorem clockLoss_steady {f : Fld} {pins : Pins} {s : State} (hS : Steady z₀ s) : Steady z₀ (clockLoss f pins s) := by
  unfold clockLoss; simp (maxDischargeDepth := 99) [hS]
@[simp] theorem execXinLoss_steady {gapNs : Nat} {s : State} (hS : Steady z₀ s) : SteadyOut z₀ (execXinLoss gapNs s) := by
  unfold execXinLoss; simp (maxDischargeDepth := 99) [hS]
@[simp] theorem execPllLossOfLock_steady {pll unlockedNs : Nat} {s : State} (hS : Steady z₀ s) : SteadyOut z₀ (execPllLossOfLock pll unlockedNs s) := by
  unfold execPllLossOfLock; simp (maxDischargeDepth := 99) [hS]
@[simp] theorem execClockLossReboot_steady {xinValidMs : Nat} {s : State} (hS : Steady z₀ s) : SteadyOut z₀ (execClockLossReboot xinValidMs s) := by
  unfold execClockLossReboot; simp (maxDischargeDepth := 99) [hS]
@[simp] theorem execPwrOkFall_steady {s : State} (hS : Steady z₀ s) : SteadyOut z₀ (execPwrOkFall s) := by
  unfold execPwrOkFall; simp (maxDischargeDepth := 99) [hS]
@[simp] theorem execPwrOkRise_steady {s : State} (hS : Steady z₀ s) : SteadyOut z₀ (execPwrOkRise s) := by
  unfold execPwrOkRise; simp (maxDischargeDepth := 99) [hS]
@[simp] theorem execRailsLost_steady {s : State} (hS : Steady z₀ s) : SteadyOut z₀ (execRailsLost s) := by
  unfold execRailsLost; simp (maxDischargeDepth := 99) [hS]
@[simp] theorem putRec_steady {r : BootRec} {s : State} (hS : Steady z₀ s) : Steady z₀ (putRec r s) := by
  unfold putRec; simp (maxDischargeDepth := 99) [hS]
@[simp] theorem loadCoefs_steady {i : Image} {s : State} (hS : Steady z₀ s) : Steady z₀ (loadCoefs i s) := by
  unfold loadCoefs; simp (maxDischargeDepth := 99) +contextual [hS, steady_foldl]
@[simp] theorem imageFields_steady {i : Image} {s : State} (hS : Steady z₀ s) : Steady z₀ (imageFields i s) := by
  unfold imageFields; simp (maxDischargeDepth := 99) [hS]
@[simp] theorem enableLinks_steady {i : Image} {s : State} (hS : Steady z₀ s) : Steady z₀ (enableLinks i s) := by
  unfold enableLinks; simp (maxDischargeDepth := 99) [hS]
@[simp] theorem applyImage_steady {wr : State → Nat × Nat → State} {slot : Nat} {i : Image} {s : State}
    (hw : ∀ t p, Steady z₀ t → Steady z₀ (wr t p)) (hS : Steady z₀ s) : Steady z₀ (applyImage wr slot i s) := by
  unfold applyImage
  extract_lets want t b u pads v w held
  have ht : Steady z₀ t := steady_foldl hS (fun t x h => domainOn_steady h)
  have hu : Steady z₀ u := puts_steady (setBoot_steady ht)
  have hv : Steady z₀ v := steady_foldl (loadFirmware_steady (imageFields_steady hu)) hw
  have hww : Steady z₀ w := enableLinks_steady (loadCoefs_steady (loadPrograms_steady hv))
  exact spnMode_steady (columnsPromoted_steady (steady_foldl (setBoot_steady hww) (fun t x h => assistLoaded_steady h)))
@[simp] theorem bringupEvents_steady {s : State} (hS : Steady z₀ s) : Steady z₀ (bringupEvents s) := by
  unfold bringupEvents; repeat' split
  all_goals simp (maxDischargeDepth := 99) +contextual [hS, steady_foldl]
@[simp] theorem rolledBack_steady {slot : Nat} {s : State} (hS : Steady z₀ s) : Steady z₀ (rolledBack slot s) := by
  unfold rolledBack; simp (maxDischargeDepth := 99) [hS]
@[simp] theorem romRuns_steady {s : State} (hS : Steady z₀ s) : Steady z₀ (romRuns s) := by
  unfold romRuns; simp (maxDischargeDepth := 99) [hS]
@[simp] theorem bootRom_steady {wr : State → Nat × Nat → State} {s : State}
    (hw : ∀ t p, Steady z₀ t → Steady z₀ (wr t p)) (hS : Steady z₀ s) : Steady z₀ (bootRom wr s) := by
  have hi : ∀ {k i t}, Steady z₀ t → Steady z₀ (applyImage wr k i t) := applyImage_steady hw
  unfold bootRom
  split
  rename_i r pick rb fb e
  have ht : Steady z₀ (putRec r s) := by simp (maxDischargeDepth := 99) [hS]
  dsimp only
  split <;> simp (maxDischargeDepth := 99) [ht, hi]
@[simp] theorem execTrialTimerExpiry_steady {elapsedMs : Nat} {s : State} (hS : Steady z₀ s) : SteadyOut z₀ (execTrialTimerExpiry elapsedMs s) := by
  unfold execTrialTimerExpiry; simp (maxDischargeDepth := 99) [hS]
@[simp] theorem goMode_steady {new : Nat} {s : State} (hS : Steady z₀ s) : Steady z₀ (goMode new s) := by
  unfold goMode; simp (maxDischargeDepth := 99) [hS]
@[simp] theorem takeMode_steady {target : Nat} {s : State} (hS : Steady z₀ s) : Steady z₀ (takeMode target s) := by
  unfold takeMode; simp (maxDischargeDepth := 99) [hS]
@[simp] theorem askMode_steady {target : Nat} {s : State} (hS : Steady z₀ s) : Steady z₀ (askMode target s) := by
  unfold askMode; simp (maxDischargeDepth := 99) [hS]
@[simp] theorem execModeRequest_steady {target : Nat} {s : State} (hS : Steady z₀ s) : SteadyOut z₀ (execModeRequest target s) := by
  unfold execModeRequest; simp (maxDischargeDepth := 99) [hS]
@[simp] theorem execHeldModeRequestTaken_steady {s : State} (hS : Steady z₀ s) : SteadyOut z₀ (execHeldModeRequestTaken s) := by
  unfold execHeldModeRequestTaken; split <;> simp (maxDischargeDepth := 99) +contextual [hS, steady_foldl]
@[simp] theorem execServiceEntry_steady {s : State} (hS : Steady z₀ s) : SteadyOut z₀ (execServiceEntry s) := by
  unfold execServiceEntry; simp (maxDischargeDepth := 99) [hS]
@[simp] theorem standDown_steady {s : State} (hS : Steady z₀ s) : Steady z₀ (standDown s) := by
  unfold standDown; simp (maxDischargeDepth := 99) [hS]
@[simp] theorem execQuiesceEntry_steady {s : State} (hS : Steady z₀ s) : SteadyOut z₀ (execQuiesceEntry s) := by
  unfold execQuiesceEntry; simp (maxDischargeDepth := 99) [hS]
@[simp] theorem persistTime_steady {s : State} (hS : Steady z₀ s) : Steady z₀ (persistTime s) := by
  unfold persistTime; simp (maxDischargeDepth := 99) [hS]
@[simp] theorem wholeCheckpoint_steady {kind : Nat} {s : State} (hS : Steady z₀ s) : Steady z₀ (wholeCheckpoint kind s) := by
  unfold wholeCheckpoint
  extract_lets t
  have ht : Steady z₀ t := by simp (maxDischargeDepth := 99) [t, hS]
  split <;> simp (maxDischargeDepth := 99) [ht]
@[simp] theorem execStandbyDomainsOff_steady {s : State} (hS : Steady z₀ s) : SteadyOut z₀ (execStandbyDomainsOff s) := by
  unfold execStandbyDomainsOff
  extract_lets t u v
  have ht : Steady z₀ t := by simp (maxDischargeDepth := 99) [t, hS]
  have hu : Steady z₀ u := by simp (maxDischargeDepth := 99) [u, ht]
  have hv : Steady z₀ v := by simp (maxDischargeDepth := 99) [v, hu]
  simp (maxDischargeDepth := 99) [hS, hv]
@[simp] theorem execWakeEvent_steady {src : WakeSrc} {s : State} (hS : Steady z₀ s) : SteadyOut z₀ (execWakeEvent src s) := by
  unfold execWakeEvent; split <;> simp (maxDischargeDepth := 99) +contextual [hS, steady_foldl]
@[simp] theorem trialCut_steady {s : State} (hS : Steady z₀ s) : Steady z₀ (trialCut s) := by
  unfold trialCut; simp (maxDischargeDepth := 99) [hS]
@[simp] theorem abandon_steady {s : State} (hS : Steady z₀ s) : Steady z₀ (abandon s) := by
  unfold abandon; simp (maxDischargeDepth := 99) [hS]
@[simp] theorem toRescue_steady {variant : Nat} {s : State} (hS : Steady z₀ s) : Steady z₀ (toRescue variant s) := by
  unfold toRescue; simp (maxDischargeDepth := 99) [hS]
@[simp] theorem execPfailAssert_steady {lowNs : Nat} {s : State} (hS : Steady z₀ s) : SteadyOut z₀ (execPfailAssert lowNs s) := by
  unfold execPfailAssert; simp (maxDischargeDepth := 99) [hS]
@[simp] theorem execRescueReturn_steady {highMs : Nat} {s : State} (hS : Steady z₀ s) : SteadyOut z₀ (execRescueReturn highMs s) := by
  unfold execRescueReturn; simp (maxDischargeDepth := 99) [hS]
@[simp] theorem execKeyRevoke_steady {value : Nat} {s : State} (hS : Steady z₀ s) : SteadyOut z₀ (execKeyRevoke value s) := by
  unfold execKeyRevoke; simp (maxDischargeDepth := 99) [hS]
@[simp] theorem execKeyRevokeDone_steady {s : State} (hS : Steady z₀ s) : SteadyOut z₀ (execKeyRevokeDone s) := by
  unfold execKeyRevokeDone; simp (maxDischargeDepth := 99) [hS]
@[simp] theorem execFirmwareDownload_steady {path : Port} {offset : Nat} {data : List Nat} {s : State} (hS : Steady z₀ s) : SteadyOut z₀ (execFirmwareDownload path offset data s) := by
  unfold execFirmwareDownload; simp (maxDischargeDepth := 99) [hS]
@[simp] theorem execDownloadSessionTimeout_steady {idleMs : Nat} {s : State} (hS : Steady z₀ s) : SteadyOut z₀ (execDownloadSessionTimeout idleMs s) := by
  unfold execDownloadSessionTimeout; simp (maxDischargeDepth := 99) [hS]
@[simp] theorem execFirmwareActivate_steady {path : Port} {s : State} (hS : Steady z₀ s) : SteadyOut z₀ (execFirmwareActivate path s) := by
  unfold execFirmwareActivate; simp (maxDischargeDepth := 99) [hS]
@[simp] theorem execActivationDrainEnd_steady {elapsed : Nat} {s : State} (hS : Steady z₀ s) : SteadyOut z₀ (execActivationDrainEnd elapsed s) := by
  unfold execActivationDrainEnd; simp (maxDischargeDepth := 99) [hS]
@[simp] theorem execActivationDrainTimeout_steady {elapsed : Nat} {s : State} (hS : Steady z₀ s) : SteadyOut z₀ (execActivationDrainTimeout elapsed s) := by
  unfold execActivationDrainTimeout; split <;> simp (maxDischargeDepth := 99) +contextual [hS, steady_foldl]
@[simp] theorem spindleFreed_steady {s : State} (hS : Steady z₀ s) : Steady z₀ (spindleFreed s) := by
  unfold spindleFreed; simp (maxDischargeDepth := 99) [hS]
@[simp] theorem activationReset_steady {s : State} (hS : Steady z₀ s) : Steady z₀ (activationReset s) := by
  unfold activationReset
  extract_lets t b c e u v
  have ht : Steady z₀ t := spindleFreed_steady (zmgIdle_steady (steady_foldl hS (fun t x h => hiddenOff_steady h)))
  have hu : Steady z₀ u := ⟨ht.1, ht.2.1, ht.2.2.1, fun x => AMap.rising_filter _ (ht.2.2.2.1 x), ht.2.2.2.2⟩
  have hv : Steady z₀ v := puts_steady hu
  exact post_steady (stampsAnew_steady (setBoot_steady hv))
@[simp] theorem execActivationReset_steady {s : State} (hS : Steady z₀ s) : SteadyOut z₀ (execActivationReset s) := by
  unfold execActivationReset; simp (maxDischargeDepth := 99) [hS]

/-! Commands -/

@[simp] theorem onReady_steady {c : Ctx} {f s : State} (hf : Steady z₀ f) (hS : Steady z₀ s) : Steady z₀ (onReady c f s) := by
  unfold onReady; split <;> simp [hS, hf]
@[simp] theorem execCommandStamp_steady {cmd : HostCmd} {s : State} (hS : Steady z₀ s) : SteadyOut z₀ (execCommandStamp cmd s) := by
  unfold execCommandStamp; simp (maxDischargeDepth := 99) [hS]
@[simp] theorem fetch_steady {l : List HostCmd} {s : State} (hS : Steady z₀ s) : Steady z₀ (fetch l s) := by
  induction l generalizing s with
  | nil => exact hS
  | cons c t ih =>
    unfold fetch
    exact steady_ite (ih (by simp [hS])) (by simp [hS])
@[simp] theorem execNvmeFetch_steady {queue : Nat} {cmds : List HostCmd} {s : State} (hS : Steady z₀ s) :
    SteadyOut z₀ (execNvmeFetch queue cmds s) := by
  unfold execNvmeFetch; simp [hS]
@[simp] theorem formatNs_steady {n : Nat} {s : State} (hS : Steady z₀ s) : Steady z₀ (formatNs n s) := by
  unfold formatNs; simp (maxDischargeDepth := 99) [hS]
@[simp] theorem startEffect_steady {c : Ctx} {s : State} (hS : Steady z₀ s) : Steady z₀ (startEffect c s) := by
  unfold startEffect; split <;> simp (maxDischargeDepth := 99) +contextual [hS, steady_foldl]
@[simp] theorem startCtx_steady {c : Ctx} {s : State} (hS : Steady z₀ s) : Steady z₀ (startCtx c s) := by
  unfold startCtx; dsimp only; repeat' split
  all_goals simp (maxDischargeDepth := 99) +contextual [hS, steady_foldl]
@[simp] theorem execExecutionStart_steady {stamp : Nat} {s : State} (hS : Steady z₀ s) : SteadyOut z₀ (execExecutionStart stamp s) := by
  unfold execExecutionStart; split <;> simp (maxDischargeDepth := 99) +contextual [hS, steady_foldl]
@[simp] theorem putLineOf_steady {l : CacheLine} {s : State} (hS : Steady z₀ s) : Steady z₀ (putLineOf l s) := by
  unfold putLineOf; simp (maxDischargeDepth := 99) [hS]
@[simp] theorem takeLeaf_steady {ns blk data : Nat} {s : State} (hS : Steady z₀ s) : Steady z₀ (takeLeaf ns blk data s) := by
  unfold takeLeaf
  dsimp only
  split
  · exact hS
  · exact steady_ite (showLeaf_steady (setCtxOf_steady hS)) hS
@[simp] theorem advanceHost_steady {ns blk : Nat} {s : State} (hS : Steady z₀ s) : Steady z₀ (advanceHost ns blk s) := by
  unfold advanceHost; simp (maxDischargeDepth := 99) [hS]
@[simp] theorem acceptBlock_steady {c : Ctx} {blk data : Nat} {s : State} (hS : Steady z₀ s) : Steady z₀ (acceptBlock c blk data s) := by
  unfold acceptBlock; simp (maxDischargeDepth := 99) [hS]
@[simp] theorem execWriteAccept_steady {stamp blk data : Nat} {guardOk : Bool} {s : State} (hS : Steady z₀ s) : SteadyOut z₀ (execWriteAccept stamp blk data guardOk s) := by
  unfold execWriteAccept
  refine onCtx_steady (fun c => ?_) hS
  repeat' split
  all_goals simp (maxDischargeDepth := 99) [hS]
@[simp] theorem execWriteComplete_steady {stamp : Nat} {s : State} (hS : Steady z₀ s) : SteadyOut z₀ (execWriteComplete stamp s) := by
  unfold execWriteComplete
  refine onCtx_steady (fun c => ?_) hS
  try dsimp only
  repeat' split
  all_goals simp (maxDischargeDepth := 99) [hS]
@[simp] theorem beneath_steady {ns blk : Nat} {media : Option Nat} {s : State} (hS : Steady z₀ s) : Steady z₀ (beneath ns blk media s).2 := by
  unfold beneath; repeat' split
  all_goals simp (maxDischargeDepth := 99) +contextual [hS, steady_foldl]
@[simp] theorem readBlocks_steady {ns lba n : Nat} {l : List Nat} {m : List (Option Nat)} {s : State} (hS : Steady z₀ s) :
    Steady z₀ (readBlocks ns lba n l m s).2 := by
  induction l generalizing m s with
  | nil => exact hS
  | cons b t ih =>
    unfold readBlocks
    dsimp only
    refine ih ?_
    split
    · exact beneath_steady hS
    · exact hS
@[simp] theorem serveRead_steady {c : Ctx} {lba n : Nat} {media : List (Option Nat)} {s : State} (hS : Steady z₀ s) :
    Steady z₀ (serveRead c lba n media s) := by
  unfold serveRead
  dsimp only
  split
  · exact hS
  · simp (maxDischargeDepth := 99) [hS]
@[simp] theorem execHostRead_steady {stamp : Nat} {media : List (Option Nat)} {guardOk : Bool} {s : State} (hS : Steady z₀ s) : SteadyOut z₀ (execHostRead stamp media guardOk s) := by
  unfold execHostRead
  refine onCtx_steady (fun c => ?_) hS
  split
  · refine onReady_steady ?_ hS
    repeat' split
    all_goals simp (maxDischargeDepth := 99) [hS]
  · exact hS
@[simp] theorem reportLost_steady {e : Lost} {s : State} (hS : Steady z₀ s) : Steady z₀ (reportLost e s) := by
  unfold reportLost; simp (maxDischargeDepth := 99) [hS]
@[simp] theorem execFlush_steady {stamp : Nat} {s : State} (hS : Steady z₀ s) : SteadyOut z₀ (execFlush stamp s) := by
  unfold execFlush
  refine onCtx_steady (fun c => ?_) hS
  split
  · refine onReady_steady ?_ hS
    repeat' split
    all_goals simp (maxDischargeDepth := 99) [hS]
  · exact hS
@[simp] theorem putWce_steady {on : Bool} {s : State} {n : Nat} (hS : Steady z₀ s) : Steady z₀ (putWce on s n) := by
  unfold putWce; simp (maxDischargeDepth := 99) [hS]
@[simp] theorem recache_steady {c : Ctx} {l : List Nat} {s : State} (hS : Steady z₀ s) : Steady z₀ (recache c l s) := by
  unfold recache; simp (maxDischargeDepth := 99) [hS]
@[simp] theorem execWriteCacheEnableChange_steady {stamp : Nat} {s : State} (hS : Steady z₀ s) : SteadyOut z₀ (execWriteCacheEnableChange stamp s) := by
  unfold execWriteCacheEnableChange
  refine onCtx_steady (fun c => ?_) hS
  split
  · have h : ∀ on (l : List Nat), Steady z₀ (l.foldl (putWce on) s) := fun on l => steady_foldl hS (fun t x h => putWce_steady h)
    simp (maxDischargeDepth := 99) [h]
  · exact hS
@[simp] theorem execLostWriteEntry_steady {ns blk cause : Nat} {s : State} (hS : Steady z₀ s) : SteadyOut z₀ (execLostWriteEntry ns blk cause s) := by
  unfold execLostWriteEntry; simp (maxDischargeDepth := 99) [hS]
@[simp] theorem execContextLost_steady {stamp : Nat} {targetOk : Bool} {s : State} (hS : Steady z₀ s) : SteadyOut z₀ (execContextLost stamp targetOk s) := by
  unfold execContextLost; simp (maxDischargeDepth := 99) [hS]
@[simp] theorem abortCtx_steady {own : Bool} {d : Ctx} {s : State} (hS : Steady z₀ s) : Steady z₀ (abortCtx own d s) := by
  unfold abortCtx; simp (maxDischargeDepth := 99) [hS]
@[simp] theorem execNvmeAbort_steady {stamp : Nat} {s : State} (hS : Steady z₀ s) : SteadyOut z₀ (execNvmeAbort stamp s) := by
  unfold execNvmeAbort
  refine onCtx_steady (fun c => ?_) hS
  repeat' split
  all_goals simp (maxDischargeDepth := 99) [hS]
@[simp] theorem execSasTaskManagement_steady {port nexus tag fn ns target : Nat} {s : State} (hS : Steady z₀ s) : SteadyOut z₀ (execSasTaskManagement port nexus tag fn ns target s) := by
  unfold execSasTaskManagement; simp (maxDischargeDepth := 99) +contextual [hS, steady_foldl]
@[simp] theorem execNcqFailureAbort_steady {s : State} (hS : Steady z₀ s) : SteadyOut z₀ (execNcqFailureAbort s) := by
  unfold execNcqFailureAbort; simp (maxDischargeDepth := 99) +contextual [hS, steady_foldl]
@[simp] theorem testEnds_steady {result : Nat} {s : State} (hS : Steady z₀ s) : Steady z₀ (testEnds result s) := by
  unfold testEnds; simp (maxDischargeDepth := 99) [hS]
@[simp] theorem execSelfTestStart_steady {stamp : Nat} {s : State} (hS : Steady z₀ s) : SteadyOut z₀ (execSelfTestStart stamp s) := by
  unfold execSelfTestStart
  refine onCtx_steady (fun c => ?_) hS
  repeat' split
  all_goals simp (maxDischargeDepth := 99) [hS]
@[simp] theorem execSelfTestSuspend_steady {pct : Nat} {s : State} (hS : Steady z₀ s) : SteadyOut z₀ (execSelfTestSuspend pct s) := by
  unfold execSelfTestSuspend; simp (maxDischargeDepth := 99) [hS]
@[simp] theorem execSelfTestResume_steady {idleMs : Nat} {s : State} (hS : Steady z₀ s) : SteadyOut z₀ (execSelfTestResume idleMs s) := by
  unfold execSelfTestResume; simp (maxDischargeDepth := 99) [hS]
@[simp] theorem execSelfTestEnd_steady {result : Nat} {abortBy : Option Port} {s : State} (hS : Steady z₀ s) : SteadyOut z₀ (execSelfTestEnd result abortBy s) := by
  unfold execSelfTestEnd; split <;> simp (maxDischargeDepth := 99) +contextual [hS, steady_foldl]
@[simp] theorem dropPort_steady {p : Port} {s : State} (hS : Steady z₀ s) : Steady z₀ (dropPort p s) := by
  unfold dropPort; simp (maxDischargeDepth := 99) [hS]
@[simp] theorem freeNexuses_steady {p : Port} {s : State} (hS : Steady z₀ s) : Steady z₀ (freeNexuses p s) := by
  unfold freeNexuses; simp (maxDischargeDepth := 99) [hS]
@[simp] theorem portClear_steady {p : Port} {s : State} (hS : Steady z₀ s) : Steady z₀ (portClear p s) := by
  unfold portClear; simp (maxDischargeDepth := 99) [hS]
@[simp] theorem portReset_steady {p : Port} {s : State} (hS : Steady z₀ s) : Steady z₀ (portReset p s) := by
  unfold portReset; simp (maxDischargeDepth := 99) [hS]
@[simp] theorem execControllerLevelReset_steady {port : Port} {s : State} (hS : Steady z₀ s) : SteadyOut z₀ (execControllerLevelReset port s) := by
  unfold execControllerLevelReset; simp (maxDischargeDepth := 99) [hS]

/-! HostPorts -/

@[simp] theorem execHostLanePromotion_steady {failed : List Nat} {s : State} (hS : Steady z₀ s) : SteadyOut z₀ (execHostLanePromotion failed s) := by
  unfold execHostLanePromotion; dsimp only; repeat' split
  all_goals simp (maxDischargeDepth := 99) +contextual [hS, steady_foldl]
theorem linkUp_steady {p : Port} {rate width : Nat} {s t : State} (hS : Steady z₀ s) (e : linkUp p rate width s = some t) : Steady z₀ t := by
  unfold linkUp at e
  split at e
  · split at e
    · cases e; simp (maxDischargeDepth := 99) [hS]
    · cases e
  · split at e
    · cases e; simp (maxDischargeDepth := 99) [hS]
    · cases e
  · dsimp only at e
    split at e
    · cases e; simp (maxDischargeDepth := 99) [hS]
    · cases e
@[simp] theorem execHostLinkUp_steady {port : Port} {rate width : Nat} {s : State} (hS : Steady z₀ s) :
    SteadyOut z₀ (execHostLinkUp port rate width s) := by
  unfold execHostLinkUp
  split
  · simp [hS]
  · rename_i e
    simp [hS, linkUp_steady hS e]
@[simp] theorem pcieDown_steady {s : State} (hS : Steady z₀ s) : Steady z₀ (pcieDown s) := by
  unfold pcieDown; simp (maxDischargeDepth := 99) [hS]
@[simp] theorem execPcieLinkDown_steady {s : State} (hS : Steady z₀ s) : SteadyOut z₀ (execPcieLinkDown s) := by
  unfold execPcieLinkDown; simp (maxDischargeDepth := 99) [hS]
@[simp] theorem execPcieRefclkLoss_steady {gapNs : Nat} {s : State} (hS : Steady z₀ s) : SteadyOut z₀ (execPcieRefclkLoss gapNs s) := by
  unfold execPcieRefclkLoss; simp (maxDischargeDepth := 99) [hS]
@[simp] theorem execPerstNAssert_steady {s : State} (hS : Steady z₀ s) : SteadyOut z₀ (execPerstNAssert s) := by
  unfold execPerstNAssert; simp (maxDischargeDepth := 99) [hS]
@[simp] theorem execPerstNRelease_steady {s : State} (hS : Steady z₀ s) : SteadyOut z₀ (execPerstNRelease s) := by
  unfold execPerstNRelease; simp (maxDischargeDepth := 99) [hS]
@[simp] theorem execFunctionLevelReset_steady {s : State} (hS : Steady z₀ s) : SteadyOut z₀ (execFunctionLevelReset s) := by
  unfold execFunctionLevelReset; simp (maxDischargeDepth := 99) [hS]
@[simp] theorem execSasSataLinkDown_steady {port : Port} {s : State} (hS : Steady z₀ s) : SteadyOut z₀ (execSasSataLinkDown port s) := by
  unfold execSasSataLinkDown; simp (maxDischargeDepth := 99) [hS]
@[simp] theorem execNexusTake_steady {cmd : HostCmd} {s : State} (hS : Steady z₀ s) : SteadyOut z₀ (execNexusTake cmd s) := by
  unfold execNexusTake; simp (maxDischargeDepth := 99) [hS]
@[simp] theorem freeNexus_steady {port nexus : Nat} {s : State} (hS : Steady z₀ s) : Steady z₀ (freeNexus port nexus s) := by
  unfold freeNexus; simp (maxDischargeDepth := 99) [hS]
@[simp] theorem execNexusIdleFree_steady {port nexus idleS : Nat} {registered : Bool} {s : State} (hS : Steady z₀ s) : SteadyOut z₀ (execNexusIdleFree port nexus idleS registered s) := by
  unfold execNexusIdleFree; simp (maxDischargeDepth := 99) [hS]
@[simp] theorem execITNexusLoss_steady {port nexus : Nat} {s : State} (hS : Steady z₀ s) : SteadyOut z₀ (execITNexusLoss port nexus s) := by
  unfold execITNexusLoss; simp (maxDischargeDepth := 99) [hS]
@[simp] theorem execNotifyEnableSpinup_steady {port : Nat} {s : State} (hS : Steady z₀ s) : SteadyOut z₀ (execNotifyEnableSpinup port s) := by
  unfold execNotifyEnableSpinup; simp (maxDischargeDepth := 99) [hS]
@[simp] theorem condState_steady {p : Port} {c : PowerCond} {s : State} (hS : Steady z₀ s) : Steady z₀ (condState p c s) := by
  unfold condState; repeat' split
  all_goals simp (maxDischargeDepth := 99) +contextual [hS, steady_foldl]
@[simp] theorem execPowerDemandChange_steady {port : Port} {cond : PowerCond} {s : State} (hS : Steady z₀ s) : SteadyOut z₀ (execPowerDemandChange port cond s) := by
  unfold execPowerDemandChange; split <;> simp (maxDischargeDepth := 99) +contextual [hS, steady_foldl]
@[simp] theorem execLinkLowPowerEntry_steady {port : Port} {partialOk slumberOk : Bool} {idleNs : Nat} {s : State} (hS : Steady z₀ s) : SteadyOut z₀ (execLinkLowPowerEntry port partialOk slumberOk idleNs s) := by
  unfold execLinkLowPowerEntry; split <;> simp (maxDischargeDepth := 99) +contextual [hS, steady_foldl]
@[simp] theorem smbServe_steady {bytes : List Nat} {s : State} (hS : Steady z₀ s) : Steady z₀ (smbServe bytes s) := by
  unfold smbServe; simp (maxDischargeDepth := 99) [hS]
@[simp] theorem serveHeld_steady {s : State} (hS : Steady z₀ s) : Steady z₀ (serveHeld s) := by
  unfold serveHeld; simp (maxDischargeDepth := 99) +contextual [hS, steady_foldl]
@[simp] theorem smbHold_steady {bytes : List Nat} {s : State} (hS : Steady z₀ s) : Steady z₀ (smbHold bytes s) := by
  unfold smbHold; simp (maxDischargeDepth := 99) [hS]
@[simp] theorem smbNack_steady {s : State} (hS : Steady z₀ s) : Steady z₀ (smbNack s) := by
  unfold smbNack; simp (maxDischargeDepth := 99) [hS]
@[simp] theorem execSmbusPacket_steady {addr : Nat} {bytes : List Nat} {pecOk : Bool} {s : State} (hS : Steady z₀ s) : SteadyOut z₀ (execSmbusPacket addr bytes pecOk s) := by
  unfold execSmbusPacket; simp (maxDischargeDepth := 99) [hS]
@[simp] theorem execSmbusClockLowTimeout_steady {lowMs : Nat} {s : State} (hS : Steady z₀ s) : SteadyOut z₀ (execSmbusClockLowTimeout lowMs s) := by
  unfold execSmbusClockLowTimeout; simp (maxDischargeDepth := 99) [hS]
@[simp] theorem execCalrefLoss_steady {s : State} (hS : Steady z₀ s) : SteadyOut z₀ (execCalrefLoss s) := by
  unfold execCalrefLoss; simp (maxDischargeDepth := 99) [hS]
@[simp] theorem execJtagTrstNAssert_steady {s : State} (hS : Steady z₀ s) : SteadyOut z₀ (execJtagTrstNAssert s) := by
  unfold execJtagTrstNAssert; simp (maxDischargeDepth := 99) [hS]

/-! Fabric -/

@[simp] theorem fabBytes_steady {a n : Nat} {s : State} (hS : Steady z₀ s) : Steady z₀ (fabBytes a n s).2 := by
  unfold fabBytes; simp (maxDischargeDepth := 99) [hS]
@[simp] theorem advanceTail_steady {n : Nat} {s : State} (hS : Steady z₀ s) : Steady z₀ (advanceTail n s) := by
  induction n generalizing s with
  | zero => exact hS
  | succ n ih =>
    unfold advanceTail
    dsimp only
    split
    · exact ih (by simp (maxDischargeDepth := 99) [hS])
    · exact hS
@[simp] theorem showOut_steady {s : State} (hS : Steady z₀ s) : Steady z₀ (showOut s) := by
  unfold showOut; simp (maxDischargeDepth := 99) [hS]
@[simp] theorem endReq_steady {r : FabReq} {status result : Nat} {s : State} (hS : Steady z₀ s) : Steady z₀ (endReq r status result s) := by
  unfold endReq
  extract_lets a
  split
  rename_i ie t e
  have ht : Steady z₀ t := by
    have := fabBytes_steady (a := a + 1) (n := 1) hS
    rwa [e] at this
  simp (maxDischargeDepth := 99) [ht]
@[simp] theorem dropRoute_steady {id : Nat} {s : State} (hS : Steady z₀ s) : Steady z₀ (dropRoute id s) := by
  unfold dropRoute; simp (maxDischargeDepth := 99) +contextual [hS, steady_foldl]
@[simp] theorem dropRoutes_steady {p : Nat} {s : State} (hS : Steady z₀ s) : Steady z₀ (dropRoutes p s) := by
  unfold dropRoutes; simp (maxDischargeDepth := 99) +contextual [hS, steady_foldl]
@[simp] theorem flood_steady {ports : List Nat} {f : Frame} {s : State} (hS : Steady z₀ s) : Steady z₀ (flood ports f s) := by
  unfold flood; simp (maxDischargeDepth := 99) +contextual [hS, steady_foldl]
@[simp] theorem ownAdvert_steady {ports : List Nat} {s : State} (hS : Steady z₀ s) : Steady z₀ (ownAdvert ports s) := by
  unfold ownAdvert; simp (maxDischargeDepth := 99) [hS]
@[simp] theorem advertNow_steady {s : State} (hS : Steady z₀ s) : Steady z₀ (advertNow s) := by
  unfold advertNow; simp (maxDischargeDepth := 99) [hS]
@[simp] theorem execAdvertOriginate_steady {elapsedMs : Nat} {s : State} (hS : Steady z₀ s) : SteadyOut z₀ (execAdvertOriginate elapsedMs s) := by
  unfold execAdvertOriginate; simp (maxDischargeDepth := 99) [hS]
@[simp] theorem portDown_steady {p : Nat} {s : State} (hS : Steady z₀ s) : Steady z₀ (portDown p s) := by
  unfold portDown; simp (maxDischargeDepth := 99) [hS]
@[simp] theorem trainStart_steady {p : Nat} {s : State} (hS : Steady z₀ s) : Steady z₀ (trainStart p s) := by
  unfold trainStart; simp (maxDischargeDepth := 99) [hS]
@[simp] theorem execFabPortTraining_steady {port : Nat} {complete : Bool} {s : State} (hS : Steady z₀ s) : SteadyOut z₀ (execFabPortTraining port complete s) := by
  unfold execFabPortTraining; simp (maxDischargeDepth := 99) [hS]
@[simp] theorem execInitBlock_steady {port node c0 c1 : Nat} {s : State} (hS : Steady z₀ s) : SteadyOut z₀ (execInitBlock port node c0 c1 s) := by
  unfold execInitBlock; simp (maxDischargeDepth := 99) [hS]
@[simp] theorem lanesFail_steady {l : List Nat} {s : State} (hS : Steady z₀ s) : Steady z₀ (lanesFail l s) := by
  unfold lanesFail; split <;> simp (maxDischargeDepth := 99) +contextual [hS, steady_foldl]
@[simp] theorem execFabLanePromotion_steady {failed : List Nat} {badHeaders : Nat} {s : State} (hS : Steady z₀ s) : SteadyOut z₀ (execFabLanePromotion failed badHeaders s) := by
  unfold execFabLanePromotion; simp (maxDischargeDepth := 99) [hS]
theorem receive_none_steady {p seq : Nat} {good : Bool} {s t : State} {o : Option State} (hS : Steady z₀ s) (e : receive p seq good s = (o, t)) :
    Steady z₀ t ∧ ∀ u, o = some u → Steady z₀ u := by
  unfold receive at e
  dsimp only at e
  split at e
  · cases e; simp [hS]
  · split at e
    · cases e
      refine ⟨hS, ?_⟩
      intro u hu
      cases hu
      simp (maxDischargeDepth := 99) [hS]
    · split at e <;> (cases e; simp (maxDischargeDepth := 99) [hS])
@[simp] theorem onFrame_steady {p seq : Nat} {w : List Nat} {g : State → State} {s : State} (hg : ∀ t, Steady z₀ t → Steady z₀ (g t))
    (hS : Steady z₀ s) : SteadyOut z₀ (onFrame p seq w g s) := by
  unfold onFrame
  refine unit_steady (steadyOut_next ?_)
  split
  · rename_i e
    exact (receive_none_steady hS e).1
  · rename_i e
    exact returnCredit_steady (hg _ ((receive_none_steady hS e).2 _ rfl))
@[simp] theorem onLocal_steady {p seq type : Nat} {w : List Nat} {g : State → State} {s : State} (hg : ∀ t, Steady z₀ t → Steady z₀ (g t))
    (hS : Steady z₀ s) : SteadyOut z₀ (onLocal p seq w type g s) := by
  unfold onLocal
  dsimp only
  split
  · refine onFrame_steady (fun t ht => ?_) hS
    split
    · exact hg t ht
    · exact ht
  · simp [hS]
@[simp] theorem replayAll_steady {p : Nat} {s : State} (hS : Steady z₀ s) : Steady z₀ (replayAll p s) := by
  unfold replayAll; simp (maxDischargeDepth := 99) +contextual [hS, steady_foldl]
@[simp] theorem execAckBlock_steady {port last : Nat} {nak : Bool} {s : State} (hS : Steady z₀ s) : SteadyOut z₀ (execAckBlock port last nak s) := by
  unfold execAckBlock; simp (maxDischargeDepth := 99) [hS]
@[simp] theorem execReplayTimeout_steady {port elapsedNs : Nat} {s : State} (hS : Steady z₀ s) : SteadyOut z₀ (execReplayTimeout port elapsedNs s) := by
  unfold execReplayTimeout; simp (maxDischargeDepth := 99) [hS]
@[simp] theorem execFabLinkFault_steady {port : Nat} {s : State} (hS : Steady z₀ s) : SteadyOut z₀ (execFabLinkFault port s) := by
  unfold execFabLinkFault; simp (maxDischargeDepth := 99) [hS]
@[simp] theorem execCreditBlock_steady {port vc units : Nat} {s : State} (hS : Steady z₀ s) : SteadyOut z₀ (execCreditBlock port vc units s) := by
  unfold execCreditBlock; simp (maxDischargeDepth := 99) [hS]
@[simp] theorem forward_steady {p : Nat} {f : Frame} {s : State} (hS : Steady z₀ s) : Steady z₀ (forward p f s) := by
  unfold forward; simp (maxDischargeDepth := 99) [hS]
@[simp] theorem execFrameForward_steady {port seq : Nat} {wire : List Nat} {s : State} (hS : Steady z₀ s) : SteadyOut z₀ (execFrameForward port seq wire s) := by
  unfold execFrameForward
  dsimp only
  split
  · simp [hS]
  · refine unit_steady (steadyOut_next ?_)
    split
    · rename_i e
      exact (receive_none_steady hS e).1
    · rename_i e
      have := (receive_none_steady hS e).2 _ rfl
      simp (maxDischargeDepth := 99) [this]
@[simp] theorem reflood_steady {p : Nat} {f : Frame} {s : State} (hS : Steady z₀ s) : Steady z₀ (reflood p f s) := by
  unfold reflood; simp (maxDischargeDepth := 99) [hS]
@[simp] theorem setRoute_steady {id p hops : Nat} {s : State} (hS : Steady z₀ s) : Steady z₀ (setRoute id p hops s) := by
  unfold setRoute; simp (maxDischargeDepth := 99) [hS]
@[simp] theorem refresh_steady {id : Nat} {s : State} (hS : Steady z₀ s) : Steady z₀ (refresh id s) := by
  unfold refresh; simp (maxDischargeDepth := 99) [hS]
@[simp] theorem sawSeq_steady {id q : Nat} {s : State} (hS : Steady z₀ s) : Steady z₀ (sawSeq id q s) := by
  unfold sawSeq; simp (maxDischargeDepth := 99) [hS]
@[simp] theorem takeAdvert_steady {p : Nat} {f : Frame} {q : Nat} {s : State} (hS : Steady z₀ s) : Steady z₀ (takeAdvert p f q s) := by
  unfold takeAdvert; dsimp only; repeat' split
  all_goals simp (maxDischargeDepth := 99) +contextual [hS, steady_foldl]
@[simp] theorem duplicate_steady {uid : Nat} {s : State} (hS : Steady z₀ s) : Steady z₀ (duplicate uid s) := by
  unfold duplicate; simp (maxDischargeDepth := 99) [hS]
@[simp] theorem execAdvertFrame_steady {port seq : Nat} {wire : List Nat} {s : State} (hS : Steady z₀ s) : SteadyOut z₀ (execAdvertFrame port seq wire s) := by
  unfold execAdvertFrame
  dsimp only
  split
  · simp [hS]
  · refine onFrame_steady (fun t ht => ?_) hS
    repeat' split
    all_goals simp (maxDischargeDepth := 99) [ht]
@[simp] theorem execRouteAgeOut_steady {id : Nat} {s : State} (hS : Steady z₀ s) : SteadyOut z₀ (execRouteAgeOut id s) := by
  unfold execRouteAgeOut; simp (maxDischargeDepth := 99) [hS]
@[simp] theorem takeRequest_steady {p seq ns : Nat} {wire : List Nat} {en : Bool} {bad : Option Nat} {op : HostOp} {w : FabWork} {s : State} (hS : Steady z₀ s) :
    SteadyOut z₀ (takeRequest p seq wire en ns bad op w s) := by
  unfold takeRequest
  dsimp only
  split
  · simp [hS]
  · split
    · simp (maxDischargeDepth := 99) [hS]
    · refine onLocal_steady (fun t ht => ?_) hS
      repeat' split
      all_goals simp (maxDischargeDepth := 99) [ht]
@[simp] theorem execAppendFrame_steady {port seq : Nat} {wire : List Nat} {s : State} (hS : Steady z₀ s) :
    SteadyOut z₀ (execAppendFrame port seq wire s) := by
  unfold execAppendFrame
  exact steadyOut_ite (steadyOut_next hS) (takeRequest_steady hS)
@[simp] theorem execDataFrame_steady {port seq : Nat} {wire : List Nat} {s : State} (hS : Steady z₀ s) : SteadyOut z₀ (execDataFrame port seq wire s) := by
  unfold execDataFrame
  refine onLocal_steady (fun t ht => ?_) hS
  split
  · exact ht
  · split
    · exact setFab_steady ht
    · exact ht
@[simp] theorem execAppendDataTimeout_steady {src tag elapsedMs : Nat} {s : State} (hS : Steady z₀ s) : SteadyOut z₀ (execAppendDataTimeout src tag elapsedMs s) := by
  unfold execAppendDataTimeout; split <;> simp (maxDischargeDepth := 99) +contextual [hS, steady_foldl]
@[simp] theorem execReadFrame_steady {port seq : Nat} {wire : List Nat} {s : State} (hS : Steady z₀ s) :
    SteadyOut z₀ (execReadFrame port seq wire s) := by
  unfold execReadFrame
  exact steadyOut_ite (steadyOut_next hS) (takeRequest_steady hS)
@[simp] theorem execCopyFrame_steady {port seq : Nat} {wire : List Nat} {s : State} (hS : Steady z₀ s) :
    SteadyOut z₀ (execCopyFrame port seq wire s) := by
  unfold execCopyFrame
  exact steadyOut_ite (steadyOut_next hS) (takeRequest_steady hS)
@[simp] theorem execWitnessFrame_steady {port seq : Nat} {wire : List Nat} {s : State} (hS : Steady z₀ s) :
    SteadyOut z₀ (execWitnessFrame port seq wire s) := by
  unfold execWitnessFrame
  exact onLocal_steady (fun t ht => steady_ite (respondTo_steady (setSeals_steady ht)) (respondTo_steady ht)) hS
@[simp] theorem startReq_steady {i : Nat} {s : State} (hS : Steady z₀ s) : Steady z₀ (startReq i s) := by
  unfold startReq
  split
  rename_i d t e
  have ht : Steady z₀ t := by
    have := fabBytes_steady (a := descAddr i s) (n := 64) hS
    rwa [e] at this
  extract_lets v type a p1
  split
  rename_i data u e'
  have hu : Steady z₀ u := by
    split at e'
    · have := fabBytes_steady (a := a) (n := bits v 32 32) ht
      rwa [e'] at this
    · cases e'; exact ht
  extract_lets f r b w
  have hw : Steady z₀ w := by simp (maxDischargeDepth := 99) [w, hu]
  split
  · exact steady_foldl hw (fun t x h => originate_steady h)
  · exact endReq_steady hw
@[simp] theorem startReqs_steady {n : Nat} {s : State} (hS : Steady z₀ s) : Steady z₀ (startReqs n s) := by
  induction n generalizing s with
  | zero => exact hS
  | succ n ih =>
    unfold startReqs
    split
    · exact hS
    · exact ih (startReq_steady (setFab_steady hS))
@[simp] theorem execRingHeadAdvance_steady {head : Nat} {s : State} (hS : Steady z₀ s) : SteadyOut z₀ (execRingHeadAdvance head s) := by
  unfold execRingHeadAdvance; simp (maxDischargeDepth := 99) [hS]
@[simp] theorem execFabricResponse_steady {port seq : Nat} {wire : List Nat} {s : State} (hS : Steady z₀ s) : SteadyOut z₀ (execFabricResponse port seq wire s) := by
  unfold execFabricResponse
  dsimp only
  split
  · simp [hS]
  · refine onLocal_steady (fun t ht => ?_) hS
    split
    · simp [ht]
    · repeat' split
      all_goals simp (maxDischargeDepth := 99) [ht]
@[simp] theorem execFabricRequestTimeout_steady {tag elapsedMs : Nat} {s : State} (hS : Steady z₀ s) : SteadyOut z₀ (execFabricRequestTimeout tag elapsedMs s) := by
  unfold execFabricRequestTimeout; split <;> simp (maxDischargeDepth := 99) +contextual [hS, steady_foldl]

end Sys2Proof.Machine
end

