-- ==== Sys2Proof/Laws/SteadyAccess.lean ====
section
/-! SUPPORT. Every operation of the tempo, register accesses and the arbiters keeps what Laws/Steady.lean says: the queue, what has been sent, and the canonical
forms of registers and memory. -/

namespace Sys2Proof.Machine

open Sys2Proof

set_option linter.unusedSimpArgs false

variable {z₀ : State}

/-! Tempo -/

@[simp] theorem phaseZero_steady {s : State} (hS : Steady z₀ s) : Steady z₀ (phaseZero s) := by
  unfold phaseZero; split <;> simp (maxDischargeDepth := 99) +contextual [hS, steady_foldl]
@[simp] theorem phaseNext_steady {s : State} (hS : Steady z₀ s) : Steady z₀ (phaseNext s) := by
  unfold phaseNext; simp (maxDischargeDepth := 99) [hS]
@[simp] theorem putCount_steady {v : Nat} {s : State} (hS : Steady z₀ s) : Steady z₀ (putCount v s) := by
  unfold putCount; simp (maxDischargeDepth := 99) [hS]
@[simp] theorem dividers_steady {s : State} (hS : Steady z₀ s) : Steady z₀ (dividers s) := by
  unfold dividers; simp (maxDischargeDepth := 99) [hS]
@[simp] theorem recorderTempo_steady {s : State} (hS : Steady z₀ s) : Steady z₀ (recorderTempo s) := by
  unfold recorderTempo; simp (maxDischargeDepth := 99) [hS]
@[simp] theorem administration_steady {s : State} (hS : Steady z₀ s) : Steady z₀ (administration s) := by
  unfold administration
  split
  · exact hS
  · refine steady_ite ?_ hS
    have ht : Steady z₀ (if get Reg.DRC_STAT.TRAINED s = 1 then loadFirmware true (by assumption) s else s) := steady_ite (loadFirmware_steady hS) hS
    exact serveHeld_steady (redirectAll_steady ht)
@[simp] theorem bringupTempo_steady {s : State} (hS : Steady z₀ s) : Steady z₀ (bringupTempo s) := by
  unfold bringupTempo; simp (maxDischargeDepth := 99) [hS]
@[simp] theorem gapsTempo_steady {s : State} (hS : Steady z₀ s) : Steady z₀ (gapsTempo s) := by
  unfold gapsTempo; simp (maxDischargeDepth := 99) [hS]
@[simp] theorem stageBoundary_steady {l : Nat} {s : State} (hS : Steady z₀ s) : Steady z₀ (stageBoundary l s) := by
  unfold stageBoundary; simp (maxDischargeDepth := 99) [hS]
@[simp] theorem share_steady {f : Fld} {g : State → State} {s : State} (h_g : ∀ u, Steady z₀ u → Steady z₀ (g u)) (hS : Steady z₀ s) : Steady z₀ (share f g s) := by
  unfold share; simp (maxDischargeDepth := 99) [hS, h_g]
@[simp] theorem hopMarks_steady {s : State} (hS : Steady z₀ s) : Steady z₀ (hopMarks s) := by
  unfold hopMarks; simp (maxDischargeDepth := 99) +contextual [hS, steady_foldl]
@[simp] theorem cycle0_steady {s : State} (hS : Steady z₀ s) : Steady z₀ (cycle0 s) := by
  unfold cycle0; simp (maxDischargeDepth := 99) +contextual [hS, steady_foldl]
@[simp] theorem execTempoBoundary_steady {s : State} (hS : Steady z₀ s) : SteadyOut z₀ (execTempoBoundary s) := by
  unfold execTempoBoundary; simp (maxDischargeDepth := 99) [hS]
@[simp] theorem execTempoCountPersist_steady {s : State} (hS : Steady z₀ s) : SteadyOut z₀ (execTempoCountPersist s) := by
  unfold execTempoCountPersist; simp (maxDischargeDepth := 99) [hS]
@[simp] theorem execPhaseKWrite_steady {k : Nat} {s : State} (hS : Steady z₀ s) : SteadyOut z₀ (execPhaseKWrite k s) := by
  unfold execPhaseKWrite; simp (maxDischargeDepth := 99) [hS]
@[simp] theorem execAlarmFire_steady {s : State} (hS : Steady z₀ s) : SteadyOut z₀ (execAlarmFire s) := by
  unfold execAlarmFire; simp (maxDischargeDepth := 99) [hS]
@[simp] theorem permitsOutput_steady {s : State} {a : Nat} (hS : Steady z₀ s) : Steady z₀ (permitsOutput s a) := by
  unfold permitsOutput; simp (maxDischargeDepth := 99) [hS]
@[simp] theorem execOutputWrite_steady {s : State} (hS : Steady z₀ s) : SteadyOut z₀ (execOutputWrite s) := by
  unfold execOutputWrite; simp (maxDischargeDepth := 99) +contextual [hS, steady_foldl]
@[simp] theorem execEngineFailure_steady {e : Nat} {memoryError : Bool} {s : State} (hS : Steady z₀ s) : SteadyOut z₀ (execEngineFailure e memoryError s) := by
  unfold execEngineFailure; simp (maxDischargeDepth := 99) [hS]
@[simp] theorem execFollowingErrorTrip_steady {e m : Nat} {s : State} (hS : Steady z₀ s) : SteadyOut z₀ (execFollowingErrorTrip e m s) := by
  unfold execFollowingErrorTrip; simp (maxDischargeDepth := 99) [hS]
@[simp] theorem execStageOutboundFrame_steady {link : Nat} {s : State} (hS : Steady z₀ s) : SteadyOut z₀ (execStageOutboundFrame link s) := by
  unfold execStageOutboundFrame; simp (maxDischargeDepth := 99) [hS]
@[simp] theorem feedReturn_steady {link : Nat} {words : List Nat} {s : State} (hS : Steady z₀ s) : Steady z₀ (feedReturn link words s) := by
  unfold feedReturn; simp (maxDischargeDepth := 99) +contextual [hS, steady_foldl]
@[simp] theorem returnGood_steady {link : Nat} {words : List Nat} {speed angle : Nat} {backward : Bool} {s : State} (hS : Steady z₀ s) : Steady z₀ (returnGood link words speed angle backward s) := by
  unfold returnGood; simp (maxDischargeDepth := 99) [hS]
@[simp] theorem execStageReturnFrame_steady {link : Nat} {words : List Nat} {good late : Bool} {speed angle : Nat} {backward : Bool} {s : State} (hS : Steady z₀ s) : SteadyOut z₀ (execStageReturnFrame link words good late speed angle backward s) := by
  unfold execStageReturnFrame; simp (maxDischargeDepth := 99) +contextual [hS, steady_foldl]
@[simp] theorem execStageLinkFault_steady {link : Nat} {s : State} (hS : Steady z₀ s) : SteadyOut z₀ (execStageLinkFault link s) := by
  unfold execStageLinkFault; simp (maxDischargeDepth := 99) [hS]

/-! RegWrite -/

@[simp] theorem nextOf_steady {o : Out} {s : State} (ho : SteadyOut z₀ o) (hS : Steady z₀ s) : Steady z₀ (nextOf o s) := by
  unfold nextOf
  split
  · exact ho _ rfl
  · exact hS
@[simp] theorem onBit_steady {v i : Nat} {f : State → State} {s : State} (h_f : ∀ u, Steady z₀ u → Steady z₀ (f u)) (hS : Steady z₀ s) : Steady z₀ (onBit v i f s) := by
  unfold onBit; simp (maxDischargeDepth := 99) [hS, h_f]
@[simp] theorem plainWrite_steady {addr v : Nat} {s : State} (hS : Steady z₀ s) : Steady z₀ (plainWrite addr v s) := by
  unfold plainWrite; simp (maxDischargeDepth := 99) [hS]
@[simp] theorem maskedWrite_steady {addr v : Nat} {acts : List Nat} {s : State} (hS : Steady z₀ s) : Steady z₀ (maskedWrite addr v acts s) := by
  unfold maskedWrite; simp (maxDischargeDepth := 99) [hS]
@[simp] theorem modeReqWrite_steady {addr v : Nat} {s : State} (hS : Steady z₀ s) : Steady z₀ (modeReqWrite addr v s) := by
  unfold modeReqWrite; simp (maxDischargeDepth := 99) +contextual [hS, steady_foldl]
@[simp] theorem ckptCtlWrite_steady {v : Nat} {s : State} (hS : Steady z₀ s) : Steady z₀ (ckptCtlWrite v s) := by
  unfold ckptCtlWrite; simp (maxDischargeDepth := 99) +contextual [hS, steady_foldl]
@[simp] theorem ceWindowWrite_steady {addr v : Nat} {s : State} (hS : Steady z₀ s) : Steady z₀ (ceWindowWrite addr v s) := by
  unfold ceWindowWrite; simp (maxDischargeDepth := 99) [hS]
@[simp] theorem spnCtlWrite_steady {v : Nat} {s : State} (hS : Steady z₀ s) : Steady z₀ (spnCtlWrite v s) := by
  unfold spnCtlWrite; simp (maxDischargeDepth := 99) +contextual [hS, steady_foldl]
@[simp] theorem actCtlWrite_steady {a addr v : Nat} {s : State} (hS : Steady z₀ s) : Steady z₀ (actCtlWrite a addr v s) := by
  unfold actCtlWrite; simp (maxDischargeDepth := 99) +contextual [hS, steady_foldl]
@[simp] theorem asxCtlWrite_steady {h v : Nat} {s : State} (hS : Steady z₀ s) : Steady z₀ (asxCtlWrite h v s) := by
  unfold asxCtlWrite; simp (maxDischargeDepth := 99) +contextual [hS, steady_foldl]
@[simp] theorem hchCtlWrite_steady {n addr v : Nat} {s : State} (hS : Steady z₀ s) : Steady z₀ (hchCtlWrite n addr v s) := by
  unfold hchCtlWrite; simp (maxDischargeDepth := 99) +contextual [hS, steady_foldl]
@[simp] theorem tpCtlWrite_steady {v : Nat} {s : State} (hS : Steady z₀ s) : Steady z₀ (tpCtlWrite v s) := by
  unfold tpCtlWrite; simp (maxDischargeDepth := 99) [hS]
@[simp] theorem hlkCtlWrite_steady {l addr v : Nat} {s : State} (hS : Steady z₀ s) : Steady z₀ (hlkCtlWrite l addr v s) := by
  unfold hlkCtlWrite; simp (maxDischargeDepth := 99) +contextual [hS, steady_foldl]
@[simp] theorem olkCtlWrite_steady {addr v : Nat} {s : State} (hS : Steady z₀ s) : Steady z₀ (olkCtlWrite addr v s) := by
  unfold olkCtlWrite; simp (maxDischargeDepth := 99) +contextual [hS, steady_foldl]
@[simp] theorem nsCfgWrite_steady {n v : Nat} {s : State} (hS : Steady z₀ s) : Steady z₀ (nsCfgWrite n v s) := by
  unfold nsCfgWrite; simp (maxDischargeDepth := 99) [hS]
@[simp] theorem osvCmdWrite_steady {addr v : Nat} {s : State} (hS : Steady z₀ s) : Steady z₀ (osvCmdWrite addr v s) := by
  unfold osvCmdWrite; simp (maxDischargeDepth := 99) +contextual [hS, steady_foldl]
@[simp] theorem dspinWrite_steady {v : Nat} {s : State} (hS : Steady z₀ s) : Steady z₀ (dspinWrite v s) := by
  unfold dspinWrite; simp (maxDischargeDepth := 99) +contextual [hS, steady_foldl]
@[simp] theorem ochCtlWrite_steady {addr v : Nat} {s : State} (hS : Steady z₀ s) : Steady z₀ (ochCtlWrite addr v s) := by
  unfold ochCtlWrite; simp (maxDischargeDepth := 99) +contextual [hS, steady_foldl]
@[simp] theorem ochCmdWrite_steady {addr v : Nat} {s : State} (hS : Steady z₀ s) : Steady z₀ (ochCmdWrite addr v s) := by
  unfold ochCmdWrite; simp (maxDischargeDepth := 99) +contextual [hS, steady_foldl]
@[simp] theorem grpCmdWrite_steady {g v : Nat} {s : State} (hS : Steady z₀ s) : Steady z₀ (grpCmdWrite g v s) := by
  unfold grpCmdWrite; repeat' split
  all_goals simp (maxDischargeDepth := 99) +contextual [hS, steady_foldl]
@[simp] theorem grpCtlWrite_steady {g addr v : Nat} {s : State} (hS : Steady z₀ s) : Steady z₀ (grpCtlWrite g addr v s) := by
  unfold grpCtlWrite; simp (maxDischargeDepth := 99) +contextual [hS, steady_foldl]
@[simp] theorem certCtlWrite_steady {v : Nat} {s : State} (hS : Steady z₀ s) : Steady z₀ (certCtlWrite v s) := by
  unfold certCtlWrite; simp (maxDischargeDepth := 99) +contextual [hS, steady_foldl]
@[simp] theorem certWrite_steady {addr v : Nat} {s : State} (hS : Steady z₀ s) : Steady z₀ (certWrite addr v s) := by
  unfold certWrite; simp (maxDischargeDepth := 99) [hS]
@[simp] theorem dmaCtlWrite_steady {c v : Nat} {s : State} (hS : Steady z₀ s) : Steady z₀ (dmaCtlWrite c v s) := by
  unfold dmaCtlWrite; simp (maxDischargeDepth := 99) +contextual [hS, steady_foldl]
@[simp] theorem fifCtlWrite_steady {f v : Nat} {s : State} (hS : Steady z₀ s) : Steady z₀ (fifCtlWrite f v s) := by
  unfold fifCtlWrite; simp (maxDischargeDepth := 99) +contextual [hS, steady_foldl]
@[simp] theorem rangeOpWrite_steady {v : Nat} {s : State} (hS : Steady z₀ s) : Steady z₀ (rangeOpWrite v s) := by
  unfold rangeOpWrite; simp (maxDischargeDepth := 99) +contextual [hS, steady_foldl]
@[simp] theorem fabCfgWrite_steady {addr v : Nat} {s : State} (hS : Steady z₀ s) : Steady z₀ (fabCfgWrite addr v s) := by
  unfold fabCfgWrite; simp (maxDischargeDepth := 99) [hS]
@[simp] theorem fabPortWrite_steady {p addr v : Nat} {s : State} (hS : Steady z₀ s) : Steady z₀ (fabPortWrite p addr v s) := by
  unfold fabPortWrite; simp (maxDischargeDepth := 99) +contextual [hS, steady_foldl]
@[simp] theorem routeWrite_steady {id addr v : Nat} {s : State} (hS : Steady z₀ s) : Steady z₀ (routeWrite id addr v s) := by
  unfold routeWrite; simp (maxDischargeDepth := 99) +contextual [hS, steady_foldl]
@[simp] theorem sprCoreWrite_steady {v : Nat} {s : State} (hS : Steady z₀ s) : Steady z₀ (sprCoreWrite v s) := by
  unfold sprCoreWrite; simp (maxDischargeDepth := 99) [hS]
theorem ownWrites_steady {m : Nat} {p : RegDesc × (Nat → Nat → Nat → State → State)} (hp : p ∈ ownWrites m) {i a v : Nat} {s : State}
    (hS : Steady z₀ s) : Steady z₀ (p.2 i a v s) := by
  revert p
  simp (maxDischargeDepth := 99) +contextual [ownWrites, hS]
@[simp] theorem writeReg_steady {m addr v : Nat} {s : State} (hS : Steady z₀ s) : Steady z₀ (writeReg m addr v s) := by
  unfold writeReg
  split
  · simp [hS]
  · split
    · rename_i e
      exact ownWrites_steady (List.mem_of_find?_eq_some e) hS
    · simp [hS]
@[simp] theorem readReg_steady {m addr : Nat} {s : State} (hS : Steady z₀ s) : Steady z₀ (readReg m addr s).2 := by
  unfold readReg; repeat' split
  all_goals simp (maxDischargeDepth := 99) +contextual [hS, steady_foldl]

/-! Arbiter -/

@[simp] theorem grantWait_steady {t wait : Nat} {s : State} (hS : Steady z₀ s) : Steady z₀ (grantWait t wait s) := by
  unfold grantWait; simp (maxDischargeDepth := 99) [hS]
@[simp] theorem windowLoad_steady {t : Nat} {load : Option Nat} {s : State} (hS : Steady z₀ s) : Steady z₀ (windowLoad t load s) := by
  unfold windowLoad; split <;> simp (maxDischargeDepth := 99) +contextual [hS, steady_foldl]
@[simp] theorem execArbWaitExceeded_steady {t : Nat} {reqs : List ArbReq} {load : Option Nat} {s : State} (hS : Steady z₀ s) : SteadyOut z₀ (execArbWaitExceeded t reqs load s) := by
  unfold execArbWaitExceeded; dsimp only; repeat' split
  all_goals simp (maxDischargeDepth := 99) +contextual [hS, steady_foldl]

/-! Access -/

@[simp] theorem access_steady {path : Bool} {m addr len : Nat} {write : Bool} {data : List Nat} {ups : List Upset} {s : State} (hS : Steady z₀ s) : Steady z₀ (access path m addr len write data ups s) := by
  unfold access; split <;> simp (maxDischargeDepth := 99) +contextual [hS, steady_foldl]
@[simp] theorem execRegisterWrite_steady {master addr size value : Nat} {s : State} (hS : Steady z₀ s) : SteadyOut z₀ (execRegisterWrite master addr size value s) := by
  unfold execRegisterWrite; simp (maxDischargeDepth := 99) [hS]
@[simp] theorem execLockCommit_steady {master addr value : Nat} {s : State} (hS : Steady z₀ s) : SteadyOut z₀ (execLockCommit master addr value s) := by
  unfold execLockCommit; simp (maxDischargeDepth := 99) [hS]
@[simp] theorem execBar2Request_steady {addr len : Nat} {write : Bool} {data : List Nat} {ups : List Upset} {s : State} (hS : Steady z₀ s) : SteadyOut z₀ (execBar2Request addr len write data ups s) := by
  unfold execBar2Request; simp (maxDischargeDepth := 99) [hS]
@[simp] theorem execMemoryAccess_steady {master addr len : Nat} {write : Bool} {data : List Nat} {ups : List Upset} {s : State} (hS : Steady z₀ s) :
    SteadyOut z₀ (execMemoryAccess master addr len write data ups s) := steadyOut_next (access_steady hS)
@[simp] theorem regAccesses_steady {write : Bool} {ups : List Upset} {l : List (Nat × Nat)} {data : List Nat} {s : State} (hS : Steady z₀ s) :
    Steady z₀ (regAccesses write ups l data s).2.2.2 := by
  induction l generalizing ups data s with
  | nil => exact hS
  | cons p l ih =>
    unfold regAccesses
    dsimp only
    split
    · simp [hS]
    · exact ih (access_steady hS)
    · exact ih (access_steady hS)
@[simp] theorem regServed_steady {f : Frame} {ups : List Upset} {s : State} (hS : Steady z₀ s) : Steady z₀ (regServed f ups s) := by
  unfold regServed
  exact respondTo_steady (regAccesses_steady hS)
@[simp] theorem execRegFrame_steady {port seq : Nat} {wire : List Nat} {ups : List Upset} {s : State} (hS : Steady z₀ s) :
    SteadyOut z₀ (execRegFrame port seq wire ups s) := onLocal_steady (fun _ h => regServed_steady h) hS
theorem fixedReads_steady {a : Nat} {ups : List Upset} {n : Nat} {x : List (Nat × Bool) × Bool × State} (hS : Steady z₀ x.2.2) :
    Steady z₀ (fixedReads a ups n x).2.2 := by
  induction n generalizing ups x with
  | zero => exact hS
  | succ n ih =>
    obtain ⟨l, ok, s⟩ := x
    unfold fixedReads
    dsimp only
    split
    · split <;> exact ih (access_steady hS)
    · exact ih hS
@[simp] theorem burstRead_steady {c : Nat} {ups : List Upset} {s : State} (hS : Steady z₀ s) : Steady z₀ (burstRead c ups s).2.2 := by
  unfold burstRead
  dsimp only
  split
  · exact fixedReads_steady hS
  · split <;> exact access_steady hS
theorem fixedWrites_steady {a : Nat} {n : Nat} {l : List Nat} {x : Bool × State} (hS : Steady z₀ x.2) : Steady z₀ (fixedWrites a n l x).2 := by
  induction n generalizing l x with
  | zero => exact hS
  | succ n ih =>
    obtain ⟨ok, s⟩ := x
    unfold fixedWrites
    dsimp only
    split
    · exact ih (access_steady hS)
    · exact hS
@[simp] theorem burstWrite_steady {c beats : Nat} {s : State} (hS : Steady z₀ s) : Steady z₀ (burstWrite c beats s).2 := by
  unfold burstWrite
  dsimp only
  split
  · exact fixedWrites_steady hS
  · split
    · simp [hS]
    · dsimp only
      split <;> simp [hS]
@[simp] theorem burstTaken_steady {c beats : Nat} {s : State} (hS : Steady z₀ s) : Steady z₀ (burstTaken c beats s) := by
  unfold burstTaken; simp (maxDischargeDepth := 99) [hS]
@[simp] theorem execDmaBurst_steady {c beats : Nat} {ups : List Upset} {s : State} (hS : Steady z₀ s) : SteadyOut z₀ (execDmaBurst c beats ups s) := by
  unfold execDmaBurst
  extract_lets r q t w
  have hq : Steady z₀ q.2.2 := by
    have : ∀ b : Bool, Steady z₀ (if b then burstRead c ups s else (r.stag, true, s)).2.2 := by
      intro b
      split <;> simp [hS]
    exact this _
  have ht : Steady z₀ t := by
    simp only [t]
    split <;> simp [hq]
  have hw : Steady z₀ w.2 := burstWrite_steady ht
  simp (maxDischargeDepth := 99) [hS, hq, hw]
@[simp] theorem execDmaBlockEnd_steady {c : Nat} {s : State} (hS : Steady z₀ s) : SteadyOut z₀ (execDmaBlockEnd c s) := by
  unfold execDmaBlockEnd
  extract_lets r k fix l t w
  have hw : Steady z₀ w.2 := by
    simp only [w, t]
    split
    · exact hS
    · split
      · exact fixedWrites_steady hS
      · simp [hS]
  simp (maxDischargeDepth := 99) [hS, hw]
@[simp] theorem preset_steady {s : State} {p : Nat × Nat} (hS : Steady z₀ s) : Steady z₀ (preset s p) := by
  unfold preset; split <;> simp (maxDischargeDepth := 99) +contextual [hS, steady_foldl]
@[simp] theorem execBootStart_steady {pfailHighMs : Nat} {s : State} (hS : Steady z₀ s) : SteadyOut z₀ (execBootStart pfailHighMs s) := by
  unfold execBootStart; simp (maxDischargeDepth := 99) +contextual [hS, steady_foldl]
@[simp] theorem execFirmwareCommit_steady {path : Port} {activate : Bool} {s : State} (hS : Steady z₀ s) : SteadyOut z₀ (execFirmwareCommit path activate s) := by
  unfold execFirmwareCommit; split <;> simp (maxDischargeDepth := 99) +contextual [hS, steady_foldl]

end Sys2Proof.Machine
end

