-- ==== Sys2Proof/Laws/State.lean ====
section
/-! SUPPORT. What each update of the state leaves: one lemma per field per update. -/

namespace Sys2Proof.Machine

@[simp] theorem put_pending (f : Fld) (v : Nat) (s : State) : (put f v s).pending = s.pending := rfl
@[simp] theorem put_mem (f : Fld) (v : Nat) (s : State) : (put f v s).mem = s.mem := rfl
@[simp] theorem put_poison (f : Fld) (v : Nat) (s : State) : (put f v s).poison = s.poison := rfl
@[simp] theorem put_free (f : Fld) (v : Nat) (s : State) : (put f v s).free = s.free := rfl
@[simp] theorem put_sent (f : Fld) (v : Nat) (s : State) : (put f v s).sent = s.sent := rfl
@[simp] theorem put_pins (f : Fld) (v : Nat) (s : State) : (put f v s).pins = s.pins := rfl
@[simp] theorem put_sys (f : Fld) (v : Nat) (s : State) : (put f v s).sys = s.sys := rfl
@[simp] theorem put_boot (f : Fld) (v : Nat) (s : State) : (put f v s).boot = s.boot := rfl
@[simp] theorem put_tmp (f : Fld) (v : Nat) (s : State) : (put f v s).tmp = s.tmp := rfl
@[simp] theorem put_ce (f : Fld) (v : Nat) (s : State) : (put f v s).ce = s.ce := rfl
@[simp] theorem put_stg (f : Fld) (v : Nat) (s : State) : (put f v s).stg = s.stg := rfl
@[simp] theorem put_spn (f : Fld) (v : Nat) (s : State) : (put f v s).spn = s.spn := rfl
@[simp] theorem put_act (f : Fld) (v : Nat) (s : State) : (put f v s).act = s.act := rfl
@[simp] theorem put_asx (f : Fld) (v : Nat) (s : State) : (put f v s).asx = s.asx := rfl
@[simp] theorem put_hch (f : Fld) (v : Nat) (s : State) : (put f v s).hch = s.hch := rfl
@[simp] theorem put_hlk (f : Fld) (v : Nat) (s : State) : (put f v s).hlk = s.hlk := rfl
@[simp] theorem put_tp (f : Fld) (v : Nat) (s : State) : (put f v s).tp = s.tp := rfl
@[simp] theorem put_zmg (f : Fld) (v : Nat) (s : State) : (put f v s).zmg = s.zmg := rfl
@[simp] theorem put_osv (f : Fld) (v : Nat) (s : State) : (put f v s).osv = s.osv := rfl
@[simp] theorem put_och (f : Fld) (v : Nat) (s : State) : (put f v s).och = s.och := rfl
@[simp] theorem put_olk (f : Fld) (v : Nat) (s : State) : (put f v s).olk = s.olk := rfl
@[simp] theorem put_mot (f : Fld) (v : Nat) (s : State) : (put f v s).mot = s.mot := rfl
@[simp] theorem put_cmd (f : Fld) (v : Nat) (s : State) : (put f v s).cmd = s.cmd := rfl
@[simp] theorem put_seals (f : Fld) (v : Nat) (s : State) : (put f v s).seals = s.seals := rfl
@[simp] theorem put_evr (f : Fld) (v : Nat) (s : State) : (put f v s).evr = s.evr := rfl
@[simp] theorem put_cal (f : Fld) (v : Nat) (s : State) : (put f v s).cal = s.cal := rfl
@[simp] theorem put_pmu (f : Fld) (v : Nat) (s : State) : (put f v s).pmu = s.pmu := rfl
@[simp] theorem put_memp (f : Fld) (v : Nat) (s : State) : (put f v s).memp = s.memp := rfl
@[simp] theorem put_dma (f : Fld) (v : Nat) (s : State) : (put f v s).dma = s.dma := rfl
@[simp] theorem put_dmaNext (f : Fld) (v : Nat) (s : State) : (put f v s).dmaNext = s.dmaNext := rfl
@[simp] theorem put_dmaTurn (f : Fld) (v : Nat) (s : State) : (put f v s).dmaTurn = s.dmaTurn := rfl
@[simp] theorem put_arb (f : Fld) (v : Nat) (s : State) : (put f v s).arb = s.arb := rfl
@[simp] theorem put_fif (f : Fld) (v : Nat) (s : State) : (put f v s).fif = s.fif := rfl
@[simp] theorem put_tch (f : Fld) (v : Nat) (s : State) : (put f v s).tch = s.tch := rfl
@[simp] theorem put_host (f : Fld) (v : Nat) (s : State) : (put f v s).host = s.host := rfl
@[simp] theorem put_fab (f : Fld) (v : Nat) (s : State) : (put f v s).fab = s.fab := rfl

@[simp] theorem send_pending (m : Msg) (s : State) : (send m s).pending = s.pending := rfl
@[simp] theorem send_regs (m : Msg) (s : State) : (send m s).regs = s.regs := rfl
@[simp] theorem send_mem (m : Msg) (s : State) : (send m s).mem = s.mem := rfl
@[simp] theorem send_poison (m : Msg) (s : State) : (send m s).poison = s.poison := rfl
@[simp] theorem send_free (m : Msg) (s : State) : (send m s).free = s.free := rfl
@[simp] theorem send_pins (m : Msg) (s : State) : (send m s).pins = s.pins := rfl
@[simp] theorem send_sys (m : Msg) (s : State) : (send m s).sys = s.sys := rfl
@[simp] theorem send_boot (m : Msg) (s : State) : (send m s).boot = s.boot := rfl
@[simp] theorem send_tmp (m : Msg) (s : State) : (send m s).tmp = s.tmp := rfl
@[simp] theorem send_ce (m : Msg) (s : State) : (send m s).ce = s.ce := rfl
@[simp] theorem send_stg (m : Msg) (s : State) : (send m s).stg = s.stg := rfl
@[simp] theorem send_spn (m : Msg) (s : State) : (send m s).spn = s.spn := rfl
@[simp] theorem send_act (m : Msg) (s : State) : (send m s).act = s.act := rfl
@[simp] theorem send_asx (m : Msg) (s : State) : (send m s).asx = s.asx := rfl
@[simp] theorem send_hch (m : Msg) (s : State) : (send m s).hch = s.hch := rfl
@[simp] theorem send_hlk (m : Msg) (s : State) : (send m s).hlk = s.hlk := rfl
@[simp] theorem send_tp (m : Msg) (s : State) : (send m s).tp = s.tp := rfl
@[simp] theorem send_zmg (m : Msg) (s : State) : (send m s).zmg = s.zmg := rfl
@[simp] theorem send_osv (m : Msg) (s : State) : (send m s).osv = s.osv := rfl
@[simp] theorem send_och (m : Msg) (s : State) : (send m s).och = s.och := rfl
@[simp] theorem send_olk (m : Msg) (s : State) : (send m s).olk = s.olk := rfl
@[simp] theorem send_mot (m : Msg) (s : State) : (send m s).mot = s.mot := rfl
@[simp] theorem send_cmd (m : Msg) (s : State) : (send m s).cmd = s.cmd := rfl
@[simp] theorem send_seals (m : Msg) (s : State) : (send m s).seals = s.seals := rfl
@[simp] theorem send_evr (m : Msg) (s : State) : (send m s).evr = s.evr := rfl
@[simp] theorem send_cal (m : Msg) (s : State) : (send m s).cal = s.cal := rfl
@[simp] theorem send_pmu (m : Msg) (s : State) : (send m s).pmu = s.pmu := rfl
@[simp] theorem send_memp (m : Msg) (s : State) : (send m s).memp = s.memp := rfl
@[simp] theorem send_dma (m : Msg) (s : State) : (send m s).dma = s.dma := rfl
@[simp] theorem send_dmaNext (m : Msg) (s : State) : (send m s).dmaNext = s.dmaNext := rfl
@[simp] theorem send_dmaTurn (m : Msg) (s : State) : (send m s).dmaTurn = s.dmaTurn := rfl
@[simp] theorem send_arb (m : Msg) (s : State) : (send m s).arb = s.arb := rfl
@[simp] theorem send_fif (m : Msg) (s : State) : (send m s).fif = s.fif := rfl
@[simp] theorem send_tch (m : Msg) (s : State) : (send m s).tch = s.tch := rfl
@[simp] theorem send_host (m : Msg) (s : State) : (send m s).host = s.host := rfl
@[simp] theorem send_fab (m : Msg) (s : State) : (send m s).fab = s.fab := rfl

@[simp] theorem freed_pending (s : State) : (freed s).pending = s.pending := rfl
@[simp] theorem freed_regs (s : State) : (freed s).regs = s.regs := rfl
@[simp] theorem freed_mem (s : State) : (freed s).mem = s.mem := rfl
@[simp] theorem freed_poison (s : State) : (freed s).poison = s.poison := rfl
@[simp] theorem freed_sent (s : State) : (freed s).sent = s.sent := rfl
@[simp] theorem freed_pins (s : State) : (freed s).pins = s.pins := rfl
@[simp] theorem freed_sys (s : State) : (freed s).sys = s.sys := rfl
@[simp] theorem freed_boot (s : State) : (freed s).boot = s.boot := rfl
@[simp] theorem freed_tmp (s : State) : (freed s).tmp = s.tmp := rfl
@[simp] theorem freed_ce (s : State) : (freed s).ce = s.ce := rfl
@[simp] theorem freed_stg (s : State) : (freed s).stg = s.stg := rfl
@[simp] theorem freed_spn (s : State) : (freed s).spn = s.spn := rfl
@[simp] theorem freed_act (s : State) : (freed s).act = s.act := rfl
@[simp] theorem freed_asx (s : State) : (freed s).asx = s.asx := rfl
@[simp] theorem freed_hch (s : State) : (freed s).hch = s.hch := rfl
@[simp] theorem freed_hlk (s : State) : (freed s).hlk = s.hlk := rfl
@[simp] theorem freed_tp (s : State) : (freed s).tp = s.tp := rfl
@[simp] theorem freed_zmg (s : State) : (freed s).zmg = s.zmg := rfl
@[simp] theorem freed_osv (s : State) : (freed s).osv = s.osv := rfl
@[simp] theorem freed_och (s : State) : (freed s).och = s.och := rfl
@[simp] theorem freed_olk (s : State) : (freed s).olk = s.olk := rfl
@[simp] theorem freed_mot (s : State) : (freed s).mot = s.mot := rfl
@[simp] theorem freed_cmd (s : State) : (freed s).cmd = s.cmd := rfl
@[simp] theorem freed_seals (s : State) : (freed s).seals = s.seals := rfl
@[simp] theorem freed_evr (s : State) : (freed s).evr = s.evr := rfl
@[simp] theorem freed_cal (s : State) : (freed s).cal = s.cal := rfl
@[simp] theorem freed_pmu (s : State) : (freed s).pmu = s.pmu := rfl
@[simp] theorem freed_memp (s : State) : (freed s).memp = s.memp := rfl
@[simp] theorem freed_dma (s : State) : (freed s).dma = s.dma := rfl
@[simp] theorem freed_dmaNext (s : State) : (freed s).dmaNext = s.dmaNext := rfl
@[simp] theorem freed_dmaTurn (s : State) : (freed s).dmaTurn = s.dmaTurn := rfl
@[simp] theorem freed_arb (s : State) : (freed s).arb = s.arb := rfl
@[simp] theorem freed_fif (s : State) : (freed s).fif = s.fif := rfl
@[simp] theorem freed_tch (s : State) : (freed s).tch = s.tch := rfl
@[simp] theorem freed_host (s : State) : (freed s).host = s.host := rfl
@[simp] theorem freed_fab (s : State) : (freed s).fab = s.fab := rfl

@[simp] theorem memWrite_pending (a : Nat) (l : List Nat) (s : State) : (memWrite a l s).pending = s.pending := rfl
@[simp] theorem memWrite_regs (a : Nat) (l : List Nat) (s : State) : (memWrite a l s).regs = s.regs := rfl
@[simp] theorem memWrite_poison (a : Nat) (l : List Nat) (s : State) : (memWrite a l s).poison = s.poison := rfl
@[simp] theorem memWrite_free (a : Nat) (l : List Nat) (s : State) : (memWrite a l s).free = s.free := rfl
@[simp] theorem memWrite_sent (a : Nat) (l : List Nat) (s : State) : (memWrite a l s).sent = s.sent := rfl
@[simp] theorem memWrite_pins (a : Nat) (l : List Nat) (s : State) : (memWrite a l s).pins = s.pins := rfl
@[simp] theorem memWrite_sys (a : Nat) (l : List Nat) (s : State) : (memWrite a l s).sys = s.sys := rfl
@[simp] theorem memWrite_boot (a : Nat) (l : List Nat) (s : State) : (memWrite a l s).boot = s.boot := rfl
@[simp] theorem memWrite_tmp (a : Nat) (l : List Nat) (s : State) : (memWrite a l s).tmp = s.tmp := rfl
@[simp] theorem memWrite_ce (a : Nat) (l : List Nat) (s : State) : (memWrite a l s).ce = s.ce := rfl
@[simp] theorem memWrite_stg (a : Nat) (l : List Nat) (s : State) : (memWrite a l s).stg = s.stg := rfl
@[simp] theorem memWrite_spn (a : Nat) (l : List Nat) (s : State) : (memWrite a l s).spn = s.spn := rfl
@[simp] theorem memWrite_act (a : Nat) (l : List Nat) (s : State) : (memWrite a l s).act = s.act := rfl
@[simp] theorem memWrite_asx (a : Nat) (l : List Nat) (s : State) : (memWrite a l s).asx = s.asx := rfl
@[simp] theorem memWrite_hch (a : Nat) (l : List Nat) (s : State) : (memWrite a l s).hch = s.hch := rfl
@[simp] theorem memWrite_hlk (a : Nat) (l : List Nat) (s : State) : (memWrite a l s).hlk = s.hlk := rfl
@[simp] theorem memWrite_tp (a : Nat) (l : List Nat) (s : State) : (memWrite a l s).tp = s.tp := rfl
@[simp] theorem memWrite_zmg (a : Nat) (l : List Nat) (s : State) : (memWrite a l s).zmg = s.zmg := rfl
@[simp] theorem memWrite_osv (a : Nat) (l : List Nat) (s : State) : (memWrite a l s).osv = s.osv := rfl
@[simp] theorem memWrite_och (a : Nat) (l : List Nat) (s : State) : (memWrite a l s).och = s.och := rfl
@[simp] theorem memWrite_olk (a : Nat) (l : List Nat) (s : State) : (memWrite a l s).olk = s.olk := rfl
@[simp] theorem memWrite_mot (a : Nat) (l : List Nat) (s : State) : (memWrite a l s).mot = s.mot := rfl
@[simp] theorem memWrite_cmd (a : Nat) (l : List Nat) (s : State) : (memWrite a l s).cmd = s.cmd := rfl
@[simp] theorem memWrite_seals (a : Nat) (l : List Nat) (s : State) : (memWrite a l s).seals = s.seals := rfl
@[simp] theorem memWrite_evr (a : Nat) (l : List Nat) (s : State) : (memWrite a l s).evr = s.evr := rfl
@[simp] theorem memWrite_cal (a : Nat) (l : List Nat) (s : State) : (memWrite a l s).cal = s.cal := rfl
@[simp] theorem memWrite_pmu (a : Nat) (l : List Nat) (s : State) : (memWrite a l s).pmu = s.pmu := rfl
@[simp] theorem memWrite_memp (a : Nat) (l : List Nat) (s : State) : (memWrite a l s).memp = s.memp := rfl
@[simp] theorem memWrite_dma (a : Nat) (l : List Nat) (s : State) : (memWrite a l s).dma = s.dma := rfl
@[simp] theorem memWrite_dmaNext (a : Nat) (l : List Nat) (s : State) : (memWrite a l s).dmaNext = s.dmaNext := rfl
@[simp] theorem memWrite_dmaTurn (a : Nat) (l : List Nat) (s : State) : (memWrite a l s).dmaTurn = s.dmaTurn := rfl
@[simp] theorem memWrite_arb (a : Nat) (l : List Nat) (s : State) : (memWrite a l s).arb = s.arb := rfl
@[simp] theorem memWrite_fif (a : Nat) (l : List Nat) (s : State) : (memWrite a l s).fif = s.fif := rfl
@[simp] theorem memWrite_tch (a : Nat) (l : List Nat) (s : State) : (memWrite a l s).tch = s.tch := rfl
@[simp] theorem memWrite_host (a : Nat) (l : List Nat) (s : State) : (memWrite a l s).host = s.host := rfl
@[simp] theorem memWrite_fab (a : Nat) (l : List Nat) (s : State) : (memWrite a l s).fab = s.fab := rfl

@[simp] theorem setAct_pending (a : Nat) (r : ActSt) (s : State) : (setAct a r s).pending = s.pending := rfl
@[simp] theorem setAct_regs (a : Nat) (r : ActSt) (s : State) : (setAct a r s).regs = s.regs := rfl
@[simp] theorem setAct_mem (a : Nat) (r : ActSt) (s : State) : (setAct a r s).mem = s.mem := rfl
@[simp] theorem setAct_poison (a : Nat) (r : ActSt) (s : State) : (setAct a r s).poison = s.poison := rfl
@[simp] theorem setAct_free (a : Nat) (r : ActSt) (s : State) : (setAct a r s).free = s.free := rfl
@[simp] theorem setAct_sent (a : Nat) (r : ActSt) (s : State) : (setAct a r s).sent = s.sent := rfl
@[simp] theorem setAct_pins (a : Nat) (r : ActSt) (s : State) : (setAct a r s).pins = s.pins := rfl
@[simp] theorem setAct_sys (a : Nat) (r : ActSt) (s : State) : (setAct a r s).sys = s.sys := rfl
@[simp] theorem setAct_boot (a : Nat) (r : ActSt) (s : State) : (setAct a r s).boot = s.boot := rfl
@[simp] theorem setAct_tmp (a : Nat) (r : ActSt) (s : State) : (setAct a r s).tmp = s.tmp := rfl
@[simp] theorem setAct_ce (a : Nat) (r : ActSt) (s : State) : (setAct a r s).ce = s.ce := rfl
@[simp] theorem setAct_stg (a : Nat) (r : ActSt) (s : State) : (setAct a r s).stg = s.stg := rfl
@[simp] theorem setAct_spn (a : Nat) (r : ActSt) (s : State) : (setAct a r s).spn = s.spn := rfl
@[simp] theorem setAct_asx (a : Nat) (r : ActSt) (s : State) : (setAct a r s).asx = s.asx := rfl
@[simp] theorem setAct_hch (a : Nat) (r : ActSt) (s : State) : (setAct a r s).hch = s.hch := rfl
@[simp] theorem setAct_hlk (a : Nat) (r : ActSt) (s : State) : (setAct a r s).hlk = s.hlk := rfl
@[simp] theorem setAct_tp (a : Nat) (r : ActSt) (s : State) : (setAct a r s).tp = s.tp := rfl
@[simp] theorem setAct_zmg (a : Nat) (r : ActSt) (s : State) : (setAct a r s).zmg = s.zmg := rfl
@[simp] theorem setAct_osv (a : Nat) (r : ActSt) (s : State) : (setAct a r s).osv = s.osv := rfl
@[simp] theorem setAct_och (a : Nat) (r : ActSt) (s : State) : (setAct a r s).och = s.och := rfl
@[simp] theorem setAct_olk (a : Nat) (r : ActSt) (s : State) : (setAct a r s).olk = s.olk := rfl
@[simp] theorem setAct_mot (a : Nat) (r : ActSt) (s : State) : (setAct a r s).mot = s.mot := rfl
@[simp] theorem setAct_cmd (a : Nat) (r : ActSt) (s : State) : (setAct a r s).cmd = s.cmd := rfl
@[simp] theorem setAct_seals (a : Nat) (r : ActSt) (s : State) : (setAct a r s).seals = s.seals := rfl
@[simp] theorem setAct_evr (a : Nat) (r : ActSt) (s : State) : (setAct a r s).evr = s.evr := rfl
@[simp] theorem setAct_cal (a : Nat) (r : ActSt) (s : State) : (setAct a r s).cal = s.cal := rfl
@[simp] theorem setAct_pmu (a : Nat) (r : ActSt) (s : State) : (setAct a r s).pmu = s.pmu := rfl
@[simp] theorem setAct_memp (a : Nat) (r : ActSt) (s : State) : (setAct a r s).memp = s.memp := rfl
@[simp] theorem setAct_dma (a : Nat) (r : ActSt) (s : State) : (setAct a r s).dma = s.dma := rfl
@[simp] theorem setAct_dmaNext (a : Nat) (r : ActSt) (s : State) : (setAct a r s).dmaNext = s.dmaNext := rfl
@[simp] theorem setAct_dmaTurn (a : Nat) (r : ActSt) (s : State) : (setAct a r s).dmaTurn = s.dmaTurn := rfl
@[simp] theorem setAct_arb (a : Nat) (r : ActSt) (s : State) : (setAct a r s).arb = s.arb := rfl
@[simp] theorem setAct_fif (a : Nat) (r : ActSt) (s : State) : (setAct a r s).fif = s.fif := rfl
@[simp] theorem setAct_tch (a : Nat) (r : ActSt) (s : State) : (setAct a r s).tch = s.tch := rfl
@[simp] theorem setAct_host (a : Nat) (r : ActSt) (s : State) : (setAct a r s).host = s.host := rfl
@[simp] theorem setAct_fab (a : Nat) (r : ActSt) (s : State) : (setAct a r s).fab = s.fab := rfl

@[simp] theorem setCe_pending (e : Nat) (r : EngSt) (s : State) : (setCe e r s).pending = s.pending := rfl
@[simp] theorem setCe_regs (e : Nat) (r : EngSt) (s : State) : (setCe e r s).regs = s.regs := rfl
@[simp] theorem setCe_mem (e : Nat) (r : EngSt) (s : State) : (setCe e r s).mem = s.mem := rfl
@[simp] theorem setCe_poison (e : Nat) (r : EngSt) (s : State) : (setCe e r s).poison = s.poison := rfl
@[simp] theorem setCe_free (e : Nat) (r : EngSt) (s : State) : (setCe e r s).free = s.free := rfl
@[simp] theorem setCe_sent (e : Nat) (r : EngSt) (s : State) : (setCe e r s).sent = s.sent := rfl
@[simp] theorem setCe_pins (e : Nat) (r : EngSt) (s : State) : (setCe e r s).pins = s.pins := rfl
@[simp] theorem setCe_sys (e : Nat) (r : EngSt) (s : State) : (setCe e r s).sys = s.sys := rfl
@[simp] theorem setCe_boot (e : Nat) (r : EngSt) (s : State) : (setCe e r s).boot = s.boot := rfl
@[simp] theorem setCe_tmp (e : Nat) (r : EngSt) (s : State) : (setCe e r s).tmp = s.tmp := rfl
@[simp] theorem setCe_stg (e : Nat) (r : EngSt) (s : State) : (setCe e r s).stg = s.stg := rfl
@[simp] theorem setCe_spn (e : Nat) (r : EngSt) (s : State) : (setCe e r s).spn = s.spn := rfl
@[simp] theorem setCe_act (e : Nat) (r : EngSt) (s : State) : (setCe e r s).act = s.act := rfl
@[simp] theorem setCe_asx (e : Nat) (r : EngSt) (s : State) : (setCe e r s).asx = s.asx := rfl
@[simp] theorem setCe_hch (e : Nat) (r : EngSt) (s : State) : (setCe e r s).hch = s.hch := rfl
@[simp] theorem setCe_hlk (e : Nat) (r : EngSt) (s : State) : (setCe e r s).hlk = s.hlk := rfl
@[simp] theorem setCe_tp (e : Nat) (r : EngSt) (s : State) : (setCe e r s).tp = s.tp := rfl
@[simp] theorem setCe_zmg (e : Nat) (r : EngSt) (s : State) : (setCe e r s).zmg = s.zmg := rfl
@[simp] theorem setCe_osv (e : Nat) (r : EngSt) (s : State) : (setCe e r s).osv = s.osv := rfl
@[simp] theorem setCe_och (e : Nat) (r : EngSt) (s : State) : (setCe e r s).och = s.och := rfl
@[simp] theorem setCe_olk (e : Nat) (r : EngSt) (s : State) : (setCe e r s).olk = s.olk := rfl
@[simp] theorem setCe_mot (e : Nat) (r : EngSt) (s : State) : (setCe e r s).mot = s.mot := rfl
@[simp] theorem setCe_cmd (e : Nat) (r : EngSt) (s : State) : (setCe e r s).cmd = s.cmd := rfl
@[simp] theorem setCe_seals (e : Nat) (r : EngSt) (s : State) : (setCe e r s).seals = s.seals := rfl
@[simp] theorem setCe_evr (e : Nat) (r : EngSt) (s : State) : (setCe e r s).evr = s.evr := rfl
@[simp] theorem setCe_cal (e : Nat) (r : EngSt) (s : State) : (setCe e r s).cal = s.cal := rfl
@[simp] theorem setCe_pmu (e : Nat) (r : EngSt) (s : State) : (setCe e r s).pmu = s.pmu := rfl
@[simp] theorem setCe_memp (e : Nat) (r : EngSt) (s : State) : (setCe e r s).memp = s.memp := rfl
@[simp] theorem setCe_dma (e : Nat) (r : EngSt) (s : State) : (setCe e r s).dma = s.dma := rfl
@[simp] theorem setCe_dmaNext (e : Nat) (r : EngSt) (s : State) : (setCe e r s).dmaNext = s.dmaNext := rfl
@[simp] theorem setCe_dmaTurn (e : Nat) (r : EngSt) (s : State) : (setCe e r s).dmaTurn = s.dmaTurn := rfl
@[simp] theorem setCe_arb (e : Nat) (r : EngSt) (s : State) : (setCe e r s).arb = s.arb := rfl
@[simp] theorem setCe_fif (e : Nat) (r : EngSt) (s : State) : (setCe e r s).fif = s.fif := rfl
@[simp] theorem setCe_tch (e : Nat) (r : EngSt) (s : State) : (setCe e r s).tch = s.tch := rfl
@[simp] theorem setCe_host (e : Nat) (r : EngSt) (s : State) : (setCe e r s).host = s.host := rfl
@[simp] theorem setCe_fab (e : Nat) (r : EngSt) (s : State) : (setCe e r s).fab = s.fab := rfl

@[simp] theorem setStg_pending (l : Nat) (r : StgSt) (s : State) : (setStg l r s).pending = s.pending := rfl
@[simp] theorem setStg_regs (l : Nat) (r : StgSt) (s : State) : (setStg l r s).regs = s.regs := rfl
@[simp] theorem setStg_mem (l : Nat) (r : StgSt) (s : State) : (setStg l r s).mem = s.mem := rfl
@[simp] theorem setStg_poison (l : Nat) (r : StgSt) (s : State) : (setStg l r s).poison = s.poison := rfl
@[simp] theorem setStg_free (l : Nat) (r : StgSt) (s : State) : (setStg l r s).free = s.free := rfl
@[simp] theorem setStg_sent (l : Nat) (r : StgSt) (s : State) : (setStg l r s).sent = s.sent := rfl
@[simp] theorem setStg_pins (l : Nat) (r : StgSt) (s : State) : (setStg l r s).pins = s.pins := rfl
@[simp] theorem setStg_sys (l : Nat) (r : StgSt) (s : State) : (setStg l r s).sys = s.sys := rfl
@[simp] theorem setStg_boot (l : Nat) (r : StgSt) (s : State) : (setStg l r s).boot = s.boot := rfl
@[simp] theorem setStg_tmp (l : Nat) (r : StgSt) (s : State) : (setStg l r s).tmp = s.tmp := rfl
@[simp] theorem setStg_ce (l : Nat) (r : StgSt) (s : State) : (setStg l r s).ce = s.ce := rfl
@[simp] theorem setStg_spn (l : Nat) (r : StgSt) (s : State) : (setStg l r s).spn = s.spn := rfl
@[simp] theorem setStg_act (l : Nat) (r : StgSt) (s : State) : (setStg l r s).act = s.act := rfl
@[simp] theorem setStg_asx (l : Nat) (r : StgSt) (s : State) : (setStg l r s).asx = s.asx := rfl
@[simp] theorem setStg_hch (l : Nat) (r : StgSt) (s : State) : (setStg l r s).hch = s.hch := rfl
@[simp] theorem setStg_hlk (l : Nat) (r : StgSt) (s : State) : (setStg l r s).hlk = s.hlk := rfl
@[simp] theorem setStg_tp (l : Nat) (r : StgSt) (s : State) : (setStg l r s).tp = s.tp := rfl
@[simp] theorem setStg_zmg (l : Nat) (r : StgSt) (s : State) : (setStg l r s).zmg = s.zmg := rfl
@[simp] theorem setStg_osv (l : Nat) (r : StgSt) (s : State) : (setStg l r s).osv = s.osv := rfl
@[simp] theorem setStg_och (l : Nat) (r : StgSt) (s : State) : (setStg l r s).och = s.och := rfl
@[simp] theorem setStg_olk (l : Nat) (r : StgSt) (s : State) : (setStg l r s).olk = s.olk := rfl
@[simp] theorem setStg_mot (l : Nat) (r : StgSt) (s : State) : (setStg l r s).mot = s.mot := rfl
@[simp] theorem setStg_cmd (l : Nat) (r : StgSt) (s : State) : (setStg l r s).cmd = s.cmd := rfl
@[simp] theorem setStg_seals (l : Nat) (r : StgSt) (s : State) : (setStg l r s).seals = s.seals := rfl
@[simp] theorem setStg_evr (l : Nat) (r : StgSt) (s : State) : (setStg l r s).evr = s.evr := rfl
@[simp] theorem setStg_cal (l : Nat) (r : StgSt) (s : State) : (setStg l r s).cal = s.cal := rfl
@[simp] theorem setStg_pmu (l : Nat) (r : StgSt) (s : State) : (setStg l r s).pmu = s.pmu := rfl
@[simp] theorem setStg_memp (l : Nat) (r : StgSt) (s : State) : (setStg l r s).memp = s.memp := rfl
@[simp] theorem setStg_dma (l : Nat) (r : StgSt) (s : State) : (setStg l r s).dma = s.dma := rfl
@[simp] theorem setStg_dmaNext (l : Nat) (r : StgSt) (s : State) : (setStg l r s).dmaNext = s.dmaNext := rfl
@[simp] theorem setStg_dmaTurn (l : Nat) (r : StgSt) (s : State) : (setStg l r s).dmaTurn = s.dmaTurn := rfl
@[simp] theorem setStg_arb (l : Nat) (r : StgSt) (s : State) : (setStg l r s).arb = s.arb := rfl
@[simp] theorem setStg_fif (l : Nat) (r : StgSt) (s : State) : (setStg l r s).fif = s.fif := rfl
@[simp] theorem setStg_tch (l : Nat) (r : StgSt) (s : State) : (setStg l r s).tch = s.tch := rfl
@[simp] theorem setStg_host (l : Nat) (r : StgSt) (s : State) : (setStg l r s).host = s.host := rfl
@[simp] theorem setStg_fab (l : Nat) (r : StgSt) (s : State) : (setStg l r s).fab = s.fab := rfl

@[simp] theorem setAsx_pending (h : Nat) (r : AsxSt) (s : State) : (setAsx h r s).pending = s.pending := rfl
@[simp] theorem setAsx_regs (h : Nat) (r : AsxSt) (s : State) : (setAsx h r s).regs = s.regs := rfl
@[simp] theorem setAsx_mem (h : Nat) (r : AsxSt) (s : State) : (setAsx h r s).mem = s.mem := rfl
@[simp] theorem setAsx_poison (h : Nat) (r : AsxSt) (s : State) : (setAsx h r s).poison = s.poison := rfl
@[simp] theorem setAsx_free (h : Nat) (r : AsxSt) (s : State) : (setAsx h r s).free = s.free := rfl
@[simp] theorem setAsx_sent (h : Nat) (r : AsxSt) (s : State) : (setAsx h r s).sent = s.sent := rfl
@[simp] theorem setAsx_pins (h : Nat) (r : AsxSt) (s : State) : (setAsx h r s).pins = s.pins := rfl
@[simp] theorem setAsx_sys (h : Nat) (r : AsxSt) (s : State) : (setAsx h r s).sys = s.sys := rfl
@[simp] theorem setAsx_boot (h : Nat) (r : AsxSt) (s : State) : (setAsx h r s).boot = s.boot := rfl
@[simp] theorem setAsx_tmp (h : Nat) (r : AsxSt) (s : State) : (setAsx h r s).tmp = s.tmp := rfl
@[simp] theorem setAsx_ce (h : Nat) (r : AsxSt) (s : State) : (setAsx h r s).ce = s.ce := rfl
@[simp] theorem setAsx_stg (h : Nat) (r : AsxSt) (s : State) : (setAsx h r s).stg = s.stg := rfl
@[simp] theorem setAsx_spn (h : Nat) (r : AsxSt) (s : State) : (setAsx h r s).spn = s.spn := rfl
@[simp] theorem setAsx_act (h : Nat) (r : AsxSt) (s : State) : (setAsx h r s).act = s.act := rfl
@[simp] theorem setAsx_hch (h : Nat) (r : AsxSt) (s : State) : (setAsx h r s).hch = s.hch := rfl
@[simp] theorem setAsx_hlk (h : Nat) (r : AsxSt) (s : State) : (setAsx h r s).hlk = s.hlk := rfl
@[simp] theorem setAsx_tp (h : Nat) (r : AsxSt) (s : State) : (setAsx h r s).tp = s.tp := rfl
@[simp] theorem setAsx_zmg (h : Nat) (r : AsxSt) (s : State) : (setAsx h r s).zmg = s.zmg := rfl
@[simp] theorem setAsx_osv (h : Nat) (r : AsxSt) (s : State) : (setAsx h r s).osv = s.osv := rfl
@[simp] theorem setAsx_och (h : Nat) (r : AsxSt) (s : State) : (setAsx h r s).och = s.och := rfl
@[simp] theorem setAsx_olk (h : Nat) (r : AsxSt) (s : State) : (setAsx h r s).olk = s.olk := rfl
@[simp] theorem setAsx_mot (h : Nat) (r : AsxSt) (s : State) : (setAsx h r s).mot = s.mot := rfl
@[simp] theorem setAsx_cmd (h : Nat) (r : AsxSt) (s : State) : (setAsx h r s).cmd = s.cmd := rfl
@[simp] theorem setAsx_seals (h : Nat) (r : AsxSt) (s : State) : (setAsx h r s).seals = s.seals := rfl
@[simp] theorem setAsx_evr (h : Nat) (r : AsxSt) (s : State) : (setAsx h r s).evr = s.evr := rfl
@[simp] theorem setAsx_cal (h : Nat) (r : AsxSt) (s : State) : (setAsx h r s).cal = s.cal := rfl
@[simp] theorem setAsx_pmu (h : Nat) (r : AsxSt) (s : State) : (setAsx h r s).pmu = s.pmu := rfl
@[simp] theorem setAsx_memp (h : Nat) (r : AsxSt) (s : State) : (setAsx h r s).memp = s.memp := rfl
@[simp] theorem setAsx_dma (h : Nat) (r : AsxSt) (s : State) : (setAsx h r s).dma = s.dma := rfl
@[simp] theorem setAsx_dmaNext (h : Nat) (r : AsxSt) (s : State) : (setAsx h r s).dmaNext = s.dmaNext := rfl
@[simp] theorem setAsx_dmaTurn (h : Nat) (r : AsxSt) (s : State) : (setAsx h r s).dmaTurn = s.dmaTurn := rfl
@[simp] theorem setAsx_arb (h : Nat) (r : AsxSt) (s : State) : (setAsx h r s).arb = s.arb := rfl
@[simp] theorem setAsx_fif (h : Nat) (r : AsxSt) (s : State) : (setAsx h r s).fif = s.fif := rfl
@[simp] theorem setAsx_tch (h : Nat) (r : AsxSt) (s : State) : (setAsx h r s).tch = s.tch := rfl
@[simp] theorem setAsx_host (h : Nat) (r : AsxSt) (s : State) : (setAsx h r s).host = s.host := rfl
@[simp] theorem setAsx_fab (h : Nat) (r : AsxSt) (s : State) : (setAsx h r s).fab = s.fab := rfl

@[simp] theorem setHch_pending (n : Nat) (r : HchSt) (s : State) : (setHch n r s).pending = s.pending := rfl
@[simp] theorem setHch_regs (n : Nat) (r : HchSt) (s : State) : (setHch n r s).regs = s.regs := rfl
@[simp] theorem setHch_mem (n : Nat) (r : HchSt) (s : State) : (setHch n r s).mem = s.mem := rfl
@[simp] theorem setHch_poison (n : Nat) (r : HchSt) (s : State) : (setHch n r s).poison = s.poison := rfl
@[simp] theorem setHch_free (n : Nat) (r : HchSt) (s : State) : (setHch n r s).free = s.free := rfl
@[simp] theorem setHch_sent (n : Nat) (r : HchSt) (s : State) : (setHch n r s).sent = s.sent := rfl
@[simp] theorem setHch_pins (n : Nat) (r : HchSt) (s : State) : (setHch n r s).pins = s.pins := rfl
@[simp] theorem setHch_sys (n : Nat) (r : HchSt) (s : State) : (setHch n r s).sys = s.sys := rfl
@[simp] theorem setHch_boot (n : Nat) (r : HchSt) (s : State) : (setHch n r s).boot = s.boot := rfl
@[simp] theorem setHch_tmp (n : Nat) (r : HchSt) (s : State) : (setHch n r s).tmp = s.tmp := rfl
@[simp] theorem setHch_ce (n : Nat) (r : HchSt) (s : State) : (setHch n r s).ce = s.ce := rfl
@[simp] theorem setHch_stg (n : Nat) (r : HchSt) (s : State) : (setHch n r s).stg = s.stg := rfl
@[simp] theorem setHch_spn (n : Nat) (r : HchSt) (s : State) : (setHch n r s).spn = s.spn := rfl
@[simp] theorem setHch_act (n : Nat) (r : HchSt) (s : State) : (setHch n r s).act = s.act := rfl
@[simp] theorem setHch_asx (n : Nat) (r : HchSt) (s : State) : (setHch n r s).asx = s.asx := rfl
@[simp] theorem setHch_hlk (n : Nat) (r : HchSt) (s : State) : (setHch n r s).hlk = s.hlk := rfl
@[simp] theorem setHch_tp (n : Nat) (r : HchSt) (s : State) : (setHch n r s).tp = s.tp := rfl
@[simp] theorem setHch_zmg (n : Nat) (r : HchSt) (s : State) : (setHch n r s).zmg = s.zmg := rfl
@[simp] theorem setHch_osv (n : Nat) (r : HchSt) (s : State) : (setHch n r s).osv = s.osv := rfl
@[simp] theorem setHch_och (n : Nat) (r : HchSt) (s : State) : (setHch n r s).och = s.och := rfl
@[simp] theorem setHch_olk (n : Nat) (r : HchSt) (s : State) : (setHch n r s).olk = s.olk := rfl
@[simp] theorem setHch_mot (n : Nat) (r : HchSt) (s : State) : (setHch n r s).mot = s.mot := rfl
@[simp] theorem setHch_cmd (n : Nat) (r : HchSt) (s : State) : (setHch n r s).cmd = s.cmd := rfl
@[simp] theorem setHch_seals (n : Nat) (r : HchSt) (s : State) : (setHch n r s).seals = s.seals := rfl
@[simp] theorem setHch_evr (n : Nat) (r : HchSt) (s : State) : (setHch n r s).evr = s.evr := rfl
@[simp] theorem setHch_cal (n : Nat) (r : HchSt) (s : State) : (setHch n r s).cal = s.cal := rfl
@[simp] theorem setHch_pmu (n : Nat) (r : HchSt) (s : State) : (setHch n r s).pmu = s.pmu := rfl
@[simp] theorem setHch_memp (n : Nat) (r : HchSt) (s : State) : (setHch n r s).memp = s.memp := rfl
@[simp] theorem setHch_dma (n : Nat) (r : HchSt) (s : State) : (setHch n r s).dma = s.dma := rfl
@[simp] theorem setHch_dmaNext (n : Nat) (r : HchSt) (s : State) : (setHch n r s).dmaNext = s.dmaNext := rfl
@[simp] theorem setHch_dmaTurn (n : Nat) (r : HchSt) (s : State) : (setHch n r s).dmaTurn = s.dmaTurn := rfl
@[simp] theorem setHch_arb (n : Nat) (r : HchSt) (s : State) : (setHch n r s).arb = s.arb := rfl
@[simp] theorem setHch_fif (n : Nat) (r : HchSt) (s : State) : (setHch n r s).fif = s.fif := rfl
@[simp] theorem setHch_tch (n : Nat) (r : HchSt) (s : State) : (setHch n r s).tch = s.tch := rfl
@[simp] theorem setHch_host (n : Nat) (r : HchSt) (s : State) : (setHch n r s).host = s.host := rfl
@[simp] theorem setHch_fab (n : Nat) (r : HchSt) (s : State) : (setHch n r s).fab = s.fab := rfl

@[simp] theorem setHlk_pending (l : Nat) (r : HlkSt) (s : State) : (setHlk l r s).pending = s.pending := rfl
@[simp] theorem setHlk_regs (l : Nat) (r : HlkSt) (s : State) : (setHlk l r s).regs = s.regs := rfl
@[simp] theorem setHlk_mem (l : Nat) (r : HlkSt) (s : State) : (setHlk l r s).mem = s.mem := rfl
@[simp] theorem setHlk_poison (l : Nat) (r : HlkSt) (s : State) : (setHlk l r s).poison = s.poison := rfl
@[simp] theorem setHlk_free (l : Nat) (r : HlkSt) (s : State) : (setHlk l r s).free = s.free := rfl
@[simp] theorem setHlk_sent (l : Nat) (r : HlkSt) (s : State) : (setHlk l r s).sent = s.sent := rfl
@[simp] theorem setHlk_pins (l : Nat) (r : HlkSt) (s : State) : (setHlk l r s).pins = s.pins := rfl
@[simp] theorem setHlk_sys (l : Nat) (r : HlkSt) (s : State) : (setHlk l r s).sys = s.sys := rfl
@[simp] theorem setHlk_boot (l : Nat) (r : HlkSt) (s : State) : (setHlk l r s).boot = s.boot := rfl
@[simp] theorem setHlk_tmp (l : Nat) (r : HlkSt) (s : State) : (setHlk l r s).tmp = s.tmp := rfl
@[simp] theorem setHlk_ce (l : Nat) (r : HlkSt) (s : State) : (setHlk l r s).ce = s.ce := rfl
@[simp] theorem setHlk_stg (l : Nat) (r : HlkSt) (s : State) : (setHlk l r s).stg = s.stg := rfl
@[simp] theorem setHlk_spn (l : Nat) (r : HlkSt) (s : State) : (setHlk l r s).spn = s.spn := rfl
@[simp] theorem setHlk_act (l : Nat) (r : HlkSt) (s : State) : (setHlk l r s).act = s.act := rfl
@[simp] theorem setHlk_asx (l : Nat) (r : HlkSt) (s : State) : (setHlk l r s).asx = s.asx := rfl
@[simp] theorem setHlk_hch (l : Nat) (r : HlkSt) (s : State) : (setHlk l r s).hch = s.hch := rfl
@[simp] theorem setHlk_tp (l : Nat) (r : HlkSt) (s : State) : (setHlk l r s).tp = s.tp := rfl
@[simp] theorem setHlk_zmg (l : Nat) (r : HlkSt) (s : State) : (setHlk l r s).zmg = s.zmg := rfl
@[simp] theorem setHlk_osv (l : Nat) (r : HlkSt) (s : State) : (setHlk l r s).osv = s.osv := rfl
@[simp] theorem setHlk_och (l : Nat) (r : HlkSt) (s : State) : (setHlk l r s).och = s.och := rfl
@[simp] theorem setHlk_olk (l : Nat) (r : HlkSt) (s : State) : (setHlk l r s).olk = s.olk := rfl
@[simp] theorem setHlk_mot (l : Nat) (r : HlkSt) (s : State) : (setHlk l r s).mot = s.mot := rfl
@[simp] theorem setHlk_cmd (l : Nat) (r : HlkSt) (s : State) : (setHlk l r s).cmd = s.cmd := rfl
@[simp] theorem setHlk_seals (l : Nat) (r : HlkSt) (s : State) : (setHlk l r s).seals = s.seals := rfl
@[simp] theorem setHlk_evr (l : Nat) (r : HlkSt) (s : State) : (setHlk l r s).evr = s.evr := rfl
@[simp] theorem setHlk_cal (l : Nat) (r : HlkSt) (s : State) : (setHlk l r s).cal = s.cal := rfl
@[simp] theorem setHlk_pmu (l : Nat) (r : HlkSt) (s : State) : (setHlk l r s).pmu = s.pmu := rfl
@[simp] theorem setHlk_memp (l : Nat) (r : HlkSt) (s : State) : (setHlk l r s).memp = s.memp := rfl
@[simp] theorem setHlk_dma (l : Nat) (r : HlkSt) (s : State) : (setHlk l r s).dma = s.dma := rfl
@[simp] theorem setHlk_dmaNext (l : Nat) (r : HlkSt) (s : State) : (setHlk l r s).dmaNext = s.dmaNext := rfl
@[simp] theorem setHlk_dmaTurn (l : Nat) (r : HlkSt) (s : State) : (setHlk l r s).dmaTurn = s.dmaTurn := rfl
@[simp] theorem setHlk_arb (l : Nat) (r : HlkSt) (s : State) : (setHlk l r s).arb = s.arb := rfl
@[simp] theorem setHlk_fif (l : Nat) (r : HlkSt) (s : State) : (setHlk l r s).fif = s.fif := rfl
@[simp] theorem setHlk_tch (l : Nat) (r : HlkSt) (s : State) : (setHlk l r s).tch = s.tch := rfl
@[simp] theorem setHlk_host (l : Nat) (r : HlkSt) (s : State) : (setHlk l r s).host = s.host := rfl
@[simp] theorem setHlk_fab (l : Nat) (r : HlkSt) (s : State) : (setHlk l r s).fab = s.fab := rfl

@[simp] theorem postRec_pending (r : EvRec) (s : State) : (postRec r s).pending = s.pending := rfl
@[simp] theorem postRec_mem (r : EvRec) (s : State) : (postRec r s).mem = s.mem := rfl
@[simp] theorem postRec_poison (r : EvRec) (s : State) : (postRec r s).poison = s.poison := rfl
@[simp] theorem postRec_free (r : EvRec) (s : State) : (postRec r s).free = s.free := rfl
@[simp] theorem postRec_sent (r : EvRec) (s : State) : (postRec r s).sent = s.sent := rfl
@[simp] theorem postRec_pins (r : EvRec) (s : State) : (postRec r s).pins = s.pins := rfl
@[simp] theorem postRec_sys (r : EvRec) (s : State) : (postRec r s).sys = s.sys := rfl
@[simp] theorem postRec_boot (r : EvRec) (s : State) : (postRec r s).boot = s.boot := rfl
@[simp] theorem postRec_tmp (r : EvRec) (s : State) : (postRec r s).tmp = s.tmp := rfl
@[simp] theorem postRec_ce (r : EvRec) (s : State) : (postRec r s).ce = s.ce := rfl
@[simp] theorem postRec_stg (r : EvRec) (s : State) : (postRec r s).stg = s.stg := rfl
@[simp] theorem postRec_spn (r : EvRec) (s : State) : (postRec r s).spn = s.spn := rfl
@[simp] theorem postRec_act (r : EvRec) (s : State) : (postRec r s).act = s.act := rfl
@[simp] theorem postRec_asx (r : EvRec) (s : State) : (postRec r s).asx = s.asx := rfl
@[simp] theorem postRec_hch (r : EvRec) (s : State) : (postRec r s).hch = s.hch := rfl
@[simp] theorem postRec_hlk (r : EvRec) (s : State) : (postRec r s).hlk = s.hlk := rfl
@[simp] theorem postRec_tp (r : EvRec) (s : State) : (postRec r s).tp = s.tp := rfl
@[simp] theorem postRec_zmg (r : EvRec) (s : State) : (postRec r s).zmg = s.zmg := rfl
@[simp] theorem postRec_osv (r : EvRec) (s : State) : (postRec r s).osv = s.osv := rfl
@[simp] theorem postRec_och (r : EvRec) (s : State) : (postRec r s).och = s.och := rfl
@[simp] theorem postRec_olk (r : EvRec) (s : State) : (postRec r s).olk = s.olk := rfl
@[simp] theorem postRec_mot (r : EvRec) (s : State) : (postRec r s).mot = s.mot := rfl
@[simp] theorem postRec_cmd (r : EvRec) (s : State) : (postRec r s).cmd = s.cmd := rfl
@[simp] theorem postRec_seals (r : EvRec) (s : State) : (postRec r s).seals = s.seals := rfl
@[simp] theorem postRec_cal (r : EvRec) (s : State) : (postRec r s).cal = s.cal := rfl
@[simp] theorem postRec_pmu (r : EvRec) (s : State) : (postRec r s).pmu = s.pmu := rfl
@[simp] theorem postRec_memp (r : EvRec) (s : State) : (postRec r s).memp = s.memp := rfl
@[simp] theorem postRec_dma (r : EvRec) (s : State) : (postRec r s).dma = s.dma := rfl
@[simp] theorem postRec_dmaNext (r : EvRec) (s : State) : (postRec r s).dmaNext = s.dmaNext := rfl
@[simp] theorem postRec_dmaTurn (r : EvRec) (s : State) : (postRec r s).dmaTurn = s.dmaTurn := rfl
@[simp] theorem postRec_arb (r : EvRec) (s : State) : (postRec r s).arb = s.arb := rfl
@[simp] theorem postRec_fif (r : EvRec) (s : State) : (postRec r s).fif = s.fif := rfl
@[simp] theorem postRec_tch (r : EvRec) (s : State) : (postRec r s).tch = s.tch := rfl
@[simp] theorem postRec_host (r : EvRec) (s : State) : (postRec r s).host = s.host := rfl
@[simp] theorem postRec_fab (r : EvRec) (s : State) : (postRec r s).fab = s.fab := rfl

end Sys2Proof.Machine
end

