-- ==== Sys2Proof/Tests/Slice0.lean ====
section
/-! SUPPORT. Tests of the model: ill-formed commands that WellFormed refuses, single steps whose results are worked out from the rules
by hand, and for each obligation a witness: for every clause that has hypotheses, operands and a state that meet them all. -/

open Sys2Proof Sys2Proof.Machine
namespace Sys2Proof.Tests

/-- The state after reset with some register fields set. -/
def at_ (l : List (Fld × Nat)) : State := puts l .reset
/-- A command of nexus 2 on SAS port 0 to namespace 1, and its context. -/
def hc (op : HostOp) : HostCmd := { port := .sas0, nexus := 2, tag := 5, ns := 1, op := op, ordered := false, naca := false, ncq := false }
def cx (op : HostOp) : Ctx := { stamp := 9, cmd := hc op, cls := 2, started := true }

theorem find_any {l : List CacheLine} {f : CacheLine → Bool} (h : ∀ x ∈ l, x.mask = 255) (k : ∃ x ∈ l, f x = true) :
    (l.find? f).any (fun x => x.mask == 255) = true := by
  obtain ⟨x, hx, hf⟩ := k
  cases e : l.find? f with
  | none => exact absurd hf (by simpa using List.find?_eq_none.1 e x hx)
  | some y => simpa using h y (List.mem_of_find?_eq_some e)

/-- Stream 3 on, and sector 4 of zone 3 to write anew, with the zone itself a spare one: the head of a zone is a free value. -/
def remapState (n : Nat) : State :=
  { at_ [(Reg.ZMG_CTL.EN, 1), (Reg.SYS_MODE.CUR, 3), (Reg.HCH_CTL.EN n, 1), (Reg.HCH_STAT.FAILED n, 0), (Reg.HCH_SPARE.SEL, 7),
      (Reg.ACT_STAT.PERMIT1 1, 1), (Reg.ACT_STAT.PERMIT2 1, 1)] with zmg := { rewrite := [((3, 4), 77)], spares := [3] } }

theorem spare_self {z j : Nat} {s : State} (h : s.zmg.spares.contains z = true) (k : j < 65536) (r : s.zmg.remaps = []) :
    spareSector z (z, j) s = true := by
  simp only [spareSector, h, r]
  simp [k]

/-- A cache with some lines, and the lines of one band of namespace 1 whole. -/
def bandState (l : List CacheLine) : State :=
  { at_ [(Reg.ZMG_CTL.EN, 1), (Reg.ZMG_CTL.CLEAN_EN, 1), (Reg.ZMG_NS_CFG.TYPE 1, 3), (Reg.ZMG_NS_ZONES.FIRST 1, 3), (Reg.ZMG_NS_COUNT.COUNT 1, 2), (Reg.ZMG_ZTBL_HI.ADDR, 16), (Reg.ZMG_NS_MC.ZONES 1, 8), (Reg.ZMG_DM_CFG.CRIT, 50), (Reg.ZMG_DM_CFG.DIRECT_MIN, 0), (Reg.ZMG_DM_CFG.FREE_MIN, 1), (Reg.ZMG_SPARE.LOW, 1), (Reg.ZMG_NS_CFG.LBAF 1, 0)]
    with zmg := { spares := [9, 10] }, cmd := { lines := l } }
def bandLines (n : Nat) : List CacheLine := (List.range n).map (fun i => ⟨1, i, 255, i, [4]⟩)

theorem band_cached (n : Nat) : (List.range n).all (fun i => (lineOf 1 (65536 * 0 + i) (bandState (bandLines n))).any (fun l => l.mask == 255)) = true := by
  refine List.all_eq_true.2 fun i hi => ?_
  have e : (bandState (bandLines n)).cmd.lines = bandLines n := rfl
  unfold lineOf
  rw [e]
  refine find_any ?_ ?_
  · intro x hx
    obtain ⟨j, -, rfl⟩ := List.mem_map.1 hx
    rfl
  · exact ⟨_, List.mem_map.2 ⟨i, hi, rfl⟩, by simp⟩

/-- A checkpoint committed in slot 1: its header and its commit mark (R460, R461). -/
def ckptMem : List Host.Cell :=
  [(807403520, 67), (807403521, 75), (807403522, 80), (807403523, 84), (807403524, 1), (807403525, 5), (807403528, 7), (807403536, 1),
   (807403544, 2), (807403548, 3), (807403552, 4)] ++ (List.range 8).map (fun i => (807403564 + i, 255)) ++
  [(807407608, 15), (807407609, 184), (807407610, 13), (807407611, 177), (807407612, 60), (807407613, 90), (807407614, 195), (807407615, 165)]

/-! ### Ill-formed commands are refused, one for each check, and well-formed ones pass -/

theorem test_wf_accepts : (Instr.registerWrite 1 0x90000004 4 7).wf = true := by decide
theorem test_wf_no_master : (Instr.registerWrite 32 0x90000004 4 7).wf = false := by decide
theorem test_wf_word : (Instr.registerWrite 1 0x90000004 4 0x100000000).wf = false := by decide
theorem test_wf_address : (Instr.registerWrite 1 0x10000000000 4 7).wf = false := by decide
theorem test_wf_access_size : (Instr.registerWrite 1 0x90000004 3 7).wf = false := by decide
theorem test_wf_bytes : (Instr.memoryAccess 1 0x30000000 1 true [256] []).wf = false := by decide
theorem test_wf_upset : (Instr.dramScrubRead [{ addr := 0x30000000, cls := 3, holds := none, targetOk := true }] false).wf = false := by decide
theorem test_wf_swap : (Instr.dramTraining [] [[0, 1, 1, 3]]).wf = false := by decide
theorem test_wf_wire_header : (Instr.dataFrame 0 0 (List.replicate 32 0)).wf = false := by decide
theorem test_wf_wire_blocks : (Instr.dataFrame 0 0 (List.replicate 41 0)).wf = false := by decide
theorem test_wf_decoded : (Instr.lossRewriteRecovery [[⟨true, 2 ^ 33024⟩]]).wf = false := by decide +kernel
theorem test_wf_sector : (Instr.retryLadder 0 [.pass { sm1 := 2 ^ 64, sm2 := 0, rs := [], env := [], lost := [], lms := [], freq := 0, mse := 0, decodes := [] }]).wf = false := by decide +kernel
theorem test_wf_group : (Instr.retryLadder 0 [.group [⟨true, 2 ^ 33024⟩] ⟨true, 0⟩]).wf = false := by decide +kernel
theorem test_wf_wedge : (Instr.wedgeDemodComplete 0 ⟨⟨none, true, 0, 0, 0, 0, 0, 2 ^ 24, 0⟩, ⟨none, true, 0, 0, 0, 0, 0, 0, 0⟩, false⟩).wf = false := by decide
theorem test_wf_training : (Instr.headLinkTraining 0 ⟨8, 0, [], 0, 0, []⟩).wf = false := by decide
theorem test_wf_block : (Instr.headLinkReturnFrame 0 [2 ^ 64] false).wf = false := by decide
theorem test_wf_image : (Instr.firmwareDownload .pcie (2 ^ 25) [0]).wf = false := by decide
theorem test_wf_host_command : (Instr.nexusTake { hc (.read 0 1) with ns := 64 }).wf = false := by decide
theorem test_wf_unit : (Instr.irqClaim 10).wf = false := by decide

/-! ### One step on small states; what is expected is read from the rules -/

/-- A register field after a step that runs one command; none where it does not complete. -/
def readsAfter (f : Fld) (c : Instr) (s : State) : Option Nat :=
  match step { s with pending := [c] } with
  | .next t => some (get f t)
  | .fault _ => none
  | .refused _ => none

/-- The answer that a master gets after a step that runs one command. -/
def answers (c : Instr) (s : State) : Option BusResp :=
  match step { s with pending := [c] } with
  | .next t => some t.sys.resp
  | .fault _ => none
  | .refused _ => none

/-- R5: a field of three bits takes the word's three lowest. -/
theorem test_write_keeps_width : readsAfter (Reg.SYS_IRQ_THR.THR 9) (.registerWrite 3 (Reg.SYS_IRQ_THR.THR 9).addr 4 13) (at_ [(Reg.PMU_DOM_STAT.ON, 7)]) = some 5 := by decide +kernel
/-- R5: writing 1 clears a W1C bit, and writing 0 leaves it. -/
theorem test_write_one_clears : readsAfter Reg.SYS_CLK_STAT.XIN_LOST (.registerWrite 3 Reg.SYS_CLK_STAT.XIN_LOST.addr 4 256) (at_ [(Reg.PMU_DOM_STAT.ON, 7), (Reg.SYS_CLK_STAT.XIN_LOST, 1)]) = some 0 := by decide +kernel
theorem test_write_zero_leaves : readsAfter Reg.SYS_CLK_STAT.XIN_LOST (.registerWrite 3 Reg.SYS_CLK_STAT.XIN_LOST.addr 4 512) (at_ [(Reg.PMU_DOM_STAT.ON, 7), (Reg.SYS_CLK_STAT.XIN_LOST, 1)]) = some 1 := by decide +kernel
/-- R6: a locked register keeps its fields. -/
theorem test_locked_keeps : readsAfter Reg.SYS_PATH_CFG.FAB_EN (.lockCommit 1 Reg.SYS_PATH_CFG.LOCK.addr 0x80000002) (at_ [(Reg.PMU_DOM_STAT.ON, 7), (Reg.SYS_PATH_CFG.LOCK, 1), (Reg.SYS_PATH_CFG.FAB_EN, 0)]) = some 0 := by decide +kernel
/-- R22: with BAR2_EN 0 a request over BAR2 meets error cause 3. -/
theorem test_bar2_closed : answers (.bar2Request 0x40000000 4 false [] []) (at_ [(Reg.HPC_CFG.BAR2_IMPL, 1), (Reg.HPC_LINK.UP, 1), (Reg.SYS_PATH_CFG.BAR2_EN, 0)]) = some (.error 3) := by decide +kernel
/-- R16: bytes come back in the order of their addresses. -/
theorem test_mram_reads : answers (.memoryAccess 9 0x30000005 3 false [] []) { at_ [(Reg.PMU_DOM_STAT.ON, 7)] with mem := [(0x30000006, 9)] } = some (.data [0, 9, 0] false) := by decide +kernel
/-- R27: a context that offers nothing answers 0xFFFF. -/
theorem test_claim_empty : answers (.irqClaim 0) (at_ []) = some (.data [0xFF, 0xFF, 0, 0] false) := by decide +kernel
/-- R65: the tempo count carries from its lower word into its upper, and wraps at 48 bits. -/
theorem test_count_carries : readsAfter Reg.TMP_COUNT_HI.COUNT .tempoBoundary (at_ [(Reg.TMP_COUNT_LO.COUNT, 0xFFFFFFFF), (Reg.TMP_COUNT_HI.COUNT, 5)]) = some 6 := by decide +kernel
theorem test_count_wraps : readsAfter Reg.TMP_COUNT_HI.COUNT .tempoBoundary (at_ [(Reg.TMP_COUNT_LO.COUNT, 0xFFFFFFFF), (Reg.TMP_COUNT_HI.COUNT, 0xFFFF)]) = some 0 := by decide +kernel
/-- R68: PHASE returns to 0 after K - 1. -/
theorem test_phase_returns : readsAfter Reg.TMP_PHASE.PHASE .tempoBoundary (at_ [(Reg.TMP_PHASE.K, 8), (Reg.TMP_PHASE.PHASE, 7)]) = some 0 := by decide +kernel
/-- The check value of CRC-32C's own definition (log entry 5): the ASCII bytes of 123456789. -/
theorem test_crc32c : crc32c [49, 50, 51, 52, 53, 54, 55, 56, 57] = 0xE3069283 := by decide +kernel
/-- A command on a unit that does not exist faults; the table gives no row bits; an empty queue idles. -/
theorem test_no_unit : readsAfter Reg.TMP_PHASE.PHASE (.irqClaim 10) (at_ []) = none := by decide +kernel
theorem test_no_word : decodeTableWord 32 1 = none := rfl
theorem test_idle : step State.reset = .next State.reset := rfl

/-! ### Witnesses: the hypotheses of every clause are met -/

set_option maxRecDepth 100000
set_option Elab.async false
/-- The hypotheses of StepRunsTheFrontCommand, clause by clause, are met. -/
theorem witness_step_runs_the_front_command :
    (∃ (c : Instr) (q : List Instr) (s : State), s.pending = c :: q) ∧
    (∃ (s : State), s.pending = []) :=
  ⟨⟨(.irqClaim 3), ([.tempoBoundary]), ({ State.reset with pending := [.irqClaim 3, .tempoBoundary] }), by decide +kernel⟩,
    ⟨(State.reset), by decide +kernel⟩⟩

/-- The hypotheses of CommandsOnUnitsThatExistComplete, clause by clause, are met. -/
theorem witness_commands_on_units_that_exist_complete :
    ∃ (c : Instr), c.unitOk = true :=
  ⟨(.irqClaim 9), by decide +kernel⟩

/-- The hypotheses of CommandsOnUnitsThatDoNotExistFault, clause by clause, are met. -/
theorem witness_commands_on_units_that_do_not_exist_fault :
    ∃ (c : Instr), c.unitOk = false :=
  ⟨(.irqClaim 10), by decide +kernel⟩

/-- The hypotheses of EveryStepKeepsTheCanonicalForm, clause by clause, are met. -/
theorem witness_every_step_keeps_the_canonical_form :
    ∃ (s : State) (t : State), s.wf ∧ step s = .next t :=
  ⟨{ State.reset with pending := [.irqClaim 3] }, nextOf (step { State.reset with pending := [.irqClaim 3] }) State.reset, ⟨rfl, rfl⟩, rfl⟩

/-- The hypotheses of ExecLeavesTheQueueAndWhatWasSent, clause by clause, are met. -/
theorem witness_exec_leaves_the_queue_and_what_was_sent :
    ∃ (c : Instr) (s : State) (t : State), exec c s = .next t :=
  ⟨.irqClaim 3, State.reset, nextOf (exec (.irqClaim 3) State.reset) State.reset, rfl⟩

/-- The hypotheses of AQueueRunsToItsEnd, clause by clause, are met. -/
theorem witness_a_queue_runs_to_its_end :
    ∃ (s : State) (k : Nat), s.pending.all Instr.unitOk = true ∧ k ≤ s.pending.length :=
  ⟨({ State.reset with pending := [.irqClaim 3, .tempoBoundary] }), (2), by decide +kernel⟩

/-- The hypotheses of InterconnectAccessesTakeEffect, clause by clause, are met. -/
theorem witness_interconnect_accesses_take_effect :
    (∃ (m addr v : Nat) (s : State), (within regSpace addr 4 = true) ∧ (accessCause (pathOpen m s) addr 4 true s = none) ∧ (v < 2 ^ 32) ∧ (ceWindow addr = false) ∧ ((ownWrites m).find? (fun p => covers p.1 addr) = none)) ∧
    (∃ (m addr v : Nat) (s : State), (within regSpace addr 4 = true) ∧ (accessCause (pathOpen m s) addr 4 true s = none) ∧ (v < 2 ^ 32)) ∧
    (∃ (m addr n c : Nat) (s : State), (within regSpace addr 1 = true) ∧ (accessCause (pathOpen m s) addr n true s = some c)) ∧
    (∃ (m addr v : Nat) (f : Fld) (s : State), (v < 2 ^ 32) ∧ (v.testBit 31 = true) ∧ (lockOf addr = some f) ∧ (f.addr = addr) ∧ (accessCause (pathOpen m s) addr 4 true s = none) ∧ (get f s ≤ 1)) ∧
    (∃ (m addr n : Nat) (s : State), (within regSpace addr 1 = false) ∧ (accessCause (m != 14 || pathOpen 14 s) addr n true s = none)) ∧
    (∃ (m addr n : Nat) (s : State), (within regSpace addr 1 = false) ∧ (accessCause (m != 14 || pathOpen 14 s) addr n true s = none) ∧ (get Reg.TCH_CTL.EN s = 0) ∧ (s.memp.upsets = []) ∧ (s.poison = []) ∧ (get Reg.MEM_FLIP_CTL.ARM s = 0)) ∧
    (∃ (m addr n : Nat) (s : State), (within regSpace addr 1 = false) ∧ (accessCause (m != 14 || pathOpen 14 s) addr n false s = none)) ∧
    (∃ (m addr n : Nat) (s : State), (within regSpace addr 1 = false) ∧ (accessCause (m != 14 || pathOpen 14 s) addr n false s = none) ∧ (get Reg.TCH_CTL.EN s = 0) ∧ (s.memp.upsets = []) ∧ (s.poison = [])) ∧
    (∃ (m addr : Nat) (w : Bool) (s : State), (within regSpace addr 1 = true) ∧ (accessCause (m != 14 || pathOpen 14 s) addr 4 w s = none)) ∧
    (∃ (m addr n c : Nat) (w : Bool) (s : State), (accessCause (m != 14 || pathOpen 14 s) addr n w s = some c)) ∧
    (∃ (m addr hi : Nat) (s : State), (upperOf addr = some hi) ∧ (accessCause (pathOpen m s) addr 4 false s = none)) ∧
    (∃ (s : State), (get Reg.HPC_CFG.BAR2_IMPL s = 1) ∧ (get Reg.HPC_LINK.UP s = 1) ∧ (get Reg.SYS_PATH_CFG.BAR2_EN s = 1)) ∧
    (∃ (addr n : Nat) (s : State), (get Reg.HPC_CFG.BAR2_IMPL s = 1) ∧ (get Reg.HPC_LINK.UP s = 1) ∧ (get Reg.SYS_PATH_CFG.BAR2_EN s = 1) ∧ (within regSpace addr 1 = false) ∧ (accessCause true addr n true s = none) ∧ (get Reg.TCH_CTL.EN s = 0) ∧ (s.memp.upsets = []) ∧ (s.poison = []) ∧ (get Reg.MEM_FLIP_CTL.ARM s = 0)) ∧
    (∃ (addr n : Nat) (s : State), (get Reg.HPC_CFG.BAR2_IMPL s = 1) ∧ (get Reg.HPC_LINK.UP s = 1) ∧ (get Reg.SYS_PATH_CFG.BAR2_EN s = 1) ∧ (within regSpace addr 1 = false) ∧ (accessCause true addr n false s = none) ∧ (get Reg.TCH_CTL.EN s = 0) ∧ (s.memp.upsets = []) ∧ (s.poison = [])) ∧
    (∃ (m c v : Nat) (s : State), (m ≠ 10) ∧ (m ≠ 13) ∧ (m ≠ 14) ∧ (c < 10) ∧ (v < 2 ^ 32) ∧ (domOn 2 s = true)) ∧
    (∃ (m v : Nat) (s : State), (m ≠ 10) ∧ (m ≠ 13) ∧ (m ≠ 14) ∧ (v < 2 ^ 32) ∧ (domOn (regDomain Reg.SYS_CLK_STAT.XIN_LOST.addr) s = true) ∧ (get Reg.SYS_CLK_STAT.XIN_LOST s ≤ 1) ∧ (get Reg.SYS_CLK_STAT.PLL_LOST s ≤ 1)) ∧
    (∃ (m v : Nat) (s : State), (m ≠ 10) ∧ (m ≠ 13) ∧ (m ≠ 14) ∧ (v < 2 ^ 32) ∧ (v.testBit 31 = true) ∧ (domOn (regDomain Reg.SYS_PATH_CFG.LOCK.addr) s = true) ∧ (get Reg.SYS_PATH_CFG.LOCK s ≤ 1)) ∧
    (∃ (m addr : Nat) (l : List Nat) (s : State), (m ≠ 14) ∧ (0x30000000 ≤ addr) ∧ (addr + l.length ≤ 0x31000000) ∧ (domOn 1 s = true) ∧ (s.memp.upsets = []) ∧ (s.poison = []) ∧ (get Reg.MEM_FLIP_CTL.ARM s = 0)) ∧
    (∃ (m addr n : Nat) (s : State), (m ≠ 14) ∧ (0x30000000 ≤ addr) ∧ (addr + n ≤ 0x31000000) ∧ (domOn 1 s = true) ∧ (s.memp.upsets = []) ∧ (s.poison = [])) ∧
    (∃ (m : Nat) (s : State), (m ≠ 10) ∧ (m ≠ 13) ∧ (m ≠ 14) ∧ (domOn (regDomain Reg.TMP_COUNT_LO.COUNT.addr) s = true)) ∧
    (∃ (c : Nat) (s : State), (c < 10) ∧ (domOn 2 s = true) ∧ (get Reg.HPC_CFG.BAR2_IMPL s = 1) ∧ (get Reg.HPC_LINK.UP s = 1) ∧ (get Reg.SYS_PATH_CFG.BAR2_EN s = 1)) ∧
    (∃ (s : State), (get Reg.HPC_CFG.BAR2_IMPL s = 1) ∧ (get Reg.HPC_LINK.UP s = 1) ∧ (get Reg.SYS_PATH_CFG.BAR2_EN s = 0) ∧ (get Reg.SYS_BUS_ERR_HI.VALID s ≤ 1)) :=
  ⟨⟨((3 : Nat)), ((Reg.DMA_CRC_LO.desc.base + 64 : Nat)), ((0xFFFFFFFF : Nat)), (at_ [(Reg.PMU_DOM_STAT.ON, 0xFFFFFF)] : State), by decide +kernel⟩,
    ⟨((3 : Nat)), ((Reg.SPN_TARGET.desc.base : Nat)), ((7200 : Nat)), (at_ [(Reg.PMU_DOM_STAT.ON, 0xFFFFFF)] : State), by decide +kernel⟩,
    ⟨((10 : Nat)), ((0x40000001 : Nat)), ((4 : Nat)), ((1 : Nat)), (at_ [(Reg.PMU_DOM_STAT.ON, 0xFFFFFF)] : State), by decide +kernel⟩,
    ⟨((1 : Nat)), ((Reg.SYS_PATH_CFG.LOCK.addr : Nat)), ((2147483650 : Nat)), ((Reg.SYS_PATH_CFG.LOCK : Fld)), (at_ [(Reg.PMU_DOM_STAT.ON, 0xFFFFFF)] : State), by decide +kernel⟩,
    ⟨((9 : Nat)), ((0x20000010 : Nat)), ((4 : Nat)), (at_ [(Reg.PMU_DOM_STAT.ON, 0xFFFFFF), (Reg.DRC_STAT.TRAINED, 1)] : State), by decide +kernel⟩,
    ⟨((9 : Nat)), ((0x1000000010 : Nat)), ((4 : Nat)), (at_ [(Reg.PMU_DOM_STAT.ON, 0xFFFFFF), (Reg.DRC_STAT.TRAINED, 1)] : State), by decide +kernel⟩,
    ⟨((9 : Nat)), ((0x20000010 : Nat)), ((4 : Nat)), (at_ [(Reg.PMU_DOM_STAT.ON, 0xFFFFFF), (Reg.DRC_STAT.TRAINED, 1)] : State), by decide +kernel⟩,
    ⟨((9 : Nat)), ((0x20000010 : Nat)), ((4 : Nat)), ({ at_ [(Reg.PMU_DOM_STAT.ON, 0xFFFFFF), (Reg.DRC_STAT.TRAINED, 1)] with mem := [(0x20000011, 9)] } : State), by decide +kernel⟩,
    ⟨((2 : Nat)), ((Reg.SYS_IRQ_CLAIM.desc.base : Nat)), ((false : Bool)), (at_ [(Reg.PMU_DOM_STAT.ON, 0xFFFFFF)] : State), by decide +kernel⟩,
    ⟨((9 : Nat)), ((0x50000000 : Nat)), ((4 : Nat)), ((0 : Nat)), ((false : Bool)), (at_ [] : State), by decide +kernel⟩,
    ⟨((2 : Nat)), ((Reg.TMP_COUNT_LO.COUNT.addr : Nat)), ((Reg.TMP_COUNT_HI.COUNT.addr : Nat)), (at_ [(Reg.TMP_COUNT_LO.COUNT, 77), (Reg.TMP_COUNT_HI.COUNT, 5), (Reg.PMU_DOM_STAT.ON, 0xFFFFFF)] : State), by decide +kernel⟩,
    ⟨(at_ [(Reg.PMU_DOM_STAT.ON, 7), (Reg.HPC_CFG.BAR2_IMPL, 1), (Reg.HPC_LINK.UP, 1), (Reg.SYS_PATH_CFG.BAR2_EN, 1)] : State), by decide +kernel⟩,
    ⟨((0x30000001 : Nat)), ((4 : Nat)), (at_ [(Reg.PMU_DOM_STAT.ON, 0xFFFFFF), (Reg.HPC_CFG.BAR2_IMPL, 1), (Reg.HPC_LINK.UP, 1), (Reg.SYS_PATH_CFG.BAR2_EN, 1)] : State), by decide +kernel⟩,
    ⟨((0x30000001 : Nat)), ((4 : Nat)), (at_ [(Reg.PMU_DOM_STAT.ON, 0xFFFFFF), (Reg.HPC_CFG.BAR2_IMPL, 1), (Reg.HPC_LINK.UP, 1), (Reg.SYS_PATH_CFG.BAR2_EN, 1)] : State), by decide +kernel⟩,
    ⟨((3 : Nat)), ((9 : Nat)), ((13 : Nat)), (at_ [(Reg.PMU_DOM_STAT.ON, 7)] : State), by decide +kernel⟩,
    ⟨((3 : Nat)), ((256 : Nat)), (at_ [(Reg.PMU_DOM_STAT.ON, 7), (Reg.SYS_CLK_STAT.XIN_LOST, 1), (Reg.SYS_CLK_STAT.PLL_LOST, 1)] : State), by decide +kernel⟩,
    ⟨((1 : Nat)), ((2147483650 : Nat)), (at_ [(Reg.PMU_DOM_STAT.ON, 7)] : State), by decide +kernel⟩,
    ⟨((9 : Nat)), ((0x30000005 : Nat)), (([1,2,3,0] : List Nat)), (at_ [(Reg.PMU_DOM_STAT.ON, 7)] : State), by decide +kernel⟩,
    ⟨((9 : Nat)), ((0x30000005 : Nat)), ((3 : Nat)), ({ at_ [(Reg.PMU_DOM_STAT.ON, 7)] with mem := [(0x30000006, 9)] } : State), by decide +kernel⟩,
    ⟨((2 : Nat)), (at_ [(Reg.TMP_COUNT_LO.COUNT, 77), (Reg.TMP_COUNT_HI.COUNT, 5)] : State), by decide +kernel⟩,
    ⟨((9 : Nat)), (at_ [(Reg.PMU_DOM_STAT.ON, 7), (Reg.HPC_CFG.BAR2_IMPL, 1), (Reg.HPC_LINK.UP, 1), (Reg.SYS_PATH_CFG.BAR2_EN, 1)] : State), by decide +kernel⟩,
    ⟨(at_ [(Reg.HPC_CFG.BAR2_IMPL, 1), (Reg.HPC_LINK.UP, 1), (Reg.SYS_PATH_CFG.BAR2_EN, 0)] : State), by decide +kernel⟩⟩

/-- The hypotheses of InterruptControllerRows, clause by clause, are met. -/
theorem witness_interrupt_controller_rows :
    (∃ (ctx x : Nat) (s : State), (ctx < 10) ∧ (offered ctx s = some x)) ∧
    (∃ (ctx : Nat) (s : State), (ctx < 10) ∧ (offered ctx s = none)) ∧
    (∃ (ctx : Nat), (ctx < 10)) ∧
    (∃ (src : Nat), (src < 1056)) ∧
    (∃ (ppm : Nat) (s : State), (s.pins.rails = true) ∧ (s.pins.xin = true) ∧ (-10000 ≤ toInt 16 (ppm % 65536)) ∧ (toInt 16 (ppm % 65536) ≤ 10000)) ∧
    (∃ (ppm : Nat) (s : State), (s.pins.rails = true) ∧ (s.pins.xin = true) ∧ (toInt 16 (ppm % 65536) < -10000 ∨ 10000 < toInt 16 (ppm % 65536))) :=
  ⟨⟨((9 : Nat)), ((64 : Nat)), ({ at_ [(Reg.SYS_IRQ_ROUTE.EN 64, 1), (Reg.SYS_IRQ_ROUTE.PRIO 64, 3), (Reg.SYS_IRQ_ROUTE.CTX 64, 9), (Reg.SYS_IRQ_THR.THR 9, 0), (Reg.TMP_ALARM_HI.FIRED, 1)] with sys := { latched := [64] } } : State), by decide +kernel⟩,
    ⟨((0 : Nat)), (at_ [] : State), by decide +kernel⟩,
    ⟨((9 : Nat)), by decide +kernel⟩,
    ⟨((1055 : Nat)), by decide +kernel⟩,
    ⟨((65535 : Nat)), (at_ [(Reg.SYS_CLK_CALREF.GATES, 32767)] : State), by decide +kernel⟩,
    ⟨((10001 : Nat)), (at_ [(Reg.SYS_CLK_STAT.CALREF_OK, 1)] : State), by decide +kernel⟩⟩

/-- The hypotheses of TempoBoundariesAdvanceTheCount, clause by clause, are met. -/
theorem witness_tempo_boundaries_advance_the_count :
    (∃ (s : State), (s.pins.xin = true) ∧ (s.pins.rails = true) ∧ (get Reg.TMP_COUNT_LO.COUNT s < 2 ^ 32) ∧ (get Reg.TMP_COUNT_HI.COUNT s < 2 ^ 16)) ∧
    (∃ (s : State), (s.pins.xin = true) ∧ (s.pins.rails = true) ∧ (s.tmp.newK = none) ∧ (2 ≤ get Reg.TMP_PHASE.K s) ∧ (get Reg.TMP_PHASE.K s ≤ 8) ∧ (get Reg.TMP_PHASE.PHASE s < get Reg.TMP_PHASE.K s)) ∧
    (∃ (k : Nat) (s : State), (s.pins.xin = true) ∧ (s.pins.rails = true) ∧ (s.tmp.newK = some k) ∧ (2 ≤ k) ∧ (k ≤ 8) ∧ (2 ≤ get Reg.TMP_PHASE.K s) ∧ (get Reg.TMP_PHASE.K s ≤ 8) ∧ (get Reg.TMP_PHASE.PHASE s < get Reg.TMP_PHASE.K s)) :=
  ⟨⟨(at_ [(Reg.TMP_COUNT_LO.COUNT, 0xFFFFFFFF), (Reg.TMP_COUNT_HI.COUNT, 0xFFFF), (Reg.PMU_DOM_STAT.ON, 7)] : State), by decide +kernel⟩,
    ⟨(at_ [(Reg.TMP_PHASE.K, 8), (Reg.TMP_PHASE.PHASE, 7)] : State), by decide +kernel⟩,
    ⟨((5 : Nat)), ((fun (k : Nat) => ({ at_ [(Reg.TMP_PHASE.K, 8), (Reg.TMP_PHASE.PHASE, 7)] with tmp := { newK := some k } } : State)) ((5 : Nat))), by decide +kernel⟩⟩

/-- The hypotheses of TempoRowsHoldTheirRules, clause by clause, are met. -/
theorem witness_tempo_rows_hold_their_rules :
    (∃ (s : State), (domOn 1 s = true) ∧ (domOn 2 s = true)) ∧
    (∃ (k : Nat), (2 ≤ k) ∧ (k ≤ 8)) ∧
    (∃ (k : Nat), (k < 16) ∧ (k < 2 ∨ 8 < k)) ∧
    (∃ (s : State), (get Reg.TMP_ALARM_HI.EN s = 1) ∧ (get Reg.TMP_ALARM_LO.AT s + 2 ^ 32 * get Reg.TMP_ALARM_HI.AT s ≤ tmpCount s)) ∧
    (∃ (e j : Nat) (x : Int) (p : Program) (s : State), (e < 4) ∧ (j < 8) ∧ ((ceOf e s).prog = some p) ∧ (isService e s = true) ∧ (policyOf p j ≠ 3) ∧ (AMap.lookup j (wedgeValues e s) = some x)) ∧
    (∃ (e j : Nat) (p : Program) (s : State), (e < 4) ∧ (j < 8) ∧ ((ceOf e s).prog = some p) ∧ (isService e s = true) ∧ (policyOf p j ≠ 3) ∧ (AMap.lookup j (wedgeValues e s) = none)) ∧
    (∃ (e g : Nat) (s : State), (e < 4) ∧ (g < 32) ∧ (domOn 6 s = true)) :=
  ⟨⟨(at_ [(Reg.PMU_DOM_STAT.ON, 7), (Reg.TMP_COUNT_LO.COUNT, 9), (Reg.EVR_LIFE.SECONDS, 4)] : State), by decide +kernel⟩,
    ⟨((8 : Nat)), by decide +kernel⟩,
    ⟨((9 : Nat)), by decide +kernel⟩,
    ⟨(at_ [(Reg.TMP_ALARM_HI.EN, 1), (Reg.TMP_ALARM_LO.AT, 7), (Reg.TMP_COUNT_LO.COUNT, 7)] : State), by decide +kernel⟩,
    ⟨((1 : Nat)), ((7 : Nat)), ((-5 : Int)), ((⟨0,1,1,1,0,0,1,0,List.replicate 64 0,List.replicate 32 0,[],[],[0]⟩ : Program)), ((fun (p : Program) => ({ at_ [(Reg.TMP_PHASE.K, 4), (Reg.TMP_PHASE.PHASE, 2)] with ce := [(1, { prog := some p, wedge := [(7, -5)], misses := [(7, 3)] })] } : State)) ((⟨0,1,1,1,0,0,1,0,List.replicate 64 0,List.replicate 32 0,[],[],[0]⟩ : Program))), by decide +kernel⟩,
    ⟨((1 : Nat)), ((7 : Nat)), ((⟨0,1,1,1,0,0,1,0,List.replicate 64 0,List.replicate 32 0,[],[],[0]⟩ : Program)), ((fun (p : Program) => ({ at_ [(Reg.TMP_PHASE.K, 4), (Reg.TMP_PHASE.PHASE, 2)] with ce := [(1, { prog := some p, inOk := [7], misses := [(7, 3)] })] } : State)) ((⟨0,1,1,1,0,0,1,0,List.replicate 64 0,List.replicate 32 0,[],[],[0]⟩ : Program))), by decide +kernel⟩,
    ⟨((2 : Nat)), ((31 : Nat)), ({ at_ [(Reg.PMU_DOM_STAT.ON, 0x47)] with ce := [(2, { prog := some ⟨0,1,1,1,0,0,1,0,List.replicate 64 0,List.replicate 32 0,[],[],[0]⟩, ended := true, fresh := [(3, 5)], outNew := [(31, -7)] })] } : State), by decide +kernel⟩⟩

/-- The hypotheses of HecelArithmeticUpdatesTheAccumulator, clause by clause, are met. -/
theorem witness_hecel_arithmetic_updates_the_accumulator :
    (∃ (e pred a c : Nat) (s : State), (e < 5) ∧ (canIssue e 0 pred a c s = true)) ∧
    (∃ (e pred a c : Nat) (s : State), (e < 5) ∧ (canIssue e 1 pred a c s = true)) ∧
    (∃ (e pred a c : Nat) (s : State), (e < 5) ∧ (canIssue e 4 pred a c s = true)) ∧
    (∃ (e pred a c : Nat) (s : State), (e < 5) ∧ (canIssue e 2 pred a c s = true)) ∧
    (∃ (e pred a c : Nat) (s : State), (e < 5) ∧ (canIssue e 3 pred a c s = true)) ∧
    (∃ (e pred a c : Nat) (s : State), (e < 5) ∧ (canIssue e 7 pred a c s = true)) :=
  ⟨⟨((0 : Nat)), ((0 : Nat)), ((3 : Nat)), ((2 : Nat)), ({ at_ [(Reg.PMU_DOM_STAT.ON, 0x47), (Reg.CE_CTL.RUN 0, 1)] with ce := [(0, { prog := some ⟨0x4C454348, 0, 1, 1, 0, 0, 1, 0, List.replicate 64 0, List.replicate 32 0, List.replicate 16 (0, 0), [], [98432]⟩, state := [(3, -7)], acc := 5 * 2 ^ 30, ended := false })] } : State), by decide +kernel⟩,
    ⟨((0 : Nat)), ((0 : Nat)), ((3 : Nat)), ((2 : Nat)), ({ at_ [(Reg.PMU_DOM_STAT.ON, 0x47), (Reg.CE_CTL.RUN 0, 1)] with ce := [(0, { prog := some ⟨0x4C454348, 0, 1, 1, 0, 0, 1, 0, List.replicate 64 0, List.replicate 32 0, List.replicate 16 (0, 0), [], [134316160]⟩, state := [(3, -7)], acc := 5 * 2 ^ 30, ended := false })] } : State), by decide +kernel⟩,
    ⟨((0 : Nat)), ((0 : Nat)), ((3 : Nat)), ((2 : Nat)), ({ at_ [(Reg.PMU_DOM_STAT.ON, 0x47), (Reg.CE_CTL.RUN 0, 1)] with ce := [(0, { prog := some ⟨0x4C454348, 0, 1, 1, 0, 0, 1, 0, List.replicate 64 0, List.replicate 32 0, List.replicate 16 (0, 0), [], [536969344]⟩, state := [(3, -7)], acc := 5 * 2 ^ 30, ended := false })] } : State), by decide +kernel⟩,
    ⟨((0 : Nat)), ((0 : Nat)), ((3 : Nat)), ((2 : Nat)), ({ at_ [(Reg.PMU_DOM_STAT.ON, 0x47), (Reg.CE_CTL.RUN 0, 1)] with ce := [(0, { prog := some ⟨0x4C454348, 0, 1, 1, 0, 0, 1, 0, List.replicate 64 0, List.replicate 32 0, List.replicate 16 (0, 0), [], [268533888]⟩, state := [(3, -7)], acc := 5 * 2 ^ 30, ended := false, bank0 := [(2, 2 ^ 32 + 3)] })] } : State), by decide +kernel⟩,
    ⟨((0 : Nat)), ((0 : Nat)), ((3 : Nat)), ((2 : Nat)), ({ at_ [(Reg.PMU_DOM_STAT.ON, 0x47), (Reg.CE_CTL.RUN 0, 1)] with ce := [(0, { prog := some ⟨0x4C454348, 0, 1, 1, 0, 0, 1, 0, List.replicate 64 0, List.replicate 32 0, List.replicate 16 (0, 0), [], [402751616]⟩, state := [(3, -7)], acc := 5 * 2 ^ 30, ended := false, bank0 := [(2, 2 ^ 32 + 3)] })] } : State), by decide +kernel⟩,
    ⟨((0 : Nat)), ((0 : Nat)), ((3 : Nat)), ((2 : Nat)), ({ at_ [(Reg.PMU_DOM_STAT.ON, 0x47), (Reg.CE_CTL.RUN 0, 1)] with ce := [(0, { prog := some ⟨0x4C454348, 0, 1, 1, 0, 0, 1, 0, List.replicate 64 0, List.replicate 32 0, List.replicate 16 (0, 0), [], [939622528]⟩, state := [(3, -7)], acc := 5 * 2 ^ 30, ended := false, bank0 := [(3, 1)] })] } : State), by decide +kernel⟩⟩

/-- The hypotheses of HecelStoresAndControl, clause by clause, are met. -/
theorem witness_hecel_stores_and_control :
    (∃ (e pred a c : Nat) (s : State), (e < 5) ∧ (canIssue e 5 pred a c s = true)) ∧
    (∃ (e pred a c : Nat) (s : State), (e < 5) ∧ (canIssue e 6 pred a c s = true)) ∧
    (∃ (e pred a c : Nat) (s : State), (e < 5) ∧ (canIssue e 9 pred a c s = true)) ∧
    (∃ (e pred a c : Nat) (s : State), (e < 5) ∧ (canIssue e 10 pred a c s = true)) ∧
    (∃ (e op pred a c : Nat) (s : State), (e < 5) ∧ (11 ≤ op) ∧ (canIssue e op pred a c s = true)) ∧
    (∃ (e pred a c : Nat) (s : State), (e < 5) ∧ (canIssue e 8 pred a c s = true)) ∧
    (∃ (e pred a c : Nat) (s : State), (e < 5) ∧ (canIssue e 8 pred a c s = true)) ∧
    (∃ (e x : Nat) (s : State), (e < 5) ∧ ((ceOf e s).stalled = some x)) :=
  ⟨⟨((0 : Nat)), ((0 : Nat)), ((3 : Nat)), ((2 : Nat)), ({ at_ [(Reg.PMU_DOM_STAT.ON, 0x47), (Reg.CE_CTL.RUN 0, 1)] with ce := [(0, { prog := some ⟨0x4C454348, 0, 1, 1, 0, 0, 1, 0, List.replicate 64 0, List.replicate 32 0, List.replicate 16 (0, 0), [], [671187072]⟩, state := [(3, -7)], acc := 5 * 2 ^ 30, ended := false })] } : State), by decide +kernel⟩,
    ⟨((0 : Nat)), ((0 : Nat)), ((3 : Nat)), ((2 : Nat)), ({ at_ [(Reg.PMU_DOM_STAT.ON, 0x47), (Reg.CE_CTL.RUN 0, 1)] with ce := [(0, { prog := some ⟨0x4C454348, 0, 1, 1, 0, 0, 1, 0, List.replicate 64 0, List.replicate 32 0, List.replicate 16 (0, 0), [], [805404800]⟩, state := [(3, -7)], acc := 5 * 2 ^ 30, ended := false })] } : State), by decide +kernel⟩,
    ⟨((0 : Nat)), ((0 : Nat)), ((3 : Nat)), ((2 : Nat)), ({ at_ [(Reg.PMU_DOM_STAT.ON, 0x47), (Reg.CE_CTL.RUN 0, 1)] with ce := [(0, { prog := some ⟨0x4C454348, 0, 1, 1, 0, 0, 1, 0, List.replicate 64 0, List.replicate 32 0, List.replicate 16 (0, 0), [], [1208057984]⟩, state := [(3, -7)], acc := 5 * 2 ^ 30, ended := false })] } : State), by decide +kernel⟩,
    ⟨((0 : Nat)), ((0 : Nat)), ((3 : Nat)), ((2 : Nat)), ({ at_ [(Reg.PMU_DOM_STAT.ON, 0x47), (Reg.CE_CTL.RUN 0, 1)] with ce := [(0, { prog := some ⟨0x4C454348, 0, 1, 1, 0, 0, 1, 0, List.replicate 64 0, List.replicate 32 0, List.replicate 16 (0, 0), [], [1342275712]⟩, state := [(3, -7)], acc := 5 * 2 ^ 30, ended := false })] } : State), by decide +kernel⟩,
    ⟨((0 : Nat)), ((31 : Nat)), ((0 : Nat)), ((3 : Nat)), ((2 : Nat)), ({ at_ [(Reg.PMU_DOM_STAT.ON, 0x47), (Reg.CE_CTL.RUN 0, 1)] with ce := [(0, { prog := some ⟨0x4C454348, 0, 1, 1, 0, 0, 1, 0, List.replicate 64 0, List.replicate 32 0, List.replicate 16 (0, 0), [], [4160848000]⟩, state := [(3, -7)], acc := 5 * 2 ^ 30, ended := false })] } : State), by decide +kernel⟩,
    ⟨((0 : Nat)), ((0 : Nat)), ((3 : Nat)), ((2 : Nat)), ({ at_ [(Reg.PMU_DOM_STAT.ON, 0x47), (Reg.CE_CTL.RUN 0, 1)] with ce := [(0, { prog := some ⟨0x4C454348, 0, 1, 1, 0, 0, 1, 0, List.replicate 64 0, List.replicate 32 0, List.replicate 16 (0, 0), [], [1073840256]⟩, state := [(3, -7)], acc := 5 * 2 ^ 30, ended := false, bank0 := [(2, 0x30000010)] })] } : State), by decide +kernel⟩,
    ⟨((0 : Nat)), ((0 : Nat)), ((3 : Nat)), ((2 : Nat)), ({ at_ [(Reg.PMU_DOM_STAT.ON, 0x47), (Reg.CE_CTL.RUN 0, 1)] with ce := [(0, { prog := some ⟨0x4C454348, 0, 1, 1, 0, 0, 1, 0, List.replicate 64 0, List.replicate 32 0, List.replicate 16 (0, 0), [], [1073840256]⟩, state := [(3, -7)], acc := 5 * 2 ^ 30, ended := false })] } : State), by decide +kernel⟩,
    ⟨((4 : Nat)), ((0x30000000 : Nat)), ({ at_ [(Reg.PMU_DOM_STAT.ON, 7)] with ce := [(4, { stalled := some 0x30000000 })], mem := [(0x30000001, 2)] } : State), by decide +kernel⟩⟩

/-- The hypotheses of EngineFaultsAndCastling, clause by clause, are met. -/
theorem witness_engine_faults_and_castling :
    (∃ (e : Nat) (s : State), (e < 5) ∧ (engineRuns e s = true) ∧ ((ceOf e s).ended = false) ∧ ((ceOf e s).cycle < 4000)) ∧
    (∃ (e j : Nat) (p : Program) (s : State), (e < 5) ∧ (j < 64) ∧ (progOf e s = some p) ∧ (policyOf p j ≠ 3) ∧ (0 < limitOf p j) ∧ (limitOf p j ≤ AMap.getD (ceOf e s).misses j 0) ∧ (j ∉ (ceOf e s).sawMiss) ∧ (get (Reg.CE_MISS_LO.SLOT e) s < 2 ^ 32) ∧ (get (Reg.CE_MISS_HI.SLOT e) s < 2 ^ 32)) ∧
    (∃ (e : Nat) (b : Bool) (s : State), (e < 5) ∧ (domOn 6 s = true) ∧ (engineFails e b s = true) ∧ (get Reg.CE_FAULT.FAILED s < 32)) ∧
    (∃ (e : Nat) (s : State), (e < 5) ∧ (get (Reg.CE_SWAP.REQ e) s = 0)) ∧
    (∃ (e w n : Nat) (s : State), (e < 5) ∧ (w < 1024) ∧ (windowStalls e n s = false)) ∧
    (∃ (e w n : Nat) (s : State), (e < 5) ∧ (w < 1024) ∧ (windowStalls e n s = true)) ∧
    (∃ (e m : Nat) (s : State), (e < 5) ∧ (m < 16) ∧ (get (Reg.CE_FE_CFG.EN e m) s = 1) ∧ (get (Reg.CE_FE_CFG.TRIP e m) s = 0) ∧ (max 1 (get (Reg.CE_FE_CFG.TIME e m) s) ≤ AMap.getD (ceOf e s).timers m 0)) :=
  ⟨⟨((0 : Nat)), ({ at_ [(Reg.PMU_DOM_STAT.ON, 0x47), (Reg.CE_CTL.RUN 0, 1)] with ce := [(0, { prog := some ⟨0x4C454348, 0, 1, 1, 0, 0, 1, 0, List.replicate 64 0, List.replicate 32 0, List.replicate 16 (0, 0), [], [1073840256]⟩, state := [(3, -7)], acc := 5 * 2 ^ 30, ended := false, fresh := [(1,1)] })] } : State), by decide +kernel⟩,
    ⟨((3 : Nat)), ((63 : Nat)), ((⟨0,1,1,1,0,0,1,0,List.replicate 64 8,List.replicate 32 0,[],[],[0]⟩ : Program)), ((fun (p : Program) => ({ at_ [] with ce := [(3, { prog := some p, misses := [(63, 2)] })] } : State)) ((⟨0,1,1,1,0,0,1,0,List.replicate 64 8,List.replicate 32 0,[],[],[0]⟩ : Program))), by decide +kernel⟩,
    ⟨((1 : Nat)), ((false : Bool)), (at_ [(Reg.PMU_DOM_STAT.ON, 0x47), (Reg.CE_SPARE.MODE, 1), (Reg.CE_SPARE.SEL, 1), (Reg.CE_STAT.BAD_OP 1, 1)] : State), by decide +kernel⟩,
    ⟨((4 : Nat)), (at_ [] : State), by decide +kernel⟩,
    ⟨((4 : Nat)), ((1023 : Nat)), ((4 : Nat)), ({ at_ [] with ce := [(4, { bank1 := [(511, 3 * 2 ^ 32 + 4)] })] } : State), by decide +kernel⟩,
    ⟨((4 : Nat)), ((1023 : Nat)), ((3999 : Nat)), (at_ [(Reg.CE_SWAP.REQ 4, 1)] : State), by decide +kernel⟩,
    ⟨((4 : Nat)), ((15 : Nat)), ({ at_ [(Reg.CE_FE_CFG.EN 4 15, 1), (Reg.CE_FE_CFG.TIME 4 15, 3)] with ce := [(4, { timers := [(15, 3)] })] } : State), by decide +kernel⟩⟩

/-- The hypotheses of StageLinksCarryTheirFrames, clause by clause, are met. -/
theorem witness_stage_links_carry_their_frames :
    (∃ (l : Nat) (s : State), (l < 2) ∧ (onAt (Reg.STG_CTL.EN l) s = true) ∧ (get (Reg.STG_CTL.EN l) s = 1) ∧ (s.boot.awaitBoot = false)) ∧
    (∃ (words : List Nat) (i : Nat) (s : State), (onAt (Reg.STG_CTL.EN 0) s = true) ∧ (get (Reg.STG_CTL.EN 0) s = 1) ∧ (words.length = 30) ∧ (bits (words.headD 0) 8 4 = 2) ∧ (i < 13)) ∧
    (∃ (words : List Nat) (i : Nat) (s : State), (onAt (Reg.STG_CTL.EN 1) s = true) ∧ (get (Reg.STG_CTL.EN 1) s = 1) ∧ (words.length = 30) ∧ (bits (words.headD 0) 8 4 = 2) ∧ (i < 13)) ∧
    (∃ (l : Nat) (s : State), (l < 2) ∧ (onAt (Reg.STG_CTL.EN l) s = true) ∧ (get (Reg.STG_CTL.EN l) s = 1)) ∧
    (∃ (l : Nat), (l < 2)) ∧
    (∃ (s : State), (3 ≤ get (Reg.STG_STAT.MISS 0) s) ∧ ((stgOf 0 s).declared = false)) ∧
    (∃ (s : State), (3 ≤ get (Reg.STG_STAT.MISS 1) s) ∧ ((stgOf 1 s).declared = false)) :=
  ⟨⟨((1 : Nat)), (at_ [(Reg.PMU_DOM_STAT.ON, 0xFFFFFF), (Reg.STG_CTL.EN 0, 1), (Reg.STG_CTL.EN 1, 1)] : State), by decide +kernel⟩,
    ⟨((0x1200 :: (List.range 29) : List Nat)), ((12 : Nat)), (at_ [(Reg.PMU_DOM_STAT.ON, 0xFFFFFF), (Reg.STG_CTL.EN 0, 1)] : State), by decide +kernel⟩,
    ⟨((0x0200 :: (List.range 29) : List Nat)), ((12 : Nat)), (at_ [(Reg.PMU_DOM_STAT.ON, 0xFFFFFF), (Reg.STG_CTL.EN 1, 1)] : State), by decide +kernel⟩,
    ⟨((1 : Nat)), (at_ [(Reg.PMU_DOM_STAT.ON, 0xFFFFFF), (Reg.STG_CTL.EN 0, 1), (Reg.STG_CTL.EN 1, 1)] : State), by decide +kernel⟩,
    ⟨((1 : Nat)), by decide +kernel⟩,
    ⟨(at_ [(Reg.STG_STAT.MISS 0, 3), (Reg.ACT_STAT.PERMIT1 0, 1), (Reg.ACT_STAT.PERMIT2 1, 1)] : State), by decide +kernel⟩,
    ⟨(at_ [(Reg.STG_STAT.MISS 1, 3)] : State), by decide +kernel⟩⟩

/-- The hypotheses of SpindleStartsAndHandsOver, clause by clause, are met. -/
theorem witness_spindle_starts_and_hands_over :
    (∃ (s : State), (s.spn.target = 0) ∧ (effTarget s ≠ 0) ∧ (s.boot.spinHeld = false)) ∧
    (∃ (v : Nat) (s : State), (get Reg.SPN_STAT.STATE s = 1) ∧ (800 ≤ s.spn.tempos) ∧ (20 * get Reg.SPN_TARGET.RPM s ≤ 100 * v) ∧ (v < 2 ^ Reg.SPN_SPEED.SPEED.width)) ∧
    (∃ (v : Nat) (s : State), (get Reg.SPN_STAT.STATE s = 1) ∧ (800 ≤ s.spn.tempos) ∧ (4 * get Reg.SPN_TARGET.RPM s ≤ 100 * v) ∧ (v < 2 ^ Reg.SPN_SPEED.SPEED.width)) ∧
    (∃ (b : Bool) (v : Nat) (s : State), (get Reg.SPN_STAT.STATE s = 1) ∧ (800 ≤ s.spn.tempos) ∧ (100 * v < (if b = true then 4 else 20) * get Reg.SPN_TARGET.RPM s) ∧ (v < 2 ^ Reg.SPN_SPEED.SPEED.width)) ∧
    (∃ (s : State), (get Reg.SPN_STAT.STATE s = 2) ∧ (100 * get Reg.SPN_SPEED.SPEED s < 4 * get Reg.SPN_TARGET.RPM s)) ∧
    (∃ (s : State), (get Reg.SPN_STAT.STATE s = 3) ∧ (200 * get Reg.SPN_START.ALIGN_MS s ≤ s.spn.tempos)) ∧
    (∃ (s : State), (get Reg.SPN_STAT.STATE s = 4) ∧ (200000 * get Reg.SPN_HANDOVER.RPM s ≤ s.spn.openV)) ∧
    (∃ (s : State), (get Reg.SPN_STAT.STATE s = 5) ∧ (get Reg.SPN_HANDOVER.CONV_TEMPOS s ≤ s.spn.agreeRow)) ∧
    (∃ (s : State), (get Reg.SPN_STAT.STATE s = 5) ∧ (600000 * get Reg.SPN_HANDOVER.RPM s ≤ 2 * s.spn.openV)) ∧
    (∃ (s : State), (get Reg.SPN_STAT.STATE s = 6) ∧ (20000 ≤ s.spn.bandRow)) :=
  ⟨⟨(at_ [(Reg.SPN_CTL.RUN, 1), (Reg.SPN_CTL.CURVE, 0), (Reg.SPN_TARGET.RPM, 7500)] : State), by decide +kernel⟩,
    ⟨((1500 : Nat)), ({ at_ [(Reg.SPN_STAT.STATE, 1), (Reg.SPN_TARGET.RPM, 7500)] with spn := { tempos := 800 } } : State), by decide +kernel⟩,
    ⟨((300 : Nat)), ({ at_ [(Reg.SPN_STAT.STATE, 1), (Reg.SPN_TARGET.RPM, 7500)] with spn := { tempos := 900 } } : State), by decide +kernel⟩,
    ⟨((false : Bool)), ((149 : Nat)), ({ at_ [(Reg.SPN_STAT.STATE, 1), (Reg.SPN_TARGET.RPM, 7500)] with spn := { tempos := 800 } } : State), by decide +kernel⟩,
    ⟨(at_ [(Reg.SPN_STAT.STATE, 2), (Reg.SPN_SPEED.SPEED, 299), (Reg.SPN_TARGET.RPM, 7500)] : State), by decide +kernel⟩,
    ⟨({ at_ [(Reg.SPN_STAT.STATE, 3), (Reg.SPN_START.ALIGN_MS, 5)] with spn := { tempos := 1000 } } : State), by decide +kernel⟩,
    ⟨({ at_ [(Reg.SPN_STAT.STATE, 4), (Reg.SPN_HANDOVER.RPM, 500)] with spn := { openV := 100000000 } } : State), by decide +kernel⟩,
    ⟨({ at_ [(Reg.SPN_STAT.STATE, 5), (Reg.SPN_HANDOVER.CONV_TEMPOS, 200)] with spn := { agreeRow := 200 } } : State), by decide +kernel⟩,
    ⟨({ at_ [(Reg.SPN_STAT.STATE, 5), (Reg.SPN_HANDOVER.RPM, 500)] with spn := { openV := 150000000 } } : State), by decide +kernel⟩,
    ⟨({ at_ [(Reg.SPN_STAT.STATE, 6), (Reg.SPN_CTL.RUN, 1), (Reg.SPN_TARGET.RPM, 7500)] with spn := { bandRow := 20000 } } : State), by decide +kernel⟩⟩

/-- The hypotheses of SpindleTargetsAndStops, clause by clause, are met. -/
theorem witness_spindle_targets_and_stops :
    (∃ (v : Nat) (s : State), (v = 5000 ∨ v = 6000 ∨ v = 7500 ∨ v = 10000) ∧ (effTarget s ≠ get Reg.SPN_TARGET.RPM s ∨ get Reg.SPN_STAT.STATE s = 0)) ∧
    (∃ (v : Nat) (s : State), (v < 2 ^ 16) ∧ ((v ≠ 5000 ∧ v ≠ 6000 ∧ v ≠ 7500 ∧ v ≠ 10000) ∨ (effTarget s = get Reg.SPN_TARGET.RPM s ∧ get Reg.SPN_STAT.STATE s ≠ 0))) ∧
    (∃ (s : State), (effTarget s = 0) ∧ (s.spn.target ≠ 0 ∨ (3 ≤ get Reg.SPN_STAT.STATE s ∧ get Reg.SPN_STAT.STATE s ≤ 7))) ∧
    (∃ (s : State), (get Reg.SPN_STAT.STATE s = 13) ∧ (effTarget s ≠ 0)) ∧
    (∃ (s : State), (get Reg.SPN_STAT.STATE s = 13) ∧ (effTarget s = 0)) ∧
    (∃ (s : State), (get Reg.SPN_STAT.STATE s ≠ 13)) ∧
    (∃ (s : State), (get Reg.SPN_STAT.STATE s = 6) ∧ (200000 * get Reg.SPN_TIMEOUT.START_S s ≤ tmpCount s - s.spn.startAt)) ∧
    (∃ (s : State), (get Reg.SPN_STAT.STATE s = 9) ∧ (100 * get Reg.SPN_SPEED.SPEED s < 4 * get Reg.SPN_BRAKE.SHORT_PCT s * get Reg.SPN_TARGET.RPM s)) ∧
    (∃ (s : State), (get Reg.SPN_STAT.STATE s = 10) ∧ (200000 ≤ s.spn.lowRow)) ∧
    (∃ (s : State), (get Reg.SPN_STAT.STATE s = 12) ∧ (200 * get Reg.SPN_RESTART.DELAY_MS s ≤ tmpCount s - s.spn.delayAt) ∧ ((s.spn.linkWait = true → (stgOf 0 s).safe = false)) ∧ ((s.spn.underWait = true → 20000 ≤ tmpCount s - s.spn.clearAt))) ∧
    (∃ (s : State), (get Reg.SPN_STAT.STATE s = 7) ∧ (1 ≤ get Reg.SPN_STAT.LOCK s) ∧ (200000 * get Reg.SPN_RESTART.HOLD_S s ≤ s.spn.tempos)) :=
  ⟨⟨((10000 : Nat)), (at_ [(Reg.SPN_STAT.STATE, 0)] : State), by decide +kernel⟩,
    ⟨((7501 : Nat)), (at_ [(Reg.SPN_STAT.STATE, 7), (Reg.SPN_CTL.RUN, 1), (Reg.SPN_CTL.CURVE, 0)] : State), by decide +kernel⟩,
    ⟨(at_ [(Reg.SPN_STAT.STATE, 5), (Reg.SPN_CTL.RUN, 0), (Reg.SPN_CTL.CURVE, 0)] : State), by decide +kernel⟩,
    ⟨(at_ [(Reg.SPN_STAT.STATE, 13), (Reg.SPN_STAT.ATTEMPTS, 3), (Reg.SPN_CTL.RUN, 1), (Reg.SPN_CTL.CURVE, 0), (Reg.SPN_TARGET.RPM, 7500)] : State), by decide +kernel⟩,
    ⟨(at_ [(Reg.SPN_STAT.STATE, 13), (Reg.SPN_STAT.ATTEMPTS, 3), (Reg.SPN_FAULT.FAULT, 1), (Reg.SPN_CTL.RUN, 0), (Reg.SPN_CTL.CURVE, 0)] : State), by decide +kernel⟩,
    ⟨(at_ [(Reg.SPN_STAT.STATE, 7), (Reg.SPN_STAT.ATTEMPTS, 3), (Reg.SPN_FAULT.FAULT, 1)] : State), by decide +kernel⟩,
    ⟨(at_ [(Reg.SPN_STAT.STATE, 6), (Reg.SPN_TIMEOUT.START_S, 20), (Reg.TMP_COUNT_LO.COUNT, 4000000)] : State), by decide +kernel⟩,
    ⟨(at_ [(Reg.SPN_STAT.STATE, 9), (Reg.SPN_SPEED.SPEED, 10), (Reg.SPN_BRAKE.SHORT_PCT, 10), (Reg.SPN_TARGET.RPM, 7500)] : State), by decide +kernel⟩,
    ⟨({ at_ [(Reg.SPN_STAT.STATE, 10), (Reg.SPN_STAT.RESTART_PEND, 0), (Reg.SPN_TARGET.RPM, 7500)] with spn := { lowRow := 200000 } } : State), by decide +kernel⟩,
    ⟨({ at_ [(Reg.SPN_STAT.STATE, 12), (Reg.SPN_RESTART.DELAY_MS, 7), (Reg.TMP_COUNT_LO.COUNT, 40000)] with spn := { underWait := true } } : State), by decide +kernel⟩,
    ⟨({ at_ [(Reg.SPN_STAT.STATE, 7), (Reg.SPN_STAT.LOCK, 2), (Reg.SPN_RESTART.HOLD_S, 60), (Reg.SPN_STAT.ATTEMPTS, 2)] with spn := { tempos := 12000000 } } : State), by decide +kernel⟩⟩

/-- The hypotheses of SpindleLockAndLoss, clause by clause, are met. -/
theorem witness_spindle_lock_and_loss :
    (∃ (s : State), (get Reg.SPN_STAT.STATE s = 7) ∧ (get Reg.SPN_STAT.LOCK s = 1) ∧ (effTarget s = get Reg.SPN_TARGET.RPM s) ∧ (get Reg.SPN_TARGET.RPM s * get Reg.TMP_PHASE.K s = 30000) ∧ (400 ≤ s.spn.lockRow)) ∧
    (∃ (s : State), (get Reg.SPN_STAT.LOCK s = 2) ∧ (2 ≤ s.spn.errRow ∨ 8 ≤ s.spn.missRow)) ∧
    (∃ (s : State), (3 ≤ s.spn.phaseRow ∨ 2 ≤ s.spn.crossRow) ∧ (get Reg.SPN_STAT.STATE s = 6 ∨ get Reg.SPN_STAT.STATE s = 7)) ∧
    (∃ (s : State), (3 ≤ s.spn.phaseRow ∨ 2 ≤ s.spn.crossRow) ∧ (get Reg.SPN_STAT.STATE s ≠ 6) ∧ (get Reg.SPN_STAT.STATE s ≠ 7)) ∧
    (∃ (s : State), (get Reg.SPN_STAT.STATE s = 8) ∧ (4 ≤ s.spn.reAngles.length) ∧ (tmpCount s - s.spn.lossAt ≤ 4000)) ∧
    (∃ (s : State), (get Reg.SPN_STAT.STATE s = 8) ∧ (4000 ≤ tmpCount s - s.spn.lossAt)) ∧
    (∃ (s : State), (get Reg.SPN_STAT.STATE s = 11) ∧ ((stgOf 0 s).retractDone = true) ∧ (s.pins.pfailN = true)) ∧
    (∃ (s : State), (retractReq s = true) ∧ ((stgOf 0 s).retractDone = false) ∧ (mode s ≠ 5) ∧ (200 * get Reg.SPN_TIMEOUT.RETRACT_MS s ≤ tmpCount s - s.spn.retractAt)) :=
  ⟨⟨({ at_ [(Reg.SPN_STAT.STATE, 7), (Reg.SPN_STAT.LOCK, 1), (Reg.SPN_CTL.RUN, 1), (Reg.SPN_CTL.CURVE, 0), (Reg.TMP_PHASE.K, 4), (Reg.SPN_TARGET.RPM, 7500)] with spn := { lockRow := 400 } } : State), by decide +kernel⟩,
    ⟨({ at_ [(Reg.SPN_STAT.STATE, 7), (Reg.SPN_STAT.LOCK, 2), (Reg.ACT_STAT.PERMIT1 0, 1), (Reg.ACT_STAT.PERMIT2 1, 1)] with spn := { missRow := 8 } } : State), by decide +kernel⟩,
    ⟨({ at_ [(Reg.SPN_STAT.STATE, 7), (Reg.ACT_STAT.PERMIT1 0, 1), (Reg.ACT_STAT.PERMIT2 1, 1)] with spn := { phaseRow := 3 } } : State), by decide +kernel⟩,
    ⟨({ at_ [(Reg.SPN_STAT.STATE, 9)] with spn := { crossRow := 2 } } : State), by decide +kernel⟩,
    ⟨({ at_ [(Reg.SPN_STAT.STATE, 8), (Reg.TMP_COUNT_LO.COUNT, 4000)] with spn := { reAngles := [5, 4, 3, 2] } } : State), by decide +kernel⟩,
    ⟨(at_ [(Reg.SPN_STAT.STATE, 8), (Reg.TMP_COUNT_LO.COUNT, 4000)] : State), by decide +kernel⟩,
    ⟨({ at_ [(Reg.SPN_STAT.STATE, 11)] with stg := [(0, { retractDone := true })] } : State), by decide +kernel⟩,
    ⟨(at_ [(Reg.SPN_STAT.STATE, 11), (Reg.SPN_TIMEOUT.RETRACT_MS, 2000), (Reg.TMP_COUNT_LO.COUNT, 400000)] : State), by decide +kernel⟩⟩

/-- The hypotheses of ResetsReturnToReset, clause by clause, are met. -/
theorem witness_resets_return_to_reset :
    (∃ (v : Nat) (s : State), (v % 2 ^ 16 = 0x5A3C) ∧ (v.testBit 16 = true) ∧ (mode s ≠ 5)) ∧
    (∃ (n : Nat) (s : State), (s.boot.trialRuns = true) ∧ (s.boot.trialPaused = false) ∧ (mode s = 2) ∧ (60000 ≤ n)) ∧
    (∃ (n : Nat) (s : State), (n < 16) ∧ (mode s = 1) ∧ (s.pins.pfailN = true) ∧ (bit Reg.SYS_WAKE_CFG.GPIO n s = true) ∧ (get (Reg.SYS_PAD_CFG.FUNC n) s = 0 ∨ (get (Reg.SYS_PAD_CFG.FUNC n) s = 3 ∧ 5 ≤ n))) ∧
    (∃ (s : State), (mode s = 1) ∧ (s.pins.pfailN = true) ∧ (get Reg.SYS_WAKE_CFG.PERST s = 1)) ∧
    (∃ (s : State), (mode s = 1) ∧ (s.pins.pfailN = true) ∧ (get Reg.SYS_WAKE_CFG.SMB s = 1)) ∧
    (∃ (x : WakeSrc) (s : State), (mode s = 1) ∧ (wakeEnabled x s = true) ∧ (s.pins.pfailN = true)) ∧
    (∃ (n : Nat) (s : State), (mode s = 5) ∧ (s.boot.rescue = 3) ∧ (100 ≤ n)) ∧
    (∃ (n : Nat) (s : State), (10000 ≤ n) ∧ (s.pins.resetN = true) ∧ (rescueRuns s = false)) ∧
    (∃ (n : Nat) (s : State), (10000 ≤ n) ∧ (s.pins.resetN = true) ∧ (rescueRuns s = true)) :=
  ⟨⟨((0x15A3C : Nat)), ({ at_ [(Reg.SYS_MODE.CUR, 3), (Reg.CMD_WCE_LO.EN, 3)] with mem := [(0x10000005, 7), (0x30000005, 7)], pins := { resetN := true } } : State), by decide +kernel⟩,
    ⟨((60000 : Nat)), ({ at_ [(Reg.SYS_MODE.CUR, 2)] with boot := { trialRuns := true }, pins := { resetN := true } } : State), by decide +kernel⟩,
    ⟨((15 : Nat)), ({ at_ [(Reg.SYS_MODE.CUR, 1), (Reg.SYS_WAKE_CFG.GPIO, 0x8000)] with pins := { resetN := true } } : State), by decide +kernel⟩,
    ⟨({ at_ [(Reg.SYS_MODE.CUR, 1), (Reg.SYS_WAKE_CFG.PERST, 1)] with pins := { resetN := true } } : State), by decide +kernel⟩,
    ⟨({ at_ [(Reg.SYS_MODE.CUR, 1), (Reg.SYS_WAKE_CFG.SMB, 1)] with pins := { resetN := true } } : State), by decide +kernel⟩,
    ⟨((.gpio 15 : WakeSrc)), ({ at_ [(Reg.SYS_MODE.CUR, 1), (Reg.SYS_WAKE_CFG.GPIO, 0x8000), (Reg.SYS_WAKE_CFG.SMB, 1), (Reg.SYS_WAKE_CFG.PERST, 1)] with pins := { resetN := true } } : State), by decide +kernel⟩,
    ⟨((100 : Nat)), ({ at_ [(Reg.SYS_MODE.CUR, 5)] with boot := { rescue := 3 }, pins := { resetN := true } } : State), by decide +kernel⟩,
    ⟨((10000 : Nat)), ({ at_ [(Reg.SYS_MODE.CUR, 3), (Reg.CMD_WCE_LO.EN, 3)] with pins := { resetN := true }, mem := [(0x30000005, 7)] } : State), by decide +kernel⟩,
    ⟨((10000 : Nat)), ({ at_ [(Reg.SYS_MODE.CUR, 5)] with pins := { resetN := true }, boot := { rescue := 2 } } : State), by decide +kernel⟩⟩

/-- The hypotheses of LossesOfClockAndPowerHoldDomainsOff, clause by clause, are met. -/
theorem witness_losses_of_clock_and_power_hold_domains_off :
    (∃ (n : Nat) (s : State), (2000 ≤ n) ∧ (s.pins.rails = true) ∧ (s.pins.xin = true)) ∧
    (∃ (p n : Nat) (s : State), (1000 < n) ∧ ((p = 0 ∧ get Reg.SYS_CLK_STAT.CPLL_LOCK s = 1) ∨ (p = 1 ∧ get Reg.SYS_CLK_STAT.DPLL_LOCK s = 1) ∨ (p = 2 ∧ get Reg.SYS_CLK_STAT.MPLL_LOCK s = 1))) ∧
    (∃ (s : State), (s.pins.pwrOk = true) ∧ (s.pins.resetN = true) ∧ (s.pins.rails = true)) ∧
    (∃ (s : State), (s.pins.pwrOk = true) ∧ (s.pins.resetN = false) ∧ (s.pins.rails = true)) ∧
    (∃ (s : State), (s.pins.rails = true)) ∧
    (∃ (s : State), (s.pins.rails = false)) :=
  ⟨⟨((2000 : Nat)), ({ at_ [(Reg.SYS_MODE.CUR, 3), (Reg.PMU_DOM_STAT.ON, 0xFFFFFF)] with mem := [(0x30000005, 7)] } : State), by decide +kernel⟩,
    ⟨((2 : Nat)), ((1001 : Nat)), (at_ [(Reg.SYS_MODE.CUR, 3), (Reg.SYS_CLK_STAT.MPLL_LOCK, 1), (Reg.SYS_CLK_STAT.CPLL_LOCK, 1), (Reg.SYS_CLK_STAT.DPLL_LOCK, 1)] : State), by decide +kernel⟩,
    ⟨({ at_ [(Reg.SYS_MODE.CUR, 3)] with pins := { resetN := true } } : State), by decide +kernel⟩,
    ⟨(at_ [(Reg.SYS_MODE.CUR, 2)] : State), by decide +kernel⟩,
    ⟨({ at_ [(Reg.SYS_MODE.CUR, 3)] with mem := [(0x30000005, 7)] } : State), by decide +kernel⟩,
    ⟨({ at_ [] with pins := { rails := false }, tmp := { stored0 := 5, stored1 := 281474976710655, storedAny := true, life0 := 4, life1 := 3 }, mem := [(0x30000005, 7)] } : State), by decide +kernel⟩⟩

/-- The hypotheses of ReleasesAndTheBootRom, clause by clause, are met. -/
theorem witness_releases_and_the_boot_rom :
    (∃ (s : State), (s.pins.resetN = false) ∧ (s.pins.rails = true)) ∧
    (∃ (n : Nat) (s : State), (10 ≤ n) ∧ (s.pins.rails = true) ∧ (s.pins.xin = false ∨ s.pins.pll = false)) ∧
    (∃ (s : State), (s.pins.pwrOk = false) ∧ (s.pins.rails = true)) ∧
    (∃ (n : Nat) (s : State), (100 ≤ n) ∧ (s.boot.awaitBoot = true) ∧ (s.pins.resetN = true) ∧ (s.pins.rails = true) ∧ (s.pins.pwrOk = true) ∧ (s.pins.xin = true) ∧ (s.pins.pll = true) ∧ (mode s ≠ 5) ∧ (s.boot.slotA = []) ∧ (s.boot.slotB = [])) ∧
    (∃ (n : Nat) (s : State), (100 ≤ n) ∧ (s.boot.awaitBoot = true) ∧ (s.pins.resetN = true) ∧ (s.pins.rails = true) ∧ (s.pins.pwrOk = true) ∧ (s.pins.xin = true) ∧ (s.pins.pll = true) ∧ (mode s ≠ 5)) :=
  ⟨⟨({ at_ [] with boot := { cause := 1 } } : State), by decide +kernel⟩,
    ⟨((10 : Nat)), ({ at_ [(Reg.PMU_DOM_STAT.ON, 3)] with pins := { xin := false, resetN := true }, boot := { cause := 3 } } : State), by decide +kernel⟩,
    ⟨({ at_ [(Reg.PMU_DOM_STAT.ON, 1)] with pins := { pwrOk := false, resetN := true }, boot := { cause := 1, pwrLow := true } } : State), by decide +kernel⟩,
    ⟨((100 : Nat)), ({ at_ [(Reg.SYS_MODE.CUR, 2), (Reg.PMU_DOM_STAT.ON, 7), (Reg.PMU_DOM_CTL.ON, 7)] with pins := { resetN := true }, boot := { awaitBoot := true } } : State), by decide +kernel⟩,
    ⟨((100 : Nat)), ({ at_ [(Reg.SYS_MODE.CUR, 2), (Reg.PMU_DOM_STAT.ON, 7), (Reg.PMU_DOM_CTL.ON, 7), (Reg.BOOT_SLOT_CTL.PREF, 0), (Reg.BOOT_SLOT_CTL.TRIAL, 0), (Reg.BOOT_SLOT_CTL.ARMED, 0), (Reg.BOOT_SLOT_CTL.TRIES, 0)] with pins := { resetN := true }, boot := { awaitBoot := true, slotA := [1, 2, 3] } } : State), by decide +kernel⟩⟩

/-- The hypotheses of ModeTransitionsAreTaken, clause by clause, are met. -/
theorem witness_mode_transitions_are_taken :
    (∃ (s : State), (mode s ≠ 5) ∧ (get Reg.SYS_MODE.BUSY s = 1 ∨ get Reg.SYS_MODE.ACT s = 1)) ∧
    (∃ (k : Nat) (s : State), (mode s ≠ 5) ∧ (get Reg.SYS_MODE.BUSY s = 0) ∧ (get Reg.SYS_MODE.ACT s = 0) ∧ (allowed (mode s) (k % 8) = false)) ∧
    (∃ (s : State), (mode s = 5)) ∧
    (∃ (k : Nat) (s : State), (mode s = 3) ∧ (k % 8 = 4 ∨ k % 8 = 1) ∧ (get Reg.SYS_MODE.BUSY s = 0) ∧ (get Reg.SYS_MODE.ACT s = 0)) ∧
    (∃ (k : Nat) (s : State), (mode s = 4) ∧ (k % 8 = 1) ∧ (get Reg.SYS_MODE.BUSY s = 0) ∧ (get Reg.SYS_MODE.ACT s = 0)) ∧
    (∃ (k : Nat) (s : State), (mode s = 4) ∧ (k % 8 = 3) ∧ (get Reg.SYS_MODE.BUSY s = 0) ∧ (get Reg.SYS_MODE.ACT s = 0)) ∧
    (∃ (k : Nat) (s : State), (s.boot.heldReq = some k) ∧ (mode s = 3) ∧ (k = 4 ∨ k = 1) ∧ (get Reg.SYS_MODE.BUSY s = 0) ∧ (get Reg.SYS_MODE.ACT s = 0)) ∧
    (∃ (k : Nat) (s : State), (s.boot.heldReq = some k) ∧ (get Reg.SYS_MODE.BUSY s ≠ 1) ∧ (get Reg.SYS_MODE.ACT s ≠ 1)) ∧
    (∃ (s : State), (mode s = 2) ∧ (serviceReady s = true)) ∧
    (∃ (s : State), (mode s = 3) ∧ (s.boot.going = some 4)) ∧
    (∃ (k : Nat) (s : State), (mode s = 3) ∧ (s.boot.going = some k) ∧ (k ≠ 4)) ∧
    (∃ (s : State), (mode s = 4) ∧ (s.boot.going = some 1) ∧ (spnState s = 0) ∧ (mediaStill s = true) ∧ (s.pmu.ckpt = none) ∧ (s.pmu.held = none)) ∧
    (∃ (n : Nat) (s : State), (500 ≤ n) ∧ (s.pins.rails = true) ∧ (mode s = 2 ∨ mode s = 3 ∨ mode s = 4)) ∧
    (∃ (n : Nat) (s : State), (500 ≤ n) ∧ (s.pins.rails = true) ∧ (mode s = 1)) ∧
    (∃ (n : Nat) (s : State), (500 ≤ n) ∧ (s.pins.rails = true) ∧ (mode s = 0 ∨ 5 ≤ mode s)) :=
  ⟨⟨(at_ [(Reg.SYS_MODE.CUR, 3), (Reg.SYS_MODE.BUSY, 1)] : State), by decide +kernel⟩,
    ⟨((2 : Nat)), (at_ [(Reg.SYS_MODE.CUR, 3), (Reg.SYS_MODE.BUSY, 0), (Reg.SYS_MODE.ACT, 0)] : State), by decide +kernel⟩,
    ⟨(at_ [(Reg.SYS_MODE.CUR, 5)] : State), by decide +kernel⟩,
    ⟨((1 : Nat)), (at_ [(Reg.SYS_MODE.CUR, 3), (Reg.SYS_MODE.BUSY, 0), (Reg.SYS_MODE.ACT, 0)] : State), by decide +kernel⟩,
    ⟨((9 : Nat)), (at_ [(Reg.SYS_MODE.CUR, 4), (Reg.SYS_MODE.BUSY, 0), (Reg.SYS_MODE.ACT, 0)] : State), by decide +kernel⟩,
    ⟨((3 : Nat)), (at_ [(Reg.SYS_MODE.CUR, 4), (Reg.SYS_MODE.BUSY, 0), (Reg.SYS_MODE.ACT, 0)] : State), by decide +kernel⟩,
    ⟨((4 : Nat)), ({ at_ [(Reg.SYS_MODE.CUR, 3), (Reg.SYS_MODE.BUSY, 0), (Reg.SYS_MODE.ACT, 0)] with boot := { heldReq := some 4 } } : State), by decide +kernel⟩,
    ⟨((3 : Nat)), ((fun (k : Nat) => ({ at_ [(Reg.SYS_MODE.CUR, 4), (Reg.SYS_MODE.BUSY, 0), (Reg.SYS_MODE.ACT, 0)] with boot := { heldReq := some k } } : State)) ((3 : Nat))), by decide +kernel⟩,
    ⟨({ at_ [(Reg.SYS_MODE.CUR, 2), (Reg.DRC_STAT.TRAINED, 1), (Reg.PMU_CKPT_CTL.RESTORED, 1), (Reg.SPN_STAT.LOCK, 2), (Reg.ACT_STAT.STATE 0, 4), (Reg.ACT_STAT.STATE 1, 4), (Reg.HCH_STAT.CONV 0, 1), (Reg.HCH_STAT.CONV 2, 1), (Reg.ZMG_STAT.RECOVERING, 0), (Reg.SYS_ACT_STAT.RESULT, 0)] with boot := { image := some ⟨0x584E5445, 1, 1024, 1000, 7, 0x8650, 0, 0, 0, [⟨1, true, 0, 10, 0, []⟩, ⟨4, true, 20, 10, 0, []⟩, ⟨5, true, 40, 10, 0, []⟩, ⟨6, true, 60, 10, 0, []⟩, ⟨7, true, 80, 10, 0, []⟩], [], [], 5, [], [], [], [], 1, 1, []⟩, sealReady := true, trialRuns := true } } : State), by decide +kernel⟩,
    ⟨({ at_ [(Reg.SYS_MODE.CUR, 3), (Reg.SYS_MODE.BUSY, 1), (Reg.ACT_STAT.STATE 0, 4), (Reg.ACT_STAT.STATE 1, 3), (Reg.OSV_STAT.STATE, 5)] with boot := { going := some 4 } } : State), by decide +kernel⟩,
    ⟨((1 : Nat)), ({ at_ [(Reg.SYS_MODE.CUR, 3), (Reg.SYS_MODE.BUSY, 1), (Reg.ACT_STAT.STATE 0, 4), (Reg.ACT_STAT.STATE 1, 3), (Reg.OSV_STAT.STATE, 5)] with boot := { going := some 1 } } : State), by decide +kernel⟩,
    ⟨({ at_ [(Reg.SYS_MODE.CUR, 4), (Reg.SPN_STAT.STATE, 0), (Reg.ACT_STAT.STATE 0, 0), (Reg.ACT_STAT.STATE 1, 8), (Reg.OSV_STAT.STATE, 0), (Reg.PMU_DOM_STAT.ON, 0xFFFFFF)] with boot := { going := some 1 } } : State), by decide +kernel⟩,
    ⟨((500 : Nat)), (at_ [(Reg.SYS_MODE.CUR, 3), (Reg.SYS_MODE.BUSY, 1)] : State), by decide +kernel⟩,
    ⟨((500 : Nat)), (at_ [(Reg.SYS_MODE.CUR, 1)] : State), by decide +kernel⟩,
    ⟨((500 : Nat)), (at_ [(Reg.SYS_MODE.CUR, 5)] : State), by decide +kernel⟩⟩

/-- The hypotheses of KeysDownloadsAndActivation, clause by clause, are met. -/
theorem witness_keys_downloads_and_activation :
    (∃ (v : Nat) (s : State), (v / 2 ^ 24 % 256 = 0xC3) ∧ (s.boot.image.all (fun i => !(v % 16).testBit i.keySlot) = true) ∧ ((List.range 4).any (fun k => (s.boot.fuses.getD k {}).hash.isSome && !(s.boot.fuses.getD k {}).revoked && !(v % 16).testBit k && !s.boot.revoking.testBit k) = true)) ∧
    (∃ (v : Nat) (i : Image) (s : State), (v / 2 ^ 24 % 256 = 0xC3) ∧ (s.boot.image = some i) ∧ (i.keySlot < 4) ∧ (v.testBit i.keySlot = true)) ∧
    (∃ (v : Nat) (s : State), (v / 2 ^ 24 % 256 = 0xC3) ∧ ((List.range 4).any (fun k => (s.boot.fuses.getD k {}).hash.isSome && !(s.boot.fuses.getD k {}).revoked && !(v % 16).testBit k && !s.boot.revoking.testBit k) = false)) ∧
    (∃ (v : Nat), (v / 2 ^ 24 % 256 ≠ 0xC3)) ∧
    (∃ (s : State), (get Reg.BOOT_KEY_STAT.BUSY s = 1)) ∧
    (∃ (p : Port) (s : State), (adminServed p s = true) ∧ (s.boot.session = none ∨ s.boot.session.map (·.1) = some p)) ∧
    (∃ (p q : Port) (m : List Nat) (s : State), (adminServed p s = true) ∧ (s.boot.session = some (q, m)) ∧ (q ≠ p)) ∧
    (∃ (n : Nat), (60000 ≤ n)) ∧
    (∃ (p : Port) (l : List Nat) (s : State), (adminServed p s = true) ∧ (s.boot.session = some (p, l)) ∧ (s.boot.recovery = false)) ∧
    (∃ (l : List Nat) (s : State), (s.boot.session = some (.sideband, l)) ∧ (s.boot.recovery = true)) ∧
    (∃ (p : Port) (s : State), (adminServed p s = true) ∧ (s.boot.session.map (·.1) ≠ some p)) ∧
    (∃ (p : Port) (s : State), (adminServed p s = true) ∧ (s.boot.recovery = false) ∧ (mode s = 3) ∧ (get Reg.SYS_MODE.ACT s ≠ 1) ∧ (get Reg.SYS_MODE.BUSY s ≠ 1)) ∧
    (∃ (p : Port) (s : State), (adminServed p s = true) ∧ (s.boot.recovery = false) ∧ (mode s ≠ 3 ∨ get Reg.SYS_MODE.ACT s = 1 ∨ get Reg.SYS_MODE.BUSY s = 1)) ∧
    (∃ (n : Nat) (s : State), (s.boot.actPhase = 1) ∧ (s.cmd.ctxs = []) ∧ (n ≤ drainMs s)) ∧
    (∃ (n : Nat) (s : State), (s.boot.actPhase = 1) ∧ (s.cmd.ctxs ≠ []) ∧ (drainMs s < n)) ∧
    (∃ (s : State), (s.boot.actPhase = 2) ∧ (mediaStill s = true) ∧ (s.pmu.ckpt = none) ∧ (s.pmu.held = none)) :=
  ⟨⟨((0xC3000003 : Nat)), ({ at_ [] with boot := { fuses := [⟨some 9, false⟩, {}, ⟨some 8, false⟩, {}] } } : State), by decide +kernel⟩,
    ⟨((0xC3000001 : Nat)), ((⟨0x584E5445, 1, 1024, 1000, 7, 0x8650, 0, 0, 0, [⟨1, true, 0, 10, 0, []⟩, ⟨4, true, 20, 10, 0, []⟩, ⟨5, true, 40, 10, 0, []⟩, ⟨6, true, 60, 10, 0, []⟩, ⟨7, true, 80, 10, 0, []⟩], [], [], 5, [], [], [], [], 1, 1, []⟩ : Image)), ((fun (i : Image) => ({ at_ [] with boot := { image := some i } } : State)) ((⟨0x584E5445, 1, 1024, 1000, 7, 0x8650, 0, 0, 0, [⟨1, true, 0, 10, 0, []⟩, ⟨4, true, 20, 10, 0, []⟩, ⟨5, true, 40, 10, 0, []⟩, ⟨6, true, 60, 10, 0, []⟩, ⟨7, true, 80, 10, 0, []⟩], [], [], 5, [], [], [], [], 1, 1, []⟩ : Image))), by decide +kernel⟩,
    ⟨((0xC3000005 : Nat)), ({ at_ [] with boot := { fuses := [⟨some 9, false⟩, {}, ⟨some 8, false⟩, {}] } } : State), by decide +kernel⟩,
    ⟨((3 : Nat)), by decide +kernel⟩,
    ⟨({ at_ [(Reg.BOOT_KEY_STAT.BUSY, 1)] with boot := { revoking := 3 } } : State), by decide +kernel⟩,
    ⟨((.sas0 : Port)), ({ at_ [(Reg.SYS_MODE.CUR, 3)] with boot := { session := some (.sas0, [5, 6, 7]) } } : State), by decide +kernel⟩,
    ⟨((.sas0 : Port)), ((.pcie : Port)), (([2] : List Nat)), ({ at_ [(Reg.SYS_MODE.CUR, 3)] with boot := { session := some (.pcie, [2]) } } : State), by decide +kernel⟩,
    ⟨((60000 : Nat)), by decide +kernel⟩,
    ⟨((.sas0 : Port)), (([1, 2] : List Nat)), ({ at_ [(Reg.SYS_MODE.CUR, 3)] with boot := { session := some (.sas0, [1, 2]), fuses := [⟨some 99, false⟩, {}, {}, {}] } } : State), by decide +kernel⟩,
    ⟨(([1, 2] : List Nat)), ({ at_ [(Reg.SYS_MODE.CUR, 2)] with boot := { session := some (.sideband, [1, 2]), recovery := true } } : State), by decide +kernel⟩,
    ⟨((.sas0 : Port)), ({ at_ [(Reg.SYS_MODE.CUR, 3)] with boot := { session := some (.pcie, [1, 2]) } } : State), by decide +kernel⟩,
    ⟨((.sas0 : Port)), ({ at_ [(Reg.SYS_MODE.CUR, 3), (Reg.SYS_MODE.ACT, 0), (Reg.SYS_MODE.BUSY, 0)] with boot := { staged := some 0, slotA := [1, 2], fuses := [⟨some 99, false⟩, {}, {}, {}] } } : State), by decide +kernel⟩,
    ⟨((.sas0 : Port)), (at_ [(Reg.SYS_MODE.CUR, 3), (Reg.SYS_MODE.ACT, 0), (Reg.SYS_MODE.BUSY, 1)] : State), by decide +kernel⟩,
    ⟨((2000 : Nat)), ({ at_ [(Reg.SYS_MODE.CUR, 3), (Reg.SYS_ACT_CFG.DRAIN_MS, 0), (Reg.ACT_STAT.STATE 0, 4), (Reg.ACT_STAT.STATE 1, 3), (Reg.OSV_STAT.STATE, 5)] with boot := { actPhase := 1 } } : State), by decide +kernel⟩,
    ⟨((2001 : Nat)), ({ at_ [(Reg.SYS_MODE.CUR, 3), (Reg.SYS_ACT_CFG.DRAIN_MS, 0)] with boot := { actPhase := 1 }, cmd := { ctxs := [{ stamp := 1, cmd := { port := .sas0, nexus := 0, tag := 1, ncq := false, ns := 0, op := .admin, ordered := false, naca := false }, cls := 0 }] } } : State), by decide +kernel⟩,
    ⟨({ at_ [(Reg.SYS_MODE.CUR, 3), (Reg.ACT_STAT.STATE 0, 0), (Reg.ACT_STAT.STATE 1, 8), (Reg.OSV_STAT.STATE, 10)] with boot := { actPhase := 2, staged := some 1 } } : State), by decide +kernel⟩⟩

/-- The hypotheses of PowerDomainRequests, clause by clause, are met. -/
theorem witness_power_domain_requests :
    (∃ (d v : Nat) (s : State), (1 ≤ d) ∧ (d < 24) ∧ (get Reg.PMU_DOM_CTL.ON s < 2 ^ 24) ∧ (domCtl d s = false) ∧ (v = get Reg.PMU_DOM_CTL.ON s + 2 ^ d) ∧ (((domParent d).all (fun p => p == 0 || domCtl p s)) = true) ∧ (bit Reg.PMU_DOM_PEND.PEND d s = false) ∧ (domOn d s = false) ∧ ((get Reg.PMU_DOM_CTL.ON s).testBit 0 = true)) ∧
    (∃ (d v : Nat) (s : State), (1 ≤ d) ∧ (d < 24) ∧ (get Reg.PMU_DOM_CTL.ON s < 2 ^ 24) ∧ (domCtl d s = true) ∧ (v + 2 ^ d = get Reg.PMU_DOM_CTL.ON s) ∧ ((domChildren d).all (fun c => !domCtl c s) = true) ∧ (d ≠ 19 ∨ get Reg.TCH_CTL.EN s = 0) ∧ (domOn d s = true)) ∧
    (∃ (d v : Nat) (s : State), (1 ≤ d) ∧ (d < 24) ∧ (domCtl d s = true) ∧ (v + 2 ^ d = get Reg.PMU_DOM_CTL.ON s) ∧ ((domChildren d).any (fun c => domCtl c s) = true) ∧ (get Reg.PMU_DOM_ERR.VALID s = 0)) ∧
    (∃ (d : Nat) (s : State), (d < 24) ∧ (d ∈ s.pmu.goingOn) ∧ (parentOn d s = true)) ∧
    (∃ (d : Nat) (s : State), (d < 24) ∧ (d ∈ s.pmu.goingOn) ∧ (parentOn d s = true) ∧ (domCtl d s = true)) ∧
    (∃ (d : Nat) (s : State), (1 ≤ d) ∧ (d < 24) ∧ (bit Reg.PMU_DOM_PEND.PEND d s = true) ∧ (touches d s = false) ∧ (childOn d s = false)) ∧
    (∃ (d n : Nat) (s : State), (d < 24) ∧ (bit Reg.PMU_DOM_PEND.PEND d s = true) ∧ (touches d s = true) ∧ ((if get Reg.PMU_DOM_CFG.DEFER_US s = 0 then 1000 else get Reg.PMU_DOM_CFG.DEFER_US s) ≤ n) ∧ (get Reg.PMU_DOM_ERR.VALID s = 0)) ∧
    (∃ (d n : Nat) (s : State), (d < 24) ∧ (bit Reg.PMU_DOM_PEND.PEND d s = true) ∧ (touches d s = true ∨ childOn d s = true) ∧ ((if get Reg.PMU_DOM_CFG.DEFER_US s = 0 then 1000 else get Reg.PMU_DOM_CFG.DEFER_US s) ≤ n)) :=
  ⟨⟨((20 : Nat)), ((0x100007 : Nat)), (at_ [(Reg.PMU_DOM_CTL.ON, 7), (Reg.PMU_DOM_STAT.ON, 7), (Reg.PMU_DOM_PEND.PEND, 0)] : State), by decide +kernel⟩,
    ⟨((20 : Nat)), ((7 : Nat)), (at_ [(Reg.PMU_DOM_CTL.ON, 0x100007), (Reg.PMU_DOM_STAT.ON, 0x100007), (Reg.PMU_DOM_PEND.PEND, 0)] : State), by decide +kernel⟩,
    ⟨((20 : Nat)), ((0x87 : Nat)), (at_ [(Reg.PMU_DOM_CTL.ON, 0x100087), (Reg.PMU_DOM_STAT.ON, 0x100087), (Reg.PMU_DOM_ERR.VALID, 0)] : State), by decide +kernel⟩,
    ⟨((20 : Nat)), ({ at_ [(Reg.PMU_DOM_CTL.ON, 7), (Reg.PMU_DOM_STAT.ON, 7)] with pmu := { goingOn := [20] } } : State), by decide +kernel⟩,
    ⟨((20 : Nat)), ({ at_ [(Reg.PMU_DOM_CTL.ON, 0x100007), (Reg.PMU_DOM_STAT.ON, 7)] with pmu := { goingOn := [20] } } : State), by decide +kernel⟩,
    ⟨((20 : Nat)), ({ at_ [(Reg.PMU_DOM_CTL.ON, 7), (Reg.PMU_DOM_STAT.ON, 0x100007), (Reg.PMU_DOM_PEND.PEND, 0x100006)] with mem := [(0x20000000, 1), (0x30000000, 2)] } : State), by decide +kernel⟩,
    ⟨((20 : Nat)), ((1000 : Nat)), ({ at_ [(Reg.PMU_DOM_CTL.ON, 7), (Reg.PMU_DOM_STAT.ON, 0x100007), (Reg.PMU_DOM_PEND.PEND, 0x100000), (Reg.PMU_DOM_CFG.DEFER_US, 0), (Reg.PMU_DOM_ERR.VALID, 0), (Reg.DMA_STAT.STATE 3, 1)] with dma := [(3, { src := 0x20000000, dst := 0x1000000000, size := 64 })] } : State), by decide +kernel⟩,
    ⟨((20 : Nat)), ((1000 : Nat)), ({ at_ [(Reg.PMU_DOM_CTL.ON, 7), (Reg.PMU_DOM_STAT.ON, 0x100007), (Reg.PMU_DOM_PEND.PEND, 0x100000), (Reg.PMU_DOM_CFG.DEFER_US, 0), (Reg.PMU_DOM_ERR.VALID, 1), (Reg.DMA_STAT.STATE 3, 1)] with dma := [(3, { src := 0x20000000, dst := 0x1000000000, size := 64 })] } : State), by decide +kernel⟩⟩

/-- The hypotheses of CheckpointsAndTheRescueImage, clause by clause, are met. -/
theorem witness_checkpoints_and_the_rescue_image :
    (∃ (n : Nat) (s : State), (mode s = 3 ∨ mode s = 4) ∧ (get Reg.PMU_CKPT_CTL.RESTORED s = 1) ∧ (get Reg.PMU_CKPT_CFG.PERIOD_S s ≠ 0) ∧ (get Reg.PMU_CKPT_CFG.PERIOD_S s * 1000 ≤ n) ∧ (s.pmu.ckpt = none)) ∧
    (∃ (s : State), (mode s ≠ 5) ∧ (get Reg.PMU_CKPT_CTL.RESTORED s = 1) ∧ (s.pmu.ckpt = none)) ∧
    (∃ (s : State), (mode s ≠ 5) ∧ (get Reg.PMU_CKPT_CTL.RESTORED s = 1) ∧ (s.pmu.ckpt ≠ none)) ∧
    (∃ (s : State), (mode s ≠ 5) ∧ (get Reg.PMU_CKPT_CTL.RESTORED s = 0)) ∧
    (∃ (n : Nat) (s : State), (mode s = 3 ∨ mode s = 4) ∧ (get Reg.PMU_CKPT_CTL.RESTORED s = 1) ∧ (get Reg.PMU_CKPT_CFG.PERIOD_S s ≠ 0) ∧ (get Reg.PMU_CKPT_CFG.PERIOD_S s * 1000 ≤ n ∨ s.pmu.atOnce = true)) ∧
    (∃ (s : State), (mode s = 5)) ∧
    (∃ (c : Ckpt) (s : State), (s.pmu.ckpt = some c) ∧ (c.next < 8)) ∧
    (∃ (c : Ckpt) (s : State), (s.pmu.ckpt = some c) ∧ (c.next = 8) ∧ (c.kind ≠ 2) ∧ (s.pmu.held = none) ∧ (c.secs.length ≤ 8)) ∧
    (∃ (c : Ckpt) (s : State), (s.pmu.ckpt = some c) ∧ (c.next = 8) ∧ (c.kind ≠ 2)) ∧
    (∃ (s : State), (mode s = 5) ∧ (s.boot.rescue = 1)) ∧
    (∃ (s : State), (mode s = 5) ∧ (s.boot.rescue = 4)) ∧
    (∃ (c : Ckpt) (s : State), (mode s = 5) ∧ (s.boot.rescue = 2) ∧ (s.pmu.ckpt = some c) ∧ (s.boot.resetHeld = false) ∧ (c.slot < 6) ∧ (c.secs.length ≤ 8)) ∧
    (∃ (s : State), (mode s = 5) ∧ (s.boot.rescue = 1 ∨ s.boot.rescue = 2) ∧ (s.boot.resetHeld = false) ∧ (s.pins.pwrOk = false ∨ s.pins.xin = false ∨ s.pins.pll = false)) ∧
    (∃ (c : Ckpt) (s : State), (mode s = 5) ∧ (s.boot.rescue = 2) ∧ (s.pmu.ckpt = some c)) ∧
    (∃ (s : State), (rescueRuns s = true) ∧ (s.boot.resetHeld = false) ∧ (s.pins.pwrOk = false ∨ s.pins.xin = false ∨ s.pins.pll = false)) ∧
    (∃ (s : State), (rescueRuns s = true) ∧ (s.boot.resetHeld = true) ∧ (s.pins.pwrOk = false ∨ s.pins.xin = false ∨ s.pins.pll = false)) ∧
    (∃ (s : State), (mode s = 2) ∧ (get Reg.PMU_CKPT_CTL.RESTORED s = 0) ∧ (bestSlot s = none)) ∧
    (∃ (k : Nat) (s : State), (mode s = 2) ∧ (get Reg.PMU_CKPT_CTL.RESTORED s = 0) ∧ (bestSlot s = some k)) ∧
    (∃ (s : State), (mode s = 2) ∧ (get Reg.PMU_CKPT_CTL.RESTORED s = 0)) ∧
    (∃ (y : List Nat) (s : State), (mode s = 2) ∧ (get Reg.PMU_CKPT_CTL.RESTORED s = 0) ∧ (get Reg.PMU_CKPT_CTL.REQ s ≠ 1) ∧ (s.boot.cause = 7) ∧ (y = [])) :=
  ⟨⟨((60000 : Nat)), ({ at_ [(Reg.SYS_MODE.CUR, 3), (Reg.PMU_CKPT_CTL.RESTORED, 1), (Reg.PMU_CKPT_CFG.PERIOD_S, 60), (Reg.PMU_CKPT_STAT.LAST, 5)] with mem := [(0x30000FFC, 9)] } : State), by decide +kernel⟩,
    ⟨({ at_ [(Reg.SYS_MODE.CUR, 3), (Reg.PMU_CKPT_CTL.RESTORED, 1), (Reg.PMU_CKPT_STAT.LAST, 4)] with mem := [(0x30A00FFC, 9)] } : State), by decide +kernel⟩,
    ⟨({ at_ [(Reg.SYS_MODE.CUR, 3), (Reg.PMU_CKPT_CTL.RESTORED, 1)] with pmu := { ckpt := some { kind := 5, slot := 2, seq := 7, tempo := 1, life := 2, xlog := 3, wall := 4 }, held := some 1 } } : State), by decide +kernel⟩,
    ⟨(at_ [(Reg.SYS_MODE.CUR, 2), (Reg.PMU_CKPT_CTL.RESTORED, 0)] : State), by decide +kernel⟩,
    ⟨((0 : Nat)), ({ at_ [(Reg.SYS_MODE.CUR, 3), (Reg.PMU_CKPT_CTL.RESTORED, 1), (Reg.PMU_CKPT_CFG.PERIOD_S, 60), (Reg.PMU_CKPT_STAT.LAST, 5)] with pmu := { atOnce := true, ckpt := some { kind := 5, slot := 2, seq := 7, tempo := 1, life := 2, xlog := 3, wall := 4 } } } : State), by decide +kernel⟩,
    ⟨(at_ [(Reg.SYS_MODE.CUR, 5)] : State), by decide +kernel⟩,
    ⟨(({ kind := 5, slot := 2, seq := 7, tempo := 1, life := 2, xlog := 3, wall := 4 } : Ckpt)), ((fun (c : Ckpt) => ({ at_ [(Reg.PMU_RESCUE_SRC_HI.EN 0, 1), (Reg.PMU_RESCUE_SRC_LO.ADDR 0, 0x3000000), (Reg.PMU_RESCUE_SRC_HI.ADDR 0, 0), (Reg.PMU_RESCUE_SRC_MAX.MAX 0, 6)] with pmu := { ckpt := some c }, mem := [(0x30000000, 9), (0x30000005, 3)] } : State)) (({ kind := 5, slot := 2, seq := 7, tempo := 1, life := 2, xlog := 3, wall := 4 } : Ckpt))), by decide +kernel⟩,
    ⟨(({ kind := 5, slot := 2, seq := 7, tempo := 1, life := 2, xlog := 3, wall := 4 , next := 8 } : Ckpt)), ((fun (c : Ckpt) => ({ at_ [] with pmu := { ckpt := some c } } : State)) (({ kind := 5, slot := 2, seq := 7, tempo := 1, life := 2, xlog := 3, wall := 4 , next := 8 } : Ckpt))), by decide +kernel⟩,
    ⟨(({ kind := 5, slot := 2, seq := 7, tempo := 1, life := 2, xlog := 3, wall := 4 , next := 8 } : Ckpt)), ((fun (c : Ckpt) => ({ at_ [] with pmu := { ckpt := some c, held := some 3 } } : State)) (({ kind := 5, slot := 2, seq := 7, tempo := 1, life := 2, xlog := 3, wall := 4 , next := 8 } : Ckpt))), by decide +kernel⟩,
    ⟨({ at_ [(Reg.SYS_MODE.CUR, 5), (Reg.PMU_DOM_STAT.ON, 0xFFFFFF), (Reg.PMU_DOM_CTL.ON, 0xFFFFFF)] with boot := { rescue := 1 } } : State), by decide +kernel⟩,
    ⟨({ at_ [(Reg.SYS_MODE.CUR, 5), (Reg.PMU_DOM_STAT.ON, 0xFFFFFF), (Reg.PMU_DOM_CTL.ON, 0xFFFFFF)] with boot := { rescue := 4 } } : State), by decide +kernel⟩,
    ⟨(({ kind := 2, slot := 2, seq := 7, tempo := 1, life := 2, xlog := 3, wall := 4 } : Ckpt)), ((fun (c : Ckpt) => ({ at_ [(Reg.SYS_MODE.CUR, 5)] with boot := { rescue := 2 }, pmu := { ckpt := some c } } : State)) (({ kind := 2, slot := 2, seq := 7, tempo := 1, life := 2, xlog := 3, wall := 4 } : Ckpt))), by decide +kernel⟩,
    ⟨({ at_ [(Reg.SYS_MODE.CUR, 5)] with boot := { rescue := 2 }, pmu := { ckpt := some { kind := 5, slot := 2, seq := 7, tempo := 1, life := 2, xlog := 3, wall := 4 } }, pins := { pwrOk := false } } : State), by decide +kernel⟩,
    ⟨(({ kind := 2, slot := 2, seq := 7, tempo := 1, life := 2, xlog := 3, wall := 4 } : Ckpt)), ((fun (c : Ckpt) => ({ at_ [(Reg.SYS_MODE.CUR, 5)] with boot := { rescue := 2, resetHeld := true }, pmu := { ckpt := some c } } : State)) (({ kind := 2, slot := 2, seq := 7, tempo := 1, life := 2, xlog := 3, wall := 4 } : Ckpt))), by decide +kernel⟩,
    ⟨({ at_ [(Reg.SYS_MODE.CUR, 5)] with boot := { rescue := 4 }, pins := { pwrOk := false } } : State), by decide +kernel⟩,
    ⟨({ at_ [(Reg.SYS_MODE.CUR, 5)] with boot := { rescue := 1, resetHeld := true }, pins := { pwrOk := false } } : State), by decide +kernel⟩,
    ⟨(at_ [(Reg.SYS_MODE.CUR, 2), (Reg.PMU_CKPT_CTL.RESTORED, 0)] : State), by decide +kernel⟩,
    ⟨1, { at_ [(Reg.SYS_MODE.CUR, 2), (Reg.PMU_CKPT_CTL.RESTORED, 0)] with mem := ckptMem }, by decide +kernel, by decide +kernel, by decide +kernel⟩,
    ⟨(at_ [(Reg.SYS_MODE.CUR, 2), (Reg.PMU_CKPT_CTL.RESTORED, 0), (Reg.PMU_CKPT_CTL.REQ, 1), (Reg.PMU_CKPT_STAT.NONE, 1)] : State), by decide +kernel⟩,
    ⟨(([] : List Nat)), ({ at_ [(Reg.SYS_MODE.CUR, 2), (Reg.PMU_CKPT_CTL.RESTORED, 0), (Reg.PMU_CKPT_CTL.REQ, 0)] with boot := { cause := 7 } } : State), by decide +kernel⟩⟩

/-- The hypotheses of RecordsAndClocksAdvance, clause by clause, are met. -/
theorem witness_records_and_clocks_advance :
    (∃ (s : State), (200000 ≤ s.tmp.lifeDiv)) ∧
    (∃ (s : State), (200 ≤ s.tmp.wallDiv)) ∧
    (∃ (p v : Nat) (s : State), (p < 10) ∧ (v.testBit 31 = true) ∧ (v.testBit 21 = false) ∧ (get Reg.EVR_CTL.EN s = 1) ∧ (get (Reg.EVR_CODE.EN (v % 2 ^ 12)) s = 1) ∧ (get (Reg.EVR_RATE_CFG.RATE (get (Reg.EVR_CODE.CLASS (v % 2 ^ 12)) s)) s = 0) ∧ (s.evr.staged.length < 64)) ∧
    (∃ (p v : Nat), (p < 10) ∧ (v.testBit 31 = false)) ∧
    (∃ (p : Nat), (p < 10)) ∧
    (∃ (c : Nat) (s : State), (c = 0x020 ∨ c = 0x021 ∨ c = 0x6E0) ∧ (s.evr.staged.length < 64)) ∧
    (∃ (c : Nat), (c < 0x840) ∧ (c < 0x6C0 ∨ 0x6C2 < c)) ∧
    (∃ (r : EvRec) (l : List EvRec) (s : State), (s.evr.staged = r :: l) ∧ (domOn 1 s = true) ∧ (mergesWith r s = false) ∧ (lateToken r = false ∨ hasToken r.code s = true) ∧ (mode s ≠ 5) ∧ (0 < s.evr.budget)) ∧
    (∃ (r : EvRec) (l : List EvRec) (s : State), (s.evr.staged = r :: l) ∧ (domOn 1 s = true) ∧ (mergesWith r s = false) ∧ (lateToken r = false ∨ hasToken r.code s = true) ∧ (mode s = 5)) ∧
    (∃ (r : EvRec) (l : List EvRec) (s : State), (s.evr.staged = r :: l) ∧ (domOn 1 s = true) ∧ (mergesWith r s = false) ∧ (lateToken r = true) ∧ (hasToken r.code s = false) ∧ (mode s = 5 ∨ 0 < s.evr.budget)) ∧
    (∃ (r : EvRec) (l : List EvRec) (s : State), (s.evr.staged = r :: l) ∧ (domOn 1 s = true) ∧ (mergesWith r s = true)) ∧
    (∃ (s : State), (s.evr.staged = []) ∧ (0 < s.evr.lostSince)) ∧
    (∃ (s : State), (mode s = 2)) :=
  ⟨⟨({ at_ [(Reg.EVR_LIFE.SECONDS, 0xFFFFFFFF)] with tmp := { lifeDiv := 200003 } } : State), by decide +kernel⟩,
    ⟨({ at_ [(Reg.EVR_WALL_LO.MS, 0xFFFFFFFF), (Reg.EVR_WALL_HI.MS, 3)] with tmp := { wallDiv := 200 } } : State), by decide +kernel⟩,
    ⟨((9 : Nat)), ((0x80000701 : Nat)), (at_ [(Reg.EVR_CTL.EN, 1), (Reg.EVR_CODE.EN 0x701, 1), (Reg.EVR_CODE.CLASS 0x701, 0), (Reg.EVR_RATE_CFG.RATE 0, 0)] : State), by decide +kernel⟩,
    ⟨((0 : Nat)), ((0x701 : Nat)), by decide +kernel⟩,
    ⟨((9 : Nat)), by decide +kernel⟩,
    ⟨((0x6E0 : Nat)), (at_ [] : State), by decide +kernel⟩,
    ⟨((0x83F : Nat)), by decide +kernel⟩,
    ⟨(({ code := 0x700, sev := 3, source := 4 } : EvRec)), (([] : List EvRec)), ((fun (r : EvRec) => ({ at_ [(Reg.SYS_MODE.CUR, 3), (Reg.PMU_DOM_STAT.ON, 7), (Reg.EVR_HEAD.HEAD, 32767), (Reg.EVR_SEQ_LO.SEQ, 0xFFFFFFFF), (Reg.EVR_SEQ_HI.SEQ, 3)] with evr := { staged := [r] } } : State)) (({ code := 0x700, sev := 3, source := 4 } : EvRec))), by decide +kernel⟩,
    ⟨(({ code := 0x700, sev := 3, source := 4 } : EvRec)), (([] : List EvRec)), ((fun (r : EvRec) => ({ at_ [(Reg.SYS_MODE.CUR, 5), (Reg.PMU_DOM_STAT.ON, 7)] with evr := { staged := [r], budget := 0 } } : State)) (({ code := 0x700, sev := 3, source := 4 } : EvRec))), by decide +kernel⟩,
    ⟨(({ code := 0x700, sev := 3, source := 4, repeatReq := true } : EvRec)), (([] : List EvRec)), ((fun (r : EvRec) => ({ at_ [(Reg.SYS_MODE.CUR, 3), (Reg.PMU_DOM_STAT.ON, 7), (Reg.EVR_RATE_CFG.RATE 0, 1), (Reg.EVR_RATE_CFG.BURST 0, 2), (Reg.EVR_CODE.CLASS 0x700, 0)] with evr := { staged := [r], used := [(0x700, 2)], rates := [(0, 2, 1, 2)] } } : State)) (({ code := 0x700, sev := 3, source := 4, repeatReq := true } : EvRec))), by decide +kernel⟩,
    ⟨(({ code := 0x700, sev := 3, source := 4, repeatReq := true } : EvRec)), (([] : List EvRec)), ((fun (r : EvRec) => (writeRecord r ({ at_ [(Reg.SYS_MODE.CUR, 3), (Reg.PMU_DOM_STAT.ON, 7)] with evr := { staged := [r] } }) : State)) (({ code := 0x700, sev := 3, source := 4, repeatReq := true } : EvRec))), by decide +kernel⟩,
    ⟨({ at_ [] with evr := { lostSince := 3 } } : State), by decide +kernel⟩,
    ⟨(writeRecord { code := 0x700, sev := 3, source := 4 } (at_ [(Reg.SYS_MODE.CUR, 2), (Reg.EVR_HEAD.HEAD, 32767), (Reg.EVR_SEQ_LO.SEQ, 9)]) : State), by decide +kernel⟩⟩

/-- The hypotheses of CalibrationsAndSparesInService, clause by clause, are met. -/
theorem witness_calibrations_and_spares_in_service :
    (∃ (k : Nat) (s : State), (k < 16) ∧ (calTracked k s = true) ∧ (calDue k s = false) ∧ (get (Reg.CAL_KIND_LAST.LIFE k) s = 0 ∨ get (Reg.CAL_KIND_LAST.LIFE k) s + get (Reg.CAL_KIND_CFG.INTERVAL k) s * 3600 ≤ lifeSec s)) ∧
    (∃ (k : Nat) (s : State), (k < 16) ∧ (calTracked k s = true) ∧ (calDue k s = true) ∧ (bit Reg.CAL_DUE.OVERDUE k s = false) ∧ (AMap.getD s.cal.dueAt k 0 + get (Reg.CAL_KIND_CFG.INTERVAL k) s * 3600 ≤ lifeSec s)) ∧
    (∃ (v : Nat), (v.testBit 31 = true)) ∧
    (∃ (v : Nat), (v.testBit 31 = false)) ∧
    (∃ (n : Nat) (s : State), (n % 16 ≠ 15) ∧ (get Reg.SPR_CORE.SEL s = 15) ∧ (bit Reg.SPR_CORE.RETIRE 8 s = false)) ∧
    (∃ (s : State), (get Reg.SPR_CORE.SEL s ≠ 15 ∨ bit Reg.SPR_CORE.RETIRE 8 s = true)) ∧
    (∃ (d : Nat) (s : State), (d < 2) ∧ (get (if d = 0 then Reg.SPR_DISC.USED0 else Reg.SPR_DISC.USED1) s = 0)) :=
  ⟨⟨((15 : Nat)), (at_ [(Reg.CAL_CTL.EN, 1), (Reg.CAL_KIND_CFG.EN 15, 1), (Reg.CAL_KIND_CFG.INTERVAL 15, 2), (Reg.CAL_KIND_LAST.LIFE 15, 100), (Reg.EVR_LIFE.SECONDS, 7300), (Reg.CAL_DUE.DUE, 1)] : State), by decide +kernel⟩,
    ⟨((15 : Nat)), ({ at_ [(Reg.CAL_CTL.EN, 1), (Reg.CAL_KIND_CFG.EN 15, 1), (Reg.CAL_KIND_CFG.INTERVAL 15, 2), (Reg.EVR_LIFE.SECONDS, 7300), (Reg.CAL_DUE.DUE, 0x8000), (Reg.CAL_DUE.OVERDUE, 1)] with cal := { dueAt := [(15, 100)] } } : State), by decide +kernel⟩,
    ⟨((0x8000001F : Nat)), by decide +kernel⟩,
    ⟨((0x1F : Nat)), by decide +kernel⟩,
    ⟨((3 : Nat)), (at_ [(Reg.SPR_CORE.SEL, 15), (Reg.SPR_CORE.RETIRE, 1)] : State), by decide +kernel⟩,
    ⟨(at_ [(Reg.SPR_CORE.SEL, 2)] : State), by decide +kernel⟩,
    ⟨((1 : Nat)), (at_ [(Reg.SPR_DISC.USED1, 0), (Reg.SPR_DISC.USED0, 0), (Reg.SPR_INV.DISCS, 2)] : State), by decide +kernel⟩⟩

/-- The hypotheses of ActuatorSeeksAndWedges, clause by clause, are met. -/
theorem witness_actuator_seeks_and_wedges :
    (∃ (a : Nat), (a < 2)) ∧
    (∃ (a : Nat) (s : State), (a < 2) ∧ (get (Reg.ACT_SEEK.GO a) s = 1) ∧ (2 ≤ actState a s) ∧ (actState a s ≤ 4) ∧ (isService a s = true) ∧ (badTarget a s = false) ∧ (get (Reg.ACT_STAT.PERMIT1 a) s ≤ 1) ∧ (get (Reg.ACT_STAT.PERMIT2 a) s ≤ 1)) ∧
    (∃ (a : Nat) (s : State), (a < 2) ∧ (get (Reg.ACT_SEEK.GO a) s = 1) ∧ (2 ≤ actState a s) ∧ (actState a s ≤ 4) ∧ (isService a s = true) ∧ (badTarget a s = true)) ∧
    (∃ (a : Nat) (s : State), (a < 2) ∧ (get (Reg.ACT_SEEK.GO a) s = 1) ∧ (2 ≤ actState a s) ∧ (actState a s ≤ 4) ∧ (isService a s = true)) ∧
    (∃ (a : Nat) (s : State), (a < 2) ∧ (1 ≤ actState a s) ∧ (actState a s ≤ 6)) ∧
    (∃ (a : Nat) (s : State), (a < 2) ∧ (actState a s = 3) ∧ (get (Reg.ACT_SETTLE.RD_N a) s ≤ (actOf a s).okRow)) ∧
    (∃ (a : Nat) (s : State), (a < 2) ∧ (actState a s = 3) ∧ (tempos (get (Reg.ACT_SETTLE.TMO_MS a) s) ≤ tmpCount s - (actOf a s).since) ∧ ((actOf a s).timeouts < 2)) ∧
    (∃ (a : Nat) (s : State), (a < 2) ∧ (actState a s = 3) ∧ (tempos (get (Reg.ACT_SETTLE.TMO_MS a) s) ≤ tmpCount s - (actOf a s).since) ∧ (2 ≤ (actOf a s).timeouts)) ∧
    (∃ (a : Nat) (s : State), (a < 2) ∧ (2 ≤ actState a s) ∧ (actState a s ≤ 4) ∧ (1 ≤ (actOf a s).missRow) ∧ (get (Reg.ACT_DEMOD_CFG.MISS_RESEEK a) s ≤ (actOf a s).missRow)) ∧
    (∃ (a : Nat) (s : State), (a < 2) ∧ (actState a s = 5) ∧ (get (Reg.ACT_DEMOD_CFG.RESEEK_FAULT a) s ≤ (actOf a s).missRow)) :=
  ⟨⟨((1 : Nat)), by decide +kernel⟩,
    ⟨((1 : Nat)), ((fun (a : Nat) => (at_ [(Reg.TMP_PHASE.K, 4), (Reg.TMP_PHASE.PHASE, 2 * a), (Reg.ACT_STAT.STATE a, 4), (Reg.ACT_SEEK.GO a, 1), (Reg.ACT_SEEK.TRACK a, 77), (Reg.ACT_MAXTRK.MAX a, 100), (Reg.ACT_HEADS.HEAD1 a, 12 * a + 3), (Reg.ACT_HEADS.HEAD2 a, 31), (Reg.ASX_RETIRED.MAP, 0), (Reg.ACT_STAT.PERMIT1 a, 1), (Reg.ACT_STAT.PERMIT2 a, 0), (Reg.ACT_SEEK.WRITE a, 1), (Reg.ASX_HSTAT.RETIRE_PEND (12 * a + 3), 0)] : State)) ((1 : Nat))), by decide +kernel⟩,
    ⟨((1 : Nat)), ((fun (a : Nat) => (at_ [(Reg.TMP_PHASE.K, 4), (Reg.TMP_PHASE.PHASE, 2 * a), (Reg.ACT_STAT.STATE a, 4), (Reg.ACT_SEEK.GO a, 1), (Reg.ACT_SEEK.TRACK a, 101), (Reg.ACT_MAXTRK.MAX a, 100)] : State)) ((1 : Nat))), by decide +kernel⟩,
    ⟨((1 : Nat)), ((fun (a : Nat) => (at_ [(Reg.TMP_PHASE.K, 4), (Reg.TMP_PHASE.PHASE, 2 * a), (Reg.ACT_STAT.STATE a, 4), (Reg.ACT_SEEK.GO a, 1), (Reg.ACT_SEEK.TRACK a, 77), (Reg.ACT_MAXTRK.MAX a, 100), (Reg.ACT_HEADS.HEAD1 a, 12 * a + 3), (Reg.ACT_HEADS.HEAD2 a, 31), (Reg.ASX_RETIRED.MAP, 0), (Reg.ACT_STAT.PERMIT1 a, 1), (Reg.ACT_SEEK.WRITE a, 1), (Reg.ASX_HSTAT.RETIRE_PEND (12 * a + 3), 0)] : State)) ((1 : Nat))), by decide +kernel⟩,
    ⟨((1 : Nat)), ((fun (a : Nat) => ({ at_ [(Reg.ACT_STAT.STATE a, 4), (Reg.HLK_STAT.UP a, 1), (Reg.HCH_STAT.RATE (2 * a), 1000)] with act := [(a, { head1 := 12 * a })] } : State)) ((1 : Nat))), by decide +kernel⟩,
    ⟨((1 : Nat)), ((fun (a : Nat) => ({ at_ [(Reg.ACT_STAT.STATE a, 3), (Reg.ACT_SETTLE.RD_N a, 3)] with act := [(a, { okRow := 3 })] } : State)) ((1 : Nat))), by decide +kernel⟩,
    ⟨((1 : Nat)), ((fun (a : Nat) => ({ at_ [(Reg.ACT_STAT.STATE a, 3), (Reg.ACT_SETTLE.TMO_MS a, 10), (Reg.TMP_COUNT_LO.COUNT, 2000)] with act := [(a, { timeouts := 1 })] } : State)) ((1 : Nat))), by decide +kernel⟩,
    ⟨((1 : Nat)), ((fun (a : Nat) => ({ at_ [(Reg.ACT_STAT.STATE a, 3), (Reg.ACT_SETTLE.TMO_MS a, 10), (Reg.TMP_COUNT_LO.COUNT, 2000)] with act := [(a, { timeouts := 2 })] } : State)) ((1 : Nat))), by decide +kernel⟩,
    ⟨((1 : Nat)), ((fun (a : Nat) => ({ at_ [(Reg.ACT_STAT.STATE a, 4), (Reg.ACT_DEMOD_CFG.MISS_RESEEK a, 4)] with act := [(a, { missRow := 4 })] } : State)) ((1 : Nat))), by decide +kernel⟩,
    ⟨((1 : Nat)), ((fun (a : Nat) => ({ at_ [(Reg.ACT_STAT.STATE a, 5), (Reg.ACT_DEMOD_CFG.RESEEK_FAULT a, 4)] with act := [(a, { missRow := 4 })] } : State)) ((1 : Nat))), by decide +kernel⟩⟩

/-- The hypotheses of ActuatorLoadsAndUnloads, clause by clause, are met. -/
theorem witness_actuator_loads_and_unloads :
    (∃ (a : Nat) (s : State), (a < 2) ∧ (actState a s = 0) ∧ (get Reg.SPN_STAT.STATE s = 7)) ∧
    (∃ (a : Nat) (s : State), (a < 2) ∧ (get Reg.SPN_STAT.STATE s ≠ 7 ∨ actState a s = 6)) ∧
    (∃ (a : Nat) (s : State), (a < 2) ∧ (actState a s ≠ 0) ∧ (actState a s ≠ 6) ∧ (get Reg.SPN_STAT.STATE s = 7)) ∧
    (∃ (a : Nat) (s : State), (a < 2) ∧ (actState a s = 1) ∧ (4 ≤ (actOf a s).validRow) ∧ ((actOf a s).goHeld = false) ∧ (get (Reg.ACT_CTL.UNLOAD a) s = 0) ∧ ((actOf a s).acqHead < 24)) ∧
    (∃ (a : Nat) (s : State), (a < 2) ∧ (actState a s = 1) ∧ (4 ≤ (actOf a s).validRow)) ∧
    (∃ (a : Nat) (s : State), (a < 2) ∧ (actState a s = 1) ∧ (tempos (10 * get (Reg.ACT_LU_CFG.LOAD_TMO a) s) ≤ tmpCount s - (actOf a s).since)) ∧
    (∃ (a : Nat) (s : State), (a < 2) ∧ (2 ≤ actState a s) ∧ (actState a s ≤ 5)) ∧
    (∃ (a : Nat) (s : State), (a < 2) ∧ (actState a s < 2 ∨ 5 < actState a s)) ∧
    (∃ (a : Nat) (s : State), (a < 2) ∧ (actState a s = 6) ∧ (2000 ≤ (actOf a s).lowRow) ∧ ((actOf a s).retry = false) ∧ ((actOf a s).faultPend = false)) ∧
    (∃ (a : Nat) (s : State), (a < 2) ∧ (actState a s = 6) ∧ (2000 ≤ (actOf a s).lowRow) ∧ ((actOf a s).retry = false) ∧ ((actOf a s).faultPend = true)) ∧
    (∃ (a : Nat) (s : State), (a < 2) ∧ (actState a s = 6) ∧ (2000 ≤ (actOf a s).lowRow) ∧ ((actOf a s).retry = true)) ∧
    (∃ (a : Nat) (s : State), (a < 2) ∧ (actState a s = 6) ∧ (tempos (10 * get (Reg.ACT_LU_CFG.UNLOAD_TMO a) s) ≤ tmpCount s - (actOf a s).since)) ∧
    (∃ (a : Nat) (s : State), (a < 2) ∧ (actState a s ≤ 6) ∧ (s.pins.pfailN = false ∨ (stgOf 0 s).safe = true ∨ ((stgOf 0 s).words.getD 2 0).testBit 7 = true)) ∧
    (∃ (a : Nat) (s : State), (a < 2) ∧ (1 ≤ actState a s) ∧ (actState a s ≤ 6) ∧ (retractSeen s = false) ∧ (engineDrives a s = false)) ∧
    (∃ (a : Nat) (s : State), (a < 2) ∧ ((7 ≤ actState a s) ∨ (retractSeen s = false ∧ (actState a s = 0 ∨ engineDrives a s = true)))) ∧
    (∃ (a : Nat) (s : State), (a < 2) ∧ (actState a s = 7) ∧ ((stgOf 0 s).retractDone = true) ∧ (s.pins.pfailN = true) ∧ ((actOf a s).faultPend = true)) ∧
    (∃ (a : Nat) (s : State), (a < 2) ∧ (actState a s = 7) ∧ ((stgOf 0 s).retractDone = true) ∧ (s.pins.pfailN = true) ∧ ((actOf a s).faultPend = false)) ∧
    (∃ (a : Nat) (s : State), (a < 2) ∧ (actState a s = 8)) ∧
    (∃ (a : Nat) (s : State), (a < 2) ∧ (actState a s ≠ 8)) ∧
    (∃ (a : Nat) (s : State), (a < 2) ∧ (get (Reg.ACT_STAT.PAIRED a) s = 1) ∧ (get (Reg.HCH_STAT.BUSY (streamOf a 2 s)) s = 0)) ∧
    (∃ (a : Nat) (s : State), (a < 2) ∧ (get (Reg.ACT_STAT.PAIRED a) s = 1) ∧ (get (Reg.HCH_STAT.BUSY (streamOf a 2 s)) s = 1)) ∧
    (∃ (a : Nat) (s : State), (a < 2) ∧ (actState a s ≠ 0) ∧ (actState a s ≠ 8) ∧ (get Reg.SPN_SPEED.SPEED s * 100 < 4 * get (Reg.ACT_UNLOAD.MIN_PCT a) s * get Reg.SPN_TARGET.RPM s)) ∧
    (∃ (a m : Nat) (s : State), (a < 2) ∧ (s.sys.pairLatch.any (fun p => p.1 == m && p.2.1 == (Reg.ACT_WUS_LOG_HI.WEDGE a).addr) = true)) ∧
    (∃ (a m : Nat) (s : State), (a < 2) ∧ (s.sys.pairLatch.any (fun p => p.1 == m && p.2.1 == (Reg.ACT_WUS_LOG_HI.WEDGE a).addr) = false)) :=
  ⟨⟨((1 : Nat)), ((fun (a : Nat) => (at_ [(Reg.ACT_STAT.STATE a, 0), (Reg.SPN_STAT.STATE, 7), (Reg.ACT_LOAD.HEAD a, 5)] : State)) ((1 : Nat))), by decide +kernel⟩,
    ⟨((1 : Nat)), ((fun (a : Nat) => (at_ [(Reg.ACT_STAT.STATE a, 6)] : State)) ((1 : Nat))), by decide +kernel⟩,
    ⟨((1 : Nat)), ((fun (a : Nat) => (at_ [(Reg.ACT_STAT.STATE a, 8), (Reg.SPN_STAT.STATE, 7)] : State)) ((1 : Nat))), by decide +kernel⟩,
    ⟨((1 : Nat)), ((fun (a : Nat) => ({ at_ [(Reg.ACT_STAT.STATE a, 1), (Reg.ACT_CTL.UNLOAD a, 0), (Reg.ACT_LOAD.HOME a, 9)] with act := [(a, { validRow := 4, acqHead := 12 * a })] } : State)) ((1 : Nat))), by decide +kernel⟩,
    ⟨((1 : Nat)), ((fun (a : Nat) => ({ at_ [(Reg.ACT_STAT.STATE a, 1), (Reg.ACT_CTL.UNLOAD a, 1), (Reg.ACT_LOAD.HOME a, 9)] with act := [(a, { validRow := 4, acqHead := 12 * a, goHeld := true })] } : State)) ((1 : Nat))), by decide +kernel⟩,
    ⟨((1 : Nat)), ((fun (a : Nat) => (at_ [(Reg.ACT_STAT.STATE a, 1), (Reg.TMP_COUNT_LO.COUNT, 10000), (Reg.ACT_LU_CFG.LOAD_TMO a, 5), (Reg.ACT_STAT.ATTEMPTS a, 2)] : State)) ((1 : Nat))), by decide +kernel⟩,
    ⟨((1 : Nat)), ((fun (a : Nat) => (at_ [(Reg.ACT_STAT.STATE a, 5)] : State)) ((1 : Nat))), by decide +kernel⟩,
    ⟨((1 : Nat)), ((fun (a : Nat) => (at_ [(Reg.ACT_STAT.STATE a, 6)] : State)) ((1 : Nat))), by decide +kernel⟩,
    ⟨((1 : Nat)), ((fun (a : Nat) => ({ at_ [(Reg.ACT_STAT.STATE a, 6)] with act := [(a, { lowRow := 2000 })] } : State)) ((1 : Nat))), by decide +kernel⟩,
    ⟨((1 : Nat)), ((fun (a : Nat) => ({ at_ [(Reg.ACT_STAT.STATE a, 6)] with act := [(a, { faultPend := true, lowRow := 2000 })] } : State)) ((1 : Nat))), by decide +kernel⟩,
    ⟨((1 : Nat)), ((fun (a : Nat) => ({ at_ [(Reg.ACT_STAT.STATE a, 6), (Reg.ACT_STAT.ATTEMPTS a, 1)] with act := [(a, { retry := true, lowRow := 2000 })] } : State)) ((1 : Nat))), by decide +kernel⟩,
    ⟨((1 : Nat)), ((fun (a : Nat) => (at_ [(Reg.ACT_STAT.STATE a, 6), (Reg.TMP_COUNT_LO.COUNT, 10000), (Reg.ACT_LU_CFG.UNLOAD_TMO a, 5)] : State)) ((1 : Nat))), by decide +kernel⟩,
    ⟨((1 : Nat)), ((fun (a : Nat) => ({ at_ [(Reg.ACT_STAT.STATE a, 4)] with stg := [(0, { safe := true })] } : State)) ((1 : Nat))), by decide +kernel⟩,
    ⟨((1 : Nat)), ((fun (a : Nat) => ({ at_ [(Reg.ACT_STAT.STATE a, 4)] with ce := [(a, { failed := true })] } : State)) ((1 : Nat))), by decide +kernel⟩,
    ⟨((1 : Nat)), ((fun (a : Nat) => (at_ [(Reg.ACT_STAT.STATE a, 8)] : State)) ((1 : Nat))), by decide +kernel⟩,
    ⟨((1 : Nat)), ((fun (a : Nat) => ({ at_ [(Reg.ACT_STAT.STATE a, 7)] with act := [(a, { faultPend := true })], stg := [(0, { retractDone := true })] } : State)) ((1 : Nat))), by decide +kernel⟩,
    ⟨((1 : Nat)), ((fun (a : Nat) => ({ at_ [(Reg.ACT_STAT.STATE a, 7)] with stg := [(0, { retractDone := true })] } : State)) ((1 : Nat))), by decide +kernel⟩,
    ⟨((1 : Nat)), ((fun (a : Nat) => (at_ [(Reg.ACT_STAT.STATE a, 8)] : State)) ((1 : Nat))), by decide +kernel⟩,
    ⟨((1 : Nat)), ((fun (a : Nat) => (at_ [(Reg.ACT_STAT.STATE a, 3)] : State)) ((1 : Nat))), by decide +kernel⟩,
    ⟨((1 : Nat)), ((fun (a : Nat) => (at_ [(Reg.ACT_STAT.PAIRED a, 1), (Reg.ACT_PAIR_CFG.HOLDOFF a, 7), (Reg.HCH_STAT.BUSY (2 * a + 1), 0), (Reg.HCH_SPARE.SEL, 7)] : State)) ((1 : Nat))), by decide +kernel⟩,
    ⟨((1 : Nat)), ((fun (a : Nat) => (at_ [(Reg.ACT_STAT.PAIRED a, 1), (Reg.HCH_STAT.BUSY (2 * a + 1), 1), (Reg.HCH_SPARE.SEL, 7)] : State)) ((1 : Nat))), by decide +kernel⟩,
    ⟨((1 : Nat)), ((fun (a : Nat) => (at_ [(Reg.ACT_STAT.STATE a, 4), (Reg.ACT_STAT.LOADED a, 1), (Reg.SPN_SPEED.SPEED, 5), (Reg.ACT_UNLOAD.MIN_PCT a, 50), (Reg.SPN_TARGET.RPM, 7500)] : State)) ((1 : Nat))), by decide +kernel⟩,
    ⟨((1 : Nat)), ((3 : Nat)), ((fun (a : Nat) => ({ at_ [] with sys := { pairLatch := [(3, (Reg.ACT_WUS_LOG_HI.WEDGE a).addr, 5)] }, act := [(a, { log := [⟨1, 2, 3, 0, 4, false⟩, ⟨2, 3, 4, 1, 5, true⟩] })] } : State)) ((1 : Nat))), by decide +kernel⟩,
    ⟨((1 : Nat)), ((3 : Nat)), ((fun (a : Nat) => ({ at_ [] with act := [(a, { log := [⟨1, 2, 3, 0, 4, false⟩] })] } : State)) ((1 : Nat))), by decide +kernel⟩⟩

/-- The hypotheses of AssistStatesAndAging, clause by clause, are met. -/
theorem witness_assist_states_and_aging :
    (∃ (x : Nat) (s : State), (x < 24) ∧ (asxState x s = 2) ∧ (get Reg.ASX_PB.SETTLE s < (asxOf x s).tempos)) ∧
    (∃ (x : Nat) (s : State), (x < 24) ∧ (asxState x s = 4) ∧ (get Reg.ASX_PB.REQUAL s ≤ (asxOf x s).tempos)) ∧
    (∃ (x : Nat) (s : State), (x < 24) ∧ (1 ≤ asxState x s) ∧ (asxState x s ≤ 4) ∧ (get Reg.ASX_HOP_CFG.STORM s < (recentHops x s).length)) ∧
    (∃ (x k : Nat) (s : State), (x < 24) ∧ (1 ≤ k) ∧ (k ≤ 5) ∧ (1 ≤ asxState x s) ∧ (asxState x s ≤ 4) ∧ (tripCause x k s = true)) ∧
    (∃ (x : Nat) (s : State), (x < 24) ∧ (asxState x s = 5)) ∧
    (∃ (x : Nat), (x < 24)) ∧
    (∃ (x : Nat), (x < 24)) ∧
    (∃ (x : Nat), (x < 24)) ∧
    (∃ (x : Nat) (s : State), (x < 24) ∧ (get (Reg.ASX_HSTAT.RETIRE_PEND x) s ≠ 0) ∧ (headInUse x s = false)) ∧
    (∃ (x : Nat) (s : State), (x < 24) ∧ (get (Reg.ASX_HSTAT.RETIRE_PEND x) s = 0 ∨ headInUse x s = true)) ∧
    (∃ (x : Nat), (x < 24)) ∧
    (∃ (x : Nat) (s : State), (x < 24) ∧ ((asxOf x s).ended = true) ∧ ((asxOf x s).inEpisode = false) ∧ (64 ≤ (asxOf x s).episode) ∧ (get (Reg.ASX_IOP0.IOP0 x) s ≠ 0)) ∧
    (∃ (x : Nat) (s : State), (x < 24) ∧ ((asxOf x s).ended = true) ∧ (64 ≤ (asxOf x s).episode) ∧ (get (Reg.ASX_IOP0.IOP0 x) s ≠ 0)) ∧
    (∃ (x : Nat) (s : State), (x < 24) ∧ ((asxOf x s).ended = true) ∧ (64 ≤ (asxOf x s).episode) ∧ (get (Reg.ASX_IOP0.IOP0 x) s = 0)) :=
  ⟨⟨((23 : Nat)), ((fun (x : Nat) => ({ at_ [(Reg.ASX_HSTAT.STATE x, 2), (Reg.ASX_PB.SETTLE, 4), (Reg.ASX_HCTL.FORCE_OFF x, 0)] with asx := [(x, { tempos := 5 })] } : State)) ((23 : Nat))), by decide +kernel⟩,
    ⟨((23 : Nat)), ((fun (x : Nat) => ({ at_ [(Reg.ASX_HSTAT.STATE x, 4), (Reg.ASX_PB.REQUAL, 4), (Reg.ASX_HCTL.FORCE_OFF x, 1)] with asx := [(x, { tempos := 4 })] } : State)) ((23 : Nat))), by decide +kernel⟩,
    ⟨((23 : Nat)), ((fun (x : Nat) => ({ at_ [(Reg.ASX_HSTAT.STATE x, 3), (Reg.ASX_HOP_CFG.STORM, 1)] with asx := [(x, { hopAt := [4, 5] })] } : State)) ((23 : Nat))), by decide +kernel⟩,
    ⟨((23 : Nat)), ((2 : Nat)), ((fun (x : Nat) => ({ at_ [(Reg.ASX_HSTAT.STATE x, 1)] with asx := [(x, { contact := true, omRow := 3, sourceFault := true })] } : State)) ((23 : Nat))), by decide +kernel⟩,
    ⟨((23 : Nat)), ((fun (x : Nat) => ({ at_ [(Reg.ASX_HSTAT.STATE x, 5)] with asx := [(x, { backoff := true })] } : State)) ((23 : Nat))), by decide +kernel⟩,
    ⟨((23 : Nat)), by decide +kernel⟩,
    ⟨((23 : Nat)), by decide +kernel⟩,
    ⟨((23 : Nat)), by decide +kernel⟩,
    ⟨((23 : Nat)), ((fun (x : Nat) => (at_ [(Reg.ASX_HSTAT.STATE x, 1), (Reg.ASX_HSTAT.RETIRE_PEND x, 1), (Reg.ACT_STAT.LOADED 0, 0), (Reg.ACT_STAT.LOADED 1, 0), (Reg.ASX_RETIRED.MAP, 2)] : State)) ((23 : Nat))), by decide +kernel⟩,
    ⟨((23 : Nat)), ((fun (x : Nat) => (at_ [(Reg.ASX_HSTAT.RETIRE_PEND x, 0)] : State)) ((23 : Nat))), by decide +kernel⟩,
    ⟨((23 : Nat)), by decide +kernel⟩,
    ⟨((23 : Nat)), ((fun (x : Nat) => ({ at_ [(Reg.ASX_IOP0.IOP0 x, 100), (Reg.ASX_IOP.IOP_AVG x, 0)] with asx := [(x, { ended := true, episode := 64, lastI := 60000 })] } : State)) ((23 : Nat))), by decide +kernel⟩,
    ⟨((23 : Nat)), ((fun (x : Nat) => ({ at_ [(Reg.ASX_IOP0.IOP0 x, 100), (Reg.ASX_IOP.IOP_AVG x, 0)] with asx := [(x, { ended := true, episode := 64, lastI := 60000 })] } : State)) ((23 : Nat))), by decide +kernel⟩,
    ⟨((23 : Nat)), ((fun (x : Nat) => ({ at_ [(Reg.ASX_IOP0.IOP0 x, 0)] with asx := [(x, { ended := true, episode := 64 })] } : State)) ((23 : Nat))), by decide +kernel⟩⟩

/-- The hypotheses of HeadLinksCarryFramesAndLanes, clause by clause, are met. -/
theorem witness_head_links_carry_frames_and_lanes :
    (∃ (l : Nat) (s : State), (l < 2) ∧ (mayTrain l s = true)) ∧
    (∃ (l : Nat) (b : List Nat) (d : Bool) (s : State), (l < 2) ∧ (linkRuns l s = true) ∧ (d = false) ∧ (frameGood (frameBlocks b) = true)) ∧
    (∃ (l : Nat) (d : Bool) (s : State), (l < 2) ∧ (linkRuns l s = true) ∧ (d = true)) ∧
    (∃ (l : Nat) (b : List Nat) (d : Bool) (s : State), (l < 2) ∧ (linkRuns l s = true) ∧ (d = false) ∧ (frameGood (frameBlocks b) = false)) ∧
    (∃ (l p x q : Nat) (s : State), (l < 2) ∧ (p < 3) ∧ (domOn (10 + l) s = true) ∧ (x % 4 = 1) ∧ (q = (blockOn p x (hlkOf l s)).2) ∧ (q / 2 ^ 60 % 2 = 0) ∧ (get (Reg.HLK_STAT.UP l) s = 1) ∧ (get (Reg.HLK_STAT.SINGLE l) s = 1) ∧ ((get (Reg.HLK_STAT.LOCK l) s).testBit p = true) ∧ (get (Reg.HLK_STAT.LOG0 l) s = p)) ∧
    (∃ (l p : Nat) (s : State), (l < 3) ∧ (p < (if l = 2 then 1 else 3)) ∧ (domOn (10 + l) s = true)) ∧
    (∃ (l p : Nat) (s : State), (l < 2) ∧ (p < 3) ∧ (get (Reg.HLK_STAT.UP l) s = 1) ∧ (laneBad l p s = true) ∧ (laneActive l p s = true) ∧ (spareReady l s = true) ∧ (get (Reg.HLK_CTL.AUTO_PROMO l) s = 1) ∧ ((hlkOf l s).switch = none)) ∧
    (∃ (l p : Nat) (s : State), (l < 2) ∧ (p < 3) ∧ (get (Reg.HLK_STAT.UP l) s = 1) ∧ (get (Reg.HLK_STAT.SINGLE l) s = 0) ∧ (laneBad l p s = true) ∧ (laneActive l p s = true) ∧ (spareReady l s = false ∨ get (Reg.HLK_CTL.AUTO_PROMO l) s = 0) ∧ ((hlkOf l s).switch = none)) ∧
    (∃ (l : Nat) (b : Bool) (s : State), (l < 2) ∧ (domOn (10 + l) s = true) ∧ (linkRuns l s = true) ∧ ((hlkOf l s).faulted = false) ∧ (linkFaulty l b s = true)) ∧
    (∃ (l : Nat) (b : Bool) (s : State), (l < 2) ∧ (domOn (10 + l) s = true) ∧ (linkRuns l s = false ∨ (hlkOf l s).faulted = true ∨ linkFaulty l b s = false)) :=
  ⟨⟨((1 : Nat)), ((fun (l : Nat) => ({ at_ [(Reg.HLK_CTL.EN l, 1)] with hlk := [(l, { retrain := true })] } : State)) ((1 : Nat))), by decide +kernel⟩,
    ⟨((1 : Nat)), (([0x92D, 0x33, 0x133, 0x66, blkCrc [0x92D, 0x33, 0x133, 0x66]] : List Nat)), ((false : Bool)), ((fun (l : Nat) => (at_ [(Reg.HLK_CTL.EN l, 1)] : State)) ((1 : Nat))), by decide +kernel⟩,
    ⟨((1 : Nat)), ((true : Bool)), ((fun (l : Nat) => (at_ [(Reg.HLK_CTL.EN l, 1)] : State)) ((1 : Nat))), by decide +kernel⟩,
    ⟨((1 : Nat)), (([0x92D, 0x33, 0x133, 0x66, 0x3C] : List Nat)), ((false : Bool)), ((fun (l : Nat) => (at_ [(Reg.HLK_CTL.EN l, 1)] : State)) ((1 : Nat))), by decide +kernel⟩,
    ⟨((1 : Nat)), ((1 : Nat)), ((2 ^ 65 + 1 : Nat)), (((blockOn 1 (2 ^ 65 + 1) {}).2 : Nat)), ((fun (l : Nat) => ({ at_ [(Reg.PMU_DOM_STAT.ON, 0xFFFFFF), (Reg.HLK_STAT.UP l, 1), (Reg.HLK_STAT.SINGLE l, 1), (Reg.HLK_STAT.LOCK l, 2), (Reg.HLK_STAT.LOG0 l, 1)] with hlk := [(l, { seq := [some 1, none] })] } : State)) ((1 : Nat))), by decide +kernel⟩,
    ⟨((2 : Nat)), ((0 : Nat)), ({ at_ [(Reg.PMU_DOM_STAT.ON, 0xFFFFFF), (Reg.OLK_STAT.RX_LOCK, 1), (Reg.HLK_STAT.LOCK 0, 7), (Reg.HLK_STAT.UP 0, 1), (Reg.HLK_STAT.LOG0 0, 0), (Reg.HLK_STAT.LOG1 0, 2)] with olk := { lanes := [{ badRow := 63 }] }, hlk := [(0, { lanes := [{ badRow := 63 }, {}, { badRow := 63 }] })] } : State), by decide +kernel⟩,
    ⟨((1 : Nat)), ((0 : Nat)), ((fun (l : Nat) (p : Nat) => (at_ [(Reg.HLK_STAT.UP l, 1), (Reg.HLK_STAT.LOG0 l, 0), (Reg.HLK_STAT.LOG1 l, 1), (Reg.HLK_STAT.SINGLE l, 0), (Reg.HLK_STAT.LOCK l, 7 - 2 ^ p), (Reg.HLK_PROMO.ERR_THR l, 4), (Reg.HLK_CTL.AUTO_PROMO l, 1)] : State)) ((1 : Nat)) ((0 : Nat))), by decide +kernel⟩,
    ⟨((1 : Nat)), ((1 : Nat)), ((fun (l : Nat) (p : Nat) => (at_ [(Reg.HLK_STAT.UP l, 1), (Reg.HLK_STAT.LOG0 l, 0), (Reg.HLK_STAT.LOG1 l, 1), (Reg.HLK_STAT.SINGLE l, 0), (Reg.HLK_STAT.LOCK l, 7 - 2 ^ p), (Reg.HLK_PROMO.ERR_THR l, 4), (Reg.HLK_CTL.AUTO_PROMO l, 0), (Reg.ACT_STAT.PAIRED l, 1)] : State)) ((1 : Nat)) ((1 : Nat))), by decide +kernel⟩,
    ⟨((1 : Nat)), ((false : Bool)), ((fun (l : Nat) => (at_ [(Reg.PMU_DOM_STAT.ON, 0xFFFFFF), (Reg.HLK_CTL.EN l, 1), (Reg.HLK_STAT.UP l, 1), (Reg.HLK_STAT.MISS l, 3), (Reg.HCH_STAT.BUSY (2 * l), 1)] : State)) ((1 : Nat))), by decide +kernel⟩,
    ⟨((1 : Nat)), ((true : Bool)), ((fun (l : Nat) => (at_ [(Reg.PMU_DOM_STAT.ON, 0xFFFFFF), (Reg.HLK_STAT.UP l, 1)] : State)) ((1 : Nat))), by decide +kernel⟩⟩

/-- The hypotheses of StreamsWriteAndDecode, clause by clause, are met. -/
theorem witness_streams_write_and_decode :
    (∃ (n z p : Nat) (b : Bool) (s : State), (n < 5) ∧ (mayHand n z p s = true) ∧ (mayWrite n s = false) ∧ (parityDue z s = false) ∧ (b = true) ∧ (servedBy n s = none)) ∧
    (∃ (n z p : Nat) (b : Bool) (s : State), (n < 5) ∧ (mayHand n z p s = true) ∧ (mayWrite n s = true) ∧ (b = true) ∧ (stopsHere n s = false) ∧ ((zoneOf z s).state = 0) ∧ (s.zmg.finish.contains (z, p) = false)) ∧
    (∃ (n z p : Nat) (b : Bool) (s : State), (n < 5) ∧ (mayHand n z p s = true) ∧ (mayWrite n s = true) ∧ (b = true) ∧ (p < 65535) ∧ (stopsHere n s = false) ∧ ((zoneOf z s).state ≠ 0) ∧ (parityDue z s = false)) ∧
    (∃ (n z p : Nat) (s : State), (n < 5) ∧ (mayHand n z p s = true) ∧ (mayWrite n s = true) ∧ (parityDue z s = true) ∧ (s.zmg.finish.contains (z, p) = true ∨ 65536 ≤ p) ∧ (servedBy n s = some (0, 1)) ∧ (stopsHere n s = false)) ∧
    (∃ (n z p : Nat) (s : State), (n < 5) ∧ (mayHand n z p s = true)) ∧
    (∃ (n z i : Nat) (f : Bool) (o : SectorObs) (d : Decoded) (s : State), (n < 5) ∧ (streamRuns n s = true) ∧ (get (Reg.HCH_STAT.WRITING n) s = 0) ∧ ((hchOf n s).missing = false) ∧ (passVerdict n 0 z i o s = .ok d f)) ∧
    (∃ (n : Nat) (s : State), (n < 5) ∧ (streamRuns n s = true) ∧ (get (Reg.HCH_STAT.WRITING n) s = 0)) ∧
    (∃ (n : Nat) (q : Nat × Nat) (l : List Reread) (s : State), (n < 5) ∧ ((hchOf n s).ladder = some q) ∧ ((climb n q.1 q.2 (budgetOf n s) s (planOf n s) 0 0 l).isSome = true)) ∧
    (∃ (n : Nat) (q : Nat × Nat) (l : List Reread) (s : State), (n < 5) ∧ ((hchOf n s).ladder = some q) ∧ (climb n q.1 q.2 (budgetOf n s) s (planOf n s) 0 0 l = none)) ∧
    (∃ (n : Nat) (s : State), (n < 5) ∧ (streamRuns n s = true)) ∧
    (∃ (n : Nat) (s : State), (n < 5) ∧ (get (Reg.HCH_STAT.CONV n) s = 1) ∧ ((hchOf n s).adapt.taps.length = 16) ∧ ((hchOf n s).adapt.target.length = 5)) ∧
    (∃ (n : Nat) (b : Bool) (s : State), (n < 5) ∧ (b = true ∨ (hchOf n s).failReq = true) ∧ (get (Reg.HCH_STAT.FAILED n) s ≠ 1)) ∧
    (∃ (n : Nat) (b : Bool) (s : State), (n < 5) ∧ (b = true ∨ (hchOf n s).failReq = true) ∧ (get (Reg.HCH_STAT.FAILED n) s = 1)) ∧
    (∃ (n : Nat) (s : State), (n < 5) ∧ (get Reg.HCH_TP_CTL.BUSY s = 0)) ∧
    (∃ (n : Nat) (s : State), (n < 5) ∧ (get Reg.HCH_TP_CTL.BUSY s = 0)) ∧
    (∃ (n : Nat), (n < 5)) ∧
    (∃ (n : Nat) (s : State), (n < 5) ∧ (s.tp = .save n)) ∧
    (∃ (n : Nat) (s : State), (n < 5) ∧ (s.tp = .load n)) :=
  ⟨⟨((3 : Nat)), ((0 : Nat)), ((0 : Nat)), ((true : Bool)), ((fun (n : Nat) => (at_ [(Reg.SYS_MODE.CUR, 3), (Reg.HCH_CTL.EN n, 1), (Reg.HCH_STAT.FAILED n, 0), (Reg.ZMG_CTL.EN, 1), (Reg.HCH_SPARE.SEL, n)] : State)) ((3 : Nat))), by decide +kernel⟩,
    ⟨((1 : Nat)), ((0 : Nat)), ((0 : Nat)), ((true : Bool)), ((fun (n : Nat) => ({ at_ [(Reg.SYS_MODE.CUR, 3), (Reg.HCH_CTL.EN n, 1), (Reg.HCH_STAT.FAILED n, 0), (Reg.ZMG_CTL.EN, 1), (Reg.HCH_SPARE.SEL, 7), (Reg.ACT_STAT.PERMIT1 0, 1), (Reg.ACT_STAT.PERMIT2 0, 1)] with act := [(0, { head1 := 0, head2 := 1 })] } : State)) ((1 : Nat))), by decide +kernel⟩,
    ⟨((1 : Nat)), ((2 : Nat)), ((30 : Nat)), ((true : Bool)), ((fun (n : Nat) (z : Nat) => ({ setZone z { state := 2, media := 30, group := 30, ns := 1 } (at_ [(Reg.SYS_MODE.CUR, 3), (Reg.HCH_CTL.EN n, 1), (Reg.HCH_STAT.FAILED n, 0), (Reg.ZMG_ZTBL_HI.ADDR, 16), (Reg.ZMG_CTL.EN, 1), (Reg.HCH_SPARE.SEL, 7), (Reg.ACT_STAT.PERMIT1 0, 1), (Reg.ACT_STAT.PERMIT2 0, 1)]) with act := [(0, { head1 := 0, head2 := 1 })] } : State)) ((1 : Nat)) ((2 : Nat))), by decide +kernel⟩,
    ⟨((0 : Nat)), ((2 : Nat)), ((30 : Nat)), ((fun (n : Nat) (z : Nat) => ({ setZone z { state := 2, media := 30, group := 30, ns := 1 } { at_ [(Reg.SYS_MODE.CUR, 3), (Reg.HCH_CTL.EN n, 1), (Reg.HCH_STAT.FAILED n, 0), (Reg.ZMG_ZTBL_HI.ADDR, 16), (Reg.ZMG_CTL.EN, 1), (Reg.HCH_SPARE.SEL, 7), (Reg.ACT_STAT.PERMIT1 0, 1), (Reg.ACT_STAT.PERMIT2 0, 1)] with zmg := { finish := [(2, 30)] } } with act := [(0, { head1 := 0, head2 := 1 })] } : State)) ((0 : Nat)) ((2 : Nat))), by decide +kernel⟩,
    ⟨((3 : Nat)), ((0 : Nat)), ((0 : Nat)), ((fun (n : Nat) => ({ setZone 0 { state := 2, media := 0, ns := 1 } (at_ [(Reg.SYS_MODE.CUR, 3), (Reg.HCH_CTL.EN n, 1), (Reg.HCH_STAT.FAILED n, 0), (Reg.ZMG_CTL.EN, 1), (Reg.ZMG_ZTBL_HI.ADDR, 16), (Reg.HCH_SPARE.SEL, 7), (Reg.ACT_STAT.PERMIT1 0, 1)]) with act := [(0, { head1 := 0, head2 := 1 })] } : State)) ((3 : Nat))), by decide +kernel⟩,
    ⟨((3 : Nat)), ((5 : Nat)), ((6 : Nat)), ((false : Bool)), (({ sm1 := 0xE638F95C0000, sm2 := 0, rs := [], env := [], lost := [], lms := [], freq := 3, mse := 9, decodes := [(⟨some 0, 0, [], [], 12⟩, { syndrome := true, info := ofBytes (sectorBytes 5 6 7 0 8) }), (⟨some 0, 0, [], [], 50⟩, { syndrome := true, info := ofBytes (sectorBytes 5 6 7 0 8) })] } : SectorObs)), (({ syndrome := true, info := ofBytes (sectorBytes 5 6 7 0 8) } : Decoded)), ((fun (n : Nat) => (at_ [(Reg.SYS_MODE.CUR, 3), (Reg.HCH_CTL.EN n, 1), (Reg.HCH_STAT.FAILED n, 0), (Reg.HCH_STAT.WRITING n, 0), (Reg.HCH_SM_CFG.TOL, 2), (Reg.HCH_LDPC_CFG.ITER_INLINE, 12)] : State)) ((3 : Nat))), by decide +kernel⟩,
    ⟨((3 : Nat)), ((fun (n : Nat) => (at_ [(Reg.SYS_MODE.CUR, 3), (Reg.HCH_CTL.EN n, 1), (Reg.HCH_STAT.FAILED n, 0), (Reg.HCH_STAT.WRITING n, 0), (Reg.HCH_SM_CFG.TOL, 2)] : State)) ((3 : Nat))), by decide +kernel⟩,
    ⟨((3 : Nat)), (((5, 6) : Nat × Nat)), (([.pass { sm1 := 0xE638F95C0000, sm2 := 0, rs := [], env := [], lost := [], lms := [], freq := 3, mse := 9, decodes := [(⟨some 0, 0, [], [], 12⟩, ⟨false, 0⟩), (⟨some 0, 0, [], [], 50⟩, ⟨false, 0⟩)] }, .pass { sm1 := 0xE638F95C0000, sm2 := 0, rs := [], env := [], lost := [], lms := [], freq := 3, mse := 9, decodes := [(⟨some 0, 0, [], [], 12⟩, { syndrome := true, info := ofBytes (sectorBytes 5 6 7 0 8) }), (⟨some 0, 0, [], [], 50⟩, { syndrome := true, info := ofBytes (sectorBytes 5 6 7 0 8) })] }] : List Reread)), ((fun (n : Nat) (q : Nat × Nat) => ({ at_ [(Reg.HCH_RETRY_CFG.STEP_EN, 3), (Reg.HCH_RETRY_CFG.REVS, 9), (Reg.HCH_STAT.COLD n, 0), (Reg.HCH_SM_CFG.TOL, 2), (Reg.HCH_LDPC_CFG.ITER_RETRY, 50)] with hch := [(n, { ladder := some q })] } : State)) ((3 : Nat)) (((5, 6) : Nat × Nat))), by decide +kernel⟩,
    ⟨((3 : Nat)), (((5, 6) : Nat × Nat)), (([] : List Reread)), ((fun (n : Nat) (q : Nat × Nat) => ({ at_ [(Reg.HCH_RETRY_CFG.STEP_EN, 3), (Reg.HCH_RETRY_CFG.REVS, 9)] with hch := [(n, { ladder := some q })] } : State)) ((3 : Nat)) (((5, 6) : Nat × Nat))), by decide +kernel⟩,
    ⟨((3 : Nat)), ((fun (n : Nat) => (at_ [(Reg.SYS_MODE.CUR, 3), (Reg.HCH_CTL.EN n, 1), (Reg.HCH_STAT.FAILED n, 0)] : State)) ((3 : Nat))), by decide +kernel⟩,
    ⟨((3 : Nat)), ((fun (n : Nat) => ({ at_ [(Reg.HCH_STAT.CONV n, 1)] with hch := [(n, { adapt := adaptOf [] })] } : State)) ((3 : Nat))), by decide +kernel⟩,
    ⟨((3 : Nat)), ((true : Bool)), ((fun (n : Nat) => (at_ [(Reg.HCH_STAT.FAILED n, 0), (Reg.HCH_STAT.BUSY n, 1), (Reg.HCH_SPARE.SEL, 7), (Reg.HCH_SPARE.AUTO, 1)] : State)) ((3 : Nat))), by decide +kernel⟩,
    ⟨((3 : Nat)), ((true : Bool)), ((fun (n : Nat) => (at_ [(Reg.HCH_STAT.FAILED n, 1)] : State)) ((3 : Nat))), by decide +kernel⟩,
    ⟨((3 : Nat)), (at_ [(Reg.HCH_TP_CTL.BUSY, 0)] : State), by decide +kernel⟩,
    ⟨((3 : Nat)), (at_ [(Reg.HCH_TP_CTL.BUSY, 0)] : State), by decide +kernel⟩,
    ⟨((3 : Nat)), by decide +kernel⟩,
    ⟨((3 : Nat)), ((fun (n : Nat) => ({ at_ [(Reg.HCH_TP_CTL.BUSY, 1)] with tp := .save n, hch := [(n, { acc := 5 * 2 ^ 33000 + 77, accN := 3 })] } : State)) ((3 : Nat))), by decide +kernel⟩,
    ⟨((3 : Nat)), ((fun (n : Nat) => ({ at_ [(Reg.HCH_TP_CTL.BUSY, 1), (Reg.HCH_TP_CTL.COUNT, 3)] with tp := .load n, mem := [(tpWindow 3 + 5, 9)] } : State)) ((3 : Nat))), by decide +kernel⟩⟩

/-- The hypotheses of ZoneCommandsMoveTheZoneStates, clause by clause, are met. -/
theorem witness_zone_commands_move_the_zone_states :
    (∃ (n : Nat), (n < 64)) ∧
    (∃ (n k : Nat) (b : Bool) (s : State), (n < 64) ∧ (k % 8 = 0) ∧ (b = false) ∧ (nsIdle n s = true) ∧ (k / 8 % 2 = 0) ∧ (nsHeld n s = false)) ∧
    (∃ (n k : Nat) (b : Bool) (s : State), (n < 64) ∧ (k % 8 ≠ 0) ∧ (b = false) ∧ (nsIdle n s = true) ∧ (typeOk (k % 8) s = true) ∧ (lbafOk (k % 8) (k / 8 % 2) = true) ∧ (nsHeld n s = false)) ∧
    (∃ (n k y : Nat) (b : Bool) (s : State), (n < 64) ∧ (y = (if b = true then nsType n s else k % 8)) ∧ (nsIdle n s = true) ∧ (typeOk y s = true) ∧ (lbafOk y (k / 8 % 2) = true) ∧ (nsHeld n s = false)) ∧
    (∃ (n : Nat) (c : Ctx) (a k : Nat) (b : Bool) (s : State), (ctxOf n s = some c) ∧ (c.started = true) ∧ (tableWaits c.cmd.ns s = false) ∧ (c.cmd.op = .write a k b) ∧ (nsType c.cmd.ns s = 2 ∨ nsType c.cmd.ns s = 4) ∧ (c.checked = false) ∧ (zoneAhead c s = false) ∧ ((zoneOf (ctxZone c s) s).state = 1 ∨ (zoneOf (ctxZone c s) s).state = 2) ∧ (writeBlocked (ctxZone c s) (a % 65536) k s = none)) ∧
    (∃ (n : Nat) (c : Ctx) (a k : Nat) (b : Bool) (s : State), (ctxOf n s = some c) ∧ (c.started = true) ∧ (tableWaits c.cmd.ns s = false) ∧ (c.cmd.op = .write a k b) ∧ (nsType c.cmd.ns s = 2 ∨ nsType c.cmd.ns s = 4) ∧ (c.checked = false) ∧ (zoneAhead c s = false) ∧ (writeBlocked (ctxZone c s) (a % 65536) k s = some .zoneInvalidWrite)) ∧
    (∃ (n : Nat) (c : Ctx) (a k : Nat) (b : Bool) (x : Status) (s : State), (ctxOf n s = some c) ∧ (c.started = true) ∧ (tableWaits c.cmd.ns s = false) ∧ (c.cmd.op = .write a k b) ∧ (nsType c.cmd.ns s = 2 ∨ nsType c.cmd.ns s = 4) ∧ (c.checked = false) ∧ (zoneAhead c s = false) ∧ (writeBlocked (ctxZone c s) (a % 65536) k s = some x)) ∧
    (∃ (n : Nat) (c : Ctx) (a k : Nat) (b : Bool) (s : State), (ctxOf n s = some c) ∧ (c.started = true) ∧ (tableWaits c.cmd.ns s = false) ∧ (c.cmd.op = .write a k b) ∧ (nsType c.cmd.ns s = 2 ∨ nsType c.cmd.ns s = 4) ∧ (c.checked = false) ∧ (zoneAhead c s = false) ∧ (writeBlocked (ctxZone c s) (a % 65536) k s = none) ∧ (c.stamp = n)) ∧
    (∃ (n : Nat) (c : Ctx) (q k : Nat) (b : Bool) (s : State), (ctxOf n s = some c) ∧ (c.started = true) ∧ (tableWaits c.cmd.ns s = false) ∧ (c.cmd.op = .append q k b) ∧ (nsType c.cmd.ns s = 2 ∨ nsType c.cmd.ns s = 4) ∧ (k ≤ 256) ∧ (c.checked = false) ∧ (zoneAhead c s = false) ∧ (writeBlocked (ctxZone c s) (zoneOf (ctxZone c s) s).host k s = none)) ∧
    (∃ (n : Nat) (c : Ctx) (q k : Nat) (b : Bool) (s : State), (ctxOf n s = some c) ∧ (c.started = true) ∧ (tableWaits c.cmd.ns s = false) ∧ (c.cmd.op = .append q k b) ∧ (nsType c.cmd.ns s = 2 ∨ nsType c.cmd.ns s = 4) ∧ (k ≤ 256) ∧ (c.checked = false) ∧ (zoneAhead c s = false) ∧ (writeBlocked (ctxZone c s) (zoneOf (ctxZone c s) s).host k s = none) ∧ (c.stamp = n)) ∧
    (∃ (n : Nat) (c : Ctx) (q k : Nat) (b : Bool) (x : Status) (s : State), (ctxOf n s = some c) ∧ (c.started = true) ∧ (tableWaits c.cmd.ns s = false) ∧ (c.cmd.op = .append q k b) ∧ (nsType c.cmd.ns s = 2 ∨ nsType c.cmd.ns s = 4) ∧ (k ≤ 256) ∧ (c.checked = false) ∧ (zoneAhead c s = false) ∧ (writeBlocked (ctxZone c s) (zoneOf (ctxZone c s) s).host k s = some x)) ∧
    (∃ (n : Nat) (c : Ctx) (q k : Nat) (b : Bool) (s : State), (ctxOf n s = some c) ∧ (c.started = true) ∧ (tableWaits c.cmd.ns s = false) ∧ (c.cmd.op = .append q k b) ∧ (nsType c.cmd.ns s = 1 ∨ nsType c.cmd.ns s = 3 ∨ 256 < k) ∧ (c.checked = false) ∧ (zoneAhead c s = false)) ∧
    (∃ (n : Nat) (c : Ctx) (q : Nat) (s : State), (ctxOf n s = some c) ∧ (c.started = true) ∧ (tableWaits c.cmd.ns s = false) ∧ (c.cmd.op = .zoneReset q) ∧ (nsType c.cmd.ns s = 2 ∨ nsType c.cmd.ns s = 4) ∧ (zoneBusy c s = false) ∧ ((zoneOf (ctxZone c s) s).state ≠ 13) ∧ ((zoneOf (ctxZone c s) s).state ≠ 15) ∧ (held (ctxZone c s) s = false) ∧ (c.stamp = n)) ∧
    (∃ (n : Nat) (c : Ctx) (q : Nat) (s : State), (ctxOf n s = some c) ∧ (c.started = true) ∧ (tableWaits c.cmd.ns s = false) ∧ (c.cmd.op = .zoneReset q) ∧ (nsType c.cmd.ns s ≠ 2 ∧ nsType c.cmd.ns s ≠ 4) ∧ (zoneBusy c s = false) ∧ (c.stamp = n)) ∧
    (∃ (n : Nat) (c : Ctx) (q : Nat) (s : State), (ctxOf n s = some c) ∧ (c.started = true) ∧ (tableWaits c.cmd.ns s = false) ∧ (c.cmd.op = .zoneReset q) ∧ (nsType c.cmd.ns s = 2 ∨ nsType c.cmd.ns s = 4) ∧ (zoneBusy c s = false) ∧ ((zoneOf (ctxZone c s) s).state = 13 ∨ (zoneOf (ctxZone c s) s).state = 15) ∧ (c.stamp = n)) ∧
    (∃ (n : Nat) (c : Ctx) (q : Nat) (s : State), (ctxOf n s = some c) ∧ (c.started = true) ∧ (tableWaits c.cmd.ns s = false) ∧ (c.cmd.op = .zoneReset q) ∧ (nsType c.cmd.ns s = 2 ∨ nsType c.cmd.ns s = 4) ∧ (zoneBusy c s = false) ∧ ((zoneOf (ctxZone c s) s).state ≠ 13) ∧ ((zoneOf (ctxZone c s) s).state ≠ 15) ∧ (held (ctxZone c s) s = true) ∧ (c.stamp = n)) ∧
    (∃ (n : Nat) (c : Ctx) (q : Nat) (s : State), (ctxOf n s = some c) ∧ (c.started = true) ∧ (tableWaits c.cmd.ns s = false) ∧ (c.cmd.op = .zoneFinish q) ∧ (nsType c.cmd.ns s = 2 ∨ nsType c.cmd.ns s = 4) ∧ (zoneBusy c s = false) ∧ ((zoneOf (ctxZone c s) s).state ≠ 13) ∧ ((zoneOf (ctxZone c s) s).state ≠ 15) ∧ (c.stamp = n)) ∧
    (∃ (n : Nat) (c : Ctx) (q : Nat) (s : State), (ctxOf n s = some c) ∧ (c.started = true) ∧ (tableWaits c.cmd.ns s = false) ∧ (c.cmd.op = .zoneFinish q) ∧ (nsType c.cmd.ns s ≠ 2 ∧ nsType c.cmd.ns s ≠ 4) ∧ (zoneBusy c s = false) ∧ (c.stamp = n)) ∧
    (∃ (n : Nat) (c : Ctx) (q : Nat) (s : State), (ctxOf n s = some c) ∧ (c.started = true) ∧ (tableWaits c.cmd.ns s = false) ∧ (c.cmd.op = .zoneFinish q) ∧ (nsType c.cmd.ns s = 2 ∨ nsType c.cmd.ns s = 4) ∧ (zoneBusy c s = false) ∧ ((zoneOf (ctxZone c s) s).state = 13 ∨ (zoneOf (ctxZone c s) s).state = 15) ∧ (c.stamp = n)) ∧
    (∃ (n : Nat) (c : Ctx) (q : Nat) (s : State), (ctxOf n s = some c) ∧ (c.started = true) ∧ (tableWaits c.cmd.ns s = false) ∧ (c.cmd.op = .zoneOpen q) ∧ (nsType c.cmd.ns s = 2 ∨ nsType c.cmd.ns s = 4) ∧ (zoneBusy c s = false) ∧ ((zoneOf (ctxZone c s) s).state = 1 ∨ (zoneOf (ctxZone c s) s).state = 2 ∨ (zoneOf (ctxZone c s) s).state = 4) ∧ (openBlocked (ctxZone c s) s = none) ∧ (c.stamp = n)) ∧
    (∃ (n : Nat) (c : Ctx) (q : Nat) (s : State), (ctxOf n s = some c) ∧ (c.started = true) ∧ (tableWaits c.cmd.ns s = false) ∧ (c.cmd.op = .zoneOpen q) ∧ (nsType c.cmd.ns s ≠ 2 ∧ nsType c.cmd.ns s ≠ 4) ∧ (zoneBusy c s = false) ∧ (c.stamp = n)) ∧
    (∃ (n : Nat) (c : Ctx) (q : Nat) (s : State), (ctxOf n s = some c) ∧ (c.started = true) ∧ (tableWaits c.cmd.ns s = false) ∧ (c.cmd.op = .zoneOpen q) ∧ (nsType c.cmd.ns s = 2 ∨ nsType c.cmd.ns s = 4) ∧ (zoneBusy c s = false) ∧ ((zoneOf (ctxZone c s) s).state = 13 ∨ (zoneOf (ctxZone c s) s).state = 15) ∧ (c.stamp = n)) ∧
    (∃ (n : Nat) (c : Ctx) (q : Nat) (s : State), (ctxOf n s = some c) ∧ (c.started = true) ∧ (tableWaits c.cmd.ns s = false) ∧ (c.cmd.op = .zoneOpen q) ∧ (nsType c.cmd.ns s = 2 ∨ nsType c.cmd.ns s = 4) ∧ (zoneBusy c s = false) ∧ ((zoneOf (ctxZone c s) s).state = 14 ∨ (zoneOf (ctxZone c s) s).state = 3) ∧ (c.stamp = n)) ∧
    (∃ (n : Nat) (c : Ctx) (q : Nat) (x : Status) (s : State), (ctxOf n s = some c) ∧ (c.started = true) ∧ (tableWaits c.cmd.ns s = false) ∧ (c.cmd.op = .zoneOpen q) ∧ (nsType c.cmd.ns s = 2 ∨ nsType c.cmd.ns s = 4) ∧ (zoneBusy c s = false) ∧ ((zoneOf (ctxZone c s) s).state ≠ 13) ∧ ((zoneOf (ctxZone c s) s).state ≠ 15) ∧ ((zoneOf (ctxZone c s) s).state ≠ 14) ∧ ((zoneOf (ctxZone c s) s).state ≠ 3) ∧ (openBlocked (ctxZone c s) s = some x) ∧ (c.stamp = n)) ∧
    (∃ (n : Nat) (c : Ctx) (q : Nat) (s : State), (ctxOf n s = some c) ∧ (c.started = true) ∧ (tableWaits c.cmd.ns s = false) ∧ (c.cmd.op = .zoneClose q) ∧ (nsType c.cmd.ns s = 2 ∨ nsType c.cmd.ns s = 4) ∧ (zoneBusy c s = false) ∧ ((zoneOf (ctxZone c s) s).state = 2 ∨ (zoneOf (ctxZone c s) s).state = 3) ∧ (c.stamp = n)) ∧
    (∃ (n : Nat) (c : Ctx) (q : Nat) (s : State), (ctxOf n s = some c) ∧ (c.started = true) ∧ (tableWaits c.cmd.ns s = false) ∧ (c.cmd.op = .zoneClose q) ∧ (nsType c.cmd.ns s ≠ 2 ∧ nsType c.cmd.ns s ≠ 4) ∧ (zoneBusy c s = false) ∧ (c.stamp = n)) ∧
    (∃ (n : Nat) (c : Ctx) (q : Nat) (s : State), (ctxOf n s = some c) ∧ (c.started = true) ∧ (tableWaits c.cmd.ns s = false) ∧ (c.cmd.op = .zoneClose q) ∧ (nsType c.cmd.ns s = 2 ∨ nsType c.cmd.ns s = 4) ∧ (zoneBusy c s = false) ∧ ((zoneOf (ctxZone c s) s).state = 13 ∨ (zoneOf (ctxZone c s) s).state = 15) ∧ (c.stamp = n)) ∧
    (∃ (n : Nat) (c : Ctx) (q : Nat) (s : State), (ctxOf n s = some c) ∧ (c.started = true) ∧ (tableWaits c.cmd.ns s = false) ∧ (c.cmd.op = .zoneClose q) ∧ (nsType c.cmd.ns s = 2 ∨ nsType c.cmd.ns s = 4) ∧ (zoneBusy c s = false) ∧ ((zoneOf (ctxZone c s) s).state ≠ 13) ∧ ((zoneOf (ctxZone c s) s).state ≠ 15) ∧ ((zoneOf (ctxZone c s) s).state ≠ 2) ∧ ((zoneOf (ctxZone c s) s).state ≠ 3) ∧ (c.stamp = n)) :=
  ⟨⟨((1 : Nat)), by decide +kernel⟩,
    ⟨((1 : Nat)), ((0 : Nat)), ((false : Bool)), (at_ [(Reg.ZMG_ZTBL_HI.ADDR, 16), (Reg.ZMG_ZTBL_LO.ADDR, 0), (Reg.ZMG_CTL.EN, 1), (Reg.ZMG_NS_CFG.TYPE 1, 2), (Reg.ZMG_NS_CFG.LBAF 1, 0), (Reg.ZMG_NS_ZONES.FIRST 1, 3), (Reg.ZMG_NS_COUNT.COUNT 1, 2), (Reg.ZMG_LIMITS.MAX_OPEN, 9), (Reg.ZMG_LIMITS.MAX_ACTIVE, 9), (Reg.ZMG_OPEN_CNT.OPEN, 0), (Reg.ZMG_OPEN_CNT.ACTIVE, 0)] : State), by decide +kernel⟩,
    ⟨((1 : Nat)), ((2 : Nat)), ((false : Bool)), (at_ [(Reg.ZMG_ZTBL_HI.ADDR, 16), (Reg.ZMG_ZTBL_LO.ADDR, 0), (Reg.ZMG_CTL.EN, 1), (Reg.ZMG_NS_CFG.TYPE 1, 0), (Reg.ZMG_NS_CFG.LBAF 1, 0), (Reg.ZMG_NS_ZONES.FIRST 1, 3), (Reg.ZMG_NS_COUNT.COUNT 1, 2), (Reg.ZMG_LIMITS.MAX_OPEN, 9), (Reg.ZMG_LIMITS.MAX_ACTIVE, 9), (Reg.ZMG_OPEN_CNT.OPEN, 0), (Reg.ZMG_OPEN_CNT.ACTIVE, 0), (Reg.SEAL_STAT.PROV, 0)] : State), by decide +kernel⟩,
    ⟨((1 : Nat)), ((0 : Nat)), ((2 : Nat)), ((true : Bool)), (at_ [(Reg.ZMG_ZTBL_HI.ADDR, 16), (Reg.ZMG_ZTBL_LO.ADDR, 0), (Reg.ZMG_CTL.EN, 1), (Reg.ZMG_NS_CFG.TYPE 1, 2), (Reg.ZMG_NS_CFG.LBAF 1, 0), (Reg.ZMG_NS_ZONES.FIRST 1, 3), (Reg.ZMG_NS_COUNT.COUNT 1, 2), (Reg.ZMG_LIMITS.MAX_OPEN, 9), (Reg.ZMG_LIMITS.MAX_ACTIVE, 9), (Reg.ZMG_OPEN_CNT.OPEN, 0), (Reg.ZMG_OPEN_CNT.ACTIVE, 0), (Reg.SEAL_STAT.PROV, 0)] : State), by decide +kernel⟩,
    ⟨((9 : Nat)), ((cx (.write 0 4 false) : Ctx)), ((0 : Nat)), ((4 : Nat)), ((false : Bool)), ({ setZone 3 { state := 1, type := 2, ns := 1 } (at_ [(Reg.ZMG_ZTBL_HI.ADDR, 16), (Reg.ZMG_ZTBL_LO.ADDR, 0), (Reg.ZMG_CTL.EN, 1), (Reg.ZMG_NS_CFG.TYPE 1, 2), (Reg.ZMG_NS_CFG.LBAF 1, 0), (Reg.ZMG_NS_ZONES.FIRST 1, 3), (Reg.ZMG_NS_COUNT.COUNT 1, 2), (Reg.ZMG_LIMITS.MAX_OPEN, 9), (Reg.ZMG_LIMITS.MAX_ACTIVE, 9), (Reg.ZMG_OPEN_CNT.OPEN, 0), (Reg.ZMG_OPEN_CNT.ACTIVE, 0)]) with cmd := { ctxs := [cx (.write 0 4 false)] } } : State), by decide +kernel⟩,
    ⟨((9 : Nat)), ((cx (.write 5 4 false) : Ctx)), ((5 : Nat)), ((4 : Nat)), ((false : Bool)), ({ setZone 3 { state := 1, type := 2, ns := 1 } (at_ [(Reg.ZMG_ZTBL_HI.ADDR, 16), (Reg.ZMG_ZTBL_LO.ADDR, 0), (Reg.ZMG_CTL.EN, 1), (Reg.ZMG_NS_CFG.TYPE 1, 2), (Reg.ZMG_NS_CFG.LBAF 1, 0), (Reg.ZMG_NS_ZONES.FIRST 1, 3), (Reg.ZMG_NS_COUNT.COUNT 1, 2), (Reg.ZMG_LIMITS.MAX_OPEN, 9), (Reg.ZMG_LIMITS.MAX_ACTIVE, 9), (Reg.ZMG_OPEN_CNT.OPEN, 0), (Reg.ZMG_OPEN_CNT.ACTIVE, 0)]) with cmd := { ctxs := [cx (.write 5 4 false)] } } : State), by decide +kernel⟩,
    ⟨((9 : Nat)), ((cx (.write 0 4 false) : Ctx)), ((0 : Nat)), ((4 : Nat)), ((false : Bool)), ((.zoneFull : Status)), ({ setZone 3 { state := 14, type := 2, ns := 1 } (at_ [(Reg.ZMG_ZTBL_HI.ADDR, 16), (Reg.ZMG_ZTBL_LO.ADDR, 0), (Reg.ZMG_CTL.EN, 1), (Reg.ZMG_NS_CFG.TYPE 1, 2), (Reg.ZMG_NS_CFG.LBAF 1, 0), (Reg.ZMG_NS_ZONES.FIRST 1, 3), (Reg.ZMG_NS_COUNT.COUNT 1, 2), (Reg.ZMG_LIMITS.MAX_OPEN, 9), (Reg.ZMG_LIMITS.MAX_ACTIVE, 9), (Reg.ZMG_OPEN_CNT.OPEN, 0), (Reg.ZMG_OPEN_CNT.ACTIVE, 0)]) with cmd := { ctxs := [cx (.write 0 4 false)] } } : State), by decide +kernel⟩,
    ⟨((9 : Nat)), ((cx (.write 0 4 false) : Ctx)), ((0 : Nat)), ((4 : Nat)), ((false : Bool)), ({ setZone 3 { state := 1, type := 2, ns := 1 } (at_ [(Reg.ZMG_ZTBL_HI.ADDR, 16), (Reg.ZMG_ZTBL_LO.ADDR, 0), (Reg.ZMG_CTL.EN, 1), (Reg.ZMG_NS_CFG.TYPE 1, 2), (Reg.ZMG_NS_CFG.LBAF 1, 0), (Reg.ZMG_NS_ZONES.FIRST 1, 3), (Reg.ZMG_NS_COUNT.COUNT 1, 2), (Reg.ZMG_LIMITS.MAX_OPEN, 9), (Reg.ZMG_LIMITS.MAX_ACTIVE, 9), (Reg.ZMG_OPEN_CNT.OPEN, 0), (Reg.ZMG_OPEN_CNT.ACTIVE, 0)]) with cmd := { ctxs := [cx (.write 0 4 false)] } } : State), by decide +kernel⟩,
    ⟨((9 : Nat)), ((cx (.append 0 4 false) : Ctx)), ((0 : Nat)), ((4 : Nat)), ((false : Bool)), ({ setZone 3 { state := 1, type := 2, ns := 1 } (at_ [(Reg.ZMG_ZTBL_HI.ADDR, 16), (Reg.ZMG_ZTBL_LO.ADDR, 0), (Reg.ZMG_CTL.EN, 1), (Reg.ZMG_NS_CFG.TYPE 1, 2), (Reg.ZMG_NS_CFG.LBAF 1, 0), (Reg.ZMG_NS_ZONES.FIRST 1, 3), (Reg.ZMG_NS_COUNT.COUNT 1, 2), (Reg.ZMG_LIMITS.MAX_OPEN, 9), (Reg.ZMG_LIMITS.MAX_ACTIVE, 9), (Reg.ZMG_OPEN_CNT.OPEN, 0), (Reg.ZMG_OPEN_CNT.ACTIVE, 0)]) with cmd := { ctxs := [cx (.append 0 4 false)] } } : State), by decide +kernel⟩,
    ⟨((9 : Nat)), ((cx (.append 0 4 false) : Ctx)), ((0 : Nat)), ((4 : Nat)), ((false : Bool)), ({ setZone 3 { state := 1, type := 2, ns := 1 } (at_ [(Reg.ZMG_ZTBL_HI.ADDR, 16), (Reg.ZMG_ZTBL_LO.ADDR, 0), (Reg.ZMG_CTL.EN, 1), (Reg.ZMG_NS_CFG.TYPE 1, 2), (Reg.ZMG_NS_CFG.LBAF 1, 0), (Reg.ZMG_NS_ZONES.FIRST 1, 3), (Reg.ZMG_NS_COUNT.COUNT 1, 2), (Reg.ZMG_LIMITS.MAX_OPEN, 9), (Reg.ZMG_LIMITS.MAX_ACTIVE, 9), (Reg.ZMG_OPEN_CNT.OPEN, 0), (Reg.ZMG_OPEN_CNT.ACTIVE, 0)]) with cmd := { ctxs := [cx (.append 0 4 false)] } } : State), by decide +kernel⟩,
    ⟨((9 : Nat)), ((cx (.append 0 4 false) : Ctx)), ((0 : Nat)), ((4 : Nat)), ((false : Bool)), ((.zoneFull : Status)), ({ setZone 3 { state := 14, type := 2, ns := 1 } (at_ [(Reg.ZMG_ZTBL_HI.ADDR, 16), (Reg.ZMG_ZTBL_LO.ADDR, 0), (Reg.ZMG_CTL.EN, 1), (Reg.ZMG_NS_CFG.TYPE 1, 2), (Reg.ZMG_NS_CFG.LBAF 1, 0), (Reg.ZMG_NS_ZONES.FIRST 1, 3), (Reg.ZMG_NS_COUNT.COUNT 1, 2), (Reg.ZMG_LIMITS.MAX_OPEN, 9), (Reg.ZMG_LIMITS.MAX_ACTIVE, 9), (Reg.ZMG_OPEN_CNT.OPEN, 0), (Reg.ZMG_OPEN_CNT.ACTIVE, 0)]) with cmd := { ctxs := [cx (.append 0 4 false)] } } : State), by decide +kernel⟩,
    ⟨((9 : Nat)), ((cx (.append 0 257 false) : Ctx)), ((0 : Nat)), ((257 : Nat)), ((false : Bool)), ({ setZone 3 { state := 1, type := 2, ns := 1 } (at_ [(Reg.ZMG_ZTBL_HI.ADDR, 16), (Reg.ZMG_ZTBL_LO.ADDR, 0), (Reg.ZMG_CTL.EN, 1), (Reg.ZMG_NS_CFG.TYPE 1, 2), (Reg.ZMG_NS_CFG.LBAF 1, 0), (Reg.ZMG_NS_ZONES.FIRST 1, 3), (Reg.ZMG_NS_COUNT.COUNT 1, 2), (Reg.ZMG_LIMITS.MAX_OPEN, 9), (Reg.ZMG_LIMITS.MAX_ACTIVE, 9), (Reg.ZMG_OPEN_CNT.OPEN, 0), (Reg.ZMG_OPEN_CNT.ACTIVE, 0)]) with cmd := { ctxs := [cx (.append 0 257 false)] } } : State), by decide +kernel⟩,
    ⟨((9 : Nat)), ((cx (.zoneReset 0) : Ctx)), ((0 : Nat)), ({ setZone 3 { state := 14, type := 2, ns := 1, host := 65536, media := 65536 } (at_ [(Reg.ZMG_ZTBL_HI.ADDR, 16), (Reg.ZMG_ZTBL_LO.ADDR, 0), (Reg.ZMG_CTL.EN, 1), (Reg.ZMG_NS_CFG.TYPE 1, 2), (Reg.ZMG_NS_CFG.LBAF 1, 0), (Reg.ZMG_NS_ZONES.FIRST 1, 3), (Reg.ZMG_NS_COUNT.COUNT 1, 2), (Reg.ZMG_LIMITS.MAX_OPEN, 9), (Reg.ZMG_LIMITS.MAX_ACTIVE, 9), (Reg.ZMG_OPEN_CNT.OPEN, 0), (Reg.ZMG_OPEN_CNT.ACTIVE, 0)]) with cmd := { ctxs := [cx (.zoneReset 0)] } } : State), by decide +kernel⟩,
    ⟨((9 : Nat)), ((cx (.zoneReset 0) : Ctx)), ((0 : Nat)), ({ setZone 3 { state := 1, type := 3, ns := 1 } (at_ [(Reg.ZMG_ZTBL_HI.ADDR, 16), (Reg.ZMG_ZTBL_LO.ADDR, 0), (Reg.ZMG_CTL.EN, 1), (Reg.ZMG_NS_CFG.TYPE 1, 3), (Reg.ZMG_NS_CFG.LBAF 1, 0), (Reg.ZMG_NS_ZONES.FIRST 1, 3), (Reg.ZMG_NS_COUNT.COUNT 1, 2), (Reg.ZMG_LIMITS.MAX_OPEN, 9), (Reg.ZMG_LIMITS.MAX_ACTIVE, 9), (Reg.ZMG_OPEN_CNT.OPEN, 0), (Reg.ZMG_OPEN_CNT.ACTIVE, 0)]) with cmd := { ctxs := [cx (.zoneReset 0)] } } : State), by decide +kernel⟩,
    ⟨((9 : Nat)), ((cx (.zoneReset 0) : Ctx)), ((0 : Nat)), ({ setZone 3 { state := 13, type := 2, ns := 1 } (at_ [(Reg.ZMG_ZTBL_HI.ADDR, 16), (Reg.ZMG_ZTBL_LO.ADDR, 0), (Reg.ZMG_CTL.EN, 1), (Reg.ZMG_NS_CFG.TYPE 1, 2), (Reg.ZMG_NS_CFG.LBAF 1, 0), (Reg.ZMG_NS_ZONES.FIRST 1, 3), (Reg.ZMG_NS_COUNT.COUNT 1, 2), (Reg.ZMG_LIMITS.MAX_OPEN, 9), (Reg.ZMG_LIMITS.MAX_ACTIVE, 9), (Reg.ZMG_OPEN_CNT.OPEN, 0), (Reg.ZMG_OPEN_CNT.ACTIVE, 0)]) with cmd := { ctxs := [cx (.zoneReset 0)] } } : State), by decide +kernel⟩,
    ⟨((9 : Nat)), ((cx (.zoneReset 0) : Ctx)), ((0 : Nat)), ({ setZone 3 { state := 14, type := 4, ns := 1, host := 65536, media := 65536, sealed := true } (at_ [(Reg.ZMG_ZTBL_HI.ADDR, 16), (Reg.ZMG_ZTBL_LO.ADDR, 0), (Reg.ZMG_CTL.EN, 1), (Reg.ZMG_NS_CFG.TYPE 1, 4), (Reg.ZMG_NS_CFG.LBAF 1, 0), (Reg.ZMG_NS_ZONES.FIRST 1, 3), (Reg.ZMG_NS_COUNT.COUNT 1, 2), (Reg.ZMG_LIMITS.MAX_OPEN, 9), (Reg.ZMG_LIMITS.MAX_ACTIVE, 9), (Reg.ZMG_OPEN_CNT.OPEN, 0), (Reg.ZMG_OPEN_CNT.ACTIVE, 0), (Reg.SEAL_NS_RET.RET 1, 9)]) with cmd := { ctxs := [cx (.zoneReset 0)] }, seals := { log := [⟨0, 3, 1, 0, [], [], [], []⟩] } } : State), by decide +kernel⟩,
    ⟨((9 : Nat)), ((cx (.zoneFinish 0) : Ctx)), ((0 : Nat)), ({ setZone 3 { state := 2, type := 2, ns := 1, host := 77, media := 70, group := 8 } (at_ [(Reg.ZMG_ZTBL_HI.ADDR, 16), (Reg.ZMG_ZTBL_LO.ADDR, 0), (Reg.ZMG_CTL.EN, 1), (Reg.ZMG_NS_CFG.TYPE 1, 2), (Reg.ZMG_NS_CFG.LBAF 1, 0), (Reg.ZMG_NS_ZONES.FIRST 1, 3), (Reg.ZMG_NS_COUNT.COUNT 1, 2), (Reg.ZMG_LIMITS.MAX_OPEN, 9), (Reg.ZMG_LIMITS.MAX_ACTIVE, 9), (Reg.ZMG_OPEN_CNT.OPEN, 0), (Reg.ZMG_OPEN_CNT.ACTIVE, 0)]) with cmd := { ctxs := [cx (.zoneFinish 0)] } } : State), by decide +kernel⟩,
    ⟨((9 : Nat)), ((cx (.zoneFinish 0) : Ctx)), ((0 : Nat)), ({ setZone 3 { state := 1, type := 3, ns := 1 } (at_ [(Reg.ZMG_ZTBL_HI.ADDR, 16), (Reg.ZMG_ZTBL_LO.ADDR, 0), (Reg.ZMG_CTL.EN, 1), (Reg.ZMG_NS_CFG.TYPE 1, 3), (Reg.ZMG_NS_CFG.LBAF 1, 0), (Reg.ZMG_NS_ZONES.FIRST 1, 3), (Reg.ZMG_NS_COUNT.COUNT 1, 2), (Reg.ZMG_LIMITS.MAX_OPEN, 9), (Reg.ZMG_LIMITS.MAX_ACTIVE, 9), (Reg.ZMG_OPEN_CNT.OPEN, 0), (Reg.ZMG_OPEN_CNT.ACTIVE, 0)]) with cmd := { ctxs := [cx (.zoneFinish 0)] } } : State), by decide +kernel⟩,
    ⟨((9 : Nat)), ((cx (.zoneFinish 0) : Ctx)), ((0 : Nat)), ({ setZone 3 { state := 13, type := 2, ns := 1 } (at_ [(Reg.ZMG_ZTBL_HI.ADDR, 16), (Reg.ZMG_ZTBL_LO.ADDR, 0), (Reg.ZMG_CTL.EN, 1), (Reg.ZMG_NS_CFG.TYPE 1, 2), (Reg.ZMG_NS_CFG.LBAF 1, 0), (Reg.ZMG_NS_ZONES.FIRST 1, 3), (Reg.ZMG_NS_COUNT.COUNT 1, 2), (Reg.ZMG_LIMITS.MAX_OPEN, 9), (Reg.ZMG_LIMITS.MAX_ACTIVE, 9), (Reg.ZMG_OPEN_CNT.OPEN, 0), (Reg.ZMG_OPEN_CNT.ACTIVE, 0)]) with cmd := { ctxs := [cx (.zoneFinish 0)] } } : State), by decide +kernel⟩,
    ⟨((9 : Nat)), ((cx (.zoneOpen 0) : Ctx)), ((0 : Nat)), ({ setZone 3 { state := 1, type := 2, ns := 1 } (at_ [(Reg.ZMG_ZTBL_HI.ADDR, 16), (Reg.ZMG_ZTBL_LO.ADDR, 0), (Reg.ZMG_CTL.EN, 1), (Reg.ZMG_NS_CFG.TYPE 1, 2), (Reg.ZMG_NS_CFG.LBAF 1, 0), (Reg.ZMG_NS_ZONES.FIRST 1, 3), (Reg.ZMG_NS_COUNT.COUNT 1, 2), (Reg.ZMG_LIMITS.MAX_OPEN, 9), (Reg.ZMG_LIMITS.MAX_ACTIVE, 9), (Reg.ZMG_OPEN_CNT.OPEN, 0), (Reg.ZMG_OPEN_CNT.ACTIVE, 0)]) with cmd := { ctxs := [cx (.zoneOpen 0)] } } : State), by decide +kernel⟩,
    ⟨((9 : Nat)), ((cx (.zoneOpen 0) : Ctx)), ((0 : Nat)), ({ setZone 3 { state := 1, type := 3, ns := 1 } (at_ [(Reg.ZMG_ZTBL_HI.ADDR, 16), (Reg.ZMG_ZTBL_LO.ADDR, 0), (Reg.ZMG_CTL.EN, 1), (Reg.ZMG_NS_CFG.TYPE 1, 3), (Reg.ZMG_NS_CFG.LBAF 1, 0), (Reg.ZMG_NS_ZONES.FIRST 1, 3), (Reg.ZMG_NS_COUNT.COUNT 1, 2), (Reg.ZMG_LIMITS.MAX_OPEN, 9), (Reg.ZMG_LIMITS.MAX_ACTIVE, 9), (Reg.ZMG_OPEN_CNT.OPEN, 0), (Reg.ZMG_OPEN_CNT.ACTIVE, 0)]) with cmd := { ctxs := [cx (.zoneOpen 0)] } } : State), by decide +kernel⟩,
    ⟨((9 : Nat)), ((cx (.zoneOpen 0) : Ctx)), ((0 : Nat)), ({ setZone 3 { state := 13, type := 2, ns := 1 } (at_ [(Reg.ZMG_ZTBL_HI.ADDR, 16), (Reg.ZMG_ZTBL_LO.ADDR, 0), (Reg.ZMG_CTL.EN, 1), (Reg.ZMG_NS_CFG.TYPE 1, 2), (Reg.ZMG_NS_CFG.LBAF 1, 0), (Reg.ZMG_NS_ZONES.FIRST 1, 3), (Reg.ZMG_NS_COUNT.COUNT 1, 2), (Reg.ZMG_LIMITS.MAX_OPEN, 9), (Reg.ZMG_LIMITS.MAX_ACTIVE, 9), (Reg.ZMG_OPEN_CNT.OPEN, 0), (Reg.ZMG_OPEN_CNT.ACTIVE, 0)]) with cmd := { ctxs := [cx (.zoneOpen 0)] } } : State), by decide +kernel⟩,
    ⟨((9 : Nat)), ((cx (.zoneOpen 0) : Ctx)), ((0 : Nat)), ({ setZone 3 { state := 3, type := 2, ns := 1 } (at_ [(Reg.ZMG_ZTBL_HI.ADDR, 16), (Reg.ZMG_ZTBL_LO.ADDR, 0), (Reg.ZMG_CTL.EN, 1), (Reg.ZMG_NS_CFG.TYPE 1, 2), (Reg.ZMG_NS_CFG.LBAF 1, 0), (Reg.ZMG_NS_ZONES.FIRST 1, 3), (Reg.ZMG_NS_COUNT.COUNT 1, 2), (Reg.ZMG_LIMITS.MAX_OPEN, 9), (Reg.ZMG_LIMITS.MAX_ACTIVE, 9), (Reg.ZMG_OPEN_CNT.OPEN, 0), (Reg.ZMG_OPEN_CNT.ACTIVE, 0)]) with cmd := { ctxs := [cx (.zoneOpen 0)] } } : State), by decide +kernel⟩,
    ⟨((9 : Nat)), ((cx (.zoneOpen 0) : Ctx)), ((0 : Nat)), ((.tooManyActive : Status)), ({ setZone 3 { state := 1, type := 2, ns := 1 } (at_ [(Reg.ZMG_ZTBL_HI.ADDR, 16), (Reg.ZMG_ZTBL_LO.ADDR, 0), (Reg.ZMG_CTL.EN, 1), (Reg.ZMG_NS_CFG.TYPE 1, 2), (Reg.ZMG_NS_CFG.LBAF 1, 0), (Reg.ZMG_NS_ZONES.FIRST 1, 3), (Reg.ZMG_NS_COUNT.COUNT 1, 2), (Reg.ZMG_LIMITS.MAX_OPEN, 9), (Reg.ZMG_LIMITS.MAX_ACTIVE, 0), (Reg.ZMG_OPEN_CNT.OPEN, 0), (Reg.ZMG_OPEN_CNT.ACTIVE, 0)]) with cmd := { ctxs := [cx (.zoneOpen 0)] } } : State), by decide +kernel⟩,
    ⟨((9 : Nat)), ((cx (.zoneClose 0) : Ctx)), ((0 : Nat)), ({ setZone 3 { state := 3, type := 2, ns := 1, host := 7 } (at_ [(Reg.ZMG_ZTBL_HI.ADDR, 16), (Reg.ZMG_ZTBL_LO.ADDR, 0), (Reg.ZMG_CTL.EN, 1), (Reg.ZMG_NS_CFG.TYPE 1, 2), (Reg.ZMG_NS_CFG.LBAF 1, 0), (Reg.ZMG_NS_ZONES.FIRST 1, 3), (Reg.ZMG_NS_COUNT.COUNT 1, 2), (Reg.ZMG_LIMITS.MAX_OPEN, 9), (Reg.ZMG_LIMITS.MAX_ACTIVE, 9), (Reg.ZMG_OPEN_CNT.OPEN, 0), (Reg.ZMG_OPEN_CNT.ACTIVE, 0)]) with cmd := { ctxs := [cx (.zoneClose 0)] } } : State), by decide +kernel⟩,
    ⟨((9 : Nat)), ((cx (.zoneClose 0) : Ctx)), ((0 : Nat)), ({ setZone 3 { state := 1, type := 3, ns := 1 } (at_ [(Reg.ZMG_ZTBL_HI.ADDR, 16), (Reg.ZMG_ZTBL_LO.ADDR, 0), (Reg.ZMG_CTL.EN, 1), (Reg.ZMG_NS_CFG.TYPE 1, 3), (Reg.ZMG_NS_CFG.LBAF 1, 0), (Reg.ZMG_NS_ZONES.FIRST 1, 3), (Reg.ZMG_NS_COUNT.COUNT 1, 2), (Reg.ZMG_LIMITS.MAX_OPEN, 9), (Reg.ZMG_LIMITS.MAX_ACTIVE, 9), (Reg.ZMG_OPEN_CNT.OPEN, 0), (Reg.ZMG_OPEN_CNT.ACTIVE, 0)]) with cmd := { ctxs := [cx (.zoneClose 0)] } } : State), by decide +kernel⟩,
    ⟨((9 : Nat)), ((cx (.zoneClose 0) : Ctx)), ((0 : Nat)), ({ setZone 3 { state := 13, type := 2, ns := 1 } (at_ [(Reg.ZMG_ZTBL_HI.ADDR, 16), (Reg.ZMG_ZTBL_LO.ADDR, 0), (Reg.ZMG_CTL.EN, 1), (Reg.ZMG_NS_CFG.TYPE 1, 2), (Reg.ZMG_NS_CFG.LBAF 1, 0), (Reg.ZMG_NS_ZONES.FIRST 1, 3), (Reg.ZMG_NS_COUNT.COUNT 1, 2), (Reg.ZMG_LIMITS.MAX_OPEN, 9), (Reg.ZMG_LIMITS.MAX_ACTIVE, 9), (Reg.ZMG_OPEN_CNT.OPEN, 0), (Reg.ZMG_OPEN_CNT.ACTIVE, 0)]) with cmd := { ctxs := [cx (.zoneClose 0)] } } : State), by decide +kernel⟩,
    ⟨((9 : Nat)), ((cx (.zoneClose 0) : Ctx)), ((0 : Nat)), ({ setZone 3 { state := 4, type := 2, ns := 1 } (at_ [(Reg.ZMG_ZTBL_HI.ADDR, 16), (Reg.ZMG_ZTBL_LO.ADDR, 0), (Reg.ZMG_CTL.EN, 1), (Reg.ZMG_NS_CFG.TYPE 1, 2), (Reg.ZMG_NS_CFG.LBAF 1, 0), (Reg.ZMG_NS_ZONES.FIRST 1, 3), (Reg.ZMG_NS_COUNT.COUNT 1, 2), (Reg.ZMG_LIMITS.MAX_OPEN, 9), (Reg.ZMG_LIMITS.MAX_ACTIVE, 9), (Reg.ZMG_OPEN_CNT.OPEN, 0), (Reg.ZMG_OPEN_CNT.ACTIVE, 0)]) with cmd := { ctxs := [cx (.zoneClose 0)] } } : State), by decide +kernel⟩⟩

/-- The hypotheses of MediaCacheAndBandsAreWritten, clause by clause, are met. -/
theorem witness_media_cache_and_bands_are_written :
    (∃ (n x : Nat) (l : List Nat) (s : State), (n < 64) ∧ (zmgOn s = true) ∧ (nsType n s = 3) ∧ (extentLines n x s ≠ []) ∧ ((extentLines n x s).all (fun l => l.mask == 255) = true) ∧ (mcFill n s < get Reg.ZMG_DM_CFG.CRIT s) ∧ ((s.zmg.mc.filter (fun e => e.ns == n)).length < mcSlots n s)) ∧
    (∃ (n b k q : Nat) (s : State), (n < 64) ∧ (zmgOn s = true) ∧ (nsType n s = 3) ∧ (inNs n (get (Reg.ZMG_NS_ZONES.FIRST n) s + b) s = true) ∧ (s.zmg.spares.contains q = true) ∧ (k = 65536) ∧ (2 ^ get Reg.ZMG_DM_CFG.DIRECT_MIN s * 256 ≤ k) ∧ ((List.range k).all (fun i => (lineOf n (65536 * b + i) s).any (fun l => l.mask == 255)) = true)) ∧
    (∃ (n b k q : Nat) (s : State), (n < 64) ∧ (zmgOn s = true) ∧ (nsType n s = 3) ∧ (inNs n (get (Reg.ZMG_NS_ZONES.FIRST n) s + b) s = true) ∧ (s.zmg.spares.contains q = true) ∧ (reservedZones s < s.zmg.spares.length) ∧ (k < 65536) ∧ (2 ^ get Reg.ZMG_DM_CFG.DIRECT_MIN s * 256 ≤ k) ∧ ((List.range k).all (fun i => (lineOf n (65536 * b + i) s).any (fun l => l.mask == 255)) = true)) ∧
    (∃ (n b q a : Nat) (s : State), (n < 64) ∧ (zmgOn s = true) ∧ (get Reg.ZMG_CTL.CLEAN_EN s = 1) ∧ (nsType n s = 3) ∧ (inNs n (get (Reg.ZMG_NS_ZONES.FIRST n) s + b) s = true) ∧ (cleanNext n b s = true) ∧ (cleanTime n (zoneOf (get (Reg.ZMG_NS_ZONES.FIRST n) s + b) s).phys s = true) ∧ (a ≤ tmpCount s % 2 ^ 48) ∧ (s.zmg.images.any (fun i => i.1 == get (Reg.ZMG_NS_ZONES.FIRST n) s + b) = true ∨ s.zmg.spares.contains q = true)) ∧
    (∃ (n : Nat) (s : State), (n < 64) ∧ (nsType n s = 3) ∧ (get Reg.ZMG_DM_CFG.CRIT s ≤ mcFill n s) ∧ (s.zmg.crit.contains n = false)) ∧
    (∃ (n b : Nat) (f : Bool) (l : CacheLine) (s : State), (f = false) ∧ (lineOf n b s = some l) ∧ (l.mask ≠ 255)) ∧
    (∃ (n b : Nat) (f : Bool) (l : CacheLine) (s : State), (f = true) ∧ (lineOf n b s = some l) ∧ (l.mask ≠ 255) ∧ (s.zmg.pend.length < 65000)) ∧
    (∃ (n b : Nat) (l : CacheLine) (s : State), (lineOf n b s = some l) ∧ (l.mask ≠ 255)) :=
  ⟨⟨((1 : Nat)), ((2 : Nat)), (([1] : List Nat)), ({ at_ [(Reg.ZMG_CTL.EN, 1), (Reg.ZMG_CTL.CLEAN_EN, 1), (Reg.ZMG_NS_CFG.TYPE 1, 3), (Reg.ZMG_NS_ZONES.FIRST 1, 3), (Reg.ZMG_NS_COUNT.COUNT 1, 2), (Reg.ZMG_ZTBL_HI.ADDR, 16), (Reg.ZMG_NS_MC.ZONES 1, 8), (Reg.ZMG_DM_CFG.CRIT, 50), (Reg.ZMG_DM_CFG.DIRECT_MIN, 0), (Reg.ZMG_DM_CFG.FREE_MIN, 1), (Reg.ZMG_SPARE.LOW, 1), (Reg.ZMG_NS_CFG.LBAF 1, 0)] with cmd := { lines := [⟨1, 33, 255, 77, [4]⟩, ⟨1, 35, 255, 78, [5]⟩, ⟨1, 60, 255, 78, [5]⟩] } } : State), by decide +kernel⟩,
    ⟨1, 0, 65536, 9, bandState (bandLines 65536), by decide +kernel, by decide +kernel, by decide +kernel, by decide +kernel, by decide +kernel, rfl, by decide +kernel, band_cached 65536⟩,
    ⟨((1 : Nat)), ((0 : Nat)), ((256 : Nat)), ((9 : Nat)), ({ at_ [(Reg.ZMG_CTL.EN, 1), (Reg.ZMG_CTL.CLEAN_EN, 1), (Reg.ZMG_NS_CFG.TYPE 1, 3), (Reg.ZMG_NS_ZONES.FIRST 1, 3), (Reg.ZMG_NS_COUNT.COUNT 1, 2), (Reg.ZMG_ZTBL_HI.ADDR, 16), (Reg.ZMG_NS_MC.ZONES 1, 8), (Reg.ZMG_DM_CFG.CRIT, 50), (Reg.ZMG_DM_CFG.DIRECT_MIN, 0), (Reg.ZMG_DM_CFG.FREE_MIN, 1), (Reg.ZMG_SPARE.LOW, 1), (Reg.ZMG_NS_CFG.LBAF 1, 0)] with zmg := { spares := [9, 10] }, cmd := { lines := (List.range 256).map (fun i => ⟨1, i, 255, i, [4]⟩) } } : State), by decide +kernel⟩,
    ⟨((1 : Nat)), ((0 : Nat)), ((9 : Nat)), ((7 : Nat)), ({ at_ [(Reg.ZMG_CTL.EN, 1), (Reg.ZMG_CTL.CLEAN_EN, 1), (Reg.ZMG_NS_CFG.TYPE 1, 3), (Reg.ZMG_NS_ZONES.FIRST 1, 3), (Reg.ZMG_NS_COUNT.COUNT 1, 2), (Reg.ZMG_ZTBL_HI.ADDR, 16), (Reg.ZMG_NS_MC.ZONES 1, 8), (Reg.ZMG_DM_CFG.CRIT, 50), (Reg.ZMG_DM_CFG.DIRECT_MIN, 0), (Reg.ZMG_DM_CFG.FREE_MIN, 1), (Reg.ZMG_SPARE.LOW, 1), (Reg.ZMG_NS_CFG.LBAF 1, 0), (Reg.TMP_COUNT_LO.COUNT, 7)] with zmg := { spares := [9, 10], mc := [⟨1, 5, 0, 255, 3⟩, ⟨1, 6, 1, 255, 4⟩] } } : State), by decide +kernel⟩,
    ⟨((1 : Nat)), (at_ [(Reg.ZMG_CTL.EN, 1), (Reg.ZMG_CTL.CLEAN_EN, 1), (Reg.ZMG_NS_CFG.TYPE 1, 3), (Reg.ZMG_NS_ZONES.FIRST 1, 3), (Reg.ZMG_NS_COUNT.COUNT 1, 2), (Reg.ZMG_ZTBL_HI.ADDR, 16), (Reg.ZMG_NS_MC.ZONES 1, 8), (Reg.ZMG_DM_CFG.CRIT, 0), (Reg.ZMG_DM_CFG.DIRECT_MIN, 0), (Reg.ZMG_DM_CFG.FREE_MIN, 1), (Reg.ZMG_SPARE.LOW, 1), (Reg.ZMG_NS_CFG.LBAF 1, 0)] : State), by decide +kernel⟩,
    ⟨((1 : Nat)), ((7 : Nat)), ((false : Bool)), ((⟨1, 7, 5, 77, [4]⟩ : CacheLine)), ((fun (l : CacheLine) => ({ at_ [] with cmd := { lines := [l] } } : State)) ((⟨1, 7, 5, 77, [4]⟩ : CacheLine))), by decide +kernel⟩,
    ⟨((1 : Nat)), ((7 : Nat)), ((true : Bool)), ((⟨1, 7, 5, 77, [4]⟩ : CacheLine)), ((fun (l : CacheLine) => ({ at_ [(Reg.ZMG_CTL.EN, 1), (Reg.ZMG_CTL.CLEAN_EN, 1), (Reg.ZMG_NS_CFG.TYPE 1, 3), (Reg.ZMG_NS_ZONES.FIRST 1, 3), (Reg.ZMG_NS_COUNT.COUNT 1, 2), (Reg.ZMG_ZTBL_HI.ADDR, 16), (Reg.ZMG_NS_MC.ZONES 1, 8), (Reg.ZMG_DM_CFG.CRIT, 9), (Reg.ZMG_DM_CFG.DIRECT_MIN, 0), (Reg.ZMG_DM_CFG.FREE_MIN, 1), (Reg.ZMG_SPARE.LOW, 1), (Reg.ZMG_NS_CFG.LBAF 1, 0)] with cmd := { lines := [l] } } : State)) ((⟨1, 7, 5, 77, [4]⟩ : CacheLine))), by decide +kernel⟩,
    ⟨((1 : Nat)), ((7 : Nat)), ((⟨1, 7, 5, 77, [4]⟩ : CacheLine)), ((fun (l : CacheLine) => ({ at_ [(Reg.ZMG_CTL.EN, 1), (Reg.ZMG_CTL.CLEAN_EN, 1), (Reg.ZMG_NS_CFG.TYPE 1, 3), (Reg.ZMG_NS_ZONES.FIRST 1, 3), (Reg.ZMG_NS_COUNT.COUNT 1, 2), (Reg.ZMG_ZTBL_HI.ADDR, 16), (Reg.ZMG_NS_MC.ZONES 1, 8), (Reg.ZMG_DM_CFG.CRIT, 9), (Reg.ZMG_DM_CFG.DIRECT_MIN, 0), (Reg.ZMG_DM_CFG.FREE_MIN, 1), (Reg.ZMG_SPARE.LOW, 1), (Reg.ZMG_NS_CFG.LBAF 1, 0)] with cmd := { lines := [l] } } : State)) ((⟨1, 7, 5, 77, [4]⟩ : CacheLine))), by decide +kernel⟩⟩

/-- The hypotheses of DefectsRecoveryAndTables, clause by clause, are met. -/
theorem witness_defects_recovery_and_tables :
    (∃ (n z i y j v : Nat) (o : Decoded) (s : State), (n < 5) ∧ (s.zmg.rewrite.find? (fun x => x.1 == (z, i)) = some ((z, i), v)) ∧ (zmgOn s = true) ∧ (streamRuns n s = true) ∧ (mayWrite n s = true) ∧ (spareSector z (y, j) s = true) ∧ (shingledAt z s = true ∨ accepted z i o = false)) ∧
    (∃ (n z i y j v : Nat) (o : Decoded) (s : State), (n < 5) ∧ (s.zmg.rewrite.find? (fun x => x.1 == (z, i)) = some ((z, i), v)) ∧ (zmgOn s = true) ∧ (streamRuns n s = true) ∧ (mayWrite n s = true) ∧ (spareSector z (y, j) s = true) ∧ (shingledAt z s = false) ∧ (accepted z i o = true)) ∧
    (∃ (z q : Nat) (s : State), (AMap.lookup z s.zmg.copying = none) ∧ (sparesFree s ≠ []) ∧ (zmgOn s = true) ∧ ((sparesFree s).contains q = true)) ∧
    (∃ (z p : Nat) (s : State), (AMap.lookup z s.zmg.copying = some p) ∧ (zmgOn s = true)) ∧
    (∃ (z : Nat) (s : State), (sparesFree s = []) ∧ (AMap.lookup z s.zmg.copying = none)) ∧
    (∃ (n z p i : Nat) (r : List Reread) (o : List Decoded) (d : Decoded) (w : Verdict × Nat × Nat) (s : State), (n < 5) ∧ (climb n (zoneOf z s).phys (physIdx (isShingled (zoneOf z s)) p) (4 * budgetOf n s) s (planOf n s) 0 0 r = some w) ∧ (s.zmg.failed.contains (sectorPlace z p s) = true) ∧ (streamRuns n s = true) ∧ (deepResult z p w.1 (o, d) (copyData z p s) s = some i)) ∧
    (∃ (n z p : Nat) (r : List Reread) (o : List Decoded) (d : Decoded) (w : Verdict × Nat × Nat) (s : State), (n < 5) ∧ (climb n (zoneOf z s).phys (physIdx (isShingled (zoneOf z s)) p) (4 * budgetOf n s) s (planOf n s) 0 0 r = some w) ∧ (s.zmg.failed.contains (sectorPlace z p s) = true) ∧ (streamRuns n s = true) ∧ (deepResult z p w.1 (o, d) (copyData z p s) s = none) ∧ (s.zmg.pend.length < 65536)) ∧
    (∃ (n z p : Nat) (r : List Reread) (w : Verdict × Nat × Nat) (s : State), (n < 5) ∧ (climb n (zoneOf z s).phys (physIdx (isShingled (zoneOf z s)) p) (4 * budgetOf n s) s (planOf n s) 0 0 r = some w) ∧ (s.zmg.failed.contains (sectorPlace z p s) = true) ∧ (streamRuns n s = true)) ∧
    (∃ (n : Nat) (c : Ctx) (m a k : Nat) (s : State), (ctxOf n s = some c) ∧ (c.started = true) ∧ (tableWaits c.cmd.ns s = false) ∧ (c.cmd.op = .read a k) ∧ (waitsRecovery c s = true) ∧ (get Reg.ZMG_RECOV_CFG.HOST_MS s ≤ m)) ∧
    (∃ (s : State), (s.zmg.ati ≠ [])) ∧
    (∃ (z : Nat) (b f : Bool) (s : State), (b = true) ∧ (f = false) ∧ (zmgOn s = true) ∧ (get Reg.ZMG_CTL.SCAN_EN s = 1) ∧ (get Reg.ZMG_SCAN_STAT.ZONE s = z) ∧ (naturalGap (zoneAct z) s = true) ∧ (scanDue s = true)) ∧
    (∃ (z : Nat) (b f : Bool) (s : State), (b = true) ∧ (f = true) ∧ (zmgOn s = true) ∧ (get Reg.ZMG_CTL.SCAN_EN s = 1) ∧ (get Reg.ZMG_SCAN_STAT.ZONE s = z) ∧ (naturalGap (zoneAct z) s = true) ∧ (scanDue s = true)) ∧
    (∃ (z : Nat) (s : State), (zmgOn s = true) ∧ (get Reg.ZMG_CTL.SCAN_EN s = 1) ∧ (get Reg.ZMG_SCAN_STAT.ZONE s = z) ∧ (naturalGap (zoneAct z) s = true) ∧ (scanDue s = true)) ∧
    (∃ (s : State), (s.zmg.lossAt.isSome = true) ∧ (get Reg.SPN_STAT.LOCK s = 2)) ∧
    (∃ (z : Nat) (m l : List Decoded) (s : State), ((zoneOf z s).recov = true) ∧ ((s.zmg.order.filter (fun k => (zoneOf k s).recov)).getLast? = some z) ∧ (get Reg.SYS_MODE.MEDIA_FAULT s = 0) ∧ (m.length = (zoneOf z s).media % 31) ∧ (scanWp (zoneOf z s).phys (zoneOf z s).stamp l (zoneOf z s).media % 31 = 0) ∧ (s.zmg.lossAt = none)) ∧
    (∃ (z q : Nat) (m : List Decoded) (s : State), ((zoneOf z s).recov = true) ∧ ((s.zmg.order.filter (fun k => (zoneOf k s).recov)).getLast? = some z) ∧ (get Reg.SYS_MODE.MEDIA_FAULT s = 0) ∧ (m.length = (zoneOf z s).media % 31) ∧ (s.zmg.lossAt = none) ∧ ((zoneAddr z s + 32 ≤ q ∨ q + 4128 ≤ zoneAddr z s))) ∧
    (∃ (m : Nat) (b : Bool) (s : State), (get Reg.ZMG_STAT.CKPT_BUSY s ≠ 1) ∧ (zmgOn s = true) ∧ (b = true ∨ ckptMin s ≤ m ∨ 75 < journalFill s ∨ get Reg.ZMG_JRNL.CKPT s = 1)) ∧
    (∃ (s : State), (get Reg.ZMG_STAT.CKPT_BUSY s = 1)) ∧
    (∃ (k : Nat) (s : State), (k < 5) ∧ (s.zmg.rebuilding = none)) ∧
    (∃ (k : Nat) (b : Bool) (s : State), (k < 5) ∧ (s.zmg.rebuilding = some k) ∧ (b = false)) ∧
    (∃ (k : Nat) (b : Bool) (s : State), (k < 5) ∧ (s.zmg.rebuilding = some k) ∧ (b = true)) :=
  ⟨⟨3, 3, 4, 3, 6, 77, ⟨false, 0⟩, remapState 3, by decide +kernel, by decide +kernel, by decide +kernel, by decide +kernel, by decide +kernel, spare_self (by decide +kernel) (by decide +kernel) (by decide +kernel), by decide +kernel⟩,
    ⟨3, 3, 4, 3, 6, 77, ⟨true, ofBytes (sectorBytes 3 4 0 0 8)⟩, remapState 3, by decide +kernel, by decide +kernel, by decide +kernel, by decide +kernel, by decide +kernel, spare_self (by decide +kernel) (by decide +kernel) (by decide +kernel), by decide +kernel, by decide +kernel⟩,
    ⟨((3 : Nat)), ((9 : Nat)), ({ at_ [(Reg.ZMG_CTL.EN, 1), (Reg.ZMG_ZTBL_HI.ADDR, 16)] with zmg := { spares := [9, 10] } } : State), by decide +kernel⟩,
    ⟨((3 : Nat)), ((12 : Nat)), ({ at_ [(Reg.ZMG_CTL.EN, 1), (Reg.ZMG_ZTBL_HI.ADDR, 16)] with zmg := { spares := [9, 10], copying := [(3, 12)] } } : State), by decide +kernel⟩,
    ⟨((3 : Nat)), (at_ [(Reg.ZMG_CTL.EN, 1), (Reg.ZMG_ZTBL_HI.ADDR, 16)] : State), by decide +kernel⟩,
    ⟨((1 : Nat)), ((3 : Nat)), ((40 : Nat)), ((ofBytes (sectorBytes 6 41 5 0 9) : Nat)), (([] : List Reread)), (([] : List Decoded)), ((⟨false, 0⟩ : Decoded)), (((.failed, 7, 0) : Verdict × Nat × Nat)), ((fun (n : Nat) => ({ setZone 3 { state := 14, phys := 6, ns := 1, type := 4, stamp := 5, sealed := true, copied := true, media := 50 } (at_ [(Reg.ZMG_CTL.EN, 1), (Reg.ZMG_CTL.CLEAN_EN, 1), (Reg.ZMG_NS_CFG.TYPE 1, 3), (Reg.ZMG_NS_ZONES.FIRST 1, 3), (Reg.ZMG_NS_COUNT.COUNT 1, 2), (Reg.ZMG_ZTBL_HI.ADDR, 16), (Reg.ZMG_NS_MC.ZONES 1, 8), (Reg.ZMG_DM_CFG.CRIT, 9), (Reg.ZMG_DM_CFG.DIRECT_MIN, 0), (Reg.ZMG_DM_CFG.FREE_MIN, 1), (Reg.ZMG_SPARE.LOW, 1), (Reg.ZMG_NS_CFG.LBAF 1, 0), (Reg.SYS_MODE.CUR, 3), (Reg.HCH_CTL.EN n, 1), (Reg.HCH_STAT.FAILED n, 0), (Reg.HCH_RETRY_CFG.STEP_EN, 0)]) with zmg := { failed := [(6, 41)], pend := [(1, 30, 20)] }, och := { found := some (3, 2, 9 * 2 ^ (8 * (1024 + 4096 * 8))) } } : State)) ((1 : Nat))), by decide +kernel⟩,
    ⟨((1 : Nat)), ((3 : Nat)), ((40 : Nat)), (([] : List Reread)), (([] : List Decoded)), ((⟨false, 0⟩ : Decoded)), (((.failed, 7, 0) : Verdict × Nat × Nat)), ((fun (n : Nat) => ({ setZone 3 { state := 14, phys := 6, ns := 1, type := 4, stamp := 5, sealed := true, copied := true, media := 50 } (at_ [(Reg.ZMG_CTL.EN, 1), (Reg.ZMG_CTL.CLEAN_EN, 1), (Reg.ZMG_NS_CFG.TYPE 1, 3), (Reg.ZMG_NS_ZONES.FIRST 1, 3), (Reg.ZMG_NS_COUNT.COUNT 1, 2), (Reg.ZMG_ZTBL_HI.ADDR, 16), (Reg.ZMG_NS_MC.ZONES 1, 8), (Reg.ZMG_DM_CFG.CRIT, 9), (Reg.ZMG_DM_CFG.DIRECT_MIN, 0), (Reg.ZMG_DM_CFG.FREE_MIN, 1), (Reg.ZMG_SPARE.LOW, 1), (Reg.ZMG_NS_CFG.LBAF 1, 0), (Reg.SYS_MODE.CUR, 3), (Reg.HCH_CTL.EN n, 1), (Reg.HCH_STAT.FAILED n, 0), (Reg.HCH_RETRY_CFG.STEP_EN, 0)]) with zmg := { failed := [(6, 41)], pend := [(1, 30, 20)] } } : State)) ((1 : Nat))), by decide +kernel⟩,
    ⟨((1 : Nat)), ((3 : Nat)), ((40 : Nat)), (([] : List Reread)), (((.failed, 7, 0) : Verdict × Nat × Nat)), ((fun (n : Nat) => ({ setZone 3 { state := 14, phys := 6, ns := 1, type := 4, stamp := 5, sealed := true, copied := true, media := 50 } (at_ [(Reg.ZMG_CTL.EN, 1), (Reg.ZMG_CTL.CLEAN_EN, 1), (Reg.ZMG_NS_CFG.TYPE 1, 3), (Reg.ZMG_NS_ZONES.FIRST 1, 3), (Reg.ZMG_NS_COUNT.COUNT 1, 2), (Reg.ZMG_ZTBL_HI.ADDR, 16), (Reg.ZMG_NS_MC.ZONES 1, 8), (Reg.ZMG_DM_CFG.CRIT, 9), (Reg.ZMG_DM_CFG.DIRECT_MIN, 0), (Reg.ZMG_DM_CFG.FREE_MIN, 1), (Reg.ZMG_SPARE.LOW, 1), (Reg.ZMG_NS_CFG.LBAF 1, 0), (Reg.SYS_MODE.CUR, 3), (Reg.HCH_CTL.EN n, 1), (Reg.HCH_STAT.FAILED n, 0), (Reg.HCH_RETRY_CFG.STEP_EN, 0)]) with zmg := { failed := [(6, 41)], pend := [(1, 30, 20)] } } : State)) ((1 : Nat))), by decide +kernel⟩,
    ⟨((9 : Nat)), ((cx (.read 40 1) : Ctx)), ((9 : Nat)), ((40 : Nat)), ((1 : Nat)), ({ setZone 3 { state := 2, phys := 6, ns := 1 } (at_ [(Reg.ZMG_CTL.EN, 1), (Reg.ZMG_CTL.CLEAN_EN, 1), (Reg.ZMG_NS_CFG.TYPE 1, 3), (Reg.ZMG_NS_ZONES.FIRST 1, 3), (Reg.ZMG_NS_COUNT.COUNT 1, 2), (Reg.ZMG_ZTBL_HI.ADDR, 16), (Reg.ZMG_NS_MC.ZONES 1, 8), (Reg.ZMG_DM_CFG.CRIT, 9), (Reg.ZMG_DM_CFG.DIRECT_MIN, 0), (Reg.ZMG_DM_CFG.FREE_MIN, 1), (Reg.ZMG_SPARE.LOW, 1), (Reg.ZMG_NS_CFG.LBAF 1, 0), (Reg.ZMG_RECOV_CFG.HOST_MS, 9)]) with zmg := { failed := [(6, 41)] }, cmd := { ctxs := [cx (.read 40 1)] } } : State), by decide +kernel⟩,
    ⟨({ at_ [] with zmg := { ati := [(1, 2, 3, 4)] } } : State), by decide +kernel⟩,
    ⟨((3 : Nat)), ((true : Bool)), ((false : Bool)), (at_ [(Reg.ZMG_CTL.EN, 1), (Reg.ZMG_CTL.SCAN_EN, 1), (Reg.ZMG_SCAN_STAT.ZONE, 3)] : State), by decide +kernel⟩,
    ⟨((3 : Nat)), ((true : Bool)), ((true : Bool)), (at_ [(Reg.ZMG_CTL.EN, 1), (Reg.ZMG_CTL.SCAN_EN, 1), (Reg.ZMG_SCAN_STAT.ZONE, 3)] : State), by decide +kernel⟩,
    ⟨((3 : Nat)), (at_ [(Reg.ZMG_CTL.EN, 1), (Reg.ZMG_CTL.SCAN_EN, 1), (Reg.ZMG_SCAN_STAT.ZONE, 3)] : State), by decide +kernel⟩,
    ⟨({ at_ [(Reg.SPN_STAT.LOCK, 2)] with zmg := { lossAt := some 5 } } : State), by decide +kernel⟩,
    ⟨((3 : Nat)), ((List.replicate 30 ⟨true, 5⟩ : List Decoded)), (([⟨true, ofBytes (sectorBytes 6 30 7 0 8)⟩] : List Decoded)), ({ setZone 3 { state := 2, phys := 6, ns := 1, recov := true, host := 32, media := 30, stamp := 7 } (at_ [(Reg.ZMG_CTL.EN, 1), (Reg.ZMG_CTL.CLEAN_EN, 1), (Reg.ZMG_NS_CFG.TYPE 1, 3), (Reg.ZMG_NS_ZONES.FIRST 1, 3), (Reg.ZMG_NS_COUNT.COUNT 1, 2), (Reg.ZMG_ZTBL_HI.ADDR, 16), (Reg.ZMG_NS_MC.ZONES 1, 8), (Reg.ZMG_DM_CFG.CRIT, 9), (Reg.ZMG_DM_CFG.DIRECT_MIN, 0), (Reg.ZMG_DM_CFG.FREE_MIN, 1), (Reg.ZMG_SPARE.LOW, 1), (Reg.ZMG_NS_CFG.LBAF 1, 0), (Reg.SYS_MODE.MEDIA_FAULT, 0)]) with zmg := { order := [3] } } : State), by decide +kernel⟩,
    ⟨((3 : Nat)), ((0x10001000 : Nat)), ((List.replicate 30 ⟨true, 5⟩ : List Decoded)), ({ setZone 3 { state := 2, phys := 6, ns := 1, recov := true, host := 32, media := 30, stamp := 7 } (at_ [(Reg.ZMG_CTL.EN, 1), (Reg.ZMG_CTL.CLEAN_EN, 1), (Reg.ZMG_NS_CFG.TYPE 1, 3), (Reg.ZMG_NS_ZONES.FIRST 1, 3), (Reg.ZMG_NS_COUNT.COUNT 1, 2), (Reg.ZMG_ZTBL_HI.ADDR, 16), (Reg.ZMG_NS_MC.ZONES 1, 8), (Reg.ZMG_DM_CFG.CRIT, 9), (Reg.ZMG_DM_CFG.DIRECT_MIN, 0), (Reg.ZMG_DM_CFG.FREE_MIN, 1), (Reg.ZMG_SPARE.LOW, 1), (Reg.ZMG_NS_CFG.LBAF 1, 0), (Reg.SYS_MODE.MEDIA_FAULT, 0)]) with zmg := { order := [3] } } : State), by decide +kernel⟩,
    ⟨((0 : Nat)), ((true : Bool)), ({ at_ [(Reg.ZMG_CTL.EN, 1), (Reg.ZMG_JRNL.CKPT_MIN, 0), (Reg.ZMG_STAT.CKPT_BUSY, 0)] with zmg := { tail := [.zone 1 2] } } : State), by decide +kernel⟩,
    ⟨({ at_ [(Reg.ZMG_CTL.EN, 1), (Reg.ZMG_STAT.CKPT_BUSY, 1)] with zmg := { journaled := 9 } } : State), by decide +kernel⟩,
    ⟨((1 : Nat)), (at_ [] : State), by decide +kernel⟩,
    ⟨((1 : Nat)), ((false : Bool)), ((fun (k : Nat) => ({ at_ [(Reg.ZMG_CTL.EN, 1), (Reg.ZMG_CTL.CLEAN_EN, 1), (Reg.ZMG_NS_CFG.TYPE 1, 3), (Reg.ZMG_NS_ZONES.FIRST 1, 3), (Reg.ZMG_NS_COUNT.COUNT 1, 2), (Reg.ZMG_ZTBL_HI.ADDR, 16), (Reg.ZMG_NS_MC.ZONES 1, 8), (Reg.ZMG_DM_CFG.CRIT, 9), (Reg.ZMG_DM_CFG.DIRECT_MIN, 0), (Reg.ZMG_DM_CFG.FREE_MIN, 1), (Reg.ZMG_SPARE.LOW, 1), (Reg.ZMG_NS_CFG.LBAF 1, 0)] with zmg := { rebuilding := some k } } : State)) ((1 : Nat))), by decide +kernel⟩,
    ⟨((3 : Nat)), ((true : Bool)), ((fun (k : Nat) => ({ at_ [(Reg.ZMG_CTL.EN, 1), (Reg.ZMG_CTL.CLEAN_EN, 1), (Reg.ZMG_NS_CFG.TYPE 1, 3), (Reg.ZMG_NS_ZONES.FIRST 1, 3), (Reg.ZMG_NS_COUNT.COUNT 1, 2), (Reg.ZMG_ZTBL_HI.ADDR, 16), (Reg.ZMG_NS_MC.ZONES 1, 8), (Reg.ZMG_DM_CFG.CRIT, 9), (Reg.ZMG_DM_CFG.DIRECT_MIN, 0), (Reg.ZMG_DM_CFG.FREE_MIN, 1), (Reg.ZMG_SPARE.LOW, 1), (Reg.ZMG_NS_CFG.LBAF 1, 0)] with zmg := { rebuilding := some k } } : State)) ((3 : Nat))), by decide +kernel⟩⟩

/-- The hypotheses of OpticalServoMountsSeeksAndParks, clause by clause, are met. -/
theorem witness_optical_servo_mounts_seeks_and_parks :
    (∃ (s : State), (osvState s = 0)) ∧
    (∃ (s : State), (osvState s ≠ 0)) ∧
    (∃ (s : State), (seekRefused (get Reg.OSV_TARGET.LAYER s) (get Reg.OSV_TARGET.ADU s) s = true)) ∧
    (∃ (s : State), (seekRefused (get Reg.OSV_TARGET.LAYER s) (get Reg.OSV_TARGET.ADU s) s = false) ∧ (osvState s ≠ 5 ∨ s.osv.target.isSome = true)) ∧
    (∃ (s : State), (osvState s = 5) ∧ (seekRefused (get Reg.OSV_TARGET.LAYER s) (get Reg.OSV_TARGET.ADU s) s = false) ∧ (s.osv.target = none) ∧ (get Reg.OCH_STAT.WRITING s = 0) ∧ (get Reg.OSV_TARGET.LAYER s = curLayer s) ∧ (atTarget (get Reg.OSV_TARGET.ADU s) s = true) ∧ (get Reg.OSV_STAT.PERMIT s ≤ 1)) ∧
    (∃ (s : State), (osvState s = 5) ∧ (seekRefused (get Reg.OSV_TARGET.LAYER s) (get Reg.OSV_TARGET.ADU s) s = false) ∧ (s.osv.target = none)) ∧
    (∃ (s : State), (1 ≤ osvState s) ∧ (osvState s ≤ 8) ∧ (get Reg.OCH_STAT.WRITING s = 0) ∧ (get Reg.OSV_STAT.PERMIT s ≤ 1)) ∧
    (∃ (s : State), (1 ≤ osvState s) ∧ (osvState s ≤ 8) ∧ (get Reg.OCH_STAT.WRITING s = 1) ∧ (get Reg.OSV_STAT.PERMIT s ≤ 1)) ∧
    (∃ (s : State), (osvState s = 9) ∧ (s.osv.parking = false)) ∧
    (∃ (s : State), (osvState s = 0 ∨ 9 < osvState s ∨ osvState s = 9 ∧ s.osv.parking = true)) ∧
    (∃ (s : State), (osvState s = 10)) ∧
    (∃ (s : State), (osvState s ≠ 10)) ∧
    (∃ (p : Int) (s : State), (osvState s = 2 ∨ (osvState s = 8 ∧ s.osv.blind = false)) ∧ (s.osv.curve = some p) ∧ ((128 * get Reg.OSV_FOCUS_CFG.SUM_MIN s : Nat) ≤ p)) ∧
    (∃ (s : State), (osvState s = 2) ∧ (get Reg.OSV_FOCUS_CFG.SWEEPS s ≤ s.osv.tempos / sweepTempos s)) ∧
    (∃ (s : State), (osvState s = 3) ∧ (64 ≤ s.osv.feRow)) ∧
    (∃ (s : State), (osvState s = 4) ∧ (64 ≤ s.osv.teRow) ∧ (2 ≤ s.osv.addrRow) ∧ (s.osv.target = none) ∧ (s.osv.held = none)) ∧
    (∃ (s : State), (osvState s = 4) ∧ (64 ≤ s.osv.teRow) ∧ (2 ≤ s.osv.addrRow)) ∧
    (∃ (s : State), (osvState s = 6) ∧ (s.osv.crossed = jumpLayers s.osv)) ∧
    (∃ (s : State), (osvState s = 6) ∧ ((jumpLayers s.osv : Int) < s.osv.crossed)) ∧
    (∃ (s : State), (osvState s = 6) ∧ (s.osv.crossed < jumpLayers s.osv) ∧ (s.osv.brake = false) ∧ (brakeDue s = true)) ∧
    (∃ (q : Nat × Nat) (s : State), (osvState s = 5) ∧ (s.osv.waits = false) ∧ (s.osv.target = some q) ∧ (q.1 ≠ curLayer s) ∧ (s.osv.jumpTry < 2)) ∧
    (∃ (s : State), (osvState s ≠ 5) ∧ (osvState s ≠ 6)) ∧
    (∃ (s : State), (osvState s = 6) ∧ (jumpTmo s ≤ s.osv.jumpTime)) ∧
    (∃ (q : Nat × Nat) (s : State), (osvState s = 7) ∧ (2 ≤ s.osv.addrRow) ∧ (groupIdle 2 s = true) ∧ (s.osv.target = some q) ∧ (atTarget q.2 s = false) ∧ (s.osv.corr < get Reg.OSV_SEEK_CFG.CORR_MAX s)) ∧
    (∃ (q : Nat × Nat) (s : State), (osvState s = 7) ∧ (2 ≤ s.osv.addrRow) ∧ (groupIdle 2 s = true) ∧ (s.osv.target = some q) ∧ (atTarget q.2 s = false) ∧ (get Reg.OSV_SEEK_CFG.CORR_MAX s ≤ s.osv.corr) ∧ (s.osv.seekTry ≠ 0)) ∧
    (∃ (q : Nat × Nat) (s : State), (osvState s = 7) ∧ (2 ≤ s.osv.addrRow) ∧ (groupIdle 2 s = true) ∧ (s.osv.target = some q) ∧ (atTarget q.2 s = false) ∧ (get Reg.OSV_SEEK_CFG.CORR_MAX s ≤ s.osv.corr) ∧ (s.osv.seekTry = 0)) ∧
    (∃ (q : Nat × Nat) (s : State), (osvState s = 7) ∧ (2 ≤ s.osv.addrRow) ∧ (groupIdle 2 s = true) ∧ (s.osv.target = some q) ∧ (q.1 = curLayer s) ∧ (s.osv.held = none) ∧ (atTarget q.2 s = true)) ∧
    (∃ (s : State), (osvState s = 9) ∧ (20 ≤ s.osv.zeroRow) ∧ (groupIdle 2 s = true) ∧ (microPos 3 s = 0) ∧ (s.osv.spinAgain = false)) :=
  ⟨⟨(at_ [(Reg.OSV_STAT.STATE, 0), (Reg.OSV_STAT.PARKED, 1)] : State), by decide +kernel⟩,
    ⟨(at_ [(Reg.OSV_STAT.STATE, 5)] : State), by decide +kernel⟩,
    ⟨(at_ [(Reg.OSV_STAT.STATE, 9)] : State), by decide +kernel⟩,
    ⟨(at_ [(Reg.OSV_STAT.STATE, 4), (Reg.OSV_STAT.LTBL, 1), (Reg.OSV_TARGET.ADU, 9999)] : State), by decide +kernel⟩,
    ⟨(at_ [(Reg.OSV_STAT.STATE, 5), (Reg.OSV_STAT.LTBL, 1), (Reg.OSV_TARGET.ADU, 99), (Reg.OSV_ADDR.ADU, 98), (Reg.OSV_SEEK_CFG.LOOKAHEAD, 4), (Reg.OSV_STAT.LAYER, 0), (Reg.OSV_TARGET.LAYER, 0), (Reg.OCH_STAT.WRITING, 0), (Reg.OSV_STAT.PERMIT, 1)] : State), by decide +kernel⟩,
    ⟨(at_ [(Reg.OSV_STAT.STATE, 5), (Reg.OSV_STAT.LTBL, 1), (Reg.OSV_TARGET.ADU, 9999), (Reg.OSV_STAT.PERMIT, 1), (Reg.OSV_STAT.LAYER, 0)] : State), by decide +kernel⟩,
    ⟨(at_ [(Reg.OSV_STAT.STATE, 5), (Reg.OCH_STAT.WRITING, 0), (Reg.OSV_STAT.PERMIT, 1)] : State), by decide +kernel⟩,
    ⟨(at_ [(Reg.OSV_STAT.STATE, 5), (Reg.OCH_STAT.WRITING, 1), (Reg.OSV_STAT.PERMIT, 1)] : State), by decide +kernel⟩,
    ⟨({ at_ [(Reg.OSV_STAT.STATE, 9), (Reg.OSV_CMD.HELD, 1)] with osv := { spinAgain := true, held := some (1, 2) } } : State), by decide +kernel⟩,
    ⟨(at_ [(Reg.OSV_STAT.STATE, 0)] : State), by decide +kernel⟩,
    ⟨(at_ [(Reg.OSV_STAT.STATE, 10)] : State), by decide +kernel⟩,
    ⟨(at_ [(Reg.OSV_STAT.STATE, 3)] : State), by decide +kernel⟩,
    ⟨((10240 : Int)), ((fun (p : Int) => ({ at_ [(Reg.OSV_STAT.STATE, 2), (Reg.OSV_FOCUS_CFG.SUM_MIN, 80), (Reg.OSV_STAT.LAYER, 3)] with osv := { curve := some p } } : State)) ((10240 : Int))), by decide +kernel⟩,
    ⟨({ at_ [(Reg.OSV_STAT.STATE, 2), (Reg.OSV_FOCUS_CFG.SWEEPS, 3)] with osv := { tempos := 1000000 } } : State), by decide +kernel⟩,
    ⟨({ at_ [(Reg.OSV_STAT.STATE, 3)] with osv := { feRow := 64 } } : State), by decide +kernel⟩,
    ⟨({ at_ [(Reg.OSV_STAT.STATE, 4)] with osv := { teRow := 64, addrRow := 2, mounting := true } } : State), by decide +kernel⟩,
    ⟨((fun (q : Nat × Nat) => ({ at_ [(Reg.OSV_STAT.STATE, 4), (Reg.OSV_ADDR.ADU, 8)] with osv := { teRow := 64, addrRow := 2, target := some q, mounting := true } } : State)) (((0, 9) : Nat × Nat))), by decide +kernel⟩,
    ⟨({ at_ [(Reg.OSV_STAT.STATE, 6)] with osv := { jumpFrom := 1, jumpTo := 3, crossed := 2 } } : State), by decide +kernel⟩,
    ⟨({ at_ [(Reg.OSV_STAT.STATE, 6)] with osv := { jumpFrom := 1, jumpTo := 3, crossed := 3 } } : State), by decide +kernel⟩,
    ⟨({ at_ [(Reg.OSV_STAT.STATE, 6)] with osv := { jumpFrom := 1, jumpTo := 2, jumpWay := 99 } } : State), by decide +kernel⟩,
    ⟨(((2, 9) : Nat × Nat)), ((fun (q : Nat × Nat) => ({ at_ [(Reg.OSV_STAT.STATE, 5), (Reg.OSV_STAT.LAYER, 0)] with osv := { target := some q } } : State)) (((2, 9) : Nat × Nat))), by decide +kernel⟩,
    ⟨(at_ [(Reg.OSV_STAT.STATE, 3)] : State), by decide +kernel⟩,
    ⟨({ at_ [(Reg.OSV_STAT.STATE, 6), (Reg.OSV_LJ_CFG.TMO, 0)] with osv := { jumpFrom := 1, jumpTo := 3, jumpTime := 400 } } : State), by decide +kernel⟩,
    ⟨(((0, 77) : Nat × Nat)), ((fun (q : Nat × Nat) => ({ at_ [(Reg.OSV_STAT.STATE, 7), (Reg.OSV_ADDR.ADU, 90), (Reg.OSV_SEEK_CFG.CORR_MAX, 2)] with osv := { addrRow := 2, target := some q } } : State)) (((0, 77) : Nat × Nat))), by decide +kernel⟩,
    ⟨(((0, 77) : Nat × Nat)), ((fun (q : Nat × Nat) => ({ at_ [(Reg.OSV_STAT.STATE, 7), (Reg.OSV_ADDR.ADU, 90), (Reg.OSV_SEEK_CFG.CORR_MAX, 2)] with osv := { addrRow := 2, target := some q, corr := 2, seekTry := 1 } } : State)) (((0, 77) : Nat × Nat))), by decide +kernel⟩,
    ⟨(((0, 77) : Nat × Nat)), ((fun (q : Nat × Nat) => ({ at_ [(Reg.OSV_STAT.STATE, 7), (Reg.OSV_ADDR.ADU, 90), (Reg.OSV_SEEK_CFG.CORR_MAX, 2)] with osv := { addrRow := 2, target := some q, corr := 2 } } : State)) (((0, 77) : Nat × Nat))), by decide +kernel⟩,
    ⟨(((0, 91) : Nat × Nat)), ((fun (q : Nat × Nat) => ({ at_ [(Reg.OSV_STAT.STATE, 7), (Reg.OSV_ADDR.ADU, 90), (Reg.OSV_SEEK_CFG.LOOKAHEAD, 4), (Reg.OSV_STAT.LAYER, 0)] with osv := { addrRow := 2, target := some q } } : State)) (((0, 91) : Nat × Nat))), by decide +kernel⟩,
    ⟨({ at_ [(Reg.OSV_STAT.STATE, 9)] with osv := { zeroRow := 20, parking := true } } : State), by decide +kernel⟩⟩

/-- The hypotheses of OpticalServoFramesLossesAndAddresses, clause by clause, are met. -/
theorem witness_optical_servo_frames_losses_and_addresses :
    (∃ (l : Bool) (s : State), (get Reg.OLK_CTL.EN s = 1) ∧ (l = true)) ∧
    (∃ (b : List Nat) (l : Bool) (s : State), (get Reg.OLK_CTL.EN s = 1) ∧ (l = false) ∧ (servoGood (servoBlocks b) = false)) ∧
    (∃ (b : List Nat) (l : Bool) (s : State), (get Reg.OLK_CTL.EN s = 1) ∧ (l = false) ∧ (servoGood (servoBlocks b) = true)) ∧
    (∃ (s : State), (3 ≤ s.osv.missRow) ∧ (get Reg.OSV_FAULT.LINK s = 0) ∧ (s.osv.missRow < get Reg.OSV_FOCUS_CFG.BLIND_T s) ∧ (get Reg.OSV_STAT.PERMIT s ≤ 1)) ∧
    (∃ (s : State), (3 ≤ s.osv.missRow) ∧ (get Reg.OSV_FOCUS_CFG.BLIND_T s ≤ s.osv.missRow) ∧ (2 ≤ osvState s) ∧ (osvState s ≤ 8) ∧ (s.osv.blind = false)) ∧
    (∃ (s : State), (3 ≤ osvState s) ∧ (osvState s ≤ 7) ∧ (get Reg.OSV_FOCUS_CFG.LOSS_N s ≤ s.osv.sumLow ∨ get Reg.OSV_FOCUS_CFG.LOSS_N s ≤ s.osv.feHigh) ∧ (get Reg.OSV_STAT.PERMIT s ≤ 1)) ∧
    (∃ (s : State), (4 ≤ osvState s) ∧ (osvState s ≤ 7) ∧ (get Reg.OSV_FOCUS_CFG.LOSS_N s ≤ s.osv.teHigh ∨ 2 ≤ s.osv.addrOff) ∧ (get Reg.OSV_STAT.PERMIT s ≤ 1)) ∧
    (∃ (s : State), (osvState s = 8) ∧ (3 ≤ s.osv.tempos / sweepTempos s) ∧ (s.osv.blind = false)) ∧
    (∃ (l : List Int) (s : State), (get Reg.OSV_STAT.WOB_LOCK s = 0) ∧ (256 ≤ l.length) ∧ (l.all (fun e => wobbleIn e s) = true)) ∧
    (∃ (l : List Int) (s : State), (get Reg.OSV_STAT.WOB_LOCK s = 1) ∧ ((64 ≤ l.length ∧ l.all (fun e => !wobbleIn e s) = true) ∨ 4 ≤ s.osv.badRow) ∧ (get Reg.OSV_STAT.PERMIT s ≤ 1)) ∧
    (∃ (w : Nat), (unitParity w = false)) ∧
    (∃ (w : Nat) (s : State), (unitParity w = true) ∧ (get Reg.OSV_ADDR.VALID s = 0) ∧ (s.osv.addrRow = 0)) ∧
    (∃ (w : Nat), (unitParity w = true)) ∧
    (∃ (s : State), (get Reg.OSV_STAT.PERMIT s = 0) ∧ (opticalHolds s = true) ∧ ((if s.osv.fell then get Reg.OSV_WR_CFG.REQUAL s else 1) ≤ s.osv.permRow)) ∧
    (∃ (l : List (List Nat)) (s : State), (osvState s = 5) ∧ (get Reg.OSV_STAT.LTBL s = 0) ∧ (layerCount s ≤ l.length) ∧ (l.length ≤ 16) ∧ (l ≠ [])) :=
  ⟨⟨((true : Bool)), (at_ [(Reg.OLK_CTL.EN, 1)] : State), by decide +kernel⟩,
    ⟨(([0x2D, 0x71] : List Nat)), ((false : Bool)), (at_ [(Reg.OLK_CTL.EN, 1)] : State), by decide +kernel⟩,
    ⟨(((fun l => l ++ [blkCrc l]) ([0x2D] ++ (List.range 16).map (fun i => 0x71 + 256 * i) ++ [0x66]) : List Nat)), ((false : Bool)), ({ at_ [(Reg.OLK_CTL.EN, 1), (Reg.OSV_STAT.PERMIT, 1), (Reg.OSV_STAT.STATE, 6)] with osv := { jumpTo := 3 } } : State), by decide +kernel⟩,
    ⟨({ at_ [(Reg.OSV_FAULT.LINK, 0), (Reg.OSV_FOCUS_CFG.BLIND_T, 20), (Reg.OSV_STAT.PERMIT, 1)] with osv := { missRow := 3 } } : State), by decide +kernel⟩,
    ⟨({ at_ [(Reg.OSV_STAT.STATE, 5), (Reg.OSV_FOCUS_CFG.BLIND_T, 4)] with osv := { missRow := 4 } } : State), by decide +kernel⟩,
    ⟨({ at_ [(Reg.OSV_STAT.STATE, 5), (Reg.OSV_FOCUS_CFG.LOSS_N, 4), (Reg.OSV_STAT.PERMIT, 1)] with osv := { sumLow := 4 } } : State), by decide +kernel⟩,
    ⟨({ at_ [(Reg.OSV_STAT.STATE, 5), (Reg.OSV_FOCUS_CFG.LOSS_N, 4), (Reg.OSV_STAT.PERMIT, 1)] with osv := { addrOff := 2 } } : State), by decide +kernel⟩,
    ⟨({ at_ [(Reg.OSV_STAT.STATE, 8)] with osv := { tempos := 1000000 } } : State), by decide +kernel⟩,
    ⟨((List.replicate 256 5 : List Int)), (at_ [(Reg.OSV_STAT.WOB_LOCK, 0), (Reg.OSV_WOB_CFG.PHASE_TOL, 9)] : State), by decide +kernel⟩,
    ⟨((List.replicate 64 9999999 : List Int)), (at_ [(Reg.OSV_STAT.WOB_LOCK, 1), (Reg.OSV_STAT.PERMIT, 1)] : State), by decide +kernel⟩,
    ⟨((1 : Nat)), by decide +kernel⟩,
    ⟨((9 : Nat)), (at_ [(Reg.OSV_ADDR.VALID, 0)] : State), by decide +kernel⟩,
    ⟨((9 : Nat)), by decide +kernel⟩,
    ⟨({ at_ [(Reg.OSV_STAT.STATE, 5), (Reg.OSV_STAT.PERMIT, 0), (Reg.OSV_STAT.WOB_LOCK, 1), (Reg.OSV_DSTAT.STATE, 7), (Reg.STG_STAT.MISS 1, 0), (Reg.OSV_WR_CFG.REQUAL, 9), (Reg.OSV_LTBL_HI.ADDR, 16), (Reg.OSV_LTBL_LO.ADDR, 0), (Reg.OSV_STAT.LAYER, 0)] with osv := { permRow := 9, fell := true }, mem := [(0x100000000F, 1)] } : State), by decide +kernel⟩,
    ⟨(([[1,2,3],[4]] : List (List Nat))), (at_ [(Reg.OSV_STAT.STATE, 5), (Reg.OSV_STAT.LTBL, 0)] : State), by decide +kernel⟩⟩

/-- The hypotheses of DiscSpindleTransitions, clause by clause, are met. -/
theorem witness_disc_spindle_transitions :
    (∃ (s : State), (osvState s = 1) ∧ (s.osv.disc.target = 0 ∨ discState s = 0 ∨ discState s = 13) ∧ (get Reg.OSV_DSPIN.TARGET s ≠ 0) ∧ (discState s = 0 ∨ discState s = 13)) ∧
    (∃ (s : State), (osvState s = 1) ∧ (s.osv.disc.target = 0 ∨ discState s = 0 ∨ discState s = 13) ∧ (get Reg.OSV_DSPIN.TARGET s ≠ 0) ∧ (discState s = 9)) ∧
    (∃ (s : State), (osvState s = 1) ∧ (s.osv.disc.target = 0 ∨ discState s = 0 ∨ discState s = 13) ∧ (get Reg.OSV_DSPIN.TARGET s ≠ 0)) ∧
    (∃ (s : State), (osvState s = 9 ∧ s.osv.parking = true ∨ osvState s = 0) ∧ (3 ≤ discState s) ∧ (discState s ≤ 5)) ∧
    (∃ (s : State), (osvState s = 9 ∧ s.osv.parking = true ∨ osvState s = 0) ∧ (discState s = 6 ∨ discState s = 7)) ∧
    (∃ (s : State), (osvState s = 9 ∧ s.osv.parking = true ∨ osvState s = 0) ∧ (s.osv.disc.target ≠ 0) ∧ (discState s < 3 ∨ 7 < discState s)) ∧
    (∃ (k : Nat) (s : State), (discNext s = some k)) ∧
    (∃ (s : State), (discNext s = none)) ∧
    (∃ (s : State), (discState s = 6) ∧ (s.osv.disc.bandRow < 20000) ∧ (s.osv.disc.startAt + 2000000 ≤ tmpCount s)) ∧
    (∃ (s : State), (discState s = 8 ∧ discBack s = false ∧ s.osv.disc.lossAt + 4000 ≤ tmpCount s ∨ discState s = 5 ∧ s.osv.disc.agreeRow < 64 ∧ 3 * 200000 * get Reg.OSV_DRAMP.HANDOVER s ≤ 2 * s.osv.disc.openV ∨ (discState s = 4 ∧ discNext s = none ∨ discState s = 5) ∧ turnsBack s = true)) ∧
    (∃ (s : State), (discState s < 4 ∨ discState s = 7 ∨ 8 < discState s)) ∧
    (∃ (s : State), (discState s = 11) ∧ (100000 ≤ s.osv.disc.tempos)) ∧
    (∃ (s : State), (discState s = 12)) ∧
    (∃ (s : State), (discState s ≠ 12)) ∧
    (∃ (s : State), (discState s = 7) ∧ (2000000 ≤ s.osv.disc.tempos)) :=
  ⟨⟨(at_ [(Reg.OSV_STAT.STATE, 1), (Reg.OSV_DSTAT.STATE, 0), (Reg.OSV_DSPIN.TARGET, 5000)] : State), by decide +kernel⟩,
    ⟨(at_ [(Reg.OSV_STAT.STATE, 1), (Reg.OSV_DSTAT.STATE, 9), (Reg.OSV_DSPIN.TARGET, 5000)] : State), by decide +kernel⟩,
    ⟨(at_ [(Reg.OSV_STAT.STATE, 1), (Reg.OSV_DSTAT.STATE, 7), (Reg.OSV_DSPIN.TARGET, 5000)] : State), by decide +kernel⟩,
    ⟨({ at_ [(Reg.OSV_STAT.STATE, 9), (Reg.OSV_DSTAT.STATE, 4)] with osv := { parking := true } } : State), by decide +kernel⟩,
    ⟨({ at_ [(Reg.OSV_STAT.STATE, 9), (Reg.OSV_DSTAT.STATE, 7)] with osv := { parking := true } } : State), by decide +kernel⟩,
    ⟨({ at_ [(Reg.OSV_STAT.STATE, 0), (Reg.OSV_DSTAT.STATE, 11)] with osv := { disc := { target := 9 } } } : State), by decide +kernel⟩,
    ⟨((7 : Nat)), ({ at_ [(Reg.OSV_STAT.STATE, 1), (Reg.OSV_DSTAT.STATE, 6), (Reg.OSV_DSPIN.TARGET, 5000)] with osv := { disc := { bandRow := 20000, target := 5000 } } } : State), by decide +kernel⟩,
    ⟨(at_ [(Reg.OSV_STAT.STATE, 1), (Reg.OSV_DSTAT.STATE, 6), (Reg.OSV_DSPIN.TARGET, 5000)] : State), by decide +kernel⟩,
    ⟨(at_ [(Reg.OSV_STAT.STATE, 5), (Reg.OSV_DSTAT.STATE, 6), (Reg.OSV_DSPIN.TARGET, 5000), (Reg.OSV_DSTAT.ATTEMPTS, 2), (Reg.TMP_COUNT_LO.COUNT, 2000000)] : State), by decide +kernel⟩,
    ⟨({ at_ [(Reg.OSV_STAT.STATE, 1), (Reg.OSV_DSTAT.STATE, 5), (Reg.OSV_DRAMP.HANDOVER, 400), (Reg.OSV_DSTAT.ATTEMPTS, 3)] with osv := { disc := { openV := 200000000 } } } : State), by decide +kernel⟩,
    ⟨(at_ [(Reg.OSV_STAT.STATE, 1), (Reg.OSV_DSTAT.STATE, 3)] : State), by decide +kernel⟩,
    ⟨({ at_ [(Reg.OSV_DSTAT.STATE, 11), (Reg.OSV_DSTAT.ATTEMPTS, 1)] with osv := { disc := { tempos := 100000 } } } : State), by decide +kernel⟩,
    ⟨(at_ [(Reg.OSV_DSTAT.STATE, 12), (Reg.OSV_DSTAT.ATTEMPTS, 3)] : State), by decide +kernel⟩,
    ⟨(at_ [(Reg.OSV_DSTAT.STATE, 3), (Reg.OSV_DSTAT.ATTEMPTS, 3)] : State), by decide +kernel⟩,
    ⟨({ at_ [(Reg.OSV_DSTAT.STATE, 7), (Reg.OSV_DSTAT.ATTEMPTS, 2)] with osv := { disc := { tempos := 2000000 } } } : State), by decide +kernel⟩⟩

/-- The hypotheses of OpticalClustersAreReadAndVerified, clause by clause, are met. -/
theorem witness_optical_clusters_are_read_and_verified :
    (∃ (s : State), (s.och.queue.length < 3) ∧ (get Reg.OCH_STAT.READY s = 1) ∧ (get Reg.OCH_CMD.SLOT s < 3)) ∧
    (∃ (s : State), (s.och.queue.length < 3) ∧ (get Reg.OCH_STAT.READY s = 1) ∧ (get Reg.OCH_CMD.SLOT s < 3)) ∧
    (∃ (s : State), (3 ≤ s.och.queue.length ∨ get Reg.OCH_STAT.READY s = 0 ∨ 3 ≤ get Reg.OCH_CMD.SLOT s)) ∧
    (∃ (s : State), (s.och.queue.length < 3) ∧ (get Reg.OCH_STAT.READY s = 1) ∧ (get Reg.OCH_CMD.SLOT s < 3) ∧ (s.och.job.isSome = true)) ∧
    (∃ (s : State), (s.och.queue.length < 3) ∧ (get Reg.OCH_STAT.READY s = 1) ∧ (get Reg.OCH_CMD.SLOT s < 3) ∧ (s.och.job = none) ∧ (s.och.queue = []) ∧ (get Reg.OCH_CTL.EN s = 1)) ∧
    (∃ (s : State), (3 ≤ s.och.queue.length ∨ get Reg.OCH_STAT.READY s = 0 ∨ 3 ≤ get Reg.OCH_CMD.SLOT s)) ∧
    (∃ (s : State), (s.och.queue.length < 3) ∧ (get Reg.OCH_STAT.READY s = 1) ∧ (get Reg.OCH_CMD.SLOT s < 3) ∧ (s.och.job.isSome = true)) ∧
    (∃ (s : State), (s.och.queue.length < 3) ∧ (get Reg.OCH_STAT.READY s = 1) ∧ (get Reg.OCH_CMD.SLOT s < 3) ∧ (s.och.job = none) ∧ (s.och.queue = []) ∧ (get Reg.OCH_CTL.EN s = 1)) ∧
    (∃ (j : OchJob) (s : State), (s.och.job = some j) ∧ (j.op = 1) ∧ (j.slot < 3) ∧ (s.och.kept = [])) ∧
    (∃ (reads : List ClusterRead) (j : OchJob) (s : State), (s.och.job = some j) ∧ (j.op = 1) ∧ (j.slot < 3) ∧ (s.och.kept ≠ []) ∧ (get Reg.OCH_ECC_CFG.RETRIES s ≤ reads.length ∨ (rereads false s.och.kept (reads.take (get Reg.OCH_ECC_CFG.RETRIES s)) s).1.1.isSome = true)) ∧
    (∃ (j : OchJob) (s : State), (s.och.job = some j) ∧ (j.op = 3) ∧ (j.slot < 3)) ∧
    (∃ (s : State), (s.och.noSync = true)) ∧
    (∃ (z i a : Nat) (c : ZoneCopy) (s : State), (s.och.copies.find? (fun c => c.zone == z) = some c) ∧ (copyAddr c i s = some a) ∧ (get Reg.OCH_STAT.READY s = 1) ∧ (get Reg.OCH_STAT.WRITING s = 0)) :=
  ⟨⟨(at_ [(Reg.OCH_STAT.READY, 1), (Reg.OCH_CTL.EN, 1), (Reg.OCH_CMD.SLOT, 1), (Reg.OCH_ADDR.CLUSTER, 70), (Reg.OCH_ADDR.LAYER, 2)] : State), by decide +kernel⟩,
    ⟨(at_ [(Reg.OCH_STAT.READY, 1), (Reg.OCH_CTL.EN, 1), (Reg.OCH_CMD.SLOT, 1), (Reg.OCH_ADDR.CLUSTER, 70), (Reg.OCH_ADDR.LAYER, 2)] : State), by decide +kernel⟩,
    ⟨(at_ [(Reg.OCH_CMD.SLOT, 3)] : State), by decide +kernel⟩,
    ⟨({ at_ [(Reg.OCH_STAT.READY, 1), (Reg.OCH_CTL.EN, 1), (Reg.OCH_CMD.SLOT, 1), (Reg.OCH_ADDR.CLUSTER, 70), (Reg.OCH_ADDR.LAYER, 2)] with och := { job := some ⟨1, 0, 0, 64, .command⟩, queue := [⟨1, 0, 0, 64, .command⟩] } } : State), by decide +kernel⟩,
    ⟨(at_ [(Reg.OCH_STAT.READY, 1), (Reg.OCH_CTL.EN, 1), (Reg.OCH_CMD.SLOT, 1), (Reg.OCH_ADDR.CLUSTER, 70), (Reg.OCH_ADDR.LAYER, 2)] : State), by decide +kernel⟩,
    ⟨(at_ [(Reg.OCH_CMD.SLOT, 3)] : State), by decide +kernel⟩,
    ⟨({ at_ [(Reg.OCH_STAT.READY, 1), (Reg.OCH_CTL.EN, 1), (Reg.OCH_CMD.SLOT, 1), (Reg.OCH_ADDR.CLUSTER, 70), (Reg.OCH_ADDR.LAYER, 2)] with och := { job := some ⟨1, 0, 0, 64, .command⟩, queue := [⟨1, 0, 0, 64, .command⟩] } } : State), by decide +kernel⟩,
    ⟨(at_ [(Reg.OCH_STAT.READY, 1), (Reg.OCH_CTL.EN, 1), (Reg.OCH_CMD.SLOT, 1), (Reg.OCH_ADDR.CLUSTER, 70), (Reg.OCH_ADDR.LAYER, 2)] : State), by decide +kernel⟩,
    ⟨((⟨1, 1, 2, 70, .command⟩ : OchJob)), ((fun (j : OchJob) => ({ at_ [(Reg.OCH_CTL.EN, 1), (Reg.OCH_VERIFY_CFG.ROW_MAX, 8)] with och := { job := some j, opc := [2] } } : State)) ((⟨1, 1, 2, 70, .command⟩ : OchJob))), by decide +kernel⟩,
    ⟨(([⟨0, []⟩, ⟨0, []⟩] : List ClusterRead)), ((⟨1, 1, 2, 70, .command⟩ : OchJob)), ((fun (j : OchJob) => ({ at_ [(Reg.OCH_CTL.EN, 1), (Reg.OCH_VERIFY_CFG.ROW_MAX, 8), (Reg.OCH_ECC_CFG.RETRIES, 2)] with och := { job := some j, kept := [{}], opc := [2] } } : State)) ((⟨1, 1, 2, 70, .command⟩ : OchJob))), by decide +kernel⟩,
    ⟨((⟨3, 1, 2, 70, .command⟩ : OchJob)), ((fun (j : OchJob) => ({ at_ [(Reg.OCH_CTL.EN, 1), (Reg.OCH_VERIFY_CFG.ROW_MAX, 8)] with och := { job := some j, opc := [2] } } : State)) ((⟨3, 1, 2, 70, .command⟩ : OchJob))), by decide +kernel⟩,
    ⟨({ at_ [] with och := { noSync := true } } : State), by decide +kernel⟩,
    ⟨((0 : Nat)), ((0 : Nat)), ((addrOf 2 70 : Nat)), (({ zone := 0, ns := 1, first := some (addrOf 2 70) } : ZoneCopy)), ((fun (c : ZoneCopy) => ({ at_ [(Reg.OCH_STAT.READY, 1), (Reg.OCH_STAT.WRITING, 0)] with och := { copies := [c] } } : State)) (({ zone := 0, ns := 1, first := some (addrOf 2 70) } : ZoneCopy))), by decide +kernel⟩⟩

/-- The hypotheses of OpticalWritesCopiesAndMounts, clause by clause, are met. -/
theorem witness_optical_writes_copies_and_mounts :
    (∃ (s : State), (s.och.queue.length < 3) ∧ (get Reg.OCH_STAT.READY s = 1) ∧ (get Reg.OCH_CMD.SLOT s < 3)) ∧
    (∃ (s : State), (s.och.queue.length < 3) ∧ (get Reg.OCH_STAT.READY s = 1) ∧ (get Reg.OCH_CMD.SLOT s < 3)) ∧
    (∃ (s : State), (3 ≤ s.och.queue.length ∨ get Reg.OCH_STAT.READY s = 0 ∨ 3 ≤ get Reg.OCH_CMD.SLOT s)) ∧
    (∃ (s : State), (s.och.queue.length < 3) ∧ (get Reg.OCH_STAT.READY s = 1) ∧ (get Reg.OCH_CMD.SLOT s < 3) ∧ (s.och.job.isSome = true)) ∧
    (∃ (s : State), (3 ≤ s.och.queue.length ∨ get Reg.OCH_STAT.READY s = 0 ∨ 3 ≤ get Reg.OCH_CMD.SLOT s)) ∧
    (∃ (s : State), (s.och.queue.length < 3) ∧ (get Reg.OCH_STAT.READY s = 1) ∧ (get Reg.OCH_CMD.SLOT s < 3) ∧ (s.och.job.isSome = true)) ∧
    (∃ (s : State), (s.och.queue.length < 3) ∧ (get Reg.OCH_STAT.READY s = 1) ∧ (get Reg.OCH_CMD.SLOT s < 3) ∧ (s.och.job = none) ∧ (s.och.queue = []) ∧ (get Reg.OCH_CTL.EN s = 1) ∧ (get Reg.OSV_STAT.PERMIT s = 1)) ∧
    (∃ (s : State), (s.och.queue.length < 3) ∧ (get Reg.OCH_STAT.READY s = 1) ∧ (get Reg.OCH_CMD.SLOT s < 3) ∧ (s.och.job = none) ∧ (s.och.queue = []) ∧ (get Reg.OCH_CTL.EN s = 1) ∧ (get Reg.OSV_STAT.PERMIT s = 1) ∧ (s.och.opc.contains (get Reg.OCH_ADDR.LAYER s) = true)) ∧
    (∃ (j : OchJob) (s : State), (s.och.job = some j) ∧ (j.op = 2) ∧ (j.slot < 3) ∧ (get Reg.OSV_STAT.WOB_LOCK s = 1)) ∧
    (∃ (j : OchJob) (s : State), (s.och.job = some j) ∧ (j.op = 2) ∧ (j.slot < 3) ∧ (get Reg.OSV_STAT.WOB_LOCK s = 0)) ∧
    (∃ (u : List (List Nat)) (j : OchJob) (s : State), (s.och.job = some j) ∧ (j.op = 4) ∧ (j.slot < 3) ∧ (opcUnit j.layer u s = none) ∧ (255 ≤ layerNat j.layer 31 1 s + u.length)) ∧
    (∃ (u : List (List Nat)) (n : Nat) (j : OchJob) (s : State), (s.och.job = some j) ∧ (j.op = 4) ∧ (j.slot < 3) ∧ (opcUnit j.layer u s = some n)) ∧
    (∃ (s : State), (s.och.queue.all (fun q => decide (q.slot < 3)) = true) ∧ ((s.och.job).all (fun q => decide (q.slot < 3)) = true)) ∧
    (∃ (j : OchJob) (l : List OchJob) (s : State), (s.och.voided = j :: l) ∧ (j.use ≠ .record) ∧ (j.use ≠ .orphan) ∧ (get Reg.OCH_NEXT.VALID s = 1) ∧ (s.och.job.isSome = true)) ∧
    (∃ (j : OchJob) (l : List OchJob) (s : State), (s.och.voided = j :: l) ∧ (j.use = .record)) ∧
    (∃ (j : OchJob) (l : List OchJob) (s : State), (s.och.voided = j :: l)) ∧
    (∃ (n k i : Nat) (c : ZoneCopy) (e : SealEntry) (s : State), (n < 5) ∧ ((copyNow s).1 = some (c, e)) ∧ (spareSlot s = some k) ∧ ((List.range 4096).find? (fun i => !c.made.contains i) = some i) ∧ (mayCopy s = true) ∧ (copyIdle s = true) ∧ (streamRuns n s = true)) ∧
    (∃ (k : Nat) (c : ZoneCopy) (s : State), (s.och.copy = some c) ∧ (spareSlot s = some k) ∧ ((List.range 4096).all (fun i => c.made.contains i) = true) ∧ (c.dir = none) ∧ (mayCopy s = true) ∧ (copyIdle s = true) ∧ (s.och.job.isSome = true)) ∧
    (∃ (obs : List ClusterRead) (c : ZoneCopy) (s : State), (s.och.copy = some c) ∧ (c.dir ≠ none) ∧ (mayCopy s = true) ∧ (copyIdle s = true) ∧ (get Reg.OCH_CTL.VERIFY_EN s = 1) ∧ (obs.length = 4096)) ∧
    (∃ (f : List ((Nat × Nat) × ClusterRead)) (d : List (Nat × Nat)) (s : State), (osvState s = 5) ∧ (get Reg.OSV_STAT.LTBL s = 1) ∧ (get Reg.OCH_NEXT.VALID s = 0)) ∧
    (∃ (k : Nat) (s : State), (s.och.recorded = false) ∧ (dataWriteWaits s = true) ∧ (spareSlot s = some k) ∧ (s.och.job.isSome = true)) ∧
    (∃ (s : State), (s.och.recorded = false) ∧ (dataWriteWaits s = true)) ∧
    (∃ (s : State), (discFails s = true) ∧ (get Reg.OCH_DISC.FAILED s = 0)) :=
  ⟨⟨(at_ [(Reg.OCH_STAT.READY, 1), (Reg.OCH_CTL.EN, 1), (Reg.OCH_CMD.SLOT, 1), (Reg.OCH_ADDR.CLUSTER, 70), (Reg.OCH_ADDR.LAYER, 2)] : State), by decide +kernel⟩,
    ⟨(at_ [(Reg.OCH_STAT.READY, 1), (Reg.OCH_CTL.EN, 1), (Reg.OCH_CMD.SLOT, 1), (Reg.OCH_ADDR.CLUSTER, 70), (Reg.OCH_ADDR.LAYER, 2)] : State), by decide +kernel⟩,
    ⟨(at_ [(Reg.OCH_CMD.SLOT, 3)] : State), by decide +kernel⟩,
    ⟨({ at_ [(Reg.OCH_STAT.READY, 1), (Reg.OCH_CTL.EN, 1), (Reg.OCH_CMD.SLOT, 1), (Reg.OCH_ADDR.CLUSTER, 70), (Reg.OCH_ADDR.LAYER, 2)] with och := { job := some ⟨1, 0, 0, 64, .command⟩, queue := [⟨1, 0, 0, 64, .command⟩] } } : State), by decide +kernel⟩,
    ⟨(at_ [(Reg.OCH_CMD.SLOT, 3)] : State), by decide +kernel⟩,
    ⟨({ at_ [(Reg.OCH_STAT.READY, 1), (Reg.OCH_CTL.EN, 1), (Reg.OCH_CMD.SLOT, 1), (Reg.OCH_ADDR.CLUSTER, 70), (Reg.OCH_ADDR.LAYER, 2)] with och := { job := some ⟨1, 0, 0, 64, .command⟩, queue := [⟨1, 0, 0, 64, .command⟩] } } : State), by decide +kernel⟩,
    ⟨(at_ [(Reg.OCH_STAT.READY, 1), (Reg.OCH_CTL.EN, 1), (Reg.OCH_CMD.SLOT, 1), (Reg.OCH_ADDR.CLUSTER, 70), (Reg.OCH_ADDR.LAYER, 2), (Reg.OSV_STAT.PERMIT, 1)] : State), by decide +kernel⟩,
    ⟨({ at_ [(Reg.OCH_STAT.READY, 1), (Reg.OCH_CTL.EN, 1), (Reg.OCH_CMD.SLOT, 1), (Reg.OCH_ADDR.CLUSTER, 70), (Reg.OCH_ADDR.LAYER, 2), (Reg.OSV_STAT.PERMIT, 1)] with och := { opc := [2] } } : State), by decide +kernel⟩,
    ⟨((⟨2, 1, 2, 70, .command⟩ : OchJob)), ((fun (j : OchJob) => ({ at_ [(Reg.OCH_CTL.EN, 1), (Reg.OCH_VERIFY_CFG.ROW_MAX, 8), (Reg.OSV_STAT.WOB_LOCK, 1)] with och := { job := some j, opc := [2] } } : State)) ((⟨2, 1, 2, 70, .command⟩ : OchJob))), by decide +kernel⟩,
    ⟨((⟨2, 1, 2, 70, .command⟩ : OchJob)), ((fun (j : OchJob) => ({ at_ [(Reg.OCH_CTL.EN, 1), (Reg.OCH_VERIFY_CFG.ROW_MAX, 8), (Reg.OSV_STAT.WOB_LOCK, 0)] with och := { job := some j, opc := [2] } } : State)) ((⟨2, 1, 2, 70, .command⟩ : OchJob))), by decide +kernel⟩,
    ⟨((List.replicate 255 [128] : List (List Nat))), ((⟨4, 1, 2, 70, .command⟩ : OchJob)), ((fun (j : OchJob) => ({ at_ [(Reg.OCH_CTL.EN, 1), (Reg.OCH_VERIFY_CFG.ROW_MAX, 8)] with och := { job := some j, opc := [2] } } : State)) ((⟨4, 1, 2, 70, .command⟩ : OchJob))), by decide +kernel⟩,
    ⟨(([[]] : List (List Nat))), ((0 : Nat)), ((⟨4, 1, 2, 70, .command⟩ : OchJob)), ((fun (j : OchJob) => ({ at_ [(Reg.OCH_CTL.EN, 1), (Reg.OCH_VERIFY_CFG.ROW_MAX, 8)] with och := { job := some j, opc := [2] } } : State)) ((⟨4, 1, 2, 70, .command⟩ : OchJob))), by decide +kernel⟩,
    ⟨({ at_ [(Reg.OCH_CTL.ABORT, 1), (Reg.OCH_STAT.WRITING, 1), (Reg.OCH_STAT.STATE, 2), (Reg.OCH_STAT.QUEUED, 1)] with och := { job := some ⟨2, 1, 2, 70, .command⟩, queue := [⟨1, 0, 0, 64, .command⟩] } } : State), by decide +kernel⟩,
    ⟨((⟨2, 1, 2, 70, .command⟩ : OchJob)), (([] : List OchJob)), ((fun (j : OchJob) => ({ at_ [(Reg.OCH_NEXT.VALID, 1), (Reg.OCH_NEXT.CLUSTER, 71)] with och := { job := some ⟨1, 0, 0, 64, .command⟩, voided := [j] } } : State)) ((⟨2, 1, 2, 70, .command⟩ : OchJob))), by decide +kernel⟩,
    ⟨((⟨2, 1, 2, 70, .record⟩ : OchJob)), (([] : List OchJob)), ((fun (j : OchJob) => ({ at_ [] with och := { voided := [j] } } : State)) ((⟨2, 1, 2, 70, .record⟩ : OchJob))), by decide +kernel⟩,
    ⟨((⟨2, 1, 2, 70, .orphan⟩ : OchJob)), (([] : List OchJob)), ((fun (j : OchJob) (c : ZoneCopy) => ({ at_ [] with och := { voided := [j], copy := some c } } : State)) ((⟨2, 1, 2, 70, .orphan⟩ : OchJob)) (({ zone := 5, ns := 1 } : ZoneCopy))), by decide +kernel⟩,
    ⟨((1 : Nat)), ((0 : Nat)), ((2 : Nat)), (({ zone := 5, ns := 1, made := [0, 1] } : ZoneCopy)), (({ zone := 5, ns := 1, seq := 1, life := 0, bytes := [], pubkey := [], cert := [], groups := [] } : SealEntry)), ((fun (n : Nat) (c : ZoneCopy) (e : SealEntry) => ({ at_ [(Reg.OCH_STAT.READY, 1), (Reg.OCH_CTL.EN, 1), (Reg.SYS_MODE.CUR, 3), (Reg.HCH_CTL.EN n, 1), (Reg.HCH_STAT.FAILED n, 0), (Reg.HCH_SPARE.SEL, 7)] with och := { copy := some c }, seals := { log := [e] } } : State)) ((1 : Nat)) (({ zone := 5, ns := 1, made := [0, 1] } : ZoneCopy)) (({ zone := 5, ns := 1, seq := 1, life := 0, bytes := [], pubkey := [], cert := [], groups := [] } : SealEntry))), by decide +kernel⟩,
    ⟨1, { zone := 5, ns := 1, made := List.range 4096 }, { at_ [(Reg.OCH_STAT.READY, 1), (Reg.OCH_CTL.EN, 1), (Reg.SYS_MODE.CUR, 3)] with och := { job := some ⟨1, 0, 0, 64, .command⟩, copy := some { zone := 5, ns := 1, made := List.range 4096 } } }, rfl, by decide +kernel, List.all_eq_true.2 (fun _ h => List.contains_iff_mem.2 h), rfl, by decide +kernel, by decide +kernel, by decide +kernel⟩,
    ⟨((List.replicate 4096 ⟨0, []⟩ : List ClusterRead)), (({ zone := 5, ns := 1, first := some 70, dir := some 99, made := [0, 1, 2] } : ZoneCopy)), ((fun (c : ZoneCopy) => ({ at_ [(Reg.OCH_STAT.READY, 1), (Reg.OCH_CTL.EN, 1), (Reg.OCH_CTL.VERIFY_EN, 1), (Reg.SYS_MODE.CUR, 3)] with och := { copy := some c } } : State)) (({ zone := 5, ns := 1, first := some 70, dir := some 99, made := [0, 1, 2] } : ZoneCopy))), by decide +kernel⟩,
    ⟨(([((0, 64), ⟨0, [128]⟩)] : List ((Nat × Nat) × ClusterRead))), (([(70, 0)] : List (Nat × Nat))), ({ at_ [(Reg.OSV_STAT.STATE, 5), (Reg.OSV_STAT.LTBL, 1), (Reg.OCH_NEXT.VALID, 0)] with boot := { image := some ⟨0x584E5445, 1, 1024, 1000, 7, 0x8650, 0, 0, 0, [], [], [], 5, [], [], [], [], 2, 1000, []⟩ } } : State), by decide +kernel⟩,
    ⟨((1 : Nat)), ({ at_ [] with och := { job := some ⟨2, 0, 0, 64, .command⟩, record := [[1]] } } : State), by decide +kernel⟩,
    ⟨({ at_ [] with och := { job := some ⟨2, 0, 0, 64, .command⟩, record := [[1]], calNext := 64 } } : State), by decide +kernel⟩,
    ⟨(at_ [(Reg.OCH_DISC.VOIDS, 300), (Reg.OCH_VERIFY_CFG.VOID_MAX, 256), (Reg.OCH_DISC.FAILED, 0)] : State), by decide +kernel⟩⟩

/-- The hypotheses of LinksSendFramesAndControl, clause by clause, are met. -/
theorem witness_links_send_frames_and_control :
    (∃ (s : State), (optSends s = true)) ∧
    (∃ (l : Nat) (s : State), (l < 2) ∧ (linkRuns l s = true) ∧ (get (Reg.HLK_STAT.TX_UP l) s = 1)) ∧
    (∃ (l : Nat) (s : State), (l < 3) ∧ (if l = 2 then optSends s = false else linkRuns l s = false ∨ get (Reg.HLK_STAT.TX_UP l) s ≠ 1)) ∧
    (∃ (l o : Nat) (s : State), (l < 3) ∧ (o ≤ 65) ∧ (if l = 2 then optSends s = true else linkRuns l s = true ∧ get (Reg.HLK_STAT.TX_UP l) s = 1)) ∧
    (∃ (l v : Nat) (s : State), (l < 3) ∧ (v.testBit 31 = true) ∧ (get (ccPort l).busy s = 0)) ∧
    (∃ (l v : Nat) (s : State), (l < 3) ∧ (v.testBit 31 = false ∨ get (ccPort l).busy s ≠ 0)) ∧
    (∃ (l p : Nat) (s : State), (l < 3) ∧ (get (ccPort l).busy s = 1) ∧ (bits p 0 8 = 0x4B) ∧ (bits p 8 8 = (linkOf l s).ccTag)) ∧
    (∃ (l p : Nat) (s : State), (l < 3) ∧ (get (ccPort l).busy s = 1) ∧ (bits p 0 8 = 0x4B) ∧ (bits p 8 8 = (linkOf l s).ccTag) ∧ (p.testBit 57 = true)) ∧
    (∃ (l : Nat) (s : State), (l < 3) ∧ (get (ccPort l).busy s = 1) ∧ ((linkOf l s).ccAt + 4 ≤ tmpCount s)) ∧
    (∃ (s : State), (get Reg.OLK_CTL.EN s = 1) ∧ (s.olk.retrain = true ∨ (get Reg.OLK_STAT.UP s = 0 ∧ s.olk.faulted = false) ∨ mayRetrain s.olk (get Reg.OLK_STAT.TRIES s) s = true)) ∧
    (∃ (p : Bool) (s : State), (domOn 12 s = true) ∧ (get Reg.OLK_CTL.EN s = 1) ∧ (s.olk.faulted = false) ∧ (get Reg.OLK_STAT.UP s = 0 ∨ 3 ≤ get Reg.OLK_STAT.MISS s ∨ 3 ≤ s.olk.echoRow ∨ p = true)) ∧
    (∃ (p : Bool) (s : State), (domOn 12 s = true) ∧ (get Reg.OLK_CTL.EN s = 0 ∨ s.olk.faulted = true ∨ get Reg.OLK_STAT.UP s ≠ 0 ∧ get Reg.OLK_STAT.MISS s < 3 ∧ s.olk.echoRow < 3 ∧ p = false)) :=
  ⟨⟨(at_ [(Reg.OLK_CTL.EN, 1), (Reg.OLK_STAT.TX_UP, 1)] : State), by decide +kernel⟩,
    ⟨((1 : Nat)), (at_ [(Reg.HLK_CTL.EN 1, 1), (Reg.HLK_STAT.TX_UP 1, 1)] : State), by decide +kernel⟩,
    ⟨((1 : Nat)), (at_ [(Reg.HLK_CTL.EN 1, 0)] : State), by decide +kernel⟩,
    ⟨((1 : Nat)), ((65 : Nat)), (at_ [(Reg.HLK_CTL.EN 1, 1), (Reg.HLK_STAT.TX_UP 1, 1)] : State), by decide +kernel⟩,
    ⟨((0 : Nat)), ((0x80000107 : Nat)), (at_ [] : State), by decide +kernel⟩,
    ⟨((2 : Nat)), ((0x105 : Nat)), (at_ [] : State), by decide +kernel⟩,
    ⟨((0 : Nat)), ((0x0012345678AA004B : Nat)), (at_ [(Reg.HLK_CC_REQ.BUSY 0, 1)] : State), by decide +kernel⟩,
    ⟨((2 : Nat)), ((0x020000000000004B : Nat)), (at_ [(Reg.OLK_CC_REQ.BUSY, 1)] : State), by decide +kernel⟩,
    ⟨((1 : Nat)), ((fun (l : Nat) => (at_ [((ccPort l).busy, 1), (Reg.TMP_COUNT_LO.COUNT, 4)] : State)) ((1 : Nat))), by decide +kernel⟩,
    ⟨({ at_ [(Reg.OLK_CTL.EN, 1), (Reg.OLK_STAT.TRIES, 2)] with olk := { faulted := true } } : State), by decide +kernel⟩,
    ⟨((false : Bool)), ({ at_ [(Reg.PMU_DOM_STAT.ON, 0xFFFFFF), (Reg.OLK_CTL.EN, 1), (Reg.OLK_STAT.MISS, 3), (Reg.OLK_STAT.UP, 1)] with och := { job := some ⟨2, 1, 2, 70, .command⟩ } } : State), by decide +kernel⟩,
    ⟨((true : Bool)), (at_ [(Reg.PMU_DOM_STAT.ON, 0xFFFFFF), (Reg.OLK_STAT.UP, 1)] : State), by decide +kernel⟩⟩

/-- The hypotheses of MotionMovesAreQueuedAndEnd, clause by clause, are met. -/
theorem witness_motion_moves_are_queued_and_end :
    (∃ (g v : Nat) (s : State), (g < 3) ∧ (v.testBit 31 = true) ∧ (bits v 1 2 = 0) ∧ (v.testBit 4 = false) ∧ (pushFails g (pushMove g 0 (cmdWord g v s)) (cmdWord g v s) = [])) ∧
    (∃ (g v : Nat) (f : List Nat) (s : State), (g < 3) ∧ (v.testBit 31 = true) ∧ (bits v 1 2 = 0) ∧ (v.testBit 4 = false) ∧ (pushFails g (pushMove g 0 (cmdWord g v s)) (cmdWord g v s) = f) ∧ (f ≠ [])) ∧
    (∃ (g v : Nat) (s : State), (g < 3) ∧ (v.testBit 31 = true) ∧ (bits v 1 2 = 1) ∧ (v.testBit 4 = false) ∧ (pushFails g (⟨1, if g = 0 then (bits v 3 1 : Int) else 0, 0⟩) (cmdWord g v s) = [])) ∧
    (∃ (g v : Nat) (f : List Nat) (s : State), (g < 3) ∧ (v.testBit 31 = true) ∧ (bits v 1 2 = 1) ∧ (v.testBit 4 = false) ∧ (pushFails g (⟨1, if g = 0 then (bits v 3 1 : Int) else 0, 0⟩) (cmdWord g v s) = f) ∧ (f ≠ [])) ∧
    (∃ (g v : Nat) (s : State), (g < 3) ∧ (v.testBit 31 = true) ∧ (bits v 1 2 = 2) ∧ (v.testBit 4 = false) ∧ (pushFails g (pushMove g 2 (cmdWord g v s)) (cmdWord g v s) = [])) ∧
    (∃ (g v : Nat) (f : List Nat) (s : State), (g < 3) ∧ (v.testBit 31 = true) ∧ (bits v 1 2 = 2) ∧ (v.testBit 4 = false) ∧ (pushFails g (pushMove g 2 (cmdWord g v s)) (cmdWord g v s) = f) ∧ (f ≠ [])) ∧
    (∃ (g v : Nat) (s : State), (g < 3) ∧ (v.testBit 31 = true) ∧ (bits v 1 2 = 3) ∧ (v.testBit 4 = false) ∧ (pushFails g (pushMove g 3 (cmdWord g v s)) (cmdWord g v s) = [])) ∧
    (∃ (g v : Nat) (f : List Nat) (s : State), (g < 3) ∧ (v.testBit 31 = true) ∧ (bits v 1 2 = 3) ∧ (v.testBit 4 = false) ∧ (pushFails g (pushMove g 3 (cmdWord g v s)) (cmdWord g v s) = f) ∧ (f ≠ [])) ∧
    (∃ (g v : Nat) (s : State), (g < 3) ∧ (v.testBit 31 = true) ∧ (v.testBit 4 = true) ∧ ((pushFails g (if bits v 1 2 = 1 then ⟨1, if g = 0 then (bits v 3 1 : Int) else 0, 0⟩ else pushMove g (bits v 1 2) (cmdWord g v s)) (cmdWord g v s)).filter (· != 1) = []) ∧ ((grpOf g s).run.isSome = true)) ∧
    (∃ (g v : Nat) (s : State), (g < 3) ∧ (v.testBit 31 = true) ∧ (v.testBit 4 = true) ∧ ((pushFails g (if bits v 1 2 = 1 then ⟨1, if g = 0 then (bits v 3 1 : Int) else 0, 0⟩ else pushMove g (bits v 1 2) (cmdWord g v s)) (cmdWord g v s)).filter (· != 1) = []) ∧ ((grpOf g s).run = none)) ∧
    (∃ (g v : Nat) (f : List Nat) (s : State), (g < 3) ∧ (v.testBit 31 = true) ∧ (v.testBit 4 = true) ∧ ((pushFails g (if bits v 1 2 = 1 then ⟨1, if g = 0 then (bits v 3 1 : Int) else 0, 0⟩ else pushMove g (bits v 1 2) (cmdWord g v s)) (cmdWord g v s)).filter (· != 1) = f) ∧ (f ≠ [])) ∧
    (∃ (g : Nat) (m : Move) (q : List Move) (s : State), (g < 3) ∧ ((grpOf g s).run = none) ∧ ((grpOf g s).stop = 0) ∧ ((grpOf g s).queue = m :: q) ∧ (m.cls = 1 → m.t0 = 0 ∨ (g = 0 ∧ m.t0 = 1))) ∧
    (∃ (g : Nat) (m : Move) (q : List Move) (s : State), (g < 3) ∧ ((grpOf g s).run = none) ∧ ((grpOf g s).stop = 0) ∧ ((grpOf g s).queue = m :: q)) ∧
    (∃ (g : Nat) (m : Move) (s : State), (g < 3) ∧ ((grpOf g s).run = some m) ∧ (m.cls ≠ 1) ∧ ((grpOf g s).took = false) ∧ ((grpOf g s).stop = 0) ∧ ((grpOf g s).next = none) ∧ (atEnd g m s = true)) ∧
    (∃ (g : Nat), (g < 3)) ∧
    (∃ (g : Nat), (g < 3)) ∧
    (∃ (a : Nat), (a < 4)) ∧
    (∃ (a : Nat), (a < 4)) ∧
    (∃ (a : Nat), (a < 4)) ∧
    (∃ (b n : Nat) (s : State), (b < 8) ∧ ((brgOf b s).phase = 1) ∧ (10 * get (Reg.MOT_AX_CHOP.BLANK (b / 2)) s ≤ n)) ∧
    (∃ (b n : Nat) (s : State), (b < 8) ∧ ((brgOf b s).phase = 2) ∧ (((brgOf b s).drive.map (fun p => 10 * p.2)).foldl (· + ·) 0 ≤ n)) ∧
    (∃ (a : Nat) (s : State), (a < 4) ∧ (standing a s = true) ∧ (2000 * get (Reg.MOT_AX_CUR.DELAY a) s ≤ (axOf a s).still) ∧ ((axOf a s).ramp = 0)) :=
  ⟨⟨((0 : Nat)), ((0x80000000 : Nat)), (at_ [(Reg.MOT_AX_CFG.EN 0, 1), (Reg.MOT_AX_CFG.EN 1, 1), (Reg.MOT_AX_SOFT_MAX.POS 0, 100), (Reg.MOT_AX_SOFT_MAX.POS 1, 100), (Reg.MOT_GRP_TGT0.TGT 0, 50), (Reg.MOT_GRP_TGT1.TGT 0, 0), (Reg.MOT_AX_STAT.HOMED 0, 1), (Reg.MOT_AX_STAT.HOMED 1, 1)] : State), by decide +kernel⟩,
    ⟨((1 : Nat)), ((0x80000000 : Nat)), (([2, 4] : List Nat)), (at_ [(Reg.MOT_GRP_TGT0.TGT 1, 5), (Reg.MOT_AX_SOFT_MAX.POS 2, 100), (Reg.MOT_AX_SOFT_MIN.POS 2, 0)] : State), by decide +kernel⟩,
    ⟨((0 : Nat)), ((0x80000002 : Nat)), (at_ [(Reg.MOT_AX_CFG.EN 0, 1), (Reg.MOT_AX_CFG.EN 1, 1), (Reg.MOT_AX_SOFT_MAX.POS 0, 100), (Reg.MOT_AX_SOFT_MAX.POS 1, 100), (Reg.MOT_GRP_TGT0.TGT 0, 50), (Reg.MOT_GRP_TGT1.TGT 0, 0)] : State), by decide +kernel⟩,
    ⟨((1 : Nat)), ((0x80000002 : Nat)), (([4] : List Nat)), (at_ [(Reg.MOT_GRP_TGT0.TGT 1, 5), (Reg.MOT_AX_SOFT_MAX.POS 2, 100), (Reg.MOT_AX_SOFT_MIN.POS 2, 0)] : State), by decide +kernel⟩,
    ⟨((0 : Nat)), ((0x80000005 : Nat)), (at_ [(Reg.MOT_AX_CFG.EN 0, 1), (Reg.MOT_AX_CFG.EN 1, 1), (Reg.MOT_AX_SOFT_MAX.POS 0, 100), (Reg.MOT_AX_SOFT_MAX.POS 1, 100), (Reg.MOT_GRP_TGT0.TGT 0, 50), (Reg.MOT_GRP_TGT1.TGT 0, 0)] : State), by decide +kernel⟩,
    ⟨((1 : Nat)), ((0x80000005 : Nat)), (([4] : List Nat)), (at_ [(Reg.MOT_GRP_TGT0.TGT 1, 5), (Reg.MOT_AX_SOFT_MAX.POS 2, 100), (Reg.MOT_AX_SOFT_MIN.POS 2, 0)] : State), by decide +kernel⟩,
    ⟨((0 : Nat)), ((0x80000007 : Nat)), (at_ [(Reg.MOT_AX_CFG.EN 0, 1), (Reg.MOT_AX_CFG.EN 1, 1), (Reg.MOT_AX_SOFT_MAX.POS 0, 100), (Reg.MOT_AX_SOFT_MAX.POS 1, 100), (Reg.MOT_GRP_TGT0.TGT 0, 50), (Reg.MOT_GRP_TGT1.TGT 0, 0)] : State), by decide +kernel⟩,
    ⟨((1 : Nat)), ((0x80000007 : Nat)), (([4] : List Nat)), (at_ [(Reg.MOT_GRP_TGT0.TGT 1, 5), (Reg.MOT_AX_SOFT_MAX.POS 2, 100), (Reg.MOT_AX_SOFT_MIN.POS 2, 0)] : State), by decide +kernel⟩,
    ⟨((0 : Nat)), ((0x80000010 : Nat)), ({ at_ [(Reg.MOT_AX_CFG.EN 0, 1), (Reg.MOT_AX_CFG.EN 1, 1), (Reg.MOT_AX_SOFT_MAX.POS 0, 100), (Reg.MOT_AX_SOFT_MAX.POS 1, 100), (Reg.MOT_GRP_TGT0.TGT 0, 50), (Reg.MOT_GRP_TGT1.TGT 0, 0), (Reg.MOT_AX_STAT.HOMED 0, 1), (Reg.MOT_AX_STAT.HOMED 1, 1)] with mot := { grp := [(0, { run := some ⟨0, 9, 0⟩, queue := [⟨0, 1, 1⟩] })] } } : State), by decide +kernel⟩,
    ⟨((0 : Nat)), ((0x80000010 : Nat)), ({ at_ [(Reg.MOT_AX_CFG.EN 0, 1), (Reg.MOT_AX_CFG.EN 1, 1), (Reg.MOT_AX_SOFT_MAX.POS 0, 100), (Reg.MOT_AX_SOFT_MAX.POS 1, 100), (Reg.MOT_GRP_TGT0.TGT 0, 50), (Reg.MOT_GRP_TGT1.TGT 0, 0), (Reg.MOT_AX_STAT.HOMED 0, 1), (Reg.MOT_AX_STAT.HOMED 1, 1)] with mot := { grp := [(0, { queue := [⟨0, 1, 1⟩] })] } } : State), by decide +kernel⟩,
    ⟨((1 : Nat)), ((0x80000010 : Nat)), (([2, 4] : List Nat)), (at_ [(Reg.MOT_GRP_TGT0.TGT 1, 5), (Reg.MOT_AX_SOFT_MAX.POS 2, 100), (Reg.MOT_AX_SOFT_MIN.POS 2, 0)] : State), by decide +kernel⟩,
    ⟨((0 : Nat)), ((⟨1, 1, 0⟩ : Move)), (([⟨0, 4, 4⟩] : List Move)), ((fun (m : Move) (q : List Move) => ({ at_ [(Reg.MOT_AX_STAT.HOLD_I 1, 1), (Reg.MOT_AX_STAT.HOMED 1, 1)] with mot := { grp := [(0, { queue := m :: q })] } } : State)) ((⟨1, 1, 0⟩ : Move)) (([⟨0, 4, 4⟩] : List Move))), by decide +kernel⟩,
    ⟨((0 : Nat)), ((⟨0, 1, 0⟩ : Move)), (([⟨0, 4, 4⟩] : List Move)), ((fun (m : Move) (q : List Move) => ({ at_ [(Reg.MOT_AX_STAT.HOLD_I 1, 1), (Reg.MOT_AX_STAT.HOMED 1, 1)] with mot := { grp := [(0, { queue := m :: q })] } } : State)) ((⟨0, 1, 0⟩ : Move)) (([⟨0, 4, 4⟩] : List Move))), by decide +kernel⟩,
    ⟨((1 : Nat)), ((⟨0, 5, 0⟩ : Move)), ((fun (m : Move) => ({ at_ [] with mot := { ax := [(2, { pos := 5 * 62500000000 })], grp := [(1, { run := some m, f0 := 0 })] } } : State)) ((⟨0, 5, 0⟩ : Move))), by decide +kernel⟩,
    ⟨((2 : Nat)), by decide +kernel⟩,
    ⟨((0 : Nat)), by decide +kernel⟩,
    ⟨((2 : Nat)), by decide +kernel⟩,
    ⟨((2 : Nat)), by decide +kernel⟩,
    ⟨((2 : Nat)), by decide +kernel⟩,
    ⟨((3 : Nat)), ((1000 : Nat)), ({ at_ [(Reg.MOT_AX_CHOP.BLANK 1, 100)] with mot := { brg := [(3, { phase := 1, code := 7 })] } } : State), by decide +kernel⟩,
    ⟨((3 : Nat)), ((20000 : Nat)), ({ at_ [(Reg.MOT_AX_CHOP.TOFF 1, 200)] with mot := { brg := [(3, { phase := 2, code := 7 })] } } : State), by decide +kernel⟩,
    ⟨((2 : Nat)), ({ at_ [(Reg.MOT_AX_CUR.DELAY 2, 1)] with mot := { ax := [(2, { still := 2000 })] } } : State), by decide +kernel⟩⟩

/-- The hypotheses of MotionHomesAndLosesDrive, clause by clause, are met. -/
theorem witness_motion_homes_and_loses_drive :
    (∃ (a : Nat) (s : State), (a < 4) ∧ (homing a s = true) ∧ ((grpOf (axisGroup a) s).stop = 0) ∧ ((grpOf (axisGroup a) s).took = false) ∧ (get (Reg.MOT_AX_STAT.HSTEP a) s = 1) ∧ (switchOn a 1 s = true)) ∧
    (∃ (a : Nat) (s : State), (a < 4) ∧ (homing a s = true) ∧ ((grpOf (axisGroup a) s).stop = 0) ∧ ((grpOf (axisGroup a) s).took = false) ∧ (get (Reg.MOT_AX_STAT.HSTEP a) s = 1) ∧ (switchOn a 1 s = false) ∧ (4096 * get (Reg.MOT_AX_HOME.RANGE a) s ≤ travelled a s)) ∧
    (∃ (a : Nat) (s : State), (a < 4) ∧ (homing a s = true) ∧ ((grpOf (axisGroup a) s).stop = 0) ∧ ((grpOf (axisGroup a) s).took = false) ∧ (get (Reg.MOT_AX_STAT.HSTEP a) s = 2) ∧ ((axOf a s).vel = 0)) ∧
    (∃ (a : Nat) (s : State), (a < 4) ∧ (homing a s = true) ∧ ((grpOf (axisGroup a) s).stop = 0) ∧ ((grpOf (axisGroup a) s).took = false) ∧ (get (Reg.MOT_AX_STAT.HSTEP a) s = 3) ∧ (switchOn a 1 s = false) ∧ ((axOf a s).vel = 0)) ∧
    (∃ (a : Nat) (s : State), (a < 4) ∧ (homing a s = true) ∧ ((grpOf (axisGroup a) s).stop = 0) ∧ ((grpOf (axisGroup a) s).took = false) ∧ (get (Reg.MOT_AX_STAT.HSTEP a) s = 3 ∧ switchOn a 1 s = true ∨ get (Reg.MOT_AX_STAT.HSTEP a) s = 4 ∧ switchOn a 1 s = false) ∧ (262144 ≤ travelled a s)) ∧
    (∃ (a : Nat) (s : State), (a < 4) ∧ (homing a s = true) ∧ ((grpOf (axisGroup a) s).stop = 0) ∧ ((grpOf (axisGroup a) s).took = false) ∧ (get (Reg.MOT_AX_STAT.HSTEP a) s = 4) ∧ (switchOn a 1 s = true)) ∧
    (∃ (a : Nat) (s : State), (a < 4) ∧ (homing a s = true) ∧ ((grpOf (axisGroup a) s).stop = 0) ∧ ((grpOf (axisGroup a) s).took = false) ∧ (get (Reg.MOT_AX_STAT.HSTEP a) s = 5) ∧ ((axOf a s).vel = 0)) ∧
    (∃ (a : Nat) (s : State), (a < 4) ∧ (homing a s = true) ∧ ((grpOf (axisGroup a) s).stop = 0) ∧ ((grpOf (axisGroup a) s).took = false) ∧ (get (Reg.MOT_AX_STAT.HSTEP a) s = 1 ∧ switchOn a 1 s = false ∧ travelled a s < 4096 * get (Reg.MOT_AX_HOME.RANGE a) s ∨ (get (Reg.MOT_AX_STAT.HSTEP a) s = 2 ∨ get (Reg.MOT_AX_STAT.HSTEP a) s = 5) ∧ (axOf a s).vel ≠ 0 ∨ get (Reg.MOT_AX_STAT.HSTEP a) s = 3 ∧ switchOn a 1 s = false ∧ (axOf a s).vel ≠ 0 ∨ (get (Reg.MOT_AX_STAT.HSTEP a) s = 3 ∧ switchOn a 1 s = true ∨ get (Reg.MOT_AX_STAT.HSTEP a) s = 4 ∧ switchOn a 1 s = false) ∧ travelled a s < 262144)) ∧
    (∃ (k : Nat) (v x : Bool) (n : Nat) (s : State), (k < 8) ∧ (domOn 13 s = true) ∧ (switchLevel k v s = x) ∧ (bit Reg.MOT_SW_STAT.DEB k s ≠ x) ∧ (n = 12 ∨ n = 13) ∧ (x = false ∨ switchRole k s = 0 ∨ switchRole k s = 3)) ∧
    (∃ (k : Nat) (v x : Bool) (n a : Nat) (s : State), (k < 8) ∧ (domOn 13 s = true) ∧ (switchLevel k v s = x) ∧ (bit Reg.MOT_SW_STAT.DEB k s ≠ x) ∧ (n = 12 ∨ n = 13) ∧ (x = true) ∧ (switchAxis k s = a) ∧ (switchRole k s = 1 ∨ switchRole k s = 2) ∧ (movesAxis a s = false) ∧ (switchRole k s = 1 ∨ homing a s = false)) ∧
    (∃ (k : Nat) (v x : Bool) (n a : Nat) (s : State), (k < 8) ∧ (domOn 13 s = true) ∧ (switchLevel k v s = x) ∧ (bit Reg.MOT_SW_STAT.DEB k s ≠ x) ∧ (n = 12 ∨ n = 13) ∧ (x = true) ∧ (switchAxis k s = a) ∧ (switchRole k s = 1 ∨ switchRole k s = 2) ∧ (movesAxis a s = true)) ∧
    (∃ (k : Nat) (v x : Bool) (n a : Nat) (s : State), (k < 8) ∧ (domOn 13 s = true) ∧ (switchLevel k v s = x) ∧ (bit Reg.MOT_SW_STAT.DEB k s ≠ x) ∧ (n = 12 ∨ n = 13) ∧ (x = true) ∧ (switchAxis k s = a) ∧ (switchRole k s = 2) ∧ (homing a s = true)) ∧
    (∃ (k a : Nat) (l : List Nat) (s : State), (k < 8) ∧ (domOn 13 s = true) ∧ (chatters l = true) ∧ (switchAxis k s = a) ∧ (switchRole k s = 1 ∨ switchRole k s = 2)) ∧
    (∃ (s : State), ((stgOf 1 s).safe = true ∨ get (Reg.STG_STAT.FAULT 1) s = 1 ∨ s.pins.pfailN = false) ∧ (hasDrive s = true)) :=
  ⟨⟨((2 : Nat)), ({ at_ [(Reg.MOT_AX_STAT.HSTEP 2, 1), (Reg.MOT_SW_CFG.SW, 6), (Reg.MOT_SW_STAT.DEB, 1)] with mot := { grp := [(1, { run := some ⟨1, 0, 0⟩ })] } } : State), by decide +kernel⟩,
    ⟨((2 : Nat)), ({ at_ [(Reg.MOT_AX_STAT.HSTEP 2, 1), (Reg.MOT_AX_HOME.RANGE 2, 0)] with mot := { grp := [(1, { run := some ⟨1, 0, 0⟩ })] } } : State), by decide +kernel⟩,
    ⟨((2 : Nat)), ({ at_ [(Reg.MOT_AX_STAT.HSTEP 2, 2)] with mot := { grp := [(1, { run := some ⟨1, 0, 0⟩ })] } } : State), by decide +kernel⟩,
    ⟨((2 : Nat)), ({ at_ [(Reg.MOT_AX_STAT.HSTEP 2, 3)] with mot := { grp := [(1, { run := some ⟨1, 0, 0⟩ })] } } : State), by decide +kernel⟩,
    ⟨((2 : Nat)), ({ at_ [(Reg.MOT_AX_STAT.HSTEP 2, 3), (Reg.MOT_SW_CFG.SW, 6), (Reg.MOT_SW_STAT.DEB, 1)] with mot := { ax := [(2, { pos := 262144 * 62500000000 })], grp := [(1, { run := some ⟨1, 0, 0⟩ })] } } : State), by decide +kernel⟩,
    ⟨((2 : Nat)), ({ at_ [(Reg.MOT_AX_STAT.HSTEP 2, 4), (Reg.MOT_SW_CFG.SW, 6), (Reg.MOT_SW_STAT.DEB, 1)] with mot := { ax := [(2, { pos := 9, edge := 8 })], grp := [(1, { run := some ⟨1, 0, 0⟩ })] } } : State), by decide +kernel⟩,
    ⟨((2 : Nat)), ({ at_ [(Reg.MOT_AX_STAT.HSTEP 2, 5)] with mot := { grp := [(1, { run := some ⟨1, 0, 0⟩ })] } } : State), by decide +kernel⟩,
    ⟨((2 : Nat)), ({ at_ [(Reg.MOT_AX_STAT.HSTEP 2, 1), (Reg.MOT_AX_HOME.RANGE 2, 9)] with mot := { grp := [(1, { run := some ⟨1, 0, 0⟩ })] } } : State), by decide +kernel⟩,
    ⟨((1 : Nat)), ((true : Bool)), ((true : Bool)), ((12 : Nat)), (at_ [(Reg.PMU_DOM_STAT.ON, 0xFFFFFF)] : State), by decide +kernel⟩,
    ⟨((0 : Nat)), ((true : Bool)), ((true : Bool)), ((12 : Nat)), ((2 : Nat)), (at_ [(Reg.PMU_DOM_STAT.ON, 0xFFFFFF), (Reg.MOT_SW_CFG.SW, 6)] : State), by decide +kernel⟩,
    ⟨((0 : Nat)), ((true : Bool)), ((true : Bool)), ((13 : Nat)), ((2 : Nat)), ({ at_ [(Reg.PMU_DOM_STAT.ON, 0xFFFFFF), (Reg.MOT_SW_CFG.SW, 6), (Reg.MOT_AX_STAT.HOMED 2, 1)] with mot := { ax := [(2, { pos := 9, past := [8, 7] })], grp := [(1, { run := some ⟨0, 5, 0⟩, queue := [⟨0, 6, 0⟩] })] } } : State), by decide +kernel⟩,
    ⟨((0 : Nat)), ((true : Bool)), ((true : Bool)), ((13 : Nat)), ((2 : Nat)), ({ at_ [(Reg.PMU_DOM_STAT.ON, 0xFFFFFF), (Reg.MOT_SW_CFG.SW, 10)] with mot := { grp := [(1, { run := some ⟨1, 0, 0⟩ })] } } : State), by decide +kernel⟩,
    ⟨((0 : Nat)), ((2 : Nat)), (([1000, 2000, 3000, 4000, 5999] : List Nat)), ({ at_ [(Reg.PMU_DOM_STAT.ON, 0xFFFFFF), (Reg.MOT_SW_CFG.SW, 6)] with mot := { grp := [(1, { run := some ⟨1, 0, 0⟩ })] } } : State), by decide +kernel⟩,
    ⟨(at_ [(Reg.STG_STAT.FAULT 1, 1), (Reg.MOT_AX_STAT.HOMED 0, 1), (Reg.MOT_AX_CFG.EN 2, 1)] : State), by decide +kernel⟩⟩

/-- The hypotheses of ZonesAreHashedAndSealed, clause by clause, are met. -/
theorem witness_zones_are_hashed_and_sealed :
    (∃ (z : Nat) (c : SealCtx) (l : List Nat) (s : State), (AMap.lookup z s.seals.ctxs = some c) ∧ (groupLeaves z c.groups.length c s = some l) ∧ (get Reg.SEAL_CTL.EN s = 1) ∧ (c.groups.length < 4096)) ∧
    (∃ (z : Nat) (b : List Nat) (r : Bool) (s : State), ((AMap.getD s.seals.ctxs z {}).damaged = true) ∧ (r = true) ∧ (b.length = min (zoneOf z s).host 65536) ∧ (zoneLost z s = false)) ∧
    (∃ (z : Nat) (r : Bool) (s : State), ((AMap.getD s.seals.ctxs z {}).damaged = true) ∧ (AMap.rising s.seals.ctxs = true) ∧ (r = false)) ∧
    (∃ (z : Nat) (b : List Nat) (s : State), ((AMap.getD s.seals.ctxs z {}).damaged = true) ∧ (AMap.rising s.seals.ctxs = true) ∧ (zoneLost z s = true) ∧ (b.length = min (zoneOf z s).host 65536)) ∧
    (∃ (a b : Bool) (z : Nat) (q : List Nat) (c : SealCtx) (s : State), (s.seals.queue = z :: q) ∧ (mode s = 3) ∧ (get Reg.SEAL_CTL.EN s = 1) ∧ (s.seals.stopped = false) ∧ (s.seals.key.isSome = true) ∧ (AMap.lookup z s.seals.ctxs = some c) ∧ (c.groups.length = 4096) ∧ (eligible z s = true) ∧ (s.pins.pfailN = true) ∧ (AMap.rising s.seals.ctxs = true) ∧ (a = true ∨ b = true) ∧ (65 ≤ s.seals.logFree)) ∧
    (∃ (a b : Bool) (z : Nat) (q : List Nat) (c : SealCtx) (p : Nat) (m : List Nat) (s : State), (s.seals.queue = z :: q) ∧ (mode s = 3) ∧ (get Reg.SEAL_CTL.EN s = 1) ∧ (s.seals.stopped = false) ∧ (s.seals.key.isSome = true) ∧ (AMap.lookup z s.seals.ctxs = some c) ∧ (c.groups.length = 4096) ∧ (eligible z s = true) ∧ (s.pins.pfailN = true) ∧ (AMap.rising s.seals.ctxs = true) ∧ (a = true ∨ b = true) ∧ (s.seals.logFree < 65) ∧ (s.zmg.spares = p :: m)) ∧
    (∃ (a b : Bool) (z : Nat) (q : List Nat) (c : SealCtx) (s : State), (s.seals.queue = z :: q) ∧ (mode s = 3) ∧ (get Reg.SEAL_CTL.EN s = 1) ∧ (s.seals.stopped = false) ∧ (s.seals.key.isSome = true) ∧ (AMap.lookup z s.seals.ctxs = some c) ∧ (c.groups.length = 4096) ∧ (eligible z s = true) ∧ (s.pins.pfailN = true) ∧ (a = false) ∧ (b = false)) ∧
    (∃ (a b : Bool) (z : Nat) (q : List Nat) (c : SealCtx) (s : State), (s.seals.queue = z :: q) ∧ (mode s = 3) ∧ (get Reg.SEAL_CTL.EN s = 1) ∧ (s.seals.stopped = false) ∧ (s.seals.key.isSome = true) ∧ (AMap.lookup z s.seals.ctxs = some c) ∧ (c.groups.length = 4096) ∧ (eligible z s = true) ∧ (s.pins.pfailN = true) ∧ (a = true ∨ b = true) ∧ (s.seals.logFree < 65) ∧ (s.zmg.spares = [])) ∧
    (∃ (s : State), (s.seals.queue = [])) ∧
    (∃ (n : Nat), (n < 64)) ∧
    (∃ (v : Nat) (s : State), (v.testBit 0 = true) ∧ (bits v 24 8 = 0xB7) ∧ (get Reg.SEAL_STAT.PROV s = 0) ∧ (get Reg.SEAL_PROV.BUSY s = 0)) ∧
    (∃ (v : Nat) (s : State), (v.testBit 0 = true) ∧ (bits v 24 8 = 0xB7) ∧ (get Reg.SEAL_STAT.PROV s = 1)) ∧
    (∃ (v : Nat) (s : State), (v.testBit 0 = false ∨ bits v 24 8 ≠ 0xB7 ∨ get Reg.SEAL_STAT.PROV s ≠ 1 ∧ get Reg.SEAL_PROV.BUSY s = 1)) ∧
    (∃ (k : Nat) (s : State), (s.seals.genKey = some k)) ∧
    (∃ (k a b : Bool) (s : State), (mode s = 2) ∧ (s.boot.sealReady = false) ∧ (s.seals.stopped = false) ∧ (k = true) ∧ (a = true ∨ b = true)) ∧
    (∃ (k a b : Bool) (s : State), (mode s = 2) ∧ (s.boot.sealReady = false) ∧ (s.seals.stopped = false) ∧ (k = false ∨ (a = false ∧ b = false))) ∧
    (∃ (s : State), (mode s = 2) ∧ (s.boot.sealReady = true)) :=
  ⟨⟨((3 : Nat)), (({ leaves := (List.range 17).map (fun i => (i, i)) } : SealCtx)), ((List.range 16 : List Nat)), ((fun (c : SealCtx) => ({ at_ [(Reg.SEAL_CTL.EN, 1)] with seals := { ctxs := [(3, c)] } } : State)) (({ leaves := (List.range 17).map (fun i => (i, i)) } : SealCtx))), by decide +kernel⟩,
    ⟨((3 : Nat)), (([1,2,3,4,5,6,7,8,9,10,11,12,13,14,15,16,17] : List Nat)), ((true : Bool)), ({ setZone 3 { state := 3, type := 4, ns := 1, host := 17 } (at_ [(Reg.ZMG_ZTBL_HI.ADDR, 16), (Reg.ZMG_ZTBL_LO.ADDR, 0), (Reg.ZMG_NS_CFG.TYPE 1, 4), (Reg.ZMG_NS_CFG.LBAF 1, 0), (Reg.ZMG_NS_ZONES.FIRST 1, 3), (Reg.ZMG_NS_COUNT.COUNT 1, 2), (Reg.ZMG_OPEN_CNT.OPEN, 0), (Reg.ZMG_OPEN_CNT.ACTIVE, 0)]) with seals := { ctxs := [(3, { damaged := true, slot := 2 })] } } : State), by decide +kernel⟩,
    ⟨((3 : Nat)), ((false : Bool)), ({ setZone 3 { state := 3, type := 4, ns := 1, host := 17 } (at_ [(Reg.ZMG_ZTBL_HI.ADDR, 16), (Reg.ZMG_ZTBL_LO.ADDR, 0), (Reg.ZMG_NS_CFG.TYPE 1, 4), (Reg.ZMG_NS_CFG.LBAF 1, 0), (Reg.ZMG_NS_ZONES.FIRST 1, 3), (Reg.ZMG_NS_COUNT.COUNT 1, 2), (Reg.ZMG_OPEN_CNT.OPEN, 0), (Reg.ZMG_OPEN_CNT.ACTIVE, 0)]) with seals := { ctxs := [(3, { damaged := true })] } } : State), by decide +kernel⟩,
    ⟨((3 : Nat)), (([] : List Nat)), ({ setZone 3 { state := 3, type := 4, ns := 1, host := 0 } (at_ [(Reg.ZMG_ZTBL_HI.ADDR, 16), (Reg.ZMG_ZTBL_LO.ADDR, 0), (Reg.ZMG_NS_CFG.TYPE 1, 4), (Reg.ZMG_NS_CFG.LBAF 1, 0), (Reg.ZMG_NS_ZONES.FIRST 1, 3), (Reg.ZMG_NS_COUNT.COUNT 1, 2), (Reg.ZMG_OPEN_CNT.OPEN, 0), (Reg.ZMG_OPEN_CNT.ACTIVE, 0)]) with seals := { ctxs := [(3, { damaged := true })] }, cmd := { lost := [⟨1, 5, 4, 2, 0, false⟩] } } : State), by decide +kernel⟩,
    ⟨((false : Bool)), ((true : Bool)), ((3 : Nat)), (([] : List Nat)), (({ groups := List.replicate 4096 0 } : SealCtx)), ((fun (c : SealCtx) => ({ setZone 3 { state := 14, type := 4, ns := 1, host := 65536, media := 65536 } (at_ [(Reg.ZMG_ZTBL_HI.ADDR, 16), (Reg.ZMG_ZTBL_LO.ADDR, 0), (Reg.ZMG_NS_CFG.TYPE 1, 4), (Reg.ZMG_NS_CFG.LBAF 1, 0), (Reg.ZMG_NS_ZONES.FIRST 1, 3), (Reg.ZMG_NS_COUNT.COUNT 1, 2), (Reg.ZMG_OPEN_CNT.OPEN, 0), (Reg.ZMG_OPEN_CNT.ACTIVE, 0), (Reg.SYS_MODE.CUR, 3), (Reg.SEAL_CTL.EN, 1)]) with seals := { key := some 9, queue := [3], ctxs := [(3, c)], logFree := 65 }, zmg := { fullAt := [(3, 65536)] } } : State)) (({ groups := List.replicate 4096 0 } : SealCtx))), by decide +kernel⟩,
    ⟨((false : Bool)), ((true : Bool)), ((3 : Nat)), (([] : List Nat)), (({ groups := List.replicate 4096 0 } : SealCtx)), ((9 : Nat)), (([10] : List Nat)), ((fun (c : SealCtx) => ({ setZone 3 { state := 14, type := 4, ns := 1, host := 65536, media := 65536 } (at_ [(Reg.ZMG_ZTBL_HI.ADDR, 16), (Reg.ZMG_ZTBL_LO.ADDR, 0), (Reg.ZMG_NS_CFG.TYPE 1, 4), (Reg.ZMG_NS_CFG.LBAF 1, 0), (Reg.ZMG_NS_ZONES.FIRST 1, 3), (Reg.ZMG_NS_COUNT.COUNT 1, 2), (Reg.ZMG_OPEN_CNT.OPEN, 0), (Reg.ZMG_OPEN_CNT.ACTIVE, 0), (Reg.SYS_MODE.CUR, 3), (Reg.SEAL_CTL.EN, 1)]) with seals := { key := some 9, queue := [3], ctxs := [(3, c)], logFree := 64 }, zmg := { spares := [9, 10], fullAt := [(3, 65536)] } } : State)) (({ groups := List.replicate 4096 0 } : SealCtx))), by decide +kernel⟩,
    ⟨((false : Bool)), ((false : Bool)), ((3 : Nat)), (([] : List Nat)), (({ groups := List.replicate 4096 0 } : SealCtx)), ((fun (c : SealCtx) => ({ setZone 3 { state := 14, type := 4, ns := 1, host := 65536, media := 65536 } (at_ [(Reg.ZMG_ZTBL_HI.ADDR, 16), (Reg.ZMG_ZTBL_LO.ADDR, 0), (Reg.ZMG_NS_CFG.TYPE 1, 4), (Reg.ZMG_NS_CFG.LBAF 1, 0), (Reg.ZMG_NS_ZONES.FIRST 1, 3), (Reg.ZMG_NS_COUNT.COUNT 1, 2), (Reg.ZMG_OPEN_CNT.OPEN, 0), (Reg.ZMG_OPEN_CNT.ACTIVE, 0), (Reg.SYS_MODE.CUR, 3), (Reg.SEAL_CTL.EN, 1)]) with seals := { key := some 9, queue := [3], ctxs := [(3, c)] }, zmg := { fullAt := [(3, 65536)] } } : State)) (({ groups := List.replicate 4096 0 } : SealCtx))), by decide +kernel⟩,
    ⟨((true : Bool)), ((false : Bool)), ((3 : Nat)), (([] : List Nat)), (({ groups := List.replicate 4096 0 } : SealCtx)), ((fun (c : SealCtx) => ({ setZone 3 { state := 14, type := 4, ns := 1, host := 65536, media := 65536 } (at_ [(Reg.ZMG_ZTBL_HI.ADDR, 16), (Reg.ZMG_ZTBL_LO.ADDR, 0), (Reg.ZMG_NS_CFG.TYPE 1, 4), (Reg.ZMG_NS_CFG.LBAF 1, 0), (Reg.ZMG_NS_ZONES.FIRST 1, 3), (Reg.ZMG_NS_COUNT.COUNT 1, 2), (Reg.ZMG_OPEN_CNT.OPEN, 0), (Reg.ZMG_OPEN_CNT.ACTIVE, 0), (Reg.SYS_MODE.CUR, 3), (Reg.SEAL_CTL.EN, 1)]) with seals := { key := some 9, queue := [3], ctxs := [(3, c)] }, zmg := { fullAt := [(3, 65536)] } } : State)) (({ groups := List.replicate 4096 0 } : SealCtx))), by decide +kernel⟩,
    ⟨(at_ [] : State), by decide +kernel⟩,
    ⟨((1 : Nat)), by decide +kernel⟩,
    ⟨((0xB7000001 : Nat)), (at_ [(Reg.SEAL_STAT.PROV, 0)] : State), by decide +kernel⟩,
    ⟨((0xB7000001 : Nat)), (at_ [(Reg.SEAL_STAT.PROV, 1)] : State), by decide +kernel⟩,
    ⟨((0xB8000001 : Nat)), (at_ [(Reg.SEAL_STAT.PROV, 1)] : State), by decide +kernel⟩,
    ⟨((77 : Nat)), ({ at_ [(Reg.SEAL_PROV.BUSY, 1)] with seals := { genKey := some 77 } } : State), by decide +kernel⟩,
    ⟨((true : Bool)), ((false : Bool)), ((true : Bool)), ({ at_ [(Reg.SYS_MODE.CUR, 2)] with seals := { key := some 5 } } : State), by decide +kernel⟩,
    ⟨((false : Bool)), ((true : Bool)), ((true : Bool)), (at_ [(Reg.SYS_MODE.CUR, 2)] : State), by decide +kernel⟩,
    ⟨({ at_ [(Reg.SYS_MODE.CUR, 2)] with boot := { sealReady := true }, seals := { head := some (4, 5, 0) } } : State), by decide +kernel⟩⟩

/-- The hypotheses of ProofsAttestationsAndWitnesses, clause by clause, are met. -/
theorem witness_proofs_attestations_and_witnesses :
    (∃ (p : Port) (b : List Nat) (s : State), (p = .pcie ∨ p = .sas0 ∨ p = .sas1) ∧ (b.length = 96) ∧ (1 ≤ bits (ofBytes b) 0 16) ∧ (bits (ofBytes b) 0 16 ≤ 6) ∧ (readsServed s = true ∨ 5 ≤ bits (ofBytes b) 0 16)) ∧
    (∃ (p : Port) (b : List Nat), (p = .pcie ∨ p = .sas0 ∨ p = .sas1) ∧ (b.length = 96) ∧ (bits (ofBytes b) 0 16 = 0 ∨ 6 < bits (ofBytes b) 0 16)) ∧
    (∃ (p : Port) (b : List Nat) (s : State), (p = .pcie ∨ p = .sas0 ∨ p = .sas1) ∧ (b.length = 96) ∧ (1 ≤ bits (ofBytes b) 0 16) ∧ (bits (ofBytes b) 0 16 ≤ 4) ∧ (readsServed s = false)) ∧
    (∃ (r0 : Bool) (r : ProofReq) (e : SealEntry) (s : State), (nextReq 1 s = some r) ∧ (entryAt r.p1 s = some e) ∧ (r0 = true)) ∧
    (∃ (r0 : Bool) (r : ProofReq) (s : State), (nextReq 1 s = some r) ∧ ((entryAt r.p1 s).isNone = true ∨ r0 = false)) ∧
    (∃ (r0 : Bool) (r : ProofReq) (e : SealEntry) (s : State), (nextReq 2 s = some r) ∧ (r0 = true) ∧ (r.p1 < 64) ∧ (inNs r.p1 r.p2 s = true) ∧ (sealOf r.p2 s = some e)) ∧
    (∃ (r : ProofReq) (s : State), (nextReq 2 s = some r) ∧ (r.p1 < 64) ∧ (inNs r.p1 r.p2 s = true) ∧ (sealOf r.p2 s = none)) ∧
    (∃ (r : ProofReq) (s : State), (nextReq 2 s = some r) ∧ (64 ≤ r.p1 ∨ inNs r.p1 r.p2 s = false)) ∧
    (∃ (r0 : Bool) (r : ProofReq) (e : SealEntry) (s : State), (nextReq 2 s = some r) ∧ (r0 = false) ∧ (r.p1 < 64) ∧ (inNs r.p1 r.p2 s = true) ∧ (sealOf r.p2 s = some e)) ∧
    (∃ (r0 : Bool) (r : ProofReq) (s : State), (nextReq 3 s = some r) ∧ (1 ≤ r.p2) ∧ (r.p2 ≤ 256) ∧ ((entryAt r.p1 s).isSome = true) ∧ (r0 = true)) ∧
    (∃ (r : ProofReq) (s : State), (nextReq 3 s = some r) ∧ (entryAt r.p1 s = none)) ∧
    (∃ (r : ProofReq) (s : State), (nextReq 3 s = some r)) ∧
    (∃ (r0 : Bool) (z : Nat) (r : ProofReq) (e : SealEntry) (s : State), (nextReq 4 s = some r) ∧ (r.p1 < 64) ∧ (r.p2 < nsLbas r.p1 s) ∧ (zoneOfBlock r.p1 (r.p2 / lbasPerBlock r.p1 s) s = z) ∧ (sealOf z s = some e) ∧ (r0 = true)) ∧
    (∃ (r : ProofReq) (s : State), (nextReq 4 s = some r) ∧ (64 ≤ r.p1 ∨ nsLbas r.p1 s ≤ r.p2)) ∧
    (∃ (r : ProofReq) (s : State), (nextReq 4 s = some r) ∧ (r.p1 < 64) ∧ (r.p2 < nsLbas r.p1 s)) ∧
    (∃ (a b : Bool) (r : ProofReq) (s : State), (nextReq 5 s = some r) ∧ (s.seals.queue.head?.any (fun z => sealReady z s) = false) ∧ (attestBlocked s = []) ∧ (a = true ∨ b = true)) ∧
    (∃ (n : Nat) (r : ProofReq) (s : State), (nextReq 5 s = some r) ∧ (s.seals.queue.head?.any (fun z => sealReady z s) = false) ∧ (attestBlocked s = [n])) ∧
    (∃ (a b : Bool) (r : ProofReq) (s : State), (nextReq 5 s = some r) ∧ (s.seals.queue.head?.any (fun z => sealReady z s) = false) ∧ (attestBlocked s = []) ∧ (a = false) ∧ (b = false)) ∧
    (∃ (r : ProofReq) (s : State), (nextReq 5 s = some r) ∧ (s.seals.queue.head?.any (fun z => sealReady z s) = false) ∧ (attestBlocked s ≠ [])) ∧
    (∃ (r : ProofReq) (s : State), (nextReq 5 s = some r) ∧ (s.seals.queue.head?.any (fun z => sealReady z s) = true)) ∧
    (∃ (r : ProofReq) (s : State), (nextReq 6 s = some r)) ∧
    (∃ (p : Port) (g : Nat) (r : ProofReq) (q : Nat × List Nat) (s : State), (s.seals.reqs.find? (fun r => r.port == p && r.tag % 65536 == g) = some r) ∧ (r.resp = some q)) ∧
    (∃ (p : Port) (g : Nat) (r : ProofReq) (s : State), (s.seals.reqs.find? (fun r => r.port == p && r.tag % 65536 == g) = some r) ∧ (r.resp = none)) ∧
    (∃ (p : Port) (g : Nat) (s : State), (s.seals.reqs.find? (fun r => r.port == p && r.tag % 65536 == g) = none)) ∧
    (∃ (p : Port) (g n : Nat) (r : ProofReq) (s : State), (s.seals.reqs.find? (fun r => r.port == p && r.tag == g && r.resp.isSome) = some r) ∧ (60 ≤ n)) ∧
    (∃ (q : Nat) (l : List Nat) (s : State), (s.seals.toWit = q :: l)) ∧
    (∃ (p q : Nat) (x : WitReq) (e : SealEntry) (s : State), (s.seals.wits.find? (fun w => w.peer == p && w.seq == q) = some x) ∧ (entryAt q s = some e)) ∧
    (∃ (p q n : Nat) (x : WitReq) (s : State), (s.seals.wits.find? (fun w => w.peer == p && w.seq == q) = some x) ∧ (get Reg.SEAL_WIT_TMO.TMO_MS s ≤ n) ∧ (x.tries < get Reg.SEAL_WIT_TMO.RETRIES s)) ∧
    (∃ (p q n : Nat) (x : WitReq) (s : State), (s.seals.wits.find? (fun w => w.peer == p && w.seq == q) = some x) ∧ (get Reg.SEAL_WIT_TMO.TMO_MS s ≤ n) ∧ (get Reg.SEAL_WIT_TMO.RETRIES s ≤ x.tries)) :=
  ⟨⟨((.sas1 : Port)), ((5 :: List.replicate 95 0 : List Nat)), (at_ [] : State), by decide +kernel⟩,
    ⟨((.pcie : Port)), ((7 :: List.replicate 95 0 : List Nat)), by decide +kernel⟩,
    ⟨((.pcie : Port)), ((4 :: List.replicate 95 0 : List Nat)), (at_ [] : State), by decide +kernel⟩,
    ⟨((true : Bool)), (({ port := .sas0, op := 1, tag := 5, p1 := 7, p2 := 0, nonce := [] } : ProofReq)), (({ seq := 7, zone := 3, ns := 1, life := 0, bytes := [1, 2], pubkey := [3], cert := [4], groups := [] } : SealEntry)), ((fun (r : ProofReq) (e : SealEntry) => ({ at_ [] with seals := { reqs := [r], log := [e] } } : State)) (({ port := .sas0, op := 1, tag := 5, p1 := 7, p2 := 0, nonce := [] } : ProofReq)) (({ seq := 7, zone := 3, ns := 1, life := 0, bytes := [1, 2], pubkey := [3], cert := [4], groups := [] } : SealEntry))), by decide +kernel⟩,
    ⟨((false : Bool)), (({ port := .sas0, op := 1, tag := 5, p1 := 7, p2 := 0, nonce := [] } : ProofReq)), ((fun (r : ProofReq) => ({ at_ [] with seals := { reqs := [r] } } : State)) (({ port := .sas0, op := 1, tag := 5, p1 := 7, p2 := 0, nonce := [] } : ProofReq))), by decide +kernel⟩,
    ⟨((true : Bool)), (({ port := .sas0, op := 2, tag := 5, p1 := 1, p2 := 3, nonce := [] } : ProofReq)), (({ seq := 7, zone := 3, ns := 1, life := 0, bytes := [1, 2], pubkey := [3], cert := [4], groups := [] } : SealEntry)), ((fun (r : ProofReq) (e : SealEntry) => ({ setZone 3 { state := 14, type := 4, ns := 1, host := 65536, media := 65536, sealed := true } (at_ [(Reg.ZMG_ZTBL_HI.ADDR, 16), (Reg.ZMG_ZTBL_LO.ADDR, 0), (Reg.ZMG_NS_CFG.TYPE 1, 4), (Reg.ZMG_NS_CFG.LBAF 1, 0), (Reg.ZMG_NS_ZONES.FIRST 1, 3), (Reg.ZMG_NS_COUNT.COUNT 1, 2), (Reg.ZMG_OPEN_CNT.OPEN, 0), (Reg.ZMG_OPEN_CNT.ACTIVE, 0)]) with seals := { reqs := [r], log := [e] } } : State)) (({ port := .sas0, op := 2, tag := 5, p1 := 1, p2 := 3, nonce := [] } : ProofReq)) (({ seq := 7, zone := 3, ns := 1, life := 0, bytes := [1, 2], pubkey := [3], cert := [4], groups := [] } : SealEntry))), by decide +kernel⟩,
    ⟨(({ port := .sas0, op := 2, tag := 5, p1 := 1, p2 := 3, nonce := [] } : ProofReq)), ((fun (r : ProofReq) => ({ setZone 3 { state := 14, type := 4, ns := 1, host := 65536, media := 65536 } (at_ [(Reg.ZMG_ZTBL_HI.ADDR, 16), (Reg.ZMG_ZTBL_LO.ADDR, 0), (Reg.ZMG_NS_CFG.TYPE 1, 4), (Reg.ZMG_NS_CFG.LBAF 1, 0), (Reg.ZMG_NS_ZONES.FIRST 1, 3), (Reg.ZMG_NS_COUNT.COUNT 1, 2), (Reg.ZMG_OPEN_CNT.OPEN, 0), (Reg.ZMG_OPEN_CNT.ACTIVE, 0)]) with seals := { reqs := [r] } } : State)) (({ port := .sas0, op := 2, tag := 5, p1 := 1, p2 := 3, nonce := [] } : ProofReq))), by decide +kernel⟩,
    ⟨(({ port := .sas0, op := 2, tag := 5, p1 := 64, p2 := 3, nonce := [] } : ProofReq)), ((fun (r : ProofReq) => ({ at_ [] with seals := { reqs := [r] } } : State)) (({ port := .sas0, op := 2, tag := 5, p1 := 64, p2 := 3, nonce := [] } : ProofReq))), by decide +kernel⟩,
    ⟨((false : Bool)), (({ port := .sas0, op := 2, tag := 5, p1 := 1, p2 := 3, nonce := [] } : ProofReq)), (({ seq := 7, zone := 3, ns := 1, life := 0, bytes := [1, 2], pubkey := [3], cert := [4], groups := [] } : SealEntry)), ((fun (r : ProofReq) (e : SealEntry) => ({ setZone 3 { state := 14, type := 4, ns := 1, host := 65536, media := 65536, sealed := true } (at_ [(Reg.ZMG_ZTBL_HI.ADDR, 16), (Reg.ZMG_ZTBL_LO.ADDR, 0), (Reg.ZMG_NS_CFG.TYPE 1, 4), (Reg.ZMG_NS_CFG.LBAF 1, 0), (Reg.ZMG_NS_ZONES.FIRST 1, 3), (Reg.ZMG_NS_COUNT.COUNT 1, 2), (Reg.ZMG_OPEN_CNT.OPEN, 0), (Reg.ZMG_OPEN_CNT.ACTIVE, 0)]) with seals := { reqs := [r], log := [e] } } : State)) (({ port := .sas0, op := 2, tag := 5, p1 := 1, p2 := 3, nonce := [] } : ProofReq)) (({ seq := 7, zone := 3, ns := 1, life := 0, bytes := [1, 2], pubkey := [3], cert := [4], groups := [] } : SealEntry))), by decide +kernel⟩,
    ⟨((true : Bool)), (({ port := .sas0, op := 3, tag := 5, p1 := 7, p2 := 256, nonce := [] } : ProofReq)), ((fun (r : ProofReq) => ({ at_ [] with seals := { reqs := [r], log := [{ seq := 7, zone := 3, ns := 1, life := 0, bytes := [1, 2], pubkey := [3], cert := [4], groups := [] }] } } : State)) (({ port := .sas0, op := 3, tag := 5, p1 := 7, p2 := 256, nonce := [] } : ProofReq))), by decide +kernel⟩,
    ⟨(({ port := .sas0, op := 3, tag := 5, p1 := 7, p2 := 257, nonce := [] } : ProofReq)), ((fun (r : ProofReq) => ({ at_ [] with seals := { reqs := [r] } } : State)) (({ port := .sas0, op := 3, tag := 5, p1 := 7, p2 := 257, nonce := [] } : ProofReq))), by decide +kernel⟩,
    ⟨(({ port := .sas0, op := 3, tag := 5, p1 := 7, p2 := 4, nonce := [] } : ProofReq)), ((fun (r : ProofReq) => ({ at_ [] with seals := { reqs := [r], log := [{ seq := 7, zone := 3, ns := 1, life := 0, bytes := [1, 2], pubkey := [3], cert := [4], groups := [] }] } } : State)) (({ port := .sas0, op := 3, tag := 5, p1 := 7, p2 := 4, nonce := [] } : ProofReq))), by decide +kernel⟩,
    ⟨((true : Bool)), ((3 : Nat)), (({ port := .sas0, op := 4, tag := 5, p1 := 1, p2 := 20, nonce := [] } : ProofReq)), (({ seq := 7, zone := 3, ns := 1, life := 0, bytes := [1, 2], pubkey := [3], cert := [4], groups := [] } : SealEntry)), ((fun (r : ProofReq) (e : SealEntry) => ({ setZone 3 { state := 14, type := 4, ns := 1, host := 65536, media := 65536, sealed := true } (at_ [(Reg.ZMG_ZTBL_HI.ADDR, 16), (Reg.ZMG_ZTBL_LO.ADDR, 0), (Reg.ZMG_NS_CFG.TYPE 1, 4), (Reg.ZMG_NS_CFG.LBAF 1, 0), (Reg.ZMG_NS_ZONES.FIRST 1, 3), (Reg.ZMG_NS_COUNT.COUNT 1, 2), (Reg.ZMG_OPEN_CNT.OPEN, 0), (Reg.ZMG_OPEN_CNT.ACTIVE, 0)]) with seals := { reqs := [r], log := [e] } } : State)) (({ port := .sas0, op := 4, tag := 5, p1 := 1, p2 := 20, nonce := [] } : ProofReq)) (({ seq := 7, zone := 3, ns := 1, life := 0, bytes := [1, 2], pubkey := [3], cert := [4], groups := [] } : SealEntry))), by decide +kernel⟩,
    ⟨(({ port := .sas0, op := 4, tag := 5, p1 := 64, p2 := 20, nonce := [] } : ProofReq)), ((fun (r : ProofReq) => ({ at_ [] with seals := { reqs := [r] } } : State)) (({ port := .sas0, op := 4, tag := 5, p1 := 64, p2 := 20, nonce := [] } : ProofReq))), by decide +kernel⟩,
    ⟨(({ port := .sas0, op := 4, tag := 5, p1 := 1, p2 := 20, nonce := [] } : ProofReq)), ((fun (r : ProofReq) (e : SealEntry) => ({ setZone 3 { state := 14, type := 4, ns := 1, host := 65536, media := 65536, sealed := true } (at_ [(Reg.ZMG_ZTBL_HI.ADDR, 16), (Reg.ZMG_ZTBL_LO.ADDR, 0), (Reg.ZMG_NS_CFG.TYPE 1, 4), (Reg.ZMG_NS_CFG.LBAF 1, 0), (Reg.ZMG_NS_ZONES.FIRST 1, 3), (Reg.ZMG_NS_COUNT.COUNT 1, 2), (Reg.ZMG_OPEN_CNT.OPEN, 0), (Reg.ZMG_OPEN_CNT.ACTIVE, 0)]) with seals := { reqs := [r], log := [e] } } : State)) (({ port := .sas0, op := 4, tag := 5, p1 := 1, p2 := 20, nonce := [] } : ProofReq)) (({ seq := 7, zone := 3, ns := 1, life := 0, bytes := [1, 2], pubkey := [3], cert := [4], groups := [] } : SealEntry))), by decide +kernel⟩,
    ⟨((true : Bool)), ((true : Bool)), (({ port := .sas0, op := 5, tag := 5, p1 := 0, p2 := 0, nonce := [] } : ProofReq)), ((fun (r : ProofReq) => ({ at_ [(Reg.SEAL_STAT.PROV, 1), (Reg.SYS_MODE.CUR, 3)] with seals := { reqs := [r] } } : State)) (({ port := .sas0, op := 5, tag := 5, p1 := 0, p2 := 0, nonce := [] } : ProofReq))), by decide +kernel⟩,
    ⟨((8 : Nat)), (({ port := .sas0, op := 5, tag := 5, p1 := 0, p2 := 0, nonce := [] } : ProofReq)), ((fun (r : ProofReq) => ({ at_ [(Reg.SEAL_STAT.PROV, 1), (Reg.SYS_MODE.CUR, 2)] with seals := { reqs := [r] } } : State)) (({ port := .sas0, op := 5, tag := 5, p1 := 0, p2 := 0, nonce := [] } : ProofReq))), by decide +kernel⟩,
    ⟨((false : Bool)), ((false : Bool)), (({ port := .sas0, op := 5, tag := 5, p1 := 0, p2 := 0, nonce := [] } : ProofReq)), ((fun (r : ProofReq) => ({ at_ [(Reg.SEAL_STAT.PROV, 1), (Reg.SYS_MODE.CUR, 3)] with seals := { reqs := [r] } } : State)) (({ port := .sas0, op := 5, tag := 5, p1 := 0, p2 := 0, nonce := [] } : ProofReq))), by decide +kernel⟩,
    ⟨(({ port := .sas0, op := 5, tag := 5, p1 := 0, p2 := 0, nonce := [] } : ProofReq)), ((fun (r : ProofReq) => ({ at_ [(Reg.SEAL_STAT.FAULT, 1), (Reg.SYS_MODE.CUR, 2)] with seals := { reqs := [r] } } : State)) (({ port := .sas0, op := 5, tag := 5, p1 := 0, p2 := 0, nonce := [] } : ProofReq))), by decide +kernel⟩,
    ⟨(({ port := .sas0, op := 5, tag := 5, p1 := 0, p2 := 0, nonce := [] } : ProofReq)), ((fun (r : ProofReq) => ({ setZone 3 { state := 14, type := 4, ns := 1, host := 65536, media := 65536 } (at_ [(Reg.ZMG_ZTBL_HI.ADDR, 16), (Reg.ZMG_ZTBL_LO.ADDR, 0), (Reg.ZMG_NS_CFG.TYPE 1, 4), (Reg.ZMG_NS_CFG.LBAF 1, 0), (Reg.ZMG_NS_ZONES.FIRST 1, 3), (Reg.ZMG_NS_COUNT.COUNT 1, 2), (Reg.ZMG_OPEN_CNT.OPEN, 0), (Reg.ZMG_OPEN_CNT.ACTIVE, 0), (Reg.SYS_MODE.CUR, 3), (Reg.SEAL_CTL.EN, 1)]) with seals := { key := some 9, queue := [3], reqs := [r], ctxs := [(3, { groups := List.replicate 4096 0 })] }, zmg := { fullAt := [(3, 65536)] } } : State)) (({ port := .sas0, op := 5, tag := 5, p1 := 0, p2 := 0, nonce := [] } : ProofReq))), by decide +kernel⟩,
    ⟨(({ port := .sas0, op := 6, tag := 5, p1 := 0, p2 := 0, nonce := [] } : ProofReq)), ((fun (r : ProofReq) => ({ at_ [(Reg.SEAL_STAT.PROV, 1), (Reg.SEAL_CERT_CTL.LEN, 3)] with seals := { reqs := [r] } } : State)) (({ port := .sas0, op := 6, tag := 5, p1 := 0, p2 := 0, nonce := [] } : ProofReq))), by decide +kernel⟩,
    ⟨((.sas0 : Port)), ((5 : Nat)), (({ port := .sas0, op := 6, tag := 5, p1 := 0, p2 := 0, nonce := [], resp := some (0, [7, 8]) } : ProofReq)), (((0, [7, 8]) : Nat × List Nat)), ((fun (r : ProofReq) => ({ at_ [] with seals := { reqs := [r] } } : State)) (({ port := .sas0, op := 6, tag := 5, p1 := 0, p2 := 0, nonce := [], resp := some (0, [7, 8]) } : ProofReq))), by decide +kernel⟩,
    ⟨((.sas0 : Port)), ((5 : Nat)), (({ port := .sas0, op := 6, tag := 5, p1 := 0, p2 := 0, nonce := [] } : ProofReq)), ((fun (r : ProofReq) => ({ at_ [] with seals := { reqs := [r] } } : State)) (({ port := .sas0, op := 6, tag := 5, p1 := 0, p2 := 0, nonce := [] } : ProofReq))), by decide +kernel⟩,
    ⟨((.sas0 : Port)), ((5 : Nat)), (at_ [] : State), by decide +kernel⟩,
    ⟨((.sas0 : Port)), ((5 : Nat)), ((60 : Nat)), (({ port := .sas0, op := 6, tag := 5, p1 := 0, p2 := 0, nonce := [], resp := some (0, [7, 8]) } : ProofReq)), ((fun (r : ProofReq) => ({ at_ [] with seals := { reqs := [r] } } : State)) (({ port := .sas0, op := 6, tag := 5, p1 := 0, p2 := 0, nonce := [], resp := some (0, [7, 8]) } : ProofReq))), by decide +kernel⟩,
    ⟨((7 : Nat)), (([9] : List Nat)), ({ at_ [(Reg.SEAL_CTL.WIT_EN, 1), (Reg.SEAL_WIT_CFG.N, 3), (Reg.SEAL_WIT_CFG.PEER0, 5), (Reg.SEAL_WIT_CFG.PEER1, 6)] with seals := { toWit := [7, 9], log := [{ seq := 7, zone := 3, ns := 1, life := 0, bytes := [1, 2], pubkey := [3], cert := [4], groups := [] }] } } : State), by decide +kernel⟩,
    ⟨((5 : Nat)), ((7 : Nat)), (({ peer := 5, seq := 7 } : WitReq)), (({ seq := 7, zone := 3, ns := 1, life := 0, bytes := [1, 2], pubkey := [3], cert := [4], groups := [] } : SealEntry)), ((fun (e : SealEntry) => ({ at_ [] with seals := { wits := [{ peer := 5, seq := 7 }], logFree := 1, log := [e] } } : State)) (({ seq := 7, zone := 3, ns := 1, life := 0, bytes := [1, 2], pubkey := [3], cert := [4], groups := [] } : SealEntry))), by decide +kernel⟩,
    ⟨((5 : Nat)), ((7 : Nat)), ((5000 : Nat)), (({ peer := 5, seq := 7 } : WitReq)), ((fun (x : WitReq) => ({ at_ [(Reg.SEAL_WIT_TMO.TMO_MS, 5000), (Reg.SEAL_WIT_TMO.RETRIES, 3)] with seals := { wits := [x] } } : State)) (({ peer := 5, seq := 7 } : WitReq))), by decide +kernel⟩,
    ⟨((5 : Nat)), ((7 : Nat)), ((5000 : Nat)), (({ peer := 5, seq := 7, tries := 3 } : WitReq)), ((fun (x : WitReq) => ({ at_ [(Reg.SEAL_WIT_TMO.TMO_MS, 5000), (Reg.SEAL_WIT_TMO.RETRIES, 3)] with seals := { wits := [x] } } : State)) (({ peer := 5, seq := 7, tries := 3 } : WitReq))), by decide +kernel⟩⟩

/-- The hypotheses of HostPortsTrainResetAndDemand, clause by clause, are met. -/
theorem witness_host_ports_train_reset_and_demand :
    (∃ (l : List Nat) (s : State), ((List.range 7).filter (fun n => l.contains n && !(s.host.dead.contains n)) = [])) ∧
    (∃ (l : List Nat) (n : Nat) (d : List Nat) (s : State), ((List.range 7).filter (fun n => l.contains n && !(s.host.dead.contains n)) = n :: d) ∧ (get Reg.HPC_HLANE.AUTO s = 1) ∧ (get Reg.HPC_HLANE.SEL s = 7)) ∧
    (∃ (l : List Nat) (n : Nat) (d : List Nat) (s : State), ((List.range 7).filter (fun n => l.contains n && !(s.host.dead.contains n)) = n :: d) ∧ (get Reg.HPC_HLANE.AUTO s ≠ 1 ∨ get Reg.HPC_HLANE.SEL s ≠ 7)) ∧
    (∃ (r w : Nat) (s : State), (portsTrain s = true) ∧ (get Reg.HPC_LINK.UP s = 0) ∧ (s.pins.perstN = true) ∧ (1 ≤ r) ∧ (r ≤ get Reg.HPC_CFG.MAX_SPEED s) ∧ (r < 8) ∧ (w = 1 ∨ w = 2 ∨ w = 4) ∧ (w ≤ maxWidth s)) ∧
    (∃ (r : Nat) (s : State), (portsTrain s = true) ∧ (get Reg.HST_LINK.UP s = 0) ∧ (get Reg.HST_CFG.EN s = 1) ∧ (1 ≤ r) ∧ (r ≤ get Reg.HST_CFG.MAX_GEN s) ∧ (r < 4) ∧ (laneWorks 6 s = true)) ∧
    (∃ (p : Port) (r k : Nat) (s : State), (portsTrain s = true) ∧ (p = .sas0 ∧ k = 0 ∨ p = .sas1 ∧ k = 1) ∧ (get (Reg.HSA_LINK.UP k) s = 0) ∧ (get (Reg.HSA_CFG.EN k) s = 1) ∧ (r ≤ get (Reg.HSA_CFG.MAX_RATE k) s) ∧ (r < 4) ∧ (laneWorks (4 + k) s = true)) ∧
    (∃ (s : State), (get Reg.HPC_LINK.UP s = 1)) ∧
    (∃ (s : State), (s.pins.perstN = true)) ∧
    (∃ (s : State), (s.pins.perstN = false)) ∧
    (∃ (s : State), (get Reg.HPC_LINK.UP s = 1)) ∧
    (∃ (s : State), (get Reg.HST_LINK.UP s = 1)) ∧
    (∃ (p : Port) (k : Nat) (s : State), (p = .sas0 ∧ k = 0 ∨ p = .sas1 ∧ k = 1) ∧ (get (Reg.HSA_LINK.UP k) s = 1)) ∧
    (∃ (c : HostCmd) (s : State), (isSas c.port = true) ∧ (s.host.nexus.contains (nexusOf c) = false)) ∧
    (∃ (p n i : Nat) (r : Bool) (s : State), (p < 2) ∧ (get Reg.HSA_NEXUS.IDLE_S s ≤ i) ∧ (r = false) ∧ (s.host.ua.contains (p, n) = false) ∧ (s.cmd.ctxs.any (fun c => isSas c.cmd.port && nexusOf c.cmd == (p, n)) = false)) ∧
    (∃ (p : Nat), (p < 2)) ∧
    (∃ (p : Nat), (p < 2)) ∧
    (∃ (c : PowerCond) (d : Nat × Nat) (s : State), (get Reg.HPC_LINK.UP s = 1) ∧ (condDemand .pcie c s = some d) ∧ (d.2 < 256)) ∧
    (∃ (c : PowerCond) (s : State), (get Reg.HPC_LINK.UP s = 1) ∧ (c = .d0 ∨ c = .d3hot)) ∧
    (∃ (p : Port) (c : PowerCond) (d : Nat × Nat) (s : State), (p = .sata ∨ p = .sas0 ∨ p = .sas1) ∧ (isUp p s = true) ∧ (condDemand p c s = some d) ∧ (d.2 < 256)) ∧
    (∃ (s : State), (mode s = 4) ∧ (get Reg.HPC_LINK.UP s = 1)) ∧
    (∃ (s : State), (mode s = 4) ∧ (get Reg.HST_LINK.UP s = 1)) ∧
    (∃ (p : Port) (k : Nat) (s : State), (p = .sas0 ∧ k = 0 ∨ p = .sas1 ∧ k = 1) ∧ (mode s = 4) ∧ (get (Reg.HSA_LINK.UP k) s = 1)) ∧
    (∃ (a : Nat) (s : State), (s.pins.rails = true) ∧ (a = get Reg.SMB_CFG.ADDR s) ∧ (get Reg.SMB_CFG.EN s = 1)) ∧
    (∃ (n : Nat), (25 ≤ n)) :=
  ⟨⟨(([7] : List Nat)), (at_ [] : State), by decide +kernel⟩,
    ⟨(([5, 2] : List Nat)), ((2 : Nat)), (([5] : List Nat)), (at_ [(Reg.HPC_HLANE.AUTO, 1), (Reg.HPC_HLANE.SEL, 7)] : State), by decide +kernel⟩,
    ⟨(([5, 2] : List Nat)), ((2 : Nat)), (([5] : List Nat)), (at_ [(Reg.HPC_HLANE.AUTO, 1), (Reg.HPC_HLANE.SEL, 3)] : State), by decide +kernel⟩,
    ⟨((5 : Nat)), ((4 : Nat)), ({ at_ [(Reg.SYS_MODE.CUR, 3), (Reg.SYS_MODE.STAGE, 1), (Reg.HPC_LINK.UP, 0), (Reg.HPC_CFG.MAX_SPEED, 5), (Reg.HPC_CFG.MAX_WIDTH, 2)] with pins := { (at_ []).pins with perstN := true } } : State), by decide +kernel⟩,
    ⟨((3 : Nat)), (at_ [(Reg.SYS_MODE.CUR, 3), (Reg.SYS_MODE.STAGE, 1), (Reg.HST_LINK.UP, 0), (Reg.HST_CFG.EN, 1), (Reg.HST_CFG.MAX_GEN, 3)] : State), by decide +kernel⟩,
    ⟨((.sas1 : Port)), ((3 : Nat)), ((1 : Nat)), (at_ [(Reg.SYS_MODE.CUR, 3), (Reg.SYS_MODE.STAGE, 1), (Reg.HSA_LINK.UP 1, 0), (Reg.HSA_CFG.EN 1, 1), (Reg.HSA_CFG.MAX_RATE 1, 3)] : State), by decide +kernel⟩,
    ⟨({ at_ [(Reg.HPC_LINK.UP, 1), (Reg.HPC_LINK.SPEED, 4), (Reg.HPC_PM.DSTATE, 3), (Reg.HPC_DEMAND.MODE, 3)] with cmd := { ctxs := [cx (.read 0 1), { (cx (.read 0 1)) with cmd := { (hc (.read 0 1)) with port := .pcie } }] } } : State), by decide +kernel⟩,
    ⟨({ at_ [(Reg.HPC_LINK.UP, 1), (Reg.HPC_PM.DSTATE, 3), (Reg.HPC_PM.D3C_STBY, 1)] with pins := { (at_ []).pins with perstN := true } } : State), by decide +kernel⟩,
    ⟨({ at_ [(Reg.HPC_DEMAND.MODE, 1)] with pins := { (at_ []).pins with perstN := false }, host := { d3cold := true } } : State), by decide +kernel⟩,
    ⟨(at_ [(Reg.HPC_LINK.UP, 1), (Reg.HPC_PM.DSTATE, 3), (Reg.HPC_PM.PS, 2)] : State), by decide +kernel⟩,
    ⟨(at_ [(Reg.HST_LINK.UP, 1), (Reg.HST_LINK.GEN, 3)] : State), by decide +kernel⟩,
    ⟨((.sas0 : Port)), ((0 : Nat)), (at_ [(Reg.HSA_LINK.UP 0, 1), (Reg.HSA_LINK.UP 1, 1), (Reg.HSA_DEMAND.MODE, 3)] : State), by decide +kernel⟩,
    ⟨((hc (.read 0 1) : HostCmd)), (at_ [(Reg.CMD_CTL.EN, 1), (Reg.SYS_MODE.CUR, 3)] : State), by decide +kernel⟩,
    ⟨((1 : Nat)), ((4 : Nat)), ((300 : Nat)), ((false : Bool)), ({ at_ [(Reg.HSA_NEXUS.IDLE_S, 300)] with host := { nexus := [(1, 4), (0, 4)] } } : State), by decide +kernel⟩,
    ⟨((1 : Nat)), by decide +kernel⟩,
    ⟨((1 : Nat)), by decide +kernel⟩,
    ⟨((.ps 1 : PowerCond)), (((4, 192) : Nat × Nat)), (at_ [(Reg.HPC_LINK.UP, 1), (Reg.HPC_PM.PS1_LEVEL, 192)] : State), by decide +kernel⟩,
    ⟨((.d3hot : PowerCond)), (at_ [(Reg.HPC_LINK.UP, 1)] : State), by decide +kernel⟩,
    ⟨((.sas0 : Port)), ((.idleB : PowerCond)), (((4, 192) : Nat × Nat)), (at_ [(Reg.HSA_LINK.UP 0, 1), (Reg.HSA_PM.IDLE_B, 192)] : State), by decide +kernel⟩,
    ⟨(at_ [(Reg.HPC_LINK.UP, 1), (Reg.SYS_MODE.CUR, 4)] : State), by decide +kernel⟩,
    ⟨(at_ [(Reg.HST_LINK.UP, 1), (Reg.SYS_MODE.CUR, 4)] : State), by decide +kernel⟩,
    ⟨((.sas1 : Port)), ((1 : Nat)), (at_ [(Reg.HSA_LINK.UP 1, 1), (Reg.SYS_MODE.CUR, 4), (Reg.HSA_CFG.PARTIAL_EN 1, 1)] : State), by decide +kernel⟩,
    ⟨((0x1D : Nat)), ({ at_ [(Reg.SMB_CFG.ADDR, 0x1D), (Reg.SMB_CFG.EN, 1), (Reg.SYS_MODE.CUR, 2)] with pins := { (at_ []).pins with rails := true } } : State), by decide +kernel⟩,
    ⟨((25 : Nat)), by decide +kernel⟩⟩

/-- The hypotheses of CommandsAreStampedAndStarted, clause by clause, are met. -/
theorem witness_commands_are_stamped_and_started :
    (∃ (x : HostCmd) (s : State), (s.boot.recovery = false) ∧ (storeRuns s = true) ∧ (get Reg.SYS_MODE.ACT s ≠ 1 ∨ x.port = .internal ∨ x.port = .sideband) ∧ (isSas x.port = false ∨ hasNexus x s = true ∧ (s.host.ua.contains (nexusOf x) = false ∨ isMedia x.op = false)) ∧ (hasRoom (ctxClass x) s = true)) ∧
    (∃ (x : HostCmd) (s : State), (s.boot.recovery = false) ∧ (storeRuns s = true) ∧ (get Reg.SYS_MODE.ACT s ≠ 1 ∨ x.port = .internal ∨ x.port = .sideband) ∧ (isSas x.port = false ∨ hasNexus x s = true ∧ (s.host.ua.contains (nexusOf x) = false ∨ isMedia x.op = false)) ∧ (hasRoom (ctxClass x) s = false)) ∧
    (∃ (x : HostCmd) (s : State), (s.boot.recovery = false) ∧ (storeRuns s = true) ∧ (get Reg.SYS_MODE.ACT s = 1) ∧ (x.port = .sata) ∧ (s.cmd.held.length < 32)) ∧
    (∃ (x : HostCmd) (s : State), (s.boot.recovery = false) ∧ (storeRuns s = true) ∧ (get Reg.SYS_MODE.ACT s = 1) ∧ (isSas x.port = true)) ∧
    (∃ (x : HostCmd) (s : State), (s.boot.recovery = false) ∧ (storeRuns s = true) ∧ (get Reg.SYS_MODE.ACT s ≠ 1) ∧ (isSas x.port = true) ∧ (s.host.nexus.contains (nexusOf x) = true) ∧ (s.host.ua.contains (nexusOf x) = true) ∧ (isMedia x.op = true)) ∧
    (∃ (s : State), (s.boot.recovery = true)) ∧
    (∃ (q : Nat) (l : List HostCmd) (s : State), (s.boot.recovery = false) ∧ (q ≤ 1023) ∧ (l.length ≤ 8) ∧ (l.all (fun c => c.port == .pcie && c.nexus == q) = true) ∧ (storeRuns s = true) ∧ (get Reg.SYS_MODE.ACT s = 0) ∧ (s.cmd.next < 2 ^ 48) ∧ (s.cmd.ctxs.length + 8 ≤ 131072) ∧ ([0, 3].all (fun k => decide (classUsed k s + 8 ≤ classCap k s)) = true)) ∧
    (∃ (q k : Nat) (l : List HostCmd) (s : State), (s.boot.recovery = false) ∧ (q ≤ 1023) ∧ (l.length ≤ 8) ∧ (l.all (fun c => c.port == .pcie && c.nexus == q) = true) ∧ (storeRuns s = true) ∧ (get Reg.SYS_MODE.ACT s = 0) ∧ (k ≤ l.length) ∧ ((List.range k).all (fun i => roomForNth l i s) = true) ∧ (roomForNth l k s = false)) ∧
    (∃ (n : Nat) (c : Ctx) (s : State), (ctxOf n s = some c) ∧ (mayStart c s = true) ∧ (inTurn c s = true) ∧ (get Reg.CMD_EXEC_STAT.EXEC s < 4096) ∧ (refusals { c with started := true, lba := match c.cmd.op with | .write a _ _ => a | _ => 0 } s = []) ∧ (isWrite c.cmd.op = true)) ∧
    (∃ (n : Nat) (c : Ctx) (s : State), (ctxOf n s = some c) ∧ (c.stamp = n) ∧ (mayStart c s = true) ∧ (inTurn c s = true) ∧ (get Reg.CMD_EXEC_STAT.EXEC s < 4096) ∧ (needsNs c.cmd.op = true) ∧ (c.attached = false)) ∧
    (∃ (n : Nat) (c : Ctx) (s : State), (ctxOf n s = some c) ∧ (c.stamp = n) ∧ (mayStart c s = true) ∧ (inTurn c s = true) ∧ (get Reg.CMD_EXEC_STAT.EXEC s < 4096) ∧ (c.cmd.op = .admin) ∧ (c.cmd.naca = false)) ∧
    (∃ (n : Nat) (c d : Ctx) (s : State), (ctxOf n s = some c) ∧ (c.stamp = n) ∧ (mayStart c s = true) ∧ (inTurn c s = true) ∧ (get Reg.CMD_EXEC_STAT.EXEC s < 4096) ∧ (d = startedCtx c)) ∧
    (∃ (n : Nat) (c : Ctx) (q g : Nat) (s : State), (ctxOf n s = some c) ∧ (c.started = true) ∧ ((isMedia c.cmd.op && tableWaits c.cmd.ns s) = false) ∧ (c.cmd.op = .abort q g) ∧ (c.stamp = n) ∧ (s.cmd.ctxs.find? (fun d => d.cmd.port == .pcie && d.cmd.nexus == q && d.cmd.tag == g && d.stamp != n) = none)) ∧
    (∃ (n q g : Nat) (c d : Ctx) (s : State), (ctxOf n s = some c) ∧ (c.started = true) ∧ (c.cmd.op = .abort q g) ∧ (c.stamp = n) ∧ (s.cmd.ctxs.find? (fun d => d.cmd.port == .pcie && d.cmd.nexus == q && d.cmd.tag == g && d.stamp != n) = some d)) ∧
    (∃ (p x f : Nat) (s : State), (p < 2) ∧ (f < 4) ∧ (s.host.nexus.contains (p, x) = true)) ∧
    (∃ (s : State), (s.cmd.ncqFailed = true) ∧ (s.cmd.ctxs.all (fun d => !d.cmd.ncq || d.cmd.port == .sata) = true)) ∧
    (∃ (p : Port), (isHostPort p = true)) ∧
    (∃ (n : Nat) (c : Ctx) (s : State), (ctxOf n s = some c)) :=
  ⟨⟨(({ (hc (.read 0 1)) with port := .pcie } : HostCmd)), ({ at_ [(Reg.CMD_CTL.EN, 1), (Reg.SYS_MODE.CUR, 3), (Reg.CMD_RSV.ADMIN, 256), (Reg.CMD_RSV.SAS, 4096)] with cmd := { next := 5 } } : State), by decide +kernel⟩,
    ⟨((hc (.read 0 1) : HostCmd)), ({ at_ [(Reg.CMD_CTL.EN, 1), (Reg.SYS_MODE.CUR, 3), (Reg.CMD_RSV.SAS, 0)] with host := { nexus := [(0, 2)] } } : State), by decide +kernel⟩,
    ⟨(({ (hc (.read 0 1)) with port := .sata } : HostCmd)), (at_ [(Reg.CMD_CTL.EN, 1), (Reg.SYS_MODE.CUR, 3), (Reg.SYS_MODE.ACT, 1)] : State), by decide +kernel⟩,
    ⟨((hc (.read 0 1) : HostCmd)), (at_ [(Reg.CMD_CTL.EN, 1), (Reg.SYS_MODE.CUR, 3), (Reg.SYS_MODE.ACT, 1)] : State), by decide +kernel⟩,
    ⟨((hc (.read 0 1) : HostCmd)), ({ at_ [(Reg.CMD_CTL.EN, 1), (Reg.SYS_MODE.CUR, 3)] with host := { nexus := [(0, 2)], ua := [(0, 2)] } } : State), by decide +kernel⟩,
    ⟨({ at_ [] with boot := { recovery := true } } : State), by decide +kernel⟩,
    ⟨((2 : Nat)), (([{ (hc (.read 0 1)) with port := .pcie }, { (hc .admin) with port := .pcie }] : List HostCmd)), (at_ [(Reg.CMD_CTL.EN, 1), (Reg.SYS_MODE.CUR, 3), (Reg.CMD_RSV.ADMIN, 256), (Reg.CMD_RSV.SAS, 4096)] : State), by decide +kernel⟩,
    ⟨((2 : Nat)), ((1 : Nat)), (([{ (hc (.read 0 1)) with port := .pcie }, { (hc .admin) with port := .pcie }] : List HostCmd)), (at_ [(Reg.CMD_CTL.EN, 1), (Reg.SYS_MODE.CUR, 3), (Reg.CMD_RSV.ADMIN, 0), (Reg.CMD_RSV.SAS, 4096)] : State), by decide +kernel⟩,
    ⟨((9 : Nat)), (({ (cx (.write 0 1 false)) with started := false } : Ctx)), ((fun (c : Ctx) => ({ at_ [(Reg.CMD_CTL.EN, 1), (Reg.SYS_MODE.CUR, 3), (Reg.ZMG_NS_COUNT.COUNT 1, 2), (Reg.ZMG_NS_CFG.LBAF 1, 0), (Reg.ZMG_NS_CFG.TYPE 1, 1), (Reg.ZMG_NS_CFG.RO 1, 0), (Reg.SPN_STAT.NOT_READY, 0), (Reg.CMD_EXEC_STAT.EXEC, 0)] with cmd := { ctxs := [c] } } : State)) (({ (cx (.write 0 1 false)) with started := false } : Ctx))), by decide +kernel⟩,
    ⟨((9 : Nat)), (({ (cx (.read 0 1)) with started := false, attached := false } : Ctx)), ((fun (c : Ctx) => ({ at_ [(Reg.CMD_CTL.EN, 1), (Reg.SYS_MODE.CUR, 3), (Reg.CMD_EXEC_STAT.EXEC, 0)] with cmd := { ctxs := [c] } } : State)) (({ (cx (.read 0 1)) with started := false, attached := false } : Ctx))), by decide +kernel⟩,
    ⟨((9 : Nat)), (({ (cx .admin) with started := false } : Ctx)), ((fun (c : Ctx) => ({ at_ [(Reg.CMD_CTL.EN, 1), (Reg.SYS_MODE.CUR, 3), (Reg.CMD_EXEC_STAT.EXEC, 0)] with cmd := { ctxs := [c] } } : State)) (({ (cx .admin) with started := false } : Ctx))), by decide +kernel⟩,
    ⟨((9 : Nat)), (({ (cx .admin) with started := false } : Ctx)), ((fun (c : Ctx) => (startedCtx c : Ctx)) (({ (cx .admin) with started := false } : Ctx))), ((fun (c : Ctx) => ({ at_ [(Reg.CMD_CTL.EN, 1), (Reg.SYS_MODE.CUR, 3), (Reg.CMD_EXEC_STAT.EXEC, 0), (Reg.ZMG_NS_COUNT.COUNT 1, 2), (Reg.ZMG_NS_CFG.LBAF 1, 0), (Reg.ZMG_NS_CFG.TYPE 1, 2), (Reg.ZMG_NS_CFG.RO 1, 0), (Reg.SPN_STAT.NOT_READY, 0)] with cmd := { ctxs := [c] } } : State)) (({ (cx .admin) with started := false } : Ctx))), by decide +kernel⟩,
    ⟨((9 : Nat)), ((cx (.abort 1 2) : Ctx)), ((1 : Nat)), ((2 : Nat)), ((fun (c : Ctx) => ({ at_ [] with cmd := { ctxs := [c] } } : State)) ((cx (.abort 1 2) : Ctx))), by decide +kernel⟩,
    ⟨((9 : Nat)), ((1 : Nat)), ((2 : Nat)), ((cx (.abort 1 2) : Ctx)), (({ stamp := 4, cmd := { (hc (.read 0 1)) with port := .pcie, nexus := 1, tag := 2 }, cls := 3 } : Ctx)), ((fun (c : Ctx) (d : Ctx) => ({ at_ [] with cmd := { ctxs := [d, c] } } : State)) ((cx (.abort 1 2) : Ctx)) (({ stamp := 4, cmd := { (hc (.read 0 1)) with port := .pcie, nexus := 1, tag := 2 }, cls := 3 } : Ctx))), by decide +kernel⟩,
    ⟨((0 : Nat)), ((2 : Nat)), ((1 : Nat)), ((fun (ns : Nat) => ({ at_ [] with cmd := { ctxs := [cx (.read 0 1), { (cx (.read 3 1)) with stamp := 10, cmd := { (hc (.read 3 1)) with ns := 2 } }] }, host := { nexus := [(0, 2)] } } : State)) ((1 : Nat))), by decide +kernel⟩,
    ⟨({ at_ [] with cmd := { ncqFailed := true, ctxs := [{ (cx (.read 0 1)) with cmd := { (hc (.read 0 1)) with port := .sata, ncq := true } }] } } : State), by decide +kernel⟩,
    ⟨((.sas0 : Port)), by decide +kernel⟩,
    ⟨((9 : Nat)), ((cx (.read 0 1) : Ctx)), ((fun (c : Ctx) => ({ at_ [] with cmd := { ctxs := [c] } } : State)) ((cx (.read 0 1) : Ctx))), by decide +kernel⟩⟩

/-- The hypotheses of WritesReadsFlushesAndSelfTests, clause by clause, are met. -/
theorem witness_writes_reads_flushes_and_self_tests :
    (∃ (n : Nat) (c : Ctx) (b d v : Nat) (g : Bool) (s : State), (ctxOf n s = some c) ∧ (c.started = true) ∧ ((isMedia c.cmd.op && tableWaits c.cmd.ns s) = false) ∧ (c.stamp = n) ∧ (stagedData c b d s = some v) ∧ (mayAccept c b s = true) ∧ (notReady c.cmd.op s = none) ∧ (g = true) ∧ (cacheRoom c.cmd.ns b s = true)) ∧
    (∃ (n : Nat) (c : Ctx) (b d v : Nat) (g : Bool) (s : State), (ctxOf n s = some c) ∧ (c.started = true) ∧ ((isMedia c.cmd.op && tableWaits c.cmd.ns s) = false) ∧ (stagedData c b d s = some v) ∧ (mayAccept c b s = true) ∧ (notReady c.cmd.op s = none) ∧ (g = true) ∧ (cacheRoom c.cmd.ns b s = false)) ∧
    (∃ (n : Nat) (c : Ctx) (b d v : Nat) (g : Bool) (s : State), (ctxOf n s = some c) ∧ (c.started = true) ∧ ((isMedia c.cmd.op && tableWaits c.cmd.ns s) = false) ∧ (c.stamp = n) ∧ (stagedData c b d s = some v) ∧ (mayAccept c b s = true) ∧ (notReady c.cmd.op s = none) ∧ (g = false)) ∧
    (∃ (n : Nat) (c : Ctx) (b : Nat) (x : Status) (s : State), (ctxOf n s = some c) ∧ (c.started = true) ∧ ((isMedia c.cmd.op && tableWaits c.cmd.ns s) = false) ∧ (c.stamp = n) ∧ (c.cmd.port ≠ .fabric) ∧ (mayAccept c b s = true) ∧ (notReady c.cmd.op s = some x)) ∧
    (∃ (n : Nat) (c : Ctx) (s : State), (ctxOf n s = some c) ∧ (c.started = true) ∧ ((isMedia c.cmd.op && tableWaits c.cmd.ns s) = false) ∧ (c.stamp = n) ∧ (isWrite c.cmd.op = true) ∧ (c.accepted = true) ∧ (c.cached = true ∨ (firstLost c.cmd.ns (writeSpan c).1 (writeSpan c).2 s = none ∧ notReady c.cmd.op s = none ∧ onMediaAll c s = true))) ∧
    (∃ (n : Nat) (c : Ctx) (a : Nat) (s : State), (ctxOf n s = some c) ∧ (c.started = true) ∧ ((isMedia c.cmd.op && tableWaits c.cmd.ns s) = false) ∧ (c.stamp = n) ∧ (isWrite c.cmd.op = true) ∧ (c.accepted = true) ∧ (c.cached = false) ∧ (firstLost c.cmd.ns (writeSpan c).1 (writeSpan c).2 s = some a)) ∧
    (∃ (n : Nat) (c : Ctx) (s : State), (ctxOf n s = some c) ∧ (c.started = true) ∧ ((isMedia c.cmd.op && tableWaits c.cmd.ns s) = false) ∧ (isWrite c.cmd.op = true) ∧ (c.accepted = false)) ∧
    (∃ (n : Nat) (c : Ctx) (s : State), (ctxOf n s = some c) ∧ (c.started = true) ∧ ((isMedia c.cmd.op && tableWaits c.cmd.ns s) = false) ∧ (isWrite c.cmd.op = true) ∧ (c.accepted = true) ∧ (c.cached = false) ∧ (firstLost c.cmd.ns (writeSpan c).1 (writeSpan c).2 s = none) ∧ (notReady c.cmd.op s = none)) ∧
    (∃ (n : Nat) (c : Ctx) (m : List (Option Nat)) (g : Bool) (a k : Nat) (l : List Nat) (s : State), (ctxOf n s = some c) ∧ (c.started = true) ∧ ((isMedia c.cmd.op && tableWaits c.cmd.ns s) = false) ∧ (c.cmd.op = .read a k) ∧ (c.stamp = n) ∧ (c.cmd.port ≠ .fabric) ∧ (notReady c.cmd.op s = none) ∧ (firstLost c.cmd.ns a k s = none) ∧ ((touchesPend c.cmd.ns a k s && (get Reg.ZMG_RECOV_CFG.REREAD s == 0 || m.any (·.isNone))) = false) ∧ (readOffline c s = false) ∧ (readHeld c s = false) ∧ (g = true) ∧ ((readBlocks c.cmd.ns a k (blocksOf c.cmd.ns a k s) m s).1 = some l) ∧ (mediaRead s = true ∨ (blocksOf c.cmd.ns a k s).any (fun b => needsMedia c.cmd.ns b a k s && !aboveMedia c.cmd.ns b s) = false)) ∧
    (∃ (n : Nat) (c : Ctx) (m : List (Option Nat)) (g : Bool) (a k : Nat) (l : List Nat) (s : State), (ctxOf n s = some c) ∧ (c.started = true) ∧ ((isMedia c.cmd.op && tableWaits c.cmd.ns s) = false) ∧ (c.cmd.op = .read a k) ∧ (c.stamp = n) ∧ (c.cmd.port = .fabric) ∧ (notReady c.cmd.op s = none) ∧ (firstLost c.cmd.ns a k s = none) ∧ ((touchesPend c.cmd.ns a k s && (get Reg.ZMG_RECOV_CFG.REREAD s == 0 || m.any (·.isNone))) = false) ∧ (readOffline c s = false) ∧ (readHeld c s = false) ∧ (g = true) ∧ ((readBlocks c.cmd.ns a k (blocksOf c.cmd.ns a k s) m s).1 = some l) ∧ (mediaRead s = true ∨ (blocksOf c.cmd.ns a k s).any (fun b => needsMedia c.cmd.ns b a k s && !aboveMedia c.cmd.ns b s) = false)) ∧
    (∃ (n : Nat) (c : Ctx) (a k : Nat) (s : State), (ctxOf n s = some c) ∧ (c.started = true) ∧ ((isMedia c.cmd.op && tableWaits c.cmd.ns s) = false) ∧ (c.cmd.op = .read a k) ∧ (c.stamp = n) ∧ (notReady c.cmd.op s = none) ∧ (firstLost c.cmd.ns a k s = none)) ∧
    (∃ (n : Nat) (c : Ctx) (a k x : Nat) (s : State), (ctxOf n s = some c) ∧ (c.started = true) ∧ ((isMedia c.cmd.op && tableWaits c.cmd.ns s) = false) ∧ (c.cmd.op = .read a k) ∧ (c.stamp = n) ∧ (notReady c.cmd.op s = none) ∧ (firstLost c.cmd.ns a k s = some x)) ∧
    (∃ (n : Nat) (c : Ctx) (b : Bool) (s : State), (ctxOf n s = some c) ∧ (c.started = true) ∧ ((isMedia c.cmd.op && tableWaits c.cmd.ns s) = false) ∧ (c.cmd.op = .flush b) ∧ (c.stamp = n) ∧ (notReady c.cmd.op s = none) ∧ ((flushSet c s).all (fun m => flushed c m s) = true) ∧ (s.cmd.lost.find? (fun e => (flushSet c s).contains e.ns && !e.reported) = none)) ∧
    (∃ (n : Nat) (c : Ctx) (b : Bool) (e : Lost) (s : State), (ctxOf n s = some c) ∧ (c.started = true) ∧ ((isMedia c.cmd.op && tableWaits c.cmd.ns s) = false) ∧ (c.cmd.op = .flush b) ∧ (c.stamp = n) ∧ (notReady c.cmd.op s = none) ∧ ((flushSet c s).all (fun m => flushed c m s) = true) ∧ (s.cmd.lost.find? (fun e => (flushSet c s).contains e.ns && !e.reported) = some e)) ∧
    (∃ (n : Nat) (c : Ctx) (b : Bool) (s : State), (ctxOf n s = some c) ∧ (c.started = true) ∧ ((isMedia c.cmd.op && tableWaits c.cmd.ns s) = false) ∧ (c.cmd.op = .flush b) ∧ (notReady c.cmd.op s = none) ∧ ((flushSet c s).all (fun m => flushed c m s) = false)) ∧
    (∃ (n : Nat) (c : Ctx) (b : Bool) (s : State), (ctxOf n s = some c) ∧ (c.started = true) ∧ ((isMedia c.cmd.op && tableWaits c.cmd.ns s) = false) ∧ (c.cmd.op = .setWce b) ∧ (c.stamp = n)) ∧
    (∃ (n b k : Nat) (s : State), (1 ≤ k) ∧ (k ≤ 3) ∧ ((lineOf n b s).isSome = true) ∧ (nsType n s ≠ 4)) ∧
    (∃ (n b k : Nat) (s : State), (1 ≤ k) ∧ (k ≤ 3) ∧ ((lineOf n b s).isSome = true) ∧ (nsType n s = 4)) ∧
    (∃ (n : Nat) (c : Ctx) (e : Bool) (s : State), (ctxOf n s = some c) ∧ (c.started = true) ∧ ((isMedia c.cmd.op && tableWaits c.cmd.ns s) = false) ∧ (c.cmd.op = .selfTest e) ∧ (c.stamp = n) ∧ (get Reg.CMD_ST_STAT.STATE s = 0)) ∧
    (∃ (n : Nat) (c : Ctx) (e : Bool) (s : State), (ctxOf n s = some c) ∧ (c.started = true) ∧ ((isMedia c.cmd.op && tableWaits c.cmd.ns s) = false) ∧ (c.cmd.op = .selfTest e) ∧ (c.stamp = n) ∧ (get Reg.CMD_ST_STAT.STATE s ≠ 0)) ∧
    (∃ (s : State), (get Reg.CMD_ST_STAT.STATE s = 1) ∧ (mediaInStore s = true)) ∧
    (∃ (k : Nat) (s : State), (get Reg.CMD_ST_STAT.STATE s = 2) ∧ (mediaInStore s = false) ∧ ((if get Reg.CMD_ST_CFG.IDLE_MS s = 0 then 100 else get Reg.CMD_ST_CFG.IDLE_MS s) ≤ k)) ∧
    (∃ (a : Option Port) (s : State), (a = none ∧ get Reg.CMD_ST_STAT.STATE s = 1 ∨ a.isSome = true ∧ get Reg.CMD_ST_STAT.STATE s ≠ 0 ∧ s.cmd.testBy = a)) :=
  ⟨⟨((9 : Nat)), ((cx (.write 0 1 false) : Ctx)), ((0 : Nat)), ((77 : Nat)), ((77 : Nat)), ((true : Bool)), ((fun (c : Ctx) => ({ at_ [(Reg.ZMG_NS_CFG.TYPE 1, 1), (Reg.ZMG_NS_CFG.LBAF 1, 0), (Reg.ZMG_NS_ZONES.FIRST 1, 3), (Reg.ZMG_NS_COUNT.COUNT 1, 2), (Reg.ZMG_ZTBL_HI.ADDR, 16), (Reg.CMD_CTL.EN, 1), (Reg.SYS_MODE.CUR, 3), (Reg.SPN_STAT.NOT_READY, 0), (Reg.CMD_WC_CFG.SIZE, 1), (Reg.CMD_WC_STAT.WAIT, 1)] with cmd := { ctxs := [c] } } : State)) ((cx (.write 0 1 false) : Ctx))), by decide +kernel⟩,
    ⟨((9 : Nat)), ((cx (.write 0 1 false) : Ctx)), ((0 : Nat)), ((77 : Nat)), ((77 : Nat)), ((true : Bool)), ((fun (c : Ctx) => ({ at_ [(Reg.ZMG_NS_CFG.TYPE 1, 1), (Reg.ZMG_NS_CFG.LBAF 1, 0), (Reg.ZMG_NS_ZONES.FIRST 1, 3), (Reg.ZMG_NS_COUNT.COUNT 1, 2), (Reg.ZMG_ZTBL_HI.ADDR, 16), (Reg.CMD_CTL.EN, 1), (Reg.SYS_MODE.CUR, 3), (Reg.SPN_STAT.NOT_READY, 0), (Reg.CMD_WC_CFG.SIZE, 1), (Reg.CMD_WC_STAT.WAIT, 0)] with cmd := { ctxs := [c], lines := List.replicate 16384 { ns := 2, blk := 0, mask := 255, data := 7, stamps := [10] } } } : State)) ((cx (.write 0 1 false) : Ctx))), by decide +kernel⟩,
    ⟨((9 : Nat)), ((cx (.write 0 1 false) : Ctx)), ((0 : Nat)), ((77 : Nat)), ((77 : Nat)), ((false : Bool)), ((fun (c : Ctx) => ({ at_ [(Reg.ZMG_NS_CFG.TYPE 1, 1), (Reg.ZMG_NS_CFG.LBAF 1, 0), (Reg.ZMG_NS_ZONES.FIRST 1, 3), (Reg.ZMG_NS_COUNT.COUNT 1, 2), (Reg.ZMG_ZTBL_HI.ADDR, 16), (Reg.CMD_CTL.EN, 1), (Reg.SYS_MODE.CUR, 3), (Reg.SPN_STAT.NOT_READY, 0)] with cmd := { ctxs := [c] } } : State)) ((cx (.write 0 1 false) : Ctx))), by decide +kernel⟩,
    ⟨((9 : Nat)), ((cx (.write 0 1 false) : Ctx)), ((0 : Nat)), ((.becomingReady : Status)), ((fun (c : Ctx) => ({ at_ [(Reg.ZMG_NS_CFG.TYPE 1, 1), (Reg.ZMG_NS_CFG.LBAF 1, 0), (Reg.ZMG_NS_ZONES.FIRST 1, 3), (Reg.ZMG_NS_COUNT.COUNT 1, 2), (Reg.ZMG_ZTBL_HI.ADDR, 16), (Reg.CMD_CTL.EN, 1), (Reg.SYS_MODE.CUR, 2), (Reg.SPN_STAT.NOT_READY, 0)] with cmd := { ctxs := [c] } } : State)) ((cx (.write 0 1 false) : Ctx))), by decide +kernel⟩,
    ⟨((9 : Nat)), (({ (cx (.write 0 1 true)) with accepted := true } : Ctx)), ((fun (c : Ctx) => ({ at_ [(Reg.ZMG_NS_CFG.TYPE 1, 1), (Reg.ZMG_NS_CFG.LBAF 1, 0), (Reg.ZMG_NS_ZONES.FIRST 1, 3), (Reg.ZMG_NS_COUNT.COUNT 1, 2), (Reg.ZMG_ZTBL_HI.ADDR, 16), (Reg.CMD_CTL.EN, 1), (Reg.SYS_MODE.CUR, 3), (Reg.SPN_STAT.NOT_READY, 0)] with cmd := { ctxs := [c] } } : State)) (({ (cx (.write 0 1 true)) with accepted := true } : Ctx))), by decide +kernel⟩,
    ⟨((9 : Nat)), (({ (cx (.write 0 1 true)) with accepted := true } : Ctx)), ((0 : Nat)), ((fun (c : Ctx) => ({ at_ [(Reg.ZMG_NS_CFG.TYPE 1, 1), (Reg.ZMG_NS_CFG.LBAF 1, 0), (Reg.ZMG_NS_ZONES.FIRST 1, 3), (Reg.ZMG_NS_COUNT.COUNT 1, 2), (Reg.ZMG_ZTBL_HI.ADDR, 16), (Reg.CMD_CTL.EN, 1), (Reg.SYS_MODE.CUR, 3), (Reg.SPN_STAT.NOT_READY, 0)] with cmd := { ctxs := [c], lost := [⟨1, 0, 1, 2, 0, false⟩] } } : State)) (({ (cx (.write 0 1 true)) with accepted := true } : Ctx))), by decide +kernel⟩,
    ⟨((9 : Nat)), ((cx (.write 0 1 true) : Ctx)), ((fun (c : Ctx) => ({ at_ [(Reg.ZMG_NS_CFG.TYPE 1, 1), (Reg.ZMG_NS_CFG.LBAF 1, 0), (Reg.ZMG_NS_ZONES.FIRST 1, 3), (Reg.ZMG_NS_COUNT.COUNT 1, 2), (Reg.ZMG_ZTBL_HI.ADDR, 16), (Reg.CMD_CTL.EN, 1), (Reg.SYS_MODE.CUR, 3), (Reg.SPN_STAT.NOT_READY, 0)] with cmd := { ctxs := [c] } } : State)) ((cx (.write 0 1 true) : Ctx))), by decide +kernel⟩,
    ⟨((9 : Nat)), (({ (cx (.write 0 1 true)) with accepted := true } : Ctx)), ((fun (c : Ctx) => ({ at_ [(Reg.ZMG_NS_CFG.TYPE 1, 1), (Reg.ZMG_NS_CFG.LBAF 1, 0), (Reg.ZMG_NS_ZONES.FIRST 1, 3), (Reg.ZMG_NS_COUNT.COUNT 1, 2), (Reg.ZMG_ZTBL_HI.ADDR, 16), (Reg.CMD_CTL.EN, 1), (Reg.SYS_MODE.CUR, 3), (Reg.SPN_STAT.NOT_READY, 0)] with cmd := { ctxs := [c] } } : State)) (({ (cx (.write 0 1 true)) with accepted := true } : Ctx))), by decide +kernel⟩,
    ⟨((9 : Nat)), ((cx (.read 0 1) : Ctx)), (([] : List (Option Nat))), ((true : Bool)), ((0 : Nat)), ((1 : Nat)), (([7] : List Nat)), ((fun (c : Ctx) => ({ at_ [(Reg.ZMG_NS_CFG.TYPE 1, 1), (Reg.ZMG_NS_CFG.LBAF 1, 0), (Reg.ZMG_NS_ZONES.FIRST 1, 3), (Reg.ZMG_NS_COUNT.COUNT 1, 2), (Reg.ZMG_ZTBL_HI.ADDR, 16), (Reg.CMD_CTL.EN, 1), (Reg.SYS_MODE.CUR, 3), (Reg.SPN_STAT.NOT_READY, 0)] with cmd := { ctxs := [c], lines := [{ ns := 1, blk := 0, mask := 255, data := 7, stamps := [10] }] } } : State)) ((cx (.read 0 1) : Ctx))), by decide +kernel⟩,
    ⟨((9 : Nat)), (({ (cx (.read 0 1)) with cmd := { (hc (.read 0 1)) with port := .fabric } } : Ctx)), (([] : List (Option Nat))), ((true : Bool)), ((0 : Nat)), ((1 : Nat)), (([7] : List Nat)), ((fun (c : Ctx) => ({ at_ [(Reg.ZMG_NS_CFG.TYPE 1, 1), (Reg.ZMG_NS_CFG.LBAF 1, 0), (Reg.ZMG_NS_ZONES.FIRST 1, 3), (Reg.ZMG_NS_COUNT.COUNT 1, 2), (Reg.ZMG_ZTBL_HI.ADDR, 16), (Reg.CMD_CTL.EN, 1), (Reg.SYS_MODE.CUR, 3), (Reg.SPN_STAT.NOT_READY, 0)] with cmd := { ctxs := [c], lines := [{ ns := 1, blk := 0, mask := 255, data := 7, stamps := [10] }] } } : State)) (({ (cx (.read 0 1)) with cmd := { (hc (.read 0 1)) with port := .fabric } } : Ctx))), by decide +kernel⟩,
    ⟨((9 : Nat)), ((cx (.read 0 1) : Ctx)), ((0 : Nat)), ((1 : Nat)), ((fun (c : Ctx) => ({ at_ [(Reg.ZMG_NS_CFG.TYPE 1, 1), (Reg.ZMG_NS_CFG.LBAF 1, 0), (Reg.ZMG_NS_ZONES.FIRST 1, 3), (Reg.ZMG_NS_COUNT.COUNT 1, 2), (Reg.ZMG_ZTBL_HI.ADDR, 16), (Reg.CMD_CTL.EN, 1), (Reg.SYS_MODE.CUR, 3), (Reg.SPN_STAT.NOT_READY, 0)] with cmd := { ctxs := [c], lines := [{ ns := 1, blk := 0, mask := 255, data := 7, stamps := [10] }] } } : State)) ((cx (.read 0 1) : Ctx))), by decide +kernel⟩,
    ⟨((9 : Nat)), ((cx (.read 0 4) : Ctx)), ((0 : Nat)), ((4 : Nat)), ((2 : Nat)), ((fun (c : Ctx) => ({ at_ [(Reg.ZMG_NS_CFG.TYPE 1, 1), (Reg.ZMG_NS_CFG.LBAF 1, 0), (Reg.ZMG_NS_ZONES.FIRST 1, 3), (Reg.ZMG_NS_COUNT.COUNT 1, 2), (Reg.ZMG_ZTBL_HI.ADDR, 16), (Reg.CMD_CTL.EN, 1), (Reg.SYS_MODE.CUR, 3), (Reg.SPN_STAT.NOT_READY, 0)] with cmd := { ctxs := [c], lost := [⟨1, 2, 1, 2, 0, false⟩] } } : State)) ((cx (.read 0 4) : Ctx))), by decide +kernel⟩,
    ⟨((9 : Nat)), ((cx (.flush false) : Ctx)), ((false : Bool)), ((fun (c : Ctx) => ({ at_ [(Reg.ZMG_NS_CFG.TYPE 1, 1), (Reg.ZMG_NS_CFG.LBAF 1, 0), (Reg.ZMG_NS_ZONES.FIRST 1, 3), (Reg.ZMG_NS_COUNT.COUNT 1, 2), (Reg.ZMG_ZTBL_HI.ADDR, 16), (Reg.CMD_CTL.EN, 1), (Reg.SYS_MODE.CUR, 3), (Reg.SPN_STAT.NOT_READY, 0)] with cmd := { ctxs := [c] } } : State)) ((cx (.flush false) : Ctx))), by decide +kernel⟩,
    ⟨((9 : Nat)), ((cx (.flush false) : Ctx)), ((false : Bool)), ((⟨1, 2, 1, 2, 0, false⟩ : Lost)), ((fun (c : Ctx) (e : Lost) => ({ at_ [(Reg.ZMG_NS_CFG.TYPE 1, 1), (Reg.ZMG_NS_CFG.LBAF 1, 0), (Reg.ZMG_NS_ZONES.FIRST 1, 3), (Reg.ZMG_NS_COUNT.COUNT 1, 2), (Reg.ZMG_ZTBL_HI.ADDR, 16), (Reg.CMD_CTL.EN, 1), (Reg.SYS_MODE.CUR, 3), (Reg.SPN_STAT.NOT_READY, 0)] with cmd := { ctxs := [c], lost := [e] } } : State)) ((cx (.flush false) : Ctx)) ((⟨1, 2, 1, 2, 0, false⟩ : Lost))), by decide +kernel⟩,
    ⟨((9 : Nat)), ((cx (.flush false) : Ctx)), ((false : Bool)), ((fun (c : Ctx) => ({ at_ [(Reg.ZMG_NS_CFG.TYPE 1, 1), (Reg.ZMG_NS_CFG.LBAF 1, 0), (Reg.ZMG_NS_ZONES.FIRST 1, 3), (Reg.ZMG_NS_COUNT.COUNT 1, 2), (Reg.ZMG_ZTBL_HI.ADDR, 16), (Reg.CMD_CTL.EN, 1), (Reg.SYS_MODE.CUR, 3), (Reg.SPN_STAT.NOT_READY, 0)] with cmd := { ctxs := [c], lines := [{ ns := 1, blk := 0, mask := 255, data := 7, stamps := [9] }] } } : State)) ((cx (.flush false) : Ctx))), by decide +kernel⟩,
    ⟨((9 : Nat)), ((cx (.setWce false) : Ctx)), ((false : Bool)), ((fun (c : Ctx) => ({ at_ [(Reg.ZMG_NS_CFG.TYPE 1, 1), (Reg.ZMG_NS_CFG.PORTS 1, 2), (Reg.CMD_WCE_LO.EN, 2)] with cmd := { ctxs := [c] } } : State)) ((cx (.setWce false) : Ctx))), by decide +kernel⟩,
    ⟨((1 : Nat)), ((0 : Nat)), ((1 : Nat)), ({ at_ [(Reg.ZMG_NS_CFG.TYPE 1, 1)] with cmd := { lines := [{ ns := 1, blk := 0, mask := 255, data := 7, stamps := [10] }] } } : State), by decide +kernel⟩,
    ⟨((1 : Nat)), ((0 : Nat)), ((1 : Nat)), ({ at_ [(Reg.ZMG_NS_CFG.TYPE 1, 4), (Reg.ZMG_ZTBL_HI.ADDR, 16), (Reg.ZMG_NS_ZONES.FIRST 1, 3), (Reg.ZMG_NS_COUNT.COUNT 1, 2)] with cmd := { lines := [{ ns := 1, blk := 0, mask := 255, data := 7, stamps := [10] }] } } : State), by decide +kernel⟩,
    ⟨((9 : Nat)), ((cx (.selfTest true) : Ctx)), ((true : Bool)), ((fun (c : Ctx) => ({ at_ [] with cmd := { ctxs := [c] } } : State)) ((cx (.selfTest true) : Ctx))), by decide +kernel⟩,
    ⟨((9 : Nat)), ((cx (.selfTest true) : Ctx)), ((true : Bool)), ((fun (c : Ctx) => ({ at_ [(Reg.CMD_ST_STAT.STATE, 1)] with cmd := { ctxs := [c] } } : State)) ((cx (.selfTest true) : Ctx))), by decide +kernel⟩,
    ⟨({ at_ [(Reg.CMD_ST_STAT.STATE, 1)] with cmd := { ctxs := [cx (.read 0 1)] } } : State), by decide +kernel⟩,
    ⟨((100 : Nat)), (at_ [(Reg.CMD_ST_STAT.STATE, 2), (Reg.CMD_ST_CFG.IDLE_MS, 0)] : State), by decide +kernel⟩,
    ⟨((some .sata : Option Port)), ({ at_ [(Reg.CMD_ST_STAT.STATE, 2), (Reg.CMD_ST_STAT.KIND, 2)] with cmd := { testBy := some .sata } } : State), by decide +kernel⟩⟩

/-- The hypotheses of MemoryIsScrubbedFlippedAndRepaired, clause by clause, are met. -/
theorem witness_memory_is_scrubbed_flipped_and_repaired :
    (∃ (a : Nat) (l : List Nat) (s : State), (0 < l.length) ∧ (l.length < wordSize (memCode a)) ∧ (memCode a ≠ 0) ∧ (wordAt (memCode a) a = wordAt (memCode a) (a + l.length - 1)) ∧ (accessCause true a l.length true s = none) ∧ (flipHits (memCode a) a l.length s = false) ∧ ((wordsWritten (memCode a) a l.length).all (fun w => (upsetOf (memCode a) w s).isNone && !isPoisoned (memCode a) w s) = true)) ∧
    (∃ (a c : Nat) (l : List Nat) (h : Option (Nat × Nat)) (g : Bool × Nat) (s : State), (0 < l.length) ∧ (l.length < 8) ∧ (memCode a = 2) ∧ (wordAt 2 a = wordAt 2 (a + l.length - 1)) ∧ (accessCause true a l.length true s = none) ∧ (flipHits 2 a l.length s = false) ∧ (upsetOf 2 (wordAt 2 a) s = some (c, h, g)) ∧ (c ≠ 1) ∧ (isPoisoned 2 (wordAt 2 a) s = false) ∧ (AMap.rising s.memp.upsets = true)) ∧
    (∃ (a : Nat) (l : List Nat) (s : State), (0 < l.length) ∧ (l.length < wordSize (memCode a)) ∧ (memCode a ≠ 0) ∧ (wordAt (memCode a) a = wordAt (memCode a) (a + l.length - 1)) ∧ (accessCause true a l.length true s = none)) ∧
    (∃ (a k : Nat) (l : List Nat) (s : State), (0 < l.length) ∧ (l.length < 8) ∧ (memCode a = 2) ∧ (wordAt 2 a = wordAt 2 (a + l.length - 1)) ∧ (accessCause true a l.length true s = none) ∧ (flipHits 2 a l.length s = true) ∧ (upsetOf 2 (wordAt 2 a) s = none) ∧ (isPoisoned 2 (wordAt 2 a) s = false) ∧ (k = ones 64 (get Reg.MEM_FLIP_M0.MASK s + 2 ^ 32 * get Reg.MEM_FLIP_M1.MASK s) + ones 8 (get Reg.MEM_FLIP_M2.CHECK s))) ∧
    (∃ (s : State), (mode s = 2) ∧ (domOn 18 s = true) ∧ (get Reg.DRC_STAT.TRAINED s = 0) ∧ (get Reg.DRC_STAT.TRAIN_FAIL s = 0)) ∧
    (∃ (s : State), (mode s = 2) ∧ (domOn 18 s = true) ∧ (get Reg.DRC_STAT.TRAINED s = 0) ∧ (get Reg.DRC_STAT.TRAIN_FAIL s = 0) ∧ (get Reg.DRC_STAT.SELF_REF s = 0)) ∧
    (∃ (s : State), (dramRuns s = true)) ∧
    (∃ (s : State), (dramRuns s = true) ∧ (get Reg.MEM_SCRUB_CFG.DRAM_EN s = 1) ∧ (s.memp.dramEnd = false)) ∧
    (∃ (u : List Upset) (s : State), (dramRuns s = true) ∧ (get Reg.MEM_SCRUB_CFG.DRAM_EN s = 1) ∧ (s.memp.dramEnd = false) ∧ (u.filter (fun x => x.addr / 128 * 128 == (0x1000000000 + 128 * get Reg.MEM_SCRUB_POS.LINE s)) = []) ∧ ((wordsIn 1 (0x1000000000 + 128 * get Reg.MEM_SCRUB_POS.LINE s) 128).all (fun w => (upsetOf 1 w s).isNone) = true)) ∧
    (∃ (h : Option (Nat × Nat)) (g : Bool × Nat) (s : State), (dramRuns s = true) ∧ (get Reg.MEM_SCRUB_CFG.DRAM_EN s = 1) ∧ (s.memp.dramEnd = false) ∧ (upsetOf 1 (0x1000000000 + 128 * get Reg.MEM_SCRUB_POS.LINE s) s = some (1, h, g)) ∧ (isPoisoned 1 (0x1000000000 + 128 * get Reg.MEM_SCRUB_POS.LINE s) s = false) ∧ ((wordsIn 1 ((0x1000000000 + 128 * get Reg.MEM_SCRUB_POS.LINE s) + 32) 96).all (fun w => (upsetOf 1 w s).isNone) = true) ∧ (AMap.rising s.memp.upsets = true)) ∧
    (∃ (g : Bool × Nat) (s : State), (dramRuns s = true) ∧ (get Reg.MEM_SCRUB_CFG.DRAM_EN s = 1) ∧ (s.memp.dramEnd = false) ∧ (upsetOf 1 (0x1000000000 + 128 * get Reg.MEM_SCRUB_POS.LINE s) s = some (2, none, g)) ∧ (isPoisoned 1 (0x1000000000 + 128 * get Reg.MEM_SCRUB_POS.LINE s) s = false) ∧ ((wordsIn 1 ((0x1000000000 + 128 * get Reg.MEM_SCRUB_POS.LINE s) + 32) 96).all (fun w => (upsetOf 1 w s).isNone) = true) ∧ (regionKind (0x1000000000 + 128 * get Reg.MEM_SCRUB_POS.LINE s) s ≤ 2) ∧ (AMap.rising s.memp.upsets = true)) ∧
    (∃ (g : Bool × Nat) (h : Option (Nat × Nat)) (s : State), (dramRuns s = true) ∧ (get Reg.MEM_SCRUB_CFG.DRAM_EN s = 1) ∧ (s.memp.dramEnd = false) ∧ (upsetOf 1 (0x1000000000 + 128 * get Reg.MEM_SCRUB_POS.LINE s) s = some (2, h, g)) ∧ (isPoisoned 1 (0x1000000000 + 128 * get Reg.MEM_SCRUB_POS.LINE s) s = false) ∧ ((wordsIn 1 ((0x1000000000 + 128 * get Reg.MEM_SCRUB_POS.LINE s) + 32) 96).all (fun w => (upsetOf 1 w s).isNone) = true) ∧ (AMap.rising s.memp.upsets = true)) ∧
    (∃ (s : State), (get Reg.MEM_SCRUB_CFG.SRAM_EN s = 1) ∧ (s.memp.sramEnd = false)) ∧
    (∃ (h : Option (Nat × Nat)) (g : Bool × Nat) (s : State), (get Reg.MEM_SCRUB_CFG.SRAM_EN s = 1) ∧ (s.memp.sramEnd = false) ∧ ((sramWord s.memp.sramPos).1 ≠ 3) ∧ (upsetOf (sramWord s.memp.sramPos).1 (sramWord s.memp.sramPos).2 s = some (1, h, g)) ∧ (isPoisoned (sramWord s.memp.sramPos).1 (sramWord s.memp.sramPos).2 s = false) ∧ (AMap.rising s.memp.upsets = true)) ∧
    (∃ (a : Nat) (h : Option (Nat × Nat)) (g : Bool × Nat) (s : State), (get Reg.MEM_SCRUB_CFG.SRAM_EN s = 1) ∧ (s.memp.sramEnd = false) ∧ ((sramWord s.memp.sramPos).1 = 3) ∧ (cachedWord ((sramWord s.memp.sramPos).2 / 8) s = some a) ∧ (upsetOf 3 a s = some (1, h, g)) ∧ (AMap.rising s.memp.upsets = true)) ∧
    (∃ (h : Option (Nat × Nat)) (g : Bool × Nat) (s : State), (get Reg.MEM_SCRUB_CFG.SRAM_EN s = 1) ∧ (s.memp.sramEnd = false) ∧ ((sramWord s.memp.sramPos).1 = 2 ∨ (sramWord s.memp.sramPos).1 = 5) ∧ (upsetOf (sramWord s.memp.sramPos).1 (sramWord s.memp.sramPos).2 s = some (2, h, g)) ∧ (isPoisoned (sramWord s.memp.sramPos).1 (sramWord s.memp.sramPos).2 s = false) ∧ (AMap.rising s.memp.upsets = true)) ∧
    (∃ (s : State), (s.memp.dramEnd = true)) ∧
    (∃ (s : State), (s.memp.sramEnd = true)) ∧
    (∃ (s : State), ((s.memp.ceAlarm).all (fun x => decide (x + 3600 ≤ lifeSec s)) = true) ∧ ((List.range 3).any (fun k => decide (get Reg.MEM_ECC_CFG.CE_THR s < (s.memp.ceLog.filter (fun p => p.1 == k && decide (lifeSec s < p.2 + 3600))).length)) = true)) ∧
    (∃ (s : State), (get Reg.MEM_FLIP_CTL.ARM s ≤ 1) ∧ (get Reg.MEM_FLIP_CTL.USED s ≤ 1)) ∧
    (∃ (m e : Nat) (k : Bool) (s : State), (m < 160) ∧ (get Reg.MEM_REP_CFG.AUTO s = 1) ∧ (get Reg.MEM_REP_CFG.THR s ≤ e ∨ k = true) ∧ (AMap.getD s.memp.rows m 0 < 4) ∧ (get Reg.MEM_REP_STAT.ENTRIES s < 512)) ∧
    (∃ (m e : Nat) (k : Bool) (s : State), (m < 160) ∧ (get Reg.MEM_REP_CFG.AUTO s = 1) ∧ (get Reg.MEM_REP_CFG.THR s ≤ e ∨ k = true) ∧ (AMap.getD s.memp.cols m 0 < 2) ∧ (get Reg.MEM_REP_STAT.ENTRIES s < 512)) ∧
    (∃ (m e : Nat) (c k : Bool) (s : State), (m < 160) ∧ (get Reg.MEM_REP_CFG.AUTO s = 1) ∧ (get Reg.MEM_REP_CFG.THR s ≤ e ∨ k = true) ∧ (512 ≤ get Reg.MEM_REP_STAT.ENTRIES s ∨ (if c then 2 else 4) ≤ AMap.getD (if c then s.memp.cols else s.memp.rows) m 0)) ∧
    (∃ (r e : Nat) (k : Bool) (s : State), (get Reg.DRC_PPR_CFG.AUTO s = 1) ∧ (get Reg.DRC_PPR_CFG.THR s ≤ e ∨ k = true) ∧ (s.memp.ppr.any (fun p => p.1 == r) = false)) ∧
    (∃ (s : State), (mode s = 2) ∧ (get Reg.DRC_STAT.TRAINED s = 1) ∧ (get Reg.SPR_STAT.PROMOS s < 2 ^ Reg.SPR_STAT.PROMOS.width)) :=
  ⟨⟨((0x20000004 : Nat)), (([1, 2, 300, 4] : List Nat)), (at_ [(Reg.PMU_DOM_STAT.ON, 0x1FFFFF)] : State), by decide +kernel⟩,
    ⟨((0x20000014 : Nat)), ((2 : Nat)), (([1, 2] : List Nat)), ((none : Option (Nat × Nat))), (((false, 0) : Bool × Nat)), ({ at_ [(Reg.PMU_DOM_STAT.ON, 0x1FFFFF)] with memp := { upsets := [(2 * 2 ^ 40 + 0x20000010, (2, none, false, 0))] } } : State), by decide +kernel⟩,
    ⟨((0x20000004 : Nat)), (([1, 2, 300, 4] : List Nat)), (at_ [(Reg.PMU_DOM_STAT.ON, 0x1FFFFF), (Reg.MEM_FLIP_CTL.ARM, 1), (Reg.MEM_FLIP_CTL.TARGET, 2), (Reg.MEM_FLIP_ADDR_LO.ADDR, 0x20000006), (Reg.MEM_FLIP_M0.MASK, 3)] : State), by decide +kernel⟩,
    ⟨((0x20000014 : Nat)), ((2 : Nat)), (([1, 2] : List Nat)), ((fun (k : Nat) => ({ at_ [(Reg.PMU_DOM_STAT.ON, 0x1FFFFF), (Reg.MEM_FLIP_CTL.ARM, 1), (Reg.MEM_FLIP_CTL.TARGET, 2), (Reg.MEM_FLIP_ADDR_LO.ADDR, 0x20000015), (Reg.MEM_FLIP_M0.MASK, k % 3), (Reg.MEM_FLIP_M2.CHECK, if k = 2 then 1 else if k = 6 then 0xE7 else 0)] with memp := { upsets := [] } } : State)) ((2 : Nat))), by decide +kernel⟩,
    ⟨({ at_ [(Reg.SYS_MODE.CUR, 2), (Reg.DRC_STAT.SELF_REF, 1), (Reg.PMU_DOM_STAT.ON, 0x1FFFFF)] with memp := { swaps := some [] } } : State), by decide +kernel⟩,
    ⟨(at_ [(Reg.SYS_MODE.CUR, 2), (Reg.PMU_DOM_STAT.ON, 0x1FFFFF)] : State), by decide +kernel⟩,
    ⟨({ at_ [(Reg.DRC_STAT.TRAINED, 1), (Reg.DRC_STAT.SELF_REF, 0)] with memp := { swaps := some [[0, 1, 2, 3], [1, 0, 2, 3]] } } : State), by decide +kernel⟩,
    ⟨(at_ [(Reg.DRC_STAT.TRAINED, 1), (Reg.DRC_STAT.SELF_REF, 0), (Reg.MEM_SCRUB_CFG.DRAM_EN, 1), (Reg.MEM_SCRUB_POS.LINE, 0)] : State), by decide +kernel⟩,
    ⟨(([] : List Upset)), (at_ [(Reg.DRC_STAT.TRAINED, 1), (Reg.DRC_STAT.SELF_REF, 0), (Reg.MEM_SCRUB_CFG.DRAM_EN, 1), (Reg.MEM_SCRUB_POS.LINE, 0)] : State), by decide +kernel⟩,
    ⟨((none : Option (Nat × Nat))), (((false, 0) : Bool × Nat)), ({ at_ [(Reg.DRC_STAT.TRAINED, 1), (Reg.DRC_STAT.SELF_REF, 0), (Reg.MEM_SCRUB_CFG.DRAM_EN, 1), (Reg.MEM_SCRUB_POS.LINE, 0)] with memp := { upsets := [(1 * 2 ^ 40 + 0x1000000000, (1, none, false, 0))] } } : State), by decide +kernel⟩,
    ⟨(((false, 9) : Bool × Nat)), ({ at_ [(Reg.DRC_STAT.TRAINED, 1), (Reg.DRC_STAT.SELF_REF, 0), (Reg.MEM_SCRUB_CFG.DRAM_EN, 1), (Reg.MEM_SCRUB_POS.LINE, 0)] with memp := { upsets := [(1 * 2 ^ 40 + 0x1000000000, (2, none, false, 9))] } } : State), by decide +kernel⟩,
    ⟨(((true, 9) : Bool × Nat)), ((some (1, 0) : Option (Nat × Nat))), ((fun (c : Ctx) (z : Nat) => ({ at_ [(Reg.DRC_STAT.TRAINED, 1), (Reg.DRC_STAT.SELF_REF, 0), (Reg.MEM_SCRUB_CFG.DRAM_EN, 1), (Reg.MEM_SCRUB_POS.LINE, 0), (Reg.MEM_RGN.SIZE 0, 1), (Reg.MEM_RGN.KIND 0, if z = 1 then 1 else if z = 3 then 4 else 3), (Reg.CMD_POOL_HI.ADDR, 16), (Reg.SEAL_CTX_HI.ADDR, 16)] with memp := { upsets := [(1 * 2 ^ 40 + 0x1000000000, (2, some (1, 0), true, 9))] }, cmd := { ctxs := [c], lines := [{ ns := 1, blk := 0, mask := 255, data := 7, stamps := [10] }] }, seals := { ctxs := [(3, {})] } } : State)) ((cx (.read 0 1) : Ctx)) ((4 : Nat))), by decide +kernel⟩,
    ⟨(at_ [(Reg.MEM_SCRUB_CFG.SRAM_EN, 1)] : State), by decide +kernel⟩,
    ⟨((none : Option (Nat × Nat))), (((false, 0) : Bool × Nat)), ({ at_ [(Reg.MEM_SCRUB_CFG.SRAM_EN, 1)] with memp := { upsets := [(2 * 2 ^ 40 + 0x20000000, (1, none, false, 0))] } } : State), by decide +kernel⟩,
    ⟨((0x1000000000 : Nat)), ((none : Option (Nat × Nat))), (((false, 0) : Bool × Nat)), ({ at_ [(Reg.MEM_SCRUB_CFG.SRAM_EN, 1)] with memp := { sramPos := 3145728, upsets := [(3 * 2 ^ 40 + 0x1000000000, (1, none, false, 0))] }, tch := { lines := [(0, ⟨0, 1, []⟩)] } } : State), by decide +kernel⟩,
    ⟨((none : Option (Nat × Nat))), (((false, 3) : Bool × Nat)), ({ at_ [(Reg.MEM_SCRUB_CFG.SRAM_EN, 1)] with memp := { upsets := [(2 * 2 ^ 40 + 0x20000000, (2, none, false, 3))] } } : State), by decide +kernel⟩,
    ⟨({ at_ [] with memp := { dramEnd := true } } : State), by decide +kernel⟩,
    ⟨({ at_ [] with memp := { sramEnd := true } } : State), by decide +kernel⟩,
    ⟨({ at_ [(Reg.MEM_ECC_CFG.CE_THR, 1)] with memp := { ceLog := [(1, 0), (1, 0)] } } : State), by decide +kernel⟩,
    ⟨(at_ [] : State), by decide +kernel⟩,
    ⟨((159 : Nat)), ((4 : Nat)), ((false : Bool)), ({ at_ [(Reg.MEM_REP_CFG.AUTO, 1), (Reg.MEM_REP_CFG.THR, 4), (Reg.MEM_REP_STAT.ENTRIES, 511)] with memp := { rows := [(159, 3)] } } : State), by decide +kernel⟩,
    ⟨((0 : Nat)), ((0 : Nat)), ((true : Bool)), ({ at_ [(Reg.MEM_REP_CFG.AUTO, 1), (Reg.MEM_REP_CFG.THR, 4), (Reg.MEM_REP_STAT.ENTRIES, 0)] with memp := { cols := [(0, 1)] } } : State), by decide +kernel⟩,
    ⟨((7 : Nat)), ((4 : Nat)), ((false : Bool)), ((false : Bool)), ({ at_ [(Reg.MEM_REP_CFG.AUTO, 1), (Reg.MEM_REP_CFG.THR, 4), (Reg.MEM_REP_STAT.ENTRIES, 512)] with memp := { rows := [(7, 4)] } } : State), by decide +kernel⟩,
    ⟨((5 : Nat)), ((0 : Nat)), ((true : Bool)), (at_ [(Reg.DRC_PPR_CFG.AUTO, 1)] : State), by decide +kernel⟩,
    ⟨({ at_ [(Reg.SYS_MODE.CUR, 2), (Reg.DRC_STAT.TRAINED, 1), (Reg.DRC_PPR_CFG.HARD, 1)] with memp := { ppr := [(5, 0), (6, 0), (7, 1)] } } : State), by decide +kernel⟩⟩

/-- The hypotheses of DmaChannelsCopyAndEnd, clause by clause, are met. -/
theorem witness_dma_channels_copy_and_end :
    (∃ (c : Nat) (s : State), (c < 32) ∧ (dmaState c s = 0) ∧ (get (Reg.DMA_COUNT.BYTES c) s ≠ 0) ∧ (get (Reg.DMA_COUNT.BYTES c) s < 2 ^ 32) ∧ (inMap (dmaSrc c s) = true) ∧ (inMap (dmaDst c s) = true)) ∧
    (∃ (c : Nat) (s : State), (c < 32) ∧ (dmaState c s = 0) ∧ (get (Reg.DMA_COUNT.BYTES c) s = 0 ∨ inMap (dmaSrc c s) = false ∨ inMap (dmaDst c s) = false)) ∧
    (∃ (c : Nat) (s : State), (c < 32) ∧ (dmaState c s ≠ 0)) ∧
    (∃ (c : Nat) (s : State), (c < 32) ∧ (dmaState c s ≠ 0)) ∧
    (∃ (c : Nat) (s : State), (c < 32) ∧ (dmaState c s = 0)) ∧
    (∃ (c d : Nat) (s : State), (c < 32) ∧ (preempted c s = some d) ∧ (dmaState c s = 2) ∧ (4 ≤ (onMover s).length)) ∧
    (∃ (c b n : Nat) (s : State), (c < 32) ∧ (dmaState c s = 1) ∧ ((dmaOf c s).wrote < (dmaOf c s).size) ∧ ((dmaOf c s).stag = []) ∧ (get (Reg.DMA_CTL.SRC_FIX c) s = 0) ∧ (get (Reg.DMA_CTL.DST_FIX c) s = 0) ∧ (32 ≤ b) ∧ (n = min 1024 ((dmaOf c s).size - (dmaOf c s).got)) ∧ (0 < n) ∧ (within (0x20000000, 0x28000000) ((dmaOf c s).src + (dmaOf c s).got) n = true) ∧ (within (0x20000000, 0x28000000) ((dmaOf c s).dst + (dmaOf c s).wrote) n = true) ∧ (accessCause true ((dmaOf c s).src + (dmaOf c s).got) n false s = none) ∧ (accessCause true ((dmaOf c s).dst + (dmaOf c s).wrote) n true s = none) ∧ (flipHits 2 ((dmaOf c s).dst + (dmaOf c s).wrote) n s = false) ∧ ((wordsIn 2 ((dmaOf c s).src + (dmaOf c s).got) n ++ wordsIn 2 ((dmaOf c s).dst + (dmaOf c s).wrote) n).all (fun w => (upsetOf 2 w s).isNone && !isPoisoned 2 w s) = true)) ∧
    (∃ (c e : Nat) (s : State), (c < 32) ∧ (dmaState c s = 1) ∧ ((dmaOf c s).wrote < (dmaOf c s).size) ∧ ((dmaOf c s).stag = []) ∧ (get (Reg.DMA_CTL.SRC_FIX c) s = 0) ∧ (get (Reg.DMA_CTL.DST_FIX c) s = 0) ∧ (accessCause true ((dmaOf c s).src + (dmaOf c s).got) (min 1024 ((dmaOf c s).size - (dmaOf c s).got)) false s = some e)) ∧
    (∃ (c b m : Nat) (s : State), (c < 32) ∧ (dmaState c s = 1) ∧ ((dmaOf c s).wrote < (dmaOf c s).size) ∧ ((dmaOf c s).stag ≠ []) ∧ ((dmaOf c s).stag.all (fun x => decide (x.1 < 256)) = true) ∧ (get (Reg.DMA_CTL.DST_FIX c) s = 0) ∧ (m = min (dmaOf c s).stag.length (32 * b)) ∧ (within (0x20000000, 0x28000000) ((dmaOf c s).dst + (dmaOf c s).wrote) (dmaOf c s).stag.length = true) ∧ (accessCause true ((dmaOf c s).dst + (dmaOf c s).wrote) (dmaOf c s).stag.length true s = none) ∧ (flipHits 2 ((dmaOf c s).dst + (dmaOf c s).wrote) m s = false) ∧ ((wordsIn 2 ((dmaOf c s).dst + (dmaOf c s).wrote) m).all (fun w => (upsetOf 2 w s).isNone && !isPoisoned 2 w s) = true)) ∧
    (∃ (c n : Nat) (s : State), (c < 32) ∧ (dmaState c s = 1) ∧ ((dmaOf c s).wrote < (dmaOf c s).size) ∧ ((dmaOf c s).stag = []) ∧ (n = min 1024 ((dmaOf c s).size - (dmaOf c s).got)) ∧ (0 < n) ∧ (within (0x20000000, 0x28000000) ((dmaOf c s).src + (dmaOf c s).got) n = true) ∧ (within (0x20000000, 0x28000000) ((dmaOf c s).dst + (dmaOf c s).wrote) n = true) ∧ (within (0x20000000, 0x28000000) (dmaOf c s).src 4 = true) ∧ (within (0x20000000, 0x28000000) (dmaOf c s).dst 4 = true) ∧ ((List.range 21).all (fun k => domOn k s) = true)) ∧
    (∃ (c e : Nat) (s : State), (c < 32) ∧ (dmaState c s = 1) ∧ ((dmaOf c s).wrote < (dmaOf c s).size) ∧ ((dmaOf c s).stag ≠ []) ∧ (get (Reg.DMA_CTL.DST_FIX c) s = 0) ∧ (accessCause true ((dmaOf c s).dst + (dmaOf c s).wrote) (dmaOf c s).stag.length true s = some e)) ∧
    (∃ (c : Nat) (s : State), (c < 32) ∧ (dmaState c s = 1) ∧ ((dmaOf c s).size ≤ (dmaOf c s).wrote) ∧ (get (Reg.DMA_CTL.CRC_STORE c) s = 0 ∨ crcKind c s = 0) ∧ ((dmaOf c s).bad = false) ∧ (get (Reg.DMA_STAT.SH_VALID c) s ≠ 1)) ∧
    (∃ (c : Nat) (s : State), (c < 32) ∧ (dmaState c s = 1) ∧ ((dmaOf c s).size ≤ (dmaOf c s).wrote) ∧ (get (Reg.DMA_CTL.CRC_STORE c) s = 0 ∨ crcKind c s = 0) ∧ ((dmaOf c s).bad = true)) ∧
    (∃ (c : Nat) (s : State), (c < 32) ∧ (dmaState c s = 1) ∧ ((dmaOf c s).size ≤ (dmaOf c s).wrote) ∧ (get (Reg.DMA_CTL.CRC_STORE c) s ≠ 0) ∧ (crcKind c s ≠ 0) ∧ (get (Reg.DMA_CTL.DST_FIX c) s ≠ 1) ∧ (within (0x20000000, 0x28000000) ((dmaOf c s).dst + (dmaOf c s).size) (crcLen (crcKind c s)) = true) ∧ (accessCause true ((dmaOf c s).dst + (dmaOf c s).size) (crcLen (crcKind c s)) true s = none) ∧ (flipHits 2 ((dmaOf c s).dst + (dmaOf c s).size) (crcLen (crcKind c s)) s = false) ∧ ((dmaOf c s).bad = false) ∧ (get (Reg.DMA_STAT.SH_VALID c) s ≠ 1)) ∧
    (∃ (c e : Nat) (s : State), (c < 32) ∧ (dmaState c s = 1) ∧ ((dmaOf c s).size ≤ (dmaOf c s).wrote) ∧ (get (Reg.DMA_CTL.CRC_STORE c) s ≠ 0) ∧ (crcKind c s ≠ 0) ∧ (get (Reg.DMA_CTL.DST_FIX c) s ≠ 1) ∧ (accessCause true ((dmaOf c s).dst + (dmaOf c s).size) (crcLen (crcKind c s)) true s = some e)) ∧
    (∃ (c : Nat) (s : State), (c < 32) ∧ (dmaState c s = 1) ∧ ((dmaOf c s).size ≤ (dmaOf c s).wrote) ∧ (get (Reg.DMA_CTL.CRC_STORE c) s = 0 ∨ crcKind c s = 0) ∧ ((dmaOf c s).bad = false) ∧ (get (Reg.DMA_STAT.SH_VALID c) s = 1)) ∧
    (∃ (r : ArbReq) (x : Nat) (l : List ArbReq) (s : State), (x < 6) ∧ (oldest (l.filter (fun r => decide ((if get (Reg.ARB_AGE.LIMIT x) s = 0 then 200 else get (Reg.ARB_AGE.LIMIT x) s) < r.age))) = some r)) ∧
    (∃ (x : Nat) (l : List ArbReq) (s : State), (x < 6) ∧ (l.all (fun r => decide (r.master < 21)) = true) ∧ (l.all (fun r => decide (r.age ≤ (if get (Reg.ARB_AGE.LIMIT x) s = 0 then 200 else get (Reg.ARB_AGE.LIMIT x) s))) = true)) ∧
    (∃ (x k : Nat) (l : List ArbReq) (s : State), (x < 6) ∧ (l.all (fun r => decide (r.age ≤ (if get (Reg.ARB_AGE.LIMIT x) s = 0 then 200 else get (Reg.ARB_AGE.LIMIT x) s))) = true) ∧ (k = (arbOf x s).cur) ∧ (0 < (arbOf x s).left) ∧ (l.any (fun r => decide (r.master < 21) && clusterOf r.master == k && !r.scrub && l.all (fun q => decide (arbClass q s ≤ arbClass r s))) = true)) :=
  ⟨⟨((3 : Nat)), (at_ [(Reg.DMA_SRC_LO.ADDR 3, 0x20000000), (Reg.DMA_DST_LO.ADDR 3, 0x20001000), (Reg.DMA_COUNT.BYTES 3, 40)] : State), by decide +kernel⟩,
    ⟨((3 : Nat)), (at_ [(Reg.DMA_SRC_LO.ADDR 3, 0x20000000), (Reg.DMA_DST_LO.ADDR 3, 0x40000), (Reg.DMA_COUNT.BYTES 3, 40)] : State), by decide +kernel⟩,
    ⟨((3 : Nat)), (at_ [(Reg.DMA_SRC_LO.ADDR 3, 0x20000000), (Reg.DMA_DST_LO.ADDR 3, 0x20001000), (Reg.DMA_COUNT.BYTES 3, 40), (Reg.DMA_STAT.STATE 3, 1)] : State), by decide +kernel⟩,
    ⟨((3 : Nat)), ({ at_ [(Reg.DMA_SRC_LO.ADDR 3, 0x20000000), (Reg.DMA_DST_LO.ADDR 3, 0x20001000), (Reg.DMA_COUNT.BYTES 3, 40), (Reg.DMA_STAT.STATE 3, 2)] with dma := [(3, { stag := [(1, false)] })] } : State), by decide +kernel⟩,
    ⟨((31 : Nat)), (at_ [(Reg.DMA_SRC_LO.ADDR 3, 0x20000000), (Reg.DMA_DST_LO.ADDR 3, 0x20001000), (Reg.DMA_COUNT.BYTES 3, 40)] : State), by decide +kernel⟩,
    ⟨((3 : Nat)), ((5 : Nat)), (at_ [(Reg.DMA_CTL.CLASS 3, 1), (Reg.DMA_CTL.CLASS 5, 0), (Reg.DMA_CTL.CLASS 7, 2), (Reg.DMA_CTL.CLASS 8, 2), (Reg.DMA_CTL.CLASS 9, 2), (Reg.DMA_STAT.STATE 3, 2), (Reg.DMA_STAT.STATE 5, 1), (Reg.DMA_STAT.STATE 7, 1), (Reg.DMA_STAT.STATE 8, 1), (Reg.DMA_STAT.STATE 9, 1)] : State), by decide +kernel⟩,
    ⟨((3 : Nat)), ((32 : Nat)), ((40 : Nat)), ({ at_ [(Reg.DMA_SRC_LO.ADDR 3, 0x20000000), (Reg.DMA_DST_LO.ADDR 3, 0x20001000), (Reg.DMA_COUNT.BYTES 3, 40), (Reg.DMA_STAT.STATE 3, 1), (Reg.PMU_DOM_STAT.ON, 0x1FFFFF)] with dma := [(3, { src := 0x20000000, dst := 0x20001000, size := 40 })], mem := [(0x20000000, 5), (0x20000027, 6), (0x20000028, 7)] } : State), by decide +kernel⟩,
    ⟨((3 : Nat)), ((2 : Nat)), ({ at_ [(Reg.DMA_SRC_LO.ADDR 3, 0x20000000), (Reg.DMA_DST_LO.ADDR 3, 0x20001000), (Reg.DMA_COUNT.BYTES 3, 40), (Reg.DMA_STAT.STATE 3, 1)] with dma := [(3, { src := 0x20000000, dst := 0x20001000, size := 40 })] } : State), by decide +kernel⟩,
    ⟨((3 : Nat)), ((1 : Nat)), ((32 : Nat)), ((fun (m : Nat) => ({ at_ [(Reg.DMA_SRC_LO.ADDR 3, 0x20000000), (Reg.DMA_DST_LO.ADDR 3, 0x20001000), (Reg.DMA_COUNT.BYTES 3, 40), (Reg.DMA_STAT.STATE 3, 1), (Reg.PMU_DOM_STAT.ON, 0x1FFFFF)] with dma := [(3, { src := 0x20000000, dst := 0x20001000, size := 40, got := 40, stag := (List.range (if m = 5 then 5 else 40)).map (fun i => (i, i == 3)) })] } : State)) ((32 : Nat))), by decide +kernel⟩,
    ⟨((3 : Nat)), ((40 : Nat)), ((fun (b : Nat) => ({ at_ [(Reg.DMA_SRC_LO.ADDR 3, 0x20000000), (Reg.DMA_DST_LO.ADDR 3, 0x20001000), (Reg.DMA_COUNT.BYTES 3, 40), (Reg.DMA_STAT.STATE 3, 1), (Reg.PMU_DOM_STAT.ON, 0x1FFFFF), (Reg.DMA_CTL.DST_FIX 3, 1), (Reg.DMA_CTL.SRC_FIX 3, b / 32)] with dma := [(3, { src := 0x20000000, dst := 0x20001000, size := 40 })] } : State)) ((2 : Nat))), by decide +kernel⟩,
    ⟨((3 : Nat)), ((2 : Nat)), ({ at_ [(Reg.DMA_SRC_LO.ADDR 3, 0x20000000), (Reg.DMA_DST_LO.ADDR 3, 0x20001000), (Reg.DMA_COUNT.BYTES 3, 40), (Reg.DMA_STAT.STATE 3, 1)] with dma := [(3, { src := 0x20000000, dst := 0x20001000, size := 40, stag := [(1, false)] })] } : State), by decide +kernel⟩,
    ⟨((3 : Nat)), ({ at_ [(Reg.DMA_SRC_LO.ADDR 3, 0x20000000), (Reg.DMA_DST_LO.ADDR 3, 0x20001000), (Reg.DMA_COUNT.BYTES 3, 40), (Reg.DMA_STAT.STATE 3, 1), (Reg.DMA_CTL.CRC 3, 1), (Reg.DMA_CTL.IE 3, 1)] with dma := [(3, { size := 40, wrote := 40, crc := 99 })] } : State), by decide +kernel⟩,
    ⟨((3 : Nat)), ({ at_ [(Reg.DMA_SRC_LO.ADDR 3, 0x20000000), (Reg.DMA_DST_LO.ADDR 3, 0x20001000), (Reg.DMA_COUNT.BYTES 3, 40), (Reg.DMA_STAT.STATE 3, 1)] with dma := [(3, { size := 40, wrote := 40, bad := true })] } : State), by decide +kernel⟩,
    ⟨((3 : Nat)), ({ at_ [(Reg.DMA_SRC_LO.ADDR 3, 0x20000000), (Reg.DMA_DST_LO.ADDR 3, 0x20001000), (Reg.DMA_COUNT.BYTES 3, 40), (Reg.DMA_STAT.STATE 3, 1), (Reg.PMU_DOM_STAT.ON, 0x1FFFFF), (Reg.DMA_CTL.CRC 3, 1), (Reg.DMA_CTL.CRC_STORE 3, 1)] with dma := [(3, { size := 40, wrote := 40, crc := 99, dst := 0x20001000 })] } : State), by decide +kernel⟩,
    ⟨((3 : Nat)), ((2 : Nat)), ({ at_ [(Reg.DMA_SRC_LO.ADDR 3, 0x20000000), (Reg.DMA_DST_LO.ADDR 3, 0x20001000), (Reg.DMA_COUNT.BYTES 3, 40), (Reg.DMA_STAT.STATE 3, 1), (Reg.DMA_CTL.CRC 3, 1), (Reg.DMA_CTL.CRC_STORE 3, 1)] with dma := [(3, { size := 40, wrote := 40, crc := 99, dst := 0x20001000 })] } : State), by decide +kernel⟩,
    ⟨((3 : Nat)), ({ at_ [(Reg.DMA_SRC_LO.ADDR 3, 0x20000000), (Reg.DMA_DST_LO.ADDR 3, 0x20001000), (Reg.DMA_COUNT.BYTES 3, 40), (Reg.DMA_STAT.STATE 3, 1), (Reg.DMA_STAT.SH_VALID 3, 1), (Reg.DMA_SH_COUNT.BYTES 3, 8), (Reg.DMA_SH_SRC_LO.ADDR 3, 0x20000100), (Reg.DMA_SH_DST_LO.ADDR 3, 0x20000200)] with dma := [(3, { size := 40, wrote := 40 })] } : State), by decide +kernel⟩,
    ⟨((⟨3, 0, 401, false⟩ : ArbReq)), ((5 : Nat)), ((fun (r : ArbReq) => ([⟨2, 0, 250, false⟩, r] : List ArbReq)) ((⟨3, 0, 401, false⟩ : ArbReq))), (at_ [(Reg.ARB_AGE.LIMIT 5, 200)] : State), by decide +kernel⟩,
    ⟨((5 : Nat)), (([⟨2, 0, 150, false⟩, ⟨9, 4, 10, false⟩, ⟨20, 0, 90, true⟩] : List ArbReq)), (at_ [(Reg.ARB_AGE.LIMIT 5, 200)] : State), by decide +kernel⟩,
    ⟨((5 : Nat)), ((0 : Nat)), (([⟨2, 0, 150, false⟩, ⟨10, 4, 10, false⟩, ⟨20, 0, 90, true⟩] : List ArbReq)), ({ at_ [(Reg.ARB_AGE.LIMIT 5, 200)] with arb := [(5, { cur := 0, left := 3 })] } : State), by decide +kernel⟩⟩

/-- The hypotheses of FifosPushPopFlushAndRewind, clause by clause, are met. -/
theorem witness_fifos_push_pop_flush_and_rewind :
    (∃ (f : Nat) (s : State), (f < 16) ∧ (fifRuns f s = false)) ∧
    (∃ (f v : Nat) (s : State), (f < 16) ∧ (fifRuns f s = true) ∧ (v % 2 = 0)) ∧
    (∃ (f v : Nat) (s : State), (f < 16) ∧ (fifRuns f s = true) ∧ (v % 2 = 1)) ∧
    (∃ (f m : Nat) (s : State), (f < 16) ∧ (fifRuns f s = true) ∧ (get (Reg.FIF_STAT.DROPPING f) s = 0 ∨ m.testBit 0 = true) ∧ ((fifOf f s).q.length < 1024)) ∧
    (∃ (f m : Nat) (s : State), (f < 16) ∧ (fifRuns f s = true) ∧ (get (Reg.FIF_STAT.DROPPING f) s = 0 ∨ m.testBit 0 = true) ∧ (1024 ≤ (fifOf f s).q.length)) ∧
    (∃ (f m : Nat) (s : State), (f < 16) ∧ (fifRuns f s = true) ∧ (get (Reg.FIF_STAT.DROPPING f) s = 1) ∧ (m.testBit 0 = false)) ∧
    (∃ (f : Nat) (w : FifoWord) (s : State), (f < 16) ∧ ((fifOf f s).q[(fifOf f s).rd]? = some w)) ∧
    (∃ (f : Nat) (s : State), (f < 16) ∧ ((fifOf f s).q[(fifOf f s).rd]? = none)) ∧
    (∃ (f : Nat), (f < 16)) ∧
    (∃ (f : Nat) (s : State), (f < 16) ∧ (get (Reg.FIF_CFG.MODE f) s = 1)) ∧
    (∃ (f : Nat) (s : State), (f < 16) ∧ (get (Reg.FIF_CFG.MODE f) s = 1)) :=
  ⟨⟨((2 : Nat)), (at_ [] : State), by decide +kernel⟩,
    ⟨((2 : Nat)), ((2 : Nat)), ({ at_ [(Reg.FIF_CFG.EN 2, 1)] with fif := [(2, { q := [⟨7, true, false, false⟩] })] } : State), by decide +kernel⟩,
    ⟨((2 : Nat)), ((3 : Nat)), (at_ [(Reg.FIF_CFG.EN 2, 1)] : State), by decide +kernel⟩,
    ⟨((2 : Nat)), ((3 : Nat)), (at_ [(Reg.FIF_CFG.EN 2, 1)] : State), by decide +kernel⟩,
    ⟨((2 : Nat)), ((0 : Nat)), ({ at_ [(Reg.FIF_CFG.EN 2, 1)] with fif := [(2, { q := List.replicate 1024 ⟨7, true, false, false⟩ })] } : State), by decide +kernel⟩,
    ⟨((2 : Nat)), ((2 : Nat)), (at_ [(Reg.FIF_CFG.EN 2, 1), (Reg.FIF_STAT.DROPPING 2, 1)] : State), by decide +kernel⟩,
    ⟨((2 : Nat)), ((⟨7, true, false, false⟩ : FifoWord)), ((fun (w : FifoWord) => ({ at_ [(Reg.FIF_CFG.EN 2, 1), (Reg.FIF_CFG.MODE 2, 1)] with fif := [(2, { q := [w] })] } : State)) ((⟨7, true, false, false⟩ : FifoWord))), by decide +kernel⟩,
    ⟨((2 : Nat)), (at_ [(Reg.FIF_CFG.EN 2, 1)] : State), by decide +kernel⟩,
    ⟨((2 : Nat)), by decide +kernel⟩,
    ⟨((2 : Nat)), ({ at_ [(Reg.FIF_CFG.EN 2, 1), (Reg.FIF_CFG.MODE 2, 1)] with fif := [(2, { q := [⟨7, true, false, false⟩, ⟨7, true, false, false⟩], rd := 1 })] } : State), by decide +kernel⟩,
    ⟨((2 : Nat)), ({ at_ [(Reg.FIF_CFG.EN 2, 1), (Reg.FIF_CFG.MODE 2, 1)] with fif := [(2, { q := [⟨7, true, false, false⟩, ⟨7, true, false, false⟩], rd := 1 })] } : State), by decide +kernel⟩⟩

/-- The hypotheses of TableCacheOperationsPassLines, clause by clause, are met. -/
theorem witness_table_cache_operations_pass_lines :
    (∃ (e : Bool) (s : State), (e = true) ∧ (get Reg.TCH_CTL.EN s = 0)) ∧
    (∃ (e : Bool) (s : State), (e = false) ∧ (get Reg.TCH_CTL.EN s = 1) ∧ (get Reg.TCH_STAT.DISABLING s = 0)) ∧
    (∃ (e : Bool) (s : State), (e = true) ∧ (get Reg.TCH_CTL.EN s = 1)) ∧
    (∃ (g : Bool) (s : State), (g = true) ∧ (get Reg.TCH_STAT.BUSY s ≠ 1) ∧ (get Reg.TCH_CTL.EN s ≠ 0)) ∧
    (∃ (g : Bool) (s : State), (g = true) ∧ (get Reg.TCH_STAT.BUSY s ≠ 1) ∧ (get Reg.TCH_CTL.EN s ≠ 0)) ∧
    (∃ (g : Bool) (s : State), (g = true) ∧ (get Reg.TCH_STAT.BUSY s ≠ 1) ∧ (get Reg.TCH_CTL.EN s ≠ 0)) ∧
    (∃ (g : Bool) (s : State), (g = true) ∧ (get Reg.TCH_STAT.BUSY s ≠ 1) ∧ (get Reg.TCH_CTL.EN s ≠ 0)) ∧
    (∃ (g : Bool) (s : State), (g = true) ∧ (get Reg.TCH_STAT.BUSY s ≠ 1)) ∧
    (∃ (g : Bool) (s : State), (g = true) ∧ (get Reg.TCH_STAT.BUSY s ≠ 1) ∧ (get Reg.TCH_CTL.EN s ≠ 0)) ∧
    (∃ (g : Bool) (s : State), (g = true) ∧ (get Reg.TCH_STAT.BUSY s = 1 ∨ get Reg.TCH_CTL.EN s = 0)) ∧
    (∃ (g : Bool) (s : State), (g = true) ∧ (get Reg.TCH_STAT.BUSY s = 1 ∨ get Reg.TCH_CTL.EN s = 0)) ∧
    (∃ (g : Bool) (s : State), (g = true) ∧ (get Reg.TCH_STAT.BUSY s = 1 ∨ get Reg.TCH_CTL.EN s = 0)) ∧
    (∃ (g : Bool) (s : State), (g = true) ∧ (get Reg.TCH_STAT.BUSY s = 1 ∨ get Reg.TCH_CTL.EN s = 0)) ∧
    (∃ (g : Bool) (s : State), (g = true) ∧ (get Reg.TCH_STAT.BUSY s = 1)) ∧
    (∃ (g : Bool) (s : State), (g = true) ∧ (get Reg.TCH_STAT.BUSY s = 1 ∨ get Reg.TCH_CTL.EN s = 0)) ∧
    (∃ (g : Bool) (n i m w j : Nat) (u : Under) (l : TchLine) (s : State), (g = false) ∧ (n = 1) ∧ (s.tch.op = some (1, 0, i, m)) ∧ (i < m) ∧ (dramBase ≤ (rangeStart s + 256 * i)) ∧ (hitWay (rangeStart s + 256 * i) s = some w) ∧ (AMap.lookup (wayKey (setOf (rangeStart s + 256 * i)) w) s.tch.lines = some l) ∧ (AMap.rising s.tch.lines = true) ∧ (l.dirty = [(j, u)]) ∧ (u.data.length = 64)) ∧
    (∃ (g : Bool) (n i m w : Nat) (l : TchLine) (s : State), (g = false) ∧ (n = 1) ∧ (s.tch.op = some (2, 0, i, m)) ∧ (i < m) ∧ (dramBase ≤ (rangeStart s + 256 * i)) ∧ (hitWay (rangeStart s + 256 * i) s = some w) ∧ (AMap.lookup (wayKey (setOf (rangeStart s + 256 * i)) w) s.tch.lines = some l) ∧ (AMap.rising s.tch.lines = true) ∧ (get Reg.MEM_FLIP_CTL.ARM s = 0) ∧ ((wordsIn 1 (lineAddr (setOf (rangeStart s + 256 * i)) l.tag) 256).all (fun x => (upsetOf 1 x s).isNone && !isPoisoned 1 x s) = true) ∧ (l.dirty.all (fun p => decide (p.1 < 4)) = true)) ∧
    (∃ (g : Bool) (n i m w : Nat) (l : TchLine) (s : State), (g = false) ∧ (n = 1) ∧ (s.tch.op = some (3, 0, i, m)) ∧ (i < m) ∧ (dramBase ≤ (rangeStart s + 256 * i)) ∧ (hitWay (rangeStart s + 256 * i) s = some w) ∧ (AMap.lookup (wayKey (setOf (rangeStart s + 256 * i)) w) s.tch.lines = some l) ∧ (AMap.rising s.tch.lines = true) ∧ (get Reg.MEM_FLIP_CTL.ARM s = 0) ∧ ((wordsIn 1 (lineAddr (setOf (rangeStart s + 256 * i)) l.tag) 256).all (fun x => (upsetOf 1 x s).isNone && !isPoisoned 1 x s) = true) ∧ (l.dirty.all (fun p => decide (p.1 < 4)) = true)) ∧
    (∃ (g : Bool) (n i m j : Nat) (u : Under) (l : TchLine) (s : State), (g = false) ∧ (n = 1) ∧ (s.tch.op = some (5, 0, i, m)) ∧ (i < m) ∧ (i + 1 < m) ∧ (AMap.lookup (i) s.tch.lines = some l) ∧ (AMap.rising s.tch.lines = true) ∧ (l.dirty = [(j, u)]) ∧ (u.data.length = 64)) ∧
    (∃ (g : Bool) (n i m : Nat) (l : TchLine) (s : State), (g = false) ∧ (n = 1) ∧ (s.tch.op = some (6, 0, i, m)) ∧ (i < m) ∧ (i + 1 < m) ∧ (AMap.lookup (i) s.tch.lines = some l) ∧ (AMap.rising s.tch.lines = true) ∧ (get Reg.MEM_FLIP_CTL.ARM s = 0) ∧ ((wordsIn 1 (lineAddr (i / 16) l.tag) 256).all (fun x => (upsetOf 1 x s).isNone && !isPoisoned 1 x s) = true) ∧ (l.dirty.all (fun p => decide (p.1 < 4)) = true)) ∧
    (∃ (g : Bool) (n x i m w : Nat) (l : TchLine) (s : State), (g = false) ∧ (n = 1) ∧ (s.tch.op = some (4, x, i, m)) ∧ (i < m) ∧ (dramBase ≤ (rangeStart s + 256 * i)) ∧ (hitWay (rangeStart s + 256 * i) s = some w) ∧ (AMap.lookup (wayKey (setOf (rangeStart s + 256 * i)) w) s.tch.lines = some l) ∧ (AMap.rising s.tch.lines = true) ∧ (get Reg.MEM_FLIP_CTL.ARM s = 0) ∧ ((wordsIn 1 ((rangeStart s + 256 * i) / 64 * 64) 256).all (fun y => (upsetOf 1 y s).isNone) = true)) ∧
    (∃ (g : Bool) (x i m : Nat) (s : State), (g = false) ∧ (s.tch.op = some (1, x, i, m))) ∧
    (∃ (g : Bool) (x i m : Nat) (s : State), (g = false) ∧ (s.tch.op = some (2, x, i, m))) ∧
    (∃ (g : Bool) (x i m : Nat) (s : State), (g = false) ∧ (s.tch.op = some (3, x, i, m))) ∧
    (∃ (g : Bool) (x i m : Nat) (s : State), (g = false) ∧ (s.tch.op = some (4, x, i, m))) ∧
    (∃ (g : Bool) (x i m : Nat) (s : State), (g = false) ∧ (s.tch.op = some (5, x, i, m))) ∧
    (∃ (g : Bool) (x i m : Nat) (s : State), (g = false) ∧ (s.tch.op = some (6, x, i, m))) ∧
    (∃ (o x i m : Nat) (s : State), (s.tch.op = some (o, x, i, m)) ∧ (m ≤ i) ∧ (get Reg.TCH_STAT.DISABLING s = 1) ∧ (o ≠ 6 ∨ x ≠ 1)) ∧
    (∃ (b : Bool) (e : TchEvict) (l : List TchEvict) (s : State), (b = true) ∧ (s.tch.evb = e :: l) ∧ (e.issued = true)) ∧
    (∃ (o x i m : Nat) (s : State), (s.tch.op = some (o, x, i, m)) ∧ (m ≤ i) ∧ (get Reg.TCH_STAT.DISABLING s ≠ 1 ∨ (o = 6 ∧ x = 1))) ∧
    (∃ (b : Bool) (e : TchEvict) (l : List TchEvict) (s : State), (b = true) ∧ (s.tch.evb = e :: l) ∧ (e.issued = true) ∧ (get Reg.MEM_FLIP_CTL.ARM s = 0) ∧ (e.dirty.all (fun p => decide (p.1 < 4)) = true) ∧ ((wordsIn 1 e.addr 256).all (fun x => (upsetOf 1 x s).isNone && !isPoisoned 1 x s) = true) ∧ (e.addr % 256 = 0)) ∧
    (∃ (b : Bool) (i : Nat) (d : TchEvict) (s : State), (b = false) ∧ (s.tch.evb.findIdx? (fun x => !x.issued) = some i) ∧ (s.tch.evb[i]? = some d)) :=
  ⟨⟨((true : Bool)), (at_ [(Reg.TCH_STAT.INV_DONE, 1)] : State), by decide +kernel⟩,
    ⟨((false : Bool)), (at_ [(Reg.TCH_CTL.EN, 1)] : State), by decide +kernel⟩,
    ⟨((true : Bool)), (at_ [(Reg.TCH_CTL.EN, 1)] : State), by decide +kernel⟩,
    ⟨((true : Bool)), (at_ [(Reg.TCH_CTL.EN, 1), (Reg.TCH_RANGE_LO.ADDR, 0), (Reg.TCH_RANGE_HI.ADDR, 16), (Reg.TCH_RANGE_LEN.LINES, 3)] : State), by decide +kernel⟩,
    ⟨((true : Bool)), (at_ [(Reg.TCH_CTL.EN, 1), (Reg.TCH_RANGE_LO.ADDR, 0), (Reg.TCH_RANGE_HI.ADDR, 16), (Reg.TCH_RANGE_LEN.LINES, 3)] : State), by decide +kernel⟩,
    ⟨((true : Bool)), (at_ [(Reg.TCH_CTL.EN, 1), (Reg.TCH_RANGE_LO.ADDR, 0), (Reg.TCH_RANGE_HI.ADDR, 16), (Reg.TCH_RANGE_LEN.LINES, 3)] : State), by decide +kernel⟩,
    ⟨((true : Bool)), (at_ [(Reg.TCH_CTL.EN, 1), (Reg.TCH_RANGE_LO.ADDR, 0), (Reg.TCH_RANGE_HI.ADDR, 16), (Reg.TCH_RANGE_LEN.LINES, 3)] : State), by decide +kernel⟩,
    ⟨((true : Bool)), (at_ [(Reg.TCH_CTL.EN, 1), (Reg.TCH_RANGE_LO.ADDR, 0), (Reg.TCH_RANGE_HI.ADDR, 16), (Reg.TCH_RANGE_LEN.LINES, 3)] : State), by decide +kernel⟩,
    ⟨((true : Bool)), (at_ [(Reg.TCH_CTL.EN, 1), (Reg.TCH_RANGE_LO.ADDR, 0), (Reg.TCH_RANGE_HI.ADDR, 16), (Reg.TCH_RANGE_LEN.LINES, 3)] : State), by decide +kernel⟩,
    ⟨((true : Bool)), (at_ [(Reg.TCH_STAT.BUSY, 1), (Reg.TCH_RANGE_LO.ADDR, 0), (Reg.TCH_RANGE_HI.ADDR, 16), (Reg.TCH_RANGE_LEN.LINES, 3)] : State), by decide +kernel⟩,
    ⟨((true : Bool)), (at_ [(Reg.TCH_STAT.BUSY, 1), (Reg.TCH_RANGE_LO.ADDR, 0), (Reg.TCH_RANGE_HI.ADDR, 16), (Reg.TCH_RANGE_LEN.LINES, 3)] : State), by decide +kernel⟩,
    ⟨((true : Bool)), (at_ [(Reg.TCH_STAT.BUSY, 1), (Reg.TCH_RANGE_LO.ADDR, 0), (Reg.TCH_RANGE_HI.ADDR, 16), (Reg.TCH_RANGE_LEN.LINES, 3)] : State), by decide +kernel⟩,
    ⟨((true : Bool)), (at_ [(Reg.TCH_STAT.BUSY, 1), (Reg.TCH_RANGE_LO.ADDR, 0), (Reg.TCH_RANGE_HI.ADDR, 16), (Reg.TCH_RANGE_LEN.LINES, 3)] : State), by decide +kernel⟩,
    ⟨((true : Bool)), (at_ [(Reg.TCH_STAT.BUSY, 1), (Reg.TCH_RANGE_LO.ADDR, 0), (Reg.TCH_RANGE_HI.ADDR, 16), (Reg.TCH_RANGE_LEN.LINES, 3)] : State), by decide +kernel⟩,
    ⟨((true : Bool)), (at_ [(Reg.TCH_STAT.BUSY, 1), (Reg.TCH_RANGE_LO.ADDR, 0), (Reg.TCH_RANGE_HI.ADDR, 16), (Reg.TCH_RANGE_LEN.LINES, 3)] : State), by decide +kernel⟩,
    ⟨((false : Bool)), ((1 : Nat)), ((0 : Nat)), ((3 : Nat)), ((0 : Nat)), ((0 : Nat)), (({ data := List.replicate 64 9, poison := [] } : Under)), (({ tag := 0, valid := 15, dirty := [(0, { data := List.replicate 64 9, poison := [] })] } : TchLine)), ((fun (l : TchLine) => ({ at_ [(Reg.TCH_CTL.EN, 1), (Reg.TCH_RANGE_LO.ADDR, 0), (Reg.TCH_RANGE_HI.ADDR, 16), (Reg.TCH_RANGE_LEN.LINES, 3), (Reg.TCH_STAT.BUSY, 1)] with tch := { lines := [(0, l)], op := some (1, 0, 0, 3) } } : State)) (({ tag := 0, valid := 15, dirty := [(0, { data := List.replicate 64 9, poison := [] })] } : TchLine))), by decide +kernel⟩,
    ⟨((false : Bool)), ((1 : Nat)), ((0 : Nat)), ((3 : Nat)), ((0 : Nat)), (({ tag := 0, valid := 15, dirty := [(0, { data := List.replicate 64 9, poison := [] })] } : TchLine)), ((fun (l : TchLine) => ({ at_ [(Reg.TCH_CTL.EN, 1), (Reg.TCH_RANGE_LO.ADDR, 0), (Reg.TCH_RANGE_HI.ADDR, 16), (Reg.TCH_RANGE_LEN.LINES, 3), (Reg.TCH_STAT.BUSY, 1)] with tch := { lines := [(0, l)], op := some (2, 0, 0, 3) } } : State)) (({ tag := 0, valid := 15, dirty := [(0, { data := List.replicate 64 9, poison := [] })] } : TchLine))), by decide +kernel⟩,
    ⟨((false : Bool)), ((1 : Nat)), ((0 : Nat)), ((3 : Nat)), ((0 : Nat)), (({ tag := 0, valid := 15, dirty := [(0, { data := List.replicate 64 9, poison := [] })] } : TchLine)), ((fun (l : TchLine) => ({ at_ [(Reg.TCH_CTL.EN, 1), (Reg.TCH_RANGE_LO.ADDR, 0), (Reg.TCH_RANGE_HI.ADDR, 16), (Reg.TCH_RANGE_LEN.LINES, 3), (Reg.TCH_STAT.BUSY, 1)] with tch := { lines := [(0, l)], op := some (3, 0, 0, 3) } } : State)) (({ tag := 0, valid := 15, dirty := [(0, { data := List.replicate 64 9, poison := [] })] } : TchLine))), by decide +kernel⟩,
    ⟨((false : Bool)), ((1 : Nat)), ((0 : Nat)), ((32768 : Nat)), ((0 : Nat)), (({ data := List.replicate 64 9, poison := [] } : Under)), (({ tag := 0, valid := 15, dirty := [(0, { data := List.replicate 64 9, poison := [] })] } : TchLine)), ((fun (l : TchLine) => ({ at_ [(Reg.TCH_CTL.EN, 1), (Reg.TCH_RANGE_LO.ADDR, 0), (Reg.TCH_RANGE_HI.ADDR, 16), (Reg.TCH_RANGE_LEN.LINES, 3), (Reg.TCH_STAT.BUSY, 1)] with tch := { lines := [(0, l)], op := some (5, 0, 0, 32768) } } : State)) (({ tag := 0, valid := 15, dirty := [(0, { data := List.replicate 64 9, poison := [] })] } : TchLine))), by decide +kernel⟩,
    ⟨((false : Bool)), ((1 : Nat)), ((0 : Nat)), ((32768 : Nat)), (({ tag := 0, valid := 15, dirty := [(0, { data := List.replicate 64 9, poison := [] })] } : TchLine)), ((fun (l : TchLine) => ({ at_ [(Reg.TCH_CTL.EN, 1), (Reg.TCH_RANGE_LO.ADDR, 0), (Reg.TCH_RANGE_HI.ADDR, 16), (Reg.TCH_RANGE_LEN.LINES, 3), (Reg.TCH_STAT.BUSY, 1)] with tch := { lines := [(0, l)], op := some (6, 0, 0, 32768) } } : State)) (({ tag := 0, valid := 15, dirty := [(0, { data := List.replicate 64 9, poison := [] })] } : TchLine))), by decide +kernel⟩,
    ⟨((false : Bool)), ((1 : Nat)), ((5 : Nat)), ((0 : Nat)), ((3 : Nat)), ((0 : Nat)), (({ tag := 0, valid := 3, dirty := [] } : TchLine)), ((fun (l : TchLine) => ({ at_ [(Reg.TCH_CTL.EN, 1), (Reg.TCH_RANGE_LO.ADDR, 0), (Reg.TCH_RANGE_HI.ADDR, 16), (Reg.TCH_RANGE_LEN.LINES, 3), (Reg.TCH_STAT.BUSY, 1)] with tch := { lines := [(0, l)], op := some (4, 5, 0, 3) } } : State)) (({ tag := 0, valid := 3, dirty := [] } : TchLine))), by decide +kernel⟩,
    ⟨((false : Bool)), ((0 : Nat)), ((0 : Nat)), ((3 : Nat)), ((fun (x : Nat) (i : Nat) (m : Nat) => ({ at_ [(Reg.TCH_CTL.EN, 1), (Reg.TCH_RANGE_LO.ADDR, 0), (Reg.TCH_RANGE_HI.ADDR, 16), (Reg.TCH_RANGE_LEN.LINES, 3), (Reg.TCH_STAT.BUSY, 1)] with tch := { lines := [(0, { tag := 0, valid := 15, dirty := [(0, { data := List.replicate 64 9, poison := [] })] })], op := some (1, x, i, m) } } : State)) ((0 : Nat)) ((0 : Nat)) ((3 : Nat))), by decide +kernel⟩,
    ⟨((false : Bool)), ((0 : Nat)), ((0 : Nat)), ((3 : Nat)), ((fun (x : Nat) (i : Nat) (m : Nat) => ({ at_ [(Reg.TCH_CTL.EN, 1), (Reg.TCH_RANGE_LO.ADDR, 0), (Reg.TCH_RANGE_HI.ADDR, 16), (Reg.TCH_RANGE_LEN.LINES, 3), (Reg.TCH_STAT.BUSY, 1)] with tch := { lines := [(0, { tag := 0, valid := 15, dirty := [(0, { data := List.replicate 64 9, poison := [] })] })], op := some (2, x, i, m) } } : State)) ((0 : Nat)) ((0 : Nat)) ((3 : Nat))), by decide +kernel⟩,
    ⟨((false : Bool)), ((0 : Nat)), ((0 : Nat)), ((3 : Nat)), ((fun (x : Nat) (i : Nat) (m : Nat) => ({ at_ [(Reg.TCH_CTL.EN, 1), (Reg.TCH_RANGE_LO.ADDR, 0), (Reg.TCH_RANGE_HI.ADDR, 16), (Reg.TCH_RANGE_LEN.LINES, 3), (Reg.TCH_STAT.BUSY, 1)] with tch := { lines := [(0, { tag := 0, valid := 15, dirty := [(0, { data := List.replicate 64 9, poison := [] })] })], op := some (3, x, i, m) } } : State)) ((0 : Nat)) ((0 : Nat)) ((3 : Nat))), by decide +kernel⟩,
    ⟨((false : Bool)), ((0 : Nat)), ((0 : Nat)), ((3 : Nat)), ((fun (x : Nat) (i : Nat) (m : Nat) => ({ at_ [(Reg.TCH_CTL.EN, 1), (Reg.TCH_RANGE_LO.ADDR, 0), (Reg.TCH_RANGE_HI.ADDR, 16), (Reg.TCH_RANGE_LEN.LINES, 3), (Reg.TCH_STAT.BUSY, 1)] with tch := { lines := [(0, { tag := 0, valid := 15, dirty := [(0, { data := List.replicate 64 9, poison := [] })] })], op := some (4, x, i, m) } } : State)) ((0 : Nat)) ((0 : Nat)) ((3 : Nat))), by decide +kernel⟩,
    ⟨((false : Bool)), ((0 : Nat)), ((0 : Nat)), ((3 : Nat)), ((fun (x : Nat) (i : Nat) (m : Nat) => ({ at_ [(Reg.TCH_CTL.EN, 1), (Reg.TCH_RANGE_LO.ADDR, 0), (Reg.TCH_RANGE_HI.ADDR, 16), (Reg.TCH_RANGE_LEN.LINES, 3), (Reg.TCH_STAT.BUSY, 1)] with tch := { lines := [(0, { tag := 0, valid := 15, dirty := [(0, { data := List.replicate 64 9, poison := [] })] })], op := some (5, x, i, m) } } : State)) ((0 : Nat)) ((0 : Nat)) ((3 : Nat))), by decide +kernel⟩,
    ⟨((false : Bool)), ((0 : Nat)), ((0 : Nat)), ((3 : Nat)), ((fun (x : Nat) (i : Nat) (m : Nat) => ({ at_ [(Reg.TCH_CTL.EN, 1), (Reg.TCH_RANGE_LO.ADDR, 0), (Reg.TCH_RANGE_HI.ADDR, 16), (Reg.TCH_RANGE_LEN.LINES, 3), (Reg.TCH_STAT.BUSY, 1)] with tch := { lines := [(0, { tag := 0, valid := 15, dirty := [(0, { data := List.replicate 64 9, poison := [] })] })], op := some (6, x, i, m) } } : State)) ((0 : Nat)) ((0 : Nat)) ((3 : Nat))), by decide +kernel⟩,
    ⟨((5 : Nat)), ((0 : Nat)), ((32768 : Nat)), ((32768 : Nat)), ((fun (o : Nat) (x : Nat) (i : Nat) (m : Nat) => ({ at_ [(Reg.TCH_STAT.BUSY, 1), (Reg.TCH_STAT.DISABLING, 1)] with tch := { op := some (o, x, i, m) } } : State)) ((5 : Nat)) ((0 : Nat)) ((32768 : Nat)) ((32768 : Nat))), by decide +kernel⟩,
    ⟨((true : Bool)), (({ addr := 0x1000000000, dirty := [(1, { data := List.replicate 64 9, poison := [] })], issued := true } : TchEvict)), (([] : List TchEvict)), ((fun (e : TchEvict) => ({ at_ [] with tch := { evb := [e] } } : State)) (({ addr := 0x1000000000, dirty := [(1, { data := List.replicate 64 9, poison := [] })], issued := true } : TchEvict))), by decide +kernel⟩,
    ⟨((5 : Nat)), ((0 : Nat)), ((32768 : Nat)), ((32768 : Nat)), ((fun (o : Nat) (x : Nat) (i : Nat) (m : Nat) => ({ at_ [(Reg.TCH_STAT.BUSY, 1)] with tch := { op := some (o, x, i, m) } } : State)) ((5 : Nat)) ((0 : Nat)) ((32768 : Nat)) ((32768 : Nat))), by decide +kernel⟩,
    ⟨((true : Bool)), (({ addr := 0x1000000000, dirty := [(1, { data := List.replicate 64 9, poison := [] })], issued := true } : TchEvict)), (([] : List TchEvict)), ((fun (e : TchEvict) => ({ at_ [] with tch := { evb := [e] } } : State)) (({ addr := 0x1000000000, dirty := [(1, { data := List.replicate 64 9, poison := [] })], issued := true } : TchEvict))), by decide +kernel⟩,
    ⟨((false : Bool)), ((1 : Nat)), (({ addr := 0x1000000100, dirty := [] } : TchEvict)), ((fun (d : TchEvict) => ({ at_ [] with tch := { evb := [{ addr := 0x1000000000, dirty := [], issued := true }, d] } } : State)) (({ addr := 0x1000000100, dirty := [] } : TchEvict))), by decide +kernel⟩⟩

/-- The hypotheses of FabricPortsAndLinksRun, clause by clause, are met. -/
theorem witness_fabric_ports_and_links_run :
    (∃ (l : List Nat) (n p : Nat) (s : State), ((List.range 4).filter (fun k => l.contains k && !(fabPort k s).stays && (!fabUp k s || decide (get Reg.FAB_LANE.ERR_THR s ≤ n))) = [p]) ∧ (fabUp p s = false) ∧ (get Reg.FAB_LANE.AUTO s = 1) ∧ (get Reg.FAB_LANE.SEL s = 7)) ∧
    (∃ (l : List Nat) (n p : Nat) (s : State), ((List.range 4).filter (fun k => l.contains k && !(fabPort k s).stays && (!fabUp k s || decide (get Reg.FAB_LANE.ERR_THR s ≤ n))) = [p]) ∧ (fabUp p s = false) ∧ (get Reg.FAB_LANE.AUTO s ≠ 1 ∨ get Reg.FAB_LANE.SEL s ≠ 7)) ∧
    (∃ (l d : List Nat) (n : Nat) (s : State), (d = (List.range 4).filter (fun k => l.contains k && !(fabPort k s).stays && (!fabUp k s || decide (get Reg.FAB_LANE.ERR_THR s ≤ n))))) ∧
    (∃ (p : Nat) (c : Bool) (s : State), (p < 4) ∧ (c = false) ∧ (fabRuns s = true) ∧ (fabUp p s = false) ∧ ((fabPort p s).stays = false) ∧ (retrainOk p s = true)) ∧
    (∃ (p : Nat) (c : Bool) (s : State), (p < 4) ∧ (c = true) ∧ (get (Reg.FAB_PORT_STAT.TRAINING p) s = 1) ∧ (2 ≤ (fabPort p s).inits)) ∧
    (∃ (p : Nat) (s : State), (p < 4) ∧ (get (Reg.FAB_PORT_STAT.TRAINING p) s = 1)) ∧
    (∃ (p : Nat) (s : State), (p < 4) ∧ (fabUp p s = true) ∧ ((fabPort p s).queue = [])) ∧
    (∃ (p : Nat) (s : State), (p < 4) ∧ (fabUp p s = true)) ∧
    (∃ (p n : Nat) (s : State), (p < 4) ∧ (fabUp p s = true) ∧ (20000 ≤ n)) ∧
    (∃ (p : Nat) (s : State), (p < 4) ∧ (fabUp p s = true) ∧ (8 ≤ (fabPort p s).tries)) ∧
    (∃ (p v : Nat) (s : State), (p < 4) ∧ (fabUp p s = true) ∧ (v < 3) ∧ (v < (fabPort p s).credit.length) ∧ ((fabPort p s).queue = [])) ∧
    (∃ (p v u : Nat) (x : FabWait) (s : State), (p < 4) ∧ (fabUp p s = true) ∧ (v < 3) ∧ (v < (fabPort p s).credit.length) ∧ ((fabPort p s).queue = [x]) ∧ (x.frame.vc = v) ∧ (frameUnits x.frame ≤ (fabPort p s).credit.getD v 0 + u) ∧ ((fabPort p s).replay.length < 64)) ∧
    (∃ (p v : Nat) (s : State), (p < 4) ∧ (fabUp p s = true) ∧ (v < 3)) ∧
    (∃ (p q : Nat) (f : Frame) (b : List Nat) (s : State), (p < 4) ∧ (fabUp p s = true) ∧ (wireGood b = true) ∧ (frameOf b = f) ∧ (q = (fabPort p s).expect) ∧ (f.type ≠ 1) ∧ (knownType f.type = true) ∧ (f.dst ≠ nodeId s) ∧ (f.hops < 16) ∧ (hasRoute f.dst s = true) ∧ (routePort f.dst s ≠ p) ∧ ((fabPort (routePort f.dst s) s).queue = []) ∧ (frameUnits f ≤ (fabPort (routePort f.dst s) s).credit.getD f.vc 0) ∧ ((fabPort (routePort f.dst s) s).replay.length < 64)) ∧
    (∃ (p q : Nat) (f : Frame) (b : List Nat) (s : State), (p < 4) ∧ (fabUp p s = true) ∧ (wireGood b = true) ∧ (frameOf b = f) ∧ (q = (fabPort p s).expect) ∧ (f.type ≠ 1) ∧ (knownType f.type = true) ∧ (f.dst ≠ nodeId s) ∧ (16 ≤ f.hops ∨ (hasRoute f.dst s = false ∧ hasRoute f.src s = false))) ∧
    (∃ (p q : Nat) (f : Frame) (b : List Nat) (s : State), (p < 4) ∧ (fabUp p s = true) ∧ (wireGood b = true) ∧ (frameOf b = f) ∧ (q = (fabPort p s).expect) ∧ (f.type ≠ 1) ∧ (knownType f.type = false)) ∧
    (∃ (p : Nat) (f : Frame) (b : List Nat) (s : State), (p < 4) ∧ (fabUp p s = true) ∧ (wireGood b = false) ∧ (frameOf b = f) ∧ (f.type ≠ 1) ∧ (f.dst ≠ nodeId s)) ∧
    (∃ (p q : Nat) (f : Frame) (b : List Nat) (s : State), (p < 4) ∧ (fabUp p s = true) ∧ (wireGood b = true) ∧ (frameOf b = f) ∧ (q = (fabPort p s).expect) ∧ (f.type ≠ 1) ∧ (knownType f.type = true) ∧ (f.dst ≠ nodeId s ∨ nodeId s = 0)) ∧
    (∃ (p q : Nat) (f : Frame) (b : List Nat) (s : State), (p < 4) ∧ (fabUp p s = true) ∧ (wireGood b = true) ∧ (frameOf b = f) ∧ (f.type ≠ 1) ∧ (f.dst ≠ nodeId s) ∧ (q ≠ (fabPort p s).expect)) :=
  ⟨⟨(([2] : List Nat)), ((0 : Nat)), ((2 : Nat)), (at_ [(Reg.FAB_LANE.AUTO, 1), (Reg.FAB_LANE.SEL, 7)] : State), by decide +kernel⟩,
    ⟨(([2] : List Nat)), ((0 : Nat)), ((2 : Nat)), (at_ [(Reg.FAB_LANE.AUTO, 0)] : State), by decide +kernel⟩,
    ⟨(([3, 2] : List Nat)), (([2, 3] : List Nat)), ((9 : Nat)), (at_ [(Reg.FAB_LANE.AUTO, 1), (Reg.FAB_LANE.SEL, 7)] : State), by decide +kernel⟩,
    ⟨((1 : Nat)), ((false : Bool)), (at_ [(Reg.PMU_DOM_STAT.ON, 0x1FFFFF), (Reg.SYS_MODE.CUR, 3), (Reg.SYS_MODE.STAGE, 1)] : State), by decide +kernel⟩,
    ⟨((1 : Nat)), ((true : Bool)), ({ at_ [(Reg.FAB_CFG.NODE, 7), (Reg.FAB_CFG.EN, 1), (Reg.FAB_PORT_STAT.TRAINING 1, 1)] with fab := { ports := [(1, { inits := 2 })] } } : State), by decide +kernel⟩,
    ⟨((1 : Nat)), (at_ [(Reg.FAB_PORT_STAT.TRAINING 1, 1)] : State), by decide +kernel⟩,
    ⟨((1 : Nat)), ({ at_ [(Reg.FAB_PORT_STAT.UP 1, 1)] with fab := { ports := [(1, { replay := [(4, ⟨7, 1, 5, 16, 1, 2, 3, 0, 0, 0, []⟩), (5, ⟨7, 1, 5, 16, 1, 2, 3, 0, 0, 0, []⟩)] })] } } : State), by decide +kernel⟩,
    ⟨((1 : Nat)), ({ at_ [(Reg.FAB_PORT_STAT.UP 1, 1)] with fab := { ports := [(1, { queue := [⟨none, ⟨7, 1, 5, 16, 1, 2, 3, 0, 0, 0, []⟩⟩, ⟨none, ⟨7, 2, 5, 16, 1, 2, 3, 0, 0, 0, []⟩⟩], credit := [0, 5, 0], replay := [(4, ⟨7, 1, 5, 16, 1, 2, 3, 0, 0, 0, []⟩), (5, ⟨7, 1, 5, 16, 1, 2, 3, 0, 0, 0, []⟩)] })] } } : State), by decide +kernel⟩,
    ⟨((1 : Nat)), ((20000 : Nat)), ({ at_ [(Reg.FAB_PORT_STAT.UP 1, 1)] with fab := { ports := [(1, { replay := [(4, ⟨7, 1, 5, 16, 1, 2, 3, 0, 0, 0, []⟩)] })] } } : State), by decide +kernel⟩,
    ⟨((1 : Nat)), ({ at_ [(Reg.FAB_PORT_STAT.UP 1, 1)] with fab := { ports := [(1, { tries := 8 })] } } : State), by decide +kernel⟩,
    ⟨((1 : Nat)), ((2 : Nat)), (at_ [(Reg.FAB_PORT_STAT.UP 1, 1)] : State), by decide +kernel⟩,
    ⟨((1 : Nat)), ((1 : Nat)), ((5 : Nat)), ((⟨none, ⟨7, 1, 5, 16, 1, 2, 3, 0, 0, 0, []⟩⟩ : FabWait)), ((fun (x : FabWait) => ({ at_ [(Reg.FAB_PORT_STAT.UP 1, 1)] with fab := { ports := [(1, { queue := [x] })] } } : State)) ((⟨none, ⟨7, 1, 5, 16, 1, 2, 3, 0, 0, 0, []⟩⟩ : FabWait))), by decide +kernel⟩,
    ⟨((1 : Nat)), ((1 : Nat)), ({ at_ [(Reg.FAB_PORT_STAT.UP 1, 1)] with fab := { ports := [(1, { queue := [⟨none, ⟨7, 1, 5, 16, 1, 2, 3, 0, 0, 0, []⟩⟩, ⟨none, ⟨7, 2, 5, 16, 1, 2, 3, 0, 0, 0, []⟩⟩], credit := [0, 0, 0] })] } } : State), by decide +kernel⟩,
    ⟨((1 : Nat)), ((0 : Nat)), ((⟨9, 1, 5, 16, 15, 2, 3, 0, 0, 0, []⟩ : Frame)), ((fun (f : Frame) => (wireOf f : List Nat)) ((⟨9, 1, 5, 16, 15, 2, 3, 0, 0, 0, []⟩ : Frame))), ({ at_ [(Reg.FAB_CFG.NODE, 7), (Reg.FAB_CFG.EN, 1), (Reg.FAB_PORT_STAT.UP 1, 1), (Reg.FAB_PORT_STAT.UP 2, 1), (Reg.FAB_RT.VALID 9, 1), (Reg.FAB_RT.PORT 9, 2)] with fab := { ports := [(1, {}), (2, { credit := [9, 9, 9] })] } } : State), by decide +kernel⟩,
    ⟨((1 : Nat)), ((0 : Nat)), ((⟨9, 1, 5, 16, 16, 2, 3, 0, 0, 0, []⟩ : Frame)), ((fun (f : Frame) => (wireOf f : List Nat)) ((⟨9, 1, 5, 16, 16, 2, 3, 0, 0, 0, []⟩ : Frame))), (at_ [(Reg.FAB_CFG.NODE, 7), (Reg.FAB_CFG.EN, 1), (Reg.FAB_PORT_STAT.UP 1, 1)] : State), by decide +kernel⟩,
    ⟨((1 : Nat)), ((0 : Nat)), ((⟨7, 1, 5, 32, 1, 2, 3, 0, 0, 0, []⟩ : Frame)), ((fun (f : Frame) => (wireOf f : List Nat)) ((⟨7, 1, 5, 32, 1, 2, 3, 0, 0, 0, []⟩ : Frame))), (at_ [(Reg.FAB_CFG.NODE, 7), (Reg.FAB_CFG.EN, 1), (Reg.FAB_PORT_STAT.UP 1, 1)] : State), by decide +kernel⟩,
    ⟨((1 : Nat)), ((⟨9, 1, 5, 16, 1, 2, 3, 0, 0, 0, []⟩ : Frame)), ((fun (f : Frame) => (wireOf f ++ [0] : List Nat)) ((⟨9, 1, 5, 16, 1, 2, 3, 0, 0, 0, []⟩ : Frame))), (at_ [(Reg.FAB_CFG.NODE, 7), (Reg.FAB_CFG.EN, 1), (Reg.FAB_PORT_STAT.UP 1, 1)] : State), by decide +kernel⟩,
    ⟨((1 : Nat)), ((0 : Nat)), ((⟨9, 1, 5, 16, 15, 2, 3, 0, 0, 0, []⟩ : Frame)), ((fun (f : Frame) => (wireOf f : List Nat)) ((⟨9, 1, 5, 16, 15, 2, 3, 0, 0, 0, []⟩ : Frame))), ({ at_ [(Reg.FAB_CFG.NODE, 7), (Reg.FAB_CFG.EN, 1), (Reg.FAB_PORT_STAT.UP 1, 1), (Reg.FAB_PORT_STAT.UP 2, 1), (Reg.FAB_RT.VALID 9, 1), (Reg.FAB_RT.PORT 9, 2), (Reg.FAB_RT.VALID 5, 1), (Reg.FAB_RT.PORT 5, 1)] with fab := { ports := [(1, {}), (2, { credit := [9, 9, 9] })] } } : State), by decide +kernel⟩,
    ⟨((1 : Nat)), ((3 : Nat)), ((⟨9, 1, 5, 16, 1, 2, 3, 0, 0, 0, []⟩ : Frame)), ((fun (f : Frame) => (wireOf f : List Nat)) ((⟨9, 1, 5, 16, 1, 2, 3, 0, 0, 0, []⟩ : Frame))), (at_ [(Reg.FAB_CFG.NODE, 7), (Reg.FAB_CFG.EN, 1), (Reg.FAB_PORT_STAT.UP 1, 1)] : State), by decide +kernel⟩⟩

/-- The hypotheses of FabricNodesServeAndRequest, clause by clause, are met. -/
theorem witness_fabric_nodes_serve_and_request :
    (∃ (n : Nat) (s : State), (advertises s = true) ∧ (advMs s ≤ n)) ∧
    (∃ (p q : Nat) (f : Frame) (b : List Nat) (s : State), (p < 4) ∧ (fabUp p s = true) ∧ (wireGood b = true) ∧ (frameOf b = f) ∧ (q = (fabPort p s).expect) ∧ (f.type = 1) ∧ (f.dst = 4095) ∧ (f.src ≠ nodeId s) ∧ (f.src ≠ 0) ∧ (f.src < 4095) ∧ (AMap.lookup f.src s.fab.uids = none) ∧ (AMap.lookup f.src s.fab.seen = none) ∧ (get (Reg.FAB_RT.STATIC f.src) s = 0) ∧ (AMap.rising s.fab.uids = true) ∧ (AMap.rising s.fab.seen = true)) ∧
    (∃ (p q : Nat) (f : Frame) (b : List Nat) (s : State), (p < 4) ∧ (fabUp p s = true) ∧ (wireGood b = true) ∧ (frameOf b = f) ∧ (q = (fabPort p s).expect) ∧ (f.type = 1) ∧ (f.dst = 4095) ∧ (f.src = nodeId s) ∧ (nodeId s ≠ 0) ∧ (ofBytes (f.payload.take 8) ≠ ownUid s)) ∧
    (∃ (p q : Nat) (f : Frame) (b : List Nat) (s : State), (p < 4) ∧ (fabUp p s = true) ∧ (wireGood b = true) ∧ (frameOf b = f) ∧ (q = (fabPort p s).expect) ∧ (f.type = 1) ∧ (f.dst = 4095) ∧ (AMap.rising s.fab.uids = true)) ∧
    (∃ (o p q : Nat) (f : Frame) (b : List Nat) (s : State), (p < 4) ∧ (fabUp p s = true) ∧ (wireGood b = true) ∧ (frameOf b = f) ∧ (q = (fabPort p s).expect) ∧ (f.type = 1) ∧ (f.dst = 4095) ∧ (f.src ≠ nodeId s) ∧ (f.src ≠ 0) ∧ (f.src < 4095) ∧ (AMap.lookup f.src s.fab.uids = some (ofBytes (f.payload.take 8))) ∧ (AMap.lookup f.src s.fab.seen = some o) ∧ (get (Reg.FAB_RT.VALID f.src) s = 1) ∧ (get (Reg.FAB_RT.STATIC f.src) s = 0) ∧ (AMap.rising s.fab.uids = true) ∧ (AMap.rising s.fab.seen = true) ∧ (AMap.rising s.fab.fresh = true)) ∧
    (∃ (n : Nat) (s : State), (n < 4096) ∧ (get (Reg.FAB_RT.VALID n) s = 1) ∧ (get (Reg.FAB_RT.STATIC n) s = 0) ∧ (n ≠ nodeId s) ∧ ((if get Reg.FAB_ADV.AGE s = 0 then 4 else get Reg.FAB_ADV.AGE s) * advMs s ≤ routeAge n s) ∧ (s.fab.reqs.filter (fun r => r.frame.dst == n) = [])) ∧
    (∃ (n : Nat) (s : State), (n < 4096) ∧ (get (Reg.FAB_RT.VALID n) s = 1) ∧ (get (Reg.FAB_RT.STATIC n) s = 0) ∧ (n ≠ nodeId s) ∧ ((if get Reg.FAB_ADV.AGE s = 0 then 4 else get Reg.FAB_ADV.AGE s) * advMs s ≤ routeAge n s)) ∧
    (∃ (p q : Nat) (f : Frame) (b : List Nat) (s : State), (p < 4) ∧ (fabUp p s = true) ∧ (wireGood b = true) ∧ (frameOf b = f) ∧ (q = (fabPort p s).expect) ∧ (f.dst = nodeId s) ∧ (nodeActive s = true) ∧ (get Reg.SYS_MODE.ACT s = 0) ∧ (storeRuns s = true) ∧ (hasRoom 3 s = true) ∧ (f.type = 0x10) ∧ (get Reg.FAB_CFG.APP_EN s = 1) ∧ (nsServed (bits f.p1 20 6) s = true) ∧ (nsType (bits f.p1 20 6) s = 2 ∨ nsType (bits f.p1 20 6) s = 4) ∧ (f.p2 % 4096 = 0) ∧ (f.p2 ≠ 0) ∧ (f.p2 ≤ 1048576) ∧ (inNs (bits f.p1 20 6) (bits f.p1 0 20) s = true)) ∧
    (∃ (p q : Nat) (f : Frame) (b : List Nat) (s : State), (p < 4) ∧ (fabUp p s = true) ∧ (wireGood b = true) ∧ (frameOf b = f) ∧ (q = (fabPort p s).expect) ∧ (f.dst = nodeId s) ∧ (nodeActive s = true) ∧ (get Reg.SYS_MODE.ACT s = 0) ∧ (storeRuns s = true) ∧ (hasRoom 3 s = true) ∧ (f.type = 0x10) ∧ (get Reg.FAB_CFG.APP_EN s = 0) ∧ (hasRoute f.src s = false)) ∧
    (∃ (p q : Nat) (f : Frame) (b : List Nat) (s : State), (p < 4) ∧ (fabUp p s = true) ∧ (wireGood b = true) ∧ (frameOf b = f) ∧ (q = (fabPort p s).expect) ∧ (f.dst = nodeId s) ∧ (nodeActive s = true) ∧ (f.type = 0x10) ∧ (get Reg.SYS_MODE.ACT s ≠ 1) ∧ (storeRuns s = false ∨ hasRoom 3 s = true)) ∧
    (∃ (p q : Nat) (f : Frame) (b : List Nat) (s : State), (p < 4) ∧ (fabUp p s = true) ∧ (wireGood b = true) ∧ (frameOf b = f) ∧ (q = (fabPort p s).expect) ∧ (f.dst = nodeId s) ∧ (nodeActive s = true) ∧ (get Reg.SYS_MODE.ACT s = 0) ∧ (storeRuns s = true) ∧ (hasRoom 3 s = true) ∧ (f.type = 0x12) ∧ (get Reg.FAB_CFG.READ_EN s = 1) ∧ (nsServed (bits f.p1 48 6) s = true) ∧ (f.p2 % (4096 / lbasPerBlock (bits f.p1 48 6) s) = 0) ∧ (f.p2 ≠ 0) ∧ (f.p2 ≤ 1048576)) ∧
    (∃ (p q : Nat) (f : Frame) (b : List Nat) (s : State), (p < 4) ∧ (fabUp p s = true) ∧ (wireGood b = true) ∧ (frameOf b = f) ∧ (q = (fabPort p s).expect) ∧ (f.dst = nodeId s) ∧ (nodeActive s = true) ∧ (f.type = 0x12) ∧ (get Reg.SYS_MODE.ACT s ≠ 1) ∧ (storeRuns s = false ∨ hasRoom 3 s = true)) ∧
    (∃ (p q : Nat) (f : Frame) (b : List Nat) (s : State), (p < 4) ∧ (fabUp p s = true) ∧ (wireGood b = true) ∧ (frameOf b = f) ∧ (q = (fabPort p s).expect) ∧ (f.dst = nodeId s) ∧ (nodeActive s = true) ∧ (get Reg.SYS_MODE.ACT s = 0) ∧ (storeRuns s = true) ∧ (hasRoom 3 s = true) ∧ (f.type = 0x14) ∧ (get Reg.FAB_CFG.COPY_EN s = 1) ∧ (nsServed (bits f.p1 20 6) s = true) ∧ (inNs (bits f.p1 20 6) (bits f.p1 0 20) s = true)) ∧
    (∃ (p q : Nat) (f : Frame) (b : List Nat) (s : State), (p < 4) ∧ (fabUp p s = true) ∧ (wireGood b = true) ∧ (frameOf b = f) ∧ (q = (fabPort p s).expect) ∧ (f.dst = nodeId s) ∧ (nodeActive s = true) ∧ (f.type = 0x14) ∧ (get Reg.SYS_MODE.ACT s ≠ 1) ∧ (storeRuns s = false ∨ hasRoom 3 s = true)) ∧
    (∃ (p q : Nat) (f : Frame) (b : List Nat) (w : FabWork) (s : State), (p < 4) ∧ (fabUp p s = true) ∧ (wireGood b = true) ∧ (frameOf b = f) ∧ (q = (fabPort p s).expect) ∧ (f.dst = nodeId s) ∧ (nodeActive s = true) ∧ (f.type = 0x11) ∧ (s.fab.work.find? (fun w => w.src == f.src && w.tag == f.tag && w.type == 0x10) = some w) ∧ (f.p1 = w.come) ∧ (w.come + f.payload.length ≤ w.total)) ∧
    (∃ (p q : Nat) (f : Frame) (b : List Nat) (s : State), (p < 4) ∧ (fabUp p s = true) ∧ (wireGood b = true) ∧ (frameOf b = f) ∧ (q = (fabPort p s).expect) ∧ (f.dst = nodeId s) ∧ (nodeActive s = true) ∧ (f.type = 0x11)) ∧
    (∃ (a b n : Nat) (w : FabWork) (s : State), (s.fab.work.find? (fun w => w.src == a && w.tag == b && w.type == 0x10 && decide (w.come < w.total)) = some w) ∧ (tmoMs s ≤ n)) ∧
    (∃ (p q : Nat) (f : Frame) (b : List Nat) (s : State), (p < 4) ∧ (fabUp p s = true) ∧ (wireGood b = true) ∧ (frameOf b = f) ∧ (q = (fabPort p s).expect) ∧ (f.dst = nodeId s) ∧ (nodeActive s = true) ∧ (f.type = 0x16) ∧ (get Reg.SEAL_CTL.WIT_SERVE s ≠ 1 ∨ mode s ≠ 3 ∨ get Reg.SEAL_STAT.PROV s ≠ 1 ∨ s.seals.stopped = true ∨ get Reg.SEAL_WIT_TMO.SERVE_RATE s ≤ s.seals.served)) ∧
    (∃ (p q : Nat) (f : Frame) (b : List Nat) (s : State), (p < 4) ∧ (fabUp p s = true) ∧ (wireGood b = true) ∧ (frameOf b = f) ∧ (q = (fabPort p s).expect) ∧ (f.dst = nodeId s) ∧ (nodeActive s = true) ∧ (f.type = 0x16) ∧ (mode s = 3) ∧ (s.seals.stopped = false) ∧ (get Reg.SEAL_STAT.PROV s = 1) ∧ (get Reg.SEAL_CTL.WIT_SERVE s = 1) ∧ (s.seals.served < get Reg.SEAL_WIT_TMO.SERVE_RATE s)) ∧
    (∃ (p q : Nat) (f : Frame) (b : List Nat) (s : State), (p < 4) ∧ (fabUp p s = true) ∧ (wireGood b = true) ∧ (frameOf b = f) ∧ (q = (fabPort p s).expect) ∧ (f.dst = nodeId s) ∧ (nodeActive s = true) ∧ (f.type = 0x18) ∧ (f.p2 = 4) ∧ (f.p1.testBit 63 = true) ∧ (within (0x20000000, 0x28000000) (bits f.p1 0 40) 4 = true) ∧ (bits f.p1 0 40 % 8 ≤ 4) ∧ (f.payload.length = 4) ∧ (f.payload.all (fun b => decide (b < 256)) = true) ∧ (pathOpen 13 s = true) ∧ (accessCause true (bits f.p1 0 40) 4 true s = none) ∧ (get Reg.MEM_FLIP_CTL.ARM s = 0) ∧ ((upsetOf 2 (wordAt 2 (bits f.p1 0 40)) s).isNone = true) ∧ (isPoisoned 2 (wordAt 2 (bits f.p1 0 40)) s = false)) ∧
    (∃ (p q : Nat) (f : Frame) (b : List Nat) (s : State), (p < 4) ∧ (fabUp p s = true) ∧ (wireGood b = true) ∧ (frameOf b = f) ∧ (q = (fabPort p s).expect) ∧ (f.dst = nodeId s) ∧ (nodeActive s = true) ∧ (f.type = 0x18)) ∧
    (∃ (p q : Nat) (f : Frame) (b : List Nat) (s : State), (p < 4) ∧ (fabUp p s = true) ∧ (wireGood b = true) ∧ (frameOf b = f) ∧ (q = (fabPort p s).expect) ∧ (f.dst = nodeId s) ∧ (nodeActive s = true) ∧ (f.type = 0x18) ∧ (f.p2 = 4) ∧ (f.p1.testBit 63 = false) ∧ (within (0x20000000, 0x28000000) (bits f.p1 0 40) 4 = true) ∧ (bits f.p1 0 40 % 8 ≤ 4) ∧ (pathOpen 13 s = true) ∧ (accessCause true (bits f.p1 0 40) 4 false s = none) ∧ ((upsetOf 2 (wordAt 2 (bits f.p1 0 40)) s).isNone = true) ∧ (isPoisoned 2 (wordAt 2 (bits f.p1 0 40)) s = false)) ∧
    (∃ (p q : Nat) (f : Frame) (b : List Nat) (s : State), (p < 4) ∧ (fabUp p s = true) ∧ (wireGood b = true) ∧ (frameOf b = f) ∧ (q = (fabPort p s).expect) ∧ (f.dst = nodeId s) ∧ (nodeActive s = true) ∧ (f.type = 0x18) ∧ (f.p2 = 4) ∧ (pathOpen 13 s = false)) ∧
    (∃ (n : Nat) (s : State), (get Reg.FAB_CFG.EN s ≠ 1 ∨ nodeActive s = false ∨ s.fab.start = n % 256)) ∧
    (∃ (n : Nat) (s : State), (get Reg.FAB_CFG.EN s = 1) ∧ (nodeActive s = true) ∧ (n % 256 = (s.fab.start + 1) % 256) ∧ (s.fab.start < 256) ∧ (memCode (descAddr s.fab.start s) = 2) ∧ ((wordsIn 2 (descAddr s.fab.start s) 64).all (fun w => (upsetOf 2 w s).isNone) = true) ∧ (bits (memNat (descAddr s.fab.start s) 64 s) 0 8 = 0x12) ∧ (hasRoute (bits (memNat (descAddr s.fab.start s) 64 s) 16 12) s = true) ∧ (s.fab.reqs = [])) ∧
    (∃ (s : State), (get Reg.FAB_CFG.EN s = 1) ∧ (nodeActive s = true) ∧ (s.fab.start < 256)) ∧
    (∃ (p q : Nat) (f : Frame) (b : List Nat) (s : State), (p < 4) ∧ (fabUp p s = true) ∧ (wireGood b = true) ∧ (frameOf b = f) ∧ (q = (fabPort p s).expect) ∧ (f.dst = nodeId s) ∧ (nodeActive s = true) ∧ (0x80 ≤ f.type) ∧ (reqOf f s = none) ∧ (f.type ≠ 0x96 ∨ s.seals.wits.any (fun w => w.peer == f.src) = false)) ∧
    (∃ (p q : Nat) (f : Frame) (b : List Nat) (r : FabReq) (s : State), (p < 4) ∧ (fabUp p s = true) ∧ (wireGood b = true) ∧ (frameOf b = f) ∧ (q = (fabPort p s).expect) ∧ (f.dst = nodeId s) ∧ (nodeActive s = true) ∧ (0x80 ≤ f.type) ∧ (reqOf f s = some r) ∧ (f.flags.testBit 1 = false) ∧ (f.payload = [])) ∧
    (∃ (p q : Nat) (f : Frame) (b : List Nat) (r : FabReq) (s : State), (p < 4) ∧ (fabUp p s = true) ∧ (wireGood b = true) ∧ (frameOf b = f) ∧ (q = (fabPort p s).expect) ∧ (f.dst = nodeId s) ∧ (nodeActive s = true) ∧ (0x80 ≤ f.type) ∧ (reqOf f s = some r) ∧ (f.flags.testBit 1 = true)) ∧
    (∃ (p q : Nat) (f : Frame) (b : List Nat) (s : State), (p < 4) ∧ (fabUp p s = true) ∧ (wireGood b = true) ∧ (frameOf b = f) ∧ (q = (fabPort p s).expect) ∧ (f.dst = nodeId s) ∧ (nodeActive s = true) ∧ (f.type = 0x96) ∧ (reqOf f s = none) ∧ (s.seals.wits.any (fun w => w.peer == f.src) = true)) ∧
    (∃ (p q : Nat) (f : Frame) (b : List Nat) (r : FabReq) (s : State), (p < 4) ∧ (fabUp p s = true) ∧ (wireGood b = true) ∧ (frameOf b = f) ∧ (q = (fabPort p s).expect) ∧ (f.dst = nodeId s) ∧ (nodeActive s = true) ∧ (0x80 ≤ f.type) ∧ (reqOf f s = some r) ∧ (f.flags.testBit 1 = false)) ∧
    (∃ (g n : Nat) (r : FabReq) (s : State), (s.fab.reqs.find? (fun r => r.tag == g) = some r) ∧ (tmoMs s ≤ n) ∧ (mayRetry r = true) ∧ (get Reg.FAB_TMO.RETRY s = 1) ∧ (r.again = false)) ∧
    (∃ (g n : Nat) (r : FabReq) (s : State), (s.fab.reqs.find? (fun r => r.tag == g) = some r) ∧ (tmoMs s ≤ n) ∧ (mayRetry r = false ∨ get Reg.FAB_TMO.RETRY s = 0 ∨ r.again = true)) :=
  ⟨⟨((100 : Nat)), (at_ [(Reg.FAB_CFG.NODE, 7), (Reg.FAB_CFG.EN, 1), (Reg.FAB_PORT_STAT.UP 1, 1)] : State), by decide +kernel⟩,
    ⟨((1 : Nat)), ((0 : Nat)), ((⟨4095, 0, 5, 1, 1, 2, 3, 0, 0, 0, bytesOf 8 99 ++ bytesOf 4 6 ++ [3, 0, 0, 0]⟩ : Frame)), ((fun (f : Frame) => (wireOf f : List Nat)) ((⟨4095, 0, 5, 1, 1, 2, 3, 0, 0, 0, bytesOf 8 99 ++ bytesOf 4 6 ++ [3, 0, 0, 0]⟩ : Frame))), (at_ [(Reg.FAB_CFG.NODE, 7), (Reg.FAB_CFG.EN, 1), (Reg.FAB_PORT_STAT.UP 1, 1)] : State), by decide +kernel⟩,
    ⟨((1 : Nat)), ((0 : Nat)), ((⟨4095, 0, 7, 1, 1, 2, 3, 0, 0, 0, bytesOf 8 99 ++ bytesOf 4 6 ++ [3, 0, 0, 0]⟩ : Frame)), ((fun (f : Frame) => (wireOf f : List Nat)) ((⟨4095, 0, 7, 1, 1, 2, 3, 0, 0, 0, bytesOf 8 99 ++ bytesOf 4 6 ++ [3, 0, 0, 0]⟩ : Frame))), (at_ [(Reg.FAB_CFG.NODE, 7), (Reg.FAB_CFG.EN, 1), (Reg.FAB_PORT_STAT.UP 1, 1), (Reg.FAB_UID_LO.UID, 100)] : State), by decide +kernel⟩,
    ⟨((1 : Nat)), ((0 : Nat)), ((⟨4095, 0, 5, 1, 1, 2, 3, 0, 0, 0, bytesOf 8 99 ++ bytesOf 4 6 ++ [3, 0, 0, 0]⟩ : Frame)), ((fun (f : Frame) => (wireOf f : List Nat)) ((⟨4095, 0, 5, 1, 1, 2, 3, 0, 0, 0, bytesOf 8 99 ++ bytesOf 4 6 ++ [3, 0, 0, 0]⟩ : Frame))), ({ at_ [(Reg.FAB_CFG.NODE, 7), (Reg.FAB_CFG.EN, 1), (Reg.FAB_PORT_STAT.UP 1, 1), (Reg.FAB_RT.VALID 5, 1), (Reg.FAB_RT.PORT 5, 2)] with fab := { uids := [(5, 3)] } } : State), by decide +kernel⟩,
    ⟨((5 : Nat)), ((1 : Nat)), ((0 : Nat)), ((⟨4095, 0, 5, 1, 1, 2, 3, 0, 0, 0, bytesOf 8 99 ++ bytesOf 4 6 ++ [3, 0, 0, 0]⟩ : Frame)), ((fun (f : Frame) => (wireOf f : List Nat)) ((⟨4095, 0, 5, 1, 1, 2, 3, 0, 0, 0, bytesOf 8 99 ++ bytesOf 4 6 ++ [3, 0, 0, 0]⟩ : Frame))), ((fun (o : Nat) => ({ at_ [(Reg.FAB_CFG.NODE, 7), (Reg.FAB_CFG.EN, 1), (Reg.FAB_PORT_STAT.UP 1, 1), (Reg.FAB_RT.VALID 5, 1), (Reg.FAB_RT.PORT 5, 2), (Reg.FAB_RT.HOPS 5, 4)] with fab := { uids := [(5, 99)], seen := [(5, o)] } } : State)) ((5 : Nat))), by decide +kernel⟩,
    ⟨((5 : Nat)), ({ at_ [(Reg.FAB_RT.VALID 5, 1), (Reg.FAB_RT.PORT 5, 1), (Reg.TMP_COUNT_LO.COUNT, 80000), (Reg.FAB_ADV.AGE, 4), (Reg.FAB_ADV.ADV_MS, 100)] with fab := { fresh := [(5, 0)] } } : State), by decide +kernel⟩,
    ⟨((5 : Nat)), ({ at_ [(Reg.FAB_RT.VALID 5, 1), (Reg.FAB_RT.PORT 5, 1), (Reg.TMP_COUNT_LO.COUNT, 80000), (Reg.FAB_ADV.AGE, 4), (Reg.FAB_ADV.ADV_MS, 100), (Reg.FAB_RING_LO.ADDR, 0x8000)] with fab := { fresh := [(5, 0)], reqs := [{ idx := 0, tag := 3, frame := ⟨5, 1, 7, 18, 1, 2, 3, 0, 0, 0, []⟩, data := 0x20000000 }] } } : State), by decide +kernel⟩,
    ⟨((1 : Nat)), ((0 : Nat)), ((⟨7, 1, 5, 16, 1, 2, 3, 0, 3 + 2 ^ 20, 8192, []⟩ : Frame)), ((fun (f : Frame) => (wireOf f : List Nat)) ((⟨7, 1, 5, 16, 1, 2, 3, 0, 3 + 2 ^ 20, 8192, []⟩ : Frame))), (at_ [(Reg.FAB_CFG.NODE, 7), (Reg.FAB_CFG.EN, 1), (Reg.FAB_PORT_STAT.UP 1, 1), (Reg.CMD_CTL.EN, 1), (Reg.SYS_MODE.CUR, 3), (Reg.FAB_CFG.APP_EN, 1), (Reg.FAB_CFG.READ_EN, 1), (Reg.FAB_CFG.COPY_EN, 1), (Reg.FAB_NS_EN_LO.EN, 2), (Reg.ZMG_NS_CFG.TYPE 1, 2), (Reg.ZMG_NS_CFG.LBAF 1, 0), (Reg.ZMG_NS_ZONES.FIRST 1, 3), (Reg.ZMG_NS_COUNT.COUNT 1, 2), (Reg.ZMG_ZTBL_HI.ADDR, 16), (Reg.CMD_RSV.ADMIN, 256), (Reg.CMD_RSV.SAS, 4096)] : State), by decide +kernel⟩,
    ⟨((1 : Nat)), ((0 : Nat)), ((⟨7, 1, 5, 16, 1, 2, 3, 0, 3 + 2 ^ 20, 8192, []⟩ : Frame)), ((fun (f : Frame) => (wireOf f : List Nat)) ((⟨7, 1, 5, 16, 1, 2, 3, 0, 3 + 2 ^ 20, 8192, []⟩ : Frame))), (at_ [(Reg.FAB_CFG.NODE, 7), (Reg.FAB_CFG.EN, 1), (Reg.FAB_PORT_STAT.UP 1, 1), (Reg.CMD_CTL.EN, 1), (Reg.SYS_MODE.CUR, 3), (Reg.FAB_CFG.READ_EN, 1), (Reg.FAB_CFG.COPY_EN, 1), (Reg.FAB_NS_EN_LO.EN, 2), (Reg.ZMG_NS_CFG.TYPE 1, 2), (Reg.ZMG_NS_CFG.LBAF 1, 0), (Reg.ZMG_NS_ZONES.FIRST 1, 3), (Reg.ZMG_NS_COUNT.COUNT 1, 2), (Reg.ZMG_ZTBL_HI.ADDR, 16), (Reg.CMD_RSV.ADMIN, 256), (Reg.CMD_RSV.SAS, 4096)] : State), by decide +kernel⟩,
    ⟨((1 : Nat)), ((0 : Nat)), ((⟨7, 1, 5, 16, 1, 2, 3, 0, 3 + 2 ^ 20, 8192, []⟩ : Frame)), ((fun (f : Frame) => (wireOf f : List Nat)) ((⟨7, 1, 5, 16, 1, 2, 3, 0, 3 + 2 ^ 20, 8192, []⟩ : Frame))), (at_ [(Reg.FAB_CFG.NODE, 7), (Reg.FAB_CFG.EN, 1), (Reg.FAB_PORT_STAT.UP 1, 1), (Reg.CMD_CTL.EN, 1), (Reg.SYS_MODE.CUR, 3), (Reg.FAB_CFG.APP_EN, 1), (Reg.FAB_CFG.READ_EN, 1), (Reg.FAB_CFG.COPY_EN, 1), (Reg.FAB_NS_EN_LO.EN, 2), (Reg.ZMG_NS_CFG.TYPE 1, 2), (Reg.ZMG_NS_CFG.LBAF 1, 0), (Reg.ZMG_NS_ZONES.FIRST 1, 3), (Reg.ZMG_NS_COUNT.COUNT 1, 2), (Reg.ZMG_ZTBL_HI.ADDR, 16), (Reg.CMD_RSV.ADMIN, 256), (Reg.CMD_RSV.SAS, 4096), (Reg.FAB_RT.VALID 5, 1), (Reg.FAB_RT.PORT 5, 1)] : State), by decide +kernel⟩,
    ⟨((1 : Nat)), ((0 : Nat)), ((⟨7, 1, 5, 18, 1, 2, 3, 0, 2 ^ 48, 4096, []⟩ : Frame)), ((fun (f : Frame) => (wireOf f : List Nat)) ((⟨7, 1, 5, 18, 1, 2, 3, 0, 2 ^ 48, 4096, []⟩ : Frame))), (at_ [(Reg.FAB_CFG.NODE, 7), (Reg.FAB_CFG.EN, 1), (Reg.FAB_PORT_STAT.UP 1, 1), (Reg.CMD_CTL.EN, 1), (Reg.SYS_MODE.CUR, 3), (Reg.FAB_CFG.APP_EN, 1), (Reg.FAB_CFG.READ_EN, 1), (Reg.FAB_CFG.COPY_EN, 1), (Reg.FAB_NS_EN_LO.EN, 2), (Reg.ZMG_NS_CFG.TYPE 1, 2), (Reg.ZMG_NS_CFG.LBAF 1, 0), (Reg.ZMG_NS_ZONES.FIRST 1, 3), (Reg.ZMG_NS_COUNT.COUNT 1, 2), (Reg.ZMG_ZTBL_HI.ADDR, 16), (Reg.CMD_RSV.ADMIN, 256), (Reg.CMD_RSV.SAS, 4096)] : State), by decide +kernel⟩,
    ⟨((1 : Nat)), ((0 : Nat)), ((⟨7, 1, 5, 18, 1, 2, 3, 0, 2 ^ 48, 4096, []⟩ : Frame)), ((fun (f : Frame) => (wireOf f : List Nat)) ((⟨7, 1, 5, 18, 1, 2, 3, 0, 2 ^ 48, 4096, []⟩ : Frame))), (at_ [(Reg.FAB_CFG.NODE, 7), (Reg.FAB_CFG.EN, 1), (Reg.FAB_PORT_STAT.UP 1, 1), (Reg.CMD_CTL.EN, 1), (Reg.SYS_MODE.CUR, 3), (Reg.FAB_CFG.APP_EN, 1), (Reg.FAB_CFG.READ_EN, 1), (Reg.FAB_CFG.COPY_EN, 1), (Reg.FAB_NS_EN_LO.EN, 2), (Reg.ZMG_NS_CFG.TYPE 1, 2), (Reg.ZMG_NS_CFG.LBAF 1, 0), (Reg.ZMG_NS_ZONES.FIRST 1, 3), (Reg.ZMG_NS_COUNT.COUNT 1, 2), (Reg.ZMG_ZTBL_HI.ADDR, 16), (Reg.CMD_RSV.ADMIN, 256), (Reg.CMD_RSV.SAS, 4096), (Reg.FAB_RT.VALID 5, 1), (Reg.FAB_RT.PORT 5, 1)] : State), by decide +kernel⟩,
    ⟨((1 : Nat)), ((0 : Nat)), ((⟨7, 1, 5, 20, 1, 2, 3, 0, 3 + 2 ^ 20, 0, []⟩ : Frame)), ((fun (f : Frame) => (wireOf f : List Nat)) ((⟨7, 1, 5, 20, 1, 2, 3, 0, 3 + 2 ^ 20, 0, []⟩ : Frame))), (at_ [(Reg.FAB_CFG.NODE, 7), (Reg.FAB_CFG.EN, 1), (Reg.FAB_PORT_STAT.UP 1, 1), (Reg.CMD_CTL.EN, 1), (Reg.SYS_MODE.CUR, 3), (Reg.FAB_CFG.APP_EN, 1), (Reg.FAB_CFG.READ_EN, 1), (Reg.FAB_CFG.COPY_EN, 1), (Reg.FAB_NS_EN_LO.EN, 2), (Reg.ZMG_NS_CFG.TYPE 1, 2), (Reg.ZMG_NS_CFG.LBAF 1, 0), (Reg.ZMG_NS_ZONES.FIRST 1, 3), (Reg.ZMG_NS_COUNT.COUNT 1, 2), (Reg.ZMG_ZTBL_HI.ADDR, 16), (Reg.CMD_RSV.ADMIN, 256), (Reg.CMD_RSV.SAS, 4096)] : State), by decide +kernel⟩,
    ⟨((1 : Nat)), ((0 : Nat)), ((⟨7, 1, 5, 20, 1, 2, 3, 0, 3 + 2 ^ 20, 0, []⟩ : Frame)), ((fun (f : Frame) => (wireOf f : List Nat)) ((⟨7, 1, 5, 20, 1, 2, 3, 0, 3 + 2 ^ 20, 0, []⟩ : Frame))), (at_ [(Reg.FAB_CFG.NODE, 7), (Reg.FAB_CFG.EN, 1), (Reg.FAB_PORT_STAT.UP 1, 1), (Reg.CMD_CTL.EN, 1), (Reg.SYS_MODE.CUR, 3), (Reg.FAB_CFG.APP_EN, 1), (Reg.FAB_CFG.READ_EN, 1), (Reg.FAB_CFG.COPY_EN, 1), (Reg.FAB_NS_EN_LO.EN, 2), (Reg.ZMG_NS_CFG.TYPE 1, 2), (Reg.ZMG_NS_CFG.LBAF 1, 0), (Reg.ZMG_NS_ZONES.FIRST 1, 3), (Reg.ZMG_NS_COUNT.COUNT 1, 2), (Reg.ZMG_ZTBL_HI.ADDR, 16), (Reg.CMD_RSV.ADMIN, 256), (Reg.CMD_RSV.SAS, 4096), (Reg.FAB_RT.VALID 5, 1), (Reg.FAB_RT.PORT 5, 1)] : State), by decide +kernel⟩,
    ⟨((1 : Nat)), ((0 : Nat)), ((⟨7, 1, 5, 17, 1, 2, 3, 0, 4096, 0, List.replicate 8 1⟩ : Frame)), ((fun (f : Frame) => (wireOf f : List Nat)) ((⟨7, 1, 5, 17, 1, 2, 3, 0, 4096, 0, List.replicate 8 1⟩ : Frame))), (({ src := 5, tag := 3, type := 0x10, stamp := 9, total := 8192, come := 4096, data := 1 } : FabWork)), ((fun (w : FabWork) => ({ at_ [(Reg.FAB_CFG.NODE, 7), (Reg.FAB_CFG.EN, 1), (Reg.FAB_PORT_STAT.UP 1, 1)] with fab := { work := [w] } } : State)) (({ src := 5, tag := 3, type := 0x10, stamp := 9, total := 8192, come := 4096, data := 1 } : FabWork))), by decide +kernel⟩,
    ⟨((1 : Nat)), ((0 : Nat)), ((⟨7, 1, 5, 17, 1, 2, 3, 0, 0, 0, [1, 2, 3]⟩ : Frame)), ((fun (f : Frame) => (wireOf f : List Nat)) ((⟨7, 1, 5, 17, 1, 2, 3, 0, 0, 0, [1, 2, 3]⟩ : Frame))), ({ at_ [(Reg.FAB_CFG.NODE, 7), (Reg.FAB_CFG.EN, 1), (Reg.FAB_PORT_STAT.UP 1, 1)] with fab := { work := [{ src := 5, tag := 3, type := 0x10, stamp := 9, total := 8192, come := 4096, data := 1 }] } } : State), by decide +kernel⟩,
    ⟨((5 : Nat)), ((3 : Nat)), ((100 : Nat)), (({ src := 5, tag := 3, type := 0x10, stamp := 9, total := 8192, come := 4096, data := 1 } : FabWork)), ((fun (w : FabWork) => ({ at_ [(Reg.FAB_CFG.NODE, 7), (Reg.FAB_CFG.EN, 1), (Reg.FAB_PORT_STAT.UP 1, 1)] with fab := { work := [w] } } : State)) (({ src := 5, tag := 3, type := 0x10, stamp := 9, total := 8192, come := 4096, data := 1 } : FabWork))), by decide +kernel⟩,
    ⟨((1 : Nat)), ((0 : Nat)), ((⟨7, 0, 5, 22, 1, 2, 3, 0, 0, 0, []⟩ : Frame)), ((fun (f : Frame) => (wireOf f : List Nat)) ((⟨7, 0, 5, 22, 1, 2, 3, 0, 0, 0, []⟩ : Frame))), (at_ [(Reg.FAB_CFG.NODE, 7), (Reg.FAB_CFG.EN, 1), (Reg.FAB_PORT_STAT.UP 1, 1), (Reg.FAB_RT.VALID 5, 1), (Reg.FAB_RT.PORT 5, 1)] : State), by decide +kernel⟩,
    ⟨((1 : Nat)), ((0 : Nat)), ((⟨7, 0, 5, 22, 1, 2, 3, 0, 0, 0, []⟩ : Frame)), ((fun (f : Frame) => (wireOf f : List Nat)) ((⟨7, 0, 5, 22, 1, 2, 3, 0, 0, 0, []⟩ : Frame))), (at_ [(Reg.FAB_CFG.NODE, 7), (Reg.FAB_CFG.EN, 1), (Reg.FAB_PORT_STAT.UP 1, 1), (Reg.FAB_RT.VALID 5, 1), (Reg.FAB_RT.PORT 5, 1), (Reg.SYS_MODE.CUR, 3), (Reg.SEAL_STAT.PROV, 1), (Reg.SEAL_CTL.WIT_SERVE, 1), (Reg.SEAL_WIT_TMO.SERVE_RATE, 100)] : State), by decide +kernel⟩,
    ⟨((1 : Nat)), ((0 : Nat)), ((⟨7, 1, 5, 24, 1, 2, 3, 0, 2 ^ 63 + 0x20000000, 4, [1, 2, 3, 4]⟩ : Frame)), ((fun (f : Frame) => (wireOf f : List Nat)) ((⟨7, 1, 5, 24, 1, 2, 3, 0, 2 ^ 63 + 0x20000000, 4, [1, 2, 3, 4]⟩ : Frame))), (at_ [(Reg.FAB_CFG.NODE, 7), (Reg.FAB_CFG.EN, 1), (Reg.FAB_PORT_STAT.UP 1, 1), (Reg.PMU_DOM_STAT.ON, 0x1FFFFF), (Reg.SYS_PATH_CFG.FAB_EN, 1)] : State), by decide +kernel⟩,
    ⟨((1 : Nat)), ((0 : Nat)), ((⟨7, 1, 5, 24, 1, 2, 3, 0, 2 ^ 63 + 0x40000000, 4, [1, 0, 0, 0]⟩ : Frame)), ((fun (f : Frame) => (wireOf f : List Nat)) ((⟨7, 1, 5, 24, 1, 2, 3, 0, 2 ^ 63 + 0x40000000, 4, [1, 0, 0, 0]⟩ : Frame))), (at_ [(Reg.FAB_CFG.NODE, 7), (Reg.FAB_CFG.EN, 1), (Reg.FAB_PORT_STAT.UP 1, 1), (Reg.PMU_DOM_STAT.ON, 0x1FFFFF), (Reg.SYS_PATH_CFG.FAB_EN, 1)] : State), by decide +kernel⟩,
    ⟨((1 : Nat)), ((0 : Nat)), ((⟨7, 1, 5, 24, 1, 2, 3, 0, 0x20000000, 4, []⟩ : Frame)), ((fun (f : Frame) => (wireOf f : List Nat)) ((⟨7, 1, 5, 24, 1, 2, 3, 0, 0x20000000, 4, []⟩ : Frame))), ({ at_ [(Reg.FAB_CFG.NODE, 7), (Reg.FAB_CFG.EN, 1), (Reg.FAB_PORT_STAT.UP 1, 1), (Reg.PMU_DOM_STAT.ON, 0x1FFFFF), (Reg.FAB_RT.VALID 5, 1), (Reg.FAB_RT.PORT 5, 1), (Reg.SYS_PATH_CFG.FAB_EN, 1)] with mem := [(0x20000001, 5)] } : State), by decide +kernel⟩,
    ⟨((1 : Nat)), ((0 : Nat)), ((⟨7, 1, 5, 24, 1, 2, 3, 0, 0x20000000, 4, []⟩ : Frame)), ((fun (f : Frame) => (wireOf f : List Nat)) ((⟨7, 1, 5, 24, 1, 2, 3, 0, 0x20000000, 4, []⟩ : Frame))), (at_ [(Reg.FAB_CFG.NODE, 7), (Reg.FAB_CFG.EN, 1), (Reg.FAB_PORT_STAT.UP 1, 1), (Reg.PMU_DOM_STAT.ON, 0x1FFFFF), (Reg.FAB_RT.VALID 5, 1), (Reg.FAB_RT.PORT 5, 1), (Reg.SYS_PATH_CFG.FAB_EN, 0)] : State), by decide +kernel⟩,
    ⟨((3 : Nat)), (at_ [] : State), by decide +kernel⟩,
    ⟨((1 : Nat)), ({ at_ [(Reg.FAB_CFG.NODE, 7), (Reg.FAB_CFG.EN, 1), (Reg.FAB_PORT_STAT.UP 1, 1), (Reg.FAB_RT.VALID 5, 1), (Reg.FAB_RT.PORT 5, 1), (Reg.FAB_RING_LO.ADDR, 0x8000), (Reg.FAB_RING_HI.ADDR, 0)] with mem := [(0x20000000, 0x12), (0x20000002, 5)] } : State), by decide +kernel⟩,
    ⟨({ at_ [(Reg.FAB_CFG.NODE, 7), (Reg.FAB_CFG.EN, 1), (Reg.FAB_PORT_STAT.UP 1, 1), (Reg.FAB_RT.VALID 5, 1), (Reg.FAB_RT.PORT 5, 1), (Reg.FAB_RING_LO.ADDR, 0x8000), (Reg.FAB_RING_HI.ADDR, 0)] with mem := [(0x20000000, 0x12), (0x20000002, 5)] } : State), by decide +kernel⟩,
    ⟨((1 : Nat)), ((0 : Nat)), ((⟨7, 1, 5, 146, 1, 2, 3, 0, 0, 0, []⟩ : Frame)), ((fun (f : Frame) => (wireOf f : List Nat)) ((⟨7, 1, 5, 146, 1, 2, 3, 0, 0, 0, []⟩ : Frame))), (at_ [(Reg.FAB_CFG.NODE, 7), (Reg.FAB_CFG.EN, 1), (Reg.FAB_PORT_STAT.UP 1, 1)] : State), by decide +kernel⟩,
    ⟨((1 : Nat)), ((0 : Nat)), ((⟨7, 1, 5, 146, 1, 0, 3, 0, 0, 0, []⟩ : Frame)), ((fun (f : Frame) => (wireOf f : List Nat)) ((⟨7, 1, 5, 146, 1, 0, 3, 0, 0, 0, []⟩ : Frame))), (({ idx := 0, tag := 3, frame := ⟨5, 1, 7, 18, 1, 2, 3, 0, 0, 0, []⟩, data := 0x20000000 } : FabReq)), ((fun (r : FabReq) => ({ at_ [(Reg.FAB_CFG.NODE, 7), (Reg.FAB_CFG.EN, 1), (Reg.FAB_PORT_STAT.UP 1, 1)] with fab := { reqs := [r] } } : State)) (({ idx := 0, tag := 3, frame := ⟨5, 1, 7, 18, 1, 2, 3, 0, 0, 0, []⟩, data := 0x20000000 } : FabReq))), by decide +kernel⟩,
    ⟨((1 : Nat)), ((0 : Nat)), ((⟨7, 1, 5, 146, 1, 2, 3, 0, 0, 0, []⟩ : Frame)), ((fun (f : Frame) => (wireOf f : List Nat)) ((⟨7, 1, 5, 146, 1, 2, 3, 0, 0, 0, []⟩ : Frame))), (({ idx := 0, tag := 3, frame := ⟨5, 1, 7, 18, 1, 2, 3, 0, 0, 0, []⟩, data := 0x20000000 } : FabReq)), ((fun (r : FabReq) => ({ at_ [(Reg.FAB_CFG.NODE, 7), (Reg.FAB_CFG.EN, 1), (Reg.FAB_PORT_STAT.UP 1, 1), (Reg.FAB_RING_LO.ADDR, 0x8000)] with fab := { reqs := [r] } } : State)) (({ idx := 0, tag := 3, frame := ⟨5, 1, 7, 18, 1, 2, 3, 0, 0, 0, []⟩, data := 0x20000000 } : FabReq))), by decide +kernel⟩,
    ⟨((1 : Nat)), ((0 : Nat)), ((⟨7, 1, 5, 150, 1, 2, 3, 0, 0, 0, []⟩ : Frame)), ((fun (f : Frame) => (wireOf f : List Nat)) ((⟨7, 1, 5, 150, 1, 2, 3, 0, 0, 0, []⟩ : Frame))), ({ at_ [(Reg.FAB_CFG.NODE, 7), (Reg.FAB_CFG.EN, 1), (Reg.FAB_PORT_STAT.UP 1, 1)] with seals := { wits := [{ peer := 5, seq := 7 }] } } : State), by decide +kernel⟩,
    ⟨((1 : Nat)), ((0 : Nat)), ((⟨7, 1, 5, 146, 1, 0, 3, 0, 0, 0, [1, 2, 3]⟩ : Frame)), ((fun (f : Frame) => (wireOf f : List Nat)) ((⟨7, 1, 5, 146, 1, 0, 3, 0, 0, 0, [1, 2, 3]⟩ : Frame))), (({ idx := 0, tag := 3, frame := ⟨5, 1, 7, 18, 1, 2, 3, 0, 0, 0, []⟩, data := 0x20000000 } : FabReq)), ((fun (r : FabReq) => ({ at_ [(Reg.FAB_CFG.NODE, 7), (Reg.FAB_CFG.EN, 1), (Reg.FAB_PORT_STAT.UP 1, 1)] with fab := { reqs := [r] } } : State)) (({ idx := 0, tag := 3, frame := ⟨5, 1, 7, 18, 1, 2, 3, 0, 0, 0, []⟩, data := 0x20000000 } : FabReq))), by decide +kernel⟩,
    ⟨((3 : Nat)), ((100 : Nat)), (({ idx := 0, tag := 3, frame := ⟨5, 1, 7, 18, 1, 2, 3, 0, 0, 0, []⟩, data := 0x20000000 } : FabReq)), ((fun (r : FabReq) => ({ at_ [(Reg.FAB_CFG.NODE, 7), (Reg.FAB_CFG.EN, 1), (Reg.FAB_PORT_STAT.UP 1, 1), (Reg.FAB_RT.VALID 5, 1), (Reg.FAB_RT.PORT 5, 1), (Reg.FAB_TMO.RETRY, 1)] with fab := { reqs := [r] } } : State)) (({ idx := 0, tag := 3, frame := ⟨5, 1, 7, 18, 1, 2, 3, 0, 0, 0, []⟩, data := 0x20000000 } : FabReq))), by decide +kernel⟩,
    ⟨((3 : Nat)), ((100 : Nat)), (({ idx := 0, tag := 3, frame := ⟨5, 1, 7, 16, 1, 2, 3, 0, 0, 0, []⟩, data := 0x20000000 } : FabReq)), ((fun (r : FabReq) => ({ at_ [(Reg.FAB_CFG.NODE, 7), (Reg.FAB_CFG.EN, 1), (Reg.FAB_PORT_STAT.UP 1, 1)] with fab := { reqs := [r] } } : State)) (({ idx := 0, tag := 3, frame := ⟨5, 1, 7, 16, 1, 2, 3, 0, 0, 0, []⟩, data := 0x20000000 } : FabReq))), by decide +kernel⟩⟩

/-- The hypotheses of AccumulatorIsRoundedAndSaturated, clause by clause, are met. -/
theorem witness_accumulator_is_rounded_and_saturated :
    (∃ (e pred a c : Nat) (x : Int) (s : State), (e < 5) ∧ (canIssue e 5 pred a c s = true) ∧ (predPasses e pred a s = true) ∧ ((ceOf e s).acc = x)) ∧
    (∃ (e pred a c : Nat) (x : Int) (s : State), (e < 5) ∧ (canIssue e 6 pred a c s = true) ∧ (predPasses e pred a s = true) ∧ ((ceOf e s).acc = x)) :=
  ⟨⟨((0 : Nat)), ((0 : Nat)), ((3 : Nat)), ((2 : Nat)), ((5 * 2 ^ 30 + 2 ^ 29 : Int)), ((fun (x : Int) => ({ at_ [(Reg.PMU_DOM_STAT.ON, 0x47), (Reg.CE_CTL.RUN 0, 1)] with ce := [(0, { prog := some ⟨0x4C454348, 0, 1, 1, 0, 0, 1, 0, List.replicate 64 0, List.replicate 32 0, List.replicate 16 (0, 0), [], [671187072]⟩, state := [(3, -7)], acc := x, ended := false })] } : State)) ((5 * 2 ^ 30 + 2 ^ 29 : Int))), by decide +kernel⟩,
    ⟨((0 : Nat)), ((0 : Nat)), ((3 : Nat)), ((2 : Nat)), ((5 * 2 ^ 30 + 2 ^ 29 : Int)), ((fun (x : Int) => ({ at_ [(Reg.PMU_DOM_STAT.ON, 0x47), (Reg.CE_CTL.RUN 0, 1)] with ce := [(0, { prog := some ⟨0x4C454348, 0, 1, 1, 0, 0, 1, 0, List.replicate 64 0, List.replicate 32 0, List.replicate 16 (0, 0), [], [805404800]⟩, state := [(3, -7)], acc := x, ended := false })] } : State)) ((5 * 2 ^ 30 + 2 ^ 29 : Int))), by decide +kernel⟩⟩

/-- The hypotheses of ErrorResponsesAreCaptured, clause by clause, are met. -/
theorem witness_error_responses_are_captured :
    (∃ (m addr n k : Nat) (s : State), (within regSpace addr 1 = true) ∧ (accessCause (pathOpen m s) addr n true s = some k) ∧ (get Reg.SYS_BUS_ERR_HI.VALID s = 0)) ∧
    (∃ (m addr n k : Nat) (s : State), (within regSpace addr 1 = true) ∧ (accessCause (pathOpen m s) addr n true s = some k) ∧ (get Reg.SYS_BUS_ERR_HI.VALID s = 1)) ∧
    (∃ (m addr n k : Nat) (w : Bool) (s : State), (accessCause (m != 14 || pathOpen 14 s) addr n w s = some k) ∧ (get Reg.SYS_BUS_ERR_HI.VALID s = 0)) ∧
    (∃ (m addr n k : Nat) (w : Bool) (s : State), (accessCause (m != 14 || pathOpen 14 s) addr n w s = some k) ∧ (get Reg.SYS_BUS_ERR_HI.VALID s = 1)) :=
  ⟨⟨((3 : Nat)), ((0x40000002 : Nat)), ((4 : Nat)), ((1 : Nat)), (at_ [(Reg.PMU_DOM_STAT.ON, 7), (Reg.SYS_BUS_ERR_HI.VALID, 0)] : State), by decide +kernel⟩,
    ⟨((3 : Nat)), ((0x40000002 : Nat)), ((4 : Nat)), ((1 : Nat)), (at_ [(Reg.PMU_DOM_STAT.ON, 7), (Reg.SYS_BUS_ERR_HI.VALID, 1)] : State), by decide +kernel⟩,
    ⟨((9 : Nat)), ((0x50000000000 : Nat)), ((8 : Nat)), ((0 : Nat)), ((true : Bool)), (at_ [(Reg.PMU_DOM_STAT.ON, 7), (Reg.SYS_BUS_ERR_HI.VALID, 0)] : State), by decide +kernel⟩,
    ⟨((9 : Nat)), ((0x50000000000 : Nat)), ((8 : Nat)), ((0 : Nat)), ((true : Bool)), (at_ [(Reg.PMU_DOM_STAT.ON, 7), (Reg.SYS_BUS_ERR_HI.VALID, 1)] : State), by decide +kernel⟩⟩

/-- The hypotheses of SeeksFollowTheActuatorState, clause by clause, are met. -/
theorem witness_seeks_follow_the_actuator_state :
    (∃ (a v : Nat) (s : State), (a < 2) ∧ (v.testBit 31 = true) ∧ (actState a s = 1)) ∧
    (∃ (a : Nat) (s : State), (a < 2) ∧ (actState a s = 1) ∧ (4 ≤ (actOf a s).validRow) ∧ ((actOf a s).goHeld = true) ∧ (get (Reg.ACT_CTL.UNLOAD a) s = 0) ∧ (badTarget a s = false)) ∧
    (∃ (a v : Nat) (s : State), (a < 2) ∧ (v.testBit 31 = true) ∧ (actState a s = 0 ∨ actState a s = 6 ∨ actState a s = 7 ∨ actState a s = 8)) :=
  ⟨⟨((1 : Nat)), ((0x83000005 : Nat)), ((fun (a : Nat) => ({ at_ [(Reg.ACT_STAT.STATE a, 1)] with act := [(a, { goHeld := true })] } : State)) ((1 : Nat))), by decide +kernel⟩,
    ⟨((1 : Nat)), ((fun (a : Nat) => ({ at_ [(Reg.ACT_STAT.STATE a, 1), (Reg.ACT_CTL.UNLOAD a, 0), (Reg.ACT_LOAD.HOME a, 9), (Reg.ACT_SEEK.TRACK a, 77), (Reg.ACT_MAXTRK.MAX a, 1000), (Reg.ACT_HEADS.HEAD1 a, 12 * a + 3), (Reg.ACT_HEADS.HEAD2 a, 31), (Reg.ACT_SEEK.WRITE a, 0)] with act := [(a, { validRow := 4, acqHead := 12 * a, goHeld := true })] } : State)) ((1 : Nat))), by decide +kernel⟩,
    ⟨((1 : Nat)), ((0x83000005 : Nat)), ((fun (a : Nat) => (at_ [(Reg.ACT_STAT.STATE a, 8)] : State)) ((1 : Nat))), by decide +kernel⟩⟩

/-- The hypotheses of RetractTimeoutEndsInFault, clause by clause, are met. -/
theorem witness_retract_timeout_ends_in_fault :
    (∃ (s : State), (retractReq s = true) ∧ ((stgOf 0 s).retractDone = false) ∧ (mode s ≠ 5) ∧ (200 * get Reg.SPN_TIMEOUT.RETRACT_MS s ≤ tmpCount s - s.spn.retractAt)) ∧
    (∃ (s : State), (mode s = 5)) :=
  ⟨⟨(at_ [(Reg.SPN_STAT.STATE, 11), (Reg.SPN_TIMEOUT.RETRACT_MS, 2000), (Reg.TMP_COUNT_LO.COUNT, 400000)] : State), by decide +kernel⟩,
    ⟨(at_ [(Reg.SYS_MODE.CUR, 5), (Reg.SPN_STAT.STATE, 11)] : State), by decide +kernel⟩⟩

/-- The hypotheses of HopStormsTripTheHead, clause by clause, are met. -/
theorem witness_hop_storms_trip_the_head :
    ∃ (x : Nat) (s : State), (x < 24) ∧ (1 ≤ asxState x s) ∧ (asxState x s ≤ 4) ∧ (get Reg.ASX_HOP_CFG.STORM s < ((asxOf x s).hopAt.filter (fun n => tmpCount s < n + 200000)).length) :=
  ⟨((23 : Nat)), ((fun (x : Nat) => ({ at_ [(Reg.ASX_HSTAT.STATE x, 3), (Reg.ASX_HOP_CFG.STORM, 1)] with asx := [(x, { hopAt := [4, 5] })] } : State)) ((23 : Nat))), by decide +kernel⟩

end Sys2Proof.Tests
end

/-! SUPPORT. Proofs of the obligations of the scope family (00_scope.md). -/

namespace Sys2Proof.Machine

open Sys2Proof

/-! ### The reset column -/

/-- Settles O6: no register is listed at reset, so each field reads the Reset value of its table row. -/
theorem resetLeavesTheResetColumn : Obligations.ResetLeavesTheResetColumn := by
  have unlisted (f : Fld) : get f State.reset = f.rst := rfl
  exact ⟨unlisted, unlisted _, unlisted _, unlisted _, unlisted _, unlisted _, unlisted _, unlisted _, unlisted _, unlisted _⟩

/-! ### Commands that complete -/

/-- A command completes with the state that its meaning answers. -/
theorem Gives.of_next {i : Instr} {s t : State} {P : State → Prop} (h : exec i s = .next t) (hP : P t) : Gives i s P := ⟨t, h, hP⟩

/-- An event whose condition holds occurs. -/
theorem occurs_of {c : Prop} [Decidable c] {t s : State} (h : c) : occurs c t s = .next t := by rw [occurs, if_pos h]

/-- A command of a unit that the device has. -/
theorem unit_of_lt {i n : Nat} {o : Out} (h : i < n) : unit i n o = o := if_pos h

/-! ### Unpairing an actuator -/

/-- An UNPAIR outside a sector is a fallback with cause 6. -/
theorem exec_actUnpair_idle {a : Nat} {s : State} (ha : a < 2) (hp : get (Reg.ACT_STAT.PAIRED a) s = 1)
    (hb : get (Reg.HCH_STAT.BUSY (streamOf a 2 s)) s = 0) : exec (.actUnpair a) s = .next (pairFallback a 6 s) := by
  rw [show exec (.actUnpair a) s = execActUnpair a s from rfl, execActUnpair, unit_of_lt ha, occurs_of hp, if_neg (by omega)]

/-- Actuator A is paired with a head 2 of number 4,088. A head's ASX_HSTAT stands at a stride of 32 bytes, which for this number ends at
HLK_CTL[0], whose EN reads 1. -/
def strayHeadPaired : State :=
  { regs := [((Reg.ACT_STAT.PAIRED 0).key, 1), ((Reg.HLK_CTL.EN 0).key, 1)], act := [(0, { head2 := 4088 })] }

/-- The fallback turns the assist of head 2 off, and with a stray head it clears HLK_CTL[0].EN. -/
theorem strayHead_fallback_clears_link : get (Reg.HLK_CTL.EN 0) (pairFallback 0 6 strayHeadPaired) = 0 := by decide +kernel

/-- Refutes O30: the clause of an UNPAIR outside a sector bounds the change to blocks 5 to 7 for every state, also where the record of the
actuator holds a head 2 that no assist has, and there block 8 changes. -/
theorem not_actuatorLoadsAndUnloads : ¬ Obligations.ActuatorLoadsAndUnloads := by
  unfold Obligations.ActuatorLoadsAndUnloads
  rintro ⟨-, -, -, -, -, -, -, -, -, -, -, -, -, -, -, -, -, -, -, unpair, -⟩
  have paired : get (Reg.ACT_STAT.PAIRED 0) strayHeadPaired = 1 := by decide
  have idle : get (Reg.HCH_STAT.BUSY (streamOf 0 2 strayHeadPaired)) strayHeadPaired = 0 := by decide
  obtain ⟨t, ht, -, -, -, -, outside, -⟩ := unpair 0 strayHeadPaired (by decide) paired idle
  obtain rfl : pairFallback 0 6 strayHeadPaired = t := by
    rw [exec_actUnpair_idle (by decide) paired idle] at ht
    exact Host.Outcome.next.inj ht
  have kept : get (Reg.HLK_CTL.EN 0) (pairFallback 0 6 strayHeadPaired) = 1 := outside (Reg.HLK_CTL.EN 0) (by decide)
  rw [strayHead_fallback_clears_link] at kept
  exact absurd kept (by decide)

end Sys2Proof.Machine

namespace Sys2Proof.Machine

open Sys2Proof

/-! ### What a reset keeps -/

/-- Filtering a map by its keys keeps an entry or drops it. -/
theorem lookup_filter_key {α : Type} (p : Nat → Bool) (k : Nat) (m : AMap α) :
    AMap.lookup k (m.filter (fun x => p x.1)) = if p k then AMap.lookup k m else none := by
  induction m with
  | nil => simp [AMap.lookup]
  | cons x m ih =>
    obtain ⟨j, v⟩ := x
    by_cases e : k = j
    · subst e
      by_cases h : p k = true <;> simp [AMap.lookup, h, ih]
    · by_cases h : p j = true <;> simp [AMap.lookup, h, e, ih]

theorem getD_filter_key {α : Type} (p : Nat → Bool) (k : Nat) (d : α) (m : AMap α) :
    AMap.getD (m.filter (fun x => p x.1)) k d = if p k then AMap.getD m k d else d := by
  unfold AMap.getD
  rw [lookup_filter_key]
  split <;> rfl

/-- Registers, memory, pins and the boot's record are as before. -/
structure OutsideKept (s t : State) : Prop where
  regs : t.regs = s.regs
  mem : t.mem = s.mem
  pins : t.pins = s.pins
  boot : t.boot = s.boot

theorem OutsideKept.ite {c : Prop} [Decidable c] {s t u : State} (h : OutsideKept s t) (k : OutsideKept s u) :
    OutsideKept s (if c then t else u) := by
  split <;> assumption

/-- A domain that goes off loses only what it holds beside them. -/
theorem hiddenOff_outsideKept (d : Nat) (s : State) : OutsideKept s (hiddenOff d s) := by
  unfold hiddenOff
  repeat' apply OutsideKept.ite
  all_goals exact ⟨rfl, rfl, rfl, rfl⟩

theorem hiddenOffs_outsideKept (l : List Nat) (s : State) : OutsideKept s (l.foldl (fun t d => hiddenOff d t) s) := by
  induction l generalizing s with
  | nil => exact ⟨rfl, rfl, rfl, rfl⟩
  | cons d l ih =>
    have h := hiddenOff_outsideKept d s
    have k := ih (hiddenOff d s)
    exact ⟨k.regs.trans h.regs, k.mem.trans h.mem, k.pins.trans h.pins, k.boot.trans h.boot⟩

theorem hiddenReset_outsideKept (s : State) : OutsideKept s (hiddenReset s) := by
  have h := hiddenOffs_outsideKept (0 :: domOrder) s
  exact ⟨h.regs, h.mem, h.pins, h.boot⟩

section ResetState

variable (keep : Nat → Bool) (cause : Nat) (s : State)

/-- After a reset a field that it keeps reads as before, every other one its Reset value (R10, R59). -/
theorem get_resetState (f : Fld) : get f (resetState keep cause s) = if keep f.key then get f s else f.rst := by
  show AMap.getD ((hiddenReset s).regs.filter (fun p => keep p.1)) f.key f.rst = _
  rw [getD_filter_key, (hiddenReset_outsideKept s).regs]
  rfl

/-- After a reset MRAM reads as before and other memory 0 (R59). -/
theorem resetState_memKept : MemKept (· == 1) s (resetState keep cause s) := by
  intro a
  show AMap.getD ((hiddenReset s).mem.filter (fun c => memDomain c.1 == 1)) a 0 = _
  rw [getD_filter_key (fun a => memDomain a == 1), (hiddenReset_outsideKept s).mem]
  rfl

@[simp] theorem resetState_pins : (resetState keep cause s).pins = s.pins := (hiddenReset_outsideKept s).pins
@[simp] theorem resetState_ctxs : (resetState keep cause s).cmd.ctxs = [] := rfl
@[simp] theorem resetState_cause : (resetState keep cause s).boot.cause = cause := rfl
@[simp] theorem resetState_awaitBoot : (resetState keep cause s).boot.awaitBoot = false := rfl
@[simp] theorem resetState_image : (resetState keep cause s).boot.image = none := rfl

@[simp] theorem resetState_trialFailed : (resetState keep cause s).boot.trialFailed = s.boot.trialFailed := by
  rw [← (hiddenReset_outsideKept s).boot]
  rfl

@[simp] theorem resetState_wokeBy : (resetState keep cause s).boot.wokeBy = s.boot.wokeBy := by
  rw [← (hiddenReset_outsideKept s).boot]
  rfl

end ResetState

/-! ### Registers that follow pins, fuses and clocks -/

/-- The fields that a reset writes after it: those that follow pins, straps and fuses (R10), and the domains that are on. -/
def pinFields : List Fld :=
  [Reg.SMB_CFG.ADDR, Reg.BOOT_KEY_STAT.PROG, Reg.BOOT_KEY_STAT.REVOKED, Reg.HPC_LINK.PERST, Reg.SYS_CLK_STAT.REFCLK_OK,
   Reg.SYS_CLK_STAT.CALREF_OK, Reg.FAB_UID_LO.UID, Reg.FAB_UID_HI.UID, Reg.SEAL_STAT.PROV, Reg.PMU_DOM_CTL.ON, Reg.PMU_DOM_STAT.ON]

/-- Writes of fields change nothing but registers. -/
theorem put_onlyRegisters (f : Fld) (v : Nat) (s : State) : OnlyRegisters s (put f v s) := rfl

theorem puts_onlyRegisters (l : List (Fld × Nat)) (s : State) : OnlyRegisters s (puts l s) := by
  induction l generalizing s with
  | nil => rfl
  | cons p l ih => exact ih (put p.1 p.2 s)

theorem heldDomains_onlyRegisters (s : State) : OnlyRegisters s (heldDomains s) := by
  unfold heldDomains
  repeat' split
  all_goals exact puts_onlyRegisters _ s

/-- The domains are all that a held reset writes. -/
theorem get_heldDomains {f : Fld} (h : f.key ∉ [Reg.PMU_DOM_CTL.ON, Reg.PMU_DOM_STAT.ON].map Fld.key) (s : State) :
    get f (heldDomains s) = get f s := by
  unfold heldDomains
  repeat' split
  all_goals exact get_puts_ne (by simpa using h) s

/-- What the pins and fuses show is among the fields that follow them. -/
theorem get_showPins {f : Fld} (h : f.key ∉ pinFields.map Fld.key) (s : State) : get f (showPins s) = get f s := by
  simp only [pinFields, List.map_cons, List.map_nil, List.mem_cons, List.not_mem_nil, or_false, not_or] at h
  exact get_puts_ne (by simp [h]) s

@[simp] theorem get_setBoot (f : Fld) (r : BootSt) (s : State) : get f (setBoot r s) = get f s := rfl

/-- On the way to the boot ROM the cause is recorded beside them (R59). -/
theorem get_toBoot {f : Fld} (h : f.key ∉ pinFields.map Fld.key) (s : State) :
    get f (toBoot s) = get f (put (causeFld s.boot.cause) 1 (heldDomains s)) := by
  unfold toBoot
  rw [get_post, get_setBoot, get_showPins h]

end Sys2Proof.Machine

namespace Sys2Proof.Machine

open Sys2Proof

/-! ### A reset as pin (R59) -/

theorem OnlyRegisters.trans {s t u : State} (h : OnlyRegisters s t) (k : OnlyRegisters t u) : OnlyRegisters s u :=
  Eq.trans k (congrArg (fun x : State => { x with regs := u.regs }) h)

/-- What a reset has left in memory, pins and commands stays as registers are written after it. -/
structure ResetStands (s t : State) : Prop where
  mem : t.mem = s.mem
  pins : t.pins = s.pins
  cmd : t.cmd = s.cmd

theorem ResetStands.trans {s t u : State} (h : ResetStands s t) (k : ResetStands t u) : ResetStands s u :=
  ⟨k.mem.trans h.mem, k.pins.trans h.pins, k.cmd.trans h.cmd⟩

theorem OnlyRegisters.boot {s t : State} (h : OnlyRegisters s t) : t.boot = s.boot := by rw [h]

theorem OnlyRegisters.resetStands {s t : State} (h : OnlyRegisters s t) : ResetStands s t := by
  constructor <;> rw [h]

/-- The registers are all that a reset's end writes before the event of R39. -/
theorem bringup_onlyRegisters (s : State) : OnlyRegisters s (showPins (put (causeFld s.boot.cause) 1 (heldDomains s))) :=
  have cause : OnlyRegisters s (put (causeFld s.boot.cause) 1 (heldDomains s)) := (heldDomains_onlyRegisters s).trans (put_onlyRegisters ..)
  cause.trans (puts_onlyRegisters _ _)

/-- The event of R39 and the boot's record leave it too. -/
theorem booted_resetStands (c u : Nat) (l : List Nat) (b : BootSt) (s : State) : ResetStands s (post c u l (setBoot b s)) := ⟨rfl, rfl, rfl⟩
theorem booted_boot (c u : Nat) (l : List Nat) (b : BootSt) (s : State) : (post c u l (setBoot b s)).boot = b := rfl

theorem toBoot_resetStands (s : State) : ResetStands s (toBoot s) :=
  (bringup_onlyRegisters s).resetStands.trans (booted_resetStands ..)

theorem toBoot_boot (s : State) : (toBoot s).boot = { s.boot with awaitBoot := true, oldMode := none } := by
  unfold toBoot
  dsimp only
  rw [booted_boot, (bringup_onlyRegisters s).boot]

section PinReset

variable (cause : Nat) (s : State)

/-- A reset leaves BRINGUP in SYS_MODE, so that a pin reset ends with the boot ROM to run once the pins are good. -/
theorem pinReset_eq : pinReset cause s =
    if pinsGood s then toBoot (resetState keepsPin cause s) else heldDomains (resetState keepsPin cause s) := by
  have hm : mode (resetState keepsPin cause s) = 2 := by
    show get Reg.SYS_MODE.CUR _ = _
    rw [get_resetState, if_neg (by decide)]
    rfl
  have hp : pinsGood (resetState keepsPin cause s) = pinsGood s := by rw [pinsGood, resetState_pins, pinsGood]
  rw [pinReset, bootDue, hm, hp]
  simp

theorem pinReset_resetStands : ResetStands (resetState keepsPin cause s) (pinReset cause s) := by
  rw [pinReset_eq]
  split
  · exact toBoot_resetStands _
  · exact (heldDomains_onlyRegisters _).resetStands

@[simp] theorem pinReset_pins : (pinReset cause s).pins = s.pins := (pinReset_resetStands cause s).pins.trans (resetState_pins ..)
@[simp] theorem pinReset_ctxs : (pinReset cause s).cmd.ctxs = [] := congrArg CmdSt.ctxs (pinReset_resetStands cause s).cmd

/-- The boot's record after a pin reset is that of the reset, and the boot ROM is to run where the pins are good. -/
theorem pinReset_boot : (pinReset cause s).boot =
    if pinsGood s then { (resetState keepsPin cause s).boot with awaitBoot := true, oldMode := none }
    else (resetState keepsPin cause s).boot := by
  rw [pinReset_eq]
  split
  · exact toBoot_boot _
  · exact (heldDomains_onlyRegisters _).boot

theorem pinReset_awaitBoot : (pinReset cause s).boot.awaitBoot = pinsGood s := by
  rw [pinReset_boot]
  cases pinsGood s <;> rfl

theorem pinReset_image : (pinReset cause s).boot.image = none := by
  rw [pinReset_boot]
  cases pinsGood s <;> rfl

@[simp] theorem pinReset_trialFailed : (pinReset cause s).boot.trialFailed = s.boot.trialFailed := by
  rw [pinReset_boot]
  split <;> exact resetState_trialFailed keepsPin cause s

@[simp] theorem pinReset_wokeBy : (pinReset cause s).boot.wokeBy = s.boot.wokeBy := by
  rw [pinReset_boot]
  split <;> exact resetState_wokeBy keepsPin cause s

theorem pinReset_memKept : MemKept (· == 1) s (pinReset cause s) := by
  intro a
  rw [← resetState_memKept keepsPin cause s a, memByte, (pinReset_resetStands cause s).mem, memByte]

/-- The domain fields are among those that a reset writes after it. -/
theorem notMem_domFields {f : Fld} (h : f.key ∉ pinFields.map Fld.key) : f.key ∉ [Reg.PMU_DOM_CTL.ON, Reg.PMU_DOM_STAT.ON].map Fld.key := by
  simp only [pinFields, List.map_cons, List.map_nil, List.mem_cons, List.not_mem_nil, or_false, not_or] at h ⊢
  simp [h]

/-- A field that neither follows pins nor records the cause reads as the reset leaves it. -/
theorem get_pinReset {f : Fld} (h : f.key ∉ (pinFields ++ [causeFld cause]).map Fld.key) :
    get f (pinReset cause s) = if keepsPin f.key then get f s else f.rst := by
  simp only [List.map_append, List.mem_append, List.map_cons, List.map_nil, List.mem_singleton, not_or] at h
  obtain ⟨hp, hc⟩ := h
  rw [pinReset_eq, ← get_resetState keepsPin cause s f]
  split
  · rw [get_toBoot hp, resetState_cause, get_put_ne hc, get_heldDomains (notMem_domFields hp)]
  · exact get_heldDomains (notMem_domFields hp) _

/-- The cause is recorded where the pins are good (R59). -/
theorem get_pinReset_cause (hc : cause < 8) : get (causeFld cause) (pinReset cause s) =
    if pinsGood s = true then 1 else get (causeFld cause) s := by
  have cause_fields : ∀ c < 8, (causeFld c).key ∉ pinFields.map Fld.key ∧ keepsPin (causeFld c).key = true ∧ 1 % 2 ^ (causeFld c).width = 1 := by
    decide
  obtain ⟨hp, hk, hw⟩ := cause_fields cause hc
  rw [pinReset_eq]
  split
  · rw [get_toBoot hp, resetState_cause, get_put_self, hw]
  · rw [get_heldDomains (notMem_domFields hp), get_resetState, if_pos hk]

end PinReset

/-- What a reset as pin with a cause leaves (R59): the cause recorded and the boot ROM to run where the pins are good, no image and no command
context, every field that is not kept at Reset and every kept one as before, but for some, and MRAM. -/
structure PinResetDone (cause : Nat) (l : List Fld) (s t : State) : Prop where
  recorded : get (causeFld cause) t = if pinsGood s = true then 1 else get (causeFld cause) s
  awaitBoot : t.boot.awaitBoot = pinsGood s
  image : t.boot.image = none
  ctxs : t.cmd.ctxs = []
  atReset : AtReset keepsPin (pinFields ++ causeFld cause :: l) t
  kept : KeptFields keepsPin (pinFields ++ causeFld cause :: l) s t
  mem : MemKept (· == 1) s t

/-- A pin reset leaves that of every state with the same registers and memory and as good pins. -/
theorem pinReset_done {cause : Nat} (hc : cause < 8) {s s' : State} (hr : s'.regs = s.regs) (hm : s'.mem = s.mem)
    (hp : pinsGood s' = pinsGood s) : PinResetDone cause [] s (pinReset cause s') where
  recorded := by rw [get_pinReset_cause cause s' hc, hp, get_regs _ hr]
  awaitBoot := (pinReset_awaitBoot cause s').trans hp
  image := pinReset_image cause s'
  ctxs := pinReset_ctxs cause s'
  atReset f hk hf := by rw [get_pinReset cause s' hf, if_neg (by simp [hk])]
  kept f hk hf := by rw [get_pinReset cause s' hf, if_pos hk, get_regs f hr]
  mem a := by rw [pinReset_memKept cause s' a, memByte, hm, memByte]

/-- A field written after it is one more that is excepted. -/
theorem PinResetDone.put {cause : Nat} {s t : State} (h : PinResetDone cause [] s t) {g : Fld} (hg : (causeFld cause).key ≠ g.key) (v : Nat) :
    PinResetDone cause [g] s (put g v t) where
  recorded := by rw [get_put_ne hg, h.recorded]
  awaitBoot := h.awaitBoot
  image := h.image
  ctxs := h.ctxs
  atReset f hk hf := by
    simp only [List.map_append, List.mem_append, List.map_cons, List.map_nil, List.mem_cons, not_or] at hf
    obtain ⟨hp, hc, hne, -⟩ := hf
    rw [get_put_ne hne, h.atReset f hk (by simp [hp, hc])]
  kept f hk hf := by
    simp only [List.map_append, List.mem_append, List.map_cons, List.map_nil, List.mem_cons, not_or] at hf
    obtain ⟨hp, hc, hne, -⟩ := hf
    rw [get_put_ne hne, h.kept f hk (by simp [hp, hc])]
  mem := h.mem

/-- One more field may be excepted. -/
theorem PinResetDone.except {cause : Nat} {s t : State} (h : PinResetDone cause [] s t) (g : Fld) : PinResetDone cause [g] s t where
  recorded := h.recorded
  awaitBoot := h.awaitBoot
  image := h.image
  ctxs := h.ctxs
  atReset f hk hf := h.atReset f hk (fun hm => hf (by simp_all))
  kept f hk hf := h.kept f hk (fun hm => hf (by simp_all))
  mem := h.mem

/-! ### The rows that reset as pin -/

section Wake

variable {s : State} (hm : mode s = 1) (hp : s.pins.pfailN = true)
include hm hp

/-- An enabled wake event in STANDBY resets as pin, noting itself (R39, R59). -/
theorem exec_wakeEvent_gpio {n : Nat} (he : wakeEnabled (.gpio n) s = true) :
    exec (.wakeEvent (.gpio n)) s = .next (pinReset 6 (setBoot { s.boot with wokeBy := some (2 ^ wakeBit (.gpio n)) } s)) :=
  occurs_of ⟨hm, he, hp⟩

theorem exec_wakeEvent_perst (he : wakeEnabled .perst s = true) :
    exec (.wakeEvent .perst) s = .next (pinReset 6
      { setBoot { s.boot with wokeBy := some (2 ^ wakeBit .perst) } s with pins := { s.pins with perstN := true } }) :=
  occurs_of ⟨hm, he, hp⟩

theorem exec_wakeEvent_smb (he : wakeEnabled .smb s = true) :
    exec (.wakeEvent .smb) s = .next (put Reg.SMB_STAT.WAKE_RX 1
      (pinReset 6 (setBoot { s.boot with wokeBy := some (2 ^ wakeBit .smb) } s))) :=
  occurs_of ⟨hm, he, hp⟩

theorem gives_wakeEvent_gpio {n : Nat} (he : wakeEnabled (.gpio n) s = true) :
    Gives (.wakeEvent (.gpio n)) s (fun t => PinResetDone 6 [] s t ∧ t.boot.wokeBy = some (2 ^ wakeBit (.gpio n))) :=
  .of_next (exec_wakeEvent_gpio hm hp he) ⟨pinReset_done (by decide) rfl rfl rfl, pinReset_wokeBy ..⟩

theorem gives_wakeEvent_perst (he : wakeEnabled .perst s = true) :
    Gives (.wakeEvent .perst) s (fun t => PinResetDone 6 [] s t ∧ t.boot.wokeBy = some (2 ^ wakeBit .perst) ∧ t.pins.perstN = true) :=
  .of_next (exec_wakeEvent_perst hm hp he)
    ⟨pinReset_done (by decide) rfl rfl rfl, pinReset_wokeBy .., congrArg Pins.perstN (pinReset_pins ..)⟩

theorem gives_wakeEvent_smb (he : wakeEnabled .smb s = true) :
    Gives (.wakeEvent .smb) s (fun t => PinResetDone 6 [Reg.SMB_STAT.WAKE_RX] s t ∧ t.boot.wokeBy = some (2 ^ wakeBit .smb)
      ∧ get Reg.SMB_STAT.WAKE_RX t = 1) :=
  have base : PinResetDone 6 [] s (pinReset 6 (setBoot { s.boot with wokeBy := some (2 ^ wakeBit .smb) } s)) :=
    pinReset_done (by decide) rfl rfl rfl
  .of_next (exec_wakeEvent_smb hm hp he) ⟨base.put (by decide) 1, pinReset_wokeBy .., get_put_self ..⟩

end Wake

/-- A pin reset that holds the device leaves the same, but for the cause and the boot. -/
theorem heldReset_reset (cause : Nat) (s : State) :
    AtReset keepsPin [Reg.PMU_DOM_CTL.ON, Reg.PMU_DOM_STAT.ON] (heldReset cause s) ∧
    KeptFields keepsPin [Reg.PMU_DOM_CTL.ON, Reg.PMU_DOM_STAT.ON] s (heldReset cause s) := by
  constructor
  · intro f hk hf
    rw [heldReset, get_heldDomains hf, get_resetState, if_neg (by simp [hk])]
  · intro f hk hf
    rw [heldReset, get_heldDomains hf, get_resetState, if_pos hk]

theorem heldReset_frame (cause : Nat) (s : State) : ResetStands (resetState keepsPin cause s) (heldReset cause s)
    ∧ (heldReset cause s).boot = (resetState keepsPin cause s).boot :=
  have h := heldDomains_onlyRegisters (resetState keepsPin cause s)
  ⟨h.resetStands, h.boot⟩

/-- RESET_N low for 10 µs holds the device in reset, unless RESCUE runs (R507). -/
theorem exec_resetNAssert {n : Nat} {s : State} (hn : 10000 ≤ n) (hr : s.pins.resetN = true) :
    exec (.resetNAssert n) s = .next
      (if rescueRuns s then { s with pins := { s.pins with resetN := false }, boot := { s.boot with resetHeld := true } }
       else heldReset 1 { s with pins := { s.pins with resetN := false } }) :=
  occurs_of ⟨hn, hr⟩

/-- Settles O20: every row resets as pin from a state that differs from s in the boot's record and the pins alone. -/
theorem resetsReturnToReset : Obligations.ResetsReturnToReset := by
  unfold Obligations.ResetsReturnToReset
  refine ⟨?software, ?trial, ?gpio, ?perst, ?smb, ?wake, ?rescue, ?pin, ?pinHeld⟩
  case software =>
    intro v s hk hd hm
    have h : PinResetDone 2 [] s (pinReset 2 s) := pinReset_done (by decide) rfl rfl rfl
    exact .of_next (occurs_of ⟨by simpa [bits] using hk, hd, hm⟩)
      ⟨h.recorded, h.awaitBoot, h.image, h.ctxs, h.atReset, h.kept, h.mem⟩
  case trial =>
    intro n s hr hp hm hn
    have h : PinResetDone 4 [] s (pinReset 4 (setBoot { s.boot with trialFailed := some (get Reg.BOOT_STAT.SLOT s) } s)) :=
      pinReset_done (by decide) rfl rfl rfl
    exact .of_next (occurs_of ⟨hr, hp, hm, hn⟩)
      ⟨h.recorded, h.awaitBoot, h.image, h.ctxs, pinReset_trialFailed .., h.atReset, h.kept, h.mem⟩
  case gpio =>
    intro n s hn hm hp he hf
    have enabled : wakeEnabled (.gpio n) s = true := by simpa [wakeEnabled, hn, he] using hf
    obtain ⟨t, ht, h, hw⟩ := gives_wakeEvent_gpio hm hp enabled
    rw [wakeBit, Nat.mod_eq_of_lt hn] at hw
    exact .of_next ht ⟨h.recorded, h.awaitBoot, h.image, h.ctxs, hw, h.atReset, h.kept, h.mem⟩
  case perst =>
    intro s hm hp he
    obtain ⟨t, ht, h, hw, hl⟩ := gives_wakeEvent_perst hm hp (by simpa [wakeEnabled] using he)
    exact .of_next ht ⟨h.recorded, h.awaitBoot, h.image, h.ctxs, hw, hl, h.atReset, h.kept, h.mem⟩
  case smb =>
    intro s hm hp he
    obtain ⟨t, ht, h, hw, hx⟩ := gives_wakeEvent_smb hm hp (by simpa [wakeEnabled] using he)
    exact .of_next ht ⟨h.recorded, h.awaitBoot, h.image, h.ctxs, hw, hx, h.atReset, h.kept, h.mem⟩
  case wake =>
    intro x s hm he hp
    have woken : Gives (.wakeEvent x) s (fun t => PinResetDone 6 [Reg.SMB_STAT.WAKE_RX] s t ∧ t.boot.wokeBy = some (2 ^ wakeBit x)) := by
      cases x with
      | gpio n =>
        obtain ⟨t, ht, h, hw⟩ := gives_wakeEvent_gpio hm hp he
        exact ⟨t, ht, h.except _, hw⟩
      | perst =>
        obtain ⟨t, ht, h, hw, -⟩ := gives_wakeEvent_perst hm hp he
        exact ⟨t, ht, h.except _, hw⟩
      | smb =>
        obtain ⟨t, ht, h, hw, -⟩ := gives_wakeEvent_smb hm hp he
        exact ⟨t, ht, h, hw⟩
    obtain ⟨t, ht, h, hw⟩ := woken
    exact .of_next ht ⟨h.recorded, h.awaitBoot, h.image, h.ctxs, hw, h.atReset, h.kept, h.mem⟩
  case rescue =>
    intro n s hm hr hn
    have h : PinResetDone 5 [] s (pinReset 5 { s with pins := { s.pins with pfailN := true } }) := pinReset_done (by decide) rfl rfl rfl
    exact .of_next (occurs_of ⟨hm, hr, hn⟩)
      ⟨h.recorded, h.awaitBoot, h.image, h.ctxs, congrArg Pins.pfailN (pinReset_pins ..), h.atReset, h.kept, h.mem⟩
  case pin =>
    intro n s hn hr hx
    obtain ⟨atReset, kept⟩ := heldReset_reset 1 { s with pins := { s.pins with resetN := false } }
    obtain ⟨stands, boot⟩ := heldReset_frame 1 { s with pins := { s.pins with resetN := false } }
    refine .of_next ((exec_resetNAssert hn hr).trans (congrArg _ (if_neg (by simp [hx])))) ⟨?_, ?_, ?_, atReset, kept, ?_⟩
    · rw [stands.pins, resetState_pins]
    · rw [stands.cmd, resetState_ctxs]
    · rw [boot, resetState_awaitBoot]
    · intro a
      rw [memByte, stands.mem]
      exact resetState_memKept keepsPin 1 _ a
  case pinHeld =>
    intro n s hn hr hx
    exact .of_next ((exec_resetNAssert hn hr).trans (congrArg _ (if_pos hx))) ⟨rfl, rfl, rfl⟩

end Sys2Proof.Machine

namespace Sys2Proof.Machine

open Sys2Proof

/-! ### What an event leaves -/

theorem OnlyEvents.trans {s t u : State} (h : OnlyEvents s t) (k : OnlyEvents t u) : OnlyEvents s u :=
  Eq.trans k (congrArg (fun x : State => { x with regs := u.regs, sys := u.sys, evr := u.evr, sent := u.sent
                                                  host := { x.host with msixPend := u.host.msixPend } }) h)

theorem OnlyRegisters.onlyEvents {s t : State} (h : OnlyRegisters s t) : OnlyEvents s t := by
  unfold OnlyEvents
  rw [h]

theorem post_onlyEvents (c u : Nat) (l : List Nat) (s : State) : OnlyEvents s (post c u l s) := rfl
theorem respond_onlyEvents (r : BusResp) (s : State) : OnlyEvents s (respond r s) := rfl

theorem msix_onlyEvents (v : Nat) (s : State) : OnlyEvents s (msix v s) := by
  unfold msix
  split <;> rfl

theorem hostEdge_onlyEvents (s t : State) : OnlyEvents t (hostEdge s t) := by
  unfold hostEdge
  split
  · exact msix_onlyEvents 1024 t
  · rfl

@[simp] theorem get_respond (f : Fld) (r : BusResp) (s : State) : get f (respond r s) = get f s := rfl

/-! ### A field under a write of its word (R5, R6) -/

/-- The value that a field takes under a write of a word, by its access code and the one before. -/
def writtenValue (lkd : Bool) (word : Nat) (p : Fld × Access) (old : Nat) : Nat :=
  match p.2 with
  | .rw => bits word p.1.lo p.1.width
  | .ro => old
  | .wo => old
  | .rwl => if lkd then old else bits word p.1.lo p.1.width
  | .w1c => (old - (old &&& bits word p.1.lo p.1.width)) % 2 ^ p.1.width
  | .w1cn => if bits word p.1.lo p.1.width % 2 = 1 then 0 else old
  | .w1s => (old ||| bits word p.1.lo p.1.width) % 2 ^ p.1.width

section WrittenValue

variable (lkd : Bool) (word : Nat) (f : Fld) (old : Nat)

theorem writtenValue_rw : writtenValue lkd word (f, .rw) old = bits word f.lo f.width := rfl
theorem writtenValue_rwl : writtenValue lkd word (f, .rwl) old = if lkd then old else bits word f.lo f.width := rfl
theorem writtenValue_w1s : writtenValue lkd word (f, .w1s) old = (old ||| bits word f.lo f.width) % 2 ^ f.width := rfl
theorem writtenValue_w1c : writtenValue lkd word (f, .w1c) old = (old - (old &&& bits word f.lo f.width)) % 2 ^ f.width := rfl

end WrittenValue

/-- A bit field is cut to its width. -/
theorem bits_mod (v lo w : Nat) : bits v lo w % 2 ^ w = bits v lo w := Nat.mod_mod ..

section WriteField

variable (lkd : Bool) (word : Nat) (p : Fld × Access) (s : State)

theorem get_writeField_self : get p.1 (writeField lkd word p s) = writtenValue lkd word p (get p.1 s) := by
  obtain ⟨f, a⟩ := p
  cases a with
  | rw => exact (get_put_self ..).trans (bits_mod ..)
  | ro => rfl
  | wo => rfl
  | rwl =>
    cases lkd with
    | true => rfl
    | false => exact (get_put_self ..).trans (bits_mod ..)
  | w1c => exact get_put_self ..
  | w1cn =>
    simp only [writeField, writtenValue]
    split
    · rw [get_put_self, Nat.zero_mod]
    · rfl
  | w1s => exact get_put_self ..

/-- A write leaves what has another key, and everything where the field is read-only or write-only. -/
theorem get_writeField_kept {g : Fld} (h : g.key = p.1.key → p.2 = .ro ∨ p.2 = .wo) : get g (writeField lkd word p s) = get g s := by
  by_cases hk : g.key = p.1.key
  · rcases h hk with e | e <;> simp [writeField, e]
  · have kept (v : Nat) : get g (put p.1 v s) = get g s := get_put_ne hk v s
    obtain ⟨f, a⟩ := p
    cases a with
    | rw => exact kept _
    | ro => rfl
    | wo => rfl
    | rwl =>
      cases lkd with
      | true => rfl
      | false => exact kept _
    | w1c => exact kept _
    | w1cn =>
      simp only [writeField]
      split
      · exact kept 0
      · rfl
    | w1s => exact kept _

theorem writeField_onlyRegisters : OnlyRegisters s (writeField lkd word p s) := by
  obtain ⟨f, a⟩ := p
  cases a with
  | rwl => cases lkd <;> rfl
  | w1cn =>
    simp only [writeField]
    split <;> rfl
  | rw | ro | wo | w1c | w1s => rfl

end WriteField

section WriteFields

variable (lkd : Bool) (word : Nat)

theorem writeFields_onlyRegisters (l : List (Fld × Access)) (s : State) :
    OnlyRegisters s (l.foldl (fun t p => writeField lkd word p t) s) := by
  induction l generalizing s with
  | nil => rfl
  | cons p l ih => exact (writeField_onlyRegisters lkd word p s).trans (ih _)

theorem get_writeFields_kept {g : Fld} {l : List (Fld × Access)} (h : ∀ p ∈ l, g.key = p.1.key → p.2 = .ro ∨ p.2 = .wo) (s : State) :
    get g (l.foldl (fun t p => writeField lkd word p t) s) = get g s := by
  induction l generalizing s with
  | nil => rfl
  | cons p l ih =>
    rw [List.foldl_cons, ih (fun q hq => h q (List.mem_cons_of_mem _ hq)), get_writeField_kept lkd word p s (h p List.mem_cons_self)]

/-- Fields of distinct keys take their values one beside the other. -/
theorem get_writeFields_mem {l : List (Fld × Access)} (hl : (l.map (fun p => p.1.key)).Nodup) {p : Fld × Access} (hp : p ∈ l) (s : State) :
    get p.1 (l.foldl (fun t p => writeField lkd word p t) s) = writtenValue lkd word p (get p.1 s) := by
  induction l generalizing s with
  | nil => cases hp
  | cons q l ih =>
    rw [List.map_cons, List.nodup_cons] at hl
    obtain ⟨hq, hl⟩ := hl
    have apart {x : Fld × Access} (hx : x ∈ l) : x.1.key ≠ q.1.key := fun e => hq (e ▸ List.mem_map_of_mem hx)
    rw [List.foldl_cons]
    rcases List.mem_cons.1 hp with rfl | hp
    · rw [get_writeFields_kept lkd word (fun x hx e => absurd e.symm (apart hx)), get_writeField_self]
    · rw [ih hl hp, get_writeField_kept lkd word q s (fun e => absurd e (apart hp))]

end WriteFields

/-! ### A register word -/

/-- No register lists two fields at one bit. -/
theorem listed_lo_nodup : ∀ b < 32, ∀ d ∈ Reg.ofBlock b, (d.fields.map (fun p => p.1.lo)).Nodup := by decide +kernel

theorem ofBlock_of_ge (n : Nat) : Reg.ofBlock (n + 32) = [] := rfl

theorem ofBlock_lo_nodup (b : Nat) {d : RegDesc} (hd : d ∈ Reg.ofBlock b) : (d.fields.map (fun p => p.1.lo)).Nodup := by
  by_cases h : b < 32
  · exact listed_lo_nodup b h d hd
  · obtain ⟨n, rfl⟩ := Nat.exists_eq_add_of_le' (Nat.le_of_not_lt h)
    rw [ofBlock_of_ge] at hd
    exact absurd hd List.not_mem_nil

theorem mem_of_findReg {addr : Nat} {d : RegDesc} (h : findReg addr = some d) : d ∈ Reg.ofBlock (regBlock addr) := by
  unfold findReg at h
  exact List.mem_of_find?_eq_some h

theorem fieldAt_key (f : Fld) (addr : Nat) : (Reg.fieldAt f addr).key = addr * 32 + f.lo := rfl

/-- The definition of `fieldsAt` as one equation of functions: at a free address the kernel would evaluate the list of a block. -/
theorem fieldsAt_eq : fieldsAt = fun addr => match findReg addr with
    | none => []
    | some d => d.fields.map (fun p => (Reg.fieldAt p.1 addr, p.2)) := by
  delta fieldsAt
  exact rfl

/-- An address has no fields or those that its block lists. -/
theorem fieldsAt_cases (addr : Nat) : fieldsAt addr = [] ∨
    ∃ d ∈ Reg.ofBlock (regBlock addr), fieldsAt addr = d.fields.map (fun p => (Reg.fieldAt p.1 addr, p.2)) := by
  rw [congrFun fieldsAt_eq addr]
  have listed : ∀ d, findReg addr = some d → d ∈ Reg.ofBlock (regBlock addr) := fun d => mem_of_findReg
  generalize findReg addr = o at listed ⊢
  cases o with
  | none => exact .inl rfl
  | some d => exact .inr ⟨d, listed d rfl, rfl⟩

/-- The fields of the register at an address have distinct keys. -/
theorem fieldsAt_key_nodup (addr : Nat) : ((fieldsAt addr).map (fun p => p.1.key)).Nodup := by
  rcases fieldsAt_cases addr with e | ⟨d, hd, e⟩
  · rw [e]
    exact List.nodup_nil
  · have keys : (fieldsAt addr).map (fun p => p.1.key) = (d.fields.map (fun p => p.1.lo)).map (fun n => addr * 32 + n) := by
      simp [e, Function.comp_def, fieldAt_key]
    rw [keys]
    exact (ofBlock_lo_nodup _ hd).map (fun _ _ h => Nat.add_left_cancel h)

section WriteWord

variable (addr v : Nat) (s : State)

theorem get_writeWord_mem {p : Fld × Access} (hp : p ∈ fieldsAt addr) :
    get p.1 (writeWord addr v s) = writtenValue (isLocked addr s) v p (get p.1 s) :=
  get_writeFields_mem _ _ (fieldsAt_key_nodup addr) hp s

theorem get_writeWord_kept {g : Fld} (h : ∀ p ∈ fieldsAt addr, g.key = p.1.key → p.2 = .ro ∨ p.2 = .wo) :
    get g (writeWord addr v s) = get g s := get_writeFields_kept _ _ h s

/-- A plain write writes the word; beside registers it leaves no more than events (R5, R6, R525). -/
@[simp] theorem get_plainWrite (f : Fld) : get f (plainWrite addr v s) = get f (writeWord addr v s) := by
  unfold plainWrite
  dsimp only
  split <;> simp

theorem plainWrite_onlyEvents : OnlyEvents s (plainWrite addr v s) := by
  have written : OnlyEvents s (hostEdge s (writeWord addr v s)) :=
    (writeFields_onlyRegisters _ v (fieldsAt addr) s).onlyEvents.trans (hostEdge_onlyEvents s _)
  unfold plainWrite
  dsimp only
  split
  · exact written.trans (post_onlyEvents ..)
  · exact written

/-- A register without a write of its own is written plainly. -/
theorem writeReg_plain {m : Nat} (hw : ceWindow addr = false) (ho : (ownWrites m).find? (fun p => covers p.1 addr) = none) :
    writeReg m addr v s = plainWrite addr v s := by
  unfold writeReg
  rw [if_neg (Bool.eq_false_iff.1 hw)]
  split
  next p hp => rw [ho] at hp; cases hp
  next => rfl

end WriteWord

end Sys2Proof.Machine

namespace Sys2Proof.Machine

open Sys2Proof

/-! ### Memory without bits in error, poison and a flip (R385 to R396) -/

theorem unpoisonWord_clean {s : State} (hp : s.poison = []) (code w : Nat) : unpoisonWord code w s = s := by
  rw [unpoisonWord, hp, List.filter_nil, ← hp]

theorem isPoisoned_clean {s : State} (hp : s.poison = []) (code w : Nat) : isPoisoned code w s = false := by
  simp [isPoisoned, hp]

section Clean

variable {s : State} (hu : s.memp.upsets = []) (hp : s.poison = [])
include hu

theorem upsetOf_clean (code w : Nat) : upsetOf code w s = none := by rw [upsetOf, hu]; rfl

theorem clearUpset_clean (code w : Nat) : clearUpset code w s = s := by
  have erased : AMap.erase (upsetKey code w) s.memp.upsets = s.memp.upsets := by rw [hu]; rfl
  rw [clearUpset, erased]
  rfl

/-- Words without bits in error pass their checks as they are. -/
theorem loadChecks_clean (code a n : Nat) : loadChecks code a n s = s := by
  have passes (w : Nat) : checkWord code w false false s = s := by rw [checkWord, upsetOf_clean hu]
  have all (l : List Nat) : l.foldl (fun t w => checkWord code w false false t) s = s := by
    induction l with
    | nil => rfl
    | cons w l ih => rw [List.foldl_cons, passes, ih]
  exact all _

include hp

theorem writeWordOf_clean (code a n w : Nat) : writeWordOf code a n s w = s := by
  have read : rmwWord code w s = s := by
    rw [rmwWord, isPoisoned_clean hp, upsetOf_clean hu]
    rfl
  rw [writeWordOf, clearUpset_clean hu, unpoisonWord_clean hp, read, ite_self]

/-- A store into clean words leaves the bytes written and nothing else. -/
theorem storeBytes_clean (harm : get Reg.MEM_FLIP_CTL.ARM s = 0) (code a : Nat) (l : List Nat) : storeBytes code a l s = memWrite a l s := by
  have words (ws : List Nat) : ws.foldl (writeWordOf code a l.length) s = s := by
    induction ws with
    | nil => rfl
    | cons w ws ih => rw [List.foldl_cons, writeWordOf_clean hu hp, ih]
  have noHit : flipHits code a l.length (memWrite a l s) = false := by
    rw [flipHits, get_memWrite, harm]
    rfl
  rw [storeBytes, words, flip, noHit]
  rfl

end Clean

/-! ### Stores and loads of a master -/

/-- A store past the table cache writes the bytes; into the boot ROM there is none. -/
theorem busStore_clean {s : State} {a : Nat} {l : List Nat} (hu : s.memp.upsets = []) (hp : s.poison = [])
    (harm : get Reg.MEM_FLIP_CTL.ARM s = 0) (hc : memCode a = 1 → get Reg.TCH_CTL.EN s = 0) (h0 : memCode a = 0 → l = []) (m : Nat) :
    busStore m a l s = memWrite a l s := by
  unfold busStore
  dsimp only
  split
  next h => rw [h0 h]; rfl
  next =>
    rw [if_neg (fun h => by rw [hc h.1] at h; exact absurd h.2 (by decide))]
    exact storeBytes_clean hu hp harm _ a l

theorem busLoad_clean {s : State} {a : Nat} (hu : s.memp.upsets = []) (hc : memCode a = 1 → get Reg.TCH_CTL.EN s = 0) (m n : Nat) :
    busLoad m a n s = s := by
  unfold busLoad
  dsimp only
  split
  next => rfl
  next =>
    rw [if_neg (fun h => by rw [hc h.1] at h; exact absurd h.2 (by decide))]
    exact loadChecks_clean hu _ a n

theorem busBytes_clean {s : State} (hp : s.poison = []) (a n : Nat) : busBytes a n s = (memRead a n s, false) := by
  simp [busBytes, hp]

/-- A range reads as it was written. -/
theorem memRead_memWrite (a : Nat) (l : List Nat) (s : State) : memRead a l.length (memWrite a l s) = l.map (· % 256) := by
  apply List.ext_getElem
  · simp [memRead]
  · intro i hi _
    have hi : i < l.length := by simpa [memRead] using hi
    simp [memRead, memByte_memWrite_in (l := l) (a := a) (b := a + i) s (by omega), List.getElem?_eq_getElem hi]

/-- What a store of n bytes takes of the data that come. -/
def storedBytes (n : Nat) (l : List Nat) : List Nat := (l ++ List.replicate n 0).take n

@[simp] theorem storedBytes_length (n : Nat) (l : List Nat) : (storedBytes n l).length = n := by
  simp [storedBytes]

theorem storedBytes_self (l : List Nat) : storedBytes l.length l = l := by
  simp [storedBytes]

/-! ### One access (R16, R24, R25) -/

theorem within_iff {r : Nat × Nat} {a n : Nat} : within r a n = true ↔ r.1 ≤ a ∧ a + n ≤ r.2 := by
  simp [within]

theorem within_eq_false_iff {r : Nat × Nat} {a n : Nat} : within r a n = false ↔ ¬ (r.1 ≤ a ∧ a + n ≤ r.2) := by
  rw [← within_iff, Bool.not_eq_true]

theorem overlaps_iff {r : Nat × Nat} {a n : Nat} : overlaps r a n = true ↔ a < r.2 ∧ r.1 < a + max n 1 := by
  simp [overlaps]

section Access

variable {path : Bool} {m addr n : Nat} {w : Bool} {l : List Nat} {ups : List Upset} {s : State}

theorem access_error {c : Nat} (h : accessCause path addr n w s = some c) : access path m addr n w l ups s = busError m addr c w s := by
  rw [access, h]

theorem access_regWrite (h : accessCause path addr n true s = none) (hr : within regSpace addr 1 = true) :
    access path m addr n true l [] s = respond .done (writeReg m addr (ofBytes (l.take 4)) s) := by
  simp [access, h, hr]

theorem access_regRead (h : accessCause path addr n false s = none) (hr : within regSpace addr 1 = true) :
    access path m addr n false l [] s = respond (.data (bytesOf 4 (readReg m addr s).1) false) (readReg m addr s).2 := by
  simp [access, h, hr]

theorem access_memWrite (h : accessCause path addr n true s = none) (hr : within regSpace addr 1 = false) :
    access path m addr n true l ups s = respond .done (busStore m addr (storedBytes n l) (ups.foldl meetUpset s)) := by
  simp [access, h, hr, storedBytes]

theorem access_memRead (h : accessCause path addr n false s = none) (hr : within regSpace addr 1 = false) :
    access path m addr n false l ups s = respond (.data (busBytes addr n (busLoad m addr n (ups.foldl meetUpset s))).1
      (busBytes addr n (busLoad m addr n (ups.foldl meetUpset s))).2) (busLoad m addr n (ups.foldl meetUpset s)) := by
  simp [access, h, hr]

/-- No write of more than no bytes meets the boot ROM (R13, R16). -/
theorem eq_zero_of_memCode_zero (h : accessCause path addr n true s = none) (hc : memCode addr = 0) : n = 0 := by
  have ha : addr < 0x10000000 := by
    unfold memCode at hc
    split at hc
    · assumption
    · repeat' split at hc
      all_goals exact absurd hc (by decide)
  unfold accessCause at h
  dsimp only at h
  split at h
  · cases h
  split at h
  · cases h
  split at h
  · cases h
  next hrom =>
  split at h
  · cases h
  next hin =>
    simp only [Bool.true_and, overlaps_iff, Bool.and_eq_true, Bool.not_eq_true', within_eq_false_iff, memRegions, List.any_cons, List.any_nil,
      Bool.or_false, Bool.or_eq_false_iff, regSpace, dramSpace] at hrom hin
    omega

end Access

end Sys2Proof.Machine

namespace Sys2Proof.Machine

open Sys2Proof

/-! ### Which accesses meet no case (R16, R24) -/

/-- The path of a master is open, for one that has no enable of its own. -/
theorem pathOpen_of_ne {m : Nat} (h10 : m ≠ 10) (h13 : m ≠ 13) (h14 : m ≠ 14) (s : State) : pathOpen m s = true := by
  simp [pathOpen, h10, h13, h14]

theorem pathOpen_bar2 {s : State} (h : get Reg.SYS_PATH_CFG.BAR2_EN s = 1) : pathOpen 10 s = true := beq_iff_eq.2 h

theorem pathClosed_bar2 {s : State} (h : get Reg.SYS_PATH_CFG.BAR2_EN s = 0) : pathOpen 10 s = false :=
  beq_eq_false_iff_ne.2 (by rw [h]; exact Nat.zero_ne_one)

/-- The path of a memory access is judged for the debugger alone. -/
theorem memoryPath_of_ne {m : Nat} (h : m ≠ 14) (b : Bool) : (m != 14 || b) = true := by
  rw [bne_iff_ne.2 h, Bool.true_or]

theorem accessCause_closed (addr n : Nat) (w : Bool) (s : State) : accessCause false addr n w s = some 3 := rfl

/-- A word of a defined register meets no case while its domain is on. -/
theorem accessCause_register {path : Bool} {addr : Nat} {s : State} (hp : path = true) (hr : within regSpace addr 4 = true) (ha : addr % 4 = 0)
    (hd : domOn (regDomain addr) s = true) (hdef : isDefined addr = true) (w : Bool) : accessCause path addr 4 w s = none := by
  obtain ⟨hlo, hhi⟩ : 0x40000000 ≤ addr ∧ addr + 4 ≤ 0x40210000 := within_iff.1 hr
  have noRom : overlaps (0, 0x40000) addr 4 = false := by
    rw [← Bool.not_eq_true, overlaps_iff]
    omega
  have noDram : within dramSpace addr 4 = false := by
    rw [within_eq_false_iff, dramSpace]
    omega
  simp [accessCause, noRom, noDram, hp, hr, ha, hd, hdef]

/-- Bytes of MRAM meet no case while its domain is on. -/
theorem accessCause_mram {addr n : Nat} {s : State} (hlo : 0x30000000 ≤ addr) (hhi : addr + n ≤ 0x31000000)
    (hd : domOn 1 s = true) (w : Bool) : accessCause true addr n w s = none := by
  have noReg : overlaps regSpace addr n = false := by
    rw [← Bool.not_eq_true, overlaps_iff, regSpace]
    omega
  have noRom : overlaps (0, 0x40000) addr n = false := by
    rw [← Bool.not_eq_true, overlaps_iff]
    omega
  have outReg : within regSpace addr n = false := by
    rw [within_eq_false_iff, regSpace]
    omega
  have noDram : within dramSpace addr n = false := by
    rw [within_eq_false_iff, dramSpace]
    omega
  have inMem : memRegions.any (fun r => within r addr n) = true :=
    List.any_eq_true.2 ⟨(0x30000000, 0x31000000), by decide, within_iff.2 ⟨hlo, hhi⟩⟩
  have on : (List.range n).all (fun i => domOn (memDomain (addr + i)) s) = true := by
    rw [List.all_eq_true]
    intro i hi
    have hi := List.mem_range.1 hi
    have dom : memDomain (addr + i) = 1 := by
      unfold memDomain
      rw [if_neg (by omega), if_neg (by omega), if_neg (by omega), if_pos (by omega)]
    rw [dom, hd]
  unfold accessCause
  dsimp only
  rw [noReg, noRom, outReg, noDram, inMem, on]
  simp

theorem mram_notRegister {addr n : Nat} (hhi : addr + n ≤ 0x31000000) : within regSpace addr 1 = false := by
  rw [within_eq_false_iff, regSpace]
  omega

theorem memCode_mram {a : Nat} (hlo : 0x30000000 ≤ a) (hhi : a ≤ 0x31000000) : memCode a = 6 := by
  unfold memCode
  rw [if_neg (by omega), if_neg (by omega), if_neg (by omega), if_neg (by omega), if_pos (by omega)]

/-- The table cache stands before DRAM, not before MRAM. -/
theorem mram_uncached {addr n : Nat} (hlo : 0x30000000 ≤ addr) (hhi : addr + n ≤ 0x31000000) {p : Prop} : memCode addr = 1 → p := by
  rw [memCode_mram hlo (by omega)]
  exact fun h => absurd h (by decide)

/-! ### Accesses to clean memory -/

section CleanAccess

variable {path : Bool} {m addr n : Nat} {s : State} (hu : s.memp.upsets = []) (hp : s.poison = [])
  (hc : memCode addr = 1 → get Reg.TCH_CTL.EN s = 0) (hr : within regSpace addr 1 = false)
include hu hp hc hr

theorem access_memWrite_clean {l : List Nat} (harm : get Reg.MEM_FLIP_CTL.ARM s = 0) (h : accessCause path addr n true s = none) :
    access path m addr n true l [] s = respond .done (memWrite addr (storedBytes n l) s) := by
  have noRom : memCode addr = 0 → storedBytes n l = [] := fun h0 =>
    List.length_eq_zero_iff.1 ((storedBytes_length n l).trans (eq_zero_of_memCode_zero h h0))
  rw [access_memWrite h hr, List.foldl_nil, busStore_clean hu hp harm hc noRom]

theorem access_memRead_clean {l : List Nat} (h : accessCause path addr n false s = none) :
    access path m addr n false l [] s = respond (.data (memRead addr n s) false) s := by
  rw [access_memRead h hr, List.foldl_nil, busLoad_clean hu hc, busBytes_clean hp]

end CleanAccess

theorem memRead_respond (a n : Nat) (r : BusResp) (s : State) : memRead a n (respond r s) = memRead a n s := rfl

/-- A store of n bytes reads as the bytes that it took. -/
theorem memRead_stored (a n : Nat) (l : List Nat) (s : State) :
    memRead a n (respond .done (memWrite a (storedBytes n l) s)) = (storedBytes n l).map (· % 256) := by
  have read := memRead_memWrite a (storedBytes n l) s
  rwa [storedBytes_length] at read

theorem memOutside_stored (a n : Nat) (l : List Nat) (s : State) : MemOutside a n s (respond .done (memWrite a (storedBytes n l) s)) :=
  fun _ hb => memByte_memWrite_out s (by rwa [storedBytes_length])

/-! ### Accesses to a register word -/

/-- Four bytes hold a word of 32 bits. -/
theorem ofBytes_bytesOf_word {v : Nat} (hv : v < 2 ^ 32) : ofBytes ((bytesOf 4 v).take 4) = v := by
  simp only [bytesOf, List.take_succ_cons, List.take_nil, ofBytes]
  omega

theorem within_word {addr : Nat} (h : within regSpace addr 4 = true) : within regSpace addr 1 = true := by
  obtain ⟨hlo, hhi⟩ := within_iff.1 h
  exact within_iff.2 ⟨hlo, by omega⟩

/-- A word access hands the register the word that the command carries. -/
theorem access_wordWrite {path : Bool} {m addr v : Nat} {s : State} (hr : within regSpace addr 4 = true) (hv : v < 2 ^ 32)
    (h : accessCause path addr 4 true s = none) :
    access path m addr 4 true (bytesOf 4 v) [] s = respond .done (writeReg m addr v s) := by
  rw [access_regWrite h (within_word hr), ofBytes_bytesOf_word hv]

/-- What a plain write of a word v to the register at an address has left (R5, R6). -/
structure PlainWritten (addr v : Nat) (s t : State) : Prop where
  resp : t.sys.resp = .done
  fields : ∀ p ∈ fieldsAt addr, get p.1 t = writtenValue (isLocked addr s) v p (get p.1 s)
  kept : ∀ g : Fld, (∀ p ∈ fieldsAt addr, g.key = p.1.key → p.2 = .ro ∨ p.2 = .wo) → get g t = get g s
  events : OnlyEvents s t

theorem plainWrite_written (addr v : Nat) (s : State) : PlainWritten addr v s (respond .done (plainWrite addr v s)) where
  resp := rfl
  fields p hp := by rw [get_respond, get_plainWrite, get_writeWord_mem addr v s hp]
  kept g hg := by rw [get_respond, get_plainWrite, get_writeWord_kept addr v s hg]
  events := (plainWrite_onlyEvents addr v s).trans (respond_onlyEvents ..)

/-- A register that has neither a window nor a write of its own is written plainly. -/
theorem writeReg_written {m addr : Nat} (v : Nat) (s : State) (hw : ceWindow addr = false)
    (ho : (ownWrites m).find? (fun p => covers p.1 addr) = none) :
    PlainWritten addr v s (respond .done (writeReg m addr v s)) := by
  rw [writeReg_plain addr v s hw ho]
  exact plainWrite_written addr v s

/-- Only the fields that a register lists for writing change. -/
theorem PlainWritten.onlyRegs {addr v : Nat} {s t : State} (h : PlainWritten addr v s t) {l : List Fld}
    (hl : ∀ p ∈ fieldsAt addr, p.1 ∈ l ∨ p.2 = .ro ∨ p.2 = .wo) : OnlyRegs l s t :=
  fun _ hg => h.kept _ (fun p hp e => (hl p hp).resolve_left (fun hm => hg (e ▸ List.mem_map_of_mem hm)))

/-! ### Masters' commands -/

section Commands

variable {m addr n v : Nat} {w : Bool} {l : List Nat} {ups : List Upset} {s : State}

theorem exec_registerWrite (h : within regSpace addr 1 = true) :
    exec (.registerWrite m addr n v) s = .next (access (pathOpen m s) m addr n true (bytesOf n v) [] s) := occurs_of h

theorem exec_memoryAccess :
    exec (.memoryAccess m addr n w l ups) s = .next (access (m != 14 || pathOpen 14 s) m addr n w l ups s) := rfl

theorem exec_lockCommit {f : Fld} (hv : v.testBit 31 = true) (hf : lockOf addr = some f) (ha : f.addr = addr) :
    exec (.lockCommit m addr v) s = .next (access (pathOpen m s) m addr 4 true (bytesOf 4 v) [] s) :=
  occurs_of ⟨hv, by rw [hf]; exact beq_iff_eq.2 ha⟩

theorem exec_bar2Request (hi : get Reg.HPC_CFG.BAR2_IMPL s = 1) (hl : get Reg.HPC_LINK.UP s = 1) :
    exec (.bar2Request addr n w l ups) s = .next (access (pathOpen 10 s) 10 addr n w l ups s) := occurs_of ⟨hi, hl⟩

theorem exec_pairedRegisterReadLatch {hi : Nat} (hu : upperOf addr = some hi) (h : accessCause (pathOpen m s) addr 4 false s = none) :
    exec (.pairedRegisterReadLatch m addr) s = .next (respond (.data (bytesOf 4 (peekWord addr s)) false) (latchUpper m addr s)) := by
  rw [show exec (.pairedRegisterReadLatch m addr) s = execPairedRegisterReadLatch m addr s from rfl, execPairedRegisterReadLatch, h, hu]
  rfl

/-- A word that meets no case is written to its register. -/
theorem exec_registerWrite_word (hr : within regSpace addr 4 = true) (hv : v < 2 ^ 32) (h : accessCause (pathOpen m s) addr 4 true s = none) :
    exec (.registerWrite m addr 4 v) s = .next (respond .done (writeReg m addr v s)) := by
  rw [exec_registerWrite (within_word hr), access_wordWrite hr hv h]

end Commands

end Sys2Proof.Machine

namespace Sys2Proof.Machine

open Sys2Proof

/-! ### The registers that hold a lock (R6) -/

/-- The addresses of the registers whose lock is their own. -/
def lockRegisters : List Nat :=
  [Reg.SYS_PATH_CFG.desc.base, Reg.HPC_CFG.desc.base, Reg.HSA_CFG.desc.base, Reg.HSA_CFG.desc.base + 256, Reg.HST_CFG.desc.base,
   Reg.SMB_CFG.desc.base, Reg.DRC_CFG.desc.base]

/-- A register of HSA that its own lock covers is HSA_CFG of a port. -/
theorem mem_lockRegisters_of_hsa {addr : Nat}
    (h : covers Reg.HSA_CFG.desc addr ∨ covers Reg.HSA_ADDR_LO.desc addr ∨ covers Reg.HSA_ADDR_HI.desc addr)
    (ha : (Reg.HSA_CFG.LOCK ((addr - Reg.HSA_CFG.desc.base) / 256)).addr = addr) : addr ∈ lockRegisters := by
  have port : addr = 0x40110000 ∨ addr = 0x40110100 := by
    simp only [covers, onDims, Reg.HSA_CFG.desc, Reg.HSA_ADDR_LO.desc, Reg.HSA_ADDR_HI.desc, Reg.HSA_CFG.LOCK, Bool.and_eq_true,
      decide_eq_true_eq, beq_iff_eq] at h ha
    omega
  rcases port with rfl | rfl <;> decide

theorem mem_lockRegisters {addr : Nat} {f : Fld} (h : lockOf addr = some f) (ha : f.addr = addr) : addr ∈ lockRegisters := by
  unfold lockOf at h
  split at h
  next e => subst e; decide
  split at h
  next e =>
    cases h
    rw [← ha]
    decide
  split at h
  next e =>
    cases h
    exact mem_lockRegisters_of_hsa e ha
  split at h
  next e => subst e; decide
  split at h
  next e => subst e; decide
  split at h
  next e => subst e; decide
  · cases h

theorem lockRegister_within : ∀ a ∈ lockRegisters, within regSpace a 4 = true ∧ ceWindow a = false := by decide

/-- A lock is bit 31 of its register and is set by a 1 (R6). -/
theorem lockRegister_lock : ∀ a ∈ lockRegisters, ∀ f ∈ lockOf a, (f, Access.w1s) ∈ fieldsAt a ∧ f.lo = 31 ∧ f.width = 1 := by decide +kernel

/-! ### Registers that are written plainly -/

/-- The registers that have a write of their own, the same for every master. -/
def ownWritten : List RegDesc := (ownWrites 0).map Prod.fst

theorem ownWrites_fst (m : Nat) : (ownWrites m).map Prod.fst = ownWritten := rfl

theorem ownWrites_find?_eq_none {a : Nat} (h : ∀ d ∈ ownWritten, covers d a = false) (m : Nat) :
    (ownWrites m).find? (fun p => covers p.1 a) = none := by
  rw [List.find?_eq_none]
  intro p hp
  rw [h p.1 (ownWrites_fst m ▸ List.mem_map_of_mem hp)]
  exact Bool.false_ne_true

theorem lockRegister_ownWritten : ∀ a ∈ lockRegisters, ∀ d ∈ ownWritten, covers d a = false := by decide +kernel

/-- A write to a register with a lock of its own is a plain one. -/
theorem lockRegister_written {a : Nat} (h : a ∈ lockRegisters) (m v : Nat) (s : State) :
    PlainWritten a v s (respond .done (writeReg m a v s)) :=
  writeReg_written v s (lockRegister_within a h).2 (ownWrites_find?_eq_none (lockRegister_ownWritten a h) m)

/-- A commit that meets no case writes its register plainly. -/
theorem exec_lockCommit_plain {m addr v : Nat} {f : Fld} {s : State} (hv : v < 2 ^ 32) (hb : v.testBit 31 = true) (hf : lockOf addr = some f)
    (ha : f.addr = addr) (h : accessCause (pathOpen m s) addr 4 true s = none) :
    ∃ t, exec (.lockCommit m addr v) s = .next t ∧ PlainWritten addr v s t := by
  have hl := mem_lockRegisters hf ha
  refine ⟨_, ?_, lockRegister_written hl m v s⟩
  rw [exec_lockCommit hb hf ha, access_wordWrite (lockRegister_within addr hl).1 hv h]

/-- One bit of a word. -/
theorem bits_one_eq (v i : Nat) : bits v i 1 = if v.testBit i then 1 else 0 := by
  rw [bits, pow_one, ← Nat.shiftRight_eq_div_pow, Nat.testBit_eq_decide_div_mod_eq, ← Nat.shiftRight_eq_div_pow]
  rcases Nat.mod_two_eq_zero_or_one (v >>> i) with h | h <;> simp [h]

/-- A lock that is written 1 reads 1. -/
theorem PlainWritten.lock {addr v : Nat} {f : Fld} {s t : State} (h : PlainWritten addr v s t) (hf : lockOf addr = some f) (ha : f.addr = addr)
    (hb : v.testBit 31 = true) (h1 : get f s ≤ 1) : get f t = 1 := by
  obtain ⟨hm, hlo, hw⟩ := lockRegister_lock addr (mem_lockRegisters hf ha) f (Option.mem_def.2 hf)
  rw [h.fields _ hm, writtenValue_w1s, hlo, hw, bits_one_eq, if_pos hb]
  rcases Nat.le_one_iff_eq_zero_or_eq_one.1 h1 with e | e <;> simp [e]

/-! ### SYS_IRQ_THR and SYS_CLK_STAT have no write of their own -/

theorem clkStat_plain : ∀ d ∈ ownWritten, covers d Reg.SYS_CLK_STAT.XIN_LOST.addr = false := by decide +kernel
theorem irqThr_plain : ∀ c < 10, ∀ d ∈ ownWritten, covers d (Reg.SYS_IRQ_THR.THR c).addr = false := by decide +kernel

theorem irqThr_fieldsAt : ∀ c < 10, fieldsAt (Reg.SYS_IRQ_THR.THR c).addr = [(Reg.SYS_IRQ_THR.THR c, .rw)] := by decide +kernel

theorem irqThr_register : ∀ c < 10, within regSpace (Reg.SYS_IRQ_THR.THR c).addr 4 = true ∧ (Reg.SYS_IRQ_THR.THR c).addr % 4 = 0 ∧
    regDomain (Reg.SYS_IRQ_THR.THR c).addr = 2 ∧ isDefined (Reg.SYS_IRQ_THR.THR c).addr = true ∧
    ceWindow (Reg.SYS_IRQ_THR.THR c).addr = false := by decide +kernel

end Sys2Proof.Machine

namespace Sys2Proof.Machine

open Sys2Proof

/-! ### The words of SYS_CLK_STAT and SYS_PATH_CFG -/

theorem clkStat_fieldsAt : fieldsAt Reg.SYS_CLK_STAT.XIN_LOST.addr = Reg.SYS_CLK_STAT.desc.fields := by decide +kernel
theorem pathCfg_fieldsAt : fieldsAt Reg.SYS_PATH_CFG.LOCK.addr = Reg.SYS_PATH_CFG.desc.fields := by decide +kernel

theorem clkStat_register : within regSpace Reg.SYS_CLK_STAT.XIN_LOST.addr 4 = true ∧ isDefined Reg.SYS_CLK_STAT.XIN_LOST.addr = true ∧
    ceWindow Reg.SYS_CLK_STAT.XIN_LOST.addr = false := by decide +kernel

theorem pathCfg_register : within regSpace Reg.SYS_PATH_CFG.LOCK.addr 4 = true ∧ isDefined Reg.SYS_PATH_CFG.LOCK.addr = true := by decide +kernel

theorem pathCfg_lockOf : lockOf Reg.SYS_PATH_CFG.LOCK.addr = some Reg.SYS_PATH_CFG.LOCK := rfl

/-- A flag clears where it is written 1 and stays where it is written 0 (R5). -/
theorem writtenValue_w1c_flag (lkd : Bool) (v : Nat) (f : Fld) {old : Nat} (hw : f.width = 1) (h : old ≤ 1) :
    writtenValue lkd v (f, .w1c) old = if v.testBit f.lo then 0 else old := by
  rw [writtenValue_w1c, hw, bits_one_eq]
  rcases Nat.le_one_iff_eq_zero_or_eq_one.1 h with e | e <;> split <;> simp [e]

theorem writtenValue_rwl_pathCfg (v : Nat) (f : Fld) (old : Nat) (s : State) :
    writtenValue (isLocked Reg.SYS_PATH_CFG.LOCK.addr s) v (f, .rwl) old
      = if get Reg.SYS_PATH_CFG.LOCK s = 1 then old else v / 2 ^ f.lo % 2 ^ f.width := by
  rw [writtenValue_rwl, isLocked, pathCfg_lockOf]
  simp [bits]

/-! ### A read of a lower register (R9) -/

theorem latchUpper_of {m addr hi : Nat} {s : State} (h : upperOf addr = some hi) :
    latchUpper m addr s = { s with sys := { s.sys with pairLatch := unlatch m hi s.sys.pairLatch ++ [(m, hi, peekWord hi s)] } } := by
  rw [latchUpper, h]

theorem tmpCount_register : within regSpace Reg.TMP_COUNT_LO.COUNT.addr 4 = true ∧ isDefined Reg.TMP_COUNT_LO.COUNT.addr = true ∧
    upperOf Reg.TMP_COUNT_LO.COUNT.addr = some Reg.TMP_COUNT_HI.COUNT.addr := by decide +kernel

theorem tmpCountLo_fieldsAt : fieldsAt Reg.TMP_COUNT_LO.COUNT.addr = Reg.TMP_COUNT_LO.desc.fields := by decide +kernel
theorem tmpCountHi_fieldsAt : fieldsAt Reg.TMP_COUNT_HI.COUNT.addr = Reg.TMP_COUNT_HI.desc.fields := by decide +kernel

theorem peekWord_tmpCountLo (s : State) : peekWord Reg.TMP_COUNT_LO.COUNT.addr s = get Reg.TMP_COUNT_LO.COUNT s := by
  have read : readField Reg.TMP_COUNT_LO.COUNT s = get Reg.TMP_COUNT_LO.COUNT s := rfl
  have low : Reg.TMP_COUNT_LO.COUNT.lo = 0 := rfl
  rw [peekWord, tmpCountLo_fieldsAt]
  simp [Reg.TMP_COUNT_LO.desc, read, low]

theorem peekWord_tmpCountHi (s : State) : peekWord Reg.TMP_COUNT_HI.COUNT.addr s = get Reg.TMP_COUNT_HI.COUNT s := by
  have read : readField Reg.TMP_COUNT_HI.COUNT s = get Reg.TMP_COUNT_HI.COUNT s := rfl
  have low : Reg.TMP_COUNT_HI.COUNT.lo = 0 := rfl
  rw [peekWord, tmpCountHi_fieldsAt]
  simp [Reg.TMP_COUNT_HI.desc, read, low]

/-! ### An error response (R25) -/

section BusError

variable (m addr c : Nat) (w : Bool) (s : State)

/-- What the first error leaves in the registers. -/
def errorCapture : List (Fld × Nat) :=
  [(Reg.SYS_BUS_ERR_LO.ADDR_LO, addr % 2 ^ 32), (Reg.SYS_BUS_ERR_HI.ADDR_HI, bits addr 32 8), (Reg.SYS_BUS_ERR_HI.MASTER, m),
   (Reg.SYS_BUS_ERR_HI.WRITE, b2n w), (Reg.SYS_BUS_ERR_HI.CAUSE, c), (Reg.SYS_BUS_ERR_HI.VALID, 1)]

/-- The fields of a captured error. -/
def captureFields : List Fld :=
  [Reg.SYS_BUS_ERR_LO.ADDR_LO, Reg.SYS_BUS_ERR_HI.ADDR_HI, Reg.SYS_BUS_ERR_HI.MASTER, Reg.SYS_BUS_ERR_HI.WRITE, Reg.SYS_BUS_ERR_HI.CAUSE,
   Reg.SYS_BUS_ERR_HI.VALID]

theorem errorCapture_fst : (errorCapture m addr c w).map Prod.fst = captureFields := rfl

/-- An error response before its capture: the answer and the event. -/
def errorPosted : State :=
  post 0x023 0 (bytesOf 4 (addr % 2 ^ 32) ++ bytesOf 4 (bits addr 32 8 + 256 * m + 8192 * b2n w + 16384 * c + 2 ^ 31)) (respond (.error c) s)

@[simp] theorem get_errorPosted (f : Fld) : get f (errorPosted m addr c w s) = get f s := rfl

theorem errorPosted_onlyEvents : OnlyEvents s (errorPosted m addr c w s) := rfl

theorem busError_eq : busError m addr c w s
    = if get Reg.SYS_BUS_ERR_HI.VALID s = 1 then put Reg.SYS_BUS_ERR_HI.MORE 1 (errorPosted m addr c w s)
      else puts (errorCapture m addr c w) (errorPosted m addr c w s) := rfl

theorem busError_onlyEvents : OnlyEvents s (busError m addr c w s) := by
  rw [busError_eq]
  split
  · rfl
  · exact (errorPosted_onlyEvents ..).trans (puts_onlyRegisters _ _).onlyEvents

/-- A capture writes its fields alone. -/
theorem get_puts_errorCapture {f : Fld} (h : f.key ∉ captureFields.map Fld.key) (t : State) : get f (puts (errorCapture m addr c w) t) = get f t := by
  refine get_puts_ne (fun p hp e => h ?_) t
  rw [e, ← errorCapture_fst m addr c w]
  exact List.mem_map_of_mem (List.mem_map_of_mem hp)

theorem busError_onlyRegs : OnlyRegs (captureFields ++ [Reg.SYS_BUS_ERR_HI.MORE]) s (busError m addr c w s) := by
  intro f hf
  rw [List.map_append, List.mem_append, not_or] at hf
  obtain ⟨hcapture, hmore⟩ := hf
  rw [busError_eq]
  split
  · rw [get_put_ne (fun e => hmore (List.mem_singleton.2 e)), get_errorPosted]
  · rw [get_puts_errorCapture m addr c w hcapture, get_errorPosted]

theorem get_busError_valid : get Reg.SYS_BUS_ERR_HI.VALID (busError m addr c w s) = 1 := by
  rw [busError_eq]
  split
  next h => rw [get_put_ne (by decide), get_errorPosted, h]
  next => exact get_put_self ..

theorem get_busError_more : get Reg.SYS_BUS_ERR_HI.MORE (busError m addr c w s)
    = if get Reg.SYS_BUS_ERR_HI.VALID s = 1 then 1 else get Reg.SYS_BUS_ERR_HI.MORE s := by
  rw [busError_eq]
  split
  · exact get_put_self ..
  · rw [get_puts_errorCapture m addr c w (by decide), get_errorPosted]

/-- An error is answered with its cause. -/
theorem busError_resp : (busError m addr c w s).sys.resp = .error c := by
  rw [busError_eq]
  split <;> rfl

end BusError

end Sys2Proof.Machine

namespace Sys2Proof.Machine

open Sys2Proof

/-! ### The settled statement -/

/-- A write of a threshold register stores its three bits (R27). -/
theorem irqThr_written {c m : Nat} (hc : c < 10) (v : Nat) (s : State) :
    PlainWritten (Reg.SYS_IRQ_THR.THR c).addr v s (respond .done (writeReg m (Reg.SYS_IRQ_THR.THR c).addr v s)) := by
  obtain ⟨-, -, -, -, hw⟩ := irqThr_register c hc
  exact writeReg_written v s hw (ownWrites_find?_eq_none (irqThr_plain c hc) m)

theorem PlainWritten.irqThr {c v : Nat} {s t : State} (hc : c < 10) (h : PlainWritten (Reg.SYS_IRQ_THR.THR c).addr v s t) :
    get (Reg.SYS_IRQ_THR.THR c) t = v % 8 ∧ t.sys.resp = .done ∧ OnlyRegs [Reg.SYS_IRQ_THR.THR c] s t ∧ OnlyEvents s t := by
  have listed : (Reg.SYS_IRQ_THR.THR c, Access.rw) ∈ fieldsAt (Reg.SYS_IRQ_THR.THR c).addr := by
    rw [irqThr_fieldsAt c hc]
    exact List.mem_singleton_self _
  refine ⟨?_, h.resp, h.onlyRegs ?_, h.events⟩
  · rw [h.fields _ listed, writtenValue_rw]
    simp [bits, Reg.SYS_IRQ_THR.THR]
  · rw [irqThr_fieldsAt c hc]
    simp

theorem irqThr_accessCause {path : Bool} {c : Nat} {s : State} (hp : path = true) (hc : c < 10) (hd : domOn 2 s = true) :
    accessCause path (Reg.SYS_IRQ_THR.THR c).addr 4 true s = none := by
  obtain ⟨hr, ha, hdom, hdef, -⟩ := irqThr_register c hc
  exact accessCause_register hp hr ha (by rw [hdom, hd]) hdef true

/-- A write of SYS_CLK_STAT clears the flags that it writes 1 and no other field (R5). -/
theorem PlainWritten.clkStat {v : Nat} {s t : State} (h : PlainWritten Reg.SYS_CLK_STAT.XIN_LOST.addr v s t)
    (hx : get Reg.SYS_CLK_STAT.XIN_LOST s ≤ 1) (hp : get Reg.SYS_CLK_STAT.PLL_LOST s ≤ 1) :
    get Reg.SYS_CLK_STAT.XIN_LOST t = (if v.testBit 8 then 0 else get Reg.SYS_CLK_STAT.XIN_LOST s) ∧
    get Reg.SYS_CLK_STAT.PLL_LOST t = (if v.testBit 9 then 0 else get Reg.SYS_CLK_STAT.PLL_LOST s) ∧
    OnlyRegs [Reg.SYS_CLK_STAT.XIN_LOST, Reg.SYS_CLK_STAT.PLL_LOST] s t ∧ OnlyEvents s t := by
  have flag {f : Fld} (hf : (f, Access.w1c) ∈ Reg.SYS_CLK_STAT.desc.fields) (hw : f.width = 1) (h1 : get f s ≤ 1) :
      get f t = if v.testBit f.lo then 0 else get f s := by
    have listed := clkStat_fieldsAt ▸ hf
    rw [h.fields _ listed, writtenValue_w1c_flag _ v f hw h1]
  refine ⟨flag (by decide) rfl hx, flag (by decide) rfl hp, h.onlyRegs ?_, h.events⟩
  rw [clkStat_fieldsAt]
  decide

/-- A commit of SYS_PATH_CFG takes the enables where the lock was open, and locks (R6). -/
theorem PlainWritten.pathCfg {v : Nat} {s t : State} (h : PlainWritten Reg.SYS_PATH_CFG.LOCK.addr v s t) (hb : v.testBit 31 = true)
    (h1 : get Reg.SYS_PATH_CFG.LOCK s ≤ 1) :
    get Reg.SYS_PATH_CFG.LOCK t = 1 ∧
    get Reg.SYS_PATH_CFG.BAR2_EN t = (if get Reg.SYS_PATH_CFG.LOCK s = 1 then get Reg.SYS_PATH_CFG.BAR2_EN s else v % 2) ∧
    get Reg.SYS_PATH_CFG.FAB_EN t = (if get Reg.SYS_PATH_CFG.LOCK s = 1 then get Reg.SYS_PATH_CFG.FAB_EN s else v / 2 % 2) ∧
    get Reg.SYS_PATH_CFG.JTAG_EN t = (if get Reg.SYS_PATH_CFG.LOCK s = 1 then get Reg.SYS_PATH_CFG.JTAG_EN s else v / 4 % 2) ∧
    OnlyRegs [Reg.SYS_PATH_CFG.LOCK, Reg.SYS_PATH_CFG.BAR2_EN, Reg.SYS_PATH_CFG.FAB_EN, Reg.SYS_PATH_CFG.JTAG_EN] s t ∧ OnlyEvents s t := by
  have enable {f : Fld} (hf : (f, Access.rwl) ∈ Reg.SYS_PATH_CFG.desc.fields) :
      get f t = if get Reg.SYS_PATH_CFG.LOCK s = 1 then get f s else v / 2 ^ f.lo % 2 ^ f.width := by
    have listed := pathCfg_fieldsAt ▸ hf
    rw [h.fields _ listed, writtenValue_rwl_pathCfg]
  refine ⟨h.lock pathCfg_lockOf rfl hb h1, ?_, enable (by decide), enable (by decide), h.onlyRegs ?_, h.events⟩
  · rw [enable (by decide)]
    simp [Reg.SYS_PATH_CFG.BAR2_EN]
  · rw [pathCfg_fieldsAt]
    decide

/-- Settles O9: each access is judged once, and one that meets no case writes its word plainly, moves clean bytes or latches a pair. -/
theorem interconnectAccessesTakeEffect : Obligations.InterconnectAccessesTakeEffect := by
  unfold Obligations.InterconnectAccessesTakeEffect
  refine ⟨?plain, ?word, ?wordError, ?lock, ?store, ?storeClean, ?load, ?loadClean, ?register, ?error, ?pair, ?bar2, ?bar2Store, ?bar2Load,
    ?irqThr, ?clkStat, ?pathCfg, ?mramStore, ?mramLoad, ?tmpCount, ?bar2IrqThr, ?bar2Closed⟩
  case plain =>
    intro m addr v s hr h hv hw ho
    have written := writeReg_written v s hw ho
    refine .of_next (exec_registerWrite_word hr hv h) ⟨written.resp, ?_, ?_, written.events⟩
    · intro p hp
      rw [written.fields p hp]
      obtain ⟨f, a⟩ := p
      cases a <;> rfl
    · exact written.onlyRegs (fun p hp => .inl (List.mem_map_of_mem hp))
  case word =>
    intro m addr v s hr h hv
    exact .of_next (exec_registerWrite_word hr hv h) rfl
  case wordError =>
    intro m addr n v c s hr h
    refine .of_next (exec_registerWrite hr) ?_
    rw [access_error h, busError_resp]
  case lock =>
    intro m addr v f s hv hb hf ha h h1
    obtain ⟨t, ht, written⟩ := exec_lockCommit_plain hv hb hf ha h
    refine .of_next ht ⟨written.resp, written.lock hf ha hb h1, ?_⟩
    rintro ⟨f, a⟩ hp rfl
    rw [written.fields _ hp, writtenValue_rwl]
  case store =>
    intro m addr n l ups s hr h
    exact .of_next exec_memoryAccess (access_memWrite h hr)
  case storeClean =>
    intro m addr n l s hr h hen hu hp harm
    refine .of_next exec_memoryAccess ?_
    rw [access_memWrite_clean hu hp (fun _ => hen) hr harm h]
    exact ⟨memRead_stored addr n l s, rfl, memOutside_stored addr n l s⟩
  case load =>
    intro m addr n l ups s hr h
    exact .of_next exec_memoryAccess (access_memRead h hr)
  case loadClean =>
    intro m addr n l s hr h hen hu hp
    refine .of_next exec_memoryAccess ?_
    rw [access_memRead_clean hu hp (fun _ => hen) hr h]
    exact ⟨rfl, fun _ => rfl⟩
  case register =>
    intro m addr w l s hr h
    refine .of_next exec_memoryAccess ?_
    cases w with
    | true => exact access_regWrite h hr
    | false => exact access_regRead h hr
  case error =>
    intro m addr n c w l ups s h
    refine .of_next exec_memoryAccess ?_
    rw [access_error h, busError_resp]
  case pair =>
    intro m addr hi s hu h
    refine .of_next (exec_pairedRegisterReadLatch hu h) ?_
    rw [latchUpper_of hu]
    exact ⟨rfl, rfl, fun _ _ => rfl, rfl⟩
  case bar2 =>
    intro addr n w l ups s hi hl he
    refine .of_next (exec_bar2Request hi hl) ?_
    rw [pathOpen_bar2 he]
  case bar2Store =>
    intro addr n l s hi hl he hr h hen hu hp harm
    refine .of_next (exec_bar2Request hi hl) ?_
    rw [pathOpen_bar2 he, access_memWrite_clean hu hp (fun _ => hen) hr harm h]
    exact ⟨rfl, memRead_stored addr n l s⟩
  case bar2Load =>
    intro addr n l s hi hl he hr h hen hu hp
    refine .of_next (exec_bar2Request hi hl) ?_
    rw [pathOpen_bar2 he, access_memRead_clean hu hp (fun _ => hen) hr h]
    rfl
  case irqThr =>
    intro m c v s h10 h13 h14 hc hv hd
    have meetsNone := irqThr_accessCause (pathOpen_of_ne h10 h13 h14 s) hc hd
    exact .of_next (exec_registerWrite_word (irqThr_register c hc).1 hv meetsNone) ((irqThr_written hc v s).irqThr hc)
  case clkStat =>
    intro m v s h10 h13 h14 hv hd hx hp
    obtain ⟨hr, hdef, hw⟩ := clkStat_register
    have meetsNone := accessCause_register (pathOpen_of_ne h10 h13 h14 s) hr rfl hd hdef true
    have written := writeReg_written v s hw (ownWrites_find?_eq_none clkStat_plain m)
    exact .of_next (exec_registerWrite_word hr hv meetsNone) (written.clkStat hx hp)
  case pathCfg =>
    intro m v s h10 h13 h14 hv hb hd h1
    obtain ⟨hr, hdef⟩ := pathCfg_register
    have meetsNone := accessCause_register (pathOpen_of_ne h10 h13 h14 s) hr rfl hd hdef true
    obtain ⟨t, ht, written⟩ := exec_lockCommit_plain hv hb pathCfg_lockOf rfl meetsNone
    exact .of_next ht (written.pathCfg hb h1)
  case mramStore =>
    intro m addr l s h14 hlo hhi hd hu hp harm
    have meetsNone := accessCause_mram hlo hhi hd true
    refine .of_next exec_memoryAccess ?_
    rw [memoryPath_of_ne h14, access_memWrite_clean hu hp (mram_uncached hlo hhi) (mram_notRegister hhi) harm meetsNone, storedBytes_self]
    exact ⟨memRead_memWrite addr l s, rfl, fun _ _ => rfl, rfl⟩
  case mramLoad =>
    intro m addr n l s h14 hlo hhi hd hu hp
    have meetsNone := accessCause_mram hlo hhi hd false
    refine .of_next exec_memoryAccess ?_
    rw [memoryPath_of_ne h14, access_memRead_clean hu hp (mram_uncached hlo hhi) (mram_notRegister hhi) meetsNone]
    exact ⟨rfl, fun _ _ => rfl, rfl⟩
  case tmpCount =>
    intro m s h10 h13 h14 hd
    obtain ⟨hr, hdef, hu⟩ := tmpCount_register
    have meetsNone := accessCause_register (pathOpen_of_ne h10 h13 h14 s) hr rfl hd hdef false
    refine .of_next (exec_pairedRegisterReadLatch hu meetsNone) ?_
    rw [latchUpper_of hu, peekWord_tmpCountLo, peekWord_tmpCountHi]
    exact ⟨rfl, List.mem_append_right _ (List.mem_singleton_self _), fun _ _ => rfl, rfl⟩
  case bar2IrqThr =>
    intro c l s hc hd hi hl he
    have meetsNone := irqThr_accessCause (pathOpen_bar2 he) hc hd
    refine .of_next (exec_bar2Request hi hl) ?_
    rw [access_regWrite meetsNone (within_word (irqThr_register c hc).1)]
    exact (irqThr_written hc _ s).irqThr hc
  case bar2Closed =>
    intro addr n w l s hi hl he h1
    refine .of_next (exec_bar2Request hi hl) ?_
    rw [pathClosed_bar2 he, access_error (accessCause_closed addr n w s)]
    exact ⟨busError_resp .., get_busError_valid .., get_busError_more .., busError_onlyRegs 10 addr 3 w s, busError_onlyEvents ..⟩

end Sys2Proof.Machine

/-! SUPPORT. Proofs of the obligations of the architecture family (01_architecture.md). -/

namespace Sys2Proof.Machine

open Sys2Proof

/-! ### Several fields written in a row -/

/-- Fields of distinct keys read what was written to each, cut to its width. -/
theorem get_puts_mem {l : List (Fld × Nat)} (hl : ((l.map Prod.fst).map Fld.key).Nodup) {f : Fld} {v : Nat} (h : (f, v) ∈ l) (s : State) :
    get f (puts l s) = v % 2 ^ f.width := by
  induction l generalizing s with
  | nil => cases h
  | cons p l ih =>
    obtain ⟨g, w⟩ := p
    rw [List.map_cons, List.map_cons, List.nodup_cons] at hl
    obtain ⟨hg, hl⟩ := hl
    rw [puts_cons]
    rcases List.mem_cons.1 h with e | h
    · obtain ⟨rfl, rfl⟩ := Prod.mk.inj e
      rw [get_puts_ne (fun p hp e => hg (e ▸ List.mem_map_of_mem (List.mem_map_of_mem hp))), get_put_self]
    · exact ih hl h _

/-! ### Bits of a field -/

theorem withBit_testBit_self (v i : Nat) (b : Bool) : (withBit v i b).testBit i = b := by
  unfold withBit
  split
  next h => exact h
  next h =>
    cases b with
    | true =>
      rw [if_pos rfl, Nat.add_comm, Nat.testBit_two_pow_add_eq]
      simpa using h
    | false =>
      have set : v.testBit i = true := by simpa using h
      have flipped := Nat.testBit_two_pow_add_eq (v - 2 ^ i) i
      rw [Nat.add_sub_cancel' (Nat.ge_two_pow_of_testBit set), set] at flipped
      simpa using flipped.symm

/-- A bit added where it is clear leaves the bits that are set. -/
theorem testBit_add_two_pow {v i j : Nat} (hi : v.testBit i = false) (hj : v.testBit j = true) : (v + 2 ^ i).testBit j = true := by
  induction i generalizing v j with
  | zero =>
    rw [Nat.testBit_zero, decide_eq_false_iff_not] at hi
    cases j with
    | zero => simp [hi] at hj
    | succ j =>
      rw [Nat.testBit_succ] at hj ⊢
      rwa [show (v + 2 ^ 0) / 2 = v / 2 by omega]
  | succ i ih =>
    rw [Nat.testBit_succ] at hi
    have half : (v + 2 ^ (i + 1)) / 2 = v / 2 + 2 ^ i := by omega
    cases j with
    | zero =>
      rw [Nat.testBit_zero, decide_eq_true_iff] at hj ⊢
      omega
    | succ j =>
      rw [Nat.testBit_succ] at hj ⊢
      rw [half]
      exact ih hi hj

theorem withBit_true_keeps {v j : Nat} (i : Nat) (h : v.testBit j = true) : (withBit v i true).testBit j = true := by
  unfold withBit
  split
  · exact h
  next hi => exact testBit_add_two_pow (by simpa using hi) h

theorem bit_put_self {f : Fld} {i : Nat} (h : i < f.width) (v : Nat) (s : State) : bit f i (put f v s) = v.testBit i := by
  rw [bit, get_put_self, Nat.testBit_mod_two_pow, decide_eq_true h, Bool.true_and]

theorem bit_putBit_self {f : Fld} {i : Nat} (h : i < f.width) (b : Bool) (s : State) : bit f i (putBit f i b s) = b := by
  rw [putBit, bit_put_self h, withBit_testBit_self]

/-- Setting a bit leaves those that are set. -/
theorem bit_putBit_true {f : Fld} {j : Nat} (i : Nat) {s : State} (h : bit f j s = true) (hj : j < f.width) : bit f j (putBit f i true s) = true := by
  rw [putBit, bit_put_self hj]
  exact withBit_true_keeps i h

theorem bit_congr {f : Fld} {s t : State} (i : Nat) (h : get f t = get f s) : bit f i t = bit f i s := by rw [bit, h, bit]

theorem bit_of_written {f : Fld} {i v : Nat} {s : State} (h : get f s = v % 2 ^ f.width) (hi : i < f.width) : bit f i s = v.testBit i := by
  rw [bit, h, Nat.testBit_mod_two_pow, decide_eq_true hi, Bool.true_and]

/-! ### Registers after a row of writes -/

theorem putReg_congr {s t : State} (h : t.regs = s.regs) (f : Fld) (v : Nat) : (put f v t).regs = (put f v s).regs := by
  rw [put, put, h]

theorem puts_congr (l : List (Fld × Nat)) {s t : State} (h : t.regs = s.regs) : (puts l t).regs = (puts l s).regs := by
  induction l generalizing s t with
  | nil => exact h
  | cons p l ih => exact ih (putReg_congr h p.1 p.2)

/-- The registers that an operation leaves are those that a row of writes leaves. -/
def Wrote (l : List (Fld × Nat)) (s t : State) : Prop := t.regs = (puts l s).regs

theorem Wrote.nil (s : State) : Wrote [] s s := rfl

section Wrote

variable {l : List (Fld × Nat)} {s t : State}

theorem Wrote.get_ne (h : Wrote l s t) {g : Fld} (hg : g.key ∉ (l.map Prod.fst).map Fld.key) : get g t = get g s := by
  rw [get_regs g h, get_puts_ne fun p hp e => hg (e ▸ List.mem_map_of_mem (List.mem_map_of_mem hp))]

theorem Wrote.get_mem (h : Wrote l s t) (hl : ((l.map Prod.fst).map Fld.key).Nodup) {f : Fld} {v : Nat} (hf : (f, v) ∈ l) :
    get f t = v % 2 ^ f.width := by
  rw [get_regs f h, get_puts_mem hl hf]

theorem Wrote.puts (h : Wrote l s t) (k : List (Fld × Nat)) : Wrote (l ++ k) s (puts k t) := by
  have row : Machine.puts (l ++ k) s = Machine.puts k (Machine.puts l s) := List.foldl_append
  rw [Wrote, puts_congr k h, row]

theorem Wrote.put (h : Wrote l s t) (f : Fld) (v : Nat) : Wrote (l ++ [(f, v)]) s (put f v t) := h.puts [(f, v)]

/-- A counter that has not been written counts from what it was. -/
theorem Wrote.bump (h : Wrote l s t) {f : Fld} (hf : f.key ∉ (l.map Prod.fst).map Fld.key) : Wrote (l ++ [(f, get f s + 1)]) s (bump f t) := by
  rw [Machine.bump, h.get_ne hf]
  exact h.put f _

theorem Wrote.of_regs {u : State} (h : Wrote l s t) (k : u.regs = t.regs) : Wrote l s u := Eq.trans k h

/-- Only the fields written may have changed. -/
theorem Wrote.onlyRegs (h : Wrote l s t) : OnlyRegs (l.map Prod.fst) s t := fun _ hf => h.get_ne hf

end Wrote

theorem OnlyRegs.mono {l k : List Fld} {s t : State} (h : OnlyRegs l s t) (hk : l ⊆ k) : OnlyRegs k s t :=
  fun f hf => h f (fun hm => hf (List.map_subset _ hk hm))

theorem OnlyRegs.trans {l : List Fld} {s t u : State} (h : OnlyRegs l s t) (k : OnlyRegs l t u) : OnlyRegs l s u :=
  fun f hf => (k f hf).trans (h f hf)

theorem OnlyRegs.of_regs (l : List Fld) {s t : State} (h : t.regs = s.regs) : OnlyRegs l s t := fun f _ => get_regs f h

/-! ### What leaves only events -/

theorem OnlyEvents.refl (s : State) : OnlyEvents s s := rfl

theorem OnlyEvents.sameMem {s t : State} (h : OnlyEvents s t) : SameMem s t := by
  intro a
  rw [h]
  rfl

theorem raise_onlyEvents (n : Nat) (s : State) : OnlyEvents s (raise n s) :=
  have latched : OnlyEvents s { s with sys := latchSrc n s } := rfl
  latched.trans (hostEdge_onlyEvents ..)

theorem raisePost_onlyEvents (n u : Nat) (l : List Nat) (s : State) : OnlyEvents s (raisePost n u l s) :=
  (raise_onlyEvents n s).trans (post_onlyEvents ..)

theorem linePost_onlyEvents (n : Nat) (f : Fld) (v u : Nat) (l : List Nat) (s : State) : OnlyEvents s (linePost n f v u l s) :=
  ((put_onlyRegisters f v s).onlyEvents.trans (hostEdge_onlyEvents ..)).trans (post_onlyEvents ..)

/-- A promotion with its last spare: the inventory bit, the count, two lines with their events (R481). -/
theorem promoted_onlyEvents (f : Fld) (s : State) : OnlyEvents s (promoted f s) :=
  have written : OnlyEvents s (bump Reg.SPR_STAT.PROMOS (put f 0 s)) := rfl
  (written.trans (raisePost_onlyEvents ..)).trans (raisePost_onlyEvents ..)

theorem promotion_onlyEvents (b : Bool) (s : State) : OnlyEvents s (promotion b s) := by
  have written : OnlyEvents s (raisePost 928 0 [] (bump Reg.SPR_STAT.PROMOS s)) :=
    (put_onlyRegisters _ _ s).onlyEvents.trans (raisePost_onlyEvents ..)
  unfold promotion
  split
  · exact written.trans (raisePost_onlyEvents ..)
  · exact written

@[simp] theorem promoted_regs (f : Fld) (s : State) : (promoted f s).regs = (bump Reg.SPR_STAT.PROMOS (put f 0 s)).regs := by simp [promoted]

theorem Wrote.promoted {l : List (Fld × Nat)} {s t : State} (h : Wrote l s t) (f : Fld)
    (hp : Reg.SPR_STAT.PROMOS.key ∉ ((l ++ [(f, 0)]).map Prod.fst).map Fld.key) :
    Wrote (l ++ [(f, 0)] ++ [(Reg.SPR_STAT.PROMOS, get Reg.SPR_STAT.PROMOS s + 1)]) s (promoted f t) :=
  ((h.put f 0).bump hp).of_regs (promoted_regs f t)

@[simp] theorem promotion_regs (b : Bool) (s : State) : (promotion b s).regs = (bump Reg.SPR_STAT.PROMOS s).regs := by
  unfold promotion
  split <;> simp

@[simp] theorem hostEdge_sys (s t : State) : (hostEdge s t).sys = t.sys := by
  unfold hostEdge
  split
  · unfold msix
    split <;> rfl
  · rfl

@[simp] theorem post_sys (c u : Nat) (l : List Nat) (s : State) : (post c u l s).sys = s.sys := rfl
@[simp] theorem raise_started (n : Nat) (s : State) : (raise n s).sys.started = s.sys.started := by
  rw [raise, hostEdge_sys]
  unfold latchSrc
  split <;> rfl

@[simp] theorem raisePost_started (n u : Nat) (l : List Nat) (s : State) : (raisePost n u l s).sys.started = s.sys.started := raise_started n s
@[simp] theorem promoted_started (f : Fld) (s : State) : (promoted f s).sys.started = s.sys.started := by
  rw [promoted, raisePost_started, raisePost_started]
  rfl

/-! ### Redirections (R31) -/

/-- The running cores, and everything but the events of redirections, stay as they are. -/
structure Redirected (s t : State) : Prop where
  regs : t.regs = s.regs
  started : t.sys.started = s.sys.started
  events : OnlyEvents s t

theorem Redirected.refl (s : State) : Redirected s s := ⟨rfl, rfl, rfl⟩

theorem Redirected.trans {s t u : State} (h : Redirected s t) (k : Redirected t u) : Redirected s u :=
  ⟨k.regs.trans h.regs, k.started.trans h.started, h.events.trans k.events⟩

theorem redirect_redirected (s : State) (n : Nat) : Redirected s (redirect s n) := by
  unfold redirect
  split
  · split <;> exact ⟨rfl, rfl, rfl⟩
  · exact ⟨rfl, rfl, rfl⟩

theorem redirects_redirected (l : List Nat) (s : State) : Redirected s (l.foldl redirect s) := by
  induction l generalizing s with
  | nil => exact .refl s
  | cons n l ih => exact (redirect_redirected s n).trans (ih _)

theorem redirectAll_redirected (s : State) : Redirected s (redirectAll s) :=
  (redirects_redirected (enabledSources s) s).trans ⟨hostEdge_regs .., by rw [redirectAll, hostEdge_sys], hostEdge_onlyEvents ..⟩

@[simp] theorem redirectAll_regs (s : State) : (redirectAll s).regs = s.regs := (redirectAll_redirected s).regs
@[simp] theorem redirectAll_started (s : State) : (redirectAll s).sys.started = s.sys.started := (redirectAll_redirected s).started
@[simp] theorem get_redirectAll (f : Fld) (s : State) : get f (redirectAll s) = get f s := get_regs f (redirectAll_regs s)
theorem redirectAll_onlyEvents (s : State) : OnlyEvents s (redirectAll s) := (redirectAll_redirected s).events

end Sys2Proof.Machine

namespace Sys2Proof.Machine

open Sys2Proof

/-- Line 0 of SPR is in service in the host's context with its event latched, and the PCIe link is down. -/
def hostLineInService : State :=
  { regs := [((Reg.SYS_IRQ_ROUTE.EN 928).key, 1), ((Reg.SYS_IRQ_ROUTE.PRIO 928).key, 1), ((Reg.SYS_IRQ_ROUTE.CTX 928).key, 9)]
    sys := { inService := [(9, 928)], latched := [928] } }

/-- With the source out of service its line is offered again, and the message on vector 1,024 waits for the link. -/
theorem hostLine_done_waits : (done 9 928 hostLineInService).host.msixPend = [1024] := by decide +kernel

/-- Refutes O10: the frame of IRQ_DONE leaves the masked vectors as they are, but the host's context is offered the source again, and the message for it
waits in msixPend while the link is down. -/
theorem not_interruptControllerRows : ¬ Obligations.InterruptControllerRows := by
  unfold Obligations.InterruptControllerRows
  rintro ⟨-, -, irqDone, -⟩
  obtain ⟨t, ht, -, -, -, frame⟩ := irqDone 9 928 hostLineInService (by decide)
  obtain rfl : done 9 928 hostLineInService = t := by
    rw [show exec (.irqDone 9 928) hostLineInService = execIrqDone 9 928 hostLineInService from rfl, execIrqDone, unit_of_lt (by decide)] at ht
    exact Host.Outcome.next.inj ht
  have unchanged : (done 9 928 hostLineInService).host.msixPend = [] := by rw [frame]; rfl
  rw [hostLine_done_waits] at unchanged
  exact absurd unchanged (by decide)

end Sys2Proof.Machine

namespace Sys2Proof.Machine

open Sys2Proof

/-! ### An error response is captured (R25) -/

/-- A record is taken as it would be before the answer of an access. -/
theorem post_respond_evr (c u : Nat) (l : List Nat) (b : BusResp) (s : State) : (post c u l (respond b s)).evr = (post c u l s).evr := rfl

section Capture

variable {m addr c : Nat} {w : Bool} {s : State}

/-- An error response beside its registers: the answer, the event, and nothing else. -/
structure ErrorPosted (m addr c : Nat) (w : Bool) (s t : State) : Prop where
  resp : t.sys.resp = .error c
  evr : t.evr = (post 0x023 0 (bytesOf 4 (addr % 2 ^ 32)
    ++ bytesOf 4 (addr / 2 ^ 32 % 256 + 256 * m + 8192 * b2n w + 16384 * c + 2 ^ 31)) s).evr
  frame : t = { s with regs := t.regs, sys := t.sys, evr := t.evr, host := { s.host with msixPend := t.host.msixPend } }
  mem : SameMem s t

theorem errorPosted_posted : ErrorPosted m addr c w s (errorPosted m addr c w s) where
  resp := rfl
  evr := by
    have high : bits addr 32 8 = addr / 2 ^ 32 % 256 := rfl
    rw [errorPosted, post_respond_evr, high]
  frame := rfl
  mem _ := rfl

theorem ErrorPosted.onlyRegisters {t u : State} (h : ErrorPosted m addr c w s t) (k : OnlyRegisters t u) : ErrorPosted m addr c w s u := by
  obtain ⟨resp, evr, frame, mem⟩ := h
  rw [k]
  exact ⟨resp, evr, by rw [frame], mem⟩

theorem busError_posted : ErrorPosted m addr c w s (busError m addr c w s) := by
  rw [busError_eq]
  split
  · exact errorPosted_posted.onlyRegisters (put_onlyRegisters ..)
  · exact errorPosted_posted.onlyRegisters (puts_onlyRegisters ..)

/-- The first error response in its registers. -/
structure ErrorCaptured (m addr c : Nat) (w : Bool) (s t : State) : Prop where
  addrLo : get Reg.SYS_BUS_ERR_LO.ADDR_LO t = addr % 2 ^ 32
  addrHi : get Reg.SYS_BUS_ERR_HI.ADDR_HI t = addr / 2 ^ 32 % 256
  master : get Reg.SYS_BUS_ERR_HI.MASTER t = m % 2 ^ Reg.SYS_BUS_ERR_HI.MASTER.width
  write : get Reg.SYS_BUS_ERR_HI.WRITE t = b2n w
  cause : get Reg.SYS_BUS_ERR_HI.CAUSE t = c % 2 ^ Reg.SYS_BUS_ERR_HI.CAUSE.width
  valid : get Reg.SYS_BUS_ERR_HI.VALID t = 1
  only : OnlyRegs captureFields s t

theorem busError_captured (h : get Reg.SYS_BUS_ERR_HI.VALID s = 0) : ErrorCaptured m addr c w s (busError m addr c w s) := by
  have read {f : Fld} {v : Nat} (hf : (f, v) ∈ errorCapture m addr c w) : get f (busError m addr c w s) = v % 2 ^ f.width := by
    rw [busError_eq, if_neg (by omega)]
    refine get_puts_mem ?_ hf _
    rw [errorCapture_fst]
    decide
  have flag : b2n w % 2 = b2n w := by cases w <;> rfl
  exact {
    addrLo := (read (v := addr % 2 ^ 32) (by simp [errorCapture])).trans (Nat.mod_mod ..)
    addrHi := (read (v := bits addr 32 8) (by simp [errorCapture])).trans (bits_mod ..)
    master := read (by simp [errorCapture])
    write := (read (v := b2n w) (by simp [errorCapture])).trans flag
    cause := read (by simp [errorCapture])
    valid := read (v := 1) (by simp [errorCapture])
    only := fun f hf => by rw [busError_eq, if_neg (by omega), get_puts_errorCapture m addr c w hf, get_errorPosted] }

/-- A further error response sets MORE and captures nothing. -/
theorem busError_more (h : get Reg.SYS_BUS_ERR_HI.VALID s = 1) :
    get Reg.SYS_BUS_ERR_HI.MORE (busError m addr c w s) = 1 ∧ OnlyRegs [Reg.SYS_BUS_ERR_HI.MORE] s (busError m addr c w s) := by
  rw [busError_eq, if_pos h]
  refine ⟨get_put_self .., fun f hf => ?_⟩
  rw [get_put_ne (fun e => hf (List.mem_singleton.2 e)), get_errorPosted]

end Capture

/-- Settles O57: a register write and a memory access that meet a cause end in one error response, which is captured once. -/
theorem errorResponsesAreCaptured : Obligations.ErrorResponsesAreCaptured := by
  unfold Obligations.ErrorResponsesAreCaptured
  refine ⟨?writeFirst, ?writeMore, ?accessFirst, ?accessMore⟩
  case writeFirst =>
    intro m addr n v k s hr hk hv
    have posted : ErrorPosted m addr k true s (busError m addr k true s) := busError_posted
    have captured : ErrorCaptured m addr k true s (busError m addr k true s) := busError_captured hv
    refine .of_next ((exec_registerWrite hr).trans (congrArg _ (access_error hk))) ?_
    exact ⟨captured.addrLo, captured.addrHi, captured.master, captured.write, captured.cause, captured.valid, posted.resp, posted.evr,
      captured.only, posted.frame, posted.mem⟩
  case writeMore =>
    intro m addr n v k s hr hk hv
    have posted : ErrorPosted m addr k true s (busError m addr k true s) := busError_posted
    obtain ⟨more, only⟩ := busError_more (m := m) (addr := addr) (c := k) (w := true) hv
    refine .of_next ((exec_registerWrite hr).trans (congrArg _ (access_error hk))) ?_
    exact ⟨more, posted.resp, posted.evr, only, posted.frame, posted.mem⟩
  case accessFirst =>
    intro m addr n k w l s hk hv
    have posted : ErrorPosted m addr k w s (busError m addr k w s) := busError_posted
    have captured : ErrorCaptured m addr k w s (busError m addr k w s) := busError_captured hv
    refine .of_next (exec_memoryAccess.trans (congrArg _ (access_error hk))) ?_
    exact ⟨captured.addrLo, captured.addrHi, captured.master, captured.write, captured.cause, captured.valid, posted.resp, posted.evr,
      captured.only, posted.frame, posted.mem⟩
  case accessMore =>
    intro m addr n k w l s hk hv
    have posted : ErrorPosted m addr k w s (busError m addr k w s) := busError_posted
    obtain ⟨more, only⟩ := busError_more (m := m) (addr := addr) (c := k) (w := w) hv
    refine .of_next (exec_memoryAccess.trans (congrArg _ (access_error hk))) ?_
    exact ⟨more, posted.resp, posted.evr, only, posted.frame, posted.mem⟩

end Sys2Proof.Machine

namespace Sys2Proof.Machine

open Sys2Proof

/-! ### Calibration (R477 to R480) -/

@[simp] theorem get_setCal (f : Fld) (r : CalSt) (s : State) : get f (setCal r s) = get f s := rfl

/-- What a CAL_DONE with GO writes of kind k with result r: the command, the count, and the result with whether it is traced. -/
def calCounted (k r : Nat) (s : State) : List (Fld × Nat) :=
  [(Reg.CAL_DONE.KIND, k), (Reg.CAL_DONE.RESULT, r), (Reg.CAL_KIND_COUNT.COUNT k, get (Reg.CAL_KIND_COUNT.COUNT k) s + 1),
   (Reg.CAL_KIND_STAT.RESULT k, r), (Reg.CAL_KIND_STAT.TRACED k, b2n (s.cal.traced && get Reg.SYS_CLK_STAT.CALREF_OK s == 1))]

/-- What clears the bits of kind k and notes the second. -/
def calCleared (k : Nat) (s : State) : List (Fld × Nat) :=
  [(Reg.CAL_DUE.OVERDUE, withBit (get Reg.CAL_DUE.OVERDUE s) k false), (Reg.CAL_DUE.DUE, withBit (get Reg.CAL_DUE.DUE s) k false),
   (Reg.CAL_KIND_LAST.LIFE k, lifeSec s)]

/-- The fields of both, the last one first. -/
def calDoneFields (k : Nat) : List Fld :=
  [Reg.CAL_KIND_LAST.LIFE k, Reg.CAL_DUE.DUE, Reg.CAL_DUE.OVERDUE, Reg.CAL_KIND_STAT.TRACED k, Reg.CAL_KIND_STAT.RESULT k,
   Reg.CAL_KIND_COUNT.COUNT k, Reg.CAL_DONE.RESULT, Reg.CAL_DONE.KIND]

theorem calDoneFields_nodup : ∀ k < 16, ((calDoneFields k).map Fld.key).Nodup := by decide

/-- All that a CAL_DONE with GO writes. -/
def calDoneWrites (k r : Nat) (s : State) : List (Fld × Nat) := calCounted k r s ++ if r = 2 then [] else calCleared k s

/-- The state that it leaves. -/
def calDoneState (k r : Nat) (s : State) : State :=
  post 0x720 0 [k, r] (setCal { s.cal with traced := get Reg.SYS_CLK_STAT.CALREF_OK s == 1 } (puts (calDoneWrites k r s) s))

theorem put_setCal (f : Fld) (v : Nat) (r : CalSt) (s : State) : put f v (setCal r s) = setCal r (put f v s) := rfl

theorem exec_calDone_go {v : Nat} {s : State} (hv : v.testBit 31 = true) :
    exec (.calDone v) s = .next (calDoneState (v % 16) (v / 16 % 4) s) := by
  have kind : bits v 0 4 = v % 16 := by simp [bits]
  have result : bits v 4 2 = v / 16 % 4 := rfl
  rw [show exec (.calDone v) s = execCalDone v s from rfl, execCalDone, if_pos hv]
  refine congrArg Host.Outcome.next ?_
  rw [kind, result]
  have keys := calDoneFields_nodup (v % 16) (Nat.mod_lt _ (by decide))
  generalize v % 16 = k at keys ⊢
  generalize v / 16 % 4 = r
  simp only [calDoneFields, List.map_cons, List.map_nil, List.nodup_cons, List.mem_cons, List.not_mem_nil, or_false, not_or] at keys
  unfold calDoneState calDoneWrites
  split <;> simp -implicitDefEqProofs [calCounted, calCleared, puts_cons, puts_nil, bump, putBit, get_put_ne, keys, put_setCal]

theorem calDoneWrites_nodup {k : Nat} (hk : k < 16) (r : Nat) (s : State) : (((calDoneWrites k r s).map Prod.fst).map Fld.key).Nodup := by
  have keys : ((calDoneFields k).map Fld.key).reverse.Nodup := List.nodup_reverse.2 (calDoneFields_nodup k hk)
  refine keys.sublist ?_
  unfold calDoneWrites
  split
  · exact List.take_sublist 5 ((calDoneFields k).map Fld.key).reverse
  · exact .refl _

theorem calDoneWrites_subset (k r : Nat) (s : State) : (calDoneWrites k r s).map Prod.fst ⊆ calDoneFields k := by
  unfold calDoneWrites
  split <;> simp [calCounted, calCleared, calDoneFields]

theorem calDoneState_wrote (k r : Nat) (s : State) : Wrote (calDoneWrites k r s) s (calDoneState k r s) := by
  have written : Wrote (calDoneWrites k r s) s (puts (calDoneWrites k r s) s) := rfl
  exact written.of_regs (post_regs ..)

theorem calDoneState_frame (k r : Nat) (s : State) : calDoneState k r s
    = { s with regs := (calDoneState k r s).regs, cal := (calDoneState k r s).cal, evr := (calDoneState k r s).evr
               host := { s.host with msixPend := (calDoneState k r s).host.msixPend } } := by
  have written := puts_onlyRegisters (calDoneWrites k r s) s
  unfold calDoneState
  generalize puts (calDoneWrites k r s) s = u at written ⊢
  rw [written]
  rfl

theorem OnlyEvents.of_setCal {s t : State} {r : CalSt} (h : OnlyEvents (setCal r s) t) :
    t = { s with regs := t.regs, cal := t.cal, evr := t.evr, sys := t.sys, sent := t.sent, host := { s.host with msixPend := t.host.msixPend } } := by
  rw [h]
  rfl

/-- What has been written of a kind at result 2 is not its last second. -/
theorem calCounted_ne_life {k : Nat} (hk : k < 16) (r : Nat) (s : State) :
    (Reg.CAL_KIND_LAST.LIFE k).key ∉ ((calCounted k r s).map Prod.fst).map Fld.key := by
  refine fun h => (List.nodup_cons.1 (calDoneFields_nodup k hk)).1 (List.map_subset _ ?_ h)
  simp [calCounted]

/-! ### Spares (R481, R482) -/

/-- The state of core 8 as a core's role starts it. -/
def core8Started (s : State) : State :=
  { s with sys := { s.sys with started := if s.sys.started.contains 8 then s.sys.started else s.sys.started ++ [8] } }

theorem core8Started_mem (s : State) : 8 ∈ (core8Started s).sys.started := by
  unfold core8Started
  dsimp only
  split
  next h => exact List.contains_iff_mem.1 h
  next => simp

theorem core8Started_onlyEvents (s : State) : OnlyEvents s (core8Started s) := rfl

theorem exec_core8Select {n : Nat} {s : State} (hn : n % 16 ≠ 15) (hs : get Reg.SPR_CORE.SEL s = 15) (hr : bit Reg.SPR_CORE.RETIRE 8 s = false) :
    exec (.core8Select n) s = .next (redirectAll (post 0x760 0 [0, n % 16] (promoted Reg.SPR_INV.CORE
      (put Reg.SPR_CORE.SEL (n % 16) (core8Started s))))) := by
  refine congrArg Host.Outcome.next ?_
  rw [if_neg (by simp [hs, hr]), if_neg hn]
  rfl

/-- The cores retired, with line 1 of SPR where one goes while core 8 serves (R482). -/
def coreRetired (m : Nat) (s : State) : State :=
  let t := put Reg.SPR_CORE.RETIRE (get Reg.SPR_CORE.RETIRE s ||| m) s
  if get Reg.SPR_CORE.RETIRE t ≠ get Reg.SPR_CORE.RETIRE s ∧ get Reg.SPR_CORE.SEL s ≠ 15 then raisePost 929 0 [] t else t

theorem coreRetired_raised (m : Nat) (s : State) :
    (coreRetired m s).regs = (put Reg.SPR_CORE.RETIRE (get Reg.SPR_CORE.RETIRE s ||| m) s).regs ∧ OnlyEvents s (coreRetired m s) := by
  have written := (put_onlyRegisters Reg.SPR_CORE.RETIRE (get Reg.SPR_CORE.RETIRE s ||| m) s).onlyEvents
  unfold coreRetired
  dsimp only
  split
  · exact ⟨raisePost_regs .., written.trans (raisePost_onlyEvents ..)⟩
  · exact ⟨rfl, written⟩

/-- The USED bit of a drive's spare disc. -/
def spareUsed (d : Nat) : Fld := if d = 0 then Reg.SPR_DISC.USED0 else Reg.SPR_DISC.USED1

theorem spareUsed_keys : ∀ d < 2, ([spareUsed d, Reg.SPR_INV.DISCS, Reg.SPR_STAT.PROMOS].map Fld.key).Nodup ∧
    Reg.SPR_STAT.PROMOS.key ∉ [spareUsed d, Reg.SPR_INV.DISCS].map Fld.key ∧ (spareUsed d).width = 1 ∧
    (spareUsed d = Reg.SPR_DISC.USED0 ∨ spareUsed d = Reg.SPR_DISC.USED1) := by decide

/-- Settles O28: each row writes a few fields, and raises lines with their events. -/
theorem calibrationsAndSparesInService : Obligations.CalibrationsAndSparesInService := by
  unfold Obligations.CalibrationsAndSparesInService
  refine ⟨?due, ?overdue, ?done, ?doneHeld, ?retire, ?core8, ?refused, ?disc⟩
  case due =>
    intro k s hk ht hd hl
    have written : OnlyEvents (setCal { s.cal with dueAt := AMap.insert k (lifeSec s) s.cal.dueAt } s)
        (putBit Reg.CAL_DUE.DUE k true (setCal { s.cal with dueAt := AMap.insert k (lifeSec s) s.cal.dueAt } s)) := rfl
    have wrote : Wrote [(Reg.CAL_DUE.DUE, withBit (get Reg.CAL_DUE.DUE s) k true)] s
        (putBit Reg.CAL_DUE.DUE k true (setCal { s.cal with dueAt := AMap.insert k (lifeSec s) s.cal.dueAt } s)) := rfl
    refine .of_next ((unit_of_lt hk).trans (occurs_of ⟨ht, hd, hl⟩)) ⟨?_, (wrote.of_regs (raisePost_regs ..)).onlyRegs, ?_⟩
    · rw [bit_congr k (get_raisePost ..)]
      exact bit_putBit_self hk true _
    · exact (written.trans (raisePost_onlyEvents ..)).of_setCal
  case overdue =>
    intro k s hk ht hd ho hl
    have written : OnlyEvents s (post 0x721 0 [k] (putBit Reg.CAL_DUE.OVERDUE k true s)) := rfl
    have wrote : Wrote [(Reg.CAL_DUE.OVERDUE, withBit (get Reg.CAL_DUE.OVERDUE s) k true)] s
        (post 0x721 0 [k] (putBit Reg.CAL_DUE.OVERDUE k true s)) := rfl
    refine .of_next ((unit_of_lt hk).trans (occurs_of ⟨ht, hd, ho, hl⟩)) ⟨?_, (wrote.of_regs (raisePost_regs ..)).onlyRegs, ?_⟩
    · rw [bit_congr k (get_raisePost ..), bit_congr k (get_post ..)]
      exact bit_putBit_self hk true _
    · exact written.trans (raisePost_onlyEvents ..)
  case done =>
    intro v s hv
    have hk : v % 16 < 16 := Nat.mod_lt _ (by decide)
    have wrote := calDoneState_wrote (v % 16) (v / 16 % 4) s
    have keys := calDoneWrites_nodup hk (v / 16 % 4) s
    have counted {p : Fld × Nat} (hp : p ∈ calCounted (v % 16) (v / 16 % 4) s) : p ∈ calDoneWrites (v % 16) (v / 16 % 4) s :=
      List.mem_append_left _ hp
    have cleared (hr : v / 16 % 4 ≠ 2) {p : Fld × Nat} (hp : p ∈ calCleared (v % 16) s) : p ∈ calDoneWrites (v % 16) (v / 16 % 4) s :=
      List.mem_append_right _ (by rwa [if_neg hr])
    refine .of_next (exec_calDone_go hv) ⟨?_, ?_, fun hr => ⟨?_, ?_, ?_⟩, fun hr => ?_, ?_, calDoneState_frame ..⟩
    · rw [wrote.get_mem keys (counted (p := (_, v / 16 % 4)) (by simp [calCounted]))]
      exact Nat.mod_mod ..
    · exact wrote.get_mem keys (counted (by simp [calCounted]))
    · exact wrote.get_mem keys (cleared hr (by simp [calCleared]))
    · rw [bit_of_written (wrote.get_mem keys (cleared hr (p := (_, withBit (get Reg.CAL_DUE.DUE s) (v % 16) false)) (by simp [calCleared]))) hk,
        withBit_testBit_self]
    · rw [bit_of_written (wrote.get_mem keys (cleared hr (p := (_, withBit (get Reg.CAL_DUE.OVERDUE s) (v % 16) false)) (by simp [calCleared]))) hk,
        withBit_testBit_self]
    · refine wrote.get_ne ?_
      rw [calDoneWrites, if_pos hr, List.append_nil]
      exact calCounted_ne_life hk _ s
    · refine wrote.onlyRegs.mono (fun f hf => ?_)
      have listed := calDoneWrites_subset _ _ _ hf
      simp only [calDoneFields, List.mem_cons, List.not_mem_nil, or_false] at listed ⊢
      tauto
  case doneHeld =>
    intro v s hv
    have kind : bits v 0 4 = v % 16 := by simp [bits]
    refine .of_next (congrArg Host.Outcome.next (if_neg (by simp [hv]))) ⟨?_, ?_, ?_, puts_onlyRegisters _ s⟩
    · rw [get_puts_mem (by simp only [List.map_cons, List.map_nil]; decide) (List.mem_cons_self), kind]
      exact Nat.mod_mod ..
    · rw [get_puts_mem (by simp only [List.map_cons, List.map_nil]; decide) (List.mem_cons_of_mem _ (List.mem_cons_self))]
      exact Nat.mod_mod ..
    · exact Wrote.onlyRegs (l := [(Reg.CAL_DONE.KIND, bits v 0 4), (Reg.CAL_DONE.RESULT, bits v 4 2)]) rfl
  case retire =>
    intro m s
    obtain ⟨regs, events⟩ := coreRetired_raised m s
    have wrote : Wrote [(Reg.SPR_CORE.RETIRE, get Reg.SPR_CORE.RETIRE s ||| m)] s (redirectAll (coreRetired m s)) :=
      (redirectAll_regs _).trans regs
    exact .of_next rfl ⟨wrote.get_mem (List.nodup_singleton _) (List.mem_singleton_self _), wrote.onlyRegs, events.trans (redirectAll_onlyEvents _)⟩
  case core8 =>
    intro n s hn hs hr
    have core : Wrote [(Reg.SPR_CORE.SEL, n % 16)] s (put Reg.SPR_CORE.SEL (n % 16) (core8Started s)) := rfl
    have promos : Reg.SPR_STAT.PROMOS.key ∉ [Reg.SPR_CORE.SEL, Reg.SPR_INV.CORE].map Fld.key := by decide
    have wrote := ((core.promoted Reg.SPR_INV.CORE promos).of_regs (post_regs 0x760 0 [0, n % 16] _)).of_regs (redirectAll_regs _)
    have keys : (([Reg.SPR_CORE.SEL, Reg.SPR_INV.CORE, Reg.SPR_STAT.PROMOS]).map Fld.key).Nodup := by decide
    refine .of_next (exec_core8Select hn hs hr) ⟨?_, ?_, ?_, ?_, wrote.onlyRegs, ?_⟩
    · rw [wrote.get_mem keys (v := n % 16) (by simp)]
      exact Nat.mod_mod ..
    · exact wrote.get_mem keys (v := 0) (by simp)
    · exact wrote.get_mem keys (by simp)
    · rw [redirectAll_started, post_sys, promoted_started]
      exact core8Started_mem s
    · have role : OnlyEvents s (put Reg.SPR_CORE.SEL (n % 16) (core8Started s)) := rfl
      exact ((role.trans (promoted_onlyEvents ..)).trans (post_onlyEvents ..)).trans (redirectAll_onlyEvents _)
  case refused =>
    intro n s h
    exact .of_next (congrArg Host.Outcome.next (if_pos h)) ⟨get_put_self .., (Wrote.nil s |>.put _ _).onlyRegs, put_onlyRegisters ..⟩
  case disc =>
    intro d s hd hu
    refine .of_next ((unit_of_lt hd).trans (occurs_of hu)) ?_
    obtain ⟨keys, promos, width, listed⟩ := spareUsed_keys d hd
    have written : OnlyEvents s (post 0x760 0 [1, d] (puts [(spareUsed d, 1), (Reg.SPR_INV.DISCS, get Reg.SPR_INV.DISCS s - 1)] s)) :=
      (puts_onlyRegisters _ s).onlyEvents.trans (post_onlyEvents ..)
    have disc : Wrote [(spareUsed d, 1), (Reg.SPR_INV.DISCS, get Reg.SPR_INV.DISCS s - 1)] s
        (post 0x760 0 [1, d] (puts [(spareUsed d, 1), (Reg.SPR_INV.DISCS, get Reg.SPR_INV.DISCS s - 1)] s)) := rfl
    have wrote := (disc.bump (f := Reg.SPR_STAT.PROMOS) promos).of_regs (promotion_regs (get Reg.SPR_INV.DISCS s - 1 == 0) _)
    refine ⟨?_, ?_, wrote.onlyRegs.mono ?_, written.trans (promotion_onlyEvents ..)⟩
    · refine (wrote.get_mem keys (f := spareUsed d) (v := 1) (by simp)).trans ?_
      rw [width]
      rfl
    · exact wrote.get_mem keys (by simp)
    · rcases listed with e | e <;> simp [e]

end Sys2Proof.Machine

namespace Sys2Proof.Machine

open Sys2Proof

/-! ### An image that verifies (R52, R53, R55) -/

/-- A section entry: type, offset, size and load address (R52). -/
def sectionEntry (type offset size load : Nat) : List Nat :=
  bytesOf 2 type ++ bytesOf 2 0 ++ bytesOf 4 offset ++ bytesOf 4 size ++ bytesOf 4 0 ++ bytesOf 8 load

/-- The signed part of an image: a header and five sections, of which only the firmware holds a byte. Its load address lies in the channel sector
buffers, in the region of the optical channel (R201). -/
def signedPart : List Nat :=
  bytesOf 4 0x584E5445 ++ bytesOf 2 1 ++ bytesOf 2 1024 ++ bytesOf 4 152 ++ bytesOf 4 0 ++ bytesOf 4 0x8650 ++ [0, 5] ++ bytesOf 2 0 ++ bytesOf 8 0
  ++ sectionEntry 1 0 0 0 ++ sectionEntry 4 0 0 0 ++ sectionEntry 5 0 1 0x283C0000 ++ sectionEntry 6 0 0 0 ++ sectionEntry 7 0 0 0

/-- The digest of the signed part as a number, high byte first. -/
def signedDigest : Nat :=
  0x4153ce95a01e64d9fd3bc8fed6ce89abaa7ae8fd1215be197b9720a1e2c6a4ad80f5bca8ef45f20a479cf52102db0e292b1ff5f4ac1fc29024215715223dd1bf

/-- The public key is the difference of the point of the curve whose X is the digest and the base point. With the digest as both parts of the signature, both
factors of the check are 1, and the sum of base point and key has that X. -/
def verifyingKey : List Nat :=
  beBytes 66 0xcba20e6509266d5ae9a65075ad3982168872f2608be071a009c33ce4b64c8a387ec75b7952c13fb632b8c0887cb1ae3f9fa2e34c8fd063ddbfc55045deaa43e422
  ++ beBytes 66 0x63a795d1e9247dd06b79617fd35087746d9a92c3e5367ff7c76cac464c9e61505f0b01865b7dd51ff3dac8b639184722379cb2bb89744054e0aaaa30e001ea9283

/-- The slot's bytes: the signature follows the signed part, and the key stands at offset 1A0H. -/
def verifiedSlot : List Nat :=
  signedPart ++ beBytes 66 signedDigest ++ beBytes 66 signedDigest ++ List.replicate 132 0 ++ verifyingKey

/-! ### A boot that a stray job disturbs (R389, R394) -/

/-- A boot of that image is due. Its firmware's word holds an uncorrectable error, and the optical channel runs a job of slot 311,292: the stride of
4 bytes of OCH_RESULT ends for this number at BOOT_STAT. -/
def strayJobBoot : State :=
  { pins := { resetN := true }
    boot := { awaitBoot := true, slotA := verifiedSlot, fuses := [{ hash := some (hash verifyingKey) }, {}, {}, {}] }
    memp := { upsets := [(upsetKey 4 0x283C0000, (2, none, false, 0))] }
    och := { job := some ⟨1, 311292, 0, 0, .command⟩ } }

/-- The image gives no ball words, presets or register values. -/
def givesNoWrites (i : Image) : Bool := i.presets.isEmpty && i.padWords.isEmpty && i.fields.isEmpty

theorem strayJobBoot_image : (slotSelect strayJobBoot).2.1.any (fun p => givesNoWrites p.2) = true := by decide +kernel

/-- What BOOT_START leaves. -/
def strayJobBooted : State := bootRom preset (romRuns (bringupEvents { strayJobBoot with pins := { strayJobBoot.pins with pfailN := true } }))

theorem exec_bootStart_strayJob : exec (.bootStart 100) strayJobBoot = .next strayJobBooted := occurs_of (by decide)

/-- The store of the firmware's byte reads its word, the job ends FAILED, and its code 2 reads in BOOT_STAT.SLOT. -/
theorem strayJobBooted_slot : get Reg.BOOT_STAT.SLOT strayJobBooted = 2 := by decide +kernel

/-- Refutes O22: its last clause has BOOT_STAT.SLOT name the slot booted in every state, also where the optical channel's record holds a job of a slot that
it does not have; the load of the image ends that job, whose result is then written over BOOT_STAT. -/
theorem not_releasesAndTheBootRom : ¬ Obligations.ReleasesAndTheBootRom := by
  unfold Obligations.ReleasesAndTheBootRom
  rintro ⟨-, -, -, -, verified⟩
  obtain ⟨t, ht, -, loaded⟩ := verified 100 strayJobBoot (by decide) rfl rfl rfl rfl rfl rfl (by decide)
  obtain rfl : strayJobBooted = t := Host.Outcome.next.inj (exec_bootStart_strayJob.symm.trans ht)
  obtain ⟨p, picked, empty⟩ := Option.any_eq_true _ _ |>.1 strayJobBoot_image
  rw [picked, Option.all_some] at loaded
  unfold givesNoWrites at empty
  simp only [empty, Bool.not_true, Bool.false_or, Bool.and_eq_true, beq_iff_eq, strayJobBooted_slot] at loaded
  omega

end Sys2Proof.Machine

namespace Sys2Proof.Machine

open Sys2Proof

section
variable {s t u v : State} {l k : List Fld}

/-! ### Frames of the host ports -/

theorem OnlyRegs.append (h : OnlyRegs l s t) (h' : OnlyRegs k t u) : OnlyRegs (l ++ k) s u :=
  (h.mono (List.subset_append_left ..)).trans (h'.mono (List.subset_append_right ..))

/-- Fields of listed blocks alone may have changed. -/
theorem OnlyRegs.onlyBlocks {b : List Nat} (h : OnlyRegs l s t) (hb : ∀ n ∈ l.map Fld.key, regBlock (n / 32) ∈ b) : OnlyBlocks b s t :=
  fun f hf => h f fun hm => hf (hb _ hm)

theorem OnlyBlocks.trans {b : List Nat} (h : OnlyBlocks b s t) (h' : OnlyBlocks b t u) : OnlyBlocks b s u :=
  fun f hf => (h' f hf).trans (h f hf)

theorem OnlyEvents.cmd (h : OnlyEvents s t) : t.cmd = s.cmd := by rw [h]

theorem OnlyEvents.host (h : OnlyEvents s t) : t.host = { s.host with msixPend := t.host.msixPend } := congrArg State.host h

theorem OnlyEvents.pins (h : OnlyEvents s t) : t.pins = s.pins := by rw [h]

/-- Nothing but the command store, registers and events have changed. -/
theorem OnlyEvents.of_setCmd {c : CmdSt} (h : OnlyEvents (setCmd c s) t) :
    t = { s with regs := t.regs, cmd := t.cmd, sys := t.sys, evr := t.evr, sent := t.sent, host := { s.host with msixPend := t.host.msixPend } } := by
  rw [h]
  rfl

/-- Nothing but the host ports' own record, registers and events have changed. -/
theorem OnlyEvents.of_setHost {r : HostSt} (h : OnlyEvents (setHost r s) t) :
    t = { s with regs := t.regs, host := t.host, sys := t.sys, evr := t.evr, sent := t.sent } := by
  rw [h]
  rfl

/-- Nothing but the pins, registers and events have changed. -/
theorem OnlyEvents.of_setPins {p : Pins} (h : OnlyEvents { s with pins := p } t) :
    t = { s with regs := t.regs, pins := t.pins, sys := t.sys, evr := t.evr, sent := t.sent, host := { s.host with msixPend := t.host.msixPend } } := by
  rw [h]

theorem OnlyEvents.setCmd (c : CmdSt) (h : OnlyEvents s t) : OnlyEvents (setCmd c s) (setCmd c t) := by
  unfold OnlyEvents
  rw [h]
  rfl

theorem msixFlush_regs (s : State) : (msixFlush s).regs = s.regs := rfl

theorem msixFlush_onlyEvents (s : State) : OnlyEvents s (msixFlush s) := rfl

/-! ### Demands (R350) -/

/-- A port's demand has its mode and level; its change bit and events are all else that has changed. -/
structure Demanded (fm fl fc : Fld) (m level : Nat) (s t : State) : Prop where
  mode : get fm t = m
  level : get fl t = level
  regs : OnlyRegs [fm, fl, fc] s t
  events : OnlyEvents s t

theorem setDemand_demanded {p : Port} {fm fl fc : Fld} {src : Nat} (hp : demandOf p = some (fm, fl, fc, src))
    (keys : ([fm, fl, fc].map Fld.key).Nodup) {m level : Nat} (hm : m < 2 ^ fm.width) (hl : level < 2 ^ fl.width) (s : State) :
    Demanded fm fl fc m level s (setDemand p m level s) := by
  rw [setDemand, hp]
  dsimp only
  split
  next h => exact ⟨h.1, h.2, fun _ _ => rfl, rfl⟩
  next =>
    have row : Wrote [(fm, m), (fl, level), (fc, 1)] s (put fc 1 (puts [(fm, m), (fl, level)] s)) := rfl
    have wrote := row.of_regs (linePost_regs src fc 1 0 [m, level] _)
    refine ⟨?_, ?_, wrote.onlyRegs, (puts_onlyRegisters _ s).onlyEvents.trans (linePost_onlyEvents ..)⟩
    · exact (wrote.get_mem keys (v := m) (by simp)).trans (Nat.mod_eq_of_lt hm)
    · exact (wrote.get_mem keys (v := level) (by simp)).trans (Nat.mod_eq_of_lt hl)

theorem setDemand_pcie {m level : Nat} (hm : m < 8) (hl : level < 256) (s : State) :
    Demanded Reg.HPC_DEMAND.MODE Reg.HPC_DEMAND.LEVEL Reg.HPC_DEMAND.CHG m level s (setDemand .pcie m level s) :=
  setDemand_demanded rfl (by decide) hm hl s

theorem setDemand_sata {m level : Nat} (hm : m < 8) (hl : level < 256) (s : State) :
    Demanded Reg.HST_DEMAND.MODE Reg.HST_DEMAND.LEVEL Reg.HST_DEMAND.CHG m level s (setDemand .sata m level s) :=
  setDemand_demanded rfl (by decide) hm hl s

/-- The port is SAS port k. -/
def IsSasPort (p : Port) (k : Nat) : Prop := p = .sas0 ∧ k = 0 ∨ p = .sas1 ∧ k = 1

theorem IsSasPort.isSas {p : Port} {k : Nat} (h : IsSasPort p k) : isSas p = true := by
  rcases h with ⟨rfl, -⟩ | ⟨rfl, -⟩ <;> rfl

theorem IsSasPort.sasPort {p : Port} {k : Nat} (h : IsSasPort p k) : sasPort p = k := by
  rcases h with ⟨rfl, rfl⟩ | ⟨rfl, rfl⟩ <;> rfl

theorem IsSasPort.lt {p : Port} {k : Nat} (h : IsSasPort p k) : k < 2 := by
  rcases h with ⟨-, rfl⟩ | ⟨-, rfl⟩ <;> decide

theorem isSasPort_of_isSas {p : Port} (h : isSas p = true) : IsSasPort p (sasPort p) := by
  cases p with
  | sas0 => exact .inl ⟨rfl, rfl⟩
  | sas1 => exact .inr ⟨rfl, rfl⟩
  | _ => exact Bool.noConfusion h

theorem setDemand_sas {p : Port} (hp : isSas p = true) {m level : Nat} (hm : m < 8) (hl : level < 256) (s : State) :
    Demanded Reg.HSA_DEMAND.MODE Reg.HSA_DEMAND.LEVEL Reg.HSA_DEMAND.CHG m level s (setDemand p m level s) := by
  rcases isSasPort_of_isSas hp with ⟨rfl, -⟩ | ⟨rfl, -⟩ <;> exact setDemand_demanded rfl (by decide) hm hl s

/-! ### Lanes (R339) -/

/-- The lanes of a list are marked failed. -/
def lanesFailed (l : List Nat) (s : State) : State := l.foldl (fun u n => putBit Reg.HPC_HLANE.FAILED n true u) s

theorem lanesFailed_onlyRegs (l : List Nat) (s : State) : OnlyRegs [Reg.HPC_HLANE.FAILED] s (lanesFailed l s) := by
  induction l generalizing s with
  | nil => exact fun _ _ => rfl
  | cons n l ih => exact OnlyRegs.trans (fun f hf => get_put_ne (fun e => hf (List.mem_singleton.2 e)) ..) (ih _)

theorem lanesFailed_onlyRegisters (l : List Nat) (s : State) : OnlyRegisters s (lanesFailed l s) := by
  induction l generalizing s with
  | nil => exact rfl
  | cons n l ih => exact (put_onlyRegisters ..).trans (ih _)

theorem lanesFailed_keeps {n : Nat} (hn : n < 7) (l : List Nat) {s : State} (h : bit Reg.HPC_HLANE.FAILED n s = true) :
    bit Reg.HPC_HLANE.FAILED n (lanesFailed l s) = true := by
  induction l generalizing s with
  | nil => exact h
  | cons i l ih => exact ih (bit_putBit_true i h hn)

theorem lanesFailed_first {n : Nat} (hn : n < 7) (l : List Nat) (s : State) : bit Reg.HPC_HLANE.FAILED n (lanesFailed (n :: l) s) = true :=
  lanesFailed_keeps hn l (bit_putBit_self hn true s)

/-- The lanes that have failed since the last report, lowest first. -/
def lanesGone (l : List Nat) (s : State) : List Nat := (List.range 7).filter (fun n => l.contains n && !(s.host.dead.contains n))

theorem lanesGone_lt {l d : List Nat} {n : Nat} (h : lanesGone l s = n :: d) : n < 7 := by
  have listed : n ∈ lanesGone l s := h ▸ List.mem_cons_self
  exact List.mem_range.1 (List.mem_filter.1 listed).1

/-- The lanes marked failed and dead. -/
def lanesLost (l : List Nat) (s : State) : State := setHost { s.host with dead := s.host.dead ++ l } (lanesFailed l s)

theorem lanesLost_frame (l : List Nat) (s : State) :
    lanesLost l s = { s with regs := (lanesLost l s).regs, host := { s.host with dead := s.host.dead ++ l } } := by
  have failed := lanesFailed_onlyRegisters l s
  unfold lanesLost
  generalize lanesFailed l s = u at failed ⊢
  rw [failed]
  rfl

theorem lanesLost_onlyEvents (l : List Nat) (s : State) : OnlyEvents (setHost { s.host with dead := s.host.dead ++ l } s) (lanesLost l s) := by
  unfold OnlyEvents
  rw [lanesLost_frame]
  rfl

theorem exec_hostLanePromotion_none {l : List Nat} (h : lanesGone l s = []) : exec (.hostLanePromotion l) s = .next s := by
  rw [show exec (.hostLanePromotion l) s = execHostLanePromotion l s from rfl, execHostLanePromotion]
  rw [show (List.range 7).filter (fun n => l.contains n && !(s.host.dead.contains n)) = [] from h]

theorem exec_hostLanePromotion {l d : List Nat} {n : Nat} (h : lanesGone l s = n :: d) :
    exec (.hostLanePromotion l) s = .next (if get Reg.HPC_HLANE.AUTO s = 1 ∧ get Reg.HPC_HLANE.SEL s = 7 then
      promoted Reg.SPR_INV.HOST (raisePost 515 0 [n] (put Reg.HPC_HLANE.SEL n (lanesLost (n :: d) s))) else lanesLost (n :: d) s) := by
  rw [show exec (.hostLanePromotion l) s = execHostLanePromotion l s from rfl, execHostLanePromotion]
  dsimp only
  rw [show (List.range 7).filter (fun n => l.contains n && !(s.host.dead.contains n)) = n :: d from h]
  rfl

/-! ### Links (R340, R343, R350) -/

theorem exec_hostLinkUp {p : Port} {r w : Nat} (ht : portsTrain s = true) (h : linkUp p r w s = some t) :
    exec (.hostLinkUp p r w) s = .next (setDemand p 3 255 t) := by
  rw [show exec (.hostLinkUp p r w) s = execHostLinkUp p r w s from rfl, execHostLinkUp, h]
  exact occurs_of ht

/-- What a PCIe link that trains at rate r and width w writes. -/
def pcieUpWrites (r w : Nat) : List (Fld × Nat) :=
  [(Reg.HPC_LINK.SPEED, r), (Reg.HPC_LINK.WIDTH, w), (Reg.HPC_LINK.UP, 1), (Reg.HPC_LINK.L1, 0), (Reg.SYS_CLK_STAT.REFCLK_OK, 1)]

/-- The link is up, and the messages that waited for it have gone out. -/
def pcieTrained (r w : Nat) (s : State) : State :=
  msixFlush (raisePost 512 0 [r, w] (puts (pcieUpWrites r w) { s with pins := { s.pins with refclk := true } }))

theorem pcieTrained_wrote (r w : Nat) (s : State) : Wrote (pcieUpWrites r w) s (pcieTrained r w s) := by
  rw [Wrote, pcieTrained, msixFlush_regs, raisePost_regs]
  exact puts_congr _ rfl

theorem pcieTrained_onlyEvents (r w : Nat) (s : State) : OnlyEvents { s with pins := { s.pins with refclk := true } } (pcieTrained r w s) :=
  ((puts_onlyRegisters ..).onlyEvents.trans (raisePost_onlyEvents ..)).trans (msixFlush_onlyEvents _)

/-- What a SATA link writes as it trains, at rate r, and as it goes down. -/
def sataWrites (r up : Nat) : List (Fld × Nat) := [(Reg.HST_LINK.GEN, r), (Reg.HST_LINK.UP, up), (Reg.HST_LINK.PSTATE, 0)]

/-- The same of a SAS link. -/
def sasWrites (k r up : Nat) : List (Fld × Nat) := [(Reg.HSA_LINK.RATE k, r), (Reg.HSA_LINK.UP k, up), (Reg.HSA_LINK.PSTATE k, 0)]

/-- Fields and an event line with them. -/
theorem raised_wrote (n u : Nat) (p : List Nat) (w : List (Fld × Nat)) (s : State) :
    Wrote w s (raisePost n u p (puts w s)) ∧ OnlyEvents s (raisePost n u p (puts w s)) :=
  ⟨raisePost_regs .., (puts_onlyRegisters ..).onlyEvents.trans (raisePost_onlyEvents ..)⟩

theorem linkUp_sas {p : Port} {r w k : Nat} (hp : IsSasPort p k) (hu : get (Reg.HSA_LINK.UP k) s = 0) (he : get (Reg.HSA_CFG.EN k) s = 1)
    (hr : r ≤ get (Reg.HSA_CFG.MAX_RATE k) s) (hl : laneWorks (4 + k) s = true) :
    linkUp p r w s = some (raisePost (544 + k) k [r] (puts (sasWrites k r 1) s)) := by
  rcases hp with ⟨rfl, rfl⟩ | ⟨rfl, rfl⟩ <;> exact if_pos ⟨rfl, hu, he, hr, hl⟩

/-- The fields of a SAS port's link are its own, and apart from the demand that the two ports share. -/
theorem sasLink_keys : ∀ k < 2, ([Reg.HSA_LINK.RATE k, Reg.HSA_LINK.UP k, Reg.HSA_LINK.PSTATE k].map Fld.key).Nodup ∧
    (Reg.HSA_LINK.RATE k).key ∉ [Reg.HSA_DEMAND.MODE, Reg.HSA_DEMAND.LEVEL, Reg.HSA_DEMAND.CHG].map Fld.key ∧
    (Reg.HSA_LINK.UP k).key ∉ [Reg.HSA_DEMAND.MODE, Reg.HSA_DEMAND.LEVEL, Reg.HSA_DEMAND.CHG].map Fld.key ∧
    Reg.HSA_DEMAND.MODE.key ∉ [Reg.HSA_LINK.RATE k, Reg.HSA_LINK.UP k, Reg.HSA_LINK.PSTATE k].map Fld.key ∧
    (Reg.HSA_LINK.RATE k).width = 2 ∧ (Reg.HSA_LINK.UP k).width = 1 := by decide

/-- The commands stamped from PCIe have left the store; nothing else but its own record, registers and events has changed. -/
def PcieDropped (s t : State) : Prop :=
  ∃ c : CmdSt, c.ctxs = s.cmd.ctxs.filter (fun x => x.cmd.port != .pcie) ∧ OnlyEvents (setCmd c s) t

theorem PcieDropped.then (h : PcieDropped s t) (k : OnlyEvents t u) : PcieDropped s u :=
  let ⟨c, ctxs, events⟩ := h
  ⟨c, ctxs, events.trans k⟩

theorem PcieDropped.ctxs (h : PcieDropped s t) : t.cmd.ctxs = s.cmd.ctxs.filter (fun x => x.cmd.port != .pcie) := by
  obtain ⟨c, ctxs, events⟩ := h
  rw [events.cmd]
  exact ctxs

/-- A self-test that its port's reset ends. -/
theorem testEnds_onlyRegs (n : Nat) (s : State) : OnlyRegs [Reg.CMD_ST_STAT.STATE] s (testEnds n s) :=
  have wrote : Wrote [(Reg.CMD_ST_STAT.STATE, 0)] s (testEnds n s) := raisePost_regs ..
  wrote.onlyRegs

theorem PcieDropped.testEnds (n : Nat) (h : PcieDropped s t) : PcieDropped s (testEnds n t) := by
  obtain ⟨c, ctxs, events⟩ := h
  have ended : ∃ r p, Machine.testEnds n t = raisePost 610 0 p (put Reg.CMD_ST_STAT.STATE 0 (Machine.setCmd r t)) ∧ r.ctxs = t.cmd.ctxs :=
    ⟨_, _, rfl, rfl⟩
  obtain ⟨r, p, out, kept⟩ := ended
  rw [events.cmd] at kept
  rw [out]
  exact ⟨r, kept.trans ctxs, ((events.setCmd r).trans (put_onlyRegisters ..).onlyEvents).trans (raisePost_onlyEvents ..)⟩

/-- The fields that the reset of a port counts anew. -/
def clearFields : List Fld := [Reg.CMD_POOL_STAT.USED, Reg.CMD_EXEC_STAT.EXEC, Reg.CMD_ST_STAT.STATE]

theorem dropPort_onlyRegs (p : Port) (s : State) : OnlyRegs [Reg.CMD_POOL_STAT.USED, Reg.CMD_EXEC_STAT.EXEC] s (dropPort p s) := by
  unfold dropPort
  generalize hc : Machine.setCmd _ s = t
  have kept : t.regs = s.regs := by rw [← hc]; rfl
  have wrote : Wrote [(Reg.CMD_POOL_STAT.USED, t.cmd.ctxs.length), (Reg.CMD_EXEC_STAT.EXEC, (t.cmd.ctxs.filter (·.started)).length)] s (countCtxs t) :=
    puts_congr _ kept
  exact wrote.onlyRegs

theorem portClear_pcie (s : State) : OnlyRegs clearFields s (portClear .pcie s) ∧ PcieDropped s (portClear .pcie s) := by
  have regs := dropPort_onlyRegs .pcie s
  have dropped : PcieDropped s (dropPort .pcie s) := ⟨_, rfl, (puts_onlyRegisters ..).onlyEvents⟩
  have reduced : portClear .pcie s
      = if (dropPort .pcie s).cmd.testBy = some .pcie then testEnds 2 (dropPort .pcie s) else dropPort .pcie s := rfl
  rw [reduced]
  split
  · exact ⟨regs.append (testEnds_onlyRegs 2 _), dropped.testEnds 2⟩
  · exact ⟨regs.mono (by simp [clearFields]), dropped⟩

/-- What a PCIe link-down writes. -/
def downWrites : List (Fld × Nat) :=
  [(Reg.HPC_LINK.SPEED, 0), (Reg.HPC_LINK.WIDTH, 0), (Reg.HPC_LINK.UP, 0), (Reg.HPC_LINK.L1, 0), (Reg.HPC_PM.DSTATE, 0), (Reg.HPC_PM.PS, 0)]

/-- The PCIe link is down. -/
structure LinkDown (s t : State) : Prop where
  off : ∀ f ∈ downWrites.map Prod.fst, get f t = 0
  regs : OnlyRegs (clearFields ++ downWrites.map Prod.fst) s t
  dropped : PcieDropped s t

theorem pcieDown_linkDown (s : State) : LinkDown s (pcieDown s) := by
  obtain ⟨regs, dropped⟩ := portClear_pcie s
  have told : OnlyRegs clearFields s (if get Reg.HPC_LINK.UP s = 1 then raisePost 512 0 [0, 0] (portClear .pcie s) else portClear .pcie s) ∧
      PcieDropped s (if get Reg.HPC_LINK.UP s = 1 then raisePost 512 0 [0, 0] (portClear .pcie s) else portClear .pcie s) := by
    split
    · exact ⟨regs.trans (.of_regs _ (raisePost_regs ..)), dropped.then (raisePost_onlyEvents ..)⟩
    · exact ⟨regs, dropped⟩
  unfold pcieDown
  dsimp only
  generalize (if get Reg.HPC_LINK.UP s = 1 then raisePost 512 0 [0, 0] (portClear .pcie s) else portClear .pcie s) = u at told ⊢
  obtain ⟨regs, dropped⟩ := told
  have wrote : Wrote downWrites u (puts downWrites u) := rfl
  refine ⟨fun f hf => ?_, regs.append wrote.onlyRegs, dropped.then (puts_onlyRegisters ..).onlyEvents⟩
  obtain ⟨⟨g, n⟩, hp, rfl⟩ := List.mem_map.1 hf
  have zero : n = 0 := by
    have all : ∀ p ∈ downWrites, p.2 = 0 := by decide
    exact all _ hp
  exact (wrote.get_mem (by decide) hp).trans (by rw [zero, Nat.zero_mod])

/-- The demand fields of PCIe. -/
def demandFields : List Fld := [Reg.HPC_DEMAND.MODE, Reg.HPC_DEMAND.LEVEL, Reg.HPC_DEMAND.CHG]

/-- The PCIe link is down, and its demand has a mode and level 0. -/
structure LinkEnded (m : Nat) (s t : State) : Prop where
  off : ∀ f ∈ downWrites.map Prod.fst, get f t = 0
  mode : get Reg.HPC_DEMAND.MODE t = m
  level : get Reg.HPC_DEMAND.LEVEL t = 0
  regs : OnlyRegs (clearFields ++ downWrites.map Prod.fst ++ demandFields) s t
  dropped : PcieDropped s t

theorem pcieDown_ended {m : Nat} (hm : m < 8) (s : State) : LinkEnded m s (setDemand .pcie m 0 (pcieDown s)) := by
  have down := pcieDown_linkDown s
  have demand := setDemand_pcie hm (level := 0) (by decide) (pcieDown s)
  have apart : ∀ f ∈ downWrites.map Prod.fst, f.key ∉ demandFields.map Fld.key := by decide
  exact ⟨fun f hf => (demand.regs f (apart f hf)).trans (down.off f hf), demand.mode, demand.level, down.regs.append demand.regs,
    down.dropped.then demand.events⟩

theorem LinkEnded.raised {m : Nat} (h : LinkEnded m s t) (n w : Nat) (p : List Nat) : LinkEnded m s (raisePost n w p t) :=
  ⟨fun f hf => (get_raisePost ..).trans (h.off f hf), (get_raisePost ..).trans h.mode, (get_raisePost ..).trans h.level,
    h.regs.trans (.of_regs _ (raisePost_regs ..)), h.dropped.then (raisePost_onlyEvents ..)⟩

/-- REFCLK is gone, and its bit shows it. -/
def refclkLost (s : State) : State := put Reg.SYS_CLK_STAT.REFCLK_OK 0 { s with pins := { s.pins with refclk := false } }

theorem refclkLost_onlyRegs (s : State) : OnlyRegs [Reg.SYS_CLK_STAT.REFCLK_OK] s (refclkLost s) :=
  Wrote.onlyRegs (l := [(Reg.SYS_CLK_STAT.REFCLK_OK, 0)]) rfl

theorem refclkLost_frame {c : CmdSt} (h : OnlyEvents (setCmd c (refclkLost s)) t) :
    t.pins.refclk = false ∧ t = { s with regs := t.regs, pins := t.pins, cmd := t.cmd, sys := t.sys, evr := t.evr, sent := t.sent
                                         host := { s.host with msixPend := t.host.msixPend } } ∧ SameMem s t := by
  refine ⟨?_, ?_, fun a => ?_⟩
  · rw [h.pins]
    rfl
  · rw [h]
    rfl
  · rw [h]
    rfl

theorem exec_pcieRefclkLoss (n : Nat) (s : State) : exec (.pcieRefclkLoss n) s
    = .next (if 10000 < n ∧ get Reg.HPC_LINK.UP s = 1 then setDemand .pcie 0 0 (pcieDown (refclkLost s)) else refclkLost s) := rfl

/-- PERST_N has moved, with the bit that shows it, and D3cold is entered or left. -/
def perstMoved (b : Bool) (cold : Bool) (s : State) : State :=
  setHost { s.host with d3cold := cold } (put Reg.HPC_LINK.PERST (b2n b) { s with pins := { s.pins with perstN := b } })

theorem perstMoved_onlyRegs (b cold : Bool) (s : State) : OnlyRegs [Reg.HPC_LINK.PERST] s (perstMoved b cold s) :=
  Wrote.onlyRegs (l := [(Reg.HPC_LINK.PERST, b2n b)]) rfl

theorem perstMoved_pin (b cold : Bool) (s : State) : get Reg.HPC_LINK.PERST (perstMoved b cold s) = b2n b := by
  refine (get_put_self ..).trans ?_
  cases b <;> rfl

/-- What an operation on the store and its events leaves after the pin has moved. -/
theorem perstMoved_frame {b cold : Bool} {c : CmdSt} (h : OnlyEvents (setCmd c (perstMoved b cold s)) t) :
    t.pins.perstN = b ∧ t = { s with regs := t.regs, pins := t.pins, host := t.host, cmd := t.cmd, sys := t.sys, evr := t.evr, sent := t.sent } ∧
      SameMem s t := by
  refine ⟨?_, ?_, fun a => ?_⟩
  · rw [h.pins]
    rfl
  · rw [h]
    rfl
  · rw [h]
    rfl

theorem perstMoved_shown {b cold : Bool} (h : OnlyEvents (perstMoved b cold s) t) :
    t.pins.perstN = b ∧ t.host.d3cold = cold ∧
      t = { s with regs := t.regs, pins := t.pins, host := t.host, sys := t.sys, evr := t.evr, sent := t.sent } ∧ SameMem s t := by
  refine ⟨?_, ?_, ?_, fun a => ?_⟩
  · rw [h.pins]
    rfl
  · rw [h.host]
    rfl
  · rw [h]
    rfl
  · rw [h]
    rfl

/-- A fundamental reset that enters D3cold where the power state was D3hot under D3C_STBY. -/
def entersD3cold (s : State) : Bool := decide (get Reg.HPC_PM.DSTATE s = 3 ∧ get Reg.HPC_PM.D3C_STBY s = 1)

theorem exec_perstNAssert (hp : s.pins.perstN = true) : exec .perstNAssert s = .next (raisePost 514 0 []
    (setDemand .pcie (if entersD3cold s then 1 else 0) 0 (pcieDown (perstMoved false (entersD3cold s) s)))) := occurs_of hp

theorem exec_perstNRelease (hp : s.pins.perstN = false) : exec .perstNRelease s
    = .next (if s.host.d3cold then setDemand .pcie 0 0 (perstMoved true false s) else perstMoved true s.host.d3cold s) := occurs_of hp

/-! ### Commands of a new initiator (R345) -/

/-- Nothing has changed but registers of the blocks HSA and CMD, the host ports, the command store and events. -/
structure Arrived (s t : State) : Prop where
  blocks : OnlyBlocks [17, 19] s t
  frame : t = { s with regs := t.regs, host := t.host, cmd := t.cmd, sys := t.sys, evr := t.evr, sent := t.sent }

theorem Arrived.refl (s : State) : Arrived s s := ⟨fun _ _ => rfl, rfl⟩

theorem Arrived.trans (h : Arrived s t) (k : Arrived t u) : Arrived s u := by
  refine ⟨h.blocks.trans k.blocks, ?_⟩
  rw [k.frame, h.frame]

theorem Arrived.sameMem (h : Arrived s t) : SameMem s t := by
  intro a
  rw [h.frame]
  rfl

theorem Arrived.of_events (h : OnlyEvents s t) (r : OnlyRegs l s t) (hl : ∀ n ∈ l.map Fld.key, regBlock (n / 32) ∈ [17, 19]) : Arrived s t := by
  refine ⟨r.onlyBlocks hl, ?_⟩
  rw [h]

/-- A SAS port's link may have woken. -/
structure Woken (s t : State) : Prop where
  frame : OnlyRegisters s t
  blocks : OnlyBlocks [17] s t

theorem wakeLink_sas {p : Port} (hp : isSas p = true) (s : State) : Woken s (wakeLink p s) := by
  rcases isSasPort_of_isSas hp with ⟨rfl, -⟩ | ⟨rfl, -⟩
  · exact ⟨rfl, (Wrote.onlyRegs (l := [(Reg.HSA_LINK.PSTATE 0, 0)]) rfl).onlyBlocks (by decide)⟩
  · exact ⟨rfl, (Wrote.onlyRegs (l := [(Reg.HSA_LINK.PSTATE 1, 0)]) rfl).onlyBlocks (by decide)⟩

theorem Woken.arrived (h : Woken s t) : Arrived s t := by
  refine ⟨fun f hf => h.blocks f fun hm => hf (List.mem_singleton.1 hm ▸ List.mem_cons_self), ?_⟩
  rw [h.frame]

theorem Woken.storeRuns (h : Woken s t) : storeRuns t = storeRuns s := by
  rw [Machine.storeRuns, Machine.storeRuns, Machine.mode, Machine.mode, h.blocks Reg.CMD_CTL.EN (by decide), h.blocks Reg.SYS_MODE.CUR (by decide), h.frame.boot]

theorem Woken.host (h : Woken s t) : t.host = s.host := by rw [h.frame]

theorem takeNexus_new {c : HostCmd} (hp : isSas c.port = true) (hn : s.host.nexus.contains (nexusOf c) = false) :
    takeNexus c s = setHost { s.host with nexus := s.host.nexus ++ [nexusOf c] } s :=
  if_pos ⟨hp, by rw [hn]; rfl⟩

/-- What a command's stamp writes of the store, before its port's demand returns to SERVICE. -/
def stamped (x y : Nat) (r : CmdSt) (s : State) : State :=
  countCtxs (puts [(Reg.CMD_STAMP_LO.STAMP, x), (Reg.CMD_STAMP_HI.STAMP, y)] (Machine.setCmd r s))

theorem stamped_arrived (x y : Nat) (r : CmdSt) (s : State) : Arrived s (stamped x y r s) ∧ (stamped x y r s).host.nexus = s.host.nexus := by
  have stamp : Wrote [(Reg.CMD_STAMP_LO.STAMP, x), (Reg.CMD_STAMP_HI.STAMP, y)] s
    (puts [(Reg.CMD_STAMP_LO.STAMP, x), (Reg.CMD_STAMP_HI.STAMP, y)] (Machine.setCmd r s)) := rfl
  have regs : OnlyRegs [Reg.CMD_STAMP_LO.STAMP, Reg.CMD_STAMP_HI.STAMP, Reg.CMD_POOL_STAT.USED, Reg.CMD_EXEC_STAT.EXEC] s (stamped x y r s) :=
    (stamp.puts [(Reg.CMD_POOL_STAT.USED, _), (Reg.CMD_EXEC_STAT.EXEC, _)]).onlyRegs
  have events : OnlyEvents (Machine.setCmd r s) (stamped x y r s) :=
    ((puts_onlyRegisters _ _).trans (puts_onlyRegisters _ _)).onlyEvents
  generalize stamped x y r s = t at regs events ⊢
  refine ⟨⟨regs.onlyBlocks (by decide), ?_⟩, ?_⟩
  · rw [events]
    rfl
  · rw [events.host]
    rfl

theorem setDemand_arrived {p : Port} (hp : isSas p = true) (s : State) : Arrived s (setDemand p 3 255 s) ∧ (setDemand p 3 255 s).host.nexus = s.host.nexus := by
  have demand := setDemand_sas hp (m := 3) (level := 255) (by decide) (by decide) s
  refine ⟨.of_events demand.events demand.regs (by decide), ?_⟩
  rw [demand.events.host]

theorem stampCmd_arrived {c : HostCmd} (hp : isSas c.port = true) (s : State) : Arrived s (stampCmd c s) ∧ (stampCmd c s).host.nexus = s.host.nexus := by
  have out : ∃ x y r, stampCmd c s = if isMedia c.op then setDemand c.port 3 255 (stamped x y r s) else stamped x y r s := ⟨_, _, _, rfl⟩
  obtain ⟨x, y, r, out⟩ := out
  obtain ⟨arrived, kept⟩ := stamped_arrived x y r s
  rw [out]
  split
  · obtain ⟨demand, same⟩ := setDemand_arrived hp (stamped x y r s)
    exact ⟨arrived.trans demand, same.trans kept⟩
  · exact ⟨arrived, kept⟩

theorem send_arrived (m : Msg) (s : State) : Arrived s (send m s) := ⟨fun _ _ => rfl, rfl⟩

theorem poolFull_arrived (c : HostCmd) (s : State) : Arrived s (poolFull c s) ∧ (poolFull c s).host.nexus = s.host.nexus := by
  have wrote : Wrote [(Reg.CMD_POOL_STAT.FULL, 1)] s (linePost 609 Reg.CMD_POOL_STAT.FULL 1 0 [ctxClass c] s) := linePost_regs ..
  have events := linePost_onlyEvents 609 Reg.CMD_POOL_STAT.FULL 1 0 [ctxClass c] s
  have told : Arrived s (linePost 609 Reg.CMD_POOL_STAT.FULL 1 0 [ctxClass c] s) := .of_events events wrote.onlyRegs (by decide)
  unfold poolFull
  dsimp only
  generalize linePost 609 Reg.CMD_POOL_STAT.FULL 1 0 [ctxClass c] s = t at events told ⊢
  have kept : t.host.nexus = s.host.nexus := by rw [events.host]
  split
  · exact ⟨told.trans (send_arrived ..), kept⟩
  · exact ⟨told, kept⟩

theorem takeCmd_arrived {c : HostCmd} (hp : isSas c.port = true) (s : State) : Arrived s (takeCmd c s) ∧ (takeCmd c s).host.nexus = s.host.nexus := by
  unfold takeCmd
  split
  · exact ⟨⟨fun _ _ => rfl, rfl⟩, rfl⟩
  · split
    · exact stampCmd_arrived hp s
    · exact poolFull_arrived c s

theorem whileStopped_sas {c : HostCmd} (hp : isSas c.port = true) (s : State) :
    whileStopped c s = send (statusMsg c.port c.nexus c.tag .busy 0) (bump Reg.CMD_ACT_HELD.SAS_BUSY s) := if_pos hp

theorem nexusFull_arrived (c : HostCmd) (s : State) : Arrived s (nexusFull c s) := by
  have events := linePost_onlyEvents 547 Reg.HSA_NEXUS.FULL 1 (sasPort c.port) [] (send (statusMsg c.port c.nexus c.tag .taskSetFull 0) s)
  have wrote : Wrote [(Reg.HSA_NEXUS.FULL, 1)] (send (statusMsg c.port c.nexus c.tag .taskSetFull 0) s) (nexusFull c s) := linePost_regs ..
  exact (send_arrived ..).trans (.of_events events wrote.onlyRegs (by decide))

theorem exec_nexusTake {c : HostCmd} (hp : isSas c.port = true) (hn : s.host.nexus.contains (nexusOf c) = false) :
    exec (.nexusTake c) s = .next (arriveCmd c s) := occurs_of ⟨hp, hn⟩

/-- A store that does not run takes nothing: the boot ROM answers the sideband alone. -/
theorem arriveCmd_closed {c : HostCmd} (hp : isSas c.port = true) (h : s.boot.recovery = true ∨ storeRuns s = false) :
    arriveCmd c s = wakeLink c.port s := by
  have woken := wakeLink_sas hp s
  rw [arriveCmd]
  split
  next => exact if_neg fun side => by rw [side.1] at hp; exact Bool.noConfusion hp
  next hr =>
    rw [woken.frame.boot] at hr
    rw [if_pos]
    rw [woken.storeRuns, h.resolve_left hr]
    rfl

theorem arriveCmd_running {c : HostCmd} (hp : isSas c.port = true) (hr : s.boot.recovery = false) (hs : storeRuns s = true) :
    arriveCmd c s = if get Reg.SYS_MODE.ACT s = 1 then whileStopped c (wakeLink c.port s)
      else if hasNexus c s then takeCmd c (takeNexus c (wakeLink c.port s)) else nexusFull c (wakeLink c.port s) := by
  have woken := wakeLink_sas hp s
  have internal : c.port ≠ .internal := fun e => by rw [e] at hp; exact Bool.noConfusion hp
  have sideband : c.port ≠ .sideband := fun e => by rw [e] at hp; exact Bool.noConfusion hp
  have held : hasNexus c (wakeLink c.port s) = hasNexus c s := by rw [hasNexus, hasNexus, woken.host]
  rw [arriveCmd]
  rw [woken.frame.boot, woken.storeRuns, woken.blocks Reg.SYS_MODE.ACT (by decide), held, hr, hs, hp]
  simp only [internal, sideband, ne_eq, not_false_eq_true, and_true, true_and, Bool.not_true, Bool.not_eq_true', Bool.false_eq_true, if_false]
  cases hasNexus c s <;> rfl

theorem hasNexus_new {c : HostCmd} (hn : s.host.nexus.contains (nexusOf c) = false) : hasNexus c s = decide (s.host.nexus.length < 512) := by
  rw [hasNexus, hn, Bool.false_or]

theorem arriveCmd_full {c : HostCmd} (hp : isSas c.port = true) (hn : s.host.nexus.contains (nexusOf c) = false) (hr : s.boot.recovery = false)
    (hs : storeRuns s = true) (ha : get Reg.SYS_MODE.ACT s ≠ 1) (hl : 512 ≤ s.host.nexus.length) :
    arriveCmd c s = nexusFull c (wakeLink c.port s) := by
  rw [arriveCmd_running hp hr hs, if_neg ha, hasNexus_new hn, if_neg (by simpa using hl)]

theorem arriveCmd_new {c : HostCmd} (hp : isSas c.port = true) (hn : s.host.nexus.contains (nexusOf c) = false) (hr : s.boot.recovery = false)
    (hs : storeRuns s = true) (ha : get Reg.SYS_MODE.ACT s ≠ 1) (hl : s.host.nexus.length < 512) :
    arriveCmd c s = takeCmd c (setHost { s.host with nexus := s.host.nexus ++ [nexusOf c] } (wakeLink c.port s)) := by
  have woken := wakeLink_sas hp s
  rw [arriveCmd_running hp hr hs, if_neg ha, hasNexus_new hn, if_pos (by simpa using hl), takeNexus_new hp (by rwa [woken.host]), woken.host]

theorem arriveCmd_stopped {c : HostCmd} (hp : isSas c.port = true) (hr : s.boot.recovery = false) (hs : storeRuns s = true)
    (ha : get Reg.SYS_MODE.ACT s = 1) :
    arriveCmd c s = send (statusMsg c.port c.nexus c.tag .busy 0) (bump Reg.CMD_ACT_HELD.SAS_BUSY (wakeLink c.port s)) := by
  rw [arriveCmd_running hp hr hs, if_pos ha, whileStopped_sas hp]

theorem setHost_arrived (r : HostSt) (s : State) : Arrived s (setHost r s) := ⟨fun _ _ => rfl, rfl⟩

theorem arriveCmd_arrived {c : HostCmd} (hp : isSas c.port = true) (hn : s.host.nexus.contains (nexusOf c) = false) : Arrived s (arriveCmd c s) := by
  have woken := (wakeLink_sas hp s).arrived
  by_cases closed : s.boot.recovery = true ∨ storeRuns s = false
  · rwa [arriveCmd_closed hp closed]
  · rw [not_or, Bool.not_eq_true, Bool.not_eq_false] at closed
    obtain ⟨hr, hs⟩ := closed
    by_cases ha : get Reg.SYS_MODE.ACT s = 1
    · have counted : OnlyRegs [Reg.CMD_ACT_HELD.SAS_BUSY] (wakeLink c.port s) (bump Reg.CMD_ACT_HELD.SAS_BUSY (wakeLink c.port s)) :=
        ((Wrote.nil _).put _ _).onlyRegs
      rw [arriveCmd_stopped hp hr hs ha]
      exact (woken.trans (.of_events (put_onlyRegisters ..).onlyEvents counted (by decide))).trans (send_arrived ..)
    · by_cases hl : s.host.nexus.length < 512
      · rw [arriveCmd_new hp hn hr hs ha hl]
        exact (woken.trans (setHost_arrived ..)).trans (takeCmd_arrived hp _).1
      · rw [arriveCmd_full hp hn hr hs ha (Nat.le_of_not_lt hl)]
        exact woken.trans (nexusFull_arrived ..)

theorem nexusFull_told (c : HostCmd) (s : State) : get Reg.HSA_NEXUS.FULL (nexusFull c s) = 1 ∧ (nexusFull c s).cmd = s.cmd ∧
    statusMsg c.port c.nexus c.tag .taskSetFull 0 ∈ (nexusFull c s).sent := by
  have events := linePost_onlyEvents 547 Reg.HSA_NEXUS.FULL 1 (sasPort c.port) [] (send (statusMsg c.port c.nexus c.tag .taskSetFull 0) s)
  have steady := linePost_steady (src := 547) (f := Reg.HSA_NEXUS.FULL) (v := 1) (unit := sasPort c.port) (payload := [])
    (Steady.refl (send (statusMsg c.port c.nexus c.tag .taskSetFull 0) s))
  exact ⟨(get_linePost ..).trans (get_put_self ..), events.cmd, steady.2.1.subset (List.mem_append_right _ (List.mem_singleton_self _))⟩

/-! ### Power conditions and low power (R350, R352) -/

theorem mode_lt_of_demand {m n : Nat} {d : Nat × Nat} (h : some (m, n) = some d) (hm : m < 8) : d.1 < 8 := by
  rwa [← Option.some.inj h]

/-- The conditions with a demand of PCIe are its power states. -/
theorem condDemand_pcie {c : PowerCond} {d : Nat × Nat} (h : condDemand .pcie c s = some d) : (∃ n < 3, c = .ps n) ∧ d.1 < 8 := by
  unfold condDemand at h
  dsimp only at h
  split at h
  · exact ⟨⟨0, by decide, rfl⟩, mode_lt_of_demand h (by decide)⟩
  · exact ⟨⟨1, by decide, rfl⟩, mode_lt_of_demand h (by decide)⟩
  · exact ⟨⟨2, by decide, rfl⟩, mode_lt_of_demand h (by decide)⟩
  · cases h

/-- The demand of a SATA or SAS power condition, by the fields of its four levels. -/
def condLevel (b k y z : Fld) (c : PowerCond) (s : State) : Option (Nat × Nat) :=
  match c with
  | .active => some (3, 255)
  | .idleA => some (3, 255)
  | .idleB => some (4, get b s)
  | .idleC => some (4, get k s)
  | .standbyY => some (4, get y s)
  | .standbyZ => some (4, get z s)
  | _ => none

theorem condLevel_mode {b k y z : Fld} {c : PowerCond} {d : Nat × Nat} (h : condLevel b k y z c s = some d) : d.1 < 8 := by
  cases c with
  | active => exact mode_lt_of_demand h (by decide)
  | idleA => exact mode_lt_of_demand h (by decide)
  | idleB => exact mode_lt_of_demand h (by decide)
  | idleC => exact mode_lt_of_demand h (by decide)
  | standbyY => exact mode_lt_of_demand h (by decide)
  | standbyZ => exact mode_lt_of_demand h (by decide)
  | ps n => cases h
  | d0 => cases h
  | d3hot => cases h

theorem condDemand_sata (c : PowerCond) (s : State) :
    condDemand .sata c s = condLevel Reg.HST_PM.IDLE_B Reg.HST_PM.IDLE_C Reg.HST_PM.STBY_Y Reg.HST_PM.STBY_Z c s := rfl

theorem condDemand_sas {p : Port} (hp : isSas p = true) (c : PowerCond) (s : State) :
    condDemand p c s = condLevel Reg.HSA_PM.IDLE_B Reg.HSA_PM.IDLE_C Reg.HSA_PM.STBY_Y Reg.HSA_PM.STBY_Z c s := by
  rcases isSasPort_of_isSas hp with ⟨rfl, -⟩ | ⟨rfl, -⟩ <;> rfl

theorem exec_powerDemandChange {p : Port} {c : PowerCond} {d : Nat × Nat} (hu : isUp p s = true) (hd : condDemand p c s = some d) :
    exec (.powerDemandChange p c) s = .next (setDemand p d.1 d.2 (condState p c s)) := by
  have ok : condOk p c s = true := by rw [condOk, hd]; rfl
  refine (occurs_of ⟨hu, ok⟩).trans ?_
  rw [hd]

/-- A field that may be written. -/
theorem put_ite (c : Prop) [Decidable c] (f : Fld) (v : Nat) (s : State) :
    get f (if c then put f v s else s) = (if c then v % 2 ^ f.width else get f s) ∧ OnlyRegs [f] s (if c then put f v s else s) ∧
      OnlyRegisters s (if c then put f v s else s) := by
  split
  · exact ⟨get_put_self .., ((Wrote.nil s).put f v).onlyRegs, put_onlyRegisters ..⟩
  · exact ⟨rfl, fun _ _ => rfl, rfl⟩

theorem IsSasPort.isUp {p : Port} {k : Nat} (hp : IsSasPort p k) (h : get (Reg.HSA_LINK.UP k) s = 1) : isUp p s = true := by
  rcases hp with ⟨rfl, rfl⟩ | ⟨rfl, rfl⟩ <;> exact beq_iff_eq.2 h

theorem exec_linkLowPowerEntry_sas {p : Port} {k n : Nat} {a b : Bool} (hp : IsSasPort p k) (hm : mode s = 4) (hu : get (Reg.HSA_LINK.UP k) s = 1) :
    exec (.linkLowPowerEntry p a b n) s = .next (if b = true ∧ get (Reg.HSA_CFG.SLUMBER_EN k) s = 1 then put (Reg.HSA_LINK.PSTATE k) 2 s
      else if a = true ∧ get (Reg.HSA_CFG.PARTIAL_EN k) s = 1 then put (Reg.HSA_LINK.PSTATE k) 1 s else s) := by
  have up := hp.isUp hu
  rcases hp with ⟨rfl, rfl⟩ | ⟨rfl, rfl⟩ <;> exact occurs_of ⟨hm, up⟩

theorem sasState_width : ∀ k < 2, (Reg.HSA_LINK.PSTATE k).width = 2 := by decide

/-- A SAS link goes down: its fields and its line. -/
def sasDown (k : Nat) (s : State) : State :=
  raisePost (544 + k) k [0] (puts (sasWrites k 0 0) s)

theorem exec_sasLinkDown {p : Port} {k : Nat} (hp : IsSasPort p k) (hu : get (Reg.HSA_LINK.UP k) s = 1) :
    exec (.sasSataLinkDown p) s = .next (if get (Reg.HSA_LINK.UP (1 - k)) s = 1 then sasDown k s else setDemand p 0 0 (sasDown k s)) := by
  rcases hp with ⟨rfl, rfl⟩ | ⟨rfl, rfl⟩ <;> exact occurs_of ⟨rfl, hu⟩

theorem smbServe_onlyEvents (l : List Nat) (s : State) : OnlyEvents (setHost { s.host with mctp := s.host.mctp ++ [l] } s) (smbServe l s) :=
  raisePost_onlyEvents ..

/-- What a packet to the device address leaves (R354, R355). -/
def smbTaken (l : List Nat) (p : Bool) (s : State) : State :=
  if !smbAcks s then smbNack s
  else if !p then raisePost 993 0 [1] (bump Reg.SMB_ERR.PEC s)
  else if adminServed .sideband s then smbServe l s
  else smbHold l s

theorem smbTaken_nack {l : List Nat} {p : Bool} (h : smbAcks s = false) : smbTaken l p s = smbNack s := by
  rw [smbTaken, h]
  rfl

theorem smbTaken_pec {l : List Nat} (h : smbAcks s = true) : smbTaken l false s = raisePost 993 0 [1] (bump Reg.SMB_ERR.PEC s) := by
  rw [smbTaken, h]
  rfl

theorem smbTaken_served {l : List Nat} (h : smbAcks s = true) (ha : adminServed .sideband s = true) : smbTaken l true s = smbServe l s := by
  rw [smbTaken, h, ha]
  rfl

theorem smbTaken_held {l : List Nat} (h : smbAcks s = true) (ha : adminServed .sideband s = false) : smbTaken l true s = smbHold l s := by
  rw [smbTaken, h, ha]
  rfl

end

/-! ### The rows -/

theorem hostLanePromotion_promotes (l : List Nat) (n : Nat) (d : List Nat) (s : State) :
    ((List.range 7).filter (fun n => l.contains n && !(s.host.dead.contains n)) = n :: d) →
    get Reg.HPC_HLANE.AUTO s = 1 →
    get Reg.HPC_HLANE.SEL s = 7 →
    Gives (.hostLanePromotion l) s (fun t =>
      bit Reg.HPC_HLANE.FAILED n t = true ∧
      get Reg.HPC_HLANE.SEL t = n ∧
      get Reg.SPR_STAT.PROMOS t = (get Reg.SPR_STAT.PROMOS s + 1) % 2 ^ Reg.SPR_STAT.PROMOS.width ∧
      t.host.dead = s.host.dead ++ n :: d ∧
      OnlyRegs [Reg.HPC_HLANE.FAILED, Reg.HPC_HLANE.SEL, Reg.SPR_STAT.PROMOS, Reg.SPR_INV.HOST] s t ∧
      t = { s with regs := t.regs, host := t.host, sys := t.sys, evr := t.evr, sent := t.sent } ∧
      SameMem s t) := by
  intro h ha hs
  have hn := lanesGone_lt h
  have lost := lanesLost_onlyEvents (n :: d) s
  have failed := lanesFailed_onlyRegs (n :: d) s
  have first := lanesFailed_first hn d s
  have chosen : Wrote [(Reg.HPC_HLANE.SEL, n)] (lanesFailed (n :: d) s) (put Reg.HPC_HLANE.SEL n (lanesLost (n :: d) s)) := rfl
  have spare : Reg.SPR_STAT.PROMOS.key ∉ [Reg.HPC_HLANE.SEL, Reg.SPR_INV.HOST].map Fld.key := by decide
  have keys : ([Reg.HPC_HLANE.SEL, Reg.SPR_INV.HOST, Reg.SPR_STAT.PROMOS].map Fld.key).Nodup := by decide
  have wrote := (chosen.of_regs (raisePost_regs 515 0 [n] _)).promoted Reg.SPR_INV.HOST spare
  have events := ((lost.trans (put_onlyRegisters Reg.HPC_HLANE.SEL n _).onlyEvents).trans (raisePost_onlyEvents 515 0 [n] _)).trans
    (promoted_onlyEvents Reg.SPR_INV.HOST _)
  refine .of_next ((exec_hostLanePromotion h).trans (congrArg Host.Outcome.next (if_pos ⟨ha, hs⟩))) ⟨?_, ?_, ?_, ?_, ?_, events.of_setHost,
    events.sameMem⟩
  · rw [bit_congr n (wrote.get_ne (by simp only [List.map_cons, List.map_nil, List.map_append]; decide))]
    exact first
  · exact (wrote.get_mem keys (v := n) (by simp)).trans (Nat.mod_eq_of_lt (Nat.lt_succ_of_lt hn))
  · rw [wrote.get_mem keys (f := Reg.SPR_STAT.PROMOS) (v := get Reg.SPR_STAT.PROMOS (lanesFailed (n :: d) s) + 1) (by simp), failed Reg.SPR_STAT.PROMOS (by decide)]
  · rw [events.host]
    rfl
  · exact (failed.append wrote.onlyRegs).mono (by simp)

theorem hostLanePromotion_marks (l : List Nat) (n : Nat) (d : List Nat) (s : State) :
    ((List.range 7).filter (fun n => l.contains n && !(s.host.dead.contains n)) = n :: d) →
    (get Reg.HPC_HLANE.AUTO s ≠ 1 ∨ get Reg.HPC_HLANE.SEL s ≠ 7) →
    Gives (.hostLanePromotion l) s (fun t =>
      bit Reg.HPC_HLANE.FAILED n t = true ∧
      t.host.dead = s.host.dead ++ n :: d ∧
      OnlyRegs [Reg.HPC_HLANE.FAILED] s t ∧
      t = { s with regs := t.regs, host := t.host } ∧
      SameMem s t) := by
  intro h ha
  have hn := lanesGone_lt h
  refine .of_next ((exec_hostLanePromotion h).trans (congrArg Host.Outcome.next (if_neg (by tauto)))) ⟨lanesFailed_first hn d s, rfl,
    lanesFailed_onlyRegs (n :: d) s, lanesLost_frame .., fun _ => ?_⟩
  rw [lanesLost_frame]
  rfl

theorem pcieLinkUp_trains (r w : Nat) (s : State) :
    portsTrain s = true →
    get Reg.HPC_LINK.UP s = 0 →
    s.pins.perstN = true →
    1 ≤ r →
    r ≤ get Reg.HPC_CFG.MAX_SPEED s →
    r < 8 →
    (w = 1 ∨ w = 2 ∨ w = 4) →
    w ≤ maxWidth s →
    Gives (.hostLinkUp .pcie r w) s (fun t =>
      get Reg.HPC_LINK.UP t = 1 ∧
      get Reg.HPC_LINK.SPEED t = r ∧
      get Reg.HPC_LINK.WIDTH t = w ∧
      get Reg.HPC_DEMAND.MODE t = 3 ∧
      get Reg.HPC_DEMAND.LEVEL t = 255 ∧
      OnlyRegs [Reg.HPC_LINK.SPEED, Reg.HPC_LINK.WIDTH, Reg.HPC_LINK.UP, Reg.HPC_LINK.L1, Reg.SYS_CLK_STAT.REFCLK_OK, Reg.HPC_DEMAND.MODE, Reg.HPC_DEMAND.LEVEL, Reg.HPC_DEMAND.CHG] s t ∧
      t = { s with regs := t.regs, pins := t.pins, sys := t.sys, evr := t.evr, sent := t.sent, host := { s.host with msixPend := t.host.msixPend } } ∧
      SameMem s t) := by
  intro ht hu hp hr hm h8 hw hx
  have wrote := pcieTrained_wrote r w s
  have keys : (((pcieUpWrites r w).map Prod.fst).map Fld.key).Nodup := by simp only [pcieUpWrites, List.map_cons, List.map_nil]; decide
  have demand := setDemand_pcie (m := 3) (level := 255) (by decide) (by decide) (pcieTrained r w s)
  have events := (pcieTrained_onlyEvents r w s).trans demand.events
  have width : w % 2 ^ Reg.HPC_LINK.WIDTH.width = w := by rcases hw with rfl | rfl | rfl <;> rfl
  refine .of_next (exec_hostLinkUp ht (if_pos ⟨hu, hp, hr, hm, hw, hx⟩)) ⟨?_, ?_, ?_, demand.mode, demand.level, wrote.onlyRegs.append demand.regs,
    events.of_setPins, events.sameMem⟩
  · exact (demand.regs _ (by decide)).trans (wrote.get_mem keys (v := 1) (by simp [pcieUpWrites]))
  · exact (demand.regs _ (by decide)).trans ((wrote.get_mem keys (v := r) (by simp [pcieUpWrites])).trans (Nat.mod_eq_of_lt h8))
  · exact (demand.regs _ (by decide)).trans ((wrote.get_mem keys (v := w) (by simp [pcieUpWrites])).trans width)

theorem sataLinkUp_trains (r w : Nat) (s : State) :
    portsTrain s = true →
    get Reg.HST_LINK.UP s = 0 →
    get Reg.HST_CFG.EN s = 1 →
    1 ≤ r →
    r ≤ get Reg.HST_CFG.MAX_GEN s →
    r < 4 →
    laneWorks 6 s = true →
    Gives (.hostLinkUp .sata r w) s (fun t =>
      get Reg.HST_LINK.UP t = 1 ∧
      get Reg.HST_LINK.GEN t = r ∧
      get Reg.HST_DEMAND.MODE t = 3 ∧
      get Reg.HST_DEMAND.LEVEL t = 255 ∧
      OnlyRegs [Reg.HST_LINK.GEN, Reg.HST_LINK.UP, Reg.HST_LINK.PSTATE, Reg.HST_DEMAND.MODE, Reg.HST_DEMAND.LEVEL, Reg.HST_DEMAND.CHG] s t ∧
      OnlyEvents s t ∧
      SameMem s t) := by
  intro ht hu he hr hm h4 hl
  obtain ⟨wrote, told⟩ := raised_wrote 576 0 [r] (sataWrites r 1) s
  have keys : (((sataWrites r 1).map Prod.fst).map Fld.key).Nodup := by simp only [sataWrites, List.map_cons, List.map_nil]; decide
  have demand := setDemand_sata (m := 3) (level := 255) (by decide) (by decide) (raisePost 576 0 [r] (puts (sataWrites r 1) s))
  have events := told.trans demand.events
  refine .of_next (exec_hostLinkUp ht (if_pos ⟨hu, he, hr, hm, hl⟩)) ⟨?_, ?_, demand.mode, demand.level, wrote.onlyRegs.append demand.regs,
    events, events.sameMem⟩
  · exact (demand.regs _ (by decide)).trans (wrote.get_mem keys (v := 1) (by simp [sataWrites]))
  · exact (demand.regs _ (by decide)).trans ((wrote.get_mem keys (v := r) (by simp [sataWrites])).trans (Nat.mod_eq_of_lt h4))

theorem sasLinkUp_trains (p : Port) (r w k : Nat) (s : State) :
    portsTrain s = true →
    (p = .sas0 ∧ k = 0 ∨ p = .sas1 ∧ k = 1) →
    get (Reg.HSA_LINK.UP k) s = 0 →
    get (Reg.HSA_CFG.EN k) s = 1 →
    r ≤ get (Reg.HSA_CFG.MAX_RATE k) s →
    r < 4 →
    laneWorks (4 + k) s = true →
    Gives (.hostLinkUp p r w) s (fun t =>
      get (Reg.HSA_LINK.UP k) t = 1 ∧
      get (Reg.HSA_LINK.RATE k) t = r ∧
      get Reg.HSA_DEMAND.MODE t = 3 ∧
      get Reg.HSA_DEMAND.LEVEL t = 255 ∧
      OnlyRegs [Reg.HSA_LINK.RATE k, Reg.HSA_LINK.UP k, Reg.HSA_LINK.PSTATE k, Reg.HSA_DEMAND.MODE, Reg.HSA_DEMAND.LEVEL, Reg.HSA_DEMAND.CHG] s t ∧
      OnlyEvents s t ∧
      SameMem s t) := by
  intro ht (hp : IsSasPort p k) hu he hm h4 hl
  obtain ⟨keys, rate, up, -, rateWidth, upWidth⟩ := sasLink_keys k hp.lt
  obtain ⟨wrote, told⟩ := raised_wrote (544 + k) k [r] (sasWrites k r 1) s
  have demand := setDemand_sas hp.isSas (m := 3) (level := 255) (by decide) (by decide) (raisePost (544 + k) k [r] (puts (sasWrites k r 1) s))
  have events := told.trans demand.events
  refine .of_next (exec_hostLinkUp ht (linkUp_sas hp hu he hm hl)) ⟨?_, ?_, demand.mode, demand.level, wrote.onlyRegs.append demand.regs,
    events, events.sameMem⟩
  · rw [demand.regs _ up, wrote.get_mem keys (v := 1) (by simp [sasWrites]), upWidth]
    rfl
  · rw [demand.regs _ rate, wrote.get_mem keys (v := r) (by simp [sasWrites]), rateWidth]
    exact Nat.mod_eq_of_lt h4

theorem pcieLinkDown_ends (s : State) :
    get Reg.HPC_LINK.UP s = 1 →
    Gives (.pcieLinkDown) s (fun t =>
      get Reg.HPC_LINK.UP t = 0 ∧
      get Reg.HPC_LINK.SPEED t = 0 ∧
      get Reg.HPC_LINK.WIDTH t = 0 ∧
      get Reg.HPC_PM.DSTATE t = 0 ∧
      get Reg.HPC_PM.PS t = 0 ∧
      (t.cmd.ctxs = s.cmd.ctxs.filter (fun c => c.cmd.port != .pcie)) ∧
      get Reg.HPC_DEMAND.MODE t = 0 ∧
      get Reg.HPC_DEMAND.LEVEL t = 0 ∧
      OnlyRegs [Reg.HPC_LINK.SPEED, Reg.HPC_LINK.WIDTH, Reg.HPC_LINK.UP, Reg.HPC_LINK.L1, Reg.HPC_PM.DSTATE, Reg.HPC_PM.PS, Reg.CMD_POOL_STAT.USED, Reg.CMD_EXEC_STAT.EXEC, Reg.CMD_ST_STAT.STATE, Reg.HPC_DEMAND.MODE, Reg.HPC_DEMAND.LEVEL, Reg.HPC_DEMAND.CHG] s t ∧
      t = { s with regs := t.regs, cmd := t.cmd, sys := t.sys, evr := t.evr, sent := t.sent, host := { s.host with msixPend := t.host.msixPend } } ∧
      SameMem s t) := by
  intro hu
  have down := pcieDown_ended (m := 0) (by decide) s
  obtain ⟨c, -, events⟩ := down.dropped
  exact .of_next (occurs_of hu) ⟨down.off _ (by decide), down.off _ (by decide), down.off _ (by decide), down.off _ (by decide),
    down.off _ (by decide), down.dropped.ctxs, down.mode, down.level, down.regs.mono (by decide), events.of_setCmd, events.sameMem⟩

theorem pcieRefclkLoss_ends (n : Nat) (s : State) :
    Gives (.pcieRefclkLoss n) s (fun t =>
      get Reg.SYS_CLK_STAT.REFCLK_OK t = 0 ∧
      t.pins.refclk = false ∧
      ((10000 < n → get Reg.HPC_LINK.UP s = 1 → get Reg.HPC_LINK.UP t = 0 ∧ get Reg.HPC_DEMAND.MODE t = 0)) ∧
      ((n ≤ 10000 → t.cmd = s.cmd ∧ get Reg.HPC_LINK.UP t = get Reg.HPC_LINK.UP s)) ∧
      OnlyRegs [Reg.SYS_CLK_STAT.REFCLK_OK, Reg.HPC_LINK.SPEED, Reg.HPC_LINK.WIDTH, Reg.HPC_LINK.UP, Reg.HPC_LINK.L1, Reg.HPC_PM.DSTATE, Reg.HPC_PM.PS, Reg.CMD_POOL_STAT.USED, Reg.CMD_EXEC_STAT.EXEC, Reg.CMD_ST_STAT.STATE, Reg.HPC_DEMAND.MODE, Reg.HPC_DEMAND.LEVEL, Reg.HPC_DEMAND.CHG] s t ∧
      t = { s with regs := t.regs, pins := t.pins, cmd := t.cmd, sys := t.sys, evr := t.evr, sent := t.sent, host := { s.host with msixPend := t.host.msixPend } } ∧
      SameMem s t) := by
  have shown : get Reg.SYS_CLK_STAT.REFCLK_OK (refclkLost s) = 0 := get_put_self ..
  by_cases h : 10000 < n ∧ get Reg.HPC_LINK.UP s = 1
  · have down := pcieDown_ended (m := 0) (by decide) (refclkLost s)
    obtain ⟨c, -, events⟩ := down.dropped
    obtain ⟨pin, frame, sameMem⟩ := refclkLost_frame events
    refine .of_next ((exec_pcieRefclkLoss n s).trans (congrArg Host.Outcome.next (if_pos h))) ⟨(down.regs _ (by decide)).trans shown, pin,
      fun _ _ => ⟨down.off _ (by decide), down.mode⟩, fun hn => absurd h.1 (Nat.not_lt.2 hn), ?_, frame, sameMem⟩
    exact ((refclkLost_onlyRegs s).append down.regs).mono (by decide)
  · exact .of_next ((exec_pcieRefclkLoss n s).trans (congrArg Host.Outcome.next (if_neg h))) ⟨shown, rfl, fun hn hu => absurd ⟨hn, hu⟩ h,
      fun _ => ⟨rfl, refclkLost_onlyRegs s _ (by decide)⟩, (refclkLost_onlyRegs s).mono (by decide), rfl, fun _ => rfl⟩

theorem perstNAssert_resets (s : State) :
    s.pins.perstN = true →
    Gives (.perstNAssert) s (fun t =>
      t.pins.perstN = false ∧
      get Reg.HPC_LINK.PERST t = 0 ∧
      get Reg.HPC_LINK.UP t = 0 ∧
      get Reg.HPC_LINK.SPEED t = 0 ∧
      get Reg.HPC_LINK.WIDTH t = 0 ∧
      get Reg.HPC_PM.DSTATE t = 0 ∧
      get Reg.HPC_PM.PS t = 0 ∧
      (t.cmd.ctxs = s.cmd.ctxs.filter (fun c => c.cmd.port != .pcie)) ∧
      (get Reg.HPC_DEMAND.MODE t = (if get Reg.HPC_PM.DSTATE s = 3 ∧ get Reg.HPC_PM.D3C_STBY s = 1 then 1 else 0)) ∧
      get Reg.HPC_DEMAND.LEVEL t = 0 ∧
      OnlyRegs [Reg.HPC_LINK.PERST, Reg.HPC_LINK.SPEED, Reg.HPC_LINK.WIDTH, Reg.HPC_LINK.UP, Reg.HPC_LINK.L1, Reg.HPC_PM.DSTATE, Reg.HPC_PM.PS, Reg.CMD_POOL_STAT.USED, Reg.CMD_EXEC_STAT.EXEC, Reg.CMD_ST_STAT.STATE, Reg.HPC_DEMAND.MODE, Reg.HPC_DEMAND.LEVEL, Reg.HPC_DEMAND.CHG] s t ∧
      t = { s with regs := t.regs, pins := t.pins, host := t.host, cmd := t.cmd, sys := t.sys, evr := t.evr, sent := t.sent } ∧
      SameMem s t) := by
  intro hp
  have mode : (if entersD3cold s = true then 1 else 0) < 8 := by split <;> decide
  have down := (pcieDown_ended mode (perstMoved false (entersD3cold s) s)).raised 514 0 []
  obtain ⟨c, -, events⟩ := down.dropped
  obtain ⟨pin, frame, sameMem⟩ := perstMoved_frame events
  refine .of_next (exec_perstNAssert hp) ⟨pin, (down.regs _ (by decide)).trans (perstMoved_pin ..), down.off _ (by decide), down.off _ (by decide),
    down.off _ (by decide), down.off _ (by decide), down.off _ (by decide), down.dropped.ctxs, ?_, down.level, ?_, frame, sameMem⟩
  · simpa only [entersD3cold, decide_eq_true_eq] using down.mode
  · exact ((perstMoved_onlyRegs false _ s).append down.regs).mono (by decide)

theorem perstNRelease_shown (s : State) :
    s.pins.perstN = false →
    Gives (.perstNRelease) s (fun t =>
      t.pins.perstN = true ∧
      get Reg.HPC_LINK.PERST t = 1 ∧
      ((s.host.d3cold = true → get Reg.HPC_DEMAND.MODE t = 0 ∧ t.host.d3cold = false)) ∧
      ((s.host.d3cold = false → get Reg.HPC_DEMAND.MODE t = get Reg.HPC_DEMAND.MODE s)) ∧
      OnlyRegs [Reg.HPC_LINK.PERST, Reg.HPC_DEMAND.MODE, Reg.HPC_DEMAND.LEVEL, Reg.HPC_DEMAND.CHG] s t ∧
      t = { s with regs := t.regs, pins := t.pins, host := t.host, sys := t.sys, evr := t.evr, sent := t.sent } ∧
      SameMem s t) := by
  intro hp
  cases hc : s.host.d3cold with
  | true =>
    have demand := setDemand_pcie (m := 0) (level := 0) (by decide) (by decide) (perstMoved true false s)
    obtain ⟨pin, cold, frame, sameMem⟩ := perstMoved_shown demand.events
    exact .of_next ((exec_perstNRelease hp).trans (congrArg Host.Outcome.next (if_pos hc))) ⟨pin, (demand.regs _ (by decide)).trans (perstMoved_pin ..),
      fun _ => ⟨demand.mode, cold⟩, nofun, (perstMoved_onlyRegs true false s).append demand.regs, frame, sameMem⟩
  | false =>
    exact .of_next ((exec_perstNRelease hp).trans (congrArg Host.Outcome.next (if_neg (by simp [hc])))) ⟨rfl, perstMoved_pin .., nofun,
      fun _ => perstMoved_onlyRegs true _ s _ (by decide), (perstMoved_onlyRegs true _ s).mono (by decide), rfl, fun _ => rfl⟩

theorem functionLevelReset_drops (s : State) :
    get Reg.HPC_LINK.UP s = 1 →
    Gives (.functionLevelReset) s (fun t =>
      get Reg.HPC_PM.DSTATE t = 0 ∧
      get Reg.HPC_PM.PS t = 0 ∧
      (t.cmd.ctxs = s.cmd.ctxs.filter (fun c => c.cmd.port != .pcie)) ∧
      get Reg.HPC_DEMAND.MODE t = 3 ∧
      get Reg.HPC_DEMAND.LEVEL t = 255 ∧
      OnlyRegs [Reg.HPC_PM.DSTATE, Reg.HPC_PM.PS, Reg.CMD_POOL_STAT.USED, Reg.CMD_EXEC_STAT.EXEC, Reg.CMD_ST_STAT.STATE, Reg.HPC_DEMAND.MODE, Reg.HPC_DEMAND.LEVEL, Reg.HPC_DEMAND.CHG] s t ∧
      t = { s with regs := t.regs, cmd := t.cmd, sys := t.sys, evr := t.evr, sent := t.sent, host := { s.host with msixPend := t.host.msixPend } } ∧
      SameMem s t) := by
  intro hu
  obtain ⟨cleared, dropped⟩ := portClear_pcie s
  have demand := setDemand_pcie (m := 3) (level := 255) (by decide) (by decide) (portClear .pcie s)
  have reset : Wrote [(Reg.HPC_PM.DSTATE, 0), (Reg.HPC_PM.PS, 0)] (portReset .pcie s) (puts [(Reg.HPC_PM.DSTATE, 0), (Reg.HPC_PM.PS, 0)] (portReset .pcie s)) := rfl
  have gone := (dropped.then demand.events).then (puts_onlyRegisters [(Reg.HPC_PM.DSTATE, 0), (Reg.HPC_PM.PS, 0)] _).onlyEvents
  have ctxs := gone.ctxs
  obtain ⟨c, -, events⟩ := gone
  exact .of_next (occurs_of hu) ⟨reset.get_mem (by decide) (v := 0) (by simp), reset.get_mem (by decide) (v := 0) (by simp), ctxs,
    (reset.get_ne (by decide)).trans demand.mode, (reset.get_ne (by decide)).trans demand.level,
    ((cleared.append demand.regs).append reset.onlyRegs).mono (by decide), events.of_setCmd, events.sameMem⟩

theorem sataLinkDown_ends (s : State) :
    get Reg.HST_LINK.UP s = 1 →
    Gives (.sasSataLinkDown .sata) s (fun t =>
      get Reg.HST_LINK.UP t = 0 ∧
      get Reg.HST_LINK.GEN t = 0 ∧
      get Reg.HST_DEMAND.MODE t = 0 ∧
      get Reg.HST_DEMAND.LEVEL t = 0 ∧
      OnlyRegs [Reg.HST_LINK.GEN, Reg.HST_LINK.UP, Reg.HST_LINK.PSTATE, Reg.HST_DEMAND.MODE, Reg.HST_DEMAND.LEVEL, Reg.HST_DEMAND.CHG] s t ∧
      OnlyEvents s t ∧
      SameMem s t) := by
  intro hu
  obtain ⟨wrote, told⟩ := raised_wrote 576 0 [0] (sataWrites 0 0) s
  have demand := setDemand_sata (m := 0) (level := 0) (by decide) (by decide) (raisePost 576 0 [0] (puts (sataWrites 0 0) s))
  have events := told.trans demand.events
  exact .of_next (occurs_of hu) ⟨(demand.regs _ (by decide)).trans (wrote.get_mem (by decide) (v := 0) (by simp [sataWrites])),
    (demand.regs _ (by decide)).trans (wrote.get_mem (by decide) (v := 0) (by simp [sataWrites])), demand.mode, demand.level,
    wrote.onlyRegs.append demand.regs, events, events.sameMem⟩

theorem sasLinkDown_ends (p : Port) (k : Nat) (s : State) :
    (p = .sas0 ∧ k = 0 ∨ p = .sas1 ∧ k = 1) →
    get (Reg.HSA_LINK.UP k) s = 1 →
    Gives (.sasSataLinkDown p) s (fun t =>
      get (Reg.HSA_LINK.UP k) t = 0 ∧
      get (Reg.HSA_LINK.RATE k) t = 0 ∧
      ((get (Reg.HSA_LINK.UP (1 - k)) s ≠ 1 → get Reg.HSA_DEMAND.MODE t = 0)) ∧
      ((get (Reg.HSA_LINK.UP (1 - k)) s = 1 → get Reg.HSA_DEMAND.MODE t = get Reg.HSA_DEMAND.MODE s)) ∧
      OnlyRegs [Reg.HSA_LINK.RATE k, Reg.HSA_LINK.UP k, Reg.HSA_LINK.PSTATE k, Reg.HSA_DEMAND.MODE, Reg.HSA_DEMAND.LEVEL, Reg.HSA_DEMAND.CHG] s t ∧
      OnlyEvents s t ∧
      SameMem s t) := by
  intro (hp : IsSasPort p k) hu
  obtain ⟨keys, rate, up, apart, -, -⟩ := sasLink_keys k hp.lt
  obtain ⟨wrote, told⟩ := raised_wrote (544 + k) k [0] (sasWrites k 0 0) s
  have isDown : get (Reg.HSA_LINK.UP k) (sasDown k s) = 0 := (wrote.get_mem keys (v := 0) (by simp [sasWrites])).trans (Nat.zero_mod _)
  have noRate : get (Reg.HSA_LINK.RATE k) (sasDown k s) = 0 := (wrote.get_mem keys (v := 0) (by simp [sasWrites])).trans (Nat.zero_mod _)
  by_cases other : get (Reg.HSA_LINK.UP (1 - k)) s = 1
  · exact .of_next ((exec_sasLinkDown hp hu).trans (congrArg Host.Outcome.next (if_pos other))) ⟨isDown, noRate, fun h => absurd other h,
      fun _ => wrote.get_ne apart, wrote.onlyRegs.mono (List.subset_append_left ..), told, told.sameMem⟩
  · have demand := setDemand_sas hp.isSas (m := 0) (level := 0) (by decide) (by decide) (sasDown k s)
    have events := told.trans demand.events
    exact .of_next ((exec_sasLinkDown hp hu).trans (congrArg Host.Outcome.next (if_neg other))) ⟨(demand.regs _ up).trans isDown,
      (demand.regs _ rate).trans noRate, fun _ => demand.mode, fun h => absurd h other, wrote.onlyRegs.append demand.regs, events, events.sameMem⟩

theorem nexusTake_takes (c : HostCmd) (s : State) :
    isSas c.port = true →
    s.host.nexus.contains (nexusOf c) = false →
    Gives (.nexusTake c) s (fun t =>
      ((s.boot.recovery = true ∨ storeRuns s = false → t.host = s.host ∧ t.cmd = s.cmd ∧ t.sent = s.sent)) ∧
      ((s.boot.recovery = false → storeRuns s = true → get Reg.SYS_MODE.ACT s = 1 → get Reg.CMD_ACT_HELD.SAS_BUSY t = (get Reg.CMD_ACT_HELD.SAS_BUSY s + 1) % 2 ^ Reg.CMD_ACT_HELD.SAS_BUSY.width ∧ t.host = s.host ∧ t.cmd = s.cmd ∧ t.sent = s.sent ++ [statusMsg c.port c.nexus c.tag .busy 0])) ∧
      ((s.boot.recovery = false → storeRuns s = true → get Reg.SYS_MODE.ACT s ≠ 1 → s.host.nexus.length < 512 → t.host.nexus = s.host.nexus ++ [nexusOf c])) ∧
      ((s.boot.recovery = false → storeRuns s = true → get Reg.SYS_MODE.ACT s ≠ 1 → 512 ≤ s.host.nexus.length → get Reg.HSA_NEXUS.FULL t = 1 ∧ t.cmd = s.cmd ∧ statusMsg c.port c.nexus c.tag .taskSetFull 0 ∈ t.sent)) ∧
      OnlyBlocks [17, 19] s t ∧
      t = { s with regs := t.regs, host := t.host, cmd := t.cmd, sys := t.sys, evr := t.evr, sent := t.sent } ∧
      SameMem s t) := by
  intro hp hn
  have woken := wakeLink_sas hp s
  have arrived := arriveCmd_arrived hp hn
  refine .of_next (exec_nexusTake hp hn) ⟨fun closed => ?_, fun hr hs ha => ?_, fun hr hs ha hl => ?_, fun hr hs ha hl => ?_,
    arrived.blocks, arrived.frame, arrived.sameMem⟩
  · rw [arriveCmd_closed hp closed, woken.frame]
    exact ⟨rfl, rfl, rfl⟩
  · rw [arriveCmd_stopped hp hr hs ha]
    refine ⟨(get_put_self ..).trans ?_, ?_⟩
    · rw [woken.blocks Reg.CMD_ACT_HELD.SAS_BUSY (by decide)]
    · rw [woken.frame]
      exact ⟨rfl, rfl, rfl⟩
  · rw [arriveCmd_new hp hn hr hs ha hl, (takeCmd_arrived hp _).2]
    rfl
  · obtain ⟨full, store, answered⟩ := nexusFull_told c (wakeLink c.port s)
    rw [arriveCmd_full hp hn hr hs ha hl]
    exact ⟨full, store.trans (by rw [woken.frame]), answered⟩

theorem nexusIdleFree_frees (p n i : Nat) (r : Bool) (s : State) :
    p < 2 →
    get Reg.HSA_NEXUS.IDLE_S s ≤ i →
    r = false →
    s.host.ua.contains (p, n) = false →
    (s.cmd.ctxs.any (fun c => isSas c.cmd.port && nexusOf c.cmd == (p, n)) = false) →
    Gives (.nexusIdleFree p n i r) s (fun t =>
      t.host.nexus = s.host.nexus.filter (· != (p, n)) ∧
      OnlyRegs [] s t ∧
      t = { s with host := t.host } ∧
      SameMem s t) := by
  intro hp hi hr hu hc
  exact .of_next ((unit_of_lt hp).trans (occurs_of ⟨hi, hr, hu, hc⟩)) ⟨rfl, fun _ _ => rfl, rfl, fun _ => rfl⟩

theorem iTNexusLoss_frees (p n : Nat) (s : State) :
    p < 2 →
    Gives (.iTNexusLoss p n) s (fun t =>
      t.host.nexus = s.host.nexus.filter (· != (p, n)) ∧
      t.host.ua = s.host.ua.filter (· != (p, n)) ∧
      OnlyRegs [] s t ∧
      t = { s with host := t.host } ∧
      SameMem s t) := by
  intro hp
  exact .of_next (unit_of_lt hp) ⟨rfl, rfl, fun _ _ => rfl, rfl, fun _ => rfl⟩

theorem notifyEnableSpinup_releases (p : Nat) (s : State) :
    p < 2 →
    Gives (.notifyEnableSpinup p) s (fun t =>
      get Reg.HSA_SPINUP.GOT t = 1 ∧
      t.boot.spinHeld = false ∧
      OnlyRegs [Reg.HSA_SPINUP.GOT] s t ∧
      t = { s with regs := t.regs, boot := t.boot } ∧
      SameMem s t) := by
  intro hp
  exact .of_next (unit_of_lt hp) ⟨get_put_self Reg.HSA_SPINUP.GOT 1 s, rfl, ((Wrote.nil s).put Reg.HSA_SPINUP.GOT 1).onlyRegs, rfl, fun _ => rfl⟩

theorem pciePowerState_demands (c : PowerCond) (d : Nat × Nat) (s : State) :
    get Reg.HPC_LINK.UP s = 1 →
    condDemand .pcie c s = some d →
    d.2 < 256 →
    Gives (.powerDemandChange .pcie c) s (fun t =>
      ((c = .ps 0 → get Reg.HPC_PM.PS t = 0)) ∧
      ((c = .ps 1 → get Reg.HPC_PM.PS t = 1)) ∧
      ((c = .ps 2 → get Reg.HPC_PM.PS t = 2)) ∧
      get Reg.HPC_DEMAND.MODE t = d.1 ∧
      get Reg.HPC_DEMAND.LEVEL t = d.2 ∧
      OnlyRegs [Reg.HPC_PM.PS, Reg.HPC_PM.DSTATE, Reg.HPC_DEMAND.MODE, Reg.HPC_DEMAND.LEVEL, Reg.HPC_DEMAND.CHG] s t ∧
      OnlyEvents s t ∧
      SameMem s t) := by
  intro hu hd hl
  obtain ⟨⟨n, hn, rfl⟩, hm⟩ := condDemand_pcie hd
  have up : isUp .pcie s = true := beq_iff_eq.2 hu
  have demand := setDemand_pcie hm hl (put Reg.HPC_PM.PS n s)
  have events := (put_onlyRegisters Reg.HPC_PM.PS n s).onlyEvents.trans demand.events
  have state : get Reg.HPC_PM.PS (setDemand .pcie d.1 d.2 (put Reg.HPC_PM.PS n s)) = n :=
    (demand.regs _ (by decide)).trans ((get_put_self ..).trans (Nat.mod_eq_of_lt (Nat.lt_of_lt_of_le hn (by decide))))
  exact .of_next (exec_powerDemandChange up hd) ⟨fun e => state.trans (PowerCond.ps.inj e), fun e => state.trans (PowerCond.ps.inj e),
    fun e => state.trans (PowerCond.ps.inj e), demand.mode, demand.level,
    (((Wrote.nil s).put Reg.HPC_PM.PS n).onlyRegs.append demand.regs).mono (by simp), events, events.sameMem⟩

theorem pcieDeviceState_set (c : PowerCond) (s : State) :
    get Reg.HPC_LINK.UP s = 1 →
    (c = .d0 ∨ c = .d3hot) →
    Gives (.powerDemandChange .pcie c) s (fun t =>
      (get Reg.HPC_PM.DSTATE t = (if c = .d0 then 0 else 3)) ∧
      ((c = .d3hot → t.sent = s.sent ∧ t.host = s.host)) ∧
      OnlyRegs [Reg.HPC_PM.DSTATE] s t ∧
      t = { s with regs := t.regs, host := t.host, sent := t.sent } ∧
      SameMem s t) := by
  intro hu hc
  have up : isUp .pcie s = true := beq_iff_eq.2 hu
  rcases hc with rfl | rfl
  · exact .of_next (occurs_of ⟨up, rfl⟩) ⟨get_put_self Reg.HPC_PM.DSTATE 0 s, nofun, ((Wrote.nil s).put Reg.HPC_PM.DSTATE 0).onlyRegs, rfl, fun _ => rfl⟩
  · exact .of_next (occurs_of ⟨up, rfl⟩) ⟨get_put_self Reg.HPC_PM.DSTATE 3 s, fun _ => ⟨rfl, rfl⟩,
      ((Wrote.nil s).put Reg.HPC_PM.DSTATE 3).onlyRegs, rfl, fun _ => rfl⟩

theorem powerCondition_demands (p : Port) (c : PowerCond) (d : Nat × Nat) (s : State) :
    (p = .sata ∨ p = .sas0 ∨ p = .sas1) →
    isUp p s = true →
    condDemand p c s = some d →
    d.2 < 256 →
    Gives (.powerDemandChange p c) s (fun t =>
      ((p = .sata → get Reg.HST_DEMAND.MODE t = d.1 ∧ get Reg.HST_DEMAND.LEVEL t = d.2)) ∧
      ((p ≠ .sata → get Reg.HSA_DEMAND.MODE t = d.1 ∧ get Reg.HSA_DEMAND.LEVEL t = d.2)) ∧
      OnlyRegs [Reg.HST_DEMAND.MODE, Reg.HST_DEMAND.LEVEL, Reg.HST_DEMAND.CHG, Reg.HSA_DEMAND.MODE, Reg.HSA_DEMAND.LEVEL, Reg.HSA_DEMAND.CHG] s t ∧
      OnlyEvents s t ∧
      SameMem s t) := by
  intro hp hu hd hl
  by_cases sata : p = .sata
  · subst sata
    rw [condDemand_sata] at hd
    have demand := setDemand_sata (condLevel_mode hd) hl s
    exact .of_next (exec_powerDemandChange hu hd) ⟨fun _ => ⟨demand.mode, demand.level⟩, fun h => absurd rfl h,
      demand.regs.mono (by decide), demand.events, demand.events.sameMem⟩
  · have sas : isSas p = true := by
      rcases hp with rfl | rfl | rfl
      · exact absurd rfl sata
      · rfl
      · rfl
    have demand := setDemand_sas sas (condLevel_mode ((condDemand_sas sas c s).symm.trans hd)) hl s
    have kept : condState p c s = s := if_neg fun e => by rw [e] at sas; cases sas
    refine .of_next ((exec_powerDemandChange hu hd).trans (by rw [kept])) ⟨fun h => absurd h sata, fun _ => ⟨demand.mode, demand.level⟩,
      demand.regs.mono (by decide), demand.events, demand.events.sameMem⟩

theorem pcieLowPower_enters (a b : Bool) (n : Nat) (s : State) :
    mode s = 4 →
    get Reg.HPC_LINK.UP s = 1 →
    Gives (.linkLowPowerEntry .pcie a b n) s (fun t =>
      (get Reg.HPC_LINK.L1 t = (if b = true ∧ 10000 ≤ n then 1 else get Reg.HPC_LINK.L1 s)) ∧
      OnlyRegs [Reg.HPC_LINK.L1] s t ∧
      OnlyRegisters s t ∧
      SameMem s t) := by
  intro hm hu
  obtain ⟨value, regs, frame⟩ := put_ite (b = true ∧ 10000 ≤ n) Reg.HPC_LINK.L1 1 s
  exact .of_next (occurs_of ⟨hm, beq_iff_eq.2 hu⟩) ⟨value, regs, frame, frame.onlyEvents.sameMem⟩

theorem sataLowPower_enters (a b : Bool) (n : Nat) (s : State) :
    mode s = 4 →
    get Reg.HST_LINK.UP s = 1 →
    Gives (.linkLowPowerEntry .sata a b n) s (fun t =>
      (get Reg.HST_LINK.PSTATE t = (if b = true ∧ get Reg.HST_CFG.DIPM_ALLOW s = 1 then 2 else get Reg.HST_LINK.PSTATE s)) ∧
      OnlyRegs [Reg.HST_LINK.PSTATE] s t ∧
      OnlyRegisters s t ∧
      SameMem s t) := by
  intro hm hu
  obtain ⟨value, regs, frame⟩ := put_ite (b = true ∧ get Reg.HST_CFG.DIPM_ALLOW s = 1) Reg.HST_LINK.PSTATE 2 s
  exact .of_next (occurs_of ⟨hm, beq_iff_eq.2 hu⟩) ⟨value, regs, frame, frame.onlyEvents.sameMem⟩

theorem sasLowPower_enters (p : Port) (a b : Bool) (n k : Nat) (s : State) :
    (p = .sas0 ∧ k = 0 ∨ p = .sas1 ∧ k = 1) →
    mode s = 4 →
    get (Reg.HSA_LINK.UP k) s = 1 →
    Gives (.linkLowPowerEntry p a b n) s (fun t =>
      (get (Reg.HSA_LINK.PSTATE k) t = (if b = true ∧ get (Reg.HSA_CFG.SLUMBER_EN k) s = 1 then 2 else if a = true ∧ get (Reg.HSA_CFG.PARTIAL_EN k) s = 1 then 1 else get (Reg.HSA_LINK.PSTATE k) s)) ∧
      OnlyRegs [Reg.HSA_LINK.PSTATE k] s t ∧
      OnlyRegisters s t ∧
      SameMem s t) := by
  intro (hp : IsSasPort p k) hm hu
  refine .of_next (exec_linkLowPowerEntry_sas hp hm hu) ?_
  have width := sasState_width k hp.lt
  split
  · exact ⟨(get_put_self ..).trans (by rw [width]; rfl), ((Wrote.nil s).put _ 2).onlyRegs, put_onlyRegisters .., fun _ => rfl⟩
  · obtain ⟨value, regs, frame⟩ := put_ite (a = true ∧ get (Reg.HSA_CFG.PARTIAL_EN k) s = 1) (Reg.HSA_LINK.PSTATE k) 1 s
    rw [width] at value
    exact ⟨value, regs, frame, frame.onlyEvents.sameMem⟩

theorem smbusPacket_taken (a : Nat) (l : List Nat) (p : Bool) (s : State) :
    s.pins.rails = true →
    a = get Reg.SMB_CFG.ADDR s →
    get Reg.SMB_CFG.EN s = 1 →
    Gives (.smbusPacket a l p) s (fun t =>
      ((smbAcks s = false → get Reg.SMB_ERR.NACK t = (get Reg.SMB_ERR.NACK s + 1) % 2 ^ Reg.SMB_ERR.NACK.width ∧ t.host = s.host)) ∧
      ((smbAcks s = true → p = false → get Reg.SMB_ERR.PEC t = (get Reg.SMB_ERR.PEC s + 1) % 2 ^ Reg.SMB_ERR.PEC.width ∧ t.host = { s.host with msixPend := t.host.msixPend })) ∧
      ((smbAcks s = true → p = true → adminServed .sideband s = false → t.host.smb = s.host.smb ++ [l])) ∧
      ((smbAcks s = true → p = true → adminServed .sideband s = true → t.host = { s.host with mctp := s.host.mctp ++ [l], msixPend := t.host.msixPend })) ∧
      OnlyRegs [Reg.SMB_ERR.NACK, Reg.SMB_ERR.PEC] s t ∧
      t = { s with regs := t.regs, host := t.host, sys := t.sys, evr := t.evr, sent := t.sent } ∧
      SameMem s t) := by
  intro hr ha he
  have out : exec (.smbusPacket a l p) s = .next (smbTaken l p s) := occurs_of ⟨hr, ha, he⟩
  have counted (f : Fld) : OnlyRegs [f] s (bump f s) := ((Wrote.nil s).put f _).onlyRegs
  cases hA : smbAcks s with
  | false =>
    exact .of_next (out.trans (congrArg Host.Outcome.next (smbTaken_nack hA))) ⟨fun _ => ⟨get_put_self .., rfl⟩, nofun, nofun, nofun,
      (counted Reg.SMB_ERR.NACK).mono (by simp), rfl, fun _ => rfl⟩
  | true =>
    cases p with
    | false =>
      have told := raisePost_onlyEvents 993 0 [1] (bump Reg.SMB_ERR.PEC s)
      have events := (put_onlyRegisters Reg.SMB_ERR.PEC (get Reg.SMB_ERR.PEC s + 1) s).onlyEvents.trans told
      have regs : OnlyRegs [Reg.SMB_ERR.PEC] s (raisePost 993 0 [1] (bump Reg.SMB_ERR.PEC s)) :=
        (counted Reg.SMB_ERR.PEC).trans (.of_regs _ (raisePost_regs ..))
      exact .of_next (out.trans (congrArg Host.Outcome.next (smbTaken_pec hA))) ⟨nofun,
        fun _ _ => ⟨(get_raisePost ..).trans (get_put_self ..), events.host⟩, nofun, nofun, regs.mono (by simp), OnlyEvents.of_setHost (r := s.host) events,
        events.sameMem⟩
    | true =>
      cases hS : adminServed .sideband s with
      | false =>
        exact .of_next (out.trans (congrArg Host.Outcome.next (smbTaken_held hA hS))) ⟨nofun, nofun, fun _ _ _ => rfl, nofun, fun _ _ => rfl, rfl,
          fun _ => rfl⟩
      | true =>
        have events := smbServe_onlyEvents l s
        exact .of_next (out.trans (congrArg Host.Outcome.next (smbTaken_served hA hS))) ⟨nofun, nofun, nofun, fun _ _ _ => events.host,
          .of_regs _ (raisePost_regs ..), events.of_setHost, events.sameMem⟩

theorem smbusClockLow_counted (n : Nat) (s : State) :
    25 ≤ n →
    Gives (.smbusClockLowTimeout n) s (fun t =>
      get Reg.SMB_ERR.TIMEOUT t = (get Reg.SMB_ERR.TIMEOUT s + 1) % 2 ^ Reg.SMB_ERR.TIMEOUT.width ∧
      get Reg.SMB_STAT.BUSY t = 0 ∧
      OnlyRegs [Reg.SMB_ERR.TIMEOUT, Reg.SMB_STAT.BUSY] s t ∧
      OnlyEvents s t ∧
      SameMem s t) := by
  intro h
  have keys : ([Reg.SMB_STAT.BUSY, Reg.SMB_ERR.TIMEOUT].map Fld.key).Nodup := by decide
  have idle : Wrote [(Reg.SMB_STAT.BUSY, 0)] s (put Reg.SMB_STAT.BUSY 0 s) := rfl
  have wrote := (idle.bump (f := Reg.SMB_ERR.TIMEOUT) (by decide)).of_regs (raisePost_regs 993 0 [3] _)
  have counted : OnlyRegisters s (bump Reg.SMB_ERR.TIMEOUT (put Reg.SMB_STAT.BUSY 0 s)) := (put_onlyRegisters ..).trans (put_onlyRegisters ..)
  have events := counted.onlyEvents.trans (raisePost_onlyEvents 993 0 [3] _)
  exact .of_next (occurs_of h) ⟨wrote.get_mem keys (v := get Reg.SMB_ERR.TIMEOUT s + 1) (by simp), wrote.get_mem keys (v := 0) (by simp),
    wrote.onlyRegs.mono (by simp), events, events.sameMem⟩

theorem calrefLoss_shown (s : State) :
    Gives (.calrefLoss) s (fun t =>
      get Reg.SYS_CLK_STAT.CALREF_OK t = 0 ∧
      t.pins.calref = false ∧
      t.cal = { s.cal with traced := false } ∧
      OnlyRegs [Reg.SYS_CLK_STAT.CALREF_OK] s t ∧
      t = { s with regs := t.regs, pins := t.pins, cal := t.cal } ∧
      SameMem s t) :=
  .of_next rfl ⟨get_put_self .., rfl, rfl, Wrote.onlyRegs (l := [(Reg.SYS_CLK_STAT.CALREF_OK, 0)]) rfl, rfl, fun _ => rfl⟩

theorem jtagTrstNAssert_shown (s : State) :
    Gives (.jtagTrstNAssert) s (fun t =>
      t.pins = { s.pins with trstN := false, tapReset := true } ∧
      OnlyRegs [] s t ∧
      t = { s with pins := t.pins } ∧
      SameMem s t) :=
  .of_next rfl ⟨rfl, fun _ _ => rfl, rfl, fun _ => rfl⟩

/-- Settles O47: each row writes a few fields, then a port's demand and the events tell it. -/
theorem hostPortsTrainResetAndDemand : Obligations.HostPortsTrainResetAndDemand := by
  unfold Obligations.HostPortsTrainResetAndDemand
  exact ⟨fun _ _ h => .of_next (exec_hostLanePromotion_none h) rfl, hostLanePromotion_promotes, hostLanePromotion_marks, pcieLinkUp_trains,
    sataLinkUp_trains, sasLinkUp_trains, pcieLinkDown_ends, pcieRefclkLoss_ends, perstNAssert_resets, perstNRelease_shown, functionLevelReset_drops,
    sataLinkDown_ends, sasLinkDown_ends, nexusTake_takes, nexusIdleFree_frees, iTNexusLoss_frees, notifyEnableSpinup_releases, pciePowerState_demands,
    pcieDeviceState_set, powerCondition_demands, pcieLowPower_enters, sataLowPower_enters, sasLowPower_enters, smbusPacket_taken, smbusClockLow_counted,
    calrefLoss_shown, jtagTrstNAssert_shown⟩

end Sys2Proof.Machine

/-! SUPPORT. Proofs of the obligations of the modes and bring-up family (02_modes_and_bringup.md). -/

namespace Sys2Proof.Machine

open Sys2Proof

/-! ### What a unit leaves of the rest of the device -/

/-- An operation spares the fields that a predicate names by key, and memory, pins and the boot's record with them. -/
structure Spares (keep : Nat → Bool) (s t : State) : Prop where
  fields : ∀ f : Fld, keep f.key = true → get f t = get f s
  mem : t.mem = s.mem
  pins : t.pins = s.pins
  boot : t.boot = s.boot

section Spares

variable {keep : Nat → Bool} {s t u : State}

theorem Spares.refl (s : State) : Spares keep s s := ⟨fun _ _ => rfl, rfl, rfl, rfl⟩

theorem Spares.trans (h : Spares keep s t) (k : Spares keep t u) : Spares keep s u :=
  ⟨fun f hf => (k.fields f hf).trans (h.fields f hf), k.mem.trans h.mem, k.pins.trans h.pins, k.boot.trans h.boot⟩

theorem Spares.ite {c : Prop} [Decidable c] (h : Spares keep s t) (k : Spares keep s u) : Spares keep s (if c then t else u) := by
  split <;> assumption

theorem Spares.foldl {α : Type} {g : State → α → State} (h : ∀ u x, Spares keep u (g u x)) (l : List α) (s : State) : Spares keep s (l.foldl g s) := by
  induction l generalizing s with
  | nil => exact .refl s
  | cons x l ih => exact (h s x).trans (ih _)

theorem Spares.mode (h : Spares keep s t) (hk : keep Reg.SYS_MODE.CUR.key = true) : mode t = mode s := h.fields _ hk

theorem Spares.sameMem (h : Spares keep s t) : SameMem s t := fun a => by rw [memByte, h.mem, memByte]

/-- A write of a field of no named key. -/
theorem Spares.put (h : Spares keep s t) {f : Fld} (hf : keep f.key = false) (v : Nat) : Spares keep s (put f v t) :=
  h.trans ⟨fun g hg => get_put_ne (fun e => by simp [e, hf] at hg) v t, rfl, rfl, rfl⟩

theorem Spares.puts (h : Spares keep s t) {l : List (Fld × Nat)} (hl : ∀ p ∈ l, keep p.1.key = false) : Spares keep s (puts l t) := by
  induction l generalizing t with
  | nil => exact h
  | cons p l ih => exact ih (h.put (hl p List.mem_cons_self) p.2) (fun q hq => hl q (List.mem_cons_of_mem _ hq))

/-- An event. -/
theorem Spares.told (h : Spares keep s t) (regs : u.regs = t.regs) (events : OnlyEvents t u) : Spares keep s u :=
  h.trans ⟨fun f _ => get_regs f regs, by rw [events], by rw [events], by rw [events]⟩

/-- What moves a unit's own record. -/
theorem Spares.record (h : Spares keep s t) (regs : u.regs = t.regs) (mem : u.mem = t.mem) (pins : u.pins = t.pins) (boot : u.boot = t.boot) :
    Spares keep s u :=
  h.trans ⟨fun f _ => get_regs f regs, mem, pins, boot⟩

theorem Spares.post (h : Spares keep s t) (c n : Nat) (l : List Nat) : Spares keep s (post c n l t) := h.told rfl rfl
theorem Spares.postReg (h : Spares keep s t) (f : Fld) (n : Nat) : Spares keep s (postReg f n t) := h.post ..
theorem Spares.raisePost (h : Spares keep s t) (i n : Nat) (l : List Nat) : Spares keep s (raisePost i n l t) :=
  h.told (raisePost_regs ..) (raisePost_onlyEvents ..)

theorem Spares.linePost (h : Spares keep s t) {f : Fld} (hf : keep f.key = false) (i v n : Nat) (l : List Nat) :
    Spares keep s (linePost i f v n l t) :=
  (h.put hf v).told (linePost_regs ..) (((hostEdge_onlyEvents t (Machine.put f v t))).trans (post_onlyEvents ..))

theorem Spares.bump (h : Spares keep s t) {f : Fld} (hf : keep f.key = false) : Spares keep s (bump f t) := h.put hf _
theorem Spares.setAct (h : Spares keep s t) (a : Nat) (r : ActSt) : Spares keep s (setAct a r t) := h.record rfl rfl rfl rfl
theorem Spares.setAsx (h : Spares keep s t) (n : Nat) (r : AsxSt) : Spares keep s (setAsx n r t) := h.record rfl rfl rfl rfl
theorem Spares.setHch (h : Spares keep s t) (n : Nat) (r : HchSt) : Spares keep s (setHch n r t) := h.record rfl rfl rfl rfl
theorem Spares.setOsv (h : Spares keep s t) (r : OsvSt) : Spares keep s (setOsv r t) := h.record rfl rfl rfl rfl

end Spares

/-- The fields of SYS but for MEDIA_FAULT, which the spindle moves; SYS is the lowest block (R14). -/
def sysKeys (k : Nat) : Bool := decide (k < 0x40010000 * 32) && k != Reg.SYS_MODE.MEDIA_FAULT.key

theorem sysKeys_eq_false {f : Fld} (h : 0x40010000 ≤ f.addr) : sysKeys f.key = false := by
  have high : ¬ f.key < 0x40010000 * 32 := by rw [Fld.key]; omega
  rw [sysKeys, decide_eq_false high, Bool.false_and]

/-- The field of unit n of a block above SYS. -/
theorem sysKeys_stride {b n lo w r : Nat} (h : 0x40010000 ≤ b) : sysKeys (Fld.mk (b + n) lo w r).key = false := sysKeys_eq_false (Nat.le_add_right_of_le h)

/-! ### Actuators that unload (R62, R96) -/

section Unload

variable {keep : Nat → Bool} {s t : State}

theorem sendBlocks_spares (l : Nat) (b : List Nat) (s : State) : Spares keep s (sendBlocks l b s) := by
  unfold sendBlocks carried setLink
  dsimp only
  split <;> exact (Spares.refl s).record rfl rfl rfl rfl

theorem gateOff_spares (a k : Nat) (s : State) : Spares keep s (gateOff a k s) := .ite (sendBlocks_spares ..) (.refl s)

theorem markUnwritten_spares (n : Nat) (s : State) : Spares keep s (markUnwritten n s) :=
  .ite ((Spares.refl s).setHch ..) (.refl s)

theorem permitFld_sysKeys (a k : Nat) : sysKeys (permitFld a k).key = false := by
  unfold permitFld
  split <;> exact sysKeys_stride (by decide)

theorem permitDrop_spares (a k c : Nat) (p : Int) (s : State) : Spares sysKeys s (permitDrop a k c p s) := by
  have gated := gateOff_spares (keep := sysKeys) a k s
  have fell := (gated.setAct a (actFell k c (get (Reg.ACT_WEDGE_TIME.WEDGE a) s) p (actOf a s))).put (permitFld_sysKeys a k) 0
  have counted := fell.bump (f := Reg.ACT_CNT.WUS a) (sysKeys_stride (by decide))
  exact .ite ((counted.trans (markUnwritten_spares ..)).raisePost ..) (.refl s)

theorem permitsFall_spares (a c : Nat) (s : State) : Spares sysKeys s (permitsFall a false c s) :=
  (permitDrop_spares a 1 c 0 s).trans (permitDrop_spares a 2 c 0 _)

theorem showLog_spares (a : Nat) (s : State) : Spares sysKeys s (showLog a s) := by
  unfold showLog
  split <;>
  · refine (Spares.refl s).puts ?_
    simp only [List.forall_mem_cons, List.not_mem_nil, false_imp_iff, implies_true, and_true]
    exact ⟨sysKeys_stride (by decide), sysKeys_stride (by decide), sysKeys_stride (by decide), sysKeys_stride (by decide),
      sysKeys_stride (by decide), sysKeys_stride (by decide), sysKeys_stride (by decide)⟩

theorem pushLog_spares (a : Nat) (e : WusEntry) (s : State) : Spares sysKeys s (pushLog a e s) :=
  .ite (((Spares.refl s).setAct ..).trans (showLog_spares a _))
    (((Spares.refl s).put (sysKeys_stride (by decide)) 1).post ..)

theorem endEpisode_spares (a k : Nat) (s : State) : Spares sysKeys s (endEpisode a k s) := by
  unfold endEpisode
  dsimp only
  split
  · exact .refl s
  · have logged (e : WusEntry) : Spares sysKeys s (pushLog a e (setAct a (dropEpisode k (actOf a s)) s)) :=
      ((Spares.refl s).setAct ..).trans (pushLog_spares ..)
    exact .ite ((logged _).record rfl rfl rfl rfl) (logged _)

theorem leaveFollow_spares (a : Nat) (s : State) : Spares sysKeys s (leaveFollow a s) := by
  have closed : Spares sysKeys s (put (Reg.ACT_STAT.WR_OK a) 0 s) := (Spares.refl s).put (sysKeys_stride (by decide)) 0
  exact .ite closed (((closed.trans (permitsFall_spares ..)).trans (endEpisode_spares ..)).trans (endEpisode_spares ..))

theorem asxOff_spares (h : Nat) (s : State) : Spares sysKeys s (asxOff h s) := by
  have shown : ∀ p ∈ [(Reg.ASX_HSTAT.STATE h, 0), (Reg.ASX_HSTAT.READY h, 0)], sysKeys p.1.key = false := by
    simp only [List.forall_mem_cons, List.not_mem_nil, false_imp_iff, implies_true, and_true]
    exact ⟨sysKeys_stride (by decide), sysKeys_stride (by decide)⟩
  have off : Spares sysKeys s (asxGo h 0 s) := (((Spares.refl s).setAsx ..).puts shown).postReg ..
  exact .ite off (.refl s)

theorem headsOff_spares (a : Nat) (s : State) : Spares sysKeys s (headsOff a s) := .foldl (fun u h => asxOff_spares h u) _ s

/-- An actuator that goes to UNLOADING leaves FOLLOW where it was in it, and its heads go off. -/
theorem actGo_unloading (a : Nat) (s : State) : actGo a 6 s =
    (let t := headsOff a (put (Reg.ACT_STAT.PAIRED a) 0 (postReg (Reg.ACT_STAT.STATE a) a (put (Reg.ACT_STAT.STATE a) 6
      (if actState a s = 4 then leaveFollow a s else s))))
     setAct a { actOf a t with since := tmpCount s } t) := by
  simp [actGo, actEntry]

theorem actGo_unloading_spares (a : Nat) (s : State) : Spares sysKeys s (actGo a 6 s) := by
  have left : Spares sysKeys s (if actState a s = 4 then leaveFollow a s else s) := .ite (leaveFollow_spares a s) (.refl s)
  have moved := (left.put (f := Reg.ACT_STAT.STATE a) (sysKeys_stride (by decide)) 6).postReg (Reg.ACT_STAT.STATE a) a
  have off := (moved.put (f := Reg.ACT_STAT.PAIRED a) (sysKeys_stride (by decide)) 0).trans (headsOff_spares a _)
  rw [actGo_unloading]
  exact off.setAct ..

theorem startUnload_spares (b : Bool) (a : Nat) (s : State) : Spares sysKeys s (startUnload b a s) :=
  (((Spares.refl s).put (f := Reg.ACT_CTL.UNLOAD a) (sysKeys_stride (by decide)) 0).trans (actGo_unloading_spares a _)).setAct ..

end Unload

end Sys2Proof.Machine

namespace Sys2Proof.Machine

open Sys2Proof

/-! ### The optical servo that parks, and the stop of the device's units (R38, R62) -/

section Park

variable {keep : Nat → Bool} {s t : State}

theorem opticalFall_spares (s : State) : Spares sysKeys s (opticalFall false s) := by
  have counted (e : OsvSt) : Spares sysKeys s (bump Reg.OSV_CNT.WFALLS (setOsv e s)) := ((Spares.refl s).setOsv e).bump (by decide)
  have fell (e : OsvSt) := ((Spares.refl s).setOsv e).put (f := Reg.OSV_STAT.PERMIT) (keep := sysKeys) (by decide) 0
  have told (e : OsvSt) := ((fell e).bump (f := Reg.OSV_CNT.WFALLS) (by decide)).raisePost 322 0 [0]
  have once : Spares sysKeys s (if s.osv.fellFast && !s.osv.fellSlow then bump Reg.OSV_CNT.WFALLS (setOsv (noteFall false s.osv) s) else s) :=
    .ite (counted _) (.refl s)
  unfold opticalFall pathFall
  split
  · exact told _
  · simpa using once

/-- The optical servo that goes to PARKING leaves FOLLOW where it was in it. -/
theorem osvGo_parking (s : State) : osvGo 9 s =
    (let t := if osvState s = 5 then opticalFall false s else s
     postReg Reg.OSV_STAT.STATE 0 (put Reg.OSV_STAT.STATE 9 (setOsv (freshRows t.osv) t))) := by
  simp [osvGo]

theorem osvGo_parking_spares (s : State) : Spares sysKeys s (osvGo 9 s) := by
  have left : Spares sysKeys s (if osvState s = 5 then opticalFall false s else s) := .ite (opticalFall_spares s) (.refl s)
  rw [osvGo_parking]
  exact ((left.setOsv _).put (by decide) 9).postReg ..

theorem motShow_spares (s : State) : Spares sysKeys s (motShow s) := by
  unfold motShow
  refine (Spares.foldl (fun u a => (Spares.refl u).puts ?_) _ s).trans (Spares.foldl (fun u g => (Spares.refl u).puts ?_) _ _)
  · simp only [List.forall_mem_cons, List.not_mem_nil, false_imp_iff, implies_true, and_true]
    exact ⟨sysKeys_stride (by decide), sysKeys_stride (by decide), sysKeys_stride (by decide)⟩
  · simp only [List.forall_mem_cons, List.not_mem_nil, false_imp_iff, implies_true, and_true]
    exact ⟨sysKeys_stride (by decide), sysKeys_stride (by decide)⟩

theorem enqueueMove_spares (g : Nat) (m : Move) (s : State) : Spares sysKeys s (enqueueMove g m s) := by
  have queued : Spares sysKeys s (setGrp g { grpOf g s with queue := (grpOf g s).queue ++ [m] } s) := (Spares.refl s).record rfl rfl rfl rfl
  exact queued.trans (motShow_spares _)

theorem refusePush_spares (g : Nat) (l : List Nat) (s : State) : Spares sysKeys s (refusePush g l s) := by
  have picked : Spares sysKeys s (if l.length ≤ 1 then s else freed s) := .ite (.refl s) ((Spares.refl s).record rfl rfl rfl rfl)
  refine picked.puts ?_
  simp only [List.forall_mem_cons, List.not_mem_nil, false_imp_iff, implies_true, and_true]
  exact ⟨sysKeys_stride (by decide), sysKeys_stride (by decide)⟩

theorem startPark_spares (s : State) : Spares sysKeys s (startPark s) := by
  have pushed : Spares sysKeys (osvGo 9 s) (pushSled 0 (osvGo 9 s)) := .ite (enqueueMove_spares ..) (refusePush_spares ..)
  exact ((osvGo_parking_spares s).trans pushed).setOsv _

/-- An actuator is told to unload, where it is not parked already. -/
def unloadTold (a : Nat) (s : State) : State :=
  if 2 ≤ actState a s ∧ actState a s ≤ 5 then startUnload (actState a s == 5) a s
  else if actState a s = 0 then s else put (Reg.ACT_CTL.UNLOAD a) 1 s

theorem unloadTold_spares (a : Nat) (s : State) : Spares sysKeys s (unloadTold a s) :=
  .ite (startUnload_spares ..) (.ite (.refl s) ((Spares.refl s).put (sysKeys_stride (by decide)) 1))

/-- The park is asked for, and begins where no write is under way. -/
def parkTold (s : State) : State :=
  let v := opticalFall false s
  let w := setOsv { v.osv with parking := true, held := none } (put Reg.OSV_CMD.HELD 0 v)
  if get Reg.OCH_STAT.WRITING w = 1 then setOsv { w.osv with waits := true } w else startPark w

theorem parkTold_spares (s : State) : Spares sysKeys s (parkTold s) := by
  have asked : Spares sysKeys s (setOsv { (opticalFall false s).osv with parking := true, held := none }
      (put Reg.OSV_CMD.HELD 0 (opticalFall false s))) := ((opticalFall_spares s).put (by decide) 0).setOsv _
  exact .ite (asked.setOsv _) (asked.trans (startPark_spares _))

theorem standDown_eq (s : State) : standDown s =
    (let u := unloadTold 1 (unloadTold 0 s)
     if 1 ≤ osvState u ∧ osvState u ≤ 8 then parkTold u else u) := rfl

/-- Units that stand down leave SYS, memory, pins and the boot's record. -/
theorem standDown_spares (s : State) : Spares sysKeys s (standDown s) := by
  have unloads := (unloadTold_spares 0 s).trans (unloadTold_spares 1 _)
  rw [standDown_eq]
  exact .ite (unloads.trans (parkTold_spares _)) unloads

/-! ### The spindle and the optical servo at PFAIL_N (R454, R455) -/

theorem allFallLater_spares (b : Bool) (s : State) : Spares keep s (allFallLater b s) := ((Spares.refl s).setAct ..).setAct ..

theorem requestRetract_spares (s : State) : Spares keep s (requestRetract s) := by
  have noted : Spares keep s (if (stgOf 0 s).retractReq then s else { s with spn := { s.spn with retractAt := tmpCount s } }) :=
    .ite (.refl s) ((Spares.refl s).record rfl rfl rfl rfl)
  exact noted.record rfl rfl rfl rfl

theorem unlock_spares (s : State) : Spares sysKeys s (unlock s) := by
  have fallen : Spares sysKeys s (lockFalls s) := (allFallLater_spares false s).linePost (by decide) ..
  have locked : Spares sysKeys s (if get Reg.SPN_STAT.LOCK s = 2 then lockFalls s else s) := .ite fallen (.refl s)
  exact locked.put (by decide) 0

/-- The spindle that goes to RETRACT. -/
theorem spnGo_retract (s : State) : spnGo 11 s =
    (let t := putIf (spnState s = 13) Reg.SYS_MODE.MEDIA_FAULT 0 (post 0x121 0 [spnState s, 11] (put Reg.SPN_STAT.STATE 11 (unlock s)))
     { t with spn := spnEnter (spnState s) 11 (tmpCount s) (get Reg.SPN_SPEED.SPEED s) t.spn }) := by
  simp [spnGo, actOnSpindle]

theorem spnGo_retract_spares (s : State) : Spares sysKeys s (spnGo 11 s) := by
  have moved := ((unlock_spares s).put (f := Reg.SPN_STAT.STATE) (by decide) 11).post 0x121 0 [spnState s, 11]
  have healed := Spares.ite (c := spnState s = 13) (moved.put (f := Reg.SYS_MODE.MEDIA_FAULT) (by decide) 0) moved
  rw [spnGo_retract]
  exact healed.record rfl rfl rfl rfl

theorem spnPfail_spares (s : State) : Spares sysKeys s (spnPfail s) := by
  have asked : Spares sysKeys s (allFallLater true (requestRetract s)) := (requestRetract_spares s).trans (allFallLater_spares ..)
  exact .ite asked (asked.trans (spnGo_retract_spares _))

theorem osvPfail_spares (s : State) : Spares sysKeys s (osvPfail s) := by
  have disc (d : DiscSt) : Spares sysKeys s (if 1 ≤ discState s ∧ discState s ≤ 11 then setDisc d (put Reg.OSV_DSTAT.STATE 13 s) else s) :=
    .ite (((Spares.refl s).put (by decide) 13).setOsv _) (.refl s)
  have idle {u : State} (h : Spares sysKeys s u) := (h.put (f := Reg.OSV_STAT.STATE) (by decide) 0).postReg Reg.OSV_STAT.STATE 0
  have stopped := (disc (discEnter (discState s) 13 (tmpCount s) 0 s.osv.disc)).setOsv
  exact .ite (((idle (stopped _)).put (by decide) 0).setOsv _) (stopped _)

end Park

end Sys2Proof.Machine

namespace Sys2Proof.Machine

open Sys2Proof

/-! ### The mode moves (R39, R45) -/

section Mode

variable {keep : Nat → Bool} {s t : State}

/-- What a mode change writes. -/
theorem goMode_wrote (m : Nat) (s : State) : Wrote [(Reg.SYS_MODE.PREV, mode s), (Reg.SYS_MODE.CUR, m)] s (goMode m s) := post_regs ..

theorem goMode_onlyEvents (m : Nat) (s : State) : OnlyEvents s (goMode m s) := (puts_onlyRegisters ..).onlyEvents.trans (post_onlyEvents ..)

theorem mode_goMode {m : Nat} (hm : m < 8) (s : State) : mode (goMode m s) = m :=
  have keys : ([Reg.SYS_MODE.PREV, Reg.SYS_MODE.CUR].map Fld.key).Nodup := by decide
  ((goMode_wrote m s).get_mem keys (v := m) (by simp)).trans (Nat.mod_eq_of_lt hm)

theorem prev_goMode (m : Nat) (s : State) : get Reg.SYS_MODE.PREV (goMode m s) = mode s % 8 :=
  have keys : ([Reg.SYS_MODE.PREV, Reg.SYS_MODE.CUR].map Fld.key).Nodup := by decide
  (goMode_wrote m s).get_mem keys (v := mode s) (by simp)

theorem get_goMode {f : Fld} (hf : f.key ∉ [Reg.SYS_MODE.PREV, Reg.SYS_MODE.CUR].map Fld.key) (m : Nat) (s : State) :
    get f (goMode m s) = get f s := (goMode_wrote m s).get_ne hf

theorem goMode_boot (m : Nat) (s : State) : (goMode m s).boot = s.boot := by rw [goMode_onlyEvents]
theorem goMode_pins (m : Nat) (s : State) : (goMode m s).pins = s.pins := by rw [goMode_onlyEvents]
theorem goMode_mem (m : Nat) (s : State) : (goMode m s).mem = s.mem := by rw [goMode_onlyEvents]

/-- The spindle's drive is told to run or stop, with or without the curve, which is then evaluated (R96, R98). -/
theorem evalCurve_spares (h : keep Reg.SPN_CURVE_STAT.ON_LEVEL.key = false) (h' : keep Reg.SPN_CURVE_STAT.BAD.key = false) (s : State) :
    Spares keep s (evalCurve s) := by
  have shown (x y : Nat) : Spares keep s (puts [(Reg.SPN_CURVE_STAT.ON_LEVEL, x), (Reg.SPN_CURVE_STAT.BAD, y)] s) :=
    (Spares.refl s).puts (by simp [h, h'])
  have taken (x y : Nat) (r : SpnSt) :
      Spares keep s { puts [(Reg.SPN_CURVE_STAT.ON_LEVEL, x), (Reg.SPN_CURVE_STAT.BAD, y)] s with spn := r } :=
    (shown x y).record rfl rfl rfl rfl
  unfold evalCurve
  dsimp only
  split
  · exact taken _ _ _
  · exact .ite (taken _ _ _) ((taken _ _ _).post ..)

/-- The fields of the drive's command stay as the curve is evaluated. -/
def driveKeys (k : Nat) : Bool := k == Reg.SPN_CTL.RUN.key || k == Reg.SPN_CTL.CURVE.key

theorem get_spnMode_drive {f : Fld} (hf : driveKeys f.key = true) (run curve : Nat) (s : State) :
    get f (spnMode run curve s) = get f (puts [(Reg.SPN_CTL.RUN, run), (Reg.SPN_CTL.CURVE, curve)] s) :=
  (evalCurve_spares (by decide) (by decide) _).fields f hf

theorem drive_keys : ([Reg.SPN_CTL.RUN, Reg.SPN_CTL.CURVE].map Fld.key).Nodup := by decide

theorem run_spnMode (run curve : Nat) (s : State) : get Reg.SPN_CTL.RUN (spnMode run curve s) = run % 2 :=
  (get_spnMode_drive (by decide) run curve s).trans (get_puts_mem (l := [(Reg.SPN_CTL.RUN, run), (Reg.SPN_CTL.CURVE, curve)]) drive_keys (by simp) s)

theorem curve_spnMode (run curve : Nat) (s : State) : get Reg.SPN_CTL.CURVE (spnMode run curve s) = curve % 2 :=
  (get_spnMode_drive (by decide) run curve s).trans (get_puts_mem (l := [(Reg.SPN_CTL.RUN, run), (Reg.SPN_CTL.CURVE, curve)]) drive_keys (by simp) s)

theorem spnMode_spares (h : [Reg.SPN_CTL.RUN, Reg.SPN_CTL.CURVE, Reg.SPN_CURVE_STAT.ON_LEVEL, Reg.SPN_CURVE_STAT.BAD].all (fun f => !keep f.key) = true)
    (run curve : Nat) (s : State) : Spares keep s (spnMode run curve s) := by
  simp only [List.all_cons, List.all_nil, Bool.and_true, Bool.and_eq_true, Bool.not_eq_true'] at h
  obtain ⟨hrun, hcurve, hlevel, hbad⟩ := h
  have told : Spares keep s (puts [(Reg.SPN_CTL.RUN, run), (Reg.SPN_CTL.CURVE, curve)] s) := (Spares.refl s).puts (by simp [hrun, hcurve])
  exact told.trans (evalCurve_spares hlevel hbad _)

theorem spnMode_spares_sys (run curve : Nat) (s : State) : Spares sysKeys s (spnMode run curve s) := spnMode_spares (by decide) run curve s

/-! ### A request is taken (R45, R39) -/

theorem takeMode_refused {k : Nat} (h : allowed (mode s) k = false) :
    takeMode k s = puts [(Reg.SYS_MODE_REQ.GO, 0), (Reg.SYS_MODE_REQ.REFUSED, 1)] s := by
  simp [takeMode, h, puts_cons, puts_nil]

theorem takeMode_service (h : allowed (mode s) 3 = true) : takeMode 3 s = spnMode 1 0 (goMode 3 (put Reg.SYS_MODE_REQ.GO 0 s)) := by
  simp [takeMode, h]

/-- A transition to mode k runs. -/
def underWay (k : Nat) (s : State) : State := puts [(Reg.SYS_MODE_REQ.GO, 0), (Reg.SYS_MODE.BUSY, 1)] (setBoot { s.boot with going := some k } s)

theorem takeMode_begins {k : Nat} (h : allowed (mode s) k = true) (hk : k ≠ 3) :
    takeMode k s = if k = 1 ∧ mode s = 4 then spnMode 0 0 (underWay k s) else underWay k s := by
  simp only [takeMode, h, Bool.not_true, Bool.false_eq_true, if_false, if_neg hk]
  rfl

theorem underWay_wrote (k : Nat) (s : State) : Wrote [(Reg.SYS_MODE_REQ.GO, 0), (Reg.SYS_MODE.BUSY, 1)] s (underWay k s) := puts_congr _ rfl

/-- A transition that runs: BUSY with the target, in the mode as it was. -/
structure Begun (k : Nat) (s t : State) : Prop where
  go : get Reg.SYS_MODE_REQ.GO t = 0
  busy : get Reg.SYS_MODE.BUSY t = 1
  mode : mode t = Machine.mode s
  boot : t.boot = { s.boot with going := some k }
  mem : SameMem s t
  pend : get Reg.SYS_MODE_REQ.PEND t = get Reg.SYS_MODE_REQ.PEND s

theorem underWay_begun (k : Nat) (s : State) : Begun k s (underWay k s) :=
  have wrote := underWay_wrote k s
  have keys : ([Reg.SYS_MODE_REQ.GO, Reg.SYS_MODE.BUSY].map Fld.key).Nodup := by decide
  { go := wrote.get_mem keys (v := 0) (by simp)
    busy := wrote.get_mem keys (v := 1) (by simp)
    mode := wrote.get_ne (by decide)
    boot := rfl
    mem := fun _ => rfl
    pend := wrote.get_ne (by decide) }

theorem Begun.spares {k : Nat} {u : State} (h : Begun k s t) (k' : Spares sysKeys t u) : Begun k s u where
  go := (k'.fields _ (by decide)).trans h.go
  busy := (k'.fields _ (by decide)).trans h.busy
  mode := (k'.mode (by decide)).trans h.mode
  boot := k'.boot.trans h.boot
  mem := fun a => (k'.sameMem a).trans (h.mem a)
  pend := (k'.fields _ (by decide)).trans h.pend

theorem takeMode_begun {k : Nat} (h : allowed (mode s) k = true) (hk : k ≠ 3) : Begun k s (takeMode k s) := by
  rw [takeMode_begins h hk]
  split
  · exact (underWay_begun k s).spares (spnMode_spares_sys ..)
  · exact underWay_begun k s

/-- SERVICE from QUIESCE is entered at once (R96). -/
structure Resumed (s t : State) : Prop where
  go : get Reg.SYS_MODE_REQ.GO t = 0
  mode : mode t = 3
  prev : get Reg.SYS_MODE.PREV t = Machine.mode s % 8
  run : get Reg.SPN_CTL.RUN t = 1
  boot : t.boot = s.boot
  mem : SameMem s t
  pend : get Reg.SYS_MODE_REQ.PEND t = get Reg.SYS_MODE_REQ.PEND s

theorem takeMode_resumed (h : allowed (mode s) 3 = true) : Resumed s (takeMode 3 s) := by
  have drive := spnMode_spares_sys 1 0 (goMode 3 (put Reg.SYS_MODE_REQ.GO 0 s))
  have old : mode (put Reg.SYS_MODE_REQ.GO 0 s) = mode s := get_put_ne (by decide) ..
  rw [takeMode_service h]
  exact {
    go := by rw [drive.fields _ (by decide), get_goMode (by decide), get_put_self, Nat.zero_mod]
    mode := (drive.mode (by decide)).trans (mode_goMode (by decide) _)
    prev := by rw [drive.fields _ (by decide), prev_goMode, old]
    run := run_spnMode ..
    boot := drive.boot.trans (goMode_boot ..)
    mem := fun a => by rw [memByte, drive.mem, goMode_mem]; rfl
    pend := by rw [drive.fields _ (by decide), get_goMode (by decide), get_put_ne (by decide)] }

/-! ### MODE_REQUEST and the request that is held (R45) -/

/-- The state of a request with its target shown. -/
theorem mode_target (k : Nat) (s : State) : mode (put Reg.SYS_MODE_REQ.TARGET k s) = mode s := get_put_ne (by decide) ..

theorem modeBusy_iff : modeBusy s = true ↔ get Reg.SYS_MODE.BUSY s = 1 ∨ get Reg.SYS_MODE.ACT s = 1 := by simp [modeBusy]

theorem modeBusy_target (k : Nat) (s : State) : modeBusy (put Reg.SYS_MODE_REQ.TARGET k s) = modeBusy s := by
  rw [modeBusy, get_put_ne (by decide), get_put_ne (by decide), modeBusy]

theorem exec_modeRequest_rescue {k : Nat} (h : mode s = 5) : exec (.modeRequest k) s = .next (put Reg.SYS_MODE_REQ.TARGET k s) := by
  refine congrArg Host.Outcome.next ?_
  rw [askMode, mode_target, if_pos h]

theorem exec_modeRequest_held {k : Nat} (h : mode s ≠ 5) (hb : modeBusy s = true) : exec (.modeRequest k) s = .next
    (puts [(Reg.SYS_MODE_REQ.TARGET, k), (Reg.SYS_MODE_REQ.GO, 1), (Reg.SYS_MODE_REQ.PEND, 1)] (setBoot { s.boot with heldReq := some (k % 8) } s)) := by
  refine congrArg Host.Outcome.next ?_
  rw [askMode, mode_target, if_neg h, modeBusy_target, if_pos hb]
  rfl

theorem exec_modeRequest_taken {k : Nat} (h : mode s ≠ 5) (hb : modeBusy s = false) :
    exec (.modeRequest k) s = .next (takeMode (k % 8) (put Reg.SYS_MODE_REQ.TARGET k s)) := by
  refine congrArg Host.Outcome.next ?_
  rw [askMode, mode_target, if_neg h, modeBusy_target, if_neg (by simp [hb])]

theorem modeBusy_eq_false (hb : get Reg.SYS_MODE.BUSY s ≠ 1) (ha : get Reg.SYS_MODE.ACT s ≠ 1) : modeBusy s = false := by
  simp [modeBusy, hb, ha]

/-- The held request leaves its place. -/
def heldTaken (s : State) : State := put Reg.SYS_MODE_REQ.PEND 0 (setBoot { s.boot with heldReq := none } s)

theorem exec_heldModeRequestTaken {k : Nat} (hk : s.boot.heldReq = some k) (hb : modeBusy s = false) :
    exec .heldModeRequestTaken s = .next (takeMode k (heldTaken s)) := by
  rw [show exec .heldModeRequestTaken s = execHeldModeRequestTaken s from rfl, execHeldModeRequestTaken, hk]
  exact occurs_of hb

theorem mode_heldTaken (s : State) : mode (heldTaken s) = mode s := get_put_ne (by decide) ..

theorem pend_heldTaken (s : State) : get Reg.SYS_MODE_REQ.PEND (heldTaken s) = 0 := get_put_self ..

end Mode

end Sys2Proof.Machine

namespace Sys2Proof.Machine

open Sys2Proof

/-! ### PFAIL_N asserts (R42, R454) -/

section Pfail

variable {s t : State}

/-- What RESCUE leaves of requests and activations, whatever the device was at. -/
structure Rescued (s t : State) : Prop where
  mode : mode t = 5
  prev : get Reg.SYS_MODE.PREV t = Machine.mode s % 8
  busy : get Reg.SYS_MODE.BUSY t = 0
  act : get Reg.SYS_MODE.ACT t = 0
  going : t.boot.going = none
  held : t.boot.heldReq = none
  pins : t.pins = s.pins
  mem : SameMem s t

/-- A device whose requests and activations are given up, in the mode as it was. -/
structure Abandoned (s t : State) : Prop where
  mode : mode t = Machine.mode s
  busy : get Reg.SYS_MODE.BUSY t = 0
  act : get Reg.SYS_MODE.ACT t = 0
  going : t.boot.going = none
  held : t.boot.heldReq = none
  pins : t.pins = s.pins
  mem : t.mem = s.mem

/-- The request, the activation and the checkpoint trigger end. -/
def givenUp : List (Fld × Nat) :=
  [(Reg.SYS_MODE.BUSY, 0), (Reg.SYS_MODE.ACT, 0), (Reg.SYS_MODE_REQ.PEND, 0), (Reg.SYS_MODE_REQ.GO, 0), (Reg.PMU_CKPT_STAT.HELD, 0),
   (Reg.PMU_CKPT_CTL.REQ, 0)]

theorem abandon_abandoned (s : State) : Abandoned s (abandon s) := by
  have kept : Spares (· == Reg.SYS_MODE.CUR.key) s (putIf (s.boot.actPhase = 1 ∨ s.boot.actPhase = 2) Reg.SYS_ACT_STAT.RESULT 0 s) :=
    .ite ((Spares.refl s).put (by decide) 0) (.refl s)
  have wrote : Wrote givenUp (putIf (s.boot.actPhase = 1 ∨ s.boot.actPhase = 2) Reg.SYS_ACT_STAT.RESULT 0 s) (abandon s) := by
    rw [Wrote, abandon, givenUp]
  have keys : ((givenUp.map Prod.fst).map Fld.key).Nodup := by decide
  exact {
    mode := (wrote.get_ne (by decide)).trans (kept.mode (by decide))
    busy := wrote.get_mem keys (v := 0) (by simp [givenUp])
    act := wrote.get_mem keys (v := 0) (by simp [givenUp])
    going := rfl
    held := rfl
    pins := kept.pins
    mem := kept.mem }

theorem trialCut_abandoned (h : Abandoned s t) : Abandoned s (trialCut t) := by
  have cut : Spares sysKeys (setBoot { t.boot with trialRuns := false } t) (puts [(Reg.BOOT_SLOT_CTL.ARMED, 0), (Reg.BOOT_SLOT_CTL.TRIES, 1)]
      (setBoot { t.boot with trialRuns := false } t)) := (Spares.refl _).puts (by decide)
  have ended : Abandoned s (setBoot { t.boot with trialRuns := false } t) := ⟨h.mode, h.busy, h.act, h.going, h.held, h.pins, h.mem⟩
  unfold trialCut
  split
  · dsimp only
    split
    · exact ⟨(cut.mode (by decide)).trans ended.mode, (cut.fields _ (by decide)).trans ended.busy, (cut.fields _ (by decide)).trans ended.act,
        (congrArg BootSt.going cut.boot).trans ended.going, (congrArg BootSt.heldReq cut.boot).trans ended.held, cut.pins.trans ended.pins,
        cut.mem.trans ended.mem⟩
    · exact ended
  · exact h

theorem toRescue_rescued (v : Nat) (s : State) : Rescued s (toRescue v s) := by
  have given := trialCut_abandoned (abandon_abandoned s)
  have units : Spares sysKeys (goMode 5 (trialCut (abandon s))) (osvPfail (spnPfail (goMode 5 (trialCut (abandon s))))) :=
    (spnPfail_spares _).trans (osvPfail_spares _)
  unfold toRescue
  dsimp only
  generalize trialCut (abandon s) = u at given units ⊢
  generalize osvPfail (spnPfail (goMode 5 u)) = w at units ⊢
  exact {
    mode := (units.mode (by decide)).trans (mode_goMode (by decide) u)
    prev := by
      have shown := (units.fields Reg.SYS_MODE.PREV (by decide)).trans (prev_goMode 5 u)
      rwa [given.mode] at shown
    busy := (units.fields Reg.SYS_MODE.BUSY (by decide)).trans ((get_goMode (by decide) 5 u).trans given.busy)
    act := (units.fields Reg.SYS_MODE.ACT (by decide)).trans ((get_goMode (by decide) 5 u).trans given.act)
    going := (congrArg BootSt.going (units.boot.trans (goMode_boot 5 u))).trans given.going
    held := (congrArg BootSt.heldReq (units.boot.trans (goMode_boot 5 u))).trans given.held
    pins := units.pins.trans ((goMode_pins 5 u).trans given.pins)
    mem := fun a => congrArg (fun m => AMap.getD m a 0) (units.mem.trans ((goMode_mem 5 u).trans given.mem)) }

end Pfail

end Sys2Proof.Machine

namespace Sys2Proof.Machine

open Sys2Proof

/-! ### Commands that are taken as fetching resumes (R377) -/

section Transitions

variable {s t : State}

/-- The fields of SYS_MODE and of the boot record. -/
def serviceKeys (k : Nat) : Bool := k / 32 == Reg.SYS_MODE.desc.base || k / 32 == Reg.BOOT_SLOT_CTL.desc.base

/-- These fields and those of SYS_ACT_STAT. -/
def modeKeys (k : Nat) : Bool := serviceKeys k || k / 32 == Reg.SYS_ACT_STAT.desc.base

theorem wakeLink_spares (p : Port) (s : State) : Spares modeKeys s (wakeLink p s) := by
  cases p with
  | pcie | sas0 | sas1 | sata => exact (Spares.refl s).put (by decide) 0
  | sideband | fabric | internal => exact .refl s

theorem setDemand_spares (p : Port) (m l : Nat) (s : State) : Spares modeKeys s (setDemand p m l s) := by
  have told {fm fl fc : Fld} (hm : modeKeys fm.key = false) (hl : modeKeys fl.key = false) (hc : modeKeys fc.key = false) (n : Nat) :
      Spares modeKeys s (linePost n fc 1 0 [m, l] (puts [(fm, m), (fl, l)] s)) :=
    ((Spares.refl s).puts (by simp [hm, hl])).linePost hc ..
  cases p with
  | pcie | sas0 | sas1 | sata => exact .ite (.refl s) (told (by decide) (by decide) (by decide) _)
  | sideband | fabric | internal => exact .refl s

theorem Spares.setCmd {keep : Nat → Bool} (h : Spares keep s t) (r : CmdSt) : Spares keep s (setCmd r t) := h.record rfl rfl rfl rfl
theorem Spares.setHost {keep : Nat → Bool} (h : Spares keep s t) (r : HostSt) : Spares keep s (setHost r t) := h.record rfl rfl rfl rfl
theorem Spares.send {keep : Nat → Bool} (h : Spares keep s t) (m : Msg) : Spares keep s (send m t) := h.record rfl rfl rfl rfl

theorem stampCmd_spares (c : HostCmd) (s : State) : Spares modeKeys s (stampCmd c s) := by
  have stamped (r : CmdSt) := ((Spares.refl s).setCmd r).puts (keep := modeKeys)
    (l := [(Reg.CMD_STAMP_LO.STAMP, bits s.cmd.next 0 32), (Reg.CMD_STAMP_HI.STAMP, bits s.cmd.next 32 16)]) (by simp; decide)
  have counted {u : State} (h : Spares modeKeys s u) : Spares modeKeys s (countCtxs u) := h.puts (by simp; decide)
  exact .ite ((counted (stamped _)).trans (setDemand_spares ..)) (counted (stamped _))

theorem takeCmd_spares (c : HostCmd) (s : State) : Spares modeKeys s (takeCmd c s) := by
  have attention : Spares modeKeys s (reportUa c s) := ((Spares.refl s).setHost _).send _
  have full : Spares modeKeys s (linePost 609 Reg.CMD_POOL_STAT.FULL 1 0 [ctxClass c] s) := (Spares.refl s).linePost (by decide) ..
  exact .ite attention (.ite (stampCmd_spares c s) (.ite (full.send _) full))

theorem whileStopped_spares (c : HostCmd) (s : State) : Spares modeKeys s (whileStopped c s) := by
  have held := (Spares.refl s).setCmd (keep := modeKeys) { s.cmd with held := s.cmd.held ++ [c] }
  exact .ite (((Spares.refl s).bump (by decide)).send _) (.ite (held.put (by decide) _) (.refl s))

theorem arriveCmd_spares (c : HostCmd) (s : State) : Spares modeKeys s (arriveCmd c s) := by
  have woken := wakeLink_spares c.port s
  have full {u : State} : Spares modeKeys u (nexusFull c u) := ((Spares.refl u).send _).linePost (by decide) ..
  have rom {u : State} : Spares modeKeys u (romServes c u) := .ite ((Spares.refl u).send _) (.refl u)
  have nexus {u : State} : Spares modeKeys u (takeNexus c u) := .ite ((Spares.refl u).setHost _) (.refl u)
  exact .ite (woken.trans rom) (.ite woken (.ite (woken.trans (whileStopped_spares ..)) (.ite (woken.trans full)
    ((woken.trans nexus).trans (takeCmd_spares ..)))))

theorem resumeFetch_spares (s : State) : Spares modeKeys s (resumeFetch s) :=
  (((Spares.refl s).setCmd _).put (by decide) 0).trans (.foldl (fun u c => arriveCmd_spares c u) s.cmd.held _)

/-! ### Domains that are requested (R446) -/

theorem domRequest_spares (v : Nat) (s : State) (d : Nat) : Spares modeKeys s (domRequest v s d) := by
  have asked (b : Bool) : Spares modeKeys s (putBit Reg.PMU_DOM_CTL.ON d b s) := (Spares.refl s).put (by decide) _
  have pended (b c : Bool) : Spares modeKeys s (putBit Reg.PMU_DOM_PEND.PEND d c (putBit Reg.PMU_DOM_CTL.ON d b s)) := (asked b).put (by decide) _
  exact .ite (.ite (pended true false) (.ite (asked true) ((asked true).record rfl rfl rfl rfl))) (.ite (pended false true) (asked false))

theorem domRefused_spares (d c : Nat) (s : State) : Spares modeKeys s (domRefused d c s) := by
  have named := (Spares.refl s).puts (keep := modeKeys) (l := [(Reg.PMU_DOM_ERR.DOM, d), (Reg.PMU_DOM_ERR.CAUSE, c)]) (by simp; decide)
  exact .ite ((Spares.refl s).put (by decide) 1) (named.linePost (by decide) ..)

theorem requestDomains_spares (v : Nat) (s : State) : Spares modeKeys s (requestDomains v s) :=
  (Spares.foldl (domRequest_spares v) _ s).trans (.foldl (fun u d => domRefused_spares d 2 u) _ _)

theorem noteEligible_spares {keep : Nat → Bool} (z : Nat) (s : State) : Spares keep s (noteEligible z s) := by
  unfold noteEligible
  split
  · exact (Spares.refl s).record rfl rfl rfl rfl
  · exact .refl s

theorem noteAllEligible_spares {keep : Nat → Bool} (s : State) : Spares keep s (noteAllEligible s) := by
  unfold noteAllEligible
  exact .foldl (g := fun t (p : Nat × Nat) => noteEligible p.1 t) (fun u p => noteEligible_spares p.1 u) _ s

/-! ### SERVICE is entered (R40, R48, R62) -/

/-- A trial that has reached SERVICE is cleared (R48). -/
def trialCleared (s t : State) : State :=
  if s.boot.trialRuns then puts [(Reg.BOOT_SLOT_CTL.TRIAL, 0), (Reg.BOOT_SLOT_CTL.ARMED, 0), (Reg.BOOT_SLOT_CTL.TRIES, 0)] t else t

/-- An activation that has reached SERVICE is done (R62). -/
def activationDone (s t : State) : State :=
  if get Reg.SYS_ACT_STAT.RESULT s = 1 then attention (put Reg.SYS_ACT_STAT.RESULT 2 t) else t

/-- SERVICE before its domains, the drive and fetching. -/
def serviceBegun (s : State) : State :=
  let v := activationDone s (trialCleared s (noteAllEligible (goMode 3 s)))
  puts [(Reg.SYS_MODE.ACT, 0), (Reg.SYS_MODE.MEDIA_FAULT, 0)] (setBoot { v.boot with trialRuns := false, actPhase := 0, actPort := none } v)

theorem exec_serviceEntry (hm : mode s = 2) (hr : serviceReady s = true) : exec .serviceEntry s = .next
    (resumeFetch (spnMode 1 0 (requestDomains (get Reg.PMU_DOM_SVC.SET s ||| 1) (serviceBegun s)))) := occurs_of ⟨hm, hr⟩

/-- What SERVICE shows. -/
structure InService (s t : State) : Prop where
  mode : mode t = 3
  prev : get Reg.SYS_MODE.PREV t = 2
  act : get Reg.SYS_MODE.ACT t = 0
  media : get Reg.SYS_MODE.MEDIA_FAULT t = 0
  trial : s.boot.trialRuns = true →
    get Reg.BOOT_SLOT_CTL.TRIAL t = 0 ∧ get Reg.BOOT_SLOT_CTL.ARMED t = 0 ∧ get Reg.BOOT_SLOT_CTL.TRIES t = 0
  runs : t.boot.trialRuns = false
  mem : SameMem s t

theorem InService.spares {u : State} (h : InService s t) (k : Spares modeKeys t u) : InService s u where
  mode := (k.mode (by decide)).trans h.mode
  prev := (k.fields _ (by decide)).trans h.prev
  act := (k.fields _ (by decide)).trans h.act
  media := (k.fields _ (by decide)).trans h.media
  trial hr :=
    let ⟨trial, armed, tries⟩ := h.trial hr
    ⟨(k.fields _ (by decide)).trans trial, (k.fields _ (by decide)).trans armed, (k.fields _ (by decide)).trans tries⟩
  runs := (congrArg BootSt.trialRuns k.boot).trans h.runs
  mem a := (k.sameMem a).trans (h.mem a)

theorem trialCleared_wrote (ht : s.boot.trialRuns = true) (t : State) :
    Wrote [(Reg.BOOT_SLOT_CTL.TRIAL, 0), (Reg.BOOT_SLOT_CTL.ARMED, 0), (Reg.BOOT_SLOT_CTL.TRIES, 0)] t (trialCleared s t) := by
  rw [Wrote, trialCleared, if_pos ht]

/-- The trial's fields apart, clearing it changes nothing. -/
theorem trialCleared_spares (s t : State) : Spares sysKeys t (trialCleared s t) := .ite ((Spares.refl t).puts (by decide)) (.refl t)

theorem activationDone_spares (s t : State) : Spares serviceKeys t (activationDone s t) :=
  .ite (((Spares.refl t).put (by decide) 2).setHost _) (.refl t)

theorem serviceBegun_inService (hm : mode s = 2) : InService s (serviceBegun s) := by
  have noted : Spares (fun _ => true) (goMode 3 s) (noteAllEligible (goMode 3 s)) := noteAllEligible_spares _
  have cleared := trialCleared_spares s (noteAllEligible (goMode 3 s))
  have trial := fun ht => trialCleared_wrote (s := s) ht (noteAllEligible (goMode 3 s))
  have done := activationDone_spares s (trialCleared s (noteAllEligible (goMode 3 s)))
  have keys : ([Reg.SYS_MODE.ACT, Reg.SYS_MODE.MEDIA_FAULT].map Fld.key).Nodup := by decide
  have trialKeys : ([Reg.BOOT_SLOT_CTL.TRIAL, Reg.BOOT_SLOT_CTL.ARMED, Reg.BOOT_SLOT_CTL.TRIES].map Fld.key).Nodup := by decide
  unfold serviceBegun
  generalize noteAllEligible (goMode 3 s) = n at *
  generalize trialCleared s n = c at *
  generalize activationDone s c = v at *
  have wrote : Wrote [(Reg.SYS_MODE.ACT, 0), (Reg.SYS_MODE.MEDIA_FAULT, 0)] v (puts [(Reg.SYS_MODE.ACT, 0), (Reg.SYS_MODE.MEDIA_FAULT, 0)]
      (setBoot { v.boot with trialRuns := false, actPhase := 0, actPort := none } v)) := puts_congr _ rfl
  have old {f : Fld} (hs : serviceKeys f.key = true) (hc : sysKeys f.key = true) : get f v = get f (goMode 3 s) :=
    (done.fields f hs).trans ((cleared.fields f hc).trans (noted.fields f rfl))
  exact {
    mode := (wrote.get_ne (by decide)).trans ((old (by decide) (by decide)).trans (mode_goMode (by decide) s))
    prev := by
      rw [wrote.get_ne (by decide), old (by decide) (by decide), prev_goMode, hm]
    act := wrote.get_mem keys (v := 0) (by simp)
    media := wrote.get_mem keys (v := 0) (by simp)
    trial := fun ht => by
      have zero {f : Fld} (hf : (f, 0) ∈ [(Reg.BOOT_SLOT_CTL.TRIAL, 0), (Reg.BOOT_SLOT_CTL.ARMED, 0), (Reg.BOOT_SLOT_CTL.TRIES, 0)]) : get f c = 0 :=
        ((trial ht).get_mem trialKeys hf).trans (Nat.zero_mod _)
      refine ⟨?_, ?_, ?_⟩ <;> rw [wrote.get_ne (by decide), done.fields _ (by decide), zero (by simp)]
    runs := rfl
    mem := fun a => congrArg (fun m => AMap.getD m a 0) (done.mem.trans (cleared.mem.trans (noted.mem.trans (goMode_mem 3 s)))) }

theorem serviceEntry_serves (hm : mode s = 2) (hr : serviceReady s = true) : Gives .serviceEntry s (InService s) := by
  have begun := serviceBegun_inService hm
  have requested := requestDomains_spares (get Reg.PMU_DOM_SVC.SET s ||| 1) (serviceBegun s)
  exact .of_next (exec_serviceEntry hm hr)
    (begun.spares ((requested.trans (spnMode_spares (by decide) 1 0 _)).trans (resumeFetch_spares _)))

/-! ### QUIESCE is entered (R39, R96) -/

theorem exec_quiesceEntry_stays (hm : mode s = 3) (hg : s.boot.going = some 4) : exec .quiesceEntry s = .next
    (let t := goMode 4 (standDown s)
     put Reg.SYS_MODE.BUSY 0 (setBoot { t.boot with going := none } (spnMode (get Reg.SPN_CTL.RUN t) 1 t))) := by
  rw [show exec .quiesceEntry s = execQuiesceEntry s from rfl, execQuiesceEntry]
  dsimp only
  rw [if_pos hg]
  exact occurs_of ⟨hm, by rw [hg]; rfl⟩

theorem exec_quiesceEntry_stops {k : Nat} (hm : mode s = 3) (hg : s.boot.going = some k) (hk : k ≠ 4) :
    exec .quiesceEntry s = .next (spnMode 0 0 (goMode 4 (standDown s))) := by
  have other : s.boot.going ≠ some 4 := by rw [hg]; exact fun e => hk (Option.some.inj e)
  rw [show exec .quiesceEntry s = execQuiesceEntry s from rfl, execQuiesceEntry]
  dsimp only
  rw [if_neg other]
  exact occurs_of ⟨hm, by rw [hg]; rfl⟩

/-- QUIESCE has been entered from SERVICE, by an operation that leaves the request as it is. -/
structure Quiet (s t : State) : Prop where
  mode : mode t = 4
  prev : get Reg.SYS_MODE.PREV t = 3
  boot : t.boot = s.boot
  mem : SameMem s t

theorem quiet_spnMode (hm : mode s = 3) (run curve : Nat) : Quiet s (spnMode run curve (goMode 4 (standDown s))) := by
  have down := standDown_spares s
  have drive := spnMode_spares_sys run curve (goMode 4 (standDown s))
  exact {
    mode := (drive.mode (by decide)).trans (mode_goMode (by decide) _)
    prev := by rw [drive.fields _ (by decide), prev_goMode, down.mode (by decide), hm]
    boot := drive.boot.trans ((goMode_boot ..).trans down.boot)
    mem := fun a => congrArg (fun m => AMap.getD m a 0) (drive.mem.trans ((goMode_mem ..).trans down.mem)) }

/-! ### STANDBY (R39) -/

theorem withBit_false_keeps {v j : Nat} (i : Nat) (h : v.testBit j = false) : (withBit v i false).testBit j = false := by
  have clear := withBit_testBit_self v i false
  unfold withBit at clear ⊢
  split
  · exact h
  next hi =>
    rw [if_neg hi] at clear
    simp only [Bool.false_eq_true, if_false] at clear ⊢
    have set : v.testBit i = true := by simpa using hi
    refine Bool.eq_false_iff.2 (fun hj => ?_)
    have still := testBit_add_two_pow clear hj
    rw [Nat.sub_add_cancel (Nat.ge_two_pow_of_testBit set), h] at still
    cases still

theorem bit_putBit_false {f : Fld} {j : Nat} (i : Nat) {s : State} (h : bit f j s = false) (hj : j < f.width) : bit f j (putBit f i false s) = false := by
  rw [putBit, bit_put_self hj]
  exact withBit_false_keeps i h

/-- The domains that are on stand in AON's own register, which no other domain resets. -/
theorem domStat_resetDomain {d : Nat} (hd : d ≠ 0) (s : State) : get Reg.PMU_DOM_STAT.ON (resetDomain d s) = get Reg.PMU_DOM_STAT.ON s := by
  have aon : regDomain (Reg.PMU_DOM_STAT.ON.key / 32) = 0 := by decide
  have kept := getD_filter_key (fun k => !(regDomain (k / 32) == d) || (keyIn Reg.locked k || keyIn Reg.keptMram k || keyIn Reg.keptAon k))
    Reg.PMU_DOM_STAT.ON.key Reg.PMU_DOM_STAT.ON.rst s.regs
  rw [aon, show ((0 == d) = false) from beq_eq_false_iff_ne.2 (Ne.symm hd)] at kept
  exact kept

end Transitions

end Sys2Proof.Machine

namespace Sys2Proof.Machine

open Sys2Proof

section Standby

variable {s t : State}

/-- A domain that goes off shows it, and no other one comes on. -/
theorem domOn_domainOff {d e : Nat} (he : e < 24) (hd : d ≠ 0) (h : e = d ∨ domOn e s = false) : domOn e (domainOff d s) = false := by
  have stat : get Reg.PMU_DOM_STAT.ON (resetDomain d (wipeMem d (hiddenOff d s))) = get Reg.PMU_DOM_STAT.ON s := by
    have wiped : (wipeMem d (hiddenOff d s)).regs = (hiddenOff d s).regs := by
      unfold wipeMem
      split <;> rfl
    rw [domStat_resetDomain hd, get_regs _ (wiped.trans (hiddenOff_outsideKept d s).regs)]
  unfold domainOff
  rw [if_neg hd]
  dsimp only
  generalize resetDomain d (wipeMem d (hiddenOff d s)) = u at stat ⊢
  have ctl : get Reg.PMU_DOM_STAT.ON (putBit Reg.PMU_DOM_CTL.ON d false u) = get Reg.PMU_DOM_STAT.ON s := (get_put_ne (by decide) ..).trans stat
  generalize putBit Reg.PMU_DOM_CTL.ON d false u = v at ctl ⊢
  have pend : get Reg.PMU_DOM_STAT.ON (putBit Reg.PMU_DOM_PEND.PEND d false (putBit Reg.PMU_DOM_STAT.ON d false v)) =
      get Reg.PMU_DOM_STAT.ON (putBit Reg.PMU_DOM_STAT.ON d false v) := get_put_ne (by decide) ..
  refine (bit_congr e ((get_redirectAll ..).trans pend)).trans ?_
  rcases h with rfl | h
  · exact bit_putBit_self he false _
  · exact bit_putBit_false d ((bit_congr e ctl).trans h) he

theorem domOn_domainsOff {e : Nat} (he : e < 24) {l : List Nat} (hl : 0 ∉ l) (h : e ∈ l ∨ domOn e s = false) : domOn e (domainsOff l s) = false := by
  induction l generalizing s with
  | nil => exact h.resolve_left List.not_mem_nil
  | cons d l ih =>
    rw [List.mem_cons, not_or] at hl
    obtain ⟨hd, hl⟩ := hl
    refine ih hl ?_
    rcases h with h | h
    · rcases List.mem_cons.1 h with h | h
      · exact .inr (domOn_domainOff he (Ne.symm hd) (.inl h))
      · exact .inl h
    · exact .inr (domOn_domainOff he (Ne.symm hd) (.inr h))

/-- STANDBY before its mode stands: the last checkpoint and clocks are written, the staged records leave, and the domains go off. -/
def standbyDone (s : State) : State :=
  domainsOff domOrder.reverse (drainRing 65 (goMode 1 (put Reg.SYS_MODE.BUSY 0 (persistTime (wholeCheckpoint 3 s)))))

theorem exec_standbyDomainsOff (hm : mode s = 4) (hg : s.boot.going = some 1) (hs : spnState s = 0) (hmed : mediaStill s = true)
    (hc : s.pmu.ckpt = none) (hh : s.pmu.held = none) : exec .standbyDomainsOff s = .next
    (put Reg.SYS_MODE.CUR 1 (setBoot { (standbyDone s).boot with going := none } (standbyDone s))) := by
  unfold standbyDone
  rw [show exec .standbyDomainsOff s = execStandbyDomainsOff s from rfl, execStandbyDomainsOff]
  exact occurs_of ⟨hm, hg, hs, hmed, hc, hh⟩

theorem standbyDone_off {d : Nat} (hd : d < 24) (h0 : d ≠ 0) (s : State) : domOn d (standbyDone s) = false := by
  have listed : ∀ d < 24, d ≠ 0 → d ∈ domOrder.reverse := by decide
  exact domOn_domainsOff hd (by decide) (.inl (listed d hd h0))

/-! ### PFAIL_N asserts (R42, R43, R454) -/

/-- PFAIL_N low, as the pin shows it. -/
def pfailLow (s : State) : State := { s with pins := { s.pins with pfailN := false } }

/-- The variant of RESCUE: before RESTORED the event ring alone is saved (R44). -/
def rescueVariant (s : State) : Nat := if mode s = 2 ∧ get Reg.PMU_CKPT_CTL.RESTORED s = 0 then 4 else 1

theorem exec_pfailAssert_rescue {n : Nat} (hn : 500 ≤ n) (hr : s.pins.rails = true) (hm : mode s = 2 ∨ mode s = 3 ∨ mode s = 4) :
    exec (.pfailAssert n) s = .next (toRescue (rescueVariant s) (pfailLow s)) := by
  rw [show exec (.pfailAssert n) s = execPfailAssert n s from rfl, execPfailAssert, rescueVariant]
  dsimp only
  rw [if_neg (show ¬ mode s = 1 by omega)]
  by_cases early : mode s = 2 ∧ get Reg.PMU_CKPT_CTL.RESTORED s = 0
  · rw [if_pos early, if_pos early]
    exact occurs_of ⟨hn, hr⟩
  · rw [if_neg early, if_neg early, if_pos hm]
    exact occurs_of ⟨hn, hr⟩

theorem exec_pfailAssert_standby {n : Nat} (hn : 500 ≤ n) (hr : s.pins.rails = true) (hm : mode s = 1) :
    exec (.pfailAssert n) s = .next (put Reg.PMU_RESCUE_STAT.RESULT 2 (pfailLow s)) := by
  rw [show exec (.pfailAssert n) s = execPfailAssert n s from rfl, execPfailAssert]
  dsimp only
  rw [if_pos hm]
  exact occurs_of ⟨hn, hr⟩

theorem exec_pfailAssert_other {n : Nat} (hn : 500 ≤ n) (hr : s.pins.rails = true) (hm : mode s = 0 ∨ 5 ≤ mode s) :
    exec (.pfailAssert n) s = .next (pfailLow s) := by
  rw [show exec (.pfailAssert n) s = execPfailAssert n s from rfl, execPfailAssert]
  dsimp only
  rw [if_neg (show ¬ mode s = 1 by omega), if_neg (show ¬ (mode s = 2 ∧ get Reg.PMU_CKPT_CTL.RESTORED s = 0) by omega),
    if_neg (show ¬ (mode s = 2 ∨ mode s = 3 ∨ mode s = 4) by omega)]
  exact occurs_of ⟨hn, hr⟩

theorem toRescue_boot (v : Nat) (s : State) : (toRescue v s).boot.rescue = v := rfl

theorem quiesceEntry_stays (hm : mode s = 3) (hg : s.boot.going = some 4) : Gives .quiesceEntry s (fun t =>
    mode t = 4 ∧ get Reg.SYS_MODE.PREV t = 3 ∧ get Reg.SYS_MODE.BUSY t = 0 ∧ t.boot.going = none ∧ get Reg.SPN_CTL.CURVE t = 1 ∧ SameMem s t) := by
  have quiet := quiet_spnMode hm (get Reg.SPN_CTL.RUN (goMode 4 (standDown s))) 1
  have curve := curve_spnMode (get Reg.SPN_CTL.RUN (goMode 4 (standDown s))) 1 (goMode 4 (standDown s))
  refine .of_next (exec_quiesceEntry_stays hm hg) ?_
  dsimp only
  generalize spnMode (get Reg.SPN_CTL.RUN (goMode 4 (standDown s))) 1 (goMode 4 (standDown s)) = u at quiet curve ⊢
  exact ⟨(get_put_ne (by decide) ..).trans quiet.mode, (get_put_ne (by decide) ..).trans quiet.prev, get_put_self .., rfl,
    (get_put_ne (by decide) ..).trans curve, quiet.mem⟩

end Standby

/-! ### The settled statement -/

/-- Settles O23: a request is held, refused, or taken; an entry writes the mode with its event, and the units that it stops or starts spare SYS. -/
theorem modeTransitionsAreTaken : Obligations.ModeTransitionsAreTaken := by
  unfold Obligations.ModeTransitionsAreTaken
  refine ⟨?held, ?refused, ?rescue, ?begins, ?stops, ?resumes, ?heldBegins, ?heldTaken, ?service, ?quiesce, ?quiesceStops, ?standby, ?pfail,
    ?pfailStandby, ?pfailOther⟩
  case held =>
    intro k s hm hb
    have wrote : Wrote [(Reg.SYS_MODE_REQ.TARGET, k), (Reg.SYS_MODE_REQ.GO, 1), (Reg.SYS_MODE_REQ.PEND, 1)] s
        (puts [(Reg.SYS_MODE_REQ.TARGET, k), (Reg.SYS_MODE_REQ.GO, 1), (Reg.SYS_MODE_REQ.PEND, 1)]
          (setBoot { s.boot with heldReq := some (k % 8) } s)) := puts_congr _ rfl
    have keys : ([Reg.SYS_MODE_REQ.TARGET, Reg.SYS_MODE_REQ.GO, Reg.SYS_MODE_REQ.PEND].map Fld.key).Nodup := by decide
    exact .of_next (exec_modeRequest_held hm (modeBusy_iff.2 hb)) ⟨wrote.get_mem keys (v := 1) (by simp), rfl,
      wrote.get_ne (show Reg.SYS_MODE.CUR.key ∉ [Reg.SYS_MODE_REQ.TARGET, Reg.SYS_MODE_REQ.GO, Reg.SYS_MODE_REQ.PEND].map Fld.key by decide),
      wrote.onlyRegs, rfl⟩
  case refused =>
    intro k s hm hb ha hk
    have shown : allowed (mode (put Reg.SYS_MODE_REQ.TARGET k s)) (k % 8) = false := by rwa [mode_target]
    have wrote : Wrote [(Reg.SYS_MODE_REQ.TARGET, k), (Reg.SYS_MODE_REQ.GO, 0), (Reg.SYS_MODE_REQ.REFUSED, 1)] s
        (takeMode (k % 8) (put Reg.SYS_MODE_REQ.TARGET k s)) := by rw [takeMode_refused shown, Wrote]; rfl
    have keys : ([Reg.SYS_MODE_REQ.TARGET, Reg.SYS_MODE_REQ.GO, Reg.SYS_MODE_REQ.REFUSED].map Fld.key).Nodup := by decide
    refine .of_next (exec_modeRequest_taken hm (modeBusy_eq_false (by omega) (by omega)))
      ⟨wrote.get_mem keys (v := 1) (by simp), wrote.get_mem keys (v := 0) (by simp),
        wrote.get_ne (show Reg.SYS_MODE.CUR.key ∉ [Reg.SYS_MODE_REQ.TARGET, Reg.SYS_MODE_REQ.GO, Reg.SYS_MODE_REQ.REFUSED].map Fld.key by decide),
        wrote.onlyRegs, ?_⟩
    rw [takeMode_refused shown]
    rfl
  case rescue =>
    intro k s hm
    exact .of_next (exec_modeRequest_rescue hm) ⟨rfl, ((Wrote.nil s).put _ k).onlyRegs, put_onlyRegisters ..⟩
  case begins =>
    intro k s hm hk hb ha
    have taken : takeMode (k % 8) (put Reg.SYS_MODE_REQ.TARGET k s) = underWay (k % 8) (put Reg.SYS_MODE_REQ.TARGET k s) := by
      rw [takeMode_begins (by rw [mode_target, hm]; rcases hk with e | e <;> rw [e] <;> rfl) (by omega),
        if_neg (by rw [mode_target, hm]; omega)]
    have wrote : Wrote [(Reg.SYS_MODE_REQ.TARGET, k), (Reg.SYS_MODE_REQ.GO, 0), (Reg.SYS_MODE.BUSY, 1)] s
        (underWay (k % 8) (put Reg.SYS_MODE_REQ.TARGET k s)) := by rw [Wrote, underWay_wrote]; rfl
    have begun := underWay_begun (k % 8) (put Reg.SYS_MODE_REQ.TARGET k s)
    refine .of_next (exec_modeRequest_taken (by omega) (modeBusy_eq_false (by omega) (by omega))) ?_
    rw [taken]
    exact ⟨begun.busy, rfl, begun.mode.trans (mode_target k s), wrote.onlyRegs, rfl⟩
  case stops =>
    intro k s hm hk hb ha
    have may : allowed (mode (put Reg.SYS_MODE_REQ.TARGET k s)) (k % 8) = true := by rw [mode_target, hm, hk]; rfl
    have begun := takeMode_begun may (by omega)
    refine .of_next (exec_modeRequest_taken (by omega) (modeBusy_eq_false (by omega) (by omega))) ⟨begun.busy, ?_, ?_, ?_, begun.mem⟩
    · rw [begun.boot, hk]
    · rw [begun.mode, mode_target, hm]
    · rw [takeMode_begins may (by omega), if_pos ⟨hk, by rw [mode_target, hm]⟩, run_spnMode]
  case resumes =>
    intro k s hm hk hb ha
    have resumed := takeMode_resumed (s := put Reg.SYS_MODE_REQ.TARGET k s) (by rw [mode_target, hm]; rfl)
    refine .of_next (exec_modeRequest_taken (by omega) (modeBusy_eq_false (by omega) (by omega))) ?_
    rw [hk]
    refine ⟨resumed.mode, ?_, resumed.run, resumed.mem⟩
    rw [resumed.prev, mode_target, hm]
  case heldBegins =>
    intro k s hh hm hk hb ha
    have taken : takeMode k (heldTaken s) = underWay k (heldTaken s) := by
      rw [takeMode_begins (by rw [mode_heldTaken, hm]; rcases hk with rfl | rfl <;> rfl) (by omega),
        if_neg (by rw [mode_heldTaken, hm]; omega)]
    have wrote : Wrote [(Reg.SYS_MODE_REQ.PEND, 0), (Reg.SYS_MODE_REQ.GO, 0), (Reg.SYS_MODE.BUSY, 1)] s (underWay k (heldTaken s)) := by
      rw [Wrote, underWay_wrote]
      exact puts_congr _ rfl
    have begun := underWay_begun k (heldTaken s)
    refine .of_next (exec_heldModeRequestTaken hh (modeBusy_eq_false (by omega) (by omega))) ?_
    rw [taken]
    exact ⟨begun.pend.trans (pend_heldTaken s), rfl, rfl, begun.busy, wrote.onlyRegs, rfl⟩
  case heldTaken =>
    intro k s hh hb ha
    refine .of_next (exec_heldModeRequestTaken hh (modeBusy_eq_false hb ha)) ?_
    by_cases may : allowed (mode s) k = true
    · have may' : allowed (mode (heldTaken s)) k = true := by rwa [mode_heldTaken]
      by_cases h3 : k = 3
      · subst h3
        have resumed := takeMode_resumed may'
        exact ⟨resumed.pend.trans (pend_heldTaken s), resumed.go, by rw [resumed.boot]; rfl, fun no => by simp [may] at no, fun h => absurd rfl h.2,
          fun _ => resumed.mode, resumed.mem⟩
      · have begun := takeMode_begun may' h3
        exact ⟨begun.pend.trans (pend_heldTaken s), begun.go, by rw [begun.boot]; rfl, fun no => by simp [may] at no,
          fun _ => ⟨by rw [begun.boot], begun.busy, begun.mode.trans (mode_heldTaken s)⟩, fun h => absurd h.2 h3, begun.mem⟩
    · have no : allowed (mode (heldTaken s)) k = false := by rw [mode_heldTaken]; simpa using may
      have wrote : Wrote [(Reg.SYS_MODE_REQ.GO, 0), (Reg.SYS_MODE_REQ.REFUSED, 1)] (heldTaken s) (takeMode k (heldTaken s)) := by
        rw [takeMode_refused no, Wrote]
      have keys : ([Reg.SYS_MODE_REQ.GO, Reg.SYS_MODE_REQ.REFUSED].map Fld.key).Nodup := by decide
      refine ⟨(wrote.get_ne (by decide)).trans (pend_heldTaken s), wrote.get_mem keys (v := 0) (by simp), ?_,
        fun _ => ⟨wrote.get_mem keys (v := 1) (by simp), (wrote.get_ne (by decide)).trans (mode_heldTaken s)⟩,
        fun h => absurd h.1 may, fun h => absurd h.1 may, ?_⟩
      · rw [takeMode_refused no]
        rfl
      · rw [takeMode_refused no]
        exact fun _ => rfl
  case service =>
    intro s hm hr
    obtain ⟨t, ht, h⟩ := serviceEntry_serves hm hr
    exact .of_next ht ⟨h.mode, h.prev, h.act, h.media, h.trial, h.runs, h.mem⟩
  case quiesce =>
    intro s hm hg
    obtain ⟨t, ht, h⟩ := quiesceEntry_stays hm hg
    exact .of_next ht h
  case quiesceStops =>
    intro k s hm hg hk
    have quiet := quiet_spnMode hm 0 0
    exact .of_next (exec_quiesceEntry_stops hm hg hk) ⟨quiet.mode, quiet.prev, (congrArg BootSt.going quiet.boot).trans hg, run_spnMode .., quiet.mem⟩
  case standby =>
    intro s hm hg hs hmed hc hh
    have off : ∀ d, d < 24 → d ≠ 0 → domOn d (standbyDone s) = false := fun d hd h0 => standbyDone_off hd h0 s
    refine .of_next (exec_standbyDomainsOff hm hg hs hmed hc hh) ?_
    generalize standbyDone s = u at off
    refine ⟨get_put_self .., rfl, List.all_eq_true.2 fun d hd => ?_⟩
    by_cases h0 : d = 0
    · simp [h0]
    · have gone : bit Reg.PMU_DOM_STAT.ON d u = false := off d (List.mem_range.1 hd) h0
      rw [domOn, bit_congr d (get_put_ne (by decide) ..), bit_congr d (get_setBoot ..), gone]
      simp
  case pfail =>
    intro n s hn hr hm
    have rescued := toRescue_rescued (rescueVariant s) (pfailLow s)
    exact .of_next (exec_pfailAssert_rescue hn hr hm) ⟨rescued.mode, rescued.prev, congrArg Pins.pfailN rescued.pins, toRescue_boot .., rescued.busy,
      rescued.act, rescued.going, rescued.held, rescued.mem⟩
  case pfailStandby =>
    intro n s hn hr hm
    exact .of_next (exec_pfailAssert_standby hn hr hm) ⟨get_put_self .., rfl, Wrote.onlyRegs (l := [(Reg.PMU_RESCUE_STAT.RESULT, 2)]) rfl, rfl⟩
  case pfailOther =>
    intro n s hn hr hm
    exact .of_next (exec_pfailAssert_other hn hr hm) ⟨rfl, fun _ _ => rfl, rfl⟩

end Sys2Proof.Machine

namespace Sys2Proof.Machine

open Sys2Proof

section Keys

variable {s t : State}

/-! ### Key revocation (R57) -/

/-- The mask that a revocation names. -/
theorem revokeMask (v : Nat) : bits v 0 4 = v % 16 := by simp [bits]

/-- Neither named nor being revoked, a key that has been programmed remains. -/
def keyRemains (m : Nat) (s : State) : Bool :=
  (List.range 4).any (fun k => (s.boot.fuses.getD k {}).hash.isSome && !(s.boot.fuses.getD k {}).revoked && !m.testBit k && !s.boot.revoking.testBit k)

/-- The key of the running image is named. -/
def namesRunning (m : Nat) (s : State) : Bool :=
  match s.boot.image with
  | none => false
  | some i => m.testBit i.keySlot

theorem exec_keyRevoke (v : Nat) (s : State) : exec (.keyRevoke v) s = .next
    (if v / 2 ^ 24 % 256 ≠ 0xC3 then s
     else if namesRunning (v % 16) s = true ∨ keyRemains (v % 16) s = false then post 0x7A1 0 [v % 16] s
     else put Reg.BOOT_KEY_STAT.BUSY 1 (setBoot { s.boot with revoking := s.boot.revoking ||| v % 16 } s)) := by
  rw [← revokeMask]
  rfl

theorem exec_keyRevoke_refused {v : Nat} (hv : v / 2 ^ 24 % 256 = 0xC3) (h : namesRunning (v % 16) s = true ∨ keyRemains (v % 16) s = false) :
    exec (.keyRevoke v) s = .next (post 0x7A1 0 [v % 16] s) := by
  rw [exec_keyRevoke, if_neg (not_not.2 hv), if_pos h]

theorem namesRunning_eq_false {m : Nat} (h : s.boot.image.all (fun i => !m.testBit i.keySlot) = true) : namesRunning m s = false := by
  unfold namesRunning
  split
  · rfl
  next i hi => simpa [hi] using h

theorem exec_keyRevoke_starts {v : Nat} (hv : v / 2 ^ 24 % 256 = 0xC3) (hi : namesRunning (v % 16) s = false) (hl : keyRemains (v % 16) s = true) :
    exec (.keyRevoke v) s = .next (put Reg.BOOT_KEY_STAT.BUSY 1 (setBoot { s.boot with revoking := s.boot.revoking ||| v % 16 } s)) := by
  rw [exec_keyRevoke, if_neg (not_not.2 hv), if_neg (by simp [hi, hl])]

/-- The fields that follow pins, straps and fuses without the domains. -/
def shownFields : List Fld :=
  [Reg.SMB_CFG.ADDR, Reg.BOOT_KEY_STAT.PROG, Reg.BOOT_KEY_STAT.REVOKED, Reg.HPC_LINK.PERST, Reg.SYS_CLK_STAT.REFCLK_OK,
   Reg.SYS_CLK_STAT.CALREF_OK, Reg.FAB_UID_LO.UID, Reg.FAB_UID_HI.UID, Reg.SEAL_STAT.PROV]

theorem showPins_onlyRegs (s : State) : OnlyRegs shownFields s (showPins s) := by
  intro f hf
  simp only [shownFields, List.map_cons, List.map_nil, List.mem_cons, List.not_mem_nil, or_false, not_or] at hf
  exact get_puts_ne (by simp [hf]) s

/-- The fuses as a revocation leaves them. -/
def blownFuses (b : BootSt) : List KeyFuse :=
  (List.range b.fuses.length).map (fun k => { b.fuses.getD k {} with revoked := (b.fuses.getD k {}).revoked || b.revoking.testBit k })

theorem blownFuses_getD {b : BootSt} {k : Nat} (h : k < b.fuses.length) :
    (blownFuses b).getD k {} = { b.fuses.getD k {} with revoked := (b.fuses.getD k {}).revoked || b.revoking.testBit k } := by
  have length : (blownFuses b).length = b.fuses.length := by simp [blownFuses]
  rw [List.getD_eq_getElem _ _ (length ▸ h)]
  simp [blownFuses]

/-- The fuses are blown, and their registers show them. -/
def fusesBlown (s : State) : State := put Reg.BOOT_KEY_STAT.BUSY 0 (showPins (setBoot { s.boot with fuses := blownFuses s.boot, revoking := 0 } s))

theorem exec_keyRevokeDone (h : get Reg.BOOT_KEY_STAT.BUSY s = 1) : exec .keyRevokeDone s = .next (fusesBlown s) := occurs_of h

theorem fusesBlown_onlyRegisters (s : State) : OnlyRegisters (setBoot { s.boot with fuses := blownFuses s.boot, revoking := 0 } s) (fusesBlown s) :=
  (puts_onlyRegisters ..).trans (put_onlyRegisters ..)

theorem fusesBlown_onlyRegs (s : State) : OnlyRegs (Reg.BOOT_KEY_STAT.BUSY :: shownFields) s (fusesBlown s) := by
  have shown : OnlyRegs shownFields s (showPins (setBoot { s.boot with fuses := blownFuses s.boot, revoking := 0 } s)) :=
    fun f hf => (showPins_onlyRegs _ f hf).trans (get_setBoot ..)
  exact (shown.mono (List.subset_cons_self ..)).trans (((Wrote.nil _).put _ 0).onlyRegs.mono (by simp))

/-! ### Download and commit (R353, R61) -/

/-- The bytes of a part stand at its offset. -/
theorem downloaded_part (old : List Nat) (o : Nat) (l : List Nat) : ((downloaded old o l).drop o).take l.length = l := by
  have head : (old.take o ++ List.replicate (o - old.length) 255).length = o := by simp; omega
  rw [downloaded, List.append_assoc, List.drop_left' head, List.take_left']
  rfl

theorem exec_firmwareDownload_taken {p : Port} {o : Nat} {l : List Nat} (hp : adminServed p s = true)
    (hs : s.boot.session = none ∨ s.boot.session.map (·.1) = some p) : exec (.firmwareDownload p o l) s = .next
    (send (adminMsg p .success) (setBoot { s.boot with session := some (p, downloaded ((s.boot.session.map (·.2)).getD []) o l) } s)) := by
  rw [show exec (.firmwareDownload p o l) s = execFirmwareDownload p o l s from rfl, execFirmwareDownload]
  cases hq : s.boot.session with
  | none => exact occurs_of hp
  | some q =>
    have same : q.1 = p := by simpa [hq] using hs
    simp only [same, beq_self_eq_true, if_true]
    exact occurs_of hp

theorem exec_firmwareDownload_refused {p q : Port} {o : Nat} {l m : List Nat} (hp : adminServed p s = true)
    (hs : s.boot.session = some (q, m)) (hq : q ≠ p) : exec (.firmwareDownload p o l) s = .next (send (adminMsg p .sequenceError) s) := by
  rw [show exec (.firmwareDownload p o l) s = execFirmwareDownload p o l s from rfl, execFirmwareDownload, hs]
  simp only [beq_eq_false_iff_ne.2 hq, Bool.false_eq_true, if_false]
  exact occurs_of hp

/-- The session has ended. -/
def sessionEnded (s : State) : State := setBoot { s.boot with session := none } s

/-- The image stands in the slot that does not run, staged. -/
def imageStaged (l : List Nat) (s : State) : State :=
  setBoot (if otherSlot s = 0 then { s.boot with session := none, slotA := l, staged := some 0 }
    else { s.boot with session := none, slotB := l, staged := some 1 }) s

theorem exec_firmwareCommit_bad {p : Port} {b : Bool} {l : List Nat} (hp : adminServed p s = true) (hs : s.boot.session = some (p, l))
    (hi : (imageOf s.boot.fuses l).isSome = false) : exec (.firmwareCommit p b) s = .next (send (adminMsg p .invalidField) (sessionEnded s)) := by
  rw [show exec (.firmwareCommit p b) s = execFirmwareCommit p b s from rfl, execFirmwareCommit, hs]
  dsimp only
  rw [if_neg (not_not.2 rfl), if_pos (by simpa using hi)]
  exact occurs_of hp

/-- The record of a commit names the slot as a trial, unless the activation is to do so. -/
def recordCommitted (b : Bool) (l : List Nat) (s : State) : State :=
  if b = true ∧ s.boot.recovery = false then imageStaged l s else putRec ⟨otherSlot s, 1, 0, 0⟩ (imageStaged l s)

theorem exec_firmwareCommit_good {p : Port} {b : Bool} {l : List Nat} (hp : adminServed p s = true) (hs : s.boot.session = some (p, l))
    (hi : (imageOf s.boot.fuses l).isSome = true) : exec (.firmwareCommit p b) s = .next
    (if s.boot.recovery = true then bootRom preset (send (adminMsg p .success) (recordCommitted b l s))
     else send (adminMsg p .success) (recordCommitted b l s)) := by
  rw [show exec (.firmwareCommit p b) s = execFirmwareCommit p b s from rfl, execFirmwareCommit, hs]
  dsimp only
  have good : ¬ (imageOf s.boot.fuses l).isNone = true := by simpa [Option.isNone_iff_eq_none, Option.isSome_iff_ne_none] using hi
  rw [if_neg (not_not.2 rfl), if_neg good]
  refine (occurs_of hp).trans ?_
  unfold recordCommitted imageStaged
  simp only [Bool.not_eq_true']
  rfl

theorem exec_firmwareCommit_none {p : Port} {b : Bool} (hp : adminServed p s = true) (hs : s.boot.session.map (·.1) ≠ some p) :
    exec (.firmwareCommit p b) s = .next (send (adminMsg p .sequenceError) s) := by
  rw [show exec (.firmwareCommit p b) s = execFirmwareCommit p b s from rfl, execFirmwareCommit]
  cases hq : s.boot.session with
  | none => exact occurs_of hp
  | some q =>
    obtain ⟨q, l⟩ := q
    have other : q ≠ p := by simpa [hq] using hs
    dsimp only
    rw [if_pos other]
    exact occurs_of hp

/-- The slot that does not run is one of the two. -/
theorem otherSlot_lt (s : State) : otherSlot s < 2 := by
  unfold otherSlot
  split <;> omega

theorem imageStaged_staged (l : List Nat) (s : State) : (imageStaged l s).boot.staged = some (otherSlot s) := by
  have slot := otherSlot_lt s
  unfold imageStaged
  split
  next h => rw [h]; rfl
  next h =>
    rw [show otherSlot s = 1 by omega]
    rfl

theorem imageStaged_bytes (l : List Nat) (s : State) :
    (if otherSlot s = 0 then (imageStaged l s).boot.slotA else (imageStaged l s).boot.slotB) = l := by
  unfold imageStaged
  split <;> rfl

theorem imageStaged_session (l : List Nat) (s : State) : (imageStaged l s).boot.session = none := by
  unfold imageStaged
  split <;> rfl

/-- What the boot record's write leaves. -/
theorem putRec_wrote (r : BootRec) (s : State) : Wrote [(Reg.BOOT_SLOT_CTL.PREF, r.pref), (Reg.BOOT_SLOT_CTL.TRIAL, r.trial),
    (Reg.BOOT_SLOT_CTL.ARMED, r.armed), (Reg.BOOT_SLOT_CTL.TRIES, r.tries)] s (putRec r s) := puts_congr _ rfl

theorem putRec_frame (r : BootRec) (s : State) : putRec r s = { s with regs := (putRec r s).regs, boot := { s.boot with recordGood := true } } := rfl

theorem putRec_pref (r : BootRec) (s : State) : get Reg.BOOT_SLOT_CTL.PREF (putRec r s) = r.pref % 2 :=
  have keys : ([Reg.BOOT_SLOT_CTL.PREF, Reg.BOOT_SLOT_CTL.TRIAL, Reg.BOOT_SLOT_CTL.ARMED, Reg.BOOT_SLOT_CTL.TRIES].map Fld.key).Nodup := by decide
  (putRec_wrote r s).get_mem keys (v := r.pref) (by simp)

theorem putRec_trial (r : BootRec) (s : State) : get Reg.BOOT_SLOT_CTL.TRIAL (putRec r s) = r.trial % 2 :=
  have keys : ([Reg.BOOT_SLOT_CTL.PREF, Reg.BOOT_SLOT_CTL.TRIAL, Reg.BOOT_SLOT_CTL.ARMED, Reg.BOOT_SLOT_CTL.TRIES].map Fld.key).Nodup := by decide
  (putRec_wrote r s).get_mem keys (v := r.trial) (by simp)

/-- A commit of a good image. -/
structure Committed (b : Bool) (l : List Nat) (s t : State) : Prop where
  session : t.boot.session = none
  staged : t.boot.staged = some (otherSlot s)
  bytes : (if otherSlot s = 0 then t.boot.slotA else t.boot.slotB) = l
  record : b = false → get Reg.BOOT_SLOT_CTL.PREF t = otherSlot s % 2 ∧ get Reg.BOOT_SLOT_CTL.TRIAL t = 1
  regs : OnlyRegs [Reg.BOOT_SLOT_CTL.PREF, Reg.BOOT_SLOT_CTL.TRIAL, Reg.BOOT_SLOT_CTL.ARMED, Reg.BOOT_SLOT_CTL.TRIES] s t
  frame : t = { s with regs := t.regs, boot := t.boot }

theorem recordCommitted_committed {b : Bool} (l : List Nat) (hr : s.boot.recovery = false) : Committed b l s (recordCommitted b l s) := by
  unfold recordCommitted
  cases b with
  | true =>
    rw [if_pos ⟨rfl, hr⟩]
    exact ⟨imageStaged_session .., imageStaged_staged .., imageStaged_bytes .., nofun, fun _ _ => rfl, rfl⟩
  | false =>
    rw [if_neg (by simp)]
    exact ⟨imageStaged_session .., imageStaged_staged .., imageStaged_bytes .., fun _ => ⟨putRec_pref .., putRec_trial ..⟩,
      (putRec_wrote ..).onlyRegs, rfl⟩

end Keys

end Sys2Proof.Machine

namespace Sys2Proof.Machine

open Sys2Proof

section Activation

variable {s t : State}

/-! ### Activation (R61, R62) -/

/-- Fetching stops, and the drain begins. -/
def activationBegun (p : Port) (s : State) : State :=
  puts [(Reg.SYS_MODE.ACT, 1), (Reg.SYS_ACT_STAT.RESULT, 1)] (setBoot { s.boot with actPhase := 1, actPort := some p } s)

theorem exec_firmwareActivate {p : Port} (hp : adminServed p s = true) (hr : s.boot.recovery = false) : exec (.firmwareActivate p) s = .next
    (if get Reg.SYS_MODE.ACT s = 1 then send (adminMsg p .busy) s
     else if mode s ≠ 3 ∨ get Reg.SYS_MODE.BUSY s = 1 then send (adminMsg p .busy) (put Reg.SYS_ACT_STAT.RESULT 5 s)
     else if stagedOk s = false then send (adminMsg p .invalidField) (put Reg.SYS_ACT_STAT.RESULT 4 s)
     else activationBegun p s) := by
  rw [show exec (.firmwareActivate p) s = execFirmwareActivate p s from rfl, execFirmwareActivate]
  simp only [Bool.not_eq_true']
  exact occurs_of ⟨hp, hr⟩

theorem activationBegun_wrote (p : Port) (s : State) : Wrote [(Reg.SYS_MODE.ACT, 1), (Reg.SYS_ACT_STAT.RESULT, 1)] s (activationBegun p s) :=
  puts_congr _ rfl

/-- The drain has ended, its time shown, and the units stand down. -/
def drainEnded (n : Nat) (s : State) : State :=
  let t := standDown (put Reg.SYS_ACT_STAT.DRAIN (min n 65535) s)
  setBoot { t.boot with actPhase := 2 } t

theorem exec_activationDrainEnd {n : Nat} (hp : s.boot.actPhase = 1) (hc : s.cmd.ctxs = []) (hn : n ≤ drainMs s) :
    exec (.activationDrainEnd n) s = .next (drainEnded n s) := by
  rw [show exec (.activationDrainEnd n) s = execActivationDrainEnd n s from rfl, execActivationDrainEnd, drainEnded]
  exact occurs_of ⟨hp, hc, hn⟩

theorem drainEnded_shown (n : Nat) (s : State) :
    get Reg.SYS_ACT_STAT.DRAIN (drainEnded n s) = min n 65535 ∧ (drainEnded n s).boot.actPhase = 2 ∧ SameMem s (drainEnded n s) := by
  have down := standDown_spares (put Reg.SYS_ACT_STAT.DRAIN (min n 65535) s)
  have width : min n 65535 % 2 ^ Reg.SYS_ACT_STAT.DRAIN.width = min n 65535 := Nat.mod_eq_of_lt (by simp [Reg.SYS_ACT_STAT.DRAIN])
  have shown := (down.fields Reg.SYS_ACT_STAT.DRAIN (by decide)).trans ((get_put_self ..).trans width)
  unfold drainEnded
  generalize standDown (put Reg.SYS_ACT_STAT.DRAIN (min n 65535) s) = u at down shown ⊢
  exact ⟨shown, rfl, down.sameMem⟩

/-- The drain has failed: the path hears of it. -/
def drainFailed (s : State) : State :=
  let t := puts [(Reg.SYS_MODE.ACT, 0), (Reg.SYS_ACT_STAT.RESULT, 3)] s
  match s.boot.actPort with
  | none => t
  | some p => send (adminMsg p .busy) t

theorem exec_activationDrainTimeout {n : Nat} (hp : s.boot.actPhase = 1) (hc : s.cmd.ctxs ≠ []) (hn : drainMs s < n) :
    exec (.activationDrainTimeout n) s = .next
      (resumeFetch (setBoot { (drainFailed s).boot with actPhase := 0, actPort := none } (drainFailed s))) := by
  unfold drainFailed
  rw [show exec (.activationDrainTimeout n) s = execActivationDrainTimeout n s from rfl, execActivationDrainTimeout]
  exact occurs_of ⟨hp, hc, hn⟩

theorem drainFailed_wrote (s : State) : Wrote [(Reg.SYS_MODE.ACT, 0), (Reg.SYS_ACT_STAT.RESULT, 3)] s (drainFailed s) := by
  unfold drainFailed
  split <;> rfl

theorem drainFailed_mem (s : State) : (drainFailed s).mem = s.mem := by
  unfold drainFailed
  split <;> rfl

theorem activationDrainTimeout_fails {n : Nat} (hp : s.boot.actPhase = 1) (hc : s.cmd.ctxs ≠ []) (hn : drainMs s < n) :
    Gives (.activationDrainTimeout n) s (fun t =>
      get Reg.SYS_MODE.ACT t = 0 ∧ get Reg.SYS_ACT_STAT.RESULT t = 3 ∧ t.boot.actPhase = 0 ∧ SameMem s t) := by
  have wrote := drainFailed_wrote s
  have mem := drainFailed_mem s
  have keys : ([Reg.SYS_MODE.ACT, Reg.SYS_ACT_STAT.RESULT].map Fld.key).Nodup := by decide
  refine .of_next (exec_activationDrainTimeout hp hc hn) ?_
  generalize drainFailed s = u at wrote mem ⊢
  have fetch := resumeFetch_spares (setBoot { u.boot with actPhase := 0, actPort := none } u)
  generalize resumeFetch _ = w at fetch ⊢
  exact ⟨(fetch.fields _ (by decide)).trans (wrote.get_mem keys (v := 0) (by simp)),
    (fetch.fields _ (by decide)).trans (wrote.get_mem keys (v := 3) (by simp)),
    congrArg BootSt.actPhase fetch.boot, fun a => congrArg (fun m => AMap.getD m a 0) (fetch.mem.trans mem)⟩

/-! ### The activation reset (R59, R62) -/

theorem puts_boot (l : List (Fld × Nat)) (s : State) : (puts l s).boot = s.boot := (puts_onlyRegisters l s).boot
theorem post_boot (c u : Nat) (l : List Nat) (s : State) : (post c u l s).boot = s.boot := rfl
theorem setPmu_boot (r : PmuSt) (s : State) : (setPmu r s).boot = s.boot := rfl

theorem ckptStart_boot (k n : Nat) (s : State) : (ckptStart k n s).boot = s.boot := by
  simp only [ckptStart, memPut, put_boot, memWrite_boot, setPmu_boot]

theorem copySection_boot (c : Ckpt) (s : State) : (copySection c s).boot = s.boot := by
  unfold copySection
  dsimp only
  split
  · split <;> simp only [post_boot, put_boot, setPmu_boot, memWrite_boot]
  · rw [setPmu_boot]

theorem copyRest_boot (n : Nat) (s : State) : (copyRest n s).boot = s.boot := by
  induction n generalizing s with
  | zero => rfl
  | succ n ih =>
    unfold copyRest
    split
    · split
      · exact (ih _).trans (copySection_boot ..)
      · rfl
    · rfl

theorem OnlyEvents.boot (h : OnlyEvents s t) : t.boot = s.boot := by rw [h]

theorem ckptCommit_boot (c : Ckpt) (s : State) : (ckptCommit c s).boot = s.boot := by
  simp only [ckptCommit, puts_boot, memWrite_boot]

/-- A checkpoint is not about the boot's record. -/
theorem wholeCheckpoint_boot (k : Nat) (s : State) : (wholeCheckpoint k s).boot = s.boot := by
  have copied : (copyRest 8 (ckptStart k (nextSlot s) s)).boot = s.boot := (copyRest_boot ..).trans (ckptStart_boot ..)
  unfold wholeCheckpoint
  dsimp only
  generalize copyRest 8 (ckptStart k (nextSlot s) s) = u at copied ⊢
  split
  · exact copied
  · exact (raisePost_onlyEvents ..).boot.trans ((ckptCommit_boot ..).trans copied)

/-- What an activation reset keeps of a field that it does not write (R59). -/
def activationKeeps (k : Nat) : Bool := !activationBlocks.contains (regBlock (k / 32)) || keyIn Reg.keptMram k || keyIn Reg.keptAon k

/-- What it writes. -/
def activationWrites : List (Fld × Nat) :=
  [(Reg.SYS_MODE.CUR, 2), (Reg.SYS_MODE.PREV, 0), (Reg.SYS_MODE.STAGE, 0), (Reg.PMU_CKPT_CTL.RESTORED, 0),
   (Reg.DRC_STAT.SELF_REF, 1), (Reg.DRC_STAT.TRAINED, 0), (Reg.SYS_RESET_CAUSE.ACTIVATE, 1), (Reg.SYS_PATH_CFG.LOCK, 0),
   (Reg.SYS_PATH_CFG.BAR2_EN, 1), (Reg.SYS_PATH_CFG.FAB_EN, 1), (Reg.SYS_PATH_CFG.JTAG_EN, 1)]

theorem activationWrites_nodup : ((activationWrites.map Prod.fst).map Fld.key).Nodup := by decide

/-- The units that are stopped, the spindle's stage among them. -/
def unitsStopped (s : State) : State := spindleFreed (zmgIdle ([3, 4, 5, 6, 7, 8, 9, 17, 21, 22].foldl (fun t d => hiddenOff d t) s))

theorem unitsStopped_wrote (s : State) : Wrote [(Reg.SPN_STAT.STATE, 0), (Reg.SPN_STAT.LOCK, 0), (Reg.SPN_STAT.RESTART_PEND, 0)] s (unitsStopped s) :=
  puts_congr _ (hiddenOffs_outsideKept _ s).regs

theorem unitsStopped_boot (s : State) : (unitsStopped s).boot = s.boot :=
  (puts_onlyRegisters _ _).boot.trans (hiddenOffs_outsideKept _ s).boot

/-- The device after an activation reset, with the rest of its state from an operation that is about neither registers nor the boot's record. -/
structure ActivationReset (s t : State) : Prop where
  wrote : ∀ f v, (f, v) ∈ activationWrites → get f t = v % 2 ^ f.width
  kept : ∀ f : Fld, activationKeeps f.key = true → f.key ∉ (activationWrites.map Prod.fst).map Fld.key →
    f.key ∉ [Reg.CMD_STAMP_LO.STAMP, Reg.CMD_STAMP_HI.STAMP, Reg.SPN_STAT.STATE, Reg.SPN_STAT.LOCK, Reg.SPN_STAT.RESTART_PEND].map Fld.key →
    get f t = get f s
  awaitBoot : t.boot.awaitBoot = true
  held : t.boot.heldReq = s.boot.heldReq
  phase : t.boot.actPhase = 3

/-- The boot ROM is to run anew: the stamps count from 0, and the event of R39 is recorded. -/
def bootRunsAnew (m : Nat) (s : State) : State := post 0x020 0 [m, 2] (stampsAnew (setBoot { s.boot with awaitBoot := true } s))

theorem stampsAnew_wrote (s : State) : Wrote [(Reg.CMD_STAMP_LO.STAMP, 0), (Reg.CMD_STAMP_HI.STAMP, 0)] s (stampsAnew s) := by
  unfold stampsAnew
  exact puts_congr _ rfl

theorem bootRunsAnew_wrote (m : Nat) (s : State) : Wrote [(Reg.CMD_STAMP_LO.STAMP, 0), (Reg.CMD_STAMP_HI.STAMP, 0)] s (bootRunsAnew m s) := by
  have stamped := stampsAnew_wrote (setBoot { s.boot with awaitBoot := true } s)
  unfold bootRunsAnew
  exact (post_regs ..).trans (stamped.trans (puts_congr _ rfl))

theorem stampsAnew_boot (s : State) : (stampsAnew s).boot = s.boot := by
  unfold stampsAnew
  exact puts_boot ..

theorem bootRunsAnew_boot (m : Nat) (s : State) : (bootRunsAnew m s).boot = { s.boot with awaitBoot := true } :=
  (post_boot ..).trans (stampsAnew_boot _)

/-- The registers in the scope are at reset, and the boot's record with them, before what the reset writes. -/
def scopeCleared (s : State) : State :=
  { s with
    regs := s.regs.filter (fun p => !activationBlocks.contains (regBlock (p.1 / 32)) || keyIn Reg.keptMram p.1 || keyIn Reg.keptAon p.1)
    boot := { bootAfter 7 s.boot with actPhase := 3, actPort := s.boot.actPort, heldReq := s.boot.heldReq }
    evr := { s.evr with
               used := []
               rates := (List.range 16).map (fun k => (k, classBurst k s, get (Reg.EVR_RATE_CFG.RATE k) s, 0)) }
    seals := { s.seals with stopped := false } }

theorem activationReset_eq (s : State) : activationReset s = bootRunsAnew (mode s) (puts activationWrites (scopeCleared (unitsStopped s))) := by
  unfold activationReset bootRunsAnew scopeCleared unitsStopped activationWrites
  rfl

theorem get_scopeCleared {f : Fld} (h : activationKeeps f.key = true) (s : State) : get f (scopeCleared s) = get f s := by
  have kept := getD_filter_key activationKeeps f.key f.rst s.regs
  rw [if_pos h] at kept
  exact kept

theorem scopeCleared_heldReq (s : State) : (scopeCleared s).boot.heldReq = s.boot.heldReq := rfl
theorem scopeCleared_actPhase (s : State) : (scopeCleared s).boot.actPhase = 3 := rfl

theorem activationReset_reset (s : State) : ActivationReset s (activationReset s) := by
  have anew := bootRunsAnew_wrote (mode s) (puts activationWrites (scopeCleared (unitsStopped s)))
  have boot := (bootRunsAnew_boot (mode s) (puts activationWrites (scopeCleared (unitsStopped s))))
  have phase := scopeCleared_actPhase (unitsStopped s)
  have held := (scopeCleared_heldReq (unitsStopped s)).trans (congrArg BootSt.heldReq (unitsStopped_boot s))
  have cleared {f : Fld} (h : activationKeeps f.key = true) := get_scopeCleared h (unitsStopped s)
  rw [puts_boot] at boot
  rw [activationReset_eq]
  generalize scopeCleared (unitsStopped s) = u at *
  generalize bootRunsAnew (mode s) (puts activationWrites u) = t at *
  have written : Wrote activationWrites u (puts activationWrites u) := rfl
  have stamps : ∀ p ∈ activationWrites, p.1.key ∉ [Reg.CMD_STAMP_LO.STAMP, Reg.CMD_STAMP_HI.STAMP].map Fld.key := by decide
  refine ⟨fun f v h => (anew.get_ne (stamps _ h)).trans (written.get_mem activationWrites_nodup h), ?_, ?_, ?_, ?_⟩
  · intro f hk hw hs
    simp only [List.map_cons, List.map_nil, List.mem_cons, List.not_mem_nil, or_false, not_or] at hs
    obtain ⟨lo, hi, state, lock, pend⟩ := hs
    rw [anew.get_ne (by simp [lo, hi]), written.get_ne hw, cleared hk, (unitsStopped_wrote s).get_ne (by simp [state, lock, pend])]
  · rw [boot]
  · rw [boot]
    exact held
  · rw [boot]
    exact phase

end Activation

end Sys2Proof.Machine

namespace Sys2Proof.Machine

open Sys2Proof

/-! ### The settled statement -/

section ActivationClauses

variable {s t : State}

/-- A refused revocation is recorded, and nothing else. -/
theorem post_evr (c u : Nat) (l : List Nat) (s : State) : OnlyRegs [] s (post c u l s) ∧
    post c u l s = { s with evr := (post c u l s).evr, host := { s.host with msixPend := (post c u l s).host.msixPend } } :=
  ⟨fun _ _ => rfl, rfl⟩

/-- The key of the running image lies among the four that a mask names. -/
theorem namesRunning_of {v : Nat} {i : Image} (hi : s.boot.image = some i) (hk : i.keySlot < 4) (hv : v.testBit i.keySlot = true) :
    namesRunning (v % 16) s = true := by
  have bit : (v % 2 ^ 4).testBit i.keySlot = true := by rw [Nat.testBit_mod_two_pow, hv, decide_eq_true hk]; rfl
  rw [namesRunning, hi]
  exact bit

theorem activationReset_clause (hp : s.boot.actPhase = 2) (hmed : mediaStill s = true) (hc : s.pmu.ckpt = none) (hh : s.pmu.held = none) :
    Gives .activationReset s (fun t =>
      mode t = 2 ∧ get Reg.SYS_RESET_CAUSE.ACTIVATE t = 1 ∧ get Reg.PMU_CKPT_CTL.RESTORED t = 0 ∧ get Reg.DRC_STAT.SELF_REF t = 1 ∧
      get Reg.SYS_PATH_CFG.LOCK t = 0 ∧ get Reg.BOOT_SLOT_CTL.PREF t = s.boot.staged.getD 0 % 2 ∧ get Reg.BOOT_SLOT_CTL.TRIAL t = 1 ∧
      t.boot.awaitBoot = true ∧ t.boot.heldReq = s.boot.heldReq ∧ t.boot.actPhase = 3) := by
  have out : exec .activationReset s = .next (activationReset (putRec ⟨s.boot.staged.getD 0, 1, 0, 0⟩ (wholeCheckpoint 4 s))) := by
    rw [show exec .activationReset s = execActivationReset s from rfl, execActivationReset]
    exact occurs_of ⟨hp, hmed, hc, hh⟩
  have pref := putRec_pref ⟨s.boot.staged.getD 0, 1, 0, 0⟩ (wholeCheckpoint 4 s)
  have trial := putRec_trial ⟨s.boot.staged.getD 0, 1, 0, 0⟩ (wholeCheckpoint 4 s)
  have held : (putRec ⟨s.boot.staged.getD 0, 1, 0, 0⟩ (wholeCheckpoint 4 s)).boot.heldReq = s.boot.heldReq := by
    rw [putRec_frame, wholeCheckpoint_boot]
  refine .of_next out ?_
  generalize putRec ⟨s.boot.staged.getD 0, 1, 0, 0⟩ (wholeCheckpoint 4 s) = u at pref trial held ⊢
  have reset := activationReset_reset u
  generalize activationReset u = t at reset ⊢
  exact ⟨reset.wrote _ 2 (by simp [activationWrites]), reset.wrote _ 1 (by simp [activationWrites]), reset.wrote _ 0 (by simp [activationWrites]),
    reset.wrote _ 1 (by simp [activationWrites]), reset.wrote _ 0 (by simp [activationWrites]),
    (reset.kept _ (by decide) (by decide) (by decide)).trans pref, (reset.kept _ (by decide) (by decide) (by decide)).trans trial,
    reset.awaitBoot, reset.held.trans held, reset.phase⟩

theorem adminServed_recovery (hr : s.boot.recovery = true) : adminServed .sideband s = true := by rw [adminServed, if_pos hr]; rfl

end ActivationClauses

/-- Settles O24: a revocation, a download and a commit write the boot's record and a few fields, and the operations that an activation runs spare SYS. -/
theorem keysDownloadsAndActivation : Obligations.KeysDownloadsAndActivation := by
  unfold Obligations.KeysDownloadsAndActivation
  refine ⟨?revoke, ?revokeRunning, ?revokeLast, ?revokeIgnored, ?revokeDone, ?download, ?downloadRefused, ?downloadEnds, ?commit, ?commitRecovery,
    ?commitNone, ?activate, ?activateBusy, fun _ _ hp hc hn => .of_next (exec_activationDrainEnd hp hc hn) (drainEnded_shown ..),
    fun _ _ hp hc hn => activationDrainTimeout_fails hp hc hn, fun _ hp hm hc hh => activationReset_clause hp hm hc hh⟩
  case revoke =>
    intro v s hv hi hl
    have wrote : Wrote [(Reg.BOOT_KEY_STAT.BUSY, 1)] s
        (put Reg.BOOT_KEY_STAT.BUSY 1 (setBoot { s.boot with revoking := s.boot.revoking ||| v % 16 } s)) := puts_congr [(_, _)] rfl
    exact .of_next (exec_keyRevoke_starts hv (namesRunning_eq_false hi) hl) ⟨get_put_self .., rfl, wrote.onlyRegs, rfl⟩
  case revokeRunning =>
    intro v i s hv hi hk hb
    exact .of_next (exec_keyRevoke_refused hv (.inl (namesRunning_of hi hk hb))) (post_evr ..)
  case revokeLast =>
    intro v s hv hl
    exact .of_next (exec_keyRevoke_refused hv (.inr hl)) (post_evr ..)
  case revokeIgnored =>
    intro v s hv
    exact .of_next ((exec_keyRevoke v s).trans (congrArg _ (if_pos hv))) rfl
  case revokeDone =>
    intro s hb
    have frame := fusesBlown_onlyRegisters s
    have regs := fusesBlown_onlyRegs s
    have idle : get Reg.BOOT_KEY_STAT.BUSY (fusesBlown s) = 0 := get_put_self ..
    refine .of_next (exec_keyRevokeDone hb) ?_
    generalize fusesBlown s = t at frame regs idle ⊢
    refine ⟨idle, by rw [frame.boot]; rfl, List.all_eq_true.2 fun k hk => ?_, regs, ?_⟩
    · rw [frame.boot]
      show (((blownFuses s.boot).getD k {}).revoked == _) = true
      rw [blownFuses_getD (List.mem_range.1 hk)]
      exact beq_self_eq_true _
    · rw [frame]
      rfl
  case download =>
    intro p o l s hp hs
    exact .of_next (exec_firmwareDownload_taken hp hs) ⟨rfl, downloaded_part .., rfl, fun _ _ => rfl, rfl⟩
  case downloadRefused =>
    intro p q o l m s hp hs hq
    exact .of_next (exec_firmwareDownload_refused hp hs hq) ⟨rfl, rfl, fun _ _ => rfl, rfl⟩
  case downloadEnds =>
    intro n s hn
    exact .of_next (occurs_of hn) ⟨rfl, fun _ _ => rfl, rfl⟩
  case commit =>
    intro p b l s hp hs hr
    cases hi : (imageOf s.boot.fuses l).isSome with
    | false => exact .of_next (exec_firmwareCommit_bad hp hs hi) ⟨rfl, fun _ => ⟨rfl, rfl, rfl⟩, nofun, fun _ _ => rfl, rfl⟩
    | true =>
      have committed := recordCommitted_committed (b := b) l hr
      have out := (exec_firmwareCommit_good (b := b) hp hs hi).trans (congrArg _ (if_neg (by simp [hr])))
      refine .of_next out ?_
      generalize recordCommitted b l s = u at committed ⊢
      obtain ⟨session, staged, bytes, record, regs, frame⟩ := committed
      have sent : u.sent = s.sent := by rw [frame]
      refine ⟨session, nofun, fun _ => ⟨staged, bytes, record, congrArg (· ++ [adminMsg p .success]) sent⟩, regs, ?_⟩
      rw [frame]
      rfl
  case commitRecovery =>
    intro b l s hs hr
    have served := adminServed_recovery hr
    cases hi : (imageOf s.boot.fuses l).isSome with
    | false => exact .of_next (exec_firmwareCommit_bad served hs hi) ⟨fun _ => rfl, nofun⟩
    | true =>
      have recorded : recordCommitted b l s = putRec ⟨otherSlot s, 1, 0, 0⟩ (imageStaged l s) := by rw [recordCommitted, if_neg (by simp [hr])]
      have out := (exec_firmwareCommit_good (b := b) served hs hi).trans (congrArg _ (if_pos hr))
      rw [recorded, imageStaged] at out
      exact .of_next out ⟨nofun, fun _ => rfl⟩
  case commitNone =>
    intro p b s hp hs
    exact .of_next (exec_firmwareCommit_none hp hs) ⟨rfl, fun _ _ => rfl, rfl⟩
  case activate =>
    intro p s hp hr hm ha hb
    have out := (exec_firmwareActivate hp hr).trans (congrArg _ ((if_neg ha).trans (if_neg (by omega))))
    cases hi : stagedOk s with
    | false =>
      have wrote : Wrote [(Reg.SYS_ACT_STAT.RESULT, 4)] s (send (adminMsg p .invalidField) (put Reg.SYS_ACT_STAT.RESULT 4 s)) := rfl
      exact .of_next (out.trans (congrArg _ (if_pos hi)))
        ⟨nofun, fun _ => ⟨(get_send ..).trans (get_put_self ..), rfl, rfl⟩, wrote.onlyRegs.mono (by simp), rfl⟩
    | true =>
      have wrote := activationBegun_wrote p s
      have keys : ([Reg.SYS_MODE.ACT, Reg.SYS_ACT_STAT.RESULT].map Fld.key).Nodup := by decide
      exact .of_next (out.trans (congrArg _ (if_neg (by simp [hi]))))
        ⟨fun _ => ⟨wrote.get_mem keys (v := 1) (by simp), wrote.get_mem keys (v := 1) (by simp), rfl, rfl, rfl⟩, nofun, wrote.onlyRegs, rfl⟩
  case activateBusy =>
    intro p s hp hr h
    by_cases ha : get Reg.SYS_MODE.ACT s = 1
    · refine .of_next ((exec_firmwareActivate hp hr).trans (congrArg _ (if_pos ha))) ⟨?_, rfl, fun _ _ => rfl, rfl⟩
      rw [if_pos ha]
      rfl
    · have busy : mode s ≠ 3 ∨ get Reg.SYS_MODE.BUSY s = 1 := by omega
      have wrote : Wrote [(Reg.SYS_ACT_STAT.RESULT, 5)] s (send (adminMsg p .busy) (put Reg.SYS_ACT_STAT.RESULT 5 s)) := rfl
      refine .of_next ((exec_firmwareActivate hp hr).trans (congrArg _ ((if_neg ha).trans (if_pos busy)))) ⟨?_, rfl, wrote.onlyRegs, rfl⟩
      rw [if_neg ha]
      exact (get_send ..).trans (get_put_self ..)

end Sys2Proof.Machine

/-! SUPPORT. Proofs of the obligations of the disk spindle family (04_disk_spindle.md). -/

namespace Sys2Proof.Machine

open Sys2Proof

/-! ### What is spared, by block -/

/-- The fields outside some blocks (R14). -/
def outsideBlocks (l : List Nat) (k : Nat) : Bool := !l.contains (regBlock (k / 32))

/-- The fields outside ACT and ASX, which the actuators and their heads move. -/
def servoKeys (k : Nat) : Bool := outsideBlocks [5, 6] k

/-- The fields outside SYS, SPN, ACT, ASX and HCH, which no row of the spindle moves. -/
def diskKeys (k : Nat) : Bool := outsideBlocks [0, 4, 5, 6, 7] k

section Spared

variable {keep keep' : Nat → Bool} {s t : State}

theorem Spares.mono (h : Spares keep s t) (hk : ∀ k, keep' k = true → keep k = true) : Spares keep' s t :=
  ⟨fun f hf => h.fields f (hk _ hf), h.mem, h.pins, h.boot⟩

/-- The frame of the spindle's rows. -/
theorem Spares.disk (h : Spares diskKeys s t) : OnlyBlocks [0, 4, 5, 6, 7] s t ∧ SameMem s t :=
  ⟨fun f hf => h.fields f (by simpa [diskKeys, outsideBlocks] using hf), h.sameMem⟩

/-- A field of a list that no named key is in. -/
theorem spared_of_mem {l : List Fld} (h : l.all (fun f => !keep f.key) = true) {f : Fld} (hf : f ∈ l) : keep f.key = false := by
  simpa using List.all_eq_true.1 h f hf

end Spared

theorem servoKeys_of_diskKeys {k : Nat} (h : diskKeys k = true) : servoKeys k = true := by
  simp only [diskKeys, servoKeys, outsideBlocks, Bool.not_eq_true', List.contains_eq_mem, decide_eq_false_iff_not, List.mem_cons,
    List.not_mem_nil, or_false, not_or] at h ⊢
  exact ⟨h.2.2.1, h.2.2.2.1⟩

theorem servoKeys_eq_false {b n lo w r : Nat} (hb : 0x40050000 ≤ b) (hn : b + n < 0x40070000) (hl : lo < 32) :
    servoKeys (Fld.mk (b + n) lo w r).key = false := by
  have block : regBlock ((Fld.mk (b + n) lo w r).key / 32) = 5 ∨ regBlock ((Fld.mk (b + n) lo w r).key / 32) = 6 := by
    simp only [regBlock, Fld.key]
    omega
  rcases block with h | h <;> simp [servoKeys, outsideBlocks, h]

/-- The fields of an actuator. -/
theorem servoKeys_act {a b lo w r : Nat} (ha : a < 2) (hb : 0x40050000 ≤ b := by decide) (hb' : b < 0x40060000 := by decide)
    (hl : lo < 32 := by decide) : servoKeys (Fld.mk (b + 256 * a) lo w r).key = false :=
  servoKeys_eq_false hb (by omega) hl

/-- The fields of a head. -/
theorem servoKeys_head {h b lo w r : Nat} (hh : h < 24) (hb : 0x40050000 ≤ b := by decide) (hb' : b < 0x40060200 := by decide)
    (hl : lo < 32 := by decide) : servoKeys (Fld.mk (b + 32 * h) lo w r).key = false :=
  servoKeys_eq_false hb (by omega) hl

/-! ### What the actuators do as the spindle moves (R125, R144) -/

/-- Nothing but registers of ACT and ASX, and no record of the spindle, is moved. -/
structure ServoOnly (s t : State) : Prop extends Spares servoKeys s t where
  spn : t.spn = s.spn

section ServoOnly

variable {s t u : State}

theorem ServoOnly.refl (s : State) : ServoOnly s s := ⟨.refl s, rfl⟩

theorem ServoOnly.trans (h : ServoOnly s t) (k : ServoOnly t u) : ServoOnly s u := ⟨h.toSpares.trans k.toSpares, k.spn.trans h.spn⟩

theorem ServoOnly.ite {c : Prop} [Decidable c] (h : ServoOnly s t) (k : ServoOnly s u) : ServoOnly s (if c then t else u) := by
  split <;> assumption

theorem ServoOnly.foldl {α : Type} {g : State → α → State} {l : List α} (h : ∀ u, ∀ x ∈ l, ServoOnly u (g u x)) (s : State) :
    ServoOnly s (l.foldl g s) := by
  induction l generalizing s with
  | nil => exact .refl s
  | cons x l ih => exact (h s x List.mem_cons_self).trans (ih (fun u y hy => h u y (List.mem_cons_of_mem _ hy)) _)

theorem ServoOnly.put (h : ServoOnly s t) {f : Fld} (hf : servoKeys f.key = false) (v : Nat) : ServoOnly s (put f v t) :=
  ⟨h.toSpares.put hf v, h.spn⟩

theorem ServoOnly.puts (h : ServoOnly s t) {l : List (Fld × Nat)} (hl : ∀ p ∈ l, servoKeys p.1.key = false) : ServoOnly s (puts l t) := by
  have written := puts_onlyRegisters l t
  exact ⟨h.toSpares.puts hl, by rw [written]; exact h.spn⟩

theorem ServoOnly.bump (h : ServoOnly s t) {f : Fld} (hf : servoKeys f.key = false) : ServoOnly s (bump f t) := h.put hf _
theorem ServoOnly.setAct (h : ServoOnly s t) (a : Nat) (r : ActSt) : ServoOnly s (setAct a r t) := ⟨h.toSpares.setAct a r, h.spn⟩
theorem ServoOnly.post (h : ServoOnly s t) (c n : Nat) (l : List Nat) : ServoOnly s (post c n l t) := ⟨h.toSpares.post c n l, h.spn⟩
theorem ServoOnly.postReg (h : ServoOnly s t) (f : Fld) (n : Nat) : ServoOnly s (postReg f n t) := h.post ..

theorem ServoOnly.raisePost (h : ServoOnly s t) (i n : Nat) (l : List Nat) : ServoOnly s (raisePost i n l t) := by
  have told := raisePost_onlyEvents i n l t
  exact ⟨h.toSpares.raisePost i n l, by rw [told]; exact h.spn⟩

theorem gateOff_servoOnly (a k : Nat) (s : State) : ServoOnly s (gateOff a k s) := by
  have sent (l : Nat) (b : List Nat) : (sendBlocks l b s).spn = s.spn := by
    unfold sendBlocks carried setLink
    dsimp only
    split <;> rfl
  exact .ite ⟨sendBlocks_spares .., sent ..⟩ (.refl s)

theorem markUnwritten_servoOnly (n : Nat) (s : State) : ServoOnly s (markUnwritten n s) :=
  .ite ⟨(Spares.refl s).setHch .., rfl⟩ (.refl s)

section Actuator

variable {a : Nat} (ha : a < 2)
include ha

theorem servoKeys_permitFld (k : Nat) : servoKeys (permitFld a k).key = false := by
  unfold permitFld
  split <;> exact servoKeys_act ha

theorem permitDrop_servoOnly (k c : Nat) (p : Int) (s : State) : ServoOnly s (permitDrop a k c p s) := by
  have fell := ((gateOff_servoOnly a k s).setAct a (actFell k c (get (Reg.ACT_WEDGE_TIME.WEDGE a) s) p (actOf a s))).put
    (servoKeys_permitFld ha k) 0
  have counted := fell.bump (f := Reg.ACT_CNT.WUS a) (servoKeys_act ha)
  exact .ite ((counted.trans (markUnwritten_servoOnly ..)).raisePost ..) (.refl s)

theorem showLog_servoOnly (s : State) : ServoOnly s (showLog a s) := by
  unfold showLog
  split <;>
  · refine (ServoOnly.refl s).puts ?_
    simp only [List.forall_mem_cons, List.not_mem_nil, false_imp_iff, implies_true, and_true]
    exact ⟨servoKeys_act ha, servoKeys_act ha, servoKeys_act ha, servoKeys_act ha, servoKeys_act ha, servoKeys_act ha, servoKeys_act ha⟩

theorem pushLog_servoOnly (e : WusEntry) (s : State) : ServoOnly s (pushLog a e s) :=
  .ite (((ServoOnly.refl s).setAct ..).trans (showLog_servoOnly ha _)) (((ServoOnly.refl s).put (servoKeys_act ha) 1).post ..)

theorem endEpisode_servoOnly (k : Nat) (s : State) : ServoOnly s (endEpisode a k s) := by
  unfold endEpisode
  dsimp only
  split
  · exact .refl s
  · have logged (e : WusEntry) : ServoOnly s (pushLog a e (setAct a (dropEpisode k (actOf a s)) s)) :=
      ((ServoOnly.refl s).setAct ..).trans (pushLog_servoOnly ha ..)
    exact .ite ⟨(logged _).toSpares.record rfl rfl rfl rfl, (logged _).spn⟩ (logged _)

theorem leaveFollow_servoOnly (s : State) : ServoOnly s (leaveFollow a s) := by
  have closed : ServoOnly s (put (Reg.ACT_STAT.WR_OK a) 0 s) := (ServoOnly.refl s).put (servoKeys_act ha) 0
  have fell : ServoOnly s (permitsFall a false 2 (put (Reg.ACT_STAT.WR_OK a) 0 s)) :=
    (closed.trans (permitDrop_servoOnly ha 1 2 0 _)).trans (permitDrop_servoOnly ha 2 2 0 _)
  exact .ite closed ((fell.trans (endEpisode_servoOnly ha ..)).trans (endEpisode_servoOnly ha ..))

omit ha in
theorem asxOff_servoOnly {h : Nat} (hh : h < 24) (s : State) : ServoOnly s (asxOff h s) := by
  have shown : ∀ p ∈ [(Reg.ASX_HSTAT.STATE h, 0), (Reg.ASX_HSTAT.READY h, 0)], servoKeys p.1.key = false := by
    simp only [List.forall_mem_cons, List.not_mem_nil, false_imp_iff, implies_true, and_true]
    exact ⟨servoKeys_head hh, servoKeys_head hh⟩
  have fresh : ServoOnly s (setAsx h (asxMoved 0 (asxOf h s)) s) := ⟨(Spares.refl s).setAsx .., rfl⟩
  exact .ite ((fresh.puts shown).postReg ..) (.refl s)

theorem headsOff_servoOnly (s : State) : ServoOnly s (headsOff a s) := by
  refine .foldl (fun u h hh => asxOff_servoOnly ?_ u) s
  obtain ⟨i, hi, rfl⟩ := List.mem_map.1 hh
  have := List.mem_range.1 hi
  omega

theorem actEntry_servoOnly (new : Nat) (s : State) : ServoOnly s (actEntry a new s) := by
  have fresh (r : ActSt) : ServoOnly s (setAct a r s) := (ServoOnly.refl s).setAct a r
  have loaded : ∀ p ∈ [(Reg.ACT_STAT.LOADED a, 1), (Reg.ACT_STAT.ATTEMPTS a, 0)], servoKeys p.1.key = false := by
    simp only [List.forall_mem_cons, List.not_mem_nil, false_imp_iff, implies_true, and_true]
    exact ⟨servoKeys_act ha, servoKeys_act ha⟩
  exact .ite (((fresh _).puts loaded).raisePost ..) (.ite ((fresh _).raisePost ..)
    (.ite ((ServoOnly.refl s).raisePost ..) (.ite (fresh _) (.ite (fresh _) (.refl s)))))

theorem actGo_servoOnly (new : Nat) (s : State) : ServoOnly s (actGo a new s) := by
  have left : ServoOnly s (if actState a s = 4 ∧ new ≠ 4 then leaveFollow a s else s) := .ite (leaveFollow_servoOnly ha s) (.refl s)
  have moved := (left.put (f := Reg.ACT_STAT.STATE a) (servoKeys_act ha) new).postReg (Reg.ACT_STAT.STATE a) a
  have off := (moved.put (f := Reg.ACT_STAT.PAIRED a) (servoKeys_act ha) 0).trans (headsOff_servoOnly ha _)
  have rested := ServoOnly.ite (c := new = 0 ∨ new = 1 ∨ 6 ≤ new) off moved
  exact (rested.setAct ..).trans (actEntry_servoOnly ha ..)

theorem takeHeldLoad_servoOnly (s : State) : ServoOnly s (takeHeldLoad a s) := by
  have taken : ∀ v, ∀ p ∈ [(Reg.ACT_CTL.LOAD a, 0), (Reg.ACT_STAT.CMD_PEND a, v)], servoKeys p.1.key = false := by
    simp only [List.forall_mem_cons, List.not_mem_nil, false_imp_iff, implies_true, and_true]
    exact fun _ => ⟨servoKeys_act ha, servoKeys_act ha⟩
  exact .ite ((((ServoOnly.refl s).setAct ..).puts (taken _)).trans (actGo_servoOnly ha ..)) (.refl s)

theorem startUnload_servoOnly (b : Bool) (s : State) : ServoOnly s (startUnload b a s) :=
  (((ServoOnly.refl s).put (f := Reg.ACT_CTL.UNLOAD a) (servoKeys_act ha) 0).trans (actGo_servoOnly ha ..)).setAct ..

/-- What an actuator does at a transition of the spindle stays within ACT and ASX. -/
theorem actOnSpindle_servoOnly (new : Nat) (s : State) : ServoOnly s (actOnSpindle new a s) := by
  have refused : ∀ p ∈ [(Reg.ACT_STAT.CMD_PEND a, 0), (Reg.ACT_STAT.REFUSED a, 1)], servoKeys p.1.key = false := by
    simp only [List.forall_mem_cons, List.not_mem_nil, false_imp_iff, implies_true, and_true]
    exact ⟨servoKeys_act ha, servoKeys_act ha⟩
  exact .ite (takeHeldLoad_servoOnly ha s) (.ite (startUnload_servoOnly ha ..) (.ite (((ServoOnly.refl s).setAct ..).puts refused) (.refl s)))

end Actuator

end ServoOnly

end Sys2Proof.Machine

namespace Sys2Proof.Machine

open Sys2Proof

/-! ### A transition of the spindle (R98) -/

/-- The spindle's record takes a value. -/
def setSpn (r : SpnSt) (s : State) : State := { s with spn := r }

@[simp] theorem get_setSpn (f : Fld) (r : SpnSt) (s : State) : get f (setSpn r s) = get f s := rfl

/-- The spindle's own share of a transition, before what entry to RUN or FAULT adds. -/
def spnMoved (new : Nat) (s : State) : State :=
  let t := putIf (spnState s = 13) Reg.SYS_MODE.MEDIA_FAULT 0
    (post 0x121 0 [spnState s, new] (put Reg.SPN_STAT.STATE new (if new = 7 then s else unlock s)))
  setSpn (spnEnter (spnState s) new (tmpCount s) (get Reg.SPN_SPEED.SPEED s) t.spn) t

/-- The spindle's share with that of the state entered. -/
def spnEntered (new : Nat) (s : State) : State :=
  if new = 7 then enterRun (spnMoved new s) else if new = 13 then enterFault (spnMoved new s) else spnMoved new s

theorem spnGo_eq (new : Nat) (s : State) : spnGo new s = actOnSpindle new 1 (actOnSpindle new 0 (spnEntered new s)) := rfl

theorem spnGo_servoOnly (new : Nat) (s : State) : ServoOnly (spnEntered new s) (spnGo new s) :=
  (actOnSpindle_servoOnly (by decide) new _).trans (actOnSpindle_servoOnly (by decide) new _)

theorem spnEntered_plain {new : Nat} (h7 : new ≠ 7) (h13 : new ≠ 13) (s : State) : spnEntered new s = spnMoved new s :=
  (if_neg h7).trans (if_neg h13)

/-- The fields that every transition writes, and those that RUN and FAULT add. -/
def moveFields : List Fld := [Reg.SPN_FAULT.LOCK_LOST, Reg.SPN_STAT.LOCK, Reg.SPN_STAT.STATE, Reg.SYS_MODE.MEDIA_FAULT]
def runFields : List Fld := [Reg.SPN_STAT.LOCK, Reg.SPN_STAT.NOT_READY, Reg.SPN_FAULT.K_MISMATCH]
def faultFields : List Fld := [Reg.SPN_STAT.NOT_READY, Reg.SPN_STAT.RESTART_PEND, Reg.SPN_FAULT.FAULT, Reg.SYS_MODE.MEDIA_FAULT]

section Transition

variable {keep : Nat → Bool} {s t : State}

theorem Spares.setSpn (h : Spares keep s t) (r : SpnSt) : Spares keep s (setSpn r t) := h.record rfl rfl rfl rfl

theorem Spares.putIf (h : Spares keep s t) {f : Fld} (hf : keep f.key = false) (c : Prop) [Decidable c] (v : Nat) :
    Spares keep s (putIf c f v t) := .ite (h.put hf v) h

theorem unlock_sparing (h : moveFields.all (fun f => !keep f.key) = true) (s : State) : Spares keep s (unlock s) := by
  have fallen : Spares keep s (lockFalls s) := (allFallLater_spares false s).linePost (spared_of_mem h (by simp [moveFields])) ..
  have locked : Spares keep s (if get Reg.SPN_STAT.LOCK s = 2 then lockFalls s else s) := .ite fallen (.refl s)
  exact locked.put (spared_of_mem h (by simp [moveFields])) 0

theorem spnMoved_spares (h : moveFields.all (fun f => !keep f.key) = true) (new : Nat) (s : State) : Spares keep s (spnMoved new s) := by
  have unlocked : Spares keep s (if new = 7 then s else unlock s) := .ite (.refl s) (unlock_sparing h s)
  have moved := (unlocked.put (f := Reg.SPN_STAT.STATE) (spared_of_mem h (by simp [moveFields])) new).post 0x121 0 [spnState s, new]
  have healed := moved.putIf (f := Reg.SYS_MODE.MEDIA_FAULT) (spared_of_mem h (by simp [moveFields])) (spnState s = 13) 0
  exact healed.setSpn _

theorem enterRun_spares (h : runFields.all (fun f => !keep f.key) = true) (s : State) : Spares keep s (enterRun s) := by
  have ready : Spares keep s (puts [(Reg.SPN_STAT.LOCK, 1), (Reg.SPN_STAT.NOT_READY, 0)] s) :=
    (Spares.refl s).puts (by simpa using ⟨spared_of_mem h (by simp [runFields]), spared_of_mem h (by simp [runFields])⟩)
  have fresh := ready.setSpn { s.spn with lockRow := 0, errRow := 0, missRow := 0, aMissed := false, trim := 0 }
  exact (fresh.putIf (spared_of_mem h (by simp [runFields])) _ 1).raisePost ..

theorem enterFault_spares (h : faultFields.all (fun f => !keep f.key) = true) (s : State) : Spares keep s (enterFault s) := by
  have waits : Spares keep s (puts [(Reg.SPN_STAT.NOT_READY, 1), (Reg.SPN_STAT.RESTART_PEND, 0)] s) :=
    (Spares.refl s).puts (by simpa using ⟨spared_of_mem h (by simp [faultFields]), spared_of_mem h (by simp [faultFields])⟩)
  have told := waits.linePost (f := Reg.SPN_FAULT.FAULT) (spared_of_mem h (by simp [faultFields])) 131 1 0 []
  exact (told.setSpn _).putIf (spared_of_mem h (by simp [faultFields])) _ 1

/-- A transition spares every field outside ACT and ASX but those of the spindle's state, its lock and what RUN and FAULT add. -/
theorem spnGo_spares {new : Nat} (hs : ∀ k, keep k = true → servoKeys k = true) (hm : moveFields.all (fun f => !keep f.key) = true)
    (hr : new = 7 → runFields.all (fun f => !keep f.key) = true) (hf : new = 13 → faultFields.all (fun f => !keep f.key) = true)
    (s : State) : Spares keep s (spnGo new s) := by
  have moved := spnMoved_spares hm new s
  have entered : Spares keep s (spnEntered new s) := by
    unfold spnEntered
    split
    next h => exact moved.trans (enterRun_spares (hr h) _)
    next =>
      split
      next h => exact moved.trans (enterFault_spares (hf h) _)
      next => exact moved
  exact entered.trans ((spnGo_servoOnly new s).toSpares.mono hs)

/-- Every transition stays within SYS, SPN, ACT and ASX. -/
theorem spnGo_disk (h : Spares diskKeys s t) (new : Nat) : Spares diskKeys s (spnGo new t) :=
  h.trans (spnGo_spares (fun _ => servoKeys_of_diskKeys) (by decide) (fun _ => by decide) (fun _ => by decide) t)

/-- The fields that a transition to a state but RUN and FAULT leaves. -/
def goKeys (k : Nat) : Bool := servoKeys k && moveFields.all (fun f => f.key != k)

theorem get_spnGo {f : Fld} (hf : goKeys f.key = true) {new : Nat} (h7 : new ≠ 7 := by decide) (h13 : new ≠ 13 := by decide) (s : State) :
    get f (spnGo new s) = get f s :=
  (spnGo_spares (keep := goKeys) (fun k h => (Bool.and_eq_true_iff.1 h).1) (by decide) (fun h => absurd h h7) (fun h => absurd h h13) s).fields f hf

/-- The fields that a transition to FAULT leaves. -/
def goFaultKeys (k : Nat) : Bool := goKeys k && faultFields.all (fun f => f.key != k)

theorem get_spnGo_fault {f : Fld} (hf : goFaultKeys f.key = true) (s : State) : get f (spnGo 13 s) = get f s :=
  (spnGo_spares (keep := goFaultKeys) (fun k h => (Bool.and_eq_true_iff.1 (Bool.and_eq_true_iff.1 h).1).1) (by decide)
    (fun h => absurd h (by decide)) (fun _ => by decide) s).fields f hf

theorem state_spnMoved (new : Nat) (s : State) : get Reg.SPN_STAT.STATE (spnMoved new s) = new % 16 := by
  have moved : Spares (· == Reg.SPN_STAT.STATE.key) (put Reg.SPN_STAT.STATE new (if new = 7 then s else unlock s)) (spnMoved new s) :=
    (((Spares.refl _).post 0x121 0 [spnState s, new]).putIf (f := Reg.SYS_MODE.MEDIA_FAULT) (by decide) (spnState s = 13) 0).setSpn _
  exact (moved.fields _ (by decide)).trans (get_put_self ..)

/-- The spindle is in the state that it goes to. -/
theorem state_spnGo {new : Nat} (h : new < 16 := by decide) (s : State) : get Reg.SPN_STAT.STATE (spnGo new s) = new := by
  have entered : Spares (· == Reg.SPN_STAT.STATE.key) (spnMoved new s) (spnEntered new s) :=
    .ite (enterRun_spares (by decide) _) (.ite (enterFault_spares (by decide) _) (.refl _))
  rw [(spnGo_servoOnly new s).fields _ (by decide), entered.fields _ (by decide), state_spnMoved, Nat.mod_eq_of_lt h]

theorem unlock_spn (s : State) : (unlock s).spn = s.spn := by
  have fallen : (lockFalls s).spn = s.spn := by rw [lockFalls, linePost_onlyEvents]; rfl
  show (if get Reg.SPN_STAT.LOCK s = 2 then lockFalls s else s).spn = s.spn
  split
  · exact fallen
  · rfl

theorem putIf_onlyRegisters (c : Prop) [Decidable c] (f : Fld) (v : Nat) (s : State) : OnlyRegisters s (putIf c f v s) := by
  unfold putIf
  split <;> rfl

theorem spnMoved_spn {new : Nat} (h7 : new ≠ 7) (s : State) :
    (spnMoved new s).spn = spnEnter (spnState s) new (tmpCount s) (get Reg.SPN_SPEED.SPEED s) s.spn := by
  unfold spnMoved setSpn
  dsimp only
  rw [putIf_onlyRegisters, if_neg h7]
  show spnEnter _ _ _ _ (unlock s).spn = _
  rw [unlock_spn]

/-- The spindle's record after a transition to a state but RUN and FAULT. -/
theorem spn_spnGo {new : Nat} (h7 : new ≠ 7 := by decide) (h13 : new ≠ 13 := by decide) (s : State) :
    (spnGo new s).spn = spnEnter (spnState s) new (tmpCount s) (get Reg.SPN_SPEED.SPEED s) s.spn := by
  rw [(spnGo_servoOnly new s).spn, spnEntered_plain h7 h13, spnMoved_spn h7]

section Enter

variable (old new now speed : Nat) (r : SpnSt)

@[simp] theorem spnEnter_target : (spnEnter old new now speed r).target = r.target := by
  unfold spnEnter
  dsimp only
  split
  · rfl
  · split <;> rfl

@[simp] theorem spnEnter_angle : (spnEnter old new now speed r).angle = r.angle := by
  unfold spnEnter
  dsimp only
  split
  · rfl
  · split <;> rfl

end Enter

/-- The profile starts at the speed of a rotor that is not driven already (R102, R103). -/
theorem spnEnter_profile {old : Nat} (h7 : old ≠ 7) (h9 : old ≠ 9) (now speed : Nat) (r : SpnSt) :
    (spnEnter old 6 now speed r).profile = 50000 * (speed : Int) := by simp [spnEnter, h7, h9]

theorem target_spnGo {new : Nat} (h7 : new ≠ 7 := by decide) (h13 : new ≠ 13 := by decide) (s : State) :
    (spnGo new s).spn.target = s.spn.target := by rw [spn_spnGo h7 h13, spnEnter_target]

/-! ### Entry to RUN and to FAULT (R99, R100, R105) -/

theorem get_enterRun {f : Fld} (hf : f.key ≠ Reg.SPN_FAULT.K_MISMATCH.key) (s : State) :
    get f (enterRun s) = get f (puts [(Reg.SPN_STAT.LOCK, 1), (Reg.SPN_STAT.NOT_READY, 0)] s) := by
  unfold enterRun putIf
  dsimp only
  rw [get_raisePost]
  split
  · exact get_put_ne hf ..
  · rfl

theorem get_enterFault {f : Fld} (hf : f.key ≠ Reg.SYS_MODE.MEDIA_FAULT.key) (s : State) : get f (enterFault s) =
    get f (put Reg.SPN_FAULT.FAULT 1 (puts [(Reg.SPN_STAT.NOT_READY, 1), (Reg.SPN_STAT.RESTART_PEND, 0)] s)) := by
  have told (r : SpnSt) : get f (setSpn r (linePost 131 Reg.SPN_FAULT.FAULT 1 0 []
      (puts [(Reg.SPN_STAT.NOT_READY, 1), (Reg.SPN_STAT.RESTART_PEND, 0)] s))) =
      get f (put Reg.SPN_FAULT.FAULT 1 (puts [(Reg.SPN_STAT.NOT_READY, 1), (Reg.SPN_STAT.RESTART_PEND, 0)] s)) :=
    (get_setSpn ..).trans (get_linePost ..)
  unfold enterFault putIf
  split
  · exact (get_put_ne hf ..).trans (told _)
  · exact told _

theorem get_spnGo_entered {f : Fld} (hf : servoKeys f.key = true) (new : Nat) (s : State) : get f (spnGo new s) = get f (spnEntered new s) :=
  (spnGo_servoOnly new s).fields f hf

theorem lock_spnGo_run (s : State) : get Reg.SPN_STAT.LOCK (spnGo 7 s) = 1 := by
  rw [get_spnGo_entered (by decide), spnEntered, if_pos rfl, get_enterRun (by decide)]
  exact get_puts_mem (l := [(Reg.SPN_STAT.LOCK, 1), (Reg.SPN_STAT.NOT_READY, 0)]) (by decide) (v := 1) (by simp) _

theorem notReady_spnGo_run (s : State) : get Reg.SPN_STAT.NOT_READY (spnGo 7 s) = 0 := by
  rw [get_spnGo_entered (by decide), spnEntered, if_pos rfl, get_enterRun (by decide)]
  exact get_puts_mem (l := [(Reg.SPN_STAT.LOCK, 1), (Reg.SPN_STAT.NOT_READY, 0)]) (by decide) (v := 0) (by simp) _

theorem fault_spnGo_fault (s : State) : get Reg.SPN_FAULT.FAULT (spnGo 13 s) = 1 := by
  rw [get_spnGo_entered (by decide)]
  exact (get_enterFault (by decide) _).trans (get_put_self ..)

theorem restartPend_spnGo_fault (s : State) : get Reg.SPN_STAT.RESTART_PEND (spnGo 13 s) = 0 := by
  rw [get_spnGo_entered (by decide)]
  refine (get_enterFault (by decide) _).trans ((get_put_ne (by decide) ..).trans ?_)
  exact get_puts_mem (l := [(Reg.SPN_STAT.NOT_READY, 1), (Reg.SPN_STAT.RESTART_PEND, 0)]) (by decide) (v := 0) (by simp) _

/-! ### The need of a restart (R99) -/

def restartFields : List Fld := [Reg.SPN_STAT.RESTART_PEND, Reg.SPN_STAT.NOT_READY]

theorem needRestart_spares (h : restartFields.all (fun f => !keep f.key) = true) (s : State) : Spares keep s (needRestart s) := by
  have pending : Spares keep s (puts [(Reg.SPN_STAT.RESTART_PEND, 1), (Reg.SPN_STAT.NOT_READY, 1)] s) :=
    (Spares.refl s).puts (by simpa using ⟨spared_of_mem h (by simp [restartFields]), spared_of_mem h (by simp [restartFields])⟩)
  exact .ite pending ((Spares.refl s).setSpn _)

theorem notReady_needRestart (h : get Reg.SPN_STAT.NOT_READY s = 1) : get Reg.SPN_STAT.NOT_READY (needRestart s) = 1 := by
  unfold needRestart
  split
  · exact get_put_self ..
  · exact h

end Transition

end Sys2Proof.Machine

namespace Sys2Proof.Machine

open Sys2Proof

/-! ### The spindle starts (R101 to R105) -/

section Start

variable {s t : State}

/-- A row that does no more than move the spindle, from a state that differs within its blocks. -/
theorem Gives.spnGo {i : Instr} {new : Nat} (h : exec i s = .next (spnGo new t)) (frame : Spares diskKeys s t) (hn : new < 16 := by decide) :
    Gives i s (fun u => get Reg.SPN_STAT.STATE u = new ∧ OnlyBlocks [0, 4, 5, 6, 7] s u ∧ SameMem s u) :=
  .of_next h ⟨state_spnGo hn t, (spnGo_disk frame new).disk⟩

/-- A start is counted, with the effective target in force. -/
def startTaken (s : State) : State := bump Reg.SPN_START_CNT.STARTS (setTarget (effTarget s) s)

theorem startTaken_disk (s : State) : Spares diskKeys s (startTaken s) :=
  have targeted : Spares diskKeys s (setTarget (effTarget s) s) := (Spares.refl s).setSpn _
  targeted.bump (by decide)

theorem starts_startTaken (s : State) :
    get Reg.SPN_START_CNT.STARTS (startTaken s) = (get Reg.SPN_START_CNT.STARTS s + 1) % 2 ^ Reg.SPN_START_CNT.STARTS.width := get_put_self ..

theorem state_startTaken (s : State) : get Reg.SPN_STAT.STATE (startTaken s) = get Reg.SPN_STAT.STATE s := get_put_ne (by decide) ..

/-- The spindle's state from which a start goes to MEASURE. -/
abbrev StartsFresh (s : State) : Prop :=
  get Reg.SPN_STAT.STATE s = 0 ∨ (get Reg.SPN_STAT.STATE s = 13 ∧ s.spn.rearmed = true)
    ∨ (get Reg.SPN_STAT.STATE s = 10 ∧ get Reg.SPN_STAT.RESTART_PEND s = 0)

theorem exec_spnStartCommand (h : s.spn.target = 0 ∧ effTarget s ≠ 0 ∧ s.boot.spinHeld = false) : exec .spnStartCommand s = .next
    (if StartsFresh s then spnGo 1 (setSpn { (startTaken s).spn with noRestart := false } (startTaken s))
     else if get Reg.SPN_STAT.STATE s = 9 then spnGo 6 (startTaken s)
     else setSpn { (startTaken s).spn with startAt := tmpCount s } (startTaken s)) := occurs_of h

theorem spnStartCommand_counts (h0 : s.spn.target = 0) (he : effTarget s ≠ 0) (hb : s.boot.spinHeld = false) :
    Gives (.spnStartCommand) s (fun t =>
      get Reg.SPN_START_CNT.STARTS t = (get Reg.SPN_START_CNT.STARTS s + 1) % 2 ^ Reg.SPN_START_CNT.STARTS.width ∧
      t.spn.target = effTarget s ∧
      (get Reg.SPN_STAT.STATE t = (if StartsFresh s then 1 else if get Reg.SPN_STAT.STATE s = 9 then 6 else get Reg.SPN_STAT.STATE s)) ∧
      OnlyBlocks [0, 4, 5, 6, 7] s t ∧
      SameMem s t) := by
  have taken := startTaken_disk s
  have counted := starts_startTaken s
  refine .of_next (exec_spnStartCommand ⟨h0, he, hb⟩) ?_
  split
  · exact ⟨(get_spnGo (by decide) ..).trans counted, target_spnGo .., state_spnGo .., (spnGo_disk (taken.setSpn _) 1).disk⟩
  · split
    · exact ⟨(get_spnGo (by decide) ..).trans counted, target_spnGo .., state_spnGo .., (spnGo_disk taken 6).disk⟩
    · exact ⟨counted, rfl, state_startTaken s, (taken.setSpn _).disk⟩

/-! The measurement (R101, R102) -/

/-- The measurement is shown. -/
def measureShown (b : Bool) (v : Nat) (s : State) : State :=
  puts [(Reg.SPN_SPEED.SPEED, measured v s), (Reg.SPN_SPEED.BACKWARD, b2n b), (Reg.SPN_STAT.REVERSE, b2n b)] s

section Measure

variable (b : Bool) (v : Nat) (s : State)

theorem measureShown_disk : Spares diskKeys s (measureShown b v s) := (Spares.refl s).puts (by simp; decide)

theorem measureShown_wrote : Wrote [(Reg.SPN_SPEED.SPEED, measured v s), (Reg.SPN_SPEED.BACKWARD, b2n b), (Reg.SPN_STAT.REVERSE, b2n b)] s
    (measureShown b v s) := rfl

theorem measure_keys : ([Reg.SPN_SPEED.SPEED, Reg.SPN_SPEED.BACKWARD, Reg.SPN_STAT.REVERSE].map Fld.key).Nodup := by decide

theorem speed_measureShown : get Reg.SPN_SPEED.SPEED (measureShown b v s) = measured v s % 2 ^ Reg.SPN_SPEED.SPEED.width :=
  (measureShown_wrote b v s).get_mem measure_keys (by simp)

theorem backward_measureShown : get Reg.SPN_SPEED.BACKWARD (measureShown b v s) = b2n b := by
  refine ((measureShown_wrote b v s).get_mem measure_keys (v := b2n b) (by simp)).trans ?_
  cases b <;> rfl

theorem reverse_measureShown : get Reg.SPN_STAT.REVERSE (measureShown b v s) = b2n b := by
  refine ((measureShown_wrote b v s).get_mem measure_keys (v := b2n b) (by simp)).trans ?_
  cases b <;> rfl

theorem state_measureShown : get Reg.SPN_STAT.STATE (measureShown b v s) = get Reg.SPN_STAT.STATE s :=
  (measureShown_wrote b v s).get_ne (by simp; decide)

end Measure

theorem below_eq_false {v pct : Nat} : below v pct s = false ↔ 4 * pct * get Reg.SPN_TARGET.RPM s ≤ v * 100 := by simp [below]
theorem below_eq_true {v pct : Nat} : below v pct s = true ↔ v * 100 < 4 * pct * get Reg.SPN_TARGET.RPM s := by simp [below]

/-- A speed of 1 % or more reads as it is. -/
theorem measured_of_le {v : Nat} (h : 4 * get Reg.SPN_TARGET.RPM s ≤ 100 * v) : measured v s = v := if_neg (by omega)

theorem measured_le (v : Nat) (s : State) : measured v s ≤ v := by
  unfold measured
  split <;> omega

/-- MEASURE ends by direction and speed (R98). -/
theorem exec_spnMeasureEnd {b : Bool} {v a : Nat} (h : get Reg.SPN_STAT.STATE s = 1 ∧ 800 ≤ s.spn.tempos) :
    exec (.spnMeasureEnd b v a) s = .next
      (if b = false ∧ below (measured v s) 5 s = false then
         spnGo 6 (bump Reg.SPN_START_CNT.CATCHES (setSpn { (measureShown b v s).spn with angle := a } (measureShown b v s)))
       else if b = true ∧ below (measured v s) 1 s = false then spnGo 2 (measureShown b v s)
       else spnGo 3 (measureShown b v s)) := occurs_of h

/-- A rotor that is caught: counted, with the observer at its angle. -/
def caught (v a : Nat) (s : State) : State :=
  bump Reg.SPN_START_CNT.CATCHES (setSpn { (measureShown false v s).spn with angle := a } (measureShown false v s))

theorem get_caught {f : Fld} (hf : f.key ≠ Reg.SPN_START_CNT.CATCHES.key) (v a : Nat) (s : State) :
    get f (caught v a s) = get f (measureShown false v s) := by rw [caught, bump, get_put_ne hf, get_setSpn]

theorem spnMeasureEnd_catches {v : Nat} (a : Nat) (hs : get Reg.SPN_STAT.STATE s = 1) (ht : 800 ≤ s.spn.tempos)
    (hv : 20 * get Reg.SPN_TARGET.RPM s ≤ 100 * v) (hw : v < 2 ^ Reg.SPN_SPEED.SPEED.width) :
    Gives (.spnMeasureEnd false v a) s (fun t =>
      get Reg.SPN_STAT.STATE t = 6 ∧
      get Reg.SPN_SPEED.SPEED t = v ∧
      get Reg.SPN_SPEED.BACKWARD t = 0 ∧
      t.spn.angle = a ∧
      t.spn.profile = 50000 * (v : Int) ∧
      get Reg.SPN_START_CNT.CATCHES t = (get Reg.SPN_START_CNT.CATCHES s + 1) % 2 ^ Reg.SPN_START_CNT.CATCHES.width ∧
      OnlyBlocks [0, 4, 5, 6, 7] s t ∧
      SameMem s t) := by
  have asIs : measured v s = v := measured_of_le (by omega)
  have fast : below (measured v s) 5 s = false := by rw [asIs, below_eq_false]; omega
  have speed : get Reg.SPN_SPEED.SPEED (caught v a s) = v := by
    rw [get_caught (by decide), speed_measureShown, asIs, Nat.mod_eq_of_lt hw]
  have state : spnState (caught v a s) = 1 := by rw [spnState, get_caught (by decide), state_measureShown, hs]
  have count : get Reg.SPN_START_CNT.CATCHES (measureShown false v s) = get Reg.SPN_START_CNT.CATCHES s :=
    (measureShown_wrote false v s).get_ne (by simp; decide)
  have counted : get Reg.SPN_START_CNT.CATCHES (caught v a s) = (get Reg.SPN_START_CNT.CATCHES s + 1) % 2 ^ Reg.SPN_START_CNT.CATCHES.width := by
    rw [caught, bump, get_put_self, get_setSpn, count]
  have frame : Spares diskKeys s (caught v a s) := ((measureShown_disk false v s).setSpn _).bump (by decide)
  refine .of_next ((exec_spnMeasureEnd ⟨hs, ht⟩).trans (congrArg _ (if_pos ⟨rfl, fast⟩))) ?_
  refine ⟨state_spnGo .., (get_spnGo (by decide) ..).trans speed, ?_, ?_, ?_, (get_spnGo (by decide) ..).trans counted,
    (spnGo_disk frame 6).disk⟩
  · exact ((get_spnGo (by decide) ..).trans (get_caught (by decide) ..)).trans (backward_measureShown false v s)
  · rw [spn_spnGo, spnEnter_angle]
    rfl
  · change (Machine.spnGo 6 (caught v a s)).spn.profile = _
    rw [spn_spnGo, state, speed]
    exact spnEnter_profile (by decide) (by decide) ..

theorem spnMeasureEnd_brakesBack {v : Nat} (a : Nat) (hs : get Reg.SPN_STAT.STATE s = 1) (ht : 800 ≤ s.spn.tempos)
    (hv : 4 * get Reg.SPN_TARGET.RPM s ≤ 100 * v) (hw : v < 2 ^ Reg.SPN_SPEED.SPEED.width) :
    Gives (.spnMeasureEnd true v a) s (fun t =>
      get Reg.SPN_STAT.STATE t = 2 ∧
      get Reg.SPN_SPEED.BACKWARD t = 1 ∧
      get Reg.SPN_STAT.REVERSE t = 1 ∧
      get Reg.SPN_SPEED.SPEED t = v ∧
      OnlyBlocks [0, 4, 5, 6, 7] s t ∧
      SameMem s t) := by
  have asIs : measured v s = v := measured_of_le hv
  have fast : below (measured v s) 1 s = false := by rw [asIs, below_eq_false]; omega
  have speed : get Reg.SPN_SPEED.SPEED (measureShown true v s) = v := by rw [speed_measureShown, asIs, Nat.mod_eq_of_lt hw]
  exact .of_next ((exec_spnMeasureEnd ⟨hs, ht⟩).trans (congrArg _ ((if_neg (by simp)).trans (if_pos ⟨rfl, fast⟩))))
    ⟨state_spnGo .., (get_spnGo (by decide) ..).trans (backward_measureShown true v s),
      (get_spnGo (by decide) ..).trans (reverse_measureShown true v s), (get_spnGo (by decide) ..).trans speed,
      (spnGo_disk (measureShown_disk true v s) 2).disk⟩

theorem spnMeasureEnd_aligns {b : Bool} {v : Nat} (a : Nat) (hs : get Reg.SPN_STAT.STATE s = 1) (ht : 800 ≤ s.spn.tempos)
    (hv : 100 * v < (if b = true then 4 else 20) * get Reg.SPN_TARGET.RPM s) (hw : v < 2 ^ Reg.SPN_SPEED.SPEED.width) :
    Gives (.spnMeasureEnd b v a) s (fun t =>
      get Reg.SPN_STAT.STATE t = 3 ∧
      (get Reg.SPN_SPEED.SPEED t = (if 1000 * v < 20 * get Reg.SPN_TARGET.RPM s then 0 else v)) ∧
      get Reg.SPN_STAT.REVERSE t = b2n b ∧
      OnlyBlocks [0, 4, 5, 6, 7] s t ∧
      SameMem s t) := by
  have low := measured_le v s
  have notCaught : ¬(b = false ∧ below (measured v s) 5 s = false) := by
    rintro ⟨rfl, h⟩
    rw [below_eq_false] at h
    rw [if_neg Bool.false_ne_true] at hv
    omega
  have notBack : ¬(b = true ∧ below (measured v s) 1 s = false) := by
    rintro ⟨rfl, h⟩
    rw [below_eq_false] at h
    rw [if_pos rfl] at hv
    omega
  have speed : get Reg.SPN_SPEED.SPEED (measureShown b v s) = if 1000 * v < 20 * get Reg.SPN_TARGET.RPM s then 0 else v := by
    rw [speed_measureShown, Nat.mod_eq_of_lt (by omega), measured, Nat.mul_comm v 1000]
  exact .of_next ((exec_spnMeasureEnd ⟨hs, ht⟩).trans (congrArg _ ((if_neg notCaught).trans (if_neg notBack))))
    ⟨state_spnGo .., (get_spnGo (by decide) ..).trans speed, (get_spnGo (by decide) ..).trans (reverse_measureShown b v s),
      (spnGo_disk (measureShown_disk b v s) 3).disk⟩

end Start

/-- Settles O17: each row shows what it has measured or counted and then goes to its state, which spares those fields. -/
theorem spindleStartsAndHandsOver : Obligations.SpindleStartsAndHandsOver := by
  unfold Obligations.SpindleStartsAndHandsOver
  refine ⟨fun _ h0 he hb => spnStartCommand_counts h0 he hb, fun _ a _ hs ht hv hw => spnMeasureEnd_catches a hs ht hv hw,
    fun _ a _ hs ht hv hw => spnMeasureEnd_brakesBack a hs ht hv hw, fun _ _ a _ hs ht hv hw => spnMeasureEnd_aligns a hs ht hv hw,
    ?backbrake, ?align, ?ramp, ?converged, ?fail, ?run⟩
  case backbrake =>
    intro s hs hv
    exact .spnGo (occurs_of ⟨hs, by rw [below_eq_true]; omega⟩) (.refl s)
  case align =>
    intro s hs ht
    refine .of_next (occurs_of ⟨hs, ht⟩) ⟨state_spnGo .., ?_, (spnGo_disk (.refl s) 4).disk⟩
    rw [spn_spnGo]
    simp [spnEnter]
  case ramp => exact fun s hs hv => .spnGo (occurs_of ⟨hs, hv⟩) (.refl s)
  case converged =>
    intro s hs hc
    refine .of_next (occurs_of ⟨hs, hc⟩) ⟨state_spnGo .., ?_, (spnGo_disk (.refl s) 6).disk⟩
    rw [spn_spnGo, spnState, hs]
    exact spnEnter_profile (by decide) (by decide) ..
  case fail =>
    intro s hs hv
    have failed : Spares diskKeys s (put Reg.SPN_FAULT.START_FAIL 1 s) := (Spares.refl s).put (by decide) 1
    have kept : get Reg.SPN_FAULT.START_FAIL (needRestart (put Reg.SPN_FAULT.START_FAIL 1 s)) = 1 :=
      ((needRestart_spares (keep := (· == Reg.SPN_FAULT.START_FAIL.key)) (by decide) _).fields _ (by decide)).trans (get_put_self ..)
    exact .of_next (occurs_of ⟨hs, by omega⟩) ⟨state_spnGo .., (get_spnGo (by decide) ..).trans kept,
      (spnGo_disk (failed.trans (needRestart_spares (by decide) _)) 10).disk⟩
  case run =>
    intro s hs hb
    exact .of_next (occurs_of ⟨hs, hb⟩) ⟨state_spnGo .., lock_spnGo_run s, notReady_spnGo_run s, (spnGo_disk (.refl s) 7).disk⟩

end Sys2Proof.Machine

namespace Sys2Proof.Machine

open Sys2Proof

/-! ### Targets, the curve, stops and restarts (R96 to R99, R114 to R116) -/

section Stop

variable {s : State}

/-- An evaluation of the curve leaves the fields that no curve shows. -/
theorem get_evalCurve {f : Fld} (hl : f.key ≠ Reg.SPN_CURVE_STAT.ON_LEVEL.key) (hb : f.key ≠ Reg.SPN_CURVE_STAT.BAD.key) (s : State) :
    get f (evalCurve s) = get f s :=
  (evalCurve_spares (keep := (· == f.key)) (by simpa using hl.symm) (by simpa using hb.symm) s).fields f (by simp)

/-- An evaluation of the curve waits for the next tempo (R114). -/
theorem curveNext_evalCurve (s : State) : (evalCurve s).spn.curveNext.isSome = true := by
  unfold evalCurve
  dsimp only
  split
  · rfl
  · split <;> rfl

theorem evalCurve_disk {s t : State} (h : Spares diskKeys s t) : Spares diskKeys s (evalCurve t) :=
  h.trans (evalCurve_spares (by decide) (by decide) t)

/-- A speed that R97 names. -/
abbrev NamedSpeed (v : Nat) : Prop := v = 5000 ∨ v = 6000 ∨ v = 7500 ∨ v = 10000

theorem exec_spnTargetWrite {v : Nat} (hv : v < 2 ^ 16) : exec (.spnTargetWrite v) s = .next
    (if ¬NamedSpeed v then post 0x120 0 (bytesOf 2 v) s
     else if effTarget s = get Reg.SPN_TARGET.RPM s ∧ get Reg.SPN_STAT.STATE s ≠ 0 then s
     else evalCurve (put Reg.SPN_TARGET.RPM v s)) := by
  have whole : bits v 0 16 = v := by rw [bits, Nat.pow_zero, Nat.div_one, Nat.mod_eq_of_lt hv]
  rw [show exec (.spnTargetWrite v) s = execSpnTargetWrite v s from rfl, execSpnTargetWrite, whole]
  simp only [NamedSpeed, not_or]
  rfl

theorem spnTargetWrite_stores {v : Nat} (hv : NamedSpeed v) (hn : effTarget s ≠ get Reg.SPN_TARGET.RPM s ∨ get Reg.SPN_STAT.STATE s = 0) :
    Gives (.spnTargetWrite v) s (fun t =>
      get Reg.SPN_TARGET.RPM t = v ∧
      OnlyBlocks [0, 4, 5, 6, 7] s t ∧
      SameMem s t) := by
  have fits : v < 2 ^ 16 := by omega
  have written : Spares diskKeys s (put Reg.SPN_TARGET.RPM v s) := (Spares.refl s).put (by decide) v
  refine .of_next ((exec_spnTargetWrite fits).trans (congrArg _ ((if_neg (not_not.2 hv)).trans (if_neg (by omega))))) ⟨?_, (evalCurve_disk written).disk⟩
  rw [get_evalCurve (by decide) (by decide), get_put_self]
  exact Nat.mod_eq_of_lt fits

theorem spnTargetWrite_ignores {v : Nat} (hv : v < 2 ^ 16)
    (hn : ¬NamedSpeed v ∨ (effTarget s = get Reg.SPN_TARGET.RPM s ∧ get Reg.SPN_STAT.STATE s ≠ 0)) :
    Gives (.spnTargetWrite v) s (fun t =>
      get Reg.SPN_TARGET.RPM t = get Reg.SPN_TARGET.RPM s ∧
      OnlyBlocks [0, 4, 5, 6, 7] s t ∧
      SameMem s t) := by
  by_cases h : NamedSpeed v
  · exact .of_next ((exec_spnTargetWrite hv).trans (congrArg _ ((if_neg (not_not.2 h)).trans (if_pos (hn.resolve_left (not_not.2 h))))))
      ⟨rfl, (Spares.refl s).disk⟩
  · exact .of_next ((exec_spnTargetWrite hv).trans (congrArg _ (if_pos h))) ⟨rfl, ((Spares.refl s).post ..).disk⟩

theorem plevelWrite_evaluates (v : Nat) (s : State) :
    Gives (.plevelWrite v) s (fun t =>
      get Reg.SPN_CTL.PLEVEL t = v % 256 ∧
      t.spn.curveNext.isSome = true ∧
      OnlyBlocks [0, 4, 5, 6, 7] s t ∧
      SameMem s t) := by
  have written : Spares diskKeys s (put Reg.SPN_CTL.PLEVEL v s) := (Spares.refl s).put (by decide) v
  exact .of_next rfl ⟨(get_evalCurve (by decide) (by decide) _).trans (get_put_self ..), curveNext_evalCurve _, (evalCurve_disk written).disk⟩

theorem exec_spnStopCommand (h : effTarget s = 0 ∧ (s.spn.target ≠ 0 ∨ (3 ≤ get Reg.SPN_STAT.STATE s ∧ get Reg.SPN_STAT.STATE s ≤ 7))) :
    exec .spnStopCommand s = .next
      (if 3 ≤ get Reg.SPN_STAT.STATE s ∧ get Reg.SPN_STAT.STATE s ≤ 5 then spnGo 10 (setTarget 0 s)
       else if get Reg.SPN_STAT.STATE s = 6 ∨ get Reg.SPN_STAT.STATE s = 7 then spnGo 9 (setTarget 0 s)
       else setTarget 0 s) := occurs_of h

theorem spnStopCommand_stops (h : effTarget s = 0 ∧ (s.spn.target ≠ 0 ∨ (3 ≤ get Reg.SPN_STAT.STATE s ∧ get Reg.SPN_STAT.STATE s ≤ 7))) :
    Gives (.spnStopCommand) s (fun t =>
      t.spn.target = 0 ∧
      (get Reg.SPN_STAT.STATE t = (if 3 ≤ get Reg.SPN_STAT.STATE s ∧ get Reg.SPN_STAT.STATE s ≤ 5 then 10 else if get Reg.SPN_STAT.STATE s = 6 ∨ get Reg.SPN_STAT.STATE s = 7 then 9 else get Reg.SPN_STAT.STATE s)) ∧
      OnlyBlocks [0, 4, 5, 6, 7] s t ∧
      SameMem s t) := by
  have stopped : Spares diskKeys s (setTarget 0 s) := (Spares.refl s).setSpn _
  refine .of_next (exec_spnStopCommand h) ?_
  split
  · exact ⟨target_spnGo .., state_spnGo .., (spnGo_disk stopped 10).disk⟩
  · split
    · exact ⟨target_spnGo .., state_spnGo .., (spnGo_disk stopped 9).disk⟩
    · exact ⟨rfl, rfl, stopped.disk⟩

/-! SPN_CTL.RESTART (R98, R99) -/

/-- RESTART clears FAULT, the attempts and itself. -/
def restartCleared (s : State) : State :=
  hostEdge s (puts [(Reg.SPN_FAULT.FAULT, 0), (Reg.SPN_STAT.ATTEMPTS, 0), (Reg.SPN_CTL.RESTART, 0)] s)

theorem restartCleared_wrote (s : State) :
    Wrote [(Reg.SPN_FAULT.FAULT, 0), (Reg.SPN_STAT.ATTEMPTS, 0), (Reg.SPN_CTL.RESTART, 0)] s (restartCleared s) := hostEdge_regs ..

theorem restart_keys : ([Reg.SPN_FAULT.FAULT, Reg.SPN_STAT.ATTEMPTS, Reg.SPN_CTL.RESTART].map Fld.key).Nodup := by decide

theorem restartCleared_disk (s : State) : Spares diskKeys s (restartCleared s) :=
  have cleared : Spares diskKeys s (puts [(Reg.SPN_FAULT.FAULT, 0), (Reg.SPN_STAT.ATTEMPTS, 0), (Reg.SPN_CTL.RESTART, 0)] s) :=
    (Spares.refl s).puts (by decide)
  cleared.told (hostEdge_regs ..) (hostEdge_onlyEvents ..)

theorem attempts_restartCleared (s : State) : get Reg.SPN_STAT.ATTEMPTS (restartCleared s) = 0 :=
  (restartCleared_wrote s).get_mem restart_keys (v := 0) (by simp)

theorem fault_restartCleared (s : State) : get Reg.SPN_FAULT.FAULT (restartCleared s) = 0 :=
  (restartCleared_wrote s).get_mem restart_keys (v := 0) (by simp)

theorem state_restartCleared (s : State) : get Reg.SPN_STAT.STATE (restartCleared s) = get Reg.SPN_STAT.STATE s :=
  (restartCleared_wrote s).get_ne (by decide)

theorem exec_spnRestart (s : State) : exec .spnRestart s = .next
    (if get Reg.SPN_STAT.STATE s = 13 then
       (if effTarget s = 0 then setSpn { (restartCleared s).spn with rearmed := true } (restartCleared s)
        else spnGo 1 (bump Reg.SPN_START_CNT.STARTS (setTarget (effTarget s) (restartCleared s))))
     else restartCleared s) := rfl

theorem spnRestart_starts (hs : get Reg.SPN_STAT.STATE s = 13) (he : effTarget s ≠ 0) :
    Gives (.spnRestart) s (fun t =>
      get Reg.SPN_STAT.STATE t = 1 ∧
      get Reg.SPN_STAT.ATTEMPTS t = 0 ∧
      get Reg.SPN_START_CNT.STARTS t = (get Reg.SPN_START_CNT.STARTS s + 1) % 2 ^ Reg.SPN_START_CNT.STARTS.width ∧
      OnlyBlocks [0, 4, 5, 6, 7] s t ∧
      SameMem s t) := by
  have targeted : Spares diskKeys s (setTarget (effTarget s) (restartCleared s)) := (restartCleared_disk s).setSpn _
  have wrote : Wrote _ s (setTarget (effTarget s) (restartCleared s)) := restartCleared_wrote s
  have counted := wrote.bump (f := Reg.SPN_START_CNT.STARTS) (by decide)
  have keys : ([Reg.SPN_FAULT.FAULT, Reg.SPN_STAT.ATTEMPTS, Reg.SPN_CTL.RESTART, Reg.SPN_START_CNT.STARTS].map Fld.key).Nodup := by decide
  exact .of_next ((exec_spnRestart s).trans (congrArg _ ((if_pos hs).trans (if_neg he))))
    ⟨state_spnGo .., (get_spnGo (by decide) ..).trans (counted.get_mem keys (v := 0) (by simp)),
      (get_spnGo (by decide) ..).trans (counted.get_mem keys (by simp)), (spnGo_disk (targeted.bump (by decide)) 1).disk⟩

theorem spnRestart_rearms (hs : get Reg.SPN_STAT.STATE s = 13) (he : effTarget s = 0) :
    Gives (.spnRestart) s (fun t =>
      get Reg.SPN_STAT.STATE t = 13 ∧
      get Reg.SPN_STAT.ATTEMPTS t = 0 ∧
      get Reg.SPN_FAULT.FAULT t = 0 ∧
      t.spn.rearmed = true ∧
      OnlyBlocks [0, 4, 5, 6, 7] s t ∧
      SameMem s t) :=
  .of_next ((exec_spnRestart s).trans (congrArg _ ((if_pos hs).trans (if_pos he))))
    ⟨(state_restartCleared s).trans hs, attempts_restartCleared s, fault_restartCleared s, rfl, ((restartCleared_disk s).setSpn _).disk⟩

theorem spnRestart_clears (hs : get Reg.SPN_STAT.STATE s ≠ 13) :
    Gives (.spnRestart) s (fun t =>
      get Reg.SPN_STAT.ATTEMPTS t = 0 ∧
      get Reg.SPN_FAULT.FAULT t = 0 ∧
      get Reg.SPN_STAT.STATE t = get Reg.SPN_STAT.STATE s ∧
      OnlyBlocks [0, 4, 5, 6, 7] s t ∧
      SameMem s t) :=
  .of_next ((exec_spnRestart s).trans (congrArg _ (if_neg hs)))
    ⟨attempts_restartCleared s, fault_restartCleared s, state_restartCleared s, (restartCleared_disk s).disk⟩

/-! Braking, stopping, restarting (R98, R99, R104, R115, R116) -/

theorem exec_spnStopped (h : get Reg.SPN_STAT.STATE s = 10 ∧ 200000 ≤ s.spn.lowRow) : exec .spnStopped s = .next
    (if get Reg.SPN_STAT.RESTART_PEND s = 1 ∨ s.spn.noRestart = true then restartWait (put Reg.SPN_SPEED.BACKWARD 0 s)
     else spnGo 0 (put Reg.SPN_SPEED.BACKWARD 0 s)) := occurs_of h

theorem spnStopped_rests (h : get Reg.SPN_STAT.STATE s = 10 ∧ 200000 ≤ s.spn.lowRow) :
    Gives (.spnStopped) s (fun t =>
      get Reg.SPN_SPEED.BACKWARD t = 0 ∧
      (get Reg.SPN_STAT.STATE t = (if get Reg.SPN_STAT.RESTART_PEND s = 1 then 12 else if s.spn.noRestart = true then 13 else 0)) ∧
      OnlyBlocks [0, 4, 5, 6, 7] s t ∧
      SameMem s t) := by
  have shown : Spares diskKeys s (put Reg.SPN_SPEED.BACKWARD 0 s) := (Spares.refl s).put (by decide) 0
  have still : get Reg.SPN_SPEED.BACKWARD (put Reg.SPN_SPEED.BACKWARD 0 s) = 0 := get_put_self ..
  have pend : get Reg.SPN_STAT.RESTART_PEND (put Reg.SPN_SPEED.BACKWARD 0 s) = get Reg.SPN_STAT.RESTART_PEND s := get_put_ne (by decide) ..
  refine .of_next (exec_spnStopped h) ?_
  rw [restartWait, pend]
  by_cases hp : get Reg.SPN_STAT.RESTART_PEND s = 1
  · rw [if_pos (.inl hp), if_pos hp, if_pos hp]
    exact ⟨(get_spnGo (by decide) ..).trans still, state_spnGo .., (spnGo_disk shown 12).disk⟩
  · by_cases hr : s.spn.noRestart = true
    · rw [if_pos (.inr hr), if_neg hp, if_neg hp, if_pos hr]
      exact ⟨(get_spnGo_fault (by decide) _).trans still, state_spnGo .., (spnGo_disk shown 13).disk⟩
    · rw [if_neg (not_or.2 ⟨hp, hr⟩), if_neg hp, if_neg hr]
      exact ⟨(get_spnGo (by decide) ..).trans still, state_spnGo .., (spnGo_disk shown 0).disk⟩

/-- A restart is an attempt at the effective target, and none is pending any more. -/
def attempted (s : State) : State :=
  bump Reg.SPN_STAT.ATTEMPTS (put Reg.SPN_STAT.RESTART_PEND 0 (setTarget (effTarget s) s))

theorem attempted_wrote (s : State) :
    Wrote [(Reg.SPN_STAT.RESTART_PEND, 0), (Reg.SPN_STAT.ATTEMPTS, get Reg.SPN_STAT.ATTEMPTS s + 1)] s (attempted s) := by
  have targeted : Wrote [] s (setTarget (effTarget s) s) := rfl
  exact (targeted.put Reg.SPN_STAT.RESTART_PEND 0).bump (by decide)

theorem attempted_disk (s : State) : Spares diskKeys s (attempted s) :=
  have targeted : Spares diskKeys s (setTarget (effTarget s) s) := (Spares.refl s).setSpn _
  (targeted.put (f := Reg.SPN_STAT.RESTART_PEND) (by decide) 0).bump (by decide)

theorem exec_spnRestartDelayEnd (h : get Reg.SPN_STAT.STATE s = 12 ∧ 200 * get Reg.SPN_RESTART.DELAY_MS s ≤ tmpCount s - s.spn.delayAt
      ∧ (s.spn.linkWait = true → (stgOf 0 s).safe = false) ∧ (s.spn.underWait = true → 20000 ≤ tmpCount s - s.spn.clearAt)) :
    exec .spnRestartDelayEnd s = .next
      (spnGo 1 (setSpn { (attempted s).spn with linkWait := false, underWait := false } (attempted s))) := occurs_of h

theorem spnRestartDelayEnd_measures (h : get Reg.SPN_STAT.STATE s = 12 ∧ 200 * get Reg.SPN_RESTART.DELAY_MS s ≤ tmpCount s - s.spn.delayAt
      ∧ (s.spn.linkWait = true → (stgOf 0 s).safe = false) ∧ (s.spn.underWait = true → 20000 ≤ tmpCount s - s.spn.clearAt)) :
    Gives (.spnRestartDelayEnd) s (fun t =>
      get Reg.SPN_STAT.STATE t = 1 ∧
      get Reg.SPN_STAT.ATTEMPTS t = (get Reg.SPN_STAT.ATTEMPTS s + 1) % 2 ^ Reg.SPN_STAT.ATTEMPTS.width ∧
      get Reg.SPN_STAT.RESTART_PEND t = 0 ∧
      OnlyBlocks [0, 4, 5, 6, 7] s t ∧
      SameMem s t) := by
  have keys : ([Reg.SPN_STAT.RESTART_PEND, Reg.SPN_STAT.ATTEMPTS].map Fld.key).Nodup := by decide
  have attempts := (attempted_wrote s).get_mem keys (f := Reg.SPN_STAT.ATTEMPTS) (v := get Reg.SPN_STAT.ATTEMPTS s + 1) (by simp)
  have pend := (attempted_wrote s).get_mem keys (f := Reg.SPN_STAT.RESTART_PEND) (v := 0) (by simp)
  exact .of_next (exec_spnRestartDelayEnd h) ⟨state_spnGo .., (get_spnGo (by decide) ..).trans attempts,
    (get_spnGo (by decide) ..).trans pend, (spnGo_disk ((attempted_disk s).setSpn _) 1).disk⟩

end Stop

/-- Settles O18: each row writes its fields, then the curve is evaluated or the spindle goes to its state, which spare them. -/
theorem spindleTargetsAndStops : Obligations.SpindleTargetsAndStops := by
  unfold Obligations.SpindleTargetsAndStops
  refine ⟨fun _ _ hv hn => spnTargetWrite_stores hv hn, fun v _ hv hn => spnTargetWrite_ignores hv (hn.imp_left (by omega)),
    plevelWrite_evaluates, fun _ he ht => spnStopCommand_stops ⟨he, ht⟩, fun _ hs he => spnRestart_starts hs he,
    fun _ hs he => spnRestart_rearms hs he, fun _ hs => spnRestart_clears hs, ?timeout, ?short, fun _ hs hl => spnStopped_rests ⟨hs, hl⟩,
    fun _ hs hd hl hu => spnRestartDelayEnd_measures ⟨hs, hd, hl, hu⟩, ?attempts⟩
  case timeout =>
    intro s hs ht
    have late : tempos (1000 * get Reg.SPN_TIMEOUT.START_S s) ≤ tmpCount s - s.spn.startAt := by rw [tempos]; omega
    have shown : Spares diskKeys s (put Reg.SPN_FAULT.TIMEOUT 1 s) := (Spares.refl s).put (by decide) 1
    have kept : get Reg.SPN_FAULT.TIMEOUT (needRestart (put Reg.SPN_FAULT.TIMEOUT 1 s)) = 1 :=
      ((needRestart_spares (keep := (· == Reg.SPN_FAULT.TIMEOUT.key)) (by decide) _).fields _ (by decide)).trans (get_put_self ..)
    exact .of_next (occurs_of ⟨hs, late⟩) ⟨state_spnGo .., (get_spnGo (by decide) ..).trans kept,
      (spnGo_disk (shown.trans (needRestart_spares (by decide) _)) 9).disk⟩
  case short =>
    intro s hs hv
    have slow : below (get Reg.SPN_SPEED.SPEED s) (get Reg.SPN_BRAKE.SHORT_PCT s) s = true := by
      rw [below_eq_true, Nat.mul_comm (get Reg.SPN_SPEED.SPEED s)]
      exact hv
    exact .spnGo (occurs_of ⟨hs, slow⟩) (.refl s)
  case attempts =>
    intro s hs hl ht
    have held : tempos (1000 * get Reg.SPN_RESTART.HOLD_S s) ≤ s.spn.tempos := by rw [tempos]; omega
    have cleared : Spares diskKeys s (put Reg.SPN_STAT.ATTEMPTS 0 s) := (Spares.refl s).put (by decide) 0
    exact .of_next (occurs_of ⟨hs, hl, held⟩) ⟨(get_put_ne (by decide) ..).trans hs, get_put_self .., cleared.disk⟩

end Sys2Proof.Machine

namespace Sys2Proof.Machine

open Sys2Proof

/-! ### The permits fall at the output write (R107, R109) -/

theorem actOf_setSpn (a : Nat) (r : SpnSt) (s : State) : actOf a (setSpn r s) = actOf a s := rfl
theorem actOf_put (a : Nat) (f : Fld) (v : Nat) (s : State) : actOf a (put f v s) = actOf a s := rfl

section FallLater

variable {a : Nat} (ha : a < 2)
include ha

/-- Both permits of each actuator are to fall; a hard fall stands over a soft one. -/
theorem fallPend_allFallLater (b : Bool) (s : State) :
    (actOf a (allFallLater b s)).fallPend = some (b || (actOf a s).fallPend == some true) := by
  unfold allFallLater fallLater
  obtain rfl | rfl : a = 0 ∨ a = 1 := by omega
  · simp [actOf, setAct, AMap.getD_insert_ne]
  · simp [actOf, setAct, AMap.getD_insert_ne]

theorem fallPend_lockFalls (s : State) : (actOf a (lockFalls s)).fallPend = some (false || (actOf a s).fallPend == some true) := by
  rw [← fallPend_allFallLater ha, lockFalls, actOf, linePost_onlyEvents]
  rfl

theorem fallPend_unlock_hard {s : State} (h : (actOf a s).fallPend = some true) : (actOf a (unlock s)).fallPend = some true := by
  rw [unlock, actOf_put]
  split
  · rw [fallPend_lockFalls ha, h]
    rfl
  · exact h

/-- A hard fall stays pending as the spindle goes to REACQ. -/
theorem fallPend_spnGo_reacq {s : State} (h : (actOf a s).fallPend = some true) : (actOf a (spnGo 8 s)).fallPend = some true := by
  have moved : spnGo 8 s = spnMoved 8 s := by simp [spnGo_eq, spnEntered, actOnSpindle]
  have kept : (spnMoved 8 s).act = (unlock s).act := by
    unfold spnMoved setSpn
    dsimp only
    rw [putIf_onlyRegisters]
    rfl
  rw [moved, actOf, kept]
  exact fallPend_unlock_hard ha h

end FallLater

/-! ### The lock, the loss of the observer and the retract (R105 to R111, R118) -/

section Loss

variable {s : State}

theorem phaseLock_locks (hs : get Reg.SPN_STAT.STATE s = 7) (hl : get Reg.SPN_STAT.LOCK s = 1)
    (he : effTarget s = get Reg.SPN_TARGET.RPM s) (hk : get Reg.SPN_TARGET.RPM s * get Reg.TMP_PHASE.K s = 30000) (hr : 400 ≤ s.spn.lockRow) :
    Gives (.phaseLock) s (fun t =>
      get Reg.SPN_STAT.STATE t = 7 ∧
      get Reg.SPN_STAT.LOCK t = 2 ∧
      OnlyBlocks [0, 4, 5, 6, 7] s t ∧
      SameMem s t) := by
  have locked : Spares diskKeys s (put Reg.SPN_STAT.LOCK 2 s) := (Spares.refl s).put (by decide) 2
  have fits : kMatches s = true := by simpa [kMatches] using hk
  exact .of_next (occurs_of ⟨hs, hl, he, fits, hr⟩) ⟨(get_raisePost ..).trans ((get_put_ne (by decide) ..).trans hs),
    (get_raisePost ..).trans (get_put_self ..), (locked.raisePost ..).disk⟩

theorem lockFalls_disk (s : State) : Spares diskKeys s (lockFalls s) := (allFallLater_spares false s).linePost (by decide) ..

/-- The lock has fallen to that of the frequency. -/
def lockFallen (s : State) : State := put Reg.SPN_STAT.LOCK 1 (lockFalls s)

theorem lock_lockFallen (s : State) : get Reg.SPN_STAT.LOCK (lockFallen s) = 1 := get_put_self ..

theorem lockLost_lockFallen (s : State) : get Reg.SPN_FAULT.LOCK_LOST (lockFallen s) = 1 := by
  rw [lockFallen, get_put_ne (by decide), lockFalls, get_linePost, get_put_self]
  rfl

theorem fallPend_lockFallen {a : Nat} (ha : a < 2) (s : State) : (actOf a (lockFallen s)).fallPend.isSome = true := by
  rw [lockFallen, actOf_put, fallPend_lockFalls ha]
  rfl

theorem exec_lockLost (h : get Reg.SPN_STAT.LOCK s = 2 ∧ (2 ≤ s.spn.errRow ∨ 8 ≤ s.spn.missRow)) : exec .lockLost s = .next
    (setSpn { (lockFallen s).spn with lockRow := 0 } (lockFallen s)) := occurs_of h

theorem lockLost_falls (h : get Reg.SPN_STAT.LOCK s = 2 ∧ (2 ≤ s.spn.errRow ∨ 8 ≤ s.spn.missRow)) :
    Gives (.lockLost) s (fun t =>
      get Reg.SPN_STAT.LOCK t = 1 ∧
      get Reg.SPN_FAULT.LOCK_LOST t = 1 ∧
      t.spn.lockRow = 0 ∧
      (actOf 0 t).fallPend.isSome = true ∧
      (actOf 1 t).fallPend.isSome = true ∧
      OnlyBlocks [0, 4, 5, 6, 7] s t ∧
      SameMem s t) := by
  have fallen : Spares diskKeys s (lockFallen s) := (lockFalls_disk s).put (by decide) 1
  have falls {a : Nat} (ha : a < 2) (r : SpnSt) : (actOf a (setSpn r (lockFallen s))).fallPend.isSome = true := by
    rw [actOf_setSpn]
    exact fallPend_lockFallen ha s
  exact .of_next (exec_lockLost h) ⟨(get_setSpn ..).trans (lock_lockFallen s), (get_setSpn ..).trans (lockLost_lockFallen s), rfl,
    falls (a := 0) (by decide) _, falls (a := 1) (by decide) _, (fallen.setSpn _).disk⟩

/-- A loss of the observer as it is told, before the spindle goes to REACQ. -/
def lossTold (s : State) : State := linePost 130 Reg.SPN_FAULT.LOSS 1 0 [] (bump Reg.SPN_LOSS_CNT.LOSSES (allFallLater true s))

theorem lossTold_wrote (s : State) :
    Wrote [(Reg.SPN_LOSS_CNT.LOSSES, get Reg.SPN_LOSS_CNT.LOSSES s + 1), (Reg.SPN_FAULT.LOSS, 1)] s (lossTold s) := by
  have asked : Wrote [] s (allFallLater true s) := rfl
  exact ((asked.bump (f := Reg.SPN_LOSS_CNT.LOSSES) (by decide)).put Reg.SPN_FAULT.LOSS 1).of_regs (linePost_regs ..)

theorem lossTold_disk (s : State) : Spares diskKeys s (lossTold s) :=
  ((allFallLater_spares true s).bump (f := Reg.SPN_LOSS_CNT.LOSSES) (by decide)).linePost (by decide) ..

theorem fallPend_lossTold {a : Nat} (ha : a < 2) (s : State) : (actOf a (lossTold s)).fallPend = some true := by
  rw [← Bool.true_or ((actOf a s).fallPend == some true), ← fallPend_allFallLater ha, lossTold, actOf, linePost_onlyEvents]
  rfl

theorem exec_observerLoss (h : 3 ≤ s.spn.phaseRow ∨ 2 ≤ s.spn.crossRow) : exec .observerLoss s = .next
    (if get Reg.SPN_STAT.STATE s = 6 ∨ get Reg.SPN_STAT.STATE s = 7 then
       setSpn { (spnGo 8 (lossTold s)).spn with lossAt := tmpCount s } (spnGo 8 (lossTold s))
     else if get Reg.SPN_STAT.STATE s = 9 then spnGo 10 s else s) := occurs_of h

theorem observerLoss_reacquires (h : 3 ≤ s.spn.phaseRow ∨ 2 ≤ s.spn.crossRow) (hs : get Reg.SPN_STAT.STATE s = 6 ∨ get Reg.SPN_STAT.STATE s = 7) :
    Gives (.observerLoss) s (fun t =>
      get Reg.SPN_STAT.STATE t = 8 ∧
      get Reg.SPN_LOSS_CNT.LOSSES t = (get Reg.SPN_LOSS_CNT.LOSSES s + 1) % 2 ^ Reg.SPN_LOSS_CNT.LOSSES.width ∧
      get Reg.SPN_FAULT.LOSS t = 1 ∧
      t.spn.lossAt = tmpCount s ∧
      (actOf 0 t).fallPend = some true ∧
      (actOf 1 t).fallPend = some true ∧
      OnlyBlocks [0, 4, 5, 6, 7] s t ∧
      SameMem s t) := by
  have keys : ([Reg.SPN_LOSS_CNT.LOSSES, Reg.SPN_FAULT.LOSS].map Fld.key).Nodup := by decide
  have counted := (lossTold_wrote s).get_mem keys (f := Reg.SPN_LOSS_CNT.LOSSES) (v := get Reg.SPN_LOSS_CNT.LOSSES s + 1) (by simp)
  have told := (lossTold_wrote s).get_mem keys (f := Reg.SPN_FAULT.LOSS) (v := 1) (by simp)
  have falls {a : Nat} (ha : a < 2) (r : SpnSt) : (actOf a (setSpn r (spnGo 8 (lossTold s)))).fallPend = some true := by
    rw [actOf_setSpn]
    exact fallPend_spnGo_reacq ha (fallPend_lossTold ha s)
  exact .of_next ((exec_observerLoss h).trans (congrArg _ (if_pos hs))) ⟨(get_setSpn ..).trans (state_spnGo ..),
    ((get_setSpn ..).trans (get_spnGo (by decide) ..)).trans counted, ((get_setSpn ..).trans (get_spnGo (by decide) ..)).trans told, rfl,
    falls (a := 0) (by decide) _, falls (a := 1) (by decide) _, ((spnGo_disk (lossTold_disk s) 8).setSpn _).disk⟩

theorem observerLoss_elsewhere (h : 3 ≤ s.spn.phaseRow ∨ 2 ≤ s.spn.crossRow) (h6 : get Reg.SPN_STAT.STATE s ≠ 6) (h7 : get Reg.SPN_STAT.STATE s ≠ 7) :
    Gives (.observerLoss) s (fun t =>
      (get Reg.SPN_STAT.STATE t = (if get Reg.SPN_STAT.STATE s = 9 then 10 else get Reg.SPN_STAT.STATE s)) ∧
      OnlyBlocks [0, 4, 5, 6, 7] s t ∧
      SameMem s t) := by
  refine .of_next ((exec_observerLoss h).trans (congrArg _ (if_neg (not_or.2 ⟨h6, h7⟩)))) ?_
  split
  · exact ⟨state_spnGo .., (spnGo_disk (.refl s) 10).disk⟩
  · exact ⟨rfl, (Spares.refl s).disk⟩

/-- Drive resumes at an angle, and the loss is told to the media. -/
def resumeAt (loss angle : Nat) (s : State) : State :=
  { s with zmg := { s.zmg with lossAt := some loss }, spn := { s.spn with angle := angle } }

theorem get_resumeAt (f : Fld) (loss angle : Nat) (s : State) : get f (resumeAt loss angle s) = get f s := rfl

theorem Spares.resumeAt {keep : Nat → Bool} {t : State} (h : Spares keep s t) (loss angle : Nat) : Spares keep s (resumeAt loss angle t) :=
  h.record rfl rfl rfl rfl

theorem spnReacquired_resumes (hs : get Reg.SPN_STAT.STATE s = 8) (ha : 4 ≤ s.spn.reAngles.length) (ht : tmpCount s - s.spn.lossAt ≤ 4000) :
    Gives (.spnReacquired) s (fun t =>
      get Reg.SPN_STAT.STATE t = 6 ∧
      get Reg.SPN_LOSS_CNT.REACQ_OK t = (get Reg.SPN_LOSS_CNT.REACQ_OK s + 1) % 2 ^ Reg.SPN_LOSS_CNT.REACQ_OK.width ∧
      t.zmg.lossAt = some s.spn.lossAt ∧
      t.spn.angle = s.spn.reAngles.headD 0 ∧
      OnlyBlocks [0, 4, 5, 6, 7] s t ∧
      SameMem s t) := by
  have counted : Spares diskKeys s (bump Reg.SPN_LOSS_CNT.REACQ_OK s) := (Spares.refl s).bump (by decide)
  have out : exec .spnReacquired s = .next
      (resumeAt s.spn.lossAt (s.spn.reAngles.headD 0) (spnGo 6 (bump Reg.SPN_LOSS_CNT.REACQ_OK s))) := occurs_of ⟨hs, ha, ht⟩
  exact .of_next out ⟨(get_resumeAt ..).trans (state_spnGo ..),
    (get_resumeAt ..).trans ((get_spnGo (by decide) ..).trans (get_put_self ..)), rfl, rfl, ((spnGo_disk counted 6).resumeAt ..).disk⟩

/-- The reacquisition has failed, a restart is needed and the heads are to retract. -/
def reacqFailed (s : State) : State :=
  requestRetract (needRestart (puts [(Reg.SPN_FAULT.REACQ_FAIL, 1), (Reg.SPN_STAT.NOT_READY, 1)] s))

theorem get_reacqFailed (f : Fld) (s : State) : get f (reacqFailed s) =
    get f (needRestart (puts [(Reg.SPN_FAULT.REACQ_FAIL, 1), (Reg.SPN_STAT.NOT_READY, 1)] s)) :=
  (requestRetract_spares (keep := fun _ => true) _).fields f rfl

theorem reacqFail_reacqFailed (s : State) : get Reg.SPN_FAULT.REACQ_FAIL (reacqFailed s) = 1 := by
  have spared := needRestart_spares (keep := (· == Reg.SPN_FAULT.REACQ_FAIL.key)) (by decide)
    (puts [(Reg.SPN_FAULT.REACQ_FAIL, 1), (Reg.SPN_STAT.NOT_READY, 1)] s)
  rw [get_reacqFailed, spared.fields _ (by decide)]
  exact get_puts_mem (l := [(Reg.SPN_FAULT.REACQ_FAIL, 1), (Reg.SPN_STAT.NOT_READY, 1)]) (by decide) (v := 1) (by simp) s

theorem notReady_reacqFailed (s : State) : get Reg.SPN_STAT.NOT_READY (reacqFailed s) = 1 :=
  (get_reacqFailed ..).trans (notReady_needRestart (get_put_self ..))

theorem reacqFailed_disk (s : State) : Spares diskKeys s (reacqFailed s) :=
  have shown : Spares diskKeys s (puts [(Reg.SPN_FAULT.REACQ_FAIL, 1), (Reg.SPN_STAT.NOT_READY, 1)] s) := (Spares.refl s).puts (by decide)
  (shown.trans (needRestart_spares (by decide) _)).trans (requestRetract_spares _)

theorem spnReacqTimeout_retracts (hs : get Reg.SPN_STAT.STATE s = 8) (ht : 4000 ≤ tmpCount s - s.spn.lossAt) :
    Gives (.spnReacqTimeout) s (fun t =>
      get Reg.SPN_STAT.STATE t = 11 ∧
      get Reg.SPN_FAULT.REACQ_FAIL t = 1 ∧
      get Reg.SPN_STAT.NOT_READY t = 1 ∧
      OnlyBlocks [0, 4, 5, 6, 7] s t ∧
      SameMem s t) :=
  have out : exec .spnReacqTimeout s = .next (spnGo 11 (reacqFailed s)) := occurs_of ⟨hs, ht⟩
  .of_next out ⟨state_spnGo .., (get_spnGo (by decide) ..).trans (reacqFail_reacqFailed s),
    (get_spnGo (by decide) ..).trans (notReady_reacqFailed s), (spnGo_disk (reacqFailed_disk s) 11).disk⟩

theorem spnRetractDone_leaves (h : get Reg.SPN_STAT.STATE s = 11 ∧ (stgOf 0 s).retractDone = true ∧ s.pins.pfailN = true) :
    Gives (.spnRetractDone) s (fun t =>
      (stgOf 0 t).retractReq = false ∧
      (get Reg.SPN_STAT.STATE t = (if s.spn.faultPend = true then 13 else 10)) ∧
      ((s.spn.faultPend = true → get Reg.SPN_FAULT.FAULT t = 1)) ∧
      OnlyBlocks [0, 4, 5, 6, 7] s t ∧
      SameMem s t) := by
  have out : exec .spnRetractDone s = .next (retractEnds (if s.spn.faultPend then spnGo 13 s else spnGo 10 s)) := occurs_of h
  have ended (u : State) : (stgOf 0 (retractEnds u)).retractReq = false := by simp [retractEnds, stgOf, setStg]
  have shown (f : Fld) (u : State) : get f (retractEnds u) = get f u := rfl
  have frame {u : State} (k : Spares diskKeys s u) : Spares diskKeys s (retractEnds u) := k.record rfl rfl rfl rfl
  refine .of_next out ⟨ended _, ?_⟩
  split
  next hp => exact ⟨(shown ..).trans (state_spnGo ..), fun _ => (shown ..).trans (fault_spnGo_fault s), (frame (spnGo_disk (.refl s) 13)).disk⟩
  next hp => exact ⟨(shown ..).trans (state_spnGo ..), fun h => absurd h hp, (frame (spnGo_disk (.refl s) 10)).disk⟩

/-- RETRACT_REQ has stood for RETRACT_MS without RETRACT_DONE, outside RESCUE (R118). -/
structure RetractLate (s : State) : Prop where
  req : retractReq s = true
  notDone : (stgOf 0 s).retractDone = false
  mode : mode s ≠ 5
  late : 200 * get Reg.SPN_TIMEOUT.RETRACT_MS s ≤ tmpCount s - s.spn.retractAt

/-- The timeout of a retract ends in FAULT, entered anew or held already, with the fields that entry to FAULT leaves (R118). -/
theorem spnRetractTimeout_faults (h : RetractLate s) : Gives (.spnRetractTimeout) s (fun t =>
    get Reg.SPN_STAT.STATE t = 13 ∧
    get Reg.SPN_FAULT.RETRACT_TMO t = 1 ∧
    (get Reg.SPN_STAT.STATE s ≠ 13 → get Reg.SPN_FAULT.FAULT t = 1 ∧ get Reg.SPN_STAT.RESTART_PEND t = 0) ∧
    OnlyBlocks [0, 4, 5, 6, 7] s t ∧
    SameMem s t) := by
  have shown : Spares diskKeys s (put Reg.SPN_FAULT.RETRACT_TMO 1 s) := (Spares.refl s).put (by decide) 1
  have out : exec .spnRetractTimeout s = .next (if get Reg.SPN_STAT.STATE s = 13 then put Reg.SPN_FAULT.RETRACT_TMO 1 s
      else spnGo 13 (put Reg.SPN_FAULT.RETRACT_TMO 1 s)) := occurs_of ⟨h.req, h.notDone, h.mode, h.late⟩
  refine .of_next out ?_
  split
  next hs => exact ⟨(get_put_ne (by decide) ..).trans hs, get_put_self .., fun hn => absurd hs hn, shown.disk⟩
  next =>
    exact ⟨state_spnGo .., (get_spnGo_fault (by decide) _).trans (get_put_self ..), fun _ => ⟨fault_spnGo_fault _, restartPend_spnGo_fault _⟩,
      (spnGo_disk shown 13).disk⟩

end Loss

/-- Settles O19: a loss is told before the spindle goes to its state, which leaves the hard falls pending, and entry to FAULT shows itself. -/
theorem spindleLockAndLoss : Obligations.SpindleLockAndLoss := by
  unfold Obligations.SpindleLockAndLoss
  refine ⟨fun _ hs hl he hk hr => phaseLock_locks hs hl he hk hr, fun _ hl hr => lockLost_falls ⟨hl, hr⟩,
    fun _ h hs => observerLoss_reacquires h hs, fun _ h h6 h7 => observerLoss_elsewhere h h6 h7,
    fun _ hs ha ht => spnReacquired_resumes hs ha ht, fun _ hs ht => spnReacqTimeout_retracts hs ht,
    fun _ hs hd hp => spnRetractDone_leaves ⟨hs, hd, hp⟩, ?timeout⟩
  case timeout =>
    intro s hr hd hm ht
    obtain ⟨t, ht, state, tmo, entered, frame⟩ := spnRetractTimeout_faults ⟨hr, hd, hm, ht⟩
    exact .of_next ht ⟨state, tmo, fun hn => (entered hn).1, frame⟩

/-- Settles O59: the timeout enters FAULT, which ends the wait for a restart, and in RESCUE its condition does not hold. -/
theorem retractTimeoutEndsInFault : Obligations.RetractTimeoutEndsInFault := by
  unfold Obligations.RetractTimeoutEndsInFault
  refine ⟨?timeout, ?rescue, rfl⟩
  case timeout =>
    intro s hr hd hm ht
    obtain ⟨t, ht, state, tmo, entered, frame⟩ := spnRetractTimeout_faults ⟨hr, hd, hm, ht⟩
    exact .of_next ht ⟨tmo, state, fun hn => (entered hn).2, frame⟩
  case rescue =>
    intro s hm
    exact .of_next (congrArg Host.Outcome.next (if_neg fun h => h.2.2.1 hm)) rfl

end Sys2Proof.Machine

/-! SUPPORT. Proofs of the obligations of the actuator family (05_dual_actuator_servo.md). -/

namespace Sys2Proof.Machine

open Sys2Proof

/-! ### A taken seek that falls back from a pair with a stray head -/

theorem exec_seekTake {a : Nat} {s : State} (ha : a < 2) (hg : get (Reg.ACT_SEEK.GO a) s = 1) (h2 : 2 ≤ actState a s) (h4 : actState a s ≤ 4)
    (hs : isService a s = true) : exec (.seekTake a) s = .next (takeSeek a s) := by
  rw [show exec (.seekTake a) s = execSeekTake a s from rfl, execSeekTake, unit_of_lt ha, occurs_of ⟨hg, h2, h4, hs⟩]

/-- Actuator A, paired with a head 2 that no assist has, is in SEEK with a GO for heads 0 and 1, which are no eligible pair. -/
def strayHeadSeeking : State :=
  puts [(Reg.ACT_STAT.STATE 0, 2), (Reg.ACT_SEEK.GO 0, 1), (Reg.ACT_HEADS.HEAD1 0, 0), (Reg.ACT_HEADS.HEAD2 0, 1)] strayHeadPaired

/-- The fallback at the take turns the assist of the stray head off, which clears HLK_CTL[0].EN. -/
theorem strayHead_seek_clears_link : get (Reg.HLK_CTL.EN 0) (takeSeek 0 strayHeadSeeking) = 0 := by decide +kernel

/-- Refutes O29: the clause of a taken GO bounds the change to blocks 5 to 7 for every state, also where the record of the actuator holds
a head 2 that no assist has; the fallback from that pair changes block 8. -/
theorem not_actuatorSeeksAndWedges : ¬ Obligations.ActuatorSeeksAndWedges := by
  unfold Obligations.ActuatorSeeksAndWedges
  rintro ⟨-, take, -⟩
  have submitted : get (Reg.ACT_SEEK.GO 0) strayHeadSeeking = 1 := by decide
  have seeking : actState 0 strayHeadSeeking = 2 := by decide
  have service : isService 0 strayHeadSeeking = true := by decide
  obtain ⟨t, ht, -, -, -, -, -, -, -, outside, -⟩ := take 0 strayHeadSeeking (by decide) submitted (by rw [seeking]) (by rw [seeking]; decide)
    service (by decide) (by decide) (by decide)
  obtain rfl : takeSeek 0 strayHeadSeeking = t := by
    rw [exec_seekTake (by decide) submitted (by rw [seeking]) (by rw [seeking]; decide) service] at ht
    exact Host.Outcome.next.inj ht
  have kept : get (Reg.HLK_CTL.EN 0) (takeSeek 0 strayHeadSeeking) = 1 := outside (Reg.HLK_CTL.EN 0) (by decide)
  rw [strayHead_seek_clears_link] at kept
  exact absurd kept (by decide)

end Sys2Proof.Machine

namespace Sys2Proof.Machine

open Sys2Proof

/-! ### What the assist of a head moves (R152) -/

/-- The fields that no head's STATE or READY can stand in, whatever the number of the head. -/
def headKeys (k : Nat) : Bool := decide (k < 0x40060100 * 32) || (k % 32 != 0 && k % 32 != 3)

theorem headKeys_of_low {k : Nat} (h : k < 0x40060100 * 32) : headKeys k = true := by rw [headKeys, decide_eq_true h, Bool.true_or]

theorem headKeys_of_sysKeys {k : Nat} (h : sysKeys k = true) : headKeys k = true := by
  have low := of_decide_eq_true (Bool.and_eq_true_iff.1 h).1
  exact headKeys_of_low (by omega)

/-- STATE is bits 0 to 2 of a head's word, READY bit 3. -/
theorem headKeys_head {h lo w r : Nat} (hl : lo = 0 ∨ lo = 3) : headKeys (Fld.mk (0x40060100 + 32 * h) lo w r).key = false := by
  have high : ¬ (Fld.mk (0x40060100 + 32 * h) lo w r).key < 0x40060100 * 32 := by simp only [Fld.key]; omega
  have place : (Fld.mk (0x40060100 + 32 * h) lo w r).key % 32 = lo := by simp only [Fld.key]; omega
  rw [headKeys, decide_eq_false high, place]
  rcases hl with rfl | rfl <;> rfl

/-- Nothing but STATE and READY of heads and the record of their assist is moved. -/
structure AssistOnly (s t : State) : Prop extends Spares headKeys s t where
  act : t.act = s.act

section AssistOnly

variable {s t u : State}

theorem AssistOnly.refl (s : State) : AssistOnly s s := ⟨.refl s, rfl⟩

theorem AssistOnly.trans (h : AssistOnly s t) (k : AssistOnly t u) : AssistOnly s u := ⟨h.toSpares.trans k.toSpares, k.act.trans h.act⟩

theorem AssistOnly.ite {c : Prop} [Decidable c] (h : AssistOnly s t) (k : AssistOnly s u) : AssistOnly s (if c then t else u) := by
  split <;> assumption

theorem AssistOnly.foldl {α : Type} {g : State → α → State} (h : ∀ u x, AssistOnly u (g u x)) (l : List α) (s : State) :
    AssistOnly s (l.foldl g s) := by
  induction l generalizing s with
  | nil => exact .refl s
  | cons x l ih => exact (h s x).trans (ih _)

theorem AssistOnly.actOf (h : AssistOnly s t) (a : Nat) : actOf a t = actOf a s := by rw [Machine.actOf, h.act, Machine.actOf]

/-- The state of an actuator stands below the heads' registers. -/
theorem AssistOnly.actState (h : AssistOnly s t) {a : Nat} (ha : a < 2) : actState a t = actState a s := by
  refine h.fields _ (headKeys_of_low ?_)
  simp only [Fld.key, Reg.ACT_STAT.STATE]
  omega

theorem AssistOnly.sysSpares (h : AssistOnly s t) : Spares sysKeys s t := h.toSpares.mono fun _ => headKeys_of_sysKeys

theorem postReg_act (f : Fld) (n : Nat) (s : State) : (postReg f n s).act = s.act := by delta postReg; exact postRec_act ..

theorem asxGo_assistOnly (h new : Nat) (s : State) : AssistOnly s (asxGo h new s) := by
  have shown : ∀ p ∈ [(Reg.ASX_HSTAT.STATE h, new), (Reg.ASX_HSTAT.READY h, if new = 3 then 1 else 0)], headKeys p.1.key = false := by
    simp only [List.forall_mem_cons, List.not_mem_nil, false_imp_iff, implies_true, and_true]
    exact ⟨headKeys_head (.inl rfl), headKeys_head (.inr rfl)⟩
  have kept : (asxGo h new s).act = s.act := by rw [asxGo, postReg_act, puts_onlyRegisters]; rfl
  exact ⟨(((Spares.refl s).setAsx ..).puts shown).postReg .., kept⟩

theorem asxGoIf_assistOnly (c : Nat → Bool) (h new : Nat) (s : State) : AssistOnly s (asxGoIf c h new s) :=
  .ite (asxGo_assistOnly h new s) (.refl s)

theorem assistGo_assistOnly (w : Bool) (s : State) (h : Nat) : AssistOnly s (assistGo w s h) := by
  have shown {u : State} (k : AssistOnly s u) (r : AsxSt) : AssistOnly s (setAsx h r u) := ⟨k.toSpares.setAsx h r, k.act⟩
  have reads : AssistOnly s (if asxState h s = 0 then setAsx h { asxOf h s with fhRamp := 0 } (asxGo h 1 s) else s) :=
    .ite (shown (asxGo_assistOnly h 1 s) _) (.refl s)
  exact .ite (.refl s) (.ite reads (.ite (reads.trans (asxGoIf_assistOnly ..)) (.ite reads (reads.trans (asxGo_assistOnly ..)))))

end AssistOnly

/-! ### The target of an actuator's record (R126) -/

/-- The record of an actuator names the same target. -/
structure SameAim (r q : ActSt) : Prop where
  track : q.track = r.track
  head1 : q.head1 = r.head1
  write : q.write = r.write
  goHeld : q.goHeld = r.goHeld

theorem SameAim.refl (r : ActSt) : SameAim r r := ⟨rfl, rfl, rfl, rfl⟩

theorem SameAim.trans {r q p : ActSt} (h : SameAim r q) (k : SameAim q p) : SameAim r p :=
  ⟨k.track.trans h.track, k.head1.trans h.head1, k.write.trans h.write, k.goHeld.trans h.goHeld⟩

@[simp] theorem actOf_setAct_self (a : Nat) (r : ActSt) (s : State) : actOf a (setAct a r s) = r := by simp [actOf, setAct]
@[simp] theorem actOf_raisePost (a n u : Nat) (l : List Nat) (s : State) : actOf a (raisePost n u l s) = actOf a s := by
  rw [actOf, raisePost_onlyEvents, actOf]
@[simp] theorem actOf_puts (a : Nat) (l : List (Fld × Nat)) (s : State) : actOf a (puts l s) = actOf a s := by
  rw [actOf, puts_onlyRegisters, actOf]
@[simp] theorem actOf_putIf (a : Nat) (c : Prop) [Decidable c] (f : Fld) (v : Nat) (s : State) : actOf a (putIf c f v s) = actOf a s := by
  rw [actOf, putIf_onlyRegisters, actOf]
@[simp] theorem actOf_markUnwritten (a n : Nat) (s : State) : actOf a (markUnwritten n s) = actOf a s := by
  unfold markUnwritten
  split <;> rfl

theorem actFell_aim (k c w : Nat) (p : Int) (r : ActSt) : SameAim r (actFell k c w p r) := by
  unfold actFell
  dsimp only
  split <;> exact ⟨rfl, rfl, rfl, rfl⟩

theorem permitDrop_aim (a k c : Nat) (p : Int) (s : State) : SameAim (actOf a s) (actOf a (permitDrop a k c p s)) := by
  unfold permitDrop
  split
  · rw [actOf_raisePost, actOf_markUnwritten, bump, actOf_put, actOf_put, actOf_setAct_self]
    exact actFell_aim ..
  · exact .refl _

theorem actOf_showLog (a : Nat) (s : State) : actOf a (showLog a s) = actOf a s := by
  unfold showLog
  split <;> rw [actOf_puts]

theorem pushLog_aim (a : Nat) (e : WusEntry) (s : State) : SameAim (actOf a s) (actOf a (pushLog a e s)) := by
  unfold pushLog
  dsimp only
  split
  · rw [actOf_showLog, actOf_setAct_self]
    exact ⟨rfl, rfl, rfl, rfl⟩
  · exact .refl _

theorem endEpisode_aim (a k : Nat) (s : State) : SameAim (actOf a s) (actOf a (endEpisode a k s)) := by
  have dropped : SameAim (actOf a s) (actOf a (setAct a (dropEpisode k (actOf a s)) s)) := by
    rw [actOf_setAct_self, dropEpisode]
    split <;> exact ⟨rfl, rfl, rfl, rfl⟩
  have logged (e : WusEntry) := dropped.trans (pushLog_aim a e _)
  unfold endEpisode
  dsimp only
  split
  · exact .refl _
  · split <;> exact logged _

theorem leaveFollow_aim (a : Nat) (s : State) : SameAim (actOf a s) (actOf a (leaveFollow a s)) := by
  have fell (u : State) : SameAim (actOf a u) (actOf a (permitsFall a false 2 u)) := (permitDrop_aim a 1 2 0 u).trans (permitDrop_aim a 2 2 0 _)
  unfold leaveFollow
  dsimp only
  split
  · exact .refl _
  · exact ((fell (put (Reg.ACT_STAT.WR_OK a) 0 s)).trans (endEpisode_aim a 1 _)).trans (endEpisode_aim a 2 _)

/-! ### An actuator that goes to SEEK (R125) -/

/-- The transition to SEEK; the heads stay as they are. -/
theorem actGo_seeking (a : Nat) (s : State) : actGo a 2 s =
    (let t := postReg (Reg.ACT_STAT.STATE a) a (put (Reg.ACT_STAT.STATE a) 2 (if actState a s = 4 then leaveFollow a s else s))
     let u := setAct a { actOf a t with since := tmpCount s } t
     setAct a { actOf a u with okRow := 0 } u) := by
  simp [actGo, actEntry]

theorem actState_actGo_seek (a : Nat) (s : State) : actState a (actGo a 2 s) = 2 := by
  have moved : (actGo a 2 s).regs = (put (Reg.ACT_STAT.STATE a) 2 (if actState a s = 4 then leaveFollow a s else s)).regs := by
    rw [actGo_seeking]
    rfl
  exact (get_regs _ moved).trans (get_put_self ..)

theorem actGo_seek_aim (a : Nat) (s : State) : SameAim (actOf a s) (actOf a (actGo a 2 s)) := by
  have left : SameAim (actOf a s) (actOf a (if actState a s = 4 then leaveFollow a s else s)) := by
    split
    · exact leaveFollow_aim a s
    · exact .refl _
  rw [actGo_seeking]
  dsimp only
  rw [actOf_setAct_self, actOf_setAct_self]
  exact ⟨left.track, left.head1, left.write, left.goHeld⟩

theorem actGo_seek_sysSpares (a : Nat) (s : State) : Spares sysKeys s (actGo a 2 s) := by
  have left : Spares sysKeys s (if actState a s = 4 then leaveFollow a s else s) := .ite (leaveFollow_spares a s) (.refl s)
  rw [actGo_seeking]
  exact (((left.put (f := Reg.ACT_STAT.STATE a) (sysKeys_stride (by decide)) 2).postReg ..).setAct ..).setAct ..

/-- From any state but FOLLOW, the transition moves no other field. -/
theorem actGo_seek_spares {keep : Nat → Bool} {a : Nat} {s : State} (h4 : actState a s ≠ 4) (hk : keep (Reg.ACT_STAT.STATE a).key = false) :
    Spares keep s (actGo a 2 s) := by
  rw [actGo_seeking, if_neg h4]
  exact ((((Spares.refl s).put hk 2).postReg ..).setAct ..).setAct ..

/-! ### A seek that is taken (R126, R136, R138) -/

theorem pairFallback_spares (a c : Nat) (s : State) : Spares sysKeys s (pairFallback a c s) := by
  have fell := (permitDrop_spares a 2 2 0 s).trans (markUnwritten_spares (streamOf a 2 s) _)
  unfold pairFallback
  refine Spares.raisePost (Spares.puts (Spares.bump (Spares.setAct (Spares.trans ?queued (asxOff_spares _ _)) ..)
    (sysKeys_stride (by decide))) ?shown) ..
  case queued =>
    split
    · exact fell.record rfl rfl rfl rfl
    · exact fell
  case shown =>
    simp only [List.forall_mem_cons, List.not_mem_nil, false_imp_iff, implies_true, and_true]
    exact ⟨sysKeys_stride (by decide), sysKeys_stride (by decide), sysKeys_stride (by decide), sysKeys_stride (by decide),
      sysKeys_stride (by decide)⟩

/-- A GO pairs its heads. -/
def seekPairs (a : Nat) (s : State) : Bool := get (Reg.ACT_HEADS.HEAD2 a) s != 31 && pairEligible a s

/-- A pair that the GO does not renew ends, with a fallback where the GO names two heads. -/
def pairLeft (a : Nat) (s : State) : State :=
  if get (Reg.ACT_STAT.PAIRED a) s = 1 ∧ !seekPairs a s then
    (if get (Reg.ACT_HEADS.HEAD2 a) s != 31 then pairFallback a (if mode s = 2 then 7 else 5) s else pairEnds a s)
  else s

/-- The permits have fallen and their episodes have ended. -/
def writesClosed (a : Nat) (s : State) : State := endEpisode a 2 (endEpisode a 1 (permitsFall a false 2 (pairLeft a s)))

/-- The record of the seek stands, before the actuator goes to SEEK. -/
def seekSet (a : Nat) (s : State) : State :=
  putIf ((get (Reg.ACT_HEADS.HEAD2 a) s != 31) = true ∧ seekPairs a s = false) (Reg.ACT_PAIR_STAT.CAUSE a) (if mode s = 2 then 7 else 5)
    (puts [(Reg.ACT_SEEK.GO a, 0), (Reg.ACT_STAT.PAIRED a, b2n (seekPairs a s))]
      (setAct a (seekRecord a (seekPairs a s) s) (setAct a (actOf a (writesClosed a s)) (writesClosed a s))))

/-- The heads that the seek selects. -/
def seekHeads (a : Nat) (s : State) : List Nat :=
  (actOf a (actGo a 2 (seekSet a s))).head1 :: if seekPairs a s then [(actOf a (actGo a 2 (seekSet a s))).head2] else []

theorem takeSeek_goodTarget {a : Nat} {s : State} (h : badTarget a s = false) : takeSeek a s =
    (seekHeads a s).foldl (assistGo (get (Reg.ACT_SEEK.WRITE a) s == 1))
      (((headsOf a).filter (fun x => !(seekHeads a s).contains x)).foldl (fun t x => asxOff x t) (actGo a 2 (seekSet a s))) := by
  unfold takeSeek
  rw [if_neg (by rw [h]; decide)]
  rfl

/-- After the transition to SEEK only the assist of heads moves. -/
theorem takeSeek_assistOnly {a : Nat} {s : State} (h : badTarget a s = false) : AssistOnly (actGo a 2 (seekSet a s)) (takeSeek a s) := by
  rw [takeSeek_goodTarget h]
  exact (AssistOnly.foldl (fun u x => asxGoIf_assistOnly _ x 0 u) _ _).trans (.foldl (fun u x => assistGo_assistOnly _ u x) _ _)

theorem actOf_seekSet (a : Nat) (s : State) : actOf a (seekSet a s) = seekRecord a (seekPairs a s) s := by
  rw [seekSet, actOf_putIf, actOf_puts, actOf_setAct_self]

theorem seekSet_spares (a : Nat) (s : State) : Spares sysKeys s (seekSet a s) := by
  have left : Spares sysKeys s (pairLeft a s) := .ite (.ite (pairFallback_spares ..) ((Spares.refl s).setAct ..)) (.refl s)
  have closed := ((left.trans (permitsFall_spares a 2 _)).trans (endEpisode_spares a 1 _)).trans (endEpisode_spares a 2 _)
  have taken : ∀ b, ∀ p ∈ [(Reg.ACT_SEEK.GO a, 0), (Reg.ACT_STAT.PAIRED a, b)], sysKeys p.1.key = false := by
    simp only [List.forall_mem_cons, List.not_mem_nil, false_imp_iff, implies_true, and_true]
    exact fun _ => ⟨sysKeys_stride (by decide), sysKeys_stride (by decide)⟩
  exact (((closed.setAct ..).setAct ..).puts (taken _)).putIf (sysKeys_stride (by decide)) ..

/-- A taken GO with a good target: the actuator is in SEEK and its record holds the target of the seek registers. -/
structure SeekTaken (a : Nat) (s t : State) : Prop where
  state : actState a t = 2
  track : (actOf a t).track = get (Reg.ACT_SEEK.TRACK a) s
  head1 : (actOf a t).head1 = get (Reg.ACT_HEADS.HEAD1 a) s
  write : (actOf a t).write = decide (get (Reg.ACT_SEEK.WRITE a) s = 1)
  goHeld : (actOf a t).goHeld = false
  spares : Spares sysKeys s t

theorem takeSeek_taken {a : Nat} {s : State} (ha : a < 2) (h : badTarget a s = false) : SeekTaken a s (takeSeek a s) := by
  have after := takeSeek_assistOnly h
  have aim := actGo_seek_aim a (seekSet a s)
  rw [actOf_seekSet, ← after.actOf a] at aim
  exact {
    state := (after.actState ha).trans (actState_actGo_seek a _)
    track := aim.track
    head1 := aim.head1
    write := aim.write.trans rfl
    goHeld := aim.goHeld
    spares := ((seekSet_spares a s).trans (actGo_seek_sysSpares a _)).trans after.sysSpares }

/-! ### The target that the seek registers name (R127) -/

/-- The fields that no transition to SEEK and no assist moves, CMD_PEND apart. -/
def aimKeys (a k : Nat) : Bool := headKeys k && k != (Reg.ACT_STAT.STATE a).key && k != (Reg.ACT_STAT.CMD_PEND a).key

/-- The fields of the target: the limit, the seek registers, the retired heads. -/
def aimFields (a : Nat) : List Fld :=
  [Reg.ACT_MAXTRK.MAX a, Reg.ACT_SEEK.TRACK a, Reg.ACT_SEEK.WRITE a, Reg.ACT_HEADS.HEAD1 a, Reg.ACT_HEADS.HEAD2 a, Reg.ASX_RETIRED.MAP]

theorem aimKeys_aimFields {a : Nat} (ha : a < 2) {f : Fld} (hf : f ∈ aimFields a) : aimKeys a f.key = true := by
  have all : ∀ a < 2, ∀ f ∈ aimFields a, aimKeys a f.key = true := by decide
  exact all a ha f hf

/-- RETIRE_PEND is bit 4 of a head's word. -/
theorem aimKeys_retirePend (a h : Nat) : aimKeys a (Reg.ASX_HSTAT.RETIRE_PEND h).key = true := by
  simp only [aimKeys, headKeys, Fld.key, Reg.ASX_HSTAT.RETIRE_PEND, Reg.ACT_STAT.STATE, Reg.ACT_STAT.CMD_PEND, Bool.and_eq_true, Bool.or_eq_true,
    bne_iff_ne]
  omega

section Aim

variable {a : Nat} {s t : State}

theorem get_aimField (ha : a < 2) (h : Spares (aimKeys a) s t) (f : Fld) (hf : f ∈ aimFields a := by simp [aimFields]) : get f t = get f s :=
  h.fields f (aimKeys_aimFields ha hf)

theorem badTarget_of_spares (ha : a < 2) (h : Spares (aimKeys a) s t) : badTarget a t = badTarget a s := by
  have pend (x : Nat) := h.fields (Reg.ASX_HSTAT.RETIRE_PEND x) (aimKeys_retirePend a x)
  unfold badTarget headUsable isRetired bit
  dsimp only
  rw [get_aimField ha h (Reg.ACT_MAXTRK.MAX a), get_aimField ha h (Reg.ACT_SEEK.TRACK a), get_aimField ha h (Reg.ACT_SEEK.WRITE a),
    get_aimField ha h (Reg.ACT_HEADS.HEAD1 a), get_aimField ha h (Reg.ACT_HEADS.HEAD2 a), get_aimField ha h Reg.ASX_RETIRED.MAP, pend]

end Aim

/-! ### A held seek at the end of LOADING (R125, R128) -/

/-- The load has ended: the record holds HOME and the acquisition head. -/
def loadEnded (a : Nat) (s : State) : State :=
  put (Reg.ACT_STAT.CMD_PEND a) 0
    (setAct a { actOf a s with track := get (Reg.ACT_LOAD.HOME a) s, track2 := get (Reg.ACT_LOAD.HOME a) s, head1 := (actOf a s).acqHead
                               write := false, goHeld := false, ofs1 := 0, ofs2 := 0, timeouts := 0 } s)

/-- The actuator on its way to HOME, before a held GO is taken. -/
def homeward (a : Nat) (s : State) : State := assistGo false (actGo a 2 (loadEnded a s)) (actOf a s).acqHead

theorem exec_actLoadAcquired_held {a : Nat} {s : State} (ha : a < 2) (hs : actState a s = 1) (hv : 4 ≤ (actOf a s).validRow)
    (hg : (actOf a s).goHeld = true) (hu : get (Reg.ACT_CTL.UNLOAD a) s = 0) :
    exec (.actLoadAcquired a) s = .next (takeSeek a (homeward a s)) := by
  have acquired : loadAcquired a s = takeSeek a (homeward a s) := by
    unfold loadAcquired
    dsimp only
    rw [if_neg (by rw [hu]; decide), if_pos hg]
    rfl
  rw [show exec (.actLoadAcquired a) s = execActLoadAcquired a s from rfl, execActLoadAcquired, unit_of_lt ha, occurs_of ⟨hs, hv⟩, acquired]

/-- On the way to HOME the seek registers stand as they were. -/
theorem homeward_spares {a : Nat} {s : State} (hs : actState a s = 1) : Spares (aimKeys a) s (homeward a s) := by
  have written : Spares (aimKeys a) s (loadEnded a s) := ((Spares.refl s).setAct ..).put (by simp [aimKeys]) 0
  have loading : actState a (loadEnded a s) = 1 := (get_put_ne (by simp [Fld.key, Reg.ACT_STAT.STATE, Reg.ACT_STAT.CMD_PEND]) ..).trans hs
  have seeking := written.trans (actGo_seek_spares (by rw [loading]; decide) (by simp [aimKeys]))
  refine seeking.trans ((assistGo_assistOnly ..).toSpares.mono fun k hk => ?_)
  simp only [aimKeys, Bool.and_eq_true] at hk
  exact hk.1.1

/-! ### A write of ACT_SEEK (R126, R128) -/

/-- What a write of ACT_SEEK stores. -/
def seekFields (a v : Nat) : List (Fld × Nat) :=
  [(Reg.ACT_SEEK.TRACK a, bits v 0 22), (Reg.ACT_SEEK.WRITE a, bits v 24 1), (Reg.ACT_SEEK.SHINGLED a, bits v 25 1), (Reg.ACT_SEEK.DIR a, bits v 26 1)]

/-- What a GO that is held adds, and one that is refused. -/
def heldFields (a : Nat) : List (Fld × Nat) := [(Reg.ACT_SEEK.GO a, 1), (Reg.ACT_STAT.CMD_PEND a, 1)]
def refusedFields (a : Nat) : List (Fld × Nat) := [(Reg.ACT_STAT.REFUSED a, 1), (Reg.ACT_SEEK.GO a, 0)]

theorem heldFields_nodup {a : Nat} (ha : a < 2) (v : Nat) : (((seekFields a v ++ heldFields a).map Prod.fst).map Fld.key).Nodup := by
  have all : ∀ a < 2, (((seekFields a 0 ++ heldFields a).map Prod.fst).map Fld.key).Nodup := by decide
  exact all a ha

theorem refusedFields_nodup {a : Nat} (ha : a < 2) (v : Nat) : (((seekFields a v ++ refusedFields a).map Prod.fst).map Fld.key).Nodup := by
  have all : ∀ a < 2, (((seekFields a 0 ++ refusedFields a).map Prod.fst).map Fld.key).Nodup := by decide
  exact all a ha

/-- GO is bit 31 of the word. -/
theorem bits_go {v : Nat} (hv : v.testBit 31 = true) : bits v 31 1 ≠ 0 := by
  rw [Nat.testBit_eq_decide_div_mod_eq, decide_eq_true_iff] at hv
  rw [bits, Nat.pow_one, hv]
  decide

section SeekGo

variable {a v : Nat} {s : State} (ha : a < 2) (hv : v.testBit 31 = true)
include ha hv

theorem exec_seekGo_held (hs : actState a s = 1) : exec (.seekGo a v) s = .next
    (puts (heldFields a) (setAct a { actOf a (puts (seekFields a v) s) with goHeld := true } (puts (seekFields a v) s))) := by
  rw [show exec (.seekGo a v) s = execSeekGo a v s from rfl, execSeekGo, unit_of_lt ha, if_neg (bits_go hv), if_neg (by omega), if_pos hs]
  rfl

theorem exec_seekGo_refused (hs : actState a s = 0 ∨ 6 ≤ actState a s) : exec (.seekGo a v) s = .next
    (puts (refusedFields a) (puts (seekFields a v) s)) := by
  rw [show exec (.seekGo a v) s = execSeekGo a v s from rfl, execSeekGo, unit_of_lt ha, if_neg (bits_go hv), if_pos hs]
  rfl

omit ha hv

theorem seekFields_shown {t : State} {l : List (Fld × Nat)} (h : Wrote (seekFields a v ++ l) s t)
    (hl : (((seekFields a v ++ l).map Prod.fst).map Fld.key).Nodup) :
    get (Reg.ACT_SEEK.TRACK a) t = v % 2 ^ 22 ∧
    get (Reg.ACT_SEEK.WRITE a) t = v / 2 ^ 24 % 2 ∧
    get (Reg.ACT_SEEK.SHINGLED a) t = v / 2 ^ 25 % 2 ∧
    get (Reg.ACT_SEEK.DIR a) t = v / 2 ^ 26 % 2 := by
  have track := h.get_mem hl (f := Reg.ACT_SEEK.TRACK a) (v := bits v 0 22) (by simp [seekFields])
  have write := h.get_mem hl (f := Reg.ACT_SEEK.WRITE a) (v := bits v 24 1) (by simp [seekFields])
  have shingled := h.get_mem hl (f := Reg.ACT_SEEK.SHINGLED a) (v := bits v 25 1) (by simp [seekFields])
  have dir := h.get_mem hl (f := Reg.ACT_SEEK.DIR a) (v := bits v 26 1) (by simp [seekFields])
  exact ⟨track.trans (by simp [bits, Reg.ACT_SEEK.TRACK]), write.trans (bits_mod ..), shingled.trans (bits_mod ..), dir.trans (bits_mod ..)⟩

end SeekGo

/-- Settles O58: a GO in LOADING leaves its fields and the mark of a held GO; on the way to HOME the seek registers stand as they were, so the
held target is the one that is taken; a refused GO leaves registers alone changed. -/
theorem seeksFollowTheActuatorState : Obligations.SeeksFollowTheActuatorState := by
  unfold Obligations.SeeksFollowTheActuatorState
  refine ⟨?held, ?taken, ?refused⟩
  case held =>
    intro a v s ha hv hs
    have wrote : Wrote (seekFields a v ++ heldFields a) s
        (puts (heldFields a) (setAct a { actOf a (puts (seekFields a v) s) with goHeld := true } (puts (seekFields a v) s))) :=
      (((Wrote.nil s).puts (seekFields a v)).of_regs rfl).puts (heldFields a)
    obtain ⟨track, write, shingled, dir⟩ := seekFields_shown wrote (heldFields_nodup ha v)
    refine .of_next (exec_seekGo_held ha hv hs) ⟨?_, track, write, shingled, dir, wrote.onlyRegs, ?_, ?_⟩
    · rw [actOf_puts, actOf_setAct_self]
    · rw [puts_onlyRegisters (heldFields a), puts_onlyRegisters (seekFields a v)]
      rfl
    · rw [puts_onlyRegisters (heldFields a), puts_onlyRegisters (seekFields a v)]
      exact fun _ => rfl
  case taken =>
    intro a s ha hs hv hg hu hb
    have home := homeward_spares (a := a) hs
    have taken := takeSeek_taken ha ((badTarget_of_spares ha home).trans hb)
    refine .of_next (exec_actLoadAcquired_held ha hs hv hg hu) ⟨taken.state, ?_, ?_, ?_, taken.goHeld, ?_⟩
    · rw [taken.track, get_aimField ha home (Reg.ACT_SEEK.TRACK a)]
    · rw [taken.head1, get_aimField ha home (Reg.ACT_HEADS.HEAD1 a)]
    · rw [taken.write, get_aimField ha home (Reg.ACT_SEEK.WRITE a)]
    · exact fun x => (taken.spares.sameMem x).trans (home.sameMem x)
  case refused =>
    intro a v s ha hv hs
    have wrote : Wrote (seekFields a v ++ refusedFields a) s (puts (refusedFields a) (puts (seekFields a v) s)) :=
      ((Wrote.nil s).puts (seekFields a v)).puts (refusedFields a)
    have nodup := refusedFields_nodup ha v
    have registers : OnlyRegisters s (puts (refusedFields a) (puts (seekFields a v) s)) :=
      (puts_onlyRegisters (seekFields a v) s).trans (puts_onlyRegisters (refusedFields a) _)
    refine .of_next (exec_seekGo_refused ha hv (by omega)) ⟨?_, ?_, wrote.onlyRegs.mono ?_, registers, registers.onlyEvents.sameMem⟩
    · exact wrote.get_mem nodup (v := 1) (by simp [refusedFields])
    · exact wrote.get_mem nodup (v := 0) (by simp [refusedFields])
    · simp [seekFields, refusedFields]

end Sys2Proof.Machine

/-! SUPPORT. Proofs of the obligations of the energy assist family (06_energy_assist.md). -/

namespace Sys2Proof.Machine

open Sys2Proof

/-! ### What the assist of a head and its events leave -/

/-- Nothing has changed but registers, the records of the assist and what an event leaves. -/
def OnlyAssist (s t : State) : Prop :=
  t = { s with regs := t.regs, asx := t.asx, evr := t.evr, sys := t.sys, sent := t.sent, host := { s.host with msixPend := t.host.msixPend } }

/-- The same where no interrupt line is raised. -/
def OnlyRecorded (s t : State) : Prop :=
  t = { s with regs := t.regs, asx := t.asx, evr := t.evr, host := { s.host with msixPend := t.host.msixPend } }

section Frames

variable {s t u : State}

theorem OnlyAssist.trans (h : OnlyAssist s t) (k : OnlyAssist t u) : OnlyAssist s u :=
  Eq.trans k (congrArg (fun x : State => { x with regs := u.regs, asx := u.asx, evr := u.evr, sys := u.sys, sent := u.sent
                                                  host := { x.host with msixPend := u.host.msixPend } }) h)

theorem OnlyEvents.onlyAssist (h : OnlyEvents s t) : OnlyAssist s t := by
  unfold OnlyAssist
  rw [h]

theorem OnlyAssist.sameMem (h : OnlyAssist s t) : SameMem s t := by
  intro a
  rw [h]
  rfl

theorem OnlyRecorded.trans (h : OnlyRecorded s t) (k : OnlyRecorded t u) : OnlyRecorded s u :=
  Eq.trans k (congrArg (fun x : State => { x with regs := u.regs, asx := u.asx, evr := u.evr, host := { x.host with msixPend := u.host.msixPend } }) h)

theorem OnlyRecorded.put (h : OnlyRecorded s t) (f : Fld) (v : Nat) : OnlyRecorded s (put f v t) := congrArg (Machine.put f v) h

theorem OnlyRecorded.bump (h : OnlyRecorded s t) (f : Fld) : OnlyRecorded s (bump f t) := h.put f _

theorem OnlyRecorded.onlyAssist (h : OnlyRecorded s t) : OnlyAssist s t := by
  unfold OnlyAssist
  rw [h]

theorem setAsx_onlyRecorded (h : Nat) (r : AsxSt) (s : State) : OnlyRecorded s (setAsx h r s) := rfl

theorem OnlyRecorded.sameMem (h : OnlyRecorded s t) : SameMem s t := h.onlyAssist.sameMem

end Frames

/-! ### The record of a head's assist -/

@[simp] theorem asxOf_setAsx_self (h : Nat) (r : AsxSt) (s : State) : asxOf h (setAsx h r s) = r := by simp [asxOf, setAsx]
@[simp] theorem asxOf_put (h : Nat) (f : Fld) (v : Nat) (s : State) : asxOf h (put f v s) = asxOf h s := rfl
@[simp] theorem asxOf_setAct (h a : Nat) (r : ActSt) (s : State) : asxOf h (setAct a r s) = asxOf h s := rfl
@[simp] theorem asxOf_bump (h : Nat) (f : Fld) (s : State) : asxOf h (bump f s) = asxOf h s := rfl
@[simp] theorem asxOf_puts (h : Nat) (l : List (Fld × Nat)) (s : State) : asxOf h (puts l s) = asxOf h s := by
  rw [asxOf, puts_onlyRegisters, asxOf]
theorem OnlyEvents.asxOf {s t : State} (k : OnlyEvents s t) (h : Nat) : asxOf h t = asxOf h s := by rw [Machine.asxOf, k, Machine.asxOf]
@[simp] theorem asxOf_postReg (h : Nat) (f : Fld) (n : Nat) (s : State) : asxOf h (postReg f n s) = asxOf h s := by
  delta postReg
  exact (post_onlyEvents ..).asxOf h
@[simp] theorem asxOf_raisePost (h n u : Nat) (l : List Nat) (s : State) : asxOf h (raisePost n u l s) = asxOf h s :=
  (raisePost_onlyEvents n u l s).asxOf h
@[simp] theorem asxOf_linePost (h n : Nat) (f : Fld) (v u : Nat) (l : List Nat) (s : State) : asxOf h (linePost n f v u l s) = asxOf h s :=
  (linePost_onlyEvents n f v u l s).asxOf h

/-! ### A transition of a head's assist (R152) -/

/-- The fields that every transition writes. -/
def assistFields (h : Nat) : List Fld := [Reg.ASX_HSTAT.STATE h, Reg.ASX_HSTAT.READY h]

theorem assistFields_nodup (h : Nat) : ((assistFields h).map Fld.key).Nodup := by
  simp [assistFields, Fld.key, Reg.ASX_HSTAT.STATE, Reg.ASX_HSTAT.READY]

theorem asxGo_wrote (h new : Nat) (s : State) :
    Wrote [(Reg.ASX_HSTAT.STATE h, new), (Reg.ASX_HSTAT.READY h, if new = 3 then 1 else 0)] s (asxGo h new s) :=
  have recorded : Wrote [] s (setAsx h (asxMoved new (asxOf h s)) s) := rfl
  (recorded.puts _).of_regs (postReg_regs ..)

theorem asxState_asxGo {new : Nat} (hn : new < 8) (h : Nat) (s : State) : asxState h (asxGo h new s) = new :=
  ((asxGo_wrote h new s).get_mem (assistFields_nodup h) (by simp)).trans (Nat.mod_eq_of_lt hn)

/-- READY is 1 in ARMED only. -/
theorem ready_asxGo (h new : Nat) (s : State) : get (Reg.ASX_HSTAT.READY h) (asxGo h new s) = if new = 3 then 1 else 0 := by
  rw [(asxGo_wrote h new s).get_mem (assistFields_nodup h) (v := if new = 3 then 1 else 0) (by simp)]
  split <;> rfl

theorem asxGo_onlyRegs (h new : Nat) (s : State) : OnlyRegs (assistFields h) s (asxGo h new s) := (asxGo_wrote h new s).onlyRegs

theorem asxGo_onlyRecorded (h new : Nat) (s : State) : OnlyRecorded s (asxGo h new s) := by delta OnlyRecorded asxGo postReg; rfl

@[simp] theorem asxOf_asxGo (h new : Nat) (s : State) : asxOf h (asxGo h new s) = asxMoved new (asxOf h s) := by
  rw [asxGo, asxOf_postReg, asxOf_puts, asxOf_setAsx_self]

/-! ### Arming (R152, R153) -/

/-- The head goes to ARMED, where FORCE_OFF holds READY at 0. -/
def armed (h : Nat) (s : State) : State := putIf (get (Reg.ASX_HCTL.FORCE_OFF h) s = 1) (Reg.ASX_HSTAT.READY h) 0 (asxGo h 3 s)

theorem exec_assistArmed {h : Nat} {s : State} (hh : h < 24) (hs : asxState h s = 2) (ht : get Reg.ASX_PB.SETTLE s < (asxOf h s).tempos) :
    exec (.assistArmed h) s = .next (armed h s) := by
  rw [show exec (.assistArmed h) s = execAssistArmed h s from rfl, execAssistArmed, unit_of_lt hh, occurs_of ⟨hs, ht⟩, armed]

theorem exec_assistHoldRequal {h : Nat} {s : State} (hh : h < 24) (hs : asxState h s = 4) (ht : get Reg.ASX_PB.REQUAL s ≤ (asxOf h s).tempos) :
    exec (.assistHoldRequal h) s = .next (armed h s) := by
  rw [show exec (.assistHoldRequal h) s = execAssistHoldRequal h s from rfl, execAssistHoldRequal, unit_of_lt hh, occurs_of ⟨hs, ht⟩, armed]

theorem state_ne_ready (h : Nat) : (Reg.ASX_HSTAT.STATE h).key ≠ (Reg.ASX_HSTAT.READY h).key := by
  simpa [assistFields] using assistFields_nodup h

theorem asxState_armed (h : Nat) (s : State) : asxState h (armed h s) = 3 := by
  unfold armed putIf
  split
  · rw [asxState, get_put_ne (state_ne_ready h)]
    exact asxState_asxGo (by decide) h s
  · exact asxState_asxGo (by decide) h s

theorem ready_armed (h : Nat) (s : State) :
    get (Reg.ASX_HSTAT.READY h) (armed h s) = if get (Reg.ASX_HCTL.FORCE_OFF h) s = 1 then 0 else 1 := by
  unfold armed putIf
  split
  · exact get_put_self ..
  · exact ready_asxGo h 3 s

theorem put_onlyRegs {f : Fld} {l : List Fld} (hf : f ∈ l) (v : Nat) (s : State) : OnlyRegs l s (put f v s) := by
  intro g hg
  exact get_put_ne (fun e => hg (by rw [e]; exact List.mem_map_of_mem hf)) v s

theorem armed_onlyRegs (h : Nat) (s : State) : OnlyRegs (assistFields h) s (armed h s) := by
  unfold armed putIf
  split
  · exact (asxGo_onlyRegs h 3 s).trans (put_onlyRegs (by simp [assistFields]) 0 _)
  · exact asxGo_onlyRegs h 3 s

theorem armed_onlyRecorded (h : Nat) (s : State) : OnlyRecorded s (armed h s) := by
  unfold armed putIf
  split
  · exact (asxGo_onlyRecorded h 3 s).put _ 0
  · exact asxGo_onlyRecorded h 3 s

end Sys2Proof.Machine

namespace Sys2Proof.Machine

open Sys2Proof

/-! ### Trips (R158, R160, R161) -/

/-- A head has tripped: it is in TRIP with the cause, and the trip has counted. -/
structure Tripped (h cause : Nat) (s t : State) : Prop where
  state : asxState h t = 5
  cause : get (Reg.ASX_HSTAT.CAUSE h) t = cause
  trips : get (Reg.ASX_HCNT.TRIPS h) t = (get (Reg.ASX_HCNT.TRIPS h) s + 1) % 2 ^ (Reg.ASX_HCNT.TRIPS 0).width
  fields : OnlyRegs [Reg.ASX_HSTAT.STATE h, Reg.ASX_HSTAT.READY h, Reg.ASX_HSTAT.CAUSE h, Reg.ASX_HCNT.TRIPS h] s t
  records : OnlyAssist s t

section Trips

variable {h c : Nat} {s t u : State}

/-- What moves only records after a trip. -/
theorem Tripped.of_regs (k : Tripped h c s t) (hr : u.regs = t.regs) (ho : OnlyAssist t u) : Tripped h c s u :=
  ⟨(get_regs _ hr).trans k.state, (get_regs _ hr).trans k.cause, (get_regs _ hr).trans k.trips, k.fields.trans (.of_regs _ hr), k.records.trans ho⟩

/-- The head is in TRIP, with READY as it was. -/
def tripEntered (h : Nat) (s : State) : State := put (Reg.ASX_HSTAT.READY h) (get (Reg.ASX_HSTAT.READY h) s) (asxGo h 5 s)

theorem asxState_tripEntered (h : Nat) (s : State) : asxState h (tripEntered h s) = 5 :=
  (get_put_ne (state_ne_ready h) ..).trans (asxState_asxGo (by decide) h s)

theorem tripEntered_onlyRegs (h : Nat) (s : State) : OnlyRegs (assistFields h) s (tripEntered h s) :=
  (asxGo_onlyRegs h 5 s).trans (put_onlyRegs (by simp [assistFields]) _ _)

/-- The fields that tell of a trip. -/
def tripFields (h : Nat) : List Fld := [Reg.ASX_HSTAT.CAUSE h, Reg.ASX_HCNT.TRIPS h]

theorem tripFields_nodup (h : Nat) : ((tripFields h).map Fld.key).Nodup := by
  simp only [tripFields, Fld.key, Reg.ASX_HSTAT.CAUSE, Reg.ASX_HCNT.TRIPS, List.map_cons, List.map_nil, List.nodup_cons, List.mem_singleton,
    List.not_mem_nil, not_false_eq_true, List.nodup_nil, and_true]
  omega

theorem assistFields_disjoint_tripFields (h : Nat) : ∀ f ∈ assistFields h, ∀ g ∈ tripFields h, f.key ≠ g.key := by
  simp only [assistFields, tripFields, Fld.key, Reg.ASX_HSTAT.STATE, Reg.ASX_HSTAT.READY, Reg.ASX_HSTAT.CAUSE, Reg.ASX_HCNT.TRIPS,
    List.forall_mem_cons, List.not_mem_nil, false_imp_iff, implies_true, and_true]
  omega

/-- A trip of a head in READ to HOLD. -/
theorem asxTrip_of_active (h1 : 1 ≤ asxState h s) (h4 : asxState h s ≤ 4) : asxTrip h c s =
    raisePost 195 h [c] (bump (Reg.ASX_HCNT.TRIPS h) (put (Reg.ASX_HSTAT.CAUSE h) c
      (setAsx h { asxOf h (tripEntered h s) with fallPend := true } (tripEntered h s)))) := by
  delta tripEntered
  exact if_pos ⟨h1, h4⟩

theorem tripCounted_wrote (h c : Nat) (r : AsxSt) (s : State) :
    Wrote [(Reg.ASX_HSTAT.CAUSE h, c), (Reg.ASX_HCNT.TRIPS h, get (Reg.ASX_HCNT.TRIPS h) s + 1)] s
      (bump (Reg.ASX_HCNT.TRIPS h) (put (Reg.ASX_HSTAT.CAUSE h) c (setAsx h r s))) := by
  have noted : Wrote [] s (setAsx h r s) := rfl
  exact (noted.put (Reg.ASX_HSTAT.CAUSE h) c).bump (f := Reg.ASX_HCNT.TRIPS h) (by simpa [tripFields, eq_comm] using tripFields_nodup h)

theorem asxTrip_wrote (h1 : 1 ≤ asxState h s) (h4 : asxState h s ≤ 4) :
    Wrote [(Reg.ASX_HSTAT.CAUSE h, c), (Reg.ASX_HCNT.TRIPS h, get (Reg.ASX_HCNT.TRIPS h) (tripEntered h s) + 1)] (tripEntered h s) (asxTrip h c s) := by
  rw [asxTrip_of_active h1 h4]
  exact (tripCounted_wrote h c _ _).of_regs (raisePost_regs ..)

theorem asxTrip_onlyAssist (h1 : 1 ≤ asxState h s) (h4 : asxState h s ≤ 4) : OnlyAssist s (asxTrip h c s) := by
  rw [asxTrip_of_active h1 h4]
  have entered : OnlyAssist s (tripEntered h s) := ((asxGo_onlyRecorded h 5 s).put _ _).onlyAssist
  have counted := (((setAsx_onlyRecorded h { asxOf h (tripEntered h s) with fallPend := true } (tripEntered h s)).put
    (Reg.ASX_HSTAT.CAUSE h) c).bump (Reg.ASX_HCNT.TRIPS h)).onlyAssist
  exact (entered.trans counted).trans (raisePost_onlyEvents ..).onlyAssist

theorem asxTrip_tripped (hc : c < 8) (h1 : 1 ≤ asxState h s) (h4 : asxState h s ≤ 4) : Tripped h c s (asxTrip h c s) := by
  have wrote := asxTrip_wrote (c := c) h1 h4
  have entered := tripEntered_onlyRegs h s
  have apart := assistFields_disjoint_tripFields h
  have stateKept : get (Reg.ASX_HSTAT.STATE h) (asxTrip h c s) = get (Reg.ASX_HSTAT.STATE h) (tripEntered h s) :=
    wrote.get_ne (by simpa [tripFields] using apart _ (by simp [assistFields]))
  have tripsKept : get (Reg.ASX_HCNT.TRIPS h) (tripEntered h s) = get (Reg.ASX_HCNT.TRIPS h) s :=
    entered _ (by
      intro hm
      obtain ⟨f, hf, e⟩ := List.mem_map.1 hm
      exact apart f hf _ (by simp [tripFields]) e)
  exact {
    state := stateKept.trans (asxState_tripEntered h s)
    cause := (wrote.get_mem (tripFields_nodup h) (v := c) (by simp)).trans (Nat.mod_eq_of_lt hc)
    trips := by
      rw [← tripsKept]
      exact wrote.get_mem (tripFields_nodup h) (List.mem_cons_of_mem _ List.mem_cons_self)
    fields := (entered.mono (by simp [assistFields])).trans (wrote.onlyRegs.mono (by simp))
    records := asxTrip_onlyAssist h1 h4 }

/-- READY falls at the next output write. -/
theorem fallPend_asxTrip (h1 : 1 ≤ asxState h s) (h4 : asxState h s ≤ 4) : (asxOf h (asxTrip h c s)).fallPend = true := by
  rw [asxTrip_of_active h1 h4, asxOf_raisePost, asxOf_bump, asxOf_put, asxOf_setAsx_self]

theorem contactTrip_tripped (h1 : 1 ≤ asxState h s) (h4 : asxState h s ≤ 4) : Tripped h 2 s (contactTrip h s) := by
  have told := (asxTrip_tripped (c := 2) (by decide) h1 h4).of_regs (raisePost_regs 196 h [] _) (raisePost_onlyEvents ..).onlyAssist
  rw [contactTrip]
  exact told.of_regs (setAsx_regs ..) (setAsx_onlyRecorded ..).onlyAssist

theorem backoff_contactTrip (h : Nat) (s : State) : (asxOf h (contactTrip h s)).backoff = true := by rw [contactTrip, asxOf_setAsx_self]

theorem exec_assistTrip (hh : h < 24) (h1 : 1 ≤ asxState h s) (h4 : asxState h s ≤ 4) (hc : tripCause h c s = true) :
    exec (.assistTrip h c) s = .next (if c = 2 then contactTrip h s else asxTrip h c s) := by
  rw [show exec (.assistTrip h c) s = execAssistTrip h c s from rfl, execAssistTrip, unit_of_lt hh, occurs_of ⟨h1, h4, hc⟩]

theorem exec_hopStorm (hh : h < 24) (h1 : 1 ≤ asxState h s) (h4 : asxState h s ≤ 4)
    (hops : get Reg.ASX_HOP_CFG.STORM s < (recentHops h s).length) : exec (.hopStorm h) s = .next (asxTrip h 3 s) := by
  have storm : tripCause h 3 s = true := decide_eq_true hops
  rw [show exec (.hopStorm h) s = execHopStorm h s from rfl, execHopStorm, unit_of_lt hh, occurs_of ⟨h1, h4, storm⟩]

theorem assistTrip_trips (hh : h < 24) (hc : c ≤ 5) (h1 : 1 ≤ asxState h s) (h4 : asxState h s ≤ 4) (hk : tripCause h c s = true) :
    Gives (.assistTrip h c) s (fun t => Tripped h c s t ∧ (c = 2 → (asxOf h t).backoff = true)) := by
  refine .of_next (exec_assistTrip hh h1 h4 hk) ?_
  split
  next contact =>
    subst contact
    exact ⟨contactTrip_tripped h1 h4, fun _ => backoff_contactTrip h s⟩
  next other => exact ⟨asxTrip_tripped (by omega) h1 h4, fun e => absurd e other⟩

end Trips

/-- Settles O60: the hops within the window are the cause 3 for which the head trips. -/
theorem hopStormsTripTheHead : Obligations.HopStormsTripTheHead := by
  refine ⟨fun h s hh h1 h4 hops => ?_, rfl⟩
  have tripped := asxTrip_tripped (c := 3) (by decide) h1 h4
  exact .of_next (exec_hopStorm hh h1 h4 hops)
    ⟨tripped.state, tripped.cause, tripped.trips, tripped.fields, tripped.records, tripped.records.sameMem⟩

end Sys2Proof.Machine

namespace Sys2Proof.Machine

open Sys2Proof

/-! ### Clearing and forcing off (R152, R153, R160, R161) -/

section Cleared

variable {h : Nat} {s : State}

/-- The contact back-off and the row of monitor errors have ended. -/
def backoffEnded (h : Nat) (s : State) : State := setAsx h { asxOf h s with backoff := false, omRow := 0 } s

theorem exec_assistClr (hh : h < 24) (s : State) : exec (.assistClr h) s = .next (asxGoIf (· == 5) h 1 (backoffEnded h s)) := by
  rw [show exec (.assistClr h) s = execAssistClr h s from rfl, execAssistClr, unit_of_lt hh, backoffEnded]

/-- A transition leaves the contact back-off and the row of monitor errors. -/
theorem asxMoved_backoff_omRow (new : Nat) (r : AsxSt) : (asxMoved new r).backoff = r.backoff ∧ (asxMoved new r).omRow = r.omRow := by
  unfold asxMoved
  dsimp only
  split <;> exact ⟨rfl, rfl⟩

theorem assistClr_clears (hh : h < 24) (s : State) : Gives (.assistClr h) s (fun t =>
    (asxState h t = (if asxState h s = 5 then 1 else asxState h s)) ∧
    (asxOf h t).backoff = false ∧
    (asxOf h t).omRow = 0 ∧
    OnlyRegs (assistFields h) s t ∧
    OnlyRecorded s t ∧
    SameMem s t) := by
  have state : asxState h (backoffEnded h s) = asxState h s := rfl
  have ended : OnlyRecorded s (backoffEnded h s) := rfl
  have record : asxOf h (backoffEnded h s) = { asxOf h s with backoff := false, omRow := 0 } := asxOf_setAsx_self ..
  refine .of_next (exec_assistClr hh s) ?_
  by_cases tripped : asxState h s = 5
  · have moved : asxGoIf (· == 5) h 1 (backoffEnded h s) = asxGo h 1 (backoffEnded h s) := if_pos (by rw [state, tripped]; rfl)
    have records := ended.trans (asxGo_onlyRecorded h 1 (backoffEnded h s))
    rw [moved, if_pos tripped, asxOf_asxGo, (asxMoved_backoff_omRow ..).1, (asxMoved_backoff_omRow ..).2, record]
    exact ⟨asxState_asxGo (by decide) h _, rfl, rfl, asxGo_onlyRegs h 1 (backoffEnded h s), records, records.sameMem⟩
  · have stays : asxGoIf (· == 5) h 1 (backoffEnded h s) = backoffEnded h s := if_neg (by rw [state]; simpa using tripped)
    rw [stays, if_neg tripped, record]
    exact ⟨state, rfl, rfl, .of_regs _ rfl, ended, ended.sameMem⟩

/-- The record of the head after a write of FORCE_OFF: the fall of READY that it asks for (R153). -/
def forceRecord (h : Nat) (on : Bool) (s : State) : AsxSt :=
  { asxOf h s with forceIn := if !on then 0 else if get (Reg.ASX_HCTL.FORCE_OFF h) s = 1 then (asxOf h s).forceIn else 2 }

theorem exec_forceOffWrite (hh : h < 24) (on : Bool) (s : State) : exec (.forceOffWrite h on) s = .next
    (put (Reg.ASX_HCTL.FORCE_OFF h) (b2n on) (setAsx h (forceRecord h on s) s)) := by
  rw [show exec (.forceOffWrite h on) s = execForceOffWrite h on s from rfl, execForceOffWrite, unit_of_lt hh, forceRecord]

theorem forceOffWrite_stores (hh : h < 24) (b : Bool) (s : State) : Gives (.forceOffWrite h b) s (fun t =>
    get (Reg.ASX_HCTL.FORCE_OFF h) t = b2n b ∧
    ((asxOf h t).forceIn = (if b = false then 0 else if get (Reg.ASX_HCTL.FORCE_OFF h) s = 1 then (asxOf h s).forceIn else 2)) ∧
    OnlyRegs [Reg.ASX_HCTL.FORCE_OFF h] s t ∧
    t = { s with regs := t.regs, asx := t.asx } ∧
    SameMem s t) := by
  refine .of_next (exec_forceOffWrite hh b s) ⟨?_, ?_, put_onlyRegs (by simp) _ _, rfl, fun _ => rfl⟩
  · rw [get_put_self]
    cases b <;> rfl
  · rw [asxOf_put, asxOf_setAsx_self, forceRecord]
    cases b <;> rfl

end Cleared

/-! ### A head that is retired for life, and the factory current (R163, R167) -/

/-- What an event that concerns a register leaves. -/
theorem postReg_recorded (f : Fld) (n : Nat) (s : State) :
    postReg f n s = { s with evr := (postReg f n s).evr, host := { s.host with msixPend := (postReg f n s).host.msixPend } } := by
  have posted (c u : Nat) (l : List Nat) :
      post c u l s = { s with evr := (post c u l s).evr, host := { s.host with msixPend := (post c u l s).host.msixPend } } := rfl
  delta postReg
  exact posted ..

theorem postReg_sameMem (f : Fld) (n : Nat) (s : State) : SameMem s (postReg f n s) := ((Spares.refl (keep := fun _ => true) s).postReg f n).sameMem

section Retired

variable {h : Nat} {s : State}

/-- The head goes to RETIRED, where it stays. -/
def assistRetired (h : Nat) (s : State) : State := asxGoIf (fun x => decide (x ≤ 5)) h 6 s

theorem exec_retireDone (hh : h < 24) (hp : get (Reg.ASX_HSTAT.RETIRE_PEND h) s ≠ 0) (hu : headInUse h s = false) :
    exec (.retireDone h) s = .next (putBit Reg.ASX_RETIRED.MAP h true (assistRetired h s)) := by
  rw [show exec (.retireDone h) s = execRetireDone h s from rfl, execRetireDone, unit_of_lt hh, if_neg (by simp [hp, hu]), assistRetired]

theorem exec_retireDone_ignored (hh : h < 24) (hp : get (Reg.ASX_HSTAT.RETIRE_PEND h) s = 0 ∨ headInUse h s = true) :
    exec (.retireDone h) s = .next (postReg (Reg.ASX_HCTL.RETIRE_DONE h) h s) := by
  rw [show exec (.retireDone h) s = execRetireDone h s from rfl, execRetireDone, unit_of_lt hh, if_pos hp]

theorem asxState_assistRetired (h5 : asxState h s ≤ 5) : asxState h (assistRetired h s) = 6 := by
  rw [assistRetired, asxGoIf, if_pos (decide_eq_true h5)]
  exact asxState_asxGo (by decide) h s

theorem assistRetired_onlyRegs (h : Nat) (s : State) : OnlyRegs (assistFields h) s (assistRetired h s) := by
  unfold assistRetired asxGoIf
  split
  · exact asxGo_onlyRegs h 6 s
  · exact .of_regs _ rfl

theorem assistRetired_onlyRecorded (h : Nat) (s : State) : OnlyRecorded s (assistRetired h s) := by
  unfold assistRetired asxGoIf
  split
  · exact asxGo_onlyRecorded h 6 s
  · rfl

theorem state_ne_map (h : Nat) : (Reg.ASX_HSTAT.STATE h).key ≠ Reg.ASX_RETIRED.MAP.key := by
  simp only [Fld.key, Reg.ASX_HSTAT.STATE, Reg.ASX_RETIRED.MAP]
  omega

theorem retireDone_retires (hh : h < 24) (hp : get (Reg.ASX_HSTAT.RETIRE_PEND h) s ≠ 0) (hu : headInUse h s = false) :
    Gives (.retireDone h) s (fun t =>
      bit Reg.ASX_RETIRED.MAP h t = true ∧
      ((asxState h s ≤ 5 → asxState h t = 6)) ∧
      OnlyRegs [Reg.ASX_HSTAT.STATE h, Reg.ASX_HSTAT.READY h, Reg.ASX_RETIRED.MAP] s t ∧
      OnlyRecorded s t ∧
      SameMem s t) := by
  have records : OnlyRecorded s (putBit Reg.ASX_RETIRED.MAP h true (assistRetired h s)) := (assistRetired_onlyRecorded h s).put ..
  refine .of_next (exec_retireDone hh hp hu) ⟨bit_putBit_self hh .., fun h5 => ?_, ?_, records, records.sameMem⟩
  · exact (get_put_ne (state_ne_map h) ..).trans (asxState_assistRetired h5)
  · exact ((assistRetired_onlyRegs h s).mono (by simp [assistFields])).trans (put_onlyRegs (by simp) _ _)

theorem retireDone_ignored (hh : h < 24) (hp : get (Reg.ASX_HSTAT.RETIRE_PEND h) s = 0 ∨ headInUse h s = true) :
    Gives (.retireDone h) s (fun t =>
      OnlyRegs [] s t ∧
      t = { s with evr := t.evr, host := { s.host with msixPend := t.host.msixPend } } ∧
      SameMem s t) :=
  .of_next (exec_retireDone_ignored hh hp) ⟨.of_regs _ (postReg_regs ..), postReg_recorded .., postReg_sameMem _ _ _⟩

theorem exec_iop0Write (hh : h < 24) (v : Nat) (s : State) : exec (.iop0Write h v) s = .next
    (if get (Reg.ASX_IOP0.IOP0 h) s ≠ 0 then postReg (Reg.ASX_IOP0.IOP0 h) h s else put (Reg.ASX_IOP0.IOP0 h) (bits v 0 16) s) := by
  rw [show exec (.iop0Write h v) s = execIop0Write h v s from rfl, execIop0Write, unit_of_lt hh]

theorem iop0Write_once (hh : h < 24) (v : Nat) (s : State) : Gives (.iop0Write h v) s (fun t =>
    (get (Reg.ASX_IOP0.IOP0 h) t = (if get (Reg.ASX_IOP0.IOP0 h) s = 0 then v % 2 ^ 16 else get (Reg.ASX_IOP0.IOP0 h) s)) ∧
    OnlyRegs [Reg.ASX_IOP0.IOP0 h] s t ∧
    t = { s with regs := t.regs, evr := t.evr, host := { s.host with msixPend := t.host.msixPend } } ∧
    SameMem s t) := by
  refine .of_next (exec_iop0Write hh v s) ?_
  by_cases fresh : get (Reg.ASX_IOP0.IOP0 h) s = 0
  · have value : bits v 0 16 % 2 ^ 16 = v % 2 ^ 16 := by rw [bits_mod, bits, pow_zero, Nat.div_one]
    rw [if_pos fresh, if_neg (not_not.2 fresh)]
    exact ⟨(get_put_self ..).trans value, put_onlyRegs (by simp) _ s, rfl, fun _ => rfl⟩
  · have ignored := postReg_recorded (Reg.ASX_IOP0.IOP0 h) h s
    rw [if_neg fresh, if_pos fresh]
    exact ⟨get_postReg .., .of_regs _ (postReg_regs ..), by rw [postReg_regs]; exact ignored, postReg_sameMem _ _ _⟩

end Retired

end Sys2Proof.Machine

namespace Sys2Proof.Machine

open Sys2Proof

/-! ### What a head that stops writing leaves (R165, R166) -/

/-- The fields outside ACT, ASX and HCH, and with them the head's mark of a pending retirement and its average. -/
def stopKeys (h k : Nat) : Bool :=
  outsideBlocks [5, 6, 7] k || k == (Reg.ASX_HSTAT.RETIRE_PEND h).key || k == (Reg.ASX_IOP.IOP_AVG h).key

section StopKeys

variable {h a n b lo w r : Nat}

theorem stopKeys_eq_false {x : Nat} (hx : 0x40050000 ≤ x) (hx' : x < 0x40080000) (hl : lo < 32)
    (hp : x ≠ 0x40060100 + 32 * h ∨ lo ≠ 4) (hi : x ≠ 0x40060108 + 32 * h ∨ lo ≠ 0) : stopKeys h (Fld.mk x lo w r).key = false := by
  have block : regBlock ((Fld.mk x lo w r).key / 32) ∈ [5, 6, 7] := by
    simp only [regBlock, Fld.key, List.mem_cons, List.not_mem_nil, or_false]
    omega
  have pend : (Fld.mk x lo w r).key ≠ (Reg.ASX_HSTAT.RETIRE_PEND h).key := by
    simp only [Fld.key, Reg.ASX_HSTAT.RETIRE_PEND]
    omega
  have average : (Fld.mk x lo w r).key ≠ (Reg.ASX_IOP.IOP_AVG h).key := by
    simp only [Fld.key, Reg.ASX_IOP.IOP_AVG]
    omega
  rw [stopKeys, outsideBlocks, List.contains_iff_mem.2 block, beq_eq_false_iff_ne.2 pend, beq_eq_false_iff_ne.2 average]
  rfl

theorem stopKeys_pend (h : Nat) : stopKeys h (Reg.ASX_HSTAT.RETIRE_PEND h).key = true := by simp [stopKeys]
theorem stopKeys_average (h : Nat) : stopKeys h (Reg.ASX_IOP.IOP_AVG h).key = true := by simp [stopKeys]
theorem stopKeys_of_outside {k : Nat} (hk : outsideBlocks [5, 6, 7] k = true) : stopKeys h k = true := by simp [stopKeys, hk]

/-- The fields of an actuator. -/
theorem stopKeys_act (ha : a < 2) (hb : 0x40050000 ≤ b := by decide) (hb' : b < 0x40060000 := by decide) (hl : lo < 32 := by decide) :
    stopKeys h (Fld.mk (b + 256 * a) lo w r).key = false :=
  stopKeys_eq_false (by omega) (by omega) hl (by omega) (by omega)

/-- The status of a stream. -/
theorem stopKeys_stream (hn : n < 5) (hl : lo < 32 := by decide) : stopKeys h (Fld.mk (0x40070004 + 256 * n) lo w r).key = false :=
  stopKeys_eq_false (by omega) (by omega) hl (by omega) (by omega)

/-- STATE and READY of the head. -/
theorem stopKeys_head (hh : h < 24) (hl : lo = 0 ∨ lo = 3) : stopKeys h (Fld.mk (0x40060100 + 32 * h) lo w r).key = false :=
  stopKeys_eq_false (by omega) (by omega) (by omega) (by omega) (by omega)

end StopKeys

/-- No write episode of the head is open, and none waits for its update. -/
def EpisodeOver (r : AsxSt) : Prop := r.inEpisode = false ∧ r.ended = false

theorem EpisodeOver.moved {r : AsxSt} (h : EpisodeOver r) (new : Nat) : EpisodeOver (asxMoved new r) := by
  obtain ⟨closed, seen⟩ := h
  have none (p : Prop) : ¬ (r.inEpisode = true ∧ p) := fun k => by rw [closed] at k; exact absurd k.1 (by decide)
  rw [asxMoved, if_neg (none _)]
  exact ⟨closed, seen⟩

/-- The head stops: of ASX its average and the mark of its retirement stay, and no episode opens. -/
structure HeadStops (h : Nat) (s t : State) : Prop extends Spares (stopKeys h) s t where
  closed : EpisodeOver (asxOf h s) → EpisodeOver (asxOf h t)

theorem actOfHead_lt (h : Nat) : actOfHead h < 2 := by unfold actOfHead; split <;> decide

theorem streamOf_lt {a : Nat} (ha : a < 2) (s : State) : streamOf a 2 s < 5 := by
  unfold streamOf
  dsimp only
  split <;> omega

section HeadStops

variable {h a k : Nat} {s t u : State}

theorem HeadStops.refl (s : State) : HeadStops h s s := ⟨.refl s, id⟩

theorem HeadStops.trans (p : HeadStops h s t) (q : HeadStops h t u) : HeadStops h s u :=
  ⟨p.toSpares.trans q.toSpares, fun e => q.closed (p.closed e)⟩

theorem HeadStops.ite {c : Prop} [Decidable c] (p : HeadStops h s t) (q : HeadStops h s u) : HeadStops h s (if c then t else u) := by
  split <;> assumption

/-- What leaves the record of the head's assist. -/
theorem Spares.headStops (p : Spares (stopKeys h) s t) (same : asxOf h t = asxOf h s) : HeadStops h s t := ⟨p, fun e => by rwa [same]⟩

theorem HeadStops.puts (p : HeadStops h s t) {l : List (Fld × Nat)} (hl : ∀ q ∈ l, stopKeys h q.1.key = false) : HeadStops h s (puts l t) :=
  p.trans (((Spares.refl t).puts hl).headStops (asxOf_puts ..))

theorem HeadStops.bump (p : HeadStops h s t) {f : Fld} (hf : stopKeys h f.key = false) : HeadStops h s (bump f t) :=
  p.trans (((Spares.refl t).bump hf).headStops rfl)

theorem HeadStops.setAct (p : HeadStops h s t) (a : Nat) (r : ActSt) : HeadStops h s (setAct a r t) :=
  p.trans (((Spares.refl t).setAct a r).headStops rfl)

theorem HeadStops.raisePost (p : HeadStops h s t) (n v : Nat) (l : List Nat) : HeadStops h s (raisePost n v l t) :=
  p.trans (((Spares.refl t).raisePost n v l).headStops (asxOf_raisePost ..))

theorem asxGo_headStops (hh : h < 24) (new : Nat) (s : State) : HeadStops h s (asxGo h new s) := by
  have shown : ∀ p ∈ [(Reg.ASX_HSTAT.STATE h, new), (Reg.ASX_HSTAT.READY h, if new = 3 then 1 else 0)], stopKeys h p.1.key = false := by
    simp only [List.forall_mem_cons, List.not_mem_nil, false_imp_iff, implies_true, and_true]
    exact ⟨stopKeys_head hh (.inl rfl), stopKeys_head hh (.inr rfl)⟩
  exact ⟨(((Spares.refl s).setAsx ..).puts shown).postReg .., fun e => by rw [asxOf_asxGo]; exact e.moved new⟩

theorem HeadStops.off (p : HeadStops h s t) (hh : h < 24) {g : Nat} (hg : g = h) : HeadStops h s (asxOff g t) := by
  subst hg
  exact p.trans (.ite (asxGo_headStops hh 0 t) (.refl t))

/-! Permits (R139) -/

theorem stopKeys_permitFld (ha : a < 2) (k : Nat) : stopKeys h (permitFld a k).key = false := by
  unfold permitFld
  split <;> exact stopKeys_act ha

@[simp] theorem asxOf_sendBlocks (h l : Nat) (b : List Nat) (s : State) : asxOf h (sendBlocks l b s) = asxOf h s := by
  unfold sendBlocks carried setLink
  dsimp only
  split <;> rfl

@[simp] theorem asxOf_gateOff (h a k : Nat) (s : State) : asxOf h (gateOff a k s) = asxOf h s := by
  unfold gateOff
  split
  · exact asxOf_sendBlocks ..
  · rfl

@[simp] theorem asxOf_markUnwritten (h n : Nat) (s : State) : asxOf h (markUnwritten n s) = asxOf h s := by
  unfold markUnwritten
  split <;> rfl

@[simp] theorem asxOf_permitDrop (h a k c : Nat) (p : Int) (s : State) : asxOf h (permitDrop a k c p s) = asxOf h s := by
  unfold permitDrop
  split
  · rw [asxOf_raisePost, asxOf_markUnwritten, asxOf_bump, asxOf_put, asxOf_setAct, asxOf_gateOff]
  · rfl

theorem permitDrop_headStops (ha : a < 2) (k c : Nat) (p : Int) (s : State) : HeadStops h s (permitDrop a k c p s) := by
  have fell := ((gateOff_spares (keep := stopKeys h) a k s).setAct a (actFell k c (get (Reg.ACT_WEDGE_TIME.WEDGE a) s) p (actOf a s))).put
    (stopKeys_permitFld ha k) 0
  have counted := fell.bump (f := Reg.ACT_CNT.WUS a) (stopKeys_act ha)
  exact Spares.headStops (.ite ((counted.trans (markUnwritten_spares ..)).raisePost ..) (.refl s)) (asxOf_permitDrop ..)

/-- The pair of an actuator keeps its head 2 as a permit falls. -/
theorem permitDrop_head2 (a k c : Nat) (p : Int) (s : State) : (actOf a (permitDrop a k c p s)).head2 = (actOf a s).head2 := by
  unfold permitDrop
  split
  · rw [actOf_raisePost, actOf_markUnwritten, bump, actOf_put, actOf_put, actOf_setAct_self, actFell]
    split <;> rfl
  · rfl

theorem readyFall_headStops (hh : h < 24) (s : State) : HeadStops h s (readyFall h s) := by
  have fell : HeadStops h s (put (Reg.ASX_HSTAT.READY h) 0 s) :=
    ((Spares.refl s).put (stopKeys_head hh (.inr rfl)) 0).headStops rfl
  exact .ite fell (fell.trans (permitDrop_headStops (actOfHead_lt h) ..))

theorem readyFall_head2 (h : Nat) (s : State) : (actOf (actOfHead h) (readyFall h s)).head2 = (actOf (actOfHead h) s).head2 := by
  unfold readyFall
  dsimp only
  split
  · rfl
  · exact permitDrop_head2 ..

/-! A pair that falls back (R138) -/

/-- With head 2 of its pair named, the fallback leaves what a head that stops leaves. -/
theorem pairFallback_headStops (hh : h < 24) (ha : a < 2) (h2 : (actOf a s).head2 = h) (c : Nat) : HeadStops h s (pairFallback a c s) := by
  have stream := streamOf_lt ha s
  have marked : HeadStops h s (markUnwritten (streamOf a 2 s) (permitFall a 2 false 2 0 s)) :=
    (permitDrop_headStops ha 2 2 0 s).trans ((markUnwritten_spares ..).headStops (asxOf_markUnwritten ..))
  have shown (v : Nat) : ∀ p ∈ [(Reg.ACT_STAT.PAIRED a, 0), (Reg.ACT_PAIR_STAT.CAUSE a, c), (Reg.ACT_PAIR_STAT.HOLD a, v),
      (Reg.HCH_STAT.BUSY (streamOf a 2 s), 0), (Reg.HCH_STAT.WRITING (streamOf a 2 s), 0)], stopKeys h p.1.key = false := by
    simp only [List.forall_mem_cons, List.not_mem_nil, false_imp_iff, implies_true, and_true]
    exact ⟨stopKeys_act ha, stopKeys_act ha, stopKeys_act ha, stopKeys_stream stream, stopKeys_stream stream⟩
  have named : headOf a 2 s = h := h2
  unfold pairFallback
  refine HeadStops.raisePost (HeadStops.puts (HeadStops.bump (HeadStops.setAct (HeadStops.off ?queued hh named) ..) (stopKeys_act ha)) (shown _)) ..
  exact .ite ⟨marked.toSpares.record rfl rfl rfl rfl, marked.closed⟩ marked

/-! A retirement that is marked (R165, R166) -/

/-- The retirement is pending, with its line and its event. -/
def retireMarked (h : Nat) (s : State) : State := raisePost 193 h [] (put (Reg.ASX_HSTAT.RETIRE_PEND h) 1 s)

/-- A head that writes stops, at once or at the end of the sector in progress. -/
def writingStopped (h : Nat) (s : State) : State :=
  if 2 ≤ asxState h s ∧ asxState h s ≤ 4 then
    (if slotOf h s ≠ 0 ∧ get (Reg.HCH_STAT.WRITING (streamOf (actOfHead h) (slotOf h s) s)) s = 1 then
      setAsx h { asxOf h (retireMarked h s) with readAtEnd := true } (retireMarked h s)
    else asxGo h 1 (readyFall h (retireMarked h s)))
  else retireMarked h s

theorem retirePend_pending (hp : get (Reg.ASX_HSTAT.RETIRE_PEND h) s = 1) : retirePend h s = s := if_pos hp

/-- A mark that is new: as head 2 of a pair the head ends the pair. -/
theorem retirePend_new (hp : get (Reg.ASX_HSTAT.RETIRE_PEND h) s ≠ 1) : retirePend h s =
    if slotOf h s = 2 ∧ get (Reg.ACT_STAT.PAIRED (actOfHead h)) s = 1 then
      (if get (Reg.HCH_STAT.BUSY (streamOf (actOfHead h) 2 s)) s = 1 then
        setAct (actOfHead h) { actOf (actOfHead h) (writingStopped h s) with unpairPend := true } (writingStopped h s)
      else pairFallback (actOfHead h) 6 (writingStopped h s))
    else writingStopped h s := by
  delta writingStopped retireMarked
  exact if_neg hp

theorem writingStopped_headStops (hh : h < 24) (s : State) : HeadStops h (retireMarked h s) (writingStopped h s) := by
  have atEnd : HeadStops h (retireMarked h s) (setAsx h { asxOf h (retireMarked h s) with readAtEnd := true } (retireMarked h s)) :=
    ⟨(Spares.refl _).setAsx .., fun e => by rw [asxOf_setAsx_self]; exact e⟩
  exact .ite (.ite atEnd ((readyFall_headStops hh _).trans (asxGo_headStops hh 1 _))) (.refl _)

theorem writingStopped_head2 (h : Nat) (s : State) : (actOf (actOfHead h) (writingStopped h s)).head2 = (actOf (actOfHead h) s).head2 := by
  have marked : (actOf (actOfHead h) (retireMarked h s)).head2 = (actOf (actOfHead h) s).head2 := by rw [retireMarked, actOf_raisePost, actOf_put]
  unfold writingStopped
  split
  · split
    · exact marked
    · rw [(asxGo_assistOnly h 1 _).actOf, readyFall_head2, marked]
  · exact marked

/-- Head 2 of a pair is the one that the record of the actuator names. -/
theorem head2_of_slotOf (h2 : slotOf h s = 2) : (actOf (actOfHead h) s).head2 = h := by
  unfold slotOf at h2
  dsimp only at h2
  split at h2
  · exact absurd h2 (by decide)
  · split at h2
    · assumption
    · exact absurd h2 (by decide)

theorem retirePend_headStops (hh : h < 24) (hp : get (Reg.ASX_HSTAT.RETIRE_PEND h) s ≠ 1) : HeadStops h (retireMarked h s) (retirePend h s) := by
  have stopped := writingStopped_headStops hh s
  rw [retirePend_new hp]
  split
  next pair =>
    have named := (writingStopped_head2 h s).trans (head2_of_slotOf pair.1)
    exact .ite (stopped.setAct ..) (stopped.trans (pairFallback_headStops hh (actOfHead_lt h) named 6))
  next => exact stopped

end HeadStops

/-- The retirement of a head is pending, and what the mark of it leaves stands. -/
structure RetireMarked (h : Nat) (s t : State) : Prop where
  pending : get (Reg.ASX_HSTAT.RETIRE_PEND h) t = 1
  average : get (Reg.ASX_IOP.IOP_AVG h) t = get (Reg.ASX_IOP.IOP_AVG h) s
  closed : EpisodeOver (asxOf h s) → EpisodeOver (asxOf h t)
  outside : OnlyBlocks [5, 6, 7] s t
  mem : SameMem s t

theorem outsideBlocks_iff {l : List Nat} {k : Nat} : outsideBlocks l k = true ↔ regBlock (k / 32) ∉ l := by simp [outsideBlocks]

/-- The fields of a head in block 6. -/
theorem outsideBlocks_head {h b lo w r : Nat} (hh : h < 24) (hb : 0x40060000 ≤ b := by decide) (hb' : b < 0x40060200 := by decide)
    (hl : lo < 32 := by decide) : outsideBlocks [5, 6, 7] (Fld.mk (b + 32 * h) lo w r).key = false := by
  have block : regBlock ((Fld.mk (b + 32 * h) lo w r).key / 32) = 6 := by
    simp only [regBlock, Fld.key]
    omega
  simp [outsideBlocks, block]

theorem average_ne_pend (h : Nat) : (Reg.ASX_IOP.IOP_AVG h).key ≠ (Reg.ASX_HSTAT.RETIRE_PEND h).key := by
  simp only [Fld.key, Reg.ASX_IOP.IOP_AVG, Reg.ASX_HSTAT.RETIRE_PEND]
  omega

theorem retirePend_marks {h : Nat} (hh : h < 24) (s : State) : RetireMarked h s (retirePend h s) := by
  by_cases hp : get (Reg.ASX_HSTAT.RETIRE_PEND h) s = 1
  · rw [retirePend_pending hp]
    exact ⟨hp, rfl, id, fun _ _ => rfl, fun _ => rfl⟩
  · have stops := retirePend_headStops hh hp
    have marked : Spares (outsideBlocks [5, 6, 7]) s (retireMarked h s) := ((Spares.refl s).put (outsideBlocks_head hh) 1).raisePost ..
    have frame := marked.trans (stops.toSpares.mono fun _ => stopKeys_of_outside)
    exact {
      pending := by rw [stops.fields _ (stopKeys_pend h), retireMarked, get_raisePost, get_put_self]; rfl
      average := by rw [stops.fields _ (stopKeys_average h), retireMarked, get_raisePost, get_put_ne (average_ne_pend h)]
      closed := fun e => stops.closed (by rwa [retireMarked, asxOf_raisePost, asxOf_put])
      outside := fun f hf => frame.fields f (outsideBlocks_iff.2 hf)
      mem := frame.sameMem }

end Sys2Proof.Machine

namespace Sys2Proof.Machine

open Sys2Proof

/-! ### Aging (R163 to R165) -/

section Aging

variable {h : Nat} {s : State}

/-- The head has warned of its headroom where its average asks for it. -/
def headroomWarned (h : Nat) (s : State) : State :=
  if min 159 (get Reg.ASX_AGE_CFG.WARN s) * get (Reg.ASX_IOP0.IOP0 h) s ≤ 100 * get (Reg.ASX_IOP.IOP_AVG h) s ∧ (asxOf h s).warned = false then
    linePost 194 (Reg.ASX_HSTAT.WARN h) 1 h [] (setAsx h { asxOf h s with warned := true } s)
  else s

theorem headroom_eq (h : Nat) (s : State) : headroom h s =
    if 160 * get (Reg.ASX_IOP0.IOP0 h) s ≤ 100 * get (Reg.ASX_IOP.IOP_AVG h) s then retirePend h (headroomWarned h s)
    else headroomWarned h s := rfl

theorem average_ne_warn (h : Nat) : (Reg.ASX_IOP.IOP_AVG h).key ≠ (Reg.ASX_HSTAT.WARN h).key := by
  simp only [Fld.key, Reg.ASX_IOP.IOP_AVG, Reg.ASX_HSTAT.WARN]
  omega

theorem average_headroomWarned (h : Nat) (s : State) : get (Reg.ASX_IOP.IOP_AVG h) (headroomWarned h s) = get (Reg.ASX_IOP.IOP_AVG h) s := by
  unfold headroomWarned
  split
  · rw [get_linePost, get_put_ne (average_ne_warn h)]
    rfl
  · rfl

theorem EpisodeOver.warned (e : EpisodeOver (asxOf h s)) : EpisodeOver (asxOf h (headroomWarned h s)) := by
  unfold headroomWarned
  split
  · rw [asxOf_linePost, asxOf_setAsx_self]
    exact e
  · exact e

theorem headroomWarned_spares (hh : h < 24) (s : State) : Spares (outsideBlocks [5, 6, 7]) s (headroomWarned h s) :=
  .ite (((Spares.refl s).setAsx ..).linePost (outsideBlocks_head hh) ..) (.refl s)

/-- The headroom of a head has been judged: what its average leaves, and the mark of its retirement at the end of the headroom. -/
structure HeadroomJudged (h : Nat) (s t : State) : Prop where
  average : get (Reg.ASX_IOP.IOP_AVG h) t = get (Reg.ASX_IOP.IOP_AVG h) s
  closed : EpisodeOver (asxOf h s) → EpisodeOver (asxOf h t)
  pending : 160 * get (Reg.ASX_IOP0.IOP0 h) s ≤ 100 * get (Reg.ASX_IOP.IOP_AVG h) s → get (Reg.ASX_HSTAT.RETIRE_PEND h) t = 1
  outside : OnlyBlocks [5, 6, 7] s t
  mem : SameMem s t

theorem headroom_judged (hh : h < 24) (s : State) : HeadroomJudged h s (headroom h s) := by
  have warned := headroomWarned_spares hh s
  have outside : OnlyBlocks [5, 6, 7] s (headroomWarned h s) := fun f hf => warned.fields f (outsideBlocks_iff.2 hf)
  rw [headroom_eq]
  split
  next used =>
    have marks := retirePend_marks hh (headroomWarned h s)
    exact {
      average := marks.average.trans (average_headroomWarned h s)
      closed := fun e => marks.closed e.warned
      pending := fun _ => marks.pending
      outside := fun f hf => (marks.outside f hf).trans (outside f hf)
      mem := fun a => (marks.mem a).trans (warned.sameMem a) }
  next left => exact ⟨average_headroomWarned h s, fun e => e.warned, fun used => absurd used left, outside, warned.sameMem⟩

/-- The fields that the end of a long episode updates. -/
def agedFields (h : Nat) (s : State) : List (Fld × Nat) :=
  [(Reg.ASX_IOP.IOP_AVG h, iopAfter h s), (Reg.ASX_IOP.LAST h, ofInt 16 (roundOpen (iNorm2560 h s) 2560))]

/-- The average is updated and the episode forgotten. -/
def averaged (h : Nat) (s : State) : State := puts (agedFields h s) (setAsx h { asxOf h s with ended := false, episode := 0 } s)

theorem exec_agingUpdate (hh : h < 24) (he : (asxOf h s).ended = true) (hl : 64 ≤ (asxOf h s).episode) (hi : get (Reg.ASX_IOP0.IOP0 h) s ≠ 0) :
    exec (.agingUpdate h) s = .next (headroom h (averaged h s)) := by
  rw [show exec (.agingUpdate h) s = execAgingUpdate h s from rfl, execAgingUpdate, unit_of_lt hh, occurs_of ⟨he, hl⟩, if_neg hi, averaged, agedFields]

theorem exec_agingUpdate_untracked (hh : h < 24) (he : (asxOf h s).ended = true) (hl : 64 ≤ (asxOf h s).episode)
    (hi : get (Reg.ASX_IOP0.IOP0 h) s = 0) : exec (.agingUpdate h) s = .next (untrackedEpisode h s) := by
  rw [show exec (.agingUpdate h) s = execAgingUpdate h s from rfl, execAgingUpdate, unit_of_lt hh, occurs_of ⟨he, hl⟩, if_pos hi]

theorem ofInt_lt (w : Nat) (i : Int) : ofInt w i < 2 ^ w := by
  have pos : (0 : Int) < 2 ^ w := by positivity
  rw [ofInt, Int.toNat_lt (Int.emod_nonneg i pos.ne')]
  exact_mod_cast Int.emod_lt_of_pos i pos

theorem averaged_wrote (h : Nat) (s : State) : Wrote (agedFields h s) s (averaged h s) :=
  have forgotten : Wrote [] s (setAsx h { asxOf h s with ended := false, episode := 0 } s) := rfl
  forgotten.puts (agedFields h s)

theorem average_averaged (h : Nat) (s : State) : get (Reg.ASX_IOP.IOP_AVG h) (averaged h s) = iopAfter h s := by
  have apart : (((agedFields h s).map Prod.fst).map Fld.key).Nodup := by simp [agedFields, Fld.key, Reg.ASX_IOP.IOP_AVG, Reg.ASX_IOP.LAST]
  rw [(averaged_wrote h s).get_mem apart (v := iopAfter h s) (by simp [agedFields])]
  exact Nat.mod_eq_of_lt (ofInt_lt 16 _)

theorem iop0_averaged (h : Nat) (s : State) : get (Reg.ASX_IOP0.IOP0 h) (averaged h s) = get (Reg.ASX_IOP0.IOP0 h) s := by
  refine (averaged_wrote h s).get_ne ?_
  simp only [agedFields, Fld.key, Reg.ASX_IOP0.IOP0, Reg.ASX_IOP.IOP_AVG, Reg.ASX_IOP.LAST, List.map_cons, List.map_nil, List.mem_cons,
    List.not_mem_nil, or_false]
  omega

theorem asxOf_averaged (h : Nat) (s : State) : asxOf h (averaged h s) = { asxOf h s with ended := false, episode := 0 } := by
  rw [averaged, asxOf_puts, asxOf_setAsx_self]

theorem averaged_spares (hh : h < 24) (s : State) : Spares (outsideBlocks [5, 6, 7]) s (averaged h s) := by
  refine ((Spares.refl s).setAsx ..).puts ?_
  simp only [agedFields, List.forall_mem_cons, List.not_mem_nil, false_imp_iff, implies_true, and_true]
  exact ⟨outsideBlocks_head hh, outsideBlocks_head hh⟩

/-- The end of a long episode: the average is updated, and the headroom judged by it. -/
theorem agingUpdate_averages (hh : h < 24) (he : (asxOf h s).ended = true) (hl : 64 ≤ (asxOf h s).episode)
    (hi : get (Reg.ASX_IOP0.IOP0 h) s ≠ 0) : Gives (.agingUpdate h) s (fun t =>
      get (Reg.ASX_IOP.IOP_AVG h) t = iopAfter h s ∧
      ((asxOf h s).inEpisode = false → (asxOf h t).ended = false) ∧
      (160 * get (Reg.ASX_IOP0.IOP0 h) s ≤ 100 * iopAfter h s → get (Reg.ASX_HSTAT.RETIRE_PEND h) t = 1) ∧
      OnlyBlocks [5, 6, 7] s t ∧
      SameMem s t) := by
  have judged := headroom_judged hh (averaged h s)
  have updated := averaged_spares hh s
  refine .of_next (exec_agingUpdate hh he hl hi) ⟨?average, ?ended, ?pending, ?outside, ?mem⟩
  case average => exact judged.average.trans (average_averaged h s)
  case ended =>
    intro closed
    have forgotten : EpisodeOver (asxOf h (averaged h s)) := by
      rw [asxOf_averaged]
      exact ⟨closed, rfl⟩
    exact (judged.closed forgotten).2
  case pending =>
    intro used
    exact judged.pending (by rwa [iop0_averaged, average_averaged])
  case outside => exact fun f hf => (judged.outside f hf).trans (updated.fields f (outsideBlocks_iff.2 hf))
  case mem => exact fun a => (judged.mem a).trans (updated.sameMem a)

theorem agingUpdate_untracked (hh : h < 24) (he : (asxOf h s).ended = true) (hl : 64 ≤ (asxOf h s).episode)
    (hi : get (Reg.ASX_IOP0.IOP0 h) s = 0) : Gives (.agingUpdate h) s (fun t =>
      (asxOf h t).ended = false ∧
      (asxOf h t).episode = 0 ∧
      OnlyRegs [] s t ∧
      t = { s with asx := t.asx } ∧
      SameMem s t) := by
  refine .of_next (exec_agingUpdate_untracked hh he hl hi) ⟨?_, ?_, .of_regs _ rfl, rfl, fun _ => rfl⟩ <;>
  rw [untrackedEpisode, asxOf_setAsx_self]

end Aging

theorem exec_retireReq {h : Nat} (hh : h < 24) (s : State) : exec (.retireReq h) s = .next (retirePend h s) := by
  rw [show exec (.retireReq h) s = execRetireReq h s from rfl, execRetireReq, unit_of_lt hh]

/-! ### The settled statement -/

/-- What arming shows. -/
theorem armed_shows (h : Nat) (s : State) :
    asxState h (armed h s) = 3 ∧
    (get (Reg.ASX_HSTAT.READY h) (armed h s) = (if get (Reg.ASX_HCTL.FORCE_OFF h) s = 1 then 0 else 1)) ∧
    OnlyRegs (assistFields h) s (armed h s) ∧
    OnlyRecorded s (armed h s) ∧
    SameMem s (armed h s) :=
  ⟨asxState_armed h s, ready_armed h s, armed_onlyRegs h s, armed_onlyRecorded h s, (armed_onlyRecorded h s).sameMem⟩

/-- Settles O31: transitions move STATE and READY of the head and tell of it; a trip counts on top, and aging updates the average before the
headroom is judged, which may stop the head and end its pair. -/
theorem assistStatesAndAging : Obligations.AssistStatesAndAging := by
  unfold Obligations.AssistStatesAndAging
  refine ⟨?armed, ?requal, ?storm, ?trip, ?clrTrip, ?clr, ?forceOff, ?retireReq, ?retireDone, ?retireIgnored, ?iop0, ?agedOver, ?aged, ?untracked⟩
  case armed => exact fun h s hh hs ht => .of_next (exec_assistArmed hh hs ht) (armed_shows h s)
  case requal => exact fun h s hh hs ht => .of_next (exec_assistHoldRequal hh hs ht) (armed_shows h s)
  case storm =>
    intro h s hh h1 h4 hops
    have tripped := asxTrip_tripped (c := 3) (by decide) h1 h4
    exact .of_next (exec_hopStorm hh h1 h4 hops)
      ⟨tripped.state, tripped.cause, tripped.trips, fallPend_asxTrip h1 h4, tripped.fields, tripped.records, tripped.records.sameMem⟩
  case trip =>
    intro h c s hh _ hc h1 h4 hk
    obtain ⟨t, answers, tripped, backoff⟩ := assistTrip_trips hh hc h1 h4 hk
    exact .of_next answers ⟨tripped.state, tripped.cause, tripped.trips, backoff, tripped.fields, tripped.records, tripped.records.sameMem⟩
  case clrTrip =>
    intro h s hh hs
    obtain ⟨t, answers, state, backoff, -, frame⟩ := assistClr_clears hh s
    exact .of_next answers ⟨state.trans (if_pos hs), backoff, frame⟩
  case clr => exact fun h s hh => assistClr_clears hh s
  case forceOff => exact fun h b s hh => forceOffWrite_stores hh b s
  case retireReq =>
    intro h s hh
    have marks := retirePend_marks hh s
    exact .of_next (exec_retireReq hh s) ⟨marks.pending, marks.outside, marks.mem⟩
  case retireDone => exact fun h s hh hp hu => retireDone_retires hh hp hu
  case retireIgnored => exact fun h s hh hp => retireDone_ignored hh hp
  case iop0 => exact fun h v s hh => iop0Write_once hh v s
  case agedOver =>
    intro h s hh he closed hl hi
    obtain ⟨t, answers, average, ended, rest⟩ := agingUpdate_averages hh he hl hi
    exact .of_next answers ⟨average, ended closed, rest⟩
  case aged =>
    intro h s hh he hl hi
    obtain ⟨t, answers, average, -, rest⟩ := agingUpdate_averages hh he hl hi
    exact .of_next answers ⟨average, rest⟩
  case untracked => exact fun h s hh he hl hi => agingUpdate_untracked hh he hl hi

end Sys2Proof.Machine

/-! SUPPORT. Proofs of the obligations of the disk read channel family (07_disk_read_channel.md). -/

namespace Sys2Proof.Machine

open Sys2Proof

/-! ### The records of the head links and of the streams -/

@[simp] theorem hlkOf_setHlk_self (l : Nat) (r : HlkSt) (s : State) : hlkOf l (setHlk l r s) = r := by simp [hlkOf, setHlk]
@[simp] theorem hlkOf_put (l : Nat) (f : Fld) (v : Nat) (s : State) : hlkOf l (put f v s) = hlkOf l s := rfl
@[simp] theorem hlkOf_puts (l : Nat) (k : List (Fld × Nat)) (s : State) : hlkOf l (puts k s) = hlkOf l s := by
  rw [hlkOf, puts_onlyRegisters, hlkOf]

theorem OnlyEvents.hlkOf {s t : State} (h : OnlyEvents s t) (l : Nat) : hlkOf l t = hlkOf l s := by rw [Machine.hlkOf, h, Machine.hlkOf]

@[simp] theorem hlkOf_raisePost (l n u : Nat) (p : List Nat) (s : State) : hlkOf l (raisePost n u p s) = hlkOf l s :=
  (raisePost_onlyEvents n u p s).hlkOf l
@[simp] theorem hlkOf_linePost (l n : Nat) (f : Fld) (v u : Nat) (p : List Nat) (s : State) : hlkOf l (linePost n f v u p s) = hlkOf l s :=
  (linePost_onlyEvents n f v u p s).hlkOf l
@[simp] theorem hlkOf_promoted (l : Nat) (f : Fld) (s : State) : hlkOf l (promoted f s) = hlkOf l s := (promoted_onlyEvents f s).hlkOf l

@[simp] theorem hchOf_setHch_self (n : Nat) (r : HchSt) (s : State) : hchOf n (setHch n r s) = r := by simp [hchOf, setHch]
@[simp] theorem hchOf_setHlk (n l : Nat) (r : HlkSt) (s : State) : hchOf n (setHlk l r s) = hchOf n s := rfl

/-- Links 0 and 1 are the head links. -/
theorem linkOf_head {l : Nat} (hl : l < 2) (s : State) : linkOf l s = hlkOf l s := if_neg (by omega)
theorem setLink_head {l : Nat} (hl : l < 2) (r : HlkSt) (s : State) : setLink l r s = setHlk l r s := if_neg (by omega)

/-! ### What a head link's operations leave -/

/-- Nothing has changed but registers, the records of the head links and what an event leaves. -/
def OnlyLinks (s t : State) : Prop :=
  t = { s with regs := t.regs, hlk := t.hlk, sent := t.sent, sys := t.sys, evr := t.evr, host := { s.host with msixPend := t.host.msixPend } }

section OnlyLinks

variable {s t u : State}

theorem OnlyLinks.trans (h : OnlyLinks s t) (k : OnlyLinks t u) : OnlyLinks s u :=
  Eq.trans k (congrArg (fun x : State => { x with regs := u.regs, hlk := u.hlk, sent := u.sent, sys := u.sys, evr := u.evr
                                                  host := { x.host with msixPend := u.host.msixPend } }) h)

theorem OnlyEvents.onlyLinks (h : OnlyEvents s t) : OnlyLinks s t := by
  unfold OnlyLinks
  rw [h]

theorem OnlyLinks.sameMem (h : OnlyLinks s t) : SameMem s t := by
  intro a
  rw [h]
  rfl

theorem OnlyLinks.ite {c : Prop} [Decidable c] (h : OnlyLinks s t) (k : OnlyLinks s u) : OnlyLinks s (if c then t else u) := by
  split <;> assumption

theorem setHlk_onlyLinks (l : Nat) (r : HlkSt) (s : State) : OnlyLinks s (setHlk l r s) := rfl

theorem OnlyLinks.put (h : OnlyLinks s t) (f : Fld) (v : Nat) : OnlyLinks s (put f v t) := h.trans (put_onlyRegisters f v t).onlyEvents.onlyLinks
theorem OnlyLinks.bumpSat (h : OnlyLinks s t) (f : Fld) : OnlyLinks s (bumpSat f t) := h.put f _
theorem OnlyLinks.puts (h : OnlyLinks s t) (l : List (Fld × Nat)) : OnlyLinks s (puts l t) := h.trans (puts_onlyRegisters l t).onlyEvents.onlyLinks

end OnlyLinks

/-! ### Blocks that leave on a head link (R169, R172) -/

section Send

variable {l : Nat} (hl : l < 2) (b : List Nat) (s : State)
include hl

theorem sendBlocks_head : sendBlocks l b s = send (.headLink l b (wordsFor l (b.map (fun x => (true, x))) s))
    (setHlk l { hlkOf l s with tx := ((wordsFor l (b.map (fun x => (true, x))) s).getLast?.map (· / 4)).getD (hlkOf l s).tx } s) := by
  rw [sendBlocks, carried, linkOf_head hl, setLink_head hl, if_neg (by omega)]

theorem sendBlocks_head_sent : (sendBlocks l b s).sent = s.sent ++ [.headLink l b (wordsFor l (b.map (fun x => (true, x))) s)] := by
  rw [sendBlocks_head hl]
  rfl

theorem sendBlocks_head_onlyLinks : OnlyLinks s (sendBlocks l b s) := by
  rw [sendBlocks_head hl]
  rfl

/-- A block that leaves moves no more of the link's record than what its transmit lane has carried. -/
theorem hlkOf_sendBlocks : hlkOf l (sendBlocks l b s) = { hlkOf l s with tx := (hlkOf l (sendBlocks l b s)).tx } := by
  have sent (m : Msg) (t : State) : hlkOf l (send m t) = hlkOf l t := rfl
  rw [sendBlocks_head hl, sent, hlkOf_setHlk_self]

omit hl in
theorem sendBlocks_regs (l : Nat) : (sendBlocks l b s).regs = s.regs := by
  unfold sendBlocks carried setLink
  dsimp only
  split <;> rfl

/-- The words of a link depend on what its transmit lane has carried alone. -/
theorem wordsFor_congr {t : State} (h : (hlkOf l t).tx = (hlkOf l s).tx) (b : List (Bool × Nat)) : wordsFor l b t = wordsFor l b s := by
  rw [wordsFor, linkOf_head hl, h, wordsFor, linkOf_head hl]

end Send

/-! ### Rows of writes with conditions -/

theorem Wrote.ite {c : Prop} [Decidable c] {l k : List (Fld × Nat)} {s t u : State} (h : Wrote l s t) (h' : Wrote (l ++ k) s u) :
    Wrote (l ++ if c then k else []) s (if c then u else t) := by
  split
  · exact h'
  · rwa [List.append_nil]

/-- A saturating counter that has not been written counts from what it was. -/
theorem Wrote.bumpSat {l : List (Fld × Nat)} {s t : State} (h : Wrote l s t) {f : Fld} (hf : f.key ∉ (l.map Prod.fst).map Fld.key) :
    Wrote (l ++ [(f, min (get f s + 1) (2 ^ f.width - 1))]) s (bumpSat f t) := by
  rw [Machine.bumpSat, h.get_ne hf]
  exact h.put f _

theorem Wrote.linePost {l : List (Fld × Nat)} {s t : State} (h : Wrote l s t) (n : Nat) (f : Fld) (v u : Nat) (p : List Nat) :
    Wrote (l ++ [(f, v)]) s (linePost n f v u p t) := (h.put f v).of_regs (linePost_regs ..)

/-- A bit of a field of width 1. -/
theorem b2n_mod_two (b : Bool) : b2n b % 2 ^ 1 = b2n b := by cases b <;> rfl

end Sys2Proof.Machine

namespace Sys2Proof.Machine

open Sys2Proof

/-! ### Training (R174, R176) -/

/-- The lanes of a training are locked and lie within the skew that HLK takes up. -/
abbrev trainAligned (o : TrainObs) : Bool := !(lockedLanes o.locks).isEmpty && ((lockedLanes o.locks).length == 1 || decide (o.skew ≤ 32))
/-- Its transmit lane is up. -/
abbrev trainTx (o : TrainObs) (s : State) : Bool := trainAligned o && echoed o s
/-- Its link is up. -/
abbrev trainUp (o : TrainObs) (s : State) : Bool := trainTx o s && framesAdvance o.seqs
/-- Its link is up with one lane. -/
abbrev trainOne (o : TrainObs) (s : State) : Bool := trainUp o s && (lockedLanes o.locks).length == 1
/-- Its logical lanes. -/
abbrev trainLane0 (o : TrainObs) : Nat := (lockedLanes o.locks).headD 0
abbrev trainLane1 (o : TrainObs) : Nat := (lockedLanes o.locks).getD 1 (trainLane0 o)

/-- The blocks that a training sends. -/
abbrev trainBlocks (o : TrainObs) (s : State) : List Nat :=
  [blkIdle] ++ (if (lockedLanes o.locks).isEmpty then [] else [blkLanes (trainLane0 o) (trainLane1 o)])
  ++ (if trainAligned o = true then (tickSeqs s).map (fun q => blkTick q 0) else [])

/-- The registers that every training writes. -/
def trainShown (l : Nat) (o : TrainObs) (s : State) : List (Fld × Nat) :=
  [(Reg.HLK_STAT.LOCK l, o.locks % 8), (Reg.HLK_STAT.TX_UP l, b2n (trainTx o s)), (Reg.HLK_STAT.LOG0 l, trainLane0 o),
   (Reg.HLK_STAT.LOG1 l, trainLane1 o), (Reg.HLK_STAT.SINGLE l, b2n ((lockedLanes o.locks).length == 1)),
   (Reg.HLK_STAT.UP l, b2n (trainUp o s)), (Reg.HLK_STAT.MISS l, 0)]

/-- Those, with the count of tries after a fault, the delay of a link that sends, and the pairing that a single lane ends. -/
def trainWrites (l : Nat) (o : TrainObs) (s : State) : List (Fld × Nat) :=
  trainShown l o s
  ++ (if (hlkOf l s).faulted = true then
        [(Reg.HLK_STAT.TRIES l, min (get (Reg.HLK_STAT.TRIES l) s + 1) (2 ^ (Reg.HLK_STAT.TRIES l).width - 1))] else [])
  ++ (if trainTx o s = true then [(Reg.HLK_DELAY.DELAY l, linkDelay o)] else [])
  ++ (if trainOne o s = true then [(Reg.ACT_CTL.PAIR_EN l, 0)] else [])

/-- The fields of a training. -/
def trainFields (l : Nat) : List Fld :=
  [Reg.HLK_STAT.LOCK l, Reg.HLK_STAT.TX_UP l, Reg.HLK_STAT.LOG0 l, Reg.HLK_STAT.LOG1 l, Reg.HLK_STAT.SINGLE l, Reg.HLK_STAT.UP l,
   Reg.HLK_STAT.MISS l, Reg.HLK_STAT.TRIES l, Reg.HLK_DELAY.DELAY l, Reg.ACT_CTL.PAIR_EN l]

/-- The state that a training leaves before its blocks go out. -/
def trainedLink (l : Nat) (o : TrainObs) (s : State) : State :=
  let u := puts (trainShown l o s) (setHlk l (trained (trainUp o s) (hlkOf l s)) s)
  let v := if (hlkOf l s).faulted = true then bumpSat (Reg.HLK_STAT.TRIES l) u else u
  let w := if trainTx o s = true then put (Reg.HLK_DELAY.DELAY l) (linkDelay o) v else v
  if trainOne o s = true then singleEntry l [trainLane0 o] w else w

section Training

variable {l : Nat} {o : TrainObs} {s : State}

theorem exec_headLinkTraining (hl : l < 2) (hm : mayTrain l s = true) :
    exec (.headLinkTraining l o) s = .next (sendBlocks l (trainBlocks o s) (trainedLink l o s)) := by
  have blocks : (if (!(lockedLanes o.locks).isEmpty) = true then [blkLanes (trainLane0 o) (trainLane1 o)] else [])
      = if (lockedLanes o.locks).isEmpty = true then [] else [blkLanes (trainLane0 o) (trainLane1 o)] := by
    cases (lockedLanes o.locks).isEmpty <;> rfl
  rw [trainBlocks, ← blocks]
  exact (unit_of_lt hl).trans (occurs_of hm)

theorem tries_notMem_trainShown : ∀ l < 2, (Reg.HLK_STAT.TRIES l).key ∉ ((trainFields l).take 7).map Fld.key := by decide

theorem trainFields_nodup : ∀ l < 2, ((trainFields l).map Fld.key).Nodup := by decide

theorem trainWrites_sublist (l : Nat) (o : TrainObs) (s : State) : ((trainWrites l o s).map Prod.fst).Sublist (trainFields l) := by
  have optional (c : Prop) [Decidable c] (f : Fld) (v : Nat) : ((if c then [(f, v)] else []).map Prod.fst).Sublist [f] := by
    split <;> simp
  simp only [trainWrites, List.map_append]
  exact (((List.Sublist.refl _).append (optional ..)).append (optional ..)).append (optional ..)

theorem trainWrites_nodup (hl : l < 2) (o : TrainObs) (s : State) : (((trainWrites l o s).map Prod.fst).map Fld.key).Nodup :=
  (trainFields_nodup l hl).sublist ((trainWrites_sublist l o s).map _)

theorem trainedLink_wrote (hl : l < 2) (o : TrainObs) (s : State) : Wrote (trainWrites l o s) s (trainedLink l o s) := by
  have recorded : Wrote [] s (setHlk l (trained (trainUp o s) (hlkOf l s)) s) := rfl
  have shown := recorded.puts (trainShown l o s)
  have tried := shown.ite (c := (hlkOf l s).faulted = true) (shown.bumpSat (tries_notMem_trainShown l hl))
  have delayed := tried.ite (c := trainTx o s = true) (tried.put (Reg.HLK_DELAY.DELAY l) (linkDelay o))
  exact delayed.ite (c := trainOne o s = true) ((delayed.put (Reg.ACT_CTL.PAIR_EN l) 0).of_regs (raisePost_regs ..))

theorem hlkOf_trainedLink (l : Nat) (o : TrainObs) (s : State) : hlkOf l (trainedLink l o s) = trained (trainUp o s) (hlkOf l s) := by
  have single (p : List Nat) (t : State) : hlkOf l (singleEntry l p t) = hlkOf l t := hlkOf_raisePost ..
  have counted (f : Fld) (t : State) : hlkOf l (bumpSat f t) = hlkOf l t := rfl
  simp only [trainedLink, apply_ite (hlkOf l), single, counted, hlkOf_put, hlkOf_puts, hlkOf_setHlk_self, ite_self]

theorem trainedLink_onlyLinks (l : Nat) (o : TrainObs) (s : State) : OnlyLinks s (trainedLink l o s) := by
  have shown := (setHlk_onlyLinks l (trained (trainUp o s) (hlkOf l s)) s).puts (trainShown l o s)
  have tried := OnlyLinks.ite (c := (hlkOf l s).faulted = true) (shown.bumpSat (Reg.HLK_STAT.TRIES l)) shown
  have delayed := OnlyLinks.ite (c := trainTx o s = true) (tried.put (Reg.HLK_DELAY.DELAY l) (linkDelay o)) tried
  exact .ite ((delayed.put (Reg.ACT_CTL.PAIR_EN l) 0).trans (raisePost_onlyEvents ..).onlyLinks) delayed

theorem lockedLanes_lt {locks p : Nat} (h : p ∈ lockedLanes locks) : p < 4 := by
  have := List.mem_range.1 (List.mem_filter.1 h).1
  omega

theorem trainLane0_lt (o : TrainObs) : trainLane0 o < 4 := by
  unfold trainLane0
  cases h : lockedLanes o.locks with
  | nil => decide
  | cons p t => exact lockedLanes_lt (h ▸ List.mem_cons_self)

theorem trainLane1_lt (o : TrainObs) : trainLane1 o < 4 := by
  unfold trainLane1
  rcases Nat.lt_or_ge 1 (lockedLanes o.locks).length with h | h
  · rw [List.getD_eq_getElem _ _ h]
    exact lockedLanes_lt (List.getElem_mem h)
  · rw [List.getD_eq_default _ _ h]
    exact trainLane0_lt o

end Training

end Sys2Proof.Machine

namespace Sys2Proof.Machine

open Sys2Proof

section Trained

variable {l : Nat} {o : TrainObs} {s : State}

/-- What a training leaves (R174, R176). -/
theorem headLinkTraining_trains (hl : l < 2) (hm : mayTrain l s = true) : Gives (.headLinkTraining l o) s (fun t =>
    get (Reg.HLK_STAT.LOCK l) t = o.locks % 8 ∧
    get (Reg.HLK_STAT.LOG0 l) t = trainLane0 o ∧
    get (Reg.HLK_STAT.LOG1 l) t = trainLane1 o ∧
    get (Reg.HLK_STAT.TX_UP l) t = b2n (trainTx o s) ∧
    get (Reg.HLK_STAT.UP l) t = b2n (trainUp o s) ∧
    get (Reg.HLK_STAT.SINGLE l) t = b2n ((lockedLanes o.locks).length == 1) ∧
    get (Reg.HLK_STAT.MISS l) t = 0 ∧
    (hlkOf l t).retrain = false ∧
    (trainTx o s = true → get (Reg.HLK_DELAY.DELAY l) t = linkDelay o % 2 ^ (Reg.HLK_DELAY.DELAY 0).width) ∧
    (trainOne o s = true → get (Reg.ACT_CTL.PAIR_EN l) t = 0) ∧
    t.sent.getLast? = some (.headLink l (trainBlocks o s) (wordsFor l ((trainBlocks o s).map (fun x => (true, x))) s)) ∧
    OnlyRegs (trainFields l) s t ∧
    OnlyLinks s t) := by
  have wrote : Wrote (trainWrites l o s) s (sendBlocks l (trainBlocks o s) (trainedLink l o s)) :=
    (trainedLink_wrote hl o s).of_regs (sendBlocks_regs ..)
  have reads {f : Fld} {v : Nat} (hf : (f, v) ∈ trainWrites l o s) := wrote.get_mem (trainWrites_nodup hl o s) hf
  have shown {f : Fld} {v : Nat} (hf : (f, v) ∈ trainShown l o s) := reads (f := f) (v := v) (by simp [trainWrites, hf])
  have tx : (hlkOf l (trainedLink l o s)).tx = (hlkOf l s).tx := by rw [hlkOf_trainedLink, trained]
  refine .of_next (exec_headLinkTraining hl hm) ⟨?lock, ?log0, ?log1, ?txUp, ?linkUp, ?single, ?miss, ?retrain, ?delay, ?pairing, ?sent, ?regs, ?frame⟩
  case lock => exact (shown (v := o.locks % 8) (by simp [trainShown])).trans (Nat.mod_mod ..)
  case log0 => exact (shown (by simp [trainShown])).trans (Nat.mod_eq_of_lt (trainLane0_lt o))
  case log1 => exact (shown (by simp [trainShown])).trans (Nat.mod_eq_of_lt (trainLane1_lt o))
  case txUp => exact (shown (by simp [trainShown])).trans (b2n_mod_two _)
  case linkUp => exact (shown (by simp [trainShown])).trans (b2n_mod_two _)
  case single => exact (shown (by simp [trainShown])).trans (b2n_mod_two _)
  case miss => exact shown (v := 0) (by simp [trainShown])
  case retrain => rw [hlkOf_sendBlocks hl, hlkOf_trainedLink, trained]
  case delay => exact fun ht => reads (by rw [trainWrites, if_pos ht]; simp)
  case pairing => exact fun ho => reads (v := 0) (by rw [trainWrites, if_pos ho]; simp)
  case sent => rw [sendBlocks_head_sent hl, List.getLast?_concat, wordsFor_congr hl s tx]
  case regs => exact wrote.onlyRegs.mono (trainWrites_sublist l o s).subset
  case frame => exact (trainedLink_onlyLinks l o s).trans (sendBlocks_head_onlyLinks hl ..)

end Trained

/-! ### Return frames (R171, R173) -/

section ReturnFrame

variable {l : Nat} {b : List Nat} {s : State} (hl : l < 2) (hr : linkRuns l s = true)
include hl hr

theorem exec_headLinkReturnFrame (late : Bool) : exec (.headLinkReturnFrame l b late) s = .next
    (if late then arriveLate l (bump (Reg.HLK_FRAMES.LATE l) (setHlk l { hlkOf l s with owed := false } s))
     else if frameGood (frameBlocks b) then setHlk l { hlkOf l s with frame := some ((frameBlocks b).take 4) } s
     else bump (Reg.HLK_FRAMES.BAD l) (setHlk l { hlkOf l s with bad := true } s)) := (unit_of_lt hl).trans (occurs_of hr)

theorem headLinkReturnFrame_good (hg : frameGood (frameBlocks b) = true) : Gives (.headLinkReturnFrame l b false) s (fun t =>
    (hlkOf l t).frame = some ((frameBlocks b).take 4) ∧
    OnlyRegs [] s t ∧
    t = { s with hlk := t.hlk } ∧
    SameMem s t) :=
  .of_next ((exec_headLinkReturnFrame hl hr false).trans (congrArg _ (if_pos hg)))
    ⟨by rw [hlkOf_setHlk_self], fun _ _ => rfl, rfl, fun _ => rfl⟩

theorem headLinkReturnFrame_late : Gives (.headLinkReturnFrame l b true) s (fun t =>
    get (Reg.HLK_FRAMES.LATE l) t = (get (Reg.HLK_FRAMES.LATE l) s + 1) % 2 ^ (Reg.HLK_FRAMES.LATE 0).width ∧
    (hlkOf l t).frame = (hlkOf l s).frame ∧
    OnlyRegs [Reg.HLK_FRAMES.LATE l, Reg.CE_STAT.LATE l] s t ∧
    t = { s with regs := t.regs, hlk := t.hlk } ∧
    SameMem s t) := by
  have keys : ∀ l < 2, ([Reg.HLK_FRAMES.LATE l, Reg.CE_STAT.LATE l].map Fld.key).Nodup := by decide
  have recorded : Wrote [] s (setHlk l { hlkOf l s with owed := false } s) := rfl
  have held : (hlkOf l (setHlk l { hlkOf l s with owed := false } s)).frame = (hlkOf l s).frame := by rw [hlkOf_setHlk_self]
  have counted := recorded.bump (f := Reg.HLK_FRAMES.LATE l) (by simp)
  have wrote := counted.bumpSat (f := Reg.CE_STAT.LATE l) (by simpa [eq_comm] using keys l hl)
  refine .of_next (exec_headLinkReturnFrame hl hr true) ⟨wrote.get_mem (keys l hl) (by simp), held, wrote.onlyRegs, rfl, fun _ => rfl⟩

theorem headLinkReturnFrame_bad (hg : frameGood (frameBlocks b) = false) : Gives (.headLinkReturnFrame l b false) s (fun t =>
    get (Reg.HLK_FRAMES.BAD l) t = (get (Reg.HLK_FRAMES.BAD l) s + 1) % 2 ^ (Reg.HLK_FRAMES.BAD 0).width ∧
    (hlkOf l t).frame = (hlkOf l s).frame ∧
    OnlyRegs [Reg.HLK_FRAMES.BAD l] s t ∧
    t = { s with regs := t.regs, hlk := t.hlk } ∧
    SameMem s t) := by
  have recorded : Wrote [] s (setHlk l { hlkOf l s with bad := true } s) := rfl
  have held : (hlkOf l (setHlk l { hlkOf l s with bad := true } s)).frame = (hlkOf l s).frame := by rw [hlkOf_setHlk_self]
  have counted := recorded.bump (f := Reg.HLK_FRAMES.BAD l) (by simp)
  refine .of_next ((exec_headLinkReturnFrame hl hr false).trans (congrArg _ (if_neg (Bool.eq_false_iff.1 hg))))
    ⟨get_put_self .., held, counted.onlyRegs, rfl, fun _ => rfl⟩

end ReturnFrame

end Sys2Proof.Machine

namespace Sys2Proof.Machine

open Sys2Proof

/-! ### Lanes that are replaced (R175, R176, R481) -/

section Lanes

variable {l p : Nat} {s : State} (hl : l < 2) (hp : p < 3)
include hl hp

/-- The logical lanes after a promotion of the spare lane in the place of lane p. -/
abbrev promotedLanes (l p : Nat) (s : State) : Nat × Nat × Bool :=
  if get (Reg.HLK_STAT.LOG0 l) s = p then (spareLane l s, get (Reg.HLK_STAT.LOG1 l) s, false)
  else (get (Reg.HLK_STAT.LOG0 l) s, spareLane l s, false)

/-- The spare lane of a link in the inventory. -/
abbrev spareLaneFld (l : Nat) : Fld := if l = 0 then Reg.SPR_INV.HLANE_A else Reg.SPR_INV.HLANE_B

theorem exec_lanePromotion (h : get (Reg.HLK_STAT.UP l) s = 1 ∧ laneBad l p s = true ∧ laneActive l p s = true ∧ spareReady l s = true
      ∧ get (Reg.HLK_CTL.AUTO_PROMO l) s = 1 ∧ (hlkOf l s).switch = none) :
    exec (.lanePromotion l p) s = .next (promoted (spareLaneFld l) (linePost (257 + 4 * l) (Reg.HLK_STAT.PROMOTED l) 1 l [p, spareLane l s]
      (setHlk l { hlkOf l s with switch := some (promotedLanes l p s) } s))) :=
  ((unit_of_lt hl).trans (unit_of_lt hp)).trans (occurs_of h)

theorem lanePromotion_promotes (h : get (Reg.HLK_STAT.UP l) s = 1 ∧ laneBad l p s = true ∧ laneActive l p s = true ∧ spareReady l s = true
      ∧ get (Reg.HLK_CTL.AUTO_PROMO l) s = 1 ∧ (hlkOf l s).switch = none) : Gives (.lanePromotion l p) s (fun t =>
    get (Reg.HLK_STAT.PROMOTED l) t = 1 ∧
    (hlkOf l t).switch = some (promotedLanes l p s) ∧
    get (spareLaneFld l) t = 0 ∧
    OnlyRegs [Reg.HLK_STAT.PROMOTED l, Reg.SPR_INV.HLANE_A, Reg.SPR_INV.HLANE_B, Reg.SPR_STAT.PROMOS] s t ∧
    OnlyLinks s t) := by
  have keys : ∀ l < 2, ([Reg.HLK_STAT.PROMOTED l, spareLaneFld l, Reg.SPR_STAT.PROMOS].map Fld.key).Nodup := by decide
  have uncounted : ∀ l < 2, Reg.SPR_STAT.PROMOS.key ∉ [Reg.HLK_STAT.PROMOTED l, spareLaneFld l].map Fld.key := by decide
  have inventory : spareLaneFld l = Reg.SPR_INV.HLANE_A ∨ spareLaneFld l = Reg.SPR_INV.HLANE_B := ite_eq_or_eq ..
  have recorded : Wrote [] s (setHlk l { hlkOf l s with switch := some (promotedLanes l p s) } s) := rfl
  have wrote := (recorded.linePost (257 + 4 * l) (Reg.HLK_STAT.PROMOTED l) 1 l [p, spareLane l s]).promoted (spareLaneFld l) (uncounted l hl)
  refine .of_next (exec_lanePromotion hl hp h) ⟨wrote.get_mem (keys l hl) (v := 1) (by simp), ?_, ?_, wrote.onlyRegs.mono ?_, ?_⟩
  · rw [hlkOf_promoted, hlkOf_linePost, hlkOf_setHlk_self]
  · exact (wrote.get_mem (keys l hl) (v := 0) (by simp)).trans (Nat.zero_mod _)
  · rcases inventory with e | e <;> simp [e]
  · exact (setHlk_onlyLinks l _ s).trans ((linePost_onlyEvents ..).trans (promoted_onlyEvents ..)).onlyLinks

/-- The lane that stays where lane p does not. -/
abbrev goodLane (l p : Nat) (s : State) : Nat :=
  if get (Reg.HLK_STAT.LOG0 l) s = p then get (Reg.HLK_STAT.LOG1 l) s else get (Reg.HLK_STAT.LOG0 l) s

theorem exec_singleLaneMode (h : get (Reg.HLK_STAT.UP l) s = 1 ∧ get (Reg.HLK_STAT.SINGLE l) s = 0 ∧ laneBad l p s = true
      ∧ laneActive l p s = true ∧ (spareReady l s = false ∨ get (Reg.HLK_CTL.AUTO_PROMO l) s = 0) ∧ (hlkOf l s).switch = none) :
    exec (.singleLaneMode l p) s = .next
      (singleEntry l [p] (setHlk l { hlkOf l s with switch := some (goodLane l p s, goodLane l p s, true) } s)) :=
  ((unit_of_lt hl).trans (unit_of_lt hp)).trans (occurs_of h)

theorem singleLaneMode_enters (h : get (Reg.HLK_STAT.UP l) s = 1 ∧ get (Reg.HLK_STAT.SINGLE l) s = 0 ∧ laneBad l p s = true
      ∧ laneActive l p s = true ∧ (spareReady l s = false ∨ get (Reg.HLK_CTL.AUTO_PROMO l) s = 0) ∧ (hlkOf l s).switch = none) :
    Gives (.singleLaneMode l p) s (fun t =>
      get (Reg.ACT_CTL.PAIR_EN l) t = 0 ∧
      (hlkOf l t).switch = some (if get (Reg.HLK_STAT.LOG0 l) s = p then (get (Reg.HLK_STAT.LOG1 l) s, get (Reg.HLK_STAT.LOG1 l) s, true)
        else (get (Reg.HLK_STAT.LOG0 l) s, get (Reg.HLK_STAT.LOG0 l) s, true)) ∧
      OnlyRegs [Reg.ACT_CTL.PAIR_EN l] s t ∧
      OnlyLinks s t) := by
  have recorded : Wrote [] s (setHlk l { hlkOf l s with switch := some (goodLane l p s, goodLane l p s, true) } s) := rfl
  have wrote := (recorded.put (Reg.ACT_CTL.PAIR_EN l) 0).of_regs (raisePost_regs (257 + 4 * l) l [p] _)
  refine .of_next (exec_singleLaneMode hl hp h) ⟨wrote.get_mem (by simp) (v := 0) (by simp), ?_, wrote.onlyRegs, ?_⟩
  · rw [singleEntry, hlkOf_raisePost, hlkOf_put, hlkOf_setHlk_self]
    exact congrArg some (apply_ite (fun g => (g, g, true)) ..)
  · exact (setHlk_onlyLinks l _ s).trans ((put_onlyRegisters ..).onlyEvents.trans (raisePost_onlyEvents ..)).onlyLinks

end Lanes

end Sys2Proof.Machine

namespace Sys2Proof.Machine

open Sys2Proof

/-! ### Words of a lane and data blocks (R169, R170, R173, R175) -/

/-- The registers of a lane's lock. -/
def laneLockFld (l : Nat) : Fld := if l = 2 then Reg.OLK_STAT.RX_LOCK else Reg.HLK_STAT.LOCK l

/-- The lanes that a link has. -/
abbrev lanesOf (l : Nat) : Nat := if l = 2 then 1 else 3

/-- Nothing has changed but registers, the records of the links and the streams, and memory. -/
def OnlyReceived (s t : State) : Prop := t = { s with regs := t.regs, hlk := t.hlk, olk := t.olk, hch := t.hch, mem := t.mem }

/-- The same where no register has: samples have entered the streams of a head link. -/
def OnlySampled (s t : State) : Prop := t = { s with hlk := t.hlk, hch := t.hch, mem := t.mem }

section Received

variable {s t u : State}

theorem OnlyReceived.trans (h : OnlyReceived s t) (k : OnlyReceived t u) : OnlyReceived s u :=
  Eq.trans k (congrArg (fun x : State => { x with regs := u.regs, hlk := u.hlk, olk := u.olk, hch := u.hch, mem := u.mem }) h)

theorem OnlyReceived.ite {c : Prop} [Decidable c] (h : OnlyReceived s t) (k : OnlyReceived s u) : OnlyReceived s (if c then t else u) := by
  split <;> assumption

theorem OnlyReceived.put (h : OnlyReceived s t) (f : Fld) (v : Nat) : OnlyReceived s (put f v t) := congrArg (Machine.put f v) h

theorem OnlySampled.trans (h : OnlySampled s t) (k : OnlySampled t u) : OnlySampled s u :=
  Eq.trans k (congrArg (fun x : State => { x with hlk := u.hlk, hch := u.hch, mem := u.mem }) h)

theorem OnlySampled.onlyReceived (h : OnlySampled s t) : OnlyReceived s t := by
  unfold OnlyReceived
  rw [h]

theorem OnlySampled.regs (h : OnlySampled s t) : t.regs = s.regs := by rw [h]

theorem setHlk_onlySampled (l : Nat) (r : HlkSt) (s : State) : OnlySampled s (setHlk l r s) := rfl
theorem setHch_onlySampled (n : Nat) (r : HchSt) (s : State) : OnlySampled s (setHch n r s) := rfl

theorem setLink_onlyReceived (l : Nat) (r : HlkSt) (s : State) : OnlyReceived s (setLink l r s) := by
  unfold setLink
  split <;> rfl

end Received

@[simp] theorem setLink_regs (l : Nat) (r : HlkSt) (s : State) : (setLink l r s).regs = s.regs := by
  unfold setLink
  split <;> rfl

/-! #### The lane -/

section LaneWord

variable {l p w : Nat} {s : State}

theorem laneLock_congr {t : State} (h : get (laneLockFld l) t = get (laneLockFld l) s) : laneLock l p t = laneLock l p s := by
  unfold laneLockFld at h
  unfold laneLock bit
  split at h
  next optical => rw [if_pos optical, if_pos optical, h]
  next head => rw [if_neg head, if_neg head, h]

/-- The link with the record of a lane that a word has reached. -/
def laneReached (l p w : Nat) (s : State) : State :=
  setLink l { linkOf l s with lanes := (linkOf l s).lanes.set p (laneTakes l w (laneOf p (linkOf l s)) s) } s

theorem laneWord_valid (h : headerOk w = true) : laneWord l p w s = laneReached l p w s := by
  simp [laneWord, laneTakes, laneReached, h]

/-- The sixty-fourth invalid header in a row loses block lock. -/
theorem laneWord_invalid (h : headerOk w = false) : laneWord l p w s =
    if (laneOf p (linkOf l s)).badRow = 63 ∧ laneLock l p s = true then
      unlockLane l p (bump (laneLosses l p) (bump (laneErrs l p) (laneReached l p w s)))
    else bump (laneErrs l p) (laneReached l p w s) := by
  simp [laneWord, laneTakes, laneReached, h]

/-- The lane's register of locks without it. -/
def unlocked (l p : Nat) (s : State) : Nat := if l = 2 then 0 else withBit (get (laneLockFld l) s) p false

theorem unlockLane_eq (l p : Nat) (s : State) : unlockLane l p s = put (laneLockFld l) (unlocked l p s) s := by
  unfold unlockLane unlocked laneLockFld
  split <;> rfl

theorem laneLock_unlockLane (hp : p < lanesOf l) (s : State) : laneLock l p (unlockLane l p s) = false := by
  unfold laneLock unlockLane
  split
  next => rw [get_put_self]; rfl
  next head =>
    rw [lanesOf, if_neg head] at hp
    exact bit_putBit_self (f := Reg.HLK_STAT.LOCK l) hp false s

theorem laneFields_nodup : ∀ l < 3, ∀ p < 3, ([laneErrs l p, laneLosses l p, laneLockFld l].map Fld.key).Nodup := by decide

theorem laneFields_apart : ∀ l < 3, ∀ p < 3, (laneLosses l p).key ∉ [laneErrs l p].map Fld.key ∧
    (laneLockFld l).key ∉ [laneErrs l p].map Fld.key ∧ (laneLockFld l).key ∉ [laneErrs l p, laneLosses l p].map Fld.key := by decide

theorem lanesOf_le (hp : p < lanesOf l) : p < 3 := by
  unfold lanesOf at hp
  split at hp <;> omega

theorem laneReached_wrote (l p w : Nat) (s : State) : Wrote [] s (laneReached l p w s) := setLink_regs ..

/-- What an invalid header writes: the error, and the loss of a lock with its count. -/
def laneWrites (l p : Nat) (s : State) : List (Fld × Nat) :=
  [(laneErrs l p, get (laneErrs l p) s + 1)]
  ++ if (laneOf p (linkOf l s)).badRow = 63 ∧ laneLock l p s = true then
    [(laneLosses l p, get (laneLosses l p) s + 1), (laneLockFld l, unlocked l p s)] else []

/-- Without a loss of the lock an invalid header writes the error alone. -/
theorem laneErred_wrote (l p w : Nat) (s : State) : Wrote [(laneErrs l p, get (laneErrs l p) s + 1)] s (bump (laneErrs l p) (laneReached l p w s)) :=
  (laneReached_wrote l p w s).bump (by simp)

theorem laneWord_wrote (hl : l < 3) (hp : p < lanesOf l) (h : headerOk w = false) : Wrote (laneWrites l p s) s (laneWord l p w s) := by
  obtain ⟨lossApart, -, lockApart⟩ := laneFields_apart l hl p (lanesOf_le hp)
  have erred := laneErred_wrote l p w s
  have lost := erred.bump (f := laneLosses l p) lossApart
  have kept : unlocked l p (bump (laneLosses l p) (bump (laneErrs l p) (laneReached l p w s))) = unlocked l p s := by
    rw [unlocked, lost.get_ne lockApart, unlocked]
  rw [laneWord_invalid h, unlockLane_eq, kept]
  exact erred.ite (lost.put (laneLockFld l) (unlocked l p s))

theorem laneWord_onlyReceived (l p w : Nat) (s : State) : OnlyReceived s (laneWord l p w s) := by
  have reached : OnlyReceived s (laneReached l p w s) := setLink_onlyReceived ..
  cases h : headerOk w with
  | true => rwa [laneWord_valid h]
  | false =>
    rw [laneWord_invalid h, unlockLane_eq]
    exact .ite (((reached.put _ _).put _ _).put _ _) (reached.put _ _)

end LaneWord

/-! #### The samples -/

section Samples

variable {l q : Nat} {s : State}

/-- The blocks lost before a data block, by its sequence count and the one expected (R173). -/
def lostBlocks (q : Nat) (e : Option Nat) : Nat := match e with | none => 0 | some e => (q / 2 ^ 62 % 4 + 4 - e) % 4

theorem ringWrite_onlySampled (n pos v : Nat) (s : State) : OnlySampled s (ringWrite n pos v s) := by
  unfold ringWrite
  dsimp only
  split <;> rfl

@[simp] theorem hchOf_ringWrite (m n pos v : Nat) (s : State) : hchOf m (ringWrite n pos v s) = hchOf m s := by
  rw [hchOf, hchOf]
  unfold ringWrite
  dsimp only
  split <;> rfl

theorem takeSamples_onlySampled (l q : Nat) (s : State) : OnlySampled s (takeSamples l q s) := by
  unfold takeSamples
  dsimp only
  split
  · rfl
  · split
    · rfl
    · exact ((setHch_onlySampled ..).trans (setHlk_onlySampled ..)).trans (ringWrite_onlySampled ..)

theorem takeBlock_onlySampled (l : Nat) (s : State) (b : Bool × Nat) : OnlySampled s (takeBlock l s b) := by
  unfold takeBlock
  split
  · rfl
  · exact takeSamples_onlySampled ..

theorem takeBlocks_onlySampled (l : Nat) (b : List (Bool × Nat)) (s : State) : OnlySampled s (b.foldl (takeBlock l) s) := by
  induction b generalizing s with
  | nil => rfl
  | cons x b ih => exact (takeBlock_onlySampled l s x).trans (ih _)

theorem orderBlock_onlySampled (l p : Nat) (b : Bool × Nat) (s : State) : OnlySampled s (orderBlock l p b s) := by
  unfold orderBlock
  split
  · exact takeBlock_onlySampled ..
  · exact (setHlk_onlySampled ..).trans (takeBlocks_onlySampled ..)

/-- A data block of head 1 moves its stream on by ten samples, and by ten more for each lost block. -/
theorem ringPos_takeSamples (h : q / 2 ^ 60 % 2 = 0) : (hchOf (streamOf l 1 s) (takeSamples l q s)).ringPos =
    (hchOf (streamOf l 1 s) s).ringPos + 10 * lostBlocks q ((hlkOf l s).seq.getD 0 none) + 10 := by
  have head : bits q 60 1 = 0 := h
  unfold takeSamples
  rw [head]
  dsimp only
  rw [if_neg (by simp)]
  split
  · rw [hchOf_setHlk, hchOf_setHch_self]
    rfl
  · rw [hchOf_ringWrite, hchOf_setHlk, hchOf_setHch_self]
    rfl

/-- Samples under the write gate are not stored (R197). -/
theorem mem_takeSamples (h : q.testBit 61 = true) : (takeSamples l q s).mem = s.mem := by
  unfold takeSamples
  dsimp only
  rw [if_pos h]
  split <;> rfl

end Samples

/-! #### A word is received -/

section Receive

variable {l p w : Nat} {s : State}

/-- A word is for an active lane in lock of a head link that is up. -/
def wordActive (l p w : Nat) (s : State) : Bool :=
  decide (l < 2) && headerOk w && laneLock l p s && get (Reg.HLK_STAT.UP l) s == 1 && (logicalLane l p s).isSome

/-- The state that a word leaves. -/
def wordReceived (l p w : Nat) (s : State) : State :=
  if wordActive l p w s = true then orderBlock l p (blockOn p w (linkOf l s)) (laneWord l p w s) else laneWord l p w s

theorem exec_receiveDataBlock (hl : l < 3) (hp : p < lanesOf l) (hd : domOn (10 + l) s = true) :
    exec (.receiveDataBlock l p w) s = .next (wordReceived l p w s) := ((unit_of_lt hl).trans (unit_of_lt hp)).trans (occurs_of hd)

theorem wordReceived_regs (l p w : Nat) (s : State) : (wordReceived l p w s).regs = (laneWord l p w s).regs := by
  unfold wordReceived
  split
  · exact (orderBlock_onlySampled ..).regs
  · rfl

theorem wordReceived_onlyReceived (l p w : Nat) (s : State) : OnlyReceived s (wordReceived l p w s) :=
  .ite ((laneWord_onlyReceived ..).trans (orderBlock_onlySampled ..).onlyReceived) (laneWord_onlyReceived ..)

/-- The lane's errors and lock follow its words. -/
theorem receiveDataBlock_lane (hl : l < 3) (hp : p < lanesOf l) (hd : domOn (10 + l) s = true) : Gives (.receiveDataBlock l p w) s (fun t =>
    (get (laneErrs l p) t = (if headerOk w = true then get (laneErrs l p) s else (get (laneErrs l p) s + 1) % 2 ^ (laneErrs l p).width)) ∧
    (headerOk w = true → laneLock l p t = laneLock l p s ∧ get (laneLosses l p) t = get (laneLosses l p) s) ∧
    (headerOk w = false ∧ (laneOf p (linkOf l s)).badRow = 63 → laneLock l p t = false) ∧
    OnlyRegs [laneErrs l p, laneLosses l p, Reg.HLK_STAT.LOCK l, Reg.OLK_STAT.RX_LOCK] s t ∧
    OnlyReceived s t) := by
  refine .of_next (exec_receiveDataBlock hl hp hd) ?_
  have frame := wordReceived_onlyReceived l p w s
  cases h : headerOk w with
  | true =>
    have regs : (wordReceived l p w s).regs = s.regs := by rw [wordReceived_regs, laneWord_valid h, laneReached, setLink_regs]
    exact ⟨get_regs _ regs, fun _ => ⟨laneLock_congr (get_regs _ regs), get_regs _ regs⟩, fun e => absurd e.1 (by decide), .of_regs _ regs, frame⟩
  | false =>
    have wrote : Wrote (laneWrites l p s) s (wordReceived l p w s) := (laneWord_wrote hl hp h).of_regs (wordReceived_regs ..)
    have fields : ((laneWrites l p s).map Prod.fst).Sublist [laneErrs l p, laneLosses l p, laneLockFld l] := by
      unfold laneWrites
      split <;> simp
    have nodup := (laneFields_nodup l hl p (lanesOf_le hp)).sublist (fields.map Fld.key)
    have lockFld : laneLockFld l = Reg.OLK_STAT.RX_LOCK ∨ laneLockFld l = Reg.HLK_STAT.LOCK l := ite_eq_or_eq ..
    refine ⟨wrote.get_mem nodup (by simp [laneWrites]), fun e => absurd e (by decide), ?_, wrote.onlyRegs.mono (List.Subset.trans fields.subset ?_), frame⟩
    · rintro ⟨-, row⟩
      cases locked : laneLock l p s with
      | true =>
        rw [laneLock_congr (get_regs _ (wordReceived_regs ..)), laneWord_invalid h, if_pos ⟨row, locked⟩]
        exact laneLock_unlockLane hp _
      | false =>
        rw [laneLock_congr (get_regs _ (wordReceived_regs ..)), laneWord_invalid h, if_neg (by simp [locked]), ← locked]
        exact laneLock_congr ((laneErred_wrote l p w s).get_ne (laneFields_apart l hl p (lanesOf_le hp)).2.1)
    · rcases lockFld with e | e <;> simp [e]

/-- In single-lane mode a data block of head 1 moves its stream on. -/
theorem receiveDataBlock_single {x q : Nat} (hl : l < 2) (hp : p < 3) (hd : domOn (10 + l) s = true) (hx : x % 4 = 1)
    (hq : q = (blockOn p x (hlkOf l s)).2) (hk : q / 2 ^ 60 % 2 = 0) (hu : get (Reg.HLK_STAT.UP l) s = 1)
    (h1 : get (Reg.HLK_STAT.SINGLE l) s = 1) (hb : (get (Reg.HLK_STAT.LOCK l) s).testBit p = true) (h0 : get (Reg.HLK_STAT.LOG0 l) s = p) :
    Gives (.receiveDataBlock l p x) s (fun t =>
      (hchOf (streamOf l 1 s) t).ringPos =
        (hchOf (streamOf l 1 s) s).ringPos + 10 * lostBlocks q ((hlkOf l s).seq.getD 0 none) + 10 ∧
      (q.testBit 61 = true → t.mem = s.mem) ∧
      OnlyRegs [] s t ∧
      OnlySampled s t) := by
  have header : headerOk x = true := by simp [headerOk, hx]
  have locked : laneLock l p s = true := by rwa [laneLock, if_neg (by omega), bit]
  have active : wordActive l p x s = true := by simp [wordActive, header, locked, hl, hu, logicalLane, h0]
  have data : blockOn p x (hlkOf l s) = (false, q) := by rw [hq, blockOn]; simp [hx]
  have reached : laneReached l p x s = setHlk l { hlkOf l s with lanes := (hlkOf l s).lanes.set p (laneTakes l x (laneOf p (hlkOf l s)) s) } s := by
    rw [laneReached, linkOf_head hl, setLink_head hl]
  have received : wordReceived l p x s = takeSamples l q (laneReached l p x s) := by
    have single : get (Reg.HLK_STAT.SINGLE l) (laneReached l p x s) = 1 := (get_regs _ (setLink_regs ..)).trans h1
    rw [wordReceived, if_pos active, laneWord_valid header, linkOf_head hl, data, orderBlock, if_pos single]
    rfl
  have stream : streamOf l 1 (laneReached l p x s) = streamOf l 1 s := by rw [reached]; rfl
  have expected : (hlkOf l (laneReached l p x s)).seq = (hlkOf l s).seq := by rw [reached, hlkOf_setHlk_self]
  have frame : OnlySampled s (laneReached l p x s) := by rw [reached]; rfl
  refine .of_next (exec_receiveDataBlock (by omega) (by rwa [lanesOf, if_neg (by omega)]) hd) ?_
  rw [received]
  refine ⟨?_, fun h => ?_, .of_regs _ (frame.trans (takeSamples_onlySampled ..)).regs, frame.trans (takeSamples_onlySampled ..)⟩
  · rw [← stream, ringPos_takeSamples hk, expected, reached, hchOf_setHlk]
  · rw [mem_takeSamples h, reached, setHlk_mem]

end Receive

end Sys2Proof.Machine

namespace Sys2Proof.Machine

open Sys2Proof

/-! ### Faults of a head link (R177) -/

section Fault

variable {l : Nat} {s t : State}

/-- The fields outside ASX and HCH, in which heads trip and sectors are aborted. -/
abbrev linkKeys (k : Nat) : Bool := outsideBlocks [6, 7] k

theorem linkKeys_trip : ∀ h < 24, ∀ f ∈ [Reg.ASX_HSTAT.STATE h, Reg.ASX_HSTAT.READY h, Reg.ASX_HSTAT.CAUSE h, Reg.ASX_HCNT.TRIPS h],
    linkKeys f.key = false := by decide

theorem linkKeys_stream : ∀ n < 5, ∀ f ∈ [Reg.HCH_STAT.BUSY n, Reg.HCH_STAT.WRITING n], linkKeys f.key = false := by decide

theorem asxTrip_linkKeys {h : Nat} (hh : h < 24) (c : Nat) (s : State) : Spares linkKeys s (asxTrip h c s) := by
  have keys := linkKeys_trip h hh
  have shown : ∀ p ∈ [(Reg.ASX_HSTAT.STATE h, 5), (Reg.ASX_HSTAT.READY h, 0)], linkKeys p.1.key = false := by
    simp only [List.forall_mem_cons, List.not_mem_nil, false_imp_iff, implies_true, and_true]
    exact ⟨keys _ (by simp), keys _ (by simp)⟩
  have entered : Spares linkKeys s (tripEntered h s) := ((((Spares.refl s).setAsx ..).puts shown).postReg ..).put (keys _ (by simp)) _
  have caused := (entered.setAsx h { asxOf h (tripEntered h s) with fallPend := true }).put (f := Reg.ASX_HSTAT.CAUSE h) (keys _ (by simp)) c
  exact .ite ((caused.bump (f := Reg.ASX_HCNT.TRIPS h) (keys _ (by simp))).raisePost ..) (.refl s)

/-- An ABORTED sector shows in the stream's own registers alone. -/
theorem abortSector_linkKeys {n : Nat} (hn : n < 5) (s : State) : Spares linkKeys s (abortSector n s) := by
  have keys := linkKeys_stream n hn
  have ended : ∀ p ∈ [(Reg.HCH_STAT.BUSY n, 0), (Reg.HCH_STAT.WRITING n, 0)], linkKeys p.1.key = false := by
    simp only [List.forall_mem_cons, List.not_mem_nil, false_imp_iff, implies_true, and_true]
    exact ⟨keys _ (by simp), keys _ (by simp)⟩
  exact .ite ((((Spares.refl s).setHch ..).puts ended).setHch ..) (.refl s)

/-- The heads of a link trip and its sectors are aborted. -/
def headsTripped (l : Nat) (s : State) : State :=
  [1, 2].foldl (fun t k => if headOf l k s < 24 then asxTrip (headOf l k s) 4 t else t) (urgentGates l s)
def sectorsAborted (l : Nat) (s : State) : State := abortSector (streamOf l 2 s) (abortSector (streamOf l 1 s) (headsTripped l s))

theorem head_stream_lt (hl : l < 2) {k : Nat} (hk : k ≤ 2) (s : State) : streamOf l k s < 5 := by
  unfold streamOf
  dsimp only
  split <;> omega

theorem sectorsAborted_linkKeys (hl : l < 2) (s : State) : Spares linkKeys s (sectorsAborted l s) := by
  have gated : Spares linkKeys s (urgentGates l s) := .ite (sendBlocks_spares ..) (.refl s)
  have tripped : Spares linkKeys s (headsTripped l s) := by
    refine gated.trans (Spares.foldl (fun t k => ?_) _ _)
    split
    next known => exact asxTrip_linkKeys known 4 t
    next => exact .refl t
  exact (tripped.trans (abortSector_linkKeys (head_stream_lt hl (by decide) s) _)).trans
    (abortSector_linkKeys (head_stream_lt hl (by decide) s) _)

/-- The link goes down with its fault. -/
def linkDown (l at' : Nat) (s : State) : State :=
  linePost (256 + 4 * l) (Reg.HLK_STAT.FAULT l) 1 l []
    (puts [(Reg.HLK_STAT.UP l, 0), (Reg.HLK_STAT.TRIES l, 0)] (setHlk l { hlkOf l s with faulted := true, faultAt := at' } s))

theorem declareFault_eq (l : Nat) (s : State) : declareFault l s = linkDown l (tmpCount s) (sectorsAborted l s) := rfl

theorem linkDown_wrote (l at' : Nat) (s : State) :
    Wrote [(Reg.HLK_STAT.UP l, 0), (Reg.HLK_STAT.TRIES l, 0), (Reg.HLK_STAT.FAULT l, 1)] s (linkDown l at' s) := by
  have recorded : Wrote [] s (setHlk l { hlkOf l s with faulted := true, faultAt := at' } s) := rfl
  exact (recorded.puts [(Reg.HLK_STAT.UP l, 0), (Reg.HLK_STAT.TRIES l, 0)]).linePost ..

theorem faulted_linkDown (l at' : Nat) (s : State) : (hlkOf l (linkDown l at' s)).faulted = true := by
  rw [linkDown, hlkOf_linePost, hlkOf_puts, hlkOf_setHlk_self]

theorem linkDown_onlyLinks (l at' : Nat) (s : State) : OnlyLinks s (linkDown l at' s) :=
  ((setHlk_onlyLinks ..).puts _).trans (linePost_onlyEvents ..).onlyLinks

/-- The fields of a link that goes down. -/
def downFields (l : Nat) : List Fld := [Reg.HLK_STAT.UP l, Reg.HLK_STAT.TRIES l, Reg.HLK_STAT.FAULT l]

theorem downFields_nodup : ∀ l < 2, ((downFields l).map Fld.key).Nodup := by decide

theorem pin_apart : ∀ l < 2, linkKeys (Reg.HLK_STAT.PIN l).key = true ∧ (Reg.HLK_STAT.PIN l).key ∉ (downFields l).map Fld.key := by decide

theorem pinAndDown_block : ∀ l < 2, ∀ n ∈ (Reg.HLK_STAT.PIN l :: downFields l).map Fld.key, regBlock (n / 32) ∈ [6, 7, 8] := by decide

theorem seePin_wrote (l : Nat) (b : Bool) (s : State) : Wrote [(Reg.HLK_STAT.PIN l, b2n b)] s (seePin l b s) := by
  unfold seePin
  dsimp only
  split
  · exact raisePost_regs ..
  · rfl

theorem seePin_onlyEvents (l : Nat) (b : Bool) (s : State) : OnlyEvents s (seePin l b s) := by
  have shown : OnlyEvents s (put (Reg.HLK_STAT.PIN l) (b2n b) s) := (put_onlyRegisters ..).onlyEvents
  unfold seePin
  dsimp only
  split
  · exact shown.trans (raisePost_onlyEvents ..)
  · exact shown

theorem pin_seePin (l : Nat) (b : Bool) (s : State) : get (Reg.HLK_STAT.PIN l) (seePin l b s) = b2n b :=
  ((seePin_wrote l b s).get_mem (by simp) (v := b2n b) (by simp)).trans (b2n_mod_two b)

theorem exec_headLinkFault (hl : l < 2) (hd : domOn (10 + l) s = true) (b : Bool) : exec (.headLinkFault l b) s = .next
    (if linkRuns l s = true ∧ (hlkOf l s).faulted = false ∧ linkFaulty l b s = true then declareFault l (seePin l b s) else seePin l b s) :=
  (unit_of_lt hl).trans (occurs_of hd)

theorem headLinkFault_declares {b : Bool} (hl : l < 2) (hd : domOn (10 + l) s = true)
    (h : linkRuns l s = true ∧ (hlkOf l s).faulted = false ∧ linkFaulty l b s = true) : Gives (.headLinkFault l b) s (fun t =>
      get (Reg.HLK_STAT.UP l) t = 0 ∧
      get (Reg.HLK_STAT.TRIES l) t = 0 ∧
      get (Reg.HLK_STAT.FAULT l) t = 1 ∧
      get (Reg.HLK_STAT.PIN l) t = b2n b ∧
      (hlkOf l t).faulted = true ∧
      OnlyBlocks [6, 7, 8] s t ∧
      SameMem s t) := by
  have keys := downFields_nodup l hl
  have aborted := sectorsAborted_linkKeys hl (seePin l b s)
  have wrote := linkDown_wrote l (tmpCount (seePin l b s)) (sectorsAborted l (seePin l b s))
  obtain ⟨pinKept, apart⟩ := pin_apart l hl
  have pinShown : OnlyBlocks [6, 7, 8] s (seePin l b s) :=
    ((seePin_wrote l b s).onlyRegs.mono (by simp [downFields])).onlyBlocks (pinAndDown_block l hl)
  have quiet : OnlyBlocks [6, 7, 8] (seePin l b s) (sectorsAborted l (seePin l b s)) := fun f hf =>
    aborted.fields f (outsideBlocks_iff.2 fun hm => hf (List.mem_append_left [8] hm))
  have down : OnlyBlocks [6, 7, 8] _ (linkDown l (tmpCount (seePin l b s)) (sectorsAborted l (seePin l b s))) :=
    (wrote.onlyRegs.mono (by simp [downFields])).onlyBlocks (pinAndDown_block l hl)
  refine .of_next ((exec_headLinkFault hl hd b).trans (congrArg _ (if_pos h))) ?_
  rw [declareFault_eq]
  refine ⟨wrote.get_mem keys (v := 0) (by simp), wrote.get_mem keys (v := 0) (by simp), wrote.get_mem keys (v := 1) (by simp), ?_,
    faulted_linkDown .., (pinShown.trans quiet).trans down, fun a => ?_⟩
  · rw [wrote.get_ne apart, aborted.fields _ pinKept, pin_seePin]
  · rw [(linkDown_onlyLinks ..).sameMem a, aborted.sameMem a, (seePin_onlyEvents l b s).sameMem a]

theorem headLinkFault_sees {b : Bool} (hl : l < 2) (hd : domOn (10 + l) s = true)
    (h : ¬(linkRuns l s = true ∧ (hlkOf l s).faulted = false ∧ linkFaulty l b s = true)) : Gives (.headLinkFault l b) s (fun t =>
      get (Reg.HLK_STAT.PIN l) t = b2n b ∧
      OnlyRegs [Reg.HLK_STAT.PIN l] s t ∧
      OnlyEvents s t ∧
      SameMem s t) :=
  .of_next ((exec_headLinkFault hl hd b).trans (congrArg _ (if_neg h)))
    ⟨pin_seePin l b s, (seePin_wrote l b s).onlyRegs, seePin_onlyEvents l b s, (seePin_onlyEvents l b s).sameMem⟩

end Fault

/-! ### The settled statement -/

/-- Settles O32: each row writes its registers and the link's record; words and samples reach the lanes and streams alone, and a fault
trips heads and aborts sectors on the way, which spare HLK. -/
theorem headLinksCarryFramesAndLanes : Obligations.HeadLinksCarryFramesAndLanes := by
  unfold Obligations.HeadLinksCarryFramesAndLanes
  refine ⟨?training, ?good, ?late, ?bad, ?block, ?word, ?promotion, ?single, ?fault, ?pin⟩
  case training =>
    intro l o s hl hm
    obtain ⟨t, answers, lock, log0, log1, txUp, linkUp, single, miss, retrain, delay, pairing, sent, fields, frame⟩ :=
      headLinkTraining_trains (o := o) hl hm
    exact .of_next answers ⟨lock, log0, log1, txUp, linkUp, single, miss, retrain, delay, pairing, sent, fields.mono (by simp [trainFields]), frame,
      frame.sameMem⟩
  case good =>
    intro l b d s hl hr hd hg
    subst hd
    exact headLinkReturnFrame_good hl hr hg
  case late =>
    intro l b d s hl hr hd
    subst hd
    exact headLinkReturnFrame_late hl hr
  case bad =>
    intro l b d s hl hr hd hg
    subst hd
    exact headLinkReturnFrame_bad hl hr hg
  case block => exact fun l p x q s hl hp hd hx hq hk hu h1 hb h0 => receiveDataBlock_single hl hp hd hx hq hk hu h1 hb h0
  case word => exact fun l p x s hl hp hd => receiveDataBlock_lane hl hp hd
  case promotion =>
    intro l p s hl hp hu hb ha hr hc hn
    obtain ⟨t, answers, promoted, switch, inventory, fields, frame⟩ := lanePromotion_promotes hl hp ⟨hu, hb, ha, hr, hc, hn⟩
    exact .of_next answers ⟨promoted, switch, inventory, fields, frame, frame.sameMem⟩
  case single =>
    intro l p s hl hp hu h0 hb ha hr hn
    obtain ⟨t, answers, pairing, switch, fields, frame⟩ := singleLaneMode_enters hl hp ⟨hu, h0, hb, ha, hr, hn⟩
    exact .of_next answers ⟨pairing, switch, fields, frame, frame.sameMem⟩
  case fault => exact fun l b s hl hd hr hf hc => headLinkFault_declares hl hd ⟨hr, hf, hc⟩
  case pin =>
    intro l b s hl hd h
    refine headLinkFault_sees hl hd ?_
    rintro ⟨hr, hf, hc⟩
    simp [hr, hf, hc] at h

end Sys2Proof.Machine

namespace Sys2Proof.Machine

open Sys2Proof

/-! ### A sector that ends on a pair with a stray head (R138) -/

/-- The state after a handed sector. -/
def sectorHanded (n z p data pi : Nat) (more : Bool) (acc : Nat) (s : State) : State :=
  let t := writeRow n z p data pi (!more || p == 65535) s
  sectorEnds n (if more ∧ stopsHere n s = false then t else saveOpen n z acc t)

theorem exec_sectorWrite {n z p : Nat} (data pi : Nat) (more : Bool) (acc : Nat) {s : State} (hn : n < 5) (hm : mayHand n z p s = true) :
    exec (.sectorWrite n z p data pi more acc) s = .next (sectorHanded n z p data pi more acc s) := by
  rw [show exec (.sectorWrite n z p data pi more acc) s = execSectorWrite n z p data pi more acc s from rfl, execSectorWrite, unit_of_lt hn,
    occurs_of hm, sectorHanded]

/-- Actuator A is paired with a head 2 that no assist has, its unpairing waits for the end of the sector, and stream 1 serves that head
without a permit. -/
def strayHeadWriting : State :=
  puts [(Reg.SYS_MODE.CUR, 3), (Reg.HCH_CTL.EN 1, 1), (Reg.ZMG_CTL.EN, 1)]
    { strayHeadPaired with act := [(0, { head2 := 4088, unpairPend := true })] }

/-- The sector is reported UNWRITTEN, and the fallback at its end turns the assist of the stray head off, which clears HLK_CTL[0].EN. -/
theorem strayHead_sector_clears_link : get (Reg.HLK_CTL.EN 0) (sectorHanded 1 0 0 0 0 true 0 strayHeadWriting) = 0 := by decide +kernel

/-- Refutes O33: the clause of a sector handed to a stream bounds the change to blocks 5, 6, 7, 9 and 19 for every state, also where the
record of the actuator holds a head 2 that no assist has; the fallback that waits for the sector's end then changes block 8. -/
theorem not_streamsWriteAndDecode : ¬ Obligations.StreamsWriteAndDecode := by
  unfold Obligations.StreamsWriteAndDecode
  rintro ⟨-, -, -, -, handed, -⟩
  have mayBe : mayHand 1 0 0 strayHeadWriting = true := by decide +kernel
  obtain ⟨t, ht, -, -, -, outside⟩ := handed 1 0 0 0 0 0 true strayHeadWriting (by decide) mayBe
  obtain rfl : sectorHanded 1 0 0 0 0 true 0 strayHeadWriting = t := by
    rw [exec_sectorWrite 0 0 true 0 (by decide) mayBe] at ht
    exact Host.Outcome.next.inj ht
  have kept : get (Reg.HLK_CTL.EN 0) (sectorHanded 1 0 0 0 0 true 0 strayHeadWriting) = 1 := outside (Reg.HLK_CTL.EN 0) (by decide)
  rw [strayHead_sector_clears_link] at kept
  exact absurd kept (by decide)

end Sys2Proof.Machine

namespace Sys2Proof.Machine

open Sys2Proof

/-! ### A fault of the optical link during a read for a stray slot (R291) -/

theorem exec_opticalLinkFault {p : Bool} {s : State} (hd : domOn 12 s = true) (he : get Reg.OLK_CTL.EN s = 1) (hf : s.olk.faulted = false)
    (hc : get Reg.OLK_STAT.UP s = 0 ∨ 3 ≤ get Reg.OLK_STAT.MISS s ∨ 3 ≤ s.olk.echoRow ∨ p = true) :
    exec (.opticalLinkFault p) s = .next (declareOptFault (seeOptPin p s)) := by
  rw [show exec (.opticalLinkFault p) s = execOpticalLinkFault p s from rfl, execOpticalLinkFault, occurs_of hd, if_pos ⟨he, hf, hc⟩]

/-- The optical link is down, and OCH reads for a command on slot 32,764. A slot's OCH_RESULT stands at a stride of 4 bytes, which for this
number ends at MOT_AX_CFG[0], whose EN reads 0. -/
def straySlotRead : State :=
  { regs := [(Reg.PMU_DOM_STAT.ON.key, 2 ^ 12), (Reg.OLK_CTL.EN.key, 1)]
    och := { job := some { op := 1, slot := 32764, layer := 0, cluster := 0 } } }

/-- The aborted read's code 5 goes to that address. -/
theorem straySlot_fault_writes_axis : get (Reg.MOT_AX_CFG.EN 0) (declareOptFault (seeOptPin false straySlotRead)) = 5 := by decide +kernel

/-- Refutes O42: the clause of a fault of the optical link bounds the change to blocks 11 and 12 for every state, also where the read in
progress names a slot that OCH does not have; its result then goes to block 13. -/
theorem not_linksSendFramesAndControl : ¬ Obligations.LinksSendFramesAndControl := by
  unfold Obligations.LinksSendFramesAndControl
  rintro ⟨-, -, -, -, -, -, -, -, -, -, fault, -⟩
  have on : domOn 12 straySlotRead = true := by decide
  have enabled : get Reg.OLK_CTL.EN straySlotRead = 1 := by decide
  have down : get Reg.OLK_STAT.UP straySlotRead = 0 := by decide
  obtain ⟨t, ht, -, -, -, -, -, -, -, -, outside, -⟩ := fault false straySlotRead on enabled rfl (.inl down)
  obtain rfl : declareOptFault (seeOptPin false straySlotRead) = t := by
    rw [exec_opticalLinkFault on enabled rfl (.inl down)] at ht
    exact Host.Outcome.next.inj ht
  have kept : get (Reg.MOT_AX_CFG.EN 0) (declareOptFault (seeOptPin false straySlotRead)) = 0 := outside (Reg.MOT_AX_CFG.EN 0) (by decide)
  rw [straySlot_fault_writes_axis] at kept
  exact absurd kept (by decide)

end Sys2Proof.Machine

/-! SUPPORT. Proofs of the obligations of the zones and media family (08_zones_and_media.md). -/

namespace Sys2Proof.Machine

open Sys2Proof

/-! ### A started command (R357, R234) -/

/-- A started command whose namespace waits for no table is run. -/
theorem onCtx_of {n : Nat} {c : Ctx} {s : State} (hc : ctxOf n s = some c) (hs : c.started = true)
    (hw : (isMedia c.cmd.op && tableWaits c.cmd.ns s) = false) (f : Ctx → State) : onCtx n f s = .next (f c) := by
  simp [onCtx, hc, hs, hw]

/-- A zone command at its turn, on a zone that can take it. -/
theorem zoneOp_of {n k : Nat} {c : Ctx} {s : State} (hn : c.stamp = n) (hb : zoneBusy c s = false)
    (ht : nsType c.cmd.ns s = 2 ∨ nsType c.cmd.ns s = 4) (hr : (zoneOf (ctxZone c s) s).state ≠ 13)
    (ho : (zoneOf (ctxZone c s) s).state ≠ 15) (f : Nat → State) : zoneOp c n k f s = f (ctxZone c s) := by
  rw [zoneOp, if_neg (by simp [hn, hb]), if_neg (by omega), if_neg hr, if_neg ho]

/-! ### A zone of a sealed namespace that is finished while Empty (R210, R318) -/

/-- The finish command of a host for the first zone of namespace 1. -/
def finishFirstZone : Ctx :=
  { stamp := 9, cls := 2, started := true
    cmd := { port := .sas0, nexus := 2, tag := 5, ns := 1, op := .zoneFinish 0, ordered := false, naca := false, ncq := false } }

/-- Namespace 1 is sealed, its first zone is logical zone 3 and Empty, and SEAL's contexts stand one page above the zone table. -/
def emptySealedZone : State :=
  let t := setZone 3 { state := 1, type := 4, ns := 1 } (puts [(Reg.ZMG_NS_CFG.TYPE 1, 4), (Reg.ZMG_NS_ZONES.FIRST 1, 3), (Reg.ZMG_NS_COUNT.COUNT 1, 2),
    (Reg.ZMG_ZTBL_HI.ADDR, 16), (Reg.SEAL_CTX_HI.ADDR, 16), (Reg.SEAL_CTX_LO.ADDR, 1)] .reset)
  { t with cmd := { t.cmd with ctxs := [finishFirstZone] } }

/-- The state after the finish. -/
def emptySealedFinished : State := finish finishFirstZone .success 0 (finishZone 3 emptySealedZone)

/-- The zone takes a hashing context, whose running digest goes to the table at SEAL_CTX (R318). -/
theorem emptySealedFinished_context : memByte 0x1000001040 emptySealedFinished = 254 := by decide +kernel

theorem exec_zoneFinish_emptySealedZone : exec (.zoneFinish 9) emptySealedZone = .next emptySealedFinished := by
  have zone : ctxZone finishFirstZone emptySealedZone = 3 := by decide
  rw [show exec (.zoneFinish 9) emptySealedZone = execZoneFinish 9 emptySealedZone from rfl, execZoneFinish,
    onCtx_of (c := finishFirstZone) (by decide +kernel) rfl (by decide +kernel)]
  change Host.Outcome.next (zoneOp finishFirstZone 9 0 _ _) = _
  rw [zoneOp_of (n := 9) rfl (by decide +kernel) (.inr (by decide +kernel)) (by rw [zone]; decide +kernel) (by rw [zone]; decide +kernel), zone]
  rfl

/-- Refutes O34: the clause of a finish has memory change in the zone's descriptor alone for every state, also where the zone is an Empty one
of a sealed namespace; it then takes a hashing context, which stands in the table at SEAL_CTX. -/
theorem not_zoneCommandsMoveTheZoneStates : ¬ Obligations.ZoneCommandsMoveTheZoneStates := by
  unfold Obligations.ZoneCommandsMoveTheZoneStates
  rintro ⟨-, -, -, -, -, -, -, -, -, -, -, -, -, -, -, -, finished, -⟩
  have zone : ctxZone finishFirstZone emptySealedZone = 3 := by decide
  obtain ⟨t, ht, -, -, -, -, -, outside, -⟩ := finished 9 finishFirstZone 0 emptySealedZone (by decide +kernel) rfl (by decide +kernel) rfl
    (.inr (by decide +kernel)) (by decide +kernel) (by rw [zone]; decide +kernel) (by rw [zone]; decide +kernel) rfl
  obtain rfl : emptySealedFinished = t := by
    rw [exec_zoneFinish_emptySealedZone] at ht
    exact Host.Outcome.next.inj ht
  have kept : memByte 0x1000001040 emptySealedFinished = memByte 0x1000001040 emptySealedZone :=
    outside 0x1000001040 (by rw [zone]; decide +kernel)
  rw [emptySealedFinished_context] at kept
  exact absurd kept (by decide +kernel)

end Sys2Proof.Machine

namespace Sys2Proof.Machine
open Sys2Proof

/-! ### A direct band write that leaves too few spare zones (R220, R227) -/

/-- The state after a direct write of a part of a band, which leaves an image that cleaning completes. -/
def directPart (n band count phys : Nat) (s : State) : State :=
  let z := get (Reg.ZMG_NS_ZONES.FIRST n) s + band
  let t := send (.image phys 0 (cachedRun n (65536 * band) s count)) (setSpares (s.zmg.spares.filter (· != phys)) (takeBlocks z 0 count s))
  showFill { t with zmg := { t.zmg with images := t.zmg.images.filter (fun q => q.1 != z) ++ [(z, phys, count, tmpCount s % 2 ^ 48)] } }

theorem exec_directBandWrite_part {n b k q : Nat} {s : State} (hn : n < 64) (hz : zmgOn s = true) (ht : nsType n s = 3)
    (hi : inNs n (get (Reg.ZMG_NS_ZONES.FIRST n) s + b) s = true) (hq : s.zmg.spares.contains q = true)
    (hr : reservedZones s < s.zmg.spares.length) (hk : k < 65536) (hm : 2 ^ get Reg.ZMG_DM_CFG.DIRECT_MIN s * 256 ≤ k)
    (hc : (List.range k).all (fun i => (lineOf n (65536 * b + i) s).any (fun l => l.mask == 255)) = true) :
    exec (.directBandWrite n b k q) s = .next (directPart n b k q s) := by
  rw [show exec (.directBandWrite n b k q) s = execDirectBandWrite n b k q s from rfl, execDirectBandWrite, unit_of_lt hn, occurs_of,
    if_neg (by omega), directPart]
  refine ⟨hz, ht, hi, hq, by omega, .inr hr, hm, ?_⟩
  rw [← hc]
  congr 1
  funext i
  cases lineOf n (65536 * b + i) s <;> rfl

/-- Namespace 1 is drive-managed, its first band's first 256 blocks are cached whole, zone 9 is the one spare zone left, and LOW is 1. The host
is routed source 292, line 4 of ZMG, and the PCIe link is up. -/
def lastSpareZone : State :=
  { puts [(Reg.ZMG_CTL.EN, 1), (Reg.ZMG_NS_CFG.TYPE 1, 3), (Reg.ZMG_NS_COUNT.COUNT 1, 1), (Reg.ZMG_DM_CFG.DIRECT_MIN, 0), (Reg.ZMG_DM_CFG.FREE_MIN, 0),
      (Reg.ZMG_SPARE.FREE, 1), (Reg.ZMG_SPARE.LOW, 1), (Reg.SYS_IRQ_ROUTE.EN 292, 1), (Reg.SYS_IRQ_ROUTE.CTX 292, 9), (Reg.SYS_IRQ_ROUTE.PRIO 292, 1),
      (Reg.HPC_LINK.UP, 1)] .reset with
    zmg := { spares := [9] }, cmd := { lines := (List.range 256).map (fun i => ⟨1, i, 255, 0, [4]⟩) } }

/-- FREE falls below LOW as the zone is taken, and line 4 goes out to the host ahead of the image. -/
theorem lastSpareZone_written_sends_line : (directPart 1 0 256 9 lastSpareZone).sent.head? = some (.msix 1024) := by decide +kernel

/-- Refutes O35: the clause of a direct write of a part of a band has the image leave first for every state, also where it takes the spare zone
that LOW asks for; line 4 of R227 then goes out to the host before it. -/
theorem not_mediaCacheAndBandsAreWritten : ¬ Obligations.MediaCacheAndBandsAreWritten := by
  unfold Obligations.MediaCacheAndBandsAreWritten
  rintro ⟨-, -, part, -⟩
  have on : zmgOn lastSpareZone = true := by decide
  have managed : nsType 1 lastSpareZone = 3 := by decide
  have band : inNs 1 (get (Reg.ZMG_NS_ZONES.FIRST 1) lastSpareZone + 0) lastSpareZone = true := by decide
  have reserved : reservedZones lastSpareZone < lastSpareZone.zmg.spares.length := by decide +kernel
  have cached : (List.range 256).all (fun i => (lineOf 1 (65536 * 0 + i) lastSpareZone).any (fun l => l.mask == 255)) = true := by decide +kernel
  obtain ⟨t, ht, -, -, first, -⟩ := part 1 0 256 9 lastSpareZone (by decide) on managed band rfl reserved (by decide) (by decide) cached
  obtain rfl : directPart 1 0 256 9 lastSpareZone = t := by
    rw [exec_directBandWrite_part (by decide) on managed band rfl reserved (by decide) (by decide) cached] at ht
    exact Host.Outcome.next.inj ht
  have image := first.symm.trans lastSpareZone_written_sends_line
  cases image
end Sys2Proof.Machine

namespace Sys2Proof.Machine

open Sys2Proof

section Completion

variable {s t u : State}

/-! ### What the command store leaves as a command ends (R374) -/

/-- A command that completes in a state of which P holds completes in one of which what follows from P holds. -/
theorem Gives.imp {i : Instr} {P Q : State → Prop} (h : Gives i s P) (k : ∀ t, P t → Q t) : Gives i s Q :=
  let ⟨t, ht, hp⟩ := h
  ⟨t, ht, k t hp⟩

/-- Nothing has changed but registers, the command store, the fabric's record and what has been sent. -/
def OnlyStore (s t : State) : Prop := t = { s with regs := t.regs, cmd := t.cmd, fab := t.fab, sent := t.sent }

/-- Nothing has changed but the fabric's record and what has been sent. -/
def OnlyFabric (s t : State) : Prop := t = { s with fab := t.fab, sent := t.sent }

theorem OnlyStore.trans (h : OnlyStore s t) (k : OnlyStore t u) : OnlyStore s u :=
  Eq.trans k (congrArg (fun x : State => { x with regs := u.regs, cmd := u.cmd, fab := u.fab, sent := u.sent }) h)

theorem OnlyFabric.trans (h : OnlyFabric s t) (k : OnlyFabric t u) : OnlyFabric s u :=
  Eq.trans k (congrArg (fun x : State => { x with fab := u.fab, sent := u.sent }) h)

theorem OnlyFabric.refl (s : State) : OnlyFabric s s := rfl

theorem OnlyFabric.ite {c : Prop} [Decidable c] (h : OnlyFabric s t) (k : OnlyFabric s u) : OnlyFabric s (if c then t else u) := by
  split <;> assumption

theorem OnlyFabric.foldl {α : Type} {g : State → α → State} (h : ∀ u x, OnlyFabric u (g u x)) (l : List α) (s : State) : OnlyFabric s (l.foldl g s) := by
  induction l generalizing s with
  | nil => exact .refl s
  | cons x l ih => exact (h s x).trans (ih (g s x))

theorem OnlyFabric.onlyStore (h : OnlyFabric s t) : OnlyStore s t := by
  unfold OnlyStore
  rw [h]

theorem OnlyRegisters.onlyStore (h : OnlyRegisters s t) : OnlyStore s t := by
  unfold OnlyStore
  rw [h]

theorem setCmd_onlyStore (r : CmdSt) (s : State) : OnlyStore s (setCmd r s) := rfl
theorem send_onlyFabric (m : Msg) (s : State) : OnlyFabric s (send m s) := rfl

theorem OnlyFabric.regs (h : OnlyFabric s t) : t.regs = s.regs := by rw [h]
theorem OnlyFabric.cmd (h : OnlyFabric s t) : t.cmd = s.cmd := by rw [h]
theorem OnlyStore.sameMem (h : OnlyStore s t) : SameMem s t := fun a => by rw [memByte, h, memByte]

/-! ### Frames that answer a peer (R430 to R435) -/

theorem setFabPort_onlyFabric (p : Nat) (r : FabPort) (s : State) : OnlyFabric s (setFabPort p r s) := rfl
theorem sendOut_onlyFabric (p q : Nat) (f : Frame) (s : State) : OnlyFabric s (sendOut p q f s) := rfl
theorem dropWork_onlyFabric (w : FabWork) (s : State) : OnlyFabric s (dropWork w s) := rfl

theorem returnCredit_onlyFabric (p : Option Nat) (f : Frame) (s : State) : OnlyFabric s (returnCredit p f s) := by
  unfold returnCredit
  split
  · rfl
  · exact .ite rfl rfl

theorem sendFrame_onlyFabric (p : Nat) (w : FabWait) (s : State) : OnlyFabric s (sendFrame p w s) :=
  ((setFabPort_onlyFabric ..).trans (sendOut_onlyFabric ..)).trans (returnCredit_onlyFabric ..)

theorem pump_onlyFabric (n p : Nat) (s : State) : OnlyFabric s (pump n p s) := by
  induction n generalizing s with
  | zero => rfl
  | succ n ih =>
    unfold pump
    split
    · rfl
    · exact (sendFrame_onlyFabric ..).trans (ih _)

theorem respondTo_onlyFabric (dst type tag status p1 p2 : Nat) (payload : List Nat) (last : Bool) (s : State) :
    OnlyFabric s (respondTo dst type tag status p1 p2 payload last s) :=
  .ite ((setFabPort_onlyFabric ..).trans (pump_onlyFabric ..)) (.refl s)

theorem endWork_onlyFabric (n : Nat) (st : Status) (lba : Nat) (s : State) : OnlyFabric s (endWork n st lba s) := by
  unfold endWork
  split
  · rfl
  · exact (respondTo_onlyFabric ..).trans (dropWork_onlyFabric ..)

theorem answerData_onlyFabric (n : Nat) (l : List Nat) (s : State) : OnlyFabric s (answerData n l s) := by
  unfold answerData
  split
  · rfl
  · refine OnlyFabric.trans ?_ (dropWork_onlyFabric ..)
    refine OnlyFabric.trans (.foldl (fun u i => ?_) _ s) (.ite ?_ (.refl _)) <;> exact respondTo_onlyFabric ..

/-! ### The context is freed -/

/-- The fields that count contexts. -/
def countFields : List Fld := [Reg.CMD_POOL_STAT.USED, Reg.CMD_EXEC_STAT.EXEC]

/-- Writes of some fields change no others. -/
theorem puts_onlyRegs {l : List (Fld × Nat)} {k : List Fld} (s : State) (h : l.map Prod.fst = k := by rfl) : OnlyRegs k s (puts l s) :=
  h ▸ ((Wrote.nil s).puts l).onlyRegs

theorem countCtxs_onlyRegs (s : State) : OnlyRegs countFields s (countCtxs s) := puts_onlyRegs s

theorem countCtxs_onlyRegisters (s : State) : OnlyRegisters s (countCtxs s) := puts_onlyRegisters ..

theorem countCtxs_cmd (s : State) : (countCtxs s).cmd = s.cmd := by rw [countCtxs_onlyRegisters s]

theorem dropCtx_onlyStore (n : Nat) (s : State) : OnlyStore s (dropCtx n s) :=
  OnlyStore.trans (t := { s with cmd := { s.cmd with ctxs := s.cmd.ctxs.filter (fun c => c.stamp != n) }
                                 fab := { s.fab with work := s.fab.work.filter (fun w => w.stamp != n) } })
    rfl (countCtxs_onlyRegisters _).onlyStore

theorem dropCtx_onlyRegs (n : Nat) (s : State) : OnlyRegs countFields s (dropCtx n s) := countCtxs_onlyRegs _

theorem dropCtx_cmd (n : Nat) (s : State) : (dropCtx n s).cmd = { s.cmd with ctxs := s.cmd.ctxs.filter (fun c => c.stamp != n) } := countCtxs_cmd _

theorem dropCtx_sent (n : Nat) (s : State) : (dropCtx n s).sent = s.sent := by
  rw [dropCtx, countCtxs_onlyRegisters]

theorem dropCtx_fab (n : Nat) (s : State) : (dropCtx n s).fab = { s.fab with work := s.fab.work.filter (fun w => w.stamp != n) } := by
  rw [dropCtx, countCtxs_onlyRegisters]

theorem ctxOf_dropCtx (n : Nat) (s : State) : ctxOf n (dropCtx n s) = none := by
  rw [ctxOf, dropCtx_cmd, List.find?_eq_none]
  intro c hc
  simpa using (List.mem_filter.1 hc).2

/-! ### A completion (R374) -/

/-- A command has completed with a status that names an LBA: its completion is the last message, where its port is not the fabric, its context
is freed, and of the command store's record the contexts and the NCQ failure alone have changed. -/
structure Finished (c : Ctx) (st : Status) (lba : Nat) (s t : State) : Prop where
  sent : c.cmd.port ≠ .fabric → t.sent = s.sent ++ [statusMsg c.cmd.port c.cmd.nexus c.cmd.tag st lba]
  freed : ctxOf c.stamp t = none
  regs : OnlyRegs countFields s t
  frame : OnlyStore s t
  cmd : t.cmd = { s.cmd with ctxs := t.cmd.ctxs, ncqFailed := t.cmd.ncqFailed }

variable {c : Ctx} {st : Status} {lba n : Nat}

theorem noteNcq_eq (c : Ctx) (st : Status) (s : State) : ∃ l, noteNcq c st s = setCmd { s.cmd with ncqFailed := l } s := by
  unfold noteNcq
  split
  · exact ⟨_, rfl⟩
  · exact ⟨s.cmd.ncqFailed, rfl⟩

/-- Of a state in which a context is gone the NCQ failure may change and the command stays finished. -/
theorem Finished.of_gone {l : Bool} (hs : c.cmd.port ≠ .fabric → t.sent = s.sent ++ [statusMsg c.cmd.port c.cmd.nexus c.cmd.tag st lba])
    (freed : ctxOf c.stamp t = none) (regs : OnlyRegs countFields s t) (frame : OnlyStore s t) (cmd : t.cmd = { s.cmd with ctxs := t.cmd.ctxs }) :
    Finished c st lba s (setCmd { t.cmd with ncqFailed := l } t) where
  sent := hs
  freed := freed
  regs := OnlyRegs.trans regs (.of_regs _ rfl)
  frame := frame.trans (setCmd_onlyStore ..)
  cmd := congrArg (fun r : CmdSt => { r with ncqFailed := l }) cmd

theorem finish_finished (h : st ≠ .internalError) (c : Ctx) (lba : Nat) (s : State) : Finished c st lba s (finish c st lba s) := by
  rw [finish, if_neg h]
  obtain ⟨l, hl⟩ := noteNcq_eq c st (dropCtx c.stamp
    (if c.cmd.port = .fabric then endWork c.stamp st lba s else send (statusMsg c.cmd.port c.cmd.nexus c.cmd.tag st lba) s))
  rw [hl]
  have told : OnlyFabric s (if c.cmd.port = .fabric then endWork c.stamp st lba s else send (statusMsg c.cmd.port c.cmd.nexus c.cmd.tag st lba) s) :=
    .ite (endWork_onlyFabric ..) (send_onlyFabric ..)
  refine .of_gone (fun hp => ?_) (ctxOf_dropCtx ..) ((OnlyRegs.of_regs _ told.regs).trans (dropCtx_onlyRegs _ _))
    (told.onlyStore.trans (dropCtx_onlyStore ..)) ?_
  · exact (dropCtx_sent ..).trans (congrArg State.sent (if_neg hp))
  · rw [dropCtx_cmd, told.cmd]

/-- The clause that speaks of a command's end. -/
theorem Finished.clause (h : Finished c st lba s t) (hn : c.stamp = n) :
    (c.cmd.port ≠ .fabric → t.sent = s.sent ++ [statusMsg c.cmd.port c.cmd.nexus c.cmd.tag st lba]) ∧ ctxOf n t = none ∧
      OnlyRegs [Reg.CMD_POOL_STAT.USED, Reg.CMD_EXEC_STAT.EXEC] s t ∧
      t = { s with regs := t.regs, cmd := t.cmd, fab := t.fab, sent := t.sent } ∧ SameMem s t :=
  ⟨h.sent, hn ▸ h.freed, h.regs, h.frame, h.frame.sameMem⟩

end Completion

end Sys2Proof.Machine

namespace Sys2Proof.Machine

open Sys2Proof

section Commands

variable {s t u : State} {c : Ctx} {n : Nat}

/-! ### A command that runs (R58, R357) -/

/-- A started command whose namespace waits for no table. -/
structure Runs (n : Nat) (c : Ctx) (s : State) : Prop where
  ctx : ctxOf n s = some c
  started : c.started = true
  ready : (isMedia c.cmd.op && tableWaits c.cmd.ns s) = false

theorem Runs.onCtx (h : Runs n c s) (f : Ctx → State) : onCtx n f s = .next (f c) := onCtx_of h.ctx h.started h.ready f

theorem onReady_of_none (h : notReady c.cmd.op s = none) (t : State) : onReady c t s = t := by
  rw [onReady, h]

theorem onReady_of_some {x : Status} (h : notReady c.cmd.op s = some x) (t : State) : onReady c t s = finish c x (rangeOf c s).1 s := by
  rw [onReady, h]

theorem notReady_ne_internalError {op : HostOp} {x : Status} (h : notReady op s = some x) : x ≠ .internalError := by
  rintro rfl
  unfold notReady at h
  split at h
  · split at h <;> simp at h
  · split at h
    · split at h <;> simp at h
    · simp at h

/-- A command that ends with a status other than the internal error is finished. -/
theorem Gives.finished {i : Instr} {st : Status} {lba : Nat} (h : exec i s = .next (finish c st lba s)) (hs : st ≠ .internalError := by decide) :
    Gives i s (Finished c st lba s) :=
  .of_next h (finish_finished hs c lba s)

theorem Gives.unchanged {i : Instr} (h : exec i s = .next s) : Gives i s (fun t => t = s) := .of_next h rfl

/-! ### Writes (R366, R370) -/

/-- What WRITE_COMPLETE does to a write. -/
theorem Runs.exec_writeComplete (h : Runs n c s) (hw : isWrite c.cmd.op = true) : exec (.writeComplete n) s = .next
    (if c.accepted = false then s
     else if c.cached then finish c .success (writeSpan c).1 s
     else match firstLost c.cmd.ns (writeSpan c).1 (writeSpan c).2 s with
      | some a => finish c .writeFault a s
      | none => onReady c (if onMediaAll c s then finish c .success (writeSpan c).1 s else s) s) := by
  rw [show exec (.writeComplete n) s = execWriteComplete n s from rfl, execWriteComplete, h.onCtx]
  simp only [hw, Bool.not_true, Bool.false_eq_true, false_or, Bool.not_eq_true'] <;> rfl

theorem Runs.writeComplete_success (h : Runs n c s) (hw : isWrite c.cmd.op = true) (ha : c.accepted = true)
    (hm : c.cached = true ∨ (firstLost c.cmd.ns (writeSpan c).1 (writeSpan c).2 s = none ∧ notReady c.cmd.op s = none ∧ onMediaAll c s = true)) :
    Gives (.writeComplete n) s (Finished c .success (writeSpan c).1 s) := by
  refine .finished ?_
  rw [h.exec_writeComplete hw, if_neg (by simp [ha])]
  by_cases hc : c.cached = true
  · rw [if_pos hc]
  · obtain ⟨hl, hr, hd⟩ := hm.resolve_left hc
    rw [if_neg hc, hl, onReady_of_none hr, if_pos hd]

theorem Runs.writeComplete_fault {a : Nat} (h : Runs n c s) (hw : isWrite c.cmd.op = true) (ha : c.accepted = true) (hc : c.cached = false)
    (hl : firstLost c.cmd.ns (writeSpan c).1 (writeSpan c).2 s = some a) : Gives (.writeComplete n) s (Finished c .writeFault a s) := by
  refine .finished ?_
  rw [h.exec_writeComplete hw, if_neg (by simp [ha]), if_neg (by simp [hc]), hl]

theorem Runs.writeComplete_early (h : Runs n c s) (hw : isWrite c.cmd.op = true) (ha : c.accepted = false) :
    Gives (.writeComplete n) s (fun t => t = s) :=
  .unchanged (by rw [h.exec_writeComplete hw, if_pos ha])

theorem Runs.writeComplete_cached (h : Runs n c s) (hw : isWrite c.cmd.op = true) (ha : c.accepted = true) (hc : c.cached = false)
    (hl : firstLost c.cmd.ns (writeSpan c).1 (writeSpan c).2 s = none) (hr : notReady c.cmd.op s = none) :
    Gives (.writeComplete n) s (fun t => onMediaAll c s = false → t = s) := by
  refine .of_next (h.exec_writeComplete hw) fun hm => ?_
  rw [if_neg (by simp [ha]), if_neg (by simp [hc]), hl, onReady_of_none hr, hm]
  rfl

/-- What WRITE_ACCEPT does to a block that its write may pass. -/
theorem Runs.exec_writeAccept {b d v : Nat} {g : Bool} (h : Runs n c s) (hd : stagedData c b d s = some v) (hm : mayAccept c b s = true) :
    exec (.writeAccept n b d g) s = .next (onReady c
      (if !g then finish c .guardCheck (writeSpan c).1 s else if cacheRoom c.cmd.ns b s then acceptBlock c b v s
        else put Reg.CMD_WC_STAT.WAIT 1 s) s) := by
  rw [show exec (.writeAccept n b d g) s = execWriteAccept n b d g s from rfl, execWriteAccept, h.onCtx, hd]
  simp only [if_pos hm]

theorem Runs.writeAccept_full {b d v : Nat} (h : Runs n c s) (hd : stagedData c b d s = some v) (hm : mayAccept c b s = true)
    (hr : notReady c.cmd.op s = none) (hf : cacheRoom c.cmd.ns b s = false) :
    Gives (.writeAccept n b d true) s (fun t => get Reg.CMD_WC_STAT.WAIT t = 1 ∧ OnlyRegs [Reg.CMD_WC_STAT.WAIT] s t ∧
      t = { s with regs := t.regs } ∧ SameMem s t) := by
  have frame : OnlyRegisters s (put Reg.CMD_WC_STAT.WAIT 1 s) := put_onlyRegisters ..
  refine .of_next (h.exec_writeAccept hd hm) ?_
  rw [onReady_of_none hr, hf]
  exact ⟨get_put_self _ 1 s, put_onlyRegs (List.mem_singleton_self _) 1 s, frame, frame.onlyEvents.sameMem⟩

theorem Runs.writeAccept_guard {b d v : Nat} (h : Runs n c s) (hd : stagedData c b d s = some v) (hm : mayAccept c b s = true)
    (hr : notReady c.cmd.op s = none) : Gives (.writeAccept n b d false) s (Finished c .guardCheck (writeSpan c).1 s) := by
  refine .finished ?_
  rw [h.exec_writeAccept hd hm, onReady_of_none hr]
  rfl

theorem Runs.writeAccept_notReady {b d : Nat} {g : Bool} {x : Status} (h : Runs n c s) (hp : c.cmd.port ≠ .fabric) (hm : mayAccept c b s = true)
    (hr : notReady c.cmd.op s = some x) : Gives (.writeAccept n b d g) s (Finished c x (rangeOf c s).1 s) := by
  refine .finished ?_ (notReady_ne_internalError hr)
  rw [h.exec_writeAccept (v := d) (if_neg hp) hm, onReady_of_some hr]

/-! ### Flush (R367, R370) -/

theorem Runs.exec_flush {b : Bool} (h : Runs n c s) (ho : c.cmd.op = .flush b) (hr : notReady c.cmd.op s = none) : exec (.flush n) s = .next
    (if (flushSet c s).all (fun m => flushed c m s) then
      match s.cmd.lost.find? (fun e => (flushSet c s).contains e.ns && !e.reported) with
      | some e => finish c .writeFault e.lba (reportLost e s)
      | none => finish c .success 0 s
     else s) := by
  rw [show exec (.flush n) s = execFlush n s from rfl, execFlush, h.onCtx]
  simp only [ho]
  rw [onReady_of_none hr] <;> rfl

theorem Runs.flush_success {b : Bool} (h : Runs n c s) (ho : c.cmd.op = .flush b) (hr : notReady c.cmd.op s = none)
    (hf : (flushSet c s).all (fun m => flushed c m s) = true)
    (hl : s.cmd.lost.find? (fun e => (flushSet c s).contains e.ns && !e.reported) = none) :
    Gives (.flush n) s (Finished c .success 0 s) := by
  refine .finished ?_
  rw [h.exec_flush ho hr, if_pos hf, hl]

theorem Runs.flush_early {b : Bool} (h : Runs n c s) (ho : c.cmd.op = .flush b) (hr : notReady c.cmd.op s = none)
    (hf : (flushSet c s).all (fun m => flushed c m s) = false) : Gives (.flush n) s (fun t => t = s) :=
  .unchanged (by rw [h.exec_flush ho hr, hf]; rfl)

/-- The fields that show the lost-write list. -/
def lostFields : List Fld := [Reg.CMD_LWL.COUNT, Reg.CMD_LWL.UNREP, Reg.CMD_LWL_E0.LBA, Reg.CMD_LWL_E1.LBA, Reg.CMD_LWL_E1.NS, Reg.CMD_LWL_E1.CAUSE,
  Reg.CMD_LWL_E1.REPORTED, Reg.CMD_LWL_E2.COUNT]

theorem showLost_onlyRegisters (s : State) : OnlyRegisters s (showLost s) := puts_onlyRegisters ..

theorem showLost_onlyRegs (s : State) : OnlyRegs lostFields s (showLost s) := puts_onlyRegs s

theorem setLost_cmd (l : List Lost) (s : State) : (setLost l s).cmd = { s.cmd with lost := l } := by
  rw [setLost, showLost_onlyRegisters]

theorem setLost_onlyStore (l : List Lost) (s : State) : OnlyStore s (setLost l s) :=
  OnlyStore.trans (setCmd_onlyStore { s.cmd with lost := l } s) (showLost_onlyRegisters _).onlyStore

theorem setLost_onlyRegs (l : List Lost) (s : State) : OnlyRegs lostFields s (setLost l s) := showLost_onlyRegs _

theorem setLost_sent (l : List Lost) (s : State) : (setLost l s).sent = s.sent := by
  rw [setLost, showLost_onlyRegisters]

theorem Runs.flush_fault {b : Bool} {e : Lost} (h : Runs n c s) (ho : c.cmd.op = .flush b) (hr : notReady c.cmd.op s = none)
    (hf : (flushSet c s).all (fun m => flushed c m s) = true)
    (hl : s.cmd.lost.find? (fun e => (flushSet c s).contains e.ns && !e.reported) = some e) :
    Gives (.flush n) s (Finished c .writeFault e.lba (reportLost e s)) :=
  .of_next (by rw [h.exec_flush ho hr, if_pos hf, hl]) (finish_finished (by decide) ..)

/-- The clause of a flush that tells of a loss. -/
theorem Finished.flush_clause {e : Lost} (h : Finished c .writeFault e.lba (reportLost e s) t) (hn : c.stamp = n) :
    (c.cmd.port ≠ .fabric → t.sent = s.sent ++ [statusMsg c.cmd.port c.cmd.nexus c.cmd.tag .writeFault e.lba]) ∧ ctxOf n t = none ∧
      t.cmd.lost = s.cmd.lost.map (fun x => if x = e then { x with reported := true } else x) ∧ OnlyBlocks [19] s t ∧
      t = { s with regs := t.regs, cmd := t.cmd, fab := t.fab, sent := t.sent } ∧ SameMem s t := by
  have frame : OnlyStore s t := (setLost_onlyStore ..).trans h.frame
  refine ⟨fun hp => ?_, hn ▸ h.freed, ?_, ?_, frame, frame.sameMem⟩
  · rw [h.sent hp, reportLost, setLost_sent]
  · rw [h.cmd, reportLost, setLost_cmd]
  · exact (OnlyRegs.append (setLost_onlyRegs _ s) h.regs).onlyBlocks (by decide)

/-! ### Self-tests (R378, R379) -/

theorem Runs.exec_selfTestStart {e : Bool} (h : Runs n c s) (ho : c.cmd.op = .selfTest e) : exec (.selfTestStart n) s = .next
    (if get Reg.CMD_ST_STAT.STATE s ≠ 0 then finish c .selfTestInProgress 0 s
      else finish c .success 0 (puts [(Reg.CMD_ST_STAT.STATE, 1), (Reg.CMD_ST_STAT.KIND, if e then 2 else 1),
        (Reg.CMD_ST_STAT.PORT, portCode c.cmd.port), (Reg.CMD_ST_STAT.PCT, 0)] (setCmd { s.cmd with testBy := some c.cmd.port } s))) := by
  rw [show exec (.selfTestStart n) s = execSelfTestStart n s from rfl, execSelfTestStart, h.onCtx]
  simp only [ho]

theorem Runs.selfTestStart_busy {e : Bool} (h : Runs n c s) (ho : c.cmd.op = .selfTest e) (hb : get Reg.CMD_ST_STAT.STATE s ≠ 0) :
    Gives (.selfTestStart n) s (Finished c .selfTestInProgress 0 s) := by
  refine .finished ?_
  rw [h.exec_selfTestStart ho, if_pos hb]

/-- What a self-test of a kind that begins for a port shows. -/
def testRow (e : Bool) (p : Port) : List (Fld × Nat) :=
  [(Reg.CMD_ST_STAT.STATE, 1), (Reg.CMD_ST_STAT.KIND, if e then 2 else 1), (Reg.CMD_ST_STAT.PORT, portCode p), (Reg.CMD_ST_STAT.PCT, 0)]

/-- The state in which a self-test of a kind has begun for a port. -/
def testBegun (e : Bool) (p : Port) (s : State) : State := puts (testRow e p) (setCmd { s.cmd with testBy := some p } s)

theorem Runs.selfTestStart_idle {e : Bool} (h : Runs n c s) (ho : c.cmd.op = .selfTest e) (hb : get Reg.CMD_ST_STAT.STATE s = 0) :
    Gives (.selfTestStart n) s (Finished c .success 0 (testBegun e c.cmd.port s)) :=
  .of_next (by rw [h.exec_selfTestStart ho, if_neg (not_not_intro hb)]; rfl) (finish_finished (by decide) ..)

end Commands

end Sys2Proof.Machine

namespace Sys2Proof.Machine

open Sys2Proof

section Tests

variable {s t u : State} {c : Ctx} {n : Nat}

theorem OnlyRegisters.sameMem (h : OnlyRegisters s t) : SameMem s t := h.onlyEvents.sameMem

/-! ### The state of a self-test (R378, R379) -/

/-- The fields that tell of a self-test. -/
def testFields : List Fld := [Reg.CMD_ST_STAT.STATE, Reg.CMD_ST_STAT.KIND, Reg.CMD_ST_STAT.PORT, Reg.CMD_ST_STAT.PCT]

theorem testRow_nodup (e : Bool) (p : Port) : (((testRow e p).map Prod.fst).map Fld.key).Nodup :=
  show (testFields.map Fld.key).Nodup by decide

theorem testBegun_onlyStore (e : Bool) (p : Port) (s : State) : OnlyStore s (testBegun e p s) :=
  OnlyStore.trans (setCmd_onlyStore { s.cmd with testBy := some p } s) (puts_onlyRegisters ..).onlyStore

theorem testBegun_onlyRegs (e : Bool) (p : Port) (s : State) : OnlyRegs testFields s (testBegun e p s) :=
  puts_onlyRegs (setCmd { s.cmd with testBy := some p } s)

theorem testBegun_sent (e : Bool) (p : Port) (s : State) : (testBegun e p s).sent = s.sent := by
  rw [testBegun, puts_onlyRegisters]
  rfl

theorem testBegun_testBy (e : Bool) (p : Port) (s : State) : (testBegun e p s).cmd.testBy = some p := by
  rw [testBegun, puts_onlyRegisters]
  rfl

theorem portCode_lt (p : Port) : portCode p < 8 := by
  cases p <;> decide

theorem state_testBegun (e : Bool) (p : Port) (s : State) : get Reg.CMD_ST_STAT.STATE (testBegun e p s) = 1 :=
  get_puts_mem (v := 1) (testRow_nodup e p) (.head _) _

theorem kind_testBegun (e : Bool) (p : Port) (s : State) : get Reg.CMD_ST_STAT.KIND (testBegun e p s) = if e then 2 else 1 := by
  rw [testBegun, get_puts_mem (v := if e then 2 else 1) (testRow_nodup e p) (by simp [testRow])]
  cases e <;> rfl

theorem port_testBegun (e : Bool) (p : Port) (s : State) : get Reg.CMD_ST_STAT.PORT (testBegun e p s) = portCode p := by
  rw [testBegun, get_puts_mem (v := portCode p) (testRow_nodup e p) (by simp [testRow])]
  exact Nat.mod_eq_of_lt (portCode_lt p)

/-- The clause of a self-test that starts. -/
theorem Finished.begun_clause {e : Bool} (h : Finished c .success 0 (testBegun e c.cmd.port s) t) (hn : c.stamp = n) :
    get Reg.CMD_ST_STAT.STATE t = 1 ∧ (get Reg.CMD_ST_STAT.KIND t = if e then 2 else 1) ∧ get Reg.CMD_ST_STAT.PORT t = portCode c.cmd.port ∧
      t.cmd.testBy = some c.cmd.port ∧
      (c.cmd.port ≠ .fabric → t.sent = s.sent ++ [statusMsg c.cmd.port c.cmd.nexus c.cmd.tag .success 0]) ∧ ctxOf n t = none ∧
      OnlyRegs [Reg.CMD_POOL_STAT.USED, Reg.CMD_EXEC_STAT.EXEC, Reg.CMD_ST_STAT.STATE, Reg.CMD_ST_STAT.KIND, Reg.CMD_ST_STAT.PORT, Reg.CMD_ST_STAT.PCT] s t ∧
      t = { s with regs := t.regs, cmd := t.cmd, fab := t.fab, sent := t.sent } ∧ SameMem s t := by
  have frame : OnlyStore s t := (testBegun_onlyStore ..).trans h.frame
  have regs := (OnlyRegs.append (testBegun_onlyRegs e c.cmd.port s) h.regs)
  refine ⟨?_, ?_, ?_, ?_, fun hp => ?_, hn ▸ h.freed, regs.mono (by decide), frame, frame.sameMem⟩
  · rw [h.regs _ (by decide), state_testBegun]
  · rw [h.regs _ (by decide), kind_testBegun]
  · rw [h.regs _ (by decide), port_testBegun]
  · rw [h.cmd]
    exact testBegun_testBy e c.cmd.port s
  · rw [h.sent hp, testBegun_sent]

theorem selfTestSuspend_clause {k : Nat} (h : get Reg.CMD_ST_STAT.STATE s = 1) (hm : mediaInStore s = true) :
    Gives (.selfTestSuspend k) s (fun t => get Reg.CMD_ST_STAT.STATE t = 2 ∧ get Reg.CMD_ST_STAT.PCT t = min k 100 ∧
      OnlyRegs [Reg.CMD_ST_STAT.STATE, Reg.CMD_ST_STAT.PCT] s t ∧ OnlyRegisters s t ∧ SameMem s t) := by
  have frame : OnlyRegisters s (put Reg.CMD_ST_STAT.PCT (min k 100) (put Reg.CMD_ST_STAT.STATE 2 s)) :=
    (put_onlyRegisters ..).trans (put_onlyRegisters ..)
  refine .of_next (occurs_of ⟨h, hm⟩) ⟨?_, ?_, puts_onlyRegs s, frame, frame.sameMem⟩
  · exact (get_put_ne (show Reg.CMD_ST_STAT.STATE.key ≠ Reg.CMD_ST_STAT.PCT.key by decide) _ _).trans (get_put_self _ 2 s)
  · exact (get_put_self ..).trans (Nat.mod_eq_of_lt (show min k 100 < 128 by omega))

theorem selfTestResume_clause {k : Nat} (h : get Reg.CMD_ST_STAT.STATE s = 2) (hm : mediaInStore s = false)
    (hk : (if get Reg.CMD_ST_CFG.IDLE_MS s = 0 then 100 else get Reg.CMD_ST_CFG.IDLE_MS s) ≤ k) :
    Gives (.selfTestResume k) s (fun t => get Reg.CMD_ST_STAT.STATE t = 1 ∧ OnlyRegs [Reg.CMD_ST_STAT.STATE] s t ∧ OnlyRegisters s t ∧ SameMem s t) := by
  have frame : OnlyRegisters s (put Reg.CMD_ST_STAT.STATE 1 s) := put_onlyRegisters ..
  exact .of_next (occurs_of ⟨h, hm, hk⟩) ⟨get_put_self _ 1 s, put_onlyRegs (List.mem_singleton_self _) 1 s, frame, frame.sameMem⟩

theorem testEnds_onlyEvents (r : Nat) (s : State) :
    OnlyEvents (setCmd { s.cmd with testBy := none, testLog := s.cmd.testLog ++ [(get Reg.CMD_ST_STAT.KIND s, r)] } s) (testEnds r s) :=
  (put_onlyRegisters ..).onlyEvents.trans (raisePost_onlyEvents ..)

theorem exec_selfTestEnd {r : Nat} {a : Option Port}
    (h : a = none ∧ get Reg.CMD_ST_STAT.STATE s = 1 ∨ a.isSome = true ∧ get Reg.CMD_ST_STAT.STATE s ≠ 0 ∧ s.cmd.testBy = a) :
    exec (.selfTestEnd r a) s = .next (testEnds r s) := by
  rcases h with ⟨rfl, h⟩ | ⟨ha, h, hb⟩
  · exact occurs_of h
  · obtain ⟨p, rfl⟩ := Option.isSome_iff_exists.1 ha
    exact occurs_of ⟨h, hb⟩

theorem selfTestEnd_clause {r : Nat} {a : Option Port}
    (h : a = none ∧ get Reg.CMD_ST_STAT.STATE s = 1 ∨ a.isSome = true ∧ get Reg.CMD_ST_STAT.STATE s ≠ 0 ∧ s.cmd.testBy = a) :
    Gives (.selfTestEnd r a) s (fun t => get Reg.CMD_ST_STAT.STATE t = 0 ∧ t.cmd.testBy = none ∧
      t.cmd.testLog = s.cmd.testLog ++ [(get Reg.CMD_ST_STAT.KIND s, r)] ∧ OnlyRegs [Reg.CMD_ST_STAT.STATE] s t ∧
      t = { s with regs := t.regs, cmd := t.cmd, sys := t.sys, evr := t.evr, sent := t.sent, host := { s.host with msixPend := t.host.msixPend } } ∧
      SameMem s t) := by
  have events := testEnds_onlyEvents r s
  refine .of_next (exec_selfTestEnd h) ⟨?_, ?_, ?_, testEnds_onlyRegs r s, events.of_setCmd, events.sameMem⟩
  · rw [testEnds, get_raisePost, get_put_self]
    rfl
  · rw [events.cmd]
    rfl
  · rw [events.cmd]
    rfl

end Tests

section CacheEnable

variable {s t u : State} {c : Ctx} {n : Nat}

/-! ### The cache-enable bits (R365) -/

/-- A bit added where it is clear leaves every other bit. -/
theorem testBit_add_two_pow_ne {v i j : Nat} (hi : v.testBit i = false) (h : j ≠ i) : (v + 2 ^ i).testBit j = v.testBit j := by
  induction i generalizing v j with
  | zero =>
    rw [Nat.testBit_zero, decide_eq_false_iff_not] at hi
    obtain ⟨j, rfl⟩ := Nat.exists_eq_succ_of_ne_zero h
    rw [Nat.testBit_succ, Nat.testBit_succ, show (v + 2 ^ 0) / 2 = v / 2 by omega]
  | succ i ih =>
    rw [Nat.testBit_succ] at hi
    have half : (v + 2 ^ (i + 1)) / 2 = v / 2 + 2 ^ i := by omega
    cases j with
    | zero => simp [Nat.pow_succ]
    | succ j =>
      rw [Nat.testBit_succ, Nat.testBit_succ, half]
      exact ih hi (fun e => h (congrArg _ e))

theorem withBit_testBit_ne {v i j : Nat} (b : Bool) (h : j ≠ i) : (withBit v i b).testBit j = v.testBit j := by
  have other := withBit_testBit_self v i b
  unfold withBit at other ⊢
  split
  · rfl
  next hi =>
    rw [if_neg hi] at other
    cases b with
    | true => exact testBit_add_two_pow_ne (by simpa using hi) h
    | false =>
      have set : v.testBit i = true := by simpa using hi
      have back := testBit_add_two_pow_ne other h
      simp only [Bool.false_eq_true, if_false] at back ⊢
      rw [← back, Nat.sub_add_cancel (Nat.ge_two_pow_of_testBit set)]

theorem bit_putBit_ne {f : Fld} {i j : Nat} (b : Bool) (s : State) (h : j ≠ i) (hj : j < f.width) : bit f j (putBit f i b s) = bit f j s := by
  rw [putBit, bit_put_self hj, withBit_testBit_ne b h, bit]

theorem putBit_onlyRegisters (f : Fld) (i : Nat) (b : Bool) (s : State) : OnlyRegisters s (putBit f i b s) := put_onlyRegisters ..

/-- The fields of the cache-enable bits. -/
def wceFields : List Fld := [Reg.CMD_WCE_LO.EN, Reg.CMD_WCE_HI.EN]

theorem putWce_onlyRegisters (b : Bool) (s : State) (m : Nat) : OnlyRegisters s (putWce b s m) := by
  unfold putWce
  split <;> exact putBit_onlyRegisters ..

theorem putWce_onlyRegs (b : Bool) (s : State) (m : Nat) : OnlyRegs wceFields s (putWce b s m) := by
  unfold putWce
  split <;> exact put_onlyRegs (by decide) _ _

theorem wce_putWce_self {m : Nat} (hm : m < 64) (b : Bool) (s : State) : wce m (putWce b s m) = b := by
  unfold wce putWce
  split
  next h => exact bit_putBit_self (f := Reg.CMD_WCE_LO.EN) h b s
  next h => exact bit_putBit_self (f := Reg.CMD_WCE_HI.EN) (show m - 32 < 32 by omega) b s

theorem wce_congr (m : Nat) (lo : get Reg.CMD_WCE_LO.EN t = get Reg.CMD_WCE_LO.EN s) (hi : get Reg.CMD_WCE_HI.EN t = get Reg.CMD_WCE_HI.EN s) :
    wce m t = wce m s := by
  rw [wce, bit_congr m lo, bit_congr (m - 32) hi, wce]

theorem wce_putWce_ne {m k : Nat} (hm : m < 64) (h : m ≠ k) (b : Bool) (s : State) : wce m (putWce b s k) = wce m s := by
  unfold wce putWce
  by_cases hk : k < 32
  · rw [if_pos hk]
    split
    next lo => exact bit_putBit_ne (f := Reg.CMD_WCE_LO.EN) b s h lo
    · exact bit_congr _ (get_put_ne (by decide) _ _)
  · rw [if_neg hk]
    split
    · exact bit_congr _ (get_put_ne (by decide) _ _)
    next hi => exact bit_putBit_ne (f := Reg.CMD_WCE_HI.EN) b s (show m - 32 ≠ k - 32 by omega) (show m - 32 < 32 by omega)

theorem putWces_onlyRegisters (b : Bool) (l : List Nat) (s : State) : OnlyRegisters s (l.foldl (putWce b) s) := by
  induction l generalizing s with
  | nil => rfl
  | cons k l ih => exact (putWce_onlyRegisters b s k).trans (ih _)

theorem putWces_onlyRegs (b : Bool) (l : List Nat) (s : State) : OnlyRegs wceFields s (l.foldl (putWce b) s) := by
  induction l generalizing s with
  | nil => exact .of_regs _ rfl
  | cons k l ih => exact (putWce_onlyRegs b s k).trans (ih _)

/-- The bits of the namespaces named are set to b, and no other. -/
theorem wce_putWces {m : Nat} (hm : m < 64) (b : Bool) (l : List Nat) (s : State) :
    wce m (l.foldl (putWce b) s) = if m ∈ l then b else wce m s := by
  induction l generalizing s with
  | nil => rfl
  | cons k l ih =>
    rw [List.foldl_cons, ih]
    by_cases hk : m = k
    · subst hk
      simp [wce_putWce_self hm]
    · simp [hk, wce_putWce_ne hm hk]

theorem wceSet_lt {m : Nat} (h : m ∈ wceSet c s) : m < 64 := by
  unfold wceSet at h
  split at h
  · exact List.mem_range.1 (List.mem_filter.1 h).1
  · split at h
    next ha =>
      rw [List.mem_singleton] at h
      simp only [isAttached, Bool.and_eq_true, decide_eq_true_eq] at ha
      exact h ▸ ha.1.1
    · cases h

/-- The state in which the cache-enable bits that a command names are set. -/
def wceChanged (c : Ctx) (b : Bool) (s : State) : State := recache c (wceSet c s) ((wceSet c s).foldl (putWce b) s)

theorem wceChanged_onlyStore (c : Ctx) (b : Bool) (s : State) : OnlyStore s (wceChanged c b s) :=
  (putWces_onlyRegisters b (wceSet c s) s).onlyStore.trans (setCmd_onlyStore ..)

theorem wceChanged_onlyRegs (c : Ctx) (b : Bool) (s : State) : OnlyRegs wceFields s (wceChanged c b s) :=
  (putWces_onlyRegs b (wceSet c s) s).trans (.of_regs _ rfl)

theorem wceChanged_sent (c : Ctx) (b : Bool) (s : State) : (wceChanged c b s).sent = s.sent := by
  rw [wceChanged, recache, putWces_onlyRegisters]
  rfl

theorem wce_wceChanged {m : Nat} (hm : m < 64) (c : Ctx) (b : Bool) (s : State) :
    wce m (wceChanged c b s) = if m ∈ wceSet c s then b else wce m s :=
  (wce_congr m rfl rfl).trans (wce_putWces hm b _ s)

theorem Runs.writeCacheEnable {b : Bool} (h : Runs n c s) (ho : c.cmd.op = .setWce b) :
    Gives (.writeCacheEnableChange n) s (Finished c .success 0 (wceChanged c b s)) := by
  refine .of_next ?_ (finish_finished (by decide) ..)
  rw [show exec (.writeCacheEnableChange n) s = execWriteCacheEnableChange n s from rfl, execWriteCacheEnableChange, h.onCtx]
  simp only [ho]
  rfl

/-- The clause of a cache-enable command. -/
theorem Finished.wce_clause {b : Bool} (h : Finished c .success 0 (wceChanged c b s) t) (hn : c.stamp = n) :
    (wceSet c s).all (fun m => wce m t == b) = true ∧
      (List.range 64).all (fun m => (wceSet c s).contains m || wce m t == wce m s) = true ∧
      (c.cmd.port ≠ .fabric → t.sent = s.sent ++ [statusMsg c.cmd.port c.cmd.nexus c.cmd.tag .success 0]) ∧ ctxOf n t = none ∧
      OnlyRegs [Reg.CMD_POOL_STAT.USED, Reg.CMD_EXEC_STAT.EXEC, Reg.CMD_WCE_LO.EN, Reg.CMD_WCE_HI.EN] s t ∧
      t = { s with regs := t.regs, cmd := t.cmd, fab := t.fab, sent := t.sent } ∧ SameMem s t := by
  have frame : OnlyStore s t := (wceChanged_onlyStore ..).trans h.frame
  have bits {m : Nat} (hm : m < 64) : wce m t = if m ∈ wceSet c s then b else wce m s :=
    (wce_congr m (h.regs _ (by decide)) (h.regs _ (by decide))).trans (wce_wceChanged hm c b s)
  have regs := OnlyRegs.append (wceChanged_onlyRegs c b s) h.regs
  refine ⟨List.all_eq_true.2 fun m hm => ?_, List.all_eq_true.2 fun m hm => ?_, fun hp => ?_, hn ▸ h.freed, regs.mono (by decide), frame, frame.sameMem⟩
  · rw [bits (wceSet_lt hm), if_pos hm, beq_self_eq_true]
  · by_cases hs : m ∈ wceSet c s
    · simp [hs]
    · simp [bits (List.mem_range.1 hm), hs]
  · rw [h.sent hp, wceChanged_sent]

end CacheEnable

end Sys2Proof.Machine

namespace Sys2Proof.Machine

open Sys2Proof

section Reads

variable {s t u : State} {c : Ctx} {n : Nat}

/-! ### Free values do not reach what a port sends -/

/-- A state with another count of the free values taken. -/
def withFree (k : Nat) (s : State) : State := { s with free := k }

theorem withFree_ite {p : Prop} [Decidable p] (k : Nat) (s t : State) :
    (if p then withFree k s else withFree k t) = withFree k (if p then s else t) := (apply_ite _ p s t).symm

theorem returnCredit_withFree (p : Option Nat) (f : Frame) (k : Nat) (s : State) :
    returnCredit p f (withFree k s) = withFree k (returnCredit p f s) := by
  cases p with
  | none => rfl
  | some q => exact withFree_ite (p := fabUp q s = true) k (sendCtl q _ s) s

theorem sendFrame_withFree (p : Nat) (w : FabWait) (k : Nat) (s : State) : sendFrame p w (withFree k s) = withFree k (sendFrame p w s) :=
  (show sendFrame p w (withFree k s) = returnCredit w.from' w.frame (withFree k _) from rfl).trans (returnCredit_withFree ..)

theorem pump_withFree (n p k : Nat) (s : State) : pump n p (withFree k s) = withFree k (pump n p s) := by
  induction n generalizing s with
  | zero => rfl
  | succ n ih =>
    rw [pump, pump, show fabPort p (withFree k s) = fabPort p s from rfl]
    cases nextOut (fabPort p s) with
    | none => rfl
    | some w => exact (congrArg _ (sendFrame_withFree p w k s)).trans (ih _)

theorem toPort_withFree (p : Nat) (q : Option Nat) (f : Frame) (k : Nat) (s : State) :
    toPort p q f (withFree k s) = withFree k (toPort p q f s) :=
  (show toPort p q f (withFree k s) = pump _ p (withFree k _) from rfl).trans (pump_withFree ..)

theorem respondTo_withFree (dst type tag status p1 p2 : Nat) (payload : List Nat) (last : Bool) (k : Nat) (s : State) :
    respondTo dst type tag status p1 p2 payload last (withFree k s) = withFree k (respondTo dst type tag status p1 p2 payload last s) := by
  rw [respondTo, respondTo, originate, originate, ← withFree_ite, ← toPort_withFree]
  rfl

theorem answerData_withFree (n : Nat) (l : List Nat) (k : Nat) (s : State) : answerData n l (withFree k s) = withFree k (answerData n l s) := by
  unfold answerData
  rw [show workOf n (withFree k s) = workOf n s from rfl]
  cases workOf n s with
  | none => rfl
  | some w =>
    dsimp only
    rw [List.foldl_hom (withFree k) (fun u i => (respondTo_withFree _ _ _ _ _ _ _ _ k u)), respondTo_withFree, withFree_ite]
    rfl

/-! ### The blocks of a read -/

theorem beneath_snd (ns b : Nat) (m : Option Nat) (s : State) : ∃ k, (beneath ns b m s).2 = withFree k s := by
  unfold beneath
  split
  · split
    · exact ⟨s.free, rfl⟩
    · exact ⟨s.free + 1, rfl⟩
  · exact ⟨s.free, rfl⟩

/-- Reading blocks changes nothing but the count of the free values taken. -/
theorem readBlocks_snd (ns lba n : Nat) (l : List Nat) (m : List (Option Nat)) (s : State) : ∃ k, (readBlocks ns lba n l m s).2 = withFree k s := by
  induction l generalizing m s with
  | nil => exact ⟨s.free, rfl⟩
  | cons b l ih =>
    rw [readBlocks]
    obtain ⟨j, hj⟩ := beneath_snd ns b (m.headD none) s
    split
    next x u hu =>
    obtain ⟨i, rfl⟩ : ∃ i, u = withFree i s := by
      split at hu
      · exact ⟨j, hj ▸ (congrArg Prod.snd hu).symm⟩
      · exact ⟨s.free, (congrArg Prod.snd hu).symm⟩
    obtain ⟨k, hk⟩ := ih m.tail (withFree i s)
    exact ⟨k, hk⟩

/-! ### What a read meets (R223, R229, R363, R371) -/

theorem Runs.exec_hostRead {m : List (Option Nat)} {g : Bool} {a k : Nat} (h : Runs n c s) (ho : c.cmd.op = .read a k)
    (hr : notReady c.cmd.op s = none) : exec (.hostRead n m g) s = .next
      (match firstLost c.cmd.ns a k s with
       | some x => finish c .unrecoveredRead x s
       | none =>
         if touchesPend c.cmd.ns a k s ∧ (get Reg.ZMG_RECOV_CFG.REREAD s = 0 ∨ m.any (·.isNone) = true) then finish c .unrecoveredRead a s
         else if readOffline c s then finish c .zoneOffline a s
         else if readHeld c s then s
         else if !g then finish c .guardCheck a s
         else serveRead c a k m s) := by
  rw [show exec (.hostRead n m g) s = execHostRead n m g s from rfl, execHostRead, h.onCtx]
  simp only [ho]
  rw [onReady_of_none hr] <;> rfl

theorem Runs.hostRead_lost {m : List (Option Nat)} {g : Bool} {a k x : Nat} (h : Runs n c s) (ho : c.cmd.op = .read a k)
    (hr : notReady c.cmd.op s = none) (hl : firstLost c.cmd.ns a k s = some x) : Gives (.hostRead n m g) s (Finished c .unrecoveredRead x s) :=
  .finished (by rw [h.exec_hostRead ho hr, hl])

/-- Nothing has changed but what a served read may change. -/
def OnlyServed (s t : State) : Prop := t = { s with regs := t.regs, cmd := t.cmd, fab := t.fab, sent := t.sent, free := t.free }

theorem OnlyServed.refl (s : State) : OnlyServed s s := rfl

theorem OnlyServed.of_withFree {k : Nat} (h : OnlyStore (withFree k s) t) : OnlyServed s t := by
  unfold OnlyServed
  rw [h]
  rfl

theorem OnlyStore.onlyServed (h : OnlyStore s t) : OnlyServed s t := .of_withFree (k := s.free) h

theorem OnlyServed.sameMem (h : OnlyServed s t) : SameMem s t := fun a => by rw [memByte, h, memByte]

/-- What a read that is served does: its data go to its port, and it is finished. -/
theorem serveRead_eq (c : Ctx) {a k : Nat} {m : List (Option Nat)} {l : List Nat}
    (hl : (readBlocks c.cmd.ns a k (blocksOf c.cmd.ns a k s) m s).1 = some l)
    (hm : mediaRead s = true ∨ (blocksOf c.cmd.ns a k s).any (fun b => needsMedia c.cmd.ns b a k s && !aboveMedia c.cmd.ns b s) = false) :
    ∃ j, serveRead c a k m s =
      if c.cmd.port = .fabric then
        dropCtx c.stamp (answerData c.stamp (bytesOf (k * (4096 / lbasPerBlock c.cmd.ns s)) (readBytes c.cmd.ns a k l s)) (withFree j s))
      else finish c .success a (send (.readData c.cmd.port c.cmd.nexus c.cmd.tag a (readBytes c.cmd.ns a k l s)) (withFree j s)) := by
  obtain ⟨j, hj⟩ := readBlocks_snd c.cmd.ns a k (blocksOf c.cmd.ns a k s) m s
  refine ⟨j, ?_⟩
  have near : ¬((blocksOf c.cmd.ns a k s).any (fun b => needsMedia c.cmd.ns b a k s && !aboveMedia c.cmd.ns b s) = true ∧ (!mediaRead s) = true) := by
    rintro ⟨far, closed⟩
    rcases hm with hm | hm
    · simp [hm] at closed
    · exact absurd far (by rw [hm]; decide)
  rw [serveRead, ← hj]
  dsimp only
  rw [hl]
  exact if_neg near

theorem serveRead_onlyServed (c : Ctx) (a k : Nat) (m : List (Option Nat)) (s : State) : OnlyServed s (serveRead c a k m s) := by
  cases hl : (readBlocks c.cmd.ns a k (blocksOf c.cmd.ns a k s) m s).1 with
  | none =>
    rw [serveRead]
    dsimp only
    rw [hl]
    exact .refl s
  | some l =>
    by_cases hm : mediaRead s = true ∨ (blocksOf c.cmd.ns a k s).any (fun b => needsMedia c.cmd.ns b a k s && !aboveMedia c.cmd.ns b s) = false
    · obtain ⟨j, hj⟩ := serveRead_eq c hl hm
      rw [hj]
      refine .of_withFree (k := j) ?_
      split
      · exact (answerData_onlyFabric ..).onlyStore.trans (dropCtx_onlyStore ..)
      · exact (send_onlyFabric ..).onlyStore.trans (finish_finished (by decide) ..).frame
    · rw [not_or, Bool.not_eq_true, Bool.not_eq_false] at hm
      rw [serveRead]
      dsimp only
      rw [hl]
      dsimp only
      rw [if_pos ⟨hm.2, by rw [hm.1]; rfl⟩]
      exact .refl s

/-- What a read that no list names does. -/
def readAt (c : Ctx) (a k : Nat) (m : List (Option Nat)) (g : Bool) (s : State) : State :=
  if touchesPend c.cmd.ns a k s ∧ (get Reg.ZMG_RECOV_CFG.REREAD s = 0 ∨ m.any (·.isNone) = true) then finish c .unrecoveredRead a s
  else if readOffline c s then finish c .zoneOffline a s
  else if readHeld c s then s
  else if !g then finish c .guardCheck a s
  else serveRead c a k m s

theorem readAt_onlyServed (c : Ctx) (a k : Nat) (m : List (Option Nat)) (g : Bool) (s : State) : OnlyServed s (readAt c a k m g s) := by
  have ended {st : Status} (h : st ≠ .internalError) : OnlyServed s (finish c st a s) := (finish_finished h ..).frame.onlyServed
  unfold readAt
  split
  · exact ended (by decide)
  split
  · exact ended (by decide)
  split
  · exact .refl s
  split
  · exact ended (by decide)
  · exact serveRead_onlyServed ..

/-- A read may go on where its LBAs are not pending or its ladder pass has read them. -/
theorem not_pend_iff {m : List (Option Nat)} {a k : Nat} :
    (touchesPend c.cmd.ns a k s && (get Reg.ZMG_RECOV_CFG.REREAD s == 0 || m.any (·.isNone))) = false ↔
      ¬(touchesPend c.cmd.ns a k s ∧ (get Reg.ZMG_RECOV_CFG.REREAD s = 0 ∨ m.any (·.isNone) = true)) := by
  rw [← Bool.not_eq_true, Bool.and_eq_true, Bool.or_eq_true, beq_iff_eq]

theorem Runs.exec_hostRead_readAt {m : List (Option Nat)} {g : Bool} {a k : Nat} (h : Runs n c s) (ho : c.cmd.op = .read a k)
    (hr : notReady c.cmd.op s = none) (hl : firstLost c.cmd.ns a k s = none) : exec (.hostRead n m g) s = .next (readAt c a k m g s) := by
  rw [h.exec_hostRead ho hr, hl, readAt]

theorem Runs.hostRead_refused {m : List (Option Nat)} {g : Bool} {a k : Nat} (h : Runs n c s) (ho : c.cmd.op = .read a k) (hn : c.stamp = n)
    (hr : notReady c.cmd.op s = none) (hl : firstLost c.cmd.ns a k s = none) : Gives (.hostRead n m g) s (fun t =>
      (touchesPend c.cmd.ns a k s = true → (get Reg.ZMG_RECOV_CFG.REREAD s = 0 ∨ m.any (·.isNone) = true) →
        (c.cmd.port ≠ .fabric → t.sent = s.sent ++ [statusMsg c.cmd.port c.cmd.nexus c.cmd.tag .unrecoveredRead a]) ∧ ctxOf n t = none) ∧
      ((touchesPend c.cmd.ns a k s && (get Reg.ZMG_RECOV_CFG.REREAD s == 0 || m.any (·.isNone))) = false → readOffline c s = true →
        (c.cmd.port ≠ .fabric → t.sent = s.sent ++ [statusMsg c.cmd.port c.cmd.nexus c.cmd.tag .zoneOffline a]) ∧ ctxOf n t = none) ∧
      ((touchesPend c.cmd.ns a k s && (get Reg.ZMG_RECOV_CFG.REREAD s == 0 || m.any (·.isNone))) = false → readOffline c s = false →
        readHeld c s = false → g = false →
        (c.cmd.port ≠ .fabric → t.sent = s.sent ++ [statusMsg c.cmd.port c.cmd.nexus c.cmd.tag .guardCheck a]) ∧ ctxOf n t = none) ∧
      SameMem s t) := by
  have ended {st : Status} (hs : st ≠ .internalError) :
      (c.cmd.port ≠ .fabric → (finish c st a s).sent = s.sent ++ [statusMsg c.cmd.port c.cmd.nexus c.cmd.tag st a]) ∧ ctxOf n (finish c st a s) = none :=
    ⟨(finish_finished hs ..).sent, hn ▸ (finish_finished hs ..).freed⟩
  refine .of_next (h.exec_hostRead_readAt ho hr hl) ⟨fun hp hm => ?_, fun hp ho => ?_, fun hp ho hh hg => ?_, (readAt_onlyServed ..).sameMem⟩
  · rw [readAt, if_pos ⟨hp, hm⟩]
    exact ended (by decide)
  · rw [readAt, if_neg (not_pend_iff.1 hp), if_pos ho]
    exact ended (by decide)
  · rw [readAt, if_neg (not_pend_iff.1 hp), ho, hh, hg]
    exact ended (st := .guardCheck) (by decide)

/-- A read that nothing holds is served. -/
theorem Runs.exec_hostRead_served {m : List (Option Nat)} {a k : Nat} {l : List Nat} (h : Runs n c s) (ho : c.cmd.op = .read a k)
    (hr : notReady c.cmd.op s = none) (hl : firstLost c.cmd.ns a k s = none)
    (hp : (touchesPend c.cmd.ns a k s && (get Reg.ZMG_RECOV_CFG.REREAD s == 0 || m.any (·.isNone))) = false)
    (hz : readOffline c s = false) (hh : readHeld c s = false)
    (hd : (readBlocks c.cmd.ns a k (blocksOf c.cmd.ns a k s) m s).1 = some l)
    (hm : mediaRead s = true ∨ (blocksOf c.cmd.ns a k s).any (fun b => needsMedia c.cmd.ns b a k s && !aboveMedia c.cmd.ns b s) = false) :
    ∃ j, exec (.hostRead n m true) s = .next
      (if c.cmd.port = .fabric then
        dropCtx c.stamp (answerData c.stamp (bytesOf (k * (4096 / lbasPerBlock c.cmd.ns s)) (readBytes c.cmd.ns a k l s)) (withFree j s))
      else finish c .success a (send (.readData c.cmd.port c.cmd.nexus c.cmd.tag a (readBytes c.cmd.ns a k l s)) (withFree j s))) := by
  obtain ⟨j, hj⟩ := serveRead_eq c hd hm
  refine ⟨j, ?_⟩
  rw [h.exec_hostRead_readAt ho hr hl, readAt, if_neg (not_pend_iff.1 hp), hz, hh, ← hj]
  rfl

/-- The clause of a read that a host is served. -/
theorem served_host {m : List (Option Nat)} {a j v : Nat} (hn : c.stamp = n) (hf : c.cmd.port ≠ .fabric)
    (h : exec (.hostRead n m true) s = .next (if c.cmd.port = .fabric then u
      else finish c .success a (send (.readData c.cmd.port c.cmd.nexus c.cmd.tag a v) (withFree j s)))) :
    Gives (.hostRead n m true) s (fun t =>
      t.sent = s.sent ++ [.readData c.cmd.port c.cmd.nexus c.cmd.tag a v, statusMsg c.cmd.port c.cmd.nexus c.cmd.tag .success a] ∧
      ctxOf n t = none ∧ OnlyRegs [Reg.CMD_POOL_STAT.USED, Reg.CMD_EXEC_STAT.EXEC] s t ∧
      t = { s with regs := t.regs, cmd := t.cmd, fab := t.fab, sent := t.sent, free := t.free } ∧ SameMem s t) := by
  rw [if_neg hf] at h
  have done := finish_finished (st := .success) (by decide) c a (send (.readData c.cmd.port c.cmd.nexus c.cmd.tag a v) (withFree j s))
  have frame : OnlyServed s _ := .of_withFree ((send_onlyFabric ..).onlyStore.trans done.frame)
  refine .of_next h ⟨?_, hn ▸ done.freed, (OnlyRegs.of_regs _ rfl).trans done.regs, frame, frame.sameMem⟩
  rw [done.sent hf]
  exact List.append_assoc ..

/-- The clause of a read that a peer is served. -/
theorem served_peer {m : List (Option Nat)} {j : Nat} {l : List Nat} (hn : c.stamp = n) (hf : c.cmd.port = .fabric)
    (h : exec (.hostRead n m true) s = .next (if c.cmd.port = .fabric then dropCtx c.stamp (answerData c.stamp l (withFree j s)) else u)) :
    Gives (.hostRead n m true) s (fun t =>
      t.sent = s.sent ++ (answerData n l s).sent.drop s.sent.length ∧
      t.fab.work = (answerData n l s).fab.work.filter (fun w => w.stamp != n) ∧ ctxOf n t = none ∧ OnlyBlocks [19, 26, 28] s t ∧ SameMem s t) := by
  subst hn
  rw [if_pos hf, answerData_withFree] at h
  have told := answerData_onlyFabric c.stamp l s
  have frame : OnlyServed s (dropCtx c.stamp (withFree j (answerData c.stamp l s))) := by
    rw [← answerData_withFree]
    exact .of_withFree ((answerData_onlyFabric ..).onlyStore.trans (dropCtx_onlyStore ..))
  refine .of_next h ⟨?_, ?_, ctxOf_dropCtx .., ?_, frame.sameMem⟩
  · rw [dropCtx_sent]
    exact (List.prefix_iff_eq_append.1 (answerData_steady (Steady.refl s)).2.1).symm
  · rw [dropCtx_fab]
    rfl
  · exact OnlyRegs.onlyBlocks ((OnlyRegs.of_regs _ told.regs).trans (dropCtx_onlyRegs _ _)) (by decide)

end Reads

end Sys2Proof.Machine

namespace Sys2Proof.Machine

open Sys2Proof

section ZoneWords

/-! ### A number as bytes -/

theorem length_bytesOf (n v : Nat) : (bytesOf n v).length = n := by
  induction n generalizing v with
  | zero => rfl
  | succ n ih => rw [bytesOf, List.length_cons, ih]

theorem ofBytes_map_mod (l : List Nat) : ofBytes (l.map (· % 256)) = ofBytes l := by
  induction l with
  | nil => rfl
  | cons b l ih => rw [List.map_cons, ofBytes, ofBytes, ih, Nat.mod_mod]

theorem ofBytes_bytesOf (n v : Nat) : ofBytes (bytesOf n v) = v % 256 ^ n := by
  induction n generalizing v with
  | zero => rw [bytesOf, ofBytes, Nat.pow_zero, Nat.mod_one]
  | succ n ih => rw [bytesOf, ofBytes, ih, Nat.mod_mod, Nat.pow_succ', Nat.mod_mul]

/-- A number that has been put reads back as far as its bytes hold it. -/
theorem memNat_memPut (a n v : Nat) (s : State) : memNat a n (memPut a n v s) = v % 256 ^ n := by
  have read := memRead_memWrite a (bytesOf n v) s
  rw [length_bytesOf] at read
  rw [memNat, memPut, read, ofBytes_map_mod, ofBytes_bytesOf]

theorem memByte_memPut_out {a n b : Nat} (v : Nat) (s : State) (h : ¬ (a ≤ b ∧ b < a + n)) : memByte b (memPut a n v s) = memByte b s :=
  memByte_memWrite_out s (by rwa [length_bytesOf])

/-! ### A descriptor as a number (R205) -/

/-- A descriptor as its 32 bytes hold it. -/
def Zone.stored (d : Zone) : Zone :=
  { d with state := d.state % 16, type := d.type % 16, phys := d.phys % 2 ^ 20, host := d.host % 2 ^ 32, media := d.media % 2 ^ 32
           group := d.group % 32, stamp := d.stamp % 2 ^ 48, ns := d.ns % 64, acc := d.acc % 2 ^ 64 }

theorem b2n_lt (b : Bool) : b2n b < 2 := by cases b <;> decide

theorem testBit_of_b2n {w i : Nat} {b : Bool} (h : w / 2 ^ i % 2 = b2n b) : w.testBit i = b := by
  rw [Nat.testBit_eq_decide_div_mod_eq, h]
  cases b <;> rfl

theorem zoneWord_lt (d : Zone) : zoneWord d < 2 ^ 256 := by
  have h0 := b2n_lt d.sealed
  have h1 := b2n_lt d.copied
  have h2 := b2n_lt d.pend
  have h3 := b2n_lt d.recov
  have h4 := b2n_lt d.reloc
  unfold zoneWord bits
  omega

theorem zoneFrom_zoneWord (d : Zone) : zoneFrom (zoneWord d) = d.stored := by
  have h0 := b2n_lt d.sealed
  have h1 := b2n_lt d.copied
  have h2 := b2n_lt d.pend
  have h3 := b2n_lt d.recov
  have h4 := b2n_lt d.reloc
  have low : bits (zoneWord d) 13 19 = d.phys % 2 ^ 19 := by
    unfold zoneWord bits
    omega
  have high : bits (zoneWord d) 184 1 = d.phys / 2 ^ 19 % 2 := by
    unfold zoneWord bits
    omega
  unfold zoneFrom Zone.stored
  rw [low, high, Zone.mk.injEq]
  refine ⟨?_, ?_, testBit_of_b2n ?_, testBit_of_b2n ?_, testBit_of_b2n ?_, testBit_of_b2n ?_, testBit_of_b2n ?_, by omega, ?_, ?_, ?_, ?_, ?_, ?_⟩
  all_goals
    unfold zoneWord bits
    omega

theorem zoneFrom_stored (w : Nat) : (zoneFrom w).stored = zoneFrom w := by
  unfold zoneFrom Zone.stored bits
  dsimp only
  rw [Zone.mk.injEq]
  refine ⟨?_, ?_, rfl, rfl, rfl, rfl, rfl, ?_, ?_, ?_, ?_, ?_, ?_, ?_⟩ <;> omega

/-- A descriptor that memory holds is as 32 bytes hold it. -/
theorem zoneOf_stored (z : Nat) (s : State) : (zoneOf z s).stored = zoneOf z s := zoneFrom_stored _

end ZoneWords

section Zones

variable {s t u : State}

/-! ### A descriptor that is written (R205, R233) -/

/-- The fields that count the open and the active zones. -/
def openFields : List Fld := [Reg.ZMG_OPEN_CNT.OPEN, Reg.ZMG_OPEN_CNT.ACTIVE]

/-- Nothing has changed but registers, memory and the zone manager's journal. -/
def OnlyZoned (s t : State) : Prop :=
  t = { s with regs := t.regs, mem := t.mem,
               zmg := { s.zmg with saved := t.zmg.saved, tail := t.zmg.tail, journaled := t.zmg.journaled } }

theorem OnlyZoned.trans (h : OnlyZoned s t) (k : OnlyZoned t u) : OnlyZoned s u :=
  Eq.trans k (congrArg (fun x : State => { x with regs := u.regs, mem := u.mem, zmg := { x.zmg with saved := u.zmg.saved, tail := u.zmg.tail, journaled := u.zmg.journaled } }) h)

theorem OnlyRegisters.onlyZoned (h : OnlyRegisters s t) : OnlyZoned s t := by
  unfold OnlyZoned
  rw [h]

theorem journal_onlyZoned (c : Change) (s : State) : OnlyZoned s (journal c s) := rfl
theorem journal_regs (c : Change) (s : State) : (journal c s).regs = s.regs := rfl
theorem journal_mem (c : Change) (s : State) : (journal c s).mem = s.mem := rfl
theorem memPut_regs (a n v : Nat) (s : State) : (memPut a n v s).regs = s.regs := rfl
theorem memPut_onlyZoned (a n v : Nat) (s : State) : OnlyZoned s (memPut a n v s) := rfl

/-- A descriptor is put into memory, the counts of zones follow, and the change is journaled. -/
theorem setZone_eq (z : Nat) (d : Zone) (s : State) : ∃ o a, setZone z d s = journal (.zone z (zoneWord d))
    (puts [(Reg.ZMG_OPEN_CNT.OPEN, o), (Reg.ZMG_OPEN_CNT.ACTIVE, a)] (memPut (zoneAddr z s) 32 (zoneWord d) s)) := ⟨_, _, rfl⟩

theorem setZone_onlyZoned (z : Nat) (d : Zone) (s : State) : OnlyZoned s (setZone z d s) := by
  obtain ⟨o, a, eq⟩ := setZone_eq z d s
  rw [eq]
  exact ((memPut_onlyZoned ..).trans (puts_onlyRegisters ..).onlyZoned).trans (journal_onlyZoned ..)

theorem setZone_onlyRegs (z : Nat) (d : Zone) (s : State) : OnlyRegs openFields s (setZone z d s) := by
  obtain ⟨o, a, eq⟩ := setZone_eq z d s
  have counted : OnlyRegs openFields (memPut (zoneAddr z s) 32 (zoneWord d) s)
      (puts [(Reg.ZMG_OPEN_CNT.OPEN, o), (Reg.ZMG_OPEN_CNT.ACTIVE, a)] (memPut (zoneAddr z s) 32 (zoneWord d) s)) := puts_onlyRegs _
  rw [eq]
  exact OnlyRegs.trans (.of_regs _ (memPut_regs ..)) (OnlyRegs.trans counted (.of_regs _ (journal_regs ..)))

theorem memByte_setZone (z : Nat) (d : Zone) (s : State) (a : Nat) :
    memByte a (setZone z d s) = memByte a (memPut (zoneAddr z s) 32 (zoneWord d) s) := by
  obtain ⟨o, k, eq⟩ := setZone_eq z d s
  rw [eq, memByte, journal_mem, puts_onlyRegisters, memByte]

theorem setZone_memOutside (z : Nat) (d : Zone) (s : State) : MemOutside (zoneAddr z s) 32 s (setZone z d s) := fun a ha => by
  rw [memByte_setZone, memByte_memPut_out _ _ ha]

theorem zoneAddr_congr (z : Nat) (hi : get Reg.ZMG_ZTBL_HI.ADDR t = get Reg.ZMG_ZTBL_HI.ADDR s) (lo : get Reg.ZMG_ZTBL_LO.ADDR t = get Reg.ZMG_ZTBL_LO.ADDR s) :
    zoneAddr z t = zoneAddr z s := by
  rw [zoneAddr, hi, lo, zoneAddr]

theorem memNat_congr {a n : Nat} (h : ∀ b, a ≤ b → b < a + n → memByte b t = memByte b s) : memNat a n t = memNat a n s := by
  unfold memNat memRead
  congr 1
  refine List.map_congr_left fun i hi => ?_
  rw [h (a + i) (by omega) (by have := List.mem_range.1 hi; omega)]

/-- A zone's descriptor stands where the table's address and the bytes at it do. -/
theorem zoneOf_congr (z : Nat) (hi : get Reg.ZMG_ZTBL_HI.ADDR t = get Reg.ZMG_ZTBL_HI.ADDR s) (lo : get Reg.ZMG_ZTBL_LO.ADDR t = get Reg.ZMG_ZTBL_LO.ADDR s)
    (mem : ∀ b, zoneAddr z s ≤ b → b < zoneAddr z s + 32 → memByte b t = memByte b s) : zoneOf z t = zoneOf z s := by
  rw [zoneOf, zoneAddr_congr z hi lo, memNat_congr mem, zoneOf]

theorem zoneOf_setZone (z : Nat) (d : Zone) (s : State) : zoneOf z (setZone z d s) = d.stored := by
  have regs := setZone_onlyRegs z d s
  rw [zoneOf, zoneAddr_congr z (regs _ (by decide)) (regs _ (by decide)),
    memNat_congr (t := setZone z d s) (s := memPut (zoneAddr z s) 32 (zoneWord d) s) (fun b _ _ => memByte_setZone z d s b), memNat_memPut,
    Nat.mod_eq_of_lt (by exact zoneWord_lt d), zoneFrom_zoneWord]

end Zones



end Sys2Proof.Machine

namespace Sys2Proof.Machine

open Sys2Proof

section Pending

variable {s t u : State}

theorem OnlyBlocks.mono {b k : List Nat} (h : OnlyBlocks b s t) (hk : b ⊆ k) : OnlyBlocks k s t := fun f hf => h f fun hm => hf (hk hm)

theorem OnlyBlocks.of_regs (b : List Nat) (h : t.regs = s.regs) : OnlyBlocks b s t := fun f _ => get_regs f h

theorem put_onlyRegs_self (f : Fld) (v : Nat) (s : State) : OnlyRegs [f] s (put f v s) := put_onlyRegs (List.mem_singleton_self f) v s

theorem setZone_onlyBlocks (z : Nat) (d : Zone) (s : State) : OnlyBlocks [9] s (setZone z d s) :=
  (setZone_onlyRegs z d s).onlyBlocks (by decide)

/-! ### The pending-unrecoverable list (R229) -/

/-- Nothing has changed but registers, memory, the zone manager's journal and the pending-unrecoverable list. -/
def OnlyPended (s t : State) : Prop :=
  t = { s with regs := t.regs, mem := t.mem,
               zmg := { s.zmg with saved := t.zmg.saved, tail := t.zmg.tail, journaled := t.zmg.journaled, pend := t.zmg.pend } }

theorem OnlyPended.refl (s : State) : OnlyPended s s := rfl

theorem OnlyPended.trans (h : OnlyPended s t) (k : OnlyPended t u) : OnlyPended s u :=
  Eq.trans k (congrArg (fun x : State => { x with regs := u.regs, mem := u.mem, zmg := { x.zmg with
    saved := u.zmg.saved, tail := u.zmg.tail, journaled := u.zmg.journaled, pend := u.zmg.pend } }) h)

theorem OnlyZoned.onlyPended (h : OnlyZoned s t) : OnlyPended s t := by
  unfold OnlyPended
  rw [h]

theorem OnlyRegisters.onlyPended (h : OnlyRegisters s t) : OnlyPended s t := h.onlyZoned.onlyPended

theorem OnlyPended.cmd (h : OnlyPended s t) : t.cmd = s.cmd := by rw [h]

theorem OnlyZoned.pend (h : OnlyZoned s t) : t.zmg.pend = s.zmg.pend := by rw [h]

theorem setPend_eq (l : List (Nat × Nat × Nat)) (s : State) :
    setPend l s = put Reg.ZMG_PEND.COUNT l.length (journal (.pend l) { s with zmg := { s.zmg with pend := l } }) := rfl

theorem setPend_onlyPended (l : List (Nat × Nat × Nat)) (s : State) : OnlyPended s (setPend l s) :=
  OnlyPended.trans (t := { s with zmg := { s.zmg with pend := l } }) rfl
    ((journal_onlyZoned (.pend l) _).onlyPended.trans (put_onlyRegisters ..).onlyPended)

theorem setPend_onlyRegs (l : List (Nat × Nat × Nat)) (s : State) : OnlyRegs [Reg.ZMG_PEND.COUNT] s (setPend l s) :=
  OnlyRegs.trans (.of_regs _ (journal_regs (.pend l) { s with zmg := { s.zmg with pend := l } })) (put_onlyRegs_self _ _ _)

theorem setPend_pend (l : List (Nat × Nat × Nat)) (s : State) : (setPend l s).zmg.pend = l := by
  rw [setPend_eq, put_onlyRegisters, (journal_onlyZoned _ _).pend]

theorem setPend_onlyBlocks (l : List (Nat × Nat × Nat)) (s : State) : OnlyBlocks [9] s (setPend l s) := (setPend_onlyRegs l s).onlyBlocks (by decide)

theorem markPend_onlyZoned (z : Nat) (s : State) : OnlyZoned s (markPend z s) := by
  unfold markPend
  dsimp only
  split
  · rfl
  · exact setZone_onlyZoned ..

theorem markPend_onlyBlocks (z : Nat) (s : State) : OnlyBlocks [9] s (markPend z s) := by
  unfold markPend
  dsimp only
  split
  · exact .of_regs _ rfl
  · exact setZone_onlyBlocks _ _ _

theorem markPends_onlyZoned (l : List Nat) (s : State) : OnlyZoned s (l.foldl (fun u k => markPend k u) s) := by
  induction l generalizing s with
  | nil => rfl
  | cons k l ih => exact (markPend_onlyZoned k s).trans (ih _)

theorem markPends_onlyBlocks (l : List Nat) (s : State) : OnlyBlocks [9] s (l.foldl (fun u k => markPend k u) s) := by
  induction l generalizing s with
  | nil => exact .of_regs _ rfl
  | cons k l ih => exact (markPend_onlyBlocks k s).trans (ih _)

theorem clearPend_onlyPended (ns a n : Nat) (s : State) : OnlyPended s (clearPend ns a n s) := by
  unfold clearPend
  dsimp only
  split
  · exact (setPend_onlyPended ..).trans (markPends_onlyZoned ..).onlyPended
  · exact .refl s

theorem clearPend_onlyBlocks (ns a n : Nat) (s : State) : OnlyBlocks [9] s (clearPend ns a n s) := by
  unfold clearPend
  dsimp only
  split
  · exact OnlyBlocks.trans (setPend_onlyBlocks _ s) (markPends_onlyBlocks _ _)
  · exact .of_regs _ rfl

end Pending

section Cache

variable {s t u : State} {c : Ctx} {n : Nat}

/-! ### A block that the cache takes (R364) -/

/-- Some blocks' registers alone have changed, and the store's contexts and lines have not. -/
structure KeepsStore (b : List Nat) (s t : State) : Prop where
  regs : OnlyBlocks b s t
  ctxs : t.cmd.ctxs = s.cmd.ctxs
  lines : t.cmd.lines = s.cmd.lines

theorem KeepsStore.of_cmd {b k : List Nat} (h : OnlyBlocks b s t) (hc : t.cmd = s.cmd) (hk : b ⊆ k := by decide) : KeepsStore k s t :=
  ⟨h.mono hk, by rw [hc], by rw [hc]⟩

theorem KeepsStore.trans {b : List Nat} (h : KeepsStore b s t) (k : KeepsStore b t u) : KeepsStore b s u :=
  ⟨h.regs.trans k.regs, k.ctxs.trans h.ctxs, k.lines.trans h.lines⟩

theorem KeepsStore.lineOf {b : List Nat} (h : KeepsStore b s t) (ns blk : Nat) : lineOf ns blk t = lineOf ns blk s := by
  rw [Machine.lineOf, h.lines, Machine.lineOf]

/-- The blocks whose registers an accepted write changes: ZMG, SEAL, CMD and PMU. -/
def acceptBlocks : List Nat := [9, 15, 19, 1]

theorem xlogAppend_keepsStore (ns e : Nat) (s : State) : KeepsStore acceptBlocks s (xlogAppend ns e s) := by
  have head (v : Nat) (u : State) (hu : u.regs = s.regs) : OnlyBlocks [1] s (put Reg.PMU_XLOG.HEAD v u) :=
    (OnlyBlocks.of_regs _ hu).trans (OnlyRegs.onlyBlocks (put_onlyRegs_self _ v u) (by decide))
  unfold xlogAppend
  dsimp only
  split
  · exact .of_cmd ((head _ _ rfl).trans (OnlyRegs.onlyBlocks (put_onlyRegs_self _ _ _) (by decide))) rfl
  · exact .of_cmd (head _ _ rfl) rfl

theorem setCtxOf_regs (z : Nat) (c : SealCtx) (s : State) : (setCtxOf z c s).regs = s.regs := rfl
theorem setCtxOf_cmd (z : Nat) (c : SealCtx) (s : State) : (setCtxOf z c s).cmd = s.cmd := rfl
theorem memPut_cmd (a n v : Nat) (s : State) : (memPut a n v s).cmd = s.cmd := rfl

theorem takeLeaf_regs (ns blk v : Nat) (s : State) : (takeLeaf ns blk v s).regs = s.regs := by
  unfold takeLeaf
  dsimp only
  split
  · rfl
  · split
    · rw [showLeaf, memPut_regs, setCtxOf_regs]
    · rfl

theorem takeLeaf_cmd (ns blk v : Nat) (s : State) : (takeLeaf ns blk v s).cmd = s.cmd := by
  unfold takeLeaf
  dsimp only
  split
  · rfl
  · split
    · rw [showLeaf, memPut_cmd, setCtxOf_cmd]
    · rfl

theorem takeLeaf_keepsStore (ns blk v : Nat) (s : State) : KeepsStore acceptBlocks s (takeLeaf ns blk v s) :=
  .of_cmd (.of_regs [] (takeLeaf_regs ..)) (takeLeaf_cmd ..)

theorem clearPend_keepsStore (ns a k : Nat) (s : State) : KeepsStore acceptBlocks s (clearPend ns a k s) :=
  .of_cmd (clearPend_onlyBlocks ns a k s) (clearPend_onlyPended ..).cmd

theorem setLost_onlyBlocks (l : List Lost) (s : State) : OnlyBlocks [19] s (setLost l s) := (setLost_onlyRegs l s).onlyBlocks (by decide)

theorem clearLost_keepsStore (ns a k : Nat) (s : State) : KeepsStore acceptBlocks s (clearLost ns a k s) where
  regs := OnlyBlocks.mono (setLost_onlyBlocks _ s) (by decide)
  ctxs := by rw [clearLost, setLost_cmd]
  lines := by rw [clearLost, setLost_cmd]

theorem noteEligible_regs (z : Nat) (s : State) : (noteEligible z s).regs = s.regs := by
  unfold noteEligible
  split <;> rfl

theorem noteEligible_cmd (z : Nat) (s : State) : (noteEligible z s).cmd = s.cmd := by
  unfold noteEligible
  split <;> rfl

theorem OnlyZoned.cmd (h : OnlyZoned s t) : t.cmd = s.cmd := by rw [h]

theorem advanceHost_keepsStore (ns blk : Nat) (s : State) : KeepsStore acceptBlocks s (advanceHost ns blk s) := by
  unfold advanceHost
  dsimp only
  split
  · generalize hv : setZone _ _ s = v
    have regs : OnlyBlocks [9] s v := hv ▸ setZone_onlyBlocks _ _ s
    have cmd : v.cmd = s.cmd := hv ▸ (setZone_onlyZoned ..).cmd
    exact .of_cmd (regs.trans (.of_regs _ (noteEligible_regs ..))) ((noteEligible_cmd ..).trans cmd)
  · exact .of_cmd (.of_regs [] rfl) rfl

/-! ### The line of a block -/

theorem putLineOf_onlyBlocks (l : CacheLine) (s : State) : OnlyBlocks [19] s (putLineOf l s) :=
  OnlyBlocks.trans (.of_regs _ rfl) (OnlyRegs.onlyBlocks (put_onlyRegs_self _ _ _) (by decide))

theorem putLineOf_cmd (l : CacheLine) (s : State) : (putLineOf l s).cmd =
    { s.cmd with lines := s.cmd.lines.filter (fun x => !(x.ns == l.ns && x.blk == l.blk)) ++ [l] } := by
  unfold putLineOf countDirty
  rw [put_onlyRegisters]
  rfl

theorem lineOf_putLineOf (l : CacheLine) (s : State) : lineOf l.ns l.blk (putLineOf l s) = some l := by
  have others : (s.cmd.lines.filter (fun x => !(x.ns == l.ns && x.blk == l.blk))).find? (fun x => x.ns == l.ns && x.blk == l.blk) = none :=
    List.find?_eq_none.2 fun x hx => by simpa only [Bool.not_eq_true', ← Bool.not_eq_true] using (List.mem_filter.1 hx).2
  rw [lineOf, putLineOf_cmd, List.find?_append, others]
  simp

/-- A merged line is the block's own. -/
theorem mergeLine_block (ns blk m v k : Nat) (s : State) : (mergeLine ns blk m v k s).ns = ns ∧ (mergeLine ns blk m v k s).blk = blk := by
  unfold mergeLine
  split
  · exact ⟨rfl, rfl⟩
  next l hl =>
    have found := List.find?_some hl
    rwa [Bool.and_eq_true, beq_iff_eq, beq_iff_eq] at found

theorem mergeLine_stamps {ns blk : Nat} (h : lineOf ns blk s = none) (m v k : Nat) : (mergeLine ns blk m v k s).stamps = [k + 1] := by
  rw [mergeLine, h]

theorem find?_replaced {d : Ctx} {l : List Ctx} (h : l.find? (fun e => e.stamp == d.stamp) = some c) :
    (l.map (fun e => if e.stamp == d.stamp then d else e)).find? (fun e => e.stamp == d.stamp) = some d := by
  induction l with
  | nil => cases h
  | cons e l ih =>
    by_cases he : (e.stamp == d.stamp) = true
    · rw [List.map_cons, if_pos he]
      exact List.find?_cons_of_pos (beq_self_eq_true _)
    · rw [List.find?_cons_of_neg (p := fun e : Ctx => e.stamp == d.stamp) he] at h
      rw [List.map_cons, if_neg he, List.find?_cons_of_neg (p := fun e : Ctx => e.stamp == d.stamp) he, ih h]

theorem ctxOf_setCtx {d : Ctx} (h : ctxOf n s = some c) (hd : d.stamp = n) : ctxOf n (setCtx d s) = some d := by
  subst hd
  exact find?_replaced h

theorem setCtx_regs (d : Ctx) (s : State) : (setCtx d s).regs = s.regs := rfl
theorem lineOf_setCtx (ns b : Nat) (d : Ctx) (s : State) : lineOf ns b (setCtx d s) = lineOf ns b s := rfl
theorem OnlyRegisters.lineOf (h : OnlyRegisters s t) (ns b : Nat) : lineOf ns b t = lineOf ns b s := by rw [Machine.lineOf, h, Machine.lineOf]
theorem OnlyRegisters.ctxOf (h : OnlyRegisters s t) (n : Nat) : ctxOf n t = ctxOf n s := by rw [Machine.ctxOf, h, Machine.ctxOf]

/-- The state in which a block has been taken, but for its context and for WAIT. -/
def blockTaken (c : Ctx) (b v : Nat) (s : State) : State :=
  let p := blockPart c.cmd.ns b (writeSpan c).1 (writeSpan c).2 s
  let l := mergeLine c.cmd.ns b (subMask c.cmd.ns b p.1 p.2 s) v c.stamp s
  let t := if cleanExtent c.cmd.ns b s then xlogAppend c.cmd.ns (b / 16) s else s
  advanceHost c.cmd.ns b (clearLost c.cmd.ns p.1 (p.2 - p.1) (clearPend c.cmd.ns p.1 (p.2 - p.1) (putLineOf l (takeLeaf c.cmd.ns b v t))))

/-- What is taken is a line of the block, and the store keeps its contexts. -/
structure TakesLine (ns b : Nat) (l : CacheLine) (s t : State) : Prop where
  regs : OnlyBlocks acceptBlocks s t
  ctxs : t.cmd.ctxs = s.cmd.ctxs
  line : lineOf ns b t = some l

theorem blockTaken_takesLine (c : Ctx) (b v : Nat) (s : State) :
    ∃ m, TakesLine c.cmd.ns b (mergeLine c.cmd.ns b m v c.stamp s) s (blockTaken c b v s) := by
  unfold blockTaken
  dsimp only
  generalize blockPart c.cmd.ns b (writeSpan c).1 (writeSpan c).2 s = p
  refine ⟨subMask c.cmd.ns b p.1 p.2 s, ?_⟩
  obtain ⟨ns, blk⟩ := mergeLine_block c.cmd.ns b (subMask c.cmd.ns b p.1 p.2 s) v c.stamp s
  generalize mergeLine c.cmd.ns b (subMask c.cmd.ns b p.1 p.2 s) v c.stamp s = l at ns blk ⊢
  generalize ht : (if cleanExtent c.cmd.ns b s then xlogAppend c.cmd.ns (b / 16) s else s) = t
  have logged : KeepsStore acceptBlocks s t := by
    rw [← ht]
    split
    · exact xlogAppend_keepsStore ..
    · exact .of_cmd (.of_regs [] rfl) rfl
  have before := logged.trans (takeLeaf_keepsStore c.cmd.ns b v t)
  generalize takeLeaf c.cmd.ns b v t = u at before
  have after := ((clearPend_keepsStore c.cmd.ns p.1 (p.2 - p.1) (putLineOf l u)).trans (clearLost_keepsStore c.cmd.ns p.1 (p.2 - p.1) _)).trans
    (advanceHost_keepsStore c.cmd.ns b _)
  refine ⟨(before.regs.trans (OnlyBlocks.mono (putLineOf_onlyBlocks l u) (by decide))).trans after.regs, ?_, ?_⟩
  · rw [after.ctxs, putLineOf_cmd]
    exact before.ctxs
  · rw [after.lineOf, ← ns, ← blk, lineOf_putLineOf]

theorem Runs.writeAccept_taken {b d v : Nat} (h : Runs n c s) (hn : c.stamp = n) (hd : stagedData c b d s = some v) (hm : mayAccept c b s = true)
    (hr : notReady c.cmd.op s = none) (hf : cacheRoom c.cmd.ns b s = true) : Gives (.writeAccept n b d true) s (fun t =>
      (ctxOf n t).map (fun x => x.got) = some (c.got ++ [b]) ∧ (lineOf c.cmd.ns b t).map (fun l => (l.ns, l.blk)) = some (c.cmd.ns, b) ∧
      (lineOf c.cmd.ns b s = none → (lineOf c.cmd.ns b t).map (fun l => l.stamps) = some [n + 1]) ∧
      get Reg.CMD_WC_STAT.WAIT t = 0 ∧ OnlyBlocks [9, 15, 19, 1] s t) := by
  obtain ⟨m, taken⟩ := blockTaken_takesLine c b v s
  have frame : OnlyRegisters (setCtx (gotBlock c b s) (blockTaken c b v s)) (acceptBlock c b v s) := put_onlyRegisters ..
  have line : lineOf c.cmd.ns b (acceptBlock c b v s) = some (mergeLine c.cmd.ns b m v c.stamp s) := by
    rw [frame.lineOf, lineOf_setCtx, taken.line]
  obtain ⟨ns, blk⟩ := mergeLine_block c.cmd.ns b m v c.stamp s
  have done : exec (.writeAccept n b d true) s = .next (acceptBlock c b v s) := by
    rw [h.exec_writeAccept hd hm, onReady_of_none hr, hf]
    rfl
  refine .of_next done ⟨?_, ?_, fun hl => ?_, ?_, ?_⟩
  · have ctx : ctxOf n (blockTaken c b v s) = some c := by rw [ctxOf, taken.ctxs, ← h.ctx, ctxOf]
    rw [frame.ctxOf, ctxOf_setCtx (d := gotBlock c b s) ctx hn]
    rfl
  · rw [line, Option.map_some, ns, blk]
  · rw [line, Option.map_some, mergeLine_stamps hl, hn]
  · exact get_put_self _ 0 _
  · exact (taken.regs.trans (.of_regs _ (setCtx_regs ..))).trans (OnlyRegs.onlyBlocks (put_onlyRegs_self _ _ _) (by decide))

end Cache

end Sys2Proof.Machine

namespace Sys2Proof.Machine

open Sys2Proof

section Losses

variable {s t u : State}

/-! ### A cached block that is lost (R368, R372) -/

/-- The loss of LBAs, as the list notes it. -/
def lossOf (ns a n k : Nat) (s : State) : Lost := ⟨ns, a, n, k, tmpCount s, false⟩

theorem OnlyRegisters.cmd (h : OnlyRegisters s t) : t.cmd = s.cmd := by rw [h]

/-- A list is set: registers and the command store alone change. -/
theorem setLost_onlyEvents (l : List Lost) (s : State) : OnlyEvents (setCmd { s.cmd with lost := l } s) (setLost l s) :=
  (showLost_onlyRegisters _).onlyEvents

/-- The list after the loss of some LBAs, whether they find room or are merged. -/
structure NotesLoss (e : Lost) (s t : State) : Prop where
  regs : OnlyBlocks [19] s t
  frame : ∃ l, OnlyEvents (setCmd { s.cmd with lost := l } s) t
  lost : s.cmd.lost.length < 4096 → t.cmd.lost = s.cmd.lost ++ [e]
  count : s.cmd.lost.length < 4096 → get Reg.CMD_LWL.COUNT t = s.cmd.lost.length + 1

theorem NotesLoss.onlyEvents {e : Lost} (h : NotesLoss e s t) (ht : u.regs = t.regs) (k : OnlyEvents t u) : NotesLoss e s u where
  regs := h.regs.trans (.of_regs _ ht)
  frame := let ⟨l, hl⟩ := h.frame; ⟨l, hl.trans k⟩
  lost hl := by rw [k.cmd, h.lost hl]
  count hl := by rw [get_regs _ ht, h.count hl]

theorem count_setLost (l : List Lost) (s : State) : get Reg.CMD_LWL.COUNT (setLost l s) = l.length % 2 ^ Reg.CMD_LWL.COUNT.width := by
  refine get_puts_mem (l := _ :: _) ?_ (.head _) _
  exact show (lostFields.map Fld.key).Nodup by decide

theorem setLost_notesLoss (e : Lost) (s : State) : NotesLoss e s (setLost (s.cmd.lost ++ [e]) s) where
  regs := setLost_onlyBlocks _ s
  frame := ⟨_, setLost_onlyEvents ..⟩
  lost _ := by rw [setLost_cmd]
  count hl := by
    rw [count_setLost, List.length_append]
    exact Nat.mod_eq_of_lt (show s.cmd.lost.length + 1 < 8192 by omega)

/-- A change of a full list. -/
theorem NotesLoss.of_full {e : Lost} {l : List Lost} (hl : ¬ s.cmd.lost.length < 4096) (regs : OnlyBlocks [19] s t)
    (frame : OnlyEvents (setCmd { s.cmd with lost := l } s) t) : NotesLoss e s t :=
  ⟨regs, ⟨l, frame⟩, fun h => absurd h hl, fun h => absurd h hl⟩

theorem addLost_notesLoss (ns a n k : Nat) (s : State) : NotesLoss (lossOf ns a n k s) s (addLost ns a n k s) := by
  unfold addLost
  refine NotesLoss.onlyEvents ?_ (raisePost_regs ..) (raisePost_onlyEvents ..)
  split
  · exact setLost_notesLoss (lossOf ns a n k s) s
  next hl =>
    split
    · exact .of_full hl (.of_regs _ rfl) (OnlyEvents.refl (setCmd s.cmd s))
    · exact .of_full hl (OnlyBlocks.trans (setLost_onlyBlocks _ s) (OnlyRegs.onlyBlocks (put_onlyRegs_self _ _ _) (by decide)))
        ((setLost_onlyEvents _ s).trans (put_onlyRegisters ..).onlyEvents)

/-- The state in which a cached block is lost, but for its zone. -/
def blockLost (ns b k : Nat) (s : State) : State :=
  countDirty (dropLine ns b (addLost ns (b * lbasPerBlock ns s) (lbasPerBlock ns s) k s))

theorem lineOf_dropLine (ns b : Nat) (s : State) : lineOf ns b (dropLine ns b s) = none :=
  List.find?_eq_none.2 fun x hx => by simpa only [Bool.not_eq_true', ← Bool.not_eq_true] using (List.mem_filter.1 hx).2

theorem countDirty_onlyRegisters (s : State) : OnlyRegisters s (countDirty s) := put_onlyRegisters ..

theorem countDirty_onlyRegs (s : State) : OnlyRegs [Reg.CMD_WC_STAT.DIRTY] s (countDirty s) := put_onlyRegs_self _ _ s

/-- What a lost block leaves: its line is gone and its LBAs are noted; the command store, registers and events alone have changed. -/
structure LosesBlock (ns b k : Nat) (s t : State) : Prop where
  regs : OnlyBlocks [19] s t
  line : lineOf ns b t = none
  lost : s.cmd.lost.length < 4096 → t.cmd.lost = s.cmd.lost ++ [lossOf ns (b * lbasPerBlock ns s) (lbasPerBlock ns s) k s]
  count : s.cmd.lost.length < 4096 → get Reg.CMD_LWL.COUNT t = s.cmd.lost.length + 1
  frame : ∃ r, OnlyEvents (setCmd r s) t

theorem blockLost_losesBlock (ns b k : Nat) (s : State) : LosesBlock ns b k s (blockLost ns b k s) := by
  unfold blockLost
  have noted := addLost_notesLoss ns (b * lbasPerBlock ns s) (lbasPerBlock ns s) k s
  generalize addLost ns (b * lbasPerBlock ns s) (lbasPerBlock ns s) k s = t at noted
  have shown := countDirty_onlyRegisters (dropLine ns b t)
  have dirty : OnlyRegs [Reg.CMD_WC_STAT.DIRTY] t (countDirty (dropLine ns b t)) := OnlyRegs.trans (.of_regs _ rfl) (countDirty_onlyRegs _)
  refine ⟨noted.regs.trans (dirty.onlyBlocks (by decide)), ?_, fun hl => ?_, fun hl => ?_, ?_⟩
  · rw [shown.lineOf, lineOf_dropLine]
  · rw [shown.cmd]
    exact noted.lost hl
  · rw [dirty _ (by decide), noted.count hl]
  · obtain ⟨l, frame⟩ := noted.frame
    exact ⟨_, (frame.setCmd _).trans shown.onlyEvents⟩

theorem exec_lostWriteEntry {ns b k : Nat} (h1 : 1 ≤ k) (h3 : k ≤ 3) (hl : (lineOf ns b s).isSome = true) : exec (.lostWriteEntry ns b k) s = .next
    (if nsType ns s = 4 ∧ (!(zoneOf (zoneOfBlock ns b s) s).sealed) = true then zoneDamaged (zoneOfBlock ns b s) (blockLost ns b k s)
     else blockLost ns b k s) :=
  occurs_of ⟨h1, h3, hl⟩

theorem lostWriteEntry_clause {n b k : Nat} (h1 : 1 ≤ k) (h3 : k ≤ 3) (hl : (lineOf n b s).isSome = true) (ht : nsType n s ≠ 4) :
    Gives (.lostWriteEntry n b k) s (fun t => lineOf n b t = none ∧
      (s.cmd.lost.length < 4096 → t.cmd.lost = s.cmd.lost ++ [⟨n, b * lbasPerBlock n s, lbasPerBlock n s, k, tmpCount s, false⟩] ∧
        get Reg.CMD_LWL.COUNT t = s.cmd.lost.length + 1) ∧
      OnlyBlocks [19] s t ∧
      t = { s with regs := t.regs, cmd := t.cmd, sys := t.sys, evr := t.evr, sent := t.sent, host := { s.host with msixPend := t.host.msixPend } } ∧
      SameMem s t) := by
  obtain ⟨regs, line, lost, count, r, frame⟩ := blockLost_losesBlock n b k s
  refine .of_next (exec_lostWriteEntry h1 h3 hl) ?_
  rw [if_neg (fun h => ht h.1)]
  exact ⟨line, fun hs => ⟨lost hs, count hs⟩, regs, frame.of_setCmd, frame.sameMem⟩

/-! ### A zone that can never be sealed (R319) -/

theorem setSeals_regs (r : SealSt) (s : State) : (setSeals r s).regs = s.regs := rfl
theorem setSeals_cmd (r : SealSt) (s : State) : (setSeals r s).cmd = s.cmd := rfl
theorem setSeals_mem (r : SealSt) (s : State) : (setSeals r s).mem = s.mem := rfl
theorem setSeals_seals (r : SealSt) (s : State) : (setSeals r s).seals = r := rfl
theorem OnlyRegisters.seals (h : OnlyRegisters s t) : t.seals = s.seals := by rw [h]
theorem OnlyRegisters.mem (h : OnlyRegisters s t) : t.mem = s.mem := by rw [h]
theorem OnlyEvents.seals (h : OnlyEvents s t) : t.seals = s.seals := by rw [h]
theorem OnlyEvents.mem (h : OnlyEvents s t) : t.mem = s.mem := by rw [h]

theorem freeSealCtx_eq (z : Nat) (s : State) :
    freeSealCtx z s = put Reg.SEAL_STAT.CTX_USED (AMap.erase z s.seals.ctxs).length (setSeals { s.seals with ctxs := AMap.erase z s.seals.ctxs } s) := rfl

theorem freeSealCtx_onlyRegisters (z : Nat) (s : State) :
    OnlyRegisters (setSeals { s.seals with ctxs := AMap.erase z s.seals.ctxs } s) (freeSealCtx z s) := by
  rw [freeSealCtx_eq]
  exact put_onlyRegisters ..

theorem freeSealCtx_onlyBlocks (z : Nat) (s : State) : OnlyBlocks [15] s (freeSealCtx z s) := by
  rw [freeSealCtx_eq]
  exact OnlyBlocks.trans (.of_regs _ (setSeals_regs ..)) (OnlyRegs.onlyBlocks (put_onlyRegs_self _ _ _) (by decide))

theorem freeSealCtx_cmd (z : Nat) (s : State) : (freeSealCtx z s).cmd = s.cmd := by
  rw [(freeSealCtx_onlyRegisters z s).cmd, setSeals_cmd]

theorem freeSealCtx_mem (z : Nat) (s : State) : (freeSealCtx z s).mem = s.mem := by
  rw [(freeSealCtx_onlyRegisters z s).mem, setSeals_mem]

theorem freeSealCtx_ctxs (z : Nat) (s : State) : (freeSealCtx z s).seals.ctxs = AMap.erase z s.seals.ctxs := by
  rw [(freeSealCtx_onlyRegisters z s).seals, setSeals_seals]

/-- What a damaged zone leaves. -/
structure Damages (z : Nat) (s t : State) : Prop where
  regs : OnlyBlocks [9, 15] s t
  cmd : t.cmd = s.cmd
  state : (zoneOf z t).state = 13
  ctx : AMap.lookup z t.seals.ctxs = none
  mem : MemOutside (zoneAddr z s) 32 s t

theorem zoneDamaged_damages (z : Nat) (s : State) : Damages z s (zoneDamaged z s) := by
  obtain ⟨p, q, eq⟩ : ∃ p q, zoneDamaged z s = raisePost 481 0 p
      (setSeals { (freeSealCtx z (setZone z { zoneOf z s with state := 13 } s)).seals with queue := q }
        (freeSealCtx z (setZone z { zoneOf z s with state := 13 } s))) := ⟨_, _, rfl⟩
  rw [eq]
  have zone := zoneOf_setZone z { zoneOf z s with state := 13 } s
  have zoned := setZone_onlyZoned z { zoneOf z s with state := 13 } s
  have outside := setZone_memOutside z { zoneOf z s with state := 13 } s
  have blocks := setZone_onlyBlocks z { zoneOf z s with state := 13 } s
  generalize setZone z { zoneOf z s with state := 13 } s = v at zone zoned outside blocks
  have events := raisePost_onlyEvents 481 0 p (setSeals { (freeSealCtx z v).seals with queue := q } (freeSealCtx z v))
  have regs := raisePost_regs 481 0 p (setSeals { (freeSealCtx z v).seals with queue := q } (freeSealCtx z v))
  generalize raisePost 481 0 p (setSeals { (freeSealCtx z v).seals with queue := q } (freeSealCtx z v)) = t at events regs
  have fields : OnlyBlocks [15] v t := OnlyBlocks.trans (freeSealCtx_onlyBlocks z v) (.of_regs _ regs)
  have mem : t.mem = v.mem := by rw [events.mem, setSeals_mem, freeSealCtx_mem]
  refine ⟨(OnlyBlocks.mono blocks (by decide)).trans (OnlyBlocks.mono fields (by decide)), ?_, ?_, ?_, fun a ha => ?_⟩
  · rw [events.cmd, setSeals_cmd, freeSealCtx_cmd, zoned.cmd]
  · rw [zoneOf_congr z (fields _ (by decide)) (fields _ (by decide)) (fun a _ _ => by rw [memByte, mem, memByte]), zone]
    rfl
  · rw [events.seals, setSeals_seals]
    dsimp only
    rw [freeSealCtx_ctxs, AMap.lookup_erase_self]
  · rw [memByte, mem, ← memByte, outside a ha]

theorem lostWriteEntry_sealed_clause {n b k : Nat} (h1 : 1 ≤ k) (h3 : k ≤ 3) (hl : (lineOf n b s).isSome = true) (ht : nsType n s = 4) :
    Gives (.lostWriteEntry n b k) s (fun t => lineOf n b t = none ∧
      (s.cmd.lost.length < 4096 → t.cmd.lost = s.cmd.lost ++ [⟨n, b * lbasPerBlock n s, lbasPerBlock n s, k, tmpCount s, false⟩]) ∧
      ((zoneOf (zoneOfBlock n b s) s).sealed = true → t.mem = s.mem) ∧
      ((zoneOf (zoneOfBlock n b s) s).sealed = false → AMap.rising s.seals.ctxs = true →
        (zoneOf (zoneOfBlock n b s) t).state = 13 ∧ AMap.lookup (zoneOfBlock n b s) t.seals.ctxs = none) ∧
      MemOutside (zoneAddr (zoneOfBlock n b s) s) 32 s t ∧ OnlyBlocks [9, 15, 19] s t) := by
  obtain ⟨regs, line, lost, -, r, frame⟩ := blockLost_losesBlock n b k s
  refine .of_next (exec_lostWriteEntry h1 h3 hl) ?_
  cases hs : (zoneOf (zoneOfBlock n b s) s).sealed with
  | true =>
    rw [if_neg (by simp)]
    exact ⟨line, lost, fun _ => frame.mem, fun h => Bool.noConfusion h, fun a _ => frame.sameMem a, OnlyBlocks.mono regs (by decide)⟩
  | false =>
    rw [if_pos ⟨ht, rfl⟩]
    have addr := zoneAddr_congr (zoneOfBlock n b s) (regs Reg.ZMG_ZTBL_HI.ADDR (by decide)) (regs Reg.ZMG_ZTBL_LO.ADDR (by decide))
    have damaged := zoneDamaged_damages (zoneOfBlock n b s) (blockLost n b k s)
    refine ⟨?_, fun h => ?_, fun h => Bool.noConfusion h, fun _ _ => ⟨damaged.state, damaged.ctx⟩, fun a ha => ?_, ?_⟩
    · rw [lineOf, damaged.cmd, ← lineOf, line]
    · rw [damaged.cmd, lost h]
      rfl
    · rw [damaged.mem a (addr ▸ ha), frame.sameMem a]
      rfl
    · exact (OnlyBlocks.mono regs (by decide)).trans (OnlyBlocks.mono damaged.regs (by decide))

end Losses

end Sys2Proof.Machine

namespace Sys2Proof.Machine

open Sys2Proof

/-- Settles O49: each command's outcome is read off its meaning, and one lemma says what a completion leaves. -/
theorem writesReadsFlushesAndSelfTests : Obligations.WritesReadsFlushesAndSelfTests := by
  unfold Obligations.WritesReadsFlushesAndSelfTests
  refine ⟨?_, ?_, ?_, ?_, ?_, ?_, ?_, ?_, ?_, ?_, ?_, ?_, ?_, ?_, ?_, ?_, ?_, ?_, ?_, ?_, ?_, ?_, ?_⟩
  · rintro n c b d v g s hc hs hw hn hd hm hr rfl hf
    exact (Runs.mk hc hs hw).writeAccept_taken hn hd hm hr hf
  · rintro n c b d v g s hc hs hw hd hm hr rfl hf
    exact (Runs.mk hc hs hw).writeAccept_full hd hm hr hf
  · rintro n c b d v g s hc hs hw hn hd hm hr rfl
    exact ((Runs.mk hc hs hw).writeAccept_guard hd hm hr).imp fun t h => h.clause hn
  · intro n c b d g x s hc hs hw hn hp hm hr
    refine ((Runs.mk hc hs hw).writeAccept_notReady hp hm hr).imp fun t h => ?_
    exact ⟨h.sent hp, (h.clause hn).2⟩
  · intro n c s hc hs hw hn ho ha hm
    exact ((Runs.mk hc hs hw).writeComplete_success ho ha hm).imp fun t h => h.clause hn
  · intro n c a s hc hs hw hn ho ha hd hl
    exact ((Runs.mk hc hs hw).writeComplete_fault ho ha hd hl).imp fun t h => h.clause hn
  · intro n c s hc hs hw ho ha
    exact (Runs.mk hc hs hw).writeComplete_early ho ha
  · intro n c s hc hs hw ho ha hd hl hr
    exact (Runs.mk hc hs hw).writeComplete_cached ho ha hd hl hr
  · rintro n c m g a k l s hc hs hw ho hn hp hr hl ht hz hh rfl hd hm
    obtain ⟨j, hj⟩ := (Runs.mk hc hs hw).exec_hostRead_served ho hr hl ht hz hh hd hm
    exact served_host hn hp hj
  · rintro n c m g a k l s hc hs hw ho hn hp hr hl ht hz hh rfl hd hm
    obtain ⟨j, hj⟩ := (Runs.mk hc hs hw).exec_hostRead_served ho hr hl ht hz hh hd hm
    exact served_peer hn hp hj
  · intro n c m g a k s hc hs hw ho hn hr hl
    exact (Runs.mk hc hs hw).hostRead_refused ho hn hr hl
  · intro n c m g a k x s hc hs hw ho hn hr hl
    exact ((Runs.mk hc hs hw).hostRead_lost ho hr hl).imp fun t h => h.clause hn
  · intro n c b s hc hs hw ho hn hr hf hl
    exact ((Runs.mk hc hs hw).flush_success ho hr hf hl).imp fun t h => h.clause hn
  · intro n c b e s hc hs hw ho hn hr hf hl
    exact ((Runs.mk hc hs hw).flush_fault ho hr hf hl).imp fun t h => h.flush_clause hn
  · intro n c b s hc hs hw ho hr hf
    exact (Runs.mk hc hs hw).flush_early ho hr hf
  · intro n c b s hc hs hw ho hn
    exact ((Runs.mk hc hs hw).writeCacheEnable ho).imp fun t h => h.wce_clause hn
  · intro n b k s h1 h3 hl ht
    exact lostWriteEntry_clause h1 h3 hl ht
  · intro n b k s h1 h3 hl ht
    exact lostWriteEntry_sealed_clause h1 h3 hl ht
  · intro n c e s hc hs hw ho hn hb
    exact ((Runs.mk hc hs hw).selfTestStart_idle ho hb).imp fun t h => h.begun_clause hn
  · intro n c e s hc hs hw ho hn hb
    exact ((Runs.mk hc hs hw).selfTestStart_busy ho hb).imp fun t h => h.clause hn
  · intro k s hk hm
    exact selfTestSuspend_clause hk hm
  · intro k s hk hm hd
    exact selfTestResume_clause hk hm hd
  · intro r a s h
    exact selfTestEnd_clause h

end Sys2Proof.Machine

namespace Sys2Proof.Machine

open Sys2Proof

section SpareZones

variable {s t u : State}

/-! ### The zone manager's record -/

def setZmg (r : ZmgSt) (s : State) : State := { s with zmg := r }

theorem setZmg_regs (r : ZmgSt) (s : State) : (setZmg r s).regs = s.regs := rfl
theorem setZmg_mem (r : ZmgSt) (s : State) : (setZmg r s).mem = s.mem := rfl
theorem setZmg_sent (r : ZmgSt) (s : State) : (setZmg r s).sent = s.sent := rfl
theorem setZmg_zmg (r : ZmgSt) (s : State) : (setZmg r s).zmg = r := rfl

theorem OnlyEvents.zmg (h : OnlyEvents s t) : t.zmg = s.zmg := by rw [h]

/-- A zone's descriptor is as before where memory and the table's address are. -/
theorem zoneOf_of_mem {l : List Fld} (z : Nat) (regs : OnlyRegs l s t) (mem : t.mem = s.mem)
    (hi : Reg.ZMG_ZTBL_HI.ADDR.key ∉ l.map Fld.key := by decide) (lo : Reg.ZMG_ZTBL_LO.ADDR.key ∉ l.map Fld.key := by decide) : zoneOf z t = zoneOf z s :=
  zoneOf_congr z (regs _ hi) (regs _ lo) (fun a _ _ => by rw [memByte, mem, memByte])

/-! ### Events send nothing but interrupts -/

section Filter

variable {P : Msg → Bool} (hP : ∀ v, P (.msix v) = false)
include hP

theorem filter_sent_msix (v : Nat) (s : State) : (msix v s).sent.filter P = s.sent.filter P := by
  unfold msix
  split
  · rw [List.filter_append, List.filter_cons_of_neg (by rw [hP]; decide), List.filter_nil, List.append_nil]
  · rfl

theorem filter_sent_hostEdge (s t : State) : (hostEdge s t).sent.filter P = t.sent.filter P := by
  unfold hostEdge
  split
  · exact filter_sent_msix hP 1024 t
  · rfl

theorem filter_sent_raisePost (n u : Nat) (l : List Nat) (s : State) : (raisePost n u l s).sent.filter P = s.sent.filter P :=
  filter_sent_hostEdge hP s { s with sys := latchSrc n s }

/-! ### The free spare zones (R227) -/

theorem filter_sent_setSpares (l : List Nat) (s : State) : (setSpares l s).sent.filter P = s.sent.filter P := by
  unfold setSpares
  dsimp only
  split
  · rw [filter_sent_raisePost hP]
    rfl
  · rfl

end Filter

theorem setSpares_onlyEvents (l : List Nat) (s : State) : OnlyEvents (setZmg { s.zmg with spares := l } s) (setSpares l s) := by
  have counted : OnlyEvents (setZmg { s.zmg with spares := l } s) (put Reg.ZMG_SPARE.FREE l.length (setZmg { s.zmg with spares := l } s)) :=
    (put_onlyRegisters ..).onlyEvents
  unfold setSpares
  dsimp only
  split
  · exact counted.trans (raisePost_onlyEvents ..)
  · exact counted

theorem setSpares_onlyRegs (l : List Nat) (s : State) : OnlyRegs [Reg.ZMG_SPARE.FREE] s (setSpares l s) := by
  have counted : OnlyRegs [Reg.ZMG_SPARE.FREE] s (put Reg.ZMG_SPARE.FREE l.length (setZmg { s.zmg with spares := l } s)) :=
    OnlyRegs.trans (.of_regs _ (setZmg_regs ..)) (put_onlyRegs_self _ _ _)
  unfold setSpares
  dsimp only
  split
  · exact OnlyRegs.trans counted (.of_regs _ (raisePost_regs ..))
  · exact counted

theorem setSpares_zmg (l : List Nat) (s : State) : (setSpares l s).zmg = { s.zmg with spares := l } := (setSpares_onlyEvents l s).zmg

theorem setSpares_spares (l : List Nat) (s : State) : (setSpares l s).zmg.spares = l := by rw [setSpares_zmg]
theorem setSpares_copying (l : List Nat) (s : State) : (setSpares l s).zmg.copying = s.zmg.copying := by rw [setSpares_zmg]
theorem setSpares_remaps (l : List Nat) (s : State) : (setSpares l s).zmg.remaps = s.zmg.remaps := by rw [setSpares_zmg]

theorem setSpares_mem (l : List Nat) (s : State) : (setSpares l s).mem = s.mem := (setSpares_onlyEvents l s).mem

theorem zoneOf_setSpares (z : Nat) (l : List Nat) (s : State) : zoneOf z (setSpares l s) = zoneOf z s :=
  zoneOf_of_mem z (setSpares_onlyRegs l s) (setSpares_mem l s)

/-! ### A zone moves to a spare zone (R227) -/

/-- Nothing has changed but registers, the zone manager's record, memory and what an event leaves. -/
def OnlyManaged (s t : State) : Prop :=
  t = { s with regs := t.regs, zmg := t.zmg, mem := t.mem, sys := t.sys, evr := t.evr, sent := t.sent, host := { s.host with msixPend := t.host.msixPend } }

theorem OnlyManaged.trans (h : OnlyManaged s t) (k : OnlyManaged t u) : OnlyManaged s u := by
  refine Eq.trans k ?_
  rw [h]

theorem OnlyEvents.onlyManaged (h : OnlyEvents s t) : OnlyManaged s t := by
  unfold OnlyManaged
  rw [h]

theorem OnlyZoned.onlyManaged (h : OnlyZoned s t) : OnlyManaged s t := by
  unfold OnlyManaged
  rw [h]

theorem setZmg_onlyManaged (r : ZmgSt) (s : State) : OnlyManaged s (setZmg r s) := rfl

theorem setSpares_onlyManaged (l : List Nat) (s : State) : OnlyManaged s (setSpares l s) :=
  (setZmg_onlyManaged ..).trans (setSpares_onlyEvents l s).onlyManaged

theorem zoneOf_send (z : Nat) (m : Msg) (s : State) : zoneOf z (send m s) = zoneOf z s :=
  zoneOf_of_mem (l := []) z (.of_regs _ (send_regs ..)) (send_mem ..)

theorem send_onlyManaged (m : Msg) (s : State) : OnlyManaged s (send m s) := rfl

/-- A descriptor is written in a state whose record alone is another's. -/
theorem setZone_setZmg_outside (z : Nat) (d : Zone) (r : ZmgSt) (s : State) : MemOutside (zoneAddr z s) 32 s (setZone z d (setZmg r s)) :=
  setZone_memOutside z d (setZmg r s)

theorem MemOutside.of_mem {a n : Nat} (h : MemOutside a n s t) (hm : u.mem = t.mem) : MemOutside a n s u := fun b hb => by
  rw [memByte, hm, ← memByte, h b hb]

theorem OnlyZoned.spares (h : OnlyZoned s t) : t.zmg.spares = s.zmg.spares := by rw [h]
theorem OnlyZoned.copying (h : OnlyZoned s t) : t.zmg.copying = s.zmg.copying := by rw [h]
theorem OnlyZoned.remaps (h : OnlyZoned s t) : t.zmg.remaps = s.zmg.remaps := by rw [h]
theorem OnlyZoned.sent (h : OnlyZoned s t) : t.sent = s.sent := by rw [h]

theorem Zone.stored_phys (d : Zone) : d.stored.phys = d.phys % 2 ^ 20 := rfl
theorem Zone.stored_reloc (d : Zone) : d.stored.reloc = d.reloc := rfl
theorem Zone.stored_recov (d : Zone) : d.stored.recov = d.recov := rfl
theorem Zone.stored_media (d : Zone) : d.stored.media = d.media % 2 ^ 32 := rfl
theorem Zone.stored_group (d : Zone) : d.stored.group = d.group % 32 := rfl

theorem phys_stored (z : Nat) (s : State) : (zoneOf z s).phys % 2 ^ 20 = (zoneOf z s).phys := congrArg Zone.phys (zoneOf_stored z s)

theorem relocStart_eq (z q : Nat) (s : State) : relocStart z q s = setSpares (s.zmg.spares.filter (· != q))
    (setZone z { zoneOf z s with reloc := true } (setZmg { s.zmg with copying := AMap.insert z q s.zmg.copying } s)) := rfl

theorem relocation_starts {z q d : Nat} (hc : AMap.lookup z s.zmg.copying = none) (hf : sparesFree s ≠ []) (hz : zmgOn s = true)
    (hq : (sparesFree s).contains q = true) {P : Msg → Bool} (hP : ∀ v, P (.msix v) = false) : Gives (.zoneRelocation z q d) s (fun t =>
      (zoneOf z t).reloc = true ∧ (zoneOf z t).phys = (zoneOf z s).phys ∧ AMap.lookup z t.zmg.copying = some q ∧ q ∉ t.zmg.spares ∧
      t.sent.filter P = s.sent.filter P ∧ MemOutside (zoneAddr z s) 32 s t ∧
      OnlyRegs [Reg.ZMG_SPARE.FREE, Reg.ZMG_OPEN_CNT.OPEN, Reg.ZMG_OPEN_CNT.ACTIVE] s t ∧ OnlyManaged s t) := by
  have done : exec (.zoneRelocation z q d) s = .next (relocStart z q s) := by
    rw [show exec (.zoneRelocation z q d) s = execZoneRelocation z q d s from rfl, execZoneRelocation, hc]
    exact (if_neg hf).trans (occurs_of ⟨hz, hq⟩)
  refine .of_next done ?_
  rw [relocStart_eq]
  have zone := zoneOf_setZone z { zoneOf z s with reloc := true } (setZmg { s.zmg with copying := AMap.insert z q s.zmg.copying } s)
  have zoned := setZone_onlyZoned z { zoneOf z s with reloc := true } (setZmg { s.zmg with copying := AMap.insert z q s.zmg.copying } s)
  have outside := setZone_setZmg_outside z { zoneOf z s with reloc := true } { s.zmg with copying := AMap.insert z q s.zmg.copying } s
  have regs := setZone_onlyRegs z { zoneOf z s with reloc := true } (setZmg { s.zmg with copying := AMap.insert z q s.zmg.copying } s)
  generalize setZone z _ _ = v at zone zoned outside regs
  refine ⟨?_, ?_, ?_, ?_, ?_, outside.of_mem (setSpares_mem ..), ?_, ?_⟩
  · rw [zoneOf_setSpares, zone]
    rfl
  · rw [zoneOf_setSpares, zone]
    exact phys_stored z s
  · rw [setSpares_copying, zoned.copying]
    exact AMap.lookup_insert_self ..
  · rw [setSpares_spares]
    simp
  · rw [filter_sent_setSpares hP, zoned.sent, setZmg_sent]
  · exact OnlyRegs.mono (OnlyRegs.append (OnlyRegs.trans (.of_regs _ (setZmg_regs ..)) regs) (setSpares_onlyRegs _ v)) (by decide)
  · exact ((setZmg_onlyManaged _ s).trans zoned.onlyManaged).trans (setSpares_onlyManaged ..)

/-- The zone manager's record as a relocation that ends leaves it, but for remaps, spare zones and the journal. -/
def relocDone (z phys : Nat) (r : ZmgSt) : ZmgSt :=
  { r with relocate := r.relocate.filter (· != phys), copying := AMap.erase z r.copying
           rewrite := r.rewrite.filter (fun q => q.1.1 != phys), failed := r.failed.filter (fun q => q.1 != phys) }

theorem setRemaps_onlyZoned (l : List ((Nat × Nat) × (Nat × Nat))) (s : State) : OnlyZoned (setZmg { s.zmg with remaps := l } s) (setRemaps l s) :=
  journal_onlyZoned ..

theorem setRemaps_regs (l : List ((Nat × Nat) × (Nat × Nat))) (s : State) : (setRemaps l s).regs = s.regs := rfl
theorem setRemaps_mem (l : List ((Nat × Nat) × (Nat × Nat))) (s : State) : (setRemaps l s).mem = s.mem := rfl

theorem setRemaps_onlyManaged (l : List ((Nat × Nat) × (Nat × Nat))) (s : State) : OnlyManaged s (setRemaps l s) :=
  (setZmg_onlyManaged ..).trans (setRemaps_onlyZoned l s).onlyManaged

/-- The state before a relocation's descriptor is written. -/
def relocCleared (z : Nat) (s : State) : State :=
  setRemaps (s.zmg.remaps.filter (fun r => r.1.1 != (zoneOf z s).phys)) (setZmg (relocDone z (zoneOf z s).phys s.zmg) s)

theorem relocCleared_mem (z : Nat) (s : State) : (relocCleared z s).mem = s.mem := by
  rw [relocCleared, setRemaps_mem, setZmg_mem]

theorem relocCleared_regs (z : Nat) (s : State) : (relocCleared z s).regs = s.regs := by
  rw [relocCleared, setRemaps_regs, setZmg_regs]

theorem relocCleared_copying (z : Nat) (s : State) : (relocCleared z s).zmg.copying = AMap.erase z s.zmg.copying :=
  (setRemaps_onlyZoned _ (setZmg (relocDone z (zoneOf z s).phys s.zmg) s)).copying

theorem relocCleared_remaps (z : Nat) (s : State) :
    (relocCleared z s).zmg.remaps = s.zmg.remaps.filter (fun r => r.1.1 != (zoneOf z s).phys) :=
  (setRemaps_onlyZoned _ (setZmg (relocDone z (zoneOf z s).phys s.zmg) s)).remaps

theorem relocCleared_onlyManaged (z : Nat) (s : State) : OnlyManaged s (relocCleared z s) :=
  (setZmg_onlyManaged ..).trans (setRemaps_onlyManaged ..)

theorem relocEnd_eq (z p d : Nat) (s : State) : ∃ m, relocEnd z p d s =
    setSpares ((setZone z { zoneOf z s with phys := p, reloc := false } (relocCleared z s)).zmg.spares ++ [(zoneOf z s).phys])
      (send m (setZone z { zoneOf z s with phys := p, reloc := false } (relocCleared z s))) := ⟨_, rfl⟩

theorem relocation_ends {z q p d : Nat} (hc : AMap.lookup z s.zmg.copying = some p) (hz : zmgOn s = true) : Gives (.zoneRelocation z q d) s (fun t =>
      (zoneOf z t).phys = p % 2 ^ 20 ∧ (zoneOf z t).reloc = false ∧ (zoneOf z s).phys ∈ t.zmg.spares ∧
      t.zmg.copying = AMap.erase z s.zmg.copying ∧ t.zmg.remaps = s.zmg.remaps.filter (fun r => r.1.1 != (zoneOf z s).phys) ∧
      MemOutside (zoneAddr z s) 32 s t ∧
      OnlyRegs [Reg.ZMG_SPARE.FREE, Reg.ZMG_OPEN_CNT.OPEN, Reg.ZMG_OPEN_CNT.ACTIVE, Reg.ZMG_DEFECT.REMAPS] s t ∧ OnlyManaged s t) := by
  have done : exec (.zoneRelocation z q d) s = .next (relocEnd z p d s) := by
    rw [show exec (.zoneRelocation z q d) s = execZoneRelocation z q d s from rfl, execZoneRelocation, hc]
    exact occurs_of hz
  obtain ⟨m, eq⟩ := relocEnd_eq z p d s
  refine .of_next done ?_
  rw [eq]
  have addr : zoneAddr z (relocCleared z s) = zoneAddr z s :=
    zoneAddr_congr z (get_regs _ (relocCleared_regs z s)) (get_regs _ (relocCleared_regs z s))
  have zone := zoneOf_setZone z { zoneOf z s with phys := p, reloc := false } (relocCleared z s)
  have zoned := setZone_onlyZoned z { zoneOf z s with phys := p, reloc := false } (relocCleared z s)
  have outside := setZone_memOutside z { zoneOf z s with phys := p, reloc := false } (relocCleared z s)
  have regs := setZone_onlyRegs z { zoneOf z s with phys := p, reloc := false } (relocCleared z s)
  rw [addr] at outside
  generalize setZone z _ _ = v at zone zoned outside regs
  refine ⟨?_, ?_, ?_, ?_, ?_, fun b hb => ?_, ?_, ?_⟩
  · rw [zoneOf_setSpares, zoneOf_send, zone, Zone.stored_phys]
  · rw [zoneOf_setSpares, zoneOf_send, zone, Zone.stored_reloc]
  · rw [setSpares_spares]
    simp
  · rw [setSpares_copying, send_zmg, zoned.copying, relocCleared_copying]
  · rw [setSpares_remaps, send_zmg, zoned.remaps, relocCleared_remaps]
  · rw [memByte, setSpares_mem, send_mem, ← memByte, outside b hb, memByte, relocCleared_mem, memByte]
  · have before : OnlyRegs openFields s v := OnlyRegs.trans (.of_regs _ (relocCleared_regs z s)) regs
    exact OnlyRegs.mono (OnlyRegs.append before (OnlyRegs.trans (.of_regs _ (send_regs m v)) (setSpares_onlyRegs _ _))) (by decide)
  · exact (((relocCleared_onlyManaged z s).trans zoned.onlyManaged).trans (send_onlyManaged m v)).trans (setSpares_onlyManaged ..)

/-- With no spare zone the zone goes Read Only. -/
theorem relocation_fails {z q d : Nat} (hf : sparesFree s = []) (hc : AMap.lookup z s.zmg.copying = none) : Gives (.zoneRelocation z q d) s (fun t =>
      (zoneOf z t).state = 13 ∧ (zoneOf z t).reloc = false ∧ (zoneOf z t).phys = (zoneOf z s).phys ∧ MemOutside (zoneAddr z s) 32 s t ∧
      OnlyRegs [Reg.ZMG_OPEN_CNT.OPEN, Reg.ZMG_OPEN_CNT.ACTIVE] s t ∧ OnlyManaged s t) := by
  have done : exec (.zoneRelocation z q d) s =
      .next (raisePost 292 0 (bytesOf 3 z) (setZone z { zoneOf z s with state := 13, reloc := false } s)) := by
    rw [show exec (.zoneRelocation z q d) s = execZoneRelocation z q d s from rfl, execZoneRelocation, hc]
    exact if_pos hf
  refine .of_next done ?_
  have zone := zoneOf_setZone z { zoneOf z s with state := 13, reloc := false } s
  have zoned := setZone_onlyZoned z { zoneOf z s with state := 13, reloc := false } s
  have outside := setZone_memOutside z { zoneOf z s with state := 13, reloc := false } s
  have regs := setZone_onlyRegs z { zoneOf z s with state := 13, reloc := false } s
  generalize setZone z _ _ = v at zone zoned outside regs
  have events := raisePost_onlyEvents 292 0 (bytesOf 3 z) v
  have fields : OnlyRegs [] v (raisePost 292 0 (bytesOf 3 z) v) := .of_regs _ (raisePost_regs ..)
  have same : zoneOf z (raisePost 292 0 (bytesOf 3 z) v) = zoneOf z v := zoneOf_of_mem z fields events.mem
  refine ⟨?_, ?_, ?_, outside.of_mem events.mem, OnlyRegs.append regs fields, zoned.onlyManaged.trans events.onlyManaged⟩
  · rw [same, zone]
    rfl
  · rw [same, zone]
    rfl
  · rw [same, zone]
    exact phys_stored z s

end SpareZones

end Sys2Proof.Machine

namespace Sys2Proof.Machine

open Sys2Proof

section Remaps

variable {s t u : State} {n : Nat}

/-! ### A sector that a stream writes (R180, R226) -/

/-- Nothing has changed but the head links' records and what has been sent, to which something may have been added. -/
structure OnlyEmits (s t : State) : Prop where
  frame : t = { s with hlk := t.hlk, sent := t.sent }
  sent : s.sent <+: t.sent

theorem OnlyEmits.refl (s : State) : OnlyEmits s s := ⟨rfl, List.prefix_rfl⟩

theorem OnlyEmits.trans (h : OnlyEmits s t) (k : OnlyEmits t u) : OnlyEmits s u :=
  ⟨k.frame.trans (congrArg (fun x : State => { x with hlk := u.hlk, sent := u.sent }) h.frame), h.sent.trans k.sent⟩

theorem OnlyEmits.regs (h : OnlyEmits s t) : t.regs = s.regs := by rw [h.frame]
theorem OnlyEmits.zmg (h : OnlyEmits s t) : t.zmg = s.zmg := by rw [h.frame]

theorem send_onlyEmits (m : Msg) (s : State) : OnlyEmits s (send m s) := ⟨rfl, List.prefix_append ..⟩

theorem carried_onlyEmits {a : Nat} (ha : a ≠ 2) (b : List (Bool × Nat)) (s : State) : OnlyEmits s (carried a b s) := by
  rw [carried, setLink, if_neg ha]
  exact ⟨rfl, List.prefix_rfl⟩

theorem sendPiece_onlyEmits {a : Nat} (ha : a ≠ 2) (k n w : Nat) (p : Nat × Nat × List Bool) (s : State) : OnlyEmits s (sendPiece a k n w s p) :=
  (carried_onlyEmits ha _ s).trans (send_onlyEmits ..)

theorem sendPieces_onlyEmits {a : Nat} (ha : a ≠ 2) (k n w : Nat) (l : List (Nat × Nat × List Bool)) (s : State) :
    OnlyEmits s (l.foldl (sendPiece a k n w) s) := by
  induction l generalizing s with
  | nil => exact .refl s
  | cons p l ih => exact (sendPiece_onlyEmits ha k n w p s).trans (ih _)

/-- A sector that goes out is told of. -/
theorem sendSector_emits {a : Nat} (ha : a ≠ 2) (k n z i v : Nat) (s : State) :
    OnlyEmits (send (.sector n z i v) s) (sendSector a k n z i v s) := by
  unfold sendSector
  dsimp only
  split
  · exact sendPieces_onlyEmits ha ..
  · exact .refl _

theorem servedBy_congr (n : Nat) (h : t.regs = s.regs) : servedBy n t = servedBy n s := by
  have streams (a k : Nat) : streamOf a k t = streamOf a k s := by rw [streamOf, get_regs _ h, streamOf]
  simp only [servedBy, streams]

/-- A head that may write is served by a head link. -/
theorem servedBy_of_mayWrite (h : mayWrite n s = true) : ∃ q, servedBy n s = some q ∧ q.1 ≠ 2 := by
  unfold mayWrite at h
  dsimp only at h
  split at h
  · cases h
  next q hq =>
    refine ⟨q, hq, ?_⟩
    have place := List.mem_of_find?_eq_some hq
    intro h2
    simp [Prod.ext_iff, h2] at place

/-- A sector is written by a stream that has a link. -/
structure Emits (m : Msg) (s t : State) : Prop where
  only : OnlyEmits s t
  told : m ∈ t.sent

theorem emitSector_emits {q : Nat × Nat} (hq : servedBy n s = some q) (h2 : q.1 ≠ 2) (z i v : Nat) : Emits (.sector n z i v) s (emitSector n z i v s) := by
  rw [emitSector, hq]
  have out := sendSector_emits h2 q.2 n z i v s
  exact ⟨(send_onlyEmits ..).trans out, out.sent.subset (List.mem_append_right _ (List.mem_singleton_self _))⟩

/-! ### A defect that is repaired (R226) -/

/-- Nothing has changed but registers, the zone manager's record, the head links' and what an event leaves. -/
def OnlyRemaps (s t : State) : Prop :=
  t = { s with regs := t.regs, zmg := t.zmg, hlk := t.hlk, sys := t.sys, evr := t.evr, sent := t.sent, host := { s.host with msixPend := t.host.msixPend } }

theorem OnlyRemaps.trans (h : OnlyRemaps s t) (k : OnlyRemaps t u) : OnlyRemaps s u := by
  refine Eq.trans k ?_
  rw [h]

theorem OnlyEvents.onlyRemaps (h : OnlyEvents s t) : OnlyRemaps s t := by
  unfold OnlyRemaps
  rw [h]

theorem OnlyEmits.onlyRemaps (h : OnlyEmits s t) : OnlyRemaps s t := by
  unfold OnlyRemaps
  rw [h.frame]

theorem setZmg_onlyRemaps (r : ZmgSt) (s : State) : OnlyRemaps s (setZmg r s) := rfl

theorem setRemaps_onlyRemaps (l : List ((Nat × Nat) × (Nat × Nat))) (s : State) : OnlyRemaps s (setRemaps l s) := rfl

theorem setSpares_onlyRemaps (l : List Nat) (s : State) : OnlyRemaps s (setSpares l s) :=
  (setZmg_onlyRemaps ..).trans (setSpares_onlyEvents l s).onlyRemaps

theorem OnlyRemaps.sameMem (h : OnlyRemaps s t) : SameMem s t := fun a => by rw [memByte, h, memByte]

theorem OnlyEmits.of_setZmg {r : ZmgSt} (h : OnlyEmits (setZmg r s) t) : t = { s with zmg := t.zmg, hlk := t.hlk, sent := t.sent } := by
  rw [h.frame]
  rfl

/-- The state before the remap: the sector no longer waits, and in a conventional zone it has been rewritten in place. -/
def rewritten (n z i v : Nat) (s : State) : State :=
  if shingledAt z s then repaired (z, i) s else emitSector n z i (anew (z, i) v s) (repaired (z, i) s)

theorem exec_defectRemap {z i y j v : Nat} {o : Decoded} (hn : n < 5) (hw : s.zmg.rewrite.find? (fun x => x.1 == (z, i)) = some ((z, i), v))
    (hz : zmgOn s = true) (hr : streamRuns n s = true) (hm : mayWrite n s = true) (hs : spareSector z (y, j) s = true) :
    exec (.defectRemap n z i y j o) s = .next (if shingledAt z s = false ∧ accepted z i o = true then rewritten n z i v s
      else remapTo n (z, i) (y, j) (anew (z, i) v s) (rewritten n z i v s)) := by
  rw [show exec (.defectRemap n z i y j o) s = execDefectRemap n z i y j o s from rfl, execDefectRemap]
  dsimp only
  rw [unit_of_lt hn, hw]
  exact occurs_of ⟨hz, hr, hm, hs⟩

/-- What stands before the remap. -/
structure Rewritten (z i : Nat) (s t : State) : Prop where
  zmg : t.zmg = { s.zmg with rewrite := s.zmg.rewrite.filter (fun x => x.1 != (z, i)) }
  regs : t.regs = s.regs
  frame : t = { s with zmg := t.zmg, hlk := t.hlk, sent := t.sent }

theorem rewritten_rewritten (hm : mayWrite n s = true) (z i v : Nat) : Rewritten z i s (rewritten n z i v s) := by
  unfold rewritten
  split
  · exact ⟨rfl, rfl, rfl⟩
  · obtain ⟨q, hq, h2⟩ := servedBy_of_mayWrite hm
    have out := (emitSector_emits (s := repaired (z, i) s) ((servedBy_congr n (by rfl)).trans hq) h2 z i (anew (z, i) v s)).only
    exact ⟨out.zmg, out.regs, OnlyEmits.of_setZmg out⟩

theorem all_filter_ne {α : Type} (l : List ((Nat × Nat) × α)) (q : Nat × Nat) : (l.filter (fun x => x.1 != q)).all (fun x => x.1 != q) = true :=
  List.all_eq_true.2 fun _ hx => (List.mem_filter.1 hx).2

theorem defectRemap_rewrites {z i y j v : Nat} {o : Decoded} (hn : n < 5) (hw : s.zmg.rewrite.find? (fun x => x.1 == (z, i)) = some ((z, i), v))
    (hz : zmgOn s = true) (hr : streamRuns n s = true) (hm : mayWrite n s = true) (hs : spareSector z (y, j) s = true)
    (hc : shingledAt z s = false) (ha : accepted z i o = true) : Gives (.defectRemap n z i y j o) s (fun t =>
      t.zmg.remaps = s.zmg.remaps ∧ t.zmg.rewrite.all (fun x => x.1 != (z, i)) = true ∧ Msg.sector n z i (anew (z, i) v s) ∈ t.sent ∧
      OnlyRegs [] s t ∧ t = { s with zmg := t.zmg, hlk := t.hlk, sent := t.sent } ∧ SameMem s t) := by
  have done := exec_defectRemap (o := o) hn hw hz hr hm hs
  rw [if_pos ⟨hc, ha⟩] at done
  obtain ⟨zmg, regs, frame⟩ := rewritten_rewritten hm z i v
  refine .of_next done ⟨?_, ?_, ?_, .of_regs _ regs, frame, fun a => by rw [memByte, frame, memByte]⟩
  · rw [zmg]
  · rw [zmg]
    exact all_filter_ne ..
  · obtain ⟨q, hq, h2⟩ := servedBy_of_mayWrite hm
    rw [rewritten, hc]
    exact (emitSector_emits (s := repaired (z, i) s) ((servedBy_congr n (by rfl)).trans hq) h2 z i (anew (z, i) v s)).told

/-- A remap that may make its zone due for relocation. -/
def markRelocate (z : Nat) (s : State) : State := setZmg { s.zmg with relocate := s.zmg.relocate ++ [z] } s

/-- The state in which a sector has been remapped, but for the count. -/
def remapped (n : Nat) (q p : Nat × Nat) (v : Nat) (s : State) : State :=
  setSpares (s.zmg.spares.filter (· != p.1)) (setRemaps (s.zmg.remaps.filter (fun r => r.1 != q) ++ [(q, p)]) (emitSector n p.1 p.2 v s))

/-- What a remapped sector leaves. -/
structure Remapped (n : Nat) (q p : Nat × Nat) (v : Nat) (s t : State) : Prop where
  remaps : t.zmg.remaps = s.zmg.remaps.filter (fun r => r.1 != q) ++ [(q, p)]
  rewrite : t.zmg.rewrite = s.zmg.rewrite
  spares : p.1 ∉ t.zmg.spares
  told : Msg.sector n p.1 p.2 v ∈ t.sent
  frame : OnlyRemaps s t

theorem OnlyRemaps.of_setZmg {r : ZmgSt} (h : OnlyRemaps s t) : OnlyRemaps s (setZmg r t) := h.trans (setZmg_onlyRemaps ..)

/-- The count of the remaps and the mark of a zone change none of it. -/
theorem Remapped.of_events {q p : Nat × Nat} {v : Nat} (h : Remapped n q p v s t) (k : OnlyRegisters t u) : Remapped n q p v s u :=
  have zmg : u.zmg = t.zmg := k.onlyEvents.zmg
  ⟨by rw [zmg, h.remaps], by rw [zmg, h.rewrite], by rw [zmg]; exact h.spares, by rw [k]; exact h.told, h.frame.trans k.onlyEvents.onlyRemaps⟩

theorem Remapped.markRelocate {q p : Nat × Nat} {v : Nat} (h : Remapped n q p v s t) (z : Nat) : Remapped n q p v s (markRelocate z t) :=
  ⟨h.remaps, h.rewrite, h.spares, h.told, h.frame.of_setZmg⟩

theorem setSpares_rewrite (l : List Nat) (s : State) : (setSpares l s).zmg.rewrite = s.zmg.rewrite := by rw [setSpares_zmg]

theorem OnlyZoned.rewrite (h : OnlyZoned s t) : t.zmg.rewrite = s.zmg.rewrite := by rw [h]

theorem setRemaps_sent (l : List ((Nat × Nat) × (Nat × Nat))) (s : State) : (setRemaps l s).sent = s.sent := rfl

theorem remapped_remapped {k : Nat × Nat} (hk : servedBy n s = some k) (h2 : k.1 ≠ 2) (q p : Nat × Nat) (v : Nat) :
    Remapped n q p v s (remapped n q p v s) := by
  unfold remapped
  obtain ⟨out, told⟩ := emitSector_emits hk h2 p.1 p.2 v
  generalize emitSector n p.1 p.2 v s = t at out told
  have zoned := setRemaps_onlyZoned (s.zmg.remaps.filter (fun r => r.1 != q) ++ [(q, p)]) t
  have sent : Msg.sector n p.1 p.2 v ∈ (setRemaps (s.zmg.remaps.filter (fun r => r.1 != q) ++ [(q, p)]) t).sent := by rwa [setRemaps_sent]
  have frame : OnlyRemaps s (setRemaps (s.zmg.remaps.filter (fun r => r.1 != q) ++ [(q, p)]) t) :=
    out.onlyRemaps.trans (setRemaps_onlyRemaps ..)
  generalize setRemaps (s.zmg.remaps.filter (fun r => r.1 != q) ++ [(q, p)]) t = w at zoned sent frame
  refine ⟨?_, ?_, ?_, (setSpares_steady (Steady.refl w)).2.1.subset sent, frame.trans (setSpares_onlyRemaps ..)⟩
  · rw [setSpares_remaps, zoned.remaps, setZmg_zmg]
  · rw [setSpares_rewrite, zoned.rewrite, setZmg_zmg, out.zmg]
  · rw [setSpares_spares]
    simp

theorem remapTo_eq (n : Nat) (q p : Nat × Nat) (v : Nat) (s : State) : ∃ b : Bool, remapTo n q p v s =
    if b then markRelocate q.1 (put Reg.ZMG_DEFECT.REMAPS (get Reg.ZMG_DEFECT.REMAPS s + 1) (remapped n q p v s))
    else put Reg.ZMG_DEFECT.REMAPS (get Reg.ZMG_DEFECT.REMAPS s + 1) (remapped n q p v s) := by
  unfold remapTo
  dsimp only
  split
  · exact ⟨true, rfl⟩
  · exact ⟨false, rfl⟩

theorem remapped_onlyRegs {k : Nat × Nat} (hk : servedBy n s = some k) (h2 : k.1 ≠ 2) (q p : Nat × Nat) (v : Nat) :
    OnlyRegs [Reg.ZMG_SPARE.FREE] s (remapped n q p v s) := by
  have out := (emitSector_emits hk h2 p.1 p.2 v).only
  exact OnlyRegs.trans (.of_regs _ ((setRemaps_regs ..).trans out.regs)) (setSpares_onlyRegs _ _)

/-- The registers of a remap: the count moves on, and the free spare zones are counted. -/
theorem remapTo_regs {k : Nat × Nat} (hk : servedBy n s = some k) (h2 : k.1 ≠ 2) (q p : Nat × Nat) (v : Nat) :
    get Reg.ZMG_DEFECT.REMAPS (remapTo n q p v s) = (get Reg.ZMG_DEFECT.REMAPS s + 1) % 2 ^ Reg.ZMG_DEFECT.REMAPS.width ∧
      OnlyRegs [Reg.ZMG_DEFECT.REMAPS, Reg.ZMG_SPARE.FREE] s (remapTo n q p v s) := by
  obtain ⟨b, eq⟩ := remapTo_eq n q p v s
  have counted := get_put_self Reg.ZMG_DEFECT.REMAPS (get Reg.ZMG_DEFECT.REMAPS s + 1) (remapped n q p v s)
  have regs := OnlyRegs.append (remapped_onlyRegs hk h2 q p v)
    (put_onlyRegs_self Reg.ZMG_DEFECT.REMAPS (get Reg.ZMG_DEFECT.REMAPS s + 1) (remapped n q p v s))
  rw [eq]
  cases b with
  | true =>
    exact ⟨(get_regs _ (setZmg_regs ..)).trans counted, OnlyRegs.mono (OnlyRegs.trans regs (.of_regs _ (setZmg_regs ..))) (by decide)⟩
  | false => exact ⟨counted, OnlyRegs.mono regs (by decide)⟩

theorem remapTo_remapped {k : Nat × Nat} (hk : servedBy n s = some k) (h2 : k.1 ≠ 2) (q p : Nat × Nat) (v : Nat) :
    Remapped n q p v s (remapTo n q p v s) := by
  obtain ⟨b, eq⟩ := remapTo_eq n q p v s
  have counted := (remapped_remapped hk h2 q p v).of_events (put_onlyRegisters Reg.ZMG_DEFECT.REMAPS (get Reg.ZMG_DEFECT.REMAPS s + 1) _)
  rw [eq]
  cases b with
  | true => exact counted.markRelocate q.1
  | false => exact counted

theorem defectRemap_remaps {z i y j v : Nat} {o : Decoded} (hn : n < 5) (hw : s.zmg.rewrite.find? (fun x => x.1 == (z, i)) = some ((z, i), v))
    (hz : zmgOn s = true) (hr : streamRuns n s = true) (hm : mayWrite n s = true) (hs : spareSector z (y, j) s = true)
    (hc : shingledAt z s = true ∨ accepted z i o = false) : Gives (.defectRemap n z i y j o) s (fun t =>
      t.zmg.remaps = s.zmg.remaps.filter (fun r => r.1 != (z, i)) ++ [((z, i), (y, j))] ∧
      get Reg.ZMG_DEFECT.REMAPS t = (get Reg.ZMG_DEFECT.REMAPS s + 1) % 2 ^ Reg.ZMG_DEFECT.REMAPS.width ∧
      t.zmg.rewrite.all (fun x => x.1 != (z, i)) = true ∧ y ∉ t.zmg.spares ∧ Msg.sector n y j (anew (z, i) v s) ∈ t.sent ∧
      OnlyRegs [Reg.ZMG_DEFECT.REMAPS, Reg.ZMG_SPARE.FREE] s t ∧ OnlyRemaps s t ∧ SameMem s t) := by
  have done := exec_defectRemap (o := o) hn hw hz hr hm hs
  rw [if_neg (by rintro ⟨hf, ha⟩; rcases hc with h | h <;> simp [hf, ha] at h)] at done
  obtain ⟨zmg, regs, frame⟩ := rewritten_rewritten hm z i v
  generalize rewritten n z i v s = w at zmg regs frame done
  obtain ⟨q, hq, h2⟩ := servedBy_of_mayWrite hm
  rw [← servedBy_congr n regs] at hq
  obtain ⟨count, fields⟩ := remapTo_regs hq h2 (z, i) (y, j) (anew (z, i) v s)
  obtain ⟨remaps, rewrite, spares, told, only⟩ := remapTo_remapped hq h2 (z, i) (y, j) (anew (z, i) v s)
  have whole : OnlyRemaps s (remapTo n (z, i) (y, j) (anew (z, i) v s) w) := OnlyRemaps.trans (by unfold OnlyRemaps; rw [frame]) only
  refine .of_next done ⟨?_, ?_, ?_, spares, told, OnlyRegs.trans (.of_regs _ regs) fields, whole, whole.sameMem⟩
  · rw [remaps, zmg]
  · rw [count, get_regs _ regs]
  · rw [rewrite, zmg]
    exact all_filter_ne ..

end Remaps

end Sys2Proof.Machine

namespace Sys2Proof.Machine

open Sys2Proof

section DeepRecovery

variable {s t u : State} {n : Nat}

/-! ### LBAs that leave and enter the pending-unrecoverable list (R229) -/

/-- No part of an entry that stays touches the range that leaves. -/
theorem not_touches_of_mem_cutPend {ns a k : Nat} {e x : Nat × Nat × Nat} (h : x ∈ cutPend ns a k e) : (x.1 == ns && overlap a k x.2.1 x.2.2) = false := by
  unfold cutPend at h
  split at h
  · rcases List.mem_append.1 h with low | high
    · split at low
      · obtain rfl := List.mem_singleton.1 low
        have apart : ¬ a < e.2.1 + (a - e.2.1) := by omega
        simp [overlap, apart]
      · cases low
    · split at high
      · obtain rfl := List.mem_singleton.1 high
        simp [overlap]
      · cases high
  next apart =>
    obtain rfl := List.mem_singleton.1 h
    rw [← Bool.not_eq_true, Bool.and_eq_true, beq_iff_eq]
    exact apart

theorem clearPend_pend (ns a k : Nat) (s : State) : (clearPend ns a k s).zmg.pend =
    if touchesPend ns a k s then s.zmg.pend.flatMap (cutPend ns a k) else s.zmg.pend := by
  unfold clearPend touchesPend
  dsimp only
  split
  · rw [(markPends_onlyZoned ..).pend, setPend_pend]
  · rfl

theorem touchesPend_clearPend (ns a k : Nat) (s : State) : touchesPend ns a k (clearPend ns a k s) = false := by
  cases h : touchesPend ns a k s with
  | false =>
    rw [touchesPend, clearPend_pend, h]
    exact h
  | true =>
    rw [touchesPend, clearPend_pend, h, if_pos rfl, List.any_eq_false]
    intro x hx
    obtain ⟨e, -, he⟩ := List.mem_flatMap.1 hx
    rw [not_touches_of_mem_cutPend he]
    exact Bool.false_ne_true

/-- What an addition to the list leaves: but for events, the list and its marks alone have changed. -/
structure AddsPend (s t : State) : Prop where
  regs : OnlyBlocks [9] s t
  frame : ∃ v, OnlyPended s v ∧ OnlyEvents v t

theorem AddsPend.zmg (h : AddsPend s t) : t.zmg.failed = s.zmg.failed ∧ t.zmg.rewrite = s.zmg.rewrite := by
  obtain ⟨v, pended, events⟩ := h.frame
  rw [events.zmg, pended]
  exact ⟨rfl, rfl⟩

theorem setPend_setZone_onlyPended (l : List (Nat × Nat × Nat)) (z : Nat) (d : Zone) (s : State) : OnlyPended s (setZone z d (setPend l s)) :=
  (setPend_onlyPended ..).trans (setZone_onlyZoned ..).onlyPended

theorem setPend_setZone_onlyBlocks (l : List (Nat × Nat × Nat)) (z : Nat) (d : Zone) (s : State) : OnlyBlocks [9] s (setZone z d (setPend l s)) :=
  OnlyBlocks.trans (setPend_onlyBlocks l s) (setZone_onlyBlocks z d _)

theorem addPend_addsPend (ns a k : Nat) (s : State) : AddsPend s (addPend ns a k s) := by
  unfold addPend
  dsimp only
  split
  · exact ⟨OnlyBlocks.trans (setPend_setZone_onlyBlocks _ _ _ s) (.of_regs _ (raisePost_regs ..)), _, setPend_setZone_onlyPended .., raisePost_onlyEvents ..⟩
  · refine ⟨OnlyBlocks.trans (OnlyBlocks.trans (setPend_setZone_onlyBlocks _ _ _ s) (OnlyRegs.onlyBlocks (put_onlyRegs_self _ 1 _) (by decide)))
      (.of_regs _ (raisePost_regs ..)), _, (setPend_setZone_onlyPended ..).trans (put_onlyRegisters ..).onlyPended, raisePost_onlyEvents ..⟩

theorem addPend_pend {ns a k : Nat} (h : s.zmg.pend.length < 65536) : (addPend ns a k s).zmg.pend = s.zmg.pend ++ [(ns, a, k)] := by
  unfold addPend
  dsimp only
  rw [if_pos h, (raisePost_onlyEvents ..).zmg, (setZone_onlyZoned ..).pend, setPend_pend]

theorem touchesPend_addPend {ns a k : Nat} (h : s.zmg.pend.length < 65536) (hk : 0 < k) : touchesPend ns a k (addPend ns a k s) = true := by
  rw [touchesPend, addPend_pend h, List.any_append]
  simp [overlap, hk]

theorem lbasPerBlock_pos (ns : Nat) (s : State) : 0 < lbasPerBlock ns s := by
  unfold lbasPerBlock
  split <;> decide

/-! ### Deep recovery (R228) -/

/-- The state in which a sector no longer waits for deep recovery. -/
def sectorTaken (z p : Nat) (s : State) : State := setZmg { s.zmg with failed := s.zmg.failed.filter (· != sectorPlace z p s) } s

/-- The first LBA of a sector, and their number. -/
def sectorLba (z p : Nat) (s : State) : Nat := blockOf z p s * lbasPerBlock (zoneOf z s).ns s

/-- A sector that has been recovered is due to be rewritten, and its LBAs leave the list. -/
def sectorFound (z p i : Nat) (s : State) : State :=
  clearPend (zoneOf z s).ns (sectorLba z p s) (lbasPerBlock (zoneOf z s).ns s)
    (setZmg { (sectorTaken z p s).zmg with rewrite := s.zmg.rewrite ++ [(((zoneOf z s).phys, physIdx (isShingled (zoneOf z s)) p), i)] } s)

/-- One that has not has its LBAs on the list. -/
def sectorLost (z p : Nat) (s : State) : State :=
  if touchesPend (zoneOf z s).ns (sectorLba z p s) (lbasPerBlock (zoneOf z s).ns s) (sectorTaken z p s) then sectorTaken z p s
  else addPend (zoneOf z s).ns (sectorLba z p s) (lbasPerBlock (zoneOf z s).ns s) (sectorTaken z p s)

section Exec

variable {z p : Nat} {r : List Reread} {o : List Decoded} {d : Decoded} {w : Verdict × Nat × Nat} (hn : n < 5)
  (hw : climb n (zoneOf z s).phys (physIdx (isShingled (zoneOf z s)) p) (4 * budgetOf n s) s (planOf n s) 0 0 r = some w)
  (hf : s.zmg.failed.contains (sectorPlace z p s) = true) (hr : streamRuns n s = true)
include hn hw hf hr

theorem exec_deepRecovery_some {i : Nat} (hd : deepResult z p w.1 (o, d) (copyData z p s) s = some i) :
    exec (.deepRecovery n z p r o d) s = .next (sectorFound z p i s) := by
  rw [show exec (.deepRecovery n z p r o d) s = execDeepRecovery n z p r o d s from rfl, execDeepRecovery]
  dsimp only
  rw [unit_of_lt hn, hw]
  dsimp only
  rw [hd]
  exact occurs_of ⟨hf, hr⟩

theorem exec_deepRecovery_none (hd : deepResult z p w.1 (o, d) (copyData z p s) s = none) :
    exec (.deepRecovery n z p r o d) s = .next (sectorLost z p s) := by
  rw [show exec (.deepRecovery n z p r o d) s = execDeepRecovery n z p r o d s from rfl, execDeepRecovery]
  dsimp only
  rw [unit_of_lt hn, hw]
  dsimp only
  rw [hd]
  exact occurs_of ⟨hf, hr⟩

end Exec

theorem sectorTaken_failed (z p : Nat) (s : State) : sectorPlace z p s ∉ (sectorTaken z p s).zmg.failed := by
  rw [sectorTaken, setZmg_zmg]
  simp

theorem OnlyPended.failed (h : OnlyPended s t) : t.zmg.failed = s.zmg.failed := by rw [h]
theorem OnlyPended.rewrite (h : OnlyPended s t) : t.zmg.rewrite = s.zmg.rewrite := by rw [h]

/-- What a recovered sector leaves. -/
theorem sectorFound_clause (z p i : Nat) (s : State) :
    (((zoneOf z s).phys, physIdx (isShingled (zoneOf z s)) p), i) ∈ (sectorFound z p i s).zmg.rewrite ∧
      sectorPlace z p s ∉ (sectorFound z p i s).zmg.failed ∧
      touchesPend (zoneOf z s).ns (sectorLba z p s) (lbasPerBlock (zoneOf z s).ns s) (sectorFound z p i s) = false ∧
      OnlyBlocks [9] s (sectorFound z p i s) := by
  unfold sectorFound
  generalize hv : setZmg _ s = v
  have rewrite : (((zoneOf z s).phys, physIdx (isShingled (zoneOf z s)) p), i) ∈ v.zmg.rewrite := by
    rw [← hv, setZmg_zmg]
    simp
  have failed : sectorPlace z p s ∉ v.zmg.failed := by
    rw [← hv, setZmg_zmg]
    exact sectorTaken_failed z p s
  have pended := clearPend_onlyPended (zoneOf z s).ns (sectorLba z p s) (lbasPerBlock (zoneOf z s).ns s) v
  refine ⟨?_, ?_, touchesPend_clearPend .., OnlyBlocks.trans (.of_regs _ ?_) (clearPend_onlyBlocks _ _ _ v)⟩
  · rw [pended.rewrite]
    exact rewrite
  · rw [pended.failed]
    exact failed
  · rw [← hv, setZmg_regs]

/-- What a sector that is not recovered leaves. -/
theorem sectorLost_clause (z p : Nat) (s : State) :
    (s.zmg.pend.length < 65536 → touchesPend (zoneOf z s).ns (sectorLba z p s) (lbasPerBlock (zoneOf z s).ns s) (sectorLost z p s) = true) ∧
      sectorPlace z p s ∉ (sectorLost z p s).zmg.failed ∧ (sectorLost z p s).zmg.rewrite = s.zmg.rewrite ∧ OnlyBlocks [9] s (sectorLost z p s) := by
  have regs : OnlyBlocks [9] s (sectorTaken z p s) := .of_regs _ (setZmg_regs ..)
  unfold sectorLost
  split
  next touched => exact ⟨fun _ => touched, sectorTaken_failed z p s, rfl, regs⟩
  · have added := addPend_addsPend (zoneOf z s).ns (sectorLba z p s) (lbasPerBlock (zoneOf z s).ns s) (sectorTaken z p s)
    obtain ⟨failed, rewrite⟩ := added.zmg
    refine ⟨fun h => touchesPend_addPend h (lbasPerBlock_pos ..), ?_, rewrite, regs.trans added.regs⟩
    rw [failed]
    exact sectorTaken_failed z p s

end DeepRecovery

section Waits

variable {s t u : State} {n : Nat}

/-! ### A read that has waited (R228) -/

theorem stamp_of_ctxOf {c : Ctx} (h : ctxOf n s = some c) : c.stamp = n := by
  simpa using List.find?_some h

theorem Runs.hostReadRecoveryTimeout {c : Ctx} {m a k : Nat} (h : Runs n c s) (ho : c.cmd.op = .read a k) (hw : waitsRecovery c s = true)
    (hm : get Reg.ZMG_RECOV_CFG.HOST_MS s ≤ m) : Gives (.hostReadRecoveryTimeout n m) s (Finished c .unrecoveredRead a s) := by
  refine .finished ?_
  rw [show exec (.hostReadRecoveryTimeout n m) s = execHostReadRecoveryTimeout n m s from rfl, execHostReadRecoveryTimeout, h.onCtx]
  simp only [ho]
  rw [if_pos ⟨hw, hm⟩]

/-! ### The neighbour tracks and the scan (R230 to R232) -/

theorem atiVerify_clause {l : List (Nat × Nat)} (h : s.zmg.ati ≠ []) : Gives (.atiVerify l) s (fun t =>
    t.zmg.ati = s.zmg.ati.drop 1 ∧ (∀ q ∈ l, q ∈ t.zmg.failed) ∧ OnlyRegs [] s t ∧ t = { s with zmg := t.zmg } ∧ SameMem s t) := by
  obtain ⟨e, r, hr⟩ := List.exists_cons_of_ne_nil h
  have done : exec (.atiVerify l) s =
      .next (setZmg { s.zmg with ati := r, failed := s.zmg.failed ++ l.filter (fun q => !s.zmg.failed.contains q) } s) := by
    rw [show exec (.atiVerify l) s = execAtiVerify l s from rfl, execAtiVerify, hr]
    rfl
  refine .of_next done ⟨?_, fun q hq => ?_, .of_regs _ (setZmg_regs ..), rfl, fun _ => rfl⟩
  · rw [hr, setZmg_zmg]
    rfl
  · rw [setZmg_zmg]
    by_cases hf : q ∈ s.zmg.failed
    · exact List.mem_append_left _ hf
    · exact List.mem_append_right _ (List.mem_filter.2 ⟨hq, by simpa using hf⟩)

theorem OnlyRegisters.of_setZmg {r : ZmgSt} (h : OnlyRegisters (setZmg r s) t) : t = { s with regs := t.regs, zmg := t.zmg } := by
  rw [h]
  rfl

theorem OnlyEvents.of_setZmg {r : ZmgSt} (h : OnlyEvents (setZmg r s) t) :
    t = { s with regs := t.regs, zmg := t.zmg, sys := t.sys, evr := t.evr, sent := t.sent, host := { s.host with msixPend := t.host.msixPend } } := by
  rw [h]
  rfl

theorem sameMem_setZmg {r : ZmgSt} (h : SameMem (setZmg r s) t) : SameMem s t := h

/-- The scan of a zone changes the zone manager's record alone. -/
theorem scanFinds_eq (z : Nat) (l : List (Nat × Nat × Nat × Nat)) (s : State) : ∃ r, scanFinds z l s = setZmg r s ∧
    r.failed = s.zmg.failed ++ ((l.filter (fun r => scanned z r.1 s)).filter (fun r => r.2.1 == 2)).map (fun r => (z, r.1)) ∧
    r.rewrite = s.zmg.rewrite ++ ((l.filter (fun r => scanned z r.1 s)).filter
      (fun r => r.2.1 == 1 && decide (get Reg.ZMG_RECOV_CFG.RELOC_STEP s ≤ r.2.2.1))).map (fun r => ((z, r.1), r.2.2.2)) := ⟨_, rfl, rfl, rfl⟩

/-- The state in which a pass of the scan has ended. -/
def passEnded (s : State) : State := raisePost 293 0 [] (bump Reg.ZMG_SCAN_STAT.PASSES (put Reg.ZMG_SCAN_STAT.ZONE 0 s))

theorem passEnded_onlyEvents (s : State) : OnlyEvents s (passEnded s) :=
  ((put_onlyRegisters ..).onlyEvents.trans (put_onlyRegisters ..).onlyEvents).trans (raisePost_onlyEvents ..)

theorem passEnded_wrote (s : State) :
    Wrote [(Reg.ZMG_SCAN_STAT.ZONE, 0), (Reg.ZMG_SCAN_STAT.PASSES, get Reg.ZMG_SCAN_STAT.PASSES s + 1)] s (passEnded s) :=
  (((Wrote.nil s).put Reg.ZMG_SCAN_STAT.ZONE 0).bump (by decide)).of_regs (raisePost_regs ..)

/-- The fields of the scan's place. -/
def scanFields : List Fld := [Reg.ZMG_SCAN_STAT.ZONE, Reg.ZMG_SCAN_STAT.PASSES]

theorem passEnded_onlyRegs (s : State) : OnlyRegs scanFields s (passEnded s) := (passEnded_wrote s).onlyRegs

section Scan

variable {z : Nat} {l : List (Nat × Nat × Nat × Nat)} (hz : zmgOn s = true) (he : get Reg.ZMG_CTL.SCAN_EN s = 1)
  (hs : get Reg.ZMG_SCAN_STAT.ZONE s = z) (hg : naturalGap (zoneAct z) s = true) (hd : scanDue s = true)
include hz he hs hg hd

theorem exec_backgroundScan (b f : Bool) : exec (.backgroundScan z l b f) s = .next (if !b then scanFinds z l s
    else if f then passEnded (scanFinds z l s) else put Reg.ZMG_SCAN_STAT.ZONE (z + 1) (scanFinds z l s)) :=
  occurs_of ⟨hz, he, hs, hg, hd⟩

theorem backgroundScan_next : Gives (.backgroundScan z l true false) s (fun t =>
    get Reg.ZMG_SCAN_STAT.ZONE t = (z + 1) % 2 ^ Reg.ZMG_SCAN_STAT.ZONE.width ∧ OnlyRegs [Reg.ZMG_SCAN_STAT.ZONE] s t ∧
      t = { s with regs := t.regs, zmg := t.zmg } ∧ SameMem s t) := by
  obtain ⟨r, eq, -, -⟩ := scanFinds_eq z l s
  refine .of_next (exec_backgroundScan hz he hs hg hd true false) ?_
  rw [eq]
  have frame : OnlyRegisters (setZmg r s) (put Reg.ZMG_SCAN_STAT.ZONE (z + 1) (setZmg r s)) := put_onlyRegisters ..
  exact ⟨get_put_self .., OnlyRegs.trans (.of_regs _ (setZmg_regs r s)) (put_onlyRegs_self _ _ _), frame.of_setZmg, sameMem_setZmg frame.sameMem⟩

theorem backgroundScan_last : Gives (.backgroundScan z l true true) s (fun t =>
    get Reg.ZMG_SCAN_STAT.ZONE t = 0 ∧
      get Reg.ZMG_SCAN_STAT.PASSES t = (get Reg.ZMG_SCAN_STAT.PASSES s + 1) % 2 ^ Reg.ZMG_SCAN_STAT.PASSES.width ∧
      OnlyRegs [Reg.ZMG_SCAN_STAT.ZONE, Reg.ZMG_SCAN_STAT.PASSES] s t ∧
      t = { s with regs := t.regs, zmg := t.zmg, sys := t.sys, evr := t.evr, sent := t.sent, host := { s.host with msixPend := t.host.msixPend } } ∧
      SameMem s t) := by
  obtain ⟨r, eq, -, -⟩ := scanFinds_eq z l s
  refine .of_next (exec_backgroundScan hz he hs hg hd true true) ?_
  rw [eq]
  have wrote := passEnded_wrote (setZmg r s)
  have events := passEnded_onlyEvents (setZmg r s)
  have regs := OnlyRegs.trans (.of_regs _ (setZmg_regs r s)) (passEnded_onlyRegs (setZmg r s))
  have distinct : (scanFields.map Fld.key).Nodup := by decide
  refine ⟨wrote.get_mem distinct (v := 0) (.head _), ?_, regs, events.of_setZmg, sameMem_setZmg events.sameMem⟩
  exact (wrote.get_mem distinct (.tail _ (.head _))).trans (by rw [get_regs _ (setZmg_regs r s)])

theorem backgroundScan_finds (b f : Bool) : Gives (.backgroundScan z l b f) s (fun t =>
    t.zmg.failed = s.zmg.failed ++ ((l.filter (fun r => scanned z r.1 s)).filter (fun r => r.2.1 == 2)).map (fun r => (z, r.1)) ∧
      t.zmg.rewrite = s.zmg.rewrite ++ ((l.filter (fun r => scanned z r.1 s)).filter
        (fun r => r.2.1 == 1 && decide (get Reg.ZMG_RECOV_CFG.RELOC_STEP s ≤ r.2.2.1))).map (fun r => ((z, r.1), r.2.2.2)) ∧
      (b = false → t.regs = s.regs ∧ t.sent = s.sent) ∧ OnlyRegs [Reg.ZMG_SCAN_STAT.ZONE, Reg.ZMG_SCAN_STAT.PASSES] s t ∧
      t = { s with regs := t.regs, zmg := t.zmg, sys := t.sys, evr := t.evr, sent := t.sent, host := { s.host with msixPend := t.host.msixPend } } ∧
      SameMem s t) := by
  obtain ⟨r, eq, failed, rewrite⟩ := scanFinds_eq z l s
  refine .of_next (exec_backgroundScan hz he hs hg hd b f) ?_
  rw [eq, ← failed, ← rewrite]
  have start : OnlyRegs scanFields s (setZmg r s) := .of_regs _ (setZmg_regs r s)
  cases b with
  | false => exact ⟨rfl, rfl, fun _ => ⟨rfl, rfl⟩, start, (OnlyEvents.refl _).of_setZmg, fun _ => rfl⟩
  | true =>
    cases f with
    | false =>
      have events : OnlyEvents (setZmg r s) (put Reg.ZMG_SCAN_STAT.ZONE (z + 1) (setZmg r s)) := (put_onlyRegisters ..).onlyEvents
      exact ⟨congrArg ZmgSt.failed events.zmg, congrArg ZmgSt.rewrite events.zmg, fun h => Bool.noConfusion h,
        OnlyRegs.trans start (put_onlyRegs (.head _) _ _), events.of_setZmg, sameMem_setZmg events.sameMem⟩
    | true =>
      have events := passEnded_onlyEvents (setZmg r s)
      exact ⟨congrArg ZmgSt.failed events.zmg, congrArg ZmgSt.rewrite events.zmg, fun h => Bool.noConfusion h,
        OnlyRegs.trans start (passEnded_onlyRegs _), events.of_setZmg, sameMem_setZmg events.sameMem⟩

end Scan

end Waits

end Sys2Proof.Machine

namespace Sys2Proof.Machine

open Sys2Proof

section Rewinds

variable {s t u : State}

/-! ### The media write pointers go back (R211, R214) -/

theorem relist_regs (l : List Written) (s : State) : (relist l s).regs = s.regs := by
  unfold relist
  induction l generalizing s with
  | nil => rfl
  | cons w l ih =>
    rw [List.foldl_cons, ih]
    dsimp only
    split <;> rfl

theorem countDirty_onlyBlocks (s : State) : OnlyBlocks [19] s (countDirty s) := (countDirty_onlyRegs s).onlyBlocks (by decide)

theorem rewind_onlyBlocks (n z p : Nat) (s : State) : OnlyBlocks [9, 19] s (rewind n z p s) := by
  unfold rewind
  dsimp only
  split
  · exact .of_regs _ rfl
  · have dirty (b : Bool) (l : List Written) : OnlyBlocks [9, 19] s (countDirty (relist l (if b then freed s else s))) := by
      have free : (if b then freed s else s).regs = s.regs := by split <;> rfl
      exact OnlyBlocks.trans (.of_regs _ ((relist_regs ..).trans free)) (OnlyBlocks.mono (countDirty_onlyBlocks _) (by decide))
    exact OnlyBlocks.trans (dirty _ _) (OnlyBlocks.trans (OnlyBlocks.mono (setZone_onlyBlocks _ _ _) (by decide)) (.of_regs _ (setHch_regs ..)))

/-- The pointer of a stream's zone goes back to the sector after the last verified one, where one fails. -/
def rewindStream (a : Nat) (l : List (List Decoded)) (s u : State) (n : Nat) : State :=
  match firstBad (unverified n a s) (l.getD n []) s with
  | none => u
  | some w => rewind n w.lz w.p u

/-- The state in which every stream's pointer has gone back. -/
def rewound (a : Nat) (l : List (List Decoded)) (s : State) : State := (List.range 5).foldl (rewindStream a l s) s

theorem rewindStream_onlyBlocks (a : Nat) (l : List (List Decoded)) (s u : State) (n : Nat) : OnlyBlocks [9, 19] u (rewindStream a l s u n) := by
  unfold rewindStream
  split
  · exact .of_regs _ rfl
  · exact rewind_onlyBlocks _ _ _ u

theorem rewindStreams_onlyBlocks (a : Nat) (l : List (List Decoded)) (s : State) (r : List Nat) (u : State) :
    OnlyBlocks [9, 19] u (r.foldl (rewindStream a l s) u) := by
  induction r generalizing u with
  | nil => exact .of_regs _ rfl
  | cons n r ih => exact OnlyBlocks.trans (rewindStream_onlyBlocks a l s u n) (ih _)

theorem lossRewriteRecovery_clause {l : List (List Decoded)} (ha : s.zmg.lossAt.isSome = true) (hl : get Reg.SPN_STAT.LOCK s = 2) :
    Gives (.lossRewriteRecovery l) s (fun t => t.zmg.lossAt = none ∧ OnlyBlocks [9, 19] s t) := by
  obtain ⟨a, ha⟩ := Option.isSome_iff_exists.1 ha
  have done : exec (.lossRewriteRecovery l) s = .next (setZmg { (rewound a l s).zmg with lossAt := none } (rewound a l s)) := by
    rw [show exec (.lossRewriteRecovery l) s = execLossRewriteRecovery l s from rfl, execLossRewriteRecovery, ha]
    exact occurs_of hl
  exact .of_next done ⟨by rw [setZmg_zmg], OnlyBlocks.trans (rewindStreams_onlyBlocks a l s _ s) (.of_regs _ (setZmg_regs ..))⟩

end Rewinds

section Recovery

variable {s t u : State}

/-! ### Write-pointer recovery (R215, R216) -/

/-- What follows the pointer's recovery: registers of SEAL and the command store alone change, memory and the tracks to be verified do not. -/
structure Follows (s t : State) : Prop where
  regs : OnlyBlocks [15, 19] s t
  mem : t.mem = s.mem
  ati : t.zmg.ati = s.zmg.ati

theorem Follows.refl (s : State) : Follows s s := ⟨.of_regs _ rfl, rfl, rfl⟩

theorem Follows.trans (h : Follows s t) (k : Follows t u) : Follows s u := ⟨h.regs.trans k.regs, k.mem.trans h.mem, k.ati.trans h.ati⟩

theorem addLost_follows (ns a n k : Nat) (s : State) : Follows s (addLost ns a n k s) := by
  obtain ⟨regs, ⟨l, events⟩, -, -⟩ := addLost_notesLoss ns a n k s
  exact ⟨OnlyBlocks.mono regs (by decide), events.mem, congrArg ZmgSt.ati events.zmg⟩

theorem raisePost_follows (n k : Nat) (l : List Nat) (s : State) : Follows s (raisePost n k l s) :=
  have events := raisePost_onlyEvents n k l s
  ⟨.of_regs _ (raisePost_regs ..), events.mem, congrArg ZmgSt.ati events.zmg⟩

theorem freeSealCtx_follows (z : Nat) (s : State) : Follows s (freeSealCtx z s) :=
  ⟨OnlyBlocks.mono (freeSealCtx_onlyBlocks z s) (by decide), freeSealCtx_mem z s, by rw [freeSealCtx_onlyRegisters z s]; rfl⟩

theorem setCtxOf_follows (z : Nat) (c : SealCtx) (s : State) : Follows s (setCtxOf z c s) := ⟨.of_regs _ (setCtxOf_regs ..), rfl, rfl⟩

theorem noteEligible_follows (z : Nat) (s : State) : Follows s (noteEligible z s) := by
  refine ⟨.of_regs _ (noteEligible_regs ..), ?_, ?_⟩ <;>
  · unfold noteEligible
    split <;> rfl

/-- The sector that the recovery of a zone's pointer comes to. -/
def recoveredWp (z : Nat) (l : List Decoded) (s : State) : Nat := scanWp (zoneOf z s).phys (zoneOf z s).stamp l (zoneOf z s).media

/-- The state in which the zone's descriptor has the recovered pointer p, and the accumulator of an open group is saved at q. -/
def pointerSet (z q p a : Nat) (d : Zone) (s : State) : State :=
  if p % 31 = 0 then setZone z d s else memPut q 4128 a (setZone z d s)

/-- The track behind the pointer is due to be verified toward its written neighbour. -/
def verifyDue (h u : Nat) (s : State) : State := setZmg { s.zmg with ati := s.zmg.ati ++ [(h, u, 0, 399)] } s

/-- What the host write pointer had above the recovered one is lost. -/
theorem loss_follows {c : Prop} [Decidable c] (ns a n : Nat) (s : State) : Follows s (if c then addLost ns a n 2 s else s) := by
  split
  · exact addLost_follows ..
  · exact .refl s

/-- The zone's hashing context is freed where it lost data, and is to be rebuilt where it did not. -/
def contextAfter (lost : Bool) (z : Nat) (s : State) : State :=
  if lost then raisePost 481 0 (bytesOf 3 z) (freeSealCtx z s)
  else match AMap.lookup z s.seals.ctxs with
    | some c => setCtxOf z { c with damaged := true } s
    | none => s

theorem contextAfter_follows (lost : Bool) (z : Nat) (s : State) : Follows s (contextAfter lost z s) := by
  unfold contextAfter
  split
  · exact (freeSealCtx_follows ..).trans (raisePost_follows ..)
  · split
    · exact setCtxOf_follows ..
    · exact .refl s

/-- A sealed zone lost data above the recovered pointer. -/
def sealedLoss (z : Nat) (l : List Decoded) (s : State) : Bool :=
  decide (recoveredWp z l s < (AMap.lookup z s.zmg.fullAt).getD (zoneOf z s).host) && nsType (zoneOf z s).ns s == 4 && !(zoneOf z s).sealed

/-- The zone's descriptor once its pointers are recovered. -/
def recoveredZone (z q : Nat) (l : List Decoded) (s : State) : Zone :=
  { zoneOf z s with
    media := recoveredWp z l s, host := if (zoneOf z s).state = 14 then (zoneOf z s).host else recoveredWp z l s, group := recoveredWp z l s % 31
    acc := if recoveredWp z l s % 31 = 0 then 0 else q, recov := false, state := if sealedLoss z l s then 13 else (zoneOf z s).state }

section Exec

variable {z q h k : Nat} {m l : List Decoded} (hr : (zoneOf z s).recov = true)
  (ho : (s.zmg.order.filter (fun k => (zoneOf k s).recov)).getLast? = some z) (hf : get Reg.SYS_MODE.MEDIA_FAULT s = 0)
  (hm : m.length = (zoneOf z s).media % 31)
include hr ho hf hm

theorem exec_wpRecovery : ∃ y,
    Follows (verifyDue h k (pointerSet z q (recoveredWp z l s) (groupAcc (zoneOf z s).media (recoveredWp z l s) m l) (recoveredZone z q l s) s)) y ∧
      exec (.wpRecovery z m l q h k) s = .next (showRecovering y) := by
  refine ⟨_, ?_, (show exec (.wpRecovery z m l q h k) s = execWpRecovery z m l q h k s from rfl).trans (occurs_of ⟨hr, ho, hf, hm⟩)⟩
  refine Follows.trans ?_ ((noteEligible_follows ..).trans (raisePost_follows ..))
  exact (loss_follows ..).trans (contextAfter_follows (sealedLoss z l s) z _)

end Exec

/-- What a recovered pointer leaves: the zone's descriptor is the recovered one, and the track behind the pointer is due. -/
structure PointerRecovered (z q h k : Nat) (l : List Decoded) (s t : State) : Prop where
  zone : zoneOf z t = (recoveredZone z q l s).stored
  ati : (h, k, 0, 399) ∈ t.zmg.ati
  regs : OnlyBlocks [9, 13, 15, 19] s t

theorem showRecovering_onlyRegisters (s : State) : OnlyRegisters s (showRecovering s) := put_onlyRegisters ..

theorem showRecovering_onlyRegs (s : State) : OnlyRegs [Reg.ZMG_STAT.RECOVERING] s (showRecovering s) := put_onlyRegs_self _ _ s

theorem showRecovering_mem (s : State) : (showRecovering s).mem = s.mem := (showRecovering_onlyRegisters s).mem

/-- The saved accumulator does not reach the zone's descriptor. -/
theorem zoneOf_pointerSet {z q p : Nat} (hq : p % 31 = 0 ∨ zoneAddr z s + 32 ≤ q ∨ q + 4128 ≤ zoneAddr z s) (a : Nat) (d : Zone) :
    zoneOf z (pointerSet z q p a d s) = d.stored := by
  unfold pointerSet
  split
  · exact zoneOf_setZone z d s
  next hg =>
    have addr : zoneAddr z (setZone z d s) = zoneAddr z s :=
      zoneAddr_congr z (setZone_onlyRegs z d s _ (by decide)) (setZone_onlyRegs z d s _ (by decide))
    refine (zoneOf_congr z (get_regs _ (memPut_regs ..)) (get_regs _ (memPut_regs ..)) fun b hb hb' => memByte_memPut_out _ _ ?_).trans (zoneOf_setZone z d s)
    rcases hq with h | h | h <;> omega

theorem pointerSet_onlyBlocks (z q p a : Nat) (d : Zone) (s : State) : OnlyBlocks [9] s (pointerSet z q p a d s) := by
  unfold pointerSet
  split
  · exact setZone_onlyBlocks z d s
  · exact OnlyBlocks.trans (setZone_onlyBlocks z d s) (.of_regs _ (memPut_regs ..))

theorem pointerRecovered_of_follows {z q h k a : Nat} {l : List Decoded} {y : State}
    (hq : recoveredWp z l s % 31 = 0 ∨ zoneAddr z s + 32 ≤ q ∨ q + 4128 ≤ zoneAddr z s)
    (hy : Follows (verifyDue h k (pointerSet z q (recoveredWp z l s) a (recoveredZone z q l s) s)) y) :
    PointerRecovered z q h k l s (showRecovering y) := by
  have zone := zoneOf_pointerSet hq a (recoveredZone z q l s)
  have blocks := pointerSet_onlyBlocks z q (recoveredWp z l s) a (recoveredZone z q l s) s
  generalize pointerSet z q (recoveredWp z l s) a (recoveredZone z q l s) s = v at zone blocks hy
  have shown := showRecovering_onlyRegs y
  have fields : OnlyBlocks [15, 19] v y := OnlyBlocks.trans (.of_regs _ (setZmg_regs ..)) hy.regs
  have mem : y.mem = v.mem := by rw [hy.mem, verifyDue, setZmg_mem]
  refine ⟨?_, ?_, ?_⟩
  · rw [zoneOf_of_mem z shown (showRecovering_mem y), ← zone]
    exact zoneOf_congr z (fields _ (by decide)) (fields _ (by decide)) (fun b _ _ => by rw [memByte, mem, memByte])
  · rw [(showRecovering_onlyRegisters y).onlyEvents.zmg, hy.ati, verifyDue, setZmg_zmg]
    simp
  · exact OnlyBlocks.trans (OnlyBlocks.mono blocks (by decide)) (OnlyBlocks.trans (OnlyBlocks.mono fields (by decide)) (shown.onlyBlocks (by decide)))

theorem PointerRecovered.recov {z q h k : Nat} {l : List Decoded} (r : PointerRecovered z q h k l s t) : (zoneOf z t).recov = false := by
  rw [r.zone, Zone.stored_recov]
  rfl

theorem PointerRecovered.media {z q h k : Nat} {l : List Decoded} (r : PointerRecovered z q h k l s t) :
    (zoneOf z t).media = scanWp (zoneOf z s).phys (zoneOf z s).stamp l (zoneOf z s).media % 2 ^ 32 := by
  rw [r.zone, Zone.stored_media]
  rfl

theorem PointerRecovered.group {z q h k : Nat} {l : List Decoded} (r : PointerRecovered z q h k l s t) :
    (zoneOf z t).group = scanWp (zoneOf z s).phys (zoneOf z s).stamp l (zoneOf z s).media % 31 := by
  rw [r.zone, Zone.stored_group]
  exact Nat.mod_eq_of_lt (show recoveredWp z l s % 31 < 32 by omega)

/-- Memory outside the descriptor and the saved accumulator is as before. -/
theorem memByte_of_follows {z q p a h k b : Nat} {d : Zone} {y : State} (hy : Follows (verifyDue h k (pointerSet z q p a d s)) y)
    (hz : ¬ (zoneAddr z s ≤ b ∧ b < zoneAddr z s + 32)) (hq : p % 31 = 0 ∨ ¬ (q ≤ b ∧ b < q + 4128)) :
    memByte b (showRecovering y) = memByte b s := by
  rw [memByte, showRecovering_mem, hy.mem, verifyDue, setZmg_mem, ← memByte, pointerSet]
  split
  · exact setZone_memOutside z d s b hz
  next hp => rw [memByte_memPut_out _ _ (hq.resolve_left hp), setZone_memOutside z d s b hz]

section Clauses

variable {z q h k : Nat} {m l : List Decoded} (hr : (zoneOf z s).recov = true)
  (ho : (s.zmg.order.filter (fun k => (zoneOf k s).recov)).getLast? = some z) (hf : get Reg.SYS_MODE.MEDIA_FAULT s = 0)
  (hm : m.length = (zoneOf z s).media % 31)
include hr ho hf hm

theorem wpRecovery_whole (hg : scanWp (zoneOf z s).phys (zoneOf z s).stamp l (zoneOf z s).media % 31 = 0) :
    Gives (.wpRecovery z m l q h k) s (fun t => (zoneOf z t).recov = false ∧
      (zoneOf z t).media = scanWp (zoneOf z s).phys (zoneOf z s).stamp l (zoneOf z s).media % 2 ^ 32 ∧ (h, k, 0, 399) ∈ t.zmg.ati ∧
      (zoneOf z t).group = scanWp (zoneOf z s).phys (zoneOf z s).stamp l (zoneOf z s).media % 31 ∧ MemOutside (zoneAddr z s) 32 s t ∧
      OnlyBlocks [9, 13, 15, 19] s t) := by
  obtain ⟨y, hy, done⟩ := exec_wpRecovery (q := q) (h := h) (k := k) (l := l) hr ho hf hm
  have recovered := pointerRecovered_of_follows (.inl hg) hy
  exact .of_next done ⟨recovered.recov, recovered.media, recovered.ati, recovered.group, fun b hb => memByte_of_follows hy hb (.inl hg), recovered.regs⟩

theorem wpRecovery_open (hq : zoneAddr z s + 32 ≤ q ∨ q + 4128 ≤ zoneAddr z s) :
    Gives (.wpRecovery z m l q h k) s (fun t => (zoneOf z t).recov = false ∧
      (zoneOf z t).media = scanWp (zoneOf z s).phys (zoneOf z s).stamp l (zoneOf z s).media % 2 ^ 32 ∧ (h, k, 0, 399) ∈ t.zmg.ati ∧
      MemOutsides [(zoneAddr z s, 32), (q, 4128)] s t ∧ OnlyBlocks [9, 13, 15, 19] s t) := by
  obtain ⟨y, hy, done⟩ := exec_wpRecovery (q := q) (h := h) (k := k) (l := l) hr ho hf hm
  have recovered := pointerRecovered_of_follows (.inr hq) hy
  refine .of_next done ⟨recovered.recov, recovered.media, recovered.ati, fun b hb => ?_, recovered.regs⟩
  simp only [List.any_cons, List.any_nil, Bool.or_false, Bool.or_eq_false_iff, Bool.and_eq_false_iff, decide_eq_false_iff_not] at hb
  exact memByte_of_follows hy (by omega) (.inr (by omega))

end Clauses

end Recovery

end Sys2Proof.Machine

namespace Sys2Proof.Machine

open Sys2Proof

section Checkpoints

variable {s t u : State}

/-! ### Checkpoints of the tables (R233) -/

theorem exec_zmgCheckpoint_start {m : Nat} {b : Bool} (hb : get Reg.ZMG_STAT.CKPT_BUSY s ≠ 1) (hz : zmgOn s = true)
    (hd : b = true ∨ ckptMin s ≤ m ∨ 75 < journalFill s ∨ get Reg.ZMG_JRNL.CKPT s = 1) :
    exec (.zmgCheckpoint m b) s = .next (puts [(Reg.ZMG_JRNL.CKPT, 0), (Reg.ZMG_STAT.CKPT_BUSY, 1)] s) := by
  rw [show exec (.zmgCheckpoint m b) s = execZmgCheckpoint m b s from rfl, execZmgCheckpoint, if_neg hb]
  by_cases due : zmgOn s = true ∧ (b = true ∨ ckptMin s ≤ m ∨ get Reg.ZMG_JRNL.CKPT s = 1)
  · rw [if_pos due]
  · rw [if_neg due]
    refine occurs_of ⟨hz, ?_⟩
    rcases hd with h | h | h | h
    · exact absurd ⟨hz, .inl h⟩ due
    · exact absurd ⟨hz, .inr (.inl h)⟩ due
    · exact h
    · exact absurd ⟨hz, .inr (.inr h)⟩ due

theorem zmgCheckpoint_starts {m : Nat} {b : Bool} (hb : get Reg.ZMG_STAT.CKPT_BUSY s ≠ 1) (hz : zmgOn s = true)
    (hd : b = true ∨ ckptMin s ≤ m ∨ 75 < journalFill s ∨ get Reg.ZMG_JRNL.CKPT s = 1) : Gives (.zmgCheckpoint m b) s (fun t =>
      get Reg.ZMG_JRNL.CKPT t = 0 ∧ get Reg.ZMG_STAT.CKPT_BUSY t = 1 ∧ OnlyRegs [Reg.ZMG_JRNL.CKPT, Reg.ZMG_STAT.CKPT_BUSY] s t ∧
      OnlyRegisters s t ∧ SameMem s t) := by
  have frame : OnlyRegisters s (puts [(Reg.ZMG_JRNL.CKPT, 0), (Reg.ZMG_STAT.CKPT_BUSY, 1)] s) := puts_onlyRegisters ..
  have wrote := (Wrote.nil s).puts [(Reg.ZMG_JRNL.CKPT, 0), (Reg.ZMG_STAT.CKPT_BUSY, 1)]
  have distinct : ([Reg.ZMG_JRNL.CKPT, Reg.ZMG_STAT.CKPT_BUSY].map Fld.key).Nodup := by decide
  exact .of_next (exec_zmgCheckpoint_start hb hz hd)
    ⟨wrote.get_mem distinct (v := 0) (.head _), wrote.get_mem distinct (v := 1) (.tail _ (.head _)), puts_onlyRegs s, frame, frame.sameMem⟩

/-- The zone manager's record once a checkpoint is written. -/
def checkpointed (r : ZmgSt) : ZmgSt := { r with saved := r.tail.foldl applyChange r.saved, tail := [], tailSaved := [], journaled := 0 }

theorem zmgCheckpoint_ends {m : Nat} {b : Bool} (hb : get Reg.ZMG_STAT.CKPT_BUSY s = 1) : Gives (.zmgCheckpoint m b) s (fun t =>
      get Reg.ZMG_STAT.CKPT_BUSY t = 0 ∧ t.zmg.tail = [] ∧ t.zmg.saved = s.zmg.tail.foldl applyChange s.zmg.saved ∧ journalFill t = 0 ∧
      OnlyRegs [Reg.ZMG_STAT.CKPT_BUSY] s t ∧ t = { s with regs := t.regs, zmg := t.zmg } ∧ SameMem s t) := by
  have done : exec (.zmgCheckpoint m b) s = .next (put Reg.ZMG_STAT.CKPT_BUSY 0 (setZmg (checkpointed s.zmg) s)) :=
    (show exec (.zmgCheckpoint m b) s = execZmgCheckpoint m b s from rfl).trans (if_pos hb)
  have frame : OnlyRegisters (setZmg (checkpointed s.zmg) s) (put Reg.ZMG_STAT.CKPT_BUSY 0 (setZmg (checkpointed s.zmg) s)) := put_onlyRegisters ..
  have zmg : (put Reg.ZMG_STAT.CKPT_BUSY 0 (setZmg (checkpointed s.zmg) s)).zmg = checkpointed s.zmg := frame.onlyEvents.zmg
  refine .of_next done ⟨get_put_self _ 0 _, ?_, ?_, ?_, OnlyRegs.trans (.of_regs _ (setZmg_regs ..)) (put_onlyRegs_self _ _ _), frame.of_setZmg,
    sameMem_setZmg frame.sameMem⟩
  · rw [zmg, checkpointed]
  · rw [zmg, checkpointed]
  · rw [journalFill, zmg, checkpointed, Nat.zero_mul, Nat.zero_div, Nat.min_zero]

/-! ### Tables that are rebuilt (R234) -/

theorem tableRebuild_begins {k : Nat} {b : Bool} (hk : k < 5) (hr : s.zmg.rebuilding = none) : Gives (.tableRebuild k b) s (fun t =>
      t.zmg.rebuilding = some k ∧ get Reg.ZMG_STAT.REBUILDING t = 1 ∧ OnlyRegs [Reg.ZMG_STAT.REBUILDING] s t ∧
      t = { s with regs := t.regs, zmg := t.zmg } ∧ SameMem s t) := by
  have done : exec (.tableRebuild k b) s = .next (put Reg.ZMG_STAT.REBUILDING 1 (setZmg { s.zmg with rebuilding := some k } s)) := by
    rw [show exec (.tableRebuild k b) s = execTableRebuild k b s from rfl, execTableRebuild]
    dsimp only
    rw [unit_of_lt hk, hr]
    rfl
  have frame : OnlyRegisters (setZmg { s.zmg with rebuilding := some k } s) (put Reg.ZMG_STAT.REBUILDING 1 (setZmg { s.zmg with rebuilding := some k } s)) :=
    put_onlyRegisters ..
  refine .of_next done ⟨?_, get_put_self _ 1 _, OnlyRegs.trans (.of_regs _ (setZmg_regs ..)) (put_onlyRegs_self _ _ _), frame.of_setZmg,
    sameMem_setZmg frame.sameMem⟩
  rw [frame.onlyEvents.zmg, setZmg_zmg]

/-- The state in which no rebuild runs any more. -/
def rebuildEnded (s : State) : State := put Reg.ZMG_STAT.REBUILDING 0 (setZmg { s.zmg with rebuilding := none } s)

theorem rebuildEnded_onlyRegisters (s : State) : OnlyRegisters (setZmg { s.zmg with rebuilding := none } s) (rebuildEnded s) := put_onlyRegisters ..

theorem rebuildEnded_onlyRegs (s : State) : OnlyRegs [Reg.ZMG_STAT.REBUILDING] s (rebuildEnded s) :=
  OnlyRegs.trans (.of_regs _ (setZmg_regs ..)) (put_onlyRegs_self _ _ _)

theorem rebuildEnded_zmg (s : State) : (rebuildEnded s).zmg = { s.zmg with rebuilding := none } := (rebuildEnded_onlyRegisters s).onlyEvents.zmg

theorem rebuilding_rebuildEnded (s : State) : get Reg.ZMG_STAT.REBUILDING (rebuildEnded s) = 0 := get_put_self _ 0 _

theorem exec_tableRebuild_end {k : Nat} (b : Bool) (hk : k < 5) (hr : s.zmg.rebuilding = some k) : exec (.tableRebuild k b) s = .next
    (if b then rebuildEnded (if k ≤ 1 then rebuildZones s else rebuildOther k s)
     else raisePost 290 0 [k] ((tableUsers k s).foldl readOnlyNs (rebuildEnded s))) := by
  rw [show exec (.tableRebuild k b) s = execTableRebuild k b s from rfl, execTableRebuild]
  dsimp only
  rw [unit_of_lt hk, hr]
  exact occurs_of rfl

/-! ### A table that cannot be rebuilt -/

/-- A zone of a read-only namespace goes Read Only. -/
def readOnlyZone (s : State) (z : Nat) : State := if isShingled (zoneOf z s) then setZone z { zoneOf z s with state := 13 } s else s

theorem readOnlyZone_onlyRegs (s : State) (z : Nat) : OnlyRegs openFields s (readOnlyZone s z) := by
  unfold readOnlyZone
  split
  · exact setZone_onlyRegs _ _ s
  · exact .of_regs _ rfl

theorem OnlyZoned.rebuilding (h : OnlyZoned s t) : t.zmg.rebuilding = s.zmg.rebuilding := by rw [h]

theorem readOnlyZone_rebuilding (s : State) (z : Nat) : (readOnlyZone s z).zmg.rebuilding = s.zmg.rebuilding := by
  unfold readOnlyZone
  split
  · exact (setZone_onlyZoned ..).rebuilding
  · rfl

theorem readOnlyZones_onlyRegs (l : List Nat) (s : State) : OnlyRegs openFields s (l.foldl readOnlyZone s) := by
  induction l generalizing s with
  | nil => exact .of_regs _ rfl
  | cons z l ih => exact OnlyRegs.trans (readOnlyZone_onlyRegs s z) (ih _)

theorem readOnlyZones_rebuilding (l : List Nat) (s : State) : (l.foldl readOnlyZone s).zmg.rebuilding = s.zmg.rebuilding := by
  induction l generalizing s with
  | nil => rfl
  | cons z l ih => rw [List.foldl_cons, ih, readOnlyZone_rebuilding]

theorem readOnlyNs_eq (s : State) (n : Nat) : ∃ l : List Nat, readOnlyNs s n = l.foldl readOnlyZone (put (Reg.ZMG_NS_CFG.RO n) 1 s) := ⟨_, rfl⟩

/-- The fields that a namespace's becoming read-only changes. -/
def roFields (n : Nat) : List Fld := Reg.ZMG_NS_CFG.RO n :: openFields

theorem readOnlyNs_onlyRegs (s : State) (n : Nat) : OnlyRegs (roFields n) s (readOnlyNs s n) := by
  obtain ⟨l, eq⟩ := readOnlyNs_eq s n
  rw [eq]
  exact OnlyRegs.append (put_onlyRegs_self (Reg.ZMG_NS_CFG.RO n) 1 s) (readOnlyZones_onlyRegs l _)

theorem readOnlyNs_rebuilding (s : State) (n : Nat) : (readOnlyNs s n).zmg.rebuilding = s.zmg.rebuilding := by
  obtain ⟨l, eq⟩ := readOnlyNs_eq s n
  rw [eq, readOnlyZones_rebuilding, put_onlyRegisters]

/-- No namespace's read-only bit is among the counts of zones. -/
theorem ro_not_mem_openFields {n : Nat} (hn : n < 64) : (Reg.ZMG_NS_CFG.RO n).key ∉ openFields.map Fld.key := by
  revert n
  decide

theorem ro_self {n : Nat} (hn : n < 64) (s : State) : get (Reg.ZMG_NS_CFG.RO n) (readOnlyNs s n) = 1 := by
  obtain ⟨l, eq⟩ := readOnlyNs_eq s n
  rw [eq, readOnlyZones_onlyRegs l _ _ (ro_not_mem_openFields hn)]
  exact get_put_self _ 1 s

theorem ro_key_ne {n m : Nat} (h : n ≠ m) : (Reg.ZMG_NS_CFG.RO n).key ≠ (Reg.ZMG_NS_CFG.RO m).key := by
  simp only [Fld.key, Reg.ZMG_NS_CFG.RO]
  omega

/-- A namespace that is read-only stays so. -/
theorem ro_kept {n m : Nat} (hn : n < 64) (h : get (Reg.ZMG_NS_CFG.RO n) s = 1) : get (Reg.ZMG_NS_CFG.RO n) (readOnlyNs s m) = 1 := by
  by_cases hm : n = m
  · exact hm ▸ ro_self hn s
  · obtain ⟨l, eq⟩ := readOnlyNs_eq s m
    rw [eq, readOnlyZones_onlyRegs l _ _ (ro_not_mem_openFields hn), get_put_ne (ro_key_ne hm), h]

theorem ro_readOnlys {n : Nat} (hn : n < 64) (l : List Nat) (s : State) (h : n ∈ l ∨ get (Reg.ZMG_NS_CFG.RO n) s = 1) :
    get (Reg.ZMG_NS_CFG.RO n) (l.foldl readOnlyNs s) = 1 := by
  induction l generalizing s with
  | nil => exact h.resolve_left List.not_mem_nil
  | cons m l ih =>
    refine ih _ ?_
    rcases h with h | h
    · rcases List.mem_cons.1 h with rfl | h
      · exact .inr (ro_self hn s)
      · exact .inl h
    · exact .inr (ro_kept hn h)

theorem rebuilding_not_mem_roFields {n : Nat} (hn : n < 64) : Reg.ZMG_STAT.REBUILDING.key ∉ (roFields n).map Fld.key := by
  revert n
  decide

theorem roFields_block {n : Nat} (hn : n < 64) : ∀ k ∈ (roFields n).map Fld.key, regBlock (k / 32) ∈ [9] := by
  revert n
  decide

/-- Namespaces that become read-only change the zone manager's registers, and no rebuild's state. -/
structure OnlyReadOnly (s t : State) : Prop where
  rebuilding : t.zmg.rebuilding = s.zmg.rebuilding
  flag : get Reg.ZMG_STAT.REBUILDING t = get Reg.ZMG_STAT.REBUILDING s
  regs : OnlyBlocks [9] s t

theorem readOnlys_onlyReadOnly {l : List Nat} (hl : ∀ n ∈ l, n < 64) (s : State) : OnlyReadOnly s (l.foldl readOnlyNs s) := by
  induction l generalizing s with
  | nil => exact ⟨rfl, rfl, .of_regs _ rfl⟩
  | cons n l ih =>
    have hn := hl n List.mem_cons_self
    have one := readOnlyNs_onlyRegs s n
    obtain ⟨rebuilding, flag, regs⟩ := ih (fun m hm => hl m (List.mem_cons_of_mem n hm)) (readOnlyNs s n)
    exact ⟨rebuilding.trans (readOnlyNs_rebuilding s n), flag.trans (one _ (rebuilding_not_mem_roFields hn)),
      OnlyBlocks.trans (one.onlyBlocks (roFields_block hn)) regs⟩

theorem tableUsers_lt {k n : Nat} (h : n ∈ tableUsers k s) : n < 64 := List.mem_range.1 (List.mem_filter.1 h).1

theorem tableRebuild_fails {k : Nat} (hk : k < 5) (hr : s.zmg.rebuilding = some k) : Gives (.tableRebuild k false) s (fun t =>
      t.zmg.rebuilding = none ∧ get Reg.ZMG_STAT.REBUILDING t = 0 ∧
      (List.range 64).all (fun n => !(tableUsers k s).contains n || get (Reg.ZMG_NS_CFG.RO n) t == 1) = true ∧ OnlyBlocks [9] s t) := by
  refine .of_next (exec_tableRebuild_end false hk hr) ?_
  have protect := fun (n : Nat) (hn : n < 64) (h : n ∈ tableUsers k s) => ro_readOnlys hn (tableUsers k s) (rebuildEnded s) (.inl h)
  obtain ⟨rebuilding, flag, regs⟩ := readOnlys_onlyReadOnly (fun n hn => tableUsers_lt hn) (rebuildEnded s) (l := tableUsers k s)
  generalize (tableUsers k s).foldl readOnlyNs (rebuildEnded s) = v at protect rebuilding flag regs
  have told := raisePost_regs 290 0 [k] v
  refine ⟨?_, ?_, List.all_eq_true.2 fun n hn => ?_, ?_⟩
  · exact (congrArg ZmgSt.rebuilding (raisePost_onlyEvents ..).zmg).trans (rebuilding.trans (by rw [rebuildEnded_zmg]))
  · exact (get_regs _ told).trans (flag.trans (rebuilding_rebuildEnded s))
  · by_cases h : n ∈ tableUsers k s
    · have ro := (get_regs (Reg.ZMG_NS_CFG.RO n) told).trans (protect n (List.mem_range.1 hn) h)
      exact Bool.or_eq_true_iff.2 (.inr (beq_iff_eq.2 ro))
    · simp [h]
  · exact OnlyBlocks.trans (OnlyBlocks.trans ((rebuildEnded_onlyRegs s).onlyBlocks (by decide)) regs) (.of_regs _ told)

/-! ### A table that is rebuilt -/

/-- Nothing has changed but memory. -/
theorem rebuildZones_eq (s : State) : ∃ m, rebuildZones s = { s with mem := m } := by
  unfold rebuildZones
  induction (flushJournal s).zmg.saved.zones generalizing s with
  | nil => exact ⟨s.mem, rfl⟩
  | cons q l ih =>
    obtain ⟨m, hm⟩ := ih (memPut (zoneAddr q.1 s) 32 q.2 s)
    exact ⟨m, hm⟩

/-- What the checkpoint and the journal give a table. -/
structure Rebuilt (k : Nat) (s t : State) : Prop where
  kept : k ≤ 1 → t.zmg.remaps = s.zmg.remaps ∧ t.zmg.pend = s.zmg.pend
  index : k = 2 → t.zmg.mc = (flushJournal s).zmg.saved.mc
  remaps : k = 3 → t.zmg.remaps = (flushJournal s).zmg.saved.remaps
  pend : k = 4 → t.zmg.pend = (flushJournal s).zmg.saved.pend
  mem : 2 ≤ k → t.mem = s.mem
  regs : OnlyRegs [Reg.ZMG_DM_STAT.FILL, Reg.ZMG_DM_STAT.NS, Reg.ZMG_PEND.COUNT] s t
  frame : t = { s with regs := t.regs, zmg := t.zmg, mem := t.mem }

theorem Rebuilt.zones {k : Nat} (hk : k ≤ 1) (s : State) : Rebuilt k s (rebuildZones s) := by
  obtain ⟨m, eq⟩ := rebuildZones_eq s
  rw [eq]
  exact ⟨fun _ => ⟨rfl, rfl⟩, fun h => by omega, fun h => by omega, fun h => by omega, fun h => by omega, .of_regs _ rfl, rfl⟩

theorem Rebuilt.index_table (s : State) : Rebuilt 2 s (rebuildOther 2 s) := by
  obtain ⟨r, eq, mc⟩ : ∃ r, rebuildOther 2 s = showFill (setZmg r s) ∧ r.mc = (flushJournal s).zmg.saved.mc := ⟨_, rfl, rfl⟩
  have shown : OnlyRegisters (setZmg r s) (showFill (setZmg r s)) := puts_onlyRegisters ..
  have regs : OnlyRegs [Reg.ZMG_DM_STAT.FILL, Reg.ZMG_DM_STAT.NS] s (showFill (setZmg r s)) :=
    OnlyRegs.trans (.of_regs _ (setZmg_regs r s)) (puts_onlyRegs (setZmg r s))
  rw [eq]
  refine ⟨fun h => by omega, fun _ => ?_, fun h => by omega, fun h => by omega, fun _ => shown.mem, OnlyRegs.mono regs (by decide), ?_⟩
  · rw [shown.onlyEvents.zmg, setZmg_zmg, mc]
  · rw [shown]
    rfl

theorem Rebuilt.remap_table (s : State) : Rebuilt 3 s (rebuildOther 3 s) :=
  ⟨fun h => by omega, fun h => by omega, fun _ => rfl, fun h => by omega, fun _ => rfl, .of_regs _ rfl, rfl⟩

theorem Rebuilt.pend_table (s : State) : Rebuilt 4 s (rebuildOther 4 s) := by
  obtain ⟨n, eq⟩ : ∃ n, rebuildOther 4 s = put Reg.ZMG_PEND.COUNT n (setZmg { s.zmg with pend := (flushJournal s).zmg.saved.pend } s) := ⟨_, rfl⟩
  have shown : OnlyRegisters _ (rebuildOther 4 s) := eq ▸ put_onlyRegisters ..
  have regs : OnlyRegs [Reg.ZMG_PEND.COUNT] s (rebuildOther 4 s) := by
    rw [eq]
    exact OnlyRegs.trans (.of_regs _ (setZmg_regs ..)) (put_onlyRegs_self _ _ _)
  refine ⟨fun h => by omega, fun h => by omega, fun h => by omega, fun _ => ?_, fun _ => shown.mem, OnlyRegs.mono regs (by decide), ?_⟩
  · rw [shown.onlyEvents.zmg, setZmg_zmg]
  · rw [shown]
    rfl

theorem rebuilt {k : Nat} (hk : k < 5) (s : State) : Rebuilt k s (if k ≤ 1 then rebuildZones s else rebuildOther k s) := by
  split
  next h => exact .zones h s
  next h =>
    obtain rfl | rfl | rfl : k = 2 ∨ k = 3 ∨ k = 4 := by omega
    · exact .index_table s
    · exact .remap_table s
    · exact .pend_table s

theorem tableRebuild_succeeds {k : Nat} (hk : k < 5) (hr : s.zmg.rebuilding = some k) : Gives (.tableRebuild k true) s (fun t =>
      t.zmg.rebuilding = none ∧ get Reg.ZMG_STAT.REBUILDING t = 0 ∧
      (k ≤ 1 → t.zmg.remaps = s.zmg.remaps ∧ t.zmg.pend = s.zmg.pend) ∧ (k = 2 → t.zmg.mc = (flushJournal s).zmg.saved.mc) ∧
      (k = 3 → t.zmg.remaps = (flushJournal s).zmg.saved.remaps) ∧ (k = 4 → t.zmg.pend = (flushJournal s).zmg.saved.pend) ∧
      (2 ≤ k → t.mem = s.mem) ∧
      OnlyRegs [Reg.ZMG_STAT.REBUILDING, Reg.ZMG_DM_STAT.FILL, Reg.ZMG_DM_STAT.NS, Reg.ZMG_PEND.COUNT] s t ∧
      t = { s with regs := t.regs, zmg := t.zmg, mem := t.mem }) := by
  obtain ⟨kept, index, remaps, pend, mem, regs, frame⟩ := rebuilt hk s
  refine .of_next (exec_tableRebuild_end true hk hr) ?_
  rw [if_pos rfl]
  generalize (if k ≤ 1 then rebuildZones s else rebuildOther k s) = v at kept index remaps pend mem regs frame
  have zmg := rebuildEnded_zmg v
  have ended := rebuildEnded_onlyRegisters v
  refine ⟨by rw [zmg], rebuilding_rebuildEnded v, fun h => ?_, fun h => ?_, fun h => ?_, fun h => ?_, fun h => ?_, ?_, ?_⟩
  · rw [zmg]
    exact kept h
  · rw [zmg]
    exact index h
  · rw [zmg]
    exact remaps h
  · rw [zmg]
    exact pend h
  · rw [ended.mem, setZmg_mem, mem h]
  · exact OnlyRegs.mono (OnlyRegs.append regs (rebuildEnded_onlyRegs v)) (by decide)
  · rw [ended, setZmg, frame]

end Checkpoints

end Sys2Proof.Machine

namespace Sys2Proof.Machine

open Sys2Proof

/-- Settles O36: each operation's frame is proved once, and a descriptor that is written reads back as its 32 bytes hold it. -/
theorem defectsRecoveryAndTables : Obligations.DefectsRecoveryAndTables := by
  unfold Obligations.DefectsRecoveryAndTables
  refine ⟨?_, ?_, ?_, ?_, ?_, ?_, ?_, ?_, ?_, ?_, ?_, ?_, ?_, ?_, ?_, ?_, ?_, ?_, ?_, ?_, ?_⟩
  · intro n z i y j v o s hn hw hz hr hm hs hc
    exact defectRemap_remaps hn hw hz hr hm hs hc
  · intro n z i y j v o s hn hw hz hr hm hs hc ha
    exact defectRemap_rewrites hn hw hz hr hm hs hc ha
  · intro z q d s hc hf hz hq
    exact relocation_starts hc hf hz hq fun _ => rfl
  · intro z q p d s hc hz
    exact relocation_ends hc hz
  · intro z q d s hf hc
    exact relocation_fails hf hc
  · intro n z p i r o d w s hn hw hf hr hd
    exact .of_next (exec_deepRecovery_some hn hw hf hr hd) (sectorFound_clause z p i s)
  · intro n z p r o d w s hn hw hf hr hd hl
    obtain ⟨listed, rest⟩ := sectorLost_clause z p s
    exact .of_next (exec_deepRecovery_none hn hw hf hr hd) ⟨listed hl, rest⟩
  · intro n z p r o d w s hn hw hf hr
    cases hd : deepResult z p w.1 (o, d) (copyData z p s) s with
    | some i =>
      obtain ⟨-, taken, -, regs⟩ := sectorFound_clause z p i s
      exact .of_next (exec_deepRecovery_some hn hw hf hr hd) ⟨taken, regs⟩
    | none =>
      obtain ⟨-, taken, -, regs⟩ := sectorLost_clause z p s
      exact .of_next (exec_deepRecovery_none hn hw hf hr hd) ⟨taken, regs⟩
  · intro n c m a k s hc hs ht ho hw hm
    have runs : Runs n c s := ⟨hc, hs, by rw [ht, Bool.and_false]⟩
    exact (runs.hostReadRecoveryTimeout ho hw hm).imp fun t h => h.clause (stamp_of_ctxOf hc)
  · intro l s h
    exact atiVerify_clause h
  · rintro z l b f s rfl rfl hz he hs hg hd
    exact backgroundScan_next hz he hs hg hd
  · rintro z l b f s rfl rfl hz he hs hg hd
    exact backgroundScan_last hz he hs hg hd
  · intro z l b f s hz he hs hg hd
    exact backgroundScan_finds hz he hs hg hd b f
  · intro l s ha hl
    exact lossRewriteRecovery_clause ha hl
  · intro z q h u m l s hr ho hf hm hg _
    exact wpRecovery_whole hr ho hf hm hg
  · intro z q h u m l s hr ho hf hm _ hq
    exact wpRecovery_open hr ho hf hm hq
  · intro m b s hb hz hd
    exact zmgCheckpoint_starts hb hz hd
  · intro m b s hb
    exact zmgCheckpoint_ends hb
  · intro k b s hk hr
    exact tableRebuild_begins hk hr
  · rintro k b s hk hr rfl
    exact tableRebuild_fails hk hr
  · rintro k b s hk hr rfl
    exact tableRebuild_succeeds hk hr

end Sys2Proof.Machine
